-- ==== Sys2Proof/Word.lean ====
section
/-! DEFINITION. The word and byte types every file uses (R11: registers are 32 bits, little-endian). -/

namespace Sys2Proof

/-- A 32-bit register word (R11). -/
abbrev Word := BitVec 32

/-- One byte of a frame, record or descriptor (R17). -/
abbrev Byte := BitVec 8

/-- A byte offset in BAR0: 4 MiB (R431). -/
abbrev Addr := BitVec 22

end Sys2Proof
end

