-- ==== Sys2Proof/Syntax.lean ====
section
/-! DEFINITION. The commands of the block: one constructor of Instr per row of spec/opcode_table.json, with the
operands the outside supplies. Structures here are the operands that carry more than one value. -/

namespace Sys2Proof

/-- A channel's values at a latch (R213). -/
structure ChanMeas where
  chan : Nat
  cn0 : BitVec 16
  pr : BitVec 64
  cp : BitVec 64
  dop : BitVec 32
  codePh : BitVec 32
  deriving DecidableEq, Repr

/-- What the environment supplies to one tick (R26): the hardware faults of its P1 and P2, the measured occupancies
(R35), the work P1 and P2 did not reach (R33), and the filtered inputs latched in P0. -/
structure TickIn where
  /-- Residue mismatches of evaluations in P2: context and stage 1 to 8 (R52). -/
  loopMis : List (Nat × Nat) := []
  /-- Residue mismatches of generator steps in P1 (R89). -/
  profMis : List Nat := []
  /-- Uncorrectable curve words read in P2: context, curve and breakpoint (R76). -/
  curveBad : List (Nat × Nat × Nat) := []
  /-- Curve words corrected in this tick (R76). -/
  curveCorr : Nat := 0
  /-- Context store words corrected in this tick: context and word offset (R76). -/
  storeCorr : List (Nat × Nat) := []
  /-- Contexts that P2 did not reach (R75). -/
  loopMissed : List Nat := []
  /-- Generators that P1 did not reach (R84). -/
  profMissed : List Nat := []
  /-- Measured occupancy of P1 and of P2, in CTLCLK cycles (R35). -/
  p1 : Nat := 0
  p2 : Nat := 0
  /-- ALLOC residue mismatch found in this tick: 1 demand, 2 bounds, 3 mapping (R144). -/
  allocMis : Option Nat := none
  /-- Best and second-best integer candidates of the ambiguity search on the final slice's factors (R120, R178). -/
  amb : Option (List Int × List Int) := none
  /-- Free values that the estimator has no formula for: entries of the prior's square-root information, by row and column
  (R111), and standard deviations of innovations (R118, R129), 1 where none is given: of reference 0 to 6, and of channel k's
  pseudorange and range-rate rows under 16 + 2k and 17 + 2k (log entry 98). -/
  info : List (Nat × Nat × Rat) := []
  innovSd : List (Nat × Rat) := []
  /-- A critical error found in the tick (R457, R474): SRC - 1 (0 Heartwood, 1 context store, 2 configuration flops)
  and ADDR. -/
  critical : Option (Fin 3 × BitVec 16) := none
  /-- Events that merged at crossings since the last tick (R40). -/
  merges : Nat := 0
  /-- The channels' values at a mid latch in this tick (R211). -/
  meas : List ChanMeas := []
  deriving DecidableEq, Repr

/-- A satellite in a weighted least-squares solution (R214): constellation (0 GPS, 1 Galileo, 2 BeiDou), SVID, weight and
residual. -/
structure FixSat where
  sys : Fin 3
  svid : Nat
  weight : Rat
  residual : Rat
  deriving DecidableEq, Repr

/-- A weighted least-squares solution (R214). -/
structure FixSol where
  sats : List FixSat
  pdop : Rat
  hdop : Rat
  vdop : Rat
  /-- Position in 10^-7 degree, velocity north and east in m/s. -/
  lat : Int
  lon : Int
  velN : Rat := 0
  velE : Rat := 0
  /-- Clock bias in ns (local time minus solved TAI), drift in 10^-12, time uncertainty in ns. -/
  bias : Int
  drift : Int
  tunc : Nat
  deriving DecidableEq, Repr

/-- What the solution engine solves at an epoch: the solution over every eligible satellite, and the solution once the one
satellite that broke the residual test has been removed (R214). -/
structure FixIn where
  first : FixSol
  second : Option FixSol := none
  deriving DecidableEq, Repr

/-- A satellite's elevation in degrees (R208), and what broadcast data and the epoch give the estimator of it: position and
velocity north, east and up in the local tangent plane, clock and clock drift in metres, the tropospheric delay of the fixed
model, and the weights of its pseudorange, range-rate and carrier-phase rows (R111, R117, R213; log entry 98). -/
structure SkySat where
  sys : Fin 3
  svid : Nat
  elev : Rat
  pos : Rat × Rat × Rat := (0, 0, 0)
  vel : Rat × Rat × Rat := (0, 0, 0)
  clk : Rat := 0
  drift : Rat := 0
  tropo : Rat := 0
  wRange : Rat := 0
  wRate : Rat := 0
  wPhase : Rat := 0
  deriving DecidableEq, Repr

/-- What the environment supplies to a cycle boundary: the fix of an epoch that falls on it, the channels' values at
the latch, and the satellites whose elevation has changed (R208, R211, R214). -/
structure BoundaryIn where
  fix : Option FixIn := none
  meas : List ChanMeas := []
  sky : List SkySat := []
  /-- AGC gains that have changed: input and dB above minimum (R225). -/
  gains : List (Fin 4 × Byte) := []

  /-- Lane-memory words corrected at the boundary: lane and address (R195). -/
  laneCorr : List (Nat × Nat) := []
  deriving DecidableEq, Repr

/-- Which slot overran (R33), with what the state does not hold. -/
inductive OverrunWork where
  | profile (first count : Nat)
  | loop (first count : Nat)
  | estimator
  | bundle
  | intact
  | consequence (first count : Nat)
  deriving DecidableEq, Repr

/-- A Grove entry of 8 bytes (R176). -/
structure GroveEntryIn where
  region : BitVec 4
  sel : BitVec 4
  row : BitVec 8
  col : BitVec 8
  exp : BitVec 8
  mant : BitVec 32
  deriving DecidableEq, Repr

/-- A result value: exponent and mantissa (R200). -/
structure GVal where
  exp : BitVec 8
  mant : BitVec 32
  deriving DecidableEq, Repr

/-- What a lane publishes (R187): the values of its solution, which the spec's rounding rules do not fix. -/
structure SolveOut where
  cycles : Nat
  iter : Nat
  x : List GVal
  bmul : List GVal
  rmul : List GVal
  /-- Active set: variable k for its bound, n + i for row i. -/
  active : List Nat
  /-- Pivots of the factorisation, in order, and its triangular factor by rows (R178, R185, R187). -/
  pivots : List GVal := []
  fac : List GVal := []
  /-- Residual norm of a QR, and the LDLᵀ factors of the covariance block that AMB asks for: the n(n + 1)/2 values of the
  lower triangle by rows, D in its diagonal (R178, R187). -/
  norm : GVal := { exp := 0, mant := 0 }
  ldl : List GVal := []
  /-- Lane-memory words corrected while it ran (R195). -/
  corr : List Nat := []
  deriving DecidableEq, Repr

/-- A received sentence: the characters between the dollar sign and the asterisk, and the checksum that follows (R122). -/
structure SentenceIn where
  chars : List Byte
  sum : Byte
  /-- Local time in ns at which its last character completed (R114). -/
  arrivalNs : Nat
  deriving DecidableEq, Repr

/-- A CAN frame (R262): identifier layout as CAN_TB2_ID, data length code, ESI and data bytes. -/
structure CanFrame where
  id : BitVec 29
  ide : Bool
  fdf : Bool
  brs : Bool
  esi : Bool
  dlc : BitVec 4
  data : List Byte
  deriving DecidableEq, Repr

/-- A detected bus error (R267): the counter rule of ISO 11898-1 that applies. -/
inductive CanErrKind where
  | transmit
  | receive
  | receiveDominant
  | transmitUncounted
  deriving DecidableEq, Repr

/-- A frame on a ring port (R283, R285): its MAC addresses with the first byte most significant, HSR or PRP sequence
number, EtherType, tag, length in bytes, FCS, LAN identifier of a PRP trailer, UDP port, group and whether it is a fragment
of an IP datagram, payload. -/
structure NetFrame where
  dst : BitVec 48
  src : BitVec 48
  seq : BitVec 16
  etype : BitVec 16
  pcp : BitVec 3
  tagged : Bool
  len : Nat
  fcsOk : Bool
  lanB : Bool
  udpPort : Nat
  dstIp : Word
  frag : Bool := false
  payload : List Byte
  deriving DecidableEq, Repr

/-- A Sync as received (R295): origin and local receive stamp in ns, correctionField in 2^-16 ns. -/
structure SyncIn where
  domain : Byte
  gm : BitVec 64
  origin : Int
  correction : Int
  receive : Int
  deriving DecidableEq, Repr

/-- An Announce as received (R294). -/
structure AnnounceIn where
  domain : Byte
  prio1 : Byte
  cls : Byte
  acc : Byte
  variance : BitVec 16
  prio2 : Byte
  gm : BitVec 64
  deriving DecidableEq, Repr

/-- A peer delay message (R297): a request to answer, or a response with the measured mean delay. -/
inductive PdelayIn where
  | request (domain : Byte)
  | response (domain : Byte) (meanNs : Nat)
  deriving DecidableEq, Repr

/-- One scan's readings of Canopy (R337, R350): readbacks of SO0 to SO11, permits, and the outcome of the checks. -/
structure ScanIn where
  rb : BitVec 12
  flowOk : Bool := true
  memOk : Bool := true
  memCorr : Nat := 0
  parityOk : Bool := true
  /-- Word of a parity error (R474). -/
  parityAddr : BitVec 16 := 0
  /-- SAFE_RESET_N is low, at a scan end on which Canopy's sample of 1 ms falls (R357). -/
  resetLow : Option Bool := none
  deriving DecidableEq, Repr

/-- Readings of the straps at a release (R468, R469): 16 samples agreeing or not, and the eight converter readings. -/
structure StrapIn where
  bootsel : BitVec 2
  bootAgree : Bool
  clkmode : BitVec 2
  clkAgree : Bool
  roleQ : List Nat
  unitQ : List Nat
  deriving DecidableEq, Repr

/-- Contents of the fuses that the factory programs, as a release reads them (R463, R464, R474). -/
structure FuseIn where
  pin : BitVec 26
  mac : BitVec 48
  sn : BitVec 64
  subsys : Word
  deriving DecidableEq, Repr

/-- What the boot code finds (R393, R424, R405): the Ringlog probe (0 good, 1 absent, 2 size, 3 SFDP), the image NOR
(its six slots, A and B of each type, where the part has been programmed outside the device), the panel temperature. -/
structure BootIn where
  nor : Nat
  store : Option (List (Option (List Byte)))
  imgNorOk : Bool
  panelTemp : Option Int
  deriving DecidableEq, Repr

/-- Who accesses a register in a stopped domain, the management core or the host, and whether to write (R41, R492). -/
structure StopAccess where
  mgt : Bool
  write : Bool
  deriving DecidableEq, Repr

/-- What stops a solve: its code, and the pivot of a pivot test (R185, R196). -/
structure SolveFail where
  code : BitVec 4
  pivot : GVal
  deriving DecidableEq, Repr

/-- A channel whose C/N0, in 0.01 dB-Hz, has been low for a span in ms (R210). -/
structure DropIn where
  ch : Fin 192
  cn0 : BitVec 16
  spanMs : Nat
  deriving DecidableEq, Repr

/-- Where the engine has found a signal: on ANT_S or ANT_P, with a C/N0 in 0.01 dB-Hz (R210). -/
structure FoundIn where
  antS : Bool
  cn0 : BitVec 16
  deriving DecidableEq, Repr

/-- A level, and the CTLCLK cycles for which it has held (R245). -/
structure HeldLevel where
  high : Bool
  held : Nat
  deriving DecidableEq, Repr

/-- An edge at a CTLCLK cycle of its tick, or at a local time in ns, and the cycles for which the new level has held (R245,
R305). -/
structure HeldEdge where
  at_ : Nat
  held : Nat
  deriving DecidableEq, Repr

/-- Arrival of a gateway's frame in local ns, and the frames that wait before it (R370). -/
structure ThktArrival where
  ns : Nat
  queued : Nat
  deriving DecidableEq, Repr

/-- One command of the block: one constructor per row of the opcode table, in the table's order. -/
inductive Instr where
  | tick (i : TickIn)
  | cycleBoundary (i : BoundaryIn)
  | commit
  | gatewaySilent (g : Fin 256)
  | canAutostart (c : Fin 8)
  | slotOverrun (w : OverrunWork)
  | tickWatchdogExpiry
  | modeCmdOperate
  | modeCmdWatch
  | tickCfgWrite (v : Word)
  | tickLoadClear
  | registerWrite (a : Addr) (v : Word)
  | unsupportedRequest (bar2 : Bool) (a : Addr) (size : Nat) (write : Bool)
  | stoppedDomainAccess (a : Addr) (k : StopAccess)
  | loopResume (c : Fin 128)
  | loopClear (c : Fin 128)
  | hostTargetWrite (g : Fin 131) (v : Word)
  | originWrite (lon : Bool) (v : Word)
  | thrusterSelect (v : Word)
  | groveLoad (lane : Fin 32) (method : BitVec 3) (accum : Bool) (n m : Byte) (corr : List Nat)
  | groveEntry (lane : Fin 32) (e : GroveEntryIn) (corr : List Nat)
  | groveRelease (lane : Fin 32) (final : Bool) (amb : Nat) (corr : List Nat)
  | grovePublish (lane : Fin 32) (r : SolveOut)
  | groveDeadline (lane : Fin 32) (iter cycles : Nat) (corr : List Nat)
  | groveSolveFailure (lane : Fin 32) (f : SolveFail) (iter cycles : Nat) (corr : List Nat)
  | laneClear (lane : Fin 32)
  | feFault (k : Fin 4) (gain : Byte) (atMax : Bool)
  | feFaultClear (k : Fin 4) (gain : Byte)
  | channelDrop (d : DropIn)
  | acquisitionComplete (ch : Fin 192) (sig : Fin 7) (svid : Byte) (f : FoundIn)
  | spacingSettled (sig : Fin 7)
  | holdoverEntry
  | localTimeSet
  | localTimeStep
  | slewComplete
  | holdWarnExceeded
  | ppsPulse
  | timeMessage
  | sentenceInterval (u : Fin 8) (texts : List (List Byte))
  | leapSecond
  | sentenceReceived (u : Fin 8) (m : SentenceIn)
  | refSampleReceived (uart : Option (Fin 8)) (bytes : List Byte) (arrivalNs : Nat)
  | sarConversion (slot : Fin 64) (code : BitVec 16)
  | calUpdate (ofs ideal : Rat)
  | sarEnable (on : Bool)
  | sdEnable (on : Bool)
  | bitstreamStuck (st : Fin 24)
  | stuckEnd (st : Fin 24)
  | chainRecord (ch : Fin 40) (bits : List Bool) (stamp : Word) (coefBad : Option Nat)
  | chainConfigWrite (a : Addr) (v : Word)
  | coefApply (chain : Fin 64)
  | coefApplyDone
  | quadTransition (p : Fin 4) (qa qb : HeldLevel)
  | quadZero (p : Fin 4)
  | canLeaveInit (c : Fin 8) (v : Word)
  | canEnterInit (c : Fin 8) (v : Word)
  | canRecover (c : Fin 8)
  | canTb2Request (c : Fin 8) (dlc : BitVec 4)
  | canTb2Cancel (c : Fin 8)
  | canArbitrationWon (c : Fin 8) (b : Fin 3) (late : List (Fin 3))
  | canFrameSent (c : Fin 8) (b : Fin 3) (sofNs : Nat) (delay : Byte)
  | canFrameReceived (c : Fin 8) (f : CanFrame) (res : Bool) (stamp : Word)
  | canError (c : Fin 8) (k : CanErrKind) (conflict : Bool)
  | canRecoveryDone (c : Fin 8)
  | canHpRelease (c : Fin 8)
  | canRxfPop (c : Fin 8)
  | rateFallbackTimer (portB : Bool)
  | linkUp (portB : Bool) (gig1 : Bool)
  | linkDown (portB : Bool)
  | netCfgWrite (v : Word)
  | ringFrameReceived (portB : Bool) (f : NetFrame)
  | prpFrameReceived (portB : Bool) (f : NetFrame)
  | duplicateEntryExpiry (delivery : Bool) (src : BitVec 48) (seq : BitVec 16) (portB : Bool)
  | egressTransmit (portB : Bool) (residence : Rat)
  | supervisionSend
  | ringOpenTimeout
  | ptpSyncReceived (portB : Bool) (m : SyncIn)
  | ptpAnnounceReceived (portB : Bool) (m : AnnounceIn)
  | ptpSyncTimeout
  | pdelayReqSend (portB : Bool)
  | pdelayMessageReceived (portB : Bool) (m : PdelayIn)
  | ptpSyncSend
  | ptpAnnounceSend
  | s450DatagramReceived (srcIp : Word) (bytes : List Byte)
  | tnowRead
  | evtInCapture (falling : Bool) (e : HeldEdge)
  | evtPop
  | alarmArm (a : Fin 4) (v : Word)
  | alarmFire (a : Fin 4)
  | heartbeatReceived (payload : List Byte)
  | peerAbsent (second : Bool)
  | standingFrameReceived (payload : List Byte)
  | wardenLost
  | stateSetPartReceived (payload : List Byte)
  | trackLost
  | swapDue
  | standingSwapCommand
  | canopySample (a b : BitVec 16) (cmpBad : BitVec 16)
  | discrepancyTimeout (i : Fin 16)
  | canopyScanEnd (i : ScanIn)
  | readbackMismatch (k : Fin 12) (high : Bool)
  | permitMismatch (k : Fin 12)
  | darkTestDue (k : Fin 12)
  | darkTestCheck (rbHigh : Bool)
  | romCrcCheck (ok : Bool)
  | ustHeartbeatCheck (changes : Nat)
  | canopyHeartbeatLost
  | ustInputFilter (i : Fin 16) (chB closed : Bool)
  | ustReadbackFault (k : Fin 12)
  | ustDarkSelfClose
  | safeResetPulse (widthMs rcCycles : Nat) (rb : BitVec 12) (memOk flowOk : Bool)
  | canopyStartup (romOk memOk : Bool) (finding : Option (Bool × Fin 16 × Bool))
  | ustSuspensionEnd
  | vddUstPowerOn
  | vddUstLow
  | thicketReport (srcIp : Word) (bytes : List Byte) (a : ThktArrival)
  | recordSigned
  | custodyHandoff
  | pointReleaseCommand (v : Word)
  | pointLatch (v : Word) (ecc : Fin 3)
  | pointFind (v : Word)
  | pointFindDone
  | eventRecord
  | bucketRefill
  | ringlogWrite (programOk : Bool)
  | norErase (eraseOk : Bool)
  | stateSave
  | freezeBegin
  | freezeEnd
  | freezeExpiry
  | recorderClear (v : Word)
  | clearComplete
  | panelUpdateStart
  | pwrgdArrival (tiles : List Nat)
  | pgTimeout (i2c : Bool)
  | panelUpdateEnd
  | panelUpdateRetry
  | panelTempRead (reading : Option Int)
  | barkMeasure (ohms : Nat)
  | ringcountSave
  | gladeBoot (b : BootIn)
  | gladeWatchdogExpiry
  | dieTempSample (t : List Int)
  | supplySample (mv : List Nat)
  | supplyWindowFault (m : Fin 12) (high : Bool)
  | ownerEnrol (slot : Fin 4) (burnOk : Bool)
  | ownerRevoke (slot : Fin 4) (burnOk : Bool)
  | imageSave (ok : Bool) (block : Nat)
  | rollbackBurn
  | sessionOpen (slot : Fin 8) (level : BitVec 3)
  | sessionVerify
  | sessionClose
  | sessionCmdConflict (v : Word)
  | challengeExpiry
  | sessionIdleExpiry
  | slotLockExpiry (slot : Fin 8)
  | attestationRequest (cert : Bool)
  | attestationReport
  | cmdDoorbell (p : Fin 16) (v : Word)
  | repDoorbell (p : Fin 16) (v : Word)
  | descriptorFetchDone (p : Fin 16) (ok : Bool)
  | ringEnable (p : Fin 16) (report : Bool) (v : Word)
  | ringDisable (p : Fin 16) (report : Bool) (v : Word)
  | ringClrErr (p : Fin 16)
  | nopDescriptor (p : Fin 16) (idx : BitVec 16) (d : List Byte)
  | setpointDescriptor (p : Fin 16) (idx : BitVec 16) (d : List Byte)
  | groveCommandDescriptor (p : Fin 16) (idx : BitVec 16) (d : List Byte) (entries : List GroveEntryIn)
  | canTransmitDescriptor (p : Fin 16) (idx : BitVec 16) (d : List Byte) (far : List Byte)
  | imageDescriptor (p : Fin 16) (idx : BitVec 16) (d : List Byte) (image : List Byte)
  | thicketReadout (p : Fin 16) (idx : BitVec 16) (d : List Byte) (bad : List Nat) (corr : Nat)
  | recorderReadout (p : Fin 16) (idx : BitVec 16) (d : List Byte)
  | unknownDescriptor (p : Fin 16) (idx : BitVec 16) (d : List Byte)
  | msixMessage (v : Fin 32)
  | vectorAck (v : Word)
  | vectorUnmask (v : Fin 32)
  | pcieLinkDown
  | pcieLinkUp (width speed : Nat)
  | hotReset
  | functionLevelReset
  | d3hotEntry
  | perstAssert
  | powerOn (ustDown : Bool)
  | brownOut (mask : BitVec 6)
  | brownOutRelease (mask : BitVec 6)
  | rstNAssert
  | clockLoss
  | clockReturn (outageUs : Nat)
  | pllLossOfLock (pllG : Bool)
  | resetAnnounce
  | resetTakeEffect
  | resetRelease (st : StrapIn) (fu : FuseIn)
  | pllLock (pllG : Bool)
  | pulseEdge (p : Fin 8) (falling : Bool) (e : HeldEdge)
  | ppsPulseEnd
  | hostWaitExpiry
  | carrierLockLost (ch : Fin 192)
  | carrierLockGained (ch : Fin 192)
  | navigationDataDecoded (utcOfs : Byte) (leapAt : Option (BitVec 48))
  | vddUstReturn
  | canArbitrationLost (c : Fin 8) (b : Fin 3)
  deriving DecidableEq, Repr

end Sys2Proof
end

