-- ==== Sys2Proof/WellFormed.lean ====
section
/-! DEFINITION. Well-formed commands: what the encoding of a command's operands rules out. A command that is not well-formed
cannot arise; exec is total on it all the same. -/

namespace Sys2Proof

/-- Types of descriptor that R439 lists. -/
def descTypes : List Nat := [0x1F, 0x30, 0x60, 0x90, 0x10, 0xD8, 0xE8]

/-- A descriptor of 32 bytes with its TYPE (R434, R439). -/
def descWf (typ : Nat) (d : List Byte) : Bool := d.length == 32 && (d.getD 0 0).toNat == typ

/-- Data bytes that a data length code stands for (ISO 11898-1): without FDF at most 8. -/
def dlcLen (fdf : Bool) (dlc : Nat) : Nat :=
  if dlc ≤ 8 then dlc else if fdf then [12, 16, 20, 24, 32, 48, 64].getD (dlc - 9) 0 else 8

/-- A CAN frame: 11 bits of identifier without IDE, BRS and ESI only with FDF, as many bytes as its code says (R254). -/
def CanFrame.wf (f : CanFrame) : Bool :=
  (f.ide || decide (f.id.toNat < 2048)) && (f.fdf || (!f.brs && !f.esi)) && f.data.length == dlcLen f.fdf f.dlc.toNat

/-- A ring frame carries its payload (R283). -/
def NetFrame.wf (f : NetFrame) : Bool := decide (f.payload.length ≤ f.len)

/-- Eight converter readings of each resistor strap (R469). -/
def StrapIn.wf (st : StrapIn) : Bool :=
  st.roleQ.length == 8 && st.unitQ.length == 8 && (st.roleQ ++ st.unitQ).all fun q => decide (q < 256)

/-- Constellation of a signal: 0 GPS, 1 Galileo, 2 BeiDou (R207). -/
def sigSys (sig : Nat) : Nat := if sig ≤ 2 then 0 else if sig ≤ 4 then 1 else 2

/-- SVID range of a constellation (R207). -/
def svidInRange (sys svid : Nat) : Bool := decide (1 ≤ svid ∧ svid ≤ [32, 36, 63].getD sys 0)

/-- Channels 0 to 191 (R208). -/
def measWf (xs : List ChanMeas) : Bool := xs.all fun m => decide (m.chan < 192)

/-- Channels and satellites that exist (R207, R208). -/
def BoundaryIn.wf (i : BoundaryIn) : Bool :=
  measWf i.meas && (i.sky.all fun x => svidInRange x.sys x.svid)

/-- Contexts 1 to 127, generators 1 to 130, stages 1 to 8 (R52, R57, R105). -/
def TickIn.wf (i : TickIn) : Bool :=
  (i.loopMis.all fun p => decide (1 ≤ p.1 ∧ p.1 ≤ 127 ∧ 1 ≤ p.2 ∧ p.2 ≤ 8))
    && (i.profMis ++ i.profMissed).all (fun g => decide (1 ≤ g ∧ g ≤ 130))
    && i.loopMissed.all (fun c => decide (1 ≤ c ∧ c ≤ 127)) && measWf i.meas

/-- A command's operands are such as can arise. -/
def Instr.wf : Instr → Bool
  | .tick i => i.wf
  | .cycleBoundary i => i.wf
  | .commit => true
  | .gatewaySilent _ => true
  | .canAutostart _ => true
  | .slotOverrun _ => true
  | .tickWatchdogExpiry => true
  | .modeCmdOperate => true
  | .modeCmdWatch => true
  | .tickCfgWrite _ => true
  | .tickLoadClear => true
  | .registerWrite a _ => a.toNat % 4 == 0
  | .unsupportedRequest _ a size _ => !(size == 4 && a.toNat % 4 == 0)
  | .stoppedDomainAccess _ _ => true
  | .loopResume _ => true
  | .loopClear _ => true
  | .hostTargetWrite g _ => g.val != 0
  | .originWrite _ _ => true
  | .thrusterSelect _ => true
  | .groveLoad _ _ _ _ _ _ => true
  | .groveEntry _ _ _ => true
  | .groveRelease _ _ _ _ => true
  | .grovePublish _ _ => true
  | .groveDeadline _ _ _ _ => true
  | .groveSolveFailure _ f _ _ _ => decide (f.code = 2 ∨ (8 ≤ f.code.toNat ∧ f.code.toNat ≤ 13))
  | .laneClear _ => true
  | .feFault _ _ _ => true
  | .feFaultClear _ _ => true
  | .channelDrop d => decide (d.cn0.toNat < 2400 ∧ 1000 < d.spanMs)
  | .acquisitionComplete _ sig svid f =>
    svidInRange (sigSys sig) svid.toNat && !(sig == 0 && f.antS) && decide (3300 ≤ f.cn0.toNat)
  | .spacingSettled _ => true
  | .holdoverEntry => true
  | .localTimeSet => true
  | .localTimeStep => true
  | .slewComplete => true
  | .holdWarnExceeded => true
  | .ppsPulse => true
  | .timeMessage => true
  | .sentenceInterval _ _ => true
  | .leapSecond => true
  | .sentenceReceived _ _ => true
  | .refSampleReceived _ _ _ => true
  | .sarConversion _ _ => true
  | .calUpdate _ ideal => decide (0 < ideal)
  | .sarEnable _ => true
  | .sdEnable _ => true
  | .bitstreamStuck _ => true
  | .stuckEnd _ => true
  | .chainRecord ch bits _ _ => decide (16 ≤ ch.val) || bits == []
  | .chainConfigWrite a _ => decide (0x1C0000 ≤ a.toNat ∧ a.toNat < 0x200000) && a.toNat % 4 == 0
  | .coefApply _ => true
  | .coefApplyDone => true
  | .quadTransition _ _ _ => true
  | .quadZero _ => true
  | .canLeaveInit _ v => !v.getLsbD 0
  | .canEnterInit _ v => v.getLsbD 0
  | .canRecover _ => true
  | .canTb2Request _ _ => true
  | .canTb2Cancel _ => true
  | .canArbitrationWon _ _ _ => true
  | .canFrameSent _ _ _ _ => true
  | .canFrameReceived _ f _ _ => f.wf
  | .canError _ _ _ => true
  | .canRecoveryDone _ => true
  | .canHpRelease _ => true
  | .canRxfPop _ => true
  | .rateFallbackTimer _ => true
  | .linkUp _ _ => true
  | .linkDown _ => true
  | .netCfgWrite _ => true
  | .ringFrameReceived _ f => f.wf
  | .prpFrameReceived _ f => f.wf
  | .duplicateEntryExpiry _ _ _ _ => true
  | .egressTransmit _ r => decide (0 ≤ r)
  | .supervisionSend => true
  | .ringOpenTimeout => true
  | .ptpSyncReceived _ _ => true
  | .ptpAnnounceReceived _ _ => true
  | .ptpSyncTimeout => true
  | .pdelayReqSend _ => true
  | .pdelayMessageReceived _ _ => true
  | .ptpSyncSend => true
  | .ptpAnnounceSend => true
  | .s450DatagramReceived _ _ => true
  | .tnowRead => true
  | .evtInCapture _ _ => true
  | .evtPop => true
  | .alarmArm _ _ => true
  | .alarmFire _ => true
  | .heartbeatReceived _ => true
  | .peerAbsent _ => true
  | .standingFrameReceived _ => true
  | .wardenLost => true
  | .stateSetPartReceived _ => true
  | .trackLost => true
  | .swapDue => true
  | .standingSwapCommand => true
  | .canopySample _ _ _ => true
  | .discrepancyTimeout _ => true
  | .canopyScanEnd _ => true
  | .readbackMismatch _ _ => true
  | .permitMismatch _ => true
  | .darkTestDue _ => true
  | .darkTestCheck _ => true
  | .romCrcCheck _ => true
  | .ustHeartbeatCheck _ => true
  | .canopyHeartbeatLost => true
  | .ustInputFilter _ _ _ => true
  | .ustReadbackFault _ => true
  | .ustDarkSelfClose => true
  | .safeResetPulse _ _ _ _ _ => true
  | .canopyStartup _ _ _ => true
  | .ustSuspensionEnd => true
  | .vddUstPowerOn => true
  | .vddUstLow => true
  | .thicketReport _ _ _ => true
  | .recordSigned => true
  | .custodyHandoff => true
  | .pointReleaseCommand v => v.getLsbD 31
  | .pointLatch _ _ => true
  | .pointFind v => v.getLsbD 31
  | .pointFindDone => true
  | .eventRecord => true
  | .bucketRefill => true
  | .ringlogWrite _ => true
  | .norErase _ => true
  | .stateSave => true
  | .freezeBegin => true
  | .freezeEnd => true
  | .freezeExpiry => true
  | .recorderClear v => v.getLsbD 31
  | .clearComplete => true
  | .panelUpdateStart => true
  | .pwrgdArrival _ => true
  | .pgTimeout _ => true
  | .panelUpdateEnd => true
  | .panelUpdateRetry => true
  | .panelTempRead _ => true
  | .barkMeasure _ => true
  | .ringcountSave => true
  | .gladeBoot b => decide (b.nor ≤ 3) && b.store.elim true (fun x => x.length == 6)
  | .gladeWatchdogExpiry => true
  | .dieTempSample t => t.length == 8
  | .supplySample mv => mv.length == 12
  | .supplyWindowFault _ _ => true
  | .ownerEnrol _ _ => true
  | .ownerRevoke _ _ => true
  | .imageSave _ _ => true
  | .rollbackBurn => true
  | .sessionOpen _ _ => true
  | .sessionVerify => true
  | .sessionClose => true
  | .sessionCmdConflict v => decide (2 ≤ ([0, 1, 2].filter fun k => v.getLsbD k).length)
  | .challengeExpiry => true
  | .sessionIdleExpiry => true
  | .slotLockExpiry _ => true
  | .attestationRequest _ => true
  | .attestationReport => true
  | .cmdDoorbell _ _ => true
  | .repDoorbell _ _ => true
  | .descriptorFetchDone _ _ => true
  | .ringEnable _ _ v => v.getLsbD 8
  | .ringDisable _ _ v => !v.getLsbD 8
  | .ringClrErr _ => true
  | .nopDescriptor _ _ d => descWf 0x1F d
  | .setpointDescriptor _ _ d => descWf 0x30 d
  | .groveCommandDescriptor _ _ d _ => descWf 0x60 d
  | .canTransmitDescriptor _ _ d _ => descWf 0x90 d
  | .imageDescriptor _ _ d _ => descWf 0x10 d
  | .thicketReadout _ _ d _ _ => descWf 0xD8 d
  | .recorderReadout _ _ d => descWf 0xE8 d
  | .unknownDescriptor _ _ d => d.length == 32 && !descTypes.contains (d.getD 0 0).toNat
  | .msixMessage _ => true
  | .vectorAck _ => true
  | .vectorUnmask _ => true
  | .pcieLinkDown => true
  | .pcieLinkUp width speed => [1, 2, 4].contains width && decide (1 ≤ speed ∧ speed ≤ 3)
  | .hotReset => true
  | .functionLevelReset => true
  | .d3hotEntry => true
  | .perstAssert => true
  | .powerOn _ => true
  | .brownOut mask => mask != 0
  | .brownOutRelease mask => mask != 0
  | .rstNAssert => true
  | .clockLoss => true
  | .clockReturn outage => decide (1 ≤ outage)
  | .pllLossOfLock _ => true
  | .resetAnnounce => true
  | .resetTakeEffect => true
  | .resetRelease st _ => st.wf
  | .pllLock _ => true
  | .pulseEdge _ _ e => decide (e.at_ < 117188)
  | .ppsPulseEnd => true
  | .hostWaitExpiry => true
  | .carrierLockLost _ => true
  | .carrierLockGained _ => true
  | .navigationDataDecoded _ _ => true
  | .vddUstReturn => true
  | .canArbitrationLost _ _ => true

end Sys2Proof
end

