-- ==== Sys2Proof/Decode.lean ====
section
/-! DEFINITION. The decoder over the rows of the opcode table that give bits. The block's commands are accesses, frames and
events: the table gives no row a word, so no word spells a command. -/

namespace Sys2Proof

/-- The command that a word of nbits bits spells: none, since no row of the table has fields. -/
def decodeTableWord (_nbits _w : Nat) : Option Instr := none

end Sys2Proof
end

