-- ==== Sys2Proof/Machine/Bits.lean ====
section
/-! DEFINITION. Byte order, fields of words, list and counter helpers (R7, R11, R17). -/

namespace Sys2Proof.Machine

/-- The little-endian number of a byte list (R17). -/
def leNat : List Byte → Nat
  | [] => 0
  | b :: bs => b.toNat + 256 * leNat bs

/-- n little-endian bytes of a number. -/
def leBytes : Nat → Nat → List Byte
  | 0, _ => []
  | n + 1, v => BitVec.ofNat 8 v :: leBytes n (v / 256)

/-- The big-endian number of a byte list (FIPS fields, R377). -/
def beNat (bs : List Byte) : Nat := bs.foldl (fun a b => a * 256 + b.toNat) 0

/-- n big-endian bytes of a number. -/
def beBytes (n v : Nat) : List Byte := (leBytes n v).reverse

/-- Bytes i to i + n - 1; a byte past the end reads 0. -/
def slice (bs : List Byte) (i n : Nat) : List Byte :=
  (List.range n).map fun k => bs.getD (i + k) 0

/-- Byte i of a layout. -/
def u8 (bs : List Byte) (i : Nat) : Nat := (bs.getD i 0).toNat

/-- Two bytes at i, little-endian. -/
def u16 (bs : List Byte) (i : Nat) : Nat := leNat (slice bs i 2)

/-- Four bytes at i, little-endian. -/
def u32 (bs : List Byte) (i : Nat) : Nat := leNat (slice bs i 4)

/-- Bits hi to lo of a number. -/
def bitsOf (v hi lo : Nat) : Nat := v / 2 ^ lo % 2 ^ (hi + 1 - lo)

/-- Bit i of a number. -/
def bitOf (v i : Nat) : Bool := v / 2 ^ i % 2 == 1

/-- 1 for true. -/
def bnat (b : Bool) : Nat := if b then 1 else 0

/-- An n-bit two's-complement number read as an integer. -/
def signed (n v : Nat) : Int :=
  let u := v % 2 ^ n
  if u < 2 ^ (n - 1) then (u : Int) else (u : Int) - 2 ^ n

/-- An integer as an n-bit two's-complement number. -/
def unsigned (n : Nat) (i : Int) : Nat := (i % (2 ^ n : Int)).toNat

/-- Clamp to an interval. -/
def clampInt (lo hi x : Int) : Int := if x < lo then lo else if hi < x then hi else x

/-- A signed number in 32 bits, clamped to the 32-bit range of the event parameters (R218). -/
def clamp32 (x : Int) : Word := BitVec.ofInt 32 (clampInt (-2147483647) 2147483647 x)

/-- Add to a counter that saturates at its largest n-bit value. -/
def satAdd (n v k : Nat) : Nat := min (2 ^ n - 1) (v + k)

/-- Replace element i of a list, leaving the list as it is past its end. -/
def setAt {α : Type} : List α → Nat → α → List α
  | [], _, _ => []
  | _ :: xs, 0, v => v :: xs
  | x :: xs, i + 1, v => x :: setAt xs i v

/-- Change element i of a list, leaving the list as it is past its end. -/
def modAt {α : Type} : List α → Nat → (α → α) → List α
  | [], _, _ => []
  | x :: xs, 0, f => f x :: xs
  | x :: xs, i + 1, f => x :: modAt xs i f

/-- Replace bits hi to lo of a number. -/
def setBits (w hi lo v : Nat) : Nat :=
  w - bitsOf w hi lo * 2 ^ lo + (v % 2 ^ (hi + 1 - lo)) * 2 ^ lo

/-- Value under a key, from an association list. -/
def lookupKey {α : Type} (k : Nat) : List (Nat × α) → Option α
  | [] => none
  | (k', v) :: xs => if k' = k then some v else lookupKey k xs

/-- Put a value under a key in an association list kept in rising key order. -/
def insertKey {α : Type} (k : Nat) (v : α) : List (Nat × α) → List (Nat × α)
  | [] => [(k, v)]
  | (k', v') :: xs =>
    if k < k' then (k, v) :: (k', v') :: xs
    else if k = k' then (k, v) :: xs
    else (k', v') :: insertKey k v xs

/-- Remove a key from an association list. -/
def eraseKey {α : Type} (k : Nat) : List (Nat × α) → List (Nat × α)
  | [] => []
  | (k', v) :: xs => if k' = k then eraseKey k xs else (k', v) :: eraseKey k xs

/-- Indices of the set bits of a mask, rising. -/
def maskBits (n mask : Nat) : List Nat := (List.range n).filter (bitOf mask)

/-- Smallest k not below zero with the property, below n. -/
def firstBelow (n : Nat) (p : Nat → Bool) : Option Nat := (List.range n).find? p

/-- Integer square root rounded down, by trying bits from the highest (R88). -/
def isqrtBits : Nat → Nat → Nat → Nat
  | 0, acc, _ => acc
  | k + 1, acc, v =>
    let t := acc + 2 ^ k
    isqrtBits k (if t * t ≤ v then t else acc) v

/-- Integer square root rounded down. -/
def isqrt (v : Nat) : Nat := isqrtBits (Nat.log2 v / 2 + 1) 0 v

/-- Division rounded to nearest with ties to even. -/
def divRound (a : Int) (d : Nat) : Int :=
  let q := a / (d : Int)
  let r := a % (d : Int)
  if 2 * r < d then q else if (d : Int) < 2 * r then q + 1 else if q % 2 = 0 then q else q + 1

/-- Division rounded up. -/
def ceilDiv (a d : Nat) : Nat := (a + d - 1) / d

/-- A rational rounded to the nearest integer, ties to even. -/
def roundRat (x : Rat) : Int := divRound x.num x.den

/-- A rational rounded toward zero. -/
def truncRat (x : Rat) : Int := if x.num < 0 then -((-x.num) / (x.den : Int)) else x.num / (x.den : Int)

/-- Magnitude of a rational. -/
def absRat (x : Rat) : Rat := if x < 0 then -x else x

/-- Clamp a rational to an interval. -/
def clampRat (lo hi x : Rat) : Rat := if x < lo then lo else if hi < x then hi else x

/-- 2 to an integer power. -/
def pow2 (e : Int) : Rat := if 0 ≤ e then ((2 ^ e.toNat : Nat) : Rat) else 1 / ((2 ^ (-e).toNat : Nat) : Rat)

/-- A rational wrapped into [-w/2, w/2) (R65). -/
def wrapRat (x w : Rat) : Rat := x - w * (((x + w / 2) / w).floor : Rat)

/-- Put an element before the first one that it may precede. -/
def insBy {α : Type} (le : α → α → Bool) (x : α) : List α → List α
  | [] => [x]
  | y :: ys => if le x y then x :: y :: ys else y :: insBy le x ys

/-- A list in rising order, equal elements in their old order. -/
def sortBy {α : Type} (le : α → α → Bool) (xs : List α) : List α := xs.foldr (insBy le) []

end Sys2Proof.Machine
end

