-- ==== Sys2Proof/Machine/Num.lean ====
section
/-! DEFINITION. Block floating point of R46 to R50, residues of R51 and the row format of R181. -/

namespace Sys2Proof.Machine

/-- Value of a packed block value: MANT times 2^EXP (R46). -/
def pbvVal (w : Word) : Rat :=
  (signed 20 w.toNat : Rat) * pow2 (signed 8 (w.toNat / 2 ^ 20))

/-- Smallest integer k with x at most 2^k, for x above zero: the ceiling of log2. -/
def ceilLog2 (x : Rat) : Int :=
  let k : Int := (Nat.log2 x.num.natAbs : Int) - (Nat.log2 x.den : Int)
  if x ≤ pow2 (k - 1) then k - 1 else if x ≤ pow2 k then k else k + 1

/-- Exponent that the formula of R47 gives, before the bounds of R49. -/
def rawExp (bits : Int) (m : Rat) : Int := ceilLog2 m - bits

/-- Largest magnitude of a list of values. -/
def maxMag (xs : List Rat) : Rat := xs.foldl (fun a x => max a (absRat x)) 0

/-- Exponent of a stage: -128 for zero and at least -128 (R47, R49). -/
def stageExp (xs : List Rat) : Int :=
  let m := maxMag xs
  if m = 0 then -128 else max (-128) (rawExp 18 m)

/-- The stage has overflowed: the formula gives an exponent above 127 (R49). -/
def stageOvf (xs : List Rat) : Bool := 127 < stageExp xs

/-- A value rounded at 2^e, to nearest with ties to even (R47). -/
def roundAt (e : Int) (x : Rat) : Rat := (roundRat (x / pow2 e) : Rat) * pow2 e

/-- The values of one stage rounded at its common exponent (R47). -/
def stage (xs : List Rat) : List Rat := xs.map (roundAt (stageExp xs))

/-- A value alone in its stage (R47). -/
def stage1 (x : Rat) : Rat := roundAt (stageExp [x]) x

/-- A value written by the device as a PBV, normalised alone; zero is the word 0 (R46). A value beyond the largest
exponent takes the end mantissa with EXP = 127 (R49). -/
def toPbv (x : Rat) : Word :=
  if x = 0 then 0
  else
    let e := stageExp [x]
    if 127 < e then BitVec.ofNat 32 (127 * 2 ^ 20 + (if x < 0 then 2 ^ 19 else 2 ^ 19 - 1))
    else
      let m := roundRat (x / pow2 e)
      if m = 0 then 0 else BitVec.ofNat 32 (unsigned 8 e * 2 ^ 20 + unsigned 20 m)

/-- A value that a clamp may have taken from a stored limit, or that is held: exact where a 20-bit mantissa holds it, though
19 bits wide, else normalised alone (R46, R50, R66). -/
def toPbvExact (x : Rat) : Word :=
  let e := stageExp [x] - 1
  let m := x / pow2 e
  if pbvVal (toPbv x) = x ∨ x = 0 ∨ e < -128 ∨ 127 < e ∨ m.den ≠ 1 then toPbv x
  else BitVec.ofNat 32 (unsigned 8 e * 2 ^ 20 + unsigned 20 m.num)

/-- The end value of a stage that has overflowed, else the value alone in its stage (R47, R49). -/
def satStage1 (x : Rat) : Rat :=
  if stageOvf [x] then (if x < 0 then -(2 ^ 19) else 2 ^ 19 - 1) * pow2 127 else stage1 x

/-- π at 2^-96. -/
def piFix : Int := 248902613312231085230521944622

/-- Terms of the cosine's power series at 2^-96: fuel, 2k, the angle squared, term k, sum of the terms before it. -/
def cosTerms : Nat → Int → Int → Int → Int → Int
  | 0, _, _, _, acc => acc
  | n + 1, k, r2, t, acc => cosTerms n (k + 2) r2 (-(t * r2 / 2 ^ 96) / ((k + 1) * (k + 2))) (acc + t)

/-- Cosine of an angle in degrees, correct to 2^-88 and exact at multiples of 90°; a stage then rounds it (R47, R143). -/
def cosDeg (x : Rat) : Rat :=
  let d := wrapRat x 360
  if d = 0 then 1 else if d = -180 then -1 else if d = 90 ∨ d = -90 then 0
  else
    let r := roundRat (d * piFix / 180)
    (cosTerms 32 0 (r * r / 2 ^ 96) (2 ^ 96) 0 : Rat) / (2 ^ 96 : Nat)

/-- Sine of an angle in degrees. -/
def sinDeg (x : Rat) : Rat := cosDeg (x - 90)

/-- Terms of Euler's series of the arctangent at 2^-96: fuel, n, t² / (1 + t²), term n, sum of the terms before it. -/
def atanTerms : Nat → Int → Int → Int → Int → Int
  | 0, _, _, _, acc => acc
  | f + 1, n, y, t, acc => atanTerms f (n + 1) y (t * y / 2 ^ 96 * (2 * n + 2) / (2 * n + 3)) (acc + t)

/-- Arctangent of t from 0 to 1, degrees, correct to 2^-80. -/
def atanDeg (t : Rat) : Rat :=
  let y := t * t / (1 + t * t)
  let z := t / (1 + t * t)
  let p : Rat := (2 ^ 96 : Nat)
  (atanTerms 96 0 (roundRat (y * p)) (roundRat (z * p)) 0 : Rat) * 180 / piFix

/-- Direction of a vector (forward or north, starboard or east) in [0, 360) degrees (R8, R146). -/
def dirDeg (x y : Rat) : Rat :=
  let a := absRat x
  let b := absRat y
  if y = 0 then (if x < 0 then 180 else 0)
  else if x = 0 then (if y < 0 then 270 else 90)
  else
    let q := if b = a then 45 else if b < a then atanDeg (b / a) else 90 - atanDeg (a / b)
    if 0 < x then (if 0 < y then q else 360 - q) else if 0 < y then 180 - q else 180 + q

/-- Square root, correct to one part in 2^63 and exact for a square that short. -/
def sqrtRat (x : Rat) : Rat :=
  if x ≤ 0 then 0
  else
    let k : Int := (128 - ((Nat.log2 x.num.natAbs : Int) - (Nat.log2 x.den : Int))) / 2
    (isqrt (x * pow2 (2 * k)).floor.toNat : Rat) * pow2 (-k)

/-- Magnitude of a vector. -/
def magOf (x y : Rat) : Rat := sqrtRat (x * x + y * y)

/-- Horizontal offset, forward and starboard, of a lever arm (forward, starboard, down) at a roll (starboard down) and a
pitch (bow up) in degrees, and its depth (R124; log entry 10). -/
def leverLevel (roll pitch x y z : Rat) : Rat × Rat × Rat :=
  let c := cosDeg pitch
  let sn := sinDeg pitch
  let v := y * sinDeg roll + z * cosDeg roll
  (x * c + v * sn, y * cosDeg roll - z * sinDeg roll, v * c - x * sn)

/-- A vector (forward, starboard) turned to north and east by a heading. -/
def turned (h : Rat) (p : Rat × Rat) : Rat × Rat :=
  (cosDeg h * p.1 - sinDeg h * p.2, sinDeg h * p.1 + cosDeg h * p.2)

/-- Residue of a mantissa modulo 3, from 0 to 2 (R51). -/
def residue (x : Int) : Nat := (x % 3).toNat

/-- Linear interpolation over equally spaced breakpoints, f cut to 19 fractional bits toward minus infinity
(R62, R63, R156); x is the index position and last the highest breakpoint. -/
def interp (g : Nat → Rat) (last : Nat) (x : Rat) : Rat :=
  if x ≤ 0 then g 0
  else if (last : Rat) ≤ x then g last
  else
    let t := (x * (2 ^ 19 : Nat)).floor
    let i := (t / 2 ^ 19).toNat
    let f : Rat := ((t % 2 ^ 19 : Int) : Rat) / (2 ^ 19 : Nat)
    g i + f * (g (i + 1) - g i)

/-- Value of a Grove mantissa and exponent (R176). -/
def gval (exp : BitVec 8) (mant : BitVec 32) : Rat :=
  (signed 32 mant.toNat : Rat) * pow2 (signed 8 exp.toNat)

/-- Exponent of a row in a lane, with its lower bound (R181, R183). -/
def rowExp (xs : List Rat) : Int :=
  let m := maxMag xs
  if m = 0 then -128 else max (-128) (rawExp 30 m)

end Sys2Proof.Machine
end

