-- ==== Sys2Proof/Machine/RegMap.lean ====
section
/-! DEFINITION. The register map of BAR0 and BAR2 (R11, R12, R14, R16): for every register its offset, its
repetition, the bits each access type reaches and its reset value, block by block as the spec's tables give them. -/

namespace Sys2Proof.Machine

/-- One row of a register table: n1 registers s1 bytes apart, each group repeated n2 times s2 bytes apart. The masks
are the bits a host may write (RW), clears by writing 1 (W1C), acts on (WO), Heartwood may set (RW-boot) and a
commissioning image may set (R12, R420). -/
structure RegRow where
  off : Nat
  reset : Nat := 0
  rw : Nat := 0
  w1c : Nat := 0
  wo : Nat := 0
  boot : Nat := 0
  com : Nat := 0
  n1 : Nat := 1
  s1 : Nat := 4
  n2 : Nat := 1
  s2 : Nat := 4
  deriving DecidableEq, Repr

/-- Mask of the bits of a PBV (R46). -/
def pbvMask : Nat := 0x0FFFFFFF

/-- All 32 bits. -/
def allMask : Nat := 0xFFFFFFFF

/-- The row covers a block offset. -/
def rowCovers (o : Nat) (r : RegRow) : Bool :=
  if o < r.off then false
  else
    let d := o - r.off
    let j := d / r.s2
    if r.n2 = 1 then d % r.s1 == 0 && decide (d / r.s1 < r.n1)
    else decide (j < r.n2) && (d % r.s2) % r.s1 == 0 && decide ((d % r.s2) / r.s1 < r.n1)

/-- GLB and the Glade registers (R42, R430). -/
def rowsGlb : List RegRow := [
  { off := 0x000, reset := 0x00010007 },
  { off := 0x004, wo := 3 },
  { off := 0x008 },
  { off := 0x010, reset := 0x00320003, rw := 0xFFFF0003 },
  { off := 0x014, reset := 0x00000400 },
  { off := 0x018 }, { off := 0x01C },
  { off := 0x020, w1c := 0x3F },
  { off := 0x024 }, { off := 0x028 },
  { off := 0x02C, wo := 1 },
  { off := 0x030 },
  { off := 0x1000, n1 := 8 },
  { off := 0x1020, reset := 0x0348, boot := 0xFFFF },
  { off := 0x1040, n1 := 12 },
  { off := 0x1080, wo := 0x1FF },
  { off := 0x1084 },
  { off := 0x1088, reset := 600, boot := 0xFFFF },
  { off := 0x10A0, n1 := 8 },
  { off := 0x10C0, wo := allMask, n1 := 8 },
  { off := 0x1100 },
  { off := 0x1104, reset := 0x008D98D2, boot := 0x00FFFFFF },
  { off := 0x1110, n1 := 8 },
  { off := 0x1140 }, { off := 0x1144 }, { off := 0x1148 }, { off := 0x114C }, { off := 0x1150 },
  { off := 0x1160, wo := 0xF },
  { off := 0x1164 },
  { off := 0x1180, wo := allMask, n1 := 20 },
  { off := 0x11E0, rw := allMask, n1 := 4 },
  { off := 0x11F0, wo := 3 } ]

/-- RST (R474). -/
def rowsRst : List RegRow := [
  { off := 0x000, reset := 1, w1c := 0x3FF },
  { off := 0x004 }, { off := 0x008 }, { off := 0x00C }, { off := 0x010 }, { off := 0x014 }, { off := 0x018 } ]

/-- PIN (R475); the fuse word as shipped. -/
def rowsPin : List RegRow := [
  { off := 0x000, reset := 0xD8664F0A },
  { off := 0x004, boot := 0x03FFFFFF },
  { off := 0x008, boot := 0x1FFF },
  { off := 0x00C } ]

/-- LOOP (R81, R82); the window of context 0 reads STATE = 1 and nothing else (R45). -/
def rowsLoop : List RegRow := [
  { off := 0x000 },
  { off := 0x004, reset := 8, boot := 0xFF },
  { off := 0x008 },
  { off := 0x00C, wo := 0x37F },
  { off := 0x010 },
  { off := 0x020, w1c := 0xFFFFFFFE },
  { off := 0x024, w1c := allMask, n1 := 3 },
  { off := 0x030 },
  { off := 0x1040, reset := 1 },
  { off := 0x1400, com := allMask, n2 := 127, s2 := 0x400 },
  { off := 0x1404, com := 0x00FFFFFF, n2 := 127, s2 := 0x400 },
  { off := 0x1408, com := 0x1FF, n2 := 127, s2 := 0x400 },
  { off := 0x140C, com := 0x00FFFFFF, n2 := 127, s2 := 0x400 },
  { off := 0x1410, com := pbvMask, n1 := 8, n2 := 127, s2 := 0x400 },
  { off := 0x1440, n2 := 127, s2 := 0x400 },
  { off := 0x1444, w1c := 0x7FE, n2 := 127, s2 := 0x400 },
  { off := 0x1448, n1 := 6, n2 := 127, s2 := 0x400 },
  { off := 0x1460, rw := pbvMask, n2 := 127, s2 := 0x400 },
  { off := 0x1464, n2 := 127, s2 := 0x400 },
  { off := 0x1500, com := pbvMask, n1 := 33, n2 := 127, s2 := 0x400 },
  { off := 0x1600, com := pbvMask, n1 := 33, n2 := 127, s2 := 0x400 },
  { off := 0x1700, com := pbvMask, n1 := 33, n2 := 127, s2 := 0x400 } ]

/-- One generator window of PROF, n2 of them from off (R106). -/
def rowsGen (off n : Nat) : List RegRow := [
  { off := off, com := 0xFF0FFFFF, n2 := n, s2 := 0x100 },
  { off := off + 0x004, com := pbvMask, n1 := 9, n2 := n, s2 := 0x100 },
  { off := off + 0x030, rw := pbvMask, n2 := n, s2 := 0x100 },
  { off := off + 0x040, n2 := n, s2 := 0x100 },
  { off := off + 0x044, w1c := 0x1FF, n2 := n, s2 := 0x100 },
  { off := off + 0x048, n1 := 4, n2 := n, s2 := 0x100 } ]

/-- PROF (R106). -/
def rowsProf : List RegRow := { off := 0x000 } :: (rowsGen 0x800 3 ++ rowsGen 0x1100 127)

/-- EST (R139 to R141). -/
def rowsEst : List RegRow := [
  { off := 0x000 },
  { off := 0x004, reset := 0x1E0A0323, com := allMask },
  { off := 0x008, reset := 0x001E0078, com := allMask },
  { off := 0x00C, reset := 0x3A0500C8, com := allMask },
  { off := 0x010, reset := 0x00000001, com := pbvMask },
  { off := 0x014, reset := 0x0FF00001, com := pbvMask },
  { off := 0x018, reset := 0x00000005, com := pbvMask },
  { off := 0x01C, reset := 0x00000000, com := pbvMask },
  { off := 0x020, reset := 0x00000002, com := pbvMask },
  { off := 0x024, reset := 0x00000003, com := pbvMask },
  { off := 0x028, reset := 0x0FA00001, com := pbvMask },
  { off := 0x02C, reset := 0x0FE00001, com := pbvMask },
  { off := 0x030, reset := 0x0FF00001, com := pbvMask },
  { off := 0x034, com := pbvMask, n1 := 3 },
  { off := 0x040, rw := allMask, n1 := 2 },
  { off := 0x048, com := 0x0FFFFFFF },
  { off := 0x050, com := allMask, n1 := 3 },
  { off := 0x05C, com := 0xFFFF },
  { off := 0x060, reset := 52410, com := 0xFFFF },
  { off := 0x064 },
  { off := 0x100, com := 0x7F, n2 := 6, s2 := 0x20 },
  { off := 0x104, com := pbvMask, n1 := 4, n2 := 6, s2 := 0x20 },
  { off := 0x114, n1 := 3, n2 := 6, s2 := 0x20 },
  { off := 0x200, n1 := 29 },
  { off := 0x280 } ]

/-- ALLOC (R168, R169). -/
def rowsAlloc : List RegRow := [
  { off := 0x000, reset := 0xFF000000 },
  { off := 0x004, reset := 0x00020C03, com := 0x000F1F1F },
  { off := 0x008, reset := 0x00FFFFFF, rw := 0x00FFFFFF },
  { off := 0x00C }, { off := 0x010 }, { off := 0x014 },
  { off := 0x020, com := pbvMask, n1 := 21 },
  { off := 0x080, n1 := 6 },
  { off := 0x1000, com := 0x0037F7F7, n2 := 24, s2 := 0x80 },
  { off := 0x1004, com := pbvMask, n1 := 14, n2 := 24, s2 := 0x80 },
  { off := 0x103C, n1 := 4, n2 := 24, s2 := 0x80 },
  { off := 0x3000, com := pbvMask, n1 := 17, n2 := 24, s2 := 0x80 },
  { off := 0x5000, com := 0xF, n2 := 63, s2 := 0x20 },
  { off := 0x5004, com := 0x00FFFFFF, n2 := 63, s2 := 0x20 },
  { off := 0x5008, n1 := 4, n2 := 63, s2 := 0x20 } ]

/-- GROVE (R202, R203); ROLE of each lane after reset is R171. -/
def rowsGrove : List RegRow := [
  { off := 0x000, reset := 0x00180520 },
  { off := 0x004, reset := 0xFFFFFFFF },
  { off := 0x008, reset := 0x000200F0, rw := 0x3FF, boot := 0x000F0000 },
  { off := 0x00C, reset := 0x00F000F0, com := 0x03FF03FF },
  { off := 0x010, n1 := 4 },
  { off := 0x020, reset := 0x3FFBDF3B },
  { off := 0x1000, reset := 0 },
  { off := 0x1040, reset := 4 },
  { off := 0x1080, reset := 8 },
  { off := 0x10C0, reset := 12, n2 := 24, s2 := 0x40 },
  { off := 0x16C0, reset := 16, n2 := 5, s2 := 0x40 },
  { off := 0x1004, n1 := 6, n2 := 32, s2 := 0x40 },
  { off := 0x101C, wo := 1, n2 := 32, s2 := 0x40 } ]

/-- GNSS (R225). -/
def rowsGnss : List RegRow := [
  { off := 0x000 },
  { off := 0x004, reset := 0x00053C73, rw := 0x00FFFFF7 },
  { off := 0x008, reset := 0x071F0707, rw := 0x3F3F3F3F },
  { off := 0x00C, reset := 0x001F071F, rw := 0x003F3F3F },
  { off := 0x010, reset := 0x00000064, rw := 0x00007FFF },
  { off := 0x014, reset := 100, rw := allMask },
  { off := 0x018, reset := 500, rw := allMask },
  { off := 0x01C, reset := 100, rw := allMask },
  { off := 0x020, reset := 0x00000191, rw := 0xFFF },
  { off := 0x024, rw := 0x000FFFFF },
  { off := 0x028, reset := 0xFFFFFFFF },
  { off := 0x02C, n1 := 3 },
  { off := 0x038, reset := 0x80000 },
  { off := 0x03C, reset := 52411, rw := 0xFFFF },
  { off := 0x040, n1 := 5 },
  { off := 0x080, rw := 0x3FFF, n1 := 8 } ]

/-- ACQ (R251 to R253). -/
def rowsAcq : List RegRow := [
  { off := 0x000 },
  { off := 0x004, rw := 3 },
  { off := 0x008 }, { off := 0x00C },
  { off := 0x010, wo := 0x13F },
  { off := 0x014, reset := 0x00000800, rw := 0x0000FF07 },
  { off := 0x020, reset := 0xFF60, rw := 0xFFFF },
  { off := 0x024, reset := 0x0000, rw := 0xFFFF },
  { off := 0x028, reset := 0x00A0, rw := 0xFFFF },
  { off := 0x02C, reset := 0x0140, rw := 0xFFFF },
  { off := 0x030, reset := 0x01E0, rw := 0xFFFF },
  { off := 0x034, reset := 0x0280, rw := 0xFFFF },
  { off := 0x038, reset := 0x0320, rw := 0xFFFF },
  { off := 0x100, rw := 0x8F8F8F8F, n1 := 15 },
  { off := 0x13C, rw := 0x008F8F8F },
  { off := 0x140, rw := allMask },
  { off := 0x1000, rw := 0x1FFFFFFF, n2 := 40, s2 := 0x100 },
  { off := 0x1004, rw := 0x1FF, n2 := 40, s2 := 0x100 },
  { off := 0x1008, n1 := 5, n2 := 40, s2 := 0x100 },
  { off := 0x1040, reset := 0x00400000, rw := 0x00FFFFFF, n1 := 8, s1 := 8, n2 := 40, s2 := 0x100 },
  { off := 0x1044, rw := 0x00FFFFFF, n1 := 8, s1 := 8, n2 := 40, s2 := 0x100 },
  { off := 0x4000, rw := 0x000FFFFF, n2 := 8, s2 := 0x10 },
  { off := 0x4004, n1 := 2, n2 := 8, s2 := 0x10 },
  { off := 0x4100, rw := 0x3FF, n2 := 4, s2 := 0x10 },
  { off := 0x4104, n1 := 2, n2 := 4, s2 := 0x10 },
  { off := 0x410C, wo := 1, n2 := 4, s2 := 0x10 },
  { off := 0x8000, rw := 0x00FFFFFF, n1 := 192 },
  { off := 0xC000, n1 := 192, n2 := 40, s2 := 0x400 } ]

/-- CAN, the pages of the controllers and the commissioning tables (R279, R280). -/
def rowsCan : List RegRow := [
  { off := 0x000, reset := 9, rw := 0x1F, wo := 0x20, n2 := 8, s2 := 0x1000 },
  { off := 0x004, reset := 0x00F1E7C1, rw := 0x07FFFFFF, n2 := 8, s2 := 0x1000 },
  { off := 0x008, rw := 0x03FFFFFF, n2 := 8, s2 := 0x1000 },
  { off := 0x00C, reset := 3, n2 := 8, s2 := 0x1000 },
  { off := 0x010, n1 := 6, n2 := 8, s2 := 0x1000 },
  { off := 0x028, reset := 1, boot := 1, n2 := 8, s2 := 0x1000 },
  { off := 0x030, reset := 0x00032021, rw := 0x0003FFFF, n2 := 8, s2 := 0x1000 },
  { off := 0x034, n2 := 8, s2 := 0x1000 },
  { off := 0x100, rw := allMask, n1 := 64, s1 := 8, n2 := 8, s2 := 0x1000 },
  { off := 0x104, rw := 0x1FFFFFFF, n1 := 64, s1 := 8, n2 := 8, s2 := 0x1000 },
  { off := 0x300, rw := allMask, n2 := 8, s2 := 0x1000 },
  { off := 0x304, wo := 0x30F, n2 := 8, s2 := 0x1000 },
  { off := 0x308, w1c := 0x700, n2 := 8, s2 := 0x1000 },
  { off := 0x340, rw := allMask, n1 := 16, n2 := 8, s2 := 0x1000 },
  { off := 0x400, n1 := 4, n2 := 8, s2 := 0x1000 },
  { off := 0x410, wo := 1, n2 := 8, s2 := 0x1000 },
  { off := 0x440, n1 := 16, n2 := 8, s2 := 0x1000 },
  { off := 0x500, w1c := 2, n2 := 8, s2 := 0x1000 },
  { off := 0x504, n1 := 3, n2 := 8, s2 := 0x1000 },
  { off := 0x510, wo := 1, n2 := 8, s2 := 0x1000 },
  { off := 0x540, n1 := 16, n2 := 8, s2 := 0x1000 },
  { off := 0x8000, com := 0x1FFFFFFF, n2 := 64, s2 := 0x10 },
  { off := 0x8004, com := 0xFF1F, n2 := 64, s2 := 0x10 },
  { off := 0x8008, n2 := 64, s2 := 0x10 },
  { off := 0x9000, com := 0x001FFFFF, n1 := 256 },
  { off := 0xA000, com := 0x00FFFFFF, n1 := 256, s1 := 8 },
  { off := 0xA004, n1 := 256, s1 := 8 } ]

/-- NET (R309, R310). -/
def rowsNet : List RegRow := [
  { off := 0x000, reset := 0x0000006A, rw := 0x1FF },
  { off := 0x004 }, { off := 0x008 }, { off := 0x00C },
  { off := 0x010, rw := allMask },
  { off := 0x014, reset := 0x0000C000, rw := 0x0007FFFF },
  { off := 0x018, reset := 0x00000190, rw := 0x3FF },
  { off := 0x01C, reset := 0x000007D0, rw := 0xFFFF },
  { off := 0x020, n1 := 7 },
  { off := 0x040, rw := allMask, n1 := 4 },
  { off := 0x050, reset := 0xFFFFFFFF, rw := allMask },
  { off := 0x054, reset := 0x00374458, rw := allMask },
  { off := 0x058, reset := 0x00004803, rw := 0xFFFF },
  { off := 0x060, reset := 0xEFC00004, rw := allMask },
  { off := 0x064, reset := 60004, rw := 0xFFFF },
  { off := 0x068, reset := 0x30304E47, rw := allMask },
  { off := 0x06C, reset := 0x00003130, rw := 0xFFFF },
  { off := 0x100, reset := 0x0008080C, rw := 0x0FFFFFFF },
  { off := 0x104, reset := 0x001E3000, rw := allMask },
  { off := 0x108, reset := 0x00FEF800 },
  { off := 0x10C, n1 := 8 },
  { off := 0x140, rw := 0x7FF },
  { off := 0x144, n1 := 3 },
  { off := 0x150, wo := 1 },
  { off := 0x180, rw := allMask, n1 := 2, n2 := 4, s2 := 0x10 },
  { off := 0x188, rw := 1, w1c := 2, n2 := 4, s2 := 0x10 } ]

/-- STAND (R334). -/
def rowsStand : List RegRow := [
  { off := 0x000 }, { off := 0x004 },
  { off := 0x008, reset := 0x0A321210, com := 0xFFFF1FFF },
  { off := 0x00C, reset := 24, com := 0xFFFF },
  { off := 0x010, reset := 0x0FA00001, com := pbvMask },
  { off := 0x014, n1 := 5 },
  { off := 0x028, wo := 1 },
  { off := 0x02C },
  { off := 0x030, reset := 0x00002200, rw := 0x000FFFFF } ]

/-- SAFE (R362, R363); the tables are set only at boot from the SAFE section. -/
def rowsSafe : List RegRow := [
  { off := 0x000, n1 := 11 },
  { off := 0x100, com := 0x0001FFFF, n1 := 16 },
  { off := 0x140, com := allMask, n1 := 12 } ]

/-- THKT (R385). -/
def rowsThkt : List RegRow := [
  { off := 0x000 },
  { off := 0x004, reset := 0x00780401, rw := 0xFFFFFF01 },
  { off := 0x008, reset := 52412, rw := 0xFFFF },
  { off := 0x00C, n1 := 13 },
  { off := 0x040, rw := 0x0003FFFF },
  { off := 0x044, n1 := 4 },
  { off := 0x054, rw := allMask },
  { off := 0x058, rw := 0x00FFFFFF, wo := 0x80000000 },
  { off := 0x05C },
  { off := 0x060, wo := 0x8003FFFF },
  { off := 0x064 }, { off := 0x068 },
  { off := 0x1000, com := allMask, n1 := 256, s1 := 8 },
  { off := 0x1004, com := 0xF, n1 := 256, s1 := 8 },
  { off := 0x2000, n1 := 512 } ]

/-- LOG (R400). -/
def rowsLog : List RegRow := [
  { off := 0x000 },
  { off := 0x004, reset := 0x003C0804, boot := 0x00FFFFFF },
  { off := 0x008 }, { off := 0x00C },
  { off := 0x010, rw := 1 },
  { off := 0x014 },
  { off := 0x018, wo := 0x80000003 },
  { off := 0x01C },
  { off := 0x020, n1 := 5 },
  { off := 0x034, reset := 0x00430000 },
  { off := 0x038, n1 := 2 },
  { off := 0x040, reset := 80000, boot := 0x00FFFFFF },
  { off := 0x100, boot := allMask, n1 := 32 } ]

/-- BLZ (R413). -/
def rowsBlz : List RegRow := [
  { off := 0x000 },
  { off := 0x004, reset := 480 + 272 * 512, com := 0x3FFFF },
  { off := 0x008, reset := 0x00320068, boot := 0x00FFFF7F },
  { off := 0x00C },
  { off := 0x010, reset := 0x080F4240, boot := 0x0FFFFFFF },
  { off := 0x014, reset := 0x00C80000, com := 0xFFFF0000 },
  { off := 0x018 }, { off := 0x01C } ]

/-- HOST (R455, R456), with the MSI-X table and PBA of R431. -/
def rowsHost : List RegRow := [
  { off := 0x000 },
  { off := 0x004, rw := 0x8F8F8F8F },
  { off := 0x008, rw := 0x008F8F8F },
  { off := 0x020, w1c := allMask, n1 := 8 },
  { off := 0x100, rw := 0x9F9F9F9F, n1 := 64 },
  { off := 0x200, wo := allMask },
  { off := 0x204, reset := 0xFFFFFFFF },
  { off := 0x280, rw := 0x3FF, n1 := 32 },
  { off := 0x3F0 },
  { off := 0x400, n1 := 128 },
  { off := 0x600, n1 := 44 },
  { off := 0x1000, rw := 0xFFFFF000, n2 := 16, s2 := 0x40 },
  { off := 0x1004, rw := allMask, n2 := 16, s2 := 0x40 },
  { off := 0x1008, rw := 0x10F, n2 := 16, s2 := 0x40 },
  { off := 0x100C, n2 := 16, s2 := 0x40 },
  { off := 0x1010, rw := 0xFFFFF000, n2 := 16, s2 := 0x40 },
  { off := 0x1014, rw := allMask, n2 := 16, s2 := 0x40 },
  { off := 0x1018, rw := 0x10F, n2 := 16, s2 := 0x40 },
  { off := 0x101C, n2 := 16, s2 := 0x40 },
  { off := 0x1020, rw := 0xFFFFFFF0, n2 := 16, s2 := 0x40 },
  { off := 0x1024, rw := allMask, n2 := 16, s2 := 0x40 },
  { off := 0x1028, n2 := 16, s2 := 0x40 },
  { off := 0x102C, wo := 1, n2 := 16, s2 := 0x40 },
  { off := 0x2000, n1 := 128 },
  { off := 0x8000, rw := allMask, n1 := 3, n2 := 32, s2 := 16 },
  { off := 0x800C, reset := 1, rw := 1, n2 := 32, s2 := 16 },
  { off := 0x9000 } ]

/-- Doorbell page of BAR2, kept at 0x0040_0000 beyond BAR0: a doorbell reads its last written value (R433). -/
def rowsBar2 : List RegRow := [ { off := 0x000, rw := allMask, n1 := 32 } ]

/-- The blocks of R11 with their bases and the event high byte that names their image sections (R5, R420). -/
inductive Block where
  | glb | rst | pin | loop | prof | est | alloc | grove | gnss | acq | can | net | stand | safe | thkt | log | blz
  | host | bar2
  deriving DecidableEq, Repr

/-- Base of a block in BAR0 (R11). -/
def blockBase : Block → Nat
  | .glb => 0 | .rst => 0x10000 | .pin => 0x20000 | .loop => 0x40000 | .prof => 0x80000 | .est => 0xC0000
  | .alloc => 0x100000 | .grove => 0x140000 | .gnss => 0x180000 | .acq => 0x1C0000 | .can => 0x200000
  | .net => 0x240000 | .stand => 0x280000 | .safe => 0x2C0000 | .thkt => 0x300000 | .log => 0x340000
  | .blz => 0x380000 | .host => 0x3C0000 | .bar2 => 0x400000

/-- Block that an address lies in (R11). -/
def blockOf (a : Nat) : Block :=
  if a < 0x10000 then .glb else if a < 0x20000 then .rst else if a < 0x40000 then .pin
  else if a < 0x80000 then .loop else if a < 0xC0000 then .prof else if a < 0x100000 then .est
  else if a < 0x140000 then .alloc else if a < 0x180000 then .grove else if a < 0x1C0000 then .gnss
  else if a < 0x200000 then .acq else if a < 0x240000 then .can else if a < 0x280000 then .net
  else if a < 0x2C0000 then .stand else if a < 0x300000 then .safe else if a < 0x340000 then .thkt
  else if a < 0x380000 then .log else if a < 0x3C0000 then .blz else if a < 0x400000 then .host else .bar2

/-- RST_DOM_STAT bit of the clock domain that a block's registers lie in (R39, R474; log entry 94). -/
def blockDomain : Block → Nat
  | .rst | .pin => 0
  | .glb | .thkt | .log | .blz => 1
  | .host | .bar2 => 2
  | .loop | .prof | .est | .alloc | .acq | .stand | .safe => 3
  | .net => 4
  | .grove => 5
  | .gnss => 6
  | .can => 7

/-- Register rows of a block. -/
def blockRows : Block → List RegRow
  | .glb => rowsGlb | .rst => rowsRst | .pin => rowsPin | .loop => rowsLoop | .prof => rowsProf | .est => rowsEst
  | .alloc => rowsAlloc | .grove => rowsGrove | .gnss => rowsGnss | .acq => rowsAcq | .can => rowsCan
  | .net => rowsNet | .stand => rowsStand | .safe => rowsSafe | .thkt => rowsThkt | .log => rowsLog
  | .blz => rowsBlz | .host => rowsHost | .bar2 => rowsBar2

/-- The register row at an address; none where no register stands (R14). -/
def regRow (a : Nat) : Option RegRow :=
  let b := blockOf a
  (blockRows b).find? (rowCovers (a - blockBase b))

/-- Reset value of the register at an address; 0 where none stands (R14, R16). -/
def regReset (a : Nat) : Word := BitVec.ofNat 32 ((regRow a).elim 0 RegRow.reset)

/-- Section identifier of a block in an image (R420). -/
def blockOfSect : Nat → Option Block
  | 0x01 => some .rst | 0x02 => some .loop | 0x03 => some .prof | 0x04 => some .est | 0x05 => some .alloc
  | 0x06 => some .grove | 0x07 => some .gnss | 0x08 => some .acq | 0x09 => some .can | 0x0A => some .net
  | 0x0B => some .stand | 0x0C => some .safe | 0x0D => some .thkt | 0x0E => some .log | 0x0F => some .blz
  | 0x10 => some .glb | 0x11 => some .host | 0x100 => some .glb | 0x102 => some .pin | 0x120 => some .pin
  | _ => none

end Sys2Proof.Machine
end

