-- ==== Sys2Proof/Machine/Regs.lean ====
section
/-! DEFINITION. Addresses of the registers that the engines read and write, as BAR0 offsets under the manual's names
(R11 and each chapter's register section). -/

namespace Sys2Proof.Machine

abbrev GLB_MODE_CMD : Nat := 0x004
abbrev GLB_MODE_STAT : Nat := 0x008
abbrev GLB_TICK_CFG : Nat := 0x010
abbrev GLB_TICK_STAT : Nat := 0x014
abbrev GLB_TICK_PHASE : Nat := 0x018
abbrev GLB_CYCLE_CNT : Nat := 0x01C
abbrev GLB_OVR_STAT : Nat := 0x020
abbrev GLB_OVR_CNT : Nat := 0x024
abbrev GLB_TICK_LOAD : Nat := 0x028
abbrev GLB_TICK_LOAD_CLR : Nat := 0x02C
abbrev GLB_XING_MERGE : Nat := 0x030

abbrev LOOP_ENG_STAT : Nat := 0x40000
abbrev LOOP_ENG_CFG : Nat := 0x40004
abbrev LOOP_RES_TOTAL : Nat := 0x40008
abbrev LOOP_CTX_CMD : Nat := 0x4000C
abbrev LOOP_CMD_STAT : Nat := 0x40010
abbrev LOOP_FAULT_SUM (k : Nat) : Nat := 0x40020 + 4 * k
abbrev LOOP_ECC_CNT : Nat := 0x40030
/-- Window of context n (R82). -/
abbrev loopWin (n : Nat) : Nat := 0x41000 + n * 0x400
abbrev LOOP_CTX_CFG (n : Nat) : Nat := loopWin n
abbrev LOOP_CTX_SRC (n : Nat) : Nat := loopWin n + 0x004
abbrev LOOP_CTX_OUT (n : Nat) : Nat := loopWin n + 0x008
abbrev LOOP_CTX_STALE (n : Nat) : Nat := loopWin n + 0x00C
abbrev LOOP_CTX_FBSCALE (n : Nat) : Nat := loopWin n + 0x010
abbrev LOOP_CTX_FBOFS (n : Nat) : Nat := loopWin n + 0x014
abbrev LOOP_CTX_WRAP (n : Nat) : Nat := loopWin n + 0x018
abbrev LOOP_CTX_IMIN (n : Nat) : Nat := loopWin n + 0x01C
abbrev LOOP_CTX_IMAX (n : Nat) : Nat := loopWin n + 0x020
abbrev LOOP_CTX_OMIN (n : Nat) : Nat := loopWin n + 0x024
abbrev LOOP_CTX_OMAX (n : Nat) : Nat := loopWin n + 0x028
abbrev LOOP_CTX_RATE_LIM (n : Nat) : Nat := loopWin n + 0x02C
abbrev LOOP_CTX_STAT (n : Nat) : Nat := loopWin n + 0x040
abbrev LOOP_CTX_FLT (n : Nat) : Nat := loopWin n + 0x044
abbrev LOOP_CTX_OUTV (n : Nat) : Nat := loopWin n + 0x048
abbrev LOOP_CTX_INTV (n : Nat) : Nat := loopWin n + 0x04C
abbrev LOOP_CTX_ERRV (n : Nat) : Nat := loopWin n + 0x050
abbrev LOOP_CTX_SPV (n : Nat) : Nat := loopWin n + 0x054
abbrev LOOP_CTX_FBV (n : Nat) : Nat := loopWin n + 0x058
abbrev LOOP_CTX_DV (n : Nat) : Nat := loopWin n + 0x05C
abbrev LOOP_CTX_SPCONST (n : Nat) : Nat := loopWin n + 0x060
abbrev LOOP_CTX_RESCNT (n : Nat) : Nat := loopWin n + 0x064
/-- Curve tables: c is 0 KP, 1 KI, 2 KD; i the breakpoint (R82). -/
abbrev loopCurve (n c i : Nat) : Nat := loopWin n + 0x100 + 0x100 * c + 4 * i

abbrev PROF_RES_TOTAL : Nat := 0x80000
/-- Window of generator g: 1 to 127 contexts, 128 north, 129 east, 130 heading (R106). -/
abbrev profWin (g : Nat) : Nat := if g < 128 then 0x81000 + g * 0x100 else 0x80800 + (g - 128) * 0x100
abbrev PROF_CFG (g : Nat) : Nat := profWin g
abbrev PROF_VMAX (g : Nat) : Nat := profWin g + 0x004
abbrev PROF_AMAX (g : Nat) : Nat := profWin g + 0x008
abbrev PROF_JMAX (g : Nat) : Nat := profWin g + 0x00C
abbrev PROF_TSCALE (g : Nat) : Nat := profWin g + 0x010
abbrev PROF_TOFS (g : Nat) : Nat := profWin g + 0x014
abbrev PROF_TMIN (g : Nat) : Nat := profWin g + 0x018
abbrev PROF_TMAX (g : Nat) : Nat := profWin g + 0x01C
abbrev PROF_TJUMP (g : Nat) : Nat := profWin g + 0x020
abbrev PROF_MATCH (g : Nat) : Nat := profWin g + 0x024
abbrev PROF_HTGT (g : Nat) : Nat := profWin g + 0x030
abbrev PROF_STAT (g : Nat) : Nat := profWin g + 0x040
abbrev PROF_FLT (g : Nat) : Nat := profWin g + 0x044
abbrev PROF_POSV (g : Nat) : Nat := profWin g + 0x048
abbrev PROF_VELV (g : Nat) : Nat := profWin g + 0x04C
abbrev PROF_ACCV (g : Nat) : Nat := profWin g + 0x050
abbrev PROF_TGTV (g : Nat) : Nat := profWin g + 0x054

abbrev EST_STAT : Nat := 0xC0000
abbrev EST_CFG : Nat := 0xC0004
abbrev EST_LIM0 : Nat := 0xC0008
abbrev EST_LIM1 : Nat := 0xC000C
abbrev EST_MED_LIM : Nat := 0xC0010
abbrev EST_VAR_MAX : Nat := 0xC0014
abbrev EST_INNOV_K : Nat := 0xC0018
abbrev EST_FREEZE_EPS : Nat := 0xC001C
abbrev EST_GYRO_LIM : Nat := 0xC0020
abbrev EST_AMB_RATIO : Nat := 0xC0024
abbrev EST_BL_TOL : Nat := 0xC0028
abbrev EST_SLIP_LIM : Nat := 0xC002C
abbrev EST_LEVER_STEP_MAX : Nat := 0xC0030
abbrev EST_BASE_X : Nat := 0xC0034
abbrev EST_BASE_Y : Nat := 0xC0038
abbrev EST_BASE_Z : Nat := 0xC003C
abbrev EST_ORIGIN_LAT : Nat := 0xC0040
abbrev EST_ORIGIN_LON : Nat := 0xC0044
abbrev EST_SENS_CFG : Nat := 0xC0048
abbrev EST_TALK (k : Nat) : Nat := 0xC0050 + 4 * k
abbrev EST_REF_UDP : Nat := 0xC0060
abbrev EST_SENS_BAD : Nat := 0xC0064
abbrev EST_REF_CFG (n : Nat) : Nat := 0xC0100 + n * 0x20
abbrev EST_REF_LEVX (n : Nat) : Nat := EST_REF_CFG n + 0x04
abbrev EST_REF_LEVY (n : Nat) : Nat := EST_REF_CFG n + 0x08
abbrev EST_REF_LEVZ (n : Nat) : Nat := EST_REF_CFG n + 0x0C
abbrev EST_REF_SIGMA (n : Nat) : Nat := EST_REF_CFG n + 0x10
abbrev EST_REF_STAT (n : Nat) : Nat := EST_REF_CFG n + 0x14
abbrev EST_REF_CNT (n : Nat) : Nat := EST_REF_CFG n + 0x18
abbrev EST_REF_DROP (n : Nat) : Nat := EST_REF_CFG n + 0x1C
/-- Bundle results of reference n: k is 0 north bias, 1 east bias, 2 forward, 3 starboard (R141). -/
abbrev estBias (n k : Nat) : Nat := 0xC0200 + n * 0x10 + 4 * k
abbrev estGyroBias (n : Nat) : Nat := 0xC0260 + 4 * n
abbrev estAnt (k : Nat) : Nat := 0xC026C + 4 * k
abbrev EST_BND_STAT : Nat := 0xC0280

abbrev ALLOC_STAT : Nat := 0x100000
abbrev ALLOC_CFG : Nat := 0x100004
abbrev ALLOC_THR_EN : Nat := 0x100008
abbrev ALLOC_THR_AVAIL : Nat := 0x10000C
abbrev ALLOC_ZONE_IN : Nat := 0x100010
abbrev ALLOC_RES_TOTAL : Nat := 0x100014
/-- Registers of axis a: 0 surge, 1 sway, 2 yaw (R168). -/
abbrev ALLOC_KP (a : Nat) : Nat := 0x100020 + 4 * a
abbrev ALLOC_KD (a : Nat) : Nat := 0x10002C + 4 * a
abbrev ALLOC_KB (a : Nat) : Nat := 0x100038 + 4 * a
abbrev ALLOC_KW (a : Nat) : Nat := 0x100044 + 4 * a
abbrev ALLOC_TAU_LIM (a : Nat) : Nat := 0x100050 + 4 * a
abbrev ALLOC_Q (a : Nat) : Nat := 0x10005C + 4 * a
abbrev ALLOC_SF_LIM (a : Nat) : Nat := 0x100068 + 4 * a
abbrev ALLOC_TAU (a : Nat) : Nat := 0x100080 + 4 * a
abbrev ALLOC_SHORT (a : Nat) : Nat := 0x10008C + 4 * a
/-- Window of thruster n (R169). -/
abbrev thrWin (n : Nat) : Nat := 0x101000 + n * 0x80
abbrev ALLOC_THR_CFG (n : Nat) : Nat := thrWin n
abbrev THR_POS_X (n : Nat) : Nat := thrWin n + 0x04
abbrev THR_POS_Y (n : Nat) : Nat := thrWin n + 0x08
abbrev THR_FMIN (n : Nat) : Nat := thrWin n + 0x0C
abbrev THR_FMAX (n : Nat) : Nat := thrWin n + 0x10
abbrev THR_FRATE (n : Nat) : Nat := thrWin n + 0x14
abbrev THR_SLEW (n : Nat) : Nat := thrWin n + 0x18
abbrev THR_RUD_K (n : Nat) : Nat := thrWin n + 0x1C
abbrev THR_RUD_MAX (n : Nat) : Nat := thrWin n + 0x20
abbrev THR_ANG_OFS (n : Nat) : Nat := thrWin n + 0x24
abbrev ALLOC_THR_W (n : Nat) : Nat := thrWin n + 0x28
/-- Zone z of a thruster: e is 0 for LO, 1 for HI. -/
abbrev THR_ZONE (n z e : Nat) : Nat := thrWin n + 0x2C + 8 * z + 4 * e
abbrev ALLOC_THR_STAT (n : Nat) : Nat := thrWin n + 0x3C
abbrev ALLOC_THR_FX (n : Nat) : Nat := thrWin n + 0x40
abbrev ALLOC_THR_FY (n : Nat) : Nat := thrWin n + 0x44
abbrev ALLOC_THR_ANG (n : Nat) : Nat := thrWin n + 0x48
abbrev ALLOC_MAP (n i : Nat) : Nat := 0x103000 + n * 0x80 + 4 * i
abbrev ALLOC_GRP_CFG (g : Nat) : Nat := 0x105000 + g * 0x20
abbrev ALLOC_GRP_MASK (g : Nat) : Nat := ALLOC_GRP_CFG g + 0x04
abbrev ALLOC_GRP_S (g a : Nat) : Nat := ALLOC_GRP_CFG g + 0x08 + 4 * a
abbrev ALLOC_GRP_STAT (g : Nat) : Nat := ALLOC_GRP_CFG g + 0x14

abbrev GROVE_STAT : Nat := 0x140000
abbrev GROVE_INSVC : Nat := 0x140004
abbrev GROVE_CFG : Nat := 0x140008
abbrev GROVE_ITER : Nat := 0x14000C
abbrev GROVE_ERR_TOTAL : Nat := 0x140010
abbrev GROVE_RES_TOTAL : Nat := 0x140014
abbrev GROVE_ECC_CNT : Nat := 0x140018
abbrev GROVE_REFUSED : Nat := 0x14001C
abbrev GROVE_HOST_MAP : Nat := 0x140020
abbrev GROVE_LANE_STAT (n : Nat) : Nat := 0x141000 + n * 0x40
abbrev GROVE_LANE_SHAPE (n : Nat) : Nat := GROVE_LANE_STAT n + 0x04
abbrev GROVE_LANE_TIME (n : Nat) : Nat := GROVE_LANE_STAT n + 0x08
abbrev GROVE_LANE_TMAX (n : Nat) : Nat := GROVE_LANE_STAT n + 0x0C
abbrev GROVE_LANE_ITER (n : Nat) : Nat := GROVE_LANE_STAT n + 0x10
abbrev GROVE_LANE_ERRCNT (n : Nat) : Nat := GROVE_LANE_STAT n + 0x14
abbrev GROVE_LANE_TAG (n : Nat) : Nat := GROVE_LANE_STAT n + 0x18
abbrev GROVE_LANE_CLR (n : Nat) : Nat := GROVE_LANE_STAT n + 0x1C

abbrev GNSS_STAT : Nat := 0x180000
abbrev GNSS_CFG : Nat := 0x180004
abbrev GNSS_SPC0 : Nat := 0x180008
abbrev GNSS_SPC1 : Nat := 0x18000C
abbrev GNSS_DISC_CFG : Nat := 0x180010
abbrev GNSS_HOLD_FUNC : Nat := 0x180014
abbrev GNSS_HOLD_AGING : Nat := 0x180018
abbrev GNSS_HOLD_WARN : Nat := 0x18001C
abbrev GNSS_PPS_CFG : Nat := 0x180020
abbrev GNSS_PPS_DLY : Nat := 0x180024
abbrev GNSS_TERR : Nat := 0x180028
abbrev GNSS_PHASE_REM : Nat := 0x18002C
abbrev GNSS_FREQ_CORR : Nat := 0x180030
abbrev GNSS_HOLD_S : Nat := 0x180034
abbrev GNSS_TUNE : Nat := 0x180038
abbrev GNSS_TIME_UDP : Nat := 0x18003C
abbrev GNSS_FE_AGC (k : Nat) : Nat := 0x180040 + 4 * k
abbrev GNSS_SENT_DROP : Nat := 0x180050
abbrev GNSS_SENT_CFG (u : Nat) : Nat := 0x180080 + 4 * u

abbrev ACQ_STAT : Nat := 0x1C0000
abbrev ACQ_CTRL : Nat := 0x1C0004
abbrev ACQ_CAL : Nat := 0x1C0008
abbrev ACQ_FIR_LOAD : Nat := 0x1C000C
abbrev ACQ_APPLY : Nat := 0x1C0010
abbrev ACQ_TEMP : Nat := 0x1C0014
abbrev ACQ_TB (j : Nat) : Nat := 0x1C001C + 4 * j
abbrev ACQ_SAR_SEQ (k : Nat) : Nat := 0x1C0100 + 4 * k
abbrev ACQ_SAR_RANGE : Nat := 0x1C0140
/-- Window of chain n (R252). -/
abbrev chWin (n : Nat) : Nat := 0x1C1000 + n * 0x100
abbrev ACQ_CH_CFG (n : Nat) : Nat := chWin n
abbrev ACQ_CH_FIR (n : Nat) : Nat := chWin n + 0x04
abbrev ACQ_CH_STAT (n : Nat) : Nat := chWin n + 0x08
abbrev ACQ_CH_VAL (n : Nat) : Nat := chWin n + 0x0C
abbrev ACQ_CH_STAMP (n : Nat) : Nat := chWin n + 0x10
abbrev ACQ_CH_SEQ (n : Nat) : Nat := chWin n + 0x14
abbrev ACQ_CH_SUPP (n : Nat) : Nat := chWin n + 0x18
abbrev ACQ_CH_GAIN (n b : Nat) : Nat := chWin n + 0x40 + 8 * b
abbrev ACQ_CH_OFS (n b : Nat) : Nat := chWin n + 0x44 + 8 * b
abbrev ACQ_PULSE_CFG (n : Nat) : Nat := 0x1C4000 + n * 0x10
abbrev ACQ_PULSE_VAL (n : Nat) : Nat := ACQ_PULSE_CFG n + 0x04
abbrev ACQ_PULSE_STAT (n : Nat) : Nat := ACQ_PULSE_CFG n + 0x08
abbrev ACQ_QUAD_CFG (n : Nat) : Nat := 0x1C4100 + n * 0x10
abbrev ACQ_QUAD_POS (n : Nat) : Nat := ACQ_QUAD_CFG n + 0x04
abbrev ACQ_QUAD_ERR (n : Nat) : Nat := ACQ_QUAD_CFG n + 0x08
abbrev ACQ_QUAD_ZERO (n : Nat) : Nat := ACQ_QUAD_CFG n + 0x0C
abbrev ACQ_FIR_SHADOW (k : Nat) : Nat := 0x1C8000 + 4 * k
abbrev ACQ_FIR_LIVE (n k : Nat) : Nat := 0x1CC000 + n * 0x400 + 4 * k

/-- Page of controller n (R11). -/
abbrev canPage (n : Nat) : Nat := 0x200000 + n * 0x1000
abbrev CAN_CTRL (n : Nat) : Nat := canPage n
abbrev CAN_NBT (n : Nat) : Nat := canPage n + 0x004
abbrev CAN_DBT (n : Nat) : Nat := canPage n + 0x008
abbrev CAN_STAT (n : Nat) : Nat := canPage n + 0x00C
abbrev CAN_TDC_MEAS (n : Nat) : Nat := canPage n + 0x010
abbrev CAN_ERR_CNT (n : Nat) : Nat := canPage n + 0x014
abbrev CAN_LEDGER_IN (n : Nat) : Nat := canPage n + 0x018
abbrev CAN_LEDGER_OUT (n : Nat) : Nat := canPage n + 0x01C
abbrev CAN_LEDGER_HELD (n : Nat) : Nat := canPage n + 0x020
abbrev CAN_LEDGER_DROP (n : Nat) : Nat := canPage n + 0x024
abbrev CAN_GCFG (n : Nat) : Nat := canPage n + 0x028
abbrev CAN_TREF_CFG (n : Nat) : Nat := canPage n + 0x030
abbrev CAN_TREF_SOF (n : Nat) : Nat := canPage n + 0x034
abbrev CAN_FLT_ID (n f : Nat) : Nat := canPage n + 0x100 + 8 * f
abbrev CAN_FLT_MASK (n f : Nat) : Nat := canPage n + 0x104 + 8 * f
abbrev CAN_TB2_ID (n : Nat) : Nat := canPage n + 0x300
abbrev CAN_TB2_CTL (n : Nat) : Nat := canPage n + 0x304
abbrev CAN_TB_STAT (n : Nat) : Nat := canPage n + 0x308
abbrev CAN_TB2_DATA (n w : Nat) : Nat := canPage n + 0x340 + 4 * w
abbrev CAN_RXF_STAT (n : Nat) : Nat := canPage n + 0x400
abbrev CAN_RXF_ID (n : Nat) : Nat := canPage n + 0x404
abbrev CAN_RXF_POP (n : Nat) : Nat := canPage n + 0x410
abbrev CAN_RXF_DATA (n w : Nat) : Nat := canPage n + 0x440 + 4 * w
abbrev CAN_HP_STAT (n : Nat) : Nat := canPage n + 0x500
abbrev CAN_HP_ID (n : Nat) : Nat := canPage n + 0x504
abbrev CAN_HP_RELEASE (n : Nat) : Nat := canPage n + 0x510
abbrev CAN_RXF_CTL (n : Nat) : Nat := canPage n + 0x408
abbrev CAN_RXF_STAMP (n : Nat) : Nat := canPage n + 0x40C
abbrev CAN_HP_CTL (n : Nat) : Nat := canPage n + 0x508
abbrev CAN_HP_STAMP (n : Nat) : Nat := canPage n + 0x50C
abbrev CAN_HP_DATA (n w : Nat) : Nat := canPage n + 0x540 + 4 * w
abbrev CAN_STR_CFG (s : Nat) : Nat := 0x208000 + 0x10 * s
abbrev CAN_STR_CFG2 (s : Nat) : Nat := 0x208004 + 0x10 * s
abbrev CAN_STR_STAT (s : Nat) : Nat := 0x208008 + 0x10 * s
abbrev CAN_CMD_FLD (k : Nat) : Nat := 0x209000 + 4 * k
abbrev CAN_RX_FLD (k : Nat) : Nat := 0x20A000 + 8 * k
abbrev CAN_RX_VAL (k : Nat) : Nat := 0x20A004 + 8 * k

abbrev NET_CFG : Nat := 0x240000
abbrev NET_STAT : Nat := 0x240004
abbrev NET_MAC_LO : Nat := 0x240008
abbrev NET_MAC_HI : Nat := 0x24000C
abbrev NET_IP : Nat := 0x240010
abbrev NET_VLAN : Nat := 0x240014
abbrev NET_DD_CFG : Nat := 0x240018
abbrev NET_SUP_CFG : Nat := 0x24001C
abbrev NET_FWD_CNT : Nat := 0x240020
abbrev NET_DUP_CNT : Nat := 0x240024
abbrev NET_DROP_CNT : Nat := 0x240028
abbrev NET_EVICT_CNT : Nat := 0x24002C
abbrev NET_RX_ERR : Nat := 0x240030
abbrev NET_WRONG_LAN : Nat := 0x240034
abbrev NET_UNK_CNT : Nat := 0x240038
abbrev NET_MCAST (k : Nat) : Nat := 0x240040 + 4 * k
abbrev NET_UDP_DST : Nat := 0x240050
abbrev NET_BRF_DST_LO : Nat := 0x240054
abbrev NET_BRF_DST_HI : Nat := 0x240058
abbrev NET_450_GRP : Nat := 0x240060
abbrev NET_450_PORT : Nat := 0x240064
abbrev NET_450_SFI_LO : Nat := 0x240068
abbrev NET_450_SFI_HI : Nat := 0x24006C
abbrev NET_TSRC_CFG : Nat := 0x240100
abbrev NET_PTP_INT : Nat := 0x240104
abbrev NET_TIME_STAT : Nat := 0x240108
abbrev NET_PTP_OFS : Nat := 0x24010C
abbrev NET_PDELAY (portB : Bool) : Nat := if portB then 0x240114 else 0x240110
abbrev NET_GM_ID_LO : Nat := 0x240118
abbrev NET_GM_ID_HI : Nat := 0x24011C
abbrev NET_TNOW_NS : Nat := 0x240120
abbrev NET_TNOW_ERA : Nat := 0x240124
abbrev NET_TC_CNT : Nat := 0x240128
abbrev NET_EVT_CFG : Nat := 0x240140
abbrev NET_EVT_STAT : Nat := 0x240144
abbrev NET_EVT_NS : Nat := 0x240148
abbrev NET_EVT_ERA : Nat := 0x24014C
abbrev NET_EVT_POP : Nat := 0x240150
abbrev NET_ALARM_NS (a : Nat) : Nat := 0x240180 + 0x10 * a
abbrev NET_ALARM_ERA (a : Nat) : Nat := 0x240184 + 0x10 * a
abbrev NET_ALARM_CTL (a : Nat) : Nat := 0x240188 + 0x10 * a

abbrev SAFE_STAT : Nat := 0x2C0000
abbrev SAFE_OUT_STAT : Nat := 0x2C0004
abbrev SAFE_OUT_RB : Nat := 0x2C0008
abbrev SAFE_IN_LVL : Nat := 0x2C000C
abbrev SAFE_IN_DEM : Nat := 0x2C0010
abbrev SAFE_DF_STAMP : Nat := 0x2C0014
abbrev SAFE_DF_ERA : Nat := 0x2C0018
abbrev SAFE_CNT : Nat := 0x2C001C
abbrev SAFE_DARK_CNT : Nat := 0x2C0020
abbrev SAFE_UST_FREQ : Nat := 0x2C0024
abbrev SAFE_RST_LAST : Nat := 0x2C0028
abbrev SAFE_IN_CFG (i : Nat) : Nat := 0x2C0100 + 4 * i
abbrev SAFE_OUT_CFG (k : Nat) : Nat := 0x2C0140 + 4 * k

abbrev GLB_TEMP (n : Nat) : Nat := 0x1000 + 4 * n
abbrev GLB_TJ_WARN : Nat := 0x1020
abbrev GLB_SUP (m : Nat) : Nat := 0x1040 + 4 * m
abbrev GLB_SESS_CMD : Nat := 0x1080
abbrev GLB_SESS_STAT : Nat := 0x1084
abbrev GLB_SESS_CFG : Nat := 0x1088
abbrev GLB_SESS_CHAL (k : Nat) : Nat := 0x10A0 + 4 * k
abbrev GLB_SESS_RESP (k : Nat) : Nat := 0x10C0 + 4 * k
abbrev GLB_HW_STAT : Nat := 0x1100
abbrev GLB_HW_REQ0 : Nat := 0x1104
abbrev GLB_SLOT (n : Nat) : Nat := 0x1110 + 4 * n
abbrev GLB_RB : Nat := 0x1140
abbrev GLB_OWNER : Nat := 0x1144
abbrev GLB_SN_LO : Nat := 0x1148
abbrev GLB_SN_HI : Nat := 0x114C
abbrev GLB_IMG_STAT : Nat := 0x1150
abbrev GLB_ENROL_CMD : Nat := 0x1160
abbrev GLB_ENROL_STAT : Nat := 0x1164
abbrev GLB_ENROL_DATA (k : Nat) : Nat := 0x1180 + 4 * k
abbrev GLB_ATT_NONCE (k : Nat) : Nat := 0x11E0 + 4 * k
abbrev GLB_ATT_CMD : Nat := 0x11F0

abbrev STAND_STAT : Nat := 0x280000
abbrev STAND_SDW : Nat := 0x280004
abbrev STAND_CFG : Nat := 0x280008
abbrev STAND_SWAP : Nat := 0x28000C
abbrev STAND_DIV_LIM : Nat := 0x280010
abbrev STAND_LEAD_SDW : Nat := 0x280014
abbrev STAND_SECOND_SDW : Nat := 0x280018
abbrev STAND_MISS : Nat := 0x28001C
abbrev STAND_SET_CNT : Nat := 0x280020
abbrev STAND_SWAP_LEFT : Nat := 0x280024
abbrev STAND_CMD : Nat := 0x280028
abbrev STAND_DSEQ : Nat := 0x28002C
abbrev STAND_STD_CFG : Nat := 0x280030

abbrev HOST_STAT : Nat := 0x3C0000
abbrev HOST_ROUTE (k : Nat) : Nat := 0x3C0004 + 4 * k
abbrev HOST_EVT_PEND (k : Nat) : Nat := 0x3C0020 + 4 * k
abbrev HOST_EVT_MAP (k : Nat) : Nat := 0x3C0100 + 4 * k
abbrev HOST_VEC_ACK : Nat := 0x3C0200
abbrev HOST_VEC_ARMED : Nat := 0x3C0204
abbrev HOST_VEC_MOD (v : Nat) : Nat := 0x3C0280 + 4 * v
abbrev HOST_LDG_TICK : Nat := 0x3C03F0
/-- Snapshot of pair p, counter k: REP IN, OUT, HELD, DROP, CMD IN, OUT, HELD, DROP (R455). -/
abbrev HOST_SNAP (p k : Nat) : Nat := 0x3C0400 + 0x20 * p + 4 * k
/-- Snapshot of CAN n, and n = 8, 9, 10 Thicket frames, Thicket records and the recorder. -/
abbrev HOST_SNAP_LDG (n k : Nat) : Nat := 0x3C0600 + 0x10 * n + 4 * k
abbrev HOST_LIVE (p k : Nat) : Nat := 0x3C2000 + 0x20 * p + 4 * k
abbrev pairWin (p : Nat) : Nat := 0x3C1000 + 0x40 * p
abbrev HOST_CMD_CFG (p : Nat) : Nat := pairWin p + 0x08
abbrev HOST_CMD_PTR (p : Nat) : Nat := pairWin p + 0x0C
abbrev HOST_REP_CFG (p : Nat) : Nat := pairWin p + 0x18
abbrev HOST_REP_PTR (p : Nat) : Nat := pairWin p + 0x1C
abbrev HOST_PAIR_STAT (p : Nat) : Nat := pairWin p + 0x28
/-- Doorbells of pair p in BAR2 (R433). -/
abbrev DOORBELL (p k : Nat) : Nat := 0x400000 + 8 * p + 4 * k
/-- MSI-X table of vector v and the PBA (R431). -/
abbrev MSIX_TAB (v k : Nat) : Nat := 0x3C8000 + 16 * v + 4 * k
abbrev MSIX_PBA : Nat := 0x3C9000

abbrev THKT_STAT : Nat := 0x300000
abbrev THKT_CFG : Nat := 0x300004
abbrev THKT_UDP : Nat := 0x300008
abbrev THKT_QUEUE : Nat := 0x30000C
/-- Frame ledger and record ledger: k is 0 IN, 1 OUT, 2 HELD, 3 DROP (R385). -/
abbrev THKT_LEDGER (k : Nat) : Nat := 0x300010 + 4 * k
abbrev THKT_CREC (k : Nat) : Nat := 0x300020 + 4 * k
abbrev THKT_ENT_BAD : Nat := 0x300030
abbrev THKT_ENT_REFUSED : Nat := 0x300034
abbrev THKT_SERIAL_LO : Nat := 0x300038
abbrev THKT_SERIAL_HI : Nat := 0x30003C
abbrev THKT_PT_IDX : Nat := 0x300040
abbrev THKT_PT (k : Nat) : Nat := 0x300044 + 4 * k
abbrev THKT_FIND_LO : Nat := 0x300054
abbrev THKT_FIND_HI : Nat := 0x300058
abbrev THKT_FIND_RES : Nat := 0x30005C
abbrev THKT_RELEASE : Nat := 0x300060
abbrev THKT_REL_STAT : Nat := 0x300064
abbrev THKT_ECC : Nat := 0x300068
abbrev THKT_GW_IP (g : Nat) : Nat := 0x301000 + 8 * g
abbrev THKT_GW_CFG (g : Nat) : Nat := 0x301004 + 8 * g
abbrev THKT_GW_STAT (g : Nat) : Nat := 0x302000 + 8 * g
abbrev THKT_GW_SEQ (g : Nat) : Nat := 0x302004 + 8 * g

abbrev LOG_STAT : Nat := 0x340000
abbrev LOG_CFG : Nat := 0x340004
abbrev LOG_PWR_CYC : Nat := 0x340008
abbrev LOG_OP_S : Nat := 0x34000C
abbrev LOG_FREEZE : Nat := 0x340010
abbrev LOG_FROZEN_CNT : Nat := 0x340014
abbrev LOG_CLEAR : Nat := 0x340018
abbrev LOG_CLR_STAT : Nat := 0x34001C
abbrev LOG_LEDGER (k : Nat) : Nat := 0x340020 + 4 * k
abbrev LOG_DUFF_PTR : Nat := 0x340030
abbrev LOG_CIRC_HEAD : Nat := 0x340034
abbrev LOG_PIN_USE : Nat := 0x340038
abbrev LOG_WEAR : Nat := 0x34003C
abbrev LOG_WEAR_WARN : Nat := 0x340040
abbrev LOG_RL_OVR (k : Nat) : Nat := 0x340100 + 4 * k

abbrev BLZ_STAT : Nat := 0x380000
abbrev BLZ_GEOM : Nat := 0x380004
abbrev BLZ_I2C_CFG : Nat := 0x380008
abbrev BLZ_TEMP : Nat := 0x38000C
abbrev BLZ_RC_CFG : Nat := 0x380010
abbrev BLZ_BARK : Nat := 0x380014
abbrev BLZ_RC_MAX : Nat := 0x380018
abbrev BLZ_UPD_CNT : Nat := 0x38001C

abbrev RST_CAUSE : Nat := 0x10000
abbrev RST_LAST : Nat := 0x10004
abbrev RST_COUNT : Nat := 0x10008
abbrev RST_DOM_STAT : Nat := 0x1000C
abbrev RST_CLK_STAT : Nat := 0x10010
abbrev RST_CRIT : Nat := 0x10014
abbrev RST_STRAP : Nat := 0x10018
abbrev PIN_FUSE0 : Nat := 0x20000
abbrev PIN_OVR0 : Nat := 0x20004
abbrev PIN_OVR_EN : Nat := 0x20008
abbrev PIN_CFGD : Nat := 0x2000C

end Sys2Proof.Machine
end

