-- ==== Sys2Proof/Config.lean ====
section
/-! DEFINITION. What an implementation fixes and the free values: constants without a body, so that no proof can
see their value. Each is named in the assumption log. -/

namespace Sys2Proof.Config

/-- Free: nanoseconds from the last tick boundary to the instant of the n-th stamp (log entry 4). -/
opaque subTickNs : Nat → Nat

/-- Free: byte j of the n-th session challenge, from the entropy source of R427 (log entry 5). -/
opaque challengeByte : Nat → Nat → Byte

/-- Free: the ECDSA signature bytes (SIG_R then SIG_S) of the n-th signed message of R380 and R428 (log entry 6). -/
opaque signatureByte : Nat → Nat → Byte

/-- Free: word k of the model that an EST section of an image carries, R108: its place in the section is not given (log entry
8). -/
opaque modelWord : List Byte → Nat → Word

/-- Free: wind force on axis a (0 surge, 1 sway, 2 yaw) that a model's wind-force coefficients give at a relative speed and
angle (R108, R125; log entry 8). -/
opaque windForce : List Word → Nat → Rat → Rat → Rat

/-- Free: change of a column over one cycle that the known wind input makes in a model, at a relative speed and angle (R108,
R125; log entry 8). -/
opaque windInput : List Word → Nat → Rat → Rat → Rat

/-- Free: filtered wind (angle, speed) from the filtered wind before and a sample; R125 gives no filter (log entry 8). -/
opaque windFilter : Rat × Rat → Rat × Rat → Rat × Rat

/-- Free: the fixed latitude and longitude, in 10^-7 degree, of an estimate (north, east) about an origin (R376; log
entry 10). -/
opaque geodetic : Int → Int → Rat → Rat → Int × Int

/-- Free: north and east of a latitude and longitude about an origin, metres (R109, R129; log entry 10). -/
opaque localPlane : Int → Int → Int → Int → Rat × Rat

/-- Free: clock accuracy code of IEEE 1588 for a bound in ns is a published table; the model keeps it (log entry 11). -/
opaque clockAccuracy : Nat → Byte

/-- Free: square-root information of a column in the wide prior; R135 gives no number (log entry 98). -/
opaque wideInfo : Nat → Rat

/-- Free: the raw bits of the device certificate, fixed at final test (R418; log entry 12). -/
opaque certificateByte : Nat → Byte

/-- Free: custody public key bytes, X then Y (R418; log entry 12). -/
opaque custodyKeyByte : Nat → Byte

/-- Free: OSC_TUNE after the n-th fix used with TUNE_EN = 1, and the part of the correction in 10^-12 that it carries; R215
gives no law of the split (log entry 13). -/
opaque tuneWord : Nat → BitVec 20
opaque tuneShare : Nat → Rat

/-- Free: a live SAR code under an offset and a gain correction that are not both zero; R230 gives no formula (log
entry 17). -/
opaque sarCorrect : Int → Int → Int → Int

/-- Free: a FIR load in 10^6 pairs/s that is no whole number; R237 gives no rounding (log entry 18). -/
opaque firLoad : Rat → Nat

/-- Free: offset above 119, modulo 9, of REC after a frame received with REC above 127; ISO 11898-1 gives a range (log
entry 19). -/
opaque recAfter : Nat → Nat

/-- Free: WF_LEN of a panel temperature band, frames; the layout of waveforms in the artwork is not given (log entry 21). -/
opaque wfLen : Nat → Nat

/-- Free: SOLVCLK cycles and iterations of a solve that a step, a moved role or a reset breaks off, which no command carries
(R195, R202; log entry 22). -/
opaque brokenSolve : Nat → Nat × Nat

/-- Free: the fuses that a burn cut short has blown; R423 bounds their number (log entry 94). -/
opaque burnCut : Nat → Nat

/-- Free: a generator's position, velocity or target that falls outside 64 bits; R87 gives the format and not what becomes of
such a value (log entry 86). -/
opaque genWide : Int → BitVec 64

end Sys2Proof.Config
end

