-- ==== Sys2Proof/Machine/State.lean ====
section
/-! DEFINITION. The state of the block as plain data: the register file, what each engine holds behind its registers,
and the queue of commands (INVENTORY.md lists every piece with its rule and reset value). -/

namespace Sys2Proof.Machine

/-- How the last host access completed (R15, R41). -/
inductive Cpl where
  | ok
  | unsupported
  | timeout
  deriving DecidableEq, Repr

/-- One event as an engine raises it: code, parameters, local time in ns and whether local time was valid (R5, R386). -/
structure EvRec where
  code : Nat
  p1 : Word
  p2 : Word
  p3 : Word
  stamp : Int
  valid : Bool
  deriving DecidableEq, Repr

/-- The sequencer's own state (R20 to R38). -/
structure SeqSt where
  /-- Number of the tick that begins next. -/
  nextTick : Nat := 0
  /-- Mode command held until the boundary: 0 none, 1 Operate, 2 Watch (R38). -/
  heldCmd : Nat := 0
  /-- GLB_TICK_CFG in force (R25). -/
  tickCfg : Word := 0x00320003
  /-- GLB_TICK_LOAD is zeroed at the next tick boundary (R35). -/
  loadClr : Bool := false
  /-- Adjusted ticks of the present cycle, and whether they are long (R22). -/
  slewTicks : Nat := 0
  slewLong : Bool := false
  /-- Length in ns of the adjusted tick of a step, while it waits to run (R23). -/
  adjLen : Option Rat := none
  /-- The sequencer has not begun its first alignment (R24). -/
  freeRunning : Bool := true
  /-- Grove work released in this cycle is discarded, because a step entered it (R23). -/
  abortGrove : Bool := false
  /-- CTLCLK cycles from reset to the last tick boundary. -/
  cyc : Nat := 0
  /-- The same at the tick boundary before it. -/
  tickCyc : Nat := 0
  hostCpl : Cpl := .ok
  /-- The model's counter that indexes free values (log entry 4). -/
  freeCtr : Nat := 0
  deriving DecidableEq, Repr

/-- Local time (R215 to R218, R300). -/
structure ClkSt where
  /-- Local time in ns at the last tick boundary. -/
  localNs : Rat := 0
  /-- Local time in ns at the last cycle boundary. -/
  cycleNs : Rat := 0
  /-- FREQ_CORR in 10^-12. -/
  freqCorr : Rat := 0
  /-- PHASE_SLEW in ns/s. -/
  phaseSlew : Rat := 0
  /-- PHASE_REM in ns. -/
  phaseRem : Rat := 0
  /-- Nanoseconds that the present return slew has run. -/
  slewRun : Rat := 0
  /-- Local time minus solved TAI in ns, and drift in 10^-12, waiting for the first setting (R216). -/
  setPending : Option (Int × Rat) := none
  /-- Step in ns waiting for the next whole second (R218), and the event it records (0x0704 or 0x0A08). -/
  stepPending : Option (Int × Nat) := none
  /-- A step or setting took effect at the second being marked (R220, R221). -/
  stepped : Bool := false
  deriving DecidableEq, Repr

/-- What the loop engine holds for a context behind its window (R64, R70, R75). -/
structure LoopCtx where
  /-- x_prev; none where the next evaluation takes the current x (R70). -/
  xPrev : Option Rat := none
  /-- Missed evaluations, 0 to 16. -/
  missCnt : Nat := 0
  /-- The last due evaluation had a residue mismatch (R53). -/
  resRun : Bool := false
  /-- Clamped at OMAX, and at OMIN, in the last evaluation (R66, R67). -/
  limHi : Bool := false
  limLo : Bool := false
  /-- Ticks since the last evaluation completed without fault; none before the first (R59). -/
  outAge : Option Nat := none
  deriving DecidableEq, Repr

/-- A host command that awaits its evaluation (R79): operation, and whether its session met the requirement. -/
structure LoopCmd where
  ctx : Nat
  op : Nat
  sessOk : Bool
  deriving DecidableEq, Repr

structure LoopSt where
  ctx : List LoopCtx := List.replicate 128 {}
  cmd : Option LoopCmd := none
  /-- Mismatches in the present cycle (R54). -/
  resCycle : Nat := 0
  /-- Contexts with a fault request: context and requester, 1 ALLOC, 2 STAND (R74). -/
  faultReq : List (Nat × Nat) := []
  deriving DecidableEq, Repr

/-- A generator's state as the state-sharing frame carries it (R104, R326). -/
structure GenShare where
  pos : Int
  vel : Int
  acc : Int
  tgt : Int
  state : Nat
  cand : Option Int
  deriving DecidableEq, Repr

/-- A profile generator behind its window (R87). -/
structure GenSt where
  pos : Int := 0
  vel : Int := 0
  acc : Int := 0
  tgt : Int := 0
  /-- The target before the clamp of R97. -/
  tgtRaw : Int := 0
  /-- Jump candidate (R96). -/
  cand : Option Int := none
  /-- Rate demand of the last accepted joystick sample, in q per second (R96, R101). -/
  rate : Int := 0
  /-- Age in ticks of the last accepted sample of the source (R95). -/
  srcAge : Option Nat := none
  /-- Age in ticks of the last sample examined; a source whose age differs holds a new sample. -/
  seenAge : Option Nat := none
  /-- Target written by register and by descriptor, awaiting the P0 latch (R98). -/
  hostNew : Option Word := none
  descNew : Option Word := none
  /-- Host target latched since the entry to Run or Operate (R86). -/
  latched : Option Word := none
  /-- Allocation target of tick 21 (R99). -/
  allocTgt : Option Rat := none
  /-- VMAX, AMAX and JMAX in force while new ones wait (R103). -/
  oldLim : Option (Word × Word × Word) := none
  /-- State loaded from the state-sharing frame, for the start of the next P1 (R104). -/
  shared : Option GenShare := none
  deriving DecidableEq, Repr

structure ProfSt where
  /-- Generators 0 to 130; generator 0 is not used. -/
  gen : List GenSt := List.replicate 131 {}
  deriving DecidableEq, Repr

/-- A reference sample placed in time (R127): TAI instant in ns, offsets in 0.1 mm, sender's sigma in mm, arrival. -/
structure RefSample where
  ns : Int
  north : Int
  east : Int
  sigma : Nat
  deriving DecidableEq, Repr

/-- A position reference under test: ref 0 to ref 5, and 6 the satellite set (R127 to R131). -/
structure RefSt where
  /-- Sample latest in measurement time since the last tick 0. -/
  sample : Option RefSample := none
  /-- Datum north and east in metres (R128). -/
  datum : Option (Rat × Rat) := none
  /-- Last tested offsets and the instant from which they have not changed by more than FREEZE_EPS (R129). -/
  frozen : Option (Rat × Rat × Int) := none
  /-- Innovations that passed tests 1, 2, 4 and 5: instant, north, east, newest first (R130). -/
  hist : List (Int × Rat × Rat) := []
  /-- The reference is rejected (R131). -/
  rejected : Bool := false
  /-- Consecutive failures of test 5. -/
  innovFails : Nat := 0
  /-- First sample of the present passing run: instant and cycle count (R131). -/
  run : Option (Int × Nat) := none
  /-- A sample has passed every test since the last reinitialisation (R128). -/
  admitted : Bool := false
  /-- The reference's sample entered the problem of this cycle. -/
  used : Bool := false
  deriving DecidableEq, Repr

/-- A sensor's latest sample: two values and the arrival in local ns (R122). -/
structure SensSt where
  a : Rat := 0
  b : Rat := 0
  at_ : Option Int := none
  rejected : Bool := false
  /-- First agreeing cycle boundary of the readmission run of a rejected gyro. -/
  run : Option Int := none
  deriving DecidableEq, Repr

/-- Values that a bundle adjustment publishes: per reference north and east bias, forward and starboard correction;
gyro biases; ANT_P's corrections (R134). -/
structure BundleVals where
  refs : List (Nat × Rat × Rat × Rat × Rat)
  gyro : List (Nat × Rat)
  ant : Rat × Rat
  deriving DecidableEq, Repr

/-- A weighted row of the estimator: entries over the columns of R108, over the unknowns of the bundle adjustment (4n to
4n + 3 the biases and corrections of ref n, 24 and 25 ANT_P's, 26 to 28 the gyros', from 29 the ambiguities), and what it
measures (R111, R132). -/
structure EstRow where
  cols : List (Nat × Rat)
  bcols : List (Nat × Rat) := []
  rhs : Rat
  deriving DecidableEq, Repr

structure EstSt where
  /-- The estimator starts at the next cycle boundary (R107). -/
  startPending : Bool := false
  /-- A reinitialisation takes effect at the next cycle boundary (R109, R110). -/
  reinitPending : Bool := false
  /-- Origin written, awaiting the boundary (R109). -/
  originLat : Option Word := none
  originLon : Option Word := none
  /-- The origin was written by the host or taken from the first valid position (R109). -/
  originWritten : Bool := false
  /-- The 19 columns of the last valid solution in the order of R108; empty before the first. -/
  x : List Rat := []
  /-- The prior: the last valid solution carried forward by the model to this cycle's boundary (R112). -/
  prior : List Rat := []
  /-- The next problem's prior is wide (R135). -/
  wide : Bool := false
  /-- Coefficients of the model and the origin rule that the last EST section carried (R108, R110). -/
  model : List Word := []
  originRule : Word := 0
  /-- Standard deviations north, east and of heading of the last valid solution, in the report's units (R113). -/
  sig : List Nat := [0, 0, 0]
  /-- Roll and pitch of tick 0, and the filtered wind (angle, speed) of tick 0 (R124, R125). -/
  rp : Rat × Rat := (0, 0)
  windNow : Rat × Rat := (0, 0)
  /-- Solutions counted while Converging (R135). -/
  convCnt : Nat := 0
  /-- Cycles since the last position sample or since the start, whose own tick 0 counts none (R136). -/
  posCycles : Nat := 0
  started : Bool := false
  /-- A solve was released in tick 0 of this cycle. -/
  released : Bool := false

  /-- Foreign references 0 to 5 and the satellite set (R126 to R131). -/
  refs : List RefSt := List.replicate 7 {}
  /-- Gyros, MRUs and wind sensors (R122). -/
  gyro : List SensSt := List.replicate 3 {}
  mru : List SensSt := List.replicate 2 {}
  wind : List SensSt := List.replicate 2 {}
  /-- Gyros, references and the satellite set used in this cycle, as bits (R137). -/
  gyroUsed : Nat := 0
  refUsed : Nat := 0
  satUsed : Bool := false
  /-- HDG_DISAGREE, MRU_LOST, WIND_LOST and the sensors selected (R123 to R125). -/
  hdgDisagree : Bool := false
  mruLost : Bool := false
  windLost : Bool := false
  mruSel : Bool := false
  windSel : Bool := false
  /-- A published adjustment takes effect at the next tick 0 (R134). -/
  bundleNew : Bool := false
  /-- The satellite heading of the last epoch, degrees (R123). -/
  satHdg : Option Rat := none
  /-- Satellites of the fixed double differences and their reference satellite, as SVID + 64 SIG (R120, R121). -/
  ddFixed : List Nat := []
  ddRef : Option Nat := none
  /-- Fixed integers of the double differences, by ANT_P channel (R120). -/
  ddInt : List (Nat × Int) := []
  /-- The running adjustment is discarded at its end (R133). -/
  bundleBad : Bool := false
  /-- An adjustment has begun; its slice has been late once (R133). -/
  bundleRun : Bool := false
  /-- The slice is to be repeated, and a slice of this cycle has been released (R133). -/
  bundleLate : Bool := false
  bundleReleased : Bool := false
  /-- Unknowns of the running adjustment, its reference satellite and double differences by ANT_P channel, the rows of this
  cycle, and the rows given to the slice and not yet absorbed (R132, R133, R178). -/
  bundleCols : List Nat := []
  bundleRef : Option Nat := none
  bundleDd : List Nat := []
  obs : List EstRow := []
  bundleRows : List EstRow := []
  /-- Values published by slice 49, applied from the next tick 0 (R134). -/
  bundlePend : Option BundleVals := none
  deriving DecidableEq, Repr

/-- A consequence problem as posed (R158, R159): group, members fixed and their values. -/
structure CqPose where
  grp : Nat
  fixed : List (Nat × Rat × Rat)
  deriving DecidableEq, Repr

structure AllocSt where
  /-- Demand of tick 7 in force for the problems of this cycle; none where discarded or not formed. -/
  tau : Option (Rat × Rat × Rat) := none
  /-- The consequence problems posed in tick 8. -/
  cqPosed : List CqPose := []
  /-- Thrusters whose zone the last loaded state set gives, until tick 8 (R142, R327). -/
  loaded : List Nat := []
  /-- The intact problem was released in this cycle. -/
  released : Bool := false
  /-- Intact allocation of this cycle was valid (R165). -/
  validNow : Bool := false
  /-- Applied step-1 forces of T00 to T23, exact (R153). -/
  f0 : List (Rat × Rat) := List.replicate 24 (0, 0)
  /-- The previous intact solve held fx at its side's zero bound with a non-zero multiplier (R152). -/
  zeroBound : List Bool := List.replicate 24 false
  /-- Mapping of tick 21 was discarded, and the zone edges that angle targets are set to (R144, R151). -/
  zoneEdge : List (Nat × Rat) := []
  /-- Measured angles latched at tick 8. -/
  ang : List Rat := List.replicate 24 0
  /-- Selection written, awaiting the boundary, and the selection in force (R148). -/
  selPending : Option Word := none
  sel : Nat := 0xFFFFFF
  /-- Targets last written to contexts (R155, R157). -/
  targets : List (Nat × Rat) := []
  /-- Cause 7 is requested (R157). -/
  requested : Bool := false
  /-- Shortfalls of the groups solved in this cycle, until tick 64 (R190). -/
  cqDone : List (Nat × Rat × Rat × Rat) := []
  /-- Groups solved at least once since Arming (R162). -/
  cqEver : List Nat := []
  /-- Pool position and groups of each lane (R172). -/
  assign : List (Nat × List Nat) := []
  /-- Shortfall record of tick 64 (R166). -/
  record : List Byte := []
  deriving DecidableEq, Repr

/-- A row of a lane's matrix: its exponent and its entries (R181). -/
structure LaneRow where
  key : Nat
  exp : Int := -128
  vals : List (Nat × Rat) := []
  deriving DecidableEq, Repr

structure LaneSt where
  /-- Resident problem: rows keyed by region, selector and row; a vector element is its own row. -/
  rows : List LaneRow := []
  /-- Region 4 bounds for the next release only: key and value (R179). -/
  ovr : List (Nat × Rat) := []
  /-- An H entry has been written since H was last factored (R174). -/
  hChanged : Bool := false
  /-- A release has run since H was last cleared. -/
  hClean : Bool := false
  /-- Active set of the last valid result, kept while no LOAD and no H change has come (R180). -/
  active : List Nat := []
  /-- Triangular factor that the lane holds (R174, R178). -/
  fac : List GVal := []
  /-- Columns whose covariance the running release returns factored (R178). -/
  amb : Nat := 0
  /-- Published result buffer (R189). -/
  result : Option SolveOut := none
  /-- Consequence group in the lane, and groups still to solve (R172). -/
  grp : Option Nat := none
  work : List Nat := []
  /-- Host release: pair, remaining ticks to its deadline, FINAL. -/
  pair : Option Nat := none
  dlTicks : Nat := 0
  final : Bool := false
  iterMax : Nat := 240
  memBad : Nat := 0
  deriving DecidableEq, Repr

structure GroveSt where
  lane : List LaneSt := List.replicate 32 {}
  /-- Result records for the host: pair and bytes (R200). -/
  records : List (Nat × List Byte) := []
  /-- Retired lanes whose role has not moved yet: lane and role (R194). -/
  moves : List (Nat × Nat) := []
  deriving DecidableEq, Repr

/-- A tracking channel (R207 to R213). -/
structure GChan where
  assigned : Bool := false
  sig : Nat := 0
  svid : Nat := 0
  antS : Bool := false
  codeLock : Bool := false
  carrLock : Bool := false
  halfOk : Bool := false
  lol : Bool := false
  settling : Bool := false
  cn0 : BitVec 16 := 0
  /-- CTLCLK cycles from reset to the start of the present carrier lock. -/
  lockAt : Nat := 0
  /-- Early and late correlators, chips from prompt (R209). -/
  early : Rat := 0
  late : Rat := 0
  /-- PR, CP, DOP and CODE_PH of the last latch (R213). -/
  pr : BitVec 64 := 0
  cp : BitVec 64 := 0
  dop : BitVec 32 := 0
  codePh : BitVec 32 := 0
  /-- Carrier phase and Doppler of the previous epoch (R121). -/
  prevCp : Option (BitVec 64 × BitVec 32) := none
  deriving DecidableEq, Repr

/-- GNSS settings in force, taken from their registers at a latch (R225). -/
structure GnssSet where
  cfg : Word := 0x00053C73
  disc : Word := 0x00000064
  func : Word := 100
  aging : Word := 500
  warn : Word := 100
  udp : Word := 52411
  deriving DecidableEq, Repr

/-- A time of UTC (R9, R223): second 60 in an inserted leap second. -/
structure UtcTime where
  year : Nat
  month : Nat
  day : Nat
  hour : Nat
  minute : Nat
  second : Nat
  ns : Nat
  deriving DecidableEq, Repr

/-- Talker of a sentence (R222). -/
inductive Talker where
  | gn
  | gp
  | ga
  | gb
  deriving DecidableEq, Repr

/-- The fix that a sentence gives (R223): its time, its position in 10^-7 degree where valid, and its velocity north and
east in m/s. -/
structure SentFix where
  time : Option UtcTime
  pos : Option (Int × Int)
  vel : Option (Rat × Rat)
  deriving DecidableEq, Repr

/-- A sentence that a UART sends (R222, R223), by content: GNS with the constellations in the fix, GGA with its quality,
RMC with its status (true V), GSV with the satellites in view, their elevations and C/N0. -/
inductive SentOut where
  | zda (time : UtcTime)
  | gns (talker : Talker) (fix : SentFix) (modes : List Bool) (nsat : Nat) (hdop : Option Rat)
  | gga (talker : Talker) (fix : SentFix) (quality nsat : Nat) (hdop : Option Rat)
  | rmc (talker : Talker) (fix : SentFix) (void : Bool)
  | vtg (talker : Talker) (vel : Option (Rat × Rat))
  | hdt (heading : Rat)
  | gsa (talker : Talker) (sats : List (Nat × Nat)) (dop : Option (Rat × Rat × Rat))
  | gsv (talker : Talker) (sats : List (Nat × Rat × Nat))
  deriving DecidableEq, Repr

structure GnssSt where
  chan : List GChan := List.replicate 192 {}
  /-- Satellites that have not set, with their elevations (R208). -/
  sky : List SkySat := []
  /-- Settings in force (R225). -/
  set : GnssSet := {}
  /-- Consecutive valid fixes (R216). -/
  retCnt : Nat := 0
  /-- Local ns of the last valid fix, and of the last fix used for discipline. -/
  lastValid : Option Rat := none
  lastUsed : Option Rat := none
  /-- Time uncertainty U0 of the last valid fix used, ns. -/
  u0 : Nat := 0
  /-- TERR_EST has passed HOLD_WARN in this holdover (R217). -/
  warned : Bool := false
  /-- The last epoch's fix where valid. -/
  fix : Option FixSol := none
  /-- The last valid fix since reset (R403). -/
  lastFix : Option FixSol := none
  /-- The present cycle's boundary carried an epoch. -/
  epochHere : Bool := false
  /-- Spacing settings latched, by signal (R209). -/
  spc : Nat × Nat := (0x071F0707, 0x001F071F)
  /-- EPOCH_RATE in force; a change waits for a whole second (R211). -/
  rate : Nat := 3
  /-- Cycle count at which a mid latch falls (R211). -/
  midAt : Option Nat := none
  /-- Measurement records of this cycle (R213). -/
  records : List (List Byte) := []
  /-- UTC_OFS (R223). -/
  utcOfs : Nat := 0
  /-- Whole TAI second that the announced leap second inserts (R221, R223). -/
  leapAt : Option Nat := none
  /-- PPS_OUT has reached its first configured state (R220), its pulse is in progress and ends at this local ns, and
  writes held by it. -/
  ppsCfgd : Bool := false
  ppsHigh : Bool := false
  ppsUntil : Rat := 0
  ppsHeld : Option (Word × Word) := none
  /-- Settings in force for the pin. -/
  ppsCfg : Word := 0x00000191
  ppsDly : Word := 0
  /-- Second last marked and its residual in ps, and whether a step took effect at it; it awaits its time message. -/
  ppsSec : Nat := 0
  ppsQerr : Int := 0
  ppsValid : Bool := false
  ppsStepped : Bool := false
  msgDue : Bool := false
  /-- GNSS_SENT_CFG of each UART in force since its last interval began, and the sentences sent in it (R222, R225). -/
  sentCfg : List Word := List.replicate 8 0
  sent : List (List SentOut) := List.replicate 8 []
  /-- Last time message sent on the ring. -/
  timeMsg : List Byte := []
  deriving DecidableEq, Repr

/-- Settings of a chain: ACQ_CH_CFG, ACQ_CH_FIR and the compensation words of its bands (R252). -/
structure ChainCfg where
  cfg : Word := 0
  fir : Word := 0
  gain : List Word := List.replicate 8 0x00400000
  ofs : List Word := List.replicate 8 0
  deriving DecidableEq, Repr

/-- A filter chain behind its window (R234 to R242). -/
structure ChainSt where
  /-- Registers of the CIC stage, and the FIR delay line, newest first. -/
  integ : List Int := []
  comb : List Int := []
  fir : List Int := []
  /-- SAR samples of the present window, oldest first. -/
  win : List Int := []
  /-- Band latched at the start of the window (R240). -/
  band : Nat := 0
  /-- Settings in force, and those latched for the next record boundary (R239). -/
  cur : ChainCfg := {}
  next : Option ChainCfg := none
  /-- The end of CAL_FAULT is a step at the next record boundary (R230, R238, R239). -/
  stepPend : Bool := false
  /-- EN has been written as 1 since the last P0 (R236). -/
  enNew : Bool := false
  /-- Records still to suppress, and the count of this suppression. -/
  suppLeft : Nat := 0
  suppLen : Nat := 0
  satPrev : Bool := false
  /-- Latest delivered record as latched at P0 and its age; and the one delivered since. -/
  latched : Option Int := none
  age : Option Nat := none
  fresh : Option Int := none
  calBad : Bool := false
  /-- Band of the last delivered record (R249). -/
  recBand : Nat := 0
  /-- Records delivered since the last report (R249). -/
  newCnt : Nat := 0
  /-- Local ns of the last record's stamp. -/
  stampNs : Option Int := none
  deriving DecidableEq, Repr

structure PulseSt where
  /-- Running count of selected edges. -/
  count : Nat := 0
  /-- Selected edges in frequency mode: latches since, and the CTLCLK cycle. -/
  edges : List (Nat × Nat) := []
  age : Option Nat := none
  deriving DecidableEq, Repr

structure QuadSt where
  qa : Bool := false
  qb : Bool := false
  pos : Int := 0
  zeroPend : Bool := false
  age : Option Nat := none
  deriving DecidableEq, Repr

structure AcqSt where
  chain : List ChainSt := List.replicate 40 {}
  pulse : List PulseSt := List.replicate 8 {}
  quad : List QuadSt := List.replicate 4 {}
  /-- The last 32 zero and reference conversions, newest first (R230). -/
  zeros : List Int := []
  refs : List Int := []
  calKind : Bool := false
  /-- Calibration slots since the last 64 were complete, and an update that these make due. -/
  calCnt : Nat := 0
  calDue : Bool := false
  calOkRun : Nat := 0
  /-- SAR sequence and range in force from the last frame boundary (R231). -/
  seq : List Word := List.replicate 16 0
  range : Word := 0
  /-- Enables written, awaiting P0. -/
  sarPend : Option Bool := none
  sdPend : Option Bool := none
  /-- Streams that are stuck (R233). -/
  stuck : List Nat := []
  /-- Coefficient apply in progress: chain, and 0 written, 1 latched in P0, 2 copied (R239, R244). -/
  apply : Option Nat := none
  applyAt : Nat := 0
  /-- Die temperature band (R241). -/
  band : Nat := 0
  deriving DecidableEq, Repr

/-- A received CAN frame with its filter and stamp (R262, R265). -/
structure CanRx where
  frame : CanFrame
  filter : Nat
  stamp : Word
  deriving DecidableEq, Repr

/-- A frame in a transmit buffer or in the command queue. -/
structure CanTx where
  frame : CanFrame
  won : Bool := false
  /-- Stream of a command frame; 64 time reference, 65 standing frame, 66 host. -/
  stream : Nat := 66
  /-- Pair, descriptor index, type and tag of a host frame (R441). -/
  host : Option (Nat × Nat × Nat × Nat) := none
  /-- Cancel latched too late; it is honoured only at an error (R259). -/
  cancel : Bool := false
  deriving DecidableEq, Repr

structure CanCtl where
  tb0 : Option CanTx := none
  tb1 : Option CanTx := none
  tb2 : Option CanTx := none
  queue : List CanTx := []
  /-- Replacements of TB0 and TB2 that wait for the frame that has won (R259). -/
  next0 : Option CanTx := none
  next2 : Option CanTx := none
  /-- FD_EN in force since INIT was last cleared (R254, R255). -/
  fd : Bool := false
  /-- AUTOSTART has acted since reset (R257). -/
  auto : Bool := false
  /-- Receive FIFO, oldest first, and the high-priority buffer (R262, R265). -/
  rxf : List CanRx := []
  hp : Option CanRx := none
  /-- A discard since the last pop has recorded its event (R264). -/
  ovrSaid : Bool := false
  /-- Error counts (R267). -/
  txErr : Nat := 0
  rxErr : Nat := 0
  /-- Time reference: next TSEQ, whether the last message is described, and its SOF in ns (R269). -/
  tseq : Nat := 0
  trefPrev : Option Int := none
  /-- A protocol exception has sent the controller to bus integration; it takes part again from the next idle bus (R254). -/
  integrating : Bool := false
  deriving DecidableEq, Repr

/-- A receive field slot: latest value with the age of its latch, and a value that arrived since (R266). -/
structure CanFld where
  val : Option Int := none
  age : Option Nat := none
  fresh : Option Int := none
  deriving DecidableEq, Repr

structure CanSt where
  ctl : List CanCtl := List.replicate 8 {}
  field : List CanFld := List.replicate 256 {}
  /-- Controllers and streams whose skipped frame has recorded its event since the last enqueued one; 64 and 65 as in
  CanTx (R270). -/
  skipSaid : List (Nat × Nat) := []
  deriving DecidableEq, Repr

/-- A duplicate-table entry (R286). -/
structure DupEntry where
  src : BitVec 48
  seq : BitVec 16
  portB : Bool
  /-- CTLCLK cycles from reset to the tick boundary before its creation. -/
  made : Nat
  deriving DecidableEq, Repr

/-- A frame waiting at an egress port (R288). -/
structure NetTx where
  frame : NetFrame
  fwd : Bool
  /-- Ingress of a forwarded Sync: mean link delay of the ingress port in ns. -/
  ingressDelay : Nat := 0
  deriving DecidableEq, Repr

/-- A ring port. -/
structure NetPort where
  /-- Frames that wait, in order of arrival (R288). -/
  egress : List NetTx := []
  /-- Automatic fallback is trying 1000BASE-X (R282). -/
  try1g : Bool := false
  /-- CTLCLK cycles from reset to the tick boundary before the last return of an own supervision frame (R289). -/
  sup : Option Nat := none
  /-- The link delay has been measured (R295). -/
  measured : Bool := false
  /-- The port hears the best foreign grandmaster (R295). -/
  heard : Bool := false
  /-- Frames sent, newest first. -/
  sent : List NetFrame := []
  deriving DecidableEq, Repr

structure NetSt where
  /-- Duplicate tables, oldest first (R286). -/
  fwdTab : List DupEntry := []
  delTab : List DupEntry := []
  /-- Ports A and B. -/
  a : NetPort := {}
  b : NetPort := {}
  /-- Sequence number of the next originated frame (R285, R290), and of the next PTP messages. -/
  seq : Nat := 0
  ptpSeq : Nat := 0
  /-- NET_CFG, NET_TSRC_CFG and NET_PTP_INT in force; a write of NET_CFG waits for the boundary (R284, R310). -/
  cfg : Word := 0x0000006A
  cfgPend : Bool := false
  tsrc : Word := 0x0008080C
  ptpInt : Word := 0x001E3000
  /-- Best foreign Announce (R294), and Syncs accepted in a row before the first setting (R295). -/
  best : Option AnnounceIn := none
  syncRun : Nat := 0
  /-- Local ns of the last accepted Sync and its offset in ns (R295). -/
  lastSync : Option Rat := none
  lastOfs : Int := 0
  /-- Captures waiting: stamp in ns and falling (R305). -/
  evt : List (Int × Bool) := []
  /-- An overflow of the capture FIFO has been recorded (R305). -/
  ovrSaid : Bool := false
  /-- Line count of the last sentence sent on the ring (R293). -/
  line450 : Nat := 0
  deriving DecidableEq, Repr

/-- A ring pair behind its window (R434 to R438, R445). -/
structure PairSt where
  /-- Reports formed since the report ring was enabled (R445). -/
  repSeq : Nat := 0
  /-- SEQ of the last published report (R437). -/
  lastSeq : Nat := 0
  /-- Reports dropped since the last published one, and whether the event of R449 has been recorded since then. -/
  dropped : Nat := 0
  /-- Descriptors of a fetch that has not ended (R436). -/
  fetching : Option Nat := none
  /-- EN = 0 has been written and awaits the tick boundary (R438). -/
  cmdOff : Bool := false
  repOff : Bool := false
  /-- CMD_HEAD moved in this tick (R437). -/
  moved : Bool := false
  /-- Writeback block as last written (R437). -/
  wb : List Byte := []
  deriving DecidableEq, Repr

structure HostSt where
  pair : List PairSt := List.replicate 16 {}
  /-- Fetched descriptors that have not taken effect, in the order of R436: pair and ring index. -/
  ready : List (Nat × Nat) := []
  /-- Reports written to host memory, newest first: pair and bytes. -/
  out : List (Nat × List Byte) := []
  /-- Data copied to host buffers by readouts, newest first: address and bytes (R442). -/
  copied : List (Nat × List Byte) := []
  /-- MSI-X messages sent, newest first (R452). -/
  msgs : List Nat := []
  /-- CTLCLK cycles from reset to the tick boundary before the last message of each vector (R452). -/
  msgAt : List (Option Nat) := List.replicate 32 none
  deriving DecidableEq, Repr

/-- A channel of a safety input (R344, R345). -/
structure SafeChan where
  /-- Level that Canopy has detected, and samples in a row of the other level. -/
  closed : Bool := false
  run : Nat := 0
  /-- Level at the sample 10 µs before the present source's low. -/
  pre : Bool := false
  /-- Findings of this test frame and of the one before: pulse missing, and cross-shorts by source. -/
  miss : Bool := false
  missPrev : Bool := false
  cross : List Nat := []
  crossPrev : List Nat := []
  /-- Level under Understory's filter. -/
  ust : Bool := false
  deriving DecidableEq, Repr

/-- A safety input (R346 to R348). -/
structure SafeInp where
  demand : Bool := false
  /-- The discrepancy timer runs since this channel's detection: false A, true B. -/
  disc : Option Bool := none
  /-- Samples that the timer has run, and the channel first detected of a discrepancy that has reached DISC_MS (R347). -/
  discRun : Nat := 0
  late : Option Bool := none
  /-- Samples since both channels were detected pressed, and the pressed time at the first release. -/
  press : Option Nat := none
  held : Option Nat := none
  deriving DecidableEq, Repr

/-- A safety output (R349, R351). -/
structure SafeOut where
  /-- Canopy's decision of the last scan end. -/
  on : Bool := false
  /-- START_IN has given a start since the output last went off. -/
  started : Bool := false
  /-- A dark test is due. -/
  due : Bool := false
  /-- The next test is of Understory's switch; consecutive failures of the next switch. -/
  ustNext : Bool := false
  /-- Failed tests in a row, and a retry is due (R351). -/
  fails : Nat := 0
  /-- Scan ends since the previous test began, or since the output first came on; the last test failed. -/
  age : Option Nat := none
  retry : Bool := false
  deriving DecidableEq, Repr

/-- The dark test in progress (R351). -/
structure DarkTest where
  out : Nat
  ust : Bool
  selfClosed : Bool := false
  /-- Input samples since the opening. -/
  smp : Nat := 0
  deriving DecidableEq, Repr

/-- Canopy and Understory (chapter 12). -/
structure SafeSt where
  /-- Channel A of input i is 2i, channel B 2i + 1. -/
  chan : List SafeChan := List.replicate 32 {}
  /-- Inputs SI0 to SI15. -/
  inp : List SafeInp := List.replicate 16 {}
  /-- Outputs SO0 to SO11. -/
  out : List SafeOut := List.replicate 12 {}
  /-- Number of the next sample in the test frame, 0 to 499. -/
  smp : Nat := 0
  /-- Inputs whose comparators disagreed at the last sample (R337). -/
  cmpPrev : Nat := 0
  /-- The dark test in progress (R351). -/
  dark : Option DarkTest := none
  /-- Scan ends since a dark test last started; 40 make 10 ms. -/
  sinceDark : Nat := 40
  /-- Scan ends since the entry to Deadfall, and since an input named in a MASK was last in demand or showed a finding
  (R357). -/
  dfAge : Nat := 0
  wellAge : Nat := 0
  /-- Causes found since the last scan end: cause, index, channel (R355). -/
  causes : List (Nat × Nat × Nat) := []
  /-- The two Deadfall latches (R355). -/
  canopyLatch : Bool := false
  ustLatch : Bool := false
  /-- Canopy is stopped: its clock or supply is gone, or a reset holds its domain. -/
  halt : Bool := true
  /-- Start-up is complete (R359). -/
  up : Bool := false
  /-- Boot has written a table that Canopy accepted; Understory's flops hold it (R340). -/
  table : Bool := false
  ustCfg : Bool := false
  /-- Understory: powered, switches powered, reset announced, Canopy's heartbeat alive, watch suspended, parity good. -/
  ustOn : Bool := true
  ustSw : Bool := true
  ustAnn : Bool := false
  ustAlive : Bool := false
  ustSusp : Bool := true
  ustParity : Bool := true
  deriving DecidableEq, Repr

/-- A standing frame as taken (R319). -/
structure StdFrame where
  dseq : Nat
  unit : Nat
  role : Nat
  decided : Bool
  reason : Nat
  deriving DecidableEq, Repr

/-- A part of a state set as received (R326). -/
structure SetPart where
  /-- SET, parts of the set. -/
  set : Nat
  npart : Nat
  part : Nat
  sect : Nat
  cnt : Nat
  bytes : List Byte
  deriving DecidableEq, Repr

structure StandSt where
  /-- STANDING and SHADOW as sent from P3 (R272, R321, R322). -/
  standing : Bool := false
  shadow : Bool := false
  /-- Heartbeats that arrived since the last tick-2 latch: their SDW (R317). -/
  hbLead : Option Word := none
  hbSecond : Option Word := none
  /-- A standing frame that arrived, one taken by P0 for P3, and whether one was taken since the last tick 2 (R321). -/
  frame : Option StdFrame := none
  taken : Option StdFrame := none
  seenNow : Bool := false
  /-- HOLDER_SEEN, DSEQ_SEEN and SET_LOADED of the heartbeat (R316). -/
  holderSeen : Nat := 0xF
  dseqSeen : Nat := 0
  setLoaded : Nat := 0
  /-- State set parts received since the last tick 79 (R327). -/
  parts : List SetPart := []
  /-- Cycles without a loaded set (R328). -/
  trackMiss : Nat := 0
  /-- Contexts that counted, with their loaded sets in a row (R329). -/
  div : List (Nat × Nat) := []
  /-- Own outputs at the end of P2 of tick 78: context, OUTV and Run (R329). -/
  snap : List (Nat × Word × Bool) := []
  /-- Context entries to load at P2 of tick 79 (R327). -/
  load : List (List Byte) := []
  /-- Warden: holder (true the Second), reason, cycles held, swap due and said, command pending (R318, R331). -/
  holder : Option Bool := none
  reason : Nat := 0
  heldCycles : Nat := 0
  swapDue : Bool := false
  swapSaid : Bool := false
  cmd : Bool := false
  deriving DecidableEq, Repr

/-- A live cargo point (R365): the identity hash is bytes 0 to 6. -/
structure ThktPt where
  num : Nat
  hash : List Byte
  cls : Nat
  sealSt : Nat
  gw : Nat
  prev : Nat := 0
  outR : Bool := false
  value : Int := 0
  lastS : Nat := 0
  deriving DecidableEq, Repr

/-- A position as a record carries it (R376): POS_SRC, LAT, LON. -/
structure ThktPos where
  src : Nat := 0
  lat : Int := 0
  lon : Int := 0
  deriving DecidableEq, Repr

/-- A change that a closing boundary groups (R374): kind 1 loss, 2 return, 3 enrolment; arrival of its frame, none for
a loss by silence; the position of the boundary before it. -/
structure ThktItem where
  kind : Nat
  gw : Nat
  pt : ThktPt
  old : Nat
  new : Nat
  ns : Option Int
  pos : ThktPos
  deriving DecidableEq, Repr

/-- A custody record in the signing queue (R377, R380): its 80 signed bytes, the member list of a group, the signature
once made, and what has taken it (Ringlog, the report ring, the ring for its member list). -/
structure CustRec where
  bytes : List Byte
  group : Bool := false
  members : List Byte := []
  sig : List Byte := []
  nor : Bool := false
  ring : Bool := false
  list : Bool := false
  deriving DecidableEq, Repr

structure ThktSt where
  /-- Live points in rising number. -/
  pts : List ThktPt := []
  /-- Changes of the present cycle, in order. -/
  items : List ThktItem := []
  /-- The signing queue, head first; it and the record count survive all but power-on (R463). -/
  queue : List CustRec := []
  /-- Custody records formed, and the device's own position (R376). -/
  count : Nat := 0
  pos : ThktPos := {}
  /-- Releases requested in order, and points found uncorrectable, until the boundary (R368, R381). -/
  rel : List Nat := []
  corrupt : List Nat := []
  /-- Arrival in local ns of each gateway's last accepted frame. -/
  heard : List (Nat × Int) := []
  /-- Event 0x0D07 has been recorded since FULL last rose. -/
  fullSaid : Bool := false
  deriving DecidableEq, Repr

/-- A token bucket that is not full or holds records back (R389): tokens in thousandths, held count, parameters of the
last held record. -/
structure Bucket where
  code : Nat
  tok : Nat
  held : Nat := 0
  p1 : Word := 0
  p2 : Word := 0
  deriving DecidableEq, Repr

/-- A record that waits for hand-off, with the number of records it stands for (R390, R398). -/
structure DuffRec where
  bytes : List Byte
  weight : Nat := 1
  deriving DecidableEq, Repr

structure LogSt where
  /-- Events raised, in order, that Duff has not taken yet (R388). -/
  raised : List EvRec := []
  /-- Buckets that are not at their cap, by code. -/
  buckets : List Bucket := []
  /-- Duff's ring, oldest first, the number of newest records that await hand-off, and the write position (R391). -/
  duff : List DuffRec := []
  waiting : Nat := 0
  wr : Nat := 0
  /-- The pinned queue (R392). -/
  pin : List DuffRec := []
  /-- Records passed in this tick, for the class 6 reports (R446). -/
  passed : List (List Byte) := []
  /-- Event 0x0E05 has been recorded since the last hand-off (R392). -/
  dropSaid : Bool := false
  /-- Drops during the present freeze, and CTLCLK cycles from reset to its start (R396). -/
  frozenDrops : Nat := 0
  freezeAt : Nat := 0
  /-- Clear in progress: region and the session's key slot (R397). -/
  clear : Option (Nat × Nat) := none
  /-- The NOR (R393): pinned areas with their next record and slot, circular blocks oldest first with their records,
  the block being written, the next block is erased, retired blocks, erase counts, and the state region. -/
  pinEv : List (List Byte) := []
  pinCr : List (List Byte) := []
  evAt : Nat := 0
  crAt : Nat := 0
  circ : List (Nat × List (List Byte)) := []
  cur : Nat := 67
  ahead : Bool := true
  bad : List Nat := []
  erases : List (Nat × Nat) := []
  saved : Nat × Nat := (0, 0)
  /-- What has been recorded: areas above 90 %, wear since power-on. -/
  ev90 : Bool := false
  cr90 : Bool := false
  wearSaid : Bool := false
  /-- A power-on has not been counted yet (R387). -/
  pwrNew : Bool := true
  deriving DecidableEq, Repr

/-- A panel update in progress (R404, R410): fields in the form of journal bytes 12 to 37, band, tiles that it changes;
drawing once power is good. -/
structure BlzUpd where
  fields : List Byte
  band : Nat
  drawing : Bool := false
  tiles : List Nat := []
  deriving DecidableEq, Repr

structure BlzSt where
  run : Option BlzUpd := none
  /-- An abandoned update waits for its retry (R402). -/
  retry : Bool := false
  /-- Fields and TAI minute that the last update latched (R404). -/
  last : Option (List Byte × Int) := none
  /-- Ringcount counters that are not zero, and as last saved (R408). -/
  tiles : List (Nat × Nat) := []
  saved : List (Nat × Nat) := []
  /-- Band of the last reading, consecutive failed reads, Bark measurements above and at most the limit (R405 to R409). -/
  bandNow : Nat := 0
  fails : Nat := 0
  barkHigh : Nat := 0
  barkLow : Nat := 0
  /-- Journal entries, newest first (R411), and content on the glass with its mark. -/
  journal : List (List Byte) := []
  glass : Option (List Byte × Bool) := none
  deriving DecidableEq, Repr

/-- An image that Glade works on (R420 to R424, R443): its descriptor as pair, index and tag, what it waits for (1 commit,
2 save, 3 burn), its result so far, and whether boot took it. -/
structure ImgJob where
  typ : Nat
  bytes : List Byte
  desc : Option (Nat × Nat × Nat) := none
  wait : Nat
  result : Nat := 0
  boot : Bool := false
  deriving DecidableEq, Repr

structure GladeSt where
  /-- Slot keys (R418, R425). -/
  keys : List (List Byte) := List.replicate 8 []
  /-- Owner fuses: key hash and wrap key (R419). -/
  owner : List (List Byte × List Byte) := List.replicate 4 ([], [])
  /-- Owner slots enrolled and revoked, and rollback fuses by type (R419, R423). -/
  enrolled : Nat := 0
  revoked : Nat := 0
  rb : List Nat := [0, 0, 0]
  /-- Level of the present challenge (R427). -/
  sessLvl : Nat := 0
  /-- Words written to GLB_SESS_RESP and GLB_ENROL_DATA (R419, R427). -/
  resp : List Word := List.replicate 8 0
  enrol : List Word := List.replicate 20 0
  /-- Attestation being formed: CERT and the nonce (R428). -/
  att : Option (Bool × List Byte) := none
  /-- The image that Glade works on (R422). -/
  job : Option ImgJob := none
  /-- Images whose rollback fuses burn (R423). -/
  burns : List ImgJob := []
  /-- The image NOR: slots A and B of each type, and the slot of each type's newest image (R424). -/
  store : List (Option (List Byte)) := List.replicate 6 none
  newest : List Nat := [1, 1, 1]
  /-- Boot waits for host images, and those it holds (R424). -/
  waiting : Bool := false
  held : List ImgJob := []
  /-- Panel temperature that boot has read (R426). -/
  bootTemp : Option Int := none
  /-- Sections that a committed image has carried (R107, R422). -/
  sects : List Nat := []
  /-- CTLCLK cycles from reset to the last OPEN, to the last write that passed a session check, and to the start of boot's
  wait for host images or the link-up in it (R424, R427). -/
  chalAt : Nat := 0
  idleAt : Nat := 0
  waitAt : Nat := 0
  /-- Consecutive samples of each supply monitor outside its window (R417). -/
  supRun : List Nat := List.replicate 12 0
  /-- An access to a stopped domain is pending in the management core (R492). -/
  hung : Bool := false
  /-- SHA-384 of the signed part of the image last applied, by type (R428). -/
  digests : List (List Byte) := [[], [], []]
  deriving DecidableEq, Repr

/-- A reset that is announced or in progress (R457 to R461). -/
structure RstRun where
  /-- RST_CAUSE bits of this reset, SOURCE, kind (0 power-on, 1 cold, 2 warm), supplies of a brown-out. -/
  bits : Nat
  src : Nat
  kind : Nat
  bo : Nat := 0
  /-- It has taken effect and waits for release. -/
  taken : Bool := false
  /-- Microseconds without REFCLK, for the event (R476). -/
  outage : Option Nat := none
  deriving DecidableEq, Repr

structure RstSt where
  /-- The device starts in the power-on reset. -/
  run : Option RstRun := some { bits := 1, src := 0, kind := 0, taken := true }
  /-- Supplies in brown-out. -/
  low : Nat := 0
  /-- Outputs of each pin group that have reached their first configured state: UART transmitters (R472). -/
  uart : Nat := 0
  /-- HOST's subsystem word (R432). -/
  subsys : Word := 0
  /-- The fuse shadow has been loaded since the power-on (R471). -/
  fused : Bool := false
  /-- Domains, by their RST_DOM_STAT bits, whose own clock an access has found stopped after their release (R492). -/
  stopped : Nat := 0
  deriving DecidableEq, Repr

/-- The device without the queue of commands. -/
structure Dev where
  /-- The register file: BAR0 offset and word, offsets rising, no entry at its reset value (R11, R16). -/
  regs : List (Nat × Word) := []
  seq : SeqSt := {}
  clk : ClkSt := {}
  loop : LoopSt := {}
  prof : ProfSt := {}
  est : EstSt := {}
  alloc : AllocSt := {}
  grove : GroveSt := {}
  gnss : GnssSt := {}
  acq : AcqSt := {}
  can : CanSt := {}
  net : NetSt := {}
  log : LogSt := {}
  host : HostSt := {}
  safe : SafeSt := {}
  stand : StandSt := {}
  thkt : ThktSt := {}
  blz : BlzSt := {}
  glade : GladeSt := {}
  rst : RstSt := {}
  deriving DecidableEq, Repr

/-- The block: the device and the commands that wait, first in, first out (log entry 1). -/
structure State extends Dev where
  pending : List Instr := []
  deriving DecidableEq, Repr

/-- No command of the block stops it: every error condition of the spec is a state. Raised by nobody. -/
inductive Fault where
  /-- Never raised; safe. -/
  | none
  deriving DecidableEq, Repr

/-- Refusals. -/
inductive Refusal where
  /-- Raised by exec's arm of a command that has no meaning yet; safe, since the run stops. -/
  | notModelled (mnemonic : String)
  deriving DecidableEq, Repr

/-- The block right after power-on, before any command: every register at its reset value (R16). -/
def State.reset : State := {}

end Sys2Proof.Machine
end

