-- ==== Sys2Proof/Machine/Ops.lean ====
section
/-! DEFINITION. The named operations that every meaning uses: registers and their fields, counters, events, interrupt
sources, times. -/

namespace Sys2Proof.Machine

/-- Word of a register: the listed one, else the reset value (R16). -/
def Dev.rd (s : Dev) (a : Nat) : Word := (lookupKey a s.regs).getD (regReset a)

/-- Set a register's word, keeping the register file canonical. -/
def Dev.wr (s : Dev) (a : Nat) (v : Word) : Dev :=
  { s with regs := if v = regReset a then eraseKey a s.regs else insertKey a v s.regs }

/-- Set a register from a number, modulo 2^32. -/
def Dev.wrN (s : Dev) (a v : Nat) : Dev := s.wr a (BitVec.ofNat 32 v)

/-- Bits hi to lo of a register (R11). -/
def Dev.fld (s : Dev) (a hi lo : Nat) : Nat := bitsOf (s.rd a).toNat hi lo

/-- Set bits hi to lo of a register. -/
def Dev.setFld (s : Dev) (a hi lo v : Nat) : Dev := s.wrN a (setBits (s.rd a).toNat hi lo v)

/-- Bit i of a register. -/
def Dev.bit (s : Dev) (a i : Nat) : Bool := bitOf (s.rd a).toNat i

/-- Set bit i of a register. -/
def Dev.setBit (s : Dev) (a i : Nat) (b : Bool) : Dev := s.setFld a i i (bnat b)

/-- Value of a register that holds a PBV (R46): exact, also where its mantissa is wider than the 18 bits to which a stage
rounds (log entry 84). -/
def Dev.pbv (s : Dev) (a : Nat) : Rat := pbvVal (s.rd a)

/-- Write a PBV normalised alone (R46). -/
def Dev.wrPbv (s : Dev) (a : Nat) (x : Rat) : Dev := s.wr a (toPbv x)

/-- Write a PBV that may be a stored limit or a held value (R50). -/
def Dev.wrExact (s : Dev) (a : Nat) (x : Rat) : Dev := s.wr a (toPbvExact x)

/-- Add k to the saturating counter in bits hi to lo. -/
def Dev.cntSat (s : Dev) (a hi lo k : Nat) : Dev :=
  s.setFld a hi lo (satAdd (hi + 1 - lo) (s.fld a hi lo) k)

/-- Add k to the wrapping counter in bits hi to lo. -/
def Dev.cntWrap (s : Dev) (a hi lo k : Nat) : Dev := s.setFld a hi lo (s.fld a hi lo + k)

/-- Set bits of a register by mask (a W1C register, R12). -/
def Dev.orMask (s : Dev) (a mask : Nat) : Dev := s.wr a (s.rd a ||| BitVec.ofNat 32 mask)

/-- Clear bits of a register by mask. -/
def Dev.clrMask (s : Dev) (a mask : Nat) : Dev := s.wr a (s.rd a &&& ~~~ (BitVec.ofNat 32 mask))

/-- A host write acts by access type: RW bits take the value, W1C bits written 1 clear, the rest stays (R12). -/
def Dev.store (s : Dev) (a : Nat) (v : Word) : Dev :=
  match regRow a with
  | none => s
  | some r =>
    let rw := BitVec.ofNat 32 r.rw
    let wc := BitVec.ofNat 32 r.w1c
    s.wr a (((s.rd a &&& ~~~rw) ||| (v &&& rw)) &&& ~~~(v &&& wc))

/-- Apply an operation for each element in order. -/
def Dev.each {α : Type} (s : Dev) (xs : List α) (f : Dev → α → Dev) : Dev := xs.foldl f s

/-- GLB_MODE_STAT.MODE: 0 Watch, 1 Arming, 2 Operate (R42). -/
def Dev.mode (s : Dev) : Nat := s.fld GLB_MODE_STAT 1 0

/-- The mode is Arming or Operate. -/
def Dev.inService (s : Dev) : Bool := s.mode != 0

/-- GLB_MODE_STAT.COMMISSIONED (R37). -/
def Dev.commissioned (s : Dev) : Bool := s.bit GLB_MODE_STAT 8

/-- Number of the current tick (R42). -/
def Dev.tick (s : Dev) : Nat := s.fld GLB_TICK_STAT 6 0

/-- GLB_CYCLE_CNT. -/
def Dev.cycles (s : Dev) : Nat := (s.rd GLB_CYCLE_CNT).toNat

/-- GLB_TICK_STAT.FREE_RUN (R24). -/
def Dev.freeRun (s : Dev) : Bool := s.bit GLB_TICK_STAT 10

/-- Local time is valid (R296). -/
def Dev.timeValid (s : Dev) : Bool := s.bit NET_TIME_STAT 2

/-- Local time of the present instant: the last tick boundary and a free span (R300; log entry 4). -/
def Dev.now (s : Dev) : Int := s.clk.localNs.floor + (Config.subTickNs s.seq.freeCtr : Int)

/-- Draw the next free value. -/
def Dev.spend (s : Dev) : Dev := { s with seq.freeCtr := s.seq.freeCtr + 1 }

/-- Low 32 bits of a local time (R300). -/
def stamp32 (t : Int) : Word := BitVec.ofInt 32 t

/-- Era of a local time (R301). -/
def eraOf (t : Int) : Word := BitVec.ofInt 32 (t / 4294967296)

/-- Local time of the last cycle boundary, floor ns. -/
def Dev.boundaryNs (s : Dev) : Int := s.clk.cycleNs.floor

/-- Local time of the last tick boundary, floor ns. -/
def Dev.tickNs (s : Dev) : Int := s.clk.localNs.floor

/-- Full local time of a 32-bit stamp near a reference instant (R302). -/
def extendStamp (st : Word) (ref : Int) : Int :=
  let d := ((st.toNat : Int) - ref) % 4294967296
  ref + (if 2147483648 ≤ d then d - 4294967296 else d)

/-- Raise an event with parameters as words; parameter 3 is GLB_CYCLE_CNT (R5, R80 and each chapter's event table). -/
def Dev.evW (s : Dev) (code : Nat) (p1 p2 : Word) : Dev :=
  let e : EvRec := { code := code, p1 := p1, p2 := p2, p3 := s.rd GLB_CYCLE_CNT, stamp := s.now,
                     valid := s.timeValid }
  { s.spend with log.raised := s.log.raised ++ [e] }

/-- Raise an event with numbers as parameters. -/
def Dev.ev (s : Dev) (code p1 p2 : Nat) : Dev := s.evW code (BitVec.ofNat 32 p1) (BitVec.ofNat 32 p2)

/-- Raise an event whose second parameter is signed and clamped (R218). -/
def Dev.evI (s : Dev) (code p1 : Nat) (p2 : Int) : Dev := s.evW code (BitVec.ofNat 32 p1) (clamp32 p2)

/-- Raise the interrupt source (R451): its pending bit rises. -/
def Dev.raise (s : Dev) (src : Nat) : Dev := s.orMask (HOST_EVT_PEND (src / 32)) (2 ^ (src % 32))

/-- Loop context behind its window. -/
def Dev.lctx (s : Dev) (c : Nat) : LoopCtx := s.loop.ctx.getD c {}

def Dev.setLctx (s : Dev) (c : Nat) (f : LoopCtx → LoopCtx) : Dev :=
  { s with loop.ctx := modAt s.loop.ctx c f }

/-- Generator behind its window. -/
def Dev.gen (s : Dev) (g : Nat) : GenSt := s.prof.gen.getD g {}

def Dev.setGen (s : Dev) (g : Nat) (f : GenSt → GenSt) : Dev :=
  { s with prof.gen := modAt s.prof.gen g f }

/-- Chain, pulse input and quadrature pair behind their windows. -/
def Dev.chain (s : Dev) (n : Nat) : ChainSt := s.acq.chain.getD n {}

def Dev.setChain (s : Dev) (n : Nat) (f : ChainSt → ChainSt) : Dev :=
  { s with acq.chain := modAt s.acq.chain n f }

def Dev.lane (s : Dev) (n : Nat) : LaneSt := s.grove.lane.getD n {}

def Dev.setLane (s : Dev) (n : Nat) (f : LaneSt → LaneSt) : Dev :=
  { s with grove.lane := modAt s.grove.lane n f }

def Dev.canc (s : Dev) (n : Nat) : CanCtl := s.can.ctl.getD n {}

def Dev.setCanc (s : Dev) (n : Nat) (f : CanCtl → CanCtl) : Dev :=
  { s with can.ctl := modAt s.can.ctl n f }

end Sys2Proof.Machine
end

