-- ==== Sys2Proof/Machine/Operands.lean ====
section
/-! DEFINITION. Operand forms: the samples that the engines read as sources (R57, R94), rates (R60) and the fields of
the 32-byte descriptors (R439 to R444). -/

namespace Sys2Proof.Machine

/-- Divider of a RATE code; 0 where the context is disabled or the code is refused (R60). -/
def rateDiv : Nat → Nat
  | 1 => 1 | 2 => 2 | 3 => 4 | 4 => 5 | 5 => 8 | 6 => 10 | 7 => 16 | 8 => 20 | 9 => 40 | 10 => 80
  | _ => 0

/-- A number is one of the dividers of R60. -/
def isDivider (d : Nat) : Bool := [1, 2, 4, 5, 8, 10, 16, 20, 40, 80].contains d

/-- RATE of a context. -/
def Dev.rate (s : Dev) (c : Nat) : Nat := s.fld (LOOP_CTX_CFG c) 3 0

/-- The context is due in tick n (R60). -/
def Dev.ctxDue (s : Dev) (c n : Nat) : Bool :=
  let d := rateDiv (s.rate c)
  d != 0 && n % d == s.fld (LOOP_CTX_CFG c) 10 4

/-- Sample period of a context in seconds, exact (R60). -/
def Dev.ctxTs (s : Dev) (c : Nat) : Rat := (rateDiv (s.rate c) : Rat) / 4000

/-- State of a context: 0 Disabled, 1 Clearing, 2 Run, 3 Hold, 4 Ramp (R72). -/
def Dev.ctxState (s : Dev) (c : Nat) : Nat := s.fld (LOOP_CTX_STAT c) 2 0

/-- A latched sample with its age in ticks; none where the source has never delivered (R59). The kinds are those of
FB_KIND 1 to 4 (R57). -/
def Dev.source (s : Dev) (kind index : Nat) : Option (Int × Nat) :=
  match kind with
  | 1 => match (s.chain index).latched, (s.chain index).age with
    | some v, some a => some (v, a)
    | _, _ => none
  | 2 => ((s.acq.pulse.getD index {}).age).map fun a => ((s.rd (ACQ_PULSE_VAL index)).toInt, a)
  | 3 => ((s.acq.quad.getD index {}).age).map fun a => ((s.rd (ACQ_QUAD_POS index)).toInt, a)
  | 4 =>
    let f := s.can.field.getD index {}
    match f.val, f.age with
    | some v, some a => some (v, a)
    | _, _ => none
  | _ => none

/-- Age of a source in the form of an event parameter (R59). -/
def ageParam (a : Option Nat) : Nat := a.getD 0xFFFFFFFF

/-- A source is valid while its age is at most its limit (R59). -/
def ageValid (a : Option Nat) (limit : Nat) : Bool := a.elim false (fun n => decide (n ≤ limit))

/-- Session level that a field of GLB_HW_REQ0 requires: above 4 acts as 4, below its floor as the floor (R426). -/
def Dev.hwReq (s : Dev) (k : Nat) : Nat :=
  max (if k = 7 then 4 else if 5 ≤ k then 3 else 0) (min 4 (s.fld GLB_HW_REQ0 (3 * k + 2) (3 * k)))

/-- The session state meets a required level (R426, R427). -/
def Dev.sessLevel (s : Dev) (l : Nat) : Bool :=
  l == 0 || (s.fld GLB_SESS_STAT 7 6 == 2 && decide (l ≤ s.fld GLB_SESS_STAT 2 0))

/-- A function's session check (R426): 0 RESUME, 1 thrusters, 2 swap, 3 cargo release, 4 freeze and readout,
5 commissioning, 6 artwork and 7 Heartwood images. -/
def Dev.sessOk (s : Dev) (k : Nat) : Bool := s.sessLevel (s.hwReq k)

/-- A write has passed a session check: the idle time restarts (R427). -/
def Dev.sessUse (s : Dev) : Dev := { s with glade.idleAt := s.seq.cyc }

/-- Glade carries out an operation, unless an access of its own to a stopped domain is pending (R492). -/
def Dev.byGlade (s : Dev) (f : Dev → Dev) : Dev := if s.glade.hung then s else f s

/-- Elevation of a satellite that has not set (R208). -/
def Dev.elevation (s : Dev) (sys svid : Nat) : Option Rat :=
  (s.gnss.sky.find? fun x => x.sys.val == sys && x.svid == svid).map SkySat.elev

/-- Elevation of a channel's satellite; 0 where none is known. -/
def Dev.chanElev (s : Dev) (c : GChan) : Rat := (s.elevation (sigSys c.sig) c.svid).getD 0

/-- Epoch period in cycles by EPOCH_RATE (R211). -/
def epochCycles : Nat → Nat
  | 1 => 25 | 2 => 10 | 3 => 5 | 4 => 5 | 5 => 1 | _ => 50

/-- TYPE of a descriptor (R439). -/
def descType (d : List Byte) : Nat := u8 d 0

/-- TAG of a descriptor that has one (R441 to R443). -/
def descTag (d : List Byte) : Nat := u32 d 8

/-- Host address in a descriptor (R442, R443). -/
def descAddr (d : List Byte) : Nat := leNat (slice d 12 8)

/-- Entry e of a setpoint descriptor: target and value (R440). -/
def setpointEntry (d : List Byte) (e : Nat) : Nat × Word := (u16 d (8 + 8 * e), BitVec.ofNat 32 (u32 d (12 + 8 * e)))

end Sys2Proof.Machine
end

