-- ==== Sys2Proof/Machine/Report.lean ====
section
/-! DEFINITION. Reports to the host and completions (R434, R437, R444 to R449). -/

namespace Sys2Proof.Machine

/-- Ring pair behind its window. -/
def Dev.pair (s : Dev) (p : Nat) : PairSt := s.host.pair.getD p {}

def Dev.setPair (s : Dev) (p : Nat) (f : PairSt → PairSt) : Dev := { s with host.pair := modAt s.host.pair p f }

/-- Slots of a ring by its configuration word (R434, R456). -/
def ringSize (cfg : Word) : Nat := 2 ^ min 12 (max 4 (bitsOf cfg.toNat 3 0))

/-- HEAD and TAIL of a pointer register. -/
def Dev.ringHead (s : Dev) (a : Nat) : Nat := s.fld a 15 0
def Dev.ringTail (s : Dev) (a : Nat) : Nat := s.fld a 31 16

/-- Entries in a ring: TAIL - HEAD modulo 2^16 (R434). -/
def Dev.ringCount (s : Dev) (a : Nat) : Nat := (s.ringTail a + 65536 - s.ringHead a) % 65536

/-- REP_RUN and CMD_RUN (R456). -/
def Dev.repRun (s : Dev) (p : Nat) : Bool := s.bit (HOST_PAIR_STAT p) 1
def Dev.cmdRun (s : Dev) (p : Nat) : Bool := s.bit (HOST_PAIR_STAT p) 0

/-- The report ring runs and has room for a report with so many body slots (R449). -/
def Dev.repFits (s : Dev) (p slots : Nat) : Bool :=
  s.repRun p && decide (s.ringCount (HOST_REP_PTR p) + 1 + slots ≤ ringSize (s.rd (HOST_REP_CFG p)))

/-- The writeback block of a pair (R437). -/
def Dev.writeback (s : Dev) (p : Nat) : Dev :=
  let t := s.now
  let b := leBytes 2 (s.ringHead (HOST_CMD_PTR p)) ++ leBytes 2 (s.ringTail (HOST_REP_PTR p))
    ++ leBytes 4 (s.pair p).lastSeq ++ leBytes 4 (eraOf t).toNat ++ leBytes 4 (stamp32 t).toNat
  (s.spend).setPair p fun x => { x with wb := b }

/-- Header of a report (R445). -/
def Dev.reportHeader (s : Dev) (p cls content slots : Nat) : List Byte :=
  let t := s.now
  let tail := s.ringTail (HOST_REP_PTR p)
  leBytes 1 0x01 ++ leBytes 1 1 ++ leBytes 1 cls ++ leBytes 1 (tail / ringSize (s.rd (HOST_REP_CFG p)) % 2)
    ++ leBytes 2 slots ++ leBytes 2 (min 65535 (s.pair p).dropped) ++ leBytes 4 (eraOf t).toNat
    ++ leBytes 4 (stamp32 t).toNat ++ leBytes 4 (s.pair p).repSeq ++ leBytes 4 s.cycles ++ leBytes 4 content
    ++ leBytes 4 0

/-- A body record padded with zeros to whole slots (R445). -/
def padSlots (b : List Byte) : List Byte := b ++ List.replicate (32 * ceilDiv b.length 32 - b.length) 0

/-- A report is formed for a ring and published, or dropped (R445, R448, R449). -/
def Dev.report (s : Dev) (p cls content : Nat) (body : List Byte) : Dev :=
  let body := padSlots body
  let slots := body.length / 32
  let s := s.cntWrap (HOST_LIVE p 0) 31 0 1
  let s := s.setPair p fun x => { x with repSeq := (x.repSeq + 1) % 2 ^ 32 }
  if s.repFits p slots then
    let h := s.reportHeader p cls content slots
    let s := { s.spend with host.out := (p, h ++ body) :: s.host.out }
    let s := s.setFld (HOST_REP_PTR p) 31 16 (s.ringTail (HOST_REP_PTR p) + 1 + slots)
    let s := (s.cntWrap (HOST_LIVE p 1) 31 0 1).setPair p fun x => { x with lastSeq := x.repSeq, dropped := 0 }
    (s.writeback p).raise p
  else
    let s := (s.cntWrap (HOST_LIVE p 3) 31 0 1).raise 0x80
    let first := (s.pair p).dropped == 0
    let s := s.setPair p fun x => { x with dropped := x.dropped + 1 }
    if first then s.evW 0x1101 (BitVec.ofNat 32 p) (s.rd (HOST_LIVE p 3)) else s

/-- Ring that a class is routed to while EN = 1 (R446, R455). -/
def Dev.routed (s : Dev) (cls : Nat) : Option Nat :=
  let cls := if cls = 5 then 4 else if cls = 8 then 7 else cls
  let b := match cls with
    | 1 => s.fld (HOST_ROUTE 0) 7 0 | 2 => s.fld (HOST_ROUTE 0) 15 8 | 3 => s.fld (HOST_ROUTE 0) 23 16
    | 4 => s.fld (HOST_ROUTE 0) 31 24 | 6 => s.fld (HOST_ROUTE 1) 7 0 | 7 => s.fld (HOST_ROUTE 1) 15 8
    | 9 => s.fld (HOST_ROUTE 1) 23 16 | _ => 0
  if bitOf b 7 then some (b % 16) else none

/-- A report of a routed class (R446). -/
def Dev.reportRouted (s : Dev) (cls content : Nat) (body : List Byte) : Dev :=
  match s.routed cls with
  | none => s
  | some p => s.report p cls content body

/-- The command ledger of a pair counts the end of a descriptor that it holds in OUT (k = 5) or DROP (k = 7); one that was
latched before the ledger was zeroed is none of its (R432, R453). -/
def Dev.endCount (s : Dev) (p k : Nat) : Dev :=
  let held := s.fld (HOST_LIVE p 6) 31 0
  if held = 0 then s else (s.setFld (HOST_LIVE p 6) 31 0 (held - 1)).cntWrap (HOST_LIVE p k) 31 0 1

/-- A latched descriptor ends with a status (R453, R454). -/
def Dev.endDesc (s : Dev) (p status : Nat) : Dev :=
  if status = 0 then s.endCount p 5 else (s.endCount p 7).ev 0x1103 p status

/-- Bytes of a completion record (R444). -/
def Dev.completion (s : Dev) (p typ idx status tag detail : Nat) : List Byte :=
  leBytes 1 0x11 ++ leBytes 1 typ ++ leBytes 1 p ++ leBytes 1 status ++ leBytes 4 tag ++ leBytes 2 idx ++ [0, 0]
    ++ leBytes 4 s.cycles ++ leBytes 4 (stamp32 s.now).toNat ++ leBytes 4 detail ++ List.replicate 8 0

/-- A descriptor ends with a completion (R443, R444). -/
def Dev.complete (s : Dev) (p typ idx status tag detail : Nat) : Dev :=
  ((s.endDesc p status).report p 10 0 (s.completion p typ idx status tag detail)).spend

end Sys2Proof.Machine
end

