-- ==== Sys2Proof/Machine/Loop.lean ====
section
/-! DEFINITION. The loop engine (chapter 02): evaluation, context states, faults and host commands. -/

namespace Sys2Proof.Machine

/-- Set STATE of a context (R82). -/
def Dev.setCtxState (s : Dev) (c st : Nat) : Dev := s.setFld (LOOP_CTX_STAT c) 2 0 st

/-- MISS_CNT, with its 4-bit reading (R75). -/
def Dev.setMiss (s : Dev) (c n : Nat) : Dev :=
  (s.setLctx c fun x => { x with missCnt := n }).setFld (LOOP_CTX_STAT c) 11 8 (min n 15)

/-- A context passes into Clearing: its output register reads zero (R44). -/
def Dev.toClearing (s : Dev) (c : Nat) : Dev :=
  ((s.setCtxState c 1).wr (LOOP_CTX_OUTV c) 0).setFld (LOOP_CTX_STAT c) 23 16 0

/-- Entry values of Run (R70). The limit flags and LIMITED clear too (log entry 84). -/
def Dev.toRun (s : Dev) (c : Nat) : Dev :=
  let s := (((s.setCtxState c 2).wr (LOOP_CTX_INTV c) 0).wr (LOOP_CTX_DV c) 0).wr (LOOP_CTX_OUTV c) 0
  let s := s.setLctx c fun x => { x with xPrev := none, limHi := false, limLo := false, resRun := false }
  (s.setBit (LOOP_CTX_STAT c) 15 false).setGen c fun g => { g with hostNew := none, descNew := none, latched := none }

/-- Cause bit, summary bit, interrupt source of the loop engine (R74, R78). -/
def Dev.markFault (s : Dev) (c cause : Nat) : Dev :=
  ((s.orMask (LOOP_CTX_FLT c) (2 ^ cause)).orMask (LOOP_FAULT_SUM (c / 32)) (2 ^ (c % 32))).raise 0x20

/-- RATE_LIM of a context. -/
def Dev.rateLim (s : Dev) (c : Nat) : Rat := s.pbv (LOOP_CTX_RATE_LIM c)

/-- One ramp step: the output moves RATE_LIM toward zero, as a value of its own stage (R72, R73). -/
def Dev.rampStep (s : Dev) (c : Nat) : Dev :=
  let u := s.pbv (LOOP_CTX_OUTV c)
  let rl := s.rateLim c
  if rl < absRat u then s.wrPbv (LOOP_CTX_OUTV c) (stage1 (if 0 < u then u - rl else u + rl)) else s.toClearing c

/-- The action of R72 for causes of which `top` has the highest priority; causes 7 to 10 from Run take FAULT_ACT. -/
def Dev.faultAction (s : Dev) (c top : Nat) : Dev :=
  let s := s.setFld (LOOP_CTX_STAT c) 7 4 top
  if s.ctxState c = 2 ∧ 7 ≤ top then
    let act := s.fld (LOOP_CTX_CFG c) 12 11
    let hold := s.fld (LOOP_CTX_STALE c) 23 16
    let rl := s.rateLim c
    if act = 1 ∧ hold ≠ 0 then (s.setCtxState c 3).setFld (LOOP_CTX_STAT c) 23 16 (hold - 1)
    else if act = 2 ∧ rl ≠ 0 ∧ rl < absRat (s.pbv (LOOP_CTX_OUTV c)) then (s.setCtxState c 4).rampStep c
    else s.toClearing c
  else s.toClearing c

/-- Causes found together: each sets its bits and records its event, the state follows the most severe action (R74). -/
def Dev.takeFaults (s : Dev) (c : Nat) (causes : List (Nat × Nat × Nat)) : Dev :=
  match causes with
  | [] => s
  | (k, _, _) :: _ =>
    let top := causes.foldl (fun t x => min t x.1) k
    (s.each causes fun d x => (d.markFault c x.1).ev x.2.1 c x.2.2).faultAction c top

/-- ENG_FAULT (R54): every context in Run, Hold or Ramp enters Clearing with cause 1; one that its own cause has just sent
to Clearing keeps that cause (log entry 84). -/
def Dev.engFault (s : Dev) : Dev :=
  let s := (s.setBit LOOP_ENG_STAT 7 true).ev 0x0208 0 s.loop.resCycle
  s.each (List.range 128) fun d c =>
    if 2 ≤ d.ctxState c then ((d.markFault c 1).setFld (LOOP_CTX_STAT c) 7 4 1).toClearing c else d

/-- RES_ENG_LIMIT; 0 acts as 1 (R81). -/
def Dev.resEngLimit (s : Dev) : Nat := max 1 (s.fld LOOP_ENG_CFG 7 0)

/-- A residue mismatch in an evaluation: counters, RES_PENDING and event 0x0201 (R52). -/
def Dev.countMismatch (s : Dev) (c stage : Nat) : Dev :=
  let s := ((s.cntSat (LOOP_CTX_RESCNT c) 15 0 1).cntSat LOOP_RES_TOTAL 31 0 1).setBit (LOOP_CTX_STAT c) 12 true
  ({ s with loop.resCycle := s.loop.resCycle + 1 }.setLctx c fun x => { x with resRun := true }).ev 0x0201 c stage

/-- ENG_FAULT rises when the mismatches of the cycle exceed the limit (R54). -/
def Dev.checkEngFault (s : Dev) : Dev :=
  if s.resEngLimit < s.loop.resCycle ∧ !s.bit LOOP_ENG_STAT 7 then s.engFault else s

/-- A gain from a curve at an error (R62, R63). -/
def Dev.curve (s : Dev) (c k : Nat) (e : Rat) : Rat :=
  let h := pow2 (signed 8 (s.fld (LOOP_CTX_CFG c) 31 24) - 4)
  interp (fun i => s.pbv (loopCurve c k i)) 32 (e / h + 16)

/-- What an evaluation computes in its stages S1 to S8 (R64). -/
structure EvalOut where
  fb : Rat
  e : Rat
  x : Rat
  i : Rat
  d : Rat
  u : Rat
  hi : Bool
  lo : Bool
  /-- First stage whose exponent overflowed (R49). -/
  ovf : Option Nat

/-- First of the listed stages that overflows. -/
def firstOvf (xs : List (Nat × List Rat)) : Option Nat := (xs.find? fun p => stageOvf p.2).map Prod.fst

/-- Stages S1 to S8 (R64 to R68), each rounded at its own exponent (R47). A clamp's limit is exact (R50). -/
def Dev.evalStages (s : Dev) (c : Nat) (raw sp : Rat) : EvalOut :=
  let cfg := (s.rd (LOOP_CTX_CFG c)).toNat
  let ctx := s.lctx c
  let fb0 := s.pbv (LOOP_CTX_FBSCALE c) * raw + s.pbv (LOOP_CTX_FBOFS c)
  let e0 := sp - fb0
  let e1 := if bitOf cfg 13 then wrapRat e0 (s.pbv (LOOP_CTX_WRAP c)) else e0
  let ex1 := stageExp [fb0, e1]
  let fb := roundAt ex1 fb0
  let e := roundAt ex1 e1
  let kp0 := s.curve c 0 e
  let ki0 := s.curve c 1 e
  let kd0 := s.curve c 2 e
  let ex3 := stageExp [kp0, ki0, kd0]
  let x := if bitOf cfg 15 then -fb else e
  let ts := stage1 (s.ctxTs c)
  let inv := 1 / s.ctxTs c
  let p0 := roundAt ex3 kp0 * e
  let di0 := roundAt ex3 ki0 * e * ts
  let dr0 := roundAt ex3 kd0 * (x - ctx.xPrev.getD x) * inv
  let ex4 := stageExp [p0, di0, dr0]
  let p := roundAt ex4 p0
  let di := roundAt ex4 di0
  let dr := roundAt ex4 dr0
  let iOld := s.pbv (LOOP_CTX_INTV c)
  let imin := s.pbv (LOOP_CTX_IMIN c)
  let imax := s.pbv (LOOP_CTX_IMAX c)
  let freeze := bitOf cfg 14 && ((decide (0 < di) && ctx.limHi) || (decide (di < 0) && ctx.limLo))
  let i0 := clampRat imin imax (if freeze then iOld else iOld + di)
  let held := freeze || decide (i0 = imin) || decide (i0 = imax)
  let dOld := s.pbv (LOOP_CTX_DV c)
  let df := bitsOf cfg 19 16
  let d0 := if df = 0 then dr else dOld + (dr - dOld) / ((2 ^ df : Nat) : Rat)
  let ex5 := stageExp [i0, d0]
  let i := if held then i0 else clampRat imin imax (roundAt ex5 i0)
  let d := roundAt ex5 d0
  let ex6 := stageExp [p, i, d]
  let u6 := roundAt ex6 p + roundAt ex6 i + roundAt ex6 d
  let prev := s.pbv (LOOP_CTX_OUTV c)
  let rl := s.rateLim c
  let up := decide (0 < rl) && decide (prev + rl < u6)
  let down := decide (0 < rl) && decide (u6 < prev - rl)
  let u7 := stage1 (if up then prev + rl else if down then prev - rl else u6)
  let omin := s.pbv (LOOP_CTX_OMIN c)
  let omax := s.pbv (LOOP_CTX_OMAX c)
  let u := clampRat omin omax u7
  { fb := fb, e := e, x := x, i := i, d := d, u := u,
    hi := up || decide (u = omax), lo := down || decide (u = omin),
    ovf := firstOvf [(1, [fb0, e1]), (3, [kp0, ki0, kd0]), (4, [p0, di0, dr0]), (5, [i0, d0]), (6, [p, i, d]), (7, [u6])] }

/-- Outputs as they stand at the start of P2, with their ages (R58). -/
abbrev OutSnap := List (Rat × Option Nat)

/-- Outputs of all contexts at the start of P2. -/
def Dev.outSnap (s : Dev) : OutSnap := (List.range 128).map fun c => (s.pbv (LOOP_CTX_OUTV c), (s.lctx c).outAge)

/-- Feedback sample of a context and its age (R57, R58). Of FB_KIND 5 the raw value is the other context's output as the PBV
gives it (log entry 84). -/
def Dev.feedback (s : Dev) (snap : OutSnap) (c : Nat) : Option (Rat × Nat) :=
  let src := (s.rd (LOOP_CTX_SRC c)).toNat
  if bitsOf src 3 0 = 5 then
    let o := snap.getD (bitsOf src 11 4) (0, none)
    o.2.map fun a => (o.1, a)
  else (s.source (bitsOf src 3 0) (bitsOf src 11 4)).map fun v => ((v.1 : Rat), v.2)

/-- Setpoint of a context and its age; 0 for a profile generator or a constant (R57, R59). -/
def Dev.setpoint (s : Dev) (snap : OutSnap) (c : Nat) : Option (Rat × Nat) :=
  let src := (s.rd (LOOP_CTX_SRC c)).toNat
  match bitsOf src 15 12 with
  | 0 => some (s.pbv (PROF_POSV c), 0)
  | 1 => some (s.pbv (LOOP_CTX_SPCONST c), 0)
  | _ =>
    let o := snap.getD (bitsOf src 23 16) (0, none)
    o.2.map fun a => (o.1, a)

/-- FB_VALID of a context now. -/
def Dev.fbValid (s : Dev) (snap : OutSnap) (c : Nat) : Bool :=
  ageValid ((s.feedback snap c).map Prod.snd) (s.fld (LOOP_CTX_STALE c) 7 0)

/-- SP_VALID of a context now. -/
def Dev.spValid (s : Dev) (snap : OutSnap) (c : Nat) : Bool :=
  ageValid ((s.setpoint snap c).map Prod.snd) (s.fld (LOOP_CTX_STALE c) 15 8)

/-- The feedback of a context as stage S1 converts it, for a generator that tracks (R85). -/
def Dev.measured (s : Dev) (c : Nat) : Option Rat :=
  (s.feedback s.outSnap c).map fun v => stage1 (s.pbv (LOOP_CTX_FBSCALE c) * v.1 + s.pbv (LOOP_CTX_FBOFS c))

/-- Requests of cause 7 for a context, as event parameters. -/
def Dev.requests (s : Dev) (c : Nat) : List Nat := (s.loop.faultReq.filter fun q => q.1 = c).map Prod.snd

/-- Causes 6, 7, 9 and 10, tested before S1 in Run (R74); 6 alone in Hold and Ramp (R72). -/
def Dev.startCauses (s : Dev) (snap : OutSnap) (c : Nat) (clear : Bool) : List (Nat × Nat × Nat) :=
  let run := s.ctxState c = 2
  let six := if clear then [(6, 0x020B, 0)] else []
  if run then
    six ++ (s.requests c).map (fun r => (7, 0x0209, r))
      ++ (if s.fbValid snap c then [] else [(9, 0x0204, ageParam ((s.feedback snap c).map Prod.snd))])
      ++ (if s.spValid snap c then [] else [(10, 0x0205, ageParam ((s.setpoint snap c).map Prod.snd))])
  else six

/-- The results of a completed evaluation (R64, R75). -/
def Dev.evalDone (s : Dev) (c : Nat) (sp : Rat) (o : EvalOut) : Dev :=
  let s := ((s.wrExact (LOOP_CTX_OUTV c) o.u).wrExact (LOOP_CTX_INTV c) o.i).wrPbv (LOOP_CTX_ERRV c) o.e
  let s := ((s.wrPbv (LOOP_CTX_SPV c) sp).wrPbv (LOOP_CTX_FBV c) o.fb).wrPbv (LOOP_CTX_DV c) o.d
  let s := (s.setBit (LOOP_CTX_STAT c) 15 (o.hi || o.lo)).setBit (LOOP_CTX_STAT c) 12 false
  (s.setMiss c 0).setLctx c fun x => { x with xPrev := some o.x, limHi := o.hi, limLo := o.lo, outAge := some 0 }

/-- An evaluation of a context in Run that passes its start tests (R52, R53, R64, R74). -/
def Dev.evaluateRun (s : Dev) (snap : OutSnap) (i : TickIn) (c : Nat) : Dev :=
  let raw := ((s.feedback snap c).map Prod.fst).getD 0
  let sp := ((s.setpoint snap c).map Prod.fst).getD 0
  let o := s.evalStages c raw sp
  let mis := (i.loopMis.find? fun p => p.1 = c).map Prod.snd
  let bad := i.curveBad.find? fun p => p.1 = c
  let again := (s.lctx c).resRun
  let s := s.setLctx c fun x => { x with resRun := false }
  let s := match mis with
    | some st => s.countMismatch c st
    | none => s
  let causes :=
    (match bad with
      | some b => [(2, 0x0207, b.2.1 * 64 + b.2.2)]
      | none => [])
    ++ (match o.ovf with
      | some st => [(3, 0x0203, st)]
      | none => [])
    ++ (match mis with
      | some st => if again then [(4, 0x0202, st)] else []
      | none => [])
  let s := if causes = [] ∧ mis = none then s.evalDone c sp o else s.takeFaults c causes
  s.checkEngFault

/-- An evaluation in Hold or Ramp that completes without mismatch: MISS_CNT and RES_PENDING clear (R53, R75). -/
def Dev.heldDone (s : Dev) (c : Nat) : Dev :=
  ((s.setMiss c 0).setBit (LOOP_CTX_STAT c) 12 false).setLctx c fun x => { x with resRun := false }

/-- A due evaluation of a context in Hold or Ramp that P2 reaches (R72, R73, R75). -/
def Dev.evaluateHeld (s : Dev) (i : TickIn) (c : Nat) : Dev :=
  if s.ctxState c = 3 then
    let s := s.heldDone c
    let left := s.fld (LOOP_CTX_STAT c) 23 16
    if left = 0 then s.toClearing c else s.setFld (LOOP_CTX_STAT c) 23 16 (left - 1)
  else
    match (i.loopMis.find? fun p => p.1 = c).map Prod.snd with
    | some st => ((s.countMismatch c st).takeFaults c [(4, 0x0202, st)]).checkEngFault
    | none => (s.heldDone c).rampStep c

/-- Result of a host command and its end: RESULT, BUSY and the event (R79). -/
def Dev.cmdResult (s : Dev) (c op r : Nat) : Dev :=
  let s := (s.setFld LOOP_CMD_STAT 15 12 r).setBit LOOP_CMD_STAT 16 false
  let s := { s with loop.cmd := none }
  if op = 1 then (if r = 0 then s.ev 0x020C c 0 else s.ev 0x020D c r) else s

/-- First failing test of a RESUME, in the order 3, 1, 4, 6, 2, 5; 0 where none fails (R79). -/
def Dev.resumeTest (s : Dev) (snap : OutSnap) (q : LoopCmd) : Nat :=
  if q.ctx = 0 ∨ s.ctxState q.ctx = 0 then 3
  else if s.mode ≠ 2 then 1
  else if s.bit LOOP_ENG_STAT 7 then 4
  else if s.ctxState q.ctx ≠ 1 then 6
  else if s.requests q.ctx ≠ [] ∨ !s.fbValid snap q.ctx ∨ !s.spValid snap q.ctx then 2
  else if !q.sessOk then 5
  else 0

/-- A command whose context is 0, Disabled, or due in Clearing is settled at the start of P2 (R71, R79). -/
def Dev.settleCmd (s : Dev) (snap : OutSnap) (n : Nat) : Dev :=
  match s.loop.cmd with
  | none => s
  | some q =>
    let st := s.ctxState q.ctx
    if q.ctx = 0 ∨ st = 0 then s.cmdResult q.ctx q.op 3
    else if st = 1 ∧ s.ctxDue q.ctx n then
      if q.op = 1 then
        let r := s.resumeTest snap q
        let s := s.cmdResult q.ctx 1 r
        if r = 0 then s.toRun q.ctx else s
      else (s.ev 0x020B q.ctx 0).cmdResult q.ctx 2 0
    else s

/-- One due context in Run, Hold or Ramp that P2 reaches (R74, R79). -/
def Dev.evaluate (s : Dev) (snap : OutSnap) (i : TickIn) (c : Nat) : Dev :=
  let cmd := s.loop.cmd.filter fun q => q.ctx = c
  let clear := cmd.elim false fun q => q.op = 2
  let s := match cmd with
    | some q => if q.op = 1 then s.cmdResult c 1 (s.resumeTest snap q) else s.cmdResult c 2 0
    | none => s
  let causes := s.startCauses snap c clear
  if causes ≠ [] then (s.setLctx c fun x => { x with resRun := false }).takeFaults c causes
  else if s.ctxState c = 2 then s.evaluateRun snap i c
  else s.evaluateHeld i c

/-- A missed evaluation (R75): cause 8 above MISS_LIMIT. -/
def Dev.miss (s : Dev) (c : Nat) : Dev :=
  let k := min 16 ((s.lctx c).missCnt + 1)
  let s := (s.setMiss c k).setLctx c fun x => { x with resRun := false }
  if s.fld (LOOP_CTX_CFG c) 23 20 < k then s.takeFaults c [(8, 0x0206, k)] else s

/-- FB_VALID and SP_VALID of an enabled context (R59). -/
def Dev.showValid (s : Dev) (snap : OutSnap) (c : Nat) : Dev :=
  if s.ctxState c = 0 then s
  else (s.setBit (LOOP_CTX_STAT c) 13 (s.fbValid snap c)).setBit (LOOP_CTX_STAT c) 14 (s.spValid snap c)

/-- Contexts that hold a record: a commit has enabled them (R72). -/
def Dev.enabled (s : Dev) : List Nat := (List.range 128).filter fun c => s.ctxState c != 0 && c != 0

/-- Corrections that P2's reads made (R76). -/
def Dev.loopEcc (s : Dev) (i : TickIn) : Dev :=
  let s := s.cntSat LOOP_ECC_CNT 31 16 i.curveCorr
  s.each i.storeCorr fun d p => (d.cntSat LOOP_ECC_CNT 15 0 1).ev 0x020A p.1 p.2

/-- P2 of tick n (R58, R64, R71): commands settled, then due contexts in ascending number. A command whose context's due
evaluation P2 does not reach waits for one that P2 reaches (log entry 84). -/
def Dev.loopP2 (s : Dev) (i : TickIn) (n : Nat) : Dev :=
  let snap := s.outSnap
  let s := s.loopEcc i
  let s := s.settleCmd snap n
  let s := s.each s.enabled fun d c => d.showValid snap c
  let s := s.each (s.enabled.filter fun c => s.ctxDue c n) fun d c =>
    if d.ctxState c < 2 then d
    else if i.loopMissed.contains c then d.miss c
    else d.evaluate snap i c
  s

/-- The mode leaves Arming or Operate for Watch: cause 5 for every context in Run, Hold or Ramp (R38, R74). -/
def Dev.loopLeave (s : Dev) : Dev :=
  s.each s.enabled fun d c =>
    if 2 ≤ d.ctxState c then ((d.markFault c 5).setFld (LOOP_CTX_STAT c) 7 4 5).toClearing c else d

/-- The mode enters Operate: contexts leave Clearing, unless ENG_FAULT is set (R38, R72). -/
def Dev.loopEnter (s : Dev) : Dev :=
  if s.bit LOOP_ENG_STAT 7 then s
  else s.each s.enabled fun d c => if d.ctxState c = 1 then d.toRun c else d

/-- LOOP_CTX_CMD: the command awaits its evaluation and replaces an earlier one (R79). -/
def Dev.loopCommand (s : Dev) (c op : Nat) (sessOk : Bool) : Dev :=
  let s := ((s.setFld LOOP_CMD_STAT 6 0 c).setFld LOOP_CMD_STAT 9 8 op).setBit LOOP_CMD_STAT 16 true
  { s with loop.cmd := some { ctx := c, op := op, sessOk := sessOk } }

/-- RESUME: the session is tested as the write arrives (R79, R427). -/
def Dev.resumeCommand (s : Dev) (c : Nat) : Dev :=
  if s.sessOk 0 then s.sessUse.loopCommand c 1 true else s.loopCommand c 1 false

/-- Contexts in Run (LOOP_ENG_STAT.RUN_CNT, R81). -/
def Dev.runCnt (s : Dev) : Nat := ((List.range 128).filter fun c => s.ctxState c = 2).length

end Sys2Proof.Machine
end

