-- ==== Sys2Proof/Machine/Profile.lean ====
section
/-! DEFINITION. Setpoint profiles (chapter 03): the generators, their sources and steps. -/

namespace Sys2Proof.Machine

/-- STATE codes of PROF_STAT (R106). -/
abbrev gTracking : Nat := 0
abbrev gChasing : Nat := 1
abbrev gArrived : Nat := 2
abbrev gStopping : Nat := 3
abbrev gStopped : Nat := 4
abbrev gWaiting : Nat := 5
abbrev gFollowing : Nat := 6
abbrev gRate : Nat := 7
abbrev gFaulted : Nat := 8

/-- q = 2^(PEXP - 32) (R87). -/
def Dev.genQ (s : Dev) (g : Nat) : Rat := pow2 (signed 8 (s.fld (PROF_CFG g) 31 24) - 32)

/-- Step period of a generator: its context's Ts, or 20 ms for an axis (R83). -/
def Dev.genT (s : Dev) (g : Nat) : Rat := if g < 128 then s.ctxTs g else 1 / 50

/-- A generator's value as it is held, in 64-bit two's complement (R87); free outside that range (log entry 86). -/
def gen64 (x : Int) : Int := if -(2 ^ 63) ≤ x ∧ x < 2 ^ 63 then x else (Config.genWide x).toInt

/-- A value in units of q, rounded to nearest with ties to even (R87). The model rounds TMIN, TMAX, TJUMP, MATCH and w so
too (log entry 85). -/
def Dev.toQ (s : Dev) (g : Nat) (x : Rat) : Int := gen64 (roundRat (x / s.genQ g))

/-- A limit per step, rounded toward zero (R87): k is the power of T. -/
def limQ (q t : Rat) (k : Nat) (x : Rat) : Int := truncRat (x * t ^ k / q)

/-- Words of VMAX, AMAX and JMAX in force (R103). -/
def Dev.genLims (s : Dev) (g : Nat) : Word × Word × Word :=
  (s.gen g).oldLim.getD (s.rd (PROF_VMAX g), s.rd (PROF_AMAX g), s.rd (PROF_JMAX g))

/-- Wrap modulus in q (R93). -/
def Dev.genW (s : Dev) (g : Nat) : Int := s.toQ g (if g < 128 then s.pbv (LOOP_CTX_WRAP g) else 360)

/-- PROF_CFG.PWRAP. -/
def Dev.pwrap (s : Dev) (g : Nat) : Bool := s.bit (PROF_CFG g) 3

/-- An integer wrapped into [-w/2, w/2) (R93). -/
def wrapQ (x w : Int) : Int := if w ≤ 0 then x else
  let y := x % w
  if w ≤ 2 * y then y - w else y

def Dev.gState (s : Dev) (g : Nat) : Nat := s.fld (PROF_STAT g) 3 0

def Dev.setGState (s : Dev) (g st : Nat) : Dev := s.setFld (PROF_STAT g) 3 0 st

/-- A PROF event 0x0301 + k also sets bit k of PROF_FLT (R106). -/
def Dev.profEv (s : Dev) (g k : Nat) (p2 : Word) : Dev :=
  (s.orMask (PROF_FLT g) (2 ^ k)).evW (0x0301 + k) (BitVec.ofNat 32 g) p2

/-- The generator runs rather than tracks: its context is in Run; an axis needs Operate and a solution (R85). -/
def Dev.genRuns (s : Dev) (g : Nat) : Bool :=
  if g < 128 then s.ctxState g == 2 else s.mode == 2 && s.est.x != []

/-- What a tracking generator follows; none where nothing has been delivered (R85). -/
def Dev.genMeasured (s : Dev) (g : Nat) : Option Rat :=
  if g < 128 then s.measured g else if s.est.x = [] then none else s.est.x[g - 128]?

/-- Values of the generator in its registers (R106). -/
def Dev.showGen (s : Dev) (g : Nat) : Dev :=
  let x := s.gen g
  let q := s.genQ g
  let t := s.genT g
  let v : Rat := if t = 0 then 0 else (x.vel : Rat) * q / t
  let a : Rat := if t = 0 then 0 else (x.acc : Rat) * q / (t * t)
  (((s.wrPbv (PROF_POSV g) ((x.pos : Rat) * q)).wrPbv (PROF_VELV g) v).wrPbv (PROF_ACCV g) a).wrPbv (PROF_TGTV g)
    ((x.tgt : Rat) * q)

/-- Set the target before clamping; TGT_CLAMPED and event 0x0303 follow (R97). -/
def Dev.setTarget (s : Dev) (g : Nat) (raw : Int) : Dev :=
  let lo := s.toQ g (s.pbv (PROF_TMIN g))
  let hi := s.toQ g (s.pbv (PROF_TMAX g))
  let cl := !s.pwrap g && (decide (raw < lo) || decide (hi < raw))
  let t := if !cl then raw else if raw < lo then lo else hi
  let was := s.bit (PROF_STAT g) 5
  let s := (s.setGen g fun x => { x with tgtRaw := raw, tgt := t }).setBit (PROF_STAT g) 5 cl
  if cl ∧ !was then s.profEv g 2 (if raw < lo then 0 else 1) else s

/-- Target source of a generator: 1, 2 and 3 take a sample (R94). -/
def Dev.tgtSrc (s : Dev) (g : Nat) : Nat := s.fld (PROF_CFG g) 2 0

/-- The mapped value of a source sample, before q (R94). -/
def Dev.mapped (s : Dev) (g : Nat) (raw : Int) : Rat := s.pbv (PROF_TSCALE g) * (raw : Rat) + s.pbv (PROF_TOFS g)

/-- The sample that TGT_SRC names. -/
def Dev.tgtSample (s : Dev) (g : Nat) : Option (Int × Nat) :=
  s.source (if s.tgtSrc g = 2 then 2 else 1) (s.fld (PROF_CFG g) 11 4)

/-- Distance between two targets, wrapped where the generator wraps (R93, R96). -/
def Dev.dist (s : Dev) (g : Nat) (a b : Int) : Int :=
  if s.pwrap g then wrapQ (a - b) (s.genW g) else a - b

/-- Distance of a sample: of targets for a generator that chases one, of rates for an axis under its joystick (R96). -/
def Dev.sampleDist (s : Dev) (g : Nat) (a b : Int) : Int :=
  if 128 ≤ g ∧ s.tgtSrc g = 3 then a - b else s.dist g a b

/-- Examine a new sample of the source (R96): it renews the age, or is held as a jump candidate. The second component is
the accepted value. The current target is the one before R97's clamp, and for an axis under its joystick the rate demand
last accepted (log entry 85). -/
def Dev.takeSample (s : Dev) (g : Nat) (v : Int) (age : Nat) : Dev × Option Int :=
  let x := s.gen g
  let now := if 128 ≤ g ∧ s.tgtSrc g = 3 then x.rate else x.tgtRaw
  let tj := s.toQ g (s.pbv (PROF_TJUMP g))
  let far (b : Int) : Bool := 0 < tj && tj < |s.sampleDist g v b|
  let held := match x.cand with
    | none => far now
    | some c => far c
  if held then
    let first := x.cand.isNone
    let s := (s.setGen g fun y => { y with cand := some v, seenAge := some age }).setBit (PROF_STAT g) 6 true
    (if first then s.profEv g 5 (toPbv ((|s.sampleDist g v now| : Int) * s.genQ g)) else s, none)
  else
    ((s.setGen g fun y => { y with cand := none, srcAge := some age, seenAge := some age }).setBit (PROF_STAT g) 6 false,
      some v)

/-- A new sample, one that the generator has not examined (R96). -/
def Dev.sampleStep (s : Dev) (g : Nat) : Dev × Option Int :=
  match s.tgtSample g with
  | none => (s, none)
  | some (raw, age) =>
    if (s.gen g).seenAge = some age then (s, none) else s.takeSample g (s.toQ g (s.mapped g raw)) age

/-- The source of a generator is valid (R95): sources 0 and 4 are never stale. -/
def Dev.srcValid (s : Dev) (g : Nat) : Bool :=
  s.tgtSrc g == 0 || s.tgtSrc g == 4 || ageValid (s.gen g).srcAge (s.fld (PROF_CFG g) 19 12)

/-- A tracking step (R85). The source's age is that of its sample, and no sample is a target. -/
def Dev.trackStep (s : Dev) (g : Nat) : Dev :=
  let p := match s.genMeasured g with
    | some m => s.toQ g m
    | none => (s.gen g).pos
  let age := (s.tgtSample g).map Prod.snd
  let s := s.setGen g fun x => { x with
    pos := p, vel := 0, acc := 0, tgt := p, tgtRaw := p, cand := none, latched := none, allocTgt := none, srcAge := age }
  let s := (s.setGState g gTracking).clrMask (PROF_STAT g) 0x2E0
  s.setBit (PROF_STAT g) 4 (s.srcValid g)

/-- Sources 1 and 2 (R95, R96). -/
def Dev.analogueSource (s : Dev) (g : Nat) : Dev :=
  let (s, acc) := s.sampleStep g
  let st := s.gState g
  let ok := s.srcValid g
  let s := s.setBit (PROF_STAT g) 4 ok
  if ok then
    let s := if st = gStopping ∨ st = gStopped then (s.profEv g 8 0).setGState g gChasing else s
    s.setTarget g (acc.getD (s.gen g).tgtRaw)
  else if st = gStopping ∨ st = gStopped then s
  else (s.profEv g 3 (BitVec.ofNat 32 (ageParam (s.gen g).srcAge))).setGState g gStopping

/-- Source 3 of a context: the lever (R100). A lever that matches while its sample is held back leaves the target at the
position (R96). -/
def Dev.leverSource (s : Dev) (g : Nat) : Dev :=
  let st := s.gState g
  let (s, acc) := s.sampleStep g
  let ok := s.srcValid g
  let s := s.setBit (PROF_STAT g) 4 ok
  let x := s.gen g
  let lever := ((s.tgtSample g).map fun r => s.toQ g (s.mapped g r.1)).getD 0
  if st = gStopping ∨ st = gStopped then
    if ok then (((s.profEv g 8 0).profEv g 7 0).setTarget g x.pos).setGState g gWaiting else s
  else if st = gFollowing then
    if ok then s.setTarget g (acc.getD x.tgtRaw)
    else (s.profEv g 3 (BitVec.ofNat 32 (ageParam x.srcAge))).setGState g gStopping
  else if ok ∧ |s.dist g lever x.pos| ≤ s.toQ g (s.pbv (PROF_MATCH g)) then
    ((s.profEv g 6 0).setTarget g (if x.cand.isNone then lever else x.pos)).setGState g gFollowing
  else (s.setTarget g x.pos).setGState g gWaiting

/-- Axis rate demand in q per step (R101) from the joystick sample last accepted, under the limit in force (R103); a stale
lever counts as zero. -/
def Dev.leverV (s : Dev) (g : Nat) : Int :=
  if !s.srcValid g then 0
  else
    let r : Rat := (s.gen g).rate * s.genQ g
    let r := if absRat r ≤ s.pbv (PROF_MATCH g) then 0 else r
    let vm := pbvVal (s.genLims g).1
    s.toQ g (clampRat (-vm) vm r * s.genT g)

/-- The position has crossed from within the travel limits to outside (R92): the limit crossed. -/
def crossed (lo hi p p' : Int) : Option (Int × Nat) :=
  if lo ≤ p ∧ p ≤ hi then (if p' < lo then some (lo, 0) else if hi < p' then some (hi, 1) else none) else none

/-- The motion of one step toward a desired velocity (R90). -/
def Dev.moveStep (s : Dev) (g : Nat) (vd vmax amax jmax : Int) : Dev :=
  let x := s.gen g
  let vproj := x.vel + (x.acc * |x.acc|).tdiv (2 * jmax)
  let ad := clampInt (-amax) amax (vd - vproj)
  let a := clampInt (x.acc - jmax) (x.acc + jmax) ad
  let v := gen64 (clampInt (-vmax) vmax (x.vel + a))
  let p := gen64 (x.pos + v)
  let w := s.genW g
  if s.pwrap g then
    (s.setGen g fun y => { y with acc := a, vel := v, pos := if w ≤ 0 then p else p % w }).setBit (PROF_STAT g) 9 false
  else
    match crossed (s.toQ g (s.pbv (PROF_TMIN g))) (s.toQ g (s.pbv (PROF_TMAX g))) x.pos p with
    | some (l, k) =>
      ((s.setGen g fun y => { y with acc := 0, vel := 0, pos := l }).setBit (PROF_STAT g) 9 true).profEv g 4
        (BitVec.ofNat 32 k)
    | none => (s.setGen g fun y => { y with acc := a, vel := v, pos := p }).setBit (PROF_STAT g) 9 false

/-- Sign of an integer. -/
def sgn (x : Int) : Int := if x < 0 then -1 else if x = 0 then 0 else 1

/-- One step of a generator that runs (R90, R91). A step that takes no travel stop clears TRAVEL_STOP (R106). -/
def Dev.runStep (s : Dev) (g : Nat) : Dev :=
  let s := s.setBit (PROF_STAT g) 9 false
  let q := s.genQ g
  let t := s.genT g
  let l := s.genLims g
  let vmax := limQ q t 1 (pbvVal l.1)
  let amax := limQ q t 2 (pbvVal l.2.1)
  let jmax := limQ q t 3 (pbvVal l.2.2)
  let st := s.gState g
  let x := s.gen g
  if st = gStopping ∨ st = gRate then
    if st = gStopping ∧ |x.vel| ≤ amax ∧ |x.acc| ≤ jmax then
      ((s.setGen g fun y => { y with vel := 0, acc := 0, tgt := y.pos, tgtRaw := y.pos }).setBit (PROF_STAT g) 5
        false).setGState g gStopped
    else
      let vd := if st = gStopping then 0 else s.leverV g
      let s := s.moveStep g vd vmax amax jmax
      if st = gRate ∧ vd = 0 then s.setGen g fun y => { y with tgt := y.pos, tgtRaw := y.pos } else s
  else if st = gStopped ∨ st = gFaulted then s
  else
    let d := s.dist g x.tgt x.pos
    if |d| ≤ amax ∧ |x.vel| ≤ amax ∧ |x.acc| ≤ jmax then
      let s := s.setGen g fun y => { y with pos := y.tgt, vel := 0, acc := 0 }
      if st = gChasing then s.setGState g gArrived else s
    else
      let s := if st = gArrived then s.setGState g gChasing else s
      s.moveStep g (sgn d * min vmax (isqrt (2 * amax * |d|).toNat : Int)) vmax amax jmax

/-- New limits that wait take effect at a step that begins at rest (R103). -/
def Dev.takeLims (s : Dev) (g : Nat) : Dev :=
  let x := s.gen g
  if x.vel = 0 ∧ x.acc = 0 then (s.setGen g fun y => { y with oldLim := none }).setBit (PROF_STAT g) 8 false else s

/-- Entry to Run or Operate: target at the measured value, then by source (R86, R100, R101). -/
def Dev.genEntry (s : Dev) (g : Nat) : Dev :=
  let s := s.setGen g fun y => { y with tgt := y.pos, tgtRaw := y.pos, cand := none, rate := 0 }
  let st := if s.tgtSrc g = 3 then (if g < 128 then gWaiting else gRate) else gChasing
  s.setGState g st

/-- The target for this step from the generator's source (R94 to R101). -/
def Dev.genSource (s : Dev) (g : Nat) : Dev :=
  match s.tgtSrc g with
  | 0 =>
    let s := match (s.gen g).latched with
      | some w => s.setTarget g (s.toQ g (pbvVal w))
      | none => s.setTarget g (s.gen g).tgtRaw
    (s.setGen g fun y => { y with latched := none }).setBit (PROF_STAT g) 4 true
  | 1 => s.analogueSource g
  | 2 => s.analogueSource g
  | 3 =>
    if g < 128 then s.leverSource g
    else
      let (s, acc) := s.sampleStep g
      let s := match acc with
        | some v => s.setGen g fun y => { y with rate := v }
        | none => s
      s.setBit (PROF_STAT g) 4 (s.srcValid g)
  | 4 =>
    let s := match (s.gen g).allocTgt with
      | some v => s.setTarget g (s.toQ g v)
      | none => s.setTarget g (s.gen g).tgtRaw
    s.setBit (PROF_STAT g) 4 true
  | _ => s

/-- One due step of a generator in P1 (R84, R85, R89, R90, R103). -/
def Dev.genStep (s : Dev) (i : TickIn) (g : Nat) : Dev :=
  if i.profMissed.contains g then s
  else
    let mis := i.profMis.contains g
    let runs := s.genRuns g
    if runs ∧ s.gState g = gFaulted then s.takeLims g
    else if mis then
      let s := (s.cntSat PROF_RES_TOTAL 31 0 1).profEv g 0 0
      if !runs then s
      else if s.bit (PROF_STAT g) 7 then
        ((s.setGen g fun y => { y with vel := 0, acc := 0 }).setGState g gFaulted).profEv g 1 0 |>.showGen g
      else s.setBit (PROF_STAT g) 7 true
    else if !runs then ((s.trackStep g).takeLims g).showGen g
    else
      let s := if s.gState g = gTracking then s.genEntry g else s
      let s := s.setBit (PROF_STAT g) 7 false
      (((s.takeLims g).genSource g).runStep g).showGen g

/-- Generators of contexts due in tick n, then the axes in tick 7 (R83, R102). -/
def Dev.genDue (s : Dev) (n : Nat) : List Nat :=
  ((List.range 128).filter fun c => c != 0 && s.ctxDue c n && s.fld (LOOP_CTX_SRC c) 15 12 == 0)
    ++ (if n = 7 then [128, 129, 130] else [])

/-- State loaded from the Lead's frame at the start of P1 (R104). -/
def Dev.loadShared (s : Dev) (g : Nat) : Dev :=
  match (s.gen g).shared with
  | none => s
  | some h =>
    ((s.setGen g fun y => { y with
      pos := h.pos, vel := h.vel, acc := h.acc, tgt := h.tgt, tgtRaw := h.tgt, cand := h.cand, shared := none }).setGState
        g h.state).setBit (PROF_STAT g) 6 h.cand.isSome |>.showGen g

/-- P1 of tick n; a generator whose state was just loaded does not track in this tick (R104). -/
def Dev.profP1 (s : Dev) (i : TickIn) (n : Nat) : Dev :=
  let loaded := (List.range 131).filter fun g => (s.gen g).shared.isSome
  let s := s.each loaded fun d g => d.loadShared g
  s.each (s.genDue n) fun d g => if loaded.contains g && !d.genRuns g then d else d.genStep i g

/-- P0: host targets are latched where the entry has been made, and source ages grow (R86, R95, R98). -/
def Dev.profP0 (s : Dev) : Dev :=
  s.each ((List.range 131).filter fun g => g != 0) fun d g =>
    let x := d.gen g
    let v := match x.descNew with
      | some w => some w
      | none => x.hostNew
    let d := match x.descNew with
      | some w => d.wr (PROF_HTGT g) w
      | none => d
    d.setGen g fun y => { y with
      hostNew := none, descNew := none,
      latched := if d.genRuns g then (match v with
        | some w => some w
        | none => y.latched) else none,
      srcAge := y.srcAge.map (· + 1), seenAge := y.seenAge.map (· + 1) }

/-- The mode enters Operate: axis targets written before are not used (R86). -/
def Dev.axesEnter (s : Dev) : Dev :=
  s.each [128, 129, 130] fun d g => d.setGen g fun y => { y with hostNew := none, descNew := none, latched := none }

end Sys2Proof.Machine
end

