-- ==== Sys2Proof/Machine/Grove.lean ====
section
/-! DEFINITION. The Grove (chapter 06): lanes, entries, releases, results, retirement. -/

namespace Sys2Proof.Machine

/-- STATE of a lane: 0 Empty, 1 Loaded, 2 Running, 3 Retired (R195, R203). -/
def Dev.laneState (s : Dev) (l : Nat) : Nat := s.fld (GROVE_LANE_STAT l) 1 0

/-- ROLE of a lane: 0 estimator cycle, 1 bundle, 2 intact, 3 pool, 4 host, 5 none (R203). -/
def Dev.laneRole (s : Dev) (l : Nat) : Nat := s.fld (GROVE_LANE_STAT l) 4 2

def Dev.laneN (s : Dev) (l : Nat) : Nat := s.fld (GROVE_LANE_SHAPE l) 7 0
def Dev.laneM (s : Dev) (l : Nat) : Nat := s.fld (GROVE_LANE_SHAPE l) 15 8
def Dev.laneMethod (s : Dev) (l : Nat) : Nat := s.fld (GROVE_LANE_STAT l) 7 5
def Dev.laneAccum (s : Dev) (l : Nat) : Bool := s.bit (GROVE_LANE_STAT l) 8

/-- The lane is in service (R193). -/
def Dev.inSvc (s : Dev) (l : Nat) : Bool := s.bit GROVE_INSVC l

/-- Lanes in service that hold a role, ascending. -/
def Dev.roleLanes (s : Dev) (r : Nat) : List Nat :=
  (List.range 32).filter fun l => s.inSvc l && s.laneRole l == r

/-- The lane of a device role, if any is in service. -/
def Dev.roleLane (s : Dev) (r : Nat) : Option Nat := (s.roleLanes r).head?

/-- Footprint in words (R173). -/
def footprint (method : Nat) (accum : Bool) (n m : Nat) : Nat :=
  match method with
  | 1 => n * (n + 1) + 4 * n + 48
  | 2 => n * (n + 1) + 4 * n + 48
  | 3 => if accum then n * (n + 1) / 2 + m * n + 4 * (m + n) + 48 else 2 * m * n + 4 * (m + n) + 48
  | _ => m * n + n * (n + 1) + 7 * n + 5 * m + 48

/-- A shape that a LOAD may set (R173). -/
def shapeOk (method : Nat) (accum : Bool) (n m : Nat) : Bool :=
  decide (1 ≤ n) && decide (n ≤ 96) && decide (footprint method accum n m ≤ 24576) &&
  match method with
  | 1 => !accum
  | 2 => !accum
  | 3 => if accum then decide (1 ≤ m) && decide (m ≤ 192 - n) else decide (n ≤ m) && decide (m ≤ 192)
  | 4 => !accum && decide (m ≤ 192)
  | _ => false

/-- Class of a result code (R196). -/
def codeClass (c : Nat) : Nat :=
  if c = 0 then 0 else if c ≤ 7 then 1 else if c ≤ 10 then 2 else if c = 11 then 3 else if c ≤ 13 then 4 else 0

/-- Lane-memory words corrected (R195). -/
def Dev.laneCorr (s : Dev) (l : Nat) (corr : List Nat) : Dev :=
  s.each corr fun d a => (d.cntSat GROVE_ECC_CNT 15 0 1).ev 0x0605 l a

/-- INSVC_CNT, SPARES and POOL_CNT (R202). -/
def Dev.recount (s : Dev) : Dev :=
  let s := s.setFld GROVE_STAT 5 0 ((List.range 32).filter fun l => s.inSvc l).length
  (s.setFld GROVE_STAT 10 8 (s.roleLanes 4).length).setFld GROVE_STAT 21 16 (s.roleLanes 3).length

/-- Host slot that a lane serves (R199, R202). -/
def Dev.slotOf (s : Dev) (l : Nat) : Option Nat :=
  (List.range 5).find? fun k => s.fld GROVE_HOST_MAP (6 * k + 4) (6 * k) == l && s.bit GROVE_HOST_MAP (6 * k + 5)

/-- The slot of a lane goes out of service. -/
def Dev.slotOut (s : Dev) (l : Nat) : Dev :=
  match s.slotOf l with
  | some k => s.setBit GROVE_HOST_MAP (6 * k + 5) false
  | none => s

/-- Key of a row: region, selector and row, or column for a vector over variables. -/
def laneKey (region sel i : Nat) : Nat := region * 65536 + sel * 4096 + i

/-- The resident value of a region at a row and column. -/
def LaneSt.val (x : LaneSt) (region sel i col : Nat) : Rat :=
  match x.rows.find? fun r => r.key == laneKey region sel i with
  | none => 0
  | some r => (lookupKey col r.vals).getD 0

/-- LOAD (R177, R178): the resident problem and factor are zeroed, method and shape set. -/
def Dev.laneLoad (s : Dev) (l method : Nat) (accum : Bool) (n m : Nat) : Dev :=
  let s := (((s.setFld (GROVE_LANE_STAT l) 1 0 1).setFld (GROVE_LANE_STAT l) 7 5 method).setBit (GROVE_LANE_STAT l) 8 accum)
  let s := s.wrN (GROVE_LANE_SHAPE l) (n + 256 * m + 65536 * footprint method accum n m)
  s.setLane l fun x => { x with rows := [], ovr := [], fac := [], hChanged := true, hClean := false, active := [] }

/-- A refused command or entry is counted (R202). -/
def Dev.groveRefuse (s : Dev) : Dev := s.cntSat GROVE_REFUSED 31 0 1

/-- LOAD as the port takes it, with the code that the host would see (R173, R195, R196). -/
def Dev.groveLoadOp (s : Dev) (l method : Nat) (accum : Bool) (n m : Nat) : Dev × Nat :=
  if s.laneState l = 3 then (s.groveRefuse, 4)
  else if s.laneState l = 2 then (s.groveRefuse, 6)
  else if shapeOk method accum n m then (s.laneLoad l method accum n m, 0)
  else (s.groveRefuse, 7)

/-- Rows that an entry's region has in a method (R177). -/
def Dev.laneRows (s : Dev) (l region : Nat) : Nat :=
  if s.laneMethod l ≤ 2 ∨ region = 1 then s.laneN l else s.laneM l

/-- The entry lies inside the lane's shape (R176, R177). -/
def Dev.entryInside (s : Dev) (l : Nat) (e : GroveEntryIn) : Bool :=
  let m := s.laneMethod l
  let row := e.row.toNat
  let col := e.col.toNat
  let n := s.laneN l
  let sel := e.sel.toNat
  match e.region.toNat with
  | 0 => sel == 0 && decide (row < s.laneRows l 0) && decide (col < n) && (decide (3 ≤ m) || decide (col ≤ row))
  | 1 => m == 4 && sel == 0 && decide (row < n) && decide (col ≤ row)
  | 2 => (sel == 0 || (sel == 1 && m == 4)) && decide (row < s.laneRows l 2)
  | 3 => m == 4 && decide (sel ≤ 2) && decide (col < n)
  | 4 => m == 4 && decide (sel ≤ 2) && decide (col < n)
  | _ => false

/-- Row key of an entry. -/
def entryKey (e : GroveEntryIn) : Nat :=
  let r := e.region.toNat
  laneKey r e.sel.toNat (if r = 3 ∨ r = 4 then e.col.toNat else e.row.toNat)

/-- Value of an entry; a row type is 0 or 1 (R176). -/
def entryVal (e : GroveEntryIn) : Rat :=
  if e.region.toNat = 2 ∧ e.sel.toNat = 1 then (signed 32 e.mant.toNat : Rat) else gval e.exp e.mant

/-- One value into a row: the row's exponent rises with its largest magnitude and the others are rounded once more
(R181 to R183). -/
def rowPut (r : LaneRow) (col : Nat) (v : Rat) : LaneRow :=
  let e := min 127 (max r.exp (rowExp (v :: (eraseKey col r.vals).map Prod.snd)))
  let vals := if v = 0 then eraseKey col r.vals else insertKey col v r.vals
  { r with exp := e, vals := vals.map fun p => (p.1, roundAt e p.2) }

/-- The formula gives the row an exponent above 127 (R183). -/
def LaneRow.ovf (r : LaneRow) : Bool := decide (127 < rowExp (r.vals.map Prod.snd))

/-- A value alone in its row, as a vector's element is (R181). -/
def gRound (v : Rat) : Rat := roundAt (min 127 (rowExp [v])) v

/-- A value into the rows of a lane. -/
def rowsPut : List LaneRow → Nat → Nat → Rat → List LaneRow
  | [], k, c, v => [rowPut { key := k } c v]
  | r :: rs, k, c, v => if r.key = k then rowPut r c v :: rs else r :: rowsPut rs k c v

/-- An entry inside the shape (R174, R179, R182). -/
def Dev.applyEntry (s : Dev) (l : Nat) (e : GroveEntryIn) : Dev :=
  let r := e.region.toNat
  let col := if r = 3 ∨ r = 4 then 0 else e.col.toNat
  s.setLane l fun x =>
    if r = 4 then { x with ovr := insertKey (e.sel.toNat * 256 + e.col.toNat) (gRound (entryVal e)) x.ovr }
    else
      let clear := decide (r = 1) && x.hClean
      let rows := if clear then x.rows.filter fun q => q.key / 65536 != 1 else x.rows
      { x with rows := rowsPut rows (entryKey e) col (entryVal e),
               hChanged := x.hChanged || decide (r = 1), hClean := x.hClean && decide (r ≠ 1),
               active := if r = 1 then [] else x.active }

/-- An entry as the port takes it (R195). -/
def Dev.groveEntryOp (s : Dev) (l : Nat) (e : GroveEntryIn) : Dev × Nat :=
  match s.laneState l with
  | 0 => (s.groveRefuse, 5)
  | 1 =>
    if s.entryInside l e then (s.applyEntry l e, 0)
    else (((s.setFld (GROVE_LANE_STAT l) 1 0 0).setLane l fun x => { x with rows := [], ovr := [] }).groveRefuse, 7)
  | 2 => (s.groveRefuse, 6)
  | _ => (s.groveRefuse, 4)

/-- A problem as a producer holds it: rows by key, each with its entries that are not zero. -/
abbrev Problem : Type := List (Nat × List (Nat × Rat))

/-- Entries that are not zero. -/
def nonzero (xs : List (Nat × Rat)) : List (Nat × Rat) := xs.filter fun p => p.2 != 0

/-- The row of a problem, as entries send it to a resident row: only those that change (R174, R182). -/
def sendRow (old : LaneRow) (new : List (Nat × Rat)) : LaneRow :=
  let gone := (old.vals.filter fun p => (lookupKey p.1 new).isNone).map fun p => (p.1, (0 : Rat))
  (gone ++ new).foldl (fun r p => let v := gRound p.2; if (lookupKey p.1 r.vals).getD 0 = v then r else rowPut r p.1 v) old

/-- The entries of a problem that differ from the resident ones reach the lane; a change of H writes H whole (R174, R180). -/
def LaneSt.send (x : LaneSt) (p : Problem) : LaneSt :=
  let isH (k : Nat) : Bool := k / 65536 == 1
  let old (k : Nat) : LaneRow := (x.rows.find? fun r => r.key == k).getD { key := k }
  let fresh (q : Nat × List (Nat × Rat)) : LaneRow := sendRow { key := q.1 } q.2
  let hNew := (p.filter fun q => isH q.1).map fresh
  let same (r : LaneRow) : Bool := (hNew.find? fun q => q.key == r.key).elim (r.vals == []) fun q => q.vals == r.vals
  let hOld := x.rows.filter fun r => isH r.key
  let keep := hOld.all same && hNew.all fun q => q.vals == (old q.key).vals
  let rest := (p.filter fun q => !isH q.1).map fun q => sendRow (old q.1) q.2
  if keep then { x with rows := hOld ++ rest }
  else { x with rows := hNew ++ rest, hChanged := true, hClean := false, active := [] }

/-- At a release each row's exponent follows its largest magnitude down, exactly (R182). -/
def renormRow (r : LaneRow) : LaneRow := { r with exp := min r.exp (rowExp (r.vals.map Prod.snd)) }

/-- A lane retires (R193): its role waits to move. -/
def Dev.retire (s : Dev) (l why : Nat) : Dev :=
  let role := s.laneRole l
  let s := ((s.setFld (GROVE_LANE_STAT l) 1 0 3).setFld (GROVE_LANE_STAT l) 4 2 5).setBit GROVE_INSVC l false
  let s := s.setLane l fun x => { x with rows := [], ovr := [], fac := [], work := [], grp := none }
  ({ s.recount with grove.moves := s.grove.moves ++ [(l, role)] }.ev 0x0603 l why).raise 0x24

/-- RETIRE_LIM; 0 acts as 1 (R202). -/
def Dev.retireLim (s : Dev) : Nat := max 1 (s.fld GROVE_CFG 19 16)

/-- An invalid result is counted and recorded, except that ABORTED records no event (R195, R196, R201). -/
def Dev.countInvalid (s : Dev) (l code : Nat) : Dev :=
  let s := (s.cntSat GROVE_ERR_TOTAL 31 0 1).cntSat (GROVE_LANE_ERRCNT l) 15 0 1
  if code = 3 then s else s.ev 0x0601 l code

/-- Header of a host result record and its values (R200). -/
def Dev.resultRecord (s : Dev) (l code iter cycles : Nat) (out : Option SolveOut) : List Byte :=
  let slot := ((List.range 5).find? fun k => s.fld GROVE_HOST_MAP (6 * k + 4) (6 * k) == l).getD 0
  let qp := s.laneMethod l = 4
  let n := s.laneN l
  let m := s.laneM l
  let vals : List (Nat × Nat × GVal) := match out with
    | none => []
    | some o =>
      let num (k : Nat) (xs : List GVal) : List (Nat × Nat × GVal) := xs.zipIdx.map fun p => (p.2, k, p.1)
      num 0 (o.x.take n) ++ (if qp then num 1 (o.bmul.take n) ++ num 2 (o.rmul.take m) else [])
  [0x61, BitVec.ofNat 8 (code + 16 * codeClass code), BitVec.ofNat 8 slot, BitVec.ofNat 8 l]
    ++ leBytes 4 (s.rd (GROVE_LANE_TAG l)).toNat ++ leBytes 4 s.cycles ++ leBytes 4 (stamp32 s.now).toNat
    ++ leBytes 4 cycles ++ leBytes 2 iter ++ leBytes 1 n ++ leBytes 1 m
    ++ leBytes 1 ((out.map fun o => o.active.length).getD 0) ++ leBytes 1 (s.laneMethod l) ++ leBytes 2 vals.length
    ++ leBytes 4 0
    ++ (vals.map fun p => leBytes 2 p.1 ++ leBytes 1 p.2.1 ++ leBytes 1 p.2.2.exp.toNat ++ leBytes 4 p.2.2.mant.toNat).flatten

/-- A host release has ended: its record waits for P4, its descriptor ends (R200, R446, R453). -/
def Dev.hostRecord (s : Dev) (l code iter cycles : Nat) (out : Option SolveOut) : Dev :=
  match (s.lane l).pair with
  | none => s
  | some p =>
    let r := s.resultRecord l code iter cycles out
    (({ s with grove.records := s.grove.records ++ [(p, r)] }.spend).endDesc p 0).setLane l fun x => { x with pair := none }

/-- Worst-case SOLVCLK cycles of a Cholesky factor and solve, a QP iteration and a QP's final check (R197). -/
def cholCycles (n : Nat) : Nat := ceilDiv (n * n * n) 48 + 24 * n + 200
def iterCycles (m n : Nat) : Nat := ceilDiv (m * n + 2 * n * n) 8 + 96
def finalCycles (m n : Nat) : Nat := ceilDiv (m * n) 8 + 200

/-- Worst case of the release that a lane runs, with so many iterations (R197). -/
def Dev.worstCycles (s : Dev) (l iter : Nat) : Nat :=
  let n := s.laneN l
  let m := s.laneM l
  let x := s.lane l
  match s.laneMethod l with
  | 1 => cholCycles n
  | 2 => cholCycles n + 8 * n
  | 3 =>
    if s.laneAccum l then
      ceilDiv (m * n * n) 4 + 32 * n + 200 + (if x.final then ceilDiv (n * n) 16 + 100 else 0)
        + (if x.amb = 0 then 0 else cholCycles x.amb + 8 * x.amb)
    else ceilDiv (3 * m * n * n - n * n * n) 12 + 32 * n + 200
  | _ => (if x.hChanged then cholCycles n else 100) + iter * iterCycles m n + finalCycles m n

/-- Value of a result's element. -/
def gvRat (v : GVal) : Rat := gval v.exp v.mant

/-- A result's element is alone in its row (R181). -/
def gvNormal (v : GVal) : Bool :=
  let m := (signed 32 v.mant.toNat).natAbs
  decide (m ≤ 2 ^ 30) && (decide (2 ^ 29 < m) || v.exp == 0x80)

/-- Entry of a triangular factor held by rows. -/
def facAt (n : Nat) (f : List GVal) (i j : Nat) : Rat := (f[i * n + j - i * (i + 1) / 2]?.map gvRat).getD 0

/-- D of R185, squared: of the diagonal, or of the columns of what a QR factors. -/
def Dev.laneD2 (s : Dev) (l : Nat) : Rat :=
  let x := s.lane l
  let n := s.laneN l
  let sq (v : Rat) : Rat := v * v
  maxMag ((List.range n).map fun j =>
    match s.laneMethod l with
    | 4 => sq (x.val 1 0 j j)
    | 3 => ((x.rows.filter fun r => r.key / 65536 == 0).map fun r => sq ((lookupKey j r.vals).getD 0)).sum
        + (if s.laneAccum l then ((List.range (j + 1)).map fun i => sq (facAt n x.fac i j)).sum else 0)
    | _ => sq (x.val 0 0 j j))

/-- Result of a pivot under the floor of 2^-40 D, with D squared (R185). -/
def pivotCode (method : Nat) (d2 p : Rat) : Nat :=
  let small := decide (p * p * 2 ^ 80 < d2)
  if d2 = 0 then 8
  else if (method = 1 ∨ method = 4) ∧ p < 0 then 9
  else if small then 8 else 0

/-- The release factors a matrix and tests its pivots: a QP when H has changed, an absorption with FINAL (R174, R185; log
entry 95). -/
def Dev.factors (s : Dev) (l : Nat) : Bool :=
  if s.laneMethod l = 4 then (s.lane l).hChanged else !s.laneAccum l || (s.lane l).final

/-- Code of the first pivot that fails. -/
def Dev.pivotsCode (s : Dev) (l : Nat) (ps : List GVal) : Nat :=
  if s.factors l then ps.foldl (fun c p => if c = 0 then pivotCode (s.laneMethod l) (s.laneD2 l) (gvRat p) else c) 0 else 0

/-- A row of a QP violates its bound at x beyond the final check's allowance (R186). -/
def LaneSt.violated (x : LaneSt) (n : Nat) (xs : List Rat) (i : Nat) : Bool :=
  let a := (List.range n).map fun j => x.val 0 0 i j
  let u := x.val 2 0 i 0
  let e := (List.zipWith (· * ·) a xs).sum - u
  let v := if x.val 2 1 i 0 = 1 then absRat e else max 0 e
  decide (absRat u + maxMag a * maxMag xs < v * 2 ^ 26)

/-- Result of a solve that has come to its end: a pivot, the final check of a QP, or OK (R185, R186). -/
def Dev.endCode (s : Dev) (l : Nat) (r : SolveOut) : Nat :=
  let p := s.pivotsCode l r.pivots
  if p ≠ 0 then p
  else if s.laneMethod l = 4 ∧ (List.range (s.laneM l)).any ((s.lane l).violated (s.laneN l) (r.x.map gvRat)) then 10
  else 0

/-- The values that a release of the lane's shape comes to its end with (R178, R180, R181, R186, R187, R197): an iteration
adds one constraint to the active set it starts from or drops one. -/
def Dev.outFits (s : Dev) (l : Nat) (r : SolveOut) : Bool :=
  let n := s.laneN l
  let m := s.laneM l
  let x := s.lane l
  let qp := s.laneMethod l == 4
  let bare := s.laneAccum l && !x.final
  let moved := (r.active.filter fun k => !x.active.contains k).length + (x.active.filter fun k => !r.active.contains k).length
  let zeroOut (xs : List GVal) (o : Nat) : Bool := xs.zipIdx.all fun v => v.1.mant == 0 || r.active.contains (v.2 + o)
  r.x.length == (if bare then 0 else n) && r.bmul.length == (if qp then n else 0) && r.rmul.length == (if qp then m else 0)
    && r.ldl.length == x.amb * (x.amb + 1) / 2 && r.pivots.length == (if s.factors l then n else 0)
    && r.fac.length == (if qp && !x.hChanged then 0 else n * (n + 1) / 2)
    && ((r.x ++ r.bmul ++ r.rmul).all gvNormal) && decide (r.cycles ≤ s.worstCycles l r.iter)
    && (if qp then decide (r.iter ≤ x.iterMax) && decide (moved ≤ r.iter) && (r.active.all fun k => decide (k < n + m))
          && r.active.Nodup && zeroOut r.bmul 0 && zeroOut r.rmul n
        else r.iter == 0 && r.active == [])

/-- A Running lane stops with a code (R189, R193 to R196): times, counts, class, retirement. -/
def Dev.laneStop (s : Dev) (l code iter cycles : Nat) (out : Option SolveOut) : Dev :=
  let s := (s.setFld (GROVE_LANE_STAT l) 15 12 code).setFld (GROVE_LANE_STAT l) 18 16 (codeClass code)
  let s := s.setFld (GROVE_LANE_STAT l) 1 0 (if code = 13 then 0 else 1)
  let s := s.wrN (GROVE_LANE_TIME l) cycles
  let s := s.wrN (GROVE_LANE_TMAX l) (max cycles (s.rd (GROVE_LANE_TMAX l)).toNat)
  let s := if s.laneMethod l = 4 then
      (s.setFld (GROVE_LANE_ITER l) 9 0 iter).setFld (GROVE_LANE_ITER l) 25 16 (max iter (s.fld (GROVE_LANE_ITER l) 25 16))
    else s
  let acc := s.laneAccum l
  let bare := acc && !(s.lane l).final
  let s := s.setLane l fun x => { x with ovr := [], hClean := true, hChanged := x.hChanged && code != 0,
                                         rows := if code = 13 then [] else if acc then [] else x.rows,
                                         fac := if code = 13 then [] else x.fac }
  let s := s.hostRecord l code iter cycles out
  if code = 0 then
    let s := s.setFld (GROVE_LANE_ERRCNT l) 23 16 0
    let f := (out.map SolveOut.fac).getD []
    let s := s.setLane l fun x => { x with fac := if f = [] then x.fac else f }
    if bare then s
    else
      (s.setBit (GROVE_LANE_STAT l) 9 true).setLane l fun x =>
        { x with result := out, active := (out.map SolveOut.active).getD [] }
  else
    let consec := if code = 12 then min 255 (s.fld (GROVE_LANE_ERRCNT l) 23 16 + 1) else 0
    let s := s.setFld (GROVE_LANE_ERRCNT l) 23 16 consec
    let s := if code = 12 then (s.cntSat GROVE_RES_TOTAL 31 0 1).ev 0x0602 l iter else s
    let s := if code = 13 then
        (s.cntSat GROVE_ECC_CNT 31 16 1).setLane l fun x => { x with memBad := x.memBad + 1 }
      else s
    let s := s.countInvalid l code
    if code = 12 ∧ s.retireLim ≤ consec then s.retire l 1
    else if code = 13 ∧ 2 ≤ (s.lane l).memBad then s.retire l 2
    else s

/-- A solve is broken off with a code, with times that are free values (R183, R189, R195; log entry 22). -/
def Dev.laneBreak (s : Dev) (l code : Nat) : Dev :=
  let t := Config.brokenSolve s.seq.freeCtr
  s.spend.laneStop l code (min 1023 t.2) (t.1 % 2 ^ 32) none

/-- RELEASE of a lane (R177, R178, R183, R195): the code where it does not start. AMB counts for the bundle alone. -/
def Dev.groveStart (s : Dev) (l : Nat) (final : Bool) (amb : Nat) : Dev × Nat :=
  match s.laneState l with
  | 0 =>
    let s := (s.setFld (GROVE_LANE_STAT l) 15 12 5).setFld (GROVE_LANE_STAT l) 18 16 1
    (((s.setFld (GROVE_LANE_ERRCNT l) 23 16 0).countInvalid l 5), 5)
  | 1 =>
    let acc := s.laneAccum l
    let ovf := (s.lane l).rows.any LaneRow.ovf
    let s := (s.setFld (GROVE_LANE_STAT l) 1 0 2).setLane l fun x => { x with
      final := final, amb := if acc && final && s.laneRole l == 1 then min amb (s.laneN l) else 0,
      rows := x.rows.map renormRow }
    if s.seq.abortGrove then (s.laneBreak l 3, 0) else if ovf then (s.laneBreak l 11, 0) else (s, 0)
  | 2 => (s.groveRefuse, 6)
  | _ => (s.groveRefuse, 4)

/-- A producer's work on a lane in its slot: a full LOAD where the lane is Empty or holds another shape, the changed entries,
the iteration limit (R174, R177, R194). -/
def Dev.producerSend (s : Dev) (l method : Nat) (accum : Bool) (n m iterMax : Nat) (p : Problem) : Dev :=
  let same := s.laneState l == 1 && s.laneMethod l == method && s.laneAccum l == accum && s.laneN l == n && s.laneM l == m
  let s := if same then s else (s.groveLoadOp l method accum n m).1
  if s.laneState l = 1 then s.setLane l fun x => { x.send p with iterMax := iterMax } else s

/-- No lane ran a release (R194, R196, R201). -/
def Dev.noLane (s : Dev) : Dev := (s.cntSat GROVE_ERR_TOTAL 31 0 1).ev 0x0601 0xFF 4

/-- A release by a device role; with no lane in service its result is NO_LANE (R194, R201). -/
def Dev.roleRelease (s : Dev) (role method : Nat) (accum : Bool) (n m iterMax : Nat) (p : Problem) (final : Bool)
    (amb : Nat) : Dev :=
  match s.roleLane role with
  | none => s.noLane
  | some l => ((s.producerSend l method accum n m iterMax p).groveStart l final amb).1

/-- The release of a device role in this cycle has published (R190). -/
def Dev.roleOk (s : Dev) (role : Nat) : Bool :=
  match s.roleLane role with
  | none => false
  | some l => s.laneState l == 1 && s.fld (GROVE_LANE_STAT l) 15 12 == 0

/-- Code that a device role's last release ended with: NO_LANE without a lane, LATE while it runs. -/
def Dev.roleCode (s : Dev) (role : Nat) : Nat :=
  match s.roleLane role with
  | none => 4
  | some l => if s.laneState l = 2 then 1 else s.fld (GROVE_LANE_STAT l) 15 12

/-- Published values of a lane. -/
def Dev.laneX (s : Dev) (l : Nat) : List Rat :=
  match (s.lane l).result with
  | none => []
  | some o => o.x.map fun v => gval v.exp v.mant

/-- Sequencer step: work in progress is discarded with ABORTED (R23, R195). -/
def Dev.groveAbort (s : Dev) : Dev :=
  s.each (List.range 32) fun d l =>
    if d.laneState l = 2 then (d.laneBreak l 3).setLane l fun x => { x with work := [], grp := none } else d

/-- The deadline of a lane's release falls on the coming tick boundary (R171, R188, R199). -/
def Dev.laneDue (s : Dev) (l : Nat) : Bool :=
  match s.laneRole l with
  | 0 => s.seq.nextTick == 7
  | 1 => s.seq.nextTick == 76
  | 2 => s.seq.nextTick == 21
  | 3 => s.seq.nextTick == 64
  | _ => (s.lane l).pair.isSome && (s.lane l).dlTicks == 0

/-- At a tick boundary a lane whose deadline it is, and which has not published, stops with LATE (R188, R189). -/
def Dev.lateLanes (s : Dev) : Dev :=
  s.each (List.range 32) fun d l =>
    if d.laneState l = 2 && d.laneDue l then (d.laneBreak l 1).setLane l fun x => { x with work := [], grp := none } else d

/-- The lane that takes the role of a retired lane (R194). -/
def Dev.successor (s : Dev) (role : Nat) : Option Nat :=
  if role ≤ 2 then (s.roleLanes 4).getLast?.orElse fun _ => (s.roleLanes 3).getLast?
  else if role = 3 then (s.roleLanes 4).getLast?
  else none

/-- One role moves at the boundary (R194). -/
def Dev.moveRole (s : Dev) (mv : Nat × Nat) : Dev :=
  match s.successor mv.2 with
  | none => if mv.2 = 4 then s.slotOut mv.1 else s
  | some l =>
    let s := if s.laneState l = 2 then s.laneBreak l 3 else s
    let s := s.slotOut l
    let s := (s.setFld (GROVE_LANE_STAT l) 1 0 0).setFld (GROVE_LANE_STAT l) 4 2 mv.2
    let s := s.setLane l fun x =>
      { x with rows := [], ovr := [], fac := [], work := [], grp := none, pair := none, active := [] }
    s.recount.ev 0x0604 l mv.1

/-- Moves in ascending order of the retired lane (R194). -/
def Dev.moveRoles (s : Dev) : Dev :=
  let mv := (List.range 32).filterMap fun l => (s.grove.moves.find? fun p => p.1 = l)
  ({ s with grove.moves := [] } : Dev).each mv Dev.moveRole

end Sys2Proof.Machine
end

