-- ==== Sys2Proof/Machine/Estimator.lean ====
section
/-! DEFINITION. State estimation and position references (chapter 04). The Grove computes the solution; its values come
with the lane's result in the column order of R108. -/

namespace Sys2Proof.Machine

/-- EST_STAT.STATE: 0 Idle, 1 Converging, 2 Valid, 3 Lost (R139). -/
def Dev.estState (s : Dev) : Nat := s.fld EST_STAT 1 0

/-- Change of that state, with its event source (R451). -/
def Dev.setEstState (s : Dev) (n : Nat) : Dev :=
  if s.estState = n then s else (s.setFld EST_STAT 1 0 n).raise 0x22

/-- VALID of the estimator (R135). -/
def Dev.estValid (s : Dev) : Bool := s.estState == 2

/-- Column k of the last valid solution; 0 before the first. -/
def Dev.estX (s : Dev) (k : Nat) : Rat := s.est.x.getD k 0

/-- Heading of the estimate in degrees. -/
def Dev.estHeading (s : Dev) : Rat := s.estX 2

/-- Angle difference wrapped into [-180, 180). -/
def wrapDeg (x : Rat) : Rat := wrapRat x 360

/-- REF_MAXAGE in ns (R139). -/
def Dev.refMaxAge (s : Dev) : Int := 1000000 * (s.fld EST_LIM1 15 0 : Int)

/-- Column k of the prior (R112). -/
def Dev.estP (s : Dev) (k : Nat) : Rat := s.est.prior.getD k 0

/-- Estimated velocity north and east: surge and sway turned by the heading. -/
def Dev.estVel (s : Dev) : Rat × Rat := turned s.estHeading (s.estX 3, s.estX 4)

/-- A coefficient of the model (R108). -/
def Dev.model (s : Dev) (k : Nat) : Rat := pbvVal (s.est.model.getD k 0)

/-- The prior of this cycle's boundary: the transition once per cycle, with the wind as known input (R112, R125). -/
def Dev.propagate (s : Dev) : Dev :=
  if s.est.started then s
  else
    let wind (k : Nat) : Rat :=
      if s.est.windLost then 0 else Config.windInput s.est.model k s.est.windNow.2 s.est.windNow.1
    { s with est.prior := (List.range 19).map fun r =>
        ((List.range 19).map fun c => s.model (19 * r + c) * s.estP c).sum + wind r }

/-- Fresh sensors of R124 and R125: a sample no older than REF_MAXAGE at the boundary. -/
def Dev.fresh (s : Dev) (x : SensSt) : Bool :=
  match x.at_ with
  | none => false
  | some t => decide (s.boundaryNs - t ≤ s.refMaxAge)

/-- Roll and pitch in use: MRU0 while fresh, MRU1 otherwise, else zero (R124). -/
def Dev.rollPitch (s : Dev) : Rat × Rat :=
  let m0 := s.est.mru.getD 0 {}
  let m1 := s.est.mru.getD 1 {}
  if s.fresh m0 then (m0.a, m0.b) else if s.fresh m1 then (m1.a, m1.b) else (0, 0)

/-- Wind angle and speed in use; zero with neither sensor fresh (R125). -/
def Dev.windIn (s : Dev) : Option (Rat × Rat) :=
  let w0 := s.est.wind.getD 0 {}
  let w1 := s.est.wind.getD 1 {}
  if s.fresh w0 then some (w0.a, w0.b) else if s.fresh w1 then some (w1.a, w1.b) else none

/-- MRU_LOST, WIND_LOST, the selected sensors and their values for this cycle (R114, R124, R125). -/
def Dev.selectSensors (s : Dev) : Dev :=
  let f0 := s.fresh (s.est.mru.getD 0 {})
  let f1 := s.fresh (s.est.mru.getD 1 {})
  let w0 := s.fresh (s.est.wind.getD 0 {})
  let w := s.windIn
  { s with
    est.mruLost := !f0 && !f1, est.mruSel := !f0, est.windLost := w.isNone, est.windSel := !w0
    est.rp := s.rollPitch
    est.windNow := match w with
      | none => (0, 0)
      | some x => Config.windFilter s.est.windNow x }

/-- North and east of a lever arm (forward, starboard, down) at the prior's heading and this cycle's roll and pitch (R124). -/
def Dev.leverNE (s : Dev) (x y z : Rat) : Rat × Rat :=
  let l := leverLevel s.est.rp.1 s.est.rp.2 x y z
  turned (s.estP 2) (l.1, l.2.1)

def Dev.ref (s : Dev) (n : Nat) : RefSt := s.est.refs.getD n {}

def Dev.setRef (s : Dev) (n : Nat) (f : RefSt → RefSt) : Dev := { s with est.refs := modAt s.est.refs n f }

/-- A sample under test: offsets as sent in metres, offset of the vessel from the datum and her position at the boundary,
innovation, tests passed. -/
structure RefTest where
  ref : Nat
  ns : Int
  raw : Rat × Rat
  off : Rat × Rat
  point : Rat × Rat
  innov : Rat × Rat
  ageOk : Bool
  freezeOk : Bool
  varOk : Bool

/-- Offsets of a sample in metres. -/
def rawOf (x : RefSample) : Rat × Rat := ((x.north : Rat) / 10000, (x.east : Rat) / 10000)

/-- Seconds in ns. -/
def secNs (n : Nat) : Int := 1000000000 * (n : Int)

/-- A value, given squared, does not exceed a limit. -/
def withinSq (lim x2 : Rat) : Bool := decide (0 ≤ lim) && decide (x2 ≤ lim * lim)

/-- The standard deviation of the window is above the limit, compared squared (R129, R130). -/
def spread (xs : List (Rat × Rat)) (lim : Rat) : Bool :=
  let n : Rat := (xs.length : Nat)
  if xs.length < 5 then false
  else
    let mn := (xs.map Prod.fst).sum / n
    let me := (xs.map Prod.snd).sum / n
    !withinSq lim ((xs.map fun p => (p.1 - mn) * (p.1 - mn) + (p.2 - me) * (p.2 - me)).sum / n)

/-- Lever arm of a reference, or of the satellite set's ANT_P, with the correction in force (R129, R134). -/
def Dev.refLever (s : Dev) (n : Nat) : Rat × Rat :=
  if n = 6 then s.leverNE (s.pbv (estAnt 0)) (s.pbv (estAnt 1)) 0
  else s.leverNE (s.pbv (EST_REF_LEVX n) + s.pbv (estBias n 2)) (s.pbv (EST_REF_LEVY n) + s.pbv (estBias n 3))
    (s.pbv (EST_REF_LEVZ n))

/-- Bias of a reference in force (R134). -/
def Dev.refBias (s : Dev) (n : Nat) : Rat × Rat := if n = 6 then (0, 0) else (s.pbv (estBias n 0), s.pbv (estBias n 1))

/-- Tests 1 to 3 of a sample, moved to the boundary with the prior's velocity (R129). -/
def Dev.testRef (s : Dev) (n : Nat) (x : RefSample) : RefTest :=
  let r := s.ref n
  let age := s.boundaryNs - x.ns
  let raw := rawOf x
  let est := (s.estP 0, s.estP 1)
  let v := turned (s.estP 2) (s.estP 3, s.estP 4)
  let t : Rat := (age : Rat) / 1000000000
  let lev := s.refLever n
  let b := s.refBias n
  let off := (raw.1 - b.1 - lev.1 + v.1 * t, raw.2 - b.2 - lev.2 + v.2 * t)
  let point := match r.datum with
    | none => est
    | some d => (d.1 + off.1, d.2 + off.2)
  let innov := (point.1 - est.1, point.2 - est.2)
  let eps := s.pbv EST_FREEZE_EPS
  let ft := s.fld EST_LIM1 23 16
  let frozen := match r.frozen with
    | none => false
    | some f => ft != 0 && decide (absRat (raw.1 - f.1) ≤ eps) && decide (absRat (raw.2 - f.2.1) ≤ eps)
        && decide (secNs ft ≤ x.ns - f.2.2)
  let vw := s.fld EST_LIM1 27 24
  let win := (r.hist.filter fun h => x.ns - h.1 ≤ secNs vw).map fun h => h.2
  { ref := n, ns := x.ns, raw := raw, off := off, point := point, innov := innov,
    ageOk := decide (age ≤ s.refMaxAge) && decide (-1000000 ≤ age),
    freezeOk := !frozen,
    varOk := vw == 0 || !spread win (s.pbv EST_VAR_MAX) }

/-- Insertion into an ascending list of rationals. -/
def insRat (x : Rat) : List Rat → List Rat
  | [] => [x]
  | y :: ys => if x ≤ y then x :: y :: ys else y :: insRat x ys

/-- Median; the mean of the middle two of an even count (R130). -/
def median (xs : List Rat) : Rat :=
  let ys := xs.foldr insRat []
  let n := ys.length
  if n % 2 = 1 then ys.getD (n / 2) 0 else (ys.getD (n / 2 - 1) 0 + ys.getD (n / 2) 0) / 2

/-- INNOV_SEQ; 0 acts as 1. -/
def Dev.innovSeq (s : Dev) : Nat := max 1 (s.fld EST_LIM1 31 28)

/-- READMIT_T in ns; 0 acts as 1 s. -/
def Dev.readmitNs (s : Dev) : Int := secNs (max 1 (s.fld EST_LIM0 31 16))

/-- STATE, LAST_TEST and RUN_S of a foreign reference (R140): it is accepted once a sample has been admitted. -/
def Dev.showRef (s : Dev) (n test : Nat) (ns : Int) : Dev :=
  if n = 6 then s
  else
    let r := s.ref n
    let run := match r.run with
      | none => 0
      | some p => ((ns - p.1) / 1000000000).toNat
    let s := s.setFld (EST_REF_STAT n) 1 0 (if r.rejected then 2 else bnat r.admitted)
    let s := (s.setBit (EST_REF_STAT n) 2 r.datum.isSome).setFld (EST_REF_STAT n) 10 8 test
    s.setFld (EST_REF_STAT n) 31 16 (min run 65535)

/-- A reference is rejected (R131): event 0x0401. -/
def Dev.rejectRef (s : Dev) (n test : Nat) : Dev :=
  if (s.ref n).rejected then s
  else
    let s := (s.setRef n fun r => { r with rejected := true, innovFails := 0 }).ev 0x0401 n test
    if n = 6 then s else s.cntSat (EST_REF_CNT n) 31 16 1

/-- A sample that passes every test: the run, readmission, first admission (R128, R131). -/
def Dev.passRef (s : Dev) (t : RefTest) : Dev :=
  let r := s.ref t.ref
  let run := r.run.getD (t.ns, s.cycles)
  let s := s.setRef t.ref fun r => { r with run := some run, innovFails := 0 }
  let s := if r.rejected ∧ s.readmitNs ≤ t.ns - run.1 then
      (s.setRef t.ref fun r => { r with rejected := false }).ev 0x0402 t.ref (s.cycles - run.2)
    else s
  if (s.ref t.ref).rejected then s
  else
    let d := (s.estP 0 - t.off.1, s.estP 1 - t.off.2)
    s.setRef t.ref fun r => { r with used := true, admitted := true, datum := some (r.datum.getD d) }

/-- Standard deviation that normalises an innovation, under its key in TickIn (log entry 98). -/
def innovSd (i : TickIn) (k : Nat) : Rat := (lookupKey k i.innovSd).getD 1

/-- The outcome of one sample (R129, R131). -/
def Dev.judgeRef (s : Dev) (i : TickIn) (med : Option (Rat × Rat)) (t : RefTest) : Dev :=
  let r := s.ref t.ref
  let far := match med with
    | none => false
    | some m =>
      let dn := t.point.1 - m.1
      let de := t.point.2 - m.2
      !withinSq (s.pbv EST_MED_LIM) (dn * dn + de * de)
  let innovOk := withinSq (s.pbv EST_INNOV_K * innovSd i t.ref) (t.innov.1 * t.innov.1 + t.innov.2 * t.innov.2)
  let test := if !t.ageOk then 1 else if !t.freezeOk then 2 else if !t.varOk then 3 else if far then 4
    else if !innovOk then 5 else 0
  let s := s.setRef t.ref fun r => { r with
    used := false,
    frozen := match r.frozen with
      | none => some (t.raw.1, t.raw.2, t.ns)
      | some f => if absRat (t.raw.1 - f.1) ≤ s.pbv EST_FREEZE_EPS ∧ absRat (t.raw.2 - f.2.1) ≤ s.pbv EST_FREEZE_EPS
          then some f else some (t.raw.1, t.raw.2, t.ns),
    hist := if t.ageOk ∧ t.freezeOk ∧ !far ∧ innovOk
      then ((t.ns, t.innov.1, t.innov.2) :: r.hist).filter (fun h => t.ns - h.1 ≤ 15000000000) else r.hist,
    run := if test = 0 then r.run else none }
  let s := match test with
    | 0 => s.passRef t
    | 1 => s
    | 5 =>
      let f := r.innovFails + 1
      let s := s.setRef t.ref fun r => { r with innovFails := f }
      if s.innovSeq ≤ f then s.rejectRef t.ref 5 else s
    | _ => s.rejectRef t.ref test
  s.showRef t.ref test t.ns

/-- Samples of this cycle: ref 0 to ref 5 whose port is on, then the satellite set at an epoch with a valid fix. -/
def Dev.refSamples (s : Dev) : List (Nat × RefSample) :=
  ((List.range 6).filterMap fun n =>
      if s.fld (EST_REF_CFG n) 1 0 = 0 then none else ((s.ref n).sample).map fun x => (n, x))
    ++ (match (s.ref 6).sample with
        | some x => [(6, x)]
        | none => [])

/-- Reference acceptance in tick 0 (R129, R130). -/
def Dev.acceptRefs (s : Dev) (i : TickIn) : Dev :=
  let xs := s.refSamples
  let s := { s with est.refs := s.est.refs.map fun (r : RefSt) => { r with used := false } }
  let ts := xs.map fun p => s.testRef p.1 p.2
  let voters := ts.filter fun t => t.ageOk && t.freezeOk && t.varOk
  let med := if voters.length < 3 then none
    else some (median (voters.map fun t => t.point.1), median (voters.map fun t => t.point.2))
  s.each ts fun d t => d.judgeRef i med t

/-- The samples of a cycle have been tested. -/
def Dev.dropSamples (s : Dev) : Dev :=
  { s with est.refs := s.est.refs.map fun (r : RefSt) => { r with sample := none } }

/-- References that a commit switches off (R140). -/
def Dev.refsCommit (s : Dev) : Dev :=
  s.each ((List.range 6).filter fun n => s.fld (EST_REF_CFG n) 1 0 == 0) fun d n =>
    (d.setRef n fun r => { r with sample := none, run := none }).wr (EST_REF_STAT n)
      (BitVec.ofNat 32 (4 * bnat (d.ref n).datum.isSome))

/-- A reinitialising commit ends every admission (R128). -/
def Dev.refsReinit (s : Dev) : Dev :=
  let s := { s with est.refs := s.est.refs.map fun (r : RefSt) => { r with datum := none, admitted := false } }
  s.each (List.range 6) fun d n =>
    let d := d.setBit (EST_REF_STAT n) 2 false
    if d.fld (EST_REF_STAT n) 1 0 = 1 then d.setFld (EST_REF_STAT n) 1 0 0 else d

/-- The channel that tracks a signal of a satellite on an antenna and is not settling (R115, R209). -/
def Dev.findChan (s : Dev) (sig svid : Nat) (antS : Bool) : Option GChan :=
  s.gnss.chan.find? fun c => c.assigned && c.codeLock && !c.settling && c.sig == sig && c.svid == svid && c.antS == antS

/-- Constellations: upper-band signals by preference, the lower-band signal and the highest SVID (R115, R207). -/
def bandPairs : List (List Nat × Nat × Nat) := [([1, 0], 2, 32), ([3], 4, 36), ([5], 6, 63)]

/-- A channel's satellite stands at EL_MASK or above, and its C/N0 is at least CN0_MIN (R117, R214). -/
def Dev.strong (s : Dev) (c : GChan) : Bool :=
  decide (((s.fld EST_CFG 23 16 : Nat) : Rat) ≤ s.chanElev c) && decide (100 * s.fld EST_CFG 31 24 ≤ c.cn0.toNat)

/-- Lower-band signal that pairs with an upper-band one on ANT_P (R115): L1C before L1 C/A. -/
def Dev.lowerBand (s : Dev) (c : GChan) : Option Nat :=
  match c.sig with
  | 1 => some 2
  | 0 => if (s.findChan 1 c.svid false).isSome then none else some 2
  | 3 => some 4
  | 5 => some 6
  | _ => none

/-- Channel of the lower band of an upper-band channel's satellite on ANT_P. -/
def Dev.lowerChan (s : Dev) (c : GChan) : Option GChan := (s.lowerBand c).bind fun g => s.findChan g c.svid false

/-- Channel numbers whose satellite qualifies in both bands on ANT_P (R115, R117): upper channel index. -/
def Dev.qualified (s : Dev) : List Nat :=
  let ok (c : GChan) : Bool := c.assigned && c.codeLock && !c.settling && !c.antS && s.strong c
  (List.range 192).filter fun k =>
    let c := s.gnss.chan.getD k {}
    ok c && ((s.lowerChan c).map ok).getD false

/-- Channels by falling elevation, a tie by the lower channel. -/
def Dev.byElev (s : Dev) (ks : List Nat) : List Nat :=
  sortBy (fun a b =>
    let x := s.chanElev (s.gnss.chan.getD a {})
    let y := s.chanElev (s.gnss.chan.getD b {})
    decide (y < x) || (decide (x = y) && decide (a ≤ b))) ks

/-- The 40 of highest elevation, in channel order (R117). -/
def Dev.highest (s : Dev) : List Nat :=
  let q := s.qualified
  let top := (s.byElev q).take 40
  q.filter top.contains

/-- Satellites common to both antennas in the upper band with carrier lock (R120). -/
def Dev.common (s : Dev) : List Nat :=
  (List.range 192).filter fun k =>
    let c := s.gnss.chan.getD k {}
    c.assigned && c.carrLock && !c.settling && !c.antS && [1, 3, 5].contains c.sig &&
      (match s.findChan c.sig c.svid true with
        | none => false
        | some d => d.carrLock)

/-- What broadcast data gives of a channel's satellite. -/
def Dev.skyOf (s : Dev) (c : GChan) : SkySat :=
  (s.gnss.sky.find? fun x => x.sys.val == sigSys c.sig && x.svid == c.svid).getD { sys := 0, svid := 0, elev := 0 }

/-- Inner product in three axes. -/
def dot3 (a b : Rat × Rat × Rat) : Rat := a.1 * b.1 + a.2.1 * b.2.1 + a.2.2 * b.2.2

/-- Vessel position of the prior with its wave motion, north and east. -/
def Dev.priorPos (s : Dev) : Rat × Rat := (s.estP 0 + s.estP 9, s.estP 1 + s.estP 10)

/-- Heading of the prior with its wave motion. -/
def Dev.priorHdg (s : Dev) : Rat := s.estP 2 + s.estP 11

/-- Range from ANT_P to a channel's satellite and the direction of it, at the prior (north, east, up). -/
def Dev.sight (s : Dev) (c : GChan) : Rat × (Rat × Rat × Rat) :=
  let p := s.priorPos
  let l := s.refLever 6
  let g := (s.skyOf c).pos
  let d := (g.1 - p.1 - l.1, g.2.1 - p.2 - l.2, g.2.2)
  let r := sqrtRat (dot3 d d)
  (r, (d.1 / r, d.2.1 / r, d.2.2 / r))

/-- Wavelength of the upper band, metres (R120), and of the lower band. -/
def waveUp : Rat := 190294 / 1000000
def waveLow : Rat := waveUp * (157542 / 117645)

/-- The ionosphere-free combination of two measurements (R116). -/
def ionoFree (m1 m5 : Rat) : Rat := 2260604 / 1000000 * m1 - 1260604 / 1000000 * m5

/-- The noise that the combination multiplies (R116). -/
def ionoNoise : Rat := 2588 / 1000

/-- Single difference of the upper-band carrier between the antennas, cycles; none without carrier lock on both. -/
def Dev.antDiff (s : Dev) (k : Nat) : Option Rat :=
  let c := s.gnss.chan.getD k {}
  match s.findChan c.sig c.svid true with
  | none => none
  | some d => if c.carrLock && d.carrLock then some (((d.cp.toInt - c.cp.toInt : Int) : Rat) / 4294967296) else none

/-- Double difference of a satellite against the reference satellite: cycles, and the difference of their directions. -/
def Dev.doubleDiff (s : Dev) (ref k : Nat) : Option (Rat × (Rat × Rat × Rat)) :=
  match s.antDiff ref, s.antDiff k with
  | some a, some b =>
    let u := (s.sight (s.gnss.chan.getD ref {})).2
    let v := (s.sight (s.gnss.chan.getD k {})).2
    some (b - a, (v.1 - u.1, v.2.1 - u.2.1, v.2.2 - u.2.2))
  | _, _ => none

/-- Determinant of three columns. -/
def det3 (a b c : Rat × Rat × Rat) : Rat :=
  a.1 * (b.2.1 * c.2.2 - b.2.2 * c.2.1) - b.1 * (a.2.1 * c.2.2 - a.2.2 * c.2.1) + c.1 * (a.2.1 * b.2.2 - a.2.2 * b.2.1)

/-- Least squares in three unknowns from rows (direction, value); none where the rows do not fix it. -/
def lsq3 (rows : List ((Rat × Rat × Rat) × Rat)) : Option (Rat × Rat × Rat) :=
  let m (f g : (Rat × Rat × Rat) × Rat → Rat) : Rat := (rows.map fun r => f r * g r).sum
  let x (r : (Rat × Rat × Rat) × Rat) : Rat := r.1.1
  let y (r : (Rat × Rat × Rat) × Rat) : Rat := r.1.2.1
  let z (r : (Rat × Rat × Rat) × Rat) : Rat := r.1.2.2
  let a := (m x x, m y x, m z x)
  let b := (m x y, m y y, m z y)
  let c := (m x z, m y z, m z z)
  let t := (m x Prod.snd, m y Prod.snd, m z Prod.snd)
  let d := det3 a b c
  if d = 0 then none else some (det3 t b c / d, det3 a t c / d, det3 a b t / d)

/-- The baseline from ANT_P to ANT_S that double differences with fixed integers measure (north, east, up): the carrier falls
where the satellite lies on ANT_S's side. -/
def Dev.fixedBaseline (s : Dev) (ref : Nat) (ints : List (Nat × Int)) : Option (Rat × Rat × Rat) :=
  lsq3 (ints.filterMap fun p => (s.doubleDiff ref p.1).map fun d => (d.2, -(waveUp * (d.1 - p.2))))

/-- The commissioned baseline at roll and pitch: forward, starboard and down. -/
def Dev.baseLevel (s : Dev) : Rat × Rat × Rat :=
  leverLevel s.est.rp.1 s.est.rp.2 (s.pbv EST_BASE_X) (s.pbv EST_BASE_Y) (s.pbv EST_BASE_Z)

/-- The heading that the fixed double differences measure (R123, R124). -/
def Dev.satHeading (s : Dev) : Option Rat :=
  match s.est.ddRef with
  | none => none
  | some r => (s.fixedBaseline r (s.est.ddInt.filter fun p => s.est.ddFixed.contains p.1)).map fun b =>
    let l := s.baseLevel
    wrapDeg (dirDeg b.1 b.2.1 - dirDeg l.1 l.2.1)

/-- A gyro's heading without its published bias (R134). -/
def Dev.gyroHdg (s : Dev) (k : Nat) : Rat := (s.est.gyro.getD k {}).a - s.pbv (estGyroBias k)

/-- One gyro against the median, a difference from the first candidate's heading b (R123). -/
def Dev.gyroTest (s : Dev) (b med : Rat) (k : Nat) : Dev :=
  let g := s.est.gyro.getD k {}
  let diff := absRat (wrapDeg (s.gyroHdg k - b - med))
  if s.pbv EST_GYRO_LIM < diff then
    let s := { s with est.gyro := modAt s.est.gyro k fun (x : SensSt) => { x with rejected := true, run := none } }
    if g.rejected then s else s.ev 0x0409 k (roundRat (diff * 1000)).toNat
  else
    let t0 := g.run.getD s.boundaryNs
    let back := decide (s.readmitNs ≤ s.boundaryNs - t0)
    { s with est.gyro := modAt s.est.gyro k fun (x : SensSt) => { x with run := some t0, rejected := x.rejected && !back } }

/-- Three or more candidates: the median rejects gyros (R123). -/
def Dev.headingMedian (s : Dev) (fresh : List Nat) (vals : List Rat) : Dev :=
  let b := vals.headD 0
  let s := { s with est.hdgDisagree := false }.each fresh fun d k => d.gyroTest b (median (vals.map fun v => wrapDeg (v - b))) k
  { s with est.gyroUsed := (fresh.filter fun k => !(s.est.gyro.getD k {}).rejected).foldl (fun a k => a + 2 ^ k) 0 }

/-- Fewer candidates: none is rejected, and two may disagree (R123). -/
def Dev.headingPair (s : Dev) (fresh : List Nat) (vals : List Rat) : Dev :=
  let diff := if vals.length = 2 then absRat (wrapDeg (vals.getD 0 0 - vals.getD 1 0)) else 0
  let bad := decide (vals.length = 2) && decide (s.pbv EST_GYRO_LIM < diff)
  let s := if bad ∧ !s.est.hdgDisagree then s.ev 0x040A 0 (roundRat (diff * 1000)).toNat else s
  { s with est.hdgDisagree := bad, est.gyroUsed := fresh.foldl (fun a k => a + 2 ^ k) 0 }

/-- HDG_SINGLE and HDG_LOST for so many candidates (R123). -/
def Dev.headingFlags (s : Dev) (n : Nat) : Dev :=
  let lostWas := s.bit EST_STAT 13
  let s := if n = 0 then s else s.setBit EST_STAT 12 (n == 1)
  let s := s.setBit EST_STAT 13 (n == 0)
  if n = 0 ∧ !lostWas then s.ev 0x040F 0 0 else s

/-- Heading candidates and the flags and events of R123; a stale gyro's readmission run ends. -/
def Dev.headingTest (s : Dev) : Dev :=
  let isFresh (k : Nat) : Bool := s.fresh (s.est.gyro.getD k {})
  let fresh := (List.range 3).filter isFresh
  let s := s.each ((List.range 3).filter fun k => !isFresh k) fun d k =>
    { d with est.gyro := modAt d.est.gyro k fun (x : SensSt) => { x with run := none } }
  let sat := if s.bit EST_STAT 4 then s.est.satHdg else none
  let vals := fresh.map s.gyroHdg ++ sat.toList
  let s := s.headingFlags vals.length
  if 3 ≤ vals.length then s.headingMedian fresh vals else s.headingPair fresh vals

/-- A row times its weight. -/
def EstRow.scaled (w : Rat) (r : EstRow) : EstRow :=
  { cols := nonzero (r.cols.map fun p => (p.1, w * p.2)), bcols := nonzero (r.bcols.map fun p => (p.1, w * p.2)), rhs := w * r.rhs }

/-- What a row measures beyond the prior. -/
def Dev.rowInnov (s : Dev) (r : EstRow) : Rat := r.rhs - (r.cols.map fun p => p.2 * s.estP p.1).sum

/-- Prior rows (R111, R135): the square-root information, of the wide prior a diagonal. -/
def Dev.priorRows (s : Dev) (i : TickIn) : List EstRow :=
  (List.range 19).map fun r =>
    let cs : List (Nat × Rat) :=
      if s.est.wide then [(r, Config.wideInfo r)]
      else (i.info.filter fun e => e.1 == r && decide (e.2.1 < 19)).foldl (fun a e => insertKey e.2.1 e.2.2 a) []
    { cols := nonzero cs, rhs := (cs.map fun p => p.2 * s.estP p.1).sum }

/-- Columns of a lever arm's forward and starboard corrections in a direction (R132). -/
def Dev.leverCols (s : Dev) (id : Nat) (k : Rat) (u : Rat × Rat) : List (Nat × Rat) :=
  let f := s.leverNE 1 0 0
  let b := s.leverNE 0 1 0
  [(id, k * (u.1 * f.1 + u.2 * f.2)), (id + 1, k * (u.1 * b.1 + u.2 * b.2))]

/-- Column of a constellation's offset from GPS time (R108). -/
def offsetCols (sys : Nat) : List (Nat × Rat) := if sys = 1 then [(16, 1)] else if sys = 2 then [(17, 1)] else []

/-- Ionosphere-free pseudorange and range-rate rows of a satellite, before their weights (R111, R116, R117, R124). -/
def Dev.satRows (s : Dev) (k : Nat) : EstRow × EstRow :=
  let c := s.gnss.chan.getD k {}
  let d := (s.lowerChan c).getD {}
  let g := s.skyOf c
  let v := s.sight c
  let u := v.2
  let p := s.priorPos
  let pr := ionoFree ((c.pr.toNat : Rat) / 65536) ((d.pr.toNat : Rat) / 65536)
  let rr := ionoFree (-(waveUp * c.dop.toInt) / 1000) (-(waveLow * d.dop.toInt) / 1000)
  let surge := turned (s.estP 2) (1, 0)
  let sway := turned (s.estP 2) (0, 1)
  ({ cols := [(0, -u.1), (1, -u.2.1), (9, -u.1), (10, -u.2.1), (15, 1)] ++ offsetCols (sigSys c.sig)
     bcols := s.leverCols 24 (-1) (u.1, u.2.1)
     rhs := pr + g.clk - g.tropo - v.1 - (u.1 * p.1 + u.2.1 * p.2) },
   { cols := [(3, -(u.1 * surge.1 + u.2.1 * surge.2)), (4, -(u.1 * sway.1 + u.2.1 * sway.2)), (18, 1)]
     rhs := rr + g.drift - dot3 g.vel u })

/-- A satellite whose two rows pass the innovation test (R118). -/
def Dev.satPasses (s : Dev) (i : TickIn) (k : Nat) : Bool :=
  let r := s.satRows k
  let ok (x : EstRow) (key : Nat) : Bool := withinSq (s.pbv EST_INNOV_K * innovSd i key) (s.rowInnov x * s.rowInnov x)
  ok r.1 (16 + 2 * k) && ok r.2 (17 + 2 * k)

/-- Satellites whose rows enter the problem of this cycle (R111, R117, R118, R131). -/
def Dev.rangeSats (s : Dev) (i : TickIn) : List Nat :=
  if s.gnss.epochHere ∧ !(s.ref 6).rejected then s.highest.filter (s.satPasses i) else []

/-- Heading row of a double difference of so many cycles, before its weight (R111): linear about the prior's heading. -/
def Dev.headingRow (s : Dev) (cyc : Rat) (du : Rat × Rat × Rat) : EstRow :=
  let l := s.baseLevel
  let h := s.priorHdg
  let b := turned h (l.1, l.2.1)
  let rad : Rat := piFix / (180 * 2 ^ 96 : Nat)
  let slope := -(du.1 * -b.2 + du.2.1 * b.1) * rad / waveUp
  { cols := [(2, slope), (11, slope)], rhs := cyc + dot3 du (b.1, b.2, -l.2.2) / waveUp + slope * h }

/-- Rows of the fixed double differences at an epoch (R111). -/
def Dev.headingRows (s : Dev) : List EstRow :=
  match s.est.ddRef with
  | none => []
  | some ref =>
    if s.gnss.epochHere && s.bit EST_STAT 4 then
      s.est.ddFixed.filterMap fun k => (s.doubleDiff ref k).map fun d =>
        (s.headingRow (d.1 - (lookupKey k s.est.ddInt).getD 0) d.2).scaled (s.skyOf (s.gnss.chan.getD k {})).wPhase
    else []

/-- Reference satellite of the double differences: the common one of highest elevation (R120). -/
def Dev.bestCommon (s : Dev) : Option Nat := (s.byElev s.common).head?

/-- Rows of the float double differences at an epoch, for the bundle adjustment (R132). -/
def Dev.floatRows (s : Dev) : List EstRow :=
  match (if s.est.bundleRun && s.fld EST_BND_STAT 22 16 != 0 then s.est.bundleRef else s.bestCommon) with
  | none => []
  | some ref =>
    if s.gnss.epochHere then
      (s.common.filter fun k => k != ref).filterMap fun k => (s.doubleDiff ref k).map fun d =>
        ({ s.headingRow d.1 d.2 with bcols := [(29 + k, 1)] } : EstRow).scaled (s.skyOf (s.gnss.chan.getD k {})).wPhase
    else []

/-- Row of an accepted gyro (R111): its heading near the prior's, weighted by its commissioned sigma. -/
def Dev.gyroRow (s : Dev) (k : Nat) : EstRow :=
  let h := s.priorHdg
  ({ cols := [(2, 1), (11, 1)], bcols := [(26 + k, 1)], rhs := h + wrapDeg (s.gyroHdg k - h) } : EstRow).scaled
    (1 / s.model (380 + k))

/-- North and east rows of a reference in use (R111, R126): the sender's sigma, or the commissioned one. -/
def Dev.refRows (s : Dev) (n : Nat) : List EstRow :=
  match (s.ref n).sample with
  | none => []
  | some x =>
    let t := s.testRef n x
    let sd : Rat := if x.sigma = 0 then s.pbv (EST_REF_SIGMA n) else (x.sigma : Rat) / 1000
    [({ cols := [(0, 1), (9, 1)], bcols := (4 * n, 1) :: s.leverCols (4 * n + 2) 1 (1, 0), rhs := t.point.1 } : EstRow).scaled
       (1 / sd),
     ({ cols := [(1, 1), (10, 1)], bcols := (4 * n + 1, 1) :: s.leverCols (4 * n + 2) 1 (0, 1), rhs := t.point.2 } : EstRow).scaled
       (1 / sd)]

/-- Rows of a problem from a row number on. -/
def placed (r0 : Nat) (rows : List EstRow) : Problem :=
  rows.zipIdx.flatMap fun p =>
    (laneKey 0 0 (r0 + p.2), p.1.cols) :: if p.1.rhs = 0 then [] else [(laneKey 2 0 (r0 + p.2), [(0, p.1.rhs)])]

/-- Dead reckoning: cycles since the last position sample, or since the start, whose own cycle is 0 (R136). -/
def Dev.deadReckon (s : Dev) (entered : Bool) : Dev :=
  let n := if entered ∨ s.est.started then 0 else s.est.posCycles + 1
  let dr := decide (50 < n)
  let sec := n / 50
  let expired := dr && decide (s.fld EST_LIM0 15 0 < sec)
  let was := s.bit EST_STAT 7
  let s := ({ s with est.posCycles := n, est.started := false }.setBit EST_STAT 3 dr).setBit EST_STAT 7 expired
  if expired ∧ !was then s.ev 0x0408 0 sec else s

/-- Published bundle values take effect (R134). -/
def Dev.applyBundle (s : Dev) : Dev :=
  match s.est.bundlePend with
  | none => { s with est.bundleNew := false }
  | some v =>
    let lim := s.pbv EST_LEVER_STEP_MAX
    let s := s.each v.refs fun d r =>
      let n := r.1
      let d := (d.wrPbv (estBias n 0) r.2.1).wrPbv (estBias n 1) r.2.2.1
      if lim < absRat r.2.2.2.1 ∨ lim < absRat r.2.2.2.2 then d.ev 0x040D 0 2
      else (d.wrPbv (estBias n 2) r.2.2.2.1).wrPbv (estBias n 3) r.2.2.2.2
    let s := s.each v.gyro fun d g => d.wrPbv (estGyroBias g.1) g.2
    let s := if lim < absRat v.ant.1 ∨ lim < absRat v.ant.2 then s.ev 0x040D 0 2
      else (s.wrPbv (estAnt 0) v.ant.1).wrPbv (estAnt 1) v.ant.2
    { s with est.bundlePend := none, est.bundleNew := true }

/-- The cycle problem (R111): each kind of row from the first row of its own. -/
def Dev.cycleProblem (s : Dev) (i : TickIn) (sats : List Nat) : Problem :=
  let w (k : Nat) : SkySat := s.skyOf (s.gnss.chan.getD k {})
  let gyros := maskBits 3 s.est.gyroUsed
  placed 0 (s.priorRows i)
    ++ placed 19 (sats.map fun k => (s.satRows k).1.scaled ((w k).wRange / ionoNoise))
    ++ placed 59 (sats.map fun k => (s.satRows k).2.scaled ((w k).wRate / ionoNoise))
    ++ placed 99 s.headingRows
    ++ gyros.flatMap (fun k => placed (138 + k) [s.gyroRow k])
    ++ (maskBits 6 s.est.refUsed).flatMap fun n => placed (141 + 2 * n) (s.refRows n)

/-- The rows of a cycle that bear on the unknowns of the bundle adjustment (R132). -/
def Dev.bundleObs (s : Dev) (sats : List Nat) : List EstRow :=
  (maskBits 6 s.est.refUsed).flatMap s.refRows ++ (maskBits 3 s.est.gyroUsed).map s.gyroRow
    ++ (sats.map fun k => (s.satRows k).1.scaled ((s.skyOf (s.gnss.chan.getD k {})).wRange / ionoNoise)) ++ s.floatRows

/-- Tick 0: samples tested, the problem formed and released (R111 to R131). -/
def Dev.estForm (s : Dev) (i : TickIn) : Dev :=
  if s.estState = 0 then s
  else
    let s := s.applyBundle.selectSensors.propagate
    let s := if s.gnss.epochHere && s.bit EST_STAT 4 then { s with est.satHdg := s.satHeading } else s
    let s := (s.acceptRefs i).headingTest
    let refs := (List.range 6).filter fun n => (s.ref n).used
    let sats := s.rangeSats i
    let s := s.setFld EST_STAT 23 16 sats.length
    let s := { s with est.refUsed := refs.foldl (fun a n => a + 2 ^ n) 0, est.satUsed := sats != [] }
    let s := s.deadReckon (sats != [] || refs != [])
    let s := s.setFld EST_STAT 31 24 (if s.bit EST_STAT 4 then s.est.ddFixed.length else 0)
    let s := { s with est.obs := s.bundleObs sats }
    { (s.roleRelease 0 3 false 19 153 0 (s.cycleProblem i sats) false 0).dropSamples with est.released := true }

/-- CONV_CYCLES; 0 acts as 1 (R139). -/
def Dev.convCycles (s : Dev) : Nat := max 1 (s.fld EST_CFG 15 4)

/-- The estimator (re)starts with a wide prior (R135). -/
def Dev.estRestart (s : Dev) : Dev :=
  let s := { s with est.convCnt := 0, est.wide := true }
  ((s.setEstState 1).setFld EST_STAT 11 8 0).setBit EST_STAT 2 false

/-- ORIGIN_FAR of a valid estimate (R109). -/
def Dev.originFar (s : Dev) : Dev :=
  let d2 := s.estX 0 * s.estX 0 + s.estX 1 * s.estX 1
  let far := decide (400000000 < d2)
  let was := s.bit EST_STAT 6
  let s := s.setBit EST_STAT 6 far
  if far ∧ !was then s.ev 0x040C 0 (isqrt d2.floor.toNat) else s

/-- Row k of the inverse of a triangular factor with n columns, the part of it at column k and beyond. -/
def invRow (n : Nat) (f : List GVal) (k : Nat) : List Rat :=
  (List.range (n - k)).foldl (fun y d =>
    let j := k + d
    let t := (y.zipIdx.map fun p => p.1 * facAt n f (k + p.2) j).sum
    y ++ [((if d = 0 then 1 else 0) - t) / facAt n f j j]) []

/-- Square root in whole units, to nearest with ties to even, at most 65,535. -/
def rootUnits (x : Rat) : Nat :=
  let n := isqrt x.floor.toNat
  let h : Rat := (n : Rat) + 1 / 2
  min 65535 (if x < h * h then n else if h * h < x then n + 1 else n + n % 2)

/-- Standard deviations of north, east and heading, mm and 0.001° (R113, R137). -/
def sigOf (n : Nat) (f : List GVal) : List Nat :=
  (List.range 3).map fun k => rootUnits (((invRow n f k).map fun y => y * y).sum * 1000000)

/-- A valid solution is taken (R112, R113). -/
def Dev.takeSolution (s : Dev) (l : Nat) : Dev :=
  let x := s.laneX l
  { s with est.x := x, est.prior := x, est.wide := false, est.sig := sigOf 19 (s.lane l).fac }.originFar

/-- The solve's result taken at the start of tick 7 (R113, R135). -/
def Dev.estUpdate (s : Dev) : Dev :=
  let st := s.estState
  if st = 0 ∨ st = 3 ∨ !s.est.released then s
  else
    let ok := s.roleOk 0
    let code := s.roleCode 0
    let s := { s with est.released := false }
    let s := if ok then
        match s.roleLane 0 with
        | none => s
        | some l => s.takeSolution l
      else s
    if st = 1 then
      if ok ∧ !s.bit EST_STAT 3 then
        let c := s.est.convCnt + 1
        let s := { s with est.convCnt := c }
        if s.convCycles ≤ c then (s.setEstState 2).ev 0x0407 0 1 else s
      else { s with est.convCnt := 0 }
    else if ok then (s.setFld EST_STAT 11 8 0).setBit EST_STAT 2 false
    else
      let h := s.fld EST_STAT 11 8
      if h < s.fld EST_CFG 3 0 then
        ((s.setFld EST_STAT 11 8 (h + 1)).setBit EST_STAT 2 true).ev 0x0405 0 (h + 1)
      else (s.setEstState 3).ev 0x0406 0 code

/-- Slice in progress (R141). -/
def Dev.bndSlice (s : Dev) : Nat := s.fld EST_BND_STAT 22 16

/-- The present cycle is one that slice 0 may take (R132): the one whose boundary lies nearest a whole second. -/
def Dev.slice0Here (s : Dev) : Bool :=
  if s.freeRun then s.cycles % 50 == 0 else decide ((s.boundaryNs + 10000000) % 1000000000 < 20000000)

/-- An adjustment begins: its unknowns, in the order of R132, are fixed, and LOAD zeroes the factor (R132, R178; log entry 98). -/
def Dev.bundleBegin (s : Dev) : Dev :=
  let best := s.bestCommon
  let dd := match best with
    | none => []
    | some r => (s.common.filter fun k => k != r).take 39
  let refs := (List.range 6).filter fun n => (s.ref n).admitted && !(s.ref n).rejected
  let gyros := (List.range 3).filter fun k => s.fresh (s.est.gyro.getD k {})
  let cols := refs.flatMap (fun n => [4 * n, 4 * n + 1, 4 * n + 2, 4 * n + 3]) ++ [24, 25] ++ gyros.map (26 + ·) ++ dd.map (29 + ·)
  let s := { s with est.bundleRun := true, est.bundleCols := cols, est.bundleRef := best, est.bundleDd := dd }
  match s.roleLane 1 with
  | none => s
  | some l => (s.groveLoadOp l 3 true cols.length (192 - cols.length)).1

/-- Value in force of an unknown of the adjustment (R141); an ambiguity has none. -/
def Dev.published (s : Dev) (id : Nat) : Rat :=
  if id < 24 then s.pbv (estBias (id / 4) (id % 4))
  else if id < 26 then s.pbv (estAnt (id - 24))
  else if id < 29 then s.pbv (estGyroBias (id - 26)) else 0

/-- A row of the cycle as a slice absorbs it: over the adjustment's unknowns, with the cycle's solution taken out (R132). -/
def Dev.sliceRow (s : Dev) (r : EstRow) : EstRow :=
  { cols := sortBy (fun a b => decide (a.1 ≤ b.1)) (r.bcols.map fun p => (s.est.bundleCols.idxOf p.1, p.2))
    rhs := r.rhs + (r.bcols.map fun p => p.2 * s.published p.1).sum - (r.cols.map fun p => p.2 * s.estX p.1).sum }

/-- The rows of this cycle for its slice. -/
def Dev.sliceRows (s : Dev) : List EstRow :=
  (s.est.obs.filter fun r => r.bcols != [] && r.bcols.all fun p => s.est.bundleCols.contains p.1).map s.sliceRow

/-- Rows that one release absorbs (R173, R178). -/
def Dev.chunk (s : Dev) : Nat := 192 - s.est.bundleCols.length

/-- The next rows of the slice are released; the last of slice 49 with FINAL and AMB (R132, R178). -/
def Dev.bundleSend (s : Dev) : Dev :=
  let n := s.est.bundleCols.length
  let rows := s.est.bundleRows
  s.roleRelease 1 3 true n (192 - n) 0 (placed 0 (rows.take s.chunk))
    (s.bndSlice == 49 && decide (rows.length ≤ s.chunk)) s.est.bundleDd.length

/-- Tick 64: the bundle slice of the cycle is released; a late slice's rows again (R132, R133). -/
def Dev.bundleStart (s : Dev) : Dev :=
  let go := s.est.bundleRun || s.slice0Here
  if s.estState = 0 ∨ !go then s
  else
    let s := if s.bndSlice = 0 ∧ !s.est.bundleLate then s.bundleBegin else s
    let s := if s.est.bundleLate then s else { s with est.bundleRows := s.sliceRows }
    { s with est.bundleReleased := true }.bundleSend

/-- The bundle lane has stopped: after a valid absorption the rest of the slice follows (R178). -/
def Dev.bundleNext (s : Dev) (l : Nat) (ok : Bool) : Dev :=
  if ok && s.laneRole l == 1 && s.est.bundleReleased then
    let rest := s.est.bundleRows.drop s.chunk
    let s := { s with est.bundleRows := rest }
    if rest = [] then s else s.bundleSend
  else s

/-- Solution of L y = v for a unit lower triangle held by rows with D in its diagonal. -/
def ldlSolve (f : List GVal) (v : List Rat) : List Rat :=
  v.zipIdx.foldl (fun y p =>
    let t := (y.zipIdx.map fun q => q.1 * ((f[p.2 * (p.2 + 1) / 2 + q.2]?).map gvRat).getD 0).sum
    y ++ [p.1 - t]) []

/-- Weighted residual of an integer candidate (R120, R178). -/
def ambResidual (f : List GVal) (a : List Rat) (z : List Int) : Rat :=
  ((ldlSolve f (List.zipWith (fun x (n : Int) => x - n) a z)).zipIdx.map fun p =>
    p.1 * p.1 / ((f[p.2 * (p.2 + 3) / 2]?).map gvRat).getD 0).sum

/-- Two lengths, given squared, differ by at most t. -/
def lengthsNear (p q t : Rat) : Bool :=
  let k := p + q - t * t
  decide (0 ≤ t) && (decide (k ≤ 0) || decide (k * k ≤ 4 * p * q))

/-- Integers of the double differences of the adjustment, by channel. -/
def Dev.ambInts (s : Dev) (z : List Int) : List (Nat × Int) := s.est.bundleDd.zip z

/-- The two conditions of a fix (R120). -/
def Dev.ambPasses (s : Dev) (f : List GVal) (a : List Rat) (ref : Nat) (best second : List Int) : Bool :=
  let k := s.est.bundleDd.length
  let rb := ambResidual f a best
  let rs := ambResidual f a second
  let bx := s.pbv EST_BASE_X
  let by_ := s.pbv EST_BASE_Y
  let near := match s.fixedBaseline ref (s.ambInts best) with
    | none => false
    | some b => lengthsNear (b.1 * b.1 + b.2.1 * b.2.1) (bx * bx + by_ * by_) (s.pbv EST_BL_TOL)
  best.length == k && second.length == k && best != second && decide (rb ≤ rs) && decide (s.pbv EST_AMB_RATIO * rb ≤ rs) && near

/-- The ambiguity fix of the final slice on the result of its lane (R120). -/
def Dev.ambFix (s : Dev) (l : Nat) (i : TickIn) : Dev :=
  let com := s.common
  let r := (s.lane l).result
  let k := s.est.bundleDd.length
  let a := (s.laneX l).drop (s.est.bundleCols.length - k)
  match i.amb, s.est.bundleRef with
  | some (best, second), some ref =>
    let kept := s.est.bundleDd.filter com.contains
    if com.contains ref && decide (4 ≤ kept.length) && s.ambPasses ((r.map SolveOut.ldl).getD []) a ref best second then
      let s := { s with est.ddFixed := kept, est.ddRef := some ref, est.ddInt := s.ambInts best }
      ((s.setBit EST_STAT 4 true).setFld EST_BND_STAT 31 24 kept.length).ev 0x0403 0 kept.length
    else s
  | _, _ => s

/-- What the adjustment publishes from its solution (R132, R134). -/
def Dev.bundleVals (s : Dev) (x : List Rat) : BundleVals :=
  let cols := s.est.bundleCols
  let v (id : Nat) : Rat := x.getD (cols.idxOf id) 0
  { refs := ((List.range 6).filter fun n => cols.contains (4 * n)).map fun n =>
      (n, v (4 * n), v (4 * n + 1), v (4 * n + 2), v (4 * n + 3))
    gyro := ((List.range 3).filter fun k => cols.contains (26 + k)).map fun k => (k, v (26 + k))
    ant := (v 24, v 25) }

/-- Slice 49 has completed: an adjustment with an invalid slice is discarded (R133, R134). -/
def Dev.bundlePublish (s : Dev) (i : TickIn) (bad : Bool) : Dev :=
  match (if bad then none else s.roleLane 1) with
  | none => s.ev 0x040D 0 0
  | some l =>
    let s := (s.ambFix l i).cntWrap EST_BND_STAT 15 0 1
    { s with est.bundlePend := some (s.bundleVals (s.laneX l)) }.ev 0x040D 0 1

/-- Tick 76: the bundle slice has ended (R133, R134). A late slice is repeated once; another failure discards the
adjustment at its end. -/
def Dev.bundleEnd (s : Dev) (i : TickIn) : Dev :=
  if !s.est.bundleReleased then s
  else
    let code := if s.roleOk 1 then 0 else s.roleCode 1
    let late := codeClass code == 1
    let s := { s with est.bundleReleased := false }
    if late ∧ !s.est.bundleLate then { s with est.bundleLate := true }
    else
      let bad := s.est.bundleBad || code != 0
      let sl := s.bndSlice
      let s := { s with est.bundleLate := false, est.bundleBad := bad }
      if sl < 49 then s.setFld EST_BND_STAT 22 16 (sl + 1)
      else { s.setFld EST_BND_STAT 22 16 0 with est.bundleBad := false }.bundlePublish i bad

/-- Carrier change in cycles that two Dopplers in 0.001 Hz predict over an epoch of t seconds; the carrier phase falls while
the Doppler is positive (R213). -/
def dopplerCycles (d0 d1 : BitVec 32) (t : Rat) : Rat := -((d0.toInt + d1.toInt : Int) : Rat) / 2000 * t

/-- A channel's carrier has slipped in an epoch of t seconds (R121). -/
def GChan.slipped (c : GChan) (t lim : Rat) : Bool :=
  !c.carrLock || c.lol || (match c.prevCp with
    | none => false
    | some (p, d) => decide (lim < absRat (((c.cp - p).toInt : Rat) / 4294967296 - dopplerCycles d c.dop t)))

/-- Satellites of the fix, by ANT_P channel, whose carrier has slipped on one of the antennas (R121). -/
def Dev.slipped (s : Dev) : List Nat :=
  let t : Rat := (epochCycles s.gnss.rate : Rat) / 50
  let lim := s.pbv EST_SLIP_LIM
  (s.est.ddFixed ++ s.est.ddRef.toList).filter fun k =>
    let c := s.gnss.chan.getD k {}
    c.slipped t lim || ((s.findChan c.sig c.svid true).map fun d => d.slipped t lim).getD true

/-- Cycle slips of an epoch (R121): a slip of the reference satellite, or fewer than 3 double differences, ends the fix. -/
def Dev.slips (s : Dev) : Dev :=
  if !s.bit EST_STAT 4 then s
  else
    let ks := s.slipped
    let hit := ks.filter fun k => s.est.ddFixed.contains k
    let refHit := match s.est.ddRef with
      | none => false
      | some r => ks.contains r
    let left := s.est.ddFixed.filter fun k => !ks.contains k
    let s := { s with est.ddFixed := if refHit then [] else left }
    if refHit then (s.setBit EST_STAT 4 false).ev 0x0404 0 (s.est.ddRef.getD 0)
    else if left.length < 3 then (s.setBit EST_STAT 4 false).ev 0x0404 0 (hit.headD 0)
    else s

/-- The estimator at a cycle boundary: start, restart after Lost, origin and reinitialisation (R107, R109, R135). -/
def Dev.estBoundary (s : Dev) : Dev :=
  let e := s.est
  let s := match e.originLat with
    | some w => (s.wr EST_ORIGIN_LAT w).setBit EST_STAT 5 true
    | none => s
  let s := match e.originLon with
    | some w => (s.wr EST_ORIGIN_LON w).setBit EST_STAT 5 true
    | none => s
  let origin := e.originLat.isSome || e.originLon.isSome
  let s := { s with est.originLat := none, est.originLon := none }
  if s.estState = 0 then
    if e.startPending then { s.estRestart with est.startPending := false, est.posCycles := 0, est.started := true, est.x := [], est.prior := [] }
    else s
  else if origin ∨ e.reinitPending then
    { (if e.reinitPending then s.refsReinit else s).estRestart with est.reinitPending := false }
  else if s.estState = 3 then s.estRestart
  else s

/-- A write of the origin (R109). -/
def Dev.originWrite (s : Dev) (lon : Bool) (v : Word) : Dev :=
  if s.inService then s.ev 0x040B 0 0
  else
    let s := if lon then { s with est.originLon := some v } else { s with est.originLat := some v }
    { s with est.originWritten := true }.ev 0x040B 0 1

/-- The first valid satellite position becomes the origin where none has been written (R109). -/
def Dev.autoOrigin (s : Dev) (lat lon : Int) : Dev :=
  if s.bit EST_STAT 5 ∨ s.est.originWritten then s
  else ((s.wr EST_ORIGIN_LAT (BitVec.ofInt 32 lat)).wr EST_ORIGIN_LON (BitVec.ofInt 32 lon)).setBit EST_STAT 5 true

/-- Sensors 0 to 6 in the order of R139: enabled, on this UART, with this talker. -/
def Dev.sensorOf (s : Dev) (u : Nat) (talker : Nat) (lo n : Nat) : Option Nat :=
  ((List.range n).map (· + lo)).find? fun k =>
    s.bit EST_SENS_CFG (4 * k + 3) && s.fld EST_SENS_CFG (4 * k + 2) (4 * k) == u &&
      s.fld (EST_TALK (k / 2)) (16 * (k % 2) + 15) (16 * (k % 2)) == talker

/-- A discarded sentence or frame (R122, R126). -/
def Dev.sensBad (s : Dev) : Dev := s.cntSat EST_SENS_BAD 31 0 1

/-- Fields of a sentence, between its commas. -/
def fieldsOf : List Byte → List (List Byte)
  | [] => [[]]
  | b :: bs => match fieldsOf bs with
    | [] => [[b]]
    | f :: fs => if b = 0x2C then [] :: f :: fs else (b :: f) :: fs

/-- Digits and a point: the value without its point, and the digits after it. -/
def decDigits : List Byte → Nat → Nat → Bool → Option (Nat × Nat)
  | [], v, d, _ => some (v, d)
  | b :: bs, v, d, dot =>
    if b = 0x2E then (if dot then none else decDigits bs v d true)
    else if 0x30 ≤ b ∧ b ≤ 0x39 then decDigits bs (10 * v + (b.toNat - 48)) (if dot then d + 1 else d) dot
    else none

/-- A decimal number. -/
def decimal (f : List Byte) : Option Rat :=
  match f with
  | [] => none
  | b :: bs =>
    let m := decDigits (if b = 0x2D then bs else f) 0 0 false
    m.map fun p => (if b = 0x2D then -1 else 1) * (p.1 : Rat) / (10 ^ p.2 : Nat)

/-- What a received sentence gives the estimator (R122). -/
inductive SentContent where
  | heading (deg : Rat)
  | rate (degPerMin : Rat)
  | attitude (roll pitch : Rat)
  | wind (angle speed : Rat)
  | other
  deriving DecidableEq, Repr

/-- Metres per second of a wind speed's unit: km/h, m/s, knots or statute miles per hour. -/
def speedUnit (f : List Byte) : Option Rat :=
  if f = [0x4B] then some (5 / 18) else if f = [0x4D] then some 1
  else if f = [0x4E] then some (463 / 900) else if f = [0x53] then some (44704 / 100000) else none

/-- Transducers of an XDR sentence whose type is A, angular displacement: first letter of the name, and degrees. -/
def transducers : List (List Byte) → List (Byte × Rat)
  | t :: v :: _ :: n :: fs =>
    let rest := transducers fs
    match (if t = [0x41] then decimal v else none), n with
    | some x, c :: _ => (c, x) :: rest
    | _, _ => rest
  | _ => []

/-- HDT, THS, ROT, XDR and MWV by the formats of IEC 61162-1 (PRESUMED; log entry 98): a sentence marked invalid, or without
its value, gives nothing. -/
def contentOf (kind : List Byte) (fs : List (List Byte)) : SentContent :=
  let f (k : Nat) : List Byte := fs.getD k []
  if kind = [0x48, 0x44, 0x54] then ((decimal (f 0)).map SentContent.heading).getD .other
  else if kind = [0x54, 0x48, 0x53] then
    if f 1 = [0x56] then .other else ((decimal (f 0)).map SentContent.heading).getD .other
  else if kind = [0x52, 0x4F, 0x54] then
    if f 1 = [0x41] then ((decimal (f 0)).map SentContent.rate).getD .other else .other
  else if kind = [0x58, 0x44, 0x52] then
    let ts := transducers fs
    let by_ (c : Byte) : Option Rat := (ts.find? fun t => t.1 == c).map Prod.snd
    match by_ 0x52, by_ 0x50 with
    | some r, some p => .attitude r p
    | _, _ => .other
  else if kind = [0x4D, 0x57, 0x56] then
    if f 1 = [0x52] ∧ f 4 = [0x41] then
      match decimal (f 0), decimal (f 2), speedUnit (f 3) with
      | some a, some v, some u => .wind a (v * u)
      | _, _, _ => .other
    else .other
  else .other

/-- A sentence from a sensor (R122): its talker's two characters, its formatter's three. -/
def Dev.sentence (s : Dev) (u : Nat) (m : SentenceIn) : Dev :=
  if (m.chars.foldl (fun a c => a ^^^ c) 0) ≠ m.sum then s.sensBad
  else
    let t : Int := m.arrivalNs
    let fs := fieldsOf m.chars
    let head := fs.headD []
    let talker := u16 head 0
    match contentOf (head.drop 2) fs.tail with
    | .heading h => match s.sensorOf u talker 0 3 with
      | none => s
      | some k => { s with est.gyro := modAt s.est.gyro k fun (x : SensSt) => { x with a := h, at_ := some t } }
    | .rate r => match s.sensorOf u talker 0 3 with
      | none => s
      | some k => { s with est.gyro := modAt s.est.gyro k fun (x : SensSt) => { x with b := r } }
    | .attitude r p => match s.sensorOf u talker 3 2 with
      | none => s
      | some k => { s with est.mru := modAt s.est.mru (k - 3) fun (x : SensSt) => { x with a := r, b := p, at_ := some t } }
    | .wind a v => match s.sensorOf u talker 5 2 with
      | none => s
      | some k => { s with est.wind := modAt s.est.wind (k - 5) fun (x : SensSt) => { x with a := a, b := v, at_ := some t } }
    | .other => s

/-- CRC-16/CCITT-FALSE (R125): eight shifts of a byte. -/
def crc16Bits : Nat → Nat → Nat
  | 0, c => c
  | k + 1, c => crc16Bits k (if 32768 ≤ c then (2 * c % 65536) ^^^ 0x1021 else 2 * c)

/-- CRC-16/CCITT-FALSE: polynomial 0x1021, start 0xFFFF, no reflection. -/
def crc16 (bs : List Byte) : Nat := bs.foldl (fun c b => crc16Bits 8 (c ^^^ (b.toNat * 256))) 0xFFFF

/-- A reference payload for the estimator (R126, R127). -/
def Dev.refPayload (s : Dev) (port : Nat) (u : Nat) (p : List Byte) (arrival : Int) : Dev :=
  let n := u8 p 0
  let cfg := (s.rd (EST_REF_CFG n)).toNat
  if 5 < n ∨ !bitOf (u8 p 1) 1 ∨ bitsOf cfg 1 0 ≠ port ∨ (port = 1 ∧ bitsOf cfg 4 2 ≠ u) then s
  else
    let ns := if bitOf (u8 p 1) 0 then extendStamp (BitVec.ofNat 32 (u32 p 4)) arrival else arrival
    let x : RefSample := { ns := ns, north := signed 32 (u32 p 8), east := signed 32 (u32 p 12), sigma := u16 p 16 }
    let s := s.cntWrap (EST_REF_CNT n) 15 0 1
    match (s.ref n).sample with
    | none => s.setRef n fun r => { r with sample := some x }
    | some y =>
      let s := s.cntSat (EST_REF_DROP n) 31 0 1
      if y.ns ≤ ns then s.setRef n fun r => { r with sample := some x } else s

/-- A reference sample on a UART, framed, or a datagram (R125, R126). -/
def Dev.refArrival (s : Dev) (uart : Option Nat) (bytes : List Byte) (arrival : Int) : Dev :=
  match uart with
  | none => if bytes.length = 20 then s.refPayload 2 0 bytes arrival else s.sensBad
  | some u =>
    if bytes.length = 25 ∧ u8 bytes 0 = 0xB5 ∧ u8 bytes 1 = 0x5E ∧ u8 bytes 2 = 20
        ∧ u16 bytes 23 = crc16 (slice bytes 2 21) then
      s.refPayload 1 u (slice bytes 3 20) arrival
    else s.sensBad

/-- A signed field of n bytes, clamped to its range. -/
def sBytes (n : Nat) (x : Int) : List Byte :=
  leBytes n (unsigned (8 * n) (clampInt (-(2 ^ (8 * n - 1) : Nat)) ((2 ^ (8 * n - 1) : Nat) - 1) x))

/-- The estimator report of 64 bytes (R137). -/
def Dev.estReport (s : Dev) : List Byte :=
  let e := s.est
  let b (x : Bool) (k : Nat) : Nat := bnat x * 2 ^ k
  let flags := b s.estValid 0 + b (s.bit EST_STAT 2) 1 + b (s.bit EST_STAT 3) 2 + b (s.bit EST_STAT 4) 3
    + b (s.bit EST_STAT 7) 4 + b (s.bit EST_STAT 6) 5 + b e.bundleNew 6 + b e.hdgDisagree 7 + b e.mruLost 8
    + b e.windLost 9 + b (s.bit EST_STAT 12) 10 + b (s.bit EST_STAT 13) 11
  let r (k : Nat) (m : Rat) : Int := roundRat (s.estX k * m)
  let sig (k : Nat) : List Byte := leBytes 2 (e.sig.getD k 0)
  [0x41, 1] ++ leBytes 2 flags ++ leBytes 4 s.cycles ++ leBytes 4 (stamp32 s.boundaryNs).toNat
    ++ sBytes 4 (r 0 10000) ++ sBytes 4 (r 1 10000) ++ leBytes 4 (unsigned 32 (roundRat (s.estX 2 * 4294967296 / 360)))
    ++ sBytes 2 (r 3 1000) ++ sBytes 2 (r 4 1000) ++ sBytes 2 (r 5 1000) ++ leBytes 2 (min 65535 (e.posCycles / 50))
    ++ sBytes 4 (r 6 100) ++ sBytes 4 (r 7 100) ++ sBytes 4 (r 8 100)
    ++ sig 0 ++ sig 1 ++ sig 2
    ++ leBytes 1 (e.refUsed + b e.satUsed 6) ++ leBytes 1 (e.gyroUsed + b e.mruSel 3 + b e.windSel 4)
    ++ leBytes 1 (s.fld EST_STAT 23 16) ++ leBytes 1 (s.fld EST_STAT 31 24) ++ leBytes 1 (s.fld EST_STAT 11 8) ++ [0]
    ++ sBytes 2 (r 9 1000) ++ sBytes 2 (r 10 1000) ++ sBytes 2 (r 11 1000) ++ [0, 0]

end Sys2Proof.Machine
end

