-- ==== Sys2Proof/Machine/Alloc.lean ====
section
/-! DEFINITION. Thrust allocation and consequence analysis (chapter 05). The Grove solves the problems; variables stand
in ascending thruster order, fx before fy, all of step 1 before the increments (log entry 15). Each value that a line of
R143, R153, R155 or R156 gives is rounded alone in its stage (R144; log entry 37). -/

namespace Sys2Proof.Machine

/-- ALLOC_STAT.STATE: 0 Off, 1 Solving, 2 Applying, 3 Held, 4 ZeroDemand, 5 Faulted (R168). -/
def Dev.allocState (s : Dev) : Nat := s.fld ALLOC_STAT 2 0

def Dev.setAllocState (s : Dev) (n : Nat) : Dev :=
  if s.allocState = n then s else (s.setFld ALLOC_STAT 2 0 n).raise 0x23

/-- KIND of a thruster; 0 absent (R146). -/
def Dev.thrKind (s : Dev) (t : Nat) : Nat := s.fld (ALLOC_THR_CFG t) 2 0

def Dev.ctxMag (s : Dev) (t : Nat) : Nat := s.fld (ALLOC_THR_CFG t) 10 4
def Dev.ctxAng (s : Dev) (t : Nat) : Nat := s.fld (ALLOC_THR_CFG t) 18 12

/-- Declared thrusters, ascending. -/
def Dev.thrusters (s : Dev) : List Nat :=
  (List.range 24).filter fun t => decide (1 ≤ s.thrKind t) && decide (s.thrKind t ≤ 4)

/-- The kind has a fx variable, a fy variable (R146). -/
def hasFx (k : Nat) : Bool := decide (2 ≤ k) && decide (k ≤ 4)
def hasFy (k : Nat) : Bool := decide (1 ≤ k) && decide (k ≤ 3)

/-- Declared groups, ascending; thrust groups have KIND 0 to 2 (R158). -/
def Dev.groups (s : Dev) : List Nat := (List.range 63).filter fun g => s.bit (ALLOC_GRP_CFG g) 3
def Dev.grpKind (s : Dev) (g : Nat) : Nat := s.fld (ALLOC_GRP_CFG g) 1 0
def Dev.thrustGroups (s : Dev) : List Nat := s.groups.filter fun g => s.grpKind g != 3

/-- A residue mismatch of ALLOC (R144). -/
def Dev.allocMismatch (s : Dev) (k : Nat) : Dev := (s.cntSat ALLOC_RES_TOTAL 31 0 1).ev 0x0501 0 k

/-- Cause 7 for every CTX_MAG and CTX_ANG (R157). -/
def Dev.allocRequest (s : Dev) : Dev :=
  let cs := (s.thrusters.map fun t =>
    (s.ctxMag t) :: (if s.thrKind t = 2 ∨ s.thrKind t = 3 then [s.ctxAng t] else [])).flatten
  { s with alloc.requested := true
           loop.faultReq := (s.loop.faultReq.filter fun q => q.2 != 1) ++ cs.map fun c => (c, 1) }

/-- The requests are withdrawn. -/
def Dev.allocWithdraw (s : Dev) : Dev :=
  { s with alloc.requested := false, loop.faultReq := s.loop.faultReq.filter fun q => q.2 != 1 }

/-- Position and velocity of an axis generator in units and units per second. -/
def Dev.axisPos (s : Dev) (g : Nat) : Rat := ((s.gen g).pos : Rat) * s.genQ g
def Dev.axisVel (s : Dev) (g : Nat) : Rat := ((s.gen g).vel : Rat) * s.genQ g * 50

/-- Wind force of an axis from the wind input of tick 0; zero without a fresh sensor (R125, R143). -/
def Dev.windAxis (s : Dev) (a : Nat) : Rat :=
  if s.est.windLost then 0 else Config.windForce s.est.model a s.est.windNow.2 s.est.windNow.1

/-- Clamp of a demand to TAU_LIM, and whether it cut (R143). -/
def Dev.limitTau (s : Dev) (a : Nat) (t : Rat) : Rat × Bool :=
  let l := s.pbv (ALLOC_TAU_LIM a)
  (clampRat (-l) l t, decide (l < absRat t))

/-- The demand of R143 before its limit. -/
def Dev.rawDemand (s : Dev) : Rat × Rat × Rat :=
  let h := s.estHeading
  let c := satStage1 (cosDeg h)
  let sn := satStage1 (sinDeg h)
  let en := satStage1 (s.estX 0 - s.axisPos 128)
  let ee := satStage1 (s.estX 1 - s.axisPos 129)
  let eh := satStage1 (wrapDeg (h - s.axisPos 130))
  let vn := s.axisVel 128
  let ve := s.axisVel 129
  let e : Nat → Rat := fun a => if a = 0 then satStage1 (c * en + sn * ee) else if a = 1 then satStage1 (-sn * en + c * ee)
    else eh
  let u : Nat → Rat := fun a => if a = 0 then satStage1 (s.estX 3 - satStage1 (c * vn + sn * ve))
    else if a = 1 then satStage1 (s.estX 4 - satStage1 (-sn * vn + c * ve)) else satStage1 (s.estX 5 - s.axisVel 130)
  let tau (a : Nat) : Rat := satStage1 (-(s.pbv (ALLOC_KP a)) * e a - s.pbv (ALLOC_KD a) * u a
    - s.pbv (ALLOC_KB a) * s.estX (6 + a) - s.pbv (ALLOC_KW a) * s.windAxis a)
  (tau 0, tau 1, tau 2)

/-- The demand is set for the cycle's problems (R143). -/
def Dev.setTau (s : Dev) (t : Rat × Rat × Rat) : Dev :=
  let x := s.limitTau 0 t.1
  let y := s.limitTau 1 t.2.1
  let n := s.limitTau 2 t.2.2
  let bits := bnat x.2 + 2 * bnat y.2 + 4 * bnat n.2
  let was := s.bit ALLOC_STAT 3
  let s := s.setBit ALLOC_STAT 3 (bits != 0)
  let s := if bits ≠ 0 ∧ !was then s.ev 0x050B 0 bits else s
  let s := ((s.wrPbv (ALLOC_TAU 0) x.1).wrPbv (ALLOC_TAU 1) y.1).wrPbv (ALLOC_TAU 2) n.1
  { s with alloc.tau := some (x.1, y.1, n.1) }

/-- τ = 0 (R157). -/
def Dev.zeroTau (s : Dev) : Dev :=
  let s := (((s.setBit ALLOC_STAT 3 false).wr (ALLOC_TAU 0) 0).wr (ALLOC_TAU 1) 0).wr (ALLOC_TAU 2) 0
  { s with alloc.tau := some (0, 0, 0) }

/-- VALID = 0 at tick 7: the estimator action (R145, R157). -/
def Dev.estimatorAction (s : Dev) : Dev :=
  let st := s.allocState
  if st = 4 then s.zeroTau
  else if st = 2 ∨ st = 3 then
    if s.bit ALLOC_CFG 4 then ((s.setAllocState 4).ev 0x0503 0 3).zeroTau
    else ((s.setAllocState 5).allocRequest).ev 0x0503 0 2
  else s

/-- Tick 7: the demand (R142 to R145). -/
def Dev.allocDemand (s : Dev) (i : TickIn) : Dev :=
  let s := { s with alloc.tau := none, alloc.cqDone := [], alloc.released := false, alloc.validNow := false }
  if s.allocState = 0 then s
  else if !s.estValid then s.estimatorAction
  else
    let s := if s.allocState = 4 then (s.setAllocState 2).ev 0x0504 0 0 else s
    if i.allocMis = some 1 then s.allocMismatch 1 else s.setTau s.rawDemand

/-- An angle in [0, 360). -/
def mod360 (x : Rat) : Rat := x - 360 * ((x / 360).floor : Rat)

/-- Measured angle of a thruster's CTX_ANG (R147). -/
def Dev.thrAngle (s : Dev) (t : Nat) : Rat :=
  let c := s.ctxAng t
  mod360 (((s.measured c).getD (s.pbv (LOOP_CTX_FBV c))) - s.pbv (THR_ANG_OFS t))

/-- The angle lies strictly inside zone z of the thruster (R150): the open arc clockwise from LO to HI. -/
def Dev.inZone (s : Dev) (t z : Nat) (ang : Rat) : Bool :=
  let lo := s.pbv (THR_ZONE t z 0)
  let d := mod360 (ang - lo)
  decide (0 < d) && decide (d < mod360 (s.pbv (THR_ZONE t z 1) - lo))

/-- Zone that holds the angle, if any. -/
def Dev.zoneOf (s : Dev) (t : Nat) (ang : Rat) : Option Nat :=
  (List.range (min 2 (s.fld (ALLOC_THR_CFG t) 21 20))).find? fun z => s.inZone t z ang

/-- The nearer edge of a zone; the clockwise one where both are equally near (R151). -/
def Dev.nearEdge (s : Dev) (t z : Nat) (ang : Rat) : Rat :=
  let lo := s.pbv (THR_ZONE t z 0)
  let hi := s.pbv (THR_ZONE t z 1)
  if mod360 (ang - lo) < mod360 (hi - ang) then lo else hi

/-- Bounds folded with the rate limit (R144, R153). -/
def foldBounds (lo hi f0 d : Rat) : Rat × Rat :=
  let down := satStage1 (f0 - d)
  let up := satStage1 (f0 + d)
  if hi + d < f0 then (down, down)
  else if f0 < lo - d then (up, up)
  else (max lo down, min hi up)

/-- The wedge of an azimuth at a step, clipped at zone edges that lie inside it (R150). -/
def Dev.wedge (s : Dev) (t step : Nat) (ang : Rat) (free : Bool) : Rat × Rat :=
  let half := if free then step * s.pbv (THR_SLEW t) / 50 else 0
  let zs := List.range (min 2 (s.fld (ALLOC_THR_CFG t) 21 20))
  let left := zs.foldl (fun w z => min w (mod360 (ang - s.pbv (THR_ZONE t z 1)))) half
  let right := zs.foldl (fun w z => min w (mod360 (s.pbv (THR_ZONE t z 0) - ang))) half
  (ang - left, ang + right)

/-- Side of a KIND 3 propeller: true astern (R152). -/
def Dev.nextSide (s : Dev) (t : Nat) : Bool :=
  let f := (s.alloc.f0.getD t (0, 0)).1
  if 0 < f then false else if f < 0 then true
  else
    let now := s.bit (ALLOC_THR_STAT t) 2
    if s.alloc.zeroBound.getD t false then !now else now

/-- Zone of an azimuth at the latch; one whose state the Lead has lent keeps that state (R142, R151). -/
def Dev.latchedZone (s : Dev) (t : Nat) (ang : Rat) : Option Nat :=
  if s.thrKind t ≠ 2 then none
  else if s.alloc.loaded.contains t then (if s.bit ALLOC_ZONE_IN t then some ((s.zoneOf t ang).getD 0) else none)
  else s.zoneOf t ang

/-- ZONE_IN, the zone edge for the angle target, and the event of an entry (R151). -/
def Dev.latchZone (s : Dev) (t : Nat) (ang : Rat) (zone : Option Nat) : Dev :=
  let known := s.bit ALLOC_ZONE_IN t || s.alloc.loaded.contains t
  let s := (s.setBit ALLOC_ZONE_IN t zone.isSome).setBit (ALLOC_THR_STAT t) 1 zone.isSome
  match zone with
  | none => { s with alloc.zoneEdge := eraseKey t s.alloc.zoneEdge }
  | some z =>
    let s := { s with alloc.zoneEdge := insertKey t (s.nearEdge t z ang) s.alloc.zoneEdge }
    if known then s else s.ev 0x0505 t z

/-- The side of a KIND 3 propeller for this cycle (R152). -/
def Dev.latchSide (s : Dev) (t : Nat) : Dev :=
  let old := s.bit (ALLOC_THR_STAT t) 2
  let new := if s.mode = 1 then false else s.nextSide t
  let s := s.setBit (ALLOC_THR_STAT t) 2 new
  if old = new then s else s.ev 0x050A t (bnat new)

/-- The measured angle of a thruster that has one (R147). -/
def Dev.latchAngle (s : Dev) (t : Nat) (ang : Rat) : Dev :=
  let s := ({ s with alloc.ang := setAt s.alloc.ang t ang } : Dev)
  if s.thrKind t = 2 ∨ s.thrKind t = 3 then s.wrPbv (ALLOC_THR_ANG t) ang else s

/-- Latch of tick 8 for one thruster: angle, availability, zone, side (R147, R151, R152). -/
def Dev.latchThr (s : Dev) (t : Nat) : Dev :=
  let k := s.thrKind t
  let sel := bitOf s.alloc.sel t
  let avail := sel && s.ctxState (s.ctxMag t) == 2
  let ang := if k = 2 ∨ k = 3 then s.thrAngle t else 0
  let s := (s.latchAngle t ang).latchZone t ang (s.latchedZone t ang)
  let s := ((s.setBit ALLOC_THR_AVAIL t avail).setBit (ALLOC_THR_STAT t) 0 avail).setBit (ALLOC_THR_STAT t) 3 sel
  if k = 3 then s.latchSide t else s

/-- A constraint on one thruster's forces at one step: a fx + b fy ≤ u, or = u. -/
structure ForceRow where
  a : Rat
  b : Rat
  u : Rat
  eq : Bool := false
  deriving DecidableEq, Repr

/-- A thruster as ALLOC poses it in tick 8 (R147 to R153): bounds of fx and fy at step 1, the bound of each increment, and
the constraints of the two steps. -/
structure ThrPose where
  fx : Rat × Rat := (0, 0)
  fy : Rat × Rat := (0, 0)
  d : Rat := 0
  one : List ForceRow := []
  two : List ForceRow := []
  deriving DecidableEq, Repr

/-- A thruster whose forces are fixed, and their values (R147, R151): a zone fixes them whatever CTX_MAG's state. -/
def Dev.thrFixed (s : Dev) (t : Nat) : Option (Rat × Rat) :=
  let st := s.ctxState (s.ctxMag t)
  if s.bit ALLOC_ZONE_IN t then some (0, 0)
  else if st = 3 then some (s.alloc.f0.getD t (0, 0))
  else if st ≠ 2 then some (0, 0) else none

/-- Static bounds of fx and fy of a free thruster (R146, R148, R150, R152). -/
def Dev.thrBox (s : Dev) (t : Nat) : (Rat × Rat) × (Rat × Rat) :=
  let fmin := s.pbv (THR_FMIN t)
  let fmax := s.pbv (THR_FMAX t)
  if !bitOf s.alloc.sel t then ((0, 0), (0, 0))
  else
    match s.thrKind t with
    | 1 => ((0, 0), (fmin, fmax))
    | 4 => ((fmin, fmax), (0, 0))
    | 2 => ((-fmax, fmax), (-fmax, fmax))
    | _ =>
      if s.bit (ALLOC_THR_STAT t) 2 then ((fmin, 0), (0, 0))
      else
        let c := s.pbv (THR_RUD_K t) * s.pbv (THR_RUD_MAX t)
        ((0, fmax), (-(c * fmax), c * fmax))

/-- The directions from one edge clockwise to another: a force lies clockwise of the first and counterclockwise of the second,
for an arc up to 180° (R150, R159). -/
def arcRows (w : Rat × Rat) : List ForceRow :=
  [{ a := sinDeg w.1, b := -cosDeg w.1, u := 0 }, { a := -sinDeg w.2, b := cosDeg w.2, u := 0 }]

/-- Wedge and chord (R150). -/
def wedgeRows (w : Rat × Rat) (fmax : Rat) : List ForceRow :=
  let m := (w.1 + w.2) / 2
  { a := cosDeg m, b := sinDeg m, u := fmax * cosDeg ((w.2 - w.1) / 2) } :: arcRows w

/-- Bounds as constraints. -/
def boxRows (x : Bool) (b : Rat × Rat) : List ForceRow :=
  let k : Rat := if x then 1 else 0
  [{ a := k, b := 1 - k, u := b.2 }, { a := -k, b := k - 1, u := -b.1 }]

/-- Constraints of the rudder on the ahead side: |fy| ≤ RUD_C fx, or fy tied to fx at a rudder that does not run (R147,
R152). -/
def Dev.rudderRows (s : Dev) (t : Nat) (free : Bool) : List ForceRow :=
  let k := s.pbv (THR_RUD_K t)
  if s.bit (ALLOC_THR_STAT t) 2 then []
  else if free then
    let c := k * s.pbv (THR_RUD_MAX t)
    [{ a := -c, b := 1, u := 0 }, { a := -c, b := -1, u := 0 }]
  else [{ a := -(k * wrapDeg (s.alloc.ang.getD t 0)), b := 1, u := 0, eq := true }]

/-- A zero-width wedge admits no force opposed to its direction: the box on its side (R147, R150; log entry 97). -/
def rayBox (ang fmax : Rat) : (Rat × Rat) × (Rat × Rat) :=
  let f (c : Rat) : Rat × Rat := (if c < 0 then -fmax else 0, if 0 < c then fmax else 0)
  (f (cosDeg ang), f (sinDeg ang))

/-- One thruster of the intact problem (R146 to R153). The second step's static bounds are folded with twice the rate limit
(log entry 97). -/
def Dev.poseThr (s : Dev) (t : Nat) : ThrPose :=
  let k := s.thrKind t
  let f0 := s.alloc.f0.getD t (0, 0)
  let d := satStage1 (s.pbv (THR_FRATE t) / 50)
  match s.thrFixed t with
  | some f => { fx := (f.1, f.1), fy := (f.2, f.2) }
  | none =>
    let angRun := s.ctxState (s.ctxAng t) == 2
    let ang := s.alloc.ang.getD t 0
    let fmax := s.pbv (THR_FMAX t)
    let sel := bitOf s.alloc.sel t
    let box := if k = 2 ∧ sel ∧ !angRun then rayBox ang fmax else s.thrBox t
    let p : ThrPose := { fx := foldBounds box.1.1 box.1.2 f0.1 d, fy := foldBounds box.2.1 box.2.2 f0.2 d, d := d }
    let twoX := boxRows true (foldBounds box.1.1 box.1.2 f0.1 (2 * d))
    let twoY := boxRows false (foldBounds box.2.1 box.2.2 f0.2 (2 * d))
    if !sel then { p with two := (if hasFx k then twoX else []) ++ (if hasFy k then twoY else []) }
    else
      match k with
      | 1 => { p with two := twoY }
      | 4 => { p with two := twoX }
      | 2 => { p with one := wedgeRows (s.wedge t 1 ang angRun) fmax, two := wedgeRows (s.wedge t 2 ang angRun) fmax }
      | _ =>
        let r := s.rudderRows t angRun
        { p with one := r, two := r ++ twoX ++ (if s.bit (ALLOC_THR_STAT t) 2 then twoY else []) }

/-- Variables of the declared thrusters at one step: thruster and 0 for fx, 1 for fy. -/
def Dev.vars (s : Dev) : List (Nat × Nat) :=
  (s.thrusters.map fun t =>
    let k := s.thrKind t
    (if hasFx k then [(t, 0)] else []) ++ (if hasFy k then [(t, 1)] else [])).flatten

/-- General constraints of the intact problem (R154). -/
def Dev.intactRows (s : Dev) : Nat :=
  (s.thrusters.map fun t => if s.thrKind t = 1 ∨ s.thrKind t = 4 then 2 else 6).sum

/-- General constraints of a consequence problem (R163 item 9). -/
def Dev.cqRows (s : Dev) : Nat :=
  (s.thrusters.map fun t => if s.thrKind t = 2 then s.fld ALLOC_CFG 12 8 else if s.thrKind t = 3 then 2 else 0).sum

/-- Column of B for a variable (R146). -/
def Dev.bCol (s : Dev) (v : Nat × Nat) : List Rat :=
  if v.2 = 0 then [1, 0, -(s.pbv (THR_POS_Y v.1))] else [0, 1, s.pbv (THR_POS_X v.1)]

/-- BᵀQB + W of one step, between two variables (R149). -/
def Dev.costAt (s : Dev) (v w : Nat × Nat) : Rat :=
  ((List.zipWith (· * ·) (s.bCol v) (s.bCol w)).zipIdx.map fun p => s.pbv (ALLOC_Q p.2) * p.1).sum
    + (if v = w then s.pbv (ALLOC_THR_W v.1) else 0)

/-- BᵀQτ of a variable (R149). -/
def Dev.gainAt (s : Dev) (v : Nat × Nat) : Rat :=
  let t := s.alloc.tau.getD (0, 0, 0)
  ((List.zipWith (· * ·) (s.bCol v) [t.1, t.2.1, t.2.2]).zipIdx.map fun p => s.pbv (ALLOC_Q p.2) * p.1).sum

/-- A vector over variables or rows as the rows of a problem. -/
def vecRows (region sel : Nat) (xs : List Rat) : Problem :=
  (xs.zipIdx.filter fun p => p.1 != 0).map fun p => (laneKey region sel p.2, [(0, p.1)])

/-- H of a problem over so many steps, lower triangle: the steps' costs summed, with f2 = f1 + d (R149). -/
def Dev.hRows (s : Dev) (vs : List (Nat × Nat)) (steps : Nat) : Problem :=
  let n := vs.length
  let k (i j : Nat) : Rat := if steps = 2 ∧ i < n ∧ j < n then 4 else 2
  let at_ (i : Nat) : Nat × Nat := vs.getD (i % max 1 n) (0, 0)
  (List.range (steps * n)).map fun i =>
    (laneKey 1 0 i, nonzero ((List.range (i + 1)).map fun j => (j, k i j * s.costAt (at_ i) (at_ j))))

/-- Constraints as rows of a problem from a row number on: the coefficients on the two forces of a thruster, at the second step
on the increments too (R149, R154). -/
def constraintRows (vs : List (Nat × Nat)) (t r0 : Nat) (rows : List (ForceRow × Bool)) : Problem :=
  let n := vs.length
  rows.zipIdx.flatMap fun p =>
    let i := r0 + p.2
    let q := p.1.1
    let put (k : Nat) (c : Rat) : List (Nat × Rat) := match vs.idxOf? (t, k) with
      | none => []
      | some j => (j, c) :: if p.1.2 then [(n + j, c)] else []
    [(laneKey 0 0 i, nonzero (sortBy (fun a b => decide (a.1 ≤ b.1)) (put 0 q.a ++ put 1 q.b)))]
      ++ (if q.u = 0 then [] else [(laneKey 2 0 i, [(0, q.u)])]) ++ (if q.eq then [(laneKey 2 1 i, [(0, 1)])] else [])

/-- Rows that a thruster takes up in the intact problem (R154). -/
def Dev.thrRows (s : Dev) (t : Nat) : Nat := if s.thrKind t = 1 ∨ s.thrKind t = 4 then 2 else 6

/-- Constraints of every thruster, each from the first row of its own. -/
def placeRows (vs : List (Nat × Nat)) (size : Nat → Nat) (rows : Nat → List (ForceRow × Bool)) : List Nat → Nat → Problem
  | [], _ => []
  | t :: ts, r => constraintRows vs t r (rows t) ++ placeRows vs size rows ts (r + size t)

/-- The intact problem (R149 to R154). -/
def Dev.intactProblem (s : Dev) : Problem :=
  let vs := s.vars
  let pose := s.thrusters.map fun t => (t, s.poseThr t)
  let of (t : Nat) : ThrPose := (lookupKey t pose).getD {}
  let bound (v : Nat × Nat) : Rat × Rat := if v.2 = 0 then (of v.1).fx else (of v.1).fy
  let g := vs.map s.gainAt
  s.hRows vs 2 ++ vecRows 3 0 ((g.map fun x => -4 * x) ++ g.map fun x => -2 * x)
    ++ vecRows 3 1 ((vs.map fun v => (bound v).1) ++ vs.map fun v => -(of v.1).d)
    ++ vecRows 3 2 ((vs.map fun v => (bound v).2) ++ vs.map fun v => (of v.1).d)
    ++ placeRows vs s.thrRows (fun t => (of t).one.map (·, false) ++ (of t).two.map (·, true)) s.thrusters 0

/-- The zone-free arc that holds the measured angle, or the half of it that does where it exceeds 180° (R159). -/
def Dev.freeArc (s : Dev) (t : Nat) (ang : Rat) : Option (Rat × Rat) :=
  let zs := List.range (min 2 (s.fld (ALLOC_THR_CFG t) 21 20))
  if zs = [] then none
  else
    let left := zs.foldl (fun w z => min w (mod360 (ang - s.pbv (THR_ZONE t z 1)))) 360
    let right := zs.foldl (fun w z => min w (mod360 (s.pbv (THR_ZONE t z 0) - ang))) 360
    let len := left + right
    let lo := ang - left
    if len ≤ 180 then some (lo, lo + len)
    else if left < len / 2 then some (lo, lo + len / 2)
    else some (lo + len / 2, lo + len)

/-- The sides of the polygon that meet an arc, and the arc's edges (R159). -/
def polyRows (p : Nat) (fmax : Rat) (arc : Option (Rat × Rat)) : List ForceRow :=
  let w : Rat := 360 / p
  let side (k : Nat) : ForceRow :=
    { a := cosDeg (w * k + w / 2), b := sinDeg (w * k + w / 2), u := fmax * cosDeg (w / 2) }
  match arc with
  | none => (List.range p).map side
  | some a =>
    arcRows a ++ ((List.range p).filter fun (k : Nat) =>
      decide (mod360 (w * k - a.1) < a.2 - a.1) || decide (mod360 (a.1 - w * k) < w)).map side

/-- Constraints of a thruster in a consequence problem (R159). -/
def Dev.cqThrRows (s : Dev) (t : Nat) : List ForceRow :=
  if (s.thrFixed t).isSome || !bitOf s.alloc.sel t then []
  else
    match s.thrKind t with
    | 2 => polyRows (s.fld ALLOC_CFG 12 8) (s.pbv (THR_FMAX t)) (s.freeArc t (s.alloc.ang.getD t 0))
    | 3 => s.rudderRows t true
    | _ => []

/-- The consequence base problem (R159). -/
def Dev.cqProblem (s : Dev) : Problem :=
  let vs := s.vars
  let box (t : Nat) : (Rat × Rat) × (Rat × Rat) := match s.thrFixed t with
    | some f => ((f.1, f.1), (f.2, f.2))
    | none => s.thrBox t
  let bound (v : Nat × Nat) : Rat × Rat := if v.2 = 0 then (box v.1).1 else (box v.1).2
  let size (t : Nat) : Nat := if s.thrKind t = 2 then s.fld ALLOC_CFG 12 8 else if s.thrKind t = 3 then 2 else 0
  s.hRows vs 1 ++ vecRows 3 0 (vs.map fun v => -2 * s.gainAt v) ++ vecRows 3 1 (vs.map fun v => (bound v).1)
    ++ vecRows 3 2 (vs.map fun v => (bound v).2)
    ++ placeRows vs size (fun t => (s.cqThrRows t).map (·, false)) s.thrusters 0

/-- Members of a thrust group and the forces they are fixed at (R158). -/
def Dev.poseGroup (s : Dev) (g : Nat) : CqPose :=
  let frozen := s.bit (ALLOC_GRP_CFG g) 2
  { grp := g,
    fixed := (maskBits 24 (s.fld (ALLOC_GRP_MASK g) 23 0)).map fun t =>
      (t, if frozen then s.alloc.f0.getD t (0, 0) else (0, 0)) }

/-- Assignment of the thrust groups to the pool lanes (R172). -/
def Dev.assignGroups (s : Dev) : Dev :=
  let pool := s.roleLanes 3
  let gs := s.thrustGroups.zipIdx
  { s with alloc.assign := pool.zipIdx.map fun l =>
      (l.1, (gs.filter fun g => g.2 % pool.length == l.2).map Prod.fst) }

/-- The members' bounds of a group reach a lane as region 4 entries, refused by an Empty lane (R179, R195). -/
def Dev.memberBounds (s : Dev) (l g : Nat) : Dev :=
  let fixed := ((s.alloc.cqPosed.find? fun c => c.grp == g).map CqPose.fixed).getD []
  let es := s.vars.zipIdx.filterMap fun v =>
    (lookupKey v.1.1 fixed).map fun f => (v.2, if v.1.2 = 0 then f.1 else f.2)
  if s.laneState l = 1 then
    s.setLane l fun x => { x with
      ovr := es.foldl (fun o e => insertKey (512 + e.1) (gRound e.2) (insertKey (256 + e.1) (gRound e.2) o)) x.ovr }
  else s.cntSat GROVE_REFUSED 31 0 (2 * es.length)

/-- A pool lane takes its groups in turn: the next whose release starts (R172, R179, R195). -/
def Dev.startGroups (s : Dev) (l : Nat) (gs : List Nat) : Dev :=
  match gs with
  | [] => s.setLane l fun x => { x with grp := none, work := [] }
  | g :: gs =>
    let s := s.setLane l fun x => { x with grp := some g, work := gs }
    let s := ((s.memberBounds l g).groveStart l false 0).1
    if s.laneState l = 2 then s else s.startGroups l gs

/-- Next group of a pool lane. -/
def Dev.nextGroup (s : Dev) (l : Nat) : Dev := s.startGroups l (s.lane l).work

/-- Tick 8: latches, intact and consequence problems posed and released (R147 to R159, R172). -/
def Dev.allocPose (s : Dev) (i : TickIn) : Dev :=
  if s.allocState = 0 then s
  else
    let s := { s.each s.thrusters Dev.latchThr with alloc.loaded := [] }
    if i.allocMis = some 2 then ({ s with alloc.tau := none } : Dev).allocMismatch 2
    else if s.alloc.tau = none then s
    else
      let s := { s with alloc.cqPosed := s.thrustGroups.map s.poseGroup }
      let n := s.vars.length
      let s := s.roleRelease 2 4 false (2 * n) s.intactRows (s.fld GROVE_ITER 9 0) s.intactProblem false 0
      let s := { s with alloc.released := true }
      if s.alloc.assign = [] then s.each s.thrustGroups fun d _ => d.noLane
      else
        let p := s.cqProblem
        s.each (s.alloc.assign.filter fun a => a.2 != []) fun d a =>
          ((d.producerSend a.1 4 false n s.cqRows (s.fld GROVE_ITER 25 16) p).setLane a.1 fun x => { x with work := a.2 }).nextGroup a.1

/-- Forces per thruster from the values of one step in the order of `vars`. -/
def forcesOf (vars : List (Nat × Nat)) (x : List Rat) : List (Rat × Rat) :=
  (List.range 24).map fun t =>
    let get (k : Nat) : Rat := match (vars.zipIdx.find? fun v => v.1 = (t, k)) with
      | none => 0
      | some v => x.getD v.2 0
    (get 0, get 1)

/-- B f: surge, sway and yaw of forces (R146). -/
def Dev.bForce (s : Dev) (f : List (Rat × Rat)) : Rat × Rat × Rat :=
  let ts := s.thrusters
  let fx := (ts.map fun t => (f.getD t (0, 0)).1).sum
  let fy := (ts.map fun t => (f.getD t (0, 0)).2).sum
  let n := (ts.map fun t => s.pbv (THR_POS_X t) * (f.getD t (0, 0)).2 - s.pbv (THR_POS_Y t) * (f.getD t (0, 0)).1).sum
  (fx, fy, n)

/-- τ - B f. -/
def Dev.shortfall (s : Dev) (f : List (Rat × Rat)) : Rat × Rat × Rat :=
  let t := s.alloc.tau.getD (0, 0, 0)
  let b := s.bForce f
  (t.1 - b.1, t.2.1 - b.2.1, t.2.2 - b.2.2)

/-- A pool lane has stopped: its group's answer is kept until tick 64, and the next group starts (R161, R172, R190). -/
def Dev.cqStopped (s : Dev) (l : Nat) (ok : Bool) : Dev :=
  match (s.lane l).grp with
  | none => s
  | some g =>
    let s := if ok then
        { s with alloc.cqDone := insertKey g (s.shortfall (forcesOf s.vars (s.laneX l))) s.alloc.cqDone }
      else s
    s.nextGroup l

/-- A map of 17 breakpoints (R156). -/
def Dev.thrMap (s : Dev) (t : Nat) (f : Rat) : Rat :=
  let fmin := if s.thrKind t = 2 then 0 else s.pbv (THR_FMIN t)
  let fmax := s.pbv (THR_FMAX t)
  let x := (f - fmin) * 16 / (fmax - fmin)
  let v := interp (fun i => s.pbv (ALLOC_MAP t i)) 16 x
  if 0 < x ∧ x < 16 then satStage1 v else v

/-- Targets of a thruster from its step-1 force (R151, R155). -/
def Dev.thrTargets (s : Dev) (f : List (Rat × Rat)) (t : Nat) : List (Nat × Rat) :=
  let v := f.getD t (0, 0)
  let m := s.ctxMag t
  let a := s.ctxAng t
  let ofs := s.pbv (THR_ANG_OFS t)
  match s.thrKind t with
  | 1 => [(m, s.thrMap t v.2)]
  | 4 => [(m, s.thrMap t v.1)]
  | 2 =>
    let dir := match lookupKey t s.alloc.zoneEdge with
      | some e => e
      | none => if v.1 = 0 ∧ v.2 = 0 then s.alloc.ang.getD t 0 else satStage1 (dirDeg v.1 v.2)
    [(m, s.thrMap t (satStage1 (magOf v.1 v.2))), (a, satStage1 (mod360 (dir + ofs)))]
  | _ =>
    let astern := s.bit (ALLOC_THR_STAT t) 2
    let rud : Rat := if astern then 0 else if v.1 ≤ 0 then 0 else satStage1 (v.2 / (s.pbv (THR_RUD_K t) * v.1))
    [(m, s.thrMap t v.1), (a, rud)]

/-- Targets go to the generators whose source is the allocation (R99). -/
def Dev.writeTargets (s : Dev) : Dev :=
  s.each s.alloc.targets fun d p => d.setGen p.1 fun g => { g with allocTgt := some p.2 }

/-- The intact shortfall of forces (R149, R168). -/
def Dev.showShort (s : Dev) (f : List (Rat × Rat)) : Dev :=
  let sf := s.shortfall f
  ((s.wrPbv (ALLOC_SHORT 0) sf.1).wrPbv (ALLOC_SHORT 1) sf.2.1).wrPbv (ALLOC_SHORT 2) sf.2.2

/-- Step-1 forces of the intact lane's published result. -/
def Dev.intactForces (s : Dev) : List (Rat × Rat) := forcesOf s.vars (s.laneX ((s.roleLane 2).getD 0))

/-- A valid allocation is applied: forces, shortfall, targets (R149, R152, R155). -/
def Dev.applyAlloc (s : Dev) : Dev :=
  let l := (s.roleLane 2).getD 0
  let x := s.laneX l
  let bm := ((s.lane l).result.map SolveOut.bmul).getD []
  let f := s.intactForces
  let zb := (List.range 24).map fun t => s.thrKind t == 3 &&
    (match (s.vars.zipIdx.find? fun v => v.1 = (t, 0)) with
      | none => false
      | some v => decide (x.getD v.2 0 = 0) && (bm.getD v.2 { exp := 0, mant := 0 }).mant != 0)
  let s := s.showShort f
  let s := { s with alloc.f0 := f, alloc.zeroBound := zb, alloc.validNow := true }
  let s := s.each s.thrusters fun d t =>
    let v := f.getD t (0, 0)
    (d.wrPbv (ALLOC_THR_FX t) v.1).wrPbv (ALLOC_THR_FY t) v.2
  { s with alloc.targets := (s.thrusters.map (s.thrTargets f)).flatten }.writeTargets

/-- Tick 21: the intact allocation is taken, targets are written or held (R144, R155, R157). -/
def Dev.allocApply (s : Dev) (i : TickIn) : Dev :=
  let st := s.allocState
  if st = 0 then s
  else
    let mis := decide (i.allocMis = some 3)
    let s := if mis then s.allocMismatch 3 else s
    let ok := s.alloc.released && s.roleOk 2 && !mis && s.alloc.tau.isSome
    let hold := s.fld ALLOC_STAT 7 4
    let setHold (d : Dev) (n : Nat) : Dev := d.setFld ALLOC_STAT 7 4 n
    if st = 1 then if ok then { s.showShort s.intactForces with alloc.validNow := true } else s
    else if ok then
      match st with
      | 5 => if s.estValid then (setHold ((s.allocWithdraw.setAllocState 2).ev 0x0504 0 0) 0).applyAlloc else s
      | 4 => setHold s.applyAlloc 0
      | _ => (setHold s.applyAlloc 0).setAllocState 2
    else if st = 5 then s
    else if hold < s.fld ALLOC_CFG 3 0 then
      let s := (setHold s (hold + 1)).ev 0x0502 0 (hold + 1)
      let s := if st = 4 then s else s.setAllocState 3
      s.writeTargets
    else ((s.setAllocState 5).allocRequest).ev 0x0503 0 1

/-- References that would remain accepted without a group's members (R160). -/
def Dev.refsLeft (s : Dev) (g : Nat) : Nat :=
  ((List.range 7).filter fun n => !s.bit (ALLOC_GRP_MASK g) n && (s.ref n).admitted && !(s.ref n).rejected).length

/-- Largest |shortfall| / SF_LIM of a group over its axes (R161). -/
def Dev.grpWeight (s : Dev) (g : Nat) : Rat :=
  maxMag ((List.range 3).map fun a => s.pbv (ALLOC_GRP_S g a) / s.pbv (ALLOC_SF_LIM a))

/-- One thrust group at tick 64 (R161, R162). -/
def Dev.thrustGroupReport (s : Dev) (g : Nat) : Dev :=
  match lookupKey g s.alloc.cqDone with
  | some v =>
    let s := ((s.wrPbv (ALLOC_GRP_S g 0) v.1).wrPbv (ALLOC_GRP_S g 1) v.2.1).wrPbv (ALLOC_GRP_S g 2) v.2.2
    let ovr (a : Nat) (x : Rat) : Bool := decide (s.pbv (ALLOC_SF_LIM a) < absRat x)
    let bits := bnat (ovr 0 v.1) + 2 * bnat (ovr 1 v.2.1) + 4 * bnat (ovr 2 v.2.2)
    let was := s.bit (ALLOC_GRP_STAT g) 0
    let s := ((s.setBit (ALLOC_GRP_STAT g) 0 (bits != 0)).setBit (ALLOC_GRP_STAT g) 1 false).setFld (ALLOC_GRP_STAT g) 15 8 0
    let s := { s with alloc.cqEver := if s.alloc.cqEver.contains g then s.alloc.cqEver else g :: s.alloc.cqEver }
    if bits ≠ 0 ∧ !was then s.ev 0x0507 g bits else if bits = 0 ∧ was then s.ev 0x0508 g 0 else s
  | none =>
    let s := s.setBit (ALLOC_GRP_STAT g) 1 true
    if s.alloc.cqEver.contains g then s.cntSat (ALLOC_GRP_STAT g) 15 8 1
    else (((s.setFld (ALLOC_GRP_STAT g) 15 8 (satAdd 8 (s.fld (ALLOC_GRP_STAT g) 15 8) 1)).wr (ALLOC_GRP_S g 0) 0).wr
      (ALLOC_GRP_S g 1) 0).wr (ALLOC_GRP_S g 2) 0

/-- One reference-set group at tick 64 (R160). -/
def Dev.refGroupReport (s : Dev) (g : Nat) : Dev :=
  let n := s.refsLeft g
  (s.setFld (ALLOC_GRP_STAT g) 19 16 n).setBit (ALLOC_GRP_STAT g) 0 (decide (n < s.fld ALLOC_CFG 19 16))

/-- WORST (R161). -/
def Dev.worstGroup (s : Dev) : Nat :=
  match s.thrustGroups with
  | [] => 0xFF
  | g :: gs => gs.foldl (fun b k => if s.grpWeight b < s.grpWeight k then k else b) g

/-- The shortfall record (R166). -/
def Dev.shortRecord (s : Dev) : List Byte :=
  let gs := s.groups
  [0x51, 1] ++ leBytes 1 gs.length ++ leBytes 1 (s.fld ALLOC_STAT 31 24) ++ leBytes 4 s.cycles
    ++ leBytes 4 (stamp32 s.boundaryNs).toNat ++ leBytes 4 0
    ++ (gs.map fun g =>
      let k := s.grpKind g
      let st := (s.rd (ALLOC_GRP_STAT g)).toNat
      let sf (a : Nat) : List Byte := if k = 3 then leBytes 4 0 else sBytes 4 (roundRat (s.pbv (ALLOC_GRP_S g a) * 100))
      leBytes 1 g ++ leBytes 1 (bitsOf st 1 0 + 4 * k) ++ leBytes 1 (bitsOf st 15 8)
        ++ leBytes 1 (if k = 3 then bitsOf st 19 16 else 0) ++ sf 0 ++ sf 1 ++ sf 2).flatten

/-- Tick 64: shortfalls of every group (R160 to R162, R166). -/
def Dev.allocReport (s : Dev) : Dev :=
  if s.allocState = 0 then s
  else
    let s := s.each s.groups fun d g => if d.grpKind g = 3 then d.refGroupReport g else d.thrustGroupReport g
    let old := s.fld ALLOC_STAT 31 24
    let new := s.worstGroup
    let s := s.setFld ALLOC_STAT 31 24 new
    let s := if old = new then s else s.ev 0x0509 new old
    { s with alloc.record := s.shortRecord }

/-- The allocation record of tick 76 (R165). -/
def Dev.allocRecord (s : Dev) : List Byte :=
  let st := (s.rd ALLOC_STAT).toNat
  let f32 (a : Nat) : List Byte := sBytes 4 (roundRat (s.pbv a * 100))
  [0x50, 1] ++ leBytes 2 (bitsOf st 2 0 + 8 * bnat s.alloc.validNow + 16 * bnat (bitOf st 3)) ++ leBytes 4 s.cycles
    ++ leBytes 4 (stamp32 s.boundaryNs).toNat ++ f32 (ALLOC_TAU 0) ++ f32 (ALLOC_TAU 1) ++ f32 (ALLOC_TAU 2)
    ++ f32 (ALLOC_SHORT 0) ++ f32 (ALLOC_SHORT 1) ++ f32 (ALLOC_SHORT 2) ++ leBytes 1 (bitsOf st 7 4)
    ++ List.replicate 11 0
    ++ ((List.range 24).map fun t =>
      let v := if s.thrKind t = 0 then (0, 0) else s.alloc.f0.getD t (0, 0)
      sBytes 2 (roundRat (v.1 * 10)) ++ sBytes 2 (roundRat (v.2 * 10))).flatten

/-- Mode enters Arming (R152, R157, R162). -/
def Dev.allocArming (s : Dev) : Dev :=
  let s := (s.setAllocState 1).setFld ALLOC_STAT 7 4 0
  let s := { s with alloc.f0 := List.replicate 24 (0, 0), alloc.zeroBound := List.replicate 24 false,
                    alloc.cqEver := [], alloc.targets := [] }
  let s := s.each (List.range 24) fun d t =>
    if d.bit (ALLOC_THR_STAT t) 2 then (d.setBit (ALLOC_THR_STAT t) 2 false).ev 0x050A t 0 else d
  s.each s.thrustGroups fun d g =>
    (((d.setFld (ALLOC_GRP_STAT g) 15 0 2).wr (ALLOC_GRP_S g 0) 0).wr (ALLOC_GRP_S g 1) 0).wr (ALLOC_GRP_S g 2) 0

/-- Mode enters Operate (R157): Solving becomes Applying, f0 is zero. -/
def Dev.allocOperate (s : Dev) : Dev :=
  let s := if s.allocState = 1 then s.setAllocState 2 else s
  { s with alloc.f0 := List.replicate 24 (0, 0) }

/-- Mode enters Watch (R157). -/
def Dev.allocWatch (s : Dev) : Dev := s.allocWithdraw.setAllocState 0

/-- A thrust group that no problem has answered yet: stale, with zero shortfall (R162). -/
def Dev.groupFresh (s : Dev) (g : Nat) : Dev :=
  let s := (((s.setFld (ALLOC_GRP_STAT g) 19 0 2).wr (ALLOC_GRP_S g 0) 0).wr (ALLOC_GRP_S g 1) 0).wr (ALLOC_GRP_S g 2) 0
  { s with alloc.cqEver := s.alloc.cqEver.filter fun k => k != g }

/-- What a commit leaves of the declarations before it: the counts, and nothing of a thruster or group that it makes absent
or declares anew (R162, R168, R169). -/
def Dev.allocCommit (s old : Dev) : Dev :=
  let s := (s.setFld ALLOC_STAT 12 8 s.thrusters.length).setFld ALLOC_STAT 21 16 s.groups.length
  let s := s.each ((List.range 24).filter fun t => old.thrusters.contains t && !s.thrusters.contains t) fun d t =>
    let d := ((d.setBit ALLOC_THR_AVAIL t false).setBit ALLOC_ZONE_IN t false).wr (ALLOC_THR_STAT t) 0
    let d := ((d.wr (ALLOC_THR_FX t) 0).wr (ALLOC_THR_FY t) 0).wr (ALLOC_THR_ANG t) 0
    { d with alloc.f0 := setAt d.alloc.f0 t (0, 0), alloc.zoneEdge := eraseKey t d.alloc.zoneEdge }
  let thrust (d : Dev) (g : Nat) : Bool := d.groups.contains g && d.grpKind g != 3
  s.each (List.range 63) fun d g =>
    if thrust s g && !thrust old g then d.groupFresh g
    else if (!s.groups.contains g && old.groups.contains g) || (thrust old g && !thrust s g) then
      (d.groupFresh g).wr (ALLOC_GRP_STAT g) 0
    else d

/-- The thruster selection takes effect at the boundary (R148). -/
def Dev.selectBoundary (s : Dev) : Dev :=
  match s.alloc.selPending with
  | none => s
  | some w =>
    let m := bitsOf w.toNat 23 0
    let old := s.alloc.sel
    let s := { s with alloc.selPending := none, alloc.sel := m }
    if old = m then s else s.ev 0x0506 0 m

end Sys2Proof.Machine
end

