-- ==== Sys2Proof/Machine/Gnss.lean ====
section
/-! DEFINITION. Satellite baseband, local time, time pulse and holdover (chapter 07; R294, R296 for the source). -/

namespace Sys2Proof.Machine

/-- GNSS_STAT.TSTATE: 0 NoTime, 1 Locked, 2 Holdover, 3 Qualifying (R225). -/
def Dev.tstate (s : Dev) : Nat := s.fld GNSS_STAT 2 0

def Dev.setTstate (s : Dev) (n : Nat) : Dev :=
  if s.tstate = n then s else (s.setFld GNSS_STAT 2 0 n).raise 0x48

/-- NET_TIME_STAT.SOURCE: 0 none, 1 baseband, 2 PTP (R310). -/
def Dev.timeSource (s : Dev) : Nat := s.fld NET_TIME_STAT 1 0

/-- clockClass of the device's own clock (R299); 248 without time. -/
def Dev.ownClass (s : Dev) : Nat :=
  if s.tstate = 0 then 248 else if s.tstate = 1 then 6
  else if (s.rd GNSS_TERR).toNat ≤ 1000 * s.gnss.set.warn.toNat then 7 else 52

/-- clockAccuracy of the device's own clock (R299); 0xFE without time. -/
def Dev.ownAcc (s : Dev) : Nat := if s.tstate = 0 then 0xFE else (Config.clockAccuracy (s.rd GNSS_TERR).toNat).toNat

/-- clockIdentity from the MAC address, with FF FE between its halves (log entry 16). -/
def Dev.ownId (s : Dev) : Nat :=
  let hi := (s.rd NET_MAC_HI).toNat
  let lo := (s.rd NET_MAC_LO).toNat
  let b (w k : Nat) : Nat := bitsOf w (8 * k + 7) (8 * k)
  beNat ([b hi 0, b hi 1, b lo 0, 0xFF, 0xFE, b lo 1, b lo 2, b lo 3].map (BitVec.ofNat 8))

/-- Data sets compared field by field; the lower wins (R294). -/
def lexLt : List Nat → List Nat → Bool
  | a :: as, b :: bs => decide (a < b) || (a == b && lexLt as bs)
  | _, _ => false

/-- Data set of a foreign Announce. -/
def annSet (a : AnnounceIn) : List Nat :=
  [a.prio1.toNat, a.cls.toNat, a.acc.toNat, a.variance.toNat, a.prio2.toNat, a.gm.toNat]

/-- The device's own data set; its variance is not given by the spec (log entry 16). -/
def Dev.ownSet (s : Dev) : List Nat :=
  let w := s.net.tsrc.toNat
  [bitsOf w 11 4, s.ownClass, s.ownAcc, 0xFFFF, bitsOf w 19 12, s.ownId]

/-- SEL in force; 3 acts as 0 (R310). -/
def Dev.tsel (s : Dev) : Nat := bitsOf s.net.tsrc.toNat 1 0 % 3

/-- The device wins the best master clock algorithm (R294). -/
def Dev.deviceWins (s : Dev) : Bool :=
  bitOf s.net.tsrc.toNat 2 && (match s.net.best with
    | none => true
    | some a => lexLt s.ownSet (annSet a))

/-- The source that R294 selects: 1 baseband, 2 PTP, 0 none. -/
def Dev.wantedSource (s : Dev) : Nat :=
  match s.tsel with
  | 1 => 1
  | 2 => 2
  | _ => if s.deviceWins then 1 else if s.net.best.isSome then 2 else 0

/-- The time registers that follow local time (R225). -/
def Dev.showClock (s : Dev) : Dev :=
  (s.wr GNSS_PHASE_REM (clamp32 (roundRat s.clk.phaseRem))).wr GNSS_FREQ_CORR (clamp32 (roundRat s.clk.freqCorr))

/-- Corrections are frozen in Holdover and Qualifying of the source (R216, R295). -/
def Dev.clockFrozen (s : Dev) : Bool :=
  (s.timeSource == 1 && (s.tstate == 2 || s.tstate == 3)) || (s.timeSource == 2 && s.bit NET_TIME_STAT 3)

/-- The return slew has removed the whole error: SLEWING clears and event 0x0705 gives its whole seconds (R218). -/
def Dev.slewEnd (s : Dev) : Dev :=
  let run := s.clk.slewRun
  let s := ({ s with clk.slewRun := 0 } : Dev).setBit GNSS_STAT 4 false
  s.ev 0x0705 0 (run / 1000000000).floor.toNat

/-- Time in ns that the return slew of R218 needs for an error in ns. -/
def slewNs (rem : Rat) : Rat := absRat rem * 20000000

/-- Local time advances by dt ns of CTLCLK (R215, R218). -/
def Dev.advance (s : Dev) (dt : Rat) : Dev :=
  let c := s.clk
  let base := c.localNs + dt * (1 + c.freqCorr / 1000000000000)
  if s.clockFrozen then { s with clk.localNs := base }
  else if c.phaseRem ≠ 0 then
    let used := min dt (slewNs c.phaseRem)
    let k := if 0 < c.phaseRem then used / 20000000 else -(used / 20000000)
    let s := ({ s with clk.localNs := base - k, clk.phaseRem := c.phaseRem - k, clk.slewRun := c.slewRun + used } : Dev)
    let s := s.showClock
    if s.clk.phaseRem = 0 then s.slewEnd else s
  else { s with clk.localNs := base + c.phaseSlew * dt / 1000000000 }

/-- Local time moves by d ns in a step or a setting: the spans that run in local time keep their lengths (R216 to R218,
R375). -/
def Dev.shiftLocal (s : Dev) (d : Rat) : Dev :=
  { s with
    clk.localNs := s.clk.localNs + d, clk.cycleNs := s.clk.cycleNs + d
    gnss.lastValid := s.gnss.lastValid.map (· + d), gnss.lastUsed := s.gnss.lastUsed.map (· + d)
    gnss.ppsUntil := s.gnss.ppsUntil + d
    net.lastSync := s.net.lastSync.map (· + d)
    thkt.heard := s.thkt.heard.map fun p => (p.1, p.2 + d.floor) }

/-- The return rule of R218 for an error in ns; code is the event of a step. -/
def Dev.returnRule (s : Dev) (err : Int) (code : Nat) : Dev :=
  if |err| ≤ 1000000 then
    ({ s with clk.phaseRem := err, clk.slewRun := 0, clk.phaseSlew := 0 }.setBit GNSS_STAT 4 (err != 0)).showClock
  else
    let s := ({ s with clk.stepPending := some (-err, code), clk.phaseRem := 0, clk.slewRun := 0, clk.phaseSlew := 0 } : Dev)
    (s.setBit GNSS_STAT 4 false).showClock

/-- The source changes after local time has been set (R296). -/
def Dev.changeSource (s : Dev) (src : Nat) (ofs : Int) : Dev :=
  (((s.setFld NET_TIME_STAT 1 0 src).raise 0x45).evI 0x0A07 src ofs).returnRule ofs 0x0A08

/-- Local time is first set: its source, validity, class and the PPS pin (R216, R220, R296). -/
def Dev.firstSet (s : Dev) (src : Nat) : Dev :=
  let s := ((s.setFld NET_TIME_STAT 1 0 src).setBit NET_TIME_STAT 2 true).raise 0x45
  { s.setBit PIN_CFGD 2 true with gnss.ppsCfgd := true }.ev 0x0A07 src 0

/-- CLOCK_CLASS, CLOCK_ACC and GM (R299, R310). -/
def Dev.showTime (s : Dev) : Dev :=
  let s := (s.setFld NET_TIME_STAT 15 8 s.ownClass).setFld NET_TIME_STAT 23 16 s.ownAcc
  s.setBit NET_TIME_STAT 4 (s.timeValid && s.tsel != 2 && s.timeSource == 1 && s.deviceWins)

/-- DISC_TAU in force (R225). -/
def Dev.discTau (s : Dev) : Nat := min 10000 (max 10 (bitsOf s.gnss.set.disc.toNat 13 0))

/-- The loop of R215: x in ns, dt and tau in s. -/
def Dev.discipline (s : Dev) (x dt : Rat) (tau : Nat) : Dev :=
  let t : Rat := (tau : Nat)
  let ps := clampRat (-50) 50 (-2 * x / t)
  let df := clampRat (-100 * dt) (100 * dt) (-(x * 1000) * dt / (t * t))
  let fc := clampRat (-50000000) 50000000 (s.clk.freqCorr + df)
  let s := { s with clk.phaseSlew := ps, clk.freqCorr := fc }
  let s := if bitOf s.gnss.set.disc.toNat 14 ∧ s.timeSource = 1 then
      { (s.wrN GNSS_TUNE (Config.tuneWord s.seq.freeCtr).toNat) with
        clk.freqCorr := fc - Config.tuneShare s.seq.freeCtr }.spend
    else s
  s.showClock

/-- Satellites of a solution whose residual passes five times the weighted root mean square (R214). -/
def outliersOf (f : FixSol) : List FixSat :=
  let w := (f.sats.map FixSat.weight).sum
  let q := (f.sats.map fun x => x.weight * x.residual * x.residual).sum
  f.sats.filter fun x => decide (25 * q < x.residual * x.residual * w)

/-- Constellations in a solution (R214). -/
def systemsOf (f : FixSol) : List (Fin 3) := (f.sats.map FixSat.sys).dedup

/-- PDOP_MAX in force; 0 acts as 1 (R225). -/
def Dev.pdopMax (s : Dev) : Nat := max 1 (bitsOf s.gnss.set.cfg.toNat 15 8)

/-- The conditions of a valid fix on the number of satellites and the PDOP (R214). -/
def Dev.solutionOk (s : Dev) (f : FixSol) : Bool :=
  decide (3 + (systemsOf f).length ≤ f.sats.length) && decide (10 * f.pdop ≤ s.pdopMax)

/-- A satellite that the solution may use: tracked on ANT_P in both bands, or with DUALONLY = 0 in one, with the elevation
and the C/N0 of R117, and settled (R209, R214). -/
def Dev.fixUsable (s : Dev) (x : FixSat) : Bool :=
  let (ups, low, _) := bandPairs.getD x.sys ([], 7, 0)
  let ok (sig : Nat) : Bool := match s.findChan sig x.svid false with
    | none => false
    | some c => s.strong c
  let up := ups.any ok
  (up && ok low) || (!bitOf s.gnss.set.cfg.toNat 7 && (up || ok low))

/-- The solution of an epoch where it is valid (R214): the first, or the one without the one satellite that broke it. -/
def Dev.fixOf (s : Dev) (f : FixIn) : Option FixSol :=
  if !(f.first.sats.all s.fixUsable) then none
  else if outliersOf f.first = [] then (if s.solutionOk f.first then some f.first else none)
  else match f.second with
    | none => none
    | some g =>
      let keep := fun (x : FixSat) => !((outliersOf f.first).any fun y => y.sys == x.sys && y.svid == x.svid)
      if (outliersOf f.first).length = 1 ∧ (f.first.sats.filter keep).map (fun x => (x.sys, x.svid)) = g.sats.map (fun x => (x.sys, x.svid))
          ∧ outliersOf g = [] ∧ s.solutionOk g then some g else none

/-- RET_FIXES in force; 0 acts as 1 (R225). -/
def Dev.retFixes (s : Dev) : Nat := max 1 (bitsOf s.gnss.set.cfg.toNat 23 16)

/-- A fix that discipline may use: its drift implies a correction within 50 × 10^-6 (R215). -/
def Dev.driftOk (s : Dev) (f : FixSol) : Bool := decide (absRat (s.clk.freqCorr - f.drift) ≤ 50000000)

/-- Discipline from a valid fix in Locked (R215, R217): TERR_EST is the latest fix's time uncertainty. -/
def Dev.useFix (s : Dev) (f : FixSol) : Dev :=
  let s := s.wrN GNSS_TERR f.tunc
  if !s.driftOk f then
    (s.setBit GNSS_STAT 7 true).evI 0x0709 0 (roundRat ((s.clk.freqCorr - f.drift) / 1000))
  else
    let now := s.clk.cycleNs
    let dt := match s.gnss.lastUsed with
      | none => 0
      | some t => (now - t) / 1000000000
    let s := s.setBit GNSS_STAT 7 false
    let s := { s with gnss.lastUsed := some now, gnss.u0 := f.tunc }
    if s.timeSource = 1 then s.discipline (f.bias - s.clk.phaseRem) dt s.discTau
    else if s.wantedSource = 1 ∧ s.timeValid then s.changeSource 1 f.bias
    else s

/-- Qualification is complete (R216, R218). -/
def Dev.qualify (s : Dev) (f : FixSol) : Dev :=
  let s := s.setTstate 1
  let s := { s with gnss.lastUsed := some s.clk.cycleNs, gnss.u0 := f.tunc, gnss.warned := false }
  let s := (s.wrN GNSS_TERR f.tunc).wrN GNSS_HOLD_S 0
  let s := s.evI 0x0703 (bnat (decide (1000000 < |f.bias|))) f.bias
  if s.timeSource = 1 then s.returnRule f.bias 0x0704 else s

/-- One epoch's fix in the time states (R216). -/
def Dev.fixStep (s : Dev) (fix : Option FixIn) : Dev :=
  let v := fix.bind s.fixOf
  let s := s.setFld GNSS_STAT 15 8 ((v.or (fix.map FixIn.first)).elim 0 fun f => f.sats.length)
  let s := s.setBit GNSS_STAT 3 v.isSome
  let s := { s with gnss.fix := v, gnss.lastFix := v.or s.gnss.lastFix }
  match v with
  | none =>
    match s.tstate with
    | 3 => { s.setTstate 2 with gnss.retCnt := 0 }
    | 0 => { s with gnss.retCnt := 0 }
    | _ => s
  | some f =>
    let s := { s with gnss.lastValid := some s.clk.cycleNs }
    let s := s.autoOrigin f.lat f.lon
    let c := s.gnss.retCnt + 1
    match s.tstate with
    | 0 =>
      let s := { s with gnss.retCnt := c }
      if s.retFixes ≤ c then
        { s with clk.setPending := some (f.bias, f.drift), gnss.u0 := f.tunc, gnss.lastUsed := some s.clk.cycleNs }
      else s
    | 1 => s.useFix f
    | 2 =>
      if s.retFixes = 1 then { s.qualify f with gnss.retCnt := 1 }
      else { s.setTstate 3 with gnss.retCnt := 1 }
    | _ =>
      let s := { s with gnss.retCnt := c }
      if s.retFixes ≤ c then s.qualify f else s

/-- Number of aligned 20 ms periods nearest to the boundary (R20, R30). -/
def Dev.boundaryNo (s : Dev) : Int := roundRat (s.clk.cycleNs / 20000000)

/-- An epoch falls on the present boundary (R30, R211). -/
def Dev.epochDue (s : Dev) : Bool :=
  let p := epochCycles s.gnss.rate
  if s.freeRun then s.cycles % p == 0 else s.boundaryNo % (p : Int) == 0

/-- The boundary is a whole second, or a multiple of 50 cycles free-running (R211). -/
def Dev.wholeSecond (s : Dev) : Bool :=
  if s.freeRun then s.cycles % 50 == 0 else s.boundaryNo % 50 == 0

/-- SPACING of a signal in a pair of register words (R225). -/
def spacing (w : Nat × Nat) (sig : Nat) : Nat :=
  if sig < 4 then bitsOf w.1 (8 * sig + 5) (8 * sig) else bitsOf w.2 (8 * (sig - 4) + 5) (8 * (sig - 4))

/-- NCH_TRACK (R225). -/
def Dev.countTrack (s : Dev) : Dev :=
  s.setFld GNSS_STAT 23 16 (s.gnss.chan.filter fun c => c.assigned && c.codeLock).length

/-- Early and late correlators for a SPACING of k, in chips from prompt: the spacing is (k + 1)/64 chip (R209). -/
def earlyLate (k : Nat) : Rat × Rat := (-((k + 1 : Nat) : Rat) / 128, ((k + 1 : Nat) : Rat) / 128)

/-- Spacing changes take effect at a latch, and channels start to settle (R209). -/
def Dev.latchSpacing (s : Dev) : Dev :=
  let new := ((s.rd GNSS_SPC0).toNat, (s.rd GNSS_SPC1).toNat)
  let old := s.gnss.spc
  { s with
    gnss.spc := new
    gnss.chan := s.gnss.chan.map fun (c : GChan) =>
      if c.assigned && spacing new c.sig != spacing old c.sig then
        let d := earlyLate (spacing new c.sig)
        { c with settling := true, early := d.1, late := d.2 }
      else c }

/-- SYS_EN in force (R225). -/
def Dev.sysEnabled (s : Dev) (sys : Nat) : Bool := bitOf s.gnss.set.cfg.toNat (4 + sys)

/-- Channels with a property are released (R208). -/
def Dev.release (s : Dev) (p : GChan → Bool) : Dev :=
  { s with gnss.chan := s.gnss.chan.map fun (c : GChan) => if c.assigned && p c then {} else c }

/-- Written settings take effect at a latch, and a constellation no longer enabled loses its channels (R208, R209, R225). -/
def Dev.latchSettings (s : Dev) : Dev :=
  let set : GnssSet := {
    cfg := s.rd GNSS_CFG, disc := s.rd GNSS_DISC_CFG, func := s.rd GNSS_HOLD_FUNC, aging := s.rd GNSS_HOLD_AGING,
    warn := s.rd GNSS_HOLD_WARN, udp := s.rd GNSS_TIME_UDP }
  let s := ({ s with gnss.set := set } : Dev).latchSpacing
  s.release fun c => !s.sysEnabled (sigSys c.sig)

/-- A satellite's elevation changes; one that sets below 0° releases its channels (R208). -/
def Dev.moveSat (s : Dev) (x : SkySat) : Dev :=
  let rest := s.gnss.sky.filter fun y => !(y.sys == x.sys && y.svid == x.svid)
  if x.elev < 0 then
    ({ s with gnss.sky := rest } : Dev).release fun c => sigSys c.sig == x.sys.val && c.svid == x.svid
  else { s with gnss.sky := rest ++ [x] }

/-- Values of the channels at a latch (R212, R213). -/
def Dev.latchChan (s : Dev) (m : ChanMeas) : Dev :=
  { s with gnss.chan := modAt s.gnss.chan m.chan fun (c : GChan) =>
      if c.assigned && c.codeLock then
        { c with cn0 := m.cn0, pr := m.pr, cp := m.cp, dop := m.dop, codePh := m.codePh }
      else c }

/-- Entry of a measurement record (R213). -/
def Dev.chanEntry (s : Dev) (k : Nat) : List Byte :=
  let c := s.gnss.chan.getD k {}
  let lock := if c.carrLock then min 65535 ((s.seq.cyc - c.lockAt) / 312500000) else 0
  leBytes 1 k ++ leBytes 1 (bnat c.antS + 2 * c.sig) ++ leBytes 1 c.svid
    ++ leBytes 1 (bnat c.codeLock + 2 * bnat c.carrLock + 4 * bnat c.halfOk + 8 * bnat c.lol + 16 * bnat c.settling)
    ++ leBytes 2 c.cn0.toNat ++ leBytes 2 lock ++ leBytes 8 c.pr.toNat ++ leBytes 8 c.cp.toNat ++ leBytes 4 c.dop.toNat
    ++ leBytes 4 c.codePh.toNat

/-- Measurement record of a latch (R213); no fix is solved at a mid latch, whose CLK_BIAS is 0 (R211). -/
def Dev.measRecord (s : Dev) (mid : Bool) : List Byte :=
  let ks := (List.range 192).filter fun k =>
    let c := s.gnss.chan.getD k {}
    c.assigned && c.codeLock
  let t := s.tickNs
  let bias := match s.gnss.fix with
    | some f => if mid then 0 else f.bias
    | none => 0
  [0x70, 1] ++ leBytes 1 (bnat mid + 2 * bnat s.freeRun + 4 * s.tstate) ++ leBytes 1 ks.length ++ leBytes 4 s.cycles
    ++ leBytes 4 (stamp32 t).toNat ++ leBytes 6 (t / 1000000000).toNat ++ [0, 0]
    ++ leBytes 4 (clamp32 bias).toNat ++ leBytes 4 (s.rd GNSS_TERR).toNat ++ leBytes 4 0
    ++ (ks.map s.chanEntry).flatten

/-- A latch keeps its record for tick 76 and clears LOL (R213). -/
def Dev.keepRecord (s : Dev) (mid : Bool) : Dev :=
  { s with gnss.records := s.gnss.records ++ [s.measRecord mid]
           gnss.chan := s.gnss.chan.map fun (c : GChan) => { c with lol := false } }

/-- The satellite set's sample for the estimator at an epoch with a valid fix (R129, R214). -/
def Dev.satSample (s : Dev) : Dev :=
  match s.gnss.fix with
  | none => s
  | some f =>
    let p := Config.localPlane (s.rd EST_ORIGIN_LAT).toInt (s.rd EST_ORIGIN_LON).toInt f.lat f.lon
    s.setRef 6 fun r => { r with
      datum := some (0, 0),
      sample := some { ns := s.boundaryNs, north := roundRat (p.1 * 10000), east := roundRat (p.2 * 10000), sigma := 0 } }

/-- TERR_EST and HOLD_S in Holdover and Qualifying (R217). -/
def Dev.holdBound (s : Dev) : Dev :=
  if s.tstate = 2 ∨ s.tstate = 3 then
    let t := match s.gnss.lastUsed with
      | none => 0
      | some u => (s.clk.cycleNs - u) / 1000000000
    let hf : Rat := (s.gnss.set.func.toNat : Nat)
    let ha : Rat := (s.gnss.set.aging.toNat : Nat)
    let b : Rat := (s.gnss.u0 : Nat) + hf * t / 1000 + ha * t * t / (2 * 1000 * 86400)
    (s.wrN GNSS_TERR (min 4294967295 b.ceil.toNat)).wrN GNSS_HOLD_S t.floor.toNat
  else s

/-- Carrier phases and Dopplers of an epoch, for the slip test of the next (R121). -/
def Dev.keepCarrier (s : Dev) : Dev :=
  { s with gnss.chan := s.gnss.chan.map fun (c : GChan) =>
      { c with prevCp := if c.assigned && c.carrLock then some (c.cp, c.dop) else none } }

/-- The measurement epoch at a cycle boundary (R211 to R216). -/
def Dev.epoch (s : Dev) (i : BoundaryIn) : Dev :=
  let s := if s.wholeSecond then { s with gnss.rate := s.fld GNSS_CFG 2 0 } else s
  let s := { s with gnss.epochHere := false, gnss.records := [] }
  let s := s.each i.gains fun d g => d.setFld (GNSS_FE_AGC g.1) 7 0 g.2.toNat
  if s.epochDue then
    let s := { s with gnss.epochHere := true }
    let s := s.latchSettings.each i.sky Dev.moveSat
    let s := (s.each i.meas Dev.latchChan).countTrack
    let s := s.slips.keepCarrier

    let s := (s.fixStep i.fix).satSample
    let s := s.keepRecord false
    if s.gnss.rate = 4 then { s with gnss.midAt := some ((s.cycles + 2) % 2 ^ 32) } else s
  else s

/-- Mid latch at tick 40 of the second cycle after the epoch (R211). -/
def Dev.midLatch (s : Dev) (i : TickIn) : Dev :=
  if s.gnss.midAt = some s.cycles then
    let s := (s.latchSettings.each i.meas Dev.latchChan).countTrack
    { s.keepRecord true with gnss.midAt := none }
  else s

/-- Class of a candidate signal by antenna (R208): L1 C/A is no candidate on ANT_S. -/
def sigClass (sig : Nat) (antS : Bool) : Option Nat :=
  match sig, antS with
  | 0, false => some 4
  | 0, true => none
  | _, false => some 1
  | _, true => some (if sig = 2 ∨ sig = 4 ∨ sig = 6 then 3 else 2)

/-- A signal's rank within R208: class, elevation, constellation and SVID. -/
structure Rank where
  cls : Nat
  elev : Rat
  sys : Nat
  svid : Nat

/-- Rank of a signal; a satellite of unknown elevation ranks at 0°. -/
def Dev.rank (s : Dev) (sig svid : Nat) (antS : Bool) : Rank :=
  { cls := (sigClass sig antS).getD 5, elev := (s.elevation (sigSys sig) svid).getD 0, sys := sigSys sig, svid := svid }

/-- One signal ranks before another (R208). -/
def Rank.before (a b : Rank) : Bool :=
  decide (a.cls < b.cls) || (a.cls == b.cls && (decide (b.elev < a.elev) || (a.elev == b.elev &&
    (decide (a.sys < b.sys) || (a.sys == b.sys && decide (a.svid < b.svid))))))

/-- A channel holds a signal. -/
def GChan.holds (c : GChan) (sig svid : Nat) (antS : Bool) : Bool :=
  c.assigned && c.sig == sig && c.svid == svid && c.antS == antS

/-- A signal qualifies for a channel (R207, R208): its constellation is enabled, its satellite stands above 0°, and on ANT_S
the satellite is held in class 1. -/
def Dev.candidate (s : Dev) (sig svid : Nat) (antS : Bool) : Bool :=
  s.sysEnabled (sigSys sig) && svidInRange (sigSys sig) svid && (sigClass sig antS).isSome
    && (s.elevation (sigSys sig) svid).any (fun e => decide (0 < e))
    && (!antS || s.gnss.chan.any fun c => c.assigned && !c.antS && c.sig != 0 && sigSys c.sig == sigSys sig && c.svid == svid)

/-- A signal may take channel k (R208): a free one, or the lowest-ranked of 192 assigned ones that it ranks before. -/
def Dev.mayTake (s : Dev) (k sig svid : Nat) (antS : Bool) : Bool :=
  let c := s.gnss.chan.getD k {}
  let low := s.rank c.sig c.svid c.antS
  !c.assigned || (s.gnss.chan.all (fun x => x.assigned && !low.before (s.rank x.sig x.svid x.antS))
    && (s.rank sig svid antS).before low)

/-- A channel starts to track a signal that acquisition found at 33 dB-Hz or above (R208, R210); a channel that holds the
signal already only regains code lock, and keeps LOL for its next latch (R213). -/
def Dev.acquired (s : Dev) (k sig svid : Nat) (antS : Bool) (cn0 : BitVec 16) : Dev :=
  let c := s.gnss.chan.getD k {}
  if cn0.toNat < 3300 ∨ !s.candidate sig svid antS then s
  else if c.holds sig svid antS then
    { s with gnss.chan := setAt s.gnss.chan k { c with codeLock := true } }.countTrack
  else if (s.gnss.chan.any fun x => x.holds sig svid antS) ∨ !s.mayTake k sig svid antS then s
  else
    let d := earlyLate (spacing s.gnss.spc sig)
    let c : GChan := {
      assigned := true, sig := sig, svid := svid, antS := antS, codeLock := true, cn0 := cn0, early := d.1, late := d.2 }
    { s with gnss.chan := setAt s.gnss.chan k c }.countTrack

/-- A channel below 24 dB-Hz for more than 1 s drops and returns to acquisition (R210). -/
def Dev.dropped (s : Dev) (k : Nat) (cn0 : BitVec 16) (spanMs : Nat) : Dev :=
  if cn0.toNat < 2400 ∧ 1000 < spanMs then
    { s with gnss.chan := modAt s.gnss.chan k fun (c : GChan) =>
        { c with codeLock := false, carrLock := false, halfOk := false, lol := c.lol || c.carrLock } }.countTrack
  else s

/-- Local time is set to solved TAI at the whole second (R216). -/
def Dev.timeSet (s : Dev) : Dev :=
  match s.clk.setPending with
  | none => s
  | some (bias, drift) =>
    let s := { s.setTstate 1 with clk.setPending := none }
    let s := s.wrN GNSS_TERR s.gnss.u0
    if s.timeValid then
      (if s.wantedSource = 1 then (s.ev 0x0701 0 0).changeSource 1 bias else s.ev 0x0701 0 0)
    else if s.tsel = 2 then s.ev 0x0701 0 0
    else
      let s := { s.shiftLocal (-bias) with clk.freqCorr := clampRat (-50000000) 50000000 (s.clk.freqCorr - drift) }
      ((s.firstSet 1).ev 0x0701 0 0).showClock

/-- Cycles of 20 ms from the last valid fix to the last cycle boundary (R216); every epoch falls on a boundary. -/
def Dev.fixlessCycles (s : Dev) : Option Int := s.gnss.lastValid.map fun t => roundRat ((s.clk.cycleNs - t) / 20000000)

/-- Holdover once no valid fix has come for more than 1 s (R216). -/
def Dev.holdover (s : Dev) : Dev :=
  if s.tstate = 1 ∧ (s.fixlessCycles.all fun n => decide (50 < n)) then
    { s.setTstate 2 with gnss.retCnt := 0, gnss.warned := false }.ev 0x0702 0 s.gnss.u0
  else s

/-- The slew completes (R218) where what remains of it runs within the present tick. -/
def Dev.slewDone (s : Dev) : Dev :=
  let rem := s.clk.phaseRem
  if s.bit GNSS_STAT 4 ∧ !s.clockFrozen ∧ slewNs rem < 375000 then
    ({ s with clk.localNs := s.clk.localNs - rem, clk.phaseRem := 0, clk.slewRun := s.clk.slewRun + slewNs rem } : Dev).slewEnd.showClock
  else s

/-- TERR_EST above HOLD_WARN, once per holdover (R217); parameter 2 in whole µs. -/
def Dev.holdWarn (s : Dev) : Dev :=
  let ns := (s.rd GNSS_TERR).toNat
  if (s.tstate = 2 ∨ s.tstate = 3) ∧ !s.gnss.warned ∧ 1000 * s.gnss.set.warn.toNat < ns then
    { s with gnss.warned := true }.ev 0x070A 0 (ns / 1000)
  else s

/-- A front end's fault (R206). -/
def Dev.feFault (s : Dev) (k gain : Nat) (atMax : Bool) : Dev :=
  let was := s.bit (GNSS_FE_AGC k) 8
  let s := (s.wrN (GNSS_FE_AGC k) (gain + 256)).setBit GNSS_STAT (24 + k) true
  if was then s else s.ev 0x0706 k (if atMax then 1 else 2)

/-- It clears (R206). -/
def Dev.feClear (s : Dev) (k gain : Nat) : Dev :=
  let was := s.bit (GNSS_FE_AGC k) 8
  let s := (s.wrN (GNSS_FE_AGC k) gain).setBit GNSS_STAT (24 + k) false
  if was then s.ev 0x0707 k 0 else s

/-- WIDTH in ms: 0 acts as 1, above 999 as 999 (R225). -/
def ppsWidth (cfg : Word) : Nat := min 999 (max 1 (bitsOf cfg.toNat 11 2))

/-- CTLCLK edge nearest to an instant in local ns, the later of two (R219); a tick boundary is an edge. -/
def Dev.gridEdge (s : Dev) (t : Rat) : Rat :=
  s.clk.localNs + (((t - s.clk.localNs) / (16 / 5) + 1 / 2).floor : Rat) * (16 / 5)

/-- A pulse ends: writes made during it take effect (R220). -/
def Dev.ppsOver (s : Dev) : Dev :=
  let s := { s with gnss.ppsHigh := false }
  match s.gnss.ppsHeld with
  | none => s
  | some (c, d) =>
    { s.setBit GNSS_STAT 5 (bitOf c.toNat 0 && s.timeValid && s.gnss.ppsCfgd) with
      gnss.ppsHeld := none, gnss.ppsCfg := c, gnss.ppsDly := d }

/-- A whole second of local time (R219, R220): the pulse's edge on the CTLCLK grid and its end, WIDTH ms later; a pulse
still in progress ends where it begins. -/
def Dev.ppsEdge (s : Dev) : Dev :=
  if !s.timeValid then s
  else
    let s := if s.gnss.ppsHigh then s.ppsOver else s
    let sec := roundRat (s.clk.localNs / 1000000000)
    let dly : Rat := (signed 20 s.gnss.ppsDly.toNat : Int)
    let c : Rat := (sec : Rat) * 1000000000 - dly / 1000
    let edge := s.gridEdge c
    let en := bitOf s.gnss.ppsCfg.toNat 0 && s.gnss.ppsCfgd
    { s.setBit GNSS_STAT 5 en with
      gnss.ppsHigh := en, gnss.ppsUntil := s.gridEdge (edge + 1000000 * (ppsWidth s.gnss.ppsCfg : Rat)),
      gnss.ppsSec := sec.toNat, gnss.ppsQerr := if en then roundRat ((edge - c) * 1000) else 0,
      gnss.ppsValid := en, gnss.ppsStepped := s.clk.stepped, gnss.msgDue := true, clk.stepped := false }

/-- WIDTH ms after its leading edge the pulse ends (R220). -/
def Dev.ppsEnd (s : Dev) : Dev :=
  if s.gnss.ppsHigh ∧ s.gnss.ppsUntil < s.clk.localNs + 375000 then s.ppsOver else s

/-- A write to GNSS_PPS_CFG or GNSS_PPS_DLY (R220). -/
def Dev.ppsWrite (s : Dev) (cfg dly : Word) (first : Bool) : Dev :=
  let s := if first then { s.setBit PIN_CFGD 2 true with gnss.ppsCfgd := true } else s
  if s.gnss.ppsHigh then { s with gnss.ppsHeld := some (cfg, dly) }
  else { s.setBit GNSS_STAT 5 (bitOf cfg.toNat 0 && s.timeValid && s.gnss.ppsCfgd) with
         gnss.ppsCfg := cfg, gnss.ppsDly := dly }

/-- What drives a pin (R471): driven low or high, a weak pull-down or pull-up, or nothing. -/
inductive PinDrive where
  | low
  | high
  | pullDown
  | pullUp
  | none
  deriving DecidableEq, Repr

/-- State of a pin group by its code (R471). -/
def pinState (code : Nat) : PinDrive :=
  match code with
  | 1 => .pullDown | 2 => .pullUp | 3 => .low | _ => .none

/-- Reset state of pin group g: high impedance before the first fuse read, then its fuse field, or from Heartwood lock its
override (R425, R471, R472). -/
def Dev.pinReset (s : Dev) (g : Nat) : PinDrive :=
  if !s.rst.fused then .none
  else pinState (if g ≤ 12 ∧ s.bit PIN_OVR_EN g then s.fld PIN_OVR0 (2 * g + 1) (2 * g) else s.fld PIN_FUSE0 (2 * g + 1) (2 * g))

/-- PPS_OUT (R220): its reset state of R472 before its first configured state. -/
def Dev.ppsLevel (s : Dev) : PinDrive :=
  if !s.gnss.ppsCfgd then s.pinReset 2
  else if s.gnss.ppsHigh != bitOf s.gnss.ppsCfg.toNat 1 then .high else .low

/-- Bytes of the time message (R221). -/
def Dev.timeMsgBytes (s : Dev) : List Byte :=
  [0x71, 1]
    ++ leBytes 1 (s.tstate + 8 * bnat s.gnss.ppsValid + 16 * bnat (s.bit GNSS_STAT 4) + 32 * bnat s.gnss.ppsStepped
        + 64 * bnat (s.bit GNSS_STAT 6))
    ++ leBytes 1 s.gnss.utcOfs ++ leBytes 6 s.gnss.ppsSec ++ sBytes 2 s.gnss.ppsQerr
    ++ leBytes 4 (s.gnss.ppsSec * 1000000000) ++ leBytes 4 (s.rd GNSS_TERR).toNat ++ leBytes 4 (s.rd GNSS_PHASE_REM).toNat
    ++ leBytes 4 (s.rd GNSS_FREQ_CORR).toNat
    ++ leBytes 4 (if s.tstate = 2 ∨ s.tstate = 3 then (s.rd GNSS_HOLD_S).toNat else 0)

/-- Date of a day counted from 1970-01-01 in the Gregorian calendar. -/
def civilDate (days : Nat) : Nat × Nat × Nat :=
  let z := days + 719468
  let e := z % 146097
  let y := (e - e / 1460 + e / 36524 - e / 146096) / 365
  let d := e - (365 * y + y / 4 - y / 100)
  let p := (5 * d + 2) / 153
  let m := if p < 10 then p + 3 else p - 9
  (y + z / 146097 * 400 + (if m ≤ 2 then 1 else 0), m, d - (153 * p + 2) / 5 + 1)

/-- UTC of a TAI instant in ns (R9, R223): UTC_OFS of the instant, with second 60 in an inserted leap second. -/
def Dev.utcOf (s : Dev) (t : Int) : UtcTime :=
  let sec := (t / 1000000000).toNat
  let before := if s.gnss.leapAt.isSome ∧ !s.bit GNSS_STAT 6 then s.gnss.utcOfs - 1 else s.gnss.utcOfs
  let leap := s.gnss.leapAt == some sec
  let ofs := before + (if s.gnss.leapAt.any (fun l => decide (l ≤ sec)) then 1 else 0)
  let u := sec - ofs
  let (y, m, d) := civilDate (u / 86400)
  { year := y, month := m, day := d, hour := u / 3600 % 24, minute := u / 60 % 60,
    second := if leap then 60 else u % 60, ns := (t % 1000000000).toNat }

/-- Talker of the sentences (R222). -/
def Dev.talker (s : Dev) : Talker :=
  match s.sysEnabled 0, s.sysEnabled 1, s.sysEnabled 2 with
  | true, false, false => .gp
  | false, true, false => .ga
  | false, false, true => .gb
  | _, _, _ => .gn

/-- The fix that a UART's sentences give, and its GGA quality (R223): the estimator's with SRC = 1 while it is valid, else
the baseband's. -/
def Dev.sentFix (s : Dev) (src : Bool) : SentFix × Nat :=
  if src ∧ s.estValid then
    let g := Config.geodetic (s.rd EST_ORIGIN_LAT).toInt (s.rd EST_ORIGIN_LON).toInt (s.estX 0) (s.estX 1)
    ({ time := some (s.utcOf (roundRat s.clk.cycleNs)), pos := some g, vel := some s.estVel }, if s.bit EST_STAT 2 then 1 else 6)
  else
    let time := s.gnss.lastValid.map fun t => s.utcOf (roundRat t)
    match s.gnss.fix with
    | none => ({ time := time, pos := none, vel := none }, 0)
    | some f => ({ time := time, pos := some (f.lat, f.lon), vel := some (f.velN, f.velE) }, 1)

/-- A list in parts of four: the satellites of one GSV sentence. -/
def fours {α : Type} : Nat → List α → List (List α)
  | 0, xs => [xs.take 4]
  | n + 1, xs => if xs.length ≤ 4 then [xs] else xs.take 4 :: fours n (xs.drop 4)

/-- Satellites in view of a constellation with elevation and C/N0 (R222). -/
def Dev.inView (s : Dev) (sys : Nat) : List (Nat × Rat × Nat) :=
  (s.gnss.sky.filter fun x => x.sys.val == sys).map fun x =>
    (x.svid, x.elev, ((s.gnss.chan.find? fun c => c.assigned && !c.antS && sigSys c.sig == sys && c.svid == x.svid).map
      fun (c : GChan) => c.cn0.toNat).getD 0)

/-- The sentences of one bit of SMASK, in the order in which they leave (R222, R223). -/
def Dev.sentencesOf (s : Dev) (src : Bool) (k : Nat) : List SentOut :=
  let t := s.talker
  let (f, q) := s.sentFix src
  let v := s.gnss.fix
  let n := v.elim 0 fun x => x.sats.length
  let h := v.map FixSol.hdop
  match k with
  | 0 => [.zda (s.utcOf (1000000000 * (s.gnss.ppsSec : Int)))]
  | 1 => [.gns t f ([0, 1, 2].map fun c => v.any fun x => (systemsOf x).contains c) n h]
  | 2 => [.gga t f q n h]
  | 3 => [.rmc t f f.pos.isNone]
  | 4 => [.vtg t f.vel]
  | 5 => if s.bit EST_STAT 4 then [.hdt s.estHeading] else []
  | 6 => [.gsa t (v.elim [] fun x => x.sats.map fun y => (y.sys.val, y.svid)) (v.map fun x => (x.pdop, x.hdop, x.vdop))]
  | _ => ((List.range 3).filter s.sysEnabled).flatMap fun c =>
      (fours 16 (s.inView c)).map fun xs => .gsv ([.gp, .ga, .gb].getD c .gn) xs

/-- Sentences that leave before the next interval begins, each with its characters, ten bits a character, and the number
dropped (R222). -/
def sendSentences (limitBits : Nat) : List (SentOut × List Byte) → Nat → List (SentOut × List Byte) × Nat
  | [], _ => ([], 0)
  | (x, b) :: xs, used =>
    let u := used + 10 * b.length
    if u ≤ limitBits then
      let r := sendSentences limitBits xs u
      ((x, b) :: r.1, r.2)
    else
      let r := sendSentences limitBits xs used
      (r.1, r.2 + 1)

/-- Bits that an interval of a UART holds: BAUD over RATE (R222). -/
def intervalBits (cfg : Nat) : Nat :=
  let r := bitsOf cfg 12 10
  let hz := if r = 1 then 2 else if r = 2 then 5 else if r = 3 ∧ bitOf cfg 1 then 10 else 1
  (if bitOf cfg 1 then 38400 else 4800) / hz

/-- An interval of a UART's sentences begins (R222): its settings are taken, and what it sends of the characters that spell
its sentences in order. -/
def Dev.sentences (s : Dev) (u : Nat) (texts : List (List Byte)) : Dev × List (List Byte) :=
  let w := s.rd (GNSS_SENT_CFG u)
  let cfg := w.toNat
  let s := { s with gnss.sentCfg := setAt s.gnss.sentCfg u w }
  if !bitOf cfg 0 ∨ !s.timeValid then ({ s with gnss.sent := setAt s.gnss.sent u [] }, [])
  else
    let sel := ((List.range 8).filter fun k => bitOf cfg (2 + k)).flatMap (s.sentencesOf (bitOf cfg 13))
    let res := sendSentences (intervalBits cfg) (sel.zipIdx.map fun p => (p.1, texts.getD p.2 [])) 0
    (({ s with gnss.sent := setAt s.gnss.sent u (res.1.map Prod.fst) } : Dev).cntSat GNSS_SENT_DROP 31 0 res.2,
      res.1.map Prod.snd)

/-- An inserted leap second ends (R223). -/
def Dev.leap (s : Dev) : Dev :=
  if s.bit GNSS_STAT 6 then
    let n := (s.gnss.utcOfs + 1) % 256
    ({ s with gnss.utcOfs := n }.setBit GNSS_STAT 6 false).ev 0x0708 0 n
  else s

/-- Navigation data give UTC_OFS and the announcement of a leap second (R221). -/
def Dev.navData (s : Dev) (ofs : Nat) (leapAt : Option Nat) : Dev :=
  { s with gnss.utcOfs := ofs, gnss.leapAt := leapAt }.setBit GNSS_STAT 6 leapAt.isSome

/-- A tracking channel loses carrier lock (R213). -/
def Dev.carrierLost (s : Dev) (k : Nat) : Dev :=
  { s with gnss.chan := modAt s.gnss.chan k fun (c : GChan) =>
      if c.carrLock then { c with carrLock := false, halfOk := false, lol := true, cp := 0 } else c }

/-- A code-locked channel gains carrier lock and resolves its half cycle (R213). -/
def Dev.carrierGained (s : Dev) (k : Nat) : Dev :=
  let t := s.seq.cyc
  { s with gnss.chan := modAt s.gnss.chan k fun (c : GChan) =>
      if c.codeLock && !c.carrLock then { c with carrLock := true, halfOk := true, lockAt := t } else c }

end Sys2Proof.Machine
end

