-- ==== Sys2Proof/Machine/Acq.lean ====
section
/-! DEFINITION. Analogue, sigma-delta, pulse and quadrature inputs (chapter 08). -/

namespace Sys2Proof.Machine

/-- Settings of a chain as its registers hold them (R252). -/
def Dev.chainRegs (s : Dev) (n : Nat) : ChainCfg :=
  { cfg := s.rd (ACQ_CH_CFG n), fir := s.rd (ACQ_CH_FIR n),
    gain := (List.range 8).map fun b => s.rd (ACQ_CH_GAIN n b),
    ofs := (List.range 8).map fun b => s.rd (ACQ_CH_OFS n b) }

/-- EN. -/
def ChainCfg.en (c : ChainCfg) : Bool := bitOf c.cfg.toNat 0

/-- SRC; above 23 acts as 0. -/
def ChainCfg.src (c : ChainCfg) : Nat :=
  let v := bitsOf c.cfg.toNat 5 1
  if 23 < v then 0 else v

/-- Chain n bypasses the CIC stage (R234). -/
def ChainCfg.bypass (c : ChainCfg) (n : Nat) : Bool := decide (n < 16) && !bitOf c.cfg.toNat 6

/-- CIC order in force; N outside 3 to 5 acts as 3 (R234, R252). -/
def ChainCfg.order (c : ChainCfg) (n : Nat) : Nat :=
  let v := bitsOf c.cfg.toNat 9 7
  if c.bypass n then 0 else if v < 3 ∨ 5 < v then 3 else v

/-- CIC ratio in force; DECIM below 7 acts as 7 (R234, R252). -/
def ChainCfg.ratio (c : ChainCfg) (n : Nat) : Nat :=
  if c.bypass n then 1 else max 7 (bitsOf c.cfg.toNat 17 10) + 1

/-- FIR taps; above 384 acts as 384 (R252). -/
def ChainCfg.taps (c : ChainCfg) : Nat := min 384 (bitsOf c.fir.toNat 8 0)

/-- What a change of starts a step: SRC, N, K, SC, SF and L (R238). -/
def ChainCfg.stepKey (c : ChainCfg) (n : Nat) : List Nat :=
  [c.src, c.order n, c.ratio n, bitsOf c.cfg.toNat 22 18, bitsOf c.cfg.toNat 27 23, c.taps]

/-- Records that a step suppresses: N + ⌈(L - 1)/2⌉ (R238). -/
def ChainCfg.settle (c : ChainCfg) (n : Nat) : Nat := c.order n + ceilDiv (c.taps - 1) 2

/-- RUN of a chain. -/
def Dev.chainRun (s : Dev) (n : Nat) : Bool := s.bit (ACQ_CH_STAT n) 0

/-- ACQ_STAT.CHAINS_ON. -/
def Dev.countChains (s : Dev) : Dev :=
  s.setFld ACQ_STAT 13 8 ((List.range 40).filter s.chainRun).length

/-- A step of a chain (R238): its CIC and FIR state is zero, and the count of suppressed records starts. -/
def Dev.chainStep (s : Dev) (n : Nat) : Dev :=
  let c := (s.chain n).cur
  let k := c.settle n
  let z := List.replicate (c.order n) (0 : Int)
  let s := s.setChain n fun x => { x with
    integ := z, comb := z, fir := [], win := [], suppLeft := k, suppLen := k, band := s.acq.band }
  let s := s.wrN (ACQ_CH_SEQ n) 0
  let s := (s.setFld (ACQ_CH_STAT n) 31 16 k).setBit (ACQ_CH_STAT n) 1 (k != 0)
  s.setFld (ACQ_CH_STAT n) 6 4 s.acq.band

/-- STUCK of a chain follows the streams that are stuck (R233). -/
def Dev.showStuck (s : Dev) (n : Nat) : Dev :=
  s.setBit (ACQ_CH_STAT n) 3 (decide (16 ≤ n) && s.acq.stuck.contains (s.chain n).cur.src)

/-- The shadow bank becomes a chain's live coefficients (R244). -/
def Dev.coefCopy (s : Dev) (n : Nat) : Dev :=
  let s := s.each (List.range 192) fun d k => d.wr (ACQ_FIR_LIVE n k) (d.rd (ACQ_FIR_SHADOW k))
  { s with acq.applyAt := 2 }

/-- A record boundary: latched settings, coefficients and the band come into force for the next window, and a step that
waited takes place (R238 to R241, R244). -/
def Dev.chainBoundary (s : Dev) (n : Nat) : Dev :=
  let x := s.chain n
  let old := x.cur
  let new := x.next.getD old
  let copy := s.acq.apply == some n && s.acq.applyAt == 1
  let s := if copy then s.coefCopy n else s
  let s := s.setChain n fun x => { x with cur := new, next := none, band := s.acq.band, stepPend := false }
  let s := s.setFld (ACQ_CH_STAT n) 6 4 s.acq.band
  if !new.en then (s.clrMask (ACQ_CH_STAT n) 0xFFFF000B).countChains
  else if new.stepKey n != old.stepKey n || copy || x.stepPend then (s.showStuck n).chainStep n
  else s

/-- A chain's start at P0 (R238, R239). -/
def Dev.chainStart (s : Dev) (n : Nat) : Dev :=
  let c := s.chainRegs n
  let s := s.setChain n fun x => { x with cur := c, next := none }
  (((s.setBit (ACQ_CH_STAT n) 0 true).showStuck n).chainStep n).countChains

/-- 64-bit CIC registers (R234). -/
def wrap64 (x : Int) : Int := signed 64 (unsigned 64 x)

/-- One sample through the integrators; the result is their new registers, first to last. -/
def integrate : List Int → Int → List Int
  | [], _ => []
  | i :: is, x =>
    let y := wrap64 (i + x)
    y :: integrate is y

/-- One decimated value through the combs: their new registers and the output. -/
def combs : List Int → Int → List Int × Int
  | [], x => ([], x)
  | p :: ps, x =>
    let r := combs ps (wrap64 (x - p))
    (x :: r.1, r.2)

/-- The CIC stage over the samples of a window: registers and output (R234). -/
def cic (integ comb : List Int) (xs : List Int) : List Int × List Int × Int :=
  let i := xs.foldl integrate integ
  let r := combs comb (i.getLastD (xs.getLastD 0))
  (i, r.1, r.2)

/-- Saturation to 24 bits (R235). -/
def sat24 (x : Int) : Int := clampInt (-8388608) 8388607 x

/-- A shift of 0 to 31 bits, rounded to nearest with ties to even (R235). -/
def shiftRound (k : Nat) (x : Int) : Int := divRound x (2 ^ k)

/-- Live coefficient k of a chain with L taps, by their symmetry (R236). -/
def Dev.firCoef (s : Dev) (n l k : Nat) : Int :=
  signed 24 (s.rd (ACQ_FIR_LIVE n (if k < ceilDiv l 2 then k else l - 1 - k))).toNat

/-- The FIR over its delay line, newest first (R236). -/
def Dev.firOut (s : Dev) (n l : Nat) (xs : List Int) : Int :=
  wrap64 (((List.range l).map fun k => s.firCoef n l k * xs.getD k 0).sum)

/-- Temperature compensation of R240 before its saturation. -/
def compensate (gain ofs : Word) (x : Int) : Int :=
  divRound (x * ((gain.toNat : Nat) : Int)) (2 ^ 22) + signed 24 ofs.toNat

/-- A completed record: delivered, or suppressed (R238, R242). -/
def Dev.deliver (s : Dev) (n : Nat) (y : Int) (stamp : Word) : Dev :=
  let s := s.cntWrap (ACQ_CH_SEQ n) 31 0 1
  let left := (s.chain n).suppLeft
  if 0 < left then
    let s := s.setChain n fun x => { x with suppLeft := left - 1 }
    (s.setFld (ACQ_CH_STAT n) 31 16 (left - 1)).cntSat (ACQ_CH_SUPP n) 31 0 1
  else
    let s := if s.bit (ACQ_CH_STAT n) 1 then
        (s.setBit (ACQ_CH_STAT n) 1 false).ev 0x0801 n (s.chain n).suppLen
      else s
    let bad := decide (n < 16) && s.bit ACQ_STAT 2
    let s := (s.wr (ACQ_CH_VAL n) (BitVec.ofInt 32 y)).wr (ACQ_CH_STAMP n) stamp
    let at_ := extendStamp stamp s.tickNs
    s.setChain n fun x => { x with
      calBad := bad, newCnt := satAdd 16 x.newCnt 1, stampNs := some at_, recBand := x.band,
      fresh := if bad then x.fresh else some y }

/-- The source samples of the window that ends, and those after it (R234): K SAR samples, or K stream bits. -/
def Dev.window (s : Dev) (n : Nat) (bits : List Bool) : Option (List Int × List Int) :=
  let k := (s.chain n).cur.ratio n
  if n < 16 then
    let w := (s.chain n).win
    if k ≤ w.length then some (w.take k, w.drop k) else none
  else if s.bit ACQ_STAT 1 ∧ bits.length = k then
    some (bits.map fun b => if b then (1 : Int) else -1, [])
  else none

/-- A record boundary of a chain (R234 to R240): the window's samples through CIC, SC, FIR, SF and compensation. -/
def Dev.chainRecord (s : Dev) (n : Nat) (bits : List Bool) (stamp : Word) (coefBad : Option Nat) : Dev :=
  if !s.chainRun n then s
  else
    let x := s.chain n
    let c := x.cur
    let l := c.taps
    match s.window n bits with
    | none => s
    | some (now, rest) =>
      let r := cic x.integ x.comb now
      let a := shiftRound (bitsOf c.cfg.toNat 22 18) r.2.2
      let a' := sat24 a
      let line := (a' :: x.fir).take l
      let f := if l = 0 then a' else s.firOut n l line
      let b := shiftRound (bitsOf c.cfg.toNat 27 23) f
      let b' := sat24 b
      let d := if bitOf c.cfg.toNat 28 then compensate (c.gain.getD x.band 0) (c.ofs.getD x.band 0) b' else b'
      let d' := sat24 d
      let s := s.setChain n fun x => { x with integ := r.1, comb := r.2.1, fir := line, win := rest }
      match (if l = 0 then none else coefBad) with
      | some k => ((s.setBit (ACQ_CH_STAT n) 0 false).countChains).ev 0x0809 n k
      | none =>
        let s :=
          if s.bit (ACQ_CH_STAT n) 3 then s
          else
            let sat := a != a' || b != b' || d != d'
            let s := s.setBit (ACQ_CH_STAT n) 2 sat
            let s := if sat && !x.satPrev then
                s.ev 0x0802 n (if a != a' then 0 else if b != b' then 1 else 2)
              else s
            (s.setChain n fun x => { x with satPrev := sat }).deliver n d' stamp
        s.chainBoundary n

/-- Entry k of the SAR sequence: its input while USE is set (R229, R251). -/
def seqEntry (words : List Word) (k : Nat) : Option Nat :=
  let b := bitsOf (words.getD (k / 4) 0).toNat (8 * (k % 4) + 7) (8 * (k % 4))
  if 63 ≤ k ∨ b < 128 then none else some (b % 16)

/-- Slots of an input in a sequence. -/
def seqSlots (words : List Word) (inp : Nat) : List Nat :=
  (List.range 63).filter fun k => seqEntry words k == some inp

/-- RANGE of an input; 3 acts as 0. -/
def sarRange (w : Word) (inp : Nat) : Nat := bitsOf w.toNat (2 * inp + 1) (2 * inp) % 3

/-- The SAR sequence as its registers hold it. -/
def Dev.seqRegs (s : Dev) : List Word := (List.range 16).map fun k => s.rd (ACQ_SAR_SEQ k)

/-- A frame boundary: sequence and ranges come into force, and chains of changed inputs take a step (R231). -/
def Dev.sarFrame (s : Dev) : Dev :=
  let old := s.acq.seq
  let oldR := s.acq.range
  let new := s.seqRegs
  let newR := s.rd ACQ_SAR_RANGE
  let s := { s with acq.seq := new, acq.range := newR }
  s.each (List.range 16) fun d n =>
    let i := (d.chain n).cur.src
    if d.chainRun n && (seqSlots old i != seqSlots new i || sarRange oldR i != sarRange newR i) then d.chainStep n
    else d

/-- A live code under the corrections in force (R230). -/
def sarValue (code ofs gain : Int) : Int :=
  if ofs = 0 ∧ gain = 0 then code else Config.sarCorrect code ofs gain

/-- A SAR slot (R229, R230). -/
def Dev.sarConversion (s : Dev) (slot : Nat) (code : BitVec 16) : Dev :=
  if !s.bit ACQ_STAT 0 then s
  else
    let s := if slot = 0 then s.sarFrame else s
    if slot = 63 then
      let k := s.acq.calKind
      let c := s.acq.calCnt + 1
      let s := { s with acq.calKind := !k, acq.calCnt := c % 64, acq.calDue := s.acq.calDue || c == 64 }
      if k then { s with acq.refs := (code.toInt :: s.acq.refs).take 32 }
      else { s with acq.zeros := (code.toInt :: s.acq.zeros).take 32 }
    else
      match seqEntry s.acq.seq slot with
      | none => s
      | some i =>
        let v := sarValue code.toInt (signed 16 (s.fld ACQ_CAL 15 0)) (signed 16 (s.fld ACQ_CAL 31 16))
        s.each (List.range 16) fun d n =>
          if d.chainRun n && (d.chain n).cur.src == i then d.setChain n fun x => { x with win := x.win ++ [v] } else d

/-- Mean of conversions (R230). -/
def meanOf (xs : List Int) : Rat := (xs.sum : Rat) / (xs.length : Nat)

/-- An update is due, and the offset is the mean zero (R230). -/
def Dev.calShows (s : Dev) (z : Rat) : Bool := s.acq.calDue && decide (z = meanOf s.acq.zeros)

/-- Gain error that the mean zero and the mean reference show, against the ideal code of the internal reference (R230; log entry
17). -/
def gainErrorOf (z r ideal : Rat) : Rat := (r - z) / ideal - 1

/-- The update of the calibration from a measured offset and gain error (R230). -/
def Dev.calMove (s : Dev) (z e : Rat) : Dev :=
  let s := { s with acq.calDue := false }
  let ofs := roundRat z
  let gain := roundRat (e * 65536)
  let badO := decide (256 < absRat z)
  let badG := decide (1 < 100 * absRat e)
  if badO || badG then
    ({ s with acq.calOkRun := 0 }.setBit ACQ_STAT 2 true).ev 0x0806 0 (if badO then 1 else 2)
  else if s.bit ACQ_STAT 2 then
    let k := s.acq.calOkRun + 1
    if 4 ≤ k then
      let s := ({ s with acq.calOkRun := 0 }.setBit ACQ_STAT 2 false).ev 0x0807 0 0
      s.each (List.range 16) fun d n => if d.chainRun n then d.setChain n fun x => { x with stepPend := true } else d
    else { s with acq.calOkRun := k }
  else
    let o := signed 16 (s.fld ACQ_CAL 15 0)
    let g := signed 16 (s.fld ACQ_CAL 31 16)
    let o' := o + clampInt (-1) 1 (ofs - o)
    let g' := g + clampInt (-1) 1 (gain - g)
    (s.setFld ACQ_CAL 15 0 (unsigned 16 o')).setFld ACQ_CAL 31 16 (unsigned 16 g')

/-- The update that 64 calibration slots make due, with the offset that the running mean shows and the ideal code of the internal
reference, which the spec does not give (R230; log entry 17). With another offset nothing happens. -/
def Dev.calUpdate (s : Dev) (z ideal : Rat) : Dev :=
  if s.calShows z then s.calMove z (gainErrorOf z (meanOf s.acq.refs) ideal) else s

/-- A stream has held one level for more than 1,024 samples (R233). -/
def Dev.bitstreamStuck (s : Dev) (st : Nat) : Dev :=
  if !s.bit ACQ_STAT 1 || s.acq.stuck.contains st then s
  else
    let s := { s with acq.stuck := s.acq.stuck ++ [st] }
    s.each (List.range 40) fun d n =>
      if decide (16 ≤ n) && d.chainRun n && (d.chain n).cur.src == st then
        (d.setBit (ACQ_CH_STAT n) 3 true).ev 0x080B n st
      else d

/-- The first transition on a stuck stream: its chains restart (R233, R239). -/
def Dev.stuckEnd (s : Dev) (st : Nat) : Dev :=
  if s.acq.stuck.contains st then
    let s := { s with acq.stuck := s.acq.stuck.filter (· != st) }
    s.each (List.range 40) fun d n =>
      if decide (16 ≤ n) && d.bit (ACQ_CH_STAT n) 3 && (d.chain n).cur.src == st then
        (d.setBit (ACQ_CH_STAT n) 3 false).chainStep n
      else d
  else s

/-- Output rate of a chain in records per second (R229, R234). -/
def chainRate (seq : List Word) (c : ChainCfg) (n : Nat) : Rat :=
  let k : Rat := ((c.ratio n : Nat) : Rat)
  if n < 16 then (((seqSlots seq c.src).length * 31250 : Nat) : Rat) / k else 20000000 / k

/-- FIR load of the enabled chains, pairs per second (R237). -/
def Dev.firLoad (s : Dev) : Rat :=
  let seq := s.seqRegs
  ((List.range 40).map fun n =>
    let c := s.chainRegs n
    if c.en then ((ceilDiv c.taps 2 : Nat) : Rat) * chainRate seq c n else 0).sum

/-- A load in 10^6 pairs/s. -/
def megaPairs (x : Rat) : Nat :=
  let m := x / 1000000
  if m.den = 1 then m.num.toNat else Config.firLoad m

/-- Indices of a kind that applicable committed records name: FB_KIND k or TGT_SRC k (R57, R94, R243). -/
def Dev.namedBy (s : Dev) (k : Nat) : List Nat :=
  let cs := (List.range 128).filter fun c => c != 0 && s.rate c != 0
  let fb := cs.filterMap fun c =>
    if s.fld (LOOP_CTX_SRC c) 3 0 = k then some (s.fld (LOOP_CTX_SRC c) 11 4) else none
  let gs := (cs.filter fun c => s.fld (LOOP_CTX_SRC c) 15 12 == 0) ++ [128, 129, 130]
  let tg := gs.filterMap fun g =>
    let t := s.fld (PROF_CFG g) 2 0
    if (if t = 3 then 1 else t) = k then some (s.fld (PROF_CFG g) 11 4) else none
  fb ++ tg

/-- Parameter 1 of the event of R243 where a write in service is discarded. -/
def Dev.acqLocked (s : Dev) (a : Nat) (v : Word) : Option Nat :=
  let ch := s.namedBy 1
  if !s.inService then none
  else if a = ACQ_CTRL ∨ a = ACQ_TEMP ∨ (ACQ_TB 1 ≤ a ∧ a ≤ ACQ_TB 7) then some 0
  else if a = ACQ_APPLY then
    let n := bitsOf v.toNat 5 0
    if ch.contains n then some n else none
  else if ACQ_SAR_SEQ 0 ≤ a ∧ a ≤ ACQ_SAR_SEQ 15 then
    let k := (a - ACQ_SAR_SEQ 0) / 4
    let old := s.seqRegs
    let new := setAt old k v
    (ch.filter (· < 16)).find? fun n =>
      let i := (s.chainRegs n).src
      (List.range 4).any fun j =>
        let e := seqEntry old (4 * k + j)
        let e' := seqEntry new (4 * k + j)
        e != e' && (e == some i || e' == some i)
  else if a = ACQ_SAR_RANGE then
    (ch.filter (· < 16)).find? fun n =>
      let i := (s.chainRegs n).src
      bitsOf (s.rd a).toNat (2 * i + 1) (2 * i) != bitsOf v.toNat (2 * i + 1) (2 * i)
  else if chWin 0 ≤ a ∧ a < chWin 40 then
    let n := (a - chWin 0) / 0x100
    if ch.contains n then some n else none
  else if ACQ_PULSE_CFG 0 ≤ a ∧ a < ACQ_PULSE_CFG 8 then
    let n := (a - ACQ_PULSE_CFG 0) / 0x10
    if (s.namedBy 2).contains n then some (64 + n) else none
  else if ACQ_QUAD_CFG 0 ≤ a ∧ a < ACQ_QUAD_CFG 4 then
    let n := (a - ACQ_QUAD_CFG 0) / 0x10
    if (s.namedBy 3).contains n then some (72 + n) else none
  else none

/-- The write enables or reconfigures a chain, so that its FIR load is checked (R237); the chain it names. -/
def loadChecked (a : Nat) : Option Nat :=
  if chWin 0 ≤ a ∧ a < chWin 40 ∧ (a - chWin 0) % 0x100 < 8 then some ((a - chWin 0) / 0x100)
  else if ACQ_SAR_SEQ 0 ≤ a ∧ a ≤ ACQ_SAR_SEQ 15 then some 0
  else none

/-- Effects of an accepted write beside the register itself (R231, R232, R236, R246). -/
def Dev.acqSide (old s : Dev) (a : Nat) : Dev :=
  if a = ACQ_CTRL then
    let s := { s with acq.sarPend := some (s.bit a 0), acq.sdPend := some (s.bit a 1) }
    if s.bit a 1 then s else s.setBit ACQ_STAT 1 false
  else if chWin 0 ≤ a ∧ a < chWin 40 ∧ (a - chWin 0) % 0x100 = 0 then
    let n := (a - chWin 0) / 0x100
    s.setChain n fun x => { x with enNew := s.bit a 0 }
  else if ACQ_PULSE_CFG 0 ≤ a ∧ a < ACQ_PULSE_CFG 8 ∧ a % 0x10 = 0 then
    let n := (a - ACQ_PULSE_CFG 0) / 0x10
    if s.fld a 1 0 = old.fld a 1 0 then s
    else { s with acq.pulse := setAt s.acq.pulse n {} }
  else s

/-- A host write to a register of ACQ (R237, R243, R244). -/
def Dev.acqWrite (s : Dev) (a : Nat) (v : Word) : Dev :=
  match s.acqLocked a v with
  | some p => s.ev 0x0805 p (a - 0x1C0000)
  | none =>
    if s.bit ACQ_STAT 3 && decide (ACQ_FIR_SHADOW 0 ≤ a ∧ a ≤ ACQ_FIR_SHADOW 191) then s
    else
      let s' := s.store a v
      match loadChecked a with
      | none => s.acqSide s' a
      | some n =>
        let x := s'.firLoad
        if 2000000000 < x ∧ s.firLoad < x then s.ev 0x080A n (megaPairs x)
        else (s.acqSide s' a).setFld ACQ_FIR_LOAD 11 0 (megaPairs x)

/-- A write of SAR_EN or SD_EN alone: ACQ_CTRL with the other bit unchanged (R231, R232). -/
def Dev.acqEnable (s : Dev) (bit : Nat) (on : Bool) : Dev :=
  s.acqWrite ACQ_CTRL (BitVec.ofNat 32 (setBits (s.rd ACQ_CTRL).toNat bit bit (bnat on)))

/-- ACQ_APPLY with GO = 1 (R244); a chain above 39 does not exist. -/
def Dev.coefApply (s : Dev) (n : Nat) : Dev :=
  match s.acqLocked ACQ_APPLY (BitVec.ofNat 32 n) with
  | some p => s.ev 0x0805 p 0x10
  | none =>
    if s.bit ACQ_STAT 3 || decide (40 ≤ n) then s
    else { s.setBit ACQ_STAT 3 true with acq.apply := some n, acq.applyAt := 0 }

/-- The copy of the shadow bank is complete (R244): a running chain's was made at its record boundary, and a stopped chain,
which has none, takes its own now. -/
def Dev.coefDone (s : Dev) : Dev :=
  match s.acq.apply with
  | none => s
  | some n =>
    let s := if s.acq.applyAt = 1 ∧ !s.chainRun n then s.coefCopy n else s
    if s.acq.applyAt = 2 then
      { s.setBit ACQ_STAT 3 false with acq.apply := none, acq.applyAt := 0 }.ev 0x0804 n (s.chain n).cur.taps
    else s

/-- MODE of a pulse input; 3 acts as 0. -/
def Dev.pulseMode (s : Dev) (p : Nat) : Nat := s.fld (ACQ_PULSE_CFG p) 1 0 % 3

/-- The filter of a pin accepts a level that has held for so many CTLCLK cycles (R245). -/
def filtered (filt held : Nat) : Bool := decide (filt + 1 ≤ held)

/-- A new level on a pulse input, accepted by the filter at a CTLCLK cycle of the tick that has ended (R245, R246). -/
def Dev.pulseEdge (s : Dev) (p : Nat) (falling : Bool) (cycle held : Nat) : Dev :=
  let e := s.fld (ACQ_PULSE_CFG p) 3 2 % 3
  if !filtered (s.fld (ACQ_PULSE_CFG p) 11 4) held || (e != 2 && (e == 1) != falling) then s
  else
    match s.pulseMode p with
    | 1 => { s with acq.pulse := modAt s.acq.pulse p fun x => { x with count := (x.count + 1) % 2 ^ 32 } }
    | 2 => { s with acq.pulse := modAt s.acq.pulse p fun x => { x with edges := x.edges ++ [(0, s.seq.tickCyc + cycle)] } }
    | _ => s

/-- Frequency in mHz from edges at CTLCLK cycles; none with fewer than 2 edges (R246). -/
def frequency (cs : List Nat) : Option Nat :=
  let lo := cs.foldl min (cs.headD 0)
  let hi := cs.foldl max 0
  if cs.length < 2 ∨ hi ≤ lo then none
  else some (divRound (((cs.length - 1) * 312500000000 : Nat) : Int) (hi - lo)).toNat

/-- P0 latch of a pulse input (R246, R248). -/
def Dev.pulseLatch (s : Dev) (p : Nat) : Dev :=
  let x := s.acq.pulse.getD p {}
  let put (d : Dev) (x : PulseSt) : Dev := { d with acq.pulse := setAt d.acq.pulse p x }
  match s.pulseMode p with
  | 1 => put ((s.wrN (ACQ_PULSE_VAL p) x.count).setBit (ACQ_PULSE_STAT p) 0 false) { x with age := some 0 }
  | 2 =>
    let gate := max 1 (s.fld (ACQ_PULSE_CFG p) 19 12)
    let f := frequency ((x.edges.filter fun e => e.1 < gate).map Prod.snd)
    let es := (x.edges.filter fun e => e.1 < 255).map fun e => (e.1 + 1, e.2)
    put ((s.wrN (ACQ_PULSE_VAL p) (f.getD 0)).setBit (ACQ_PULSE_STAT p) 0 f.isNone) { x with age := some 0, edges := es }
  | _ => put s { x with age := none, edges := [] }

/-- One step of the quadrature position: QA leading QB counts up (R247). -/
def quadDelta (qa qb qa' qb' : Bool) : Int :=
  if qa != qa' then (if qa' != qb then 1 else -1) else if qb != qb' then (if qb' == qa then 1 else -1) else 0

/-- New levels on the pins of a quadrature pair, each with the CTLCLK cycles that it has held: those that the filter accepts
change together (R245, R247). -/
def Dev.quadTransition (s : Dev) (p : Nat) (qa qb : Bool) (heldA heldB : Nat) : Dev :=
  let x := s.acq.quad.getD p {}
  let filt := s.fld (ACQ_QUAD_CFG p) 9 2
  let qa := if filtered filt heldA then qa else x.qa
  let qb := if filtered filt heldB then qb else x.qb
  let put (d : Dev) (x : QuadSt) : Dev := { d with acq.quad := setAt d.acq.quad p x }
  let y : QuadSt := { x with qa := qa, qb := qb }
  if !s.bit (ACQ_QUAD_CFG p) 0 then put s y
  else if x.qa != qa && x.qb != qb then
    let s := (put s y).cntSat (ACQ_QUAD_ERR p) 31 0 1
    s.evW 0x0808 (BitVec.ofNat 32 (72 + p)) (s.rd (ACQ_QUAD_ERR p))
  else
    let d := quadDelta x.qa x.qb qa qb
    put s { y with pos := signed 32 (unsigned 32 (x.pos + (if s.bit (ACQ_QUAD_CFG p) 1 then -d else d))) }

/-- ACQ_QUAD_ZERO.ZERO = 1 (R243, R247). -/
def Dev.quadZero (s : Dev) (p : Nat) : Dev :=
  match s.acqLocked (ACQ_QUAD_ZERO p) 1 with
  | some q => s.ev 0x0805 q (ACQ_QUAD_ZERO p - 0x1C0000)
  | none => { s with acq.quad := modAt s.acq.quad p fun x => { x with zeroPend := true } }

/-- P0 latch of a quadrature pair (R247, R248). -/
def Dev.quadLatch (s : Dev) (p : Nat) : Dev :=
  let x := s.acq.quad.getD p {}
  let y : QuadSt := { x with
    pos := if x.zeroPend then 0 else x.pos, zeroPend := false,
    age := if s.bit (ACQ_QUAD_CFG p) 0 then some 0 else none }
  { s.wr (ACQ_QUAD_POS p) (BitVec.ofInt 32 y.pos) with acq.quad := setAt s.acq.quad p y }

/-- P0 latch of a chain: its start or new settings, and its latest delivered record (R239, R242). -/
def Dev.chainLatch (s : Dev) (n : Nat) : Dev :=
  let s :=
    if s.chainRun n then
      let r := s.chainRegs n
      s.setChain n fun x => { x with next := if r = x.cur then none else some r, enNew := false }
    else if (s.chain n).enNew && s.bit (ACQ_CH_CFG n) 0 then
      (s.setChain n fun x => { x with enNew := false }).chainStart n
    else s
  s.setChain n fun x => match x.fresh with
    | some v => { x with latched := some v, age := some 0, fresh := none }
    | none => { x with age := x.age.map (· + 1) }

/-- The P0 latch of ACQ (R26, R231, R232, R242, R248). -/
def Dev.acqP0 (s : Dev) : Dev :=
  let s := match s.acq.sarPend with
    | some b => { s.setBit ACQ_STAT 0 b with acq.sarPend := none }
    | none => s
  let s := match s.acq.sdPend with
    | some b => { s.setBit ACQ_STAT 1 b with acq.sdPend := none }
    | none => s
  let s := if s.acq.apply.isSome ∧ s.acq.applyAt = 0 then { s with acq.applyAt := 1 } else s
  let s := s.each (List.range 40) Dev.chainLatch
  let s := s.each (List.range 8) Dev.pulseLatch
  s.each (List.range 4) Dev.quadLatch

/-- Thresholds TB1 to TB7 up to the last that ascends (R251). -/
def Dev.bandSteps (s : Dev) : List Int :=
  let ts := (List.range 7).map fun j => signed 16 (s.fld (ACQ_TB (j + 1)) 15 0)
  let ok := (List.range 7).filter fun k => (List.range k).all fun j => decide (ts.getD j 0 < ts.getD (j + 1) 0)
  ts.take ok.length

/-- Band that a reading falls back to from band b (R241). -/
def fallBand (ts : List Int) (hyst reading : Int) : Nat → Nat
  | 0 => 0
  | b + 1 => if reading < ts.getD b 0 - hyst then fallBand ts hyst reading b else b + 1

/-- A new reading of the sensor that TSEL names (R241). -/
def Dev.acqTemp (s : Dev) (ts : List Int) : Dev :=
  let t := ts.getD (s.fld ACQ_TEMP 2 0) 0
  let th := s.bandSteps
  let up := (th.filter fun x => decide (x < t)).length
  let b := if s.acq.band < up then up else fallBand th (s.fld ACQ_TEMP 15 8 : Nat) t (min s.acq.band th.length)
  if b = s.acq.band then s else { s with acq.band := b }.ev 0x0803 0 b

/-- An entry of the acquisition record (R249). -/
def acqEntry (index flags new value stamp seq : Nat) : List Byte :=
  leBytes 1 index ++ leBytes 1 flags ++ leBytes 2 new ++ leBytes 4 value ++ leBytes 4 stamp ++ leBytes 4 seq

/-- Entry of a chain at the latch instant now, ns. -/
def Dev.chainEntry (s : Dev) (now : Int) (n : Nat) : List Byte :=
  let x := s.chain n
  let st := s.rd (ACQ_CH_STAT n)
  let old := x.stampNs.elim true fun t => decide (2000000000 < now - t)
  acqEntry n (bnat (bitOf st.toNat 1) + 2 * bnat (bitOf st.toNat 2) + 4 * bnat x.calBad + 8 * bnat (bitOf st.toNat 3)
      + 16 * x.recBand + 128 * bnat old)
    x.newCnt (s.rd (ACQ_CH_VAL n)).toNat (if old then (stamp32 now).toNat else (s.rd (ACQ_CH_STAMP n)).toNat)
    (s.rd (ACQ_CH_SEQ n)).toNat

/-- The acquisition record of tick 76 (R249), built at its P0 latch. -/
def Dev.acqReport (s : Dev) : List Byte :=
  let now := s.tickNs
  let st := (stamp32 now).toNat
  let cs := (List.range 40).filter fun n => s.bit (ACQ_CH_CFG n) 0
  let ps := (List.range 8).filter fun p => s.pulseMode p != 0
  let qs := (List.range 4).filter fun q => s.bit (ACQ_QUAD_CFG q) 0
  let es := cs.map (s.chainEntry now)
    ++ ps.map (fun p => acqEntry (64 + p) (8 * bnat (s.bit (ACQ_PULSE_STAT p) 0)) 0 (s.rd (ACQ_PULSE_VAL p)).toNat st 0)
    ++ qs.map (fun q => acqEntry (72 + q) 0 0 (s.rd (ACQ_QUAD_POS q)).toNat st (s.rd (ACQ_QUAD_ERR q)).toNat)
  [0x80, 1] ++ leBytes 1 es.length ++ leBytes 1 (bnat (s.bit ACQ_STAT 2)) ++ leBytes 4 s.cycles ++ leBytes 4 st
    ++ [0, 0, 0, 0] ++ es.flatten

/-- NEW restarts after the report. -/
def Dev.acqReported (s : Dev) : Dev :=
  { s with acq.chain := s.acq.chain.map fun (x : ChainSt) => { x with newCnt := 0 } }

end Sys2Proof.Machine
end

