-- ==== Sys2Proof/Machine/Crypto.lean ====
section
/-! DEFINITION. The published functions that the spec names: SHA-256 and SHA-384 (FIPS 180-4), HMAC-SHA-256 (FIPS 198-1),
ECDSA P-384 verification (FIPS 186-5), CRC-32 (R366, R369, R411, R421, R425, R427). -/

namespace Sys2Proof.Machine

/-- Integer cube root rounded down, by trying bits from the highest. -/
def icbrtBits : Nat → Nat → Nat → Nat
  | 0, acc, _ => acc
  | k + 1, acc, v =>
    let t := acc + 2 ^ k
    icbrtBits k (if t * t * t ≤ v then t else acc) v

/-- The first 80 primes: SHA-2's constants are fractional parts of their roots. -/
def shaPrimes : List Nat :=
  (List.range 410).filter fun n => decide (2 ≤ n) && (List.range 21).all fun d => decide (d < 2 ∨ n ≤ d) || n % d != 0

/-- The first 64 bits of the fractional part of the cube root of each prime. -/
def shaK : List Nat := shaPrimes.map fun p => icbrtBits 68 0 (p * 2 ^ 192) % 2 ^ 64

/-- The first w bits of the fractional part of a square root. -/
def sqrtFrac (w p : Nat) : Nat := isqrtBits (w + 5) 0 (p * 2 ^ (2 * w)) % 2 ^ w

/-- Parameters of a SHA-2 function: word width, rounds, and the rotations of its four functions (the last entry of the
small ones is a shift). -/
structure Sha2 where
  w : Nat
  rounds : Nat
  big0 : Nat × Nat × Nat
  big1 : Nat × Nat × Nat
  small0 : Nat × Nat × Nat
  small1 : Nat × Nat × Nat
  deriving DecidableEq, Repr

def sha256Par : Sha2 :=
  { w := 32, rounds := 64, big0 := (2, 13, 22), big1 := (6, 11, 25), small0 := (7, 18, 3), small1 := (17, 19, 10) }

def sha512Par : Sha2 :=
  { w := 64, rounds := 80, big0 := (28, 34, 39), big1 := (14, 18, 41), small0 := (1, 8, 7), small1 := (19, 61, 6) }

/-- Rotate right within w bits. -/
def rotr (w n x : Nat) : Nat := (x / 2 ^ n + x * 2 ^ (w - n)) % 2 ^ w

def bigSigma (h : Sha2) (r : Nat × Nat × Nat) (x : Nat) : Nat :=
  (rotr h.w r.1 x).xor ((rotr h.w r.2.1 x).xor (rotr h.w r.2.2 x))

def smallSigma (h : Sha2) (r : Nat × Nat × Nat) (x : Nat) : Nat :=
  (rotr h.w r.1 x).xor ((rotr h.w r.2.1 x).xor (x / 2 ^ r.2.2))

/-- Message schedule, newest word first. -/
def shaSchedule (h : Sha2) : Nat → List Nat → List Nat
  | 0, ws => ws
  | n + 1, ws =>
    let g (k : Nat) : Nat := ws.getD k 0
    shaSchedule h n ((smallSigma h h.small1 (g 1) + g 6 + smallSigma h h.small0 (g 14) + g 15) % 2 ^ h.w :: ws)

/-- One round on the eight working variables. -/
def shaRound (h : Sha2) (v : List Nat) (kw : Nat × Nat) : List Nat :=
  match v with
  | [a, b, c, d, e, f, g, i] =>
    let ch := (e.land f).xor ((2 ^ h.w - 1 - e).land g)
    let maj := (a.land b).xor ((a.land c).xor (b.land c))
    let t1 := i + bigSigma h h.big1 e + ch + kw.1 + kw.2
    let t2 := bigSigma h h.big0 a + maj
    [(t1 + t2) % 2 ^ h.w, a, b, c, (d + t1) % 2 ^ h.w, e, f, g]
  | _ => v

/-- Compression of one block of 16 words. -/
def shaBlock (h : Sha2) (ks : List Nat) (st block : List Nat) : List Nat :=
  let ws := (shaSchedule h (h.rounds - 16) block.reverse).reverse
  let v := (ks.zip ws).foldl (shaRound h) st
  (st.zip v).map fun p => (p.1 + p.2) % 2 ^ h.w

/-- Groups of n elements. -/
def groupsOf {α : Type} (n : Nat) : Nat → List α → List (List α)
  | 0, _ => []
  | k + 1, xs => xs.take n :: groupsOf n k (xs.drop n)

/-- A message padded to whole blocks, as words. -/
def shaWords (h : Sha2) (msg : List Byte) : List Nat :=
  let wb := h.w / 8
  let blk := 16 * wb
  let body := msg ++ [0x80]
  let zeros := (2 * blk - (body.length + 2 * wb) % blk) % blk
  let all := body ++ List.replicate zeros 0 ++ beBytes (2 * wb) (8 * msg.length)
  (groupsOf wb (all.length / wb) all).map beNat

/-- A SHA-2 digest of the first `out` words. -/
def sha2 (h : Sha2) (ks init : List Nat) (out : Nat) (msg : List Byte) : List Byte :=
  let ws := shaWords h msg
  let st := (groupsOf 16 (ws.length / 16) ws).foldl (shaBlock h ks) init
  (st.take out).flatMap (beBytes (h.w / 8))

/-- SHA-256. -/
def sha256 (msg : List Byte) : List Byte :=
  sha2 sha256Par ((shaK.take 64).map (· / 2 ^ 32)) ((shaPrimes.take 8).map (sqrtFrac 32)) 8 msg

/-- SHA-384. -/
def sha384 (msg : List Byte) : List Byte :=
  sha2 sha512Par shaK (((shaPrimes.drop 8).take 8).map (sqrtFrac 64)) 6 msg

/-- HMAC-SHA-256. -/
def hmac256 (key msg : List Byte) : List Byte :=
  let k := if 64 < key.length then sha256 key else key
  let k := k ++ List.replicate (64 - k.length) 0
  sha256 (k.map (· ^^^ 0x5C) ++ sha256 (k.map (· ^^^ 0x36) ++ msg))

/-- Bytes xored one by one. -/
def xorBytes (a b : List Byte) : List Byte := (a.zip b).map fun p => p.1 ^^^ p.2

/-- One bit step of the reflected CRC-32. -/
def crc32Bits : Nat → Nat → Nat
  | 0, c => c
  | n + 1, c => crc32Bits n (if c % 2 = 1 then (c / 2).xor 0xEDB88320 else c / 2)

/-- CRC-32 (ISO-HDLC, as in ISO 3309). -/
def crc32 (bs : List Byte) : Nat :=
  (bs.foldl (fun c b => crc32Bits 8 (c.xor b.toNat)) 0xFFFFFFFF).xor 0xFFFFFFFF

/-- Curve P-384: field prime, group order, coefficient b and base point. -/
def p384P : Nat := 2 ^ 384 - 2 ^ 128 - 2 ^ 96 + 2 ^ 32 - 1
def p384N : Nat :=
  0xFFFFFFFFFFFFFFFFFFFFFFFFFFFFFFFFFFFFFFFFFFFFFFFFC7634D81F4372DDF581A0DB248B0A77AECEC196ACCC52973
def p384B : Nat :=
  0xB3312FA7E23EE7E4988E056BE3F82D19181D9C6EFE8141120314088F5013875AC656398D8A2ED19D2A85C8EDD3EC2AEF
def p384G : Nat × Nat :=
  (0xAA87CA22BE8B05378EB1C71EF320AD746E1D3B628BA79B9859F741E082542A385502F25DBF55296C3A545E3872760AB7,
   0x3617DE4A96262C6F5D9E98BF9292DC29F8F41DBD289A147CE9DA3113B5F0B8C00A60B1CE1D7E819D7A431D7C90EA0E5F)

/-- Power modulo m, by the bits of the exponent from the lowest. -/
def powMod (m : Nat) : Nat → Nat → Nat → Nat
  | 0, _, _ => 1 % m
  | k + 1, x, e => let r := powMod m k (x * x % m) (e / 2); if e % 2 = 1 then x * r % m else r

/-- Inverse modulo a prime below 2^384. -/
def invMod (m x : Nat) : Nat := powMod m 384 (x % m) (m - 2)

/-- Sum of two points of P-384; none is the point at infinity. -/
def p384Add (a b : Option (Nat × Nat)) : Option (Nat × Nat) :=
  match a, b with
  | none, q => q
  | q, none => q
  | some (x1, y1), some (x2, y2) =>
    let p := p384P
    if x1 = x2 ∧ (y1 + y2) % p = 0 then none
    else
      let l := if x1 = x2 then (3 * x1 * x1 + (p - 3)) * invMod p (2 * y1) % p
        else (y2 + (p - y1)) * invMod p (x2 + (p - x1)) % p
      let x := (l * l + (p - x1) + (p - x2)) % p
      some (x, (l * (x1 + (p - x)) + (p - y1)) % p)

/-- A multiple of a point, by the bits of the factor. -/
def p384Mul : Nat → Nat → Option (Nat × Nat) → Option (Nat × Nat)
  | 0, _, _ => none
  | k + 1, e, q =>
    let r := p384Mul k (e / 2) (p384Add q q)
    if e % 2 = 1 then p384Add q r else r

/-- The point lies on the curve. -/
def p384On (q : Nat × Nat) : Bool :=
  decide (q.1 < p384P) && decide (q.2 < p384P)
    && q.2 * q.2 % p384P == (q.1 * q.1 * q.1 + (p384P - 3) * q.1 + p384B) % p384P

/-- ECDSA P-384 verification of a SHA-384 digest. -/
def ecdsaVerify (pub : Nat × Nat) (digest : List Byte) (r s : Nat) : Bool :=
  if r = 0 ∨ p384N ≤ r ∨ s = 0 ∨ p384N ≤ s ∨ p384On pub = false then false
  else
    let w := invMod p384N s
    let e := beNat digest
    match p384Add (p384Mul 384 (e * w % p384N) (some p384G)) (p384Mul 384 (r * w % p384N) (some pub)) with
    | none => false
    | some (x, _) => x % p384N == r

end Sys2Proof.Machine
end

