-- ==== Sys2Proof/Machine/Can.lean ====
section
/-! DEFINITION. CAN FD buses and the dual-feed command profile (chapter 09). -/

namespace Sys2Proof.Machine

/-- CAN_STAT.STATE: 0 active, 1 passive, 2 bus-off, 3 init (R279). -/
def Dev.canState (s : Dev) (c : Nat) : Nat := s.fld (CAN_STAT c) 1 0

/-- The controller is error active or error passive. -/
def Dev.canRunning (s : Dev) (c : Nat) : Bool := decide (s.canState c < 2)

/-- RECOVERING. -/
def Dev.recovering (s : Dev) (c : Nat) : Bool := s.bit (CAN_STAT c) 2

/-- Change of the error state, with its event source (R451). -/
def Dev.setCanState (s : Dev) (c n : Nat) : Dev :=
  if s.canState c = n then s else (s.setFld (CAN_STAT c) 1 0 n).raise (0x30 + c)

/-- TEC and REC (R267, R279). -/
def Dev.setErrs (s : Dev) (c tec rec' : Nat) : Dev :=
  let s := s.setCanc c fun x => { x with txErr := tec, rxErr := rec' }
  (s.setFld (CAN_STAT c) 16 8 (min 511 tec)).setFld (CAN_STAT c) 31 24 (min 255 rec')

/-- Frames in the buffers, the queue and the waiting replacements (R261). -/
def CanCtl.frames (x : CanCtl) : List CanTx :=
  x.tb0.toList ++ x.tb1.toList ++ x.tb2.toList ++ x.queue ++ x.next0.toList ++ x.next2.toList

/-- PENDING and WON bits of CAN_TB_STAT. -/
def CanCtl.tbBits (x : CanCtl) : Nat :=
  let w (t : Option CanTx) : Nat := bnat (t.elim false CanTx.won)
  bnat x.tb0.isSome + 2 * bnat x.tb1.isSome + 4 * bnat x.tb2.isSome + 16 * w x.tb0 + 32 * w x.tb1 + 64 * w x.tb2

/-- CTRL of a stream while it is enabled (R280). -/
def Dev.strCtrl (s : Dev) (i : Nat) : Option Nat :=
  if s.bit (CAN_STR_CFG i) 0 then some (s.fld (CAN_STR_CFG i) 3 1) else none

/-- Streams of a controller, ascending. -/
def Dev.strOf (s : Dev) (c : Nat) : List Nat := (List.range 64).filter fun i => s.strCtrl i == some c

/-- The registers that follow the transmit side (R261, R279, R280). -/
def Dev.showTx (s : Dev) (c : Nat) : Dev :=
  let x := s.canc c
  let s := s.wrN (CAN_LEDGER_HELD c) x.frames.length
  let s := s.setFld (CAN_TB_STAT c) 6 0 x.tbBits
  s.each (s.strOf c) fun d i =>
    d.setBit (CAN_STR_STAT i) 8 ((x.tb1.toList ++ x.queue).any fun t => t.stream == i)

/-- Ledger counts of a controller (R261). -/
def Dev.ledger (s : Dev) (c inn out drop : Nat) : Dev :=
  ((s.cntWrap (CAN_LEDGER_IN c) 31 0 inn).cntWrap (CAN_LEDGER_OUT c) 31 0 out).cntWrap (CAN_LEDGER_DROP c) 31 0 drop

/-- Words of a data field, word w of the bytes. -/
def dataWord (bs : List Byte) (w : Nat) : Word := BitVec.ofNat 32 (u32 bs (4 * w))

/-- Identifier word of a frame, in the layout of CAN_RXF_ID (R279). -/
def idWord (f : CanFrame) : Nat := f.id.toNat + 2 ^ 29 * bnat f.ide + 2 ^ 30 * bnat f.fdf + 2 ^ 31 * bnat f.brs

/-- Control word of a received frame (R279). -/
def ctlWord (r : CanRx) : Nat := r.frame.dlc.toNat + 16 * bnat r.frame.esi + 256 * r.filter

/-- The FIFO's registers show its head frame (R264, R279). -/
def Dev.showRxf (s : Dev) (c : Nat) : Dev :=
  let q := (s.canc c).rxf
  let s := s.setFld (CAN_RXF_STAT c) 6 0 q.length
  let h := q.head?
  let s := s.wrN (CAN_RXF_ID c) (h.elim 0 fun r => idWord r.frame)
  let s := s.wrN (CAN_RXF_CTL c) (h.elim 0 ctlWord)
  let s := s.wr (CAN_RXF_STAMP c) (h.elim 0 CanRx.stamp)
  s.each (List.range 16) fun d w => d.wr (CAN_RXF_DATA c w) (h.elim 0 fun r => dataWord r.frame.data w)

/-- The high-priority buffer's registers (R263, R279). -/
def Dev.showHp (s : Dev) (c : Nat) : Dev :=
  match (s.canc c).hp with
  | none => s
  | some r =>
    let s := ((s.wrN (CAN_HP_ID c) (idWord r.frame)).wrN (CAN_HP_CTL c) (ctlWord r)).wr (CAN_HP_STAMP c) r.stamp
    s.each (List.range 16) fun d w => d.wr (CAN_HP_DATA c w) (dataWord r.frame.data w)

/-- Bytes of a data length code (ISO 11898-1); a classical frame holds at most 8. -/
def dlcBytes (fdf : Bool) (dlc : Nat) : Nat :=
  if dlc ≤ 8 then dlc
  else if !fdf then 8
  else [12, 16, 20, 24, 32, 48, 64].getD (dlc - 9) 64

/-- The next queued command frame moves to an empty TB1 (R270). -/
def Dev.refill (s : Dev) (c : Nat) : Dev :=
  s.setCanc c fun x => match x.tb1, x.queue with
    | none, t :: q => { x with tb1 := some t, queue := q }
    | _, _ => x

/-- A host frame leaves TB2: its completion with DETAIL 0 sent, 1 cancelled or replaced, 2 flushed (R441). -/
def Dev.hostFrameEnd (s : Dev) (t : CanTx) (detail : Nat) : Dev :=
  match t.host with
  | none => s
  | some (p, idx, typ, tag) => s.complete p typ idx 0 tag detail

/-- A time reference message that is not sent leaves no previous message to describe (R269). -/
def Dev.trefForget (s : Dev) (c : Nat) : Dev := s.setCanc c fun x => { x with trefPrev := none }

/-- Bus-off flushes the buffers and the queue (R260). -/
def Dev.canFlush (s : Dev) (c : Nat) : Dev :=
  let fs := (s.canc c).frames
  let s := s.setCanc c fun x => { x with
    tb0 := none, tb1 := none, tb2 := none, queue := [], next0 := none, next2 := none, trefPrev := none }
  let s := (s.ledger c 0 0 fs.length).showTx c
  s.each fs fun d t => d.hostFrameEnd t 2

/-- Recovery starts (R267). -/
def Dev.startRecovery (s : Dev) (c : Nat) : Dev :=
  if s.canState c = 2 ∧ !s.recovering c then (s.setBit (CAN_STAT c) 2 true).raise (0x30 + c) else s

/-- Bus-off (R267). -/
def Dev.busOff (s : Dev) (c : Nat) : Dev :=
  let s := (s.setCanState c 2).canFlush c
  let s := s.cntSat (CAN_ERR_CNT c) 15 0 1
  let s := s.ev 0x0903 c (s.fld (CAN_ERR_CNT c) 15 0)
  if s.bit (CAN_CTRL c) 3 then s.startRecovery c else s

/-- The error state follows the counts (R267). -/
def Dev.checkErrs (s : Dev) (c : Nat) : Dev :=
  let x := s.canc c
  if !s.canRunning c then s
  else if 255 < x.txErr then s.busOff c
  else if s.canState c = 0 ∧ (127 < x.txErr ∨ 127 < x.rxErr) then (s.setCanState c 1).ev 0x0901 c x.txErr
  else if s.canState c = 1 ∧ x.txErr ≤ 127 ∧ x.rxErr ≤ 127 then (s.setCanState c 0).ev 0x0902 c x.txErr
  else s

/-- Cycles of CANCLK in a nominal bit and in a data bit (R255, R279). -/
def nomCycles (w : Word) : Nat :=
  (bitsOf w.toNat 4 0 + 1) * (3 + bitsOf w.toNat 12 5 + bitsOf w.toNat 19 13)
def datCycles (w : Word) : Nat :=
  (bitsOf w.toNat 4 0 + 1) * (3 + bitsOf w.toNat 9 5 + bitsOf w.toNat 13 10)

/-- Why a controller refuses to leave INIT: 1 nominal, 2 data, 3 TDC; 0 where it does not (R255, R278). -/
def timingFault (nbt dbt : Word) (fd : Bool) : Nat :=
  let n := nomCycles nbt
  let d := datCycles dbt
  if n < 80 ∨ 640 < n then 1
  else if fd ∧ (d < 10 ∨ n < d) then 2
  else if fd ∧ d < 80 ∧ !bitOf dbt.toNat 18 then 3
  else 0

/-- The controller leaves INIT, or refuses (R255, R257). -/
def Dev.leaveInit (s : Dev) (c : Nat) : Dev :=
  let fd := s.bit (CAN_CTRL c) 1
  match timingFault (s.rd (CAN_NBT c)) (s.rd (CAN_DBT c)) fd with
  | 0 =>
    let s := (s.setBit (CAN_CTRL c) 0 false).setCanc c fun x => { x with fd := fd, trefPrev := none }
    ((s.setErrs c 0 0).setBit (CAN_STAT c) 2 false).setCanState c 0
  | w => (s.setBit (CAN_CTRL c) 0 true).ev 0x090A c w

/-- A frame that is being sent is broken off. -/
def CanCtl.unwin (x : CanCtl) : CanCtl :=
  let f (t : CanTx) : CanTx := { t with won := false }
  { x with tb0 := x.tb0.map f, tb1 := x.tb1.map f, tb2 := x.tb2.map f }

/-- INIT is set (R267). -/
def Dev.enterInit (s : Dev) (c : Nat) : Dev :=
  let s := s.setCanc c fun x => { x.unwin with trefPrev := none }
  (((s.setErrs c 0 0).setBit (CAN_STAT c) 2 false).setCanState c 3).showTx c

/-- Write of RECOVER (R267). -/
def Dev.canRecover (s : Dev) (c : Nat) : Dev := s.startRecovery c

/-- The controller carries a command stream (R257). -/
def Dev.carries (s : Dev) (c : Nat) : Bool := (s.strOf c) != []

/-- A write to CAN_CTRL, CAN_NBT, CAN_DBT or CAN_TREF_CFG is discarded in service (R257). -/
def Dev.canLocked (s : Dev) (c : Nat) : Bool := s.inService && s.carries c

/-- A write to CAN_CTRL (R255, R257, R267). -/
def Dev.canCtrl (s : Dev) (c : Nat) (v : Word) : Dev :=
  let s := if bitOf v.toNat 5 then s.canRecover c else s
  if s.canLocked c then
    if bitOf v.toNat 5 ∧ bitsOf v.toNat 4 0 = s.fld (CAN_CTRL c) 4 0 then s else s.ev 0x090D c 0
  else
    let was := s.bit (CAN_CTRL c) 0
    let s := s.store (CAN_CTRL c) v
    if was && !bitOf v.toNat 0 then s.leaveInit c
    else if !was && bitOf v.toNat 0 then s.enterInit c
    else if bitOf v.toNat 3 then s.startRecovery c
    else s

/-- AUTOSTART at the first cycle boundary after local time first becomes valid (R257). -/
def Dev.autostart (s : Dev) (c : Nat) : Dev :=
  if s.timeValid && !(s.canc c).auto then
    let s := s.setCanc c fun x => { x with auto := true }
    if s.bit (CAN_GCFG c) 0 && s.bit (CAN_CTRL c) 0 then s.leaveInit c else s
  else s

/-- A frame enters an empty TB2, or replaces the one there (R258, R259). -/
def Dev.tb2Put (s : Dev) (c : Nat) (t : CanTx) : Dev :=
  let s := s.ledger c 1 0 0
  match (s.canc c).tb2 with
  | none => (s.setCanc c fun x => { x with tb2 := some t }).showTx c
  | some old =>
    if old.won then
      let n := (s.canc c).next2.toList
      let s := (((s.setCanc c fun x => { x with next2 := some t }).ledger c 0 0 n.length)).showTx c
      s.each n fun d x => d.hostFrameEnd x 1
    else
      ((((s.setCanc c fun x => { x with tb2 := some t }).ledger c 0 0 1).showTx c)).hostFrameEnd old 1

/-- The frame that the TB2 registers hold (R258, R279); FDF counts only with FD_EN = 1 (R254). -/
def Dev.tb2Frame (s : Dev) (c dlc : Nat) : CanFrame :=
  let w := (s.rd (CAN_TB2_ID c)).toNat
  let ide := bitOf w 29
  let fdf := bitOf w 30 && (s.canc c).fd
  let bytes := ((List.range 16).map fun k => leBytes 4 (s.rd (CAN_TB2_DATA c k)).toNat).flatten
  { id := BitVec.ofNat 29 (if ide then w else w % 2048), ide := ide, fdf := fdf, brs := fdf && bitOf w 31, esi := false,
    dlc := BitVec.ofNat 4 dlc, data := bytes.take (dlcBytes fdf dlc) }

/-- CAN_TB2_CTL.REQ (R258). -/
def Dev.tb2Request (s : Dev) (c dlc : Nat) : Dev := s.tb2Put c { frame := s.tb2Frame c dlc }

/-- CAN_TB2_CTL.CANCEL (R259): a frame that waits behind one that has won arbitration is cancelled too. -/
def Dev.tb2Cancel (s : Dev) (c : Nat) : Dev :=
  match (s.canc c).tb2 with
  | none => s
  | some t =>
    if t.won then
      let n := (s.canc c).next2.toList
      let s := s.setCanc c fun x => { x with tb2 := some { t with cancel := true }, next2 := none }
      ((s.ledger c 0 0 n.length).showTx c).each n fun d x => d.hostFrameEnd x 1
    else (((s.setCanc c fun x => { x with tb2 := none }).ledger c 0 0 1).showTx c).hostFrameEnd t 1

/-- CANCEL, then REQ, of one write (R279). -/
def Dev.tb2Ctl (s : Dev) (c : Nat) (v : Word) : Dev :=
  let s := if bitOf v.toNat 9 then s.tb2Cancel c else s
  if bitOf v.toNat 8 then s.tb2Request c (bitsOf v.toNat 3 0) else s

/-- Arbitration order of an identifier: base identifier, format, extension (ISO 11898-1). -/
def arbKey (f : CanFrame) : Nat :=
  if f.ide then f.id.toNat / 2 ^ 18 * 2 ^ 19 + 2 ^ 18 + f.id.toNat % 2 ^ 18 else f.id.toNat % 2048 * 2 ^ 19

/-- Buffer b. -/
def CanCtl.buf (x : CanCtl) (b : Nat) : Option CanTx := if b = 0 then x.tb0 else if b = 1 then x.tb1 else x.tb2

def CanCtl.setBuf (x : CanCtl) (b : Nat) (t : Option CanTx) : CanCtl :=
  if b = 0 then { x with tb0 := t } else if b = 1 then { x with tb1 := t } else { x with tb2 := t }

/-- The pending buffer, of those given, that enters arbitration first (R258). -/
def Dev.arbFirst (s : Dev) (c : Nat) (bs : List Nat) : Option Nat :=
  let x := s.canc c
  let ps := bs.filterMap fun b => (x.buf b).map fun t => (arbKey t.frame, b)
  if s.bit (CAN_CTRL c) 2 then ps.head?.map Prod.snd
  else (ps.foldl (fun (m : Option (Nat × Nat)) p => match m with
      | none => some p
      | some q => if p.1 < q.1 then some p else some q) none).map Prod.snd

/-- A buffer's frame wins arbitration (R258, R259); late names buffers that became pending after its SOF. -/
def Dev.arbWon (s : Dev) (c b : Nat) (late : List Nat) : Dev :=
  let x := s.canc c
  let bs := [0, 1, 2].filter fun k => !late.contains k
  if s.canRunning c && !s.bit (CAN_CTRL c) 4 && s.arbFirst c bs == some b && x.frames.all (fun t => !t.won) then
    let passive := s.canState c == 1
    let s := s.setCanc c fun x => x.setBuf b ((x.buf b).map fun (t : CanTx) =>
      { t with won := true, frame.esi := t.frame.fdf && passive })
    (s.setCanc c fun x => { x with integrating := false }).showTx c
  else s

/-- A buffer's frame loses arbitration and stays pending (R258). -/
def Dev.arbLost (s : Dev) (c b : Nat) : Dev :=
  s.setCanc c fun x => x.setBuf b ((x.buf b).map fun (t : CanTx) => { t with won := false })

/-- A frame completes transmission (R256, R259, R261, R267, R269). -/
def Dev.frameSent (s : Dev) (c b : Nat) (sofNs : Nat) (delay : Byte) : Dev :=
  match (s.canc c).buf b with
  | none => s
  | some t =>
    if !t.won then s
    else
      let x := s.canc c
      let s := s.setCanc c fun x => x.setBuf b none
      let s := (s.ledger c 0 1 0).setBit (CAN_TB_STAT c) (8 + b) true
      let s := s.setErrs c (x.txErr - 1) x.rxErr
      let s := if s.bit (CAN_DBT c) 18 && t.frame.fdf then s.wrN (CAN_TDC_MEAS c) delay.toNat else s
      let s := if b = 0 then
          (s.wrN (CAN_TREF_SOF c) sofNs).setCanc c fun x => { x with trefPrev := some sofNs, tb0 := x.next0, next0 := none }
        else if b = 2 then
          (s.setCanc c fun x => { x with tb2 := x.next2, next2 := none }).hostFrameEnd t 0
        else s.refill c
      let s := if t.cancel then s.ev 0x0905 c b else s
      (s.checkErrs c).showTx c

/-- Value of a receive field in a frame (R266). -/
def rxField (w : Word) (f : CanFrame) : Option Int :=
  let v := w.toNat
  let n := [1, 2, 4, 0].getD (bitsOf v 21 20) 0
  let o := bitsOf v 19 14
  if n = 0 ∨ f.data.length < o + n then none
  else
    let x := leNat (slice f.data o n)
    some (if bitOf v 22 then signed (8 * n) x else (x : Int))

/-- Field slots take their fields from a received frame (R262, R266). -/
def Dev.takeFields (s : Dev) (c : Nat) (f : CanFrame) : Dev :=
  if f.ide then s
  else s.each (List.range 256) fun d k =>
    let w := d.rd (CAN_RX_FLD k)
    if bitOf w.toNat 23 && bitsOf w.toNat 2 0 == c && bitsOf w.toNat 13 3 == f.id.toNat then
      match rxField w f with
      | some v => { d with can.field := modAt d.can.field k fun x => { x with fresh := some v } }
      | none => d
    else d

/-- The first filter that matches, with its HP bit (R262). -/
def Dev.canFilter (s : Dev) (c : Nat) (f : CanFrame) : Option (Nat × Bool) :=
  (firstBelow 64 fun k =>
    let w := s.rd (CAN_FLT_ID c k)
    let m := s.rd (CAN_FLT_MASK c k)
    bitOf w.toNat 30 && bitOf w.toNat 29 == f.ide &&
      ((BitVec.ofNat 32 f.id.toNat ^^^ (w &&& 0x1FFFFFFF)) &&& m) == 0).map
    fun k => (k, s.bit (CAN_FLT_ID c k) 31)

/-- A frame goes to the high-priority buffer (R263). -/
def Dev.hpTake (s : Dev) (c : Nat) (r : CanRx) : Dev :=
  let s := if s.bit (CAN_HP_STAT c) 0 then (s.setBit (CAN_HP_STAT c) 1 true).ev 0x0908 c r.frame.id.toNat else s
  let s := (s.setBit (CAN_HP_STAT c) 0 true).setCanc c fun x => { x with hp := some r }
  (s.showHp c).raise (0x28 + c)

/-- A frame goes to the FIFO (R264). -/
def Dev.fifoTake (s : Dev) (c : Nat) (r : CanRx) : Dev :=
  let x := s.canc c
  if 64 ≤ x.rxf.length then
    let s := s.cntSat (CAN_RXF_STAT c) 31 16 1
    if x.ovrSaid then s
    else (s.setCanc c fun x => { x with ovrSaid := true }).ev 0x0907 c (s.fld (CAN_RXF_STAT c) 31 16)
  else
    let s := (s.setCanc c fun x => { x with rxf := x.rxf ++ [r] }).showRxf c
    if x.rxf.isEmpty then s.raise (0x38 + c) else s

/-- A received frame (R254, R262 to R267); res tells of a recessive res bit in an FD frame. -/
def Dev.frameReceived (s : Dev) (c : Nat) (f : CanFrame) (res : Bool) (stamp : Word) : Dev :=
  let x := s.canc c
  let frozen := s.bit (CAN_CTRL c) 4
  if !s.canRunning c then s
  else if f.fdf && !x.fd then
    if frozen then s else (s.setErrs c x.txErr (min 255 (x.rxErr + 1))).checkErrs c
  else if f.fdf && res then (s.setCanc c fun x => { x with integrating := true }).ev 0x090B c 0
  else
    let s := s.setCanc c fun x => { x with integrating := false }
    let s := if frozen then s
      else if 127 < x.rxErr then (s.setErrs c x.txErr (119 + Config.recAfter s.seq.freeCtr % 9)).spend
      else s.setErrs c x.txErr (x.rxErr - 1)
    let s := (s.checkErrs c).takeFields c f
    match s.canFilter c f with
    | none => s
    | some (k, hp) =>
      let r : CanRx := { frame := f, filter := k, stamp := stamp }
      if hp then s.hpTake c r else s.fifoTake c r

/-- CAN_HP_RELEASE (R263). -/
def Dev.hpRelease (s : Dev) (c : Nat) : Dev := s.setBit (CAN_HP_STAT c) 0 false

/-- CAN_RXF_POP (R264). -/
def Dev.fifoPop (s : Dev) (c : Nat) : Dev :=
  if (s.canc c).rxf.isEmpty then s
  else (s.setCanc c fun x => { x with rxf := x.rxf.tail, ovrSaid := false }).showRxf c

/-- Count of a replaced stream frame (R271). -/
def Dev.replaced (s : Dev) (c i : Nat) : Dev :=
  if i < 64 then (s.cntSat (CAN_STR_STAT i) 31 16 1).ev 0x0909 c i else s

/-- What waits for a frame that has won is honoured when that frame meets an error (R259, R271). -/
def Dev.honour (s : Dev) (c : Nat) : Dev :=
  let x := s.canc c
  let w (t : Option CanTx) : Bool := t.elim false CanTx.won
  let s := if w x.tb0 && x.next0.isSome then
      (s.setCanc c fun x => { x with tb0 := x.next0, next0 := none, trefPrev := none }).ledger c 0 0 1
    else s
  let s := match x.tb2 with
    | none => s
    | some t =>
      if t.won && (x.next2.isSome || t.cancel) then
        ((s.setCanc c fun x => { x with tb2 := x.next2, next2 := none }).ledger c 0 0 1).hostFrameEnd t 1
      else s
  let s := match x.tb1 with
    | none => s
    | some t =>
      match x.queue.find? fun (q : CanTx) => q.stream == t.stream && decide (t.stream < 64) with
      | some q =>
        if t.won then
          ((s.setCanc c fun x => { x with tb1 := some q, queue := x.queue.filter fun r => r.stream != t.stream }).ledger
            c 0 0 1).replaced c t.stream
        else s
      | none => s
  (s.setCanc c CanCtl.unwin).showTx c

/-- A detected bus error (R259, R267, R268). -/
def Dev.canError (s : Dev) (c : Nat) (k : CanErrKind) (conflict : Bool) : Dev :=
  if !s.canRunning c then s
  else
    let x := s.canc c
    let s := match x.frames.find? CanTx.won with
      | some t =>
        if conflict then (s.cntSat (CAN_ERR_CNT c) 31 16 1).ev 0x0906 c t.frame.id.toNat else s
      | none => s
    let s :=
      if s.bit (CAN_CTRL c) 4 then s
      else match k with
        | .transmit => s.setErrs c (x.txErr + 8) x.rxErr
        | .receive => s.setErrs c x.txErr (min 255 (x.rxErr + 1))
        | .receiveDominant => s.setErrs c x.txErr (min 255 (x.rxErr + 8))
        | .transmitUncounted => s
    (s.honour c).checkErrs c

/-- 128 occurrences of 11 recessive bits (R267). -/
def Dev.recoveryDone (s : Dev) (c : Nat) : Dev :=
  if s.recovering c then
    (((s.setErrs c 0 0).setBit (CAN_STAT c) 2 false).setCanState c 0).ev 0x0904 c 0
  else s

/-- A frame is not built for a controller that does not run (R270). -/
def Dev.skipFrame (s : Dev) (c i : Nat) : Dev :=
  if s.can.skipSaid.contains (c, i) then s
  else { s with can.skipSaid := (c, i) :: s.can.skipSaid }.ev 0x090C c i

/-- A frame has been enqueued: the next skipped one records its event again (R270). -/
def Dev.unskip (s : Dev) (c i : Nat) : Dev :=
  { s with can.skipSaid := s.can.skipSaid.filter fun p => p != (c, i) }

/-- A command frame enters the queue, or takes the place of its stream's older frame (R270, R271). -/
def Dev.enqueue (s : Dev) (c : Nat) (t : CanTx) : Dev :=
  let x := s.canc c
  let s := (s.ledger c 1 0 0).unskip c t.stream
  let own (q : CanTx) : Bool := q.stream == t.stream && decide (t.stream < 64)
  let s :=
    if x.queue.any own then
      ((s.setCanc c fun x => { x with queue := x.queue.map fun q => if own q then t else q }).ledger c 0 0 1).replaced c
        t.stream
    else match x.tb1 with
      | some o =>
        if own o && !o.won then
          ((s.setCanc c fun x => { x with tb1 := some t }).ledger c 0 0 1).replaced c t.stream
        else if 8 ≤ x.queue.length then s.ledger c 0 0 1
        else s.setCanc c fun x => { x with queue := x.queue ++ [t] }
      | none => (s.setCanc c fun x => { x with queue := x.queue ++ [t] }).refill c
  s.showTx c

/-- TAI of the present tick's boundary in ticks of 250 µs, or the count of R273 without alignment. -/
def Dev.tickNo (s : Dev) : Nat :=
  if s.bit GLB_TICK_STAT 8 then (roundRat (s.clk.localNs / 250000)).toNat else s.cycles * 80 + s.tick

/-- STANDING and SHADOW of the sender (R272, R313). -/
def Dev.feedBits (s : Dev) : Bool × Bool :=
  if s.fld STAND_STAT 1 0 = 3 ∧ !s.bit STAND_STAT 2 then (true, false) else (s.stand.standing, s.stand.shadow)

/-- Contexts that write to a command field slot (R69, R274). -/
def Dev.slotWriter (s : Dev) (k : Nat) : Option Nat :=
  (List.range 128).find? fun c => c != 0 && s.rate c != 0 && s.bit (LOOP_CTX_OUT c) 8 && s.fld (LOOP_CTX_OUT c) 7 0 == k

/-- Put bytes at an offset of a list. -/
def putBytes (bs : List Byte) (o : Nat) (xs : List Byte) : List Byte := bs.take o ++ xs ++ bs.drop (o + xs.length)

/-- Data bytes of a stream's command frame (R272, R274). -/
def Dev.streamBytes (s : Dev) (i sq : Nat) : List Byte :=
  let c2 := (s.rd (CAN_STR_CFG2 i)).toNat
  let fd := (s.canc (s.fld (CAN_STR_CFG i) 3 1)).fd
  let n := dlcBytes fd (bitsOf c2 3 0)
  let slots := (List.range 256).filterMap fun k =>
    if s.fld (CAN_CMD_FLD k) 5 0 = i then (s.slotWriter k).map fun c => (k, c) else none
  let clr := s.mode != 2 || slots.all fun p => decide (s.ctxState p.2 ≤ 1)
  let fb := s.feedBits
  let head : List Byte := leBytes 1 sq
    ++ leBytes 1 (bnat fb.1 + 2 * bnat fb.2 + 4 * bnat clr + 8 * bnat (!s.bit GLB_TICK_STAT 8))
    ++ leBytes 1 (s.fld STAND_STAT 11 8 + 16) ++ leBytes 1 (bitsOf c2 15 8)
  let base := head ++ List.replicate (n - 4) 0
  (slots.foldl (fun bs p =>
    let w := (s.rd (CAN_CMD_FLD p.1)).toNat
    let len := if bitOf w 12 then 4 else 2
    let v : Int := if s.ctxState p.2 = 1 then 0 else roundRat (s.pbv (LOOP_CTX_OUTV p.2) / pow2 (signed 8 (bitsOf w 20 13)))
    putBytes bs (bitsOf w 11 6) (leBytes len (unsigned (8 * len) v))) base).take n

/-- A stream due in a tick builds and enqueues its frame, or skips it (R270 to R273). -/
def Dev.streamDue (s : Dev) (i : Nat) : Dev :=
  let cfg := (s.rd (CAN_STR_CFG i)).toNat
  let c := bitsOf cfg 3 1
  let sq := s.tickNo / bitsOf cfg 21 15 % 256
  if s.canRunning c then
    let c2 := (s.rd (CAN_STR_CFG2 i)).toNat
    let fd := (s.canc c).fd
    let f : CanFrame := { id := BitVec.ofNat 29 (bitsOf cfg 14 4), ide := false, fdf := fd, brs := fd && bitOf c2 4,
                          esi := false, dlc := BitVec.ofNat 4 c2, data := s.streamBytes i sq }
    (s.setFld (CAN_STR_STAT i) 7 0 sq).enqueue c { frame := f, stream := i }
  else (s.cntSat (CAN_STR_STAT i) 15 9 1).skipFrame c i

/-- The device sends command streams: not a Warden, and neither strap refused (R311, R313, R470). -/
def Dev.sendsStreams (s : Dev) : Bool :=
  s.fld STAND_STAT 1 0 != 2 && !s.bit STAND_STAT 2 && s.fld STAND_STAT 11 8 != 15

/-- Command streams of P3 (R270). -/
def Dev.streamsP3 (s : Dev) (n : Nat) : Dev :=
  if s.sendsStreams then
    s.each ((List.range 64).filter fun i =>
      s.bit (CAN_STR_CFG i) 0 && isDivider (s.fld (CAN_STR_CFG i) 21 15)
        && n % s.fld (CAN_STR_CFG i) 21 15 == s.fld (CAN_STR_CFG i) 28 22) Dev.streamDue
  else s

/-- Data of the time reference message (R269). -/
def Dev.trefBytes (s : Dev) (c : Nat) (prev : Option Int) : List Byte :=
  let p := prev.getD 0
  leBytes 1 (s.canc c).tseq ++ leBytes 1 (bnat prev.isSome + 2 * s.tstate)
    ++ leBytes 2 (p / 1000000000).toNat ++ leBytes 4 (p % 1000000000).toNat

/-- TB0 of a controller in P3 of tick 0 of a due cycle (R269, R270). -/
def Dev.trefLoad (s : Dev) (c : Nat) : Dev :=
  let cfg := (s.rd (CAN_TREF_CFG c)).toNat
  let per := min 50 (max 1 (bitsOf cfg 17 12))
  if !bitOf cfg 0 || !s.timeValid || s.cycles % per != 0 then s
  else if !s.canRunning c then s.skipFrame c 64
  else
    let x := s.canc c
    let prev := if x.tb0.isSome then none else x.trefPrev
    let f : CanFrame := { id := BitVec.ofNat 29 (bitsOf cfg 11 1), ide := false, fdf := x.fd, brs := x.fd, esi := false,
                          dlc := 8, data := s.trefBytes c prev }
    let t : CanTx := { frame := f, stream := 64 }
    let s := (s.ledger c 1 0 0).unskip c 64
    let s := s.setCanc c fun x => { x with tseq := (x.tseq + 1) % 256 }
    let s := match x.tb0 with
      | none => s.setCanc c fun x => { x with tb0 := some t }
      | some o =>
        if o.won then (s.setCanc c fun x => { x with next0 := some t }).ledger c 0 0 x.next0.toList.length
        else (s.setCanc c fun x => { x with tb0 := some t, trefPrev := none }).ledger c 0 0 1
    s.showTx c

/-- Time reference messages of P3 of tick 0 (R269). -/
def Dev.trefP3 (s : Dev) : Dev := s.each (List.range 8) Dev.trefLoad

/-- P0 latch of the receive fields (R266). -/
def Dev.canP0 (s : Dev) : Dev :=
  s.each (List.range 256) fun d k =>
    let x := d.can.field.getD k {}
    if d.bit (CAN_RX_FLD k) 23 then
      match x.fresh with
      | some v =>
        { d.wr (CAN_RX_VAL k) (BitVec.ofInt 32 v) with
          can.field := setAt d.can.field k { val := some v, age := some 0, fresh := none } }
      | none => { d with can.field := setAt d.can.field k { x with age := x.age.map (· + 1) } }
    else if x = {} then d
    else { d with can.field := setAt d.can.field k {} }

/-- A write to a register of a CAN page that has an effect of its own (R257, R258, R263, R264). -/
def Dev.canWrite (s : Dev) (a : Nat) (v : Word) : Dev :=
  let c := (a - canPage 0) / 0x1000
  let o := (a - canPage 0) % 0x1000
  if 8 ≤ c then s
  else if o = 0 then s.canCtrl c v
  else if o = 0x004 ∨ o = 0x008 ∨ o = 0x030 then if s.canLocked c then s.ev 0x090D c o else s.store a v
  else if o = 0x304 then s.tb2Ctl c v
  else if o = 0x410 then if bitOf v.toNat 0 then s.fifoPop c else s
  else if o = 0x510 then if bitOf v.toNat 0 then s.hpRelease c else s
  else s.store a v

/-- A controller that carries a command stream is in bus-off or Recovering (R314). -/
def Dev.busOffCarrier (s : Dev) : Bool := (List.range 8).any fun c => s.carries c && s.canState c == 2

/-- Level of CANn_TX at rest: recessive while INIT = 1, in bus-off and during a reset (R257, R267, R461). -/
def Dev.canTxRecessive (s : Dev) (c : Nat) : Bool := !s.canRunning c || s.rst.run.isSome

end Sys2Proof.Machine
end

