-- ==== Sys2Proof/Machine/Net.lean ====
section
/-! DEFINITION. Ring ports, redundancy protocols and network time (chapter 10). -/

namespace Sys2Proof.Machine

/-- MODE in force: 0 off, 1 plain, 2 HSR, 3 PRP (R281). -/
def Dev.netMode (s : Dev) : Nat := bitsOf s.net.cfg.toNat 1 0

/-- Port number of an event. -/
def portNo (b : Bool) : Nat := if b then 1 else 0

def Dev.port (s : Dev) (b : Bool) : NetPort := if b then s.net.b else s.net.a

def Dev.setPort (s : Dev) (b : Bool) (f : NetPort → NetPort) : Dev :=
  if b then { s with net.b := f s.net.b } else { s with net.a := f s.net.a }

/-- LINK of a port. -/
def Dev.linkUp (s : Dev) (b : Bool) : Bool := s.bit NET_STAT (portNo b)

/-- RATE of a port in force: 0 10GBASE-R, 1 1000BASE-X, 2 fallback (R309). -/
def Dev.portRate (s : Dev) (b : Bool) : Nat := min 2 (bitsOf s.net.cfg.toNat (if b then 5 else 3) (if b then 4 else 2))

/-- A span of ms that began at a tick boundary may have passed by the end of the present tick, in CTLCLK cycles. -/
def Dev.spanOver (s : Dev) (start ms : Nat) : Bool := decide (start + 312500 * ms < s.seq.cyc + 117188)

/-- A span of ms that began at a tick boundary had passed at the last tick boundary. -/
def Dev.spanPast (s : Dev) (start ms : Nat) : Bool := decide (start + 312500 * ms < s.seq.cyc)

/-- The port runs at a rate that its RATE admits: the alternation's present one with automatic fallback (R282). -/
def Dev.rateOk (s : Dev) (b gig1 : Bool) : Bool :=
  gig1 == (s.portRate b == 1 || (s.portRate b == 2 && (s.port b).try1g))

/-- The port's automatic fallback switches its rate (R282). -/
def Dev.rateFallback (s : Dev) (b : Bool) : Dev :=
  if s.netMode != 0 && s.portRate b == 2 && !s.linkUp b then s.setPort b fun p => { p with try1g := !p.try1g } else s

/-- Link up (R282). -/
def Dev.portUp (s : Dev) (b gig1 : Bool) : Dev :=
  if s.netMode = 0 ∨ s.linkUp b ∨ !s.rateOk b gig1 then s
  else
    let s := (s.setBit NET_STAT (portNo b) true).setBit NET_STAT (2 + portNo b) gig1
    (s.ev 0x0A01 (portNo b) (bnat gig1)).raise 0x46

/-- Link down: the alternation starts again (R282). -/
def Dev.portDown (s : Dev) (b : Bool) : Dev :=
  if s.linkUp b then
    let s := ((s.setBit NET_STAT (portNo b) false).setBit NET_STAT (2 + portNo b) false).setPort b fun p =>
      { p with try1g := false }
    (s.ev 0x0A02 (portNo b) 0).raise 0x46
  else s

/-- Bytes of the own MAC address as one number, first byte most significant (R283). -/
def Dev.ownMac (s : Dev) : BitVec 48 :=
  let hi := (s.rd NET_MAC_HI).toNat
  let lo := (s.rd NET_MAC_LO).toNat
  BitVec.ofNat 48 (beNat (leBytes 2 hi ++ leBytes 4 lo))

/-- NET_BRF_DST (R291). -/
def Dev.brfDst (s : Dev) : BitVec 48 :=
  BitVec.ofNat 48 (beNat (leBytes 2 (s.rd NET_BRF_DST_HI).toNat ++ leBytes 4 (s.rd NET_BRF_DST_LO).toNat))

/-- Ethernet multicast address of an IPv4 group (RFC 1112). -/
def groupMac (ip : Nat) : BitVec 48 := BitVec.ofNat 48 (0x01005E000000 + ip % 2 ^ 23)

/-- Groups whose datagrams the device accepts (R291, R293). -/
def Dev.mcGroups (s : Dev) : List Nat :=
  let m := ((List.range 4).map fun k => (s.rd (NET_MCAST k)).toNat).filter (· != 0)
  if bitOf s.net.cfg.toNat 8 then (s.rd NET_450_GRP).toNat :: m else m

/-- Multicast addresses of PTP in the profile, end to end and link local. -/
def ptpMac : BitVec 48 := 0x011B19000000
def pdelayMac : BitVec 48 := 0x0180C200000E

/-- Supervision multicast address of IEC 62439-3. -/
def supMac : BitVec 48 := 0x01154E000100

/-- The destination is one the device takes frames for (R285). -/
def Dev.dstOk (s : Dev) (d : BitVec 48) : Bool :=
  d == s.ownMac || d == 0xFFFFFFFFFFFF || d == s.brfDst || d == ptpMac || d == pdelayMac
    || s.mcGroups.any (fun g => groupMac g == d)

/-- UDP port of Thicket reports (R369). -/
def Dev.thktPort (s : Dev) : Nat := s.fld THKT_UDP 15 0

/-- The device takes in a delivered frame (R291); a fragment of an IP datagram is dropped (R2). -/
def Dev.listed (s : Dev) (f : NetFrame) : Bool :=
  if f.etype = 0x88F7 then true
  else if f.etype = 0x88B5 then f.dst == s.brfDst
  else if f.etype = 0x0800 ∧ !f.frag then
    let ip := f.dstIp.toNat
    let here := ip == (s.rd NET_IP).toNat || ip == 0xFFFFFFFF || s.mcGroups.contains ip
    here && (f.udpPort == s.fld EST_REF_UDP 15 0 || f.udpPort == s.thktPort
      || (bitOf s.net.cfg.toNat 8 && ip == (s.rd NET_450_GRP).toNat && f.udpPort == s.fld NET_450_PORT 15 0))
  else false

/-- A frame is delivered (R291): what an accepted frame carries has commands of its own. -/
def Dev.deliverNet (s : Dev) (f : NetFrame) : Dev :=
  if s.listed f then s else s.cntSat NET_UNK_CNT 31 0 1

/-- A bad frame is counted on its port (R283, R287). -/
def Dev.rxErr (s : Dev) (b : Bool) : Dev := if b then s.cntSat NET_RX_ERR 31 16 1 else s.cntSat NET_RX_ERR 15 0 1

/-- Put an entry in a duplicate table, with eviction from a full one (R286). -/
def Dev.dupAdd (s : Dev) (delivery : Bool) (e : DupEntry) : Dev :=
  let t := if delivery then s.net.delTab else s.net.fwdTab
  let put (d : Dev) (t : List DupEntry) : Dev :=
    if delivery then { d with net.delTab := t } else { d with net.fwdTab := t }
  if 4096 ≤ t.length then
    let s := (put s (t.tail ++ [e])).cntSat NET_EVICT_CNT 31 0 1
    s.evW 0x0A05 (BitVec.ofNat 32 (bnat delivery)) (s.rd NET_EVICT_CNT)
  else put s (t ++ [e])

/-- DD_FORGET in ms; 0 acts as 1 (R309). -/
def Dev.forgetMs (s : Dev) : Nat := max 1 (s.fld NET_DD_CFG 9 0)

/-- A table holds a live entry of a frame's source and sequence number (R286). -/
def Dev.dupHas (s : Dev) (t : List DupEntry) (f : NetFrame) : Bool :=
  t.any fun e => e.src == f.src && e.seq == f.seq && !s.spanPast e.made s.forgetMs

/-- The entry that a frame on a port makes (R286). -/
def Dev.dupOf (s : Dev) (f : NetFrame) (b : Bool) : DupEntry := { src := f.src, seq := f.seq, portB := b, made := s.seq.cyc }

/-- Bytes in a port's buffer. -/
def Dev.buffered (s : Dev) (b : Bool) : Nat := ((s.port b).egress.map fun t => t.frame.len).sum

/-- A port's buffer of 256 KiB has room for a frame (R288). -/
def Dev.egressRoom (s : Dev) (b : Bool) (f : NetFrame) : Bool := decide (s.buffered b + f.len ≤ 262144)

/-- A frame waits at an egress port, or finds its buffer full (R288); a port without a link takes none (R281). -/
def Dev.egressPut (s : Dev) (b : Bool) (t : NetTx) : Dev :=
  if !s.linkUp b ∨ s.netMode = 0 then s
  else if !s.egressRoom b t.frame then
    let s := s.cntSat NET_DROP_CNT 31 0 1
    s.evW 0x0A06 (BitVec.ofNat 32 (portNo b)) (s.rd NET_DROP_CNT)
  else s.setPort b fun p => { p with egress := p.egress ++ [t] }

/-- 2 × LIFE_MS; below 100 acts as 100 (R289, R309). -/
def Dev.supMs (s : Dev) : Nat := 2 * max 100 (s.fld NET_SUP_CFG 15 0)

/-- An own supervision frame returns on a port (R289). -/
def Dev.supReturn (s : Dev) (b : Bool) : Dev :=
  let s := s.setPort b fun p => { p with sup := some s.seq.cyc }
  let ok (p : NetPort) : Bool := p.sup.elim false fun t => !s.spanPast t s.supMs
  if ok s.net.a && ok s.net.b && !s.bit NET_STAT 4 then (s.setBit NET_STAT 4 true).ev 0x0A03 0 0 else s

/-- A peer delay message, which stays on its link and carries no HSR tag (R297). -/
def linkLocal (f : NetFrame) : Bool := f.etype == 0x88F7 && [2, 3, 10].contains (u8 f.payload 0 % 16)

/-- A frame is forwarded out of the other port (R285, R287): a cut-through copy that turns out bad ends with an inverted
FCS. -/
def Dev.forward (s : Dev) (b : Bool) (f : NetFrame) (good : Bool) : Dev :=
  let s := s.dupAdd false (s.dupOf f b)
  let out := s.linkUp (!b) && s.egressRoom (!b) f
  let s := s.egressPut (!b) { frame := { f with fcsOk := good }, fwd := true, ingressDelay := (s.rd (NET_PDELAY b)).toNat }
  if out then s.cntWrap NET_FWD_CNT 31 0 1 else s

/-- A frame arrives on a ring port in HSR mode (R283, R285 to R287). -/
def Dev.hsrFrame (s : Dev) (b : Bool) (f : NetFrame) : Dev :=
  let good := f.fcsOk && decide (f.len ≤ 1528)
  if f.src = s.ownMac then if f.etype = 0x88FB ∧ good then s.supReturn b else s
  else if linkLocal f then if good then s.deliverNet f else s.rxErr b
  else
    let dupF := s.dupHas s.net.fwdTab f
    let dupD := s.dupHas s.net.delTab f
    let cut := bitOf s.net.cfg.toNat 6 && s.bit NET_STAT 2 == s.bit NET_STAT 3 && (s.port (!b)).egress.isEmpty
    let s := if good then s else s.rxErr b
    let own := f.dst == s.ownMac
    let s := if own || dupF || !(good || cut) then s else s.forward b f good
    let s := if good && (dupD || (dupF && !own)) then s.cntWrap NET_DUP_CNT 31 0 1 else s
    if good && s.dstOk f.dst && !dupD then (s.dupAdd true (s.dupOf f b)).deliverNet f
    else s

/-- A frame arrives on a port in plain or HSR mode (R281, R283, R285). -/
def Dev.ringFrame (s : Dev) (b : Bool) (f : NetFrame) : Dev :=
  if !s.linkUp b then s
  else if s.netMode = 2 then s.hsrFrame b f
  else if s.netMode = 1 then
    if 1528 < f.len ∨ !f.fcsOk then s.rxErr b
    else if s.dstOk f.dst then s.deliverNet f else s
  else s

/-- A frame is received in PRP mode (R290). -/
def Dev.prpFrame (s : Dev) (b : Bool) (f : NetFrame) : Dev :=
  if !s.linkUp b ∨ s.netMode ≠ 3 then s
  else if 1528 < f.len ∨ !f.fcsOk then s.rxErr b
  else
    let s := if f.lanB != b then
        let s := s.cntSat NET_WRONG_LAN 31 0 1
        s.evW 0x0A0E (BitVec.ofNat 32 (portNo b)) (s.rd NET_WRONG_LAN)
      else s
    if linkLocal f then s.deliverNet f
    else if s.dupHas s.net.delTab f then s.cntWrap NET_DUP_CNT 31 0 1
    else if s.dstOk f.dst then (s.dupAdd true (s.dupOf f b)).deliverNet f
    else s

/-- An entry of a duplicate table ends once DD_FORGET ms have passed since its creation (R286). -/
def Dev.dupExpire (s : Dev) (delivery : Bool) (src : BitVec 48) (sq : BitVec 16) (b : Bool) : Dev :=
  let gone (e : DupEntry) : Bool := e.src == src && e.seq == sq && s.spanOver e.made s.forgetMs
  if delivery then { s with net.delTab := s.net.delTab.filter fun e => !gone e }
  else { s with net.fwdTab := s.net.fwdTab.filter fun e => !(gone e && e.portB == b) }

/-- A PTP event message: Sync, Pdelay_Req or Pdelay_Resp. -/
def ptpEvent (f : NetFrame) : Bool := f.etype == 0x88F7 && [0, 2, 3].contains (u8 f.payload 0 % 16)

/-- Egress class of a waiting frame (R288). -/
def NetTx.cls (t : NetTx) : Nat :=
  if ptpEvent t.frame then 1
  else if t.frame.etype = 0x88B5 ∨ (t.frame.tagged ∧ 6 ≤ t.frame.pcp.toNat) then 2
  else if t.fwd then 3
  else 4

/-- Order key: class, then forwarded before originated (R288). -/
def NetTx.key (t : NetTx) : Nat := 2 * t.cls + bnat (!t.fwd)

/-- The waiting frame that goes first, and the rest (R288). -/
def takeFirst : List NetTx → Option (NetTx × List NetTx)
  | [] => none
  | t :: ts =>
    match takeFirst ts with
    | none => some (t, [])
    | some (u, rest) => if u.key < t.key then some (u, t :: rest) else some (t, ts)

/-- Big-endian bytes of a TAI instant in PTP's timestamp: 48 bits of seconds, 32 of nanoseconds. -/
def ptpStamp (t : Int) : List Byte := beBytes 6 (t / 1000000000).toNat ++ beBytes 4 (t % 1000000000).toNat

/-- What the device writes into a frame in flight: correctionField of a forwarded Sync (R298), originTimestamp of an own
one (R299), ERA and TX_NS of a Bronoelo frame (R292). -/
def Dev.inFlight (s : Dev) (t : NetTx) (residence : Rat) : NetFrame :=
  let f := t.frame
  if f.etype = 0x88F7 ∧ u8 f.payload 0 % 16 = 0 then
    if t.fwd then
      let c : Int := roundRat ((residence + (t.ingressDelay : Nat)) * 65536)
      let old : Int := signed 64 (beNat (slice f.payload 8 8))
      { f with payload := putBytes f.payload 8 (beBytes 8 (unsigned 64 (old + c))) }
    else { f with payload := putBytes f.payload 34 (ptpStamp s.now) }
  else if f.etype = 0x88B5 ∧ !t.fwd then
    { f with payload := putBytes f.payload 4 (leBytes 4 (eraOf s.now).toNat ++ leBytes 4 (stamp32 s.now).toNat) }
  else f

/-- A free egress port sends the first of its waiting frames (R288, R292, R298). -/
def Dev.egress (s : Dev) (b : Bool) (residence : Rat) : Dev :=
  if !s.linkUp b then s
  else match takeFirst (s.port b).egress with
    | none => s
    | some (t, rest) =>
      let f := s.inFlight t residence
      let tc := t.fwd && s.netMode == 2 && f.etype == 0x88F7 && u8 f.payload 0 % 16 == 0
      let s := s.spend.setPort b fun p => { p with egress := rest, sent := f :: p.sent }
      if tc then s.cntWrap NET_TC_CNT 31 0 1 else s

/-- A frame that the device originates goes out of both ports with one sequence number (R285, R290). -/
def Dev.originate (s : Dev) (dst : BitVec 48) (etype : BitVec 16) (ctrl : Bool) (udp : Nat) (ip : Word)
    (payload : List Byte) : Dev :=
  let v := (s.rd NET_VLAN).toNat
  let tag := bitOf v 12
  let head := 14 + (if tag then 4 else 0) + (if s.netMode = 2 ∨ s.netMode = 3 then 6 else 0)
    + (if etype = 0x0800 then 28 else 0) + 4
  let f (b : Bool) : NetFrame := {
    dst := dst, src := s.ownMac, seq := BitVec.ofNat 16 s.net.seq, etype := etype,
    pcp := BitVec.ofNat 3 (if ctrl then bitsOf v 15 13 else bitsOf v 18 16), tagged := tag,
    len := max 64 (head + payload.length), fcsOk := true, lanB := b, udpPort := udp, dstIp := ip, payload := payload }
  let s := (s.egressPut false { frame := f false, fwd := false }).egressPut true { frame := f true, fwd := false }
  { s with net.seq := (s.net.seq + 1) % 65536 }

/-- A UDP datagram to NET_UDP_DST (R291); a unicast destination's MAC address is not given by the spec (log entry 20). -/
def Dev.sendUdp (s : Dev) (port : Nat) (payload : List Byte) : Dev :=
  let ip := s.rd NET_UDP_DST
  let dst := if 224 ≤ ip.toNat / 2 ^ 24 ∧ ip.toNat / 2 ^ 24 ≤ 239 then groupMac ip.toNat else 0xFFFFFFFFFFFF
  s.originate dst 0x0800 false port ip payload

/-- A Bronoelo ring frame: header of R292, then the fields; none is sent without a role and a unit (R311, R470). -/
def Dev.sendBrf (s : Dev) (kind : Nat) (fields : List Byte) : Dev :=
  let st := (s.rd STAND_STAT).toNat
  if bitOf st 2 ∨ bitsOf st 11 8 = 15 then s
  else
    let h := leBytes 1 kind ++ leBytes 1 1
      ++ leBytes 1 (bitsOf st 11 8 + 16 * bitsOf st 1 0 + 64 * bnat (s.bit GLB_TICK_STAT 8)) ++ [0]
      ++ List.replicate 8 0 ++ leBytes 4 s.cycles
    s.originate s.brfDst 0x88B5 true 0 0 (h ++ fields)

/-- Supervision frame (R289). -/
def Dev.supervision (s : Dev) : Dev :=
  if s.netMode = 2 then s.originate supMac 0x88FB false 0 0 [] else s

/-- No own supervision frame on a port within the last 2 × LIFE_MS (R289). -/
def Dev.ringOpen (s : Dev) : Dev :=
  let late (p : NetPort) : Bool := p.sup.elim true fun t => s.spanOver t s.supMs
  if s.bit NET_STAT 4 && (late s.net.a || late s.net.b) then (s.setBit NET_STAT 4 false).ev 0x0A04 0 0 else s

/-- Both ports retrain at a NET_CFG change, and the duplicate tables are emptied (R284). -/
def Dev.retrain (s : Dev) : Dev :=
  let s := (s.portDown false).portDown true
  { s with net.fwdTab := [], net.delTab := [] }

/-- A write to a register of NET that has an effect of its own (R284). -/
def Dev.netWrite (s : Dev) (a : Nat) (v : Word) : Dev :=
  if s.inService && (a == NET_CFG || a == NET_MAC_LO || a == NET_MAC_HI || a == NET_IP) then
    s.ev 0x0A0D 0 (a - 0x240000)
  else if a = NET_CFG then { s.store a v with net.cfgPend := true }
  else s.store a v

/-- PTP_EN and DOMAIN in force. -/
def Dev.ptpFor (s : Dev) (domain : Byte) : Bool :=
  bitOf s.net.tsrc.toNat 3 && bitsOf s.net.tsrc.toNat 27 20 == domain.toNat

/-- Grandmaster that the device sees: itself while it acts as one, else the best foreign clock (R294, R299). -/
def Dev.grandmaster (s : Dev) : Option Nat :=
  if bitOf s.net.tsrc.toNat 3 && s.bit NET_TIME_STAT 4 then some s.ownId else s.net.best.map fun a => a.gm.toNat

/-- GM_ID and the event of a change of grandmaster (R299, R310). -/
def Dev.showGm (s : Dev) : Dev :=
  let old := (s.rd NET_GM_ID_HI).toNat * 2 ^ 32 + (s.rd NET_GM_ID_LO).toNat
  match s.grandmaster with
  | none => s
  | some g =>
    if g = old then s
    else ((s.wrN NET_GM_ID_LO g).wrN NET_GM_ID_HI (g / 2 ^ 32)).ev 0x0A0A 0 (g % 2 ^ 32)

/-- SLAVE of NET_TIME_STAT. -/
def Dev.showSlave (s : Dev) : Dev :=
  s.setBit NET_TIME_STAT 5 (bitOf s.net.tsrc.toNat 3 && s.wantedSource == 2 && s.net.best.isSome)

/-- SLAVE_PORT. -/
def Dev.slaveB (s : Dev) : Bool := s.bit NET_TIME_STAT 6

/-- An Announce (R294). -/
def Dev.announce (s : Dev) (b : Bool) (a : AnnounceIn) : Dev :=
  if !s.ptpFor a.domain ∨ s.tsel = 1 then s
  else
    let same := s.net.best.elim false fun x => x.gm == a.gm
    let better := s.net.best.elim true fun x => lexLt (annSet a) (annSet x)
    let s :=
      if same then
        let s := { s with net.best := some a }.setPort b fun p => { p with heard := true }
        if b then s else s.setBit NET_TIME_STAT 6 false
      else if better then
        let s := { s with net.best := some a, net.syncRun := 0 }
        let s := (s.setPort b fun p => { p with heard := true }).setPort (!b) fun p => { p with heard := false }
        s.setBit NET_TIME_STAT 6 b
      else s
    (s.showSlave.showTime).showGm

/-- A Sync that the device accepts: of its domain and grandmaster, on the slave port (R294, R295). -/
def Dev.syncOk (s : Dev) (b : Bool) (m : SyncIn) : Bool :=
  s.ptpFor m.domain && s.tsel != 1 && s.slaveB == b && s.net.best.elim false (fun a => a.gm == m.gm) && s.wantedSource == 2

/-- PTP_TAU in force (R310). -/
def Dev.ptpTau (s : Dev) : Nat := max 4 (bitsOf s.net.ptpInt.toNat 31 16)

/-- A Sync (R295). -/
def Dev.sync (s : Dev) (b : Bool) (m : SyncIn) : Dev :=
  if !s.syncOk b m then s
  else
    let ofs : Rat := (m.receive : Rat) - (m.origin : Rat) - (m.correction : Rat) / 65536 - ((s.rd (NET_PDELAY b)).toNat : Nat)
    let oi := roundRat ofs
    let s := s.wr NET_PTP_OFS (clamp32 oi)
    let prev := s.net.lastSync
    let t : Rat := (m.receive : Rat)
    let s := { s with net.lastSync := some t, net.lastOfs := oi }
    if !s.timeValid then
      if (s.port b).measured then
        let n := s.net.syncRun + 1
        let s := { s with net.syncRun := n }
        if 4 ≤ n then
          ((s.shiftLocal (-ofs)).firstSet 2).showTime
        else s
      else { s with net.syncRun := 0 }
    else if s.timeSource = 1 then s.changeSource 2 oi
    else if s.bit NET_TIME_STAT 3 then
      ((s.setBit NET_TIME_STAT 3 false).raise 0x45).returnRule oi 0x0A08
    else
      let dt := match prev with
        | none => 0
        | some p => (t - p) / 1000000000
      s.discipline (ofs - s.clk.phaseRem) dt s.ptpTau

/-- No accepted Sync for ANN_TIMEOUT intervals (R295). -/
def Dev.syncTimeout (s : Dev) : Dev :=
  let b := s.slaveB
  if !s.bit NET_TIME_STAT 5 ∧ s.timeSource ≠ 2 then s
  else if s.bit NET_TIME_STAT 5 ∧ (s.port (!b)).heard then
    (s.setBit NET_TIME_STAT 6 (!b)).setPort b fun p => { p with heard := false }
  else
    let s : Dev := { s.setPort b fun p => { p with heard := false } with net.best := none, net.syncRun := 0 }
    let s := s.showSlave
    if s.timeSource = 2 ∧ !s.bit NET_TIME_STAT 3 then
      ((s.setBit NET_TIME_STAT 3 true).raise 0x45).evI 0x0A09 0 s.net.lastOfs
    else s

/-- Error bound in PTP holdover as R217 does (R295). -/
def Dev.ptpBound (s : Dev) : Dev :=
  match s.bit NET_TIME_STAT 3, s.net.lastSync with
  | true, some u =>
    let t := (s.clk.cycleNs - u) / 1000000000
    let hf : Rat := (s.gnss.set.func.toNat : Nat)
    let ha : Rat := (s.gnss.set.aging.toNat : Nat)
    let x : Rat := (s.net.lastOfs.natAbs : Nat) + hf * t / 1000 + ha * t * t / (2 * 1000 * 86400)
    (s.wrN GNSS_TERR (min 4294967295 x.ceil.toNat)).wrN GNSS_HOLD_S t.floor.toNat
  | _, _ => s

/-- Header of a PTP message of the device (IEEE 1588-2019): type, length, log interval, then the body. -/
def Dev.ptpMsg (s : Dev) (typ len : Nat) (ivl : Int) (body : List Byte) : List Byte :=
  leBytes 1 typ ++ [2] ++ beBytes 2 len ++ leBytes 1 (bitsOf s.net.tsrc.toNat 27 20) ++ [0, 0, 0]
    ++ List.replicate 12 0 ++ beBytes 8 s.ownId ++ beBytes 2 1 ++ beBytes 2 s.net.ptpSeq ++ [0]
    ++ sBytes 1 ivl ++ body

/-- A message interval's logarithm in force: outside -3 to 0 acts as 0 (R310). -/
def logIvl (w : Word) (lo : Nat) : Int :=
  let v := signed 4 (bitsOf w.toNat (lo + 3) lo)
  if v < -3 ∨ 0 < v then 0 else v

/-- A peer delay message leaves one port; it carries no HSR tag (R297). -/
def Dev.pdelaySend (s : Dev) (b : Bool) (typ : Nat) : Dev :=
  if bitOf s.net.tsrc.toNat 3 then
    let f : NetFrame := {
      dst := pdelayMac, src := s.ownMac, seq := 0, etype := 0x88F7, pcp := BitVec.ofNat 3 (s.fld NET_VLAN 15 13),
      tagged := s.bit NET_VLAN 12, len := 72 + 4 * bnat (s.bit NET_VLAN 12), fcsOk := true, lanB := b, udpPort := 0, dstIp := 0,
      payload := s.ptpMsg typ 54 (logIvl s.net.ptpInt 8) (List.replicate 20 0) }
    let s := s.egressPut b { frame := f, fwd := false }
    { s with net.ptpSeq := (s.net.ptpSeq + 1) % 65536 }
  else s

/-- Pdelay_Req of a port at its interval (R297). -/
def Dev.pdelayReq (s : Dev) (b : Bool) : Dev := s.pdelaySend b 2

/-- A received Pdelay message (R297). -/
def Dev.pdelay (s : Dev) (b : Bool) (m : PdelayIn) : Dev :=
  match m with
  | .request d => if s.ptpFor d then s.pdelaySend b 3 else s
  | .response d n =>
    if s.ptpFor d then (s.wrN (NET_PDELAY b) n).setPort b fun p => { p with measured := true } else s

/-- Sync of a grandmaster (R299). -/
def Dev.syncSend (s : Dev) : Dev :=
  if s.bit NET_TIME_STAT 4 && bitOf s.net.tsrc.toNat 3 then
    let s := s.originate ptpMac 0x88F7 true 0 0 (s.ptpMsg 0 44 (logIvl s.net.ptpInt 0) (List.replicate 10 0))
    { s with net.ptpSeq := (s.net.ptpSeq + 1) % 65536 }
  else s

/-- Announce of a grandmaster (R294, R299). -/
def Dev.announceSend (s : Dev) : Dev :=
  if s.bit NET_TIME_STAT 4 && bitOf s.net.tsrc.toNat 3 && s.timeValid then
    let w := s.net.tsrc.toNat
    let body := List.replicate 10 0 ++ beBytes 2 s.gnss.utcOfs ++ [0] ++ leBytes 1 (bitsOf w 11 4)
      ++ leBytes 1 s.ownClass ++ leBytes 1 s.ownAcc ++ beBytes 2 0xFFFF ++ leBytes 1 (bitsOf w 19 12)
      ++ beBytes 8 s.ownId ++ beBytes 2 0 ++ leBytes 1 (if s.tstate = 1 then 0x20 else 0xA0)
    let m := putBytes (s.ptpMsg 11 64 (logIvl s.net.ptpInt 4) body) 6 [0, 8]
    let s := s.originate ptpMac 0x88F7 true 0 0 m
    { s with net.ptpSeq := (s.net.ptpSeq + 1) % 65536 }
  else s

/-- An IEC 61162-450 datagram to the group (R293, R446). DESIGN CHOICE: the source IPv4 address keeps its header's byte
order, most significant byte first, as R17 gives it to a field that a published standard defines (log entry 88). -/
def Dev.s450 (s : Dev) (ip : Word) (bytes : List Byte) : Dev :=
  if bitOf s.net.cfg.toNat 8 then
    s.reportRouted 9 0 (beBytes 4 ip.toNat ++ leBytes 2 bytes.length ++ [0, 0] ++ bytes)
  else s

/-- A read of NET_TNOW_NS (R303). -/
def Dev.tnow (s : Dev) : Dev :=
  let t := s.now
  ((s.wr NET_TNOW_NS (stamp32 t)).wr NET_TNOW_ERA (eraOf t)).spend

/-- The capture FIFO's registers (R305, R309). -/
def Dev.showEvt (s : Dev) : Dev :=
  let h := s.net.evt.head?
  let s := (s.setFld NET_EVT_STAT 4 0 s.net.evt.length).setBit NET_EVT_STAT 5 (h.elim false Prod.snd)
  (s.wr NET_EVT_NS (h.elim 0 fun e => stamp32 e.1)).wr NET_EVT_ERA (h.elim 0 fun e => eraOf e.1)

/-- A new level on EVT_IN that has held for so many CTLCLK cycles, detected at a CTLCLK edge in local ns (R245, R305). -/
def Dev.evtIn (s : Dev) (falling : Bool) (edgeNs held : Nat) : Dev :=
  let e := s.fld NET_EVT_CFG 2 1 % 3
  if !s.bit NET_EVT_CFG 0 || !filtered (s.fld NET_EVT_CFG 10 3) held || (e != 2 && (e == 1) != falling) then s
  else
    let s := s.raise 0x40
    if 16 ≤ s.net.evt.length then
      let s := s.cntSat NET_EVT_STAT 31 16 1
      if s.net.ovrSaid then s else { s with net.ovrSaid := true }.ev 0x0A0B 0 (s.fld NET_EVT_STAT 31 16)
    else
      let t : Int := ((edgeNs : Rat) - ((s.fld NET_EVT_CFG 10 3 + 3 : Nat) : Rat) * 16 / 5).floor
      { s with net.evt := s.net.evt ++ [(t, falling)] }.showEvt

/-- NET_EVT_POP (R305). -/
def Dev.evtPop (s : Dev) : Dev :=
  if s.net.evt.isEmpty then s
  else { s with net.evt := s.net.evt.tail, net.ovrSaid := false }.showEvt

/-- Local time at which an alarm fires, ns (R306). -/
def Dev.alarmNs (s : Dev) (a : Nat) : Int :=
  ((s.rd (NET_ALARM_ERA a)).toNat * 4294967296 + (s.rd (NET_ALARM_NS a)).toNat : Nat)

/-- An alarm fires: FIRED, with LATE or STEPPED (R306). -/
def Dev.alarmGo (s : Dev) (a : Nat) (late stepped : Bool) : Dev :=
  let s := (s.setBit (NET_ALARM_CTL a) 0 false).setBit (NET_ALARM_CTL a) 1 true
  let s := ((s.setBit (NET_ALARM_CTL a) 2 late).setBit (NET_ALARM_CTL a) 3 stepped).raise (0x41 + a)
  if late then s.ev 0x0A0C a 0 else s

/-- A write to NET_ALARM_CTL (R306). -/
def Dev.alarmArm (s : Dev) (a : Nat) (v : Word) : Dev :=
  let was := s.bit (NET_ALARM_CTL a) 0
  let s := s.store (NET_ALARM_CTL a) v
  if bitOf v.toNat 0 && !was then
    let s := s.clrMask (NET_ALARM_CTL a) 0xC
    let late := decide (s.alarmNs a < s.now)
    if late then s.spend.alarmGo a true false else s.spend
  else s

/-- The first edge at or past an armed alarm's time (R306). -/
def Dev.alarmFire (s : Dev) (a : Nat) : Dev :=
  if s.bit (NET_ALARM_CTL a) 0 ∧ (s.alarmNs a : Rat) < s.clk.localNs + 375000 then s.alarmGo a false false else s

/-- A step of local time at a whole second (R218, R296, R306). -/
def Dev.timeStep (s : Dev) : Dev :=
  match s.clk.stepPending with
  | none => s
  | some (d, code) =>
    let old := s.clk.localNs
    let s := { s.shiftLocal d with clk.stepPending := none, clk.stepped := true }
    let s := s.evI code 0 d
    s.each (List.range 4) fun s a =>
      if s.bit (NET_ALARM_CTL a) 0 && decide (old < (s.alarmNs a : Rat) ∧ (s.alarmNs a : Rat) ≤ old + d) then
        s.alarmGo a false true
      else s

/-- Time settings take effect (R310): a device that no longer takes PTP in the old domain hears no foreign clock. -/
def Dev.latchTime (s : Dev) : Dev :=
  let new := s.rd NET_TSRC_CFG
  let keep := bitOf new.toNat 3 && bitsOf new.toNat 1 0 != 1 && bitsOf new.toNat 27 20 == bitsOf s.net.tsrc.toNat 27 20
  let s := ({ s with net.tsrc := new, net.ptpInt := s.rd NET_PTP_INT } : Dev)
  if keep then s else { s with net.best := none, net.syncRun := 0 }

/-- NET at a cycle boundary: written settings take effect (R284, R310). -/
def Dev.netBoundary (s : Dev) : Dev :=
  let s := if s.net.cfgPend then
      { s.retrain with net.cfg := s.rd NET_CFG, net.cfgPend := false }
    else s
  ((s.latchTime.showSlave.showTime).showGm).ptpBound

end Sys2Proof.Machine
end

