-- ==== Sys2Proof/Machine/Safe.lean ====
section
/-! DEFINITION. Safety: Canopy, Understory and Deadfall (chapter 12), and the end of every meaning: Understory's
combinational logic settles. -/

namespace Sys2Proof.Machine

/-- Input and output of the safety logic behind the registers. -/
def Dev.sin (s : Dev) (i : Nat) : SafeInp := s.safe.inp.getD i {}
def Dev.sout (s : Dev) (k : Nat) : SafeOut := s.safe.out.getD k {}
def Dev.schan (s : Dev) (i : Nat) (b : Bool) : SafeChan := s.safe.chan.getD (2 * i + bnat b) {}

def Dev.setIn (s : Dev) (i : Nat) (f : SafeInp → SafeInp) : Dev := { s with safe.inp := modAt s.safe.inp i f }
def Dev.setOut (s : Dev) (k : Nat) (f : SafeOut → SafeOut) : Dev := { s with safe.out := modAt s.safe.out k f }
def Dev.setChan (s : Dev) (i : Nat) (b : Bool) (f : SafeChan → SafeChan) : Dev :=
  { s with safe.chan := modAt s.safe.chan (2 * i + bnat b) f }

/-- KIND of an input (R342). -/
def Dev.inKind (s : Dev) (i : Nat) : Nat := s.fld (SAFE_IN_CFG i) 1 0

/-- MASK of an output. -/
def Dev.outMask (s : Dev) (k : Nat) : Nat := s.fld (SAFE_OUT_CFG k) 15 0

/-- Level of a channel in the non-demand state: closed or open (R342). -/
def restLevel (kind : Nat) (b : Bool) : Bool := kind == 1 || (kind == 2 && !b)

/-- The two channels agree with KIND (R342). -/
def chansAgree (kind : Nat) (a b : Bool) : Bool := if kind = 2 then a != b else a == b

/-- A Deadfall latch is set (R356). -/
def Dev.deadfall (s : Dev) : Bool := s.safe.canopyLatch || s.safe.ustLatch

/-- An input is in its non-demand state under Understory's filter (R338, R344). -/
def Dev.ustRest (s : Dev) (i : Nat) : Bool :=
  (s.schan i false).ust == restLevel (s.inKind i) false && (s.schan i true).ust == restLevel (s.inKind i) true

/-- A test opening of the output's Understory switch is requested (R351). -/
def Dev.ustTest (s : Dev) (k : Nat) : Bool :=
  match s.safe.dark with
  | some t => t.ust && t.out == k && !t.selfClosed
  | none => false

/-- Understory's permit for an output (R338, R359, R458). -/
def Dev.permit (s : Dev) (k : Nat) : Bool :=
  let u := s.safe
  u.ustOn && u.ustSw && u.ustCfg && !u.ustAnn && u.ustAlive && !u.ustLatch && u.ustParity && !s.ustTest k
    && (maskBits 16 (s.outMask k)).all s.ustRest

/-- Canopy's switch of an output is closed: decided on, and not open for a test (R335, R351). -/
def Dev.canopyEn (s : Dev) (k : Nat) : Bool :=
  (s.sout k).on && !(match s.safe.dark with
    | some t => !t.ust && t.out == k
    | none => false)

/-- The output is on: both switches closed (R335). -/
def Dev.soOn (s : Dev) (k : Nat) : Bool := s.canopyEn k && s.permit k

/-- A mask of 12 outputs. -/
def outMaskOf (f : Nat → Bool) : Nat := ((List.range 12).map fun k => bnat (f k) * 2 ^ k).sum

/-- While both technologies run, each copies the other's latch (R356). -/
def Dev.copyLatches (s : Dev) : Dev :=
  if s.safe.halt || !s.safe.ustOn then s
  else { s with safe.canopyLatch := s.deadfall, safe.ustLatch := s.deadfall }

/-- Understory's logic is combinational: latches, permits and the registers that show them settle (R338, R356, R362). -/
def Dev.settle (s : Dev) : Dev :=
  let s := s.copyLatches
  let s := s.wrN SAFE_OUT_STAT (outMaskOf s.canopyEn + 4096 * outMaskOf s.permit)
  let s := (s.setBit SAFE_STAT 0 s.deadfall).setBit SAFE_STAT 1 (s.safe.table && s.safe.up)
  (s.setBit SAFE_STAT 2 s.safe.up).setBit SAFE_STAT 3 (s.safe.ustOn && s.safe.ustAlive)

/-- The end of a meaning: the device it made, settled, under the same queue. -/
def done (s : State) (d : Dev) : Host.Outcome State Fault Refusal := .next { s with toDev := d.settle }

/-- A cause waits for the scan end (R355). -/
def Dev.cause (s : Dev) (c i b : Nat) : Dev := { s with safe.causes := s.safe.causes ++ [(c, i, b)] }

/-- The first cause is latched with the instant of entry (R355). -/
def Dev.latchCause (s : Dev) (c i b : Nat) : Dev :=
  let t := s.now
  let s := ((s.setFld SAFE_STAT 11 8 c).setFld SAFE_STAT 15 12 i).setFld SAFE_STAT 16 16 b
  let s := { s with safe.dfAge := 0 }
  (((s.wr SAFE_DF_STAMP (stamp32 t)).wr SAFE_DF_ERA (eraOf t)).cntSat SAFE_CNT 23 16 1).spend.raise 0x50

/-- Every cause records its event (R355). -/
def Dev.causeEvents (s : Dev) (cs : List (Nat × Nat × Nat)) : Dev :=
  s.each cs fun d c => d.ev 0x0C01 c.1 (c.2.1 * 2 + c.2.2)

/-- The lowest cause of a list. -/
def lowestCause : List (Nat × Nat × Nat) → Option (Nat × Nat × Nat)
  | [] => none
  | c :: cs => match lowestCause cs with
    | none => some c
    | some d => if d.1 < c.1 then some d else some c

/-- Entry to Deadfall at a scan end (R355). -/
def Dev.enterDeadfall (s : Dev) : Dev :=
  match lowestCause s.safe.causes with
  | none => s
  | some (c, i, b) =>
    let cs := s.safe.causes
    let s := if s.deadfall then s else s.latchCause c i b
    let on := s.safe.ustOn
    let s := { s with safe.causes := [], safe.canopyLatch := true, safe.ustLatch := s.safe.ustLatch || on }
    s.causeEvents cs

/-- A cause that Understory takes by itself (R355). -/
def Dev.ustCause (s : Dev) (c i : Nat) : Dev :=
  let s := if s.deadfall then s else s.latchCause c i 0
  { s with safe.ustLatch := true }.causeEvents [(c, i, 0)]

/-- Windows of the four test pulses in samples: first, last + 1, check point (R343). -/
def tpWindow : Nat → Nat × Nat × Nat
  | 0 => (0, 15, 9) | 1 => (125, 145, 139) | 2 => (250, 275, 269) | _ => (375, 405, 399)

/-- Width of a source's low pulse in samples (R343). -/
def tpWidth (m : Nat) : Nat := 10 + 5 * m

/-- Level of test-pulse source TPm: low for its width from the start of its window (R343). -/
def Dev.tpHigh (s : Dev) (m : Nat) : Bool :=
  s.safe.halt || decide (s.safe.smp < (tpWindow m).1 ∨ (tpWindow m).1 + tpWidth m ≤ s.safe.smp)

/-- A sample lies in a window (R344). -/
def inWindow (n : Nat) : Bool := (List.range 4).any fun m => decide ((tpWindow m).1 ≤ n ∧ n < (tpWindow m).2.1)

/-- Test findings of a channel at a sample (R345): kind is KIND, own its source. -/
def Dev.testChan (s : Dev) (n i : Nat) (b lvl : Bool) : Dev :=
  let kind := s.inKind i
  let own := if b then s.fld (SAFE_IN_CFG i) 5 4 else s.fld (SAFE_IN_CFG i) 3 2
  let x := s.schan i b
  let tested := kind != 0 && (restLevel kind b || x.closed)
  let s := if (List.range 4).any (fun m => ((tpWindow m).1 + 499) % 500 == n) then
      s.setChan i b fun y => { y with pre := lvl } else s
  match (List.range 4).find? fun m => (tpWindow m).2.2 == n with
  | none => s
  | some m =>
    if !tested then s
    else if m = own then
      let s := s.setChan i b fun y => { y with miss := lvl }
      if lvl && x.missPrev then s.cause 2 i (bnat b) else s
    else if x.pre && !lvl then
      let s := s.setChan i b fun y => { y with cross := m :: y.cross }
      if x.crossPrev.contains m then s.cause 3 i (bnat b) else s
    else s

/-- The end of a test frame. -/
def Dev.frameEnd (s : Dev) : Dev :=
  { s with safe.chan := s.safe.chan.map fun (x : SafeChan) =>
      { x with missPrev := x.miss, miss := false, crossPrev := x.cross, cross := [] } }

/-- Detection of a channel at a sample outside the windows (R344). -/
def Dev.detect (s : Dev) (i : Nat) (b lvl : Bool) : Dev :=
  s.setChan i b fun x =>
    if lvl = x.closed then { x with run := 0 }
    else if 2 ≤ x.run then { x with closed := lvl, run := 0 }
    else { x with run := x.run + 1 }

/-- SAFE_IN_LVL and SAFE_IN_DEM (R362). -/
def Dev.showInputs (s : Dev) : Dev :=
  let m (f : Nat → Bool) : Nat := ((List.range 16).map fun i => bnat (f i) * 2 ^ i).sum
  let used (i : Nat) : Bool := s.inKind i != 0
  let s := s.wrN SAFE_IN_LVL
    (m (fun i => used i && (s.schan i false).closed) + 65536 * m fun i => used i && (s.schan i true).closed)
  s.wrN SAFE_IN_DEM (m (fun i => (s.sin i).demand) + 65536 * m fun i => (s.sin i).disc.isSome)

/-- No MASK input of an output is in demand. -/
def Dev.maskRest (s : Dev) (k : Nat) : Bool := (maskBits 16 (s.outMask k)).all fun i => !(s.sin i).demand

/-- A start of a start input (R348, R349). -/
def Dev.giveStart (s : Dev) (i : Nat) : Dev :=
  s.each (List.range 12) fun d k =>
    if d.bit (SAFE_OUT_CFG k) 16 && d.fld (SAFE_OUT_CFG k) 20 17 == i && !(d.sout k).on && d.maskRest k then
      d.setOut k fun o => { o with started := true }
    else d

/-- DISC_MS in samples (R347). -/
def Dev.discLim (s : Dev) (i : Nat) : Nat := 100 * s.fld (SAFE_IN_CFG i) 16 6

/-- The timers of an input count a sample, before its detections (R347, R348). -/
def Dev.inputTime (s : Dev) (i : Nat) : Dev :=
  let lim := s.discLim i
  s.setIn i fun x =>
    let x := { x with press := x.press.map fun n => min 300001 (n + 1) }
    if x.disc.isSome then
      { x with discRun := x.discRun + 1, late := if x.discRun + 1 = lim then x.disc else x.late }
    else x

/-- A press has been released on both channels after h samples (R348). -/
def Dev.released (s : Dev) (i h : Nat) : Dev :=
  let s := s.setIn i fun y => { y with held := none }
  if 10000 ≤ h ∧ h ≤ 300000 then s.giveStart i else s

/-- A start button after a sample's detections: both channels are pressed within DISC_MS of each other, and then both are
released (R348). -/
def Dev.startStep (s : Dev) (i : Nat) (a b changed inTime : Bool) : Dev :=
  let x := s.sin i
  match x.press with
  | none =>
    if a && b then
      if changed && inTime && x.held.isNone then s.setIn i fun y => { y with press := some 0 } else s
    else if !a && !b then
      match x.held with
      | none => s
      | some h => s.released i h
    else s
  | some n =>
    if a && b then s
    else
      let s := s.setIn i fun y => { y with press := none, held := some n }
      if !a && !b then s.released i n else s

/-- Demand, discrepancy and start of an input after a sample: chA and chB tell which channels were detected to change
(R346 to R348). -/
def Dev.inputStep (s : Dev) (i : Nat) (chA chB : Bool) : Dev :=
  let kind := s.inKind i
  let a := (s.schan i false).closed
  let b := (s.schan i true).closed
  let x := s.sin i
  if kind = 0 then s
  else
    let agree := chansAgree kind a b
    let disc := if agree then none
      else if x.disc.isSome then x.disc
      else if chA || chB then some (!chA) else none
    let s := s.setIn i fun y => { y with disc := disc, discRun := if x.disc.isSome then y.discRun else 0 }
    if kind = 3 then s.startStep i a b (chA || chB) (x.disc.isNone || decide (x.discRun < s.discLim i))
    else
      let restA := a == restLevel kind false
      let restB := b == restLevel kind true
      if x.demand then s.setIn i fun y => { y with demand := !(restA && restB) }
      else if restA && restB then s
      else
        ((s.setIn i fun y => { y with demand := true }).cntSat SAFE_CNT 15 0 1).ev 0x0C04 i (if restA then 1 else 0)

/-- Every input named in any MASK is in its non-demand state and without a test finding (R357). -/
def Dev.inputsWell (s : Dev) : Bool :=
  (List.range 12).all fun k => (maskBits 16 (s.outMask k)).all fun i =>
    !(s.sin i).demand && [false, true].all fun b =>
      let x := s.schan i b
      !x.miss && !x.missPrev && x.cross.isEmpty && x.crossPrev.isEmpty

/-- Detections of one input at a sample outside the windows; an unused input is not sampled, and demand and start are judged
once start-up is complete (R342, R344, R359). -/
def Dev.sampleInput (s : Dev) (i : Nat) (a b : Bool) : Dev :=
  if s.inKind i = 0 then s
  else
    let a0 := (s.schan i false).closed
    let b0 := (s.schan i true).closed
    let s := (s.detect i false a).detect i true b
    if s.safe.up then s.inputStep i ((s.schan i false).closed != a0) ((s.schan i true).closed != b0) else s

/-- The sixteen inputs at sample n of a frame: the tests of the channels, the spans, and outside a test window the levels (R343
to R348). -/
def Dev.sampleInputs (s : Dev) (n : Nat) (a b : BitVec 16) : Dev :=
  let s := s.each (List.range 16) fun d i => (d.testChan n i false (a.getLsbD i)).testChan n i true (b.getLsbD i)
  let s := if s.safe.up then s.each (List.range 16) Dev.inputTime else s
  if inWindow n then s else s.each (List.range 16) fun d i => d.sampleInput i (a.getLsbD i) (b.getLsbD i)

/-- An input sample of Canopy (R337, R343 to R348): levels of the channels, high as 1. -/
def Dev.canopySample (s : Dev) (a b cmpBad : BitVec 16) : Dev :=
  if s.safe.halt then s
  else
    let n := s.safe.smp
    let s := { s with safe.dark := s.safe.dark.map fun (t : DarkTest) => { t with smp := t.smp + 1 } }.sampleInputs n a b
    let s := if s.inputsWell then s else { s with safe.wellAge := 0 }
    let bad := (List.range 16).filter fun i => s.inKind i != 0 && cmpBad.getLsbD i && bitOf s.safe.cmpPrev i
    let s := s.each bad fun d i => d.cause 11 i 0
    let s := { s with safe.cmpPrev := cmpBad.toNat, safe.smp := (n + 1) % 500 }
    let s := if n = 499 then s.frameEnd else s
    s.showInputs

/-- The discrepancy timer has reached DISC_MS (R347): DF_CHAN is the channel that did not follow. -/
def Dev.discTimeout (s : Dev) (i : Nat) : Dev :=
  if s.safe.halt then s
  else match (s.sin i).late with
    | none => s
    | some b => (s.setIn i fun y => { y with late := none }).cause 1 i (bnat (!b))

/-- Why an output is off at a scan end: 1 demand, 2 Deadfall, 3 reset, 4 table; none where it may be on (R349, R361). -/
def Dev.offReason (s : Dev) (k : Nat) : Option Nat :=
  if !s.maskRest k then some 1
  else if s.deadfall then some 2
  else if s.safe.ustAnn || !s.safe.up then some 3
  else if !s.safe.table || s.outMask k == 0 then some 4
  else none

/-- START_WAIT. -/
def Dev.startWait (s : Dev) (k : Nat) : Bool :=
  s.outMask k != 0 && s.bit (SAFE_OUT_CFG k) 16 && !(s.sout k).on && !(s.sout k).started

/-- A dark test is discarded (R352). -/
def Dev.discardDark (s : Dev) (k : Nat) : Dev :=
  match s.safe.dark with
  | none => s
  | some t =>
    if t.out = k then ({ s with safe.dark := none }.cntSat SAFE_DARK_CNT 31 16 1).ev 0x0C07 k (bnat t.ust) else s

/-- Canopy's decision on an output at a scan end (R349, R352). -/
def Dev.scanDecide (s : Dev) (k : Nat) : Dev :=
  let o := s.sout k
  match s.offReason k with
  | some r =>
    let s := (s.discardDark k).setOut k fun o => { o with on := false, started := o.started && !o.on }
    if o.on then (s.ev 0x0C05 k r).raise 0x50 else s
  | none =>
    let st := s.bit (SAFE_OUT_CFG k) 16
    if o.on then s
    else if st && !o.started then s
    else ((s.setOut k fun o => { o with on := true, age := some (o.age.getD 0) }).ev 0x0C06 k (bnat st)).raise 0x50

/-- The next dark test starts, on an output that is on (R351). -/
def Dev.darkStart (s : Dev) : Dev :=
  let s := { s with safe.sinceDark := min 40 (s.safe.sinceDark + 1) }
  if s.safe.dark.isSome || decide (s.safe.sinceDark < 40) then s
  else match (List.range 12).find? fun k => (s.sout k).due && s.soOn k with
    | none => s
    | some k =>
      let t : DarkTest := { out := k, ust := (s.sout k).ustNext }
      let s := s.setOut k fun o => { o with due := false, age := some 0, retry := false }
      { s with safe.dark := some t, safe.sinceDark := 0 }

/-- What Canopy counts in scan ends (R351, R357). -/
def Dev.scanTimes (s : Dev) : Dev :=
  { s with safe.dfAge := s.safe.dfAge + 1, safe.wellAge := s.safe.wellAge + 1,
           safe.out := s.safe.out.map fun (o : SafeOut) => { o with age := o.age.map (· + 1) } }

/-- RST_LOW of a scan end, where the reset input's level has been sampled (R355). -/
def Dev.showResetLow (s : Dev) (low : Option Bool) : Dev :=
  match low with
  | none => s
  | some b => s.setBit SAFE_STAT 4 b

/-- Canopy's scan end (R336, R337, R339, R349, R351, R355). -/
def Dev.scanEnd (s : Dev) (i : ScanIn) : Dev :=
  if s.safe.halt then s
  else
    let s := (s.scanTimes.cntSat SAFE_CNT 31 24 i.memCorr).showResetLow i.resetLow
    let s := if i.flowOk then s else s.cause 8 0 0
    let s := if i.memOk then s else s.cause 9 0 0
    let s := if i.parityOk then s else { s with safe.ustParity := false }.cause 10 0 0
    let s := s.enterDeadfall
    let s := s.each (List.range 12) Dev.scanDecide
    let s := s.darkStart
    let s := if s.safe.ustOn then { s with safe.ustAlive := true } else s
    let s := s.copyLatches
    s.wrN SAFE_OUT_RB (i.rb.toNat + 4096 * outMaskOf s.startWait)

/-- A readback mismatch of more than 1 ms (R350). -/
def Dev.rbMismatch (s : Dev) (k : Nat) (high : Bool) : Dev :=
  let test := s.safe.dark.elim false fun t => t.out == k
  if s.safe.halt || test || s.soOn k == high then s else s.cause (if high then 4 else 5) k 0

/-- Canopy's own prediction of a permit: the table is loaded, no latch is set, no test opening of Understory's switch is
requested, and Canopy detects every input of the MASK in its non-demand state (R338, R350). -/
def Dev.permitPredicted (s : Dev) (k : Nat) : Bool :=
  s.safe.table && !s.deadfall && !s.ustTest k && (maskBits 16 (s.outMask k)).all fun i =>
    (s.schan i false).closed == restLevel (s.inKind i) false && (s.schan i true).closed == restLevel (s.inKind i) true

/-- A permit that disagrees with Canopy's prediction for more than 2 ms (R350). -/
def Dev.permitMismatch (s : Dev) (k : Nat) : Dev :=
  if s.safe.halt || s.permitPredicted k == s.permit k then s else s.cause 13 k 0

/-- Scan ends from the start of a test to the next: DARK_P, or 1 s after a failure (R351). -/
def Dev.darkGap (s : Dev) (k : Nat) : Nat :=
  if (s.sout k).retry then 4000 else 4000 * s.fld (SAFE_OUT_CFG k) 26 21

/-- An output's dark test falls due (R351). -/
def Dev.darkDue (s : Dev) (k : Nat) : Dev :=
  if (s.sout k).on && s.outMask k != 0 && (s.sout k).age.any fun n => decide (s.darkGap k ≤ n) then
    s.setOut k fun o => { o with due := true }
  else s

/-- Samples from the opening to the check: DARK_W - 10 µs (R351). -/
def Dev.darkSamples (s : Dev) (k : Nat) : Nat := 9 + s.fld (SAFE_OUT_CFG k) 31 27

/-- The check of a dark test, and its switch closes (R351). -/
def Dev.darkCheck (s : Dev) (rbHigh : Bool) : Dev :=
  match s.safe.dark with
  | none => s
  | some t =>
    if s.safe.halt ∨ t.smp < s.darkSamples t.out then s
    else
    let s := { s with safe.dark := none }
    if rbHigh then
      let n := (s.sout t.out).fails + 1
      let s := (s.setOut t.out fun o => { o with fails := n, age := some 0, retry := true }).ev 0x0C08 t.out (bnat t.ust)
      if 2 ≤ n then (s.setOut t.out fun o => { o with fails := 0, retry := false }).cause 6 t.out 0 else s
    else
      (s.setOut t.out fun o => { o with fails := 0, ustNext := !o.ustNext }).cntWrap SAFE_DARK_CNT 15 0 1

/-- The CRC over the program ROM (R337). -/
def Dev.romCheck (s : Dev) (ok : Bool) : Dev := if ok || s.safe.halt then s else s.cause 7 0 0

/-- Understory's heartbeat over 10 ms (R339). -/
def Dev.ustFreq (s : Dev) (changes : Nat) : Dev :=
  if s.safe.halt then s
  else
    let f := 100 * changes
    let s := s.setFld SAFE_UST_FREQ 15 0 (min 65535 f)
    if f < 700 ∨ 1300 < f then s.cause 12 0 0 else s

/-- Understory misses Canopy's heartbeat (R339). -/
def Dev.hbLost (s : Dev) : Dev :=
  if s.safe.ustOn && !s.safe.ustSusp then { s with safe.ustAlive := false }.ustCause 14 0 else s

/-- Understory's filter on a channel (R344). -/
def Dev.ustFilter (s : Dev) (i : Nat) (b closed : Bool) : Dev :=
  if s.safe.ustOn then s.setChan i b fun x => { x with ust := closed } else s

/-- Off-state readback (R350). -/
def Dev.ustRb (s : Dev) (k : Nat) : Dev :=
  if s.safe.ustOn && !s.permit k then s.ustCause 15 k else s

/-- Understory closes its tested switch by itself (R351). -/
def Dev.selfClose (s : Dev) : Dev :=
  { s with safe.dark := s.safe.dark.map fun (t : DarkTest) => if t.ust then { t with selfClosed := true } else t }

/-- Result of a SAFE_RESET_N pulse (R357, R362). -/
def Dev.pulseResult (s : Dev) (ms rc : Nat) (rb : BitVec 12) (checksOk : Bool) : Nat :=
  let freq := s.fld SAFE_UST_FREQ 15 0
  if !s.deadfall then 6
  else if ms < 200 then 2
  else if 3000 < ms then 3
  else if !s.inputsWell || decide (s.safe.wellAge < 4 * ms) then 4
  else if rb != 0 || !checksOk || s.safe.causes != [] || decide (freq < 700 ∨ 1300 < freq) then 5
  else if rc < 150000 ∨ 3750000 < rc then 7
  else 1

/-- A SAFE_RESET_N pulse ends: the pin is high again, and a falling edge before the entry to Deadfall began no pulse (R357). -/
def Dev.safeReset (s : Dev) (ms rc : Nat) (rb : BitVec 12) (checksOk : Bool) : Dev :=
  if s.safe.halt then s
  else if s.deadfall && decide (s.safe.dfAge < 4 * ms) then s.setBit SAFE_STAT 4 false
  else
    let r := s.pulseResult ms rc rb checksOk
    let s := (s.setBit SAFE_STAT 4 false).wrN SAFE_RST_LAST (min 4095 ms + 4096 * r)
    if r = 6 then s
    else if r = 1 then
      let s := { s with safe.canopyLatch := false, safe.ustLatch := false, safe.ustParity := true }
      (((s.setFld SAFE_STAT 16 8 0)).ev 0x0C02 0 ms).raise 0x50
    else s.ev 0x0C03 r ms

/-- Channels of a used input as Canopy's start-up finds them: demand without an event (R346, R359). -/
def Dev.startInput (s : Dev) (i : Nat) : Dev :=
  let kind := s.inKind i
  let a := (s.schan i false).closed
  let b := (s.schan i true).closed
  let rest := a == restLevel kind false && b == restLevel kind true
  s.setIn i fun x => { x with
    demand := (kind == 1 || kind == 2) && !rest,
    disc := if kind = 0 ∨ chansAgree kind a b then none else some false, discRun := 0, late := none,
    press := none, held := none }

/-- Canopy's start-up is complete (R356, R358, R359). -/
def Dev.canopyStartup (s : Dev) (romOk memOk : Bool) (finding : Option (Bool × Nat × Bool)) : Dev :=
  if s.safe.halt || s.safe.up then s
  else
    let s := if s.safe.ustOn then { s with safe.canopyLatch := s.deadfall } else s
    let s := { s.setBit PIN_CFGD 14 true with safe.up := true }
    let s := if romOk then s else s.cause 7 0 0
    let s := if memOk then s else s.cause 9 0 0
    let s := match finding with
      | none => s
      | some (cross, i, b) => s.cause (if cross then 3 else 2) i (bnat b)
    let s := s.each (List.range 16) Dev.startInput
    let s := if s.deadfall then
        s.ev 0x0C0A (s.fld SAFE_STAT 11 8) (s.fld SAFE_STAT 15 12 * 2 + s.fld SAFE_STAT 16 16)
      else s
    let s := if s.safe.table then
        s.ev 0x0C09 0 ((List.range 12).filter fun k => s.outMask k != 0).length
      else s
    s.showInputs

/-- The suspension of Understory's heartbeat watch ends (R359): after the announcement, or, in a clock loss (SOURCE 6),
while it lasts. -/
def Dev.suspEnd (s : Dev) : Dev :=
  if s.safe.ustSusp && (!s.safe.ustAnn || s.rst.run.elim false fun r => r.src == 6) then
    let s := { s with safe.ustSusp := false }
    if s.safe.ustAlive then s else s.ustCause 14 0
  else s

/-- VDD_UST rises: permits at 0, and the latch is reloaded from Canopy's (R356, R359). -/
def Dev.ustPower (s : Dev) : Dev :=
  { s with
    safe.ustOn := true, safe.ustSw := true, safe.ustCfg := false, safe.ustAlive := false, safe.ustSusp := true,
    safe.ustParity := true, safe.ustLatch := s.safe.canopyLatch && !s.safe.halt,
    safe.chan := s.safe.chan.map fun (x : SafeChan) => { x with ust := false } }

/-- VDD_UST falls below 1.55 V: Understory's switches open (R458). -/
def Dev.ustLow (s : Dev) : Dev := { s with safe.ustSw := false }

/-- VDD_UST is back above 1.55 V without a power-on (R458). -/
def Dev.ustReturn (s : Dev) : Dev := if s.safe.ustOn then { s with safe.ustSw := true } else s

/-- A reset is announced: enables open, Understory drops its permits and suspends its watch (R358, R359). -/
def Dev.safeAnnounce (s : Dev) : Dev :=
  let s := { s with safe.ustAnn := true, safe.ustAlive := false, safe.ustSusp := true, safe.up := false,
                    safe.table := false, safe.ustCfg := false, safe.dark := none }
  s.each (List.range 12) fun d k =>
    let o := d.sout k
    let d := d.setOut k fun o => { o with on := false, started := false, due := false, ustNext := false, fails := 0,
                                          age := none, retry := false }
    if o.on then (d.ev 0x0C05 k 3).raise 0x50 else d

/-- The reset condition ends: the announcement ends (R359). -/
def Dev.safeRelease (s : Dev) : Dev := { s with safe.ustAnn := false, safe.halt := false }

/-- First item of R341 that refuses a table, with its input or output; rd reads the table's words. -/
def tableFault (rd : Nat → Nat) : Option (Nat × Nat) :=
  let inp (i : Nat) : Nat := rd (SAFE_IN_CFG i)
  let out (k : Nat) : Nat := rd (SAFE_OUT_CFG k)
  let kind (i : Nat) : Nat := bitsOf (inp i) 1 0
  let ins := (List.range 16).filter fun i => kind i != 0
  let f1 := ins.find? fun i => bitsOf (inp i) 3 2 == bitsOf (inp i) 5 4
  let f2 := ins.find? fun i => decide (bitsOf (inp i) 16 6 < 5 ∨ 2000 < bitsOf (inp i) 16 6)
  let f3 := (List.range 12).find? fun k => (maskBits 16 (bitsOf (out k) 15 0)).any fun i => kind i == 0 || kind i == 3
  let f4 := (List.range 12).find? fun k => bitOf (out k) 16 && kind (bitsOf (out k) 20 17) != 3
  let f5 := (List.range 12).find? fun k => bitsOf (out k) 15 0 != 0 &&
    (decide (bitsOf (out k) 26 21 < 1 ∨ 60 < bitsOf (out k) 26 21) || bitsOf (out k) 31 27 == 31)
  match f1, f2, f3, f4, f5 with
  | some i, _, _, _, _ => some (1, i)
  | _, some i, _, _, _ => some (2, i)
  | _, _, some k, _, _ => some (3, k)
  | _, _, _, some k, _ => some (4, k)
  | _, _, _, _, some k => some (5, k)
  | _, _, _, _, _ => none

end Sys2Proof.Machine
end

