-- ==== Sys2Proof/Machine/Stand.lean ====
section
/-! DEFINITION. Standing: Lead, Second and Warden (chapter 11). -/

namespace Sys2Proof.Machine

/-- ROLE, and the refusal of an unassigned code (R311). -/
def Dev.role (s : Dev) : Nat := s.fld STAND_STAT 1 0
def Dev.roleBad (s : Dev) : Bool := s.bit STAND_STAT 2

/-- UNITSEL code (R470). -/
def Dev.unitNo (s : Dev) : Nat := s.fld STAND_STAT 11 8

/-- The device is a Lead or a Second. -/
def Dev.isPeer (s : Dev) : Bool := decide (s.role ≤ 1) && !s.roleBad

/-- The device is the Warden. -/
def Dev.isWarden (s : Dev) : Bool := s.role == 2 && !s.roleBad

/-- Unit of a role in the standing table: 0 Lead, 1 Second, 2 Warden (R312). -/
def Dev.stdUnit (s : Dev) (r : Nat) : Nat := s.fld STAND_CFG (4 * r + 3) (4 * r)

def Dev.wardenEn (s : Dev) : Bool := s.bit STAND_CFG 12
def Dev.hbMiss (s : Dev) : Nat := max 1 (s.fld STAND_CFG 19 16)

/-- A device that holds standing (R314). -/
def Dev.holds (s : Dev) : Bool := s.bit STAND_STAT 3

/-- Miss count and last SDW of the Lead (0) or the Second (1) (R317). -/
def Dev.missOf (s : Dev) (r : Nat) : Nat := s.fld STAND_MISS (8 * r + 7) (8 * r)
def peerSdw (r : Nat) : Nat := if r = 0 then STAND_LEAD_SDW else STAND_SECOND_SDW

/-- Present: the miss count is at most HB_MISS (R317). -/
def Dev.present (s : Dev) (r : Nat) : Bool := decide (s.missOf r ≤ s.hbMiss)

/-- FIT in the last counted SDW. -/
def Dev.peerFit (s : Dev) (r : Nat) : Bool := s.bit (peerSdw r) 0

/-- Present with FIT = 1 (R318). -/
def Dev.eligible (s : Dev) (r : Nat) : Bool := s.present r && s.peerFit r

/-- The role that a unit has in the standing table, Lead or Second (R317). -/
def Dev.peerRole (s : Dev) (u : Nat) : Option Nat :=
  if u = s.stdUnit 0 then some 0 else if u = s.stdUnit 1 then some 1 else none

/-- HOLDS takes a value; holding clears TRACK_LOST (R321, R322, R328). -/
def Dev.setHolds (s : Dev) (h : Bool) : Dev :=
  let was := s.holds
  let s := s.setBit STAND_STAT 3 h
  let s := if h then { s.setBit STAND_STAT 6 false with stand.trackMiss := 0 } else s
  if was = h then s else s.raise 0x58

/-- The self-diagnosis word without FIT (R314). -/
def Dev.sdwBits (s : Dev) : Nat :=
  let ctxOut := (List.range 128).any fun c =>
    c != 0 && s.rate c != 0 && s.bit (LOOP_CTX_OUT c) 8 && s.ctxState c != 2
  let b (k : Nat) (x : Bool) : Nat := bnat x * 2 ^ k
  b 1 (s.mode == 2) + b 2 s.commissioned + b 3 (s.bit LOOP_ENG_STAT 7) + b 4 s.estValid
    + b 5 (decide (4 ≤ s.allocState)) + b 6 s.busOffCarrier + b 7 s.deadfall + b 8 s.timeValid
    + b 9 (s.bit GLB_TICK_STAT 8) + b 10 ctxOut + b 11 ((s.roleLane 0).isNone || (s.roleLane 2).isNone)
    + b 12 (s.bit STAND_STAT 6) + b 13 (s.bit STAND_STAT 7) + b 14 s.holds + b 15 (s.bit STAND_STAT 5)

/-- FIT of the other bits (R315). -/
def fitOf (w : Nat) : Bool :=
  [1, 2, 4, 8, 9].all (fun k => bitOf w k) && [3, 5, 6, 7, 10, 11].all fun k => !bitOf w k

/-- The SDW (R314, R315). -/
def Dev.sdw (s : Dev) : Nat := s.sdwBits + bnat (fitOf s.sdwBits)

/-- The self rule (R322): the feed bits follow at once. -/
def Dev.selfRule (s : Dev) : Dev :=
  let other := 1 - s.role
  let otherFit := s.present other && s.peerFit other
  let fit := s.bit STAND_SDW 0
  let h := if s.role = 0 then fit || !otherFit else !otherFit && fit
  { s.setHolds h with stand.standing := h, stand.shadow := !h }

/-- A heartbeat arrives and is held for the next tick-2 latch (R313, R317). -/
def Dev.heartbeat (s : Dev) (p : List Byte) : Dev :=
  let w := BitVec.ofNat 32 (u32 p 16)
  if s.roleBad ∨ s.role = 3 ∨ u8 p 0 ≠ 0x11 then s
  else match s.peerRole (u8 p 2 % 16) with
    | some 0 => if s.role = 0 then s else { s with stand.hbLead := some w }
    | some _ => if s.role = 1 then s else { s with stand.hbSecond := some w }
    | none => s

/-- The count of a peer's heartbeat at tick 2 (R317). -/
def Dev.countPeer (s : Dev) (r : Nat) (hb : Option Word) : Dev :=
  if s.role = r then s
  else match hb with
    | some w => (s.setFld STAND_MISS (8 * r + 7) (8 * r) 0).wr (peerSdw r) w
    | none => s.cntSat STAND_MISS (8 * r + 7) (8 * r) 1

/-- Unit that holds standing, as the Warden decided it. -/
def Dev.holderUnit (s : Dev) (second : Bool) : Nat := s.stdUnit (if second then 1 else 0)

/-- Standing passes to a device for a reason (R318). -/
def Dev.transfer (s : Dev) (second : Bool) (reason : Nat) : Dev :=
  let u := s.holderUnit second
  let s := { s with stand.holder := some second, stand.reason := reason, stand.heldCycles := 0,
                    stand.swapDue := false, stand.swapSaid := false,
                    stand.cmd := s.stand.cmd && decide (reason ≤ 3) }
  (((s.setFld STAND_STAT 15 12 u).setBit STAND_STAT 4 true).ev 0x0B01 u reason).raise 0x58

/-- What R331 asks of a swap to the other device. -/
def Dev.swapOk (s : Dev) (second : Bool) : Bool :=
  let other := if second then 1 else 0
  s.eligible 0 && s.eligible 1 && !s.bit (peerSdw other) 12 && !s.bit (peerSdw other) 13
    && s.bit (peerSdw 0) 1 && s.bit (peerSdw 1) 1

/-- Minutes to the due swap (R331, R334). -/
def Dev.showSwapLeft (s : Dev) : Dev :=
  let h := s.fld STAND_SWAP 15 0
  if h = 0 ∨ s.stand.holder = none then s.wrN STAND_SWAP_LEFT 0
  else s.wrN STAND_SWAP_LEFT (ceilDiv (h * 180000 - s.stand.heldCycles) 3000)

/-- The Warden's decision at P0 of tick 2 (R318, R331). -/
def Dev.wardenDecision (s : Dev) : Dev :=
  match s.stand.holder with
  | none =>
    let h0 := s.present 0 && s.bit (peerSdw 0) 14
    let h1 := s.present 1 && s.bit (peerSdw 1) 14
    if h0 && !h1 && s.eligible 0 then s.transfer false 1
    else if h1 && !h0 && s.eligible 1 then s.transfer true 1
    else if s.eligible 0 then s.transfer false 1
    else if s.eligible 1 then s.transfer true 1
    else s
  | some x =>
    let me := if x then 1 else 0
    let other := 1 - me
    let s := { s with stand.heldCycles := s.stand.heldCycles + 1 }
    if !s.present me && s.eligible other then s.transfer (!x) 3
    else if s.present me && !s.peerFit me && s.eligible other then s.transfer (!x) 2
    else if s.stand.swapDue && s.swapOk (!x) then s.transfer (!x) 4
    else
      let s := if s.stand.swapDue && !s.stand.swapSaid then
          { s with stand.swapSaid := true }.ev 0x0B07 0 0 else s
      if s.stand.cmd && s.swapOk (!x) then s.transfer (!x) 5 else s

/-- P0 of tick 2 (R314, R317, R318, R322). -/
def Dev.standTick2 (s : Dev) : Dev :=
  if s.roleBad ∨ s.role = 3 then s
  else
    let s := (s.countPeer 0 s.stand.hbLead).countPeer 1 s.stand.hbSecond
    let s := { s with stand.hbLead := none, stand.hbSecond := none }
    if s.role = 2 then (if s.wardenEn then s.wardenDecision else s).showSwapLeft
    else
      let s := if s.stand.seenNow then s.setFld STAND_MISS 23 16 0
        else if s.wardenEn then s.cntSat STAND_MISS 23 16 1 else s
      let s := { s with stand.seenNow := false }
      let s := s.wrN STAND_SDW s.sdw
      if s.bit STAND_STAT 5 || !s.wardenEn then
        let s := s.selfRule
        s.wrN STAND_SDW s.sdw
      else s

/-- A standing frame arrives (R313, R321). -/
def Dev.standingFrame (s : Dev) (p : List Byte) : Dev :=
  if s.isPeer && s.wardenEn && u8 p 0 == 0x12 && u8 p 2 % 16 == s.stdUnit 2 then
    let b := u8 p 18
    { s with stand.frame := some { dseq := u16 p 16, unit := b % 16, role := bitsOf b 5 4, decided := bitOf b 6,
                                   reason := u8 p 19 } }
  else s

/-- P0 takes the frame that arrived (R321, R322). -/
def Dev.takeFrame (s : Dev) : Dev :=
  match s.stand.frame with
  | none => s
  | some f =>
    let s := { s with stand.frame := none, stand.taken := some f, stand.seenNow := true,
                      stand.holderSeen := f.unit, stand.dseqSeen := f.dseq }
    let s := (s.wrN STAND_DSEQ f.dseq).setFld STAND_MISS 23 16 0
    if s.bit STAND_STAT 5 then (s.setBit STAND_STAT 5 false).ev 0x0B09 0 f.dseq else s

/-- P3 applies the frame taken (R321). -/
def Dev.applyFrame (s : Dev) : Dev :=
  match s.stand.taken with
  | none => s
  | some f =>
    let own := f.decided && f.unit == s.unitNo
    let hu := if f.decided then f.unit else 0xF
    let was := s.fld STAND_STAT 15 12
    let s := { s with stand.taken := none, stand.standing := own, stand.shadow := f.decided && !own }
    let s := (s.setHolds own).setBit STAND_STAT 4 f.decided
    let s := s.setFld STAND_STAT 15 12 hu
    if was = hu then s else s.raise 0x58

/-- More than HB_MISS cycles without a standing frame; the self rule acts at P0 of tick 2, so at once only in that tick
(R322). -/
def Dev.wardenGone (s : Dev) : Dev :=
  let n := s.fld STAND_MISS 23 16
  if s.isPeer && s.wardenEn && !s.bit STAND_STAT 5 && decide (s.hbMiss < n) then
    let s := (s.setBit STAND_STAT 5 true).ev 0x0B08 0 n
    if s.tick = 2 then
      let s := s.selfRule
      s.wrN STAND_SDW s.sdw
    else s
  else s

/-- A peer's miss count passes HB_MISS: absence is that comparison, which the decisions of tick 2 make; no other state
holds it (R317). -/
def Dev.peerAbsent (s : Dev) (_second : Bool) : Dev := s

/-- Fields of the heartbeat (R316). -/
def Dev.heartbeatFields (s : Dev) : List Byte :=
  leBytes 4 (s.rd STAND_SDW).toNat ++ leBytes 1 s.mode ++ leBytes 1 s.stand.holderSeen
    ++ leBytes 2 s.stand.dseqSeen ++ leBytes 4 s.stand.setLoaded ++ List.replicate 4 0

/-- Byte 18 of the standing frame and byte 1 of its CAN frame (R319, R320). -/
def Dev.holderByte (s : Dev) : Nat :=
  match s.stand.holder with
  | none => 0
  | some x => s.holderUnit x + 16 * bnat x + 64

/-- Fields of the standing frame (R319). -/
def Dev.standingFields (s : Dev) : List Byte :=
  leBytes 2 (s.fld STAND_DSEQ 15 0) ++ leBytes 1 s.holderByte ++ leBytes 1 s.stand.reason
    ++ leBytes 4 (s.rd STAND_LEAD_SDW).toNat ++ leBytes 4 (s.rd STAND_SECOND_SDW).toNat
    ++ leBytes 1 (s.missOf 0) ++ leBytes 1 (s.missOf 1) ++ [0, 0]

/-- The Warden's frame on the CAN buses (R320). -/
def Dev.standingCan (s : Dev) : Dev :=
  if s.bit STAND_STD_CFG 0 then
    s.each ((List.range 8).filter fun c => s.bit STAND_STD_CFG (c + 1)) fun d c =>
      if d.canRunning c then
        let fd := (d.canc c).fd
        let data := leBytes 1 (d.fld STAND_DSEQ 7 0) ++ leBytes 1 d.holderByte ++ leBytes 1 d.stand.reason
          ++ leBytes 1 (d.stdUnit 2) ++ List.replicate 4 0
        d.enqueue c { frame := { id := BitVec.ofNat 29 (d.fld STAND_STD_CFG 19 9), ide := false, fdf := fd, brs := fd,
                                 esi := false, dlc := 8, data := data }, stream := 65 }
      else d.skipFrame c 65
  else s

/-- P3 of tick 2: heartbeat, or the Warden's frames (R316, R319, R320). -/
def Dev.standSend (s : Dev) : Dev :=
  if s.isPeer then s.sendBrf 0x11 s.heartbeatFields
  else if s.isWarden && s.wardenEn then
    let s := s.cntWrap STAND_DSEQ 15 0 1
    (s.sendBrf 0x12 s.standingFields).standingCan
  else s

/-- Entry of a context in the state set (R326). -/
def Dev.ctxEntry (s : Dev) (c : Nat) : List Byte :=
  leBytes 1 c ++ leBytes 1 (s.ctxState c) ++ leBytes 1 (s.fld (LOOP_CTX_STAT c) 23 16) ++ [0]
    ++ leBytes 4 (s.rd (LOOP_CTX_INTV c)).toNat ++ leBytes 4 (s.rd (LOOP_CTX_DV c)).toNat
    ++ leBytes 4 (s.rd (LOOP_CTX_OUTV c)).toNat ++ leBytes 4 (toPbv ((s.lctx c).xPrev.getD 0)).toNat

/-- Entry of a generator. -/
def Dev.genEntryBytes (s : Dev) (g : Nat) : List Byte :=
  let x := s.gen g
  leBytes 1 g ++ leBytes 1 (s.gState g + 16 * bnat x.cand.isSome + 32 * bnat (s.bit (PROF_STAT g) 8)) ++ [0, 0]
    ++ sBytes 8 x.pos ++ sBytes 8 x.vel ++ sBytes 8 x.acc ++ sBytes 8 x.tgt ++ sBytes 8 (x.cand.getD 0)
    ++ List.replicate 4 0

/-- Entry of a thruster. -/
def Dev.thrEntry (s : Dev) (t : Nat) : List Byte :=
  let f := s.alloc.f0.getD t (0, 0)
  leBytes 1 t ++ leBytes 1 (bnat (s.bit (ALLOC_THR_STAT t) 2) + 2 * bnat (s.bit ALLOC_ZONE_IN t)
    + 4 * bnat (s.alloc.zeroBound.getD t false)) ++ [0, 0]
    ++ leBytes 4 (toPbv f.1).toNat ++ leBytes 4 (toPbv f.2).toNat

/-- Cut entries into parts of at most n entries. -/
def chunks {α : Type} (n : Nat) : Nat → List α → List (List α)
  | 0, _ => []
  | _ + 1, [] => []
  | k + 1, xs => xs.take n :: chunks n k (xs.drop n)

/-- Contexts with RATE not 0, and generators whose records apply (R102, R326). -/
def Dev.setCtxs (s : Dev) : List Nat := (List.range 128).filter fun c => c != 0 && s.rate c != 0
def Dev.setGens (s : Dev) : List Nat :=
  (s.setCtxs.filter fun c => s.fld (LOOP_CTX_SRC c) 15 12 == 0) ++ [128, 129, 130]

/-- End of P2 of tick 78: own outputs, and the holder's state set sent in P3 (R326, R329). -/
def Dev.standTick78 (s : Dev) : Dev :=
  if s.isPeer then
    let s := { s with stand.snap := s.setCtxs.map fun c => (c, s.rd (LOOP_CTX_OUTV c), s.ctxState c == 2) }
    if s.holds then
      let parts : List (Nat × List (List Byte)) :=
        (chunks 73 8 (s.setCtxs.map s.ctxEntry)).map (fun p => (0, p))
          ++ (chunks 30 8 (s.setGens.map s.genEntryBytes)).map (fun p => (1, p))
          ++ (chunks 24 8 (s.thrusters.map s.thrEntry)).map fun p => (2, p)
      let n := parts.length
      s.each (parts.zip (List.range n)) fun d p =>
        d.sendBrf 0x13 (leBytes 1 p.1.1 ++ leBytes 1 p.2 ++ leBytes 1 n ++ leBytes 1 p.1.2.length
          ++ leBytes 4 d.cycles ++ p.1.2.flatten)
    else s
  else s

/-- A part of the holder's state set arrives (R326, R327). -/
def Dev.setPart (s : Dev) (p : List Byte) : Dev :=
  let sect := u8 p 16
  if s.isPeer && !s.holds && u8 p 0 == 0x13 && s.peerRole (u8 p 2 % 16) == some (1 - s.role) && decide (sect ≤ 2) then
    let x : SetPart := { set := u32 p 20, npart := u8 p 18, part := u8 p 17, sect := sect, cnt := u8 p 19,
                         bytes := p.drop 24 }
    { s with stand.parts := x :: s.stand.parts.filter fun y => !(y.set == x.set && y.part == x.part) }
  else s

/-- Bytes of an entry by section. -/
def setEntryLen (sect : Nat) : Nat := if sect = 0 then 20 else if sect = 1 then 48 else 12

/-- Entries of a section in a set's parts. -/
def setEntries (ps : List SetPart) (sect : Nat) : List (List Byte) :=
  (ps.filter fun p => p.sect == sect).flatMap fun p =>
    (List.range p.cnt).map fun k => slice p.bytes (k * setEntryLen sect) (setEntryLen sect)

/-- A generator's state from its entry (R104). -/
def genShareOf (e : List Byte) : GenShare :=
  let q (o : Nat) : Int := signed 64 (leNat (slice e o 8))
  { pos := q 4, vel := q 12, acc := q 20, tgt := q 28, state := u8 e 1 % 16,
    cand := if bitOf (u8 e 1) 4 then some (q 36) else none }

/-- A thruster's forces, side and zone from its entry (R142, R327). -/
def Dev.loadThr (s : Dev) (e : List Byte) : Dev :=
  let t := u8 e 0
  if 24 ≤ t then s
  else
    let f := (pbvVal (BitVec.ofNat 32 (u32 e 4)), pbvVal (BitVec.ofNat 32 (u32 e 8)))
    let z := bitOf (u8 e 1) 1
    let s := ({ s with alloc.f0 := setAt s.alloc.f0 t f, alloc.loaded := t :: s.alloc.loaded,
                       alloc.zeroBound := setAt s.alloc.zeroBound t (bitOf (u8 e 1) 2) } : Dev)
    ((s.setBit (ALLOC_THR_STAT t) 2 (bitOf (u8 e 1) 0)).setBit ALLOC_ZONE_IN t z).setBit (ALLOC_THR_STAT t) 1 z

/-- Contexts of a loaded set whose outputs differ by more than the limit (R329). -/
def Dev.diverging (s : Dev) (es : List (List Byte)) : List Nat :=
  (es.filter fun e =>
    match s.stand.snap.find? fun x => x.1 == u8 e 0 with
    | none => false
    | some (c, own, run) =>
      let span := s.pbv (LOOP_CTX_OMAX c) - s.pbv (LOOP_CTX_OMIN c)
      run && u8 e 1 % 8 == 2 && s.bit (LOOP_CTX_OUT c) 8
        && decide (s.pbv STAND_DIV_LIM * span < absRat (pbvVal (BitVec.ofNat 32 (u32 e 12)) - pbvVal own))).map
    fun e => u8 e 0

/-- The divergence check of a loaded set (R329). -/
def Dev.divergence (s : Dev) (es : List (List Byte)) : Dev :=
  let cs := s.diverging es
  let div := cs.map fun c => (c, (lookupKey c s.stand.div).getD 0 + 1)
  let s := { s with stand.div := div }
  let lim := max 1 (s.fld STAND_CFG 31 24)
  if cs = [] then s.setBit STAND_STAT 7 false
  else match div.find? fun p => decide (lim ≤ p.2) with
    | none => s
    | some p => if s.bit STAND_STAT 7 then s else (s.setBit STAND_STAT 7 true).ev 0x0B06 p.1 lim

/-- A complete set is loaded: generators for P1, contexts for P2, allocation at once (R327). -/
def Dev.loadSet (s : Dev) (set : Nat) (ps : List SetPart) : Dev :=
  let s := (s.cntWrap STAND_SET_CNT 15 0 1).setBit STAND_STAT 6 false
  let s := { s with stand.setLoaded := set, stand.trackMiss := 0, stand.load := setEntries ps 0, alloc.loaded := [] }
  let s := s.each (setEntries ps 1) fun d e => d.setGen (u8 e 0) fun x => { x with shared := some (genShareOf e) }
  (s.each (setEntries ps 2) Dev.loadThr).divergence (setEntries ps 0)

/-- P0 of tick 79 (R327, R328). -/
def Dev.standTick79 (s : Dev) : Dev :=
  let all := s.stand.parts
  let s := { s with stand.parts := [] }
  if !s.isPeer || s.holds then s
  else
    let sets := (all.map SetPart.set).reverse.dedup
    let partsOf (n : Nat) : List SetPart := all.filter fun p => p.set == n
    let whole (n : Nat) : Bool :=
      (partsOf n).any fun p => p.npart != 0 &&
        (List.range p.npart).all fun k => (partsOf n).any fun q => q.part == k
    let s := s.each (sets.filter fun n => !whole n) fun d n =>
      (d.cntSat STAND_SET_CNT 31 16 1).ev 0x0B04 0 (partsOf n).length
    match (sets.filter whole).getLast? with
    | some n => s.loadSet n (sortBy (fun a b => decide (a.part ≤ b.part)) (partsOf n))
    | none => { s with stand.trackMiss := s.stand.trackMiss + 1 }

/-- Start of P2: the contexts of the set, where both are in Run (R70, R327). -/
def Dev.loadCtxs (s : Dev) : Dev :=
  let s := s.each s.stand.load fun d e =>
    let c := u8 e 0
    let w (o : Nat) : Word := BitVec.ofNat 32 (u32 e o)
    if u8 e 1 % 8 = 2 ∧ d.ctxState c = 2 ∧ c < 128 then
      (((d.wr (LOOP_CTX_INTV c) (w 4)).wr (LOOP_CTX_DV c) (w 8)).wr (LOOP_CTX_OUTV c) (w 12)).setLctx c
        fun x => { x with xPrev := some (pbvVal (w 16)) }
    else d
  { s with stand.load := [] }

/-- More than TRACK_MISS cycles without a loaded set (R328). -/
def Dev.trackGone (s : Dev) : Dev :=
  let n := s.stand.trackMiss
  if s.isPeer && !s.holds && !s.bit STAND_STAT 6 && decide (s.fld STAND_CFG 23 20 < n) then
    (s.setBit STAND_STAT 6 true).ev 0x0B05 0 n
  else s

/-- One device has held standing for SWAP_H hours (R331). -/
def Dev.swapFalls (s : Dev) : Dev :=
  let h := s.fld STAND_SWAP 15 0
  if s.isWarden && s.stand.holder.isSome && h != 0 && decide (h * 180000 ≤ s.stand.heldCycles) then
    { s with stand.swapDue := true }
  else s

/-- A write of SWAP to STAND_CMD (R331, R334). -/
def Dev.swapCommand (s : Dev) : Dev :=
  if s.isWarden then
    if s.sessOk 2 then { s.sessUse with stand.cmd := true } else s.ev 0x0B07 0 1
  else s

/-- P0 of tick n (R317 to R322, R327). -/
def Dev.standP0 (s : Dev) (n : Nat) : Dev :=
  let s := if n = 2 then s.standTick2 else s
  if n = 79 then s.standTick79 else s

/-- Roles, unit and holder start at a release: the Warden undecided, no frame taken (R311, R318, R321). -/
def Dev.standStart (s : Dev) (role : Option Nat) (unit : Nat) : Dev :=
  s.wrN STAND_STAT (match role with
    | some r => r + 256 * unit + 0xF000
    | none => 4 + 256 * unit + 0xF000)

end Sys2Proof.Machine
end

