-- ==== Sys2Proof/Machine/Thicket.lean ====
section
/-! DEFINITION. Thicket: cargo points and custody records (chapter 13). -/

namespace Sys2Proof.Machine

/-- The live point of a number. -/
def Dev.point (s : Dev) (n : Nat) : Option ThktPt := s.thkt.pts.find? fun p => p.num == n

/-- The live point of a hash (R367). -/
def Dev.pointOf (s : Dev) (h : List Byte) : Option ThktPt := s.thkt.pts.find? fun p => p.hash == h

/-- Put a point in its place, in rising number. -/
def putPt (x : ThktPt) : List ThktPt → List ThktPt
  | [] => [x]
  | p :: ps => if x.num < p.num then x :: p :: ps else if x.num = p.num then x :: ps else p :: putPt x ps

/-- Lowest number that is free in a table in rising number, from n (R367). -/
def freePt : Nat → List ThktPt → Nat
  | n, [] => n
  | n, p :: ps => if p.num = n then freePt (n + 1) ps else n

/-- THKT_STAT (R385); FULL clears when a point is free again. -/
def Dev.showPts (s : Dev) : Dev :=
  let n := s.thkt.pts.length
  let s := s.setFld THKT_STAT 18 0 n
  if n < 262144 then { s.setBit THKT_STAT 19 false with thkt.fullSaid := false } else s

/-- Store a point. -/
def Dev.setPt (s : Dev) (x : ThktPt) : Dev := ({ s with thkt.pts := putPt x s.thkt.pts } : Dev).showPts

/-- Free a point (R368). -/
def Dev.freePoint (s : Dev) (n : Nat) : Dev :=
  ({ s with thkt.pts := s.thkt.pts.filter fun p => p.num != n } : Dev).showPts

/-- The 16 bytes of a point (R365). -/
def ptBytes (x : ThktPt) : List Byte :=
  slice x.hash 0 7 ++ leBytes 1 (x.cls % 16 + 16 * x.sealSt + 128) ++ leBytes 1 x.gw
    ++ leBytes 1 (x.prev + 8 * bnat x.outR) ++ sBytes 2 x.value ++ leBytes 4 x.lastS

/-- Bytes of a point number; zeros where it is free. -/
def Dev.pointBytes (s : Dev) (n : Nat) : List Byte := ((s.point n).map ptBytes).getD (List.replicate 16 0)

/-- QLEN, QMAX, HELD of the signing queue (R382, R385). -/
def Dev.showQueue (s : Dev) : Dev :=
  let n := s.thkt.queue.length
  ((s.setFld THKT_QUEUE 11 0 n).setFld THKT_QUEUE 27 16 (max n (s.fld THKT_QUEUE 27 16))).wrN (THKT_CREC 2) n

/-- Position at a cycle boundary (R376). -/
def Dev.thktPosition (s : Dev) : Dev :=
  let p := s.thkt.pos
  let here : ThktPos :=
    if s.estValid then
      let g := Config.geodetic (s.rd EST_ORIGIN_LAT).toInt (s.rd EST_ORIGIN_LON).toInt (s.estX 0) (s.estX 1)
      { src := 1, lat := g.1, lon := g.2 }
    else match s.bit GNSS_STAT 3, s.gnss.fix with
      | true, some f => { src := 2, lat := f.lat, lon := f.lon }
      | _, _ => if p.src = 0 then p else { p with src := 3 }
  { s with thkt.pos := here }

/-- What a record is formed from. -/
structure RecIn where
  kind : Nat
  old : Nat
  new : Nat
  ns : Int
  pos : ThktPos
  gw : Nat
  first : ThktPt
  last : ThktPt
  count : Nat := 1
  members : List Byte := []

/-- A record is a group record. -/
def RecIn.grp (r : RecIn) : Bool := decide (1 ≤ r.kind ∧ r.kind ≤ 3)

/-- Bytes 0 to 79 of a custody record (R377). -/
def Dev.recBytes (s : Dev) (r : RecIn) (serial : Nat) : List Byte :=
  leBytes 1 0xD1 ++ leBytes 1 1 ++ leBytes 1 r.kind ++ leBytes 1 (r.old + 8 * r.new + 64 * r.pos.src) ++ leBytes 8 serial
    ++ leBytes 6 (r.ns / 1000000000).toNat
    ++ leBytes 1 (s.tstate + 8 * bnat (s.bit EST_STAT 3) + 16 * s.unitNo) ++ leBytes 1 r.gw
    ++ leBytes 4 (r.ns % 1000000000).toNat ++ sBytes 4 r.pos.lat ++ sBytes 4 r.pos.lon
    ++ leBytes 4 r.first.num ++ leBytes 4 r.last.num ++ slice r.first.hash 0 7
    ++ leBytes 1 (if r.grp then 0 else r.first.cls) ++ slice r.last.hash 0 7 ++ [0]
    ++ (if r.grp then [0, 0] else sBytes 2 r.first.value) ++ [0, 0] ++ leBytes 4 r.count
    ++ (if r.grp then (sha384 r.members).take 16 else List.replicate 16 0)

/-- A record is formed and queued with the next SERIAL (R377, R378, R380). -/
def Dev.formRecord (s : Dev) (r : RecIn) : Dev :=
  let n := (s.thkt.count + 1) % 2 ^ 40
  let serial := s.fld LOG_PWR_CYC 23 0 * 2 ^ 40 + n
  let c : CustRec := { bytes := s.recBytes r serial, group := r.grp, members := r.members, list := !r.grp }
  let s := ({ s with thkt.count := n, thkt.queue := s.thkt.queue ++ [c] } : Dev)
  let s := ((s.wrN THKT_SERIAL_LO serial).wrN THKT_SERIAL_HI (serial / 2 ^ 32)).cntWrap (THKT_CREC 0) 31 0 1
  let s := s.showQueue
  if r.grp then s.ev 0x0D02 r.gw r.count else s.ev 0x0D01 r.first.num r.new

/-- Room for a single record, release or corruption (R380). -/
def Dev.roomSingle (s : Dev) : Bool := decide (s.thkt.queue.length ≤ 1791)

/-- Letter value of ISO 6346 (R366). -/
def isoLetter (k : Nat) : Nat := 10 + k + bnat (decide (1 ≤ k)) + bnat (decide (11 ≤ k)) + bnat (decide (21 ≤ k))

/-- Value of a character of a container number at its place; none where the character is not allowed there. -/
def isoChar (i c : Nat) : Option Nat :=
  if i < 3 then if 0x41 ≤ c ∧ c ≤ 0x5A then some (isoLetter (c - 0x41)) else none
  else if i = 3 then if c = 0x55 ∨ c = 0x4A ∨ c = 0x5A then some (isoLetter (c - 0x41)) else none
  else if 0x30 ≤ c ∧ c ≤ 0x39 then some (c - 0x30) else none

/-- The check digit of a container number agrees (R366). -/
def isoOk (b : List Byte) : Bool :=
  let vs := (List.range 10).map fun i => (isoChar i (u8 b i)).map fun v => v * 2 ^ i
  vs.all Option.isSome && isoChar 10 (u8 b 10) == some ((vs.map (·.getD 0)).sum % 11 % 10)

/-- Why an entry is refused before it touches a point, by the codes of R384. -/
def entryBad (e : List Byte) : Option Nat :=
  let kind := u8 e 0
  let len := u8 e 1
  let id := slice e 2 len
  if 1 < kind ∨ (kind = 0 ∧ len ≠ 11) ∨ (kind = 1 ∧ (len = 0 ∨ 24 < len)) then some 4
  else if kind = 1 ∧ !(id.all fun c => decide (0x20 ≤ c.toNat ∧ c.toNat ≤ 0x7E)) then some 4
  else if kind = 0 ∧ !isoOk id then some 1
  else if 6 < u8 e 26 % 16 then some 2
  else if 5 < bitsOf (u8 e 26) 6 4 then some 3
  else none

/-- Raw units in one step of a class (R371). -/
def clsStep : Nat → Nat
  | 1 => 4096 | 2 => 1024 | 3 => 64 | 4 => 64 | 5 => 4096 | 6 => 64 | _ => 1

/-- VALUE and OUT_RANGE of an entry (R371). -/
def quantise (cls : Nat) (raw : Int) : Int × Bool :=
  if cls = 0 then (0, false)
  else
    let q := divRound raw (clsStep cls)
    (clampInt (-32768) 32767 q, decide (q < -32768 ∨ 32767 < q))

/-- An entry is refused (R367, R380, R384). -/
def Dev.refuseEntry (s : Dev) (gw code : Nat) : Dev :=
  (s.cntSat (if code ≤ 4 then THKT_ENT_BAD else THKT_ENT_REFUSED) 31 0 1).ev 0x0D04 gw code

/-- The table has no free point (R367). -/
def Dev.tableFull (s : Dev) : Dev :=
  let said := s.thkt.fullSaid
  let s := { (s.setBit THKT_STAT 19 true).raise 0x60 with thkt.fullSaid := true }
  if said then s else s.ev 0x0D07 0 0

/-- A change joins its gateway's collection (R373, R374). -/
def Dev.collect (s : Dev) (kind gw old new : Nat) (x : ThktPt) (ns : Option Int) : Dev :=
  { s with thkt.items := s.thkt.items
      ++ [{ kind := kind, gw := gw, pt := x, old := old, new := new, ns := ns, pos := s.thkt.pos }] }

/-- An entry of an accepted frame (R367, R372, R373). -/
def Dev.applyEntryThkt (s : Dev) (gw : Nat) (arrival : Int) (e : List Byte) : Dev :=
  match entryBad e with
  | some c => s.refuseEntry gw c
  | none =>
    let hash := (sha384 (leBytes 1 (u8 e 0) ++ slice e 2 (u8 e 1))).take 7
    let cls := u8 e 26 % 16
    let new := bitsOf (u8 e 26) 6 4
    let v := quantise cls (signed 32 (u32 e 28))
    let lastS := (arrival / 1000000000).toNat % 2 ^ 32
    match s.pointOf hash with
    | none =>
      let n := freePt 0 s.thkt.pts
      if 262144 ≤ n then (s.refuseEntry gw 6).tableFull
      else
        let x : ThktPt := { num := n, hash := hash, cls := cls, sealSt := new, gw := gw, outR := v.2, value := v.1,
                            lastS := lastS }
        (s.setPt x).collect 3 gw 0 new x (some arrival)
    | some p =>
      let y : ThktPt := { p with cls := cls, gw := gw, outR := v.2, value := v.1, lastS := lastS }
      let old := p.sealSt
      if old = 5 ∧ new = 5 then s
      else if old = new then s.setPt y
      else if new = 5 then
        let y := { y with sealSt := 5, prev := old }
        (s.setPt y).collect 1 gw old 5 y (some arrival)
      else if old = 5 ∧ new = p.prev then
        let y := { y with sealSt := new, prev := 0 }
        (s.setPt y).collect 2 gw 5 new y (some arrival)
      else if s.roomSingle then
        let y := { y with sealSt := new, prev := 0 }
        (s.setPt y).formRecord { kind := 0, old := old, new := new, ns := arrival, pos := s.thkt.pos, gw := gw,
                                 first := y, last := y }
      else s.refuseEntry gw 5

/-- GW_SEQ is newer (R370). -/
def newerSeq (a b : Nat) : Bool :=
  let d := (a + 2 ^ 32 - b) % 2 ^ 32
  decide (1 ≤ d ∧ d ≤ 2 ^ 31 - 1)

/-- Slot key of a gateway, where its slot is in gateway use (R369, R425). -/
def Dev.gwKey (s : Dev) (g : Nat) : Option (List Byte) :=
  let k := s.fld (THKT_GW_CFG g) 3 1
  if s.fld (GLB_SLOT k) 1 0 = 2 then s.glade.keys[k]? else none

/-- Why a report frame is dropped, with the frames that the input queue holds at its arrival; the lowest reason that applies
(R370). -/
def Dev.frameBad (s : Dev) (ip : Word) (b : List Byte) (queued : Nat) : Option Nat :=
  let n := u8 b 3
  let g := u8 b 2
  let body := b.take (16 + 32 * n)
  let tagOk := match s.gwKey g with
    | some k => (hmac256 k body).take 16 == b.drop (16 + 32 * n)
    | none => false
  if b.length ≠ 32 + 32 * n ∨ u8 b 0 ≠ 0xD0 ∨ u8 b 1 ≠ 1 ∨ n = 0 ∨ 45 < n then some 1
  else if !s.bit (THKT_GW_CFG g) 0 ∨ ip ≠ s.rd (THKT_GW_IP g) then some 2
  else if !tagOk then some 3
  else if (lookupKey g s.thkt.heard).isSome ∧ !newerSeq (u32 b 4) (s.rd (THKT_GW_SEQ g)).toNat then some 4
  else if 256 ≤ queued then some 5
  else none

/-- A report frame arrives (R364, R369, R370, R375). -/
def Dev.thktFrame (s : Dev) (ip : Word) (b : List Byte) (arrival : Int) (queued : Nat) : Dev :=
  let s := s.cntWrap (THKT_LEDGER 0) 31 0 1
  if !s.bit THKT_CFG 0 then s.cntWrap (THKT_LEDGER 3) 31 0 1
  else match s.frameBad ip b queued with
    | some r => (s.cntWrap (THKT_LEDGER 3) 31 0 1).ev 0x0D03 (if b.length < 16 then 0xFF else u8 b 2) r
    | none =>
      let g := u8 b 2
      let s := (s.wrN (THKT_GW_SEQ g) (u32 b 4)).setFld (THKT_GW_STAT g) 31 16 (arrival / 1000000000).toNat
      let s := ({ s with thkt.heard := insertKey g arrival s.thkt.heard } : Dev)
      let s := if s.bit (THKT_GW_STAT g) 0 then (s.setBit (THKT_GW_STAT g) 0 false).ev 0x0D06 g 0 else s
      let s := s.each (List.range (u8 b 3)) fun d k => d.applyEntryThkt g arrival (slice b (16 + 32 * k) 32)
      s.cntWrap (THKT_LEDGER 1) 31 0 1

/-- A gateway's silence, tested at a boundary (R375): it is marked and its live points are lost. -/
def Dev.silenceOf (s : Dev) (now : Int) (gh : Nat × Int) : Dev :=
  let g := gh.1
  let lim : Int := 1000000000 * (max 1 (s.fld THKT_CFG 31 16) : Nat)
  if s.bit THKT_CFG 0 && s.bit (THKT_GW_CFG g) 0 && !s.bit (THKT_GW_STAT g) 0 && decide (lim < now - gh.2) then
    let pts := s.thkt.pts.filter fun p => p.gw == g && p.sealSt != 5
    let s := (((s.setBit (THKT_GW_STAT g) 0 true).ev 0x0D05 g pts.length).raise 0x60)
    s.each pts fun d p =>
      let y := { p with sealSt := 5, prev := p.sealSt }
      (d.setPt y).collect 1 g p.sealSt 5 y none
  else s

/-- Gateways found silent at a boundary (R375). -/
def Dev.silence (s : Dev) (now : Int) : Dev := s.each s.thkt.heard fun d gh => d.silenceOf now gh

/-- The silence of one gateway at the last boundary (R375). -/
def Dev.gatewayGone (s : Dev) (g : Nat) : Dev :=
  s.each (s.thkt.heard.filter fun gh => gh.1 == g) fun d gh => d.silenceOf d.boundaryNs gh

/-- A release is taken (R381). -/
def Dev.takeRelease (s : Dev) (now : Int) (n : Nat) : Dev :=
  match s.point n with
  | none => s.wrN THKT_REL_STAT 1
  | some p =>
    if s.roomSingle then
      let s := s.formRecord { kind := 4, old := p.sealSt, new := 0, ns := now, pos := s.thkt.pos, gw := 0xFF,
                              first := p, last := p }
      ((s.freePoint n).wrN THKT_REL_STAT 0).ev 0x0D08 n 0
    else (s.wrN THKT_REL_STAT 3).refuseEntry 0xFF 5

/-- The releases requested since the last boundary (R381). -/
def Dev.takeReleases (s : Dev) (now : Int) : Dev :=
  ({ s with thkt.rel := [] } : Dev).each s.thkt.rel fun d n => d.takeRelease now n

/-- Corruption records of points found uncorrectable (R368). -/
def Dev.takeCorrupt (s : Dev) (now : Int) : Dev :=
  let ns := s.thkt.corrupt
  let s := ({ s with thkt.corrupt := [] } : Dev)
  s.each ns fun d n =>
    if d.roomSingle then
      let x : ThktPt := { num := n, hash := [], cls := 0, sealSt := 0, gw := 0 }
      d.formRecord { kind := 5, old := 0, new := 0, ns := now, pos := d.thkt.pos, gw := 0xFF, first := x, last := x }
    else { d with thkt.corrupt := d.thkt.corrupt ++ [n] }

/-- Items in ascending point number. -/
def sortItems (xs : List ThktItem) : List ThktItem := sortBy (fun a b => decide (a.pt.num ≤ b.pt.num)) xs

/-- The member list of a group (R379). -/
def memberBytes (xs : List ThktItem) : List Byte :=
  xs.flatMap fun x => slice x.pt.hash 0 7 ++ leBytes 1 (x.old + 8 * x.new)

/-- GROUP_MIN. -/
def Dev.groupMin (s : Dev) : Nat := max 1 (s.fld THKT_CFG 15 8)

/-- One collection that is large enough forms a group record, or waits for room (R374, R380). -/
def Dev.formGroup (s : Dev) (now : Int) (xs : List ThktItem) : Dev :=
  let xs := sortItems xs
  match xs, xs.getLast? with
  | a :: _, some b =>
    if s.thkt.queue.length ≤ 2047 then
      let k := a.kind
      s.formRecord { kind := k, old := if k = 2 then 5 else 0, new := if k = 1 then 5 else 0, ns := now,
                     pos := s.thkt.pos, gw := a.gw, first := a.pt, last := b.pt, count := xs.length,
                     members := memberBytes xs }
    else { s with thkt.items := s.thkt.items ++ xs }
  | _, _ => s

/-- A change of a collection too small to group forms a single record, or waits for room (R374, R380). -/
def Dev.formSingle (s : Dev) (now : Int) (x : ThktItem) : Dev :=
  if s.roomSingle then
    let r : RecIn := { kind := 0, old := x.old, new := x.new, ns := x.ns.getD now,
                       pos := if x.ns.isSome then x.pos else s.thkt.pos, gw := x.gw, first := x.pt, last := x.pt }
    s.formRecord r
  else { s with thkt.items := s.thkt.items ++ [x] }

/-- The records of a closing boundary: releases, corruptions, groups, singles (R374, R378). -/
def Dev.closeRecords (s : Dev) (now : Int) : Dev :=
  let s := (s.takeReleases now).takeCorrupt now
  let items := s.thkt.items
  let s := ({ s with thkt.items := [] } : Dev)
  let keys := (List.range 256).flatMap fun g => [1, 2, 3].map fun k => (g, k)
  let colls := (keys.map fun p => items.filter fun x => x.gw == p.1 && x.kind == p.2).filter (· != [])
  let big := colls.filter fun c => decide (s.groupMin ≤ c.length)
  let small := colls.filter fun c => decide (c.length < s.groupMin)
  let s := s.each big fun d c => d.formGroup now c
  s.each (small.flatMap sortItems) fun d x => d.formSingle now x

/-- A cycle boundary takes the position and closes the collections; with EN = 0 no record forms (R364, R374, R376). -/
def Dev.thktBoundary (s : Dev) : Dev :=
  let now := s.boundaryNs
  let s := s.thktPosition
  if s.bit THKT_CFG 0 then (s.silence now).closeRecords now else s

/-- The signing engine signs the record at the head of the queue (R380); the signature is a free value (log entry 6). -/
def Dev.signHead (s : Dev) : Dev :=
  match s.thkt.queue with
  | [] => s
  | c :: cs =>
    if c.sig = [] then
      let sig := (List.range 96).map fun j => Config.signatureByte s.seq.freeCtr j
      ({ s with thkt.queue := { c with sig := sig } :: cs } : Dev).spend
    else s

/-- The 176 bytes of a signed record. -/
def CustRec.whole (c : CustRec) : List Byte := c.bytes ++ c.sig

/-- A member-list record (R379). -/
def CustRec.listRecord (c : CustRec) : List Byte :=
  leBytes 1 0xD2 ++ leBytes 1 1 ++ List.replicate 2 0 ++ slice c.bytes 4 8 ++ leBytes 4 (c.members.length / 8) ++ c.members

/-- Ringlog is in force as a destination. -/
def Dev.ringlogOk (s : Dev) : Bool := s.bit LOG_STAT 0

/-- The report ring takes the head of the queue and then its member list, where it has room (R379, R449). -/
def Dev.ringTakes (s : Dev) (c : CustRec) : Dev × CustRec :=
  match s.routed 4 with
  | none => (s, c)
  | some p =>
    let (s, c) :=
      if !c.ring && s.repFits p 6 then (s.report p 4 0 c.whole, { c with ring := true }) else (s, c)
    if c.ring && !c.list && s.repFits p (ceilDiv c.listRecord.length 32) then
      (s.report p 5 0 c.listRecord, { c with list := true })
    else (s, c)

/-- A signed record leaves the queue when every destination in force has taken it (R449). -/
def Dev.handoff (s : Dev) : Dev :=
  match s.thkt.queue with
  | [] => s
  | c :: cs =>
    if c.sig = [] then s
    else
      let (s, c) := s.ringTakes c
      let nor := s.ringlogOk
      let ring := (s.routed 4).isSome
      if (nor || ring) && (!nor || c.nor) && (!ring || (c.ring && c.list)) then
        (({ s with thkt.queue := cs } : Dev).cntWrap (THKT_CREC 1) 31 0 1).showQueue
      else { s with thkt.queue := c :: cs }

/-- A write to THKT_RELEASE with GO (R381). -/
def Dev.releaseCommand (s : Dev) (v : Word) : Dev :=
  if bitOf v.toNat 31 then
    if s.sessOk 3 then
      { s.sessUse.wrN THKT_REL_STAT 16 with thkt.rel := s.thkt.rel ++ [bitsOf v.toNat 17 0] }
    else s.wrN THKT_REL_STAT (2 + 16 * bnat (!s.thkt.rel.isEmpty))
  else s

/-- A point's word is found corrected or uncorrectable (R368). -/
def Dev.pointEcc (s : Dev) (n ecc : Nat) : Dev :=
  if ecc = 1 then s.cntSat THKT_ECC 15 0 1
  else if ecc = 2 then
    let s := s.cntSat THKT_ECC 31 16 1
    let s := (s.freePoint n).ev 0x0D09 n 0
    { s with thkt.corrupt := s.thkt.corrupt ++ [n] }
  else s

/-- A write to THKT_PT_IDX latches the point (R383). -/
def Dev.latchPoint (s : Dev) (v : Word) (ecc : Nat) : Dev :=
  let n := bitsOf v.toNat 17 0
  let s := (s.wrN THKT_PT_IDX n).pointEcc n ecc
  let b := s.pointBytes n
  s.each (List.range 4) fun d k => d.wrN (THKT_PT k) (u32 b (4 * k))

/-- A write of THKT_FIND_HI; GO starts a search (R383). -/
def Dev.findStart (s : Dev) (v : Word) : Dev :=
  let s := s.wrN THKT_FIND_HI (bitsOf v.toNat 23 0)
  if bitOf v.toNat 31 then s.wrN THKT_FIND_RES (2 ^ 30) else s

/-- The search ends (R383). -/
def Dev.findDone (s : Dev) : Dev :=
  if s.bit THKT_FIND_RES 30 then
    let h := leBytes 4 (s.rd THKT_FIND_LO).toNat ++ leBytes 3 (s.fld THKT_FIND_HI 23 0)
    match s.pointOf h with
    | some p => s.wrN THKT_FIND_RES (p.num + 2 ^ 31)
    | none => s.wrN THKT_FIND_RES 0
  else s

/-- The Thicket readout copies points as they stand (R383, R442); points found uncorrectable are freed first (R368). -/
def Dev.readPoints (s : Dev) (first count : Nat) (bad : List Nat) (corr : Nat) : Dev × List Byte :=
  let s := s.cntSat THKT_ECC 15 0 corr
  let s := s.each (bad.filter fun n => decide (first ≤ n ∧ n < first + count)) fun d n => d.pointEcc n 2
  (s, (List.range count).flatMap fun k => s.pointBytes (first + k))

end Sys2Proof.Machine
end

