-- ==== Sys2Proof/Machine/Log.lean ====
section
/-! DEFINITION. The event recorder: Duff and Ringlog (chapter 14). -/

namespace Sys2Proof.Machine

/-- Override entry of a code, if one names it (R389). -/
def Dev.rlOvr (s : Dev) (code : Nat) : Option Nat :=
  (List.range 32).find? fun k => code != 0 && s.fld (LOG_RL_OVR k) 15 0 == code

/-- RATE of a code in thousandths per millisecond; none where every record passes (R389). -/
def Dev.rlRate (s : Dev) (code : Nat) : Option Nat :=
  match s.rlOvr code with
  | some k => let r := s.fld (LOG_RL_OVR k) 23 16; if r = 0 then none else some r
  | none => some (s.fld LOG_CFG 7 0)

/-- Cap of a code's bucket in thousandths (R389). -/
def Dev.rlCap (s : Dev) (code : Nat) : Nat :=
  1000 * max 1 (match s.rlOvr code with
    | some k => s.fld (LOG_RL_OVR k) 31 24
    | none => s.fld LOG_CFG 15 8)

/-- Bucket of a code: full unless listed. -/
def Dev.bucket (s : Dev) (code : Nat) : Bucket :=
  (s.log.buckets.find? fun b => b.code == code).getD { code := code, tok := s.rlCap code }

/-- Keep a bucket, listed only while it is not full or holds records back. -/
def Dev.setBucket (s : Dev) (b : Bucket) : Dev :=
  let rest := s.log.buckets.filter fun x => x.code != b.code
  { s with log.buckets := if b.held = 0 ∧ s.rlCap b.code ≤ b.tok then rest
                          else rest ++ [{ b with tok := min b.tok (s.rlCap b.code) }] }

/-- The pinned class (R392). -/
def pinnedCode (c : Nat) : Bool := c / 256 == 0x0C || c == 0x0E03 || c == 0x0E04

/-- The 32 bytes of a record (R386). -/
def Dev.logBytes (s : Dev) (e : EvRec) (merged spill : Bool) : List Byte :=
  let b := leBytes 2 e.code
    ++ leBytes 1 (bnat merged + 2 * bnat e.valid + 4 * bnat (pinnedCode e.code) + 8 * bnat spill)
    ++ leBytes 3 (s.fld LOG_PWR_CYC 23 0) ++ leBytes 4 (s.rd LOG_OP_S).toNat ++ leBytes 4 (stamp32 e.stamp).toNat
    ++ leBytes 4 (if e.valid then (eraOf e.stamp).toNat else 0)
    ++ leBytes 4 e.p1.toNat ++ leBytes 4 e.p2.toNat ++ leBytes 4 e.p3.toNat
  b ++ leBytes 2 (crc16 b)

/-- Pointers and HELD (R398, R400). -/
def Dev.showLog (s : Dev) : Dev :=
  let l := s.log
  let w (xs : List DuffRec) : Nat := (xs.map DuffRec.weight).sum
  let held := w (l.duff.drop (l.duff.length - l.waiting)) + w l.pin + (l.buckets.map Bucket.held).sum
  let s := s.wrN (LOG_LEDGER 2) held
  (s.setFld LOG_DUFF_PTR 11 0 l.wr).setFld LOG_DUFF_PTR 27 16 (l.wr + 4096 - l.waiting)

/-- A record finds no room: it is dropped and counted (R391, R392, R398). -/
def Dev.dropRecord (s : Dev) (r : DuffRec) (ring : Bool) : Dev :=
  let s := s.cntWrap (LOG_LEDGER 3) 31 0 r.weight
  if ring then
    let s := if s.bit LOG_STAT 1 then
        { s.cntSat LOG_FROZEN_CNT 31 0 1 with log.frozenDrops := s.log.frozenDrops + 1 } else s
    let s := s.raise 0x68
    if s.log.dropSaid then s
    else { s with log.dropSaid := true }.evW 0x0E05 0 (s.rd (LOG_LEDGER 3))
  else s

/-- A record enters the Duff ring (R391); without Ringlog that is its hand-off (R392, R398). -/
def Dev.duffPut (s : Dev) (r : DuffRec) : Dev :=
  let ok := s.ringlogOk
  if ok && decide (4096 ≤ s.log.waiting) then s.dropRecord r true
  else
    let all := s.log.duff ++ [r]
    let s := ({ s with log.duff := all.drop (all.length - 4096), log.wr := (s.log.wr + 1) % 4096,
                       log.waiting := s.log.waiting + bnat ok } : Dev)
    if ok then s else s.cntWrap (LOG_LEDGER 1) 31 0 r.weight

/-- A record that passed goes to the pinned queue or the ring (R391, R392). -/
def Dev.placeRecord (s : Dev) (code : Nat) (r : DuffRec) : Dev :=
  let s := ({ s with log.passed := s.log.passed ++ [r.bytes] } : Dev)
  if pinnedCode code && s.ringlogOk then
    if 256 ≤ s.log.pin.length then s.dropRecord r false else { s with log.pin := s.log.pin ++ [r] }
  else s.duffPut r

/-- The record that Duff takes next and those left: the oldest, and of those that bear its stamp the one of lowest CODE
(R388; log entry 92). -/
def nextRaised : List EvRec → Option (EvRec × List EvRec)
  | [] => none
  | e :: es =>
    let m := es.foldl (fun a x => if x.stamp = e.stamp ∧ x.code < a.code then x else a) e
    some (m, (e :: es).erase m)

/-- Duff takes the next record raised (R388, R389). -/
def Dev.eventRecord (s : Dev) : Dev :=
  match nextRaised s.log.raised with
  | none => s
  | some (e, es) =>
    let s := ({ s with log.raised := es } : Dev).cntWrap (LOG_LEDGER 0) 31 0 1
    let r : DuffRec := { bytes := s.logBytes e false false }
    let hi := e.code / 256
    let s := match s.rlRate e.code with
      | none => s.placeRecord e.code r
      | some _ =>
        let b := s.bucket e.code
        if hi = 0 ∨ 0x11 < hi then s.placeRecord e.code r
        else if 1000 ≤ b.tok then (s.setBucket { b with tok := b.tok - 1000 }).placeRecord e.code r
        else s.setBucket { b with held := b.held + 1, p1 := e.p1, p2 := e.p2 }
    s.showLog

/-- The merged record of a code's held records (R390). -/
def Dev.emitMerged (s : Dev) (b : Bucket) : Dev :=
  let e : EvRec := { code := b.code, p1 := BitVec.ofNat 32 b.held, p2 := b.p1, p3 := b.p2, stamp := s.now,
                     valid := s.timeValid }
  s.spend.placeRecord b.code { bytes := s.logBytes e true false, weight := b.held }

/-- Each millisecond the buckets gain RATE thousandths (R389, R390). -/
def Dev.refillBuckets (s : Dev) : Dev :=
  let s := s.each s.log.buckets fun d b =>
    let t := min (d.rlCap b.code) (b.tok + (d.rlRate b.code).getD 0)
    if 1000 ≤ t ∧ 0 < b.held then (d.setBucket { b with tok := t - 1000, held := 0 }).emitMerged b
    else d.setBucket { b with tok := t }
  s.showLog

/-- Before a reset takes effect every held count leaves as a merged record (R390). -/
def Dev.mergeAll (s : Dev) : Dev :=
  let s := s.each (s.log.buckets.filter fun b => b.held != 0) fun d b => (d.setBucket { b with held := 0 }).emitMerged b
  s.showLog

/-- Event and bit when a pinned area fills or passes 90 % (R394). -/
def Dev.pinUse (s : Dev) : Dev :=
  let ev := s.log.evAt
  let cr := s.log.crAt
  let s := (s.setFld LOG_PIN_USE 15 0 ev).setFld LOG_PIN_USE 31 16 cr
  let s := if 32768 * 9 < 10 * ev ∧ !s.log.ev90 then { s with log.ev90 := true }.ev 0x0E07 0 0 else s
  let s := if 16384 * 9 < 10 * cr ∧ !s.log.cr90 then { s with log.cr90 := true }.ev 0x0E07 0 1 else s
  let s := if 32768 ≤ ev ∧ !s.bit LOG_STAT 2 then ((s.setBit LOG_STAT 2 true).ev 0x0E06 0 0).raise 0x68 else s
  if 16384 ≤ cr ∧ !s.bit LOG_STAT 3 then ((s.setBit LOG_STAT 3 true).ev 0x0E06 0 1).raise 0x68 else s

/-- A block is retired (R395). -/
def Dev.retireBlock (s : Dev) (b : Nat) : Dev :=
  let s := ({ s with log.bad := b :: s.log.bad } : Dev).cntSat LOG_WEAR 31 24 1
  s.ev 0x0E09 b (s.fld LOG_WEAR 31 24)

/-- Next circular block after one that is not retired (R393, R395). -/
def Dev.nextBlock (s : Dev) (b : Nat) : Option Nat :=
  ((List.range 445).map fun k => 67 + (b - 67 + 1 + k) % 445).find? fun x => !s.log.bad.contains x

/-- Records in a circular block. -/
def Dev.circFill (s : Dev) (b : Nat) : Nat := ((lookupKey b s.log.circ).getD []).length

/-- LOG_CIRC_HEAD (R400). -/
def Dev.showCirc (s : Dev) : Dev :=
  let full := decide (2048 ≤ s.circFill s.log.cur) || s.log.bad.contains s.log.cur
  let b := if full then (s.nextBlock s.log.cur).getD s.log.cur else s.log.cur
  s.wrN LOG_CIRC_HEAD (b * 65536 + (if full then 0 else 32 * s.circFill b))

/-- The circular block to write, once the next one is erased where the present one is full or retired. -/
def Dev.circBlock (s : Dev) : Option Dev :=
  if s.circFill s.log.cur < 2048 ∧ !s.log.bad.contains s.log.cur then some s
  else if s.log.ahead then (s.nextBlock s.log.cur).map fun b => { s with log.cur := b, log.ahead := false }
  else none

/-- A record joins the newest end of the circular region. -/
def circAdd (xs : List (Nat × List (List Byte))) (b : Nat) (r : List Byte) : List (Nat × List (List Byte)) :=
  if xs.any fun p => p.1 == b then xs.map fun p => if p.1 = b then (b, p.2 ++ [r]) else p else xs ++ [(b, [r])]

/-- Write a record to the circular region; none where it must wait or the program failed (R395). -/
def Dev.circWrite (s : Dev) (r : List Byte) (ok : Bool) : Dev × Bool :=
  match s.circBlock with
  | none => (s, false)
  | some s =>
    if ok then (({ s with log.circ := circAdd s.log.circ s.log.cur r } : Dev).showCirc, true)
    else ((s.retireBlock s.log.cur).showCirc, false)

/-- Write a record to the pinned event area; a failed program moves on to the next block (R393, R395). -/
def Dev.pinWrite (s : Dev) (r : List Byte) (ok : Bool) : Dev × Bool :=
  let at_ := s.log.evAt
  if ok then (({ s with log.pinEv := s.log.pinEv ++ [r], log.evAt := at_ + 1 } : Dev).pinUse, true)
  else
    let s := s.retireBlock (3 + at_ / 2048)
    (({ s with log.evAt := min 32768 (2048 * (at_ / 2048 + 1)) } : Dev).pinUse, false)

/-- Write the head of the signing queue to the pinned custody area. -/
def Dev.custWrite (s : Dev) (c : CustRec) (ok : Bool) : Dev × Bool :=
  let at_ := s.log.crAt
  if ok then
    (({ s with log.pinCr := s.log.pinCr ++ [c.whole ++ List.replicate 16 0xFF], log.crAt := at_ + 1 } : Dev).pinUse, true)
  else
    let b := at_ * 192 / 65536
    let s := s.retireBlock (0x13 + b)
    (({ s with log.crAt := min 16384 (ceilDiv ((b + 1) * 65536) 192) } : Dev).pinUse, false)

/-- A pinned record written to the circular region carries PIN_SPILL and its CRC (R386, R394). -/
def spillBytes (r : List Byte) : List Byte :=
  let b := r.take 2 ++ [r.getD 2 0 ||| 8] ++ (r.drop 3).take 27
  b ++ leBytes 2 (crc16 b)

/-- A hand-off has taken place (R391, R398). -/
def Dev.handedOff (s : Dev) (w : Nat) : Dev := { s.cntWrap (LOG_LEDGER 1) 31 0 w with log.dropSaid := false }

/-- Hand-off of the next record (R394): pinned queue, signing queue, Duff ring. -/
def Dev.ringlogWrite (s : Dev) (ok : Bool) : Dev :=
  if !s.ringlogOk || s.bit LOG_STAT 4 then s
  else
    let duff (s : Dev) : Dev :=
      if s.log.waiting = 0 ∨ s.bit LOG_STAT 1 then s
      else match s.log.duff[s.log.duff.length - s.log.waiting]? with
        | none => s
        | some r =>
          let (s, w) := s.circWrite r.bytes ok
          if w then ({ s with log.waiting := s.log.waiting - 1 } : Dev).handedOff r.weight else s
    let s := match s.log.pin with
      | r :: rs =>
        let (s, w) := if s.log.evAt < 32768 then s.pinWrite r.bytes ok else s.circWrite (spillBytes r.bytes) ok
        if w then ({ s with log.pin := rs } : Dev).handedOff r.weight else s
      | [] =>
        match s.thkt.queue with
        | c :: cs =>
          if c.sig ≠ [] ∧ !c.nor ∧ s.log.crAt < 16384 then
            let (s, w) := s.custWrite c ok
            if w then { s with thkt.queue := { c with nor := true } :: cs, log.dropSaid := false } else s
          else duff s
        | [] => duff s
    s.showLog

/-- An erase ends: counts and wear (R395). -/
def Dev.countErase (s : Dev) (b : Nat) : Dev :=
  let n := (lookupKey b s.log.erases).getD 0 + 1
  let s := ({ s with log.erases := insertKey b n s.log.erases } : Dev)
  let s := s.setFld LOG_WEAR 23 0 (max n (s.fld LOG_WEAR 23 0))
  if s.fld LOG_WEAR_WARN 23 0 < n ∧ !s.log.wearSaid then { s with log.wearSaid := true }.ev 0x0E0A b n else s

/-- The erase of the next circular block completes or fails (R395). -/
def Dev.norErase (s : Dev) (ok : Bool) : Dev :=
  if s.ringlogOk && !s.log.ahead then
    match s.nextBlock s.log.cur with
    | none => s
    | some b =>
      if ok then ({ s with log.ahead := true, log.circ := s.log.circ.filter fun p => p.1 != b } : Dev).countErase b
      else s.retireBlock b
  else s

/-- PWR_CYC and OP_S go to the state region (R387). -/
def Dev.stateSave (s : Dev) : Dev :=
  if s.ringlogOk then { s with log.saved := (s.fld LOG_PWR_CYC 23 0, (s.rd LOG_OP_S).toNat) } else s

/-- A freeze begins, where the session allows it (R396). -/
def Dev.freezeBegin (s : Dev) : Dev :=
  if s.sessOk 4 && !s.bit LOG_STAT 1 then
    let s := { (s.setBit LOG_STAT 1 true).setBit LOG_FREEZE 0 true with log.frozenDrops := 0, log.freezeAt := s.seq.cyc }
    s.sessUse.ev 0x0E01 0 0
  else s

/-- The end of a freeze: 0 by command, 1 by expiry (R396). -/
def Dev.freezeStop (s : Dev) (why : Nat) : Dev :=
  if s.bit LOG_STAT 1 then
    ((s.setBit LOG_STAT 1 false).setBit LOG_FREEZE 0 false).ev 0x0E02 why s.log.frozenDrops
  else s

/-- A write of FREEZE = 0 (R396). -/
def Dev.freezeEnd (s : Dev) : Dev := if s.sessOk 4 then s.sessUse.freezeStop 0 else s

/-- A freeze has lasted FREEZE_MAX seconds (R396). -/
def Dev.freezeExpire (s : Dev) : Dev :=
  if s.spanOver s.log.freezeAt (1000 * max 1 (s.fld LOG_CFG 23 16)) then s.freezeStop 1 else s

/-- A write of GO to LOG_CLEAR (R397). -/
def Dev.clearCommand (s : Dev) (v : Word) : Dev :=
  let region := bitsOf v.toNat 1 0
  if !bitOf v.toNat 31 ∨ region = 0 then s
  else
    let code := if !s.sessLevel 4 then 1 else if s.bit LOG_STAT 1 then 2 else if s.bit LOG_STAT 4 then 3
      else if !s.ringlogOk then 4 else 0
    if code = 0 then
      { (s.sessUse.setBit LOG_STAT 4 true).wrN LOG_CLR_STAT 16 with log.clear := some (region, s.fld GLB_SESS_STAT 5 3) }
    else ((if code = 1 then s else s.sessUse).setFld LOG_CLR_STAT 3 0 code).ev 0x0E04 0 code

/-- The clear ends, and 0x0E03 is written as the first pinned record (R397). -/
def Dev.clearComplete (s : Dev) : Dev :=
  match s.log.clear with
  | none => s
  | some (region, slot) =>
    let circ := region == 1 || region == 3
    let pins := decide (2 ≤ region)
    let n := (if circ then (s.log.circ.map fun p => p.2.length).sum else 0)
      + (if pins then s.log.pinEv.length + s.log.pinCr.length else 0)
    let s := ({ s with log.clear := none } : Dev)
    let s := if circ then
        (s.each ((List.range 445).map (· + 67)) fun d b => if d.log.bad.contains b then d else d.countErase b)
      else s
    let s := if circ then { s with log.circ := [], log.ahead := true } else s
    let s := if pins then
        { (s.setBit LOG_STAT 2 false).setBit LOG_STAT 3 false with
          log.pinEv := [], log.pinCr := [], log.evAt := 0, log.crAt := 0, log.ev90 := false, log.cr90 := false }
      else s
    let e : EvRec := { code := 0x0E03, p1 := BitVec.ofNat 32 region, p2 := BitVec.ofNat 32 n,
                       p3 := BitVec.ofNat 32 slot, stamp := s.now, valid := s.timeValid }
    let r := s.logBytes e false false
    let s := s.spend
    let s := if s.log.evAt < 32768 then (s.pinWrite r true).1 else (s.circWrite (spillBytes r) true).1
    ((s.setBit LOG_STAT 4 false).wrN LOG_CLR_STAT 0).pinUse.showCirc

/-- Records of a recorder source, oldest first (R442). -/
def Dev.recorderSource (s : Dev) (src : Nat) : List (List Byte) :=
  match src with
  | 0 => s.log.duff.map DuffRec.bytes
  | 1 => s.log.pinEv
  | 2 => s.log.pinCr
  | _ => s.log.circ.flatMap Prod.snd

/-- P4: class 6 reports of the records passed in the tick (R446). -/
def Dev.logReports (s : Dev) : Dev :=
  let xs := s.log.passed
  let s := ({ s with log.passed := [] } : Dev)
  s.each (groupsOf 16 (ceilDiv xs.length 16) xs) fun d g => d.reportRouted 6 0 g.flatten

end Sys2Proof.Machine
end

