-- ==== Sys2Proof/Machine/Blaze.lean ====
section
/-! DEFINITION. The Blaze status panel (chapter 15). -/

namespace Sys2Proof.Machine

/-- Fields of the screen, as bytes 12 to 37 of a journal entry (R403, R411). -/
def Dev.screenFields (s : Dev) : List Byte :=
  let df := s.deadfall
  let screen := if df then 3 else s.mode
  let fix := s.gnss.lastFix
  let fixS := ((s.gnss.lastValid.map fun (t : Rat) => t.floor / 1000000000).getD 0).toNat
  let entry := ((s.rd SAFE_DF_ERA).toNat * 2 ^ 32 + (s.rd SAFE_DF_STAMP).toNat) / 1000000000
  let minute := if s.timeValid then (s.tickNs / 60000000000 * 60).toNat else 0
  leBytes 1 (screen + 4 * s.role + 16 * bnat s.holds + 32 * bnat (s.bit STAND_STAT 4) + 64 * bnat fix.isSome
      + 128 * bnat s.commissioned)
    ++ leBytes 1 (s.unitNo + 16 * s.fld STAND_STAT 15 12)
    ++ leBytes 1 (s.fld SAFE_STAT 11 8 + 16 * s.fld SAFE_STAT 15 12) ++ leBytes 1 (s.fld SAFE_STAT 16 16)
    ++ leBytes 6 fixS ++ [0, 0] ++ sBytes 4 ((fix.map FixSol.lat).getD 0) ++ sBytes 4 ((fix.map FixSol.lon).getD 0)
    ++ leBytes 6 (if df then entry else minute)

/-- A journal entry (R411). -/
def Dev.journalEntry (s : Dev) (kind band : Nat) (fields : List Byte) : List Byte :=
  let b := leBytes 1 kind ++ leBytes 1 1 ++ leBytes 2 (s.fld BLZ_STAT 31 16) ++ leBytes 3 (s.fld LOG_PWR_CYC 23 0)
    ++ leBytes 1 band ++ leBytes 4 (s.rd LOG_OP_S).toNat ++ fields ++ List.replicate 22 0
  b ++ leBytes 4 (crc32 b)

/-- An entry goes to the panel journal, where Ringlog is present (R408, R410): two halves of 512 entries, of which the older
is erased when the newer is full (R411). -/
def Dev.journal (s : Dev) (e : List Byte) : Dev :=
  let old := s.blz.journal
  if s.ringlogOk then { s with blz.journal := e :: (if 1024 ≤ old.length then old.take 512 else old) } else s

/-- BLZ_PMIC_EN: the driver supply is on during an update (R402). -/
def Dev.pmicEn (s : Dev) : Bool := s.blz.run.isSome

/-- The band of the last reading comes into use (R407). -/
def Dev.latchBand (s : Dev) : Dev :=
  let band := s.blz.bandNow
  let old := s.fld BLZ_STAT 10 8
  if old = band then s else (s.setFld BLZ_STAT 10 8 band).ev 0x0F07 old band

/-- What the panel shows: every field, and the TAI minute (R403, R404). -/
def Dev.panelNow (s : Dev) : List Byte × Int := (s.screenFields, if s.timeValid then s.tickNs / 60000000000 else 0)

/-- An update begins: fields and band are latched, the begin entry is written (R404, R407, R410). -/
def Dev.panelBegin (s : Dev) (again : Bool) : Dev :=
  let f := s.screenFields
  let band := s.blz.bandNow
  let now := s.panelNow
  let s := if again then s else s.cntWrap BLZ_STAT 31 16 1
  let s := ((s.setFld BLZ_STAT 1 0 (u8 f 0 % 4)).setBit BLZ_STAT 2 true).setBit BLZ_STAT 3 false
  let s := (s.latchBand.setBit PIN_CFGD 15 true).setBit PIN_CFGD 6 true
  let s := ({ s with blz.run := some { fields := f, band := band }, blz.retry := false, blz.last := some now } : Dev)
  s.journal (s.journalEntry 1 band f)

/-- A field that has changed since the last latch or a whole minute starts an update, or waits for the one in progress
(R404); nothing is drawn before the clean refresh (R410). -/
def Dev.panelStart (s : Dev) : Dev :=
  if !s.bit BLZ_STAT 4 || s.blz.last == some s.panelNow then s
  else if s.blz.run.isSome then s.setBit BLZ_STAT 3 true
  else if s.blz.retry then s
  else s.panelBegin false

/-- BLZ_PWRGD rises: the update draws (R402). -/
def Dev.powerGood (s : Dev) (tiles : List Nat) : Dev :=
  match s.blz.run with
  | none => s
  | some u =>
    if u.drawing then s
    else { s with
      blz.run := some { u with drawing := true, tiles := (tiles.filter (· < 510)).dedup },
      blz.glass := some (u.fields, true) }

/-- An update is abandoned: an I²C failure, or no power good (R402). -/
def Dev.panelAbandon (s : Dev) (i2c : Bool) : Dev :=
  match s.blz.run with
  | none => s
  | some u =>
    if u.drawing && !i2c then s
    else
      let s := (s.setBit BLZ_STAT 2 false).setBit BLZ_STAT 3 false
      (({ s with blz.run := none, blz.retry := true } : Dev).ev 0x0F05 0 (if i2c then 1 else 2)).raise 0x70

/-- ADD of a tile (R408). -/
def Dev.tileAdd (s : Dev) (t : Nat) : Nat :=
  min ((lookupKey t s.blz.tiles).getD 0 / max 1 (s.fld BLZ_RC_CFG 23 0)) (s.fld BLZ_RC_CFG 27 24)

/-- The update ends: counters, end entry, and the update that waits starts (R404, R408, R410). -/
def Dev.panelEnd (s : Dev) : Dev :=
  match s.blz.run with
  | none => s
  | some u =>
    if !u.drawing then s
    else
      let frames := min 64 (Config.wfLen u.band) + (u.tiles.map s.tileAdd).foldl max 0
      let tiles := u.tiles.foldl (fun m t => insertKey t (satAdd 24 ((lookupKey t m).getD 0) 1) m) s.blz.tiles
      let s := ({ s with blz.tiles := tiles, blz.run := none, blz.glass := some (u.fields, false) } : Dev)
      let s := s.setFld BLZ_RC_MAX 23 0 ((tiles.map Prod.snd).foldl max 0)
      let s := ((s.cntWrap BLZ_UPD_CNT 31 0 1).setBit BLZ_STAT 2 false).ev 0x0F01 (s.fld BLZ_STAT 31 16) frames
      let s := s.journal (s.journalEntry 2 u.band u.fields)
      let s := if s.ringlogOk then { s with blz.saved := tiles } else s
      if s.bit BLZ_STAT 3 then s.panelBegin false else s

/-- Ten seconds after an abandoned update it is tried again (R402). -/
def Dev.panelRetry (s : Dev) : Dev := if s.blz.retry then s.panelBegin true else s

/-- Band of a reading in 0.125 °C, and whether it lies outside the bands (R405). -/
def panelBand (t : Int) : Nat × Bool :=
  if t < -80 then (0, true) else if 400 < t then (7, true) else (min 7 ((t + 80) / 60).toNat, false)

/-- The panel temperature is read, or the read fails (R406). -/
def Dev.panelTemp (s : Dev) (reading : Option Int) : Dev :=
  match reading with
  | some t =>
    let b := panelBand t
    let s := ({ s with blz.fails := 0, blz.bandNow := b.1 } : Dev).setFld BLZ_TEMP 15 0 (unsigned 16 t)
    (s.setBit BLZ_STAT 5 b.2).setBit BLZ_STAT 6 false
  | none =>
    let n := s.blz.fails + 1
    let s := ({ s with blz.fails := n } : Dev)
    if 3 ≤ n ∧ !s.bit BLZ_STAT 6 then
      ({ s with blz.bandNow := 0 } : Dev).setBit BLZ_STAT 6 true |>.ev 0x0F06 0 0
    else s

/-- A Bark measurement (R409). -/
def Dev.barkMeasure (s : Dev) (ohms : Nat) : Dev :=
  let s := (s.setFld BLZ_BARK 15 0 (min 65535 ohms)).setBit PIN_CFGD 7 true
  if s.fld BLZ_BARK 31 16 < ohms then
    let n := s.blz.barkHigh + 1
    let s := ({ s with blz.barkHigh := min 2 n, blz.barkLow := 0 } : Dev)
    if 2 ≤ n ∧ !s.bit BLZ_STAT 7 then ((s.setBit BLZ_STAT 7 true).ev 0x0F08 0 ohms).raise 0x70 else s
  else
    let n := s.blz.barkLow + 1
    let s := ({ s with blz.barkLow := min 2 n, blz.barkHigh := 0 } : Dev)
    if 2 ≤ n then s.setBit BLZ_STAT 7 false else s

/-- The tile counters are saved (R408). -/
def Dev.ringcountSave (s : Dev) : Dev := if s.ringlogOk then { s with blz.saved := s.blz.tiles } else s

/-- The clean refresh at boot (R408, R410). -/
def Dev.panelBoot (s : Dev) (temp : Option Int) : Dev :=
  let s := (s.panelTemp temp).latchBand.setBit BLZ_STAT 4 true
  let ok := s.ringlogOk
  let s := ({ s with blz.tiles := if ok then s.blz.saved else [] } : Dev)
  let s := s.setFld BLZ_RC_MAX 23 0 ((s.blz.tiles.map Prod.snd).foldl max 0)
  match (if ok then s.blz.journal.head? else none) with
  | none => ({ s with blz.glass := some (List.replicate 26 0, true) } : Dev).ev 0x0F03 0 2
  | some e =>
    let s := (s.setFld BLZ_STAT 31 16 (u16 e 2)).setFld BLZ_STAT 1 0 (u8 e 12 % 4)
    let open_ := u8 e 0 == 1
    let s := ({ s with blz.glass := some (slice e 12 26, open_) } : Dev)
    if open_ then s.ev 0x0F03 (u16 e 2) 1 else s

end Sys2Proof.Machine
end

