-- ==== Sys2Proof/Machine/Commit.lean ====
section
/-! DEFINITION. The commit of a commissioning image: the checks of every block and what a passing commit changes
(R55, R56, R72, R102, R103, R107, R110, R119, R140, R163, R164, R192, R197, R276, R277, R312, R384, R420). -/

namespace Sys2Proof.Machine

/-- Why a block refuses a commit: event code and parameters. -/
abbrev Refused : Type := Nat × Nat × Nat

/-- The device with the shadow bank of an image in place of the live tables (R55, R420). -/
def Dev.withShadow (s : Dev) (ws : List (Nat × Word)) : Dev :=
  s.each ws fun d w =>
    match regRow w.1 with
    | none => d
    | some r =>
      if blockOf w.1 = .safe then d
      else d.wr w.1 ((d.rd w.1 &&& ~~~(BitVec.ofNat 32 r.com)) ||| (w.2 &&& BitVec.ofNat 32 r.com))

/-- A register's bits under a mask differ. -/
def changed (old n : Dev) (a mask : Nat) : Bool := (old.rd a).toNat.land mask != (n.rd a).toNat.land mask

/-- A PBV differs in value (R56). -/
def changedPbv (old n : Dev) (a : Nat) : Bool := old.pbv a != n.pbv a

/-- The contexts that have a window. -/
def ctxNums : List Nat := (List.range 128).drop 1

/-- Source kind and index in the ranges of R57, no context naming context 0 or itself (R55). -/
def fbSrcOk (c kind index : Nat) : Bool :=
  match kind with
  | 1 => decide (index ≤ 39)
  | 2 => decide (index ≤ 7)
  | 3 => decide (index ≤ 3)
  | 4 => true
  | 5 => decide (1 ≤ index) && decide (index ≤ 127) && index != c
  | _ => false

def spSrcOk (c kind index : Nat) : Bool :=
  match kind with
  | 0 => true
  | 1 => true
  | 2 => decide (1 ≤ index) && decide (index ≤ 127) && index != c
  | _ => false

/-- Range of a command field (R274). -/
def Dev.cmdRange (s : Dev) (k : Nat) : Rat × Rat :=
  let w := (s.rd (CAN_CMD_FLD k)).toNat
  let half : Rat := if bitOf w 12 then 2 ^ 31 else 2 ^ 15
  let q := pow2 (signed 8 (bitsOf w 20 13))
  (-(half * q), (half - 1) * q)

/-- A context record is refused (R55). -/
def Dev.recordBad (n : Dev) (c : Nat) : Bool :=
  let rate := n.rate c
  if rate = 0 then false
  else
    let src := (n.rd (LOOP_CTX_SRC c)).toNat
    let omin := n.pbv (LOOP_CTX_OMIN c)
    let omax := n.pbv (LOOP_CTX_OMAX c)
    let out := (n.rd (LOOP_CTX_OUT c)).toNat
    let r := n.cmdRange (bitsOf out 7 0)
    decide (rateDiv rate ≤ n.fld (LOOP_CTX_CFG c) 10 4) || decide (n.pbv (LOOP_CTX_IMAX c) < n.pbv (LOOP_CTX_IMIN c))
      || decide (omax < omin) || decide (0 < omin) || decide (omax < 0)
      || (bitOf out 8 && (decide (omin < r.1) || decide (r.2 < omax))) || decide (n.rateLim c < 0)
      || !fbSrcOk c (bitsOf src 3 0) (bitsOf src 11 4) || !spSrcOk c (bitsOf src 15 12) (bitsOf src 23 16)
      || (n.bit (LOOP_CTX_CFG c) 13 && decide (n.pbv (LOOP_CTX_WRAP c) ≤ 0))

/-- A field of a context that an in-service commit may not change has changed (R56). -/
def ctxFrozen (old n : Dev) (c : Nat) : Bool :=
  changed old n (LOOP_CTX_CFG c) 0xBFFF || changed old n (LOOP_CTX_SRC c) 0x00FFFFFF || changed old n (LOOP_CTX_OUT c) 0x1FF
    || changedPbv old n (LOOP_CTX_FBSCALE c) || changedPbv old n (LOOP_CTX_FBOFS c) || changedPbv old n (LOOP_CTX_WRAP c)

/-- The loop engine's check (R55, R56): parameter 2 is the first refused context. -/
def loopCheck (old n : Dev) : Option Refused :=
  (ctxNums.find? fun c => n.recordBad c || (old.inService && ctxFrozen old n c)).map fun c => (0x020E, 0, c)

/-- The generator record applies (R102). -/
def Dev.genApplies (n : Dev) (g : Nat) : Bool :=
  if g < 128 then n.rate g != 0 && n.fld (LOOP_CTX_SRC g) 15 12 == 0 else true

/-- Item of R102 that refuses a generator record, the first in its order. -/
def Dev.genFault (n : Dev) (g : Nat) : Option Nat :=
  let ctx := decide (g < 128)
  let q := n.genQ g
  let t := n.genT g
  let vmax := limQ q t 1 (n.pbv (PROF_VMAX g))
  let amax := limQ q t 2 (n.pbv (PROF_AMAX g))
  let jmax := limQ q t 3 (n.pbv (PROF_JMAX g))
  let top := q * 2 ^ 62
  let tmin := n.pbv (PROF_TMIN g)
  let tmax := n.pbv (PROF_TMAX g)
  let pw := n.pwrap g
  let w : Rat := if ctx then n.pbv (LOOP_CTX_WRAP g) else 360
  let src := n.tgtSrc g
  let ix := n.fld (PROF_CFG g) 11 4
  let items : List (Nat × Bool) := [
    (1, decide (vmax ≤ 0) || decide (amax ≤ 0) || decide (jmax ≤ 0)),
    (2, decide (vmax < amax)),
    (3, !pw && (decide (tmax < tmin) || decide (top < absRat tmin) || decide (top < absRat tmax))),
    (4, pw && (decide (n.genW g ≤ 0) || decide (top ≤ w))),
    (5, pw && (if ctx then !n.bit (LOOP_CTX_CFG g) 13 else g != 130)),
    (6, !pw && g == 130),
    (7, !(src == 0 || (ctx && src == 4) || (ctx && src == 1 && decide (ix ≤ 39)) || (ctx && src == 2 && decide (ix ≤ 7))
         || (src == 3 && decide (ix ≤ 39)))),
    (8, ctx && src == 3 && decide (n.pbv (PROF_MATCH g) ≤ 0)),
    (9, decide (n.pbv (PROF_TJUMP g) < 0) || (!ctx && decide (n.pbv (PROF_MATCH g) < 0)))]
  (items.find? Prod.snd).map Prod.fst

/-- A generator field that an in-service commit may not change has changed (R103). -/
def genFrozen (old n : Dev) (g : Nat) : Bool :=
  changed old n (PROF_CFG g) 0xFF000FFF || changedPbv old n (PROF_TSCALE g) || changedPbv old n (PROF_TOFS g)

/-- The generators' check (R102, R103). -/
def profCheck (old n : Dev) : Option Refused :=
  ((List.range 131).drop 1).findSome? fun g =>
    match (if n.genApplies g then n.genFault g else none) with
    | some k => some (0x030E, g, k)
    | none => if old.inService && genFrozen old n g then some (0x030E, g, 10) else none

/-- The role runs the estimator and allocation (R107, R142). -/
def Dev.positions (s : Dev) : Bool := s.role != 2

/-- First item of R110 that a commit changes. -/
def estChanged (old n : Dev) : Option Nat :=
  let one := old.est.model.map pbvVal != n.est.model.map pbvVal
  let two := old.est.originRule != n.est.originRule
  let three := changed old n EST_SENS_CFG 0x0FFFFFFF || (List.range 4).any fun k => changed old n (EST_TALK k) allMask
  let four := [EST_BASE_X, EST_BASE_Y, EST_BASE_Z].any (changedPbv old n)
  let five := (List.range 6).any fun k => changed old n (EST_REF_CFG k) 0x7F
    || [EST_REF_LEVX k, EST_REF_LEVY k, EST_REF_LEVZ k].any (changedPbv old n)
  let six := changed old n EST_CFG allMask || changed old n EST_LIM0 0xFFFF || changed old n EST_REF_UDP 0xFFFF
    || [EST_GYRO_LIM, EST_AMB_RATIO, EST_BL_TOL, EST_SLIP_LIM].any (changedPbv old n)
  if one then some 1 else if two then some 2 else if three then some 3 else if four then some 4 else if five then some 5 else if six then some 6 else none

/-- Item that refuses the estimator table (R110, R119, R140). -/
def estFault (old n : Dev) : Option Nat :=
  if !n.positions then none
  else
    match (if old.inService then estChanged old n else none) with
    | some k => some k
    | none =>
      let x := n.pbv EST_BASE_X
      let y := n.pbv EST_BASE_Y
      let d2 := x * x + y * y
      if d2 < 1 ∨ 10000 < d2 then some 7
      else if (List.range 6).any fun k => n.fld (EST_REF_CFG k) 1 0 == 3 then some 8 else none

/-- The estimator's check. -/
def estCheck (old n : Dev) : Option Refused := (estFault old n).map fun k => (0x040E, 0, k)

/-- The contexts that a thruster names (R148). -/
def Dev.thrCtxs (n : Dev) (t : Nat) : List Nat :=
  n.ctxMag t :: (if n.thrKind t = 2 ∨ n.thrKind t = 3 then [n.ctxAng t] else [])

/-- A thruster names a context that cannot serve it (R163 item 2). -/
def Dev.thrCtxBad (n : Dev) (t : Nat) : Bool :=
  (n.thrCtxs t).any fun c =>
    c == 0 || n.rate c == 0 || n.fld (LOOP_CTX_SRC c) 15 12 != 0 || n.tgtSrc c != 4
      || n.thrusters.any fun u => u != t && (n.thrCtxs u).contains c

/-- Zones of a thruster that are refused (R163 item 6). -/
def Dev.zonesBad (n : Dev) (t : Nat) : Bool :=
  let z := min 2 (n.fld (ALLOC_THR_CFG t) 21 20)
  let lo (k : Nat) : Rat := n.pbv (THR_ZONE t k 0)
  let hi (k : Nat) : Rat := n.pbv (THR_ZONE t k 1)
  let width (k : Nat) : Rat := mod360 (hi k - lo k)
  let g01 := mod360 (lo 1 - hi 0)
  let g10 := mod360 (lo 0 - hi 1)
  (List.range z).any (fun k => width k == 0) ||
    (z == 2 && (width 0 + g01 + width 1 + g10 != 360 || decide (g01 < 1) || decide (g10 < 1)))

/-- A map decreases (R163 item 8). -/
def Dev.mapBad (n : Dev) (t : Nat) : Bool :=
  (List.range 16).any fun i => decide (n.pbv (ALLOC_MAP t (i + 1)) < n.pbv (ALLOC_MAP t i))

/-- A failure group's mask is empty or names an absent thruster (R163 item 10). -/
def Dev.groupBad (n : Dev) (g : Nat) : Bool :=
  let m := n.fld (ALLOC_GRP_MASK g) 23 0
  m == 0 || (n.grpKind g != 3 && (maskBits 24 m).any fun t => !n.thrusters.contains t)

/-- The allocation table is refused: parameter 1 and item (R163, R164). -/
def allocFault (old n : Dev) : Option (Nat × Nat) :=
  let ts := n.thrusters
  let all := List.range 24
  let kind (t : Nat) : Nat := n.thrKind t
  let poly := n.fld ALLOC_CFG 12 8
  let rows := poly * (ts.filter fun t => kind t == 2).length + 2 * (ts.filter fun t => kind t == 3).length
  let one (k : Nat) (f : Option Nat) : Option (Nat × Nat) := f.map fun t => (t, k)
  let qBad := (List.range 3).any fun a => decide (n.pbv (ALLOC_Q a) ≤ 0)
  let moved (t : Nat) : Bool := changed old n (ALLOC_THR_CFG t) 0x0007F7F7
    || [THR_POS_X t, THR_POS_Y t, THR_ANG_OFS t, THR_RUD_K t, THR_RUD_MAX t].any (changedPbv old n)
  ([one 1 (all.find? fun t => decide (4 < kind t)),
    one 2 (ts.find? n.thrCtxBad),
    one 3 (ts.find? fun t => kind t == 2 && (!n.pwrap (n.ctxAng t) || n.pbv (LOOP_CTX_WRAP (n.ctxAng t)) != 360)),
    one 4 (ts.find? fun t => (kind t != 2 && decide (0 < n.pbv (THR_FMIN t))) || decide (n.pbv (THR_FMAX t) ≤ 0)),
    one 5 (ts.find? fun t => (kind t == 2 && (decide (n.pbv (THR_SLEW t) < 1 / 2) || decide (60 < n.pbv (THR_SLEW t))))
      || decide (n.pbv (THR_FRATE t) ≤ 0)),
    one 6 (ts.find? n.zonesBad),
    one 7 (ts.find? fun t => kind t == 3 && (decide (n.pbv (THR_RUD_K t) ≤ 0) || decide (n.pbv (THR_RUD_MAX t) ≤ 0))),
    one 8 (ts.find? n.mapBad),
    (if !([8, 12, 16] : List Nat).contains poly || decide (192 < rows) then some (0, 9) else none),
    one 10 (n.groups.find? n.groupBad),
    (if qBad then some (0, 10) else none),
    one 10 (ts.find? fun t => decide (n.pbv (ALLOC_THR_W t) ≤ 0)),
    (if old.inService then one 11 (all.find? moved) else none),
    (if old.inService && changed old n ALLOC_CFG 0x1F00 then some (0, 11) else none)] : List (Option (Nat × Nat))).findSome? id

/-- Allocation's check. -/
def allocCheck (old n : Dev) : Option Refused := (allocFault old n).map fun p => (0x050E, p.1, p.2)

/-- Worst case of k QPs on one lane, the first with H changed (R197). -/
def qpCycles (k iters m n : Nat) : Nat :=
  if k = 0 then 0 else cholCycles n + 100 * (k - 1) + k * (iters * iterCycles m n + finalCycles m n)

/-- Grove's check: role 2 intact, role 3 pool (R192). -/
def groveCheck (n : Dev) : Option Refused :=
  let v := n.vars.length
  let p := (n.roleLanes 3).length
  let perLane := if p = 0 then 0 else ceilDiv n.thrustGroups.length p
  let intact := if v = 0 then 0 else qpCycles 1 (n.fld GROVE_ITER 9 0) n.intactRows (2 * v)
  let pool := if v = 0 then 0 else qpCycles perLane (n.fld GROVE_ITER 25 16) n.cqRows v
  if 2400000 < intact ∨ 24576 < footprint 4 false (2 * v) n.intactRows then some (0x060E, 2, ceilDiv intact 800)
  else if 11000000 < pool ∨ 24576 < footprint 4 false v n.cqRows then some (0x060E, 3, ceilDiv pool 800)
  else none

/-- Bits of a base-format frame with b data bytes at the nominal and at the data rate, worst case (R276). -/
def frameBits (fd brs : Bool) (b : Nat) : Nat × Nat :=
  if !fd then (47 + 8 * b + (33 + 8 * b) / 4, 0)
  else
    let d := 5 + 8 * b + (21 + 8 * b) / 4 - 4 + (if b ≤ 16 then 27 else 32)
    if brs then (34, d) else (34 + d, 0)

/-- CANCLK cycles of one cycle's command and time reference frames on a controller (R276, R277, R320). -/
def Dev.busCycles (n : Dev) (c : Nat) : Nat :=
  let nb := nomCycles (n.rd (CAN_NBT c))
  let db := datCycles (n.rd (CAN_DBT c))
  let fd := n.bit (CAN_CTRL c) 1
  let time (brs : Bool) (b : Nat) : Nat := let f := frameBits fd brs b; f.1 * nb + f.2 * db
  let str := (n.strOf c).map fun i =>
    80 / max 1 (n.fld (CAN_STR_CFG i) 21 15) * time (n.bit (CAN_STR_CFG2 i) 4) (dlcBytes fd (n.fld (CAN_STR_CFG2 i) 3 0))
  let tref := if n.bit (CAN_TREF_CFG c) 0 then time true 8 else 0
  let std := if n.role = 2 ∧ n.bit STAND_STD_CFG 0 ∧ n.bit STAND_STD_CFG (1 + c) then time true 8 else 0
  str.sum + tref + std

/-- The contexts that name a command field slot (R69, R277). -/
def Dev.slotNames (n : Dev) (k : Nat) : List Nat :=
  ctxNums.filter fun c => n.rate c != 0 && n.bit (LOOP_CTX_OUT c) 8 && n.fld (LOOP_CTX_OUT c) 7 0 == k

/-- Bytes of a command field slot: first and past the last (R274). -/
def Dev.slotSpan (n : Dev) (k : Nat) : Nat × Nat :=
  let w := (n.rd (CAN_CMD_FLD k)).toNat
  (bitsOf w 11 6, bitsOf w 11 6 + (if bitOf w 12 then 4 else 2))

/-- The CAN tables are refused: parameter 1 and item (R277). -/
def canFault (n : Dev) : Option (Nat × Nat) :=
  let strs := (List.range 64).filter fun i => n.bit (CAN_STR_CFG i) 0
  let period (i : Nat) : Nat := n.fld (CAN_STR_CFG i) 21 15
  let ident (i : Nat) : Nat := n.fld (CAN_STR_CFG i) 14 4
  let fdOf (i : Nat) : Bool := n.bit (CAN_CTRL (n.fld (CAN_STR_CFG i) 3 1)) 1
  let dlc (i : Nat) : Nat := n.fld (CAN_STR_CFG2 i) 3 0
  let used := (List.range 256).filter fun k => n.slotNames k != []
  let slotBad (k : Nat) : Bool :=
    let i := n.fld (CAN_CMD_FLD k) 5 0
    let b := n.slotSpan k
    !strs.contains i || decide (1 < (n.slotNames k).length) || decide (b.1 < 4) || decide (dlcBytes (fdOf i) (dlc i) < b.2)
      || used.any fun j => j != k && n.fld (CAN_CMD_FLD j) 5 0 == i
        && decide ((n.slotSpan j).1 < b.2) && decide (b.1 < (n.slotSpan j).2)
  let sameId (c : Nat) : Bool :=
    let is := n.strOf c
    is.any fun i => ident i == n.fld (CAN_TREF_CFG c) 11 1 || is.any fun j => j != i && ident j == ident i
  let one (k : Nat) (f : Option Nat) : Option (Nat × Nat) := f.map fun t => (t, k)
  ([one 1 (strs.find? fun i => !isDivider (period i) || decide (period i ≤ n.fld (CAN_STR_CFG i) 28 22)),
    one 2 ((List.range 8).find? fun c => decide (8 < (n.strOf c).length)),
    one 3 ((List.range 8).find? sameId),
    one 4 ((used.find? slotBad).map fun k => n.fld (CAN_CMD_FLD k) 5 0),
    one 5 (strs.find? fun i => decide (8 < dlc i) && !fdOf i),
    one 6 (strs.find? fun i => decide (n.fld (CAN_STR_CFG2 i) 15 8 < 2 * period i)),
    one 7 ((List.range 8).find? fun c => n.strOf c != [] && decide (640000 < n.busCycles c))] : List (Option (Nat × Nat))).findSome? id

/-- The CAN check. -/
def canCheck (n : Dev) : Option Refused := (canFault n).map fun p => (0x090E, p.1, p.2)

/-- The standing table's item that refuses (R312); an in-service change of another field is item 4. -/
def standFault (old n : Dev) : Option Nat :=
  let lead := n.stdUnit 0
  let second := n.stdUnit 1
  let warden := n.stdUnit 2
  let en := n.bit STAND_CFG 12
  let sid := n.fld STAND_STD_CFG 19 9
  let clash := (List.range 8).any fun c => n.bit STAND_STD_CFG (1 + c) && (n.fld (CAN_TREF_CFG c) 11 1 == sid ||
    (n.strOf c).any fun i => n.fld (CAN_STR_CFG i) 14 4 == sid)
  if !n.roleBad ∧ n.role < 3 ∧ n.stdUnit n.role ≠ n.unitNo then some 1
  else if lead = second ∨ lead = 15 ∨ second = 15 ∨ (en ∧ (warden = lead ∨ warden = second ∨ warden = 15)) then some 2
  else if clash then some 3
  else if old.inService ∧ (changed old n STAND_CFG 0x00FF1FFF ∨ changed old n STAND_STD_CFG 0x000FFFFF) then some 4
  else none

/-- Standing's check. -/
def standCheck (old n : Dev) : Option Refused := (standFault old n).map fun k => (0x0B0E, 0, k)

/-- Thicket's check of the gateway table (R384). -/
def thktCheck (n : Dev) : Option Refused :=
  let gs := (List.range 256).filter fun g => n.bit (THKT_GW_CFG g) 0
  match gs.find? fun g => gs.any fun h => decide (h < g) && n.rd (THKT_GW_IP h) == n.rd (THKT_GW_IP g) with
  | some g => some (0x0D0E, g, 1)
  | none => (gs.find? fun g => (n.gwKey g).isNone).map fun g => (0x0D0E, g, 2)

/-- A block's section takes part in the checks: an image of this commit or of an earlier one has carried it (R107, R422). -/
def Dev.carried (s : Dev) (sects : List Nat) (k : Nat) : Bool := sects.contains k || s.glade.sects.contains k

/-- The first block that refuses a commit (R55, R422 check 8). -/
def commitFault (old n : Dev) (sects : List Nat) : Option Refused :=
  ([loopCheck old n, profCheck old n, if old.carried sects 4 then estCheck old n else none,
    if old.carried sects 5 then allocCheck old n else none, groveCheck n, canCheck n, standCheck old n, thktCheck n]
    : List (Option Refused)).findSome? id

/-- A context of the live tables after a commit (R56, R72). Enabling zeroes the values, STAT and what the engine holds behind
the window; LOOP_CTX_FLT and LOOP_CTX_RESCNT stand (log entry 84). -/
def commitCtx (old : Dev) (s : Dev) (c : Nat) : Dev :=
  if old.rate c = 0 ∧ s.rate c ≠ 0 then
    let s := s.each [LOOP_CTX_OUTV c, LOOP_CTX_INTV c, LOOP_CTX_ERRV c, LOOP_CTX_SPV c, LOOP_CTX_FBV c, LOOP_CTX_DV c]
      fun d a => d.wr a 0
    ((s.setLctx c fun _ => {}).wr (LOOP_CTX_STAT c) 0).setCtxState c 1
  else if old.rate c ≠ 0 ∧ s.rate c = 0 then (s.toClearing c).wr (LOOP_CTX_STAT c) 0
  else s

/-- A generator of the live tables after a commit (R87, R103). -/
def commitGen (old : Dev) (s : Dev) (g : Nat) : Dev :=
  if !s.genApplies g ∨ !old.genApplies g then
    if old.genApplies g then ((s.setGen g fun _ => {}).wr (PROF_STAT g) 0).showGen g else s
  else
    let s := if old.genQ g = s.genQ g then s else
      let f (x : Int) : Int := s.toQ g ((x : Rat) * old.genQ g)
      s.setGen g fun y => { y with pos := f y.pos, tgt := f y.pos, tgtRaw := f y.pos, vel := f y.vel, acc := f y.acc }
    if [PROF_VMAX g, PROF_AMAX g, PROF_JMAX g].any (changedPbv old s) then
      if old.inService then (s.setGen g fun y => { y with oldLim := some (old.genLims g) }).setBit (PROF_STAT g) 8 true
      else (s.setGen g fun y => { y with oldLim := none }).setBit (PROF_STAT g) 8 false
    else s

/-- A receive field whose record changed has delivered nothing yet (R266). -/
def commitField (old : Dev) (s : Dev) (k : Nat) : Dev :=
  if changed old s (CAN_RX_FLD k) allMask then { s with can.field := modAt s.can.field k fun _ => {} } else s

/-- The tables as a commit makes them live: the shadow's registers, and the model of an EST section (R55, R108). -/
def Dev.withTables (old : Dev) (ws : List (Nat × Word)) (est : Option (List Byte)) : Dev :=
  let s := old.withShadow ws
  match est with
  | none => s
  | some b => { s with est.model := (List.range 400).map (Config.modelWord b), est.originRule := Config.modelWord b 400 }

/-- A commit that every block accepts (R55, R56, R72, R107, R110). -/
def Dev.commitApply (old : Dev) (ws : List (Nat × Word)) (sects : List Nat) (est : Option (List Byte)) : Dev :=
  let s := old.withTables ws est
  let s := s.each ctxNums (commitCtx old)
  let s := s.each ((List.range 131).drop 1) (commitGen old)
  let s := s.each (List.range 256) (commitField old)
  let s := { s with glade.sects := s.glade.sects ++ sects.filter fun k => !s.glade.sects.contains k }
  let s := if sects.contains 4 ∧ s.positions ∧ s.estState = 0 then { s with est.startPending := true } else s
  let s := if s.positions ∧ s.estState ≠ 0 ∧ (estChanged old s).isSome then { s with est.reinitPending := true } else s
  let s := (s.refsCommit).allocCommit old
  s.ev 0x020E 1 0

end Sys2Proof.Machine
end

