-- ==== Sys2Proof/Machine/Glade.lean ====
section
/-! DEFINITION. Glade: die sensors and supplies, owner keys, signed images, boot, sessions, attestation (R414 to R430). -/

namespace Sys2Proof.Machine

/-- Die temperatures in 0.125 °C (R416); the acquisition chains' band follows one of them (R241). -/
def Dev.dieTemps (s : Dev) (ts : List Int) : Dev :=
  let warn := signed 16 (s.fld GLB_TJ_WARN 15 0)
  let s := s.each (List.range 8) fun d n =>
    let t := ts.getD n 0
    let d := d.setFld (GLB_TEMP n) 15 0 (unsigned 16 t)
    if warn < t ∧ !d.bit (GLB_TEMP n) 16 then ((d.setBit (GLB_TEMP n) 16 true).evI 0x100A n t).raise 0x79
    else if t < warn - 16 then d.setBit (GLB_TEMP n) 16 false
    else d
  s.acqTemp ts

/-- Nominal value of a supply monitor, mV (R417). -/
def supplyNominal (m : Nat) : Nat :=
  ([800, 800, 800, 1800, 3300, 900, 900, 1200, 1200, 1200, 1800, 800] : List Nat).getD m 0

/-- A reading lies inside nominal ±5 %, the ends included (R417). -/
def supplyInside (m mv : Nat) : Bool :=
  let n := supplyNominal m
  decide (19 * n ≤ 20 * mv) && decide (20 * mv ≤ 21 * n)

/-- A sample of the supply monitors, one every 10 µs (R417). -/
def Dev.supplies (s : Dev) (mv : List Nat) : Dev :=
  s.each (List.range 12) fun d m =>
    let v := mv.getD m 0
    let d := d.setFld (GLB_SUP m) 15 0 (min 65535 v)
    let d := { d with glade.supRun := modAt d.glade.supRun m fun n => if supplyInside m v then 0 else min 12 (n + 1) }
    if supplyInside m v then d.setFld (GLB_SUP m) 17 16 0 else d

/-- A monitor has read outside its window for more than 100 µs, which 12 samples span (R417). -/
def Dev.supplyFault (s : Dev) (m : Nat) (high : Bool) : Dev :=
  let b := if high then 17 else 16
  let mv := s.fld (GLB_SUP m) 15 0
  if s.bit (GLB_SUP m) b || decide (s.glade.supRun.getD m 0 < 12) || high != decide (supplyNominal m < mv) then s
  else ((s.setBit (GLB_SUP m) b true).ev 0x100B m mv).raise 0x79

/-- An owner slot is live (R419). -/
def Dev.ownerLive (s : Dev) (k : Nat) : Bool := bitOf s.glade.enrolled k && !bitOf s.glade.revoked k

/-- GLB_OWNER and GLB_RB show the fuses (R419, R423). -/
def Dev.showFuses (s : Dev) : Dev :=
  let s := s.wrN GLB_OWNER (s.glade.enrolled % 16 + 16 * (s.glade.revoked % 16))
  let r (k : Nat) : Nat := s.glade.rb.getD k 0 % 64
  s.wrN GLB_RB (r 0 + 256 * r 1 + 65536 * r 2)

/-- Bytes of words, least significant byte first. -/
def wordBytes (ws : List Word) : List Byte := ws.flatMap fun w => leBytes 4 w.toNat

/-- Result of ENROL before the fuses are programmed (R419). -/
def Dev.enrolRefused (s : Dev) (k : Nat) : Nat :=
  if bitOf s.glade.enrolled k then 1
  else if k = 0 ∧ s.glade.enrolled = 0 then (if s.mode = 0 then 0 else 3)
  else if s.sessLevel 4 then 0 else 2

/-- ENROL of an owner slot (R419). -/
def Dev.enrolOwner (s : Dev) (k : Nat) (burnOk : Bool) : Dev :=
  let r := s.enrolRefused k
  let s := if s.sessLevel 4 then s.sessUse else s
  if r ≠ 0 then s.setFld GLB_ENROL_STAT 3 0 r
  else if !burnOk then s.setFld GLB_ENROL_STAT 3 0 5
  else
    let b := wordBytes s.glade.enrol
    let s := { s with glade.owner := setAt s.glade.owner k (b.take 48, b.drop 48),
                      glade.enrolled := s.glade.enrolled + 2 ^ k }
    (s.showFuses.setFld GLB_ENROL_STAT 3 0 0).ev 0x100C k 1

/-- REVOKE of an enrolled owner slot (R419). -/
def Dev.revokeOwner (s : Dev) (k : Nat) (burnOk : Bool) : Dev :=
  if !bitOf s.glade.enrolled k then s
  else if !s.sessLevel 4 then s.setFld GLB_ENROL_STAT 3 0 2
  else if !((List.range 4).any fun j => j != k && s.ownerLive j) then s.sessUse.setFld GLB_ENROL_STAT 3 0 4
  else if !burnOk then s.sessUse.setFld GLB_ENROL_STAT 3 0 5
  else
    let s := { s.sessUse with glade.revoked := s.glade.revoked.lor (2 ^ k) }
    (s.showFuses.setFld GLB_ENROL_STAT 3 0 0).ev 0x100C k 2

/-- Fields of an image header (R421). -/
def imgTyp (b : List Byte) : Nat := u8 b 0
def imgKey (b : List Byte) : Nat := u8 b 2 % 4
def imgRollback (b : List Byte) : Nat := u8 b 3
def imgLength (b : List Byte) : Nat := u32 b 4
def imgBuild (b : List Byte) : Nat := u32 b 16

/-- A section of an image: identifier and body (R420). -/
abbrev Sect : Type := Nat × List Byte

/-- The sections of a payload; none where their layout is not consistent (R420). -/
def parseSects : Nat → List Byte → Option (List Sect)
  | 0, p => if p = [] then some [] else none
  | n + 1, p =>
    let len := u32 p 2
    if p.length < 8 ∨ u16 p 6 ≠ 0 ∨ len % 8 ≠ 0 ∨ p.length < 8 + len then none
    else (parseSects n (p.drop (8 + len))).map fun xs => (u16 p 0, slice (p.drop 8) 0 len) :: xs

/-- The payload of an image. -/
def imgPayload (b : List Byte) : List Byte := (b.drop 64).take (imgLength b)

/-- The sections of an image. -/
def imgSects (b : List Byte) : Option (List Sect) := parseSects (u16 b 20) (imgPayload b)

/-- The register writes of a section, by BAR0 address (R420). -/
def sectWrites (x : Sect) : List (Nat × Word) :=
  match blockOfSect x.1 with
  | none => []
  | some k => (groupsOf 8 (x.2.length / 8) x.2).map fun w => (blockBase k + u32 w 0, BitVec.ofNat 32 (u32 w 4))

/-- Sections that a type of image may carry (R420). -/
def sectAllowed (typ id : Nat) : Bool :=
  match typ with
  | 1 => id == 0x100 || id == 0x101 || id == 0x102 || (decide (1 ≤ id) && decide (id ≤ 0x11))
  | 2 => ([2, 3, 4, 5, 6, 8, 9, 0xB, 0xC, 0xD, 0x120] : List Nat).contains id
  | 3 => id == 0x0F
  | _ => false

/-- A register write that the image may make (R420, R425). -/
def writeAllowed (typ id : Nat) (w : Nat × Word) : Bool :=
  match regRow w.1, blockOfSect id with
  | some r, some k =>
    blockOf w.1 == k && (r.boot != 0 || (typ != 1 && r.com != 0))
      && !(w.1 == PIN_OVR0 && bitsOf w.2.toNat 31 26 != 0) && !(w.1 == PIN_OVR_EN && bitsOf w.2.toNat 15 13 != 0)
  | _, _ => false

/-- The key-slot entries of section 0x0101 are consistent (R425). -/
def slotEntryOk (e : List Byte) : Bool :=
  let use := u8 e 1 % 4
  let lvl := u8 e 1 / 4 % 8
  use != 3 && !(use == 1 && (lvl == 0 || decide (4 < lvl)))

/-- A section that the image may carry (R420, R425). -/
def sectOk (typ : Nat) (x : Sect) : Bool :=
  sectAllowed typ x.1 &&
    (if x.1 = 0x101 then x.2.length % 40 == 0 && (groupsOf 40 (x.2.length / 40) x.2).all slotEntryOk
     else (sectWrites x).all (writeAllowed typ x.1))

/-- Check 3 of R422. -/
def imgConsistent (b : List Byte) : Bool :=
  let typ := imgTyp b
  let len := imgLength b
  decide (1 ≤ typ) && decide (typ ≤ 3) && u8 b 1 == 1 && len % 8 == 0 && decide (len ≤ 1048576) && b.length == 256 + len
    && (match imgSects b with
        | none => false
        | some xs => xs.all (sectOk typ))

/-- Checks 3 to 7 of R422: the result of the first that fails, or 0. -/
def Dev.imageFault (s : Dev) (b : List Byte) : Nat :=
  if !imgConsistent b then 1
  else
    let signed := b.take (64 + imgLength b)
    let tr := b.drop (64 + imgLength b)
    let k := imgKey b
    let num (i : Nat) : Nat := beNat (slice tr (48 * i) 48)
    let sn := (s.rd GLB_SN_LO).toNat + 2 ^ 32 * (s.rd GLB_SN_HI).toNat
    if !s.ownerLive k || sha384 (tr.take 96) != (s.glade.owner.getD k ([], [])).1 then 2
    else if !ecdsaVerify (num 0, num 1) (sha384 signed) (num 2) (num 3) then 3
    else if bitOf (u8 b 2) 2 && leNat (slice b 8 8) != sn then 4
    else if imgRollback b < s.glade.rb.getD (imgTyp b - 1) 0 ∨ 63 < imgRollback b then 5
    else 0

/-- The session requirement of an image type (R426). -/
def imgFunction (typ : Nat) : Nat := if typ = 2 then 5 else if typ = 3 then 6 else 7

/-- Checks 1 to 7 of R422 for an image taken in service. -/
def Dev.imageRefused (s : Dev) (b : List Byte) : Nat :=
  if 1 ≤ imgTyp b ∧ imgTyp b ≤ 3 ∧ !s.sessOk (imgFunction (imgTyp b)) then 7
  else if s.glade.job.isSome ∨ s.glade.burns ≠ [] then 8
  else s.imageFault b

/-- GLB_IMG_STAT (R430). -/
def Dev.imgStat (s : Dev) (state res : Nat) (b : List Byte) : Dev :=
  s.wrN GLB_IMG_STAT (state + 16 * res + 256 * (imgTyp b % 4) + 65536 * (imgBuild b % 65536))

/-- Glade has finished with an image: status, completion and interrupt source (R422, R443, R451). -/
def Dev.imageDone (s : Dev) (j : ImgJob) (res : Nat) : Dev :=
  let s := (if res = 8 then s else s.imgStat 0 res j.bytes).raise 0x78
  match j.desc with
  | none => s
  | some (p, idx, tag) => s.complete p 0x10 idx 0 tag res

/-- A refused image (R422). -/
def Dev.imageReject (s : Dev) (j : ImgJob) (res : Nat) : Dev := (s.ev 0x1007 (imgTyp j.bytes) res).imageDone j res

/-- An image has been applied and saved as far as it is: fuses burn, or it is done (R423). -/
def Dev.imageBurn (s : Dev) (j : ImgJob) (res : Nat) : Dev :=
  let k := j.typ - 1
  if s.glade.rb.getD k 0 < imgRollback j.bytes then
    ({ s with glade.burns := s.glade.burns ++ [{ j with wait := 3, result := res }] } : Dev).imgStat 5 res j.bytes
  else s.imageDone j res

/-- The rollback fuses of an image are burned (R423). -/
def Dev.burnFuses (s : Dev) : Dev :=
  match s.glade.burns with
  | [] => s
  | j :: js =>
    let k := j.typ - 1
    let n := max (s.glade.rb.getD k 0) (imgRollback j.bytes)
    let s := ({ s with glade.burns := js, glade.rb := setAt s.glade.rb k n } : Dev).showFuses
    (s.ev 0x1008 j.typ n).imageDone j j.result

/-- An image store is there to save to (R422, R424). -/
def Dev.imageStore (s : Dev) : Bool := s.fld GLB_HW_STAT 5 4 == 1 && s.bit GLB_HW_STAT 6

/-- An image in service waits for its save, or there is no store (R422 to R424). -/
def Dev.imageToStore (s : Dev) (j : ImgJob) : Dev :=
  if s.imageStore then
    ({ s with glade.job := some { j with wait := 2 } } : Dev).imgStat 4 0 j.bytes
  else
    let s := ({ s with glade.job := none } : Dev)
    if j.typ = 2 then s.imageBurn j 9 else s.imageDone j 9

/-- The image is written to the other slot of the store, or the write fails in a block: the slot, whose valid mark would have
come last, then holds no image (R422 to R424, R429). -/
def Dev.imageSaved (s : Dev) (ok : Bool) (block : Nat) : Dev :=
  match s.glade.job with
  | none => s
  | some j =>
    if j.wait ≠ 2 then s
    else
      let k := j.typ - 1
      let slot := 1 - s.glade.newest.getD k 1
      let s := ({ s with glade.job := none } : Dev)
      if ok then
        let s := { s with glade.store := setAt s.glade.store (2 * k + slot) (some j.bytes),
                          glade.newest := setAt s.glade.newest k slot }
        if j.typ = 2 then s.imageBurn j 0 else s.imageDone j 0
      else
        let s := { s with glade.store := setAt s.glade.store (2 * k + slot) none }
        (s.ev 0x100E j.typ block).imageDone j 9

/-- The first bytes of the digest that an attestation reports (R428). -/
def imgDigest (b : List Byte) : List Byte := (sha384 (b.take (64 + imgLength b))).take 16

/-- An image takes effect (R422, R428). -/
def Dev.imageInForce (s : Dev) (b : List Byte) : Dev :=
  ({ s with glade.digests := setAt s.glade.digests (imgTyp b - 1) (imgDigest b) } : Dev).ev 0x1006 (imgTyp b) (imgBuild b)

/-- Register writes into domains that RST_DOM_STAT shows released, the only ones that boot accesses (R465). -/
def Dev.bootable (s : Dev) (ws : List (Nat × Word)) : List (Nat × Word) :=
  ws.filter fun w => s.bit RST_DOM_STAT (blockDomain (blockOf w.1))

/-- Register writes by RW-boot access, while Heartwood is open (R12). -/
def Dev.bootWrites (s : Dev) (ws : List (Nat × Word)) : Dev :=
  s.each ws fun d w =>
    let m := BitVec.ofNat 32 ((regRow w.1).elim 0 RegRow.boot)
    d.wr w.1 ((d.rd w.1 &&& ~~~m) ||| (w.2 &&& m))

/-- All register writes of an image. -/
def imgWrites (b : List Byte) : List (Nat × Word) := ((imgSects b).getD []).flatMap sectWrites

/-- The key-slot entries of a Heartwood image (R425). -/
def imgSlots (b : List Byte) : List (List Byte) :=
  ((imgSects b).getD []).flatMap fun x => if x.1 = 0x101 then groupsOf 40 (x.2.length / 40) x.2 else []

/-- A key slot takes its entry: the slot key is unwrapped with the owner's wrap key (R425). -/
def Dev.loadSlot (b : List Byte) (s : Dev) (e : List Byte) : Dev :=
  let n := u8 e 0 % 8
  let use := u8 e 1 % 4
  let wrap := (s.glade.owner.getD (imgKey b) ([], [])).2
  let pad := hmac256 wrap [0x53, 0x4C, 0x4F, 0x54, BitVec.ofNat 8 n, BitVec.ofNat 8 (imgRollback b)]
  let key := if use = 0 then [] else xorBytes (slice e 8 32) pad
  let s := { s with glade.keys := setAt s.glade.keys n key }
  (s.setFld (GLB_SLOT n) 1 0 use).setFld (GLB_SLOT n) 4 2 (u8 e 1 / 4)

/-- Heartwood from its image, or the defaults (R425, R426 step 2). -/
def Dev.bootHeartwood (s : Dev) (j : Option ImgJob) : Dev :=
  match j with
  | none => s
  | some j =>
    let s := s.bootWrites (s.bootable (imgWrites j.bytes))
    let s := s.each (imgSlots j.bytes) (Dev.loadSlot j.bytes)
    (s.setBit GLB_HW_STAT 1 true).imageInForce j.bytes

/-- The SAFE section's words over the live ones (R340, R341). -/
def safeWords (s : Dev) (ws : List (Nat × Word)) : Nat → Nat :=
  let t := s.each (ws.filter fun w => blockOf w.1 == .safe) fun d w => d.wr w.1 w.2
  fun a => (t.rd a).toNat

/-- An image's SAFE section is refused (R341). -/
def Dev.safeRefused (s : Dev) (b : List Byte) : Option (Nat × Nat) :=
  if ((imgSects b).getD []).any fun x => x.1 == 0x0C then tableFault (safeWords s (imgWrites b)) else none

/-- The safety table from the commissioning image (R340, R341, R426 step 3); a refused table refuses the image. -/
def Dev.bootSafety (s : Dev) (j : Option ImgJob) : Dev × Option ImgJob :=
  match j with
  | none => (s, none)
  | some j =>
    match s.safeRefused j.bytes with
    | some (item, i) => ((s.ev 0x0C0E i item).imageReject j 6, none)
    | none =>
      if ((imgSects j.bytes).getD []).any fun x => x.1 == 0x0C then
        let s := s.each ((s.bootable (imgWrites j.bytes)).filter fun w => blockOf w.1 == .safe) fun d w =>
          let m := BitVec.ofNat 32 ((regRow w.1).elim 0 RegRow.com)
          d.wr w.1 ((d.rd w.1 &&& ~~~m) ||| (w.2 &&& m))
        ({ s with safe.table := true, safe.ustCfg := s.safe.ustOn }, some j)
      else (s, some j)

/-- The artwork image is applied (R413, R426 step 5, R472). -/
def Dev.bootArtwork (s : Dev) (j : Option ImgJob) : Dev :=
  match j with
  | none => s
  | some j =>
    let s := s.each (s.bootable (imgWrites j.bytes)) fun d w =>
      let m := BitVec.ofNat 32 ((regRow w.1).elim 0 RegRow.com)
      d.wr w.1 ((d.rd w.1 &&& ~~~m) ||| (w.2 &&& m))
    ((s.setBit GLB_HW_STAT 3 true).setBit PIN_CFGD 5 true).imageInForce j.bytes

/-- Steps 2 to 6 of the boot code with the images it has (R426). -/
def Dev.bootImages (s : Dev) (hw com art : Option ImgJob) : Dev :=
  let s := s.bootHeartwood hw
  let (s, com) := s.bootSafety com
  let s := (s.setBit GLB_HW_STAT 0 true).ev 0x1009 (bnat hw.isSome) (hw.elim 0 fun j => imgBuild j.bytes)
  let s := s.bootArtwork art
  let res := if s.imageStore then 0 else 9
  let s := s.each (hw.toList ++ art.toList) fun d j => d.imageBurn j res
  let s := match com with
    | none => s
    | some j => ({ s with glade.job := some { j with wait := 1 } } : Dev).imgStat 3 0 j.bytes
  ({ s with glade.waiting := false, glade.held := [] } : Dev).panelBoot s.glade.bootTemp

/-- The image of a type in the store: the valid one with the higher ROLLBACK, slot A on a tie (R424). -/
def Dev.storeImage (s : Dev) (typ : Nat) : Dev × Option ImgJob :=
  let k := typ - 1
  let a := (s.glade.store.getD (2 * k) none)
  let b := (s.glade.store.getD (2 * k + 1) none)
  let res (x : Option (List Byte)) : Option Nat :=
    x.map fun v => if imgTyp v = typ then s.imageFault v else 1
  let bad (s : Dev) (r : Option Nat) : Dev :=
    match r with
    | some (n + 1) => s.ev 0x1007 typ (n + 1)
    | _ => s
  let s := bad (bad s (res a)) (res b)
  let okA := if res a = some 0 then a else none
  let okB := if res b = some 0 then b else none
  let job (v : List Byte) (slot : Nat) : Dev × Option ImgJob :=
    ({ s with glade.newest := setAt s.glade.newest k slot }, some { typ := typ, bytes := v, wait := 0, boot := true })
  match okA, okB with
  | some x, some y => if imgRollback x < imgRollback y then job y 1 else job x 0
  | some x, none => job x 0
  | none, some y => job y 1
  | none, none => ({ s with glade.newest := setAt s.glade.newest k 1 }, none)

/-- Use and wear of the NOR as the probe finds them (R394, R395, R400). -/
def Dev.showNor (s : Dev) : Dev :=
  let l := s.log
  let s := (s.setFld LOG_PIN_USE 15 0 l.evAt).setFld LOG_PIN_USE 31 16 l.crAt
  let s := (s.setFld LOG_WEAR 23 0 ((l.erases.map Prod.snd).foldl max 0)).setFld LOG_WEAR 31 24 (min 255 l.bad.length)
  ((s.setBit LOG_STAT 2 (decide (32768 ≤ l.evAt))).setBit LOG_STAT 3 (decide (16384 ≤ l.crAt))).showCirc

/-- Ringlog's probe at boot (R387, R393). -/
def Dev.ringlogProbe (s : Dev) (nor : Nat) : Dev :=
  if nor = 0 then
    let saved := if s.log.pwrNew then (s.fld LOG_PWR_CYC 23 0, s.log.saved.2) else s.log.saved
    ({ s with log.pwrNew := false, log.saved := saved } : Dev).showNor.setBit LOG_STAT 0 true
  else
    let s := if s.log.pwrNew then (s.setFld LOG_PWR_CYC 23 0 0).wr LOG_OP_S 0 else s
    ({ s with log.pwrNew := false }.setBit LOG_STAT 0 false).ev 0x0E08 nor 0

/-- Boot goes on with the images that the host has given (R424). -/
def Dev.bootHost (s : Dev) : Dev :=
  let get (t : Nat) : Option ImgJob := s.glade.held.find? fun j => j.typ == t
  s.bootImages (get 1) (get 2) (get 3)

/-- The boot code runs once after a release, from the release of its own domain (R424, R426, R464, R465). -/
def Dev.gladeBoot (s : Dev) (b : BootIn) : Dev :=
  if s.bit GLB_HW_STAT 0 || s.glade.waiting || !s.bit RST_DOM_STAT 1 then s
  else
    let sel := s.fld RST_STRAP 1 0
    let s := (s.showFuses.ringlogProbe b.nor)
    let s := { s with glade.store := b.store.getD s.glade.store, glade.bootTemp := b.panelTemp }
    let s := (s.setFld GLB_HW_STAT 5 4 sel).setBit GLB_HW_STAT 6 (sel == 1 && b.imgNorOk)
    if sel = 2 then { s with glade.waiting := true, glade.held := [], glade.waitAt := s.seq.cyc }
    else if s.imageStore then
      let (s, hw) := s.storeImage 1
      let (s, com) := s.storeImage 2
      let (s, art) := s.storeImage 3
      s.bootImages hw com art
    else s.bootImages none none none

/-- Boot stops waiting for host images after 30 s (R424). -/
def Dev.hostWaitEnd (s : Dev) : Dev := if s.glade.waiting && s.spanOver s.glade.waitAt 30000 then s.bootHost else s

/-- An image arrives by descriptor (R422, R424, R443). -/
def Dev.takeImage (s : Dev) (b : List Byte) (desc : Nat × Nat × Nat) : Dev :=
  let j : ImgJob := { typ := imgTyp b, bytes := b, desc := some desc, wait := 1 }
  if s.glade.waiting then
    let r := if s.glade.held.any fun h => h.typ == j.typ then 8 else s.imageFault b
    if r ≠ 0 then s.imageReject j r
    else
      let s := { s with glade.held := s.glade.held ++ [{ j with boot := true }] }
      if 3 ≤ s.glade.held.length then s.bootHost else s
  else
    let r := s.imageRefused b
    let s := if r = 7 then s else s.sessUse
    if r ≠ 0 then s.imageReject j r
    else if j.typ = 2 then ({ s with glade.job := some j } : Dev).imgStat 3 0 b
    else s.imageToStore j

/-- The commit that Glade has requested, at a cycle boundary (R37, R55, R420, R422 check 8). -/
def Dev.commitNow (s : Dev) : Dev :=
  match s.glade.job with
  | none => s
  | some j =>
    if j.wait ≠ 1 then s
    else
      let ws := if j.boot then s.bootable (imgWrites j.bytes) else imgWrites j.bytes
      let all := (imgSects j.bytes).getD []
      let sects := all.map Prod.fst
      let est := (all.find? fun x => x.1 == 4).map Prod.snd
      let s := ({ s with glade.job := none } : Dev)
      match commitFault s (s.withTables ws est) sects with
      | some (code, p1, p2) => (s.ev code p1 p2).imageReject j 6
      | none =>
        match (if j.boot then none else s.safeRefused j.bytes) with
        | some (item, i) => (s.ev 0x0C0E i item).imageReject j 6
        | none =>
          let s := s.commitApply ws sects est
          let s := ((s.setBit GLB_MODE_STAT 8 true).setBit GLB_HW_STAT 2 true).imageInForce j.bytes
          if j.boot then s.imageBurn j (if s.imageStore then 0 else 9) else s.imageToStore j

/-- State of the session: 0 Closed, 1 Challenged, 2 Open (R427). -/
def Dev.sessState (s : Dev) : Nat := s.fld GLB_SESS_STAT 7 6
def Dev.sessSlot (s : Dev) : Nat := s.fld GLB_SESS_STAT 5 3

/-- The session or challenge ends: 1 CLOSE, 2 idle, 3 replaced (R427). -/
def Dev.sessEnd (s : Dev) (why : Nat) : Dev :=
  ((s.setFld GLB_SESS_STAT 7 6 0).setFld GLB_SESS_STAT 2 0 0).ev 0x1005 s.sessSlot why

/-- OPEN (R427). -/
def Dev.sessOpen (s : Dev) (slot level : Nat) : Dev :=
  let s := if s.sessState = 0 then s else s.sessEnd 3
  let w := (s.rd (GLB_SLOT slot)).toNat
  let res := if bitsOf w 1 0 ≠ 1 then 1 else if level < 1 ∨ bitsOf w 4 2 < level then 2 else if bitOf w 8 then 3 else 0
  let s := s.setFld GLB_SESS_STAT 11 8 res
  if res ≠ 0 then s
  else
    let n := s.seq.freeCtr
    let chal := (List.range 32).map (Config.challengeByte n)
    let s := s.spend.each (List.range 8) fun d k => d.wrN (GLB_SESS_CHAL k) (u32 chal (4 * k))
    let s := ({ s with glade.sessLvl := level, glade.chalAt := s.seq.cyc } : Dev)
    (s.setFld GLB_SESS_STAT 7 6 1).setFld GLB_SESS_STAT 5 3 slot

/-- An opening fails: FAILS counts, and the fifth locks the slot (R427). -/
def Dev.sessFail (s : Dev) : Dev :=
  let k := s.sessSlot
  let n := s.fld (GLB_SLOT k) 7 5 + 1
  let s := ((s.setFld GLB_SESS_STAT 7 6 0).setFld (GLB_SLOT k) 7 5 n).ev 0x1002 k n
  if 5 ≤ n then
    (((s.setFld (GLB_SLOT k) 7 5 0).setBit (GLB_SLOT k) 8 true).setFld (GLB_SLOT k) 31 16 60).ev 0x1003 k 60
  else s

/-- The message that a response authenticates (R427). -/
def Dev.sessMessage (s : Dev) : List Byte :=
  wordBytes ((List.range 8).map fun k => s.rd (GLB_SESS_CHAL k)) ++ leBytes 1 s.sessSlot ++ leBytes 1 s.glade.sessLvl

/-- VERIFY: the right response within 10 s opens the session, at whose opening the idle time starts (R427). -/
def Dev.sessVerify (s : Dev) : Dev :=
  if s.sessState ≠ 1 then s
  else
    let k := s.sessSlot
    let ok := wordBytes s.glade.resp == hmac256 (s.glade.keys.getD k []) s.sessMessage
    if ok && !s.spanPast s.glade.chalAt 10000 then
      let s := (s.sessUse.setFld (GLB_SLOT k) 7 5 0).setFld GLB_SESS_STAT 7 6 2
      ((s.setFld GLB_SESS_STAT 2 0 s.glade.sessLvl).ev 0x1001 k s.glade.sessLvl).raise 0x78
    else s.sessFail.raise 0x78

/-- CLOSE, or the end of the idle time (R427). -/
def Dev.sessClose (s : Dev) (why : Nat) : Dev := if s.sessState = 2 then s.sessEnd why else s

/-- Idle time above SESS_IDLE (R427). -/
def Dev.sessIdle (s : Dev) : Dev :=
  if s.spanOver s.glade.idleAt (1000 * max 1 (s.fld GLB_SESS_CFG 15 0)) then s.sessClose 2 else s

/-- More than one command bit (R427). -/
def Dev.sessConflict (s : Dev) : Dev := s.setFld GLB_SESS_STAT 11 8 4

/-- Ten seconds without VERIFY (R427). -/
def Dev.challengeEnd (s : Dev) : Dev :=
  if s.sessState = 1 ∧ s.spanOver s.glade.chalAt 10000 then s.sessFail.raise 0x78 else s

/-- A write to GLB_SESS_CMD (R427). -/
def Dev.sessCommand (s : Dev) (v : Word) : Dev :=
  let w := v.toNat
  match bitsOf w 2 0 with
  | 0 => s
  | 1 => s.sessOpen (bitsOf w 5 3) (bitsOf w 8 6)
  | 2 => s.sessVerify
  | 4 => s.sessClose 1
  | _ => s.sessConflict

/-- A locked slot is free again in its last second (R427). -/
def Dev.slotUnlock (s : Dev) (k : Nat) : Dev :=
  if s.bit (GLB_SLOT k) 8 && decide (s.fld (GLB_SLOT k) 31 16 ≤ 1) then
    (s.setBit (GLB_SLOT k) 8 false).setFld (GLB_SLOT k) 31 16 0
  else s

/-- A second of device time passes: OP_S and LOCK_LEFT (R387, R427). -/
def Dev.gladeSecond (s : Dev) : Dev :=
  let s := s.cntWrap LOG_OP_S 31 0 1
  s.each (List.range 8) fun d k =>
    if d.bit (GLB_SLOT k) 8 then d.setFld (GLB_SLOT k) 31 16 (max 1 (d.fld (GLB_SLOT k) 31 16 - 1)) else d

/-- GO (R428). -/
def Dev.attRequest (s : Dev) (cert : Bool) : Dev :=
  if s.glade.att.isSome then s
  else { s with glade.att := some (cert, wordBytes ((List.range 4).map fun k => s.rd (GLB_ATT_NONCE k))) }

/-- The first 192 bytes of an attestation report (R428). -/
def Dev.attBytes (s : Dev) (nonce : List Byte) : List Byte :=
  let slots := ((List.range 8).map fun k => if s.fld (GLB_SLOT k) 1 0 = 0 then 0 else 2 ^ k).sum
  let taiS := if s.timeValid then (s.now / 1000000000).toNat else 0
  let dig (k : Nat) : List Byte := slice (s.glade.digests.getD k []) 0 16
  leBytes 1 0xA1 ++ leBytes 1 1 ++ leBytes 1 (s.unitNo + 16 * s.role)
    ++ leBytes 1 (s.fld GLB_HW_STAT 1 0 + 4 * bnat s.commissioned)
    ++ leBytes 4 (s.rd GLB_SN_LO).toNat ++ leBytes 4 (s.rd GLB_SN_HI).toNat ++ nonce ++ leBytes 6 taiS
    ++ leBytes 1 s.tstate ++ leBytes 1 (s.fld GLB_OWNER 7 0) ++ leBytes 3 (s.fld LOG_PWR_CYC 23 0) ++ leBytes 1 slots
    ++ leBytes 4 (s.rd LOG_OP_S).toNat ++ (List.range 3).map (fun k => BitVec.ofNat 8 (s.glade.rb.getD k 0)) ++ [0]
    ++ dig 0 ++ dig 1 ++ dig 2 ++ (List.range 96).map Config.custodyKeyByte

/-- The device certificate: the bytes that R428 fixes, the others as programmed at final test (log entry 12). -/
def Dev.certificate (s : Dev) : List Byte :=
  leBytes 1 0xA2 ++ leBytes 1 1 ++ [Config.certificateByte 2, 0] ++ leBytes 4 (s.rd GLB_SN_LO).toNat
    ++ leBytes 4 (s.rd GLB_SN_HI).toNat ++ (List.range 6).map (fun k => Config.certificateByte (12 + k)) ++ [0, 0]
    ++ (List.range 192).map fun k => Config.certificateByte (20 + k)

/-- The signed report, and the certificate, reach the host rings (R428, R446). -/
def Dev.attReport (s : Dev) : Dev :=
  match s.glade.att with
  | none => s
  | some (cert, nonce) =>
    let sig := (List.range 96).map (Config.signatureByte s.seq.freeCtr)
    let s := ({ s with glade.att := none } : Dev)
    let s := s.reportRouted 7 0 (s.attBytes nonce ++ sig) |>.spend
    let s := if cert then s.reportRouted 8 0 s.certificate else s
    (s.ev 0x100D 0 (u32 nonce 0)).raise 0x78

/-- A write to GLB_ENROL_CMD (R419). -/
def Dev.enrolCommand (s : Dev) (v : Word) : Dev :=
  let k := bitsOf v.toNat 1 0
  let s := if bitOf v.toNat 2 then s.enrolOwner k true else s
  if bitOf v.toNat 3 then s.revokeOwner k true else s

end Sys2Proof.Machine
end

