-- ==== Sys2Proof/Machine/HostIf.lean ====
section
/-! DEFINITION. The host interface: link resets, ring pairs, doorbells, descriptors, the reports of P4, MSI-X and the
ledger snapshot (R431 to R456). -/

namespace Sys2Proof.Machine

/-- A ring stops with an error: 1 command doorbell, 2 report doorbell, 3 fetch fault (R435, R451, R454). -/
def Dev.ringError (s : Dev) (p code : Nat) : Dev :=
  let a := HOST_PAIR_STAT p
  let s := ((s.setBit a 2 true).setFld a 4 3 code).setBit a (if code = 2 then 1 else 0) false
  let s := (s.ev 0x1102 p code).raise 0x80
  if code = 2 then s else s.raise (0x10 + p)

/-- EN of a command or report ring. -/
def Dev.ringEn (s : Dev) (p : Nat) (rep : Bool) : Bool := s.bit (if rep then HOST_REP_CFG p else HOST_CMD_CFG p) 8

/-- A command doorbell: TAIL, refused where it lies more than the ring size beyond HEAD (R433, R435). -/
def Dev.cmdBell (s : Dev) (p : Nat) (v : Word) : Dev :=
  let s := s.wr (DOORBELL p 0) v
  let t := bitsOf v.toNat 15 0
  let n := (t + 65536 - s.ringHead (HOST_CMD_PTR p)) % 65536
  if !s.ringEn p false then s
  else if ringSize (s.rd (HOST_CMD_CFG p)) < n then (if s.cmdRun p then s.ringError p 1 else s)
  else s.setFld (HOST_CMD_PTR p) 31 16 t

/-- A report doorbell: HEAD, refused where it lies beyond TAIL (R433, R435). -/
def Dev.repBell (s : Dev) (p : Nat) (v : Word) : Dev :=
  let s := s.wr (DOORBELL p 1) v
  let h := bitsOf v.toNat 15 0
  let a := HOST_REP_PTR p
  let n := (h + 65536 - s.ringHead a) % 65536
  if !s.ringEn p true then s
  else if s.ringCount a < n then (if s.repRun p then s.ringError p 2 else s)
  else s.setFld a 15 0 h

/-- EN = 1 is written to a ring: indices, and the report ring's SEQ, are zeroed and it runs (R434, R438). -/
def Dev.ringOn (s : Dev) (p : Nat) (rep : Bool) (v : Word) : Dev :=
  let cfg := if rep then HOST_REP_CFG p else HOST_CMD_CFG p
  let s := if s.bit cfg 8 then s else s.setFld cfg 3 0 v.toNat
  let s := (s.setBit cfg 8 true).wr (if rep then HOST_REP_PTR p else HOST_CMD_PTR p) 0
  let s := s.setBit (HOST_PAIR_STAT p) (bnat rep) true
  s.setPair p fun x =>
    if rep then { x with repSeq := 0, lastSeq := 0, dropped := 0, repOff := false }
    else { x with fetching := none, cmdOff := false }

/-- EN = 0 is written to a ring: it stops at the next tick boundary (R438). -/
def Dev.ringOff (s : Dev) (p : Nat) (rep : Bool) (v : Word) : Dev :=
  let cfg := if rep then HOST_REP_CFG p else HOST_CMD_CFG p
  if s.bit cfg 8 then
    (s.setBit cfg 8 false).setPair p fun x => if rep then { x with repOff := true } else { x with cmdOff := true }
  else s.setFld cfg 3 0 v.toNat

/-- A write to a ring's configuration (R438). -/
def Dev.ringConfig (s : Dev) (p : Nat) (rep : Bool) (v : Word) : Dev :=
  if bitOf v.toNat 8 then s.ringOn p rep v else s.ringOff p rep v

/-- CLR_ERR: the stopped rings of the pair resume, indices unchanged (R435). -/
def Dev.ringResume (s : Dev) (p : Nat) : Dev :=
  let a := HOST_PAIR_STAT p
  if s.bit a 2 then
    (((s.setBit a 2 false).setFld a 4 3 0).setBit a 0 (s.ringEn p false)).setBit a 1 (s.ringEn p true)
  else s

/-- Rings whose EN = 0 waits stop at a tick boundary (R438). -/
def Dev.ringStops (s : Dev) : Dev :=
  s.each (List.range 16) fun d p =>
    let x := d.pair p
    let d := if x.cmdOff then d.setBit (HOST_PAIR_STAT p) 0 false else d
    let d := if x.repOff then d.setBit (HOST_PAIR_STAT p) 1 false else d
    if x.cmdOff || x.repOff then d.setPair p fun y => { y with cmdOff := false, repOff := false } else d

/-- Start of P4: each running command ring fetches at most 16 descriptors (R436). -/
def Dev.hostFetch (s : Dev) : Dev :=
  s.each (List.range 16) fun d p =>
    let n := min 16 (d.ringCount (HOST_CMD_PTR p))
    if d.cmdRun p && (d.pair p).fetching.isNone && n != 0 then d.setPair p fun x => { x with fetching := some n } else d

/-- A descriptor fetch ends (R435 to R437). -/
def Dev.fetchEnd (s : Dev) (p : Nat) (ok : Bool) : Dev :=
  match (s.pair p).fetching with
  | none => s
  | some n =>
    let s := s.setPair p fun x => { x with fetching := none }
    if !s.cmdRun p then s
    else if !ok then s.ringError p 3
    else
      let a := HOST_CMD_PTR p
      let h := s.ringHead a
      let new := (List.range n).map fun k => (p, (h + k) % 65536)
      let s := { s with host.ready := sortBy (fun x y => decide (x.1 ≤ y.1)) (s.host.ready ++ new) }
      ((s.setFld a 15 0 (h + n)).writeback p).raise (0x10 + p)

/-- A fetched descriptor is latched, in the order of R436: ledger IN and HELD (R436, R453). -/
def Dev.latchDesc (s : Dev) (p idx : Nat) : Option Dev :=
  if s.host.ready.head? = some (p, idx) then
    let s := { s with host.ready := s.host.ready.tail }
    some ((s.cntWrap (HOST_LIVE p 4) 31 0 1).setFld (HOST_LIVE p 6) 31 0 (s.fld (HOST_LIVE p 6) 31 0 + 1))
  else none

/-- A descriptor of the ring's front is carried out by f; another changes nothing. -/
def Dev.withDesc (s : Dev) (p idx : Nat) (f : Dev → Dev) : Dev :=
  match s.latchDesc p idx with
  | some d => f d
  | none => s

/-- No operation (R439). -/
def Dev.nopDesc (s : Dev) (p idx : Nat) : Dev := s.withDesc p idx fun d => d.complete p 0x1F idx 0 0 0

/-- A descriptor of an unlisted TYPE (R439). -/
def Dev.badDesc (s : Dev) (p idx : Nat) (b : List Byte) : Dev :=
  s.withDesc p idx fun d => d.complete p (descType b) idx 1 0 0

/-- A setpoint target is listed (R440). -/
def setpointOk (t : Nat) : Bool := (decide (1 ≤ t) && decide (t ≤ 130)) || (decide (0x101 ≤ t) && decide (t ≤ 0x17F))

/-- One entry of a setpoint descriptor, taken by the next P0 latch (R98, R440). -/
def Dev.setpointPut (s : Dev) (e : Nat × Word) : Dev :=
  let v := e.2 &&& BitVec.ofNat 32 pbvMask
  if e.1 ≤ 130 then s.setGen e.1 fun g => { g with descNew := some v }
  else s.wr (LOOP_CTX_SPCONST (e.1 - 0x100)) v

/-- A setpoint descriptor (R440). -/
def Dev.setpointDesc (s : Dev) (p idx : Nat) (b : List Byte) : Dev :=
  s.withDesc p idx fun d =>
    let n := u8 b 1
    let es := (List.range n).map (setpointEntry b)
    if n = 0 ∨ 3 < n ∨ !es.all (fun e => setpointOk e.1) then d.complete p 0x30 idx 2 0 0
    else (d.each es Dev.setpointPut).endDesc p 0

/-- A release that a refused command asked for has ended with a code, without a lane that ran it (R196, R201). -/
def Dev.releaseRefused (s : Dev) (slot l code : Nat) : Dev :=
  if code = 5 then s
  else if code = 4 ∨ 4 < slot then (s.cntSat GROVE_ERR_TOTAL 31 0 1).ev 0x0601 0xFF code
  else s.countInvalid l code

/-- A refused Grove command: event, ledger, and the code in a result record (R198 to R201, R453). -/
def Dev.groveRefused (s : Dev) (p slot code : Nat) (tag : Word) (release : Bool) : Dev :=
  let l := s.fld GROVE_HOST_MAP (6 * slot + 4) (6 * slot)
  let s := if release then s.releaseRefused slot l code else s
  let r := [0x61, BitVec.ofNat 8 (code + 16 * codeClass code), BitVec.ofNat 8 (slot % 8), BitVec.ofNat 8 (if slot ≤ 4 then l else 255)]
    ++ leBytes 4 tag.toNat ++ leBytes 4 s.cycles ++ leBytes 4 (stamp32 s.now).toNat ++ List.replicate 16 0
  let s := (s.ev 0x0606 slot code).endCount p 7
  { s with grove.records := s.grove.records ++ [(p, r)] }

/-- The LOAD of a Grove command descriptor, or a busy lane's refusal (R173, R196, R441). -/
def Dev.groveDescLoad (s : Dev) (op l : Nat) (b : List Byte) : Dev × Nat :=
  if op = 1 then s.groveLoadOp l (u8 b 3 % 8) (bitOf (u8 b 3) 3) (u8 b 4) (u8 b 5)
  else if s.laneState l = 2 then (s.groveRefuse, 6) else (s, 0)

/-- The entries of a Grove command descriptor, and the code of the first that is refused (R195). -/
def Dev.groveDescEntries (s : Dev) (l : Nat) (es : List GroveEntryIn) : Dev × Nat :=
  es.foldl (fun (a : Dev × Nat) e =>
    let r := a.1.groveEntryOp l e
    (r.1, if a.2 = 0 then r.2 else a.2)) (s, 0)

/-- A Grove command descriptor (R198, R199). -/
def Dev.groveDesc (s : Dev) (p idx : Nat) (b : List Byte) (entries : List GroveEntryIn) : Dev :=
  s.withDesc p idx fun d =>
    let op := u8 b 1 % 16
    let slot := u8 b 2 % 8
    let tag := BitVec.ofNat 32 (u32 b 8)
    let iter := u16 b 6
    let l := d.fld GROVE_HOST_MAP (6 * slot + 4) (6 * slot)
    if op = 0 ∨ 3 < op ∨ 4 < slot ∨ 1023 < iter ∨ 24576 < u32 b 20 ∨ (op = 3 ∧ (u8 b 24 = 0 ∨ 80 < u8 b 24)) then
      (d.groveRefuse).groveRefused p slot 7 tag (op == 3)
    else if !d.bit GROVE_HOST_MAP (6 * slot + 5) then (d.groveRefuse).groveRefused p slot 4 tag (op == 3)
    else
      let r := d.groveDescLoad op l b
      if r.2 ≠ 0 then r.1.groveRefused p slot r.2 tag (op == 3)
      else
        let it := if iter = 0 then max 1 (r.1.fld GROVE_CFG 9 0) else iter
        let d := if op = 1 then r.1.setLane l fun x => { x with iterMax := it } else r.1
        let r := d.groveDescEntries l (entries.take (u32 b 20))
        if op ≠ 3 then if r.2 ≠ 0 then r.1.groveRefused p slot r.2 tag false else r.1.endDesc p 0
        else
          let d := (r.1.wr (GROVE_LANE_TAG l) tag).setLane l fun x =>
            { x with pair := some p, dlTicks := u8 b 24, iterMax := it }
          let r := d.groveStart l (bitOf (u8 b 1) 4) 0
          if r.2 ≠ 0 then (r.1.setLane l fun x => { x with pair := none }).groveRefused p slot r.2 tag true else r.1

/-- The frame of a CAN transmit descriptor (R441). -/
def Dev.descFrame (s : Dev) (c : Nat) (b far : List Byte) : CanFrame :=
  let w := u32 b 4
  let dlc := u8 b 2 % 16
  let ide := bitOf w 29
  let fdf := bitOf w 30 && (s.canc c).fd
  { id := BitVec.ofNat 29 (if ide then w else w % 2048), ide := ide, fdf := fdf, brs := fdf && bitOf w 31, esi := false,
    dlc := BitVec.ofNat 4 dlc, data := slice (if dlc ≤ 10 then b.drop 16 else far) 0 (dlcBytes fdf dlc) }

/-- A CAN transmit descriptor (R441). -/
def Dev.canDesc (s : Dev) (p idx : Nat) (b far : List Byte) : Dev :=
  s.withDesc p idx fun d =>
    let c := u8 b 1 % 8
    if bitOf (u8 b 1) 3 then (d.tb2Cancel c).complete p 0x90 idx 0 (descTag b) 0
    else if (d.canc c).tb2.isSome then d.complete p 0x90 idx 3 (descTag b) 0
    else d.tb2Put c { frame := d.descFrame c b far, host := some (p, idx, 0x90, descTag b) }

/-- An image descriptor (R443). -/
def Dev.imageDesc (s : Dev) (p idx : Nat) (b image : List Byte) : Dev :=
  s.withDesc p idx fun d => d.byGlade fun d => d.takeImage (image.take (u32 b 4)) (p, idx, descTag b)

/-- Data copied to a host buffer (R442). -/
def Dev.copyOut (s : Dev) (addr : Nat) (b : List Byte) : Dev := { s with host.copied := (addr, b) :: s.host.copied }

/-- A Thicket readout (R383, R442). -/
def Dev.thicketDesc (s : Dev) (p idx : Nat) (b : List Byte) (bad : List Nat) (corr : Nat) : Dev :=
  s.withDesc p idx fun d =>
    let first := u32 b 4
    let count := u32 b 20
    if count = 0 ∨ 262144 < first + count ∨ descAddr b % 32 ≠ 0 then d.complete p 0xD8 idx 2 (descTag b) 0
    else
      let (d, out) := d.readPoints first count bad corr
      (d.copyOut (descAddr b) out).complete p 0xD8 idx 0 (descTag b) count

/-- A recorder readout (R442). -/
def Dev.recorderDesc (s : Dev) (p idx : Nat) (b : List Byte) : Dev :=
  s.withDesc p idx fun d =>
    let count := u32 b 20
    if !d.sessOk 4 then d.complete p 0xE8 idx 4 (descTag b) 0
    else if count = 0 ∨ descAddr b % 32 ≠ 0 then d.sessUse.complete p 0xE8 idx 2 (descTag b) 0
    else
      let rs := ((d.recorderSource (u8 b 1 % 4)).drop (u32 b 4)).take count
      (d.sessUse.copyOut (descAddr b) rs.flatten).complete p 0xE8 idx 0 (descTag b) rs.length

/-- Vector and EN of a source's mapping (R455). -/
def Dev.mapOf (s : Dev) (src : Nat) : Nat := s.fld (HOST_EVT_MAP (src / 4)) (8 * (src % 4) + 7) (8 * (src % 4))

/-- An enabled source mapped to a vector is pending (R452). -/
def Dev.vectorWanted (s : Dev) (v : Nat) : Bool :=
  (List.range 256).any fun n => s.bit (HOST_EVT_PEND (n / 32)) (n % 32) && bitOf (s.mapOf n) 7 && s.mapOf n % 32 == v

/-- The message of a vector is sent: ARMED clears (R452). -/
def Dev.vectorSend (s : Dev) (v : Nat) : Dev :=
  ({ s with host.msgs := v :: s.host.msgs, host.msgAt := setAt s.host.msgAt v (some s.seq.cyc) } : Dev).setBit
    HOST_VEC_ARMED v false

/-- MOD_US may have passed since the vector's previous message, by the end of the present tick (R452). -/
def Dev.modOver (s : Dev) (v : Nat) : Bool :=
  match s.host.msgAt.getD v none with
  | none => true
  | some t => decide (625 * s.fld (HOST_VEC_MOD v) 9 0 < 2 * (s.seq.cyc + 117188 - t))

/-- An armed vector with a pending enabled source, MOD_US after its previous message: its message, or its PBA bit where it
is masked (R452). -/
def Dev.vectorFire (s : Dev) (v : Nat) : Dev :=
  if s.vectorWanted v && s.bit HOST_VEC_ARMED v && s.modOver v then
    if s.bit (MSIX_TAB v 3) 0 then s.setBit MSIX_PBA v true else s.vectorSend v
  else s

/-- HOST_VEC_ACK (R452). -/
def Dev.vectorArm (s : Dev) (v : Word) : Dev := s.wr HOST_VEC_ARMED (s.rd HOST_VEC_ARMED ||| v)

/-- A vector is unmasked, and a message that waited goes (R452). -/
def Dev.vectorOpen (s : Dev) (v : Nat) : Dev :=
  let s := s.setBit (MSIX_TAB v 3) 0 false
  if s.bit MSIX_PBA v then (s.setBit MSIX_PBA v false).vectorSend v else s

/-- A reset of the HOST block alone: 1 link down, 2 hot reset, 3 FLR, 4 D3hot (R432, R454). -/
def Dev.hostReset (s : Dev) (why : Nat) : Dev :=
  let s := s.each (List.range 16) fun d p =>
    let d := ((d.setBit (HOST_CMD_CFG p) 8 false).setBit (HOST_REP_CFG p) 8 false).wr (HOST_PAIR_STAT p) 0
    let d := d.each (List.range 8) fun e k => e.wr (HOST_LIVE p k) 0
    d.setPair p fun x => { x with fetching := none, cmdOff := false, repOff := false, dropped := 0 }
  let s := (s.wr (HOST_ROUTE 0) 0).wr (HOST_ROUTE 1) 0
  let s := s.each (List.range 64) fun d k => d.wr (HOST_EVT_MAP k) 0
  let s := s.each (List.range 8) fun d k => d.wr (HOST_EVT_PEND k) 0
  let s := s.wr HOST_VEC_ARMED 0xFFFFFFFF
  let s := { s with host.ready := [] }
  let s := if why = 1 then s.setFld HOST_STAT 4 0 0 else s
  s.ev 0x1104 why (s.fld HOST_STAT 4 2 * 16 + s.fld HOST_STAT 1 0)

/-- The PCIe link trains up: boot's wait for host images starts anew (R424, R432, R454, R455). -/
def Dev.hostLinkUp (s : Dev) (width speed : Nat) : Dev :=
  let s := (s.setFld HOST_STAT 1 0 speed).setFld HOST_STAT 4 2 width
  let s := if s.glade.waiting then { s with glade.waitAt := s.seq.cyc } else s
  s.ev 0x1104 5 (width * 16 + speed)

/-- The loop snapshot of a cycle report (R447). -/
def Dev.loopRecord (s : Dev) : List Byte :=
  let cs := ctxNums.filter fun c => s.rate c != 0
  [0x20, 1, BitVec.ofNat 8 cs.length] ++ List.replicate 13 0 ++ cs.flatMap fun c =>
    leBytes 1 c ++ leBytes 1 (s.fld (LOOP_CTX_STAT c) 7 0 / 16 * 16 + s.ctxState c) ++ [0, 0]
      ++ leBytes 4 (s.rd (LOOP_CTX_OUTV c)).toNat ++ leBytes 4 (s.rd (LOOP_CTX_INTV c)).toNat
      ++ leBytes 4 (s.rd (LOOP_CTX_ERRV c)).toNat

/-- The cycle report of tick 76 (R446, R447). -/
def Dev.cycleReport (s : Dev) : Dev :=
  let est := s.estState != 0
  let alloc := s.allocState != 0
  let meas := s.gnss.records
  let content := 1 + 2 * bnat est + 4 * bnat alloc + 8 + 16 * bnat (meas != [])
  let body := padSlots s.loopRecord ++ (if est then padSlots s.estReport else [])
    ++ (if alloc then padSlots s.allocRecord else []) ++ padSlots s.acqReport ++ meas.flatMap padSlots
  let formed := (s.routed 1).isSome
  let s := s.reportRouted 1 content body
  if formed then s.acqReported else s

/-- The time message of the last pulse (R221, R446). -/
def Dev.timeMessage (s : Dev) : Dev :=
  if s.gnss.msgDue then
    let b := s.timeMsgBytes
    let s := s.reportRouted 3 0 b
    ({ s with gnss.msgDue := false, gnss.timeMsg := b } : Dev).sendUdp (bitsOf s.gnss.set.udp.toNat 15 0) b
  else s

/-- Grove result records go to their pairs (R200, R446, R453). -/
def Dev.groveRecords (s : Dev) : Dev :=
  let rs := s.grove.records
  ({ s with grove.records := [] } : Dev).each rs fun d r => d.report r.1 11 0 r.2

/-- The ledger snapshot (R453, R455). -/
def Dev.snapshot (s : Dev) : Dev :=
  let s := s.each (List.range 16) fun d p =>
    d.each (List.range 8) fun e k => if e.rd (HOST_SNAP p k) = e.rd (HOST_LIVE p k) then e else e.wr (HOST_SNAP p k) (e.rd (HOST_LIVE p k))
  let cp (d : Dev) (n k a : Nat) : Dev := if d.rd (HOST_SNAP_LDG n k) = d.rd a then d else d.wr (HOST_SNAP_LDG n k) (d.rd a)
  let s := s.each (List.range 8) fun d n =>
    cp (cp (cp (cp d n 0 (CAN_LEDGER_IN n)) n 1 (CAN_LEDGER_OUT n)) n 2 (CAN_LEDGER_HELD n)) n 3 (CAN_LEDGER_DROP n)
  let s := s.each (List.range 4) fun d k =>
    cp (cp (cp d 8 k (THKT_LEDGER k)) 9 k (THKT_CREC k)) 10 k (LOG_LEDGER k)
  s.wrN HOST_LDG_TICK (s.tick + 256 * (s.cycles % 2 ^ 24))

/-- P4 (R28, R436, R446, R453): fetch, reports, snapshot. -/
def Dev.hostP4 (s : Dev) (n : Nat) : Dev :=
  let s := s.hostFetch.groveRecords
  let s := if n = 64 ∧ s.allocState ≠ 0 then s.reportRouted 2 0 s.alloc.record else s
  let s := if n = 76 then s.cycleReport else s
  s.logReports.snapshot

end Sys2Proof.Machine
end

