-- ==== Sys2Proof/Machine/Rst.lean ====
section
/-! DEFINITION. Resets, clocks and straps (chapter 18): sources, the window, what each kind keeps, the release. -/

namespace Sys2Proof.Machine

/-- Bits of a register that a reset leaves as they were (R463). -/
def Dev.keepReg (s old : Dev) (a mask : Nat) : Dev :=
  let m := BitVec.ofNat 32 mask
  s.wr a ((s.rd a &&& ~~~m) ||| (old.rd a &&& m))

/-- Rollback fuses after a burn that a reset cuts short: a value between the old one and the image's (R423). -/
def Dev.burnCut (s : Dev) : List Nat :=
  match s.glade.burns with
  | [] => s.glade.rb
  | j :: _ => modAt s.glade.rb (j.typ - 1) fun n => n + Config.burnCut s.seq.freeCtr % (imgRollback j.bytes - n + 1)

/-- What lies outside every reset: fuses, the NOR, the glass, Understory, and what the host has received. -/
def Dev.bare (s : Dev) : Dev :=
  let l := s.log
  let g := s.glade
  let u := s.safe
  { seq := { freeCtr := s.seq.freeCtr + 1 },
    log := { pinEv := l.pinEv, pinCr := l.pinCr, evAt := l.evAt, crAt := l.crAt, circ := l.circ, cur := l.cur,
             ahead := l.ahead, bad := l.bad, erases := l.erases, saved := l.saved, ev90 := l.ev90, cr90 := l.cr90 },
    blz := { journal := s.blz.journal, glass := s.blz.glass, saved := s.blz.saved },
    glade := { owner := g.owner, enrolled := g.enrolled, revoked := g.revoked, rb := s.burnCut, store := g.store },
    host := { out := s.host.out, copied := s.host.copied, msgs := s.host.msgs },
    net := { a := { sent := s.net.a.sent }, b := { sent := s.net.b.sent } },
    safe := {
      chan := u.chan.map fun (x : SafeChan) => { ust := x.ust },
      canopyLatch := u.canopyLatch, ustLatch := u.ustLatch, ustOn := u.ustOn, ustSw := u.ustSw, ustAnn := u.ustAnn,
      ustAlive := u.ustAlive, ustSusp := u.ustSusp, ustParity := u.ustParity },
    rst := { run := s.rst.run, low := s.rst.low, subsys := s.rst.subsys, fused := s.rst.fused, stopped := s.rst.stopped } }

/-- Registers that the latched cause of Deadfall stands in (R355, R362). -/
def Dev.keepDeadfall (s old : Dev) : Dev :=
  ((s.keepReg old SAFE_STAT 0x1FF00).keepReg old SAFE_DF_STAMP allMask).keepReg old SAFE_DF_ERA allMask

/-- Retained by a cold and by a warm reset (R461, R463). -/
def Dev.keepCold (s old : Dev) : Dev :=
  let s := s.each [RST_CAUSE, RST_LAST, RST_COUNT, RST_CRIT, RST_CLK_STAT, SAFE_CNT, LOG_PWR_CYC, LOG_OP_S, PIN_FUSE0]
    fun d a => d.keepReg old a allMask
  let s := (s.keepDeadfall old).keepReg old RST_DOM_STAT 0x401
  let s := s.each (List.range 8) fun d k => d.keepReg old (GLB_SLOT k) 0xFFFF01E0
  let s := { s with log.wearSaid := old.log.wearSaid, log.pwrNew := old.log.pwrNew,
                    thkt.count := old.thkt.count, thkt.queue := old.thkt.queue }
  s.showQueue.wrN (THKT_CREC 0) s.thkt.queue.length

/-- Retained by a warm reset besides: locked PLLs and Duff's records (R463). -/
def Dev.keepWarm (s old : Dev) : Dev :=
  let o := old.log
  let s := { s.keepReg old RST_DOM_STAT 0x300 with
    log.duff := o.duff, log.waiting := o.waiting, log.wr := o.wr, log.pin := o.pin, log.raised := o.raised }
  let s := s.showLog
  s.wr (LOG_LEDGER 0) (s.rd (LOG_LEDGER 2))

/-- A reset of a kind takes effect: 0 power-on, 1 cold, 2 warm (R461, R463). -/
def Dev.wipe (s : Dev) (kind : Nat) : Dev :=
  let n := s.bare
  if kind = 0 then { n with rst.fused := false, rst.stopped := 0 } else if kind = 1 then n.keepCold s else (n.keepCold s).keepWarm s

/-- RST_LAST of the reset that starts (R474). -/
def Dev.rstLast (s : Dev) (r : RstRun) : Dev := s.wrN RST_LAST (r.src + 16 * r.kind + 256 * r.bo)

/-- A reset source arises (R457, R460): a higher kind restarts the sequence, any other is absorbed. -/
def Dev.rstSource (s : Dev) (bits src kind bo : Nat) : Dev :=
  let s := s.orMask RST_CAUSE bits
  match s.rst.run with
  | none =>
    let r : RstRun := { bits := bits, src := src, kind := kind, bo := bo }
    ({ s with rst.run := some r } : Dev).rstLast r
  | some r =>
    let r := { r with bits := r.bits ||| bits, bo := r.bo ||| bo }
    let r := if kind < r.kind then { r with src := src, kind := kind, taken := false } else r
    ({ s with rst.run := some r } : Dev).rstLast r

/-- Tick watchdog (R34). -/
def Dev.tickWatchdog (s : Dev) : Dev := s.rstSource 16 4 2 0

/-- Glade watchdog (R415). -/
def Dev.gladeWatchdog (s : Dev) : Dev := s.rstSource 8 3 2 0

/-- A critical error: SRC 1 Heartwood, 2 context store, 3 configuration flops (R76, R337, R457, R474). -/
def Dev.criticalError (s : Dev) (src addr : Nat) : Dev :=
  (s.wrN RST_CRIT (addr % 65536 + 65536 * src)).rstSource (2 ^ (4 + src)) 5 2 0

/-- Supplies trip (R458). -/
def Dev.brownOut (s : Dev) (mask : Nat) : Dev :=
  if mask = 0 then s else ({ s with rst.low := s.rst.low ||| mask } : Dev).rstSource 2 1 1 mask

/-- Supplies release (R458). -/
def Dev.brownOutEnd (s : Dev) (mask : Nat) : Dev := { s with rst.low := s.rst.low.land (mask.xor 63) }

/-- RST_N low for 25 REFCLK cycles (R457). -/
def Dev.rstPin (s : Dev) : Dev := s.rstSource 4 2 1 0

/-- VDD_CORE below 0.45 V: no window; Understory has lost its supply too, or runs on (R356, R457, R461, R463). -/
def Dev.powerOn (s : Dev) (ustDown : Bool) : Dev :=
  let n := s.wipe 0
  let n := if ustDown then
      { n with safe.canopyLatch := false, safe.ustLatch := false, safe.ustOn := false, safe.ustAlive := false,
               safe.chan := List.replicate 32 {} }
    else n.keepDeadfall s
  { n with rst.run := some { bits := 1, src := 0, kind := 0, taken := true } }

/-- The announcement of a reset, and the window (R359, R461). -/
def Dev.resetAnnounce (s : Dev) : Dev :=
  match s.rst.run with
  | none => s
  | some r => if r.taken then s else s.safeAnnounce.mergeAll.groveAbort

/-- The reset takes effect (R461). -/
def Dev.resetTakeEffect (s : Dev) : Dev :=
  match s.rst.run with
  | none => s
  | some r =>
    if r.taken then s
    else { s.wipe r.kind with rst.run := some { r with taken := true } }

/-- The domains of both PLLs are held, at a loss of the clock or of lock (R462). -/
def Dev.clockHeld (s : Dev) : Dev :=
  let held := s.rst.run.elim false fun r => r.taken && decide (r.kind ≤ 1)
  if held then s.clrMask RST_DOM_STAT 0x3FE
  else
    let bits := s.rst.run.elim 0 fun r => r.bits
    let bo := s.rst.run.elim 0 fun r => r.bo
    let r : RstRun := { bits := bits, src := 6, kind := 1, bo := bo, taken := true }
    (({ s.safeAnnounce.wipe 1 with rst.run := some r } : Dev).rstLast r).clrMask RST_DOM_STAT 0x3FE

/-- REFCLK is lost (R462). -/
def Dev.clockLoss (s : Dev) : Dev :=
  if s.bit RST_DOM_STAT 10 then s
  else ((s.cntSat RST_CLK_STAT 23 16 1).clockHeld).setBit RST_DOM_STAT 10 true

/-- CLK_LOST joins the causes of the reset in progress (R462). -/
def Dev.clockCause (s : Dev) (outage : Option Nat) : Dev :=
  match s.rst.run with
  | none => s
  | some r =>
    let r := { r with bits := r.bits ||| 256, outage := outage.orElse fun _ => r.outage }
    { s.orMask RST_CAUSE 256 with rst.run := some r }

/-- REFCLK has been back for 10 ms: the cold reset of a clock return (R462). -/
def Dev.clockReturn (s : Dev) (outage : Nat) : Dev :=
  if s.bit RST_DOM_STAT 10 then (s.setBit RST_DOM_STAT 10 false).clockCause (some outage) else s

/-- Domains of the PLLs are released once the REFCLK domain is and both PLLs have locked, but for one whose own clock has
stopped, with the pins that this configures (R464, R472, R492). -/
def Dev.showDoms (s : Dev) : Dev :=
  if s.bit RST_DOM_STAT 0 && s.rst.run.isNone && s.bit RST_DOM_STAT 8 && s.bit RST_DOM_STAT 9 then
    let rel (k : Nat) : Nat := if bitOf s.rst.stopped k then 0 else 1
    let dom := ((List.range 7).map fun k => 2 ^ (k + 1) * rel (k + 1)).sum
    (s.orMask RST_DOM_STAT dom).orMask PIN_CFGD (16 * rel 6 + 256 * rel 1 + 8192 * rel 7)
  else s

/-- A PLL loses lock while REFCLK is present (R462, R467). -/
def Dev.pllLoss (s : Dev) (g : Bool) : Dev :=
  if s.bit RST_DOM_STAT (8 + bnat g) && !s.bit RST_DOM_STAT 10 then
    (s.cntSat RST_CLK_STAT (7 + 8 * bnat g) (8 * bnat g) 1).clockHeld
  else s

/-- A PLL locks (R464, R467). -/
def Dev.pllLock (s : Dev) (g : Bool) : Dev :=
  if s.bit RST_DOM_STAT 10 then s
  else
    let s := s.setBit RST_DOM_STAT (8 + bnat g) true
    let s := if s.rst.run.elim false fun r => r.src == 6 then s.clockCause none else s
    s.showDoms

/-- Code that a reading of a resistor strap is accepted for (R469). -/
def strapReading (q : Nat) : Option Nat :=
  if q ≤ 1 then some 0 else if 254 ≤ q then some 15
  else if 2 ≤ q % 16 ∧ q % 16 ≤ 13 then some (q / 16) else none

/-- Code of a resistor strap: every reading gives the same accepted code (R469). -/
def strapCode (qs : List Nat) : Option Nat :=
  match qs with
  | [] => none
  | q :: _ =>
    match strapReading q with
    | none => none
    | some c => if qs.all fun x => strapReading x == some c then some c else none

/-- What a release reads from the straps: BOOTSEL, CLKMODE, ROLESEL and UNITSEL codes, and the straps not taken with
their readings (R468 to R470). -/
structure StrapRead where
  boot : Nat
  clk : Nat
  role : Option Nat
  unit : Option Nat
  roleQ : Nat
  unitQ : Nat
  bad : List (Nat × Nat)
  deriving DecidableEq, Repr

def readStraps (st : StrapIn) : StrapRead :=
  let role := strapCode st.roleQ
  let unit := (strapCode st.unitQ).filter fun c => c != 15
  let rq := st.roleQ.getLast?.getD 0 % 256
  let uq := st.unitQ.getLast?.getD 0 % 256
  { boot := if st.bootAgree then st.bootsel.toNat else 0
    clk := if st.clkAgree then st.clkmode.toNat else 0
    role := role, unit := unit, roleQ := rq, unitQ := uq
    bad := (if role.isNone then [(0, rq)] else []) ++ (if unit.isNone then [(1, uq)] else [])
      ++ (if st.bootAgree then [] else [(2, 0)]) ++ (if st.clkAgree then [] else [(3, 0)]) }

/-- RST_STRAP (R474). -/
def strapWord (x : StrapRead) : Nat :=
  x.boot + 4 * x.clk + 16 * x.role.getD (x.roleQ / 16) + 256 * x.unit.getD (x.unitQ / 16)
    + 4096 * bnat x.role.isNone + 8192 * bnat x.unit.isNone + 65536 * x.roleQ + 16777216 * x.unitQ

/-- The fuse shadow is loaded (R309, R430, R471). -/
def Dev.loadFuses (s : Dev) (fu : FuseIn) : Dev :=
  let mac := beBytes 6 fu.mac.toNat
  let s := s.wrN PIN_FUSE0 (0xD8000000 + fu.pin.toNat)
  let s := (s.wrN NET_MAC_HI (leNat (mac.take 2))).wrN NET_MAC_LO (leNat (mac.drop 2))
  let s := (s.wrN GLB_SN_LO (fu.sn.toNat % 2 ^ 32)).wrN GLB_SN_HI (fu.sn.toNat / 2 ^ 32)
  ({ s with rst.subsys := fu.subsys, rst.fused := true } : Dev).showFuses

/-- A power-on counts, and OP_S resumes from the saved value (R387). -/
def Dev.countPower (s : Dev) : Dev :=
  (s.setFld LOG_PWR_CYC 23 0 (satAdd 24 s.log.saved.1 1)).wrN LOG_OP_S s.log.saved.2

/-- The events of a reset, before any other record of the new run (R476, R311). -/
def Dev.resetEvents (s : Dev) (r : RstRun) (x : StrapRead) (role : Option Nat) : Dev :=
  let s := s.ev 0x0101 r.kind r.bits
  let s := if bitOf r.bits 4 then s.ev 0x0110 0 0 else s
  let s := if bitOf r.bits 1 then s.ev 0x0102 r.bo 0 else s
  let s := if bitOf r.bits 5 || bitOf r.bits 6 || bitOf r.bits 7 then
      s.ev 0x0103 (s.fld RST_CRIT 17 16) (s.fld RST_CRIT 15 0) else s
  let s := match r.outage with
    | some t => s.ev 0x0104 0 (min (2 ^ 32 - 1) t)
    | none => s
  let s := s.each x.bad fun d b => d.ev 0x0105 b.1 b.2
  if role.isNone then s.ev 0x0B0A 0 (s.fld RST_STRAP 7 4) else s

/-- The condition has ended: straps, fuses and the release of the domains (R464, R468 to R471). -/
def Dev.resetRelease (s : Dev) (st : StrapIn) (fu : FuseIn) : Dev :=
  match s.rst.run with
  | none => s
  | some r =>
    if !r.taken || s.rst.low != 0 || s.bit RST_DOM_STAT 10 then s
    else
      let x := readStraps st
      let r := if x.bad = [] then r else { r with bits := r.bits ||| 512 }
      let role := x.role.filter fun c => decide (c ≤ 3)
      let s := s.orMask RST_CAUSE (r.bits.land 512)
      let s := (s.wrN RST_STRAP (strapWord x)).loadFuses fu
      let s := if r.kind = 0 then s.countPower else s.cntSat RST_COUNT 15 0 1
      let s := ({ s with rst.run := none } : Dev).setBit RST_DOM_STAT 0 true
      let s := (s.showDoms.standStart role (x.unit.getD 15)).resetEvents r x role
      s.safeRelease

end Sys2Proof.Machine
end

