-- ==== Sys2Proof/Machine/Flags.lean ====
section
/-! DEFINITION. Flags of the sequencer: GLB_TICK_STAT, GLB_OVR_STAT, GLB_TICK_LOAD, and the count of contexts in Run
(R22, R24, R33, R35, R42, R81). The flags of the other blocks stand with the meanings that set them. -/

namespace Sys2Proof.Machine

/-- ALIGNED: the phase error's magnitude is at most 1 µs (R42). -/
def alignedFlag (e : Rat) : Bool := decide (absRat e ≤ 1000)

/-- FREE_RUN and ALIGNED (R24, R42). -/
def Dev.showAlign (s : Dev) (free aligned : Bool) : Dev :=
  (s.setBit GLB_TICK_STAT 10 free).setBit GLB_TICK_STAT 8 aligned

/-- TICK and SLEWING (R42). -/
def Dev.showTick (s : Dev) (n : Nat) (slewing : Bool) : Dev :=
  (s.setFld GLB_TICK_STAT 6 0 n).setBit GLB_TICK_STAT 9 slewing

/-- An overrun: its bit, OVR_TOTAL and its event (R33). -/
def Dev.overrunFlag (s : Dev) (bit code p1 p2 : Nat) : Dev :=
  ((s.setBit GLB_OVR_STAT bit true).cntSat GLB_OVR_CNT 15 0 1).ev code p1 p2

/-- Occupancy of a phase: a phase that overruns counts to its end (R35). -/
def phaseLoad (length measured : Nat) (missed : List Nat) : Nat := if missed = [] then measured else length

/-- P1_MAX and P2_MAX (R35). -/
def Dev.showLoad (s : Dev) (p1 p2 : Nat) : Dev :=
  (s.setFld GLB_TICK_LOAD 31 16 (max (s.fld GLB_TICK_LOAD 31 16) (min 65535 p1))).setFld GLB_TICK_LOAD 15 0
    (max (s.fld GLB_TICK_LOAD 15 0) (min 65535 p2))

/-- RUN_CNT (R81). -/
def Dev.showRun (s : Dev) : Dev := s.setFld LOOP_ENG_STAT 6 0 s.runCnt

end Sys2Proof.Machine
end

