-- ==== Sys2Proof/Machine/Sequencer.lean ====
section
/-! DEFINITION. The sequencer: mode machine, alignment, overruns and the registers that command it (R20 to R38). -/

namespace Sys2Proof.Machine

/-- A write of CMD is held until the boundary; 0 and 3 do nothing (R38). -/
def Dev.modeCommand (s : Dev) (cmd : Nat) : Dev :=
  if cmd = 1 ∨ cmd = 2 then { s with seq.heldCmd := cmd } else s

/-- CLEAR of GLB_TICK_LOAD_CLR waits for the tick boundary (R35). -/
def Dev.loadClear (s : Dev) : Dev := { s with seq.loadClr := true }

/-- Reasons for which Operate is refused (R38, R499). -/
def Dev.operateRefused (s : Dev) : Nat :=
  bnat (!s.commissioned) + 2 * bnat (s.roleBad || s.role == 2) + 4 * bnat (s.unitNo == 15)

/-- Mode after a boundary with the command taken there (R38). -/
def Dev.nextMode (s : Dev) (cmd : Nat) : Nat :=
  match s.mode with
  | 0 => if cmd = 1 ∧ s.operateRefused = 0 then 1 else 0
  | 1 => if cmd = 2 ∨ !s.commissioned then 0 else 2
  | _ => if cmd = 2 ∨ !s.commissioned then 0 else 2

/-- What a mode change does (R38, R72, R157). -/
def Dev.enterMode (s : Dev) (new : Nat) : Dev :=
  match new with
  | 0 => s.loopLeave.allocWatch
  | 1 => s.allocArming
  | _ => s.loopEnter.axesEnter.allocOperate

/-- The mode at a boundary (R38): the held command is taken. -/
def Dev.modeStep (s : Dev) : Dev :=
  let cmd := s.seq.heldCmd
  let old := s.mode
  let new := s.nextMode cmd
  let why := s.operateRefused
  let s := { s with seq.heldCmd := 0 }
  if new = old then
    if old = 0 ∧ cmd = 1 then s.ev 0x0113 why 1 else s
  else ((s.setFld GLB_MODE_STAT 1 0 new).ev 0x0112 old new).enterMode new

/-- Phase error: the boundary minus the nearest aligned one, above -10 ms and up to +10 ms (R21). -/
def phaseError (t : Rat) : Rat :=
  let pos := t - 20000000 * ((t / 20000000).floor : Rat)
  if pos ≤ 10000000 then pos else pos - 20000000

/-- STEP_THRESH in ns; 0 acts as 1 µs (R42). -/
def stepThresh (cfg : Word) : Rat := ((1000 * max 1 (bitsOf cfg.toNat 31 16) : Nat) : Rat)

/-- Number of the adjusted tick of a step and its length in ns, for a step instant at pos in the aligned cycle (R23). -/
def stepTick (pos : Rat) : Nat × Rat :=
  let n := (pos / 250000).floor.toNat
  let r := 250000 - (pos - 250000 * (n : Rat))
  if r < 125000 then ((n + 1) % 80, r + 250000) else (n % 80, r)

/-- The step of R23: the Grove's work is discarded and the adjusted tick waits to run. Parameter 2 of the event is rounded
to whole ns as GLB_TICK_PHASE is (log entry 83). -/
def Dev.seqStep (s : Dev) (e : Rat) : Dev :=
  let t := s.clk.localNs
  let (n, r) := stepTick (t - 20000000 * ((t / 20000000).floor : Rat))
  let s := { s with seq.nextTick := n, seq.adjLen := some r, seq.slewTicks := 0, seq.abortGrove := true }
  (s.groveAbort.evI 0x0111 n (roundRat e)).showAlign false false

/-- The slew of the cycle that begins (R22). -/
def Dev.seqSlew (s : Dev) (e : Rat) : Dev :=
  { s with seq.slewTicks := min 80 (absRat e / (16 / 5)).floor.toNat, seq.slewLong := decide (e < 0) }

/-- Alignment at a boundary (R21 to R24): watch tells that the mode is Watch before and after it. PHASE_NS is rounded to the
nearest ns, ties to even, and stays as it is while local time is not valid (log entry 83). -/
def Dev.align (s : Dev) (watch : Bool) : Dev :=
  let e := phaseError s.clk.localNs
  let s := if s.timeValid then s.wr GLB_TICK_PHASE (BitVec.ofInt 32 (roundRat e)) else s
  let cfg := s.seq.tickCfg
  if !s.timeValid || !bitOf cfg.toNat 0 then
    ({ s with seq.freeRunning := true, seq.slewTicks := 0 } : Dev).showAlign true (s.timeValid && alignedFlag e)
  else
    let first := s.seq.freeRunning
    let s := { s with seq.freeRunning := false }
    if watch && bitOf cfg.toNat 1 && (first || decide (stepThresh cfg < absRat e)) then s.seqStep e
    else (s.seqSlew e).showAlign false (alignedFlag e)

/-- Lane number of a role in an event; 0xFF with none in service (R33, R194). -/
def Dev.roleLaneNo (s : Dev) (role : Nat) : Nat := (s.roleLane role).getD 255

/-- An overrun (R33); the Grove's slots of a cut cycle record none (R23). -/
def Dev.overrun (s : Dev) (w : OverrunWork) : Dev :=
  match w with
  | .profile first count => s.overrunFlag 0 0x03F0 first count
  | .loop first count => s.overrunFlag 1 0x02F0 first count
  | .estimator => if s.seq.abortGrove then s else s.overrunFlag 2 0x04F0 (s.roleLaneNo 0) (s.roleCode 0)
  | .bundle => if s.seq.abortGrove then s else s.overrunFlag 5 0x04F1 (s.roleLaneNo 1) s.bndSlice
  | .intact => if s.seq.abortGrove then s else s.overrunFlag 3 0x05F0 (s.roleLaneNo 2) (s.roleCode 2)
  | .consequence first count => if s.seq.abortGrove then s else s.overrunFlag 4 0x05F1 first count

end Sys2Proof.Machine
end

