-- ==== Sys2Proof/Machine/Boundary.lean ====
section
/-! DEFINITION. The cycle boundary (R21): settings, mode, alignment, and what each engine does there. -/

namespace Sys2Proof.Machine

/-- CYCLES, the cycle's own flags and GLB_TICK_CFG (R25, R42); the mismatches of a complete cycle (R54, R81). The first boundary after a release begins cycle 0. -/
def Dev.beginCycle (s : Dev) : Dev :=
  let first := decide (s.seq.cyc = 0)
  let s := if s.seq.abortGrove then s else s.setFld LOOP_ENG_STAT 15 8 (min 255 s.loop.resCycle)
  let s := { s with seq.nextTick := 0, seq.abortGrove := false, seq.adjLen := none, seq.tickCfg := s.rd GLB_TICK_CFG,
                    clk.cycleNs := s.clk.localNs, loop.resCycle := 0 }
  if first then s else s.cntWrap GLB_CYCLE_CNT 31 0 1

/-- The engines' work at the boundary, in the order of their data (R29, R107, R148, R172, R194, R211, R217, R284, R374). -/
def Dev.enginesAtBoundary (s : Dev) (i : BoundaryIn) : Dev :=
  let s := (s.epoch i).estBoundary
  let s := s.selectBoundary.moveRoles.assignGroups
  let s := s.each i.laneCorr fun d c => d.laneCorr c.1 [c.2]
  (s.thktBoundary.netBoundary).holdBound

/-- A cycle boundary (R21 to R25, R38). -/
def Dev.cycleBoundary (s : Dev) (i : BoundaryIn) : Dev :=
  let was := s.mode
  let s := s.beginCycle.modeStep
  let s := s.align (was == 0 && s.mode == 0)
  (s.enginesAtBoundary i).showRun

end Sys2Proof.Machine
end

