-- ==== Sys2Proof/Machine/Tick.lean ====
section
/-! DEFINITION. One tick (R26, R29): its five phases and the cycle-level slots that fall in it. -/

namespace Sys2Proof.Machine

/-- Context outputs grow older by a tick (R59). -/
def Dev.ageOutputs (s : Dev) : Dev :=
  { s with loop.ctx := s.loop.ctx.map fun (x : LoopCtx) => { x with outAge := x.outAge.map (· + 1) } }

/-- Host releases come a tick nearer their deadline (R199). -/
def Dev.ageDeadlines (s : Dev) : Dev :=
  { s with grove.lane := s.grove.lane.map fun (x : LaneSt) =>
      if x.pair.isSome then { x with dlTicks := x.dlTicks - 1 } else x }

/-- The input latch: the ages of latched samples and of context outputs grow (R19, R26, R59, R321). -/
def Dev.inputLatch (s : Dev) : Dev := s.ringStops.acqP0.canP0.profP0.takeFrame.ageOutputs.ageDeadlines

/-- P0 of tick n (R26, R314, R318, R327). -/
def Dev.tickP0 (s : Dev) (n : Nat) : Dev := s.inputLatch.standP0 n

/-- Cycle-level slots before P1 (R29): ticks 0, 7, 8, 21 and 64. -/
def Dev.slotsBefore (s : Dev) (i : TickIn) (n : Nat) : Dev :=
  match n with
  | 0 => s.estForm i
  | 7 => s.estUpdate
  | 8 => s.allocPose i
  | 21 => s.allocApply i
  | 64 => s.allocReport.bundleStart
  | 76 => s.bundleEnd i
  | _ => s

/-- P1 and P2 of tick n, with the demand of tick 7 between them and the state-sharing frame after (R26, R29, R35). -/
def Dev.tickLoops (s : Dev) (i : TickIn) (n : Nat) : Dev :=
  let s := s.profP1 i n
  let s := if n = 7 then s.allocDemand i else s
  let s := (s.loadCtxs.loopP2 i n).showRun
  let s := if n = 78 then s.standTick78 else s
  s.showLoad (phaseLoad 8125 i.p1 i.profMissed) (phaseLoad 37500 i.p2 i.loopMissed)

/-- P3 of tick n (R26, R269, R270, R321). -/
def Dev.tickP3 (s : Dev) (n : Nat) : Dev :=
  let s := s.applyFrame
  let s := if n = 0 then s.trefP3 else s
  let s := s.streamsP3 n
  if n = 2 then s.standSend else s

/-- Length of tick n in CTLCLK cycles: 78,125, or one less or more while the sequencer slews (R20, R22). -/
def Dev.tickLength (s : Dev) (n : Nat) : Nat :=
  if n < s.seq.slewTicks then (if s.seq.slewLong then 78126 else 78124) else 78125

/-- Time passes to the next tick boundary. -/
def Dev.passTime (s : Dev) (n cycles : Nat) (dt : Rat) : Dev :=
  let c := s.seq.cyc
  let s := s.advance dt
  let s := { s with seq.cyc := c + cycles, seq.tickCyc := c, seq.nextTick := (n + 1) % 80 }
  s.each (List.range ((c + cycles) / 312500000 - c / 312500000)) fun d _ => d.gladeSecond

/-- The adjusted tick of a step: only the latch runs, and the sequencer is aligned from its end (R23). -/
def Dev.adjustedTick (s : Dev) (n : Nat) (r : Rat) : Dev :=
  let t := s.clk.localNs
  let s := (s.showTick n (r != 250000)).inputLatch
  let s := ({ s with seq.adjLen := none } : Dev).passTime n (r / (16 / 5)).floor.toNat r
  ({ s with clk.localNs := t + r } : Dev).showAlign false true

/-- A tick of the nominal or a slewed length (R26). -/
def Dev.wholeTick (s : Dev) (i : TickIn) (n : Nat) : Dev :=
  let len := s.tickLength n
  let s := (s.showTick n (len != 78125)).tickP0 n
  let s := ((s.slotsBefore i n).tickLoops i n).tickP3 n
  let s := if n = 40 then s.midLatch i else s
  (s.hostP4 n).passTime n len ((len : Rat) * (16 / 5))

/-- A critical error that the tick finds (R457). -/
def Dev.tickCritical (s : Dev) (i : TickIn) : Dev :=
  match i.critical with
  | none => s
  | some (k, a) => s.criticalError (k.val + 1) a.toNat

/-- A tick boundary and the tick that it starts (R26). -/
def Dev.tickCommand (s : Dev) (i : TickIn) : Dev :=
  let n := s.seq.nextTick
  let s := if s.seq.loadClr then { s.wr GLB_TICK_LOAD 0 with seq.loadClr := false } else s
  let s := (s.cntSat GLB_XING_MERGE 15 0 i.merges).lateLanes
  let s := match s.seq.adjLen with
    | some r => s.adjustedTick n r
    | none => s.wholeTick i n
  s.tickCritical i

end Sys2Proof.Machine
end

