-- ==== Sys2Proof/Machine/RegWrite.lean ====
section
/-! DEFINITION. A register write by the host (R12 to R15): registers with an effect of their own, and the rest by access
type. -/

namespace Sys2Proof.Machine

/-- A write in the GLB block (R25, R35, R38, R419, R427, R428). -/
def Dev.glbWrite (s : Dev) (a : Nat) (v : Word) : Dev :=
  if a = GLB_MODE_CMD then s.modeCommand (bitsOf v.toNat 1 0)
  else if a = GLB_TICK_LOAD_CLR then (if bitOf v.toNat 0 then s.loadClear else s)
  else if a = GLB_SESS_CMD then s.byGlade fun d => d.sessCommand v
  else if a = GLB_ENROL_CMD then s.byGlade fun d => d.enrolCommand v
  else if a = GLB_ATT_CMD then (if bitOf v.toNat 0 then s.byGlade fun d => d.attRequest (bitOf v.toNat 1) else s)
  else match (List.range 8).find? (fun k => GLB_SESS_RESP k == a), (List.range 20).find? (fun k => GLB_ENROL_DATA k == a) with
    | some k, _ => { s with glade.resp := setAt s.glade.resp k v }
    | none, some k => { s with glade.enrol := setAt s.glade.enrol k v }
    | none, none => s.store a v

/-- LOOP_CTX_CMD (R79, R81); OP 0 and 3 do nothing. The session is tested as the write arrives (R427). -/
def Dev.loopWrite (s : Dev) (a : Nat) (v : Word) : Dev :=
  if a = LOOP_CTX_CMD then
    let op := bitsOf v.toNat 9 8
    let c := bitsOf v.toNat 6 0
    if op = 1 then s.resumeCommand c else if op = 2 then s.loopCommand c 2 true else s
  else s.store a v

/-- A host target waits for the P0 latch (R98). -/
def Dev.hostTarget (s : Dev) (g : Nat) (v : Word) : Dev :=
  let v := v &&& BitVec.ofNat 32 pbvMask
  if g = 0 then s else (s.wr (PROF_HTGT g) v).setGen g fun y => { y with hostNew := some v }

/-- A write in PROF (R98, R106). -/
def Dev.profWrite (s : Dev) (a : Nat) (v : Word) : Dev :=
  match (List.range 131).find? fun g => g != 0 && PROF_HTGT g == a with
  | some g => s.hostTarget g v
  | none => s.store a v

/-- A write in EST (R109). -/
def Dev.estWrite (s : Dev) (a : Nat) (v : Word) : Dev :=
  if a = EST_ORIGIN_LAT then s.originWrite false v
  else if a = EST_ORIGIN_LON then s.originWrite true v
  else s.store a v

/-- ALLOC_THR_EN: the selection waits for the boundary; without the session it is discarded (R148, R426). -/
def Dev.selectThrusters (s : Dev) (v : Word) : Dev :=
  if s.sessOk 1 then
    { s.sessUse.store ALLOC_THR_EN v with alloc.selPending := some (v &&& 0x00FFFFFF) }
  else s

def Dev.allocWrite (s : Dev) (a : Nat) (v : Word) : Dev := if a = ALLOC_THR_EN then s.selectThrusters v else s.store a v

/-- CLEAR of a lane: TMAX and ITER_PEAK are zeroed at once (R203). -/
def Dev.clearLane (s : Dev) (l : Nat) : Dev := (s.wr (GROVE_LANE_TMAX l) 0).setFld (GROVE_LANE_ITER l) 25 16 0

def Dev.groveWrite (s : Dev) (a : Nat) (v : Word) : Dev :=
  match (List.range 32).find? fun l => GROVE_LANE_CLR l == a with
  | some l => if bitOf v.toNat 0 then s.clearLane l else s
  | none => s.store a v

/-- A write in GNSS (R215, R220, R222): a pin leaves its reset state with its first configuration (R472). -/
def Dev.gnssWrite (s : Dev) (a : Nat) (v : Word) : Dev :=
  let s := s.store a v
  if a = GNSS_PPS_CFG ∨ a = GNSS_PPS_DLY then s.ppsWrite (s.rd GNSS_PPS_CFG) (s.rd GNSS_PPS_DLY) (a == GNSS_PPS_CFG)
  else if a = GNSS_DISC_CFG then (if s.bit GNSS_DISC_CFG 14 then s.setBit PIN_CFGD 3 true else s)
  else match (List.range 8).find? fun u => GNSS_SENT_CFG u == a with
    | some u =>
      if s.bit a 0 then
        let m := s.rst.uart.lor (2 ^ u)
        let s := ({ s with rst.uart := m } : Dev)
        if m = 255 then s.setBit PIN_CFGD 0 true else s
      else s
    | none => s

/-- A write in ACQ (R237, R243, R244, R247). -/
def Dev.acqRegWrite (s : Dev) (a : Nat) (v : Word) : Dev :=
  if a = ACQ_APPLY then (if bitOf v.toNat 8 then s.coefApply (bitsOf v.toNat 5 0) else s)
  else match (List.range 4).find? fun p => ACQ_QUAD_ZERO p == a with
    | some p => if bitOf v.toNat 0 then s.quadZero p else s
    | none => s.acqWrite a v

/-- A write in NET (R284, R305, R306). -/
def Dev.netRegWrite (s : Dev) (a : Nat) (v : Word) : Dev :=
  if a = NET_EVT_POP then (if bitOf v.toNat 0 then s.evtPop else s)
  else match (List.range 4).find? fun k => NET_ALARM_CTL k == a with
    | some k => s.alarmArm k v
    | none => s.netWrite a v

/-- A write in THKT (R381, R383). -/
def Dev.thktWrite (s : Dev) (a : Nat) (v : Word) : Dev :=
  if a = THKT_PT_IDX then s.latchPoint v 0
  else if a = THKT_FIND_HI then s.findStart v
  else if a = THKT_RELEASE then s.releaseCommand v
  else s.store a v

/-- A write in LOG (R396, R397). -/
def Dev.logWrite (s : Dev) (a : Nat) (v : Word) : Dev :=
  if a = LOG_FREEZE then (if bitOf v.toNat 0 then s.freezeBegin else s.freezeEnd)
  else if a = LOG_CLEAR then s.byGlade fun d => d.clearCommand v
  else s.store a v

/-- A write in HOST to a ring pair's window (R435, R438): BASE is discarded while EN = 1. -/
def Dev.pairWrite (s : Dev) (p o : Nat) (v : Word) : Dev :=
  let a := pairWin p + o
  if o = 0x08 then s.ringConfig p false v
  else if o = 0x18 then s.ringConfig p true v
  else if o = 0x2C then (if bitOf v.toNat 0 then s.ringResume p else s)
  else if o < 0x08 then (if s.ringEn p false then s else s.store a v)
  else if 0x10 ≤ o ∧ o < 0x18 then (if s.ringEn p true then s else s.store a v)
  else s.store a v

/-- A write in HOST (R435, R438, R452). -/
def Dev.hostWrite (s : Dev) (a : Nat) (v : Word) : Dev :=
  if pairWin 0 ≤ a ∧ a < pairWin 16 then s.pairWrite ((a - pairWin 0) / 0x40) ((a - pairWin 0) % 0x40) v
  else if a = HOST_VEC_ACK then s.vectorArm v
  else match (List.range 32).find? fun k => MSIX_TAB k 3 == a with
    | some k => if bitOf v.toNat 0 then s.store a v else s.vectorOpen k
    | none => s.store a v

/-- A register write reaches its block (R12, R14); a write to SAFE is discarded, and so is one that no register takes. -/
def Dev.regWrite (s : Dev) (a : Nat) (v : Word) : Dev :=
  match blockOf a with
  | .safe => s
  | .glb => s.glbWrite a v
  | .loop => s.loopWrite a v
  | .prof => s.profWrite a v
  | .est => s.estWrite a v
  | .alloc => s.allocWrite a v
  | .grove => s.groveWrite a v
  | .gnss => s.gnssWrite a v
  | .acq => s.acqRegWrite a v
  | .can => s.canWrite a v
  | .net => s.netRegWrite a v
  | .stand => if a = STAND_CMD then (if bitOf v.toNat 0 then s.swapCommand else s) else s.store a v
  | .thkt => s.thktWrite a v
  | .log => s.logWrite a v
  | .host => s.hostWrite a v
  | .rst => s.store a v
  | .pin => s.store a v
  | .blz => s.store a v
  | .bar2 => s

/-- A register write and its completion (R14, R15): an address that is not a multiple of 4 is no 32-bit register access. -/
def Dev.hostWriteOp (s : Dev) (a : Nat) (v : Word) : Dev :=
  if a % 4 = 0 then { s.regWrite a v with seq.hostCpl := .ok } else { s with seq.hostCpl := .unsupported }

/-- An access that is not a naturally aligned 32-bit access (R15, R433). -/
def Dev.badAccess (s : Dev) (a size : Nat) : Dev :=
  if size = 4 ∧ a % 4 = 0 then s else { s with seq.hostCpl := .unsupported }

/-- An access to a domain whose clock is stopped: the host's ends in a completion timeout (R41), the management core's
never completes, so that Glade hangs until its watchdog's reset. A released domain thereby shows that its own clock has
stopped, and it is not released again (R41, R492). -/
def Dev.stoppedAccess (s : Dev) (mgt : Bool) (a : Nat) : Dev :=
  let k := blockDomain (blockOf a)
  let s := if s.bit RST_DOM_STAT k then { s with rst.stopped := s.rst.stopped.lor (2 ^ k) } else s
  if mgt then { s with glade.hung := true } else { s with seq.hostCpl := .timeout }

end Sys2Proof.Machine
end

