-- ==== Sys2Proof/Machine/CmdAcq.lean ====
section
/-! DEFINITION. Meanings of the commands of the acquisition chains (chapter 08): one definition for each command, its effect on everything but the queue. -/

namespace Sys2Proof.Machine

/-- SAR_CONVERSION (R229). -/
def execSarConversion (slot : Fin 64) (code : BitVec 16) (s : State) : Host.Outcome State Fault Refusal :=
  done s (s.toDev.sarConversion slot code)

/-- CAL_UPDATE (R230). -/
def execCalUpdate (ofs ideal : Rat) (s : State) : Host.Outcome State Fault Refusal :=
  done s (s.toDev.calUpdate ofs ideal)

/-- SAR_ENABLE (R231). -/
def execSarEnable (on : Bool) (s : State) : Host.Outcome State Fault Refusal :=
  done s (s.toDev.acqEnable 0 on)

/-- SD_ENABLE (R232). -/
def execSdEnable (on : Bool) (s : State) : Host.Outcome State Fault Refusal :=
  done s (s.toDev.acqEnable 1 on)

/-- BITSTREAM_STUCK (R233). -/
def execBitstreamStuck (st : Fin 24) (s : State) : Host.Outcome State Fault Refusal :=
  done s (s.toDev.bitstreamStuck st)

/-- STUCK_END (R233). -/
def execStuckEnd (st : Fin 24) (s : State) : Host.Outcome State Fault Refusal :=
  done s (s.toDev.stuckEnd st)

/-- CHAIN_RECORD (R239). -/
def execChainRecord (ch : Fin 40) (bits : List Bool) (stamp : Word) (coefBad : Option Nat) (s : State) : Host.Outcome State Fault Refusal :=
  done s (s.toDev.chainRecord ch bits stamp coefBad)

/-- A write that enables or reconfigures a chain; an address outside ACQ is not one (R237, R243). -/
def Dev.chainWrite (s : Dev) (a : Nat) (v : Word) : Dev := if blockOf a = .acq ∧ a % 4 = 0 then s.acqWrite a v else s

/-- CHAIN_CONFIG_WRITE (R237): a write to a register of ACQ. -/
def execChainConfigWrite (a : Addr) (v : Word) (s : State) : Host.Outcome State Fault Refusal :=
  done s (s.toDev.chainWrite a.toNat v)

/-- COEF_APPLY (R244). -/
def execCoefApply (chain : Fin 64) (s : State) : Host.Outcome State Fault Refusal :=
  done s (s.toDev.coefApply chain)

/-- COEF_APPLY_DONE (R244). -/
def execCoefApplyDone (s : State) : Host.Outcome State Fault Refusal :=
  done s (s.toDev.coefDone)

/-- QUAD_TRANSITION (R247). -/
def execQuadTransition (p : Fin 4) (qa qb : HeldLevel) (s : State) : Host.Outcome State Fault Refusal :=
  done s (s.toDev.quadTransition p qa.high qb.high qa.held qb.held)

/-- QUAD_ZERO (R247). -/
def execQuadZero (p : Fin 4) (s : State) : Host.Outcome State Fault Refusal :=
  done s (s.toDev.quadZero p)

/-- PULSE_EDGE (R246). -/
def execPulseEdge (p : Fin 8) (falling : Bool) (e : HeldEdge) (s : State) : Host.Outcome State Fault Refusal :=
  done s (s.toDev.pulseEdge p falling e.at_ e.held)

end Sys2Proof.Machine
end

