-- ==== Sys2Proof/Machine/CmdCan.lean ====
section
/-! DEFINITION. Meanings of the commands of the CAN FD buses (chapter 09): one definition for each command, its effect on everything but the queue. -/

namespace Sys2Proof.Machine

/-- CAN_LEAVE_INIT (R255): a write of CAN_CTRL with INIT = 0. -/
def execCanLeaveInit (c : Fin 8) (v : Word) (s : State) : Host.Outcome State Fault Refusal :=
  done s (s.toDev.canCtrl c (v &&& ~~~1))

/-- CAN_ENTER_INIT (R267): a write of CAN_CTRL with INIT = 1. -/
def execCanEnterInit (c : Fin 8) (v : Word) (s : State) : Host.Outcome State Fault Refusal :=
  done s (s.toDev.canCtrl c (v ||| 1))

/-- CAN_RECOVER (R267). -/
def execCanRecover (c : Fin 8) (s : State) : Host.Outcome State Fault Refusal :=
  done s (s.toDev.canRecover c)

/-- CAN_TB2_REQUEST (R258). -/
def execCanTb2Request (c : Fin 8) (dlc : BitVec 4) (s : State) : Host.Outcome State Fault Refusal :=
  done s (s.toDev.tb2Request c dlc.toNat)

/-- CAN_TB2_CANCEL (R259). -/
def execCanTb2Cancel (c : Fin 8) (s : State) : Host.Outcome State Fault Refusal :=
  done s (s.toDev.tb2Cancel c)

/-- CAN_ARBITRATION_WON (R259). -/
def execCanArbitrationWon (c : Fin 8) (b : Fin 3) (late : List (Fin 3)) (s : State) : Host.Outcome State Fault Refusal :=
  done s (s.toDev.arbWon c b (late.map Fin.val))

/-- CAN_ARBITRATION_LOST (R258). -/
def execCanArbitrationLost (c : Fin 8) (b : Fin 3) (s : State) : Host.Outcome State Fault Refusal :=
  done s (s.toDev.arbLost c b)

/-- CAN_FRAME_SENT (R261). -/
def execCanFrameSent (c : Fin 8) (b : Fin 3) (sofNs : Nat) (delay : Byte) (s : State) : Host.Outcome State Fault Refusal :=
  done s (s.toDev.frameSent c b sofNs delay)

/-- CAN_FRAME_RECEIVED (R262). -/
def execCanFrameReceived (c : Fin 8) (f : CanFrame) (res : Bool) (stamp : Word) (s : State) : Host.Outcome State Fault Refusal :=
  done s (s.toDev.frameReceived c f res stamp)

/-- CAN_ERROR (R267). -/
def execCanError (c : Fin 8) (k : CanErrKind) (conflict : Bool) (s : State) : Host.Outcome State Fault Refusal :=
  done s (s.toDev.canError c k conflict)

/-- CAN_RECOVERY_DONE (R267). -/
def execCanRecoveryDone (c : Fin 8) (s : State) : Host.Outcome State Fault Refusal :=
  done s (s.toDev.recoveryDone c)

/-- CAN_HP_RELEASE (R263). -/
def execCanHpRelease (c : Fin 8) (s : State) : Host.Outcome State Fault Refusal :=
  done s (s.toDev.hpRelease c)

/-- CAN_RXF_POP (R264). -/
def execCanRxfPop (c : Fin 8) (s : State) : Host.Outcome State Fault Refusal :=
  done s (s.toDev.fifoPop c)

end Sys2Proof.Machine
end

