-- ==== Sys2Proof/Machine/CmdEngines.lean ====
section
/-! DEFINITION. Meanings of the commands of the loop engine, profiles, estimator, allocation and Grove (chapters 02 to 06): one definition for each command, its effect on everything but the queue. -/

namespace Sys2Proof.Machine

/-- LOOP_RESUME (R79); the session is tested as the write arrives (R427). -/
def execLoopResume (c : Fin 128) (s : State) : Host.Outcome State Fault Refusal :=
  done s (s.toDev.resumeCommand c)

/-- LOOP_CLEAR (R79). -/
def execLoopClear (c : Fin 128) (s : State) : Host.Outcome State Fault Refusal :=
  done s (s.toDev.loopCommand c 2 true)

/-- HOST_TARGET_WRITE (R98). -/
def execHostTargetWrite (g : Fin 131) (v : Word) (s : State) : Host.Outcome State Fault Refusal :=
  done s (s.toDev.hostTarget g v)

/-- ORIGIN_WRITE (R109). -/
def execOriginWrite (lon : Bool) (v : Word) (s : State) : Host.Outcome State Fault Refusal :=
  done s (s.toDev.originWrite lon v)

/-- THRUSTER_SELECT (R148). -/
def execThrusterSelect (v : Word) (s : State) : Host.Outcome State Fault Refusal :=
  done s (s.toDev.selectThrusters v)

/-- GROVE_LOAD (R177). -/
def execGroveLoad (l : Fin 32) (method : BitVec 3) (accum : Bool) (n : Byte) (m : Byte) (corr : List Nat) (s : State) : Host.Outcome State Fault Refusal :=
  done s (((s.toDev.laneCorr l corr).groveLoadOp l method.toNat accum n.toNat m.toNat).1)

/-- GROVE_ENTRY (R177). -/
def execGroveEntry (l : Fin 32) (e : GroveEntryIn) (corr : List Nat) (s : State) : Host.Outcome State Fault Refusal :=
  done s (((s.toDev.laneCorr l corr).groveEntryOp l e).1)

/-- GROVE_RELEASE (R177, R178). -/
def execGroveRelease (l : Fin 32) (final : Bool) (amb : Nat) (corr : List Nat) (s : State) : Host.Outcome State Fault Refusal :=
  done s (((s.toDev.laneCorr l corr).groveStart l final amb).1)

/-- What follows when a device role's lane has stopped of itself: the next group of a pool lane, the rest of a slice (R172,
R178). -/
def Dev.laneNext (s : Dev) (l : Nat) (ok : Bool) : Dev := (s.cqStopped l ok).bundleNext l ok

/-- A lane comes to the end of its solve (R189): it publishes, or a pivot or the final check fails (R185, R186). What the
lane's shape, iteration limit and worst case do not admit is no end of a solve. -/
def Dev.publish (s : Dev) (l : Nat) (r : SolveOut) : Dev :=
  if s.laneState l = 2 && s.outFits l r then
    let code := s.endCode l r
    ((s.laneCorr l r.corr).laneStop l code r.iter r.cycles (if code = 0 then some r else none)).laneNext l (code == 0)
  else s

/-- The deadline edge (R188, R189, R199): nothing that the lane still had to start is released. -/
def Dev.deadline (s : Dev) (l iter cycles : Nat) (corr : List Nat) : Dev :=
  if s.laneState l = 2 && s.laneDue l then
    ((s.laneCorr l corr).laneStop l 1 iter cycles none).setLane l fun x => { x with work := [], grp := none }
  else s

/-- The lane's method and pivot admit a failure with the code (R185, R186, R196). -/
def Dev.failFits (s : Dev) (l code iter : Nat) (pivot : Rat) : Bool :=
  let qp := s.laneMethod l == 4
  (qp || iter == 0) && decide (iter ≤ (s.lane l).iterMax ∨ !qp) &&
    match code with
    | 2 => qp && iter == (s.lane l).iterMax
    | 8 | 9 => s.factors l && pivotCode (s.laneMethod l) (s.laneD2 l) pivot == code
    | 10 => qp
    | 11 | 12 | 13 => true
    | _ => false

/-- A solve fails (R185, R186, R196). -/
def Dev.solveFails (s : Dev) (l code iter cycles : Nat) (pivot : Rat) (corr : List Nat) : Dev :=
  if s.laneState l = 2 && s.failFits l code iter pivot then
    ((s.laneCorr l corr).laneStop l code iter cycles none).laneNext l false
  else s

/-- GROVE_PUBLISH (R189). -/
def execGrovePublish (l : Fin 32) (r : SolveOut) (s : State) : Host.Outcome State Fault Refusal :=
  done s (s.toDev.publish l r)

/-- GROVE_DEADLINE (R189). -/
def execGroveDeadline (l : Fin 32) (iter : Nat) (cycles : Nat) (corr : List Nat) (s : State) : Host.Outcome State Fault Refusal :=
  done s (s.toDev.deadline l iter cycles corr)

/-- GROVE_SOLVE_FAILURE (R196). -/
def execGroveSolveFailure (l : Fin 32) (f : SolveFail) (iter : Nat) (cycles : Nat) (corr : List Nat) (s : State) : Host.Outcome State Fault Refusal :=
  done s (s.toDev.solveFails l f.code.toNat iter cycles (gvRat f.pivot) corr)

/-- LANE_CLEAR (R203). -/
def execLaneClear (l : Fin 32) (s : State) : Host.Outcome State Fault Refusal :=
  done s (s.toDev.clearLane l)

end Sys2Proof.Machine
end

