-- ==== Sys2Proof/Machine/CmdGlade.lean ====
section
/-! DEFINITION. Meanings of the commands of Glade (chapter 16): one definition for each command, its effect on everything but the queue. -/

namespace Sys2Proof.Machine

/-- GLADE_BOOT (R426). -/
def execGladeBoot (b : BootIn) (s : State) : Host.Outcome State Fault Refusal :=
  done s (s.toDev.byGlade fun d => d.gladeBoot b)

/-- GLADE_WATCHDOG_EXPIRY (R415). -/
def execGladeWatchdogExpiry (s : State) : Host.Outcome State Fault Refusal :=
  done s (s.toDev.gladeWatchdog)

/-- DIE_TEMP_SAMPLE (R416). -/
def execDieTempSample (t : List Int) (s : State) : Host.Outcome State Fault Refusal :=
  done s (s.toDev.byGlade fun d => d.dieTemps t)

/-- SUPPLY_SAMPLE (R417). -/
def execSupplySample (mv : List Nat) (s : State) : Host.Outcome State Fault Refusal :=
  done s (s.toDev.byGlade fun d => d.supplies mv)

/-- SUPPLY_WINDOW_FAULT (R417). -/
def execSupplyWindowFault (m : Fin 12) (high : Bool) (s : State) : Host.Outcome State Fault Refusal :=
  done s (s.toDev.byGlade fun d => d.supplyFault m high)

/-- OWNER_ENROL (R419). -/
def execOwnerEnrol (slot : Fin 4) (burnOk : Bool) (s : State) : Host.Outcome State Fault Refusal :=
  done s (s.toDev.byGlade fun d => d.enrolOwner slot burnOk)

/-- OWNER_REVOKE (R419). -/
def execOwnerRevoke (slot : Fin 4) (burnOk : Bool) (s : State) : Host.Outcome State Fault Refusal :=
  done s (s.toDev.byGlade fun d => d.revokeOwner slot burnOk)

/-- IMAGE_SAVE (R424). -/
def execImageSave (ok : Bool) (block : Nat) (s : State) : Host.Outcome State Fault Refusal :=
  done s (s.toDev.byGlade fun d => d.imageSaved ok block)

/-- ROLLBACK_BURN (R423). -/
def execRollbackBurn (s : State) : Host.Outcome State Fault Refusal :=
  done s (s.toDev.byGlade Dev.burnFuses)

/-- SESSION_OPEN (R427). -/
def execSessionOpen (slot : Fin 8) (level : BitVec 3) (s : State) : Host.Outcome State Fault Refusal :=
  done s (s.toDev.byGlade fun d => d.sessOpen slot level.toNat)

/-- SESSION_VERIFY (R427). -/
def execSessionVerify (s : State) : Host.Outcome State Fault Refusal :=
  done s (s.toDev.byGlade Dev.sessVerify)

/-- SESSION_CLOSE (R427). -/
def execSessionClose (s : State) : Host.Outcome State Fault Refusal :=
  done s (s.toDev.byGlade fun d => d.sessClose 1)

/-- SESSION_CMD_CONFLICT: a write with more than one command bit (R427). -/
def execSessionCmdConflict (v : Word) (s : State) : Host.Outcome State Fault Refusal :=
  done s (s.toDev.byGlade fun d => d.sessCommand v)

/-- CHALLENGE_EXPIRY (R427). -/
def execChallengeExpiry (s : State) : Host.Outcome State Fault Refusal :=
  done s (s.toDev.byGlade Dev.challengeEnd)

/-- SESSION_IDLE_EXPIRY (R427). -/
def execSessionIdleExpiry (s : State) : Host.Outcome State Fault Refusal :=
  done s (s.toDev.byGlade Dev.sessIdle)

/-- SLOT_LOCK_EXPIRY (R427). -/
def execSlotLockExpiry (slot : Fin 8) (s : State) : Host.Outcome State Fault Refusal :=
  done s (s.toDev.byGlade fun d => d.slotUnlock slot)

/-- ATTESTATION_REQUEST (R428). -/
def execAttestationRequest (cert : Bool) (s : State) : Host.Outcome State Fault Refusal :=
  done s (s.toDev.byGlade fun d => d.attRequest cert)

/-- ATTESTATION_REPORT (R428). -/
def execAttestationReport (s : State) : Host.Outcome State Fault Refusal :=
  done s (s.toDev.byGlade Dev.attReport)

/-- HOST_WAIT_EXPIRY (R424). -/
def execHostWaitExpiry (s : State) : Host.Outcome State Fault Refusal :=
  done s (s.toDev.byGlade Dev.hostWaitEnd)

end Sys2Proof.Machine
end

