-- ==== Sys2Proof/Machine/CmdGnss.lean ====
section
/-! DEFINITION. Meanings of the commands of the satellite baseband, time pulse and serial inputs (chapters 04 and 07): one definition for each command, its effect on everything but the queue. -/

namespace Sys2Proof.Machine

/-- FE_FAULT (R206). -/
def execFeFault (k : Fin 4) (gain : Byte) (atMax : Bool) (s : State) : Host.Outcome State Fault Refusal :=
  done s (s.toDev.feFault k gain.toNat atMax)

/-- FE_FAULT_CLEAR (R206). -/
def execFeFaultClear (k : Fin 4) (gain : Byte) (s : State) : Host.Outcome State Fault Refusal :=
  done s (s.toDev.feClear k gain.toNat)

/-- CHANNEL_DROP (R210). -/
def execChannelDrop (d : DropIn) (s : State) : Host.Outcome State Fault Refusal :=
  done s (s.toDev.dropped d.ch d.cn0 d.spanMs)

/-- ACQUISITION_COMPLETE (R210). -/
def execAcquisitionComplete (ch : Fin 192) (sig : Fin 7) (svid : Byte) (f : FoundIn) (s : State) : Host.Outcome State Fault Refusal :=
  done s (s.toDev.acquired ch sig svid.toNat f.antS f.cn0)

/-- Entries of a signal stop carrying SETTLING (R209). -/
def Dev.settled (s : Dev) (sig : Nat) : Dev :=
  { s with gnss.chan := s.gnss.chan.map fun (x : GChan) => if x.sig = sig then { x with settling := false } else x }

/-- SPACING_SETTLED (R209). -/
def execSpacingSettled (sig : Fin 7) (s : State) : Host.Outcome State Fault Refusal :=
  done s (s.toDev.settled sig)

/-- HOLDOVER_ENTRY (R216). -/
def execHoldoverEntry (s : State) : Host.Outcome State Fault Refusal :=
  done s (s.toDev.holdover)

/-- LOCAL_TIME_SET (R216). -/
def execLocalTimeSet (s : State) : Host.Outcome State Fault Refusal :=
  done s (s.toDev.timeSet)

/-- LOCAL_TIME_STEP (R218). -/
def execLocalTimeStep (s : State) : Host.Outcome State Fault Refusal :=
  done s (s.toDev.timeStep)

/-- SLEW_COMPLETE (R218). -/
def execSlewComplete (s : State) : Host.Outcome State Fault Refusal :=
  done s (s.toDev.slewDone)

/-- HOLD_WARN_EXCEEDED (R217). -/
def execHoldWarnExceeded (s : State) : Host.Outcome State Fault Refusal :=
  done s (s.toDev.holdWarn)

/-- PPS_PULSE (R219). -/
def execPpsPulse (s : State) : Host.Outcome State Fault Refusal :=
  done s (s.toDev.ppsEdge)

/-- TIME_MESSAGE (R221). -/
def execTimeMessage (s : State) : Host.Outcome State Fault Refusal :=
  done s (s.toDev.timeMessage)

/-- A hexadecimal digit in ASCII. -/
def hexDigit (n : Nat) : Byte := BitVec.ofNat 8 (if n < 10 then 48 + n else 55 + n)

/-- A number in decimal ASCII, at most three digits. -/
def decAscii (n : Nat) : List Byte :=
  let d (k : Nat) : Byte := BitVec.ofNat 8 (48 + k % 10)
  if n < 10 then [d n] else if n < 100 then [d (n / 10), d n] else [d (n / 100), d (n / 10), d n]

/-- A datagram of IEC 61162-450 with one sentence (R293): "UdPbC" and a null byte, the tag block "s:<SFI>,n:<line>" between
backslashes with its checksum, the sentence. -/
def Dev.datagram450 (s : Dev) (line : Nat) (sentence : List Byte) : List Byte :=
  let sfi := (leBytes 4 (s.rd NET_450_SFI_LO).toNat ++ leBytes 2 (s.rd NET_450_SFI_HI).toNat)
  let tag : List Byte := [0x73, 0x3A] ++ sfi ++ [0x2C, 0x6E, 0x3A] ++ decAscii line
  let sum := (tag.foldl (fun a c => a ^^^ c) (0 : Byte)).toNat
  [0x55, 0x64, 0x50, 0x62, 0x43, 0x00, 0x5C] ++ tag ++ [0x2A, hexDigit (sum / 16), hexDigit (sum % 16), 0x5C] ++ sentence

/-- A sentence goes out on the ring (R293); its line count runs from 1 to 999. -/
def Dev.send450 (s : Dev) (sentence : List Byte) : Dev :=
  let n := s.net.line450 % 999 + 1
  let ip := s.rd NET_450_GRP
  let b := s.datagram450 n sentence
  ({ s with net.line450 := n } : Dev).originate (groupMac ip.toNat) 0x0800 false (s.fld NET_450_PORT 15 0) ip b

/-- A UART's interval, and UART0's sentences on the ring with TX450_EN = 1 (R222, R293). -/
def Dev.sentenceInterval (s : Dev) (u : Nat) (texts : List (List Byte)) : Dev :=
  let r := s.sentences u texts
  if u = 0 ∧ bitOf r.1.net.cfg.toNat 7 then r.1.each r.2 Dev.send450 else r.1

/-- SENTENCE_INTERVAL (R222): the texts spell the sentences in the order in which they are sent. -/
def execSentenceInterval (u : Fin 8) (texts : List (List Byte)) (s : State) : Host.Outcome State Fault Refusal :=
  done s (s.toDev.sentenceInterval u texts)

/-- LEAP_SECOND (R223). -/
def execLeapSecond (s : State) : Host.Outcome State Fault Refusal :=
  done s (s.toDev.leap)

/-- SENTENCE_RECEIVED (R122). -/
def execSentenceReceived (u : Fin 8) (m : SentenceIn) (s : State) : Host.Outcome State Fault Refusal :=
  done s (s.toDev.sentence u m)

/-- REF_SAMPLE_RECEIVED (R126). -/
def execRefSampleReceived (uart : Option (Fin 8)) (bytes : List Byte) (arrivalNs : Nat) (s : State) : Host.Outcome State Fault Refusal :=
  done s (s.toDev.refArrival (uart.map Fin.val) bytes arrivalNs)

/-- PPS_PULSE_END (R220). -/
def execPpsPulseEnd (s : State) : Host.Outcome State Fault Refusal :=
  done s (s.toDev.ppsEnd)

/-- CARRIER_LOCK_LOST (R213). -/
def execCarrierLockLost (ch : Fin 192) (s : State) : Host.Outcome State Fault Refusal :=
  done s (s.toDev.carrierLost ch)

/-- CARRIER_LOCK_GAINED (R213). -/
def execCarrierLockGained (ch : Fin 192) (s : State) : Host.Outcome State Fault Refusal :=
  done s (s.toDev.carrierGained ch)

/-- NAVIGATION_DATA_DECODED (R221). -/
def execNavigationDataDecoded (utcOfs : Byte) (leapAt : Option (BitVec 48)) (s : State) : Host.Outcome State Fault Refusal :=
  done s (s.toDev.navData utcOfs.toNat (leapAt.map BitVec.toNat))

end Sys2Proof.Machine
end

