-- ==== Sys2Proof/Machine/CmdHost.lean ====
section
/-! DEFINITION. Meanings of the commands of the host interface (chapter 17): one definition for each command, its effect on everything but the queue. -/

namespace Sys2Proof.Machine

/-- CMD_DOORBELL (R435). -/
def execCmdDoorbell (p : Fin 16) (v : Word) (s : State) : Host.Outcome State Fault Refusal :=
  done s (s.toDev.cmdBell p v)

/-- REP_DOORBELL (R435). -/
def execRepDoorbell (p : Fin 16) (v : Word) (s : State) : Host.Outcome State Fault Refusal :=
  done s (s.toDev.repBell p v)

/-- DESCRIPTOR_FETCH_DONE (R436). -/
def execDescriptorFetchDone (p : Fin 16) (ok : Bool) (s : State) : Host.Outcome State Fault Refusal :=
  done s (s.toDev.fetchEnd p ok)

/-- RING_ENABLE (R438). -/
def execRingEnable (p : Fin 16) (report : Bool) (v : Word) (s : State) : Host.Outcome State Fault Refusal :=
  done s (s.toDev.ringOn p report v)

/-- RING_DISABLE (R438). -/
def execRingDisable (p : Fin 16) (report : Bool) (v : Word) (s : State) : Host.Outcome State Fault Refusal :=
  done s (s.toDev.ringOff p report v)

/-- RING_CLR_ERR (R435). -/
def execRingClrErr (p : Fin 16) (s : State) : Host.Outcome State Fault Refusal :=
  done s (s.toDev.ringResume p)

/-- NOP_DESCRIPTOR (R439). -/
def execNopDescriptor (p : Fin 16) (idx : BitVec 16) (_b : List Byte) (s : State) : Host.Outcome State Fault Refusal :=
  done s (s.toDev.nopDesc p idx.toNat)

/-- SETPOINT_DESCRIPTOR (R440). -/
def execSetpointDescriptor (p : Fin 16) (idx : BitVec 16) (b : List Byte) (s : State) : Host.Outcome State Fault Refusal :=
  done s (s.toDev.setpointDesc p idx.toNat b)

/-- GROVE_COMMAND_DESCRIPTOR (R198). -/
def execGroveCommandDescriptor (p : Fin 16) (idx : BitVec 16) (b : List Byte) (entries : List GroveEntryIn) (s : State) : Host.Outcome State Fault Refusal :=
  done s (s.toDev.groveDesc p idx.toNat b entries)

/-- CAN_TRANSMIT_DESCRIPTOR (R441). -/
def execCanTransmitDescriptor (p : Fin 16) (idx : BitVec 16) (b : List Byte) (far : List Byte) (s : State) : Host.Outcome State Fault Refusal :=
  done s (s.toDev.canDesc p idx.toNat b far)

/-- IMAGE_DESCRIPTOR (R443). -/
def execImageDescriptor (p : Fin 16) (idx : BitVec 16) (b : List Byte) (image : List Byte) (s : State) : Host.Outcome State Fault Refusal :=
  done s (s.toDev.imageDesc p idx.toNat b image)

/-- THICKET_READOUT (R442). -/
def execThicketReadout (p : Fin 16) (idx : BitVec 16) (b : List Byte) (bad : List Nat) (corr : Nat) (s : State) : Host.Outcome State Fault Refusal :=
  done s (s.toDev.thicketDesc p idx.toNat b bad corr)

/-- RECORDER_READOUT (R442). -/
def execRecorderReadout (p : Fin 16) (idx : BitVec 16) (b : List Byte) (s : State) : Host.Outcome State Fault Refusal :=
  done s (s.toDev.recorderDesc p idx.toNat b)

/-- UNKNOWN_DESCRIPTOR (R439). -/
def execUnknownDescriptor (p : Fin 16) (idx : BitVec 16) (b : List Byte) (s : State) : Host.Outcome State Fault Refusal :=
  done s (s.toDev.badDesc p idx.toNat b)

/-- MSIX_MESSAGE (R452). -/
def execMsixMessage (v : Fin 32) (s : State) : Host.Outcome State Fault Refusal :=
  done s (s.toDev.vectorFire v)

/-- VECTOR_ACK (R452). -/
def execVectorAck (v : Word) (s : State) : Host.Outcome State Fault Refusal :=
  done s (s.toDev.vectorArm v)

/-- VECTOR_UNMASK (R452). -/
def execVectorUnmask (v : Fin 32) (s : State) : Host.Outcome State Fault Refusal :=
  done s (s.toDev.vectorOpen v)

/-- PCIE_LINK_DOWN (R432). -/
def execPcieLinkDown (s : State) : Host.Outcome State Fault Refusal :=
  done s (s.toDev.hostReset 1)

/-- PCIE_LINK_UP (R432). -/
def execPcieLinkUp (width : Nat) (speed : Nat) (s : State) : Host.Outcome State Fault Refusal :=
  done s (s.toDev.hostLinkUp width speed)

/-- HOT_RESET (R432). -/
def execHotReset (s : State) : Host.Outcome State Fault Refusal :=
  done s (s.toDev.hostReset 2)

/-- FUNCTION_LEVEL_RESET (R432). -/
def execFunctionLevelReset (s : State) : Host.Outcome State Fault Refusal :=
  done s (s.toDev.hostReset 3)

/-- D3HOT_ENTRY (R432). -/
def execD3hotEntry (s : State) : Host.Outcome State Fault Refusal :=
  done s (s.toDev.hostReset 4)

/-- PERST_ASSERT (R459): as at link-down. -/
def execPerstAssert (s : State) : Host.Outcome State Fault Refusal :=
  done s (s.toDev.hostReset 1)

end Sys2Proof.Machine
end

