-- ==== Sys2Proof/Machine/CmdNet.lean ====
section
/-! DEFINITION. Meanings of the commands of the ring network, network time and standing (chapters 10 and 11): one definition for each command, its effect on everything but the queue. -/

namespace Sys2Proof.Machine

/-- RATE_FALLBACK_TIMER (R282). -/
def execRateFallbackTimer (portB : Bool) (s : State) : Host.Outcome State Fault Refusal :=
  done s (s.toDev.rateFallback portB)

/-- LINK_UP (R282). -/
def execLinkUp (portB : Bool) (gig1 : Bool) (s : State) : Host.Outcome State Fault Refusal :=
  done s (s.toDev.portUp portB gig1)

/-- LINK_DOWN (R282). -/
def execLinkDown (portB : Bool) (s : State) : Host.Outcome State Fault Refusal :=
  done s (s.toDev.portDown portB)

/-- NET_CFG_WRITE (R284). -/
def execNetCfgWrite (v : Word) (s : State) : Host.Outcome State Fault Refusal :=
  done s (s.toDev.netWrite NET_CFG v)

/-- RING_FRAME_RECEIVED (R285). -/
def execRingFrameReceived (portB : Bool) (f : NetFrame) (s : State) : Host.Outcome State Fault Refusal :=
  done s (s.toDev.ringFrame portB f)

/-- PRP_FRAME_RECEIVED (R290). -/
def execPrpFrameReceived (portB : Bool) (f : NetFrame) (s : State) : Host.Outcome State Fault Refusal :=
  done s (s.toDev.prpFrame portB f)

/-- DUPLICATE_ENTRY_EXPIRY (R286). -/
def execDuplicateEntryExpiry (delivery : Bool) (src : BitVec 48) (sq : BitVec 16) (portB : Bool) (s : State) : Host.Outcome State Fault Refusal :=
  done s (s.toDev.dupExpire delivery src sq portB)

/-- EGRESS_TRANSMIT (R288). -/
def execEgressTransmit (portB : Bool) (residence : Rat) (s : State) : Host.Outcome State Fault Refusal :=
  done s (s.toDev.egress portB residence)

/-- SUPERVISION_SEND (R289). -/
def execSupervisionSend (s : State) : Host.Outcome State Fault Refusal :=
  done s (s.toDev.supervision)

/-- RING_OPEN_TIMEOUT (R289). -/
def execRingOpenTimeout (s : State) : Host.Outcome State Fault Refusal :=
  done s (s.toDev.ringOpen)

/-- PTP_SYNC_RECEIVED (R295). -/
def execPtpSyncReceived (portB : Bool) (m : SyncIn) (s : State) : Host.Outcome State Fault Refusal :=
  done s (s.toDev.sync portB m)

/-- PTP_ANNOUNCE_RECEIVED (R294). -/
def execPtpAnnounceReceived (portB : Bool) (m : AnnounceIn) (s : State) : Host.Outcome State Fault Refusal :=
  done s (s.toDev.announce portB m)

/-- PTP_SYNC_TIMEOUT (R295). -/
def execPtpSyncTimeout (s : State) : Host.Outcome State Fault Refusal :=
  done s (s.toDev.syncTimeout)

/-- PDELAY_REQ_SEND (R297). -/
def execPdelayReqSend (portB : Bool) (s : State) : Host.Outcome State Fault Refusal :=
  done s (s.toDev.pdelayReq portB)

/-- PDELAY_MESSAGE_RECEIVED (R297). -/
def execPdelayMessageReceived (portB : Bool) (m : PdelayIn) (s : State) : Host.Outcome State Fault Refusal :=
  done s (s.toDev.pdelay portB m)

/-- PTP_SYNC_SEND (R299). -/
def execPtpSyncSend (s : State) : Host.Outcome State Fault Refusal :=
  done s (s.toDev.syncSend)

/-- PTP_ANNOUNCE_SEND (R299). -/
def execPtpAnnounceSend (s : State) : Host.Outcome State Fault Refusal :=
  done s (s.toDev.announceSend)

/-- S450_DATAGRAM_RECEIVED (R293). -/
def execS450DatagramReceived (srcIp : Word) (bytes : List Byte) (s : State) : Host.Outcome State Fault Refusal :=
  done s (s.toDev.s450 srcIp bytes)

/-- TNOW_READ (R303). -/
def execTnowRead (s : State) : Host.Outcome State Fault Refusal :=
  done s (s.toDev.tnow)

/-- EVT_IN_CAPTURE (R305). -/
def execEvtInCapture (falling : Bool) (e : HeldEdge) (s : State) : Host.Outcome State Fault Refusal :=
  done s (s.toDev.evtIn falling e.at_ e.held)

/-- EVT_POP (R305). -/
def execEvtPop (s : State) : Host.Outcome State Fault Refusal :=
  done s (s.toDev.evtPop)

/-- ALARM_ARM (R306). -/
def execAlarmArm (a : Fin 4) (v : Word) (s : State) : Host.Outcome State Fault Refusal :=
  done s (s.toDev.alarmArm a v)

/-- ALARM_FIRE (R306). -/
def execAlarmFire (a : Fin 4) (s : State) : Host.Outcome State Fault Refusal :=
  done s (s.toDev.alarmFire a)

/-- HEARTBEAT_RECEIVED (R317). -/
def execHeartbeatReceived (payload : List Byte) (s : State) : Host.Outcome State Fault Refusal :=
  done s (s.toDev.heartbeat payload)

/-- PEER_ABSENT (R317). -/
def execPeerAbsent (second : Bool) (s : State) : Host.Outcome State Fault Refusal :=
  done s (s.toDev.peerAbsent second)

/-- STANDING_FRAME_RECEIVED (R321). -/
def execStandingFrameReceived (payload : List Byte) (s : State) : Host.Outcome State Fault Refusal :=
  done s (s.toDev.standingFrame payload)

/-- WARDEN_LOST (R322). -/
def execWardenLost (s : State) : Host.Outcome State Fault Refusal :=
  done s (s.toDev.wardenGone)

/-- STATE_SET_PART_RECEIVED (R327). -/
def execStateSetPartReceived (payload : List Byte) (s : State) : Host.Outcome State Fault Refusal :=
  done s (s.toDev.setPart payload)

/-- TRACK_LOST (R328). -/
def execTrackLost (s : State) : Host.Outcome State Fault Refusal :=
  done s (s.toDev.trackGone)

/-- SWAP_DUE (R331). -/
def execSwapDue (s : State) : Host.Outcome State Fault Refusal :=
  done s (s.toDev.swapFalls)

/-- STANDING_SWAP_COMMAND (R331). -/
def execStandingSwapCommand (s : State) : Host.Outcome State Fault Refusal :=
  done s (s.toDev.swapCommand)

end Sys2Proof.Machine
end

