-- ==== Sys2Proof/Machine/CmdRecords.lean ====
section
/-! DEFINITION. Meanings of the commands of Thicket, the event recorder and the panel (chapters 13 to 15): one definition for each command, its effect on everything but the queue. -/

namespace Sys2Proof.Machine

/-- THICKET_REPORT (R370). -/
def execThicketReport (srcIp : Word) (bytes : List Byte) (a : ThktArrival) (s : State) : Host.Outcome State Fault Refusal :=
  done s (s.toDev.thktFrame srcIp bytes a.ns a.queued)

/-- RECORD_SIGNED (R380). -/
def execRecordSigned (s : State) : Host.Outcome State Fault Refusal :=
  done s (s.toDev.signHead)

/-- CUSTODY_HANDOFF (R449). -/
def execCustodyHandoff (s : State) : Host.Outcome State Fault Refusal :=
  done s (s.toDev.handoff)

/-- POINT_RELEASE_COMMAND (R381). -/
def execPointReleaseCommand (v : Word) (s : State) : Host.Outcome State Fault Refusal :=
  done s (s.toDev.releaseCommand v)

/-- POINT_LATCH (R383). -/
def execPointLatch (v : Word) (ecc : Fin 3) (s : State) : Host.Outcome State Fault Refusal :=
  done s (s.toDev.latchPoint v ecc)

/-- POINT_FIND (R383). -/
def execPointFind (v : Word) (s : State) : Host.Outcome State Fault Refusal :=
  done s (s.toDev.findStart v)

/-- POINT_FIND_DONE (R383). -/
def execPointFindDone (s : State) : Host.Outcome State Fault Refusal :=
  done s (s.toDev.findDone)

/-- EVENT_RECORD (R389). -/
def execEventRecord (s : State) : Host.Outcome State Fault Refusal :=
  done s (s.toDev.eventRecord)

/-- BUCKET_REFILL (R389). -/
def execBucketRefill (s : State) : Host.Outcome State Fault Refusal :=
  done s (s.toDev.refillBuckets)

/-- RINGLOG_WRITE (R394). -/
def execRinglogWrite (programOk : Bool) (s : State) : Host.Outcome State Fault Refusal :=
  done s (s.toDev.byGlade fun d => d.ringlogWrite programOk)

/-- NOR_ERASE (R395). -/
def execNorErase (eraseOk : Bool) (s : State) : Host.Outcome State Fault Refusal :=
  done s (s.toDev.byGlade fun d => d.norErase eraseOk)

/-- STATE_SAVE (R387). -/
def execStateSave (s : State) : Host.Outcome State Fault Refusal :=
  done s (s.toDev.byGlade Dev.stateSave)

/-- FREEZE_BEGIN (R396). -/
def execFreezeBegin (s : State) : Host.Outcome State Fault Refusal :=
  done s (s.toDev.freezeBegin)

/-- FREEZE_END (R396). -/
def execFreezeEnd (s : State) : Host.Outcome State Fault Refusal :=
  done s (s.toDev.freezeEnd)

/-- FREEZE_EXPIRY (R396). -/
def execFreezeExpiry (s : State) : Host.Outcome State Fault Refusal :=
  done s (s.toDev.freezeExpire)

/-- RECORDER_CLEAR (R397). -/
def execRecorderClear (v : Word) (s : State) : Host.Outcome State Fault Refusal :=
  done s (s.toDev.byGlade fun d => d.clearCommand v)

/-- CLEAR_COMPLETE (R397). -/
def execClearComplete (s : State) : Host.Outcome State Fault Refusal :=
  done s (s.toDev.byGlade Dev.clearComplete)

/-- PANEL_UPDATE_START (R404). -/
def execPanelUpdateStart (s : State) : Host.Outcome State Fault Refusal :=
  done s (s.toDev.byGlade Dev.panelStart)

/-- PWRGD_ARRIVAL (R402). -/
def execPwrgdArrival (tiles : List Nat) (s : State) : Host.Outcome State Fault Refusal :=
  done s (s.toDev.byGlade fun d => d.powerGood tiles)

/-- PG_TIMEOUT (R402). -/
def execPgTimeout (i2c : Bool) (s : State) : Host.Outcome State Fault Refusal :=
  done s (s.toDev.byGlade fun d => d.panelAbandon i2c)

/-- PANEL_UPDATE_END (R410). -/
def execPanelUpdateEnd (s : State) : Host.Outcome State Fault Refusal :=
  done s (s.toDev.byGlade Dev.panelEnd)

/-- PANEL_UPDATE_RETRY (R402). -/
def execPanelUpdateRetry (s : State) : Host.Outcome State Fault Refusal :=
  done s (s.toDev.byGlade Dev.panelRetry)

/-- PANEL_TEMP_READ (R406). -/
def execPanelTempRead (reading : Option Int) (s : State) : Host.Outcome State Fault Refusal :=
  done s (s.toDev.byGlade fun d => d.panelTemp reading)

/-- BARK_MEASURE (R409). -/
def execBarkMeasure (ohms : Nat) (s : State) : Host.Outcome State Fault Refusal :=
  done s (s.toDev.byGlade fun d => d.barkMeasure ohms)

/-- RINGCOUNT_SAVE (R408). -/
def execRingcountSave (s : State) : Host.Outcome State Fault Refusal :=
  done s (s.toDev.byGlade Dev.ringcountSave)

end Sys2Proof.Machine
end

