-- ==== Sys2Proof/Machine/CmdReset.lean ====
section
/-! DEFINITION. Meanings of the reset and clock commands (chapter 18): one definition for each command, its effect on everything but the queue. -/

namespace Sys2Proof.Machine

/-- POWER_ON (R457). -/
def execPowerOn (ustDown : Bool) (s : State) : Host.Outcome State Fault Refusal :=
  done s (s.toDev.powerOn ustDown)

/-- BROWN_OUT (R458). -/
def execBrownOut (mask : BitVec 6) (s : State) : Host.Outcome State Fault Refusal :=
  done s (s.toDev.brownOut mask.toNat)

/-- BROWN_OUT_RELEASE (R458). -/
def execBrownOutRelease (mask : BitVec 6) (s : State) : Host.Outcome State Fault Refusal :=
  done s (s.toDev.brownOutEnd mask.toNat)

/-- RST_N_ASSERT (R457). -/
def execRstNAssert (s : State) : Host.Outcome State Fault Refusal :=
  done s (s.toDev.rstPin)

/-- CLOCK_LOSS (R462). -/
def execClockLoss (s : State) : Host.Outcome State Fault Refusal :=
  done s (s.toDev.clockLoss)

/-- CLOCK_RETURN (R462). -/
def execClockReturn (outageUs : Nat) (s : State) : Host.Outcome State Fault Refusal :=
  done s (s.toDev.clockReturn outageUs)

/-- PLL_LOSS_OF_LOCK (R467). -/
def execPllLossOfLock (pllG : Bool) (s : State) : Host.Outcome State Fault Refusal :=
  done s (s.toDev.pllLoss pllG)

/-- RESET_ANNOUNCE (R461). -/
def execResetAnnounce (s : State) : Host.Outcome State Fault Refusal :=
  done s (s.toDev.resetAnnounce)

/-- RESET_TAKE_EFFECT (R461). -/
def execResetTakeEffect (s : State) : Host.Outcome State Fault Refusal :=
  done s (s.toDev.resetTakeEffect)

/-- RESET_RELEASE (R464). -/
def execResetRelease (st : StrapIn) (fu : FuseIn) (s : State) : Host.Outcome State Fault Refusal :=
  done s (s.toDev.resetRelease st fu)

/-- PLL_LOCK (R467). -/
def execPllLock (pllG : Bool) (s : State) : Host.Outcome State Fault Refusal :=
  done s (s.toDev.pllLock pllG)

end Sys2Proof.Machine
end

