-- ==== Sys2Proof/Machine/CmdSafe.lean ====
section
/-! DEFINITION. Meanings of the commands of the safety logic (chapter 12): one definition for each command, its effect on everything but the queue. -/

namespace Sys2Proof.Machine

/-- CANOPY_SAMPLE (R344). -/
def execCanopySample (a : BitVec 16) (b : BitVec 16) (cmpBad : BitVec 16) (s : State) : Host.Outcome State Fault Refusal :=
  done s (s.toDev.canopySample a b cmpBad)

/-- DISCREPANCY_TIMEOUT (R347). -/
def execDiscrepancyTimeout (i : Fin 16) (s : State) : Host.Outcome State Fault Refusal :=
  done s (s.toDev.discTimeout i)

/-- A scan end; a parity error in the configuration flops is a critical error besides (R337, R349, R457). -/
def Dev.scanCommand (s : Dev) (i : ScanIn) : Dev :=
  let d := s.scanEnd i
  if s.safe.halt || i.parityOk then d else d.criticalError 3 i.parityAddr.toNat

/-- CANOPY_SCAN_END (R349); a parity error takes its reset besides (R337, R457). -/
def execCanopyScanEnd (i : ScanIn) (s : State) : Host.Outcome State Fault Refusal :=
  done s (s.toDev.scanCommand i)

/-- READBACK_MISMATCH (R350). -/
def execReadbackMismatch (k : Fin 12) (high : Bool) (s : State) : Host.Outcome State Fault Refusal :=
  done s (s.toDev.rbMismatch k high)

/-- PERMIT_MISMATCH (R350). -/
def execPermitMismatch (k : Fin 12) (s : State) : Host.Outcome State Fault Refusal :=
  done s (s.toDev.permitMismatch k)

/-- DARK_TEST_DUE (R351). -/
def execDarkTestDue (k : Fin 12) (s : State) : Host.Outcome State Fault Refusal :=
  done s (s.toDev.darkDue k)

/-- DARK_TEST_CHECK (R351). -/
def execDarkTestCheck (rbHigh : Bool) (s : State) : Host.Outcome State Fault Refusal :=
  done s (s.toDev.darkCheck rbHigh)

/-- ROM_CRC_CHECK (R337). -/
def execRomCrcCheck (ok : Bool) (s : State) : Host.Outcome State Fault Refusal :=
  done s (s.toDev.romCheck ok)

/-- UST_HEARTBEAT_CHECK (R339). -/
def execUstHeartbeatCheck (changes : Nat) (s : State) : Host.Outcome State Fault Refusal :=
  done s (s.toDev.ustFreq changes)

/-- CANOPY_HEARTBEAT_LOST (R339). -/
def execCanopyHeartbeatLost (s : State) : Host.Outcome State Fault Refusal :=
  done s (s.toDev.hbLost)

/-- UST_INPUT_FILTER (R344). -/
def execUstInputFilter (i : Fin 16) (chB : Bool) (closed : Bool) (s : State) : Host.Outcome State Fault Refusal :=
  done s (s.toDev.ustFilter i chB closed)

/-- UST_READBACK_FAULT (R350). -/
def execUstReadbackFault (k : Fin 12) (s : State) : Host.Outcome State Fault Refusal :=
  done s (s.toDev.ustRb k)

/-- UST_DARK_SELF_CLOSE (R351). -/
def execUstDarkSelfClose (s : State) : Host.Outcome State Fault Refusal :=
  done s (s.toDev.selfClose)

/-- SAFE_RESET_PULSE (R357). -/
def execSafeResetPulse (widthMs : Nat) (rcCycles : Nat) (rb : BitVec 12) (memOk flowOk : Bool) (s : State) : Host.Outcome State Fault Refusal :=
  done s (s.toDev.safeReset widthMs rcCycles rb (memOk && flowOk))

/-- CANOPY_STARTUP (R359). -/
def execCanopyStartup (romOk : Bool) (memOk : Bool) (finding : Option (Bool × Fin 16 × Bool)) (s : State) : Host.Outcome State Fault Refusal :=
  done s (s.toDev.canopyStartup romOk memOk (finding.map fun x => (x.1, x.2.1.val, x.2.2)))

/-- UST_SUSPENSION_END (R359). -/
def execUstSuspensionEnd (s : State) : Host.Outcome State Fault Refusal :=
  done s (s.toDev.suspEnd)

/-- VDD_UST_POWER_ON (R356). -/
def execVddUstPowerOn (s : State) : Host.Outcome State Fault Refusal :=
  done s (s.toDev.ustPower)

/-- VDD_UST_LOW (R458). -/
def execVddUstLow (s : State) : Host.Outcome State Fault Refusal :=
  done s (s.toDev.ustLow)

/-- VDD_UST_RETURN (R458). -/
def execVddUstReturn (s : State) : Host.Outcome State Fault Refusal :=
  done s (s.toDev.ustReturn)

end Sys2Proof.Machine
end

