-- ==== Sys2Proof/Machine/CmdSequencer.lean ====
section
/-! DEFINITION. Meanings of the sequencer and register commands (chapter 01): one definition for each command, its effect on everything but the queue. -/

namespace Sys2Proof.Machine

/-- TICK (R26). -/
def execTick (i : TickIn) (s : State) : Host.Outcome State Fault Refusal :=
  done s (s.toDev.tickCommand i)

/-- CYCLE_BOUNDARY (R21). -/
def execCycleBoundary (i : BoundaryIn) (s : State) : Host.Outcome State Fault Refusal :=
  done s (s.toDev.cycleBoundary i)

/-- COMMIT (R55, R420): the commit that Glade has requested. -/
def execCommit (s : State) : Host.Outcome State Fault Refusal :=
  done s (s.toDev.commitNow)

/-- GATEWAY_SILENT (R375). -/
def execGatewaySilent (g : Fin 256) (s : State) : Host.Outcome State Fault Refusal :=
  done s (s.toDev.gatewayGone g)

/-- CAN_AUTOSTART (R257). -/
def execCanAutostart (c : Fin 8) (s : State) : Host.Outcome State Fault Refusal :=
  done s (s.toDev.autostart c)

/-- SLOT_OVERRUN (R33). -/
def execSlotOverrun (w : OverrunWork) (s : State) : Host.Outcome State Fault Refusal :=
  done s (s.toDev.overrun w)

/-- TICK_WATCHDOG_EXPIRY (R34). -/
def execTickWatchdogExpiry (s : State) : Host.Outcome State Fault Refusal :=
  done s (s.toDev.tickWatchdog)

/-- MODE_CMD_OPERATE (R38). -/
def execModeCmdOperate (s : State) : Host.Outcome State Fault Refusal :=
  done s (s.toDev.modeCommand 1)

/-- MODE_CMD_WATCH (R38). -/
def execModeCmdWatch (s : State) : Host.Outcome State Fault Refusal :=
  done s (s.toDev.modeCommand 2)

/-- TICK_CFG_WRITE (R25): the register takes the value, the boundary puts it in force. -/
def execTickCfgWrite (v : Word) (s : State) : Host.Outcome State Fault Refusal :=
  done s (s.toDev.store GLB_TICK_CFG v)

/-- TICK_LOAD_CLEAR (R35). -/
def execTickLoadClear (s : State) : Host.Outcome State Fault Refusal :=
  done s (s.toDev.loadClear)

/-- REGISTER_WRITE (R12, R14). -/
def execRegisterWrite (a : Addr) (v : Word) (s : State) : Host.Outcome State Fault Refusal :=
  done s (s.toDev.hostWriteOp a.toNat v)

/-- UNSUPPORTED_REQUEST (R15, R433). -/
def execUnsupportedRequest (_bar2 : Bool) (a : Addr) (size : Nat) (_write : Bool) (s : State) : Host.Outcome State Fault Refusal :=
  done s (s.toDev.badAccess a.toNat size)

/-- STOPPED_DOMAIN_ACCESS (R41, R492): by the host, or by the management core. -/
def execStoppedDomainAccess (a : Addr) (k : StopAccess) (s : State) : Host.Outcome State Fault Refusal :=
  done s (s.toDev.stoppedAccess k.mgt a.toNat)

end Sys2Proof.Machine
end

