-- ==== Sys2Proof/Machine/Dispatch.lean ====
section
/-! DEFINITION. exec: one arm per command of the opcode table, each one direct call of the command's meaning. -/

namespace Sys2Proof.Machine

open Sys2Proof

def exec (i : Instr) (s : State) : Host.Outcome State Fault Refusal :=
  match i with
  | .tick inp => Sys2Proof.Machine.execTick inp s
  | .cycleBoundary inp => Sys2Proof.Machine.execCycleBoundary inp s
  | .commit => Sys2Proof.Machine.execCommit s
  | .gatewaySilent g => Sys2Proof.Machine.execGatewaySilent g s
  | .canAutostart c => Sys2Proof.Machine.execCanAutostart c s
  | .slotOverrun w => Sys2Proof.Machine.execSlotOverrun w s
  | .tickWatchdogExpiry => Sys2Proof.Machine.execTickWatchdogExpiry s
  | .modeCmdOperate => Sys2Proof.Machine.execModeCmdOperate s
  | .modeCmdWatch => Sys2Proof.Machine.execModeCmdWatch s
  | .tickCfgWrite v => Sys2Proof.Machine.execTickCfgWrite v s
  | .tickLoadClear => Sys2Proof.Machine.execTickLoadClear s
  | .registerWrite a v => Sys2Proof.Machine.execRegisterWrite a v s
  | .unsupportedRequest bar2 a size write => Sys2Proof.Machine.execUnsupportedRequest bar2 a size write s
  | .stoppedDomainAccess a k => Sys2Proof.Machine.execStoppedDomainAccess a k s
  | .loopResume c => Sys2Proof.Machine.execLoopResume c s
  | .loopClear c => Sys2Proof.Machine.execLoopClear c s
  | .hostTargetWrite g v => Sys2Proof.Machine.execHostTargetWrite g v s
  | .originWrite lon v => Sys2Proof.Machine.execOriginWrite lon v s
  | .thrusterSelect v => Sys2Proof.Machine.execThrusterSelect v s
  | .groveLoad lane method accum n m corr => Sys2Proof.Machine.execGroveLoad lane method accum n m corr s
  | .groveEntry lane e corr => Sys2Proof.Machine.execGroveEntry lane e corr s
  | .groveRelease lane final amb corr => Sys2Proof.Machine.execGroveRelease lane final amb corr s
  | .grovePublish lane r => Sys2Proof.Machine.execGrovePublish lane r s
  | .groveDeadline lane iter cycles corr => Sys2Proof.Machine.execGroveDeadline lane iter cycles corr s
  | .groveSolveFailure lane f iter cycles corr => Sys2Proof.Machine.execGroveSolveFailure lane f iter cycles corr s
  | .laneClear lane => Sys2Proof.Machine.execLaneClear lane s
  | .feFault k gain atMax => Sys2Proof.Machine.execFeFault k gain atMax s
  | .feFaultClear k gain => Sys2Proof.Machine.execFeFaultClear k gain s
  | .channelDrop d => Sys2Proof.Machine.execChannelDrop d s
  | .acquisitionComplete ch sig svid f => Sys2Proof.Machine.execAcquisitionComplete ch sig svid f s
  | .spacingSettled sig => Sys2Proof.Machine.execSpacingSettled sig s
  | .holdoverEntry => Sys2Proof.Machine.execHoldoverEntry s
  | .localTimeSet => Sys2Proof.Machine.execLocalTimeSet s
  | .localTimeStep => Sys2Proof.Machine.execLocalTimeStep s
  | .slewComplete => Sys2Proof.Machine.execSlewComplete s
  | .holdWarnExceeded => Sys2Proof.Machine.execHoldWarnExceeded s
  | .ppsPulse => Sys2Proof.Machine.execPpsPulse s
  | .timeMessage => Sys2Proof.Machine.execTimeMessage s
  | .sentenceInterval u texts => Sys2Proof.Machine.execSentenceInterval u texts s
  | .leapSecond => Sys2Proof.Machine.execLeapSecond s
  | .sentenceReceived u m => Sys2Proof.Machine.execSentenceReceived u m s
  | .refSampleReceived uart bytes arrivalNs => Sys2Proof.Machine.execRefSampleReceived uart bytes arrivalNs s
  | .sarConversion slot code => Sys2Proof.Machine.execSarConversion slot code s
  | .calUpdate ofs ideal => Sys2Proof.Machine.execCalUpdate ofs ideal s
  | .sarEnable on => Sys2Proof.Machine.execSarEnable on s
  | .sdEnable on => Sys2Proof.Machine.execSdEnable on s
  | .bitstreamStuck st => Sys2Proof.Machine.execBitstreamStuck st s
  | .stuckEnd st => Sys2Proof.Machine.execStuckEnd st s
  | .chainRecord ch bits stamp coefBad => Sys2Proof.Machine.execChainRecord ch bits stamp coefBad s
  | .chainConfigWrite a v => Sys2Proof.Machine.execChainConfigWrite a v s
  | .coefApply chain => Sys2Proof.Machine.execCoefApply chain s
  | .coefApplyDone => Sys2Proof.Machine.execCoefApplyDone s
  | .quadTransition p qa qb => Sys2Proof.Machine.execQuadTransition p qa qb s
  | .quadZero p => Sys2Proof.Machine.execQuadZero p s
  | .canLeaveInit c v => Sys2Proof.Machine.execCanLeaveInit c v s
  | .canEnterInit c v => Sys2Proof.Machine.execCanEnterInit c v s
  | .canRecover c => Sys2Proof.Machine.execCanRecover c s
  | .canTb2Request c dlc => Sys2Proof.Machine.execCanTb2Request c dlc s
  | .canTb2Cancel c => Sys2Proof.Machine.execCanTb2Cancel c s
  | .canArbitrationWon c b late => Sys2Proof.Machine.execCanArbitrationWon c b late s
  | .canFrameSent c b sofNs delay => Sys2Proof.Machine.execCanFrameSent c b sofNs delay s
  | .canFrameReceived c f res stamp => Sys2Proof.Machine.execCanFrameReceived c f res stamp s
  | .canError c k conflict => Sys2Proof.Machine.execCanError c k conflict s
  | .canRecoveryDone c => Sys2Proof.Machine.execCanRecoveryDone c s
  | .canHpRelease c => Sys2Proof.Machine.execCanHpRelease c s
  | .canRxfPop c => Sys2Proof.Machine.execCanRxfPop c s
  | .rateFallbackTimer portB => Sys2Proof.Machine.execRateFallbackTimer portB s
  | .linkUp portB gig1 => Sys2Proof.Machine.execLinkUp portB gig1 s
  | .linkDown portB => Sys2Proof.Machine.execLinkDown portB s
  | .netCfgWrite v => Sys2Proof.Machine.execNetCfgWrite v s
  | .ringFrameReceived portB f => Sys2Proof.Machine.execRingFrameReceived portB f s
  | .prpFrameReceived portB f => Sys2Proof.Machine.execPrpFrameReceived portB f s
  | .duplicateEntryExpiry delivery src seq portB => Sys2Proof.Machine.execDuplicateEntryExpiry delivery src seq portB s
  | .egressTransmit portB residence => Sys2Proof.Machine.execEgressTransmit portB residence s
  | .supervisionSend => Sys2Proof.Machine.execSupervisionSend s
  | .ringOpenTimeout => Sys2Proof.Machine.execRingOpenTimeout s
  | .ptpSyncReceived portB m => Sys2Proof.Machine.execPtpSyncReceived portB m s
  | .ptpAnnounceReceived portB m => Sys2Proof.Machine.execPtpAnnounceReceived portB m s
  | .ptpSyncTimeout => Sys2Proof.Machine.execPtpSyncTimeout s
  | .pdelayReqSend portB => Sys2Proof.Machine.execPdelayReqSend portB s
  | .pdelayMessageReceived portB m => Sys2Proof.Machine.execPdelayMessageReceived portB m s
  | .ptpSyncSend => Sys2Proof.Machine.execPtpSyncSend s
  | .ptpAnnounceSend => Sys2Proof.Machine.execPtpAnnounceSend s
  | .s450DatagramReceived srcIp bytes => Sys2Proof.Machine.execS450DatagramReceived srcIp bytes s
  | .tnowRead => Sys2Proof.Machine.execTnowRead s
  | .evtInCapture falling e => Sys2Proof.Machine.execEvtInCapture falling e s
  | .evtPop => Sys2Proof.Machine.execEvtPop s
  | .alarmArm a v => Sys2Proof.Machine.execAlarmArm a v s
  | .alarmFire a => Sys2Proof.Machine.execAlarmFire a s
  | .heartbeatReceived payload => Sys2Proof.Machine.execHeartbeatReceived payload s
  | .peerAbsent second => Sys2Proof.Machine.execPeerAbsent second s
  | .standingFrameReceived payload => Sys2Proof.Machine.execStandingFrameReceived payload s
  | .wardenLost => Sys2Proof.Machine.execWardenLost s
  | .stateSetPartReceived payload => Sys2Proof.Machine.execStateSetPartReceived payload s
  | .trackLost => Sys2Proof.Machine.execTrackLost s
  | .swapDue => Sys2Proof.Machine.execSwapDue s
  | .standingSwapCommand => Sys2Proof.Machine.execStandingSwapCommand s
  | .canopySample a b cmpBad => Sys2Proof.Machine.execCanopySample a b cmpBad s
  | .discrepancyTimeout inp => Sys2Proof.Machine.execDiscrepancyTimeout inp s
  | .canopyScanEnd inp => Sys2Proof.Machine.execCanopyScanEnd inp s
  | .readbackMismatch k high => Sys2Proof.Machine.execReadbackMismatch k high s
  | .permitMismatch k => Sys2Proof.Machine.execPermitMismatch k s
  | .darkTestDue k => Sys2Proof.Machine.execDarkTestDue k s
  | .darkTestCheck rbHigh => Sys2Proof.Machine.execDarkTestCheck rbHigh s
  | .romCrcCheck ok => Sys2Proof.Machine.execRomCrcCheck ok s
  | .ustHeartbeatCheck changes => Sys2Proof.Machine.execUstHeartbeatCheck changes s
  | .canopyHeartbeatLost => Sys2Proof.Machine.execCanopyHeartbeatLost s
  | .ustInputFilter inp chB closed => Sys2Proof.Machine.execUstInputFilter inp chB closed s
  | .ustReadbackFault k => Sys2Proof.Machine.execUstReadbackFault k s
  | .ustDarkSelfClose => Sys2Proof.Machine.execUstDarkSelfClose s
  | .safeResetPulse widthMs rcCycles rb memOk flowOk => Sys2Proof.Machine.execSafeResetPulse widthMs rcCycles rb memOk flowOk s
  | .canopyStartup romOk memOk finding => Sys2Proof.Machine.execCanopyStartup romOk memOk finding s
  | .ustSuspensionEnd => Sys2Proof.Machine.execUstSuspensionEnd s
  | .vddUstPowerOn => Sys2Proof.Machine.execVddUstPowerOn s
  | .vddUstLow => Sys2Proof.Machine.execVddUstLow s
  | .thicketReport srcIp bytes a => Sys2Proof.Machine.execThicketReport srcIp bytes a s
  | .recordSigned => Sys2Proof.Machine.execRecordSigned s
  | .custodyHandoff => Sys2Proof.Machine.execCustodyHandoff s
  | .pointReleaseCommand v => Sys2Proof.Machine.execPointReleaseCommand v s
  | .pointLatch v ecc => Sys2Proof.Machine.execPointLatch v ecc s
  | .pointFind v => Sys2Proof.Machine.execPointFind v s
  | .pointFindDone => Sys2Proof.Machine.execPointFindDone s
  | .eventRecord => Sys2Proof.Machine.execEventRecord s
  | .bucketRefill => Sys2Proof.Machine.execBucketRefill s
  | .ringlogWrite programOk => Sys2Proof.Machine.execRinglogWrite programOk s
  | .norErase eraseOk => Sys2Proof.Machine.execNorErase eraseOk s
  | .stateSave => Sys2Proof.Machine.execStateSave s
  | .freezeBegin => Sys2Proof.Machine.execFreezeBegin s
  | .freezeEnd => Sys2Proof.Machine.execFreezeEnd s
  | .freezeExpiry => Sys2Proof.Machine.execFreezeExpiry s
  | .recorderClear v => Sys2Proof.Machine.execRecorderClear v s
  | .clearComplete => Sys2Proof.Machine.execClearComplete s
  | .panelUpdateStart => Sys2Proof.Machine.execPanelUpdateStart s
  | .pwrgdArrival tiles => Sys2Proof.Machine.execPwrgdArrival tiles s
  | .pgTimeout i2c => Sys2Proof.Machine.execPgTimeout i2c s
  | .panelUpdateEnd => Sys2Proof.Machine.execPanelUpdateEnd s
  | .panelUpdateRetry => Sys2Proof.Machine.execPanelUpdateRetry s
  | .panelTempRead reading => Sys2Proof.Machine.execPanelTempRead reading s
  | .barkMeasure ohms => Sys2Proof.Machine.execBarkMeasure ohms s
  | .ringcountSave => Sys2Proof.Machine.execRingcountSave s
  | .gladeBoot b => Sys2Proof.Machine.execGladeBoot b s
  | .gladeWatchdogExpiry => Sys2Proof.Machine.execGladeWatchdogExpiry s
  | .dieTempSample t => Sys2Proof.Machine.execDieTempSample t s
  | .supplySample mv => Sys2Proof.Machine.execSupplySample mv s
  | .supplyWindowFault m high => Sys2Proof.Machine.execSupplyWindowFault m high s
  | .ownerEnrol slot burnOk => Sys2Proof.Machine.execOwnerEnrol slot burnOk s
  | .ownerRevoke slot burnOk => Sys2Proof.Machine.execOwnerRevoke slot burnOk s
  | .imageSave ok block => Sys2Proof.Machine.execImageSave ok block s
  | .rollbackBurn => Sys2Proof.Machine.execRollbackBurn s
  | .sessionOpen slot level => Sys2Proof.Machine.execSessionOpen slot level s
  | .sessionVerify => Sys2Proof.Machine.execSessionVerify s
  | .sessionClose => Sys2Proof.Machine.execSessionClose s
  | .sessionCmdConflict v => Sys2Proof.Machine.execSessionCmdConflict v s
  | .challengeExpiry => Sys2Proof.Machine.execChallengeExpiry s
  | .sessionIdleExpiry => Sys2Proof.Machine.execSessionIdleExpiry s
  | .slotLockExpiry slot => Sys2Proof.Machine.execSlotLockExpiry slot s
  | .attestationRequest cert => Sys2Proof.Machine.execAttestationRequest cert s
  | .attestationReport => Sys2Proof.Machine.execAttestationReport s
  | .cmdDoorbell p v => Sys2Proof.Machine.execCmdDoorbell p v s
  | .repDoorbell p v => Sys2Proof.Machine.execRepDoorbell p v s
  | .descriptorFetchDone p ok => Sys2Proof.Machine.execDescriptorFetchDone p ok s
  | .ringEnable p report v => Sys2Proof.Machine.execRingEnable p report v s
  | .ringDisable p report v => Sys2Proof.Machine.execRingDisable p report v s
  | .ringClrErr p => Sys2Proof.Machine.execRingClrErr p s
  | .nopDescriptor p idx d => Sys2Proof.Machine.execNopDescriptor p idx d s
  | .setpointDescriptor p idx d => Sys2Proof.Machine.execSetpointDescriptor p idx d s
  | .groveCommandDescriptor p idx d entries => Sys2Proof.Machine.execGroveCommandDescriptor p idx d entries s
  | .canTransmitDescriptor p idx d far => Sys2Proof.Machine.execCanTransmitDescriptor p idx d far s
  | .imageDescriptor p idx d image => Sys2Proof.Machine.execImageDescriptor p idx d image s
  | .thicketReadout p idx d bad corr => Sys2Proof.Machine.execThicketReadout p idx d bad corr s
  | .recorderReadout p idx d => Sys2Proof.Machine.execRecorderReadout p idx d s
  | .unknownDescriptor p idx d => Sys2Proof.Machine.execUnknownDescriptor p idx d s
  | .msixMessage v => Sys2Proof.Machine.execMsixMessage v s
  | .vectorAck v => Sys2Proof.Machine.execVectorAck v s
  | .vectorUnmask v => Sys2Proof.Machine.execVectorUnmask v s
  | .pcieLinkDown => Sys2Proof.Machine.execPcieLinkDown s
  | .pcieLinkUp width speed => Sys2Proof.Machine.execPcieLinkUp width speed s
  | .hotReset => Sys2Proof.Machine.execHotReset s
  | .functionLevelReset => Sys2Proof.Machine.execFunctionLevelReset s
  | .d3hotEntry => Sys2Proof.Machine.execD3hotEntry s
  | .perstAssert => Sys2Proof.Machine.execPerstAssert s
  | .powerOn ustDown => Sys2Proof.Machine.execPowerOn ustDown s
  | .brownOut mask => Sys2Proof.Machine.execBrownOut mask s
  | .brownOutRelease mask => Sys2Proof.Machine.execBrownOutRelease mask s
  | .rstNAssert => Sys2Proof.Machine.execRstNAssert s
  | .clockLoss => Sys2Proof.Machine.execClockLoss s
  | .clockReturn outageUs => Sys2Proof.Machine.execClockReturn outageUs s
  | .pllLossOfLock pllG => Sys2Proof.Machine.execPllLossOfLock pllG s
  | .resetAnnounce => Sys2Proof.Machine.execResetAnnounce s
  | .resetTakeEffect => Sys2Proof.Machine.execResetTakeEffect s
  | .resetRelease st fu => Sys2Proof.Machine.execResetRelease st fu s
  | .pllLock pllG => Sys2Proof.Machine.execPllLock pllG s
  | .pulseEdge p falling e => Sys2Proof.Machine.execPulseEdge p falling e s
  | .ppsPulseEnd => Sys2Proof.Machine.execPpsPulseEnd s
  | .hostWaitExpiry => Sys2Proof.Machine.execHostWaitExpiry s
  | .carrierLockLost ch => Sys2Proof.Machine.execCarrierLockLost ch s
  | .carrierLockGained ch => Sys2Proof.Machine.execCarrierLockGained ch s
  | .navigationDataDecoded utcOfs leapAt => Sys2Proof.Machine.execNavigationDataDecoded utcOfs leapAt s
  | .vddUstReturn => Sys2Proof.Machine.execVddUstReturn s
  | .canArbitrationLost c b => Sys2Proof.Machine.execCanArbitrationLost c b s

end Sys2Proof.Machine
end

