-- ==== Sys2Proof/Safety.lean ====
section
/-! DEFINITION. What counts as safe: the outputs that Canopy and Understory allow, and a run that does not stop. -/

namespace Sys2Proof

/-- No output is on (R335). -/
def allOff (d : Machine.Dev) : Prop := ∀ k, k < 12 → d.soOn k = false

/-- Both technologies run, so that each copies the other's latch (R356). -/
def bothRun (d : Machine.Dev) : Prop := d.safe.halt = false ∧ d.safe.ustOn = true

/-- The registers of the safety logic show its state (R338, R356, R362): the permits and enables of SAFE_OUT_STAT, DEADFALL, the
table in force, Canopy's start-up and Understory's view of its heartbeat, and with both technologies running, both latches or none. -/
structure SafeShown (d : Machine.Dev) : Prop where
  out : d.rd Machine.SAFE_OUT_STAT = BitVec.ofNat 32 (Machine.outMaskOf d.canopyEn + 4096 * Machine.outMaskOf d.permit)
  deadfall : d.bit Machine.SAFE_STAT 0 = d.deadfall
  table : d.bit Machine.SAFE_STAT 1 = (d.safe.table && d.safe.up)
  up : d.bit Machine.SAFE_STAT 2 = d.safe.up
  alive : d.bit Machine.SAFE_STAT 3 = (d.safe.ustOn && d.safe.ustAlive)
  latches : bothRun d → d.safe.canopyLatch = d.safe.ustLatch

/-- The invariant of every step: the safety registers show the state, and in Deadfall, with both technologies running, no output
is on (R335, R338, R356). -/
structure SafeInv (d : Machine.Dev) : Prop where
  shown : SafeShown d
  off : bothRun d → d.deadfall = true → allOff d

/-- Every engine has as many windows as the manual gives it. -/
structure Shaped (d : Machine.Dev) : Prop where
  ctx : d.loop.ctx.length = 128
  gen : d.prof.gen.length = 131
  refs : d.est.refs.length = 7
  gyro : d.est.gyro.length = 3
  mru : d.est.mru.length = 2
  wind : d.est.wind.length = 2
  lane : d.grove.lane.length = 32
  gnss : d.gnss.chan.length = 192
  chain : d.acq.chain.length = 40
  pulse : d.acq.pulse.length = 8
  quad : d.acq.quad.length = 4
  can : d.can.ctl.length = 8
  field : d.can.field.length = 256
  pair : d.host.pair.length = 16
  chan : d.safe.chan.length = 32
  inp : d.safe.inp.length = 16
  out : d.safe.out.length = 12

/-- A step that neither faults nor is refused. -/
def runs (o : Host.Outcome Machine.State Machine.Fault Machine.Refusal) : Prop := ∃ t, o = .next t

/-- A command answers a next state under the same queue of waiting commands, and P holds of that state. -/
def Answers (c : Instr) (s : Machine.State) (P : Machine.State → Prop) : Prop :=
  ∃ t, Machine.exec c s = .next t ∧ t.pending = s.pending ∧ P t

/-- Every register but those listed, and but the two that always follow the safety logic's state, reads as before. -/
def RegsBut (l : List Nat) (s t : Machine.State) : Prop :=
  ∀ a, a ∉ l → a ≠ Machine.SAFE_OUT_STAT → a ≠ Machine.SAFE_STAT → t.rd a = s.rd a

/-- What the engines hold behind their registers: the device without registers, sequencer, safety logic and event list. -/
def blocks (d : Machine.Dev) : Machine.Dev := { d with regs := [], seq := {}, safe := {}, log := {} }

/-- The sequencer is as before, but for the count of free values drawn. -/
def SeqKept (s t : Machine.State) : Prop := { t.seq with freeCtr := s.seq.freeCtr } = s.seq

/-- The recorder is as before, but for events raised. -/
def LogKept (s t : Machine.State) : Prop := { t.log with raised := s.log.raised } = s.log

/-- The safety logic is as before, but that the latches have been copied (R356). -/
def SafetyKept (s t : Machine.State) : Prop := t.safe = s.copyLatches.safe

/-- The frame of a command that writes the listed registers and leaves the engines as b says: the other registers, the sequencer,
the recorder and the safety logic are as before. -/
def Framed (l : List Nat) (s t : Machine.State) (b : Machine.Dev) : Prop :=
  RegsBut l s t ∧ blocks t.toDev = b ∧ SeqKept s t ∧ LogKept s t ∧ SafetyKept s t

/-- The frame of a command that writes the listed registers alone: the engines too are as before. -/
def OnlyRegs (l : List Nat) (s t : Machine.State) : Prop := Framed l s t (blocks s.toDev)

/-- No event is raised. -/
def NoEvent (s t : Machine.State) : Prop := t.log.raised = s.log.raised

/-- Exactly one event is raised, with this code and these parameters. -/
def OneEvent (s t : Machine.State) (code : Nat) (p1 p2 : Word) : Prop :=
  ∃ e, t.log.raised = s.log.raised ++ [e] ∧ e.code = code ∧ e.p1 = p1 ∧ e.p2 = p2

end Sys2Proof
end

