-- ==== Sys2Proof/Certificates/Slice0/Obligations.lean ====
section
/-! DEFINITION. The statements for the provers: one Prop each, grouped as the chapters of the manual are. -/

open Sys2Proof Sys2Proof.Machine

/-! The machine as a whole. -/

/-- The command changes nothing: no register but those that always follow the safety logic, no engine, no event. -/
def NoEffect (c : Instr) (s : State) : Prop := Answers c s fun t => OnlyRegs [] s t ∧ NoEvent s t

/-- The command writes these registers and nothing else. -/
def Quiet (l : List Nat) (s t : State) : Prop := OnlyRegs l s t ∧ NoEvent s t

/-- A step takes the command at the front of the queue and runs it with the rest of the queue (log entry 1). With no command
waiting the block idles (DESIGN CHOICE, log entry 1). -/
def Obligations.FrontOfQueue : Prop :=
  (∀ (c : Instr) (cs : List Instr) (s : State), s.pending = c :: cs → step s = exec c { s with pending := cs }) ∧
  (∀ s : State, s.pending = [] → step s = .next s)

/-- Every command answers a next state and leaves the queue to the step (log entry 1). -/
def Obligations.EveryCommandAnswers : Prop := ∀ (c : Instr) (s : State), Answers c s fun _ => True

/-- After reset no command waits, and every register is at its reset value (R16). The safety invariant holds after reset
(R335, R338, R356). After reset every engine has the windows that the manual gives it. -/
def Obligations.ResetState : Prop :=
  (State.reset.pending = [] ∧ ∀ a, State.reset.rd a = regReset a) ∧
  (SafeInv State.reset.toDev) ∧
  (Shaped State.reset.toDev)

/-- Every step keeps the safety invariant: the permits, enables and latches show the state, and in Deadfall, with both
technologies running, no output is on (R335, R338, R356, R362). -/
def Obligations.StepKeepsSafe : Prop :=
  ∀ s t : State, SafeInv s.toDev → step s = .next t → SafeInv t.toDev

/-- Every step keeps the windows: no command adds or removes a context, generator, lane, channel, controller or ring. -/
def Obligations.StepKeepsShape : Prop :=
  ∀ s t : State, Shaped s.toDev → step s = .next t → Shaped t.toDev

/-- After any command, from any state, the registers of the safety logic show its state, and the outputs are off when a
latch is set and both technologies run (R338, R356, R362). -/
def Obligations.EveryCommandSettles : Prop :=
  ∀ (c : Instr) (s t : State), exec c s = .next t → SafeInv t.toDev

/-- Fuses of owners and rollback change by the commands that burn them alone (R419, R423): an enrolment, a revocation, a
rollback burn, and the register writes that command the first two; and by a reset that cuts a rollback burn short, which leaves a
value that is open (R423, log entry 94). -/
def Obligations.FusesBurnByCommandAlone : Prop :=
  ∀ (c : Instr) (s t : State), exec c s = .next t →
    (∀ k ok, c ≠ .ownerEnrol k ok) → (∀ k ok, c ≠ .ownerRevoke k ok) → c ≠ .rollbackBurn → (∀ a v, c ≠ .registerWrite a v) →
    t.glade.owner = s.glade.owner ∧ t.glade.enrolled = s.glade.enrolled ∧ t.glade.revoked = s.glade.revoked ∧
      (s.glade.burns = [] ∨ ((∀ u, c ≠ .powerOn u) ∧ c ≠ .resetTakeEffect ∧ c ≠ .clockLoss ∧ ∀ g, c ≠ .pllLossOfLock g) →
        t.glade.rb = s.glade.rb)

/-- Commands that may act on the safety logic: its own inputs, checks and tests, its supply, the boot that loads its table, and
the resets that it is told of (R335 to R361, R426). -/
def reachesSafety : Instr → Bool
  | .canopySample .. | .discrepancyTimeout .. | .canopyScanEnd .. | .readbackMismatch .. | .permitMismatch .. => true
  | .darkTestDue .. | .darkTestCheck .. | .romCrcCheck .. | .ustHeartbeatCheck .. | .canopyHeartbeatLost => true
  | .ustInputFilter .. | .ustReadbackFault .. | .ustDarkSelfClose | .safeResetPulse .. | .canopyStartup .. => true
  | .ustSuspensionEnd | .vddUstPowerOn | .vddUstLow | .vddUstReturn => true
  | .gladeBoot .. | .hostWaitExpiry | .imageDescriptor .. => true
  | .powerOn .. | .clockLoss | .pllLossOfLock .. | .resetAnnounce | .resetTakeEffect | .resetRelease .. => true
  | _ => false

/-- Nothing else reaches the safety logic: a register write, a commit, a frame, a tick or any other command outside that list leaves
its state as it was, but that each technology copies the other's latch (R14, R335, R356). -/
def Obligations.SafetyLogicIsolated : Prop :=
  ∀ (c : Instr) (s t : State), exec c s = .next t → reachesSafety c = false → SafetyKept s t

/-- The mode and the count of cycles change at a cycle boundary alone, and with a reset (R38, R42, R463). -/
def Obligations.ModeChangesAtBoundary : Prop :=
  ∀ (c : Instr) (s t : State), exec c s = .next t → (∀ i, c ≠ .cycleBoundary i) → (∀ d, c ≠ .powerOn d) →
    c ≠ .resetTakeEffect → c ≠ .clockLoss → (∀ g, c ≠ .pllLossOfLock g) → t.mode = s.mode ∧ t.cycles = s.cycles

/-! The sequencer and the register port (chapter 01). -/

/-- MODE_CMD and TICK_LOAD_CLR only leave a request for the boundary (R35, R38): no register changes with the command. A
write of GLB_TICK_CFG sets its RW bits at once, and the settings in force stay until the boundary (R12, R25). -/
def Obligations.BoundaryRequests : Prop :=
  (∀ s : State,
      Answers .modeCmdOperate s (fun t => t.seq = { s.seq with heldCmd := 1 } ∧ RegsBut [] s t ∧
        blocks t.toDev = blocks s.toDev
        ∧ t.log = s.log ∧ SafetyKept s t) ∧
      Answers .modeCmdWatch s (fun t => t.seq = { s.seq with heldCmd := 2 } ∧ RegsBut [] s t ∧ blocks t.toDev = blocks s.toDev
        ∧ t.log = s.log ∧ SafetyKept s t) ∧
      Answers .tickLoadClear s (fun t => t.seq = { s.seq with loadClr := true } ∧ RegsBut [] s t
        ∧ blocks t.toDev = blocks s.toDev ∧ t.log = s.log ∧ SafetyKept s t)) ∧
  (∀ (v : Word) (s : State), Answers (.tickCfgWrite v) s fun t =>
      t.rd GLB_TICK_CFG = ((s.rd GLB_TICK_CFG &&& 0x0000FFFC#32) ||| (v &&& 0xFFFF0003#32)) ∧
      OnlyRegs [GLB_TICK_CFG] s t ∧ NoEvent s t)

/-- Bit of GLB_OVR_STAT, event code and parameters of an overrun (R33). -/
def overrunMark (s : State) : OverrunWork → Nat × Nat × Nat × Nat
  | .profile first count => (0, 0x03F0, first, count)
  | .loop first count => (1, 0x02F0, first, count)
  | .estimator => (2, 0x04F0, s.roleLaneNo 0, s.roleCode 0)
  | .intact => (3, 0x05F0, s.roleLaneNo 2, s.roleCode 2)
  | .consequence first count => (4, 0x05F1, first, count)
  | .bundle => (5, 0x04F1, s.roleLaneNo 1, s.bndSlice)

/-- An overrun sets its bit, counts in OVR_TOTAL, which saturates, and raises its event (R33); in a cycle whose Grove work a
step has discarded, the slots of the Grove raise none (R23). -/
def Obligations.SlotOverruns : Prop :=
  ∀ (w : OverrunWork) (s : State),
    (s.seq.abortGrove = false ∨ (∃ a b, w = .profile a b) ∨ (∃ a b, w = .loop a b) → Answers (.slotOverrun w) s fun t =>
      t.bit GLB_OVR_STAT (overrunMark s w).1 = true ∧
      (∀ k, k ≠ (overrunMark s w).1 → t.bit GLB_OVR_STAT k = s.bit GLB_OVR_STAT k) ∧
      t.fld GLB_OVR_CNT 15 0 = min 65535 (s.fld GLB_OVR_CNT 15 0 + 1) ∧
      OneEvent s t (overrunMark s w).2.1 (BitVec.ofNat 32 (overrunMark s w).2.2.1) (BitVec.ofNat 32 (overrunMark s w).2.2.2) ∧
      OnlyRegs [GLB_OVR_STAT, GLB_OVR_CNT] s t) ∧
    (s.seq.abortGrove = true → (∀ a b, w ≠ .profile a b) → (∀ a b, w ≠ .loop a b) → Answers (.slotOverrun w) s fun t =>
      OnlyRegs [] s t ∧ NoEvent s t)

/-- A tick starts the next tick number, modulo 80 (R10, R26). In the adjusted tick of a step, local time ends exactly at the
step's length after its start, and the sequencer leaves free-running aligned (R23). -/
def Obligations.TickAdvances : Prop :=
  ∀ (i : TickIn) (s : State), i.critical = none →
    Answers (.tick i) s (fun t => t.seq.nextTick = (s.seq.nextTick + 1) % 80) ∧
    (∀ r, s.seq.adjLen = some r → Answers (.tick i) s fun t =>
      t.clk.localNs = s.clk.localNs + r ∧ t.bit GLB_TICK_STAT 10 = false ∧ t.bit GLB_TICK_STAT 8 = true)

/-- A cycle boundary consumes the held mode command, puts GLB_TICK_CFG in force, and counts the cycle, but for the first
after a release, which begins cycle 0 (R25, R38, R42). The mode after a boundary (R38): from Watch to Arming by OPERATE where
nothing refuses it, from Arming to Operate at the next boundary, and back to Watch by WATCH or without a commission; any
other boundary leaves it. -/
def Obligations.CycleBoundary : Prop :=
  (∀ (i : BoundaryIn) (s : State), Answers (.cycleBoundary i) s fun t =>
      t.seq.heldCmd = 0 ∧ t.seq.tickCfg = s.rd GLB_TICK_CFG ∧
      (s.seq.cyc = 0 → t.cycles = s.cycles) ∧ (s.seq.cyc ≠ 0 → t.cycles = (s.cycles + 1) % 2 ^ 32) ∧
      t.fld LOOP_ENG_STAT 6 0 = t.runCnt % 128) ∧
  (∀ (i : BoundaryIn) (s : State), Answers (.cycleBoundary i) s fun t =>
      (s.mode = 0 → s.seq.heldCmd = 1 → s.operateRefused = 0 → t.mode = 1) ∧
      (s.mode = 0 → s.seq.heldCmd ≠ 1 ∨ s.operateRefused ≠ 0 → t.mode = 0) ∧
      (s.mode = 1 ∨ s.mode = 2 → s.seq.heldCmd ≠ 2 → s.commissioned = true → t.mode = 2) ∧
      (s.mode = 1 ∨ s.mode = 2 → s.seq.heldCmd = 2 ∨ s.commissioned = false → t.mode = 0))

/-- While the mode is Arming or Operate, phase error is corrected by slewing alone: the boundary sets no adjusted tick, and a tick
then lasts 78,124, 78,125 or 78,126 cycles, a correction of at most 3.2 ns per tick, 256 ns per cycle of 80 ticks and 12,800 ns
per 4,000 ticks (R22). -/
def Obligations.OperateSlewsOnly : Prop :=
  (∀ (s : State) (i : BoundaryIn), s.mode ≠ 0 → Answers (.cycleBoundary i) s fun t => t.seq.adjLen = none) ∧
  (∀ (s : State) (i : TickIn), i.critical = none → s.seq.adjLen = none →
    Answers (.tick i) s fun t => t.seq.cyc = s.seq.cyc + s.tickLength s.seq.nextTick) ∧
  (∀ (s : Dev) (n : Nat), s.tickLength n ∈ [78124, 78125, 78126] ∧
    absRat (((s.tickLength n : Rat) - 78125) * (16 / 5)) ≤ 16 / 5 ∧ 80 * (16 / 5 : Rat) = 256 ∧ 4000 * (16 / 5 : Rat) = 12800)

/-- A register write at an address that is no multiple of 4, and any access that is not a naturally aligned 32-bit access,
completes with Unsupported Request and changes no state but the completion that the host sees (R15, R433). The premise is the
safety invariant, which every command leaves (EveryCommandSettles). -/
def Obligations.UnsupportedAccess : Prop :=
  ∀ (bar2 write : Bool) (a : Addr) (size : Nat) (v : Word) (s : State) (c : Instr), SafeInv s.toDev →
    (c = .unsupportedRequest bar2 a size write ∧ (size ≠ 4 ∨ a.toNat % 4 ≠ 0)) ∨ (c = .registerWrite a v ∧ a.toNat % 4 ≠ 0) →
      Answers c s fun t => t.seq = { s.seq with hostCpl := .unsupported } ∧ (∀ x, t.rd x = s.rd x) ∧
        blocks t.toDev = blocks s.toDev ∧ t.log = s.log ∧ t.safe = s.safe

/-- A register write in RST, PIN or BLZ acts by access type: RW bits take the value, W1C bits written 1 clear, the rest
stays, and no other register changes; where no register stands, and in SAFE, the write is discarded (R12, R14). An access of
the host to a domain whose clock is stopped ends in a completion timeout; one of the management core leaves Glade hanging;
neither reaches a register (R41, R492). -/
def Obligations.RegisterAccess : Prop :=
  (∀ (a : Addr) (v : Word) (s : State), a.toNat % 4 = 0 →
      (∀ r, blockOf a.toNat = .rst ∨ blockOf a.toNat = .pin ∨ blockOf a.toNat = .blz → regRow a.toNat = some r →
        Answers (.registerWrite a v) s fun t =>
          t.rd a.toNat = (((s.rd a.toNat &&& ~~~ BitVec.ofNat 32 r.rw) ||| (v &&& BitVec.ofNat 32 r.rw)) &&&
            ~~~ (v &&& BitVec.ofNat 32 r.w1c)) ∧
          RegsBut [a.toNat] s t ∧ NoEvent s t ∧ blocks t.toDev = blocks s.toDev ∧ t.seq.hostCpl = .ok) ∧
      ((blockOf a.toNat = .rst ∨ blockOf a.toNat = .pin ∨ blockOf a.toNat = .blz) ∧ regRow a.toNat = none ∨
        blockOf a.toNat = .safe → Answers (.registerWrite a v) s fun t =>
          RegsBut [] s t ∧ NoEvent s t ∧ blocks t.toDev = blocks s.toDev ∧ t.seq.hostCpl = .ok)) ∧
  (∀ (a : Addr) (write : Bool) (s : State),
      Answers (.stoppedDomainAccess a ⟨false, write⟩) s (fun t =>
        t.seq = { s.seq with hostCpl := .timeout } ∧ RegsBut [] s t ∧ t.log = s.log ∧
        blocks t.toDev = { blocks s.toDev with rst.stopped := t.rst.stopped } ∧
        (s.bit RST_DOM_STAT (blockDomain (blockOf a.toNat)) = false → t.rst = s.rst)) ∧
      Answers (.stoppedDomainAccess a ⟨true, write⟩) s (fun t =>
        t.seq = s.seq ∧ RegsBut [] s t ∧ t.log = s.log ∧
        blocks t.toDev = { blocks s.toDev with rst.stopped := t.rst.stopped, glade.hung := true }))

/-- What a commit that Glade has requested would make live: the device without the request, and the tables of the image, of
which boot writes released domains alone (R55, R420, R465). -/
def commitTables (s : State) (j : ImgJob) : Dev × Dev :=
  let d : Dev := { s.toDev with glade.job := none }
  let ws := if j.boot then s.bootable (imgWrites j.bytes) else imgWrites j.bytes
  (d, d.withTables ws ((((imgSects j.bytes).getD []).find? fun x => x.1 == 4).map Prod.snd))

/-- A commit that passes its checks sets COMMISSIONED, one that a block refuses records that block's event and changes no table
of the Loom, and without a request nothing changes (R37, R55, R420, R424). -/
def Obligations.CommitTakesEffect : Prop :=
  ∀ s : State,
    (s.glade.job = none → Answers .commit s fun t => OnlyRegs [] s t ∧ NoEvent s t) ∧
    (∀ j, s.glade.job = some j → j.wait = 1 →
      (commitFault (commitTables s j).1 (commitTables s j).2 (((imgSects j.bytes).getD []).map Prod.fst) = none →
        j.boot = true ∨ (commitTables s j).1.safeRefused j.bytes = none →
        Answers .commit s fun t => t.commissioned = true ∧ t.bit GLB_HW_STAT 2 = true ∧ t.est.model = (commitTables s j).2.est.model ∧
          t.est.originRule = (commitTables s j).2.est.originRule) ∧
      (∀ code p1 p2, commitFault (commitTables s j).1 (commitTables s j).2 (((imgSects j.bytes).getD []).map Prod.fst) =
          some (code, p1, p2) →
        Answers .commit s fun t => t.commissioned = s.commissioned ∧ t.glade.job = none ∧ t.loop = s.loop ∧ t.prof = s.prof ∧
          t.est = s.est ∧ t.alloc = s.alloc ∧
          ∃ e, e ∈ t.log.raised ∧ e.code = code ∧ e.p1 = BitVec.ofNat 32 p1 ∧ e.p2 = BitVec.ofNat 32 p2))

/-! Engines: loop, profiles, origin, allocation, Grove (chapters 02 to 06). -/

/-- LOOP_RESUME and LOOP_CLEAR put the context and the command into LOOP_CMD_STAT and leave them to the boundary; whether a
session of the level is open is noted as the write arrives, and the check that passes restarts its idle time (R79, R427). -/
def Obligations.LoopCommands : Prop :=
  ∀ (c : Fin 128) (s : State),
    Answers (.loopResume c) s (fun t => t.fld LOOP_CMD_STAT 6 0 = c ∧ t.fld LOOP_CMD_STAT 9 8 = 1 ∧
      t.bit LOOP_CMD_STAT 16 = true ∧
      t.loop = { s.loop with cmd := some { ctx := c, op := 1, sessOk := s.sessOk 0 } } ∧
      t.glade.idleAt = (if s.sessOk 0 then s.seq.cyc else s.glade.idleAt) ∧
      Framed [LOOP_CMD_STAT] s t { blocks s.toDev with loop := t.loop, glade.idleAt := t.glade.idleAt } ∧ NoEvent s t) ∧
    Answers (.loopClear c) s (fun t => t.fld LOOP_CMD_STAT 6 0 = c ∧ t.fld LOOP_CMD_STAT 9 8 = 2 ∧
      t.bit LOOP_CMD_STAT 16 = true ∧
      t.loop = { s.loop with cmd := some { ctx := c, op := 2, sessOk := true } } ∧
      Framed [LOOP_CMD_STAT] s t { blocks s.toDev with loop := t.loop } ∧ NoEvent s t)

/-- A write of a host target stands in its register as a PBV value and waits for the generator (R98), but for generator 0,
which has no host target; LANE_CLEAR zeroes the two maxima of its lane (R203). ORIGIN_WRITE sets the written coordinate of
the working origin while the mode is Watch, and is refused in service; both raise event 0x040B (R109). THRUSTER_SELECT takes
the value into ALLOC_THR_EN where the session that the Heartwood asks for is open, and is discarded whole otherwise (R148,
R427; the discard of the whole write is the model's reading). -/
def Obligations.EngineRegisterWrites : Prop :=
  (∀ (g : Fin 131) (l : Fin 32) (v : Word) (s : State),
      (g.val ≠ 0 → Answers (.hostTargetWrite g v) s fun t => t.rd (PROF_HTGT g) = v &&& BitVec.ofNat 32 pbvMask ∧
        (Shaped s.toDev → (t.gen g).hostNew = some (v &&& BitVec.ofNat 32 pbvMask)) ∧
        Framed [PROF_HTGT g] s t { blocks s.toDev with prof := t.prof } ∧ NoEvent s t) ∧
      (g.val = 0 → Answers (.hostTargetWrite g v) s fun t => OnlyRegs [] s t ∧ NoEvent s t) ∧
      Answers (.laneClear l) s (fun t => t.rd (GROVE_LANE_TMAX l) = 0#32 ∧ t.fld (GROVE_LANE_ITER l) 25 16 = 0 ∧
        t.fld (GROVE_LANE_ITER l) 9 0 = s.fld (GROVE_LANE_ITER l) 9 0 ∧
        OnlyRegs [GROVE_LANE_TMAX l, GROVE_LANE_ITER l] s t ∧ NoEvent s t)) ∧
  (∀ (lon : Bool) (v : Word) (s : State),
      (s.mode = 0 → Answers (.originWrite lon v) s fun t =>
        (if lon then t.est.originLon = some v ∧ t.est.originLat = s.est.originLat
          else t.est.originLat = some v ∧ t.est.originLon = s.est.originLon) ∧ t.est.originWritten = true ∧
        OneEvent s t 0x040B 0 1 ∧ Framed [] s t { blocks s.toDev with est := t.est }) ∧
      (s.mode ≠ 0 → Answers (.originWrite lon v) s fun t => OneEvent s t 0x040B 0 0 ∧ OnlyRegs [] s t)) ∧
  (∀ (v : Word) (s : State),
      (s.sessOk 1 = true → Answers (.thrusterSelect v) s fun t => t.rd ALLOC_THR_EN = ((s.rd ALLOC_THR_EN &&& 0xFF000000#32) ||| (v &&& 0x00FFFFFF#32)) ∧
        t.alloc = { s.alloc with selPending := some (v &&& 0x00FFFFFF#32) } ∧
        Framed [ALLOC_THR_EN] s t { blocks s.toDev with alloc := t.alloc, glade.idleAt := s.seq.cyc } ∧ NoEvent s t) ∧
      (s.sessOk 1 = false → Answers (.thrusterSelect v) s fun t => OnlyRegs [] s t ∧ NoEvent s t))

/-- Writes of a problem into a lane (R177): a LOAD of an allowed shape into an Empty or Ready lane makes it Ready with that method
and shape and no resident entry; an entry inside the shape leaves the lane Ready, and one of A stands in its row under the shared
exponent; each write in the wrong state, or of a shape that does not exist, is refused and counted. The words that the lane's
memory corrects are counted (R187). -/
def Obligations.LaneWrites : Prop :=
  ∀ (l : Fin 32) (m3 : BitVec 3) (accum : Bool) (n m : Byte) (e : GroveEntryIn) (corr : List Nat) (s : State),
    (s.laneState l ≤ 1 → shapeOk m3.toNat accum n.toNat m.toNat = true → Answers (.groveLoad l m3 accum n m corr) s fun t =>
      t.laneState l = 1 ∧ t.laneMethod l = m3.toNat ∧ t.laneAccum l = accum ∧ t.laneN l = n.toNat ∧ t.laneM l = m.toNat ∧
      t.fld GROVE_ECC_CNT 15 0 = min 65535 (s.fld GROVE_ECC_CNT 15 0 + corr.length) ∧
      t.log.raised.length = s.log.raised.length + corr.length ∧
      (Shaped s.toDev → (t.lane l).rows = [] ∧ (t.lane l).ovr = [] ∧ (t.lane l).fac = [] ∧ (t.lane l).active = []) ∧
      Framed [GROVE_ECC_CNT, GROVE_LANE_STAT l, GROVE_LANE_SHAPE l] s t { blocks s.toDev with grove := t.grove }) ∧
    (2 ≤ s.laneState l ∨ shapeOk m3.toNat accum n.toNat m.toNat = false → Answers (.groveLoad l m3 accum n m corr) s fun t =>
      t.fld GROVE_REFUSED 31 0 = min 4294967295 (s.fld GROVE_REFUSED 31 0 + 1) ∧ OnlyRegs [GROVE_ECC_CNT, GROVE_REFUSED] s t) ∧
    (s.laneState l = 1 → s.entryInside l e = true → Answers (.groveEntry l e corr) s fun t => t.laneState l = 1 ∧
      (Shaped s.toDev → e.region = 0 →
        (t.lane l).rows = rowsPut (s.lane l).rows (laneKey 0 e.sel.toNat e.row.toNat) e.col.toNat (gval e.exp e.mant)) ∧
      (Shaped s.toDev → e.region = 1 → (t.lane l).hChanged = true ∧ (t.lane l).active = []) ∧
      Framed [GROVE_ECC_CNT] s t { blocks s.toDev with grove := t.grove }) ∧
    (s.laneState l = 1 → s.entryInside l e = false → Answers (.groveEntry l e corr) s fun t => t.laneState l = 0 ∧
      t.fld GROVE_REFUSED 31 0 = min 4294967295 (s.fld GROVE_REFUSED 31 0 + 1) ∧
      Framed [GROVE_ECC_CNT, GROVE_REFUSED, GROVE_LANE_STAT l] s t { blocks s.toDev with grove := t.grove }) ∧
    (s.laneState l ≠ 1 → Answers (.groveEntry l e corr) s fun t =>
      t.fld GROVE_REFUSED 31 0 = min 4294967295 (s.fld GROVE_REFUSED 31 0 + 1) ∧ OnlyRegs [GROVE_ECC_CNT, GROVE_REFUSED] s t)

/-- Nothing follows the end of the lane's release: no further consequence group, and no rest of a bundle slice (R172, R178). -/
def lastRelease (s : State) (l : Nat) : Prop :=
  (s.lane l).grp = none ∧ (s.laneRole l = 1 → s.est.bundleReleased = true → s.est.bundleRows.drop s.chunk = [])

/-- A release makes a Ready lane Solving, outside a cycle whose Grove work a step discards and where no row overflows, which end
it with codes 3 and 11 (R23, R183); an Empty lane answers with code 5, a Solving or Retired lane refuses (R177, R178). A Solving
lane that comes to its end stops (R189, R196): a publication shows code 0 and, but for an absorption without FINAL, VALID and the
result; a pivot or the final check that fails shows its code; the deadline shows code 1, a failure its own code 2 or 8 to 13, and
all these count. The lane is Ready after it, Empty after code 13, or Retired where the count of failures of class 4 asks for that
(R193, R200). -/
def Obligations.LaneReleaseAndStops : Prop :=
  (∀ (l : Fin 32) (final : Bool) (amb : Nat) (corr : List Nat) (s : State),
      (s.laneState l = 1 → s.seq.abortGrove = false → (s.lane l).rows.any LaneRow.ovf = false →
        Answers (.groveRelease l final amb corr) s fun t => t.laneState l = 2 ∧
        (∀ hi lo, 2 ≤ lo → t.fld (GROVE_LANE_STAT l) hi lo = s.fld (GROVE_LANE_STAT l) hi lo) ∧
        (Shaped s.toDev → (t.lane l).final = final ∧ (t.lane l).rows = (s.lane l).rows.map renormRow) ∧
        Framed [GROVE_ECC_CNT, GROVE_LANE_STAT l] s t { blocks s.toDev with grove := t.grove }) ∧
      (∀ code, s.laneState l = 1 → (s.seq.abortGrove = true ∧ code = 3) ∨
          (s.seq.abortGrove = false ∧ (s.lane l).rows.any LaneRow.ovf = true ∧ code = 11) →
        Answers (.groveRelease l final amb corr) s fun t => t.laneState l = 1 ∧ t.fld (GROVE_LANE_STAT l) 15 12 = code ∧
          t.fld (GROVE_LANE_STAT l) 18 16 = codeClass code ∧
          t.fld GROVE_ERR_TOTAL 31 0 = min 4294967295 (s.fld GROVE_ERR_TOTAL 31 0 + 1)) ∧
      (s.laneState l = 0 → Answers (.groveRelease l final amb corr) s fun t => t.laneState l = 0 ∧
        t.fld (GROVE_LANE_STAT l) 15 12 = 5 ∧ t.fld (GROVE_LANE_STAT l) 18 16 = 1 ∧
        t.fld GROVE_ERR_TOTAL 31 0 = min 4294967295 (s.fld GROVE_ERR_TOTAL 31 0 + 1) ∧
        OnlyRegs [GROVE_ECC_CNT, GROVE_LANE_STAT l, GROVE_ERR_TOTAL, GROVE_LANE_ERRCNT l] s t) ∧
      (2 ≤ s.laneState l → Answers (.groveRelease l final amb corr) s fun t =>
        t.fld GROVE_REFUSED 31 0 = min 4294967295 (s.fld GROVE_REFUSED 31 0 + 1) ∧
          OnlyRegs [GROVE_ECC_CNT, GROVE_REFUSED] s t)) ∧
  (∀ (l : Fin 32) (r : SolveOut) (s : State), s.laneState l = 2 → s.outFits l r = true →
      (s.endCode l r = 0 → lastRelease s l → Answers (.grovePublish l r) s fun t => t.laneState l = 1 ∧
        t.fld (GROVE_LANE_STAT l) 15 12 = 0 ∧ t.fld (GROVE_LANE_STAT l) 18 16 = 0 ∧
        t.rd (GROVE_LANE_TIME l) = BitVec.ofNat 32 r.cycles ∧
        (if s.laneMethod l = 4 then t.fld (GROVE_LANE_ITER l) 9 0 = r.iter % 1024
          else t.rd (GROVE_LANE_ITER l) = s.rd (GROVE_LANE_ITER l)) ∧
        (if s.laneAccum l = true ∧ (s.lane l).final = false then
            t.bit (GROVE_LANE_STAT l) 9 = s.bit (GROVE_LANE_STAT l) 9 ∧ (t.lane l).result = (s.lane l).result
          else t.bit (GROVE_LANE_STAT l) 9 = true ∧ (Shaped s.toDev → (t.lane l).result = some r))) ∧
      (s.endCode l r ≠ 0 → (s.lane l).grp = none → Answers (.grovePublish l r) s fun t => t.laneState l = 1 ∧
        t.fld (GROVE_LANE_STAT l) 15 12 = s.endCode l r ∧ t.fld (GROVE_LANE_STAT l) 18 16 = 2 ∧
        (t.lane l).result = (s.lane l).result ∧
        t.fld GROVE_ERR_TOTAL 31 0 = min 4294967295 (s.fld GROVE_ERR_TOTAL 31 0 + 1))) ∧
  (∀ (l : Fin 32) (iter cycles : Nat) (code : BitVec 4) (pivot : GVal) (corr : List Nat) (s : State),
      (s.laneState l = 2 → s.laneDue l = true → Answers (.groveDeadline l iter cycles corr) s fun t =>
          t.laneState l = 1 ∧ t.fld (GROVE_LANE_STAT l) 15 12 = 1 ∧ t.fld (GROVE_LANE_STAT l) 18 16 = 1 ∧
          t.fld GROVE_ERR_TOTAL 31 0 = min 4294967295 (s.fld GROVE_ERR_TOTAL 31 0 + 1) ∧
          t.rd (GROVE_LANE_TIME l) = BitVec.ofNat 32 cycles ∧ (t.lane l).result = (s.lane l).result) ∧
      (s.laneState l ≠ 2 ∨ s.laneDue l = false → NoEffect (.groveDeadline l iter cycles corr) s) ∧
      (s.laneState l = 2 → s.failFits l code.toNat iter (gvRat pivot) = true → (s.lane l).grp = none →
        Answers (.groveSolveFailure l ⟨code, pivot⟩ iter cycles corr) s fun t =>
          t.fld (GROVE_LANE_STAT l) 15 12 = code.toNat ∧ t.fld (GROVE_LANE_STAT l) 18 16 = codeClass code.toNat ∧
          (code.toNat ≤ 11 → t.laneState l = 1) ∧
          (code = 12 → t.laneState l = if s.retireLim ≤ min 255 (s.fld (GROVE_LANE_ERRCNT l) 23 16 + 1) then 3 else 1) ∧
          (Shaped s.toDev → code = 13 → t.laneState l = if 1 ≤ (s.lane l).memBad then 3 else 0) ∧
          t.rd (GROVE_LANE_TIME l) = BitVec.ofNat 32 cycles ∧
          t.fld GROVE_ERR_TOTAL 31 0 = min 4294967295 (s.fld GROVE_ERR_TOTAL 31 0 + 1)))

/-! GNSS, local time and sensors (chapters 04 and 07). -/

/-- Room for a frame of n bytes at an egress port whose link is up (R281, R288). -/
def netRoom (s : State) (b : Bool) (n : Nat) : Prop := s.linkUp b = true ∧ s.netMode ≠ 0 ∧ s.buffered b + n ≤ 262144

/-- An own frame with the property p comes last at an egress port. -/
def Queued (s t : State) (b : Bool) (p : NetFrame → Prop) : Prop :=
  ∃ f, (t.port b).egress = (s.port b).egress ++ [{ frame := f, fwd := false }] ∧ p f

/-- A report to ring pair p (R445, R449): published after a header of 32 bytes where the ring runs and has room, else dropped and
counted. -/
def Reported (s t : State) (p : Nat) (body : List Byte) : Prop :=
  let n := (padSlots body).length / 32
  (s.repFits p n = true → (∃ h, h.length = 32 ∧ t.host.out = (p, h ++ padSlots body) :: s.host.out) ∧
    t.fld (HOST_REP_PTR p) 31 16 = (s.fld (HOST_REP_PTR p) 31 16 + 1 + n) % 65536) ∧
  (s.repFits p n = false → t.host.out = s.host.out ∧
    t.fld (HOST_LIVE p 3) 31 0 = (s.fld (HOST_LIVE p 3) 31 0 + 1) % 2 ^ 32)

/-- Channel of the baseband. -/
def gnssChan (d : Dev) (k : Nat) : GChan := d.gnss.chan.getD k {}

/-- A front end's fault and its end (R206): the gain and FAULT of GNSS_FE_AGC and the front end's bit of GNSS_STAT; the
event only when FAULT changes. A channel's life (R208 to R213): acquisition of an enabled constellation assigns it with code
lock; a drop ends its locks, and a lost carrier lock sets loss of lock and clears the carrier phase; GNSS_STAT counts the
tracked channels. No other channel changes. -/
def Obligations.ReceiverChannels : Prop :=
  (∀ (k : Fin 4) (gain : Byte) (atMax : Bool) (s : State),
      Answers (.feFault k gain atMax) s (fun t =>
        t.rd (GNSS_FE_AGC k) = BitVec.ofNat 32 (gain.toNat + 256) ∧ t.bit GNSS_STAT (24 + k) = true ∧
        (∀ j, j ≠ 24 + k.val → t.bit GNSS_STAT j = s.bit GNSS_STAT j) ∧ OnlyRegs [GNSS_FE_AGC k, GNSS_STAT] s t ∧
        (s.bit (GNSS_FE_AGC k) 8 = true → NoEvent s t) ∧
        (s.bit (GNSS_FE_AGC k) 8 = false → OneEvent s t 0x0706 (BitVec.ofNat 32 k) (if atMax then 1#32 else 2#32))) ∧
      Answers (.feFaultClear k gain) s (fun t =>
        t.rd (GNSS_FE_AGC k) = BitVec.ofNat 32 gain.toNat ∧ t.bit GNSS_STAT (24 + k) = false ∧
        (∀ j, j ≠ 24 + k.val → t.bit GNSS_STAT j = s.bit GNSS_STAT j) ∧ OnlyRegs [GNSS_FE_AGC k, GNSS_STAT] s t ∧
        (s.bit (GNSS_FE_AGC k) 8 = false → NoEvent s t) ∧
        (s.bit (GNSS_FE_AGC k) 8 = true → OneEvent s t 0x0707 (BitVec.ofNat 32 k) 0#32))) ∧
  (∀ (ch : Fin 192) (sig : Fin 7) (svid : Byte) (antS : Bool) (cn0 : BitVec 16) (ms : Nat) (s : State), Shaped s.toDev →
      (3300 ≤ cn0.toNat → s.candidate sig svid.toNat antS = true →
        (s.gnss.chan.any fun x => x.holds sig svid.toNat antS) = false → s.mayTake ch sig svid.toNat antS = true →
        Answers (.acquisitionComplete ch sig svid ⟨antS, cn0⟩) s fun t =>
          gnssChan t.toDev ch = {
            assigned := true, sig := sig, svid := svid.toNat, antS := antS, codeLock := true, cn0 := cn0,
            early := (earlyLate (spacing s.gnss.spc sig)).1, late := (earlyLate (spacing s.gnss.spc sig)).2 } ∧
          (∀ j, j ≠ ch.val → gnssChan t.toDev j = gnssChan s.toDev j) ∧
          t.fld GNSS_STAT 23 16 = (t.gnss.chan.filter fun c => c.assigned && c.codeLock).length ∧
          Framed [GNSS_STAT] s t { blocks s.toDev with gnss := t.gnss } ∧ NoEvent s t) ∧
      (3300 ≤ cn0.toNat → s.candidate sig svid.toNat antS = true → (gnssChan s.toDev ch).holds sig svid.toNat antS = true →
        Answers (.acquisitionComplete ch sig svid ⟨antS, cn0⟩) s fun t =>
          gnssChan t.toDev ch = { gnssChan s.toDev ch with codeLock := true } ∧
          (∀ j, j ≠ ch.val → gnssChan t.toDev j = gnssChan s.toDev j) ∧ NoEvent s t) ∧
      (cn0.toNat < 3300 ∨ s.candidate sig svid.toNat antS = false → NoEffect (.acquisitionComplete ch sig svid ⟨antS, cn0⟩) s) ∧
      (cn0.toNat < 2400 → 1000 < ms → Answers (.channelDrop ⟨ch, cn0, ms⟩) s (fun t =>
        (gnssChan t.toDev ch).codeLock = false ∧ (gnssChan t.toDev ch).carrLock = false ∧
        (gnssChan t.toDev ch).lol = ((gnssChan s.toDev ch).lol || (gnssChan s.toDev ch).carrLock) ∧
        (∀ j, j ≠ ch.val → gnssChan t.toDev j = gnssChan s.toDev j) ∧
        t.fld GNSS_STAT 23 16 = (t.gnss.chan.filter fun c => c.assigned && c.codeLock).length ∧
        Framed [GNSS_STAT] s t { blocks s.toDev with gnss := t.gnss } ∧ NoEvent s t)) ∧
      (2400 ≤ cn0.toNat ∨ ms ≤ 1000 → NoEffect (.channelDrop ⟨ch, cn0, ms⟩) s) ∧
      ((gnssChan s.toDev ch).codeLock = true → (gnssChan s.toDev ch).carrLock = false →
        Answers (.carrierLockGained ch) s fun t =>
        gnssChan t.toDev ch = { gnssChan s.toDev ch with carrLock := true, halfOk := true, lockAt := s.seq.cyc } ∧
        (∀ j, j ≠ ch.val → gnssChan t.toDev j = gnssChan s.toDev j) ∧
        Framed [] s t { blocks s.toDev with gnss := t.gnss } ∧ NoEvent s t) ∧
      ((gnssChan s.toDev ch).carrLock = true → Answers (.carrierLockLost ch) s fun t =>
        gnssChan t.toDev ch = { gnssChan s.toDev ch with carrLock := false, halfOk := false, lol := true, cp := 0 } ∧
        (∀ j, j ≠ ch.val → gnssChan t.toDev j = gnssChan s.toDev j) ∧
        Framed [] s t { blocks s.toDev with gnss := t.gnss } ∧ NoEvent s t) ∧
      Answers (.spacingSettled sig) s (fun t =>
        (∀ j, gnssChan t.toDev j = if (gnssChan s.toDev j).sig = sig then { gnssChan s.toDev j with settling := false } else
          gnssChan s.toDev j) ∧ Framed [] s t { blocks s.toDev with gnss := t.gnss } ∧ NoEvent s t))

/-- Local time is set and stepped (R216, R218): the first setting subtracts the solved bias and drift and makes time valid, and
with SEL = 2 the setting leaves local time to PTP; a step adds its size, records its event, and alarms that it passes fire with
the stepped mark. -/
def Obligations.LocalTimeMoves : Prop :=
  ∀ s : State,
    (∀ bias drift, s.clk.setPending = some (bias, drift) →
      (s.timeValid = false → s.tsel ≠ 2 → Answers .localTimeSet s fun t =>
        t.clk.localNs = s.clk.localNs - bias ∧ t.clk.cycleNs = s.clk.cycleNs - bias ∧
        t.clk.freqCorr = clampRat (-50000000) 50000000 (s.clk.freqCorr - drift) ∧ t.clk.setPending = none ∧
        t.timeValid = true ∧ t.tstate = 1 ∧ t.fld NET_TIME_STAT 1 0 = 1) ∧
      (s.tsel = 2 → Answers .localTimeSet s fun t => t.clk = { s.clk with setPending := none } ∧ t.tstate = 1 ∧
        t.timeValid = s.timeValid ∧ OneEvent s t 0x0701 0#32 0#32)) ∧
    (s.clk.setPending = none → NoEffect .localTimeSet s) ∧
    (∀ d code, s.clk.stepPending = some (d, code) → Answers .localTimeStep s fun t =>
        t.clk.localNs = s.clk.localNs + d ∧ t.clk.cycleNs = s.clk.cycleNs + d ∧ t.clk.stepPending = none ∧
        t.clk.stepped = true ∧ t.gnss.lastValid = s.gnss.lastValid.map (· + (d : Rat)) ∧ OneEvent s t code 0#32 (clamp32 d) ∧
        ∀ a, a < 4 → s.bit (NET_ALARM_CTL a) 0 = true →
          s.clk.localNs < (s.alarmNs a : Rat) → (s.alarmNs a : Rat) ≤ s.clk.localNs + d →
          t.bit (NET_ALARM_CTL a) 0 = false ∧ t.bit (NET_ALARM_CTL a) 1 = true ∧ t.bit (NET_ALARM_CTL a) 3 = true) ∧
    (s.clk.stepPending = none → NoEffect .localTimeStep s)

/-- Holdover (R216, R217): from Locked, once no valid fix has come for more than 1 s, the state becomes 2 with event 0x0702; the
first time that the time error is above HOLD_WARN raises event 0x070A once. A return slew whose rest runs within the tick ends with
its remainder taken and event 0x0705 (R218); navigation data set the UTC offset and the announcement of a leap second, whose second
moves the offset on (R221, R223). -/
def Obligations.ClockDiscipline : Prop :=
  (∀ s : State,
      (s.tstate = 1 → s.fixlessCycles.all (fun n => decide (50 < n)) = true → Answers .holdoverEntry s fun t => t.tstate = 2 ∧
        t.gnss = { s.gnss with retCnt := 0, warned := false } ∧
        t.bit (HOST_EVT_PEND 2) 8 = true ∧ OneEvent s t 0x0702 0#32 (BitVec.ofNat 32 s.gnss.u0) ∧
        Framed [GNSS_STAT, HOST_EVT_PEND 2] s t { blocks s.toDev with gnss := t.gnss }) ∧
      (s.tstate ≠ 1 ∨ s.fixlessCycles.all (fun n => decide (50 < n)) = false → NoEffect .holdoverEntry s) ∧
      (s.tstate = 2 ∨ s.tstate = 3 → s.gnss.warned = false → 1000 * s.gnss.set.warn.toNat < (s.rd GNSS_TERR).toNat →
        Answers .holdWarnExceeded s fun t => t.gnss = { s.gnss with warned := true } ∧
        OneEvent s t 0x070A 0#32 (BitVec.ofNat 32 ((s.rd GNSS_TERR).toNat / 1000)) ∧
        Framed [] s t { blocks s.toDev with gnss := t.gnss }) ∧
      (s.gnss.warned = true ∨ (s.rd GNSS_TERR).toNat ≤ 1000 * s.gnss.set.warn.toNat → NoEffect .holdWarnExceeded s)) ∧
  (∀ (ofs : Byte) (leapAt : Option (BitVec 48)) (s : State),
      (s.bit GNSS_STAT 4 = true → s.clockFrozen = false → slewNs s.clk.phaseRem < 375000 → Answers .slewComplete s fun t =>
        t.clk.localNs = s.clk.localNs - s.clk.phaseRem ∧ t.clk.phaseRem = 0 ∧ t.clk.slewRun = 0 ∧ t.bit GNSS_STAT 4 = false ∧
        t.rd GNSS_PHASE_REM = 0#32 ∧ OneEvent s t 0x0705 0#32
          (BitVec.ofNat 32 ((s.clk.slewRun + slewNs s.clk.phaseRem) / 1000000000).floor.toNat) ∧
        Framed [GNSS_STAT, GNSS_PHASE_REM, GNSS_FREQ_CORR] s t { blocks s.toDev with clk := t.clk }) ∧
      (s.bit GNSS_STAT 4 = false ∨ s.clockFrozen = true ∨ 375000 ≤ slewNs s.clk.phaseRem → NoEffect .slewComplete s) ∧
      Answers (.navigationDataDecoded ofs leapAt) s (fun t =>
        t.gnss = { s.gnss with utcOfs := ofs.toNat, leapAt := leapAt.map BitVec.toNat } ∧
        t.bit GNSS_STAT 6 = leapAt.isSome ∧ Framed [GNSS_STAT] s t { blocks s.toDev with gnss := t.gnss } ∧ NoEvent s t) ∧
      (s.bit GNSS_STAT 6 = true → Answers .leapSecond s fun t => t.gnss = { s.gnss with utcOfs := (s.gnss.utcOfs + 1) % 256 } ∧
        t.bit GNSS_STAT 6 = false ∧ OneEvent s t 0x0708 0#32 (BitVec.ofNat 32 ((s.gnss.utcOfs + 1) % 256)) ∧
        Framed [GNSS_STAT] s t { blocks s.toDev with gnss := t.gnss }) ∧
      (s.bit GNSS_STAT 6 = false → NoEffect .leapSecond s))

/-- The sentences that a UART's SMASK selects, in order of priority, each with the characters that spell it (R222). -/
def selected (s : State) (u : Nat) (texts : List (List Byte)) : List (SentOut × List Byte) :=
  let w := (s.rd (GNSS_SENT_CFG u)).toNat
  ((((List.range 8).filter fun k => bitOf w (2 + k)).flatMap (s.sentencesOf (bitOf w 13))).zipIdx).map fun p =>
    (p.1, texts.getD p.2 [])

/-- Once time is valid the pulse of the second is output where PPS_CFG enables it and the pin has its setting: its edge is the
CTLCLK edge nearest the second less the delay, its end WIDTH ms later; a pulse still in progress ends first, and the time message
of the second falls due (R219, R220, R221). At its end the pin goes low and held settings come into force. The time message that is
due is sent once, to its ring and to both ring ports (R221); a sentence interval sends what fits its baud rate, by priority, and
counts the rest (R222). -/
def Obligations.PulsesAndTimeOutputs : Prop :=
  (∀ (s : State) (cfg dly : Word),
      (s.timeValid = true → (s.gnss.ppsHigh = true ∧ s.gnss.ppsHeld = some (cfg, dly)) ∨
          ((s.gnss.ppsHigh = false ∨ s.gnss.ppsHeld = none) ∧ cfg = s.gnss.ppsCfg ∧ dly = s.gnss.ppsDly) →
        Answers .ppsPulse s fun t =>
          let en := cfg.getLsbD 0 && s.gnss.ppsCfgd
          let sec := roundRat (s.clk.localNs / 1000000000)
          let at_ : Rat := (sec : Rat) * 1000000000 - ((signed 20 dly.toNat : Int) : Rat) / 1000
          t.gnss.ppsHigh = en ∧ t.bit GNSS_STAT 5 = en ∧ t.gnss.ppsCfg = cfg ∧ t.gnss.ppsDly = dly ∧
          t.gnss.ppsSec = sec.toNat ∧ t.gnss.msgDue = true ∧ t.clk.stepped = false ∧
          t.gnss.ppsUntil = s.gridEdge (s.gridEdge at_ + 1000000 * (ppsWidth cfg : Rat)) ∧
          t.gnss.ppsQerr = (if en then roundRat ((s.gridEdge at_ - at_) * 1000) else 0) ∧
          Framed [GNSS_STAT] s t { blocks s.toDev with gnss := t.gnss, clk.stepped := false } ∧ NoEvent s t) ∧
      (s.timeValid = false → NoEffect .ppsPulse s) ∧
      (s.gnss.ppsHigh = true → s.gnss.ppsUntil < s.clk.localNs + 375000 → Answers .ppsPulseEnd s (fun t => t.gnss.ppsHigh = false ∧
        (s.gnss.ppsHeld = none → t.gnss = { s.gnss with ppsHigh := false } ∧ t.rd GNSS_STAT = s.rd GNSS_STAT) ∧
        (s.gnss.ppsHeld = some (cfg, dly) → t.gnss = { s.gnss with
            ppsHigh := false, ppsHeld := none, ppsCfg := cfg, ppsDly := dly } ∧
          t.bit GNSS_STAT 5 = (cfg.getLsbD 0 && s.timeValid && s.gnss.ppsCfgd)) ∧
        Framed [GNSS_STAT] s t { blocks s.toDev with gnss := t.gnss } ∧ NoEvent s t)) ∧
      (s.gnss.ppsHigh = false ∨ s.clk.localNs + 375000 ≤ s.gnss.ppsUntil → NoEffect .ppsPulseEnd s)) ∧
  (∀ (u : Fin 8) (texts : List (List Byte)) (s : State),
      (s.gnss.msgDue = true → Answers .timeMessage s fun t =>
        t.gnss = { s.gnss with msgDue := false, timeMsg := s.timeMsgBytes } ∧ s.timeMsgBytes.length = 32 ∧
        t.net.seq = (s.net.seq + 1) % 65536 ∧ (∀ p, s.routed 3 = some p → Reported s t p s.timeMsgBytes) ∧
        ∀ b, netRoom s b 96 → Queued s t b fun f => f.etype = 0x0800 ∧ f.udpPort = bitsOf s.gnss.set.udp.toNat 15 0 ∧
          f.dstIp = s.rd NET_UDP_DST ∧ f.payload = s.timeMsgBytes) ∧
      (s.gnss.msgDue = false → NoEffect .timeMessage s) ∧
      (s.bit (GNSS_SENT_CFG u) 0 = true → s.timeValid = true → Answers (.sentenceInterval u texts) s fun t =>
        let res := sendSentences (intervalBits (s.rd (GNSS_SENT_CFG u)).toNat) (selected s u texts) 0
        t.gnss = { s.gnss with
          sentCfg := setAt s.gnss.sentCfg u (s.rd (GNSS_SENT_CFG u)), sent := setAt s.gnss.sent u (res.1.map Prod.fst) } ∧
        (res.1.map fun p => 10 * p.2.length).sum ≤ intervalBits (s.rd (GNSS_SENT_CFG u)).toNat ∧
        res.1.length + res.2 = (selected s u texts).length ∧ res.1.Sublist (selected s u texts) ∧
        t.fld GNSS_SENT_DROP 31 0 = min 4294967295 (s.fld GNSS_SENT_DROP 31 0 + res.2) ∧
        (u.val ≠ 0 ∨ s.net.cfg.getLsbD 7 = false → Framed [GNSS_SENT_DROP] s t { blocks s.toDev with gnss := t.gnss } ∧
          NoEvent s t)) ∧
      (s.bit (GNSS_SENT_CFG u) 0 = false ∨ s.timeValid = false → Answers (.sentenceInterval u texts) s fun t =>
        t.gnss.sent = setAt s.gnss.sent u [] ∧ Framed [] s t { blocks s.toDev with gnss := { s.gnss with
          sentCfg := setAt s.gnss.sentCfg u (s.rd (GNSS_SENT_CFG u)), sent := t.gnss.sent } } ∧ NoEvent s t))

/-- What a received sentence gives, and its talker (R122; the formats are PRESUMED, log entry 98). -/
def givenBy (m : SentenceIn) : SentContent := contentOf (((fieldsOf m.chars).headD []).drop 2) (fieldsOf m.chars).tail
def talkerOf (m : SentenceIn) : Nat := u16 ((fieldsOf m.chars).headD []) 0

/-- Sensor input (R122, R126): a sentence whose checksum fails and a reference frame that is no frame count in EST_SENS_BAD; a
heading, an attitude and a wind of a configured talker are taken with their time; a valid reference sample counts, and the first
since the last cycle waits for it. -/
def Obligations.SensorInput : Prop :=
  ∀ (u : Fin 8) (m : SentenceIn) (bytes : List Byte) (arrival : Nat) (s : State),
    (m.chars.foldl (fun a c => a ^^^ c) 0 ≠ m.sum → Answers (.sentenceReceived u m) s fun t =>
      t.fld EST_SENS_BAD 31 0 = min 4294967295 (s.fld EST_SENS_BAD 31 0 + 1) ∧ OnlyRegs [EST_SENS_BAD] s t ∧ NoEvent s t) ∧
    (Shaped s.toDev → m.chars.foldl (fun a c => a ^^^ c) 0 = m.sum →
      (∀ h k, givenBy m = .heading h → k < 3 → s.sensorOf u (talkerOf m) 0 3 = some k → Answers (.sentenceReceived u m) s fun t =>
        (t.est.gyro.getD k {}).a = h ∧ (t.est.gyro.getD k {}).at_ = some (m.arrivalNs : Int) ∧
        (t.est.gyro.getD k {}).b = (s.est.gyro.getD k {}).b ∧ (∀ j, j ≠ k → t.est.gyro.getD j {} = s.est.gyro.getD j {}) ∧
        Framed [] s t { blocks s.toDev with est := { s.est with gyro := t.est.gyro } } ∧ NoEvent s t) ∧
      (∀ r p k, givenBy m = .attitude r p → k < 2 → s.sensorOf u (talkerOf m) 3 2 = some (k + 3) →
        Answers (.sentenceReceived u m) s fun t =>
        t.est.mru.getD k {} = { s.est.mru.getD k {} with a := r, b := p, at_ := some (m.arrivalNs : Int) } ∧
        (∀ j, j ≠ k → t.est.mru.getD j {} = s.est.mru.getD j {}) ∧
        Framed [] s t { blocks s.toDev with est := { s.est with mru := t.est.mru } } ∧ NoEvent s t) ∧
      (∀ a v k, givenBy m = .wind a v → k < 2 → s.sensorOf u (talkerOf m) 5 2 = some (k + 5) →
        Answers (.sentenceReceived u m) s fun t =>
        t.est.wind.getD k {} = { s.est.wind.getD k {} with a := a, b := v, at_ := some (m.arrivalNs : Int) } ∧
        (∀ j, j ≠ k → t.est.wind.getD j {} = s.est.wind.getD j {}) ∧
        Framed [] s t { blocks s.toDev with est := { s.est with wind := t.est.wind } } ∧ NoEvent s t) ∧
      (givenBy m = .other → NoEffect (.sentenceReceived u m) s)) ∧
    (bytes.length ≠ 20 → Answers (.refSampleReceived none bytes arrival) s fun t =>
      t.fld EST_SENS_BAD 31 0 = min 4294967295 (s.fld EST_SENS_BAD 31 0 + 1) ∧ OnlyRegs [EST_SENS_BAD] s t ∧ NoEvent s t) ∧
    (¬ (bytes.length = 25 ∧ u8 bytes 0 = 0xB5 ∧ u8 bytes 1 = 0x5E ∧ u8 bytes 2 = 20 ∧ u16 bytes 23 = crc16 (slice bytes 2 21)) →
      Answers (.refSampleReceived (some u) bytes arrival) s fun t =>
      t.fld EST_SENS_BAD 31 0 = min 4294967295 (s.fld EST_SENS_BAD 31 0 + 1) ∧ OnlyRegs [EST_SENS_BAD] s t ∧ NoEvent s t) ∧
    (Shaped s.toDev → bytes.length = 20 → u8 bytes 0 ≤ 5 → bitOf (u8 bytes 1) 1 = true →
      s.fld (EST_REF_CFG (u8 bytes 0)) 1 0 = 2 →
      Answers (.refSampleReceived none bytes arrival) s fun t =>
        t.fld (EST_REF_CNT (u8 bytes 0)) 15 0 = (s.fld (EST_REF_CNT (u8 bytes 0)) 15 0 + 1) % 65536 ∧
        (t.ref (u8 bytes 0)).sample.isSome = true ∧
        ((s.ref (u8 bytes 0)).sample.isSome = true → t.fld (EST_REF_DROP (u8 bytes 0)) 31 0 =
          min 4294967295 (s.fld (EST_REF_DROP (u8 bytes 0)) 31 0 + 1)) ∧
        Framed [EST_REF_CNT (u8 bytes 0), EST_REF_DROP (u8 bytes 0)] s t { blocks s.toDev with est := t.est } ∧ NoEvent s t)

/-! Acquisition (chapter 08). -/

/-- Outside service the converters' enables are set in ACQ_CTRL and wait for the next tick, SD_EN = 0 acts at once, and the settings
of a chain's bands are written; in service a locked register refuses the write with event 0x0805 (R231, R232, R237). -/
def Obligations.AcquisitionWrites : Prop :=
  ∀ (on : Bool) (a : Addr) (v : Word) (s : State),
    (s.mode = 0 → Answers (.sarEnable on) s fun t => t.bit ACQ_CTRL 0 = on ∧ t.bit ACQ_CTRL 1 = s.bit ACQ_CTRL 1 ∧
      t.acq.sarPend = some on ∧ t.acq.sdPend = some (s.bit ACQ_CTRL 1) ∧
      Framed [ACQ_CTRL, ACQ_STAT] s t { blocks s.toDev with acq := t.acq } ∧ NoEvent s t) ∧
    (s.mode = 0 → Answers (.sdEnable on) s fun t => t.bit ACQ_CTRL 1 = on ∧ t.bit ACQ_CTRL 0 = s.bit ACQ_CTRL 0 ∧
      t.acq.sdPend = some on ∧ t.acq.sarPend = some (s.bit ACQ_CTRL 0) ∧ (on = false → t.bit ACQ_STAT 1 = false) ∧
      Framed [ACQ_CTRL, ACQ_STAT] s t { blocks s.toDev with acq := t.acq } ∧ NoEvent s t) ∧
    (s.mode ≠ 0 → Answers (.sarEnable on) s (fun t => OneEvent s t 0x0805 0#32 4#32 ∧ OnlyRegs [] s t) ∧
      Answers (.sdEnable on) s (fun t => OneEvent s t 0x0805 0#32 4#32 ∧ OnlyRegs [] s t)) ∧
    (∀ (n : Fin 40) (b : Fin 8), a.toNat = ACQ_CH_GAIN n b ∨ a.toNat = ACQ_CH_OFS n b → s.mode = 0 →
      Answers (.chainConfigWrite a v) s fun t => t.rd a.toNat = (s.rd a.toNat &&& 0xFF000000#32) ||| (v &&& 0x00FFFFFF#32) ∧
        OnlyRegs [a.toNat] s t ∧ NoEvent s t) ∧
    (∀ k, blockOf a.toNat = .acq → a.toNat % 4 = 0 → s.acqLocked a.toNat v = some k → Answers (.chainConfigWrite a v) s fun t =>
      OneEvent s t 0x0805 (BitVec.ofNat 32 k) (BitVec.ofNat 32 (a.toNat - 0x1C0000)) ∧ OnlyRegs [] s t) ∧
    (blockOf a.toNat ≠ .acq ∨ a.toNat % 4 ≠ 0 → NoEffect (.chainConfigWrite a v) s)

/-- Conversions of the SAR converter while it runs (R229 to R231): slot 0 puts the written sequence and ranges in force; slot 63
feeds the zero and reference means in turn, and every 64 of them make an update due; a live slot gives its corrected value to every
running chain of its input, and to no other. -/
def Obligations.SarConversions : Prop :=
  ∀ (slot : Fin 64) (code : BitVec 16) (s : State), Shaped s.toDev →
    (s.bit ACQ_STAT 0 = false → NoEffect (.sarConversion slot code) s) ∧
    (s.bit ACQ_STAT 0 = true → slot = 0 → Answers (.sarConversion slot code) s fun t =>
      t.acq.seq = s.seqRegs ∧ t.acq.range = s.rd ACQ_SAR_RANGE ∧ t.acq.zeros = s.acq.zeros ∧ t.acq.refs = s.acq.refs ∧
        NoEvent s t) ∧
    (s.bit ACQ_STAT 0 = true → slot = 63 → Answers (.sarConversion slot code) s fun t => t.acq = { s.acq with
        calKind := !s.acq.calKind, calCnt := (s.acq.calCnt + 1) % 64, calDue := s.acq.calDue || s.acq.calCnt == 63,
        zeros := if s.acq.calKind then s.acq.zeros else (code.toInt :: s.acq.zeros).take 32,
        refs := if s.acq.calKind then (code.toInt :: s.acq.refs).take 32 else s.acq.refs } ∧
      Framed [] s t { blocks s.toDev with acq := t.acq } ∧ NoEvent s t) ∧
    (s.bit ACQ_STAT 0 = true → slot ≠ 0 → slot ≠ 63 →
      (seqEntry s.acq.seq slot = none → NoEffect (.sarConversion slot code) s) ∧
      ∀ i, seqEntry s.acq.seq slot = some i → Answers (.sarConversion slot code) s fun t =>
        (∀ n, n < 16 → s.chainRun n = true → (s.chain n).cur.src = i → t.chain n = { s.chain n with
          win := (s.chain n).win ++ [sarValue code.toInt (signed 16 (s.fld ACQ_CAL 15 0)) (signed 16 (s.fld ACQ_CAL 31 16))] }) ∧
        (∀ n, s.chainRun n = false ∨ (s.chain n).cur.src ≠ i ∨ 16 ≤ n → t.chain n = s.chain n) ∧
        Framed [] s t { blocks s.toDev with acq := t.acq } ∧ NoEvent s t)

/-- An update of the calibration that is due, with the offset and the gain error that the running means show (R230), the
latter against an ideal code that is open (log entry 17): outside its limits it marks the fault with event 0x0806 and moves nothing; inside, with no fault, each correction moves by at most one step
towards what was measured; with a fault, four updates in a row inside end it with event 0x0807, and every running SAR chain steps
at its next record boundary. Any other changes nothing. -/
def Obligations.CalibrationUpdates : Prop :=
  ∀ (s : State) (z ideal : Rat),
    (s.acq.calDue = false ∨ z ≠ meanOf s.acq.zeros → NoEffect (.calUpdate z ideal) s) ∧
    (∀ e : Rat, s.acq.calDue = true → z = meanOf s.acq.zeros → e = gainErrorOf z (meanOf s.acq.refs) ideal →
      (Answers (.calUpdate z ideal) s fun t => t.acq.calDue = false ∧ t.acq.zeros = s.acq.zeros ∧ t.acq.refs = s.acq.refs) ∧
      (256 < absRat z ∨ 1 < 100 * absRat e → Answers (.calUpdate z ideal) s fun t => t.bit ACQ_STAT 2 = true ∧
        t.acq = { s.acq with calDue := false, calOkRun := 0 } ∧
        OneEvent s t 0x0806 0#32 (if 256 < absRat z then 1#32 else 2#32) ∧
        Framed [ACQ_STAT] s t { blocks s.toDev with acq := t.acq }) ∧
      (absRat z ≤ 256 → 100 * absRat e ≤ 1 → s.bit ACQ_STAT 2 = false → Answers (.calUpdate z ideal) s fun t =>
        t.fld ACQ_CAL 15 0 =
          unsigned 16 (signed 16 (s.fld ACQ_CAL 15 0) + clampInt (-1) 1 (roundRat z - signed 16 (s.fld ACQ_CAL 15 0))) ∧
        t.fld ACQ_CAL 31 16 =
          unsigned 16 (signed 16 (s.fld ACQ_CAL 31 16) + clampInt (-1) 1 (roundRat (e * 65536) - signed 16 (s.fld ACQ_CAL 31 16))) ∧
        t.acq = { s.acq with calDue := false } ∧
        Framed [ACQ_CAL] s t { blocks s.toDev with acq := t.acq } ∧ NoEvent s t) ∧
      (absRat z ≤ 256 → 100 * absRat e ≤ 1 → s.bit ACQ_STAT 2 = true →
        (s.acq.calOkRun < 3 → Answers (.calUpdate z ideal) s fun t =>
          t.acq = { s.acq with calDue := false, calOkRun := s.acq.calOkRun + 1 } ∧
          Framed [] s t { blocks s.toDev with acq := t.acq } ∧ NoEvent s t) ∧
        (3 ≤ s.acq.calOkRun → Shaped s.toDev → Answers (.calUpdate z ideal) s fun t => t.bit ACQ_STAT 2 = false ∧ t.acq.calOkRun = 0 ∧
          (∀ n, n < 16 → s.chainRun n = true → t.chain n = { s.chain n with stepPend := true }) ∧
          (∀ n, s.chainRun n = false ∨ 16 ≤ n → t.chain n = s.chain n) ∧
          OneEvent s t 0x0807 0#32 0#32 ∧ Framed [ACQ_STAT] s t { blocks s.toDev with acq := t.acq })))

/-- A record of a running chain with a whole window counts in its sequence; delivered, it stands with its stamp and its window's
band, and suppressed it counts down (R238, R239). The next window takes the latched band; a step that waits takes place there, and
the sequence starts at 0. A coefficient that memory cannot correct stops the chain with event 0x0809. A chain that does not run
makes none. -/
def Obligations.ChainRecords : Prop :=
  ∀ (ch : Fin 40) (bits : List Bool) (stamp : Word) (s : State),
    (s.chainRun ch = false ∨ s.window ch bits = none → ∀ cb, NoEffect (.chainRecord ch bits stamp cb) s) ∧
    (Shaped s.toDev → s.chainRun ch = true → (s.window ch bits).isSome = true →
      (s.acq.apply ≠ some ch.val ∨ s.acq.applyAt ≠ 1 → (s.chain ch).stepPend = false → (s.chain ch).next = none →
        (s.chain ch).cur.en = true → s.bit (ACQ_CH_STAT ch) 3 = false → Answers (.chainRecord ch bits stamp none) s fun t =>
        t.fld (ACQ_CH_SEQ ch) 31 0 = (s.fld (ACQ_CH_SEQ ch) 31 0 + 1) % 2 ^ 32 ∧ (t.chain ch).band = s.acq.band ∧
        ((s.chain ch).suppLeft = 0 → t.rd (ACQ_CH_STAMP ch) = stamp ∧ t.bit (ACQ_CH_STAT ch) 1 = false ∧
          (t.chain ch).recBand = (s.chain ch).band) ∧
        (0 < (s.chain ch).suppLeft → (t.chain ch).suppLeft = (s.chain ch).suppLeft - 1 ∧
          t.rd (ACQ_CH_VAL ch) = s.rd (ACQ_CH_VAL ch) ∧ t.rd (ACQ_CH_STAMP ch) = s.rd (ACQ_CH_STAMP ch) ∧
          t.fld (ACQ_CH_SUPP ch) 31 0 = min 4294967295 (s.fld (ACQ_CH_SUPP ch) 31 0 + 1)) ∧
        Framed [ACQ_CH_STAT ch, ACQ_CH_SEQ ch, ACQ_CH_SUPP ch, ACQ_CH_VAL ch, ACQ_CH_STAMP ch] s t
          { blocks s.toDev with acq := t.acq }) ∧
      ((s.chain ch).stepPend = true → (s.chain ch).next = none → (s.chain ch).cur.en = true →
        Answers (.chainRecord ch bits stamp none) s fun t => t.rd (ACQ_CH_SEQ ch) = 0#32 ∧ (t.chain ch).stepPend = false ∧
          (t.chain ch).suppLeft = (s.chain ch).cur.settle ch ∧ (t.chain ch).fir = []) ∧
      ((s.chain ch).cur.taps ≠ 0 → ∀ k, Answers (.chainRecord ch bits stamp (some k)) s fun t => t.chainRun ch = false ∧
        OneEvent s t 0x0809 (BitVec.ofNat 32 ch) (BitVec.ofNat 32 k)))

/-- Coefficients (R239, R244): an apply of a chain that is free makes APPLY_BUSY; once latched, a record boundary of a running
chain copies all 192 coefficients to it; the copy's end, of a stopped chain with the copy itself, clears APPLY_BUSY and raises event
0x0804. A stuck bitstream sets STUCK in the running chains that it feeds, and its first transition clears it (R233). -/
def Obligations.CoefficientsAndStreams : Prop :=
  (∀ (n : Fin 64) (s : State),
      (s.acqLocked ACQ_APPLY (BitVec.ofNat 32 n) = none →
        (n.val < 40 → s.bit ACQ_STAT 3 = false → Answers (.coefApply n) s fun t =>
          t.bit ACQ_STAT 3 = true ∧ t.acq = { s.acq with apply := some n.val, applyAt := 0 } ∧
          Framed [ACQ_STAT] s t { blocks s.toDev with acq := t.acq } ∧ NoEvent s t) ∧
        (40 ≤ n.val ∨ s.bit ACQ_STAT 3 = true → NoEffect (.coefApply n) s)) ∧
      (∀ p, s.acqLocked ACQ_APPLY (BitVec.ofNat 32 n) = some p → Answers (.coefApply n) s fun t =>
        OneEvent s t 0x0805 (BitVec.ofNat 32 p) 0x10#32 ∧ OnlyRegs [] s t)) ∧
  (∀ (ch : Fin 40) (bits : List Bool) (stamp : Word) (s : State),
      (Shaped s.toDev → s.acq.apply = some ch.val → s.acq.applyAt = 1 → s.chainRun ch = true → (s.window ch bits).isSome = true →
        Answers (.chainRecord ch bits stamp none) s fun t => t.acq.applyAt = 2 ∧
          ∀ j, j < 192 → t.rd (ACQ_FIR_LIVE ch j) = s.rd (ACQ_FIR_SHADOW j)) ∧
      (s.acq.apply = some ch.val → s.acq.applyAt = 2 ∨ (s.acq.applyAt = 1 ∧ s.chainRun ch = false) →
        Answers .coefApplyDone s fun t => t.bit ACQ_STAT 3 = false ∧ t.acq = { s.acq with apply := none, applyAt := 0 } ∧
          (s.acq.applyAt = 1 → ∀ j, j < 192 → t.rd (ACQ_FIR_LIVE ch j) = s.rd (ACQ_FIR_SHADOW j)) ∧
          OneEvent s t 0x0804 (BitVec.ofNat 32 ch) (BitVec.ofNat 32 (s.chain ch).cur.taps)) ∧
      (s.acq.apply = some ch.val → s.acq.applyAt = 0 ∨ (s.acq.applyAt = 1 ∧ s.chainRun ch = true) → NoEffect .coefApplyDone s) ∧
      (s.acq.apply = none → NoEffect .coefApplyDone s)) ∧
  (∀ (st : Fin 24) (s : State),
      (s.bit ACQ_STAT 1 = true → s.acq.stuck.contains st.val = false → Answers (.bitstreamStuck st) s fun t =>
        t.acq = { s.acq with stuck := s.acq.stuck ++ [st.val] } ∧
        (∀ n, 16 ≤ n → n < 40 → s.chainRun n = true → (s.chain n).cur.src = st → t.bit (ACQ_CH_STAT n) 3 = true) ∧
        Framed ((List.range 24).map fun n => ACQ_CH_STAT (16 + n)) s t { blocks s.toDev with acq := t.acq }) ∧
      (s.acq.stuck.contains st.val = true → Answers (.stuckEnd st) s fun t =>
        t.acq.stuck = s.acq.stuck.filter (· != st.val) ∧
        (∀ n, 16 ≤ n → n < 40 → (s.chain n).cur.src = st → t.bit (ACQ_CH_STAT n) 3 = false) ∧ NoEvent s t) ∧
      (s.acq.stuck.contains st.val = false → NoEffect (.stuckEnd st) s))

/-- Pulse inputs count or stamp the selected edges whose new level has held FILT + 1 cycles (R245, R246); a quadrature input takes
the levels that have, moves its position by one on a legal transition, and counts an illegal one, which moves nothing (R247). -/
def Obligations.PulseAndQuadrature : Prop :=
  ∀ (p : Fin 8) (q : Fin 4) (falling qa qb : Bool) (cycle held ha hb : Nat) (s : State), Shaped s.toDev →
    (s.fld (ACQ_PULSE_CFG p) 11 4 + 1 ≤ held →
        s.fld (ACQ_PULSE_CFG p) 3 2 % 3 = 2 ∨ (s.fld (ACQ_PULSE_CFG p) 3 2 % 3 = 1 ↔ falling = true) →
      Answers (.pulseEdge p falling ⟨cycle, held⟩) s fun t =>
        (s.pulseMode p = 1 → (t.acq.pulse.getD p {}).count = ((s.acq.pulse.getD p {}).count + 1) % 2 ^ 32) ∧
        (s.pulseMode p = 2 → (t.acq.pulse.getD p {}).edges = (s.acq.pulse.getD p {}).edges ++ [(0, s.seq.tickCyc + cycle)]) ∧
        Framed [] s t { blocks s.toDev with acq := { s.acq with pulse := t.acq.pulse } } ∧ NoEvent s t) ∧
    (held < s.fld (ACQ_PULSE_CFG p) 11 4 + 1 → NoEffect (.pulseEdge p falling ⟨cycle, held⟩) s) ∧
    (∀ (x : QuadSt) (a b : Bool), x = s.acq.quad.getD q {} →
        a = (if s.fld (ACQ_QUAD_CFG q) 9 2 + 1 ≤ ha then qa else x.qa) →
        b = (if s.fld (ACQ_QUAD_CFG q) 9 2 + 1 ≤ hb then qb else x.qb) →
      (s.bit (ACQ_QUAD_CFG q) 0 = true → x.qa ≠ a → x.qb ≠ b → Answers (.quadTransition q ⟨qa, ha⟩ ⟨qb, hb⟩) s fun t =>
        t.acq.quad.getD q {} = { x with qa := a, qb := b } ∧
        t.fld (ACQ_QUAD_ERR q) 31 0 = min 4294967295 (s.fld (ACQ_QUAD_ERR q) 31 0 + 1) ∧
        OneEvent s t 0x0808 (BitVec.ofNat 32 (72 + q)) (t.rd (ACQ_QUAD_ERR q)) ∧
        Framed [ACQ_QUAD_ERR q] s t { blocks s.toDev with acq := t.acq }) ∧
      (s.bit (ACQ_QUAD_CFG q) 0 = true → x.qa = a ∨ x.qb = b → Answers (.quadTransition q ⟨qa, ha⟩ ⟨qb, hb⟩) s fun t =>
        t.acq.quad.getD q {} = { x with
          qa := a, qb := b,
          pos := signed 32 (unsigned 32 (x.pos + (if s.bit (ACQ_QUAD_CFG q) 1 then -1 else 1) * quadDelta x.qa x.qb a b)) } ∧
        Framed [] s t { blocks s.toDev with acq := t.acq } ∧ NoEvent s t) ∧
      (s.bit (ACQ_QUAD_CFG q) 0 = false → Answers (.quadTransition q ⟨qa, ha⟩ ⟨qb, hb⟩) s fun t =>
        t.acq.quad.getD q {} = { x with qa := a, qb := b } ∧
        Framed [] s t { blocks s.toDev with acq := t.acq } ∧ NoEvent s t)) ∧
    (s.acqLocked (ACQ_QUAD_ZERO q) 1#32 = none → Answers (.quadZero q) s fun t =>
      t.acq.quad.getD q {} = { s.acq.quad.getD q {} with zeroPend := true } ∧
      Framed [] s t { blocks s.toDev with acq := t.acq } ∧ NoEvent s t) ∧
    (∀ k, s.acqLocked (ACQ_QUAD_ZERO q) 1#32 = some k → Answers (.quadZero q) s fun t =>
      OneEvent s t 0x0805 (BitVec.ofNat 32 k) (BitVec.ofNat 32 (ACQ_QUAD_ZERO q - 0x1C0000)) ∧ OnlyRegs [] s t)

/-! CAN (chapter 09). -/

/-- INIT (R255, R257): outside service, leaving it with timing inside the limits makes the controller error active with both
counts zero and puts FD_EN in force; with other timing INIT stays 1 and event 0x090A names the limit. Entering it gives state
3, and in service a controller that carries a stream refuses both with event 0x090D. AUTOSTART acts once, when local time is
valid: an enabled controller in INIT with good timing starts (R257). -/
def Obligations.CanStart : Prop :=
  (∀ (c : Fin 8) (v : Word) (s : State), Shaped s.toDev → v.getLsbD 5 = false →
      (s.mode = 0 → s.bit (CAN_CTRL c) 0 = true → timingFault (s.rd (CAN_NBT c)) (s.rd (CAN_DBT c)) (v.getLsbD 1) = 0 →
        Answers (.canLeaveInit c v) s fun t => t.bit (CAN_CTRL c) 0 = false ∧ t.canState c = 0 ∧
          (t.canc c).fd = v.getLsbD 1 ∧ (t.canc c).txErr = 0 ∧ (t.canc c).rxErr = 0 ∧
          (∀ k, 1 ≤ k → k ≤ 4 → t.bit (CAN_CTRL c) k = v.getLsbD k)) ∧
      (s.mode = 0 → s.bit (CAN_CTRL c) 0 = true → ∀ w, w ≠ 0 →
        timingFault (s.rd (CAN_NBT c)) (s.rd (CAN_DBT c)) (v.getLsbD 1) = w → Answers (.canLeaveInit c v) s fun t =>
          t.bit (CAN_CTRL c) 0 = true ∧ OneEvent s t 0x090A (BitVec.ofNat 32 c) (BitVec.ofNat 32 w) ∧
            OnlyRegs [CAN_CTRL c] s t) ∧
      (s.mode = 0 → s.bit (CAN_CTRL c) 0 = false → Answers (.canEnterInit c v) s fun t => t.bit (CAN_CTRL c) 0 = true ∧
        t.canState c = 3 ∧ (t.canc c).txErr = 0 ∧ (t.canc c).rxErr = 0) ∧
      (s.canLocked c = true →
        Answers (.canLeaveInit c v) s (fun t => OneEvent s t 0x090D (BitVec.ofNat 32 c) 0#32 ∧ OnlyRegs [] s t) ∧
        Answers (.canEnterInit c v) s (fun t => OneEvent s t 0x090D (BitVec.ofNat 32 c) 0#32 ∧ OnlyRegs [] s t))) ∧
  (∀ (c : Fin 8) (s : State), Shaped s.toDev →
      (s.timeValid = true → (s.canc c).auto = false → s.bit (CAN_GCFG c) 0 = true → s.bit (CAN_CTRL c) 0 = true →
        timingFault (s.rd (CAN_NBT c)) (s.rd (CAN_DBT c)) (s.bit (CAN_CTRL c) 1) = 0 → Answers (.canAutostart c) s fun t =>
          t.bit (CAN_CTRL c) 0 = false ∧ t.canState c = 0 ∧ (t.canc c).auto = true) ∧
      (s.timeValid = false ∨ (s.canc c).auto = true → Answers (.canAutostart c) s fun t => OnlyRegs [] s t ∧ NoEvent s t))

/-- Error counts (R267): a transmit error adds 8 to the transmit count, receive errors add 1 or 8 to the receive count,
which stops at 255; above 127 the controller becomes error passive, above 255 it leaves the bus. Bus off (R267): RECOVER
starts the recovery of a controller that is off the bus, whose end makes it error active with both counts zero and event
0x0904; HP_RELEASE frees the high-priority buffer (R263). -/
def Obligations.CanErrorsAndRecovery : Prop :=
  (∀ (c : Fin 8) (k : CanErrKind) (s : State), Shaped s.toDev → s.canState c = 0 → s.bit (CAN_CTRL c) 4 = false →
      (s.canc c).frames.find? CanTx.won = none → (s.canc c).txErr ≤ 127 → (s.canc c).rxErr ≤ 127 →
        Answers (.canError c k false) s fun t =>
          (t.canc c).txErr = (s.canc c).txErr + (if k = .transmit then 8 else 0) ∧
          (t.canc c).rxErr = (s.canc c).rxErr + (match k with | .receive => 1 | .receiveDominant => 8 | _ => 0) ∧
          t.canState c = (if 127 < (t.canc c).txErr ∨ 127 < (t.canc c).rxErr then 1 else 0)) ∧
  (∀ (c : Fin 8) (s : State),
      (s.canState c = 2 → s.recovering c = false → Answers (.canRecover c) s fun t => t.recovering c = true ∧
        t.canState c = 2 ∧
        OnlyRegs [CAN_STAT c, HOST_EVT_PEND 1] s t ∧ NoEvent s t) ∧
      (s.canState c ≠ 2 ∨ s.recovering c = true → Answers (.canRecover c) s fun t => OnlyRegs [] s t ∧ NoEvent s t) ∧
      (s.recovering c = true → Answers (.canRecoveryDone c) s fun t => t.recovering c = false ∧ t.canState c = 0 ∧
        t.fld (CAN_STAT c) 16 8 = 0 ∧ t.fld (CAN_STAT c) 31 24 = 0 ∧ OneEvent s t 0x0904 (BitVec.ofNat 32 c) 0#32 ∧
        Framed [CAN_STAT c, HOST_EVT_PEND 1] s t { blocks s.toDev with can := t.can }) ∧
      (s.recovering c = false → Answers (.canRecoveryDone c) s fun t => OnlyRegs [] s t ∧ NoEvent s t) ∧
      Answers (.canHpRelease c) s (fun t => t.bit (CAN_HP_STAT c) 0 = false ∧ OnlyRegs [CAN_HP_STAT c] s t ∧ NoEvent s t))

/-- The host's transmit buffer (R258, R259): a request counts in and fills the empty buffer, replaces a frame that has not won, and
waits behind one that has; a cancel before arbitration is won empties the buffer and counts as a drop; after it the frame is only
marked, and one that waits behind it is dropped. -/
def Obligations.CanTransmitBuffer : Prop :=
  ∀ (c : Fin 8) (dlc : BitVec 4) (s : State), Shaped s.toDev →
    ((s.canc c).tb2 = none → Answers (.canTb2Request c dlc) s fun t =>
      (t.canc c).tb2 = some { frame := s.tb2Frame c dlc.toNat } ∧
      t.fld (CAN_LEDGER_IN c) 31 0 = (s.fld (CAN_LEDGER_IN c) 31 0 + 1) % 2 ^ 32 ∧ NoEvent s t) ∧
    (∀ x, (s.canc c).tb2 = some x → x.won = false → x.host = none →
      Answers (.canTb2Cancel c) s fun t => (t.canc c).tb2 = none ∧
      t.fld (CAN_LEDGER_DROP c) 31 0 = (s.fld (CAN_LEDGER_DROP c) 31 0 + 1) % 2 ^ 32 ∧ NoEvent s t) ∧
    (∀ x, (s.canc c).tb2 = some x → x.won = true →
      (Answers (.canTb2Cancel c) s fun t => (t.canc c).tb2 = some { x with cancel := true } ∧ (t.canc c).next2 = none ∧
        t.fld (CAN_LEDGER_DROP c) 31 0 = (s.fld (CAN_LEDGER_DROP c) 31 0 + (s.canc c).next2.toList.length) % 2 ^ 32 ∧
        ((s.canc c).next2 = none → NoEvent s t)) ∧
      ((s.canc c).next2 = none → Answers (.canTb2Request c dlc) s fun t => (t.canc c).tb2 = some x ∧
        (t.canc c).next2 = some { frame := s.tb2Frame c dlc.toNat } ∧
        t.fld (CAN_LEDGER_IN c) 31 0 = (s.fld (CAN_LEDGER_IN c) 31 0 + 1) % 2 ^ 32 ∧ NoEvent s t)) ∧
    (∀ x, (s.canc c).tb2 = some x → x.won = false → x.host = none → Answers (.canTb2Request c dlc) s fun t =>
      (t.canc c).tb2 = some { frame := s.tb2Frame c dlc.toNat } ∧
      t.fld (CAN_LEDGER_IN c) 31 0 = (s.fld (CAN_LEDGER_IN c) 31 0 + 1) % 2 ^ 32 ∧
      t.fld (CAN_LEDGER_DROP c) 31 0 = (s.fld (CAN_LEDGER_DROP c) 31 0 + 1) % 2 ^ 32 ∧ NoEvent s t) ∧
    ((s.canc c).tb2 = none → NoEffect (.canTb2Cancel c) s)

/-- Arbitration (R258, R259): the buffer that comes first wins where the controller runs, is not in monitoring, and no frame has
won yet; a lost arbitration takes the win back. A frame that has won and is sent leaves its buffer and counts out (R261). -/
def Obligations.CanArbitration : Prop :=
  ∀ (c : Fin 8) (b : Fin 3) (sof : Nat) (delay : Byte) (s : State), Shaped s.toDev →
    (∀ x, (s.canc c).buf b = some x → s.canRunning c = true → s.bit (CAN_CTRL c) 4 = false →
      (s.canc c).frames.all (fun t => !t.won) = true → ∀ late : List (Fin 3),
      s.arbFirst c ([0, 1, 2].filter fun k => !(late.map Fin.val).contains k) = some b.val →
      Answers (.canArbitrationWon c b late) s fun t => (t.canc c).buf b = some { x with
        won := true, frame := { x.frame with esi := x.frame.fdf && s.canState c == 1 } } ∧ NoEvent s t) ∧
    (∀ x, (s.canc c).buf b = some x → Answers (.canArbitrationLost c b) s fun t =>
      (t.canc c).buf b = some { x with won := false } ∧ Framed [] s t { blocks s.toDev with can := t.can } ∧ NoEvent s t) ∧
    ((s.canc c).buf b = none ∨ (∃ x, (s.canc c).buf b = some x ∧ x.won = false) → NoEffect (.canFrameSent c b sof delay) s) ∧
    (∀ x, (s.canc c).buf b = some x → x.won = true → b ≠ 2 ∨ x.host = none → x.cancel = false → (s.canc c).txErr ≤ 128 →
      (s.canc c).rxErr ≤ 127 →
      s.canState c = 0 →
      Answers (.canFrameSent c b sof delay) s fun t =>
        t.fld (CAN_LEDGER_OUT c) 31 0 = (s.fld (CAN_LEDGER_OUT c) 31 0 + 1) % 2 ^ 32 ∧ t.bit (CAN_TB_STAT c) (8 + b) = true ∧
        (b = 0 → (t.canc c).tb0 = (s.canc c).next0 ∧ t.rd (CAN_TREF_SOF c) = BitVec.ofNat 32 sof) ∧
        (b = 1 → (t.canc c).tb1 = (s.canc c).queue.head?) ∧ (b = 2 → (t.canc c).tb2 = (s.canc c).next2) ∧
        (t.canc c).txErr = (s.canc c).txErr - 1 ∧ NoEvent s t)

/-- Reception (R262 to R264): a frame that no filter takes is not stored; one that a filter takes goes to the end of the receive
FIFO while it has room, and is counted and dropped when it is full; a pop removes the oldest. An FD frame is an error to a controller
with FD_EN = 0, and one with a recessive res bit sends it back to integration (R254). -/
def Obligations.CanReception : Prop :=
  ∀ (c : Fin 8) (f : CanFrame) (stamp : Word) (s : State), Shaped s.toDev →
    (s.canRunning c = true → f.fdf = false ∨ (s.canc c).fd = true → (s.canc c).txErr ≤ 127 → (s.canc c).rxErr ≤ 127 →
      s.canState c = 0 →
      (∀ k, s.canFilter c f = some (k, false) → (s.canc c).rxf.length < 64 →
        Answers (.canFrameReceived c f false stamp) s fun t =>
        (t.canc c).rxf = (s.canc c).rxf ++ [{ frame := f, filter := k, stamp := stamp }] ∧
        t.fld (CAN_RXF_STAT c) 6 0 = (s.canc c).rxf.length + 1 ∧ NoEvent s t) ∧
      (∀ k, s.canFilter c f = some (k, false) → 64 ≤ (s.canc c).rxf.length →
        Answers (.canFrameReceived c f false stamp) s fun t =>
        (t.canc c).rxf = (s.canc c).rxf ∧
        t.fld (CAN_RXF_STAT c) 31 16 = min 65535 (s.fld (CAN_RXF_STAT c) 31 16 + 1)) ∧
      (∀ k, s.canFilter c f = some (k, true) → Answers (.canFrameReceived c f false stamp) s fun t =>
        (t.canc c).rxf = (s.canc c).rxf ∧ (t.canc c).hp = some { frame := f, filter := k, stamp := stamp } ∧
        t.bit (CAN_HP_STAT c) 0 = true ∧ t.rd (CAN_HP_STAMP c) = stamp) ∧
      (s.canFilter c f = none → Answers (.canFrameReceived c f false stamp) s fun t =>
        (t.canc c).rxf = (s.canc c).rxf ∧ (t.canc c).hp = (s.canc c).hp ∧ NoEvent s t)) ∧
    (s.canRunning c = true → f.fdf = true → (s.canc c).fd = true → Answers (.canFrameReceived c f true stamp) s fun t =>
      (t.canc c).integrating = true ∧ (t.canc c).rxf = (s.canc c).rxf ∧ OneEvent s t 0x090B (BitVec.ofNat 32 c) 0#32) ∧
    (s.canState c = 0 → s.bit (CAN_CTRL c) 4 = false → (s.canc c).txErr ≤ 127 → (s.canc c).rxErr ≤ 126 →
      f.fdf = true → (s.canc c).fd = false → ∀ res, Answers (.canFrameReceived c f res stamp) s fun t =>
      (t.canc c).rxErr = (s.canc c).rxErr + 1 ∧ (t.canc c).rxf = (s.canc c).rxf ∧ NoEvent s t) ∧
    (s.canRunning c = false → ∀ res, NoEffect (.canFrameReceived c f res stamp) s) ∧
    ((s.canc c).rxf.isEmpty = false → (s.canc c).rxf.length ≤ 64 → Answers (.canRxfPop c) s fun t =>
      (t.canc c).rxf = (s.canc c).rxf.tail ∧ t.fld (CAN_RXF_STAT c) 6 0 = (s.canc c).rxf.length - 1 ∧ NoEvent s t) ∧
    ((s.canc c).rxf.isEmpty = true → Answers (.canRxfPop c) s fun t => OnlyRegs [] s t ∧ NoEvent s t)

/-! Safety (chapter 12). -/

/-- The frame of a command of the safety logic: the listed registers change, the safety logic becomes u, whose latches are then
copied (R356), and all else is as before. -/
def SafeFramed (l : List Nat) (s t : State) (u : SafeSt) : Prop :=
  RegsBut l s t ∧ blocks t.toDev = blocks s.toDev ∧ SeqKept s t ∧ LogKept s t ∧
    t.safe = (Dev.copyLatches { s.toDev with safe := u }).safe

/-- A cause waits for the next scan end (R355), and nothing else changes. -/
def WaitingCause (s t : State) (c i b : Nat) : Prop :=
  SafeFramed [] s t { s.safe with causes := s.safe.causes ++ [(c, i, b)] } ∧ NoEvent s t

/-- Inputs of the safety logic (R342, R344 to R347): outside the windows of the test pulses, the third sample in a row of the other
level changes the level of a channel in use, and once start-up is complete an input of kind 1 or 2 is in demand exactly when a
channel is not at rest. Understory's filter sets its own level, and a discrepancy that has reached DISC_MS is cause 1 of the channel
that did not follow. -/
def Obligations.SafetyInputs : Prop :=
  ∀ (s : State), Shaped s.toDev →
    (∀ a b bad, s.safe.halt = false → Answers (.canopySample a b bad) s fun t =>
      t.safe.smp = (s.safe.smp + 1) % 500 ∧ t.safe.cmpPrev = bad.toNat ∧
      (∀ (i : Fin 16) (ch : Bool), (t.schan i ch).closed =
        (let lvl := if ch then b.getLsbD i else a.getLsbD i
         if s.inKind i ≠ 0 ∧ inWindow s.safe.smp = false ∧ lvl ≠ (s.schan i ch).closed ∧ 2 ≤ (s.schan i ch).run then lvl
         else (s.schan i ch).closed)) ∧
      (∀ i : Fin 16, s.safe.up = true → s.inKind i = 1 ∨ s.inKind i = 2 → inWindow s.safe.smp = false →
        (t.sin i).demand = !((t.schan i false).closed == restLevel (s.inKind i) false &&
          (t.schan i true).closed == restLevel (s.inKind i) true))) ∧
    (∀ a b bad, s.safe.halt = true → NoEffect (.canopySample a b bad) s) ∧
    (∀ (i : Fin 16) b, s.safe.halt = false → (s.sin i).late = some b → Answers (.discrepancyTimeout i) s fun t =>
      t.sin i = { s.sin i with late := none } ∧ (∀ j, j ≠ i.val → t.sin j = s.sin j) ∧
      SafeFramed [] s t { s.safe with inp := t.safe.inp, causes := s.safe.causes ++ [(1, i.val, bnat (!b))] } ∧ NoEvent s t) ∧
    (∀ (i : Fin 16), s.safe.halt = true ∨ (s.sin i).late = none → NoEffect (.discrepancyTimeout i) s) ∧
    (∀ (i : Fin 16) b closed, s.safe.ustOn = true → Answers (.ustInputFilter i b closed) s fun t =>
      t.schan i b = { s.schan i b with ust := closed } ∧ (∀ j c, (j, c) ≠ (i.val, b) → t.schan j c = s.schan j c) ∧
      SafeFramed [] s t { s.safe with chan := t.safe.chan } ∧ NoEvent s t) ∧
    (∀ i b closed, s.safe.ustOn = false → NoEffect (.ustInputFilter i b closed) s)

/-- Self-monitoring (R337, R339, R350, R355): what Canopy finds waits as a cause for its next scan end; what Understory finds by
itself sets its latch at once, which takes every permit away, and latches the first cause. -/
def Obligations.SafetyMonitors : Prop :=
  ∀ (s : State),
    (∀ (k : Fin 12) high, s.safe.halt = false → s.safe.dark.elim false (fun t => t.out == k.val) = false → s.soOn k ≠ high →
      Answers (.readbackMismatch k high) s fun t => WaitingCause s t (if high then 4 else 5) k 0) ∧
    (∀ (k : Fin 12) high, s.safe.halt = true ∨ s.safe.dark.elim false (fun t => t.out == k.val) = true ∨ s.soOn k = high →
      NoEffect (.readbackMismatch k high) s) ∧
    (∀ k : Fin 12, s.safe.halt = false → s.permitPredicted k ≠ s.permit k →
      Answers (.permitMismatch k) s fun t => WaitingCause s t 13 k 0) ∧
    (∀ k : Fin 12, s.safe.halt = true ∨ s.permitPredicted k = s.permit k → NoEffect (.permitMismatch k) s) ∧
    (s.safe.halt = false → Answers (.romCrcCheck false) s fun t => WaitingCause s t 7 0 0) ∧
    (s.safe.halt = true → NoEffect (.romCrcCheck false) s) ∧ NoEffect (.romCrcCheck true) s ∧
    (∀ n, s.safe.halt = true → NoEffect (.ustHeartbeatCheck n) s) ∧
    (∀ n, s.safe.halt = false → Answers (.ustHeartbeatCheck n) s fun t =>
      t.fld SAFE_UST_FREQ 15 0 = min 65535 (100 * n) ∧ NoEvent s t ∧
      SafeFramed [SAFE_UST_FREQ] s t (if 7 ≤ n ∧ n ≤ 13 then s.safe
        else { s.safe with causes := s.safe.causes ++ [(12, 0, 0)] })) ∧
    (s.safe.ustOn = true → s.safe.ustSusp = false → Answers .canopyHeartbeatLost s fun t =>
      t.safe.ustLatch = true ∧ t.safe.ustAlive = false ∧ (∀ k, t.permit k = false) ∧ OneEvent s t 0x0C01 14#32 0#32 ∧
      (s.deadfall = false → t.fld SAFE_STAT 11 8 = 14 ∧ t.fld SAFE_CNT 23 16 = min 255 (s.fld SAFE_CNT 23 16 + 1))) ∧
    (s.safe.ustOn = false ∨ s.safe.ustSusp = true → NoEffect .canopyHeartbeatLost s) ∧
    (∀ k : Fin 12, s.safe.ustOn = true → s.permit k = false → Answers (.ustReadbackFault k) s fun t =>
      t.safe.ustLatch = true ∧ (∀ j, t.permit j = false) ∧ OneEvent s t 0x0C01 15#32 (BitVec.ofNat 32 (k * 2)) ∧
      (s.deadfall = false → t.fld SAFE_STAT 11 8 = 15 ∧ t.fld SAFE_STAT 15 12 = k)) ∧
    (∀ k : Fin 12, s.safe.ustOn = false ∨ s.permit k = true → NoEffect (.ustReadbackFault k) s)

/-- Canopy's scan end and the dark tests (R349, R351, R355): with nothing found, an output goes or stays on exactly where nothing
forbids it and it is on already, needs no start, or has had one; a waiting cause, or one that the scan itself finds, enters Deadfall,
whose outputs are all off. A dark test is due DARK_P after the last, or 1 s after a failure; its check, DARK_W - 10 µs after the
opening, counts one that passes, and the next is of the other switch; the second failure in a row is cause 6. -/
def Obligations.SafetyDecisions : Prop :=
  ∀ (s : State), Shaped s.toDev →
    (∀ i : ScanIn, s.safe.halt = false → i.flowOk = true → i.memOk = true → i.parityOk = true →
      (s.safe.causes = [] → Answers (.canopyScanEnd i) s fun t => t.safe.causes = [] ∧
        (s.safe.ustOn = true → t.safe.ustAlive = true) ∧
        ∀ k : Fin 12, (t.sout k).on = (match s.offReason k with
          | some _ => false
          | none => (s.sout k).on || !s.bit (SAFE_OUT_CFG k) 16 || (s.sout k).started)) ∧
      (∀ c, lowestCause s.safe.causes = some c → Answers (.canopyScanEnd i) s fun t => t.safe.causes = [] ∧
        t.deadfall = true ∧ (∀ k : Fin 12, (t.sout k).on = false) ∧
        (s.deadfall = false → t.fld SAFE_STAT 11 8 = c.1 % 16 ∧ t.fld SAFE_STAT 15 12 = c.2.1 % 16))) ∧
    (∀ i : ScanIn, s.safe.halt = false → i.flowOk = false ∨ i.memOk = false ∨ i.parityOk = false →
      Answers (.canopyScanEnd i) s fun t => t.safe.causes = [] ∧ t.deadfall = true ∧ ∀ k : Fin 12, (t.sout k).on = false) ∧
    (∀ i : ScanIn, s.safe.halt = true → NoEffect (.canopyScanEnd i) s) ∧
    (∀ k : Fin 12, (s.sout k).on = true → s.outMask k ≠ 0 → (s.sout k).age.any (fun n => decide (s.darkGap k ≤ n)) = true →
      Answers (.darkTestDue k) s fun t =>
      t.sout k = { s.sout k with due := true } ∧ SafeFramed [] s t { s.safe with out := t.safe.out } ∧ NoEvent s t) ∧
    (∀ k : Fin 12, (s.sout k).on = false ∨ s.outMask k = 0 ∨ (s.sout k).age.any (fun n => decide (s.darkGap k ≤ n)) = false →
      NoEffect (.darkTestDue k) s) ∧
    (∀ x, s.safe.dark = some x → s.safe.halt = true ∨ x.smp < s.darkSamples x.out → ∀ h, NoEffect (.darkTestCheck h) s) ∧
    (∀ x, s.safe.dark = some x → x.out < 12 → s.safe.halt = false → s.darkSamples x.out ≤ x.smp →
      (Answers (.darkTestCheck false) s fun t => t.safe.dark = none ∧
        t.sout x.out = { s.sout x.out with fails := 0, ustNext := !(s.sout x.out).ustNext } ∧ NoEvent s t ∧
        t.fld SAFE_DARK_CNT 15 0 = (s.fld SAFE_DARK_CNT 15 0 + 1) % 65536 ∧
        SafeFramed [SAFE_DARK_CNT] s t { s.safe with out := t.safe.out, dark := none }) ∧
      (Answers (.darkTestCheck true) s fun t => t.safe.dark = none ∧
        OneEvent s t 0x0C08 (BitVec.ofNat 32 x.out) (BitVec.ofNat 32 (bnat x.ust)) ∧
        t.safe.causes = s.safe.causes ++ (if 1 ≤ (s.sout x.out).fails then [(6, x.out, 0)] else [])) ∧
      Answers .ustDarkSelfClose s fun t =>
        SafeFramed [] s t { s.safe with dark := some { x with selfClosed := x.ust || x.selfClosed } } ∧ NoEvent s t) ∧
    (s.safe.dark = none → (∀ h, NoEffect (.darkTestCheck h) s) ∧ NoEffect .ustDarkSelfClose s)

/-- SAFE_RESET_N and the start-ups (R356 to R359, R458): a pulse of 200 to 3,000 ms that began in Deadfall, with every input at rest
throughout, nothing found and Understory's filter in its window, clears both latches; any other is only noted, and one that began
before Deadfall is none. Canopy's start-up keeps Deadfall; Understory's power-on drops every permit. -/
def Obligations.SafetyResets : Prop :=
  ∀ (s : State), Shaped s.toDev →
    (∀ ms rc rb mem flow, s.safe.halt = false → s.deadfall = true → s.safe.dfAge < 4 * ms →
      Answers (.safeResetPulse ms rc rb mem flow) s fun t => t.bit SAFE_STAT 4 = false ∧ OnlyRegs [] s t ∧ NoEvent s t) ∧
    (∀ ms rc rb mem flow, s.safe.halt = false → s.deadfall = false ∨ 4 * ms ≤ s.safe.dfAge →
      Answers (.safeResetPulse ms rc rb mem flow) s fun t => t.bit SAFE_STAT 4 = false ∧
      t.rd SAFE_RST_LAST = BitVec.ofNat 32 (min 4095 ms + 4096 * s.pulseResult ms rc rb (mem && flow)) ∧
      (s.pulseResult ms rc rb (mem && flow) ≠ 1 → OnlyRegs [SAFE_RST_LAST] s t) ∧
      (s.pulseResult ms rc rb (mem && flow) = 6 → NoEvent s t) ∧
      (s.pulseResult ms rc rb (mem && flow) ≠ 1 → s.pulseResult ms rc rb (mem && flow) ≠ 6 →
        OneEvent s t 0x0C03 (BitVec.ofNat 32 (s.pulseResult ms rc rb (mem && flow))) (BitVec.ofNat 32 ms))) ∧
    (∀ ms rc, s.safe.halt = false → s.deadfall = true → 4 * ms ≤ s.safe.dfAge → 200 ≤ ms → ms ≤ 3000 → 150000 ≤ rc →
      rc ≤ 3750000 → s.inputsWell = true → 4 * ms ≤ s.safe.wellAge → s.safe.causes = [] → 700 ≤ s.fld SAFE_UST_FREQ 15 0 →
        s.fld SAFE_UST_FREQ 15 0 ≤ 1300 →
      Answers (.safeResetPulse ms rc 0 true true) s fun t => t.deadfall = false ∧ t.fld SAFE_STAT 16 8 = 0 ∧
        OneEvent s t 0x0C02 0#32 (BitVec.ofNat 32 ms)) ∧
    (∀ ms rc rb mem flow, s.safe.halt = true → NoEffect (.safeResetPulse ms rc rb mem flow) s) ∧
    (∀ r m (f : Option (Bool × Fin 16 × Bool)), s.safe.halt = false → s.safe.up = false →
      Answers (.canopyStartup r m f) s fun t => t.safe.up = true ∧ t.deadfall = s.deadfall ∧ t.bit PIN_CFGD 14 = true ∧
      t.safe.causes = s.safe.causes ++ (if r then [] else [(7, 0, 0)]) ++ (if m then [] else [(9, 0, 0)]) ++
        (match f with
          | none => []
          | some (cross, i, b) => [(if cross then 3 else 2, i.val, bnat b)]) ∧
      ∀ i : Fin 16, s.inKind i = 1 ∨ s.inKind i = 2 →
        (t.sin i).demand = !((s.schan i false).closed == restLevel (s.inKind i) false &&
        (s.schan i true).closed == restLevel (s.inKind i) true)) ∧
    (∀ r m f, s.safe.halt = true ∨ s.safe.up = true → NoEffect (.canopyStartup r m f) s) ∧
    (s.safe.ustSusp = true → s.safe.ustAnn = false ∨ (s.rst.run.elim false fun r => r.src == 6) = true →
      (s.safe.ustAlive = true → Answers .ustSuspensionEnd s fun t => SafeFramed [] s t { s.safe with ustSusp := false } ∧
        NoEvent s t) ∧
      (s.safe.ustAlive = false → Answers .ustSuspensionEnd s fun t => t.safe.ustSusp = false ∧ t.safe.ustLatch = true ∧
        OneEvent s t 0x0C01 14#32 0#32)) ∧
    (s.safe.ustAnn = true → (s.rst.run.elim false fun r => r.src == 6) = false → NoEffect .ustSuspensionEnd s) ∧
    (s.safe.ustSusp = false → NoEffect .ustSuspensionEnd s) ∧
    (Answers .vddUstPowerOn s fun t => t.safe.ustOn = true ∧ t.safe.ustSusp = true ∧ (∀ k, t.permit k = false) ∧
      t.safe.ustLatch = (s.safe.canopyLatch && !s.safe.halt) ∧ (∀ i b, (t.schan i b).ust = false) ∧ NoEvent s t ∧
      SafeFramed [] s t t.safe) ∧
    (Answers .vddUstLow s fun t => SafeFramed [] s t { s.safe with ustSw := false } ∧ (∀ k, t.permit k = false) ∧
      NoEvent s t) ∧
    (s.safe.ustOn = true → Answers .vddUstReturn s fun t => SafeFramed [] s t { s.safe with ustSw := true } ∧ NoEvent s t) ∧
    (s.safe.ustOn = false → NoEffect .vddUstReturn s)

/-! Network, network time and standing (chapters 10 and 11). -/

/-- An entry of a duplicate table of this source and number whose time has run out (R286). -/
def forgotten (s : State) (src : BitVec 48) (sq : BitVec 16) (e : DupEntry) : Bool :=
  e.src == src && e.seq == sq && s.spanOver e.made s.forgetMs

/-- No own supervision frame has returned on a port within 2 × LIFE_MS (R289). -/
def supervisionLate (s : State) (c : Bool) : Bool := (s.port c).sup.elim true fun t => s.spanOver t s.supMs

/-- The ring ports (R282, R284, R286, R288, R289): link changes and their events, the fallback's alternation, the settings that
wait for the boundary, the end of a duplicate entry, the supervision of the ring, and the frame that leaves first. -/
def Obligations.RingPorts : Prop :=
  ∀ (s : State) (b : Bool),
    (s.netMode ≠ 0 → s.portRate b = 2 → s.linkUp b = false → Answers (.rateFallbackTimer b) s fun t =>
      Framed [] s t (blocks (s.setPort b fun p => { p with try1g := !p.try1g })) ∧ NoEvent s t) ∧
    (s.netMode = 0 ∨ s.portRate b ≠ 2 ∨ s.linkUp b = true → NoEffect (.rateFallbackTimer b) s) ∧
    (∀ g, s.netMode ≠ 0 → s.linkUp b = false → s.rateOk b g = true → Answers (.linkUp b g) s fun t => t.linkUp b = true ∧
      t.bit NET_STAT (2 + portNo b) = g ∧ OneEvent s t 0x0A01 (BitVec.ofNat 32 (portNo b)) (BitVec.ofNat 32 (bnat g)) ∧
      OnlyRegs [NET_STAT, HOST_EVT_PEND 2] s t) ∧
    (∀ g, s.netMode = 0 ∨ s.linkUp b = true ∨ s.rateOk b g = false → NoEffect (.linkUp b g) s) ∧
    (s.linkUp b = true → Answers (.linkDown b) s fun t => t.linkUp b = false ∧ t.bit NET_STAT (2 + portNo b) = false ∧
      OneEvent s t 0x0A02 (BitVec.ofNat 32 (portNo b)) 0#32 ∧
      Framed [NET_STAT, HOST_EVT_PEND 2] s t (blocks (s.setPort b fun p => { p with try1g := false }))) ∧
    (s.linkUp b = false → NoEffect (.linkDown b) s) ∧
    (∀ v, s.inService = true → Answers (.netCfgWrite v) s fun t => OneEvent s t 0x0A0D 0#32 0#32 ∧ OnlyRegs [] s t) ∧
    (∀ v, s.inService = false → Answers (.netCfgWrite v) s fun t => t.rd NET_CFG &&& 0x1FF#32 = v &&& 0x1FF#32 ∧
      Framed [NET_CFG] s t (blocks { s.toDev with net.cfgPend := true }) ∧ NoEvent s t) ∧
    (∀ d src sq, Answers (.duplicateEntryExpiry d src sq b) s fun t => NoEvent s t ∧ Framed [] s t (blocks (if d then
        { s.toDev with net.delTab := s.net.delTab.filter fun e => !forgotten s src sq e }
      else { s.toDev with net.fwdTab := s.net.fwdTab.filter fun e => !(forgotten s src sq e && e.portB == b) }))) ∧
    (∀ r x rest, s.linkUp b = true → takeFirst (s.port b).egress = some (x, rest) → Answers (.egressTransmit b r) s fun t =>
      (t.port b).egress = rest ∧ (t.port b).sent = s.inFlight x r :: (s.port b).sent ∧ NoEvent s t ∧
      (x.fwd = false → Framed [] s t (blocks { s.toDev with net := t.net })) ∧
      (x.fwd = true → s.netMode = 2 → x.frame.etype = 0x88F7 → u8 (s.inFlight x r).payload 0 % 16 = 0 →
        t.fld NET_TC_CNT 31 0 = (s.fld NET_TC_CNT 31 0 + 1) % 2 ^ 32)) ∧
    (∀ r, s.linkUp b = false ∨ takeFirst (s.port b).egress = none → NoEffect (.egressTransmit b r) s) ∧
    (s.netMode = 2 → Answers .supervisionSend s fun t => t.net.seq = (s.net.seq + 1) % 65536 ∧
      (netRoom s b 64 → Queued s t b fun f => f.etype = 0x88FB ∧ f.dst = supMac ∧ f.src = s.ownMac ∧
        f.seq = BitVec.ofNat 16 s.net.seq)) ∧
    (s.netMode ≠ 2 → NoEffect .supervisionSend s) ∧
    (s.bit NET_STAT 4 = true → (∃ c, supervisionLate s c = true) → Answers .ringOpenTimeout s fun t =>
      t.bit NET_STAT 4 = false ∧ OneEvent s t 0x0A04 0#32 0#32 ∧ OnlyRegs [NET_STAT] s t) ∧
    (s.bit NET_STAT 4 = false ∨ (∀ c, supervisionLate s c = false) → NoEffect .ringOpenTimeout s)

/-- A frame without a fault of its own (R283). -/
def frameGood (f : NetFrame) : Prop := f.fcsOk = true ∧ f.len ≤ 1528

/-- A bad frame is counted on its port (R283, R287). -/
def RxErr (s t : State) (b : Bool) : Prop :=
  if b then t.fld NET_RX_ERR 31 16 = min 65535 (s.fld NET_RX_ERR 31 16 + 1)
  else t.fld NET_RX_ERR 15 0 = min 65535 (s.fld NET_RX_ERR 15 0 + 1)

/-- A frame that HSR forwards waits at the other port, last, and is counted (R285, R287). -/
def Forwarded (s t : State) (b : Bool) (f : NetFrame) (good : Bool) : Prop :=
  (t.port (!b)).egress = (s.port (!b)).egress ++
    [{ frame := { f with fcsOk := good }, fwd := true, ingressDelay := (s.rd (NET_PDELAY b)).toNat }] ∧
  t.net.fwdTab.getLast? = some (s.dupOf f b) ∧ t.fld NET_FWD_CNT 31 0 = (s.fld NET_FWD_CNT 31 0 + 1) % 2 ^ 32

/-- A duplicate is discarded and counted (R285, R290). -/
def Duplicate (s t : State) : Prop :=
  t.fld NET_DUP_CNT 31 0 = (s.fld NET_DUP_CNT 31 0 + 1) % 2 ^ 32 ∧ Quiet [NET_DUP_CNT] s t

/-- Cut-through goes on: it is enabled, both ports run at one rate, and the other port is free (R287). -/
def cutsThrough (s : State) (b : Bool) : Bool :=
  bitOf s.net.cfg.toNat 6 && s.bit NET_STAT 2 == s.bit NET_STAT 3 && (s.port (!b)).egress.isEmpty

/-- Frames from the ring (R283 to R287, R289 to R291, R293): a first copy is forwarded out of the other port and noted in both
tables, a second is counted and discarded; own, bad and unknown frames go no further, but that a bad one may have been cut through;
a returning supervision frame closes the ring; a datagram of IEC 61162-450 is reported. -/
def Obligations.RingFrames : Prop :=
  ∀ (s : State) (b : Bool) (f : NetFrame),
    (s.linkUp b = false → NoEffect (.ringFrameReceived b f) s ∧ NoEffect (.prpFrameReceived b f) s) ∧
    (s.netMode ≠ 1 → s.netMode ≠ 2 → NoEffect (.ringFrameReceived b f) s) ∧
    (s.linkUp b = true → s.netMode = 1 →
      (¬ frameGood f → Answers (.ringFrameReceived b f) s fun t => RxErr s t b ∧ Quiet [NET_RX_ERR] s t) ∧
      (frameGood f → s.dstOk f.dst = false ∨ s.listed f = true → NoEffect (.ringFrameReceived b f) s) ∧
      (frameGood f → s.dstOk f.dst = true → s.listed f = false → Answers (.ringFrameReceived b f) s fun t =>
        Quiet [NET_UNK_CNT] s t ∧ t.fld NET_UNK_CNT 31 0 = min (2 ^ 32 - 1) (s.fld NET_UNK_CNT 31 0 + 1))) ∧
    (s.linkUp b = true → s.netMode = 2 → f.src = s.ownMac →
      (f.etype ≠ 0x88FB ∨ ¬ frameGood f → NoEffect (.ringFrameReceived b f) s) ∧
      (f.etype = 0x88FB → frameGood f → Answers (.ringFrameReceived b f) s fun t => (t.port b).sup = some s.seq.cyc ∧
        (∀ u, s.bit NET_STAT 4 = false → (s.port (!b)).sup = some u → s.spanPast u s.supMs = false →
          t.bit NET_STAT 4 = true ∧ OneEvent s t 0x0A03 0#32 0#32))) ∧
    (s.linkUp b = true → s.netMode = 2 → f.src ≠ s.ownMac → linkLocal f = true →
      (frameGood f → NoEffect (.ringFrameReceived b f) s) ∧
      (¬ frameGood f → Answers (.ringFrameReceived b f) s fun t => RxErr s t b ∧ Quiet [NET_RX_ERR] s t)) ∧
    (s.linkUp b = true → s.netMode = 2 → f.src ≠ s.ownMac → linkLocal f = false →
      (frameGood f →
        (s.dupHas s.net.fwdTab f = false → f.dst ≠ s.ownMac → netRoom s (!b) f.len →
          Answers (.ringFrameReceived b f) s fun t => Forwarded s t b f true) ∧
        (s.dupHas s.net.delTab f = false → s.dstOk f.dst = true → Answers (.ringFrameReceived b f) s fun t =>
          t.net.delTab.getLast? = some (s.dupOf f b)) ∧
        (s.dupHas s.net.fwdTab f = true → s.dupHas s.net.delTab f = true ∨ f.dst ≠ s.ownMac ∧ s.dstOk f.dst = false →
          Answers (.ringFrameReceived b f) s fun t => Duplicate s t)) ∧
      (¬ frameGood f →
        (cutsThrough s b = false → Answers (.ringFrameReceived b f) s fun t => RxErr s t b ∧ Quiet [NET_RX_ERR] s t) ∧
        (cutsThrough s b = true → s.dupHas s.net.fwdTab f = false → f.dst ≠ s.ownMac → netRoom s (!b) f.len →
          Answers (.ringFrameReceived b f) s fun t => RxErr s t b ∧ Forwarded s t b f false))) ∧
    (s.netMode ≠ 3 → NoEffect (.prpFrameReceived b f) s) ∧
    (s.linkUp b = true → s.netMode = 3 → ¬ frameGood f → Answers (.prpFrameReceived b f) s fun t =>
      RxErr s t b ∧ Quiet [NET_RX_ERR] s t) ∧
    (s.linkUp b = true → s.netMode = 3 → frameGood f → f.lanB ≠ b → Answers (.prpFrameReceived b f) s fun t =>
      t.fld NET_WRONG_LAN 31 0 = min (2 ^ 32 - 1) (s.fld NET_WRONG_LAN 31 0 + 1) ∧
      (linkLocal f = true → OneEvent s t 0x0A0E (BitVec.ofNat 32 (portNo b)) (t.rd NET_WRONG_LAN))) ∧
    (s.linkUp b = true → s.netMode = 3 → frameGood f → f.lanB = b →
      (linkLocal f = true → NoEffect (.prpFrameReceived b f) s) ∧
      (linkLocal f = false → s.dupHas s.net.delTab f = true → Answers (.prpFrameReceived b f) s fun t => Duplicate s t) ∧
      (linkLocal f = false → s.dupHas s.net.delTab f = false → s.dstOk f.dst = true → s.listed f = true →
        (s.net.delTab.length < 4096 → Answers (.prpFrameReceived b f) s fun t => NoEvent s t ∧
          Framed [] s t (blocks { s.toDev with net.delTab := s.net.delTab ++ [s.dupOf f b] })) ∧
        (4096 ≤ s.net.delTab.length → Answers (.prpFrameReceived b f) s fun t =>
          t.fld NET_EVICT_CNT 31 0 = min (2 ^ 32 - 1) (s.fld NET_EVICT_CNT 31 0 + 1) ∧
          OneEvent s t 0x0A05 1#32 (t.rd NET_EVICT_CNT) ∧
          Framed [NET_EVICT_CNT] s t (blocks { s.toDev with net.delTab := s.net.delTab.tail ++ [s.dupOf f b] }))) ∧
      (linkLocal f = false → s.dupHas s.net.delTab f = false → s.dstOk f.dst = true → s.listed f = false →
        Answers (.prpFrameReceived b f) s fun t => t.net.delTab.getLast? = some (s.dupOf f b) ∧
          t.fld NET_UNK_CNT 31 0 = min (2 ^ 32 - 1) (s.fld NET_UNK_CNT 31 0 + 1)) ∧
      (linkLocal f = false → s.dupHas s.net.delTab f = false → s.dstOk f.dst = false →
        NoEffect (.prpFrameReceived b f) s)) ∧
    (∀ ip bytes, bitOf s.net.cfg.toNat 8 = false ∨ s.routed 9 = none → NoEffect (.s450DatagramReceived ip bytes) s) ∧
    (∀ ip bytes p, bitOf s.net.cfg.toNat 8 = true → s.routed 9 = some p →
      Answers (.s450DatagramReceived ip bytes) s fun t =>
        Reported s t p (beBytes 4 ip.toNat ++ leBytes 2 bytes.length ++ [0, 0] ++ bytes))

/-- The offset that a Sync shows, rounded (R295). -/
def syncOffset (s : State) (b : Bool) (m : SyncIn) : Int :=
  roundRat ((m.receive : Rat) - (m.origin : Rat) - (m.correction : Rat) / 65536 - ((s.rd (NET_PDELAY b)).toNat : Nat))

/-- Network time (R294, R295, R297, R299): the best foreign clock, the offset of an accepted Sync, its loss, the peer delay, and
the messages of a grandmaster, each port taking its own copy. -/
def Obligations.NetworkTime : Prop :=
  ∀ (s : State) (b : Bool),
    (∀ a : AnnounceIn, s.ptpFor a.domain = false ∨ s.tsel = 1 → NoEffect (.ptpAnnounceReceived b a) s) ∧
    (∀ a : AnnounceIn, s.ptpFor a.domain = true → s.tsel ≠ 1 →
      (s.net.best = none → Answers (.ptpAnnounceReceived b a) s fun t => t.net.best = some a ∧ t.slaveB = b ∧
        (t.port b).heard = true ∧ (t.port (!b)).heard = false ∧ t.net.syncRun = 0) ∧
      (∀ x, s.net.best = some x → x.gm = a.gm → Answers (.ptpAnnounceReceived b a) s fun t => t.net.best = some a ∧
        (t.port b).heard = true ∧ t.net.syncRun = s.net.syncRun ∧ t.slaveB = (b && s.slaveB)) ∧
      (∀ x, s.net.best = some x → x.gm ≠ a.gm → Answers (.ptpAnnounceReceived b a) s fun t =>
        t.net.best = some (if lexLt (annSet a) (annSet x) then a else x))) ∧
    (∀ m, s.syncOk b m = true → Answers (.ptpSyncReceived b m) s fun t =>
      t.rd NET_PTP_OFS = clamp32 (syncOffset s b m) ∧ t.net.lastOfs = syncOffset s b m ∧
      (s.timeValid = false → (s.port b).measured = false → t.net.syncRun = 0 ∧ t.timeValid = false) ∧
      (s.timeValid = false → (s.port b).measured = true → s.net.syncRun < 3 → t.net.syncRun = s.net.syncRun + 1 ∧
        t.timeValid = false) ∧
      (s.timeValid = false → (s.port b).measured = true → 3 ≤ s.net.syncRun → t.timeValid = true ∧ t.timeSource = 2 ∧
        OneEvent s t 0x0A07 2#32 0#32)) ∧
    (∀ m, s.syncOk b m = false → NoEffect (.ptpSyncReceived b m) s) ∧
    (s.bit NET_TIME_STAT 5 = true → (s.port (!s.slaveB)).heard = true → Answers .ptpSyncTimeout s fun t =>
      t.slaveB = !s.slaveB ∧ (t.port s.slaveB).heard = false ∧ t.net.best = s.net.best ∧ NoEvent s t) ∧
    ((s.bit NET_TIME_STAT 5 = true ∧ (s.port (!s.slaveB)).heard = false) ∨ (s.bit NET_TIME_STAT 5 = false ∧ s.timeSource = 2) →
      Answers .ptpSyncTimeout s fun t => t.net.best = none ∧ t.net.syncRun = 0 ∧
        (s.timeSource = 2 → t.bit NET_TIME_STAT 3 = true ∧ (s.bit NET_TIME_STAT 3 = false →
          OneEvent s t 0x0A09 0#32 (BitVec.ofInt 32 s.net.lastOfs)))) ∧
    (s.bit NET_TIME_STAT 5 = false → s.timeSource ≠ 2 → NoEffect .ptpSyncTimeout s) ∧
    (bitOf s.net.tsrc.toNat 3 = true → Answers (.pdelayReqSend b) s fun t => t.net.ptpSeq = (s.net.ptpSeq + 1) % 65536 ∧
      t.port (!b) = s.port (!b) ∧ (netRoom s b (72 + 4 * bnat (s.bit NET_VLAN 12)) → Queued s t b fun f =>
        f.etype = 0x88F7 ∧ f.dst = pdelayMac ∧ f.src = s.ownMac ∧ f.payload.head? = some 2)) ∧
    (bitOf s.net.tsrc.toNat 3 = false → NoEffect (.pdelayReqSend b) s) ∧
    (∀ d n, s.ptpFor d = true → Answers (.pdelayMessageReceived b (.response d n)) s fun t =>
      t.rd (NET_PDELAY b) = BitVec.ofNat 32 n ∧ NoEvent s t ∧
      Framed [NET_PDELAY b] s t (blocks (s.setPort b fun p => { p with measured := true }))) ∧
    (∀ d, s.ptpFor d = true → Answers (.pdelayMessageReceived b (.request d)) s fun t => t.port (!b) = s.port (!b) ∧
      (netRoom s b (72 + 4 * bnat (s.bit NET_VLAN 12)) → Queued s t b fun f => f.etype = 0x88F7 ∧ f.dst = pdelayMac ∧
        f.payload.head? = some 3)) ∧
    (∀ d n, s.ptpFor d = false → NoEffect (.pdelayMessageReceived b (.response d n)) s ∧
      NoEffect (.pdelayMessageReceived b (.request d)) s) ∧
    (s.bit NET_TIME_STAT 4 = true → bitOf s.net.tsrc.toNat 3 = true →
      (Answers .ptpSyncSend s fun t => t.net.ptpSeq = (s.net.ptpSeq + 1) % 65536 ∧ (netRoom s b 100 →
        Queued s t b fun f => f.etype = 0x88F7 ∧ f.dst = ptpMac ∧ f.src = s.ownMac ∧ f.payload.head? = some 0)) ∧
      (s.timeValid = true → Answers .ptpAnnounceSend s fun t => t.net.ptpSeq = (s.net.ptpSeq + 1) % 65536 ∧ (netRoom s b 100 →
        Queued s t b fun f => f.etype = 0x88F7 ∧ f.dst = ptpMac ∧ f.src = s.ownMac ∧ f.payload.head? = some 11))) ∧
    (s.bit NET_TIME_STAT 4 = false ∨ bitOf s.net.tsrc.toNat 3 = false →
      NoEffect .ptpSyncSend s ∧ NoEffect .ptpAnnounceSend s) ∧
    (s.timeValid = false → NoEffect .ptpAnnounceSend s)

/-- TNOW, captures and alarms (R303, R305, R306): a read latches the present; an edge that is enabled goes to the FIFO of 16, a
pop takes the oldest; an alarm that is armed in the past fires late at once, and any armed one fires when its time comes. -/
def Obligations.CapturesAndAlarms : Prop :=
  ∀ (s : State) (a : Fin 4),
    (Answers .tnowRead s fun t => t.rd NET_TNOW_NS = stamp32 s.now ∧ t.rd NET_TNOW_ERA = eraOf s.now ∧
      OnlyRegs [NET_TNOW_NS, NET_TNOW_ERA] s t ∧ NoEvent s t) ∧
    (∀ fall e held, s.bit NET_EVT_CFG 0 = true → s.fld NET_EVT_CFG 10 3 + 1 ≤ held →
      s.fld NET_EVT_CFG 2 1 % 3 = 2 ∨ (s.fld NET_EVT_CFG 2 1 % 3 = 1 ↔ fall = true) →
      (s.net.evt.length < 16 → Answers (.evtInCapture fall ⟨e, held⟩) s fun t =>
        t.net.evt = s.net.evt ++
          [(((e : Rat) - ((s.fld NET_EVT_CFG 10 3 + 3 : Nat) : Rat) * 16 / 5).floor, fall)] ∧
        t.fld NET_EVT_STAT 4 0 = s.net.evt.length + 1 ∧ t.bit (HOST_EVT_PEND 2) 0 = true ∧ NoEvent s t) ∧
      (16 ≤ s.net.evt.length → Answers (.evtInCapture fall ⟨e, held⟩) s fun t => t.net.evt = s.net.evt ∧
        t.fld NET_EVT_STAT 31 16 = min 65535 (s.fld NET_EVT_STAT 31 16 + 1))) ∧
    (∀ fall e held, s.bit NET_EVT_CFG 0 = false ∨ held < s.fld NET_EVT_CFG 10 3 + 1 ∨
      (s.fld NET_EVT_CFG 2 1 % 3 ≠ 2 ∧ (s.fld NET_EVT_CFG 2 1 % 3 = 1 ↔ fall = false)) →
      NoEffect (.evtInCapture fall ⟨e, held⟩) s) ∧
    (s.net.evt ≠ [] → s.net.evt.length ≤ 16 → Answers .evtPop s fun t => t.net.evt = s.net.evt.tail ∧
      t.fld NET_EVT_STAT 4 0 = s.net.evt.length - 1 ∧ NoEvent s t) ∧
    (s.net.evt = [] → NoEffect .evtPop s) ∧
    (∀ v, s.bit (NET_ALARM_CTL a) 0 = false → v.getLsbD 0 = true →
      (s.now ≤ s.alarmNs a → Answers (.alarmArm a v) s fun t => t.bit (NET_ALARM_CTL a) 0 = true ∧
        t.bit (NET_ALARM_CTL a) 2 = false ∧ t.bit (NET_ALARM_CTL a) 3 = false ∧ OnlyRegs [NET_ALARM_CTL a] s t ∧ NoEvent s t) ∧
      (s.alarmNs a < s.now → Answers (.alarmArm a v) s fun t => t.bit (NET_ALARM_CTL a) 0 = false ∧
        t.bit (NET_ALARM_CTL a) 1 = true ∧ t.bit (NET_ALARM_CTL a) 2 = true ∧ OneEvent s t 0x0A0C (BitVec.ofNat 32 a) 0#32 ∧
        OnlyRegs [NET_ALARM_CTL a, HOST_EVT_PEND 2] s t)) ∧
    (∀ v, v.getLsbD 0 = false → Answers (.alarmArm a v) s fun t => t.bit (NET_ALARM_CTL a) 0 = false ∧
      OnlyRegs [NET_ALARM_CTL a] s t ∧ NoEvent s t) ∧
    (s.bit (NET_ALARM_CTL a) 0 = true → (s.alarmNs a : Rat) < s.clk.localNs + 375000 → Answers (.alarmFire a) s fun t =>
      t.bit (NET_ALARM_CTL a) 0 = false ∧ t.bit (NET_ALARM_CTL a) 1 = true ∧ t.bit (NET_ALARM_CTL a) 2 = false ∧
      t.bit (NET_ALARM_CTL a) 3 = false ∧ OnlyRegs [NET_ALARM_CTL a, HOST_EVT_PEND 2] s t ∧ NoEvent s t) ∧
    (s.bit (NET_ALARM_CTL a) 0 = false ∨ s.clk.localNs + 375000 ≤ (s.alarmNs a : Rat) → NoEffect (.alarmFire a) s)

/-- Standing (R317, R321, R322, R327, R328, R331): heartbeats and standing frames are held for the boundary that takes them; a
device without a Warden follows the self rule; lost tracking, due swaps and swap commands are noted. That a peer is absent is
seen by the Warden's decision alone (DEDUCED from R317). -/
def Obligations.StandingCommands : Prop :=
  ∀ (s : State) (p : List Byte),
    (s.roleBad = false → s.role ≠ 3 → u8 p 0 = 0x11 →
      (s.peerRole (u8 p 2 % 16) = some 0 → s.role ≠ 0 → Answers (.heartbeatReceived p) s fun t => NoEvent s t ∧
        Framed [] s t (blocks { s.toDev with stand.hbLead := some (BitVec.ofNat 32 (u32 p 16)) })) ∧
      (s.peerRole (u8 p 2 % 16) = some 1 → s.role ≠ 1 → Answers (.heartbeatReceived p) s fun t => NoEvent s t ∧
        Framed [] s t (blocks { s.toDev with stand.hbSecond := some (BitVec.ofNat 32 (u32 p 16)) })) ∧
      (s.peerRole (u8 p 2 % 16) = none → NoEffect (.heartbeatReceived p) s)) ∧
    (s.roleBad = true ∨ s.role = 3 ∨ u8 p 0 ≠ 0x11 → NoEffect (.heartbeatReceived p) s) ∧
    (∀ x, NoEffect (.peerAbsent x) s) ∧
    (s.isPeer = true → s.wardenEn = true → u8 p 0 = 0x12 → u8 p 2 % 16 = s.stdUnit 2 →
      Answers (.standingFrameReceived p) s fun t =>
      NoEvent s t ∧ Framed [] s t (blocks { s.toDev with stand.frame := some {
        dseq := u16 p 16, unit := u8 p 18 % 16, role := bitsOf (u8 p 18) 5 4, decided := bitOf (u8 p 18) 6, reason := u8 p 19 } })) ∧
    (s.isPeer = false ∨ s.wardenEn = false ∨ u8 p 0 ≠ 0x12 ∨ u8 p 2 % 16 ≠ s.stdUnit 2 →
      NoEffect (.standingFrameReceived p) s) ∧
    (s.isPeer = true → s.wardenEn = true → s.bit STAND_STAT 5 = false → s.hbMiss < s.fld STAND_MISS 23 16 →
      Answers .wardenLost s fun t => t.bit STAND_STAT 5 = true ∧
        OneEvent s t 0x0B08 0#32 (BitVec.ofNat 32 (s.fld STAND_MISS 23 16)) ∧
        (s.tick ≠ 2 → OnlyRegs [STAND_STAT] s t) ∧
        (s.tick = 2 → t.holds = (let other := s.present (1 - s.role) && s.peerFit (1 - s.role)
            if s.role = 0 then s.bit STAND_SDW 0 || !other else !other && s.bit STAND_SDW 0) ∧
          t.stand.standing = t.holds ∧ t.stand.shadow = (!t.holds) ∧
          Framed [STAND_STAT, STAND_SDW, HOST_EVT_PEND 2] s t (blocks { s.toDev with stand := t.stand }))) ∧
    (s.isPeer = false ∨ s.wardenEn = false ∨ s.bit STAND_STAT 5 = true ∨ s.fld STAND_MISS 23 16 ≤ s.hbMiss →
      NoEffect .wardenLost s) ∧
    (s.isPeer = true → s.holds = false → u8 p 0 = 0x13 → s.peerRole (u8 p 2 % 16) = some (1 - s.role) → u8 p 16 ≤ 2 →
      Answers (.stateSetPartReceived p) s fun t => NoEvent s t ∧ Framed [] s t (blocks { s.toDev with stand.parts :=
        ({ set := u32 p 20, npart := u8 p 18, part := u8 p 17, sect := u8 p 16, cnt := u8 p 19, bytes := p.drop 24 } : SetPart) ::
          (s.stand.parts.filter (fun y => !(y.set == u32 p 20 && y.part == u8 p 17))) })) ∧
    (s.isPeer = false ∨ s.holds = true ∨ u8 p 0 ≠ 0x13 ∨ s.peerRole (u8 p 2 % 16) ≠ some (1 - s.role) ∨ 2 < u8 p 16 →
      NoEffect (.stateSetPartReceived p) s) ∧
    (s.isPeer = true → s.holds = false → s.bit STAND_STAT 6 = false → s.fld STAND_CFG 23 20 < s.stand.trackMiss →
      Answers .trackLost s fun t => t.bit STAND_STAT 6 = true ∧ OneEvent s t 0x0B05 0#32 (BitVec.ofNat 32 s.stand.trackMiss) ∧
        OnlyRegs [STAND_STAT] s t) ∧
    (s.isPeer = false ∨ s.holds = true ∨ s.bit STAND_STAT 6 = true ∨ s.stand.trackMiss ≤ s.fld STAND_CFG 23 20 →
      NoEffect .trackLost s) ∧
    (s.isWarden = true → s.stand.holder ≠ none → s.fld STAND_SWAP 15 0 ≠ 0 →
      s.fld STAND_SWAP 15 0 * 180000 ≤ s.stand.heldCycles →
      Answers .swapDue s fun t => Framed [] s t (blocks { s.toDev with stand.swapDue := true }) ∧ NoEvent s t) ∧
    (s.isWarden = false ∨ s.stand.holder = none ∨ s.fld STAND_SWAP 15 0 = 0 ∨
      s.stand.heldCycles < s.fld STAND_SWAP 15 0 * 180000 → NoEffect .swapDue s) ∧
    (s.isWarden = true → s.sessOk 2 = true → Answers .standingSwapCommand s fun t =>
      Framed [] s t (blocks { s.toDev.sessUse with stand.cmd := true }) ∧ NoEvent s t) ∧
    (s.isWarden = true → s.sessOk 2 = false → Answers .standingSwapCommand s fun t => OneEvent s t 0x0B07 0#32 1#32 ∧
      OnlyRegs [] s t) ∧
    (s.isWarden = false → NoEffect .standingSwapCommand s)

/-! Thicket, the recorder and the status panel (chapters 13 to 15). -/

/-- The point that an accepted entry creates under a number (R367, R371). -/
def pointOfEntry (n g : Nat) (arrival : Int) (e : List Byte) : ThktPt :=
  let v := quantise (u8 e 26 % 16) (signed 32 (u32 e 28))
  { num := n, hash := (sha384 (leBytes 1 (u8 e 0) ++ slice e 2 (u8 e 1))).take 7, cls := u8 e 26 % 16,
    sealSt := bitsOf (u8 e 26) 6 4, gw := g, outR := v.2, value := v.1, lastS := (arrival / 1000000000).toNat % 2 ^ 32 }

/-- Thicket's report frames (R364, R367, R370, R375): a frame is counted in, and dropped with its reason or accepted; an accepted
entry of a new identity takes the lowest free point; a gateway that stays silent loses its live points. -/
def Obligations.ThicketFrames : Prop :=
  ∀ (s : State) (ip : Word) (b : List Byte) (arrival queued : Nat),
    (s.bit THKT_CFG 0 = false → Answers (.thicketReport ip b ⟨arrival, queued⟩) s fun t =>
      t.fld (THKT_LEDGER 0) 31 0 = (s.fld (THKT_LEDGER 0) 31 0 + 1) % 2 ^ 32 ∧
      t.fld (THKT_LEDGER 3) 31 0 = (s.fld (THKT_LEDGER 3) 31 0 + 1) % 2 ^ 32 ∧ Quiet [THKT_LEDGER 0, THKT_LEDGER 3] s t) ∧
    (∀ r, s.bit THKT_CFG 0 = true → s.frameBad ip b queued = some r → Answers (.thicketReport ip b ⟨arrival, queued⟩) s fun t =>
      t.fld (THKT_LEDGER 3) 31 0 = (s.fld (THKT_LEDGER 3) 31 0 + 1) % 2 ^ 32 ∧
      OneEvent s t 0x0D03 (BitVec.ofNat 32 (if b.length < 16 then 0xFF else u8 b 2)) (BitVec.ofNat 32 r) ∧
      OnlyRegs [THKT_LEDGER 0, THKT_LEDGER 3] s t) ∧
    (s.bit THKT_CFG 0 = true → s.frameBad ip b queued = none → Answers (.thicketReport ip b ⟨arrival, queued⟩) s fun t =>
      t.fld (THKT_LEDGER 1) 31 0 = (s.fld (THKT_LEDGER 1) 31 0 + 1) % 2 ^ 32 ∧
      t.rd (THKT_GW_SEQ (u8 b 2)) = BitVec.ofNat 32 (u32 b 4) ∧ lookupKey (u8 b 2) t.thkt.heard = some (arrival : Int) ∧
      (u8 b 3 = 1 → entryBad (slice b 16 32) = none → freePt 0 s.thkt.pts < 262144 →
        let x := pointOfEntry (freePt 0 s.thkt.pts) (u8 b 2) arrival (slice b 16 32)
        s.pointOf x.hash = none → t.point x.num = some x)) ∧
    (∀ g : Fin 256, s.thkt.heard.filter (fun h => h.1 == g.val) = [] → NoEffect (.gatewaySilent g) s) ∧
    (∀ (g : Fin 256) ns, s.thkt.heard.filter (fun h => h.1 == g.val) = [(g.val, ns)] → s.bit THKT_CFG 0 = true →
      s.bit (THKT_GW_CFG g) 0 = true → s.bit (THKT_GW_STAT g) 0 = false →
      1000000000 * ((max 1 (s.fld THKT_CFG 31 16) : Nat) : Int) < s.boundaryNs - ns → Answers (.gatewaySilent g) s fun t =>
        t.bit (THKT_GW_STAT g) 0 = true ∧ (∀ n p, t.point n = some p → p.gw = g.val → p.sealSt = 5) ∧
        OneEvent s t 0x0D05 (BitVec.ofNat 32 g)
          (BitVec.ofNat 32 (s.thkt.pts.filter fun p => p.gw == g.val && p.sealSt != 5).length)) ∧
    (∀ (g : Fin 256) ns, s.thkt.heard.filter (fun h => h.1 == g.val) = [(g.val, ns)] →
      s.boundaryNs - ns ≤ 1000000000 * ((max 1 (s.fld THKT_CFG 31 16) : Nat) : Int) ∨ s.bit THKT_CFG 0 = false ∨
        s.bit (THKT_GW_CFG g) 0 = false ∨ s.bit (THKT_GW_STAT g) 0 = true → NoEffect (.gatewaySilent g) s)

/-- Records and points (R368, R380, R381, R383): the signing engine signs the oldest record, which leaves the queue when its
destinations have it; a release needs its session; a latch and a search show a point. The signature itself is free (log entry 6). -/
def Obligations.CustodyCommands : Prop :=
  ∀ (s : State),
    (∀ c cs, s.thkt.queue = c :: cs → c.sig = [] →
      (Answers .recordSigned s fun t => (∃ g, g.length = 96 ∧ t.thkt.queue = { c with sig := g } :: cs) ∧
        Framed [] s t (blocks { s.toDev with thkt.queue := t.thkt.queue }) ∧ NoEvent s t) ∧ NoEffect .custodyHandoff s) ∧
    (∀ c cs, s.thkt.queue = c :: cs → c.sig ≠ [] → NoEffect .recordSigned s ∧
      (s.ringlogOk = true → c.nor = true → s.routed 4 = none → cs.length < 4096 → Answers .custodyHandoff s fun t =>
        t.thkt.queue = cs ∧ t.fld (THKT_CREC 1) 31 0 = (s.fld (THKT_CREC 1) 31 0 + 1) % 2 ^ 32 ∧
        t.fld THKT_QUEUE 11 0 = cs.length ∧ NoEvent s t) ∧
      (c.nor = false → s.ringlogOk = true → s.routed 4 = none → NoEffect .custodyHandoff s) ∧
      (∀ p, s.routed 4 = some p → c.whole.length = 176 → c.ring = false → s.repFits p 6 = true →
        Answers .custodyHandoff s fun t => ∃ h, h.length = 32 ∧ (p, h ++ padSlots c.whole) ∈ t.host.out)) ∧
    (s.thkt.queue = [] → NoEffect .recordSigned s ∧ NoEffect .custodyHandoff s) ∧
    (∀ v : Word, v.getLsbD 31 = false → NoEffect (.pointReleaseCommand v) s) ∧
    (∀ v : Word, v.getLsbD 31 = true → s.sessOk 3 = true → Answers (.pointReleaseCommand v) s fun t =>
      t.rd THKT_REL_STAT = 16#32 ∧ NoEvent s t ∧
      Framed [THKT_REL_STAT] s t (blocks { s.toDev.sessUse with thkt.rel := s.thkt.rel ++ [bitsOf v.toNat 17 0] })) ∧
    (∀ v : Word, v.getLsbD 31 = true → s.sessOk 3 = false → Answers (.pointReleaseCommand v) s fun t =>
      t.fld THKT_REL_STAT 3 0 = 2 ∧ Quiet [THKT_REL_STAT] s t) ∧
    (∀ v : Word, Answers (.pointLatch v 0) s fun t => t.rd THKT_PT_IDX = BitVec.ofNat 32 (bitsOf v.toNat 17 0) ∧
      (∀ k : Fin 4, t.rd (THKT_PT k) = BitVec.ofNat 32 (u32 (s.pointBytes (bitsOf v.toNat 17 0)) (4 * k))) ∧
      Quiet [THKT_PT_IDX, THKT_PT 0, THKT_PT 1, THKT_PT 2, THKT_PT 3] s t) ∧
    (∀ v : Word, Answers (.pointLatch v 2) s fun t => t.point (bitsOf v.toNat 17 0) = none ∧
      t.thkt.corrupt = s.thkt.corrupt ++ [bitsOf v.toNat 17 0] ∧
      t.fld THKT_ECC 31 16 = min 65535 (s.fld THKT_ECC 31 16 + 1) ∧
      OneEvent s t 0x0D09 (BitVec.ofNat 32 (bitsOf v.toNat 17 0)) 0#32) ∧
    (∀ v : Word, Answers (.pointFind v) s fun t => t.rd THKT_FIND_HI = BitVec.ofNat 32 (bitsOf v.toNat 23 0) ∧
      (v.getLsbD 31 = true → t.rd THKT_FIND_RES = 0x40000000#32) ∧
      (v.getLsbD 31 = false → t.rd THKT_FIND_RES = s.rd THKT_FIND_RES) ∧ Quiet [THKT_FIND_HI, THKT_FIND_RES] s t) ∧
    (s.bit THKT_FIND_RES 30 = true → Answers .pointFindDone s fun t => Quiet [THKT_FIND_RES] s t ∧
      t.rd THKT_FIND_RES = match s.pointOf (leBytes 4 (s.rd THKT_FIND_LO).toNat ++ leBytes 3 (s.fld THKT_FIND_HI 23 0)) with
        | some p => BitVec.ofNat 32 (p.num + 2 ^ 31)
        | none => 0#32) ∧
    (s.bit THKT_FIND_RES 30 = false → NoEffect .pointFindDone s)

/-- A freeze has lasted FREEZE_MAX seconds (R396). -/
def freezeOver (s : State) : Bool := s.spanOver s.log.freezeAt (1000 * max 1 (s.fld LOG_CFG 23 16))

/-- Duff and Ringlog (R388 to R398): the oldest event raised is taken, of those of one stamp the one of lowest code, and passes or
is held back by its bucket; Ringlog takes the pinned queue before the ring, and a failed erase retires a block; a freeze and a clear
need their session. While Glade hangs at a stopped domain its commands wait (R492). -/
def Obligations.RecorderCommands : Prop :=
  ∀ (s : State),
    (s.log.raised = [] → NoEffect .eventRecord s) ∧
    (∀ r rs, s.log.raised = r :: rs → ∃ e es, nextRaised s.log.raised = some (e, es) ∧ e ∈ s.log.raised ∧ e.stamp = r.stamp ∧
      es = s.log.raised.erase e ∧ ∀ x ∈ s.log.raised, x.stamp = r.stamp → e.code ≤ x.code) ∧
    (∀ e es, nextRaised s.log.raised = some (e, es) →
      (Answers .eventRecord s fun t => (∃ more, t.log.raised = es ++ more) ∧
        t.fld (LOG_LEDGER 0) 31 0 = (s.fld (LOG_LEDGER 0) 31 0 + 1) % 2 ^ 32) ∧
      (s.rlRate e.code = none ∨ 1000 ≤ (s.bucket e.code).tok → s.ringlogOk = true → pinnedCode e.code = false →
        s.log.waiting < 4096 → Answers .eventRecord s fun t =>
          t.log.duff.getLast? = some { bytes := s.logBytes e false false } ∧ t.log.waiting = s.log.waiting + 1) ∧
      (s.rlRate e.code = none ∨ 1000 ≤ (s.bucket e.code).tok → s.ringlogOk = true → pinnedCode e.code = true →
        s.log.pin.length < 256 → Answers .eventRecord s fun t =>
          t.log.pin = s.log.pin ++ [{ bytes := s.logBytes e false false }] ∧ t.log.duff = s.log.duff) ∧
      (∀ r, s.rlRate e.code = some r → 1 ≤ e.code / 256 → e.code / 256 ≤ 0x11 → (s.bucket e.code).tok < 1000 →
        Answers .eventRecord s fun t => (t.bucket e.code).held = (s.bucket e.code).held + 1 ∧ t.log.duff = s.log.duff ∧
          t.log.pin = s.log.pin)) ∧
    (s.log.buckets = [] → Answers .bucketRefill s fun t => Quiet [LOG_LEDGER 2, LOG_DUFF_PTR] s t) ∧
    (∀ b r, s.log.buckets = [b] → s.rlRate b.code = some r → b.held = 0 → Answers .bucketRefill s fun t =>
      (t.bucket b.code).tok = min (s.rlCap b.code) (b.tok + r) ∧
        Quiet [LOG_LEDGER 2, LOG_DUFF_PTR] { s with log.buckets := t.log.buckets } t) ∧
    (s.glade.hung = true → ∀ ok v c, c ∈ [.ringlogWrite ok, .norErase ok, .stateSave, .recorderClear v, .clearComplete] →
      NoEffect c s) ∧
    (∀ ok, s.ringlogOk = false ∨ s.bit LOG_STAT 4 = true → NoEffect (.ringlogWrite ok) s) ∧
    (s.glade.hung = false → s.ringlogOk = true → s.bit LOG_STAT 4 = false →
      (∀ r rs, s.log.pin = r :: rs → s.log.evAt < 32768 →
        (Answers (.ringlogWrite true) s fun t => t.log.pin = rs ∧ t.log.pinEv = s.log.pinEv ++ [r.bytes] ∧
          t.fld (LOG_LEDGER 1) 31 0 = (s.fld (LOG_LEDGER 1) 31 0 + r.weight) % 2 ^ 32) ∧
        (Answers (.ringlogWrite false) s fun t => t.log.pin = r :: rs ∧ t.log.pinEv = s.log.pinEv ∧
          t.log.bad = (3 + s.log.evAt / 2048) :: s.log.bad)) ∧
      (∀ r, s.log.pin = [] → s.thkt.queue = [] → s.bit LOG_STAT 1 = false → s.log.waiting ≠ 0 →
        s.log.duff[s.log.duff.length - s.log.waiting]? = some r → s.circFill s.log.cur < 2048 → s.log.cur ∉ s.log.bad →
        Answers (.ringlogWrite true) s fun t => t.log.waiting = s.log.waiting - 1 ∧
          t.log.circ = circAdd s.log.circ s.log.cur r.bytes ∧
          t.fld (LOG_LEDGER 1) 31 0 = (s.fld (LOG_LEDGER 1) 31 0 + r.weight) % 2 ^ 32) ∧
      (∀ c cs, s.log.pin = [] → s.thkt.queue = c :: cs → c.sig ≠ [] → c.nor = false → s.log.crAt < 16384 →
        Answers (.ringlogWrite true) s fun t => t.thkt.queue = { c with nor := true } :: cs ∧
          t.log.pinCr = s.log.pinCr ++ [c.whole ++ List.replicate 16 0xFF])) ∧
    (∀ b, s.glade.hung = false → s.ringlogOk = true → s.log.ahead = false → s.nextBlock s.log.cur = some b →
      (Answers (.norErase true) s fun t => t.log.ahead = true ∧ t.log.circ = s.log.circ.filter (fun p => p.1 != b)) ∧
      (Answers (.norErase false) s fun t => t.log.bad = b :: s.log.bad ∧ t.log.ahead = false ∧
        t.fld LOG_WEAR 31 24 = min 255 (s.fld LOG_WEAR 31 24 + 1))) ∧
    (∀ ok, s.ringlogOk = false ∨ s.log.ahead = true → NoEffect (.norErase ok) s) ∧
    (s.glade.hung = false → s.ringlogOk = true → Answers .stateSave s fun t =>
      Quiet [] { s with log.saved := (s.fld LOG_PWR_CYC 23 0, (s.rd LOG_OP_S).toNat) } t) ∧
    (s.ringlogOk = false → NoEffect .stateSave s) ∧
    (s.sessOk 4 = true → s.bit LOG_STAT 1 = false → Answers .freezeBegin s fun t => t.bit LOG_STAT 1 = true ∧
      t.bit LOG_FREEZE 0 = true ∧ t.log.frozenDrops = 0 ∧ t.log.freezeAt = s.seq.cyc ∧ OneEvent s t 0x0E01 0#32 0#32 ∧
      RegsBut [LOG_STAT, LOG_FREEZE] s t) ∧
    (s.sessOk 4 = false ∨ s.bit LOG_STAT 1 = true → NoEffect .freezeBegin s) ∧
    (s.bit LOG_STAT 1 = true →
      (s.sessOk 4 = true → Answers .freezeEnd s fun t => t.bit LOG_STAT 1 = false ∧ t.bit LOG_FREEZE 0 = false ∧
        OneEvent s t 0x0E02 0#32 (BitVec.ofNat 32 s.log.frozenDrops) ∧
        Framed [LOG_STAT, LOG_FREEZE] s t (blocks s.toDev.sessUse)) ∧
      (freezeOver s = true → Answers .freezeExpiry s fun t => t.bit LOG_STAT 1 = false ∧ t.bit LOG_FREEZE 0 = false ∧
        OneEvent s t 0x0E02 1#32 (BitVec.ofNat 32 s.log.frozenDrops) ∧ OnlyRegs [LOG_STAT, LOG_FREEZE] s t)) ∧
    (s.bit LOG_STAT 1 = false ∨ freezeOver s = false → NoEffect .freezeExpiry s) ∧
    (s.bit LOG_STAT 1 = false → s.sessOk 4 = true → Answers .freezeEnd s fun t =>
      Framed [] s t (blocks s.toDev.sessUse) ∧ NoEvent s t) ∧
    (s.sessOk 4 = false → NoEffect .freezeEnd s) ∧
    (∀ v : Word, v.getLsbD 31 = false ∨ bitsOf v.toNat 1 0 = 0 → NoEffect (.recorderClear v) s) ∧
    (∀ v : Word, s.glade.hung = false → v.getLsbD 31 = true → bitsOf v.toNat 1 0 ≠ 0 →
      (s.sessLevel 4 = true → s.bit LOG_STAT 1 = false → s.bit LOG_STAT 4 = false → s.ringlogOk = true →
        Answers (.recorderClear v) s fun t => t.bit LOG_STAT 4 = true ∧ t.rd LOG_CLR_STAT = 16#32 ∧ NoEvent s t ∧
          t.log.clear = some (bitsOf v.toNat 1 0, s.fld GLB_SESS_STAT 5 3)) ∧
      (∀ code, s.sessLevel 4 = true → code = (if s.bit LOG_STAT 1 then 2 else if s.bit LOG_STAT 4 then 3
          else if s.ringlogOk then 0 else 4) → code ≠ 0 → Answers (.recorderClear v) s fun t =>
        t.fld LOG_CLR_STAT 3 0 = code ∧ OneEvent s t 0x0E04 0#32 (BitVec.ofNat 32 code) ∧
        Framed [LOG_CLR_STAT] s t (blocks s.toDev.sessUse)) ∧
      (s.sessLevel 4 = false → Answers (.recorderClear v) s fun t => t.fld LOG_CLR_STAT 3 0 = 1 ∧
        OneEvent s t 0x0E04 0#32 1#32 ∧ OnlyRegs [LOG_CLR_STAT] s t)) ∧
    (s.log.clear = none → NoEffect .clearComplete s) ∧
    (∀ region slot, s.glade.hung = false → s.log.clear = some (region, slot) → Answers .clearComplete s fun t =>
      t.log.clear = none ∧ t.bit LOG_STAT 4 = false ∧ t.rd LOG_CLR_STAT = 0#32 ∧
      (2 ≤ region → t.log.pinCr = [] ∧ t.log.evAt = 1 ∧ ∃ r, t.log.pinEv = [r] ∧ r.take 2 = leBytes 2 0x0E03) ∧
      (region = 3 → t.log.circ = []))

/-- The status panel (R402, R404 to R410): an update latches its fields and counts, waits for power good, draws, and ends; an
abandoned one is tried again; the temperature chooses the band, and its third failure the lowest; Bark's flag follows two
measurements of one side. While Glade hangs at a stopped domain the panel waits (R492). -/
def Obligations.PanelCommands : Prop :=
  ∀ (s : State),
    (s.glade.hung = true → ∀ ts i2c x ohms c, c ∈ [.panelUpdateStart, .pwrgdArrival ts, .pgTimeout i2c, .panelUpdateEnd,
      .panelUpdateRetry, .panelTempRead x, .barkMeasure ohms, .ringcountSave] → NoEffect c s) ∧
    (s.bit BLZ_STAT 4 = false ∨ s.blz.last = some s.panelNow → NoEffect .panelUpdateStart s) ∧
    (s.glade.hung = false →
      (∀ u, s.blz.run = some u →
        (s.bit BLZ_STAT 4 = true → s.blz.last ≠ some s.panelNow → Answers .panelUpdateStart s fun t =>
          t.bit BLZ_STAT 3 = true ∧ Quiet [BLZ_STAT] s t) ∧
        (∀ tiles, u.drawing = false → Answers (.pwrgdArrival tiles) s fun t => NoEvent s t ∧
          Framed [] s t (blocks { s.toDev with
            blz.run := some { u with drawing := true, tiles := (tiles.filter (· < 510)).dedup }, blz.glass := some (u.fields, true) })) ∧
        (∀ i2c, u.drawing = false ∨ i2c = true → Answers (.pgTimeout i2c) s fun t => t.bit BLZ_STAT 2 = false ∧
          t.bit BLZ_STAT 3 = false ∧ OneEvent s t 0x0F05 0#32 (if i2c then 1#32 else 2#32) ∧
          Framed [BLZ_STAT, HOST_EVT_PEND 3] s t (blocks { s.toDev with blz.run := none, blz.retry := true })) ∧
        (u.drawing = true → (∀ tiles, NoEffect (.pwrgdArrival tiles) s) ∧ NoEffect (.pgTimeout false) s ∧
          (s.bit BLZ_STAT 3 = false → Answers .panelUpdateEnd s fun t => t.blz.run = none ∧
            t.blz.glass = some (u.fields, false) ∧
            t.bit BLZ_STAT 2 = false ∧ t.fld BLZ_UPD_CNT 31 0 = (s.fld BLZ_UPD_CNT 31 0 + 1) % 2 ^ 32 ∧
            (∀ k, u.tiles = [k] → (lookupKey k t.blz.tiles).getD 0 =
              min (2 ^ 24 - 1) ((lookupKey k s.blz.tiles).getD 0 + 1)) ∧
            ∃ p2, OneEvent s t 0x0F01 (BitVec.ofNat 32 (s.fld BLZ_STAT 31 16)) p2)) ∧
        (u.drawing = false → NoEffect .panelUpdateEnd s)) ∧
      (s.blz.run = none → (∀ tiles, NoEffect (.pwrgdArrival tiles) s) ∧ (∀ i2c, NoEffect (.pgTimeout i2c) s) ∧
        NoEffect .panelUpdateEnd s ∧ (s.blz.retry = true → NoEffect .panelUpdateStart s) ∧
        (s.bit BLZ_STAT 4 = true → s.blz.last ≠ some s.panelNow → s.blz.retry = false → Answers .panelUpdateStart s fun t =>
          t.blz.run = some { fields := s.screenFields, band := s.blz.bandNow } ∧ t.blz.last = some s.panelNow ∧
          t.bit BLZ_STAT 2 = true ∧ t.bit BLZ_STAT 3 = false ∧
          t.fld BLZ_STAT 31 16 = (s.fld BLZ_STAT 31 16 + 1) % 65536)) ∧
      (s.blz.retry = true → Answers .panelUpdateRetry s fun t =>
        t.blz.run = some { fields := s.screenFields, band := s.blz.bandNow } ∧ t.blz.retry = false ∧ t.bit BLZ_STAT 2 = true ∧
        t.fld BLZ_STAT 31 16 = s.fld BLZ_STAT 31 16) ∧
      (s.blz.retry = false → NoEffect .panelUpdateRetry s) ∧
      (∀ x, Answers (.panelTempRead (some x)) s fun t => t.fld BLZ_TEMP 15 0 = unsigned 16 x % 65536 ∧
        t.blz.bandNow = (panelBand x).1 ∧ t.blz.fails = 0 ∧ t.bit BLZ_STAT 5 = (panelBand x).2 ∧ t.bit BLZ_STAT 6 = false ∧
        NoEvent s t) ∧
      (Answers (.panelTempRead none) s fun t => t.blz.fails = s.blz.fails + 1 ∧
        (s.blz.fails < 2 → Framed [] s t (blocks { s.toDev with blz.fails := s.blz.fails + 1 }) ∧ NoEvent s t) ∧
        (2 ≤ s.blz.fails → s.bit BLZ_STAT 6 = false → t.bit BLZ_STAT 6 = true ∧ t.blz.bandNow = 0 ∧
          OneEvent s t 0x0F06 0#32 0#32)) ∧
      (∀ ohms, Answers (.barkMeasure ohms) s fun t => t.fld BLZ_BARK 15 0 = min 65535 ohms ∧
        (s.fld BLZ_BARK 31 16 < ohms → 1 ≤ s.blz.barkHigh → t.bit BLZ_STAT 7 = true ∧
          (s.bit BLZ_STAT 7 = false → OneEvent s t 0x0F08 0#32 (BitVec.ofNat 32 ohms))) ∧
        (ohms ≤ s.fld BLZ_BARK 31 16 → NoEvent s t ∧ (1 ≤ s.blz.barkLow → t.bit BLZ_STAT 7 = false) ∧
          (s.blz.barkLow = 0 → t.bit BLZ_STAT 7 = s.bit BLZ_STAT 7))) ∧
      (s.ringlogOk = true → Answers .ringcountSave s fun t => NoEvent s t ∧
        Framed [] s t (blocks { s.toDev with blz.saved := s.blz.tiles }))) ∧
    (s.ringlogOk = false → NoEffect .ringcountSave s)

/-! Glade (chapter 16). -/

/-- The boot code and attestation (R424, R426, R428, R465): boot runs once after a release, from the release of its own domain, and
waits 30 s for the host's images where the strap says so; without a store it runs with the defaults. A request holds the nonce until
the signed report has been sent; the signature is free (log entry 6). Die temperatures and supplies (R416, R417): a reading is shown;
the warning comes above the limit and goes 2 °C below it; a supply's flags go with a reading inside its window, and a fault that
lasts through 12 samples sets one with its event. While Glade hangs at a stopped domain it does none of this (R492). -/
def Obligations.BootMonitorsAndAttestation : Prop :=
  (∀ (s : State),
      (s.glade.hung = true → ∀ b cert ts mv m high c, c ∈ [.gladeBoot b, .hostWaitExpiry, .attestationRequest cert,
        .attestationReport, .dieTempSample ts, .supplySample mv, .supplyWindowFault m high] → NoEffect c s) ∧
      (∀ b : BootIn, s.bit GLB_HW_STAT 0 = true ∨ s.glade.waiting = true ∨ s.bit RST_DOM_STAT 1 = false →
        NoEffect (.gladeBoot b) s) ∧
      (∀ b : BootIn, s.glade.hung = false → s.bit GLB_HW_STAT 0 = false → s.glade.waiting = false →
        s.bit RST_DOM_STAT 1 = true →
        (s.fld RST_STRAP 1 0 = 2 → Answers (.gladeBoot b) s fun t => t.glade.waiting = true ∧ t.glade.held = [] ∧
          t.glade.waitAt = s.seq.cyc ∧ t.bit GLB_HW_STAT 0 = false ∧ t.fld GLB_HW_STAT 5 4 = 2) ∧
        (s.fld RST_STRAP 1 0 ≠ 2 → s.fld RST_STRAP 1 0 ≠ 1 ∨ b.imgNorOk = false → Answers (.gladeBoot b) s fun t =>
          t.glade.waiting = false ∧ t.bit GLB_HW_STAT 0 = true ∧ t.fld GLB_HW_STAT 5 4 = s.fld RST_STRAP 1 0 ∧
          t.bit GLB_HW_STAT 6 = false ∧ ∃ e, e ∈ t.log.raised ∧ e.code = 0x1009 ∧ e.p1 = 0#32)) ∧
      (s.glade.hung = false → s.glade.waiting = true → s.spanOver s.glade.waitAt 30000 = true →
        Answers .hostWaitExpiry s fun t => t.glade.waiting = false ∧ t.glade.held = [] ∧ t.bit GLB_HW_STAT 0 = true) ∧
      (s.glade.waiting = false ∨ s.spanOver s.glade.waitAt 30000 = false → NoEffect .hostWaitExpiry s) ∧
      (∀ cert, s.glade.hung = false → s.glade.att = none → Answers (.attestationRequest cert) s fun t => NoEvent s t ∧
        Framed [] s t (blocks { s.toDev with
          glade.att := some (cert, wordBytes ((List.range 4).map fun k => s.rd (GLB_ATT_NONCE k))) })) ∧
      (∀ cert, s.glade.att ≠ none → NoEffect (.attestationRequest cert) s) ∧
      (∀ cert nonce, s.glade.hung = false → s.glade.att = some (cert, nonce) → Answers .attestationReport s fun t =>
        t.glade.att = none ∧
        (∃ e, e ∈ t.log.raised ∧ e.code = 0x100D ∧ e.p2 = BitVec.ofNat 32 (u32 nonce 0)) ∧
        (∀ p, cert = false → s.routed 7 = some p → ∃ sig, sig.length = 96 ∧ Reported s t p (s.attBytes nonce ++ sig))) ∧
      (s.glade.att = none → NoEffect .attestationReport s)) ∧
  (∀ (s : State), s.glade.hung = false →
      (∀ ts : List Int, Answers (.dieTempSample ts) s fun t => ∀ n : Fin 8,
        let x := ts.getD n 0
        let warn := signed 16 (s.fld GLB_TJ_WARN 15 0)
        t.fld (GLB_TEMP n) 15 0 = unsigned 16 x % 65536 ∧
        t.bit (GLB_TEMP n) 16 = (if warn < x then true else if x < warn - 16 then false else s.bit (GLB_TEMP n) 16)) ∧
      (∀ mv : List Nat, Answers (.supplySample mv) s fun t =>
        Framed ((List.range 12).map GLB_SUP) s t (blocks { s.toDev with glade.supRun := t.glade.supRun }) ∧ NoEvent s t ∧
        ∀ m : Fin 12, t.fld (GLB_SUP m) 15 0 = min 65535 (mv.getD m 0) ∧
          t.fld (GLB_SUP m) 17 16 = (if supplyInside m (mv.getD m 0) then 0 else s.fld (GLB_SUP m) 17 16) ∧
          (m.val < s.glade.supRun.length → t.glade.supRun.getD m 0 =
            if supplyInside m (mv.getD m 0) then 0 else min 12 (s.glade.supRun.getD m 0 + 1))) ∧
      (∀ (m : Fin 12) high, s.bit (GLB_SUP m) (if high then 17 else 16) = false → 12 ≤ s.glade.supRun.getD m 0 →
        high = decide (supplyNominal m < s.fld (GLB_SUP m) 15 0) → Answers (.supplyWindowFault m high) s fun t =>
        t.bit (GLB_SUP m) (if high then 17 else 16) = true ∧
        OneEvent s t 0x100B (BitVec.ofNat 32 m) (BitVec.ofNat 32 (s.fld (GLB_SUP m) 15 0)) ∧
        OnlyRegs [GLB_SUP m, HOST_EVT_PEND 3] s t) ∧
      (∀ (m : Fin 12) high, s.bit (GLB_SUP m) (if high then 17 else 16) = true ∨ s.glade.supRun.getD m 0 < 12 ∨
        high ≠ decide (supplyNominal m < s.fld (GLB_SUP m) 15 0) → NoEffect (.supplyWindowFault m high) s))

/-- The device after a session check that a level asks for: the idle time restarts where it passed (R427). -/
def afterSession (s : State) (l : Nat) : Dev := if s.sessLevel l then s.toDev.sessUse else s.toDev

/-- Owner keys and fuses (R419, R422 to R424): an enrolment that nothing refuses burns the key's hashes, a revocation needs another
live owner; an image that is saved takes its slot of the store, and its rollback number is burned; a slot whose write fails holds
no image. While Glade hangs at a stopped domain none of this happens (R492). -/
def Obligations.OwnersAndImages : Prop :=
  ∀ (s : State),
    (s.glade.hung = true → ∀ k ok n c, c ∈ [.ownerEnrol k ok, .ownerRevoke k ok, .rollbackBurn, .imageSave ok n] →
      NoEffect c s) ∧
    (∀ k : Fin 4, s.glade.hung = false → s.enrolRefused k = 0 →
      (Answers (.ownerEnrol k true) s fun t => t.glade.enrolled = s.glade.enrolled + 2 ^ k.val ∧
        t.glade.owner = setAt s.glade.owner k ((wordBytes s.glade.enrol).take 48, (wordBytes s.glade.enrol).drop 48) ∧
        t.fld GLB_ENROL_STAT 3 0 = 0 ∧ OneEvent s t 0x100C (BitVec.ofNat 32 k) 1#32 ∧
        RegsBut [GLB_OWNER, GLB_RB, GLB_ENROL_STAT] s t) ∧
      (Answers (.ownerEnrol k false) s fun t => t.fld GLB_ENROL_STAT 3 0 = 5 ∧
        Framed [GLB_ENROL_STAT] s t (blocks (afterSession s 4)) ∧ NoEvent s t)) ∧
    (∀ (k : Fin 4) ok, s.glade.hung = false → s.enrolRefused k ≠ 0 → Answers (.ownerEnrol k ok) s fun t =>
      t.fld GLB_ENROL_STAT 3 0 = s.enrolRefused k ∧ Framed [GLB_ENROL_STAT] s t (blocks (afterSession s 4)) ∧ NoEvent s t) ∧
    (∀ (k : Fin 4) ok, bitOf s.glade.enrolled k = false → NoEffect (.ownerRevoke k ok) s) ∧
    (∀ k : Fin 4, s.glade.hung = false → bitOf s.glade.enrolled k = true → s.sessLevel 4 = false →
      ∀ ok, Answers (.ownerRevoke k ok) s fun t =>
      t.fld GLB_ENROL_STAT 3 0 = 2 ∧ OnlyRegs [GLB_ENROL_STAT] s t ∧ NoEvent s t) ∧
    (∀ k : Fin 4, s.glade.hung = false → bitOf s.glade.enrolled k = true → s.sessLevel 4 = true →
      (∀ ok, (∀ j, j < 4 → j ≠ k.val → s.ownerLive j = false) → Answers (.ownerRevoke k ok) s fun t =>
        t.fld GLB_ENROL_STAT 3 0 = 4 ∧ Framed [GLB_ENROL_STAT] s t (blocks s.toDev.sessUse) ∧ NoEvent s t) ∧
      (∀ j, j < 4 → j ≠ k.val → s.ownerLive j = true →
        (Answers (.ownerRevoke k true) s fun t =>
          t.ownerLive k = false ∧ t.glade.revoked = s.glade.revoked.lor (2 ^ k.val) ∧ t.fld GLB_ENROL_STAT 3 0 = 0 ∧
          OneEvent s t 0x100C (BitVec.ofNat 32 k) 2#32) ∧
        (Answers (.ownerRevoke k false) s fun t => t.fld GLB_ENROL_STAT 3 0 = 5 ∧
          Framed [GLB_ENROL_STAT] s t (blocks s.toDev.sessUse) ∧ NoEvent s t))) ∧
    (∀ j js, s.glade.hung = false → s.glade.burns = j :: js → Answers .rollbackBurn s fun t => t.glade.burns = js ∧
      t.glade.rb = setAt s.glade.rb (j.typ - 1) (max (s.glade.rb.getD (j.typ - 1) 0) (imgRollback j.bytes))) ∧
    (s.glade.burns = [] → NoEffect .rollbackBurn s) ∧
    (∀ j block, s.glade.hung = false → s.glade.job = some j → j.wait = 2 →
      let slot := 2 * (j.typ - 1) + (1 - s.glade.newest.getD (j.typ - 1) 1)
      (Answers (.imageSave true block) s fun t => t.glade.job = none ∧
        t.glade.store = setAt s.glade.store slot (some j.bytes)) ∧
      (Answers (.imageSave false block) s fun t => t.glade.job = none ∧ t.glade.store = setAt s.glade.store slot none ∧
        t.glade.newest = s.glade.newest ∧ ∃ e, e ∈ t.log.raised ∧ e.code = 0x100E)) ∧
    (∀ ok block, s.glade.job.elim true (fun j => j.wait != 2) = true → NoEffect (.imageSave ok block) s)

/-- An opening of a session fails (R427): the slot's count rises, and the fifth failure locks it for 60 s. -/
def OpeningFails (s t : State) : Prop :=
  let k := s.sessSlot
  let n := s.fld (GLB_SLOT k) 7 5 + 1
  t.sessState = 0 ∧
    (n < 5 → t.fld (GLB_SLOT k) 7 5 = n ∧ OneEvent s t 0x1002 (BitVec.ofNat 32 k) (BitVec.ofNat 32 n)) ∧
    (5 ≤ n → t.fld (GLB_SLOT k) 7 5 = 0 ∧ t.bit (GLB_SLOT k) 8 = true ∧ t.fld (GLB_SLOT k) 31 16 = 60)

/-- The response that opens the session (R427). -/
def rightResponse (s : State) : Prop :=
  wordBytes s.glade.resp = hmac256 (s.glade.keys.getD s.sessSlot []) s.sessMessage

/-- The idle time has passed SESS_IDLE (R427). -/
def idleOver (s : State) : Bool := s.spanOver s.glade.idleAt (1000 * max 1 (s.fld GLB_SESS_CFG 15 0))

/-- Sessions (R427): OPEN challenges a slot in session use at a level it grants and not locked, VERIFY opens it by the right
response within 10 s, and CLOSE, the idle time, a new OPEN, a wrong response and the challenge's end close it. While Glade hangs at a
stopped domain it answers none of these (R492). -/
def Obligations.Sessions : Prop :=
  ∀ (s : State),
    (s.glade.hung = true → ∀ slot level v c, c ∈ [.sessionOpen slot level, .sessionVerify, .sessionClose, .sessionCmdConflict v,
      .challengeExpiry, .sessionIdleExpiry, .slotLockExpiry slot] → NoEffect c s) ∧
    (s.glade.hung = false →
      (∀ (slot : Fin 8) (level : BitVec 3), s.sessState = 0 →
        (s.fld (GLB_SLOT slot) 1 0 = 1 → 1 ≤ level.toNat → level.toNat ≤ s.fld (GLB_SLOT slot) 4 2 →
          s.bit (GLB_SLOT slot) 8 = false →
          Answers (.sessionOpen slot level) s fun t => t.sessState = 1 ∧ t.sessSlot = slot.val ∧ t.fld GLB_SESS_STAT 11 8 = 0 ∧
            NoEvent s t ∧ Framed (GLB_SESS_STAT :: (List.range 8).map GLB_SESS_CHAL) s t
              (blocks { s.toDev with glade.sessLvl := level.toNat, glade.chalAt := s.seq.cyc })) ∧
        (∀ r, r = (if s.fld (GLB_SLOT slot) 1 0 ≠ 1 then 1
            else if level.toNat < 1 ∨ s.fld (GLB_SLOT slot) 4 2 < level.toNat then 2
            else if s.bit (GLB_SLOT slot) 8 then 3 else 0) → r ≠ 0 →
          Answers (.sessionOpen slot level) s fun t => t.fld GLB_SESS_STAT 11 8 = r ∧ t.sessState = 0 ∧
            OnlyRegs [GLB_SESS_STAT] s t ∧ NoEvent s t)) ∧
      (∀ slot level, s.sessState ≠ 0 → Answers (.sessionOpen slot level) s fun t =>
        OneEvent s t 0x1005 (BitVec.ofNat 32 s.sessSlot) 3#32) ∧
      (s.sessState = 1 → rightResponse s → s.spanPast s.glade.chalAt 10000 = false → Answers .sessionVerify s fun t =>
        t.sessState = 2 ∧ t.fld GLB_SESS_STAT 2 0 = s.glade.sessLvl % 8 ∧ t.fld (GLB_SLOT s.sessSlot) 7 5 = 0 ∧
        t.glade.idleAt = s.seq.cyc ∧ OneEvent s t 0x1001 (BitVec.ofNat 32 s.sessSlot) (BitVec.ofNat 32 s.glade.sessLvl)) ∧
      (s.sessState = 1 → ¬ rightResponse s ∨ s.spanPast s.glade.chalAt 10000 = true →
        Answers .sessionVerify s fun t => OpeningFails s t) ∧
      (s.sessState = 1 → s.spanOver s.glade.chalAt 10000 = true → Answers .challengeExpiry s fun t => OpeningFails s t) ∧
      (∀ c why, (c = .sessionClose ∧ why = 1#32) ∨ (c = .sessionIdleExpiry ∧ why = 2#32 ∧ idleOver s = true) → s.sessState = 2 →
        Answers c s fun t => t.sessState = 0 ∧ t.fld GLB_SESS_STAT 2 0 = 0 ∧
          OneEvent s t 0x1005 (BitVec.ofNat 32 s.sessSlot) why ∧ OnlyRegs [GLB_SESS_STAT] s t) ∧
      (∀ v : Word, bitsOf v.toNat 2 0 ∈ [3, 5, 6, 7] → Answers (.sessionCmdConflict v) s fun t =>
        t.fld GLB_SESS_STAT 11 8 = 4 ∧ t.sessState = s.sessState ∧ Quiet [GLB_SESS_STAT] s t) ∧
      (∀ k : Fin 8, s.bit (GLB_SLOT k) 8 = true → s.fld (GLB_SLOT k) 31 16 ≤ 1 → Answers (.slotLockExpiry k) s fun t =>
        t.bit (GLB_SLOT k) 8 = false ∧ t.fld (GLB_SLOT k) 31 16 = 0 ∧ OnlyRegs [GLB_SLOT k] s t ∧ NoEvent s t)) ∧
    (∀ v : Word, (bitsOf v.toNat 2 0 = 0 → NoEffect (.sessionCmdConflict v) s) ∧
      (∀ (slot : Fin 8) (level : BitVec 3), bitsOf v.toNat 2 0 = 1 → slot.val = bitsOf v.toNat 5 3 →
        level.toNat = bitsOf v.toNat 8 6 → exec (.sessionCmdConflict v) s = exec (.sessionOpen slot level) s) ∧
      (bitsOf v.toNat 2 0 = 2 → exec (.sessionCmdConflict v) s = exec .sessionVerify s) ∧
      (bitsOf v.toNat 2 0 = 4 → exec (.sessionCmdConflict v) s = exec .sessionClose s)) ∧
    (s.sessState ≠ 1 → NoEffect .sessionVerify s) ∧
    (s.sessState ≠ 1 ∨ s.spanOver s.glade.chalAt 10000 = false → NoEffect .challengeExpiry s) ∧
    (s.sessState ≠ 2 → NoEffect .sessionClose s) ∧
    (s.sessState ≠ 2 ∨ idleOver s = false → NoEffect .sessionIdleExpiry s) ∧
    (∀ k : Fin 8, s.bit (GLB_SLOT k) 8 = false ∨ 1 < s.fld (GLB_SLOT k) 31 16 → NoEffect (.slotLockExpiry k) s)

/-! The host interface (chapter 17). -/

/-- Ring pairs (R433 to R438): a doorbell inside its limits moves the index, one outside stops the ring; enabling zeroes the index
and runs the ring; disabling waits for the tick boundary; a fetch makes descriptors ready, and CLR_ERR resumes both rings. -/
def Obligations.HostRings : Prop :=
  ∀ (p : Fin 16) (v : Word) (s : State), Shaped s.toDev →
    (s.ringEn p false = true →
      (bitsOf v.toNat 15 0 + 65536 - s.ringHead (HOST_CMD_PTR p)) % 65536 ≤ ringSize (s.rd (HOST_CMD_CFG p)) →
      Answers (.cmdDoorbell p v) s fun t => t.ringTail (HOST_CMD_PTR p) = bitsOf v.toNat 15 0 ∧
        t.ringHead (HOST_CMD_PTR p) = s.ringHead (HOST_CMD_PTR p) ∧ OnlyRegs [DOORBELL p 0, HOST_CMD_PTR p] s t ∧
          NoEvent s t) ∧
    (s.ringEn p false = true → s.cmdRun p = true →
      ringSize (s.rd (HOST_CMD_CFG p)) < (bitsOf v.toNat 15 0 + 65536 - s.ringHead (HOST_CMD_PTR p)) % 65536 →
      Answers (.cmdDoorbell p v) s fun t => t.cmdRun p = false ∧ t.bit (HOST_PAIR_STAT p) 2 = true ∧
        t.fld (HOST_PAIR_STAT p) 4 3 = 1 ∧ t.rd (HOST_CMD_PTR p) = s.rd (HOST_CMD_PTR p) ∧
        OneEvent s t 0x1102 (BitVec.ofNat 32 p) 1#32) ∧
    (s.ringEn p true = true →
      (bitsOf v.toNat 15 0 + 65536 - s.ringHead (HOST_REP_PTR p)) % 65536 ≤ s.ringCount (HOST_REP_PTR p) →
      Answers (.repDoorbell p v) s fun t => t.ringHead (HOST_REP_PTR p) = bitsOf v.toNat 15 0 ∧
        t.ringTail (HOST_REP_PTR p) = s.ringTail (HOST_REP_PTR p) ∧ OnlyRegs [DOORBELL p 1, HOST_REP_PTR p] s t ∧
          NoEvent s t) ∧
    (s.ringEn p true = true → s.repRun p = true →
      s.ringCount (HOST_REP_PTR p) < (bitsOf v.toNat 15 0 + 65536 - s.ringHead (HOST_REP_PTR p)) % 65536 →
      Answers (.repDoorbell p v) s fun t => t.repRun p = false ∧ t.fld (HOST_PAIR_STAT p) 4 3 = 2 ∧
        t.rd (HOST_REP_PTR p) = s.rd (HOST_REP_PTR p) ∧ OneEvent s t 0x1102 (BitVec.ofNat 32 p) 2#32) ∧
    (∀ r, s.ringEn p r = false →
      Answers (if r then .repDoorbell p v else .cmdDoorbell p v) s fun t => OnlyRegs [DOORBELL p (bnat r)] s t ∧ NoEvent s t) ∧
    (∀ n, (s.pair p).fetching = some n → s.cmdRun p = true →
      (Answers (.descriptorFetchDone p true) s fun t => (t.pair p).fetching = none ∧
        t.ringHead (HOST_CMD_PTR p) = (s.ringHead (HOST_CMD_PTR p) + n) % 65536 ∧
        t.host.ready.length = s.host.ready.length + n ∧
        (∀ k, k < n → (p.val, (s.ringHead (HOST_CMD_PTR p) + k) % 65536) ∈ t.host.ready) ∧ NoEvent s t) ∧
      (Answers (.descriptorFetchDone p false) s fun t => (t.pair p).fetching = none ∧ t.cmdRun p = false ∧
        t.host.ready = s.host.ready ∧ OneEvent s t 0x1102 (BitVec.ofNat 32 p) 3#32)) ∧
    (∀ ok, (s.pair p).fetching = none → NoEffect (.descriptorFetchDone p ok) s) ∧
    (∀ r, Answers (.ringEnable p r v) s fun t => t.ringEn p r = true ∧
      t.rd (if r then HOST_REP_PTR p else HOST_CMD_PTR p) = 0#32 ∧ (if r then t.repRun p else t.cmdRun p) = true ∧
        NoEvent s t ∧
      (s.ringEn p r = false → t.fld (if r then HOST_REP_CFG p else HOST_CMD_CFG p) 3 0 = v.toNat % 16)) ∧
    (∀ r, s.ringEn p r = true → Answers (.ringDisable p r v) s fun t => t.ringEn p r = false ∧
      t.rd (HOST_PAIR_STAT p) = s.rd (HOST_PAIR_STAT p) ∧ (if r then (t.pair p).repOff else (t.pair p).cmdOff) = true ∧
        NoEvent s t) ∧
    (∀ r, s.ringEn p r = false → Answers (.ringDisable p r v) s fun t =>
      t.fld (if r then HOST_REP_CFG p else HOST_CMD_CFG p) 3 0 = v.toNat % 16 ∧
      OnlyRegs [if r then HOST_REP_CFG p else HOST_CMD_CFG p] s t ∧ NoEvent s t) ∧
    (s.bit (HOST_PAIR_STAT p) 2 = true → Answers (.ringClrErr p) s fun t => t.bit (HOST_PAIR_STAT p) 2 = false ∧
      t.fld (HOST_PAIR_STAT p) 4 3 = 0 ∧ t.cmdRun p = s.ringEn p false ∧ t.repRun p = s.ringEn p true ∧
      OnlyRegs [HOST_PAIR_STAT p] s t ∧ NoEvent s t) ∧
    (s.bit (HOST_PAIR_STAT p) 2 = false → NoEffect (.ringClrErr p) s)

/-- The command ledger of a pair counts the end of a descriptor in OUT (k = 5) or DROP (k = 7), and HELD is as before its latch
(R453); of 2^32 descriptors held at once, which no run reaches, it says nothing. -/
def Counted (s t : State) (p k : Nat) : Prop :=
  s.fld (HOST_LIVE p 6) 31 0 < 2 ^ 32 - 1 → t.fld (HOST_LIVE p k) 31 0 = (s.fld (HOST_LIVE p k) 31 0 + 1) % 2 ^ 32 ∧
    t.fld (HOST_LIVE p 6) 31 0 = s.fld (HOST_LIVE p 6) 31 0

/-- A descriptor has been latched and has ended with a status (R436, R443, R444, R453, R454): it leaves the ready list, the ledger
counts it in, and out or dropped, a status above 0 is an event; its completion is published where the report ring has room. -/
def Completed (s t : State) (p typ idx status tag detail : Nat) : Prop :=
  t.host.ready = s.host.ready.tail ∧
  t.fld (HOST_LIVE p 4) 31 0 = (s.fld (HOST_LIVE p 4) 31 0 + 1) % 2 ^ 32 ∧
  Counted s t p (if status = 0 then 5 else 7) ∧
  (status ≠ 0 → ∃ e, e ∈ t.log.raised ∧ e.code = 0x1103 ∧ e.p1 = BitVec.ofNat 32 p ∧ e.p2 = BitVec.ofNat 32 status) ∧
  (s.repFits p 1 = true → ∃ h, h.length = 32 ∧
    t.host.out.head? = some (p, h ++ s.completion p typ idx status tag detail))

/-- A descriptor's command. -/
def isDescriptor (p : Fin 16) (idx : BitVec 16) (b : List Byte) (c : Instr) : Prop :=
  c = .nopDescriptor p idx b ∨ c = .setpointDescriptor p idx b ∨ (∃ es, c = .groveCommandDescriptor p idx b es) ∨
  (∃ far, c = .canTransmitDescriptor p idx b far) ∨ (∃ i, c = .imageDescriptor p idx b i) ∨
  (∃ bad n, c = .thicketReadout p idx b bad n) ∨ c = .recorderReadout p idx b ∨ c = .unknownDescriptor p idx b

/-- Descriptors (R436, R439 to R444): only the first that is ready is carried out. A setpoint reaches its generator or context, a
CAN frame its buffer, an image Glade, and a readout the host's memory; a fault of its fields ends it with its status. -/
def Obligations.HostDescriptors : Prop :=
  ∀ (p : Fin 16) (idx : BitVec 16) (b : List Byte) (s : State), Shaped s.toDev →
    (s.host.ready.head? ≠ some (p.val, idx.toNat) → ∀ c, isDescriptor p idx b c → NoEffect c s) ∧
    (s.host.ready.head? = some (p.val, idx.toNat) →
      (Answers (.nopDescriptor p idx b) s fun t => Completed s t p 0x1F idx.toNat 0 0 0) ∧
      (Answers (.unknownDescriptor p idx b) s fun t => Completed s t p (descType b) idx.toNat 1 0 0) ∧
      (u8 b 1 = 0 ∨ 3 < u8 b 1 → Answers (.setpointDescriptor p idx b) s fun t => Completed s t p 0x30 idx.toNat 2 0 0) ∧
      (u8 b 1 = 1 → setpointOk (setpointEntry b 0).1 = true → Answers (.setpointDescriptor p idx b) s fun t =>
        t.host.ready = s.host.ready.tail ∧ NoEvent s t ∧
        (if (setpointEntry b 0).1 ≤ 130 then (t.gen (setpointEntry b 0).1).descNew = some ((setpointEntry b 0).2 &&& BitVec.ofNat 32 pbvMask)
          else t.rd (LOOP_CTX_SPCONST ((setpointEntry b 0).1 - 0x100)) = (setpointEntry b 0).2 &&& BitVec.ofNat 32 pbvMask)) ∧
      (∀ es, u8 b 1 % 16 = 0 ∨ 3 < u8 b 1 % 16 ∨ (u8 b 1 % 16 ≠ 3 ∧ 4 < u8 b 2 % 8) →
        Answers (.groveCommandDescriptor p idx b es) s fun t =>
        t.host.ready = s.host.ready.tail ∧ OneEvent s t 0x0606 (BitVec.ofNat 32 (u8 b 2 % 8)) 7#32 ∧ Counted s t p 7 ∧
        t.fld GROVE_REFUSED 31 0 = min (2 ^ 32 - 1) (s.fld GROVE_REFUSED 31 0 + 1)) ∧
      (∀ es, u8 b 1 % 16 = 3 → 4 < u8 b 2 % 8 → Answers (.groveCommandDescriptor p idx b es) s fun t =>
        t.host.ready = s.host.ready.tail ∧ (∃ e, e ∈ t.log.raised ∧ e.code = 0x0601 ∧ e.p1 = 0xFF#32 ∧ e.p2 = 7#32) ∧
        (∃ e, e ∈ t.log.raised ∧ e.code = 0x0606 ∧ e.p2 = 7#32) ∧
        t.fld GROVE_ERR_TOTAL 31 0 = min (2 ^ 32 - 1) (s.fld GROVE_ERR_TOTAL 31 0 + 1)) ∧
      (∀ es, u8 b 1 % 16 = 2 → u8 b 2 % 8 ≤ 4 → u16 b 6 ≤ 1023 → u32 b 20 = 0 →
        s.bit GROVE_HOST_MAP (6 * (u8 b 2 % 8) + 5) = true →
        s.laneState (s.fld GROVE_HOST_MAP (6 * (u8 b 2 % 8) + 4) (6 * (u8 b 2 % 8))) ≠ 2 →
        Answers (.groveCommandDescriptor p idx b es) s fun t => t.host.ready = s.host.ready.tail ∧ NoEvent s t ∧
          Counted s t p 5) ∧
      (∀ far, bitOf (u8 b 1) 3 = false → (s.canc (u8 b 1 % 8)).tb2 = none →
        Answers (.canTransmitDescriptor p idx b far) s fun t =>
        t.host.ready = s.host.ready.tail ∧ NoEvent s t ∧ (t.canc (u8 b 1 % 8)).tb2 =
          some { frame := s.descFrame (u8 b 1 % 8) b far, host := some (p.val, idx.toNat, 0x90, descTag b) }) ∧
      (∀ far, bitOf (u8 b 1) 3 = false → (s.canc (u8 b 1 % 8)).tb2 ≠ none →
        Answers (.canTransmitDescriptor p idx b far) s fun t =>
        Completed s t p 0x90 idx.toNat 3 (descTag b) 0) ∧
      (∀ far, bitOf (u8 b 1) 3 = true → (s.canc (u8 b 1 % 8)).tb2 = none →
        Answers (.canTransmitDescriptor p idx b far) s fun t =>
        Completed s t p 0x90 idx.toNat 0 (descTag b) 0) ∧
      (∀ i, s.glade.hung = true → Answers (.imageDescriptor p idx b i) s fun t => t.host.ready = s.host.ready.tail ∧
        t.glade = s.glade ∧ NoEvent s t) ∧
      (∀ i, s.glade.hung = false → s.glade.waiting = false → s.imageRefused (i.take (u32 b 4)) = 0 →
        imgTyp (i.take (u32 b 4)) = 2 →
        Answers (.imageDescriptor p idx b i) s fun t => t.host.ready = s.host.ready.tail ∧ NoEvent s t ∧ t.glade.job =
          some { typ := 2, bytes := i.take (u32 b 4), desc := some (p.val, idx.toNat, descTag b), wait := 1 }) ∧
      (∀ i r, s.glade.hung = false → s.glade.waiting = false → s.imageRefused (i.take (u32 b 4)) = r → r ≠ 0 →
        Answers (.imageDescriptor p idx b i) s fun t =>
        t.glade.job = s.glade.job ∧ t.host.ready = s.host.ready.tail ∧
        Counted s t p 5 ∧ ∃ e, e ∈ t.log.raised ∧ e.code = 0x1007 ∧ e.p2 = BitVec.ofNat 32 r) ∧
      (∀ i, s.glade.hung = false → s.glade.waiting = true → s.imageFault (i.take (u32 b 4)) = 0 → s.glade.held.length < 2 →
        (∀ h ∈ s.glade.held, h.typ ≠ imgTyp (i.take (u32 b 4))) → Answers (.imageDescriptor p idx b i) s fun t =>
        t.host.ready = s.host.ready.tail ∧ NoEvent s t ∧ t.glade.held = s.glade.held ++
          [{ typ := imgTyp (i.take (u32 b 4)), bytes := i.take (u32 b 4), desc := some (p.val, idx.toNat, descTag b), wait := 1,
             boot := true }]) ∧
      (∀ bad n, u32 b 20 = 0 ∨ 262144 < u32 b 4 + u32 b 20 ∨ descAddr b % 32 ≠ 0 →
        Answers (.thicketReadout p idx b bad n) s fun t =>
        Completed s t p 0xD8 idx.toNat 2 (descTag b) 0) ∧
      (u32 b 20 ≠ 0 → u32 b 4 + u32 b 20 ≤ 262144 → descAddr b % 32 = 0 → Answers (.thicketReadout p idx b [] 0) s fun t =>
        Completed s t p 0xD8 idx.toNat 0 (descTag b) (u32 b 20) ∧ t.host.copied = (descAddr b,
          (List.range (u32 b 20)).flatMap fun k => s.pointBytes (u32 b 4 + k)) :: s.host.copied) ∧
      (s.sessOk 4 = false → Answers (.recorderReadout p idx b) s fun t => Completed s t p 0xE8 idx.toNat 4 (descTag b) 0) ∧
      (s.sessOk 4 = true → u32 b 20 ≠ 0 → descAddr b % 32 = 0 → Answers (.recorderReadout p idx b) s fun t =>
        let rs := ((s.recorderSource (u8 b 1 % 4)).drop (u32 b 4)).take (u32 b 20)
        Completed s t p 0xE8 idx.toNat 0 (descTag b) rs.length ∧ t.host.copied = (descAddr b, rs.flatten) :: s.host.copied))

/-- Messages and the link (R424, R432, R452, R455): an armed vector with a pending enabled source sends its message once MOD_US has
passed since the one before, or waits in the PBA while it is masked; an acknowledgement arms, and unmasking sends what waits; link up
shows width and speed, and boot's wait for the host starts anew. -/
def Obligations.HostMessages : Prop :=
  ∀ (s : State),
    (∀ v : Fin 32, s.vectorWanted v = true → s.bit HOST_VEC_ARMED v = true → s.modOver v = true →
      (s.bit (MSIX_TAB v 3) 0 = false → Answers (.msixMessage v) s fun t => t.host.msgs = v.val :: s.host.msgs ∧
        t.bit HOST_VEC_ARMED v = false ∧ RegsBut [HOST_VEC_ARMED] s t ∧ NoEvent s t) ∧
      (s.bit (MSIX_TAB v 3) 0 = true → Answers (.msixMessage v) s fun t => t.bit MSIX_PBA v = true ∧ OnlyRegs [MSIX_PBA] s t ∧
        NoEvent s t)) ∧
    (∀ v : Fin 32, s.vectorWanted v = false ∨ s.bit HOST_VEC_ARMED v = false ∨ s.modOver v = false →
      NoEffect (.msixMessage v) s) ∧
    (∀ v, Answers (.vectorAck v) s fun t => t.rd HOST_VEC_ARMED = s.rd HOST_VEC_ARMED ||| v ∧ OnlyRegs [HOST_VEC_ARMED] s t ∧
      NoEvent s t) ∧
    (∀ v : Fin 32, Answers (.vectorUnmask v) s fun t => t.bit (MSIX_TAB v 3) 0 = false ∧ t.bit MSIX_PBA v = false ∧
      NoEvent s t ∧
      t.host.msgs = (if s.bit MSIX_PBA v then v.val :: s.host.msgs else s.host.msgs)) ∧
    (∀ w g, Answers (.pcieLinkUp w g) s fun t => t.fld HOST_STAT 4 2 = w % 8 ∧ t.fld HOST_STAT 1 0 = g % 4 ∧
      OneEvent s t 0x1104 5#32 (BitVec.ofNat 32 (w * 16 + g)) ∧ Framed [HOST_STAT] s t (blocks
        (if s.glade.waiting then { s.toDev with glade.waitAt := s.seq.cyc } else s.toDev)))

/-- Link-down, hot reset, Function Level Reset, entry to D3hot, and PERST_N as link-down, act on HOST alone (R432, R459): every ring
is disabled, every route, source mapping, pending bit and ring ledger is zero, every vector is armed, event 0x1104 is recorded, and
every other block, its registers and its state, is as before. -/
def Obligations.HostBlockReset : Prop :=
  ∀ (s : State) (c : Instr) (why : Word),
    (c, why) ∈ [(Instr.pcieLinkDown, 1#32), (.hotReset, 2#32), (.functionLevelReset, 3#32), (.d3hotEntry, 4#32),
      (.perstAssert, 1#32)] →
    Answers c s fun t =>
      (∀ p : Fin 16, t.ringEn p false = false ∧ t.ringEn p true = false ∧ t.cmdRun p = false ∧ t.repRun p = false ∧
        ∀ k : Fin 8, t.rd (HOST_LIVE p k) = 0#32) ∧
      t.rd (HOST_ROUTE 0) = 0#32 ∧ t.rd (HOST_ROUTE 1) = 0#32 ∧ (∀ k : Fin 64, t.rd (HOST_EVT_MAP k) = 0#32) ∧
      (∀ k : Fin 8, t.rd (HOST_EVT_PEND k) = 0#32) ∧ t.rd HOST_VEC_ARMED = 0xFFFFFFFF#32 ∧ t.host.ready = [] ∧
      OneEvent s t 0x1104 why (if why = 1#32 then 0#32
        else BitVec.ofNat 32 (s.fld HOST_STAT 4 2 * 16 + s.fld HOST_STAT 1 0)) ∧
      (∀ a, a < 0x3C0000 → a ≠ SAFE_OUT_STAT → a ≠ SAFE_STAT → t.rd a = s.rd a) ∧
      blocks t.toDev = { blocks s.toDev with host := t.host } ∧ SeqKept s t ∧ LogKept s t ∧ SafetyKept s t

/-! Resets and clocks (chapter 18). -/

/-- Bits of RST_CAUSE, SOURCE, kind and supplies of a source of a reset (R457, R460, R474). -/
def resetSource (c : Instr) (bits src kind bo : Nat) : Prop :=
  (c = .tickWatchdogExpiry ∧ bits = 16 ∧ src = 4 ∧ kind = 2 ∧ bo = 0) ∨
  (c = .gladeWatchdogExpiry ∧ bits = 8 ∧ src = 3 ∧ kind = 2 ∧ bo = 0) ∨
  (c = .rstNAssert ∧ bits = 4 ∧ src = 2 ∧ kind = 1 ∧ bo = 0) ∨
  (∃ m, c = .brownOut m ∧ m ≠ 0 ∧ bits = 2 ∧ src = 1 ∧ kind = 1 ∧ bo = m.toNat)

/-- Sources of resets (R34, R415, R457, R458, R460): a source is shown in RST_CAUSE and starts its reset; one of no higher kind is
absorbed by the reset in progress; one of a higher kind starts its own instead. -/
def Obligations.ResetSources : Prop :=
  ∀ (s : State) (c : Instr) (bits src kind bo : Nat), resetSource c bits src kind bo →
    (Answers c s fun t => t.rd RST_CAUSE = s.rd RST_CAUSE ||| BitVec.ofNat 32 bits ∧ RegsBut [RST_CAUSE, RST_LAST] s t ∧
      NoEvent s t) ∧
    (s.rst.run = none → Answers c s fun t => t.rst.run = some { bits := bits, src := src, kind := kind, bo := bo } ∧
      t.rd RST_LAST = BitVec.ofNat 32 (src + 16 * kind + 256 * bo)) ∧
    (∀ r, s.rst.run = some r → r.kind ≤ kind → Answers c s fun t =>
      t.rst.run = some { r with bits := r.bits ||| bits, bo := r.bo ||| bo }) ∧
    (∀ r, s.rst.run = some r → kind < r.kind → Answers c s fun t =>
      t.rst.run = some { r with bits := r.bits ||| bits, bo := r.bo ||| bo, src := src, kind := kind, taken := false }) ∧
    (∀ m, c = .brownOut m → Answers c s fun t => t.rst.low = s.rst.low ||| m.toNat) ∧
    NoEffect (.brownOut 0) s ∧
    (∀ m : BitVec 6, Answers (.brownOutRelease m) s fun t => NoEvent s t ∧
      Framed [] s t (blocks { s.toDev with rst.low := s.rst.low.land (m.toNat.xor 63) }))

/-- Registers that keep something over a cold or a warm reset (R461, R463). -/
def retainedRegs : List Nat :=
  [RST_CAUSE, RST_LAST, RST_COUNT, RST_CRIT, RST_CLK_STAT, RST_DOM_STAT, SAFE_CNT, SAFE_DF_STAMP, SAFE_DF_ERA, SAFE_STAT,
    SAFE_OUT_STAT, LOG_PWR_CYC, LOG_OP_S, PIN_FUSE0, THKT_QUEUE, THKT_CREC 0, THKT_CREC 2, LOG_LEDGER 0, LOG_LEDGER 2,
    LOG_DUFF_PTR] ++ (List.range 8).map GLB_SLOT

/-- The course of a reset (R461 to R464): the announcement opens every output, the reset takes every register to its reset value
but for what its kind retains, and the release reads the straps and starts the domains. A power-on resets everything but the
fuses and what Understory holds while its own supply stays. -/
def Obligations.ResetCourse : Prop :=
  ∀ (s : State),
    (∀ u, Answers (.powerOn u) s fun t =>
      (∀ a, a ∉ [SAFE_STAT, SAFE_OUT_STAT, SAFE_DF_STAMP, SAFE_DF_ERA] → t.rd a = regReset a) ∧
      t.rst.run = some { bits := 1, src := 0, kind := 0, taken := true } ∧ t.glade.owner = s.glade.owner ∧
      t.glade.enrolled = s.glade.enrolled ∧ (s.glade.burns = [] → t.glade.rb = s.glade.rb) ∧
      (∀ k, s.glade.rb.getD k 0 ≤ t.glade.rb.getD k 0) ∧ t.log.raised = [] ∧ (u = true → t.deadfall = false) ∧
      (u = false → t.safe.ustLatch = s.safe.ustLatch)) ∧
    (∀ r, s.rst.run = some r → r.taken = false →
      (Shaped s.toDev → Answers .resetAnnounce s fun t => (∀ k : Fin 12, (t.sout k).on = false) ∧ t.safe.ustAnn = true ∧
        t.safe.up = false ∧ t.safe.table = false ∧ (∀ k, t.permit k = false) ∧ t.rst.run = some r) ∧
      (r.kind = 1 ∨ r.kind = 2 → Answers .resetTakeEffect s fun t => t.rst.run = some { r with taken := true } ∧
        (∀ a, a ∉ retainedRegs → t.rd a = regReset a) ∧
        (∀ a, a ∈ [RST_CAUSE, RST_LAST, RST_COUNT, RST_CRIT, RST_CLK_STAT, SAFE_CNT, LOG_PWR_CYC, LOG_OP_S, PIN_FUSE0] →
          t.rd a = s.rd a) ∧ t.thkt.queue = s.thkt.queue ∧ t.glade.owner = s.glade.owner ∧
        t.log.raised = (if r.kind = 2 then s.log.raised else []))) ∧
    (s.rst.run.elim true RstRun.taken = true → NoEffect .resetAnnounce s ∧ NoEffect .resetTakeEffect s) ∧
    (∀ (r : RstRun) st fu, s.rst.run = some r → r.taken = true → s.rst.low = 0 → s.bit RST_DOM_STAT 10 = false →
      Answers (.resetRelease st fu) s fun t => t.rst.run = none ∧ t.bit RST_DOM_STAT 0 = true ∧
        t.rd RST_STRAP = BitVec.ofNat 32 (strapWord (readStraps st)) ∧ t.safe.ustAnn = false ∧ t.safe.halt = false ∧
        (r.kind ≠ 0 → t.fld RST_COUNT 15 0 = min 65535 (s.fld RST_COUNT 15 0 + 1)) ∧
        (r.kind = 0 → t.fld LOG_PWR_CYC 23 0 = min (2 ^ 24 - 1) (s.log.saved.1 + 1)) ∧
        ∃ e, e ∈ t.log.raised ∧ e.code = 0x0101 ∧ e.p1 = BitVec.ofNat 32 r.kind) ∧
    (∀ st fu, (s.rst.run.elim false RstRun.taken = false ∨ s.rst.low ≠ 0 ∨ s.bit RST_DOM_STAT 10 = true) →
      NoEffect (.resetRelease st fu) s)

/-- Clocks (R462, R464, R467, R492): a loss of REFCLK or of lock holds the domains in a cold reset and is counted; CLK_LOST joins
the causes when the clock returns; with both PLLs locked, the released domains start, but for those whose own clock has stopped. -/
def Obligations.ClockEvents : Prop :=
  ∀ (s : State),
    (s.bit RST_DOM_STAT 10 = false → Answers .clockLoss s fun t => t.bit RST_DOM_STAT 10 = true ∧
      t.fld RST_CLK_STAT 23 16 = min 255 (s.fld RST_CLK_STAT 23 16 + 1) ∧
      (s.rst.run = none → t.rst.run = some { bits := 0, src := 6, kind := 1, taken := true } ∧
        ∀ a, a ∉ retainedRegs → t.rd a = regReset a)) ∧
    (s.bit RST_DOM_STAT 10 = true → NoEffect .clockLoss s ∧ (∀ g, NoEffect (.pllLossOfLock g) s ∧ NoEffect (.pllLock g) s)) ∧
    (s.bit RST_DOM_STAT 10 = true → ∀ us, Answers (.clockReturn us) s fun t => t.bit RST_DOM_STAT 10 = false ∧ NoEvent s t ∧
      (∀ r, s.rst.run = some r → t.rst.run = some { r with bits := r.bits ||| 256, outage := some us } ∧
        t.bit RST_CAUSE 8 = true)) ∧
    (s.bit RST_DOM_STAT 10 = false → ∀ us, NoEffect (.clockReturn us) s) ∧
    (∀ g, s.bit RST_DOM_STAT 10 = false → s.bit RST_DOM_STAT (8 + bnat g) = true → Answers (.pllLossOfLock g) s fun t =>
      t.bit RST_DOM_STAT (8 + bnat g) = false ∧ t.fld RST_DOM_STAT 7 1 = 0 ∧
      t.fld RST_CLK_STAT (7 + 8 * bnat g) (8 * bnat g) = min 255 (s.fld RST_CLK_STAT (7 + 8 * bnat g) (8 * bnat g) + 1)) ∧
    (∀ g, s.bit RST_DOM_STAT (8 + bnat g) = false → NoEffect (.pllLossOfLock g) s) ∧
    (∀ g, s.bit RST_DOM_STAT 10 = false → Answers (.pllLock g) s fun t => t.bit RST_DOM_STAT (8 + bnat g) = true ∧
      NoEvent s t ∧
      (s.bit RST_DOM_STAT 0 = true → s.rst.run = none → s.bit RST_DOM_STAT (8 + bnat (!g)) = true →
        ∀ k, 1 ≤ k → k ≤ 7 → t.bit RST_DOM_STAT k = (s.bit RST_DOM_STAT k || !bitOf s.rst.stopped k)))
end

