-- ==== Sys2Proof/Laws/State.lean ====
section
/-! SUPPORT. What each update of the state leaves as it is: one lemma per field per update, all true by unfolding the update. -/

namespace Sys2Proof.Machine

/-! wr writes registers only. -/
@[simp] theorem wr_seq (s : Dev) (a : Nat) (v : Word) : (s.wr a v).seq = s.seq := (rfl)
@[simp] theorem wr_clk (s : Dev) (a : Nat) (v : Word) : (s.wr a v).clk = s.clk := (rfl)
@[simp] theorem wr_loop (s : Dev) (a : Nat) (v : Word) : (s.wr a v).loop = s.loop := (rfl)
@[simp] theorem wr_prof (s : Dev) (a : Nat) (v : Word) : (s.wr a v).prof = s.prof := (rfl)
@[simp] theorem wr_est (s : Dev) (a : Nat) (v : Word) : (s.wr a v).est = s.est := (rfl)
@[simp] theorem wr_alloc (s : Dev) (a : Nat) (v : Word) : (s.wr a v).alloc = s.alloc := (rfl)
@[simp] theorem wr_grove (s : Dev) (a : Nat) (v : Word) : (s.wr a v).grove = s.grove := (rfl)
@[simp] theorem wr_gnss (s : Dev) (a : Nat) (v : Word) : (s.wr a v).gnss = s.gnss := (rfl)
@[simp] theorem wr_acq (s : Dev) (a : Nat) (v : Word) : (s.wr a v).acq = s.acq := (rfl)
@[simp] theorem wr_can (s : Dev) (a : Nat) (v : Word) : (s.wr a v).can = s.can := (rfl)
@[simp] theorem wr_net (s : Dev) (a : Nat) (v : Word) : (s.wr a v).net = s.net := (rfl)
@[simp] theorem wr_log (s : Dev) (a : Nat) (v : Word) : (s.wr a v).log = s.log := (rfl)
@[simp] theorem wr_host (s : Dev) (a : Nat) (v : Word) : (s.wr a v).host = s.host := (rfl)
@[simp] theorem wr_safe (s : Dev) (a : Nat) (v : Word) : (s.wr a v).safe = s.safe := (rfl)
@[simp] theorem wr_stand (s : Dev) (a : Nat) (v : Word) : (s.wr a v).stand = s.stand := (rfl)
@[simp] theorem wr_thkt (s : Dev) (a : Nat) (v : Word) : (s.wr a v).thkt = s.thkt := (rfl)
@[simp] theorem wr_blz (s : Dev) (a : Nat) (v : Word) : (s.wr a v).blz = s.blz := (rfl)
@[simp] theorem wr_glade (s : Dev) (a : Nat) (v : Word) : (s.wr a v).glade = s.glade := (rfl)
@[simp] theorem wr_rst (s : Dev) (a : Nat) (v : Word) : (s.wr a v).rst = s.rst := (rfl)

/-! wrN writes registers only. -/
@[simp] theorem wrN_seq (s : Dev) (a v : Nat) : (s.wrN a v).seq = s.seq := (rfl)
@[simp] theorem wrN_clk (s : Dev) (a v : Nat) : (s.wrN a v).clk = s.clk := (rfl)
@[simp] theorem wrN_loop (s : Dev) (a v : Nat) : (s.wrN a v).loop = s.loop := (rfl)
@[simp] theorem wrN_prof (s : Dev) (a v : Nat) : (s.wrN a v).prof = s.prof := (rfl)
@[simp] theorem wrN_est (s : Dev) (a v : Nat) : (s.wrN a v).est = s.est := (rfl)
@[simp] theorem wrN_alloc (s : Dev) (a v : Nat) : (s.wrN a v).alloc = s.alloc := (rfl)
@[simp] theorem wrN_grove (s : Dev) (a v : Nat) : (s.wrN a v).grove = s.grove := (rfl)
@[simp] theorem wrN_gnss (s : Dev) (a v : Nat) : (s.wrN a v).gnss = s.gnss := (rfl)
@[simp] theorem wrN_acq (s : Dev) (a v : Nat) : (s.wrN a v).acq = s.acq := (rfl)
@[simp] theorem wrN_can (s : Dev) (a v : Nat) : (s.wrN a v).can = s.can := (rfl)
@[simp] theorem wrN_net (s : Dev) (a v : Nat) : (s.wrN a v).net = s.net := (rfl)
@[simp] theorem wrN_log (s : Dev) (a v : Nat) : (s.wrN a v).log = s.log := (rfl)
@[simp] theorem wrN_host (s : Dev) (a v : Nat) : (s.wrN a v).host = s.host := (rfl)
@[simp] theorem wrN_safe (s : Dev) (a v : Nat) : (s.wrN a v).safe = s.safe := (rfl)
@[simp] theorem wrN_stand (s : Dev) (a v : Nat) : (s.wrN a v).stand = s.stand := (rfl)
@[simp] theorem wrN_thkt (s : Dev) (a v : Nat) : (s.wrN a v).thkt = s.thkt := (rfl)
@[simp] theorem wrN_blz (s : Dev) (a v : Nat) : (s.wrN a v).blz = s.blz := (rfl)
@[simp] theorem wrN_glade (s : Dev) (a v : Nat) : (s.wrN a v).glade = s.glade := (rfl)
@[simp] theorem wrN_rst (s : Dev) (a v : Nat) : (s.wrN a v).rst = s.rst := (rfl)

/-! setFld writes registers only. -/
@[simp] theorem setFld_seq (s : Dev) (a hi lo v : Nat) : (s.setFld a hi lo v).seq = s.seq := (rfl)
@[simp] theorem setFld_clk (s : Dev) (a hi lo v : Nat) : (s.setFld a hi lo v).clk = s.clk := (rfl)
@[simp] theorem setFld_loop (s : Dev) (a hi lo v : Nat) : (s.setFld a hi lo v).loop = s.loop := (rfl)
@[simp] theorem setFld_prof (s : Dev) (a hi lo v : Nat) : (s.setFld a hi lo v).prof = s.prof := (rfl)
@[simp] theorem setFld_est (s : Dev) (a hi lo v : Nat) : (s.setFld a hi lo v).est = s.est := (rfl)
@[simp] theorem setFld_alloc (s : Dev) (a hi lo v : Nat) : (s.setFld a hi lo v).alloc = s.alloc := (rfl)
@[simp] theorem setFld_grove (s : Dev) (a hi lo v : Nat) : (s.setFld a hi lo v).grove = s.grove := (rfl)
@[simp] theorem setFld_gnss (s : Dev) (a hi lo v : Nat) : (s.setFld a hi lo v).gnss = s.gnss := (rfl)
@[simp] theorem setFld_acq (s : Dev) (a hi lo v : Nat) : (s.setFld a hi lo v).acq = s.acq := (rfl)
@[simp] theorem setFld_can (s : Dev) (a hi lo v : Nat) : (s.setFld a hi lo v).can = s.can := (rfl)
@[simp] theorem setFld_net (s : Dev) (a hi lo v : Nat) : (s.setFld a hi lo v).net = s.net := (rfl)
@[simp] theorem setFld_log (s : Dev) (a hi lo v : Nat) : (s.setFld a hi lo v).log = s.log := (rfl)
@[simp] theorem setFld_host (s : Dev) (a hi lo v : Nat) : (s.setFld a hi lo v).host = s.host := (rfl)
@[simp] theorem setFld_safe (s : Dev) (a hi lo v : Nat) : (s.setFld a hi lo v).safe = s.safe := (rfl)
@[simp] theorem setFld_stand (s : Dev) (a hi lo v : Nat) : (s.setFld a hi lo v).stand = s.stand := (rfl)
@[simp] theorem setFld_thkt (s : Dev) (a hi lo v : Nat) : (s.setFld a hi lo v).thkt = s.thkt := (rfl)
@[simp] theorem setFld_blz (s : Dev) (a hi lo v : Nat) : (s.setFld a hi lo v).blz = s.blz := (rfl)
@[simp] theorem setFld_glade (s : Dev) (a hi lo v : Nat) : (s.setFld a hi lo v).glade = s.glade := (rfl)
@[simp] theorem setFld_rst (s : Dev) (a hi lo v : Nat) : (s.setFld a hi lo v).rst = s.rst := (rfl)

/-! setBit writes registers only. -/
@[simp] theorem setBit_seq (s : Dev) (a i : Nat) (b : Bool) : (s.setBit a i b).seq = s.seq := (rfl)
@[simp] theorem setBit_clk (s : Dev) (a i : Nat) (b : Bool) : (s.setBit a i b).clk = s.clk := (rfl)
@[simp] theorem setBit_loop (s : Dev) (a i : Nat) (b : Bool) : (s.setBit a i b).loop = s.loop := (rfl)
@[simp] theorem setBit_prof (s : Dev) (a i : Nat) (b : Bool) : (s.setBit a i b).prof = s.prof := (rfl)
@[simp] theorem setBit_est (s : Dev) (a i : Nat) (b : Bool) : (s.setBit a i b).est = s.est := (rfl)
@[simp] theorem setBit_alloc (s : Dev) (a i : Nat) (b : Bool) : (s.setBit a i b).alloc = s.alloc := (rfl)
@[simp] theorem setBit_grove (s : Dev) (a i : Nat) (b : Bool) : (s.setBit a i b).grove = s.grove := (rfl)
@[simp] theorem setBit_gnss (s : Dev) (a i : Nat) (b : Bool) : (s.setBit a i b).gnss = s.gnss := (rfl)
@[simp] theorem setBit_acq (s : Dev) (a i : Nat) (b : Bool) : (s.setBit a i b).acq = s.acq := (rfl)
@[simp] theorem setBit_can (s : Dev) (a i : Nat) (b : Bool) : (s.setBit a i b).can = s.can := (rfl)
@[simp] theorem setBit_net (s : Dev) (a i : Nat) (b : Bool) : (s.setBit a i b).net = s.net := (rfl)
@[simp] theorem setBit_log (s : Dev) (a i : Nat) (b : Bool) : (s.setBit a i b).log = s.log := (rfl)
@[simp] theorem setBit_host (s : Dev) (a i : Nat) (b : Bool) : (s.setBit a i b).host = s.host := (rfl)
@[simp] theorem setBit_safe (s : Dev) (a i : Nat) (b : Bool) : (s.setBit a i b).safe = s.safe := (rfl)
@[simp] theorem setBit_stand (s : Dev) (a i : Nat) (b : Bool) : (s.setBit a i b).stand = s.stand := (rfl)
@[simp] theorem setBit_thkt (s : Dev) (a i : Nat) (b : Bool) : (s.setBit a i b).thkt = s.thkt := (rfl)
@[simp] theorem setBit_blz (s : Dev) (a i : Nat) (b : Bool) : (s.setBit a i b).blz = s.blz := (rfl)
@[simp] theorem setBit_glade (s : Dev) (a i : Nat) (b : Bool) : (s.setBit a i b).glade = s.glade := (rfl)
@[simp] theorem setBit_rst (s : Dev) (a i : Nat) (b : Bool) : (s.setBit a i b).rst = s.rst := (rfl)

/-! wrPbv writes registers only. -/
@[simp] theorem wrPbv_seq (s : Dev) (a : Nat) (x : Rat) : (s.wrPbv a x).seq = s.seq := (rfl)
@[simp] theorem wrPbv_clk (s : Dev) (a : Nat) (x : Rat) : (s.wrPbv a x).clk = s.clk := (rfl)
@[simp] theorem wrPbv_loop (s : Dev) (a : Nat) (x : Rat) : (s.wrPbv a x).loop = s.loop := (rfl)
@[simp] theorem wrPbv_prof (s : Dev) (a : Nat) (x : Rat) : (s.wrPbv a x).prof = s.prof := (rfl)
@[simp] theorem wrPbv_est (s : Dev) (a : Nat) (x : Rat) : (s.wrPbv a x).est = s.est := (rfl)
@[simp] theorem wrPbv_alloc (s : Dev) (a : Nat) (x : Rat) : (s.wrPbv a x).alloc = s.alloc := (rfl)
@[simp] theorem wrPbv_grove (s : Dev) (a : Nat) (x : Rat) : (s.wrPbv a x).grove = s.grove := (rfl)
@[simp] theorem wrPbv_gnss (s : Dev) (a : Nat) (x : Rat) : (s.wrPbv a x).gnss = s.gnss := (rfl)
@[simp] theorem wrPbv_acq (s : Dev) (a : Nat) (x : Rat) : (s.wrPbv a x).acq = s.acq := (rfl)
@[simp] theorem wrPbv_can (s : Dev) (a : Nat) (x : Rat) : (s.wrPbv a x).can = s.can := (rfl)
@[simp] theorem wrPbv_net (s : Dev) (a : Nat) (x : Rat) : (s.wrPbv a x).net = s.net := (rfl)
@[simp] theorem wrPbv_log (s : Dev) (a : Nat) (x : Rat) : (s.wrPbv a x).log = s.log := (rfl)
@[simp] theorem wrPbv_host (s : Dev) (a : Nat) (x : Rat) : (s.wrPbv a x).host = s.host := (rfl)
@[simp] theorem wrPbv_safe (s : Dev) (a : Nat) (x : Rat) : (s.wrPbv a x).safe = s.safe := (rfl)
@[simp] theorem wrPbv_stand (s : Dev) (a : Nat) (x : Rat) : (s.wrPbv a x).stand = s.stand := (rfl)
@[simp] theorem wrPbv_thkt (s : Dev) (a : Nat) (x : Rat) : (s.wrPbv a x).thkt = s.thkt := (rfl)
@[simp] theorem wrPbv_blz (s : Dev) (a : Nat) (x : Rat) : (s.wrPbv a x).blz = s.blz := (rfl)
@[simp] theorem wrPbv_glade (s : Dev) (a : Nat) (x : Rat) : (s.wrPbv a x).glade = s.glade := (rfl)
@[simp] theorem wrPbv_rst (s : Dev) (a : Nat) (x : Rat) : (s.wrPbv a x).rst = s.rst := (rfl)

/-! cntSat writes registers only. -/
@[simp] theorem cntSat_seq (s : Dev) (a hi lo k : Nat) : (s.cntSat a hi lo k).seq = s.seq := (rfl)
@[simp] theorem cntSat_clk (s : Dev) (a hi lo k : Nat) : (s.cntSat a hi lo k).clk = s.clk := (rfl)
@[simp] theorem cntSat_loop (s : Dev) (a hi lo k : Nat) : (s.cntSat a hi lo k).loop = s.loop := (rfl)
@[simp] theorem cntSat_prof (s : Dev) (a hi lo k : Nat) : (s.cntSat a hi lo k).prof = s.prof := (rfl)
@[simp] theorem cntSat_est (s : Dev) (a hi lo k : Nat) : (s.cntSat a hi lo k).est = s.est := (rfl)
@[simp] theorem cntSat_alloc (s : Dev) (a hi lo k : Nat) : (s.cntSat a hi lo k).alloc = s.alloc := (rfl)
@[simp] theorem cntSat_grove (s : Dev) (a hi lo k : Nat) : (s.cntSat a hi lo k).grove = s.grove := (rfl)
@[simp] theorem cntSat_gnss (s : Dev) (a hi lo k : Nat) : (s.cntSat a hi lo k).gnss = s.gnss := (rfl)
@[simp] theorem cntSat_acq (s : Dev) (a hi lo k : Nat) : (s.cntSat a hi lo k).acq = s.acq := (rfl)
@[simp] theorem cntSat_can (s : Dev) (a hi lo k : Nat) : (s.cntSat a hi lo k).can = s.can := (rfl)
@[simp] theorem cntSat_net (s : Dev) (a hi lo k : Nat) : (s.cntSat a hi lo k).net = s.net := (rfl)
@[simp] theorem cntSat_log (s : Dev) (a hi lo k : Nat) : (s.cntSat a hi lo k).log = s.log := (rfl)
@[simp] theorem cntSat_host (s : Dev) (a hi lo k : Nat) : (s.cntSat a hi lo k).host = s.host := (rfl)
@[simp] theorem cntSat_safe (s : Dev) (a hi lo k : Nat) : (s.cntSat a hi lo k).safe = s.safe := (rfl)
@[simp] theorem cntSat_stand (s : Dev) (a hi lo k : Nat) : (s.cntSat a hi lo k).stand = s.stand := (rfl)
@[simp] theorem cntSat_thkt (s : Dev) (a hi lo k : Nat) : (s.cntSat a hi lo k).thkt = s.thkt := (rfl)
@[simp] theorem cntSat_blz (s : Dev) (a hi lo k : Nat) : (s.cntSat a hi lo k).blz = s.blz := (rfl)
@[simp] theorem cntSat_glade (s : Dev) (a hi lo k : Nat) : (s.cntSat a hi lo k).glade = s.glade := (rfl)
@[simp] theorem cntSat_rst (s : Dev) (a hi lo k : Nat) : (s.cntSat a hi lo k).rst = s.rst := (rfl)

/-! cntWrap writes registers only. -/
@[simp] theorem cntWrap_seq (s : Dev) (a hi lo k : Nat) : (s.cntWrap a hi lo k).seq = s.seq := (rfl)
@[simp] theorem cntWrap_clk (s : Dev) (a hi lo k : Nat) : (s.cntWrap a hi lo k).clk = s.clk := (rfl)
@[simp] theorem cntWrap_loop (s : Dev) (a hi lo k : Nat) : (s.cntWrap a hi lo k).loop = s.loop := (rfl)
@[simp] theorem cntWrap_prof (s : Dev) (a hi lo k : Nat) : (s.cntWrap a hi lo k).prof = s.prof := (rfl)
@[simp] theorem cntWrap_est (s : Dev) (a hi lo k : Nat) : (s.cntWrap a hi lo k).est = s.est := (rfl)
@[simp] theorem cntWrap_alloc (s : Dev) (a hi lo k : Nat) : (s.cntWrap a hi lo k).alloc = s.alloc := (rfl)
@[simp] theorem cntWrap_grove (s : Dev) (a hi lo k : Nat) : (s.cntWrap a hi lo k).grove = s.grove := (rfl)
@[simp] theorem cntWrap_gnss (s : Dev) (a hi lo k : Nat) : (s.cntWrap a hi lo k).gnss = s.gnss := (rfl)
@[simp] theorem cntWrap_acq (s : Dev) (a hi lo k : Nat) : (s.cntWrap a hi lo k).acq = s.acq := (rfl)
@[simp] theorem cntWrap_can (s : Dev) (a hi lo k : Nat) : (s.cntWrap a hi lo k).can = s.can := (rfl)
@[simp] theorem cntWrap_net (s : Dev) (a hi lo k : Nat) : (s.cntWrap a hi lo k).net = s.net := (rfl)
@[simp] theorem cntWrap_log (s : Dev) (a hi lo k : Nat) : (s.cntWrap a hi lo k).log = s.log := (rfl)
@[simp] theorem cntWrap_host (s : Dev) (a hi lo k : Nat) : (s.cntWrap a hi lo k).host = s.host := (rfl)
@[simp] theorem cntWrap_safe (s : Dev) (a hi lo k : Nat) : (s.cntWrap a hi lo k).safe = s.safe := (rfl)
@[simp] theorem cntWrap_stand (s : Dev) (a hi lo k : Nat) : (s.cntWrap a hi lo k).stand = s.stand := (rfl)
@[simp] theorem cntWrap_thkt (s : Dev) (a hi lo k : Nat) : (s.cntWrap a hi lo k).thkt = s.thkt := (rfl)
@[simp] theorem cntWrap_blz (s : Dev) (a hi lo k : Nat) : (s.cntWrap a hi lo k).blz = s.blz := (rfl)
@[simp] theorem cntWrap_glade (s : Dev) (a hi lo k : Nat) : (s.cntWrap a hi lo k).glade = s.glade := (rfl)
@[simp] theorem cntWrap_rst (s : Dev) (a hi lo k : Nat) : (s.cntWrap a hi lo k).rst = s.rst := (rfl)

/-! orMask writes registers only. -/
@[simp] theorem orMask_seq (s : Dev) (a m : Nat) : (s.orMask a m).seq = s.seq := (rfl)
@[simp] theorem orMask_clk (s : Dev) (a m : Nat) : (s.orMask a m).clk = s.clk := (rfl)
@[simp] theorem orMask_loop (s : Dev) (a m : Nat) : (s.orMask a m).loop = s.loop := (rfl)
@[simp] theorem orMask_prof (s : Dev) (a m : Nat) : (s.orMask a m).prof = s.prof := (rfl)
@[simp] theorem orMask_est (s : Dev) (a m : Nat) : (s.orMask a m).est = s.est := (rfl)
@[simp] theorem orMask_alloc (s : Dev) (a m : Nat) : (s.orMask a m).alloc = s.alloc := (rfl)
@[simp] theorem orMask_grove (s : Dev) (a m : Nat) : (s.orMask a m).grove = s.grove := (rfl)
@[simp] theorem orMask_gnss (s : Dev) (a m : Nat) : (s.orMask a m).gnss = s.gnss := (rfl)
@[simp] theorem orMask_acq (s : Dev) (a m : Nat) : (s.orMask a m).acq = s.acq := (rfl)
@[simp] theorem orMask_can (s : Dev) (a m : Nat) : (s.orMask a m).can = s.can := (rfl)
@[simp] theorem orMask_net (s : Dev) (a m : Nat) : (s.orMask a m).net = s.net := (rfl)
@[simp] theorem orMask_log (s : Dev) (a m : Nat) : (s.orMask a m).log = s.log := (rfl)
@[simp] theorem orMask_host (s : Dev) (a m : Nat) : (s.orMask a m).host = s.host := (rfl)
@[simp] theorem orMask_safe (s : Dev) (a m : Nat) : (s.orMask a m).safe = s.safe := (rfl)
@[simp] theorem orMask_stand (s : Dev) (a m : Nat) : (s.orMask a m).stand = s.stand := (rfl)
@[simp] theorem orMask_thkt (s : Dev) (a m : Nat) : (s.orMask a m).thkt = s.thkt := (rfl)
@[simp] theorem orMask_blz (s : Dev) (a m : Nat) : (s.orMask a m).blz = s.blz := (rfl)
@[simp] theorem orMask_glade (s : Dev) (a m : Nat) : (s.orMask a m).glade = s.glade := (rfl)
@[simp] theorem orMask_rst (s : Dev) (a m : Nat) : (s.orMask a m).rst = s.rst := (rfl)

/-! clrMask writes registers only. -/
@[simp] theorem clrMask_seq (s : Dev) (a m : Nat) : (s.clrMask a m).seq = s.seq := (rfl)
@[simp] theorem clrMask_clk (s : Dev) (a m : Nat) : (s.clrMask a m).clk = s.clk := (rfl)
@[simp] theorem clrMask_loop (s : Dev) (a m : Nat) : (s.clrMask a m).loop = s.loop := (rfl)
@[simp] theorem clrMask_prof (s : Dev) (a m : Nat) : (s.clrMask a m).prof = s.prof := (rfl)
@[simp] theorem clrMask_est (s : Dev) (a m : Nat) : (s.clrMask a m).est = s.est := (rfl)
@[simp] theorem clrMask_alloc (s : Dev) (a m : Nat) : (s.clrMask a m).alloc = s.alloc := (rfl)
@[simp] theorem clrMask_grove (s : Dev) (a m : Nat) : (s.clrMask a m).grove = s.grove := (rfl)
@[simp] theorem clrMask_gnss (s : Dev) (a m : Nat) : (s.clrMask a m).gnss = s.gnss := (rfl)
@[simp] theorem clrMask_acq (s : Dev) (a m : Nat) : (s.clrMask a m).acq = s.acq := (rfl)
@[simp] theorem clrMask_can (s : Dev) (a m : Nat) : (s.clrMask a m).can = s.can := (rfl)
@[simp] theorem clrMask_net (s : Dev) (a m : Nat) : (s.clrMask a m).net = s.net := (rfl)
@[simp] theorem clrMask_log (s : Dev) (a m : Nat) : (s.clrMask a m).log = s.log := (rfl)
@[simp] theorem clrMask_host (s : Dev) (a m : Nat) : (s.clrMask a m).host = s.host := (rfl)
@[simp] theorem clrMask_safe (s : Dev) (a m : Nat) : (s.clrMask a m).safe = s.safe := (rfl)
@[simp] theorem clrMask_stand (s : Dev) (a m : Nat) : (s.clrMask a m).stand = s.stand := (rfl)
@[simp] theorem clrMask_thkt (s : Dev) (a m : Nat) : (s.clrMask a m).thkt = s.thkt := (rfl)
@[simp] theorem clrMask_blz (s : Dev) (a m : Nat) : (s.clrMask a m).blz = s.blz := (rfl)
@[simp] theorem clrMask_glade (s : Dev) (a m : Nat) : (s.clrMask a m).glade = s.glade := (rfl)
@[simp] theorem clrMask_rst (s : Dev) (a m : Nat) : (s.clrMask a m).rst = s.rst := (rfl)

/-! raise writes registers only. -/
@[simp] theorem raise_seq (s : Dev) (n : Nat) : (s.raise n).seq = s.seq := (rfl)
@[simp] theorem raise_clk (s : Dev) (n : Nat) : (s.raise n).clk = s.clk := (rfl)
@[simp] theorem raise_loop (s : Dev) (n : Nat) : (s.raise n).loop = s.loop := (rfl)
@[simp] theorem raise_prof (s : Dev) (n : Nat) : (s.raise n).prof = s.prof := (rfl)
@[simp] theorem raise_est (s : Dev) (n : Nat) : (s.raise n).est = s.est := (rfl)
@[simp] theorem raise_alloc (s : Dev) (n : Nat) : (s.raise n).alloc = s.alloc := (rfl)
@[simp] theorem raise_grove (s : Dev) (n : Nat) : (s.raise n).grove = s.grove := (rfl)
@[simp] theorem raise_gnss (s : Dev) (n : Nat) : (s.raise n).gnss = s.gnss := (rfl)
@[simp] theorem raise_acq (s : Dev) (n : Nat) : (s.raise n).acq = s.acq := (rfl)
@[simp] theorem raise_can (s : Dev) (n : Nat) : (s.raise n).can = s.can := (rfl)
@[simp] theorem raise_net (s : Dev) (n : Nat) : (s.raise n).net = s.net := (rfl)
@[simp] theorem raise_log (s : Dev) (n : Nat) : (s.raise n).log = s.log := (rfl)
@[simp] theorem raise_host (s : Dev) (n : Nat) : (s.raise n).host = s.host := (rfl)
@[simp] theorem raise_safe (s : Dev) (n : Nat) : (s.raise n).safe = s.safe := (rfl)
@[simp] theorem raise_stand (s : Dev) (n : Nat) : (s.raise n).stand = s.stand := (rfl)
@[simp] theorem raise_thkt (s : Dev) (n : Nat) : (s.raise n).thkt = s.thkt := (rfl)
@[simp] theorem raise_blz (s : Dev) (n : Nat) : (s.raise n).blz = s.blz := (rfl)
@[simp] theorem raise_glade (s : Dev) (n : Nat) : (s.raise n).glade = s.glade := (rfl)
@[simp] theorem raise_rst (s : Dev) (n : Nat) : (s.raise n).rst = s.rst := (rfl)

/-! An event changes the list of raised events and spends a free value. -/
@[simp] theorem evW_regs (s : Dev) (c : Nat) (p q : Word) : (s.evW c p q).regs = s.regs := (rfl)
@[simp] theorem evW_clk (s : Dev) (c : Nat) (p q : Word) : (s.evW c p q).clk = s.clk := (rfl)
@[simp] theorem evW_loop (s : Dev) (c : Nat) (p q : Word) : (s.evW c p q).loop = s.loop := (rfl)
@[simp] theorem evW_prof (s : Dev) (c : Nat) (p q : Word) : (s.evW c p q).prof = s.prof := (rfl)
@[simp] theorem evW_est (s : Dev) (c : Nat) (p q : Word) : (s.evW c p q).est = s.est := (rfl)
@[simp] theorem evW_alloc (s : Dev) (c : Nat) (p q : Word) : (s.evW c p q).alloc = s.alloc := (rfl)
@[simp] theorem evW_grove (s : Dev) (c : Nat) (p q : Word) : (s.evW c p q).grove = s.grove := (rfl)
@[simp] theorem evW_gnss (s : Dev) (c : Nat) (p q : Word) : (s.evW c p q).gnss = s.gnss := (rfl)
@[simp] theorem evW_acq (s : Dev) (c : Nat) (p q : Word) : (s.evW c p q).acq = s.acq := (rfl)
@[simp] theorem evW_can (s : Dev) (c : Nat) (p q : Word) : (s.evW c p q).can = s.can := (rfl)
@[simp] theorem evW_net (s : Dev) (c : Nat) (p q : Word) : (s.evW c p q).net = s.net := (rfl)
@[simp] theorem evW_host (s : Dev) (c : Nat) (p q : Word) : (s.evW c p q).host = s.host := (rfl)
@[simp] theorem evW_safe (s : Dev) (c : Nat) (p q : Word) : (s.evW c p q).safe = s.safe := (rfl)
@[simp] theorem evW_stand (s : Dev) (c : Nat) (p q : Word) : (s.evW c p q).stand = s.stand := (rfl)
@[simp] theorem evW_thkt (s : Dev) (c : Nat) (p q : Word) : (s.evW c p q).thkt = s.thkt := (rfl)
@[simp] theorem evW_blz (s : Dev) (c : Nat) (p q : Word) : (s.evW c p q).blz = s.blz := (rfl)
@[simp] theorem evW_glade (s : Dev) (c : Nat) (p q : Word) : (s.evW c p q).glade = s.glade := (rfl)
@[simp] theorem evW_rst (s : Dev) (c : Nat) (p q : Word) : (s.evW c p q).rst = s.rst := (rfl)
@[simp] theorem evW_seq (s : Dev) (c : Nat) (p q : Word) : (s.evW c p q).seq = { s.seq with freeCtr := s.seq.freeCtr + 1 } := (rfl)

@[simp] theorem ev_regs (s : Dev) (c p q : Nat) : (s.ev c p q).regs = s.regs := (rfl)
@[simp] theorem ev_clk (s : Dev) (c p q : Nat) : (s.ev c p q).clk = s.clk := (rfl)
@[simp] theorem ev_loop (s : Dev) (c p q : Nat) : (s.ev c p q).loop = s.loop := (rfl)
@[simp] theorem ev_prof (s : Dev) (c p q : Nat) : (s.ev c p q).prof = s.prof := (rfl)
@[simp] theorem ev_est (s : Dev) (c p q : Nat) : (s.ev c p q).est = s.est := (rfl)
@[simp] theorem ev_alloc (s : Dev) (c p q : Nat) : (s.ev c p q).alloc = s.alloc := (rfl)
@[simp] theorem ev_grove (s : Dev) (c p q : Nat) : (s.ev c p q).grove = s.grove := (rfl)
@[simp] theorem ev_gnss (s : Dev) (c p q : Nat) : (s.ev c p q).gnss = s.gnss := (rfl)
@[simp] theorem ev_acq (s : Dev) (c p q : Nat) : (s.ev c p q).acq = s.acq := (rfl)
@[simp] theorem ev_can (s : Dev) (c p q : Nat) : (s.ev c p q).can = s.can := (rfl)
@[simp] theorem ev_net (s : Dev) (c p q : Nat) : (s.ev c p q).net = s.net := (rfl)
@[simp] theorem ev_host (s : Dev) (c p q : Nat) : (s.ev c p q).host = s.host := (rfl)
@[simp] theorem ev_safe (s : Dev) (c p q : Nat) : (s.ev c p q).safe = s.safe := (rfl)
@[simp] theorem ev_stand (s : Dev) (c p q : Nat) : (s.ev c p q).stand = s.stand := (rfl)
@[simp] theorem ev_thkt (s : Dev) (c p q : Nat) : (s.ev c p q).thkt = s.thkt := (rfl)
@[simp] theorem ev_blz (s : Dev) (c p q : Nat) : (s.ev c p q).blz = s.blz := (rfl)
@[simp] theorem ev_glade (s : Dev) (c p q : Nat) : (s.ev c p q).glade = s.glade := (rfl)
@[simp] theorem ev_rst (s : Dev) (c p q : Nat) : (s.ev c p q).rst = s.rst := (rfl)
@[simp] theorem ev_seq (s : Dev) (c p q : Nat) : (s.ev c p q).seq = { s.seq with freeCtr := s.seq.freeCtr + 1 } := (rfl)

@[simp] theorem evI_regs (s : Dev) (c p : Nat) (q : Int) : (s.evI c p q).regs = s.regs := (rfl)
@[simp] theorem evI_clk (s : Dev) (c p : Nat) (q : Int) : (s.evI c p q).clk = s.clk := (rfl)
@[simp] theorem evI_loop (s : Dev) (c p : Nat) (q : Int) : (s.evI c p q).loop = s.loop := (rfl)
@[simp] theorem evI_prof (s : Dev) (c p : Nat) (q : Int) : (s.evI c p q).prof = s.prof := (rfl)
@[simp] theorem evI_est (s : Dev) (c p : Nat) (q : Int) : (s.evI c p q).est = s.est := (rfl)
@[simp] theorem evI_alloc (s : Dev) (c p : Nat) (q : Int) : (s.evI c p q).alloc = s.alloc := (rfl)
@[simp] theorem evI_grove (s : Dev) (c p : Nat) (q : Int) : (s.evI c p q).grove = s.grove := (rfl)
@[simp] theorem evI_gnss (s : Dev) (c p : Nat) (q : Int) : (s.evI c p q).gnss = s.gnss := (rfl)
@[simp] theorem evI_acq (s : Dev) (c p : Nat) (q : Int) : (s.evI c p q).acq = s.acq := (rfl)
@[simp] theorem evI_can (s : Dev) (c p : Nat) (q : Int) : (s.evI c p q).can = s.can := (rfl)
@[simp] theorem evI_net (s : Dev) (c p : Nat) (q : Int) : (s.evI c p q).net = s.net := (rfl)
@[simp] theorem evI_host (s : Dev) (c p : Nat) (q : Int) : (s.evI c p q).host = s.host := (rfl)
@[simp] theorem evI_safe (s : Dev) (c p : Nat) (q : Int) : (s.evI c p q).safe = s.safe := (rfl)
@[simp] theorem evI_stand (s : Dev) (c p : Nat) (q : Int) : (s.evI c p q).stand = s.stand := (rfl)
@[simp] theorem evI_thkt (s : Dev) (c p : Nat) (q : Int) : (s.evI c p q).thkt = s.thkt := (rfl)
@[simp] theorem evI_blz (s : Dev) (c p : Nat) (q : Int) : (s.evI c p q).blz = s.blz := (rfl)
@[simp] theorem evI_glade (s : Dev) (c p : Nat) (q : Int) : (s.evI c p q).glade = s.glade := (rfl)
@[simp] theorem evI_rst (s : Dev) (c p : Nat) (q : Int) : (s.evI c p q).rst = s.rst := (rfl)
@[simp] theorem evI_seq (s : Dev) (c p : Nat) (q : Int) : (s.evI c p q).seq = { s.seq with freeCtr := s.seq.freeCtr + 1 } := (rfl)

/-! A free value is drawn from the counter alone. -/
@[simp] theorem spend_regs (s : Dev) : s.spend.regs = s.regs := (rfl)
@[simp] theorem spend_clk (s : Dev) : s.spend.clk = s.clk := (rfl)
@[simp] theorem spend_loop (s : Dev) : s.spend.loop = s.loop := (rfl)
@[simp] theorem spend_prof (s : Dev) : s.spend.prof = s.prof := (rfl)
@[simp] theorem spend_est (s : Dev) : s.spend.est = s.est := (rfl)
@[simp] theorem spend_alloc (s : Dev) : s.spend.alloc = s.alloc := (rfl)
@[simp] theorem spend_grove (s : Dev) : s.spend.grove = s.grove := (rfl)
@[simp] theorem spend_gnss (s : Dev) : s.spend.gnss = s.gnss := (rfl)
@[simp] theorem spend_acq (s : Dev) : s.spend.acq = s.acq := (rfl)
@[simp] theorem spend_can (s : Dev) : s.spend.can = s.can := (rfl)
@[simp] theorem spend_net (s : Dev) : s.spend.net = s.net := (rfl)
@[simp] theorem spend_log (s : Dev) : s.spend.log = s.log := (rfl)
@[simp] theorem spend_host (s : Dev) : s.spend.host = s.host := (rfl)
@[simp] theorem spend_safe (s : Dev) : s.spend.safe = s.safe := (rfl)
@[simp] theorem spend_stand (s : Dev) : s.spend.stand = s.stand := (rfl)
@[simp] theorem spend_thkt (s : Dev) : s.spend.thkt = s.thkt := (rfl)
@[simp] theorem spend_blz (s : Dev) : s.spend.blz = s.blz := (rfl)
@[simp] theorem spend_glade (s : Dev) : s.spend.glade = s.glade := (rfl)
@[simp] theorem spend_rst (s : Dev) : s.spend.rst = s.rst := (rfl)

/-! An update behind a window changes its own block. -/
@[simp] theorem setLctx_regs (s : Dev) (n : Nat) (f : LoopCtx → LoopCtx) : (s.setLctx n f).regs = s.regs := (rfl)
@[simp] theorem setLctx_seq (s : Dev) (n : Nat) (f : LoopCtx → LoopCtx) : (s.setLctx n f).seq = s.seq := (rfl)
@[simp] theorem setLctx_clk (s : Dev) (n : Nat) (f : LoopCtx → LoopCtx) : (s.setLctx n f).clk = s.clk := (rfl)
@[simp] theorem setLctx_prof (s : Dev) (n : Nat) (f : LoopCtx → LoopCtx) : (s.setLctx n f).prof = s.prof := (rfl)
@[simp] theorem setLctx_est (s : Dev) (n : Nat) (f : LoopCtx → LoopCtx) : (s.setLctx n f).est = s.est := (rfl)
@[simp] theorem setLctx_alloc (s : Dev) (n : Nat) (f : LoopCtx → LoopCtx) : (s.setLctx n f).alloc = s.alloc := (rfl)
@[simp] theorem setLctx_grove (s : Dev) (n : Nat) (f : LoopCtx → LoopCtx) : (s.setLctx n f).grove = s.grove := (rfl)
@[simp] theorem setLctx_gnss (s : Dev) (n : Nat) (f : LoopCtx → LoopCtx) : (s.setLctx n f).gnss = s.gnss := (rfl)
@[simp] theorem setLctx_acq (s : Dev) (n : Nat) (f : LoopCtx → LoopCtx) : (s.setLctx n f).acq = s.acq := (rfl)
@[simp] theorem setLctx_can (s : Dev) (n : Nat) (f : LoopCtx → LoopCtx) : (s.setLctx n f).can = s.can := (rfl)
@[simp] theorem setLctx_net (s : Dev) (n : Nat) (f : LoopCtx → LoopCtx) : (s.setLctx n f).net = s.net := (rfl)
@[simp] theorem setLctx_log (s : Dev) (n : Nat) (f : LoopCtx → LoopCtx) : (s.setLctx n f).log = s.log := (rfl)
@[simp] theorem setLctx_host (s : Dev) (n : Nat) (f : LoopCtx → LoopCtx) : (s.setLctx n f).host = s.host := (rfl)
@[simp] theorem setLctx_safe (s : Dev) (n : Nat) (f : LoopCtx → LoopCtx) : (s.setLctx n f).safe = s.safe := (rfl)
@[simp] theorem setLctx_stand (s : Dev) (n : Nat) (f : LoopCtx → LoopCtx) : (s.setLctx n f).stand = s.stand := (rfl)
@[simp] theorem setLctx_thkt (s : Dev) (n : Nat) (f : LoopCtx → LoopCtx) : (s.setLctx n f).thkt = s.thkt := (rfl)
@[simp] theorem setLctx_blz (s : Dev) (n : Nat) (f : LoopCtx → LoopCtx) : (s.setLctx n f).blz = s.blz := (rfl)
@[simp] theorem setLctx_glade (s : Dev) (n : Nat) (f : LoopCtx → LoopCtx) : (s.setLctx n f).glade = s.glade := (rfl)
@[simp] theorem setLctx_rst (s : Dev) (n : Nat) (f : LoopCtx → LoopCtx) : (s.setLctx n f).rst = s.rst := (rfl)

@[simp] theorem setGen_regs (s : Dev) (n : Nat) (f : GenSt → GenSt) : (s.setGen n f).regs = s.regs := (rfl)
@[simp] theorem setGen_seq (s : Dev) (n : Nat) (f : GenSt → GenSt) : (s.setGen n f).seq = s.seq := (rfl)
@[simp] theorem setGen_clk (s : Dev) (n : Nat) (f : GenSt → GenSt) : (s.setGen n f).clk = s.clk := (rfl)
@[simp] theorem setGen_loop (s : Dev) (n : Nat) (f : GenSt → GenSt) : (s.setGen n f).loop = s.loop := (rfl)
@[simp] theorem setGen_est (s : Dev) (n : Nat) (f : GenSt → GenSt) : (s.setGen n f).est = s.est := (rfl)
@[simp] theorem setGen_alloc (s : Dev) (n : Nat) (f : GenSt → GenSt) : (s.setGen n f).alloc = s.alloc := (rfl)
@[simp] theorem setGen_grove (s : Dev) (n : Nat) (f : GenSt → GenSt) : (s.setGen n f).grove = s.grove := (rfl)
@[simp] theorem setGen_gnss (s : Dev) (n : Nat) (f : GenSt → GenSt) : (s.setGen n f).gnss = s.gnss := (rfl)
@[simp] theorem setGen_acq (s : Dev) (n : Nat) (f : GenSt → GenSt) : (s.setGen n f).acq = s.acq := (rfl)
@[simp] theorem setGen_can (s : Dev) (n : Nat) (f : GenSt → GenSt) : (s.setGen n f).can = s.can := (rfl)
@[simp] theorem setGen_net (s : Dev) (n : Nat) (f : GenSt → GenSt) : (s.setGen n f).net = s.net := (rfl)
@[simp] theorem setGen_log (s : Dev) (n : Nat) (f : GenSt → GenSt) : (s.setGen n f).log = s.log := (rfl)
@[simp] theorem setGen_host (s : Dev) (n : Nat) (f : GenSt → GenSt) : (s.setGen n f).host = s.host := (rfl)
@[simp] theorem setGen_safe (s : Dev) (n : Nat) (f : GenSt → GenSt) : (s.setGen n f).safe = s.safe := (rfl)
@[simp] theorem setGen_stand (s : Dev) (n : Nat) (f : GenSt → GenSt) : (s.setGen n f).stand = s.stand := (rfl)
@[simp] theorem setGen_thkt (s : Dev) (n : Nat) (f : GenSt → GenSt) : (s.setGen n f).thkt = s.thkt := (rfl)
@[simp] theorem setGen_blz (s : Dev) (n : Nat) (f : GenSt → GenSt) : (s.setGen n f).blz = s.blz := (rfl)
@[simp] theorem setGen_glade (s : Dev) (n : Nat) (f : GenSt → GenSt) : (s.setGen n f).glade = s.glade := (rfl)
@[simp] theorem setGen_rst (s : Dev) (n : Nat) (f : GenSt → GenSt) : (s.setGen n f).rst = s.rst := (rfl)

@[simp] theorem setChain_regs (s : Dev) (n : Nat) (f : ChainSt → ChainSt) : (s.setChain n f).regs = s.regs := (rfl)
@[simp] theorem setChain_seq (s : Dev) (n : Nat) (f : ChainSt → ChainSt) : (s.setChain n f).seq = s.seq := (rfl)
@[simp] theorem setChain_clk (s : Dev) (n : Nat) (f : ChainSt → ChainSt) : (s.setChain n f).clk = s.clk := (rfl)
@[simp] theorem setChain_loop (s : Dev) (n : Nat) (f : ChainSt → ChainSt) : (s.setChain n f).loop = s.loop := (rfl)
@[simp] theorem setChain_prof (s : Dev) (n : Nat) (f : ChainSt → ChainSt) : (s.setChain n f).prof = s.prof := (rfl)
@[simp] theorem setChain_est (s : Dev) (n : Nat) (f : ChainSt → ChainSt) : (s.setChain n f).est = s.est := (rfl)
@[simp] theorem setChain_alloc (s : Dev) (n : Nat) (f : ChainSt → ChainSt) : (s.setChain n f).alloc = s.alloc := (rfl)
@[simp] theorem setChain_grove (s : Dev) (n : Nat) (f : ChainSt → ChainSt) : (s.setChain n f).grove = s.grove := (rfl)
@[simp] theorem setChain_gnss (s : Dev) (n : Nat) (f : ChainSt → ChainSt) : (s.setChain n f).gnss = s.gnss := (rfl)
@[simp] theorem setChain_can (s : Dev) (n : Nat) (f : ChainSt → ChainSt) : (s.setChain n f).can = s.can := (rfl)
@[simp] theorem setChain_net (s : Dev) (n : Nat) (f : ChainSt → ChainSt) : (s.setChain n f).net = s.net := (rfl)
@[simp] theorem setChain_log (s : Dev) (n : Nat) (f : ChainSt → ChainSt) : (s.setChain n f).log = s.log := (rfl)
@[simp] theorem setChain_host (s : Dev) (n : Nat) (f : ChainSt → ChainSt) : (s.setChain n f).host = s.host := (rfl)
@[simp] theorem setChain_safe (s : Dev) (n : Nat) (f : ChainSt → ChainSt) : (s.setChain n f).safe = s.safe := (rfl)
@[simp] theorem setChain_stand (s : Dev) (n : Nat) (f : ChainSt → ChainSt) : (s.setChain n f).stand = s.stand := (rfl)
@[simp] theorem setChain_thkt (s : Dev) (n : Nat) (f : ChainSt → ChainSt) : (s.setChain n f).thkt = s.thkt := (rfl)
@[simp] theorem setChain_blz (s : Dev) (n : Nat) (f : ChainSt → ChainSt) : (s.setChain n f).blz = s.blz := (rfl)
@[simp] theorem setChain_glade (s : Dev) (n : Nat) (f : ChainSt → ChainSt) : (s.setChain n f).glade = s.glade := (rfl)
@[simp] theorem setChain_rst (s : Dev) (n : Nat) (f : ChainSt → ChainSt) : (s.setChain n f).rst = s.rst := (rfl)

@[simp] theorem setLane_regs (s : Dev) (n : Nat) (f : LaneSt → LaneSt) : (s.setLane n f).regs = s.regs := (rfl)
@[simp] theorem setLane_seq (s : Dev) (n : Nat) (f : LaneSt → LaneSt) : (s.setLane n f).seq = s.seq := (rfl)
@[simp] theorem setLane_clk (s : Dev) (n : Nat) (f : LaneSt → LaneSt) : (s.setLane n f).clk = s.clk := (rfl)
@[simp] theorem setLane_loop (s : Dev) (n : Nat) (f : LaneSt → LaneSt) : (s.setLane n f).loop = s.loop := (rfl)
@[simp] theorem setLane_prof (s : Dev) (n : Nat) (f : LaneSt → LaneSt) : (s.setLane n f).prof = s.prof := (rfl)
@[simp] theorem setLane_est (s : Dev) (n : Nat) (f : LaneSt → LaneSt) : (s.setLane n f).est = s.est := (rfl)
@[simp] theorem setLane_alloc (s : Dev) (n : Nat) (f : LaneSt → LaneSt) : (s.setLane n f).alloc = s.alloc := (rfl)
@[simp] theorem setLane_gnss (s : Dev) (n : Nat) (f : LaneSt → LaneSt) : (s.setLane n f).gnss = s.gnss := (rfl)
@[simp] theorem setLane_acq (s : Dev) (n : Nat) (f : LaneSt → LaneSt) : (s.setLane n f).acq = s.acq := (rfl)
@[simp] theorem setLane_can (s : Dev) (n : Nat) (f : LaneSt → LaneSt) : (s.setLane n f).can = s.can := (rfl)
@[simp] theorem setLane_net (s : Dev) (n : Nat) (f : LaneSt → LaneSt) : (s.setLane n f).net = s.net := (rfl)
@[simp] theorem setLane_log (s : Dev) (n : Nat) (f : LaneSt → LaneSt) : (s.setLane n f).log = s.log := (rfl)
@[simp] theorem setLane_host (s : Dev) (n : Nat) (f : LaneSt → LaneSt) : (s.setLane n f).host = s.host := (rfl)
@[simp] theorem setLane_safe (s : Dev) (n : Nat) (f : LaneSt → LaneSt) : (s.setLane n f).safe = s.safe := (rfl)
@[simp] theorem setLane_stand (s : Dev) (n : Nat) (f : LaneSt → LaneSt) : (s.setLane n f).stand = s.stand := (rfl)
@[simp] theorem setLane_thkt (s : Dev) (n : Nat) (f : LaneSt → LaneSt) : (s.setLane n f).thkt = s.thkt := (rfl)
@[simp] theorem setLane_blz (s : Dev) (n : Nat) (f : LaneSt → LaneSt) : (s.setLane n f).blz = s.blz := (rfl)
@[simp] theorem setLane_glade (s : Dev) (n : Nat) (f : LaneSt → LaneSt) : (s.setLane n f).glade = s.glade := (rfl)
@[simp] theorem setLane_rst (s : Dev) (n : Nat) (f : LaneSt → LaneSt) : (s.setLane n f).rst = s.rst := (rfl)

@[simp] theorem setCanc_regs (s : Dev) (n : Nat) (f : CanCtl → CanCtl) : (s.setCanc n f).regs = s.regs := (rfl)
@[simp] theorem setCanc_seq (s : Dev) (n : Nat) (f : CanCtl → CanCtl) : (s.setCanc n f).seq = s.seq := (rfl)
@[simp] theorem setCanc_clk (s : Dev) (n : Nat) (f : CanCtl → CanCtl) : (s.setCanc n f).clk = s.clk := (rfl)
@[simp] theorem setCanc_loop (s : Dev) (n : Nat) (f : CanCtl → CanCtl) : (s.setCanc n f).loop = s.loop := (rfl)
@[simp] theorem setCanc_prof (s : Dev) (n : Nat) (f : CanCtl → CanCtl) : (s.setCanc n f).prof = s.prof := (rfl)
@[simp] theorem setCanc_est (s : Dev) (n : Nat) (f : CanCtl → CanCtl) : (s.setCanc n f).est = s.est := (rfl)
@[simp] theorem setCanc_alloc (s : Dev) (n : Nat) (f : CanCtl → CanCtl) : (s.setCanc n f).alloc = s.alloc := (rfl)
@[simp] theorem setCanc_grove (s : Dev) (n : Nat) (f : CanCtl → CanCtl) : (s.setCanc n f).grove = s.grove := (rfl)
@[simp] theorem setCanc_gnss (s : Dev) (n : Nat) (f : CanCtl → CanCtl) : (s.setCanc n f).gnss = s.gnss := (rfl)
@[simp] theorem setCanc_acq (s : Dev) (n : Nat) (f : CanCtl → CanCtl) : (s.setCanc n f).acq = s.acq := (rfl)
@[simp] theorem setCanc_net (s : Dev) (n : Nat) (f : CanCtl → CanCtl) : (s.setCanc n f).net = s.net := (rfl)
@[simp] theorem setCanc_log (s : Dev) (n : Nat) (f : CanCtl → CanCtl) : (s.setCanc n f).log = s.log := (rfl)
@[simp] theorem setCanc_host (s : Dev) (n : Nat) (f : CanCtl → CanCtl) : (s.setCanc n f).host = s.host := (rfl)
@[simp] theorem setCanc_safe (s : Dev) (n : Nat) (f : CanCtl → CanCtl) : (s.setCanc n f).safe = s.safe := (rfl)
@[simp] theorem setCanc_stand (s : Dev) (n : Nat) (f : CanCtl → CanCtl) : (s.setCanc n f).stand = s.stand := (rfl)
@[simp] theorem setCanc_thkt (s : Dev) (n : Nat) (f : CanCtl → CanCtl) : (s.setCanc n f).thkt = s.thkt := (rfl)
@[simp] theorem setCanc_blz (s : Dev) (n : Nat) (f : CanCtl → CanCtl) : (s.setCanc n f).blz = s.blz := (rfl)
@[simp] theorem setCanc_glade (s : Dev) (n : Nat) (f : CanCtl → CanCtl) : (s.setCanc n f).glade = s.glade := (rfl)
@[simp] theorem setCanc_rst (s : Dev) (n : Nat) (f : CanCtl → CanCtl) : (s.setCanc n f).rst = s.rst := (rfl)

/-- A register is read from the register file alone. -/
theorem rd_of_regs (s t : Dev) (a : Nat) (h : s.regs = t.regs) : s.rd a = t.rd a := by simp [Dev.rd, h]

@[simp] theorem evW_rd (s : Dev) (c : Nat) (p q : Word) (a : Nat) : (s.evW c p q).rd a = s.rd a := (rfl)
@[simp] theorem ev_rd (s : Dev) (c p q a : Nat) : (s.ev c p q).rd a = s.rd a := (rfl)
@[simp] theorem evI_rd (s : Dev) (c p : Nat) (q : Int) (a : Nat) : (s.evI c p q).rd a = s.rd a := (rfl)
@[simp] theorem spend_rd (s : Dev) (a : Nat) : s.spend.rd a = s.rd a := (rfl)
@[simp] theorem popped_toDev (s : State) : s.popped.toDev = s.toDev := (rfl)
@[simp] theorem popped_pending (s : State) : s.popped.pending = s.pending.tail := (rfl)

end Sys2Proof.Machine
end

