-- ==== Sys2Proof/Laws/Regs.lean ====
section
/-! SUPPORT. Laws of the register file: what is read after a write, of words, fields, bits and counters, and that a write
keeps the canonical form. -/

namespace Sys2Proof.Machine

section Keys
variable {α : Type}

theorem lookupKey_insertKey (k j : Nat) (v : α) (xs : List (Nat × α)) :
    lookupKey j (insertKey k v xs) = if j = k then some v else lookupKey j xs := by
  induction xs with
  | nil =>
    by_cases h : k = j
    · subst h; simp [insertKey, lookupKey]
    · simp [insertKey, lookupKey, h, Ne.symm h]
  | cons x xs ih =>
    obtain ⟨k', v'⟩ := x
    unfold insertKey
    by_cases h : k = j
    · subst h
      rw [if_pos rfl] at ih ⊢
      split_ifs with h1 h2
      · simp [lookupKey]
      · simp [lookupKey]
      · rw [lookupKey, if_neg (Ne.symm h2), ih]
    · rw [if_neg (Ne.symm h)] at ih ⊢
      split_ifs with h1 h2
      · rw [lookupKey, if_neg h]
      · subst h2; rw [lookupKey, if_neg h, lookupKey, if_neg h]
      · rw [lookupKey, ih, lookupKey]

theorem lookupKey_eraseKey (k j : Nat) (xs : List (Nat × α)) :
    lookupKey j (eraseKey k xs) = if j = k then none else lookupKey j xs := by
  induction xs with
  | nil => simp [eraseKey, lookupKey]
  | cons x xs ih =>
    obtain ⟨k', v'⟩ := x
    unfold eraseKey
    by_cases h : j = k
    · subst h
      rw [if_pos rfl] at ih ⊢
      split_ifs with h1
      · exact ih
      · rw [lookupKey, if_neg h1, ih]
    · rw [if_neg h] at ih ⊢
      split_ifs with h1
      · subst h1; rw [ih, lookupKey, if_neg (Ne.symm h)]
      · rw [lookupKey, ih, lookupKey]

end Keys

/-- The whole of a write: the register reads the word, every other register reads as before. -/
theorem rd_wr (s : Dev) (a b : Nat) (v : Word) : (s.wr a v).rd b = if b = a then v else s.rd b := by
  unfold Dev.wr Dev.rd
  dsimp only
  by_cases h : v = regReset a
  · rw [if_pos h, lookupKey_eraseKey]
    by_cases h2 : b = a <;> simp [h2, h]
  · rw [if_neg h, lookupKey_insertKey]
    by_cases h2 : b = a <;> simp [h2]

@[simp] theorem rd_wr_same (s : Dev) (a : Nat) (v : Word) : (s.wr a v).rd a = v := by simp [rd_wr]

theorem rd_wr_ne (s : Dev) (a b : Nat) (v : Word) (h : b ≠ a) : (s.wr a v).rd b = s.rd b := by simp [rd_wr, h]

@[simp] theorem rd_wrN_same (s : Dev) (a v : Nat) : (s.wrN a v).rd a = BitVec.ofNat 32 v := rd_wr_same _ _ _

theorem rd_wrN_ne (s : Dev) (a b v : Nat) (h : b ≠ a) : (s.wrN a v).rd b = s.rd b := rd_wr_ne _ _ _ _ h

@[simp] theorem rd_wrPbv_same (s : Dev) (a : Nat) (x : Rat) : (s.wrPbv a x).rd a = toPbv x := rd_wr_same _ _ _

theorem rd_wrPbv_ne (s : Dev) (a b : Nat) (x : Rat) (h : b ≠ a) : (s.wrPbv a x).rd b = s.rd b := rd_wr_ne _ _ _ _ h

theorem rd_setFld_ne (s : Dev) (a b hi lo v : Nat) (h : b ≠ a) : (s.setFld a hi lo v).rd b = s.rd b := rd_wr_ne _ _ _ _ h

theorem rd_setBit_ne (s : Dev) (a b i : Nat) (v : Bool) (h : b ≠ a) : (s.setBit a i v).rd b = s.rd b := rd_wr_ne _ _ _ _ h

theorem rd_cntSat_ne (s : Dev) (a b hi lo k : Nat) (h : b ≠ a) : (s.cntSat a hi lo k).rd b = s.rd b := rd_wr_ne _ _ _ _ h

theorem rd_cntWrap_ne (s : Dev) (a b hi lo k : Nat) (h : b ≠ a) : (s.cntWrap a hi lo k).rd b = s.rd b := rd_wr_ne _ _ _ _ h

@[simp] theorem rd_orMask_same (s : Dev) (a m : Nat) : (s.orMask a m).rd a = s.rd a ||| BitVec.ofNat 32 m := rd_wr_same _ _ _

theorem rd_orMask_ne (s : Dev) (a b m : Nat) (h : b ≠ a) : (s.orMask a m).rd b = s.rd b := rd_wr_ne _ _ _ _ h

@[simp] theorem rd_clrMask_same (s : Dev) (a m : Nat) : (s.clrMask a m).rd a = s.rd a &&& ~~~ (BitVec.ofNat 32 m) :=
  rd_wr_same _ _ _

theorem rd_clrMask_ne (s : Dev) (a b m : Nat) (h : b ≠ a) : (s.clrMask a m).rd b = s.rd b := rd_wr_ne _ _ _ _ h

theorem rd_raise_ne (s : Dev) (n b : Nat) (h : b ≠ HOST_EVT_PEND (n / 32)) : (s.raise n).rd b = s.rd b :=
  rd_orMask_ne _ _ _ _ h

/-- The word after a field is replaced, as a number. -/
theorem rd_setFld_same (s : Dev) (a hi lo v : Nat) :
    (s.setFld a hi lo v).rd a = BitVec.ofNat 32 (setBits (s.rd a).toNat hi lo v) := rd_wr_same _ _ _

theorem bitsOf_le (w hi lo : Nat) : bitsOf w hi lo * 2 ^ lo ≤ w := by
  unfold bitsOf
  calc w / 2 ^ lo % 2 ^ (hi + 1 - lo) * 2 ^ lo ≤ w / 2 ^ lo * 2 ^ lo := Nat.mul_le_mul_right _ (Nat.mod_le _ _)
    _ ≤ w := Nat.div_mul_le_self _ _

/-- A number split at a field: what lies above, the field, what lies below. -/
theorem split_field (w hi lo : Nat) (h : lo ≤ hi + 1) :
    w = w / 2 ^ (hi + 1) * 2 ^ (hi + 1) + bitsOf w hi lo * 2 ^ lo + w % 2 ^ lo := by
  unfold bitsOf
  have e : 2 ^ (hi + 1) = 2 ^ lo * 2 ^ (hi + 1 - lo) := by rw [← Nat.pow_add]; congr 1; omega
  have h1 := Nat.div_add_mod w (2 ^ lo)
  have h2 := Nat.div_add_mod (w / 2 ^ lo) (2 ^ (hi + 1 - lo))
  have h3 : w / 2 ^ (hi + 1) = w / 2 ^ lo / 2 ^ (hi + 1 - lo) := by rw [e, Nat.div_div_eq_div_mul]
  rw [h3, e]
  generalize w / 2 ^ lo / 2 ^ (hi + 1 - lo) = x at *
  generalize w / 2 ^ lo % 2 ^ (hi + 1 - lo) = y at *
  generalize w % 2 ^ lo = z at *
  rw [← h2] at h1
  rw [← h1]; ring

/-- A field replaced: what lies above and below stays. -/
theorem setBits_eq (w hi lo v : Nat) (h : lo ≤ hi + 1) :
    setBits w hi lo v = w / 2 ^ (hi + 1) * 2 ^ (hi + 1) + v % 2 ^ (hi + 1 - lo) * 2 ^ lo + w % 2 ^ lo := by
  unfold setBits
  have h1 := split_field w hi lo h
  generalize w / 2 ^ (hi + 1) * 2 ^ (hi + 1) = x at *
  generalize bitsOf w hi lo * 2 ^ lo = y at *
  generalize w % 2 ^ lo = z at *
  omega

theorem setBits_lt (w hi lo v n : Nat) (h : lo ≤ hi + 1) (hn : hi + 1 ≤ n) (hw : w < 2 ^ n) : setBits w hi lo v < 2 ^ n := by
  rw [setBits_eq w hi lo v h]
  have e : 2 ^ (hi + 1) = 2 ^ (hi + 1 - lo) * 2 ^ lo := by rw [← Nat.pow_add]; congr 1; omega
  have e2 : 2 ^ n = 2 ^ (n - (hi + 1)) * 2 ^ (hi + 1) := by rw [← Nat.pow_add]; congr 1; omega
  have p1 : 0 < 2 ^ (hi + 1) := Nat.two_pow_pos _
  have p2 : 0 < 2 ^ lo := Nat.two_pow_pos _
  have p3 : 0 < 2 ^ (hi + 1 - lo) := Nat.two_pow_pos _
  have h1 : w / 2 ^ (hi + 1) < 2 ^ (n - (hi + 1)) := by
    rw [Nat.div_lt_iff_lt_mul p1, ← e2]; exact hw
  have h2 : v % 2 ^ (hi + 1 - lo) < 2 ^ (hi + 1 - lo) := Nat.mod_lt _ p3
  have h3 : w % 2 ^ lo < 2 ^ lo := Nat.mod_lt _ p2
  have h4 : (w / 2 ^ (hi + 1) + 1) * 2 ^ (hi + 1) ≤ 2 ^ (n - (hi + 1)) * 2 ^ (hi + 1) := Nat.mul_le_mul_right _ h1
  have h5 : (v % 2 ^ (hi + 1 - lo) + 1) * 2 ^ lo ≤ 2 ^ (hi + 1 - lo) * 2 ^ lo := Nat.mul_le_mul_right _ h2
  rw [← e2] at h4
  rw [← e] at h5
  rw [Nat.add_mul, Nat.one_mul] at h4 h5
  omega

theorem bitsOf_setBits_same (w hi lo v : Nat) (h : lo ≤ hi + 1) :
    bitsOf (setBits w hi lo v) hi lo = v % 2 ^ (hi + 1 - lo) := by
  rw [setBits_eq w hi lo v h]
  unfold bitsOf
  have e : 2 ^ (hi + 1) = 2 ^ (hi + 1 - lo) * 2 ^ lo := by rw [← Nat.pow_add]; congr 1; omega
  have p2 : 0 < 2 ^ lo := Nat.two_pow_pos _
  have h3 : w % 2 ^ lo < 2 ^ lo := Nat.mod_lt _ p2
  rw [e, ← Nat.mul_assoc, ← Nat.add_mul, Nat.add_comm, Nat.add_mul_div_right _ _ p2, Nat.div_eq_of_lt h3, Nat.zero_add,
    Nat.mul_comm, Nat.mul_add_mod, Nat.mod_mod]

/-- A field that lies above the replaced one stays. -/
theorem bitsOf_setBits_above (w hi lo v hi' lo' : Nat) (h : lo ≤ hi + 1) (h' : hi < lo') :
    bitsOf (setBits w hi lo v) hi' lo' = bitsOf w hi' lo' := by
  unfold bitsOf
  congr 1
  rw [setBits_eq w hi lo v h]
  have e : 2 ^ (hi + 1) = 2 ^ (hi + 1 - lo) * 2 ^ lo := by rw [← Nat.pow_add]; congr 1; omega
  have e' : 2 ^ lo' = 2 ^ (hi + 1) * 2 ^ (lo' - (hi + 1)) := by rw [← Nat.pow_add]; congr 1; omega
  have p1 : 0 < 2 ^ (hi + 1) := Nat.two_pow_pos _
  have h2 : v % 2 ^ (hi + 1 - lo) < 2 ^ (hi + 1 - lo) := Nat.mod_lt _ (Nat.two_pow_pos _)
  have h3 : w % 2 ^ lo < 2 ^ lo := Nat.mod_lt _ (Nat.two_pow_pos _)
  have h5 : (v % 2 ^ (hi + 1 - lo) + 1) * 2 ^ lo ≤ 2 ^ (hi + 1 - lo) * 2 ^ lo := Nat.mul_le_mul_right _ h2
  rw [← e, Nat.add_mul, Nat.one_mul] at h5
  rw [e', ← Nat.div_div_eq_div_mul, ← Nat.div_div_eq_div_mul]
  congr 1
  rw [Nat.add_assoc, Nat.add_comm, Nat.add_mul_div_right _ _ p1, Nat.div_eq_of_lt (by omega), Nat.zero_add]

/-- A field that lies below the replaced one stays. -/
theorem bitsOf_setBits_below (w hi lo v hi' lo' : Nat) (h : lo ≤ hi + 1) (h' : hi' < lo) :
    bitsOf (setBits w hi lo v) hi' lo' = bitsOf w hi' lo' := by
  have key : ∀ x y : Nat, x % 2 ^ (hi' + 1) = y % 2 ^ (hi' + 1) → bitsOf x hi' lo' = bitsOf y hi' lo' := by
    intro x y hxy
    unfold bitsOf
    by_cases hl : lo' ≤ hi' + 1
    · have e : 2 ^ (hi' + 1) = 2 ^ lo' * 2 ^ (hi' + 1 - lo') := by rw [← Nat.pow_add]; congr 1; omega
      have m1 := Nat.mod_mul_right_div_self x (2 ^ lo') (2 ^ (hi' + 1 - lo'))
      have m2 := Nat.mod_mul_right_div_self y (2 ^ lo') (2 ^ (hi' + 1 - lo'))
      rw [← e] at m1 m2
      rw [← m1, ← m2, hxy]
    · have : hi' + 1 - lo' = 0 := by omega
      rw [this]; simp [Nat.mod_one]
  apply key
  rw [setBits_eq w hi lo v h]
  have d1 : 2 ^ (hi' + 1) ∣ 2 ^ (hi + 1) := Nat.pow_dvd_pow 2 (by omega)
  have d2 : 2 ^ (hi' + 1) ∣ 2 ^ lo := Nat.pow_dvd_pow 2 (by omega)
  obtain ⟨x, hx⟩ := d1
  obtain ⟨y, hy⟩ := d2
  have : w / 2 ^ (hi + 1) * 2 ^ (hi + 1) + v % 2 ^ (hi + 1 - lo) * 2 ^ lo + w % 2 ^ lo =
      w % 2 ^ lo + 2 ^ (hi' + 1) * (w / 2 ^ (hi + 1) * x + v % 2 ^ (hi + 1 - lo) * y) := by
    rw [hx, hy]; ring
  rw [this, Nat.add_mul_mod_self_left, hy, Nat.mod_mul_right_mod]

/-- A field that shares no bit with the replaced one stays. -/
theorem bitsOf_setBits_ne (w hi lo v hi' lo' : Nat) (h : lo ≤ hi + 1) (h' : hi < lo' ∨ hi' < lo) :
    bitsOf (setBits w hi lo v) hi' lo' = bitsOf w hi' lo' :=
  h'.elim (bitsOf_setBits_above w hi lo v hi' lo' h) (bitsOf_setBits_below w hi lo v hi' lo' h)

/-- The word after a field is replaced: no bit is lost. -/
theorem toNat_setFld (s : Dev) (a hi lo v : Nat) (h : lo ≤ hi + 1) (hn : hi < 32) :
    ((s.setFld a hi lo v).rd a).toNat = setBits (s.rd a).toNat hi lo v := by
  rw [rd_setFld_same, BitVec.toNat_ofNat]
  exact Nat.mod_eq_of_lt (setBits_lt _ _ _ _ 32 h (by omega) (s.rd a).isLt)

theorem fld_setFld_same (s : Dev) (a hi lo v : Nat) (h : lo ≤ hi + 1) (hn : hi < 32) :
    (s.setFld a hi lo v).fld a hi lo = v % 2 ^ (hi + 1 - lo) := by
  unfold Dev.fld; rw [toNat_setFld s a hi lo v h hn, bitsOf_setBits_same _ _ _ _ h]

theorem fld_setFld_ne (s : Dev) (a hi lo v hi' lo' : Nat) (h : lo ≤ hi + 1) (hn : hi < 32) (h' : hi < lo' ∨ hi' < lo) :
    (s.setFld a hi lo v).fld a hi' lo' = s.fld a hi' lo' := by
  unfold Dev.fld; rw [toNat_setFld s a hi lo v h hn, bitsOf_setBits_ne _ _ _ _ _ _ h h']

theorem bitOf_eq (w i : Nat) : bitOf w i = (bitsOf w i i == 1) := by
  unfold bitOf bitsOf; rw [Nat.add_sub_cancel_left, Nat.pow_one]

theorem bit_eq_fld (s : Dev) (a i : Nat) : s.bit a i = (s.fld a i i == 1) := bitOf_eq _ _

theorem bit_setBit_same (s : Dev) (a i : Nat) (b : Bool) (hn : i < 32) : (s.setBit a i b).bit a i = b := by
  rw [bit_eq_fld, Dev.setBit, fld_setFld_same _ _ _ _ _ (by omega) hn, Nat.add_sub_cancel_left]
  cases b <;> rfl

theorem bit_setFld_ne (s : Dev) (a hi lo v i : Nat) (h : lo ≤ hi + 1) (hn : hi < 32) (h' : hi < i ∨ i < lo) :
    (s.setFld a hi lo v).bit a i = s.bit a i := by
  rw [bit_eq_fld, fld_setFld_ne _ _ _ _ _ _ _ h hn h', ← bit_eq_fld]

theorem bit_setBit_ne (s : Dev) (a i j : Nat) (b : Bool) (hn : i < 32) (h : j ≠ i) : (s.setBit a i b).bit a j = s.bit a j :=
  bit_setFld_ne _ _ _ _ _ _ (by omega) hn (by omega)

theorem fld_setBit_ne (s : Dev) (a i hi lo : Nat) (b : Bool) (hn : i < 32) (h : i < lo ∨ hi < i) :
    (s.setBit a i b).fld a hi lo = s.fld a hi lo := fld_setFld_ne _ _ _ _ _ _ _ (by omega) hn h

theorem fld_cntSat_same (s : Dev) (a hi lo k : Nat) (h : lo ≤ hi) (hn : hi < 32) :
    (s.cntSat a hi lo k).fld a hi lo = min (2 ^ (hi + 1 - lo) - 1) (s.fld a hi lo + k) := by
  rw [Dev.cntSat, fld_setFld_same _ _ _ _ _ (by omega) hn, satAdd]
  have p : 0 < 2 ^ (hi + 1 - lo) := Nat.two_pow_pos _
  exact Nat.mod_eq_of_lt (by omega)

theorem fld_cntWrap_same (s : Dev) (a hi lo k : Nat) (h : lo ≤ hi) (hn : hi < 32) :
    (s.cntWrap a hi lo k).fld a hi lo = (s.fld a hi lo + k) % 2 ^ (hi + 1 - lo) := by
  rw [Dev.cntWrap, fld_setFld_same _ _ _ _ _ (by omega) hn]

/-- Fields and bits depend on the register's word alone. -/
theorem fld_of_rd (s t : Dev) (a hi lo : Nat) (h : s.rd a = t.rd a) : s.fld a hi lo = t.fld a hi lo := by
  unfold Dev.fld; rw [h]

theorem bit_of_rd (s t : Dev) (a i : Nat) (h : s.rd a = t.rd a) : s.bit a i = t.bit a i := by
  unfold Dev.bit; rw [h]

@[simp] theorem evW_fld (s : Dev) (c : Nat) (p q : Word) (a hi lo : Nat) : (s.evW c p q).fld a hi lo = s.fld a hi lo := (rfl)
@[simp] theorem ev_fld (s : Dev) (c p q a hi lo : Nat) : (s.ev c p q).fld a hi lo = s.fld a hi lo := (rfl)
@[simp] theorem evI_fld (s : Dev) (c p : Nat) (q : Int) (a hi lo : Nat) : (s.evI c p q).fld a hi lo = s.fld a hi lo := (rfl)
@[simp] theorem evW_bit (s : Dev) (c : Nat) (p q : Word) (a i : Nat) : (s.evW c p q).bit a i = s.bit a i := (rfl)
@[simp] theorem ev_bit (s : Dev) (c p q a i : Nat) : (s.ev c p q).bit a i = s.bit a i := (rfl)
@[simp] theorem evI_bit (s : Dev) (c p : Nat) (q : Int) (a i : Nat) : (s.evI c p q).bit a i = s.bit a i := (rfl)

/-! A field or bit of another register than the one written. -/

theorem fld_wr_other (s : Dev) (a b hi lo : Nat) (x : Word) (hne : b ≠ a) : (s.wr a x).fld b hi lo = s.fld b hi lo :=
  fld_of_rd _ _ _ _ _ (rd_wr_ne _ _ _ _ hne)
theorem bit_wr_other (s : Dev) (a b i : Nat) (x : Word) (hne : b ≠ a) : (s.wr a x).bit b i = s.bit b i :=
  bit_of_rd _ _ _ _ (rd_wr_ne _ _ _ _ hne)
theorem fld_wrN_other (s : Dev) (a b hi lo : Nat) (x : Nat) (hne : b ≠ a) : (s.wrN a x).fld b hi lo = s.fld b hi lo :=
  fld_of_rd _ _ _ _ _ (rd_wr_ne _ _ _ _ hne)
theorem bit_wrN_other (s : Dev) (a b i : Nat) (x : Nat) (hne : b ≠ a) : (s.wrN a x).bit b i = s.bit b i :=
  bit_of_rd _ _ _ _ (rd_wr_ne _ _ _ _ hne)
theorem fld_wrPbv_other (s : Dev) (a b hi lo : Nat) (x : Rat) (hne : b ≠ a) : (s.wrPbv a x).fld b hi lo = s.fld b hi lo :=
  fld_of_rd _ _ _ _ _ (rd_wr_ne _ _ _ _ hne)
theorem bit_wrPbv_other (s : Dev) (a b i : Nat) (x : Rat) (hne : b ≠ a) : (s.wrPbv a x).bit b i = s.bit b i :=
  bit_of_rd _ _ _ _ (rd_wr_ne _ _ _ _ hne)
theorem fld_setFld_other (s : Dev) (a b hi lo : Nat) (h l x : Nat) (hne : b ≠ a) : (s.setFld a h l x).fld b hi lo = s.fld b hi lo :=
  fld_of_rd _ _ _ _ _ (rd_wr_ne _ _ _ _ hne)
theorem bit_setFld_other (s : Dev) (a b i : Nat) (h l x : Nat) (hne : b ≠ a) : (s.setFld a h l x).bit b i = s.bit b i :=
  bit_of_rd _ _ _ _ (rd_wr_ne _ _ _ _ hne)
theorem fld_setBit_other (s : Dev) (a b hi lo : Nat) (j : Nat) (x : Bool) (hne : b ≠ a) : (s.setBit a j x).fld b hi lo = s.fld b hi lo :=
  fld_of_rd _ _ _ _ _ (rd_wr_ne _ _ _ _ hne)
theorem bit_setBit_other (s : Dev) (a b i : Nat) (j : Nat) (x : Bool) (hne : b ≠ a) : (s.setBit a j x).bit b i = s.bit b i :=
  bit_of_rd _ _ _ _ (rd_wr_ne _ _ _ _ hne)
theorem fld_cntSat_other (s : Dev) (a b hi lo : Nat) (h l k : Nat) (hne : b ≠ a) : (s.cntSat a h l k).fld b hi lo = s.fld b hi lo :=
  fld_of_rd _ _ _ _ _ (rd_wr_ne _ _ _ _ hne)
theorem bit_cntSat_other (s : Dev) (a b i : Nat) (h l k : Nat) (hne : b ≠ a) : (s.cntSat a h l k).bit b i = s.bit b i :=
  bit_of_rd _ _ _ _ (rd_wr_ne _ _ _ _ hne)
theorem fld_cntWrap_other (s : Dev) (a b hi lo : Nat) (h l k : Nat) (hne : b ≠ a) : (s.cntWrap a h l k).fld b hi lo = s.fld b hi lo :=
  fld_of_rd _ _ _ _ _ (rd_wr_ne _ _ _ _ hne)
theorem bit_cntWrap_other (s : Dev) (a b i : Nat) (h l k : Nat) (hne : b ≠ a) : (s.cntWrap a h l k).bit b i = s.bit b i :=
  bit_of_rd _ _ _ _ (rd_wr_ne _ _ _ _ hne)
theorem fld_orMask_other (s : Dev) (a b hi lo : Nat) (m : Nat) (hne : b ≠ a) : (s.orMask a m).fld b hi lo = s.fld b hi lo :=
  fld_of_rd _ _ _ _ _ (rd_wr_ne _ _ _ _ hne)
theorem bit_orMask_other (s : Dev) (a b i : Nat) (m : Nat) (hne : b ≠ a) : (s.orMask a m).bit b i = s.bit b i :=
  bit_of_rd _ _ _ _ (rd_wr_ne _ _ _ _ hne)
theorem fld_clrMask_other (s : Dev) (a b hi lo : Nat) (m : Nat) (hne : b ≠ a) : (s.clrMask a m).fld b hi lo = s.fld b hi lo :=
  fld_of_rd _ _ _ _ _ (rd_wr_ne _ _ _ _ hne)
theorem bit_clrMask_other (s : Dev) (a b i : Nat) (m : Nat) (hne : b ≠ a) : (s.clrMask a m).bit b i = s.bit b i :=
  bit_of_rd _ _ _ _ (rd_wr_ne _ _ _ _ hne)
theorem fld_raise_other (s : Dev) (n b hi lo : Nat) (hne : b ≠ HOST_EVT_PEND (n / 32)) : (s.raise n).fld b hi lo = s.fld b hi lo :=
  fld_of_rd _ _ _ _ _ (rd_raise_ne _ _ _ hne)
theorem bit_raise_other (s : Dev) (n b i : Nat) (hne : b ≠ HOST_EVT_PEND (n / 32)) : (s.raise n).bit b i = s.bit b i :=
  bit_of_rd _ _ _ _ (rd_raise_ne _ _ _ hne)

/-- The word at an offset of a register file. -/
def regAt (r : List (Nat × Word)) (a : Nat) : Word := (lookupKey a r).getD (regReset a)

@[simp] theorem regAt_regs (s : Dev) (a : Nat) : regAt s.regs a = s.rd a := (rfl)

/-- Reading after an update of anything but the registers. -/
@[simp] theorem rd_mk (r : List (Nat × Word)) (x0 : SeqSt) (x1 : ClkSt) (x2 : LoopSt) (x3 : ProfSt) (x4 : EstSt) (x5 : AllocSt) (x6 : GroveSt) (x7 : GnssSt) (x8 : AcqSt) (x9 : CanSt) (x10 : NetSt) (x11 : LogSt) (x12 : HostSt) (x13 : SafeSt) (x14 : StandSt) (x15 : ThktSt) (x16 : BlzSt) (x17 : GladeSt) (x18 : RstSt) (a : Nat) :
    (Dev.mk r x0 x1 x2 x3 x4 x5 x6 x7 x8 x9 x10 x11 x12 x13 x14 x15 x16 x17 x18).rd a = regAt r a := (rfl)
@[simp] theorem fld_mk (r : List (Nat × Word)) (x0 : SeqSt) (x1 : ClkSt) (x2 : LoopSt) (x3 : ProfSt) (x4 : EstSt) (x5 : AllocSt) (x6 : GroveSt) (x7 : GnssSt) (x8 : AcqSt) (x9 : CanSt) (x10 : NetSt) (x11 : LogSt) (x12 : HostSt) (x13 : SafeSt) (x14 : StandSt) (x15 : ThktSt) (x16 : BlzSt) (x17 : GladeSt) (x18 : RstSt) (a hi lo : Nat) :
    (Dev.mk r x0 x1 x2 x3 x4 x5 x6 x7 x8 x9 x10 x11 x12 x13 x14 x15 x16 x17 x18).fld a hi lo = bitsOf (regAt r a).toNat hi lo := (rfl)
@[simp] theorem bit_mk (r : List (Nat × Word)) (x0 : SeqSt) (x1 : ClkSt) (x2 : LoopSt) (x3 : ProfSt) (x4 : EstSt) (x5 : AllocSt) (x6 : GroveSt) (x7 : GnssSt) (x8 : AcqSt) (x9 : CanSt) (x10 : NetSt) (x11 : LogSt) (x12 : HostSt) (x13 : SafeSt) (x14 : StandSt) (x15 : ThktSt) (x16 : BlzSt) (x17 : GladeSt) (x18 : RstSt) (a i : Nat) :
    (Dev.mk r x0 x1 x2 x3 x4 x5 x6 x7 x8 x9 x10 x11 x12 x13 x14 x15 x16 x17 x18).bit a i = bitOf (regAt r a).toNat i := (rfl)
@[simp] theorem bitsOf_rd (s : Dev) (a hi lo : Nat) : bitsOf (s.rd a).toNat hi lo = s.fld a hi lo := (rfl)
@[simp] theorem bitOf_rd (s : Dev) (a i : Nat) : bitOf (s.rd a).toNat i = s.bit a i := (rfl)

/-! Bits under masks. -/

theorem bit_eq_getLsbD (s : Dev) (a i : Nat) : s.bit a i = (s.rd a).getLsbD i := by
  unfold Dev.bit bitOf
  rw [BitVec.getLsbD, Nat.testBit_eq_decide_div_mod_eq]
  rfl

theorem bit_orMask (s : Dev) (a m i : Nat) (hi : i < 32) : (s.orMask a m).bit a i = (s.bit a i || m.testBit i) := by
  rw [bit_eq_getLsbD, bit_eq_getLsbD, rd_orMask_same, BitVec.getLsbD_or, BitVec.getLsbD_ofNat]
  simp only [hi, decide_true, Bool.true_and]

theorem bit_clrMask (s : Dev) (a m i : Nat) (hi : i < 32) : (s.clrMask a m).bit a i = (s.bit a i && !m.testBit i) := by
  rw [bit_eq_getLsbD, bit_eq_getLsbD, rd_clrMask_same, BitVec.getLsbD_and, BitVec.getLsbD_not, BitVec.getLsbD_ofNat]
  simp only [hi, decide_true, Bool.true_and]

/-- An interrupt source is pending once raised (R451). -/
theorem bit_raise_same (s : Dev) (n : Nat) : (s.raise n).bit (HOST_EVT_PEND (n / 32)) (n % 32) = true := by
  unfold Dev.raise
  rw [bit_orMask _ _ _ _ (Nat.mod_lt _ (by omega))]
  simp

/-- An operation repeated for the elements of a list keeps what each application keeps. -/
theorem each_keeps {α β : Type} (g : Dev → β) (f : Dev → α → Dev) (h : ∀ d x, g (f d x) = g d) :
    ∀ (xs : List α) (s : Dev), g (s.each xs f) = g s
  | [], _ => rfl
  | x :: xs, s => by
    have := each_keeps g f h xs (f s x)
    rw [h] at this
    exact this

theorem fold_keeps {α β γ : Type} (g : α → γ) (f : α → β → α) (h : ∀ a x, g (f a x) = g a) :
    ∀ (xs : List β) (a : α), g (xs.foldl f a) = g a
  | [], _ => rfl
  | x :: xs, a => by rw [List.foldl_cons, fold_keeps g f h xs, h]

/-- The register file is canonical: offsets rise, and no entry is at its reset value. -/
def Dev.regsCanonical (s : Dev) : Prop := s.regs.Pairwise (fun x y => x.1 < y.1) ∧ ∀ x ∈ s.regs, x.2 ≠ regReset x.1

theorem mem_insertKey {α : Type} (k : Nat) (v : α) (xs : List (Nat × α)) (x : Nat × α) (h : x ∈ insertKey k v xs) :
    x = (k, v) ∨ x ∈ xs := by
  induction xs with
  | nil => simpa [insertKey] using h
  | cons y ys ih =>
    obtain ⟨k', v'⟩ := y
    unfold insertKey at h
    split_ifs at h with h1 h2
    · simpa using h
    · rcases List.mem_cons.1 h with rfl | h
      · exact .inl rfl
      · exact .inr (List.mem_cons_of_mem _ h)
    · rcases List.mem_cons.1 h with rfl | h
      · simp
      · exact (ih h).imp id (List.mem_cons_of_mem _)

theorem mem_eraseKey {α : Type} (k : Nat) (xs : List (Nat × α)) (x : Nat × α) (h : x ∈ eraseKey k xs) : x ∈ xs := by
  induction xs with
  | nil => simp [eraseKey] at h
  | cons y ys ih =>
    obtain ⟨k', v'⟩ := y
    unfold eraseKey at h
    split_ifs at h with h1
    · exact List.mem_cons_of_mem _ (ih h)
    · rcases List.mem_cons.1 h with rfl | h
      · simp
      · exact List.mem_cons_of_mem _ (ih h)

theorem insertKey_rising {α : Type} (k : Nat) (v : α) (xs : List (Nat × α)) (h : xs.Pairwise fun x y => x.1 < y.1) :
    (insertKey k v xs).Pairwise fun x y => x.1 < y.1 := by
  induction xs with
  | nil => simp [insertKey]
  | cons y ys ih =>
    obtain ⟨k', v'⟩ := y
    rw [List.pairwise_cons] at h
    unfold insertKey
    split_ifs with h1 h2
    · refine List.pairwise_cons.2 ⟨?_, List.pairwise_cons.2 h⟩
      intro z hz
      rcases List.mem_cons.1 hz with rfl | hz
      · exact h1
      · exact Nat.lt_trans h1 (h.1 z hz)
    · subst h2; exact List.pairwise_cons.2 h
    · refine List.pairwise_cons.2 ⟨?_, ih h.2⟩
      intro z hz
      rcases mem_insertKey _ _ _ _ hz with rfl | hz
      · show k' < k; omega
      · exact h.1 z hz

theorem eraseKey_rising {α : Type} (k : Nat) (xs : List (Nat × α)) (h : xs.Pairwise fun x y => x.1 < y.1) :
    (eraseKey k xs).Pairwise fun x y => x.1 < y.1 := by
  induction xs with
  | nil => simp [eraseKey]
  | cons y ys ih =>
    obtain ⟨k', v'⟩ := y
    rw [List.pairwise_cons] at h
    unfold eraseKey
    split_ifs with h1
    · exact ih h.2
    · exact List.pairwise_cons.2 ⟨fun z hz => h.1 z (mem_eraseKey _ _ _ hz), ih h.2⟩

/-- A write keeps the register file canonical. -/
theorem wr_canonical (s : Dev) (a : Nat) (v : Word) (h : s.regsCanonical) : (s.wr a v).regsCanonical := by
  unfold Dev.wr Dev.regsCanonical
  dsimp only
  split_ifs with hv
  · exact ⟨eraseKey_rising _ _ h.1, fun x hx => h.2 x (mem_eraseKey _ _ _ hx)⟩
  · refine ⟨insertKey_rising _ _ _ h.1, fun x hx => ?_⟩
    rcases mem_insertKey _ _ _ _ hx with rfl | hx
    · exact hv
    · exact h.2 x hx

end Sys2Proof.Machine
end

