-- ==== Sys2Proof/Laws/Settle.lean ====
section
/-! SUPPORT. What the end of every meaning does (Dev.settle, done): the safety registers and the two latches follow the state,
and everything else stays as the meaning left it. -/

namespace Sys2Proof.Machine

@[simp] theorem copyLatches_seq (s : Dev) : s.copyLatches.seq = s.seq := by unfold Dev.copyLatches; split_ifs <;> rfl
@[simp] theorem copyLatches_clk (s : Dev) : s.copyLatches.clk = s.clk := by unfold Dev.copyLatches; split_ifs <;> rfl
@[simp] theorem copyLatches_loop (s : Dev) : s.copyLatches.loop = s.loop := by unfold Dev.copyLatches; split_ifs <;> rfl
@[simp] theorem copyLatches_prof (s : Dev) : s.copyLatches.prof = s.prof := by unfold Dev.copyLatches; split_ifs <;> rfl
@[simp] theorem copyLatches_est (s : Dev) : s.copyLatches.est = s.est := by unfold Dev.copyLatches; split_ifs <;> rfl
@[simp] theorem copyLatches_alloc (s : Dev) : s.copyLatches.alloc = s.alloc := by unfold Dev.copyLatches; split_ifs <;> rfl
@[simp] theorem copyLatches_grove (s : Dev) : s.copyLatches.grove = s.grove := by unfold Dev.copyLatches; split_ifs <;> rfl
@[simp] theorem copyLatches_gnss (s : Dev) : s.copyLatches.gnss = s.gnss := by unfold Dev.copyLatches; split_ifs <;> rfl
@[simp] theorem copyLatches_acq (s : Dev) : s.copyLatches.acq = s.acq := by unfold Dev.copyLatches; split_ifs <;> rfl
@[simp] theorem copyLatches_can (s : Dev) : s.copyLatches.can = s.can := by unfold Dev.copyLatches; split_ifs <;> rfl
@[simp] theorem copyLatches_net (s : Dev) : s.copyLatches.net = s.net := by unfold Dev.copyLatches; split_ifs <;> rfl
@[simp] theorem copyLatches_log (s : Dev) : s.copyLatches.log = s.log := by unfold Dev.copyLatches; split_ifs <;> rfl
@[simp] theorem copyLatches_host (s : Dev) : s.copyLatches.host = s.host := by unfold Dev.copyLatches; split_ifs <;> rfl
@[simp] theorem copyLatches_stand (s : Dev) : s.copyLatches.stand = s.stand := by unfold Dev.copyLatches; split_ifs <;> rfl
@[simp] theorem copyLatches_thkt (s : Dev) : s.copyLatches.thkt = s.thkt := by unfold Dev.copyLatches; split_ifs <;> rfl
@[simp] theorem copyLatches_blz (s : Dev) : s.copyLatches.blz = s.blz := by unfold Dev.copyLatches; split_ifs <;> rfl
@[simp] theorem copyLatches_glade (s : Dev) : s.copyLatches.glade = s.glade := by unfold Dev.copyLatches; split_ifs <;> rfl
@[simp] theorem copyLatches_rst (s : Dev) : s.copyLatches.rst = s.rst := by unfold Dev.copyLatches; split_ifs <;> rfl
@[simp] theorem copyLatches_regs (s : Dev) : s.copyLatches.regs = s.regs := by unfold Dev.copyLatches; split_ifs <;> rfl
@[simp] theorem copyLatches_rd (s : Dev) (a : Nat) : s.copyLatches.rd a = s.rd a := rd_of_regs _ _ _ (by simp)

@[simp] theorem settle_seq (s : Dev) : s.settle.seq = s.seq := by simp [Dev.settle]
@[simp] theorem settle_clk (s : Dev) : s.settle.clk = s.clk := by simp [Dev.settle]
@[simp] theorem settle_loop (s : Dev) : s.settle.loop = s.loop := by simp [Dev.settle]
@[simp] theorem settle_prof (s : Dev) : s.settle.prof = s.prof := by simp [Dev.settle]
@[simp] theorem settle_est (s : Dev) : s.settle.est = s.est := by simp [Dev.settle]
@[simp] theorem settle_alloc (s : Dev) : s.settle.alloc = s.alloc := by simp [Dev.settle]
@[simp] theorem settle_grove (s : Dev) : s.settle.grove = s.grove := by simp [Dev.settle]
@[simp] theorem settle_gnss (s : Dev) : s.settle.gnss = s.gnss := by simp [Dev.settle]
@[simp] theorem settle_acq (s : Dev) : s.settle.acq = s.acq := by simp [Dev.settle]
@[simp] theorem settle_can (s : Dev) : s.settle.can = s.can := by simp [Dev.settle]
@[simp] theorem settle_net (s : Dev) : s.settle.net = s.net := by simp [Dev.settle]
@[simp] theorem settle_log (s : Dev) : s.settle.log = s.log := by simp [Dev.settle]
@[simp] theorem settle_host (s : Dev) : s.settle.host = s.host := by simp [Dev.settle]
@[simp] theorem settle_stand (s : Dev) : s.settle.stand = s.stand := by simp [Dev.settle]
@[simp] theorem settle_thkt (s : Dev) : s.settle.thkt = s.thkt := by simp [Dev.settle]
@[simp] theorem settle_blz (s : Dev) : s.settle.blz = s.blz := by simp [Dev.settle]
@[simp] theorem settle_glade (s : Dev) : s.settle.glade = s.glade := by simp [Dev.settle]
@[simp] theorem settle_rst (s : Dev) : s.settle.rst = s.rst := by simp [Dev.settle]
@[simp] theorem settle_safe (s : Dev) : s.settle.safe = s.copyLatches.safe := by simp [Dev.settle]

@[simp] theorem copyLatches_safe_chan (s : Dev) : s.copyLatches.safe.chan = s.safe.chan := by unfold Dev.copyLatches; split_ifs <;> rfl
@[simp] theorem copyLatches_safe_inp (s : Dev) : s.copyLatches.safe.inp = s.safe.inp := by unfold Dev.copyLatches; split_ifs <;> rfl
@[simp] theorem copyLatches_safe_out (s : Dev) : s.copyLatches.safe.out = s.safe.out := by unfold Dev.copyLatches; split_ifs <;> rfl
@[simp] theorem copyLatches_safe_smp (s : Dev) : s.copyLatches.safe.smp = s.safe.smp := by unfold Dev.copyLatches; split_ifs <;> rfl
@[simp] theorem copyLatches_safe_cmpPrev (s : Dev) : s.copyLatches.safe.cmpPrev = s.safe.cmpPrev := by unfold Dev.copyLatches; split_ifs <;> rfl
@[simp] theorem copyLatches_safe_dark (s : Dev) : s.copyLatches.safe.dark = s.safe.dark := by unfold Dev.copyLatches; split_ifs <;> rfl
@[simp] theorem copyLatches_safe_sinceDark (s : Dev) : s.copyLatches.safe.sinceDark = s.safe.sinceDark := by unfold Dev.copyLatches; split_ifs <;> rfl
@[simp] theorem copyLatches_safe_causes (s : Dev) : s.copyLatches.safe.causes = s.safe.causes := by unfold Dev.copyLatches; split_ifs <;> rfl
@[simp] theorem copyLatches_safe_halt (s : Dev) : s.copyLatches.safe.halt = s.safe.halt := by unfold Dev.copyLatches; split_ifs <;> rfl
@[simp] theorem copyLatches_safe_up (s : Dev) : s.copyLatches.safe.up = s.safe.up := by unfold Dev.copyLatches; split_ifs <;> rfl
@[simp] theorem copyLatches_safe_table (s : Dev) : s.copyLatches.safe.table = s.safe.table := by unfold Dev.copyLatches; split_ifs <;> rfl
@[simp] theorem copyLatches_safe_ustCfg (s : Dev) : s.copyLatches.safe.ustCfg = s.safe.ustCfg := by unfold Dev.copyLatches; split_ifs <;> rfl
@[simp] theorem copyLatches_safe_ustOn (s : Dev) : s.copyLatches.safe.ustOn = s.safe.ustOn := by unfold Dev.copyLatches; split_ifs <;> rfl
@[simp] theorem copyLatches_safe_ustSw (s : Dev) : s.copyLatches.safe.ustSw = s.safe.ustSw := by unfold Dev.copyLatches; split_ifs <;> rfl
@[simp] theorem copyLatches_safe_ustAnn (s : Dev) : s.copyLatches.safe.ustAnn = s.safe.ustAnn := by unfold Dev.copyLatches; split_ifs <;> rfl
@[simp] theorem copyLatches_safe_ustAlive (s : Dev) : s.copyLatches.safe.ustAlive = s.safe.ustAlive := by unfold Dev.copyLatches; split_ifs <;> rfl
@[simp] theorem copyLatches_safe_ustSusp (s : Dev) : s.copyLatches.safe.ustSusp = s.safe.ustSusp := by unfold Dev.copyLatches; split_ifs <;> rfl
@[simp] theorem copyLatches_safe_ustParity (s : Dev) : s.copyLatches.safe.ustParity = s.safe.ustParity := by unfold Dev.copyLatches; split_ifs <;> rfl

/-- While both technologies run, the latches agree and hold Deadfall; otherwise they stay (R356). -/
theorem copyLatches_latches (s : Dev) :
    s.copyLatches.safe.canopyLatch = (if s.safe.halt = false ∧ s.safe.ustOn = true then s.deadfall else s.safe.canopyLatch) ∧
    s.copyLatches.safe.ustLatch = (if s.safe.halt = false ∧ s.safe.ustOn = true then s.deadfall else s.safe.ustLatch) := by
  unfold Dev.copyLatches
  cases h1 : s.safe.halt <;> cases h2 : s.safe.ustOn <;> simp [h1, h2]

theorem deadfall_of_safe (s t : Dev) (h : s.safe = t.safe) : s.deadfall = t.deadfall := by
  unfold Dev.deadfall; rw [h]

@[simp] theorem copyLatches_deadfall (s : Dev) : s.copyLatches.deadfall = s.deadfall := by
  unfold Dev.copyLatches Dev.deadfall
  split_ifs <;> simp

@[simp] theorem settle_deadfall (s : Dev) : s.settle.deadfall = s.deadfall := by
  rw [← copyLatches_deadfall s]; unfold Dev.deadfall; rw [settle_safe]

/-- Every register but the two of the safety logic's state is as the meaning left it. -/
theorem settle_rd (s : Dev) (a : Nat) (h1 : a ≠ SAFE_OUT_STAT) (h2 : a ≠ SAFE_STAT) : s.settle.rd a = s.rd a := by
  unfold Dev.settle
  dsimp only
  rw [rd_setBit_ne _ _ _ _ _ h2, rd_setBit_ne _ _ _ _ _ h2, rd_setBit_ne _ _ _ _ _ h2, rd_setBit_ne _ _ _ _ _ h2,
    rd_wrN_ne _ _ _ _ h1, copyLatches_rd]

theorem settle_fld (s : Dev) (a hi lo : Nat) (h1 : a ≠ SAFE_OUT_STAT) (h2 : a ≠ SAFE_STAT) :
    s.settle.fld a hi lo = s.fld a hi lo := fld_of_rd _ _ _ _ _ (settle_rd s a h1 h2)

theorem settle_bit (s : Dev) (a i : Nat) (h1 : a ≠ SAFE_OUT_STAT) (h2 : a ≠ SAFE_STAT) : s.settle.bit a i = s.bit a i :=
  bit_of_rd _ _ _ _ (settle_rd s a h1 h2)

/-- SAFE_STAT above bit 3 is as the meaning left it. -/
theorem settle_fld_stat (s : Dev) (hi lo : Nat) (h : 4 ≤ lo) : s.settle.fld SAFE_STAT hi lo = s.fld SAFE_STAT hi lo := by
  unfold Dev.settle
  dsimp only
  rw [fld_setBit_ne _ _ _ _ _ _ (by omega) (by omega), fld_setBit_ne _ _ _ _ _ _ (by omega) (by omega),
    fld_setBit_ne _ _ _ _ _ _ (by omega) (by omega), fld_setBit_ne _ _ _ _ _ _ (by omega) (by omega)]
  exact fld_of_rd _ _ _ _ _ (by rw [rd_wrN_ne _ _ _ _ (by decide), copyLatches_rd])

/-- The four state bits of SAFE_STAT (R362). -/
theorem settle_stat_bits (s : Dev) :
    s.settle.bit SAFE_STAT 0 = s.deadfall ∧ s.settle.bit SAFE_STAT 1 = (s.safe.table && s.safe.up) ∧
    s.settle.bit SAFE_STAT 2 = s.safe.up ∧ s.settle.bit SAFE_STAT 3 = (s.safe.ustOn && s.safe.ustAlive) := by
  unfold Dev.settle
  dsimp only
  refine ⟨?_, ?_, ?_, ?_⟩
  · rw [bit_setBit_ne _ _ _ _ _ (by omega) (by omega), bit_setBit_ne _ _ _ _ _ (by omega) (by omega),
      bit_setBit_ne _ _ _ _ _ (by omega) (by omega), bit_setBit_same _ _ _ _ (by omega)]
    exact deadfall_of_safe _ _ (wrN_safe _ _ _) |>.trans (copyLatches_deadfall s)
  · rw [bit_setBit_ne _ _ _ _ _ (by omega) (by omega), bit_setBit_ne _ _ _ _ _ (by omega) (by omega),
      bit_setBit_same _ _ _ _ (by omega)]
    simp
  · rw [bit_setBit_ne _ _ _ _ _ (by omega) (by omega), bit_setBit_same _ _ _ _ (by omega)]
    simp
  · rw [bit_setBit_same _ _ _ _ (by omega)]
    simp

/-- SAFE_IN_CFG and SAFE_OUT_CFG stand apart from the state registers. -/
theorem settle_cfg (s : Dev) (n : Nat) :
    s.settle.rd (SAFE_IN_CFG n) = s.rd (SAFE_IN_CFG n) ∧ s.settle.rd (SAFE_OUT_CFG n) = s.rd (SAFE_OUT_CFG n) := by
  constructor <;> apply settle_rd <;> simp [SAFE_IN_CFG, SAFE_OUT_CFG, SAFE_OUT_STAT, SAFE_STAT] <;> omega

/-- Canopy's switches after settling are those of the settled state. -/
theorem settle_canopyEn (s : Dev) (k : Nat) : s.settle.canopyEn k = s.copyLatches.canopyEn k := by
  unfold Dev.canopyEn Dev.sout
  simp only [settle_safe]

theorem settle_permit (s : Dev) (k : Nat) : s.settle.permit k = s.copyLatches.permit k := by
  have e1 : ∀ i, s.settle.inKind i = s.copyLatches.inKind i := fun i =>
    fld_of_rd _ _ _ _ _ (by rw [(settle_cfg s i).1, copyLatches_rd])
  have e2 : s.settle.outMask k = s.copyLatches.outMask k := fld_of_rd _ _ _ _ _ (by rw [(settle_cfg s k).2, copyLatches_rd])
  unfold Dev.permit Dev.ustTest Dev.ustRest Dev.schan
  simp only [settle_safe, e1, e2]

/-- SAFE_OUT_STAT shows enables and permits (R362). -/
theorem settle_out_stat (s : Dev) :
    s.settle.rd SAFE_OUT_STAT = BitVec.ofNat 32 (outMaskOf s.settle.canopyEn + 4096 * outMaskOf s.settle.permit) := by
  have h1 : s.settle.canopyEn = s.copyLatches.canopyEn := funext (settle_canopyEn s)
  have h2 : s.settle.permit = s.copyLatches.permit := funext (settle_permit s)
  rw [h1, h2]
  unfold Dev.settle
  dsimp only
  rw [rd_setBit_ne _ _ _ _ _ (by decide), rd_setBit_ne _ _ _ _ _ (by decide), rd_setBit_ne _ _ _ _ _ (by decide),
    rd_setBit_ne _ _ _ _ _ (by decide), rd_wrN_same]

/-- The end of a meaning answers the settled device under the same queue. -/
theorem done_eq (s : State) (d : Dev) : done s d = .next { s with toDev := d.settle } := rfl

end Sys2Proof.Machine
end

