-- ==== Sys2Proof/Laws/CoreFrame.lean ====
section
/-! SUPPORT. What leaves the fuses and the safety logic as they are: every operation but those that burn fuses and those of the safety logic and of resets. -/

namespace Sys2Proof.Machine

set_option linter.unusedSimpArgs false
set_option linter.unusedTactic false
set_option linter.unreachableTactic false

/-- Owner fuses (keys, enrolled, revoked) and rollback fuses (R418, R419, R423). -/
def Dev.fuses (d : Dev) : List (List Byte × List Byte) × Nat × Nat × List Nat :=
  (d.glade.owner, d.glade.enrolled, d.glade.revoked, d.glade.rb)

/-- The fuses and the safety logic. -/
def Dev.core (d : Dev) : (List (List Byte × List Byte) × Nat × Nat × List Nat) × SafeSt := (d.fuses, d.safe)

theorem core_mk (r : List (Nat × Word)) (x0 : SeqSt) (x1 : ClkSt) (x2 : LoopSt) (x3 : ProfSt) (x4 : EstSt) (x5 : AllocSt) (x6 : GroveSt) (x7 : GnssSt) (x8 : AcqSt) (x9 : CanSt) (x10 : NetSt) (x11 : LogSt) (x12 : HostSt) (x13 : SafeSt) (x14 : StandSt) (x15 : ThktSt) (x16 : BlzSt) (x17 : GladeSt) (x18 : RstSt) :
    (Dev.mk r x0 x1 x2 x3 x4 x5 x6 x7 x8 x9 x10 x11 x12 x13 x14 x15 x16 x17 x18).core = ((x17.owner, x17.enrolled, x17.revoked, x17.rb), x13) := (rfl)
theorem wr_core (s : Dev) (a : Nat) (v : Word) : (s.wr a v).core = s.core := (rfl)
theorem wrN_core (s : Dev) (a v : Nat) : (s.wrN a v).core = s.core := (rfl)
theorem setFld_core (s : Dev) (a hi lo v : Nat) : (s.setFld a hi lo v).core = s.core := (rfl)
theorem setBit_core (s : Dev) (a i : Nat) (b : Bool) : (s.setBit a i b).core = s.core := (rfl)
theorem wrPbv_core (s : Dev) (a : Nat) (x : Rat) : (s.wrPbv a x).core = s.core := (rfl)
theorem cntSat_core (s : Dev) (a hi lo k : Nat) : (s.cntSat a hi lo k).core = s.core := (rfl)
theorem cntWrap_core (s : Dev) (a hi lo k : Nat) : (s.cntWrap a hi lo k).core = s.core := (rfl)
theorem orMask_core (s : Dev) (a m : Nat) : (s.orMask a m).core = s.core := (rfl)
theorem clrMask_core (s : Dev) (a m : Nat) : (s.clrMask a m).core = s.core := (rfl)
theorem raise_core (s : Dev) (n : Nat) : (s.raise n).core = s.core := (rfl)
theorem evW_core (s : Dev) (c : Nat) (p q : Word) : (s.evW c p q).core = s.core := (rfl)
theorem ev_core (s : Dev) (c p q : Nat) : (s.ev c p q).core = s.core := (rfl)
theorem evI_core (s : Dev) (c p : Nat) (q : Int) : (s.evI c p q).core = s.core := (rfl)
theorem spend_core (s : Dev) : (s.spend).core = s.core := (rfl)
theorem setLctx_core (s : Dev) (n : Nat) (f : LoopCtx → LoopCtx) : (s.setLctx n f).core = s.core := (rfl)
theorem setGen_core (s : Dev) (n : Nat) (f : GenSt → GenSt) : (s.setGen n f).core = s.core := (rfl)
theorem setChain_core (s : Dev) (n : Nat) (f : ChainSt → ChainSt) : (s.setChain n f).core = s.core := (rfl)
theorem setLane_core (s : Dev) (n : Nat) (f : LaneSt → LaneSt) : (s.setLane n f).core = s.core := (rfl)
theorem setCanc_core (s : Dev) (n : Nat) (f : CanCtl → CanCtl) : (s.setCanc n f).core = s.core := (rfl)
theorem store_core (s : Dev) (a : Nat) (v : Word) : (s.store a v).core = s.core := by
  unfold Dev.store; split <;> rfl
theorem each_core {α : Type} (s : Dev) (xs : List α) (f : Dev → α → Dev) (h : ∀ d x, (f d x).core = d.core) :
    (s.each xs f).core = s.core := each_keeps Dev.core f h xs s
theorem ite_core (c : Prop) [Decidable c] (a b : Dev) :
    (if c then a else b).core = if c then a.core else b.core := apply_ite _ _ _ _

theorem core_fold (d : Dev) :
    (((d.glade.owner, d.glade.enrolled, d.glade.revoked, d.glade.rb), d.safe) : (List (List Byte × List Byte) × Nat × Nat × List Nat) × SafeSt) = d.core := (rfl)
theorem wrExact_core (s : Dev) (a : Nat) (x : Rat) :
    (s.wrExact a x).core = s.core := by
  unfold Dev.wrExact
  simp only [↓wr_core]
theorem sessUse_core (s : Dev) :
    (s.sessUse).core = s.core := by
  unfold Dev.sessUse
  simp only [↓core_mk, core_fold]
theorem byGlade_core (s : Dev) (f : Dev → Dev) (h : (f s).core = s.core) : (s.byGlade f).core = s.core := by
  unfold Dev.byGlade; split
  · rfl
  · exact h
theorem setPair_core (s : Dev) (p : Nat) (f : PairSt → PairSt) :
    (s.setPair p f).core = s.core := by
  unfold Dev.setPair
  simp only [↓core_mk, core_fold]
theorem writeback_core (s : Dev) (p : Nat) :
    (s.writeback p).core = s.core := by
  unfold Dev.writeback
  simp only [↓spend_core, ↓core_mk, core_fold, ↓setPair_core]
theorem report_core (s : Dev) (p cls content : Nat) (body : List Byte) :
    (s.report p cls content body).core = s.core := by
  unfold Dev.report
  simp only [↓setFld_core, ↓cntWrap_core, ↓raise_core, ↓evW_core, ↓spend_core, ↓core_mk, core_fold, ↓ite_core, ite_self, ↓setPair_core, ↓writeback_core]
theorem reportRouted_core (s : Dev) (cls content : Nat) (body : List Byte) :
    (s.reportRouted cls content body).core = s.core := by
  unfold Dev.reportRouted
  first | (simp only [↓core_mk, core_fold, ↓report_core]; done) | ((try simp only [↓core_mk, core_fold, ↓report_core]) <;> (repeat' split) <;> (try simp only [↓core_mk, core_fold, ↓report_core]))
theorem endCount_core (s : Dev) (p k : Nat) :
    (s.endCount p k).core = s.core := by
  unfold Dev.endCount
  simp only [↓setFld_core, ↓cntWrap_core, ↓ite_core, ite_self]
theorem endDesc_core (s : Dev) (p status : Nat) :
    (s.endDesc p status).core = s.core := by
  unfold Dev.endDesc
  simp only [↓ev_core, ↓ite_core, ite_self, ↓endCount_core]
theorem complete_core (s : Dev) (p typ idx status tag detail : Nat) :
    (s.complete p typ idx status tag detail).core = s.core := by
  unfold Dev.complete
  simp only [↓spend_core, ↓endDesc_core, ↓report_core]
theorem setCtxState_core (s : Dev) (c st : Nat) :
    (s.setCtxState c st).core = s.core := by
  unfold Dev.setCtxState
  simp only [↓setFld_core]
theorem setMiss_core (s : Dev) (c n : Nat) :
    (s.setMiss c n).core = s.core := by
  unfold Dev.setMiss
  simp only [↓setFld_core, ↓setLctx_core, ↓core_mk, core_fold]
theorem toClearing_core (s : Dev) (c : Nat) :
    (s.toClearing c).core = s.core := by
  unfold Dev.toClearing
  simp only [↓wr_core, ↓setFld_core, ↓setCtxState_core]
theorem toRun_core (s : Dev) (c : Nat) :
    (s.toRun c).core = s.core := by
  unfold Dev.toRun
  simp only [↓wr_core, ↓setBit_core, ↓setLctx_core, ↓setGen_core, ↓core_mk, core_fold, ↓setCtxState_core]
theorem markFault_core (s : Dev) (c cause : Nat) :
    (s.markFault c cause).core = s.core := by
  unfold Dev.markFault
  simp only [↓orMask_core, ↓raise_core]
theorem rampStep_core (s : Dev) (c : Nat) :
    (s.rampStep c).core = s.core := by
  unfold Dev.rampStep
  simp only [↓wrPbv_core, ↓ite_core, ite_self, ↓toClearing_core]
theorem faultAction_core (s : Dev) (c top : Nat) :
    (s.faultAction c top).core = s.core := by
  unfold Dev.faultAction
  simp only [↓setFld_core, ↓ite_core, ite_self, ↓rampStep_core, ↓setCtxState_core, ↓toClearing_core]
theorem takeFaults_core (s : Dev) (c : Nat) (causes : List (Nat × Nat × Nat)) :
    (s.takeFaults c causes).core = s.core := by
  unfold Dev.takeFaults
  first | (simp (disch := (intros; (try simp only [↓ev_core, ↓core_mk, core_fold, ↓faultAction_core, ↓markFault_core]) <;> (repeat' split) <;> (try simp only [↓ev_core, ↓core_mk, core_fold, ↓faultAction_core, ↓markFault_core]))) only [↓ev_core, ↓core_mk, core_fold, ↓faultAction_core, ↓markFault_core, each_core]; done) | ((try simp (disch := (intros; (try simp only [↓ev_core, ↓core_mk, core_fold, ↓faultAction_core, ↓markFault_core]) <;> (repeat' split) <;> (try simp only [↓ev_core, ↓core_mk, core_fold, ↓faultAction_core, ↓markFault_core]))) only [↓ev_core, ↓core_mk, core_fold, ↓faultAction_core, ↓markFault_core, each_core]) <;> (repeat' split) <;> (try simp (disch := (intros; (try simp only [↓ev_core, ↓core_mk, core_fold, ↓faultAction_core, ↓markFault_core]) <;> (repeat' split) <;> (try simp only [↓ev_core, ↓core_mk, core_fold, ↓faultAction_core, ↓markFault_core]))) only [↓ev_core, ↓core_mk, core_fold, ↓faultAction_core, ↓markFault_core, each_core]))
theorem engFault_core (s : Dev) :
    (s.engFault).core = s.core := by
  unfold Dev.engFault
  simp (disch := (intros; (try simp only [↓setFld_core, ↓setBit_core, ↓ev_core, ↓ite_core, ite_self, ↓markFault_core, ↓toClearing_core]) <;> (try (split <;> simp only [↓setFld_core, ↓setBit_core, ↓ev_core, ↓ite_core, ite_self, ↓markFault_core, ↓toClearing_core])))) only [↓setFld_core, ↓setBit_core, ↓ev_core, ↓ite_core, ite_self, ↓markFault_core, ↓toClearing_core, each_core]
theorem countMismatch_core (s : Dev) (c stage : Nat) :
    (s.countMismatch c stage).core = s.core := by
  unfold Dev.countMismatch
  simp only [↓setBit_core, ↓cntSat_core, ↓ev_core, ↓setLctx_core, ↓core_mk, core_fold]
theorem checkEngFault_core (s : Dev) :
    (s.checkEngFault).core = s.core := by
  unfold Dev.checkEngFault
  simp only [↓ite_core, ite_self, ↓engFault_core]
theorem evalDone_core (s : Dev) (c : Nat) (sp : Rat) (o : EvalOut) :
    (s.evalDone c sp o).core = s.core := by
  unfold Dev.evalDone
  simp only [↓setBit_core, ↓wrPbv_core, ↓setLctx_core, ↓core_mk, core_fold, ↓setMiss_core, ↓wrExact_core]
theorem evaluateRun_core (s : Dev) (snap : OutSnap) (i : TickIn) (c : Nat) :
    (s.evaluateRun snap i c).core = s.core := by
  unfold Dev.evaluateRun
  first | (simp only [↓setLctx_core, ↓core_mk, core_fold, ↓ite_core, ite_self, ↓checkEngFault_core, ↓countMismatch_core, ↓evalDone_core, ↓takeFaults_core]; done) | ((try simp only [↓setLctx_core, ↓core_mk, core_fold, ↓ite_core, ite_self, ↓checkEngFault_core, ↓countMismatch_core, ↓evalDone_core, ↓takeFaults_core]) <;> (repeat' split) <;> (try simp only [↓setLctx_core, ↓core_mk, core_fold, ↓ite_core, ite_self, ↓checkEngFault_core, ↓countMismatch_core, ↓evalDone_core, ↓takeFaults_core]))
theorem heldDone_core (s : Dev) (c : Nat) :
    (s.heldDone c).core = s.core := by
  unfold Dev.heldDone
  simp only [↓setBit_core, ↓setLctx_core, ↓core_mk, core_fold, ↓setMiss_core]
theorem evaluateHeld_core (s : Dev) (i : TickIn) (c : Nat) :
    (s.evaluateHeld i c).core = s.core := by
  unfold Dev.evaluateHeld
  first | (simp only [↓setFld_core, ↓core_mk, core_fold, ↓ite_core, ite_self, ↓checkEngFault_core, ↓countMismatch_core, ↓heldDone_core, ↓rampStep_core, ↓takeFaults_core, ↓toClearing_core]; done) | ((try simp only [↓setFld_core, ↓core_mk, core_fold, ↓ite_core, ite_self, ↓checkEngFault_core, ↓countMismatch_core, ↓heldDone_core, ↓rampStep_core, ↓takeFaults_core, ↓toClearing_core]) <;> (repeat' split) <;> (try simp only [↓setFld_core, ↓core_mk, core_fold, ↓ite_core, ite_self, ↓checkEngFault_core, ↓countMismatch_core, ↓heldDone_core, ↓rampStep_core, ↓takeFaults_core, ↓toClearing_core]))
theorem cmdResult_core (s : Dev) (c op r : Nat) :
    (s.cmdResult c op r).core = s.core := by
  unfold Dev.cmdResult
  simp only [↓setFld_core, ↓setBit_core, ↓ev_core, ↓core_mk, core_fold, ↓ite_core, ite_self]
theorem settleCmd_core (s : Dev) (snap : OutSnap) (n : Nat) :
    (s.settleCmd snap n).core = s.core := by
  unfold Dev.settleCmd
  first | (simp only [↓ev_core, ↓core_mk, core_fold, ↓ite_core, ite_self, ↓cmdResult_core, ↓toRun_core]; done) | ((try simp only [↓ev_core, ↓core_mk, core_fold, ↓ite_core, ite_self, ↓cmdResult_core, ↓toRun_core]) <;> (repeat' split) <;> (try simp only [↓ev_core, ↓core_mk, core_fold, ↓ite_core, ite_self, ↓cmdResult_core, ↓toRun_core]))
theorem evaluate_core (s : Dev) (snap : OutSnap) (i : TickIn) (c : Nat) :
    (s.evaluate snap i c).core = s.core := by
  unfold Dev.evaluate
  first | (simp only [↓setLctx_core, ↓core_mk, core_fold, ↓ite_core, ite_self, ↓cmdResult_core, ↓evaluateHeld_core, ↓evaluateRun_core, ↓takeFaults_core]; done) | ((try simp only [↓setLctx_core, ↓core_mk, core_fold, ↓ite_core, ite_self, ↓cmdResult_core, ↓evaluateHeld_core, ↓evaluateRun_core, ↓takeFaults_core]) <;> (repeat' split) <;> (try simp only [↓setLctx_core, ↓core_mk, core_fold, ↓ite_core, ite_self, ↓cmdResult_core, ↓evaluateHeld_core, ↓evaluateRun_core, ↓takeFaults_core]))
theorem miss_core (s : Dev) (c : Nat) :
    (s.miss c).core = s.core := by
  unfold Dev.miss
  simp only [↓setLctx_core, ↓core_mk, core_fold, ↓ite_core, ite_self, ↓setMiss_core, ↓takeFaults_core]
theorem showValid_core (s : Dev) (snap : OutSnap) (c : Nat) :
    (s.showValid snap c).core = s.core := by
  unfold Dev.showValid
  simp only [↓setBit_core, ↓ite_core, ite_self]
theorem loopEcc_core (s : Dev) (i : TickIn) :
    (s.loopEcc i).core = s.core := by
  unfold Dev.loopEcc
  simp (disch := (intros; (try simp only [↓cntSat_core, ↓ev_core]) <;> (try (split <;> simp only [↓cntSat_core, ↓ev_core])))) only [↓cntSat_core, ↓ev_core, each_core]
theorem loopP2_core (s : Dev) (i : TickIn) (n : Nat) :
    (s.loopP2 i n).core = s.core := by
  unfold Dev.loopP2
  simp (disch := (intros; simp (disch := (intros; (try simp only [↓ite_core, ite_self, ↓evaluate_core, ↓loopEcc_core, ↓miss_core, ↓settleCmd_core, ↓showValid_core]) <;> (try (split <;> simp only [↓ite_core, ite_self, ↓evaluate_core, ↓loopEcc_core, ↓miss_core, ↓settleCmd_core, ↓showValid_core])))) only [↓ite_core, ite_self, ↓evaluate_core, ↓loopEcc_core, ↓miss_core, ↓settleCmd_core, ↓showValid_core, each_core])) only [↓ite_core, ite_self, ↓evaluate_core, ↓loopEcc_core, ↓miss_core, ↓settleCmd_core, ↓showValid_core, each_core]
theorem loopLeave_core (s : Dev) :
    (s.loopLeave).core = s.core := by
  unfold Dev.loopLeave
  simp (disch := (intros; (try simp only [↓setFld_core, ↓ite_core, ite_self, ↓markFault_core, ↓toClearing_core]) <;> (try (split <;> simp only [↓setFld_core, ↓ite_core, ite_self, ↓markFault_core, ↓toClearing_core])))) only [↓setFld_core, ↓ite_core, ite_self, ↓markFault_core, ↓toClearing_core, each_core]
theorem loopEnter_core (s : Dev) :
    (s.loopEnter).core = s.core := by
  unfold Dev.loopEnter
  simp (disch := (intros; (try simp only [↓ite_core, ite_self, ↓toRun_core]) <;> (try (split <;> simp only [↓ite_core, ite_self, ↓toRun_core])))) only [↓ite_core, ite_self, ↓toRun_core, each_core]
theorem loopCommand_core (s : Dev) (c op : Nat) (sessOk : Bool) :
    (s.loopCommand c op sessOk).core = s.core := by
  unfold Dev.loopCommand
  simp only [↓setFld_core, ↓setBit_core, ↓core_mk, core_fold]
theorem resumeCommand_core (s : Dev) (c : Nat) :
    (s.resumeCommand c).core = s.core := by
  unfold Dev.resumeCommand
  simp only [↓ite_core, ite_self, ↓loopCommand_core, ↓sessUse_core]
theorem setGState_core (s : Dev) (g st : Nat) :
    (s.setGState g st).core = s.core := by
  unfold Dev.setGState
  simp only [↓setFld_core]
theorem profEv_core (s : Dev) (g k : Nat) (p2 : Word) :
    (s.profEv g k p2).core = s.core := by
  unfold Dev.profEv
  simp only [↓orMask_core, ↓evW_core]
theorem showGen_core (s : Dev) (g : Nat) :
    (s.showGen g).core = s.core := by
  unfold Dev.showGen
  simp only [↓wrPbv_core, ↓ite_core, ite_self]
theorem setTarget_core (s : Dev) (g : Nat) (raw : Int) :
    (s.setTarget g raw).core = s.core := by
  unfold Dev.setTarget
  simp only [↓setBit_core, ↓setGen_core, ↓core_mk, core_fold, ↓ite_core, ite_self, ↓profEv_core]
theorem takeSample_core (s : Dev) (g : Nat) (v : Int) (age : Nat) :
    (s.takeSample g v age).1.core = s.core := by
  unfold Dev.takeSample
  first | (simp only [↓setBit_core, ↓setGen_core, ↓core_mk, core_fold, ↓ite_core, ite_self, ↓profEv_core]; done) | ((try simp only [↓setBit_core, ↓setGen_core, ↓core_mk, core_fold, ↓ite_core, ite_self, ↓profEv_core]) <;> (repeat' split) <;> (try simp only [↓setBit_core, ↓setGen_core, ↓core_mk, core_fold, ↓ite_core, ite_self, ↓profEv_core]))
theorem sampleStep_core (s : Dev) (g : Nat) :
    (s.sampleStep g).1.core = s.core := by
  unfold Dev.sampleStep
  first | (simp only [↓core_mk, core_fold, ↓ite_core, ite_self, ↓takeSample_core]; done) | ((try simp only [↓core_mk, core_fold, ↓ite_core, ite_self, ↓takeSample_core]) <;> (repeat' split) <;> (try simp only [↓core_mk, core_fold, ↓ite_core, ite_self, ↓takeSample_core]))
theorem trackStep_core (s : Dev) (g : Nat) :
    (s.trackStep g).core = s.core := by
  unfold Dev.trackStep
  first | (simp only [↓setBit_core, ↓clrMask_core, ↓setGen_core, ↓core_mk, core_fold, ↓setGState_core]; done) | ((try simp only [↓setBit_core, ↓clrMask_core, ↓setGen_core, ↓core_mk, core_fold, ↓setGState_core]) <;> (repeat' split) <;> (try simp only [↓setBit_core, ↓clrMask_core, ↓setGen_core, ↓core_mk, core_fold, ↓setGState_core]))
theorem analogueSource_core (s : Dev) (g : Nat) :
    (s.analogueSource g).core = s.core := by
  unfold Dev.analogueSource
  first | (simp only [↓setBit_core, ↓ite_core, ite_self, ↓profEv_core, ↓sampleStep_core, ↓setGState_core, ↓setTarget_core]; done) | ((try simp only [↓setBit_core, ↓ite_core, ite_self, ↓profEv_core, ↓sampleStep_core, ↓setGState_core, ↓setTarget_core]) <;> (repeat' split) <;> (try simp only [↓setBit_core, ↓ite_core, ite_self, ↓profEv_core, ↓sampleStep_core, ↓setGState_core, ↓setTarget_core]))
theorem leverSource_core (s : Dev) (g : Nat) :
    (s.leverSource g).core = s.core := by
  unfold Dev.leverSource
  first | (simp only [↓setBit_core, ↓ite_core, ite_self, ↓profEv_core, ↓sampleStep_core, ↓setGState_core, ↓setTarget_core]; done) | ((try simp only [↓setBit_core, ↓ite_core, ite_self, ↓profEv_core, ↓sampleStep_core, ↓setGState_core, ↓setTarget_core]) <;> (repeat' split) <;> (try simp only [↓setBit_core, ↓ite_core, ite_self, ↓profEv_core, ↓sampleStep_core, ↓setGState_core, ↓setTarget_core]))
theorem moveStep_core (s : Dev) (g : Nat) (vd vmax amax jmax : Int) :
    (s.moveStep g vd vmax amax jmax).core = s.core := by
  unfold Dev.moveStep
  first | (simp only [↓setBit_core, ↓setGen_core, ↓core_mk, core_fold, ↓ite_core, ite_self, ↓profEv_core]; done) | ((try simp only [↓setBit_core, ↓setGen_core, ↓core_mk, core_fold, ↓ite_core, ite_self, ↓profEv_core]) <;> (repeat' split) <;> (try simp only [↓setBit_core, ↓setGen_core, ↓core_mk, core_fold, ↓ite_core, ite_self, ↓profEv_core]))
theorem runStep_core (s : Dev) (g : Nat) :
    (s.runStep g).core = s.core := by
  unfold Dev.runStep
  simp only [↓setBit_core, ↓setGen_core, ↓core_mk, core_fold, ↓ite_core, ite_self, ↓moveStep_core, ↓setGState_core]
theorem takeLims_core (s : Dev) (g : Nat) :
    (s.takeLims g).core = s.core := by
  unfold Dev.takeLims
  simp only [↓setBit_core, ↓setGen_core, ↓core_mk, core_fold, ↓ite_core, ite_self]
theorem genEntry_core (s : Dev) (g : Nat) :
    (s.genEntry g).core = s.core := by
  unfold Dev.genEntry
  simp only [↓setGen_core, ↓core_mk, core_fold, ↓ite_core, ite_self, ↓setGState_core]
theorem genSource_core (s : Dev) (g : Nat) :
    (s.genSource g).core = s.core := by
  unfold Dev.genSource
  first | (simp only [↓setBit_core, ↓setGen_core, ↓core_mk, core_fold, ↓ite_core, ite_self, ↓analogueSource_core, ↓leverSource_core, ↓sampleStep_core, ↓setTarget_core]; done) | ((try simp only [↓setBit_core, ↓setGen_core, ↓core_mk, core_fold, ↓ite_core, ite_self, ↓analogueSource_core, ↓leverSource_core, ↓sampleStep_core, ↓setTarget_core]) <;> (repeat' split) <;> (try simp only [↓setBit_core, ↓setGen_core, ↓core_mk, core_fold, ↓ite_core, ite_self, ↓analogueSource_core, ↓leverSource_core, ↓sampleStep_core, ↓setTarget_core]))
theorem genStep_core (s : Dev) (i : TickIn) (g : Nat) :
    (s.genStep i g).core = s.core := by
  unfold Dev.genStep
  first | (simp only [↓setBit_core, ↓cntSat_core, ↓setGen_core, ↓core_mk, core_fold, ↓ite_core, ite_self, ↓genEntry_core, ↓genSource_core, ↓profEv_core, ↓runStep_core, ↓setGState_core, ↓showGen_core, ↓takeLims_core, ↓trackStep_core]; done) | ((try simp only [↓setBit_core, ↓cntSat_core, ↓setGen_core, ↓core_mk, core_fold, ↓ite_core, ite_self, ↓genEntry_core, ↓genSource_core, ↓profEv_core, ↓runStep_core, ↓setGState_core, ↓showGen_core, ↓takeLims_core, ↓trackStep_core]) <;> (repeat' split) <;> (try simp only [↓setBit_core, ↓cntSat_core, ↓setGen_core, ↓core_mk, core_fold, ↓ite_core, ite_self, ↓genEntry_core, ↓genSource_core, ↓profEv_core, ↓runStep_core, ↓setGState_core, ↓showGen_core, ↓takeLims_core, ↓trackStep_core]))
theorem loadShared_core (s : Dev) (g : Nat) :
    (s.loadShared g).core = s.core := by
  unfold Dev.loadShared
  first | (simp only [↓setBit_core, ↓setGen_core, ↓core_mk, core_fold, ↓setGState_core, ↓showGen_core]; done) | ((try simp only [↓setBit_core, ↓setGen_core, ↓core_mk, core_fold, ↓setGState_core, ↓showGen_core]) <;> (repeat' split) <;> (try simp only [↓setBit_core, ↓setGen_core, ↓core_mk, core_fold, ↓setGState_core, ↓showGen_core]))
theorem profP1_core (s : Dev) (i : TickIn) (n : Nat) :
    (s.profP1 i n).core = s.core := by
  unfold Dev.profP1
  simp (disch := (intros; simp (disch := (intros; (try simp only [↓ite_core, ite_self, ↓genStep_core, ↓loadShared_core]) <;> (try (split <;> simp only [↓ite_core, ite_self, ↓genStep_core, ↓loadShared_core])))) only [↓ite_core, ite_self, ↓genStep_core, ↓loadShared_core, each_core])) only [↓ite_core, ite_self, ↓genStep_core, ↓loadShared_core, each_core]
theorem profP0_core (s : Dev) :
    (s.profP0).core = s.core := by
  unfold Dev.profP0
  first | (simp (disch := (intros; (try simp only [↓wr_core, ↓setGen_core, ↓core_mk, core_fold, ↓ite_core, ite_self]) <;> (repeat' split) <;> (try simp only [↓wr_core, ↓setGen_core, ↓core_mk, core_fold, ↓ite_core, ite_self]))) only [↓wr_core, ↓setGen_core, ↓core_mk, core_fold, ↓ite_core, ite_self, each_core]; done) | ((try simp (disch := (intros; (try simp only [↓wr_core, ↓setGen_core, ↓core_mk, core_fold, ↓ite_core, ite_self]) <;> (repeat' split) <;> (try simp only [↓wr_core, ↓setGen_core, ↓core_mk, core_fold, ↓ite_core, ite_self]))) only [↓wr_core, ↓setGen_core, ↓core_mk, core_fold, ↓ite_core, ite_self, each_core]) <;> (repeat' split) <;> (try simp (disch := (intros; (try simp only [↓wr_core, ↓setGen_core, ↓core_mk, core_fold, ↓ite_core, ite_self]) <;> (repeat' split) <;> (try simp only [↓wr_core, ↓setGen_core, ↓core_mk, core_fold, ↓ite_core, ite_self]))) only [↓wr_core, ↓setGen_core, ↓core_mk, core_fold, ↓ite_core, ite_self, each_core]))
theorem axesEnter_core (s : Dev) :
    (s.axesEnter).core = s.core := by
  unfold Dev.axesEnter
  simp (disch := (intros; (try simp only [↓setGen_core, ↓core_mk, core_fold]) <;> (try (split <;> simp only [↓setGen_core, ↓core_mk, core_fold])))) only [↓setGen_core, ↓core_mk, core_fold, each_core]
theorem laneCorr_core (s : Dev) (l : Nat) (corr : List Nat) :
    (s.laneCorr l corr).core = s.core := by
  unfold Dev.laneCorr
  simp (disch := (intros; (try simp only [↓cntSat_core, ↓ev_core]) <;> (try (split <;> simp only [↓cntSat_core, ↓ev_core])))) only [↓cntSat_core, ↓ev_core, each_core]
theorem recount_core (s : Dev) :
    (s.recount).core = s.core := by
  unfold Dev.recount
  simp only [↓setFld_core]
theorem slotOut_core (s : Dev) (l : Nat) :
    (s.slotOut l).core = s.core := by
  unfold Dev.slotOut
  first | (simp only [↓setBit_core, ↓core_mk, core_fold]; done) | ((try simp only [↓setBit_core, ↓core_mk, core_fold]) <;> (repeat' split) <;> (try simp only [↓setBit_core, ↓core_mk, core_fold]))
theorem laneLoad_core (s : Dev) (l method : Nat) (accum : Bool) (n m : Nat) :
    (s.laneLoad l method accum n m).core = s.core := by
  unfold Dev.laneLoad
  simp only [↓wrN_core, ↓setFld_core, ↓setBit_core, ↓setLane_core, ↓core_mk, core_fold]
theorem groveRefuse_core (s : Dev) :
    (s.groveRefuse).core = s.core := by
  unfold Dev.groveRefuse
  simp only [↓cntSat_core]
theorem groveLoadOp_core (s : Dev) (l method : Nat) (accum : Bool) (n m : Nat) :
    (s.groveLoadOp l method accum n m).1.core = s.core := by
  unfold Dev.groveLoadOp
  first | (simp only [↓ite_core, ite_self, ↓groveRefuse_core, ↓laneLoad_core]; done) | ((try simp only [↓ite_core, ite_self, ↓groveRefuse_core, ↓laneLoad_core]) <;> (repeat' split) <;> (try simp only [↓ite_core, ite_self, ↓groveRefuse_core, ↓laneLoad_core]))
theorem applyEntry_core (s : Dev) (l : Nat) (e : GroveEntryIn) :
    (s.applyEntry l e).core = s.core := by
  unfold Dev.applyEntry
  simp only [↓setLane_core, ↓core_mk, core_fold, ↓ite_core, ite_self]
theorem groveEntryOp_core (s : Dev) (l : Nat) (e : GroveEntryIn) :
    (s.groveEntryOp l e).1.core = s.core := by
  unfold Dev.groveEntryOp
  first | (simp only [↓setFld_core, ↓setLane_core, ↓core_mk, core_fold, ↓ite_core, ite_self, ↓applyEntry_core, ↓groveRefuse_core]; done) | ((try simp only [↓setFld_core, ↓setLane_core, ↓core_mk, core_fold, ↓ite_core, ite_self, ↓applyEntry_core, ↓groveRefuse_core]) <;> (repeat' split) <;> (try simp only [↓setFld_core, ↓setLane_core, ↓core_mk, core_fold, ↓ite_core, ite_self, ↓applyEntry_core, ↓groveRefuse_core]))
theorem retire_core (s : Dev) (l why : Nat) :
    (s.retire l why).core = s.core := by
  unfold Dev.retire
  simp only [↓setFld_core, ↓setBit_core, ↓raise_core, ↓ev_core, ↓setLane_core, ↓core_mk, core_fold, ↓recount_core]
theorem countInvalid_core (s : Dev) (l code : Nat) :
    (s.countInvalid l code).core = s.core := by
  unfold Dev.countInvalid
  simp only [↓cntSat_core, ↓ev_core, ↓ite_core, ite_self]
theorem hostRecord_core (s : Dev) (l code iter cycles : Nat) (out : Option SolveOut) :
    (s.hostRecord l code iter cycles out).core = s.core := by
  unfold Dev.hostRecord
  first | (simp only [↓spend_core, ↓setLane_core, ↓core_mk, core_fold, ↓endDesc_core]; done) | ((try simp only [↓spend_core, ↓setLane_core, ↓core_mk, core_fold, ↓endDesc_core]) <;> (repeat' split) <;> (try simp only [↓spend_core, ↓setLane_core, ↓core_mk, core_fold, ↓endDesc_core]))
theorem laneStop_core (s : Dev) (l code iter cycles : Nat) (out : Option SolveOut) :
    (s.laneStop l code iter cycles out).core = s.core := by
  unfold Dev.laneStop
  simp only [↓wrN_core, ↓setFld_core, ↓setBit_core, ↓cntSat_core, ↓ev_core, ↓setLane_core, ↓core_mk, core_fold, ↓ite_core, ite_self, ↓countInvalid_core, ↓hostRecord_core, ↓retire_core]
theorem laneBreak_core (s : Dev) (l code : Nat) :
    (s.laneBreak l code).core = s.core := by
  unfold Dev.laneBreak
  simp only [↓spend_core, ↓laneStop_core]
theorem groveStart_core (s : Dev) (l : Nat) (final : Bool) (amb : Nat) :
    (s.groveStart l final amb).1.core = s.core := by
  unfold Dev.groveStart
  first | (simp only [↓setFld_core, ↓setLane_core, ↓core_mk, core_fold, ↓ite_core, ite_self, ↓countInvalid_core, ↓groveRefuse_core, ↓laneBreak_core]; done) | ((try simp only [↓setFld_core, ↓setLane_core, ↓core_mk, core_fold, ↓ite_core, ite_self, ↓countInvalid_core, ↓groveRefuse_core, ↓laneBreak_core]) <;> (repeat' split) <;> (try simp only [↓setFld_core, ↓setLane_core, ↓core_mk, core_fold, ↓ite_core, ite_self, ↓countInvalid_core, ↓groveRefuse_core, ↓laneBreak_core]))
theorem producerSend_core (s : Dev) (l method : Nat) (accum : Bool) (n m iterMax : Nat) (p : Problem) :
    (s.producerSend l method accum n m iterMax p).core = s.core := by
  unfold Dev.producerSend
  simp only [↓setLane_core, ↓core_mk, core_fold, ↓ite_core, ite_self, ↓groveLoadOp_core]
theorem noLane_core (s : Dev) :
    (s.noLane).core = s.core := by
  unfold Dev.noLane
  simp only [↓cntSat_core, ↓ev_core]
theorem roleRelease_core (s : Dev) (role method : Nat) (accum : Bool) (n m iterMax : Nat) (p : Problem) (final : Bool) (amb : Nat) :
    (s.roleRelease role method accum n m iterMax p final amb).core = s.core := by
  unfold Dev.roleRelease
  first | (simp only [↓core_mk, core_fold, ↓groveStart_core, ↓noLane_core, ↓producerSend_core]; done) | ((try simp only [↓core_mk, core_fold, ↓groveStart_core, ↓noLane_core, ↓producerSend_core]) <;> (repeat' split) <;> (try simp only [↓core_mk, core_fold, ↓groveStart_core, ↓noLane_core, ↓producerSend_core]))
theorem groveAbort_core (s : Dev) :
    (s.groveAbort).core = s.core := by
  unfold Dev.groveAbort
  simp (disch := (intros; (try simp only [↓setLane_core, ↓core_mk, core_fold, ↓ite_core, ite_self, ↓laneBreak_core]) <;> (try (split <;> simp only [↓setLane_core, ↓core_mk, core_fold, ↓ite_core, ite_self, ↓laneBreak_core])))) only [↓setLane_core, ↓core_mk, core_fold, ↓ite_core, ite_self, ↓laneBreak_core, each_core]
theorem lateLanes_core (s : Dev) :
    (s.lateLanes).core = s.core := by
  unfold Dev.lateLanes
  simp (disch := (intros; (try simp only [↓setLane_core, ↓core_mk, core_fold, ↓ite_core, ite_self, ↓laneBreak_core]) <;> (try (split <;> simp only [↓setLane_core, ↓core_mk, core_fold, ↓ite_core, ite_self, ↓laneBreak_core])))) only [↓setLane_core, ↓core_mk, core_fold, ↓ite_core, ite_self, ↓laneBreak_core, each_core]
theorem moveRole_core (s : Dev) (mv : Nat × Nat) :
    (s.moveRole mv).core = s.core := by
  unfold Dev.moveRole
  first | (simp only [↓setFld_core, ↓ev_core, ↓setLane_core, ↓core_mk, core_fold, ↓ite_core, ite_self, ↓laneBreak_core, ↓recount_core, ↓slotOut_core]; done) | ((try simp only [↓setFld_core, ↓ev_core, ↓setLane_core, ↓core_mk, core_fold, ↓ite_core, ite_self, ↓laneBreak_core, ↓recount_core, ↓slotOut_core]) <;> (repeat' split) <;> (try simp only [↓setFld_core, ↓ev_core, ↓setLane_core, ↓core_mk, core_fold, ↓ite_core, ite_self, ↓laneBreak_core, ↓recount_core, ↓slotOut_core]))
theorem moveRoles_core (s : Dev) :
    (s.moveRoles).core = s.core := by
  unfold Dev.moveRoles
  simp (disch := (intros; (try simp only [↓core_mk, core_fold, ↓moveRole_core]) <;> (try (split <;> simp only [↓core_mk, core_fold, ↓moveRole_core])))) only [↓core_mk, core_fold, ↓moveRole_core, each_core]
theorem setEstState_core (s : Dev) (n : Nat) :
    (s.setEstState n).core = s.core := by
  unfold Dev.setEstState
  simp only [↓setFld_core, ↓raise_core, ↓ite_core, ite_self]
theorem propagate_core (s : Dev) :
    (s.propagate).core = s.core := by
  unfold Dev.propagate
  simp only [↓core_mk, core_fold, ↓ite_core, ite_self]
theorem selectSensors_core (s : Dev) :
    (s.selectSensors).core = s.core := by
  unfold Dev.selectSensors
  first | (simp only [↓core_mk, core_fold]; done) | ((try simp only [↓core_mk, core_fold]) <;> (repeat' split) <;> (try simp only [↓core_mk, core_fold]))
theorem setRef_core (s : Dev) (n : Nat) (f : RefSt → RefSt) :
    (s.setRef n f).core = s.core := by
  unfold Dev.setRef
  simp only [↓core_mk, core_fold]
theorem showRef_core (s : Dev) (n test : Nat) (ns : Int) :
    (s.showRef n test ns).core = s.core := by
  unfold Dev.showRef
  first | (simp only [↓setFld_core, ↓setBit_core, ↓core_mk, core_fold, ↓ite_core, ite_self]; done) | ((try simp only [↓setFld_core, ↓setBit_core, ↓core_mk, core_fold, ↓ite_core, ite_self]) <;> (repeat' split) <;> (try simp only [↓setFld_core, ↓setBit_core, ↓core_mk, core_fold, ↓ite_core, ite_self]))
theorem rejectRef_core (s : Dev) (n test : Nat) :
    (s.rejectRef n test).core = s.core := by
  unfold Dev.rejectRef
  simp only [↓cntSat_core, ↓ev_core, ↓core_mk, core_fold, ↓ite_core, ite_self, ↓setRef_core]
theorem passRef_core (s : Dev) (t : RefTest) :
    (s.passRef t).core = s.core := by
  unfold Dev.passRef
  simp only [↓ev_core, ↓core_mk, core_fold, ↓ite_core, ite_self, ↓setRef_core]
theorem judgeRef_core (s : Dev) (i : TickIn) (med : Option (Rat × Rat)) (t : RefTest) :
    (s.judgeRef i med t).core = s.core := by
  unfold Dev.judgeRef
  extract_lets r far innovOk test s1 f s3 s2
  rw [showRef_core]
  have h1 : s1.core = s.core := setRef_core _ _ _
  rw [← h1]
  have h3 : s3.core = s1.core := setRef_core _ _ _
  clear_value s3 s1 test f r far innovOk
  unfold s2
  split
  · exact passRef_core _ _
  · rfl
  · simp only [↓ite_core, ↓rejectRef_core, h3, ite_self]
  · exact rejectRef_core _ _ _
theorem acceptRefs_core (s : Dev) (i : TickIn) :
    (s.acceptRefs i).core = s.core := by
  unfold Dev.acceptRefs
  simp (disch := (intros; (try simp only [↓core_mk, core_fold, ↓ite_core, ite_self, ↓judgeRef_core]) <;> (try (split <;> simp only [↓core_mk, core_fold, ↓ite_core, ite_self, ↓judgeRef_core])))) only [↓core_mk, core_fold, ↓ite_core, ite_self, ↓judgeRef_core, each_core]
theorem dropSamples_core (s : Dev) :
    (s.dropSamples).core = s.core := by
  unfold Dev.dropSamples
  simp only [↓core_mk, core_fold]
theorem refsCommit_core (s : Dev) :
    (s.refsCommit).core = s.core := by
  unfold Dev.refsCommit
  simp (disch := (intros; (try simp only [↓wr_core, ↓core_mk, core_fold, ↓setRef_core]) <;> (try (split <;> simp only [↓wr_core, ↓core_mk, core_fold, ↓setRef_core])))) only [↓wr_core, ↓core_mk, core_fold, ↓setRef_core, each_core]
theorem refsReinit_core (s : Dev) :
    (s.refsReinit).core = s.core := by
  unfold Dev.refsReinit
  simp (disch := (intros; (try simp only [↓setFld_core, ↓setBit_core, ↓core_mk, core_fold, ↓ite_core, ite_self]) <;> (try (split <;> simp only [↓setFld_core, ↓setBit_core, ↓core_mk, core_fold, ↓ite_core, ite_self])))) only [↓setFld_core, ↓setBit_core, ↓core_mk, core_fold, ↓ite_core, ite_self, each_core]
theorem gyroTest_core (s : Dev) (b med : Rat) (k : Nat) :
    (s.gyroTest b med k).core = s.core := by
  unfold Dev.gyroTest
  simp only [↓ev_core, ↓core_mk, core_fold, ↓ite_core, ite_self]
theorem headingMedian_core (s : Dev) (fresh : List Nat) (vals : List Rat) :
    (s.headingMedian fresh vals).core = s.core := by
  unfold Dev.headingMedian
  simp (disch := (intros; (try simp only [↓core_mk, core_fold, ↓gyroTest_core]) <;> (try (split <;> simp only [↓core_mk, core_fold, ↓gyroTest_core])))) only [↓core_mk, core_fold, ↓gyroTest_core, each_core]
theorem headingPair_core (s : Dev) (fresh : List Nat) (vals : List Rat) :
    (s.headingPair fresh vals).core = s.core := by
  unfold Dev.headingPair
  simp only [↓ev_core, ↓core_mk, core_fold, ↓ite_core, ite_self]
theorem headingFlags_core (s : Dev) (n : Nat) :
    (s.headingFlags n).core = s.core := by
  unfold Dev.headingFlags
  simp only [↓setBit_core, ↓ev_core, ↓ite_core, ite_self]
theorem headingTest_core (s : Dev) :
    (s.headingTest).core = s.core := by
  unfold Dev.headingTest
  simp (disch := (intros; (try simp only [↓core_mk, core_fold, ↓ite_core, ite_self, ↓headingFlags_core, ↓headingMedian_core, ↓headingPair_core]) <;> (try (split <;> simp only [↓core_mk, core_fold, ↓ite_core, ite_self, ↓headingFlags_core, ↓headingMedian_core, ↓headingPair_core])))) only [↓core_mk, core_fold, ↓ite_core, ite_self, ↓headingFlags_core, ↓headingMedian_core, ↓headingPair_core, each_core]
theorem deadReckon_core (s : Dev) (entered : Bool) :
    (s.deadReckon entered).core = s.core := by
  unfold Dev.deadReckon
  simp only [↓setBit_core, ↓ev_core, ↓core_mk, core_fold, ↓ite_core, ite_self]
theorem applyBundle_core (s : Dev) :
    (s.applyBundle).core = s.core := by
  unfold Dev.applyBundle
  first | (simp (disch := (intros; simp (disch := (intros; (try simp only [↓wrPbv_core, ↓ev_core, ↓core_mk, core_fold, ↓ite_core, ite_self]) <;> (repeat' split) <;> (try simp only [↓wrPbv_core, ↓ev_core, ↓core_mk, core_fold, ↓ite_core, ite_self]))) only [↓wrPbv_core, ↓ev_core, ↓core_mk, core_fold, ↓ite_core, ite_self, each_core])) only [↓wrPbv_core, ↓ev_core, ↓core_mk, core_fold, ↓ite_core, ite_self, each_core]; done) | ((try simp (disch := (intros; simp (disch := (intros; (try simp only [↓wrPbv_core, ↓ev_core, ↓core_mk, core_fold, ↓ite_core, ite_self]) <;> (repeat' split) <;> (try simp only [↓wrPbv_core, ↓ev_core, ↓core_mk, core_fold, ↓ite_core, ite_self]))) only [↓wrPbv_core, ↓ev_core, ↓core_mk, core_fold, ↓ite_core, ite_self, each_core])) only [↓wrPbv_core, ↓ev_core, ↓core_mk, core_fold, ↓ite_core, ite_self, each_core]) <;> (repeat' split) <;> (try simp (disch := (intros; simp (disch := (intros; (try simp only [↓wrPbv_core, ↓ev_core, ↓core_mk, core_fold, ↓ite_core, ite_self]) <;> (repeat' split) <;> (try simp only [↓wrPbv_core, ↓ev_core, ↓core_mk, core_fold, ↓ite_core, ite_self]))) only [↓wrPbv_core, ↓ev_core, ↓core_mk, core_fold, ↓ite_core, ite_self, each_core])) only [↓wrPbv_core, ↓ev_core, ↓core_mk, core_fold, ↓ite_core, ite_self, each_core]))
theorem estRestart_core (s : Dev) :
    (s.estRestart).core = s.core := by
  unfold Dev.estRestart
  simp only [↓setFld_core, ↓setBit_core, ↓core_mk, core_fold, ↓setEstState_core]
theorem originFar_core (s : Dev) :
    (s.originFar).core = s.core := by
  unfold Dev.originFar
  simp only [↓setBit_core, ↓ev_core, ↓ite_core, ite_self]
theorem takeSolution_core (s : Dev) (l : Nat) :
    (s.takeSolution l).core = s.core := by
  unfold Dev.takeSolution
  simp only [↓core_mk, core_fold, ↓originFar_core]
theorem bundleBegin_core (s : Dev) :
    (s.bundleBegin).core = s.core := by
  unfold Dev.bundleBegin
  first | (simp only [↓core_mk, core_fold, ↓groveLoadOp_core]; done) | ((try simp only [↓core_mk, core_fold, ↓groveLoadOp_core]) <;> (repeat' split) <;> (try simp only [↓core_mk, core_fold, ↓groveLoadOp_core]))
theorem bundleSend_core (s : Dev) :
    (s.bundleSend).core = s.core := by
  unfold Dev.bundleSend
  simp only [↓roleRelease_core]
theorem bundleStart_core (s : Dev) :
    (s.bundleStart).core = s.core := by
  unfold Dev.bundleStart
  simp only [↓core_mk, core_fold, ↓ite_core, ite_self, ↓bundleBegin_core, ↓bundleSend_core]
theorem bundleNext_core (s : Dev) (l : Nat) (ok : Bool) :
    (s.bundleNext l ok).core = s.core := by
  unfold Dev.bundleNext
  simp only [↓core_mk, core_fold, ↓ite_core, ite_self, ↓bundleSend_core]
theorem ambFix_core (s : Dev) (l : Nat) (i : TickIn) :
    (s.ambFix l i).core = s.core := by
  unfold Dev.ambFix
  first | (simp only [↓setFld_core, ↓setBit_core, ↓ev_core, ↓core_mk, core_fold, ↓ite_core, ite_self]; done) | ((try simp only [↓setFld_core, ↓setBit_core, ↓ev_core, ↓core_mk, core_fold, ↓ite_core, ite_self]) <;> (repeat' split) <;> (try simp only [↓setFld_core, ↓setBit_core, ↓ev_core, ↓core_mk, core_fold, ↓ite_core, ite_self]))
theorem bundlePublish_core (s : Dev) (i : TickIn) (bad : Bool) :
    (s.bundlePublish i bad).core = s.core := by
  unfold Dev.bundlePublish
  first | (simp only [↓cntWrap_core, ↓ev_core, ↓core_mk, core_fold, ↓ite_core, ite_self, ↓ambFix_core]; done) | ((try simp only [↓cntWrap_core, ↓ev_core, ↓core_mk, core_fold, ↓ite_core, ite_self, ↓ambFix_core]) <;> (repeat' split) <;> (try simp only [↓cntWrap_core, ↓ev_core, ↓core_mk, core_fold, ↓ite_core, ite_self, ↓ambFix_core]))
theorem bundleEnd_core (s : Dev) (i : TickIn) :
    (s.bundleEnd i).core = s.core := by
  unfold Dev.bundleEnd
  simp only [↓setFld_core, ↓core_mk, core_fold, ↓ite_core, ite_self, ↓bundlePublish_core]
theorem slips_core (s : Dev) :
    (s.slips).core = s.core := by
  unfold Dev.slips
  first | (simp only [↓setBit_core, ↓ev_core, ↓core_mk, core_fold, ↓ite_core, ite_self]; done) | ((try simp only [↓setBit_core, ↓ev_core, ↓core_mk, core_fold, ↓ite_core, ite_self]) <;> (repeat' split) <;> (try simp only [↓setBit_core, ↓ev_core, ↓core_mk, core_fold, ↓ite_core, ite_self]))
theorem estBoundary_core (s : Dev) :
    (s.estBoundary).core = s.core := by
  unfold Dev.estBoundary
  first | (simp only [↓wr_core, ↓setBit_core, ↓core_mk, core_fold, ↓ite_core, ite_self, ↓estRestart_core, ↓refsReinit_core]; done) | ((try simp only [↓wr_core, ↓setBit_core, ↓core_mk, core_fold, ↓ite_core, ite_self, ↓estRestart_core, ↓refsReinit_core]) <;> (repeat' split) <;> (try simp only [↓wr_core, ↓setBit_core, ↓core_mk, core_fold, ↓ite_core, ite_self, ↓estRestart_core, ↓refsReinit_core]))
theorem originWrite_core (s : Dev) (lon : Bool) (v : Word) :
    (s.originWrite lon v).core = s.core := by
  unfold Dev.originWrite
  simp only [↓ev_core, ↓core_mk, core_fold, ↓ite_core, ite_self]
theorem autoOrigin_core (s : Dev) (lat lon : Int) :
    (s.autoOrigin lat lon).core = s.core := by
  unfold Dev.autoOrigin
  simp only [↓wr_core, ↓setBit_core, ↓ite_core, ite_self]
theorem sensBad_core (s : Dev) :
    (s.sensBad).core = s.core := by
  unfold Dev.sensBad
  simp only [↓cntSat_core]
theorem sentence_core (s : Dev) (u : Nat) (m : SentenceIn) :
    (s.sentence u m).core = s.core := by
  unfold Dev.sentence
  first | (simp only [↓core_mk, core_fold, ↓ite_core, ite_self, ↓sensBad_core]; done) | ((try simp only [↓core_mk, core_fold, ↓ite_core, ite_self, ↓sensBad_core]) <;> (repeat' split) <;> (try simp only [↓core_mk, core_fold, ↓ite_core, ite_self, ↓sensBad_core]))
theorem refPayload_core (s : Dev) (port : Nat) (u : Nat) (p : List Byte) (arrival : Int) :
    (s.refPayload port u p arrival).core = s.core := by
  unfold Dev.refPayload
  first | (simp only [↓cntSat_core, ↓cntWrap_core, ↓core_mk, core_fold, ↓ite_core, ite_self, ↓setRef_core]; done) | ((try simp only [↓cntSat_core, ↓cntWrap_core, ↓core_mk, core_fold, ↓ite_core, ite_self, ↓setRef_core]) <;> (repeat' split) <;> (try simp only [↓cntSat_core, ↓cntWrap_core, ↓core_mk, core_fold, ↓ite_core, ite_self, ↓setRef_core]))
theorem refArrival_core (s : Dev) (uart : Option Nat) (bytes : List Byte) (arrival : Int) :
    (s.refArrival uart bytes arrival).core = s.core := by
  unfold Dev.refArrival
  first | (simp only [↓core_mk, core_fold, ↓ite_core, ite_self, ↓refPayload_core, ↓sensBad_core]; done) | ((try simp only [↓core_mk, core_fold, ↓ite_core, ite_self, ↓refPayload_core, ↓sensBad_core]) <;> (repeat' split) <;> (try simp only [↓core_mk, core_fold, ↓ite_core, ite_self, ↓refPayload_core, ↓sensBad_core]))
theorem setAllocState_core (s : Dev) (n : Nat) :
    (s.setAllocState n).core = s.core := by
  unfold Dev.setAllocState
  simp only [↓setFld_core, ↓raise_core, ↓ite_core, ite_self]
theorem allocMismatch_core (s : Dev) (k : Nat) :
    (s.allocMismatch k).core = s.core := by
  unfold Dev.allocMismatch
  simp only [↓cntSat_core, ↓ev_core]
theorem allocRequest_core (s : Dev) :
    (s.allocRequest).core = s.core := by
  unfold Dev.allocRequest
  simp only [↓core_mk, core_fold, ↓ite_core, ite_self]
theorem allocWithdraw_core (s : Dev) :
    (s.allocWithdraw).core = s.core := by
  unfold Dev.allocWithdraw
  simp only [↓core_mk, core_fold]
theorem setTau_core (s : Dev) (t : Rat × Rat × Rat) :
    (s.setTau t).core = s.core := by
  unfold Dev.setTau
  simp only [↓setBit_core, ↓wrPbv_core, ↓ev_core, ↓core_mk, core_fold, ↓ite_core, ite_self]
theorem zeroTau_core (s : Dev) :
    (s.zeroTau).core = s.core := by
  unfold Dev.zeroTau
  simp only [↓wr_core, ↓setBit_core, ↓core_mk, core_fold]
theorem estimatorAction_core (s : Dev) :
    (s.estimatorAction).core = s.core := by
  unfold Dev.estimatorAction
  simp only [↓ev_core, ↓ite_core, ite_self, ↓allocRequest_core, ↓setAllocState_core, ↓zeroTau_core]
theorem latchZone_core (s : Dev) (t : Nat) (ang : Rat) (zone : Option Nat) :
    (s.latchZone t ang zone).core = s.core := by
  unfold Dev.latchZone
  first | (simp only [↓setBit_core, ↓ev_core, ↓core_mk, core_fold, ↓ite_core, ite_self]; done) | ((try simp only [↓setBit_core, ↓ev_core, ↓core_mk, core_fold, ↓ite_core, ite_self]) <;> (repeat' split) <;> (try simp only [↓setBit_core, ↓ev_core, ↓core_mk, core_fold, ↓ite_core, ite_self]))
theorem latchSide_core (s : Dev) (t : Nat) :
    (s.latchSide t).core = s.core := by
  unfold Dev.latchSide
  simp only [↓setBit_core, ↓ev_core, ↓ite_core, ite_self]
theorem latchAngle_core (s : Dev) (t : Nat) (ang : Rat) :
    (s.latchAngle t ang).core = s.core := by
  unfold Dev.latchAngle
  simp only [↓wrPbv_core, ↓core_mk, core_fold, ↓ite_core, ite_self]
theorem latchThr_core (s : Dev) (t : Nat) :
    (s.latchThr t).core = s.core := by
  unfold Dev.latchThr
  simp only [↓setBit_core, ↓ite_core, ite_self, ↓latchAngle_core, ↓latchSide_core, ↓latchZone_core]
theorem assignGroups_core (s : Dev) :
    (s.assignGroups).core = s.core := by
  unfold Dev.assignGroups
  simp only [↓core_mk, core_fold]
theorem memberBounds_core (s : Dev) (l g : Nat) :
    (s.memberBounds l g).core = s.core := by
  unfold Dev.memberBounds
  simp only [↓cntSat_core, ↓setLane_core, ↓core_mk, core_fold, ↓ite_core, ite_self]
theorem startGroups_core (s : Dev) (l : Nat) (gs : List Nat) : (s.startGroups l gs).core = s.core := by
  induction gs generalizing s with
  | nil => unfold Dev.startGroups; simp only [↓setLane_core]
  | cons g gs ih =>
    unfold Dev.startGroups
    simp only [↓ite_core, ih, ↓groveStart_core, ↓memberBounds_core, ↓setLane_core, ite_self]
theorem nextGroup_core (s : Dev) (l : Nat) :
    (s.nextGroup l).core = s.core := by
  unfold Dev.nextGroup
  simp only [↓startGroups_core]
theorem cqStopped_core (s : Dev) (l : Nat) (ok : Bool) :
    (s.cqStopped l ok).core = s.core := by
  unfold Dev.cqStopped
  first | (simp only [↓core_mk, core_fold, ↓ite_core, ite_self, ↓nextGroup_core]; done) | ((try simp only [↓core_mk, core_fold, ↓ite_core, ite_self, ↓nextGroup_core]) <;> (repeat' split) <;> (try simp only [↓core_mk, core_fold, ↓ite_core, ite_self, ↓nextGroup_core]))
theorem writeTargets_core (s : Dev) :
    (s.writeTargets).core = s.core := by
  unfold Dev.writeTargets
  simp (disch := (intros; (try simp only [↓setGen_core, ↓core_mk, core_fold]) <;> (try (split <;> simp only [↓setGen_core, ↓core_mk, core_fold])))) only [↓setGen_core, ↓core_mk, core_fold, each_core]
theorem showShort_core (s : Dev) (f : List (Rat × Rat)) :
    (s.showShort f).core = s.core := by
  unfold Dev.showShort
  simp only [↓wrPbv_core]
theorem applyAlloc_core (s : Dev) :
    (s.applyAlloc).core = s.core := by
  unfold Dev.applyAlloc
  first | (simp (disch := (intros; (try simp only [↓wrPbv_core, ↓core_mk, core_fold, ↓showShort_core, ↓writeTargets_core]) <;> (repeat' split) <;> (try simp only [↓wrPbv_core, ↓core_mk, core_fold, ↓showShort_core, ↓writeTargets_core]))) only [↓wrPbv_core, ↓core_mk, core_fold, ↓showShort_core, ↓writeTargets_core, each_core]; done) | ((try simp (disch := (intros; (try simp only [↓wrPbv_core, ↓core_mk, core_fold, ↓showShort_core, ↓writeTargets_core]) <;> (repeat' split) <;> (try simp only [↓wrPbv_core, ↓core_mk, core_fold, ↓showShort_core, ↓writeTargets_core]))) only [↓wrPbv_core, ↓core_mk, core_fold, ↓showShort_core, ↓writeTargets_core, each_core]) <;> (repeat' split) <;> (try simp (disch := (intros; (try simp only [↓wrPbv_core, ↓core_mk, core_fold, ↓showShort_core, ↓writeTargets_core]) <;> (repeat' split) <;> (try simp only [↓wrPbv_core, ↓core_mk, core_fold, ↓showShort_core, ↓writeTargets_core]))) only [↓wrPbv_core, ↓core_mk, core_fold, ↓showShort_core, ↓writeTargets_core, each_core]))
theorem thrustGroupReport_core (s : Dev) (g : Nat) :
    (s.thrustGroupReport g).core = s.core := by
  unfold Dev.thrustGroupReport
  first | (simp only [↓wr_core, ↓setFld_core, ↓setBit_core, ↓wrPbv_core, ↓cntSat_core, ↓ev_core, ↓core_mk, core_fold, ↓ite_core, ite_self]; done) | ((try simp only [↓wr_core, ↓setFld_core, ↓setBit_core, ↓wrPbv_core, ↓cntSat_core, ↓ev_core, ↓core_mk, core_fold, ↓ite_core, ite_self]) <;> (repeat' split) <;> (try simp only [↓wr_core, ↓setFld_core, ↓setBit_core, ↓wrPbv_core, ↓cntSat_core, ↓ev_core, ↓core_mk, core_fold, ↓ite_core, ite_self]))
theorem refGroupReport_core (s : Dev) (g : Nat) :
    (s.refGroupReport g).core = s.core := by
  unfold Dev.refGroupReport
  simp only [↓setFld_core, ↓setBit_core]
theorem allocReport_core (s : Dev) :
    (s.allocReport).core = s.core := by
  unfold Dev.allocReport
  simp (disch := (intros; (try simp only [↓setFld_core, ↓ev_core, ↓core_mk, core_fold, ↓ite_core, ite_self, ↓refGroupReport_core, ↓thrustGroupReport_core]) <;> (try (split <;> simp only [↓setFld_core, ↓ev_core, ↓core_mk, core_fold, ↓ite_core, ite_self, ↓refGroupReport_core, ↓thrustGroupReport_core])))) only [↓setFld_core, ↓ev_core, ↓core_mk, core_fold, ↓ite_core, ite_self, ↓refGroupReport_core, ↓thrustGroupReport_core, each_core]
theorem allocArming_core (s : Dev) :
    (s.allocArming).core = s.core := by
  unfold Dev.allocArming
  simp (disch := (intros; simp (disch := (intros; (try simp only [↓wr_core, ↓setFld_core, ↓setBit_core, ↓ev_core, ↓core_mk, core_fold, ↓ite_core, ite_self, ↓setAllocState_core]) <;> (try (split <;> simp only [↓wr_core, ↓setFld_core, ↓setBit_core, ↓ev_core, ↓core_mk, core_fold, ↓ite_core, ite_self, ↓setAllocState_core])))) only [↓wr_core, ↓setFld_core, ↓setBit_core, ↓ev_core, ↓core_mk, core_fold, ↓ite_core, ite_self, ↓setAllocState_core, each_core])) only [↓wr_core, ↓setFld_core, ↓setBit_core, ↓ev_core, ↓core_mk, core_fold, ↓ite_core, ite_self, ↓setAllocState_core, each_core]
theorem allocOperate_core (s : Dev) :
    (s.allocOperate).core = s.core := by
  unfold Dev.allocOperate
  simp only [↓core_mk, core_fold, ↓ite_core, ite_self, ↓setAllocState_core]
theorem allocWatch_core (s : Dev) :
    (s.allocWatch).core = s.core := by
  unfold Dev.allocWatch
  simp only [↓allocWithdraw_core, ↓setAllocState_core]
theorem groupFresh_core (s : Dev) (g : Nat) :
    (s.groupFresh g).core = s.core := by
  unfold Dev.groupFresh
  simp only [↓wr_core, ↓setFld_core, ↓core_mk, core_fold]
theorem allocCommit_core (s old : Dev) :
    (s.allocCommit old).core = s.core := by
  unfold Dev.allocCommit
  simp (disch := (intros; simp (disch := (intros; (try simp only [↓wr_core, ↓setFld_core, ↓setBit_core, ↓core_mk, core_fold, ↓ite_core, ite_self, ↓groupFresh_core]) <;> (try (split <;> simp only [↓wr_core, ↓setFld_core, ↓setBit_core, ↓core_mk, core_fold, ↓ite_core, ite_self, ↓groupFresh_core])))) only [↓wr_core, ↓setFld_core, ↓setBit_core, ↓core_mk, core_fold, ↓ite_core, ite_self, ↓groupFresh_core, each_core])) only [↓wr_core, ↓setFld_core, ↓setBit_core, ↓core_mk, core_fold, ↓ite_core, ite_self, ↓groupFresh_core, each_core]
theorem selectBoundary_core (s : Dev) :
    (s.selectBoundary).core = s.core := by
  unfold Dev.selectBoundary
  first | (simp only [↓ev_core, ↓core_mk, core_fold, ↓ite_core, ite_self]; done) | ((try simp only [↓ev_core, ↓core_mk, core_fold, ↓ite_core, ite_self]) <;> (repeat' split) <;> (try simp only [↓ev_core, ↓core_mk, core_fold, ↓ite_core, ite_self]))
theorem setTstate_core (s : Dev) (n : Nat) :
    (s.setTstate n).core = s.core := by
  unfold Dev.setTstate
  simp only [↓setFld_core, ↓raise_core, ↓ite_core, ite_self]
theorem showClock_core (s : Dev) :
    (s.showClock).core = s.core := by
  unfold Dev.showClock
  simp only [↓wr_core]
theorem slewEnd_core (s : Dev) :
    (s.slewEnd).core = s.core := by
  unfold Dev.slewEnd
  simp only [↓setBit_core, ↓ev_core, ↓core_mk, core_fold]
theorem advance_core (s : Dev) (dt : Rat) :
    (s.advance dt).core = s.core := by
  unfold Dev.advance
  simp only [↓core_mk, core_fold, ↓ite_core, ite_self, ↓showClock_core, ↓slewEnd_core]
theorem shiftLocal_core (s : Dev) (d : Rat) :
    (s.shiftLocal d).core = s.core := by
  unfold Dev.shiftLocal
  simp only [↓core_mk, core_fold]
theorem returnRule_core (s : Dev) (err : Int) (code : Nat) :
    (s.returnRule err code).core = s.core := by
  unfold Dev.returnRule
  simp only [↓setBit_core, ↓core_mk, core_fold, ↓ite_core, ite_self, ↓showClock_core]
theorem changeSource_core (s : Dev) (src : Nat) (ofs : Int) :
    (s.changeSource src ofs).core = s.core := by
  unfold Dev.changeSource
  simp only [↓setFld_core, ↓raise_core, ↓evI_core, ↓returnRule_core]
theorem firstSet_core (s : Dev) (src : Nat) :
    (s.firstSet src).core = s.core := by
  unfold Dev.firstSet
  simp only [↓setFld_core, ↓setBit_core, ↓raise_core, ↓ev_core, ↓core_mk, core_fold]
theorem showTime_core (s : Dev) :
    (s.showTime).core = s.core := by
  unfold Dev.showTime
  simp only [↓setFld_core, ↓setBit_core]
theorem discipline_core (s : Dev) (x dt : Rat) (tau : Nat) :
    (s.discipline x dt tau).core = s.core := by
  unfold Dev.discipline
  simp only [↓wrN_core, ↓spend_core, ↓core_mk, core_fold, ↓ite_core, ite_self, ↓showClock_core]
theorem useFix_core (s : Dev) (f : FixSol) :
    (s.useFix f).core = s.core := by
  unfold Dev.useFix
  first | (simp only [↓wrN_core, ↓setBit_core, ↓evI_core, ↓core_mk, core_fold, ↓ite_core, ite_self, ↓changeSource_core, ↓discipline_core]; done) | ((try simp only [↓wrN_core, ↓setBit_core, ↓evI_core, ↓core_mk, core_fold, ↓ite_core, ite_self, ↓changeSource_core, ↓discipline_core]) <;> (repeat' split) <;> (try simp only [↓wrN_core, ↓setBit_core, ↓evI_core, ↓core_mk, core_fold, ↓ite_core, ite_self, ↓changeSource_core, ↓discipline_core]))
theorem qualify_core (s : Dev) (f : FixSol) :
    (s.qualify f).core = s.core := by
  unfold Dev.qualify
  simp only [↓wrN_core, ↓evI_core, ↓core_mk, core_fold, ↓ite_core, ite_self, ↓returnRule_core, ↓setTstate_core]
theorem fixStep_core (s : Dev) (fix : Option FixIn) :
    (s.fixStep fix).core = s.core := by
  unfold Dev.fixStep
  first | (simp only [↓setFld_core, ↓setBit_core, ↓core_mk, core_fold, ↓ite_core, ite_self, ↓autoOrigin_core, ↓qualify_core, ↓setTstate_core, ↓useFix_core]; done) | ((try simp only [↓setFld_core, ↓setBit_core, ↓core_mk, core_fold, ↓ite_core, ite_self, ↓autoOrigin_core, ↓qualify_core, ↓setTstate_core, ↓useFix_core]) <;> (repeat' split) <;> (try simp only [↓setFld_core, ↓setBit_core, ↓core_mk, core_fold, ↓ite_core, ite_self, ↓autoOrigin_core, ↓qualify_core, ↓setTstate_core, ↓useFix_core]))
theorem countTrack_core (s : Dev) :
    (s.countTrack).core = s.core := by
  unfold Dev.countTrack
  simp only [↓setFld_core]
theorem latchSpacing_core (s : Dev) :
    (s.latchSpacing).core = s.core := by
  unfold Dev.latchSpacing
  simp only [↓core_mk, core_fold, ↓ite_core, ite_self]
theorem release_core (s : Dev) (p : GChan → Bool) :
    (s.release p).core = s.core := by
  unfold Dev.release
  simp only [↓core_mk, core_fold, ↓ite_core, ite_self]
theorem latchSettings_core (s : Dev) :
    (s.latchSettings).core = s.core := by
  unfold Dev.latchSettings
  simp only [↓core_mk, core_fold, ↓latchSpacing_core, ↓release_core]
theorem moveSat_core (s : Dev) (x : SkySat) :
    (s.moveSat x).core = s.core := by
  unfold Dev.moveSat
  simp only [↓core_mk, core_fold, ↓ite_core, ite_self, ↓release_core]
theorem latchChan_core (s : Dev) (m : ChanMeas) :
    (s.latchChan m).core = s.core := by
  unfold Dev.latchChan
  simp only [↓core_mk, core_fold, ↓ite_core, ite_self]
theorem keepRecord_core (s : Dev) (mid : Bool) :
    (s.keepRecord mid).core = s.core := by
  unfold Dev.keepRecord
  simp only [↓core_mk, core_fold]
theorem satSample_core (s : Dev) :
    (s.satSample).core = s.core := by
  unfold Dev.satSample
  first | (simp only [↓core_mk, core_fold, ↓setRef_core]; done) | ((try simp only [↓core_mk, core_fold, ↓setRef_core]) <;> (repeat' split) <;> (try simp only [↓core_mk, core_fold, ↓setRef_core]))
theorem holdBound_core (s : Dev) :
    (s.holdBound).core = s.core := by
  unfold Dev.holdBound
  first | (simp only [↓wrN_core, ↓core_mk, core_fold, ↓ite_core, ite_self]; done) | ((try simp only [↓wrN_core, ↓core_mk, core_fold, ↓ite_core, ite_self]) <;> (repeat' split) <;> (try simp only [↓wrN_core, ↓core_mk, core_fold, ↓ite_core, ite_self]))
theorem keepCarrier_core (s : Dev) :
    (s.keepCarrier).core = s.core := by
  unfold Dev.keepCarrier
  simp only [↓core_mk, core_fold, ↓ite_core, ite_self]
theorem epoch_core (s : Dev) (i : BoundaryIn) :
    (s.epoch i).core = s.core := by
  unfold Dev.epoch
  simp (disch := (intros; simp (disch := (intros; (try simp only [↓setFld_core, ↓core_mk, core_fold, ↓ite_core, ite_self, ↓countTrack_core, ↓fixStep_core, ↓keepCarrier_core, ↓keepRecord_core, ↓latchChan_core, ↓latchSettings_core, ↓moveSat_core, ↓satSample_core, ↓slips_core]) <;> (try (split <;> simp only [↓setFld_core, ↓core_mk, core_fold, ↓ite_core, ite_self, ↓countTrack_core, ↓fixStep_core, ↓keepCarrier_core, ↓keepRecord_core, ↓latchChan_core, ↓latchSettings_core, ↓moveSat_core, ↓satSample_core, ↓slips_core])))) only [↓setFld_core, ↓core_mk, core_fold, ↓ite_core, ite_self, ↓countTrack_core, ↓fixStep_core, ↓keepCarrier_core, ↓keepRecord_core, ↓latchChan_core, ↓latchSettings_core, ↓moveSat_core, ↓satSample_core, ↓slips_core, each_core])) only [↓setFld_core, ↓core_mk, core_fold, ↓ite_core, ite_self, ↓countTrack_core, ↓fixStep_core, ↓keepCarrier_core, ↓keepRecord_core, ↓latchChan_core, ↓latchSettings_core, ↓moveSat_core, ↓satSample_core, ↓slips_core, each_core]
theorem midLatch_core (s : Dev) (i : TickIn) :
    (s.midLatch i).core = s.core := by
  unfold Dev.midLatch
  simp (disch := (intros; (try simp only [↓core_mk, core_fold, ↓ite_core, ite_self, ↓countTrack_core, ↓keepRecord_core, ↓latchChan_core, ↓latchSettings_core]) <;> (try (split <;> simp only [↓core_mk, core_fold, ↓ite_core, ite_self, ↓countTrack_core, ↓keepRecord_core, ↓latchChan_core, ↓latchSettings_core])))) only [↓core_mk, core_fold, ↓ite_core, ite_self, ↓countTrack_core, ↓keepRecord_core, ↓latchChan_core, ↓latchSettings_core, each_core]
theorem acquired_core (s : Dev) (k sig svid : Nat) (antS : Bool) (cn0 : BitVec 16) :
    (s.acquired k sig svid antS cn0).core = s.core := by
  unfold Dev.acquired
  simp only [↓core_mk, core_fold, ↓ite_core, ite_self, ↓countTrack_core]
theorem dropped_core (s : Dev) (k : Nat) (cn0 : BitVec 16) (spanMs : Nat) :
    (s.dropped k cn0 spanMs).core = s.core := by
  unfold Dev.dropped
  simp only [↓core_mk, core_fold, ↓ite_core, ite_self, ↓countTrack_core]
theorem timeSet_core (s : Dev) :
    (s.timeSet).core = s.core := by
  unfold Dev.timeSet
  first | (simp only [↓wrN_core, ↓ev_core, ↓core_mk, core_fold, ↓ite_core, ite_self, ↓changeSource_core, ↓firstSet_core, ↓setTstate_core, ↓shiftLocal_core, ↓showClock_core]; done) | ((try simp only [↓wrN_core, ↓ev_core, ↓core_mk, core_fold, ↓ite_core, ite_self, ↓changeSource_core, ↓firstSet_core, ↓setTstate_core, ↓shiftLocal_core, ↓showClock_core]) <;> (repeat' split) <;> (try simp only [↓wrN_core, ↓ev_core, ↓core_mk, core_fold, ↓ite_core, ite_self, ↓changeSource_core, ↓firstSet_core, ↓setTstate_core, ↓shiftLocal_core, ↓showClock_core]))
theorem holdover_core (s : Dev) :
    (s.holdover).core = s.core := by
  unfold Dev.holdover
  simp only [↓ev_core, ↓core_mk, core_fold, ↓ite_core, ite_self, ↓setTstate_core]
theorem slewDone_core (s : Dev) :
    (s.slewDone).core = s.core := by
  unfold Dev.slewDone
  simp only [↓core_mk, core_fold, ↓ite_core, ite_self, ↓showClock_core, ↓slewEnd_core]
theorem holdWarn_core (s : Dev) :
    (s.holdWarn).core = s.core := by
  unfold Dev.holdWarn
  simp only [↓ev_core, ↓core_mk, core_fold, ↓ite_core, ite_self]
theorem feFault_core (s : Dev) (k gain : Nat) (atMax : Bool) :
    (s.feFault k gain atMax).core = s.core := by
  unfold Dev.feFault
  simp only [↓wrN_core, ↓setBit_core, ↓ev_core, ↓ite_core, ite_self]
theorem feClear_core (s : Dev) (k gain : Nat) :
    (s.feClear k gain).core = s.core := by
  unfold Dev.feClear
  simp only [↓wrN_core, ↓setBit_core, ↓ev_core, ↓ite_core, ite_self]
theorem ppsOver_core (s : Dev) :
    (s.ppsOver).core = s.core := by
  unfold Dev.ppsOver
  first | (simp only [↓setBit_core, ↓core_mk, core_fold]; done) | ((try simp only [↓setBit_core, ↓core_mk, core_fold]) <;> (repeat' split) <;> (try simp only [↓setBit_core, ↓core_mk, core_fold]))
theorem ppsEdge_core (s : Dev) :
    (s.ppsEdge).core = s.core := by
  unfold Dev.ppsEdge
  simp only [↓setBit_core, ↓core_mk, core_fold, ↓ite_core, ite_self, ↓ppsOver_core]
theorem ppsEnd_core (s : Dev) :
    (s.ppsEnd).core = s.core := by
  unfold Dev.ppsEnd
  simp only [↓ite_core, ite_self, ↓ppsOver_core]
theorem ppsWrite_core (s : Dev) (cfg dly : Word) (first : Bool) :
    (s.ppsWrite cfg dly first).core = s.core := by
  unfold Dev.ppsWrite
  simp only [↓setBit_core, ↓core_mk, core_fold, ↓ite_core, ite_self]
theorem sentences_core (s : Dev) (u : Nat) (texts : List (List Byte)) :
    (s.sentences u texts).1.core = s.core := by
  unfold Dev.sentences
  first | (simp only [↓cntSat_core, ↓core_mk, core_fold, ↓ite_core, ite_self]; done) | ((try simp only [↓cntSat_core, ↓core_mk, core_fold, ↓ite_core, ite_self]) <;> (repeat' split) <;> (try simp only [↓cntSat_core, ↓core_mk, core_fold, ↓ite_core, ite_self]))
theorem leap_core (s : Dev) :
    (s.leap).core = s.core := by
  unfold Dev.leap
  simp only [↓setBit_core, ↓ev_core, ↓core_mk, core_fold, ↓ite_core, ite_self]
theorem navData_core (s : Dev) (ofs : Nat) (leapAt : Option Nat) :
    (s.navData ofs leapAt).core = s.core := by
  unfold Dev.navData
  simp only [↓setBit_core, ↓core_mk, core_fold]
theorem carrierLost_core (s : Dev) (k : Nat) :
    (s.carrierLost k).core = s.core := by
  unfold Dev.carrierLost
  simp only [↓core_mk, core_fold, ↓ite_core, ite_self]
theorem carrierGained_core (s : Dev) (k : Nat) :
    (s.carrierGained k).core = s.core := by
  unfold Dev.carrierGained
  simp only [↓core_mk, core_fold, ↓ite_core, ite_self]
theorem countChains_core (s : Dev) :
    (s.countChains).core = s.core := by
  unfold Dev.countChains
  simp only [↓setFld_core]
theorem chainStep_core (s : Dev) (n : Nat) :
    (s.chainStep n).core = s.core := by
  unfold Dev.chainStep
  simp only [↓wrN_core, ↓setFld_core, ↓setBit_core, ↓setChain_core, ↓core_mk, core_fold]
theorem showStuck_core (s : Dev) (n : Nat) :
    (s.showStuck n).core = s.core := by
  unfold Dev.showStuck
  simp only [↓setBit_core]
theorem coefCopy_core (s : Dev) (n : Nat) :
    (s.coefCopy n).core = s.core := by
  unfold Dev.coefCopy
  simp (disch := (intros; (try simp only [↓wr_core, ↓core_mk, core_fold]) <;> (try (split <;> simp only [↓wr_core, ↓core_mk, core_fold])))) only [↓wr_core, ↓core_mk, core_fold, each_core]
theorem chainBoundary_core (s : Dev) (n : Nat) :
    (s.chainBoundary n).core = s.core := by
  unfold Dev.chainBoundary
  simp only [↓setFld_core, ↓clrMask_core, ↓setChain_core, ↓core_mk, core_fold, ↓ite_core, ite_self, ↓chainStep_core, ↓coefCopy_core, ↓countChains_core, ↓showStuck_core]
theorem chainStart_core (s : Dev) (n : Nat) :
    (s.chainStart n).core = s.core := by
  unfold Dev.chainStart
  simp only [↓setBit_core, ↓setChain_core, ↓core_mk, core_fold, ↓chainStep_core, ↓countChains_core, ↓showStuck_core]
theorem deliver_core (s : Dev) (n : Nat) (y : Int) (stamp : Word) :
    (s.deliver n y stamp).core = s.core := by
  unfold Dev.deliver
  simp only [↓wr_core, ↓setFld_core, ↓setBit_core, ↓cntSat_core, ↓cntWrap_core, ↓ev_core, ↓setChain_core, ↓core_mk, core_fold, ↓ite_core, ite_self]
theorem chainRecord_core (s : Dev) (n : Nat) (bits : List Bool) (stamp : Word) (coefBad : Option Nat) :
    (s.chainRecord n bits stamp coefBad).core = s.core := by
  unfold Dev.chainRecord
  first | (simp only [↓setBit_core, ↓ev_core, ↓setChain_core, ↓core_mk, core_fold, ↓ite_core, ite_self, ↓chainBoundary_core, ↓countChains_core, ↓deliver_core]; done) | ((try simp only [↓setBit_core, ↓ev_core, ↓setChain_core, ↓core_mk, core_fold, ↓ite_core, ite_self, ↓chainBoundary_core, ↓countChains_core, ↓deliver_core]) <;> (repeat' split) <;> (try simp only [↓setBit_core, ↓ev_core, ↓setChain_core, ↓core_mk, core_fold, ↓ite_core, ite_self, ↓chainBoundary_core, ↓countChains_core, ↓deliver_core]))
theorem sarFrame_core (s : Dev) :
    (s.sarFrame).core = s.core := by
  unfold Dev.sarFrame
  simp (disch := (intros; (try simp only [↓core_mk, core_fold, ↓ite_core, ite_self, ↓chainStep_core]) <;> (try (split <;> simp only [↓core_mk, core_fold, ↓ite_core, ite_self, ↓chainStep_core])))) only [↓core_mk, core_fold, ↓ite_core, ite_self, ↓chainStep_core, each_core]
theorem sarConversion_core (s : Dev) (slot : Nat) (code : BitVec 16) :
    (s.sarConversion slot code).core = s.core := by
  unfold Dev.sarConversion
  first | (simp (disch := (intros; (try simp only [↓setChain_core, ↓core_mk, core_fold, ↓ite_core, ite_self, ↓sarFrame_core]) <;> (repeat' split) <;> (try simp only [↓setChain_core, ↓core_mk, core_fold, ↓ite_core, ite_self, ↓sarFrame_core]))) only [↓setChain_core, ↓core_mk, core_fold, ↓ite_core, ite_self, ↓sarFrame_core, each_core]; done) | ((try simp (disch := (intros; (try simp only [↓setChain_core, ↓core_mk, core_fold, ↓ite_core, ite_self, ↓sarFrame_core]) <;> (repeat' split) <;> (try simp only [↓setChain_core, ↓core_mk, core_fold, ↓ite_core, ite_self, ↓sarFrame_core]))) only [↓setChain_core, ↓core_mk, core_fold, ↓ite_core, ite_self, ↓sarFrame_core, each_core]) <;> (repeat' split) <;> (try simp (disch := (intros; (try simp only [↓setChain_core, ↓core_mk, core_fold, ↓ite_core, ite_self, ↓sarFrame_core]) <;> (repeat' split) <;> (try simp only [↓setChain_core, ↓core_mk, core_fold, ↓ite_core, ite_self, ↓sarFrame_core]))) only [↓setChain_core, ↓core_mk, core_fold, ↓ite_core, ite_self, ↓sarFrame_core, each_core]))
theorem calMove_core (s : Dev) (z e : Rat) :
    (s.calMove z e).core = s.core := by
  unfold Dev.calMove
  simp (disch := (intros; (try simp only [↓setFld_core, ↓setBit_core, ↓ev_core, ↓setChain_core, ↓core_mk, core_fold, ↓ite_core, ite_self]) <;> (try (split <;> simp only [↓setFld_core, ↓setBit_core, ↓ev_core, ↓setChain_core, ↓core_mk, core_fold, ↓ite_core, ite_self])))) only [↓setFld_core, ↓setBit_core, ↓ev_core, ↓setChain_core, ↓core_mk, core_fold, ↓ite_core, ite_self, each_core]
theorem calUpdate_core (s : Dev) (z ideal : Rat) :
    (s.calUpdate z ideal).core = s.core := by
  unfold Dev.calUpdate
  simp only [↓ite_core, ite_self, ↓calMove_core]
theorem bitstreamStuck_core (s : Dev) (st : Nat) :
    (s.bitstreamStuck st).core = s.core := by
  unfold Dev.bitstreamStuck
  simp (disch := (intros; (try simp only [↓setBit_core, ↓ev_core, ↓core_mk, core_fold, ↓ite_core, ite_self]) <;> (try (split <;> simp only [↓setBit_core, ↓ev_core, ↓core_mk, core_fold, ↓ite_core, ite_self])))) only [↓setBit_core, ↓ev_core, ↓core_mk, core_fold, ↓ite_core, ite_self, each_core]
theorem stuckEnd_core (s : Dev) (st : Nat) :
    (s.stuckEnd st).core = s.core := by
  unfold Dev.stuckEnd
  simp (disch := (intros; (try simp only [↓setBit_core, ↓core_mk, core_fold, ↓ite_core, ite_self, ↓chainStep_core]) <;> (try (split <;> simp only [↓setBit_core, ↓core_mk, core_fold, ↓ite_core, ite_self, ↓chainStep_core])))) only [↓setBit_core, ↓core_mk, core_fold, ↓ite_core, ite_self, ↓chainStep_core, each_core]
theorem acqSide_core (old s : Dev) (a : Nat) :
    (old.acqSide s a).core = s.core := by
  unfold Dev.acqSide
  simp only [↓setBit_core, ↓setChain_core, ↓core_mk, core_fold, ↓ite_core, ite_self]
theorem acqWrite_core (s : Dev) (a : Nat) (v : Word) :
    (s.acqWrite a v).core = s.core := by
  unfold Dev.acqWrite
  first | (simp only [↓setFld_core, ↓ev_core, ↓store_core, ↓core_mk, core_fold, ↓ite_core, ite_self, ↓acqSide_core]; done) | ((try simp only [↓setFld_core, ↓ev_core, ↓store_core, ↓core_mk, core_fold, ↓ite_core, ite_self, ↓acqSide_core]) <;> (repeat' split) <;> (try simp only [↓setFld_core, ↓ev_core, ↓store_core, ↓core_mk, core_fold, ↓ite_core, ite_self, ↓acqSide_core]))
theorem acqEnable_core (s : Dev) (bit : Nat) (on : Bool) :
    (s.acqEnable bit on).core = s.core := by
  unfold Dev.acqEnable
  simp only [↓acqWrite_core]
theorem coefApply_core (s : Dev) (n : Nat) :
    (s.coefApply n).core = s.core := by
  unfold Dev.coefApply
  first | (simp only [↓setBit_core, ↓ev_core, ↓core_mk, core_fold, ↓ite_core, ite_self]; done) | ((try simp only [↓setBit_core, ↓ev_core, ↓core_mk, core_fold, ↓ite_core, ite_self]) <;> (repeat' split) <;> (try simp only [↓setBit_core, ↓ev_core, ↓core_mk, core_fold, ↓ite_core, ite_self]))
theorem coefDone_core (s : Dev) :
    (s.coefDone).core = s.core := by
  unfold Dev.coefDone
  first | (simp only [↓setBit_core, ↓ev_core, ↓core_mk, core_fold, ↓ite_core, ite_self, ↓coefCopy_core]; done) | ((try simp only [↓setBit_core, ↓ev_core, ↓core_mk, core_fold, ↓ite_core, ite_self, ↓coefCopy_core]) <;> (repeat' split) <;> (try simp only [↓setBit_core, ↓ev_core, ↓core_mk, core_fold, ↓ite_core, ite_self, ↓coefCopy_core]))
theorem pulseEdge_core (s : Dev) (p : Nat) (falling : Bool) (cycle held : Nat) :
    (s.pulseEdge p falling cycle held).core = s.core := by
  unfold Dev.pulseEdge
  first | (simp only [↓core_mk, core_fold, ↓ite_core, ite_self]; done) | ((try simp only [↓core_mk, core_fold, ↓ite_core, ite_self]) <;> (repeat' split) <;> (try simp only [↓core_mk, core_fold, ↓ite_core, ite_self]))
theorem pulseLatch_core (s : Dev) (p : Nat) :
    (s.pulseLatch p).core = s.core := by
  unfold Dev.pulseLatch
  first | (simp only [↓wrN_core, ↓setBit_core, ↓core_mk, core_fold]; done) | ((try simp only [↓wrN_core, ↓setBit_core, ↓core_mk, core_fold]) <;> (repeat' split) <;> (try simp only [↓wrN_core, ↓setBit_core, ↓core_mk, core_fold]))
theorem quadTransition_core (s : Dev) (p : Nat) (qa qb : Bool) (heldA heldB : Nat) :
    (s.quadTransition p qa qb heldA heldB).core = s.core := by
  unfold Dev.quadTransition
  simp only [↓cntSat_core, ↓evW_core, ↓core_mk, core_fold, ↓ite_core, ite_self]
theorem quadZero_core (s : Dev) (p : Nat) :
    (s.quadZero p).core = s.core := by
  unfold Dev.quadZero
  first | (simp only [↓ev_core, ↓core_mk, core_fold]; done) | ((try simp only [↓ev_core, ↓core_mk, core_fold]) <;> (repeat' split) <;> (try simp only [↓ev_core, ↓core_mk, core_fold]))
theorem quadLatch_core (s : Dev) (p : Nat) :
    (s.quadLatch p).core = s.core := by
  unfold Dev.quadLatch
  simp only [↓wr_core, ↓core_mk, core_fold, ↓ite_core, ite_self]
theorem chainLatch_core (s : Dev) (n : Nat) :
    (s.chainLatch n).core = s.core := by
  unfold Dev.chainLatch
  first | (simp only [↓setChain_core, ↓core_mk, core_fold, ↓ite_core, ite_self, ↓chainStart_core]; done) | ((try simp only [↓setChain_core, ↓core_mk, core_fold, ↓ite_core, ite_self, ↓chainStart_core]) <;> (repeat' split) <;> (try simp only [↓setChain_core, ↓core_mk, core_fold, ↓ite_core, ite_self, ↓chainStart_core]))
theorem acqP0_core (s : Dev) :
    (s.acqP0).core = s.core := by
  unfold Dev.acqP0
  first | (simp (disch := (intros; simp (disch := (intros; (try simp only [↓setBit_core, ↓core_mk, core_fold, ↓ite_core, ite_self, ↓chainLatch_core, ↓pulseLatch_core, ↓quadLatch_core]) <;> (repeat' split) <;> (try simp only [↓setBit_core, ↓core_mk, core_fold, ↓ite_core, ite_self, ↓chainLatch_core, ↓pulseLatch_core, ↓quadLatch_core]))) only [↓setBit_core, ↓core_mk, core_fold, ↓ite_core, ite_self, ↓chainLatch_core, ↓pulseLatch_core, ↓quadLatch_core, each_core])) only [↓setBit_core, ↓core_mk, core_fold, ↓ite_core, ite_self, ↓chainLatch_core, ↓pulseLatch_core, ↓quadLatch_core, each_core]; done) | ((try simp (disch := (intros; simp (disch := (intros; (try simp only [↓setBit_core, ↓core_mk, core_fold, ↓ite_core, ite_self, ↓chainLatch_core, ↓pulseLatch_core, ↓quadLatch_core]) <;> (repeat' split) <;> (try simp only [↓setBit_core, ↓core_mk, core_fold, ↓ite_core, ite_self, ↓chainLatch_core, ↓pulseLatch_core, ↓quadLatch_core]))) only [↓setBit_core, ↓core_mk, core_fold, ↓ite_core, ite_self, ↓chainLatch_core, ↓pulseLatch_core, ↓quadLatch_core, each_core])) only [↓setBit_core, ↓core_mk, core_fold, ↓ite_core, ite_self, ↓chainLatch_core, ↓pulseLatch_core, ↓quadLatch_core, each_core]) <;> (repeat' split) <;> (try simp (disch := (intros; simp (disch := (intros; (try simp only [↓setBit_core, ↓core_mk, core_fold, ↓ite_core, ite_self, ↓chainLatch_core, ↓pulseLatch_core, ↓quadLatch_core]) <;> (repeat' split) <;> (try simp only [↓setBit_core, ↓core_mk, core_fold, ↓ite_core, ite_self, ↓chainLatch_core, ↓pulseLatch_core, ↓quadLatch_core]))) only [↓setBit_core, ↓core_mk, core_fold, ↓ite_core, ite_self, ↓chainLatch_core, ↓pulseLatch_core, ↓quadLatch_core, each_core])) only [↓setBit_core, ↓core_mk, core_fold, ↓ite_core, ite_self, ↓chainLatch_core, ↓pulseLatch_core, ↓quadLatch_core, each_core]))
theorem acqTemp_core (s : Dev) (ts : List Int) :
    (s.acqTemp ts).core = s.core := by
  unfold Dev.acqTemp
  simp only [↓ev_core, ↓core_mk, core_fold, ↓ite_core, ite_self]
theorem acqReported_core (s : Dev) :
    (s.acqReported).core = s.core := by
  unfold Dev.acqReported
  simp only [↓core_mk, core_fold]
theorem setCanState_core (s : Dev) (c n : Nat) :
    (s.setCanState c n).core = s.core := by
  unfold Dev.setCanState
  simp only [↓setFld_core, ↓raise_core, ↓ite_core, ite_self]
theorem setErrs_core (s : Dev) (c tec rec' : Nat) :
    (s.setErrs c tec rec').core = s.core := by
  unfold Dev.setErrs
  simp only [↓setFld_core, ↓setCanc_core, ↓core_mk, core_fold]
theorem showTx_core (s : Dev) (c : Nat) :
    (s.showTx c).core = s.core := by
  unfold Dev.showTx
  simp (disch := (intros; (try simp only [↓wrN_core, ↓setFld_core, ↓setBit_core]) <;> (try (split <;> simp only [↓wrN_core, ↓setFld_core, ↓setBit_core])))) only [↓wrN_core, ↓setFld_core, ↓setBit_core, each_core]
theorem ledger_core (s : Dev) (c inn out drop : Nat) :
    (s.ledger c inn out drop).core = s.core := by
  unfold Dev.ledger
  simp only [↓cntWrap_core]
theorem showRxf_core (s : Dev) (c : Nat) :
    (s.showRxf c).core = s.core := by
  unfold Dev.showRxf
  simp (disch := (intros; (try simp only [↓wr_core, ↓wrN_core, ↓setFld_core]) <;> (try (split <;> simp only [↓wr_core, ↓wrN_core, ↓setFld_core])))) only [↓wr_core, ↓wrN_core, ↓setFld_core, each_core]
theorem showHp_core (s : Dev) (c : Nat) :
    (s.showHp c).core = s.core := by
  unfold Dev.showHp
  first | (simp (disch := (intros; (try simp only [↓wr_core, ↓wrN_core, ↓core_mk, core_fold]) <;> (repeat' split) <;> (try simp only [↓wr_core, ↓wrN_core, ↓core_mk, core_fold]))) only [↓wr_core, ↓wrN_core, ↓core_mk, core_fold, each_core]; done) | ((try simp (disch := (intros; (try simp only [↓wr_core, ↓wrN_core, ↓core_mk, core_fold]) <;> (repeat' split) <;> (try simp only [↓wr_core, ↓wrN_core, ↓core_mk, core_fold]))) only [↓wr_core, ↓wrN_core, ↓core_mk, core_fold, each_core]) <;> (repeat' split) <;> (try simp (disch := (intros; (try simp only [↓wr_core, ↓wrN_core, ↓core_mk, core_fold]) <;> (repeat' split) <;> (try simp only [↓wr_core, ↓wrN_core, ↓core_mk, core_fold]))) only [↓wr_core, ↓wrN_core, ↓core_mk, core_fold, each_core]))
theorem refill_core (s : Dev) (c : Nat) :
    (s.refill c).core = s.core := by
  unfold Dev.refill
  first | (simp only [↓setCanc_core, ↓core_mk, core_fold]; done) | ((try simp only [↓setCanc_core, ↓core_mk, core_fold]) <;> (repeat' split) <;> (try simp only [↓setCanc_core, ↓core_mk, core_fold]))
theorem hostFrameEnd_core (s : Dev) (t : CanTx) (detail : Nat) :
    (s.hostFrameEnd t detail).core = s.core := by
  unfold Dev.hostFrameEnd
  first | (simp only [↓core_mk, core_fold, ↓complete_core]; done) | ((try simp only [↓core_mk, core_fold, ↓complete_core]) <;> (repeat' split) <;> (try simp only [↓core_mk, core_fold, ↓complete_core]))
theorem canFlush_core (s : Dev) (c : Nat) :
    (s.canFlush c).core = s.core := by
  unfold Dev.canFlush
  simp (disch := (intros; (try simp only [↓setCanc_core, ↓core_mk, core_fold, ↓hostFrameEnd_core, ↓ledger_core, ↓showTx_core]) <;> (try (split <;> simp only [↓setCanc_core, ↓core_mk, core_fold, ↓hostFrameEnd_core, ↓ledger_core, ↓showTx_core])))) only [↓setCanc_core, ↓core_mk, core_fold, ↓hostFrameEnd_core, ↓ledger_core, ↓showTx_core, each_core]
theorem startRecovery_core (s : Dev) (c : Nat) :
    (s.startRecovery c).core = s.core := by
  unfold Dev.startRecovery
  simp only [↓setBit_core, ↓raise_core, ↓ite_core, ite_self]
theorem busOff_core (s : Dev) (c : Nat) :
    (s.busOff c).core = s.core := by
  unfold Dev.busOff
  simp only [↓cntSat_core, ↓ev_core, ↓ite_core, ite_self, ↓canFlush_core, ↓setCanState_core, ↓startRecovery_core]
theorem checkErrs_core (s : Dev) (c : Nat) :
    (s.checkErrs c).core = s.core := by
  unfold Dev.checkErrs
  simp only [↓ev_core, ↓ite_core, ite_self, ↓busOff_core, ↓setCanState_core]
theorem leaveInit_core (s : Dev) (c : Nat) :
    (s.leaveInit c).core = s.core := by
  unfold Dev.leaveInit
  first | (simp only [↓setBit_core, ↓ev_core, ↓setCanc_core, ↓core_mk, core_fold, ↓setCanState_core, ↓setErrs_core]; done) | ((try simp only [↓setBit_core, ↓ev_core, ↓setCanc_core, ↓core_mk, core_fold, ↓setCanState_core, ↓setErrs_core]) <;> (repeat' split) <;> (try simp only [↓setBit_core, ↓ev_core, ↓setCanc_core, ↓core_mk, core_fold, ↓setCanState_core, ↓setErrs_core]))
theorem enterInit_core (s : Dev) (c : Nat) :
    (s.enterInit c).core = s.core := by
  unfold Dev.enterInit
  simp only [↓setBit_core, ↓setCanc_core, ↓core_mk, core_fold, ↓setCanState_core, ↓setErrs_core, ↓showTx_core]
theorem canRecover_core (s : Dev) (c : Nat) :
    (s.canRecover c).core = s.core := by
  unfold Dev.canRecover
  simp only [↓startRecovery_core]
theorem canCtrl_core (s : Dev) (c : Nat) (v : Word) :
    (s.canCtrl c v).core = s.core := by
  unfold Dev.canCtrl
  simp only [↓ev_core, ↓store_core, ↓ite_core, ite_self, ↓canRecover_core, ↓enterInit_core, ↓leaveInit_core, ↓startRecovery_core]
theorem autostart_core (s : Dev) (c : Nat) :
    (s.autostart c).core = s.core := by
  unfold Dev.autostart
  simp only [↓setCanc_core, ↓core_mk, core_fold, ↓ite_core, ite_self, ↓leaveInit_core]
theorem tb2Put_core (s : Dev) (c : Nat) (t : CanTx) :
    (s.tb2Put c t).core = s.core := by
  unfold Dev.tb2Put
  first | (simp (disch := (intros; (try simp only [↓setCanc_core, ↓core_mk, core_fold, ↓ite_core, ite_self, ↓hostFrameEnd_core, ↓ledger_core, ↓showTx_core]) <;> (repeat' split) <;> (try simp only [↓setCanc_core, ↓core_mk, core_fold, ↓ite_core, ite_self, ↓hostFrameEnd_core, ↓ledger_core, ↓showTx_core]))) only [↓setCanc_core, ↓core_mk, core_fold, ↓ite_core, ite_self, ↓hostFrameEnd_core, ↓ledger_core, ↓showTx_core, each_core]; done) | ((try simp (disch := (intros; (try simp only [↓setCanc_core, ↓core_mk, core_fold, ↓ite_core, ite_self, ↓hostFrameEnd_core, ↓ledger_core, ↓showTx_core]) <;> (repeat' split) <;> (try simp only [↓setCanc_core, ↓core_mk, core_fold, ↓ite_core, ite_self, ↓hostFrameEnd_core, ↓ledger_core, ↓showTx_core]))) only [↓setCanc_core, ↓core_mk, core_fold, ↓ite_core, ite_self, ↓hostFrameEnd_core, ↓ledger_core, ↓showTx_core, each_core]) <;> (repeat' split) <;> (try simp (disch := (intros; (try simp only [↓setCanc_core, ↓core_mk, core_fold, ↓ite_core, ite_self, ↓hostFrameEnd_core, ↓ledger_core, ↓showTx_core]) <;> (repeat' split) <;> (try simp only [↓setCanc_core, ↓core_mk, core_fold, ↓ite_core, ite_self, ↓hostFrameEnd_core, ↓ledger_core, ↓showTx_core]))) only [↓setCanc_core, ↓core_mk, core_fold, ↓ite_core, ite_self, ↓hostFrameEnd_core, ↓ledger_core, ↓showTx_core, each_core]))
theorem tb2Request_core (s : Dev) (c dlc : Nat) :
    (s.tb2Request c dlc).core = s.core := by
  unfold Dev.tb2Request
  simp only [↓core_mk, core_fold, ↓tb2Put_core]
theorem tb2Cancel_core (s : Dev) (c : Nat) :
    (s.tb2Cancel c).core = s.core := by
  unfold Dev.tb2Cancel
  first | (simp (disch := (intros; (try simp only [↓setCanc_core, ↓core_mk, core_fold, ↓ite_core, ite_self, ↓hostFrameEnd_core, ↓ledger_core, ↓showTx_core]) <;> (repeat' split) <;> (try simp only [↓setCanc_core, ↓core_mk, core_fold, ↓ite_core, ite_self, ↓hostFrameEnd_core, ↓ledger_core, ↓showTx_core]))) only [↓setCanc_core, ↓core_mk, core_fold, ↓ite_core, ite_self, ↓hostFrameEnd_core, ↓ledger_core, ↓showTx_core, each_core]; done) | ((try simp (disch := (intros; (try simp only [↓setCanc_core, ↓core_mk, core_fold, ↓ite_core, ite_self, ↓hostFrameEnd_core, ↓ledger_core, ↓showTx_core]) <;> (repeat' split) <;> (try simp only [↓setCanc_core, ↓core_mk, core_fold, ↓ite_core, ite_self, ↓hostFrameEnd_core, ↓ledger_core, ↓showTx_core]))) only [↓setCanc_core, ↓core_mk, core_fold, ↓ite_core, ite_self, ↓hostFrameEnd_core, ↓ledger_core, ↓showTx_core, each_core]) <;> (repeat' split) <;> (try simp (disch := (intros; (try simp only [↓setCanc_core, ↓core_mk, core_fold, ↓ite_core, ite_self, ↓hostFrameEnd_core, ↓ledger_core, ↓showTx_core]) <;> (repeat' split) <;> (try simp only [↓setCanc_core, ↓core_mk, core_fold, ↓ite_core, ite_self, ↓hostFrameEnd_core, ↓ledger_core, ↓showTx_core]))) only [↓setCanc_core, ↓core_mk, core_fold, ↓ite_core, ite_self, ↓hostFrameEnd_core, ↓ledger_core, ↓showTx_core, each_core]))
theorem tb2Ctl_core (s : Dev) (c : Nat) (v : Word) :
    (s.tb2Ctl c v).core = s.core := by
  unfold Dev.tb2Ctl
  simp only [↓ite_core, ite_self, ↓tb2Cancel_core, ↓tb2Request_core]
theorem arbWon_core (s : Dev) (c b : Nat) (late : List Nat) :
    (s.arbWon c b late).core = s.core := by
  unfold Dev.arbWon
  simp only [↓setCanc_core, ↓core_mk, core_fold, ↓ite_core, ite_self, ↓showTx_core]
theorem arbLost_core (s : Dev) (c b : Nat) :
    (s.arbLost c b).core = s.core := by
  unfold Dev.arbLost
  simp only [↓setCanc_core, ↓core_mk, core_fold]
theorem frameSent_core (s : Dev) (c b : Nat) (sofNs : Nat) (delay : Byte) :
    (s.frameSent c b sofNs delay).core = s.core := by
  unfold Dev.frameSent
  first | (simp only [↓wrN_core, ↓setBit_core, ↓ev_core, ↓setCanc_core, ↓core_mk, core_fold, ↓ite_core, ite_self, ↓checkErrs_core, ↓hostFrameEnd_core, ↓ledger_core, ↓refill_core, ↓setErrs_core, ↓showTx_core]; done) | ((try simp only [↓wrN_core, ↓setBit_core, ↓ev_core, ↓setCanc_core, ↓core_mk, core_fold, ↓ite_core, ite_self, ↓checkErrs_core, ↓hostFrameEnd_core, ↓ledger_core, ↓refill_core, ↓setErrs_core, ↓showTx_core]) <;> (repeat' split) <;> (try simp only [↓wrN_core, ↓setBit_core, ↓ev_core, ↓setCanc_core, ↓core_mk, core_fold, ↓ite_core, ite_self, ↓checkErrs_core, ↓hostFrameEnd_core, ↓ledger_core, ↓refill_core, ↓setErrs_core, ↓showTx_core]))
theorem takeFields_core (s : Dev) (c : Nat) (f : CanFrame) :
    (s.takeFields c f).core = s.core := by
  unfold Dev.takeFields
  first | (simp (disch := (intros; (try simp only [↓core_mk, core_fold, ↓ite_core, ite_self]) <;> (repeat' split) <;> (try simp only [↓core_mk, core_fold, ↓ite_core, ite_self]))) only [↓core_mk, core_fold, ↓ite_core, ite_self, each_core]; done) | ((try simp (disch := (intros; (try simp only [↓core_mk, core_fold, ↓ite_core, ite_self]) <;> (repeat' split) <;> (try simp only [↓core_mk, core_fold, ↓ite_core, ite_self]))) only [↓core_mk, core_fold, ↓ite_core, ite_self, each_core]) <;> (repeat' split) <;> (try simp (disch := (intros; (try simp only [↓core_mk, core_fold, ↓ite_core, ite_self]) <;> (repeat' split) <;> (try simp only [↓core_mk, core_fold, ↓ite_core, ite_self]))) only [↓core_mk, core_fold, ↓ite_core, ite_self, each_core]))
theorem hpTake_core (s : Dev) (c : Nat) (r : CanRx) :
    (s.hpTake c r).core = s.core := by
  unfold Dev.hpTake
  simp only [↓setBit_core, ↓raise_core, ↓ev_core, ↓setCanc_core, ↓core_mk, core_fold, ↓ite_core, ite_self, ↓showHp_core]
theorem fifoTake_core (s : Dev) (c : Nat) (r : CanRx) :
    (s.fifoTake c r).core = s.core := by
  unfold Dev.fifoTake
  simp only [↓cntSat_core, ↓raise_core, ↓ev_core, ↓setCanc_core, ↓core_mk, core_fold, ↓ite_core, ite_self, ↓showRxf_core]
theorem frameReceived_core (s : Dev) (c : Nat) (f : CanFrame) (res : Bool) (stamp : Word) :
    (s.frameReceived c f res stamp).core = s.core := by
  unfold Dev.frameReceived
  first | (simp only [↓ev_core, ↓spend_core, ↓setCanc_core, ↓core_mk, core_fold, ↓ite_core, ite_self, ↓checkErrs_core, ↓fifoTake_core, ↓hpTake_core, ↓setErrs_core, ↓takeFields_core]; done) | ((try simp only [↓ev_core, ↓spend_core, ↓setCanc_core, ↓core_mk, core_fold, ↓ite_core, ite_self, ↓checkErrs_core, ↓fifoTake_core, ↓hpTake_core, ↓setErrs_core, ↓takeFields_core]) <;> (repeat' split) <;> (try simp only [↓ev_core, ↓spend_core, ↓setCanc_core, ↓core_mk, core_fold, ↓ite_core, ite_self, ↓checkErrs_core, ↓fifoTake_core, ↓hpTake_core, ↓setErrs_core, ↓takeFields_core]))
theorem hpRelease_core (s : Dev) (c : Nat) :
    (s.hpRelease c).core = s.core := by
  unfold Dev.hpRelease
  simp only [↓setBit_core]
theorem fifoPop_core (s : Dev) (c : Nat) :
    (s.fifoPop c).core = s.core := by
  unfold Dev.fifoPop
  simp only [↓setCanc_core, ↓core_mk, core_fold, ↓ite_core, ite_self, ↓showRxf_core]
theorem replaced_core (s : Dev) (c i : Nat) :
    (s.replaced c i).core = s.core := by
  unfold Dev.replaced
  simp only [↓cntSat_core, ↓ev_core, ↓ite_core, ite_self]
theorem honour_core (s : Dev) (c : Nat) :
    (s.honour c).core = s.core := by
  unfold Dev.honour
  first | (simp only [↓setCanc_core, ↓core_mk, core_fold, ↓ite_core, ite_self, ↓hostFrameEnd_core, ↓ledger_core, ↓replaced_core, ↓showTx_core]; done) | ((try simp only [↓setCanc_core, ↓core_mk, core_fold, ↓ite_core, ite_self, ↓hostFrameEnd_core, ↓ledger_core, ↓replaced_core, ↓showTx_core]) <;> (repeat' split) <;> (try simp only [↓setCanc_core, ↓core_mk, core_fold, ↓ite_core, ite_self, ↓hostFrameEnd_core, ↓ledger_core, ↓replaced_core, ↓showTx_core]))
theorem canError_core (s : Dev) (c : Nat) (k : CanErrKind) (conflict : Bool) :
    (s.canError c k conflict).core = s.core := by
  unfold Dev.canError
  first | (simp only [↓cntSat_core, ↓ev_core, ↓core_mk, core_fold, ↓ite_core, ite_self, ↓checkErrs_core, ↓honour_core, ↓setErrs_core]; done) | ((try simp only [↓cntSat_core, ↓ev_core, ↓core_mk, core_fold, ↓ite_core, ite_self, ↓checkErrs_core, ↓honour_core, ↓setErrs_core]) <;> (repeat' split) <;> (try simp only [↓cntSat_core, ↓ev_core, ↓core_mk, core_fold, ↓ite_core, ite_self, ↓checkErrs_core, ↓honour_core, ↓setErrs_core]))
theorem recoveryDone_core (s : Dev) (c : Nat) :
    (s.recoveryDone c).core = s.core := by
  unfold Dev.recoveryDone
  simp only [↓setBit_core, ↓ev_core, ↓ite_core, ite_self, ↓setCanState_core, ↓setErrs_core]
theorem skipFrame_core (s : Dev) (c i : Nat) :
    (s.skipFrame c i).core = s.core := by
  unfold Dev.skipFrame
  simp only [↓ev_core, ↓core_mk, core_fold, ↓ite_core, ite_self]
theorem unskip_core (s : Dev) (c i : Nat) :
    (s.unskip c i).core = s.core := by
  unfold Dev.unskip
  simp only [↓core_mk, core_fold]
theorem enqueue_core (s : Dev) (c : Nat) (t : CanTx) :
    (s.enqueue c t).core = s.core := by
  unfold Dev.enqueue
  first | (simp only [↓setCanc_core, ↓core_mk, core_fold, ↓ite_core, ite_self, ↓ledger_core, ↓refill_core, ↓replaced_core, ↓showTx_core, ↓unskip_core]; done) | ((try simp only [↓setCanc_core, ↓core_mk, core_fold, ↓ite_core, ite_self, ↓ledger_core, ↓refill_core, ↓replaced_core, ↓showTx_core, ↓unskip_core]) <;> (repeat' split) <;> (try simp only [↓setCanc_core, ↓core_mk, core_fold, ↓ite_core, ite_self, ↓ledger_core, ↓refill_core, ↓replaced_core, ↓showTx_core, ↓unskip_core]))
theorem streamDue_core (s : Dev) (i : Nat) :
    (s.streamDue i).core = s.core := by
  unfold Dev.streamDue
  simp only [↓setFld_core, ↓cntSat_core, ↓core_mk, core_fold, ↓ite_core, ite_self, ↓enqueue_core, ↓skipFrame_core]
theorem streamsP3_core (s : Dev) (n : Nat) :
    (s.streamsP3 n).core = s.core := by
  unfold Dev.streamsP3
  simp (disch := (intros; (try simp only [↓ite_core, ite_self, ↓streamDue_core]) <;> (try (split <;> simp only [↓ite_core, ite_self, ↓streamDue_core])))) only [↓ite_core, ite_self, ↓streamDue_core, each_core]
theorem trefLoad_core (s : Dev) (c : Nat) :
    (s.trefLoad c).core = s.core := by
  unfold Dev.trefLoad
  first | (simp only [↓setCanc_core, ↓core_mk, core_fold, ↓ite_core, ite_self, ↓ledger_core, ↓showTx_core, ↓skipFrame_core, ↓unskip_core]; done) | ((try simp only [↓setCanc_core, ↓core_mk, core_fold, ↓ite_core, ite_self, ↓ledger_core, ↓showTx_core, ↓skipFrame_core, ↓unskip_core]) <;> (repeat' split) <;> (try simp only [↓setCanc_core, ↓core_mk, core_fold, ↓ite_core, ite_self, ↓ledger_core, ↓showTx_core, ↓skipFrame_core, ↓unskip_core]))
theorem trefP3_core (s : Dev) :
    (s.trefP3).core = s.core := by
  unfold Dev.trefP3
  simp (disch := (intros; (try simp only [↓trefLoad_core]) <;> (try (split <;> simp only [↓trefLoad_core])))) only [↓trefLoad_core, each_core]
theorem canP0_core (s : Dev) :
    (s.canP0).core = s.core := by
  unfold Dev.canP0
  first | (simp (disch := (intros; (try simp only [↓wr_core, ↓core_mk, core_fold, ↓ite_core, ite_self]) <;> (repeat' split) <;> (try simp only [↓wr_core, ↓core_mk, core_fold, ↓ite_core, ite_self]))) only [↓wr_core, ↓core_mk, core_fold, ↓ite_core, ite_self, each_core]; done) | ((try simp (disch := (intros; (try simp only [↓wr_core, ↓core_mk, core_fold, ↓ite_core, ite_self]) <;> (repeat' split) <;> (try simp only [↓wr_core, ↓core_mk, core_fold, ↓ite_core, ite_self]))) only [↓wr_core, ↓core_mk, core_fold, ↓ite_core, ite_self, each_core]) <;> (repeat' split) <;> (try simp (disch := (intros; (try simp only [↓wr_core, ↓core_mk, core_fold, ↓ite_core, ite_self]) <;> (repeat' split) <;> (try simp only [↓wr_core, ↓core_mk, core_fold, ↓ite_core, ite_self]))) only [↓wr_core, ↓core_mk, core_fold, ↓ite_core, ite_self, each_core]))
theorem canWrite_core (s : Dev) (a : Nat) (v : Word) :
    (s.canWrite a v).core = s.core := by
  unfold Dev.canWrite
  simp only [↓ev_core, ↓store_core, ↓ite_core, ite_self, ↓canCtrl_core, ↓fifoPop_core, ↓hpRelease_core, ↓tb2Ctl_core]
theorem setPort_core (s : Dev) (b : Bool) (f : NetPort → NetPort) :
    (s.setPort b f).core = s.core := by
  unfold Dev.setPort
  simp only [↓core_mk, core_fold, ↓ite_core, ite_self]
theorem rateFallback_core (s : Dev) (b : Bool) :
    (s.rateFallback b).core = s.core := by
  unfold Dev.rateFallback
  simp only [↓core_mk, core_fold, ↓ite_core, ite_self, ↓setPort_core]
theorem portUp_core (s : Dev) (b gig1 : Bool) :
    (s.portUp b gig1).core = s.core := by
  unfold Dev.portUp
  simp only [↓setBit_core, ↓raise_core, ↓ev_core, ↓ite_core, ite_self]
theorem portDown_core (s : Dev) (b : Bool) :
    (s.portDown b).core = s.core := by
  unfold Dev.portDown
  simp only [↓setBit_core, ↓raise_core, ↓ev_core, ↓core_mk, core_fold, ↓ite_core, ite_self, ↓setPort_core]
theorem deliverNet_core (s : Dev) (f : NetFrame) :
    (s.deliverNet f).core = s.core := by
  unfold Dev.deliverNet
  simp only [↓cntSat_core, ↓ite_core, ite_self]
theorem rxErr_core (s : Dev) (b : Bool) :
    (s.rxErr b).core = s.core := by
  unfold Dev.rxErr
  simp only [↓cntSat_core, ↓ite_core, ite_self]
theorem dupAdd_core (s : Dev) (delivery : Bool) (e : DupEntry) :
    (s.dupAdd delivery e).core = s.core := by
  unfold Dev.dupAdd
  simp only [↓cntSat_core, ↓evW_core, ↓core_mk, core_fold, ↓ite_core, ite_self]
theorem egressPut_core (s : Dev) (b : Bool) (t : NetTx) :
    (s.egressPut b t).core = s.core := by
  unfold Dev.egressPut
  simp only [↓cntSat_core, ↓evW_core, ↓core_mk, core_fold, ↓ite_core, ite_self, ↓setPort_core]
theorem supReturn_core (s : Dev) (b : Bool) :
    (s.supReturn b).core = s.core := by
  unfold Dev.supReturn
  simp only [↓setBit_core, ↓ev_core, ↓core_mk, core_fold, ↓ite_core, ite_self, ↓setPort_core]
theorem forward_core (s : Dev) (b : Bool) (f : NetFrame) (good : Bool) :
    (s.forward b f good).core = s.core := by
  unfold Dev.forward
  simp only [↓cntWrap_core, ↓core_mk, core_fold, ↓ite_core, ite_self, ↓dupAdd_core, ↓egressPut_core]
theorem hsrFrame_core (s : Dev) (b : Bool) (f : NetFrame) :
    (s.hsrFrame b f).core = s.core := by
  unfold Dev.hsrFrame
  simp only [↓cntWrap_core, ↓ite_core, ite_self, ↓deliverNet_core, ↓dupAdd_core, ↓forward_core, ↓rxErr_core, ↓supReturn_core]
theorem ringFrame_core (s : Dev) (b : Bool) (f : NetFrame) :
    (s.ringFrame b f).core = s.core := by
  unfold Dev.ringFrame
  simp only [↓ite_core, ite_self, ↓deliverNet_core, ↓hsrFrame_core, ↓rxErr_core]
theorem prpFrame_core (s : Dev) (b : Bool) (f : NetFrame) :
    (s.prpFrame b f).core = s.core := by
  unfold Dev.prpFrame
  simp only [↓cntSat_core, ↓cntWrap_core, ↓evW_core, ↓ite_core, ite_self, ↓deliverNet_core, ↓dupAdd_core, ↓rxErr_core]
theorem dupExpire_core (s : Dev) (delivery : Bool) (src : BitVec 48) (sq : BitVec 16) (b : Bool) :
    (s.dupExpire delivery src sq b).core = s.core := by
  unfold Dev.dupExpire
  simp only [↓core_mk, core_fold, ↓ite_core, ite_self]
theorem egress_core (s : Dev) (b : Bool) (residence : Rat) :
    (s.egress b residence).core = s.core := by
  unfold Dev.egress
  first | (simp only [↓cntWrap_core, ↓spend_core, ↓core_mk, core_fold, ↓ite_core, ite_self, ↓setPort_core]; done) | ((try simp only [↓cntWrap_core, ↓spend_core, ↓core_mk, core_fold, ↓ite_core, ite_self, ↓setPort_core]) <;> (repeat' split) <;> (try simp only [↓cntWrap_core, ↓spend_core, ↓core_mk, core_fold, ↓ite_core, ite_self, ↓setPort_core]))
theorem originate_core (s : Dev) (dst : BitVec 48) (etype : BitVec 16) (ctrl : Bool) (udp : Nat) (ip : Word) (payload : List Byte) :
    (s.originate dst etype ctrl udp ip payload).core = s.core := by
  unfold Dev.originate
  simp only [↓core_mk, core_fold, ↓ite_core, ite_self, ↓egressPut_core]
theorem sendUdp_core (s : Dev) (port : Nat) (payload : List Byte) :
    (s.sendUdp port payload).core = s.core := by
  unfold Dev.sendUdp
  simp only [↓ite_core, ite_self, ↓originate_core]
theorem sendBrf_core (s : Dev) (kind : Nat) (fields : List Byte) :
    (s.sendBrf kind fields).core = s.core := by
  unfold Dev.sendBrf
  simp only [↓ite_core, ite_self, ↓originate_core]
theorem supervision_core (s : Dev) :
    (s.supervision).core = s.core := by
  unfold Dev.supervision
  simp only [↓ite_core, ite_self, ↓originate_core]
theorem ringOpen_core (s : Dev) :
    (s.ringOpen).core = s.core := by
  unfold Dev.ringOpen
  simp only [↓setBit_core, ↓ev_core, ↓ite_core, ite_self]
theorem retrain_core (s : Dev) :
    (s.retrain).core = s.core := by
  unfold Dev.retrain
  simp only [↓core_mk, core_fold, ↓portDown_core]
theorem netWrite_core (s : Dev) (a : Nat) (v : Word) :
    (s.netWrite a v).core = s.core := by
  unfold Dev.netWrite
  simp only [↓ev_core, ↓store_core, ↓core_mk, core_fold, ↓ite_core, ite_self]
theorem showGm_core (s : Dev) :
    (s.showGm).core = s.core := by
  unfold Dev.showGm
  first | (simp only [↓wrN_core, ↓ev_core, ↓core_mk, core_fold, ↓ite_core, ite_self]; done) | ((try simp only [↓wrN_core, ↓ev_core, ↓core_mk, core_fold, ↓ite_core, ite_self]) <;> (repeat' split) <;> (try simp only [↓wrN_core, ↓ev_core, ↓core_mk, core_fold, ↓ite_core, ite_self]))
theorem showSlave_core (s : Dev) :
    (s.showSlave).core = s.core := by
  unfold Dev.showSlave
  simp only [↓setBit_core]
theorem announce_core (s : Dev) (b : Bool) (a : AnnounceIn) :
    (s.announce b a).core = s.core := by
  unfold Dev.announce
  simp only [↓setBit_core, ↓core_mk, core_fold, ↓ite_core, ite_self, ↓setPort_core, ↓showGm_core, ↓showSlave_core, ↓showTime_core]
theorem sync_core (s : Dev) (b : Bool) (m : SyncIn) :
    (s.sync b m).core = s.core := by
  unfold Dev.sync
  first | (simp only [↓wr_core, ↓setBit_core, ↓raise_core, ↓core_mk, core_fold, ↓ite_core, ite_self, ↓changeSource_core, ↓discipline_core, ↓firstSet_core, ↓returnRule_core, ↓shiftLocal_core, ↓showTime_core]; done) | ((try simp only [↓wr_core, ↓setBit_core, ↓raise_core, ↓core_mk, core_fold, ↓ite_core, ite_self, ↓changeSource_core, ↓discipline_core, ↓firstSet_core, ↓returnRule_core, ↓shiftLocal_core, ↓showTime_core]) <;> (repeat' split) <;> (try simp only [↓wr_core, ↓setBit_core, ↓raise_core, ↓core_mk, core_fold, ↓ite_core, ite_self, ↓changeSource_core, ↓discipline_core, ↓firstSet_core, ↓returnRule_core, ↓shiftLocal_core, ↓showTime_core]))
theorem syncTimeout_core (s : Dev) :
    (s.syncTimeout).core = s.core := by
  unfold Dev.syncTimeout
  simp only [↓setBit_core, ↓raise_core, ↓evI_core, ↓core_mk, core_fold, ↓ite_core, ite_self, ↓setPort_core, ↓showSlave_core]
theorem ptpBound_core (s : Dev) :
    (s.ptpBound).core = s.core := by
  unfold Dev.ptpBound
  first | (simp only [↓wrN_core, ↓core_mk, core_fold]; done) | ((try simp only [↓wrN_core, ↓core_mk, core_fold]) <;> (repeat' split) <;> (try simp only [↓wrN_core, ↓core_mk, core_fold]))
theorem pdelaySend_core (s : Dev) (b : Bool) (typ : Nat) :
    (s.pdelaySend b typ).core = s.core := by
  unfold Dev.pdelaySend
  simp only [↓core_mk, core_fold, ↓ite_core, ite_self, ↓egressPut_core]
theorem pdelayReq_core (s : Dev) (b : Bool) :
    (s.pdelayReq b).core = s.core := by
  unfold Dev.pdelayReq
  simp only [↓pdelaySend_core]
theorem pdelay_core (s : Dev) (b : Bool) (m : PdelayIn) :
    (s.pdelay b m).core = s.core := by
  unfold Dev.pdelay
  first | (simp only [↓wrN_core, ↓core_mk, core_fold, ↓ite_core, ite_self, ↓pdelaySend_core, ↓setPort_core]; done) | ((try simp only [↓wrN_core, ↓core_mk, core_fold, ↓ite_core, ite_self, ↓pdelaySend_core, ↓setPort_core]) <;> (repeat' split) <;> (try simp only [↓wrN_core, ↓core_mk, core_fold, ↓ite_core, ite_self, ↓pdelaySend_core, ↓setPort_core]))
theorem syncSend_core (s : Dev) :
    (s.syncSend).core = s.core := by
  unfold Dev.syncSend
  simp only [↓core_mk, core_fold, ↓ite_core, ite_self, ↓originate_core]
theorem announceSend_core (s : Dev) :
    (s.announceSend).core = s.core := by
  unfold Dev.announceSend
  simp only [↓core_mk, core_fold, ↓ite_core, ite_self, ↓originate_core]
theorem s450_core (s : Dev) (ip : Word) (bytes : List Byte) :
    (s.s450 ip bytes).core = s.core := by
  unfold Dev.s450
  simp only [↓ite_core, ite_self, ↓reportRouted_core]
theorem tnow_core (s : Dev) :
    (s.tnow).core = s.core := by
  unfold Dev.tnow
  simp only [↓wr_core, ↓spend_core]
theorem showEvt_core (s : Dev) :
    (s.showEvt).core = s.core := by
  unfold Dev.showEvt
  simp only [↓wr_core, ↓setFld_core, ↓setBit_core]
theorem evtIn_core (s : Dev) (falling : Bool) (edgeNs held : Nat) :
    (s.evtIn falling edgeNs held).core = s.core := by
  unfold Dev.evtIn
  simp only [↓cntSat_core, ↓raise_core, ↓ev_core, ↓core_mk, core_fold, ↓ite_core, ite_self, ↓showEvt_core]
theorem evtPop_core (s : Dev) :
    (s.evtPop).core = s.core := by
  unfold Dev.evtPop
  simp only [↓core_mk, core_fold, ↓ite_core, ite_self, ↓showEvt_core]
theorem alarmGo_core (s : Dev) (a : Nat) (late stepped : Bool) :
    (s.alarmGo a late stepped).core = s.core := by
  unfold Dev.alarmGo
  simp only [↓setBit_core, ↓raise_core, ↓ev_core, ↓ite_core, ite_self]
theorem alarmArm_core (s : Dev) (a : Nat) (v : Word) :
    (s.alarmArm a v).core = s.core := by
  unfold Dev.alarmArm
  simp only [↓clrMask_core, ↓spend_core, ↓store_core, ↓ite_core, ite_self, ↓alarmGo_core]
theorem alarmFire_core (s : Dev) (a : Nat) :
    (s.alarmFire a).core = s.core := by
  unfold Dev.alarmFire
  simp only [↓ite_core, ite_self, ↓alarmGo_core]
theorem timeStep_core (s : Dev) :
    (s.timeStep).core = s.core := by
  unfold Dev.timeStep
  first | (simp (disch := (intros; (try simp only [↓evI_core, ↓core_mk, core_fold, ↓ite_core, ite_self, ↓alarmGo_core, ↓shiftLocal_core]) <;> (repeat' split) <;> (try simp only [↓evI_core, ↓core_mk, core_fold, ↓ite_core, ite_self, ↓alarmGo_core, ↓shiftLocal_core]))) only [↓evI_core, ↓core_mk, core_fold, ↓ite_core, ite_self, ↓alarmGo_core, ↓shiftLocal_core, each_core]; done) | ((try simp (disch := (intros; (try simp only [↓evI_core, ↓core_mk, core_fold, ↓ite_core, ite_self, ↓alarmGo_core, ↓shiftLocal_core]) <;> (repeat' split) <;> (try simp only [↓evI_core, ↓core_mk, core_fold, ↓ite_core, ite_self, ↓alarmGo_core, ↓shiftLocal_core]))) only [↓evI_core, ↓core_mk, core_fold, ↓ite_core, ite_self, ↓alarmGo_core, ↓shiftLocal_core, each_core]) <;> (repeat' split) <;> (try simp (disch := (intros; (try simp only [↓evI_core, ↓core_mk, core_fold, ↓ite_core, ite_self, ↓alarmGo_core, ↓shiftLocal_core]) <;> (repeat' split) <;> (try simp only [↓evI_core, ↓core_mk, core_fold, ↓ite_core, ite_self, ↓alarmGo_core, ↓shiftLocal_core]))) only [↓evI_core, ↓core_mk, core_fold, ↓ite_core, ite_self, ↓alarmGo_core, ↓shiftLocal_core, each_core]))
theorem latchTime_core (s : Dev) :
    (s.latchTime).core = s.core := by
  unfold Dev.latchTime
  simp only [↓core_mk, core_fold, ↓ite_core, ite_self]
theorem netBoundary_core (s : Dev) :
    (s.netBoundary).core = s.core := by
  unfold Dev.netBoundary
  simp only [↓core_mk, core_fold, ↓ite_core, ite_self, ↓latchTime_core, ↓ptpBound_core, ↓retrain_core, ↓showGm_core, ↓showSlave_core, ↓showTime_core]
theorem causeEvents_core (s : Dev) (cs : List (Nat × Nat × Nat)) :
    (s.causeEvents cs).core = s.core := by
  unfold Dev.causeEvents
  simp (disch := (intros; (try simp only [↓ev_core]) <;> (try (split <;> simp only [↓ev_core])))) only [↓ev_core, each_core]
theorem showInputs_core (s : Dev) :
    (s.showInputs).core = s.core := by
  unfold Dev.showInputs
  simp only [↓wrN_core]
theorem showResetLow_core (s : Dev) (low : Option Bool) :
    (s.showResetLow low).core = s.core := by
  unfold Dev.showResetLow
  first | (simp only [↓setBit_core, ↓core_mk, core_fold]; done) | ((try simp only [↓setBit_core, ↓core_mk, core_fold]) <;> (repeat' split) <;> (try simp only [↓setBit_core, ↓core_mk, core_fold]))
theorem setHolds_core (s : Dev) (h : Bool) :
    (s.setHolds h).core = s.core := by
  unfold Dev.setHolds
  simp only [↓setBit_core, ↓raise_core, ↓core_mk, core_fold, ↓ite_core, ite_self]
theorem selfRule_core (s : Dev) :
    (s.selfRule).core = s.core := by
  unfold Dev.selfRule
  simp only [↓core_mk, core_fold, ↓ite_core, ite_self, ↓setHolds_core]
theorem heartbeat_core (s : Dev) (p : List Byte) :
    (s.heartbeat p).core = s.core := by
  unfold Dev.heartbeat
  first | (simp only [↓core_mk, core_fold, ↓ite_core, ite_self]; done) | ((try simp only [↓core_mk, core_fold, ↓ite_core, ite_self]) <;> (repeat' split) <;> (try simp only [↓core_mk, core_fold, ↓ite_core, ite_self]))
theorem countPeer_core (s : Dev) (r : Nat) (hb : Option Word) :
    (s.countPeer r hb).core = s.core := by
  unfold Dev.countPeer
  first | (simp only [↓wr_core, ↓setFld_core, ↓cntSat_core, ↓core_mk, core_fold, ↓ite_core, ite_self]; done) | ((try simp only [↓wr_core, ↓setFld_core, ↓cntSat_core, ↓core_mk, core_fold, ↓ite_core, ite_self]) <;> (repeat' split) <;> (try simp only [↓wr_core, ↓setFld_core, ↓cntSat_core, ↓core_mk, core_fold, ↓ite_core, ite_self]))
theorem transfer_core (s : Dev) (second : Bool) (reason : Nat) :
    (s.transfer second reason).core = s.core := by
  unfold Dev.transfer
  simp only [↓setFld_core, ↓setBit_core, ↓raise_core, ↓ev_core, ↓core_mk, core_fold]
theorem showSwapLeft_core (s : Dev) :
    (s.showSwapLeft).core = s.core := by
  unfold Dev.showSwapLeft
  simp only [↓wrN_core, ↓ite_core, ite_self]
theorem wardenDecision_core (s : Dev) :
    (s.wardenDecision).core = s.core := by
  unfold Dev.wardenDecision
  first | (simp only [↓ev_core, ↓core_mk, core_fold, ↓ite_core, ite_self, ↓transfer_core]; done) | ((try simp only [↓ev_core, ↓core_mk, core_fold, ↓ite_core, ite_self, ↓transfer_core]) <;> (repeat' split) <;> (try simp only [↓ev_core, ↓core_mk, core_fold, ↓ite_core, ite_self, ↓transfer_core]))
theorem standTick2_core (s : Dev) :
    (s.standTick2).core = s.core := by
  unfold Dev.standTick2
  simp only [↓wrN_core, ↓setFld_core, ↓cntSat_core, ↓core_mk, core_fold, ↓ite_core, ite_self, ↓countPeer_core, ↓selfRule_core, ↓showSwapLeft_core, ↓wardenDecision_core]
theorem standingFrame_core (s : Dev) (p : List Byte) :
    (s.standingFrame p).core = s.core := by
  unfold Dev.standingFrame
  simp only [↓core_mk, core_fold, ↓ite_core, ite_self]
theorem takeFrame_core (s : Dev) :
    (s.takeFrame).core = s.core := by
  unfold Dev.takeFrame
  first | (simp only [↓wrN_core, ↓setFld_core, ↓setBit_core, ↓ev_core, ↓core_mk, core_fold, ↓ite_core, ite_self]; done) | ((try simp only [↓wrN_core, ↓setFld_core, ↓setBit_core, ↓ev_core, ↓core_mk, core_fold, ↓ite_core, ite_self]) <;> (repeat' split) <;> (try simp only [↓wrN_core, ↓setFld_core, ↓setBit_core, ↓ev_core, ↓core_mk, core_fold, ↓ite_core, ite_self]))
theorem applyFrame_core (s : Dev) :
    (s.applyFrame).core = s.core := by
  unfold Dev.applyFrame
  first | (simp only [↓setFld_core, ↓setBit_core, ↓raise_core, ↓core_mk, core_fold, ↓ite_core, ite_self, ↓setHolds_core]; done) | ((try simp only [↓setFld_core, ↓setBit_core, ↓raise_core, ↓core_mk, core_fold, ↓ite_core, ite_self, ↓setHolds_core]) <;> (repeat' split) <;> (try simp only [↓setFld_core, ↓setBit_core, ↓raise_core, ↓core_mk, core_fold, ↓ite_core, ite_self, ↓setHolds_core]))
theorem wardenGone_core (s : Dev) :
    (s.wardenGone).core = s.core := by
  unfold Dev.wardenGone
  simp only [↓wrN_core, ↓setBit_core, ↓ev_core, ↓ite_core, ite_self, ↓selfRule_core]
theorem peerAbsent_core (s : Dev) (_second : Bool) :
    (s.peerAbsent _second).core = s.core := by
  unfold Dev.peerAbsent
  simp only []
theorem standingCan_core (s : Dev) :
    (s.standingCan).core = s.core := by
  unfold Dev.standingCan
  simp (disch := (intros; (try simp only [↓core_mk, core_fold, ↓ite_core, ite_self, ↓enqueue_core, ↓skipFrame_core]) <;> (try (split <;> simp only [↓core_mk, core_fold, ↓ite_core, ite_self, ↓enqueue_core, ↓skipFrame_core])))) only [↓core_mk, core_fold, ↓ite_core, ite_self, ↓enqueue_core, ↓skipFrame_core, each_core]
theorem standSend_core (s : Dev) :
    (s.standSend).core = s.core := by
  unfold Dev.standSend
  simp only [↓cntWrap_core, ↓ite_core, ite_self, ↓sendBrf_core, ↓standingCan_core]
theorem standTick78_core (s : Dev) :
    (s.standTick78).core = s.core := by
  unfold Dev.standTick78
  simp (disch := (intros; (try simp only [↓core_mk, core_fold, ↓ite_core, ite_self, ↓sendBrf_core]) <;> (try (split <;> simp only [↓core_mk, core_fold, ↓ite_core, ite_self, ↓sendBrf_core])))) only [↓core_mk, core_fold, ↓ite_core, ite_self, ↓sendBrf_core, each_core]
theorem setPart_core (s : Dev) (p : List Byte) :
    (s.setPart p).core = s.core := by
  unfold Dev.setPart
  simp only [↓core_mk, core_fold, ↓ite_core, ite_self]
theorem loadThr_core (s : Dev) (e : List Byte) :
    (s.loadThr e).core = s.core := by
  unfold Dev.loadThr
  simp only [↓setBit_core, ↓core_mk, core_fold, ↓ite_core, ite_self]
theorem divergence_core (s : Dev) (es : List (List Byte)) :
    (s.divergence es).core = s.core := by
  unfold Dev.divergence
  first | (simp only [↓setBit_core, ↓ev_core, ↓core_mk, core_fold, ↓ite_core, ite_self]; done) | ((try simp only [↓setBit_core, ↓ev_core, ↓core_mk, core_fold, ↓ite_core, ite_self]) <;> (repeat' split) <;> (try simp only [↓setBit_core, ↓ev_core, ↓core_mk, core_fold, ↓ite_core, ite_self]))
theorem loadSet_core (s : Dev) (set : Nat) (ps : List SetPart) :
    (s.loadSet set ps).core = s.core := by
  unfold Dev.loadSet
  simp (disch := (intros; simp (disch := (intros; (try simp only [↓setBit_core, ↓cntWrap_core, ↓setGen_core, ↓core_mk, core_fold, ↓divergence_core, ↓loadThr_core]) <;> (try (split <;> simp only [↓setBit_core, ↓cntWrap_core, ↓setGen_core, ↓core_mk, core_fold, ↓divergence_core, ↓loadThr_core])))) only [↓setBit_core, ↓cntWrap_core, ↓setGen_core, ↓core_mk, core_fold, ↓divergence_core, ↓loadThr_core, each_core])) only [↓setBit_core, ↓cntWrap_core, ↓setGen_core, ↓core_mk, core_fold, ↓divergence_core, ↓loadThr_core, each_core]
theorem standTick79_core (s : Dev) :
    (s.standTick79).core = s.core := by
  unfold Dev.standTick79
  first | (simp (disch := (intros; (try simp only [↓cntSat_core, ↓ev_core, ↓core_mk, core_fold, ↓ite_core, ite_self, ↓loadSet_core]) <;> (repeat' split) <;> (try simp only [↓cntSat_core, ↓ev_core, ↓core_mk, core_fold, ↓ite_core, ite_self, ↓loadSet_core]))) only [↓cntSat_core, ↓ev_core, ↓core_mk, core_fold, ↓ite_core, ite_self, ↓loadSet_core, each_core]; done) | ((try simp (disch := (intros; (try simp only [↓cntSat_core, ↓ev_core, ↓core_mk, core_fold, ↓ite_core, ite_self, ↓loadSet_core]) <;> (repeat' split) <;> (try simp only [↓cntSat_core, ↓ev_core, ↓core_mk, core_fold, ↓ite_core, ite_self, ↓loadSet_core]))) only [↓cntSat_core, ↓ev_core, ↓core_mk, core_fold, ↓ite_core, ite_self, ↓loadSet_core, each_core]) <;> (repeat' split) <;> (try simp (disch := (intros; (try simp only [↓cntSat_core, ↓ev_core, ↓core_mk, core_fold, ↓ite_core, ite_self, ↓loadSet_core]) <;> (repeat' split) <;> (try simp only [↓cntSat_core, ↓ev_core, ↓core_mk, core_fold, ↓ite_core, ite_self, ↓loadSet_core]))) only [↓cntSat_core, ↓ev_core, ↓core_mk, core_fold, ↓ite_core, ite_self, ↓loadSet_core, each_core]))
theorem loadCtxs_core (s : Dev) :
    (s.loadCtxs).core = s.core := by
  unfold Dev.loadCtxs
  simp (disch := (intros; (try simp only [↓wr_core, ↓setLctx_core, ↓core_mk, core_fold, ↓ite_core, ite_self]) <;> (try (split <;> simp only [↓wr_core, ↓setLctx_core, ↓core_mk, core_fold, ↓ite_core, ite_self])))) only [↓wr_core, ↓setLctx_core, ↓core_mk, core_fold, ↓ite_core, ite_self, each_core]
theorem trackGone_core (s : Dev) :
    (s.trackGone).core = s.core := by
  unfold Dev.trackGone
  simp only [↓setBit_core, ↓ev_core, ↓ite_core, ite_self]
theorem swapFalls_core (s : Dev) :
    (s.swapFalls).core = s.core := by
  unfold Dev.swapFalls
  simp only [↓core_mk, core_fold, ↓ite_core, ite_self]
theorem swapCommand_core (s : Dev) :
    (s.swapCommand).core = s.core := by
  unfold Dev.swapCommand
  simp only [↓ev_core, ↓core_mk, core_fold, ↓ite_core, ite_self, ↓sessUse_core]
theorem standP0_core (s : Dev) (n : Nat) :
    (s.standP0 n).core = s.core := by
  unfold Dev.standP0
  simp only [↓ite_core, ite_self, ↓standTick2_core, ↓standTick79_core]
theorem standStart_core (s : Dev) (role : Option Nat) (unit : Nat) :
    (s.standStart role unit).core = s.core := by
  unfold Dev.standStart
  first | (simp only [↓wrN_core, ↓core_mk, core_fold]; done) | ((try simp only [↓wrN_core, ↓core_mk, core_fold]) <;> (repeat' split) <;> (try simp only [↓wrN_core, ↓core_mk, core_fold]))
theorem showPts_core (s : Dev) :
    (s.showPts).core = s.core := by
  unfold Dev.showPts
  simp only [↓setFld_core, ↓setBit_core, ↓core_mk, core_fold, ↓ite_core, ite_self]
theorem setPt_core (s : Dev) (x : ThktPt) :
    (s.setPt x).core = s.core := by
  unfold Dev.setPt
  simp only [↓core_mk, core_fold, ↓showPts_core]
theorem freePoint_core (s : Dev) (n : Nat) :
    (s.freePoint n).core = s.core := by
  unfold Dev.freePoint
  simp only [↓core_mk, core_fold, ↓showPts_core]
theorem showQueue_core (s : Dev) :
    (s.showQueue).core = s.core := by
  unfold Dev.showQueue
  simp only [↓wrN_core, ↓setFld_core]
theorem thktPosition_core (s : Dev) :
    (s.thktPosition).core = s.core := by
  unfold Dev.thktPosition
  first | (simp only [↓core_mk, core_fold, ↓ite_core, ite_self]; done) | ((try simp only [↓core_mk, core_fold, ↓ite_core, ite_self]) <;> (repeat' split) <;> (try simp only [↓core_mk, core_fold, ↓ite_core, ite_self]))
theorem formRecord_core (s : Dev) (r : RecIn) :
    (s.formRecord r).core = s.core := by
  unfold Dev.formRecord
  simp only [↓wrN_core, ↓cntWrap_core, ↓ev_core, ↓core_mk, core_fold, ↓ite_core, ite_self, ↓showQueue_core]
theorem refuseEntry_core (s : Dev) (gw code : Nat) :
    (s.refuseEntry gw code).core = s.core := by
  unfold Dev.refuseEntry
  simp only [↓cntSat_core, ↓ev_core, ↓ite_core, ite_self]
theorem tableFull_core (s : Dev) :
    (s.tableFull).core = s.core := by
  unfold Dev.tableFull
  simp only [↓setBit_core, ↓raise_core, ↓ev_core, ↓core_mk, core_fold, ↓ite_core, ite_self]
theorem collect_core (s : Dev) (kind gw old new : Nat) (x : ThktPt) (ns : Option Int) :
    (s.collect kind gw old new x ns).core = s.core := by
  unfold Dev.collect
  simp only [↓core_mk, core_fold]
theorem applyEntryThkt_core (s : Dev) (gw : Nat) (arrival : Int) (e : List Byte) :
    (s.applyEntryThkt gw arrival e).core = s.core := by
  unfold Dev.applyEntryThkt
  first | (simp only [↓core_mk, core_fold, ↓ite_core, ite_self, ↓collect_core, ↓formRecord_core, ↓refuseEntry_core, ↓setPt_core, ↓tableFull_core]; done) | ((try simp only [↓core_mk, core_fold, ↓ite_core, ite_self, ↓collect_core, ↓formRecord_core, ↓refuseEntry_core, ↓setPt_core, ↓tableFull_core]) <;> (repeat' split) <;> (try simp only [↓core_mk, core_fold, ↓ite_core, ite_self, ↓collect_core, ↓formRecord_core, ↓refuseEntry_core, ↓setPt_core, ↓tableFull_core]))
theorem thktFrame_core (s : Dev) (ip : Word) (b : List Byte) (arrival : Int) (queued : Nat) :
    (s.thktFrame ip b arrival queued).core = s.core := by
  unfold Dev.thktFrame
  first | (simp (disch := (intros; (try simp only [↓wrN_core, ↓setFld_core, ↓setBit_core, ↓cntWrap_core, ↓ev_core, ↓core_mk, core_fold, ↓ite_core, ite_self, ↓applyEntryThkt_core]) <;> (repeat' split) <;> (try simp only [↓wrN_core, ↓setFld_core, ↓setBit_core, ↓cntWrap_core, ↓ev_core, ↓core_mk, core_fold, ↓ite_core, ite_self, ↓applyEntryThkt_core]))) only [↓wrN_core, ↓setFld_core, ↓setBit_core, ↓cntWrap_core, ↓ev_core, ↓core_mk, core_fold, ↓ite_core, ite_self, ↓applyEntryThkt_core, each_core]; done) | ((try simp (disch := (intros; (try simp only [↓wrN_core, ↓setFld_core, ↓setBit_core, ↓cntWrap_core, ↓ev_core, ↓core_mk, core_fold, ↓ite_core, ite_self, ↓applyEntryThkt_core]) <;> (repeat' split) <;> (try simp only [↓wrN_core, ↓setFld_core, ↓setBit_core, ↓cntWrap_core, ↓ev_core, ↓core_mk, core_fold, ↓ite_core, ite_self, ↓applyEntryThkt_core]))) only [↓wrN_core, ↓setFld_core, ↓setBit_core, ↓cntWrap_core, ↓ev_core, ↓core_mk, core_fold, ↓ite_core, ite_self, ↓applyEntryThkt_core, each_core]) <;> (repeat' split) <;> (try simp (disch := (intros; (try simp only [↓wrN_core, ↓setFld_core, ↓setBit_core, ↓cntWrap_core, ↓ev_core, ↓core_mk, core_fold, ↓ite_core, ite_self, ↓applyEntryThkt_core]) <;> (repeat' split) <;> (try simp only [↓wrN_core, ↓setFld_core, ↓setBit_core, ↓cntWrap_core, ↓ev_core, ↓core_mk, core_fold, ↓ite_core, ite_self, ↓applyEntryThkt_core]))) only [↓wrN_core, ↓setFld_core, ↓setBit_core, ↓cntWrap_core, ↓ev_core, ↓core_mk, core_fold, ↓ite_core, ite_self, ↓applyEntryThkt_core, each_core]))
theorem silenceOf_core (s : Dev) (now : Int) (gh : Nat × Int) :
    (s.silenceOf now gh).core = s.core := by
  unfold Dev.silenceOf
  simp (disch := (intros; (try simp only [↓setBit_core, ↓raise_core, ↓ev_core, ↓core_mk, core_fold, ↓ite_core, ite_self, ↓collect_core, ↓setPt_core]) <;> (try (split <;> simp only [↓setBit_core, ↓raise_core, ↓ev_core, ↓core_mk, core_fold, ↓ite_core, ite_self, ↓collect_core, ↓setPt_core])))) only [↓setBit_core, ↓raise_core, ↓ev_core, ↓core_mk, core_fold, ↓ite_core, ite_self, ↓collect_core, ↓setPt_core, each_core]
theorem silence_core (s : Dev) (now : Int) :
    (s.silence now).core = s.core := by
  unfold Dev.silence
  simp (disch := (intros; (try simp only [↓silenceOf_core]) <;> (try (split <;> simp only [↓silenceOf_core])))) only [↓silenceOf_core, each_core]
theorem gatewayGone_core (s : Dev) (g : Nat) :
    (s.gatewayGone g).core = s.core := by
  unfold Dev.gatewayGone
  simp (disch := (intros; (try simp only [↓silenceOf_core]) <;> (try (split <;> simp only [↓silenceOf_core])))) only [↓silenceOf_core, each_core]
theorem takeRelease_core (s : Dev) (now : Int) (n : Nat) :
    (s.takeRelease now n).core = s.core := by
  unfold Dev.takeRelease
  first | (simp only [↓wrN_core, ↓ev_core, ↓core_mk, core_fold, ↓ite_core, ite_self, ↓formRecord_core, ↓freePoint_core, ↓refuseEntry_core]; done) | ((try simp only [↓wrN_core, ↓ev_core, ↓core_mk, core_fold, ↓ite_core, ite_self, ↓formRecord_core, ↓freePoint_core, ↓refuseEntry_core]) <;> (repeat' split) <;> (try simp only [↓wrN_core, ↓ev_core, ↓core_mk, core_fold, ↓ite_core, ite_self, ↓formRecord_core, ↓freePoint_core, ↓refuseEntry_core]))
theorem takeReleases_core (s : Dev) (now : Int) :
    (s.takeReleases now).core = s.core := by
  unfold Dev.takeReleases
  simp (disch := (intros; (try simp only [↓core_mk, core_fold, ↓takeRelease_core]) <;> (try (split <;> simp only [↓core_mk, core_fold, ↓takeRelease_core])))) only [↓core_mk, core_fold, ↓takeRelease_core, each_core]
theorem takeCorrupt_core (s : Dev) (now : Int) :
    (s.takeCorrupt now).core = s.core := by
  unfold Dev.takeCorrupt
  simp (disch := (intros; (try simp only [↓core_mk, core_fold, ↓ite_core, ite_self, ↓formRecord_core]) <;> (try (split <;> simp only [↓core_mk, core_fold, ↓ite_core, ite_self, ↓formRecord_core])))) only [↓core_mk, core_fold, ↓ite_core, ite_self, ↓formRecord_core, each_core]
theorem formGroup_core (s : Dev) (now : Int) (xs : List ThktItem) :
    (s.formGroup now xs).core = s.core := by
  unfold Dev.formGroup
  first | (simp only [↓core_mk, core_fold, ↓ite_core, ite_self, ↓formRecord_core]; done) | ((try simp only [↓core_mk, core_fold, ↓ite_core, ite_self, ↓formRecord_core]) <;> (repeat' split) <;> (try simp only [↓core_mk, core_fold, ↓ite_core, ite_self, ↓formRecord_core]))
theorem formSingle_core (s : Dev) (now : Int) (x : ThktItem) :
    (s.formSingle now x).core = s.core := by
  unfold Dev.formSingle
  simp only [↓core_mk, core_fold, ↓ite_core, ite_self, ↓formRecord_core]
theorem closeRecords_core (s : Dev) (now : Int) :
    (s.closeRecords now).core = s.core := by
  unfold Dev.closeRecords
  simp (disch := (intros; simp (disch := (intros; (try simp only [↓core_mk, core_fold, ↓formGroup_core, ↓formSingle_core, ↓takeCorrupt_core, ↓takeReleases_core]) <;> (try (split <;> simp only [↓core_mk, core_fold, ↓formGroup_core, ↓formSingle_core, ↓takeCorrupt_core, ↓takeReleases_core])))) only [↓core_mk, core_fold, ↓formGroup_core, ↓formSingle_core, ↓takeCorrupt_core, ↓takeReleases_core, each_core])) only [↓core_mk, core_fold, ↓formGroup_core, ↓formSingle_core, ↓takeCorrupt_core, ↓takeReleases_core, each_core]
theorem thktBoundary_core (s : Dev) :
    (s.thktBoundary).core = s.core := by
  unfold Dev.thktBoundary
  simp only [↓ite_core, ite_self, ↓closeRecords_core, ↓silence_core, ↓thktPosition_core]
theorem signHead_core (s : Dev) :
    (s.signHead).core = s.core := by
  unfold Dev.signHead
  first | (simp only [↓spend_core, ↓core_mk, core_fold, ↓ite_core, ite_self]; done) | ((try simp only [↓spend_core, ↓core_mk, core_fold, ↓ite_core, ite_self]) <;> (repeat' split) <;> (try simp only [↓spend_core, ↓core_mk, core_fold, ↓ite_core, ite_self]))
theorem ringTakes_core (s : Dev) (c : CustRec) :
    (s.ringTakes c).1.core = s.core := by
  unfold Dev.ringTakes
  first | (simp only [↓core_mk, core_fold, ↓ite_core, ite_self, ↓report_core]; done) | ((try simp only [↓core_mk, core_fold, ↓ite_core, ite_self, ↓report_core]) <;> (repeat' split) <;> (try simp only [↓core_mk, core_fold, ↓ite_core, ite_self, ↓report_core]))
theorem handoff_core (s : Dev) :
    (s.handoff).core = s.core := by
  unfold Dev.handoff
  first | (simp only [↓cntWrap_core, ↓core_mk, core_fold, ↓ite_core, ite_self, ↓ringTakes_core, ↓showQueue_core]; done) | ((try simp only [↓cntWrap_core, ↓core_mk, core_fold, ↓ite_core, ite_self, ↓ringTakes_core, ↓showQueue_core]) <;> (repeat' split) <;> (try simp only [↓cntWrap_core, ↓core_mk, core_fold, ↓ite_core, ite_self, ↓ringTakes_core, ↓showQueue_core]))
theorem releaseCommand_core (s : Dev) (v : Word) :
    (s.releaseCommand v).core = s.core := by
  unfold Dev.releaseCommand
  simp only [↓wrN_core, ↓core_mk, core_fold, ↓ite_core, ite_self, ↓sessUse_core]
theorem pointEcc_core (s : Dev) (n ecc : Nat) :
    (s.pointEcc n ecc).core = s.core := by
  unfold Dev.pointEcc
  simp only [↓cntSat_core, ↓ev_core, ↓core_mk, core_fold, ↓ite_core, ite_self, ↓freePoint_core]
theorem latchPoint_core (s : Dev) (v : Word) (ecc : Nat) :
    (s.latchPoint v ecc).core = s.core := by
  unfold Dev.latchPoint
  simp (disch := (intros; (try simp only [↓wrN_core, ↓pointEcc_core]) <;> (try (split <;> simp only [↓wrN_core, ↓pointEcc_core])))) only [↓wrN_core, ↓pointEcc_core, each_core]
theorem findStart_core (s : Dev) (v : Word) :
    (s.findStart v).core = s.core := by
  unfold Dev.findStart
  simp only [↓wrN_core, ↓ite_core, ite_self]
theorem findDone_core (s : Dev) :
    (s.findDone).core = s.core := by
  unfold Dev.findDone
  first | (simp only [↓wrN_core, ↓core_mk, core_fold, ↓ite_core, ite_self]; done) | ((try simp only [↓wrN_core, ↓core_mk, core_fold, ↓ite_core, ite_self]) <;> (repeat' split) <;> (try simp only [↓wrN_core, ↓core_mk, core_fold, ↓ite_core, ite_self]))
theorem readPoints_core (s : Dev) (first count : Nat) (bad : List Nat) (corr : Nat) :
    (s.readPoints first count bad corr).1.core = s.core := by
  unfold Dev.readPoints
  first | (simp (disch := (intros; (try simp only [↓cntSat_core, ↓pointEcc_core]) <;> (try (split <;> simp only [↓cntSat_core, ↓pointEcc_core])))) only [↓cntSat_core, ↓pointEcc_core, each_core]; done) | ((try simp (disch := (intros; (try simp only [↓cntSat_core, ↓pointEcc_core]) <;> (try (split <;> simp only [↓cntSat_core, ↓pointEcc_core])))) only [↓cntSat_core, ↓pointEcc_core, each_core]) <;> (repeat' split) <;> (try simp (disch := (intros; (try simp only [↓cntSat_core, ↓pointEcc_core]) <;> (try (split <;> simp only [↓cntSat_core, ↓pointEcc_core])))) only [↓cntSat_core, ↓pointEcc_core, each_core]))
theorem setBucket_core (s : Dev) (b : Bucket) :
    (s.setBucket b).core = s.core := by
  unfold Dev.setBucket
  simp only [↓core_mk, core_fold, ↓ite_core, ite_self]
theorem showLog_core (s : Dev) :
    (s.showLog).core = s.core := by
  unfold Dev.showLog
  simp only [↓wr_core, ↓wrN_core, ↓setFld_core]
theorem dropRecord_core (s : Dev) (r : DuffRec) (ring : Bool) :
    (s.dropRecord r ring).core = s.core := by
  unfold Dev.dropRecord
  simp only [↓cntSat_core, ↓cntWrap_core, ↓raise_core, ↓evW_core, ↓core_mk, core_fold, ↓ite_core, ite_self]
theorem duffPut_core (s : Dev) (r : DuffRec) :
    (s.duffPut r).core = s.core := by
  unfold Dev.duffPut
  simp only [↓wr_core, ↓cntWrap_core, ↓core_mk, core_fold, ↓ite_core, ite_self, ↓dropRecord_core]
theorem placeRecord_core (s : Dev) (code : Nat) (r : DuffRec) :
    (s.placeRecord code r).core = s.core := by
  unfold Dev.placeRecord
  simp only [↓core_mk, core_fold, ↓ite_core, ite_self, ↓dropRecord_core, ↓duffPut_core]
theorem eventRecord_core (s : Dev) :
    (s.eventRecord).core = s.core := by
  unfold Dev.eventRecord
  first | (simp only [↓cntWrap_core, ↓core_mk, core_fold, ↓ite_core, ite_self, ↓placeRecord_core, ↓setBucket_core, ↓showLog_core]; done) | ((try simp only [↓cntWrap_core, ↓core_mk, core_fold, ↓ite_core, ite_self, ↓placeRecord_core, ↓setBucket_core, ↓showLog_core]) <;> (repeat' split) <;> (try simp only [↓cntWrap_core, ↓core_mk, core_fold, ↓ite_core, ite_self, ↓placeRecord_core, ↓setBucket_core, ↓showLog_core]))
theorem emitMerged_core (s : Dev) (b : Bucket) :
    (s.emitMerged b).core = s.core := by
  unfold Dev.emitMerged
  simp only [↓spend_core, ↓core_mk, core_fold, ↓placeRecord_core]
theorem refillBuckets_core (s : Dev) :
    (s.refillBuckets).core = s.core := by
  unfold Dev.refillBuckets
  simp (disch := (intros; (try simp only [↓core_mk, core_fold, ↓ite_core, ite_self, ↓emitMerged_core, ↓setBucket_core, ↓showLog_core]) <;> (try (split <;> simp only [↓core_mk, core_fold, ↓ite_core, ite_self, ↓emitMerged_core, ↓setBucket_core, ↓showLog_core])))) only [↓core_mk, core_fold, ↓ite_core, ite_self, ↓emitMerged_core, ↓setBucket_core, ↓showLog_core, each_core]
theorem mergeAll_core (s : Dev) :
    (s.mergeAll).core = s.core := by
  unfold Dev.mergeAll
  simp (disch := (intros; (try simp only [↓core_mk, core_fold, ↓emitMerged_core, ↓setBucket_core, ↓showLog_core]) <;> (try (split <;> simp only [↓core_mk, core_fold, ↓emitMerged_core, ↓setBucket_core, ↓showLog_core])))) only [↓core_mk, core_fold, ↓emitMerged_core, ↓setBucket_core, ↓showLog_core, each_core]
theorem pinUse_core (s : Dev) :
    (s.pinUse).core = s.core := by
  unfold Dev.pinUse
  simp only [↓setFld_core, ↓setBit_core, ↓raise_core, ↓ev_core, ↓core_mk, core_fold, ↓ite_core, ite_self]
theorem retireBlock_core (s : Dev) (b : Nat) :
    (s.retireBlock b).core = s.core := by
  unfold Dev.retireBlock
  simp only [↓cntSat_core, ↓ev_core, ↓core_mk, core_fold]
theorem showCirc_core (s : Dev) :
    (s.showCirc).core = s.core := by
  unfold Dev.showCirc
  simp only [↓wrN_core, ↓ite_core, ite_self]
theorem circBlock_core (s d : Dev) (h : s.circBlock = some d) : d.core = s.core := by
  unfold Dev.circBlock at h
  split_ifs at h
  · cases h; rfl
  · obtain ⟨b, -, rfl⟩ := Option.map_eq_some_iff.1 h; rfl
theorem circWrite_core (s : Dev) (r : List Byte) (ok : Bool) :
    (s.circWrite r ok).1.core = s.core := by
  unfold Dev.circWrite
  split
  · rfl
  · rename_i d h
    rw [← circBlock_core s d h]
    split <;> simp only [↓showCirc_core, ↓retireBlock_core, ↓core_mk, core_fold]
theorem pinWrite_core (s : Dev) (r : List Byte) (ok : Bool) :
    (s.pinWrite r ok).1.core = s.core := by
  unfold Dev.pinWrite
  first | (simp only [↓core_mk, core_fold, ↓ite_core, ite_self, ↓pinUse_core, ↓retireBlock_core]; done) | ((try simp only [↓core_mk, core_fold, ↓ite_core, ite_self, ↓pinUse_core, ↓retireBlock_core]) <;> (repeat' split) <;> (try simp only [↓core_mk, core_fold, ↓ite_core, ite_self, ↓pinUse_core, ↓retireBlock_core]))
theorem custWrite_core (s : Dev) (c : CustRec) (ok : Bool) :
    (s.custWrite c ok).1.core = s.core := by
  unfold Dev.custWrite
  first | (simp only [↓core_mk, core_fold, ↓ite_core, ite_self, ↓pinUse_core, ↓retireBlock_core]; done) | ((try simp only [↓core_mk, core_fold, ↓ite_core, ite_self, ↓pinUse_core, ↓retireBlock_core]) <;> (repeat' split) <;> (try simp only [↓core_mk, core_fold, ↓ite_core, ite_self, ↓pinUse_core, ↓retireBlock_core]))
theorem handedOff_core (s : Dev) (w : Nat) :
    (s.handedOff w).core = s.core := by
  unfold Dev.handedOff
  simp only [↓cntWrap_core, ↓core_mk, core_fold]
theorem ringlogWrite_core (s : Dev) (ok : Bool) :
    (s.ringlogWrite ok).core = s.core := by
  unfold Dev.ringlogWrite
  first | (simp only [↓core_mk, core_fold, ↓ite_core, ite_self, ↓circWrite_core, ↓custWrite_core, ↓handedOff_core, ↓pinWrite_core, ↓showLog_core]; done) | ((try simp only [↓core_mk, core_fold, ↓ite_core, ite_self, ↓circWrite_core, ↓custWrite_core, ↓handedOff_core, ↓pinWrite_core, ↓showLog_core]) <;> (repeat' split) <;> (try simp only [↓core_mk, core_fold, ↓ite_core, ite_self, ↓circWrite_core, ↓custWrite_core, ↓handedOff_core, ↓pinWrite_core, ↓showLog_core]))
theorem countErase_core (s : Dev) (b : Nat) :
    (s.countErase b).core = s.core := by
  unfold Dev.countErase
  simp only [↓setFld_core, ↓ev_core, ↓core_mk, core_fold, ↓ite_core, ite_self]
theorem norErase_core (s : Dev) (ok : Bool) :
    (s.norErase ok).core = s.core := by
  unfold Dev.norErase
  first | (simp only [↓core_mk, core_fold, ↓ite_core, ite_self, ↓countErase_core, ↓retireBlock_core]; done) | ((try simp only [↓core_mk, core_fold, ↓ite_core, ite_self, ↓countErase_core, ↓retireBlock_core]) <;> (repeat' split) <;> (try simp only [↓core_mk, core_fold, ↓ite_core, ite_self, ↓countErase_core, ↓retireBlock_core]))
theorem stateSave_core (s : Dev) :
    (s.stateSave).core = s.core := by
  unfold Dev.stateSave
  simp only [↓core_mk, core_fold, ↓ite_core, ite_self]
theorem freezeBegin_core (s : Dev) :
    (s.freezeBegin).core = s.core := by
  unfold Dev.freezeBegin
  simp only [↓setBit_core, ↓ev_core, ↓core_mk, core_fold, ↓ite_core, ite_self, ↓sessUse_core]
theorem freezeStop_core (s : Dev) (why : Nat) :
    (s.freezeStop why).core = s.core := by
  unfold Dev.freezeStop
  simp only [↓setBit_core, ↓ev_core, ↓ite_core, ite_self]
theorem freezeEnd_core (s : Dev) :
    (s.freezeEnd).core = s.core := by
  unfold Dev.freezeEnd
  simp only [↓ite_core, ite_self, ↓freezeStop_core, ↓sessUse_core]
theorem freezeExpire_core (s : Dev) :
    (s.freezeExpire).core = s.core := by
  unfold Dev.freezeExpire
  simp only [↓ite_core, ite_self, ↓freezeStop_core]
theorem clearCommand_core (s : Dev) (v : Word) :
    (s.clearCommand v).core = s.core := by
  unfold Dev.clearCommand
  simp only [↓wrN_core, ↓setFld_core, ↓setBit_core, ↓ev_core, ↓core_mk, core_fold, ↓ite_core, ite_self, ↓sessUse_core]
theorem clearComplete_core (s : Dev) :
    (s.clearComplete).core = s.core := by
  unfold Dev.clearComplete
  first | (simp (disch := (intros; (try simp only [↓wrN_core, ↓setBit_core, ↓spend_core, ↓core_mk, core_fold, ↓ite_core, ite_self, ↓circWrite_core, ↓countErase_core, ↓pinUse_core, ↓pinWrite_core, ↓showCirc_core]) <;> (repeat' split) <;> (try simp only [↓wrN_core, ↓setBit_core, ↓spend_core, ↓core_mk, core_fold, ↓ite_core, ite_self, ↓circWrite_core, ↓countErase_core, ↓pinUse_core, ↓pinWrite_core, ↓showCirc_core]))) only [↓wrN_core, ↓setBit_core, ↓spend_core, ↓core_mk, core_fold, ↓ite_core, ite_self, ↓circWrite_core, ↓countErase_core, ↓pinUse_core, ↓pinWrite_core, ↓showCirc_core, each_core]; done) | ((try simp (disch := (intros; (try simp only [↓wrN_core, ↓setBit_core, ↓spend_core, ↓core_mk, core_fold, ↓ite_core, ite_self, ↓circWrite_core, ↓countErase_core, ↓pinUse_core, ↓pinWrite_core, ↓showCirc_core]) <;> (repeat' split) <;> (try simp only [↓wrN_core, ↓setBit_core, ↓spend_core, ↓core_mk, core_fold, ↓ite_core, ite_self, ↓circWrite_core, ↓countErase_core, ↓pinUse_core, ↓pinWrite_core, ↓showCirc_core]))) only [↓wrN_core, ↓setBit_core, ↓spend_core, ↓core_mk, core_fold, ↓ite_core, ite_self, ↓circWrite_core, ↓countErase_core, ↓pinUse_core, ↓pinWrite_core, ↓showCirc_core, each_core]) <;> (repeat' split) <;> (try simp (disch := (intros; (try simp only [↓wrN_core, ↓setBit_core, ↓spend_core, ↓core_mk, core_fold, ↓ite_core, ite_self, ↓circWrite_core, ↓countErase_core, ↓pinUse_core, ↓pinWrite_core, ↓showCirc_core]) <;> (repeat' split) <;> (try simp only [↓wrN_core, ↓setBit_core, ↓spend_core, ↓core_mk, core_fold, ↓ite_core, ite_self, ↓circWrite_core, ↓countErase_core, ↓pinUse_core, ↓pinWrite_core, ↓showCirc_core]))) only [↓wrN_core, ↓setBit_core, ↓spend_core, ↓core_mk, core_fold, ↓ite_core, ite_self, ↓circWrite_core, ↓countErase_core, ↓pinUse_core, ↓pinWrite_core, ↓showCirc_core, each_core]))
theorem logReports_core (s : Dev) :
    (s.logReports).core = s.core := by
  unfold Dev.logReports
  simp (disch := (intros; (try simp only [↓core_mk, core_fold, ↓reportRouted_core]) <;> (try (split <;> simp only [↓core_mk, core_fold, ↓reportRouted_core])))) only [↓core_mk, core_fold, ↓reportRouted_core, each_core]
theorem journal_core (s : Dev) (e : List Byte) :
    (s.journal e).core = s.core := by
  unfold Dev.journal
  simp only [↓core_mk, core_fold, ↓ite_core, ite_self]
theorem latchBand_core (s : Dev) :
    (s.latchBand).core = s.core := by
  unfold Dev.latchBand
  simp only [↓setFld_core, ↓ev_core, ↓ite_core, ite_self]
theorem panelBegin_core (s : Dev) (again : Bool) :
    (s.panelBegin again).core = s.core := by
  unfold Dev.panelBegin
  simp only [↓setFld_core, ↓setBit_core, ↓cntWrap_core, ↓core_mk, core_fold, ↓ite_core, ite_self, ↓journal_core, ↓latchBand_core]
theorem panelStart_core (s : Dev) :
    (s.panelStart).core = s.core := by
  unfold Dev.panelStart
  simp only [↓setBit_core, ↓ite_core, ite_self, ↓panelBegin_core]
theorem powerGood_core (s : Dev) (tiles : List Nat) :
    (s.powerGood tiles).core = s.core := by
  unfold Dev.powerGood
  first | (simp only [↓core_mk, core_fold, ↓ite_core, ite_self]; done) | ((try simp only [↓core_mk, core_fold, ↓ite_core, ite_self]) <;> (repeat' split) <;> (try simp only [↓core_mk, core_fold, ↓ite_core, ite_self]))
theorem panelAbandon_core (s : Dev) (i2c : Bool) :
    (s.panelAbandon i2c).core = s.core := by
  unfold Dev.panelAbandon
  first | (simp only [↓setBit_core, ↓raise_core, ↓ev_core, ↓core_mk, core_fold, ↓ite_core, ite_self]; done) | ((try simp only [↓setBit_core, ↓raise_core, ↓ev_core, ↓core_mk, core_fold, ↓ite_core, ite_self]) <;> (repeat' split) <;> (try simp only [↓setBit_core, ↓raise_core, ↓ev_core, ↓core_mk, core_fold, ↓ite_core, ite_self]))
theorem panelEnd_core (s : Dev) :
    (s.panelEnd).core = s.core := by
  unfold Dev.panelEnd
  first | (simp only [↓setFld_core, ↓setBit_core, ↓cntWrap_core, ↓ev_core, ↓core_mk, core_fold, ↓ite_core, ite_self, ↓journal_core, ↓panelBegin_core]; done) | ((try simp only [↓setFld_core, ↓setBit_core, ↓cntWrap_core, ↓ev_core, ↓core_mk, core_fold, ↓ite_core, ite_self, ↓journal_core, ↓panelBegin_core]) <;> (repeat' split) <;> (try simp only [↓setFld_core, ↓setBit_core, ↓cntWrap_core, ↓ev_core, ↓core_mk, core_fold, ↓ite_core, ite_self, ↓journal_core, ↓panelBegin_core]))
theorem panelRetry_core (s : Dev) :
    (s.panelRetry).core = s.core := by
  unfold Dev.panelRetry
  simp only [↓ite_core, ite_self, ↓panelBegin_core]
theorem panelTemp_core (s : Dev) (reading : Option Int) :
    (s.panelTemp reading).core = s.core := by
  unfold Dev.panelTemp
  first | (simp only [↓setFld_core, ↓setBit_core, ↓ev_core, ↓core_mk, core_fold, ↓ite_core, ite_self]; done) | ((try simp only [↓setFld_core, ↓setBit_core, ↓ev_core, ↓core_mk, core_fold, ↓ite_core, ite_self]) <;> (repeat' split) <;> (try simp only [↓setFld_core, ↓setBit_core, ↓ev_core, ↓core_mk, core_fold, ↓ite_core, ite_self]))
theorem barkMeasure_core (s : Dev) (ohms : Nat) :
    (s.barkMeasure ohms).core = s.core := by
  unfold Dev.barkMeasure
  simp only [↓setFld_core, ↓setBit_core, ↓raise_core, ↓ev_core, ↓core_mk, core_fold, ↓ite_core, ite_self]
theorem ringcountSave_core (s : Dev) :
    (s.ringcountSave).core = s.core := by
  unfold Dev.ringcountSave
  simp only [↓core_mk, core_fold, ↓ite_core, ite_self]
theorem panelBoot_core (s : Dev) (temp : Option Int) :
    (s.panelBoot temp).core = s.core := by
  unfold Dev.panelBoot
  first | (simp only [↓setFld_core, ↓setBit_core, ↓ev_core, ↓core_mk, core_fold, ↓ite_core, ite_self, ↓journal_core, ↓latchBand_core, ↓panelTemp_core]; done) | ((try simp only [↓setFld_core, ↓setBit_core, ↓ev_core, ↓core_mk, core_fold, ↓ite_core, ite_self, ↓journal_core, ↓latchBand_core, ↓panelTemp_core]) <;> (repeat' split) <;> (try simp only [↓setFld_core, ↓setBit_core, ↓ev_core, ↓core_mk, core_fold, ↓ite_core, ite_self, ↓journal_core, ↓latchBand_core, ↓panelTemp_core]))
theorem withShadow_core (s : Dev) (ws : List (Nat × Word)) :
    (s.withShadow ws).core = s.core := by
  unfold Dev.withShadow
  first | (simp (disch := (intros; (try simp only [↓wr_core, ↓core_mk, core_fold, ↓ite_core, ite_self]) <;> (repeat' split) <;> (try simp only [↓wr_core, ↓core_mk, core_fold, ↓ite_core, ite_self]))) only [↓wr_core, ↓core_mk, core_fold, ↓ite_core, ite_self, each_core]; done) | ((try simp (disch := (intros; (try simp only [↓wr_core, ↓core_mk, core_fold, ↓ite_core, ite_self]) <;> (repeat' split) <;> (try simp only [↓wr_core, ↓core_mk, core_fold, ↓ite_core, ite_self]))) only [↓wr_core, ↓core_mk, core_fold, ↓ite_core, ite_self, each_core]) <;> (repeat' split) <;> (try simp (disch := (intros; (try simp only [↓wr_core, ↓core_mk, core_fold, ↓ite_core, ite_self]) <;> (repeat' split) <;> (try simp only [↓wr_core, ↓core_mk, core_fold, ↓ite_core, ite_self]))) only [↓wr_core, ↓core_mk, core_fold, ↓ite_core, ite_self, each_core]))
theorem commitCtx_core (old : Dev) (s : Dev) (c : Nat) :
    (commitCtx old s c).core = s.core := by
  unfold commitCtx
  simp (disch := (intros; (try simp only [↓wr_core, ↓setLctx_core, ↓core_mk, core_fold, ↓ite_core, ite_self, ↓setCtxState_core, ↓toClearing_core]) <;> (try (split <;> simp only [↓wr_core, ↓setLctx_core, ↓core_mk, core_fold, ↓ite_core, ite_self, ↓setCtxState_core, ↓toClearing_core])))) only [↓wr_core, ↓setLctx_core, ↓core_mk, core_fold, ↓ite_core, ite_self, ↓setCtxState_core, ↓toClearing_core, each_core]
theorem commitGen_core (old : Dev) (s : Dev) (g : Nat) :
    (commitGen old s g).core = s.core := by
  unfold commitGen
  simp only [↓wr_core, ↓setBit_core, ↓setGen_core, ↓core_mk, core_fold, ↓ite_core, ite_self, ↓showGen_core]
theorem commitField_core (old : Dev) (s : Dev) (k : Nat) :
    (commitField old s k).core = s.core := by
  unfold commitField
  simp only [↓core_mk, core_fold, ↓ite_core, ite_self]
theorem withTables_core (old : Dev) (ws : List (Nat × Word)) (est : Option (List Byte)) :
    (old.withTables ws est).core = old.core := by
  unfold Dev.withTables
  first | (simp only [↓core_mk, core_fold, ↓withShadow_core]; done) | ((try simp only [↓core_mk, core_fold, ↓withShadow_core]) <;> (repeat' split) <;> (try simp only [↓core_mk, core_fold, ↓withShadow_core]))
theorem commitApply_core (old : Dev) (ws : List (Nat × Word)) (sects : List Nat) (est : Option (List Byte)) :
    (old.commitApply ws sects est).core = old.core := by
  unfold Dev.commitApply
  simp (disch := (intros; simp (disch := (intros; (try simp only [↓ev_core, ↓core_mk, core_fold, ↓ite_core, ite_self, ↓allocCommit_core, ↓commitCtx_core, ↓commitField_core, ↓commitGen_core, ↓refsCommit_core, ↓withTables_core]) <;> (try (split <;> simp only [↓ev_core, ↓core_mk, core_fold, ↓ite_core, ite_self, ↓allocCommit_core, ↓commitCtx_core, ↓commitField_core, ↓commitGen_core, ↓refsCommit_core, ↓withTables_core])))) only [↓ev_core, ↓core_mk, core_fold, ↓ite_core, ite_self, ↓allocCommit_core, ↓commitCtx_core, ↓commitField_core, ↓commitGen_core, ↓refsCommit_core, ↓withTables_core, each_core])) only [↓ev_core, ↓core_mk, core_fold, ↓ite_core, ite_self, ↓allocCommit_core, ↓commitCtx_core, ↓commitField_core, ↓commitGen_core, ↓refsCommit_core, ↓withTables_core, each_core]
theorem dieTemps_core (s : Dev) (ts : List Int) :
    (s.dieTemps ts).core = s.core := by
  unfold Dev.dieTemps
  simp (disch := (intros; (try simp only [↓setFld_core, ↓setBit_core, ↓raise_core, ↓evI_core, ↓ite_core, ite_self, ↓acqTemp_core]) <;> (try (split <;> simp only [↓setFld_core, ↓setBit_core, ↓raise_core, ↓evI_core, ↓ite_core, ite_self, ↓acqTemp_core])))) only [↓setFld_core, ↓setBit_core, ↓raise_core, ↓evI_core, ↓ite_core, ite_self, ↓acqTemp_core, each_core]
theorem supplies_core (s : Dev) (mv : List Nat) :
    (s.supplies mv).core = s.core := by
  unfold Dev.supplies
  simp (disch := (intros; (try simp only [↓setFld_core, ↓core_mk, core_fold, ↓ite_core, ite_self]) <;> (try (split <;> simp only [↓setFld_core, ↓core_mk, core_fold, ↓ite_core, ite_self])))) only [↓setFld_core, ↓core_mk, core_fold, ↓ite_core, ite_self, each_core]
theorem supplyFault_core (s : Dev) (m : Nat) (high : Bool) :
    (s.supplyFault m high).core = s.core := by
  unfold Dev.supplyFault
  simp only [↓setBit_core, ↓raise_core, ↓ev_core, ↓ite_core, ite_self]
theorem showFuses_core (s : Dev) :
    (s.showFuses).core = s.core := by
  unfold Dev.showFuses
  simp only [↓wrN_core]
theorem imgStat_core (s : Dev) (state res : Nat) (b : List Byte) :
    (s.imgStat state res b).core = s.core := by
  unfold Dev.imgStat
  simp only [↓wrN_core]
theorem imageDone_core (s : Dev) (j : ImgJob) (res : Nat) :
    (s.imageDone j res).core = s.core := by
  unfold Dev.imageDone
  first | (simp only [↓raise_core, ↓core_mk, core_fold, ↓ite_core, ite_self, ↓complete_core, ↓imgStat_core]; done) | ((try simp only [↓raise_core, ↓core_mk, core_fold, ↓ite_core, ite_self, ↓complete_core, ↓imgStat_core]) <;> (repeat' split) <;> (try simp only [↓raise_core, ↓core_mk, core_fold, ↓ite_core, ite_self, ↓complete_core, ↓imgStat_core]))
theorem imageReject_core (s : Dev) (j : ImgJob) (res : Nat) :
    (s.imageReject j res).core = s.core := by
  unfold Dev.imageReject
  simp only [↓ev_core, ↓imageDone_core]
theorem imageBurn_core (s : Dev) (j : ImgJob) (res : Nat) :
    (s.imageBurn j res).core = s.core := by
  unfold Dev.imageBurn
  simp only [↓core_mk, core_fold, ↓ite_core, ite_self, ↓imageDone_core, ↓imgStat_core]
theorem imageToStore_core (s : Dev) (j : ImgJob) :
    (s.imageToStore j).core = s.core := by
  unfold Dev.imageToStore
  simp only [↓core_mk, core_fold, ↓ite_core, ite_self, ↓imageBurn_core, ↓imageDone_core, ↓imgStat_core]
theorem imageSaved_core (s : Dev) (ok : Bool) (block : Nat) :
    (s.imageSaved ok block).core = s.core := by
  unfold Dev.imageSaved
  first | (simp only [↓ev_core, ↓store_core, ↓core_mk, core_fold, ↓ite_core, ite_self, ↓imageBurn_core, ↓imageDone_core]; done) | ((try simp only [↓ev_core, ↓store_core, ↓core_mk, core_fold, ↓ite_core, ite_self, ↓imageBurn_core, ↓imageDone_core]) <;> (repeat' split) <;> (try simp only [↓ev_core, ↓store_core, ↓core_mk, core_fold, ↓ite_core, ite_self, ↓imageBurn_core, ↓imageDone_core]))
theorem imageInForce_core (s : Dev) (b : List Byte) :
    (s.imageInForce b).core = s.core := by
  unfold Dev.imageInForce
  simp only [↓ev_core, ↓core_mk, core_fold]
theorem bootWrites_core (s : Dev) (ws : List (Nat × Word)) :
    (s.bootWrites ws).core = s.core := by
  unfold Dev.bootWrites
  simp (disch := (intros; (try simp only [↓wr_core]) <;> (try (split <;> simp only [↓wr_core])))) only [↓wr_core, each_core]
theorem loadSlot_core (b : List Byte) (s : Dev) (e : List Byte) :
    (Dev.loadSlot b s e).core = s.core := by
  unfold Dev.loadSlot
  simp only [↓setFld_core, ↓core_mk, core_fold, ↓ite_core, ite_self]
theorem bootHeartwood_core (s : Dev) (j : Option ImgJob) :
    (s.bootHeartwood j).core = s.core := by
  unfold Dev.bootHeartwood
  first | (simp (disch := (intros; (try simp only [↓setBit_core, ↓core_mk, core_fold, ↓bootWrites_core, ↓imageInForce_core, ↓loadSlot_core]) <;> (repeat' split) <;> (try simp only [↓setBit_core, ↓core_mk, core_fold, ↓bootWrites_core, ↓imageInForce_core, ↓loadSlot_core]))) only [↓setBit_core, ↓core_mk, core_fold, ↓bootWrites_core, ↓imageInForce_core, ↓loadSlot_core, each_core]; done) | ((try simp (disch := (intros; (try simp only [↓setBit_core, ↓core_mk, core_fold, ↓bootWrites_core, ↓imageInForce_core, ↓loadSlot_core]) <;> (repeat' split) <;> (try simp only [↓setBit_core, ↓core_mk, core_fold, ↓bootWrites_core, ↓imageInForce_core, ↓loadSlot_core]))) only [↓setBit_core, ↓core_mk, core_fold, ↓bootWrites_core, ↓imageInForce_core, ↓loadSlot_core, each_core]) <;> (repeat' split) <;> (try simp (disch := (intros; (try simp only [↓setBit_core, ↓core_mk, core_fold, ↓bootWrites_core, ↓imageInForce_core, ↓loadSlot_core]) <;> (repeat' split) <;> (try simp only [↓setBit_core, ↓core_mk, core_fold, ↓bootWrites_core, ↓imageInForce_core, ↓loadSlot_core]))) only [↓setBit_core, ↓core_mk, core_fold, ↓bootWrites_core, ↓imageInForce_core, ↓loadSlot_core, each_core]))
theorem bootArtwork_core (s : Dev) (j : Option ImgJob) :
    (s.bootArtwork j).core = s.core := by
  unfold Dev.bootArtwork
  first | (simp (disch := (intros; (try simp only [↓wr_core, ↓setBit_core, ↓core_mk, core_fold, ↓imageInForce_core]) <;> (repeat' split) <;> (try simp only [↓wr_core, ↓setBit_core, ↓core_mk, core_fold, ↓imageInForce_core]))) only [↓wr_core, ↓setBit_core, ↓core_mk, core_fold, ↓imageInForce_core, each_core]; done) | ((try simp (disch := (intros; (try simp only [↓wr_core, ↓setBit_core, ↓core_mk, core_fold, ↓imageInForce_core]) <;> (repeat' split) <;> (try simp only [↓wr_core, ↓setBit_core, ↓core_mk, core_fold, ↓imageInForce_core]))) only [↓wr_core, ↓setBit_core, ↓core_mk, core_fold, ↓imageInForce_core, each_core]) <;> (repeat' split) <;> (try simp (disch := (intros; (try simp only [↓wr_core, ↓setBit_core, ↓core_mk, core_fold, ↓imageInForce_core]) <;> (repeat' split) <;> (try simp only [↓wr_core, ↓setBit_core, ↓core_mk, core_fold, ↓imageInForce_core]))) only [↓wr_core, ↓setBit_core, ↓core_mk, core_fold, ↓imageInForce_core, each_core]))
theorem storeImage_core (s : Dev) (typ : Nat) :
    (s.storeImage typ).1.core = s.core := by
  unfold Dev.storeImage
  first | (simp only [↓ev_core, ↓store_core, ↓core_mk, core_fold, ↓ite_core, ite_self]; done) | ((try simp only [↓ev_core, ↓store_core, ↓core_mk, core_fold, ↓ite_core, ite_self]) <;> (repeat' split) <;> (try simp only [↓ev_core, ↓store_core, ↓core_mk, core_fold, ↓ite_core, ite_self]))
theorem showNor_core (s : Dev) :
    (s.showNor).core = s.core := by
  unfold Dev.showNor
  simp only [↓setFld_core, ↓setBit_core, ↓showCirc_core]
theorem ringlogProbe_core (s : Dev) (nor : Nat) :
    (s.ringlogProbe nor).core = s.core := by
  unfold Dev.ringlogProbe
  simp only [↓wr_core, ↓setFld_core, ↓setBit_core, ↓ev_core, ↓core_mk, core_fold, ↓ite_core, ite_self, ↓showNor_core]
theorem commitNow_core (s : Dev) :
    (s.commitNow).core = s.core := by
  unfold Dev.commitNow
  first | (simp only [↓setBit_core, ↓ev_core, ↓core_mk, core_fold, ↓ite_core, ite_self, ↓commitApply_core, ↓imageBurn_core, ↓imageInForce_core, ↓imageReject_core, ↓imageToStore_core, ↓withTables_core]; done) | ((try simp only [↓setBit_core, ↓ev_core, ↓core_mk, core_fold, ↓ite_core, ite_self, ↓commitApply_core, ↓imageBurn_core, ↓imageInForce_core, ↓imageReject_core, ↓imageToStore_core, ↓withTables_core]) <;> (repeat' split) <;> (try simp only [↓setBit_core, ↓ev_core, ↓core_mk, core_fold, ↓ite_core, ite_self, ↓commitApply_core, ↓imageBurn_core, ↓imageInForce_core, ↓imageReject_core, ↓imageToStore_core, ↓withTables_core]))
theorem sessEnd_core (s : Dev) (why : Nat) :
    (s.sessEnd why).core = s.core := by
  unfold Dev.sessEnd
  simp only [↓setFld_core, ↓ev_core]
theorem sessOpen_core (s : Dev) (slot level : Nat) :
    (s.sessOpen slot level).core = s.core := by
  unfold Dev.sessOpen
  simp (disch := (intros; (try simp only [↓wrN_core, ↓setFld_core, ↓spend_core, ↓core_mk, core_fold, ↓ite_core, ite_self, ↓sessEnd_core]) <;> (try (split <;> simp only [↓wrN_core, ↓setFld_core, ↓spend_core, ↓core_mk, core_fold, ↓ite_core, ite_self, ↓sessEnd_core])))) only [↓wrN_core, ↓setFld_core, ↓spend_core, ↓core_mk, core_fold, ↓ite_core, ite_self, ↓sessEnd_core, each_core]
theorem sessFail_core (s : Dev) :
    (s.sessFail).core = s.core := by
  unfold Dev.sessFail
  simp only [↓setFld_core, ↓setBit_core, ↓ev_core, ↓ite_core, ite_self]
theorem sessVerify_core (s : Dev) :
    (s.sessVerify).core = s.core := by
  unfold Dev.sessVerify
  simp only [↓setFld_core, ↓raise_core, ↓ev_core, ↓ite_core, ite_self, ↓sessFail_core, ↓sessUse_core]
theorem sessClose_core (s : Dev) (why : Nat) :
    (s.sessClose why).core = s.core := by
  unfold Dev.sessClose
  simp only [↓ite_core, ite_self, ↓sessEnd_core]
theorem sessIdle_core (s : Dev) :
    (s.sessIdle).core = s.core := by
  unfold Dev.sessIdle
  simp only [↓ite_core, ite_self, ↓sessClose_core]
theorem sessConflict_core (s : Dev) :
    (s.sessConflict).core = s.core := by
  unfold Dev.sessConflict
  simp only [↓setFld_core]
theorem challengeEnd_core (s : Dev) :
    (s.challengeEnd).core = s.core := by
  unfold Dev.challengeEnd
  simp only [↓raise_core, ↓ite_core, ite_self, ↓sessFail_core]
theorem sessCommand_core (s : Dev) (v : Word) :
    (s.sessCommand v).core = s.core := by
  unfold Dev.sessCommand
  first | (simp only [↓core_mk, core_fold, ↓sessClose_core, ↓sessConflict_core, ↓sessOpen_core, ↓sessVerify_core]; done) | ((try simp only [↓core_mk, core_fold, ↓sessClose_core, ↓sessConflict_core, ↓sessOpen_core, ↓sessVerify_core]) <;> (repeat' split) <;> (try simp only [↓core_mk, core_fold, ↓sessClose_core, ↓sessConflict_core, ↓sessOpen_core, ↓sessVerify_core]))
theorem slotUnlock_core (s : Dev) (k : Nat) :
    (s.slotUnlock k).core = s.core := by
  unfold Dev.slotUnlock
  simp only [↓setFld_core, ↓setBit_core, ↓ite_core, ite_self]
theorem gladeSecond_core (s : Dev) :
    (s.gladeSecond).core = s.core := by
  unfold Dev.gladeSecond
  simp (disch := (intros; (try simp only [↓setFld_core, ↓cntWrap_core, ↓ite_core, ite_self]) <;> (try (split <;> simp only [↓setFld_core, ↓cntWrap_core, ↓ite_core, ite_self])))) only [↓setFld_core, ↓cntWrap_core, ↓ite_core, ite_self, each_core]
theorem attRequest_core (s : Dev) (cert : Bool) :
    (s.attRequest cert).core = s.core := by
  unfold Dev.attRequest
  simp only [↓core_mk, core_fold, ↓ite_core, ite_self]
theorem attReport_core (s : Dev) :
    (s.attReport).core = s.core := by
  unfold Dev.attReport
  first | (simp only [↓raise_core, ↓ev_core, ↓spend_core, ↓core_mk, core_fold, ↓ite_core, ite_self, ↓reportRouted_core]; done) | ((try simp only [↓raise_core, ↓ev_core, ↓spend_core, ↓core_mk, core_fold, ↓ite_core, ite_self, ↓reportRouted_core]) <;> (repeat' split) <;> (try simp only [↓raise_core, ↓ev_core, ↓spend_core, ↓core_mk, core_fold, ↓ite_core, ite_self, ↓reportRouted_core]))
theorem ringError_core (s : Dev) (p code : Nat) :
    (s.ringError p code).core = s.core := by
  unfold Dev.ringError
  simp only [↓setFld_core, ↓setBit_core, ↓raise_core, ↓ev_core, ↓ite_core, ite_self]
theorem cmdBell_core (s : Dev) (p : Nat) (v : Word) :
    (s.cmdBell p v).core = s.core := by
  unfold Dev.cmdBell
  simp only [↓wr_core, ↓setFld_core, ↓ite_core, ite_self, ↓ringError_core]
theorem repBell_core (s : Dev) (p : Nat) (v : Word) :
    (s.repBell p v).core = s.core := by
  unfold Dev.repBell
  simp only [↓wr_core, ↓setFld_core, ↓ite_core, ite_self, ↓ringError_core]
theorem ringOn_core (s : Dev) (p : Nat) (rep : Bool) (v : Word) :
    (s.ringOn p rep v).core = s.core := by
  unfold Dev.ringOn
  simp only [↓wr_core, ↓setFld_core, ↓setBit_core, ↓core_mk, core_fold, ↓ite_core, ite_self, ↓setPair_core]
theorem ringOff_core (s : Dev) (p : Nat) (rep : Bool) (v : Word) :
    (s.ringOff p rep v).core = s.core := by
  unfold Dev.ringOff
  simp only [↓setFld_core, ↓setBit_core, ↓core_mk, core_fold, ↓ite_core, ite_self, ↓setPair_core]
theorem ringConfig_core (s : Dev) (p : Nat) (rep : Bool) (v : Word) :
    (s.ringConfig p rep v).core = s.core := by
  unfold Dev.ringConfig
  simp only [↓ite_core, ite_self, ↓ringOff_core, ↓ringOn_core]
theorem ringResume_core (s : Dev) (p : Nat) :
    (s.ringResume p).core = s.core := by
  unfold Dev.ringResume
  simp only [↓setFld_core, ↓setBit_core, ↓ite_core, ite_self]
theorem ringStops_core (s : Dev) :
    (s.ringStops).core = s.core := by
  unfold Dev.ringStops
  simp (disch := (intros; (try simp only [↓setBit_core, ↓core_mk, core_fold, ↓ite_core, ite_self, ↓setPair_core]) <;> (try (split <;> simp only [↓setBit_core, ↓core_mk, core_fold, ↓ite_core, ite_self, ↓setPair_core])))) only [↓setBit_core, ↓core_mk, core_fold, ↓ite_core, ite_self, ↓setPair_core, each_core]
theorem hostFetch_core (s : Dev) :
    (s.hostFetch).core = s.core := by
  unfold Dev.hostFetch
  simp (disch := (intros; (try simp only [↓core_mk, core_fold, ↓ite_core, ite_self, ↓setPair_core]) <;> (try (split <;> simp only [↓core_mk, core_fold, ↓ite_core, ite_self, ↓setPair_core])))) only [↓core_mk, core_fold, ↓ite_core, ite_self, ↓setPair_core, each_core]
theorem fetchEnd_core (s : Dev) (p : Nat) (ok : Bool) :
    (s.fetchEnd p ok).core = s.core := by
  unfold Dev.fetchEnd
  first | (simp only [↓setFld_core, ↓raise_core, ↓core_mk, core_fold, ↓ite_core, ite_self, ↓ringError_core, ↓setPair_core, ↓writeback_core]; done) | ((try simp only [↓setFld_core, ↓raise_core, ↓core_mk, core_fold, ↓ite_core, ite_self, ↓ringError_core, ↓setPair_core, ↓writeback_core]) <;> (repeat' split) <;> (try simp only [↓setFld_core, ↓raise_core, ↓core_mk, core_fold, ↓ite_core, ite_self, ↓ringError_core, ↓setPair_core, ↓writeback_core]))
theorem withDesc_core (s : Dev) (p idx : Nat) (f : Dev → Dev) (h : ∀ d, (f d).core = d.core) :
    (s.withDesc p idx f).core = s.core := by
  unfold Dev.withDesc
  split
  · rename_i d hd
    rw [h]
    unfold Dev.latchDesc at hd
    split_ifs at hd
    cases hd
    simp only [setFld_core, cntWrap_core, core_mk, core_fold]
  · rfl
theorem nopDesc_core (s : Dev) (p idx : Nat) :
    (s.nopDesc p idx).core = s.core := by
  unfold Dev.nopDesc
  apply withDesc_core
  intro d
  first | (simp only [↓complete_core]; done) | ((try simp only [↓complete_core]) <;> (repeat' split) <;> (try simp only [↓complete_core]))
theorem badDesc_core (s : Dev) (p idx : Nat) (b : List Byte) :
    (s.badDesc p idx b).core = s.core := by
  unfold Dev.badDesc
  apply withDesc_core
  intro d
  first | (simp only [↓complete_core]; done) | ((try simp only [↓complete_core]) <;> (repeat' split) <;> (try simp only [↓complete_core]))
theorem setpointPut_core (s : Dev) (e : Nat × Word) :
    (s.setpointPut e).core = s.core := by
  unfold Dev.setpointPut
  simp only [↓wr_core, ↓setGen_core, ↓core_mk, core_fold, ↓ite_core, ite_self]
theorem setpointDesc_core (s : Dev) (p idx : Nat) (b : List Byte) :
    (s.setpointDesc p idx b).core = s.core := by
  unfold Dev.setpointDesc
  apply withDesc_core
  intro d
  dsimp only
  split
  · exact complete_core _ _ _ _ _ _ _
  · rw [endDesc_core, each_core _ _ _ setpointPut_core]
theorem releaseRefused_core (s : Dev) (slot l code : Nat) :
    (s.releaseRefused slot l code).core = s.core := by
  unfold Dev.releaseRefused
  simp only [↓cntSat_core, ↓ev_core, ↓ite_core, ite_self, ↓countInvalid_core]
theorem groveRefused_core (s : Dev) (p slot code : Nat) (tag : Word) (release : Bool) :
    (s.groveRefused p slot code tag release).core = s.core := by
  unfold Dev.groveRefused
  simp only [↓ev_core, ↓core_mk, core_fold, ↓ite_core, ite_self, ↓endCount_core, ↓releaseRefused_core]
theorem groveDescLoad_core (s : Dev) (op l : Nat) (b : List Byte) :
    (s.groveDescLoad op l b).1.core = s.core := by
  unfold Dev.groveDescLoad
  first | (simp only [↓ite_core, ite_self, ↓groveLoadOp_core, ↓groveRefuse_core]; done) | ((try simp only [↓ite_core, ite_self, ↓groveLoadOp_core, ↓groveRefuse_core]) <;> (repeat' split) <;> (try simp only [↓ite_core, ite_self, ↓groveLoadOp_core, ↓groveRefuse_core]))
theorem groveDescEntries_core (s : Dev) (l : Nat) (es : List GroveEntryIn) :
    (s.groveDescEntries l es).1.core = s.core := by
  refine fold_keeps (fun (a : Dev × Nat) => a.1.core) _ ?_ es (s, 0)
  intro a e
  exact groveEntryOp_core _ _ _
theorem groveDesc_core (s : Dev) (p idx : Nat) (b : List Byte) (entries : List GroveEntryIn) :
    (s.groveDesc p idx b entries).core = s.core := by
  unfold Dev.groveDesc
  apply withDesc_core
  intro d
  first | (simp only [↓wr_core, ↓setLane_core, ↓core_mk, core_fold, ↓ite_core, ite_self, ↓endDesc_core, ↓groveDescEntries_core, ↓groveDescLoad_core, ↓groveRefuse_core, ↓groveRefused_core, ↓groveStart_core]; done) | ((try simp only [↓wr_core, ↓setLane_core, ↓core_mk, core_fold, ↓ite_core, ite_self, ↓endDesc_core, ↓groveDescEntries_core, ↓groveDescLoad_core, ↓groveRefuse_core, ↓groveRefused_core, ↓groveStart_core]) <;> (repeat' split) <;> (try simp only [↓wr_core, ↓setLane_core, ↓core_mk, core_fold, ↓ite_core, ite_self, ↓endDesc_core, ↓groveDescEntries_core, ↓groveDescLoad_core, ↓groveRefuse_core, ↓groveRefused_core, ↓groveStart_core]))
theorem canDesc_core (s : Dev) (p idx : Nat) (b far : List Byte) :
    (s.canDesc p idx b far).core = s.core := by
  unfold Dev.canDesc
  apply withDesc_core
  intro d
  first | (simp only [↓core_mk, core_fold, ↓ite_core, ite_self, ↓complete_core, ↓tb2Cancel_core, ↓tb2Put_core]; done) | ((try simp only [↓core_mk, core_fold, ↓ite_core, ite_self, ↓complete_core, ↓tb2Cancel_core, ↓tb2Put_core]) <;> (repeat' split) <;> (try simp only [↓core_mk, core_fold, ↓ite_core, ite_self, ↓complete_core, ↓tb2Cancel_core, ↓tb2Put_core]))
theorem copyOut_core (s : Dev) (addr : Nat) (b : List Byte) :
    (s.copyOut addr b).core = s.core := by
  unfold Dev.copyOut
  simp only [↓core_mk, core_fold]
theorem thicketDesc_core (s : Dev) (p idx : Nat) (b : List Byte) (bad : List Nat) (corr : Nat) :
    (s.thicketDesc p idx b bad corr).core = s.core := by
  unfold Dev.thicketDesc
  apply withDesc_core
  intro d
  first | (simp only [↓ite_core, ite_self, ↓complete_core, ↓copyOut_core, ↓readPoints_core]; done) | ((try simp only [↓ite_core, ite_self, ↓complete_core, ↓copyOut_core, ↓readPoints_core]) <;> (repeat' split) <;> (try simp only [↓ite_core, ite_self, ↓complete_core, ↓copyOut_core, ↓readPoints_core]))
theorem recorderDesc_core (s : Dev) (p idx : Nat) (b : List Byte) :
    (s.recorderDesc p idx b).core = s.core := by
  unfold Dev.recorderDesc
  apply withDesc_core
  intro d
  first | (simp only [↓ite_core, ite_self, ↓complete_core, ↓copyOut_core, ↓sessUse_core]; done) | ((try simp only [↓ite_core, ite_self, ↓complete_core, ↓copyOut_core, ↓sessUse_core]) <;> (repeat' split) <;> (try simp only [↓ite_core, ite_self, ↓complete_core, ↓copyOut_core, ↓sessUse_core]))
theorem vectorSend_core (s : Dev) (v : Nat) :
    (s.vectorSend v).core = s.core := by
  unfold Dev.vectorSend
  simp only [↓setBit_core, ↓core_mk, core_fold]
theorem vectorFire_core (s : Dev) (v : Nat) :
    (s.vectorFire v).core = s.core := by
  unfold Dev.vectorFire
  simp only [↓setBit_core, ↓ite_core, ite_self, ↓vectorSend_core]
theorem vectorArm_core (s : Dev) (v : Word) :
    (s.vectorArm v).core = s.core := by
  unfold Dev.vectorArm
  simp only [↓wr_core]
theorem vectorOpen_core (s : Dev) (v : Nat) :
    (s.vectorOpen v).core = s.core := by
  unfold Dev.vectorOpen
  simp only [↓setBit_core, ↓ite_core, ite_self, ↓vectorSend_core]
theorem hostReset_core (s : Dev) (why : Nat) :
    (s.hostReset why).core = s.core := by
  unfold Dev.hostReset
  simp (disch := (intros; simp (disch := (intros; (try simp only [↓wr_core, ↓setFld_core, ↓setBit_core, ↓ev_core, ↓core_mk, core_fold, ↓ite_core, ite_self, ↓setPair_core]) <;> (try (split <;> simp only [↓wr_core, ↓setFld_core, ↓setBit_core, ↓ev_core, ↓core_mk, core_fold, ↓ite_core, ite_self, ↓setPair_core])))) only [↓wr_core, ↓setFld_core, ↓setBit_core, ↓ev_core, ↓core_mk, core_fold, ↓ite_core, ite_self, ↓setPair_core, each_core])) only [↓wr_core, ↓setFld_core, ↓setBit_core, ↓ev_core, ↓core_mk, core_fold, ↓ite_core, ite_self, ↓setPair_core, each_core]
theorem hostLinkUp_core (s : Dev) (width speed : Nat) :
    (s.hostLinkUp width speed).core = s.core := by
  unfold Dev.hostLinkUp
  simp only [↓setFld_core, ↓ev_core, ↓core_mk, core_fold, ↓ite_core, ite_self]
theorem cycleReport_core (s : Dev) :
    (s.cycleReport).core = s.core := by
  unfold Dev.cycleReport
  simp only [↓ite_core, ite_self, ↓acqReported_core, ↓reportRouted_core]
theorem timeMessage_core (s : Dev) :
    (s.timeMessage).core = s.core := by
  unfold Dev.timeMessage
  simp only [↓core_mk, core_fold, ↓ite_core, ite_self, ↓reportRouted_core, ↓sendUdp_core]
theorem groveRecords_core (s : Dev) :
    (s.groveRecords).core = s.core := by
  unfold Dev.groveRecords
  simp (disch := (intros; (try simp only [↓core_mk, core_fold, ↓report_core]) <;> (try (split <;> simp only [↓core_mk, core_fold, ↓report_core])))) only [↓core_mk, core_fold, ↓report_core, each_core]
theorem snapshot_core (s : Dev) :
    (s.snapshot).core = s.core := by
  unfold Dev.snapshot
  simp (disch := (intros; simp (disch := (intros; (try simp only [↓wr_core, ↓wrN_core, ↓ite_core, ite_self]) <;> (try (split <;> simp only [↓wr_core, ↓wrN_core, ↓ite_core, ite_self])))) only [↓wr_core, ↓wrN_core, ↓ite_core, ite_self, each_core])) only [↓wr_core, ↓wrN_core, ↓ite_core, ite_self, each_core]
theorem hostP4_core (s : Dev) (n : Nat) :
    (s.hostP4 n).core = s.core := by
  unfold Dev.hostP4
  simp only [↓ite_core, ite_self, ↓cycleReport_core, ↓groveRecords_core, ↓hostFetch_core, ↓logReports_core, ↓reportRouted_core, ↓snapshot_core]
theorem keepReg_core (s old : Dev) (a mask : Nat) :
    (s.keepReg old a mask).core = s.core := by
  unfold Dev.keepReg
  simp only [↓wr_core]
theorem keepDeadfall_core (s old : Dev) :
    (s.keepDeadfall old).core = s.core := by
  unfold Dev.keepDeadfall
  simp only [↓keepReg_core]
theorem keepCold_core (s old : Dev) :
    (s.keepCold old).core = s.core := by
  unfold Dev.keepCold
  simp (disch := (intros; simp (disch := (intros; (try simp only [↓wrN_core, ↓core_mk, core_fold, ↓keepDeadfall_core, ↓keepReg_core, ↓showQueue_core]) <;> (try (split <;> simp only [↓wrN_core, ↓core_mk, core_fold, ↓keepDeadfall_core, ↓keepReg_core, ↓showQueue_core])))) only [↓wrN_core, ↓core_mk, core_fold, ↓keepDeadfall_core, ↓keepReg_core, ↓showQueue_core, each_core])) only [↓wrN_core, ↓core_mk, core_fold, ↓keepDeadfall_core, ↓keepReg_core, ↓showQueue_core, each_core]
theorem keepWarm_core (s old : Dev) :
    (s.keepWarm old).core = s.core := by
  unfold Dev.keepWarm
  simp only [↓wr_core, ↓core_mk, core_fold, ↓keepReg_core, ↓showLog_core]
theorem rstLast_core (s : Dev) (r : RstRun) :
    (s.rstLast r).core = s.core := by
  unfold Dev.rstLast
  simp only [↓wrN_core]
theorem rstSource_core (s : Dev) (bits src kind bo : Nat) :
    (s.rstSource bits src kind bo).core = s.core := by
  unfold Dev.rstSource
  first | (simp only [↓orMask_core, ↓core_mk, core_fold, ↓ite_core, ite_self, ↓rstLast_core]; done) | ((try simp only [↓orMask_core, ↓core_mk, core_fold, ↓ite_core, ite_self, ↓rstLast_core]) <;> (repeat' split) <;> (try simp only [↓orMask_core, ↓core_mk, core_fold, ↓ite_core, ite_self, ↓rstLast_core]))
theorem tickWatchdog_core (s : Dev) :
    (s.tickWatchdog).core = s.core := by
  unfold Dev.tickWatchdog
  simp only [↓rstSource_core]
theorem gladeWatchdog_core (s : Dev) :
    (s.gladeWatchdog).core = s.core := by
  unfold Dev.gladeWatchdog
  simp only [↓rstSource_core]
theorem criticalError_core (s : Dev) (src addr : Nat) :
    (s.criticalError src addr).core = s.core := by
  unfold Dev.criticalError
  simp only [↓wrN_core, ↓rstSource_core]
theorem brownOut_core (s : Dev) (mask : Nat) :
    (s.brownOut mask).core = s.core := by
  unfold Dev.brownOut
  simp only [↓core_mk, core_fold, ↓ite_core, ite_self, ↓rstSource_core]
theorem brownOutEnd_core (s : Dev) (mask : Nat) :
    (s.brownOutEnd mask).core = s.core := by
  unfold Dev.brownOutEnd
  simp only [↓core_mk, core_fold]
theorem rstPin_core (s : Dev) :
    (s.rstPin).core = s.core := by
  unfold Dev.rstPin
  simp only [↓rstSource_core]
theorem clockCause_core (s : Dev) (outage : Option Nat) :
    (s.clockCause outage).core = s.core := by
  unfold Dev.clockCause
  first | (simp only [↓orMask_core, ↓core_mk, core_fold]; done) | ((try simp only [↓orMask_core, ↓core_mk, core_fold]) <;> (repeat' split) <;> (try simp only [↓orMask_core, ↓core_mk, core_fold]))
theorem clockReturn_core (s : Dev) (outage : Nat) :
    (s.clockReturn outage).core = s.core := by
  unfold Dev.clockReturn
  simp only [↓setBit_core, ↓ite_core, ite_self, ↓clockCause_core]
theorem showDoms_core (s : Dev) :
    (s.showDoms).core = s.core := by
  unfold Dev.showDoms
  simp only [↓orMask_core, ↓ite_core, ite_self]
theorem pllLock_core (s : Dev) (g : Bool) :
    (s.pllLock g).core = s.core := by
  unfold Dev.pllLock
  simp only [↓setBit_core, ↓ite_core, ite_self, ↓clockCause_core, ↓showDoms_core]
theorem loadFuses_core (s : Dev) (fu : FuseIn) :
    (s.loadFuses fu).core = s.core := by
  unfold Dev.loadFuses
  simp only [↓wrN_core, ↓core_mk, core_fold, ↓showFuses_core]
theorem countPower_core (s : Dev) :
    (s.countPower).core = s.core := by
  unfold Dev.countPower
  simp only [↓wrN_core, ↓setFld_core]
theorem resetEvents_core (s : Dev) (r : RstRun) (x : StrapRead) (role : Option Nat) :
    (s.resetEvents r x role).core = s.core := by
  unfold Dev.resetEvents
  first | (simp (disch := (intros; (try simp only [↓ev_core, ↓core_mk, core_fold, ↓ite_core, ite_self]) <;> (repeat' split) <;> (try simp only [↓ev_core, ↓core_mk, core_fold, ↓ite_core, ite_self]))) only [↓ev_core, ↓core_mk, core_fold, ↓ite_core, ite_self, each_core]; done) | ((try simp (disch := (intros; (try simp only [↓ev_core, ↓core_mk, core_fold, ↓ite_core, ite_self]) <;> (repeat' split) <;> (try simp only [↓ev_core, ↓core_mk, core_fold, ↓ite_core, ite_self]))) only [↓ev_core, ↓core_mk, core_fold, ↓ite_core, ite_self, each_core]) <;> (repeat' split) <;> (try simp (disch := (intros; (try simp only [↓ev_core, ↓core_mk, core_fold, ↓ite_core, ite_self]) <;> (repeat' split) <;> (try simp only [↓ev_core, ↓core_mk, core_fold, ↓ite_core, ite_self]))) only [↓ev_core, ↓core_mk, core_fold, ↓ite_core, ite_self, each_core]))
theorem showAlign_core (s : Dev) (free aligned : Bool) :
    (s.showAlign free aligned).core = s.core := by
  unfold Dev.showAlign
  simp only [↓setBit_core]
theorem showTick_core (s : Dev) (n : Nat) (slewing : Bool) :
    (s.showTick n slewing).core = s.core := by
  unfold Dev.showTick
  simp only [↓setFld_core, ↓setBit_core]
theorem overrunFlag_core (s : Dev) (bit code p1 p2 : Nat) :
    (s.overrunFlag bit code p1 p2).core = s.core := by
  unfold Dev.overrunFlag
  simp only [↓setBit_core, ↓cntSat_core, ↓ev_core]
theorem showLoad_core (s : Dev) (p1 p2 : Nat) :
    (s.showLoad p1 p2).core = s.core := by
  unfold Dev.showLoad
  simp only [↓setFld_core]
theorem showRun_core (s : Dev) :
    (s.showRun).core = s.core := by
  unfold Dev.showRun
  simp only [↓setFld_core]
theorem modeCommand_core (s : Dev) (cmd : Nat) :
    (s.modeCommand cmd).core = s.core := by
  unfold Dev.modeCommand
  simp only [↓core_mk, core_fold, ↓ite_core, ite_self]
theorem loadClear_core (s : Dev) :
    (s.loadClear).core = s.core := by
  unfold Dev.loadClear
  simp only [↓core_mk, core_fold]
theorem enterMode_core (s : Dev) (new : Nat) :
    (s.enterMode new).core = s.core := by
  unfold Dev.enterMode
  first | (simp only [↓core_mk, core_fold, ↓allocArming_core, ↓allocOperate_core, ↓allocWatch_core, ↓axesEnter_core, ↓loopEnter_core, ↓loopLeave_core]; done) | ((try simp only [↓core_mk, core_fold, ↓allocArming_core, ↓allocOperate_core, ↓allocWatch_core, ↓axesEnter_core, ↓loopEnter_core, ↓loopLeave_core]) <;> (repeat' split) <;> (try simp only [↓core_mk, core_fold, ↓allocArming_core, ↓allocOperate_core, ↓allocWatch_core, ↓axesEnter_core, ↓loopEnter_core, ↓loopLeave_core]))
theorem modeStep_core (s : Dev) :
    (s.modeStep).core = s.core := by
  unfold Dev.modeStep
  simp only [↓setFld_core, ↓ev_core, ↓core_mk, core_fold, ↓ite_core, ite_self, ↓enterMode_core]
theorem seqStep_core (s : Dev) (e : Rat) :
    (s.seqStep e).core = s.core := by
  unfold Dev.seqStep
  first | (simp only [↓evI_core, ↓core_mk, core_fold, ↓groveAbort_core, ↓showAlign_core]; done) | ((try simp only [↓evI_core, ↓core_mk, core_fold, ↓groveAbort_core, ↓showAlign_core]) <;> (repeat' split) <;> (try simp only [↓evI_core, ↓core_mk, core_fold, ↓groveAbort_core, ↓showAlign_core]))
theorem seqSlew_core (s : Dev) (e : Rat) :
    (s.seqSlew e).core = s.core := by
  unfold Dev.seqSlew
  simp only [↓core_mk, core_fold]
theorem align_core (s : Dev) (watch : Bool) :
    (s.align watch).core = s.core := by
  unfold Dev.align
  simp only [↓wr_core, ↓core_mk, core_fold, ↓ite_core, ite_self, ↓seqSlew_core, ↓seqStep_core, ↓showAlign_core]
theorem overrun_core (s : Dev) (w : OverrunWork) :
    (s.overrun w).core = s.core := by
  unfold Dev.overrun
  first | (simp only [↓core_mk, core_fold, ↓ite_core, ite_self, ↓overrunFlag_core]; done) | ((try simp only [↓core_mk, core_fold, ↓ite_core, ite_self, ↓overrunFlag_core]) <;> (repeat' split) <;> (try simp only [↓core_mk, core_fold, ↓ite_core, ite_self, ↓overrunFlag_core]))
theorem beginCycle_core (s : Dev) :
    (s.beginCycle).core = s.core := by
  unfold Dev.beginCycle
  simp only [↓setFld_core, ↓cntWrap_core, ↓core_mk, core_fold, ↓ite_core, ite_self]
theorem enginesAtBoundary_core (s : Dev) (i : BoundaryIn) :
    (s.enginesAtBoundary i).core = s.core := by
  unfold Dev.enginesAtBoundary
  simp (disch := (intros; (try simp only [↓assignGroups_core, ↓epoch_core, ↓estBoundary_core, ↓holdBound_core, ↓laneCorr_core, ↓moveRoles_core, ↓netBoundary_core, ↓selectBoundary_core, ↓thktBoundary_core]) <;> (try (split <;> simp only [↓assignGroups_core, ↓epoch_core, ↓estBoundary_core, ↓holdBound_core, ↓laneCorr_core, ↓moveRoles_core, ↓netBoundary_core, ↓selectBoundary_core, ↓thktBoundary_core])))) only [↓assignGroups_core, ↓epoch_core, ↓estBoundary_core, ↓holdBound_core, ↓laneCorr_core, ↓moveRoles_core, ↓netBoundary_core, ↓selectBoundary_core, ↓thktBoundary_core, each_core]
theorem cycleBoundary_core (s : Dev) (i : BoundaryIn) :
    (s.cycleBoundary i).core = s.core := by
  unfold Dev.cycleBoundary
  simp only [↓align_core, ↓beginCycle_core, ↓enginesAtBoundary_core, ↓modeStep_core, ↓showRun_core]
theorem ageOutputs_core (s : Dev) :
    (s.ageOutputs).core = s.core := by
  unfold Dev.ageOutputs
  simp only [↓core_mk, core_fold]
theorem ageDeadlines_core (s : Dev) :
    (s.ageDeadlines).core = s.core := by
  unfold Dev.ageDeadlines
  simp only [↓core_mk, core_fold, ↓ite_core, ite_self]
theorem inputLatch_core (s : Dev) :
    (s.inputLatch).core = s.core := by
  unfold Dev.inputLatch
  simp only [↓acqP0_core, ↓ageDeadlines_core, ↓ageOutputs_core, ↓canP0_core, ↓profP0_core, ↓ringStops_core, ↓takeFrame_core]
theorem tickP0_core (s : Dev) (n : Nat) :
    (s.tickP0 n).core = s.core := by
  unfold Dev.tickP0
  simp only [↓inputLatch_core, ↓standP0_core]
theorem tickP3_core (s : Dev) (n : Nat) :
    (s.tickP3 n).core = s.core := by
  unfold Dev.tickP3
  simp only [↓ite_core, ite_self, ↓applyFrame_core, ↓standSend_core, ↓streamsP3_core, ↓trefP3_core]
theorem passTime_core (s : Dev) (n cycles : Nat) (dt : Rat) :
    (s.passTime n cycles dt).core = s.core := by
  unfold Dev.passTime
  simp (disch := (intros; (try simp only [↓core_mk, core_fold, ↓advance_core, ↓gladeSecond_core]) <;> (try (split <;> simp only [↓core_mk, core_fold, ↓advance_core, ↓gladeSecond_core])))) only [↓core_mk, core_fold, ↓advance_core, ↓gladeSecond_core, each_core]
theorem adjustedTick_core (s : Dev) (n : Nat) (r : Rat) :
    (s.adjustedTick n r).core = s.core := by
  unfold Dev.adjustedTick
  simp only [↓core_mk, core_fold, ↓inputLatch_core, ↓passTime_core, ↓showAlign_core, ↓showTick_core]
theorem tickCritical_core (s : Dev) (i : TickIn) :
    (s.tickCritical i).core = s.core := by
  unfold Dev.tickCritical
  first | (simp only [↓core_mk, core_fold, ↓criticalError_core]; done) | ((try simp only [↓core_mk, core_fold, ↓criticalError_core]) <;> (repeat' split) <;> (try simp only [↓core_mk, core_fold, ↓criticalError_core]))
theorem loopWrite_core (s : Dev) (a : Nat) (v : Word) :
    (s.loopWrite a v).core = s.core := by
  unfold Dev.loopWrite
  simp only [↓store_core, ↓ite_core, ite_self, ↓loopCommand_core, ↓resumeCommand_core]
theorem hostTarget_core (s : Dev) (g : Nat) (v : Word) :
    (s.hostTarget g v).core = s.core := by
  unfold Dev.hostTarget
  simp only [↓wr_core, ↓setGen_core, ↓core_mk, core_fold, ↓ite_core, ite_self]
theorem profWrite_core (s : Dev) (a : Nat) (v : Word) :
    (s.profWrite a v).core = s.core := by
  unfold Dev.profWrite
  first | (simp only [↓store_core, ↓core_mk, core_fold, ↓hostTarget_core]; done) | ((try simp only [↓store_core, ↓core_mk, core_fold, ↓hostTarget_core]) <;> (repeat' split) <;> (try simp only [↓store_core, ↓core_mk, core_fold, ↓hostTarget_core]))
theorem estWrite_core (s : Dev) (a : Nat) (v : Word) :
    (s.estWrite a v).core = s.core := by
  unfold Dev.estWrite
  simp only [↓store_core, ↓ite_core, ite_self, ↓originWrite_core]
theorem selectThrusters_core (s : Dev) (v : Word) :
    (s.selectThrusters v).core = s.core := by
  unfold Dev.selectThrusters
  simp only [↓store_core, ↓core_mk, core_fold, ↓ite_core, ite_self, ↓sessUse_core]
theorem allocWrite_core (s : Dev) (a : Nat) (v : Word) :
    (s.allocWrite a v).core = s.core := by
  unfold Dev.allocWrite
  simp only [↓store_core, ↓ite_core, ite_self, ↓selectThrusters_core]
theorem clearLane_core (s : Dev) (l : Nat) :
    (s.clearLane l).core = s.core := by
  unfold Dev.clearLane
  simp only [↓wr_core, ↓setFld_core]
theorem groveWrite_core (s : Dev) (a : Nat) (v : Word) :
    (s.groveWrite a v).core = s.core := by
  unfold Dev.groveWrite
  first | (simp only [↓store_core, ↓core_mk, core_fold, ↓ite_core, ite_self, ↓clearLane_core]; done) | ((try simp only [↓store_core, ↓core_mk, core_fold, ↓ite_core, ite_self, ↓clearLane_core]) <;> (repeat' split) <;> (try simp only [↓store_core, ↓core_mk, core_fold, ↓ite_core, ite_self, ↓clearLane_core]))
theorem gnssWrite_core (s : Dev) (a : Nat) (v : Word) :
    (s.gnssWrite a v).core = s.core := by
  unfold Dev.gnssWrite
  first | (simp only [↓setBit_core, ↓store_core, ↓core_mk, core_fold, ↓ite_core, ite_self, ↓ppsWrite_core]; done) | ((try simp only [↓setBit_core, ↓store_core, ↓core_mk, core_fold, ↓ite_core, ite_self, ↓ppsWrite_core]) <;> (repeat' split) <;> (try simp only [↓setBit_core, ↓store_core, ↓core_mk, core_fold, ↓ite_core, ite_self, ↓ppsWrite_core]))
theorem acqRegWrite_core (s : Dev) (a : Nat) (v : Word) :
    (s.acqRegWrite a v).core = s.core := by
  unfold Dev.acqRegWrite
  first | (simp only [↓core_mk, core_fold, ↓ite_core, ite_self, ↓acqWrite_core, ↓coefApply_core, ↓quadZero_core]; done) | ((try simp only [↓core_mk, core_fold, ↓ite_core, ite_self, ↓acqWrite_core, ↓coefApply_core, ↓quadZero_core]) <;> (repeat' split) <;> (try simp only [↓core_mk, core_fold, ↓ite_core, ite_self, ↓acqWrite_core, ↓coefApply_core, ↓quadZero_core]))
theorem netRegWrite_core (s : Dev) (a : Nat) (v : Word) :
    (s.netRegWrite a v).core = s.core := by
  unfold Dev.netRegWrite
  first | (simp only [↓core_mk, core_fold, ↓ite_core, ite_self, ↓alarmArm_core, ↓evtPop_core, ↓netWrite_core]; done) | ((try simp only [↓core_mk, core_fold, ↓ite_core, ite_self, ↓alarmArm_core, ↓evtPop_core, ↓netWrite_core]) <;> (repeat' split) <;> (try simp only [↓core_mk, core_fold, ↓ite_core, ite_self, ↓alarmArm_core, ↓evtPop_core, ↓netWrite_core]))
theorem thktWrite_core (s : Dev) (a : Nat) (v : Word) :
    (s.thktWrite a v).core = s.core := by
  unfold Dev.thktWrite
  simp only [↓store_core, ↓ite_core, ite_self, ↓findStart_core, ↓latchPoint_core, ↓releaseCommand_core]
theorem logWrite_core (s : Dev) (a : Nat) (v : Word) :
    (s.logWrite a v).core = s.core := by
  unfold Dev.logWrite
  simp only [↓store_core, ↓ite_core, ite_self, ↓byGlade_core, ↓clearCommand_core, ↓freezeBegin_core, ↓freezeEnd_core]
theorem pairWrite_core (s : Dev) (p o : Nat) (v : Word) :
    (s.pairWrite p o v).core = s.core := by
  unfold Dev.pairWrite
  simp only [↓store_core, ↓ite_core, ite_self, ↓ringConfig_core, ↓ringResume_core]
theorem hostWrite_core (s : Dev) (a : Nat) (v : Word) :
    (s.hostWrite a v).core = s.core := by
  unfold Dev.hostWrite
  first | (simp only [↓store_core, ↓core_mk, core_fold, ↓ite_core, ite_self, ↓pairWrite_core, ↓vectorArm_core, ↓vectorOpen_core]; done) | ((try simp only [↓store_core, ↓core_mk, core_fold, ↓ite_core, ite_self, ↓pairWrite_core, ↓vectorArm_core, ↓vectorOpen_core]) <;> (repeat' split) <;> (try simp only [↓store_core, ↓core_mk, core_fold, ↓ite_core, ite_self, ↓pairWrite_core, ↓vectorArm_core, ↓vectorOpen_core]))
theorem badAccess_core (s : Dev) (a size : Nat) :
    (s.badAccess a size).core = s.core := by
  unfold Dev.badAccess
  simp only [↓core_mk, core_fold, ↓ite_core, ite_self]
theorem stoppedAccess_core (s : Dev) (mgt : Bool) (a : Nat) :
    (s.stoppedAccess mgt a).core = s.core := by
  unfold Dev.stoppedAccess
  simp only [↓core_mk, core_fold, ↓ite_core, ite_self]
theorem laneNext_core (s : Dev) (l : Nat) (ok : Bool) :
    (s.laneNext l ok).core = s.core := by
  unfold Dev.laneNext
  simp only [↓bundleNext_core, ↓cqStopped_core]
theorem publish_core (s : Dev) (l : Nat) (r : SolveOut) :
    (s.publish l r).core = s.core := by
  unfold Dev.publish
  simp only [↓ite_core, ite_self, ↓laneCorr_core, ↓laneNext_core, ↓laneStop_core]
theorem deadline_core (s : Dev) (l iter cycles : Nat) (corr : List Nat) :
    (s.deadline l iter cycles corr).core = s.core := by
  unfold Dev.deadline
  simp only [↓setLane_core, ↓core_mk, core_fold, ↓ite_core, ite_self, ↓laneCorr_core, ↓laneStop_core]
theorem solveFails_core (s : Dev) (l code iter cycles : Nat) (pivot : Rat) (corr : List Nat) :
    (s.solveFails l code iter cycles pivot corr).core = s.core := by
  unfold Dev.solveFails
  simp only [↓ite_core, ite_self, ↓laneCorr_core, ↓laneNext_core, ↓laneStop_core]
theorem settled_core (s : Dev) (sig : Nat) :
    (s.settled sig).core = s.core := by
  unfold Dev.settled
  simp only [↓core_mk, core_fold, ↓ite_core, ite_self]
theorem send450_core (s : Dev) (sentence : List Byte) :
    (s.send450 sentence).core = s.core := by
  unfold Dev.send450
  simp only [↓core_mk, core_fold, ↓originate_core]
theorem sentenceInterval_core (s : Dev) (u : Nat) (texts : List (List Byte)) :
    (s.sentenceInterval u texts).core = s.core := by
  unfold Dev.sentenceInterval
  simp (disch := (intros; (try simp only [↓ite_core, ite_self, ↓send450_core, ↓sentences_core]) <;> (try (split <;> simp only [↓ite_core, ite_self, ↓send450_core, ↓sentences_core])))) only [↓ite_core, ite_self, ↓send450_core, ↓sentences_core, each_core]
theorem chainWrite_core (s : Dev) (a : Nat) (v : Word) :
    (s.chainWrite a v).core = s.core := by
  unfold Dev.chainWrite
  simp only [↓ite_core, ite_self, ↓acqWrite_core]

end Sys2Proof.Machine
end

