-- ==== Sys2Proof/Laws/FuseFrame.lean ====
section
/-! SUPPORT. What leaves the fuses as they are among the operations of the safety logic and of resets. -/

namespace Sys2Proof.Machine

set_option linter.unusedSimpArgs false
set_option linter.unusedTactic false
set_option linter.unreachableTactic false

theorem fuses_mk (r : List (Nat × Word)) (x0 : SeqSt) (x1 : ClkSt) (x2 : LoopSt) (x3 : ProfSt) (x4 : EstSt) (x5 : AllocSt) (x6 : GroveSt) (x7 : GnssSt) (x8 : AcqSt) (x9 : CanSt) (x10 : NetSt) (x11 : LogSt) (x12 : HostSt) (x13 : SafeSt) (x14 : StandSt) (x15 : ThktSt) (x16 : BlzSt) (x17 : GladeSt) (x18 : RstSt) :
    (Dev.mk r x0 x1 x2 x3 x4 x5 x6 x7 x8 x9 x10 x11 x12 x13 x14 x15 x16 x17 x18).fuses = (x17.owner, x17.enrolled, x17.revoked, x17.rb) := (rfl)
theorem wr_fuses (s : Dev) (a : Nat) (v : Word) : (s.wr a v).fuses = s.fuses := (rfl)
theorem wrN_fuses (s : Dev) (a v : Nat) : (s.wrN a v).fuses = s.fuses := (rfl)
theorem setFld_fuses (s : Dev) (a hi lo v : Nat) : (s.setFld a hi lo v).fuses = s.fuses := (rfl)
theorem setBit_fuses (s : Dev) (a i : Nat) (b : Bool) : (s.setBit a i b).fuses = s.fuses := (rfl)
theorem wrPbv_fuses (s : Dev) (a : Nat) (x : Rat) : (s.wrPbv a x).fuses = s.fuses := (rfl)
theorem cntSat_fuses (s : Dev) (a hi lo k : Nat) : (s.cntSat a hi lo k).fuses = s.fuses := (rfl)
theorem cntWrap_fuses (s : Dev) (a hi lo k : Nat) : (s.cntWrap a hi lo k).fuses = s.fuses := (rfl)
theorem orMask_fuses (s : Dev) (a m : Nat) : (s.orMask a m).fuses = s.fuses := (rfl)
theorem clrMask_fuses (s : Dev) (a m : Nat) : (s.clrMask a m).fuses = s.fuses := (rfl)
theorem raise_fuses (s : Dev) (n : Nat) : (s.raise n).fuses = s.fuses := (rfl)
theorem evW_fuses (s : Dev) (c : Nat) (p q : Word) : (s.evW c p q).fuses = s.fuses := (rfl)
theorem ev_fuses (s : Dev) (c p q : Nat) : (s.ev c p q).fuses = s.fuses := (rfl)
theorem evI_fuses (s : Dev) (c p : Nat) (q : Int) : (s.evI c p q).fuses = s.fuses := (rfl)
theorem spend_fuses (s : Dev) : (s.spend).fuses = s.fuses := (rfl)
theorem setLctx_fuses (s : Dev) (n : Nat) (f : LoopCtx → LoopCtx) : (s.setLctx n f).fuses = s.fuses := (rfl)
theorem setGen_fuses (s : Dev) (n : Nat) (f : GenSt → GenSt) : (s.setGen n f).fuses = s.fuses := (rfl)
theorem setChain_fuses (s : Dev) (n : Nat) (f : ChainSt → ChainSt) : (s.setChain n f).fuses = s.fuses := (rfl)
theorem setLane_fuses (s : Dev) (n : Nat) (f : LaneSt → LaneSt) : (s.setLane n f).fuses = s.fuses := (rfl)
theorem setCanc_fuses (s : Dev) (n : Nat) (f : CanCtl → CanCtl) : (s.setCanc n f).fuses = s.fuses := (rfl)
theorem store_fuses (s : Dev) (a : Nat) (v : Word) : (s.store a v).fuses = s.fuses := by
  unfold Dev.store; split <;> rfl
theorem each_fuses {α : Type} (s : Dev) (xs : List α) (f : Dev → α → Dev) (h : ∀ d x, (f d x).fuses = d.fuses) :
    (s.each xs f).fuses = s.fuses := each_keeps Dev.fuses f h xs s
theorem ite_fuses (c : Prop) [Decidable c] (a b : Dev) :
    (if c then a else b).fuses = if c then a.fuses else b.fuses := apply_ite _ _ _ _

theorem fuses_fold (d : Dev) : (d.glade.owner, d.glade.enrolled, d.glade.revoked, d.glade.rb) = d.fuses := (rfl)
theorem fuses_of_core {a b : Dev} (h : a.core = b.core) : a.fuses = b.fuses := congrArg Prod.fst h
theorem sessUse_fuses (s : Dev) :
    (s.sessUse).fuses = s.fuses := fuses_of_core (sessUse_core ..)
theorem byGlade_fuses (s : Dev) (f : Dev → Dev) (h : (f s).fuses = s.fuses) : (s.byGlade f).fuses = s.fuses := by
  unfold Dev.byGlade; split
  · rfl
  · exact h
theorem miss_fuses (s : Dev) (c : Nat) :
    (s.miss c).fuses = s.fuses := fuses_of_core (miss_core ..)
theorem loopP2_fuses (s : Dev) (i : TickIn) (n : Nat) :
    (s.loopP2 i n).fuses = s.fuses := fuses_of_core (loopP2_core ..)
theorem profP1_fuses (s : Dev) (i : TickIn) (n : Nat) :
    (s.profP1 i n).fuses = s.fuses := fuses_of_core (profP1_core ..)
theorem producerSend_fuses (s : Dev) (l method : Nat) (accum : Bool) (n m iterMax : Nat) (p : Problem) :
    (s.producerSend l method accum n m iterMax p).fuses = s.fuses := fuses_of_core (producerSend_core ..)
theorem noLane_fuses (s : Dev) :
    (s.noLane).fuses = s.fuses := fuses_of_core (noLane_core ..)
theorem roleRelease_fuses (s : Dev) (role method : Nat) (accum : Bool) (n m iterMax : Nat) (p : Problem) (final : Bool) (amb : Nat) :
    (s.roleRelease role method accum n m iterMax p final amb).fuses = s.fuses := fuses_of_core (roleRelease_core ..)
theorem groveAbort_fuses (s : Dev) :
    (s.groveAbort).fuses = s.fuses := fuses_of_core (groveAbort_core ..)
theorem lateLanes_fuses (s : Dev) :
    (s.lateLanes).fuses = s.fuses := fuses_of_core (lateLanes_core ..)
theorem setEstState_fuses (s : Dev) (n : Nat) :
    (s.setEstState n).fuses = s.fuses := fuses_of_core (setEstState_core ..)
theorem propagate_fuses (s : Dev) :
    (s.propagate).fuses = s.fuses := fuses_of_core (propagate_core ..)
theorem selectSensors_fuses (s : Dev) :
    (s.selectSensors).fuses = s.fuses := fuses_of_core (selectSensors_core ..)
theorem acceptRefs_fuses (s : Dev) (i : TickIn) :
    (s.acceptRefs i).fuses = s.fuses := fuses_of_core (acceptRefs_core ..)
theorem dropSamples_fuses (s : Dev) :
    (s.dropSamples).fuses = s.fuses := fuses_of_core (dropSamples_core ..)
theorem headingTest_fuses (s : Dev) :
    (s.headingTest).fuses = s.fuses := fuses_of_core (headingTest_core ..)
theorem deadReckon_fuses (s : Dev) (entered : Bool) :
    (s.deadReckon entered).fuses = s.fuses := fuses_of_core (deadReckon_core ..)
theorem applyBundle_fuses (s : Dev) :
    (s.applyBundle).fuses = s.fuses := fuses_of_core (applyBundle_core ..)
theorem estForm_fuses (s : Dev) (i : TickIn) :
    (s.estForm i).fuses = s.fuses := by
  unfold Dev.estForm
  simp only [↓setFld_fuses, ↓fuses_mk, fuses_fold, ↓ite_fuses, ite_self, ↓acceptRefs_fuses, ↓applyBundle_fuses, ↓deadReckon_fuses, ↓dropSamples_fuses, ↓headingTest_fuses, ↓propagate_fuses, ↓roleRelease_fuses, ↓selectSensors_fuses]
theorem takeSolution_fuses (s : Dev) (l : Nat) :
    (s.takeSolution l).fuses = s.fuses := fuses_of_core (takeSolution_core ..)
theorem estUpdate_fuses (s : Dev) :
    (s.estUpdate).fuses = s.fuses := by
  unfold Dev.estUpdate
  first | (simp only [↓setFld_fuses, ↓setBit_fuses, ↓ev_fuses, ↓fuses_mk, fuses_fold, ↓ite_fuses, ite_self, ↓setEstState_fuses, ↓takeSolution_fuses]; done) | ((try simp only [↓setFld_fuses, ↓setBit_fuses, ↓ev_fuses, ↓fuses_mk, fuses_fold, ↓ite_fuses, ite_self, ↓setEstState_fuses, ↓takeSolution_fuses]) <;> (repeat' split) <;> (try simp only [↓setFld_fuses, ↓setBit_fuses, ↓ev_fuses, ↓fuses_mk, fuses_fold, ↓ite_fuses, ite_self, ↓setEstState_fuses, ↓takeSolution_fuses]))
theorem bundleStart_fuses (s : Dev) :
    (s.bundleStart).fuses = s.fuses := fuses_of_core (bundleStart_core ..)
theorem bundleEnd_fuses (s : Dev) (i : TickIn) :
    (s.bundleEnd i).fuses = s.fuses := fuses_of_core (bundleEnd_core ..)
theorem setAllocState_fuses (s : Dev) (n : Nat) :
    (s.setAllocState n).fuses = s.fuses := fuses_of_core (setAllocState_core ..)
theorem allocMismatch_fuses (s : Dev) (k : Nat) :
    (s.allocMismatch k).fuses = s.fuses := fuses_of_core (allocMismatch_core ..)
theorem allocRequest_fuses (s : Dev) :
    (s.allocRequest).fuses = s.fuses := fuses_of_core (allocRequest_core ..)
theorem allocWithdraw_fuses (s : Dev) :
    (s.allocWithdraw).fuses = s.fuses := fuses_of_core (allocWithdraw_core ..)
theorem setTau_fuses (s : Dev) (t : Rat × Rat × Rat) :
    (s.setTau t).fuses = s.fuses := fuses_of_core (setTau_core ..)
theorem estimatorAction_fuses (s : Dev) :
    (s.estimatorAction).fuses = s.fuses := fuses_of_core (estimatorAction_core ..)
theorem allocDemand_fuses (s : Dev) (i : TickIn) :
    (s.allocDemand i).fuses = s.fuses := by
  unfold Dev.allocDemand
  simp only [↓ev_fuses, ↓fuses_mk, fuses_fold, ↓ite_fuses, ite_self, ↓allocMismatch_fuses, ↓estimatorAction_fuses, ↓setAllocState_fuses, ↓setTau_fuses]
theorem latchThr_fuses (s : Dev) (t : Nat) :
    (s.latchThr t).fuses = s.fuses := fuses_of_core (latchThr_core ..)
theorem nextGroup_fuses (s : Dev) (l : Nat) :
    (s.nextGroup l).fuses = s.fuses := fuses_of_core (nextGroup_core ..)
theorem allocPose_fuses (s : Dev) (i : TickIn) :
    (s.allocPose i).fuses = s.fuses := by
  unfold Dev.allocPose
  simp (disch := (intros; simp (disch := (intros; (try simp only [↓setLane_fuses, ↓fuses_mk, fuses_fold, ↓ite_fuses, ite_self, ↓allocMismatch_fuses, ↓latchThr_fuses, ↓nextGroup_fuses, ↓noLane_fuses, ↓producerSend_fuses, ↓roleRelease_fuses]) <;> (repeat' split) <;> (try simp only [↓setLane_fuses, ↓fuses_mk, fuses_fold, ↓ite_fuses, ite_self, ↓allocMismatch_fuses, ↓latchThr_fuses, ↓nextGroup_fuses, ↓noLane_fuses, ↓producerSend_fuses, ↓roleRelease_fuses]))) only [↓setLane_fuses, ↓fuses_mk, fuses_fold, ↓ite_fuses, ite_self, ↓allocMismatch_fuses, ↓latchThr_fuses, ↓nextGroup_fuses, ↓noLane_fuses, ↓producerSend_fuses, ↓roleRelease_fuses, each_fuses])) only [↓setLane_fuses, ↓fuses_mk, fuses_fold, ↓ite_fuses, ite_self, ↓allocMismatch_fuses, ↓latchThr_fuses, ↓nextGroup_fuses, ↓noLane_fuses, ↓producerSend_fuses, ↓roleRelease_fuses, each_fuses]
theorem writeTargets_fuses (s : Dev) :
    (s.writeTargets).fuses = s.fuses := fuses_of_core (writeTargets_core ..)
theorem showShort_fuses (s : Dev) (f : List (Rat × Rat)) :
    (s.showShort f).fuses = s.fuses := fuses_of_core (showShort_core ..)
theorem applyAlloc_fuses (s : Dev) :
    (s.applyAlloc).fuses = s.fuses := fuses_of_core (applyAlloc_core ..)
theorem allocApply_fuses (s : Dev) (i : TickIn) :
    (s.allocApply i).fuses = s.fuses := by
  unfold Dev.allocApply
  first | (simp only [↓setFld_fuses, ↓ev_fuses, ↓fuses_mk, fuses_fold, ↓ite_fuses, ite_self, ↓allocMismatch_fuses, ↓allocRequest_fuses, ↓allocWithdraw_fuses, ↓applyAlloc_fuses, ↓setAllocState_fuses, ↓showShort_fuses, ↓writeTargets_fuses]; done) | ((try simp only [↓setFld_fuses, ↓ev_fuses, ↓fuses_mk, fuses_fold, ↓ite_fuses, ite_self, ↓allocMismatch_fuses, ↓allocRequest_fuses, ↓allocWithdraw_fuses, ↓applyAlloc_fuses, ↓setAllocState_fuses, ↓showShort_fuses, ↓writeTargets_fuses]) <;> (repeat' split) <;> (try simp only [↓setFld_fuses, ↓ev_fuses, ↓fuses_mk, fuses_fold, ↓ite_fuses, ite_self, ↓allocMismatch_fuses, ↓allocRequest_fuses, ↓allocWithdraw_fuses, ↓applyAlloc_fuses, ↓setAllocState_fuses, ↓showShort_fuses, ↓writeTargets_fuses]))
theorem allocReport_fuses (s : Dev) :
    (s.allocReport).fuses = s.fuses := fuses_of_core (allocReport_core ..)
theorem midLatch_fuses (s : Dev) (i : TickIn) :
    (s.midLatch i).fuses = s.fuses := fuses_of_core (midLatch_core ..)
theorem setIn_fuses (s : Dev) (i : Nat) (f : SafeInp → SafeInp) :
    (s.setIn i f).fuses = s.fuses := by
  unfold Dev.setIn
  simp only [↓fuses_mk, fuses_fold]
theorem setOut_fuses (s : Dev) (k : Nat) (f : SafeOut → SafeOut) :
    (s.setOut k f).fuses = s.fuses := by
  unfold Dev.setOut
  simp only [↓fuses_mk, fuses_fold]
theorem setChan_fuses (s : Dev) (i : Nat) (b : Bool) (f : SafeChan → SafeChan) :
    (s.setChan i b f).fuses = s.fuses := by
  unfold Dev.setChan
  simp only [↓fuses_mk, fuses_fold]
theorem copyLatches_fuses (s : Dev) :
    (s.copyLatches).fuses = s.fuses := by
  unfold Dev.copyLatches
  simp only [↓fuses_mk, fuses_fold, ↓ite_fuses, ite_self]
theorem settle_fuses (s : Dev) :
    (s.settle).fuses = s.fuses := by
  unfold Dev.settle
  simp only [↓wrN_fuses, ↓setBit_fuses, ↓copyLatches_fuses]
theorem cause_fuses (s : Dev) (c i b : Nat) :
    (s.cause c i b).fuses = s.fuses := by
  unfold Dev.cause
  simp only [↓fuses_mk, fuses_fold]
theorem latchCause_fuses (s : Dev) (c i b : Nat) :
    (s.latchCause c i b).fuses = s.fuses := by
  unfold Dev.latchCause
  simp only [↓wr_fuses, ↓setFld_fuses, ↓cntSat_fuses, ↓raise_fuses, ↓spend_fuses, ↓fuses_mk, fuses_fold]
theorem causeEvents_fuses (s : Dev) (cs : List (Nat × Nat × Nat)) :
    (s.causeEvents cs).fuses = s.fuses := fuses_of_core (causeEvents_core ..)
theorem enterDeadfall_fuses (s : Dev) :
    (s.enterDeadfall).fuses = s.fuses := by
  unfold Dev.enterDeadfall
  first | (simp only [↓fuses_mk, fuses_fold, ↓ite_fuses, ite_self, ↓causeEvents_fuses, ↓latchCause_fuses]; done) | ((try simp only [↓fuses_mk, fuses_fold, ↓ite_fuses, ite_self, ↓causeEvents_fuses, ↓latchCause_fuses]) <;> (repeat' split) <;> (try simp only [↓fuses_mk, fuses_fold, ↓ite_fuses, ite_self, ↓causeEvents_fuses, ↓latchCause_fuses]))
theorem ustCause_fuses (s : Dev) (c i : Nat) :
    (s.ustCause c i).fuses = s.fuses := by
  unfold Dev.ustCause
  simp only [↓fuses_mk, fuses_fold, ↓ite_fuses, ite_self, ↓causeEvents_fuses, ↓latchCause_fuses]
theorem testChan_fuses (s : Dev) (n i : Nat) (b lvl : Bool) :
    (s.testChan n i b lvl).fuses = s.fuses := by
  unfold Dev.testChan
  first | (simp only [↓fuses_mk, fuses_fold, ↓ite_fuses, ite_self, ↓cause_fuses, ↓setChan_fuses]; done) | ((try simp only [↓fuses_mk, fuses_fold, ↓ite_fuses, ite_self, ↓cause_fuses, ↓setChan_fuses]) <;> (repeat' split) <;> (try simp only [↓fuses_mk, fuses_fold, ↓ite_fuses, ite_self, ↓cause_fuses, ↓setChan_fuses]))
theorem frameEnd_fuses (s : Dev) :
    (s.frameEnd).fuses = s.fuses := by
  unfold Dev.frameEnd
  simp only [↓fuses_mk, fuses_fold, ↓miss_fuses]
theorem detect_fuses (s : Dev) (i : Nat) (b lvl : Bool) :
    (s.detect i b lvl).fuses = s.fuses := by
  unfold Dev.detect
  simp only [↓fuses_mk, fuses_fold, ↓ite_fuses, ite_self, ↓setChan_fuses]
theorem showInputs_fuses (s : Dev) :
    (s.showInputs).fuses = s.fuses := fuses_of_core (showInputs_core ..)
theorem giveStart_fuses (s : Dev) (i : Nat) :
    (s.giveStart i).fuses = s.fuses := by
  unfold Dev.giveStart
  simp (disch := (intros; (try simp only [↓fuses_mk, fuses_fold, ↓ite_fuses, ite_self, ↓setOut_fuses]) <;> (try (split <;> simp only [↓fuses_mk, fuses_fold, ↓ite_fuses, ite_self, ↓setOut_fuses])))) only [↓fuses_mk, fuses_fold, ↓ite_fuses, ite_self, ↓setOut_fuses, each_fuses]
theorem inputTime_fuses (s : Dev) (i : Nat) :
    (s.inputTime i).fuses = s.fuses := by
  unfold Dev.inputTime
  simp only [↓fuses_mk, fuses_fold, ↓ite_fuses, ite_self, ↓setIn_fuses]
theorem released_fuses (s : Dev) (i h : Nat) :
    (s.released i h).fuses = s.fuses := by
  unfold Dev.released
  simp only [↓fuses_mk, fuses_fold, ↓ite_fuses, ite_self, ↓giveStart_fuses, ↓setIn_fuses]
theorem startStep_fuses (s : Dev) (i : Nat) (a b changed inTime : Bool) :
    (s.startStep i a b changed inTime).fuses = s.fuses := by
  unfold Dev.startStep
  first | (simp only [↓fuses_mk, fuses_fold, ↓ite_fuses, ite_self, ↓released_fuses, ↓setIn_fuses]; done) | ((try simp only [↓fuses_mk, fuses_fold, ↓ite_fuses, ite_self, ↓released_fuses, ↓setIn_fuses]) <;> (repeat' split) <;> (try simp only [↓fuses_mk, fuses_fold, ↓ite_fuses, ite_self, ↓released_fuses, ↓setIn_fuses]))
theorem inputStep_fuses (s : Dev) (i : Nat) (chA chB : Bool) :
    (s.inputStep i chA chB).fuses = s.fuses := by
  unfold Dev.inputStep
  simp only [↓cntSat_fuses, ↓ev_fuses, ↓fuses_mk, fuses_fold, ↓ite_fuses, ite_self, ↓setIn_fuses, ↓startStep_fuses]
theorem sampleInput_fuses (s : Dev) (i : Nat) (a b : Bool) :
    (s.sampleInput i a b).fuses = s.fuses := by
  unfold Dev.sampleInput
  simp only [↓ite_fuses, ite_self, ↓detect_fuses, ↓inputStep_fuses]
theorem sampleInputs_fuses (s : Dev) (n : Nat) (a b : BitVec 16) :
    (s.sampleInputs n a b).fuses = s.fuses := by
  unfold Dev.sampleInputs
  simp (disch := (intros; simp (disch := (intros; (try simp only [↓ite_fuses, ite_self, ↓inputTime_fuses, ↓sampleInput_fuses, ↓testChan_fuses]) <;> (try (split <;> simp only [↓ite_fuses, ite_self, ↓inputTime_fuses, ↓sampleInput_fuses, ↓testChan_fuses])))) only [↓ite_fuses, ite_self, ↓inputTime_fuses, ↓sampleInput_fuses, ↓testChan_fuses, each_fuses])) only [↓ite_fuses, ite_self, ↓inputTime_fuses, ↓sampleInput_fuses, ↓testChan_fuses, each_fuses]
theorem canopySample_fuses (s : Dev) (a b cmpBad : BitVec 16) :
    (s.canopySample a b cmpBad).fuses = s.fuses := by
  unfold Dev.canopySample
  simp (disch := (intros; (try simp only [↓fuses_mk, fuses_fold, ↓ite_fuses, ite_self, ↓cause_fuses, ↓frameEnd_fuses, ↓sampleInputs_fuses, ↓showInputs_fuses]) <;> (try (split <;> simp only [↓fuses_mk, fuses_fold, ↓ite_fuses, ite_self, ↓cause_fuses, ↓frameEnd_fuses, ↓sampleInputs_fuses, ↓showInputs_fuses])))) only [↓fuses_mk, fuses_fold, ↓ite_fuses, ite_self, ↓cause_fuses, ↓frameEnd_fuses, ↓sampleInputs_fuses, ↓showInputs_fuses, each_fuses]
theorem discTimeout_fuses (s : Dev) (i : Nat) :
    (s.discTimeout i).fuses = s.fuses := by
  unfold Dev.discTimeout
  first | (simp only [↓fuses_mk, fuses_fold, ↓ite_fuses, ite_self, ↓cause_fuses, ↓setIn_fuses]; done) | ((try simp only [↓fuses_mk, fuses_fold, ↓ite_fuses, ite_self, ↓cause_fuses, ↓setIn_fuses]) <;> (repeat' split) <;> (try simp only [↓fuses_mk, fuses_fold, ↓ite_fuses, ite_self, ↓cause_fuses, ↓setIn_fuses]))
theorem discardDark_fuses (s : Dev) (k : Nat) :
    (s.discardDark k).fuses = s.fuses := by
  unfold Dev.discardDark
  first | (simp only [↓cntSat_fuses, ↓ev_fuses, ↓fuses_mk, fuses_fold, ↓ite_fuses, ite_self]; done) | ((try simp only [↓cntSat_fuses, ↓ev_fuses, ↓fuses_mk, fuses_fold, ↓ite_fuses, ite_self]) <;> (repeat' split) <;> (try simp only [↓cntSat_fuses, ↓ev_fuses, ↓fuses_mk, fuses_fold, ↓ite_fuses, ite_self]))
theorem scanDecide_fuses (s : Dev) (k : Nat) :
    (s.scanDecide k).fuses = s.fuses := by
  unfold Dev.scanDecide
  first | (simp only [↓raise_fuses, ↓ev_fuses, ↓fuses_mk, fuses_fold, ↓ite_fuses, ite_self, ↓discardDark_fuses, ↓setOut_fuses]; done) | ((try simp only [↓raise_fuses, ↓ev_fuses, ↓fuses_mk, fuses_fold, ↓ite_fuses, ite_self, ↓discardDark_fuses, ↓setOut_fuses]) <;> (repeat' split) <;> (try simp only [↓raise_fuses, ↓ev_fuses, ↓fuses_mk, fuses_fold, ↓ite_fuses, ite_self, ↓discardDark_fuses, ↓setOut_fuses]))
theorem darkStart_fuses (s : Dev) :
    (s.darkStart).fuses = s.fuses := by
  unfold Dev.darkStart
  first | (simp only [↓fuses_mk, fuses_fold, ↓ite_fuses, ite_self, ↓setOut_fuses]; done) | ((try simp only [↓fuses_mk, fuses_fold, ↓ite_fuses, ite_self, ↓setOut_fuses]) <;> (repeat' split) <;> (try simp only [↓fuses_mk, fuses_fold, ↓ite_fuses, ite_self, ↓setOut_fuses]))
theorem scanTimes_fuses (s : Dev) :
    (s.scanTimes).fuses = s.fuses := by
  unfold Dev.scanTimes
  simp only [↓fuses_mk, fuses_fold]
theorem showResetLow_fuses (s : Dev) (low : Option Bool) :
    (s.showResetLow low).fuses = s.fuses := fuses_of_core (showResetLow_core ..)
theorem scanEnd_fuses (s : Dev) (i : ScanIn) :
    (s.scanEnd i).fuses = s.fuses := by
  unfold Dev.scanEnd
  simp (disch := (intros; (try simp only [↓wrN_fuses, ↓cntSat_fuses, ↓fuses_mk, fuses_fold, ↓ite_fuses, ite_self, ↓cause_fuses, ↓copyLatches_fuses, ↓darkStart_fuses, ↓enterDeadfall_fuses, ↓scanDecide_fuses, ↓scanTimes_fuses, ↓showResetLow_fuses]) <;> (try (split <;> simp only [↓wrN_fuses, ↓cntSat_fuses, ↓fuses_mk, fuses_fold, ↓ite_fuses, ite_self, ↓cause_fuses, ↓copyLatches_fuses, ↓darkStart_fuses, ↓enterDeadfall_fuses, ↓scanDecide_fuses, ↓scanTimes_fuses, ↓showResetLow_fuses])))) only [↓wrN_fuses, ↓cntSat_fuses, ↓fuses_mk, fuses_fold, ↓ite_fuses, ite_self, ↓cause_fuses, ↓copyLatches_fuses, ↓darkStart_fuses, ↓enterDeadfall_fuses, ↓scanDecide_fuses, ↓scanTimes_fuses, ↓showResetLow_fuses, each_fuses]
theorem rbMismatch_fuses (s : Dev) (k : Nat) (high : Bool) :
    (s.rbMismatch k high).fuses = s.fuses := by
  unfold Dev.rbMismatch
  simp only [↓ite_fuses, ite_self, ↓cause_fuses]
theorem permitMismatch_fuses (s : Dev) (k : Nat) :
    (s.permitMismatch k).fuses = s.fuses := by
  unfold Dev.permitMismatch
  simp only [↓ite_fuses, ite_self, ↓cause_fuses]
theorem darkDue_fuses (s : Dev) (k : Nat) :
    (s.darkDue k).fuses = s.fuses := by
  unfold Dev.darkDue
  simp only [↓fuses_mk, fuses_fold, ↓ite_fuses, ite_self, ↓setOut_fuses]
theorem darkCheck_fuses (s : Dev) (rbHigh : Bool) :
    (s.darkCheck rbHigh).fuses = s.fuses := by
  unfold Dev.darkCheck
  first | (simp only [↓cntWrap_fuses, ↓ev_fuses, ↓fuses_mk, fuses_fold, ↓ite_fuses, ite_self, ↓cause_fuses, ↓setOut_fuses]; done) | ((try simp only [↓cntWrap_fuses, ↓ev_fuses, ↓fuses_mk, fuses_fold, ↓ite_fuses, ite_self, ↓cause_fuses, ↓setOut_fuses]) <;> (repeat' split) <;> (try simp only [↓cntWrap_fuses, ↓ev_fuses, ↓fuses_mk, fuses_fold, ↓ite_fuses, ite_self, ↓cause_fuses, ↓setOut_fuses]))
theorem romCheck_fuses (s : Dev) (ok : Bool) :
    (s.romCheck ok).fuses = s.fuses := by
  unfold Dev.romCheck
  simp only [↓ite_fuses, ite_self, ↓cause_fuses]
theorem ustFreq_fuses (s : Dev) (changes : Nat) :
    (s.ustFreq changes).fuses = s.fuses := by
  unfold Dev.ustFreq
  simp only [↓setFld_fuses, ↓ite_fuses, ite_self, ↓cause_fuses]
theorem hbLost_fuses (s : Dev) :
    (s.hbLost).fuses = s.fuses := by
  unfold Dev.hbLost
  simp only [↓fuses_mk, fuses_fold, ↓ite_fuses, ite_self, ↓ustCause_fuses]
theorem ustFilter_fuses (s : Dev) (i : Nat) (b closed : Bool) :
    (s.ustFilter i b closed).fuses = s.fuses := by
  unfold Dev.ustFilter
  simp only [↓fuses_mk, fuses_fold, ↓ite_fuses, ite_self, ↓setChan_fuses]
theorem ustRb_fuses (s : Dev) (k : Nat) :
    (s.ustRb k).fuses = s.fuses := by
  unfold Dev.ustRb
  simp only [↓ite_fuses, ite_self, ↓ustCause_fuses]
theorem selfClose_fuses (s : Dev) :
    (s.selfClose).fuses = s.fuses := by
  unfold Dev.selfClose
  simp only [↓fuses_mk, fuses_fold, ↓ite_fuses, ite_self]
theorem safeReset_fuses (s : Dev) (ms rc : Nat) (rb : BitVec 12) (checksOk : Bool) :
    (s.safeReset ms rc rb checksOk).fuses = s.fuses := by
  unfold Dev.safeReset
  simp only [↓wrN_fuses, ↓setFld_fuses, ↓setBit_fuses, ↓raise_fuses, ↓ev_fuses, ↓fuses_mk, fuses_fold, ↓ite_fuses, ite_self]
theorem startInput_fuses (s : Dev) (i : Nat) :
    (s.startInput i).fuses = s.fuses := by
  unfold Dev.startInput
  simp only [↓fuses_mk, fuses_fold, ↓ite_fuses, ite_self, ↓setIn_fuses]
theorem canopyStartup_fuses (s : Dev) (romOk memOk : Bool) (finding : Option (Bool × Nat × Bool)) :
    (s.canopyStartup romOk memOk finding).fuses = s.fuses := by
  unfold Dev.canopyStartup
  first | (simp (disch := (intros; (try simp only [↓setBit_fuses, ↓ev_fuses, ↓fuses_mk, fuses_fold, ↓ite_fuses, ite_self, ↓cause_fuses, ↓showInputs_fuses, ↓startInput_fuses]) <;> (repeat' split) <;> (try simp only [↓setBit_fuses, ↓ev_fuses, ↓fuses_mk, fuses_fold, ↓ite_fuses, ite_self, ↓cause_fuses, ↓showInputs_fuses, ↓startInput_fuses]))) only [↓setBit_fuses, ↓ev_fuses, ↓fuses_mk, fuses_fold, ↓ite_fuses, ite_self, ↓cause_fuses, ↓showInputs_fuses, ↓startInput_fuses, each_fuses]; done) | ((try simp (disch := (intros; (try simp only [↓setBit_fuses, ↓ev_fuses, ↓fuses_mk, fuses_fold, ↓ite_fuses, ite_self, ↓cause_fuses, ↓showInputs_fuses, ↓startInput_fuses]) <;> (repeat' split) <;> (try simp only [↓setBit_fuses, ↓ev_fuses, ↓fuses_mk, fuses_fold, ↓ite_fuses, ite_self, ↓cause_fuses, ↓showInputs_fuses, ↓startInput_fuses]))) only [↓setBit_fuses, ↓ev_fuses, ↓fuses_mk, fuses_fold, ↓ite_fuses, ite_self, ↓cause_fuses, ↓showInputs_fuses, ↓startInput_fuses, each_fuses]) <;> (repeat' split) <;> (try simp (disch := (intros; (try simp only [↓setBit_fuses, ↓ev_fuses, ↓fuses_mk, fuses_fold, ↓ite_fuses, ite_self, ↓cause_fuses, ↓showInputs_fuses, ↓startInput_fuses]) <;> (repeat' split) <;> (try simp only [↓setBit_fuses, ↓ev_fuses, ↓fuses_mk, fuses_fold, ↓ite_fuses, ite_self, ↓cause_fuses, ↓showInputs_fuses, ↓startInput_fuses]))) only [↓setBit_fuses, ↓ev_fuses, ↓fuses_mk, fuses_fold, ↓ite_fuses, ite_self, ↓cause_fuses, ↓showInputs_fuses, ↓startInput_fuses, each_fuses]))
theorem suspEnd_fuses (s : Dev) :
    (s.suspEnd).fuses = s.fuses := by
  unfold Dev.suspEnd
  simp only [↓fuses_mk, fuses_fold, ↓ite_fuses, ite_self, ↓ustCause_fuses]
theorem ustPower_fuses (s : Dev) :
    (s.ustPower).fuses = s.fuses := by
  unfold Dev.ustPower
  simp only [↓fuses_mk, fuses_fold]
theorem ustLow_fuses (s : Dev) :
    (s.ustLow).fuses = s.fuses := by
  unfold Dev.ustLow
  simp only [↓fuses_mk, fuses_fold]
theorem ustReturn_fuses (s : Dev) :
    (s.ustReturn).fuses = s.fuses := by
  unfold Dev.ustReturn
  simp only [↓fuses_mk, fuses_fold, ↓ite_fuses, ite_self]
theorem safeAnnounce_fuses (s : Dev) :
    (s.safeAnnounce).fuses = s.fuses := by
  unfold Dev.safeAnnounce
  simp (disch := (intros; (try simp only [↓raise_fuses, ↓ev_fuses, ↓fuses_mk, fuses_fold, ↓ite_fuses, ite_self, ↓setOut_fuses]) <;> (try (split <;> simp only [↓raise_fuses, ↓ev_fuses, ↓fuses_mk, fuses_fold, ↓ite_fuses, ite_self, ↓setOut_fuses])))) only [↓raise_fuses, ↓ev_fuses, ↓fuses_mk, fuses_fold, ↓ite_fuses, ite_self, ↓setOut_fuses, each_fuses]
theorem safeRelease_fuses (s : Dev) :
    (s.safeRelease).fuses = s.fuses := by
  unfold Dev.safeRelease
  simp only [↓fuses_mk, fuses_fold]
theorem standTick78_fuses (s : Dev) :
    (s.standTick78).fuses = s.fuses := fuses_of_core (standTick78_core ..)
theorem loadCtxs_fuses (s : Dev) :
    (s.loadCtxs).fuses = s.fuses := fuses_of_core (loadCtxs_core ..)
theorem standStart_fuses (s : Dev) (role : Option Nat) (unit : Nat) :
    (s.standStart role unit).fuses = s.fuses := fuses_of_core (standStart_core ..)
theorem mergeAll_fuses (s : Dev) :
    (s.mergeAll).fuses = s.fuses := fuses_of_core (mergeAll_core ..)
theorem panelTemp_fuses (s : Dev) (reading : Option Int) :
    (s.panelTemp reading).fuses = s.fuses := fuses_of_core (panelTemp_core ..)
theorem panelBoot_fuses (s : Dev) (temp : Option Int) :
    (s.panelBoot temp).fuses = s.fuses := fuses_of_core (panelBoot_core ..)
theorem showFuses_fuses (s : Dev) :
    (s.showFuses).fuses = s.fuses := fuses_of_core (showFuses_core ..)
theorem imgStat_fuses (s : Dev) (state res : Nat) (b : List Byte) :
    (s.imgStat state res b).fuses = s.fuses := fuses_of_core (imgStat_core ..)
theorem imageReject_fuses (s : Dev) (j : ImgJob) (res : Nat) :
    (s.imageReject j res).fuses = s.fuses := fuses_of_core (imageReject_core ..)
theorem imageBurn_fuses (s : Dev) (j : ImgJob) (res : Nat) :
    (s.imageBurn j res).fuses = s.fuses := fuses_of_core (imageBurn_core ..)
theorem imageToStore_fuses (s : Dev) (j : ImgJob) :
    (s.imageToStore j).fuses = s.fuses := fuses_of_core (imageToStore_core ..)
theorem bootHeartwood_fuses (s : Dev) (j : Option ImgJob) :
    (s.bootHeartwood j).fuses = s.fuses := fuses_of_core (bootHeartwood_core ..)
theorem bootSafety_fuses (s : Dev) (j : Option ImgJob) :
    (s.bootSafety j).1.fuses = s.fuses := by
  unfold Dev.bootSafety
  first | (simp (disch := (intros; (try simp only [↓wr_fuses, ↓ev_fuses, ↓fuses_mk, fuses_fold, ↓ite_fuses, ite_self, ↓imageReject_fuses]) <;> (repeat' split) <;> (try simp only [↓wr_fuses, ↓ev_fuses, ↓fuses_mk, fuses_fold, ↓ite_fuses, ite_self, ↓imageReject_fuses]))) only [↓wr_fuses, ↓ev_fuses, ↓fuses_mk, fuses_fold, ↓ite_fuses, ite_self, ↓imageReject_fuses, each_fuses]; done) | ((try simp (disch := (intros; (try simp only [↓wr_fuses, ↓ev_fuses, ↓fuses_mk, fuses_fold, ↓ite_fuses, ite_self, ↓imageReject_fuses]) <;> (repeat' split) <;> (try simp only [↓wr_fuses, ↓ev_fuses, ↓fuses_mk, fuses_fold, ↓ite_fuses, ite_self, ↓imageReject_fuses]))) only [↓wr_fuses, ↓ev_fuses, ↓fuses_mk, fuses_fold, ↓ite_fuses, ite_self, ↓imageReject_fuses, each_fuses]) <;> (repeat' split) <;> (try simp (disch := (intros; (try simp only [↓wr_fuses, ↓ev_fuses, ↓fuses_mk, fuses_fold, ↓ite_fuses, ite_self, ↓imageReject_fuses]) <;> (repeat' split) <;> (try simp only [↓wr_fuses, ↓ev_fuses, ↓fuses_mk, fuses_fold, ↓ite_fuses, ite_self, ↓imageReject_fuses]))) only [↓wr_fuses, ↓ev_fuses, ↓fuses_mk, fuses_fold, ↓ite_fuses, ite_self, ↓imageReject_fuses, each_fuses]))
theorem bootArtwork_fuses (s : Dev) (j : Option ImgJob) :
    (s.bootArtwork j).fuses = s.fuses := fuses_of_core (bootArtwork_core ..)
theorem bootImages_fuses (s : Dev) (hw com art : Option ImgJob) :
    (s.bootImages hw com art).fuses = s.fuses := by
  unfold Dev.bootImages
  first | (simp (disch := (intros; (try simp only [↓setBit_fuses, ↓ev_fuses, ↓fuses_mk, fuses_fold, ↓ite_fuses, ite_self, ↓bootArtwork_fuses, ↓bootHeartwood_fuses, ↓bootSafety_fuses, ↓imageBurn_fuses, ↓imgStat_fuses, ↓panelBoot_fuses]) <;> (repeat' split) <;> (try simp only [↓setBit_fuses, ↓ev_fuses, ↓fuses_mk, fuses_fold, ↓ite_fuses, ite_self, ↓bootArtwork_fuses, ↓bootHeartwood_fuses, ↓bootSafety_fuses, ↓imageBurn_fuses, ↓imgStat_fuses, ↓panelBoot_fuses]))) only [↓setBit_fuses, ↓ev_fuses, ↓fuses_mk, fuses_fold, ↓ite_fuses, ite_self, ↓bootArtwork_fuses, ↓bootHeartwood_fuses, ↓bootSafety_fuses, ↓imageBurn_fuses, ↓imgStat_fuses, ↓panelBoot_fuses, each_fuses]; done) | ((try simp (disch := (intros; (try simp only [↓setBit_fuses, ↓ev_fuses, ↓fuses_mk, fuses_fold, ↓ite_fuses, ite_self, ↓bootArtwork_fuses, ↓bootHeartwood_fuses, ↓bootSafety_fuses, ↓imageBurn_fuses, ↓imgStat_fuses, ↓panelBoot_fuses]) <;> (repeat' split) <;> (try simp only [↓setBit_fuses, ↓ev_fuses, ↓fuses_mk, fuses_fold, ↓ite_fuses, ite_self, ↓bootArtwork_fuses, ↓bootHeartwood_fuses, ↓bootSafety_fuses, ↓imageBurn_fuses, ↓imgStat_fuses, ↓panelBoot_fuses]))) only [↓setBit_fuses, ↓ev_fuses, ↓fuses_mk, fuses_fold, ↓ite_fuses, ite_self, ↓bootArtwork_fuses, ↓bootHeartwood_fuses, ↓bootSafety_fuses, ↓imageBurn_fuses, ↓imgStat_fuses, ↓panelBoot_fuses, each_fuses]) <;> (repeat' split) <;> (try simp (disch := (intros; (try simp only [↓setBit_fuses, ↓ev_fuses, ↓fuses_mk, fuses_fold, ↓ite_fuses, ite_self, ↓bootArtwork_fuses, ↓bootHeartwood_fuses, ↓bootSafety_fuses, ↓imageBurn_fuses, ↓imgStat_fuses, ↓panelBoot_fuses]) <;> (repeat' split) <;> (try simp only [↓setBit_fuses, ↓ev_fuses, ↓fuses_mk, fuses_fold, ↓ite_fuses, ite_self, ↓bootArtwork_fuses, ↓bootHeartwood_fuses, ↓bootSafety_fuses, ↓imageBurn_fuses, ↓imgStat_fuses, ↓panelBoot_fuses]))) only [↓setBit_fuses, ↓ev_fuses, ↓fuses_mk, fuses_fold, ↓ite_fuses, ite_self, ↓bootArtwork_fuses, ↓bootHeartwood_fuses, ↓bootSafety_fuses, ↓imageBurn_fuses, ↓imgStat_fuses, ↓panelBoot_fuses, each_fuses]))
theorem storeImage_fuses (s : Dev) (typ : Nat) :
    (s.storeImage typ).1.fuses = s.fuses := fuses_of_core (storeImage_core ..)
theorem ringlogProbe_fuses (s : Dev) (nor : Nat) :
    (s.ringlogProbe nor).fuses = s.fuses := fuses_of_core (ringlogProbe_core ..)
theorem bootHost_fuses (s : Dev) :
    (s.bootHost).fuses = s.fuses := by
  unfold Dev.bootHost
  simp only [↓bootImages_fuses]
theorem gladeBoot_fuses (s : Dev) (b : BootIn) :
    (s.gladeBoot b).fuses = s.fuses := by
  unfold Dev.gladeBoot
  first | (simp only [↓setFld_fuses, ↓setBit_fuses, ↓store_fuses, ↓fuses_mk, fuses_fold, ↓ite_fuses, ite_self, ↓bootImages_fuses, ↓panelTemp_fuses, ↓ringlogProbe_fuses, ↓showFuses_fuses, ↓storeImage_fuses]; done) | ((try simp only [↓setFld_fuses, ↓setBit_fuses, ↓store_fuses, ↓fuses_mk, fuses_fold, ↓ite_fuses, ite_self, ↓bootImages_fuses, ↓panelTemp_fuses, ↓ringlogProbe_fuses, ↓showFuses_fuses, ↓storeImage_fuses]) <;> (repeat' split) <;> (try simp only [↓setFld_fuses, ↓setBit_fuses, ↓store_fuses, ↓fuses_mk, fuses_fold, ↓ite_fuses, ite_self, ↓bootImages_fuses, ↓panelTemp_fuses, ↓ringlogProbe_fuses, ↓showFuses_fuses, ↓storeImage_fuses]))
theorem hostWaitEnd_fuses (s : Dev) :
    (s.hostWaitEnd).fuses = s.fuses := by
  unfold Dev.hostWaitEnd
  simp only [↓ite_fuses, ite_self, ↓bootHost_fuses]
theorem takeImage_fuses (s : Dev) (b : List Byte) (desc : Nat × Nat × Nat) :
    (s.takeImage b desc).fuses = s.fuses := by
  unfold Dev.takeImage
  simp only [↓fuses_mk, fuses_fold, ↓ite_fuses, ite_self, ↓bootHost_fuses, ↓imageReject_fuses, ↓imageToStore_fuses, ↓imgStat_fuses, ↓sessUse_fuses]
theorem withDesc_fuses (s : Dev) (p idx : Nat) (f : Dev → Dev) (h : ∀ d, (f d).fuses = d.fuses) :
    (s.withDesc p idx f).fuses = s.fuses := by
  unfold Dev.withDesc
  split
  · rename_i d hd
    rw [h]
    unfold Dev.latchDesc at hd
    split_ifs at hd
    cases hd
    simp only [setFld_fuses, cntWrap_fuses, fuses_mk, fuses_fold]
  · rfl
theorem imageDesc_fuses (s : Dev) (p idx : Nat) (b image : List Byte) :
    (s.imageDesc p idx b image).fuses = s.fuses := by
  unfold Dev.imageDesc
  apply withDesc_fuses
  intro d
  first | (simp only [↓byGlade_fuses, ↓takeImage_fuses]; done) | ((try simp only [↓byGlade_fuses, ↓takeImage_fuses]) <;> (repeat' split) <;> (try simp only [↓byGlade_fuses, ↓takeImage_fuses]))
theorem hostP4_fuses (s : Dev) (n : Nat) :
    (s.hostP4 n).fuses = s.fuses := fuses_of_core (hostP4_core ..)
theorem criticalError_fuses (s : Dev) (src addr : Nat) :
    (s.criticalError src addr).fuses = s.fuses := fuses_of_core (criticalError_core ..)
theorem resetAnnounce_fuses (s : Dev) :
    (s.resetAnnounce).fuses = s.fuses := by
  unfold Dev.resetAnnounce
  first | (simp only [↓fuses_mk, fuses_fold, ↓ite_fuses, ite_self, ↓groveAbort_fuses, ↓mergeAll_fuses, ↓safeAnnounce_fuses]; done) | ((try simp only [↓fuses_mk, fuses_fold, ↓ite_fuses, ite_self, ↓groveAbort_fuses, ↓mergeAll_fuses, ↓safeAnnounce_fuses]) <;> (repeat' split) <;> (try simp only [↓fuses_mk, fuses_fold, ↓ite_fuses, ite_self, ↓groveAbort_fuses, ↓mergeAll_fuses, ↓safeAnnounce_fuses]))
theorem showDoms_fuses (s : Dev) :
    (s.showDoms).fuses = s.fuses := fuses_of_core (showDoms_core ..)
theorem loadFuses_fuses (s : Dev) (fu : FuseIn) :
    (s.loadFuses fu).fuses = s.fuses := fuses_of_core (loadFuses_core ..)
theorem countPower_fuses (s : Dev) :
    (s.countPower).fuses = s.fuses := fuses_of_core (countPower_core ..)
theorem resetEvents_fuses (s : Dev) (r : RstRun) (x : StrapRead) (role : Option Nat) :
    (s.resetEvents r x role).fuses = s.fuses := fuses_of_core (resetEvents_core ..)
theorem resetRelease_fuses (s : Dev) (st : StrapIn) (fu : FuseIn) :
    (s.resetRelease st fu).fuses = s.fuses := by
  unfold Dev.resetRelease
  first | (simp only [↓wrN_fuses, ↓setBit_fuses, ↓cntSat_fuses, ↓orMask_fuses, ↓fuses_mk, fuses_fold, ↓ite_fuses, ite_self, ↓countPower_fuses, ↓loadFuses_fuses, ↓resetEvents_fuses, ↓safeRelease_fuses, ↓showDoms_fuses, ↓standStart_fuses]; done) | ((try simp only [↓wrN_fuses, ↓setBit_fuses, ↓cntSat_fuses, ↓orMask_fuses, ↓fuses_mk, fuses_fold, ↓ite_fuses, ite_self, ↓countPower_fuses, ↓loadFuses_fuses, ↓resetEvents_fuses, ↓safeRelease_fuses, ↓showDoms_fuses, ↓standStart_fuses]) <;> (repeat' split) <;> (try simp only [↓wrN_fuses, ↓setBit_fuses, ↓cntSat_fuses, ↓orMask_fuses, ↓fuses_mk, fuses_fold, ↓ite_fuses, ite_self, ↓countPower_fuses, ↓loadFuses_fuses, ↓resetEvents_fuses, ↓safeRelease_fuses, ↓showDoms_fuses, ↓standStart_fuses]))
theorem showTick_fuses (s : Dev) (n : Nat) (slewing : Bool) :
    (s.showTick n slewing).fuses = s.fuses := fuses_of_core (showTick_core ..)
theorem showLoad_fuses (s : Dev) (p1 p2 : Nat) :
    (s.showLoad p1 p2).fuses = s.fuses := fuses_of_core (showLoad_core ..)
theorem showRun_fuses (s : Dev) :
    (s.showRun).fuses = s.fuses := fuses_of_core (showRun_core ..)
theorem tickP0_fuses (s : Dev) (n : Nat) :
    (s.tickP0 n).fuses = s.fuses := fuses_of_core (tickP0_core ..)
theorem slotsBefore_fuses (s : Dev) (i : TickIn) (n : Nat) :
    (s.slotsBefore i n).fuses = s.fuses := by
  unfold Dev.slotsBefore
  first | (simp only [↓fuses_mk, fuses_fold, ↓allocApply_fuses, ↓allocPose_fuses, ↓allocReport_fuses, ↓bundleEnd_fuses, ↓bundleStart_fuses, ↓estForm_fuses, ↓estUpdate_fuses]; done) | ((try simp only [↓fuses_mk, fuses_fold, ↓allocApply_fuses, ↓allocPose_fuses, ↓allocReport_fuses, ↓bundleEnd_fuses, ↓bundleStart_fuses, ↓estForm_fuses, ↓estUpdate_fuses]) <;> (repeat' split) <;> (try simp only [↓fuses_mk, fuses_fold, ↓allocApply_fuses, ↓allocPose_fuses, ↓allocReport_fuses, ↓bundleEnd_fuses, ↓bundleStart_fuses, ↓estForm_fuses, ↓estUpdate_fuses]))
theorem tickLoops_fuses (s : Dev) (i : TickIn) (n : Nat) :
    (s.tickLoops i n).fuses = s.fuses := by
  unfold Dev.tickLoops
  simp only [↓ite_fuses, ite_self, ↓allocDemand_fuses, ↓loadCtxs_fuses, ↓loopP2_fuses, ↓profP1_fuses, ↓showLoad_fuses, ↓showRun_fuses, ↓standTick78_fuses]
theorem tickP3_fuses (s : Dev) (n : Nat) :
    (s.tickP3 n).fuses = s.fuses := fuses_of_core (tickP3_core ..)
theorem passTime_fuses (s : Dev) (n cycles : Nat) (dt : Rat) :
    (s.passTime n cycles dt).fuses = s.fuses := fuses_of_core (passTime_core ..)
theorem adjustedTick_fuses (s : Dev) (n : Nat) (r : Rat) :
    (s.adjustedTick n r).fuses = s.fuses := fuses_of_core (adjustedTick_core ..)
theorem wholeTick_fuses (s : Dev) (i : TickIn) (n : Nat) :
    (s.wholeTick i n).fuses = s.fuses := by
  unfold Dev.wholeTick
  simp only [↓ite_fuses, ite_self, ↓hostP4_fuses, ↓midLatch_fuses, ↓passTime_fuses, ↓showTick_fuses, ↓slotsBefore_fuses, ↓tickLoops_fuses, ↓tickP0_fuses, ↓tickP3_fuses]
theorem tickCritical_fuses (s : Dev) (i : TickIn) :
    (s.tickCritical i).fuses = s.fuses := fuses_of_core (tickCritical_core ..)
theorem tickCommand_fuses (s : Dev) (i : TickIn) :
    (s.tickCommand i).fuses = s.fuses := by
  unfold Dev.tickCommand
  first | (simp only [↓wr_fuses, ↓cntSat_fuses, ↓fuses_mk, fuses_fold, ↓ite_fuses, ite_self, ↓adjustedTick_fuses, ↓lateLanes_fuses, ↓tickCritical_fuses, ↓wholeTick_fuses]; done) | ((try simp only [↓wr_fuses, ↓cntSat_fuses, ↓fuses_mk, fuses_fold, ↓ite_fuses, ite_self, ↓adjustedTick_fuses, ↓lateLanes_fuses, ↓tickCritical_fuses, ↓wholeTick_fuses]) <;> (repeat' split) <;> (try simp only [↓wr_fuses, ↓cntSat_fuses, ↓fuses_mk, fuses_fold, ↓ite_fuses, ite_self, ↓adjustedTick_fuses, ↓lateLanes_fuses, ↓tickCritical_fuses, ↓wholeTick_fuses]))
theorem scanCommand_fuses (s : Dev) (i : ScanIn) :
    (s.scanCommand i).fuses = s.fuses := by
  unfold Dev.scanCommand
  simp only [↓ite_fuses, ite_self, ↓criticalError_fuses, ↓scanEnd_fuses]

/-- A reset leaves the fuses as they are, unless it cuts a rollback burn short (R423). -/
theorem bare_fuses (s : Dev) (h : s.glade.burns = []) : s.bare.fuses = s.fuses := by
  simp only [Dev.bare, Dev.fuses, Dev.burnCut, h]

end Sys2Proof.Machine
end

