-- ==== Sys2Proof/Laws/GlbFrame.lean ====
section
/-! SUPPORT. What leaves GLB_MODE_STAT and GLB_CYCLE_CNT alone: all but the start of a cycle, the mode step, the commit and resets. -/

namespace Sys2Proof.Machine

set_option linter.unusedSimpArgs false
set_option linter.unusedTactic false
set_option linter.unreachableTactic false

/-- The words of GLB_MODE_STAT and GLB_CYCLE_CNT. -/
def Dev.glbKey (d : Dev) : Word × Word := (d.rd GLB_MODE_STAT, d.rd GLB_CYCLE_CNT)

/-- An address of neither. -/
abbrev notGlb (a : Nat) : Prop := a ≠ GLB_MODE_STAT ∧ a ≠ GLB_CYCLE_CNT

theorem glbKey_mk (r : List (Nat × Word)) (x0 : SeqSt) (x1 : ClkSt) (x2 : LoopSt) (x3 : ProfSt) (x4 : EstSt) (x5 : AllocSt) (x6 : GroveSt) (x7 : GnssSt) (x8 : AcqSt) (x9 : CanSt) (x10 : NetSt) (x11 : LogSt) (x12 : HostSt) (x13 : SafeSt) (x14 : StandSt) (x15 : ThktSt) (x16 : BlzSt) (x17 : GladeSt) (x18 : RstSt) :
    (Dev.mk r x0 x1 x2 x3 x4 x5 x6 x7 x8 x9 x10 x11 x12 x13 x14 x15 x16 x17 x18).glbKey = (regAt r GLB_MODE_STAT, regAt r GLB_CYCLE_CNT) := (rfl)
theorem glbKey_fold (d : Dev) : (regAt d.regs GLB_MODE_STAT, regAt d.regs GLB_CYCLE_CNT) = d.glbKey := (rfl)
theorem wr_glbKey (s : Dev) (a : Nat) (v : Word) (h : notGlb a) : (s.wr a v).glbKey = s.glbKey :=
  Prod.ext (rd_wr_ne _ _ _ _ h.1.symm) (rd_wr_ne _ _ _ _ h.2.symm)
theorem wrN_glbKey (s : Dev) (a v : Nat) (h : notGlb a) : (s.wrN a v).glbKey = s.glbKey :=
  Prod.ext (rd_wr_ne _ _ _ _ h.1.symm) (rd_wr_ne _ _ _ _ h.2.symm)
theorem setFld_glbKey (s : Dev) (a hi lo v : Nat) (h : notGlb a) : (s.setFld a hi lo v).glbKey = s.glbKey :=
  Prod.ext (rd_wr_ne _ _ _ _ h.1.symm) (rd_wr_ne _ _ _ _ h.2.symm)
theorem setBit_glbKey (s : Dev) (a i : Nat) (b : Bool) (h : notGlb a) : (s.setBit a i b).glbKey = s.glbKey :=
  Prod.ext (rd_wr_ne _ _ _ _ h.1.symm) (rd_wr_ne _ _ _ _ h.2.symm)
theorem wrPbv_glbKey (s : Dev) (a : Nat) (x : Rat) (h : notGlb a) : (s.wrPbv a x).glbKey = s.glbKey :=
  Prod.ext (rd_wr_ne _ _ _ _ h.1.symm) (rd_wr_ne _ _ _ _ h.2.symm)
theorem cntSat_glbKey (s : Dev) (a hi lo k : Nat) (h : notGlb a) : (s.cntSat a hi lo k).glbKey = s.glbKey :=
  Prod.ext (rd_wr_ne _ _ _ _ h.1.symm) (rd_wr_ne _ _ _ _ h.2.symm)
theorem cntWrap_glbKey (s : Dev) (a hi lo k : Nat) (h : notGlb a) : (s.cntWrap a hi lo k).glbKey = s.glbKey :=
  Prod.ext (rd_wr_ne _ _ _ _ h.1.symm) (rd_wr_ne _ _ _ _ h.2.symm)
theorem orMask_glbKey (s : Dev) (a m : Nat) (h : notGlb a) : (s.orMask a m).glbKey = s.glbKey :=
  Prod.ext (rd_wr_ne _ _ _ _ h.1.symm) (rd_wr_ne _ _ _ _ h.2.symm)
theorem clrMask_glbKey (s : Dev) (a m : Nat) (h : notGlb a) : (s.clrMask a m).glbKey = s.glbKey :=
  Prod.ext (rd_wr_ne _ _ _ _ h.1.symm) (rd_wr_ne _ _ _ _ h.2.symm)
theorem raise_glbKey (s : Dev) (n : Nat) : (s.raise n).glbKey = s.glbKey :=
  orMask_glbKey _ _ _ (by simp only [notGlb, GLB_MODE_STAT, GLB_CYCLE_CNT, HOST_EVT_PEND]; omega)
theorem evW_glbKey (s : Dev) (c : Nat) (p q : Word) : (s.evW c p q).glbKey = s.glbKey := (rfl)
theorem ev_glbKey (s : Dev) (c p q : Nat) : (s.ev c p q).glbKey = s.glbKey := (rfl)
theorem evI_glbKey (s : Dev) (c p : Nat) (q : Int) : (s.evI c p q).glbKey = s.glbKey := (rfl)
theorem spend_glbKey (s : Dev) : (s.spend).glbKey = s.glbKey := (rfl)
theorem setLctx_glbKey (s : Dev) (n : Nat) (f : LoopCtx → LoopCtx) : (s.setLctx n f).glbKey = s.glbKey := (rfl)
theorem setGen_glbKey (s : Dev) (n : Nat) (f : GenSt → GenSt) : (s.setGen n f).glbKey = s.glbKey := (rfl)
theorem setChain_glbKey (s : Dev) (n : Nat) (f : ChainSt → ChainSt) : (s.setChain n f).glbKey = s.glbKey := (rfl)
theorem setLane_glbKey (s : Dev) (n : Nat) (f : LaneSt → LaneSt) : (s.setLane n f).glbKey = s.glbKey := (rfl)
theorem setCanc_glbKey (s : Dev) (n : Nat) (f : CanCtl → CanCtl) : (s.setCanc n f).glbKey = s.glbKey := (rfl)
theorem each_glbKey {α : Type} (s : Dev) (xs : List α) (f : Dev → α → Dev) (h : ∀ d x, (f d x).glbKey = d.glbKey) :
    (s.each xs f).glbKey = s.glbKey := each_keeps Dev.glbKey f h xs s
theorem ite_glbKey (c : Prop) [Decidable c] (a b : Dev) :
    (if c then a else b).glbKey = if c then a.glbKey else b.glbKey := apply_ite _ _ _ _

theorem wrSelf_rd (s : Dev) (a b : Nat) : (s.wr a (s.rd a)).rd b = s.rd b := by
  rw [rd_wr]; split <;> simp_all
theorem maskSame (d : Dev) (a m : Nat) (v : Word) (h : m = 0) :
    (d.rd a &&& ~~~(BitVec.ofNat 32 m)) ||| (v &&& BitVec.ofNat 32 m) = d.rd a := by
  rw [h]
  simp only [BitVec.ofNat_eq_ofNat, BitVec.and_zero, BitVec.or_zero, BitVec.not_zero, BitVec.and_allOnes]
theorem maskWr_glbKey (d : Dev) (a m : Nat) (v : Word) (h : a = GLB_MODE_STAT ∨ a = GLB_CYCLE_CNT → m = 0) :
    (d.wr a ((d.rd a &&& ~~~(BitVec.ofNat 32 m)) ||| (v &&& BitVec.ofNat 32 m))).glbKey = d.glbKey := by
  by_cases ha : a = GLB_MODE_STAT ∨ a = GLB_CYCLE_CNT
  · rw [maskSame d a m v (h ha)]
    exact Prod.ext (wrSelf_rd ..) (wrSelf_rd ..)
  · exact wr_glbKey _ _ _ (not_or.1 ha)
theorem modeCom (r : RegRow) (h : regRow GLB_MODE_STAT = some r) : r.com = 0 := by
  have h3 : (regRow GLB_MODE_STAT).map RegRow.com = some 0 := by decide
  rw [h] at h3
  simpa using h3
theorem cycCom (r : RegRow) (h : regRow GLB_CYCLE_CNT = some r) : r.com = 0 := by
  have h3 : (regRow GLB_CYCLE_CNT).map RegRow.com = some 0 := by decide
  rw [h] at h3
  simpa using h3
theorem roRow (a : Nat) (r : RegRow) (ha : a = GLB_MODE_STAT ∨ a = GLB_CYCLE_CNT) (h : regRow a = some r) :
    r.rw = 0 ∧ r.w1c = 0 := by
  have h3 : (regRow a).map (fun x => (x.rw, x.w1c)) = some (0, 0) := by rcases ha with rfl | rfl <;> decide
  rw [h] at h3
  simpa using h3
theorem store_glbKey (s : Dev) (a : Nat) (v : Word) : (s.store a v).glbKey = s.glbKey := by
  unfold Dev.store
  split
  · rfl
  · rename_i r h
    by_cases ha : a = GLB_MODE_STAT ∨ a = GLB_CYCLE_CNT
    · rw [(roRow a r ha h).1, (roRow a r ha h).2]
      simp only [BitVec.ofNat_eq_ofNat, BitVec.and_zero, BitVec.or_zero, BitVec.not_zero, BitVec.and_allOnes]
      exact Prod.ext (wrSelf_rd ..) (wrSelf_rd ..)
    · exact wr_glbKey _ _ _ (not_or.1 ha)

theorem wrExact_glbKey (s : Dev) (a : Nat) (x : Rat) (h : notGlb a) : (s.wrExact a x).glbKey = s.glbKey := wr_glbKey _ _ _ h
theorem sessUse_glbKey (s : Dev) :
    (s.sessUse).glbKey = s.glbKey := by
  unfold Dev.sessUse
  simp (disch := (first | decide | (simp only [notGlb, GLB_CYCLE_CNT, GLB_MODE_STAT]; omega))) only [↓glbKey_mk, glbKey_fold]
theorem byGlade_glbKey (s : Dev) (f : Dev → Dev) (h : (f s).glbKey = s.glbKey) : (s.byGlade f).glbKey = s.glbKey := by
  unfold Dev.byGlade; split
  · rfl
  · exact h
theorem setPair_glbKey (s : Dev) (p : Nat) (f : PairSt → PairSt) :
    (s.setPair p f).glbKey = s.glbKey := by
  unfold Dev.setPair
  simp (disch := (first | decide | (simp only [notGlb, GLB_CYCLE_CNT, GLB_MODE_STAT]; omega))) only [↓glbKey_mk, glbKey_fold]
theorem writeback_glbKey (s : Dev) (p : Nat) :
    (s.writeback p).glbKey = s.glbKey := by
  unfold Dev.writeback
  simp (disch := (first | decide | (simp only [notGlb, GLB_CYCLE_CNT, GLB_MODE_STAT, HOST_CMD_PTR, HOST_REP_PTR, pairWin]; omega))) only [↓spend_glbKey, ↓glbKey_mk, glbKey_fold, ↓setPair_glbKey]
theorem report_glbKey (s : Dev) (p cls content : Nat) (body : List Byte) :
    (s.report p cls content body).glbKey = s.glbKey := by
  unfold Dev.report
  simp (disch := (first | decide | (simp only [notGlb, GLB_CYCLE_CNT, GLB_MODE_STAT, HOST_LIVE, HOST_REP_PTR, pairWin]; omega))) only [↓setFld_glbKey, ↓cntWrap_glbKey, ↓raise_glbKey, ↓evW_glbKey, ↓spend_glbKey, ↓glbKey_mk, glbKey_fold, ↓ite_glbKey, ite_self, ↓setPair_glbKey, ↓writeback_glbKey]
theorem reportRouted_glbKey (s : Dev) (cls content : Nat) (body : List Byte) :
    (s.reportRouted cls content body).glbKey = s.glbKey := by
  unfold Dev.reportRouted
  (try simp (disch := (first | decide | (simp only [notGlb, GLB_CYCLE_CNT, GLB_MODE_STAT]; omega))) only [↓glbKey_mk, glbKey_fold, ↓report_glbKey]) <;> (repeat' split) <;> (try simp (disch := (first | decide | (simp only [notGlb, GLB_CYCLE_CNT, GLB_MODE_STAT]; omega))) only [↓glbKey_mk, glbKey_fold, ↓report_glbKey])
theorem endCount_glbKey (s : Dev) (p k : Nat) :
    (s.endCount p k).glbKey = s.glbKey := by
  unfold Dev.endCount
  simp (disch := (first | decide | (simp only [notGlb, GLB_CYCLE_CNT, GLB_MODE_STAT, HOST_LIVE]; omega))) only [↓setFld_glbKey, ↓cntWrap_glbKey, ↓ite_glbKey, ite_self]
theorem endDesc_glbKey (s : Dev) (p status : Nat) :
    (s.endDesc p status).glbKey = s.glbKey := by
  unfold Dev.endDesc
  simp (disch := (first | decide | (simp only [notGlb, GLB_CYCLE_CNT, GLB_MODE_STAT]; omega))) only [↓ev_glbKey, ↓ite_glbKey, ite_self, ↓endCount_glbKey]
theorem complete_glbKey (s : Dev) (p typ idx status tag detail : Nat) :
    (s.complete p typ idx status tag detail).glbKey = s.glbKey := by
  unfold Dev.complete
  simp (disch := (first | decide | (simp only [notGlb, GLB_CYCLE_CNT, GLB_MODE_STAT]; omega))) only [↓spend_glbKey, ↓endDesc_glbKey, ↓report_glbKey]
theorem setCtxState_glbKey (s : Dev) (c st : Nat) :
    (s.setCtxState c st).glbKey = s.glbKey := by
  unfold Dev.setCtxState
  simp (disch := (first | decide | (simp only [notGlb, GLB_CYCLE_CNT, GLB_MODE_STAT, LOOP_CTX_STAT, loopWin, profWin]; omega))) only [↓setFld_glbKey]
theorem setMiss_glbKey (s : Dev) (c n : Nat) :
    (s.setMiss c n).glbKey = s.glbKey := by
  unfold Dev.setMiss
  simp (disch := (first | decide | (simp only [notGlb, GLB_CYCLE_CNT, GLB_MODE_STAT, LOOP_CTX_STAT, loopWin, profWin]; omega))) only [↓setFld_glbKey, ↓setLctx_glbKey, ↓glbKey_mk, glbKey_fold]
theorem toClearing_glbKey (s : Dev) (c : Nat) :
    (s.toClearing c).glbKey = s.glbKey := by
  unfold Dev.toClearing
  simp (disch := (first | decide | (simp only [notGlb, GLB_CYCLE_CNT, GLB_MODE_STAT, LOOP_CTX_OUTV, LOOP_CTX_STAT, loopWin, profWin]; omega))) only [↓wr_glbKey, ↓setFld_glbKey, ↓setCtxState_glbKey]
theorem toRun_glbKey (s : Dev) (c : Nat) :
    (s.toRun c).glbKey = s.glbKey := by
  unfold Dev.toRun
  simp (disch := (first | decide | (simp only [notGlb, GLB_CYCLE_CNT, GLB_MODE_STAT, LOOP_CTX_DV, LOOP_CTX_INTV, LOOP_CTX_OUTV, LOOP_CTX_STAT, loopWin, profWin]; omega))) only [↓wr_glbKey, ↓setBit_glbKey, ↓setLctx_glbKey, ↓setGen_glbKey, ↓glbKey_mk, glbKey_fold, ↓setCtxState_glbKey]
theorem markFault_glbKey (s : Dev) (c cause : Nat) :
    (s.markFault c cause).glbKey = s.glbKey := by
  unfold Dev.markFault
  simp (disch := (first | decide | (simp only [notGlb, GLB_CYCLE_CNT, GLB_MODE_STAT, LOOP_CTX_FLT, LOOP_FAULT_SUM, loopWin, profWin]; omega))) only [↓orMask_glbKey, ↓raise_glbKey]
theorem rampStep_glbKey (s : Dev) (c : Nat) :
    (s.rampStep c).glbKey = s.glbKey := by
  unfold Dev.rampStep
  simp (disch := (first | decide | (simp only [notGlb, GLB_CYCLE_CNT, GLB_MODE_STAT, LOOP_CTX_OUTV, loopWin, profWin]; omega))) only [↓wrPbv_glbKey, ↓ite_glbKey, ite_self, ↓toClearing_glbKey]
theorem faultAction_glbKey (s : Dev) (c top : Nat) :
    (s.faultAction c top).glbKey = s.glbKey := by
  unfold Dev.faultAction
  simp (disch := (first | decide | (simp only [notGlb, GLB_CYCLE_CNT, GLB_MODE_STAT, LOOP_CTX_CFG, LOOP_CTX_OUTV, LOOP_CTX_STALE, LOOP_CTX_STAT, loopWin, profWin]; omega))) only [↓setFld_glbKey, ↓ite_glbKey, ite_self, ↓rampStep_glbKey, ↓setCtxState_glbKey, ↓toClearing_glbKey]
theorem takeFaults_glbKey (s : Dev) (c : Nat) (causes : List (Nat × Nat × Nat)) :
    (s.takeFaults c causes).glbKey = s.glbKey := by
  unfold Dev.takeFaults
  (try simp (disch := first | first | decide | (simp only [notGlb, GLB_CYCLE_CNT, GLB_MODE_STAT]; omega) | (intros; (try simp (disch := (first | decide | (simp only [notGlb, GLB_CYCLE_CNT, GLB_MODE_STAT]; omega))) only [↓ev_glbKey, ↓glbKey_mk, glbKey_fold, ↓faultAction_glbKey, ↓markFault_glbKey]) <;> (repeat' split) <;> (try simp (disch := (first | decide | (simp only [notGlb, GLB_CYCLE_CNT, GLB_MODE_STAT]; omega))) only [↓ev_glbKey, ↓glbKey_mk, glbKey_fold, ↓faultAction_glbKey, ↓markFault_glbKey]))) only [↓ev_glbKey, ↓glbKey_mk, glbKey_fold, ↓faultAction_glbKey, ↓markFault_glbKey, each_glbKey]) <;> (repeat' split) <;> (try simp (disch := first | first | decide | (simp only [notGlb, GLB_CYCLE_CNT, GLB_MODE_STAT]; omega) | (intros; (try simp (disch := (first | decide | (simp only [notGlb, GLB_CYCLE_CNT, GLB_MODE_STAT]; omega))) only [↓ev_glbKey, ↓glbKey_mk, glbKey_fold, ↓faultAction_glbKey, ↓markFault_glbKey]) <;> (repeat' split) <;> (try simp (disch := (first | decide | (simp only [notGlb, GLB_CYCLE_CNT, GLB_MODE_STAT]; omega))) only [↓ev_glbKey, ↓glbKey_mk, glbKey_fold, ↓faultAction_glbKey, ↓markFault_glbKey]))) only [↓ev_glbKey, ↓glbKey_mk, glbKey_fold, ↓faultAction_glbKey, ↓markFault_glbKey, each_glbKey])
theorem engFault_glbKey (s : Dev) :
    (s.engFault).glbKey = s.glbKey := by
  unfold Dev.engFault
  simp (disch := first | first | decide | (simp only [notGlb, GLB_CYCLE_CNT, GLB_MODE_STAT, LOOP_CTX_STAT, LOOP_ENG_STAT, loopWin, profWin]; omega) | (intros; (try simp (disch := (first | decide | (simp only [notGlb, GLB_CYCLE_CNT, GLB_MODE_STAT, LOOP_CTX_STAT, LOOP_ENG_STAT, loopWin, profWin]; omega))) only [↓setFld_glbKey, ↓setBit_glbKey, ↓ev_glbKey, ↓ite_glbKey, ite_self, ↓markFault_glbKey, ↓toClearing_glbKey]) <;> (try (split <;> simp (disch := (first | decide | (simp only [notGlb, GLB_CYCLE_CNT, GLB_MODE_STAT, LOOP_CTX_STAT, LOOP_ENG_STAT, loopWin, profWin]; omega))) only [↓setFld_glbKey, ↓setBit_glbKey, ↓ev_glbKey, ↓ite_glbKey, ite_self, ↓markFault_glbKey, ↓toClearing_glbKey])))) only [↓setFld_glbKey, ↓setBit_glbKey, ↓ev_glbKey, ↓ite_glbKey, ite_self, ↓markFault_glbKey, ↓toClearing_glbKey, each_glbKey]
theorem countMismatch_glbKey (s : Dev) (c stage : Nat) :
    (s.countMismatch c stage).glbKey = s.glbKey := by
  unfold Dev.countMismatch
  simp (disch := (first | decide | (simp only [notGlb, GLB_CYCLE_CNT, GLB_MODE_STAT, LOOP_CTX_RESCNT, LOOP_CTX_STAT, LOOP_RES_TOTAL, loopWin, profWin]; omega))) only [↓setBit_glbKey, ↓cntSat_glbKey, ↓ev_glbKey, ↓setLctx_glbKey, ↓glbKey_mk, glbKey_fold]
theorem checkEngFault_glbKey (s : Dev) :
    (s.checkEngFault).glbKey = s.glbKey := by
  unfold Dev.checkEngFault
  simp (disch := (first | decide | (simp only [notGlb, GLB_CYCLE_CNT, GLB_MODE_STAT, LOOP_ENG_STAT]; omega))) only [↓ite_glbKey, ite_self, ↓engFault_glbKey]
theorem evalDone_glbKey (s : Dev) (c : Nat) (sp : Rat) (o : EvalOut) :
    (s.evalDone c sp o).glbKey = s.glbKey := by
  unfold Dev.evalDone
  simp (disch := (first | decide | (simp only [notGlb, GLB_CYCLE_CNT, GLB_MODE_STAT, LOOP_CTX_DV, LOOP_CTX_ERRV, LOOP_CTX_FBV, LOOP_CTX_INTV, LOOP_CTX_OUTV, LOOP_CTX_SPV, LOOP_CTX_STAT, loopWin, profWin]; omega))) only [↓setBit_glbKey, ↓wrPbv_glbKey, ↓setLctx_glbKey, ↓glbKey_mk, glbKey_fold, ↓setMiss_glbKey, ↓wrExact_glbKey]
theorem evaluateRun_glbKey (s : Dev) (snap : OutSnap) (i : TickIn) (c : Nat) :
    (s.evaluateRun snap i c).glbKey = s.glbKey := by
  unfold Dev.evaluateRun
  (try simp (disch := (first | decide | (simp only [notGlb, GLB_CYCLE_CNT, GLB_MODE_STAT]; omega))) only [↓setLctx_glbKey, ↓glbKey_mk, glbKey_fold, ↓ite_glbKey, ite_self, ↓checkEngFault_glbKey, ↓countMismatch_glbKey, ↓evalDone_glbKey, ↓takeFaults_glbKey]) <;> (repeat' split) <;> (try simp (disch := (first | decide | (simp only [notGlb, GLB_CYCLE_CNT, GLB_MODE_STAT]; omega))) only [↓setLctx_glbKey, ↓glbKey_mk, glbKey_fold, ↓ite_glbKey, ite_self, ↓checkEngFault_glbKey, ↓countMismatch_glbKey, ↓evalDone_glbKey, ↓takeFaults_glbKey])
theorem heldDone_glbKey (s : Dev) (c : Nat) :
    (s.heldDone c).glbKey = s.glbKey := by
  unfold Dev.heldDone
  simp (disch := (first | decide | (simp only [notGlb, GLB_CYCLE_CNT, GLB_MODE_STAT, LOOP_CTX_STAT, loopWin, profWin]; omega))) only [↓setBit_glbKey, ↓setLctx_glbKey, ↓glbKey_mk, glbKey_fold, ↓setMiss_glbKey]
theorem evaluateHeld_glbKey (s : Dev) (i : TickIn) (c : Nat) :
    (s.evaluateHeld i c).glbKey = s.glbKey := by
  unfold Dev.evaluateHeld
  (try simp (disch := (first | decide | (simp only [notGlb, GLB_CYCLE_CNT, GLB_MODE_STAT, LOOP_CTX_STAT, loopWin, profWin]; omega))) only [↓setFld_glbKey, ↓glbKey_mk, glbKey_fold, ↓ite_glbKey, ite_self, ↓checkEngFault_glbKey, ↓countMismatch_glbKey, ↓heldDone_glbKey, ↓rampStep_glbKey, ↓takeFaults_glbKey, ↓toClearing_glbKey]) <;> (repeat' split) <;> (try simp (disch := (first | decide | (simp only [notGlb, GLB_CYCLE_CNT, GLB_MODE_STAT, LOOP_CTX_STAT, loopWin, profWin]; omega))) only [↓setFld_glbKey, ↓glbKey_mk, glbKey_fold, ↓ite_glbKey, ite_self, ↓checkEngFault_glbKey, ↓countMismatch_glbKey, ↓heldDone_glbKey, ↓rampStep_glbKey, ↓takeFaults_glbKey, ↓toClearing_glbKey])
theorem cmdResult_glbKey (s : Dev) (c op r : Nat) :
    (s.cmdResult c op r).glbKey = s.glbKey := by
  unfold Dev.cmdResult
  simp (disch := (first | decide | (simp only [notGlb, GLB_CYCLE_CNT, GLB_MODE_STAT, LOOP_CMD_STAT]; omega))) only [↓setFld_glbKey, ↓setBit_glbKey, ↓ev_glbKey, ↓glbKey_mk, glbKey_fold, ↓ite_glbKey, ite_self]
theorem settleCmd_glbKey (s : Dev) (snap : OutSnap) (n : Nat) :
    (s.settleCmd snap n).glbKey = s.glbKey := by
  unfold Dev.settleCmd
  (try simp (disch := (first | decide | (simp only [notGlb, GLB_CYCLE_CNT, GLB_MODE_STAT]; omega))) only [↓ev_glbKey, ↓glbKey_mk, glbKey_fold, ↓ite_glbKey, ite_self, ↓cmdResult_glbKey, ↓toRun_glbKey]) <;> (repeat' split) <;> (try simp (disch := (first | decide | (simp only [notGlb, GLB_CYCLE_CNT, GLB_MODE_STAT]; omega))) only [↓ev_glbKey, ↓glbKey_mk, glbKey_fold, ↓ite_glbKey, ite_self, ↓cmdResult_glbKey, ↓toRun_glbKey])
theorem evaluate_glbKey (s : Dev) (snap : OutSnap) (i : TickIn) (c : Nat) :
    (s.evaluate snap i c).glbKey = s.glbKey := by
  unfold Dev.evaluate
  (try simp (disch := (first | decide | (simp only [notGlb, GLB_CYCLE_CNT, GLB_MODE_STAT]; omega))) only [↓setLctx_glbKey, ↓glbKey_mk, glbKey_fold, ↓ite_glbKey, ite_self, ↓cmdResult_glbKey, ↓evaluateHeld_glbKey, ↓evaluateRun_glbKey, ↓takeFaults_glbKey]) <;> (repeat' split) <;> (try simp (disch := (first | decide | (simp only [notGlb, GLB_CYCLE_CNT, GLB_MODE_STAT]; omega))) only [↓setLctx_glbKey, ↓glbKey_mk, glbKey_fold, ↓ite_glbKey, ite_self, ↓cmdResult_glbKey, ↓evaluateHeld_glbKey, ↓evaluateRun_glbKey, ↓takeFaults_glbKey])
theorem miss_glbKey (s : Dev) (c : Nat) :
    (s.miss c).glbKey = s.glbKey := by
  unfold Dev.miss
  simp (disch := (first | decide | (simp only [notGlb, GLB_CYCLE_CNT, GLB_MODE_STAT, LOOP_CTX_CFG, loopWin, profWin]; omega))) only [↓setLctx_glbKey, ↓glbKey_mk, glbKey_fold, ↓ite_glbKey, ite_self, ↓setMiss_glbKey, ↓takeFaults_glbKey]
theorem showValid_glbKey (s : Dev) (snap : OutSnap) (c : Nat) :
    (s.showValid snap c).glbKey = s.glbKey := by
  unfold Dev.showValid
  simp (disch := (first | decide | (simp only [notGlb, GLB_CYCLE_CNT, GLB_MODE_STAT, LOOP_CTX_STAT, loopWin, profWin]; omega))) only [↓setBit_glbKey, ↓ite_glbKey, ite_self]
theorem loopEcc_glbKey (s : Dev) (i : TickIn) :
    (s.loopEcc i).glbKey = s.glbKey := by
  unfold Dev.loopEcc
  simp (disch := first | first | decide | (simp only [notGlb, GLB_CYCLE_CNT, GLB_MODE_STAT, LOOP_ECC_CNT]; omega) | (intros; (try simp (disch := (first | decide | (simp only [notGlb, GLB_CYCLE_CNT, GLB_MODE_STAT, LOOP_ECC_CNT]; omega))) only [↓cntSat_glbKey, ↓ev_glbKey]) <;> (try (split <;> simp (disch := (first | decide | (simp only [notGlb, GLB_CYCLE_CNT, GLB_MODE_STAT, LOOP_ECC_CNT]; omega))) only [↓cntSat_glbKey, ↓ev_glbKey])))) only [↓cntSat_glbKey, ↓ev_glbKey, each_glbKey]
theorem loopP2_glbKey (s : Dev) (i : TickIn) (n : Nat) :
    (s.loopP2 i n).glbKey = s.glbKey := by
  unfold Dev.loopP2
  simp (disch := first | first | decide | (simp only [notGlb, GLB_CYCLE_CNT, GLB_MODE_STAT]; omega) | (intros; simp (disch := first | first | decide | (simp only [notGlb, GLB_CYCLE_CNT, GLB_MODE_STAT]; omega) | (intros; (try simp (disch := (first | decide | (simp only [notGlb, GLB_CYCLE_CNT, GLB_MODE_STAT]; omega))) only [↓ite_glbKey, ite_self, ↓evaluate_glbKey, ↓loopEcc_glbKey, ↓miss_glbKey, ↓settleCmd_glbKey, ↓showValid_glbKey]) <;> (try (split <;> simp (disch := (first | decide | (simp only [notGlb, GLB_CYCLE_CNT, GLB_MODE_STAT]; omega))) only [↓ite_glbKey, ite_self, ↓evaluate_glbKey, ↓loopEcc_glbKey, ↓miss_glbKey, ↓settleCmd_glbKey, ↓showValid_glbKey])))) only [↓ite_glbKey, ite_self, ↓evaluate_glbKey, ↓loopEcc_glbKey, ↓miss_glbKey, ↓settleCmd_glbKey, ↓showValid_glbKey, each_glbKey])) only [↓ite_glbKey, ite_self, ↓evaluate_glbKey, ↓loopEcc_glbKey, ↓miss_glbKey, ↓settleCmd_glbKey, ↓showValid_glbKey, each_glbKey]
theorem loopLeave_glbKey (s : Dev) :
    (s.loopLeave).glbKey = s.glbKey := by
  unfold Dev.loopLeave
  simp (disch := first | first | decide | (simp only [notGlb, GLB_CYCLE_CNT, GLB_MODE_STAT, LOOP_CTX_STAT, loopWin, profWin]; omega) | (intros; (try simp (disch := (first | decide | (simp only [notGlb, GLB_CYCLE_CNT, GLB_MODE_STAT, LOOP_CTX_STAT, loopWin, profWin]; omega))) only [↓setFld_glbKey, ↓ite_glbKey, ite_self, ↓markFault_glbKey, ↓toClearing_glbKey]) <;> (try (split <;> simp (disch := (first | decide | (simp only [notGlb, GLB_CYCLE_CNT, GLB_MODE_STAT, LOOP_CTX_STAT, loopWin, profWin]; omega))) only [↓setFld_glbKey, ↓ite_glbKey, ite_self, ↓markFault_glbKey, ↓toClearing_glbKey])))) only [↓setFld_glbKey, ↓ite_glbKey, ite_self, ↓markFault_glbKey, ↓toClearing_glbKey, each_glbKey]
theorem loopEnter_glbKey (s : Dev) :
    (s.loopEnter).glbKey = s.glbKey := by
  unfold Dev.loopEnter
  simp (disch := first | first | decide | (simp only [notGlb, GLB_CYCLE_CNT, GLB_MODE_STAT, LOOP_ENG_STAT]; omega) | (intros; (try simp (disch := (first | decide | (simp only [notGlb, GLB_CYCLE_CNT, GLB_MODE_STAT, LOOP_ENG_STAT]; omega))) only [↓ite_glbKey, ite_self, ↓toRun_glbKey]) <;> (try (split <;> simp (disch := (first | decide | (simp only [notGlb, GLB_CYCLE_CNT, GLB_MODE_STAT, LOOP_ENG_STAT]; omega))) only [↓ite_glbKey, ite_self, ↓toRun_glbKey])))) only [↓ite_glbKey, ite_self, ↓toRun_glbKey, each_glbKey]
theorem loopCommand_glbKey (s : Dev) (c op : Nat) (sessOk : Bool) :
    (s.loopCommand c op sessOk).glbKey = s.glbKey := by
  unfold Dev.loopCommand
  simp (disch := (first | decide | (simp only [notGlb, GLB_CYCLE_CNT, GLB_MODE_STAT, LOOP_CMD_STAT]; omega))) only [↓setFld_glbKey, ↓setBit_glbKey, ↓glbKey_mk, glbKey_fold]
theorem resumeCommand_glbKey (s : Dev) (c : Nat) :
    (s.resumeCommand c).glbKey = s.glbKey := by
  unfold Dev.resumeCommand
  simp (disch := (first | decide | (simp only [notGlb, GLB_CYCLE_CNT, GLB_MODE_STAT]; omega))) only [↓ite_glbKey, ite_self, ↓loopCommand_glbKey, ↓sessUse_glbKey]
theorem setGState_glbKey (s : Dev) (g st : Nat) :
    (s.setGState g st).glbKey = s.glbKey := by
  unfold Dev.setGState
  simp (disch := (first | decide | (simp only [notGlb, GLB_CYCLE_CNT, GLB_MODE_STAT, PROF_STAT, loopWin, profWin]; omega))) only [↓setFld_glbKey]
theorem profEv_glbKey (s : Dev) (g k : Nat) (p2 : Word) :
    (s.profEv g k p2).glbKey = s.glbKey := by
  unfold Dev.profEv
  simp (disch := (first | decide | (simp only [notGlb, GLB_CYCLE_CNT, GLB_MODE_STAT, PROF_FLT, loopWin, profWin]; omega))) only [↓orMask_glbKey, ↓evW_glbKey]
theorem showGen_glbKey (s : Dev) (g : Nat) :
    (s.showGen g).glbKey = s.glbKey := by
  unfold Dev.showGen
  simp (disch := (first | decide | (simp only [notGlb, GLB_CYCLE_CNT, GLB_MODE_STAT, PROF_ACCV, PROF_POSV, PROF_TGTV, PROF_VELV, loopWin, profWin]; omega))) only [↓wrPbv_glbKey, ↓ite_glbKey, ite_self]
theorem setTarget_glbKey (s : Dev) (g : Nat) (raw : Int) :
    (s.setTarget g raw).glbKey = s.glbKey := by
  unfold Dev.setTarget
  simp (disch := (first | decide | (simp only [notGlb, GLB_CYCLE_CNT, GLB_MODE_STAT, PROF_STAT, PROF_TMAX, PROF_TMIN, loopWin, profWin]; omega))) only [↓setBit_glbKey, ↓setGen_glbKey, ↓glbKey_mk, glbKey_fold, ↓ite_glbKey, ite_self, ↓profEv_glbKey]
theorem takeSample_glbKey (s : Dev) (g : Nat) (v : Int) (age : Nat) :
    (s.takeSample g v age).1.glbKey = s.glbKey := by
  unfold Dev.takeSample
  (try simp (disch := (first | decide | (simp only [notGlb, GLB_CYCLE_CNT, GLB_MODE_STAT, PROF_STAT, PROF_TJUMP, loopWin, profWin]; omega))) only [↓setBit_glbKey, ↓setGen_glbKey, ↓glbKey_mk, glbKey_fold, ↓ite_glbKey, ite_self, ↓profEv_glbKey]) <;> (repeat' split) <;> (try simp (disch := (first | decide | (simp only [notGlb, GLB_CYCLE_CNT, GLB_MODE_STAT, PROF_STAT, PROF_TJUMP, loopWin, profWin]; omega))) only [↓setBit_glbKey, ↓setGen_glbKey, ↓glbKey_mk, glbKey_fold, ↓ite_glbKey, ite_self, ↓profEv_glbKey])
theorem sampleStep_glbKey (s : Dev) (g : Nat) :
    (s.sampleStep g).1.glbKey = s.glbKey := by
  unfold Dev.sampleStep
  (try simp (disch := (first | decide | (simp only [notGlb, GLB_CYCLE_CNT, GLB_MODE_STAT]; omega))) only [↓glbKey_mk, glbKey_fold, ↓ite_glbKey, ite_self, ↓takeSample_glbKey]) <;> (repeat' split) <;> (try simp (disch := (first | decide | (simp only [notGlb, GLB_CYCLE_CNT, GLB_MODE_STAT]; omega))) only [↓glbKey_mk, glbKey_fold, ↓ite_glbKey, ite_self, ↓takeSample_glbKey])
theorem trackStep_glbKey (s : Dev) (g : Nat) :
    (s.trackStep g).glbKey = s.glbKey := by
  unfold Dev.trackStep
  simp (disch := (first | decide | (simp only [notGlb, GLB_CYCLE_CNT, GLB_MODE_STAT, PROF_STAT, loopWin, profWin]; omega))) only [↓setBit_glbKey, ↓clrMask_glbKey, ↓setGen_glbKey, ↓glbKey_mk, glbKey_fold, ↓setGState_glbKey]
theorem analogueSource_glbKey (s : Dev) (g : Nat) :
    (s.analogueSource g).glbKey = s.glbKey := by
  unfold Dev.analogueSource
  (try simp (disch := (first | decide | (simp only [notGlb, GLB_CYCLE_CNT, GLB_MODE_STAT, PROF_STAT, loopWin, profWin]; omega))) only [↓setBit_glbKey, ↓ite_glbKey, ite_self, ↓profEv_glbKey, ↓sampleStep_glbKey, ↓setGState_glbKey, ↓setTarget_glbKey]) <;> (repeat' split) <;> (try simp (disch := (first | decide | (simp only [notGlb, GLB_CYCLE_CNT, GLB_MODE_STAT, PROF_STAT, loopWin, profWin]; omega))) only [↓setBit_glbKey, ↓ite_glbKey, ite_self, ↓profEv_glbKey, ↓sampleStep_glbKey, ↓setGState_glbKey, ↓setTarget_glbKey])
theorem leverSource_glbKey (s : Dev) (g : Nat) :
    (s.leverSource g).glbKey = s.glbKey := by
  unfold Dev.leverSource
  (try simp (disch := (first | decide | (simp only [notGlb, GLB_CYCLE_CNT, GLB_MODE_STAT, PROF_MATCH, PROF_STAT, loopWin, profWin]; omega))) only [↓setBit_glbKey, ↓ite_glbKey, ite_self, ↓profEv_glbKey, ↓sampleStep_glbKey, ↓setGState_glbKey, ↓setTarget_glbKey]) <;> (repeat' split) <;> (try simp (disch := (first | decide | (simp only [notGlb, GLB_CYCLE_CNT, GLB_MODE_STAT, PROF_MATCH, PROF_STAT, loopWin, profWin]; omega))) only [↓setBit_glbKey, ↓ite_glbKey, ite_self, ↓profEv_glbKey, ↓sampleStep_glbKey, ↓setGState_glbKey, ↓setTarget_glbKey])
theorem moveStep_glbKey (s : Dev) (g : Nat) (vd vmax amax jmax : Int) :
    (s.moveStep g vd vmax amax jmax).glbKey = s.glbKey := by
  unfold Dev.moveStep
  (try simp (disch := (first | decide | (simp only [notGlb, GLB_CYCLE_CNT, GLB_MODE_STAT, PROF_STAT, PROF_TMAX, PROF_TMIN, loopWin, profWin]; omega))) only [↓setBit_glbKey, ↓setGen_glbKey, ↓glbKey_mk, glbKey_fold, ↓ite_glbKey, ite_self, ↓profEv_glbKey]) <;> (repeat' split) <;> (try simp (disch := (first | decide | (simp only [notGlb, GLB_CYCLE_CNT, GLB_MODE_STAT, PROF_STAT, PROF_TMAX, PROF_TMIN, loopWin, profWin]; omega))) only [↓setBit_glbKey, ↓setGen_glbKey, ↓glbKey_mk, glbKey_fold, ↓ite_glbKey, ite_self, ↓profEv_glbKey])
theorem runStep_glbKey (s : Dev) (g : Nat) :
    (s.runStep g).glbKey = s.glbKey := by
  unfold Dev.runStep
  simp (disch := (first | decide | (simp only [notGlb, GLB_CYCLE_CNT, GLB_MODE_STAT, PROF_STAT, loopWin, profWin]; omega))) only [↓setBit_glbKey, ↓setGen_glbKey, ↓glbKey_mk, glbKey_fold, ↓ite_glbKey, ite_self, ↓moveStep_glbKey, ↓setGState_glbKey]
theorem takeLims_glbKey (s : Dev) (g : Nat) :
    (s.takeLims g).glbKey = s.glbKey := by
  unfold Dev.takeLims
  simp (disch := (first | decide | (simp only [notGlb, GLB_CYCLE_CNT, GLB_MODE_STAT, PROF_STAT, loopWin, profWin]; omega))) only [↓setBit_glbKey, ↓setGen_glbKey, ↓glbKey_mk, glbKey_fold, ↓ite_glbKey, ite_self]
theorem genEntry_glbKey (s : Dev) (g : Nat) :
    (s.genEntry g).glbKey = s.glbKey := by
  unfold Dev.genEntry
  simp (disch := (first | decide | (simp only [notGlb, GLB_CYCLE_CNT, GLB_MODE_STAT]; omega))) only [↓setGen_glbKey, ↓glbKey_mk, glbKey_fold, ↓ite_glbKey, ite_self, ↓setGState_glbKey]
theorem genSource_glbKey (s : Dev) (g : Nat) :
    (s.genSource g).glbKey = s.glbKey := by
  unfold Dev.genSource
  (try simp (disch := (first | decide | (simp only [notGlb, GLB_CYCLE_CNT, GLB_MODE_STAT, PROF_STAT, loopWin, profWin]; omega))) only [↓setBit_glbKey, ↓setGen_glbKey, ↓glbKey_mk, glbKey_fold, ↓ite_glbKey, ite_self, ↓analogueSource_glbKey, ↓leverSource_glbKey, ↓sampleStep_glbKey, ↓setTarget_glbKey]) <;> (repeat' split) <;> (try simp (disch := (first | decide | (simp only [notGlb, GLB_CYCLE_CNT, GLB_MODE_STAT, PROF_STAT, loopWin, profWin]; omega))) only [↓setBit_glbKey, ↓setGen_glbKey, ↓glbKey_mk, glbKey_fold, ↓ite_glbKey, ite_self, ↓analogueSource_glbKey, ↓leverSource_glbKey, ↓sampleStep_glbKey, ↓setTarget_glbKey])
theorem genStep_glbKey (s : Dev) (i : TickIn) (g : Nat) :
    (s.genStep i g).glbKey = s.glbKey := by
  unfold Dev.genStep
  simp (disch := (first | decide | (simp only [notGlb, GLB_CYCLE_CNT, GLB_MODE_STAT, PROF_RES_TOTAL, PROF_STAT, loopWin, profWin]; omega))) only [↓setBit_glbKey, ↓cntSat_glbKey, ↓setGen_glbKey, ↓glbKey_mk, glbKey_fold, ↓ite_glbKey, ite_self, ↓genEntry_glbKey, ↓genSource_glbKey, ↓profEv_glbKey, ↓runStep_glbKey, ↓setGState_glbKey, ↓showGen_glbKey, ↓takeLims_glbKey, ↓trackStep_glbKey]
theorem loadShared_glbKey (s : Dev) (g : Nat) :
    (s.loadShared g).glbKey = s.glbKey := by
  unfold Dev.loadShared
  (try simp (disch := (first | decide | (simp only [notGlb, GLB_CYCLE_CNT, GLB_MODE_STAT, PROF_STAT, loopWin, profWin]; omega))) only [↓setBit_glbKey, ↓setGen_glbKey, ↓glbKey_mk, glbKey_fold, ↓setGState_glbKey, ↓showGen_glbKey]) <;> (repeat' split) <;> (try simp (disch := (first | decide | (simp only [notGlb, GLB_CYCLE_CNT, GLB_MODE_STAT, PROF_STAT, loopWin, profWin]; omega))) only [↓setBit_glbKey, ↓setGen_glbKey, ↓glbKey_mk, glbKey_fold, ↓setGState_glbKey, ↓showGen_glbKey])
theorem profP1_glbKey (s : Dev) (i : TickIn) (n : Nat) :
    (s.profP1 i n).glbKey = s.glbKey := by
  unfold Dev.profP1
  simp (disch := first | first | decide | (simp only [notGlb, GLB_CYCLE_CNT, GLB_MODE_STAT]; omega) | (intros; simp (disch := first | first | decide | (simp only [notGlb, GLB_CYCLE_CNT, GLB_MODE_STAT]; omega) | (intros; (try simp (disch := (first | decide | (simp only [notGlb, GLB_CYCLE_CNT, GLB_MODE_STAT]; omega))) only [↓ite_glbKey, ite_self, ↓genStep_glbKey, ↓loadShared_glbKey]) <;> (try (split <;> simp (disch := (first | decide | (simp only [notGlb, GLB_CYCLE_CNT, GLB_MODE_STAT]; omega))) only [↓ite_glbKey, ite_self, ↓genStep_glbKey, ↓loadShared_glbKey])))) only [↓ite_glbKey, ite_self, ↓genStep_glbKey, ↓loadShared_glbKey, each_glbKey])) only [↓ite_glbKey, ite_self, ↓genStep_glbKey, ↓loadShared_glbKey, each_glbKey]
theorem profP0_glbKey (s : Dev) :
    (s.profP0).glbKey = s.glbKey := by
  unfold Dev.profP0
  simp (disch := first | first | decide | (simp only [notGlb, GLB_CYCLE_CNT, GLB_MODE_STAT, PROF_HTGT, loopWin, profWin]; omega) | (intros; (try simp (disch := (first | decide | (simp only [notGlb, GLB_CYCLE_CNT, GLB_MODE_STAT, PROF_HTGT, loopWin, profWin]; omega))) only [↓wr_glbKey, ↓setGen_glbKey, ↓glbKey_mk, glbKey_fold, ↓ite_glbKey, ite_self]) <;> (repeat' split) <;> (try simp (disch := (first | decide | (simp only [notGlb, GLB_CYCLE_CNT, GLB_MODE_STAT, PROF_HTGT, loopWin, profWin]; omega))) only [↓wr_glbKey, ↓setGen_glbKey, ↓glbKey_mk, glbKey_fold, ↓ite_glbKey, ite_self]))) only [↓wr_glbKey, ↓setGen_glbKey, ↓glbKey_mk, glbKey_fold, ↓ite_glbKey, ite_self, each_glbKey]
theorem axesEnter_glbKey (s : Dev) :
    (s.axesEnter).glbKey = s.glbKey := by
  unfold Dev.axesEnter
  simp (disch := first | first | decide | (simp only [notGlb, GLB_CYCLE_CNT, GLB_MODE_STAT]; omega) | (intros; (try simp (disch := (first | decide | (simp only [notGlb, GLB_CYCLE_CNT, GLB_MODE_STAT]; omega))) only [↓setGen_glbKey, ↓glbKey_mk, glbKey_fold]) <;> (try (split <;> simp (disch := (first | decide | (simp only [notGlb, GLB_CYCLE_CNT, GLB_MODE_STAT]; omega))) only [↓setGen_glbKey, ↓glbKey_mk, glbKey_fold])))) only [↓setGen_glbKey, ↓glbKey_mk, glbKey_fold, each_glbKey]
theorem laneCorr_glbKey (s : Dev) (l : Nat) (corr : List Nat) :
    (s.laneCorr l corr).glbKey = s.glbKey := by
  unfold Dev.laneCorr
  simp (disch := first | first | decide | (simp only [notGlb, GLB_CYCLE_CNT, GLB_MODE_STAT, GROVE_ECC_CNT]; omega) | (intros; (try simp (disch := (first | decide | (simp only [notGlb, GLB_CYCLE_CNT, GLB_MODE_STAT, GROVE_ECC_CNT]; omega))) only [↓cntSat_glbKey, ↓ev_glbKey]) <;> (try (split <;> simp (disch := (first | decide | (simp only [notGlb, GLB_CYCLE_CNT, GLB_MODE_STAT, GROVE_ECC_CNT]; omega))) only [↓cntSat_glbKey, ↓ev_glbKey])))) only [↓cntSat_glbKey, ↓ev_glbKey, each_glbKey]
theorem recount_glbKey (s : Dev) :
    (s.recount).glbKey = s.glbKey := by
  unfold Dev.recount
  simp (disch := (first | decide | (simp only [notGlb, GLB_CYCLE_CNT, GLB_MODE_STAT, GROVE_STAT]; omega))) only [↓setFld_glbKey]
theorem slotOut_glbKey (s : Dev) (l : Nat) :
    (s.slotOut l).glbKey = s.glbKey := by
  unfold Dev.slotOut
  (try simp (disch := (first | decide | (simp only [notGlb, GLB_CYCLE_CNT, GLB_MODE_STAT, GROVE_HOST_MAP]; omega))) only [↓setBit_glbKey, ↓glbKey_mk, glbKey_fold]) <;> (repeat' split) <;> (try simp (disch := (first | decide | (simp only [notGlb, GLB_CYCLE_CNT, GLB_MODE_STAT, GROVE_HOST_MAP]; omega))) only [↓setBit_glbKey, ↓glbKey_mk, glbKey_fold])
theorem laneLoad_glbKey (s : Dev) (l method : Nat) (accum : Bool) (n m : Nat) :
    (s.laneLoad l method accum n m).glbKey = s.glbKey := by
  unfold Dev.laneLoad
  simp (disch := (first | decide | (simp only [notGlb, GLB_CYCLE_CNT, GLB_MODE_STAT, GROVE_LANE_SHAPE, GROVE_LANE_STAT]; omega))) only [↓wrN_glbKey, ↓setFld_glbKey, ↓setBit_glbKey, ↓setLane_glbKey, ↓glbKey_mk, glbKey_fold]
theorem groveRefuse_glbKey (s : Dev) :
    (s.groveRefuse).glbKey = s.glbKey := by
  unfold Dev.groveRefuse
  simp (disch := (first | decide | (simp only [notGlb, GLB_CYCLE_CNT, GLB_MODE_STAT, GROVE_REFUSED]; omega))) only [↓cntSat_glbKey]
theorem groveLoadOp_glbKey (s : Dev) (l method : Nat) (accum : Bool) (n m : Nat) :
    (s.groveLoadOp l method accum n m).1.glbKey = s.glbKey := by
  unfold Dev.groveLoadOp
  (try simp (disch := (first | decide | (simp only [notGlb, GLB_CYCLE_CNT, GLB_MODE_STAT]; omega))) only [↓ite_glbKey, ite_self, ↓groveRefuse_glbKey, ↓laneLoad_glbKey]) <;> (repeat' split) <;> (try simp (disch := (first | decide | (simp only [notGlb, GLB_CYCLE_CNT, GLB_MODE_STAT]; omega))) only [↓ite_glbKey, ite_self, ↓groveRefuse_glbKey, ↓laneLoad_glbKey])
theorem applyEntry_glbKey (s : Dev) (l : Nat) (e : GroveEntryIn) :
    (s.applyEntry l e).glbKey = s.glbKey := by
  unfold Dev.applyEntry
  simp (disch := (first | decide | (simp only [notGlb, GLB_CYCLE_CNT, GLB_MODE_STAT]; omega))) only [↓setLane_glbKey, ↓glbKey_mk, glbKey_fold, ↓ite_glbKey, ite_self]
theorem groveEntryOp_glbKey (s : Dev) (l : Nat) (e : GroveEntryIn) :
    (s.groveEntryOp l e).1.glbKey = s.glbKey := by
  unfold Dev.groveEntryOp
  (try simp (disch := (first | decide | (simp only [notGlb, GLB_CYCLE_CNT, GLB_MODE_STAT, GROVE_LANE_STAT]; omega))) only [↓setFld_glbKey, ↓setLane_glbKey, ↓glbKey_mk, glbKey_fold, ↓ite_glbKey, ite_self, ↓applyEntry_glbKey, ↓groveRefuse_glbKey]) <;> (repeat' split) <;> (try simp (disch := (first | decide | (simp only [notGlb, GLB_CYCLE_CNT, GLB_MODE_STAT, GROVE_LANE_STAT]; omega))) only [↓setFld_glbKey, ↓setLane_glbKey, ↓glbKey_mk, glbKey_fold, ↓ite_glbKey, ite_self, ↓applyEntry_glbKey, ↓groveRefuse_glbKey])
theorem retire_glbKey (s : Dev) (l why : Nat) :
    (s.retire l why).glbKey = s.glbKey := by
  unfold Dev.retire
  simp (disch := (first | decide | (simp only [notGlb, GLB_CYCLE_CNT, GLB_MODE_STAT, GROVE_INSVC, GROVE_LANE_STAT]; omega))) only [↓setFld_glbKey, ↓setBit_glbKey, ↓raise_glbKey, ↓ev_glbKey, ↓setLane_glbKey, ↓glbKey_mk, glbKey_fold, ↓recount_glbKey]
theorem countInvalid_glbKey (s : Dev) (l code : Nat) :
    (s.countInvalid l code).glbKey = s.glbKey := by
  unfold Dev.countInvalid
  simp (disch := (first | decide | (simp only [notGlb, GLB_CYCLE_CNT, GLB_MODE_STAT, GROVE_ERR_TOTAL, GROVE_LANE_ERRCNT, GROVE_LANE_STAT]; omega))) only [↓cntSat_glbKey, ↓ev_glbKey, ↓ite_glbKey, ite_self]
theorem hostRecord_glbKey (s : Dev) (l code iter cycles : Nat) (out : Option SolveOut) :
    (s.hostRecord l code iter cycles out).glbKey = s.glbKey := by
  unfold Dev.hostRecord
  (try simp (disch := (first | decide | (simp only [notGlb, GLB_CYCLE_CNT, GLB_MODE_STAT]; omega))) only [↓spend_glbKey, ↓setLane_glbKey, ↓glbKey_mk, glbKey_fold, ↓endDesc_glbKey]) <;> (repeat' split) <;> (try simp (disch := (first | decide | (simp only [notGlb, GLB_CYCLE_CNT, GLB_MODE_STAT]; omega))) only [↓spend_glbKey, ↓setLane_glbKey, ↓glbKey_mk, glbKey_fold, ↓endDesc_glbKey])
theorem laneStop_glbKey (s : Dev) (l code iter cycles : Nat) (out : Option SolveOut) :
    (s.laneStop l code iter cycles out).glbKey = s.glbKey := by
  unfold Dev.laneStop
  simp (disch := (first | decide | (simp only [notGlb, GLB_CYCLE_CNT, GLB_MODE_STAT, GROVE_ECC_CNT, GROVE_LANE_ERRCNT, GROVE_LANE_ITER, GROVE_LANE_STAT, GROVE_LANE_TIME, GROVE_LANE_TMAX, GROVE_RES_TOTAL]; omega))) only [↓wrN_glbKey, ↓setFld_glbKey, ↓setBit_glbKey, ↓cntSat_glbKey, ↓ev_glbKey, ↓setLane_glbKey, ↓glbKey_mk, glbKey_fold, ↓ite_glbKey, ite_self, ↓countInvalid_glbKey, ↓hostRecord_glbKey, ↓retire_glbKey]
theorem laneBreak_glbKey (s : Dev) (l code : Nat) :
    (s.laneBreak l code).glbKey = s.glbKey := by
  unfold Dev.laneBreak
  simp (disch := (first | decide | (simp only [notGlb, GLB_CYCLE_CNT, GLB_MODE_STAT]; omega))) only [↓spend_glbKey, ↓laneStop_glbKey]
theorem groveStart_glbKey (s : Dev) (l : Nat) (final : Bool) (amb : Nat) :
    (s.groveStart l final amb).1.glbKey = s.glbKey := by
  unfold Dev.groveStart
  (try simp (disch := (first | decide | (simp only [notGlb, GLB_CYCLE_CNT, GLB_MODE_STAT, GROVE_LANE_ERRCNT, GROVE_LANE_STAT]; omega))) only [↓setFld_glbKey, ↓setLane_glbKey, ↓glbKey_mk, glbKey_fold, ↓ite_glbKey, ite_self, ↓countInvalid_glbKey, ↓groveRefuse_glbKey, ↓laneBreak_glbKey]) <;> (repeat' split) <;> (try simp (disch := (first | decide | (simp only [notGlb, GLB_CYCLE_CNT, GLB_MODE_STAT, GROVE_LANE_ERRCNT, GROVE_LANE_STAT]; omega))) only [↓setFld_glbKey, ↓setLane_glbKey, ↓glbKey_mk, glbKey_fold, ↓ite_glbKey, ite_self, ↓countInvalid_glbKey, ↓groveRefuse_glbKey, ↓laneBreak_glbKey])
theorem producerSend_glbKey (s : Dev) (l method : Nat) (accum : Bool) (n m iterMax : Nat) (p : Problem) :
    (s.producerSend l method accum n m iterMax p).glbKey = s.glbKey := by
  unfold Dev.producerSend
  simp (disch := (first | decide | (simp only [notGlb, GLB_CYCLE_CNT, GLB_MODE_STAT]; omega))) only [↓setLane_glbKey, ↓glbKey_mk, glbKey_fold, ↓ite_glbKey, ite_self, ↓groveLoadOp_glbKey]
theorem noLane_glbKey (s : Dev) :
    (s.noLane).glbKey = s.glbKey := by
  unfold Dev.noLane
  simp (disch := (first | decide | (simp only [notGlb, GLB_CYCLE_CNT, GLB_MODE_STAT, GROVE_ERR_TOTAL]; omega))) only [↓cntSat_glbKey, ↓ev_glbKey]
theorem roleRelease_glbKey (s : Dev) (role method : Nat) (accum : Bool) (n m iterMax : Nat) (p : Problem) (final : Bool) (amb : Nat) :
    (s.roleRelease role method accum n m iterMax p final amb).glbKey = s.glbKey := by
  unfold Dev.roleRelease
  (try simp (disch := (first | decide | (simp only [notGlb, GLB_CYCLE_CNT, GLB_MODE_STAT]; omega))) only [↓glbKey_mk, glbKey_fold, ↓groveStart_glbKey, ↓noLane_glbKey, ↓producerSend_glbKey]) <;> (repeat' split) <;> (try simp (disch := (first | decide | (simp only [notGlb, GLB_CYCLE_CNT, GLB_MODE_STAT]; omega))) only [↓glbKey_mk, glbKey_fold, ↓groveStart_glbKey, ↓noLane_glbKey, ↓producerSend_glbKey])
theorem groveAbort_glbKey (s : Dev) :
    (s.groveAbort).glbKey = s.glbKey := by
  unfold Dev.groveAbort
  simp (disch := first | first | decide | (simp only [notGlb, GLB_CYCLE_CNT, GLB_MODE_STAT]; omega) | (intros; (try simp (disch := (first | decide | (simp only [notGlb, GLB_CYCLE_CNT, GLB_MODE_STAT]; omega))) only [↓setLane_glbKey, ↓glbKey_mk, glbKey_fold, ↓ite_glbKey, ite_self, ↓laneBreak_glbKey]) <;> (try (split <;> simp (disch := (first | decide | (simp only [notGlb, GLB_CYCLE_CNT, GLB_MODE_STAT]; omega))) only [↓setLane_glbKey, ↓glbKey_mk, glbKey_fold, ↓ite_glbKey, ite_self, ↓laneBreak_glbKey])))) only [↓setLane_glbKey, ↓glbKey_mk, glbKey_fold, ↓ite_glbKey, ite_self, ↓laneBreak_glbKey, each_glbKey]
theorem lateLanes_glbKey (s : Dev) :
    (s.lateLanes).glbKey = s.glbKey := by
  unfold Dev.lateLanes
  simp (disch := first | first | decide | (simp only [notGlb, GLB_CYCLE_CNT, GLB_MODE_STAT]; omega) | (intros; (try simp (disch := (first | decide | (simp only [notGlb, GLB_CYCLE_CNT, GLB_MODE_STAT]; omega))) only [↓setLane_glbKey, ↓glbKey_mk, glbKey_fold, ↓ite_glbKey, ite_self, ↓laneBreak_glbKey]) <;> (try (split <;> simp (disch := (first | decide | (simp only [notGlb, GLB_CYCLE_CNT, GLB_MODE_STAT]; omega))) only [↓setLane_glbKey, ↓glbKey_mk, glbKey_fold, ↓ite_glbKey, ite_self, ↓laneBreak_glbKey])))) only [↓setLane_glbKey, ↓glbKey_mk, glbKey_fold, ↓ite_glbKey, ite_self, ↓laneBreak_glbKey, each_glbKey]
theorem moveRole_glbKey (s : Dev) (mv : Nat × Nat) :
    (s.moveRole mv).glbKey = s.glbKey := by
  unfold Dev.moveRole
  (try simp (disch := (first | decide | (simp only [notGlb, GLB_CYCLE_CNT, GLB_MODE_STAT, GROVE_LANE_STAT]; omega))) only [↓setFld_glbKey, ↓ev_glbKey, ↓setLane_glbKey, ↓glbKey_mk, glbKey_fold, ↓ite_glbKey, ite_self, ↓laneBreak_glbKey, ↓recount_glbKey, ↓slotOut_glbKey]) <;> (repeat' split) <;> (try simp (disch := (first | decide | (simp only [notGlb, GLB_CYCLE_CNT, GLB_MODE_STAT, GROVE_LANE_STAT]; omega))) only [↓setFld_glbKey, ↓ev_glbKey, ↓setLane_glbKey, ↓glbKey_mk, glbKey_fold, ↓ite_glbKey, ite_self, ↓laneBreak_glbKey, ↓recount_glbKey, ↓slotOut_glbKey])
theorem moveRoles_glbKey (s : Dev) :
    (s.moveRoles).glbKey = s.glbKey := by
  unfold Dev.moveRoles
  simp (disch := first | first | decide | (simp only [notGlb, GLB_CYCLE_CNT, GLB_MODE_STAT]; omega) | (intros; (try simp (disch := (first | decide | (simp only [notGlb, GLB_CYCLE_CNT, GLB_MODE_STAT]; omega))) only [↓glbKey_mk, glbKey_fold, ↓moveRole_glbKey]) <;> (try (split <;> simp (disch := (first | decide | (simp only [notGlb, GLB_CYCLE_CNT, GLB_MODE_STAT]; omega))) only [↓glbKey_mk, glbKey_fold, ↓moveRole_glbKey])))) only [↓glbKey_mk, glbKey_fold, ↓moveRole_glbKey, each_glbKey]
theorem setEstState_glbKey (s : Dev) (n : Nat) :
    (s.setEstState n).glbKey = s.glbKey := by
  unfold Dev.setEstState
  simp (disch := (first | decide | (simp only [notGlb, EST_STAT, GLB_CYCLE_CNT, GLB_MODE_STAT]; omega))) only [↓setFld_glbKey, ↓raise_glbKey, ↓ite_glbKey, ite_self]
theorem propagate_glbKey (s : Dev) :
    (s.propagate).glbKey = s.glbKey := by
  unfold Dev.propagate
  simp (disch := (first | decide | (simp only [notGlb, GLB_CYCLE_CNT, GLB_MODE_STAT]; omega))) only [↓glbKey_mk, glbKey_fold, ↓ite_glbKey, ite_self]
theorem selectSensors_glbKey (s : Dev) :
    (s.selectSensors).glbKey = s.glbKey := by
  unfold Dev.selectSensors
  simp (disch := (first | decide | (simp only [notGlb, GLB_CYCLE_CNT, GLB_MODE_STAT]; omega))) only [↓glbKey_mk, glbKey_fold]
theorem setRef_glbKey (s : Dev) (n : Nat) (f : RefSt → RefSt) :
    (s.setRef n f).glbKey = s.glbKey := by
  unfold Dev.setRef
  simp (disch := (first | decide | (simp only [notGlb, GLB_CYCLE_CNT, GLB_MODE_STAT]; omega))) only [↓glbKey_mk, glbKey_fold]
theorem showRef_glbKey (s : Dev) (n test : Nat) (ns : Int) :
    (s.showRef n test ns).glbKey = s.glbKey := by
  unfold Dev.showRef
  simp (disch := (first | decide | (simp only [notGlb, EST_REF_CFG, EST_REF_STAT, GLB_CYCLE_CNT, GLB_MODE_STAT]; omega))) only [↓setFld_glbKey, ↓setBit_glbKey, ↓glbKey_mk, glbKey_fold, ↓ite_glbKey, ite_self]
theorem rejectRef_glbKey (s : Dev) (n test : Nat) :
    (s.rejectRef n test).glbKey = s.glbKey := by
  unfold Dev.rejectRef
  simp (disch := (first | decide | (simp only [notGlb, EST_REF_CFG, EST_REF_CNT, GLB_CYCLE_CNT, GLB_MODE_STAT]; omega))) only [↓cntSat_glbKey, ↓ev_glbKey, ↓glbKey_mk, glbKey_fold, ↓ite_glbKey, ite_self, ↓setRef_glbKey]
theorem passRef_glbKey (s : Dev) (t : RefTest) :
    (s.passRef t).glbKey = s.glbKey := by
  unfold Dev.passRef
  simp (disch := (first | decide | (simp only [notGlb, GLB_CYCLE_CNT, GLB_MODE_STAT]; omega))) only [↓ev_glbKey, ↓glbKey_mk, glbKey_fold, ↓ite_glbKey, ite_self, ↓setRef_glbKey]
theorem judgeRef_glbKey (s : Dev) (i : TickIn) (med : Option (Rat × Rat)) (t : RefTest) :
    (s.judgeRef i med t).glbKey = s.glbKey := by
  unfold Dev.judgeRef
  extract_lets r far innovOk test s1 f s3 s2
  rw [showRef_glbKey]
  have h1 : s1.glbKey = s.glbKey := setRef_glbKey _ _ _
  rw [← h1]
  have h3 : s3.glbKey = s1.glbKey := setRef_glbKey _ _ _
  clear_value s3 s1 test f r far innovOk
  unfold s2
  split
  · exact passRef_glbKey _ _
  · rfl
  · simp only [↓ite_glbKey, ↓rejectRef_glbKey, h3, ite_self]
  · exact rejectRef_glbKey _ _ _
theorem acceptRefs_glbKey (s : Dev) (i : TickIn) :
    (s.acceptRefs i).glbKey = s.glbKey := by
  unfold Dev.acceptRefs
  simp (disch := first | first | decide | (simp only [notGlb, GLB_CYCLE_CNT, GLB_MODE_STAT]; omega) | (intros; (try simp (disch := (first | decide | (simp only [notGlb, GLB_CYCLE_CNT, GLB_MODE_STAT]; omega))) only [↓glbKey_mk, glbKey_fold, ↓ite_glbKey, ite_self, ↓judgeRef_glbKey]) <;> (try (split <;> simp (disch := (first | decide | (simp only [notGlb, GLB_CYCLE_CNT, GLB_MODE_STAT]; omega))) only [↓glbKey_mk, glbKey_fold, ↓ite_glbKey, ite_self, ↓judgeRef_glbKey])))) only [↓glbKey_mk, glbKey_fold, ↓ite_glbKey, ite_self, ↓judgeRef_glbKey, each_glbKey]
theorem dropSamples_glbKey (s : Dev) :
    (s.dropSamples).glbKey = s.glbKey := by
  unfold Dev.dropSamples
  simp (disch := (first | decide | (simp only [notGlb, GLB_CYCLE_CNT, GLB_MODE_STAT]; omega))) only [↓glbKey_mk, glbKey_fold]
theorem refsCommit_glbKey (s : Dev) :
    (s.refsCommit).glbKey = s.glbKey := by
  unfold Dev.refsCommit
  simp (disch := first | first | decide | (simp only [notGlb, EST_REF_CFG, EST_REF_STAT, GLB_CYCLE_CNT, GLB_MODE_STAT]; omega) | (intros; (try simp (disch := (first | decide | (simp only [notGlb, EST_REF_CFG, EST_REF_STAT, GLB_CYCLE_CNT, GLB_MODE_STAT]; omega))) only [↓wr_glbKey, ↓glbKey_mk, glbKey_fold, ↓setRef_glbKey]) <;> (try (split <;> simp (disch := (first | decide | (simp only [notGlb, EST_REF_CFG, EST_REF_STAT, GLB_CYCLE_CNT, GLB_MODE_STAT]; omega))) only [↓wr_glbKey, ↓glbKey_mk, glbKey_fold, ↓setRef_glbKey])))) only [↓wr_glbKey, ↓glbKey_mk, glbKey_fold, ↓setRef_glbKey, each_glbKey]
theorem refsReinit_glbKey (s : Dev) :
    (s.refsReinit).glbKey = s.glbKey := by
  unfold Dev.refsReinit
  simp (disch := first | first | decide | (simp only [notGlb, EST_REF_CFG, EST_REF_STAT, GLB_CYCLE_CNT, GLB_MODE_STAT]; omega) | (intros; (try simp (disch := (first | decide | (simp only [notGlb, EST_REF_CFG, EST_REF_STAT, GLB_CYCLE_CNT, GLB_MODE_STAT]; omega))) only [↓setFld_glbKey, ↓setBit_glbKey, ↓glbKey_mk, glbKey_fold, ↓ite_glbKey, ite_self]) <;> (try (split <;> simp (disch := (first | decide | (simp only [notGlb, EST_REF_CFG, EST_REF_STAT, GLB_CYCLE_CNT, GLB_MODE_STAT]; omega))) only [↓setFld_glbKey, ↓setBit_glbKey, ↓glbKey_mk, glbKey_fold, ↓ite_glbKey, ite_self])))) only [↓setFld_glbKey, ↓setBit_glbKey, ↓glbKey_mk, glbKey_fold, ↓ite_glbKey, ite_self, each_glbKey]
theorem gyroTest_glbKey (s : Dev) (b med : Rat) (k : Nat) :
    (s.gyroTest b med k).glbKey = s.glbKey := by
  unfold Dev.gyroTest
  simp (disch := (first | decide | (simp only [notGlb, EST_GYRO_LIM, GLB_CYCLE_CNT, GLB_MODE_STAT]; omega))) only [↓ev_glbKey, ↓glbKey_mk, glbKey_fold, ↓ite_glbKey, ite_self]
theorem headingMedian_glbKey (s : Dev) (fresh : List Nat) (vals : List Rat) :
    (s.headingMedian fresh vals).glbKey = s.glbKey := by
  unfold Dev.headingMedian
  simp (disch := first | first | decide | (simp only [notGlb, GLB_CYCLE_CNT, GLB_MODE_STAT]; omega) | (intros; (try simp (disch := (first | decide | (simp only [notGlb, GLB_CYCLE_CNT, GLB_MODE_STAT]; omega))) only [↓glbKey_mk, glbKey_fold, ↓gyroTest_glbKey]) <;> (try (split <;> simp (disch := (first | decide | (simp only [notGlb, GLB_CYCLE_CNT, GLB_MODE_STAT]; omega))) only [↓glbKey_mk, glbKey_fold, ↓gyroTest_glbKey])))) only [↓glbKey_mk, glbKey_fold, ↓gyroTest_glbKey, each_glbKey]
theorem headingPair_glbKey (s : Dev) (fresh : List Nat) (vals : List Rat) :
    (s.headingPair fresh vals).glbKey = s.glbKey := by
  unfold Dev.headingPair
  simp (disch := (first | decide | (simp only [notGlb, EST_GYRO_LIM, GLB_CYCLE_CNT, GLB_MODE_STAT]; omega))) only [↓ev_glbKey, ↓glbKey_mk, glbKey_fold, ↓ite_glbKey, ite_self]
theorem headingFlags_glbKey (s : Dev) (n : Nat) :
    (s.headingFlags n).glbKey = s.glbKey := by
  unfold Dev.headingFlags
  simp (disch := (first | decide | (simp only [notGlb, EST_STAT, GLB_CYCLE_CNT, GLB_MODE_STAT]; omega))) only [↓setBit_glbKey, ↓ev_glbKey, ↓ite_glbKey, ite_self]
theorem headingTest_glbKey (s : Dev) :
    (s.headingTest).glbKey = s.glbKey := by
  unfold Dev.headingTest
  simp (disch := first | first | decide | (simp only [notGlb, EST_STAT, GLB_CYCLE_CNT, GLB_MODE_STAT]; omega) | (intros; (try simp (disch := (first | decide | (simp only [notGlb, EST_STAT, GLB_CYCLE_CNT, GLB_MODE_STAT]; omega))) only [↓glbKey_mk, glbKey_fold, ↓ite_glbKey, ite_self, ↓headingFlags_glbKey, ↓headingMedian_glbKey, ↓headingPair_glbKey]) <;> (try (split <;> simp (disch := (first | decide | (simp only [notGlb, EST_STAT, GLB_CYCLE_CNT, GLB_MODE_STAT]; omega))) only [↓glbKey_mk, glbKey_fold, ↓ite_glbKey, ite_self, ↓headingFlags_glbKey, ↓headingMedian_glbKey, ↓headingPair_glbKey])))) only [↓glbKey_mk, glbKey_fold, ↓ite_glbKey, ite_self, ↓headingFlags_glbKey, ↓headingMedian_glbKey, ↓headingPair_glbKey, each_glbKey]
theorem deadReckon_glbKey (s : Dev) (entered : Bool) :
    (s.deadReckon entered).glbKey = s.glbKey := by
  unfold Dev.deadReckon
  simp (disch := (first | decide | (simp only [notGlb, EST_LIM0, EST_STAT, GLB_CYCLE_CNT, GLB_MODE_STAT]; omega))) only [↓setBit_glbKey, ↓ev_glbKey, ↓glbKey_mk, glbKey_fold, ↓ite_glbKey, ite_self]
theorem applyBundle_glbKey (s : Dev) :
    (s.applyBundle).glbKey = s.glbKey := by
  unfold Dev.applyBundle
  (try simp (disch := first | first | decide | (simp only [notGlb, EST_LEVER_STEP_MAX, GLB_CYCLE_CNT, GLB_MODE_STAT, estAnt, estBias, estGyroBias]; omega) | (intros; simp (disch := first | first | decide | (simp only [notGlb, EST_LEVER_STEP_MAX, GLB_CYCLE_CNT, GLB_MODE_STAT, estAnt, estBias, estGyroBias]; omega) | (intros; (try simp (disch := (first | decide | (simp only [notGlb, EST_LEVER_STEP_MAX, GLB_CYCLE_CNT, GLB_MODE_STAT, estAnt, estBias, estGyroBias]; omega))) only [↓wrPbv_glbKey, ↓ev_glbKey, ↓glbKey_mk, glbKey_fold, ↓ite_glbKey, ite_self]) <;> (repeat' split) <;> (try simp (disch := (first | decide | (simp only [notGlb, EST_LEVER_STEP_MAX, GLB_CYCLE_CNT, GLB_MODE_STAT, estAnt, estBias, estGyroBias]; omega))) only [↓wrPbv_glbKey, ↓ev_glbKey, ↓glbKey_mk, glbKey_fold, ↓ite_glbKey, ite_self]))) only [↓wrPbv_glbKey, ↓ev_glbKey, ↓glbKey_mk, glbKey_fold, ↓ite_glbKey, ite_self, each_glbKey])) only [↓wrPbv_glbKey, ↓ev_glbKey, ↓glbKey_mk, glbKey_fold, ↓ite_glbKey, ite_self, each_glbKey]) <;> (repeat' split) <;> (try simp (disch := first | first | decide | (simp only [notGlb, EST_LEVER_STEP_MAX, GLB_CYCLE_CNT, GLB_MODE_STAT, estAnt, estBias, estGyroBias]; omega) | (intros; simp (disch := first | first | decide | (simp only [notGlb, EST_LEVER_STEP_MAX, GLB_CYCLE_CNT, GLB_MODE_STAT, estAnt, estBias, estGyroBias]; omega) | (intros; (try simp (disch := (first | decide | (simp only [notGlb, EST_LEVER_STEP_MAX, GLB_CYCLE_CNT, GLB_MODE_STAT, estAnt, estBias, estGyroBias]; omega))) only [↓wrPbv_glbKey, ↓ev_glbKey, ↓glbKey_mk, glbKey_fold, ↓ite_glbKey, ite_self]) <;> (repeat' split) <;> (try simp (disch := (first | decide | (simp only [notGlb, EST_LEVER_STEP_MAX, GLB_CYCLE_CNT, GLB_MODE_STAT, estAnt, estBias, estGyroBias]; omega))) only [↓wrPbv_glbKey, ↓ev_glbKey, ↓glbKey_mk, glbKey_fold, ↓ite_glbKey, ite_self]))) only [↓wrPbv_glbKey, ↓ev_glbKey, ↓glbKey_mk, glbKey_fold, ↓ite_glbKey, ite_self, each_glbKey])) only [↓wrPbv_glbKey, ↓ev_glbKey, ↓glbKey_mk, glbKey_fold, ↓ite_glbKey, ite_self, each_glbKey])
theorem estForm_glbKey (s : Dev) (i : TickIn) :
    (s.estForm i).glbKey = s.glbKey := by
  unfold Dev.estForm
  simp (disch := (first | decide | (simp only [notGlb, EST_STAT, GLB_CYCLE_CNT, GLB_MODE_STAT]; omega))) only [↓setFld_glbKey, ↓glbKey_mk, glbKey_fold, ↓ite_glbKey, ite_self, ↓acceptRefs_glbKey, ↓applyBundle_glbKey, ↓deadReckon_glbKey, ↓dropSamples_glbKey, ↓headingTest_glbKey, ↓propagate_glbKey, ↓roleRelease_glbKey, ↓selectSensors_glbKey]
theorem estRestart_glbKey (s : Dev) :
    (s.estRestart).glbKey = s.glbKey := by
  unfold Dev.estRestart
  simp (disch := (first | decide | (simp only [notGlb, EST_STAT, GLB_CYCLE_CNT, GLB_MODE_STAT]; omega))) only [↓setFld_glbKey, ↓setBit_glbKey, ↓glbKey_mk, glbKey_fold, ↓setEstState_glbKey]
theorem originFar_glbKey (s : Dev) :
    (s.originFar).glbKey = s.glbKey := by
  unfold Dev.originFar
  simp (disch := (first | decide | (simp only [notGlb, EST_STAT, GLB_CYCLE_CNT, GLB_MODE_STAT]; omega))) only [↓setBit_glbKey, ↓ev_glbKey, ↓ite_glbKey, ite_self]
theorem takeSolution_glbKey (s : Dev) (l : Nat) :
    (s.takeSolution l).glbKey = s.glbKey := by
  unfold Dev.takeSolution
  simp (disch := (first | decide | (simp only [notGlb, GLB_CYCLE_CNT, GLB_MODE_STAT]; omega))) only [↓glbKey_mk, glbKey_fold, ↓originFar_glbKey]
theorem estUpdate_glbKey (s : Dev) :
    (s.estUpdate).glbKey = s.glbKey := by
  unfold Dev.estUpdate
  (try simp (disch := (first | decide | (simp only [notGlb, EST_CFG, EST_STAT, GLB_CYCLE_CNT, GLB_MODE_STAT]; omega))) only [↓setFld_glbKey, ↓setBit_glbKey, ↓ev_glbKey, ↓glbKey_mk, glbKey_fold, ↓ite_glbKey, ite_self, ↓setEstState_glbKey, ↓takeSolution_glbKey]) <;> (repeat' split) <;> (try simp (disch := (first | decide | (simp only [notGlb, EST_CFG, EST_STAT, GLB_CYCLE_CNT, GLB_MODE_STAT]; omega))) only [↓setFld_glbKey, ↓setBit_glbKey, ↓ev_glbKey, ↓glbKey_mk, glbKey_fold, ↓ite_glbKey, ite_self, ↓setEstState_glbKey, ↓takeSolution_glbKey])
theorem bundleBegin_glbKey (s : Dev) :
    (s.bundleBegin).glbKey = s.glbKey := by
  unfold Dev.bundleBegin
  (try simp (disch := (first | decide | (simp only [notGlb, GLB_CYCLE_CNT, GLB_MODE_STAT]; omega))) only [↓glbKey_mk, glbKey_fold, ↓groveLoadOp_glbKey]) <;> (repeat' split) <;> (try simp (disch := (first | decide | (simp only [notGlb, GLB_CYCLE_CNT, GLB_MODE_STAT]; omega))) only [↓glbKey_mk, glbKey_fold, ↓groveLoadOp_glbKey])
theorem bundleSend_glbKey (s : Dev) :
    (s.bundleSend).glbKey = s.glbKey := by
  unfold Dev.bundleSend
  simp (disch := (first | decide | (simp only [notGlb, GLB_CYCLE_CNT, GLB_MODE_STAT]; omega))) only [↓roleRelease_glbKey]
theorem bundleStart_glbKey (s : Dev) :
    (s.bundleStart).glbKey = s.glbKey := by
  unfold Dev.bundleStart
  simp (disch := (first | decide | (simp only [notGlb, GLB_CYCLE_CNT, GLB_MODE_STAT]; omega))) only [↓glbKey_mk, glbKey_fold, ↓ite_glbKey, ite_self, ↓bundleBegin_glbKey, ↓bundleSend_glbKey]
theorem bundleNext_glbKey (s : Dev) (l : Nat) (ok : Bool) :
    (s.bundleNext l ok).glbKey = s.glbKey := by
  unfold Dev.bundleNext
  simp (disch := (first | decide | (simp only [notGlb, GLB_CYCLE_CNT, GLB_MODE_STAT]; omega))) only [↓glbKey_mk, glbKey_fold, ↓ite_glbKey, ite_self, ↓bundleSend_glbKey]
theorem ambFix_glbKey (s : Dev) (l : Nat) (i : TickIn) :
    (s.ambFix l i).glbKey = s.glbKey := by
  unfold Dev.ambFix
  (try simp (disch := (first | decide | (simp only [notGlb, EST_BND_STAT, EST_STAT, GLB_CYCLE_CNT, GLB_MODE_STAT]; omega))) only [↓setFld_glbKey, ↓setBit_glbKey, ↓ev_glbKey, ↓glbKey_mk, glbKey_fold, ↓ite_glbKey, ite_self]) <;> (repeat' split) <;> (try simp (disch := (first | decide | (simp only [notGlb, EST_BND_STAT, EST_STAT, GLB_CYCLE_CNT, GLB_MODE_STAT]; omega))) only [↓setFld_glbKey, ↓setBit_glbKey, ↓ev_glbKey, ↓glbKey_mk, glbKey_fold, ↓ite_glbKey, ite_self])
theorem bundlePublish_glbKey (s : Dev) (i : TickIn) (bad : Bool) :
    (s.bundlePublish i bad).glbKey = s.glbKey := by
  unfold Dev.bundlePublish
  (try simp (disch := (first | decide | (simp only [notGlb, EST_BND_STAT, GLB_CYCLE_CNT, GLB_MODE_STAT]; omega))) only [↓cntWrap_glbKey, ↓ev_glbKey, ↓glbKey_mk, glbKey_fold, ↓ite_glbKey, ite_self, ↓ambFix_glbKey]) <;> (repeat' split) <;> (try simp (disch := (first | decide | (simp only [notGlb, EST_BND_STAT, GLB_CYCLE_CNT, GLB_MODE_STAT]; omega))) only [↓cntWrap_glbKey, ↓ev_glbKey, ↓glbKey_mk, glbKey_fold, ↓ite_glbKey, ite_self, ↓ambFix_glbKey])
theorem bundleEnd_glbKey (s : Dev) (i : TickIn) :
    (s.bundleEnd i).glbKey = s.glbKey := by
  unfold Dev.bundleEnd
  simp (disch := (first | decide | (simp only [notGlb, EST_BND_STAT, GLB_CYCLE_CNT, GLB_MODE_STAT]; omega))) only [↓setFld_glbKey, ↓glbKey_mk, glbKey_fold, ↓ite_glbKey, ite_self, ↓bundlePublish_glbKey]
theorem slips_glbKey (s : Dev) :
    (s.slips).glbKey = s.glbKey := by
  unfold Dev.slips
  simp (disch := (first | decide | (simp only [notGlb, EST_STAT, GLB_CYCLE_CNT, GLB_MODE_STAT]; omega))) only [↓setBit_glbKey, ↓ev_glbKey, ↓glbKey_mk, glbKey_fold, ↓ite_glbKey, ite_self]
theorem estBoundary_glbKey (s : Dev) :
    (s.estBoundary).glbKey = s.glbKey := by
  unfold Dev.estBoundary
  (try simp (disch := (first | decide | (simp only [notGlb, EST_ORIGIN_LAT, EST_ORIGIN_LON, EST_STAT, GLB_CYCLE_CNT, GLB_MODE_STAT]; omega))) only [↓wr_glbKey, ↓setBit_glbKey, ↓glbKey_mk, glbKey_fold, ↓ite_glbKey, ite_self, ↓estRestart_glbKey, ↓refsReinit_glbKey]) <;> (repeat' split) <;> (try simp (disch := (first | decide | (simp only [notGlb, EST_ORIGIN_LAT, EST_ORIGIN_LON, EST_STAT, GLB_CYCLE_CNT, GLB_MODE_STAT]; omega))) only [↓wr_glbKey, ↓setBit_glbKey, ↓glbKey_mk, glbKey_fold, ↓ite_glbKey, ite_self, ↓estRestart_glbKey, ↓refsReinit_glbKey])
theorem originWrite_glbKey (s : Dev) (lon : Bool) (v : Word) :
    (s.originWrite lon v).glbKey = s.glbKey := by
  unfold Dev.originWrite
  simp (disch := (first | decide | (simp only [notGlb, GLB_CYCLE_CNT, GLB_MODE_STAT]; omega))) only [↓ev_glbKey, ↓glbKey_mk, glbKey_fold, ↓ite_glbKey, ite_self]
theorem autoOrigin_glbKey (s : Dev) (lat lon : Int) :
    (s.autoOrigin lat lon).glbKey = s.glbKey := by
  unfold Dev.autoOrigin
  simp (disch := (first | decide | (simp only [notGlb, EST_ORIGIN_LAT, EST_ORIGIN_LON, EST_STAT, GLB_CYCLE_CNT, GLB_MODE_STAT]; omega))) only [↓wr_glbKey, ↓setBit_glbKey, ↓ite_glbKey, ite_self]
theorem sensBad_glbKey (s : Dev) :
    (s.sensBad).glbKey = s.glbKey := by
  unfold Dev.sensBad
  simp (disch := (first | decide | (simp only [notGlb, EST_SENS_BAD, GLB_CYCLE_CNT, GLB_MODE_STAT]; omega))) only [↓cntSat_glbKey]
theorem sentence_glbKey (s : Dev) (u : Nat) (m : SentenceIn) :
    (s.sentence u m).glbKey = s.glbKey := by
  unfold Dev.sentence
  (try simp (disch := (first | decide | (simp only [notGlb, GLB_CYCLE_CNT, GLB_MODE_STAT]; omega))) only [↓glbKey_mk, glbKey_fold, ↓ite_glbKey, ite_self, ↓sensBad_glbKey]) <;> (repeat' split) <;> (try simp (disch := (first | decide | (simp only [notGlb, GLB_CYCLE_CNT, GLB_MODE_STAT]; omega))) only [↓glbKey_mk, glbKey_fold, ↓ite_glbKey, ite_self, ↓sensBad_glbKey])
theorem refPayload_glbKey (s : Dev) (port : Nat) (u : Nat) (p : List Byte) (arrival : Int) :
    (s.refPayload port u p arrival).glbKey = s.glbKey := by
  unfold Dev.refPayload
  (try simp (disch := (first | decide | (simp only [notGlb, EST_REF_CFG, EST_REF_CNT, EST_REF_DROP, GLB_CYCLE_CNT, GLB_MODE_STAT]; omega))) only [↓cntSat_glbKey, ↓cntWrap_glbKey, ↓glbKey_mk, glbKey_fold, ↓ite_glbKey, ite_self, ↓setRef_glbKey]) <;> (repeat' split) <;> (try simp (disch := (first | decide | (simp only [notGlb, EST_REF_CFG, EST_REF_CNT, EST_REF_DROP, GLB_CYCLE_CNT, GLB_MODE_STAT]; omega))) only [↓cntSat_glbKey, ↓cntWrap_glbKey, ↓glbKey_mk, glbKey_fold, ↓ite_glbKey, ite_self, ↓setRef_glbKey])
theorem refArrival_glbKey (s : Dev) (uart : Option Nat) (bytes : List Byte) (arrival : Int) :
    (s.refArrival uart bytes arrival).glbKey = s.glbKey := by
  unfold Dev.refArrival
  (try simp (disch := (first | decide | (simp only [notGlb, GLB_CYCLE_CNT, GLB_MODE_STAT]; omega))) only [↓glbKey_mk, glbKey_fold, ↓ite_glbKey, ite_self, ↓refPayload_glbKey, ↓sensBad_glbKey]) <;> (repeat' split) <;> (try simp (disch := (first | decide | (simp only [notGlb, GLB_CYCLE_CNT, GLB_MODE_STAT]; omega))) only [↓glbKey_mk, glbKey_fold, ↓ite_glbKey, ite_self, ↓refPayload_glbKey, ↓sensBad_glbKey])
theorem setAllocState_glbKey (s : Dev) (n : Nat) :
    (s.setAllocState n).glbKey = s.glbKey := by
  unfold Dev.setAllocState
  simp (disch := (first | decide | (simp only [notGlb, ALLOC_STAT, GLB_CYCLE_CNT, GLB_MODE_STAT]; omega))) only [↓setFld_glbKey, ↓raise_glbKey, ↓ite_glbKey, ite_self]
theorem allocMismatch_glbKey (s : Dev) (k : Nat) :
    (s.allocMismatch k).glbKey = s.glbKey := by
  unfold Dev.allocMismatch
  simp (disch := (first | decide | (simp only [notGlb, ALLOC_RES_TOTAL, GLB_CYCLE_CNT, GLB_MODE_STAT]; omega))) only [↓cntSat_glbKey, ↓ev_glbKey]
theorem allocRequest_glbKey (s : Dev) :
    (s.allocRequest).glbKey = s.glbKey := by
  unfold Dev.allocRequest
  simp (disch := (first | decide | (simp only [notGlb, GLB_CYCLE_CNT, GLB_MODE_STAT]; omega))) only [↓glbKey_mk, glbKey_fold, ↓ite_glbKey, ite_self]
theorem allocWithdraw_glbKey (s : Dev) :
    (s.allocWithdraw).glbKey = s.glbKey := by
  unfold Dev.allocWithdraw
  simp (disch := (first | decide | (simp only [notGlb, GLB_CYCLE_CNT, GLB_MODE_STAT]; omega))) only [↓glbKey_mk, glbKey_fold]
theorem setTau_glbKey (s : Dev) (t : Rat × Rat × Rat) :
    (s.setTau t).glbKey = s.glbKey := by
  unfold Dev.setTau
  simp (disch := (first | decide | (simp only [notGlb, ALLOC_STAT, ALLOC_TAU, GLB_CYCLE_CNT, GLB_MODE_STAT]; omega))) only [↓setBit_glbKey, ↓wrPbv_glbKey, ↓ev_glbKey, ↓glbKey_mk, glbKey_fold, ↓ite_glbKey, ite_self]
theorem zeroTau_glbKey (s : Dev) :
    (s.zeroTau).glbKey = s.glbKey := by
  unfold Dev.zeroTau
  simp (disch := (first | decide | (simp only [notGlb, ALLOC_STAT, ALLOC_TAU, GLB_CYCLE_CNT, GLB_MODE_STAT]; omega))) only [↓wr_glbKey, ↓setBit_glbKey, ↓glbKey_mk, glbKey_fold]
theorem estimatorAction_glbKey (s : Dev) :
    (s.estimatorAction).glbKey = s.glbKey := by
  unfold Dev.estimatorAction
  simp (disch := (first | decide | (simp only [notGlb, ALLOC_CFG, GLB_CYCLE_CNT, GLB_MODE_STAT]; omega))) only [↓ev_glbKey, ↓ite_glbKey, ite_self, ↓allocRequest_glbKey, ↓setAllocState_glbKey, ↓zeroTau_glbKey]
theorem allocDemand_glbKey (s : Dev) (i : TickIn) :
    (s.allocDemand i).glbKey = s.glbKey := by
  unfold Dev.allocDemand
  simp (disch := (first | decide | (simp only [notGlb, GLB_CYCLE_CNT, GLB_MODE_STAT]; omega))) only [↓ev_glbKey, ↓glbKey_mk, glbKey_fold, ↓ite_glbKey, ite_self, ↓allocMismatch_glbKey, ↓estimatorAction_glbKey, ↓setAllocState_glbKey, ↓setTau_glbKey]
theorem latchZone_glbKey (s : Dev) (t : Nat) (ang : Rat) (zone : Option Nat) :
    (s.latchZone t ang zone).glbKey = s.glbKey := by
  unfold Dev.latchZone
  (try simp (disch := (first | decide | (simp only [notGlb, ALLOC_THR_STAT, ALLOC_ZONE_IN, GLB_CYCLE_CNT, GLB_MODE_STAT, thrWin]; omega))) only [↓setBit_glbKey, ↓ev_glbKey, ↓glbKey_mk, glbKey_fold, ↓ite_glbKey, ite_self]) <;> (repeat' split) <;> (try simp (disch := (first | decide | (simp only [notGlb, ALLOC_THR_STAT, ALLOC_ZONE_IN, GLB_CYCLE_CNT, GLB_MODE_STAT, thrWin]; omega))) only [↓setBit_glbKey, ↓ev_glbKey, ↓glbKey_mk, glbKey_fold, ↓ite_glbKey, ite_self])
theorem latchSide_glbKey (s : Dev) (t : Nat) :
    (s.latchSide t).glbKey = s.glbKey := by
  unfold Dev.latchSide
  simp (disch := (first | decide | (simp only [notGlb, ALLOC_THR_STAT, GLB_CYCLE_CNT, GLB_MODE_STAT, thrWin]; omega))) only [↓setBit_glbKey, ↓ev_glbKey, ↓ite_glbKey, ite_self]
theorem latchAngle_glbKey (s : Dev) (t : Nat) (ang : Rat) :
    (s.latchAngle t ang).glbKey = s.glbKey := by
  unfold Dev.latchAngle
  simp (disch := (first | decide | (simp only [notGlb, ALLOC_THR_ANG, GLB_CYCLE_CNT, GLB_MODE_STAT, thrWin]; omega))) only [↓wrPbv_glbKey, ↓glbKey_mk, glbKey_fold, ↓ite_glbKey, ite_self]
theorem latchThr_glbKey (s : Dev) (t : Nat) :
    (s.latchThr t).glbKey = s.glbKey := by
  unfold Dev.latchThr
  (try simp (disch := (first | decide | (simp only [notGlb, ALLOC_THR_AVAIL, ALLOC_THR_STAT, GLB_CYCLE_CNT, GLB_MODE_STAT, thrWin]; omega))) only [↓setBit_glbKey, ↓ite_glbKey, ite_self, ↓latchAngle_glbKey, ↓latchSide_glbKey, ↓latchZone_glbKey]) <;> (repeat' split) <;> (try simp (disch := (first | decide | (simp only [notGlb, ALLOC_THR_AVAIL, ALLOC_THR_STAT, GLB_CYCLE_CNT, GLB_MODE_STAT, thrWin]; omega))) only [↓setBit_glbKey, ↓ite_glbKey, ite_self, ↓latchAngle_glbKey, ↓latchSide_glbKey, ↓latchZone_glbKey])
theorem assignGroups_glbKey (s : Dev) :
    (s.assignGroups).glbKey = s.glbKey := by
  unfold Dev.assignGroups
  simp (disch := (first | decide | (simp only [notGlb, GLB_CYCLE_CNT, GLB_MODE_STAT]; omega))) only [↓glbKey_mk, glbKey_fold]
theorem memberBounds_glbKey (s : Dev) (l g : Nat) :
    (s.memberBounds l g).glbKey = s.glbKey := by
  unfold Dev.memberBounds
  simp (disch := (first | decide | (simp only [notGlb, GLB_CYCLE_CNT, GLB_MODE_STAT, GROVE_REFUSED]; omega))) only [↓cntSat_glbKey, ↓setLane_glbKey, ↓glbKey_mk, glbKey_fold, ↓ite_glbKey, ite_self]
theorem startGroups_glbKey (s : Dev) (l : Nat) (gs : List Nat) : (s.startGroups l gs).glbKey = s.glbKey := by
  induction gs generalizing s with
  | nil => unfold Dev.startGroups; simp only [↓setLane_glbKey]
  | cons g gs ih =>
    unfold Dev.startGroups
    simp only [↓ite_glbKey, ih, ↓groveStart_glbKey, ↓memberBounds_glbKey, ↓setLane_glbKey, ite_self]
theorem nextGroup_glbKey (s : Dev) (l : Nat) :
    (s.nextGroup l).glbKey = s.glbKey := by
  unfold Dev.nextGroup
  (try simp (disch := (first | decide | (simp only [notGlb, GLB_CYCLE_CNT, GLB_MODE_STAT]; omega))) only [↓startGroups_glbKey]) <;> (repeat' split) <;> (try simp (disch := (first | decide | (simp only [notGlb, GLB_CYCLE_CNT, GLB_MODE_STAT]; omega))) only [↓startGroups_glbKey])
theorem allocPose_glbKey (s : Dev) (i : TickIn) :
    (s.allocPose i).glbKey = s.glbKey := by
  unfold Dev.allocPose
  simp (disch := first | first | decide | (simp only [notGlb, GLB_CYCLE_CNT, GLB_MODE_STAT, GROVE_ITER]; omega) | (intros; simp (disch := first | first | decide | (simp only [notGlb, GLB_CYCLE_CNT, GLB_MODE_STAT, GROVE_ITER]; omega) | (intros; (try simp (disch := (first | decide | (simp only [notGlb, GLB_CYCLE_CNT, GLB_MODE_STAT, GROVE_ITER]; omega))) only [↓setLane_glbKey, ↓glbKey_mk, glbKey_fold, ↓ite_glbKey, ite_self, ↓allocMismatch_glbKey, ↓latchThr_glbKey, ↓nextGroup_glbKey, ↓noLane_glbKey, ↓producerSend_glbKey, ↓roleRelease_glbKey]) <;> (repeat' split) <;> (try simp (disch := (first | decide | (simp only [notGlb, GLB_CYCLE_CNT, GLB_MODE_STAT, GROVE_ITER]; omega))) only [↓setLane_glbKey, ↓glbKey_mk, glbKey_fold, ↓ite_glbKey, ite_self, ↓allocMismatch_glbKey, ↓latchThr_glbKey, ↓nextGroup_glbKey, ↓noLane_glbKey, ↓producerSend_glbKey, ↓roleRelease_glbKey]))) only [↓setLane_glbKey, ↓glbKey_mk, glbKey_fold, ↓ite_glbKey, ite_self, ↓allocMismatch_glbKey, ↓latchThr_glbKey, ↓nextGroup_glbKey, ↓noLane_glbKey, ↓producerSend_glbKey, ↓roleRelease_glbKey, each_glbKey])) only [↓setLane_glbKey, ↓glbKey_mk, glbKey_fold, ↓ite_glbKey, ite_self, ↓allocMismatch_glbKey, ↓latchThr_glbKey, ↓nextGroup_glbKey, ↓noLane_glbKey, ↓producerSend_glbKey, ↓roleRelease_glbKey, each_glbKey]
theorem cqStopped_glbKey (s : Dev) (l : Nat) (ok : Bool) :
    (s.cqStopped l ok).glbKey = s.glbKey := by
  unfold Dev.cqStopped
  (try simp (disch := (first | decide | (simp only [notGlb, GLB_CYCLE_CNT, GLB_MODE_STAT]; omega))) only [↓glbKey_mk, glbKey_fold, ↓ite_glbKey, ite_self, ↓nextGroup_glbKey]) <;> (repeat' split) <;> (try simp (disch := (first | decide | (simp only [notGlb, GLB_CYCLE_CNT, GLB_MODE_STAT]; omega))) only [↓glbKey_mk, glbKey_fold, ↓ite_glbKey, ite_self, ↓nextGroup_glbKey])
theorem writeTargets_glbKey (s : Dev) :
    (s.writeTargets).glbKey = s.glbKey := by
  unfold Dev.writeTargets
  simp (disch := first | first | decide | (simp only [notGlb, GLB_CYCLE_CNT, GLB_MODE_STAT]; omega) | (intros; (try simp (disch := (first | decide | (simp only [notGlb, GLB_CYCLE_CNT, GLB_MODE_STAT]; omega))) only [↓setGen_glbKey, ↓glbKey_mk, glbKey_fold]) <;> (try (split <;> simp (disch := (first | decide | (simp only [notGlb, GLB_CYCLE_CNT, GLB_MODE_STAT]; omega))) only [↓setGen_glbKey, ↓glbKey_mk, glbKey_fold])))) only [↓setGen_glbKey, ↓glbKey_mk, glbKey_fold, each_glbKey]
theorem showShort_glbKey (s : Dev) (f : List (Rat × Rat)) :
    (s.showShort f).glbKey = s.glbKey := by
  unfold Dev.showShort
  simp (disch := (first | decide | (simp only [notGlb, ALLOC_SHORT, GLB_CYCLE_CNT, GLB_MODE_STAT]; omega))) only [↓wrPbv_glbKey]
theorem applyAlloc_glbKey (s : Dev) :
    (s.applyAlloc).glbKey = s.glbKey := by
  unfold Dev.applyAlloc
  simp (disch := first | first | decide | (simp only [notGlb, ALLOC_THR_FX, ALLOC_THR_FY, GLB_CYCLE_CNT, GLB_MODE_STAT, thrWin]; omega) | (intros; (try simp (disch := (first | decide | (simp only [notGlb, ALLOC_THR_FX, ALLOC_THR_FY, GLB_CYCLE_CNT, GLB_MODE_STAT, thrWin]; omega))) only [↓wrPbv_glbKey, ↓glbKey_mk, glbKey_fold, ↓showShort_glbKey, ↓writeTargets_glbKey]) <;> (repeat' split) <;> (try simp (disch := (first | decide | (simp only [notGlb, ALLOC_THR_FX, ALLOC_THR_FY, GLB_CYCLE_CNT, GLB_MODE_STAT, thrWin]; omega))) only [↓wrPbv_glbKey, ↓glbKey_mk, glbKey_fold, ↓showShort_glbKey, ↓writeTargets_glbKey]))) only [↓wrPbv_glbKey, ↓glbKey_mk, glbKey_fold, ↓showShort_glbKey, ↓writeTargets_glbKey, each_glbKey]
theorem allocApply_glbKey (s : Dev) (i : TickIn) :
    (s.allocApply i).glbKey = s.glbKey := by
  unfold Dev.allocApply
  (try simp (disch := (first | decide | (simp only [notGlb, ALLOC_CFG, ALLOC_STAT, GLB_CYCLE_CNT, GLB_MODE_STAT]; omega))) only [↓setFld_glbKey, ↓ev_glbKey, ↓glbKey_mk, glbKey_fold, ↓ite_glbKey, ite_self, ↓allocMismatch_glbKey, ↓allocRequest_glbKey, ↓allocWithdraw_glbKey, ↓applyAlloc_glbKey, ↓setAllocState_glbKey, ↓showShort_glbKey, ↓writeTargets_glbKey]) <;> (repeat' split) <;> (try simp (disch := (first | decide | (simp only [notGlb, ALLOC_CFG, ALLOC_STAT, GLB_CYCLE_CNT, GLB_MODE_STAT]; omega))) only [↓setFld_glbKey, ↓ev_glbKey, ↓glbKey_mk, glbKey_fold, ↓ite_glbKey, ite_self, ↓allocMismatch_glbKey, ↓allocRequest_glbKey, ↓allocWithdraw_glbKey, ↓applyAlloc_glbKey, ↓setAllocState_glbKey, ↓showShort_glbKey, ↓writeTargets_glbKey])
theorem thrustGroupReport_glbKey (s : Dev) (g : Nat) :
    (s.thrustGroupReport g).glbKey = s.glbKey := by
  unfold Dev.thrustGroupReport
  (try simp (disch := (first | decide | (simp only [notGlb, ALLOC_GRP_CFG, ALLOC_GRP_S, ALLOC_GRP_STAT, ALLOC_SF_LIM, GLB_CYCLE_CNT, GLB_MODE_STAT]; omega))) only [↓wr_glbKey, ↓setFld_glbKey, ↓setBit_glbKey, ↓wrPbv_glbKey, ↓cntSat_glbKey, ↓ev_glbKey, ↓glbKey_mk, glbKey_fold, ↓ite_glbKey, ite_self]) <;> (repeat' split) <;> (try simp (disch := (first | decide | (simp only [notGlb, ALLOC_GRP_CFG, ALLOC_GRP_S, ALLOC_GRP_STAT, ALLOC_SF_LIM, GLB_CYCLE_CNT, GLB_MODE_STAT]; omega))) only [↓wr_glbKey, ↓setFld_glbKey, ↓setBit_glbKey, ↓wrPbv_glbKey, ↓cntSat_glbKey, ↓ev_glbKey, ↓glbKey_mk, glbKey_fold, ↓ite_glbKey, ite_self])
theorem refGroupReport_glbKey (s : Dev) (g : Nat) :
    (s.refGroupReport g).glbKey = s.glbKey := by
  unfold Dev.refGroupReport
  simp (disch := (first | decide | (simp only [notGlb, ALLOC_CFG, ALLOC_GRP_CFG, ALLOC_GRP_STAT, GLB_CYCLE_CNT, GLB_MODE_STAT]; omega))) only [↓setFld_glbKey, ↓setBit_glbKey]
theorem allocReport_glbKey (s : Dev) :
    (s.allocReport).glbKey = s.glbKey := by
  unfold Dev.allocReport
  simp (disch := first | first | decide | (simp only [notGlb, ALLOC_STAT, GLB_CYCLE_CNT, GLB_MODE_STAT]; omega) | (intros; (try simp (disch := (first | decide | (simp only [notGlb, ALLOC_STAT, GLB_CYCLE_CNT, GLB_MODE_STAT]; omega))) only [↓setFld_glbKey, ↓ev_glbKey, ↓glbKey_mk, glbKey_fold, ↓ite_glbKey, ite_self, ↓refGroupReport_glbKey, ↓thrustGroupReport_glbKey]) <;> (try (split <;> simp (disch := (first | decide | (simp only [notGlb, ALLOC_STAT, GLB_CYCLE_CNT, GLB_MODE_STAT]; omega))) only [↓setFld_glbKey, ↓ev_glbKey, ↓glbKey_mk, glbKey_fold, ↓ite_glbKey, ite_self, ↓refGroupReport_glbKey, ↓thrustGroupReport_glbKey])))) only [↓setFld_glbKey, ↓ev_glbKey, ↓glbKey_mk, glbKey_fold, ↓ite_glbKey, ite_self, ↓refGroupReport_glbKey, ↓thrustGroupReport_glbKey, each_glbKey]
theorem allocArming_glbKey (s : Dev) :
    (s.allocArming).glbKey = s.glbKey := by
  unfold Dev.allocArming
  simp (disch := first | first | decide | (simp only [notGlb, ALLOC_GRP_CFG, ALLOC_GRP_S, ALLOC_GRP_STAT, ALLOC_STAT, ALLOC_THR_STAT, GLB_CYCLE_CNT, GLB_MODE_STAT, thrWin]; omega) | (intros; simp (disch := first | first | decide | (simp only [notGlb, ALLOC_GRP_CFG, ALLOC_GRP_S, ALLOC_GRP_STAT, ALLOC_STAT, ALLOC_THR_STAT, GLB_CYCLE_CNT, GLB_MODE_STAT, thrWin]; omega) | (intros; (try simp (disch := (first | decide | (simp only [notGlb, ALLOC_GRP_CFG, ALLOC_GRP_S, ALLOC_GRP_STAT, ALLOC_STAT, ALLOC_THR_STAT, GLB_CYCLE_CNT, GLB_MODE_STAT, thrWin]; omega))) only [↓wr_glbKey, ↓setFld_glbKey, ↓setBit_glbKey, ↓ev_glbKey, ↓glbKey_mk, glbKey_fold, ↓ite_glbKey, ite_self, ↓setAllocState_glbKey]) <;> (try (split <;> simp (disch := (first | decide | (simp only [notGlb, ALLOC_GRP_CFG, ALLOC_GRP_S, ALLOC_GRP_STAT, ALLOC_STAT, ALLOC_THR_STAT, GLB_CYCLE_CNT, GLB_MODE_STAT, thrWin]; omega))) only [↓wr_glbKey, ↓setFld_glbKey, ↓setBit_glbKey, ↓ev_glbKey, ↓glbKey_mk, glbKey_fold, ↓ite_glbKey, ite_self, ↓setAllocState_glbKey])))) only [↓wr_glbKey, ↓setFld_glbKey, ↓setBit_glbKey, ↓ev_glbKey, ↓glbKey_mk, glbKey_fold, ↓ite_glbKey, ite_self, ↓setAllocState_glbKey, each_glbKey])) only [↓wr_glbKey, ↓setFld_glbKey, ↓setBit_glbKey, ↓ev_glbKey, ↓glbKey_mk, glbKey_fold, ↓ite_glbKey, ite_self, ↓setAllocState_glbKey, each_glbKey]
theorem allocOperate_glbKey (s : Dev) :
    (s.allocOperate).glbKey = s.glbKey := by
  unfold Dev.allocOperate
  simp (disch := (first | decide | (simp only [notGlb, GLB_CYCLE_CNT, GLB_MODE_STAT]; omega))) only [↓glbKey_mk, glbKey_fold, ↓ite_glbKey, ite_self, ↓setAllocState_glbKey]
theorem allocWatch_glbKey (s : Dev) :
    (s.allocWatch).glbKey = s.glbKey := by
  unfold Dev.allocWatch
  simp (disch := (first | decide | (simp only [notGlb, GLB_CYCLE_CNT, GLB_MODE_STAT]; omega))) only [↓allocWithdraw_glbKey, ↓setAllocState_glbKey]
theorem groupFresh_glbKey (s : Dev) (g : Nat) :
    (s.groupFresh g).glbKey = s.glbKey := by
  unfold Dev.groupFresh
  simp (disch := (first | decide | (simp only [notGlb, ALLOC_GRP_CFG, ALLOC_GRP_S, ALLOC_GRP_STAT, GLB_CYCLE_CNT, GLB_MODE_STAT]; omega))) only [↓wr_glbKey, ↓setFld_glbKey, ↓glbKey_mk, glbKey_fold]
theorem allocCommit_glbKey (s old : Dev) :
    (s.allocCommit old).glbKey = s.glbKey := by
  unfold Dev.allocCommit
  simp (disch := first | first | decide | (simp only [notGlb, ALLOC_GRP_CFG, ALLOC_GRP_STAT, ALLOC_STAT, ALLOC_THR_ANG, ALLOC_THR_AVAIL, ALLOC_THR_FX, ALLOC_THR_FY, ALLOC_THR_STAT, ALLOC_ZONE_IN, GLB_CYCLE_CNT, GLB_MODE_STAT, thrWin]; omega) | (intros; simp (disch := first | first | decide | (simp only [notGlb, ALLOC_GRP_CFG, ALLOC_GRP_STAT, ALLOC_STAT, ALLOC_THR_ANG, ALLOC_THR_AVAIL, ALLOC_THR_FX, ALLOC_THR_FY, ALLOC_THR_STAT, ALLOC_ZONE_IN, GLB_CYCLE_CNT, GLB_MODE_STAT, thrWin]; omega) | (intros; (try simp (disch := (first | decide | (simp only [notGlb, ALLOC_GRP_CFG, ALLOC_GRP_STAT, ALLOC_STAT, ALLOC_THR_ANG, ALLOC_THR_AVAIL, ALLOC_THR_FX, ALLOC_THR_FY, ALLOC_THR_STAT, ALLOC_ZONE_IN, GLB_CYCLE_CNT, GLB_MODE_STAT, thrWin]; omega))) only [↓wr_glbKey, ↓setFld_glbKey, ↓setBit_glbKey, ↓glbKey_mk, glbKey_fold, ↓ite_glbKey, ite_self, ↓groupFresh_glbKey]) <;> (try (split <;> simp (disch := (first | decide | (simp only [notGlb, ALLOC_GRP_CFG, ALLOC_GRP_STAT, ALLOC_STAT, ALLOC_THR_ANG, ALLOC_THR_AVAIL, ALLOC_THR_FX, ALLOC_THR_FY, ALLOC_THR_STAT, ALLOC_ZONE_IN, GLB_CYCLE_CNT, GLB_MODE_STAT, thrWin]; omega))) only [↓wr_glbKey, ↓setFld_glbKey, ↓setBit_glbKey, ↓glbKey_mk, glbKey_fold, ↓ite_glbKey, ite_self, ↓groupFresh_glbKey])))) only [↓wr_glbKey, ↓setFld_glbKey, ↓setBit_glbKey, ↓glbKey_mk, glbKey_fold, ↓ite_glbKey, ite_self, ↓groupFresh_glbKey, each_glbKey])) only [↓wr_glbKey, ↓setFld_glbKey, ↓setBit_glbKey, ↓glbKey_mk, glbKey_fold, ↓ite_glbKey, ite_self, ↓groupFresh_glbKey, each_glbKey]
theorem selectBoundary_glbKey (s : Dev) :
    (s.selectBoundary).glbKey = s.glbKey := by
  unfold Dev.selectBoundary
  (try simp (disch := (first | decide | (simp only [notGlb, GLB_CYCLE_CNT, GLB_MODE_STAT]; omega))) only [↓ev_glbKey, ↓glbKey_mk, glbKey_fold, ↓ite_glbKey, ite_self]) <;> (repeat' split) <;> (try simp (disch := (first | decide | (simp only [notGlb, GLB_CYCLE_CNT, GLB_MODE_STAT]; omega))) only [↓ev_glbKey, ↓glbKey_mk, glbKey_fold, ↓ite_glbKey, ite_self])
theorem setTstate_glbKey (s : Dev) (n : Nat) :
    (s.setTstate n).glbKey = s.glbKey := by
  unfold Dev.setTstate
  simp (disch := (first | decide | (simp only [notGlb, GLB_CYCLE_CNT, GLB_MODE_STAT, GNSS_STAT]; omega))) only [↓setFld_glbKey, ↓raise_glbKey, ↓ite_glbKey, ite_self]
theorem showClock_glbKey (s : Dev) :
    (s.showClock).glbKey = s.glbKey := by
  unfold Dev.showClock
  simp (disch := (first | decide | (simp only [notGlb, GLB_CYCLE_CNT, GLB_MODE_STAT, GNSS_FREQ_CORR, GNSS_PHASE_REM]; omega))) only [↓wr_glbKey]
theorem slewEnd_glbKey (s : Dev) :
    (s.slewEnd).glbKey = s.glbKey := by
  unfold Dev.slewEnd
  simp (disch := (first | decide | (simp only [notGlb, GLB_CYCLE_CNT, GLB_MODE_STAT, GNSS_STAT]; omega))) only [↓setBit_glbKey, ↓ev_glbKey, ↓glbKey_mk, glbKey_fold]
theorem advance_glbKey (s : Dev) (dt : Rat) :
    (s.advance dt).glbKey = s.glbKey := by
  unfold Dev.advance
  simp (disch := (first | decide | (simp only [notGlb, GLB_CYCLE_CNT, GLB_MODE_STAT]; omega))) only [↓glbKey_mk, glbKey_fold, ↓ite_glbKey, ite_self, ↓showClock_glbKey, ↓slewEnd_glbKey]
theorem shiftLocal_glbKey (s : Dev) (d : Rat) :
    (s.shiftLocal d).glbKey = s.glbKey := by
  unfold Dev.shiftLocal
  simp (disch := (first | decide | (simp only [notGlb, GLB_CYCLE_CNT, GLB_MODE_STAT]; omega))) only [↓glbKey_mk, glbKey_fold]
theorem returnRule_glbKey (s : Dev) (err : Int) (code : Nat) :
    (s.returnRule err code).glbKey = s.glbKey := by
  unfold Dev.returnRule
  simp (disch := (first | decide | (simp only [notGlb, GLB_CYCLE_CNT, GLB_MODE_STAT, GNSS_STAT]; omega))) only [↓setBit_glbKey, ↓glbKey_mk, glbKey_fold, ↓ite_glbKey, ite_self, ↓showClock_glbKey]
theorem changeSource_glbKey (s : Dev) (src : Nat) (ofs : Int) :
    (s.changeSource src ofs).glbKey = s.glbKey := by
  unfold Dev.changeSource
  simp (disch := (first | decide | (simp only [notGlb, GLB_CYCLE_CNT, GLB_MODE_STAT, NET_TIME_STAT]; omega))) only [↓setFld_glbKey, ↓raise_glbKey, ↓evI_glbKey, ↓returnRule_glbKey]
theorem firstSet_glbKey (s : Dev) (src : Nat) :
    (s.firstSet src).glbKey = s.glbKey := by
  unfold Dev.firstSet
  simp (disch := (first | decide | (simp only [notGlb, GLB_CYCLE_CNT, GLB_MODE_STAT, NET_TIME_STAT, PIN_CFGD]; omega))) only [↓setFld_glbKey, ↓setBit_glbKey, ↓raise_glbKey, ↓ev_glbKey, ↓glbKey_mk, glbKey_fold]
theorem showTime_glbKey (s : Dev) :
    (s.showTime).glbKey = s.glbKey := by
  unfold Dev.showTime
  simp (disch := (first | decide | (simp only [notGlb, GLB_CYCLE_CNT, GLB_MODE_STAT, NET_TIME_STAT]; omega))) only [↓setFld_glbKey, ↓setBit_glbKey]
theorem discipline_glbKey (s : Dev) (x dt : Rat) (tau : Nat) :
    (s.discipline x dt tau).glbKey = s.glbKey := by
  unfold Dev.discipline
  simp (disch := (first | decide | (simp only [notGlb, GLB_CYCLE_CNT, GLB_MODE_STAT, GNSS_TUNE]; omega))) only [↓wrN_glbKey, ↓spend_glbKey, ↓glbKey_mk, glbKey_fold, ↓ite_glbKey, ite_self, ↓showClock_glbKey]
theorem useFix_glbKey (s : Dev) (f : FixSol) :
    (s.useFix f).glbKey = s.glbKey := by
  unfold Dev.useFix
  simp (disch := (first | decide | (simp only [notGlb, GLB_CYCLE_CNT, GLB_MODE_STAT, GNSS_STAT, GNSS_TERR]; omega))) only [↓wrN_glbKey, ↓setBit_glbKey, ↓evI_glbKey, ↓glbKey_mk, glbKey_fold, ↓ite_glbKey, ite_self, ↓changeSource_glbKey, ↓discipline_glbKey]
theorem qualify_glbKey (s : Dev) (f : FixSol) :
    (s.qualify f).glbKey = s.glbKey := by
  unfold Dev.qualify
  simp (disch := (first | decide | (simp only [notGlb, GLB_CYCLE_CNT, GLB_MODE_STAT, GNSS_HOLD_S, GNSS_TERR]; omega))) only [↓wrN_glbKey, ↓evI_glbKey, ↓glbKey_mk, glbKey_fold, ↓ite_glbKey, ite_self, ↓returnRule_glbKey, ↓setTstate_glbKey]
theorem fixStep_glbKey (s : Dev) (fix : Option FixIn) :
    (s.fixStep fix).glbKey = s.glbKey := by
  unfold Dev.fixStep
  (try simp (disch := (first | decide | (simp only [notGlb, GLB_CYCLE_CNT, GLB_MODE_STAT, GNSS_STAT]; omega))) only [↓setFld_glbKey, ↓setBit_glbKey, ↓glbKey_mk, glbKey_fold, ↓ite_glbKey, ite_self, ↓autoOrigin_glbKey, ↓qualify_glbKey, ↓setTstate_glbKey, ↓useFix_glbKey]) <;> (repeat' split) <;> (try simp (disch := (first | decide | (simp only [notGlb, GLB_CYCLE_CNT, GLB_MODE_STAT, GNSS_STAT]; omega))) only [↓setFld_glbKey, ↓setBit_glbKey, ↓glbKey_mk, glbKey_fold, ↓ite_glbKey, ite_self, ↓autoOrigin_glbKey, ↓qualify_glbKey, ↓setTstate_glbKey, ↓useFix_glbKey])
theorem countTrack_glbKey (s : Dev) :
    (s.countTrack).glbKey = s.glbKey := by
  unfold Dev.countTrack
  simp (disch := (first | decide | (simp only [notGlb, GLB_CYCLE_CNT, GLB_MODE_STAT, GNSS_STAT]; omega))) only [↓setFld_glbKey]
theorem latchSpacing_glbKey (s : Dev) :
    (s.latchSpacing).glbKey = s.glbKey := by
  unfold Dev.latchSpacing
  simp (disch := (first | decide | (simp only [notGlb, GLB_CYCLE_CNT, GLB_MODE_STAT, GNSS_SPC0, GNSS_SPC1]; omega))) only [↓glbKey_mk, glbKey_fold, ↓ite_glbKey, ite_self]
theorem release_glbKey (s : Dev) (p : GChan → Bool) :
    (s.release p).glbKey = s.glbKey := by
  unfold Dev.release
  simp (disch := (first | decide | (simp only [notGlb, GLB_CYCLE_CNT, GLB_MODE_STAT]; omega))) only [↓glbKey_mk, glbKey_fold, ↓ite_glbKey, ite_self]
theorem latchSettings_glbKey (s : Dev) :
    (s.latchSettings).glbKey = s.glbKey := by
  unfold Dev.latchSettings
  simp (disch := (first | decide | (simp only [notGlb, GLB_CYCLE_CNT, GLB_MODE_STAT, GNSS_CFG, GNSS_DISC_CFG, GNSS_HOLD_AGING, GNSS_HOLD_FUNC, GNSS_HOLD_WARN, GNSS_TIME_UDP]; omega))) only [↓glbKey_mk, glbKey_fold, ↓latchSpacing_glbKey, ↓release_glbKey]
theorem moveSat_glbKey (s : Dev) (x : SkySat) :
    (s.moveSat x).glbKey = s.glbKey := by
  unfold Dev.moveSat
  simp (disch := (first | decide | (simp only [notGlb, GLB_CYCLE_CNT, GLB_MODE_STAT]; omega))) only [↓glbKey_mk, glbKey_fold, ↓ite_glbKey, ite_self, ↓release_glbKey]
theorem latchChan_glbKey (s : Dev) (m : ChanMeas) :
    (s.latchChan m).glbKey = s.glbKey := by
  unfold Dev.latchChan
  simp (disch := (first | decide | (simp only [notGlb, GLB_CYCLE_CNT, GLB_MODE_STAT]; omega))) only [↓glbKey_mk, glbKey_fold, ↓ite_glbKey, ite_self]
theorem keepRecord_glbKey (s : Dev) (mid : Bool) :
    (s.keepRecord mid).glbKey = s.glbKey := by
  unfold Dev.keepRecord
  simp (disch := (first | decide | (simp only [notGlb, GLB_CYCLE_CNT, GLB_MODE_STAT]; omega))) only [↓glbKey_mk, glbKey_fold]
theorem satSample_glbKey (s : Dev) :
    (s.satSample).glbKey = s.glbKey := by
  unfold Dev.satSample
  (try simp (disch := (first | decide | (simp only [notGlb, EST_ORIGIN_LAT, EST_ORIGIN_LON, GLB_CYCLE_CNT, GLB_MODE_STAT]; omega))) only [↓glbKey_mk, glbKey_fold, ↓setRef_glbKey]) <;> (repeat' split) <;> (try simp (disch := (first | decide | (simp only [notGlb, EST_ORIGIN_LAT, EST_ORIGIN_LON, GLB_CYCLE_CNT, GLB_MODE_STAT]; omega))) only [↓glbKey_mk, glbKey_fold, ↓setRef_glbKey])
theorem holdBound_glbKey (s : Dev) :
    (s.holdBound).glbKey = s.glbKey := by
  unfold Dev.holdBound
  simp (disch := (first | decide | (simp only [notGlb, GLB_CYCLE_CNT, GLB_MODE_STAT, GNSS_HOLD_S, GNSS_TERR]; omega))) only [↓wrN_glbKey, ↓glbKey_mk, glbKey_fold, ↓ite_glbKey, ite_self]
theorem keepCarrier_glbKey (s : Dev) :
    (s.keepCarrier).glbKey = s.glbKey := by
  unfold Dev.keepCarrier
  simp (disch := (first | decide | (simp only [notGlb, GLB_CYCLE_CNT, GLB_MODE_STAT]; omega))) only [↓glbKey_mk, glbKey_fold, ↓ite_glbKey, ite_self]
theorem epoch_glbKey (s : Dev) (i : BoundaryIn) :
    (s.epoch i).glbKey = s.glbKey := by
  unfold Dev.epoch
  simp (disch := first | first | decide | (simp only [notGlb, GLB_CYCLE_CNT, GLB_MODE_STAT, GNSS_CFG, GNSS_FE_AGC]; omega) | (intros; simp (disch := first | first | decide | (simp only [notGlb, GLB_CYCLE_CNT, GLB_MODE_STAT, GNSS_CFG, GNSS_FE_AGC]; omega) | (intros; (try simp (disch := (first | decide | (simp only [notGlb, GLB_CYCLE_CNT, GLB_MODE_STAT, GNSS_CFG, GNSS_FE_AGC]; omega))) only [↓setFld_glbKey, ↓glbKey_mk, glbKey_fold, ↓ite_glbKey, ite_self, ↓countTrack_glbKey, ↓fixStep_glbKey, ↓keepCarrier_glbKey, ↓keepRecord_glbKey, ↓latchChan_glbKey, ↓latchSettings_glbKey, ↓moveSat_glbKey, ↓satSample_glbKey, ↓slips_glbKey]) <;> (try (split <;> simp (disch := (first | decide | (simp only [notGlb, GLB_CYCLE_CNT, GLB_MODE_STAT, GNSS_CFG, GNSS_FE_AGC]; omega))) only [↓setFld_glbKey, ↓glbKey_mk, glbKey_fold, ↓ite_glbKey, ite_self, ↓countTrack_glbKey, ↓fixStep_glbKey, ↓keepCarrier_glbKey, ↓keepRecord_glbKey, ↓latchChan_glbKey, ↓latchSettings_glbKey, ↓moveSat_glbKey, ↓satSample_glbKey, ↓slips_glbKey])))) only [↓setFld_glbKey, ↓glbKey_mk, glbKey_fold, ↓ite_glbKey, ite_self, ↓countTrack_glbKey, ↓fixStep_glbKey, ↓keepCarrier_glbKey, ↓keepRecord_glbKey, ↓latchChan_glbKey, ↓latchSettings_glbKey, ↓moveSat_glbKey, ↓satSample_glbKey, ↓slips_glbKey, each_glbKey])) only [↓setFld_glbKey, ↓glbKey_mk, glbKey_fold, ↓ite_glbKey, ite_self, ↓countTrack_glbKey, ↓fixStep_glbKey, ↓keepCarrier_glbKey, ↓keepRecord_glbKey, ↓latchChan_glbKey, ↓latchSettings_glbKey, ↓moveSat_glbKey, ↓satSample_glbKey, ↓slips_glbKey, each_glbKey]
theorem midLatch_glbKey (s : Dev) (i : TickIn) :
    (s.midLatch i).glbKey = s.glbKey := by
  unfold Dev.midLatch
  simp (disch := first | first | decide | (simp only [notGlb, GLB_CYCLE_CNT, GLB_MODE_STAT]; omega) | (intros; (try simp (disch := (first | decide | (simp only [notGlb, GLB_CYCLE_CNT, GLB_MODE_STAT]; omega))) only [↓glbKey_mk, glbKey_fold, ↓ite_glbKey, ite_self, ↓countTrack_glbKey, ↓keepRecord_glbKey, ↓latchChan_glbKey, ↓latchSettings_glbKey]) <;> (try (split <;> simp (disch := (first | decide | (simp only [notGlb, GLB_CYCLE_CNT, GLB_MODE_STAT]; omega))) only [↓glbKey_mk, glbKey_fold, ↓ite_glbKey, ite_self, ↓countTrack_glbKey, ↓keepRecord_glbKey, ↓latchChan_glbKey, ↓latchSettings_glbKey])))) only [↓glbKey_mk, glbKey_fold, ↓ite_glbKey, ite_self, ↓countTrack_glbKey, ↓keepRecord_glbKey, ↓latchChan_glbKey, ↓latchSettings_glbKey, each_glbKey]
theorem acquired_glbKey (s : Dev) (k sig svid : Nat) (antS : Bool) (cn0 : BitVec 16) :
    (s.acquired k sig svid antS cn0).glbKey = s.glbKey := by
  unfold Dev.acquired
  simp (disch := (first | decide | (simp only [notGlb, GLB_CYCLE_CNT, GLB_MODE_STAT]; omega))) only [↓glbKey_mk, glbKey_fold, ↓ite_glbKey, ite_self, ↓countTrack_glbKey]
theorem dropped_glbKey (s : Dev) (k : Nat) (cn0 : BitVec 16) (spanMs : Nat) :
    (s.dropped k cn0 spanMs).glbKey = s.glbKey := by
  unfold Dev.dropped
  simp (disch := (first | decide | (simp only [notGlb, GLB_CYCLE_CNT, GLB_MODE_STAT]; omega))) only [↓glbKey_mk, glbKey_fold, ↓ite_glbKey, ite_self, ↓countTrack_glbKey]
theorem timeSet_glbKey (s : Dev) :
    (s.timeSet).glbKey = s.glbKey := by
  unfold Dev.timeSet
  (try simp (disch := (first | decide | (simp only [notGlb, GLB_CYCLE_CNT, GLB_MODE_STAT, GNSS_TERR]; omega))) only [↓wrN_glbKey, ↓ev_glbKey, ↓glbKey_mk, glbKey_fold, ↓ite_glbKey, ite_self, ↓changeSource_glbKey, ↓firstSet_glbKey, ↓setTstate_glbKey, ↓shiftLocal_glbKey, ↓showClock_glbKey]) <;> (repeat' split) <;> (try simp (disch := (first | decide | (simp only [notGlb, GLB_CYCLE_CNT, GLB_MODE_STAT, GNSS_TERR]; omega))) only [↓wrN_glbKey, ↓ev_glbKey, ↓glbKey_mk, glbKey_fold, ↓ite_glbKey, ite_self, ↓changeSource_glbKey, ↓firstSet_glbKey, ↓setTstate_glbKey, ↓shiftLocal_glbKey, ↓showClock_glbKey])
theorem holdover_glbKey (s : Dev) :
    (s.holdover).glbKey = s.glbKey := by
  unfold Dev.holdover
  simp (disch := (first | decide | (simp only [notGlb, GLB_CYCLE_CNT, GLB_MODE_STAT]; omega))) only [↓ev_glbKey, ↓glbKey_mk, glbKey_fold, ↓ite_glbKey, ite_self, ↓setTstate_glbKey]
theorem slewDone_glbKey (s : Dev) :
    (s.slewDone).glbKey = s.glbKey := by
  unfold Dev.slewDone
  simp (disch := (first | decide | (simp only [notGlb, GLB_CYCLE_CNT, GLB_MODE_STAT, GNSS_STAT]; omega))) only [↓glbKey_mk, glbKey_fold, ↓ite_glbKey, ite_self, ↓showClock_glbKey, ↓slewEnd_glbKey]
theorem holdWarn_glbKey (s : Dev) :
    (s.holdWarn).glbKey = s.glbKey := by
  unfold Dev.holdWarn
  simp (disch := (first | decide | (simp only [notGlb, GLB_CYCLE_CNT, GLB_MODE_STAT, GNSS_TERR]; omega))) only [↓ev_glbKey, ↓glbKey_mk, glbKey_fold, ↓ite_glbKey, ite_self]
theorem feFault_glbKey (s : Dev) (k gain : Nat) (atMax : Bool) :
    (s.feFault k gain atMax).glbKey = s.glbKey := by
  unfold Dev.feFault
  simp (disch := (first | decide | (simp only [notGlb, GLB_CYCLE_CNT, GLB_MODE_STAT, GNSS_FE_AGC, GNSS_STAT]; omega))) only [↓wrN_glbKey, ↓setBit_glbKey, ↓ev_glbKey, ↓ite_glbKey, ite_self]
theorem feClear_glbKey (s : Dev) (k gain : Nat) :
    (s.feClear k gain).glbKey = s.glbKey := by
  unfold Dev.feClear
  simp (disch := (first | decide | (simp only [notGlb, GLB_CYCLE_CNT, GLB_MODE_STAT, GNSS_FE_AGC, GNSS_STAT]; omega))) only [↓wrN_glbKey, ↓setBit_glbKey, ↓ev_glbKey, ↓ite_glbKey, ite_self]
theorem ppsOver_glbKey (s : Dev) :
    (s.ppsOver).glbKey = s.glbKey := by
  unfold Dev.ppsOver
  (try simp (disch := (first | decide | (simp only [notGlb, GLB_CYCLE_CNT, GLB_MODE_STAT, GNSS_STAT]; omega))) only [↓setBit_glbKey, ↓glbKey_mk, glbKey_fold]) <;> (repeat' split) <;> (try simp (disch := (first | decide | (simp only [notGlb, GLB_CYCLE_CNT, GLB_MODE_STAT, GNSS_STAT]; omega))) only [↓setBit_glbKey, ↓glbKey_mk, glbKey_fold])
theorem ppsEdge_glbKey (s : Dev) :
    (s.ppsEdge).glbKey = s.glbKey := by
  unfold Dev.ppsEdge
  simp (disch := (first | decide | (simp only [notGlb, GLB_CYCLE_CNT, GLB_MODE_STAT, GNSS_STAT]; omega))) only [↓setBit_glbKey, ↓glbKey_mk, glbKey_fold, ↓ite_glbKey, ite_self, ↓ppsOver_glbKey]
theorem ppsEnd_glbKey (s : Dev) :
    (s.ppsEnd).glbKey = s.glbKey := by
  unfold Dev.ppsEnd
  (try simp (disch := (first | decide | (simp only [notGlb, GLB_CYCLE_CNT, GLB_MODE_STAT]; omega))) only [↓ite_glbKey, ite_self, ↓ppsOver_glbKey]) <;> (repeat' split) <;> (try simp (disch := (first | decide | (simp only [notGlb, GLB_CYCLE_CNT, GLB_MODE_STAT]; omega))) only [↓ite_glbKey, ite_self, ↓ppsOver_glbKey])
theorem ppsWrite_glbKey (s : Dev) (cfg dly : Word) (first : Bool) :
    (s.ppsWrite cfg dly first).glbKey = s.glbKey := by
  unfold Dev.ppsWrite
  simp (disch := (first | decide | (simp only [notGlb, GLB_CYCLE_CNT, GLB_MODE_STAT, GNSS_STAT, PIN_CFGD]; omega))) only [↓setBit_glbKey, ↓glbKey_mk, glbKey_fold, ↓ite_glbKey, ite_self]
theorem sentences_glbKey (s : Dev) (u : Nat) (texts : List (List Byte)) :
    (s.sentences u texts).1.glbKey = s.glbKey := by
  unfold Dev.sentences
  (try simp (disch := (first | decide | (simp only [notGlb, GLB_CYCLE_CNT, GLB_MODE_STAT, GNSS_SENT_CFG, GNSS_SENT_DROP]; omega))) only [↓cntSat_glbKey, ↓glbKey_mk, glbKey_fold, ↓ite_glbKey, ite_self]) <;> (repeat' split) <;> (try simp (disch := (first | decide | (simp only [notGlb, GLB_CYCLE_CNT, GLB_MODE_STAT, GNSS_SENT_CFG, GNSS_SENT_DROP]; omega))) only [↓cntSat_glbKey, ↓glbKey_mk, glbKey_fold, ↓ite_glbKey, ite_self])
theorem leap_glbKey (s : Dev) :
    (s.leap).glbKey = s.glbKey := by
  unfold Dev.leap
  simp (disch := (first | decide | (simp only [notGlb, GLB_CYCLE_CNT, GLB_MODE_STAT, GNSS_STAT]; omega))) only [↓setBit_glbKey, ↓ev_glbKey, ↓glbKey_mk, glbKey_fold, ↓ite_glbKey, ite_self]
theorem navData_glbKey (s : Dev) (ofs : Nat) (leapAt : Option Nat) :
    (s.navData ofs leapAt).glbKey = s.glbKey := by
  unfold Dev.navData
  simp (disch := (first | decide | (simp only [notGlb, GLB_CYCLE_CNT, GLB_MODE_STAT, GNSS_STAT]; omega))) only [↓setBit_glbKey, ↓glbKey_mk, glbKey_fold]
theorem carrierLost_glbKey (s : Dev) (k : Nat) :
    (s.carrierLost k).glbKey = s.glbKey := by
  unfold Dev.carrierLost
  simp (disch := (first | decide | (simp only [notGlb, GLB_CYCLE_CNT, GLB_MODE_STAT]; omega))) only [↓glbKey_mk, glbKey_fold, ↓ite_glbKey, ite_self]
theorem carrierGained_glbKey (s : Dev) (k : Nat) :
    (s.carrierGained k).glbKey = s.glbKey := by
  unfold Dev.carrierGained
  simp (disch := (first | decide | (simp only [notGlb, GLB_CYCLE_CNT, GLB_MODE_STAT]; omega))) only [↓glbKey_mk, glbKey_fold, ↓ite_glbKey, ite_self]
theorem countChains_glbKey (s : Dev) :
    (s.countChains).glbKey = s.glbKey := by
  unfold Dev.countChains
  simp (disch := (first | decide | (simp only [notGlb, ACQ_STAT, GLB_CYCLE_CNT, GLB_MODE_STAT]; omega))) only [↓setFld_glbKey]
theorem chainStep_glbKey (s : Dev) (n : Nat) :
    (s.chainStep n).glbKey = s.glbKey := by
  unfold Dev.chainStep
  simp (disch := (first | decide | (simp only [notGlb, ACQ_CH_SEQ, ACQ_CH_STAT, GLB_CYCLE_CNT, GLB_MODE_STAT, chWin]; omega))) only [↓wrN_glbKey, ↓setFld_glbKey, ↓setBit_glbKey, ↓setChain_glbKey, ↓glbKey_mk, glbKey_fold]
theorem showStuck_glbKey (s : Dev) (n : Nat) :
    (s.showStuck n).glbKey = s.glbKey := by
  unfold Dev.showStuck
  simp (disch := (first | decide | (simp only [notGlb, ACQ_CH_STAT, GLB_CYCLE_CNT, GLB_MODE_STAT, chWin]; omega))) only [↓setBit_glbKey]
theorem coefCopy_glbKey (s : Dev) (n : Nat) :
    (s.coefCopy n).glbKey = s.glbKey := by
  unfold Dev.coefCopy
  simp (disch := first | first | decide | (simp only [notGlb, ACQ_FIR_LIVE, ACQ_FIR_SHADOW, GLB_CYCLE_CNT, GLB_MODE_STAT]; omega) | (intros; (try simp (disch := (first | decide | (simp only [notGlb, ACQ_FIR_LIVE, ACQ_FIR_SHADOW, GLB_CYCLE_CNT, GLB_MODE_STAT]; omega))) only [↓wr_glbKey, ↓glbKey_mk, glbKey_fold]) <;> (try (split <;> simp (disch := (first | decide | (simp only [notGlb, ACQ_FIR_LIVE, ACQ_FIR_SHADOW, GLB_CYCLE_CNT, GLB_MODE_STAT]; omega))) only [↓wr_glbKey, ↓glbKey_mk, glbKey_fold])))) only [↓wr_glbKey, ↓glbKey_mk, glbKey_fold, each_glbKey]
theorem chainBoundary_glbKey (s : Dev) (n : Nat) :
    (s.chainBoundary n).glbKey = s.glbKey := by
  unfold Dev.chainBoundary
  simp (disch := (first | decide | (simp only [notGlb, ACQ_CH_STAT, GLB_CYCLE_CNT, GLB_MODE_STAT, chWin]; omega))) only [↓setFld_glbKey, ↓clrMask_glbKey, ↓setChain_glbKey, ↓glbKey_mk, glbKey_fold, ↓ite_glbKey, ite_self, ↓chainStep_glbKey, ↓coefCopy_glbKey, ↓countChains_glbKey, ↓showStuck_glbKey]
theorem chainStart_glbKey (s : Dev) (n : Nat) :
    (s.chainStart n).glbKey = s.glbKey := by
  unfold Dev.chainStart
  simp (disch := (first | decide | (simp only [notGlb, ACQ_CH_STAT, GLB_CYCLE_CNT, GLB_MODE_STAT, chWin]; omega))) only [↓setBit_glbKey, ↓setChain_glbKey, ↓glbKey_mk, glbKey_fold, ↓chainStep_glbKey, ↓countChains_glbKey, ↓showStuck_glbKey]
theorem deliver_glbKey (s : Dev) (n : Nat) (y : Int) (stamp : Word) :
    (s.deliver n y stamp).glbKey = s.glbKey := by
  unfold Dev.deliver
  simp (disch := (first | decide | (simp only [notGlb, ACQ_CH_SEQ, ACQ_CH_STAMP, ACQ_CH_STAT, ACQ_CH_SUPP, ACQ_CH_VAL, ACQ_STAT, GLB_CYCLE_CNT, GLB_MODE_STAT, chWin]; omega))) only [↓wr_glbKey, ↓setFld_glbKey, ↓setBit_glbKey, ↓cntSat_glbKey, ↓cntWrap_glbKey, ↓ev_glbKey, ↓setChain_glbKey, ↓glbKey_mk, glbKey_fold, ↓ite_glbKey, ite_self]
theorem chainRecord_glbKey (s : Dev) (n : Nat) (bits : List Bool) (stamp : Word) (coefBad : Option Nat) :
    (s.chainRecord n bits stamp coefBad).glbKey = s.glbKey := by
  unfold Dev.chainRecord
  (try simp (disch := (first | decide | (simp only [notGlb, ACQ_CH_STAT, GLB_CYCLE_CNT, GLB_MODE_STAT, chWin]; omega))) only [↓setBit_glbKey, ↓ev_glbKey, ↓setChain_glbKey, ↓glbKey_mk, glbKey_fold, ↓ite_glbKey, ite_self, ↓chainBoundary_glbKey, ↓countChains_glbKey, ↓deliver_glbKey]) <;> (repeat' split) <;> (try simp (disch := (first | decide | (simp only [notGlb, ACQ_CH_STAT, GLB_CYCLE_CNT, GLB_MODE_STAT, chWin]; omega))) only [↓setBit_glbKey, ↓ev_glbKey, ↓setChain_glbKey, ↓glbKey_mk, glbKey_fold, ↓ite_glbKey, ite_self, ↓chainBoundary_glbKey, ↓countChains_glbKey, ↓deliver_glbKey])
theorem sarFrame_glbKey (s : Dev) :
    (s.sarFrame).glbKey = s.glbKey := by
  unfold Dev.sarFrame
  simp (disch := first | first | decide | (simp only [notGlb, ACQ_SAR_RANGE, GLB_CYCLE_CNT, GLB_MODE_STAT]; omega) | (intros; (try simp (disch := (first | decide | (simp only [notGlb, ACQ_SAR_RANGE, GLB_CYCLE_CNT, GLB_MODE_STAT]; omega))) only [↓glbKey_mk, glbKey_fold, ↓ite_glbKey, ite_self, ↓chainStep_glbKey]) <;> (try (split <;> simp (disch := (first | decide | (simp only [notGlb, ACQ_SAR_RANGE, GLB_CYCLE_CNT, GLB_MODE_STAT]; omega))) only [↓glbKey_mk, glbKey_fold, ↓ite_glbKey, ite_self, ↓chainStep_glbKey])))) only [↓glbKey_mk, glbKey_fold, ↓ite_glbKey, ite_self, ↓chainStep_glbKey, each_glbKey]
theorem sarConversion_glbKey (s : Dev) (slot : Nat) (code : BitVec 16) :
    (s.sarConversion slot code).glbKey = s.glbKey := by
  unfold Dev.sarConversion
  (try simp (disch := first | first | decide | (simp only [notGlb, ACQ_CAL, ACQ_STAT, GLB_CYCLE_CNT, GLB_MODE_STAT]; omega) | (intros; (try simp (disch := (first | decide | (simp only [notGlb, ACQ_CAL, ACQ_STAT, GLB_CYCLE_CNT, GLB_MODE_STAT]; omega))) only [↓setChain_glbKey, ↓glbKey_mk, glbKey_fold, ↓ite_glbKey, ite_self, ↓sarFrame_glbKey]) <;> (repeat' split) <;> (try simp (disch := (first | decide | (simp only [notGlb, ACQ_CAL, ACQ_STAT, GLB_CYCLE_CNT, GLB_MODE_STAT]; omega))) only [↓setChain_glbKey, ↓glbKey_mk, glbKey_fold, ↓ite_glbKey, ite_self, ↓sarFrame_glbKey]))) only [↓setChain_glbKey, ↓glbKey_mk, glbKey_fold, ↓ite_glbKey, ite_self, ↓sarFrame_glbKey, each_glbKey]) <;> (repeat' split) <;> (try simp (disch := first | first | decide | (simp only [notGlb, ACQ_CAL, ACQ_STAT, GLB_CYCLE_CNT, GLB_MODE_STAT]; omega) | (intros; (try simp (disch := (first | decide | (simp only [notGlb, ACQ_CAL, ACQ_STAT, GLB_CYCLE_CNT, GLB_MODE_STAT]; omega))) only [↓setChain_glbKey, ↓glbKey_mk, glbKey_fold, ↓ite_glbKey, ite_self, ↓sarFrame_glbKey]) <;> (repeat' split) <;> (try simp (disch := (first | decide | (simp only [notGlb, ACQ_CAL, ACQ_STAT, GLB_CYCLE_CNT, GLB_MODE_STAT]; omega))) only [↓setChain_glbKey, ↓glbKey_mk, glbKey_fold, ↓ite_glbKey, ite_self, ↓sarFrame_glbKey]))) only [↓setChain_glbKey, ↓glbKey_mk, glbKey_fold, ↓ite_glbKey, ite_self, ↓sarFrame_glbKey, each_glbKey])
theorem calMove_glbKey (s : Dev) (z e : Rat) :
    (s.calMove z e).glbKey = s.glbKey := by
  unfold Dev.calMove
  simp (disch := first | first | decide | (simp only [notGlb, ACQ_CAL, ACQ_STAT, GLB_CYCLE_CNT, GLB_MODE_STAT]; omega) | (intros; (try simp (disch := (first | decide | (simp only [notGlb, ACQ_CAL, ACQ_STAT, GLB_CYCLE_CNT, GLB_MODE_STAT]; omega))) only [↓setFld_glbKey, ↓setBit_glbKey, ↓ev_glbKey, ↓setChain_glbKey, ↓glbKey_mk, glbKey_fold, ↓ite_glbKey, ite_self]) <;> (try (split <;> simp (disch := (first | decide | (simp only [notGlb, ACQ_CAL, ACQ_STAT, GLB_CYCLE_CNT, GLB_MODE_STAT]; omega))) only [↓setFld_glbKey, ↓setBit_glbKey, ↓ev_glbKey, ↓setChain_glbKey, ↓glbKey_mk, glbKey_fold, ↓ite_glbKey, ite_self])))) only [↓setFld_glbKey, ↓setBit_glbKey, ↓ev_glbKey, ↓setChain_glbKey, ↓glbKey_mk, glbKey_fold, ↓ite_glbKey, ite_self, each_glbKey]
theorem calUpdate_glbKey (s : Dev) (z ideal : Rat) :
    (s.calUpdate z ideal).glbKey = s.glbKey := by
  unfold Dev.calUpdate
  simp (disch := (first | decide | (simp only [notGlb, GLB_CYCLE_CNT, GLB_MODE_STAT]; omega))) only [↓ite_glbKey, ite_self, ↓calMove_glbKey]
theorem bitstreamStuck_glbKey (s : Dev) (st : Nat) :
    (s.bitstreamStuck st).glbKey = s.glbKey := by
  unfold Dev.bitstreamStuck
  simp (disch := first | first | decide | (simp only [notGlb, ACQ_CH_STAT, ACQ_STAT, GLB_CYCLE_CNT, GLB_MODE_STAT, chWin]; omega) | (intros; (try simp (disch := (first | decide | (simp only [notGlb, ACQ_CH_STAT, ACQ_STAT, GLB_CYCLE_CNT, GLB_MODE_STAT, chWin]; omega))) only [↓setBit_glbKey, ↓ev_glbKey, ↓glbKey_mk, glbKey_fold, ↓ite_glbKey, ite_self]) <;> (try (split <;> simp (disch := (first | decide | (simp only [notGlb, ACQ_CH_STAT, ACQ_STAT, GLB_CYCLE_CNT, GLB_MODE_STAT, chWin]; omega))) only [↓setBit_glbKey, ↓ev_glbKey, ↓glbKey_mk, glbKey_fold, ↓ite_glbKey, ite_self])))) only [↓setBit_glbKey, ↓ev_glbKey, ↓glbKey_mk, glbKey_fold, ↓ite_glbKey, ite_self, each_glbKey]
theorem stuckEnd_glbKey (s : Dev) (st : Nat) :
    (s.stuckEnd st).glbKey = s.glbKey := by
  unfold Dev.stuckEnd
  simp (disch := first | first | decide | (simp only [notGlb, ACQ_CH_STAT, GLB_CYCLE_CNT, GLB_MODE_STAT, chWin]; omega) | (intros; (try simp (disch := (first | decide | (simp only [notGlb, ACQ_CH_STAT, GLB_CYCLE_CNT, GLB_MODE_STAT, chWin]; omega))) only [↓setBit_glbKey, ↓glbKey_mk, glbKey_fold, ↓ite_glbKey, ite_self, ↓chainStep_glbKey]) <;> (try (split <;> simp (disch := (first | decide | (simp only [notGlb, ACQ_CH_STAT, GLB_CYCLE_CNT, GLB_MODE_STAT, chWin]; omega))) only [↓setBit_glbKey, ↓glbKey_mk, glbKey_fold, ↓ite_glbKey, ite_self, ↓chainStep_glbKey])))) only [↓setBit_glbKey, ↓glbKey_mk, glbKey_fold, ↓ite_glbKey, ite_self, ↓chainStep_glbKey, each_glbKey]
theorem acqSide_glbKey (old s : Dev) (a : Nat) :
    (old.acqSide s a).glbKey = s.glbKey := by
  unfold Dev.acqSide
  simp (disch := (first | decide | (simp only [notGlb, ACQ_CTRL, ACQ_PULSE_CFG, ACQ_STAT, GLB_CYCLE_CNT, GLB_MODE_STAT, chWin]; omega))) only [↓setBit_glbKey, ↓setChain_glbKey, ↓glbKey_mk, glbKey_fold, ↓ite_glbKey, ite_self]
theorem acqWrite_glbKey (s : Dev) (a : Nat) (v : Word) :
    (s.acqWrite a v).glbKey = s.glbKey := by
  unfold Dev.acqWrite
  (try simp (disch := (first | decide | (simp only [notGlb, ACQ_FIR_LOAD, ACQ_FIR_SHADOW, ACQ_STAT, GLB_CYCLE_CNT, GLB_MODE_STAT]; omega))) only [↓setFld_glbKey, ↓ev_glbKey, ↓store_glbKey, ↓glbKey_mk, glbKey_fold, ↓ite_glbKey, ite_self, ↓acqSide_glbKey]) <;> (repeat' split) <;> (try simp (disch := (first | decide | (simp only [notGlb, ACQ_FIR_LOAD, ACQ_FIR_SHADOW, ACQ_STAT, GLB_CYCLE_CNT, GLB_MODE_STAT]; omega))) only [↓setFld_glbKey, ↓ev_glbKey, ↓store_glbKey, ↓glbKey_mk, glbKey_fold, ↓ite_glbKey, ite_self, ↓acqSide_glbKey])
theorem acqEnable_glbKey (s : Dev) (bit : Nat) (on : Bool) :
    (s.acqEnable bit on).glbKey = s.glbKey := by
  unfold Dev.acqEnable
  simp (disch := (first | decide | (simp only [notGlb, ACQ_CTRL, GLB_CYCLE_CNT, GLB_MODE_STAT]; omega))) only [↓acqWrite_glbKey]
theorem coefApply_glbKey (s : Dev) (n : Nat) :
    (s.coefApply n).glbKey = s.glbKey := by
  unfold Dev.coefApply
  (try simp (disch := (first | decide | (simp only [notGlb, ACQ_APPLY, ACQ_STAT, GLB_CYCLE_CNT, GLB_MODE_STAT]; omega))) only [↓setBit_glbKey, ↓ev_glbKey, ↓glbKey_mk, glbKey_fold, ↓ite_glbKey, ite_self]) <;> (repeat' split) <;> (try simp (disch := (first | decide | (simp only [notGlb, ACQ_APPLY, ACQ_STAT, GLB_CYCLE_CNT, GLB_MODE_STAT]; omega))) only [↓setBit_glbKey, ↓ev_glbKey, ↓glbKey_mk, glbKey_fold, ↓ite_glbKey, ite_self])
theorem coefDone_glbKey (s : Dev) :
    (s.coefDone).glbKey = s.glbKey := by
  unfold Dev.coefDone
  (try simp (disch := (first | decide | (simp only [notGlb, ACQ_STAT, GLB_CYCLE_CNT, GLB_MODE_STAT]; omega))) only [↓setBit_glbKey, ↓ev_glbKey, ↓glbKey_mk, glbKey_fold, ↓ite_glbKey, ite_self, ↓coefCopy_glbKey]) <;> (repeat' split) <;> (try simp (disch := (first | decide | (simp only [notGlb, ACQ_STAT, GLB_CYCLE_CNT, GLB_MODE_STAT]; omega))) only [↓setBit_glbKey, ↓ev_glbKey, ↓glbKey_mk, glbKey_fold, ↓ite_glbKey, ite_self, ↓coefCopy_glbKey])
theorem pulseEdge_glbKey (s : Dev) (p : Nat) (falling : Bool) (cycle held : Nat) :
    (s.pulseEdge p falling cycle held).glbKey = s.glbKey := by
  unfold Dev.pulseEdge
  (try simp (disch := (first | decide | (simp only [notGlb, ACQ_PULSE_CFG, GLB_CYCLE_CNT, GLB_MODE_STAT]; omega))) only [↓glbKey_mk, glbKey_fold, ↓ite_glbKey, ite_self]) <;> (repeat' split) <;> (try simp (disch := (first | decide | (simp only [notGlb, ACQ_PULSE_CFG, GLB_CYCLE_CNT, GLB_MODE_STAT]; omega))) only [↓glbKey_mk, glbKey_fold, ↓ite_glbKey, ite_self])
theorem pulseLatch_glbKey (s : Dev) (p : Nat) :
    (s.pulseLatch p).glbKey = s.glbKey := by
  unfold Dev.pulseLatch
  (try simp (disch := (first | decide | (simp only [notGlb, ACQ_PULSE_CFG, ACQ_PULSE_STAT, ACQ_PULSE_VAL, GLB_CYCLE_CNT, GLB_MODE_STAT]; omega))) only [↓wrN_glbKey, ↓setBit_glbKey, ↓glbKey_mk, glbKey_fold]) <;> (repeat' split) <;> (try simp (disch := (first | decide | (simp only [notGlb, ACQ_PULSE_CFG, ACQ_PULSE_STAT, ACQ_PULSE_VAL, GLB_CYCLE_CNT, GLB_MODE_STAT]; omega))) only [↓wrN_glbKey, ↓setBit_glbKey, ↓glbKey_mk, glbKey_fold])
theorem quadTransition_glbKey (s : Dev) (p : Nat) (qa qb : Bool) (heldA heldB : Nat) :
    (s.quadTransition p qa qb heldA heldB).glbKey = s.glbKey := by
  unfold Dev.quadTransition
  simp (disch := (first | decide | (simp only [notGlb, ACQ_QUAD_CFG, ACQ_QUAD_ERR, GLB_CYCLE_CNT, GLB_MODE_STAT]; omega))) only [↓cntSat_glbKey, ↓evW_glbKey, ↓glbKey_mk, glbKey_fold, ↓ite_glbKey, ite_self]
theorem quadZero_glbKey (s : Dev) (p : Nat) :
    (s.quadZero p).glbKey = s.glbKey := by
  unfold Dev.quadZero
  (try simp (disch := (first | decide | (simp only [notGlb, ACQ_QUAD_CFG, ACQ_QUAD_ZERO, GLB_CYCLE_CNT, GLB_MODE_STAT]; omega))) only [↓ev_glbKey, ↓glbKey_mk, glbKey_fold]) <;> (repeat' split) <;> (try simp (disch := (first | decide | (simp only [notGlb, ACQ_QUAD_CFG, ACQ_QUAD_ZERO, GLB_CYCLE_CNT, GLB_MODE_STAT]; omega))) only [↓ev_glbKey, ↓glbKey_mk, glbKey_fold])
theorem quadLatch_glbKey (s : Dev) (p : Nat) :
    (s.quadLatch p).glbKey = s.glbKey := by
  unfold Dev.quadLatch
  simp (disch := (first | decide | (simp only [notGlb, ACQ_QUAD_CFG, ACQ_QUAD_POS, GLB_CYCLE_CNT, GLB_MODE_STAT]; omega))) only [↓wr_glbKey, ↓glbKey_mk, glbKey_fold, ↓ite_glbKey, ite_self]
theorem chainLatch_glbKey (s : Dev) (n : Nat) :
    (s.chainLatch n).glbKey = s.glbKey := by
  unfold Dev.chainLatch
  simp (disch := (first | decide | (simp only [notGlb, ACQ_CH_CFG, GLB_CYCLE_CNT, GLB_MODE_STAT, chWin]; omega))) only [↓setChain_glbKey, ↓glbKey_mk, glbKey_fold, ↓ite_glbKey, ite_self, ↓chainStart_glbKey]
theorem acqP0_glbKey (s : Dev) :
    (s.acqP0).glbKey = s.glbKey := by
  unfold Dev.acqP0
  (try simp (disch := first | first | decide | (simp only [notGlb, ACQ_STAT, GLB_CYCLE_CNT, GLB_MODE_STAT]; omega) | (intros; simp (disch := first | first | decide | (simp only [notGlb, ACQ_STAT, GLB_CYCLE_CNT, GLB_MODE_STAT]; omega) | (intros; (try simp (disch := (first | decide | (simp only [notGlb, ACQ_STAT, GLB_CYCLE_CNT, GLB_MODE_STAT]; omega))) only [↓setBit_glbKey, ↓glbKey_mk, glbKey_fold, ↓ite_glbKey, ite_self, ↓chainLatch_glbKey, ↓pulseLatch_glbKey, ↓quadLatch_glbKey]) <;> (repeat' split) <;> (try simp (disch := (first | decide | (simp only [notGlb, ACQ_STAT, GLB_CYCLE_CNT, GLB_MODE_STAT]; omega))) only [↓setBit_glbKey, ↓glbKey_mk, glbKey_fold, ↓ite_glbKey, ite_self, ↓chainLatch_glbKey, ↓pulseLatch_glbKey, ↓quadLatch_glbKey]))) only [↓setBit_glbKey, ↓glbKey_mk, glbKey_fold, ↓ite_glbKey, ite_self, ↓chainLatch_glbKey, ↓pulseLatch_glbKey, ↓quadLatch_glbKey, each_glbKey])) only [↓setBit_glbKey, ↓glbKey_mk, glbKey_fold, ↓ite_glbKey, ite_self, ↓chainLatch_glbKey, ↓pulseLatch_glbKey, ↓quadLatch_glbKey, each_glbKey]) <;> (repeat' split) <;> (try simp (disch := first | first | decide | (simp only [notGlb, ACQ_STAT, GLB_CYCLE_CNT, GLB_MODE_STAT]; omega) | (intros; simp (disch := first | first | decide | (simp only [notGlb, ACQ_STAT, GLB_CYCLE_CNT, GLB_MODE_STAT]; omega) | (intros; (try simp (disch := (first | decide | (simp only [notGlb, ACQ_STAT, GLB_CYCLE_CNT, GLB_MODE_STAT]; omega))) only [↓setBit_glbKey, ↓glbKey_mk, glbKey_fold, ↓ite_glbKey, ite_self, ↓chainLatch_glbKey, ↓pulseLatch_glbKey, ↓quadLatch_glbKey]) <;> (repeat' split) <;> (try simp (disch := (first | decide | (simp only [notGlb, ACQ_STAT, GLB_CYCLE_CNT, GLB_MODE_STAT]; omega))) only [↓setBit_glbKey, ↓glbKey_mk, glbKey_fold, ↓ite_glbKey, ite_self, ↓chainLatch_glbKey, ↓pulseLatch_glbKey, ↓quadLatch_glbKey]))) only [↓setBit_glbKey, ↓glbKey_mk, glbKey_fold, ↓ite_glbKey, ite_self, ↓chainLatch_glbKey, ↓pulseLatch_glbKey, ↓quadLatch_glbKey, each_glbKey])) only [↓setBit_glbKey, ↓glbKey_mk, glbKey_fold, ↓ite_glbKey, ite_self, ↓chainLatch_glbKey, ↓pulseLatch_glbKey, ↓quadLatch_glbKey, each_glbKey])
theorem acqTemp_glbKey (s : Dev) (ts : List Int) :
    (s.acqTemp ts).glbKey = s.glbKey := by
  unfold Dev.acqTemp
  simp (disch := (first | decide | (simp only [notGlb, ACQ_TEMP, GLB_CYCLE_CNT, GLB_MODE_STAT]; omega))) only [↓ev_glbKey, ↓glbKey_mk, glbKey_fold, ↓ite_glbKey, ite_self]
theorem acqReported_glbKey (s : Dev) :
    (s.acqReported).glbKey = s.glbKey := by
  unfold Dev.acqReported
  simp (disch := (first | decide | (simp only [notGlb, GLB_CYCLE_CNT, GLB_MODE_STAT]; omega))) only [↓glbKey_mk, glbKey_fold]
theorem setCanState_glbKey (s : Dev) (c n : Nat) :
    (s.setCanState c n).glbKey = s.glbKey := by
  unfold Dev.setCanState
  simp (disch := (first | decide | (simp only [notGlb, CAN_STAT, GLB_CYCLE_CNT, GLB_MODE_STAT, canPage]; omega))) only [↓setFld_glbKey, ↓raise_glbKey, ↓ite_glbKey, ite_self]
theorem setErrs_glbKey (s : Dev) (c tec rec' : Nat) :
    (s.setErrs c tec rec').glbKey = s.glbKey := by
  unfold Dev.setErrs
  simp (disch := (first | decide | (simp only [notGlb, CAN_STAT, GLB_CYCLE_CNT, GLB_MODE_STAT, canPage]; omega))) only [↓setFld_glbKey, ↓setCanc_glbKey, ↓glbKey_mk, glbKey_fold]
theorem showTx_glbKey (s : Dev) (c : Nat) :
    (s.showTx c).glbKey = s.glbKey := by
  unfold Dev.showTx
  simp (disch := first | first | decide | (simp only [notGlb, CAN_LEDGER_HELD, CAN_STR_STAT, CAN_TB_STAT, GLB_CYCLE_CNT, GLB_MODE_STAT, canPage]; omega) | (intros; (try simp (disch := (first | decide | (simp only [notGlb, CAN_LEDGER_HELD, CAN_STR_STAT, CAN_TB_STAT, GLB_CYCLE_CNT, GLB_MODE_STAT, canPage]; omega))) only [↓wrN_glbKey, ↓setFld_glbKey, ↓setBit_glbKey]) <;> (try (split <;> simp (disch := (first | decide | (simp only [notGlb, CAN_LEDGER_HELD, CAN_STR_STAT, CAN_TB_STAT, GLB_CYCLE_CNT, GLB_MODE_STAT, canPage]; omega))) only [↓wrN_glbKey, ↓setFld_glbKey, ↓setBit_glbKey])))) only [↓wrN_glbKey, ↓setFld_glbKey, ↓setBit_glbKey, each_glbKey]
theorem ledger_glbKey (s : Dev) (c inn out drop : Nat) :
    (s.ledger c inn out drop).glbKey = s.glbKey := by
  unfold Dev.ledger
  simp (disch := (first | decide | (simp only [notGlb, CAN_LEDGER_DROP, CAN_LEDGER_IN, CAN_LEDGER_OUT, GLB_CYCLE_CNT, GLB_MODE_STAT, canPage]; omega))) only [↓cntWrap_glbKey]
theorem showRxf_glbKey (s : Dev) (c : Nat) :
    (s.showRxf c).glbKey = s.glbKey := by
  unfold Dev.showRxf
  simp (disch := first | first | decide | (simp only [notGlb, CAN_RXF_CTL, CAN_RXF_DATA, CAN_RXF_ID, CAN_RXF_STAMP, CAN_RXF_STAT, GLB_CYCLE_CNT, GLB_MODE_STAT, canPage]; omega) | (intros; (try simp (disch := (first | decide | (simp only [notGlb, CAN_RXF_CTL, CAN_RXF_DATA, CAN_RXF_ID, CAN_RXF_STAMP, CAN_RXF_STAT, GLB_CYCLE_CNT, GLB_MODE_STAT, canPage]; omega))) only [↓wr_glbKey, ↓wrN_glbKey, ↓setFld_glbKey]) <;> (try (split <;> simp (disch := (first | decide | (simp only [notGlb, CAN_RXF_CTL, CAN_RXF_DATA, CAN_RXF_ID, CAN_RXF_STAMP, CAN_RXF_STAT, GLB_CYCLE_CNT, GLB_MODE_STAT, canPage]; omega))) only [↓wr_glbKey, ↓wrN_glbKey, ↓setFld_glbKey])))) only [↓wr_glbKey, ↓wrN_glbKey, ↓setFld_glbKey, each_glbKey]
theorem showHp_glbKey (s : Dev) (c : Nat) :
    (s.showHp c).glbKey = s.glbKey := by
  unfold Dev.showHp
  (try simp (disch := first | first | decide | (simp only [notGlb, CAN_HP_CTL, CAN_HP_DATA, CAN_HP_ID, CAN_HP_STAMP, GLB_CYCLE_CNT, GLB_MODE_STAT, canPage]; omega) | (intros; (try simp (disch := (first | decide | (simp only [notGlb, CAN_HP_CTL, CAN_HP_DATA, CAN_HP_ID, CAN_HP_STAMP, GLB_CYCLE_CNT, GLB_MODE_STAT, canPage]; omega))) only [↓wr_glbKey, ↓wrN_glbKey, ↓glbKey_mk, glbKey_fold]) <;> (repeat' split) <;> (try simp (disch := (first | decide | (simp only [notGlb, CAN_HP_CTL, CAN_HP_DATA, CAN_HP_ID, CAN_HP_STAMP, GLB_CYCLE_CNT, GLB_MODE_STAT, canPage]; omega))) only [↓wr_glbKey, ↓wrN_glbKey, ↓glbKey_mk, glbKey_fold]))) only [↓wr_glbKey, ↓wrN_glbKey, ↓glbKey_mk, glbKey_fold, each_glbKey]) <;> (repeat' split) <;> (try simp (disch := first | first | decide | (simp only [notGlb, CAN_HP_CTL, CAN_HP_DATA, CAN_HP_ID, CAN_HP_STAMP, GLB_CYCLE_CNT, GLB_MODE_STAT, canPage]; omega) | (intros; (try simp (disch := (first | decide | (simp only [notGlb, CAN_HP_CTL, CAN_HP_DATA, CAN_HP_ID, CAN_HP_STAMP, GLB_CYCLE_CNT, GLB_MODE_STAT, canPage]; omega))) only [↓wr_glbKey, ↓wrN_glbKey, ↓glbKey_mk, glbKey_fold]) <;> (repeat' split) <;> (try simp (disch := (first | decide | (simp only [notGlb, CAN_HP_CTL, CAN_HP_DATA, CAN_HP_ID, CAN_HP_STAMP, GLB_CYCLE_CNT, GLB_MODE_STAT, canPage]; omega))) only [↓wr_glbKey, ↓wrN_glbKey, ↓glbKey_mk, glbKey_fold]))) only [↓wr_glbKey, ↓wrN_glbKey, ↓glbKey_mk, glbKey_fold, each_glbKey])
theorem refill_glbKey (s : Dev) (c : Nat) :
    (s.refill c).glbKey = s.glbKey := by
  unfold Dev.refill
  simp (disch := (first | decide | (simp only [notGlb, GLB_CYCLE_CNT, GLB_MODE_STAT]; omega))) only [↓setCanc_glbKey, ↓glbKey_mk, glbKey_fold]
theorem hostFrameEnd_glbKey (s : Dev) (t : CanTx) (detail : Nat) :
    (s.hostFrameEnd t detail).glbKey = s.glbKey := by
  unfold Dev.hostFrameEnd
  (try simp (disch := (first | decide | (simp only [notGlb, GLB_CYCLE_CNT, GLB_MODE_STAT]; omega))) only [↓glbKey_mk, glbKey_fold, ↓complete_glbKey]) <;> (repeat' split) <;> (try simp (disch := (first | decide | (simp only [notGlb, GLB_CYCLE_CNT, GLB_MODE_STAT]; omega))) only [↓glbKey_mk, glbKey_fold, ↓complete_glbKey])
theorem canFlush_glbKey (s : Dev) (c : Nat) :
    (s.canFlush c).glbKey = s.glbKey := by
  unfold Dev.canFlush
  simp (disch := first | first | decide | (simp only [notGlb, GLB_CYCLE_CNT, GLB_MODE_STAT]; omega) | (intros; (try simp (disch := (first | decide | (simp only [notGlb, GLB_CYCLE_CNT, GLB_MODE_STAT]; omega))) only [↓setCanc_glbKey, ↓glbKey_mk, glbKey_fold, ↓hostFrameEnd_glbKey, ↓ledger_glbKey, ↓showTx_glbKey]) <;> (try (split <;> simp (disch := (first | decide | (simp only [notGlb, GLB_CYCLE_CNT, GLB_MODE_STAT]; omega))) only [↓setCanc_glbKey, ↓glbKey_mk, glbKey_fold, ↓hostFrameEnd_glbKey, ↓ledger_glbKey, ↓showTx_glbKey])))) only [↓setCanc_glbKey, ↓glbKey_mk, glbKey_fold, ↓hostFrameEnd_glbKey, ↓ledger_glbKey, ↓showTx_glbKey, each_glbKey]
theorem startRecovery_glbKey (s : Dev) (c : Nat) :
    (s.startRecovery c).glbKey = s.glbKey := by
  unfold Dev.startRecovery
  simp (disch := (first | decide | (simp only [notGlb, CAN_STAT, GLB_CYCLE_CNT, GLB_MODE_STAT, canPage]; omega))) only [↓setBit_glbKey, ↓raise_glbKey, ↓ite_glbKey, ite_self]
theorem busOff_glbKey (s : Dev) (c : Nat) :
    (s.busOff c).glbKey = s.glbKey := by
  unfold Dev.busOff
  simp (disch := (first | decide | (simp only [notGlb, CAN_CTRL, CAN_ERR_CNT, GLB_CYCLE_CNT, GLB_MODE_STAT, canPage]; omega))) only [↓cntSat_glbKey, ↓ev_glbKey, ↓ite_glbKey, ite_self, ↓canFlush_glbKey, ↓setCanState_glbKey, ↓startRecovery_glbKey]
theorem checkErrs_glbKey (s : Dev) (c : Nat) :
    (s.checkErrs c).glbKey = s.glbKey := by
  unfold Dev.checkErrs
  simp (disch := (first | decide | (simp only [notGlb, GLB_CYCLE_CNT, GLB_MODE_STAT]; omega))) only [↓ev_glbKey, ↓ite_glbKey, ite_self, ↓busOff_glbKey, ↓setCanState_glbKey]
theorem leaveInit_glbKey (s : Dev) (c : Nat) :
    (s.leaveInit c).glbKey = s.glbKey := by
  unfold Dev.leaveInit
  (try simp (disch := (first | decide | (simp only [notGlb, CAN_CTRL, CAN_DBT, CAN_NBT, CAN_STAT, GLB_CYCLE_CNT, GLB_MODE_STAT, canPage]; omega))) only [↓setBit_glbKey, ↓ev_glbKey, ↓setCanc_glbKey, ↓glbKey_mk, glbKey_fold, ↓setCanState_glbKey, ↓setErrs_glbKey]) <;> (repeat' split) <;> (try simp (disch := (first | decide | (simp only [notGlb, CAN_CTRL, CAN_DBT, CAN_NBT, CAN_STAT, GLB_CYCLE_CNT, GLB_MODE_STAT, canPage]; omega))) only [↓setBit_glbKey, ↓ev_glbKey, ↓setCanc_glbKey, ↓glbKey_mk, glbKey_fold, ↓setCanState_glbKey, ↓setErrs_glbKey])
theorem enterInit_glbKey (s : Dev) (c : Nat) :
    (s.enterInit c).glbKey = s.glbKey := by
  unfold Dev.enterInit
  simp (disch := (first | decide | (simp only [notGlb, CAN_STAT, GLB_CYCLE_CNT, GLB_MODE_STAT, canPage]; omega))) only [↓setBit_glbKey, ↓setCanc_glbKey, ↓glbKey_mk, glbKey_fold, ↓setCanState_glbKey, ↓setErrs_glbKey, ↓showTx_glbKey]
theorem canRecover_glbKey (s : Dev) (c : Nat) :
    (s.canRecover c).glbKey = s.glbKey := by
  unfold Dev.canRecover
  simp (disch := (first | decide | (simp only [notGlb, GLB_CYCLE_CNT, GLB_MODE_STAT]; omega))) only [↓startRecovery_glbKey]
theorem canCtrl_glbKey (s : Dev) (c : Nat) (v : Word) :
    (s.canCtrl c v).glbKey = s.glbKey := by
  unfold Dev.canCtrl
  simp (disch := (first | decide | (simp only [notGlb, CAN_CTRL, GLB_CYCLE_CNT, GLB_MODE_STAT, canPage]; omega))) only [↓ev_glbKey, ↓store_glbKey, ↓ite_glbKey, ite_self, ↓canRecover_glbKey, ↓enterInit_glbKey, ↓leaveInit_glbKey, ↓startRecovery_glbKey]
theorem autostart_glbKey (s : Dev) (c : Nat) :
    (s.autostart c).glbKey = s.glbKey := by
  unfold Dev.autostart
  simp (disch := (first | decide | (simp only [notGlb, CAN_CTRL, CAN_GCFG, GLB_CYCLE_CNT, GLB_MODE_STAT, canPage]; omega))) only [↓setCanc_glbKey, ↓glbKey_mk, glbKey_fold, ↓ite_glbKey, ite_self, ↓leaveInit_glbKey]
theorem tb2Put_glbKey (s : Dev) (c : Nat) (t : CanTx) :
    (s.tb2Put c t).glbKey = s.glbKey := by
  unfold Dev.tb2Put
  (try simp (disch := first | first | decide | (simp only [notGlb, GLB_CYCLE_CNT, GLB_MODE_STAT]; omega) | (intros; (try simp (disch := (first | decide | (simp only [notGlb, GLB_CYCLE_CNT, GLB_MODE_STAT]; omega))) only [↓setCanc_glbKey, ↓glbKey_mk, glbKey_fold, ↓ite_glbKey, ite_self, ↓hostFrameEnd_glbKey, ↓ledger_glbKey, ↓showTx_glbKey]) <;> (repeat' split) <;> (try simp (disch := (first | decide | (simp only [notGlb, GLB_CYCLE_CNT, GLB_MODE_STAT]; omega))) only [↓setCanc_glbKey, ↓glbKey_mk, glbKey_fold, ↓ite_glbKey, ite_self, ↓hostFrameEnd_glbKey, ↓ledger_glbKey, ↓showTx_glbKey]))) only [↓setCanc_glbKey, ↓glbKey_mk, glbKey_fold, ↓ite_glbKey, ite_self, ↓hostFrameEnd_glbKey, ↓ledger_glbKey, ↓showTx_glbKey, each_glbKey]) <;> (repeat' split) <;> (try simp (disch := first | first | decide | (simp only [notGlb, GLB_CYCLE_CNT, GLB_MODE_STAT]; omega) | (intros; (try simp (disch := (first | decide | (simp only [notGlb, GLB_CYCLE_CNT, GLB_MODE_STAT]; omega))) only [↓setCanc_glbKey, ↓glbKey_mk, glbKey_fold, ↓ite_glbKey, ite_self, ↓hostFrameEnd_glbKey, ↓ledger_glbKey, ↓showTx_glbKey]) <;> (repeat' split) <;> (try simp (disch := (first | decide | (simp only [notGlb, GLB_CYCLE_CNT, GLB_MODE_STAT]; omega))) only [↓setCanc_glbKey, ↓glbKey_mk, glbKey_fold, ↓ite_glbKey, ite_self, ↓hostFrameEnd_glbKey, ↓ledger_glbKey, ↓showTx_glbKey]))) only [↓setCanc_glbKey, ↓glbKey_mk, glbKey_fold, ↓ite_glbKey, ite_self, ↓hostFrameEnd_glbKey, ↓ledger_glbKey, ↓showTx_glbKey, each_glbKey])
theorem tb2Request_glbKey (s : Dev) (c dlc : Nat) :
    (s.tb2Request c dlc).glbKey = s.glbKey := by
  unfold Dev.tb2Request
  simp (disch := (first | decide | (simp only [notGlb, GLB_CYCLE_CNT, GLB_MODE_STAT]; omega))) only [↓glbKey_mk, glbKey_fold, ↓tb2Put_glbKey]
theorem tb2Cancel_glbKey (s : Dev) (c : Nat) :
    (s.tb2Cancel c).glbKey = s.glbKey := by
  unfold Dev.tb2Cancel
  (try simp (disch := first | first | decide | (simp only [notGlb, GLB_CYCLE_CNT, GLB_MODE_STAT]; omega) | (intros; (try simp (disch := (first | decide | (simp only [notGlb, GLB_CYCLE_CNT, GLB_MODE_STAT]; omega))) only [↓setCanc_glbKey, ↓glbKey_mk, glbKey_fold, ↓ite_glbKey, ite_self, ↓hostFrameEnd_glbKey, ↓ledger_glbKey, ↓showTx_glbKey]) <;> (repeat' split) <;> (try simp (disch := (first | decide | (simp only [notGlb, GLB_CYCLE_CNT, GLB_MODE_STAT]; omega))) only [↓setCanc_glbKey, ↓glbKey_mk, glbKey_fold, ↓ite_glbKey, ite_self, ↓hostFrameEnd_glbKey, ↓ledger_glbKey, ↓showTx_glbKey]))) only [↓setCanc_glbKey, ↓glbKey_mk, glbKey_fold, ↓ite_glbKey, ite_self, ↓hostFrameEnd_glbKey, ↓ledger_glbKey, ↓showTx_glbKey, each_glbKey]) <;> (repeat' split) <;> (try simp (disch := first | first | decide | (simp only [notGlb, GLB_CYCLE_CNT, GLB_MODE_STAT]; omega) | (intros; (try simp (disch := (first | decide | (simp only [notGlb, GLB_CYCLE_CNT, GLB_MODE_STAT]; omega))) only [↓setCanc_glbKey, ↓glbKey_mk, glbKey_fold, ↓ite_glbKey, ite_self, ↓hostFrameEnd_glbKey, ↓ledger_glbKey, ↓showTx_glbKey]) <;> (repeat' split) <;> (try simp (disch := (first | decide | (simp only [notGlb, GLB_CYCLE_CNT, GLB_MODE_STAT]; omega))) only [↓setCanc_glbKey, ↓glbKey_mk, glbKey_fold, ↓ite_glbKey, ite_self, ↓hostFrameEnd_glbKey, ↓ledger_glbKey, ↓showTx_glbKey]))) only [↓setCanc_glbKey, ↓glbKey_mk, glbKey_fold, ↓ite_glbKey, ite_self, ↓hostFrameEnd_glbKey, ↓ledger_glbKey, ↓showTx_glbKey, each_glbKey])
theorem tb2Ctl_glbKey (s : Dev) (c : Nat) (v : Word) :
    (s.tb2Ctl c v).glbKey = s.glbKey := by
  unfold Dev.tb2Ctl
  simp (disch := (first | decide | (simp only [notGlb, GLB_CYCLE_CNT, GLB_MODE_STAT]; omega))) only [↓ite_glbKey, ite_self, ↓tb2Cancel_glbKey, ↓tb2Request_glbKey]
theorem arbWon_glbKey (s : Dev) (c b : Nat) (late : List Nat) :
    (s.arbWon c b late).glbKey = s.glbKey := by
  unfold Dev.arbWon
  simp (disch := (first | decide | (simp only [notGlb, CAN_CTRL, GLB_CYCLE_CNT, GLB_MODE_STAT, canPage]; omega))) only [↓setCanc_glbKey, ↓glbKey_mk, glbKey_fold, ↓ite_glbKey, ite_self, ↓showTx_glbKey]
theorem arbLost_glbKey (s : Dev) (c b : Nat) :
    (s.arbLost c b).glbKey = s.glbKey := by
  unfold Dev.arbLost
  simp (disch := (first | decide | (simp only [notGlb, GLB_CYCLE_CNT, GLB_MODE_STAT]; omega))) only [↓setCanc_glbKey, ↓glbKey_mk, glbKey_fold]
theorem frameSent_glbKey (s : Dev) (c b : Nat) (sofNs : Nat) (delay : Byte) :
    (s.frameSent c b sofNs delay).glbKey = s.glbKey := by
  unfold Dev.frameSent
  (try simp (disch := (first | decide | (simp only [notGlb, CAN_DBT, CAN_TB_STAT, CAN_TDC_MEAS, CAN_TREF_SOF, GLB_CYCLE_CNT, GLB_MODE_STAT, canPage]; omega))) only [↓wrN_glbKey, ↓setBit_glbKey, ↓ev_glbKey, ↓setCanc_glbKey, ↓glbKey_mk, glbKey_fold, ↓ite_glbKey, ite_self, ↓checkErrs_glbKey, ↓hostFrameEnd_glbKey, ↓ledger_glbKey, ↓refill_glbKey, ↓setErrs_glbKey, ↓showTx_glbKey]) <;> (repeat' split) <;> (try simp (disch := (first | decide | (simp only [notGlb, CAN_DBT, CAN_TB_STAT, CAN_TDC_MEAS, CAN_TREF_SOF, GLB_CYCLE_CNT, GLB_MODE_STAT, canPage]; omega))) only [↓wrN_glbKey, ↓setBit_glbKey, ↓ev_glbKey, ↓setCanc_glbKey, ↓glbKey_mk, glbKey_fold, ↓ite_glbKey, ite_self, ↓checkErrs_glbKey, ↓hostFrameEnd_glbKey, ↓ledger_glbKey, ↓refill_glbKey, ↓setErrs_glbKey, ↓showTx_glbKey])
theorem takeFields_glbKey (s : Dev) (c : Nat) (f : CanFrame) :
    (s.takeFields c f).glbKey = s.glbKey := by
  unfold Dev.takeFields
  simp (disch := first | first | decide | (simp only [notGlb, CAN_RX_FLD, GLB_CYCLE_CNT, GLB_MODE_STAT]; omega) | (intros; (try simp (disch := (first | decide | (simp only [notGlb, CAN_RX_FLD, GLB_CYCLE_CNT, GLB_MODE_STAT]; omega))) only [↓glbKey_mk, glbKey_fold, ↓ite_glbKey, ite_self]) <;> (repeat' split) <;> (try simp (disch := (first | decide | (simp only [notGlb, CAN_RX_FLD, GLB_CYCLE_CNT, GLB_MODE_STAT]; omega))) only [↓glbKey_mk, glbKey_fold, ↓ite_glbKey, ite_self]))) only [↓glbKey_mk, glbKey_fold, ↓ite_glbKey, ite_self, each_glbKey]
theorem hpTake_glbKey (s : Dev) (c : Nat) (r : CanRx) :
    (s.hpTake c r).glbKey = s.glbKey := by
  unfold Dev.hpTake
  simp (disch := (first | decide | (simp only [notGlb, CAN_HP_STAT, GLB_CYCLE_CNT, GLB_MODE_STAT, canPage]; omega))) only [↓setBit_glbKey, ↓raise_glbKey, ↓ev_glbKey, ↓setCanc_glbKey, ↓glbKey_mk, glbKey_fold, ↓ite_glbKey, ite_self, ↓showHp_glbKey]
theorem fifoTake_glbKey (s : Dev) (c : Nat) (r : CanRx) :
    (s.fifoTake c r).glbKey = s.glbKey := by
  unfold Dev.fifoTake
  simp (disch := (first | decide | (simp only [notGlb, CAN_RXF_STAT, GLB_CYCLE_CNT, GLB_MODE_STAT, canPage]; omega))) only [↓cntSat_glbKey, ↓raise_glbKey, ↓ev_glbKey, ↓setCanc_glbKey, ↓glbKey_mk, glbKey_fold, ↓ite_glbKey, ite_self, ↓showRxf_glbKey]
theorem frameReceived_glbKey (s : Dev) (c : Nat) (f : CanFrame) (res : Bool) (stamp : Word) :
    (s.frameReceived c f res stamp).glbKey = s.glbKey := by
  unfold Dev.frameReceived
  (try simp (disch := (first | decide | (simp only [notGlb, CAN_CTRL, GLB_CYCLE_CNT, GLB_MODE_STAT, canPage]; omega))) only [↓ev_glbKey, ↓spend_glbKey, ↓setCanc_glbKey, ↓glbKey_mk, glbKey_fold, ↓ite_glbKey, ite_self, ↓checkErrs_glbKey, ↓fifoTake_glbKey, ↓hpTake_glbKey, ↓setErrs_glbKey, ↓takeFields_glbKey]) <;> (repeat' split) <;> (try simp (disch := (first | decide | (simp only [notGlb, CAN_CTRL, GLB_CYCLE_CNT, GLB_MODE_STAT, canPage]; omega))) only [↓ev_glbKey, ↓spend_glbKey, ↓setCanc_glbKey, ↓glbKey_mk, glbKey_fold, ↓ite_glbKey, ite_self, ↓checkErrs_glbKey, ↓fifoTake_glbKey, ↓hpTake_glbKey, ↓setErrs_glbKey, ↓takeFields_glbKey])
theorem hpRelease_glbKey (s : Dev) (c : Nat) :
    (s.hpRelease c).glbKey = s.glbKey := by
  unfold Dev.hpRelease
  simp (disch := (first | decide | (simp only [notGlb, CAN_HP_STAT, GLB_CYCLE_CNT, GLB_MODE_STAT, canPage]; omega))) only [↓setBit_glbKey]
theorem fifoPop_glbKey (s : Dev) (c : Nat) :
    (s.fifoPop c).glbKey = s.glbKey := by
  unfold Dev.fifoPop
  simp (disch := (first | decide | (simp only [notGlb, GLB_CYCLE_CNT, GLB_MODE_STAT]; omega))) only [↓setCanc_glbKey, ↓glbKey_mk, glbKey_fold, ↓ite_glbKey, ite_self, ↓showRxf_glbKey]
theorem replaced_glbKey (s : Dev) (c i : Nat) :
    (s.replaced c i).glbKey = s.glbKey := by
  unfold Dev.replaced
  simp (disch := (first | decide | (simp only [notGlb, CAN_STR_STAT, GLB_CYCLE_CNT, GLB_MODE_STAT]; omega))) only [↓cntSat_glbKey, ↓ev_glbKey, ↓ite_glbKey, ite_self]
theorem honour_glbKey (s : Dev) (c : Nat) :
    (s.honour c).glbKey = s.glbKey := by
  unfold Dev.honour
  (try simp (disch := (first | decide | (simp only [notGlb, GLB_CYCLE_CNT, GLB_MODE_STAT]; omega))) only [↓setCanc_glbKey, ↓glbKey_mk, glbKey_fold, ↓ite_glbKey, ite_self, ↓hostFrameEnd_glbKey, ↓ledger_glbKey, ↓replaced_glbKey, ↓showTx_glbKey]) <;> (repeat' split) <;> (try simp (disch := (first | decide | (simp only [notGlb, GLB_CYCLE_CNT, GLB_MODE_STAT]; omega))) only [↓setCanc_glbKey, ↓glbKey_mk, glbKey_fold, ↓ite_glbKey, ite_self, ↓hostFrameEnd_glbKey, ↓ledger_glbKey, ↓replaced_glbKey, ↓showTx_glbKey])
theorem canError_glbKey (s : Dev) (c : Nat) (k : CanErrKind) (conflict : Bool) :
    (s.canError c k conflict).glbKey = s.glbKey := by
  unfold Dev.canError
  (try simp (disch := (first | decide | (simp only [notGlb, CAN_CTRL, CAN_ERR_CNT, GLB_CYCLE_CNT, GLB_MODE_STAT, canPage]; omega))) only [↓cntSat_glbKey, ↓ev_glbKey, ↓glbKey_mk, glbKey_fold, ↓ite_glbKey, ite_self, ↓checkErrs_glbKey, ↓honour_glbKey, ↓setErrs_glbKey]) <;> (repeat' split) <;> (try simp (disch := (first | decide | (simp only [notGlb, CAN_CTRL, CAN_ERR_CNT, GLB_CYCLE_CNT, GLB_MODE_STAT, canPage]; omega))) only [↓cntSat_glbKey, ↓ev_glbKey, ↓glbKey_mk, glbKey_fold, ↓ite_glbKey, ite_self, ↓checkErrs_glbKey, ↓honour_glbKey, ↓setErrs_glbKey])
theorem recoveryDone_glbKey (s : Dev) (c : Nat) :
    (s.recoveryDone c).glbKey = s.glbKey := by
  unfold Dev.recoveryDone
  simp (disch := (first | decide | (simp only [notGlb, CAN_STAT, GLB_CYCLE_CNT, GLB_MODE_STAT, canPage]; omega))) only [↓setBit_glbKey, ↓ev_glbKey, ↓ite_glbKey, ite_self, ↓setCanState_glbKey, ↓setErrs_glbKey]
theorem skipFrame_glbKey (s : Dev) (c i : Nat) :
    (s.skipFrame c i).glbKey = s.glbKey := by
  unfold Dev.skipFrame
  simp (disch := (first | decide | (simp only [notGlb, GLB_CYCLE_CNT, GLB_MODE_STAT]; omega))) only [↓ev_glbKey, ↓glbKey_mk, glbKey_fold, ↓ite_glbKey, ite_self]
theorem unskip_glbKey (s : Dev) (c i : Nat) :
    (s.unskip c i).glbKey = s.glbKey := by
  unfold Dev.unskip
  simp (disch := (first | decide | (simp only [notGlb, GLB_CYCLE_CNT, GLB_MODE_STAT]; omega))) only [↓glbKey_mk, glbKey_fold]
theorem enqueue_glbKey (s : Dev) (c : Nat) (t : CanTx) :
    (s.enqueue c t).glbKey = s.glbKey := by
  unfold Dev.enqueue
  (try simp (disch := (first | decide | (simp only [notGlb, GLB_CYCLE_CNT, GLB_MODE_STAT]; omega))) only [↓setCanc_glbKey, ↓glbKey_mk, glbKey_fold, ↓ite_glbKey, ite_self, ↓ledger_glbKey, ↓refill_glbKey, ↓replaced_glbKey, ↓showTx_glbKey, ↓unskip_glbKey]) <;> (repeat' split) <;> (try simp (disch := (first | decide | (simp only [notGlb, GLB_CYCLE_CNT, GLB_MODE_STAT]; omega))) only [↓setCanc_glbKey, ↓glbKey_mk, glbKey_fold, ↓ite_glbKey, ite_self, ↓ledger_glbKey, ↓refill_glbKey, ↓replaced_glbKey, ↓showTx_glbKey, ↓unskip_glbKey])
theorem streamDue_glbKey (s : Dev) (i : Nat) :
    (s.streamDue i).glbKey = s.glbKey := by
  unfold Dev.streamDue
  simp (disch := (first | decide | (simp only [notGlb, CAN_STR_CFG, CAN_STR_CFG2, CAN_STR_STAT, GLB_CYCLE_CNT, GLB_MODE_STAT]; omega))) only [↓setFld_glbKey, ↓cntSat_glbKey, ↓glbKey_mk, glbKey_fold, ↓ite_glbKey, ite_self, ↓enqueue_glbKey, ↓skipFrame_glbKey]
theorem streamsP3_glbKey (s : Dev) (n : Nat) :
    (s.streamsP3 n).glbKey = s.glbKey := by
  unfold Dev.streamsP3
  simp (disch := first | first | decide | (simp only [notGlb, CAN_STR_CFG, GLB_CYCLE_CNT, GLB_MODE_STAT]; omega) | (intros; (try simp (disch := (first | decide | (simp only [notGlb, CAN_STR_CFG, GLB_CYCLE_CNT, GLB_MODE_STAT]; omega))) only [↓ite_glbKey, ite_self, ↓streamDue_glbKey]) <;> (try (split <;> simp (disch := (first | decide | (simp only [notGlb, CAN_STR_CFG, GLB_CYCLE_CNT, GLB_MODE_STAT]; omega))) only [↓ite_glbKey, ite_self, ↓streamDue_glbKey])))) only [↓ite_glbKey, ite_self, ↓streamDue_glbKey, each_glbKey]
theorem trefLoad_glbKey (s : Dev) (c : Nat) :
    (s.trefLoad c).glbKey = s.glbKey := by
  unfold Dev.trefLoad
  (try simp (disch := (first | decide | (simp only [notGlb, CAN_TREF_CFG, GLB_CYCLE_CNT, GLB_MODE_STAT, canPage]; omega))) only [↓setCanc_glbKey, ↓glbKey_mk, glbKey_fold, ↓ite_glbKey, ite_self, ↓ledger_glbKey, ↓showTx_glbKey, ↓skipFrame_glbKey, ↓unskip_glbKey]) <;> (repeat' split) <;> (try simp (disch := (first | decide | (simp only [notGlb, CAN_TREF_CFG, GLB_CYCLE_CNT, GLB_MODE_STAT, canPage]; omega))) only [↓setCanc_glbKey, ↓glbKey_mk, glbKey_fold, ↓ite_glbKey, ite_self, ↓ledger_glbKey, ↓showTx_glbKey, ↓skipFrame_glbKey, ↓unskip_glbKey])
theorem trefP3_glbKey (s : Dev) :
    (s.trefP3).glbKey = s.glbKey := by
  unfold Dev.trefP3
  simp (disch := first | first | decide | (simp only [notGlb, GLB_CYCLE_CNT, GLB_MODE_STAT]; omega) | (intros; (try simp (disch := (first | decide | (simp only [notGlb, GLB_CYCLE_CNT, GLB_MODE_STAT]; omega))) only [↓trefLoad_glbKey]) <;> (try (split <;> simp (disch := (first | decide | (simp only [notGlb, GLB_CYCLE_CNT, GLB_MODE_STAT]; omega))) only [↓trefLoad_glbKey])))) only [↓trefLoad_glbKey, each_glbKey]
theorem canP0_glbKey (s : Dev) :
    (s.canP0).glbKey = s.glbKey := by
  unfold Dev.canP0
  simp (disch := first | first | decide | (simp only [notGlb, CAN_RX_FLD, CAN_RX_VAL, GLB_CYCLE_CNT, GLB_MODE_STAT]; omega) | (intros; (try simp (disch := (first | decide | (simp only [notGlb, CAN_RX_FLD, CAN_RX_VAL, GLB_CYCLE_CNT, GLB_MODE_STAT]; omega))) only [↓wr_glbKey, ↓glbKey_mk, glbKey_fold, ↓ite_glbKey, ite_self]) <;> (repeat' split) <;> (try simp (disch := (first | decide | (simp only [notGlb, CAN_RX_FLD, CAN_RX_VAL, GLB_CYCLE_CNT, GLB_MODE_STAT]; omega))) only [↓wr_glbKey, ↓glbKey_mk, glbKey_fold, ↓ite_glbKey, ite_self]))) only [↓wr_glbKey, ↓glbKey_mk, glbKey_fold, ↓ite_glbKey, ite_self, each_glbKey]
theorem canWrite_glbKey (s : Dev) (a : Nat) (v : Word) :
    (s.canWrite a v).glbKey = s.glbKey := by
  unfold Dev.canWrite
  simp (disch := (first | decide | (simp only [notGlb, GLB_CYCLE_CNT, GLB_MODE_STAT, canPage]; omega))) only [↓ev_glbKey, ↓store_glbKey, ↓ite_glbKey, ite_self, ↓canCtrl_glbKey, ↓fifoPop_glbKey, ↓hpRelease_glbKey, ↓tb2Ctl_glbKey]
theorem setPort_glbKey (s : Dev) (b : Bool) (f : NetPort → NetPort) :
    (s.setPort b f).glbKey = s.glbKey := by
  unfold Dev.setPort
  simp (disch := (first | decide | (simp only [notGlb, GLB_CYCLE_CNT, GLB_MODE_STAT]; omega))) only [↓glbKey_mk, glbKey_fold, ↓ite_glbKey, ite_self]
theorem rateFallback_glbKey (s : Dev) (b : Bool) :
    (s.rateFallback b).glbKey = s.glbKey := by
  unfold Dev.rateFallback
  simp (disch := (first | decide | (simp only [notGlb, GLB_CYCLE_CNT, GLB_MODE_STAT]; omega))) only [↓glbKey_mk, glbKey_fold, ↓ite_glbKey, ite_self, ↓setPort_glbKey]
theorem portUp_glbKey (s : Dev) (b gig1 : Bool) :
    (s.portUp b gig1).glbKey = s.glbKey := by
  unfold Dev.portUp
  simp (disch := (first | decide | (simp only [notGlb, GLB_CYCLE_CNT, GLB_MODE_STAT, NET_STAT]; omega))) only [↓setBit_glbKey, ↓raise_glbKey, ↓ev_glbKey, ↓ite_glbKey, ite_self]
theorem portDown_glbKey (s : Dev) (b : Bool) :
    (s.portDown b).glbKey = s.glbKey := by
  unfold Dev.portDown
  simp (disch := (first | decide | (simp only [notGlb, GLB_CYCLE_CNT, GLB_MODE_STAT, NET_STAT]; omega))) only [↓setBit_glbKey, ↓raise_glbKey, ↓ev_glbKey, ↓glbKey_mk, glbKey_fold, ↓ite_glbKey, ite_self, ↓setPort_glbKey]
theorem deliverNet_glbKey (s : Dev) (f : NetFrame) :
    (s.deliverNet f).glbKey = s.glbKey := by
  unfold Dev.deliverNet
  simp (disch := (first | decide | (simp only [notGlb, GLB_CYCLE_CNT, GLB_MODE_STAT, NET_UNK_CNT]; omega))) only [↓cntSat_glbKey, ↓ite_glbKey, ite_self]
theorem rxErr_glbKey (s : Dev) (b : Bool) :
    (s.rxErr b).glbKey = s.glbKey := by
  unfold Dev.rxErr
  simp (disch := (first | decide | (simp only [notGlb, GLB_CYCLE_CNT, GLB_MODE_STAT, NET_RX_ERR]; omega))) only [↓cntSat_glbKey, ↓ite_glbKey, ite_self]
theorem dupAdd_glbKey (s : Dev) (delivery : Bool) (e : DupEntry) :
    (s.dupAdd delivery e).glbKey = s.glbKey := by
  unfold Dev.dupAdd
  simp (disch := (first | decide | (simp only [notGlb, GLB_CYCLE_CNT, GLB_MODE_STAT, NET_EVICT_CNT]; omega))) only [↓cntSat_glbKey, ↓evW_glbKey, ↓glbKey_mk, glbKey_fold, ↓ite_glbKey, ite_self]
theorem egressPut_glbKey (s : Dev) (b : Bool) (t : NetTx) :
    (s.egressPut b t).glbKey = s.glbKey := by
  unfold Dev.egressPut
  simp (disch := (first | decide | (simp only [notGlb, GLB_CYCLE_CNT, GLB_MODE_STAT, NET_DROP_CNT]; omega))) only [↓cntSat_glbKey, ↓evW_glbKey, ↓glbKey_mk, glbKey_fold, ↓ite_glbKey, ite_self, ↓setPort_glbKey]
theorem supReturn_glbKey (s : Dev) (b : Bool) :
    (s.supReturn b).glbKey = s.glbKey := by
  unfold Dev.supReturn
  simp (disch := (first | decide | (simp only [notGlb, GLB_CYCLE_CNT, GLB_MODE_STAT, NET_STAT]; omega))) only [↓setBit_glbKey, ↓ev_glbKey, ↓glbKey_mk, glbKey_fold, ↓ite_glbKey, ite_self, ↓setPort_glbKey]
theorem forward_glbKey (s : Dev) (b : Bool) (f : NetFrame) (good : Bool) :
    (s.forward b f good).glbKey = s.glbKey := by
  unfold Dev.forward
  simp (disch := (first | decide | (simp only [notGlb, GLB_CYCLE_CNT, GLB_MODE_STAT, NET_FWD_CNT, NET_PDELAY]; omega))) only [↓cntWrap_glbKey, ↓glbKey_mk, glbKey_fold, ↓ite_glbKey, ite_self, ↓dupAdd_glbKey, ↓egressPut_glbKey]
theorem hsrFrame_glbKey (s : Dev) (b : Bool) (f : NetFrame) :
    (s.hsrFrame b f).glbKey = s.glbKey := by
  unfold Dev.hsrFrame
  simp (disch := (first | decide | (simp only [notGlb, GLB_CYCLE_CNT, GLB_MODE_STAT, NET_DUP_CNT, NET_STAT]; omega))) only [↓cntWrap_glbKey, ↓ite_glbKey, ite_self, ↓deliverNet_glbKey, ↓dupAdd_glbKey, ↓forward_glbKey, ↓rxErr_glbKey, ↓supReturn_glbKey]
theorem ringFrame_glbKey (s : Dev) (b : Bool) (f : NetFrame) :
    (s.ringFrame b f).glbKey = s.glbKey := by
  unfold Dev.ringFrame
  simp (disch := (first | decide | (simp only [notGlb, GLB_CYCLE_CNT, GLB_MODE_STAT]; omega))) only [↓ite_glbKey, ite_self, ↓deliverNet_glbKey, ↓hsrFrame_glbKey, ↓rxErr_glbKey]
theorem prpFrame_glbKey (s : Dev) (b : Bool) (f : NetFrame) :
    (s.prpFrame b f).glbKey = s.glbKey := by
  unfold Dev.prpFrame
  simp (disch := (first | decide | (simp only [notGlb, GLB_CYCLE_CNT, GLB_MODE_STAT, NET_DUP_CNT, NET_WRONG_LAN]; omega))) only [↓cntSat_glbKey, ↓cntWrap_glbKey, ↓evW_glbKey, ↓ite_glbKey, ite_self, ↓deliverNet_glbKey, ↓dupAdd_glbKey, ↓rxErr_glbKey]
theorem dupExpire_glbKey (s : Dev) (delivery : Bool) (src : BitVec 48) (sq : BitVec 16) (b : Bool) :
    (s.dupExpire delivery src sq b).glbKey = s.glbKey := by
  unfold Dev.dupExpire
  simp (disch := (first | decide | (simp only [notGlb, GLB_CYCLE_CNT, GLB_MODE_STAT]; omega))) only [↓glbKey_mk, glbKey_fold, ↓ite_glbKey, ite_self]
theorem egress_glbKey (s : Dev) (b : Bool) (residence : Rat) :
    (s.egress b residence).glbKey = s.glbKey := by
  unfold Dev.egress
  (try simp (disch := (first | decide | (simp only [notGlb, GLB_CYCLE_CNT, GLB_MODE_STAT, NET_TC_CNT]; omega))) only [↓cntWrap_glbKey, ↓spend_glbKey, ↓glbKey_mk, glbKey_fold, ↓ite_glbKey, ite_self, ↓setPort_glbKey]) <;> (repeat' split) <;> (try simp (disch := (first | decide | (simp only [notGlb, GLB_CYCLE_CNT, GLB_MODE_STAT, NET_TC_CNT]; omega))) only [↓cntWrap_glbKey, ↓spend_glbKey, ↓glbKey_mk, glbKey_fold, ↓ite_glbKey, ite_self, ↓setPort_glbKey])
theorem originate_glbKey (s : Dev) (dst : BitVec 48) (etype : BitVec 16) (ctrl : Bool) (udp : Nat) (ip : Word) (payload : List Byte) :
    (s.originate dst etype ctrl udp ip payload).glbKey = s.glbKey := by
  unfold Dev.originate
  simp (disch := (first | decide | (simp only [notGlb, GLB_CYCLE_CNT, GLB_MODE_STAT, NET_VLAN]; omega))) only [↓glbKey_mk, glbKey_fold, ↓ite_glbKey, ite_self, ↓egressPut_glbKey]
theorem sendUdp_glbKey (s : Dev) (port : Nat) (payload : List Byte) :
    (s.sendUdp port payload).glbKey = s.glbKey := by
  unfold Dev.sendUdp
  simp (disch := (first | decide | (simp only [notGlb, GLB_CYCLE_CNT, GLB_MODE_STAT, NET_UDP_DST]; omega))) only [↓ite_glbKey, ite_self, ↓originate_glbKey]
theorem sendBrf_glbKey (s : Dev) (kind : Nat) (fields : List Byte) :
    (s.sendBrf kind fields).glbKey = s.glbKey := by
  unfold Dev.sendBrf
  simp (disch := (first | decide | (simp only [notGlb, GLB_CYCLE_CNT, GLB_MODE_STAT, GLB_TICK_STAT, STAND_STAT]; omega))) only [↓ite_glbKey, ite_self, ↓originate_glbKey]
theorem supervision_glbKey (s : Dev) :
    (s.supervision).glbKey = s.glbKey := by
  unfold Dev.supervision
  simp (disch := (first | decide | (simp only [notGlb, GLB_CYCLE_CNT, GLB_MODE_STAT]; omega))) only [↓ite_glbKey, ite_self, ↓originate_glbKey]
theorem ringOpen_glbKey (s : Dev) :
    (s.ringOpen).glbKey = s.glbKey := by
  unfold Dev.ringOpen
  simp (disch := (first | decide | (simp only [notGlb, GLB_CYCLE_CNT, GLB_MODE_STAT, NET_STAT]; omega))) only [↓setBit_glbKey, ↓ev_glbKey, ↓ite_glbKey, ite_self]
theorem retrain_glbKey (s : Dev) :
    (s.retrain).glbKey = s.glbKey := by
  unfold Dev.retrain
  simp (disch := (first | decide | (simp only [notGlb, GLB_CYCLE_CNT, GLB_MODE_STAT]; omega))) only [↓glbKey_mk, glbKey_fold, ↓portDown_glbKey]
theorem netWrite_glbKey (s : Dev) (a : Nat) (v : Word) :
    (s.netWrite a v).glbKey = s.glbKey := by
  unfold Dev.netWrite
  simp (disch := (first | decide | (simp only [notGlb, GLB_CYCLE_CNT, GLB_MODE_STAT, NET_CFG, NET_IP, NET_MAC_HI, NET_MAC_LO]; omega))) only [↓ev_glbKey, ↓store_glbKey, ↓glbKey_mk, glbKey_fold, ↓ite_glbKey, ite_self]
theorem showGm_glbKey (s : Dev) :
    (s.showGm).glbKey = s.glbKey := by
  unfold Dev.showGm
  (try simp (disch := (first | decide | (simp only [notGlb, GLB_CYCLE_CNT, GLB_MODE_STAT, NET_GM_ID_HI, NET_GM_ID_LO]; omega))) only [↓wrN_glbKey, ↓ev_glbKey, ↓glbKey_mk, glbKey_fold, ↓ite_glbKey, ite_self]) <;> (repeat' split) <;> (try simp (disch := (first | decide | (simp only [notGlb, GLB_CYCLE_CNT, GLB_MODE_STAT, NET_GM_ID_HI, NET_GM_ID_LO]; omega))) only [↓wrN_glbKey, ↓ev_glbKey, ↓glbKey_mk, glbKey_fold, ↓ite_glbKey, ite_self])
theorem showSlave_glbKey (s : Dev) :
    (s.showSlave).glbKey = s.glbKey := by
  unfold Dev.showSlave
  simp (disch := (first | decide | (simp only [notGlb, GLB_CYCLE_CNT, GLB_MODE_STAT, NET_TIME_STAT]; omega))) only [↓setBit_glbKey]
theorem announce_glbKey (s : Dev) (b : Bool) (a : AnnounceIn) :
    (s.announce b a).glbKey = s.glbKey := by
  unfold Dev.announce
  simp (disch := (first | decide | (simp only [notGlb, GLB_CYCLE_CNT, GLB_MODE_STAT, NET_TIME_STAT]; omega))) only [↓setBit_glbKey, ↓glbKey_mk, glbKey_fold, ↓ite_glbKey, ite_self, ↓setPort_glbKey, ↓showGm_glbKey, ↓showSlave_glbKey, ↓showTime_glbKey]
theorem sync_glbKey (s : Dev) (b : Bool) (m : SyncIn) :
    (s.sync b m).glbKey = s.glbKey := by
  unfold Dev.sync
  simp (disch := (first | decide | (simp only [notGlb, GLB_CYCLE_CNT, GLB_MODE_STAT, NET_PDELAY, NET_PTP_OFS, NET_TIME_STAT]; omega))) only [↓wr_glbKey, ↓setBit_glbKey, ↓raise_glbKey, ↓glbKey_mk, glbKey_fold, ↓ite_glbKey, ite_self, ↓changeSource_glbKey, ↓discipline_glbKey, ↓firstSet_glbKey, ↓returnRule_glbKey, ↓shiftLocal_glbKey, ↓showTime_glbKey]
theorem syncTimeout_glbKey (s : Dev) :
    (s.syncTimeout).glbKey = s.glbKey := by
  unfold Dev.syncTimeout
  simp (disch := (first | decide | (simp only [notGlb, GLB_CYCLE_CNT, GLB_MODE_STAT, NET_TIME_STAT]; omega))) only [↓setBit_glbKey, ↓raise_glbKey, ↓evI_glbKey, ↓glbKey_mk, glbKey_fold, ↓ite_glbKey, ite_self, ↓setPort_glbKey, ↓showSlave_glbKey]
theorem ptpBound_glbKey (s : Dev) :
    (s.ptpBound).glbKey = s.glbKey := by
  unfold Dev.ptpBound
  (try simp (disch := (first | decide | (simp only [notGlb, GLB_CYCLE_CNT, GLB_MODE_STAT, GNSS_HOLD_S, GNSS_TERR, NET_TIME_STAT]; omega))) only [↓wrN_glbKey, ↓glbKey_mk, glbKey_fold]) <;> (repeat' split) <;> (try simp (disch := (first | decide | (simp only [notGlb, GLB_CYCLE_CNT, GLB_MODE_STAT, GNSS_HOLD_S, GNSS_TERR, NET_TIME_STAT]; omega))) only [↓wrN_glbKey, ↓glbKey_mk, glbKey_fold])
theorem pdelaySend_glbKey (s : Dev) (b : Bool) (typ : Nat) :
    (s.pdelaySend b typ).glbKey = s.glbKey := by
  unfold Dev.pdelaySend
  simp (disch := (first | decide | (simp only [notGlb, GLB_CYCLE_CNT, GLB_MODE_STAT, NET_VLAN]; omega))) only [↓glbKey_mk, glbKey_fold, ↓ite_glbKey, ite_self, ↓egressPut_glbKey]
theorem pdelayReq_glbKey (s : Dev) (b : Bool) :
    (s.pdelayReq b).glbKey = s.glbKey := by
  unfold Dev.pdelayReq
  simp (disch := (first | decide | (simp only [notGlb, GLB_CYCLE_CNT, GLB_MODE_STAT]; omega))) only [↓pdelaySend_glbKey]
theorem pdelay_glbKey (s : Dev) (b : Bool) (m : PdelayIn) : (s.pdelay b m).glbKey = s.glbKey := by
  unfold Dev.pdelay
  have h : notGlb (NET_PDELAY b) := by cases b <;> decide
  (repeat' split) <;> simp (disch := exact h) only [pdelaySend_glbKey, setPort_glbKey, wrN_glbKey]
theorem syncSend_glbKey (s : Dev) :
    (s.syncSend).glbKey = s.glbKey := by
  unfold Dev.syncSend
  simp (disch := (first | decide | (simp only [notGlb, GLB_CYCLE_CNT, GLB_MODE_STAT, NET_TIME_STAT]; omega))) only [↓glbKey_mk, glbKey_fold, ↓ite_glbKey, ite_self, ↓originate_glbKey]
theorem announceSend_glbKey (s : Dev) :
    (s.announceSend).glbKey = s.glbKey := by
  unfold Dev.announceSend
  simp (disch := (first | decide | (simp only [notGlb, GLB_CYCLE_CNT, GLB_MODE_STAT, NET_TIME_STAT]; omega))) only [↓glbKey_mk, glbKey_fold, ↓ite_glbKey, ite_self, ↓originate_glbKey]
theorem s450_glbKey (s : Dev) (ip : Word) (bytes : List Byte) :
    (s.s450 ip bytes).glbKey = s.glbKey := by
  unfold Dev.s450
  simp (disch := (first | decide | (simp only [notGlb, GLB_CYCLE_CNT, GLB_MODE_STAT]; omega))) only [↓ite_glbKey, ite_self, ↓reportRouted_glbKey]
theorem tnow_glbKey (s : Dev) :
    (s.tnow).glbKey = s.glbKey := by
  unfold Dev.tnow
  simp (disch := (first | decide | (simp only [notGlb, GLB_CYCLE_CNT, GLB_MODE_STAT, NET_TNOW_ERA, NET_TNOW_NS]; omega))) only [↓wr_glbKey, ↓spend_glbKey]
theorem showEvt_glbKey (s : Dev) :
    (s.showEvt).glbKey = s.glbKey := by
  unfold Dev.showEvt
  simp (disch := (first | decide | (simp only [notGlb, GLB_CYCLE_CNT, GLB_MODE_STAT, NET_EVT_ERA, NET_EVT_NS, NET_EVT_STAT]; omega))) only [↓wr_glbKey, ↓setFld_glbKey, ↓setBit_glbKey]
theorem evtIn_glbKey (s : Dev) (falling : Bool) (edgeNs held : Nat) :
    (s.evtIn falling edgeNs held).glbKey = s.glbKey := by
  unfold Dev.evtIn
  simp (disch := (first | decide | (simp only [notGlb, GLB_CYCLE_CNT, GLB_MODE_STAT, NET_EVT_CFG, NET_EVT_STAT]; omega))) only [↓cntSat_glbKey, ↓raise_glbKey, ↓ev_glbKey, ↓glbKey_mk, glbKey_fold, ↓ite_glbKey, ite_self, ↓showEvt_glbKey]
theorem evtPop_glbKey (s : Dev) :
    (s.evtPop).glbKey = s.glbKey := by
  unfold Dev.evtPop
  simp (disch := (first | decide | (simp only [notGlb, GLB_CYCLE_CNT, GLB_MODE_STAT]; omega))) only [↓glbKey_mk, glbKey_fold, ↓ite_glbKey, ite_self, ↓showEvt_glbKey]
theorem alarmGo_glbKey (s : Dev) (a : Nat) (late stepped : Bool) :
    (s.alarmGo a late stepped).glbKey = s.glbKey := by
  unfold Dev.alarmGo
  simp (disch := (first | decide | (simp only [notGlb, GLB_CYCLE_CNT, GLB_MODE_STAT, NET_ALARM_CTL]; omega))) only [↓setBit_glbKey, ↓raise_glbKey, ↓ev_glbKey, ↓ite_glbKey, ite_self]
theorem alarmArm_glbKey (s : Dev) (a : Nat) (v : Word) :
    (s.alarmArm a v).glbKey = s.glbKey := by
  unfold Dev.alarmArm
  simp (disch := (first | decide | (simp only [notGlb, GLB_CYCLE_CNT, GLB_MODE_STAT, NET_ALARM_CTL]; omega))) only [↓clrMask_glbKey, ↓spend_glbKey, ↓store_glbKey, ↓ite_glbKey, ite_self, ↓alarmGo_glbKey]
theorem alarmFire_glbKey (s : Dev) (a : Nat) :
    (s.alarmFire a).glbKey = s.glbKey := by
  unfold Dev.alarmFire
  simp (disch := (first | decide | (simp only [notGlb, GLB_CYCLE_CNT, GLB_MODE_STAT, NET_ALARM_CTL]; omega))) only [↓ite_glbKey, ite_self, ↓alarmGo_glbKey]
theorem timeStep_glbKey (s : Dev) :
    (s.timeStep).glbKey = s.glbKey := by
  unfold Dev.timeStep
  (try simp (disch := first | first | decide | (simp only [notGlb, GLB_CYCLE_CNT, GLB_MODE_STAT, NET_ALARM_CTL]; omega) | (intros; (try simp (disch := (first | decide | (simp only [notGlb, GLB_CYCLE_CNT, GLB_MODE_STAT, NET_ALARM_CTL]; omega))) only [↓evI_glbKey, ↓glbKey_mk, glbKey_fold, ↓ite_glbKey, ite_self, ↓alarmGo_glbKey, ↓shiftLocal_glbKey]) <;> (repeat' split) <;> (try simp (disch := (first | decide | (simp only [notGlb, GLB_CYCLE_CNT, GLB_MODE_STAT, NET_ALARM_CTL]; omega))) only [↓evI_glbKey, ↓glbKey_mk, glbKey_fold, ↓ite_glbKey, ite_self, ↓alarmGo_glbKey, ↓shiftLocal_glbKey]))) only [↓evI_glbKey, ↓glbKey_mk, glbKey_fold, ↓ite_glbKey, ite_self, ↓alarmGo_glbKey, ↓shiftLocal_glbKey, each_glbKey]) <;> (repeat' split) <;> (try simp (disch := first | first | decide | (simp only [notGlb, GLB_CYCLE_CNT, GLB_MODE_STAT, NET_ALARM_CTL]; omega) | (intros; (try simp (disch := (first | decide | (simp only [notGlb, GLB_CYCLE_CNT, GLB_MODE_STAT, NET_ALARM_CTL]; omega))) only [↓evI_glbKey, ↓glbKey_mk, glbKey_fold, ↓ite_glbKey, ite_self, ↓alarmGo_glbKey, ↓shiftLocal_glbKey]) <;> (repeat' split) <;> (try simp (disch := (first | decide | (simp only [notGlb, GLB_CYCLE_CNT, GLB_MODE_STAT, NET_ALARM_CTL]; omega))) only [↓evI_glbKey, ↓glbKey_mk, glbKey_fold, ↓ite_glbKey, ite_self, ↓alarmGo_glbKey, ↓shiftLocal_glbKey]))) only [↓evI_glbKey, ↓glbKey_mk, glbKey_fold, ↓ite_glbKey, ite_self, ↓alarmGo_glbKey, ↓shiftLocal_glbKey, each_glbKey])
theorem latchTime_glbKey (s : Dev) :
    (s.latchTime).glbKey = s.glbKey := by
  unfold Dev.latchTime
  simp (disch := (first | decide | (simp only [notGlb, GLB_CYCLE_CNT, GLB_MODE_STAT, NET_PTP_INT, NET_TSRC_CFG]; omega))) only [↓glbKey_mk, glbKey_fold, ↓ite_glbKey, ite_self]
theorem netBoundary_glbKey (s : Dev) :
    (s.netBoundary).glbKey = s.glbKey := by
  unfold Dev.netBoundary
  simp (disch := (first | decide | (simp only [notGlb, GLB_CYCLE_CNT, GLB_MODE_STAT, NET_CFG]; omega))) only [↓glbKey_mk, glbKey_fold, ↓ite_glbKey, ite_self, ↓latchTime_glbKey, ↓ptpBound_glbKey, ↓retrain_glbKey, ↓showGm_glbKey, ↓showSlave_glbKey, ↓showTime_glbKey]
theorem setIn_glbKey (s : Dev) (i : Nat) (f : SafeInp → SafeInp) :
    (s.setIn i f).glbKey = s.glbKey := by
  unfold Dev.setIn
  simp (disch := (first | decide | (simp only [notGlb, GLB_CYCLE_CNT, GLB_MODE_STAT]; omega))) only [↓glbKey_mk, glbKey_fold]
theorem setOut_glbKey (s : Dev) (k : Nat) (f : SafeOut → SafeOut) :
    (s.setOut k f).glbKey = s.glbKey := by
  unfold Dev.setOut
  simp (disch := (first | decide | (simp only [notGlb, GLB_CYCLE_CNT, GLB_MODE_STAT]; omega))) only [↓glbKey_mk, glbKey_fold]
theorem setChan_glbKey (s : Dev) (i : Nat) (b : Bool) (f : SafeChan → SafeChan) :
    (s.setChan i b f).glbKey = s.glbKey := by
  unfold Dev.setChan
  simp (disch := (first | decide | (simp only [notGlb, GLB_CYCLE_CNT, GLB_MODE_STAT]; omega))) only [↓glbKey_mk, glbKey_fold]
theorem copyLatches_glbKey (s : Dev) :
    (s.copyLatches).glbKey = s.glbKey := by
  unfold Dev.copyLatches
  simp (disch := (first | decide | (simp only [notGlb, GLB_CYCLE_CNT, GLB_MODE_STAT]; omega))) only [↓glbKey_mk, glbKey_fold, ↓ite_glbKey, ite_self]
theorem cause_glbKey (s : Dev) (c i b : Nat) :
    (s.cause c i b).glbKey = s.glbKey := by
  unfold Dev.cause
  simp (disch := (first | decide | (simp only [notGlb, GLB_CYCLE_CNT, GLB_MODE_STAT]; omega))) only [↓glbKey_mk, glbKey_fold]
theorem latchCause_glbKey (s : Dev) (c i b : Nat) :
    (s.latchCause c i b).glbKey = s.glbKey := by
  unfold Dev.latchCause
  simp (disch := (first | decide | (simp only [notGlb, GLB_CYCLE_CNT, GLB_MODE_STAT, SAFE_CNT, SAFE_DF_ERA, SAFE_DF_STAMP, SAFE_STAT]; omega))) only [↓wr_glbKey, ↓setFld_glbKey, ↓cntSat_glbKey, ↓raise_glbKey, ↓spend_glbKey, ↓glbKey_mk, glbKey_fold]
theorem causeEvents_glbKey (s : Dev) (cs : List (Nat × Nat × Nat)) :
    (s.causeEvents cs).glbKey = s.glbKey := by
  unfold Dev.causeEvents
  simp (disch := first | first | decide | (simp only [notGlb, GLB_CYCLE_CNT, GLB_MODE_STAT]; omega) | (intros; (try simp (disch := (first | decide | (simp only [notGlb, GLB_CYCLE_CNT, GLB_MODE_STAT]; omega))) only [↓ev_glbKey]) <;> (try (split <;> simp (disch := (first | decide | (simp only [notGlb, GLB_CYCLE_CNT, GLB_MODE_STAT]; omega))) only [↓ev_glbKey])))) only [↓ev_glbKey, each_glbKey]
theorem enterDeadfall_glbKey (s : Dev) :
    (s.enterDeadfall).glbKey = s.glbKey := by
  unfold Dev.enterDeadfall
  (try simp (disch := (first | decide | (simp only [notGlb, GLB_CYCLE_CNT, GLB_MODE_STAT]; omega))) only [↓glbKey_mk, glbKey_fold, ↓ite_glbKey, ite_self, ↓causeEvents_glbKey, ↓latchCause_glbKey]) <;> (repeat' split) <;> (try simp (disch := (first | decide | (simp only [notGlb, GLB_CYCLE_CNT, GLB_MODE_STAT]; omega))) only [↓glbKey_mk, glbKey_fold, ↓ite_glbKey, ite_self, ↓causeEvents_glbKey, ↓latchCause_glbKey])
theorem ustCause_glbKey (s : Dev) (c i : Nat) :
    (s.ustCause c i).glbKey = s.glbKey := by
  unfold Dev.ustCause
  simp (disch := (first | decide | (simp only [notGlb, GLB_CYCLE_CNT, GLB_MODE_STAT]; omega))) only [↓glbKey_mk, glbKey_fold, ↓ite_glbKey, ite_self, ↓causeEvents_glbKey, ↓latchCause_glbKey]
theorem testChan_glbKey (s : Dev) (n i : Nat) (b lvl : Bool) :
    (s.testChan n i b lvl).glbKey = s.glbKey := by
  unfold Dev.testChan
  (try simp (disch := (first | decide | (simp only [notGlb, GLB_CYCLE_CNT, GLB_MODE_STAT, SAFE_IN_CFG]; omega))) only [↓glbKey_mk, glbKey_fold, ↓ite_glbKey, ite_self, ↓cause_glbKey, ↓setChan_glbKey]) <;> (repeat' split) <;> (try simp (disch := (first | decide | (simp only [notGlb, GLB_CYCLE_CNT, GLB_MODE_STAT, SAFE_IN_CFG]; omega))) only [↓glbKey_mk, glbKey_fold, ↓ite_glbKey, ite_self, ↓cause_glbKey, ↓setChan_glbKey])
theorem frameEnd_glbKey (s : Dev) :
    (s.frameEnd).glbKey = s.glbKey := by
  unfold Dev.frameEnd
  simp (disch := (first | decide | (simp only [notGlb, GLB_CYCLE_CNT, GLB_MODE_STAT]; omega))) only [↓glbKey_mk, glbKey_fold, ↓miss_glbKey]
theorem detect_glbKey (s : Dev) (i : Nat) (b lvl : Bool) :
    (s.detect i b lvl).glbKey = s.glbKey := by
  unfold Dev.detect
  simp (disch := (first | decide | (simp only [notGlb, GLB_CYCLE_CNT, GLB_MODE_STAT]; omega))) only [↓glbKey_mk, glbKey_fold, ↓ite_glbKey, ite_self, ↓setChan_glbKey]
theorem showInputs_glbKey (s : Dev) :
    (s.showInputs).glbKey = s.glbKey := by
  unfold Dev.showInputs
  simp (disch := (first | decide | (simp only [notGlb, GLB_CYCLE_CNT, GLB_MODE_STAT, SAFE_IN_DEM, SAFE_IN_LVL]; omega))) only [↓wrN_glbKey]
theorem giveStart_glbKey (s : Dev) (i : Nat) :
    (s.giveStart i).glbKey = s.glbKey := by
  unfold Dev.giveStart
  simp (disch := first | first | decide | (simp only [notGlb, GLB_CYCLE_CNT, GLB_MODE_STAT, SAFE_OUT_CFG]; omega) | (intros; (try simp (disch := (first | decide | (simp only [notGlb, GLB_CYCLE_CNT, GLB_MODE_STAT, SAFE_OUT_CFG]; omega))) only [↓glbKey_mk, glbKey_fold, ↓ite_glbKey, ite_self, ↓setOut_glbKey]) <;> (try (split <;> simp (disch := (first | decide | (simp only [notGlb, GLB_CYCLE_CNT, GLB_MODE_STAT, SAFE_OUT_CFG]; omega))) only [↓glbKey_mk, glbKey_fold, ↓ite_glbKey, ite_self, ↓setOut_glbKey])))) only [↓glbKey_mk, glbKey_fold, ↓ite_glbKey, ite_self, ↓setOut_glbKey, each_glbKey]
theorem inputTime_glbKey (s : Dev) (i : Nat) :
    (s.inputTime i).glbKey = s.glbKey := by
  unfold Dev.inputTime
  simp (disch := (first | decide | (simp only [notGlb, GLB_CYCLE_CNT, GLB_MODE_STAT]; omega))) only [↓glbKey_mk, glbKey_fold, ↓ite_glbKey, ite_self, ↓setIn_glbKey]
theorem released_glbKey (s : Dev) (i h : Nat) :
    (s.released i h).glbKey = s.glbKey := by
  unfold Dev.released
  simp (disch := (first | decide | (simp only [notGlb, GLB_CYCLE_CNT, GLB_MODE_STAT]; omega))) only [↓glbKey_mk, glbKey_fold, ↓ite_glbKey, ite_self, ↓giveStart_glbKey, ↓setIn_glbKey]
theorem startStep_glbKey (s : Dev) (i : Nat) (a b changed inTime : Bool) :
    (s.startStep i a b changed inTime).glbKey = s.glbKey := by
  unfold Dev.startStep
  (try simp (disch := (first | decide | (simp only [notGlb, GLB_CYCLE_CNT, GLB_MODE_STAT]; omega))) only [↓glbKey_mk, glbKey_fold, ↓ite_glbKey, ite_self, ↓released_glbKey, ↓setIn_glbKey]) <;> (repeat' split) <;> (try simp (disch := (first | decide | (simp only [notGlb, GLB_CYCLE_CNT, GLB_MODE_STAT]; omega))) only [↓glbKey_mk, glbKey_fold, ↓ite_glbKey, ite_self, ↓released_glbKey, ↓setIn_glbKey])
theorem inputStep_glbKey (s : Dev) (i : Nat) (chA chB : Bool) :
    (s.inputStep i chA chB).glbKey = s.glbKey := by
  unfold Dev.inputStep
  (try simp (disch := (first | decide | (simp only [notGlb, GLB_CYCLE_CNT, GLB_MODE_STAT, SAFE_CNT]; omega))) only [↓cntSat_glbKey, ↓ev_glbKey, ↓glbKey_mk, glbKey_fold, ↓ite_glbKey, ite_self, ↓setIn_glbKey, ↓startStep_glbKey]) <;> (repeat' split) <;> (try simp (disch := (first | decide | (simp only [notGlb, GLB_CYCLE_CNT, GLB_MODE_STAT, SAFE_CNT]; omega))) only [↓cntSat_glbKey, ↓ev_glbKey, ↓glbKey_mk, glbKey_fold, ↓ite_glbKey, ite_self, ↓setIn_glbKey, ↓startStep_glbKey])
theorem sampleInput_glbKey (s : Dev) (i : Nat) (a b : Bool) :
    (s.sampleInput i a b).glbKey = s.glbKey := by
  unfold Dev.sampleInput
  simp (disch := (first | decide | (simp only [notGlb, GLB_CYCLE_CNT, GLB_MODE_STAT]; omega))) only [↓ite_glbKey, ite_self, ↓detect_glbKey, ↓inputStep_glbKey]
theorem sampleInputs_glbKey (s : Dev) (n : Nat) (a b : BitVec 16) :
    (s.sampleInputs n a b).glbKey = s.glbKey := by
  unfold Dev.sampleInputs
  simp (disch := first | first | decide | (simp only [notGlb, GLB_CYCLE_CNT, GLB_MODE_STAT]; omega) | (intros; simp (disch := first | first | decide | (simp only [notGlb, GLB_CYCLE_CNT, GLB_MODE_STAT]; omega) | (intros; (try simp (disch := (first | decide | (simp only [notGlb, GLB_CYCLE_CNT, GLB_MODE_STAT]; omega))) only [↓ite_glbKey, ite_self, ↓inputTime_glbKey, ↓sampleInput_glbKey, ↓testChan_glbKey]) <;> (try (split <;> simp (disch := (first | decide | (simp only [notGlb, GLB_CYCLE_CNT, GLB_MODE_STAT]; omega))) only [↓ite_glbKey, ite_self, ↓inputTime_glbKey, ↓sampleInput_glbKey, ↓testChan_glbKey])))) only [↓ite_glbKey, ite_self, ↓inputTime_glbKey, ↓sampleInput_glbKey, ↓testChan_glbKey, each_glbKey])) only [↓ite_glbKey, ite_self, ↓inputTime_glbKey, ↓sampleInput_glbKey, ↓testChan_glbKey, each_glbKey]
theorem canopySample_glbKey (s : Dev) (a b cmpBad : BitVec 16) :
    (s.canopySample a b cmpBad).glbKey = s.glbKey := by
  unfold Dev.canopySample
  simp (disch := first | first | decide | (simp only [notGlb, GLB_CYCLE_CNT, GLB_MODE_STAT]; omega) | (intros; (try simp (disch := (first | decide | (simp only [notGlb, GLB_CYCLE_CNT, GLB_MODE_STAT]; omega))) only [↓glbKey_mk, glbKey_fold, ↓ite_glbKey, ite_self, ↓cause_glbKey, ↓frameEnd_glbKey, ↓sampleInputs_glbKey, ↓showInputs_glbKey]) <;> (try (split <;> simp (disch := (first | decide | (simp only [notGlb, GLB_CYCLE_CNT, GLB_MODE_STAT]; omega))) only [↓glbKey_mk, glbKey_fold, ↓ite_glbKey, ite_self, ↓cause_glbKey, ↓frameEnd_glbKey, ↓sampleInputs_glbKey, ↓showInputs_glbKey])))) only [↓glbKey_mk, glbKey_fold, ↓ite_glbKey, ite_self, ↓cause_glbKey, ↓frameEnd_glbKey, ↓sampleInputs_glbKey, ↓showInputs_glbKey, each_glbKey]
theorem discTimeout_glbKey (s : Dev) (i : Nat) :
    (s.discTimeout i).glbKey = s.glbKey := by
  unfold Dev.discTimeout
  (try simp (disch := (first | decide | (simp only [notGlb, GLB_CYCLE_CNT, GLB_MODE_STAT]; omega))) only [↓glbKey_mk, glbKey_fold, ↓ite_glbKey, ite_self, ↓cause_glbKey, ↓setIn_glbKey]) <;> (repeat' split) <;> (try simp (disch := (first | decide | (simp only [notGlb, GLB_CYCLE_CNT, GLB_MODE_STAT]; omega))) only [↓glbKey_mk, glbKey_fold, ↓ite_glbKey, ite_self, ↓cause_glbKey, ↓setIn_glbKey])
theorem discardDark_glbKey (s : Dev) (k : Nat) :
    (s.discardDark k).glbKey = s.glbKey := by
  unfold Dev.discardDark
  (try simp (disch := (first | decide | (simp only [notGlb, GLB_CYCLE_CNT, GLB_MODE_STAT, SAFE_DARK_CNT]; omega))) only [↓cntSat_glbKey, ↓ev_glbKey, ↓glbKey_mk, glbKey_fold, ↓ite_glbKey, ite_self]) <;> (repeat' split) <;> (try simp (disch := (first | decide | (simp only [notGlb, GLB_CYCLE_CNT, GLB_MODE_STAT, SAFE_DARK_CNT]; omega))) only [↓cntSat_glbKey, ↓ev_glbKey, ↓glbKey_mk, glbKey_fold, ↓ite_glbKey, ite_self])
theorem scanDecide_glbKey (s : Dev) (k : Nat) :
    (s.scanDecide k).glbKey = s.glbKey := by
  unfold Dev.scanDecide
  (try simp (disch := (first | decide | (simp only [notGlb, GLB_CYCLE_CNT, GLB_MODE_STAT, SAFE_OUT_CFG]; omega))) only [↓raise_glbKey, ↓ev_glbKey, ↓glbKey_mk, glbKey_fold, ↓ite_glbKey, ite_self, ↓discardDark_glbKey, ↓setOut_glbKey]) <;> (repeat' split) <;> (try simp (disch := (first | decide | (simp only [notGlb, GLB_CYCLE_CNT, GLB_MODE_STAT, SAFE_OUT_CFG]; omega))) only [↓raise_glbKey, ↓ev_glbKey, ↓glbKey_mk, glbKey_fold, ↓ite_glbKey, ite_self, ↓discardDark_glbKey, ↓setOut_glbKey])
theorem darkStart_glbKey (s : Dev) :
    (s.darkStart).glbKey = s.glbKey := by
  unfold Dev.darkStart
  (try simp (disch := (first | decide | (simp only [notGlb, GLB_CYCLE_CNT, GLB_MODE_STAT]; omega))) only [↓glbKey_mk, glbKey_fold, ↓ite_glbKey, ite_self, ↓setOut_glbKey]) <;> (repeat' split) <;> (try simp (disch := (first | decide | (simp only [notGlb, GLB_CYCLE_CNT, GLB_MODE_STAT]; omega))) only [↓glbKey_mk, glbKey_fold, ↓ite_glbKey, ite_self, ↓setOut_glbKey])
theorem scanTimes_glbKey (s : Dev) :
    (s.scanTimes).glbKey = s.glbKey := by
  unfold Dev.scanTimes
  simp (disch := (first | decide | (simp only [notGlb, GLB_CYCLE_CNT, GLB_MODE_STAT]; omega))) only [↓glbKey_mk, glbKey_fold]
theorem showResetLow_glbKey (s : Dev) (low : Option Bool) :
    (s.showResetLow low).glbKey = s.glbKey := by
  unfold Dev.showResetLow
  (try simp (disch := (first | decide | (simp only [notGlb, GLB_CYCLE_CNT, GLB_MODE_STAT, SAFE_STAT]; omega))) only [↓setBit_glbKey, ↓glbKey_mk, glbKey_fold]) <;> (repeat' split) <;> (try simp (disch := (first | decide | (simp only [notGlb, GLB_CYCLE_CNT, GLB_MODE_STAT, SAFE_STAT]; omega))) only [↓setBit_glbKey, ↓glbKey_mk, glbKey_fold])
theorem scanEnd_glbKey (s : Dev) (i : ScanIn) :
    (s.scanEnd i).glbKey = s.glbKey := by
  unfold Dev.scanEnd
  simp (disch := first | first | decide | (simp only [notGlb, GLB_CYCLE_CNT, GLB_MODE_STAT, SAFE_CNT, SAFE_OUT_RB]; omega) | (intros; (try simp (disch := (first | decide | (simp only [notGlb, GLB_CYCLE_CNT, GLB_MODE_STAT, SAFE_CNT, SAFE_OUT_RB]; omega))) only [↓wrN_glbKey, ↓cntSat_glbKey, ↓glbKey_mk, glbKey_fold, ↓ite_glbKey, ite_self, ↓cause_glbKey, ↓copyLatches_glbKey, ↓darkStart_glbKey, ↓enterDeadfall_glbKey, ↓scanDecide_glbKey, ↓scanTimes_glbKey, ↓showResetLow_glbKey]) <;> (try (split <;> simp (disch := (first | decide | (simp only [notGlb, GLB_CYCLE_CNT, GLB_MODE_STAT, SAFE_CNT, SAFE_OUT_RB]; omega))) only [↓wrN_glbKey, ↓cntSat_glbKey, ↓glbKey_mk, glbKey_fold, ↓ite_glbKey, ite_self, ↓cause_glbKey, ↓copyLatches_glbKey, ↓darkStart_glbKey, ↓enterDeadfall_glbKey, ↓scanDecide_glbKey, ↓scanTimes_glbKey, ↓showResetLow_glbKey])))) only [↓wrN_glbKey, ↓cntSat_glbKey, ↓glbKey_mk, glbKey_fold, ↓ite_glbKey, ite_self, ↓cause_glbKey, ↓copyLatches_glbKey, ↓darkStart_glbKey, ↓enterDeadfall_glbKey, ↓scanDecide_glbKey, ↓scanTimes_glbKey, ↓showResetLow_glbKey, each_glbKey]
theorem rbMismatch_glbKey (s : Dev) (k : Nat) (high : Bool) :
    (s.rbMismatch k high).glbKey = s.glbKey := by
  unfold Dev.rbMismatch
  simp (disch := (first | decide | (simp only [notGlb, GLB_CYCLE_CNT, GLB_MODE_STAT]; omega))) only [↓ite_glbKey, ite_self, ↓cause_glbKey]
theorem permitMismatch_glbKey (s : Dev) (k : Nat) :
    (s.permitMismatch k).glbKey = s.glbKey := by
  unfold Dev.permitMismatch
  simp (disch := (first | decide | (simp only [notGlb, GLB_CYCLE_CNT, GLB_MODE_STAT]; omega))) only [↓ite_glbKey, ite_self, ↓cause_glbKey]
theorem darkDue_glbKey (s : Dev) (k : Nat) :
    (s.darkDue k).glbKey = s.glbKey := by
  unfold Dev.darkDue
  simp (disch := (first | decide | (simp only [notGlb, GLB_CYCLE_CNT, GLB_MODE_STAT]; omega))) only [↓glbKey_mk, glbKey_fold, ↓ite_glbKey, ite_self, ↓setOut_glbKey]
theorem darkCheck_glbKey (s : Dev) (rbHigh : Bool) :
    (s.darkCheck rbHigh).glbKey = s.glbKey := by
  unfold Dev.darkCheck
  (try simp (disch := (first | decide | (simp only [notGlb, GLB_CYCLE_CNT, GLB_MODE_STAT, SAFE_DARK_CNT]; omega))) only [↓cntWrap_glbKey, ↓ev_glbKey, ↓glbKey_mk, glbKey_fold, ↓ite_glbKey, ite_self, ↓cause_glbKey, ↓setOut_glbKey]) <;> (repeat' split) <;> (try simp (disch := (first | decide | (simp only [notGlb, GLB_CYCLE_CNT, GLB_MODE_STAT, SAFE_DARK_CNT]; omega))) only [↓cntWrap_glbKey, ↓ev_glbKey, ↓glbKey_mk, glbKey_fold, ↓ite_glbKey, ite_self, ↓cause_glbKey, ↓setOut_glbKey])
theorem romCheck_glbKey (s : Dev) (ok : Bool) :
    (s.romCheck ok).glbKey = s.glbKey := by
  unfold Dev.romCheck
  simp (disch := (first | decide | (simp only [notGlb, GLB_CYCLE_CNT, GLB_MODE_STAT]; omega))) only [↓ite_glbKey, ite_self, ↓cause_glbKey]
theorem ustFreq_glbKey (s : Dev) (changes : Nat) :
    (s.ustFreq changes).glbKey = s.glbKey := by
  unfold Dev.ustFreq
  simp (disch := (first | decide | (simp only [notGlb, GLB_CYCLE_CNT, GLB_MODE_STAT, SAFE_UST_FREQ]; omega))) only [↓setFld_glbKey, ↓ite_glbKey, ite_self, ↓cause_glbKey]
theorem hbLost_glbKey (s : Dev) :
    (s.hbLost).glbKey = s.glbKey := by
  unfold Dev.hbLost
  simp (disch := (first | decide | (simp only [notGlb, GLB_CYCLE_CNT, GLB_MODE_STAT]; omega))) only [↓glbKey_mk, glbKey_fold, ↓ite_glbKey, ite_self, ↓ustCause_glbKey]
theorem ustFilter_glbKey (s : Dev) (i : Nat) (b closed : Bool) :
    (s.ustFilter i b closed).glbKey = s.glbKey := by
  unfold Dev.ustFilter
  simp (disch := (first | decide | (simp only [notGlb, GLB_CYCLE_CNT, GLB_MODE_STAT]; omega))) only [↓glbKey_mk, glbKey_fold, ↓ite_glbKey, ite_self, ↓setChan_glbKey]
theorem ustRb_glbKey (s : Dev) (k : Nat) :
    (s.ustRb k).glbKey = s.glbKey := by
  unfold Dev.ustRb
  simp (disch := (first | decide | (simp only [notGlb, GLB_CYCLE_CNT, GLB_MODE_STAT]; omega))) only [↓ite_glbKey, ite_self, ↓ustCause_glbKey]
theorem selfClose_glbKey (s : Dev) :
    (s.selfClose).glbKey = s.glbKey := by
  unfold Dev.selfClose
  simp (disch := (first | decide | (simp only [notGlb, GLB_CYCLE_CNT, GLB_MODE_STAT]; omega))) only [↓glbKey_mk, glbKey_fold, ↓ite_glbKey, ite_self]
theorem safeReset_glbKey (s : Dev) (ms rc : Nat) (rb : BitVec 12) (checksOk : Bool) :
    (s.safeReset ms rc rb checksOk).glbKey = s.glbKey := by
  unfold Dev.safeReset
  simp (disch := (first | decide | (simp only [notGlb, GLB_CYCLE_CNT, GLB_MODE_STAT, SAFE_RST_LAST, SAFE_STAT]; omega))) only [↓wrN_glbKey, ↓setFld_glbKey, ↓setBit_glbKey, ↓raise_glbKey, ↓ev_glbKey, ↓glbKey_mk, glbKey_fold, ↓ite_glbKey, ite_self]
theorem startInput_glbKey (s : Dev) (i : Nat) :
    (s.startInput i).glbKey = s.glbKey := by
  unfold Dev.startInput
  simp (disch := (first | decide | (simp only [notGlb, GLB_CYCLE_CNT, GLB_MODE_STAT]; omega))) only [↓glbKey_mk, glbKey_fold, ↓ite_glbKey, ite_self, ↓setIn_glbKey]
theorem canopyStartup_glbKey (s : Dev) (romOk memOk : Bool) (finding : Option (Bool × Nat × Bool)) :
    (s.canopyStartup romOk memOk finding).glbKey = s.glbKey := by
  unfold Dev.canopyStartup
  (try simp (disch := first | first | decide | (simp only [notGlb, GLB_CYCLE_CNT, GLB_MODE_STAT, PIN_CFGD, SAFE_STAT]; omega) | (intros; (try simp (disch := (first | decide | (simp only [notGlb, GLB_CYCLE_CNT, GLB_MODE_STAT, PIN_CFGD, SAFE_STAT]; omega))) only [↓setBit_glbKey, ↓ev_glbKey, ↓glbKey_mk, glbKey_fold, ↓ite_glbKey, ite_self, ↓cause_glbKey, ↓showInputs_glbKey, ↓startInput_glbKey]) <;> (repeat' split) <;> (try simp (disch := (first | decide | (simp only [notGlb, GLB_CYCLE_CNT, GLB_MODE_STAT, PIN_CFGD, SAFE_STAT]; omega))) only [↓setBit_glbKey, ↓ev_glbKey, ↓glbKey_mk, glbKey_fold, ↓ite_glbKey, ite_self, ↓cause_glbKey, ↓showInputs_glbKey, ↓startInput_glbKey]))) only [↓setBit_glbKey, ↓ev_glbKey, ↓glbKey_mk, glbKey_fold, ↓ite_glbKey, ite_self, ↓cause_glbKey, ↓showInputs_glbKey, ↓startInput_glbKey, each_glbKey]) <;> (repeat' split) <;> (try simp (disch := first | first | decide | (simp only [notGlb, GLB_CYCLE_CNT, GLB_MODE_STAT, PIN_CFGD, SAFE_STAT]; omega) | (intros; (try simp (disch := (first | decide | (simp only [notGlb, GLB_CYCLE_CNT, GLB_MODE_STAT, PIN_CFGD, SAFE_STAT]; omega))) only [↓setBit_glbKey, ↓ev_glbKey, ↓glbKey_mk, glbKey_fold, ↓ite_glbKey, ite_self, ↓cause_glbKey, ↓showInputs_glbKey, ↓startInput_glbKey]) <;> (repeat' split) <;> (try simp (disch := (first | decide | (simp only [notGlb, GLB_CYCLE_CNT, GLB_MODE_STAT, PIN_CFGD, SAFE_STAT]; omega))) only [↓setBit_glbKey, ↓ev_glbKey, ↓glbKey_mk, glbKey_fold, ↓ite_glbKey, ite_self, ↓cause_glbKey, ↓showInputs_glbKey, ↓startInput_glbKey]))) only [↓setBit_glbKey, ↓ev_glbKey, ↓glbKey_mk, glbKey_fold, ↓ite_glbKey, ite_self, ↓cause_glbKey, ↓showInputs_glbKey, ↓startInput_glbKey, each_glbKey])
theorem suspEnd_glbKey (s : Dev) :
    (s.suspEnd).glbKey = s.glbKey := by
  unfold Dev.suspEnd
  simp (disch := (first | decide | (simp only [notGlb, GLB_CYCLE_CNT, GLB_MODE_STAT]; omega))) only [↓glbKey_mk, glbKey_fold, ↓ite_glbKey, ite_self, ↓ustCause_glbKey]
theorem ustPower_glbKey (s : Dev) :
    (s.ustPower).glbKey = s.glbKey := by
  unfold Dev.ustPower
  simp (disch := (first | decide | (simp only [notGlb, GLB_CYCLE_CNT, GLB_MODE_STAT]; omega))) only [↓glbKey_mk, glbKey_fold]
theorem ustLow_glbKey (s : Dev) :
    (s.ustLow).glbKey = s.glbKey := by
  unfold Dev.ustLow
  simp (disch := (first | decide | (simp only [notGlb, GLB_CYCLE_CNT, GLB_MODE_STAT]; omega))) only [↓glbKey_mk, glbKey_fold]
theorem ustReturn_glbKey (s : Dev) :
    (s.ustReturn).glbKey = s.glbKey := by
  unfold Dev.ustReturn
  simp (disch := (first | decide | (simp only [notGlb, GLB_CYCLE_CNT, GLB_MODE_STAT]; omega))) only [↓glbKey_mk, glbKey_fold, ↓ite_glbKey, ite_self]
theorem safeAnnounce_glbKey (s : Dev) :
    (s.safeAnnounce).glbKey = s.glbKey := by
  unfold Dev.safeAnnounce
  simp (disch := first | first | decide | (simp only [notGlb, GLB_CYCLE_CNT, GLB_MODE_STAT]; omega) | (intros; (try simp (disch := (first | decide | (simp only [notGlb, GLB_CYCLE_CNT, GLB_MODE_STAT]; omega))) only [↓raise_glbKey, ↓ev_glbKey, ↓glbKey_mk, glbKey_fold, ↓ite_glbKey, ite_self, ↓setOut_glbKey]) <;> (try (split <;> simp (disch := (first | decide | (simp only [notGlb, GLB_CYCLE_CNT, GLB_MODE_STAT]; omega))) only [↓raise_glbKey, ↓ev_glbKey, ↓glbKey_mk, glbKey_fold, ↓ite_glbKey, ite_self, ↓setOut_glbKey])))) only [↓raise_glbKey, ↓ev_glbKey, ↓glbKey_mk, glbKey_fold, ↓ite_glbKey, ite_self, ↓setOut_glbKey, each_glbKey]
theorem safeRelease_glbKey (s : Dev) :
    (s.safeRelease).glbKey = s.glbKey := by
  unfold Dev.safeRelease
  simp (disch := (first | decide | (simp only [notGlb, GLB_CYCLE_CNT, GLB_MODE_STAT]; omega))) only [↓glbKey_mk, glbKey_fold]
theorem setHolds_glbKey (s : Dev) (h : Bool) :
    (s.setHolds h).glbKey = s.glbKey := by
  unfold Dev.setHolds
  simp (disch := (first | decide | (simp only [notGlb, GLB_CYCLE_CNT, GLB_MODE_STAT, STAND_STAT]; omega))) only [↓setBit_glbKey, ↓raise_glbKey, ↓glbKey_mk, glbKey_fold, ↓ite_glbKey, ite_self]
theorem selfRule_glbKey (s : Dev) :
    (s.selfRule).glbKey = s.glbKey := by
  unfold Dev.selfRule
  simp (disch := (first | decide | (simp only [notGlb, GLB_CYCLE_CNT, GLB_MODE_STAT, STAND_SDW]; omega))) only [↓glbKey_mk, glbKey_fold, ↓ite_glbKey, ite_self, ↓setHolds_glbKey]
theorem heartbeat_glbKey (s : Dev) (p : List Byte) :
    (s.heartbeat p).glbKey = s.glbKey := by
  unfold Dev.heartbeat
  (try simp (disch := (first | decide | (simp only [notGlb, GLB_CYCLE_CNT, GLB_MODE_STAT]; omega))) only [↓glbKey_mk, glbKey_fold, ↓ite_glbKey, ite_self]) <;> (repeat' split) <;> (try simp (disch := (first | decide | (simp only [notGlb, GLB_CYCLE_CNT, GLB_MODE_STAT]; omega))) only [↓glbKey_mk, glbKey_fold, ↓ite_glbKey, ite_self])
theorem countPeer_glbKey (s : Dev) (r : Nat) (hb : Option Word) : (s.countPeer r hb).glbKey = s.glbKey := by
  unfold Dev.countPeer
  have h : notGlb (peerSdw r) := by unfold peerSdw; split <;> decide
  have h' : notGlb STAND_MISS := by decide
  split
  · rfl
  · split
    · rw [wr_glbKey _ _ _ h, setFld_glbKey _ _ _ _ _ h']
    · exact setFld_glbKey _ _ _ _ _ h'
theorem transfer_glbKey (s : Dev) (second : Bool) (reason : Nat) :
    (s.transfer second reason).glbKey = s.glbKey := by
  unfold Dev.transfer
  simp (disch := (first | decide | (simp only [notGlb, GLB_CYCLE_CNT, GLB_MODE_STAT, STAND_STAT]; omega))) only [↓setFld_glbKey, ↓setBit_glbKey, ↓raise_glbKey, ↓ev_glbKey, ↓glbKey_mk, glbKey_fold]
theorem showSwapLeft_glbKey (s : Dev) :
    (s.showSwapLeft).glbKey = s.glbKey := by
  unfold Dev.showSwapLeft
  simp (disch := (first | decide | (simp only [notGlb, GLB_CYCLE_CNT, GLB_MODE_STAT, STAND_SWAP, STAND_SWAP_LEFT]; omega))) only [↓wrN_glbKey, ↓ite_glbKey, ite_self]
theorem wardenDecision_glbKey (s : Dev) :
    (s.wardenDecision).glbKey = s.glbKey := by
  unfold Dev.wardenDecision
  (try simp (disch := (first | decide | (simp only [notGlb, GLB_CYCLE_CNT, GLB_MODE_STAT]; omega))) only [↓ev_glbKey, ↓glbKey_mk, glbKey_fold, ↓ite_glbKey, ite_self, ↓transfer_glbKey]) <;> (repeat' split) <;> (try simp (disch := (first | decide | (simp only [notGlb, GLB_CYCLE_CNT, GLB_MODE_STAT]; omega))) only [↓ev_glbKey, ↓glbKey_mk, glbKey_fold, ↓ite_glbKey, ite_self, ↓transfer_glbKey])
theorem standTick2_glbKey (s : Dev) :
    (s.standTick2).glbKey = s.glbKey := by
  unfold Dev.standTick2
  simp (disch := (first | decide | (simp only [notGlb, GLB_CYCLE_CNT, GLB_MODE_STAT, STAND_MISS, STAND_SDW, STAND_STAT]; omega))) only [↓wrN_glbKey, ↓setFld_glbKey, ↓cntSat_glbKey, ↓glbKey_mk, glbKey_fold, ↓ite_glbKey, ite_self, ↓countPeer_glbKey, ↓selfRule_glbKey, ↓showSwapLeft_glbKey, ↓wardenDecision_glbKey]
theorem standingFrame_glbKey (s : Dev) (p : List Byte) :
    (s.standingFrame p).glbKey = s.glbKey := by
  unfold Dev.standingFrame
  simp (disch := (first | decide | (simp only [notGlb, GLB_CYCLE_CNT, GLB_MODE_STAT]; omega))) only [↓glbKey_mk, glbKey_fold, ↓ite_glbKey, ite_self]
theorem takeFrame_glbKey (s : Dev) :
    (s.takeFrame).glbKey = s.glbKey := by
  unfold Dev.takeFrame
  (try simp (disch := (first | decide | (simp only [notGlb, GLB_CYCLE_CNT, GLB_MODE_STAT, STAND_DSEQ, STAND_MISS, STAND_STAT]; omega))) only [↓wrN_glbKey, ↓setFld_glbKey, ↓setBit_glbKey, ↓ev_glbKey, ↓glbKey_mk, glbKey_fold, ↓ite_glbKey, ite_self]) <;> (repeat' split) <;> (try simp (disch := (first | decide | (simp only [notGlb, GLB_CYCLE_CNT, GLB_MODE_STAT, STAND_DSEQ, STAND_MISS, STAND_STAT]; omega))) only [↓wrN_glbKey, ↓setFld_glbKey, ↓setBit_glbKey, ↓ev_glbKey, ↓glbKey_mk, glbKey_fold, ↓ite_glbKey, ite_self])
theorem applyFrame_glbKey (s : Dev) :
    (s.applyFrame).glbKey = s.glbKey := by
  unfold Dev.applyFrame
  (try simp (disch := (first | decide | (simp only [notGlb, GLB_CYCLE_CNT, GLB_MODE_STAT, STAND_STAT]; omega))) only [↓setFld_glbKey, ↓setBit_glbKey, ↓raise_glbKey, ↓glbKey_mk, glbKey_fold, ↓ite_glbKey, ite_self, ↓setHolds_glbKey]) <;> (repeat' split) <;> (try simp (disch := (first | decide | (simp only [notGlb, GLB_CYCLE_CNT, GLB_MODE_STAT, STAND_STAT]; omega))) only [↓setFld_glbKey, ↓setBit_glbKey, ↓raise_glbKey, ↓glbKey_mk, glbKey_fold, ↓ite_glbKey, ite_self, ↓setHolds_glbKey])
theorem wardenGone_glbKey (s : Dev) :
    (s.wardenGone).glbKey = s.glbKey := by
  unfold Dev.wardenGone
  simp (disch := (first | decide | (simp only [notGlb, GLB_CYCLE_CNT, GLB_MODE_STAT, STAND_MISS, STAND_SDW, STAND_STAT]; omega))) only [↓wrN_glbKey, ↓setBit_glbKey, ↓ev_glbKey, ↓ite_glbKey, ite_self, ↓selfRule_glbKey]
theorem peerAbsent_glbKey (s : Dev) (_second : Bool) :
    (s.peerAbsent _second).glbKey = s.glbKey := by
  unfold Dev.peerAbsent
  simp (disch := (first | decide | (simp only [notGlb, GLB_CYCLE_CNT, GLB_MODE_STAT]; omega))) only []
theorem standingCan_glbKey (s : Dev) :
    (s.standingCan).glbKey = s.glbKey := by
  unfold Dev.standingCan
  simp (disch := first | first | decide | (simp only [notGlb, GLB_CYCLE_CNT, GLB_MODE_STAT, STAND_DSEQ, STAND_STD_CFG]; omega) | (intros; (try simp (disch := (first | decide | (simp only [notGlb, GLB_CYCLE_CNT, GLB_MODE_STAT, STAND_DSEQ, STAND_STD_CFG]; omega))) only [↓glbKey_mk, glbKey_fold, ↓ite_glbKey, ite_self, ↓enqueue_glbKey, ↓skipFrame_glbKey]) <;> (try (split <;> simp (disch := (first | decide | (simp only [notGlb, GLB_CYCLE_CNT, GLB_MODE_STAT, STAND_DSEQ, STAND_STD_CFG]; omega))) only [↓glbKey_mk, glbKey_fold, ↓ite_glbKey, ite_self, ↓enqueue_glbKey, ↓skipFrame_glbKey])))) only [↓glbKey_mk, glbKey_fold, ↓ite_glbKey, ite_self, ↓enqueue_glbKey, ↓skipFrame_glbKey, each_glbKey]
theorem standSend_glbKey (s : Dev) :
    (s.standSend).glbKey = s.glbKey := by
  unfold Dev.standSend
  simp (disch := (first | decide | (simp only [notGlb, GLB_CYCLE_CNT, GLB_MODE_STAT, STAND_DSEQ]; omega))) only [↓cntWrap_glbKey, ↓ite_glbKey, ite_self, ↓sendBrf_glbKey, ↓standingCan_glbKey]
theorem standTick78_glbKey (s : Dev) :
    (s.standTick78).glbKey = s.glbKey := by
  unfold Dev.standTick78
  simp (disch := first | first | decide | (simp only [notGlb, GLB_CYCLE_CNT, GLB_MODE_STAT, LOOP_CTX_OUTV, loopWin, profWin]; omega) | (intros; (try simp (disch := (first | decide | (simp only [notGlb, GLB_CYCLE_CNT, GLB_MODE_STAT, LOOP_CTX_OUTV, loopWin, profWin]; omega))) only [↓glbKey_mk, glbKey_fold, ↓ite_glbKey, ite_self, ↓sendBrf_glbKey]) <;> (try (split <;> simp (disch := (first | decide | (simp only [notGlb, GLB_CYCLE_CNT, GLB_MODE_STAT, LOOP_CTX_OUTV, loopWin, profWin]; omega))) only [↓glbKey_mk, glbKey_fold, ↓ite_glbKey, ite_self, ↓sendBrf_glbKey])))) only [↓glbKey_mk, glbKey_fold, ↓ite_glbKey, ite_self, ↓sendBrf_glbKey, each_glbKey]
theorem setPart_glbKey (s : Dev) (p : List Byte) :
    (s.setPart p).glbKey = s.glbKey := by
  unfold Dev.setPart
  simp (disch := (first | decide | (simp only [notGlb, GLB_CYCLE_CNT, GLB_MODE_STAT]; omega))) only [↓glbKey_mk, glbKey_fold, ↓ite_glbKey, ite_self]
theorem loadThr_glbKey (s : Dev) (e : List Byte) :
    (s.loadThr e).glbKey = s.glbKey := by
  unfold Dev.loadThr
  simp (disch := (first | decide | (simp only [notGlb, ALLOC_THR_STAT, ALLOC_ZONE_IN, GLB_CYCLE_CNT, GLB_MODE_STAT, thrWin]; omega))) only [↓setBit_glbKey, ↓glbKey_mk, glbKey_fold, ↓ite_glbKey, ite_self]
theorem divergence_glbKey (s : Dev) (es : List (List Byte)) :
    (s.divergence es).glbKey = s.glbKey := by
  unfold Dev.divergence
  (try simp (disch := (first | decide | (simp only [notGlb, GLB_CYCLE_CNT, GLB_MODE_STAT, STAND_CFG, STAND_STAT]; omega))) only [↓setBit_glbKey, ↓ev_glbKey, ↓glbKey_mk, glbKey_fold, ↓ite_glbKey, ite_self]) <;> (repeat' split) <;> (try simp (disch := (first | decide | (simp only [notGlb, GLB_CYCLE_CNT, GLB_MODE_STAT, STAND_CFG, STAND_STAT]; omega))) only [↓setBit_glbKey, ↓ev_glbKey, ↓glbKey_mk, glbKey_fold, ↓ite_glbKey, ite_self])
theorem loadSet_glbKey (s : Dev) (set : Nat) (ps : List SetPart) :
    (s.loadSet set ps).glbKey = s.glbKey := by
  unfold Dev.loadSet
  simp (disch := first | first | decide | (simp only [notGlb, GLB_CYCLE_CNT, GLB_MODE_STAT, STAND_SET_CNT, STAND_STAT]; omega) | (intros; simp (disch := first | first | decide | (simp only [notGlb, GLB_CYCLE_CNT, GLB_MODE_STAT, STAND_SET_CNT, STAND_STAT]; omega) | (intros; (try simp (disch := (first | decide | (simp only [notGlb, GLB_CYCLE_CNT, GLB_MODE_STAT, STAND_SET_CNT, STAND_STAT]; omega))) only [↓setBit_glbKey, ↓cntWrap_glbKey, ↓setGen_glbKey, ↓glbKey_mk, glbKey_fold, ↓divergence_glbKey, ↓loadThr_glbKey]) <;> (try (split <;> simp (disch := (first | decide | (simp only [notGlb, GLB_CYCLE_CNT, GLB_MODE_STAT, STAND_SET_CNT, STAND_STAT]; omega))) only [↓setBit_glbKey, ↓cntWrap_glbKey, ↓setGen_glbKey, ↓glbKey_mk, glbKey_fold, ↓divergence_glbKey, ↓loadThr_glbKey])))) only [↓setBit_glbKey, ↓cntWrap_glbKey, ↓setGen_glbKey, ↓glbKey_mk, glbKey_fold, ↓divergence_glbKey, ↓loadThr_glbKey, each_glbKey])) only [↓setBit_glbKey, ↓cntWrap_glbKey, ↓setGen_glbKey, ↓glbKey_mk, glbKey_fold, ↓divergence_glbKey, ↓loadThr_glbKey, each_glbKey]
theorem standTick79_glbKey (s : Dev) :
    (s.standTick79).glbKey = s.glbKey := by
  unfold Dev.standTick79
  (try simp (disch := first | first | decide | (simp only [notGlb, GLB_CYCLE_CNT, GLB_MODE_STAT, STAND_SET_CNT]; omega) | (intros; (try simp (disch := (first | decide | (simp only [notGlb, GLB_CYCLE_CNT, GLB_MODE_STAT, STAND_SET_CNT]; omega))) only [↓cntSat_glbKey, ↓ev_glbKey, ↓glbKey_mk, glbKey_fold, ↓ite_glbKey, ite_self, ↓loadSet_glbKey]) <;> (repeat' split) <;> (try simp (disch := (first | decide | (simp only [notGlb, GLB_CYCLE_CNT, GLB_MODE_STAT, STAND_SET_CNT]; omega))) only [↓cntSat_glbKey, ↓ev_glbKey, ↓glbKey_mk, glbKey_fold, ↓ite_glbKey, ite_self, ↓loadSet_glbKey]))) only [↓cntSat_glbKey, ↓ev_glbKey, ↓glbKey_mk, glbKey_fold, ↓ite_glbKey, ite_self, ↓loadSet_glbKey, each_glbKey]) <;> (repeat' split) <;> (try simp (disch := first | first | decide | (simp only [notGlb, GLB_CYCLE_CNT, GLB_MODE_STAT, STAND_SET_CNT]; omega) | (intros; (try simp (disch := (first | decide | (simp only [notGlb, GLB_CYCLE_CNT, GLB_MODE_STAT, STAND_SET_CNT]; omega))) only [↓cntSat_glbKey, ↓ev_glbKey, ↓glbKey_mk, glbKey_fold, ↓ite_glbKey, ite_self, ↓loadSet_glbKey]) <;> (repeat' split) <;> (try simp (disch := (first | decide | (simp only [notGlb, GLB_CYCLE_CNT, GLB_MODE_STAT, STAND_SET_CNT]; omega))) only [↓cntSat_glbKey, ↓ev_glbKey, ↓glbKey_mk, glbKey_fold, ↓ite_glbKey, ite_self, ↓loadSet_glbKey]))) only [↓cntSat_glbKey, ↓ev_glbKey, ↓glbKey_mk, glbKey_fold, ↓ite_glbKey, ite_self, ↓loadSet_glbKey, each_glbKey])
theorem loadCtxs_glbKey (s : Dev) :
    (s.loadCtxs).glbKey = s.glbKey := by
  unfold Dev.loadCtxs
  simp (disch := first | first | decide | (simp only [notGlb, GLB_CYCLE_CNT, GLB_MODE_STAT, LOOP_CTX_DV, LOOP_CTX_INTV, LOOP_CTX_OUTV, loopWin, profWin]; omega) | (intros; (try simp (disch := (first | decide | (simp only [notGlb, GLB_CYCLE_CNT, GLB_MODE_STAT, LOOP_CTX_DV, LOOP_CTX_INTV, LOOP_CTX_OUTV, loopWin, profWin]; omega))) only [↓wr_glbKey, ↓setLctx_glbKey, ↓glbKey_mk, glbKey_fold, ↓ite_glbKey, ite_self]) <;> (try (split <;> simp (disch := (first | decide | (simp only [notGlb, GLB_CYCLE_CNT, GLB_MODE_STAT, LOOP_CTX_DV, LOOP_CTX_INTV, LOOP_CTX_OUTV, loopWin, profWin]; omega))) only [↓wr_glbKey, ↓setLctx_glbKey, ↓glbKey_mk, glbKey_fold, ↓ite_glbKey, ite_self])))) only [↓wr_glbKey, ↓setLctx_glbKey, ↓glbKey_mk, glbKey_fold, ↓ite_glbKey, ite_self, each_glbKey]
theorem trackGone_glbKey (s : Dev) :
    (s.trackGone).glbKey = s.glbKey := by
  unfold Dev.trackGone
  simp (disch := (first | decide | (simp only [notGlb, GLB_CYCLE_CNT, GLB_MODE_STAT, STAND_CFG, STAND_STAT]; omega))) only [↓setBit_glbKey, ↓ev_glbKey, ↓ite_glbKey, ite_self]
theorem swapFalls_glbKey (s : Dev) :
    (s.swapFalls).glbKey = s.glbKey := by
  unfold Dev.swapFalls
  simp (disch := (first | decide | (simp only [notGlb, GLB_CYCLE_CNT, GLB_MODE_STAT, STAND_SWAP]; omega))) only [↓glbKey_mk, glbKey_fold, ↓ite_glbKey, ite_self]
theorem swapCommand_glbKey (s : Dev) :
    (s.swapCommand).glbKey = s.glbKey := by
  unfold Dev.swapCommand
  simp (disch := (first | decide | (simp only [notGlb, GLB_CYCLE_CNT, GLB_MODE_STAT]; omega))) only [↓ev_glbKey, ↓glbKey_mk, glbKey_fold, ↓ite_glbKey, ite_self, ↓sessUse_glbKey]
theorem standP0_glbKey (s : Dev) (n : Nat) :
    (s.standP0 n).glbKey = s.glbKey := by
  unfold Dev.standP0
  simp (disch := (first | decide | (simp only [notGlb, GLB_CYCLE_CNT, GLB_MODE_STAT]; omega))) only [↓ite_glbKey, ite_self, ↓standTick2_glbKey, ↓standTick79_glbKey]
theorem standStart_glbKey (s : Dev) (role : Option Nat) (unit : Nat) :
    (s.standStart role unit).glbKey = s.glbKey := by
  unfold Dev.standStart
  simp (disch := (first | decide | (simp only [notGlb, GLB_CYCLE_CNT, GLB_MODE_STAT, STAND_STAT]; omega))) only [↓wrN_glbKey, ↓glbKey_mk, glbKey_fold]
theorem showPts_glbKey (s : Dev) :
    (s.showPts).glbKey = s.glbKey := by
  unfold Dev.showPts
  simp (disch := (first | decide | (simp only [notGlb, GLB_CYCLE_CNT, GLB_MODE_STAT, THKT_STAT]; omega))) only [↓setFld_glbKey, ↓setBit_glbKey, ↓glbKey_mk, glbKey_fold, ↓ite_glbKey, ite_self]
theorem setPt_glbKey (s : Dev) (x : ThktPt) :
    (s.setPt x).glbKey = s.glbKey := by
  unfold Dev.setPt
  simp (disch := (first | decide | (simp only [notGlb, GLB_CYCLE_CNT, GLB_MODE_STAT]; omega))) only [↓glbKey_mk, glbKey_fold, ↓showPts_glbKey]
theorem freePoint_glbKey (s : Dev) (n : Nat) :
    (s.freePoint n).glbKey = s.glbKey := by
  unfold Dev.freePoint
  simp (disch := (first | decide | (simp only [notGlb, GLB_CYCLE_CNT, GLB_MODE_STAT]; omega))) only [↓glbKey_mk, glbKey_fold, ↓showPts_glbKey]
theorem showQueue_glbKey (s : Dev) :
    (s.showQueue).glbKey = s.glbKey := by
  unfold Dev.showQueue
  simp (disch := (first | decide | (simp only [notGlb, GLB_CYCLE_CNT, GLB_MODE_STAT, THKT_CREC, THKT_QUEUE]; omega))) only [↓wrN_glbKey, ↓setFld_glbKey]
theorem thktPosition_glbKey (s : Dev) :
    (s.thktPosition).glbKey = s.glbKey := by
  unfold Dev.thktPosition
  simp (disch := (first | decide | (simp only [notGlb, EST_ORIGIN_LAT, EST_ORIGIN_LON, GLB_CYCLE_CNT, GLB_MODE_STAT, GNSS_STAT]; omega))) only [↓glbKey_mk, glbKey_fold, ↓ite_glbKey, ite_self]
theorem formRecord_glbKey (s : Dev) (r : RecIn) :
    (s.formRecord r).glbKey = s.glbKey := by
  unfold Dev.formRecord
  simp (disch := (first | decide | (simp only [notGlb, GLB_CYCLE_CNT, GLB_MODE_STAT, LOG_PWR_CYC, THKT_CREC, THKT_SERIAL_HI, THKT_SERIAL_LO]; omega))) only [↓wrN_glbKey, ↓cntWrap_glbKey, ↓ev_glbKey, ↓glbKey_mk, glbKey_fold, ↓ite_glbKey, ite_self, ↓showQueue_glbKey]
theorem refuseEntry_glbKey (s : Dev) (gw code : Nat) :
    (s.refuseEntry gw code).glbKey = s.glbKey := by
  unfold Dev.refuseEntry
  (try simp (disch := (first | decide | (simp only [notGlb, GLB_CYCLE_CNT, GLB_MODE_STAT, THKT_ENT_BAD, THKT_ENT_REFUSED]; omega))) only [↓cntSat_glbKey, ↓ev_glbKey, ↓ite_glbKey, ite_self]) <;> (repeat' split) <;> (try simp (disch := (first | decide | (simp only [notGlb, GLB_CYCLE_CNT, GLB_MODE_STAT, THKT_ENT_BAD, THKT_ENT_REFUSED]; omega))) only [↓cntSat_glbKey, ↓ev_glbKey, ↓ite_glbKey, ite_self])
theorem tableFull_glbKey (s : Dev) :
    (s.tableFull).glbKey = s.glbKey := by
  unfold Dev.tableFull
  simp (disch := (first | decide | (simp only [notGlb, GLB_CYCLE_CNT, GLB_MODE_STAT, THKT_STAT]; omega))) only [↓setBit_glbKey, ↓raise_glbKey, ↓ev_glbKey, ↓glbKey_mk, glbKey_fold, ↓ite_glbKey, ite_self]
theorem collect_glbKey (s : Dev) (kind gw old new : Nat) (x : ThktPt) (ns : Option Int) :
    (s.collect kind gw old new x ns).glbKey = s.glbKey := by
  unfold Dev.collect
  simp (disch := (first | decide | (simp only [notGlb, GLB_CYCLE_CNT, GLB_MODE_STAT]; omega))) only [↓glbKey_mk, glbKey_fold]
theorem applyEntryThkt_glbKey (s : Dev) (gw : Nat) (arrival : Int) (e : List Byte) :
    (s.applyEntryThkt gw arrival e).glbKey = s.glbKey := by
  unfold Dev.applyEntryThkt
  (try simp (disch := (first | decide | (simp only [notGlb, GLB_CYCLE_CNT, GLB_MODE_STAT]; omega))) only [↓glbKey_mk, glbKey_fold, ↓ite_glbKey, ite_self, ↓collect_glbKey, ↓formRecord_glbKey, ↓refuseEntry_glbKey, ↓setPt_glbKey, ↓tableFull_glbKey]) <;> (repeat' split) <;> (try simp (disch := (first | decide | (simp only [notGlb, GLB_CYCLE_CNT, GLB_MODE_STAT]; omega))) only [↓glbKey_mk, glbKey_fold, ↓ite_glbKey, ite_self, ↓collect_glbKey, ↓formRecord_glbKey, ↓refuseEntry_glbKey, ↓setPt_glbKey, ↓tableFull_glbKey])
theorem thktFrame_glbKey (s : Dev) (ip : Word) (b : List Byte) (arrival : Int) (queued : Nat) :
    (s.thktFrame ip b arrival queued).glbKey = s.glbKey := by
  unfold Dev.thktFrame
  (try simp (disch := first | first | decide | (simp only [notGlb, GLB_CYCLE_CNT, GLB_MODE_STAT, THKT_CFG, THKT_GW_SEQ, THKT_GW_STAT, THKT_LEDGER]; omega) | (intros; (try simp (disch := (first | decide | (simp only [notGlb, GLB_CYCLE_CNT, GLB_MODE_STAT, THKT_CFG, THKT_GW_SEQ, THKT_GW_STAT, THKT_LEDGER]; omega))) only [↓wrN_glbKey, ↓setFld_glbKey, ↓setBit_glbKey, ↓cntWrap_glbKey, ↓ev_glbKey, ↓glbKey_mk, glbKey_fold, ↓ite_glbKey, ite_self, ↓applyEntryThkt_glbKey]) <;> (repeat' split) <;> (try simp (disch := (first | decide | (simp only [notGlb, GLB_CYCLE_CNT, GLB_MODE_STAT, THKT_CFG, THKT_GW_SEQ, THKT_GW_STAT, THKT_LEDGER]; omega))) only [↓wrN_glbKey, ↓setFld_glbKey, ↓setBit_glbKey, ↓cntWrap_glbKey, ↓ev_glbKey, ↓glbKey_mk, glbKey_fold, ↓ite_glbKey, ite_self, ↓applyEntryThkt_glbKey]))) only [↓wrN_glbKey, ↓setFld_glbKey, ↓setBit_glbKey, ↓cntWrap_glbKey, ↓ev_glbKey, ↓glbKey_mk, glbKey_fold, ↓ite_glbKey, ite_self, ↓applyEntryThkt_glbKey, each_glbKey]) <;> (repeat' split) <;> (try simp (disch := first | first | decide | (simp only [notGlb, GLB_CYCLE_CNT, GLB_MODE_STAT, THKT_CFG, THKT_GW_SEQ, THKT_GW_STAT, THKT_LEDGER]; omega) | (intros; (try simp (disch := (first | decide | (simp only [notGlb, GLB_CYCLE_CNT, GLB_MODE_STAT, THKT_CFG, THKT_GW_SEQ, THKT_GW_STAT, THKT_LEDGER]; omega))) only [↓wrN_glbKey, ↓setFld_glbKey, ↓setBit_glbKey, ↓cntWrap_glbKey, ↓ev_glbKey, ↓glbKey_mk, glbKey_fold, ↓ite_glbKey, ite_self, ↓applyEntryThkt_glbKey]) <;> (repeat' split) <;> (try simp (disch := (first | decide | (simp only [notGlb, GLB_CYCLE_CNT, GLB_MODE_STAT, THKT_CFG, THKT_GW_SEQ, THKT_GW_STAT, THKT_LEDGER]; omega))) only [↓wrN_glbKey, ↓setFld_glbKey, ↓setBit_glbKey, ↓cntWrap_glbKey, ↓ev_glbKey, ↓glbKey_mk, glbKey_fold, ↓ite_glbKey, ite_self, ↓applyEntryThkt_glbKey]))) only [↓wrN_glbKey, ↓setFld_glbKey, ↓setBit_glbKey, ↓cntWrap_glbKey, ↓ev_glbKey, ↓glbKey_mk, glbKey_fold, ↓ite_glbKey, ite_self, ↓applyEntryThkt_glbKey, each_glbKey])
theorem silenceOf_glbKey (s : Dev) (now : Int) (gh : Nat × Int) :
    (s.silenceOf now gh).glbKey = s.glbKey := by
  unfold Dev.silenceOf
  simp (disch := first | first | decide | (simp only [notGlb, GLB_CYCLE_CNT, GLB_MODE_STAT, THKT_CFG, THKT_GW_CFG, THKT_GW_STAT]; omega) | (intros; (try simp (disch := (first | decide | (simp only [notGlb, GLB_CYCLE_CNT, GLB_MODE_STAT, THKT_CFG, THKT_GW_CFG, THKT_GW_STAT]; omega))) only [↓setBit_glbKey, ↓raise_glbKey, ↓ev_glbKey, ↓glbKey_mk, glbKey_fold, ↓ite_glbKey, ite_self, ↓collect_glbKey, ↓setPt_glbKey]) <;> (try (split <;> simp (disch := (first | decide | (simp only [notGlb, GLB_CYCLE_CNT, GLB_MODE_STAT, THKT_CFG, THKT_GW_CFG, THKT_GW_STAT]; omega))) only [↓setBit_glbKey, ↓raise_glbKey, ↓ev_glbKey, ↓glbKey_mk, glbKey_fold, ↓ite_glbKey, ite_self, ↓collect_glbKey, ↓setPt_glbKey])))) only [↓setBit_glbKey, ↓raise_glbKey, ↓ev_glbKey, ↓glbKey_mk, glbKey_fold, ↓ite_glbKey, ite_self, ↓collect_glbKey, ↓setPt_glbKey, each_glbKey]
theorem silence_glbKey (s : Dev) (now : Int) :
    (s.silence now).glbKey = s.glbKey := by
  unfold Dev.silence
  simp (disch := first | first | decide | (simp only [notGlb, GLB_CYCLE_CNT, GLB_MODE_STAT]; omega) | (intros; (try simp (disch := (first | decide | (simp only [notGlb, GLB_CYCLE_CNT, GLB_MODE_STAT]; omega))) only [↓silenceOf_glbKey]) <;> (try (split <;> simp (disch := (first | decide | (simp only [notGlb, GLB_CYCLE_CNT, GLB_MODE_STAT]; omega))) only [↓silenceOf_glbKey])))) only [↓silenceOf_glbKey, each_glbKey]
theorem gatewayGone_glbKey (s : Dev) (g : Nat) :
    (s.gatewayGone g).glbKey = s.glbKey := by
  unfold Dev.gatewayGone
  simp (disch := first | first | decide | (simp only [notGlb, GLB_CYCLE_CNT, GLB_MODE_STAT]; omega) | (intros; (try simp (disch := (first | decide | (simp only [notGlb, GLB_CYCLE_CNT, GLB_MODE_STAT]; omega))) only [↓silenceOf_glbKey]) <;> (try (split <;> simp (disch := (first | decide | (simp only [notGlb, GLB_CYCLE_CNT, GLB_MODE_STAT]; omega))) only [↓silenceOf_glbKey])))) only [↓silenceOf_glbKey, each_glbKey]
theorem takeRelease_glbKey (s : Dev) (now : Int) (n : Nat) :
    (s.takeRelease now n).glbKey = s.glbKey := by
  unfold Dev.takeRelease
  (try simp (disch := (first | decide | (simp only [notGlb, GLB_CYCLE_CNT, GLB_MODE_STAT, THKT_REL_STAT]; omega))) only [↓wrN_glbKey, ↓ev_glbKey, ↓glbKey_mk, glbKey_fold, ↓ite_glbKey, ite_self, ↓formRecord_glbKey, ↓freePoint_glbKey, ↓refuseEntry_glbKey]) <;> (repeat' split) <;> (try simp (disch := (first | decide | (simp only [notGlb, GLB_CYCLE_CNT, GLB_MODE_STAT, THKT_REL_STAT]; omega))) only [↓wrN_glbKey, ↓ev_glbKey, ↓glbKey_mk, glbKey_fold, ↓ite_glbKey, ite_self, ↓formRecord_glbKey, ↓freePoint_glbKey, ↓refuseEntry_glbKey])
theorem takeReleases_glbKey (s : Dev) (now : Int) :
    (s.takeReleases now).glbKey = s.glbKey := by
  unfold Dev.takeReleases
  simp (disch := first | first | decide | (simp only [notGlb, GLB_CYCLE_CNT, GLB_MODE_STAT]; omega) | (intros; (try simp (disch := (first | decide | (simp only [notGlb, GLB_CYCLE_CNT, GLB_MODE_STAT]; omega))) only [↓glbKey_mk, glbKey_fold, ↓takeRelease_glbKey]) <;> (try (split <;> simp (disch := (first | decide | (simp only [notGlb, GLB_CYCLE_CNT, GLB_MODE_STAT]; omega))) only [↓glbKey_mk, glbKey_fold, ↓takeRelease_glbKey])))) only [↓glbKey_mk, glbKey_fold, ↓takeRelease_glbKey, each_glbKey]
theorem takeCorrupt_glbKey (s : Dev) (now : Int) :
    (s.takeCorrupt now).glbKey = s.glbKey := by
  unfold Dev.takeCorrupt
  simp (disch := first | first | decide | (simp only [notGlb, GLB_CYCLE_CNT, GLB_MODE_STAT]; omega) | (intros; (try simp (disch := (first | decide | (simp only [notGlb, GLB_CYCLE_CNT, GLB_MODE_STAT]; omega))) only [↓glbKey_mk, glbKey_fold, ↓ite_glbKey, ite_self, ↓formRecord_glbKey]) <;> (try (split <;> simp (disch := (first | decide | (simp only [notGlb, GLB_CYCLE_CNT, GLB_MODE_STAT]; omega))) only [↓glbKey_mk, glbKey_fold, ↓ite_glbKey, ite_self, ↓formRecord_glbKey])))) only [↓glbKey_mk, glbKey_fold, ↓ite_glbKey, ite_self, ↓formRecord_glbKey, each_glbKey]
theorem formGroup_glbKey (s : Dev) (now : Int) (xs : List ThktItem) :
    (s.formGroup now xs).glbKey = s.glbKey := by
  unfold Dev.formGroup
  (try simp (disch := (first | decide | (simp only [notGlb, GLB_CYCLE_CNT, GLB_MODE_STAT]; omega))) only [↓glbKey_mk, glbKey_fold, ↓ite_glbKey, ite_self, ↓formRecord_glbKey]) <;> (repeat' split) <;> (try simp (disch := (first | decide | (simp only [notGlb, GLB_CYCLE_CNT, GLB_MODE_STAT]; omega))) only [↓glbKey_mk, glbKey_fold, ↓ite_glbKey, ite_self, ↓formRecord_glbKey])
theorem formSingle_glbKey (s : Dev) (now : Int) (x : ThktItem) :
    (s.formSingle now x).glbKey = s.glbKey := by
  unfold Dev.formSingle
  simp (disch := (first | decide | (simp only [notGlb, GLB_CYCLE_CNT, GLB_MODE_STAT]; omega))) only [↓glbKey_mk, glbKey_fold, ↓ite_glbKey, ite_self, ↓formRecord_glbKey]
theorem closeRecords_glbKey (s : Dev) (now : Int) :
    (s.closeRecords now).glbKey = s.glbKey := by
  unfold Dev.closeRecords
  simp (disch := first | first | decide | (simp only [notGlb, GLB_CYCLE_CNT, GLB_MODE_STAT]; omega) | (intros; simp (disch := first | first | decide | (simp only [notGlb, GLB_CYCLE_CNT, GLB_MODE_STAT]; omega) | (intros; (try simp (disch := (first | decide | (simp only [notGlb, GLB_CYCLE_CNT, GLB_MODE_STAT]; omega))) only [↓glbKey_mk, glbKey_fold, ↓formGroup_glbKey, ↓formSingle_glbKey, ↓takeCorrupt_glbKey, ↓takeReleases_glbKey]) <;> (try (split <;> simp (disch := (first | decide | (simp only [notGlb, GLB_CYCLE_CNT, GLB_MODE_STAT]; omega))) only [↓glbKey_mk, glbKey_fold, ↓formGroup_glbKey, ↓formSingle_glbKey, ↓takeCorrupt_glbKey, ↓takeReleases_glbKey])))) only [↓glbKey_mk, glbKey_fold, ↓formGroup_glbKey, ↓formSingle_glbKey, ↓takeCorrupt_glbKey, ↓takeReleases_glbKey, each_glbKey])) only [↓glbKey_mk, glbKey_fold, ↓formGroup_glbKey, ↓formSingle_glbKey, ↓takeCorrupt_glbKey, ↓takeReleases_glbKey, each_glbKey]
theorem thktBoundary_glbKey (s : Dev) :
    (s.thktBoundary).glbKey = s.glbKey := by
  unfold Dev.thktBoundary
  simp (disch := (first | decide | (simp only [notGlb, GLB_CYCLE_CNT, GLB_MODE_STAT, THKT_CFG]; omega))) only [↓ite_glbKey, ite_self, ↓closeRecords_glbKey, ↓silence_glbKey, ↓thktPosition_glbKey]
theorem signHead_glbKey (s : Dev) :
    (s.signHead).glbKey = s.glbKey := by
  unfold Dev.signHead
  (try simp (disch := (first | decide | (simp only [notGlb, GLB_CYCLE_CNT, GLB_MODE_STAT]; omega))) only [↓spend_glbKey, ↓glbKey_mk, glbKey_fold, ↓ite_glbKey, ite_self]) <;> (repeat' split) <;> (try simp (disch := (first | decide | (simp only [notGlb, GLB_CYCLE_CNT, GLB_MODE_STAT]; omega))) only [↓spend_glbKey, ↓glbKey_mk, glbKey_fold, ↓ite_glbKey, ite_self])
theorem ringTakes_glbKey (s : Dev) (c : CustRec) :
    (s.ringTakes c).1.glbKey = s.glbKey := by
  unfold Dev.ringTakes
  (try simp (disch := (first | decide | (simp only [notGlb, GLB_CYCLE_CNT, GLB_MODE_STAT]; omega))) only [↓glbKey_mk, glbKey_fold, ↓ite_glbKey, ite_self, ↓report_glbKey]) <;> (repeat' split) <;> (try simp (disch := (first | decide | (simp only [notGlb, GLB_CYCLE_CNT, GLB_MODE_STAT]; omega))) only [↓glbKey_mk, glbKey_fold, ↓ite_glbKey, ite_self, ↓report_glbKey])
theorem handoff_glbKey (s : Dev) :
    (s.handoff).glbKey = s.glbKey := by
  unfold Dev.handoff
  (try simp (disch := (first | decide | (simp only [notGlb, GLB_CYCLE_CNT, GLB_MODE_STAT, THKT_CREC]; omega))) only [↓cntWrap_glbKey, ↓glbKey_mk, glbKey_fold, ↓ite_glbKey, ite_self, ↓ringTakes_glbKey, ↓showQueue_glbKey]) <;> (repeat' split) <;> (try simp (disch := (first | decide | (simp only [notGlb, GLB_CYCLE_CNT, GLB_MODE_STAT, THKT_CREC]; omega))) only [↓cntWrap_glbKey, ↓glbKey_mk, glbKey_fold, ↓ite_glbKey, ite_self, ↓ringTakes_glbKey, ↓showQueue_glbKey])
theorem releaseCommand_glbKey (s : Dev) (v : Word) :
    (s.releaseCommand v).glbKey = s.glbKey := by
  unfold Dev.releaseCommand
  simp (disch := (first | decide | (simp only [notGlb, GLB_CYCLE_CNT, GLB_MODE_STAT, THKT_REL_STAT]; omega))) only [↓wrN_glbKey, ↓glbKey_mk, glbKey_fold, ↓ite_glbKey, ite_self, ↓sessUse_glbKey]
theorem pointEcc_glbKey (s : Dev) (n ecc : Nat) :
    (s.pointEcc n ecc).glbKey = s.glbKey := by
  unfold Dev.pointEcc
  simp (disch := (first | decide | (simp only [notGlb, GLB_CYCLE_CNT, GLB_MODE_STAT, THKT_ECC]; omega))) only [↓cntSat_glbKey, ↓ev_glbKey, ↓glbKey_mk, glbKey_fold, ↓ite_glbKey, ite_self, ↓freePoint_glbKey]
theorem latchPoint_glbKey (s : Dev) (v : Word) (ecc : Nat) :
    (s.latchPoint v ecc).glbKey = s.glbKey := by
  unfold Dev.latchPoint
  simp (disch := first | first | decide | (simp only [notGlb, GLB_CYCLE_CNT, GLB_MODE_STAT, THKT_PT, THKT_PT_IDX]; omega) | (intros; (try simp (disch := (first | decide | (simp only [notGlb, GLB_CYCLE_CNT, GLB_MODE_STAT, THKT_PT, THKT_PT_IDX]; omega))) only [↓wrN_glbKey, ↓pointEcc_glbKey]) <;> (try (split <;> simp (disch := (first | decide | (simp only [notGlb, GLB_CYCLE_CNT, GLB_MODE_STAT, THKT_PT, THKT_PT_IDX]; omega))) only [↓wrN_glbKey, ↓pointEcc_glbKey])))) only [↓wrN_glbKey, ↓pointEcc_glbKey, each_glbKey]
theorem findStart_glbKey (s : Dev) (v : Word) :
    (s.findStart v).glbKey = s.glbKey := by
  unfold Dev.findStart
  simp (disch := (first | decide | (simp only [notGlb, GLB_CYCLE_CNT, GLB_MODE_STAT, THKT_FIND_HI, THKT_FIND_RES]; omega))) only [↓wrN_glbKey, ↓ite_glbKey, ite_self]
theorem findDone_glbKey (s : Dev) :
    (s.findDone).glbKey = s.glbKey := by
  unfold Dev.findDone
  (try simp (disch := (first | decide | (simp only [notGlb, GLB_CYCLE_CNT, GLB_MODE_STAT, THKT_FIND_HI, THKT_FIND_LO, THKT_FIND_RES]; omega))) only [↓wrN_glbKey, ↓glbKey_mk, glbKey_fold, ↓ite_glbKey, ite_self]) <;> (repeat' split) <;> (try simp (disch := (first | decide | (simp only [notGlb, GLB_CYCLE_CNT, GLB_MODE_STAT, THKT_FIND_HI, THKT_FIND_LO, THKT_FIND_RES]; omega))) only [↓wrN_glbKey, ↓glbKey_mk, glbKey_fold, ↓ite_glbKey, ite_self])
theorem readPoints_glbKey (s : Dev) (first count : Nat) (bad : List Nat) (corr : Nat) :
    (s.readPoints first count bad corr).1.glbKey = s.glbKey := by
  unfold Dev.readPoints
  simp (disch := first | first | decide | (simp only [notGlb, GLB_CYCLE_CNT, GLB_MODE_STAT, THKT_ECC]; omega) | (intros; (try simp (disch := (first | decide | (simp only [notGlb, GLB_CYCLE_CNT, GLB_MODE_STAT, THKT_ECC]; omega))) only [↓cntSat_glbKey, ↓pointEcc_glbKey]) <;> (try (split <;> simp (disch := (first | decide | (simp only [notGlb, GLB_CYCLE_CNT, GLB_MODE_STAT, THKT_ECC]; omega))) only [↓cntSat_glbKey, ↓pointEcc_glbKey])))) only [↓cntSat_glbKey, ↓pointEcc_glbKey, each_glbKey]
theorem setBucket_glbKey (s : Dev) (b : Bucket) :
    (s.setBucket b).glbKey = s.glbKey := by
  unfold Dev.setBucket
  simp (disch := (first | decide | (simp only [notGlb, GLB_CYCLE_CNT, GLB_MODE_STAT]; omega))) only [↓glbKey_mk, glbKey_fold, ↓ite_glbKey, ite_self]
theorem showLog_glbKey (s : Dev) :
    (s.showLog).glbKey = s.glbKey := by
  unfold Dev.showLog
  simp (disch := (first | decide | (simp only [notGlb, GLB_CYCLE_CNT, GLB_MODE_STAT, LOG_DUFF_PTR, LOG_LEDGER]; omega))) only [↓wr_glbKey, ↓wrN_glbKey, ↓setFld_glbKey]
theorem dropRecord_glbKey (s : Dev) (r : DuffRec) (ring : Bool) :
    (s.dropRecord r ring).glbKey = s.glbKey := by
  unfold Dev.dropRecord
  simp (disch := (first | decide | (simp only [notGlb, GLB_CYCLE_CNT, GLB_MODE_STAT, LOG_FROZEN_CNT, LOG_LEDGER, LOG_STAT]; omega))) only [↓cntSat_glbKey, ↓cntWrap_glbKey, ↓raise_glbKey, ↓evW_glbKey, ↓glbKey_mk, glbKey_fold, ↓ite_glbKey, ite_self]
theorem duffPut_glbKey (s : Dev) (r : DuffRec) :
    (s.duffPut r).glbKey = s.glbKey := by
  unfold Dev.duffPut
  simp (disch := (first | decide | (simp only [notGlb, GLB_CYCLE_CNT, GLB_MODE_STAT, LOG_LEDGER]; omega))) only [↓wr_glbKey, ↓cntWrap_glbKey, ↓glbKey_mk, glbKey_fold, ↓ite_glbKey, ite_self, ↓dropRecord_glbKey]
theorem placeRecord_glbKey (s : Dev) (code : Nat) (r : DuffRec) :
    (s.placeRecord code r).glbKey = s.glbKey := by
  unfold Dev.placeRecord
  simp (disch := (first | decide | (simp only [notGlb, GLB_CYCLE_CNT, GLB_MODE_STAT]; omega))) only [↓glbKey_mk, glbKey_fold, ↓ite_glbKey, ite_self, ↓dropRecord_glbKey, ↓duffPut_glbKey]
theorem eventRecord_glbKey (s : Dev) :
    (s.eventRecord).glbKey = s.glbKey := by
  unfold Dev.eventRecord
  (try simp (disch := (first | decide | (simp only [notGlb, GLB_CYCLE_CNT, GLB_MODE_STAT, LOG_LEDGER]; omega))) only [↓cntWrap_glbKey, ↓glbKey_mk, glbKey_fold, ↓ite_glbKey, ite_self, ↓placeRecord_glbKey, ↓setBucket_glbKey, ↓showLog_glbKey]) <;> (repeat' split) <;> (try simp (disch := (first | decide | (simp only [notGlb, GLB_CYCLE_CNT, GLB_MODE_STAT, LOG_LEDGER]; omega))) only [↓cntWrap_glbKey, ↓glbKey_mk, glbKey_fold, ↓ite_glbKey, ite_self, ↓placeRecord_glbKey, ↓setBucket_glbKey, ↓showLog_glbKey])
theorem emitMerged_glbKey (s : Dev) (b : Bucket) :
    (s.emitMerged b).glbKey = s.glbKey := by
  unfold Dev.emitMerged
  simp (disch := (first | decide | (simp only [notGlb, GLB_CYCLE_CNT, GLB_MODE_STAT]; omega))) only [↓spend_glbKey, ↓glbKey_mk, glbKey_fold, ↓placeRecord_glbKey]
theorem refillBuckets_glbKey (s : Dev) :
    (s.refillBuckets).glbKey = s.glbKey := by
  unfold Dev.refillBuckets
  simp (disch := first | first | decide | (simp only [notGlb, GLB_CYCLE_CNT, GLB_MODE_STAT]; omega) | (intros; (try simp (disch := (first | decide | (simp only [notGlb, GLB_CYCLE_CNT, GLB_MODE_STAT]; omega))) only [↓glbKey_mk, glbKey_fold, ↓ite_glbKey, ite_self, ↓emitMerged_glbKey, ↓setBucket_glbKey, ↓showLog_glbKey]) <;> (try (split <;> simp (disch := (first | decide | (simp only [notGlb, GLB_CYCLE_CNT, GLB_MODE_STAT]; omega))) only [↓glbKey_mk, glbKey_fold, ↓ite_glbKey, ite_self, ↓emitMerged_glbKey, ↓setBucket_glbKey, ↓showLog_glbKey])))) only [↓glbKey_mk, glbKey_fold, ↓ite_glbKey, ite_self, ↓emitMerged_glbKey, ↓setBucket_glbKey, ↓showLog_glbKey, each_glbKey]
theorem mergeAll_glbKey (s : Dev) :
    (s.mergeAll).glbKey = s.glbKey := by
  unfold Dev.mergeAll
  simp (disch := first | first | decide | (simp only [notGlb, GLB_CYCLE_CNT, GLB_MODE_STAT]; omega) | (intros; (try simp (disch := (first | decide | (simp only [notGlb, GLB_CYCLE_CNT, GLB_MODE_STAT]; omega))) only [↓glbKey_mk, glbKey_fold, ↓emitMerged_glbKey, ↓setBucket_glbKey, ↓showLog_glbKey]) <;> (try (split <;> simp (disch := (first | decide | (simp only [notGlb, GLB_CYCLE_CNT, GLB_MODE_STAT]; omega))) only [↓glbKey_mk, glbKey_fold, ↓emitMerged_glbKey, ↓setBucket_glbKey, ↓showLog_glbKey])))) only [↓glbKey_mk, glbKey_fold, ↓emitMerged_glbKey, ↓setBucket_glbKey, ↓showLog_glbKey, each_glbKey]
theorem pinUse_glbKey (s : Dev) :
    (s.pinUse).glbKey = s.glbKey := by
  unfold Dev.pinUse
  simp (disch := (first | decide | (simp only [notGlb, GLB_CYCLE_CNT, GLB_MODE_STAT, LOG_PIN_USE, LOG_STAT]; omega))) only [↓setFld_glbKey, ↓setBit_glbKey, ↓raise_glbKey, ↓ev_glbKey, ↓glbKey_mk, glbKey_fold, ↓ite_glbKey, ite_self]
theorem retireBlock_glbKey (s : Dev) (b : Nat) :
    (s.retireBlock b).glbKey = s.glbKey := by
  unfold Dev.retireBlock
  simp (disch := (first | decide | (simp only [notGlb, GLB_CYCLE_CNT, GLB_MODE_STAT, LOG_WEAR]; omega))) only [↓cntSat_glbKey, ↓ev_glbKey, ↓glbKey_mk, glbKey_fold]
theorem showCirc_glbKey (s : Dev) :
    (s.showCirc).glbKey = s.glbKey := by
  unfold Dev.showCirc
  simp (disch := (first | decide | (simp only [notGlb, GLB_CYCLE_CNT, GLB_MODE_STAT, LOG_CIRC_HEAD]; omega))) only [↓wrN_glbKey, ↓ite_glbKey, ite_self]
theorem circBlock_glbKey (s d : Dev) (h : s.circBlock = some d) : d.glbKey = s.glbKey := by
  unfold Dev.circBlock at h
  split_ifs at h
  · cases h; rfl
  · obtain ⟨b, -, rfl⟩ := Option.map_eq_some_iff.1 h; rfl
theorem circWrite_glbKey (s : Dev) (r : List Byte) (ok : Bool) :
    (s.circWrite r ok).1.glbKey = s.glbKey := by
  unfold Dev.circWrite
  split
  · rfl
  · rename_i d h
    rw [← circBlock_glbKey s d h]
    split <;> simp only [↓showCirc_glbKey, ↓retireBlock_glbKey, ↓glbKey_mk, glbKey_fold]
theorem pinWrite_glbKey (s : Dev) (r : List Byte) (ok : Bool) :
    (s.pinWrite r ok).1.glbKey = s.glbKey := by
  unfold Dev.pinWrite
  (try simp (disch := (first | decide | (simp only [notGlb, GLB_CYCLE_CNT, GLB_MODE_STAT]; omega))) only [↓glbKey_mk, glbKey_fold, ↓ite_glbKey, ite_self, ↓pinUse_glbKey, ↓retireBlock_glbKey]) <;> (repeat' split) <;> (try simp (disch := (first | decide | (simp only [notGlb, GLB_CYCLE_CNT, GLB_MODE_STAT]; omega))) only [↓glbKey_mk, glbKey_fold, ↓ite_glbKey, ite_self, ↓pinUse_glbKey, ↓retireBlock_glbKey])
theorem custWrite_glbKey (s : Dev) (c : CustRec) (ok : Bool) :
    (s.custWrite c ok).1.glbKey = s.glbKey := by
  unfold Dev.custWrite
  (try simp (disch := (first | decide | (simp only [notGlb, GLB_CYCLE_CNT, GLB_MODE_STAT]; omega))) only [↓glbKey_mk, glbKey_fold, ↓ite_glbKey, ite_self, ↓pinUse_glbKey, ↓retireBlock_glbKey]) <;> (repeat' split) <;> (try simp (disch := (first | decide | (simp only [notGlb, GLB_CYCLE_CNT, GLB_MODE_STAT]; omega))) only [↓glbKey_mk, glbKey_fold, ↓ite_glbKey, ite_self, ↓pinUse_glbKey, ↓retireBlock_glbKey])
theorem handedOff_glbKey (s : Dev) (w : Nat) :
    (s.handedOff w).glbKey = s.glbKey := by
  unfold Dev.handedOff
  simp (disch := (first | decide | (simp only [notGlb, GLB_CYCLE_CNT, GLB_MODE_STAT, LOG_LEDGER]; omega))) only [↓cntWrap_glbKey, ↓glbKey_mk, glbKey_fold]
theorem ringlogWrite_glbKey (s : Dev) (ok : Bool) :
    (s.ringlogWrite ok).glbKey = s.glbKey := by
  unfold Dev.ringlogWrite
  (try simp (disch := (first | decide | (simp only [notGlb, GLB_CYCLE_CNT, GLB_MODE_STAT, LOG_STAT]; omega))) only [↓glbKey_mk, glbKey_fold, ↓ite_glbKey, ite_self, ↓circWrite_glbKey, ↓custWrite_glbKey, ↓handedOff_glbKey, ↓pinWrite_glbKey, ↓showLog_glbKey]) <;> (repeat' split) <;> (try simp (disch := (first | decide | (simp only [notGlb, GLB_CYCLE_CNT, GLB_MODE_STAT, LOG_STAT]; omega))) only [↓glbKey_mk, glbKey_fold, ↓ite_glbKey, ite_self, ↓circWrite_glbKey, ↓custWrite_glbKey, ↓handedOff_glbKey, ↓pinWrite_glbKey, ↓showLog_glbKey])
theorem countErase_glbKey (s : Dev) (b : Nat) :
    (s.countErase b).glbKey = s.glbKey := by
  unfold Dev.countErase
  simp (disch := (first | decide | (simp only [notGlb, GLB_CYCLE_CNT, GLB_MODE_STAT, LOG_WEAR, LOG_WEAR_WARN]; omega))) only [↓setFld_glbKey, ↓ev_glbKey, ↓glbKey_mk, glbKey_fold, ↓ite_glbKey, ite_self]
theorem norErase_glbKey (s : Dev) (ok : Bool) :
    (s.norErase ok).glbKey = s.glbKey := by
  unfold Dev.norErase
  (try simp (disch := (first | decide | (simp only [notGlb, GLB_CYCLE_CNT, GLB_MODE_STAT]; omega))) only [↓glbKey_mk, glbKey_fold, ↓ite_glbKey, ite_self, ↓countErase_glbKey, ↓retireBlock_glbKey]) <;> (repeat' split) <;> (try simp (disch := (first | decide | (simp only [notGlb, GLB_CYCLE_CNT, GLB_MODE_STAT]; omega))) only [↓glbKey_mk, glbKey_fold, ↓ite_glbKey, ite_self, ↓countErase_glbKey, ↓retireBlock_glbKey])
theorem stateSave_glbKey (s : Dev) :
    (s.stateSave).glbKey = s.glbKey := by
  unfold Dev.stateSave
  simp (disch := (first | decide | (simp only [notGlb, GLB_CYCLE_CNT, GLB_MODE_STAT, LOG_OP_S, LOG_PWR_CYC]; omega))) only [↓glbKey_mk, glbKey_fold, ↓ite_glbKey, ite_self]
theorem freezeBegin_glbKey (s : Dev) :
    (s.freezeBegin).glbKey = s.glbKey := by
  unfold Dev.freezeBegin
  simp (disch := (first | decide | (simp only [notGlb, GLB_CYCLE_CNT, GLB_MODE_STAT, LOG_FREEZE, LOG_STAT]; omega))) only [↓setBit_glbKey, ↓ev_glbKey, ↓glbKey_mk, glbKey_fold, ↓ite_glbKey, ite_self, ↓sessUse_glbKey]
theorem freezeStop_glbKey (s : Dev) (why : Nat) :
    (s.freezeStop why).glbKey = s.glbKey := by
  unfold Dev.freezeStop
  simp (disch := (first | decide | (simp only [notGlb, GLB_CYCLE_CNT, GLB_MODE_STAT, LOG_FREEZE, LOG_STAT]; omega))) only [↓setBit_glbKey, ↓ev_glbKey, ↓ite_glbKey, ite_self]
theorem freezeEnd_glbKey (s : Dev) :
    (s.freezeEnd).glbKey = s.glbKey := by
  unfold Dev.freezeEnd
  simp (disch := (first | decide | (simp only [notGlb, GLB_CYCLE_CNT, GLB_MODE_STAT]; omega))) only [↓ite_glbKey, ite_self, ↓freezeStop_glbKey, ↓sessUse_glbKey]
theorem freezeExpire_glbKey (s : Dev) :
    (s.freezeExpire).glbKey = s.glbKey := by
  unfold Dev.freezeExpire
  simp (disch := (first | decide | (simp only [notGlb, GLB_CYCLE_CNT, GLB_MODE_STAT, LOG_CFG]; omega))) only [↓ite_glbKey, ite_self, ↓freezeStop_glbKey]
theorem clearCommand_glbKey (s : Dev) (v : Word) :
    (s.clearCommand v).glbKey = s.glbKey := by
  unfold Dev.clearCommand
  simp (disch := (first | decide | (simp only [notGlb, GLB_CYCLE_CNT, GLB_MODE_STAT, GLB_SESS_STAT, LOG_CLR_STAT, LOG_STAT]; omega))) only [↓wrN_glbKey, ↓setFld_glbKey, ↓setBit_glbKey, ↓ev_glbKey, ↓glbKey_mk, glbKey_fold, ↓ite_glbKey, ite_self, ↓sessUse_glbKey]
theorem clearComplete_glbKey (s : Dev) :
    (s.clearComplete).glbKey = s.glbKey := by
  unfold Dev.clearComplete
  (try simp (disch := first | first | decide | (simp only [notGlb, GLB_CYCLE_CNT, GLB_MODE_STAT, LOG_CLR_STAT, LOG_STAT]; omega) | (intros; (try simp (disch := (first | decide | (simp only [notGlb, GLB_CYCLE_CNT, GLB_MODE_STAT, LOG_CLR_STAT, LOG_STAT]; omega))) only [↓wrN_glbKey, ↓setBit_glbKey, ↓spend_glbKey, ↓glbKey_mk, glbKey_fold, ↓ite_glbKey, ite_self, ↓circWrite_glbKey, ↓countErase_glbKey, ↓pinUse_glbKey, ↓pinWrite_glbKey, ↓showCirc_glbKey]) <;> (repeat' split) <;> (try simp (disch := (first | decide | (simp only [notGlb, GLB_CYCLE_CNT, GLB_MODE_STAT, LOG_CLR_STAT, LOG_STAT]; omega))) only [↓wrN_glbKey, ↓setBit_glbKey, ↓spend_glbKey, ↓glbKey_mk, glbKey_fold, ↓ite_glbKey, ite_self, ↓circWrite_glbKey, ↓countErase_glbKey, ↓pinUse_glbKey, ↓pinWrite_glbKey, ↓showCirc_glbKey]))) only [↓wrN_glbKey, ↓setBit_glbKey, ↓spend_glbKey, ↓glbKey_mk, glbKey_fold, ↓ite_glbKey, ite_self, ↓circWrite_glbKey, ↓countErase_glbKey, ↓pinUse_glbKey, ↓pinWrite_glbKey, ↓showCirc_glbKey, each_glbKey]) <;> (repeat' split) <;> (try simp (disch := first | first | decide | (simp only [notGlb, GLB_CYCLE_CNT, GLB_MODE_STAT, LOG_CLR_STAT, LOG_STAT]; omega) | (intros; (try simp (disch := (first | decide | (simp only [notGlb, GLB_CYCLE_CNT, GLB_MODE_STAT, LOG_CLR_STAT, LOG_STAT]; omega))) only [↓wrN_glbKey, ↓setBit_glbKey, ↓spend_glbKey, ↓glbKey_mk, glbKey_fold, ↓ite_glbKey, ite_self, ↓circWrite_glbKey, ↓countErase_glbKey, ↓pinUse_glbKey, ↓pinWrite_glbKey, ↓showCirc_glbKey]) <;> (repeat' split) <;> (try simp (disch := (first | decide | (simp only [notGlb, GLB_CYCLE_CNT, GLB_MODE_STAT, LOG_CLR_STAT, LOG_STAT]; omega))) only [↓wrN_glbKey, ↓setBit_glbKey, ↓spend_glbKey, ↓glbKey_mk, glbKey_fold, ↓ite_glbKey, ite_self, ↓circWrite_glbKey, ↓countErase_glbKey, ↓pinUse_glbKey, ↓pinWrite_glbKey, ↓showCirc_glbKey]))) only [↓wrN_glbKey, ↓setBit_glbKey, ↓spend_glbKey, ↓glbKey_mk, glbKey_fold, ↓ite_glbKey, ite_self, ↓circWrite_glbKey, ↓countErase_glbKey, ↓pinUse_glbKey, ↓pinWrite_glbKey, ↓showCirc_glbKey, each_glbKey])
theorem logReports_glbKey (s : Dev) :
    (s.logReports).glbKey = s.glbKey := by
  unfold Dev.logReports
  simp (disch := first | first | decide | (simp only [notGlb, GLB_CYCLE_CNT, GLB_MODE_STAT]; omega) | (intros; (try simp (disch := (first | decide | (simp only [notGlb, GLB_CYCLE_CNT, GLB_MODE_STAT]; omega))) only [↓glbKey_mk, glbKey_fold, ↓reportRouted_glbKey]) <;> (try (split <;> simp (disch := (first | decide | (simp only [notGlb, GLB_CYCLE_CNT, GLB_MODE_STAT]; omega))) only [↓glbKey_mk, glbKey_fold, ↓reportRouted_glbKey])))) only [↓glbKey_mk, glbKey_fold, ↓reportRouted_glbKey, each_glbKey]
theorem journal_glbKey (s : Dev) (e : List Byte) :
    (s.journal e).glbKey = s.glbKey := by
  unfold Dev.journal
  simp (disch := (first | decide | (simp only [notGlb, GLB_CYCLE_CNT, GLB_MODE_STAT]; omega))) only [↓glbKey_mk, glbKey_fold, ↓ite_glbKey, ite_self]
theorem latchBand_glbKey (s : Dev) :
    (s.latchBand).glbKey = s.glbKey := by
  unfold Dev.latchBand
  simp (disch := (first | decide | (simp only [notGlb, BLZ_STAT, GLB_CYCLE_CNT, GLB_MODE_STAT]; omega))) only [↓setFld_glbKey, ↓ev_glbKey, ↓ite_glbKey, ite_self]
theorem panelBegin_glbKey (s : Dev) (again : Bool) :
    (s.panelBegin again).glbKey = s.glbKey := by
  unfold Dev.panelBegin
  simp (disch := (first | decide | (simp only [notGlb, BLZ_STAT, GLB_CYCLE_CNT, GLB_MODE_STAT, PIN_CFGD]; omega))) only [↓setFld_glbKey, ↓setBit_glbKey, ↓cntWrap_glbKey, ↓glbKey_mk, glbKey_fold, ↓ite_glbKey, ite_self, ↓journal_glbKey, ↓latchBand_glbKey]
theorem panelStart_glbKey (s : Dev) :
    (s.panelStart).glbKey = s.glbKey := by
  unfold Dev.panelStart
  simp (disch := (first | decide | (simp only [notGlb, BLZ_STAT, GLB_CYCLE_CNT, GLB_MODE_STAT]; omega))) only [↓setBit_glbKey, ↓ite_glbKey, ite_self, ↓panelBegin_glbKey]
theorem powerGood_glbKey (s : Dev) (tiles : List Nat) :
    (s.powerGood tiles).glbKey = s.glbKey := by
  unfold Dev.powerGood
  (try simp (disch := (first | decide | (simp only [notGlb, GLB_CYCLE_CNT, GLB_MODE_STAT]; omega))) only [↓glbKey_mk, glbKey_fold, ↓ite_glbKey, ite_self]) <;> (repeat' split) <;> (try simp (disch := (first | decide | (simp only [notGlb, GLB_CYCLE_CNT, GLB_MODE_STAT]; omega))) only [↓glbKey_mk, glbKey_fold, ↓ite_glbKey, ite_self])
theorem panelAbandon_glbKey (s : Dev) (i2c : Bool) :
    (s.panelAbandon i2c).glbKey = s.glbKey := by
  unfold Dev.panelAbandon
  (try simp (disch := (first | decide | (simp only [notGlb, BLZ_STAT, GLB_CYCLE_CNT, GLB_MODE_STAT]; omega))) only [↓setBit_glbKey, ↓raise_glbKey, ↓ev_glbKey, ↓glbKey_mk, glbKey_fold, ↓ite_glbKey, ite_self]) <;> (repeat' split) <;> (try simp (disch := (first | decide | (simp only [notGlb, BLZ_STAT, GLB_CYCLE_CNT, GLB_MODE_STAT]; omega))) only [↓setBit_glbKey, ↓raise_glbKey, ↓ev_glbKey, ↓glbKey_mk, glbKey_fold, ↓ite_glbKey, ite_self])
theorem panelEnd_glbKey (s : Dev) :
    (s.panelEnd).glbKey = s.glbKey := by
  unfold Dev.panelEnd
  (try simp (disch := (first | decide | (simp only [notGlb, BLZ_RC_MAX, BLZ_STAT, BLZ_UPD_CNT, GLB_CYCLE_CNT, GLB_MODE_STAT]; omega))) only [↓setFld_glbKey, ↓setBit_glbKey, ↓cntWrap_glbKey, ↓ev_glbKey, ↓glbKey_mk, glbKey_fold, ↓ite_glbKey, ite_self, ↓journal_glbKey, ↓panelBegin_glbKey]) <;> (repeat' split) <;> (try simp (disch := (first | decide | (simp only [notGlb, BLZ_RC_MAX, BLZ_STAT, BLZ_UPD_CNT, GLB_CYCLE_CNT, GLB_MODE_STAT]; omega))) only [↓setFld_glbKey, ↓setBit_glbKey, ↓cntWrap_glbKey, ↓ev_glbKey, ↓glbKey_mk, glbKey_fold, ↓ite_glbKey, ite_self, ↓journal_glbKey, ↓panelBegin_glbKey])
theorem panelRetry_glbKey (s : Dev) :
    (s.panelRetry).glbKey = s.glbKey := by
  unfold Dev.panelRetry
  simp (disch := (first | decide | (simp only [notGlb, GLB_CYCLE_CNT, GLB_MODE_STAT]; omega))) only [↓ite_glbKey, ite_self, ↓panelBegin_glbKey]
theorem panelTemp_glbKey (s : Dev) (reading : Option Int) :
    (s.panelTemp reading).glbKey = s.glbKey := by
  unfold Dev.panelTemp
  (try simp (disch := (first | decide | (simp only [notGlb, BLZ_STAT, BLZ_TEMP, GLB_CYCLE_CNT, GLB_MODE_STAT]; omega))) only [↓setFld_glbKey, ↓setBit_glbKey, ↓ev_glbKey, ↓glbKey_mk, glbKey_fold, ↓ite_glbKey, ite_self]) <;> (repeat' split) <;> (try simp (disch := (first | decide | (simp only [notGlb, BLZ_STAT, BLZ_TEMP, GLB_CYCLE_CNT, GLB_MODE_STAT]; omega))) only [↓setFld_glbKey, ↓setBit_glbKey, ↓ev_glbKey, ↓glbKey_mk, glbKey_fold, ↓ite_glbKey, ite_self])
theorem barkMeasure_glbKey (s : Dev) (ohms : Nat) :
    (s.barkMeasure ohms).glbKey = s.glbKey := by
  unfold Dev.barkMeasure
  simp (disch := (first | decide | (simp only [notGlb, BLZ_BARK, BLZ_STAT, GLB_CYCLE_CNT, GLB_MODE_STAT, PIN_CFGD]; omega))) only [↓setFld_glbKey, ↓setBit_glbKey, ↓raise_glbKey, ↓ev_glbKey, ↓glbKey_mk, glbKey_fold, ↓ite_glbKey, ite_self]
theorem ringcountSave_glbKey (s : Dev) :
    (s.ringcountSave).glbKey = s.glbKey := by
  unfold Dev.ringcountSave
  simp (disch := (first | decide | (simp only [notGlb, GLB_CYCLE_CNT, GLB_MODE_STAT]; omega))) only [↓glbKey_mk, glbKey_fold, ↓ite_glbKey, ite_self]
theorem panelBoot_glbKey (s : Dev) (temp : Option Int) :
    (s.panelBoot temp).glbKey = s.glbKey := by
  unfold Dev.panelBoot
  (try simp (disch := (first | decide | (simp only [notGlb, BLZ_RC_MAX, BLZ_STAT, GLB_CYCLE_CNT, GLB_MODE_STAT]; omega))) only [↓setFld_glbKey, ↓setBit_glbKey, ↓ev_glbKey, ↓glbKey_mk, glbKey_fold, ↓ite_glbKey, ite_self, ↓journal_glbKey, ↓latchBand_glbKey, ↓panelTemp_glbKey]) <;> (repeat' split) <;> (try simp (disch := (first | decide | (simp only [notGlb, BLZ_RC_MAX, BLZ_STAT, GLB_CYCLE_CNT, GLB_MODE_STAT]; omega))) only [↓setFld_glbKey, ↓setBit_glbKey, ↓ev_glbKey, ↓glbKey_mk, glbKey_fold, ↓ite_glbKey, ite_self, ↓journal_glbKey, ↓latchBand_glbKey, ↓panelTemp_glbKey])
theorem withShadow_glbKey (s : Dev) (ws : List (Nat × Word)) : (s.withShadow ws).glbKey = s.glbKey := by
  unfold Dev.withShadow
  refine each_glbKey _ _ _ fun d w => ?_
  split
  · rfl
  · rename_i r h
    split
    · rfl
    · exact maskWr_glbKey d w.1 r.com w.2 fun hw => (by rcases hw with hw | hw <;> rw [hw] at h; exacts [modeCom r h, cycCom r h])
theorem commitCtx_glbKey (old s : Dev) (c : Nat) : (commitCtx old s c).glbKey = s.glbKey := by
  unfold commitCtx
  simp (disch := (simp only [notGlb, GLB_MODE_STAT, GLB_CYCLE_CNT, LOOP_CTX_OUTV, LOOP_CTX_INTV, LOOP_CTX_ERRV, LOOP_CTX_SPV, LOOP_CTX_FBV, LOOP_CTX_DV, LOOP_CTX_STAT, loopWin]; omega)) only [Dev.each, List.foldl_cons, List.foldl_nil, ite_glbKey, wr_glbKey, setLctx_glbKey, setCtxState_glbKey, toClearing_glbKey, ite_self]
theorem commitGen_glbKey (old : Dev) (s : Dev) (g : Nat) :
    (commitGen old s g).glbKey = s.glbKey := by
  unfold commitGen
  simp (disch := (first | decide | (simp only [notGlb, GLB_CYCLE_CNT, GLB_MODE_STAT, PROF_AMAX, PROF_JMAX, PROF_STAT, PROF_VMAX, loopWin, profWin]; omega))) only [↓wr_glbKey, ↓setBit_glbKey, ↓setGen_glbKey, ↓glbKey_mk, glbKey_fold, ↓ite_glbKey, ite_self, ↓showGen_glbKey]
theorem commitField_glbKey (old : Dev) (s : Dev) (k : Nat) :
    (commitField old s k).glbKey = s.glbKey := by
  unfold commitField
  simp (disch := (first | decide | (simp only [notGlb, CAN_RX_FLD, GLB_CYCLE_CNT, GLB_MODE_STAT]; omega))) only [↓glbKey_mk, glbKey_fold, ↓ite_glbKey, ite_self]
theorem withTables_glbKey (old : Dev) (ws : List (Nat × Word)) (est : Option (List Byte)) :
    (old.withTables ws est).glbKey = old.glbKey := by
  unfold Dev.withTables
  (try simp (disch := (first | decide | (simp only [notGlb, GLB_CYCLE_CNT, GLB_MODE_STAT]; omega))) only [↓glbKey_mk, glbKey_fold, ↓withShadow_glbKey]) <;> (repeat' split) <;> (try simp (disch := (first | decide | (simp only [notGlb, GLB_CYCLE_CNT, GLB_MODE_STAT]; omega))) only [↓glbKey_mk, glbKey_fold, ↓withShadow_glbKey])
theorem commitApply_glbKey (old : Dev) (ws : List (Nat × Word)) (sects : List Nat) (est : Option (List Byte)) :
    (old.commitApply ws sects est).glbKey = old.glbKey := by
  unfold Dev.commitApply
  simp (disch := first | first | decide | (simp only [notGlb, GLB_CYCLE_CNT, GLB_MODE_STAT]; omega) | (intros; simp (disch := first | first | decide | (simp only [notGlb, GLB_CYCLE_CNT, GLB_MODE_STAT]; omega) | (intros; (try simp (disch := (first | decide | (simp only [notGlb, GLB_CYCLE_CNT, GLB_MODE_STAT]; omega))) only [↓ev_glbKey, ↓glbKey_mk, glbKey_fold, ↓ite_glbKey, ite_self, ↓allocCommit_glbKey, ↓commitCtx_glbKey, ↓commitField_glbKey, ↓commitGen_glbKey, ↓refsCommit_glbKey, ↓withTables_glbKey]) <;> (try (split <;> simp (disch := (first | decide | (simp only [notGlb, GLB_CYCLE_CNT, GLB_MODE_STAT]; omega))) only [↓ev_glbKey, ↓glbKey_mk, glbKey_fold, ↓ite_glbKey, ite_self, ↓allocCommit_glbKey, ↓commitCtx_glbKey, ↓commitField_glbKey, ↓commitGen_glbKey, ↓refsCommit_glbKey, ↓withTables_glbKey])))) only [↓ev_glbKey, ↓glbKey_mk, glbKey_fold, ↓ite_glbKey, ite_self, ↓allocCommit_glbKey, ↓commitCtx_glbKey, ↓commitField_glbKey, ↓commitGen_glbKey, ↓refsCommit_glbKey, ↓withTables_glbKey, each_glbKey])) only [↓ev_glbKey, ↓glbKey_mk, glbKey_fold, ↓ite_glbKey, ite_self, ↓allocCommit_glbKey, ↓commitCtx_glbKey, ↓commitField_glbKey, ↓commitGen_glbKey, ↓refsCommit_glbKey, ↓withTables_glbKey, each_glbKey]
theorem dieTemps_glbKey (s : Dev) (ts : List Int) :
    (s.dieTemps ts).glbKey = s.glbKey := by
  unfold Dev.dieTemps
  simp (disch := first | first | decide | (simp only [notGlb, GLB_CYCLE_CNT, GLB_MODE_STAT, GLB_TEMP, GLB_TJ_WARN]; omega) | (intros; (try simp (disch := (first | decide | (simp only [notGlb, GLB_CYCLE_CNT, GLB_MODE_STAT, GLB_TEMP, GLB_TJ_WARN]; omega))) only [↓setFld_glbKey, ↓setBit_glbKey, ↓raise_glbKey, ↓evI_glbKey, ↓ite_glbKey, ite_self, ↓acqTemp_glbKey]) <;> (try (split <;> simp (disch := (first | decide | (simp only [notGlb, GLB_CYCLE_CNT, GLB_MODE_STAT, GLB_TEMP, GLB_TJ_WARN]; omega))) only [↓setFld_glbKey, ↓setBit_glbKey, ↓raise_glbKey, ↓evI_glbKey, ↓ite_glbKey, ite_self, ↓acqTemp_glbKey])))) only [↓setFld_glbKey, ↓setBit_glbKey, ↓raise_glbKey, ↓evI_glbKey, ↓ite_glbKey, ite_self, ↓acqTemp_glbKey, each_glbKey]
theorem supplies_glbKey (s : Dev) (mv : List Nat) :
    (s.supplies mv).glbKey = s.glbKey := by
  unfold Dev.supplies
  simp (disch := first | first | decide | (simp only [notGlb, GLB_CYCLE_CNT, GLB_MODE_STAT, GLB_SUP]; omega) | (intros; (try simp (disch := (first | decide | (simp only [notGlb, GLB_CYCLE_CNT, GLB_MODE_STAT, GLB_SUP]; omega))) only [↓setFld_glbKey, ↓glbKey_mk, glbKey_fold, ↓ite_glbKey, ite_self]) <;> (try (split <;> simp (disch := (first | decide | (simp only [notGlb, GLB_CYCLE_CNT, GLB_MODE_STAT, GLB_SUP]; omega))) only [↓setFld_glbKey, ↓glbKey_mk, glbKey_fold, ↓ite_glbKey, ite_self])))) only [↓setFld_glbKey, ↓glbKey_mk, glbKey_fold, ↓ite_glbKey, ite_self, each_glbKey]
theorem supplyFault_glbKey (s : Dev) (m : Nat) (high : Bool) :
    (s.supplyFault m high).glbKey = s.glbKey := by
  unfold Dev.supplyFault
  simp (disch := (first | decide | (simp only [notGlb, GLB_CYCLE_CNT, GLB_MODE_STAT, GLB_SUP]; omega))) only [↓setBit_glbKey, ↓raise_glbKey, ↓ev_glbKey, ↓ite_glbKey, ite_self]
theorem showFuses_glbKey (s : Dev) :
    (s.showFuses).glbKey = s.glbKey := by
  unfold Dev.showFuses
  simp (disch := (first | decide | (simp only [notGlb, GLB_CYCLE_CNT, GLB_MODE_STAT, GLB_OWNER, GLB_RB]; omega))) only [↓wrN_glbKey]
theorem enrolOwner_glbKey (s : Dev) (k : Nat) (burnOk : Bool) :
    (s.enrolOwner k burnOk).glbKey = s.glbKey := by
  unfold Dev.enrolOwner
  simp (disch := (first | decide | (simp only [notGlb, GLB_CYCLE_CNT, GLB_ENROL_STAT, GLB_MODE_STAT]; omega))) only [↓setFld_glbKey, ↓ev_glbKey, ↓glbKey_mk, glbKey_fold, ↓ite_glbKey, ite_self, ↓sessUse_glbKey, ↓showFuses_glbKey]
theorem revokeOwner_glbKey (s : Dev) (k : Nat) (burnOk : Bool) :
    (s.revokeOwner k burnOk).glbKey = s.glbKey := by
  unfold Dev.revokeOwner
  simp (disch := (first | decide | (simp only [notGlb, GLB_CYCLE_CNT, GLB_ENROL_STAT, GLB_MODE_STAT]; omega))) only [↓setFld_glbKey, ↓ev_glbKey, ↓glbKey_mk, glbKey_fold, ↓ite_glbKey, ite_self, ↓sessUse_glbKey, ↓showFuses_glbKey]
theorem imgStat_glbKey (s : Dev) (state res : Nat) (b : List Byte) :
    (s.imgStat state res b).glbKey = s.glbKey := by
  unfold Dev.imgStat
  simp (disch := (first | decide | (simp only [notGlb, GLB_CYCLE_CNT, GLB_IMG_STAT, GLB_MODE_STAT]; omega))) only [↓wrN_glbKey]
theorem imageDone_glbKey (s : Dev) (j : ImgJob) (res : Nat) :
    (s.imageDone j res).glbKey = s.glbKey := by
  unfold Dev.imageDone
  (try simp (disch := (first | decide | (simp only [notGlb, GLB_CYCLE_CNT, GLB_MODE_STAT]; omega))) only [↓raise_glbKey, ↓glbKey_mk, glbKey_fold, ↓ite_glbKey, ite_self, ↓complete_glbKey, ↓imgStat_glbKey]) <;> (repeat' split) <;> (try simp (disch := (first | decide | (simp only [notGlb, GLB_CYCLE_CNT, GLB_MODE_STAT]; omega))) only [↓raise_glbKey, ↓glbKey_mk, glbKey_fold, ↓ite_glbKey, ite_self, ↓complete_glbKey, ↓imgStat_glbKey])
theorem imageReject_glbKey (s : Dev) (j : ImgJob) (res : Nat) :
    (s.imageReject j res).glbKey = s.glbKey := by
  unfold Dev.imageReject
  simp (disch := (first | decide | (simp only [notGlb, GLB_CYCLE_CNT, GLB_MODE_STAT]; omega))) only [↓ev_glbKey, ↓imageDone_glbKey]
theorem imageBurn_glbKey (s : Dev) (j : ImgJob) (res : Nat) :
    (s.imageBurn j res).glbKey = s.glbKey := by
  unfold Dev.imageBurn
  simp (disch := (first | decide | (simp only [notGlb, GLB_CYCLE_CNT, GLB_MODE_STAT]; omega))) only [↓glbKey_mk, glbKey_fold, ↓ite_glbKey, ite_self, ↓imageDone_glbKey, ↓imgStat_glbKey]
theorem burnFuses_glbKey (s : Dev) :
    (s.burnFuses).glbKey = s.glbKey := by
  unfold Dev.burnFuses
  (try simp (disch := (first | decide | (simp only [notGlb, GLB_CYCLE_CNT, GLB_MODE_STAT]; omega))) only [↓ev_glbKey, ↓glbKey_mk, glbKey_fold, ↓imageDone_glbKey, ↓showFuses_glbKey]) <;> (repeat' split) <;> (try simp (disch := (first | decide | (simp only [notGlb, GLB_CYCLE_CNT, GLB_MODE_STAT]; omega))) only [↓ev_glbKey, ↓glbKey_mk, glbKey_fold, ↓imageDone_glbKey, ↓showFuses_glbKey])
theorem imageToStore_glbKey (s : Dev) (j : ImgJob) :
    (s.imageToStore j).glbKey = s.glbKey := by
  unfold Dev.imageToStore
  simp (disch := (first | decide | (simp only [notGlb, GLB_CYCLE_CNT, GLB_MODE_STAT]; omega))) only [↓glbKey_mk, glbKey_fold, ↓ite_glbKey, ite_self, ↓imageBurn_glbKey, ↓imageDone_glbKey, ↓imgStat_glbKey]
theorem imageSaved_glbKey (s : Dev) (ok : Bool) (block : Nat) :
    (s.imageSaved ok block).glbKey = s.glbKey := by
  unfold Dev.imageSaved
  (try simp (disch := (first | decide | (simp only [notGlb, GLB_CYCLE_CNT, GLB_MODE_STAT]; omega))) only [↓ev_glbKey, ↓store_glbKey, ↓glbKey_mk, glbKey_fold, ↓ite_glbKey, ite_self, ↓imageBurn_glbKey, ↓imageDone_glbKey]) <;> (repeat' split) <;> (try simp (disch := (first | decide | (simp only [notGlb, GLB_CYCLE_CNT, GLB_MODE_STAT]; omega))) only [↓ev_glbKey, ↓store_glbKey, ↓glbKey_mk, glbKey_fold, ↓ite_glbKey, ite_self, ↓imageBurn_glbKey, ↓imageDone_glbKey])
theorem imageInForce_glbKey (s : Dev) (b : List Byte) :
    (s.imageInForce b).glbKey = s.glbKey := by
  unfold Dev.imageInForce
  simp (disch := (first | decide | (simp only [notGlb, GLB_CYCLE_CNT, GLB_MODE_STAT]; omega))) only [↓ev_glbKey, ↓glbKey_mk, glbKey_fold]
theorem bootWrites_glbKey (s : Dev) (ws : List (Nat × Word)) : (s.bootWrites ws).glbKey = s.glbKey := by
  unfold Dev.bootWrites
  refine each_glbKey _ _ _ fun d w => ?_
  exact maskWr_glbKey d w.1 _ w.2 fun hw => by rcases hw with hw | hw <;> rw [hw] <;> decide
theorem loadSlot_glbKey (b : List Byte) (s : Dev) (e : List Byte) :
    (Dev.loadSlot b s e).glbKey = s.glbKey := by
  unfold Dev.loadSlot
  simp (disch := (first | decide | (simp only [notGlb, GLB_CYCLE_CNT, GLB_MODE_STAT, GLB_SLOT]; omega))) only [↓setFld_glbKey, ↓glbKey_mk, glbKey_fold, ↓ite_glbKey, ite_self]
theorem bootHeartwood_glbKey (s : Dev) (j : Option ImgJob) :
    (s.bootHeartwood j).glbKey = s.glbKey := by
  unfold Dev.bootHeartwood
  (try simp (disch := first | first | decide | (simp only [notGlb, GLB_CYCLE_CNT, GLB_HW_STAT, GLB_MODE_STAT]; omega) | (intros; (try simp (disch := (first | decide | (simp only [notGlb, GLB_CYCLE_CNT, GLB_HW_STAT, GLB_MODE_STAT]; omega))) only [↓setBit_glbKey, ↓glbKey_mk, glbKey_fold, ↓bootWrites_glbKey, ↓imageInForce_glbKey, ↓loadSlot_glbKey]) <;> (repeat' split) <;> (try simp (disch := (first | decide | (simp only [notGlb, GLB_CYCLE_CNT, GLB_HW_STAT, GLB_MODE_STAT]; omega))) only [↓setBit_glbKey, ↓glbKey_mk, glbKey_fold, ↓bootWrites_glbKey, ↓imageInForce_glbKey, ↓loadSlot_glbKey]))) only [↓setBit_glbKey, ↓glbKey_mk, glbKey_fold, ↓bootWrites_glbKey, ↓imageInForce_glbKey, ↓loadSlot_glbKey, each_glbKey]) <;> (repeat' split) <;> (try simp (disch := first | first | decide | (simp only [notGlb, GLB_CYCLE_CNT, GLB_HW_STAT, GLB_MODE_STAT]; omega) | (intros; (try simp (disch := (first | decide | (simp only [notGlb, GLB_CYCLE_CNT, GLB_HW_STAT, GLB_MODE_STAT]; omega))) only [↓setBit_glbKey, ↓glbKey_mk, glbKey_fold, ↓bootWrites_glbKey, ↓imageInForce_glbKey, ↓loadSlot_glbKey]) <;> (repeat' split) <;> (try simp (disch := (first | decide | (simp only [notGlb, GLB_CYCLE_CNT, GLB_HW_STAT, GLB_MODE_STAT]; omega))) only [↓setBit_glbKey, ↓glbKey_mk, glbKey_fold, ↓bootWrites_glbKey, ↓imageInForce_glbKey, ↓loadSlot_glbKey]))) only [↓setBit_glbKey, ↓glbKey_mk, glbKey_fold, ↓bootWrites_glbKey, ↓imageInForce_glbKey, ↓loadSlot_glbKey, each_glbKey])
theorem safeTable_glbKey (s : Dev) (ws : List (Nat × Word)) :
    (s.each ws fun d w =>
      d.wr w.1 ((d.rd w.1 &&& ~~~BitVec.ofNat 32 ((regRow w.1).elim 0 RegRow.com)) |||
        (w.2 &&& BitVec.ofNat 32 ((regRow w.1).elim 0 RegRow.com)))).glbKey = s.glbKey :=
  each_glbKey _ _ _ fun d w => maskWr_glbKey d w.1 ((regRow w.1).elim 0 RegRow.com) w.2 fun hw => by rcases hw with hw | hw <;> rw [hw] <;> decide
theorem bootSafety_glbKey (s : Dev) (j : Option ImgJob) : (s.bootSafety j).1.glbKey = s.glbKey := by
  unfold Dev.bootSafety
  cases j with
  | none => rfl
  | some j =>
    dsimp only
    split
    · rw [imageReject_glbKey, ev_glbKey]
    · split
      · exact (glbKey_mk ..).trans ((glbKey_fold _).trans (safeTable_glbKey s _))
      · rfl
theorem bootArtwork_glbKey (s : Dev) (j : Option ImgJob) : (s.bootArtwork j).glbKey = s.glbKey := by
  unfold Dev.bootArtwork
  split
  · rfl
  · dsimp only
    rw [imageInForce_glbKey, setBit_glbKey _ _ _ _ (by decide), setBit_glbKey _ _ _ _ (by decide)]
    exact each_glbKey _ _ _ fun d w => maskWr_glbKey d w.1 ((regRow w.1).elim 0 RegRow.com) w.2 fun hw => by rcases hw with hw | hw <;> rw [hw] <;> decide
theorem bootImages_glbKey (s : Dev) (hw com art : Option ImgJob) :
    (s.bootImages hw com art).glbKey = s.glbKey := by
  unfold Dev.bootImages
  (try simp (disch := first | first | decide | (simp only [notGlb, GLB_CYCLE_CNT, GLB_HW_STAT, GLB_MODE_STAT]; omega) | (intros; (try simp (disch := (first | decide | (simp only [notGlb, GLB_CYCLE_CNT, GLB_HW_STAT, GLB_MODE_STAT]; omega))) only [↓setBit_glbKey, ↓ev_glbKey, ↓glbKey_mk, glbKey_fold, ↓ite_glbKey, ite_self, ↓bootArtwork_glbKey, ↓bootHeartwood_glbKey, ↓bootSafety_glbKey, ↓imageBurn_glbKey, ↓imgStat_glbKey, ↓panelBoot_glbKey]) <;> (repeat' split) <;> (try simp (disch := (first | decide | (simp only [notGlb, GLB_CYCLE_CNT, GLB_HW_STAT, GLB_MODE_STAT]; omega))) only [↓setBit_glbKey, ↓ev_glbKey, ↓glbKey_mk, glbKey_fold, ↓ite_glbKey, ite_self, ↓bootArtwork_glbKey, ↓bootHeartwood_glbKey, ↓bootSafety_glbKey, ↓imageBurn_glbKey, ↓imgStat_glbKey, ↓panelBoot_glbKey]))) only [↓setBit_glbKey, ↓ev_glbKey, ↓glbKey_mk, glbKey_fold, ↓ite_glbKey, ite_self, ↓bootArtwork_glbKey, ↓bootHeartwood_glbKey, ↓bootSafety_glbKey, ↓imageBurn_glbKey, ↓imgStat_glbKey, ↓panelBoot_glbKey, each_glbKey]) <;> (repeat' split) <;> (try simp (disch := first | first | decide | (simp only [notGlb, GLB_CYCLE_CNT, GLB_HW_STAT, GLB_MODE_STAT]; omega) | (intros; (try simp (disch := (first | decide | (simp only [notGlb, GLB_CYCLE_CNT, GLB_HW_STAT, GLB_MODE_STAT]; omega))) only [↓setBit_glbKey, ↓ev_glbKey, ↓glbKey_mk, glbKey_fold, ↓ite_glbKey, ite_self, ↓bootArtwork_glbKey, ↓bootHeartwood_glbKey, ↓bootSafety_glbKey, ↓imageBurn_glbKey, ↓imgStat_glbKey, ↓panelBoot_glbKey]) <;> (repeat' split) <;> (try simp (disch := (first | decide | (simp only [notGlb, GLB_CYCLE_CNT, GLB_HW_STAT, GLB_MODE_STAT]; omega))) only [↓setBit_glbKey, ↓ev_glbKey, ↓glbKey_mk, glbKey_fold, ↓ite_glbKey, ite_self, ↓bootArtwork_glbKey, ↓bootHeartwood_glbKey, ↓bootSafety_glbKey, ↓imageBurn_glbKey, ↓imgStat_glbKey, ↓panelBoot_glbKey]))) only [↓setBit_glbKey, ↓ev_glbKey, ↓glbKey_mk, glbKey_fold, ↓ite_glbKey, ite_self, ↓bootArtwork_glbKey, ↓bootHeartwood_glbKey, ↓bootSafety_glbKey, ↓imageBurn_glbKey, ↓imgStat_glbKey, ↓panelBoot_glbKey, each_glbKey])
theorem storeImage_glbKey (s : Dev) (typ : Nat) :
    (s.storeImage typ).1.glbKey = s.glbKey := by
  unfold Dev.storeImage
  (try simp (disch := (first | decide | (simp only [notGlb, GLB_CYCLE_CNT, GLB_MODE_STAT]; omega))) only [↓ev_glbKey, ↓store_glbKey, ↓glbKey_mk, glbKey_fold, ↓ite_glbKey, ite_self]) <;> (repeat' split) <;> (try simp (disch := (first | decide | (simp only [notGlb, GLB_CYCLE_CNT, GLB_MODE_STAT]; omega))) only [↓ev_glbKey, ↓store_glbKey, ↓glbKey_mk, glbKey_fold, ↓ite_glbKey, ite_self])
theorem showNor_glbKey (s : Dev) :
    (s.showNor).glbKey = s.glbKey := by
  unfold Dev.showNor
  simp (disch := (first | decide | (simp only [notGlb, GLB_CYCLE_CNT, GLB_MODE_STAT, LOG_PIN_USE, LOG_STAT, LOG_WEAR]; omega))) only [↓setFld_glbKey, ↓setBit_glbKey, ↓showCirc_glbKey]
theorem ringlogProbe_glbKey (s : Dev) (nor : Nat) :
    (s.ringlogProbe nor).glbKey = s.glbKey := by
  unfold Dev.ringlogProbe
  simp (disch := (first | decide | (simp only [notGlb, GLB_CYCLE_CNT, GLB_MODE_STAT, LOG_OP_S, LOG_PWR_CYC, LOG_STAT]; omega))) only [↓wr_glbKey, ↓setFld_glbKey, ↓setBit_glbKey, ↓ev_glbKey, ↓glbKey_mk, glbKey_fold, ↓ite_glbKey, ite_self, ↓showNor_glbKey]
theorem bootHost_glbKey (s : Dev) :
    (s.bootHost).glbKey = s.glbKey := by
  unfold Dev.bootHost
  simp (disch := (first | decide | (simp only [notGlb, GLB_CYCLE_CNT, GLB_MODE_STAT]; omega))) only [↓bootImages_glbKey]
theorem gladeBoot_glbKey (s : Dev) (b : BootIn) :
    (s.gladeBoot b).glbKey = s.glbKey := by
  unfold Dev.gladeBoot
  simp (disch := (first | decide | (simp only [notGlb, GLB_CYCLE_CNT, GLB_HW_STAT, GLB_MODE_STAT, RST_DOM_STAT, RST_STRAP]; omega))) only [↓setFld_glbKey, ↓setBit_glbKey, ↓store_glbKey, ↓glbKey_mk, glbKey_fold, ↓ite_glbKey, ite_self, ↓bootImages_glbKey, ↓panelTemp_glbKey, ↓ringlogProbe_glbKey, ↓showFuses_glbKey, ↓storeImage_glbKey]
theorem hostWaitEnd_glbKey (s : Dev) :
    (s.hostWaitEnd).glbKey = s.glbKey := by
  unfold Dev.hostWaitEnd
  simp (disch := (first | decide | (simp only [notGlb, GLB_CYCLE_CNT, GLB_MODE_STAT]; omega))) only [↓ite_glbKey, ite_self, ↓bootHost_glbKey]
theorem takeImage_glbKey (s : Dev) (b : List Byte) (desc : Nat × Nat × Nat) :
    (s.takeImage b desc).glbKey = s.glbKey := by
  unfold Dev.takeImage
  simp (disch := (first | decide | (simp only [notGlb, GLB_CYCLE_CNT, GLB_MODE_STAT]; omega))) only [↓glbKey_mk, glbKey_fold, ↓ite_glbKey, ite_self, ↓bootHost_glbKey, ↓imageReject_glbKey, ↓imageToStore_glbKey, ↓imgStat_glbKey, ↓sessUse_glbKey]
theorem sessEnd_glbKey (s : Dev) (why : Nat) :
    (s.sessEnd why).glbKey = s.glbKey := by
  unfold Dev.sessEnd
  simp (disch := (first | decide | (simp only [notGlb, GLB_CYCLE_CNT, GLB_MODE_STAT, GLB_SESS_STAT]; omega))) only [↓setFld_glbKey, ↓ev_glbKey]
theorem sessOpen_glbKey (s : Dev) (slot level : Nat) :
    (s.sessOpen slot level).glbKey = s.glbKey := by
  unfold Dev.sessOpen
  simp (disch := first | first | decide | (simp only [notGlb, GLB_CYCLE_CNT, GLB_MODE_STAT, GLB_SESS_CHAL, GLB_SESS_STAT, GLB_SLOT]; omega) | (intros; (try simp (disch := (first | decide | (simp only [notGlb, GLB_CYCLE_CNT, GLB_MODE_STAT, GLB_SESS_CHAL, GLB_SESS_STAT, GLB_SLOT]; omega))) only [↓wrN_glbKey, ↓setFld_glbKey, ↓spend_glbKey, ↓glbKey_mk, glbKey_fold, ↓ite_glbKey, ite_self, ↓sessEnd_glbKey]) <;> (try (split <;> simp (disch := (first | decide | (simp only [notGlb, GLB_CYCLE_CNT, GLB_MODE_STAT, GLB_SESS_CHAL, GLB_SESS_STAT, GLB_SLOT]; omega))) only [↓wrN_glbKey, ↓setFld_glbKey, ↓spend_glbKey, ↓glbKey_mk, glbKey_fold, ↓ite_glbKey, ite_self, ↓sessEnd_glbKey])))) only [↓wrN_glbKey, ↓setFld_glbKey, ↓spend_glbKey, ↓glbKey_mk, glbKey_fold, ↓ite_glbKey, ite_self, ↓sessEnd_glbKey, each_glbKey]
theorem sessFail_glbKey (s : Dev) :
    (s.sessFail).glbKey = s.glbKey := by
  unfold Dev.sessFail
  simp (disch := (first | decide | (simp only [notGlb, GLB_CYCLE_CNT, GLB_MODE_STAT, GLB_SESS_STAT, GLB_SLOT]; omega))) only [↓setFld_glbKey, ↓setBit_glbKey, ↓ev_glbKey, ↓ite_glbKey, ite_self]
theorem sessVerify_glbKey (s : Dev) :
    (s.sessVerify).glbKey = s.glbKey := by
  unfold Dev.sessVerify
  simp (disch := (first | decide | (simp only [notGlb, GLB_CYCLE_CNT, GLB_MODE_STAT, GLB_SESS_STAT, GLB_SLOT]; omega))) only [↓setFld_glbKey, ↓raise_glbKey, ↓ev_glbKey, ↓ite_glbKey, ite_self, ↓sessFail_glbKey, ↓sessUse_glbKey]
theorem sessClose_glbKey (s : Dev) (why : Nat) :
    (s.sessClose why).glbKey = s.glbKey := by
  unfold Dev.sessClose
  simp (disch := (first | decide | (simp only [notGlb, GLB_CYCLE_CNT, GLB_MODE_STAT]; omega))) only [↓ite_glbKey, ite_self, ↓sessEnd_glbKey]
theorem sessIdle_glbKey (s : Dev) :
    (s.sessIdle).glbKey = s.glbKey := by
  unfold Dev.sessIdle
  simp (disch := (first | decide | (simp only [notGlb, GLB_CYCLE_CNT, GLB_MODE_STAT, GLB_SESS_CFG]; omega))) only [↓ite_glbKey, ite_self, ↓sessClose_glbKey]
theorem sessConflict_glbKey (s : Dev) :
    (s.sessConflict).glbKey = s.glbKey := by
  unfold Dev.sessConflict
  simp (disch := (first | decide | (simp only [notGlb, GLB_CYCLE_CNT, GLB_MODE_STAT, GLB_SESS_STAT]; omega))) only [↓setFld_glbKey]
theorem challengeEnd_glbKey (s : Dev) :
    (s.challengeEnd).glbKey = s.glbKey := by
  unfold Dev.challengeEnd
  simp (disch := (first | decide | (simp only [notGlb, GLB_CYCLE_CNT, GLB_MODE_STAT]; omega))) only [↓raise_glbKey, ↓ite_glbKey, ite_self, ↓sessFail_glbKey]
theorem sessCommand_glbKey (s : Dev) (v : Word) :
    (s.sessCommand v).glbKey = s.glbKey := by
  unfold Dev.sessCommand
  (try simp (disch := (first | decide | (simp only [notGlb, GLB_CYCLE_CNT, GLB_MODE_STAT]; omega))) only [↓glbKey_mk, glbKey_fold, ↓sessClose_glbKey, ↓sessConflict_glbKey, ↓sessOpen_glbKey, ↓sessVerify_glbKey]) <;> (repeat' split) <;> (try simp (disch := (first | decide | (simp only [notGlb, GLB_CYCLE_CNT, GLB_MODE_STAT]; omega))) only [↓glbKey_mk, glbKey_fold, ↓sessClose_glbKey, ↓sessConflict_glbKey, ↓sessOpen_glbKey, ↓sessVerify_glbKey])
theorem slotUnlock_glbKey (s : Dev) (k : Nat) :
    (s.slotUnlock k).glbKey = s.glbKey := by
  unfold Dev.slotUnlock
  simp (disch := (first | decide | (simp only [notGlb, GLB_CYCLE_CNT, GLB_MODE_STAT, GLB_SLOT]; omega))) only [↓setFld_glbKey, ↓setBit_glbKey, ↓ite_glbKey, ite_self]
theorem gladeSecond_glbKey (s : Dev) :
    (s.gladeSecond).glbKey = s.glbKey := by
  unfold Dev.gladeSecond
  simp (disch := first | first | decide | (simp only [notGlb, GLB_CYCLE_CNT, GLB_MODE_STAT, GLB_SLOT, LOG_OP_S]; omega) | (intros; (try simp (disch := (first | decide | (simp only [notGlb, GLB_CYCLE_CNT, GLB_MODE_STAT, GLB_SLOT, LOG_OP_S]; omega))) only [↓setFld_glbKey, ↓cntWrap_glbKey, ↓ite_glbKey, ite_self]) <;> (try (split <;> simp (disch := (first | decide | (simp only [notGlb, GLB_CYCLE_CNT, GLB_MODE_STAT, GLB_SLOT, LOG_OP_S]; omega))) only [↓setFld_glbKey, ↓cntWrap_glbKey, ↓ite_glbKey, ite_self])))) only [↓setFld_glbKey, ↓cntWrap_glbKey, ↓ite_glbKey, ite_self, each_glbKey]
theorem attRequest_glbKey (s : Dev) (cert : Bool) :
    (s.attRequest cert).glbKey = s.glbKey := by
  unfold Dev.attRequest
  simp (disch := (first | decide | (simp only [notGlb, GLB_ATT_NONCE, GLB_CYCLE_CNT, GLB_MODE_STAT]; omega))) only [↓glbKey_mk, glbKey_fold, ↓ite_glbKey, ite_self]
theorem attReport_glbKey (s : Dev) :
    (s.attReport).glbKey = s.glbKey := by
  unfold Dev.attReport
  (try simp (disch := (first | decide | (simp only [notGlb, GLB_CYCLE_CNT, GLB_MODE_STAT]; omega))) only [↓raise_glbKey, ↓ev_glbKey, ↓spend_glbKey, ↓glbKey_mk, glbKey_fold, ↓ite_glbKey, ite_self, ↓reportRouted_glbKey]) <;> (repeat' split) <;> (try simp (disch := (first | decide | (simp only [notGlb, GLB_CYCLE_CNT, GLB_MODE_STAT]; omega))) only [↓raise_glbKey, ↓ev_glbKey, ↓spend_glbKey, ↓glbKey_mk, glbKey_fold, ↓ite_glbKey, ite_self, ↓reportRouted_glbKey])
theorem enrolCommand_glbKey (s : Dev) (v : Word) :
    (s.enrolCommand v).glbKey = s.glbKey := by
  unfold Dev.enrolCommand
  simp (disch := (first | decide | (simp only [notGlb, GLB_CYCLE_CNT, GLB_MODE_STAT]; omega))) only [↓ite_glbKey, ite_self, ↓enrolOwner_glbKey, ↓revokeOwner_glbKey]
theorem ringError_glbKey (s : Dev) (p code : Nat) :
    (s.ringError p code).glbKey = s.glbKey := by
  unfold Dev.ringError
  simp (disch := (first | decide | (simp only [notGlb, GLB_CYCLE_CNT, GLB_MODE_STAT, HOST_PAIR_STAT, pairWin]; omega))) only [↓setFld_glbKey, ↓setBit_glbKey, ↓raise_glbKey, ↓ev_glbKey, ↓ite_glbKey, ite_self]
theorem cmdBell_glbKey (s : Dev) (p : Nat) (v : Word) :
    (s.cmdBell p v).glbKey = s.glbKey := by
  unfold Dev.cmdBell
  simp (disch := (first | decide | (simp only [notGlb, DOORBELL, GLB_CYCLE_CNT, GLB_MODE_STAT, HOST_CMD_CFG, HOST_CMD_PTR, pairWin]; omega))) only [↓wr_glbKey, ↓setFld_glbKey, ↓ite_glbKey, ite_self, ↓ringError_glbKey]
theorem repBell_glbKey (s : Dev) (p : Nat) (v : Word) :
    (s.repBell p v).glbKey = s.glbKey := by
  unfold Dev.repBell
  simp (disch := (first | decide | (simp only [notGlb, DOORBELL, GLB_CYCLE_CNT, GLB_MODE_STAT, HOST_REP_PTR, pairWin]; omega))) only [↓wr_glbKey, ↓setFld_glbKey, ↓ite_glbKey, ite_self, ↓ringError_glbKey]
theorem ringOn_glbKey (s : Dev) (p : Nat) (rep : Bool) (v : Word) : (s.ringOn p rep v).glbKey = s.glbKey := by
  unfold Dev.ringOn
  have h0 : notGlb (HOST_PAIR_STAT p) := by simp only [notGlb, GLB_MODE_STAT, GLB_CYCLE_CNT, HOST_PAIR_STAT, pairWin]; omega
  cases rep
  · have h1 : notGlb (HOST_CMD_CFG p) := by simp only [notGlb, GLB_MODE_STAT, GLB_CYCLE_CNT, HOST_CMD_CFG, pairWin]; omega
    have h2 : notGlb (HOST_CMD_PTR p) := by simp only [notGlb, GLB_MODE_STAT, GLB_CYCLE_CNT, HOST_CMD_PTR, pairWin]; omega
    simp (disch := assumption) only [Bool.false_eq_true, if_false, setPair_glbKey, setBit_glbKey, wr_glbKey, ite_glbKey, setFld_glbKey, ite_self]
  · have h1 : notGlb (HOST_REP_CFG p) := by simp only [notGlb, GLB_MODE_STAT, GLB_CYCLE_CNT, HOST_REP_CFG, pairWin]; omega
    have h2 : notGlb (HOST_REP_PTR p) := by simp only [notGlb, GLB_MODE_STAT, GLB_CYCLE_CNT, HOST_REP_PTR, pairWin]; omega
    simp (disch := assumption) only [if_true, setPair_glbKey, setBit_glbKey, wr_glbKey, ite_glbKey, setFld_glbKey, ite_self]
theorem ringOff_glbKey (s : Dev) (p : Nat) (rep : Bool) (v : Word) : (s.ringOff p rep v).glbKey = s.glbKey := by
  unfold Dev.ringOff
  cases rep
  · have h1 : notGlb (HOST_CMD_CFG p) := by simp only [notGlb, GLB_MODE_STAT, GLB_CYCLE_CNT, HOST_CMD_CFG, pairWin]; omega
    simp (disch := assumption) only [Bool.false_eq_true, if_false, setPair_glbKey, setBit_glbKey, ite_glbKey, setFld_glbKey, ite_self]
  · have h1 : notGlb (HOST_REP_CFG p) := by simp only [notGlb, GLB_MODE_STAT, GLB_CYCLE_CNT, HOST_REP_CFG, pairWin]; omega
    simp (disch := assumption) only [if_true, setPair_glbKey, setBit_glbKey, ite_glbKey, setFld_glbKey, ite_self]
theorem ringConfig_glbKey (s : Dev) (p : Nat) (rep : Bool) (v : Word) :
    (s.ringConfig p rep v).glbKey = s.glbKey := by
  unfold Dev.ringConfig
  simp (disch := (first | decide | (simp only [notGlb, GLB_CYCLE_CNT, GLB_MODE_STAT]; omega))) only [↓ite_glbKey, ite_self, ↓ringOff_glbKey, ↓ringOn_glbKey]
theorem ringResume_glbKey (s : Dev) (p : Nat) :
    (s.ringResume p).glbKey = s.glbKey := by
  unfold Dev.ringResume
  simp (disch := (first | decide | (simp only [notGlb, GLB_CYCLE_CNT, GLB_MODE_STAT, HOST_PAIR_STAT, pairWin]; omega))) only [↓setFld_glbKey, ↓setBit_glbKey, ↓ite_glbKey, ite_self]
theorem ringStops_glbKey (s : Dev) :
    (s.ringStops).glbKey = s.glbKey := by
  unfold Dev.ringStops
  simp (disch := first | first | decide | (simp only [notGlb, GLB_CYCLE_CNT, GLB_MODE_STAT, HOST_PAIR_STAT, pairWin]; omega) | (intros; (try simp (disch := (first | decide | (simp only [notGlb, GLB_CYCLE_CNT, GLB_MODE_STAT, HOST_PAIR_STAT, pairWin]; omega))) only [↓setBit_glbKey, ↓glbKey_mk, glbKey_fold, ↓ite_glbKey, ite_self, ↓setPair_glbKey]) <;> (try (split <;> simp (disch := (first | decide | (simp only [notGlb, GLB_CYCLE_CNT, GLB_MODE_STAT, HOST_PAIR_STAT, pairWin]; omega))) only [↓setBit_glbKey, ↓glbKey_mk, glbKey_fold, ↓ite_glbKey, ite_self, ↓setPair_glbKey])))) only [↓setBit_glbKey, ↓glbKey_mk, glbKey_fold, ↓ite_glbKey, ite_self, ↓setPair_glbKey, each_glbKey]
theorem hostFetch_glbKey (s : Dev) :
    (s.hostFetch).glbKey = s.glbKey := by
  unfold Dev.hostFetch
  simp (disch := first | first | decide | (simp only [notGlb, GLB_CYCLE_CNT, GLB_MODE_STAT, HOST_CMD_PTR, pairWin]; omega) | (intros; (try simp (disch := (first | decide | (simp only [notGlb, GLB_CYCLE_CNT, GLB_MODE_STAT, HOST_CMD_PTR, pairWin]; omega))) only [↓glbKey_mk, glbKey_fold, ↓ite_glbKey, ite_self, ↓setPair_glbKey]) <;> (try (split <;> simp (disch := (first | decide | (simp only [notGlb, GLB_CYCLE_CNT, GLB_MODE_STAT, HOST_CMD_PTR, pairWin]; omega))) only [↓glbKey_mk, glbKey_fold, ↓ite_glbKey, ite_self, ↓setPair_glbKey])))) only [↓glbKey_mk, glbKey_fold, ↓ite_glbKey, ite_self, ↓setPair_glbKey, each_glbKey]
theorem fetchEnd_glbKey (s : Dev) (p : Nat) (ok : Bool) :
    (s.fetchEnd p ok).glbKey = s.glbKey := by
  unfold Dev.fetchEnd
  (try simp (disch := (first | decide | (simp only [notGlb, GLB_CYCLE_CNT, GLB_MODE_STAT, HOST_CMD_PTR, pairWin]; omega))) only [↓setFld_glbKey, ↓raise_glbKey, ↓glbKey_mk, glbKey_fold, ↓ite_glbKey, ite_self, ↓ringError_glbKey, ↓setPair_glbKey, ↓writeback_glbKey]) <;> (repeat' split) <;> (try simp (disch := (first | decide | (simp only [notGlb, GLB_CYCLE_CNT, GLB_MODE_STAT, HOST_CMD_PTR, pairWin]; omega))) only [↓setFld_glbKey, ↓raise_glbKey, ↓glbKey_mk, glbKey_fold, ↓ite_glbKey, ite_self, ↓ringError_glbKey, ↓setPair_glbKey, ↓writeback_glbKey])
theorem withDesc_glbKey (s : Dev) (p idx : Nat) (f : Dev → Dev) (h : ∀ d, (f d).glbKey = d.glbKey) :
    (s.withDesc p idx f).glbKey = s.glbKey := by
  unfold Dev.withDesc
  split
  · rename_i d hd
    rw [h]
    unfold Dev.latchDesc at hd
    split_ifs at hd
    cases hd
    simp (disch := (simp only [notGlb, HOST_LIVE, pairWin, GLB_MODE_STAT, GLB_CYCLE_CNT]; omega)) only [setFld_glbKey, cntWrap_glbKey, glbKey_mk, glbKey_fold]
  · rfl
theorem nopDesc_glbKey (s : Dev) (p idx : Nat) :
    (s.nopDesc p idx).glbKey = s.glbKey := by
  unfold Dev.nopDesc
  apply withDesc_glbKey
  intro d
  (try simp (disch := (first | decide | (simp only [notGlb, GLB_CYCLE_CNT, GLB_MODE_STAT]; omega))) only [↓complete_glbKey]) <;> (repeat' split) <;> (try simp (disch := (first | decide | (simp only [notGlb, GLB_CYCLE_CNT, GLB_MODE_STAT]; omega))) only [↓complete_glbKey])
theorem badDesc_glbKey (s : Dev) (p idx : Nat) (b : List Byte) :
    (s.badDesc p idx b).glbKey = s.glbKey := by
  unfold Dev.badDesc
  apply withDesc_glbKey
  intro d
  (try simp (disch := (first | decide | (simp only [notGlb, GLB_CYCLE_CNT, GLB_MODE_STAT]; omega))) only [↓complete_glbKey]) <;> (repeat' split) <;> (try simp (disch := (first | decide | (simp only [notGlb, GLB_CYCLE_CNT, GLB_MODE_STAT]; omega))) only [↓complete_glbKey])
theorem setpointPut_glbKey (s : Dev) (e : Nat × Word) :
    (s.setpointPut e).glbKey = s.glbKey := by
  unfold Dev.setpointPut
  simp (disch := (first | decide | (simp only [notGlb, GLB_CYCLE_CNT, GLB_MODE_STAT, LOOP_CTX_SPCONST, loopWin, profWin]; omega))) only [↓wr_glbKey, ↓setGen_glbKey, ↓glbKey_mk, glbKey_fold, ↓ite_glbKey, ite_self]
theorem setpointDesc_glbKey (s : Dev) (p idx : Nat) (b : List Byte) :
    (s.setpointDesc p idx b).glbKey = s.glbKey := by
  unfold Dev.setpointDesc
  apply withDesc_glbKey
  intro d
  dsimp only
  split
  · exact complete_glbKey _ _ _ _ _ _ _
  · rw [endDesc_glbKey, each_glbKey _ _ _ setpointPut_glbKey]
theorem releaseRefused_glbKey (s : Dev) (slot l code : Nat) :
    (s.releaseRefused slot l code).glbKey = s.glbKey := by
  unfold Dev.releaseRefused
  simp (disch := (first | decide | (simp only [notGlb, GLB_CYCLE_CNT, GLB_MODE_STAT, GROVE_ERR_TOTAL]; omega))) only [↓cntSat_glbKey, ↓ev_glbKey, ↓ite_glbKey, ite_self, ↓countInvalid_glbKey]
theorem groveRefused_glbKey (s : Dev) (p slot code : Nat) (tag : Word) (release : Bool) :
    (s.groveRefused p slot code tag release).glbKey = s.glbKey := by
  unfold Dev.groveRefused
  simp (disch := (first | decide | (simp only [notGlb, GLB_CYCLE_CNT, GLB_MODE_STAT, GROVE_HOST_MAP]; omega))) only [↓ev_glbKey, ↓glbKey_mk, glbKey_fold, ↓ite_glbKey, ite_self, ↓endCount_glbKey, ↓releaseRefused_glbKey]
theorem groveDescLoad_glbKey (s : Dev) (op l : Nat) (b : List Byte) :
    (s.groveDescLoad op l b).1.glbKey = s.glbKey := by
  unfold Dev.groveDescLoad
  (try simp (disch := (first | decide | (simp only [notGlb, GLB_CYCLE_CNT, GLB_MODE_STAT]; omega))) only [↓ite_glbKey, ite_self, ↓groveLoadOp_glbKey, ↓groveRefuse_glbKey]) <;> (repeat' split) <;> (try simp (disch := (first | decide | (simp only [notGlb, GLB_CYCLE_CNT, GLB_MODE_STAT]; omega))) only [↓ite_glbKey, ite_self, ↓groveLoadOp_glbKey, ↓groveRefuse_glbKey])
theorem groveDescEntries_glbKey (s : Dev) (l : Nat) (es : List GroveEntryIn) :
    (s.groveDescEntries l es).1.glbKey = s.glbKey := by
  refine fold_keeps (fun (a : Dev × Nat) => a.1.glbKey) _ ?_ es (s, 0)
  intro a e
  exact groveEntryOp_glbKey _ _ _
theorem groveDesc_glbKey (s : Dev) (p idx : Nat) (b : List Byte) (entries : List GroveEntryIn) :
    (s.groveDesc p idx b entries).glbKey = s.glbKey := by
  unfold Dev.groveDesc
  apply withDesc_glbKey
  intro d
  (try simp (disch := (first | decide | (simp only [notGlb, GLB_CYCLE_CNT, GLB_MODE_STAT, GROVE_CFG, GROVE_HOST_MAP, GROVE_LANE_STAT, GROVE_LANE_TAG]; omega))) only [↓wr_glbKey, ↓setLane_glbKey, ↓glbKey_mk, glbKey_fold, ↓ite_glbKey, ite_self, ↓endDesc_glbKey, ↓groveDescEntries_glbKey, ↓groveDescLoad_glbKey, ↓groveRefuse_glbKey, ↓groveRefused_glbKey, ↓groveStart_glbKey]) <;> (repeat' split) <;> (try simp (disch := (first | decide | (simp only [notGlb, GLB_CYCLE_CNT, GLB_MODE_STAT, GROVE_CFG, GROVE_HOST_MAP, GROVE_LANE_STAT, GROVE_LANE_TAG]; omega))) only [↓wr_glbKey, ↓setLane_glbKey, ↓glbKey_mk, glbKey_fold, ↓ite_glbKey, ite_self, ↓endDesc_glbKey, ↓groveDescEntries_glbKey, ↓groveDescLoad_glbKey, ↓groveRefuse_glbKey, ↓groveRefused_glbKey, ↓groveStart_glbKey])
theorem canDesc_glbKey (s : Dev) (p idx : Nat) (b far : List Byte) :
    (s.canDesc p idx b far).glbKey = s.glbKey := by
  unfold Dev.canDesc
  apply withDesc_glbKey
  intro d
  (try simp (disch := (first | decide | (simp only [notGlb, GLB_CYCLE_CNT, GLB_MODE_STAT]; omega))) only [↓glbKey_mk, glbKey_fold, ↓ite_glbKey, ite_self, ↓complete_glbKey, ↓tb2Cancel_glbKey, ↓tb2Put_glbKey]) <;> (repeat' split) <;> (try simp (disch := (first | decide | (simp only [notGlb, GLB_CYCLE_CNT, GLB_MODE_STAT]; omega))) only [↓glbKey_mk, glbKey_fold, ↓ite_glbKey, ite_self, ↓complete_glbKey, ↓tb2Cancel_glbKey, ↓tb2Put_glbKey])
theorem imageDesc_glbKey (s : Dev) (p idx : Nat) (b image : List Byte) :
    (s.imageDesc p idx b image).glbKey = s.glbKey := by
  unfold Dev.imageDesc
  apply withDesc_glbKey
  intro d
  (try simp (disch := (first | decide | (simp only [notGlb, GLB_CYCLE_CNT, GLB_MODE_STAT]; omega) | (simp only [↓byGlade_glbKey, ↓takeImage_glbKey]))) only [↓byGlade_glbKey, ↓takeImage_glbKey]) <;> (repeat' split) <;> (try simp (disch := (first | decide | (simp only [notGlb, GLB_CYCLE_CNT, GLB_MODE_STAT]; omega) | (simp only [↓byGlade_glbKey, ↓takeImage_glbKey]))) only [↓byGlade_glbKey, ↓takeImage_glbKey])
theorem copyOut_glbKey (s : Dev) (addr : Nat) (b : List Byte) :
    (s.copyOut addr b).glbKey = s.glbKey := by
  unfold Dev.copyOut
  simp (disch := (first | decide | (simp only [notGlb, GLB_CYCLE_CNT, GLB_MODE_STAT]; omega))) only [↓glbKey_mk, glbKey_fold]
theorem thicketDesc_glbKey (s : Dev) (p idx : Nat) (b : List Byte) (bad : List Nat) (corr : Nat) :
    (s.thicketDesc p idx b bad corr).glbKey = s.glbKey := by
  unfold Dev.thicketDesc
  apply withDesc_glbKey
  intro d
  (try simp (disch := (first | decide | (simp only [notGlb, GLB_CYCLE_CNT, GLB_MODE_STAT]; omega))) only [↓ite_glbKey, ite_self, ↓complete_glbKey, ↓copyOut_glbKey, ↓readPoints_glbKey]) <;> (repeat' split) <;> (try simp (disch := (first | decide | (simp only [notGlb, GLB_CYCLE_CNT, GLB_MODE_STAT]; omega))) only [↓ite_glbKey, ite_self, ↓complete_glbKey, ↓copyOut_glbKey, ↓readPoints_glbKey])
theorem recorderDesc_glbKey (s : Dev) (p idx : Nat) (b : List Byte) :
    (s.recorderDesc p idx b).glbKey = s.glbKey := by
  unfold Dev.recorderDesc
  apply withDesc_glbKey
  intro d
  (try simp (disch := (first | decide | (simp only [notGlb, GLB_CYCLE_CNT, GLB_MODE_STAT]; omega))) only [↓ite_glbKey, ite_self, ↓complete_glbKey, ↓copyOut_glbKey, ↓sessUse_glbKey]) <;> (repeat' split) <;> (try simp (disch := (first | decide | (simp only [notGlb, GLB_CYCLE_CNT, GLB_MODE_STAT]; omega))) only [↓ite_glbKey, ite_self, ↓complete_glbKey, ↓copyOut_glbKey, ↓sessUse_glbKey])
theorem vectorSend_glbKey (s : Dev) (v : Nat) :
    (s.vectorSend v).glbKey = s.glbKey := by
  unfold Dev.vectorSend
  simp (disch := (first | decide | (simp only [notGlb, GLB_CYCLE_CNT, GLB_MODE_STAT, HOST_VEC_ARMED]; omega))) only [↓setBit_glbKey, ↓glbKey_mk, glbKey_fold]
theorem vectorFire_glbKey (s : Dev) (v : Nat) :
    (s.vectorFire v).glbKey = s.glbKey := by
  unfold Dev.vectorFire
  simp (disch := (first | decide | (simp only [notGlb, GLB_CYCLE_CNT, GLB_MODE_STAT, HOST_VEC_ARMED, MSIX_PBA, MSIX_TAB]; omega))) only [↓setBit_glbKey, ↓ite_glbKey, ite_self, ↓vectorSend_glbKey]
theorem vectorArm_glbKey (s : Dev) (v : Word) :
    (s.vectorArm v).glbKey = s.glbKey := by
  unfold Dev.vectorArm
  simp (disch := (first | decide | (simp only [notGlb, GLB_CYCLE_CNT, GLB_MODE_STAT, HOST_VEC_ARMED]; omega))) only [↓wr_glbKey]
theorem vectorOpen_glbKey (s : Dev) (v : Nat) :
    (s.vectorOpen v).glbKey = s.glbKey := by
  unfold Dev.vectorOpen
  simp (disch := (first | decide | (simp only [notGlb, GLB_CYCLE_CNT, GLB_MODE_STAT, MSIX_PBA, MSIX_TAB]; omega))) only [↓setBit_glbKey, ↓ite_glbKey, ite_self, ↓vectorSend_glbKey]
theorem hostReset_glbKey (s : Dev) (why : Nat) :
    (s.hostReset why).glbKey = s.glbKey := by
  unfold Dev.hostReset
  simp (disch := first | first | decide | (simp only [notGlb, GLB_CYCLE_CNT, GLB_MODE_STAT, HOST_CMD_CFG, HOST_EVT_MAP, HOST_EVT_PEND, HOST_LIVE, HOST_PAIR_STAT, HOST_REP_CFG, HOST_ROUTE, HOST_STAT, HOST_VEC_ARMED, pairWin]; omega) | (intros; simp (disch := first | first | decide | (simp only [notGlb, GLB_CYCLE_CNT, GLB_MODE_STAT, HOST_CMD_CFG, HOST_EVT_MAP, HOST_EVT_PEND, HOST_LIVE, HOST_PAIR_STAT, HOST_REP_CFG, HOST_ROUTE, HOST_STAT, HOST_VEC_ARMED, pairWin]; omega) | (intros; (try simp (disch := (first | decide | (simp only [notGlb, GLB_CYCLE_CNT, GLB_MODE_STAT, HOST_CMD_CFG, HOST_EVT_MAP, HOST_EVT_PEND, HOST_LIVE, HOST_PAIR_STAT, HOST_REP_CFG, HOST_ROUTE, HOST_STAT, HOST_VEC_ARMED, pairWin]; omega))) only [↓wr_glbKey, ↓setFld_glbKey, ↓setBit_glbKey, ↓ev_glbKey, ↓glbKey_mk, glbKey_fold, ↓ite_glbKey, ite_self, ↓setPair_glbKey]) <;> (try (split <;> simp (disch := (first | decide | (simp only [notGlb, GLB_CYCLE_CNT, GLB_MODE_STAT, HOST_CMD_CFG, HOST_EVT_MAP, HOST_EVT_PEND, HOST_LIVE, HOST_PAIR_STAT, HOST_REP_CFG, HOST_ROUTE, HOST_STAT, HOST_VEC_ARMED, pairWin]; omega))) only [↓wr_glbKey, ↓setFld_glbKey, ↓setBit_glbKey, ↓ev_glbKey, ↓glbKey_mk, glbKey_fold, ↓ite_glbKey, ite_self, ↓setPair_glbKey])))) only [↓wr_glbKey, ↓setFld_glbKey, ↓setBit_glbKey, ↓ev_glbKey, ↓glbKey_mk, glbKey_fold, ↓ite_glbKey, ite_self, ↓setPair_glbKey, each_glbKey])) only [↓wr_glbKey, ↓setFld_glbKey, ↓setBit_glbKey, ↓ev_glbKey, ↓glbKey_mk, glbKey_fold, ↓ite_glbKey, ite_self, ↓setPair_glbKey, each_glbKey]
theorem hostLinkUp_glbKey (s : Dev) (width speed : Nat) :
    (s.hostLinkUp width speed).glbKey = s.glbKey := by
  unfold Dev.hostLinkUp
  simp (disch := (first | decide | (simp only [notGlb, GLB_CYCLE_CNT, GLB_MODE_STAT, HOST_STAT]; omega))) only [↓setFld_glbKey, ↓ev_glbKey, ↓glbKey_mk, glbKey_fold, ↓ite_glbKey, ite_self]
theorem cycleReport_glbKey (s : Dev) :
    (s.cycleReport).glbKey = s.glbKey := by
  unfold Dev.cycleReport
  simp (disch := (first | decide | (simp only [notGlb, GLB_CYCLE_CNT, GLB_MODE_STAT]; omega))) only [↓ite_glbKey, ite_self, ↓acqReported_glbKey, ↓reportRouted_glbKey]
theorem timeMessage_glbKey (s : Dev) :
    (s.timeMessage).glbKey = s.glbKey := by
  unfold Dev.timeMessage
  simp (disch := (first | decide | (simp only [notGlb, GLB_CYCLE_CNT, GLB_MODE_STAT]; omega))) only [↓glbKey_mk, glbKey_fold, ↓ite_glbKey, ite_self, ↓reportRouted_glbKey, ↓sendUdp_glbKey]
theorem groveRecords_glbKey (s : Dev) :
    (s.groveRecords).glbKey = s.glbKey := by
  unfold Dev.groveRecords
  simp (disch := first | first | decide | (simp only [notGlb, GLB_CYCLE_CNT, GLB_MODE_STAT]; omega) | (intros; (try simp (disch := (first | decide | (simp only [notGlb, GLB_CYCLE_CNT, GLB_MODE_STAT]; omega))) only [↓glbKey_mk, glbKey_fold, ↓report_glbKey]) <;> (try (split <;> simp (disch := (first | decide | (simp only [notGlb, GLB_CYCLE_CNT, GLB_MODE_STAT]; omega))) only [↓glbKey_mk, glbKey_fold, ↓report_glbKey])))) only [↓glbKey_mk, glbKey_fold, ↓report_glbKey, each_glbKey]
theorem snapshot_glbKey (s : Dev) :
    (s.snapshot).glbKey = s.glbKey := by
  unfold Dev.snapshot
  simp (disch := first | first | decide | (simp only [notGlb, CAN_LEDGER_DROP, CAN_LEDGER_HELD, CAN_LEDGER_IN, CAN_LEDGER_OUT, GLB_CYCLE_CNT, GLB_MODE_STAT, HOST_LDG_TICK, HOST_LIVE, HOST_SNAP, HOST_SNAP_LDG, LOG_LEDGER, THKT_CREC, THKT_LEDGER, canPage]; omega) | (intros; simp (disch := first | first | decide | (simp only [notGlb, CAN_LEDGER_DROP, CAN_LEDGER_HELD, CAN_LEDGER_IN, CAN_LEDGER_OUT, GLB_CYCLE_CNT, GLB_MODE_STAT, HOST_LDG_TICK, HOST_LIVE, HOST_SNAP, HOST_SNAP_LDG, LOG_LEDGER, THKT_CREC, THKT_LEDGER, canPage]; omega) | (intros; (try simp (disch := (first | decide | (simp only [notGlb, CAN_LEDGER_DROP, CAN_LEDGER_HELD, CAN_LEDGER_IN, CAN_LEDGER_OUT, GLB_CYCLE_CNT, GLB_MODE_STAT, HOST_LDG_TICK, HOST_LIVE, HOST_SNAP, HOST_SNAP_LDG, LOG_LEDGER, THKT_CREC, THKT_LEDGER, canPage]; omega))) only [↓wr_glbKey, ↓wrN_glbKey, ↓ite_glbKey, ite_self]) <;> (try (split <;> simp (disch := (first | decide | (simp only [notGlb, CAN_LEDGER_DROP, CAN_LEDGER_HELD, CAN_LEDGER_IN, CAN_LEDGER_OUT, GLB_CYCLE_CNT, GLB_MODE_STAT, HOST_LDG_TICK, HOST_LIVE, HOST_SNAP, HOST_SNAP_LDG, LOG_LEDGER, THKT_CREC, THKT_LEDGER, canPage]; omega))) only [↓wr_glbKey, ↓wrN_glbKey, ↓ite_glbKey, ite_self])))) only [↓wr_glbKey, ↓wrN_glbKey, ↓ite_glbKey, ite_self, each_glbKey])) only [↓wr_glbKey, ↓wrN_glbKey, ↓ite_glbKey, ite_self, each_glbKey]
theorem hostP4_glbKey (s : Dev) (n : Nat) :
    (s.hostP4 n).glbKey = s.glbKey := by
  unfold Dev.hostP4
  simp (disch := (first | decide | (simp only [notGlb, GLB_CYCLE_CNT, GLB_MODE_STAT]; omega))) only [↓ite_glbKey, ite_self, ↓cycleReport_glbKey, ↓groveRecords_glbKey, ↓hostFetch_glbKey, ↓logReports_glbKey, ↓reportRouted_glbKey, ↓snapshot_glbKey]
theorem rstLast_glbKey (s : Dev) (r : RstRun) :
    (s.rstLast r).glbKey = s.glbKey := by
  unfold Dev.rstLast
  simp (disch := (first | decide | (simp only [notGlb, GLB_CYCLE_CNT, GLB_MODE_STAT, RST_LAST]; omega))) only [↓wrN_glbKey]
theorem rstSource_glbKey (s : Dev) (bits src kind bo : Nat) :
    (s.rstSource bits src kind bo).glbKey = s.glbKey := by
  unfold Dev.rstSource
  (try simp (disch := (first | decide | (simp only [notGlb, GLB_CYCLE_CNT, GLB_MODE_STAT, RST_CAUSE]; omega))) only [↓orMask_glbKey, ↓glbKey_mk, glbKey_fold, ↓ite_glbKey, ite_self, ↓rstLast_glbKey]) <;> (repeat' split) <;> (try simp (disch := (first | decide | (simp only [notGlb, GLB_CYCLE_CNT, GLB_MODE_STAT, RST_CAUSE]; omega))) only [↓orMask_glbKey, ↓glbKey_mk, glbKey_fold, ↓ite_glbKey, ite_self, ↓rstLast_glbKey])
theorem tickWatchdog_glbKey (s : Dev) :
    (s.tickWatchdog).glbKey = s.glbKey := by
  unfold Dev.tickWatchdog
  simp (disch := (first | decide | (simp only [notGlb, GLB_CYCLE_CNT, GLB_MODE_STAT]; omega))) only [↓rstSource_glbKey]
theorem gladeWatchdog_glbKey (s : Dev) :
    (s.gladeWatchdog).glbKey = s.glbKey := by
  unfold Dev.gladeWatchdog
  simp (disch := (first | decide | (simp only [notGlb, GLB_CYCLE_CNT, GLB_MODE_STAT]; omega))) only [↓rstSource_glbKey]
theorem criticalError_glbKey (s : Dev) (src addr : Nat) :
    (s.criticalError src addr).glbKey = s.glbKey := by
  unfold Dev.criticalError
  simp (disch := (first | decide | (simp only [notGlb, GLB_CYCLE_CNT, GLB_MODE_STAT, RST_CRIT]; omega))) only [↓wrN_glbKey, ↓rstSource_glbKey]
theorem brownOut_glbKey (s : Dev) (mask : Nat) :
    (s.brownOut mask).glbKey = s.glbKey := by
  unfold Dev.brownOut
  simp (disch := (first | decide | (simp only [notGlb, GLB_CYCLE_CNT, GLB_MODE_STAT]; omega))) only [↓glbKey_mk, glbKey_fold, ↓ite_glbKey, ite_self, ↓rstSource_glbKey]
theorem brownOutEnd_glbKey (s : Dev) (mask : Nat) :
    (s.brownOutEnd mask).glbKey = s.glbKey := by
  unfold Dev.brownOutEnd
  simp (disch := (first | decide | (simp only [notGlb, GLB_CYCLE_CNT, GLB_MODE_STAT]; omega))) only [↓glbKey_mk, glbKey_fold]
theorem rstPin_glbKey (s : Dev) :
    (s.rstPin).glbKey = s.glbKey := by
  unfold Dev.rstPin
  simp (disch := (first | decide | (simp only [notGlb, GLB_CYCLE_CNT, GLB_MODE_STAT]; omega))) only [↓rstSource_glbKey]
theorem resetAnnounce_glbKey (s : Dev) :
    (s.resetAnnounce).glbKey = s.glbKey := by
  unfold Dev.resetAnnounce
  (try simp (disch := (first | decide | (simp only [notGlb, GLB_CYCLE_CNT, GLB_MODE_STAT]; omega))) only [↓glbKey_mk, glbKey_fold, ↓ite_glbKey, ite_self, ↓groveAbort_glbKey, ↓mergeAll_glbKey, ↓safeAnnounce_glbKey]) <;> (repeat' split) <;> (try simp (disch := (first | decide | (simp only [notGlb, GLB_CYCLE_CNT, GLB_MODE_STAT]; omega))) only [↓glbKey_mk, glbKey_fold, ↓ite_glbKey, ite_self, ↓groveAbort_glbKey, ↓mergeAll_glbKey, ↓safeAnnounce_glbKey])
theorem clockCause_glbKey (s : Dev) (outage : Option Nat) :
    (s.clockCause outage).glbKey = s.glbKey := by
  unfold Dev.clockCause
  (try simp (disch := (first | decide | (simp only [notGlb, GLB_CYCLE_CNT, GLB_MODE_STAT, RST_CAUSE]; omega))) only [↓orMask_glbKey, ↓glbKey_mk, glbKey_fold]) <;> (repeat' split) <;> (try simp (disch := (first | decide | (simp only [notGlb, GLB_CYCLE_CNT, GLB_MODE_STAT, RST_CAUSE]; omega))) only [↓orMask_glbKey, ↓glbKey_mk, glbKey_fold])
theorem clockReturn_glbKey (s : Dev) (outage : Nat) :
    (s.clockReturn outage).glbKey = s.glbKey := by
  unfold Dev.clockReturn
  simp (disch := (first | decide | (simp only [notGlb, GLB_CYCLE_CNT, GLB_MODE_STAT, RST_DOM_STAT]; omega))) only [↓setBit_glbKey, ↓ite_glbKey, ite_self, ↓clockCause_glbKey]
theorem showDoms_glbKey (s : Dev) :
    (s.showDoms).glbKey = s.glbKey := by
  unfold Dev.showDoms
  simp (disch := (first | decide | (simp only [notGlb, GLB_CYCLE_CNT, GLB_MODE_STAT, PIN_CFGD, RST_DOM_STAT]; omega))) only [↓orMask_glbKey, ↓ite_glbKey, ite_self]
theorem pllLock_glbKey (s : Dev) (g : Bool) :
    (s.pllLock g).glbKey = s.glbKey := by
  unfold Dev.pllLock
  simp (disch := (first | decide | (simp only [notGlb, GLB_CYCLE_CNT, GLB_MODE_STAT, RST_DOM_STAT]; omega))) only [↓setBit_glbKey, ↓ite_glbKey, ite_self, ↓clockCause_glbKey, ↓showDoms_glbKey]
theorem loadFuses_glbKey (s : Dev) (fu : FuseIn) :
    (s.loadFuses fu).glbKey = s.glbKey := by
  unfold Dev.loadFuses
  simp (disch := (first | decide | (simp only [notGlb, GLB_CYCLE_CNT, GLB_MODE_STAT, GLB_SN_HI, GLB_SN_LO, NET_MAC_HI, NET_MAC_LO, PIN_FUSE0]; omega))) only [↓wrN_glbKey, ↓glbKey_mk, glbKey_fold, ↓showFuses_glbKey]
theorem countPower_glbKey (s : Dev) :
    (s.countPower).glbKey = s.glbKey := by
  unfold Dev.countPower
  simp (disch := (first | decide | (simp only [notGlb, GLB_CYCLE_CNT, GLB_MODE_STAT, LOG_OP_S, LOG_PWR_CYC]; omega))) only [↓wrN_glbKey, ↓setFld_glbKey]
theorem resetEvents_glbKey (s : Dev) (r : RstRun) (x : StrapRead) (role : Option Nat) :
    (s.resetEvents r x role).glbKey = s.glbKey := by
  unfold Dev.resetEvents
  (try simp (disch := first | first | decide | (simp only [notGlb, GLB_CYCLE_CNT, GLB_MODE_STAT, RST_CRIT, RST_STRAP]; omega) | (intros; (try simp (disch := (first | decide | (simp only [notGlb, GLB_CYCLE_CNT, GLB_MODE_STAT, RST_CRIT, RST_STRAP]; omega))) only [↓ev_glbKey, ↓glbKey_mk, glbKey_fold, ↓ite_glbKey, ite_self]) <;> (repeat' split) <;> (try simp (disch := (first | decide | (simp only [notGlb, GLB_CYCLE_CNT, GLB_MODE_STAT, RST_CRIT, RST_STRAP]; omega))) only [↓ev_glbKey, ↓glbKey_mk, glbKey_fold, ↓ite_glbKey, ite_self]))) only [↓ev_glbKey, ↓glbKey_mk, glbKey_fold, ↓ite_glbKey, ite_self, each_glbKey]) <;> (repeat' split) <;> (try simp (disch := first | first | decide | (simp only [notGlb, GLB_CYCLE_CNT, GLB_MODE_STAT, RST_CRIT, RST_STRAP]; omega) | (intros; (try simp (disch := (first | decide | (simp only [notGlb, GLB_CYCLE_CNT, GLB_MODE_STAT, RST_CRIT, RST_STRAP]; omega))) only [↓ev_glbKey, ↓glbKey_mk, glbKey_fold, ↓ite_glbKey, ite_self]) <;> (repeat' split) <;> (try simp (disch := (first | decide | (simp only [notGlb, GLB_CYCLE_CNT, GLB_MODE_STAT, RST_CRIT, RST_STRAP]; omega))) only [↓ev_glbKey, ↓glbKey_mk, glbKey_fold, ↓ite_glbKey, ite_self]))) only [↓ev_glbKey, ↓glbKey_mk, glbKey_fold, ↓ite_glbKey, ite_self, each_glbKey])
theorem resetRelease_glbKey (s : Dev) (st : StrapIn) (fu : FuseIn) :
    (s.resetRelease st fu).glbKey = s.glbKey := by
  unfold Dev.resetRelease
  (try simp (disch := (first | decide | (simp only [notGlb, GLB_CYCLE_CNT, GLB_MODE_STAT, RST_CAUSE, RST_COUNT, RST_DOM_STAT, RST_STRAP]; omega))) only [↓wrN_glbKey, ↓setBit_glbKey, ↓cntSat_glbKey, ↓orMask_glbKey, ↓glbKey_mk, glbKey_fold, ↓ite_glbKey, ite_self, ↓countPower_glbKey, ↓loadFuses_glbKey, ↓resetEvents_glbKey, ↓safeRelease_glbKey, ↓showDoms_glbKey, ↓standStart_glbKey]) <;> (repeat' split) <;> (try simp (disch := (first | decide | (simp only [notGlb, GLB_CYCLE_CNT, GLB_MODE_STAT, RST_CAUSE, RST_COUNT, RST_DOM_STAT, RST_STRAP]; omega))) only [↓wrN_glbKey, ↓setBit_glbKey, ↓cntSat_glbKey, ↓orMask_glbKey, ↓glbKey_mk, glbKey_fold, ↓ite_glbKey, ite_self, ↓countPower_glbKey, ↓loadFuses_glbKey, ↓resetEvents_glbKey, ↓safeRelease_glbKey, ↓showDoms_glbKey, ↓standStart_glbKey])
theorem showAlign_glbKey (s : Dev) (free aligned : Bool) :
    (s.showAlign free aligned).glbKey = s.glbKey := by
  unfold Dev.showAlign
  simp (disch := (first | decide | (simp only [notGlb, GLB_CYCLE_CNT, GLB_MODE_STAT, GLB_TICK_STAT]; omega))) only [↓setBit_glbKey]
theorem showTick_glbKey (s : Dev) (n : Nat) (slewing : Bool) :
    (s.showTick n slewing).glbKey = s.glbKey := by
  unfold Dev.showTick
  simp (disch := (first | decide | (simp only [notGlb, GLB_CYCLE_CNT, GLB_MODE_STAT, GLB_TICK_STAT]; omega))) only [↓setFld_glbKey, ↓setBit_glbKey]
theorem overrunFlag_glbKey (s : Dev) (bit code p1 p2 : Nat) :
    (s.overrunFlag bit code p1 p2).glbKey = s.glbKey := by
  unfold Dev.overrunFlag
  simp (disch := (first | decide | (simp only [notGlb, GLB_CYCLE_CNT, GLB_MODE_STAT, GLB_OVR_CNT, GLB_OVR_STAT]; omega))) only [↓setBit_glbKey, ↓cntSat_glbKey, ↓ev_glbKey]
theorem showLoad_glbKey (s : Dev) (p1 p2 : Nat) :
    (s.showLoad p1 p2).glbKey = s.glbKey := by
  unfold Dev.showLoad
  simp (disch := (first | decide | (simp only [notGlb, GLB_CYCLE_CNT, GLB_MODE_STAT, GLB_TICK_LOAD]; omega))) only [↓setFld_glbKey]
theorem showRun_glbKey (s : Dev) :
    (s.showRun).glbKey = s.glbKey := by
  unfold Dev.showRun
  simp (disch := (first | decide | (simp only [notGlb, GLB_CYCLE_CNT, GLB_MODE_STAT, LOOP_ENG_STAT]; omega))) only [↓setFld_glbKey]
theorem modeCommand_glbKey (s : Dev) (cmd : Nat) :
    (s.modeCommand cmd).glbKey = s.glbKey := by
  unfold Dev.modeCommand
  simp (disch := (first | decide | (simp only [notGlb, GLB_CYCLE_CNT, GLB_MODE_STAT]; omega))) only [↓glbKey_mk, glbKey_fold, ↓ite_glbKey, ite_self]
theorem loadClear_glbKey (s : Dev) :
    (s.loadClear).glbKey = s.glbKey := by
  unfold Dev.loadClear
  simp (disch := (first | decide | (simp only [notGlb, GLB_CYCLE_CNT, GLB_MODE_STAT]; omega))) only [↓glbKey_mk, glbKey_fold]
theorem enterMode_glbKey (s : Dev) (new : Nat) :
    (s.enterMode new).glbKey = s.glbKey := by
  unfold Dev.enterMode
  (try simp (disch := (first | decide | (simp only [notGlb, GLB_CYCLE_CNT, GLB_MODE_STAT]; omega))) only [↓glbKey_mk, glbKey_fold, ↓allocArming_glbKey, ↓allocOperate_glbKey, ↓allocWatch_glbKey, ↓axesEnter_glbKey, ↓loopEnter_glbKey, ↓loopLeave_glbKey]) <;> (repeat' split) <;> (try simp (disch := (first | decide | (simp only [notGlb, GLB_CYCLE_CNT, GLB_MODE_STAT]; omega))) only [↓glbKey_mk, glbKey_fold, ↓allocArming_glbKey, ↓allocOperate_glbKey, ↓allocWatch_glbKey, ↓axesEnter_glbKey, ↓loopEnter_glbKey, ↓loopLeave_glbKey])
theorem seqStep_glbKey (s : Dev) (e : Rat) :
    (s.seqStep e).glbKey = s.glbKey := by
  unfold Dev.seqStep
  simp (disch := (first | decide | (simp only [notGlb, GLB_CYCLE_CNT, GLB_MODE_STAT]; omega))) only [↓evI_glbKey, ↓glbKey_mk, glbKey_fold, ↓groveAbort_glbKey, ↓showAlign_glbKey]
theorem seqSlew_glbKey (s : Dev) (e : Rat) :
    (s.seqSlew e).glbKey = s.glbKey := by
  unfold Dev.seqSlew
  simp (disch := (first | decide | (simp only [notGlb, GLB_CYCLE_CNT, GLB_MODE_STAT]; omega))) only [↓glbKey_mk, glbKey_fold]
theorem align_glbKey (s : Dev) (watch : Bool) :
    (s.align watch).glbKey = s.glbKey := by
  unfold Dev.align
  simp (disch := (first | decide | (simp only [notGlb, GLB_CYCLE_CNT, GLB_MODE_STAT, GLB_TICK_PHASE]; omega))) only [↓wr_glbKey, ↓glbKey_mk, glbKey_fold, ↓ite_glbKey, ite_self, ↓seqSlew_glbKey, ↓seqStep_glbKey, ↓showAlign_glbKey]
theorem overrun_glbKey (s : Dev) (w : OverrunWork) :
    (s.overrun w).glbKey = s.glbKey := by
  unfold Dev.overrun
  (try simp (disch := (first | decide | (simp only [notGlb, GLB_CYCLE_CNT, GLB_MODE_STAT]; omega))) only [↓glbKey_mk, glbKey_fold, ↓ite_glbKey, ite_self, ↓overrunFlag_glbKey]) <;> (repeat' split) <;> (try simp (disch := (first | decide | (simp only [notGlb, GLB_CYCLE_CNT, GLB_MODE_STAT]; omega))) only [↓glbKey_mk, glbKey_fold, ↓ite_glbKey, ite_self, ↓overrunFlag_glbKey])
theorem enginesAtBoundary_glbKey (s : Dev) (i : BoundaryIn) :
    (s.enginesAtBoundary i).glbKey = s.glbKey := by
  unfold Dev.enginesAtBoundary
  simp (disch := first | first | decide | (simp only [notGlb, GLB_CYCLE_CNT, GLB_MODE_STAT]; omega) | (intros; (try simp (disch := (first | decide | (simp only [notGlb, GLB_CYCLE_CNT, GLB_MODE_STAT]; omega))) only [↓assignGroups_glbKey, ↓epoch_glbKey, ↓estBoundary_glbKey, ↓holdBound_glbKey, ↓laneCorr_glbKey, ↓moveRoles_glbKey, ↓netBoundary_glbKey, ↓selectBoundary_glbKey, ↓thktBoundary_glbKey]) <;> (try (split <;> simp (disch := (first | decide | (simp only [notGlb, GLB_CYCLE_CNT, GLB_MODE_STAT]; omega))) only [↓assignGroups_glbKey, ↓epoch_glbKey, ↓estBoundary_glbKey, ↓holdBound_glbKey, ↓laneCorr_glbKey, ↓moveRoles_glbKey, ↓netBoundary_glbKey, ↓selectBoundary_glbKey, ↓thktBoundary_glbKey])))) only [↓assignGroups_glbKey, ↓epoch_glbKey, ↓estBoundary_glbKey, ↓holdBound_glbKey, ↓laneCorr_glbKey, ↓moveRoles_glbKey, ↓netBoundary_glbKey, ↓selectBoundary_glbKey, ↓thktBoundary_glbKey, each_glbKey]
theorem ageOutputs_glbKey (s : Dev) :
    (s.ageOutputs).glbKey = s.glbKey := by
  unfold Dev.ageOutputs
  simp (disch := (first | decide | (simp only [notGlb, GLB_CYCLE_CNT, GLB_MODE_STAT]; omega))) only [↓glbKey_mk, glbKey_fold]
theorem ageDeadlines_glbKey (s : Dev) :
    (s.ageDeadlines).glbKey = s.glbKey := by
  unfold Dev.ageDeadlines
  simp (disch := (first | decide | (simp only [notGlb, GLB_CYCLE_CNT, GLB_MODE_STAT]; omega))) only [↓glbKey_mk, glbKey_fold, ↓ite_glbKey, ite_self]
theorem inputLatch_glbKey (s : Dev) :
    (s.inputLatch).glbKey = s.glbKey := by
  unfold Dev.inputLatch
  simp (disch := (first | decide | (simp only [notGlb, GLB_CYCLE_CNT, GLB_MODE_STAT]; omega))) only [↓acqP0_glbKey, ↓ageDeadlines_glbKey, ↓ageOutputs_glbKey, ↓canP0_glbKey, ↓profP0_glbKey, ↓ringStops_glbKey, ↓takeFrame_glbKey]
theorem tickP0_glbKey (s : Dev) (n : Nat) :
    (s.tickP0 n).glbKey = s.glbKey := by
  unfold Dev.tickP0
  simp (disch := (first | decide | (simp only [notGlb, GLB_CYCLE_CNT, GLB_MODE_STAT]; omega))) only [↓inputLatch_glbKey, ↓standP0_glbKey]
theorem slotsBefore_glbKey (s : Dev) (i : TickIn) (n : Nat) :
    (s.slotsBefore i n).glbKey = s.glbKey := by
  unfold Dev.slotsBefore
  (try simp (disch := (first | decide | (simp only [notGlb, GLB_CYCLE_CNT, GLB_MODE_STAT]; omega))) only [↓glbKey_mk, glbKey_fold, ↓allocApply_glbKey, ↓allocPose_glbKey, ↓allocReport_glbKey, ↓bundleEnd_glbKey, ↓bundleStart_glbKey, ↓estForm_glbKey, ↓estUpdate_glbKey]) <;> (repeat' split) <;> (try simp (disch := (first | decide | (simp only [notGlb, GLB_CYCLE_CNT, GLB_MODE_STAT]; omega))) only [↓glbKey_mk, glbKey_fold, ↓allocApply_glbKey, ↓allocPose_glbKey, ↓allocReport_glbKey, ↓bundleEnd_glbKey, ↓bundleStart_glbKey, ↓estForm_glbKey, ↓estUpdate_glbKey])
theorem tickLoops_glbKey (s : Dev) (i : TickIn) (n : Nat) :
    (s.tickLoops i n).glbKey = s.glbKey := by
  unfold Dev.tickLoops
  simp (disch := (first | decide | (simp only [notGlb, GLB_CYCLE_CNT, GLB_MODE_STAT]; omega))) only [↓ite_glbKey, ite_self, ↓allocDemand_glbKey, ↓loadCtxs_glbKey, ↓loopP2_glbKey, ↓profP1_glbKey, ↓showLoad_glbKey, ↓showRun_glbKey, ↓standTick78_glbKey]
theorem tickP3_glbKey (s : Dev) (n : Nat) :
    (s.tickP3 n).glbKey = s.glbKey := by
  unfold Dev.tickP3
  simp (disch := (first | decide | (simp only [notGlb, GLB_CYCLE_CNT, GLB_MODE_STAT]; omega))) only [↓ite_glbKey, ite_self, ↓applyFrame_glbKey, ↓standSend_glbKey, ↓streamsP3_glbKey, ↓trefP3_glbKey]
theorem passTime_glbKey (s : Dev) (n cycles : Nat) (dt : Rat) :
    (s.passTime n cycles dt).glbKey = s.glbKey := by
  unfold Dev.passTime
  simp (disch := first | first | decide | (simp only [notGlb, GLB_CYCLE_CNT, GLB_MODE_STAT]; omega) | (intros; (try simp (disch := (first | decide | (simp only [notGlb, GLB_CYCLE_CNT, GLB_MODE_STAT]; omega))) only [↓glbKey_mk, glbKey_fold, ↓advance_glbKey, ↓gladeSecond_glbKey]) <;> (try (split <;> simp (disch := (first | decide | (simp only [notGlb, GLB_CYCLE_CNT, GLB_MODE_STAT]; omega))) only [↓glbKey_mk, glbKey_fold, ↓advance_glbKey, ↓gladeSecond_glbKey])))) only [↓glbKey_mk, glbKey_fold, ↓advance_glbKey, ↓gladeSecond_glbKey, each_glbKey]
theorem adjustedTick_glbKey (s : Dev) (n : Nat) (r : Rat) :
    (s.adjustedTick n r).glbKey = s.glbKey := by
  unfold Dev.adjustedTick
  simp (disch := (first | decide | (simp only [notGlb, GLB_CYCLE_CNT, GLB_MODE_STAT]; omega))) only [↓glbKey_mk, glbKey_fold, ↓inputLatch_glbKey, ↓passTime_glbKey, ↓showAlign_glbKey, ↓showTick_glbKey]
theorem wholeTick_glbKey (s : Dev) (i : TickIn) (n : Nat) :
    (s.wholeTick i n).glbKey = s.glbKey := by
  unfold Dev.wholeTick
  simp (disch := (first | decide | (simp only [notGlb, GLB_CYCLE_CNT, GLB_MODE_STAT]; omega))) only [↓ite_glbKey, ite_self, ↓hostP4_glbKey, ↓midLatch_glbKey, ↓passTime_glbKey, ↓showTick_glbKey, ↓slotsBefore_glbKey, ↓tickLoops_glbKey, ↓tickP0_glbKey, ↓tickP3_glbKey]
theorem tickCritical_glbKey (s : Dev) (i : TickIn) :
    (s.tickCritical i).glbKey = s.glbKey := by
  unfold Dev.tickCritical
  (try simp (disch := (first | decide | (simp only [notGlb, GLB_CYCLE_CNT, GLB_MODE_STAT]; omega))) only [↓glbKey_mk, glbKey_fold, ↓criticalError_glbKey]) <;> (repeat' split) <;> (try simp (disch := (first | decide | (simp only [notGlb, GLB_CYCLE_CNT, GLB_MODE_STAT]; omega))) only [↓glbKey_mk, glbKey_fold, ↓criticalError_glbKey])
theorem tickCommand_glbKey (s : Dev) (i : TickIn) :
    (s.tickCommand i).glbKey = s.glbKey := by
  unfold Dev.tickCommand
  (try simp (disch := (first | decide | (simp only [notGlb, GLB_CYCLE_CNT, GLB_MODE_STAT, GLB_TICK_LOAD, GLB_XING_MERGE]; omega))) only [↓wr_glbKey, ↓cntSat_glbKey, ↓glbKey_mk, glbKey_fold, ↓ite_glbKey, ite_self, ↓adjustedTick_glbKey, ↓lateLanes_glbKey, ↓tickCritical_glbKey, ↓wholeTick_glbKey]) <;> (repeat' split) <;> (try simp (disch := (first | decide | (simp only [notGlb, GLB_CYCLE_CNT, GLB_MODE_STAT, GLB_TICK_LOAD, GLB_XING_MERGE]; omega))) only [↓wr_glbKey, ↓cntSat_glbKey, ↓glbKey_mk, glbKey_fold, ↓ite_glbKey, ite_self, ↓adjustedTick_glbKey, ↓lateLanes_glbKey, ↓tickCritical_glbKey, ↓wholeTick_glbKey])
theorem glbWrite_glbKey (s : Dev) (a : Nat) (v : Word) :
    (s.glbWrite a v).glbKey = s.glbKey := by
  unfold Dev.glbWrite
  (try simp (disch := (first | decide | (simp only [notGlb, GLB_ATT_CMD, GLB_CYCLE_CNT, GLB_ENROL_CMD, GLB_ENROL_DATA, GLB_MODE_CMD, GLB_MODE_STAT, GLB_SESS_CMD, GLB_SESS_RESP, GLB_TICK_LOAD_CLR]; omega) | (simp only [↓store_glbKey, ↓glbKey_mk, glbKey_fold, ↓ite_glbKey, ite_self, ↓attRequest_glbKey, ↓byGlade_glbKey, ↓enrolCommand_glbKey, ↓loadClear_glbKey, ↓modeCommand_glbKey, ↓sessCommand_glbKey]))) only [↓store_glbKey, ↓glbKey_mk, glbKey_fold, ↓ite_glbKey, ite_self, ↓attRequest_glbKey, ↓byGlade_glbKey, ↓enrolCommand_glbKey, ↓loadClear_glbKey, ↓modeCommand_glbKey, ↓sessCommand_glbKey]) <;> (repeat' split) <;> (try simp (disch := (first | decide | (simp only [notGlb, GLB_ATT_CMD, GLB_CYCLE_CNT, GLB_ENROL_CMD, GLB_ENROL_DATA, GLB_MODE_CMD, GLB_MODE_STAT, GLB_SESS_CMD, GLB_SESS_RESP, GLB_TICK_LOAD_CLR]; omega) | (simp only [↓store_glbKey, ↓glbKey_mk, glbKey_fold, ↓ite_glbKey, ite_self, ↓attRequest_glbKey, ↓byGlade_glbKey, ↓enrolCommand_glbKey, ↓loadClear_glbKey, ↓modeCommand_glbKey, ↓sessCommand_glbKey]))) only [↓store_glbKey, ↓glbKey_mk, glbKey_fold, ↓ite_glbKey, ite_self, ↓attRequest_glbKey, ↓byGlade_glbKey, ↓enrolCommand_glbKey, ↓loadClear_glbKey, ↓modeCommand_glbKey, ↓sessCommand_glbKey])
theorem loopWrite_glbKey (s : Dev) (a : Nat) (v : Word) :
    (s.loopWrite a v).glbKey = s.glbKey := by
  unfold Dev.loopWrite
  simp (disch := (first | decide | (simp only [notGlb, GLB_CYCLE_CNT, GLB_MODE_STAT, LOOP_CTX_CMD, loopWin, profWin]; omega))) only [↓store_glbKey, ↓ite_glbKey, ite_self, ↓loopCommand_glbKey, ↓resumeCommand_glbKey]
theorem hostTarget_glbKey (s : Dev) (g : Nat) (v : Word) :
    (s.hostTarget g v).glbKey = s.glbKey := by
  unfold Dev.hostTarget
  simp (disch := (first | decide | (simp only [notGlb, GLB_CYCLE_CNT, GLB_MODE_STAT, PROF_HTGT, loopWin, profWin]; omega))) only [↓wr_glbKey, ↓setGen_glbKey, ↓glbKey_mk, glbKey_fold, ↓ite_glbKey, ite_self]
theorem profWrite_glbKey (s : Dev) (a : Nat) (v : Word) :
    (s.profWrite a v).glbKey = s.glbKey := by
  unfold Dev.profWrite
  (try simp (disch := (first | decide | (simp only [notGlb, GLB_CYCLE_CNT, GLB_MODE_STAT, PROF_HTGT, loopWin, profWin]; omega))) only [↓store_glbKey, ↓glbKey_mk, glbKey_fold, ↓hostTarget_glbKey]) <;> (repeat' split) <;> (try simp (disch := (first | decide | (simp only [notGlb, GLB_CYCLE_CNT, GLB_MODE_STAT, PROF_HTGT, loopWin, profWin]; omega))) only [↓store_glbKey, ↓glbKey_mk, glbKey_fold, ↓hostTarget_glbKey])
theorem estWrite_glbKey (s : Dev) (a : Nat) (v : Word) :
    (s.estWrite a v).glbKey = s.glbKey := by
  unfold Dev.estWrite
  simp (disch := (first | decide | (simp only [notGlb, EST_ORIGIN_LAT, EST_ORIGIN_LON, GLB_CYCLE_CNT, GLB_MODE_STAT]; omega))) only [↓store_glbKey, ↓ite_glbKey, ite_self, ↓originWrite_glbKey]
theorem selectThrusters_glbKey (s : Dev) (v : Word) :
    (s.selectThrusters v).glbKey = s.glbKey := by
  unfold Dev.selectThrusters
  simp (disch := (first | decide | (simp only [notGlb, ALLOC_THR_EN, GLB_CYCLE_CNT, GLB_MODE_STAT]; omega))) only [↓store_glbKey, ↓glbKey_mk, glbKey_fold, ↓ite_glbKey, ite_self, ↓sessUse_glbKey]
theorem allocWrite_glbKey (s : Dev) (a : Nat) (v : Word) :
    (s.allocWrite a v).glbKey = s.glbKey := by
  unfold Dev.allocWrite
  simp (disch := (first | decide | (simp only [notGlb, ALLOC_THR_EN, GLB_CYCLE_CNT, GLB_MODE_STAT]; omega))) only [↓store_glbKey, ↓ite_glbKey, ite_self, ↓selectThrusters_glbKey]
theorem clearLane_glbKey (s : Dev) (l : Nat) :
    (s.clearLane l).glbKey = s.glbKey := by
  unfold Dev.clearLane
  simp (disch := (first | decide | (simp only [notGlb, GLB_CYCLE_CNT, GLB_MODE_STAT, GROVE_LANE_ITER, GROVE_LANE_STAT, GROVE_LANE_TMAX]; omega))) only [↓wr_glbKey, ↓setFld_glbKey]
theorem groveWrite_glbKey (s : Dev) (a : Nat) (v : Word) :
    (s.groveWrite a v).glbKey = s.glbKey := by
  unfold Dev.groveWrite
  (try simp (disch := (first | decide | (simp only [notGlb, GLB_CYCLE_CNT, GLB_MODE_STAT, GROVE_LANE_CLR, GROVE_LANE_STAT]; omega))) only [↓store_glbKey, ↓glbKey_mk, glbKey_fold, ↓ite_glbKey, ite_self, ↓clearLane_glbKey]) <;> (repeat' split) <;> (try simp (disch := (first | decide | (simp only [notGlb, GLB_CYCLE_CNT, GLB_MODE_STAT, GROVE_LANE_CLR, GROVE_LANE_STAT]; omega))) only [↓store_glbKey, ↓glbKey_mk, glbKey_fold, ↓ite_glbKey, ite_self, ↓clearLane_glbKey])
theorem gnssWrite_glbKey (s : Dev) (a : Nat) (v : Word) :
    (s.gnssWrite a v).glbKey = s.glbKey := by
  unfold Dev.gnssWrite
  (try simp (disch := (first | decide | (simp only [notGlb, GLB_CYCLE_CNT, GLB_MODE_STAT, GNSS_DISC_CFG, GNSS_PPS_CFG, GNSS_PPS_DLY, GNSS_SENT_CFG, PIN_CFGD]; omega))) only [↓setBit_glbKey, ↓store_glbKey, ↓glbKey_mk, glbKey_fold, ↓ite_glbKey, ite_self, ↓ppsWrite_glbKey]) <;> (repeat' split) <;> (try simp (disch := (first | decide | (simp only [notGlb, GLB_CYCLE_CNT, GLB_MODE_STAT, GNSS_DISC_CFG, GNSS_PPS_CFG, GNSS_PPS_DLY, GNSS_SENT_CFG, PIN_CFGD]; omega))) only [↓setBit_glbKey, ↓store_glbKey, ↓glbKey_mk, glbKey_fold, ↓ite_glbKey, ite_self, ↓ppsWrite_glbKey])
theorem acqRegWrite_glbKey (s : Dev) (a : Nat) (v : Word) :
    (s.acqRegWrite a v).glbKey = s.glbKey := by
  unfold Dev.acqRegWrite
  (try simp (disch := (first | decide | (simp only [notGlb, ACQ_APPLY, ACQ_QUAD_CFG, ACQ_QUAD_ZERO, GLB_CYCLE_CNT, GLB_MODE_STAT]; omega))) only [↓glbKey_mk, glbKey_fold, ↓ite_glbKey, ite_self, ↓acqWrite_glbKey, ↓coefApply_glbKey, ↓quadZero_glbKey]) <;> (repeat' split) <;> (try simp (disch := (first | decide | (simp only [notGlb, ACQ_APPLY, ACQ_QUAD_CFG, ACQ_QUAD_ZERO, GLB_CYCLE_CNT, GLB_MODE_STAT]; omega))) only [↓glbKey_mk, glbKey_fold, ↓ite_glbKey, ite_self, ↓acqWrite_glbKey, ↓coefApply_glbKey, ↓quadZero_glbKey])
theorem netRegWrite_glbKey (s : Dev) (a : Nat) (v : Word) :
    (s.netRegWrite a v).glbKey = s.glbKey := by
  unfold Dev.netRegWrite
  (try simp (disch := (first | decide | (simp only [notGlb, GLB_CYCLE_CNT, GLB_MODE_STAT, NET_ALARM_CTL, NET_EVT_POP]; omega))) only [↓glbKey_mk, glbKey_fold, ↓ite_glbKey, ite_self, ↓alarmArm_glbKey, ↓evtPop_glbKey, ↓netWrite_glbKey]) <;> (repeat' split) <;> (try simp (disch := (first | decide | (simp only [notGlb, GLB_CYCLE_CNT, GLB_MODE_STAT, NET_ALARM_CTL, NET_EVT_POP]; omega))) only [↓glbKey_mk, glbKey_fold, ↓ite_glbKey, ite_self, ↓alarmArm_glbKey, ↓evtPop_glbKey, ↓netWrite_glbKey])
theorem thktWrite_glbKey (s : Dev) (a : Nat) (v : Word) :
    (s.thktWrite a v).glbKey = s.glbKey := by
  unfold Dev.thktWrite
  simp (disch := (first | decide | (simp only [notGlb, GLB_CYCLE_CNT, GLB_MODE_STAT, THKT_FIND_HI, THKT_PT_IDX, THKT_RELEASE]; omega))) only [↓store_glbKey, ↓ite_glbKey, ite_self, ↓findStart_glbKey, ↓latchPoint_glbKey, ↓releaseCommand_glbKey]
theorem logWrite_glbKey (s : Dev) (a : Nat) (v : Word) :
    (s.logWrite a v).glbKey = s.glbKey := by
  unfold Dev.logWrite
  simp (disch := (first | decide | (simp only [notGlb, GLB_CYCLE_CNT, GLB_MODE_STAT, LOG_CLEAR, LOG_FREEZE]; omega) | (simp only [↓store_glbKey, ↓ite_glbKey, ite_self, ↓byGlade_glbKey, ↓clearCommand_glbKey, ↓freezeBegin_glbKey, ↓freezeEnd_glbKey]))) only [↓store_glbKey, ↓ite_glbKey, ite_self, ↓byGlade_glbKey, ↓clearCommand_glbKey, ↓freezeBegin_glbKey, ↓freezeEnd_glbKey]
theorem pairWrite_glbKey (s : Dev) (p o : Nat) (v : Word) :
    (s.pairWrite p o v).glbKey = s.glbKey := by
  unfold Dev.pairWrite
  simp (disch := (first | decide | (simp only [notGlb, GLB_CYCLE_CNT, GLB_MODE_STAT, pairWin]; omega))) only [↓store_glbKey, ↓ite_glbKey, ite_self, ↓ringConfig_glbKey, ↓ringResume_glbKey]
theorem hostWrite_glbKey (s : Dev) (a : Nat) (v : Word) :
    (s.hostWrite a v).glbKey = s.glbKey := by
  unfold Dev.hostWrite
  (try simp (disch := (first | decide | (simp only [notGlb, GLB_CYCLE_CNT, GLB_MODE_STAT, HOST_VEC_ACK, MSIX_TAB, pairWin]; omega))) only [↓store_glbKey, ↓glbKey_mk, glbKey_fold, ↓ite_glbKey, ite_self, ↓pairWrite_glbKey, ↓vectorArm_glbKey, ↓vectorOpen_glbKey]) <;> (repeat' split) <;> (try simp (disch := (first | decide | (simp only [notGlb, GLB_CYCLE_CNT, GLB_MODE_STAT, HOST_VEC_ACK, MSIX_TAB, pairWin]; omega))) only [↓store_glbKey, ↓glbKey_mk, glbKey_fold, ↓ite_glbKey, ite_self, ↓pairWrite_glbKey, ↓vectorArm_glbKey, ↓vectorOpen_glbKey])
theorem regWrite_glbKey (s : Dev) (a : Nat) (v : Word) :
    (s.regWrite a v).glbKey = s.glbKey := by
  unfold Dev.regWrite
  (try simp (disch := (first | decide | (simp only [notGlb, GLB_CYCLE_CNT, GLB_MODE_STAT, STAND_CMD]; omega))) only [↓store_glbKey, ↓glbKey_mk, glbKey_fold, ↓ite_glbKey, ite_self, ↓acqRegWrite_glbKey, ↓allocWrite_glbKey, ↓canWrite_glbKey, ↓estWrite_glbKey, ↓glbWrite_glbKey, ↓gnssWrite_glbKey, ↓groveWrite_glbKey, ↓hostWrite_glbKey, ↓logWrite_glbKey, ↓loopWrite_glbKey, ↓netRegWrite_glbKey, ↓profWrite_glbKey, ↓swapCommand_glbKey, ↓thktWrite_glbKey]) <;> (repeat' split) <;> (try simp (disch := (first | decide | (simp only [notGlb, GLB_CYCLE_CNT, GLB_MODE_STAT, STAND_CMD]; omega))) only [↓store_glbKey, ↓glbKey_mk, glbKey_fold, ↓ite_glbKey, ite_self, ↓acqRegWrite_glbKey, ↓allocWrite_glbKey, ↓canWrite_glbKey, ↓estWrite_glbKey, ↓glbWrite_glbKey, ↓gnssWrite_glbKey, ↓groveWrite_glbKey, ↓hostWrite_glbKey, ↓logWrite_glbKey, ↓loopWrite_glbKey, ↓netRegWrite_glbKey, ↓profWrite_glbKey, ↓swapCommand_glbKey, ↓thktWrite_glbKey])
theorem hostWriteOp_glbKey (s : Dev) (a : Nat) (v : Word) :
    (s.hostWriteOp a v).glbKey = s.glbKey := by
  unfold Dev.hostWriteOp
  simp (disch := (first | decide | (simp only [notGlb, GLB_CYCLE_CNT, GLB_MODE_STAT]; omega))) only [↓glbKey_mk, glbKey_fold, ↓ite_glbKey, ite_self, ↓regWrite_glbKey]
theorem badAccess_glbKey (s : Dev) (a size : Nat) :
    (s.badAccess a size).glbKey = s.glbKey := by
  unfold Dev.badAccess
  simp (disch := (first | decide | (simp only [notGlb, GLB_CYCLE_CNT, GLB_MODE_STAT]; omega))) only [↓glbKey_mk, glbKey_fold, ↓ite_glbKey, ite_self]
theorem stoppedAccess_glbKey (s : Dev) (mgt : Bool) (a : Nat) :
    (s.stoppedAccess mgt a).glbKey = s.glbKey := by
  unfold Dev.stoppedAccess
  simp (disch := (first | decide | (simp only [notGlb, GLB_CYCLE_CNT, GLB_MODE_STAT, RST_DOM_STAT]; omega))) only [↓glbKey_mk, glbKey_fold, ↓ite_glbKey, ite_self]
theorem laneNext_glbKey (s : Dev) (l : Nat) (ok : Bool) :
    (s.laneNext l ok).glbKey = s.glbKey := by
  unfold Dev.laneNext
  simp (disch := (first | decide | (simp only [notGlb, GLB_CYCLE_CNT, GLB_MODE_STAT]; omega))) only [↓bundleNext_glbKey, ↓cqStopped_glbKey]
theorem publish_glbKey (s : Dev) (l : Nat) (r : SolveOut) :
    (s.publish l r).glbKey = s.glbKey := by
  unfold Dev.publish
  simp (disch := (first | decide | (simp only [notGlb, GLB_CYCLE_CNT, GLB_MODE_STAT]; omega))) only [↓ite_glbKey, ite_self, ↓laneCorr_glbKey, ↓laneNext_glbKey, ↓laneStop_glbKey]
theorem deadline_glbKey (s : Dev) (l iter cycles : Nat) (corr : List Nat) :
    (s.deadline l iter cycles corr).glbKey = s.glbKey := by
  unfold Dev.deadline
  simp (disch := (first | decide | (simp only [notGlb, GLB_CYCLE_CNT, GLB_MODE_STAT]; omega))) only [↓setLane_glbKey, ↓glbKey_mk, glbKey_fold, ↓ite_glbKey, ite_self, ↓laneCorr_glbKey, ↓laneStop_glbKey]
theorem solveFails_glbKey (s : Dev) (l code iter cycles : Nat) (pivot : Rat) (corr : List Nat) :
    (s.solveFails l code iter cycles pivot corr).glbKey = s.glbKey := by
  unfold Dev.solveFails
  simp (disch := (first | decide | (simp only [notGlb, GLB_CYCLE_CNT, GLB_MODE_STAT]; omega))) only [↓ite_glbKey, ite_self, ↓laneCorr_glbKey, ↓laneNext_glbKey, ↓laneStop_glbKey]
theorem settled_glbKey (s : Dev) (sig : Nat) :
    (s.settled sig).glbKey = s.glbKey := by
  unfold Dev.settled
  simp (disch := (first | decide | (simp only [notGlb, GLB_CYCLE_CNT, GLB_MODE_STAT]; omega))) only [↓glbKey_mk, glbKey_fold, ↓ite_glbKey, ite_self]
theorem send450_glbKey (s : Dev) (sentence : List Byte) :
    (s.send450 sentence).glbKey = s.glbKey := by
  unfold Dev.send450
  simp (disch := (first | decide | (simp only [notGlb, GLB_CYCLE_CNT, GLB_MODE_STAT, NET_450_GRP, NET_450_PORT]; omega))) only [↓glbKey_mk, glbKey_fold, ↓originate_glbKey]
theorem sentenceInterval_glbKey (s : Dev) (u : Nat) (texts : List (List Byte)) :
    (s.sentenceInterval u texts).glbKey = s.glbKey := by
  unfold Dev.sentenceInterval
  simp (disch := first | first | decide | (simp only [notGlb, GLB_CYCLE_CNT, GLB_MODE_STAT]; omega) | (intros; (try simp (disch := (first | decide | (simp only [notGlb, GLB_CYCLE_CNT, GLB_MODE_STAT]; omega))) only [↓ite_glbKey, ite_self, ↓send450_glbKey, ↓sentences_glbKey]) <;> (try (split <;> simp (disch := (first | decide | (simp only [notGlb, GLB_CYCLE_CNT, GLB_MODE_STAT]; omega))) only [↓ite_glbKey, ite_self, ↓send450_glbKey, ↓sentences_glbKey])))) only [↓ite_glbKey, ite_self, ↓send450_glbKey, ↓sentences_glbKey, each_glbKey]
theorem chainWrite_glbKey (s : Dev) (a : Nat) (v : Word) :
    (s.chainWrite a v).glbKey = s.glbKey := by
  unfold Dev.chainWrite
  simp (disch := (first | decide | (simp only [notGlb, GLB_CYCLE_CNT, GLB_MODE_STAT]; omega))) only [↓ite_glbKey, ite_self, ↓acqWrite_glbKey]
theorem scanCommand_glbKey (s : Dev) (i : ScanIn) :
    (s.scanCommand i).glbKey = s.glbKey := by
  unfold Dev.scanCommand
  simp (disch := (first | decide | (simp only [notGlb, GLB_CYCLE_CNT, GLB_MODE_STAT]; omega))) only [↓ite_glbKey, ite_self, ↓criticalError_glbKey, ↓scanEnd_glbKey]

end Sys2Proof.Machine
end

