-- ==== Sys2Proof/Laws/SafetyFrame.lean ====
section
/-! SUPPORT. What leaves the safety logic as it is among the operations that burn fuses, and so every register write (R14). -/

namespace Sys2Proof.Machine

set_option linter.unusedSimpArgs false
set_option linter.unusedTactic false
set_option linter.unreachableTactic false

/-- The safety logic. -/
def Dev.logic (d : Dev) : SafeSt := d.safe

theorem logic_mk (r : List (Nat × Word)) (x0 : SeqSt) (x1 : ClkSt) (x2 : LoopSt) (x3 : ProfSt) (x4 : EstSt) (x5 : AllocSt) (x6 : GroveSt) (x7 : GnssSt) (x8 : AcqSt) (x9 : CanSt) (x10 : NetSt) (x11 : LogSt) (x12 : HostSt) (x13 : SafeSt) (x14 : StandSt) (x15 : ThktSt) (x16 : BlzSt) (x17 : GladeSt) (x18 : RstSt) :
    (Dev.mk r x0 x1 x2 x3 x4 x5 x6 x7 x8 x9 x10 x11 x12 x13 x14 x15 x16 x17 x18).logic = x13 := (rfl)
theorem wr_logic (s : Dev) (a : Nat) (v : Word) : (s.wr a v).logic = s.logic := (rfl)
theorem wrN_logic (s : Dev) (a v : Nat) : (s.wrN a v).logic = s.logic := (rfl)
theorem setFld_logic (s : Dev) (a hi lo v : Nat) : (s.setFld a hi lo v).logic = s.logic := (rfl)
theorem setBit_logic (s : Dev) (a i : Nat) (b : Bool) : (s.setBit a i b).logic = s.logic := (rfl)
theorem wrPbv_logic (s : Dev) (a : Nat) (x : Rat) : (s.wrPbv a x).logic = s.logic := (rfl)
theorem cntSat_logic (s : Dev) (a hi lo k : Nat) : (s.cntSat a hi lo k).logic = s.logic := (rfl)
theorem cntWrap_logic (s : Dev) (a hi lo k : Nat) : (s.cntWrap a hi lo k).logic = s.logic := (rfl)
theorem orMask_logic (s : Dev) (a m : Nat) : (s.orMask a m).logic = s.logic := (rfl)
theorem clrMask_logic (s : Dev) (a m : Nat) : (s.clrMask a m).logic = s.logic := (rfl)
theorem raise_logic (s : Dev) (n : Nat) : (s.raise n).logic = s.logic := (rfl)
theorem evW_logic (s : Dev) (c : Nat) (p q : Word) : (s.evW c p q).logic = s.logic := (rfl)
theorem ev_logic (s : Dev) (c p q : Nat) : (s.ev c p q).logic = s.logic := (rfl)
theorem evI_logic (s : Dev) (c p : Nat) (q : Int) : (s.evI c p q).logic = s.logic := (rfl)
theorem spend_logic (s : Dev) : (s.spend).logic = s.logic := (rfl)
theorem setLctx_logic (s : Dev) (n : Nat) (f : LoopCtx → LoopCtx) : (s.setLctx n f).logic = s.logic := (rfl)
theorem setGen_logic (s : Dev) (n : Nat) (f : GenSt → GenSt) : (s.setGen n f).logic = s.logic := (rfl)
theorem setChain_logic (s : Dev) (n : Nat) (f : ChainSt → ChainSt) : (s.setChain n f).logic = s.logic := (rfl)
theorem setLane_logic (s : Dev) (n : Nat) (f : LaneSt → LaneSt) : (s.setLane n f).logic = s.logic := (rfl)
theorem setCanc_logic (s : Dev) (n : Nat) (f : CanCtl → CanCtl) : (s.setCanc n f).logic = s.logic := (rfl)
theorem store_logic (s : Dev) (a : Nat) (v : Word) : (s.store a v).logic = s.logic := by
  unfold Dev.store; split <;> rfl
theorem each_logic {α : Type} (s : Dev) (xs : List α) (f : Dev → α → Dev) (h : ∀ d x, (f d x).logic = d.logic) :
    (s.each xs f).logic = s.logic := each_keeps Dev.logic f h xs s
theorem ite_logic (c : Prop) [Decidable c] (a b : Dev) :
    (if c then a else b).logic = if c then a.logic else b.logic := apply_ite _ _ _ _

theorem logic_fold (d : Dev) : d.safe = d.logic := (rfl)
theorem logic_of_core {a b : Dev} (h : a.core = b.core) : a.logic = b.logic := congrArg Prod.snd h
theorem sessUse_logic (s : Dev) :
    (s.sessUse).logic = s.logic := logic_of_core (sessUse_core ..)
theorem byGlade_logic (s : Dev) (f : Dev → Dev) (h : (f s).logic = s.logic) : (s.byGlade f).logic = s.logic := by
  unfold Dev.byGlade; split
  · rfl
  · exact h
theorem canWrite_logic (s : Dev) (a : Nat) (v : Word) :
    (s.canWrite a v).logic = s.logic := logic_of_core (canWrite_core ..)
theorem swapCommand_logic (s : Dev) :
    (s.swapCommand).logic = s.logic := logic_of_core (swapCommand_core ..)
theorem showFuses_logic (s : Dev) :
    (s.showFuses).logic = s.logic := logic_of_core (showFuses_core ..)
theorem enrolOwner_logic (s : Dev) (k : Nat) (burnOk : Bool) :
    (s.enrolOwner k burnOk).logic = s.logic := by
  unfold Dev.enrolOwner
  simp only [↓setFld_logic, ↓ev_logic, ↓logic_mk, logic_fold, ↓ite_logic, ite_self, ↓sessUse_logic, ↓showFuses_logic]
theorem revokeOwner_logic (s : Dev) (k : Nat) (burnOk : Bool) :
    (s.revokeOwner k burnOk).logic = s.logic := by
  unfold Dev.revokeOwner
  simp only [↓setFld_logic, ↓ev_logic, ↓logic_mk, logic_fold, ↓ite_logic, ite_self, ↓sessUse_logic, ↓showFuses_logic]
theorem imageDone_logic (s : Dev) (j : ImgJob) (res : Nat) :
    (s.imageDone j res).logic = s.logic := logic_of_core (imageDone_core ..)
theorem burnFuses_logic (s : Dev) :
    (s.burnFuses).logic = s.logic := by
  unfold Dev.burnFuses
  first | (simp only [↓ev_logic, ↓logic_mk, logic_fold, ↓imageDone_logic, ↓showFuses_logic]; done) | ((try simp only [↓ev_logic, ↓logic_mk, logic_fold, ↓imageDone_logic, ↓showFuses_logic]) <;> (repeat' split) <;> (try simp only [↓ev_logic, ↓logic_mk, logic_fold, ↓imageDone_logic, ↓showFuses_logic]))
theorem sessCommand_logic (s : Dev) (v : Word) :
    (s.sessCommand v).logic = s.logic := logic_of_core (sessCommand_core ..)
theorem attRequest_logic (s : Dev) (cert : Bool) :
    (s.attRequest cert).logic = s.logic := logic_of_core (attRequest_core ..)
theorem enrolCommand_logic (s : Dev) (v : Word) :
    (s.enrolCommand v).logic = s.logic := by
  unfold Dev.enrolCommand
  simp only [↓ite_logic, ite_self, ↓enrolOwner_logic, ↓revokeOwner_logic]
theorem modeCommand_logic (s : Dev) (cmd : Nat) :
    (s.modeCommand cmd).logic = s.logic := logic_of_core (modeCommand_core ..)
theorem loadClear_logic (s : Dev) :
    (s.loadClear).logic = s.logic := logic_of_core (loadClear_core ..)
theorem glbWrite_logic (s : Dev) (a : Nat) (v : Word) :
    (s.glbWrite a v).logic = s.logic := by
  unfold Dev.glbWrite
  first | (simp only [↓store_logic, ↓logic_mk, logic_fold, ↓ite_logic, ite_self, ↓attRequest_logic, ↓byGlade_logic, ↓enrolCommand_logic, ↓loadClear_logic, ↓modeCommand_logic, ↓sessCommand_logic]; done) | ((try simp only [↓store_logic, ↓logic_mk, logic_fold, ↓ite_logic, ite_self, ↓attRequest_logic, ↓byGlade_logic, ↓enrolCommand_logic, ↓loadClear_logic, ↓modeCommand_logic, ↓sessCommand_logic]) <;> (repeat' split) <;> (try simp only [↓store_logic, ↓logic_mk, logic_fold, ↓ite_logic, ite_self, ↓attRequest_logic, ↓byGlade_logic, ↓enrolCommand_logic, ↓loadClear_logic, ↓modeCommand_logic, ↓sessCommand_logic]))
theorem loopWrite_logic (s : Dev) (a : Nat) (v : Word) :
    (s.loopWrite a v).logic = s.logic := logic_of_core (loopWrite_core ..)
theorem profWrite_logic (s : Dev) (a : Nat) (v : Word) :
    (s.profWrite a v).logic = s.logic := logic_of_core (profWrite_core ..)
theorem estWrite_logic (s : Dev) (a : Nat) (v : Word) :
    (s.estWrite a v).logic = s.logic := logic_of_core (estWrite_core ..)
theorem allocWrite_logic (s : Dev) (a : Nat) (v : Word) :
    (s.allocWrite a v).logic = s.logic := logic_of_core (allocWrite_core ..)
theorem groveWrite_logic (s : Dev) (a : Nat) (v : Word) :
    (s.groveWrite a v).logic = s.logic := logic_of_core (groveWrite_core ..)
theorem gnssWrite_logic (s : Dev) (a : Nat) (v : Word) :
    (s.gnssWrite a v).logic = s.logic := logic_of_core (gnssWrite_core ..)
theorem acqRegWrite_logic (s : Dev) (a : Nat) (v : Word) :
    (s.acqRegWrite a v).logic = s.logic := logic_of_core (acqRegWrite_core ..)
theorem netRegWrite_logic (s : Dev) (a : Nat) (v : Word) :
    (s.netRegWrite a v).logic = s.logic := logic_of_core (netRegWrite_core ..)
theorem thktWrite_logic (s : Dev) (a : Nat) (v : Word) :
    (s.thktWrite a v).logic = s.logic := logic_of_core (thktWrite_core ..)
theorem logWrite_logic (s : Dev) (a : Nat) (v : Word) :
    (s.logWrite a v).logic = s.logic := logic_of_core (logWrite_core ..)
theorem hostWrite_logic (s : Dev) (a : Nat) (v : Word) :
    (s.hostWrite a v).logic = s.logic := logic_of_core (hostWrite_core ..)
theorem regWrite_logic (s : Dev) (a : Nat) (v : Word) :
    (s.regWrite a v).logic = s.logic := by
  unfold Dev.regWrite
  first | (simp only [↓store_logic, ↓logic_mk, logic_fold, ↓ite_logic, ite_self, ↓acqRegWrite_logic, ↓allocWrite_logic, ↓canWrite_logic, ↓estWrite_logic, ↓glbWrite_logic, ↓gnssWrite_logic, ↓groveWrite_logic, ↓hostWrite_logic, ↓logWrite_logic, ↓loopWrite_logic, ↓netRegWrite_logic, ↓profWrite_logic, ↓swapCommand_logic, ↓thktWrite_logic]; done) | ((try simp only [↓store_logic, ↓logic_mk, logic_fold, ↓ite_logic, ite_self, ↓acqRegWrite_logic, ↓allocWrite_logic, ↓canWrite_logic, ↓estWrite_logic, ↓glbWrite_logic, ↓gnssWrite_logic, ↓groveWrite_logic, ↓hostWrite_logic, ↓logWrite_logic, ↓loopWrite_logic, ↓netRegWrite_logic, ↓profWrite_logic, ↓swapCommand_logic, ↓thktWrite_logic]) <;> (repeat' split) <;> (try simp only [↓store_logic, ↓logic_mk, logic_fold, ↓ite_logic, ite_self, ↓acqRegWrite_logic, ↓allocWrite_logic, ↓canWrite_logic, ↓estWrite_logic, ↓glbWrite_logic, ↓gnssWrite_logic, ↓groveWrite_logic, ↓hostWrite_logic, ↓logWrite_logic, ↓loopWrite_logic, ↓netRegWrite_logic, ↓profWrite_logic, ↓swapCommand_logic, ↓thktWrite_logic]))
theorem hostWriteOp_logic (s : Dev) (a : Nat) (v : Word) :
    (s.hostWriteOp a v).logic = s.logic := by
  unfold Dev.hostWriteOp
  simp only [↓logic_mk, logic_fold, ↓ite_logic, ite_self, ↓regWrite_logic]

end Sys2Proof.Machine
end

