-- ==== Sys2Proof/Laws/SeqFrame.lean ====
section
/-! SUPPORT. What leaves the sequencer alone: every engine, but for the free values that it draws. -/

namespace Sys2Proof.Machine

set_option linter.unusedSimpArgs false
set_option linter.unusedTactic false
set_option linter.unreachableTactic false

/-- The sequencer, but for the count of free values drawn. -/
def Dev.seqKey (d : Dev) : SeqSt := { d.seq with freeCtr := 0 }

theorem seqKey_mk (r : List (Nat × Word)) (x0 : SeqSt) (x1 : ClkSt) (x2 : LoopSt) (x3 : ProfSt) (x4 : EstSt) (x5 : AllocSt) (x6 : GroveSt) (x7 : GnssSt) (x8 : AcqSt) (x9 : CanSt) (x10 : NetSt) (x11 : LogSt) (x12 : HostSt) (x13 : SafeSt) (x14 : StandSt) (x15 : ThktSt) (x16 : BlzSt) (x17 : GladeSt) (x18 : RstSt) :
    (Dev.mk r x0 x1 x2 x3 x4 x5 x6 x7 x8 x9 x10 x11 x12 x13 x14 x15 x16 x17 x18).seqKey = { x0 with freeCtr := 0 } := (rfl)
theorem wr_seqKey (s : Dev) (a : Nat) (v : Word) : (s.wr a v).seqKey = s.seqKey := (rfl)
theorem wrN_seqKey (s : Dev) (a v : Nat) : (s.wrN a v).seqKey = s.seqKey := (rfl)
theorem setFld_seqKey (s : Dev) (a hi lo v : Nat) : (s.setFld a hi lo v).seqKey = s.seqKey := (rfl)
theorem setBit_seqKey (s : Dev) (a i : Nat) (b : Bool) : (s.setBit a i b).seqKey = s.seqKey := (rfl)
theorem wrPbv_seqKey (s : Dev) (a : Nat) (x : Rat) : (s.wrPbv a x).seqKey = s.seqKey := (rfl)
theorem cntSat_seqKey (s : Dev) (a hi lo k : Nat) : (s.cntSat a hi lo k).seqKey = s.seqKey := (rfl)
theorem cntWrap_seqKey (s : Dev) (a hi lo k : Nat) : (s.cntWrap a hi lo k).seqKey = s.seqKey := (rfl)
theorem orMask_seqKey (s : Dev) (a m : Nat) : (s.orMask a m).seqKey = s.seqKey := (rfl)
theorem clrMask_seqKey (s : Dev) (a m : Nat) : (s.clrMask a m).seqKey = s.seqKey := (rfl)
theorem raise_seqKey (s : Dev) (n : Nat) : (s.raise n).seqKey = s.seqKey := (rfl)
theorem evW_seqKey (s : Dev) (c : Nat) (p q : Word) : (s.evW c p q).seqKey = s.seqKey := (rfl)
theorem ev_seqKey (s : Dev) (c p q : Nat) : (s.ev c p q).seqKey = s.seqKey := (rfl)
theorem evI_seqKey (s : Dev) (c p : Nat) (q : Int) : (s.evI c p q).seqKey = s.seqKey := (rfl)
theorem spend_seqKey (s : Dev) : (s.spend).seqKey = s.seqKey := (rfl)
theorem setLctx_seqKey (s : Dev) (n : Nat) (f : LoopCtx → LoopCtx) : (s.setLctx n f).seqKey = s.seqKey := (rfl)
theorem setGen_seqKey (s : Dev) (n : Nat) (f : GenSt → GenSt) : (s.setGen n f).seqKey = s.seqKey := (rfl)
theorem setChain_seqKey (s : Dev) (n : Nat) (f : ChainSt → ChainSt) : (s.setChain n f).seqKey = s.seqKey := (rfl)
theorem setLane_seqKey (s : Dev) (n : Nat) (f : LaneSt → LaneSt) : (s.setLane n f).seqKey = s.seqKey := (rfl)
theorem setCanc_seqKey (s : Dev) (n : Nat) (f : CanCtl → CanCtl) : (s.setCanc n f).seqKey = s.seqKey := (rfl)
theorem store_seqKey (s : Dev) (a : Nat) (v : Word) : (s.store a v).seqKey = s.seqKey := by
  unfold Dev.store; split <;> rfl
theorem each_seqKey {α : Type} (s : Dev) (xs : List α) (f : Dev → α → Dev) (h : ∀ d x, (f d x).seqKey = d.seqKey) :
    (s.each xs f).seqKey = s.seqKey := each_keeps Dev.seqKey f h xs s
theorem ite_seqKey (c : Prop) [Decidable c] (a b : Dev) :
    (if c then a else b).seqKey = if c then a.seqKey else b.seqKey := apply_ite _ _ _ _

theorem seqKey_fold (d : Dev) : ({ d.seq with freeCtr := 0 } : SeqSt) = d.seqKey := (rfl)
theorem wrExact_seqKey (s : Dev) (a : Nat) (x : Rat) :
    (s.wrExact a x).seqKey = s.seqKey := by
  unfold Dev.wrExact
  simp only [↓wr_seqKey]
theorem setPair_seqKey (s : Dev) (p : Nat) (f : PairSt → PairSt) :
    (s.setPair p f).seqKey = s.seqKey := by
  unfold Dev.setPair
  simp only [↓seqKey_mk, seqKey_fold]
theorem writeback_seqKey (s : Dev) (p : Nat) :
    (s.writeback p).seqKey = s.seqKey := by
  unfold Dev.writeback
  simp only [↓spend_seqKey, ↓seqKey_mk, seqKey_fold, ↓setPair_seqKey]
theorem report_seqKey (s : Dev) (p cls content : Nat) (body : List Byte) :
    (s.report p cls content body).seqKey = s.seqKey := by
  unfold Dev.report
  simp only [↓setFld_seqKey, ↓cntWrap_seqKey, ↓raise_seqKey, ↓evW_seqKey, ↓spend_seqKey, ↓seqKey_mk, seqKey_fold, ↓ite_seqKey, ite_self, ↓setPair_seqKey, ↓writeback_seqKey]
theorem reportRouted_seqKey (s : Dev) (cls content : Nat) (body : List Byte) :
    (s.reportRouted cls content body).seqKey = s.seqKey := by
  unfold Dev.reportRouted
  first | (simp only [↓seqKey_mk, seqKey_fold, ↓report_seqKey]; done) | ((try simp only [↓seqKey_mk, seqKey_fold, ↓report_seqKey]) <;> (repeat' split) <;> (try simp only [↓seqKey_mk, seqKey_fold, ↓report_seqKey]))
theorem endCount_seqKey (s : Dev) (p k : Nat) :
    (s.endCount p k).seqKey = s.seqKey := by
  unfold Dev.endCount
  simp only [↓setFld_seqKey, ↓cntWrap_seqKey, ↓ite_seqKey, ite_self]
theorem endDesc_seqKey (s : Dev) (p status : Nat) :
    (s.endDesc p status).seqKey = s.seqKey := by
  unfold Dev.endDesc
  simp only [↓ev_seqKey, ↓ite_seqKey, ite_self, ↓endCount_seqKey]
theorem setCtxState_seqKey (s : Dev) (c st : Nat) :
    (s.setCtxState c st).seqKey = s.seqKey := by
  unfold Dev.setCtxState
  simp only [↓setFld_seqKey]
theorem setMiss_seqKey (s : Dev) (c n : Nat) :
    (s.setMiss c n).seqKey = s.seqKey := by
  unfold Dev.setMiss
  simp only [↓setFld_seqKey, ↓setLctx_seqKey, ↓seqKey_mk, seqKey_fold]
theorem toClearing_seqKey (s : Dev) (c : Nat) :
    (s.toClearing c).seqKey = s.seqKey := by
  unfold Dev.toClearing
  simp only [↓wr_seqKey, ↓setFld_seqKey, ↓setCtxState_seqKey]
theorem toRun_seqKey (s : Dev) (c : Nat) :
    (s.toRun c).seqKey = s.seqKey := by
  unfold Dev.toRun
  simp only [↓wr_seqKey, ↓setBit_seqKey, ↓setLctx_seqKey, ↓setGen_seqKey, ↓seqKey_mk, seqKey_fold, ↓setCtxState_seqKey]
theorem markFault_seqKey (s : Dev) (c cause : Nat) :
    (s.markFault c cause).seqKey = s.seqKey := by
  unfold Dev.markFault
  simp only [↓orMask_seqKey, ↓raise_seqKey]
theorem rampStep_seqKey (s : Dev) (c : Nat) :
    (s.rampStep c).seqKey = s.seqKey := by
  unfold Dev.rampStep
  simp only [↓wrPbv_seqKey, ↓ite_seqKey, ite_self, ↓toClearing_seqKey]
theorem faultAction_seqKey (s : Dev) (c top : Nat) :
    (s.faultAction c top).seqKey = s.seqKey := by
  unfold Dev.faultAction
  simp only [↓setFld_seqKey, ↓ite_seqKey, ite_self, ↓rampStep_seqKey, ↓setCtxState_seqKey, ↓toClearing_seqKey]
theorem takeFaults_seqKey (s : Dev) (c : Nat) (causes : List (Nat × Nat × Nat)) :
    (s.takeFaults c causes).seqKey = s.seqKey := by
  unfold Dev.takeFaults
  first | (simp (disch := (intros; (try simp only [↓ev_seqKey, ↓seqKey_mk, seqKey_fold, ↓faultAction_seqKey, ↓markFault_seqKey]) <;> (repeat' split) <;> (try simp only [↓ev_seqKey, ↓seqKey_mk, seqKey_fold, ↓faultAction_seqKey, ↓markFault_seqKey]))) only [↓ev_seqKey, ↓seqKey_mk, seqKey_fold, ↓faultAction_seqKey, ↓markFault_seqKey, each_seqKey]; done) | ((try simp (disch := (intros; (try simp only [↓ev_seqKey, ↓seqKey_mk, seqKey_fold, ↓faultAction_seqKey, ↓markFault_seqKey]) <;> (repeat' split) <;> (try simp only [↓ev_seqKey, ↓seqKey_mk, seqKey_fold, ↓faultAction_seqKey, ↓markFault_seqKey]))) only [↓ev_seqKey, ↓seqKey_mk, seqKey_fold, ↓faultAction_seqKey, ↓markFault_seqKey, each_seqKey]) <;> (repeat' split) <;> (try simp (disch := (intros; (try simp only [↓ev_seqKey, ↓seqKey_mk, seqKey_fold, ↓faultAction_seqKey, ↓markFault_seqKey]) <;> (repeat' split) <;> (try simp only [↓ev_seqKey, ↓seqKey_mk, seqKey_fold, ↓faultAction_seqKey, ↓markFault_seqKey]))) only [↓ev_seqKey, ↓seqKey_mk, seqKey_fold, ↓faultAction_seqKey, ↓markFault_seqKey, each_seqKey]))
theorem engFault_seqKey (s : Dev) :
    (s.engFault).seqKey = s.seqKey := by
  unfold Dev.engFault
  simp (disch := (intros; (try simp only [↓setFld_seqKey, ↓setBit_seqKey, ↓ev_seqKey, ↓ite_seqKey, ite_self, ↓markFault_seqKey, ↓toClearing_seqKey]) <;> (try (split <;> simp only [↓setFld_seqKey, ↓setBit_seqKey, ↓ev_seqKey, ↓ite_seqKey, ite_self, ↓markFault_seqKey, ↓toClearing_seqKey])))) only [↓setFld_seqKey, ↓setBit_seqKey, ↓ev_seqKey, ↓ite_seqKey, ite_self, ↓markFault_seqKey, ↓toClearing_seqKey, each_seqKey]
theorem countMismatch_seqKey (s : Dev) (c stage : Nat) :
    (s.countMismatch c stage).seqKey = s.seqKey := by
  unfold Dev.countMismatch
  simp only [↓setBit_seqKey, ↓cntSat_seqKey, ↓ev_seqKey, ↓setLctx_seqKey, ↓seqKey_mk, seqKey_fold]
theorem checkEngFault_seqKey (s : Dev) :
    (s.checkEngFault).seqKey = s.seqKey := by
  unfold Dev.checkEngFault
  simp only [↓ite_seqKey, ite_self, ↓engFault_seqKey]
theorem evalDone_seqKey (s : Dev) (c : Nat) (sp : Rat) (o : EvalOut) :
    (s.evalDone c sp o).seqKey = s.seqKey := by
  unfold Dev.evalDone
  simp only [↓setBit_seqKey, ↓wrPbv_seqKey, ↓setLctx_seqKey, ↓seqKey_mk, seqKey_fold, ↓setMiss_seqKey, ↓wrExact_seqKey]
theorem evaluateRun_seqKey (s : Dev) (snap : OutSnap) (i : TickIn) (c : Nat) :
    (s.evaluateRun snap i c).seqKey = s.seqKey := by
  unfold Dev.evaluateRun
  first | (simp only [↓setLctx_seqKey, ↓seqKey_mk, seqKey_fold, ↓ite_seqKey, ite_self, ↓checkEngFault_seqKey, ↓countMismatch_seqKey, ↓evalDone_seqKey, ↓takeFaults_seqKey]; done) | ((try simp only [↓setLctx_seqKey, ↓seqKey_mk, seqKey_fold, ↓ite_seqKey, ite_self, ↓checkEngFault_seqKey, ↓countMismatch_seqKey, ↓evalDone_seqKey, ↓takeFaults_seqKey]) <;> (repeat' split) <;> (try simp only [↓setLctx_seqKey, ↓seqKey_mk, seqKey_fold, ↓ite_seqKey, ite_self, ↓checkEngFault_seqKey, ↓countMismatch_seqKey, ↓evalDone_seqKey, ↓takeFaults_seqKey]))
theorem heldDone_seqKey (s : Dev) (c : Nat) :
    (s.heldDone c).seqKey = s.seqKey := by
  unfold Dev.heldDone
  simp only [↓setBit_seqKey, ↓setLctx_seqKey, ↓seqKey_mk, seqKey_fold, ↓setMiss_seqKey]
theorem evaluateHeld_seqKey (s : Dev) (i : TickIn) (c : Nat) :
    (s.evaluateHeld i c).seqKey = s.seqKey := by
  unfold Dev.evaluateHeld
  first | (simp only [↓setFld_seqKey, ↓seqKey_mk, seqKey_fold, ↓ite_seqKey, ite_self, ↓checkEngFault_seqKey, ↓countMismatch_seqKey, ↓heldDone_seqKey, ↓rampStep_seqKey, ↓takeFaults_seqKey, ↓toClearing_seqKey]; done) | ((try simp only [↓setFld_seqKey, ↓seqKey_mk, seqKey_fold, ↓ite_seqKey, ite_self, ↓checkEngFault_seqKey, ↓countMismatch_seqKey, ↓heldDone_seqKey, ↓rampStep_seqKey, ↓takeFaults_seqKey, ↓toClearing_seqKey]) <;> (repeat' split) <;> (try simp only [↓setFld_seqKey, ↓seqKey_mk, seqKey_fold, ↓ite_seqKey, ite_self, ↓checkEngFault_seqKey, ↓countMismatch_seqKey, ↓heldDone_seqKey, ↓rampStep_seqKey, ↓takeFaults_seqKey, ↓toClearing_seqKey]))
theorem cmdResult_seqKey (s : Dev) (c op r : Nat) :
    (s.cmdResult c op r).seqKey = s.seqKey := by
  unfold Dev.cmdResult
  simp only [↓setFld_seqKey, ↓setBit_seqKey, ↓ev_seqKey, ↓seqKey_mk, seqKey_fold, ↓ite_seqKey, ite_self]
theorem settleCmd_seqKey (s : Dev) (snap : OutSnap) (n : Nat) :
    (s.settleCmd snap n).seqKey = s.seqKey := by
  unfold Dev.settleCmd
  first | (simp only [↓ev_seqKey, ↓seqKey_mk, seqKey_fold, ↓ite_seqKey, ite_self, ↓cmdResult_seqKey, ↓toRun_seqKey]; done) | ((try simp only [↓ev_seqKey, ↓seqKey_mk, seqKey_fold, ↓ite_seqKey, ite_self, ↓cmdResult_seqKey, ↓toRun_seqKey]) <;> (repeat' split) <;> (try simp only [↓ev_seqKey, ↓seqKey_mk, seqKey_fold, ↓ite_seqKey, ite_self, ↓cmdResult_seqKey, ↓toRun_seqKey]))
theorem evaluate_seqKey (s : Dev) (snap : OutSnap) (i : TickIn) (c : Nat) :
    (s.evaluate snap i c).seqKey = s.seqKey := by
  unfold Dev.evaluate
  first | (simp only [↓setLctx_seqKey, ↓seqKey_mk, seqKey_fold, ↓ite_seqKey, ite_self, ↓cmdResult_seqKey, ↓evaluateHeld_seqKey, ↓evaluateRun_seqKey, ↓takeFaults_seqKey]; done) | ((try simp only [↓setLctx_seqKey, ↓seqKey_mk, seqKey_fold, ↓ite_seqKey, ite_self, ↓cmdResult_seqKey, ↓evaluateHeld_seqKey, ↓evaluateRun_seqKey, ↓takeFaults_seqKey]) <;> (repeat' split) <;> (try simp only [↓setLctx_seqKey, ↓seqKey_mk, seqKey_fold, ↓ite_seqKey, ite_self, ↓cmdResult_seqKey, ↓evaluateHeld_seqKey, ↓evaluateRun_seqKey, ↓takeFaults_seqKey]))
theorem miss_seqKey (s : Dev) (c : Nat) :
    (s.miss c).seqKey = s.seqKey := by
  unfold Dev.miss
  simp only [↓setLctx_seqKey, ↓seqKey_mk, seqKey_fold, ↓ite_seqKey, ite_self, ↓setMiss_seqKey, ↓takeFaults_seqKey]
theorem showValid_seqKey (s : Dev) (snap : OutSnap) (c : Nat) :
    (s.showValid snap c).seqKey = s.seqKey := by
  unfold Dev.showValid
  simp only [↓setBit_seqKey, ↓ite_seqKey, ite_self]
theorem loopEcc_seqKey (s : Dev) (i : TickIn) :
    (s.loopEcc i).seqKey = s.seqKey := by
  unfold Dev.loopEcc
  simp (disch := (intros; (try simp only [↓cntSat_seqKey, ↓ev_seqKey]) <;> (try (split <;> simp only [↓cntSat_seqKey, ↓ev_seqKey])))) only [↓cntSat_seqKey, ↓ev_seqKey, each_seqKey]
theorem loopP2_seqKey (s : Dev) (i : TickIn) (n : Nat) :
    (s.loopP2 i n).seqKey = s.seqKey := by
  unfold Dev.loopP2
  simp (disch := (intros; simp (disch := (intros; (try simp only [↓ite_seqKey, ite_self, ↓evaluate_seqKey, ↓loopEcc_seqKey, ↓miss_seqKey, ↓settleCmd_seqKey, ↓showValid_seqKey]) <;> (try (split <;> simp only [↓ite_seqKey, ite_self, ↓evaluate_seqKey, ↓loopEcc_seqKey, ↓miss_seqKey, ↓settleCmd_seqKey, ↓showValid_seqKey])))) only [↓ite_seqKey, ite_self, ↓evaluate_seqKey, ↓loopEcc_seqKey, ↓miss_seqKey, ↓settleCmd_seqKey, ↓showValid_seqKey, each_seqKey])) only [↓ite_seqKey, ite_self, ↓evaluate_seqKey, ↓loopEcc_seqKey, ↓miss_seqKey, ↓settleCmd_seqKey, ↓showValid_seqKey, each_seqKey]
theorem loopLeave_seqKey (s : Dev) :
    (s.loopLeave).seqKey = s.seqKey := by
  unfold Dev.loopLeave
  simp (disch := (intros; (try simp only [↓setFld_seqKey, ↓ite_seqKey, ite_self, ↓markFault_seqKey, ↓toClearing_seqKey]) <;> (try (split <;> simp only [↓setFld_seqKey, ↓ite_seqKey, ite_self, ↓markFault_seqKey, ↓toClearing_seqKey])))) only [↓setFld_seqKey, ↓ite_seqKey, ite_self, ↓markFault_seqKey, ↓toClearing_seqKey, each_seqKey]
theorem loopEnter_seqKey (s : Dev) :
    (s.loopEnter).seqKey = s.seqKey := by
  unfold Dev.loopEnter
  simp (disch := (intros; (try simp only [↓ite_seqKey, ite_self, ↓toRun_seqKey]) <;> (try (split <;> simp only [↓ite_seqKey, ite_self, ↓toRun_seqKey])))) only [↓ite_seqKey, ite_self, ↓toRun_seqKey, each_seqKey]
theorem setGState_seqKey (s : Dev) (g st : Nat) :
    (s.setGState g st).seqKey = s.seqKey := by
  unfold Dev.setGState
  simp only [↓setFld_seqKey]
theorem profEv_seqKey (s : Dev) (g k : Nat) (p2 : Word) :
    (s.profEv g k p2).seqKey = s.seqKey := by
  unfold Dev.profEv
  simp only [↓orMask_seqKey, ↓evW_seqKey]
theorem showGen_seqKey (s : Dev) (g : Nat) :
    (s.showGen g).seqKey = s.seqKey := by
  unfold Dev.showGen
  simp only [↓wrPbv_seqKey, ↓ite_seqKey, ite_self]
theorem setTarget_seqKey (s : Dev) (g : Nat) (raw : Int) :
    (s.setTarget g raw).seqKey = s.seqKey := by
  unfold Dev.setTarget
  simp only [↓setBit_seqKey, ↓setGen_seqKey, ↓seqKey_mk, seqKey_fold, ↓ite_seqKey, ite_self, ↓profEv_seqKey]
theorem takeSample_seqKey (s : Dev) (g : Nat) (v : Int) (age : Nat) :
    (s.takeSample g v age).1.seqKey = s.seqKey := by
  unfold Dev.takeSample
  first | (simp only [↓setBit_seqKey, ↓setGen_seqKey, ↓seqKey_mk, seqKey_fold, ↓ite_seqKey, ite_self, ↓profEv_seqKey]; done) | ((try simp only [↓setBit_seqKey, ↓setGen_seqKey, ↓seqKey_mk, seqKey_fold, ↓ite_seqKey, ite_self, ↓profEv_seqKey]) <;> (repeat' split) <;> (try simp only [↓setBit_seqKey, ↓setGen_seqKey, ↓seqKey_mk, seqKey_fold, ↓ite_seqKey, ite_self, ↓profEv_seqKey]))
theorem sampleStep_seqKey (s : Dev) (g : Nat) :
    (s.sampleStep g).1.seqKey = s.seqKey := by
  unfold Dev.sampleStep
  first | (simp only [↓seqKey_mk, seqKey_fold, ↓ite_seqKey, ite_self, ↓takeSample_seqKey]; done) | ((try simp only [↓seqKey_mk, seqKey_fold, ↓ite_seqKey, ite_self, ↓takeSample_seqKey]) <;> (repeat' split) <;> (try simp only [↓seqKey_mk, seqKey_fold, ↓ite_seqKey, ite_self, ↓takeSample_seqKey]))
theorem trackStep_seqKey (s : Dev) (g : Nat) :
    (s.trackStep g).seqKey = s.seqKey := by
  unfold Dev.trackStep
  first | (simp only [↓setBit_seqKey, ↓clrMask_seqKey, ↓setGen_seqKey, ↓seqKey_mk, seqKey_fold, ↓setGState_seqKey]; done) | ((try simp only [↓setBit_seqKey, ↓clrMask_seqKey, ↓setGen_seqKey, ↓seqKey_mk, seqKey_fold, ↓setGState_seqKey]) <;> (repeat' split) <;> (try simp only [↓setBit_seqKey, ↓clrMask_seqKey, ↓setGen_seqKey, ↓seqKey_mk, seqKey_fold, ↓setGState_seqKey]))
theorem analogueSource_seqKey (s : Dev) (g : Nat) :
    (s.analogueSource g).seqKey = s.seqKey := by
  unfold Dev.analogueSource
  first | (simp only [↓setBit_seqKey, ↓ite_seqKey, ite_self, ↓profEv_seqKey, ↓sampleStep_seqKey, ↓setGState_seqKey, ↓setTarget_seqKey]; done) | ((try simp only [↓setBit_seqKey, ↓ite_seqKey, ite_self, ↓profEv_seqKey, ↓sampleStep_seqKey, ↓setGState_seqKey, ↓setTarget_seqKey]) <;> (repeat' split) <;> (try simp only [↓setBit_seqKey, ↓ite_seqKey, ite_self, ↓profEv_seqKey, ↓sampleStep_seqKey, ↓setGState_seqKey, ↓setTarget_seqKey]))
theorem leverSource_seqKey (s : Dev) (g : Nat) :
    (s.leverSource g).seqKey = s.seqKey := by
  unfold Dev.leverSource
  first | (simp only [↓setBit_seqKey, ↓ite_seqKey, ite_self, ↓profEv_seqKey, ↓sampleStep_seqKey, ↓setGState_seqKey, ↓setTarget_seqKey]; done) | ((try simp only [↓setBit_seqKey, ↓ite_seqKey, ite_self, ↓profEv_seqKey, ↓sampleStep_seqKey, ↓setGState_seqKey, ↓setTarget_seqKey]) <;> (repeat' split) <;> (try simp only [↓setBit_seqKey, ↓ite_seqKey, ite_self, ↓profEv_seqKey, ↓sampleStep_seqKey, ↓setGState_seqKey, ↓setTarget_seqKey]))
theorem moveStep_seqKey (s : Dev) (g : Nat) (vd vmax amax jmax : Int) :
    (s.moveStep g vd vmax amax jmax).seqKey = s.seqKey := by
  unfold Dev.moveStep
  first | (simp only [↓setBit_seqKey, ↓setGen_seqKey, ↓seqKey_mk, seqKey_fold, ↓ite_seqKey, ite_self, ↓profEv_seqKey]; done) | ((try simp only [↓setBit_seqKey, ↓setGen_seqKey, ↓seqKey_mk, seqKey_fold, ↓ite_seqKey, ite_self, ↓profEv_seqKey]) <;> (repeat' split) <;> (try simp only [↓setBit_seqKey, ↓setGen_seqKey, ↓seqKey_mk, seqKey_fold, ↓ite_seqKey, ite_self, ↓profEv_seqKey]))
theorem runStep_seqKey (s : Dev) (g : Nat) :
    (s.runStep g).seqKey = s.seqKey := by
  unfold Dev.runStep
  simp only [↓setBit_seqKey, ↓setGen_seqKey, ↓seqKey_mk, seqKey_fold, ↓ite_seqKey, ite_self, ↓moveStep_seqKey, ↓setGState_seqKey]
theorem takeLims_seqKey (s : Dev) (g : Nat) :
    (s.takeLims g).seqKey = s.seqKey := by
  unfold Dev.takeLims
  simp only [↓setBit_seqKey, ↓setGen_seqKey, ↓seqKey_mk, seqKey_fold, ↓ite_seqKey, ite_self]
theorem genEntry_seqKey (s : Dev) (g : Nat) :
    (s.genEntry g).seqKey = s.seqKey := by
  unfold Dev.genEntry
  simp only [↓setGen_seqKey, ↓seqKey_mk, seqKey_fold, ↓ite_seqKey, ite_self, ↓setGState_seqKey]
theorem genSource_seqKey (s : Dev) (g : Nat) :
    (s.genSource g).seqKey = s.seqKey := by
  unfold Dev.genSource
  first | (simp only [↓setBit_seqKey, ↓setGen_seqKey, ↓seqKey_mk, seqKey_fold, ↓ite_seqKey, ite_self, ↓analogueSource_seqKey, ↓leverSource_seqKey, ↓sampleStep_seqKey, ↓setTarget_seqKey]; done) | ((try simp only [↓setBit_seqKey, ↓setGen_seqKey, ↓seqKey_mk, seqKey_fold, ↓ite_seqKey, ite_self, ↓analogueSource_seqKey, ↓leverSource_seqKey, ↓sampleStep_seqKey, ↓setTarget_seqKey]) <;> (repeat' split) <;> (try simp only [↓setBit_seqKey, ↓setGen_seqKey, ↓seqKey_mk, seqKey_fold, ↓ite_seqKey, ite_self, ↓analogueSource_seqKey, ↓leverSource_seqKey, ↓sampleStep_seqKey, ↓setTarget_seqKey]))
theorem genStep_seqKey (s : Dev) (i : TickIn) (g : Nat) :
    (s.genStep i g).seqKey = s.seqKey := by
  unfold Dev.genStep
  first | (simp only [↓setBit_seqKey, ↓cntSat_seqKey, ↓setGen_seqKey, ↓seqKey_mk, seqKey_fold, ↓ite_seqKey, ite_self, ↓genEntry_seqKey, ↓genSource_seqKey, ↓profEv_seqKey, ↓runStep_seqKey, ↓setGState_seqKey, ↓showGen_seqKey, ↓takeLims_seqKey, ↓trackStep_seqKey]; done) | ((try simp only [↓setBit_seqKey, ↓cntSat_seqKey, ↓setGen_seqKey, ↓seqKey_mk, seqKey_fold, ↓ite_seqKey, ite_self, ↓genEntry_seqKey, ↓genSource_seqKey, ↓profEv_seqKey, ↓runStep_seqKey, ↓setGState_seqKey, ↓showGen_seqKey, ↓takeLims_seqKey, ↓trackStep_seqKey]) <;> (repeat' split) <;> (try simp only [↓setBit_seqKey, ↓cntSat_seqKey, ↓setGen_seqKey, ↓seqKey_mk, seqKey_fold, ↓ite_seqKey, ite_self, ↓genEntry_seqKey, ↓genSource_seqKey, ↓profEv_seqKey, ↓runStep_seqKey, ↓setGState_seqKey, ↓showGen_seqKey, ↓takeLims_seqKey, ↓trackStep_seqKey]))
theorem loadShared_seqKey (s : Dev) (g : Nat) :
    (s.loadShared g).seqKey = s.seqKey := by
  unfold Dev.loadShared
  first | (simp only [↓setBit_seqKey, ↓setGen_seqKey, ↓seqKey_mk, seqKey_fold, ↓setGState_seqKey, ↓showGen_seqKey]; done) | ((try simp only [↓setBit_seqKey, ↓setGen_seqKey, ↓seqKey_mk, seqKey_fold, ↓setGState_seqKey, ↓showGen_seqKey]) <;> (repeat' split) <;> (try simp only [↓setBit_seqKey, ↓setGen_seqKey, ↓seqKey_mk, seqKey_fold, ↓setGState_seqKey, ↓showGen_seqKey]))
theorem profP1_seqKey (s : Dev) (i : TickIn) (n : Nat) :
    (s.profP1 i n).seqKey = s.seqKey := by
  unfold Dev.profP1
  simp (disch := (intros; simp (disch := (intros; (try simp only [↓ite_seqKey, ite_self, ↓genStep_seqKey, ↓loadShared_seqKey]) <;> (try (split <;> simp only [↓ite_seqKey, ite_self, ↓genStep_seqKey, ↓loadShared_seqKey])))) only [↓ite_seqKey, ite_self, ↓genStep_seqKey, ↓loadShared_seqKey, each_seqKey])) only [↓ite_seqKey, ite_self, ↓genStep_seqKey, ↓loadShared_seqKey, each_seqKey]
theorem profP0_seqKey (s : Dev) :
    (s.profP0).seqKey = s.seqKey := by
  unfold Dev.profP0
  first | (simp (disch := (intros; (try simp only [↓wr_seqKey, ↓setGen_seqKey, ↓seqKey_mk, seqKey_fold, ↓ite_seqKey, ite_self]) <;> (repeat' split) <;> (try simp only [↓wr_seqKey, ↓setGen_seqKey, ↓seqKey_mk, seqKey_fold, ↓ite_seqKey, ite_self]))) only [↓wr_seqKey, ↓setGen_seqKey, ↓seqKey_mk, seqKey_fold, ↓ite_seqKey, ite_self, each_seqKey]; done) | ((try simp (disch := (intros; (try simp only [↓wr_seqKey, ↓setGen_seqKey, ↓seqKey_mk, seqKey_fold, ↓ite_seqKey, ite_self]) <;> (repeat' split) <;> (try simp only [↓wr_seqKey, ↓setGen_seqKey, ↓seqKey_mk, seqKey_fold, ↓ite_seqKey, ite_self]))) only [↓wr_seqKey, ↓setGen_seqKey, ↓seqKey_mk, seqKey_fold, ↓ite_seqKey, ite_self, each_seqKey]) <;> (repeat' split) <;> (try simp (disch := (intros; (try simp only [↓wr_seqKey, ↓setGen_seqKey, ↓seqKey_mk, seqKey_fold, ↓ite_seqKey, ite_self]) <;> (repeat' split) <;> (try simp only [↓wr_seqKey, ↓setGen_seqKey, ↓seqKey_mk, seqKey_fold, ↓ite_seqKey, ite_self]))) only [↓wr_seqKey, ↓setGen_seqKey, ↓seqKey_mk, seqKey_fold, ↓ite_seqKey, ite_self, each_seqKey]))
theorem axesEnter_seqKey (s : Dev) :
    (s.axesEnter).seqKey = s.seqKey := by
  unfold Dev.axesEnter
  simp (disch := (intros; (try simp only [↓setGen_seqKey, ↓seqKey_mk, seqKey_fold]) <;> (try (split <;> simp only [↓setGen_seqKey, ↓seqKey_mk, seqKey_fold])))) only [↓setGen_seqKey, ↓seqKey_mk, seqKey_fold, each_seqKey]
theorem laneCorr_seqKey (s : Dev) (l : Nat) (corr : List Nat) :
    (s.laneCorr l corr).seqKey = s.seqKey := by
  unfold Dev.laneCorr
  simp (disch := (intros; (try simp only [↓cntSat_seqKey, ↓ev_seqKey]) <;> (try (split <;> simp only [↓cntSat_seqKey, ↓ev_seqKey])))) only [↓cntSat_seqKey, ↓ev_seqKey, each_seqKey]
theorem recount_seqKey (s : Dev) :
    (s.recount).seqKey = s.seqKey := by
  unfold Dev.recount
  simp only [↓setFld_seqKey]
theorem slotOut_seqKey (s : Dev) (l : Nat) :
    (s.slotOut l).seqKey = s.seqKey := by
  unfold Dev.slotOut
  first | (simp only [↓setBit_seqKey, ↓seqKey_mk, seqKey_fold]; done) | ((try simp only [↓setBit_seqKey, ↓seqKey_mk, seqKey_fold]) <;> (repeat' split) <;> (try simp only [↓setBit_seqKey, ↓seqKey_mk, seqKey_fold]))
theorem laneLoad_seqKey (s : Dev) (l method : Nat) (accum : Bool) (n m : Nat) :
    (s.laneLoad l method accum n m).seqKey = s.seqKey := by
  unfold Dev.laneLoad
  simp only [↓wrN_seqKey, ↓setFld_seqKey, ↓setBit_seqKey, ↓setLane_seqKey, ↓seqKey_mk, seqKey_fold]
theorem groveRefuse_seqKey (s : Dev) :
    (s.groveRefuse).seqKey = s.seqKey := by
  unfold Dev.groveRefuse
  simp only [↓cntSat_seqKey]
theorem groveLoadOp_seqKey (s : Dev) (l method : Nat) (accum : Bool) (n m : Nat) :
    (s.groveLoadOp l method accum n m).1.seqKey = s.seqKey := by
  unfold Dev.groveLoadOp
  first | (simp only [↓ite_seqKey, ite_self, ↓groveRefuse_seqKey, ↓laneLoad_seqKey]; done) | ((try simp only [↓ite_seqKey, ite_self, ↓groveRefuse_seqKey, ↓laneLoad_seqKey]) <;> (repeat' split) <;> (try simp only [↓ite_seqKey, ite_self, ↓groveRefuse_seqKey, ↓laneLoad_seqKey]))
theorem retire_seqKey (s : Dev) (l why : Nat) :
    (s.retire l why).seqKey = s.seqKey := by
  unfold Dev.retire
  simp only [↓setFld_seqKey, ↓setBit_seqKey, ↓raise_seqKey, ↓ev_seqKey, ↓setLane_seqKey, ↓seqKey_mk, seqKey_fold, ↓recount_seqKey]
theorem countInvalid_seqKey (s : Dev) (l code : Nat) :
    (s.countInvalid l code).seqKey = s.seqKey := by
  unfold Dev.countInvalid
  simp only [↓cntSat_seqKey, ↓ev_seqKey, ↓ite_seqKey, ite_self]
theorem hostRecord_seqKey (s : Dev) (l code iter cycles : Nat) (out : Option SolveOut) :
    (s.hostRecord l code iter cycles out).seqKey = s.seqKey := by
  unfold Dev.hostRecord
  first | (simp only [↓spend_seqKey, ↓setLane_seqKey, ↓seqKey_mk, seqKey_fold, ↓endDesc_seqKey]; done) | ((try simp only [↓spend_seqKey, ↓setLane_seqKey, ↓seqKey_mk, seqKey_fold, ↓endDesc_seqKey]) <;> (repeat' split) <;> (try simp only [↓spend_seqKey, ↓setLane_seqKey, ↓seqKey_mk, seqKey_fold, ↓endDesc_seqKey]))
theorem laneStop_seqKey (s : Dev) (l code iter cycles : Nat) (out : Option SolveOut) :
    (s.laneStop l code iter cycles out).seqKey = s.seqKey := by
  unfold Dev.laneStop
  simp only [↓wrN_seqKey, ↓setFld_seqKey, ↓setBit_seqKey, ↓cntSat_seqKey, ↓ev_seqKey, ↓setLane_seqKey, ↓seqKey_mk, seqKey_fold, ↓ite_seqKey, ite_self, ↓countInvalid_seqKey, ↓hostRecord_seqKey, ↓retire_seqKey]
theorem laneBreak_seqKey (s : Dev) (l code : Nat) :
    (s.laneBreak l code).seqKey = s.seqKey := by
  unfold Dev.laneBreak
  simp only [↓spend_seqKey, ↓laneStop_seqKey]
theorem groveStart_seqKey (s : Dev) (l : Nat) (final : Bool) (amb : Nat) :
    (s.groveStart l final amb).1.seqKey = s.seqKey := by
  unfold Dev.groveStart
  first | (simp only [↓setFld_seqKey, ↓setLane_seqKey, ↓seqKey_mk, seqKey_fold, ↓ite_seqKey, ite_self, ↓countInvalid_seqKey, ↓groveRefuse_seqKey, ↓laneBreak_seqKey]; done) | ((try simp only [↓setFld_seqKey, ↓setLane_seqKey, ↓seqKey_mk, seqKey_fold, ↓ite_seqKey, ite_self, ↓countInvalid_seqKey, ↓groveRefuse_seqKey, ↓laneBreak_seqKey]) <;> (repeat' split) <;> (try simp only [↓setFld_seqKey, ↓setLane_seqKey, ↓seqKey_mk, seqKey_fold, ↓ite_seqKey, ite_self, ↓countInvalid_seqKey, ↓groveRefuse_seqKey, ↓laneBreak_seqKey]))
theorem producerSend_seqKey (s : Dev) (l method : Nat) (accum : Bool) (n m iterMax : Nat) (p : Problem) :
    (s.producerSend l method accum n m iterMax p).seqKey = s.seqKey := by
  unfold Dev.producerSend
  simp only [↓setLane_seqKey, ↓seqKey_mk, seqKey_fold, ↓ite_seqKey, ite_self, ↓groveLoadOp_seqKey]
theorem noLane_seqKey (s : Dev) :
    (s.noLane).seqKey = s.seqKey := by
  unfold Dev.noLane
  simp only [↓cntSat_seqKey, ↓ev_seqKey]
theorem roleRelease_seqKey (s : Dev) (role method : Nat) (accum : Bool) (n m iterMax : Nat) (p : Problem) (final : Bool) (amb : Nat) :
    (s.roleRelease role method accum n m iterMax p final amb).seqKey = s.seqKey := by
  unfold Dev.roleRelease
  first | (simp only [↓seqKey_mk, seqKey_fold, ↓groveStart_seqKey, ↓noLane_seqKey, ↓producerSend_seqKey]; done) | ((try simp only [↓seqKey_mk, seqKey_fold, ↓groveStart_seqKey, ↓noLane_seqKey, ↓producerSend_seqKey]) <;> (repeat' split) <;> (try simp only [↓seqKey_mk, seqKey_fold, ↓groveStart_seqKey, ↓noLane_seqKey, ↓producerSend_seqKey]))
theorem groveAbort_seqKey (s : Dev) :
    (s.groveAbort).seqKey = s.seqKey := by
  unfold Dev.groveAbort
  simp (disch := (intros; (try simp only [↓setLane_seqKey, ↓seqKey_mk, seqKey_fold, ↓ite_seqKey, ite_self, ↓laneBreak_seqKey]) <;> (try (split <;> simp only [↓setLane_seqKey, ↓seqKey_mk, seqKey_fold, ↓ite_seqKey, ite_self, ↓laneBreak_seqKey])))) only [↓setLane_seqKey, ↓seqKey_mk, seqKey_fold, ↓ite_seqKey, ite_self, ↓laneBreak_seqKey, each_seqKey]
theorem lateLanes_seqKey (s : Dev) :
    (s.lateLanes).seqKey = s.seqKey := by
  unfold Dev.lateLanes
  simp (disch := (intros; (try simp only [↓setLane_seqKey, ↓seqKey_mk, seqKey_fold, ↓ite_seqKey, ite_self, ↓laneBreak_seqKey]) <;> (try (split <;> simp only [↓setLane_seqKey, ↓seqKey_mk, seqKey_fold, ↓ite_seqKey, ite_self, ↓laneBreak_seqKey])))) only [↓setLane_seqKey, ↓seqKey_mk, seqKey_fold, ↓ite_seqKey, ite_self, ↓laneBreak_seqKey, each_seqKey]
theorem moveRole_seqKey (s : Dev) (mv : Nat × Nat) :
    (s.moveRole mv).seqKey = s.seqKey := by
  unfold Dev.moveRole
  first | (simp only [↓setFld_seqKey, ↓ev_seqKey, ↓setLane_seqKey, ↓seqKey_mk, seqKey_fold, ↓ite_seqKey, ite_self, ↓laneBreak_seqKey, ↓recount_seqKey, ↓slotOut_seqKey]; done) | ((try simp only [↓setFld_seqKey, ↓ev_seqKey, ↓setLane_seqKey, ↓seqKey_mk, seqKey_fold, ↓ite_seqKey, ite_self, ↓laneBreak_seqKey, ↓recount_seqKey, ↓slotOut_seqKey]) <;> (repeat' split) <;> (try simp only [↓setFld_seqKey, ↓ev_seqKey, ↓setLane_seqKey, ↓seqKey_mk, seqKey_fold, ↓ite_seqKey, ite_self, ↓laneBreak_seqKey, ↓recount_seqKey, ↓slotOut_seqKey]))
theorem moveRoles_seqKey (s : Dev) :
    (s.moveRoles).seqKey = s.seqKey := by
  unfold Dev.moveRoles
  simp (disch := (intros; (try simp only [↓seqKey_mk, seqKey_fold, ↓moveRole_seqKey]) <;> (try (split <;> simp only [↓seqKey_mk, seqKey_fold, ↓moveRole_seqKey])))) only [↓seqKey_mk, seqKey_fold, ↓moveRole_seqKey, each_seqKey]
theorem setEstState_seqKey (s : Dev) (n : Nat) :
    (s.setEstState n).seqKey = s.seqKey := by
  unfold Dev.setEstState
  simp only [↓setFld_seqKey, ↓raise_seqKey, ↓ite_seqKey, ite_self]
theorem propagate_seqKey (s : Dev) :
    (s.propagate).seqKey = s.seqKey := by
  unfold Dev.propagate
  simp only [↓seqKey_mk, seqKey_fold, ↓ite_seqKey, ite_self]
theorem selectSensors_seqKey (s : Dev) :
    (s.selectSensors).seqKey = s.seqKey := by
  unfold Dev.selectSensors
  first | (simp only [↓seqKey_mk, seqKey_fold]; done) | ((try simp only [↓seqKey_mk, seqKey_fold]) <;> (repeat' split) <;> (try simp only [↓seqKey_mk, seqKey_fold]))
theorem setRef_seqKey (s : Dev) (n : Nat) (f : RefSt → RefSt) :
    (s.setRef n f).seqKey = s.seqKey := by
  unfold Dev.setRef
  simp only [↓seqKey_mk, seqKey_fold]
theorem showRef_seqKey (s : Dev) (n test : Nat) (ns : Int) :
    (s.showRef n test ns).seqKey = s.seqKey := by
  unfold Dev.showRef
  first | (simp only [↓setFld_seqKey, ↓setBit_seqKey, ↓seqKey_mk, seqKey_fold, ↓ite_seqKey, ite_self]; done) | ((try simp only [↓setFld_seqKey, ↓setBit_seqKey, ↓seqKey_mk, seqKey_fold, ↓ite_seqKey, ite_self]) <;> (repeat' split) <;> (try simp only [↓setFld_seqKey, ↓setBit_seqKey, ↓seqKey_mk, seqKey_fold, ↓ite_seqKey, ite_self]))
theorem rejectRef_seqKey (s : Dev) (n test : Nat) :
    (s.rejectRef n test).seqKey = s.seqKey := by
  unfold Dev.rejectRef
  simp only [↓cntSat_seqKey, ↓ev_seqKey, ↓seqKey_mk, seqKey_fold, ↓ite_seqKey, ite_self, ↓setRef_seqKey]
theorem passRef_seqKey (s : Dev) (t : RefTest) :
    (s.passRef t).seqKey = s.seqKey := by
  unfold Dev.passRef
  simp only [↓ev_seqKey, ↓seqKey_mk, seqKey_fold, ↓ite_seqKey, ite_self, ↓setRef_seqKey]
theorem judgeRef_seqKey (s : Dev) (i : TickIn) (med : Option (Rat × Rat)) (t : RefTest) :
    (s.judgeRef i med t).seqKey = s.seqKey := by
  unfold Dev.judgeRef
  extract_lets r far innovOk test s1 f s3 s2
  rw [showRef_seqKey]
  have h1 : s1.seqKey = s.seqKey := setRef_seqKey _ _ _
  rw [← h1]
  have h3 : s3.seqKey = s1.seqKey := setRef_seqKey _ _ _
  clear_value s3 s1 test f r far innovOk
  unfold s2
  split
  · exact passRef_seqKey _ _
  · rfl
  · simp only [↓ite_seqKey, ↓rejectRef_seqKey, h3, ite_self]
  · exact rejectRef_seqKey _ _ _
theorem acceptRefs_seqKey (s : Dev) (i : TickIn) :
    (s.acceptRefs i).seqKey = s.seqKey := by
  unfold Dev.acceptRefs
  simp (disch := (intros; (try simp only [↓seqKey_mk, seqKey_fold, ↓ite_seqKey, ite_self, ↓judgeRef_seqKey]) <;> (try (split <;> simp only [↓seqKey_mk, seqKey_fold, ↓ite_seqKey, ite_self, ↓judgeRef_seqKey])))) only [↓seqKey_mk, seqKey_fold, ↓ite_seqKey, ite_self, ↓judgeRef_seqKey, each_seqKey]
theorem dropSamples_seqKey (s : Dev) :
    (s.dropSamples).seqKey = s.seqKey := by
  unfold Dev.dropSamples
  simp only [↓seqKey_mk, seqKey_fold]
theorem refsReinit_seqKey (s : Dev) :
    (s.refsReinit).seqKey = s.seqKey := by
  unfold Dev.refsReinit
  simp (disch := (intros; (try simp only [↓setFld_seqKey, ↓setBit_seqKey, ↓seqKey_mk, seqKey_fold, ↓ite_seqKey, ite_self]) <;> (try (split <;> simp only [↓setFld_seqKey, ↓setBit_seqKey, ↓seqKey_mk, seqKey_fold, ↓ite_seqKey, ite_self])))) only [↓setFld_seqKey, ↓setBit_seqKey, ↓seqKey_mk, seqKey_fold, ↓ite_seqKey, ite_self, each_seqKey]
theorem gyroTest_seqKey (s : Dev) (b med : Rat) (k : Nat) :
    (s.gyroTest b med k).seqKey = s.seqKey := by
  unfold Dev.gyroTest
  simp only [↓ev_seqKey, ↓seqKey_mk, seqKey_fold, ↓ite_seqKey, ite_self]
theorem headingMedian_seqKey (s : Dev) (fresh : List Nat) (vals : List Rat) :
    (s.headingMedian fresh vals).seqKey = s.seqKey := by
  unfold Dev.headingMedian
  simp (disch := (intros; (try simp only [↓seqKey_mk, seqKey_fold, ↓gyroTest_seqKey]) <;> (try (split <;> simp only [↓seqKey_mk, seqKey_fold, ↓gyroTest_seqKey])))) only [↓seqKey_mk, seqKey_fold, ↓gyroTest_seqKey, each_seqKey]
theorem headingPair_seqKey (s : Dev) (fresh : List Nat) (vals : List Rat) :
    (s.headingPair fresh vals).seqKey = s.seqKey := by
  unfold Dev.headingPair
  simp only [↓ev_seqKey, ↓seqKey_mk, seqKey_fold, ↓ite_seqKey, ite_self]
theorem headingFlags_seqKey (s : Dev) (n : Nat) :
    (s.headingFlags n).seqKey = s.seqKey := by
  unfold Dev.headingFlags
  simp only [↓setBit_seqKey, ↓ev_seqKey, ↓ite_seqKey, ite_self]
theorem headingTest_seqKey (s : Dev) :
    (s.headingTest).seqKey = s.seqKey := by
  unfold Dev.headingTest
  simp (disch := (intros; (try simp only [↓seqKey_mk, seqKey_fold, ↓ite_seqKey, ite_self, ↓headingFlags_seqKey, ↓headingMedian_seqKey, ↓headingPair_seqKey]) <;> (try (split <;> simp only [↓seqKey_mk, seqKey_fold, ↓ite_seqKey, ite_self, ↓headingFlags_seqKey, ↓headingMedian_seqKey, ↓headingPair_seqKey])))) only [↓seqKey_mk, seqKey_fold, ↓ite_seqKey, ite_self, ↓headingFlags_seqKey, ↓headingMedian_seqKey, ↓headingPair_seqKey, each_seqKey]
theorem deadReckon_seqKey (s : Dev) (entered : Bool) :
    (s.deadReckon entered).seqKey = s.seqKey := by
  unfold Dev.deadReckon
  simp only [↓setBit_seqKey, ↓ev_seqKey, ↓seqKey_mk, seqKey_fold, ↓ite_seqKey, ite_self]
theorem applyBundle_seqKey (s : Dev) :
    (s.applyBundle).seqKey = s.seqKey := by
  unfold Dev.applyBundle
  first | (simp (disch := (intros; simp (disch := (intros; (try simp only [↓wrPbv_seqKey, ↓ev_seqKey, ↓seqKey_mk, seqKey_fold, ↓ite_seqKey, ite_self]) <;> (repeat' split) <;> (try simp only [↓wrPbv_seqKey, ↓ev_seqKey, ↓seqKey_mk, seqKey_fold, ↓ite_seqKey, ite_self]))) only [↓wrPbv_seqKey, ↓ev_seqKey, ↓seqKey_mk, seqKey_fold, ↓ite_seqKey, ite_self, each_seqKey])) only [↓wrPbv_seqKey, ↓ev_seqKey, ↓seqKey_mk, seqKey_fold, ↓ite_seqKey, ite_self, each_seqKey]; done) | ((try simp (disch := (intros; simp (disch := (intros; (try simp only [↓wrPbv_seqKey, ↓ev_seqKey, ↓seqKey_mk, seqKey_fold, ↓ite_seqKey, ite_self]) <;> (repeat' split) <;> (try simp only [↓wrPbv_seqKey, ↓ev_seqKey, ↓seqKey_mk, seqKey_fold, ↓ite_seqKey, ite_self]))) only [↓wrPbv_seqKey, ↓ev_seqKey, ↓seqKey_mk, seqKey_fold, ↓ite_seqKey, ite_self, each_seqKey])) only [↓wrPbv_seqKey, ↓ev_seqKey, ↓seqKey_mk, seqKey_fold, ↓ite_seqKey, ite_self, each_seqKey]) <;> (repeat' split) <;> (try simp (disch := (intros; simp (disch := (intros; (try simp only [↓wrPbv_seqKey, ↓ev_seqKey, ↓seqKey_mk, seqKey_fold, ↓ite_seqKey, ite_self]) <;> (repeat' split) <;> (try simp only [↓wrPbv_seqKey, ↓ev_seqKey, ↓seqKey_mk, seqKey_fold, ↓ite_seqKey, ite_self]))) only [↓wrPbv_seqKey, ↓ev_seqKey, ↓seqKey_mk, seqKey_fold, ↓ite_seqKey, ite_self, each_seqKey])) only [↓wrPbv_seqKey, ↓ev_seqKey, ↓seqKey_mk, seqKey_fold, ↓ite_seqKey, ite_self, each_seqKey]))
theorem estForm_seqKey (s : Dev) (i : TickIn) :
    (s.estForm i).seqKey = s.seqKey := by
  unfold Dev.estForm
  simp only [↓setFld_seqKey, ↓seqKey_mk, seqKey_fold, ↓ite_seqKey, ite_self, ↓acceptRefs_seqKey, ↓applyBundle_seqKey, ↓deadReckon_seqKey, ↓dropSamples_seqKey, ↓headingTest_seqKey, ↓propagate_seqKey, ↓roleRelease_seqKey, ↓selectSensors_seqKey]
theorem estRestart_seqKey (s : Dev) :
    (s.estRestart).seqKey = s.seqKey := by
  unfold Dev.estRestart
  simp only [↓setFld_seqKey, ↓setBit_seqKey, ↓seqKey_mk, seqKey_fold, ↓setEstState_seqKey]
theorem originFar_seqKey (s : Dev) :
    (s.originFar).seqKey = s.seqKey := by
  unfold Dev.originFar
  simp only [↓setBit_seqKey, ↓ev_seqKey, ↓ite_seqKey, ite_self]
theorem takeSolution_seqKey (s : Dev) (l : Nat) :
    (s.takeSolution l).seqKey = s.seqKey := by
  unfold Dev.takeSolution
  simp only [↓seqKey_mk, seqKey_fold, ↓originFar_seqKey]
theorem estUpdate_seqKey (s : Dev) :
    (s.estUpdate).seqKey = s.seqKey := by
  unfold Dev.estUpdate
  first | (simp only [↓setFld_seqKey, ↓setBit_seqKey, ↓ev_seqKey, ↓seqKey_mk, seqKey_fold, ↓ite_seqKey, ite_self, ↓setEstState_seqKey, ↓takeSolution_seqKey]; done) | ((try simp only [↓setFld_seqKey, ↓setBit_seqKey, ↓ev_seqKey, ↓seqKey_mk, seqKey_fold, ↓ite_seqKey, ite_self, ↓setEstState_seqKey, ↓takeSolution_seqKey]) <;> (repeat' split) <;> (try simp only [↓setFld_seqKey, ↓setBit_seqKey, ↓ev_seqKey, ↓seqKey_mk, seqKey_fold, ↓ite_seqKey, ite_self, ↓setEstState_seqKey, ↓takeSolution_seqKey]))
theorem bundleBegin_seqKey (s : Dev) :
    (s.bundleBegin).seqKey = s.seqKey := by
  unfold Dev.bundleBegin
  first | (simp only [↓seqKey_mk, seqKey_fold, ↓groveLoadOp_seqKey]; done) | ((try simp only [↓seqKey_mk, seqKey_fold, ↓groveLoadOp_seqKey]) <;> (repeat' split) <;> (try simp only [↓seqKey_mk, seqKey_fold, ↓groveLoadOp_seqKey]))
theorem bundleSend_seqKey (s : Dev) :
    (s.bundleSend).seqKey = s.seqKey := by
  unfold Dev.bundleSend
  simp only [↓roleRelease_seqKey]
theorem bundleStart_seqKey (s : Dev) :
    (s.bundleStart).seqKey = s.seqKey := by
  unfold Dev.bundleStart
  simp only [↓seqKey_mk, seqKey_fold, ↓ite_seqKey, ite_self, ↓bundleBegin_seqKey, ↓bundleSend_seqKey]
theorem ambFix_seqKey (s : Dev) (l : Nat) (i : TickIn) :
    (s.ambFix l i).seqKey = s.seqKey := by
  unfold Dev.ambFix
  first | (simp only [↓setFld_seqKey, ↓setBit_seqKey, ↓ev_seqKey, ↓seqKey_mk, seqKey_fold, ↓ite_seqKey, ite_self]; done) | ((try simp only [↓setFld_seqKey, ↓setBit_seqKey, ↓ev_seqKey, ↓seqKey_mk, seqKey_fold, ↓ite_seqKey, ite_self]) <;> (repeat' split) <;> (try simp only [↓setFld_seqKey, ↓setBit_seqKey, ↓ev_seqKey, ↓seqKey_mk, seqKey_fold, ↓ite_seqKey, ite_self]))
theorem bundlePublish_seqKey (s : Dev) (i : TickIn) (bad : Bool) :
    (s.bundlePublish i bad).seqKey = s.seqKey := by
  unfold Dev.bundlePublish
  first | (simp only [↓cntWrap_seqKey, ↓ev_seqKey, ↓seqKey_mk, seqKey_fold, ↓ite_seqKey, ite_self, ↓ambFix_seqKey]; done) | ((try simp only [↓cntWrap_seqKey, ↓ev_seqKey, ↓seqKey_mk, seqKey_fold, ↓ite_seqKey, ite_self, ↓ambFix_seqKey]) <;> (repeat' split) <;> (try simp only [↓cntWrap_seqKey, ↓ev_seqKey, ↓seqKey_mk, seqKey_fold, ↓ite_seqKey, ite_self, ↓ambFix_seqKey]))
theorem bundleEnd_seqKey (s : Dev) (i : TickIn) :
    (s.bundleEnd i).seqKey = s.seqKey := by
  unfold Dev.bundleEnd
  simp only [↓setFld_seqKey, ↓seqKey_mk, seqKey_fold, ↓ite_seqKey, ite_self, ↓bundlePublish_seqKey]
theorem slips_seqKey (s : Dev) :
    (s.slips).seqKey = s.seqKey := by
  unfold Dev.slips
  first | (simp only [↓setBit_seqKey, ↓ev_seqKey, ↓seqKey_mk, seqKey_fold, ↓ite_seqKey, ite_self]; done) | ((try simp only [↓setBit_seqKey, ↓ev_seqKey, ↓seqKey_mk, seqKey_fold, ↓ite_seqKey, ite_self]) <;> (repeat' split) <;> (try simp only [↓setBit_seqKey, ↓ev_seqKey, ↓seqKey_mk, seqKey_fold, ↓ite_seqKey, ite_self]))
theorem estBoundary_seqKey (s : Dev) :
    (s.estBoundary).seqKey = s.seqKey := by
  unfold Dev.estBoundary
  first | (simp only [↓wr_seqKey, ↓setBit_seqKey, ↓seqKey_mk, seqKey_fold, ↓ite_seqKey, ite_self, ↓estRestart_seqKey, ↓refsReinit_seqKey]; done) | ((try simp only [↓wr_seqKey, ↓setBit_seqKey, ↓seqKey_mk, seqKey_fold, ↓ite_seqKey, ite_self, ↓estRestart_seqKey, ↓refsReinit_seqKey]) <;> (repeat' split) <;> (try simp only [↓wr_seqKey, ↓setBit_seqKey, ↓seqKey_mk, seqKey_fold, ↓ite_seqKey, ite_self, ↓estRestart_seqKey, ↓refsReinit_seqKey]))
theorem autoOrigin_seqKey (s : Dev) (lat lon : Int) :
    (s.autoOrigin lat lon).seqKey = s.seqKey := by
  unfold Dev.autoOrigin
  simp only [↓wr_seqKey, ↓setBit_seqKey, ↓ite_seqKey, ite_self]
theorem setAllocState_seqKey (s : Dev) (n : Nat) :
    (s.setAllocState n).seqKey = s.seqKey := by
  unfold Dev.setAllocState
  simp only [↓setFld_seqKey, ↓raise_seqKey, ↓ite_seqKey, ite_self]
theorem allocMismatch_seqKey (s : Dev) (k : Nat) :
    (s.allocMismatch k).seqKey = s.seqKey := by
  unfold Dev.allocMismatch
  simp only [↓cntSat_seqKey, ↓ev_seqKey]
theorem allocRequest_seqKey (s : Dev) :
    (s.allocRequest).seqKey = s.seqKey := by
  unfold Dev.allocRequest
  simp only [↓seqKey_mk, seqKey_fold, ↓ite_seqKey, ite_self]
theorem allocWithdraw_seqKey (s : Dev) :
    (s.allocWithdraw).seqKey = s.seqKey := by
  unfold Dev.allocWithdraw
  simp only [↓seqKey_mk, seqKey_fold]
theorem setTau_seqKey (s : Dev) (t : Rat × Rat × Rat) :
    (s.setTau t).seqKey = s.seqKey := by
  unfold Dev.setTau
  simp only [↓setBit_seqKey, ↓wrPbv_seqKey, ↓ev_seqKey, ↓seqKey_mk, seqKey_fold, ↓ite_seqKey, ite_self]
theorem zeroTau_seqKey (s : Dev) :
    (s.zeroTau).seqKey = s.seqKey := by
  unfold Dev.zeroTau
  simp only [↓wr_seqKey, ↓setBit_seqKey, ↓seqKey_mk, seqKey_fold]
theorem estimatorAction_seqKey (s : Dev) :
    (s.estimatorAction).seqKey = s.seqKey := by
  unfold Dev.estimatorAction
  simp only [↓ev_seqKey, ↓ite_seqKey, ite_self, ↓allocRequest_seqKey, ↓setAllocState_seqKey, ↓zeroTau_seqKey]
theorem allocDemand_seqKey (s : Dev) (i : TickIn) :
    (s.allocDemand i).seqKey = s.seqKey := by
  unfold Dev.allocDemand
  simp only [↓ev_seqKey, ↓seqKey_mk, seqKey_fold, ↓ite_seqKey, ite_self, ↓allocMismatch_seqKey, ↓estimatorAction_seqKey, ↓setAllocState_seqKey, ↓setTau_seqKey]
theorem latchZone_seqKey (s : Dev) (t : Nat) (ang : Rat) (zone : Option Nat) :
    (s.latchZone t ang zone).seqKey = s.seqKey := by
  unfold Dev.latchZone
  first | (simp only [↓setBit_seqKey, ↓ev_seqKey, ↓seqKey_mk, seqKey_fold, ↓ite_seqKey, ite_self]; done) | ((try simp only [↓setBit_seqKey, ↓ev_seqKey, ↓seqKey_mk, seqKey_fold, ↓ite_seqKey, ite_self]) <;> (repeat' split) <;> (try simp only [↓setBit_seqKey, ↓ev_seqKey, ↓seqKey_mk, seqKey_fold, ↓ite_seqKey, ite_self]))
theorem latchSide_seqKey (s : Dev) (t : Nat) :
    (s.latchSide t).seqKey = s.seqKey := by
  unfold Dev.latchSide
  simp only [↓setBit_seqKey, ↓ev_seqKey, ↓ite_seqKey, ite_self]
theorem latchAngle_seqKey (s : Dev) (t : Nat) (ang : Rat) :
    (s.latchAngle t ang).seqKey = s.seqKey := by
  unfold Dev.latchAngle
  simp only [↓wrPbv_seqKey, ↓seqKey_mk, seqKey_fold, ↓ite_seqKey, ite_self]
theorem latchThr_seqKey (s : Dev) (t : Nat) :
    (s.latchThr t).seqKey = s.seqKey := by
  unfold Dev.latchThr
  simp only [↓setBit_seqKey, ↓ite_seqKey, ite_self, ↓latchAngle_seqKey, ↓latchSide_seqKey, ↓latchZone_seqKey]
theorem assignGroups_seqKey (s : Dev) :
    (s.assignGroups).seqKey = s.seqKey := by
  unfold Dev.assignGroups
  simp only [↓seqKey_mk, seqKey_fold]
theorem memberBounds_seqKey (s : Dev) (l g : Nat) :
    (s.memberBounds l g).seqKey = s.seqKey := by
  unfold Dev.memberBounds
  simp only [↓cntSat_seqKey, ↓setLane_seqKey, ↓seqKey_mk, seqKey_fold, ↓ite_seqKey, ite_self]
theorem startGroups_seqKey (s : Dev) (l : Nat) (gs : List Nat) : (s.startGroups l gs).seqKey = s.seqKey := by
  induction gs generalizing s with
  | nil => unfold Dev.startGroups; simp only [↓setLane_seqKey]
  | cons g gs ih =>
    unfold Dev.startGroups
    simp only [↓ite_seqKey, ih, ↓groveStart_seqKey, ↓memberBounds_seqKey, ↓setLane_seqKey, ite_self]
theorem nextGroup_seqKey (s : Dev) (l : Nat) :
    (s.nextGroup l).seqKey = s.seqKey := by
  unfold Dev.nextGroup
  simp only [↓startGroups_seqKey]
theorem allocPose_seqKey (s : Dev) (i : TickIn) :
    (s.allocPose i).seqKey = s.seqKey := by
  unfold Dev.allocPose
  simp (disch := (intros; simp (disch := (intros; (try simp only [↓setLane_seqKey, ↓seqKey_mk, seqKey_fold, ↓ite_seqKey, ite_self, ↓allocMismatch_seqKey, ↓latchThr_seqKey, ↓nextGroup_seqKey, ↓noLane_seqKey, ↓producerSend_seqKey, ↓roleRelease_seqKey]) <;> (repeat' split) <;> (try simp only [↓setLane_seqKey, ↓seqKey_mk, seqKey_fold, ↓ite_seqKey, ite_self, ↓allocMismatch_seqKey, ↓latchThr_seqKey, ↓nextGroup_seqKey, ↓noLane_seqKey, ↓producerSend_seqKey, ↓roleRelease_seqKey]))) only [↓setLane_seqKey, ↓seqKey_mk, seqKey_fold, ↓ite_seqKey, ite_self, ↓allocMismatch_seqKey, ↓latchThr_seqKey, ↓nextGroup_seqKey, ↓noLane_seqKey, ↓producerSend_seqKey, ↓roleRelease_seqKey, each_seqKey])) only [↓setLane_seqKey, ↓seqKey_mk, seqKey_fold, ↓ite_seqKey, ite_self, ↓allocMismatch_seqKey, ↓latchThr_seqKey, ↓nextGroup_seqKey, ↓noLane_seqKey, ↓producerSend_seqKey, ↓roleRelease_seqKey, each_seqKey]
theorem writeTargets_seqKey (s : Dev) :
    (s.writeTargets).seqKey = s.seqKey := by
  unfold Dev.writeTargets
  simp (disch := (intros; (try simp only [↓setGen_seqKey, ↓seqKey_mk, seqKey_fold]) <;> (try (split <;> simp only [↓setGen_seqKey, ↓seqKey_mk, seqKey_fold])))) only [↓setGen_seqKey, ↓seqKey_mk, seqKey_fold, each_seqKey]
theorem showShort_seqKey (s : Dev) (f : List (Rat × Rat)) :
    (s.showShort f).seqKey = s.seqKey := by
  unfold Dev.showShort
  simp only [↓wrPbv_seqKey]
theorem applyAlloc_seqKey (s : Dev) :
    (s.applyAlloc).seqKey = s.seqKey := by
  unfold Dev.applyAlloc
  first | (simp (disch := (intros; (try simp only [↓wrPbv_seqKey, ↓seqKey_mk, seqKey_fold, ↓showShort_seqKey, ↓writeTargets_seqKey]) <;> (repeat' split) <;> (try simp only [↓wrPbv_seqKey, ↓seqKey_mk, seqKey_fold, ↓showShort_seqKey, ↓writeTargets_seqKey]))) only [↓wrPbv_seqKey, ↓seqKey_mk, seqKey_fold, ↓showShort_seqKey, ↓writeTargets_seqKey, each_seqKey]; done) | ((try simp (disch := (intros; (try simp only [↓wrPbv_seqKey, ↓seqKey_mk, seqKey_fold, ↓showShort_seqKey, ↓writeTargets_seqKey]) <;> (repeat' split) <;> (try simp only [↓wrPbv_seqKey, ↓seqKey_mk, seqKey_fold, ↓showShort_seqKey, ↓writeTargets_seqKey]))) only [↓wrPbv_seqKey, ↓seqKey_mk, seqKey_fold, ↓showShort_seqKey, ↓writeTargets_seqKey, each_seqKey]) <;> (repeat' split) <;> (try simp (disch := (intros; (try simp only [↓wrPbv_seqKey, ↓seqKey_mk, seqKey_fold, ↓showShort_seqKey, ↓writeTargets_seqKey]) <;> (repeat' split) <;> (try simp only [↓wrPbv_seqKey, ↓seqKey_mk, seqKey_fold, ↓showShort_seqKey, ↓writeTargets_seqKey]))) only [↓wrPbv_seqKey, ↓seqKey_mk, seqKey_fold, ↓showShort_seqKey, ↓writeTargets_seqKey, each_seqKey]))
theorem allocApply_seqKey (s : Dev) (i : TickIn) :
    (s.allocApply i).seqKey = s.seqKey := by
  unfold Dev.allocApply
  first | (simp only [↓setFld_seqKey, ↓ev_seqKey, ↓seqKey_mk, seqKey_fold, ↓ite_seqKey, ite_self, ↓allocMismatch_seqKey, ↓allocRequest_seqKey, ↓allocWithdraw_seqKey, ↓applyAlloc_seqKey, ↓setAllocState_seqKey, ↓showShort_seqKey, ↓writeTargets_seqKey]; done) | ((try simp only [↓setFld_seqKey, ↓ev_seqKey, ↓seqKey_mk, seqKey_fold, ↓ite_seqKey, ite_self, ↓allocMismatch_seqKey, ↓allocRequest_seqKey, ↓allocWithdraw_seqKey, ↓applyAlloc_seqKey, ↓setAllocState_seqKey, ↓showShort_seqKey, ↓writeTargets_seqKey]) <;> (repeat' split) <;> (try simp only [↓setFld_seqKey, ↓ev_seqKey, ↓seqKey_mk, seqKey_fold, ↓ite_seqKey, ite_self, ↓allocMismatch_seqKey, ↓allocRequest_seqKey, ↓allocWithdraw_seqKey, ↓applyAlloc_seqKey, ↓setAllocState_seqKey, ↓showShort_seqKey, ↓writeTargets_seqKey]))
theorem thrustGroupReport_seqKey (s : Dev) (g : Nat) :
    (s.thrustGroupReport g).seqKey = s.seqKey := by
  unfold Dev.thrustGroupReport
  first | (simp only [↓wr_seqKey, ↓setFld_seqKey, ↓setBit_seqKey, ↓wrPbv_seqKey, ↓cntSat_seqKey, ↓ev_seqKey, ↓seqKey_mk, seqKey_fold, ↓ite_seqKey, ite_self]; done) | ((try simp only [↓wr_seqKey, ↓setFld_seqKey, ↓setBit_seqKey, ↓wrPbv_seqKey, ↓cntSat_seqKey, ↓ev_seqKey, ↓seqKey_mk, seqKey_fold, ↓ite_seqKey, ite_self]) <;> (repeat' split) <;> (try simp only [↓wr_seqKey, ↓setFld_seqKey, ↓setBit_seqKey, ↓wrPbv_seqKey, ↓cntSat_seqKey, ↓ev_seqKey, ↓seqKey_mk, seqKey_fold, ↓ite_seqKey, ite_self]))
theorem refGroupReport_seqKey (s : Dev) (g : Nat) :
    (s.refGroupReport g).seqKey = s.seqKey := by
  unfold Dev.refGroupReport
  simp only [↓setFld_seqKey, ↓setBit_seqKey]
theorem allocReport_seqKey (s : Dev) :
    (s.allocReport).seqKey = s.seqKey := by
  unfold Dev.allocReport
  simp (disch := (intros; (try simp only [↓setFld_seqKey, ↓ev_seqKey, ↓seqKey_mk, seqKey_fold, ↓ite_seqKey, ite_self, ↓refGroupReport_seqKey, ↓thrustGroupReport_seqKey]) <;> (try (split <;> simp only [↓setFld_seqKey, ↓ev_seqKey, ↓seqKey_mk, seqKey_fold, ↓ite_seqKey, ite_self, ↓refGroupReport_seqKey, ↓thrustGroupReport_seqKey])))) only [↓setFld_seqKey, ↓ev_seqKey, ↓seqKey_mk, seqKey_fold, ↓ite_seqKey, ite_self, ↓refGroupReport_seqKey, ↓thrustGroupReport_seqKey, each_seqKey]
theorem allocArming_seqKey (s : Dev) :
    (s.allocArming).seqKey = s.seqKey := by
  unfold Dev.allocArming
  simp (disch := (intros; simp (disch := (intros; (try simp only [↓wr_seqKey, ↓setFld_seqKey, ↓setBit_seqKey, ↓ev_seqKey, ↓seqKey_mk, seqKey_fold, ↓ite_seqKey, ite_self, ↓setAllocState_seqKey]) <;> (try (split <;> simp only [↓wr_seqKey, ↓setFld_seqKey, ↓setBit_seqKey, ↓ev_seqKey, ↓seqKey_mk, seqKey_fold, ↓ite_seqKey, ite_self, ↓setAllocState_seqKey])))) only [↓wr_seqKey, ↓setFld_seqKey, ↓setBit_seqKey, ↓ev_seqKey, ↓seqKey_mk, seqKey_fold, ↓ite_seqKey, ite_self, ↓setAllocState_seqKey, each_seqKey])) only [↓wr_seqKey, ↓setFld_seqKey, ↓setBit_seqKey, ↓ev_seqKey, ↓seqKey_mk, seqKey_fold, ↓ite_seqKey, ite_self, ↓setAllocState_seqKey, each_seqKey]
theorem allocOperate_seqKey (s : Dev) :
    (s.allocOperate).seqKey = s.seqKey := by
  unfold Dev.allocOperate
  simp only [↓seqKey_mk, seqKey_fold, ↓ite_seqKey, ite_self, ↓setAllocState_seqKey]
theorem allocWatch_seqKey (s : Dev) :
    (s.allocWatch).seqKey = s.seqKey := by
  unfold Dev.allocWatch
  simp only [↓allocWithdraw_seqKey, ↓setAllocState_seqKey]
theorem selectBoundary_seqKey (s : Dev) :
    (s.selectBoundary).seqKey = s.seqKey := by
  unfold Dev.selectBoundary
  first | (simp only [↓ev_seqKey, ↓seqKey_mk, seqKey_fold, ↓ite_seqKey, ite_self]; done) | ((try simp only [↓ev_seqKey, ↓seqKey_mk, seqKey_fold, ↓ite_seqKey, ite_self]) <;> (repeat' split) <;> (try simp only [↓ev_seqKey, ↓seqKey_mk, seqKey_fold, ↓ite_seqKey, ite_self]))
theorem setTstate_seqKey (s : Dev) (n : Nat) :
    (s.setTstate n).seqKey = s.seqKey := by
  unfold Dev.setTstate
  simp only [↓setFld_seqKey, ↓raise_seqKey, ↓ite_seqKey, ite_self]
theorem showClock_seqKey (s : Dev) :
    (s.showClock).seqKey = s.seqKey := by
  unfold Dev.showClock
  simp only [↓wr_seqKey]
theorem slewEnd_seqKey (s : Dev) :
    (s.slewEnd).seqKey = s.seqKey := by
  unfold Dev.slewEnd
  simp only [↓setBit_seqKey, ↓ev_seqKey, ↓seqKey_mk, seqKey_fold]
theorem advance_seqKey (s : Dev) (dt : Rat) :
    (s.advance dt).seqKey = s.seqKey := by
  unfold Dev.advance
  simp only [↓seqKey_mk, seqKey_fold, ↓ite_seqKey, ite_self, ↓showClock_seqKey, ↓slewEnd_seqKey]
theorem returnRule_seqKey (s : Dev) (err : Int) (code : Nat) :
    (s.returnRule err code).seqKey = s.seqKey := by
  unfold Dev.returnRule
  simp only [↓setBit_seqKey, ↓seqKey_mk, seqKey_fold, ↓ite_seqKey, ite_self, ↓showClock_seqKey]
theorem changeSource_seqKey (s : Dev) (src : Nat) (ofs : Int) :
    (s.changeSource src ofs).seqKey = s.seqKey := by
  unfold Dev.changeSource
  simp only [↓setFld_seqKey, ↓raise_seqKey, ↓evI_seqKey, ↓returnRule_seqKey]
theorem showTime_seqKey (s : Dev) :
    (s.showTime).seqKey = s.seqKey := by
  unfold Dev.showTime
  simp only [↓setFld_seqKey, ↓setBit_seqKey]
theorem discipline_seqKey (s : Dev) (x dt : Rat) (tau : Nat) :
    (s.discipline x dt tau).seqKey = s.seqKey := by
  unfold Dev.discipline
  simp only [↓wrN_seqKey, ↓spend_seqKey, ↓seqKey_mk, seqKey_fold, ↓ite_seqKey, ite_self, ↓showClock_seqKey]
theorem useFix_seqKey (s : Dev) (f : FixSol) :
    (s.useFix f).seqKey = s.seqKey := by
  unfold Dev.useFix
  first | (simp only [↓wrN_seqKey, ↓setBit_seqKey, ↓evI_seqKey, ↓seqKey_mk, seqKey_fold, ↓ite_seqKey, ite_self, ↓changeSource_seqKey, ↓discipline_seqKey]; done) | ((try simp only [↓wrN_seqKey, ↓setBit_seqKey, ↓evI_seqKey, ↓seqKey_mk, seqKey_fold, ↓ite_seqKey, ite_self, ↓changeSource_seqKey, ↓discipline_seqKey]) <;> (repeat' split) <;> (try simp only [↓wrN_seqKey, ↓setBit_seqKey, ↓evI_seqKey, ↓seqKey_mk, seqKey_fold, ↓ite_seqKey, ite_self, ↓changeSource_seqKey, ↓discipline_seqKey]))
theorem qualify_seqKey (s : Dev) (f : FixSol) :
    (s.qualify f).seqKey = s.seqKey := by
  unfold Dev.qualify
  simp only [↓wrN_seqKey, ↓evI_seqKey, ↓seqKey_mk, seqKey_fold, ↓ite_seqKey, ite_self, ↓returnRule_seqKey, ↓setTstate_seqKey]
theorem fixStep_seqKey (s : Dev) (fix : Option FixIn) :
    (s.fixStep fix).seqKey = s.seqKey := by
  unfold Dev.fixStep
  first | (simp only [↓setFld_seqKey, ↓setBit_seqKey, ↓seqKey_mk, seqKey_fold, ↓ite_seqKey, ite_self, ↓autoOrigin_seqKey, ↓qualify_seqKey, ↓setTstate_seqKey, ↓useFix_seqKey]; done) | ((try simp only [↓setFld_seqKey, ↓setBit_seqKey, ↓seqKey_mk, seqKey_fold, ↓ite_seqKey, ite_self, ↓autoOrigin_seqKey, ↓qualify_seqKey, ↓setTstate_seqKey, ↓useFix_seqKey]) <;> (repeat' split) <;> (try simp only [↓setFld_seqKey, ↓setBit_seqKey, ↓seqKey_mk, seqKey_fold, ↓ite_seqKey, ite_self, ↓autoOrigin_seqKey, ↓qualify_seqKey, ↓setTstate_seqKey, ↓useFix_seqKey]))
theorem countTrack_seqKey (s : Dev) :
    (s.countTrack).seqKey = s.seqKey := by
  unfold Dev.countTrack
  simp only [↓setFld_seqKey]
theorem latchSpacing_seqKey (s : Dev) :
    (s.latchSpacing).seqKey = s.seqKey := by
  unfold Dev.latchSpacing
  simp only [↓seqKey_mk, seqKey_fold, ↓ite_seqKey, ite_self]
theorem release_seqKey (s : Dev) (p : GChan → Bool) :
    (s.release p).seqKey = s.seqKey := by
  unfold Dev.release
  simp only [↓seqKey_mk, seqKey_fold, ↓ite_seqKey, ite_self]
theorem latchSettings_seqKey (s : Dev) :
    (s.latchSettings).seqKey = s.seqKey := by
  unfold Dev.latchSettings
  simp only [↓seqKey_mk, seqKey_fold, ↓latchSpacing_seqKey, ↓release_seqKey]
theorem moveSat_seqKey (s : Dev) (x : SkySat) :
    (s.moveSat x).seqKey = s.seqKey := by
  unfold Dev.moveSat
  simp only [↓seqKey_mk, seqKey_fold, ↓ite_seqKey, ite_self, ↓release_seqKey]
theorem latchChan_seqKey (s : Dev) (m : ChanMeas) :
    (s.latchChan m).seqKey = s.seqKey := by
  unfold Dev.latchChan
  simp only [↓seqKey_mk, seqKey_fold, ↓ite_seqKey, ite_self]
theorem keepRecord_seqKey (s : Dev) (mid : Bool) :
    (s.keepRecord mid).seqKey = s.seqKey := by
  unfold Dev.keepRecord
  simp only [↓seqKey_mk, seqKey_fold]
theorem satSample_seqKey (s : Dev) :
    (s.satSample).seqKey = s.seqKey := by
  unfold Dev.satSample
  first | (simp only [↓seqKey_mk, seqKey_fold, ↓setRef_seqKey]; done) | ((try simp only [↓seqKey_mk, seqKey_fold, ↓setRef_seqKey]) <;> (repeat' split) <;> (try simp only [↓seqKey_mk, seqKey_fold, ↓setRef_seqKey]))
theorem holdBound_seqKey (s : Dev) :
    (s.holdBound).seqKey = s.seqKey := by
  unfold Dev.holdBound
  first | (simp only [↓wrN_seqKey, ↓seqKey_mk, seqKey_fold, ↓ite_seqKey, ite_self]; done) | ((try simp only [↓wrN_seqKey, ↓seqKey_mk, seqKey_fold, ↓ite_seqKey, ite_self]) <;> (repeat' split) <;> (try simp only [↓wrN_seqKey, ↓seqKey_mk, seqKey_fold, ↓ite_seqKey, ite_self]))
theorem keepCarrier_seqKey (s : Dev) :
    (s.keepCarrier).seqKey = s.seqKey := by
  unfold Dev.keepCarrier
  simp only [↓seqKey_mk, seqKey_fold, ↓ite_seqKey, ite_self]
theorem epoch_seqKey (s : Dev) (i : BoundaryIn) :
    (s.epoch i).seqKey = s.seqKey := by
  unfold Dev.epoch
  simp (disch := (intros; simp (disch := (intros; (try simp only [↓setFld_seqKey, ↓seqKey_mk, seqKey_fold, ↓ite_seqKey, ite_self, ↓countTrack_seqKey, ↓fixStep_seqKey, ↓keepCarrier_seqKey, ↓keepRecord_seqKey, ↓latchChan_seqKey, ↓latchSettings_seqKey, ↓moveSat_seqKey, ↓satSample_seqKey, ↓slips_seqKey]) <;> (try (split <;> simp only [↓setFld_seqKey, ↓seqKey_mk, seqKey_fold, ↓ite_seqKey, ite_self, ↓countTrack_seqKey, ↓fixStep_seqKey, ↓keepCarrier_seqKey, ↓keepRecord_seqKey, ↓latchChan_seqKey, ↓latchSettings_seqKey, ↓moveSat_seqKey, ↓satSample_seqKey, ↓slips_seqKey])))) only [↓setFld_seqKey, ↓seqKey_mk, seqKey_fold, ↓ite_seqKey, ite_self, ↓countTrack_seqKey, ↓fixStep_seqKey, ↓keepCarrier_seqKey, ↓keepRecord_seqKey, ↓latchChan_seqKey, ↓latchSettings_seqKey, ↓moveSat_seqKey, ↓satSample_seqKey, ↓slips_seqKey, each_seqKey])) only [↓setFld_seqKey, ↓seqKey_mk, seqKey_fold, ↓ite_seqKey, ite_self, ↓countTrack_seqKey, ↓fixStep_seqKey, ↓keepCarrier_seqKey, ↓keepRecord_seqKey, ↓latchChan_seqKey, ↓latchSettings_seqKey, ↓moveSat_seqKey, ↓satSample_seqKey, ↓slips_seqKey, each_seqKey]
theorem midLatch_seqKey (s : Dev) (i : TickIn) :
    (s.midLatch i).seqKey = s.seqKey := by
  unfold Dev.midLatch
  simp (disch := (intros; (try simp only [↓seqKey_mk, seqKey_fold, ↓ite_seqKey, ite_self, ↓countTrack_seqKey, ↓keepRecord_seqKey, ↓latchChan_seqKey, ↓latchSettings_seqKey]) <;> (try (split <;> simp only [↓seqKey_mk, seqKey_fold, ↓ite_seqKey, ite_self, ↓countTrack_seqKey, ↓keepRecord_seqKey, ↓latchChan_seqKey, ↓latchSettings_seqKey])))) only [↓seqKey_mk, seqKey_fold, ↓ite_seqKey, ite_self, ↓countTrack_seqKey, ↓keepRecord_seqKey, ↓latchChan_seqKey, ↓latchSettings_seqKey, each_seqKey]
theorem dropped_seqKey (s : Dev) (k : Nat) (cn0 : BitVec 16) (spanMs : Nat) :
    (s.dropped k cn0 spanMs).seqKey = s.seqKey := by
  unfold Dev.dropped
  simp only [↓seqKey_mk, seqKey_fold, ↓ite_seqKey, ite_self, ↓countTrack_seqKey]
theorem countChains_seqKey (s : Dev) :
    (s.countChains).seqKey = s.seqKey := by
  unfold Dev.countChains
  simp only [↓setFld_seqKey]
theorem chainStep_seqKey (s : Dev) (n : Nat) :
    (s.chainStep n).seqKey = s.seqKey := by
  unfold Dev.chainStep
  simp only [↓wrN_seqKey, ↓setFld_seqKey, ↓setBit_seqKey, ↓setChain_seqKey, ↓seqKey_mk, seqKey_fold]
theorem showStuck_seqKey (s : Dev) (n : Nat) :
    (s.showStuck n).seqKey = s.seqKey := by
  unfold Dev.showStuck
  simp only [↓setBit_seqKey]
theorem chainStart_seqKey (s : Dev) (n : Nat) :
    (s.chainStart n).seqKey = s.seqKey := by
  unfold Dev.chainStart
  simp only [↓setBit_seqKey, ↓setChain_seqKey, ↓seqKey_mk, seqKey_fold, ↓chainStep_seqKey, ↓countChains_seqKey, ↓showStuck_seqKey]
theorem pulseLatch_seqKey (s : Dev) (p : Nat) :
    (s.pulseLatch p).seqKey = s.seqKey := by
  unfold Dev.pulseLatch
  first | (simp only [↓wrN_seqKey, ↓setBit_seqKey, ↓seqKey_mk, seqKey_fold]; done) | ((try simp only [↓wrN_seqKey, ↓setBit_seqKey, ↓seqKey_mk, seqKey_fold]) <;> (repeat' split) <;> (try simp only [↓wrN_seqKey, ↓setBit_seqKey, ↓seqKey_mk, seqKey_fold]))
theorem quadLatch_seqKey (s : Dev) (p : Nat) :
    (s.quadLatch p).seqKey = s.seqKey := by
  unfold Dev.quadLatch
  simp only [↓wr_seqKey, ↓seqKey_mk, seqKey_fold, ↓ite_seqKey, ite_self]
theorem chainLatch_seqKey (s : Dev) (n : Nat) :
    (s.chainLatch n).seqKey = s.seqKey := by
  unfold Dev.chainLatch
  first | (simp only [↓setChain_seqKey, ↓seqKey_mk, seqKey_fold, ↓ite_seqKey, ite_self, ↓chainStart_seqKey]; done) | ((try simp only [↓setChain_seqKey, ↓seqKey_mk, seqKey_fold, ↓ite_seqKey, ite_self, ↓chainStart_seqKey]) <;> (repeat' split) <;> (try simp only [↓setChain_seqKey, ↓seqKey_mk, seqKey_fold, ↓ite_seqKey, ite_self, ↓chainStart_seqKey]))
theorem acqP0_seqKey (s : Dev) :
    (s.acqP0).seqKey = s.seqKey := by
  unfold Dev.acqP0
  first | (simp (disch := (intros; simp (disch := (intros; (try simp only [↓setBit_seqKey, ↓seqKey_mk, seqKey_fold, ↓ite_seqKey, ite_self, ↓chainLatch_seqKey, ↓pulseLatch_seqKey, ↓quadLatch_seqKey]) <;> (repeat' split) <;> (try simp only [↓setBit_seqKey, ↓seqKey_mk, seqKey_fold, ↓ite_seqKey, ite_self, ↓chainLatch_seqKey, ↓pulseLatch_seqKey, ↓quadLatch_seqKey]))) only [↓setBit_seqKey, ↓seqKey_mk, seqKey_fold, ↓ite_seqKey, ite_self, ↓chainLatch_seqKey, ↓pulseLatch_seqKey, ↓quadLatch_seqKey, each_seqKey])) only [↓setBit_seqKey, ↓seqKey_mk, seqKey_fold, ↓ite_seqKey, ite_self, ↓chainLatch_seqKey, ↓pulseLatch_seqKey, ↓quadLatch_seqKey, each_seqKey]; done) | ((try simp (disch := (intros; simp (disch := (intros; (try simp only [↓setBit_seqKey, ↓seqKey_mk, seqKey_fold, ↓ite_seqKey, ite_self, ↓chainLatch_seqKey, ↓pulseLatch_seqKey, ↓quadLatch_seqKey]) <;> (repeat' split) <;> (try simp only [↓setBit_seqKey, ↓seqKey_mk, seqKey_fold, ↓ite_seqKey, ite_self, ↓chainLatch_seqKey, ↓pulseLatch_seqKey, ↓quadLatch_seqKey]))) only [↓setBit_seqKey, ↓seqKey_mk, seqKey_fold, ↓ite_seqKey, ite_self, ↓chainLatch_seqKey, ↓pulseLatch_seqKey, ↓quadLatch_seqKey, each_seqKey])) only [↓setBit_seqKey, ↓seqKey_mk, seqKey_fold, ↓ite_seqKey, ite_self, ↓chainLatch_seqKey, ↓pulseLatch_seqKey, ↓quadLatch_seqKey, each_seqKey]) <;> (repeat' split) <;> (try simp (disch := (intros; simp (disch := (intros; (try simp only [↓setBit_seqKey, ↓seqKey_mk, seqKey_fold, ↓ite_seqKey, ite_self, ↓chainLatch_seqKey, ↓pulseLatch_seqKey, ↓quadLatch_seqKey]) <;> (repeat' split) <;> (try simp only [↓setBit_seqKey, ↓seqKey_mk, seqKey_fold, ↓ite_seqKey, ite_self, ↓chainLatch_seqKey, ↓pulseLatch_seqKey, ↓quadLatch_seqKey]))) only [↓setBit_seqKey, ↓seqKey_mk, seqKey_fold, ↓ite_seqKey, ite_self, ↓chainLatch_seqKey, ↓pulseLatch_seqKey, ↓quadLatch_seqKey, each_seqKey])) only [↓setBit_seqKey, ↓seqKey_mk, seqKey_fold, ↓ite_seqKey, ite_self, ↓chainLatch_seqKey, ↓pulseLatch_seqKey, ↓quadLatch_seqKey, each_seqKey]))
theorem acqReported_seqKey (s : Dev) :
    (s.acqReported).seqKey = s.seqKey := by
  unfold Dev.acqReported
  simp only [↓seqKey_mk, seqKey_fold]
theorem showTx_seqKey (s : Dev) (c : Nat) :
    (s.showTx c).seqKey = s.seqKey := by
  unfold Dev.showTx
  simp (disch := (intros; (try simp only [↓wrN_seqKey, ↓setFld_seqKey, ↓setBit_seqKey]) <;> (try (split <;> simp only [↓wrN_seqKey, ↓setFld_seqKey, ↓setBit_seqKey])))) only [↓wrN_seqKey, ↓setFld_seqKey, ↓setBit_seqKey, each_seqKey]
theorem ledger_seqKey (s : Dev) (c inn out drop : Nat) :
    (s.ledger c inn out drop).seqKey = s.seqKey := by
  unfold Dev.ledger
  simp only [↓cntWrap_seqKey]
theorem refill_seqKey (s : Dev) (c : Nat) :
    (s.refill c).seqKey = s.seqKey := by
  unfold Dev.refill
  first | (simp only [↓setCanc_seqKey, ↓seqKey_mk, seqKey_fold]; done) | ((try simp only [↓setCanc_seqKey, ↓seqKey_mk, seqKey_fold]) <;> (repeat' split) <;> (try simp only [↓setCanc_seqKey, ↓seqKey_mk, seqKey_fold]))
theorem replaced_seqKey (s : Dev) (c i : Nat) :
    (s.replaced c i).seqKey = s.seqKey := by
  unfold Dev.replaced
  simp only [↓cntSat_seqKey, ↓ev_seqKey, ↓ite_seqKey, ite_self]
theorem skipFrame_seqKey (s : Dev) (c i : Nat) :
    (s.skipFrame c i).seqKey = s.seqKey := by
  unfold Dev.skipFrame
  simp only [↓ev_seqKey, ↓seqKey_mk, seqKey_fold, ↓ite_seqKey, ite_self]
theorem unskip_seqKey (s : Dev) (c i : Nat) :
    (s.unskip c i).seqKey = s.seqKey := by
  unfold Dev.unskip
  simp only [↓seqKey_mk, seqKey_fold]
theorem enqueue_seqKey (s : Dev) (c : Nat) (t : CanTx) :
    (s.enqueue c t).seqKey = s.seqKey := by
  unfold Dev.enqueue
  first | (simp only [↓setCanc_seqKey, ↓seqKey_mk, seqKey_fold, ↓ite_seqKey, ite_self, ↓ledger_seqKey, ↓refill_seqKey, ↓replaced_seqKey, ↓showTx_seqKey, ↓unskip_seqKey]; done) | ((try simp only [↓setCanc_seqKey, ↓seqKey_mk, seqKey_fold, ↓ite_seqKey, ite_self, ↓ledger_seqKey, ↓refill_seqKey, ↓replaced_seqKey, ↓showTx_seqKey, ↓unskip_seqKey]) <;> (repeat' split) <;> (try simp only [↓setCanc_seqKey, ↓seqKey_mk, seqKey_fold, ↓ite_seqKey, ite_self, ↓ledger_seqKey, ↓refill_seqKey, ↓replaced_seqKey, ↓showTx_seqKey, ↓unskip_seqKey]))
theorem streamDue_seqKey (s : Dev) (i : Nat) :
    (s.streamDue i).seqKey = s.seqKey := by
  unfold Dev.streamDue
  simp only [↓setFld_seqKey, ↓cntSat_seqKey, ↓seqKey_mk, seqKey_fold, ↓ite_seqKey, ite_self, ↓enqueue_seqKey, ↓skipFrame_seqKey]
theorem streamsP3_seqKey (s : Dev) (n : Nat) :
    (s.streamsP3 n).seqKey = s.seqKey := by
  unfold Dev.streamsP3
  simp (disch := (intros; (try simp only [↓ite_seqKey, ite_self, ↓streamDue_seqKey]) <;> (try (split <;> simp only [↓ite_seqKey, ite_self, ↓streamDue_seqKey])))) only [↓ite_seqKey, ite_self, ↓streamDue_seqKey, each_seqKey]
theorem trefLoad_seqKey (s : Dev) (c : Nat) :
    (s.trefLoad c).seqKey = s.seqKey := by
  unfold Dev.trefLoad
  first | (simp only [↓setCanc_seqKey, ↓seqKey_mk, seqKey_fold, ↓ite_seqKey, ite_self, ↓ledger_seqKey, ↓showTx_seqKey, ↓skipFrame_seqKey, ↓unskip_seqKey]; done) | ((try simp only [↓setCanc_seqKey, ↓seqKey_mk, seqKey_fold, ↓ite_seqKey, ite_self, ↓ledger_seqKey, ↓showTx_seqKey, ↓skipFrame_seqKey, ↓unskip_seqKey]) <;> (repeat' split) <;> (try simp only [↓setCanc_seqKey, ↓seqKey_mk, seqKey_fold, ↓ite_seqKey, ite_self, ↓ledger_seqKey, ↓showTx_seqKey, ↓skipFrame_seqKey, ↓unskip_seqKey]))
theorem trefP3_seqKey (s : Dev) :
    (s.trefP3).seqKey = s.seqKey := by
  unfold Dev.trefP3
  simp (disch := (intros; (try simp only [↓trefLoad_seqKey]) <;> (try (split <;> simp only [↓trefLoad_seqKey])))) only [↓trefLoad_seqKey, each_seqKey]
theorem canP0_seqKey (s : Dev) :
    (s.canP0).seqKey = s.seqKey := by
  unfold Dev.canP0
  first | (simp (disch := (intros; (try simp only [↓wr_seqKey, ↓seqKey_mk, seqKey_fold, ↓ite_seqKey, ite_self]) <;> (repeat' split) <;> (try simp only [↓wr_seqKey, ↓seqKey_mk, seqKey_fold, ↓ite_seqKey, ite_self]))) only [↓wr_seqKey, ↓seqKey_mk, seqKey_fold, ↓ite_seqKey, ite_self, each_seqKey]; done) | ((try simp (disch := (intros; (try simp only [↓wr_seqKey, ↓seqKey_mk, seqKey_fold, ↓ite_seqKey, ite_self]) <;> (repeat' split) <;> (try simp only [↓wr_seqKey, ↓seqKey_mk, seqKey_fold, ↓ite_seqKey, ite_self]))) only [↓wr_seqKey, ↓seqKey_mk, seqKey_fold, ↓ite_seqKey, ite_self, each_seqKey]) <;> (repeat' split) <;> (try simp (disch := (intros; (try simp only [↓wr_seqKey, ↓seqKey_mk, seqKey_fold, ↓ite_seqKey, ite_self]) <;> (repeat' split) <;> (try simp only [↓wr_seqKey, ↓seqKey_mk, seqKey_fold, ↓ite_seqKey, ite_self]))) only [↓wr_seqKey, ↓seqKey_mk, seqKey_fold, ↓ite_seqKey, ite_self, each_seqKey]))
theorem setPort_seqKey (s : Dev) (b : Bool) (f : NetPort → NetPort) :
    (s.setPort b f).seqKey = s.seqKey := by
  unfold Dev.setPort
  simp only [↓seqKey_mk, seqKey_fold, ↓ite_seqKey, ite_self]
theorem portDown_seqKey (s : Dev) (b : Bool) :
    (s.portDown b).seqKey = s.seqKey := by
  unfold Dev.portDown
  simp only [↓setBit_seqKey, ↓raise_seqKey, ↓ev_seqKey, ↓seqKey_mk, seqKey_fold, ↓ite_seqKey, ite_self, ↓setPort_seqKey]
theorem egressPut_seqKey (s : Dev) (b : Bool) (t : NetTx) :
    (s.egressPut b t).seqKey = s.seqKey := by
  unfold Dev.egressPut
  simp only [↓cntSat_seqKey, ↓evW_seqKey, ↓seqKey_mk, seqKey_fold, ↓ite_seqKey, ite_self, ↓setPort_seqKey]
theorem egress_seqKey (s : Dev) (b : Bool) (residence : Rat) :
    (s.egress b residence).seqKey = s.seqKey := by
  unfold Dev.egress
  first | (simp only [↓cntWrap_seqKey, ↓spend_seqKey, ↓seqKey_mk, seqKey_fold, ↓ite_seqKey, ite_self, ↓setPort_seqKey]; done) | ((try simp only [↓cntWrap_seqKey, ↓spend_seqKey, ↓seqKey_mk, seqKey_fold, ↓ite_seqKey, ite_self, ↓setPort_seqKey]) <;> (repeat' split) <;> (try simp only [↓cntWrap_seqKey, ↓spend_seqKey, ↓seqKey_mk, seqKey_fold, ↓ite_seqKey, ite_self, ↓setPort_seqKey]))
theorem originate_seqKey (s : Dev) (dst : BitVec 48) (etype : BitVec 16) (ctrl : Bool) (udp : Nat) (ip : Word) (payload : List Byte) :
    (s.originate dst etype ctrl udp ip payload).seqKey = s.seqKey := by
  unfold Dev.originate
  simp only [↓seqKey_mk, seqKey_fold, ↓ite_seqKey, ite_self, ↓egressPut_seqKey]
theorem sendBrf_seqKey (s : Dev) (kind : Nat) (fields : List Byte) :
    (s.sendBrf kind fields).seqKey = s.seqKey := by
  unfold Dev.sendBrf
  simp only [↓ite_seqKey, ite_self, ↓originate_seqKey]
theorem retrain_seqKey (s : Dev) :
    (s.retrain).seqKey = s.seqKey := by
  unfold Dev.retrain
  simp only [↓seqKey_mk, seqKey_fold, ↓portDown_seqKey]
theorem showGm_seqKey (s : Dev) :
    (s.showGm).seqKey = s.seqKey := by
  unfold Dev.showGm
  first | (simp only [↓wrN_seqKey, ↓ev_seqKey, ↓seqKey_mk, seqKey_fold, ↓ite_seqKey, ite_self]; done) | ((try simp only [↓wrN_seqKey, ↓ev_seqKey, ↓seqKey_mk, seqKey_fold, ↓ite_seqKey, ite_self]) <;> (repeat' split) <;> (try simp only [↓wrN_seqKey, ↓ev_seqKey, ↓seqKey_mk, seqKey_fold, ↓ite_seqKey, ite_self]))
theorem showSlave_seqKey (s : Dev) :
    (s.showSlave).seqKey = s.seqKey := by
  unfold Dev.showSlave
  simp only [↓setBit_seqKey]
theorem ptpBound_seqKey (s : Dev) :
    (s.ptpBound).seqKey = s.seqKey := by
  unfold Dev.ptpBound
  first | (simp only [↓wrN_seqKey, ↓seqKey_mk, seqKey_fold]; done) | ((try simp only [↓wrN_seqKey, ↓seqKey_mk, seqKey_fold]) <;> (repeat' split) <;> (try simp only [↓wrN_seqKey, ↓seqKey_mk, seqKey_fold]))
theorem latchTime_seqKey (s : Dev) :
    (s.latchTime).seqKey = s.seqKey := by
  unfold Dev.latchTime
  simp only [↓seqKey_mk, seqKey_fold, ↓ite_seqKey, ite_self]
theorem netBoundary_seqKey (s : Dev) :
    (s.netBoundary).seqKey = s.seqKey := by
  unfold Dev.netBoundary
  simp only [↓seqKey_mk, seqKey_fold, ↓ite_seqKey, ite_self, ↓latchTime_seqKey, ↓ptpBound_seqKey, ↓retrain_seqKey, ↓showGm_seqKey, ↓showSlave_seqKey, ↓showTime_seqKey]
theorem setIn_seqKey (s : Dev) (i : Nat) (f : SafeInp → SafeInp) :
    (s.setIn i f).seqKey = s.seqKey := by
  unfold Dev.setIn
  simp only [↓seqKey_mk, seqKey_fold]
theorem setOut_seqKey (s : Dev) (k : Nat) (f : SafeOut → SafeOut) :
    (s.setOut k f).seqKey = s.seqKey := by
  unfold Dev.setOut
  simp only [↓seqKey_mk, seqKey_fold]
theorem copyLatches_seqKey (s : Dev) :
    (s.copyLatches).seqKey = s.seqKey := by
  unfold Dev.copyLatches
  simp only [↓seqKey_mk, seqKey_fold, ↓ite_seqKey, ite_self]
theorem settle_seqKey (s : Dev) :
    (s.settle).seqKey = s.seqKey := by
  unfold Dev.settle
  simp only [↓wrN_seqKey, ↓setBit_seqKey, ↓copyLatches_seqKey]
theorem giveStart_seqKey (s : Dev) (i : Nat) :
    (s.giveStart i).seqKey = s.seqKey := by
  unfold Dev.giveStart
  simp (disch := (intros; (try simp only [↓seqKey_mk, seqKey_fold, ↓ite_seqKey, ite_self, ↓setOut_seqKey]) <;> (try (split <;> simp only [↓seqKey_mk, seqKey_fold, ↓ite_seqKey, ite_self, ↓setOut_seqKey])))) only [↓seqKey_mk, seqKey_fold, ↓ite_seqKey, ite_self, ↓setOut_seqKey, each_seqKey]
theorem released_seqKey (s : Dev) (i h : Nat) :
    (s.released i h).seqKey = s.seqKey := by
  unfold Dev.released
  simp only [↓seqKey_mk, seqKey_fold, ↓ite_seqKey, ite_self, ↓giveStart_seqKey, ↓setIn_seqKey]
theorem setHolds_seqKey (s : Dev) (h : Bool) :
    (s.setHolds h).seqKey = s.seqKey := by
  unfold Dev.setHolds
  simp only [↓setBit_seqKey, ↓raise_seqKey, ↓seqKey_mk, seqKey_fold, ↓ite_seqKey, ite_self]
theorem selfRule_seqKey (s : Dev) :
    (s.selfRule).seqKey = s.seqKey := by
  unfold Dev.selfRule
  simp only [↓seqKey_mk, seqKey_fold, ↓ite_seqKey, ite_self, ↓setHolds_seqKey]
theorem countPeer_seqKey (s : Dev) (r : Nat) (hb : Option Word) :
    (s.countPeer r hb).seqKey = s.seqKey := by
  unfold Dev.countPeer
  first | (simp only [↓wr_seqKey, ↓setFld_seqKey, ↓cntSat_seqKey, ↓seqKey_mk, seqKey_fold, ↓ite_seqKey, ite_self]; done) | ((try simp only [↓wr_seqKey, ↓setFld_seqKey, ↓cntSat_seqKey, ↓seqKey_mk, seqKey_fold, ↓ite_seqKey, ite_self]) <;> (repeat' split) <;> (try simp only [↓wr_seqKey, ↓setFld_seqKey, ↓cntSat_seqKey, ↓seqKey_mk, seqKey_fold, ↓ite_seqKey, ite_self]))
theorem transfer_seqKey (s : Dev) (second : Bool) (reason : Nat) :
    (s.transfer second reason).seqKey = s.seqKey := by
  unfold Dev.transfer
  simp only [↓setFld_seqKey, ↓setBit_seqKey, ↓raise_seqKey, ↓ev_seqKey, ↓seqKey_mk, seqKey_fold]
theorem showSwapLeft_seqKey (s : Dev) :
    (s.showSwapLeft).seqKey = s.seqKey := by
  unfold Dev.showSwapLeft
  simp only [↓wrN_seqKey, ↓ite_seqKey, ite_self]
theorem wardenDecision_seqKey (s : Dev) :
    (s.wardenDecision).seqKey = s.seqKey := by
  unfold Dev.wardenDecision
  first | (simp only [↓ev_seqKey, ↓seqKey_mk, seqKey_fold, ↓ite_seqKey, ite_self, ↓transfer_seqKey]; done) | ((try simp only [↓ev_seqKey, ↓seqKey_mk, seqKey_fold, ↓ite_seqKey, ite_self, ↓transfer_seqKey]) <;> (repeat' split) <;> (try simp only [↓ev_seqKey, ↓seqKey_mk, seqKey_fold, ↓ite_seqKey, ite_self, ↓transfer_seqKey]))
theorem standTick2_seqKey (s : Dev) :
    (s.standTick2).seqKey = s.seqKey := by
  unfold Dev.standTick2
  simp only [↓wrN_seqKey, ↓setFld_seqKey, ↓cntSat_seqKey, ↓seqKey_mk, seqKey_fold, ↓ite_seqKey, ite_self, ↓countPeer_seqKey, ↓selfRule_seqKey, ↓showSwapLeft_seqKey, ↓wardenDecision_seqKey]
theorem takeFrame_seqKey (s : Dev) :
    (s.takeFrame).seqKey = s.seqKey := by
  unfold Dev.takeFrame
  first | (simp only [↓wrN_seqKey, ↓setFld_seqKey, ↓setBit_seqKey, ↓ev_seqKey, ↓seqKey_mk, seqKey_fold, ↓ite_seqKey, ite_self]; done) | ((try simp only [↓wrN_seqKey, ↓setFld_seqKey, ↓setBit_seqKey, ↓ev_seqKey, ↓seqKey_mk, seqKey_fold, ↓ite_seqKey, ite_self]) <;> (repeat' split) <;> (try simp only [↓wrN_seqKey, ↓setFld_seqKey, ↓setBit_seqKey, ↓ev_seqKey, ↓seqKey_mk, seqKey_fold, ↓ite_seqKey, ite_self]))
theorem applyFrame_seqKey (s : Dev) :
    (s.applyFrame).seqKey = s.seqKey := by
  unfold Dev.applyFrame
  first | (simp only [↓setFld_seqKey, ↓setBit_seqKey, ↓raise_seqKey, ↓seqKey_mk, seqKey_fold, ↓ite_seqKey, ite_self, ↓setHolds_seqKey]; done) | ((try simp only [↓setFld_seqKey, ↓setBit_seqKey, ↓raise_seqKey, ↓seqKey_mk, seqKey_fold, ↓ite_seqKey, ite_self, ↓setHolds_seqKey]) <;> (repeat' split) <;> (try simp only [↓setFld_seqKey, ↓setBit_seqKey, ↓raise_seqKey, ↓seqKey_mk, seqKey_fold, ↓ite_seqKey, ite_self, ↓setHolds_seqKey]))
theorem standingCan_seqKey (s : Dev) :
    (s.standingCan).seqKey = s.seqKey := by
  unfold Dev.standingCan
  simp (disch := (intros; (try simp only [↓seqKey_mk, seqKey_fold, ↓ite_seqKey, ite_self, ↓enqueue_seqKey, ↓skipFrame_seqKey]) <;> (try (split <;> simp only [↓seqKey_mk, seqKey_fold, ↓ite_seqKey, ite_self, ↓enqueue_seqKey, ↓skipFrame_seqKey])))) only [↓seqKey_mk, seqKey_fold, ↓ite_seqKey, ite_self, ↓enqueue_seqKey, ↓skipFrame_seqKey, each_seqKey]
theorem standSend_seqKey (s : Dev) :
    (s.standSend).seqKey = s.seqKey := by
  unfold Dev.standSend
  simp only [↓cntWrap_seqKey, ↓ite_seqKey, ite_self, ↓sendBrf_seqKey, ↓standingCan_seqKey]
theorem standTick78_seqKey (s : Dev) :
    (s.standTick78).seqKey = s.seqKey := by
  unfold Dev.standTick78
  simp (disch := (intros; (try simp only [↓seqKey_mk, seqKey_fold, ↓ite_seqKey, ite_self, ↓sendBrf_seqKey]) <;> (try (split <;> simp only [↓seqKey_mk, seqKey_fold, ↓ite_seqKey, ite_self, ↓sendBrf_seqKey])))) only [↓seqKey_mk, seqKey_fold, ↓ite_seqKey, ite_self, ↓sendBrf_seqKey, each_seqKey]
theorem loadThr_seqKey (s : Dev) (e : List Byte) :
    (s.loadThr e).seqKey = s.seqKey := by
  unfold Dev.loadThr
  simp only [↓setBit_seqKey, ↓seqKey_mk, seqKey_fold, ↓ite_seqKey, ite_self]
theorem divergence_seqKey (s : Dev) (es : List (List Byte)) :
    (s.divergence es).seqKey = s.seqKey := by
  unfold Dev.divergence
  first | (simp only [↓setBit_seqKey, ↓ev_seqKey, ↓seqKey_mk, seqKey_fold, ↓ite_seqKey, ite_self]; done) | ((try simp only [↓setBit_seqKey, ↓ev_seqKey, ↓seqKey_mk, seqKey_fold, ↓ite_seqKey, ite_self]) <;> (repeat' split) <;> (try simp only [↓setBit_seqKey, ↓ev_seqKey, ↓seqKey_mk, seqKey_fold, ↓ite_seqKey, ite_self]))
theorem loadSet_seqKey (s : Dev) (set : Nat) (ps : List SetPart) :
    (s.loadSet set ps).seqKey = s.seqKey := by
  unfold Dev.loadSet
  simp (disch := (intros; simp (disch := (intros; (try simp only [↓setBit_seqKey, ↓cntWrap_seqKey, ↓setGen_seqKey, ↓seqKey_mk, seqKey_fold, ↓divergence_seqKey, ↓loadThr_seqKey]) <;> (try (split <;> simp only [↓setBit_seqKey, ↓cntWrap_seqKey, ↓setGen_seqKey, ↓seqKey_mk, seqKey_fold, ↓divergence_seqKey, ↓loadThr_seqKey])))) only [↓setBit_seqKey, ↓cntWrap_seqKey, ↓setGen_seqKey, ↓seqKey_mk, seqKey_fold, ↓divergence_seqKey, ↓loadThr_seqKey, each_seqKey])) only [↓setBit_seqKey, ↓cntWrap_seqKey, ↓setGen_seqKey, ↓seqKey_mk, seqKey_fold, ↓divergence_seqKey, ↓loadThr_seqKey, each_seqKey]
theorem standTick79_seqKey (s : Dev) :
    (s.standTick79).seqKey = s.seqKey := by
  unfold Dev.standTick79
  first | (simp (disch := (intros; (try simp only [↓cntSat_seqKey, ↓ev_seqKey, ↓seqKey_mk, seqKey_fold, ↓ite_seqKey, ite_self, ↓loadSet_seqKey]) <;> (repeat' split) <;> (try simp only [↓cntSat_seqKey, ↓ev_seqKey, ↓seqKey_mk, seqKey_fold, ↓ite_seqKey, ite_self, ↓loadSet_seqKey]))) only [↓cntSat_seqKey, ↓ev_seqKey, ↓seqKey_mk, seqKey_fold, ↓ite_seqKey, ite_self, ↓loadSet_seqKey, each_seqKey]; done) | ((try simp (disch := (intros; (try simp only [↓cntSat_seqKey, ↓ev_seqKey, ↓seqKey_mk, seqKey_fold, ↓ite_seqKey, ite_self, ↓loadSet_seqKey]) <;> (repeat' split) <;> (try simp only [↓cntSat_seqKey, ↓ev_seqKey, ↓seqKey_mk, seqKey_fold, ↓ite_seqKey, ite_self, ↓loadSet_seqKey]))) only [↓cntSat_seqKey, ↓ev_seqKey, ↓seqKey_mk, seqKey_fold, ↓ite_seqKey, ite_self, ↓loadSet_seqKey, each_seqKey]) <;> (repeat' split) <;> (try simp (disch := (intros; (try simp only [↓cntSat_seqKey, ↓ev_seqKey, ↓seqKey_mk, seqKey_fold, ↓ite_seqKey, ite_self, ↓loadSet_seqKey]) <;> (repeat' split) <;> (try simp only [↓cntSat_seqKey, ↓ev_seqKey, ↓seqKey_mk, seqKey_fold, ↓ite_seqKey, ite_self, ↓loadSet_seqKey]))) only [↓cntSat_seqKey, ↓ev_seqKey, ↓seqKey_mk, seqKey_fold, ↓ite_seqKey, ite_self, ↓loadSet_seqKey, each_seqKey]))
theorem loadCtxs_seqKey (s : Dev) :
    (s.loadCtxs).seqKey = s.seqKey := by
  unfold Dev.loadCtxs
  simp (disch := (intros; (try simp only [↓wr_seqKey, ↓setLctx_seqKey, ↓seqKey_mk, seqKey_fold, ↓ite_seqKey, ite_self]) <;> (try (split <;> simp only [↓wr_seqKey, ↓setLctx_seqKey, ↓seqKey_mk, seqKey_fold, ↓ite_seqKey, ite_self])))) only [↓wr_seqKey, ↓setLctx_seqKey, ↓seqKey_mk, seqKey_fold, ↓ite_seqKey, ite_self, each_seqKey]
theorem standP0_seqKey (s : Dev) (n : Nat) :
    (s.standP0 n).seqKey = s.seqKey := by
  unfold Dev.standP0
  simp only [↓ite_seqKey, ite_self, ↓standTick2_seqKey, ↓standTick79_seqKey]
theorem showPts_seqKey (s : Dev) :
    (s.showPts).seqKey = s.seqKey := by
  unfold Dev.showPts
  simp only [↓setFld_seqKey, ↓setBit_seqKey, ↓seqKey_mk, seqKey_fold, ↓ite_seqKey, ite_self]
theorem setPt_seqKey (s : Dev) (x : ThktPt) :
    (s.setPt x).seqKey = s.seqKey := by
  unfold Dev.setPt
  simp only [↓seqKey_mk, seqKey_fold, ↓showPts_seqKey]
theorem freePoint_seqKey (s : Dev) (n : Nat) :
    (s.freePoint n).seqKey = s.seqKey := by
  unfold Dev.freePoint
  simp only [↓seqKey_mk, seqKey_fold, ↓showPts_seqKey]
theorem showQueue_seqKey (s : Dev) :
    (s.showQueue).seqKey = s.seqKey := by
  unfold Dev.showQueue
  simp only [↓wrN_seqKey, ↓setFld_seqKey]
theorem thktPosition_seqKey (s : Dev) :
    (s.thktPosition).seqKey = s.seqKey := by
  unfold Dev.thktPosition
  first | (simp only [↓seqKey_mk, seqKey_fold, ↓ite_seqKey, ite_self]; done) | ((try simp only [↓seqKey_mk, seqKey_fold, ↓ite_seqKey, ite_self]) <;> (repeat' split) <;> (try simp only [↓seqKey_mk, seqKey_fold, ↓ite_seqKey, ite_self]))
theorem formRecord_seqKey (s : Dev) (r : RecIn) :
    (s.formRecord r).seqKey = s.seqKey := by
  unfold Dev.formRecord
  simp only [↓wrN_seqKey, ↓cntWrap_seqKey, ↓ev_seqKey, ↓seqKey_mk, seqKey_fold, ↓ite_seqKey, ite_self, ↓showQueue_seqKey]
theorem refuseEntry_seqKey (s : Dev) (gw code : Nat) :
    (s.refuseEntry gw code).seqKey = s.seqKey := by
  unfold Dev.refuseEntry
  simp only [↓cntSat_seqKey, ↓ev_seqKey, ↓ite_seqKey, ite_self]
theorem collect_seqKey (s : Dev) (kind gw old new : Nat) (x : ThktPt) (ns : Option Int) :
    (s.collect kind gw old new x ns).seqKey = s.seqKey := by
  unfold Dev.collect
  simp only [↓seqKey_mk, seqKey_fold]
theorem silenceOf_seqKey (s : Dev) (now : Int) (gh : Nat × Int) :
    (s.silenceOf now gh).seqKey = s.seqKey := by
  unfold Dev.silenceOf
  simp (disch := (intros; (try simp only [↓setBit_seqKey, ↓raise_seqKey, ↓ev_seqKey, ↓seqKey_mk, seqKey_fold, ↓ite_seqKey, ite_self, ↓collect_seqKey, ↓setPt_seqKey]) <;> (try (split <;> simp only [↓setBit_seqKey, ↓raise_seqKey, ↓ev_seqKey, ↓seqKey_mk, seqKey_fold, ↓ite_seqKey, ite_self, ↓collect_seqKey, ↓setPt_seqKey])))) only [↓setBit_seqKey, ↓raise_seqKey, ↓ev_seqKey, ↓seqKey_mk, seqKey_fold, ↓ite_seqKey, ite_self, ↓collect_seqKey, ↓setPt_seqKey, each_seqKey]
theorem silence_seqKey (s : Dev) (now : Int) :
    (s.silence now).seqKey = s.seqKey := by
  unfold Dev.silence
  simp (disch := (intros; (try simp only [↓silenceOf_seqKey]) <;> (try (split <;> simp only [↓silenceOf_seqKey])))) only [↓silenceOf_seqKey, each_seqKey]
theorem takeRelease_seqKey (s : Dev) (now : Int) (n : Nat) :
    (s.takeRelease now n).seqKey = s.seqKey := by
  unfold Dev.takeRelease
  first | (simp only [↓wrN_seqKey, ↓ev_seqKey, ↓seqKey_mk, seqKey_fold, ↓ite_seqKey, ite_self, ↓formRecord_seqKey, ↓freePoint_seqKey, ↓refuseEntry_seqKey]; done) | ((try simp only [↓wrN_seqKey, ↓ev_seqKey, ↓seqKey_mk, seqKey_fold, ↓ite_seqKey, ite_self, ↓formRecord_seqKey, ↓freePoint_seqKey, ↓refuseEntry_seqKey]) <;> (repeat' split) <;> (try simp only [↓wrN_seqKey, ↓ev_seqKey, ↓seqKey_mk, seqKey_fold, ↓ite_seqKey, ite_self, ↓formRecord_seqKey, ↓freePoint_seqKey, ↓refuseEntry_seqKey]))
theorem takeReleases_seqKey (s : Dev) (now : Int) :
    (s.takeReleases now).seqKey = s.seqKey := by
  unfold Dev.takeReleases
  simp (disch := (intros; (try simp only [↓seqKey_mk, seqKey_fold, ↓takeRelease_seqKey]) <;> (try (split <;> simp only [↓seqKey_mk, seqKey_fold, ↓takeRelease_seqKey])))) only [↓seqKey_mk, seqKey_fold, ↓takeRelease_seqKey, each_seqKey]
theorem takeCorrupt_seqKey (s : Dev) (now : Int) :
    (s.takeCorrupt now).seqKey = s.seqKey := by
  unfold Dev.takeCorrupt
  simp (disch := (intros; (try simp only [↓seqKey_mk, seqKey_fold, ↓ite_seqKey, ite_self, ↓formRecord_seqKey]) <;> (try (split <;> simp only [↓seqKey_mk, seqKey_fold, ↓ite_seqKey, ite_self, ↓formRecord_seqKey])))) only [↓seqKey_mk, seqKey_fold, ↓ite_seqKey, ite_self, ↓formRecord_seqKey, each_seqKey]
theorem formGroup_seqKey (s : Dev) (now : Int) (xs : List ThktItem) :
    (s.formGroup now xs).seqKey = s.seqKey := by
  unfold Dev.formGroup
  first | (simp only [↓seqKey_mk, seqKey_fold, ↓ite_seqKey, ite_self, ↓formRecord_seqKey]; done) | ((try simp only [↓seqKey_mk, seqKey_fold, ↓ite_seqKey, ite_self, ↓formRecord_seqKey]) <;> (repeat' split) <;> (try simp only [↓seqKey_mk, seqKey_fold, ↓ite_seqKey, ite_self, ↓formRecord_seqKey]))
theorem formSingle_seqKey (s : Dev) (now : Int) (x : ThktItem) :
    (s.formSingle now x).seqKey = s.seqKey := by
  unfold Dev.formSingle
  simp only [↓seqKey_mk, seqKey_fold, ↓ite_seqKey, ite_self, ↓formRecord_seqKey]
theorem closeRecords_seqKey (s : Dev) (now : Int) :
    (s.closeRecords now).seqKey = s.seqKey := by
  unfold Dev.closeRecords
  simp (disch := (intros; simp (disch := (intros; (try simp only [↓seqKey_mk, seqKey_fold, ↓formGroup_seqKey, ↓formSingle_seqKey, ↓takeCorrupt_seqKey, ↓takeReleases_seqKey]) <;> (try (split <;> simp only [↓seqKey_mk, seqKey_fold, ↓formGroup_seqKey, ↓formSingle_seqKey, ↓takeCorrupt_seqKey, ↓takeReleases_seqKey])))) only [↓seqKey_mk, seqKey_fold, ↓formGroup_seqKey, ↓formSingle_seqKey, ↓takeCorrupt_seqKey, ↓takeReleases_seqKey, each_seqKey])) only [↓seqKey_mk, seqKey_fold, ↓formGroup_seqKey, ↓formSingle_seqKey, ↓takeCorrupt_seqKey, ↓takeReleases_seqKey, each_seqKey]
theorem thktBoundary_seqKey (s : Dev) :
    (s.thktBoundary).seqKey = s.seqKey := by
  unfold Dev.thktBoundary
  simp only [↓ite_seqKey, ite_self, ↓closeRecords_seqKey, ↓silence_seqKey, ↓thktPosition_seqKey]
theorem logReports_seqKey (s : Dev) :
    (s.logReports).seqKey = s.seqKey := by
  unfold Dev.logReports
  simp (disch := (intros; (try simp only [↓seqKey_mk, seqKey_fold, ↓reportRouted_seqKey]) <;> (try (split <;> simp only [↓seqKey_mk, seqKey_fold, ↓reportRouted_seqKey])))) only [↓seqKey_mk, seqKey_fold, ↓reportRouted_seqKey, each_seqKey]
theorem gladeSecond_seqKey (s : Dev) :
    (s.gladeSecond).seqKey = s.seqKey := by
  unfold Dev.gladeSecond
  simp (disch := (intros; (try simp only [↓setFld_seqKey, ↓cntWrap_seqKey, ↓ite_seqKey, ite_self]) <;> (try (split <;> simp only [↓setFld_seqKey, ↓cntWrap_seqKey, ↓ite_seqKey, ite_self])))) only [↓setFld_seqKey, ↓cntWrap_seqKey, ↓ite_seqKey, ite_self, each_seqKey]
theorem ringStops_seqKey (s : Dev) :
    (s.ringStops).seqKey = s.seqKey := by
  unfold Dev.ringStops
  simp (disch := (intros; (try simp only [↓setBit_seqKey, ↓seqKey_mk, seqKey_fold, ↓ite_seqKey, ite_self, ↓setPair_seqKey]) <;> (try (split <;> simp only [↓setBit_seqKey, ↓seqKey_mk, seqKey_fold, ↓ite_seqKey, ite_self, ↓setPair_seqKey])))) only [↓setBit_seqKey, ↓seqKey_mk, seqKey_fold, ↓ite_seqKey, ite_self, ↓setPair_seqKey, each_seqKey]
theorem hostFetch_seqKey (s : Dev) :
    (s.hostFetch).seqKey = s.seqKey := by
  unfold Dev.hostFetch
  simp (disch := (intros; (try simp only [↓seqKey_mk, seqKey_fold, ↓ite_seqKey, ite_self, ↓setPair_seqKey]) <;> (try (split <;> simp only [↓seqKey_mk, seqKey_fold, ↓ite_seqKey, ite_self, ↓setPair_seqKey])))) only [↓seqKey_mk, seqKey_fold, ↓ite_seqKey, ite_self, ↓setPair_seqKey, each_seqKey]
theorem cycleReport_seqKey (s : Dev) :
    (s.cycleReport).seqKey = s.seqKey := by
  unfold Dev.cycleReport
  simp only [↓ite_seqKey, ite_self, ↓acqReported_seqKey, ↓reportRouted_seqKey]
theorem groveRecords_seqKey (s : Dev) :
    (s.groveRecords).seqKey = s.seqKey := by
  unfold Dev.groveRecords
  simp (disch := (intros; (try simp only [↓seqKey_mk, seqKey_fold, ↓report_seqKey]) <;> (try (split <;> simp only [↓seqKey_mk, seqKey_fold, ↓report_seqKey])))) only [↓seqKey_mk, seqKey_fold, ↓report_seqKey, each_seqKey]
theorem snapshot_seqKey (s : Dev) :
    (s.snapshot).seqKey = s.seqKey := by
  unfold Dev.snapshot
  simp (disch := (intros; simp (disch := (intros; (try simp only [↓wr_seqKey, ↓wrN_seqKey, ↓ite_seqKey, ite_self]) <;> (try (split <;> simp only [↓wr_seqKey, ↓wrN_seqKey, ↓ite_seqKey, ite_self])))) only [↓wr_seqKey, ↓wrN_seqKey, ↓ite_seqKey, ite_self, each_seqKey])) only [↓wr_seqKey, ↓wrN_seqKey, ↓ite_seqKey, ite_self, each_seqKey]
theorem hostP4_seqKey (s : Dev) (n : Nat) :
    (s.hostP4 n).seqKey = s.seqKey := by
  unfold Dev.hostP4
  simp only [↓ite_seqKey, ite_self, ↓cycleReport_seqKey, ↓groveRecords_seqKey, ↓hostFetch_seqKey, ↓logReports_seqKey, ↓reportRouted_seqKey, ↓snapshot_seqKey]
theorem rstLast_seqKey (s : Dev) (r : RstRun) :
    (s.rstLast r).seqKey = s.seqKey := by
  unfold Dev.rstLast
  simp only [↓wrN_seqKey]
theorem rstSource_seqKey (s : Dev) (bits src kind bo : Nat) :
    (s.rstSource bits src kind bo).seqKey = s.seqKey := by
  unfold Dev.rstSource
  first | (simp only [↓orMask_seqKey, ↓seqKey_mk, seqKey_fold, ↓ite_seqKey, ite_self, ↓rstLast_seqKey]; done) | ((try simp only [↓orMask_seqKey, ↓seqKey_mk, seqKey_fold, ↓ite_seqKey, ite_self, ↓rstLast_seqKey]) <;> (repeat' split) <;> (try simp only [↓orMask_seqKey, ↓seqKey_mk, seqKey_fold, ↓ite_seqKey, ite_self, ↓rstLast_seqKey]))
theorem criticalError_seqKey (s : Dev) (src addr : Nat) :
    (s.criticalError src addr).seqKey = s.seqKey := by
  unfold Dev.criticalError
  simp only [↓wrN_seqKey, ↓rstSource_seqKey]
theorem showAlign_seqKey (s : Dev) (free aligned : Bool) :
    (s.showAlign free aligned).seqKey = s.seqKey := by
  unfold Dev.showAlign
  simp only [↓setBit_seqKey]
theorem showTick_seqKey (s : Dev) (n : Nat) (slewing : Bool) :
    (s.showTick n slewing).seqKey = s.seqKey := by
  unfold Dev.showTick
  simp only [↓setFld_seqKey, ↓setBit_seqKey]
theorem showLoad_seqKey (s : Dev) (p1 p2 : Nat) :
    (s.showLoad p1 p2).seqKey = s.seqKey := by
  unfold Dev.showLoad
  simp only [↓setFld_seqKey]
theorem showRun_seqKey (s : Dev) :
    (s.showRun).seqKey = s.seqKey := by
  unfold Dev.showRun
  simp only [↓setFld_seqKey]
theorem enterMode_seqKey (s : Dev) (new : Nat) :
    (s.enterMode new).seqKey = s.seqKey := by
  unfold Dev.enterMode
  first | (simp only [↓seqKey_mk, seqKey_fold, ↓allocArming_seqKey, ↓allocOperate_seqKey, ↓allocWatch_seqKey, ↓axesEnter_seqKey, ↓loopEnter_seqKey, ↓loopLeave_seqKey]; done) | ((try simp only [↓seqKey_mk, seqKey_fold, ↓allocArming_seqKey, ↓allocOperate_seqKey, ↓allocWatch_seqKey, ↓axesEnter_seqKey, ↓loopEnter_seqKey, ↓loopLeave_seqKey]) <;> (repeat' split) <;> (try simp only [↓seqKey_mk, seqKey_fold, ↓allocArming_seqKey, ↓allocOperate_seqKey, ↓allocWatch_seqKey, ↓axesEnter_seqKey, ↓loopEnter_seqKey, ↓loopLeave_seqKey]))
theorem enginesAtBoundary_seqKey (s : Dev) (i : BoundaryIn) :
    (s.enginesAtBoundary i).seqKey = s.seqKey := by
  unfold Dev.enginesAtBoundary
  simp (disch := (intros; (try simp only [↓assignGroups_seqKey, ↓epoch_seqKey, ↓estBoundary_seqKey, ↓holdBound_seqKey, ↓laneCorr_seqKey, ↓moveRoles_seqKey, ↓netBoundary_seqKey, ↓selectBoundary_seqKey, ↓thktBoundary_seqKey]) <;> (try (split <;> simp only [↓assignGroups_seqKey, ↓epoch_seqKey, ↓estBoundary_seqKey, ↓holdBound_seqKey, ↓laneCorr_seqKey, ↓moveRoles_seqKey, ↓netBoundary_seqKey, ↓selectBoundary_seqKey, ↓thktBoundary_seqKey])))) only [↓assignGroups_seqKey, ↓epoch_seqKey, ↓estBoundary_seqKey, ↓holdBound_seqKey, ↓laneCorr_seqKey, ↓moveRoles_seqKey, ↓netBoundary_seqKey, ↓selectBoundary_seqKey, ↓thktBoundary_seqKey, each_seqKey]
theorem ageOutputs_seqKey (s : Dev) :
    (s.ageOutputs).seqKey = s.seqKey := by
  unfold Dev.ageOutputs
  simp only [↓seqKey_mk, seqKey_fold]
theorem ageDeadlines_seqKey (s : Dev) :
    (s.ageDeadlines).seqKey = s.seqKey := by
  unfold Dev.ageDeadlines
  simp only [↓seqKey_mk, seqKey_fold, ↓ite_seqKey, ite_self]
theorem inputLatch_seqKey (s : Dev) :
    (s.inputLatch).seqKey = s.seqKey := by
  unfold Dev.inputLatch
  simp only [↓acqP0_seqKey, ↓ageDeadlines_seqKey, ↓ageOutputs_seqKey, ↓canP0_seqKey, ↓profP0_seqKey, ↓ringStops_seqKey, ↓takeFrame_seqKey]
theorem tickP0_seqKey (s : Dev) (n : Nat) :
    (s.tickP0 n).seqKey = s.seqKey := by
  unfold Dev.tickP0
  simp only [↓inputLatch_seqKey, ↓standP0_seqKey]
theorem slotsBefore_seqKey (s : Dev) (i : TickIn) (n : Nat) :
    (s.slotsBefore i n).seqKey = s.seqKey := by
  unfold Dev.slotsBefore
  first | (simp only [↓seqKey_mk, seqKey_fold, ↓allocApply_seqKey, ↓allocPose_seqKey, ↓allocReport_seqKey, ↓bundleEnd_seqKey, ↓bundleStart_seqKey, ↓estForm_seqKey, ↓estUpdate_seqKey]; done) | ((try simp only [↓seqKey_mk, seqKey_fold, ↓allocApply_seqKey, ↓allocPose_seqKey, ↓allocReport_seqKey, ↓bundleEnd_seqKey, ↓bundleStart_seqKey, ↓estForm_seqKey, ↓estUpdate_seqKey]) <;> (repeat' split) <;> (try simp only [↓seqKey_mk, seqKey_fold, ↓allocApply_seqKey, ↓allocPose_seqKey, ↓allocReport_seqKey, ↓bundleEnd_seqKey, ↓bundleStart_seqKey, ↓estForm_seqKey, ↓estUpdate_seqKey]))
theorem tickLoops_seqKey (s : Dev) (i : TickIn) (n : Nat) :
    (s.tickLoops i n).seqKey = s.seqKey := by
  unfold Dev.tickLoops
  simp only [↓ite_seqKey, ite_self, ↓allocDemand_seqKey, ↓loadCtxs_seqKey, ↓loopP2_seqKey, ↓profP1_seqKey, ↓showLoad_seqKey, ↓showRun_seqKey, ↓standTick78_seqKey]
theorem tickP3_seqKey (s : Dev) (n : Nat) :
    (s.tickP3 n).seqKey = s.seqKey := by
  unfold Dev.tickP3
  simp only [↓ite_seqKey, ite_self, ↓applyFrame_seqKey, ↓standSend_seqKey, ↓streamsP3_seqKey, ↓trefP3_seqKey]

end Sys2Proof.Machine
end

