-- ==== Sys2Proof/Tests/Slice0.lean ====
section
/-! SUPPORT. Tests of the model: the checks of well-formedness, and for each statement with hypotheses states that meet them, with
what one step makes of them. Expected values come from the rules that the statements cite. -/

namespace Sys2Proof.Tests

set_option Elab.async false

open Sys2Proof.Machine

/-- The reset state with a change of the device. -/
def w (f : Dev → Dev) : State := { State.reset with toDev := f State.reset.toDev }

/-- The state after a command. -/
def run (c : Instr) (s : State) : State :=
  match exec c s with
  | .next t => t
  | _ => s

/-- Codes of the events raised. -/
def codes (s : State) : List Nat := s.log.raised.map EvRec.code

/-- Parameters of the events raised. -/
def params (s : State) : List (Nat × Nat) := s.log.raised.map fun e => (e.p1.toNat, e.p2.toNat)

/-- The lengths that Shaped asks for. -/
def shaped (s : State) : Bool :=
  s.loop.ctx.length == 128 && s.prof.gen.length == 131 && s.est.refs.length == 7 && s.est.gyro.length == 3
    && s.est.mru.length == 2 && s.est.wind.length == 2 && s.grove.lane.length == 32 && s.gnss.chan.length == 192
    && s.acq.chain.length == 40 && s.acq.pulse.length == 8 && s.acq.quad.length == 4 && s.can.ctl.length == 8
    && s.can.field.length == 256 && s.host.pair.length == 16 && s.safe.chan.length == 32 && s.safe.inp.length == 16
    && s.safe.out.length == 12

theorem shaped_of {s : State} (h : shaped s = true) : Shaped s.toDev := by
  simp only [shaped, Bool.and_eq_true, beq_iff_eq] at h
  obtain ⟨⟨⟨⟨⟨⟨⟨⟨⟨⟨⟨⟨⟨⟨⟨⟨a, b⟩, c⟩, d⟩, e⟩, f⟩, g⟩, h⟩, i⟩, j⟩, k⟩, l⟩, m⟩, n⟩, o⟩, p⟩, q⟩ := h
  exact ⟨a, b, c, d, e, f, g, h, i, j, k, l, m, n, o, p, q⟩

/-! Well-formed commands: one ill-formed term for each check. -/

def frameX : CanFrame := { id := 0x800, ide := false, fdf := false, brs := false, esi := false, dlc := 1, data := [0] }
def netX : NetFrame :=
  { dst := 0x112233445566, src := 0xA, seq := 1, etype := 0x0800, pcp := 0, tagged := false, len := 64, fcsOk := true,
    lanB := false, udpPort := 0, dstIp := 0, payload := [] }
def desc (typ : Nat) (rest : List Byte) : List Byte := BitVec.ofNat 8 typ :: rest ++ List.replicate (31 - rest.length) 0
def straps : StrapIn :=
  { bootsel := 0, bootAgree := true, clkmode := 0, clkAgree := true, roleQ := List.replicate 8 7, unitQ := List.replicate 8 24 }

def zeroVal : GVal := { exp := 0x80, mant := 0 }
def measOf (ch : Nat) : ChanMeas := { chan := ch, cn0 := 0, pr := 0, cp := 0, dop := 0, codePh := 0 }

theorem test_wf_refuses_receiver :
    (Instr.calUpdate 0 0).wf = false ∧ (Instr.calUpdate 0 1).wf = true ∧
    (Instr.channelDrop ⟨0, 2400, 1001⟩).wf = false ∧ (Instr.channelDrop ⟨0, 2399, 1000⟩).wf = false ∧ (Instr.channelDrop ⟨0, 2399, 1001⟩).wf = true ∧
    (Instr.acquisitionComplete 0 1 0 ⟨true, 3300⟩).wf = false ∧ (Instr.acquisitionComplete 0 1 33 ⟨true, 3300⟩).wf = false ∧
    (Instr.acquisitionComplete 0 3 37 ⟨false, 3300⟩).wf = false ∧ (Instr.acquisitionComplete 0 6 64 ⟨false, 3300⟩).wf = false ∧
    (Instr.acquisitionComplete 0 0 1 ⟨true, 3300⟩).wf = false ∧ (Instr.acquisitionComplete 0 1 32 ⟨true, 3299⟩).wf = false ∧
    (Instr.acquisitionComplete 0 0 32 ⟨false, 3300⟩).wf = true ∧ (Instr.acquisitionComplete 0 6 63 ⟨true, 3300⟩).wf = true ∧
    (Instr.tick { meas := [measOf 192] }).wf = false ∧ (Instr.cycleBoundary { meas := [measOf 192] }).wf = false ∧
    (Instr.cycleBoundary { sky := [{ sys := 1, svid := 37, elev := 0 }] }).wf = false := by decide

theorem test_wf_refuses_engines :
    (Instr.tick { loopMis := [(0, 1)] }).wf = false ∧ (Instr.tick { loopMis := [(1, 9)] }).wf = false ∧
    (Instr.tick { profMis := [131] }).wf = false ∧ (Instr.tick { profMissed := [0] }).wf = false ∧
    (Instr.tick { loopMissed := [128] }).wf = false ∧ (Instr.registerWrite 0x20002 0).wf = false ∧
    (Instr.unsupportedRequest false 0x20000 4 true).wf = false ∧ (Instr.hostTargetWrite 0 0).wf = false ∧
    (Instr.groveSolveFailure 0 ⟨7, zeroVal⟩ 0 0 []).wf = false ∧ (Instr.groveSolveFailure 0 ⟨14, zeroVal⟩ 0 0 []).wf = false ∧
    (Instr.groveSolveFailure 0 ⟨1, zeroVal⟩ 0 0 []).wf = false ∧ (Instr.groveSolveFailure 0 ⟨3, zeroVal⟩ 0 0 []).wf = false ∧
    (Instr.chainRecord 15 [true] 0 none).wf = false ∧ (Instr.chainConfigWrite 0x1BFFFC 0).wf = false ∧
    (Instr.chainConfigWrite 0x200000 0).wf = false ∧ (Instr.chainConfigWrite 0x1C0002 0).wf = false ∧
    (Instr.pulseEdge 0 false ⟨117188, 9⟩).wf = false := by decide

theorem test_wf_refuses_networks :
    (Instr.canLeaveInit 0 1).wf = false ∧ (Instr.canEnterInit 0 0).wf = false ∧
    (Instr.canFrameReceived 0 frameX false 0).wf = false ∧
    (Instr.canFrameReceived 0 { frameX with id := 1, brs := true } false 0).wf = false ∧
    (Instr.canFrameReceived 0 { frameX with id := 1, esi := true } false 0).wf = false ∧
    (Instr.canFrameReceived 0 { frameX with id := 1, dlc := 2 } false 0).wf = false ∧
    (Instr.ringFrameReceived false { netX with len := 0, payload := [0] }).wf = false ∧
    (Instr.prpFrameReceived false { netX with len := 0, payload := [0] }).wf = false ∧
    (Instr.egressTransmit false (-1)).wf = false := by decide +kernel

theorem test_wf_refuses_others :
    (Instr.pointReleaseCommand 5).wf = false ∧ (Instr.pointFind 5).wf = false ∧ (Instr.recorderClear 1).wf = false ∧
    (Instr.gladeBoot { nor := 4, store := none, imgNorOk := true, panelTemp := none }).wf = false ∧
    (Instr.gladeBoot { nor := 0, store := some [], imgNorOk := true, panelTemp := none }).wf = false ∧
    (Instr.dieTempSample []).wf = false ∧ (Instr.supplySample []).wf = false ∧ (Instr.sessionCmdConflict 2).wf = false ∧
    (Instr.ringEnable 0 false 0).wf = false ∧ (Instr.ringDisable 0 false 0x100).wf = false ∧
    (Instr.nopDescriptor 0 0 (desc 0x30 [])).wf = false ∧ (Instr.setpointDescriptor 0 0 (desc 0x1F [])).wf = false ∧
    (Instr.groveCommandDescriptor 0 0 [] []).wf = false ∧ (Instr.canTransmitDescriptor 0 0 (desc 0 []) []).wf = false ∧
    (Instr.imageDescriptor 0 0 (desc 0 []) []).wf = false ∧ (Instr.thicketReadout 0 0 (desc 0 []) [] 0).wf = false ∧
    (Instr.recorderReadout 0 0 (desc 0 [])).wf = false ∧ (Instr.unknownDescriptor 0 0 (desc 0x1F [])).wf = false ∧
    (Instr.unknownDescriptor 0 0 []).wf = false ∧ (Instr.pcieLinkUp 3 1).wf = false ∧ (Instr.pcieLinkUp 4 4).wf = false ∧
    (Instr.brownOut 0).wf = false ∧ (Instr.brownOutRelease 0).wf = false ∧ (Instr.clockReturn 0).wf = false ∧
    (Instr.resetRelease { straps with roleQ := [] } { pin := 0, mac := 0, sn := 0, subsys := 0 }).wf = false ∧
    (Instr.resetRelease { straps with unitQ := List.replicate 8 256 } { pin := 0, mac := 0, sn := 0, subsys := 0 }).wf = false := by
  decide

theorem test_wf_accepts :
    (Instr.registerWrite 0x20000 0).wf = true ∧ (Instr.unsupportedRequest false 0x20000 2 true).wf = true ∧
    (Instr.nopDescriptor 0 0 (desc 0x1F [])).wf = true ∧ (Instr.unknownDescriptor 0 0 (desc 0 [])).wf = true ∧
    (Instr.resetRelease straps { pin := 0, mac := 0, sn := 0, subsys := 0 }).wf = true := by decide

/-- The table gives no bits to any row, so no word spells a command. -/
theorem test_no_word_spells_a_command : decodeTableWord 32 0 = none ∧ decodeTableWord 0 7 = none := by decide

/-! The machine and the sequencer. -/

theorem test_reset : State.reset.pending = [] ∧ State.reset.rd 0 = regReset 0 ∧ shaped State.reset = true ∧
    State.reset.rd SAFE_OUT_STAT = BitVec.ofNat 32 (outMaskOf State.reset.canopyEn + 4096 * outMaskOf State.reset.permit) ∧
    State.reset.bit SAFE_STAT 0 = State.reset.deadfall ∧
    State.reset.bit SAFE_STAT 1 = (State.reset.safe.table && State.reset.safe.up) ∧
    State.reset.bit SAFE_STAT 2 = State.reset.safe.up ∧
    State.reset.bit SAFE_STAT 3 = (State.reset.safe.ustOn && State.reset.safe.ustAlive) ∧ State.reset.safe.halt = true := by
  decide +kernel

/-- The reset state meets the premise of the statements about the safety invariant. -/
theorem test_reset_safe : SafeInv State.reset.toDev :=
  ⟨⟨by decide +kernel, by decide +kernel, by decide +kernel, by decide +kernel, by decide +kernel,
    fun h => absurd h.1 (by decide)⟩, fun h => absurd h.1 (by decide)⟩

theorem test_step_takes_the_front :
    (match step { State.reset with pending := [.modeCmdWatch, .modeCmdOperate] } with
      | .next t => t.pending == [.modeCmdOperate] && t.seq.heldCmd == 2
      | _ => false) = true ∧
    (match step State.reset with
      | .next t => t.pending == []
      | _ => false) = true := by decide +kernel

/-- Witness of the statements about exec alone: their premises hold of these commands. -/
theorem test_isolation_premises : (run .rollbackBurn State.reset).glade.rb = State.reset.glade.rb ∧
    (run .modeCmdOperate State.reset).mode = State.reset.mode := by decide +kernel

/-- The premises of the statement about a tick. -/
theorem test_tick_premises : ({} : TickIn).critical = none ∧ State.reset.seq.adjLen = none ∧ (w fun d => { d with seq.adjLen := some 300000 }).seq.adjLen = some 300000 ∧
    (w fun d => { d with seq.nextTick := 79 }).seq.nextTick = 79 := by decide +kernel

theorem test_boundary_counts :
    (run (.cycleBoundary {}) (w fun d => { d with seq.cyc := 5 })).cycles = 1 ∧
    (run (.cycleBoundary {}) (w fun d => { d with seq.cyc := 0 })).cycles = 0 := by decide +kernel

def ready : Dev → Dev := fun d => (d.setBit GLB_MODE_STAT 8 true).wrN STAND_STAT 0x100

theorem test_mode_table :
    (w fun d => { ready d with seq.heldCmd := 1 }).operateRefused = 0 ∧
    (run (.cycleBoundary {}) (w fun d => { ready d with seq.heldCmd := 1 })).mode = 1 ∧
    (run (.cycleBoundary {}) (w fun d => { d with seq.heldCmd := 1 })).mode = 0 ∧
    (run (.cycleBoundary {}) (w fun d => { d with seq.heldCmd := 1 })).operateRefused ≠ 0 ∧
    (run (.cycleBoundary {}) (w fun d => (ready d).setFld GLB_MODE_STAT 1 0 1)).mode = 2 ∧
    (run (.cycleBoundary {}) (w fun d => { (ready d).setFld GLB_MODE_STAT 1 0 2 with seq.heldCmd := 2 })).mode = 0 ∧
    (run (.cycleBoundary {}) (w fun d => d.setFld GLB_MODE_STAT 1 0 2)).mode = 0 := by decide +kernel

theorem test_overruns :
    State.reset.seq.abortGrove = false ∧ (run (.slotOverrun .bundle) State.reset).bit GLB_OVR_STAT 5 = true ∧
    codes (run (.slotOverrun .bundle) State.reset) = [0x04F1] ∧
    params (run (.slotOverrun (.loop 3 2)) State.reset) = [(3, 2)] ∧
    codes (run (.slotOverrun .intact) (w fun d => { d with seq.abortGrove := true })) = [] ∧
    (run (.slotOverrun .estimator) (w fun d => d.wrN GLB_OVR_CNT 65535)).fld GLB_OVR_CNT 15 0 = 65535 := by decide +kernel

theorem test_register_port :
    (run (.registerWrite 0x20002 7) State.reset).seq.hostCpl = .unsupported ∧
    (run (.unsupportedRequest false 0x20000 2 true) State.reset).seq.hostCpl = .unsupported ∧
    (run (.unsupportedRequest true 0x400001 4 false) State.reset).seq.hostCpl = .unsupported ∧
    (run (.stoppedDomainAccess 0x40000 ⟨false, false⟩) State.reset).seq.hostCpl = .timeout ∧
    (run (.stoppedDomainAccess 0x40000 ⟨true, true⟩) State.reset).glade.hung = true ∧
    State.reset.bit RST_DOM_STAT (blockDomain (blockOf 0x40000)) = false ∧
    (run (.tickCfgWrite 0xFFFFFFFF) State.reset).rd GLB_TICK_CFG &&& 0xFFFF0003#32 = 0xFFFF0003#32 ∧
    (run (.registerWrite 0x2C0000 0xFFFFFFFF) State.reset).rd SAFE_STAT = State.reset.rd SAFE_STAT ∧
    blockOf 0x2C0000 = .safe := by decide +kernel

/-! Engines. -/

/-- Limits for the three heading and position generators, so that a commit passes its checks (R105). -/
def profs : Dev → Dev := fun d => d.each [128, 129, 130] fun d g =>
  (((d.wrN (PROF_VMAX g) 1).wrN (PROF_AMAX g) 1).wrN (PROF_JMAX g) 1).setBit (PROF_CFG g) 3 (g == 130)

/-- A commit that waits, with limits that pass. -/
def waits : State := w fun d => { profs d with glade.job := some { typ := 2, bytes := [], wait := 1 } }

/-- A commit that the profile generators refuse, as their limits are 0 (R105). -/
def refused : State := w fun d => { d with glade.job := some { typ := 2, bytes := [], wait := 1 } }

theorem test_commit_premises :
    (let old (s : State) : Dev := { s.toDev with glade.job := none }
     let fault (s : State) := commitFault (old s) ((old s).withTables (imgWrites []) none) (((imgSects []).getD []).map Prod.fst)
     fault waits = none ∧ (old waits).safeRefused [] = none ∧ waits.glade.job = some { typ := 2, bytes := [], wait := 1 } ∧
     (fault refused).isSome = true) ∧
    State.reset.glade.job = none := by decide +kernel

theorem test_engine_registers :
    (run (.loopResume 127) State.reset).rd LOOP_CMD_STAT = 0x1017F#32 ∧ (run (.loopClear 0) State.reset).fld LOOP_CMD_STAT 9 8 = 2 ∧
    (run (.hostTargetWrite 130 5) State.reset).rd (PROF_HTGT 130) = 5#32 ∧
    (run (.hostTargetWrite 130 5) State.reset).prof.gen[130]?.map GenSt.hostNew = some (some 5#32) ∧
    (run (.laneClear 31) (w fun d => d.wrN (GROVE_LANE_TMAX 31) 9)).rd (GROVE_LANE_TMAX 31) = 0#32 ∧
    State.reset.mode = 0 ∧ (run (.originWrite true 7) State.reset).est.originLon = some 7#32 ∧
    params (run (.originWrite true 7) State.reset) = [(0, 1)] ∧
    params (run (.originWrite true 7) (w fun d => d.setFld GLB_MODE_STAT 1 0 1)) = [(0, 0)] ∧
    (w fun d => d.wrN GLB_HW_REQ0 0).sessOk 1 = true ∧ (w fun d => d.wrN GLB_HW_REQ0 8).sessOk 1 = false ∧
    (run (.thrusterSelect 0xFFFFFFFF) (w fun d => d.wrN GLB_HW_REQ0 0)).rd ALLOC_THR_EN = 0x00FFFFFF#32 ∧
    (run (.thrusterSelect 3) (w fun d => d.wrN GLB_HW_REQ0 8)).rd ALLOC_THR_EN = State.reset.rd ALLOC_THR_EN := by
  decide +kernel

def lane (n : Nat) : State := w fun d => (d.wrN (GROVE_LANE_STAT 5) n).wrN (GROVE_LANE_SHAPE 5) (2 + 256 * 2)
def entryAt (row col : BitVec 8) : GroveEntryIn := { region := 0, sel := 0, row := row, col := col, exp := 0, mant := 1 }
def laneSet : State := run (.groveLoad 5 1 false 2 0 []) State.reset

theorem test_lane_writes :
    State.reset.laneState 5 ≤ 1 ∧ shapeOk 1 false 2 0 = true ∧ shapeOk 1 false 0 0 = false ∧ shapeOk 1 false 97 0 = false ∧
    laneSet.laneState 5 = 1 ∧ laneSet.laneMethod 5 = 1 ∧ laneSet.laneN 5 = 2 ∧
    (run (.groveLoad 5 1 false 97 0 []) State.reset).rd GROVE_REFUSED = 1#32 ∧
    (run (.groveLoad 5 1 false 2 0 []) (lane 2)).rd GROVE_REFUSED = 1#32 ∧
    laneSet.entryInside 5 (entryAt 1 1) = true ∧ (run (.groveEntry 5 (entryAt 1 1) []) laneSet).laneState 5 = 1 ∧
    laneSet.entryInside 5 (entryAt 2 1) = false ∧ (run (.groveEntry 5 (entryAt 2 1) []) laneSet).laneState 5 = 0 ∧
    (run (.groveEntry 5 (entryAt 1 1) []) State.reset).rd GROVE_REFUSED = 1#32 := by decide +kernel

def val1 : GVal := { exp := 0, mant := 0x40000000 }

/-- Lane 5 runs a method of two unknowns and two rows, n in STATE. -/
def laneOf (method : Nat) (n : Nat) (f : LaneSt → LaneSt := id) : State := w fun d =>
  { ((d.wrN (GROVE_LANE_STAT 5) (n + 32 * (method % 8) + (if method = 11 then 256 else 0))).wrN (GROVE_LANE_SHAPE 5) (2 + 256 * 2)) with
    grove.lane := modAt d.grove.lane 5 f }

/-- A magnitude whose exponent is 128. -/
def big : Rat := (2 ^ 158 : Nat)

/-- What a QP of the lane, an absorption without FINAL and a Cholesky solve come to their ends with. -/
def outQp : SolveOut :=
  { cycles := 9, iter := 3, x := [val1, zeroVal], bmul := [val1, zeroVal], rmul := [zeroVal, zeroVal], active := [0, 3] }
def outBare : SolveOut := { cycles := 9, iter := 0, x := [], bmul := [], rmul := [], active := [], fac := [val1, val1, val1] }
def outChol : SolveOut :=
  { cycles := 9, iter := 0, x := [val1, val1], bmul := [], rmul := [], active := [], pivots := [val1, val1], fac := [val1, val1, val1] }

theorem test_lane_releases :
    (lane 1).laneState 5 = 1 ∧ State.reset.seq.abortGrove = false ∧ ((lane 1).lane 5).rows.any LaneRow.ovf = false ∧
    (run (.groveRelease 5 false 0 []) (lane 1)).laneState 5 = 2 ∧
    (run (.groveRelease 5 false 0 []) State.reset).fld (GROVE_LANE_STAT 5) 15 12 = 5 ∧
    (run (.groveRelease 5 false 0 []) (lane 3)).rd GROVE_REFUSED = 1#32 ∧
    ({ lane 1 with seq.abortGrove := true } : State).laneState 5 = 1 ∧
    (let s := laneOf 1 1 fun x => { x with rows := [{ key := 0, exp := 127, vals := [(0, big)] }] }
     s.laneState 5 = 1 ∧ s.seq.abortGrove = false ∧ (s.lane 5).rows.any LaneRow.ovf = true) := by
  decide +kernel

theorem test_lane_solves :
    (laneOf 4 2).laneState 5 = 2 ∧ ((laneOf 4 2).lane 5).grp = none ∧ (laneOf 4 2).laneRole 5 ≠ 1 ∧ (laneOf 4 2).outFits 5 outQp = true ∧ (laneOf 4 2).endCode 5 outQp = 0 ∧
    (run (.grovePublish 5 outQp) (laneOf 4 2)).laneState 5 = 1 ∧
    (run (.grovePublish 5 outQp) (laneOf 4 2)).bit (GROVE_LANE_STAT 5) 9 = true ∧
    (run (.grovePublish 5 outQp) (laneOf 4 2)).fld (GROVE_LANE_ITER 5) 9 0 = 3 ∧
    (laneOf 4 2).outFits 5 { outQp with iter := 1 } = false ∧ (laneOf 4 2).outFits 5 { outQp with cycles := 100000 } = false ∧
    (laneOf 11 2).outFits 5 outBare = true ∧ (laneOf 11 2).endCode 5 outBare = 0 ∧
    (run (.grovePublish 5 outBare) (laneOf 11 2)).bit (GROVE_LANE_STAT 5) 9 = false ∧
    (laneOf 1 2).outFits 5 outChol = true ∧ (laneOf 1 2).endCode 5 outChol = 8 ∧
    (run (.grovePublish 5 outChol) (laneOf 1 2)).fld (GROVE_LANE_STAT 5) 15 12 = 8 := by decide +kernel

theorem test_lane_deadline :
    (let s : State := { laneOf 1 2 with seq.nextTick := 7 }
     s.laneState 5 = 2 ∧ s.laneDue 5 = true ∧ (run (.groveDeadline 5 4 7 []) s).fld (GROVE_LANE_STAT 5) 15 12 = 1) ∧
    (laneOf 1 2).laneDue 5 = false ∧ (laneOf 1 1).laneState 5 ≠ 2 ∧ (run (.groveDeadline 5 4 7 []) (laneOf 1 2)).laneState 5 = 2 := by
  decide +kernel

theorem test_lane_failures :
    (laneOf 4 2).failFits 5 2 240 0 = true ∧ (laneOf 4 2).failFits 5 2 239 0 = false ∧ (laneOf 4 2).failFits 5 10 4 0 = true ∧
    (laneOf 1 2).failFits 5 8 0 (gvRat val1) = true ∧ (laneOf 1 2).failFits 5 10 0 0 = false ∧ ((laneOf 1 2).lane 5).grp = none ∧
    (run (.groveSolveFailure 5 ⟨2, zeroVal⟩ 240 7 []) (laneOf 4 2)).fld (GROVE_LANE_STAT 5) 15 12 = 2 ∧
    (run (.groveSolveFailure 5 ⟨12, zeroVal⟩ 0 7 []) (laneOf 1 2)).laneState 5 = 1 ∧
    (run (.groveSolveFailure 5 ⟨12, zeroVal⟩ 0 7 []) { laneOf 1 2 with toDev := (laneOf 1 2).wrN GROVE_CFG 0 }).laneState 5 = 3 ∧
    (run (.groveSolveFailure 5 ⟨13, zeroVal⟩ 0 7 []) (laneOf 1 2)).laneState 5 = 0 ∧
    (run (.groveSolveFailure 5 ⟨13, zeroVal⟩ 0 7 []) (laneOf 1 2 fun x => { x with memBad := 1 })).laneState 5 = 3 ∧
    (run (.groveSolveFailure 5 ⟨13, zeroVal⟩ 0 7 []) (laneOf 1 2)).fld (GROVE_LANE_STAT 5) 18 16 = codeClass 13 := by decide +kernel

/-! GNSS, local time and sensors. -/

def tracked : State := w fun d => { d with gnss.chan := setAt d.gnss.chan 191 { assigned := true, codeLock := true } }
def locked : State := w fun d => { d with gnss.chan := setAt d.gnss.chan 191 { assigned := true, codeLock := true, carrLock := true } }

/-- BeiDou 9 stands above the horizon, and channel 0 holds its L1 signal on ANT_P. -/
def inSky : State := w fun d => { d with
  gnss.sky := [{ sys := 2, svid := 9, elev := 40 }]
  gnss.chan := setAt d.gnss.chan 0 { assigned := true, sig := 5, svid := 9, codeLock := true } }

theorem test_front_ends :
    (run (.feFault 3 7 true) State.reset).rd (GNSS_FE_AGC 3) = 0x107#32 ∧ codes (run (.feFault 3 7 true) State.reset) = [0x0706] ∧
    codes (run (.feFault 3 7 true) (run (.feFault 3 7 true) State.reset)) = [0x0706] ∧
    codes (run (.feFaultClear 3 7) (run (.feFault 3 7 true) State.reset)) = [0x0706, 0x0707] := by decide +kernel

theorem test_acquisition_of_a_signal :
    shaped inSky = true ∧ inSky.candidate 6 9 true = true ∧ (inSky.gnss.chan.any fun x => x.holds 6 9 true) = false ∧
    inSky.mayTake 191 6 9 true = true ∧ inSky.candidate 6 8 true = false ∧
    (run (.acquisitionComplete 191 6 9 ⟨true, 3300⟩) inSky).gnss.chan[191]?.map GChan.svid = some 9 ∧
    (run (.acquisitionComplete 191 6 9 ⟨true, 3300⟩) inSky).fld GNSS_STAT 23 16 = 2 ∧
    (run (.acquisitionComplete 191 6 8 ⟨true, 3300⟩) inSky).gnss.chan[191]?.map GChan.assigned = some false ∧
    inSky.candidate 5 9 false = true ∧ (inSky.gnss.chan.getD 0 {}).holds 5 9 false = true ∧
    (run (.acquisitionComplete 0 5 9 ⟨false, 3300⟩) inSky).gnss.chan[0]?.map GChan.codeLock = some true := by decide +kernel

theorem test_receiver :
    shaped tracked = true ∧ (tracked.gnss.chan.getD 191 {}).codeLock = true ∧ (tracked.gnss.chan.getD 191 {}).carrLock = false ∧
    (run (.carrierLockGained 191) tracked).gnss.chan[191]?.map GChan.carrLock = some true ∧
    (locked.gnss.chan.getD 191 {}).carrLock = true ∧
    (run (.carrierLockLost 191) locked).gnss.chan[191]?.map GChan.lol = some true ∧
    (run (.channelDrop ⟨191, 2399, 1001⟩) locked).gnss.chan[191]?.map GChan.lol = some true ∧
    (run (.channelDrop ⟨191, 2400, 1001⟩) locked).gnss.chan[191]?.map GChan.codeLock = some true ∧
    (run (.spacingSettled 0) (w fun d => { d with gnss.chan := setAt d.gnss.chan 0 { settling := true } })).gnss.chan[0]?.map
      GChan.settling = some false := by decide +kernel

def valid : Dev → Dev := fun d => d.setBit NET_TIME_STAT 2 true

theorem test_local_time :
    (let s := w fun d => { d with clk.setPending := some (5, 0) }
     s.clk.setPending = some (5, 0) ∧ s.timeValid = false ∧ s.tsel ≠ 2 ∧ (run .localTimeSet s).timeValid = true ∧
     (run .localTimeSet s).clk.localNs = s.clk.localNs - 5) ∧
    (let s := w fun d => { d with net.tsrc := 2, clk.setPending := some (5, 0) }
     s.tsel = 2 ∧ s.clk.setPending = some (5, 0) ∧ (run .localTimeSet s).clk.localNs = s.clk.localNs ∧
     (run .localTimeSet s).tstate = 1) ∧
    State.reset.clk.setPending = none ∧ State.reset.clk.stepPending = none ∧
    (let s := w fun d => { (d.wrN (NET_ALARM_CTL 3) 1).wrN (NET_ALARM_NS 3) 5 with clk.localNs := 0, clk.stepPending := some (5, 0x0A08) }
     s.bit (NET_ALARM_CTL 3) 0 = true ∧ s.clk.localNs < (s.alarmNs 3 : Rat) ∧ (s.alarmNs 3 : Rat) ≤ s.clk.localNs + 5 ∧
     (run .localTimeStep s).rd (NET_ALARM_CTL 3) = 0xA#32) := by decide +kernel

theorem test_holdover :
    (let s := w fun d => d.setFld GNSS_STAT 2 0 1
     s.tstate = 1 ∧ s.fixlessCycles.all (fun n => decide (50 < n)) = true ∧ (run .holdoverEntry s).tstate = 2 ∧
     codes (run .holdoverEntry s) = [0x0702]) ∧
    (let s (ns : Rat) := w fun d => { d.setFld GNSS_STAT 2 0 1 with gnss.lastValid := some 0, clk.cycleNs := ns }
     (s 1000000000).fixlessCycles = some 50 ∧ (run .holdoverEntry (s 1000000000)).tstate = 1 ∧
     (s 1020000000).fixlessCycles = some 51 ∧ (run .holdoverEntry (s 1020000000)).tstate = 2) ∧
    State.reset.tstate ≠ 1 ∧
    (let s (t : Nat) := w fun d => (d.setFld GNSS_STAT 2 0 3).wrN GNSS_TERR t
     (s 100001).tstate = 3 ∧ (s 100001).gnss.warned = false ∧
     1000 * (s 100001).gnss.set.warn.toNat < ((s 100001).rd GNSS_TERR).toNat ∧
     codes (run .holdWarnExceeded (s 100001)) = [0x070A] ∧ (run .holdWarnExceeded (s 100001)).gnss.warned = true ∧
     codes (run .holdWarnExceeded (s 100000)) = []) := by decide +kernel

theorem test_clock_discipline :
    (let s (rem : Rat) := w fun d => { d.setBit GNSS_STAT 4 true with clk.phaseRem := rem }
     (s (1 / 100)).bit GNSS_STAT 4 = true ∧ (s (1 / 100)).clockFrozen = false ∧ slewNs (s (1 / 100)).clk.phaseRem < 375000 ∧
     (run .slewComplete (s (1 / 100))).clk.phaseRem = 0 ∧ codes (run .slewComplete (s (1 / 100))) = [0x0705] ∧
     ¬ slewNs (s 3).clk.phaseRem < 375000 ∧ (run .slewComplete (s 3)).clk.phaseRem = 3) ∧
    State.reset.bit GNSS_STAT 4 = false ∧
    (run (.navigationDataDecoded 37 (some 5)) State.reset).gnss.utcOfs = 37 ∧
    (run (.navigationDataDecoded 37 (some 5)) State.reset).bit GNSS_STAT 6 = true ∧
    (let s := w fun d => { d.setBit GNSS_STAT 6 true with gnss.utcOfs := 255 }
     s.bit GNSS_STAT 6 = true ∧ (run .leapSecond s).gnss.utcOfs = 0) ∧ State.reset.bit GNSS_STAT 6 = false := by decide +kernel

/-- Time is valid, and the pin has its setting. -/
def pulsing (high : Bool) (held : Option (Word × Word)) (until_ : Rat) : State := w fun d =>
  { valid d with gnss.ppsCfgd := true, gnss.ppsHigh := high, gnss.ppsHeld := held, gnss.ppsUntil := until_ }

theorem test_pulses :
    (pulsing false none 0).timeValid = true ∧ (pulsing false none 0).gnss.ppsHigh = false ∧ State.reset.timeValid = false ∧
    (run .ppsPulse (pulsing false none 0)).gnss.msgDue = true ∧ (run .ppsPulse (pulsing false none 0)).gnss.ppsHigh = true ∧
    (pulsing true (some (1, 2)) 0).gnss.ppsHeld = some (1, 2) ∧ (run .ppsPulse (pulsing true (some (1, 2)) 0)).gnss.ppsCfg = 1#32 ∧
    (pulsing true none 0).gnss.ppsUntil < (pulsing true none 0).clk.localNs + 375000 ∧
    (run .ppsPulseEnd (pulsing true none 0)).gnss.ppsHigh = false ∧
    (run .ppsPulseEnd (pulsing true (some (1, 2)) 374999)).gnss.ppsCfg = 1#32 ∧
    (run .ppsPulseEnd (pulsing true (some (1, 2)) 375000)).gnss.ppsHigh = true := by decide +kernel

theorem test_time_outputs :
    (w fun d => { d with gnss.msgDue := true }).gnss.msgDue = true ∧ State.reset.gnss.msgDue = false ∧
    (run .timeMessage (w fun d => { d with gnss.msgDue := true })).gnss.msgDue = false ∧
    (w fun d => valid (d.wrN (GNSS_SENT_CFG 7) 5)).bit (GNSS_SENT_CFG 7) 0 = true ∧
    (w fun d => valid (d.wrN (GNSS_SENT_CFG 7) 5)).timeValid = true ∧
    (run (.sentenceInterval 7 [[36, 71]]) (w fun d => valid (d.wrN (GNSS_SENT_CFG 7) 5))).gnss.sent[7]?.map List.length = some 1 ∧
    (run (.sentenceInterval 7 [List.replicate 4000 71]) (w fun d => valid (d.wrN (GNSS_SENT_CFG 7) 5))).rd GNSS_SENT_DROP = 1#32 ∧
    State.reset.bit (GNSS_SENT_CFG 7) 0 = false := by decide +kernel

/-- A sentence of these characters, with its checksum. -/
def sentence (text : List Char) : SentenceIn :=
  let b := text.map fun c => BitVec.ofNat 8 c.toNat
  { chars := b, sum := b.foldl (fun a c => a ^^^ c) 0, arrivalNs := 4 }
def hdt : SentenceIn := sentence ['H', 'E', 'H', 'D', 'T', ',', '9', '0', '.', '5', ',', 'T']
def xdr : SentenceIn := sentence ['I', 'I', 'X', 'D', 'R', ',', 'A', ',', '1', ',', 'D', ',', 'R', ',', 'A', ',', '-', '2', ',', 'D', ',', 'P']
def mwv : SentenceIn := sentence ['W', 'I', 'M', 'W', 'V', ',', '9', '0', ',', 'R', ',', '1', '0', ',', 'M', ',', 'A']
def zda : SentenceIn := sentence ['G', 'P', 'Z', 'D', 'A']
def sample : List Byte := [5, 2] ++ List.replicate 18 0

/-- Gyro 2 of the talker HE, MRU 1 of II and wind sensor 1 of WI, all on UART 7. -/
def sensors : State := w fun d =>
  (((d.wrN EST_SENS_CFG 0x0F0F0F00).setFld (EST_TALK 1) 15 0 0x4548).setFld (EST_TALK 2) 15 0 0x4949).setFld (EST_TALK 3) 15 0 0x4957

def givenBy (m : SentenceIn) : SentContent := contentOf (((fieldsOf m.chars).headD []).drop 2) (fieldsOf m.chars).tail
def talkerOf (m : SentenceIn) : Nat := u16 ((fieldsOf m.chars).headD []) 0

theorem test_sentences :
    hdt.chars.foldl (fun a c => a ^^^ c) 0 = hdt.sum ∧ talkerOf hdt = 0x4548 ∧ sensors.sensorOf 7 0x4548 0 3 = some 2 ∧ sensors.sensorOf 7 0x4949 3 2 = some 4 ∧
    sensors.sensorOf 7 0x4957 5 2 = some 6 ∧ shaped sensors = true ∧
    givenBy hdt = .heading (181 / 2) ∧ givenBy xdr = .attitude 1 (-2) ∧ givenBy mwv = .wind 90 10 ∧ givenBy zda = .other ∧
    (run (.sentenceReceived 7 hdt) sensors).est.gyro[2]?.map (·.a) = some (181 / 2) ∧
    (run (.sentenceReceived 7 xdr) sensors).est.mru[1]?.map (·.b) = some (-2 : Rat) ∧
    (run (.sentenceReceived 7 mwv) sensors).est.wind[1]?.map (·.b) = some 10 := by decide +kernel

theorem test_sensors :
    { hdt with sum := 2 }.chars.foldl (fun a c => a ^^^ c) 0 ≠ ({ hdt with sum := 2 } : SentenceIn).sum ∧
    (run (.sentenceReceived 0 { hdt with sum := 2 }) State.reset).rd EST_SENS_BAD = 1#32 ∧
    sample.length = 20 ∧ u8 sample 0 ≤ 5 ∧ bitOf (u8 sample 1) 1 = true ∧ (w fun d => d.wrN (EST_REF_CFG 5) 2).fld (EST_REF_CFG 5) 1 0 = 2 ∧
    (run (.refSampleReceived none sample 9) (w fun d => d.wrN (EST_REF_CFG 5) 2)).fld (EST_REF_CNT 5) 15 0 = 1 ∧
    (run (.refSampleReceived none sample 9) (run (.refSampleReceived none sample 9) (w fun d => d.wrN (EST_REF_CFG 5) 2))).rd
      (EST_REF_DROP 5) = 1#32 ∧
    (run (.refSampleReceived none [] 9) State.reset).rd EST_SENS_BAD = 1#32 ∧
    (run (.refSampleReceived (some 3) sample 9) State.reset).rd EST_SENS_BAD = 1#32 := by decide +kernel


/-! Acquisition. -/

/-- Chains 0 (input 3, every converter slot 1) and 16 (stream 5) run. -/
def acqOn : Dev → Dev := fun d => { (d.wrN ACQ_STAT 3).wrN (ACQ_CH_STAT 0) 1 |>.wrN (ACQ_CH_STAT 16) 1 with
  acq.seq := setAt d.acq.seq 0 0x8300#32
  acq.chain := setAt (setAt d.acq.chain 0 { cur := { cfg := 7 } }) 16 { cur := { cfg := 11 } } }

def service : Dev → Dev := fun d => d.setFld GLB_MODE_STAT 1 0 2

theorem test_acquisition_writes :
    State.reset.mode = 0 ∧ (w service).mode ≠ 0 ∧ (run (.sarEnable true) State.reset).bit ACQ_CTRL 0 = true ∧
    (run (.sdEnable false) (w fun d => d.wrN ACQ_STAT 2)).bit ACQ_STAT 1 = false ∧
    codes (run (.sarEnable true) (w service)) = [0x0805] ∧ params (run (.sdEnable true) (w service)) = [(0, 4)] ∧
    (run (.chainConfigWrite (BitVec.ofNat 22 (ACQ_CH_GAIN 39 7)) 0xFFFFFFFF) State.reset).rd (ACQ_CH_GAIN 39 7) = 0x00FFFFFF#32 ∧
    (BitVec.ofNat 22 (ACQ_CH_GAIN 39 7)).toNat = ACQ_CH_GAIN 39 7 ∧ blockOf 0x1BFFFC ≠ .acq := by decide +kernel

theorem test_conversions :
    shaped (w acqOn) = true ∧ (w acqOn).bit ACQ_STAT 0 = true ∧ State.reset.bit ACQ_STAT 0 = false ∧
    seqEntry (w acqOn).acq.seq 1 = some 3 ∧ (w acqOn).chainRun 0 = true ∧ ((w acqOn).chain 0).cur.src = 3 ∧
    (w acqOn).chainRun 1 = false ∧ ((run (.sarConversion 1 100) (w acqOn)).chain 0).win.length = 1 ∧
    ((run (.sarConversion 1 100) (w acqOn)).chain 1).win.length = 0 ∧
    (run (.sarConversion 63 7) (w acqOn)).acq.zeros = [7] ∧
    (run (.sarConversion 63 7) (w fun d => { acqOn d with acq.calKind := true })).acq.refs = [7] := by decide +kernel

theorem test_calibration :
    (let s (z r k : Int) (bad : Bool) := w fun d => { (acqOn d).setBit ACQ_STAT 2 bad with
       acq.calDue := true, acq.zeros := [z], acq.refs := [r], acq.calOkRun := k.toNat }
     256 < absRat (meanOf (s 257 0 0 false).acq.zeros) ∧ codes (run (.calUpdate 257 1) (s 257 0 0 false)) = [0x0806] ∧
     params (run (.calUpdate 257 1) (s 257 0 0 false)) = [(0, 1)] ∧
     (run (.calUpdate (-257) 1) (s (-257) 0 0 false)).bit ACQ_STAT 2 = true ∧
     100 * absRat (gainErrorOf 256 20456 20000) ≤ 1 ∧ 100 * absRat (gainErrorOf 0 20200 20000) ≤ 1 ∧
     (run (.calUpdate 256 20000) (s 256 20456 0 false)).rd ACQ_CAL = 0x10001#32 ∧
     (run (.calUpdate 0 20000) (s 0 20200 0 false)).rd ACQ_CAL = 0x10000#32 ∧
     params (run (.calUpdate 0 20000) (s 0 20201 0 false)) = [(0, 2)] ∧
     (run (.calUpdate 0 20000) (s 0 20000 2 true)).acq.calOkRun = 3 ∧
     codes (run (.calUpdate 0 20000) (s 0 20000 3 true)) = [0x0807] ∧ shaped (s 0 20000 3 true) = true ∧
     (run (.calUpdate 0 20000) (s 1 20000 3 true)).acq.calDue = true) ∧
    (w acqOn).acq.calDue = false ∧ (run (.calUpdate 0 20000) (w acqOn)).rd ACQ_CAL = (w acqOn).rd ACQ_CAL := by decide +kernel

/-- Every 64th calibration slot makes an update due. -/
theorem test_calibration_falls_due :
    (let s (n : Nat) := w fun d => { acqOn d with acq.calCnt := n }
     (run (.sarConversion 63 7) (s 63)).acq.calDue = true ∧ (run (.sarConversion 63 7) (s 63)).acq.calCnt = 0 ∧
     (run (.sarConversion 63 7) (s 62)).acq.calDue = false) := by decide +kernel

/-- A state with changes of chain 0, which has its window whole. -/
def windowed (f : ChainSt → ChainSt) (g : Dev → Dev := id) : State := w fun d =>
  g { acqOn d with acq.chain := setAt (acqOn d).acq.chain 0 (f { cur := { cfg := 7 }, win := [5] }), acq.band := 3 }

theorem test_chain_records :
    (windowed id).chainRun 0 = true ∧ ((windowed id).window 0 []).isSome = true ∧ ((windowed id).chain 0).next = none ∧
    ((windowed id).chain 0).cur.en = true ∧ (windowed id).bit (ACQ_CH_STAT 0) 3 = false ∧ ((windowed id).chain 0).suppLeft = 0 ∧
    (run (.chainRecord 0 [] 9 none) (windowed id)).rd (ACQ_CH_STAMP 0) = 9#32 ∧
    (run (.chainRecord 0 [] 9 none) (windowed id)).rd (ACQ_CH_SEQ 0) = 1#32 ∧
    ((run (.chainRecord 0 [] 9 none) (windowed id)).chain 0).band = 3 ∧
    ((run (.chainRecord 0 [] 9 none) (windowed fun x => { x with band := 2 })).chain 0).recBand = 2 ∧
    (run (.chainRecord 0 [] 9 none) (windowed fun x => { x with suppLeft := 1 })).rd (ACQ_CH_SUPP 0) = 1#32 ∧
    State.reset.chainRun 39 = false ∧ (windowed fun x => { x with win := [] }).window 0 [] = none := by decide +kernel

theorem test_chain_steps :
    (let s := windowed (fun x => { x with stepPend := true, fir := [1] }) fun d => d.wrN (ACQ_CH_SEQ 0) 7
     (s.chain 0).stepPend = true ∧ (run (.chainRecord 0 [] 9 none) s).rd (ACQ_CH_SEQ 0) = 0#32 ∧
     ((run (.chainRecord 0 [] 9 none) s).chain 0).fir = []) ∧
    (let s := windowed fun x => { x with cur := { cfg := 7, fir := 1 } }
     s.chainRun 0 = true ∧ (s.window 0 []).isSome = true ∧ (s.chain 0).cur.taps ≠ 0 ∧
     codes (run (.chainRecord 0 [] 9 (some 4)) s) = [0x0809] ∧ (run (.chainRecord 0 [] 9 (some 4)) s).chainRun 0 = false) := by
  decide +kernel

/-- A coefficient apply for chain 39 or 0 in a state of its life. -/
def applying (n at_ : Nat) : State := windowed id fun d => { (d.setBit ACQ_STAT 3 true).wrN (ACQ_FIR_SHADOW 191) 77 with
  acq.apply := some n, acq.applyAt := at_ }

theorem test_coefficients :
    State.reset.acqLocked ACQ_APPLY 39 = none ∧ State.reset.bit ACQ_STAT 3 = false ∧
    (run (.coefApply 39) State.reset).acq.apply = some 39 ∧ (run (.coefApply 40) State.reset).acq.apply = none ∧
    (applying 0 1).chainRun 0 = true ∧ ((applying 0 1).window 0 []).isSome = true ∧
    (run (.chainRecord 0 [] 9 none) (applying 0 1)).rd (ACQ_FIR_LIVE 0 191) = 77#32 ∧
    (run (.chainRecord 0 [] 9 none) (applying 0 1)).acq.applyAt = 2 ∧
    codes (run .coefApplyDone (applying 0 2)) = [0x0804] ∧ (applying 39 1).chainRun 39 = false ∧
    (run .coefApplyDone (applying 39 1)).rd (ACQ_FIR_LIVE 39 191) = 77#32 ∧ codes (run .coefApplyDone (applying 39 1)) = [0x0804] ∧
    codes (run .coefApplyDone (applying 0 0)) = [] ∧ codes (run .coefApplyDone (applying 0 1)) = [] ∧
    State.reset.acq.apply = none := by decide +kernel

theorem test_streams :
    (w acqOn).bit ACQ_STAT 1 = true ∧ (w acqOn).acq.stuck.contains 5 = false ∧
    (run (.bitstreamStuck 5) (w acqOn)).acq.stuck = [5] ∧ (run (.bitstreamStuck 5) (w acqOn)).bit (ACQ_CH_STAT 16) 3 = true ∧
    (let s := w fun d => { acqOn d with acq.stuck := [5] }
     s.acq.stuck.contains 5 = true ∧ (run (.stuckEnd 5) s).acq.stuck = []) := by decide +kernel

theorem test_pulse_and_quadrature :
    (let s := w fun d => d.wrN (ACQ_PULSE_CFG 7) 0x59
     s.fld (ACQ_PULSE_CFG 7) 3 2 % 3 = 2 ∧ s.fld (ACQ_PULSE_CFG 7) 11 4 = 5 ∧ s.pulseMode 7 = 1 ∧
     (run (.pulseEdge 7 true ⟨5, 6⟩) s).acq.pulse[7]?.map (·.count) = some 1 ∧
     (run (.pulseEdge 7 true ⟨5, 5⟩) s).acq.pulse[7]?.map (·.count) = some 0) ∧
    (let s := w fun d => d.wrN (ACQ_PULSE_CFG 7) 2
     s.pulseMode 7 = 2 ∧ (run (.pulseEdge 7 false ⟨5, 1⟩) s).acq.pulse[7]?.map (·.edges) = some [(0, 5)]) ∧
    (let s := w fun d => d.wrN (ACQ_QUAD_CFG 3) 0x0D
     s.bit (ACQ_QUAD_CFG 3) 0 = true ∧ s.fld (ACQ_QUAD_CFG 3) 9 2 = 3 ∧
     (s.acq.quad.getD 3 {}).qa = false ∧ (s.acq.quad.getD 3 {}).qb = false ∧
     (run (.quadTransition 3 ⟨true, 4⟩ ⟨true, 4⟩) s).rd (ACQ_QUAD_ERR 3) = 1#32 ∧
     codes (run (.quadTransition 3 ⟨true, 4⟩ ⟨true, 4⟩) s) = [0x0808] ∧
     (run (.quadTransition 3 ⟨true, 4⟩ ⟨true, 3⟩) s).acq.quad[3]?.map (·.pos) = some 1 ∧
     (run (.quadTransition 3 ⟨true, 3⟩ ⟨true, 3⟩) s).acq.quad[3]?.map (·.qa) = some false) ∧
    (run (.quadTransition 3 ⟨true, 4⟩ ⟨true, 4⟩) State.reset).acq.quad[3]?.map (·.qb) = some true ∧
    State.reset.acqLocked (ACQ_QUAD_ZERO 3) 1 = none ∧
    (run (.quadZero 3) State.reset).acq.quad[3]?.map (·.zeroPend) = some true := by decide +kernel

/-! CAN. -/

/-- Controller 7 runs, with good timing, classical, error active; other settings by f. -/
def can (f : CanCtl → CanCtl) (g : Dev → Dev := id) : State :=
  w fun d => g { d.wrN (CAN_CTRL 7) 0 |>.setFld (CAN_STAT 7) 1 0 0 with can.ctl := modAt d.can.ctl 7 f }

def txOf (won : Bool) : CanTx := { frame := { frameX with id := 1 }, won := won }
def rxFrame : CanFrame := { frameX with id := 0x7FF }

theorem test_can_start :
    shaped State.reset = true ∧ State.reset.mode = 0 ∧ State.reset.bit (CAN_CTRL 7) 0 = true ∧
    timingFault (State.reset.rd (CAN_NBT 7)) (State.reset.rd (CAN_DBT 7)) false = 0 ∧
    (run (.canLeaveInit 7 0) State.reset).canState 7 = 0 ∧
    timingFault ((w fun d => d.wrN (CAN_NBT 7) 0).rd (CAN_NBT 7)) 0 false = 1 ∧
    codes (run (.canLeaveInit 7 0) (w fun d => d.wrN (CAN_NBT 7) 0)) = [0x090A] ∧
    (can id).bit (CAN_CTRL 7) 0 = false ∧ (run (.canEnterInit 7 1) (can id)).canState 7 = 3 ∧
    (let s := w fun d => service (d.wrN (CAN_STR_CFG 63) 0x0F)
     s.canLocked 7 = true ∧ codes (run (.canEnterInit 7 1) s) = [0x090D]) := by decide +kernel

theorem test_can_autostart :
    (let s := w fun d => (valid d).wrN (CAN_GCFG 7) 1
     s.timeValid = true ∧ (s.canc 7).auto = false ∧ s.bit (CAN_GCFG 7) 0 = true ∧ (run (.canAutostart 7) s).canState 7 = 0 ∧
     (run (.canAutostart 7) (run (.canAutostart 7) s)).canState 7 = 0) ∧ State.reset.timeValid = false := by decide +kernel

theorem test_can_errors :
    (can id).canState 7 = 0 ∧ (can id).bit (CAN_CTRL 7) 4 = false ∧ ((can id).canc 7).frames.find? CanTx.won = none ∧
    ((can fun c => { c with txErr := 127, rxErr := 127 }).canc 7).rxErr ≤ 127 ∧
    ((run (.canError 7 .transmit false) (can fun c => { c with txErr := 120 })).canc 7).txErr = 128 ∧
    (run (.canError 7 .transmit false) (can fun c => { c with txErr := 120 })).canState 7 = 1 ∧
    (run (.canError 7 .transmit false) (can fun c => { c with txErr := 119 })).canState 7 = 0 ∧
    ((run (.canError 7 .receiveDominant false) (can id)).canc 7).rxErr = 8 ∧
    ((run (.canError 7 .transmitUncounted false) (can id)).canc 7).txErr = 0 := by decide +kernel

def busOff : State := can id fun d => d.setFld (CAN_STAT 7) 1 0 2

theorem test_can_recovery :
    busOff.canState 7 = 2 ∧ busOff.recovering 7 = false ∧ (run (.canRecover 7) busOff).recovering 7 = true ∧
    (run (.canRecoveryDone 7) (run (.canRecover 7) busOff)).canState 7 = 0 ∧
    codes (run (.canRecoveryDone 7) (run (.canRecover 7) busOff)) = [0x0904] ∧
    (run (.canHpRelease 7) (can id fun d => d.wrN (CAN_HP_STAT 7) 1)).bit (CAN_HP_STAT 7) 0 = false := by decide +kernel

theorem test_can_transmit :
    ((can id).canc 7).tb2 = none ∧ ((run (.canTb2Request 7 8) (can id)).canc 7).tb2 = some { frame := (can id).tb2Frame 7 8 } ∧
    (run (.canTb2Request 7 8) (can id)).rd (CAN_LEDGER_IN 7) = 1#32 ∧
    ((can fun c => { c with tb2 := some (txOf false) }).canc 7).tb2 = some (txOf false) ∧
    ((run (.canTb2Cancel 7) (can fun c => { c with tb2 := some (txOf false) })).canc 7).tb2 = none ∧
    ((run (.canTb2Cancel 7) (can fun c => { c with tb2 := some (txOf true) })).canc 7).tb2 =
      some { txOf true with cancel := true } ∧
    (let s := can fun c => { c with tb2 := some (txOf true) }
     (s.canc 7).next2 = none ∧ ((run (.canTb2Request 7 8) s).canc 7).next2 = some { frame := s.tb2Frame 7 8 } ∧
     ((run (.canTb2Cancel 7) (run (.canTb2Request 7 8) s)).canc 7).next2 = none ∧
     (run (.canTb2Cancel 7) (run (.canTb2Request 7 8) s)).rd (CAN_LEDGER_DROP 7) = 1#32) ∧
    (run (.canTb2Request 7 8) (can fun c => { c with tb2 := some (txOf false) })).rd (CAN_LEDGER_DROP 7) = 1#32 := by decide +kernel

theorem test_can_arbitration :
    (let s := can fun c => { c with tb1 := some (txOf false) }
     (s.canc 7).buf 1 = some (txOf false) ∧ s.canRunning 7 = true ∧ s.arbFirst 7 [0, 1, 2] = some 1 ∧
     (s.canc 7).frames.all (fun t => !t.won) = true ∧ s.bit (CAN_CTRL 7) 4 = false ∧
     ((run (.canArbitrationWon 7 1 []) s).canc 7).tb1 = some (txOf true)) ∧
    (let s := can fun c => { c with tb1 := some (txOf true), queue := [txOf false] }
     ((run (.canArbitrationLost 7 1) s).canc 7).tb1 = some (txOf false) ∧ (s.canc 7).txErr ≤ 128 ∧
     ((run (.canFrameSent 7 1 0 0) s).canc 7).tb1 = some (txOf false) ∧
     (run (.canFrameSent 7 1 0 0) s).rd (CAN_LEDGER_OUT 7) = 1#32) ∧
    (let s := can fun c => { c with tb0 := some (txOf true) }
     (run (.canFrameSent 7 0 9 0) s).rd (CAN_TREF_SOF 7) = 9#32) ∧
    ((can id).canc 7).buf 0 = none := by decide +kernel

/-- Filter 63 takes every standard identifier; with hp it is of high priority. -/
def filtered (hp : Bool) (f : CanCtl → CanCtl) : State :=
  can f fun d => d.wrN (CAN_FLT_ID 7 63) (0x40000000 + bnat hp * 2 ^ 31)

def full : CanCtl → CanCtl := fun c => { c with rxf := List.replicate 64 { frame := rxFrame, filter := 0, stamp := 0 } }

theorem test_can_reception :
    (filtered false id).canFilter 7 rxFrame = some (63, false) ∧ (filtered true id).canFilter 7 rxFrame = some (63, true) ∧
    (can id).canFilter 7 rxFrame = none ∧ ((filtered false full).canc 7).rxf.length = 64 ∧
    ((run (.canFrameReceived 7 rxFrame false 9) (filtered false id)).canc 7).rxf = [{ frame := rxFrame, filter := 63, stamp := 9 }] ∧
    (run (.canFrameReceived 7 rxFrame false 9) (filtered false full)).fld (CAN_RXF_STAT 7) 31 16 = 1 ∧
    (run (.canFrameReceived 7 rxFrame false 9) (filtered true id)).bit (CAN_HP_STAT 7) 0 = true ∧
    ((run (.canFrameReceived 7 rxFrame false 9) (can id)).canc 7).rxf = [] ∧
    State.reset.canRunning 7 = false ∧ (filtered false id).canRunning 7 = true ∧ rxFrame.fdf = false ∧
    ((run (.canRxfPop 7) (filtered false full)).canc 7).rxf.length = 63 ∧
    (run (.canRxfPop 7) (filtered false full)).fld (CAN_RXF_STAT 7) 6 0 = 63 := by decide +kernel

theorem test_can_fd :
    (let f : CanFrame := { rxFrame with fdf := true }
     let s := filtered false fun c => { c with fd := true }
     s.canRunning 7 = true ∧ (s.canc 7).fd = true ∧ ((run (.canFrameReceived 7 f true 9) s).canc 7).integrating = true ∧
     codes (run (.canFrameReceived 7 f true 9) s) = [0x090B] ∧ ((run (.canFrameReceived 7 f false 9) s).canc 7).rxf.length = 1 ∧
     ((filtered false id).canc 7).fd = false ∧
     ((run (.canFrameReceived 7 f false 9) (filtered false id)).canc 7).rxErr = 1 ∧
     ((run (.canFrameReceived 7 f false 9) (filtered false id)).canc 7).rxf = []) := by decide +kernel

/-! Safety. -/

/-- Canopy runs with an accepted table, and Understory's watch is on. -/
def canopy (f : Dev → Dev := id) : State :=
  w fun d => f { d with safe := { d.safe with halt := false, up := true, table := true, ustSusp := false, ustAlive := true } }
/-- Input 15 is of a kind. -/
def input (kind : Nat) : Dev → Dev := fun d => d.wrN (SAFE_IN_CFG 15) kind
/-- Output 11 acts on input 15, with no start input. -/
def output (cfg : Nat := 0) : Dev → Dev := fun d => d.wrN (SAFE_OUT_CFG 11) (0x8000 + cfg)
def outOn (d : Dev) : Dev := { d with safe.out := modAt d.safe.out 11 fun o => { o with on := true } }
def thirdSample (smp : Nat) (kind : Nat) : State :=
  canopy fun d =>
    let d := input kind d
    { d with safe := { d.safe with smp := smp, chan := modAt d.safe.chan 31 fun c => { c with run := 2 } } }

theorem test_safety_inputs :
    shaped (thirdSample 499 1) = true ∧ (thirdSample 499 1).safe.halt = false ∧ inWindow 499 = false ∧ inWindow 15 = false ∧
    inWindow 14 = true ∧ inWindow 0 = true ∧
    (thirdSample 499 1).inKind 15 = 1 ∧ (thirdSample 15 2).inKind 15 = 2 ∧
    ((run (.canopySample 0 0x8000 0) (thirdSample 499 1)).schan 15 true).closed = true ∧
    (run (.canopySample 0 0x8000 0) (thirdSample 499 1)).safe.smp = 0 ∧
    ((run (.canopySample 0 0x8000 0) (thirdSample 14 1)).schan 15 true).closed = false ∧
    ((run (.canopySample 0 0x8000 0) (thirdSample 499 1)).sin 15).demand = true ∧
    ((run (.canopySample 0 0x0000 0) (thirdSample 15 2)).sin 15).demand = true ∧
    State.reset.safe.halt = true := by decide +kernel

def waiting (b : Bool) : State := canopy fun d => { d with safe.inp := modAt d.safe.inp 15 fun x => { x with late := some b } }

theorem test_safety_filters :
    ((waiting true).sin 15).late = some true ∧ ((canopy).sin 15).late = none ∧
    (run (.discrepancyTimeout 15) (waiting true)).safe.causes = [(1, 15, 0)] ∧
    (run (.discrepancyTimeout 15) (waiting false)).safe.causes = [(1, 15, 1)] ∧
    State.reset.safe.ustOn = true ∧ ((run (.ustInputFilter 15 true true) State.reset).schan 15 true).ust = true ∧
    (w fun d => { d with safe.ustOn := false }).safe.ustOn = false := by decide +kernel

/-- The permit of output 11 stands, as Canopy predicts it; a test of Understory's switch, and a latch. -/
def permitted : State := canopy fun d => { output 0 d with safe.ustCfg := true }

theorem test_safety_monitors :
    canopy.safe.halt = false ∧ canopy.safe.dark.elim false (fun t => t.out == 11) = false ∧ canopy.soOn 11 ≠ true ∧
    (run (.readbackMismatch 11 true) canopy).safe.causes = [(4, 11, 0)] ∧
    (run (.readbackMismatch 11 false) canopy).safe.causes = [] ∧
    (canopy fun d => { d with safe.dark := some { out := 11, ust := false } }).safe.dark.elim false (fun t => t.out == 11) = true ∧
    canopy.permitPredicted 11 ≠ canopy.permit 11 ∧ (run (.permitMismatch 11) canopy).safe.causes = [(13, 11, 0)] ∧
    State.reset.safe.halt = true ∧ (run (.permitMismatch 11) State.reset).safe.causes = [] ∧
    (run (.romCrcCheck false) canopy).safe.causes = [(7, 0, 0)] ∧
    (run (.ustHeartbeatCheck 6) canopy).safe.causes = [(12, 0, 0)] ∧
    (run (.ustHeartbeatCheck 7) canopy).safe.causes = [] ∧ (run (.ustHeartbeatCheck 13) canopy).safe.causes = [] ∧
    (run (.ustHeartbeatCheck 14) canopy).safe.causes = [(12, 0, 0)] ∧
    (run (.ustHeartbeatCheck 656) canopy).fld SAFE_UST_FREQ 15 0 = 65535 ∧
    (run (.ustHeartbeatCheck 6) State.reset).safe.causes = [] := by decide +kernel

theorem test_understory_monitors :
    canopy.safe.ustOn = true ∧ canopy.safe.ustSusp = false ∧ canopy.deadfall = false ∧ canopy.permit 11 = false ∧
    codes (run .canopyHeartbeatLost canopy) = [0x0C01] ∧ (run .canopyHeartbeatLost canopy).safe.ustLatch = true ∧
    params (run (.ustReadbackFault 11) canopy) = [(15, 22)] ∧ State.reset.safe.ustSusp = true := by decide +kernel

/-- A dark test of output 11 at its check, n samples after the opening. -/
def dark (ust : Bool) (n : Nat := 9) : State := canopy fun d => { outOn (output 0 d) with
  safe.dark := some { out := 11, ust := ust, smp := n } }
def failedOnce : State :=
  let s := dark false
  { s with safe := { s.safe with out := modAt s.safe.out 11 fun o => { o with fails := 1 } } }
def scan : ScanIn := { rb := 0 }
def aged (n : Nat) (retry : Bool) : State := canopy fun d =>
  let d := output (5 * 2 ^ 21) d
  { d with safe.out := modAt d.safe.out 11 fun o => { o with on := true, age := some n, retry := retry } }

theorem test_safety_decisions :
    shaped (canopy (output 0)) = true ∧ (canopy (output 0)).safe.causes = [] ∧ (canopy (output 0)).offReason 11 = none ∧
    ((run (.canopyScanEnd scan) (canopy (output 0))).sout 11).on = true ∧
    ((run (.canopyScanEnd scan) (canopy (output 0x10000))).sout 11).on = false ∧
    ((run (.canopyScanEnd scan) (canopy fun d => outOn (output 0x10000 d))).sout 11).on = true ∧
    (canopy (output 0)).offReason 10 = some 4 ∧
    (let s := canopy fun d => { outOn (output 0 d) with safe.causes := [(5, 11, 0), (4, 3, 0)] }
     lowestCause s.safe.causes = some (4, 3, 0) ∧ s.deadfall = false ∧
     s.safe.halt = false) ∧
    ((canopy fun d => outOn (output 0 d)).sout 11).on = true ∧ (canopy (output 0)).outMask 11 = 0x8000 ∧
    ((run (.darkTestDue 11) (aged 20000 false)).sout 11).due = true ∧ ((run (.darkTestDue 11) (aged 19999 false)).sout 11).due = false ∧
    ((run (.darkTestDue 11) (aged 4000 true)).sout 11).due = true ∧ canopy.outMask 0 = 0 := by
  decide +kernel

theorem test_dark_tests :
    (dark true).safe.dark = some { out := 11, ust := true, smp := 9 } ∧ (dark true).darkSamples 11 = 9 ∧
    (run (.darkTestCheck false) (dark true 8)).safe.dark.isSome = true ∧ ((run (.darkTestCheck false) (dark true)).sout 11).ustNext = true ∧
    (run (.darkTestCheck false) (dark true)).fld SAFE_DARK_CNT 15 0 = 1 ∧
    params (run (.darkTestCheck true) (dark true)) = [(11, 1)] ∧ (run (.darkTestCheck true) (dark true)).safe.causes = [] ∧
    (run (.darkTestCheck true) (run (.darkTestCheck true) (dark true))).safe.causes = [] ∧
    (run (.darkTestCheck true) failedOnce).safe.causes = [(6, 11, 0)] ∧
    ((run .ustDarkSelfClose (dark true)).safe.dark.map DarkTest.selfClosed) = some true ∧
    ((run .ustDarkSelfClose (dark false)).safe.dark.map DarkTest.selfClosed) = some false ∧
    canopy.safe.dark = none := by decide +kernel

/-- In Deadfall for 12 s, with every input well for as long. -/
def fallen : State := canopy fun d => { d.wrN SAFE_UST_FREQ 1300 with
  safe.canopyLatch := true, safe.dfAge := 12000, safe.wellAge := 12000 }

theorem test_safety_resets :
    shaped fallen = true ∧ fallen.safe.halt = false ∧ fallen.deadfall = true ∧ ¬ fallen.safe.dfAge < 4 * 3000 ∧
    fallen.inputsWell = true ∧ fallen.safe.causes = [] ∧ fallen.fld SAFE_UST_FREQ 15 0 = 1300 ∧
    (run (.safeResetPulse 200 150000 0 true true) fallen).deadfall = false ∧
    codes (run (.safeResetPulse 3000 3750000 0 true true) fallen) = [0x0C02] ∧
    fallen.pulseResult 199 150000 0 true = 2 ∧ fallen.pulseResult 3001 150000 0 true = 3 ∧
    { fallen with safe.wellAge := 799 }.pulseResult 200 150000 0 true = 4 ∧
    fallen.pulseResult 200 149999 0 true = 7 ∧ fallen.pulseResult 200 150000 1 true = 5 ∧
    params (run (.safeResetPulse 199 150000 0 true true) fallen) = [(2, 199)] ∧
    codes (run (.safeResetPulse 3001 150000 0 true true) fallen) = [] ∧ fallen.safe.dfAge < 4 * 3001 ∧
    canopy.pulseResult 200 150000 0 true = 6 ∧ State.reset.safe.halt = true := by decide +kernel

theorem test_start_ups :
    (run (.canopyStartup true true none) (canopy fun d => { d with safe.up := false })).safe.up = true ∧
    (canopy (input 2)).inKind 15 = 2 ∧ State.reset.safe.ustSusp = true ∧ State.reset.safe.ustAnn = false ∧
    State.reset.safe.ustAlive = false ∧ codes (run .ustSuspensionEnd State.reset) = [0x0C01] ∧
    (let s := w fun d => { d with safe.ustAlive := true }
     (run .ustSuspensionEnd s).safe.ustLatch = false) ∧ canopy.safe.ustSusp = false ∧
    (run .vddUstPowerOn canopy).safe.ustSusp = true ∧ (run .vddUstLow canopy).safe.ustSw = false ∧
    (run .vddUstReturn (run .vddUstLow canopy)).safe.ustSw = true := by decide +kernel

/-! Network, network time and standing. -/

/-- Port B is up, in a mode of the network. -/
def upB (mode : Nat) (f : Dev → Dev := id) : State :=
  w fun d => f { d.setBit NET_STAT 1 true with net.cfg := BitVec.ofNat 32 (0x68 + mode) }
def aimed : NetFrame := { netX with dst := 0xFFFFFFFFFFFF }
def noted (d f : Bool) : Dev → Dev := fun s =>
  { s with net.delTab := if d then [{ src := 0xA, seq := 1, portB := true, made := 0 }] else [],
           net.fwdTab := if f then [{ src := 0xA, seq := 1, portB := true, made := 0 }] else [] }
def ptpX : NetTx := { frame := { netX with etype := 0x88F7, pcp := 7, payload := [0] }, fwd := true }

theorem test_ring_ports :
    State.reset.netMode = 2 ∧ State.reset.portRate true = 2 ∧ State.reset.linkUp true = false ∧
    ((run (.rateFallbackTimer true) State.reset).port true).try1g = true ∧ (upB 0).netMode = 0 ∧ (upB 2).linkUp true = true ∧
    State.reset.rateOk true false = true ∧ State.reset.rateOk true true = false ∧
    (run (.linkUp true true) State.reset).linkUp true = false ∧ (run (.linkUp true false) State.reset).linkUp true = true ∧
    (run (.linkUp true true) (run (.rateFallbackTimer true) State.reset)).bit NET_STAT 3 = true ∧
    params (run (.linkUp true false) State.reset) = [(1, 0)] ∧ codes (run (.linkDown true) (upB 2)) = [0x0A02] ∧
    State.reset.inService = false ∧ (w service).inService = true ∧ codes (run (.netCfgWrite 0) (w service)) = [0x0A0D] ∧
    (run (.netCfgWrite 0xFFFFFFFF) State.reset).rd NET_CFG = 0x1FF#32 := by decide +kernel

/-- An entry made at cycle 0 goes once its time of 400 ms ends within the tick, and not a tick before. -/
theorem test_duplicates_end :
    (let s (n : Nat) := upB 2 fun d => { noted true true d with seq.cyc := n }
     State.reset.forgetMs = 400 ∧ ((run (.duplicateEntryExpiry true 0xA 1 true) (s 124882813)).net.delTab) = [] ∧
     ((run (.duplicateEntryExpiry true 0xA 1 true) (s 124882812)).net.delTab).length = 1 ∧
     ((run (.duplicateEntryExpiry false 0xA 1 true) (s 124882813)).net.fwdTab) = [] ∧
     ((run (.duplicateEntryExpiry false 0xA 1 false) (s 124882813)).net.fwdTab).length = 1) := by decide +kernel

theorem test_egress :
    (upB 2 fun d => d.setPort true fun p => { p with egress := [ptpX] }).linkUp true = true ∧
    takeFirst ((upB 2 fun d => d.setPort true fun p => { p with egress := [ptpX] }).port true).egress = some (ptpX, []) ∧
    ptpX.fwd = true ∧ u8 ((upB 2).inFlight ptpX 0).payload 0 % 16 = 0 ∧
    (run (.egressTransmit true 0) (upB 2 fun d => d.setPort true fun p => { p with egress := [ptpX] })).fld NET_TC_CNT 31 0 = 1 ∧
    takeFirst (State.reset.port true).egress = none ∧
    ((run .supervisionSend (upB 2)).port true).egress.map (fun x => x.frame.etype) = [0x88FB] ∧ (upB 2).buffered true + 64 ≤ 262144 ∧
    (let s (n : Nat) := w fun d => { d.setBit NET_STAT 4 true with net.a.sup := some 0, net.b.sup := some 0, seq.cyc := n }
     (s 0).bit NET_STAT 4 = true ∧ (s 0).supMs = 4000 ∧ (s 0).spanOver 0 4000 = false ∧ (s 1249882813).spanOver 0 4000 = true ∧
     codes (run .ringOpenTimeout (s 1249882812)) = [] ∧ codes (run .ringOpenTimeout (s 1249882813)) = [0x0A04]) := by decide +kernel

theorem test_ring_frames :
    (upB 1).netMode = 1 ∧ (upB 1).linkUp true = true ∧ (upB 1).linkUp false = false ∧ 1528 < { netX with len := 1529 }.len ∧
    (run (.ringFrameReceived true { netX with len := 1529 }) (upB 1)).fld NET_RX_ERR 31 16 = 1 ∧
    (run (.ringFrameReceived true { aimed with len := 1528 }) (upB 1)).fld NET_RX_ERR 31 16 = 0 ∧
    (upB 1).dstOk aimed.dst = true ∧ (upB 1).dstOk netX.dst = false ∧ (upB 1).listed { aimed with etype := 0x88F7 } = true ∧
    (upB 1).listed aimed = false ∧ (run (.ringFrameReceived true aimed) (upB 1)).fld NET_UNK_CNT 31 0 = 1 := by decide +kernel

/-- Both ports are up in HSR. -/
def ring (f : Dev → Dev := id) : State := upB 2 fun d => f (d.setBit NET_STAT 0 true)

theorem test_hsr_frames :
    netX.src ≠ ring.ownMac ∧ aimed.dst ≠ ring.ownMac ∧ linkLocal aimed = false ∧
    linkLocal { aimed with etype := 0x88F7, payload := [2] } = true ∧ ring.dupHas ring.net.fwdTab aimed = false ∧
    ring.linkUp false = true ∧ ring.netMode ≠ 0 ∧ ring.buffered false + aimed.len ≤ 262144 ∧
    (run (.ringFrameReceived true aimed) ring).fld NET_FWD_CNT 31 0 = 1 ∧
    (run (.ringFrameReceived true aimed) ring).net.delTab.getLast? = some { src := 0xA, seq := 1, portB := true, made := 0 } ∧
    ((run (.ringFrameReceived true aimed) ring).port false).egress.length = 1 ∧
    (let s := ring (noted true true)
     s.dupHas s.net.fwdTab netX = true ∧ s.dupHas s.net.delTab netX = true ∧
     (run (.ringFrameReceived true netX) s).fld NET_DUP_CNT 31 0 = 1) ∧
    (let bad : NetFrame := { aimed with fcsOk := false }
     bitOf ring.net.cfg.toNat 6 = true ∧ ring.bit NET_STAT 2 = ring.bit NET_STAT 3 ∧ (ring.port false).egress.isEmpty = true ∧
     (run (.ringFrameReceived true bad) ring).fld NET_RX_ERR 31 16 = 1 ∧
     ((run (.ringFrameReceived true bad) ring).port false).egress.map (fun x => x.frame.fcsOk) = [false] ∧
     ((run (.ringFrameReceived true bad) (ring fun d => d.setBit NET_STAT 2 true)).port false).egress = []) := by decide +kernel

theorem test_own_frames :
    (let f : NetFrame := { aimed with src := 0, etype := 0x88FB }
     let s := ring fun d => { d with net.a.sup := some 0 }
     f.src = s.ownMac ∧ s.bit NET_STAT 4 = false ∧ s.spanPast 0 s.supMs = false ∧
     (run (.ringFrameReceived true f) s).bit NET_STAT 4 = true ∧ codes (run (.ringFrameReceived true f) s) = [0x0A03] ∧
     ((run (.ringFrameReceived true f) ring).port true).sup = some 0 ∧ codes (run (.ringFrameReceived true f) ring) = [] ∧
     ((run (.ringFrameReceived true { f with etype := 0x0800 }) ring).port true).sup = none) := by decide +kernel

theorem test_prp_frames :
    (upB 3).netMode = 3 ∧ { aimed with lanB := true }.lanB = true ∧ aimed.lanB ≠ true ∧ (upB 3).dstOk netX.dst = false ∧
    (run (.prpFrameReceived true { netX with lanB := true }) (upB 3 (noted true false))).fld NET_DUP_CNT 31 0 = 1 ∧
    (let f : NetFrame := { aimed with lanB := true, etype := 0x88F7 }
     (upB 3).listed f = true ∧ linkLocal f = false ∧ (run (.prpFrameReceived true f) (upB 3)).net.delTab.length = 1) ∧
    (run (.prpFrameReceived true { aimed with lanB := true }) (upB 3)).fld NET_UNK_CNT 31 0 = 1 ∧
    (run (.prpFrameReceived true aimed) (upB 3)).fld NET_WRONG_LAN 31 0 = 1 ∧
    codes (run (.prpFrameReceived true { aimed with etype := 0x88F7, payload := [10] }) (upB 3)) = [0x0A0E] ∧
    bitOf State.reset.net.cfg.toNat 8 = false ∧
    (let s := w fun d => { d.wrN (HOST_ROUTE 1) 0x8F0000 with net.cfg := 0x16A }
     bitOf s.net.cfg.toNat 8 = true ∧ s.routed 9 = some 15 ∧
     s.repFits 15 1 = false ∧ (run (.s450DatagramReceived 1 [2]) s).fld (HOST_LIVE 15 3) 31 0 = 1) := by decide +kernel

/-- A full table drops its oldest entry. -/
theorem test_eviction :
    (let e (n : Nat) : DupEntry := { src := 0xB, seq := BitVec.ofNat 16 n, portB := true, made := 0 }
     let s := upB 3 fun d => { d with net.delTab := (List.range 4096).map e }
     s.net.delTab.length = 4096 ∧
     (run (.prpFrameReceived true { aimed with lanB := true, etype := 0x88F7 }) s).fld NET_EVICT_CNT 31 0 = 1 ∧
     (run (.prpFrameReceived true { aimed with lanB := true, etype := 0x88F7 }) s).net.delTab.head? = some (e 1)) := by decide +kernel

/-- PTP of domain 0 is on, and the device hears one grandmaster at port B. -/
def annX (gm : BitVec 64) : AnnounceIn := { domain := 0, prio1 := 128, cls := 6, acc := 0, variance := 0, prio2 := 128, gm := gm }
def ptp (f : Dev → Dev := id) : State := w fun d => f { d with net.tsrc := 0x8 }
def slave : Dev → Dev := fun d => { (d.setBit NET_TIME_STAT 6 true).setBit NET_TIME_STAT 5 true with
  net.best := some (annX 7), net.b := { d.net.b with heard := true } }
def syncX : SyncIn := { domain := 0, gm := 7, origin := 0, correction := 0, receive := 100 }

theorem test_announces :
    ptp.ptpFor 0 = true ∧ ptp.ptpFor 1 = false ∧ ptp.tsel = 0 ∧ ptp.net.best = none ∧ (ptp slave).net.best = some (annX 7) ∧
    (run (.ptpAnnounceReceived true (annX 7)) ptp).net.best = some (annX 7) ∧ (run (.ptpAnnounceReceived true (annX 7)) ptp).slaveB = true ∧
    (annX 7).gm = 7 ∧ (run (.ptpAnnounceReceived false (annX 7)) (ptp slave)).slaveB = false ∧
    (run (.ptpAnnounceReceived false (annX 6)) (ptp slave)).net.best = some (annX 6) ∧
    (run (.ptpAnnounceReceived false (annX 8)) (ptp slave)).net.best = some (annX 7) := by decide +kernel

def synced (k : Nat) (m : Bool) : State := ptp fun d => { slave d with net.syncRun := k, net.b := { d.net.b with measured := m, heard := true } }

theorem test_syncs :
    (synced 3 true).syncOk true syncX = true ∧ (synced 3 true).syncOk true { syncX with gm := 8 } = false ∧
    (synced 3 true).timeValid = false ∧ ((synced 3 true).port true).measured = true ∧ (synced 3 true).net.syncRun = 3 ∧
    (run (.ptpSyncReceived true syncX) (synced 3 true)).timeValid = true ∧
    codes (run (.ptpSyncReceived true syncX) (synced 3 true)) = [0x0A07] ∧
    (run (.ptpSyncReceived true syncX) (synced 2 true)).net.syncRun = 3 ∧
    (run (.ptpSyncReceived true syncX) (synced 2 true)).timeValid = false ∧
    (run (.ptpSyncReceived true syncX) (synced 2 false)).net.syncRun = 0 ∧
    (run (.ptpSyncReceived true syncX) (synced 2 true)).rd NET_PTP_OFS = 100#32 := by decide +kernel

theorem test_ptp_service :
    (ptp slave).bit NET_TIME_STAT 5 = true ∧ ((ptp slave).port (!(ptp slave).slaveB)).heard = false ∧
    (run .ptpSyncTimeout (ptp slave)).net.best = none ∧ State.reset.timeSource ≠ 2 ∧
    (let s := ptp fun d => { slave d with net.a := { d.net.a with heard := true } }
     (s.port (!s.slaveB)).heard = true ∧ (run .ptpSyncTimeout s).slaveB = false ∧ (run .ptpSyncTimeout s).net.best = some (annX 7)) ∧
    (let s := ptp fun d => d.setFld NET_TIME_STAT 1 0 2 |> slave
     s.timeSource = 2 ∧ (run .ptpSyncTimeout s).bit NET_TIME_STAT 3 = true) ∧ State.reset.bit NET_TIME_STAT 5 = false ∧
    bitOf ptp.net.tsrc.toNat 3 = true ∧ bitOf (w fun d => { d with net.tsrc := 0 }).net.tsrc.toNat 3 = false ∧
    (let s := upB 2 fun d => (({ d with net.tsrc := 8 } : Dev).setBit NET_TIME_STAT 4 true).setBit NET_TIME_STAT 2 true
     s.bit NET_TIME_STAT 4 = true ∧ s.timeValid = true ∧
     [Instr.pdelayReqSend true, .pdelayMessageReceived true (.request 0), .ptpSyncSend, .ptpAnnounceSend].map
       (fun c => ((run c s).port true).egress.map fun x => x.frame.payload.head?) =
       [[some 2], [some 3], [some 0], [some 11]]) ∧
    (run (.pdelayMessageReceived true (.response 0 9)) ptp).rd (NET_PDELAY true) = 9#32 ∧ State.reset.bit NET_TIME_STAT 4 = false := by
  decide +kernel

def caught (n : Nat) : State := w fun d => { d.wrN NET_EVT_CFG 0x2D with net.evt := List.replicate n (1, false) }

theorem test_captures :
    (caught 15).bit NET_EVT_CFG 0 = true ∧ (caught 15).fld NET_EVT_CFG 2 1 % 3 = 2 ∧ (caught 15).fld NET_EVT_CFG 10 3 = 5 ∧
    (run (.evtInCapture true ⟨100, 6⟩) (caught 15)).net.evt.getLast? = some (74, true) ∧
    (run (.evtInCapture true ⟨100, 5⟩) (caught 15)).net.evt.length = 15 ∧
    (run (.evtInCapture true ⟨100, 6⟩) (caught 15)).fld NET_EVT_STAT 4 0 = 16 ∧ (caught 16).net.evt.length = 16 ∧
    (run (.evtInCapture true ⟨100, 6⟩) (caught 16)).fld NET_EVT_STAT 31 16 = 1 ∧ State.reset.bit NET_EVT_CFG 0 = false ∧
    (run .evtPop (caught 16)).fld NET_EVT_STAT 4 0 = 15 ∧ State.reset.net.evt = [] ∧
    (let s := w fun d => d.wrN NET_EVT_CFG 3
     s.fld NET_EVT_CFG 2 1 % 3 = 1 ∧ (run (.evtInCapture true ⟨100, 1⟩) s).net.evt.length = 1 ∧
     (run (.evtInCapture false ⟨100, 1⟩) s).net.evt.length = 0) := by decide +kernel

/-- Alarm 3 at 375,000 ns is armed, and local time is ns. -/
def armed (ns : Rat) : State := w fun d => { (d.setBit (NET_ALARM_CTL 3) 0 true).wrN (NET_ALARM_NS 3) 375000 with clk.localNs := ns }

theorem test_alarms :
    State.reset.bit (NET_ALARM_CTL 3) 0 = false ∧ (1#32).getLsbD 0 = true ∧ (2#32).getLsbD 0 = false ∧
    (armed 1).bit (NET_ALARM_CTL 3) 0 = true ∧ (armed 1).alarmNs 3 = 375000 ∧
    (run (.alarmFire 3) (armed 1)).rd (NET_ALARM_CTL 3) = 2#32 ∧ (run (.alarmFire 3) (armed 0)).rd (NET_ALARM_CTL 3) = 1#32 := by
  decide +kernel

/-- Present time lies after an alarm at 0, or not, as the local clock says. -/
theorem test_alarm_times : (w fun d => { d with clk.localNs := 1 }).alarmNs 3 < (w fun d => { d with clk.localNs := 1 }).now ∧
    (w fun d => { d with clk.localNs := ((-(Config.subTickNs d.seq.freeCtr : Int) : Int) : Rat) }).now ≤
      (w fun d => { d with clk.localNs := ((-(Config.subTickNs d.seq.freeCtr : Int) : Int) : Rat) }).alarmNs 3 := by
  have h : ∀ f : Dev → Rat, (w fun d => { d with clk.localNs := f d }).alarmNs 3 = 0 := fun _ => (by decide +kernel : State.reset.alarmNs 3 = 0)
  rw [h, h]
  simp only [Dev.now, w, Rat.floor_intCast]
  constructor
  · have : ((1 : Rat).floor : Int) = 1 := by decide +kernel
    omega
  · omega

/-- A unit of the thruster roles 0 to 2. -/
def standing (role : Nat) (f : Dev → Dev := id) : State := w fun d => f ((d.wrN STAND_STAT role).wrN STAND_CFG 0x11210)
def heart (typ unit : Nat) (last : Byte := 5) : List Byte := [BitVec.ofNat 8 typ, 0, BitVec.ofNat 8 unit] ++ List.replicate 13 0 ++ [last, 0, 0, 0]

theorem test_standing_frames :
    (standing 1).roleBad = false ∧ (standing 1).role = 1 ∧ (standing 1).peerRole 0 = some 0 ∧ (standing 1).peerRole 1 = some 1 ∧
    (standing 1).peerRole 15 = none ∧ u8 (heart 0x11 0) 0 = 0x11 ∧
    (run (.heartbeatReceived (heart 0x11 0)) (standing 1)).stand.hbLead = some 5#32 ∧
    (run (.heartbeatReceived (heart 0x11 1)) (standing 0)).stand.hbSecond = some 5#32 ∧
    (standing 1).isPeer = true ∧ (standing 1).wardenEn = true ∧ (standing 1).stdUnit 2 = 2 ∧
    (run (.standingFrameReceived (heart 0x12 2)) (standing 1)).stand.frame =
      some { dseq := 5, unit := 0, role := 0, decided := false, reason := 0 } ∧
    (standing 1).holds = false ∧ (run (.stateSetPartReceived (heart 0x13 0 2)) (standing 1)).stand.parts.length = 1 ∧
    u8 (heart 0x13 0 2) 16 = 2 := by decide +kernel

theorem test_wardenless :
    (let s (tick : Nat) := standing 0 fun d => (d.setFld STAND_MISS 23 16 2).setFld STAND_LEAD_SDW 0 0 1 |>.setFld GLB_TICK_STAT 6 0 tick
     (s 2).isPeer = true ∧ (s 2).wardenEn = true ∧ (s 2).bit STAND_STAT 5 = false ∧ (s 2).hbMiss < (s 2).fld STAND_MISS 23 16 ∧
     (s 2).tick = 2 ∧ (s 3).tick ≠ 2 ∧ (run .wardenLost (s 2)).holds = true ∧ codes (run .wardenLost (s 2)) = [0x0B08] ∧
     (run .wardenLost (s 3)).bit STAND_STAT 5 = true ∧ codes (run .wardenLost (s 3)) = [0x0B08]) ∧
    (let s := standing 1 fun d => (d.setFld STAND_MISS 23 16 2).setFld STAND_LEAD_SDW 0 0 1 |>.setFld GLB_TICK_STAT 6 0 2
     (run .wardenLost s).bit STAND_STAT 5 = true ∧ (run .wardenLost s).holds = false) ∧
    (standing 0).fld STAND_MISS 23 16 ≤ (standing 0).hbMiss ∧
    (let s (n : Nat) := standing 1 fun d => { d with stand.trackMiss := n }
     (s 1).bit STAND_STAT 6 = false ∧ (s 1).holds = false ∧ (s 1).fld STAND_CFG 23 20 < (s 1).stand.trackMiss ∧
     params (run .trackLost (s 1)) = [(0, 1)] ∧ (run .trackLost (s 1)).bit STAND_STAT 6 = true ∧
     (run .trackLost (s 0)).bit STAND_STAT 6 = false) := by decide +kernel

theorem test_swaps :
    (let s (n : Nat) := standing 2 fun d => { d.wrN STAND_SWAP 1 with stand.holder := some false, stand.heldCycles := n }
     (s 180000).isWarden = true ∧ (s 180000).stand.holder ≠ none ∧ (s 180000).fld STAND_SWAP 15 0 = 1 ∧
     (run .swapDue (s 180000)).stand.swapDue = true ∧ (run .swapDue (s 179999)).stand.swapDue = false) ∧
    (let s := standing 2 fun d => d.setFld GLB_HW_REQ0 8 6 0
     s.sessOk 2 = true ∧ (run .standingSwapCommand s).stand.cmd = true) ∧
    (let s := standing 2 fun d => d.setFld GLB_HW_REQ0 8 6 4
     s.sessOk 2 = false ∧ codes (run .standingSwapCommand s) = [0x0B07]) ∧ (standing 1).isWarden = false := by decide +kernel

/-! Thicket, the recorder, the panel and Glade. -/

/-- Gateway 255 is on, with the key of slot 0. -/
def thicket (f : Dev → Dev := id) : State :=
  w fun d => f ((((d.wrN THKT_CFG 1).wrN (THKT_GW_CFG 255) 1).wrN (GLB_SLOT 0) 2))
def entry : List Byte := [1, 1, 65] ++ List.replicate 29 0
def frameBody : List Byte := [0xD0, 1, 255, 1, 9, 0, 0, 0] ++ List.replicate 8 0 ++ entry
def report : List Byte := frameBody ++ (hmac256 [] frameBody).take 16

theorem test_thicket_frames :
    (w fun d => d.wrN THKT_CFG 0).bit THKT_CFG 0 = false ∧
    (run (.thicketReport 0 [] ⟨0, 0⟩) (w fun d => d.wrN THKT_CFG 0)).fld (THKT_LEDGER 3) 31 0 = 1 ∧
    thicket.bit THKT_CFG 0 = true ∧ thicket.frameBad 0 report 255 = none ∧ thicket.frameBad 1 report 0 = some 2 ∧
    thicket.frameBad 0 report 256 = some 5 ∧
    thicket.frameBad 0 [] 0 = some 1 ∧ params (run (.thicketReport 0 [] ⟨0, 0⟩) thicket) = [(0xFF, 1)] ∧
    params (run (.thicketReport 1 report ⟨0, 0⟩) thicket) = [(255, 2)] := by decide +kernel

theorem test_thicket_enrols : entryBad (slice report 16 32) = none ∧ u8 report 3 = 1 ∧ freePt 0 thicket.thkt.pts = 0 ∧
    thicket.thkt.pts = [] ∧
    (run (.thicketReport 0 report ⟨7, 0⟩) thicket).rd (THKT_GW_SEQ 255) = 9#32 ∧
    ((run (.thicketReport 0 report ⟨7, 0⟩) thicket).point 0).map ThktPt.gw = some 255 := by decide +kernel

def cargo : ThktPt := { num := 5, hash := [1, 2, 3, 4, 5, 6, 7], cls := 0, sealSt := 1, gw := 255 }
def heard (at_ : Int) : State := thicket fun d => { d with thkt.heard := [(255, at_)], thkt.pts := [cargo] }

theorem test_thicket_silence :
    State.reset.thkt.heard.filter (fun h => h.1 == 255) = [] ∧ (heard (-60)).thkt.heard.filter (fun h => h.1 == 255) = [(255, -60)] ∧
    (heard 0).bit (THKT_GW_CFG 255) 0 = true ∧ (heard 0).bit (THKT_GW_STAT 255) 0 = false ∧
    1000000000 * ((max 1 ((heard 0).fld THKT_CFG 31 16) : Nat) : Int) < (heard (-1000000001)).boundaryNs - (-1000000001) ∧
    (heard (-1000000000)).boundaryNs - (-1000000000) ≤ 1000000000 * ((max 1 ((heard 0).fld THKT_CFG 31 16) : Nat) : Int) ∧
    codes (run (.gatewaySilent 255) (heard (-1000000001))) = [0x0D05] ∧
    ((run (.gatewaySilent 255) (heard (-1000000001))).point 5).map ThktPt.sealSt = some 5 ∧
    ((run (.gatewaySilent 255) (heard (-1000000000))).point 5).map ThktPt.sealSt = some 1 := by decide +kernel

def record (sig : List Byte) (nor : Bool) : CustRec := { bytes := List.replicate 80 0, sig := sig, nor := nor }
def queued (sig : List Byte) (nor : Bool) (f : Dev → Dev := id) : State :=
  w fun d => f { d with thkt.queue := [record sig nor] }

theorem test_custody :
    (queued [] false).thkt.queue = [record [] false] ∧ (run .recordSigned (queued [] false)).thkt.queue.map (·.sig.length) = [96] ∧
    (record [1] true).sig ≠ [] ∧
    (let s := queued [1] true fun d => d.setBit LOG_STAT 0 true
     s.ringlogOk = true ∧ s.routed 4 = none ∧ (run .custodyHandoff s).thkt.queue = [] ∧
     (run .custodyHandoff s).fld (THKT_CREC 1) 31 0 = 1) ∧
    (let s := queued [1] false fun d => d.setBit LOG_STAT 0 true
     (run .custodyHandoff s).thkt.queue = [record [1] false]) ∧
    (let s := queued (List.replicate 96 1) false fun d =>
       (d.wrN (HOST_ROUTE 0) 0x8F000000).setBit (HOST_PAIR_STAT 15) 1 true
     s.routed 4 = some 15 ∧ s.repFits 15 6 = true ∧ (record (List.replicate 96 1) false).whole.length = 176) ∧ State.reset.thkt.queue = [] := by
  decide +kernel

theorem test_points :
    (0#32).getLsbD 31 = false ∧ (0x80000005#32).getLsbD 31 = true ∧
    (let s := w fun d => d.setFld GLB_HW_REQ0 11 9 0
     s.sessOk 3 = true ∧ (run (.pointReleaseCommand 0x80000005) s).thkt.rel = [5]) ∧
    (let s := w fun d => d.setFld GLB_HW_REQ0 11 9 1
     s.sessOk 3 = false ∧ (run (.pointReleaseCommand 0x80000005) s).rd THKT_REL_STAT = 2#32) ∧
    (heard 0).point 5 = some cargo ∧ (run (.pointLatch 5 0) (heard 0)).rd (THKT_PT 0) = 0x04030201#32 ∧
    (run (.pointLatch 5 2) (heard 0)).point 5 = none ∧ (run (.pointLatch 5 2) (heard 0)).thkt.corrupt = [5] ∧
    (let s := run (.pointFind 0x80070605) ((heard 0).1.wr THKT_FIND_LO 0x04030201 |> fun d => { heard 0 with toDev := d })
     s.bit THKT_FIND_RES 30 = true ∧ (run .pointFindDone s).rd THKT_FIND_RES = 0x80000005#32) ∧
    State.reset.bit THKT_FIND_RES 30 = false := by decide +kernel

/-- One event waits for Duff; Ringlog is present. -/
def ev1 (code : Nat) : EvRec := { code := code, p1 := 1, p2 := 2, p3 := 0, stamp := 0, valid := false }
def logs (f : Dev → Dev) : State := w fun d => f (d.setBit LOG_STAT 0 true)

theorem test_duff :
    State.reset.log.raised = [] ∧ nextRaised [ev1 0x0C01, ev1 0x0A01, { ev1 0x0201 with stamp := 1 }] =
      some (ev1 0x0A01, [ev1 0x0C01, { ev1 0x0201 with stamp := 1 }]) ∧ (logs fun d => { d with log.raised := [ev1 0x0A01] }).log.raised = [ev1 0x0A01] ∧
    (let s := logs fun d => { d with log.raised := [ev1 0x0A01] }
     1000 ≤ (s.bucket 0x0A01).tok ∧ s.ringlogOk = true ∧ pinnedCode 0x0A01 = false ∧ (run .eventRecord s).log.waiting = 1 ∧
     (run .eventRecord s).fld (LOG_LEDGER 0) 31 0 = 1) ∧
    (let s := logs fun d => { d with log.raised := [ev1 0x0C01] }
     pinnedCode 0x0C01 = true ∧ s.log.pin.length < 256 ∧ (run .eventRecord s).log.pin.length = 1 ∧ (run .eventRecord s).log.duff = []) ∧
    (let s := logs fun d => { d with log.raised := [ev1 0x0A01], log.buckets := [{ code := 0x0A01, tok := 999 }] }
     (s.rlRate 0x0A01).isSome = true ∧ (s.bucket 0x0A01).tok = 999 ∧ ((run .eventRecord s).bucket 0x0A01).held = 1 ∧
     (run .eventRecord s).log.duff = []) ∧ State.reset.log.buckets = [] ∧
    (let s := logs fun d => { d with log.buckets := [{ code := 0x0A01, tok := 0 }] }
     s.rlRate 0x0A01 = some 4 ∧ ((run .bucketRefill s).bucket 0x0A01).tok = 4) := by decide +kernel

def rec1 : DuffRec := { bytes := List.replicate 32 1 }

theorem test_ringlog :
    State.reset.ringlogOk = false ∧
    (let s := logs fun d => { d with log.pin := [rec1] }
     s.bit LOG_STAT 4 = false ∧ s.log.evAt < 32768 ∧ (run (.ringlogWrite true) s).log.pin = [] ∧
     (run (.ringlogWrite true) s).log.pinEv = [rec1.bytes] ∧ (run (.ringlogWrite true) s).fld (LOG_LEDGER 1) 31 0 = 1 ∧
     (run (.ringlogWrite false) s).log.bad = [3]) ∧
    (let s := logs fun d => { d with log.duff := [rec1], log.waiting := 1 }
     s.log.pin = [] ∧ s.thkt.queue = [] ∧ s.bit LOG_STAT 1 = false ∧ s.log.duff[s.log.duff.length - s.log.waiting]? = some rec1 ∧
     s.circFill s.log.cur < 2048 ∧ s.log.cur ∉ s.log.bad ∧ (run (.ringlogWrite true) s).log.waiting = 0) ∧
    (let s := logs fun d => { d with thkt.queue := [record [1] false] }
     s.log.crAt < 16384 ∧ (run (.ringlogWrite true) s).thkt.queue = [record [1] true]) ∧
    (let s := logs fun d => { d with log.ahead := false, log.cur := 511 }
     s.log.ahead = false ∧ s.nextBlock s.log.cur = some 67 ∧ (run (.norErase true) s).log.ahead = true ∧
     (run (.norErase false) s).log.bad = [67] ∧ (run (.norErase false) s).fld LOG_WEAR 31 24 = 1) ∧
    (run .stateSave (logs fun d => d.wrN LOG_OP_S 9)).log.saved.2 = 9 := by decide +kernel

/-- A session of level 4 is open. -/
def session (f : Dev → Dev := id) : State := w fun d => f ((d.setBit LOG_STAT 0 true).wrN GLB_SESS_STAT 0x84)

/-- A freeze that began at cycle 0 has lasted n cycles; FREEZE_MAX is 1 s. -/
def frozen (n : Nat) : State := session fun d => { (d.setBit LOG_STAT 1 true).setFld LOG_CFG 23 16 1 with seq.cyc := n }

theorem test_freezes :
    session.sessOk 4 = true ∧ session.bit LOG_STAT 1 = false ∧ (w fun d => d.setFld GLB_HW_REQ0 14 12 4).sessOk 4 = false ∧
    (run .freezeBegin session).bit LOG_STAT 1 = true ∧ codes (run .freezeBegin session) = [0x0E01] ∧
    (frozen 0).bit LOG_STAT 1 = true ∧ (frozen 312382813).spanOver 0 1000 = true ∧ (frozen 312382812).spanOver 0 1000 = false ∧
    params (run .freezeExpiry (frozen 312382813)) = [(1, 0)] ∧ (run .freezeExpiry (frozen 312382812)).bit LOG_STAT 1 = true ∧
    params (run .freezeEnd (frozen 0)) = [(0, 0)] ∧ codes (run .freezeEnd session) = [] := by decide +kernel

def clearing : State :=
  session fun d => { d.setBit LOG_STAT 4 true with log.clear := some (3, 7), log.circ := [(67, [[1]])], log.pinCr := [[2]] }

theorem test_clears :
    session.sessLevel 4 = true ∧ State.reset.sessLevel 4 = false ∧ (0x80000003#32).getLsbD 31 = true ∧
    bitsOf (0x80000003#32).toNat 1 0 = 3 ∧ session.ringlogOk = true ∧ session.glade.hung = false ∧
    (run (.recorderClear 0x80000003) session).log.clear = some (3, 0) ∧ params (run (.recorderClear 0x80000001) State.reset) = [(0, 1)] ∧
    params (run (.recorderClear 0x80000001) (session fun d => d.setBit LOG_STAT 1 true)) = [(0, 2)] ∧
    params (run (.recorderClear 0x80000001) (session fun d => d.setBit LOG_STAT 4 true)) = [(0, 3)] ∧
    params (run (.recorderClear 0x80000001) (session fun d => d.setBit LOG_STAT 0 false)) = [(0, 4)] ∧
    State.reset.log.clear = none ∧ clearing.log.clear = some (3, 7) ∧ clearing.bit LOG_STAT 4 = true := by decide +kernel

/-- Glade hangs: what it alone does waits. -/
theorem test_hung_glade :
    (let s := logs fun d => { d with glade.hung := true, log.pin := [rec1] }
     s.glade.hung = true ∧ (run (.ringlogWrite true) s).log.pin = [rec1]) := by decide +kernel

def panel (d : Bool) (tiles : List Nat := []) : State :=
  w fun s => { (s.setBit BLZ_STAT 2 true).setBit BLZ_STAT 4 true with blz.run := some { fields := [1], band := 3, drawing := d, tiles := tiles } }

theorem test_panel :
    (panel true [509]).blz.run = some { fields := [1], band := 3, drawing := true, tiles := [509] } ∧
    (panel false).blz.run.map BlzUpd.drawing = some false ∧ (run .panelUpdateStart (panel false)).bit BLZ_STAT 3 = true ∧
    (run (.pwrgdArrival [509, 510]) (panel false)).blz.run.map BlzUpd.tiles = some [509] ∧
    codes (run (.pgTimeout false) (panel false)) = [0x0F05] ∧ params (run (.pgTimeout true) (panel true)) = [(0, 1)] ∧
    (panel true).bit BLZ_STAT 3 = false ∧ (run .panelUpdateEnd (panel true [509])).blz.tiles = [(509, 1)] ∧
    (run .panelUpdateEnd (panel true [509])).fld BLZ_UPD_CNT 31 0 = 1 ∧ State.reset.blz.run = none ∧ State.reset.blz.retry = false ∧
    State.reset.bit BLZ_STAT 4 = false ∧ (panel false).bit BLZ_STAT 4 = true ∧ (panel false).blz.last ≠ some (panel false).panelNow ∧
    (let s := w fun d => d.setBit BLZ_STAT 4 true
     s.blz.run = none ∧ s.blz.retry = false ∧ (run .panelUpdateStart s).fld BLZ_STAT 31 16 = 1 ∧
     (run .panelUpdateStart { s with blz.last := some s.panelNow }).fld BLZ_STAT 31 16 = 0) ∧
    (let s := w fun d => { d with blz.retry := true }
     s.blz.retry = true ∧ (run .panelUpdateRetry s).blz.retry = false ∧ (run .panelUpdateRetry s).fld BLZ_STAT 31 16 = 0) := by
  decide +kernel

theorem test_panel_temperature :
    panelBand (-81) = (0, true) ∧ panelBand (-80) = (0, false) ∧ panelBand (-20) = (1, false) ∧ panelBand 400 = (7, false) ∧
    panelBand 401 = (7, true) ∧ (run (.panelTempRead (some (-1))) State.reset).fld BLZ_TEMP 15 0 = 65535 ∧
    (let s := w fun d => { d with blz.fails := 2 }
     s.bit BLZ_STAT 6 = false ∧ 2 ≤ s.blz.fails ∧ codes (run (.panelTempRead none) s) = [0x0F06]) ∧ State.reset.blz.fails < 2 ∧
    (let s := w fun d => { d.wrN BLZ_BARK 0x10000 with blz.barkHigh := 1 }
     s.fld BLZ_BARK 31 16 < 2 ∧ 1 ≤ s.blz.barkHigh ∧ s.bit BLZ_STAT 7 = false ∧ codes (run (.barkMeasure 2) s) = [0x0F08]) ∧
    (let s := w fun d => { (d.wrN BLZ_BARK 0x10000).setBit BLZ_STAT 7 true with blz.barkLow := 1 }
     1 ≤ s.fld BLZ_BARK 31 16 ∧ (run (.barkMeasure 1) s).bit BLZ_STAT 7 = false) ∧ State.reset.blz.barkLow = 0 ∧
    (run .ringcountSave (logs fun d => { d with blz.tiles := [(4, 9)] })).blz.saved = [(4, 9)] := by decide +kernel

def boot : BootIn := { nor := 0, store := none, imgNorOk := false, panelTemp := none }

/-- Glade's domain is released; BOOTSEL is b. -/
def booting (b : Nat) : State := w fun d => (d.wrN RST_STRAP b).setBit RST_DOM_STAT 1 true

theorem test_boot :
    State.reset.bit GLB_HW_STAT 0 = false ∧ State.reset.glade.waiting = false ∧ (w fun d => d.setBit GLB_HW_STAT 0 true).bit GLB_HW_STAT 0 = true ∧
    State.reset.bit RST_DOM_STAT 1 = false ∧ (run (.gladeBoot boot) State.reset).bit GLB_HW_STAT 0 = false ∧
    (booting 2).fld RST_STRAP 1 0 = 2 ∧ (booting 2).bit RST_DOM_STAT 1 = true ∧ (run (.gladeBoot boot) (booting 2)).glade.waiting = true ∧
    (run (.gladeBoot boot) (booting 2)).fld GLB_HW_STAT 5 4 = 2 ∧
    (booting 1).fld RST_STRAP 1 0 ≠ 2 ∧ boot.imgNorOk = false ∧ (run (.gladeBoot boot) (booting 1)).bit GLB_HW_STAT 0 = true ∧
    (codes (run (.gladeBoot boot) (booting 1))).contains 0x1009 = true ∧
    (let s (n : Nat) := w fun d => { d with glade.waiting := true, seq.cyc := n }
     (s 9374882813).glade.waiting = true ∧ (s 9374882813).spanOver 0 30000 = true ∧
     (run .hostWaitExpiry (s 9374882813)).glade.waiting = false ∧ (run .hostWaitExpiry (s 9374882812)).glade.waiting = true) := by
  decide +kernel

theorem test_attestation :
    State.reset.glade.att = none ∧ (run (.attestationRequest false) State.reset).glade.att = some (false, List.replicate 16 0) ∧
    (let s := w fun d => { d.wrN (HOST_ROUTE 1) 0x8F00 with glade.att := some (false, [1, 2, 3, 4]) }
     s.glade.att ≠ none ∧ s.routed 7 = some 15 ∧ (run .attestationReport s).glade.att = none) := by decide +kernel

theorem test_monitors :
    (run (.dieTempSample (List.replicate 8 (-1))) State.reset).fld (GLB_TEMP 7) 15 0 = 65535 ∧
    (let s := w fun d => (d.setFld GLB_TJ_WARN 15 0 100).setBit (GLB_TEMP 7) 16 true
     (run (.dieTempSample (List.replicate 8 84)) s).bit (GLB_TEMP 7) 16 = true ∧
     (run (.dieTempSample (List.replicate 8 83)) s).bit (GLB_TEMP 7) 16 = false ∧
     (run (.dieTempSample (List.replicate 8 100)) s).bit (GLB_TEMP 6) 16 = false ∧
     (run (.dieTempSample (List.replicate 8 101)) s).bit (GLB_TEMP 6) 16 = true) ∧
    (run (.supplySample (List.replicate 12 65536)) State.reset).fld (GLB_SUP 11) 15 0 = 65535 ∧
    (let s (n : Nat) := w fun d => { d.setFld (GLB_SUP 11) 15 0 65535 with glade.supRun := setAt d.glade.supRun 11 n }
     (s 12).bit (GLB_SUP 11) 17 = false ∧ supplyNominal 11 < (s 12).fld (GLB_SUP 11) 15 0 ∧
     codes (run (.supplyWindowFault 11 true) (s 12)) = [0x100B] ∧ codes (run (.supplyWindowFault 11 true) (s 11)) = [] ∧
     codes (run (.supplyWindowFault 11 false) (s 12)) = [] ∧
     codes (run (.supplyWindowFault 11 false) (w fun d => { d with glade.supRun := setAt d.glade.supRun 11 12 })) = [0x100B] ∧
     (run (.supplySample (List.replicate 12 65536)) (s 11)).glade.supRun.getD 11 0 = 12) ∧
    (w fun d => d.setBit (GLB_SUP 11) 16 true).bit (GLB_SUP 11) 16 = true := by decide +kernel

theorem test_owners :
    State.reset.enrolRefused 0 = 0 ∧ State.reset.enrolRefused 3 = 2 ∧ (run (.ownerEnrol 0 true) State.reset).glade.enrolled = 1 ∧
    (run (.ownerEnrol 0 false) State.reset).fld GLB_ENROL_STAT 3 0 = 5 ∧ (run (.ownerEnrol 3 true) State.reset).fld GLB_ENROL_STAT 3 0 = 2 ∧
    params (run (.ownerEnrol 3 true) session) = [(3, 1)] ∧ bitOf State.reset.glade.enrolled 3 = false ∧
    (let s := w fun d => { d with glade.enrolled := 9 }
     bitOf s.glade.enrolled 3 = true ∧ s.sessLevel 4 = false ∧ (run (.ownerRevoke 3 true) s).fld GLB_ENROL_STAT 3 0 = 2) ∧
    (let s := session fun d => { d with glade.enrolled := 9 }
     s.sessLevel 4 = true ∧ s.ownerLive 0 = true ∧ (run (.ownerRevoke 3 true) s).ownerLive 3 = false) ∧
    (let s := session fun d => { d with glade.enrolled := 8 }
     (List.range 3).all (fun j => !s.ownerLive j) = true ∧ (run (.ownerRevoke 3 true) s).fld GLB_ENROL_STAT 3 0 = 4) := by decide +kernel

/-- An image of a type, whose rollback number is its byte 8. -/
def imgX (typ wait : Nat) : ImgJob := { typ := typ, bytes := List.replicate 200 0, wait := wait }

theorem test_images :
    (w fun d => { d with glade.burns := [imgX 3 3], glade.rb := [0, 0, 5] }).glade.burns = [imgX 3 3] ∧
    (run .rollbackBurn (w fun d => { d with glade.burns := [imgX 3 3], glade.rb := [0, 0, 5] })).glade.rb = [0, 0, 5] ∧
    State.reset.glade.burns = [] ∧ (w fun d => { d with glade.job := some (imgX 3 2) }).glade.job = some (imgX 3 2) ∧
    (run (.imageSave false 9) (w fun d => { d with glade.job := some (imgX 3 2) })).glade.store = List.replicate 6 none ∧
    (run (.imageSave true 9) (w fun d => { d with glade.job := some (imgX 3 1) })).glade.store = List.replicate 6 none ∧
    (codes (run (.imageSave false 9) (w fun d => { d with glade.job := some (imgX 3 2) }))).contains 0x100E = true ∧
    ((run (.imageSave true 9) (w fun d => { d with glade.job := some (imgX 3 2) })).glade.store.getD 4 none).isSome = true ∧
    State.reset.glade.job = none := by decide +kernel

/-! Sessions and the host interface. -/

/-- Slot 7 is a session key of up to level 4; a challenge of level 4 for it is out. -/
def slot7 (f : Dev → Dev := id) : State := w fun d => f (d.wrN (GLB_SLOT 7) 0x11)
def challenged (f : Dev → Dev := id) : State := slot7 fun d => f { d.wrN GLB_SESS_STAT 0x78 with glade.sessLvl := 4 }
def response : List Word :=
  (groupsOf 4 8 (hmac256 (challenged.glade.keys.getD challenged.sessSlot []) challenged.sessMessage)).map
    fun g => BitVec.ofNat 32 (leNat g)
def answered : State := { challenged with glade := { challenged.glade with resp := response } }

theorem test_sessions :
    slot7.sessState = 0 ∧ slot7.fld (GLB_SLOT 7) 1 0 = 1 ∧ slot7.fld (GLB_SLOT 7) 4 2 = 4 ∧ slot7.bit (GLB_SLOT 7) 8 = false ∧
    (run (.sessionOpen 7 5) slot7).fld GLB_SESS_STAT 11 8 = 2 ∧ (run (.sessionOpen 7 0) slot7).fld GLB_SESS_STAT 11 8 = 2 ∧
    (run (.sessionOpen 6 1) slot7).fld GLB_SESS_STAT 11 8 = 1 ∧ (run (.sessionOpen 7 4) slot7).glade.sessLvl = 4 ∧
    (run (.sessionOpen 7 4) (slot7 fun d => d.setBit (GLB_SLOT 7) 8 true)).fld GLB_SESS_STAT 11 8 = 3 ∧
    challenged.sessState = 1 ∧ challenged.sessSlot = 7 ∧
    wordBytes challenged.glade.resp ≠ hmac256 (challenged.glade.keys.getD challenged.sessSlot []) challenged.sessMessage ∧
    params (run (.sessionOpen 7 1) challenged) = [(7, 3)] ∧
    session.sessState = 2 ∧ params (run .sessionClose session) = [(0, 1)] ∧
    (run (.sessionCmdConflict 3) session).fld GLB_SESS_STAT 11 8 = 4 ∧ (run (.sessionCmdConflict 4) session).sessState = 0 ∧
    (run (.sessionCmdConflict 0x139) slot7).glade.sessLvl = 4 ∧
    (run (.slotLockExpiry 7) (slot7 fun d => d.wrN (GLB_SLOT 7) 0x20111)).bit (GLB_SLOT 7) 8 = true ∧
    (slot7 fun d => d.wrN (GLB_SLOT 7) 0x10111).bit (GLB_SLOT 7) 8 = true ∧
    (run (.slotLockExpiry 7) (slot7 fun d => d.wrN (GLB_SLOT 7) 0x10111)).rd (GLB_SLOT 7) = 0x11#32 := by decide +kernel

theorem test_session_times :
    (let s (n : Nat) := challenged fun d => { d with seq.cyc := n }
     (s 3124882813).spanOver 0 10000 = true ∧ (run .challengeExpiry (s 3124882813)).sessState = 0 ∧
     (run .challengeExpiry (s 3124882812)).sessState = 1) ∧
    (let s (n : Nat) := session fun d => { d.wrN GLB_SESS_CFG 1 with seq.cyc := n }
     (s 312382813).sessState = 2 ∧ params (run .sessionIdleExpiry (s 312382813)) = [(0, 2)] ∧
     codes (run .sessionIdleExpiry (s 312382812)) = []) ∧
    (let s := slot7 fun d => { (d.wrN GLB_SESS_STAT 0x78).setFld (GLB_SLOT 7) 7 5 4 with glade.sessLvl := 4, seq.cyc := 3124882813 }
     (run .challengeExpiry s).bit (GLB_SLOT 7) 8 = true ∧ (run .challengeExpiry s).fld (GLB_SLOT 7) 31 16 = 60) := by decide +kernel

/-- The right response past 10 s, and a wrong one, fail. -/
theorem test_session_fails :
    (let s := { answered with seq.cyc := 3125000001 }
     s.spanPast s.glade.chalAt 10000 = true ∧ s.sessState = 1 ∧ params (run .sessionVerify s) = [(7, 1)]) ∧
    params (run .sessionVerify challenged) = [(7, 1)] := by decide +kernel

theorem test_session_opens : answered.sessState = 1 ∧
    wordBytes answered.glade.resp = hmac256 (answered.glade.keys.getD answered.sessSlot []) answered.sessMessage ∧
    answered.spanPast answered.glade.chalAt 10000 = false ∧ (run .sessionVerify answered).sessState = 2 ∧ params (run .sessionVerify answered) = [(7, 4)] := by decide +kernel

/-- Both rings of pair 15 run, with 16 entries. -/
def rings (f : Dev → Dev := id) : State :=
  w fun d => f (((d.wrN (HOST_CMD_CFG 15) 0x104).wrN (HOST_REP_CFG 15) 0x104).wrN (HOST_PAIR_STAT 15) 3)

theorem test_doorbells :
    shaped rings = true ∧ rings.ringEn 15 false = true ∧ rings.ringEn 15 true = true ∧ ringSize (rings.rd (HOST_CMD_CFG 15)) = 16 ∧
    (run (.cmdDoorbell 15 16) rings).ringTail (HOST_CMD_PTR 15) = 16 ∧ rings.cmdRun 15 = true ∧ rings.repRun 15 = true ∧
    params (run (.cmdDoorbell 15 17) rings) = [(15, 1)] ∧ (run (.cmdDoorbell 15 17) rings).ringTail (HOST_CMD_PTR 15) = 0 ∧
    rings.ringCount (HOST_REP_PTR 15) = 0 ∧ (run (.repDoorbell 15 1) rings).repRun 15 = false ∧
    (run (.repDoorbell 15 1) (rings fun d => d.wrN (HOST_REP_PTR 15) 0x10000)).ringHead (HOST_REP_PTR 15) = 1 ∧
    State.reset.ringEn 15 false = false ∧ State.reset.ringEn 15 true = false ∧
    (run (.ringClrErr 15) (rings fun d => d.wrN (HOST_PAIR_STAT 15) 0xC)).rd (HOST_PAIR_STAT 15) = 3#32 := by decide +kernel

def fetching : State := rings fun d => { d.wrN (HOST_CMD_PTR 15) 0x1FFFF with host.pair := modAt d.host.pair 15 fun x => { x with fetching := some 2 } }

theorem test_fetches :
    (fetching.pair 15).fetching = some 2 ∧ (rings.pair 15).fetching = none ∧ fetching.cmdRun 15 = true ∧
    (run (.descriptorFetchDone 15 true) fetching).host.ready = [(15, 65535), (15, 0)] ∧
    (run (.descriptorFetchDone 15 true) fetching).ringHead (HOST_CMD_PTR 15) = 1 ∧
    params (run (.descriptorFetchDone 15 false) fetching) = [(15, 3)] ∧
    (run (.ringEnable 15 true 0x10C) State.reset).rd (HOST_REP_CFG 15) &&& 0x10F#32 = 0x10C#32 ∧
    (run (.ringEnable 15 false 0x10C) State.reset).cmdRun 15 = true ∧
    ((run (.ringDisable 15 true 0) rings).pair 15).repOff = true ∧ (run (.ringDisable 15 true 0) rings).repRun 15 = true ∧
    (run (.ringDisable 15 true 12) State.reset).fld (HOST_REP_CFG 15) 3 0 = 12 := by decide +kernel

/-- The descriptor at index 65535 of pair 15 is ready. -/
def readied (f : Dev → Dev := id) : State := rings fun d => f { d with host.ready := [(15, 65535)] }
def desc12 (typ : Nat) (b1 b2 : Byte) (off cnt : Byte) : List Byte :=
  desc typ ([b1, b2] ++ List.replicate 1 0 ++ [off, 0, 0, 0] ++ List.replicate 12 0 ++ [cnt])
def setp (n : Nat) : List Byte := desc 0x30 ([1, 0, 0, 0, 0, 0, 0] ++ leBytes 2 n ++ [0, 0, 7, 0, 0, 0])

theorem test_descriptors :
    shaped readied = true ∧ readied.host.ready.head? = some (15, 65535) ∧ rings.host.ready.head? ≠ some (15, 65535) ∧
    (run (.nopDescriptor 15 65535 (desc 0x1F [])) readied).fld (HOST_LIVE 15 5) 31 0 = 1 ∧
    (run (.unknownDescriptor 15 65535 (desc 0 [])) readied).fld (HOST_LIVE 15 7) 31 0 = 1 ∧
    u8 (desc 0x30 [4]) 1 = 4 ∧ (run (.setpointDescriptor 15 65535 (desc 0x30 [4])) readied).host.ready = [] ∧
    (setpointEntry (setp 130) 0).1 = 130 ∧ setpointOk 130 = true ∧ setpointOk 131 = false ∧ setpointOk 0x17F = true ∧
    ((run (.setpointDescriptor 15 65535 (setp 130)) readied).gen 130).descNew.isSome = true ∧
    (run (.setpointDescriptor 15 65535 (setp 0x17F)) readied).rd (LOOP_CTX_SPCONST 0x7F) = 7#32 &&& BitVec.ofNat 32 pbvMask ∧
    params (run (.groveCommandDescriptor 15 65535 (desc12 0x60 0x10 5 0 0) []) readied) = [(5, 7)] ∧
    (let s := readied fun d => d.wrN GROVE_HOST_MAP (0x20 * 2 ^ 24)
     u8 (desc12 0x60 2 4 0 0) 1 % 16 = 2 ∧ u16 (desc12 0x60 2 4 0 0) 6 ≤ 1023 ∧ u32 (desc12 0x60 2 4 0 0) 20 = 0 ∧
     s.bit GROVE_HOST_MAP (6 * 4 + 5) = true ∧ s.laneState (s.fld GROVE_HOST_MAP (6 * 4 + 4) (6 * 4)) ≠ 2 ∧
     (run (.groveCommandDescriptor 15 65535 (desc12 0x60 2 4 0 0) []) s).fld (HOST_LIVE 15 5) 31 0 = 1) := by decide +kernel

theorem test_can_descriptors :
    bitOf (u8 (desc 0x90 [7]) 1) 3 = false ∧ bitOf (u8 (desc 0x90 [15]) 1) 3 = true ∧ (readied.canc (u8 (desc 0x90 [7]) 1 % 8)).tb2 = none ∧
    ((run (.canTransmitDescriptor 15 65535 (desc 0x90 [7]) []) readied).canc 7).tb2.isSome = true ∧
    (let s := readied fun d => { d with can.ctl := modAt d.can.ctl 7 fun c => { c with tb2 := some (txOf false) } }
     (s.canc 7).tb2 ≠ none ∧ (run (.canTransmitDescriptor 15 65535 (desc 0x90 [7]) []) s).fld (HOST_LIVE 15 7) 31 0 = 1) ∧
    (run (.canTransmitDescriptor 15 65535 (desc 0x90 [15]) []) readied).fld (HOST_LIVE 15 5) 31 0 = 1 := by decide +kernel

theorem test_readouts :
    u32 (desc12 0xD8 0 0 9 0) 20 = 0 ∧ u32 (desc12 0xD8 0 0 9 2) 20 = 2 ∧ u32 (desc12 0xD8 0 0 9 2) 4 = 9 ∧
    descAddr (desc12 0xD8 0 0 9 2) % 32 = 0 ∧
    (run (.thicketReadout 15 65535 (desc12 0xD8 0 0 9 2) [] 0) readied).host.copied.map (fun x => x.2.length) = [32] ∧
    (run (.thicketReadout 15 65535 (desc12 0xD8 0 0 9 0) [] 0) readied).host.copied = [] ∧
    (let s := readied fun d => d.setFld GLB_HW_REQ0 14 12 4
     s.sessOk 4 = false ∧ (run (.recorderReadout 15 65535 (desc12 0xE8 1 0 0 1)) s).host.copied = []) ∧
    (let s := readied fun d => { d.wrN GLB_SESS_STAT 0x84 with log.pinEv := [[1], [2]] }
     s.sessOk 4 = true ∧ (run (.recorderReadout 15 65535 (desc12 0xE8 1 0 1 1)) s).host.copied = [(0, [2])]) := by decide +kernel

/-- A consistent image of type 2 without sections, with an owner key and a signature that fit. The two points of the verification
have factor 1 each: the digest of the image is the abscissa of G plus the key. -/
def imgHead : List Byte := [2, 1] ++ List.replicate 14 0 ++ [3] ++ List.replicate 47 0
def imgPub : List Byte :=
  beBytes 48 0xB83833EDD9DE913A116DB9FBC065EFCBD9E93B79330AF1BAFF59CC5DDF576573327E5EDF839867BF540E6CE9901AABCE ++
  beBytes 48 0x182B59282B41F7F81C7A38337D7A2C9E478E9DA900D2E94C35E1B6531D5481B44D0CE354DCAD5BD872FF563BB97CFC13
def image2 : List Byte := imgHead ++ imgPub ++ sha384 imgHead ++ sha384 imgHead
def owned : State := readied fun d => { d.wrN GLB_SESS_STAT 0x84 with
  glade := { d.glade with enrolled := 1, owner := setAt d.glade.owner 0 (sha384 imgPub, []) } }
def imgDesc : List Byte := desc 0xA8 ([0, 0, 0] ++ leBytes 4 256)

theorem test_image_accepted : owned.glade.waiting = false ∧ owned.glade.hung = false ∧ u32 imgDesc 4 = 256 ∧ imgTyp (image2.take 256) = 2 ∧
    owned.imageRefused (image2.take 256) = 0 := by decide +kernel

theorem test_image_refused : owned.imageRefused ((imgHead ++ imgPub).take 256) = 1 ∧ readied.imageRefused (image2.take 256) = 7 ∧
    codes (run (.imageDescriptor 15 65535 imgDesc imgHead) owned) = [0x1007] := by decide +kernel

/-- Boot's wait takes images that are consistent, and a hung Glade takes none. -/
theorem test_images_wait :
    (let s := { owned with glade.waiting := true }
     s.imageFault (image2.take 256) = 0 ∧ s.glade.held = [] ∧
     (run (.imageDescriptor 15 65535 imgDesc image2) s).glade.held.map ImgJob.typ = [2]) ∧
    (let s := { owned with glade.hung := true }
     (run (.imageDescriptor 15 65535 imgDesc image2) s).glade = s.glade ∧
     (run (.imageDescriptor 15 65535 imgDesc image2) s).host.ready = []) := by decide +kernel

def wanted (mask : Bool) (armed : Bool := true) : State :=
  w fun d => (((d.setBit (HOST_EVT_PEND 7) 31 true).wrN (HOST_EVT_MAP 63) 0x9F000000).setBit (MSIX_TAB 31 3) 0 mask).setBit
    HOST_VEC_ARMED 31 armed

theorem test_messages :
    (wanted false).vectorWanted 31 = true ∧ (wanted false).bit HOST_VEC_ARMED 31 = true ∧ (wanted false).bit (MSIX_TAB 31 3) 0 = false ∧
    (wanted true).bit (MSIX_TAB 31 3) 0 = true ∧ (wanted true false).bit HOST_VEC_ARMED 31 = false ∧ State.reset.vectorWanted 31 = false ∧
    (run (.msixMessage 31) (wanted false)).host.msgs = [31] ∧ (run (.msixMessage 31) (wanted true)).bit MSIX_PBA 31 = true ∧
    (run (.vectorAck 0x80000000) (wanted true false)).bit HOST_VEC_ARMED 31 = true ∧
    (run (.vectorUnmask 31) (run (.msixMessage 31) (wanted true))).host.msgs = [31] ∧
    params (run (.pcieLinkUp 4 3) State.reset) = [(5, 67)] ∧ params (run .d3hotEntry State.reset) = [(4, 0)] ∧
    (run .hotReset (wanted false false)).rd HOST_VEC_ARMED = 0xFFFFFFFF#32 ∧ (run .perstAssert rings).ringEn 15 true = false := by
  decide +kernel

/-- MOD_US of 400 µs after a message at cycle 0, and a link that comes up while boot waits. -/
theorem test_message_spacing :
    (let s (n : Nat) := w fun d =>
       let d := (wanted false).toDev.wrN (HOST_VEC_MOD 31) 400
       { d with host.msgAt := setAt d.host.msgAt 31 (some 0), seq.cyc := n }
     (s 7813).modOver 31 = true ∧ (s 7812).modOver 31 = false ∧ (run (.msixMessage 31) (s 7813)).host.msgs = [31] ∧
     (run (.msixMessage 31) (s 7812)).host.msgs = []) ∧
    (run (.pcieLinkUp 4 3) (w fun d => { d with glade.waiting := true, seq.cyc := 9 })).glade.waitAt = 9 := by decide +kernel

/-! Resets and clocks. -/

/-- A reset of a kind is in progress, announced or taken. -/
def resetting (kind : Nat) (taken : Bool) (f : Dev → Dev := id) : State :=
  w fun d => f { d with rst.run := some { bits := 0, src := 7, kind := kind, taken := taken } }
def calm (f : Dev → Dev := id) : State := w fun d => f { d with rst.run := none }
def fuses : FuseIn := { pin := 0, mac := 0, sn := 0, subsys := 0 }

theorem test_reset_sources :
    calm.rst.run = none ∧ (run .gladeWatchdogExpiry calm).rd RST_LAST = 0x23#32 ∧
    (run (.brownOut 32) calm).rd RST_LAST = 0x2011#32 ∧ (run (.brownOut 32) calm).rst.low = 32 ∧ (32 : BitVec 6) ≠ 0 ∧
    (run .tickWatchdogExpiry (resetting 2 false)).rst.run = some { bits := 16, src := 7, kind := 2, taken := false } ∧
    (run .rstNAssert (resetting 2 true)).rst.run = some { bits := 4, src := 2, kind := 1, taken := false } ∧
    (run .rstNAssert (resetting 0 true)).rst.run = some { bits := 4, src := 7, kind := 0, taken := true } ∧
    (run (.brownOutRelease 63) (run (.brownOut 32) calm)).rst.low = 0 := by decide +kernel

theorem test_reset_course :
    (run (.powerOn true) calm).rst.run = some { bits := 1, src := 0, kind := 0, taken := true } ∧
    (resetting 2 false).rst.run = some { bits := 0, src := 7, kind := 2, taken := false } ∧ shaped (resetting 1 false) = true ∧
    (run .resetAnnounce (resetting 1 false)).safe.ustAnn = true ∧
    (let s := resetting 2 false fun d => (d.wrN RST_COUNT 3).wrN PIN_CFGD 0x4000
     (run .resetTakeEffect s).rd RST_COUNT = 3#32 ∧ (run .resetTakeEffect s).rst.run.map RstRun.taken = some true) ∧
    (resetting 1 true).rst.run.elim true RstRun.taken = true := by decide +kernel

theorem test_reset_release :
    (resetting 2 true).rst.low = 0 ∧ (resetting 2 true).bit RST_DOM_STAT 10 = false ∧
    (run (.resetRelease straps fuses) (resetting 2 true)).rst.run = none ∧
    (run (.resetRelease straps fuses) (resetting 2 true)).fld RST_COUNT 15 0 = 1 ∧
    (codes (run (.resetRelease straps fuses) (resetting 2 true))).contains 0x0101 = true ∧
    (run (.resetRelease straps fuses) (resetting 0 true)).fld LOG_PWR_CYC 23 0 = 1 ∧
    calm.rst.run.elim false RstRun.taken = false := by decide +kernel

theorem test_clocks :
    calm.bit RST_DOM_STAT 10 = false ∧ (run .clockLoss calm).rst.run = some { bits := 0, src := 6, kind := 1, taken := true } ∧
    (run .clockLoss calm).fld RST_CLK_STAT 23 16 = 1 ∧ (run .clockLoss calm).bit RST_DOM_STAT 10 = true ∧
    (run (.clockReturn 5) (run .clockLoss calm)).bit RST_CAUSE 8 = true ∧
    (run (.clockReturn 5) (run .clockLoss calm)).rst.run =
      some { bits := 256, src := 6, kind := 1, taken := true, outage := some 5 } ∧
    (let s := calm fun d => d.wrN RST_DOM_STAT 0x3FF
     s.bit RST_DOM_STAT (8 + bnat true) = true ∧ (run (.pllLossOfLock true) s).bit RST_DOM_STAT 9 = false ∧
     (run (.pllLossOfLock true) s).fld RST_CLK_STAT 15 8 = 1) ∧
    (let s := calm fun d => d.wrN RST_DOM_STAT 0x101
     s.bit RST_DOM_STAT 0 = true ∧ s.bit RST_DOM_STAT (8 + bnat false) = true ∧ s.bit RST_DOM_STAT (8 + bnat true) = false ∧
     (run (.pllLock true) s).fld RST_DOM_STAT 7 1 = 127) ∧
    (let s := calm fun d => { d.wrN RST_DOM_STAT 0x101 with rst.stopped := 8 }
     (run (.pllLock true) s).fld RST_DOM_STAT 7 1 = 123) := by decide +kernel

end Sys2Proof.Tests
end

section
/-! An access that R15 does not accept, and what settling does to a device whose safety registers already show its state. -/

namespace Sys2Proof.Machine

/-- A field that is given the value it holds leaves the number as it is. -/
theorem setBits_bitsOf (w hi lo : Nat) : setBits w hi lo (bitsOf w hi lo) = w := by
  have hmod : bitsOf w hi lo % 2 ^ (hi + 1 - lo) = bitsOf w hi lo := Nat.mod_mod _ _
  rw [setBits, hmod, Nat.sub_add_cancel (bitsOf_le w hi lo)]

theorem bnat_bitOf (w i : Nat) : bnat (bitOf w i) = bitsOf w i i := by
  have hlt : bitsOf w i i < 2 := by simpa [bitsOf] using Nat.mod_lt (w / 2 ^ i) two_pos
  rw [bitOf_eq]
  interval_cases bitsOf w i i <;> rfl

/-- A register that is given the word it holds: every register reads as before. -/
theorem rd_wrN_of_rd_eq (s : Dev) (a v : Nat) (hv : s.rd a = BitVec.ofNat 32 v) (x : Nat) : (s.wrN a v).rd x = s.rd x := by
  by_cases hx : x = a
  · rw [hx, rd_wrN_same, hv]
  · exact rd_wrN_ne s a x v hx

/-- A bit that is given the value it shows: every register reads as before. -/
theorem rd_setBit_of_bit_eq (s : Dev) (a i : Nat) (b : Bool) (hb : s.bit a i = b) (x : Nat) :
    (s.setBit a i b).rd x = s.rd x := by
  refine rd_wrN_of_rd_eq s a _ ?_ x
  rw [← hb, Dev.bit, bnat_bitOf, setBits_bitsOf, BitVec.ofNat_toNat, BitVec.setWidth_eq]

/-- The same on top of a device t that reads as s does, so that such writes chain. -/
theorem rd_setBit_shown {s t : Dev} (a i : Nat) (b : Bool) (ht : ∀ x, t.rd x = s.rd x) (hb : s.bit a i = b) (x : Nat) :
    (t.setBit a i b).rd x = s.rd x :=
  (rd_setBit_of_bit_eq t a i b ((bit_of_rd t s a i (ht a)).trans hb) x).trans (ht x)

/-- Latches that agree where both technologies run have nothing to copy (R356). -/
theorem copyLatches_of_latches_agree (d : Dev) (h : bothRun d → d.safe.canopyLatch = d.safe.ustLatch) :
    d.copyLatches = d := by
  unfold Dev.copyLatches
  split_ifs with hrun
  · rfl
  · have hboth : bothRun d := by simpa [bothRun] using hrun
    have hcanopy : d.deadfall = d.safe.canopyLatch := by rw [Dev.deadfall, ← h hboth, Bool.or_self]
    have hust : d.deadfall = d.safe.ustLatch := hcanopy.trans (h hboth)
    exact congrArg₂ (fun c u => { d with safe.canopyLatch := c, safe.ustLatch := u }) hcanopy hust

/-- Settling changes no read of a device whose safety registers show its state (R338, R356, R362). -/
theorem settle_rd_of_shown (d : Dev) (h : SafeShown d) (x : Nat) : d.settle.rd x = d.rd x := by
  unfold Dev.settle
  rw [copyLatches_of_latches_agree d h.latches]
  have hdeadfall (m : Nat) : (d.wrN SAFE_OUT_STAT m).deadfall = d.deadfall := deadfall_of_safe _ _ (wrN_safe _ _ _)
  simp only [hdeadfall, setBit_safe, wrN_safe]
  have hout := rd_wrN_of_rd_eq d SAFE_OUT_STAT _ h.out
  have h0 := rd_setBit_shown SAFE_STAT 0 _ hout h.deadfall
  have h1 := rd_setBit_shown SAFE_STAT 1 _ h0 h.table
  have h2 := rd_setBit_shown SAFE_STAT 2 _ h1 h.up
  exact rd_setBit_shown SAFE_STAT 3 _ h2 h.alive x

theorem settle_safe_of_shown (d : Dev) (h : SafeShown d) : d.settle.safe = d.safe := by
  rw [settle_safe, copyLatches_of_latches_agree d h.latches]

/-- Settling stays outside the engines. -/
theorem blocks_settle (d : Dev) : blocks d.settle = blocks d := by
  simp [blocks]

/-- The device whose host sees Unsupported Request (R15). -/
def Dev.refuseAccess (d : Dev) : Dev := { d with seq.hostCpl := .unsupported }

theorem badAccess_eq_refuseAccess (d : Dev) (a size : Nat) (h : size ≠ 4 ∨ a % 4 ≠ 0) :
    d.badAccess a size = d.refuseAccess := if_neg (not_and_or.mpr h)

theorem hostWriteOp_eq_refuseAccess (d : Dev) (a : Nat) (v : Word) (h : a % 4 ≠ 0) :
    d.hostWriteOp a v = d.refuseAccess := if_neg h

/-- The completion is no part of what the safety registers show. -/
theorem safeShown_refuseAccess (d : Dev) (h : SafeShown d) : SafeShown d.refuseAccess :=
  ⟨h.out, h.deadfall, h.table, h.up, h.alive, h.latches⟩

/-- A command that refuses an access changes nothing but the completion, in a state whose safety registers are up to date. -/
theorem answers_refuseAccess (c : Instr) (s : State) (h : SafeShown s.toDev) (hc : exec c s = done s s.toDev.refuseAccess) :
    Answers c s fun t => t.seq = { s.seq with hostCpl := .unsupported } ∧ (∀ x, t.rd x = s.rd x) ∧
      blocks t.toDev = blocks s.toDev ∧ t.log = s.log ∧ t.safe = s.safe := by
  have hd := safeShown_refuseAccess s.toDev h
  exact ⟨_, hc.trans (done_eq s _), rfl, settle_seq _, settle_rd_of_shown _ hd, blocks_settle _, settle_log _,
    settle_safe_of_shown _ hd⟩

/-- Settles O15: either command refuses the access, and settling finds the safety registers as the invariant left them. -/
theorem unsupportedAccess : Obligations.UnsupportedAccess := by
  unfold Obligations.UnsupportedAccess
  rintro bar2 write a size v s c hinv (⟨rfl, hbad⟩ | ⟨rfl, hbad⟩)
  · exact answers_refuseAccess _ s hinv.shown (congrArg (done s) (badAccess_eq_refuseAccess s.toDev _ _ hbad))
  · exact answers_refuseAccess _ s hinv.shown (congrArg (done s) (hostWriteOp_eq_refuseAccess s.toDev _ v hbad))

end Sys2Proof.Machine
end

section
/-! Phase error outside Watch: a boundary leaves no adjusted tick, and how long a tick without one lasts (R22, R23). -/

namespace Sys2Proof.Machine

/-- A meaning that ends in d answers whatever holds of its settled state. -/
theorem answers_of_done {c : Instr} {s : State} {d : Dev} {P : State → Prop} (hc : exec c s = done s d)
    (hP : P { s with toDev := d.settle }) : Answers c s P :=
  ⟨_, hc.trans (done_eq s d), rfl, hP⟩

theorem adjLen_of_seqKey {s t : Dev} (h : s.seqKey = t.seqKey) : s.seq.adjLen = t.seq.adjLen :=
  (congrArg SeqSt.adjLen h :)

theorem cyc_of_seqKey {s t : Dev} (h : s.seqKey = t.seqKey) : s.seq.cyc = t.seq.cyc :=
  (congrArg SeqSt.cyc h :)

/-- The length of a tick rests on the slew of the cycle alone (R22). -/
theorem tickLength_of_slew {s t : Dev} (hticks : s.seq.slewTicks = t.seq.slewTicks)
    (hlong : s.seq.slewLong = t.seq.slewLong) (n : Nat) : s.tickLength n = t.tickLength n := by
  rw [Dev.tickLength, Dev.tickLength, hticks, hlong]

/-! The boundary. -/

theorem beginCycle_adjLen (s : Dev) : s.beginCycle.seq.adjLen = none := by
  unfold Dev.beginCycle
  dsimp only
  split <;> rfl

/-- The mode step consumes the held command and leaves the rest of the sequencer (R38). -/
theorem modeStep_seqKey (s : Dev) : s.modeStep.seqKey = { s.seqKey with heldCmd := 0 } := by
  unfold Dev.modeStep
  dsimp only
  split_ifs
  · rfl
  · rfl
  · exact enterMode_seqKey _ _

theorem modeStep_adjLen (s : Dev) : s.modeStep.seq.adjLen = s.seq.adjLen :=
  (congrArg SeqSt.adjLen (modeStep_seqKey s) :)

/-- Outside Watch the alignment takes no step: it runs free or slews (R22 to R24). -/
theorem align_false_adjLen (s : Dev) : (s.align false).seq.adjLen = s.seq.adjLen := by
  unfold Dev.align
  simp only [Bool.false_and, Bool.false_eq_true, if_false]
  split_ifs <;> rfl

/-- A boundary in Arming or Operate leaves no adjusted tick to run (R22, R23). -/
theorem cycleBoundary_adjLen (s : Dev) (i : BoundaryIn) (h : s.mode ≠ 0) : (s.cycleBoundary i).seq.adjLen = none := by
  have hwatch : (s.mode == 0 && s.beginCycle.modeStep.mode == 0) = false := by rw [beq_false_of_ne h, Bool.false_and]
  unfold Dev.cycleBoundary
  dsimp only
  rw [hwatch]
  calc _ = (s.beginCycle.modeStep.align false).seq.adjLen :=
        adjLen_of_seqKey ((showRun_seqKey _).trans (enginesAtBoundary_seqKey _ _))
    _ = s.beginCycle.modeStep.seq.adjLen := align_false_adjLen _
    _ = s.beginCycle.seq.adjLen := modeStep_adjLen _
    _ = none := beginCycle_adjLen s

/-! The tick. -/

theorem passTime_cyc (s : Dev) (n cycles : Nat) (dt : Rat) : (s.passTime n cycles dt).seq.cyc = s.seq.cyc + cycles :=
  cyc_of_seqKey (each_seqKey _ _ _ fun d _ => gladeSecond_seqKey d)

/-- What a tick does before time passes leaves the sequencer to itself (R26). -/
theorem wholeTick_cyc (s : Dev) (i : TickIn) (n : Nat) : (s.wholeTick i n).seq.cyc = s.seq.cyc + s.tickLength n := by
  unfold Dev.wholeTick
  dsimp only
  rw [passTime_cyc]
  refine congrArg (· + s.tickLength n) (cyc_of_seqKey ?_)
  simp only [hostP4_seqKey, ite_seqKey, midLatch_seqKey, ite_self, tickP3_seqKey, tickLoops_seqKey, slotsBefore_seqKey,
    tickP0_seqKey, showTick_seqKey]

/-- The device as the tick takes it up: GLB_TICK_LOAD zeroed on request, merged crossings counted, late lanes stopped. -/
def Dev.tickTaken (s : Dev) (i : TickIn) : Dev :=
  ((if s.seq.loadClr then { s.wr GLB_TICK_LOAD 0 with seq.loadClr := false } else s).cntSat GLB_XING_MERGE 15 0
    i.merges).lateLanes

/-- Taking a tick up zeroes the request alone in the sequencer. -/
theorem tickTaken_seqKey (s : Dev) (i : TickIn) : (s.tickTaken i).seqKey = { s.seqKey with loadClr := false } := by
  refine (lateLanes_seqKey _).trans ?_
  cases h : s.seq.loadClr
  · rw [cntSat_seqKey, if_neg Bool.false_ne_true]
    exact congrArg (fun b => { s.seqKey with loadClr := b }) h
  · rfl

theorem tickCommand_of_no_step (s : Dev) (i : TickIn) (hcrit : i.critical = none) (hadj : s.seq.adjLen = none) :
    s.tickCommand i = (s.tickTaken i).wholeTick i s.seq.nextTick := by
  have htaken : (s.tickTaken i).seq.adjLen = none := (congrArg SeqSt.adjLen (tickTaken_seqKey s i) :).trans hadj
  unfold Dev.tickCommand
  dsimp only
  split
  next r hr => exact absurd (hr.symm.trans htaken) (Option.some_ne_none r)
  next => rw [Dev.tickCritical, hcrit]; rfl

theorem tickCommand_cyc (s : Dev) (i : TickIn) (hcrit : i.critical = none) (hadj : s.seq.adjLen = none) :
    (s.tickCommand i).seq.cyc = s.seq.cyc + s.tickLength s.seq.nextTick := by
  have hcyc : (s.tickTaken i).seq.cyc = s.seq.cyc := (congrArg SeqSt.cyc (tickTaken_seqKey s i) :)
  have hlen := tickLength_of_slew (congrArg SeqSt.slewTicks (tickTaken_seqKey s i) :)
    (congrArg SeqSt.slewLong (tickTaken_seqKey s i) :) s.seq.nextTick
  rw [tickCommand_of_no_step s i hcrit hadj, wholeTick_cyc, hcyc, hlen]

/-- A tick without a step lasts its nominal length or a CTLCLK cycle less or more (R20, R22). -/
theorem tickLength_cases (s : Dev) (n : Nat) :
    s.tickLength n = 78124 ∨ s.tickLength n = 78125 ∨ s.tickLength n = 78126 := by
  unfold Dev.tickLength
  split_ifs <;> decide

/-- A tick corrects by at most one CTLCLK cycle of 3.2 ns (R22). -/
theorem absRat_tickLength_le (s : Dev) (n : Nat) :
    absRat (((s.tickLength n : Rat) - 78125) * (16 / 5)) ≤ 16 / 5 := by
  rcases tickLength_cases s n with h | h | h <;> rw [h] <;> norm_num [absRat]

/-- Settles O14: outside Watch the alignment never steps, and without a step the slew bounds each tick. -/
theorem operateSlewsOnly : Obligations.OperateSlewsOnly := by
  unfold Obligations.OperateSlewsOnly
  refine ⟨fun s i hmode => ?_, fun s i hcrit hadj => ?_, fun s n => ⟨?_, absRat_tickLength_le s n, ?_⟩⟩
  · exact answers_of_done rfl ((congrArg SeqSt.adjLen (settle_seq _)).trans (cycleBoundary_adjLen s.toDev i hmode))
  · exact answers_of_done rfl ((congrArg SeqSt.cyc (settle_seq _)).trans (tickCommand_cyc s.toDev i hcrit hadj))
  · simpa using tickLength_cases s n
  · norm_num

end Sys2Proof.Machine
end

section
/-! The reset of the HOST block by stages: the ring pairs, then routes, sources and vectors, then the link (R432). -/

namespace Sys2Proof.Machine

/-! Operations repeated over a list. -/

/-- What one element establishes and every element keeps holds at the end. -/
theorem each_establishes {α : Type} {P : Dev → Prop} {f : Dev → α → Dev} {x : α} {xs : List α} (hx : x ∈ xs)
    (hset : ∀ d, P (f d x)) (hkeep : ∀ y ∈ xs, ∀ d, P d → P (f d y)) (s : Dev) : P (s.each xs f) := by
  obtain ⟨before, after, rfl⟩ := List.append_of_mem hx
  rw [Dev.each, List.foldl_append, List.foldl_cons]
  exact List.foldlRecOn after f (hset _) fun d hd y hy =>
    hkeep y (List.mem_append_right _ (List.mem_cons_of_mem _ hy)) d hd

/-- Every register of a list is written with one word. -/
theorem rd_each_wr {α : Type} (a : α → Nat) (v : Word) (b : Nat) (xs : List α) (s : Dev) :
    (s.each xs fun d x => d.wr (a x) v).rd b = if b ∈ xs.map a then v else s.rd b := by
  induction xs generalizing s with
  | nil => rfl
  | cons x xs ih =>
    refine (ih (s.wr (a x) v)).trans ?_
    rw [rd_wr, List.map_cons]
    by_cases htail : b ∈ xs.map a
    · rw [if_pos htail, if_pos (List.mem_cons_of_mem _ htail)]
    · simp only [htail, if_false, List.mem_cons, or_false]

/-! The stages. -/

/-- A pair of rings disabled, its ledger zeroed. -/
def Dev.resetPair (s : Dev) (p : Nat) : Dev :=
  let d := ((s.setBit (HOST_CMD_CFG p) 8 false).setBit (HOST_REP_CFG p) 8 false).wr (HOST_PAIR_STAT p) 0
  let d := d.each (List.range 8) fun e k => e.wr (HOST_LIVE p k) 0
  d.setPair p fun x => { x with fetching := none, cmdOff := false, repOff := false, dropped := 0 }

/-- No fetched descriptor is left. -/
def Dev.dropReady (s : Dev) : Dev := { s with host.ready := [] }

/-- Routes, source mappings and pending bits zeroed, vectors armed, no fetched descriptor left. -/
def Dev.clearSources (s : Dev) : Dev :=
  let s := (s.wr (HOST_ROUTE 0) 0).wr (HOST_ROUTE 1) 0
  let s := s.each (List.range 64) fun d k => d.wr (HOST_EVT_MAP k) 0
  let s := s.each (List.range 8) fun d k => d.wr (HOST_EVT_PEND k) 0
  (s.wr HOST_VEC_ARMED 0xFFFFFFFF).dropReady

/-- A link that is down shows neither speed nor width. -/
def Dev.showLink (s : Dev) (why : Nat) : Dev := if why = 1 then s.setFld HOST_STAT 4 0 0 else s

/-- The device of a HOST reset before the reset is recorded. -/
def Dev.hostCleared (s : Dev) (why : Nat) : Dev := ((s.each (List.range 16) Dev.resetPair).clearSources).showLink why

theorem hostReset_eq (s : Dev) (why : Nat) : s.hostReset why = (s.hostCleared why).ev 0x1104 why
    ((s.hostCleared why).fld HOST_STAT 4 2 * 16 + (s.hostCleared why).fld HOST_STAT 1 0) := rfl

/-! What stays: the device without its registers and without the HOST block. -/

/-- The device without its registers and without the HOST block. -/
def Dev.besideHost (d : Dev) : Dev := { d with regs := [], host := {} }

theorem wr_besideHost (s : Dev) (a : Nat) (v : Word) : (s.wr a v).besideHost = s.besideHost := (rfl)

theorem setBit_besideHost (s : Dev) (a i : Nat) (b : Bool) : (s.setBit a i b).besideHost = s.besideHost := (rfl)

theorem setPair_besideHost (s : Dev) (p : Nat) (f : PairSt → PairSt) : (s.setPair p f).besideHost = s.besideHost := (rfl)

theorem dropReady_besideHost (s : Dev) : s.dropReady.besideHost = s.besideHost := (rfl)

theorem each_wr_besideHost {α : Type} (s : Dev) (xs : List α) (a : α → Nat) (v : Word) :
    (s.each xs fun d x => d.wr (a x) v).besideHost = s.besideHost :=
  each_keeps Dev.besideHost _ (fun d x => wr_besideHost d (a x) v) xs s

theorem resetPair_besideHost (s : Dev) (p : Nat) : (s.resetPair p).besideHost = s.besideHost := by
  simp only [Dev.resetPair, setPair_besideHost, each_wr_besideHost, wr_besideHost, setBit_besideHost]

theorem clearSources_besideHost (s : Dev) : s.clearSources.besideHost = s.besideHost := by
  simp only [Dev.clearSources, dropReady_besideHost, each_wr_besideHost, wr_besideHost]

theorem showLink_besideHost (s : Dev) (why : Nat) : (s.showLink why).besideHost = s.besideHost := by
  unfold Dev.showLink
  split_ifs <;> rfl

theorem hostCleared_besideHost (s : Dev) (why : Nat) : (s.hostCleared why).besideHost = s.besideHost := by
  rw [Dev.hostCleared, showLink_besideHost, clearSources_besideHost,
    each_keeps Dev.besideHost _ resetPair_besideHost]

/-! The registers of the pairs. -/

/-- The registers that the reset of pair p writes. -/
def pairResetRegs (p : Nat) : List Nat :=
  [HOST_CMD_CFG p, HOST_REP_CFG p, HOST_PAIR_STAT p] ++ (List.range 8).map (HOST_LIVE p)

theorem mem_pairResetRegs {p b : Nat} : b ∈ pairResetRegs p ↔
    (b = 0x3C1000 + 0x40 * p + 0x08 ∨ b = 0x3C1000 + 0x40 * p + 0x18 ∨ b = 0x3C1000 + 0x40 * p + 0x28) ∨
      ∃ k < 8, 0x3C2000 + 0x20 * p + 4 * k = b := by
  simp only [pairResetRegs, List.mem_append, List.mem_cons, List.not_mem_nil, or_false, List.mem_map, List.mem_range]

theorem pairResetRegs_ge {p b : Nat} (hb : b ∈ pairResetRegs p) : 0x3C1000 ≤ b := by
  rcases mem_pairResetRegs.1 hb with (h | h | h) | ⟨k, -, h⟩ <;> omega

theorem pairResetRegs_disjoint {p q b : Nat} (hp : p < 16) (hq : q < 16) (hne : p ≠ q) (hb : b ∈ pairResetRegs p) :
    b ∉ pairResetRegs q := fun hb' => by
  rcases mem_pairResetRegs.1 hb with (h | h | h) | ⟨k, hk, h⟩ <;>
    rcases mem_pairResetRegs.1 hb' with (h' | h' | h') | ⟨k', hk', h'⟩ <;> omega

theorem rd_setPair (s : Dev) (p b : Nat) (f : PairSt → PairSt) : (s.setPair p f).rd b = s.rd b := (rfl)

theorem rd_resetPair (s : Dev) (p b : Nat) : (s.resetPair p).rd b = if b ∈ (List.range 8).map (HOST_LIVE p) then 0
    else (((s.setBit (HOST_CMD_CFG p) 8 false).setBit (HOST_REP_CFG p) 8 false).wr (HOST_PAIR_STAT p) 0).rd b := by
  rw [Dev.resetPair, rd_setPair, rd_each_wr (HOST_LIVE p)]

theorem rd_resetPair_other {p b : Nat} (hb : b ∉ pairResetRegs p) (s : Dev) : (s.resetPair p).rd b = s.rd b := by
  simp only [pairResetRegs, List.mem_append, List.mem_cons, List.not_mem_nil, or_false, not_or] at hb
  obtain ⟨⟨hcmd, hrep, hstat⟩, hlive⟩ := hb
  rw [rd_resetPair, if_neg hlive, rd_wr_ne _ _ _ _ hstat, rd_setBit_ne _ _ _ _ _ hrep, rd_setBit_ne _ _ _ _ _ hcmd]

/-- The rings of pair p are disabled and its ledger is zero. -/
structure PairIsReset (p : Nat) (d : Dev) : Prop where
  cmdOff : d.ringEn p false = false
  repOff : d.ringEn p true = false
  cmdStopped : d.cmdRun p = false
  repStopped : d.repRun p = false
  ledger : ∀ k < 8, d.rd (HOST_LIVE p k) = 0#32

/-- That a pair is reset is read from its own registers. -/
theorem PairIsReset.of_rd {p : Nat} {d e : Dev} (h : PairIsReset p d) (hrd : ∀ b ∈ pairResetRegs p, e.rd b = d.rd b) :
    PairIsReset p e where
  cmdOff := (bit_of_rd _ _ _ _ (hrd _ (by simp [pairResetRegs]))).trans h.cmdOff
  repOff := (bit_of_rd _ _ _ _ (hrd _ (by simp [pairResetRegs]))).trans h.repOff
  cmdStopped := (bit_of_rd _ _ _ _ (hrd _ (by simp [pairResetRegs]))).trans h.cmdStopped
  repStopped := (bit_of_rd _ _ _ _ (hrd _ (by simp [pairResetRegs]))).trans h.repStopped
  ledger k hk := (hrd _ (by simp [pairResetRegs, hk])).trans (h.ledger k hk)

/-- The registers of configuration and status lie below the ledgers. -/
theorem pairConfig_not_ledger {p n : Nat} (hp : p < 16) (hn : n < 0x40) :
    pairWin p + n ∉ (List.range 8).map (HOST_LIVE p) := by
  simp only [List.mem_map, not_exists, not_and, pairWin, HOST_LIVE]
  omega

theorem resetPair_isReset {p : Nat} (hp : p < 16) (s : Dev) : PairIsReset p (s.resetPair p) := by
  have hcmd : (s.resetPair p).rd (HOST_CMD_CFG p) = (s.setBit (HOST_CMD_CFG p) 8 false).rd (HOST_CMD_CFG p) := by
    rw [rd_resetPair, if_neg (pairConfig_not_ledger hp (by omega)), rd_wr_ne _ _ _ _ (by simp),
      rd_setBit_ne _ _ _ _ _ (by simp)]
  have hrep : (s.resetPair p).rd (HOST_REP_CFG p) =
      ((s.setBit (HOST_CMD_CFG p) 8 false).setBit (HOST_REP_CFG p) 8 false).rd (HOST_REP_CFG p) := by
    rw [rd_resetPair, if_neg (pairConfig_not_ledger hp (by omega)), rd_wr_ne _ _ _ _ (by simp)]
  have hstat : (s.resetPair p).rd (HOST_PAIR_STAT p) = 0 := by
    rw [rd_resetPair, if_neg (pairConfig_not_ledger hp (by omega)), rd_wr_same]
  have hbit : ∀ i, (s.resetPair p).bit (HOST_PAIR_STAT p) i = false := fun i => by
    rw [bit_eq_getLsbD, hstat]
    exact BitVec.getLsbD_zero
  refine ⟨?_, ?_, hbit 0, hbit 1, fun k hk => ?_⟩
  · exact (bit_of_rd _ _ _ _ hcmd).trans (bit_setBit_same _ _ _ _ (by omega))
  · exact (bit_of_rd _ _ _ _ hrep).trans (bit_setBit_same _ _ _ _ (by omega))
  · rw [rd_resetPair, if_pos (List.mem_map_of_mem (List.mem_range.2 hk))]
    rfl

theorem allPairs_reset {p : Nat} (hp : p < 16) (s : Dev) : PairIsReset p (s.each (List.range 16) Dev.resetPair) := by
  refine each_establishes (List.mem_range.2 hp) (resetPair_isReset hp) (fun q hq d hd => ?_) s
  obtain rfl | hne := eq_or_ne p q
  · exact resetPair_isReset hp d
  · exact hd.of_rd fun b hb => rd_resetPair_other (pairResetRegs_disjoint hp (List.mem_range.1 hq) hne hb) d

/-! The registers of the sources. -/

/-- Routes, source mappings and pending bits. -/
def sourceRegs : List Nat :=
  [HOST_ROUTE 0, HOST_ROUTE 1] ++ (List.range 64).map HOST_EVT_MAP ++ (List.range 8).map HOST_EVT_PEND

theorem sourceRegs_between : ∀ b ∈ sourceRegs, HOST_STAT < b ∧ b < HOST_VEC_ARMED := by decide

theorem rd_dropReady (s : Dev) (b : Nat) : s.dropReady.rd b = s.rd b := (rfl)

theorem rd_clearSources (s : Dev) (b : Nat) : s.clearSources.rd b =
    if b = HOST_VEC_ARMED then 0xFFFFFFFF else if b ∈ sourceRegs then 0 else s.rd b := by
  rw [Dev.clearSources, rd_dropReady, rd_wr, rd_each_wr HOST_EVT_PEND, rd_each_wr HOST_EVT_MAP, rd_wr, rd_wr]
  simp only [sourceRegs, List.mem_append, List.mem_cons, List.not_mem_nil, or_false]
  grind

theorem rd_showLink (s : Dev) (why : Nat) {b : Nat} (hb : b ≠ HOST_STAT) : (s.showLink why).rd b = s.rd b := by
  unfold Dev.showLink
  split_ifs
  · exact rd_setFld_ne _ _ _ _ _ _ hb
  · rfl

/-! The whole block. -/

theorem rd_hostCleared_source {b : Nat} (hb : b ∈ sourceRegs) (s : Dev) (why : Nat) : (s.hostCleared why).rd b = 0 := by
  obtain ⟨hstat, harmed⟩ := sourceRegs_between b hb
  rw [Dev.hostCleared, rd_showLink _ _ hstat.ne', rd_clearSources, if_neg harmed.ne, if_pos hb]

theorem rd_hostCleared_armed (s : Dev) (why : Nat) : (s.hostCleared why).rd HOST_VEC_ARMED = 0xFFFFFFFF := by
  rw [Dev.hostCleared, rd_showLink _ _ (by decide), rd_clearSources, if_pos rfl]

/-- Outside the words from HOST_STAT to HOST_VEC_ARMED a HOST reset writes the registers of the pairs alone. -/
theorem rd_hostCleared_outside {b : Nat} (hb : b < HOST_STAT ∨ HOST_VEC_ARMED < b) (s : Dev) (why : Nat) :
    (s.hostCleared why).rd b = (s.each (List.range 16) Dev.resetPair).rd b := by
  have hsource : b ∉ sourceRegs := fun h => by have := sourceRegs_between b h; omega
  have hstat : b ≠ HOST_STAT := by rintro rfl; revert hb; decide
  have harmed : b ≠ HOST_VEC_ARMED := by rintro rfl; revert hb; decide
  rw [Dev.hostCleared, rd_showLink _ _ hstat, rd_clearSources, if_neg harmed, if_neg hsource]

theorem rd_allPairs_below {b : Nat} (hb : b < 0x3C1000) (s : Dev) :
    (s.each (List.range 16) Dev.resetPair).rd b = s.rd b :=
  each_keeps (·.rd b) _ (fun d _ => rd_resetPair_other (fun h => absurd (pairResetRegs_ge h) (by omega)) d) _ s

theorem hostCleared_pair {p : Nat} (hp : p < 16) (s : Dev) (why : Nat) : PairIsReset p (s.hostCleared why) :=
  (allPairs_reset hp s).of_rd fun b hb =>
    rd_hostCleared_outside (.inr (lt_of_lt_of_le (by decide) (pairResetRegs_ge hb))) s why

theorem hostCleared_ready (s : Dev) (why : Nat) : (s.hostCleared why).host.ready = [] := by
  rw [Dev.hostCleared, Dev.showLink]
  split_ifs <;> rfl

/-- Width and speed are 0 once bits 4 to 0 of HOST_STAT are zeroed. -/
theorem fld_setFld_stat_zero (s : Dev) : (s.setFld HOST_STAT 4 0 0).fld HOST_STAT 4 2 = 0 ∧
    (s.setFld HOST_STAT 4 0 0).fld HOST_STAT 1 0 = 0 := by
  unfold Dev.fld bitsOf
  rw [toNat_setFld _ _ _ _ _ (by omega) (by omega), setBits_eq _ _ _ _ (by omega)]
  omega

/-- The width and speed that the event of the reset records (R454). -/
theorem hostCleared_link (s : Dev) (why : Nat) :
    (s.hostCleared why).fld HOST_STAT 4 2 * 16 + (s.hostCleared why).fld HOST_STAT 1 0 =
      if why = 1 then 0 else s.fld HOST_STAT 4 2 * 16 + s.fld HOST_STAT 1 0 := by
  rw [Dev.hostCleared, Dev.showLink]
  split_ifs
  · obtain ⟨hwidth, hspeed⟩ := fld_setFld_stat_zero (s.each (List.range 16) Dev.resetPair).clearSources
    rw [hwidth, hspeed]
  · have hstat : (s.each (List.range 16) Dev.resetPair).clearSources.rd HOST_STAT = s.rd HOST_STAT := by
      rw [rd_clearSources, if_neg (by decide), if_neg (by decide), rd_allPairs_below (by decide)]
    rw [fld_of_rd _ _ _ _ _ hstat, fld_of_rd _ _ _ _ _ hstat]

/-! The state after the reset. -/

theorem copyLatches_safe_of_safe {s t : Dev} (h : s.safe = t.safe) : s.copyLatches.safe = t.copyLatches.safe := by
  unfold Dev.copyLatches Dev.deadfall
  rw [h]
  split_ifs
  · exact h
  · rfl

/-- The state in which a command that resets HOST ends. -/
def State.afterHostReset (s : State) (why : Nat) : State := { s with toDev := (s.toDev.hostReset why).settle }

theorem rd_afterHostReset (s : State) (why : Nat) {b : Nat} (hout : b ≠ SAFE_OUT_STAT) (hstat : b ≠ SAFE_STAT) :
    (s.afterHostReset why).rd b = (s.toDev.hostCleared why).rd b := by
  rw [State.afterHostReset, settle_rd _ _ hout hstat, hostReset_eq, ev_rd]

theorem afterHostReset_pair {p : Nat} (hp : p < 16) (s : State) (why : Nat) : PairIsReset p (s.afterHostReset why).toDev :=
  (hostCleared_pair hp s.toDev why).of_rd fun b hb => by
    have hge := pairResetRegs_ge hb
    exact rd_afterHostReset s why (ne_of_gt (lt_of_lt_of_le (by decide) hge)) (ne_of_gt (lt_of_lt_of_le (by decide) hge))

theorem rd_afterHostReset_source {b : Nat} (hb : b ∈ sourceRegs) (s : State) (why : Nat) : (s.afterHostReset why).rd b = 0 := by
  have hge := (sourceRegs_between b hb).1
  rw [rd_afterHostReset s why (ne_of_gt (lt_trans (by decide) hge)) (ne_of_gt (lt_trans (by decide) hge)),
    rd_hostCleared_source hb]

theorem rd_afterHostReset_armed (s : State) (why : Nat) : (s.afterHostReset why).rd HOST_VEC_ARMED = 0xFFFFFFFF := by
  rw [rd_afterHostReset s why (by decide) (by decide), rd_hostCleared_armed]

theorem afterHostReset_host (s : State) (why : Nat) : (s.afterHostReset why).host = (s.toDev.hostCleared why).host := by
  rw [State.afterHostReset, settle_host, hostReset_eq, ev_host]

/-- No register of another block changes, but those that follow the safety logic (R432). -/
theorem rd_afterHostReset_below {a : Nat} (ha : a < HOST_STAT) (hout : a ≠ SAFE_OUT_STAT) (hstat : a ≠ SAFE_STAT) (s : State)
    (why : Nat) : (s.afterHostReset why).rd a = s.rd a :=
  calc (s.afterHostReset why).rd a = (s.toDev.hostCleared why).rd a := rd_afterHostReset s why hout hstat
    _ = (s.toDev.each (List.range 16) Dev.resetPair).rd a := rd_hostCleared_outside (.inl ha) _ _
    _ = s.toDev.rd a := rd_allPairs_below (lt_trans ha (by decide)) _

theorem afterHostReset_blocks (s : State) (why : Nat) :
    blocks (s.afterHostReset why).toDev = { blocks s.toDev with host := (s.afterHostReset why).host } := by
  rw [afterHostReset_host, State.afterHostReset, blocks_settle, hostReset_eq]
  exact congrArg (fun d => { blocks d with host := (s.toDev.hostCleared why).host }) (hostCleared_besideHost s.toDev why)

theorem afterHostReset_seqKept (s : State) (why : Nat) : SeqKept s (s.afterHostReset why) := by
  have hseq : (s.toDev.hostCleared why).seq = s.seq := (congrArg Dev.seq (hostCleared_besideHost s.toDev why) :)
  simp only [SeqKept, State.afterHostReset, settle_seq, hostReset_eq, ev_seq, hseq]

theorem hostCleared_log (s : Dev) (why : Nat) : (s.hostCleared why).log = s.log :=
  (congrArg Dev.log (hostCleared_besideHost s why) :)

theorem afterHostReset_logKept (s : State) (why : Nat) : LogKept s (s.afterHostReset why) := by
  rw [LogKept, State.afterHostReset, settle_log]
  exact congrArg (fun l : LogSt => { l with raised := s.log.raised }) (hostCleared_log s.toDev why)

theorem afterHostReset_safetyKept (s : State) (why : Nat) : SafetyKept s (s.afterHostReset why) := by
  rw [SafetyKept, State.afterHostReset, settle_safe, hostReset_eq]
  exact copyLatches_safe_of_safe (congrArg Dev.safe (hostCleared_besideHost s.toDev why) :)

theorem ev_raised (d : Dev) (c p q : Nat) : ∃ e, (d.ev c p q).log.raised = d.log.raised ++ [e] ∧ e.code = c ∧
    e.p1 = BitVec.ofNat 32 p ∧ e.p2 = BitVec.ofNat 32 q := ⟨_, rfl, rfl, rfl, rfl⟩

/-- The one event of the reset carries its reason and the link that is left (R454). -/
theorem afterHostReset_oneEvent (s : State) (why : Nat) : OneEvent s (s.afterHostReset why) 0x1104 (BitVec.ofNat 32 why)
    (BitVec.ofNat 32 (if why = 1 then 0 else s.fld HOST_STAT 4 2 * 16 + s.fld HOST_STAT 1 0)) := by
  rw [← hostCleared_link]
  obtain ⟨e, hraised, hcode, hp1, hp2⟩ := ev_raised (s.toDev.hostCleared why) 0x1104 why
    ((s.toDev.hostCleared why).fld HOST_STAT 4 2 * 16 + (s.toDev.hostCleared why).fld HOST_STAT 1 0)
  refine ⟨e, ?_, hcode, hp1, hp2⟩
  rw [State.afterHostReset, settle_log, hostReset_eq, hraised, hostCleared_log]

/-- The five commands are one reset, each for its own reason (R432, R459). -/
theorem exec_eq_afterHostReset {c : Instr} {why : Word} (hc : (c, why) ∈ [(Instr.pcieLinkDown, 1#32), (.hotReset, 2#32),
    (.functionLevelReset, 3#32), (.d3hotEntry, 4#32), (.perstAssert, 1#32)]) (s : State) :
    exec c s = .next (s.afterHostReset why.toNat) := by
  simp only [List.mem_cons, List.not_mem_nil, or_false, Prod.mk.injEq] at hc
  rcases hc with ⟨rfl, rfl⟩ | ⟨rfl, rfl⟩ | ⟨rfl, rfl⟩ | ⟨rfl, rfl⟩ | ⟨rfl, rfl⟩ <;> rfl

/-- Settles O57: each of the five commands is the reset of HOST by stages, and what it leaves is read stage by stage. -/
theorem hostBlockReset : Obligations.HostBlockReset := by
  unfold Obligations.HostBlockReset
  intro s c why hc
  refine ⟨s.afterHostReset why.toNat, exec_eq_afterHostReset hc s, rfl, fun p => ?_, rd_afterHostReset_source (by decide) _ _,
    rd_afterHostReset_source (by decide) _ _, fun k => rd_afterHostReset_source ?_ _ _, fun k => rd_afterHostReset_source ?_ _ _,
    rd_afterHostReset_armed _ _, ?_, ?_, fun a ha hout hstat => rd_afterHostReset_below ha hout hstat _ _,
    afterHostReset_blocks _ _, afterHostReset_seqKept _ _, afterHostReset_logKept _ _, afterHostReset_safetyKept _ _⟩
  · obtain ⟨hcmd, hrep, hcmdRun, hrepRun, hledger⟩ := afterHostReset_pair p.isLt s why.toNat
    exact ⟨hcmd, hrep, hcmdRun, hrepRun, fun k => hledger k k.isLt⟩
  · simp [sourceRegs]
  · simp [sourceRegs]
  · rw [afterHostReset_host, hostCleared_ready]
  · have hdown : why.toNat = 1 ↔ why = 1#32 := by rw [← BitVec.toNat_inj]; rfl
    simpa only [hdown, apply_ite (BitVec.ofNat 32), BitVec.ofNat_toNat, BitVec.setWidth_eq] using
      afterHostReset_oneEvent s why.toNat

end Sys2Proof.Machine
end

section
/-! The machine as a whole: how a command answers, what every command settles, and which commands alone reach the fuses, the safety
logic, the mode and the count of cycles (R14, R38, R335, R356, R419, R423). -/

namespace Sys2Proof.Machine

/-! How a command answers. -/

/-- Every command ends in a device that settles. -/
theorem exec_settles (c : Instr) (s : State) : ∃ d : Dev, exec c s = done s d := by
  cases c <;> exact ⟨_, rfl⟩

/-- What a command keeps of its device before it settles, it keeps of the state, where settling keeps it. -/
theorem kept_of_done {α : Type} (g : Dev → α) (hsettle : ∀ d, g d.settle = g d) {c : Instr} {s t : State} {d : Dev}
    (h : exec c s = .next t) (hd : exec c s = done s d) (hg : g d = g s.toDev) : g t.toDev = g s.toDev := by
  rw [hd, done_eq] at h
  cases h
  exact (hsettle d).trans hg

/-- Settles O1: a step is one case of its definition for each form of the queue. -/
theorem frontOfQueue : Obligations.FrontOfQueue := by
  unfold Obligations.FrontOfQueue
  refine ⟨fun c cs s h => ?_, fun s h => ?_⟩
  · unfold step State.popped
    rw [h]
    rfl
  · unfold step
    rw [h]

/-- Settles O2: every command ends in a device that settles, and settling is outside the queue. -/
theorem everyCommandAnswers : Obligations.EveryCommandAnswers := by
  unfold Obligations.EveryCommandAnswers
  intro c s
  obtain ⟨d, hd⟩ := exec_settles c s
  exact answers_of_done hd trivial

/-! What settling leaves. -/

theorem copyLatches_bothRun (d : Dev) : bothRun d.copyLatches ↔ bothRun d := by
  simp [bothRun]

/-- Copied latches agree where both technologies run (R356). -/
theorem copyLatches_agree (d : Dev) (h : bothRun d) : d.copyLatches.safe.canopyLatch = d.copyLatches.safe.ustLatch := by
  obtain ⟨hc, hu⟩ := copyLatches_latches d
  obtain ⟨hhalt, hust⟩ := h
  rw [hc, hu, if_pos ⟨hhalt, hust⟩, if_pos ⟨hhalt, hust⟩]

theorem settle_bothRun (d : Dev) : bothRun d.settle ↔ bothRun d := by
  simp [bothRun]

/-- The safety registers show the settled state (R338, R356, R362). -/
theorem safeShown_settle (d : Dev) : SafeShown d.settle := by
  obtain ⟨hdead, htable, hup, halive⟩ := settle_stat_bits d
  refine ⟨settle_out_stat d, ?_, ?_, ?_, ?_, fun h => ?_⟩
  · rw [hdead, settle_deadfall]
  · rw [htable, settle_safe, copyLatches_safe_table, copyLatches_safe_up]
  · rw [hup, settle_safe, copyLatches_safe_up]
  · rw [halive, settle_safe, copyLatches_safe_ustOn, copyLatches_safe_ustAlive]
  · rw [settle_safe]
    exact copyLatches_agree d ((settle_bothRun d).1 h)

/-- Understory's latch takes every permit away (R338). -/
theorem permit_of_ustLatch (d : Dev) (h : d.safe.ustLatch = true) (k : Nat) : d.permit k = false := by
  simp [Dev.permit, h]

/-- In Deadfall, with both technologies running, a settled device holds Understory's latch, and so no output is on (R335, R356). -/
theorem safeInv_settle (d : Dev) : SafeInv d.settle := by
  refine ⟨safeShown_settle d, fun hrun hdead k _ => ?_⟩
  have hlatch : d.settle.safe.ustLatch = true := by
    have hagree := (safeShown_settle d).latches hrun
    rw [Dev.deadfall, hagree, Bool.or_self] at hdead
    exact hdead
  rw [Dev.soOn, permit_of_ustLatch _ hlatch, Bool.and_false]

/-- Settles O6: every command ends in a device that settles, and a settled device shows its safety logic. -/
theorem everyCommandSettles : Obligations.EveryCommandSettles := by
  unfold Obligations.EveryCommandSettles
  intro c s t h
  obtain ⟨d, hd⟩ := exec_settles c s
  rw [hd, done_eq] at h
  cases h
  exact safeInv_settle d

/-- Settles O4: an idle step changes nothing, and any other ends with a command that settles. -/
theorem stepKeepsSafe : Obligations.StepKeepsSafe := by
  unfold Obligations.StepKeepsSafe
  intro s t hs h
  unfold step at h
  split at h
  · cases h
    exact hs
  · exact everyCommandSettles _ _ _ h

/-! The reset state. -/

theorem reset_rd (a : Nat) : State.reset.rd a = regReset a := rfl

/-- The table is not loaded at reset, so Understory permits nothing (R338). -/
theorem reset_permit (k : Nat) : State.reset.permit k = false := rfl

theorem reset_out_stat :
    State.reset.rd SAFE_OUT_STAT = BitVec.ofNat 32 (outMaskOf State.reset.canopyEn + 4096 * outMaskOf State.reset.permit) := by
  have hreset : State.reset.rd SAFE_OUT_STAT = 0 := by decide
  have hen : outMaskOf State.reset.canopyEn = 0 := by decide
  have hpermit : outMaskOf State.reset.permit = 0 := by rw [funext reset_permit]; rfl
  rw [hreset, hen, hpermit]
  rfl

theorem safeShown_reset : SafeShown State.reset.toDev := by
  refine ⟨reset_out_stat, by decide, by decide, by decide, by decide, fun _ => rfl⟩

/-- Settles O3: the register file is empty at reset, Canopy is halted, and the windows are lists of fixed lengths. -/
theorem resetState : Obligations.ResetState := by
  unfold Obligations.ResetState
  refine ⟨⟨rfl, reset_rd⟩, ⟨safeShown_reset, fun hrun => ?_⟩, by constructor <;> exact List.length_replicate⟩
  exact absurd hrun.1 (by decide)

/-! The slots of a tick that change neither the fuses nor the safety logic. -/

theorem estForm_core (s : Dev) (i : TickIn) : (s.estForm i).core = s.core := by
  unfold Dev.estForm
  simp only [↓setFld_core, ↓core_mk, core_fold, ↓ite_core, ite_self, ↓acceptRefs_core, ↓applyBundle_core, ↓deadReckon_core,
    ↓dropSamples_core, ↓headingTest_core, ↓propagate_core, ↓roleRelease_core, ↓selectSensors_core]

theorem estUpdate_core (s : Dev) : s.estUpdate.core = s.core := by
  unfold Dev.estUpdate
  simp only [↓setFld_core, ↓setBit_core, ↓ev_core, ↓core_mk, core_fold, ↓ite_core, ite_self, ↓setEstState_core]
  split
  · rfl
  · split
    · split
      · rfl
      · exact takeSolution_core ..
    · rfl

theorem allocDemand_core (s : Dev) (i : TickIn) : (s.allocDemand i).core = s.core := by
  unfold Dev.allocDemand
  simp only [↓ev_core, ↓core_mk, core_fold, ↓ite_core, ite_self, ↓allocMismatch_core, ↓estimatorAction_core,
    ↓setAllocState_core, ↓setTau_core]

theorem allocPose_core (s : Dev) (i : TickIn) : (s.allocPose i).core = s.core := by
  have hgroup (p : Problem) (n r m : Nat) (d : Dev) (a : Nat × List Nat) :
      (((d.producerSend a.1 4 false n r m p).setLane a.1 fun x => { x with work := a.2 }).nextGroup a.1).core = d.core := by
    rw [nextGroup_core, setLane_core, producerSend_core]
  unfold Dev.allocPose
  simp only [↓core_mk, core_fold, ↓ite_core, ite_self, ↓allocMismatch_core, ↓roleRelease_core, each_core _ _ _ latchThr_core,
    each_core _ _ _ fun d (_ : Nat) => noLane_core d, each_core _ _ _ (hgroup _ _ _ _)]

theorem allocApply_core (s : Dev) (i : TickIn) : (s.allocApply i).core = s.core := by
  unfold Dev.allocApply
  dsimp only
  split_ifs <;> (try split) <;>
    simp only [setFld_core, ev_core, core_mk, core_fold, allocMismatch_core, allocRequest_core,
      allocWithdraw_core, applyAlloc_core, setAllocState_core, showShort_core, writeTargets_core]

theorem slotsBefore_core (s : Dev) (i : TickIn) (n : Nat) : (s.slotsBefore i n).core = s.core := by
  unfold Dev.slotsBefore
  split
  · exact estForm_core ..
  · exact estUpdate_core ..
  · exact allocPose_core ..
  · exact allocApply_core ..
  · exact (bundleStart_core _).trans (allocReport_core _)
  · exact bundleEnd_core ..
  · rfl

theorem tickLoops_core (s : Dev) (i : TickIn) (n : Nat) : (s.tickLoops i n).core = s.core := by
  unfold Dev.tickLoops
  simp only [↓ite_core, ite_self, ↓allocDemand_core, ↓loadCtxs_core, ↓loopP2_core, ↓profP1_core, ↓showLoad_core, ↓showRun_core,
    ↓standTick78_core]

theorem wholeTick_core (s : Dev) (i : TickIn) (n : Nat) : (s.wholeTick i n).core = s.core := by
  unfold Dev.wholeTick
  simp only [↓ite_core, ite_self, ↓hostP4_core, ↓midLatch_core, ↓passTime_core, ↓showTick_core, ↓slotsBefore_core,
    ↓tickLoops_core, ↓tickP0_core, ↓tickP3_core]

theorem tickTaken_core (s : Dev) (i : TickIn) : (s.tickTaken i).core = s.core := by
  unfold Dev.tickTaken
  simp only [↓lateLanes_core, ↓cntSat_core, ↓ite_core, ↓core_mk, ↓wr_core, core_fold, ite_self]

theorem tickCommand_core (s : Dev) (i : TickIn) : (s.tickCommand i).core = s.core := by
  refine (tickCritical_core _ i).trans (.trans ?_ (tickTaken_core s i))
  change Dev.core (match (s.tickTaken i).seq.adjLen with | some r => _ | none => _) = _
  split
  · exact adjustedTick_core ..
  · exact wholeTick_core ..

/-! Which commands change fuses and safety logic. -/

/-- Commands that act on the safety logic or burn fuses, and the register writes, some of which command a burn (R14, R419, R423). -/
def reachesCore : Instr → Bool
  | .ownerEnrol .. | .ownerRevoke .. | .rollbackBurn | .registerWrite .. => true
  | c => reachesSafety c

/-- Every other command keeps the fuses and the safety logic before it settles. -/
theorem exec_keeps_core (c : Instr) (s : State) (h : reachesCore c = false) :
    ∃ d : Dev, exec c s = done s d ∧ d.core = s.toDev.core := by
  cases c with
  | tick => exact ⟨_, rfl, tickCommand_core ..⟩
  | cycleBoundary => exact ⟨_, rfl, cycleBoundary_core ..⟩
  | commit => exact ⟨_, rfl, commitNow_core ..⟩
  | gatewaySilent => exact ⟨_, rfl, gatewayGone_core ..⟩
  | canAutostart => exact ⟨_, rfl, autostart_core ..⟩
  | slotOverrun => exact ⟨_, rfl, overrun_core ..⟩
  | tickWatchdogExpiry => exact ⟨_, rfl, tickWatchdog_core ..⟩
  | modeCmdOperate => exact ⟨_, rfl, modeCommand_core ..⟩
  | modeCmdWatch => exact ⟨_, rfl, modeCommand_core ..⟩
  | tickCfgWrite => exact ⟨_, rfl, store_core ..⟩
  | tickLoadClear => exact ⟨_, rfl, loadClear_core ..⟩
  | unsupportedRequest => exact ⟨_, rfl, badAccess_core ..⟩
  | stoppedDomainAccess => exact ⟨_, rfl, stoppedAccess_core ..⟩
  | loopResume => exact ⟨_, rfl, resumeCommand_core ..⟩
  | loopClear => exact ⟨_, rfl, loopCommand_core ..⟩
  | hostTargetWrite => exact ⟨_, rfl, hostTarget_core ..⟩
  | originWrite => exact ⟨_, rfl, originWrite_core ..⟩
  | thrusterSelect => exact ⟨_, rfl, selectThrusters_core ..⟩
  | groveLoad => exact ⟨_, rfl, (groveLoadOp_core ..).trans (laneCorr_core ..)⟩
  | groveEntry => exact ⟨_, rfl, (groveEntryOp_core ..).trans (laneCorr_core ..)⟩
  | groveRelease => exact ⟨_, rfl, (groveStart_core ..).trans (laneCorr_core ..)⟩
  | grovePublish => exact ⟨_, rfl, publish_core ..⟩
  | groveDeadline => exact ⟨_, rfl, deadline_core ..⟩
  | groveSolveFailure => exact ⟨_, rfl, solveFails_core ..⟩
  | laneClear => exact ⟨_, rfl, clearLane_core ..⟩
  | feFault => exact ⟨_, rfl, feFault_core ..⟩
  | feFaultClear => exact ⟨_, rfl, feClear_core ..⟩
  | channelDrop => exact ⟨_, rfl, dropped_core ..⟩
  | acquisitionComplete => exact ⟨_, rfl, acquired_core ..⟩
  | spacingSettled => exact ⟨_, rfl, settled_core ..⟩
  | holdoverEntry => exact ⟨_, rfl, holdover_core ..⟩
  | localTimeSet => exact ⟨_, rfl, timeSet_core ..⟩
  | localTimeStep => exact ⟨_, rfl, timeStep_core ..⟩
  | slewComplete => exact ⟨_, rfl, slewDone_core ..⟩
  | holdWarnExceeded => exact ⟨_, rfl, holdWarn_core ..⟩
  | ppsPulse => exact ⟨_, rfl, ppsEdge_core ..⟩
  | timeMessage => exact ⟨_, rfl, timeMessage_core ..⟩
  | sentenceInterval => exact ⟨_, rfl, sentenceInterval_core ..⟩
  | leapSecond => exact ⟨_, rfl, leap_core ..⟩
  | sentenceReceived => exact ⟨_, rfl, sentence_core ..⟩
  | refSampleReceived => exact ⟨_, rfl, refArrival_core ..⟩
  | sarConversion => exact ⟨_, rfl, sarConversion_core ..⟩
  | calUpdate => exact ⟨_, rfl, calUpdate_core ..⟩
  | sarEnable => exact ⟨_, rfl, acqEnable_core ..⟩
  | sdEnable => exact ⟨_, rfl, acqEnable_core ..⟩
  | bitstreamStuck => exact ⟨_, rfl, bitstreamStuck_core ..⟩
  | stuckEnd => exact ⟨_, rfl, stuckEnd_core ..⟩
  | chainRecord => exact ⟨_, rfl, chainRecord_core ..⟩
  | chainConfigWrite => exact ⟨_, rfl, chainWrite_core ..⟩
  | coefApply => exact ⟨_, rfl, coefApply_core ..⟩
  | coefApplyDone => exact ⟨_, rfl, coefDone_core ..⟩
  | quadTransition => exact ⟨_, rfl, quadTransition_core ..⟩
  | quadZero => exact ⟨_, rfl, quadZero_core ..⟩
  | canLeaveInit => exact ⟨_, rfl, canCtrl_core ..⟩
  | canEnterInit => exact ⟨_, rfl, canCtrl_core ..⟩
  | canRecover => exact ⟨_, rfl, canRecover_core ..⟩
  | canTb2Request => exact ⟨_, rfl, tb2Request_core ..⟩
  | canTb2Cancel => exact ⟨_, rfl, tb2Cancel_core ..⟩
  | canArbitrationWon => exact ⟨_, rfl, arbWon_core ..⟩
  | canFrameSent => exact ⟨_, rfl, frameSent_core ..⟩
  | canFrameReceived => exact ⟨_, rfl, frameReceived_core ..⟩
  | canError => exact ⟨_, rfl, canError_core ..⟩
  | canRecoveryDone => exact ⟨_, rfl, recoveryDone_core ..⟩
  | canHpRelease => exact ⟨_, rfl, hpRelease_core ..⟩
  | canRxfPop => exact ⟨_, rfl, fifoPop_core ..⟩
  | rateFallbackTimer => exact ⟨_, rfl, rateFallback_core ..⟩
  | linkUp => exact ⟨_, rfl, portUp_core ..⟩
  | linkDown => exact ⟨_, rfl, portDown_core ..⟩
  | netCfgWrite => exact ⟨_, rfl, netWrite_core ..⟩
  | ringFrameReceived => exact ⟨_, rfl, ringFrame_core ..⟩
  | prpFrameReceived => exact ⟨_, rfl, prpFrame_core ..⟩
  | duplicateEntryExpiry => exact ⟨_, rfl, dupExpire_core ..⟩
  | egressTransmit => exact ⟨_, rfl, egress_core ..⟩
  | supervisionSend => exact ⟨_, rfl, supervision_core ..⟩
  | ringOpenTimeout => exact ⟨_, rfl, ringOpen_core ..⟩
  | ptpSyncReceived => exact ⟨_, rfl, sync_core ..⟩
  | ptpAnnounceReceived => exact ⟨_, rfl, announce_core ..⟩
  | ptpSyncTimeout => exact ⟨_, rfl, syncTimeout_core ..⟩
  | pdelayReqSend => exact ⟨_, rfl, pdelayReq_core ..⟩
  | pdelayMessageReceived => exact ⟨_, rfl, pdelay_core ..⟩
  | ptpSyncSend => exact ⟨_, rfl, syncSend_core ..⟩
  | ptpAnnounceSend => exact ⟨_, rfl, announceSend_core ..⟩
  | s450DatagramReceived => exact ⟨_, rfl, s450_core ..⟩
  | tnowRead => exact ⟨_, rfl, tnow_core ..⟩
  | evtInCapture => exact ⟨_, rfl, evtIn_core ..⟩
  | evtPop => exact ⟨_, rfl, evtPop_core ..⟩
  | alarmArm => exact ⟨_, rfl, alarmArm_core ..⟩
  | alarmFire => exact ⟨_, rfl, alarmFire_core ..⟩
  | heartbeatReceived => exact ⟨_, rfl, heartbeat_core ..⟩
  | peerAbsent => exact ⟨_, rfl, peerAbsent_core ..⟩
  | standingFrameReceived => exact ⟨_, rfl, standingFrame_core ..⟩
  | wardenLost => exact ⟨_, rfl, wardenGone_core ..⟩
  | stateSetPartReceived => exact ⟨_, rfl, setPart_core ..⟩
  | trackLost => exact ⟨_, rfl, trackGone_core ..⟩
  | swapDue => exact ⟨_, rfl, swapFalls_core ..⟩
  | standingSwapCommand => exact ⟨_, rfl, swapCommand_core ..⟩
  | thicketReport => exact ⟨_, rfl, thktFrame_core ..⟩
  | recordSigned => exact ⟨_, rfl, signHead_core ..⟩
  | custodyHandoff => exact ⟨_, rfl, handoff_core ..⟩
  | pointReleaseCommand => exact ⟨_, rfl, releaseCommand_core ..⟩
  | pointLatch => exact ⟨_, rfl, latchPoint_core ..⟩
  | pointFind => exact ⟨_, rfl, findStart_core ..⟩
  | pointFindDone => exact ⟨_, rfl, findDone_core ..⟩
  | eventRecord => exact ⟨_, rfl, eventRecord_core ..⟩
  | bucketRefill => exact ⟨_, rfl, refillBuckets_core ..⟩
  | ringlogWrite => exact ⟨_, rfl, byGlade_core _ _ (ringlogWrite_core ..)⟩
  | norErase => exact ⟨_, rfl, byGlade_core _ _ (norErase_core ..)⟩
  | stateSave => exact ⟨_, rfl, byGlade_core _ _ (stateSave_core ..)⟩
  | freezeBegin => exact ⟨_, rfl, freezeBegin_core ..⟩
  | freezeEnd => exact ⟨_, rfl, freezeEnd_core ..⟩
  | freezeExpiry => exact ⟨_, rfl, freezeExpire_core ..⟩
  | recorderClear => exact ⟨_, rfl, byGlade_core _ _ (clearCommand_core ..)⟩
  | clearComplete => exact ⟨_, rfl, byGlade_core _ _ (clearComplete_core ..)⟩
  | panelUpdateStart => exact ⟨_, rfl, byGlade_core _ _ (panelStart_core ..)⟩
  | pwrgdArrival => exact ⟨_, rfl, byGlade_core _ _ (powerGood_core ..)⟩
  | pgTimeout => exact ⟨_, rfl, byGlade_core _ _ (panelAbandon_core ..)⟩
  | panelUpdateEnd => exact ⟨_, rfl, byGlade_core _ _ (panelEnd_core ..)⟩
  | panelUpdateRetry => exact ⟨_, rfl, byGlade_core _ _ (panelRetry_core ..)⟩
  | panelTempRead => exact ⟨_, rfl, byGlade_core _ _ (panelTemp_core ..)⟩
  | barkMeasure => exact ⟨_, rfl, byGlade_core _ _ (barkMeasure_core ..)⟩
  | ringcountSave => exact ⟨_, rfl, byGlade_core _ _ (ringcountSave_core ..)⟩
  | gladeWatchdogExpiry => exact ⟨_, rfl, gladeWatchdog_core ..⟩
  | dieTempSample => exact ⟨_, rfl, byGlade_core _ _ (dieTemps_core ..)⟩
  | supplySample => exact ⟨_, rfl, byGlade_core _ _ (supplies_core ..)⟩
  | supplyWindowFault => exact ⟨_, rfl, byGlade_core _ _ (supplyFault_core ..)⟩
  | imageSave => exact ⟨_, rfl, byGlade_core _ _ (imageSaved_core ..)⟩
  | sessionOpen => exact ⟨_, rfl, byGlade_core _ _ (sessOpen_core ..)⟩
  | sessionVerify => exact ⟨_, rfl, byGlade_core _ _ (sessVerify_core ..)⟩
  | sessionClose => exact ⟨_, rfl, byGlade_core _ _ (sessClose_core ..)⟩
  | sessionCmdConflict => exact ⟨_, rfl, byGlade_core _ _ (sessCommand_core ..)⟩
  | challengeExpiry => exact ⟨_, rfl, byGlade_core _ _ (challengeEnd_core ..)⟩
  | sessionIdleExpiry => exact ⟨_, rfl, byGlade_core _ _ (sessIdle_core ..)⟩
  | slotLockExpiry => exact ⟨_, rfl, byGlade_core _ _ (slotUnlock_core ..)⟩
  | attestationRequest => exact ⟨_, rfl, byGlade_core _ _ (attRequest_core ..)⟩
  | attestationReport => exact ⟨_, rfl, byGlade_core _ _ (attReport_core ..)⟩
  | cmdDoorbell => exact ⟨_, rfl, cmdBell_core ..⟩
  | repDoorbell => exact ⟨_, rfl, repBell_core ..⟩
  | descriptorFetchDone => exact ⟨_, rfl, fetchEnd_core ..⟩
  | ringEnable => exact ⟨_, rfl, ringOn_core ..⟩
  | ringDisable => exact ⟨_, rfl, ringOff_core ..⟩
  | ringClrErr => exact ⟨_, rfl, ringResume_core ..⟩
  | nopDescriptor => exact ⟨_, rfl, nopDesc_core ..⟩
  | setpointDescriptor => exact ⟨_, rfl, setpointDesc_core ..⟩
  | groveCommandDescriptor => exact ⟨_, rfl, groveDesc_core ..⟩
  | canTransmitDescriptor => exact ⟨_, rfl, canDesc_core ..⟩
  | thicketReadout => exact ⟨_, rfl, thicketDesc_core ..⟩
  | recorderReadout => exact ⟨_, rfl, recorderDesc_core ..⟩
  | unknownDescriptor => exact ⟨_, rfl, badDesc_core ..⟩
  | msixMessage => exact ⟨_, rfl, vectorFire_core ..⟩
  | vectorAck => exact ⟨_, rfl, vectorArm_core ..⟩
  | vectorUnmask => exact ⟨_, rfl, vectorOpen_core ..⟩
  | pcieLinkDown => exact ⟨_, rfl, hostReset_core ..⟩
  | pcieLinkUp => exact ⟨_, rfl, hostLinkUp_core ..⟩
  | hotReset => exact ⟨_, rfl, hostReset_core ..⟩
  | functionLevelReset => exact ⟨_, rfl, hostReset_core ..⟩
  | d3hotEntry => exact ⟨_, rfl, hostReset_core ..⟩
  | perstAssert => exact ⟨_, rfl, hostReset_core ..⟩
  | brownOut => exact ⟨_, rfl, brownOut_core ..⟩
  | brownOutRelease => exact ⟨_, rfl, brownOutEnd_core ..⟩
  | rstNAssert => exact ⟨_, rfl, rstPin_core ..⟩
  | clockReturn => exact ⟨_, rfl, clockReturn_core ..⟩
  | pllLock => exact ⟨_, rfl, pllLock_core ..⟩
  | pulseEdge => exact ⟨_, rfl, pulseEdge_core ..⟩
  | ppsPulseEnd => exact ⟨_, rfl, ppsEnd_core ..⟩
  | carrierLockLost => exact ⟨_, rfl, carrierLost_core ..⟩
  | carrierLockGained => exact ⟨_, rfl, carrierGained_core ..⟩
  | navigationDataDecoded => exact ⟨_, rfl, navData_core ..⟩
  | canArbitrationLost => exact ⟨_, rfl, arbLost_core ..⟩
  | ownerEnrol
  | ownerRevoke
  | rollbackBurn
  | registerWrite
  | canopySample
  | discrepancyTimeout
  | canopyScanEnd
  | readbackMismatch
  | permitMismatch
  | darkTestDue
  | darkTestCheck
  | romCrcCheck
  | ustHeartbeatCheck
  | canopyHeartbeatLost
  | ustInputFilter
  | ustReadbackFault
  | ustDarkSelfClose
  | safeResetPulse
  | canopyStartup
  | ustSuspensionEnd
  | vddUstPowerOn
  | vddUstLow
  | vddUstReturn
  | gladeBoot
  | hostWaitExpiry
  | imageDescriptor
  | powerOn
  | clockLoss
  | pllLossOfLock
  | resetAnnounce
  | resetTakeEffect
  | resetRelease => nomatch h

/-- A command that leaves the safety logic as it was before it settles copies latches at most. -/
theorem safetyKept_of_done {c : Instr} {s t : State} {d : Dev} (h : exec c s = .next t) (hd : exec c s = done s d)
    (hlogic : d.logic = s.toDev.logic) : SafetyKept s t := by
  rw [hd, done_eq] at h
  cases h
  exact (settle_safe d).trans (copyLatches_safe_of_safe hlogic)

/-! What a reset leaves of the fuses. -/

/-- Owners stay, and rollback fuses where no burn runs (R419, R423). -/
def FusesOutlast (s d : Dev) : Prop :=
  d.glade.owner = s.glade.owner ∧ d.glade.enrolled = s.glade.enrolled ∧ d.glade.revoked = s.glade.revoked ∧
    (s.glade.burns = [] → d.glade.rb = s.glade.rb)

theorem fusesOutlast_of_fuses {s d : Dev} (h : d.fuses = s.fuses) : FusesOutlast s d := by
  simp only [Dev.fuses, Prod.mk.injEq] at h
  obtain ⟨howner, henrolled, hrevoked, hrb⟩ := h
  exact ⟨howner, henrolled, hrevoked, fun _ => hrb⟩

/-- What a reset keeps of the fuses and of the safety logic is what lies outside every reset (R463). -/
theorem wipe_core (s : Dev) (kind : Nat) : (s.wipe kind).core = s.bare.core := by
  unfold Dev.wipe
  dsimp only
  split_ifs
  · rfl
  · exact keepCold_core ..
  · exact (keepWarm_core ..).trans (keepCold_core ..)

theorem wipe_fusesOutlast (s : Dev) (kind : Nat) : FusesOutlast s (s.wipe kind) := by
  have hbare := fuses_of_core (wipe_core s kind)
  obtain ⟨howner, henrolled, hrevoked, -⟩ := fusesOutlast_of_fuses hbare
  refine ⟨howner, henrolled, hrevoked, fun hburns => ?_⟩
  exact congrArg (fun f : List (List Byte × List Byte) × Nat × Nat × List Nat => f.2.2.2)
    (hbare.trans (bare_fuses s hburns))

/-- The announcement of a reset to the safety logic is outside Glade (R358, R359). -/
theorem safeAnnounce_glade (s : Dev) : s.safeAnnounce.glade = s.glade := by
  unfold Dev.safeAnnounce
  refine (each_keeps Dev.glade _ (fun d k => ?_) _ _).trans rfl
  dsimp only
  split_ifs <;> rfl

theorem clockHeld_fusesOutlast (s : Dev) : FusesOutlast s s.clockHeld := by
  unfold Dev.clockHeld
  dsimp only
  split_ifs
  · exact fusesOutlast_of_fuses rfl
  · have hwipe := wipe_fusesOutlast s.safeAnnounce 1
    rw [FusesOutlast, safeAnnounce_glade] at hwipe
    exact hwipe

theorem clockLoss_fusesOutlast (s : Dev) : FusesOutlast s s.clockLoss := by
  unfold Dev.clockLoss
  split_ifs
  · exact fusesOutlast_of_fuses rfl
  · exact clockHeld_fusesOutlast (s.cntSat RST_CLK_STAT 23 16 1)

theorem pllLoss_fusesOutlast (s : Dev) (g : Bool) : FusesOutlast s (s.pllLoss g) := by
  unfold Dev.pllLoss
  split_ifs
  · exact clockHeld_fusesOutlast (s.cntSat RST_CLK_STAT (7 + 8 * bnat g) (8 * bnat g) 1)
  · exact fusesOutlast_of_fuses rfl

theorem powerOn_fusesOutlast (s : Dev) (ustDown : Bool) : FusesOutlast s (s.powerOn ustDown) := by
  unfold Dev.powerOn
  cases ustDown
  · exact wipe_fusesOutlast s 0
  · exact wipe_fusesOutlast s 0

theorem resetTakeEffect_fusesOutlast (s : Dev) : FusesOutlast s s.resetTakeEffect := by
  unfold Dev.resetTakeEffect
  split
  · exact fusesOutlast_of_fuses rfl
  · split_ifs
    · exact fusesOutlast_of_fuses rfl
    · exact wipe_fusesOutlast s _

/-- Commands that burn fuses, or whose reset may cut a burn short (R419, R423). -/
def reachesFuses : Instr → Bool
  | .ownerEnrol .. | .ownerRevoke .. | .rollbackBurn | .registerWrite .. => true
  | .powerOn .. | .clockLoss | .pllLossOfLock .. | .resetTakeEffect => true
  | _ => false

theorem exec_keeps_fuses (c : Instr) (s : State) (h : reachesFuses c = false) :
    ∃ d : Dev, exec c s = done s d ∧ d.fuses = s.toDev.fuses := by
  cases hcore : reachesCore c
  · obtain ⟨d, hd, hkept⟩ := exec_keeps_core c s hcore
    exact ⟨d, hd, fuses_of_core hkept⟩
  · cases c with
    | canopySample => exact ⟨_, rfl, canopySample_fuses ..⟩
    | discrepancyTimeout => exact ⟨_, rfl, discTimeout_fuses ..⟩
    | canopyScanEnd => exact ⟨_, rfl, scanCommand_fuses ..⟩
    | readbackMismatch => exact ⟨_, rfl, rbMismatch_fuses ..⟩
    | permitMismatch => exact ⟨_, rfl, permitMismatch_fuses ..⟩
    | darkTestDue => exact ⟨_, rfl, darkDue_fuses ..⟩
    | darkTestCheck => exact ⟨_, rfl, darkCheck_fuses ..⟩
    | romCrcCheck => exact ⟨_, rfl, romCheck_fuses ..⟩
    | ustHeartbeatCheck => exact ⟨_, rfl, ustFreq_fuses ..⟩
    | canopyHeartbeatLost => exact ⟨_, rfl, hbLost_fuses ..⟩
    | ustInputFilter => exact ⟨_, rfl, ustFilter_fuses ..⟩
    | ustReadbackFault => exact ⟨_, rfl, ustRb_fuses ..⟩
    | ustDarkSelfClose => exact ⟨_, rfl, selfClose_fuses ..⟩
    | safeResetPulse => exact ⟨_, rfl, safeReset_fuses ..⟩
    | canopyStartup => exact ⟨_, rfl, canopyStartup_fuses ..⟩
    | ustSuspensionEnd => exact ⟨_, rfl, suspEnd_fuses ..⟩
    | vddUstPowerOn => exact ⟨_, rfl, ustPower_fuses ..⟩
    | vddUstLow => exact ⟨_, rfl, ustLow_fuses ..⟩
    | gladeBoot => exact ⟨_, rfl, byGlade_fuses _ _ (gladeBoot_fuses ..)⟩
    | imageDescriptor => exact ⟨_, rfl, imageDesc_fuses ..⟩
    | resetAnnounce => exact ⟨_, rfl, resetAnnounce_fuses ..⟩
    | resetRelease => exact ⟨_, rfl, resetRelease_fuses ..⟩
    | hostWaitExpiry => exact ⟨_, rfl, byGlade_fuses _ _ (hostWaitEnd_fuses ..)⟩
    | vddUstReturn => exact ⟨_, rfl, ustReturn_fuses ..⟩
    | ownerEnrol | ownerRevoke | rollbackBurn | registerWrite | powerOn | clockLoss | pllLossOfLock | resetTakeEffect =>
      nomatch h
    | _ => nomatch hcore

/-- A command that burns nothing keeps the owners, and the rollback fuses but where it cuts a burn short. -/
theorem exec_fusesOutlast (c : Instr) (s : State) (henrol : ∀ k ok, c ≠ .ownerEnrol k ok) (hrevoke : ∀ k ok, c ≠ .ownerRevoke k ok)
    (hburn : c ≠ .rollbackBurn) (hwrite : ∀ a v, c ≠ .registerWrite a v) :
    ∃ d : Dev, exec c s = done s d ∧ FusesOutlast s.toDev d := by
  cases hfuses : reachesFuses c
  · obtain ⟨d, hd, hkept⟩ := exec_keeps_fuses c s hfuses
    exact ⟨d, hd, fusesOutlast_of_fuses hkept⟩
  cases c with
  | ownerEnrol k ok => exact absurd rfl (henrol k ok)
  | ownerRevoke k ok => exact absurd rfl (hrevoke k ok)
  | rollbackBurn => exact absurd rfl hburn
  | registerWrite a v => exact absurd rfl (hwrite a v)
  | powerOn u => exact ⟨_, rfl, powerOn_fusesOutlast ..⟩
  | clockLoss => exact ⟨_, rfl, clockLoss_fusesOutlast _⟩
  | pllLossOfLock g => exact ⟨_, rfl, pllLoss_fusesOutlast ..⟩
  | resetTakeEffect => exact ⟨_, rfl, resetTakeEffect_fusesOutlast _⟩
  | _ => nomatch hfuses

theorem reachesFuses_of_ne {c : Instr} (henrol : ∀ k ok, c ≠ .ownerEnrol k ok) (hrevoke : ∀ k ok, c ≠ .ownerRevoke k ok)
    (hburn : c ≠ .rollbackBurn) (hwrite : ∀ a v, c ≠ .registerWrite a v) (hpower : ∀ u, c ≠ .powerOn u)
    (htake : c ≠ .resetTakeEffect) (hclock : c ≠ .clockLoss) (hpll : ∀ g, c ≠ .pllLossOfLock g) : reachesFuses c = false := by
  cases c with
  | ownerEnrol k ok => exact absurd rfl (henrol k ok)
  | ownerRevoke k ok => exact absurd rfl (hrevoke k ok)
  | rollbackBurn => exact absurd rfl hburn
  | registerWrite a v => exact absurd rfl (hwrite a v)
  | powerOn u => exact absurd rfl (hpower u)
  | clockLoss => exact absurd rfl hclock
  | pllLossOfLock g => exact absurd rfl (hpll g)
  | resetTakeEffect => exact absurd rfl htake
  | _ => rfl

/-- Settles O7: all but the commands that burn keep the fuses; of those, a reset keeps them but for a burn that it cuts short. -/
theorem fusesBurnByCommandAlone : Obligations.FusesBurnByCommandAlone := by
  unfold Obligations.FusesBurnByCommandAlone
  intro c s t h henrol hrevoke hburn hwrite
  obtain ⟨d, hd, howner, henrolled, hrevoked, hrb⟩ := exec_fusesOutlast c s henrol hrevoke hburn hwrite
  have hglade : t.glade = d.glade := by
    rw [hd, done_eq] at h
    cases h
    exact settle_glade d
  rw [hglade]
  refine ⟨howner, henrolled, hrevoked, ?_⟩
  rintro (hnone | ⟨hpower, htake, hclock, hpll⟩)
  · exact hrb hnone
  · obtain ⟨e, he, hfuses⟩ := exec_keeps_fuses c s (reachesFuses_of_ne henrol hrevoke hburn hwrite hpower htake hclock hpll)
    have hkept := kept_of_done Dev.fuses settle_fuses h he hfuses
    rw [← hglade]
    exact congrArg (fun f : List (List Byte × List Byte) × Nat × Nat × List Nat => f.2.2.2) hkept

/-! What leaves the safety logic. -/

/-- A command outside the list of those that may act on the safety logic leaves it before it settles (R14, R335). -/
theorem exec_keeps_logic (c : Instr) (s : State) (h : reachesSafety c = false) :
    ∃ d : Dev, exec c s = done s d ∧ d.logic = s.toDev.logic := by
  cases hcore : reachesCore c
  · obtain ⟨d, hd, hkept⟩ := exec_keeps_core c s hcore
    exact ⟨d, hd, logic_of_core hkept⟩
  · cases c with
    | ownerEnrol k ok => exact ⟨_, rfl, byGlade_logic _ _ (enrolOwner_logic ..)⟩
    | ownerRevoke k ok => exact ⟨_, rfl, byGlade_logic _ _ (revokeOwner_logic ..)⟩
    | rollbackBurn => exact ⟨_, rfl, byGlade_logic _ _ (burnFuses_logic ..)⟩
    | registerWrite a v => exact ⟨_, rfl, hostWriteOp_logic ..⟩
    | _ => exact nomatch hcore.symm.trans h

/-- Settles O8: a command outside the list leaves the safety logic, and settling copies the latches alone. -/
theorem safetyLogicIsolated : Obligations.SafetyLogicIsolated := by
  unfold Obligations.SafetyLogicIsolated
  intro c s t h hreach
  obtain ⟨d, hd, hlogic⟩ := exec_keeps_logic c s hreach
  exact safetyKept_of_done h hd hlogic

/-! What leaves the mode and the count of cycles. -/

/-- The mode and the count of cycles. -/
def Dev.modeKey (d : Dev) : Nat × Nat := (d.mode, d.cycles)

theorem modeKey_of_glbKey {s t : Dev} (h : s.glbKey = t.glbKey) : s.modeKey = t.modeKey := by
  simp only [Dev.glbKey, Prod.mk.injEq] at h
  obtain ⟨hmode, hcycles⟩ := h
  simp only [Dev.modeKey, Dev.mode, Dev.cycles, Dev.fld, hmode, hcycles]

theorem settle_modeKey (d : Dev) : d.settle.modeKey = d.modeKey := by
  refine modeKey_of_glbKey (Prod.ext ?_ ?_) <;> exact settle_rd d _ (by decide) (by decide)

/-- COMMISSIONED is no part of the mode (R37, R42). -/
theorem setCommissioned_modeKey (d : Dev) (b : Bool) : (d.setBit GLB_MODE_STAT 8 b).modeKey = d.modeKey := by
  refine Prod.ext ?_ ?_
  · exact fld_setBit_ne _ _ _ _ _ _ (by decide) (by decide)
  · exact congrArg BitVec.toNat (rd_setBit_ne _ _ _ _ _ (by decide))

/-- A commit that passes sets COMMISSIONED on the tables that it applied, and what follows writes neither (R37). -/
theorem commission_modeKey (d : Dev) (j : ImgJob) (boot : Bool) :
    (let e := ((d.setBit GLB_MODE_STAT 8 true).setBit GLB_HW_STAT 2 true).imageInForce j.bytes
     if boot then e.imageBurn j (if e.imageStore then 0 else 9) else e.imageToStore j).modeKey = d.modeKey := by
  have hforce : (((d.setBit GLB_MODE_STAT 8 true).setBit GLB_HW_STAT 2 true).imageInForce j.bytes).modeKey = d.modeKey := by
    rw [modeKey_of_glbKey (imageInForce_glbKey ..), modeKey_of_glbKey (setBit_glbKey _ GLB_HW_STAT 2 true (by decide)),
      setCommissioned_modeKey]
  dsimp only
  split
  · exact (modeKey_of_glbKey (imageBurn_glbKey ..)).trans hforce
  · exact (modeKey_of_glbKey (imageToStore_glbKey ..)).trans hforce

theorem commitNow_modeKey (s : Dev) : s.commitNow.modeKey = s.modeKey := by
  unfold Dev.commitNow
  split
  · rfl
  · dsimp only
    split
    · rfl
    · split
      · exact modeKey_of_glbKey (imageReject_glbKey ..)
      · split
        · exact modeKey_of_glbKey (imageReject_glbKey ..)
        · exact (commission_modeKey _ _ _).trans (modeKey_of_glbKey (commitApply_glbKey ..))

theorem exec_keeps_modeKey (c : Instr) (s : State) (hboundary : ∀ i, c ≠ .cycleBoundary i) (hpower : ∀ d, c ≠ .powerOn d)
    (htake : c ≠ .resetTakeEffect) (hclock : c ≠ .clockLoss) (hpll : ∀ g, c ≠ .pllLossOfLock g) :
    ∃ d : Dev, exec c s = done s d ∧ d.modeKey = s.toDev.modeKey := by
  cases c with
  | cycleBoundary i => exact absurd rfl (hboundary i)
  | powerOn u => exact absurd rfl (hpower u)
  | clockLoss => exact absurd rfl hclock
  | pllLossOfLock g => exact absurd rfl (hpll g)
  | resetTakeEffect => exact absurd rfl htake
  | commit => exact ⟨_, rfl, commitNow_modeKey _⟩
  | tick => exact ⟨_, rfl, modeKey_of_glbKey (tickCommand_glbKey ..)⟩
  | gatewaySilent => exact ⟨_, rfl, modeKey_of_glbKey (gatewayGone_glbKey ..)⟩
  | canAutostart => exact ⟨_, rfl, modeKey_of_glbKey (autostart_glbKey ..)⟩
  | slotOverrun => exact ⟨_, rfl, modeKey_of_glbKey (overrun_glbKey ..)⟩
  | tickWatchdogExpiry => exact ⟨_, rfl, modeKey_of_glbKey (tickWatchdog_glbKey ..)⟩
  | modeCmdOperate => exact ⟨_, rfl, modeKey_of_glbKey (modeCommand_glbKey ..)⟩
  | modeCmdWatch => exact ⟨_, rfl, modeKey_of_glbKey (modeCommand_glbKey ..)⟩
  | tickCfgWrite => exact ⟨_, rfl, modeKey_of_glbKey (store_glbKey ..)⟩
  | tickLoadClear => exact ⟨_, rfl, modeKey_of_glbKey (loadClear_glbKey ..)⟩
  | registerWrite => exact ⟨_, rfl, modeKey_of_glbKey (hostWriteOp_glbKey ..)⟩
  | unsupportedRequest => exact ⟨_, rfl, modeKey_of_glbKey (badAccess_glbKey ..)⟩
  | stoppedDomainAccess => exact ⟨_, rfl, modeKey_of_glbKey (stoppedAccess_glbKey ..)⟩
  | loopResume => exact ⟨_, rfl, modeKey_of_glbKey (resumeCommand_glbKey ..)⟩
  | loopClear => exact ⟨_, rfl, modeKey_of_glbKey (loopCommand_glbKey ..)⟩
  | hostTargetWrite => exact ⟨_, rfl, modeKey_of_glbKey (hostTarget_glbKey ..)⟩
  | originWrite => exact ⟨_, rfl, modeKey_of_glbKey (originWrite_glbKey ..)⟩
  | thrusterSelect => exact ⟨_, rfl, modeKey_of_glbKey (selectThrusters_glbKey ..)⟩
  | groveLoad => exact ⟨_, rfl, modeKey_of_glbKey ((groveLoadOp_glbKey ..).trans (laneCorr_glbKey ..))⟩
  | groveEntry => exact ⟨_, rfl, modeKey_of_glbKey ((groveEntryOp_glbKey ..).trans (laneCorr_glbKey ..))⟩
  | groveRelease => exact ⟨_, rfl, modeKey_of_glbKey ((groveStart_glbKey ..).trans (laneCorr_glbKey ..))⟩
  | grovePublish => exact ⟨_, rfl, modeKey_of_glbKey (publish_glbKey ..)⟩
  | groveDeadline => exact ⟨_, rfl, modeKey_of_glbKey (deadline_glbKey ..)⟩
  | groveSolveFailure => exact ⟨_, rfl, modeKey_of_glbKey (solveFails_glbKey ..)⟩
  | laneClear => exact ⟨_, rfl, modeKey_of_glbKey (clearLane_glbKey ..)⟩
  | feFault => exact ⟨_, rfl, modeKey_of_glbKey (feFault_glbKey ..)⟩
  | feFaultClear => exact ⟨_, rfl, modeKey_of_glbKey (feClear_glbKey ..)⟩
  | channelDrop => exact ⟨_, rfl, modeKey_of_glbKey (dropped_glbKey ..)⟩
  | acquisitionComplete => exact ⟨_, rfl, modeKey_of_glbKey (acquired_glbKey ..)⟩
  | spacingSettled => exact ⟨_, rfl, modeKey_of_glbKey (settled_glbKey ..)⟩
  | holdoverEntry => exact ⟨_, rfl, modeKey_of_glbKey (holdover_glbKey ..)⟩
  | localTimeSet => exact ⟨_, rfl, modeKey_of_glbKey (timeSet_glbKey ..)⟩
  | localTimeStep => exact ⟨_, rfl, modeKey_of_glbKey (timeStep_glbKey ..)⟩
  | slewComplete => exact ⟨_, rfl, modeKey_of_glbKey (slewDone_glbKey ..)⟩
  | holdWarnExceeded => exact ⟨_, rfl, modeKey_of_glbKey (holdWarn_glbKey ..)⟩
  | ppsPulse => exact ⟨_, rfl, modeKey_of_glbKey (ppsEdge_glbKey ..)⟩
  | timeMessage => exact ⟨_, rfl, modeKey_of_glbKey (timeMessage_glbKey ..)⟩
  | sentenceInterval => exact ⟨_, rfl, modeKey_of_glbKey (sentenceInterval_glbKey ..)⟩
  | leapSecond => exact ⟨_, rfl, modeKey_of_glbKey (leap_glbKey ..)⟩
  | sentenceReceived => exact ⟨_, rfl, modeKey_of_glbKey (sentence_glbKey ..)⟩
  | refSampleReceived => exact ⟨_, rfl, modeKey_of_glbKey (refArrival_glbKey ..)⟩
  | sarConversion => exact ⟨_, rfl, modeKey_of_glbKey (sarConversion_glbKey ..)⟩
  | calUpdate => exact ⟨_, rfl, modeKey_of_glbKey (calUpdate_glbKey ..)⟩
  | sarEnable => exact ⟨_, rfl, modeKey_of_glbKey (acqEnable_glbKey ..)⟩
  | sdEnable => exact ⟨_, rfl, modeKey_of_glbKey (acqEnable_glbKey ..)⟩
  | bitstreamStuck => exact ⟨_, rfl, modeKey_of_glbKey (bitstreamStuck_glbKey ..)⟩
  | stuckEnd => exact ⟨_, rfl, modeKey_of_glbKey (stuckEnd_glbKey ..)⟩
  | chainRecord => exact ⟨_, rfl, modeKey_of_glbKey (chainRecord_glbKey ..)⟩
  | chainConfigWrite => exact ⟨_, rfl, modeKey_of_glbKey (chainWrite_glbKey ..)⟩
  | coefApply => exact ⟨_, rfl, modeKey_of_glbKey (coefApply_glbKey ..)⟩
  | coefApplyDone => exact ⟨_, rfl, modeKey_of_glbKey (coefDone_glbKey ..)⟩
  | quadTransition => exact ⟨_, rfl, modeKey_of_glbKey (quadTransition_glbKey ..)⟩
  | quadZero => exact ⟨_, rfl, modeKey_of_glbKey (quadZero_glbKey ..)⟩
  | canLeaveInit => exact ⟨_, rfl, modeKey_of_glbKey (canCtrl_glbKey ..)⟩
  | canEnterInit => exact ⟨_, rfl, modeKey_of_glbKey (canCtrl_glbKey ..)⟩
  | canRecover => exact ⟨_, rfl, modeKey_of_glbKey (canRecover_glbKey ..)⟩
  | canTb2Request => exact ⟨_, rfl, modeKey_of_glbKey (tb2Request_glbKey ..)⟩
  | canTb2Cancel => exact ⟨_, rfl, modeKey_of_glbKey (tb2Cancel_glbKey ..)⟩
  | canArbitrationWon => exact ⟨_, rfl, modeKey_of_glbKey (arbWon_glbKey ..)⟩
  | canFrameSent => exact ⟨_, rfl, modeKey_of_glbKey (frameSent_glbKey ..)⟩
  | canFrameReceived => exact ⟨_, rfl, modeKey_of_glbKey (frameReceived_glbKey ..)⟩
  | canError => exact ⟨_, rfl, modeKey_of_glbKey (canError_glbKey ..)⟩
  | canRecoveryDone => exact ⟨_, rfl, modeKey_of_glbKey (recoveryDone_glbKey ..)⟩
  | canHpRelease => exact ⟨_, rfl, modeKey_of_glbKey (hpRelease_glbKey ..)⟩
  | canRxfPop => exact ⟨_, rfl, modeKey_of_glbKey (fifoPop_glbKey ..)⟩
  | rateFallbackTimer => exact ⟨_, rfl, modeKey_of_glbKey (rateFallback_glbKey ..)⟩
  | linkUp => exact ⟨_, rfl, modeKey_of_glbKey (portUp_glbKey ..)⟩
  | linkDown => exact ⟨_, rfl, modeKey_of_glbKey (portDown_glbKey ..)⟩
  | netCfgWrite => exact ⟨_, rfl, modeKey_of_glbKey (netWrite_glbKey ..)⟩
  | ringFrameReceived => exact ⟨_, rfl, modeKey_of_glbKey (ringFrame_glbKey ..)⟩
  | prpFrameReceived => exact ⟨_, rfl, modeKey_of_glbKey (prpFrame_glbKey ..)⟩
  | duplicateEntryExpiry => exact ⟨_, rfl, modeKey_of_glbKey (dupExpire_glbKey ..)⟩
  | egressTransmit => exact ⟨_, rfl, modeKey_of_glbKey (egress_glbKey ..)⟩
  | supervisionSend => exact ⟨_, rfl, modeKey_of_glbKey (supervision_glbKey ..)⟩
  | ringOpenTimeout => exact ⟨_, rfl, modeKey_of_glbKey (ringOpen_glbKey ..)⟩
  | ptpSyncReceived => exact ⟨_, rfl, modeKey_of_glbKey (sync_glbKey ..)⟩
  | ptpAnnounceReceived => exact ⟨_, rfl, modeKey_of_glbKey (announce_glbKey ..)⟩
  | ptpSyncTimeout => exact ⟨_, rfl, modeKey_of_glbKey (syncTimeout_glbKey ..)⟩
  | pdelayReqSend => exact ⟨_, rfl, modeKey_of_glbKey (pdelayReq_glbKey ..)⟩
  | pdelayMessageReceived => exact ⟨_, rfl, modeKey_of_glbKey (pdelay_glbKey ..)⟩
  | ptpSyncSend => exact ⟨_, rfl, modeKey_of_glbKey (syncSend_glbKey ..)⟩
  | ptpAnnounceSend => exact ⟨_, rfl, modeKey_of_glbKey (announceSend_glbKey ..)⟩
  | s450DatagramReceived => exact ⟨_, rfl, modeKey_of_glbKey (s450_glbKey ..)⟩
  | tnowRead => exact ⟨_, rfl, modeKey_of_glbKey (tnow_glbKey ..)⟩
  | evtInCapture => exact ⟨_, rfl, modeKey_of_glbKey (evtIn_glbKey ..)⟩
  | evtPop => exact ⟨_, rfl, modeKey_of_glbKey (evtPop_glbKey ..)⟩
  | alarmArm => exact ⟨_, rfl, modeKey_of_glbKey (alarmArm_glbKey ..)⟩
  | alarmFire => exact ⟨_, rfl, modeKey_of_glbKey (alarmFire_glbKey ..)⟩
  | heartbeatReceived => exact ⟨_, rfl, modeKey_of_glbKey (heartbeat_glbKey ..)⟩
  | peerAbsent => exact ⟨_, rfl, modeKey_of_glbKey (peerAbsent_glbKey ..)⟩
  | standingFrameReceived => exact ⟨_, rfl, modeKey_of_glbKey (standingFrame_glbKey ..)⟩
  | wardenLost => exact ⟨_, rfl, modeKey_of_glbKey (wardenGone_glbKey ..)⟩
  | stateSetPartReceived => exact ⟨_, rfl, modeKey_of_glbKey (setPart_glbKey ..)⟩
  | trackLost => exact ⟨_, rfl, modeKey_of_glbKey (trackGone_glbKey ..)⟩
  | swapDue => exact ⟨_, rfl, modeKey_of_glbKey (swapFalls_glbKey ..)⟩
  | standingSwapCommand => exact ⟨_, rfl, modeKey_of_glbKey (swapCommand_glbKey ..)⟩
  | canopySample => exact ⟨_, rfl, modeKey_of_glbKey (canopySample_glbKey ..)⟩
  | discrepancyTimeout => exact ⟨_, rfl, modeKey_of_glbKey (discTimeout_glbKey ..)⟩
  | canopyScanEnd => exact ⟨_, rfl, modeKey_of_glbKey (scanCommand_glbKey ..)⟩
  | readbackMismatch => exact ⟨_, rfl, modeKey_of_glbKey (rbMismatch_glbKey ..)⟩
  | permitMismatch => exact ⟨_, rfl, modeKey_of_glbKey (permitMismatch_glbKey ..)⟩
  | darkTestDue => exact ⟨_, rfl, modeKey_of_glbKey (darkDue_glbKey ..)⟩
  | darkTestCheck => exact ⟨_, rfl, modeKey_of_glbKey (darkCheck_glbKey ..)⟩
  | romCrcCheck => exact ⟨_, rfl, modeKey_of_glbKey (romCheck_glbKey ..)⟩
  | ustHeartbeatCheck => exact ⟨_, rfl, modeKey_of_glbKey (ustFreq_glbKey ..)⟩
  | canopyHeartbeatLost => exact ⟨_, rfl, modeKey_of_glbKey (hbLost_glbKey ..)⟩
  | ustInputFilter => exact ⟨_, rfl, modeKey_of_glbKey (ustFilter_glbKey ..)⟩
  | ustReadbackFault => exact ⟨_, rfl, modeKey_of_glbKey (ustRb_glbKey ..)⟩
  | ustDarkSelfClose => exact ⟨_, rfl, modeKey_of_glbKey (selfClose_glbKey ..)⟩
  | safeResetPulse => exact ⟨_, rfl, modeKey_of_glbKey (safeReset_glbKey ..)⟩
  | canopyStartup => exact ⟨_, rfl, modeKey_of_glbKey (canopyStartup_glbKey ..)⟩
  | ustSuspensionEnd => exact ⟨_, rfl, modeKey_of_glbKey (suspEnd_glbKey ..)⟩
  | vddUstPowerOn => exact ⟨_, rfl, modeKey_of_glbKey (ustPower_glbKey ..)⟩
  | vddUstLow => exact ⟨_, rfl, modeKey_of_glbKey (ustLow_glbKey ..)⟩
  | thicketReport => exact ⟨_, rfl, modeKey_of_glbKey (thktFrame_glbKey ..)⟩
  | recordSigned => exact ⟨_, rfl, modeKey_of_glbKey (signHead_glbKey ..)⟩
  | custodyHandoff => exact ⟨_, rfl, modeKey_of_glbKey (handoff_glbKey ..)⟩
  | pointReleaseCommand => exact ⟨_, rfl, modeKey_of_glbKey (releaseCommand_glbKey ..)⟩
  | pointLatch => exact ⟨_, rfl, modeKey_of_glbKey (latchPoint_glbKey ..)⟩
  | pointFind => exact ⟨_, rfl, modeKey_of_glbKey (findStart_glbKey ..)⟩
  | pointFindDone => exact ⟨_, rfl, modeKey_of_glbKey (findDone_glbKey ..)⟩
  | eventRecord => exact ⟨_, rfl, modeKey_of_glbKey (eventRecord_glbKey ..)⟩
  | bucketRefill => exact ⟨_, rfl, modeKey_of_glbKey (refillBuckets_glbKey ..)⟩
  | ringlogWrite => exact ⟨_, rfl, modeKey_of_glbKey (byGlade_glbKey _ _ (ringlogWrite_glbKey ..))⟩
  | norErase => exact ⟨_, rfl, modeKey_of_glbKey (byGlade_glbKey _ _ (norErase_glbKey ..))⟩
  | stateSave => exact ⟨_, rfl, modeKey_of_glbKey (byGlade_glbKey _ _ (stateSave_glbKey ..))⟩
  | freezeBegin => exact ⟨_, rfl, modeKey_of_glbKey (freezeBegin_glbKey ..)⟩
  | freezeEnd => exact ⟨_, rfl, modeKey_of_glbKey (freezeEnd_glbKey ..)⟩
  | freezeExpiry => exact ⟨_, rfl, modeKey_of_glbKey (freezeExpire_glbKey ..)⟩
  | recorderClear => exact ⟨_, rfl, modeKey_of_glbKey (byGlade_glbKey _ _ (clearCommand_glbKey ..))⟩
  | clearComplete => exact ⟨_, rfl, modeKey_of_glbKey (byGlade_glbKey _ _ (clearComplete_glbKey ..))⟩
  | panelUpdateStart => exact ⟨_, rfl, modeKey_of_glbKey (byGlade_glbKey _ _ (panelStart_glbKey ..))⟩
  | pwrgdArrival => exact ⟨_, rfl, modeKey_of_glbKey (byGlade_glbKey _ _ (powerGood_glbKey ..))⟩
  | pgTimeout => exact ⟨_, rfl, modeKey_of_glbKey (byGlade_glbKey _ _ (panelAbandon_glbKey ..))⟩
  | panelUpdateEnd => exact ⟨_, rfl, modeKey_of_glbKey (byGlade_glbKey _ _ (panelEnd_glbKey ..))⟩
  | panelUpdateRetry => exact ⟨_, rfl, modeKey_of_glbKey (byGlade_glbKey _ _ (panelRetry_glbKey ..))⟩
  | panelTempRead => exact ⟨_, rfl, modeKey_of_glbKey (byGlade_glbKey _ _ (panelTemp_glbKey ..))⟩
  | barkMeasure => exact ⟨_, rfl, modeKey_of_glbKey (byGlade_glbKey _ _ (barkMeasure_glbKey ..))⟩
  | ringcountSave => exact ⟨_, rfl, modeKey_of_glbKey (byGlade_glbKey _ _ (ringcountSave_glbKey ..))⟩
  | gladeBoot => exact ⟨_, rfl, modeKey_of_glbKey (byGlade_glbKey _ _ (gladeBoot_glbKey ..))⟩
  | gladeWatchdogExpiry => exact ⟨_, rfl, modeKey_of_glbKey (gladeWatchdog_glbKey ..)⟩
  | dieTempSample => exact ⟨_, rfl, modeKey_of_glbKey (byGlade_glbKey _ _ (dieTemps_glbKey ..))⟩
  | supplySample => exact ⟨_, rfl, modeKey_of_glbKey (byGlade_glbKey _ _ (supplies_glbKey ..))⟩
  | supplyWindowFault => exact ⟨_, rfl, modeKey_of_glbKey (byGlade_glbKey _ _ (supplyFault_glbKey ..))⟩
  | ownerEnrol => exact ⟨_, rfl, modeKey_of_glbKey (byGlade_glbKey _ _ (enrolOwner_glbKey ..))⟩
  | ownerRevoke => exact ⟨_, rfl, modeKey_of_glbKey (byGlade_glbKey _ _ (revokeOwner_glbKey ..))⟩
  | imageSave => exact ⟨_, rfl, modeKey_of_glbKey (byGlade_glbKey _ _ (imageSaved_glbKey ..))⟩
  | rollbackBurn => exact ⟨_, rfl, modeKey_of_glbKey (byGlade_glbKey _ _ (burnFuses_glbKey ..))⟩
  | sessionOpen => exact ⟨_, rfl, modeKey_of_glbKey (byGlade_glbKey _ _ (sessOpen_glbKey ..))⟩
  | sessionVerify => exact ⟨_, rfl, modeKey_of_glbKey (byGlade_glbKey _ _ (sessVerify_glbKey ..))⟩
  | sessionClose => exact ⟨_, rfl, modeKey_of_glbKey (byGlade_glbKey _ _ (sessClose_glbKey ..))⟩
  | sessionCmdConflict => exact ⟨_, rfl, modeKey_of_glbKey (byGlade_glbKey _ _ (sessCommand_glbKey ..))⟩
  | challengeExpiry => exact ⟨_, rfl, modeKey_of_glbKey (byGlade_glbKey _ _ (challengeEnd_glbKey ..))⟩
  | sessionIdleExpiry => exact ⟨_, rfl, modeKey_of_glbKey (byGlade_glbKey _ _ (sessIdle_glbKey ..))⟩
  | slotLockExpiry => exact ⟨_, rfl, modeKey_of_glbKey (byGlade_glbKey _ _ (slotUnlock_glbKey ..))⟩
  | attestationRequest => exact ⟨_, rfl, modeKey_of_glbKey (byGlade_glbKey _ _ (attRequest_glbKey ..))⟩
  | attestationReport => exact ⟨_, rfl, modeKey_of_glbKey (byGlade_glbKey _ _ (attReport_glbKey ..))⟩
  | cmdDoorbell => exact ⟨_, rfl, modeKey_of_glbKey (cmdBell_glbKey ..)⟩
  | repDoorbell => exact ⟨_, rfl, modeKey_of_glbKey (repBell_glbKey ..)⟩
  | descriptorFetchDone => exact ⟨_, rfl, modeKey_of_glbKey (fetchEnd_glbKey ..)⟩
  | ringEnable => exact ⟨_, rfl, modeKey_of_glbKey (ringOn_glbKey ..)⟩
  | ringDisable => exact ⟨_, rfl, modeKey_of_glbKey (ringOff_glbKey ..)⟩
  | ringClrErr => exact ⟨_, rfl, modeKey_of_glbKey (ringResume_glbKey ..)⟩
  | nopDescriptor => exact ⟨_, rfl, modeKey_of_glbKey (nopDesc_glbKey ..)⟩
  | setpointDescriptor => exact ⟨_, rfl, modeKey_of_glbKey (setpointDesc_glbKey ..)⟩
  | groveCommandDescriptor => exact ⟨_, rfl, modeKey_of_glbKey (groveDesc_glbKey ..)⟩
  | canTransmitDescriptor => exact ⟨_, rfl, modeKey_of_glbKey (canDesc_glbKey ..)⟩
  | imageDescriptor => exact ⟨_, rfl, modeKey_of_glbKey (imageDesc_glbKey ..)⟩
  | thicketReadout => exact ⟨_, rfl, modeKey_of_glbKey (thicketDesc_glbKey ..)⟩
  | recorderReadout => exact ⟨_, rfl, modeKey_of_glbKey (recorderDesc_glbKey ..)⟩
  | unknownDescriptor => exact ⟨_, rfl, modeKey_of_glbKey (badDesc_glbKey ..)⟩
  | msixMessage => exact ⟨_, rfl, modeKey_of_glbKey (vectorFire_glbKey ..)⟩
  | vectorAck => exact ⟨_, rfl, modeKey_of_glbKey (vectorArm_glbKey ..)⟩
  | vectorUnmask => exact ⟨_, rfl, modeKey_of_glbKey (vectorOpen_glbKey ..)⟩
  | pcieLinkDown => exact ⟨_, rfl, modeKey_of_glbKey (hostReset_glbKey ..)⟩
  | pcieLinkUp => exact ⟨_, rfl, modeKey_of_glbKey (hostLinkUp_glbKey ..)⟩
  | hotReset => exact ⟨_, rfl, modeKey_of_glbKey (hostReset_glbKey ..)⟩
  | functionLevelReset => exact ⟨_, rfl, modeKey_of_glbKey (hostReset_glbKey ..)⟩
  | d3hotEntry => exact ⟨_, rfl, modeKey_of_glbKey (hostReset_glbKey ..)⟩
  | perstAssert => exact ⟨_, rfl, modeKey_of_glbKey (hostReset_glbKey ..)⟩
  | brownOut => exact ⟨_, rfl, modeKey_of_glbKey (brownOut_glbKey ..)⟩
  | brownOutRelease => exact ⟨_, rfl, modeKey_of_glbKey (brownOutEnd_glbKey ..)⟩
  | rstNAssert => exact ⟨_, rfl, modeKey_of_glbKey (rstPin_glbKey ..)⟩
  | clockReturn => exact ⟨_, rfl, modeKey_of_glbKey (clockReturn_glbKey ..)⟩
  | resetAnnounce => exact ⟨_, rfl, modeKey_of_glbKey (resetAnnounce_glbKey ..)⟩
  | resetRelease => exact ⟨_, rfl, modeKey_of_glbKey (resetRelease_glbKey ..)⟩
  | pllLock => exact ⟨_, rfl, modeKey_of_glbKey (pllLock_glbKey ..)⟩
  | pulseEdge => exact ⟨_, rfl, modeKey_of_glbKey (pulseEdge_glbKey ..)⟩
  | ppsPulseEnd => exact ⟨_, rfl, modeKey_of_glbKey (ppsEnd_glbKey ..)⟩
  | hostWaitExpiry => exact ⟨_, rfl, modeKey_of_glbKey (byGlade_glbKey _ _ (hostWaitEnd_glbKey ..))⟩
  | carrierLockLost => exact ⟨_, rfl, modeKey_of_glbKey (carrierLost_glbKey ..)⟩
  | carrierLockGained => exact ⟨_, rfl, modeKey_of_glbKey (carrierGained_glbKey ..)⟩
  | navigationDataDecoded => exact ⟨_, rfl, modeKey_of_glbKey (navData_glbKey ..)⟩
  | vddUstReturn => exact ⟨_, rfl, modeKey_of_glbKey (ustReturn_glbKey ..)⟩
  | canArbitrationLost => exact ⟨_, rfl, modeKey_of_glbKey (arbLost_glbKey ..)⟩

/-- Settles O9: no other command writes GLB_MODE_STAT.MODE or GLB_CYCLE_CNT. -/
theorem modeChangesAtBoundary : Obligations.ModeChangesAtBoundary := by
  unfold Obligations.ModeChangesAtBoundary
  intro c s t h hboundary hpower htake hclock hpll
  obtain ⟨d, hd, hkey⟩ := exec_keeps_modeKey c s hboundary hpower htake hclock hpll
  have hkept := kept_of_done Dev.modeKey settle_modeKey h hd hkey
  exact ⟨congrArg Prod.fst hkept, congrArg Prod.snd hkept⟩

end Sys2Proof.Machine
end

section
/-! The frame of a meaning, built operation by operation: the registers that it writes, the engines as it leaves them, and that the
sequencer, the recorder and the safety logic stay as they were (R14, R335). -/

namespace Sys2Proof.Machine

/-- The frame of a device d that a meaning has made of s, before it settles: outside the listed registers d reads as s, its engines
are b, and sequencer, recorder and safety logic are those of s, but for events and free values. -/
structure Effect (l : List Nat) (s d b : Dev) : Prop where
  regs : ∀ a, a ∉ l → d.rd a = s.rd a
  engines : blocks d = b
  seq : d.seqKey = s.seqKey
  log : { d.log with raised := s.log.raised } = s.log
  safe : d.safe = s.safe

section
variable {l m : List Nat} {s d b : Dev}

theorem Effect.refl (l : List Nat) (s : Dev) : Effect l s s (blocks s) := ⟨fun _ _ => rfl, rfl, rfl, rfl, rfl⟩

theorem Effect.wr (h : Effect l s d b) {a : Nat} (ha : a ∈ l) (v : Word) : Effect l s (d.wr a v) b :=
  ⟨fun x hx => (rd_wr_ne _ _ _ _ (ne_of_mem_of_not_mem ha hx).symm).trans (h.regs x hx), h.engines, h.seq, h.log, h.safe⟩

theorem Effect.evW (h : Effect l s d b) (c : Nat) (p q : Word) : Effect l s (d.evW c p q) b :=
  ⟨h.regs, h.engines, h.seq, h.log, h.safe⟩

theorem Effect.setFld (h : Effect l s d b) {a : Nat} (ha : a ∈ l) (hi lo v : Nat) : Effect l s (d.setFld a hi lo v) b := h.wr ha _

theorem Effect.setBit (h : Effect l s d b) {a : Nat} (ha : a ∈ l) (i : Nat) (v : Bool) : Effect l s (d.setBit a i v) b := h.wr ha _

theorem Effect.wrN (h : Effect l s d b) {a : Nat} (ha : a ∈ l) (v : Nat) : Effect l s (d.wrN a v) b := h.wr ha _

theorem Effect.cntSat (h : Effect l s d b) {a : Nat} (ha : a ∈ l) (hi lo k : Nat) : Effect l s (d.cntSat a hi lo k) b := h.wr ha _

theorem Effect.cntWrap (h : Effect l s d b) {a : Nat} (ha : a ∈ l) (hi lo k : Nat) : Effect l s (d.cntWrap a hi lo k) b := h.wr ha _

theorem Effect.orMask (h : Effect l s d b) {a : Nat} (ha : a ∈ l) (m : Nat) : Effect l s (d.orMask a m) b := h.wr ha _

theorem Effect.clrMask (h : Effect l s d b) {a : Nat} (ha : a ∈ l) (m : Nat) : Effect l s (d.clrMask a m) b := h.wr ha _

theorem Effect.ev (h : Effect l s d b) (c p q : Nat) : Effect l s (d.ev c p q) b := h.evW _ _ _

theorem Effect.evI (h : Effect l s d b) (c p : Nat) (q : Int) : Effect l s (d.evI c p q) b := h.evW _ _ _

theorem Effect.ite (c : Prop) [Decidable c] {d e : Dev} (hd : c → Effect l s d b) (he : ¬c → Effect l s e b) :
    Effect l s (if c then d else e) b := by
  split
  · exact hd ‹_›
  · exact he ‹_›

theorem Effect.spend (h : Effect l s d b) : Effect l s d.spend b :=
  ⟨h.regs, h.engines, h.seq, h.log, h.safe⟩

theorem Effect.weaken (h : Effect l s d b) (hlm : l ⊆ m) : Effect m s d b :=
  ⟨fun a ha => h.regs a fun hl => ha (hlm hl), h.engines, h.seq, h.log, h.safe⟩

theorem Effect.raise (h : Effect l s d b) {n : Nat} (hn : HOST_EVT_PEND (n / 32) ∈ l) : Effect l s (d.raise n) b := h.wr hn _

/-! An engine is replaced as a whole. -/

theorem Effect.clk (h : Effect l s d b) (x : ClkSt) : Effect l s { d with clk := x } { b with clk := x } :=
  ⟨h.regs, congrArg (fun e : Dev => { e with clk := x }) h.engines, h.seq, h.log, h.safe⟩

theorem Effect.loop (h : Effect l s d b) (x : LoopSt) : Effect l s { d with loop := x } { b with loop := x } :=
  ⟨h.regs, congrArg (fun e : Dev => { e with loop := x }) h.engines, h.seq, h.log, h.safe⟩

theorem Effect.prof (h : Effect l s d b) (x : ProfSt) : Effect l s { d with prof := x } { b with prof := x } :=
  ⟨h.regs, congrArg (fun e : Dev => { e with prof := x }) h.engines, h.seq, h.log, h.safe⟩

theorem Effect.est (h : Effect l s d b) (x : EstSt) : Effect l s { d with est := x } { b with est := x } :=
  ⟨h.regs, congrArg (fun e : Dev => { e with est := x }) h.engines, h.seq, h.log, h.safe⟩

theorem Effect.alloc (h : Effect l s d b) (x : AllocSt) : Effect l s { d with alloc := x } { b with alloc := x } :=
  ⟨h.regs, congrArg (fun e : Dev => { e with alloc := x }) h.engines, h.seq, h.log, h.safe⟩

theorem Effect.grove (h : Effect l s d b) (x : GroveSt) : Effect l s { d with grove := x } { b with grove := x } :=
  ⟨h.regs, congrArg (fun e : Dev => { e with grove := x }) h.engines, h.seq, h.log, h.safe⟩

theorem Effect.gnss (h : Effect l s d b) (x : GnssSt) : Effect l s { d with gnss := x } { b with gnss := x } :=
  ⟨h.regs, congrArg (fun e : Dev => { e with gnss := x }) h.engines, h.seq, h.log, h.safe⟩

theorem Effect.acq (h : Effect l s d b) (x : AcqSt) : Effect l s { d with acq := x } { b with acq := x } :=
  ⟨h.regs, congrArg (fun e : Dev => { e with acq := x }) h.engines, h.seq, h.log, h.safe⟩

theorem Effect.can (h : Effect l s d b) (x : CanSt) : Effect l s { d with can := x } { b with can := x } :=
  ⟨h.regs, congrArg (fun e : Dev => { e with can := x }) h.engines, h.seq, h.log, h.safe⟩

theorem Effect.net (h : Effect l s d b) (x : NetSt) : Effect l s { d with net := x } { b with net := x } :=
  ⟨h.regs, congrArg (fun e : Dev => { e with net := x }) h.engines, h.seq, h.log, h.safe⟩

theorem Effect.host (h : Effect l s d b) (x : HostSt) : Effect l s { d with host := x } { b with host := x } :=
  ⟨h.regs, congrArg (fun e : Dev => { e with host := x }) h.engines, h.seq, h.log, h.safe⟩

theorem Effect.stand (h : Effect l s d b) (x : StandSt) : Effect l s { d with stand := x } { b with stand := x } :=
  ⟨h.regs, congrArg (fun e : Dev => { e with stand := x }) h.engines, h.seq, h.log, h.safe⟩

theorem Effect.thkt (h : Effect l s d b) (x : ThktSt) : Effect l s { d with thkt := x } { b with thkt := x } :=
  ⟨h.regs, congrArg (fun e : Dev => { e with thkt := x }) h.engines, h.seq, h.log, h.safe⟩

theorem Effect.blz (h : Effect l s d b) (x : BlzSt) : Effect l s { d with blz := x } { b with blz := x } :=
  ⟨h.regs, congrArg (fun e : Dev => { e with blz := x }) h.engines, h.seq, h.log, h.safe⟩

theorem Effect.glade (h : Effect l s d b) (x : GladeSt) : Effect l s { d with glade := x } { b with glade := x } :=
  ⟨h.regs, congrArg (fun e : Dev => { e with glade := x }) h.engines, h.seq, h.log, h.safe⟩

theorem Effect.rst (h : Effect l s d b) (x : RstSt) : Effect l s { d with rst := x } { b with rst := x } :=
  ⟨h.regs, congrArg (fun e : Dev => { e with rst := x }) h.engines, h.seq, h.log, h.safe⟩

/-- Repeated operations keep the frame that each keeps. -/
theorem Effect.each {α : Type} {f : Dev → α → Dev} {xs : List α} (h : Effect l s d b)
    (hf : ∀ e x, x ∈ xs → Effect l s e b → Effect l s (f e x) b) : Effect l s (d.each xs f) b := by
  unfold Dev.each
  exact List.foldlRecOn (motive := fun e => Effect l s e b) xs f h fun e he x hx => hf e x hx he

/-- The state in which a meaning that has made d of the device ends. -/
abbrev State.after (s : State) (d : Dev) : State := { s with toDev := d.settle }

theorem Effect.framed {s : State} {d b : Dev} (h : Effect l s.toDev d b) : Framed l s (s.after d) b := by
  refine ⟨fun a ha hout hstat => (settle_rd d a hout hstat).trans (h.regs a ha), (blocks_settle d).trans h.engines, ?_, ?_, ?_⟩
  · rw [SeqKept, settle_seq]
    exact congrArg (fun q : SeqSt => { q with freeCtr := s.seq.freeCtr }) h.seq
  · rw [LogKept, settle_log]
    exact h.log
  · exact (settle_safe d).trans (copyLatches_safe_of_safe h.safe)

end

/-! What the settled state shows of the device. -/

theorem noEvent_after {s : State} {d : Dev} (h : d.log.raised = s.log.raised) : NoEvent s (s.after d) :=
  (congrArg LogSt.raised (settle_log d)).trans h

theorem oneEvent_after {s : State} {d : Dev} {c : Nat} {p q : Word}
    (h : ∃ e, d.log.raised = s.log.raised ++ [e] ∧ e.code = c ∧ e.p1 = p ∧ e.p2 = q) : OneEvent s (s.after d) c p q := by
  obtain ⟨e, he, hcode, hp, hq⟩ := h
  exact ⟨e, (congrArg LogSt.raised (settle_log d)).trans he, hcode, hp, hq⟩

theorem noEffect_of_done {c : Instr} {s : State} {d : Dev} (hc : exec c s = done s d) (hd : d = s.toDev) : NoEffect c s := by
  subst hd
  exact answers_of_done hc ⟨(Effect.refl [] s.toDev).framed, noEvent_after rfl⟩

end Sys2Proof.Machine
end
section
/-! The windows of the engines: what is read behind a window after an update of one, and that no update adds or removes a window. -/

namespace Sys2Proof.Machine

theorem length_modAt {α : Type} (xs : List α) (i : Nat) (f : α → α) : (modAt xs i f).length = xs.length := by
  induction xs generalizing i with
  | nil => rfl
  | cons x xs ih =>
    cases i with
    | zero => rfl
    | succ i => exact congrArg (· + 1) (ih i)

theorem getD_modAt_same {α : Type} (xs : List α) (i : Nat) (f : α → α) (x : α) (h : i < xs.length) :
    (modAt xs i f).getD i x = f (xs.getD i x) := by
  induction xs generalizing i with
  | nil => exact absurd h (Nat.not_lt_zero i)
  | cons y ys ih =>
    cases i with
    | zero => rfl
    | succ i => exact ih i (Nat.lt_of_succ_lt_succ h)

theorem getD_modAt_ne {α : Type} (xs : List α) (i j : Nat) (f : α → α) (x : α) (h : j ≠ i) :
    (modAt xs i f).getD j x = xs.getD j x := by
  induction xs generalizing i j with
  | nil => rfl
  | cons y ys ih =>
    cases i with
    | zero =>
      cases j with
      | zero => exact absurd rfl h
      | succ j => rfl
    | succ i =>
      cases j with
      | zero => rfl
      | succ j => exact ih i j fun e => h (congrArg (· + 1) e)

/-- Outside the list nothing is replaced. -/
theorem modAt_of_le {α : Type} (xs : List α) (i : Nat) (f : α → α) (h : xs.length ≤ i) : modAt xs i f = xs := by
  induction xs generalizing i with
  | nil => rfl
  | cons y ys ih =>
    cases i with
    | zero => exact absurd h (Nat.not_succ_le_zero _)
    | succ i => exact congrArg (y :: ·) (ih i (Nat.le_of_succ_le_succ h))

theorem gen_setGen_same (s : Dev) (g : Nat) (f : GenSt → GenSt) (h : g < s.prof.gen.length) : (s.setGen g f).gen g = f (s.gen g) :=
  getD_modAt_same _ _ _ _ h

theorem lane_setLane_same (s : Dev) (l : Nat) (f : LaneSt → LaneSt) (h : l < s.grove.lane.length) :
    (s.setLane l f).lane l = f (s.lane l) :=
  getD_modAt_same _ _ _ _ h

theorem lane_setLane_ne (s : Dev) (l k : Nat) (f : LaneSt → LaneSt) (h : k ≠ l) : (s.setLane l f).lane k = s.lane k :=
  getD_modAt_ne _ _ _ _ _ h

theorem canc_setCanc_same (s : Dev) (c : Nat) (f : CanCtl → CanCtl) (h : c < s.can.ctl.length) :
    (s.setCanc c f).canc c = f (s.canc c) :=
  getD_modAt_same _ _ _ _ h

theorem canc_setCanc_ne (s : Dev) (c k : Nat) (f : CanCtl → CanCtl) (h : k ≠ c) : (s.setCanc c f).canc k = s.canc k :=
  getD_modAt_ne _ _ _ _ _ h

theorem chain_setChain_same (s : Dev) (n : Nat) (f : ChainSt → ChainSt) (h : n < s.acq.chain.length) :
    (s.setChain n f).chain n = f (s.chain n) :=
  getD_modAt_same _ _ _ _ h

theorem chain_setChain_ne (s : Dev) (n k : Nat) (f : ChainSt → ChainSt) (h : k ≠ n) : (s.setChain n f).chain k = s.chain k :=
  getD_modAt_ne _ _ _ _ _ h

end Sys2Proof.Machine
end

section
/-! The sequencer's requests, overruns and the host's register port (R12 to R15, R25, R33, R35, R38, R41, R492). -/

namespace Sys2Proof.Machine

/-! Requests. -/

/-- A device that differs from the state in its sequencer alone. -/
theorem onlySeq_after (s : State) (q : SeqSt) :
    (s.after { s.toDev with seq := q }).seq = q ∧ RegsBut [] s (s.after { s.toDev with seq := q }) ∧
      blocks (s.after { s.toDev with seq := q }).toDev = blocks s.toDev ∧
      (s.after { s.toDev with seq := q }).log = s.log ∧ SafetyKept s (s.after { s.toDev with seq := q }) :=
  ⟨settle_seq _, fun a _ hout hstat => settle_rd _ a hout hstat, blocks_settle _, settle_log _,
    (settle_safe _).trans (copyLatches_safe_of_safe rfl)⟩

/-- What a host write stores by access type (R12). -/
theorem store_eq_wr {a : Nat} {r : RegRow} (h : regRow a = some r) (s : Dev) (v : Word) : s.store a v =
    s.wr a (((s.rd a &&& ~~~BitVec.ofNat 32 r.rw) ||| (v &&& BitVec.ofNat 32 r.rw)) &&& ~~~(v &&& BitVec.ofNat 32 r.w1c)) := by
  unfold Dev.store
  rw [h]

theorem store_none {a : Nat} (h : regRow a = none) (s : Dev) (v : Word) : s.store a v = s := by
  unfold Dev.store
  rw [h]

/-- A register without W1C bits takes the value in its RW bits (R12). -/
theorem store_eq_wr_rw {a : Nat} {r : RegRow} (h : regRow a = some r) (hw1c : r.w1c = 0) (s : Dev) (v : Word) :
    s.store a v = s.wr a ((s.rd a &&& ~~~BitVec.ofNat 32 r.rw) ||| (v &&& BitVec.ofNat 32 r.rw)) := by
  rw [store_eq_wr h, hw1c]
  rw [show BitVec.ofNat 32 0 = 0#32 from rfl, BitVec.and_zero, BitVec.not_zero, BitVec.and_allOnes]

theorem effect_store {l : List Nat} {a : Nat} (ha : a ∈ l) (s : Dev) (v : Word) : Effect l s (s.store a v) (blocks s) := by
  unfold Dev.store
  split
  · exact Effect.refl l s
  · exact (Effect.refl l s).wr ha _

theorem store_log (s : Dev) (a : Nat) (v : Word) : (s.store a v).log = s.log := by
  unfold Dev.store
  split <;> rfl

theorem store_tickCfg (s : Dev) (v : Word) : s.store GLB_TICK_CFG v =
    s.wr GLB_TICK_CFG ((s.rd GLB_TICK_CFG &&& 0x0000FFFC#32) ||| (v &&& 0xFFFF0003#32)) :=
  store_eq_wr_rw (r := { off := 0x010, reset := 0x00320003, rw := 0xFFFF0003 }) (by decide) rfl s v

/-- Settles O10: the commands write the sequencer's requests alone; GLB_TICK_CFG is a register of plain RW bits. -/
theorem boundaryRequests : Obligations.BoundaryRequests := by
  unfold Obligations.BoundaryRequests
  refine ⟨fun s => ⟨?_, ?_, ?_⟩, fun v s => ?_⟩
  · exact answers_of_done rfl (onlySeq_after s { s.seq with heldCmd := 1 })
  · exact answers_of_done rfl (onlySeq_after s { s.seq with heldCmd := 2 })
  · exact answers_of_done rfl (onlySeq_after s { s.seq with loadClr := true })
  · refine answers_of_done rfl ⟨?_, (effect_store (by simp) _ _).framed, noEvent_after (by rw [store_log])⟩
    exact (settle_rd _ _ (by decide) (by decide)).trans (by rw [store_tickCfg, rd_wr_same])

/-! Overruns. -/

/-- What an overrun marks, counts and raises (R33). -/
structure Overrun (s t : State) (m : Nat × Nat × Nat × Nat) : Prop where
  mark : t.bit GLB_OVR_STAT m.1 = true
  others : ∀ k, k ≠ m.1 → t.bit GLB_OVR_STAT k = s.bit GLB_OVR_STAT k
  count : t.fld GLB_OVR_CNT 15 0 = min 65535 (s.fld GLB_OVR_CNT 15 0 + 1)
  event : OneEvent s t m.2.1 (BitVec.ofNat 32 m.2.2.1) (BitVec.ofNat 32 m.2.2.2)
  frame : OnlyRegs [GLB_OVR_STAT, GLB_OVR_CNT] s t

theorem overrunFlag_after (s : State) (m : Nat × Nat × Nat × Nat) (hm : m.1 < 32) :
    Overrun s (s.after (s.toDev.overrunFlag m.1 m.2.1 m.2.2.1 m.2.2.2)) m := by
  have hstat (k : Nat) : (s.toDev.overrunFlag m.1 m.2.1 m.2.2.1 m.2.2.2).settle.bit GLB_OVR_STAT k =
      (s.toDev.setBit GLB_OVR_STAT m.1 true).bit GLB_OVR_STAT k := by
    rw [settle_bit _ _ _ (by decide) (by decide), Dev.overrunFlag, ev_bit, bit_cntSat_other _ _ _ _ _ _ _ (by decide)]
  refine ⟨?_, fun k hk => ?_, ?_, oneEvent_after ⟨_, rfl, rfl, rfl, rfl⟩, ?_⟩
  · exact (hstat _).trans (bit_setBit_same _ _ _ _ hm)
  · exact (hstat _).trans (bit_setBit_ne _ _ _ _ _ hm hk)
  · refine (settle_fld _ _ _ _ (by decide) (by decide)).trans ?_
    rw [Dev.overrunFlag, ev_fld, fld_cntSat_same _ _ _ _ _ (by decide) (by decide),
      fld_setBit_other _ _ _ _ _ _ _ (by decide)]
    rfl
  · exact ((((Effect.refl _ _).wr (by simp) _).wr (by simp) _).evW _ _ _).framed

theorem overrunMark_lt (s : State) (w : OverrunWork) : (overrunMark s w).1 < 32 := by
  cases w <;> simp [overrunMark]

/-- An overrun is its flag, but for the slots of a Grove whose work a step has discarded (R23, R33). -/
theorem overrun_eq_flag (s : State) (w : OverrunWork)
    (h : s.seq.abortGrove = false ∨ (∃ a b, w = .profile a b) ∨ (∃ a b, w = .loop a b)) : s.toDev.overrun w =
    s.toDev.overrunFlag (overrunMark s w).1 (overrunMark s w).2.1 (overrunMark s w).2.2.1 (overrunMark s w).2.2.2 := by
  rcases h with h | ⟨a, b, rfl⟩ | ⟨a, b, rfl⟩
  · cases w <;> simp [Dev.overrun, overrunMark, h]
  · rfl
  · rfl

theorem overrun_of_abort (s : State) (w : OverrunWork) (h : s.seq.abortGrove = true) (hprof : ∀ a b, w ≠ .profile a b)
    (hloop : ∀ a b, w ≠ .loop a b) : s.toDev.overrun w = s.toDev := by
  cases w with
  | profile a b => exact absurd rfl (hprof a b)
  | loop a b => exact absurd rfl (hloop a b)
  | _ => exact if_pos h

/-- Settles O11: an overrun is its flag, unless a step has discarded the Grove's work. -/
theorem slotOverruns : Obligations.SlotOverruns := by
  unfold Obligations.SlotOverruns
  refine fun w s => ⟨fun h => ?_, fun h hprof hloop => ?_⟩
  · obtain ⟨hmark, hothers, hcount, hevent, hframe⟩ := overrunFlag_after s (overrunMark s w) (overrunMark_lt s w)
    exact answers_of_done (congrArg (done s) (overrun_eq_flag s w h)) ⟨hmark, hothers, hcount, hevent, hframe⟩
  · exact noEffect_of_done rfl (overrun_of_abort s w h hprof hloop)

/-! The host's register port. -/

/-- A register write at an aligned address, in a block whose registers have no effect of their own, stores (R12, R14). -/
theorem hostWriteOp_eq_store (s : Dev) (a : Nat) (v : Word) (ha : a % 4 = 0)
    (hblock : blockOf a = .rst ∨ blockOf a = .pin ∨ blockOf a = .blz) :
    s.hostWriteOp a v = { s.store a v with seq.hostCpl := .ok } := by
  unfold Dev.hostWriteOp Dev.regWrite
  rw [if_pos ha]
  rcases hblock with h | h | h <;> rw [h]

theorem hostWriteOp_safe (s : Dev) (a : Nat) (v : Word) (ha : a % 4 = 0) (hblock : blockOf a = .safe) :
    s.hostWriteOp a v = { s with seq.hostCpl := .ok } := by
  unfold Dev.hostWriteOp Dev.regWrite
  rw [if_pos ha, hblock]

/-- The two registers that follow the safety logic lie in SAFE. -/
theorem ne_of_blockOf_ne_safe {a : Nat} (h : blockOf a ≠ .safe) : a ≠ SAFE_OUT_STAT ∧ a ≠ SAFE_STAT :=
  ⟨fun e => h (by rw [e]; rfl), fun e => h (by rw [e]; rfl)⟩

/-- A write that is discarded leaves the completion alone (R14, R15). -/
theorem discarded_after (s : State) :
    let t := s.after { s.toDev with seq.hostCpl := .ok }
    RegsBut [] s t ∧ NoEvent s t ∧ blocks t.toDev = blocks s.toDev ∧ t.seq.hostCpl = .ok := by
  obtain ⟨hseq, hregs, hblocks, hlog, -⟩ := onlySeq_after s { s.seq with hostCpl := .ok }
  exact ⟨hregs, congrArg LogSt.raised hlog, hblocks, congrArg SeqSt.hostCpl hseq⟩

/-- A write that stores one word (R12). -/
theorem stored_after (s : State) {a : Nat} (x : Word) (hsafe : blockOf a ≠ .safe) :
    let t := s.after { s.toDev.wr a x with seq.hostCpl := .ok }
    t.rd a = x ∧ RegsBut [a] s t ∧ NoEvent s t ∧ blocks t.toDev = blocks s.toDev ∧ t.seq.hostCpl = .ok := by
  obtain ⟨hout, hstat⟩ := ne_of_blockOf_ne_safe hsafe
  refine ⟨(settle_rd _ _ hout hstat).trans (rd_wr_same s.toDev a x), fun b hb hbout hbstat => ?_, noEvent_after rfl,
    blocks_settle _, congrArg SeqSt.hostCpl (settle_seq _)⟩
  exact (settle_rd _ _ hbout hbstat).trans (rd_wr_ne s.toDev a b x fun e => hb (by simp [e]))

/-- The stopped domains once an access has found the clock of this one stopped (R492). -/
def Dev.stoppedWith (s : Dev) (a : Nat) : Nat :=
  if s.bit RST_DOM_STAT (blockDomain (blockOf a)) then s.rst.stopped.lor (2 ^ blockDomain (blockOf a)) else s.rst.stopped

/-- An access to a stopped domain reaches no register: the host's times out, the management core's leaves Glade hanging (R41, R492). -/
theorem stoppedAccess_eq (s : Dev) (mgt : Bool) (a : Nat) : s.stoppedAccess mgt a =
    if mgt then { s with rst.stopped := s.stoppedWith a, glade.hung := true }
    else { s with rst.stopped := s.stoppedWith a, seq.hostCpl := .timeout } := by
  unfold Dev.stoppedAccess Dev.stoppedWith
  dsimp only
  split_ifs <;> rfl

/-- Settles O16: the blocks named have no register with an effect of its own, and an access to a stopped domain reaches none. -/
theorem registerAccess : Obligations.RegisterAccess := by
  unfold Obligations.RegisterAccess
  refine ⟨fun a v s ha => ⟨fun r hblock hrow => ?_, ?_⟩, fun a write s => ⟨?_, ?_⟩⟩
  · have hsafe : blockOf a.toNat ≠ .safe := by rcases hblock with h | h | h <;> rw [h] <;> decide
    refine answers_of_done (congrArg (done s) ?_) (stored_after s _ hsafe)
    rw [hostWriteOp_eq_store _ _ _ ha hblock, store_eq_wr hrow]
  · rintro (⟨hblock, hrow⟩ | hblock)
    · refine answers_of_done (congrArg (done s) ?_) (discarded_after s)
      rw [hostWriteOp_eq_store _ _ _ ha hblock, store_none hrow]
    · exact answers_of_done (congrArg (done s) (hostWriteOp_safe _ _ _ ha hblock)) (discarded_after s)
  · refine answers_of_done (congrArg (done s) (stoppedAccess_eq s.toDev false a.toNat)) ⟨settle_seq _,
      fun b _ hout hstat => settle_rd _ b hout hstat, settle_log _, ?_, fun hbit => ?_⟩
    · rw [settle_rst, blocks_settle]
      rfl
    · have hkept : s.toDev.stoppedWith a.toNat = s.rst.stopped := by
        rw [Dev.stoppedWith, hbit]
        rfl
      rw [settle_rst]
      exact congrArg (fun n => { s.rst with stopped := n }) hkept
  · refine answers_of_done (congrArg (done s) (stoppedAccess_eq s.toDev true a.toNat)) ⟨settle_seq _,
      fun b _ hout hstat => settle_rd _ b hout hstat, settle_log _, ?_⟩
    rw [settle_rst, blocks_settle]
    rfl

end Sys2Proof.Machine
end

section
/-! Register writes of the engines that act at once: loop commands, host targets, lane maxima, the working origin and the thruster
selection (R79, R98, R109, R148, R203). -/

namespace Sys2Proof.Machine

/-! Loop commands. -/

/-- The fields of LOOP_CMD_STAT that a command leaves (R79). -/
theorem loopCommand_stat (s : Dev) (c op : Nat) (ok : Bool) (hc : c < 128) (hop : op < 4) :
    (s.loopCommand c op ok).fld LOOP_CMD_STAT 6 0 = c ∧ (s.loopCommand c op ok).fld LOOP_CMD_STAT 9 8 = op ∧
      (s.loopCommand c op ok).bit LOOP_CMD_STAT 16 = true := by
  have hstat : (s.loopCommand c op ok).rd LOOP_CMD_STAT =
      (((s.setFld LOOP_CMD_STAT 6 0 c).setFld LOOP_CMD_STAT 9 8 op).setBit LOOP_CMD_STAT 16 true).rd LOOP_CMD_STAT :=
    rd_of_regs _ _ _ (by dsimp only [Dev.loopCommand])
  rw [fld_of_rd _ _ _ _ _ hstat, fld_of_rd _ _ _ _ _ hstat, bit_of_rd _ _ _ _ hstat]
  refine ⟨?_, ?_, bit_setBit_same _ _ _ _ (by decide)⟩
  · rw [fld_setBit_ne _ _ _ _ _ _ (by decide) (by decide), fld_setFld_ne _ _ _ _ _ _ _ (by decide) (by decide) (by decide),
      fld_setFld_same _ _ _ _ _ (by decide) (by decide)]
    exact Nat.mod_eq_of_lt hc
  · rw [fld_setBit_ne _ _ _ _ _ _ (by decide) (by decide), fld_setFld_same _ _ _ _ _ (by decide) (by decide)]
    exact Nat.mod_eq_of_lt hop

theorem loopCommand_loop (s : Dev) (c op : Nat) (ok : Bool) :
    (s.loopCommand c op ok).loop = { s.loop with cmd := some { ctx := c, op := op, sessOk := ok } } := by
  simp [Dev.loopCommand]

theorem effect_loopCommand {s d b : Dev} (h : Effect [LOOP_CMD_STAT] s d b) (c op : Nat) (ok : Bool) :
    Effect [LOOP_CMD_STAT] s (d.loopCommand c op ok) { b with loop := (d.loopCommand c op ok).loop } := by
  have hin : LOOP_CMD_STAT ∈ [LOOP_CMD_STAT] := List.mem_singleton_self _
  exact (((h.setFld hin 6 0 c).setFld hin 9 8 op).setBit hin 16 true).loop _

theorem resumeCommand_eq (s : Dev) (c : Nat) : s.resumeCommand c =
    Dev.loopCommand { s with glade.idleAt := if s.sessOk 0 then s.seq.cyc else s.glade.idleAt } c 1 (s.sessOk 0) := by
  unfold Dev.resumeCommand
  cases hsess : s.sessOk 0 <;> rfl

/-- What a loop command leaves in LOOP_CMD_STAT, seen in the settled state. -/
theorem loopCommand_after (s : State) (d : Dev) (c : Fin 128) (op : Nat) (ok : Bool) (hop : op < 4) :
    let t := s.after (d.loopCommand c op ok)
    t.fld LOOP_CMD_STAT 6 0 = c ∧ t.fld LOOP_CMD_STAT 9 8 = op ∧ t.bit LOOP_CMD_STAT 16 = true := by
  obtain ⟨hctx, hcmd, hbusy⟩ := loopCommand_stat d c op ok c.isLt hop
  exact ⟨(settle_fld _ _ _ _ (by decide) (by decide)).trans hctx, (settle_fld _ _ _ _ (by decide) (by decide)).trans hcmd,
    (settle_bit _ _ _ (by decide) (by decide)).trans hbusy⟩

/-- A loop command on a device that differs from the state in Glade's idle time alone. -/
theorem loopCommand_settled (s : State) (idle : Nat) (c : Fin 128) (op : Nat) (ok : Bool) (hop : op < 4) :
    let t := s.after (Dev.loopCommand { s.toDev with glade.idleAt := idle } c op ok)
    t.fld LOOP_CMD_STAT 6 0 = c ∧ t.fld LOOP_CMD_STAT 9 8 = op ∧ t.bit LOOP_CMD_STAT 16 = true ∧
      t.loop = { s.loop with cmd := some { ctx := c, op := op, sessOk := ok } } ∧ t.glade.idleAt = idle ∧
      Framed [LOOP_CMD_STAT] s t { blocks s.toDev with loop := t.loop, glade.idleAt := t.glade.idleAt } ∧ NoEvent s t := by
  obtain ⟨hctx, hcmd, hbusy⟩ := loopCommand_after s { s.toDev with glade.idleAt := idle } c op ok hop
  have heff : Effect [LOOP_CMD_STAT] s.toDev { s.toDev with glade.idleAt := idle } { blocks s.toDev with glade.idleAt := idle } :=
    ⟨fun _ _ => rfl, rfl, rfl, rfl, rfl⟩
  have hloop := loopCommand_loop { s.toDev with glade.idleAt := idle } c op ok
  have hglade : (Dev.loopCommand { s.toDev with glade.idleAt := idle } c op ok).glade = { s.glade with idleAt := idle } := by
    simp [Dev.loopCommand]
  refine ⟨hctx, hcmd, hbusy, (settle_loop _).trans hloop, congrArg GladeSt.idleAt ((settle_glade _).trans hglade), ?_,
    noEvent_after (by simp [Dev.loopCommand])⟩
  rw [settle_loop, settle_glade, hglade]
  exact (effect_loopCommand heff c op ok).framed

/-- Settles O18: both commands write LOOP_CMD_STAT and leave a request; RESUME tests its session as it arrives. -/
theorem loopCommands : Obligations.LoopCommands := by
  unfold Obligations.LoopCommands
  refine fun c s => ⟨?_, ?_⟩
  · exact answers_of_done (congrArg (done s) (resumeCommand_eq s.toDev c)) (loopCommand_settled s _ c 1 _ (by decide))
  · obtain ⟨hctx, hcmd, hbusy, hloop, hidle, hframe, hevent⟩ := loopCommand_settled s s.glade.idleAt c 2 true (by decide)
    refine answers_of_done rfl ⟨hctx, hcmd, hbusy, hloop, ?_, hevent⟩
    rw [hidle] at hframe
    exact hframe

/-! Host targets and lane maxima. -/

theorem hostTarget_pos {g : Nat} (h : g ≠ 0) (s : Dev) (v : Word) : s.hostTarget g v =
    (s.wr (PROF_HTGT g) (v &&& BitVec.ofNat 32 pbvMask)).setGen g fun y => { y with hostNew := some (v &&& BitVec.ofNat 32 pbvMask) } :=
  if_neg h

theorem profHtgt_ne_safe (g : Nat) (h : g < 131) : PROF_HTGT g ≠ SAFE_OUT_STAT ∧ PROF_HTGT g ≠ SAFE_STAT := by
  simp only [PROF_HTGT, profWin, SAFE_OUT_STAT, SAFE_STAT]
  split_ifs <;> omega

theorem laneReg_ne_safe (l n : Nat) (h : l < 32) (hn : n < 0x20) :
    GROVE_LANE_STAT l + n ≠ SAFE_OUT_STAT ∧ GROVE_LANE_STAT l + n ≠ SAFE_STAT := by
  simp only [GROVE_LANE_STAT, SAFE_OUT_STAT, SAFE_STAT]
  omega

/-- Generators above 0 take a host target (R98). -/
theorem hostTarget_answers (g : Fin 131) (v : Word) (s : State) (hg : g.val ≠ 0) :
    Answers (.hostTargetWrite g v) s fun t => t.rd (PROF_HTGT g) = v &&& BitVec.ofNat 32 pbvMask ∧
      (Shaped s.toDev → (t.gen g).hostNew = some (v &&& BitVec.ofNat 32 pbvMask)) ∧
      Framed [PROF_HTGT g] s t { blocks s.toDev with prof := t.prof } ∧ NoEvent s t := by
  obtain ⟨hout, hstat⟩ := profHtgt_ne_safe g g.isLt
  refine answers_of_done (congrArg (done s) (hostTarget_pos hg s.toDev v)) ⟨?_, fun hs => ?_, ?_, noEvent_after (by simp)⟩
  · exact (settle_rd _ _ hout hstat).trans (rd_wr_same s.toDev _ _)
  · have hgen := gen_setGen_same (s.wr (PROF_HTGT g) (v &&& BitVec.ofNat 32 pbvMask)) g
      (fun y => { y with hostNew := some (v &&& BitVec.ofNat 32 pbvMask) }) (by simp [hs.gen])
    exact (congrArg (fun p : ProfSt => (p.gen.getD g {}).hostNew) (settle_prof _)).trans (congrArg GenSt.hostNew hgen)
  · rw [settle_prof]
    have hwr := (Effect.refl [PROF_HTGT g] s.toDev).wr (List.mem_singleton_self _) (v &&& BitVec.ofNat 32 pbvMask)
    exact (hwr.prof _).framed

/-- The two maxima of a lane are zeroed at once (R203). -/
theorem laneClear_answers (l : Fin 32) (s : State) :
    Answers (.laneClear l) s fun t => t.rd (GROVE_LANE_TMAX l) = 0#32 ∧ t.fld (GROVE_LANE_ITER l) 25 16 = 0 ∧
      t.fld (GROVE_LANE_ITER l) 9 0 = s.fld (GROVE_LANE_ITER l) 9 0 ∧
      OnlyRegs [GROVE_LANE_TMAX l, GROVE_LANE_ITER l] s t ∧ NoEvent s t := by
  obtain ⟨htmaxOut, htmaxStat⟩ := laneReg_ne_safe l 0x0C l.isLt (by decide)
  obtain ⟨hiterOut, hiterStat⟩ := laneReg_ne_safe l 0x10 l.isLt (by decide)
  refine answers_of_done rfl ⟨?_, ?_, ?_, ?_, noEvent_after (by simp [Dev.clearLane])⟩
  · refine (settle_rd _ _ htmaxOut htmaxStat).trans ?_
    rw [Dev.clearLane, rd_setFld_ne _ _ _ _ _ _ (by simp), rd_wr_same]
    rfl
  · refine (settle_fld _ _ _ _ hiterOut hiterStat).trans ?_
    rw [Dev.clearLane, fld_setFld_same _ _ _ _ _ (by decide) (by decide), Nat.zero_mod]
  · refine (settle_fld _ _ _ _ hiterOut hiterStat).trans ?_
    rw [Dev.clearLane, fld_setFld_ne _ _ _ _ _ _ _ (by decide) (by decide) (by decide), fld_wr_other _ _ _ _ _ _ (by simp)]
  · exact (((Effect.refl _ _).wr (by simp) _).wr (by simp) _).framed

/-! The working origin. -/

/-- In Watch a coordinate of the working origin is taken (R109). -/
theorem originWrite_answers (lon : Bool) (v : Word) (s : State) (hmode : s.mode = 0) :
    Answers (.originWrite lon v) s fun t =>
      (if lon then t.est.originLon = some v ∧ t.est.originLat = s.est.originLat
        else t.est.originLat = some v ∧ t.est.originLon = s.est.originLon) ∧ t.est.originWritten = true ∧
      OneEvent s t 0x040B 0 1 ∧ Framed [] s t { blocks s.toDev with est := t.est } := by
  have hservice : s.toDev.inService = false := by simp [Dev.inService, hmode]
  have hwrite : s.toDev.originWrite lon v = Dev.ev { s.toDev with est := { s.est with
      originLon := if lon then some v else s.est.originLon, originLat := if lon then s.est.originLat else some v,
      originWritten := true } } 0x040B 0 1 := by
    unfold Dev.originWrite
    rw [hservice]
    cases lon <;> rfl
  refine answers_of_done (congrArg (done s) hwrite) ⟨?_, ?_, oneEvent_after ⟨_, rfl, rfl, rfl, rfl⟩, ?_⟩
  · rw [settle_est]
    cases lon <;> exact ⟨rfl, rfl⟩
  · rw [settle_est]
    rfl
  · rw [settle_est]
    exact Effect.framed ⟨fun _ _ => rfl, rfl, rfl, rfl, rfl⟩

/-- In service the origin is refused (R109). -/
theorem originWrite_refused (lon : Bool) (v : Word) (s : State) (hmode : s.mode ≠ 0) :
    Answers (.originWrite lon v) s fun t => OneEvent s t 0x040B 0 0 ∧ OnlyRegs [] s t := by
  have hwrite : s.toDev.originWrite lon v = s.toDev.ev 0x040B 0 0 := if_pos (by simpa [Dev.inService] using hmode)
  exact answers_of_done (congrArg (done s) hwrite) ⟨oneEvent_after ⟨_, rfl, rfl, rfl, rfl⟩, ((Effect.refl _ _).evW _ _ _).framed⟩

/-! The thruster selection. -/

theorem store_thrEn (s : Dev) (v : Word) : s.store ALLOC_THR_EN v =
    s.wr ALLOC_THR_EN ((s.rd ALLOC_THR_EN &&& 0xFF000000#32) ||| (v &&& 0x00FFFFFF#32)) := by
  obtain ⟨r, hr, hw1c, hrw⟩ : ∃ r, regRow ALLOC_THR_EN = some r ∧ r.w1c = 0 ∧ r.rw = 0x00FFFFFF := ⟨_, rfl, rfl, rfl⟩
  rw [store_eq_wr_rw hr hw1c, hrw]
  rfl

/-- With its session a selection stands in ALLOC_THR_EN and waits for the boundary (R148, R427). -/
theorem thrusterSelect_answers (v : Word) (s : State) (hsess : s.sessOk 1 = true) :
    Answers (.thrusterSelect v) s fun t =>
      t.rd ALLOC_THR_EN = ((s.rd ALLOC_THR_EN &&& 0xFF000000#32) ||| (v &&& 0x00FFFFFF#32)) ∧
      t.alloc = { s.alloc with selPending := some (v &&& 0x00FFFFFF#32) } ∧
      Framed [ALLOC_THR_EN] s t { blocks s.toDev with alloc := t.alloc, glade.idleAt := s.seq.cyc } ∧ NoEvent s t := by
  have hselect : s.toDev.selectThrusters v = { s.toDev.sessUse.wr ALLOC_THR_EN
      ((s.rd ALLOC_THR_EN &&& 0xFF000000#32) ||| (v &&& 0x00FFFFFF#32)) with
        alloc := { s.alloc with selPending := some (v &&& 0x00FFFFFF#32) } } := by
    unfold Dev.selectThrusters
    rw [if_pos hsess, store_thrEn]
    rfl
  refine answers_of_done (congrArg (done s) hselect) ⟨?_, settle_alloc _, ?_, noEvent_after (by simp [Dev.sessUse])⟩
  · exact (settle_rd _ _ (by decide) (by decide)).trans (rd_wr_same s.toDev.sessUse _ _)
  · rw [settle_alloc]
    have hwr := (Effect.refl [ALLOC_THR_EN] s.toDev).wr (List.mem_singleton_self _)
      ((s.rd ALLOC_THR_EN &&& 0xFF000000#32) ||| (v &&& 0x00FFFFFF#32))
    exact Effect.framed ⟨hwr.regs, rfl, rfl, rfl, rfl⟩

/-- Settles O19: each register write of the engines is one operation, or its refusal. -/
theorem engineRegisterWrites : Obligations.EngineRegisterWrites := by
  unfold Obligations.EngineRegisterWrites
  refine ⟨fun g l v s => ⟨hostTarget_answers g v s, fun hg => ?_, laneClear_answers l s⟩, fun lon v s =>
    ⟨originWrite_answers lon v s, originWrite_refused lon v s⟩, fun v s => ⟨thrusterSelect_answers v s, fun hsess => ?_⟩⟩
  · exact noEffect_of_done rfl (if_pos hg)
  · exact noEffect_of_done rfl (if_neg (by rw [hsess]; decide))

end Sys2Proof.Machine
end

section
/-! Reads of a register after register operations, gathered by what is read: simp takes each conjunct as a rule. -/

namespace Sys2Proof.Machine

/-- A word of another register than the one written. -/
@[simp] theorem rd_other {a b : Nat} (s : Dev) (h : b ≠ a) :
    (∀ v, (s.wr a v).rd b = s.rd b) ∧ (∀ v, (s.wrN a v).rd b = s.rd b) ∧ (∀ v, (s.wrPbv a v).rd b = s.rd b) ∧
    (∀ hi lo v, (s.setFld a hi lo v).rd b = s.rd b) ∧ (∀ i v, (s.setBit a i v).rd b = s.rd b) ∧
    (∀ hi lo k, (s.cntSat a hi lo k).rd b = s.rd b) ∧ (∀ hi lo k, (s.cntWrap a hi lo k).rd b = s.rd b) ∧
    (∀ m, (s.orMask a m).rd b = s.rd b) ∧ (∀ m, (s.clrMask a m).rd b = s.rd b) :=
  ⟨fun _ => rd_wr_ne _ _ _ _ h, fun _ => rd_wrN_ne _ _ _ _ h, fun _ => rd_wrPbv_ne _ _ _ _ h, fun _ _ _ => rd_setFld_ne _ _ _ _ _ _ h,
    fun _ _ => rd_setBit_ne _ _ _ _ _ h, fun _ _ _ => rd_cntSat_ne _ _ _ _ _ _ h, fun _ _ _ => rd_cntWrap_ne _ _ _ _ _ _ h,
    fun _ => rd_orMask_ne _ _ _ _ h, fun _ => rd_clrMask_ne _ _ _ _ h⟩

/-- A field of another register than the one written. -/
@[simp] theorem fld_other {a b : Nat} (s : Dev) (hi lo : Nat) (h : b ≠ a) :
    (∀ v, (s.wr a v).fld b hi lo = s.fld b hi lo) ∧ (∀ v, (s.wrN a v).fld b hi lo = s.fld b hi lo) ∧
    (∀ v, (s.wrPbv a v).fld b hi lo = s.fld b hi lo) ∧ (∀ x y v, (s.setFld a x y v).fld b hi lo = s.fld b hi lo) ∧
    (∀ i v, (s.setBit a i v).fld b hi lo = s.fld b hi lo) ∧ (∀ x y k, (s.cntSat a x y k).fld b hi lo = s.fld b hi lo) ∧
    (∀ x y k, (s.cntWrap a x y k).fld b hi lo = s.fld b hi lo) ∧ (∀ m, (s.orMask a m).fld b hi lo = s.fld b hi lo) ∧
    (∀ m, (s.clrMask a m).fld b hi lo = s.fld b hi lo) :=
  ⟨fun _ => fld_wr_other _ _ _ _ _ _ h, fun _ => fld_wrN_other _ _ _ _ _ _ h, fun _ => fld_wrPbv_other _ _ _ _ _ _ h,
    fun _ _ _ => fld_setFld_other _ _ _ _ _ _ _ _ h, fun _ _ => fld_setBit_other _ _ _ _ _ _ _ h,
    fun _ _ _ => fld_cntSat_other _ _ _ _ _ _ _ _ h, fun _ _ _ => fld_cntWrap_other _ _ _ _ _ _ _ _ h,
    fun _ => fld_orMask_other _ _ _ _ _ _ h, fun _ => fld_clrMask_other _ _ _ _ _ _ h⟩

/-- A bit of another register than the one written. -/
@[simp] theorem bit_other {a b : Nat} (s : Dev) (n : Nat) (h : b ≠ a) :
    (∀ v, (s.wr a v).bit b n = s.bit b n) ∧ (∀ v, (s.wrN a v).bit b n = s.bit b n) ∧ (∀ v, (s.wrPbv a v).bit b n = s.bit b n) ∧
    (∀ x y v, (s.setFld a x y v).bit b n = s.bit b n) ∧ (∀ i v, (s.setBit a i v).bit b n = s.bit b n) ∧
    (∀ x y k, (s.cntSat a x y k).bit b n = s.bit b n) ∧ (∀ x y k, (s.cntWrap a x y k).bit b n = s.bit b n) ∧
    (∀ m, (s.orMask a m).bit b n = s.bit b n) ∧ (∀ m, (s.clrMask a m).bit b n = s.bit b n) :=
  ⟨fun _ => bit_wr_other _ _ _ _ _ h, fun _ => bit_wrN_other _ _ _ _ _ h, fun _ => bit_wrPbv_other _ _ _ _ _ h,
    fun _ _ _ => bit_setFld_other _ _ _ _ _ _ _ h, fun _ _ => bit_setBit_other _ _ _ _ _ _ h,
    fun _ _ _ => bit_cntSat_other _ _ _ _ _ _ _ h, fun _ _ _ => bit_cntWrap_other _ _ _ _ _ _ _ h,
    fun _ => bit_orMask_other _ _ _ _ _ h, fun _ => bit_clrMask_other _ _ _ _ _ h⟩

theorem fld_wr_same (s : Dev) (a hi lo : Nat) (v : Word) : (s.wr a v).fld a hi lo = bitsOf v.toNat hi lo := by
  unfold Dev.fld
  rw [rd_wr_same]

theorem bit_wr_same (s : Dev) (a i : Nat) (v : Word) : (s.wr a v).bit a i = bitOf v.toNat i := by
  unfold Dev.bit
  rw [rd_wr_same]

theorem fld_cntSat_ne (s : Dev) (a hi lo k hi' lo' : Nat) (h : lo ≤ hi) (hn : hi < 32) (h' : hi < lo' ∨ hi' < lo) :
    (s.cntSat a hi lo k).fld a hi' lo' = s.fld a hi' lo' :=
  fld_setFld_ne _ _ _ _ _ _ _ (by omega) hn h'

theorem fld_cntWrap_ne (s : Dev) (a hi lo k hi' lo' : Nat) (h : lo ≤ hi) (hn : hi < 32) (h' : hi < lo' ∨ hi' < lo) :
    (s.cntWrap a hi lo k).fld a hi' lo' = s.fld a hi' lo' :=
  fld_setFld_ne _ _ _ _ _ _ _ (by omega) hn h'

theorem fld_lt (s : Dev) (a hi lo : Nat) : s.fld a hi lo < 2 ^ (hi + 1 - lo) := Nat.mod_lt _ (Nat.two_pow_pos _)

/-- The register that is written: the field or bit itself, and those that share no bit with it. -/
@[simp] theorem reg_same (s : Dev) (a : Nat) :
    (∀ hi lo v, lo ≤ hi + 1 → hi < 32 → (s.setFld a hi lo v).fld a hi lo = v % 2 ^ (hi + 1 - lo)) ∧
    (∀ hi lo v hi' lo', lo ≤ hi + 1 → hi < 32 → hi < lo' ∨ hi' < lo → (s.setFld a hi lo v).fld a hi' lo' = s.fld a hi' lo') ∧
    (∀ hi lo v i, lo ≤ hi + 1 → hi < 32 → hi < i ∨ i < lo → (s.setFld a hi lo v).bit a i = s.bit a i) ∧
    (∀ i b, i < 32 → (s.setBit a i b).bit a i = b) ∧
    (∀ i b j, i < 32 → j ≠ i → (s.setBit a i b).bit a j = s.bit a j) ∧
    (∀ i b hi lo, i < 32 → i < lo ∨ hi < i → (s.setBit a i b).fld a hi lo = s.fld a hi lo) :=
  ⟨fun _ _ _ => fld_setFld_same _ _ _ _ _, fun _ _ _ _ _ => fld_setFld_ne _ _ _ _ _ _ _, fun _ _ _ _ => bit_setFld_ne _ _ _ _ _ _,
    fun _ _ => bit_setBit_same _ _ _ _, fun _ _ _ => bit_setBit_ne _ _ _ _ _, fun _ _ _ _ => fld_setBit_ne _ _ _ _ _ _⟩

/-- Every register but the two of the safety logic reads in the settled device as before (R338). -/
@[simp] theorem reg_settle (d : Dev) {a : Nat} (hout : a ≠ SAFE_OUT_STAT) (hstat : a ≠ SAFE_STAT) :
    d.settle.rd a = d.rd a ∧ (∀ hi lo, d.settle.fld a hi lo = d.fld a hi lo) ∧ ∀ i, d.settle.bit a i = d.bit a i :=
  ⟨settle_rd d a hout hstat, fun hi lo => settle_fld d a hi lo hout hstat, fun i => settle_bit d a i hout hstat⟩

/-- An interrupt source that is raised is pending in HOST alone (R451). -/
@[simp] theorem raise_other {b : Nat} (s : Dev) (n : Nat) (h : b ≠ 0x3C0020 + 4 * (n / 32)) :
    (s.raise n).rd b = s.rd b ∧ (∀ hi lo, (s.raise n).fld b hi lo = s.fld b hi lo) ∧ ∀ i, (s.raise n).bit b i = s.bit b i :=
  ⟨rd_raise_ne _ _ _ h, fun _ _ => fld_raise_other _ _ _ _ _ h, fun _ => bit_raise_other _ _ _ _ h⟩

/-- No window of an engine stands in a register. -/
@[simp] theorem rd_window (s : Dev) (a : Nat) :
    (∀ n f, (s.setLctx n f).rd a = s.rd a) ∧ (∀ n f, (s.setGen n f).rd a = s.rd a) ∧ (∀ n f, (s.setChain n f).rd a = s.rd a) ∧
    (∀ n f, (s.setLane n f).rd a = s.rd a) ∧ (∀ n f, (s.setCanc n f).rd a = s.rd a) ∧ (∀ n f, (s.setPair n f).rd a = s.rd a) ∧
    (∀ n f, (s.setRef n f).rd a = s.rd a) ∧ (∀ n f, (s.setPort n f).rd a = s.rd a) ∧ (∀ n f, (s.setIn n f).rd a = s.rd a) ∧
    (∀ n f, (s.setOut n f).rd a = s.rd a) ∧ (∀ n b f, (s.setChan n b f).rd a = s.rd a) ∧ s.spend.rd a = s.rd a :=
  ⟨fun _ _ => rfl, fun _ _ => rfl, fun _ _ => rfl, fun _ _ => rfl, fun _ _ => rfl, fun _ _ => rfl, fun _ _ => rfl,
    fun n _ => by cases n <;> rfl, fun _ _ => rfl, fun _ _ => rfl,
    fun _ _ _ => rfl, rfl⟩

/-- No window of an engine stands in a field. -/
@[simp] theorem fld_window (s : Dev) (a hi lo : Nat) :
    (∀ n f, (s.setLctx n f).fld a hi lo = s.fld a hi lo) ∧ (∀ n f, (s.setGen n f).fld a hi lo = s.fld a hi lo) ∧
    (∀ n f, (s.setChain n f).fld a hi lo = s.fld a hi lo) ∧ (∀ n f, (s.setLane n f).fld a hi lo = s.fld a hi lo) ∧
    (∀ n f, (s.setCanc n f).fld a hi lo = s.fld a hi lo) ∧ (∀ n f, (s.setPair n f).fld a hi lo = s.fld a hi lo) ∧
    (∀ n f, (s.setRef n f).fld a hi lo = s.fld a hi lo) ∧ (∀ n f, (s.setPort n f).fld a hi lo = s.fld a hi lo) ∧
    (∀ n f, (s.setIn n f).fld a hi lo = s.fld a hi lo) ∧ (∀ n f, (s.setOut n f).fld a hi lo = s.fld a hi lo) ∧
    (∀ n b f, (s.setChan n b f).fld a hi lo = s.fld a hi lo) ∧ s.spend.fld a hi lo = s.fld a hi lo :=
  ⟨fun _ _ => rfl, fun _ _ => rfl, fun _ _ => rfl, fun _ _ => rfl, fun _ _ => rfl, fun _ _ => rfl, fun _ _ => rfl,
    fun n _ => by cases n <;> rfl, fun _ _ => rfl, fun _ _ => rfl,
    fun _ _ _ => rfl, rfl⟩

/-- No window of an engine stands in a bit. -/
@[simp] theorem bit_window (s : Dev) (a i : Nat) :
    (∀ n f, (s.setLctx n f).bit a i = s.bit a i) ∧ (∀ n f, (s.setGen n f).bit a i = s.bit a i) ∧
    (∀ n f, (s.setChain n f).bit a i = s.bit a i) ∧ (∀ n f, (s.setLane n f).bit a i = s.bit a i) ∧
    (∀ n f, (s.setCanc n f).bit a i = s.bit a i) ∧ (∀ n f, (s.setPair n f).bit a i = s.bit a i) ∧
    (∀ n f, (s.setRef n f).bit a i = s.bit a i) ∧ (∀ n f, (s.setPort n f).bit a i = s.bit a i) ∧
    (∀ n f, (s.setIn n f).bit a i = s.bit a i) ∧ (∀ n f, (s.setOut n f).bit a i = s.bit a i) ∧
    (∀ n b f, (s.setChan n b f).bit a i = s.bit a i) ∧ s.spend.bit a i = s.bit a i :=
  ⟨fun _ _ => rfl, fun _ _ => rfl, fun _ _ => rfl, fun _ _ => rfl, fun _ _ => rfl, fun _ _ => rfl, fun _ _ => rfl,
    fun n _ => by cases n <;> rfl, fun _ _ => rfl, fun _ _ => rfl,
    fun _ _ _ => rfl, rfl⟩

/-- No register and no event stands in a loop context. -/
@[simp] theorem lctx_reg (s : Dev) (c : Nat) :
    (∀ a v, (s.wr a v).lctx c = s.lctx c) ∧ (∀ a v, (s.wrN a v).lctx c = s.lctx c) ∧ (∀ a v, (s.wrPbv a v).lctx c = s.lctx c) ∧
    (∀ a hi lo v, (s.setFld a hi lo v).lctx c = s.lctx c) ∧ (∀ a i v, (s.setBit a i v).lctx c = s.lctx c) ∧
    (∀ a hi lo v, (s.cntSat a hi lo v).lctx c = s.lctx c) ∧ (∀ a hi lo v, (s.cntWrap a hi lo v).lctx c = s.lctx c) ∧
    (∀ a m, (s.orMask a m).lctx c = s.lctx c) ∧ (∀ a m, (s.clrMask a m).lctx c = s.lctx c) ∧
    (∀ m, (s.raise m).lctx c = s.lctx c) ∧ (∀ x y z, (s.evW x y z).lctx c = s.lctx c) ∧
    (∀ x y z, (s.ev x y z).lctx c = s.lctx c) ∧ (∀ x y z, (s.evI x y z).lctx c = s.lctx c) ∧ s.spend.lctx c = s.lctx c :=
  ⟨fun _ _ => rfl, fun _ _ => rfl, fun _ _ => rfl, fun _ _ _ _ => rfl, fun _ _ _ => rfl, fun _ _ _ _ => rfl,
    fun _ _ _ _ => rfl, fun _ _ => rfl, fun _ _ => rfl, fun _ => rfl, fun _ _ _ => rfl, fun _ _ _ => rfl, fun _ _ _ => rfl,
    rfl⟩

/-- No register and no event stands in a generator. -/
@[simp] theorem gen_reg (s : Dev) (g : Nat) :
    (∀ a v, (s.wr a v).gen g = s.gen g) ∧ (∀ a v, (s.wrN a v).gen g = s.gen g) ∧ (∀ a v, (s.wrPbv a v).gen g = s.gen g) ∧
    (∀ a hi lo v, (s.setFld a hi lo v).gen g = s.gen g) ∧ (∀ a i v, (s.setBit a i v).gen g = s.gen g) ∧
    (∀ a hi lo v, (s.cntSat a hi lo v).gen g = s.gen g) ∧ (∀ a hi lo v, (s.cntWrap a hi lo v).gen g = s.gen g) ∧
    (∀ a m, (s.orMask a m).gen g = s.gen g) ∧ (∀ a m, (s.clrMask a m).gen g = s.gen g) ∧ (∀ m, (s.raise m).gen g = s.gen g) ∧
    (∀ x y z, (s.evW x y z).gen g = s.gen g) ∧ (∀ x y z, (s.ev x y z).gen g = s.gen g) ∧
    (∀ x y z, (s.evI x y z).gen g = s.gen g) ∧ s.spend.gen g = s.gen g :=
  ⟨fun _ _ => rfl, fun _ _ => rfl, fun _ _ => rfl, fun _ _ _ _ => rfl, fun _ _ _ => rfl, fun _ _ _ _ => rfl,
    fun _ _ _ _ => rfl, fun _ _ => rfl, fun _ _ => rfl, fun _ => rfl, fun _ _ _ => rfl, fun _ _ _ => rfl, fun _ _ _ => rfl,
    rfl⟩

/-- No register and no event stands in a chain. -/
@[simp] theorem chain_reg (s : Dev) (n : Nat) :
    (∀ a v, (s.wr a v).chain n = s.chain n) ∧ (∀ a v, (s.wrN a v).chain n = s.chain n) ∧
    (∀ a v, (s.wrPbv a v).chain n = s.chain n) ∧ (∀ a hi lo v, (s.setFld a hi lo v).chain n = s.chain n) ∧
    (∀ a i v, (s.setBit a i v).chain n = s.chain n) ∧ (∀ a hi lo v, (s.cntSat a hi lo v).chain n = s.chain n) ∧
    (∀ a hi lo v, (s.cntWrap a hi lo v).chain n = s.chain n) ∧ (∀ a m, (s.orMask a m).chain n = s.chain n) ∧
    (∀ a m, (s.clrMask a m).chain n = s.chain n) ∧ (∀ m, (s.raise m).chain n = s.chain n) ∧
    (∀ x y z, (s.evW x y z).chain n = s.chain n) ∧ (∀ x y z, (s.ev x y z).chain n = s.chain n) ∧
    (∀ x y z, (s.evI x y z).chain n = s.chain n) ∧ s.spend.chain n = s.chain n :=
  ⟨fun _ _ => rfl, fun _ _ => rfl, fun _ _ => rfl, fun _ _ _ _ => rfl, fun _ _ _ => rfl, fun _ _ _ _ => rfl,
    fun _ _ _ _ => rfl, fun _ _ => rfl, fun _ _ => rfl, fun _ => rfl, fun _ _ _ => rfl, fun _ _ _ => rfl, fun _ _ _ => rfl,
    rfl⟩

/-- No register and no event stands in a lane. -/
@[simp] theorem lane_reg (s : Dev) (n : Nat) :
    (∀ a v, (s.wr a v).lane n = s.lane n) ∧ (∀ a v, (s.wrN a v).lane n = s.lane n) ∧ (∀ a v, (s.wrPbv a v).lane n = s.lane n) ∧
    (∀ a hi lo v, (s.setFld a hi lo v).lane n = s.lane n) ∧ (∀ a i v, (s.setBit a i v).lane n = s.lane n) ∧
    (∀ a hi lo v, (s.cntSat a hi lo v).lane n = s.lane n) ∧ (∀ a hi lo v, (s.cntWrap a hi lo v).lane n = s.lane n) ∧
    (∀ a m, (s.orMask a m).lane n = s.lane n) ∧ (∀ a m, (s.clrMask a m).lane n = s.lane n) ∧
    (∀ m, (s.raise m).lane n = s.lane n) ∧ (∀ x y z, (s.evW x y z).lane n = s.lane n) ∧
    (∀ x y z, (s.ev x y z).lane n = s.lane n) ∧ (∀ x y z, (s.evI x y z).lane n = s.lane n) ∧ s.spend.lane n = s.lane n :=
  ⟨fun _ _ => rfl, fun _ _ => rfl, fun _ _ => rfl, fun _ _ _ _ => rfl, fun _ _ _ => rfl, fun _ _ _ _ => rfl,
    fun _ _ _ _ => rfl, fun _ _ => rfl, fun _ _ => rfl, fun _ => rfl, fun _ _ _ => rfl, fun _ _ _ => rfl, fun _ _ _ => rfl,
    rfl⟩

/-- No register and no event stands in a CAN controller. -/
@[simp] theorem canc_reg (s : Dev) (n : Nat) :
    (∀ a v, (s.wr a v).canc n = s.canc n) ∧ (∀ a v, (s.wrN a v).canc n = s.canc n) ∧ (∀ a v, (s.wrPbv a v).canc n = s.canc n) ∧
    (∀ a hi lo v, (s.setFld a hi lo v).canc n = s.canc n) ∧ (∀ a i v, (s.setBit a i v).canc n = s.canc n) ∧
    (∀ a hi lo v, (s.cntSat a hi lo v).canc n = s.canc n) ∧ (∀ a hi lo v, (s.cntWrap a hi lo v).canc n = s.canc n) ∧
    (∀ a m, (s.orMask a m).canc n = s.canc n) ∧ (∀ a m, (s.clrMask a m).canc n = s.canc n) ∧
    (∀ m, (s.raise m).canc n = s.canc n) ∧ (∀ x y z, (s.evW x y z).canc n = s.canc n) ∧
    (∀ x y z, (s.ev x y z).canc n = s.canc n) ∧ (∀ x y z, (s.evI x y z).canc n = s.canc n) ∧ s.spend.canc n = s.canc n :=
  ⟨fun _ _ => rfl, fun _ _ => rfl, fun _ _ => rfl, fun _ _ _ _ => rfl, fun _ _ _ => rfl, fun _ _ _ _ => rfl,
    fun _ _ _ _ => rfl, fun _ _ => rfl, fun _ _ => rfl, fun _ => rfl, fun _ _ _ => rfl, fun _ _ _ => rfl, fun _ _ _ => rfl,
    rfl⟩

/-- No register and no event stands in a ring pair. -/
@[simp] theorem pair_reg (s : Dev) (p : Nat) :
    (∀ a v, (s.wr a v).pair p = s.pair p) ∧ (∀ a v, (s.wrN a v).pair p = s.pair p) ∧ (∀ a v, (s.wrPbv a v).pair p = s.pair p) ∧
    (∀ a hi lo v, (s.setFld a hi lo v).pair p = s.pair p) ∧ (∀ a i v, (s.setBit a i v).pair p = s.pair p) ∧
    (∀ a hi lo v, (s.cntSat a hi lo v).pair p = s.pair p) ∧ (∀ a hi lo v, (s.cntWrap a hi lo v).pair p = s.pair p) ∧
    (∀ a m, (s.orMask a m).pair p = s.pair p) ∧ (∀ a m, (s.clrMask a m).pair p = s.pair p) ∧
    (∀ m, (s.raise m).pair p = s.pair p) ∧ (∀ x y z, (s.evW x y z).pair p = s.pair p) ∧
    (∀ x y z, (s.ev x y z).pair p = s.pair p) ∧ (∀ x y z, (s.evI x y z).pair p = s.pair p) ∧ s.spend.pair p = s.pair p :=
  ⟨fun _ _ => rfl, fun _ _ => rfl, fun _ _ => rfl, fun _ _ _ _ => rfl, fun _ _ _ => rfl, fun _ _ _ _ => rfl,
    fun _ _ _ _ => rfl, fun _ _ => rfl, fun _ _ => rfl, fun _ => rfl, fun _ _ _ => rfl, fun _ _ _ => rfl, fun _ _ _ => rfl,
    rfl⟩

/-- No register and no event stands in a reference. -/
@[simp] theorem ref_reg (s : Dev) (n : Nat) :
    (∀ a v, (s.wr a v).ref n = s.ref n) ∧ (∀ a v, (s.wrN a v).ref n = s.ref n) ∧ (∀ a v, (s.wrPbv a v).ref n = s.ref n) ∧
    (∀ a hi lo v, (s.setFld a hi lo v).ref n = s.ref n) ∧ (∀ a i v, (s.setBit a i v).ref n = s.ref n) ∧
    (∀ a hi lo v, (s.cntSat a hi lo v).ref n = s.ref n) ∧ (∀ a hi lo v, (s.cntWrap a hi lo v).ref n = s.ref n) ∧
    (∀ a m, (s.orMask a m).ref n = s.ref n) ∧ (∀ a m, (s.clrMask a m).ref n = s.ref n) ∧ (∀ m, (s.raise m).ref n = s.ref n) ∧
    (∀ x y z, (s.evW x y z).ref n = s.ref n) ∧ (∀ x y z, (s.ev x y z).ref n = s.ref n) ∧
    (∀ x y z, (s.evI x y z).ref n = s.ref n) ∧ s.spend.ref n = s.ref n :=
  ⟨fun _ _ => rfl, fun _ _ => rfl, fun _ _ => rfl, fun _ _ _ _ => rfl, fun _ _ _ => rfl, fun _ _ _ _ => rfl,
    fun _ _ _ _ => rfl, fun _ _ => rfl, fun _ _ => rfl, fun _ => rfl, fun _ _ _ => rfl, fun _ _ _ => rfl, fun _ _ _ => rfl,
    rfl⟩

/-- No register and no event stands in a safety input. -/
@[simp] theorem sin_reg (s : Dev) (i : Nat) :
    (∀ a v, (s.wr a v).sin i = s.sin i) ∧ (∀ a v, (s.wrN a v).sin i = s.sin i) ∧ (∀ a v, (s.wrPbv a v).sin i = s.sin i) ∧
    (∀ a hi lo v, (s.setFld a hi lo v).sin i = s.sin i) ∧ (∀ a j v, (s.setBit a j v).sin i = s.sin i) ∧
    (∀ a hi lo v, (s.cntSat a hi lo v).sin i = s.sin i) ∧ (∀ a hi lo v, (s.cntWrap a hi lo v).sin i = s.sin i) ∧
    (∀ a m, (s.orMask a m).sin i = s.sin i) ∧ (∀ a m, (s.clrMask a m).sin i = s.sin i) ∧ (∀ m, (s.raise m).sin i = s.sin i) ∧
    (∀ x y z, (s.evW x y z).sin i = s.sin i) ∧ (∀ x y z, (s.ev x y z).sin i = s.sin i) ∧
    (∀ x y z, (s.evI x y z).sin i = s.sin i) ∧ s.spend.sin i = s.sin i :=
  ⟨fun _ _ => rfl, fun _ _ => rfl, fun _ _ => rfl, fun _ _ _ _ => rfl, fun _ _ _ => rfl, fun _ _ _ _ => rfl,
    fun _ _ _ _ => rfl, fun _ _ => rfl, fun _ _ => rfl, fun _ => rfl, fun _ _ _ => rfl, fun _ _ _ => rfl, fun _ _ _ => rfl,
    rfl⟩

/-- No register and no event stands in a safety output. -/
@[simp] theorem sout_reg (s : Dev) (k : Nat) :
    (∀ a v, (s.wr a v).sout k = s.sout k) ∧ (∀ a v, (s.wrN a v).sout k = s.sout k) ∧ (∀ a v, (s.wrPbv a v).sout k = s.sout k) ∧
    (∀ a hi lo v, (s.setFld a hi lo v).sout k = s.sout k) ∧ (∀ a i v, (s.setBit a i v).sout k = s.sout k) ∧
    (∀ a hi lo v, (s.cntSat a hi lo v).sout k = s.sout k) ∧ (∀ a hi lo v, (s.cntWrap a hi lo v).sout k = s.sout k) ∧
    (∀ a m, (s.orMask a m).sout k = s.sout k) ∧ (∀ a m, (s.clrMask a m).sout k = s.sout k) ∧
    (∀ m, (s.raise m).sout k = s.sout k) ∧ (∀ x y z, (s.evW x y z).sout k = s.sout k) ∧
    (∀ x y z, (s.ev x y z).sout k = s.sout k) ∧ (∀ x y z, (s.evI x y z).sout k = s.sout k) ∧ s.spend.sout k = s.sout k :=
  ⟨fun _ _ => rfl, fun _ _ => rfl, fun _ _ => rfl, fun _ _ _ _ => rfl, fun _ _ _ => rfl, fun _ _ _ _ => rfl,
    fun _ _ _ _ => rfl, fun _ _ => rfl, fun _ _ => rfl, fun _ => rfl, fun _ _ _ => rfl, fun _ _ _ => rfl, fun _ _ _ => rfl,
    rfl⟩

/-! What an update of a window leaves. -/

@[simp] theorem setPair_kept (s : Dev) (p : Nat) (f : PairSt → PairSt) :
    (s.setPair p f).regs = s.regs ∧ (s.setPair p f).seq = s.seq ∧ (s.setPair p f).clk = s.clk ∧ (s.setPair p f).loop = s.loop ∧
    (s.setPair p f).prof = s.prof ∧ (s.setPair p f).est = s.est ∧ (s.setPair p f).alloc = s.alloc ∧
    (s.setPair p f).grove = s.grove ∧ (s.setPair p f).gnss = s.gnss ∧ (s.setPair p f).acq = s.acq ∧
    (s.setPair p f).can = s.can ∧ (s.setPair p f).net = s.net ∧ (s.setPair p f).log = s.log ∧ (s.setPair p f).safe = s.safe ∧
    (s.setPair p f).stand = s.stand ∧ (s.setPair p f).thkt = s.thkt ∧ (s.setPair p f).blz = s.blz ∧
    (s.setPair p f).glade = s.glade ∧ (s.setPair p f).rst = s.rst :=
  ⟨rfl, rfl, rfl, rfl, rfl, rfl, rfl, rfl, rfl, rfl, rfl, rfl, rfl, rfl, rfl, rfl, rfl, rfl, rfl⟩

@[simp] theorem setRef_kept (s : Dev) (n : Nat) (f : RefSt → RefSt) :
    (s.setRef n f).regs = s.regs ∧ (s.setRef n f).seq = s.seq ∧ (s.setRef n f).clk = s.clk ∧ (s.setRef n f).loop = s.loop ∧
    (s.setRef n f).prof = s.prof ∧ (s.setRef n f).alloc = s.alloc ∧ (s.setRef n f).grove = s.grove ∧
    (s.setRef n f).gnss = s.gnss ∧ (s.setRef n f).acq = s.acq ∧ (s.setRef n f).can = s.can ∧ (s.setRef n f).net = s.net ∧
    (s.setRef n f).log = s.log ∧ (s.setRef n f).host = s.host ∧ (s.setRef n f).safe = s.safe ∧ (s.setRef n f).stand = s.stand ∧
    (s.setRef n f).thkt = s.thkt ∧ (s.setRef n f).blz = s.blz ∧ (s.setRef n f).glade = s.glade ∧ (s.setRef n f).rst = s.rst :=
  ⟨rfl, rfl, rfl, rfl, rfl, rfl, rfl, rfl, rfl, rfl, rfl, rfl, rfl, rfl, rfl, rfl, rfl, rfl, rfl⟩

@[simp] theorem setPort_kept (s : Dev) (b : Bool) (f : NetPort → NetPort) :
    (s.setPort b f).regs = s.regs ∧ (s.setPort b f).seq = s.seq ∧ (s.setPort b f).clk = s.clk ∧ (s.setPort b f).loop = s.loop ∧
    (s.setPort b f).prof = s.prof ∧ (s.setPort b f).est = s.est ∧ (s.setPort b f).alloc = s.alloc ∧
    (s.setPort b f).grove = s.grove ∧ (s.setPort b f).gnss = s.gnss ∧ (s.setPort b f).acq = s.acq ∧
    (s.setPort b f).can = s.can ∧ (s.setPort b f).log = s.log ∧ (s.setPort b f).host = s.host ∧ (s.setPort b f).safe = s.safe ∧
    (s.setPort b f).stand = s.stand ∧ (s.setPort b f).thkt = s.thkt ∧ (s.setPort b f).blz = s.blz ∧
    (s.setPort b f).glade = s.glade ∧ (s.setPort b f).rst = s.rst :=
  by cases b <;> exact ⟨rfl, rfl, rfl, rfl, rfl, rfl, rfl, rfl, rfl, rfl, rfl, rfl, rfl, rfl, rfl, rfl, rfl, rfl, rfl⟩

@[simp] theorem setIn_kept (s : Dev) (i : Nat) (f : SafeInp → SafeInp) :
    (s.setIn i f).regs = s.regs ∧ (s.setIn i f).seq = s.seq ∧ (s.setIn i f).clk = s.clk ∧ (s.setIn i f).loop = s.loop ∧
    (s.setIn i f).prof = s.prof ∧ (s.setIn i f).est = s.est ∧ (s.setIn i f).alloc = s.alloc ∧ (s.setIn i f).grove = s.grove ∧
    (s.setIn i f).gnss = s.gnss ∧ (s.setIn i f).acq = s.acq ∧ (s.setIn i f).can = s.can ∧ (s.setIn i f).net = s.net ∧
    (s.setIn i f).log = s.log ∧ (s.setIn i f).host = s.host ∧ (s.setIn i f).stand = s.stand ∧ (s.setIn i f).thkt = s.thkt ∧
    (s.setIn i f).blz = s.blz ∧ (s.setIn i f).glade = s.glade ∧ (s.setIn i f).rst = s.rst :=
  ⟨rfl, rfl, rfl, rfl, rfl, rfl, rfl, rfl, rfl, rfl, rfl, rfl, rfl, rfl, rfl, rfl, rfl, rfl, rfl⟩

@[simp] theorem setOut_kept (s : Dev) (k : Nat) (f : SafeOut → SafeOut) :
    (s.setOut k f).regs = s.regs ∧ (s.setOut k f).seq = s.seq ∧ (s.setOut k f).clk = s.clk ∧ (s.setOut k f).loop = s.loop ∧
    (s.setOut k f).prof = s.prof ∧ (s.setOut k f).est = s.est ∧ (s.setOut k f).alloc = s.alloc ∧
    (s.setOut k f).grove = s.grove ∧ (s.setOut k f).gnss = s.gnss ∧ (s.setOut k f).acq = s.acq ∧ (s.setOut k f).can = s.can ∧
    (s.setOut k f).net = s.net ∧ (s.setOut k f).log = s.log ∧ (s.setOut k f).host = s.host ∧ (s.setOut k f).stand = s.stand ∧
    (s.setOut k f).thkt = s.thkt ∧ (s.setOut k f).blz = s.blz ∧ (s.setOut k f).glade = s.glade ∧ (s.setOut k f).rst = s.rst :=
  ⟨rfl, rfl, rfl, rfl, rfl, rfl, rfl, rfl, rfl, rfl, rfl, rfl, rfl, rfl, rfl, rfl, rfl, rfl, rfl⟩

@[simp] theorem setChan_kept (s : Dev) (i : Nat) (b : Bool) (f : SafeChan → SafeChan) :
    (s.setChan i b f).regs = s.regs ∧ (s.setChan i b f).seq = s.seq ∧ (s.setChan i b f).clk = s.clk ∧
    (s.setChan i b f).loop = s.loop ∧ (s.setChan i b f).prof = s.prof ∧ (s.setChan i b f).est = s.est ∧
    (s.setChan i b f).alloc = s.alloc ∧ (s.setChan i b f).grove = s.grove ∧ (s.setChan i b f).gnss = s.gnss ∧
    (s.setChan i b f).acq = s.acq ∧ (s.setChan i b f).can = s.can ∧ (s.setChan i b f).net = s.net ∧
    (s.setChan i b f).log = s.log ∧ (s.setChan i b f).host = s.host ∧ (s.setChan i b f).stand = s.stand ∧
    (s.setChan i b f).thkt = s.thkt ∧ (s.setChan i b f).blz = s.blz ∧ (s.setChan i b f).glade = s.glade ∧
    (s.setChan i b f).rst = s.rst :=
  ⟨rfl, rfl, rfl, rfl, rfl, rfl, rfl, rfl, rfl, rfl, rfl, rfl, rfl, rfl, rfl, rfl, rfl, rfl, rfl⟩

/-- What an update of a window preserves holds of every window. -/
theorem getD_modAt_of {α : Type} (P : α → Prop) (xs : List α) (i j : Nat) (f : α → α) (x : α) (h : ∀ y, P y → P (f y))
    (hx : P (xs.getD j x)) : P ((modAt xs i f).getD j x) := by
  by_cases hj : j = i
  · subst hj
    by_cases hlt : j < xs.length
    · rw [getD_modAt_same _ _ _ _ hlt]
      exact h _ hx
    · rwa [modAt_of_le _ _ _ (Nat.le_of_not_lt hlt)]
  · rwa [getD_modAt_ne _ _ _ _ _ hj]

/-- What an update of a window does not touch, it keeps in every window. -/
theorem getD_modAt_keeps {α β : Type} (g : α → β) (xs : List α) (i j : Nat) (f : α → α) (x : α) (h : ∀ y, g (f y) = g y) :
    g ((modAt xs i f).getD j x) = g (xs.getD j x) :=
  getD_modAt_of (fun y => g y = g (xs.getD j x)) xs i j f x (fun y hy => (h y).trans hy) rfl

/-! The engines that a frame states. -/

theorem Effect.clk_eq {l : List Nat} {s d b : Dev} (h : Effect l s d b) : d.clk = b.clk := (congrArg Dev.clk h.engines :)

theorem Effect.loop_eq {l : List Nat} {s d b : Dev} (h : Effect l s d b) : d.loop = b.loop := (congrArg Dev.loop h.engines :)

theorem Effect.prof_eq {l : List Nat} {s d b : Dev} (h : Effect l s d b) : d.prof = b.prof := (congrArg Dev.prof h.engines :)

theorem Effect.est_eq {l : List Nat} {s d b : Dev} (h : Effect l s d b) : d.est = b.est := (congrArg Dev.est h.engines :)

theorem Effect.alloc_eq {l : List Nat} {s d b : Dev} (h : Effect l s d b) : d.alloc = b.alloc := (congrArg Dev.alloc h.engines :)

theorem Effect.grove_eq {l : List Nat} {s d b : Dev} (h : Effect l s d b) : d.grove = b.grove := (congrArg Dev.grove h.engines :)

theorem Effect.gnss_eq {l : List Nat} {s d b : Dev} (h : Effect l s d b) : d.gnss = b.gnss := (congrArg Dev.gnss h.engines :)

theorem Effect.acq_eq {l : List Nat} {s d b : Dev} (h : Effect l s d b) : d.acq = b.acq := (congrArg Dev.acq h.engines :)

theorem Effect.can_eq {l : List Nat} {s d b : Dev} (h : Effect l s d b) : d.can = b.can := (congrArg Dev.can h.engines :)

theorem Effect.net_eq {l : List Nat} {s d b : Dev} (h : Effect l s d b) : d.net = b.net := (congrArg Dev.net h.engines :)

theorem Effect.host_eq {l : List Nat} {s d b : Dev} (h : Effect l s d b) : d.host = b.host := (congrArg Dev.host h.engines :)

theorem Effect.stand_eq {l : List Nat} {s d b : Dev} (h : Effect l s d b) : d.stand = b.stand := (congrArg Dev.stand h.engines :)

theorem Effect.thkt_eq {l : List Nat} {s d b : Dev} (h : Effect l s d b) : d.thkt = b.thkt := (congrArg Dev.thkt h.engines :)

theorem Effect.blz_eq {l : List Nat} {s d b : Dev} (h : Effect l s d b) : d.blz = b.blz := (congrArg Dev.blz h.engines :)

theorem Effect.glade_eq {l : List Nat} {s d b : Dev} (h : Effect l s d b) : d.glade = b.glade := (congrArg Dev.glade h.engines :)

theorem Effect.rst_eq {l : List Nat} {s d b : Dev} (h : Effect l s d b) : d.rst = b.rst := (congrArg Dev.rst h.engines :)

/-! The frame of a command that changes one engine. -/

theorem Effect.framed_clk {l : List Nat} {s : State} {d b : Dev} {x : ClkSt} (h : Effect l s.toDev d { b with clk := x }) :
    Framed l s (s.after d) { b with clk := (s.after d).clk } := by
  rw [show (s.after d).clk = x from (settle_clk d).trans h.clk_eq]
  exact h.framed

theorem Effect.framed_loop {l : List Nat} {s : State} {d b : Dev} {x : LoopSt} (h : Effect l s.toDev d { b with loop := x }) :
    Framed l s (s.after d) { b with loop := (s.after d).loop } := by
  rw [show (s.after d).loop = x from (settle_loop d).trans h.loop_eq]
  exact h.framed

theorem Effect.framed_prof {l : List Nat} {s : State} {d b : Dev} {x : ProfSt} (h : Effect l s.toDev d { b with prof := x }) :
    Framed l s (s.after d) { b with prof := (s.after d).prof } := by
  rw [show (s.after d).prof = x from (settle_prof d).trans h.prof_eq]
  exact h.framed

theorem Effect.framed_est {l : List Nat} {s : State} {d b : Dev} {x : EstSt} (h : Effect l s.toDev d { b with est := x }) :
    Framed l s (s.after d) { b with est := (s.after d).est } := by
  rw [show (s.after d).est = x from (settle_est d).trans h.est_eq]
  exact h.framed

theorem Effect.framed_alloc {l : List Nat} {s : State} {d b : Dev} {x : AllocSt} (h : Effect l s.toDev d { b with alloc := x }) :
    Framed l s (s.after d) { b with alloc := (s.after d).alloc } := by
  rw [show (s.after d).alloc = x from (settle_alloc d).trans h.alloc_eq]
  exact h.framed

theorem Effect.framed_grove {l : List Nat} {s : State} {d b : Dev} {x : GroveSt} (h : Effect l s.toDev d { b with grove := x }) :
    Framed l s (s.after d) { b with grove := (s.after d).grove } := by
  rw [show (s.after d).grove = x from (settle_grove d).trans h.grove_eq]
  exact h.framed

theorem Effect.framed_gnss {l : List Nat} {s : State} {d b : Dev} {x : GnssSt} (h : Effect l s.toDev d { b with gnss := x }) :
    Framed l s (s.after d) { b with gnss := (s.after d).gnss } := by
  rw [show (s.after d).gnss = x from (settle_gnss d).trans h.gnss_eq]
  exact h.framed

theorem Effect.framed_acq {l : List Nat} {s : State} {d b : Dev} {x : AcqSt} (h : Effect l s.toDev d { b with acq := x }) :
    Framed l s (s.after d) { b with acq := (s.after d).acq } := by
  rw [show (s.after d).acq = x from (settle_acq d).trans h.acq_eq]
  exact h.framed

theorem Effect.framed_can {l : List Nat} {s : State} {d b : Dev} {x : CanSt} (h : Effect l s.toDev d { b with can := x }) :
    Framed l s (s.after d) { b with can := (s.after d).can } := by
  rw [show (s.after d).can = x from (settle_can d).trans h.can_eq]
  exact h.framed

theorem Effect.framed_net {l : List Nat} {s : State} {d b : Dev} {x : NetSt} (h : Effect l s.toDev d { b with net := x }) :
    Framed l s (s.after d) { b with net := (s.after d).net } := by
  rw [show (s.after d).net = x from (settle_net d).trans h.net_eq]
  exact h.framed

theorem Effect.framed_host {l : List Nat} {s : State} {d b : Dev} {x : HostSt} (h : Effect l s.toDev d { b with host := x }) :
    Framed l s (s.after d) { b with host := (s.after d).host } := by
  rw [show (s.after d).host = x from (settle_host d).trans h.host_eq]
  exact h.framed

theorem Effect.framed_stand {l : List Nat} {s : State} {d b : Dev} {x : StandSt} (h : Effect l s.toDev d { b with stand := x }) :
    Framed l s (s.after d) { b with stand := (s.after d).stand } := by
  rw [show (s.after d).stand = x from (settle_stand d).trans h.stand_eq]
  exact h.framed

theorem Effect.framed_thkt {l : List Nat} {s : State} {d b : Dev} {x : ThktSt} (h : Effect l s.toDev d { b with thkt := x }) :
    Framed l s (s.after d) { b with thkt := (s.after d).thkt } := by
  rw [show (s.after d).thkt = x from (settle_thkt d).trans h.thkt_eq]
  exact h.framed

theorem Effect.framed_blz {l : List Nat} {s : State} {d b : Dev} {x : BlzSt} (h : Effect l s.toDev d { b with blz := x }) :
    Framed l s (s.after d) { b with blz := (s.after d).blz } := by
  rw [show (s.after d).blz = x from (settle_blz d).trans h.blz_eq]
  exact h.framed

theorem Effect.framed_glade {l : List Nat} {s : State} {d b : Dev} {x : GladeSt} (h : Effect l s.toDev d { b with glade := x }) :
    Framed l s (s.after d) { b with glade := (s.after d).glade } := by
  rw [show (s.after d).glade = x from (settle_glade d).trans h.glade_eq]
  exact h.framed

theorem Effect.framed_rst {l : List Nat} {s : State} {d b : Dev} {x : RstSt} (h : Effect l s.toDev d { b with rst := x }) :
    Framed l s (s.after d) { b with rst := (s.after d).rst } := by
  rw [show (s.after d).rst = x from (settle_rst d).trans h.rst_eq]
  exact h.framed

/-- One event, raised before operations that raise none. -/
theorem oneEvent_evW {s : State} {d e : Dev} {c : Nat} {p q : Word} (he : e.log.raised = (d.evW c p q).log.raised)
    (hd : d.log.raised = s.log.raised) : OneEvent s (s.after e) c p q :=
  oneEvent_after ⟨_, he.trans (congrArg (· ++ [_]) hd), rfl, rfl, rfl⟩

theorem oneEvent_ev {s : State} {d e : Dev} {c p q : Nat} (he : e.log.raised = (d.ev c p q).log.raised)
    (hd : d.log.raised = s.log.raised) : OneEvent s (s.after e) c (BitVec.ofNat 32 p) (BitVec.ofNat 32 q) :=
  oneEvent_evW he hd

end Sys2Proof.Machine
end

section
/-! Writes of a problem into a lane of the Grove (R173 to R177, R187, R202). -/

namespace Sys2Proof.Machine

theorem Effect.window {l : List Nat} {s d b : Dev} (h : Effect l s d b) (k : Nat) (f : LaneSt → LaneSt) :
    Effect l s (d.setLane k f) { b with grove := (d.setLane k f).grove } := h.grove _

/-! Corrected words of a lane's memory. -/

theorem laneCorr_effect {l : List Nat} (hl : GROVE_ECC_CNT ∈ l) (s : Dev) (k : Nat) (corr : List Nat) :
    Effect l s (s.laneCorr k corr) (blocks s) :=
  (Effect.refl l s).each fun _ _ _ he => (he.cntSat hl _ _ _).ev _ _ _

theorem laneCorr_lane (s : Dev) (k : Nat) (corr : List Nat) (l : Nat) : (s.laneCorr k corr).lane l = s.lane l :=
  congrArg (fun g : GroveSt => g.lane.getD l {}) (laneCorr_effect (List.mem_singleton_self _) s k corr).grove_eq

theorem laneCorr_grove (s : Dev) (k : Nat) (corr : List Nat) : (s.laneCorr k corr).grove = s.grove :=
  (laneCorr_effect (List.mem_singleton_self _) s k corr).grove_eq

theorem laneCorr_fld (s : Dev) (k : Nat) (corr : List Nat) (a hi lo : Nat) (h : a ≠ GROVE_ECC_CNT) :
    (s.laneCorr k corr).fld a hi lo = s.fld a hi lo :=
  fld_of_rd _ _ _ _ _ ((laneCorr_effect (List.mem_singleton_self _) s k corr).regs a (by simpa using h))

theorem laneCorr_bit (s : Dev) (k : Nat) (corr : List Nat) (a i : Nat) (h : a ≠ GROVE_ECC_CNT) :
    (s.laneCorr k corr).bit a i = s.bit a i :=
  bit_of_rd _ _ _ _ ((laneCorr_effect (List.mem_singleton_self _) s k corr).regs a (by simpa using h))

/-- Every corrected word counts, and raises an event (R187). -/
theorem laneCorr_counts (k : Nat) (corr : List Nat) (s : Dev) :
    (s.laneCorr k corr).fld GROVE_ECC_CNT 15 0 = min 65535 (s.fld GROVE_ECC_CNT 15 0 + corr.length) ∧
      (s.laneCorr k corr).log.raised.length = s.log.raised.length + corr.length := by
  induction corr generalizing s with
  | nil =>
    have hlt : s.fld GROVE_ECC_CNT 15 0 < 65536 := fld_lt s GROVE_ECC_CNT 15 0
    exact ⟨(Nat.min_eq_right (Nat.le_of_lt_succ hlt)).symm, rfl⟩
  | cons a corr ih =>
    obtain ⟨hcount, hraised⟩ := ih ((s.cntSat GROVE_ECC_CNT 15 0 1).ev 0x0605 k a)
    refine ⟨hcount.trans ?_, hraised.trans ?_⟩
    · rw [ev_fld, fld_cntSat_same _ _ _ _ _ (by decide) (by decide), List.length_cons]
      simp only [Nat.reduceAdd, Nat.reduceSub, Nat.reducePow]
      omega
    · simp only [Dev.ev, Dev.evW, cntSat_log, List.length_append, List.length_cons, List.length_nil]
      omega

/-! What the settled device shows of a lane. -/

@[simp] theorem lane_settle (d : Dev) (l : Nat) : d.settle.lane l = d.lane l := by rw [Dev.lane, Dev.lane, settle_grove]

theorem laneStat_settle (d : Dev) {l : Nat} (h : l < 32) : d.settle.laneState l = d.laneState l ∧
    d.settle.laneMethod l = d.laneMethod l ∧ d.settle.laneAccum l = d.laneAccum l := by
  obtain ⟨hout, hstat⟩ := laneReg_ne_safe l 0 h (by decide)
  exact ⟨settle_fld _ _ _ _ hout hstat, settle_fld _ _ _ _ hout hstat, settle_bit _ _ _ hout hstat⟩

theorem laneShape_settle (d : Dev) {l : Nat} (h : l < 32) : d.settle.laneN l = d.laneN l ∧ d.settle.laneM l = d.laneM l := by
  obtain ⟨hout, hstat⟩ := laneReg_ne_safe l 4 h (by decide)
  exact ⟨settle_fld _ _ _ _ hout hstat, settle_fld _ _ _ _ hout hstat⟩

/-- The counted words leave a lane's registers (R187). -/
theorem laneCorr_reg (s : Dev) (k : Nat) (corr : List Nat) (l n : Nat) :
    (s.laneCorr k corr).rd (GROVE_LANE_STAT l + n) = s.rd (GROVE_LANE_STAT l + n) :=
  (laneCorr_effect (List.mem_singleton_self _) s k corr).regs _ (by simp only [List.mem_singleton, GROVE_LANE_STAT, GROVE_ECC_CNT]; omega)

theorem laneCorr_laneState (s : Dev) (k : Nat) (corr : List Nat) (l : Nat) : (s.laneCorr k corr).laneState l = s.laneState l :=
  fld_of_rd _ _ _ _ _ (laneCorr_reg s k corr l 0)

/-! A LOAD. -/

theorem groveLoadOp_loads (s : Dev) (l method : Nat) (accum : Bool) (n m : Nat) (hst : s.laneState l ≤ 1)
    (hshape : shapeOk method accum n m = true) : (s.groveLoadOp l method accum n m).1 = s.laneLoad l method accum n m := by
  unfold Dev.groveLoadOp
  rw [if_neg (by omega), if_neg (by omega), if_pos hshape]

theorem groveLoadOp_refuses (s : Dev) (l method : Nat) (accum : Bool) (n m : Nat)
    (h : 2 ≤ s.laneState l ∨ shapeOk method accum n m = false) : (s.groveLoadOp l method accum n m).1 = s.groveRefuse := by
  unfold Dev.groveLoadOp
  split
  · rfl
  split
  · rfl
  rw [if_neg]
  have hlt : s.laneState l < 4 := fld_lt s (GROVE_LANE_STAT l) 1 0
  rcases h with h | h
  · omega
  · rw [h]
    decide

theorem laneLoad_effect {l : List Nat} {s d b : Dev} (h : Effect l s d b) (k method : Nat) (accum : Bool) (n m : Nat)
    (hstat : GROVE_LANE_STAT k ∈ l) (hshape : GROVE_LANE_SHAPE k ∈ l) :
    Effect l s (d.laneLoad k method accum n m) { b with grove := (d.laneLoad k method accum n m).grove } :=
  ((((h.setFld hstat _ _ _).setFld hstat _ _ _).setBit hstat _ _).wrN hshape _).window _ _

/-- The fields of a lane that a LOAD leaves (R177, R203). -/
theorem laneLoad_fields (s : Dev) (k method : Nat) (accum : Bool) (n m : Nat) (hmethod : method < 8) :
    (s.laneLoad k method accum n m).laneState k = 1 ∧ (s.laneLoad k method accum n m).laneMethod k = method ∧
      (s.laneLoad k method accum n m).laneAccum k = accum := by
  simp (disch := omega) [Dev.laneLoad, Dev.laneState, Dev.laneMethod, Dev.laneAccum, GROVE_LANE_SHAPE]
  exact hmethod

theorem laneLoad_shape (s : Dev) (k method : Nat) (accum : Bool) (n m : Nat) (hn : n < 256) (hm : m < 256) :
    (s.laneLoad k method accum n m).laneN k = n ∧ (s.laneLoad k method accum n m).laneM k = m := by
  simp only [Dev.laneLoad, Dev.laneN, Dev.laneM, fld_window, Dev.wrN, fld_wr_same, BitVec.toNat_ofNat, bitsOf]
  omega

/-- A LOAD that the lane takes (R177). -/
theorem groveLoad_answers (l : Fin 32) (m3 : BitVec 3) (accum : Bool) (n m : Byte) (corr : List Nat) (s : State)
    (hst : s.laneState l ≤ 1) (hshape : shapeOk m3.toNat accum n.toNat m.toNat = true) :
    Answers (.groveLoad l m3 accum n m corr) s fun t =>
      t.laneState l = 1 ∧ t.laneMethod l = m3.toNat ∧ t.laneAccum l = accum ∧ t.laneN l = n.toNat ∧ t.laneM l = m.toNat ∧
      t.fld GROVE_ECC_CNT 15 0 = min 65535 (s.fld GROVE_ECC_CNT 15 0 + corr.length) ∧
      t.log.raised.length = s.log.raised.length + corr.length ∧
      (Shaped s.toDev → (t.lane l).rows = [] ∧ (t.lane l).ovr = [] ∧ (t.lane l).fac = [] ∧ (t.lane l).active = []) ∧
      Framed [GROVE_ECC_CNT, GROVE_LANE_STAT l, GROVE_LANE_SHAPE l] s t { blocks s.toDev with grove := t.grove } := by
  obtain ⟨hstate, hmethod, haccum⟩ := laneLoad_fields (s.laneCorr l corr) l m3.toNat accum n.toNat m.toNat m3.isLt
  obtain ⟨hn, hm⟩ := laneLoad_shape (s.laneCorr l corr) l m3.toNat accum n.toNat m.toNat n.isLt m.isLt
  obtain ⟨hcount, hraised⟩ := laneCorr_counts l corr s.toDev
  have hload := groveLoadOp_loads (s.laneCorr l corr) l m3.toNat accum n.toNat m.toNat (by rw [laneCorr_laneState]; exact hst) hshape
  have heff := laneLoad_effect (laneCorr_effect (l := [GROVE_ECC_CNT, GROVE_LANE_STAT l, GROVE_LANE_SHAPE l]) (by simp) s.toDev l corr)
    l m3.toNat accum n.toNat m.toNat (by simp) (by simp)
  have hlane : Shaped s.toDev → ((s.laneCorr l corr).laneLoad l m3.toNat accum n.toNat m.toNat).lane l =
      { s.lane l with rows := [], ovr := [], fac := [], hChanged := true, hClean := false, active := [] } := fun hs => by
    rw [← laneCorr_lane s.toDev l corr]
    exact lane_setLane_same _ _ _ (by simp [laneCorr_grove, hs.lane])
  obtain ⟨hsetState, hsetMethod, hsetAccum⟩ := laneStat_settle ((s.laneCorr l corr).laneLoad l m3.toNat accum n.toNat m.toNat) l.isLt
  obtain ⟨hsetN, hsetM⟩ := laneShape_settle ((s.laneCorr l corr).laneLoad l m3.toNat accum n.toNat m.toNat) l.isLt
  refine answers_of_done (congrArg (done s) hload) ⟨hsetState.trans hstate, hsetMethod.trans hmethod, hsetAccum.trans haccum,
    hsetN.trans hn, hsetM.trans hm, ?_, ?_, fun hs => ?_, ?_⟩
  · rw [settle_fld _ _ _ _ (by decide) (by decide), ← hcount]
    simp (disch := omega) [Dev.laneLoad, GROVE_LANE_SHAPE, GROVE_LANE_STAT, GROVE_ECC_CNT]
  · rw [settle_log, ← hraised]
    simp [Dev.laneLoad]
  · rw [lane_settle, hlane hs]
    exact ⟨rfl, rfl, rfl, rfl⟩
  · rw [settle_grove]
    exact heff.framed

/-! An entry. -/

/-- The count of refusals (R202). -/
theorem groveRefuse_effect {l : List Nat} {s d b : Dev} (h : Effect l s d b) (hl : GROVE_REFUSED ∈ l) : Effect l s d.groveRefuse b :=
  h.cntSat hl _ _ _

/-- A refused write is counted after the words that the memory corrects (R177, R187, R202). -/
theorem refused_answers {c : Instr} {s : State} (l : Fin 32) (corr : List Nat)
    (hc : exec c s = done s (s.toDev.laneCorr l corr).groveRefuse) :
    Answers c s fun t => t.fld GROVE_REFUSED 31 0 = min 4294967295 (s.fld GROVE_REFUSED 31 0 + 1) ∧
      OnlyRegs [GROVE_ECC_CNT, GROVE_REFUSED] s t := by
  refine answers_of_done hc ⟨?_, (groveRefuse_effect (laneCorr_effect (by simp) s.toDev l corr) (by simp)).framed⟩
  rw [settle_fld _ _ _ _ (by decide) (by decide), Dev.groveRefuse, fld_cntSat_same _ _ _ _ _ (by decide) (by decide),
    laneCorr_fld _ _ _ _ _ _ (by decide)]
  rfl

theorem groveEntryOp_takes {s : Dev} {l : Nat} {e : GroveEntryIn} (hst : s.laneState l = 1) (hin : s.entryInside l e = true) :
    (s.groveEntryOp l e).1 = s.applyEntry l e := by
  unfold Dev.groveEntryOp
  rw [hst]
  exact congrArg Prod.fst (if_pos hin)

theorem groveEntryOp_outside {s : Dev} {l : Nat} {e : GroveEntryIn} (hst : s.laneState l = 1) (hin : s.entryInside l e = false) :
    (s.groveEntryOp l e).1 =
      ((s.setFld (GROVE_LANE_STAT l) 1 0 0).setLane l fun x => { x with rows := [], ovr := [] }).groveRefuse := by
  unfold Dev.groveEntryOp
  rw [hst]
  exact congrArg Prod.fst (if_neg (by rw [hin]; decide))

theorem groveEntryOp_refuses {s : Dev} {l : Nat} {e : GroveEntryIn} (hst : s.laneState l ≠ 1) :
    (s.groveEntryOp l e).1 = s.groveRefuse := by
  unfold Dev.groveEntryOp
  split
  · rfl
  · exact absurd ‹_› hst
  · rfl
  · rfl

theorem laneCorr_entryInside (s : Dev) (k : Nat) (corr : List Nat) (l : Nat) (e : GroveEntryIn) :
    (s.laneCorr k corr).entryInside l e = s.entryInside l e := by
  have hmethod : (s.laneCorr k corr).laneMethod l = s.laneMethod l := fld_of_rd _ _ _ _ _ (laneCorr_reg s k corr l 0)
  have hn : (s.laneCorr k corr).laneN l = s.laneN l := fld_of_rd _ _ _ _ _ (laneCorr_reg s k corr l 4)
  have hm : (s.laneCorr k corr).laneM l = s.laneM l := fld_of_rd _ _ _ _ _ (laneCorr_reg s k corr l 4)
  unfold Dev.entryInside Dev.laneRows
  rw [hmethod, hn, hm]

/-- The lane after an entry inside its shape, for the two regions of a matrix (R174, R179). -/
theorem applyEntry_lane {s : Dev} {l : Nat} (e : GroveEntryIn) (hl : l < s.grove.lane.length) :
    (e.region = 0 → ((s.applyEntry l e).lane l).rows =
      rowsPut (s.lane l).rows (laneKey 0 e.sel.toNat e.row.toNat) e.col.toNat (gval e.exp e.mant)) ∧
    (e.region = 1 → ((s.applyEntry l e).lane l).hChanged = true ∧ ((s.applyEntry l e).lane l).active = []) := by
  constructor <;> intro hr
  · rw [Dev.applyEntry, lane_setLane_same _ _ _ hl]
    simp [hr, entryKey, entryVal]
  · rw [Dev.applyEntry, lane_setLane_same _ _ _ hl]
    simp [hr]

theorem applyEntry_laneState (s : Dev) (l : Nat) (e : GroveEntryIn) (k : Nat) :
    (s.applyEntry l e).laneState k = s.laneState k := by
  simp [Dev.laneState, Dev.applyEntry]

/-- An entry that the lane takes (R177). -/
theorem groveEntry_answers (l : Fin 32) (e : GroveEntryIn) (corr : List Nat) (s : State) (hst : s.laneState l = 1)
    (hin : s.entryInside l e = true) :
    Answers (.groveEntry l e corr) s fun t => t.laneState l = 1 ∧
      (Shaped s.toDev → e.region = 0 →
        (t.lane l).rows = rowsPut (s.lane l).rows (laneKey 0 e.sel.toNat e.row.toNat) e.col.toNat (gval e.exp e.mant)) ∧
      (Shaped s.toDev → e.region = 1 → (t.lane l).hChanged = true ∧ (t.lane l).active = []) ∧
      Framed [GROVE_ECC_CNT] s t { blocks s.toDev with grove := t.grove } := by
  have hcorr : (s.toDev.laneCorr l corr).laneState l = 1 := (laneCorr_laneState _ _ _ _).trans hst
  have hentry := groveEntryOp_takes hcorr ((laneCorr_entryInside _ _ _ _ _).trans hin)
  have hlane := fun hs : Shaped s.toDev =>
    applyEntry_lane (s := s.toDev.laneCorr l corr) (l := l) e (by simp [laneCorr_grove, hs.lane])
  simp only [laneCorr_lane] at hlane
  refine answers_of_done (congrArg (done s) hentry) ⟨?_, fun hs hr => ?_, fun hs hr => ?_, ?_⟩
  · exact ((laneStat_settle _ l.isLt).1.trans (applyEntry_laneState _ _ _ _)).trans hcorr
  · rw [lane_settle]
    exact (hlane hs).1 hr
  · rw [lane_settle]
    exact (hlane hs).2 hr
  · rw [settle_grove]
    exact ((laneCorr_effect (by simp) s.toDev l corr).window _ _).framed

/-- An entry outside the shape empties the lane (R177, R202). -/
theorem groveEntry_outside (l : Fin 32) (e : GroveEntryIn) (corr : List Nat) (s : State) (hst : s.laneState l = 1)
    (hin : s.entryInside l e = false) :
    Answers (.groveEntry l e corr) s fun t => t.laneState l = 0 ∧
      t.fld GROVE_REFUSED 31 0 = min 4294967295 (s.fld GROVE_REFUSED 31 0 + 1) ∧
      Framed [GROVE_ECC_CNT, GROVE_REFUSED, GROVE_LANE_STAT l] s t { blocks s.toDev with grove := t.grove } := by
  have hcorr : (s.toDev.laneCorr l corr).laneState l = 1 := (laneCorr_laneState _ _ _ _).trans hst
  have hentry := groveEntryOp_outside hcorr ((laneCorr_entryInside _ _ _ _ _).trans hin)
  have heff := laneCorr_effect (l := [GROVE_ECC_CNT, GROVE_REFUSED, GROVE_LANE_STAT l]) (by simp) s.toDev l corr
  refine answers_of_done (congrArg (done s) hentry) ⟨(laneStat_settle _ l.isLt).1.trans ?_, ?_, ?_⟩
  · simp (disch := omega) [Dev.laneState, Dev.groveRefuse, GROVE_LANE_STAT, GROVE_REFUSED]
  · rw [settle_fld _ _ _ _ (by decide) (by decide), ← laneCorr_fld s.toDev l corr GROVE_REFUSED 31 0 (by decide)]
    simp (disch := omega) [Dev.groveRefuse, fld_cntSat_same, GROVE_LANE_STAT, GROVE_REFUSED]
  · rw [settle_grove]
    exact (groveRefuse_effect ((heff.setFld (by simp) _ _ _).window _ _) (by simp)).framed

/-- Settles O20: a lane's port takes a LOAD or an entry by the lane's state and shape, after counting the corrected words. -/
theorem laneWrites : Obligations.LaneWrites := by
  unfold Obligations.LaneWrites
  refine fun l m3 accum n m e corr s => ⟨groveLoad_answers l m3 accum n m corr s, fun h => ?_, groveEntry_answers l e corr s,
    groveEntry_outside l e corr s, fun h => ?_⟩
  · refine refused_answers l corr (congrArg (done s) (groveLoadOp_refuses _ _ _ _ _ _ ?_))
    rwa [laneCorr_laneState]
  · refine refused_answers l corr (congrArg (done s) (groveEntryOp_refuses ?_))
    rwa [laneCorr_laneState]

end Sys2Proof.Machine
end

section
/-! The release of a lane of the Grove and the end of its solve (R177, R178, R183, R189, R193, R195, R196). -/

namespace Sys2Proof.Machine

/-! The stages of a stop. -/

/-- Code, state and times of a stop (R189, R196). -/
def Dev.laneCode (s : Dev) (l code cycles : Nat) : Dev :=
  let s := (s.setFld (GROVE_LANE_STAT l) 15 12 code).setFld (GROVE_LANE_STAT l) 18 16 (codeClass code)
  let s := s.setFld (GROVE_LANE_STAT l) 1 0 (if code = 13 then 0 else 1)
  let s := s.wrN (GROVE_LANE_TIME l) cycles
  s.wrN (GROVE_LANE_TMAX l) (max cycles (s.rd (GROVE_LANE_TMAX l)).toNat)

/-- What a stop shows in the lane's registers: the iterations are those of a QP alone (R189, R196). -/
def Dev.laneTimes (s : Dev) (l code iter cycles : Nat) : Dev :=
  let s := s.laneCode l code cycles
  if s.laneMethod l = 4 then
    (s.setFld (GROVE_LANE_ITER l) 9 0 iter).setFld (GROVE_LANE_ITER l) 25 16 (max iter (s.fld (GROVE_LANE_ITER l) 25 16))
  else s

/-- What a stop leaves resident in the lane (R189). -/
def LaneSt.rest (x : LaneSt) (code : Nat) (acc : Bool) : LaneSt :=
  { x with ovr := [], hClean := true, hChanged := x.hChanged && code != 0,
           rows := if code = 13 then [] else if acc then [] else x.rows, fac := if code = 13 then [] else x.fac }

/-- A stop up to its host record (R189, R196, R200). -/
def Dev.laneMark (s : Dev) (l code iter cycles : Nat) (out : Option SolveOut) : Dev :=
  let s := s.laneTimes l code iter cycles
  (s.setLane l fun x => x.rest code (s.laneAccum l)).hostRecord l code iter cycles out

/-- A publication's factor replaces the resident one where it brings one (R180). -/
def LaneSt.withFac (x : LaneSt) (f : List GVal) : LaneSt := { x with fac := if f = [] then x.fac else f }

/-- The result of a publication (R189, R193). -/
def Dev.laneShow (s : Dev) (l : Nat) (bare : Bool) (out : Option SolveOut) : Dev :=
  let s := s.setFld (GROVE_LANE_ERRCNT l) 23 16 0
  let s := s.setLane l fun x => x.withFac ((out.map SolveOut.fac).getD [])
  if bare then s
  else (s.setBit (GROVE_LANE_STAT l) 9 true).setLane l fun x =>
    { x with result := out, active := (out.map SolveOut.active).getD [] }

/-- Failures of a lane in a row, with this one (R193). -/
def Dev.laneConsec (s : Dev) (l code : Nat) : Nat := if code = 12 then min 255 (s.fld (GROVE_LANE_ERRCNT l) 23 16 + 1) else 0

/-- The counts of an invalid result (R193, R195, R196). -/
def Dev.laneCount (s : Dev) (l code iter : Nat) : Dev :=
  let s := s.setFld (GROVE_LANE_ERRCNT l) 23 16 (s.laneConsec l code)
  let s := if code = 12 then (s.cntSat GROVE_RES_TOTAL 31 0 1).ev 0x0602 l iter else s
  let s := if code = 13 then
      (s.cntSat GROVE_ECC_CNT 31 16 1).setLane l fun x => { x with memBad := x.memBad + 1 }
    else s
  s.countInvalid l code

/-- The counts of an invalid result and the retirement that they ask for (R193, R195, R196). -/
def Dev.laneFail (s : Dev) (l code iter : Nat) : Dev :=
  let d := s.laneCount l code iter
  if code = 12 ∧ d.retireLim ≤ s.laneConsec l code then d.retire l 1
  else if code = 13 ∧ 2 ≤ (d.lane l).memBad then d.retire l 2
  else d

theorem laneTimes_reg (s : Dev) (l code iter cycles a : Nat) (h : a < GROVE_LANE_STAT l ∨ GROVE_LANE_ITER l < a) :
    (s.laneTimes l code iter cycles).rd a = s.rd a := by
  simp only [GROVE_LANE_STAT, GROVE_LANE_ITER] at h
  dsimp only [Dev.laneTimes, Dev.laneCode]
  split_ifs <;> simp (disch := omega) [GROVE_LANE_STAT, GROVE_LANE_TIME, GROVE_LANE_TMAX, GROVE_LANE_ITER]

/-- The fields of a stopped lane (R189, R196, R203). -/
theorem laneTimes_stat (s : Dev) (l code iter cycles : Nat) :
    (s.laneTimes l code iter cycles).laneState l = (if code = 13 then 0 else 1) ∧
      (s.laneTimes l code iter cycles).fld (GROVE_LANE_STAT l) 15 12 = code % 16 ∧
      (s.laneTimes l code iter cycles).fld (GROVE_LANE_STAT l) 18 16 = codeClass code % 8 ∧
      (s.laneTimes l code iter cycles).laneMethod l = s.laneMethod l ∧
      (s.laneTimes l code iter cycles).laneAccum l = s.laneAccum l ∧
      (s.laneTimes l code iter cycles).laneRole l = s.laneRole l ∧
      (s.laneTimes l code iter cycles).bit (GROVE_LANE_STAT l) 9 = s.bit (GROVE_LANE_STAT l) 9 := by
  dsimp only [Dev.laneTimes, Dev.laneCode, Dev.laneState, Dev.laneMethod, Dev.laneAccum, Dev.laneRole]
  split_ifs <;> simp (disch := omega) [GROVE_LANE_TIME, GROVE_LANE_TMAX, GROVE_LANE_ITER]

theorem laneTimes_times (s : Dev) (l code iter cycles : Nat) :
    (s.laneTimes l code iter cycles).rd (GROVE_LANE_TIME l) = BitVec.ofNat 32 cycles ∧
      if s.laneMethod l = 4 then (s.laneTimes l code iter cycles).fld (GROVE_LANE_ITER l) 9 0 = iter % 1024
      else (s.laneTimes l code iter cycles).rd (GROVE_LANE_ITER l) = s.rd (GROVE_LANE_ITER l) := by
  have hmethod : (s.laneCode l code cycles).laneMethod l = s.laneMethod l := by
    simp (disch := omega) [Dev.laneCode, Dev.laneMethod, GROVE_LANE_TIME, GROVE_LANE_TMAX]
  dsimp only [Dev.laneTimes]
  rw [hmethod]
  split_ifs <;> simp (disch := omega) [Dev.laneCode, GROVE_LANE_TIME, GROVE_LANE_TMAX, GROVE_LANE_ITER, GROVE_LANE_STAT]

theorem laneTimes_grove (s : Dev) (l code iter cycles : Nat) : (s.laneTimes l code iter cycles).grove = s.grove := by
  dsimp only [Dev.laneTimes, Dev.laneCode]
  split_ifs <;> simp

theorem laneStop_publishes (s : Dev) (l iter cycles : Nat) (out : Option SolveOut) : s.laneStop l 0 iter cycles out =
    (s.laneMark l 0 iter cycles out).laneShow l (s.laneAccum l && !(s.lane l).final) out := by
  rw [← (laneTimes_stat s l 0 iter cycles).2.2.2.2.1, show s.lane l = (s.laneTimes l 0 iter cycles).lane l by
    rw [Dev.lane, Dev.lane, laneTimes_grove]]
  rfl

theorem laneStop_fails (s : Dev) (l code iter cycles : Nat) (out : Option SolveOut) (h : code ≠ 0) :
    s.laneStop l code iter cycles out = (s.laneMark l code iter cycles out).laneFail l code iter :=
  if_neg h

theorem lane_setLane_keeps {β : Type} (g : LaneSt → β) (s : Dev) (l k : Nat) (f : LaneSt → LaneSt) (h : ∀ x, g (f x) = g x) :
    g ((s.setLane l f).lane k) = g (s.lane k) :=
  getD_modAt_keeps g s.grove.lane l k f {} h

/-! The host record. -/

theorem hostRecord_reg (s : Dev) (l code iter cycles : Nat) (out : Option SolveOut) (a : Nat) (h : a < 0x3C2000) :
    (s.hostRecord l code iter cycles out).rd a = s.rd a := by
  unfold Dev.hostRecord
  split
  · rfl
  · have hcount : ∀ (d : Dev) (p : Nat), (d.endDesc p 0).rd a = d.rd a := fun d p => by
      unfold Dev.endDesc Dev.endCount
      rw [if_pos rfl]
      dsimp only
      split <;> simp (disch := omega) [HOST_LIVE]
    dsimp only
    rw [(rd_window _ a).2.2.2.1, hcount, (rd_window _ a).2.2.2.2.2.2.2.2.2.2.2]
    rfl

theorem hostRecord_lane {β : Type} (g : LaneSt → β) (hg : ∀ x : LaneSt, g { x with pair := none } = g x) (s : Dev)
    (l code iter cycles : Nat) (out : Option SolveOut) (k : Nat) : g ((s.hostRecord l code iter cycles out).lane k) = g (s.lane k) := by
  unfold Dev.hostRecord
  split
  · rfl
  · dsimp only
    rw [lane_setLane_keeps g _ _ _ _ hg, Dev.endDesc, if_pos rfl, Dev.endCount]
    split <;> rfl

theorem hostRecord_length (s : Dev) (l code iter cycles : Nat) (out : Option SolveOut) :
    (s.hostRecord l code iter cycles out).grove.lane.length = s.grove.lane.length := by
  unfold Dev.hostRecord
  split
  · rfl
  · refine (length_modAt _ _ _).trans ?_
    rw [Dev.endDesc, if_pos rfl, Dev.endCount]
    split <;> simp

theorem hostRecord_est (s : Dev) (l code iter cycles : Nat) (out : Option SolveOut) :
    (s.hostRecord l code iter cycles out).est = s.est := by
  unfold Dev.hostRecord
  split
  · rfl
  · dsimp only
    rw [setLane_est, Dev.endDesc, if_pos rfl, Dev.endCount]
    split <;> simp

/-! A stop up to its host record. -/

theorem laneMark_reg (s : Dev) (l code iter cycles : Nat) (out : Option SolveOut) (a : Nat) (h : a < 0x3C2000) :
    (s.laneMark l code iter cycles out).rd a = (s.laneTimes l code iter cycles).rd a := by
  unfold Dev.laneMark
  rw [hostRecord_reg _ _ _ _ _ _ _ h, (rd_window _ a).2.2.2.1]

theorem laneMark_lane {β : Type} (g : LaneSt → β) (hrest : ∀ x code acc, g (LaneSt.rest x code acc) = g x)
    (hpair : ∀ x : LaneSt, g { x with pair := none } = g x) (s : Dev) (l code iter cycles : Nat) (out : Option SolveOut) (k : Nat) :
    g ((s.laneMark l code iter cycles out).lane k) = g (s.lane k) := by
  unfold Dev.laneMark
  rw [hostRecord_lane g hpair, lane_setLane_keeps g _ _ _ _ fun x => hrest x _ _, Dev.lane, Dev.lane, laneTimes_grove]

theorem laneMark_length (s : Dev) (l code iter cycles : Nat) (out : Option SolveOut) :
    (s.laneMark l code iter cycles out).grove.lane.length = s.grove.lane.length := by
  unfold Dev.laneMark
  rw [hostRecord_length]
  exact (length_modAt _ _ _).trans (by rw [laneTimes_grove])

theorem laneMark_est (s : Dev) (l code iter cycles : Nat) (out : Option SolveOut) :
    (s.laneMark l code iter cycles out).est = s.est := by
  unfold Dev.laneMark
  rw [hostRecord_est, setLane_est]
  dsimp only [Dev.laneTimes, Dev.laneCode]
  split_ifs <;> simp

/-- The registers of a stopped lane, and that no register of another lane or block than HOST moves (R189, R196, R203). -/
theorem laneMark_stat (s : Dev) {l : Nat} (hl : l < 32) (code iter cycles : Nat) (out : Option SolveOut) :
    (s.laneMark l code iter cycles out).laneState l = (if code = 13 then 0 else 1) ∧
      (s.laneMark l code iter cycles out).fld (GROVE_LANE_STAT l) 15 12 = code % 16 ∧
      (s.laneMark l code iter cycles out).fld (GROVE_LANE_STAT l) 18 16 = codeClass code % 8 ∧
      (s.laneMark l code iter cycles out).laneRole l = s.laneRole l ∧
      (s.laneMark l code iter cycles out).bit (GROVE_LANE_STAT l) 9 = s.bit (GROVE_LANE_STAT l) 9 := by
  have hreg := laneMark_reg s l code iter cycles out (GROVE_LANE_STAT l) (by simp only [GROVE_LANE_STAT]; omega)
  obtain ⟨hstate, hcode, hclass, -, -, hrole, hvalid⟩ := laneTimes_stat s l code iter cycles
  exact ⟨(fld_of_rd _ _ _ _ _ hreg).trans hstate, (fld_of_rd _ _ _ _ _ hreg).trans hcode, (fld_of_rd _ _ _ _ _ hreg).trans hclass,
    (fld_of_rd _ _ _ _ _ hreg).trans hrole, (bit_of_rd _ _ _ _ hreg).trans hvalid⟩

/-! A publication. -/

theorem laneShow_reg (s : Dev) (l : Nat) (bare : Bool) (out : Option SolveOut) (a : Nat) (hstat : a ≠ GROVE_LANE_STAT l)
    (herr : a ≠ GROVE_LANE_ERRCNT l) : (s.laneShow l bare out).rd a = s.rd a := by
  dsimp only [Dev.laneShow]
  split_ifs <;> simp [hstat, herr]

theorem laneShow_fld (s : Dev) (l : Nat) (bare : Bool) (out : Option SolveOut) (hi lo : Nat) (h : 9 < lo ∨ hi < 9) :
    (s.laneShow l bare out).fld (GROVE_LANE_STAT l) hi lo = s.fld (GROVE_LANE_STAT l) hi lo := by
  dsimp only [Dev.laneShow]
  split_ifs <;> simp (disch := omega) [GROVE_LANE_ERRCNT]

/-- A bare absorption shows nothing, any other publication VALID and the result (R178, R189). -/
theorem laneShow_result (s : Dev) (l : Nat) (bare : Bool) (out : Option SolveOut) :
    if bare then (s.laneShow l bare out).bit (GROVE_LANE_STAT l) 9 = s.bit (GROVE_LANE_STAT l) 9 ∧
      ((s.laneShow l bare out).lane l).result = (s.lane l).result
    else (s.laneShow l bare out).bit (GROVE_LANE_STAT l) 9 = true ∧
      (l < s.grove.lane.length → ((s.laneShow l bare out).lane l).result = out) := by
  dsimp only [Dev.laneShow]
  split_ifs with hbare
  · refine ⟨by simp (disch := omega) [GROVE_LANE_ERRCNT], lane_setLane_keeps LaneSt.result _ _ _ _ fun _ => rfl⟩
  · refine ⟨by simp, fun hl => ?_⟩
    rw [lane_setLane_same _ _ _ (by simpa [Dev.setLane, length_modAt] using hl)]

theorem laneShow_grp (s : Dev) (l : Nat) (bare : Bool) (out : Option SolveOut) (k : Nat) :
    ((s.laneShow l bare out).lane k).grp = (s.lane k).grp := by
  dsimp only [Dev.laneShow]
  split_ifs
  · exact lane_setLane_keeps LaneSt.grp _ _ _ _ fun _ => rfl
  · rw [lane_setLane_keeps LaneSt.grp _ _ _ _ (by exact fun _ => rfl), (lane_reg _ k).2.2.2.2.1,
      lane_setLane_keeps LaneSt.grp _ _ _ _ (by exact fun _ => rfl), (lane_reg _ k).2.2.2.1]

theorem laneShow_est (s : Dev) (l : Nat) (bare : Bool) (out : Option SolveOut) : (s.laneShow l bare out).est = s.est := by
  dsimp only [Dev.laneShow]
  split_ifs <;> simp

/-! A failure. -/

theorem laneCount_reg (s : Dev) {l : Nat} (code iter a : Nat) (herr : a ≠ GROVE_LANE_ERRCNT l) (hres : a ≠ GROVE_RES_TOTAL)
    (hecc : a ≠ GROVE_ECC_CNT) (htot : a ≠ GROVE_ERR_TOTAL) : (s.laneCount l code iter).rd a = s.rd a := by
  dsimp only [Dev.laneCount, Dev.countInvalid]
  split_ifs <;> simp [herr, hres, hecc, htot]

/-- An invalid result counts once (R195). -/
theorem countInvalid_total (s : Dev) (l code : Nat) :
    (s.countInvalid l code).fld GROVE_ERR_TOTAL 31 0 = min 4294967295 (s.fld GROVE_ERR_TOTAL 31 0 + 1) := by
  have herr : GROVE_ERR_TOTAL ≠ GROVE_LANE_ERRCNT l := by simp only [GROVE_ERR_TOTAL, GROVE_LANE_ERRCNT, GROVE_LANE_STAT]; omega
  have hcount : ((s.cntSat GROVE_ERR_TOTAL 31 0 1).cntSat (GROVE_LANE_ERRCNT l) 15 0 1).fld GROVE_ERR_TOTAL 31 0 =
      min 4294967295 (s.fld GROVE_ERR_TOTAL 31 0 + 1) :=
    (fld_cntSat_other _ _ _ _ _ _ _ _ herr).trans (fld_cntSat_same _ _ _ _ _ (by decide) (by decide))
  dsimp only [Dev.countInvalid]
  split
  · exact hcount
  · exact (ev_fld _ _ _ _ _ _ _).trans hcount

theorem laneCount_total (s : Dev) (l code iter : Nat) :
    (s.laneCount l code iter).fld GROVE_ERR_TOTAL 31 0 = min 4294967295 (s.fld GROVE_ERR_TOTAL 31 0 + 1) := by
  dsimp only [Dev.laneCount]
  rw [countInvalid_total]
  congr 2
  split_ifs <;> simp (disch := omega) [GROVE_LANE_ERRCNT, GROVE_LANE_STAT, GROVE_ERR_TOTAL, GROVE_RES_TOTAL, GROVE_ECC_CNT]

theorem laneCount_lane {β : Type} (g : LaneSt → β) (hg : ∀ x : LaneSt, g { x with memBad := x.memBad + 1 } = g x) (s : Dev)
    (l code iter k : Nat) : g ((s.laneCount l code iter).lane k) = g (s.lane k) := by
  dsimp only [Dev.laneCount, Dev.countInvalid]
  split_ifs <;> simp only [lane_reg, lane_setLane_keeps g _ _ _ _ hg]

theorem laneCount_memBad (s : Dev) (l iter : Nat) (hl : l < s.grove.lane.length) :
    ((s.laneCount l 13 iter).lane l).memBad = (s.lane l).memBad + 1 := by
  dsimp only [Dev.laneCount, Dev.countInvalid]
  rw [if_pos rfl, if_neg (by decide), if_neg (by decide), (lane_reg _ l).2.2.2.2.2.2.2.2.2.2.2.1]
  simp only [lane_reg]
  rw [lane_setLane_same _ _ _ (by simpa using hl)]
  simp only [lane_reg]

theorem retire_reg (s : Dev) {l : Nat} (why a : Nat) (h : a < 0x3C0000) (hstat : a ≠ GROVE_LANE_STAT l) (hin : a ≠ GROVE_INSVC)
    (hcount : a ≠ GROVE_STAT) : (s.retire l why).rd a = s.rd a := by
  have hpend : a ≠ HOST_EVT_PEND (0x24 / 32) := by simp only [HOST_EVT_PEND]; omega
  simp only [Dev.retire, Dev.recount, raise_other _ _ hpend, ev_rd, rd_mk, regAt_regs, rd_other _ hcount, rd_window, rd_other _ hin,
    rd_other _ hstat]

/-- A retired lane shows state 3; its result and code stay (R193). -/
theorem retire_stat (s : Dev) {l : Nat} (hl : l < 32) (why : Nat) :
    (s.retire l why).laneState l = 3 ∧
      ∀ hi lo, 4 < lo → (s.retire l why).fld (GROVE_LANE_STAT l) hi lo = s.fld (GROVE_LANE_STAT l) hi lo := by
  have hpend : GROVE_LANE_STAT l ≠ HOST_EVT_PEND (0x24 / 32) := by
    simp only [GROVE_LANE_STAT, HOST_EVT_PEND]
    omega
  refine ⟨?_, fun hi lo h => ?_⟩
  · simp (disch := omega) [Dev.retire, Dev.recount, Dev.laneState, raise_other _ _ hpend, GROVE_STAT, GROVE_INSVC, GROVE_LANE_STAT]
  · simp (disch := omega) [Dev.retire, Dev.recount, raise_other _ _ hpend, GROVE_STAT, GROVE_INSVC, GROVE_LANE_STAT]

/-- A retired lane is emptied (R193). -/
def LaneSt.retired (x : LaneSt) : LaneSt := { x with rows := [], ovr := [], fac := [], work := [], grp := none }

theorem retire_lane (s : Dev) (l why k : Nat) : (s.retire l why).lane k = (s.setLane l LaneSt.retired).lane k := by
  dsimp only [Dev.retire, Dev.recount]
  simp only [lane_reg]
  simp [Dev.lane, Dev.setLane]
  rfl

theorem laneFail_reg (s : Dev) {l : Nat} (code iter a : Nat) (h : a < 0x3C0000) (hstat : a ≠ GROVE_LANE_STAT l) (hin : a ≠ GROVE_INSVC)
    (hcount : a ≠ GROVE_STAT) : (s.laneFail l code iter).rd a = (s.laneCount l code iter).rd a := by
  dsimp only [Dev.laneFail]
  split_ifs <;> simp only [retire_reg _ _ _ h hstat hin hcount]

theorem laneFail_lane {β : Type} (g : LaneSt → β)
    (hg : ∀ x : LaneSt, g x.retired = g x) (hbad : ∀ x : LaneSt, g { x with memBad := x.memBad + 1 } = g x) (s : Dev) (l code iter k : Nat) :
    g ((s.laneFail l code iter).lane k) = g (s.lane k) := by
  dsimp only [Dev.laneFail]
  split_ifs <;> simp only [retire_lane, lane_setLane_keeps g _ _ _ _ hg, laneCount_lane g hbad]

theorem laneCount_stat (s : Dev) (l code iter : Nat) :
    (s.laneCount l code iter).rd (GROVE_LANE_STAT l) = s.rd (GROVE_LANE_STAT l) :=
  laneCount_reg s (l := l) code iter _ (by simp) (by simp only [GROVE_LANE_STAT, GROVE_RES_TOTAL]; omega)
    (by simp only [GROVE_LANE_STAT, GROVE_ECC_CNT]; omega) (by simp only [GROVE_LANE_STAT, GROVE_ERR_TOTAL]; omega)

theorem laneFail_fld (s : Dev) {l : Nat} (hl : l < 32) (code iter hi lo : Nat) (h : 4 < lo) :
    (s.laneFail l code iter).fld (GROVE_LANE_STAT l) hi lo = s.fld (GROVE_LANE_STAT l) hi lo := by
  have hcount : (s.laneCount l code iter).fld (GROVE_LANE_STAT l) hi lo = s.fld (GROVE_LANE_STAT l) hi lo :=
    fld_of_rd _ _ _ _ _ (laneCount_stat s l code iter)
  dsimp only [Dev.laneFail]
  split_ifs <;> simp only [(retire_stat _ hl _).2 _ _ h, hcount]

theorem laneCount_retireLim (s : Dev) (l code iter : Nat) : (s.laneCount l code iter).retireLim = s.retireLim :=
  congrArg (max 1) (fld_of_rd _ _ _ _ _ (laneCount_reg s (l := l) code iter _
    (by simp only [GROVE_CFG, GROVE_LANE_ERRCNT, GROVE_LANE_STAT]; omega) (by decide) (by decide) (by decide)))

/-- The state in which a failure leaves the lane (R193). -/
theorem laneFail_state (s : Dev) {l : Nat} (hl : l < 32) (code iter : Nat) :
    (code ≠ 12 → code ≠ 13 → (s.laneFail l code iter).laneState l = s.laneState l) ∧
      (code = 12 → (s.laneFail l code iter).laneState l =
        if s.retireLim ≤ min 255 (s.fld (GROVE_LANE_ERRCNT l) 23 16 + 1) then 3 else s.laneState l) ∧
      (code = 13 → l < s.grove.lane.length →
        (s.laneFail l code iter).laneState l = if 1 ≤ (s.lane l).memBad then 3 else s.laneState l) := by
  have hcount : (s.laneCount l code iter).laneState l = s.laneState l := fld_of_rd _ _ _ _ _ (laneCount_stat s l code iter)
  refine ⟨fun h12 h13 => ?_, fun h12 => ?_, fun h13 hlen => ?_⟩
  · rw [Dev.laneFail, if_neg (by omega), if_neg (by omega), hcount]
  · subst h12
    simp only [Dev.laneFail, laneCount_retireLim, Dev.laneConsec, true_and, if_pos]
    split
    · exact (retire_stat _ hl 1).1
    · rw [if_neg (by omega), hcount]
  · subst h13
    simp only [Dev.laneFail, laneCount_memBad s l iter hlen]
    rw [if_neg (by omega)]
    simp only [true_and, Nat.reduceLeDiff]
    split
    · exact (retire_stat _ hl 2).1
    · exact hcount

theorem laneReg_lt (l n : Nat) (hl : l < 32) (hn : n < 0x20) : GROVE_LANE_STAT l + n < 0x3C0000 := by
  simp only [GROVE_LANE_STAT]
  omega

theorem laneFail_time (s : Dev) {l : Nat} (hl : l < 32) (code iter : Nat) :
    (s.laneFail l code iter).rd (GROVE_LANE_TIME l) = s.rd (GROVE_LANE_TIME l) := by
  rw [laneFail_reg _ _ _ _ (laneReg_lt l 8 hl (by decide)) (by simp) (by simp only [GROVE_LANE_STAT, GROVE_INSVC]; omega)
    (by simp only [GROVE_LANE_STAT, GROVE_STAT]; omega)]
  exact laneCount_reg s (l := l) code iter _ (by simp) (by simp only [GROVE_LANE_STAT, GROVE_RES_TOTAL]; omega)
    (by simp only [GROVE_LANE_STAT, GROVE_ECC_CNT]; omega) (by simp only [GROVE_LANE_STAT, GROVE_ERR_TOTAL]; omega)

theorem retire_grp (s : Dev) (l why k : Nat) (h : (s.lane k).grp = none) : ((s.retire l why).lane k).grp = none := by
  rw [retire_lane]
  exact getD_modAt_of (fun x : LaneSt => x.grp = none) s.grove.lane l k _ {} (fun _ _ => rfl) h

theorem laneFail_grp (s : Dev) (l code iter k : Nat) (h : (s.lane k).grp = none) : ((s.laneFail l code iter).lane k).grp = none := by
  have hcount : ((s.laneCount l code iter).lane k).grp = none := (laneCount_lane LaneSt.grp (fun _ => rfl) s l code iter k).trans h
  dsimp only [Dev.laneFail]
  split_ifs
  · exact retire_grp _ _ _ _ hcount
  · exact retire_grp _ _ _ _ hcount
  · exact hcount

theorem laneFail_est (s : Dev) (l code iter : Nat) : (s.laneFail l code iter).est = s.est := by
  dsimp only [Dev.laneFail, Dev.laneCount, Dev.countInvalid, Dev.retire, Dev.recount]
  split_ifs <;> simp

/-! The two ends of a stop, in one statement each. -/

/-- What every stop with an invalid result shows (R189, R195, R196). -/
theorem laneStop_failed (s : Dev) {l : Nat} (hl : l < 32) {code : Nat} (hcode : code ≠ 0) (hlt : code < 16) (iter cycles : Nat)
    (out : Option SolveOut) :
    let t := s.laneStop l code iter cycles out
    t.fld (GROVE_LANE_STAT l) 15 12 = code ∧ t.fld (GROVE_LANE_STAT l) 18 16 = codeClass code ∧
      t.rd (GROVE_LANE_TIME l) = BitVec.ofNat 32 cycles ∧
      t.fld GROVE_ERR_TOTAL 31 0 = min 4294967295 (s.fld GROVE_ERR_TOTAL 31 0 + 1) ∧
      (t.lane l).result = (s.lane l).result ∧ ((s.lane l).grp = none → (t.lane l).grp = none) ∧ t.est = s.est := by
  intro t
  have ht : t = (s.laneMark l code iter cycles out).laneFail l code iter := laneStop_fails s l code iter cycles out hcode
  obtain ⟨hstate, hcodeFld, hclass, -, -⟩ := laneMark_stat s hl code iter cycles out
  have hclassLt : codeClass code < 8 := by
    unfold codeClass
    split_ifs <;> decide
  rw [ht]
  refine ⟨?_, ?_, ?_, ?_, ?_, ?_, ?_⟩
  · rw [laneFail_fld _ hl _ _ _ _ (by decide), hcodeFld, Nat.mod_eq_of_lt hlt]
  · rw [laneFail_fld _ hl _ _ _ _ (by decide), hclass, Nat.mod_eq_of_lt hclassLt]
  · rw [laneFail_time, laneMark_reg _ _ _ _ _ _ _ (Nat.lt_trans (laneReg_lt l 8 hl (by decide)) (by decide)),
      (laneTimes_times s l code iter cycles).1]
    exact hl
  · have htot := fld_of_rd _ _ GROVE_ERR_TOTAL 31 0 (laneFail_reg (s.laneMark l code iter cycles out) (l := l) code iter GROVE_ERR_TOTAL
      (by decide) (by simp only [GROVE_ERR_TOTAL, GROVE_LANE_STAT]; omega) (by decide) (by decide))
    rw [htot, laneCount_total, fld_of_rd _ _ _ _ _ (laneMark_reg s l code iter cycles out GROVE_ERR_TOTAL (by decide)),
      fld_of_rd _ _ _ _ _ (laneTimes_reg s l code iter cycles GROVE_ERR_TOTAL (.inl (by simp only [GROVE_ERR_TOTAL, GROVE_LANE_STAT]; omega)))]
  · exact (laneFail_lane LaneSt.result (fun _ => rfl) (fun _ => rfl) _ l code iter l).trans
      (laneMark_lane LaneSt.result (fun _ _ _ => rfl) (fun _ => rfl) s l code iter cycles out l)
  · intro hgrp
    have hmark : ((s.laneMark l code iter cycles out).lane l).grp = none :=
      (laneMark_lane LaneSt.grp (fun _ _ _ => rfl) (fun _ => rfl) s l code iter cycles out l).trans hgrp
    exact laneFail_grp _ _ _ _ _ hmark
  · rw [laneFail_est, laneMark_est]

/-- The state in which a stop with an invalid result leaves the lane (R193, R200). -/
theorem laneStop_failed_state (s : Dev) {l : Nat} (hl : l < 32) {code : Nat} (hcode : code ≠ 0) (iter cycles : Nat)
    (out : Option SolveOut) :
    (code ≠ 12 → code ≠ 13 → (s.laneStop l code iter cycles out).laneState l = 1) ∧
      (code = 12 → (s.laneStop l code iter cycles out).laneState l =
        if s.retireLim ≤ min 255 (s.fld (GROVE_LANE_ERRCNT l) 23 16 + 1) then 3 else 1) ∧
      (code = 13 → l < s.grove.lane.length →
        (s.laneStop l code iter cycles out).laneState l = if 1 ≤ (s.lane l).memBad then 3 else 0) := by
  obtain ⟨hstate, -, -, -, -⟩ := laneMark_stat s hl code iter cycles out
  obtain ⟨hplain, h12, h13⟩ := laneFail_state (s.laneMark l code iter cycles out) hl code iter
  have hreg : ∀ a, a < 0x3C0000 → a < GROVE_LANE_STAT l ∨ GROVE_LANE_ITER l < a →
      (s.laneMark l code iter cycles out).rd a = s.rd a := fun a ha h =>
    (laneMark_reg _ _ _ _ _ _ _ (Nat.lt_trans ha (by decide))).trans (laneTimes_reg _ _ _ _ _ _ h)
  rw [laneStop_fails _ _ _ _ _ _ hcode]
  refine ⟨fun h h' => ?_, fun h => ?_, fun h hlen => ?_⟩
  · rw [hplain h h', hstate, if_neg h']
  · have hlim : (s.laneMark l code iter cycles out).retireLim = s.retireLim :=
      congrArg (max 1) (fld_of_rd _ _ _ _ _ (hreg GROVE_CFG (by decide) (.inl (by simp only [GROVE_CFG, GROVE_LANE_STAT]; omega))))
    rw [h12 h, hstate, hlim, fld_of_rd _ _ _ _ _ (hreg (GROVE_LANE_ERRCNT l) (laneReg_lt l 0x14 hl (by decide)) (.inr (by simp))),
      if_neg (show ¬code = 13 by omega)]
  · have hbad : ((s.laneMark l code iter cycles out).lane l).memBad = (s.lane l).memBad :=
      laneMark_lane LaneSt.memBad (fun _ _ _ => rfl) (fun _ => rfl) s l code iter cycles out l
    rw [h13 h (by rwa [laneMark_length]), hstate, hbad, if_pos h]

/-- What a publication shows (R189, R193). -/
theorem laneStop_published (s : Dev) {l : Nat} (hl : l < 32) (iter cycles : Nat) (r : SolveOut) :
    let t := s.laneStop l 0 iter cycles (some r)
    t.laneState l = 1 ∧ t.fld (GROVE_LANE_STAT l) 15 12 = 0 ∧ t.fld (GROVE_LANE_STAT l) 18 16 = 0 ∧
      t.rd (GROVE_LANE_TIME l) = BitVec.ofNat 32 cycles ∧
      (if s.laneMethod l = 4 then t.fld (GROVE_LANE_ITER l) 9 0 = iter % 1024
        else t.rd (GROVE_LANE_ITER l) = s.rd (GROVE_LANE_ITER l)) ∧
      (if s.laneAccum l = true ∧ (s.lane l).final = false then
          t.bit (GROVE_LANE_STAT l) 9 = s.bit (GROVE_LANE_STAT l) 9 ∧ (t.lane l).result = (s.lane l).result
        else t.bit (GROVE_LANE_STAT l) 9 = true ∧ (l < s.grove.lane.length → (t.lane l).result = some r)) ∧
      (t.lane l).grp = (s.lane l).grp ∧ t.laneRole l = s.laneRole l ∧ t.est = s.est := by
  intro t
  have ht : t = (s.laneMark l 0 iter cycles (some r)).laneShow l (s.laneAccum l && !(s.lane l).final) (some r) :=
    laneStop_publishes s l iter cycles (some r)
  obtain ⟨hstate, hcode, hclass, hrole, hvalid⟩ := laneMark_stat s hl 0 iter cycles (some r)
  obtain ⟨htime, hiter⟩ := laneTimes_times s l 0 iter cycles
  have hreg : ∀ n, n = 8 ∨ n = 0x10 → t.rd (GROVE_LANE_STAT l + n) = (s.laneTimes l 0 iter cycles).rd (GROVE_LANE_STAT l + n) :=
    fun n hn => by
      rw [ht, laneShow_reg _ _ _ _ _ (by omega) (by simp only [GROVE_LANE_ERRCNT]; omega),
        laneMark_reg _ _ _ _ _ _ _ (Nat.lt_trans (laneReg_lt l n hl (by omega)) (by decide))]
  have hfld : ∀ hi lo, 9 < lo ∨ hi < 9 →
      t.fld (GROVE_LANE_STAT l) hi lo = (s.laneMark l 0 iter cycles (some r)).fld (GROVE_LANE_STAT l) hi lo := fun hi lo h => by
    rw [ht, laneShow_fld _ _ _ _ _ _ h]
  have hshow := laneShow_result (s.laneMark l 0 iter cycles (some r)) l (s.laneAccum l && !(s.lane l).final) (some r)
  rw [← ht, laneMark_length, hvalid, laneMark_lane LaneSt.result (fun _ _ _ => rfl) (fun _ => rfl)] at hshow
  refine ⟨(hfld 1 0 (.inr (by decide))).trans hstate, (hfld 15 12 (.inl (by decide))).trans hcode,
    (hfld 18 16 (.inl (by decide))).trans hclass, (hreg 8 (.inl rfl)).trans htime, ?_, ?_, ?_,
    (hfld 4 2 (.inr (by decide))).trans hrole, ?_⟩
  · rw [fld_of_rd _ _ _ _ _ (hreg 0x10 (.inr rfl)), hreg 0x10 (.inr rfl)]
    exact hiter
  · simpa using hshow
  · rw [ht, laneShow_grp]
    exact laneMark_lane LaneSt.grp (fun _ _ _ => rfl) (fun _ => rfl) s l 0 iter cycles (some r) l
  · rw [ht, laneShow_est, laneMark_est]

end Sys2Proof.Machine
end

section
/-! A lane's release and the commands that stop it (R177, R178, R183, R188, R189, R196). -/

namespace Sys2Proof.Machine

/-! The release. -/

/-- A lane as its release starts it (R178, R182). -/
def Dev.laneStart (s : Dev) (l : Nat) (final : Bool) (amb : Nat) : Dev :=
  (s.setFld (GROVE_LANE_STAT l) 1 0 2).setLane l fun x => { x with
    final := final, amb := if s.laneAccum l && final && s.laneRole l == 1 then min amb (s.laneN l) else 0,
    rows := x.rows.map renormRow }

theorem groveStart_ready {s : Dev} {l : Nat} (hst : s.laneState l = 1) (final : Bool) (amb : Nat) :
    (s.groveStart l final amb).1 = if s.seq.abortGrove then (s.laneStart l final amb).laneBreak l 3
      else if (s.lane l).rows.any LaneRow.ovf then (s.laneStart l final amb).laneBreak l 11 else s.laneStart l final amb := by
  have hseq : (s.laneStart l final amb).seq = s.seq := by simp [Dev.laneStart]
  have hstart : s.groveStart l final amb = if (s.laneStart l final amb).seq.abortGrove then ((s.laneStart l final amb).laneBreak l 3, 0)
      else if (s.lane l).rows.any LaneRow.ovf then ((s.laneStart l final amb).laneBreak l 11, 0) else (s.laneStart l final amb, 0) := by
    simp only [Dev.groveStart, hst, Dev.laneStart]
    rfl
  rw [hstart, hseq]
  split_ifs <;> rfl

theorem groveStart_empty {s : Dev} {l : Nat} (hst : s.laneState l = 0) (final : Bool) (amb : Nat) :
    (s.groveStart l final amb).1 = (((s.setFld (GROVE_LANE_STAT l) 15 12 5).setFld (GROVE_LANE_STAT l) 18 16 1).setFld
      (GROVE_LANE_ERRCNT l) 23 16 0).countInvalid l 5 := by
  simp only [Dev.groveStart, hst]

theorem groveStart_refuses {s : Dev} {l : Nat} (hst : 2 ≤ s.laneState l) (final : Bool) (amb : Nat) :
    (s.groveStart l final amb).1 = s.groveRefuse := by
  unfold Dev.groveStart
  split
  · omega
  · omega
  · rfl
  · rfl

theorem laneStart_effect {r : List Nat} {s d b : Dev} (h : Effect r s d b) {l : Nat} (hl : GROVE_LANE_STAT l ∈ r) (final : Bool)
    (amb : Nat) : Effect r s (d.laneStart l final amb) { b with grove := (d.laneStart l final amb).grove } :=
  (h.setFld hl _ _ _).window _ _

theorem laneStart_fld (s : Dev) (l : Nat) (final : Bool) (amb : Nat) :
    (s.laneStart l final amb).laneState l = 2 ∧
      ∀ hi lo, 2 ≤ lo → (s.laneStart l final amb).fld (GROVE_LANE_STAT l) hi lo = s.fld (GROVE_LANE_STAT l) hi lo := by
  refine ⟨by simp [Dev.laneStart, Dev.laneState], fun hi lo h => ?_⟩
  simp (disch := omega) [Dev.laneStart]

theorem laneStart_lane {s : Dev} {l : Nat} (hl : l < s.grove.lane.length) (final : Bool) (amb : Nat) :
    ((s.laneStart l final amb).lane l).final = final ∧ ((s.laneStart l final amb).lane l).rows = (s.lane l).rows.map renormRow := by
  unfold Dev.laneStart
  rw [lane_setLane_same _ _ _ (by simpa using hl)]
  simp only [lane_reg, and_self]

theorem laneCorr_length (s : Dev) (k : Nat) (corr : List Nat) : (s.laneCorr k corr).grove.lane.length = s.grove.lane.length := by
  rw [laneCorr_grove]

theorem laneCorr_abort (s : Dev) (k : Nat) (corr : List Nat) : (s.laneCorr k corr).seq.abortGrove = s.seq.abortGrove :=
  (congrArg SeqSt.abortGrove (laneCorr_seqKey s k corr) :)

/-- A Ready lane starts (R178, R182). -/
theorem groveRelease_starts (l : Fin 32) (final : Bool) (amb : Nat) (corr : List Nat) (s : State) (hst : s.laneState l = 1)
    (habort : s.seq.abortGrove = false) (hovf : (s.lane l).rows.any LaneRow.ovf = false) :
    Answers (.groveRelease l final amb corr) s fun t => t.laneState l = 2 ∧
      (∀ hi lo, 2 ≤ lo → t.fld (GROVE_LANE_STAT l) hi lo = s.fld (GROVE_LANE_STAT l) hi lo) ∧
      (Shaped s.toDev → (t.lane l).final = final ∧ (t.lane l).rows = (s.lane l).rows.map renormRow) ∧
      Framed [GROVE_ECC_CNT, GROVE_LANE_STAT l] s t { blocks s.toDev with grove := t.grove } := by
  have hcorr : (s.toDev.laneCorr l corr).laneState l = 1 := (laneCorr_laneState _ _ _ _).trans hst
  have hstart : ((s.toDev.laneCorr l corr).groveStart l final amb).1 = (s.toDev.laneCorr l corr).laneStart l final amb := by
    rw [groveStart_ready hcorr, laneCorr_abort, laneCorr_lane, habort, hovf, if_neg (by decide), if_neg (by decide)]
  obtain ⟨hstate, hfld⟩ := laneStart_fld (s.toDev.laneCorr l corr) l final amb
  obtain ⟨hout, hstat⟩ := laneReg_ne_safe l 0 l.isLt (by decide)
  refine answers_of_done (congrArg (done s) hstart) ⟨(laneStat_settle _ l.isLt).1.trans hstate, fun hi lo h => ?_, fun hs => ?_, ?_⟩
  · exact ((settle_fld _ _ _ _ hout hstat).trans (hfld hi lo h)).trans (fld_of_rd _ _ _ _ _ (laneCorr_reg _ _ _ l 0))
  · obtain ⟨hfinal, hrows⟩ := laneStart_lane (s := s.toDev.laneCorr l corr) (by rw [laneCorr_length, hs.lane]; exact l.isLt) final amb
    rw [lane_settle]
    exact ⟨hfinal, hrows.trans (by rw [laneCorr_lane])⟩
  · rw [settle_grove]
    exact (laneStart_effect (laneCorr_effect (by simp) s.toDev l corr) (by simp) final amb).framed

/-- What a lane broken off shows (R183, R195). -/
theorem laneBreak_failed (s : Dev) {l : Nat} (hl : l < 32) {code : Nat} (hcode : code ≠ 0) (hlt : code < 12) :
    (s.laneBreak l code).laneState l = 1 ∧ (s.laneBreak l code).fld (GROVE_LANE_STAT l) 15 12 = code ∧
      (s.laneBreak l code).fld (GROVE_LANE_STAT l) 18 16 = codeClass code ∧
      (s.laneBreak l code).fld GROVE_ERR_TOTAL 31 0 = min 4294967295 (s.fld GROVE_ERR_TOTAL 31 0 + 1) := by
  unfold Dev.laneBreak
  dsimp only
  obtain ⟨hcodeFld, hclass, -, htot, -⟩ := laneStop_failed s.spend hl hcode (by omega)
    (min 1023 (Config.brokenSolve s.seq.freeCtr).2) ((Config.brokenSolve s.seq.freeCtr).1 % 2 ^ 32) none
  obtain ⟨hstate, -, -⟩ := laneStop_failed_state s.spend hl hcode (min 1023 (Config.brokenSolve s.seq.freeCtr).2)
    ((Config.brokenSolve s.seq.freeCtr).1 % 2 ^ 32) none
  exact ⟨hstate (by omega) (by omega), hcodeFld, hclass, htot⟩

/-- A release that ends at once with a code (R23, R183). -/
theorem groveRelease_breaks (l : Fin 32) (final : Bool) (amb : Nat) (corr : List Nat) (s : State) (code : Nat) (hst : s.laneState l = 1)
    (hwhy : (s.seq.abortGrove = true ∧ code = 3) ∨ (s.seq.abortGrove = false ∧ (s.lane l).rows.any LaneRow.ovf = true ∧ code = 11)) :
    Answers (.groveRelease l final amb corr) s fun t => t.laneState l = 1 ∧ t.fld (GROVE_LANE_STAT l) 15 12 = code ∧
      t.fld (GROVE_LANE_STAT l) 18 16 = codeClass code ∧
      t.fld GROVE_ERR_TOTAL 31 0 = min 4294967295 (s.fld GROVE_ERR_TOTAL 31 0 + 1) := by
  have hcorr : (s.toDev.laneCorr l corr).laneState l = 1 := (laneCorr_laneState _ _ _ _).trans hst
  have hbreak : ((s.toDev.laneCorr l corr).groveStart l final amb).1 =
      ((s.toDev.laneCorr l corr).laneStart l final amb).laneBreak l code := by
    rw [groveStart_ready hcorr, laneCorr_abort, laneCorr_lane]
    rcases hwhy with ⟨habort, rfl⟩ | ⟨habort, hovf, rfl⟩
    · rw [habort, if_pos rfl]
    · rw [habort, hovf, if_neg (by decide), if_pos rfl]
  obtain ⟨hstate, hcode, hclass, htot⟩ := laneBreak_failed ((s.toDev.laneCorr l corr).laneStart l final amb) l.isLt
    (code := code) (by omega) (by omega)
  have herr : ((s.toDev.laneCorr l corr).laneStart l final amb).fld GROVE_ERR_TOTAL 31 0 = s.fld GROVE_ERR_TOTAL 31 0 := by
    rw [← laneCorr_fld s.toDev l corr GROVE_ERR_TOTAL 31 0 (by decide)]
    simp (disch := omega) [Dev.laneStart, GROVE_LANE_STAT, GROVE_ERR_TOTAL]
  obtain ⟨hout, hstat⟩ := laneReg_ne_safe l 0 l.isLt (by decide)
  exact answers_of_done (congrArg (done s) hbreak) ⟨(laneStat_settle _ l.isLt).1.trans hstate,
    (settle_fld _ _ _ _ hout hstat).trans hcode, (settle_fld _ _ _ _ hout hstat).trans hclass,
    (settle_fld _ _ _ _ (by decide) (by decide)).trans (htot.trans (by rw [herr]))⟩

/-- An Empty lane answers with code 5 (R177, R196). -/
theorem groveRelease_empty (l : Fin 32) (final : Bool) (amb : Nat) (corr : List Nat) (s : State) (hst : s.laneState l = 0) :
    Answers (.groveRelease l final amb corr) s fun t => t.laneState l = 0 ∧ t.fld (GROVE_LANE_STAT l) 15 12 = 5 ∧
      t.fld (GROVE_LANE_STAT l) 18 16 = 1 ∧ t.fld GROVE_ERR_TOTAL 31 0 = min 4294967295 (s.fld GROVE_ERR_TOTAL 31 0 + 1) ∧
      OnlyRegs [GROVE_ECC_CNT, GROVE_LANE_STAT l, GROVE_ERR_TOTAL, GROVE_LANE_ERRCNT l] s t := by
  have hl := l.isLt
  have hcorr : (s.toDev.laneCorr l corr).laneState l = 0 := (laneCorr_laneState _ _ _ _).trans hst
  have hans := groveStart_empty hcorr final amb
  have hreg : ∀ d : Dev, (d.countInvalid l 5).rd (GROVE_LANE_STAT l) = d.rd (GROVE_LANE_STAT l) := fun d => by
    simp (disch := omega) [Dev.countInvalid, GROVE_LANE_STAT, GROVE_ERR_TOTAL, GROVE_LANE_ERRCNT]
  obtain ⟨hout, hstat⟩ := laneReg_ne_safe l 0 l.isLt (by decide)
  refine answers_of_done (congrArg (done s) hans) ⟨(laneStat_settle _ l.isLt).1.trans ?_, (settle_fld _ _ _ _ hout hstat).trans ?_,
    (settle_fld _ _ _ _ hout hstat).trans ?_, (settle_fld _ _ _ _ (by decide) (by decide)).trans ?_, ?_⟩
  · refine Eq.trans ?_ hcorr
    rw [Dev.laneState, fld_of_rd _ _ _ _ _ (hreg _)]
    simp (disch := omega) [Dev.laneState, GROVE_LANE_ERRCNT]
  · rw [Nat.add_zero, fld_of_rd _ _ _ _ _ (hreg _)]
    simp (disch := omega) [GROVE_LANE_ERRCNT]
  · rw [Nat.add_zero, fld_of_rd _ _ _ _ _ (hreg _)]
    simp (disch := omega) [GROVE_LANE_ERRCNT]
  · rw [countInvalid_total, ← laneCorr_fld s.toDev l corr GROVE_ERR_TOTAL 31 0 (by decide)]
    simp (disch := omega) [GROVE_LANE_ERRCNT, GROVE_LANE_STAT, GROVE_ERR_TOTAL]
  · have heff := laneCorr_effect (l := [GROVE_ECC_CNT, GROVE_LANE_STAT l, GROVE_ERR_TOTAL, GROVE_LANE_ERRCNT l]) (by simp) s.toDev l corr
    exact ((((((heff.setFld (by simp) _ _ _).setFld (by simp) _ _ _).setFld (by simp) _ _ _).cntSat (by simp) _ _ _).cntSat
      (by simp) _ _ _).ev _ _ _).framed

/-! The stops. -/

theorem laneCorr_laneReg (s : Dev) (k : Nat) (corr : List Nat) (l n hi lo : Nat) :
    (s.laneCorr k corr).fld (GROVE_LANE_STAT l + n) hi lo = s.fld (GROVE_LANE_STAT l + n) hi lo :=
  fld_of_rd _ _ _ _ _ (laneCorr_reg s k corr l n)

theorem laneCorr_est (s : Dev) (k : Nat) (corr : List Nat) : (s.laneCorr k corr).est = s.est :=
  (congrArg Dev.est (laneCorr_effect (List.mem_singleton_self _) s k corr).engines :)

theorem laneNext_keeps {d : Dev} {l : Nat} {ok : Bool} (hgrp : (d.lane l).grp = none)
    (hrest : ok = true → d.laneRole l = 1 → d.est.bundleReleased = true → d.est.bundleRows.drop d.chunk = []) :
    ∃ rows, d.laneNext l ok = { d with est.bundleRows := rows } := by
  have hcq : d.cqStopped l ok = d := by
    unfold Dev.cqStopped
    rw [hgrp]
  unfold Dev.laneNext
  rw [hcq]
  unfold Dev.bundleNext
  split
  · next h =>
    simp only [Bool.and_eq_true, beq_iff_eq] at h
    obtain ⟨⟨hok, hrole⟩, hrel⟩ := h
    rw [hrest hok hrole hrel]
    exact ⟨[], if_pos rfl⟩
  · exact ⟨d.est.bundleRows, rfl⟩

/-- The settled device shows a lane's registers and window, the rows of a bundle aside. -/
theorem laneShown_settle (d : Dev) (rows : List EstRow) {l : Nat} (hl : l < 32) :
    let e : Dev := { d with est.bundleRows := rows }
    (∀ n, n < 0x20 → e.settle.rd (GROVE_LANE_STAT l + n) = d.rd (GROVE_LANE_STAT l + n)) ∧
      e.settle.fld GROVE_ERR_TOTAL 31 0 = d.fld GROVE_ERR_TOTAL 31 0 ∧ e.settle.lane l = d.lane l := by
  intro e
  refine ⟨fun n hn => ?_, ?_, ?_⟩
  · obtain ⟨hout, hstat⟩ := laneReg_ne_safe l n hl hn
    exact settle_rd e _ hout hstat
  · exact settle_fld e _ _ _ (by decide) (by decide)
  · exact lane_settle e l

/-- A lane that publishes, with nothing to follow (R178, R189). -/
theorem grovePublish_answers (l : Fin 32) (r : SolveOut) (s : State) (hst : s.laneState l = 2) (hfit : s.outFits l r = true)
    (hend : s.endCode l r = 0) (hlast : lastRelease s l) :
    Answers (.grovePublish l r) s fun t => t.laneState l = 1 ∧
      t.fld (GROVE_LANE_STAT l) 15 12 = 0 ∧ t.fld (GROVE_LANE_STAT l) 18 16 = 0 ∧
      t.rd (GROVE_LANE_TIME l) = BitVec.ofNat 32 r.cycles ∧
      (if s.laneMethod l = 4 then t.fld (GROVE_LANE_ITER l) 9 0 = r.iter % 1024
        else t.rd (GROVE_LANE_ITER l) = s.rd (GROVE_LANE_ITER l)) ∧
      (if s.laneAccum l = true ∧ (s.lane l).final = false then
          t.bit (GROVE_LANE_STAT l) 9 = s.bit (GROVE_LANE_STAT l) 9 ∧ (t.lane l).result = (s.lane l).result
        else t.bit (GROVE_LANE_STAT l) 9 = true ∧ (Shaped s.toDev → (t.lane l).result = some r)) := by
  have hpub := laneStop_published (s.toDev.laneCorr l r.corr) l.isLt r.iter r.cycles r
  generalize hd : (s.toDev.laneCorr l r.corr).laneStop l 0 r.iter r.cycles (some r) = d at hpub
  obtain ⟨hstate, hcode, hclass, htime, hiter, hres, hgrp, hrole, hest⟩ := hpub
  have hstat : ∀ n, (s.toDev.laneCorr l r.corr).rd (GROVE_LANE_STAT l + n) = s.rd (GROVE_LANE_STAT l + n) := laneCorr_reg _ _ _ l
  have hmethod : (s.toDev.laneCorr l r.corr).laneMethod l = s.laneMethod l := fld_of_rd _ _ _ _ _ (hstat 0)
  have haccum : (s.toDev.laneCorr l r.corr).laneAccum l = s.laneAccum l := bit_of_rd _ _ _ _ (hstat 0)
  rw [laneCorr_lane] at hgrp hres
  rw [hmethod] at hiter
  rw [haccum] at hres
  rw [laneCorr_est] at hest
  obtain ⟨hnone, hrest⟩ := hlast
  obtain ⟨rows, hrows⟩ := laneNext_keeps (d := d) (l := l) (ok := true) (hgrp.trans hnone) fun _ hr hrel => by
    rw [Dev.chunk, hest] at *
    exact hrest (by rw [← hr, hrole]; exact (fld_of_rd _ _ _ _ _ (hstat 0)).symm) hrel
  have hdone : s.toDev.publish l r = { d with est.bundleRows := rows } := by
    unfold Dev.publish
    rw [hst, hfit, if_pos (by decide), hend, ← hrows, ← hd]
    rfl
  obtain ⟨hreg, -, hlane⟩ := laneShown_settle d rows l.isLt
  refine answers_of_done (congrArg (done s) hdone) ⟨(fld_of_rd _ _ _ _ _ (hreg 0 (by decide))).trans hstate,
    (fld_of_rd _ _ _ _ _ (hreg 0 (by decide))).trans hcode, (fld_of_rd _ _ _ _ _ (hreg 0 (by decide))).trans hclass,
    (hreg 8 (by decide)).trans htime, ?_, ?_⟩
  · split_ifs at hiter ⊢ with hm
    · exact (fld_of_rd _ _ _ _ _ (hreg 0x10 (by decide))).trans hiter
    · exact ((hreg 0x10 (by decide)).trans hiter).trans (hstat 0x10)
  · split_ifs at hres ⊢ with hb
    · exact ⟨((bit_of_rd _ _ _ _ (hreg 0 (by decide))).trans hres.1).trans (bit_of_rd _ _ _ _ (hstat 0)),
        (congrArg LaneSt.result hlane).trans hres.2⟩
    · exact ⟨(bit_of_rd _ _ _ _ (hreg 0 (by decide))).trans hres.1, fun hs =>
        (congrArg LaneSt.result hlane).trans (hres.2 (by rw [laneCorr_length, hs.lane]; exact l.isLt))⟩

/-- What a stop with an invalid result leaves, after the words that the memory corrects and before what follows it (R195). -/
structure LaneFailed (s : Dev) (l code cycles : Nat) (d : Dev) : Prop where
  shown : d.fld (GROVE_LANE_STAT l) 15 12 = code
  shownClass : d.fld (GROVE_LANE_STAT l) 18 16 = codeClass code
  time : d.rd (GROVE_LANE_TIME l) = BitVec.ofNat 32 cycles
  total : d.fld GROVE_ERR_TOTAL 31 0 = min 4294967295 (s.fld GROVE_ERR_TOTAL 31 0 + 1)
  result : (d.lane l).result = (s.lane l).result
  grp : (s.lane l).grp = none → (d.lane l).grp = none
  plain : code ≠ 12 → code ≠ 13 → d.laneState l = 1
  residue : code = 12 → d.laneState l = if s.retireLim ≤ min 255 (s.fld (GROVE_LANE_ERRCNT l) 23 16 + 1) then 3 else 1
  memory : code = 13 → l < s.grove.lane.length → d.laneState l = if 1 ≤ (s.lane l).memBad then 3 else 0

theorem laneStop_laneFailed (s : Dev) {l : Nat} (hl : l < 32) {code : Nat} (hcode : code ≠ 0) (hlt : code < 16) (iter cycles : Nat)
    (corr : List Nat) (out : Option SolveOut) : LaneFailed s l code cycles ((s.laneCorr l corr).laneStop l code iter cycles out) := by
  obtain ⟨hfld, hclass, htime, htot, hres, hgrp, -⟩ := laneStop_failed (s.laneCorr l corr) hl hcode hlt iter cycles out
  obtain ⟨hplain, h12, h13⟩ := laneStop_failed_state (s.laneCorr l corr) hl hcode iter cycles out
  have hlim : (s.laneCorr l corr).retireLim = s.retireLim := congrArg (max 1) (laneCorr_fld _ _ _ _ _ _ (by decide))
  rw [laneCorr_fld _ _ _ _ _ _ (by decide)] at htot
  rw [laneCorr_lane] at hres hgrp h13
  rw [hlim, laneCorr_laneReg] at h12
  rw [laneCorr_length] at h13
  exact ⟨hfld, hclass, htime, htot, hres, hgrp, hplain, h12, h13⟩

theorem shownFailed_settle {s d : Dev} {l code cycles : Nat} (hl : l < 32) (h : LaneFailed s l code cycles d) (rows : List EstRow) :
    LaneFailed s l code cycles ({ d with est.bundleRows := rows } : Dev).settle := by
  obtain ⟨hreg, htot, hlane⟩ := laneShown_settle d rows hl
  have hstate : ({ d with est.bundleRows := rows } : Dev).settle.laneState l = d.laneState l := fld_of_rd _ _ _ _ _ (hreg 0 (by decide))
  exact ⟨(fld_of_rd _ _ _ _ _ (hreg 0 (by decide))).trans h.shown, (fld_of_rd _ _ _ _ _ (hreg 0 (by decide))).trans h.shownClass,
    (hreg 8 (by decide)).trans h.time, htot.trans h.total, (congrArg LaneSt.result hlane).trans h.result,
    fun hn => (congrArg LaneSt.grp hlane).trans (h.grp hn), fun h12 h13 => hstate.trans (h.plain h12 h13),
    fun h12 => hstate.trans (h.residue h12), fun h13 hlen => hstate.trans (h.memory h13 hlen)⟩

/-- A lane that fails without a further group to start (R178, R196). -/
theorem failed_answers {c : Instr} {s : State} {l code cycles : Nat} {d : Dev} (hl : l < 32) (h : LaneFailed s.toDev l code cycles d)
    (hgrp : (s.lane l).grp = none) (hc : exec c s = done s (d.laneNext l false)) :
    Answers c s fun t => LaneFailed s.toDev l code cycles t.toDev := by
  obtain ⟨rows, hrows⟩ := laneNext_keeps (d := d) (l := l) (ok := false) (h.grp hgrp) (fun h => nomatch h)
  exact answers_of_done (hc.trans (congrArg (done s) hrows)) (shownFailed_settle hl h rows)

theorem answers_mono {c : Instr} {s : State} {P Q : State → Prop} (h : Answers c s P) (hPQ : ∀ t, P t → Q t) : Answers c s Q := by
  obtain ⟨t, ht, hq, hp⟩ := h
  exact ⟨t, ht, hq, hPQ t hp⟩

theorem pivotCode_range (method : Nat) (d2 p : Rat) : pivotCode method d2 p = 0 ∨ pivotCode method d2 p = 8 ∨ pivotCode method d2 p = 9 := by
  unfold pivotCode
  dsimp only
  split_ifs <;> simp

theorem pivotsCode_range (s : Dev) (l : Nat) (ps : List GVal) :
    s.pivotsCode l ps = 0 ∨ s.pivotsCode l ps = 8 ∨ s.pivotsCode l ps = 9 := by
  unfold Dev.pivotsCode
  split
  · refine List.foldlRecOn (motive := fun c : Nat => c = 0 ∨ c = 8 ∨ c = 9) ps _ (.inl rfl) fun c hc p _ => ?_
    split
    · exact pivotCode_range _ _ _
    · exact hc
  · exact .inl rfl

/-- A solve that comes to its end without a result fails at a pivot or at the final check (R185, R186). -/
theorem endCode_of_ne (s : Dev) (l : Nat) (r : SolveOut) (h : s.endCode l r ≠ 0) :
    s.endCode l r = 8 ∨ s.endCode l r = 9 ∨ s.endCode l r = 10 := by
  have hpivots := pivotsCode_range s l r.pivots
  unfold Dev.endCode at h ⊢
  dsimp only at h ⊢
  split_ifs at h ⊢ with hp
  · omega
  · simp
  · exact absurd rfl h

/-- A pivot or the final check fails at the end of a solve (R185, R186). -/
theorem grovePublish_fails (l : Fin 32) (r : SolveOut) (s : State) (hst : s.laneState l = 2) (hfit : s.outFits l r = true)
    (hend : s.endCode l r ≠ 0) (hgrp : (s.lane l).grp = none) :
    Answers (.grovePublish l r) s fun t => t.laneState l = 1 ∧
      t.fld (GROVE_LANE_STAT l) 15 12 = s.endCode l r ∧ t.fld (GROVE_LANE_STAT l) 18 16 = 2 ∧
      (t.lane l).result = (s.lane l).result ∧
      t.fld GROVE_ERR_TOTAL 31 0 = min 4294967295 (s.fld GROVE_ERR_TOTAL 31 0 + 1) := by
  have hcodes := endCode_of_ne s.toDev l r hend
  have hclass : codeClass (s.endCode l r) = 2 := by
    rcases hcodes with h | h | h <;> rw [h] <;> rfl
  have hfailed := laneStop_laneFailed s.toDev l.isLt hend (by omega) r.iter r.cycles r.corr none
  refine answers_mono (failed_answers l.isLt hfailed hgrp (congrArg (done s) ?_)) fun t h =>
    ⟨h.plain (by omega) (by omega), h.shown, h.shownClass.trans hclass, h.result, h.total⟩
  unfold Dev.publish
  rw [hst, hfit, if_pos (by decide)]
  simp only [if_neg hend, beq_eq_false_iff_ne.2 hend]

/-- The deadline of a Solving lane (R188, R189). -/
theorem groveDeadline_answers (l : Fin 32) (iter cycles : Nat) (corr : List Nat) (s : State) (hst : s.laneState l = 2)
    (hdue : s.laneDue l = true) :
    Answers (.groveDeadline l iter cycles corr) s fun t =>
      t.laneState l = 1 ∧ t.fld (GROVE_LANE_STAT l) 15 12 = 1 ∧ t.fld (GROVE_LANE_STAT l) 18 16 = 1 ∧
      t.fld GROVE_ERR_TOTAL 31 0 = min 4294967295 (s.fld GROVE_ERR_TOTAL 31 0 + 1) ∧
      t.rd (GROVE_LANE_TIME l) = BitVec.ofNat 32 cycles ∧ (t.lane l).result = (s.lane l).result := by
  have hfailed := laneStop_laneFailed s.toDev l.isLt (code := 1) (by decide) (by decide) iter cycles corr none
  generalize hd : (s.toDev.laneCorr l corr).laneStop l 1 iter cycles none = d at hfailed
  have hdone : s.toDev.deadline l iter cycles corr = d.setLane l fun x => { x with work := [], grp := none } := by
    unfold Dev.deadline
    rw [hst, hdue, if_pos (by decide), hd]
  obtain ⟨hcode, hclass, htime, htot, hres, -, hplain, -, -⟩ := hfailed
  obtain ⟨hout, hstat⟩ := laneReg_ne_safe l 0 l.isLt (by decide)
  obtain ⟨hout8, hstat8⟩ := laneReg_ne_safe l 8 l.isLt (by decide)
  refine answers_of_done (congrArg (done s) hdone) ⟨?_, ?_, ?_, ?_, ?_, ?_⟩
  · exact (laneStat_settle _ l.isLt).1.trans (hplain (by decide) (by decide))
  · exact (settle_fld _ _ _ _ hout hstat).trans hcode
  · exact (settle_fld _ _ _ _ hout hstat).trans hclass
  · exact (settle_fld _ _ _ _ (by decide) (by decide)).trans htot
  · exact (settle_rd _ _ hout8 hstat8).trans htime
  · rw [lane_settle]
    refine (lane_setLane_keeps LaneSt.result _ _ _ _ ?_).trans hres
    exact fun _ => rfl

/-- A solve that fails (R196). -/
theorem groveSolveFailure_answers (l : Fin 32) (iter cycles : Nat) (code : BitVec 4) (pivot : GVal) (corr : List Nat) (s : State)
    (hst : s.laneState l = 2) (hfit : s.failFits l code.toNat iter (gvRat pivot) = true) (hgrp : (s.lane l).grp = none) :
    Answers (.groveSolveFailure l ⟨code, pivot⟩ iter cycles corr) s fun t =>
      t.fld (GROVE_LANE_STAT l) 15 12 = code.toNat ∧ t.fld (GROVE_LANE_STAT l) 18 16 = codeClass code.toNat ∧
      (code.toNat ≤ 11 → t.laneState l = 1) ∧
      (code = 12 → t.laneState l = if s.retireLim ≤ min 255 (s.fld (GROVE_LANE_ERRCNT l) 23 16 + 1) then 3 else 1) ∧
      (Shaped s.toDev → code = 13 → t.laneState l = if 1 ≤ (s.lane l).memBad then 3 else 0) ∧
      t.rd (GROVE_LANE_TIME l) = BitVec.ofNat 32 cycles ∧
      t.fld GROVE_ERR_TOTAL 31 0 = min 4294967295 (s.fld GROVE_ERR_TOTAL 31 0 + 1) := by
  have hcode : code.toNat ≠ 0 := fun h => by
    rw [h] at hfit
    simp [Dev.failFits] at hfit
  have hfailed := laneStop_laneFailed s.toDev l.isLt hcode code.isLt iter cycles corr none
  refine answers_mono (failed_answers l.isLt hfailed hgrp (congrArg (done s) ?_)) fun t h =>
    ⟨h.shown, h.shownClass, fun hle => h.plain (by omega) (by omega), fun hc => h.residue (by rw [hc]; rfl),
      fun hs hc => h.memory (by rw [hc]; rfl) (by rw [hs.lane]; exact l.isLt), h.time, h.total⟩
  unfold Dev.solveFails
  rw [hst, hfit, if_pos (by decide)]

/-- Settles O21: a release by the lane's state, and the three ways in which a solve stops. -/
theorem laneReleaseAndStops : Obligations.LaneReleaseAndStops := by
  unfold Obligations.LaneReleaseAndStops
  refine ⟨fun l final amb corr s => ⟨groveRelease_starts l final amb corr s, fun code => groveRelease_breaks l final amb corr s code,
    groveRelease_empty l final amb corr s, fun h => ?_⟩, fun l r s hst hfit =>
      ⟨grovePublish_answers l r s hst hfit, grovePublish_fails l r s hst hfit⟩, fun l iter cycles code pivot corr s =>
        ⟨groveDeadline_answers l iter cycles corr s, fun h => ?_, groveSolveFailure_answers l iter cycles code pivot corr s⟩⟩
  · exact refused_answers l corr (congrArg (done s) (groveStart_refuses (by rwa [laneCorr_laneState]) final amb))
  · refine noEffect_of_done rfl (if_neg ?_)
    rcases h with h | h
    · simp [h]
    · simp [h]

end Sys2Proof.Machine
end

section
/-! Front ends and channels of the receiver (R206, R208 to R213). -/

namespace Sys2Proof.Machine

theorem setAt_eq_modAt {α : Type} (xs : List α) (k : Nat) (v : α) : setAt xs k v = modAt xs k fun _ => v := by
  induction xs generalizing k with
  | nil => rfl
  | cons x xs ih =>
    cases k with
    | zero => rfl
    | succ k => exact congrArg (x :: ·) (ih k)

/-! Front ends. -/

/-- What a front end's report writes (R206). -/
def Dev.feShow (s : Dev) (k agc : Nat) (fault : Bool) : Dev := (s.wrN (GNSS_FE_AGC k) agc).setBit GNSS_STAT (24 + k) fault

theorem feShow_effect (s : Dev) (k agc : Nat) (fault : Bool) :
    Effect [GNSS_FE_AGC k, GNSS_STAT] s (s.feShow k agc fault) (blocks s) :=
  ((Effect.refl _ s).wrN (by simp) _).setBit (by simp) _ _

/-- What every report of a front end shows, with the event or without (R206). -/
theorem feShow_after (s : State) (k : Fin 4) (agc : Nat) (fault : Bool) (d : Dev)
    (hd : d = s.toDev.feShow k agc fault ∨ ∃ c p q, d = (s.toDev.feShow k agc fault).ev c p q) :
    (s.after d).rd (GNSS_FE_AGC k) = BitVec.ofNat 32 agc ∧ (s.after d).bit GNSS_STAT (24 + k) = fault ∧
      (∀ j, j ≠ 24 + k.val → (s.after d).bit GNSS_STAT j = s.bit GNSS_STAT j) ∧
      OnlyRegs [GNSS_FE_AGC k, GNSS_STAT] s (s.after d) := by
  have hk := k.isLt
  have heff : Effect [GNSS_FE_AGC k, GNSS_STAT] s.toDev d (blocks s.toDev) := by
    rcases hd with rfl | ⟨c, p, q, rfl⟩
    · exact feShow_effect s.toDev k agc fault
    · exact (feShow_effect s.toDev k agc fault).ev c p q
  have hrd : ∀ a, d.rd a = (s.toDev.feShow k agc fault).rd a := fun a => by
    rcases hd with rfl | ⟨c, p, q, rfl⟩
    · rfl
    · exact ev_rd _ _ _ _ _
  refine ⟨?_, ?_, fun j hj => ?_, heff.framed⟩
  · refine (settle_rd _ _ (by simp only [GNSS_FE_AGC, SAFE_OUT_STAT]; omega) (by simp only [GNSS_FE_AGC, SAFE_STAT]; omega)).trans ?_
    rw [hrd]
    simp (disch := omega) [Dev.feShow, GNSS_FE_AGC, GNSS_STAT]
  · refine (settle_bit _ _ _ (by decide) (by decide)).trans ?_
    rw [bit_of_rd _ _ _ _ (hrd _)]
    simp (disch := omega) [Dev.feShow]
  · refine (settle_bit _ _ _ (by decide) (by decide)).trans ?_
    rw [bit_of_rd _ _ _ _ (hrd _)]
    simp (disch := omega) [Dev.feShow, GNSS_FE_AGC, GNSS_STAT]

theorem feFault_answers (k : Fin 4) (gain : Byte) (atMax : Bool) (s : State) :
    Answers (.feFault k gain atMax) s fun t =>
      t.rd (GNSS_FE_AGC k) = BitVec.ofNat 32 (gain.toNat + 256) ∧ t.bit GNSS_STAT (24 + k) = true ∧
      (∀ j, j ≠ 24 + k.val → t.bit GNSS_STAT j = s.bit GNSS_STAT j) ∧ OnlyRegs [GNSS_FE_AGC k, GNSS_STAT] s t ∧
      (s.bit (GNSS_FE_AGC k) 8 = true → NoEvent s t) ∧
      (s.bit (GNSS_FE_AGC k) 8 = false → OneEvent s t 0x0706 (BitVec.ofNat 32 k) (if atMax then 1#32 else 2#32)) := by
  have hlog : (s.toDev.feShow k (gain.toNat + 256) true).log = s.log := by simp [Dev.feShow]
  cases hwas : s.bit (GNSS_FE_AGC k) 8 with
  | true =>
    have hdone : s.toDev.feFault k gain.toNat atMax = s.toDev.feShow k (gain.toNat + 256) true := if_pos hwas
    obtain ⟨hagc, hbit, hrest, hframe⟩ := feShow_after s k (gain.toNat + 256) true _ (.inl rfl)
    exact answers_of_done (congrArg (done s) hdone)
      ⟨hagc, hbit, hrest, hframe, fun _ => noEvent_after (congrArg LogSt.raised hlog), fun h => nomatch h⟩
  | false =>
    have hdone : s.toDev.feFault k gain.toNat atMax =
        (s.toDev.feShow k (gain.toNat + 256) true).ev 0x0706 k (if atMax then 1 else 2) := if_neg (by rw [hwas]; decide)
    obtain ⟨hagc, hbit, hrest, hframe⟩ := feShow_after s k (gain.toNat + 256) true _ (.inr ⟨0x0706, k, if atMax then 1 else 2, rfl⟩)
    refine answers_of_done (congrArg (done s) hdone) ⟨hagc, hbit, hrest, hframe, (fun h => nomatch h), fun _ => oneEvent_after ?_⟩
    obtain ⟨e, he, hcode, hp, hq⟩ := ev_raised (s.toDev.feShow k (gain.toNat + 256) true) 0x0706 k (if atMax then 1 else 2)
    exact ⟨e, he.trans (by rw [hlog]), hcode, hp, hq.trans (by cases atMax <;> rfl)⟩

theorem feFaultClear_answers (k : Fin 4) (gain : Byte) (s : State) :
    Answers (.feFaultClear k gain) s fun t =>
      t.rd (GNSS_FE_AGC k) = BitVec.ofNat 32 gain.toNat ∧ t.bit GNSS_STAT (24 + k) = false ∧
      (∀ j, j ≠ 24 + k.val → t.bit GNSS_STAT j = s.bit GNSS_STAT j) ∧ OnlyRegs [GNSS_FE_AGC k, GNSS_STAT] s t ∧
      (s.bit (GNSS_FE_AGC k) 8 = false → NoEvent s t) ∧
      (s.bit (GNSS_FE_AGC k) 8 = true → OneEvent s t 0x0707 (BitVec.ofNat 32 k) 0#32) := by
  have hlog : (s.toDev.feShow k gain.toNat false).log = s.log := by simp [Dev.feShow]
  cases hwas : s.bit (GNSS_FE_AGC k) 8 with
  | false =>
    have hdone : s.toDev.feClear k gain.toNat = s.toDev.feShow k gain.toNat false := if_neg (by rw [hwas]; decide)
    obtain ⟨hagc, hbit, hrest, hframe⟩ := feShow_after s k gain.toNat false _ (.inl rfl)
    exact answers_of_done (congrArg (done s) hdone)
      ⟨hagc, hbit, hrest, hframe, fun _ => noEvent_after (congrArg LogSt.raised hlog), fun h => nomatch h⟩
  | true =>
    have hdone : s.toDev.feClear k gain.toNat = (s.toDev.feShow k gain.toNat false).ev 0x0707 k 0 := if_pos hwas
    obtain ⟨hagc, hbit, hrest, hframe⟩ := feShow_after s k gain.toNat false _ (.inr ⟨0x0707, k, 0, rfl⟩)
    refine answers_of_done (congrArg (done s) hdone) ⟨hagc, hbit, hrest, hframe, (fun h => nomatch h), fun _ => oneEvent_after ?_⟩
    obtain ⟨e, he, hcode, hp, hq⟩ := ev_raised (s.toDev.feShow k gain.toNat false) 0x0707 k 0
    exact ⟨e, he.trans (by rw [hlog]), hcode, hp, hq⟩

/-! Channels. -/

theorem gnssChan_settle (d : Dev) (k : Nat) : gnssChan d.settle k = gnssChan d k := by
  rw [gnssChan, gnssChan, settle_gnss]

/-- New channels with their count in GNSS_STAT (R208). -/
theorem tracked_after (s : State) (xs : List GChan) (hlen : xs.length = 192) :
    let t := s.after { s.toDev with gnss.chan := xs }.countTrack
    t.gnss = { s.gnss with chan := xs } ∧ t.fld GNSS_STAT 23 16 = (t.gnss.chan.filter fun c => c.assigned && c.codeLock).length ∧
      Framed [GNSS_STAT] s t { blocks s.toDev with gnss := t.gnss } ∧ NoEvent s t := by
  intro t
  have hgnss : t.gnss = { s.gnss with chan := xs } := (settle_gnss _).trans (by simp [Dev.countTrack])
  have hfew : (xs.filter fun c => c.assigned && c.codeLock).length ≤ 192 := hlen ▸ List.length_filter_le _ xs
  refine ⟨hgnss, ?_, ?_, noEvent_after (by simp [Dev.countTrack])⟩
  · rw [hgnss]
    refine (settle_fld _ _ _ _ (by decide) (by decide)).trans ?_
    rw [Dev.countTrack, fld_setFld_same _ _ _ _ _ (by decide) (by decide)]
    exact Nat.mod_eq_of_lt (Nat.lt_of_le_of_lt hfew (by decide))
  · rw [hgnss]
    exact (((Effect.refl [GNSS_STAT] s.toDev).gnss { s.gnss with chan := xs }).setFld (by simp) _ _ _).framed

theorem acquired_assigns {s : Dev} {k sig svid : Nat} {antS : Bool} {cn0 : BitVec 16} (hcn : 3300 ≤ cn0.toNat)
    (hcand : s.candidate sig svid antS = true) (hnone : (s.gnss.chan.any fun x => x.holds sig svid antS) = false)
    (htake : s.mayTake k sig svid antS = true) :
    s.acquired k sig svid antS cn0 = { s with gnss.chan := modAt s.gnss.chan k fun _ => {
      assigned := true, sig := sig, svid := svid, antS := antS, codeLock := true, cn0 := cn0,
      early := (earlyLate (spacing s.gnss.spc sig)).1, late := (earlyLate (spacing s.gnss.spc sig)).2 } }.countTrack := by
  have hown : (s.gnss.chan.getD k {}).holds sig svid antS = false := by
    by_cases hk : k < s.gnss.chan.length
    · rw [List.getD_eq_getElem _ _ hk]
      exact Bool.eq_false_iff.2 (List.any_eq_false.1 hnone _ (List.getElem_mem hk))
    · rw [List.getD_eq_default _ _ (Nat.le_of_not_lt hk)]
      rfl
  unfold Dev.acquired
  dsimp only
  rw [if_neg (by simp [hcand]; omega), hown, if_neg (by decide), hnone, htake, if_neg (by decide), setAt_eq_modAt]

theorem acquired_relocks {s : Dev} {k sig svid : Nat} {antS : Bool} {cn0 : BitVec 16} (hcn : 3300 ≤ cn0.toNat)
    (hcand : s.candidate sig svid antS = true) (hown : (gnssChan s k).holds sig svid antS = true) :
    s.acquired k sig svid antS cn0 =
      { s with gnss.chan := modAt s.gnss.chan k fun _ => { gnssChan s k with codeLock := true } }.countTrack := by
  unfold Dev.acquired
  dsimp only
  rw [if_neg (by simp [hcand]; omega), show s.gnss.chan.getD k {} = gnssChan s k from rfl, hown, if_pos rfl, setAt_eq_modAt]

/-- The channels after an update of one (R208). -/
theorem gnssChan_modAt {s t : State} {k : Nat} {f : GChan → GChan} (hk : k < s.gnss.chan.length)
    (ht : t.gnss = { s.gnss with chan := modAt s.gnss.chan k f }) :
    gnssChan t.toDev k = f (gnssChan s.toDev k) ∧ ∀ j, j ≠ k → gnssChan t.toDev j = gnssChan s.toDev j := by
  unfold gnssChan
  rw [ht]
  exact ⟨getD_modAt_same _ _ _ _ hk, fun j hj => getD_modAt_ne _ _ _ _ _ hj⟩

theorem gnssChan_map {s t : State} {f : GChan → GChan} (ht : t.gnss = { s.gnss with chan := s.gnss.chan.map f }) (hf : f {} = {})
    (j : Nat) : gnssChan t.toDev j = f (gnssChan s.toDev j) := by
  simp only [gnssChan, ht, List.getD_eq_getElem?_getD, List.getElem?_map]
  cases s.gnss.chan[j]? with
  | none => exact hf.symm
  | some x => rfl

/-- Channels replaced behind the registers alone. -/
theorem channels_after (s : State) (xs : List GChan) :
    let t := s.after { s.toDev with gnss.chan := xs }
    t.gnss = { s.gnss with chan := xs } ∧ Framed [] s t { blocks s.toDev with gnss := t.gnss } ∧ NoEvent s t := by
  intro t
  have hgnss : t.gnss = { s.gnss with chan := xs } := settle_gnss _
  refine ⟨hgnss, ?_, noEvent_after rfl⟩
  rw [hgnss]
  exact ((Effect.refl [] s.toDev).gnss { s.gnss with chan := xs }).framed

/-- Settles O22: a front end's report is one write; every event of a channel replaces the channels and counts them. -/
theorem receiverChannels : Obligations.ReceiverChannels := by
  unfold Obligations.ReceiverChannels
  refine ⟨fun k gain atMax s => ⟨feFault_answers k gain atMax s, feFaultClear_answers k gain s⟩,
    fun ch sig svid antS cn0 ms s hs => ⟨fun hcn hcand hnone htake => ?_, fun hcn hcand hown => ?_, fun h => ?_, fun hcn hms => ?_,
      fun h => ?_, fun hcode hcarr => ?_, fun hcarr => ?_, ?_⟩⟩
  · have hch : ch.val < s.gnss.chan.length := by rw [hs.gnss]; exact ch.isLt
    obtain ⟨hgnss, hcount, hframe, hevent⟩ := tracked_after s _ ((length_modAt s.gnss.chan ch _).trans hs.gnss)
    obtain ⟨hsame, hrest⟩ := gnssChan_modAt hch hgnss
    exact answers_of_done (congrArg (done s) (acquired_assigns hcn hcand hnone htake)) ⟨hsame, hrest, hcount, hframe, hevent⟩
  · have hch : ch.val < s.gnss.chan.length := by rw [hs.gnss]; exact ch.isLt
    obtain ⟨hgnss, -, -, hevent⟩ := tracked_after s _ ((length_modAt s.gnss.chan ch _).trans hs.gnss)
    obtain ⟨hsame, hrest⟩ := gnssChan_modAt hch hgnss
    exact answers_of_done (congrArg (done s) (acquired_relocks hcn hcand hown)) ⟨hsame, hrest, hevent⟩
  · refine noEffect_of_done rfl (if_pos ?_)
    rcases h with h | h
    · exact .inl h
    · exact .inr (by simp [h])
  · have hch : ch.val < s.gnss.chan.length := by rw [hs.gnss]; exact ch.isLt
    obtain ⟨hgnss, hcount, hframe, hevent⟩ := tracked_after s _ ((length_modAt s.gnss.chan ch _).trans hs.gnss)
    obtain ⟨hsame, hrest⟩ := gnssChan_modAt hch hgnss
    exact answers_of_done (congrArg (done s) (if_pos ⟨hcn, hms⟩)) ⟨congrArg GChan.codeLock hsame, congrArg GChan.carrLock hsame,
      congrArg GChan.lol hsame, hrest, hcount, hframe, hevent⟩
  · exact noEffect_of_done rfl (if_neg (show ¬(cn0.toNat < 2400 ∧ 1000 < ms) by omega))
  · have hch : ch.val < s.gnss.chan.length := by rw [hs.gnss]; exact ch.isLt
    refine answers_of_done rfl ?_
    obtain ⟨hgnss, hframe, hevent⟩ := channels_after s (modAt s.gnss.chan ch _)
    obtain ⟨hsame, hrest⟩ := gnssChan_modAt hch hgnss
    exact ⟨hsame.trans (if_pos (by rw [hcode, hcarr]; rfl)), hrest, hframe, hevent⟩
  · have hch : ch.val < s.gnss.chan.length := by rw [hs.gnss]; exact ch.isLt
    refine answers_of_done rfl ?_
    obtain ⟨hgnss, hframe, hevent⟩ := channels_after s (modAt s.gnss.chan ch _)
    obtain ⟨hsame, hrest⟩ := gnssChan_modAt hch hgnss
    exact ⟨hsame.trans (if_pos hcarr), hrest, hframe, hevent⟩
  · refine answers_of_done rfl ?_
    obtain ⟨hgnss, hframe, hevent⟩ := channels_after s (s.gnss.chan.map _)
    refine ⟨fun j => ?_, hframe, hevent⟩
    refine gnssChan_map hgnss ?_ j
    split <;> rfl

end Sys2Proof.Machine
end

section
/-! Local time: its first setting, its steps, holdover, the return slew and leap seconds (R216 to R218, R221, R223, R306). -/

namespace Sys2Proof.Machine

/-! The time state. -/

theorem setTstate_tstate (s : Dev) (n : Nat) (hn : n < 8) : (s.setTstate n).tstate = n := by
  unfold Dev.setTstate
  split
  · assumption
  · rw [Dev.tstate, fld_raise_other _ _ _ _ _ (by decide), fld_setFld_same _ _ _ _ _ (by decide) (by decide)]
    exact Nat.mod_eq_of_lt hn

theorem setTstate_reg (s : Dev) (n a : Nat) (hstat : a ≠ GNSS_STAT) (hpend : a ≠ HOST_EVT_PEND 2) :
    (s.setTstate n).rd a = s.rd a := by
  unfold Dev.setTstate
  split
  · rfl
  · exact (rd_raise_ne _ _ _ hpend).trans (rd_setFld_ne _ _ _ _ _ _ hstat)

theorem setTstate_effect {l : List Nat} {s d b : Dev} (h : Effect l s d b) (n : Nat) (hstat : GNSS_STAT ∈ l)
    (hpend : HOST_EVT_PEND 2 ∈ l) : Effect l s (d.setTstate n) b := by
  unfold Dev.setTstate
  split
  · exact h
  · exact (h.setFld hstat _ _ _).raise hpend

@[simp] theorem setTstate_kept (s : Dev) (n : Nat) : (s.setTstate n).log = s.log ∧ (s.setTstate n).clk = s.clk ∧
    (s.setTstate n).gnss = s.gnss ∧ (s.setTstate n).net = s.net := by
  unfold Dev.setTstate
  split <;> simp

theorem tstate_settle (d : Dev) : d.settle.tstate = d.tstate := settle_fld _ _ _ _ (by decide) (by decide)

theorem timeValid_settle (d : Dev) : d.settle.timeValid = d.timeValid := settle_bit _ _ _ (by decide) (by decide)

/-! The first setting. -/

/-- A setting of local time up to its choice of source (R216). -/
def Dev.timeShown (s : Dev) : Dev :=
  let d : Dev := { s.setTstate 1 with clk.setPending := none }
  d.wrN GNSS_TERR d.gnss.u0

theorem timeShown_tstate (s : Dev) : s.timeShown.tstate = 1 := by
  have h := setTstate_tstate s 1 (by decide)
  unfold Dev.tstate at h ⊢
  simpa (disch := decide) [Dev.timeShown] using h

theorem timeShown_timeValid (s : Dev) : s.timeShown.timeValid = s.timeValid := by
  rw [Dev.timeValid, Dev.timeValid, ← bit_of_rd _ _ _ _ (setTstate_reg s 1 NET_TIME_STAT (by decide) (by decide))]
  simp (disch := decide) [Dev.timeShown]

theorem timeShown_kept (s : Dev) : s.timeShown.clk = { s.clk with setPending := none } ∧ s.timeShown.net = s.net ∧
    s.timeShown.log = s.log := by
  simp [Dev.timeShown]

/-- The first setting from the baseband (R216). -/
def Dev.timeFirst (d : Dev) (bias : Int) (drift : Rat) : Dev :=
  let s : Dev := { d.shiftLocal (-bias) with clk.freqCorr := clampRat (-50000000) 50000000 (d.clk.freqCorr - drift) }
  ((s.firstSet 1).ev 0x0701 0 0).showClock

theorem timeSet_eq {s : Dev} {bias : Int} {drift : Rat} (hset : s.clk.setPending = some (bias, drift)) :
    s.timeSet = if s.timeShown.timeValid then
        (if s.timeShown.wantedSource = 1 then (s.timeShown.ev 0x0701 0 0).changeSource 1 bias else s.timeShown.ev 0x0701 0 0)
      else if s.timeShown.tsel = 2 then s.timeShown.ev 0x0701 0 0 else s.timeShown.timeFirst bias drift := by
  unfold Dev.timeSet
  rw [hset]
  rfl

theorem timeShown_tsel (s : Dev) : s.timeShown.tsel = s.tsel := by
  rw [Dev.tsel, Dev.tsel, (timeShown_kept s).2.1]

/-- What the first setting leaves (R216, R296). -/
theorem timeFirst_clk (d : Dev) (bias : Int) (drift : Rat) : (d.timeFirst bias drift).clk =
    { d.clk with localNs := d.clk.localNs - bias, cycleNs := d.clk.cycleNs - bias,
                 freqCorr := clampRat (-50000000) 50000000 (d.clk.freqCorr - drift) } := by
  simp [Dev.timeFirst, Dev.showClock, Dev.firstSet, Dev.shiftLocal, sub_eq_add_neg]

theorem timeFirst_regs (d : Dev) (bias : Int) (drift : Rat) : (d.timeFirst bias drift).timeValid = true ∧
    (d.timeFirst bias drift).tstate = d.tstate ∧ (d.timeFirst bias drift).fld NET_TIME_STAT 1 0 = 1 := by
  simp (disch := decide) [Dev.timeFirst, Dev.showClock, Dev.firstSet, Dev.shiftLocal, Dev.timeValid, Dev.tstate]

/-- Local time is set from the baseband (R216). -/
theorem localTimeSet_first {s : State} {bias : Int} {drift : Rat} (hset : s.clk.setPending = some (bias, drift))
    (hvalid : s.timeValid = false) (hsel : s.tsel ≠ 2) :
    Answers .localTimeSet s fun t =>
      t.clk.localNs = s.clk.localNs - bias ∧ t.clk.cycleNs = s.clk.cycleNs - bias ∧
      t.clk.freqCorr = clampRat (-50000000) 50000000 (s.clk.freqCorr - drift) ∧ t.clk.setPending = none ∧
      t.timeValid = true ∧ t.tstate = 1 ∧ t.fld NET_TIME_STAT 1 0 = 1 := by
  have hdone : s.toDev.timeSet = s.toDev.timeShown.timeFirst bias drift := by
    rw [timeSet_eq hset, if_neg (by rw [timeShown_timeValid, hvalid]; decide), if_neg (by rwa [timeShown_tsel])]
  obtain ⟨hclk, -, -⟩ := timeShown_kept s.toDev
  obtain ⟨hv, ht, hsrc⟩ := timeFirst_regs s.toDev.timeShown bias drift
  have hclk' := (settle_clk (s.toDev.timeShown.timeFirst bias drift)).trans (timeFirst_clk _ bias drift)
  rw [hclk] at hclk'
  exact answers_of_done (congrArg (done s) hdone) ⟨congrArg ClkSt.localNs hclk', congrArg ClkSt.cycleNs hclk',
    congrArg ClkSt.freqCorr hclk', congrArg ClkSt.setPending hclk', (timeValid_settle _).trans hv,
    (tstate_settle _).trans (ht.trans (timeShown_tstate _)), (settle_fld _ _ _ _ (by decide) (by decide)).trans hsrc⟩

/-- A setting that leaves local time to PTP (R216, R294). -/
theorem localTimeSet_ptp {s : State} {bias : Int} {drift : Rat} (hset : s.clk.setPending = some (bias, drift)) (hsel : s.tsel = 2) :
    Answers .localTimeSet s fun t => t.clk = { s.clk with setPending := none } ∧ t.tstate = 1 ∧
      t.timeValid = s.timeValid ∧ OneEvent s t 0x0701 0#32 0#32 := by
  have hsrc : s.toDev.timeShown.wantedSource ≠ 1 := by
    rw [Dev.wantedSource, timeShown_tsel, hsel]
    exact Nat.succ_ne_self 1
  have hdone : s.toDev.timeSet = s.toDev.timeShown.ev 0x0701 0 0 := by
    rw [timeSet_eq hset, if_neg hsrc, timeShown_tsel, if_pos hsel, ite_self]
  obtain ⟨hclk, -, hlog⟩ := timeShown_kept s.toDev
  refine answers_of_done (congrArg (done s) hdone) ⟨(settle_clk _).trans hclk, ?_, ?_, oneEvent_after ?_⟩
  · exact (tstate_settle _).trans ((ev_fld _ _ _ _ _ _ _).trans (timeShown_tstate _))
  · exact (timeValid_settle _).trans ((ev_bit _ _ _ _ _ _).trans (timeShown_timeValid _))
  · obtain ⟨e, he, hcode, hp, hq⟩ := ev_raised s.toDev.timeShown 0x0701 0 0
    exact ⟨e, he.trans (by rw [hlog]), hcode, hp, hq⟩

/-! Steps. -/

/-- What an alarm does when a step passes it (R306). -/
def Dev.alarmPass (old : Rat) (d : Int) (s : Dev) (a : Nat) : Dev :=
  if s.bit (NET_ALARM_CTL a) 0 && decide (old < (s.alarmNs a : Rat) ∧ (s.alarmNs a : Rat) ≤ old + d) then s.alarmGo a false true
  else s

/-- An alarm that waits at a step. -/
def AlarmWaits (s d : Dev) (a : Nat) : Prop := d.bit (NET_ALARM_CTL a) 0 = true ∧ d.alarmNs a = s.alarmNs a

/-- An alarm that a step has passed (R306). -/
def AlarmPassed (d : Dev) (a : Nat) : Prop :=
  d.bit (NET_ALARM_CTL a) 0 = false ∧ d.bit (NET_ALARM_CTL a) 1 = true ∧ d.bit (NET_ALARM_CTL a) 3 = true

theorem alarmGo_reg (s : Dev) (a : Nat) (late stepped : Bool) (x : Nat) (hx : x ≠ NET_ALARM_CTL a) (hlt : x < 0x3C0000) :
    (s.alarmGo a late stepped).rd x = s.rd x := by
  have hpend : x ≠ HOST_EVT_PEND ((0x41 + a) / 32) := by simp only [HOST_EVT_PEND]; omega
  dsimp only [Dev.alarmGo]
  split <;> simp [hx, hpend]

theorem alarmGo_passed (s : Dev) {a : Nat} (_ha : a < 4) : AlarmPassed (s.alarmGo a false true) a := by
  have hpend : NET_ALARM_CTL a ≠ HOST_EVT_PEND ((0x41 + a) / 32) := by simp only [NET_ALARM_CTL, HOST_EVT_PEND]; omega
  unfold AlarmPassed
  simp (disch := first | decide | exact hpend) [Dev.alarmGo]

theorem alarmPass_reg (old : Rat) (d : Int) (s : Dev) (a x : Nat) (hx : x ≠ NET_ALARM_CTL a) (hlt : x < 0x3C0000) :
    (Dev.alarmPass old d s a).rd x = s.rd x := by
  unfold Dev.alarmPass
  split
  · exact alarmGo_reg s a false true x hx hlt
  · rfl

/-- An alarm's pass touches no other alarm, and one that has passed stays so. -/
theorem alarmPass_keeps (old : Rat) (d : Int) (s e : Dev) {a b : Nat} (ha : a < 4) (_hb : b < 4) :
    (b ≠ a → AlarmWaits s e a → AlarmWaits s (Dev.alarmPass old d e b) a) ∧
      (AlarmPassed e a → AlarmPassed (Dev.alarmPass old d e b) a) := by
  have hreg : ∀ n, n ≤ 8 → b ≠ a → (Dev.alarmPass old d e b).rd (0x240180 + 0x10 * a + n) = e.rd (0x240180 + 0x10 * a + n) :=
    fun n hn hne => alarmPass_reg old d e b _ (by simp only [NET_ALARM_CTL]; omega) (by omega)
  have hctl : b ≠ a → (Dev.alarmPass old d e b).rd (NET_ALARM_CTL a) = e.rd (NET_ALARM_CTL a) := fun hne => by
    have h := hreg 8 (by decide) hne
    rwa [show 0x240180 + 0x10 * a + 8 = NET_ALARM_CTL a by simp only [NET_ALARM_CTL]; omega] at h
  refine ⟨fun hne ⟨hbit, hns⟩ => ⟨(bit_of_rd _ _ _ _ (hctl hne)).trans hbit, ?_⟩, fun ⟨h0, h1, h3⟩ => ?_⟩
  · have hera := hreg 4 (by decide) hne
    rw [show 0x240180 + 0x10 * a + 4 = NET_ALARM_ERA a by simp only [NET_ALARM_ERA]; omega] at hera
    have hsec : (Dev.alarmPass old d e b).rd (NET_ALARM_NS a) = e.rd (NET_ALARM_NS a) := hreg 0 (by decide) hne
    rw [← hns, Dev.alarmNs, Dev.alarmNs, hera, hsec]
  · by_cases hne : b = a
    · subst hne
      rw [Dev.alarmPass, h0, Bool.false_and, if_neg (by decide)]
      exact ⟨h0, h1, h3⟩
    · exact ⟨(bit_of_rd _ _ _ _ (hctl hne)).trans h0, (bit_of_rd _ _ _ _ (hctl hne)).trans h1, (bit_of_rd _ _ _ _ (hctl hne)).trans h3⟩

/-- A waiting alarm that the step passes has fired once all have been looked at. -/
theorem alarmPass_each (old : Rat) (d : Int) (s e : Dev) {a : Nat} (ha : a < 4) (hwait : AlarmWaits s e a)
    (hpast : old < (s.alarmNs a : Rat) ∧ (s.alarmNs a : Rat) ≤ old + d) :
    AlarmPassed (e.each (List.range 4) (Dev.alarmPass old d)) a := by
  have hone : ∀ x, AlarmWaits s x a → AlarmPassed (Dev.alarmPass old d x a) a := fun x ⟨hbit, hns⟩ => by
    rw [Dev.alarmPass, hbit, hns, Bool.true_and, if_pos (decide_eq_true hpast)]
    exact alarmGo_passed x ha
  have hany : ∀ b, b < 4 → ∀ x, AlarmWaits s x a ∨ AlarmPassed x a →
      AlarmWaits s (Dev.alarmPass old d x b) a ∨ AlarmPassed (Dev.alarmPass old d x b) a := fun b hb x hx => by
    rcases hx with hx | hx
    · by_cases hne : b = a
      · subst hne
        exact .inr (hone x hx)
      · exact .inl ((alarmPass_keeps old d s x ha hb).1 hne hx)
    · exact .inr ((alarmPass_keeps old d s x ha hb).2 hx)
  obtain ⟨before, after, hsplit⟩ := List.append_of_mem (List.mem_range.2 ha)
  have hlt : ∀ b, b ∈ before ∨ b ∈ after → b < 4 := fun b hb => List.mem_range.1 (by rw [hsplit]; simp; tauto)
  rw [Dev.each, hsplit, List.foldl_append, List.foldl_cons]
  have hbefore := List.foldlRecOn (motive := fun x => AlarmWaits s x a ∨ AlarmPassed x a) before (Dev.alarmPass old d) (.inl hwait)
    fun x hx b hb => hany b (hlt b (.inl hb)) x hx
  refine List.foldlRecOn (motive := fun x => AlarmPassed x a) after (Dev.alarmPass old d) ?_
    fun x hx b hb => (alarmPass_keeps old d s x ha (hlt b (.inr hb))).2 hx
  rcases hbefore with h | h
  · exact hone _ h
  · exact (alarmPass_keeps old d s _ ha ha).2 h

/-- Nothing but registers and pending sources moves with the alarms. -/
theorem alarmPass_kept (old : Rat) (d : Int) (s : Dev) (a : Nat) : (Dev.alarmPass old d s a).clk = s.clk ∧
    (Dev.alarmPass old d s a).gnss = s.gnss ∧ (Dev.alarmPass old d s a).log = s.log := by
  unfold Dev.alarmPass Dev.alarmGo
  split <;> simp

/-- A step of local time up to its alarms (R218). -/
def Dev.stepShift (s : Dev) (d : Int) (code : Nat) : Dev :=
  { s.shiftLocal d with clk.stepPending := none, clk.stepped := true }.evI code 0 d

theorem timeStep_eq {s : Dev} {d : Int} {code : Nat} (h : s.clk.stepPending = some (d, code)) :
    s.timeStep = (s.stepShift d code).each (List.range 4) (Dev.alarmPass s.clk.localNs d) := by
  unfold Dev.timeStep
  rw [h]
  rfl

/-- A step at a whole second (R218, R296, R306). -/
theorem localTimeStep_answers {s : State} {d : Int} {code : Nat} (hstep : s.clk.stepPending = some (d, code)) :
    Answers .localTimeStep s fun t =>
        t.clk.localNs = s.clk.localNs + d ∧ t.clk.cycleNs = s.clk.cycleNs + d ∧ t.clk.stepPending = none ∧
        t.clk.stepped = true ∧ t.gnss.lastValid = s.gnss.lastValid.map (· + (d : Rat)) ∧ OneEvent s t code 0#32 (clamp32 d) ∧
        ∀ a, a < 4 → s.bit (NET_ALARM_CTL a) 0 = true →
          s.clk.localNs < (s.alarmNs a : Rat) → (s.alarmNs a : Rat) ≤ s.clk.localNs + d →
          t.bit (NET_ALARM_CTL a) 0 = false ∧ t.bit (NET_ALARM_CTL a) 1 = true ∧ t.bit (NET_ALARM_CTL a) 3 = true := by
  refine answers_of_done (congrArg (done s) (timeStep_eq hstep)) ?_
  have hclk := each_keeps Dev.clk _ (fun e a => (alarmPass_kept s.clk.localNs d e a).1) (List.range 4) (s.toDev.stepShift d code)
  have hgnss := each_keeps Dev.gnss _ (fun e a => (alarmPass_kept s.clk.localNs d e a).2.1) (List.range 4) (s.toDev.stepShift d code)
  have hlog := each_keeps Dev.log _ (fun e a => (alarmPass_kept s.clk.localNs d e a).2.2) (List.range 4) (s.toDev.stepShift d code)
  have hpass := fun a ha hwait hpast => alarmPass_each s.clk.localNs d s.toDev (s.toDev.stepShift d code) (a := a) ha hwait hpast
  generalize (s.toDev.stepShift d code).each (List.range 4) (Dev.alarmPass s.clk.localNs d) = e at hclk hgnss hlog hpass
  have hclk' : e.settle.clk = { s.clk with localNs := s.clk.localNs + d, cycleNs := s.clk.cycleNs + d, stepPending := none, stepped := true } :=
    (settle_clk e).trans hclk
  refine ⟨congrArg ClkSt.localNs hclk', congrArg ClkSt.cycleNs hclk', congrArg ClkSt.stepPending hclk', congrArg ClkSt.stepped hclk',
    congrArg GnssSt.lastValid ((settle_gnss e).trans hgnss), oneEvent_after ⟨_, congrArg LogSt.raised hlog, rfl, rfl, rfl⟩,
    fun a ha hbit hlt hle => ?_⟩
  obtain ⟨h0, h1, h3⟩ := hpass a ha ⟨hbit, rfl⟩ ⟨hlt, hle⟩
  have hout : NET_ALARM_CTL a ≠ SAFE_OUT_STAT := by simp only [NET_ALARM_CTL, SAFE_OUT_STAT]; omega
  have hstat : NET_ALARM_CTL a ≠ SAFE_STAT := by simp only [NET_ALARM_CTL, SAFE_STAT]; omega
  exact ⟨(settle_bit _ _ _ hout hstat).trans h0, (settle_bit _ _ _ hout hstat).trans h1, (settle_bit _ _ _ hout hstat).trans h3⟩

/-- Settles O23: the setting by its source, and the step with the alarms that it passes. -/
theorem localTimeMoves : Obligations.LocalTimeMoves := by
  unfold Obligations.LocalTimeMoves
  refine fun s => ⟨fun bias drift hset => ⟨localTimeSet_first hset, localTimeSet_ptp hset⟩, fun h => ?_,
    fun d code h => localTimeStep_answers h, fun h => ?_⟩
  · refine noEffect_of_done rfl ?_
    unfold Dev.timeSet
    rw [h]
  · refine noEffect_of_done rfl ?_
    unfold Dev.timeStep
    rw [h]

end Sys2Proof.Machine
end

section
/-! Holdover, the end of a return slew, and leap seconds (R216 to R218, R221, R223). -/

namespace Sys2Proof.Machine

/-! Holdover. -/

theorem holdover_enters {s : Dev} (hst : s.tstate = 1) (hfix : s.fixlessCycles.all (fun n => decide (50 < n)) = true) :
    s.holdover = ({ (s.setFld GNSS_STAT 2 0 2).raise 0x48 with gnss := { s.gnss with retCnt := 0, warned := false } } : Dev).ev
      0x0702 0 s.gnss.u0 := by
  have hset : s.setTstate 2 = (s.setFld GNSS_STAT 2 0 2).raise 0x48 := if_neg (by rw [hst]; decide)
  unfold Dev.holdover
  rw [if_pos ⟨hst, hfix⟩, hset]
  simp only [raise_gnss, setFld_gnss]

theorem holdoverEntry_answers {s : State} (hst : s.tstate = 1) (hfix : s.fixlessCycles.all (fun n => decide (50 < n)) = true) :
    Answers .holdoverEntry s fun t => t.tstate = 2 ∧
        t.gnss = { s.gnss with retCnt := 0, warned := false } ∧
        t.bit (HOST_EVT_PEND 2) 8 = true ∧ OneEvent s t 0x0702 0#32 (BitVec.ofNat 32 s.gnss.u0) ∧
        Framed [GNSS_STAT, HOST_EVT_PEND 2] s t { blocks s.toDev with gnss := t.gnss } := by
  have hframe := (((Effect.refl [GNSS_STAT, HOST_EVT_PEND 2] s.toDev).setFld (a := GNSS_STAT) (by simp) 2 0 2).raise (n := 0x48) (by simp)).gnss
    { s.gnss with retCnt := 0, warned := false }
  refine answers_of_done (congrArg (done s) (holdover_enters hst hfix)) ⟨?_, settle_gnss _, ?_, oneEvent_ev rfl (by simp), ?_⟩
  · refine (tstate_settle _).trans ((ev_fld _ _ _ _ _ _ _).trans ?_)
    exact (fld_raise_other (s.setFld GNSS_STAT 2 0 2) 0x48 GNSS_STAT 2 0 (by decide)).trans
      (fld_setFld_same _ _ _ _ _ (by decide) (by decide))
  · refine (settle_bit _ _ _ (by decide) (by decide)).trans ((ev_bit _ _ _ _ _ _).trans ?_)
    exact bit_raise_same (s.setFld GNSS_STAT 2 0 2) 0x48
  · exact (hframe.ev _ _ _).framed_gnss

theorem holdWarnExceeded_answers {s : State} (hst : s.tstate = 2 ∨ s.tstate = 3) (hwarned : s.gnss.warned = false)
    (hover : 1000 * s.gnss.set.warn.toNat < (s.rd GNSS_TERR).toNat) :
    Answers .holdWarnExceeded s fun t => t.gnss = { s.gnss with warned := true } ∧
      OneEvent s t 0x070A 0#32 (BitVec.ofNat 32 ((s.rd GNSS_TERR).toNat / 1000)) ∧
      Framed [] s t { blocks s.toDev with gnss := t.gnss } := by
  have hdone : s.toDev.holdWarn = ({ s.toDev with gnss := { s.gnss with warned := true } } : Dev).ev 0x070A 0
      ((s.rd GNSS_TERR).toNat / 1000) := if_pos ⟨hst, by rw [hwarned]; rfl, hover⟩
  refine answers_of_done (congrArg (done s) hdone) ⟨settle_gnss _, oneEvent_ev rfl rfl,
    (((Effect.refl [] s.toDev).gnss _).ev _ _ _).framed_gnss⟩

/-! The return slew. -/

/-- The end of a slew as one device (R218). -/
theorem slewDone_ends {s : Dev} (hslew : s.bit GNSS_STAT 4 = true) (hfree : s.clockFrozen = false) (hrest : slewNs s.clk.phaseRem < 375000) :
    s.slewDone = ({ (s.setBit GNSS_STAT 4 false) with
      clk := { s.clk with localNs := s.clk.localNs - s.clk.phaseRem, phaseRem := 0, slewRun := 0 } }.ev 0x0705 0
        ((s.clk.slewRun + slewNs s.clk.phaseRem) / 1000000000).floor.toNat).showClock := by
  unfold Dev.slewDone
  dsimp only
  rw [if_pos ⟨hslew, by rw [hfree]; rfl, hrest⟩]
  rfl

theorem showClock_rem (s : Dev) : s.showClock.rd GNSS_PHASE_REM = clamp32 (roundRat s.clk.phaseRem) := by
  rw [Dev.showClock, rd_wr_ne _ _ _ _ (by decide), rd_wr_same]

theorem showClock_effect {l : List Nat} {s d b : Dev} (h : Effect l s d b) (hrem : GNSS_PHASE_REM ∈ l) (hfreq : GNSS_FREQ_CORR ∈ l) :
    Effect l s d.showClock b :=
  (h.wr hrem _).wr hfreq _

theorem clamp32_zero : clamp32 (roundRat 0) = 0#32 := by
  simp [roundRat, divRound, clamp32, clampInt]

theorem slewComplete_answers {s : State} (hslew : s.bit GNSS_STAT 4 = true) (hfree : s.clockFrozen = false)
    (hrest : slewNs s.clk.phaseRem < 375000) :
    Answers .slewComplete s fun t =>
        t.clk.localNs = s.clk.localNs - s.clk.phaseRem ∧ t.clk.phaseRem = 0 ∧ t.clk.slewRun = 0 ∧ t.bit GNSS_STAT 4 = false ∧
        t.rd GNSS_PHASE_REM = 0#32 ∧ OneEvent s t 0x0705 0#32
          (BitVec.ofNat 32 ((s.clk.slewRun + slewNs s.clk.phaseRem) / 1000000000).floor.toNat) ∧
        Framed [GNSS_STAT, GNSS_PHASE_REM, GNSS_FREQ_CORR] s t { blocks s.toDev with clk := t.clk } := by
  refine answers_of_done (congrArg (done s) (slewDone_ends hslew hfree hrest)) ?_
  have hframe := ((((Effect.refl [GNSS_STAT, GNSS_PHASE_REM, GNSS_FREQ_CORR] s.toDev).setBit (a := GNSS_STAT) (by simp) 4 false).clk
    { s.clk with localNs := s.clk.localNs - s.clk.phaseRem, phaseRem := 0, slewRun := 0 }).ev 0x0705 0
      ((s.clk.slewRun + slewNs s.clk.phaseRem) / 1000000000).floor.toNat)
  have hshow := showClock_effect hframe (by simp) (by simp)
  have hclk := (settle_clk _).trans hshow.clk_eq
  refine ⟨congrArg ClkSt.localNs hclk, congrArg ClkSt.phaseRem hclk, congrArg ClkSt.slewRun hclk, ?_, ?_, oneEvent_ev rfl (by simp), ?_⟩
  · refine (settle_bit _ _ _ (by decide) (by decide)).trans ?_
    simp (disch := decide) [Dev.showClock]
  · refine (settle_rd _ _ (by decide) (by decide)).trans ((showClock_rem _).trans ?_)
    exact clamp32_zero
  · exact hshow.framed_clk

/-! Leap seconds. -/

theorem navigationData_answers (ofs : Byte) (leapAt : Option (BitVec 48)) (s : State) :
    Answers (.navigationDataDecoded ofs leapAt) s fun t =>
      t.gnss = { s.gnss with utcOfs := ofs.toNat, leapAt := leapAt.map BitVec.toNat } ∧
        t.bit GNSS_STAT 6 = leapAt.isSome ∧ Framed [GNSS_STAT] s t { blocks s.toDev with gnss := t.gnss } ∧ NoEvent s t := by
  have hgnss : (s.toDev.navData ofs.toNat (leapAt.map BitVec.toNat)).gnss =
      { s.gnss with utcOfs := ofs.toNat, leapAt := leapAt.map BitVec.toNat } := by simp [Dev.navData]
  refine answers_of_done rfl ⟨(settle_gnss _).trans hgnss, ?_, ?_, noEvent_after (by simp [Dev.navData])⟩
  · refine (settle_bit _ _ _ (by decide) (by decide)).trans ((bit_setBit_same _ _ _ _ (by decide)).trans ?_)
    cases leapAt <;> rfl
  · exact (((Effect.refl [GNSS_STAT] s.toDev).gnss _).setBit (by simp) _ _).framed_gnss

theorem leapSecond_answers {s : State} (hleap : s.bit GNSS_STAT 6 = true) :
    Answers .leapSecond s fun t => t.gnss = { s.gnss with utcOfs := (s.gnss.utcOfs + 1) % 256 } ∧
        t.bit GNSS_STAT 6 = false ∧ OneEvent s t 0x0708 0#32 (BitVec.ofNat 32 ((s.gnss.utcOfs + 1) % 256)) ∧
        Framed [GNSS_STAT] s t { blocks s.toDev with gnss := t.gnss } := by
  have hdone : s.toDev.leap = (({ s.toDev with gnss := { s.gnss with utcOfs := (s.gnss.utcOfs + 1) % 256 } } : Dev).setBit GNSS_STAT 6
      false).ev 0x0708 0 ((s.gnss.utcOfs + 1) % 256) := if_pos hleap
  refine answers_of_done (congrArg (done s) hdone) ⟨(settle_gnss _).trans (by simp), ?_, oneEvent_ev rfl (by simp), ?_⟩
  · exact (settle_bit _ _ _ (by decide) (by decide)).trans ((ev_bit _ _ _ _ _ _).trans (bit_setBit_same _ _ _ _ (by decide)))
  · exact ((((Effect.refl [GNSS_STAT] s.toDev).gnss _).setBit (by simp) _ _).ev _ _ _).framed_gnss

/-- Settles O24: each event of the clock's discipline, under its own condition. -/
theorem clockDiscipline : Obligations.ClockDiscipline := by
  unfold Obligations.ClockDiscipline
  refine ⟨fun s => ⟨holdoverEntry_answers, fun h => ?_, holdWarnExceeded_answers, fun h => ?_⟩, fun ofs leapAt s =>
    ⟨slewComplete_answers, fun h => ?_, navigationData_answers ofs leapAt s, leapSecond_answers, fun h => ?_⟩⟩
  · refine noEffect_of_done rfl (if_neg fun ⟨hst, hfix⟩ => ?_)
    rcases h with h | h
    · exact h hst
    · exact absurd hfix (by rw [h]; decide)
  · refine noEffect_of_done rfl (if_neg fun ⟨_, hw, hover⟩ => ?_)
    rcases h with h | h
    · rw [h] at hw
      exact absurd hw (by decide)
    · omega
  · refine noEffect_of_done rfl (if_neg fun ⟨hslew, hfree, hrest⟩ => ?_)
    rcases h with h | h | h
    · exact absurd hslew (by rw [h]; decide)
    · rw [h] at hfree
      exact absurd hfree (by decide)
    · exact absurd hrest (not_lt_of_ge h)
  · exact noEffect_of_done rfl (if_neg (by rw [h]; decide))

end Sys2Proof.Machine
end

section
/-! Reports to the host and frames of the device's own: what each leaves, said once (R281, R285, R288, R445 to R449). -/

namespace Sys2Proof.Machine

theorem leBytes_length (n v : Nat) : (leBytes n v).length = n := by
  induction n generalizing v with
  | zero => rfl
  | succ n ih => exact congrArg (· + 1) (ih _)

theorem sBytes_length (n : Nat) (x : Int) : (sBytes n x).length = n := leBytes_length _ _

/-! Reports. -/

/-- The registers of HOST that a report to a ring writes (R449, R451, R453). -/
def reportRegs (p : Nat) : List Nat :=
  [HOST_LIVE p 0, HOST_LIVE p 1, HOST_LIVE p 3, HOST_REP_PTR p, HOST_EVT_PEND (p / 32), HOST_EVT_PEND 4]

theorem reportHeader_length (s : Dev) (p cls content slots : Nat) : (s.reportHeader p cls content slots).length = 32 := by
  simp [Dev.reportHeader, leBytes_length]

/-- A report's count before it is formed (R453). -/
def Dev.reportCount (s : Dev) (p : Nat) : Dev :=
  (s.cntWrap (HOST_LIVE p 0) 31 0 1).setPair p fun x => { x with repSeq := (x.repSeq + 1) % 2 ^ 32 }

/-- A report that its ring takes (R445, R448). -/
def Dev.reportPut (s : Dev) (p cls content : Nat) (body : List Byte) : Dev :=
  let slots := body.length / 32
  let h := s.reportHeader p cls content slots
  let s := { s.spend with host.out := (p, h ++ body) :: s.host.out }
  let s := s.setFld (HOST_REP_PTR p) 31 16 (s.ringTail (HOST_REP_PTR p) + 1 + slots)
  let s := (s.cntWrap (HOST_LIVE p 1) 31 0 1).setPair p fun x => { x with lastSeq := x.repSeq, dropped := 0 }
  (s.writeback p).raise p

/-- A report that finds no room (R449). -/
def Dev.reportDrop (s : Dev) (p : Nat) : Dev :=
  let s := (s.cntWrap (HOST_LIVE p 3) 31 0 1).raise 0x80
  let first := (s.pair p).dropped == 0
  let s := s.setPair p fun x => { x with dropped := x.dropped + 1 }
  if first then s.evW 0x1101 (BitVec.ofNat 32 p) (s.rd (HOST_LIVE p 3)) else s

theorem reportCount_reg (s : Dev) (p a : Nat) (h : a ≠ HOST_LIVE p 0) : (s.reportCount p).rd a = s.rd a := by
  simp [Dev.reportCount, h]

theorem repFits_of_regs {s d : Dev} {p : Nat} (h : ∀ a, a = HOST_PAIR_STAT p ∨ a = HOST_REP_PTR p ∨ a = HOST_REP_CFG p → d.rd a = s.rd a)
    (n : Nat) : d.repFits p n = s.repFits p n := by
  have hstat := h _ (.inl rfl)
  have hptr := h _ (.inr (.inl rfl))
  unfold Dev.repFits Dev.repRun Dev.ringCount Dev.ringTail Dev.ringHead
  rw [bit_of_rd _ _ _ _ hstat, fld_of_rd _ _ _ _ _ hptr, fld_of_rd _ _ _ _ _ hptr, h _ (.inr (.inr rfl))]

theorem reportCount_fits (s : Dev) {p : Nat} (hp : p < 16) (n : Nat) : (s.reportCount p).repFits p n = s.repFits p n :=
  repFits_of_regs (fun a ha => reportCount_reg s p a (by
    rcases ha with rfl | rfl | rfl <;>
    · simp only [HOST_PAIR_STAT, HOST_REP_PTR, HOST_REP_CFG, pairWin, HOST_LIVE]
      omega)) n

theorem report_eq (s : Dev) {p : Nat} (hp : p < 16) (cls content : Nat) (body : List Byte) : s.report p cls content body =
    if s.repFits p ((padSlots body).length / 32) then (s.reportCount p).reportPut p cls content (padSlots body)
    else (s.reportCount p).reportDrop p := by
  rw [← reportCount_fits s hp]
  rfl

theorem Effect.setPair {l : List Nat} {s d b : Dev} {h : HostSt} (he : Effect l s d { b with host := h }) (p : Nat) (f : PairSt → PairSt) :
    ∃ h, Effect l s (d.setPair p f) { b with host := h } :=
  ⟨_, he.host _⟩

/-- A report writes its ring's registers, and moves nothing but HOST (R446, R449). -/
theorem report_effect {l : List Nat} {s d b : Dev} {h : HostSt} (he : Effect l s d { b with host := h }) {p : Nat} (hp : p < 16)
    (hl : reportRegs p ⊆ l) (cls content : Nat) (body : List Byte) :
    ∃ h, Effect l s (d.report p cls content body) { b with host := h } := by
  have hmem : ∀ a, a ∈ reportRegs p → a ∈ l := fun a ha => hl ha
  obtain ⟨_, hcount⟩ := (he.cntWrap (hmem (HOST_LIVE p 0) (by simp [reportRegs])) 31 0 1).setPair p
    fun x => { x with repSeq := (x.repSeq + 1) % 2 ^ 32 }
  rw [report_eq d hp]
  split
  · obtain ⟨_, hput⟩ := (((hcount.spend.host _).setFld (hmem (HOST_REP_PTR p) (by simp [reportRegs])) 31 16 _).cntWrap
      (hmem (HOST_LIVE p 1) (by simp [reportRegs])) 31 0 1).setPair p fun x => { x with lastSeq := x.repSeq, dropped := 0 }
    obtain ⟨_, hwb⟩ := hput.spend.setPair p fun x => { x with wb := _ }
    exact ⟨_, hwb.raise (n := p) (hmem _ (by simp [reportRegs]))⟩
  · obtain ⟨_, hdrop⟩ := ((hcount.cntWrap (hmem (HOST_LIVE p 3) (by simp [reportRegs])) 31 0 1).raise (n := 0x80)
      (hmem _ (by simp [reportRegs]))).setPair p fun x => { x with dropped := x.dropped + 1 }
    dsimp only [Dev.reportDrop]
    split
    · exact ⟨_, hdrop.evW _ _ _⟩
    · exact ⟨_, hdrop⟩

/-- What a report shows where its ring takes it, and where not (R445, R449). -/
theorem report_shows (s : Dev) {p : Nat} (hp : p < 16) (cls content : Nat) (body : List Byte) :
    (s.repFits p ((padSlots body).length / 32) = true →
      (∃ h, h.length = 32 ∧ (s.report p cls content body).host.out = (p, h ++ padSlots body) :: s.host.out) ∧
        (s.report p cls content body).fld (HOST_REP_PTR p) 31 16 =
          (s.fld (HOST_REP_PTR p) 31 16 + 1 + (padSlots body).length / 32) % 65536) ∧
    (s.repFits p ((padSlots body).length / 32) = false → (s.report p cls content body).host.out = s.host.out ∧
      (s.report p cls content body).fld (HOST_LIVE p 3) 31 0 = (s.fld (HOST_LIVE p 3) 31 0 + 1) % 2 ^ 32) := by
  rw [report_eq s hp]
  constructor <;> intro hfit
  · rw [if_pos hfit]
    refine ⟨⟨_, reportHeader_length (s.reportCount p) p cls content ((padSlots body).length / 32), ?_⟩, ?_⟩
    · simp [Dev.reportPut, Dev.writeback, Dev.setPair, Dev.reportCount]
    · simp (disch := omega) [Dev.reportPut, Dev.writeback, Dev.reportCount, Dev.ringTail, HOST_LIVE, HOST_REP_PTR, pairWin]
  · rw [if_neg (by rw [hfit]; decide)]
    refine ⟨?_, ?_⟩
    · dsimp only [Dev.reportDrop]
      split <;> simp [Dev.setPair, Dev.reportCount]
    · dsimp only [Dev.reportDrop]
      split <;> simp (disch := omega) [Dev.reportCount, HOST_LIVE, fld_cntWrap_same]

/-- A report as the settled device shows it, after operations that leave its ring (R445, R449). -/
theorem reported_after {s : State} {d : Dev} {p : Nat} (hp : p < 16) (cls content : Nat) (body : List Byte)
    (hhost : d.host = (s.toDev.report p cls content body).host)
    (hreg : ∀ a, a = HOST_REP_PTR p ∨ a = HOST_LIVE p 3 → d.rd a = (s.toDev.report p cls content body).rd a) :
    Reported s (s.after d) p body := by
  obtain ⟨hfits, hfull⟩ := report_shows s.toDev hp cls content body
  have hout : (s.after d).host.out = (s.toDev.report p cls content body).host.out := (congrArg HostSt.out (settle_host d)).trans (by rw [hhost])
  have hptr : (s.after d).fld (HOST_REP_PTR p) 31 16 = (s.toDev.report p cls content body).fld (HOST_REP_PTR p) 31 16 :=
    (settle_fld _ _ _ _ (by simp only [HOST_REP_PTR, pairWin, SAFE_OUT_STAT]; omega)
      (by simp only [HOST_REP_PTR, pairWin, SAFE_STAT]; omega)).trans (fld_of_rd _ _ _ _ _ (hreg _ (.inl rfl)))
  have hlive : (s.after d).fld (HOST_LIVE p 3) 31 0 = (s.toDev.report p cls content body).fld (HOST_LIVE p 3) 31 0 :=
    (settle_fld _ _ _ _ (by simp only [HOST_LIVE, SAFE_OUT_STAT]; omega)
      (by simp only [HOST_LIVE, SAFE_STAT]; omega)).trans (fld_of_rd _ _ _ _ _ (hreg _ (.inr rfl)))
  unfold Reported
  dsimp only
  rw [hout, hptr, hlive]
  exact ⟨hfits, hfull⟩

theorem routed_lt {s : Dev} {cls p : Nat} (h : s.routed cls = some p) : p < 16 := by
  simp only [Dev.routed, Option.ite_none_right_eq_some, Option.some.injEq] at h
  obtain ⟨-, rfl⟩ := h
  exact Nat.mod_lt _ (by decide)

/-- A routed report, or none, moves nothing but HOST. -/
theorem reportRouted_effect (s : Dev) (cls content : Nat) (body : List Byte) :
    ∃ l h, (∀ a, a < 0x3C0000 → a ∉ l) ∧ Effect l s (s.reportRouted cls content body) { blocks s with host := h } := by
  unfold Dev.reportRouted
  split
  · exact ⟨[], s.host, fun _ _ => List.not_mem_nil, Effect.refl [] s⟩
  · next p hp =>
    obtain ⟨h, heff⟩ := report_effect (b := blocks s) (h := s.host) (Effect.refl (reportRegs p) s) (routed_lt hp) (List.Subset.refl _) cls
      content body
    refine ⟨_, h, fun a ha => ?_, heff⟩
    simp only [reportRegs, HOST_LIVE, HOST_REP_PTR, pairWin, HOST_EVT_PEND, List.mem_cons, List.not_mem_nil, or_false]
    omega

/-! Frames of the device's own. -/

theorem port_setPort (s : Dev) (b c : Bool) (f : NetPort → NetPort) :
    (s.setPort b f).port c = if c = b then f (s.port b) else s.port c := by
  cases b <;> cases c <;> rfl

theorem port_of_net {s d : Dev} (h : d.net = s.net) (b : Bool) : d.port b = s.port b := by
  rw [Dev.port, Dev.port, h]

theorem buffered_of_net {s d : Dev} (h : d.net = s.net) (b : Bool) : d.buffered b = s.buffered b := by
  rw [Dev.buffered, Dev.buffered, port_of_net h]

/-- A frame that finds room at a port whose link is up comes last there; the other port, the sequence number and the registers that
decide on room stay (R281, R288). -/
theorem egressPut_takes {s : Dev} {b : Bool} {t : NetTx} (hlink : s.linkUp b = true) (hmode : s.netMode ≠ 0)
    (hroom : s.buffered b + t.frame.len ≤ 262144) : s.egressPut b t = s.setPort b fun p => { p with egress := p.egress ++ [t] } := by
  unfold Dev.egressPut
  rw [if_neg (by rw [hlink]; simp [hmode]), if_neg (by simp [Dev.egressRoom, hroom])]

/-- A frame offered to one port leaves the other, and no register but the count of drops. -/
theorem egressPut_leaves (s : Dev) (b : Bool) (t : NetTx) :
    (∀ c, c ≠ b → (s.egressPut b t).port c = s.port c) ∧ (∀ a, a ≠ NET_DROP_CNT → (s.egressPut b t).rd a = s.rd a) ∧
      (s.egressPut b t).net.seq = s.net.seq ∧ (s.egressPut b t).net.cfg = s.net.cfg := by
  unfold Dev.egressPut
  split
  · exact ⟨fun _ _ => rfl, fun _ _ => rfl, rfl, rfl⟩
  split
  · refine ⟨fun c _ => port_of_net (by simp) c, fun a ha => ?_, by simp, by simp⟩
    simp [ha]
  · refine ⟨fun c hc => ?_, fun a _ => ?_, ?_, ?_⟩
    · rw [port_setPort, if_neg hc]
    · simp
    · cases b <;> rfl
    · cases b <;> rfl

theorem egressPut_effect {l : List Nat} {s d b : Dev} {n : NetSt} (h : Effect l s d { b with net := n }) (hl : NET_DROP_CNT ∈ l) (p : Bool)
    (t : NetTx) : ∃ n, Effect l s (d.egressPut p t) { b with net := n } := by
  unfold Dev.egressPut
  split
  · exact ⟨_, h⟩
  split
  · exact ⟨_, (h.cntSat hl _ _ _).evW _ _ _⟩
  · cases p
    · exact ⟨_, h.net _⟩
    · exact ⟨_, h.net _⟩

/-- Originated frames move nothing but NET (R285). -/
theorem originate_effect {l : List Nat} {s d b : Dev} {n : NetSt} (h : Effect l s d { b with net := n }) (hl : NET_DROP_CNT ∈ l)
    (dst : BitVec 48) (etype : BitVec 16) (ctrl : Bool) (udp : Nat) (ip : Word) (payload : List Byte) :
    ∃ n, Effect l s (d.originate dst etype ctrl udp ip payload) { b with net := n } := by
  unfold Dev.originate
  dsimp only
  obtain ⟨_, ha⟩ := egressPut_effect h hl false _
  obtain ⟨_, hb⟩ := egressPut_effect ha hl true _
  exact ⟨_, hb.net _⟩

theorem originate_seq (s : Dev) (dst : BitVec 48) (etype : BitVec 16) (ctrl : Bool) (udp : Nat) (ip : Word) (payload : List Byte) :
    (s.originate dst etype ctrl udp ip payload).net.seq = (s.net.seq + 1) % 65536 := by
  unfold Dev.originate
  dsimp only
  rw [(egressPut_leaves _ _ _).2.2.1, (egressPut_leaves _ _ _).2.2.1]

/-- The frame that an origination puts at a port (R285, R290). -/
def Dev.ownFrame (s : Dev) (dst : BitVec 48) (etype : BitVec 16) (ctrl : Bool) (udp : Nat) (ip : Word) (payload : List Byte) (b : Bool) :
    NetFrame :=
  let v := (s.rd NET_VLAN).toNat
  let tag := bitOf v 12
  let head := 14 + (if tag then 4 else 0) + (if s.netMode = 2 ∨ s.netMode = 3 then 6 else 0)
    + (if etype = 0x0800 then 28 else 0) + 4
  { dst := dst, src := s.ownMac, seq := BitVec.ofNat 16 s.net.seq, etype := etype,
    pcp := BitVec.ofNat 3 (if ctrl then bitsOf v 15 13 else bitsOf v 18 16), tagged := tag,
    len := max 64 (head + payload.length), fcsOk := true, lanB := b, udpPort := udp, dstIp := ip, payload := payload }

/-- Two frames offered to the ports, the first to port A. -/
theorem egressPut_both {s : Dev} {b : Bool} (tx : Bool → NetTx) (hlink : s.linkUp b = true) (hmode : s.netMode ≠ 0)
    (hroom : s.buffered b + (tx b).frame.len ≤ 262144) :
    (((s.egressPut false (tx false)).egressPut true (tx true)).port b).egress = (s.port b).egress ++ [tx b] := by
  cases b with
  | false => rw [(egressPut_leaves _ true _).1 false (by decide), egressPut_takes hlink hmode hroom, port_setPort, if_pos rfl]
  | true =>
    obtain ⟨hport, hreg, -, hcfg⟩ := egressPut_leaves s false (tx false)
    have hlink' : (s.egressPut false (tx false)).linkUp true = true := (bit_of_rd _ _ NET_STAT 1 (hreg NET_STAT (by decide))).trans hlink
    rw [egressPut_takes hlink', port_setPort, if_pos rfl, hport true (by decide)]
    · rwa [Dev.netMode, hcfg]
    · rwa [Dev.buffered, hport true (by decide)]

/-- Octets that an own frame adds to its payload at most (R285, R290). -/
def ownHead (etype : BitVec 16) : Nat := if etype = 0x0800 then 56 else 28

theorem ownFrame_len (s : Dev) (dst : BitVec 48) (etype : BitVec 16) (ctrl : Bool) (udp : Nat) (ip : Word) (payload : List Byte) (b : Bool) :
    (s.ownFrame dst etype ctrl udp ip payload b).len ≤ max 64 (ownHead etype + payload.length) := by
  unfold Dev.ownFrame ownHead
  dsimp only
  split_ifs <;> omega

/-- With room at a port, an origination puts its frame last there. -/
theorem originate_queues (s : Dev) (dst : BitVec 48) (etype : BitVec 16) (ctrl : Bool) (udp : Nat) (ip : Word) (payload : List Byte)
    (b : Bool) (hlink : s.linkUp b = true) (hmode : s.netMode ≠ 0)
    (hroom : s.buffered b + max 64 (ownHead etype + payload.length) ≤ 262144) :
    ((s.originate dst etype ctrl udp ip payload).port b).egress =
      (s.port b).egress ++ [{ frame := s.ownFrame dst etype ctrl udp ip payload b, fwd := false }] :=
  egressPut_both (fun c => { frame := s.ownFrame dst etype ctrl udp ip payload c, fwd := false }) hlink hmode
    (Nat.le_trans (Nat.add_le_add_left (ownFrame_len s dst etype ctrl udp ip payload b) _) hroom)

end Sys2Proof.Machine
end

section
/-! The pulse of the second, its time message and the sentences (R219 to R222). -/

namespace Sys2Proof.Machine

theorem bitOf_toNat (w : Word) (i : Nat) : bitOf w.toNat i = w.getLsbD i := by
  rw [bitOf, BitVec.getLsbD, Nat.testBit_eq_decide_div_mod_eq]
  rfl

/-! The pulse. -/

/-- A pulse still in progress is over, and settings held by it are in force (R220). -/
theorem ppsOver_held {s : Dev} {cfg dly : Word} (h : s.gnss.ppsHeld = some (cfg, dly)) : s.ppsOver =
    { s.setBit GNSS_STAT 5 (cfg.getLsbD 0 && s.timeValid && s.gnss.ppsCfgd) with
      gnss := { s.gnss with ppsHigh := false, ppsHeld := none, ppsCfg := cfg, ppsDly := dly } } := by
  unfold Dev.ppsOver
  dsimp only
  rw [h, ← bitOf_toNat]
  rfl

theorem ppsOver_free {s : Dev} (h : s.gnss.ppsHeld = none) : s.ppsOver = { s with gnss := { s.gnss with ppsHigh := false } } := by
  unfold Dev.ppsOver
  dsimp only
  rw [h]

/-- The device in which an edge begins. -/
def Dev.ppsFree (s : Dev) : Dev := if s.gnss.ppsHigh then s.ppsOver else s

theorem ppsFree_effect {l : List Nat} (s : Dev) (hl : GNSS_STAT ∈ l) :
    Effect l s s.ppsFree { blocks s with gnss := s.ppsFree.gnss } ∧ s.ppsFree.clk = s.clk ∧ s.ppsFree.log = s.log := by
  unfold Dev.ppsFree
  split
  · cases hheld : s.gnss.ppsHeld with
    | none =>
      rw [ppsOver_free hheld]
      exact ⟨(Effect.refl l s).gnss _, rfl, rfl⟩
    | some p =>
      rw [ppsOver_held (cfg := p.1) (dly := p.2) hheld]
      exact ⟨((Effect.refl l s).setBit hl _ _).gnss _, rfl, rfl⟩
  · exact ⟨Effect.refl l s, rfl, rfl⟩

/-- The settings in force where an edge begins (R220). -/
theorem ppsFree_settings {s : Dev} {cfg dly : Word}
    (h : (s.gnss.ppsHigh = true ∧ s.gnss.ppsHeld = some (cfg, dly)) ∨
      ((s.gnss.ppsHigh = false ∨ s.gnss.ppsHeld = none) ∧ cfg = s.gnss.ppsCfg ∧ dly = s.gnss.ppsDly)) :
    s.ppsFree.gnss.ppsCfg = cfg ∧ s.ppsFree.gnss.ppsDly = dly ∧ s.ppsFree.gnss.ppsCfgd = s.gnss.ppsCfgd := by
  unfold Dev.ppsFree
  rcases h with ⟨hhigh, hheld⟩ | ⟨hfree, rfl, rfl⟩
  · rw [if_pos hhigh, ppsOver_held hheld]
    exact ⟨rfl, rfl, rfl⟩
  · split
    · next hhigh =>
      rw [ppsOver_free (hfree.resolve_left (by rw [hhigh]; decide))]
      exact ⟨rfl, rfl, rfl⟩
    · exact ⟨rfl, rfl, rfl⟩

/-- An edge on a pin that is free (R219, R220). -/
def Dev.ppsBegin (s : Dev) : Dev :=
  let sec := roundRat (s.clk.localNs / 1000000000)
  let dly : Rat := (signed 20 s.gnss.ppsDly.toNat : Int)
  let c : Rat := (sec : Rat) * 1000000000 - dly / 1000
  let edge := s.gridEdge c
  let en := bitOf s.gnss.ppsCfg.toNat 0 && s.gnss.ppsCfgd
  { s.setBit GNSS_STAT 5 en with
    gnss := { s.gnss with
      ppsHigh := en, ppsUntil := s.gridEdge (edge + 1000000 * (ppsWidth s.gnss.ppsCfg : Rat)),
      ppsSec := sec.toNat, ppsQerr := if en then roundRat ((edge - c) * 1000) else 0,
      ppsValid := en, ppsStepped := s.clk.stepped, msgDue := true }
    clk := { s.clk with stepped := false } }

theorem ppsEdge_eq {s : Dev} (h : s.timeValid = true) : s.ppsEdge = s.ppsFree.ppsBegin := by
  unfold Dev.ppsEdge
  rw [if_neg (by rw [h]; decide)]
  rfl

theorem gridEdge_of_clk {s d : Dev} (h : d.clk = s.clk) (x : Rat) : d.gridEdge x = s.gridEdge x := by
  rw [Dev.gridEdge, Dev.gridEdge, h]

/-- A whole second with valid time (R219, R220, R221). -/
theorem ppsPulse_answers {s : State} {cfg dly : Word} (hvalid : s.timeValid = true)
    (h : (s.gnss.ppsHigh = true ∧ s.gnss.ppsHeld = some (cfg, dly)) ∨
      ((s.gnss.ppsHigh = false ∨ s.gnss.ppsHeld = none) ∧ cfg = s.gnss.ppsCfg ∧ dly = s.gnss.ppsDly)) :
    Answers .ppsPulse s fun t =>
      let en := cfg.getLsbD 0 && s.gnss.ppsCfgd
      let sec := roundRat (s.clk.localNs / 1000000000)
      let at_ : Rat := (sec : Rat) * 1000000000 - ((signed 20 dly.toNat : Int) : Rat) / 1000
      t.gnss.ppsHigh = en ∧ t.bit GNSS_STAT 5 = en ∧ t.gnss.ppsCfg = cfg ∧ t.gnss.ppsDly = dly ∧
      t.gnss.ppsSec = sec.toNat ∧ t.gnss.msgDue = true ∧ t.clk.stepped = false ∧
      t.gnss.ppsUntil = s.gridEdge (s.gridEdge at_ + 1000000 * (ppsWidth cfg : Rat)) ∧
      t.gnss.ppsQerr = (if en then roundRat ((s.gridEdge at_ - at_) * 1000) else 0) ∧
      Framed [GNSS_STAT] s t { blocks s.toDev with gnss := t.gnss, clk.stepped := false } ∧ NoEvent s t := by
  obtain ⟨heff, hclk, hlog⟩ := ppsFree_effect (l := [GNSS_STAT]) s.toDev (by simp)
  obtain ⟨hcfg, hdly, hcfgd⟩ := ppsFree_settings h
  refine answers_of_done (congrArg (done s) (ppsEdge_eq hvalid)) ?_
  generalize s.toDev.ppsFree = d at *
  have hgrid := gridEdge_of_clk hclk
  have hgnss := settle_gnss d.ppsBegin
  have hen : (bitOf d.gnss.ppsCfg.toNat 0 && d.gnss.ppsCfgd) = (cfg.getLsbD 0 && s.gnss.ppsCfgd) := by rw [hcfg, hcfgd, bitOf_toNat]
  have hframe : Effect [GNSS_STAT] s.toDev d.ppsBegin { blocks s.toDev with
      gnss := d.ppsBegin.gnss, clk := { s.clk with stepped := false } } := by
    rw [← hclk]
    exact ((heff.setBit (by simp) 5 (bitOf d.gnss.ppsCfg.toNat 0 && d.gnss.ppsCfgd)).gnss d.ppsBegin.gnss).clk _
  refine ⟨?_, ?_, ?_, ?_, ?_, ?_, ?_, ?_, ?_, ?_, noEvent_after ?_⟩
  · exact (congrArg GnssSt.ppsHigh hgnss).trans hen
  · exact (settle_bit _ _ _ (by decide) (by decide)).trans ((bit_setBit_same _ _ _ _ (by decide)).trans hen)
  · exact (congrArg GnssSt.ppsCfg hgnss).trans hcfg
  · exact (congrArg GnssSt.ppsDly hgnss).trans hdly
  · refine (congrArg GnssSt.ppsSec hgnss).trans ?_
    rw [← hclk]
    rfl
  · exact congrArg GnssSt.msgDue hgnss
  · exact congrArg ClkSt.stepped (settle_clk d.ppsBegin)
  · refine (congrArg GnssSt.ppsUntil hgnss).trans ?_
    rw [← hcfg, ← hdly, ← hgrid, ← hgrid, ← hclk]
    rfl
  · refine (congrArg GnssSt.ppsQerr hgnss).trans ?_
    rw [← hen, ← hdly, ← hgrid, ← hclk]
    rfl
  · rw [hgnss]
    exact hframe.framed
  · rw [← hlog]
    simp [Dev.ppsBegin]

/-- A pulse ends (R220). -/
theorem ppsPulseEnd_answers {s : State} (cfg dly : Word) (hhigh : s.gnss.ppsHigh = true) (huntil : s.gnss.ppsUntil < s.clk.localNs + 375000) :
    Answers .ppsPulseEnd s fun t => t.gnss.ppsHigh = false ∧
        (s.gnss.ppsHeld = none → t.gnss = { s.gnss with ppsHigh := false } ∧ t.rd GNSS_STAT = s.rd GNSS_STAT) ∧
        (s.gnss.ppsHeld = some (cfg, dly) → t.gnss = { s.gnss with
            ppsHigh := false, ppsHeld := none, ppsCfg := cfg, ppsDly := dly } ∧
          t.bit GNSS_STAT 5 = (cfg.getLsbD 0 && s.timeValid && s.gnss.ppsCfgd)) ∧
        Framed [GNSS_STAT] s t { blocks s.toDev with gnss := t.gnss } ∧ NoEvent s t := by
  have hend : s.toDev.ppsEnd = s.toDev.ppsOver := if_pos ⟨hhigh, huntil⟩
  cases hheld : s.gnss.ppsHeld with
  | none =>
    have hdone := hend.trans (ppsOver_free hheld)
    refine answers_of_done (congrArg (done s) hdone) ⟨congrArg GnssSt.ppsHigh (settle_gnss _), fun _ => ⟨settle_gnss _, ?_⟩,
      (fun h => nomatch h), ((Effect.refl _ _).gnss _).framed_gnss, noEvent_after rfl⟩
    exact settle_rd _ _ (by decide) (by decide)
  | some p =>
    have hdone := hend.trans (ppsOver_held (cfg := p.1) (dly := p.2) hheld)
    refine answers_of_done (congrArg (done s) hdone) ⟨congrArg GnssSt.ppsHigh (settle_gnss _), (fun h => nomatch h), fun h => ?_,
      (((Effect.refl _ _).setBit (by simp) _ _).gnss _).framed_gnss, noEvent_after (by simp)⟩
    obtain ⟨rfl⟩ := h
    exact ⟨settle_gnss _, (settle_bit _ _ _ (by decide) (by decide)).trans (bit_setBit_same s.toDev _ _ _ (by decide))⟩

/-! The time message. -/

theorem timeMsgBytes_length (s : Dev) : s.timeMsgBytes.length = 32 := by
  simp [Dev.timeMsgBytes, leBytes_length, sBytes_length]

/-- The device that sends the time message: its report is out, and the message is noted (R221). -/
def Dev.timeNoted (s : Dev) : Dev :=
  { s.reportRouted 3 0 s.timeMsgBytes with
    gnss := { (s.reportRouted 3 0 s.timeMsgBytes).gnss with msgDue := false, timeMsg := s.timeMsgBytes } }

theorem timeMessage_eq {s : Dev} (h : s.gnss.msgDue = true) :
    s.timeMessage = s.timeNoted.sendUdp (bitsOf s.gnss.set.udp.toNat 15 0) s.timeMsgBytes := by
  obtain ⟨l, x, -, heff⟩ := reportRouted_effect s 3 0 s.timeMsgBytes
  have hgnss : (s.reportRouted 3 0 s.timeMsgBytes).gnss = s.gnss := heff.gnss_eq
  have hmsg : s.timeMessage =
      s.timeNoted.sendUdp (bitsOf (s.reportRouted 3 0 s.timeMsgBytes).gnss.set.udp.toNat 15 0) s.timeMsgBytes := if_pos h
  rw [hmsg, hgnss]

/-- What the sending leaves of the device: everything but NET (R291). -/
theorem sendUdp_effect (s : Dev) (port : Nat) (payload : List Byte) :
    ∃ n, Effect [NET_DROP_CNT] s (s.sendUdp port payload) { blocks s with net := n } :=
  originate_effect (n := s.net) (Effect.refl _ s) (by simp) _ _ _ _ _ _

theorem sendUdp_seq (s : Dev) (port : Nat) (payload : List Byte) : (s.sendUdp port payload).net.seq = (s.net.seq + 1) % 65536 :=
  originate_seq _ _ _ _ _ _ _

/-- A datagram with room at a port comes last there (R288, R291). -/
theorem sendUdp_queues (s : Dev) (port : Nat) (payload : List Byte) (b : Bool) (hlink : s.linkUp b = true) (hmode : s.netMode ≠ 0)
    (hroom : s.buffered b + max 64 (56 + payload.length) ≤ 262144) :
    ∃ f, ((s.sendUdp port payload).port b).egress = (s.port b).egress ++ [{ frame := f, fwd := false }] ∧
      f.etype = 0x0800 ∧ f.udpPort = port ∧ f.dstIp = s.rd NET_UDP_DST ∧ f.payload = payload :=
  ⟨_, originate_queues _ _ _ _ _ _ _ _ hlink hmode hroom, rfl, rfl, rfl, rfl⟩

theorem port_settle (d : Dev) (b : Bool) : d.settle.port b = d.port b := port_of_net (settle_net d) b

/-- The time message of the second (R221). -/
theorem timeMessage_answers {s : State} (hdue : s.gnss.msgDue = true) :
    Answers .timeMessage s fun t =>
        t.gnss = { s.gnss with msgDue := false, timeMsg := s.timeMsgBytes } ∧ s.timeMsgBytes.length = 32 ∧
        t.net.seq = (s.net.seq + 1) % 65536 ∧ (∀ p, s.routed 3 = some p → Reported s t p s.timeMsgBytes) ∧
        ∀ b, netRoom s b 96 → Queued s t b fun f => f.etype = 0x0800 ∧ f.udpPort = bitsOf s.gnss.set.udp.toNat 15 0 ∧
          f.dstIp = s.rd NET_UDP_DST ∧ f.payload = s.timeMsgBytes := by
  have hlen := timeMsgBytes_length s.toDev
  obtain ⟨l, h, hlow, heff⟩ := reportRouted_effect s.toDev 3 0 s.timeMsgBytes
  have hnet : s.toDev.timeNoted.net = s.net := heff.net_eq
  have hreg : ∀ a, a < 0x3C0000 → s.toDev.timeNoted.rd a = s.rd a := fun a ha => heff.regs a (hlow a ha)
  have hgnss : s.toDev.timeNoted.gnss = { s.gnss with msgDue := false, timeMsg := s.timeMsgBytes } := by
    rw [← show (s.toDev.reportRouted 3 0 s.timeMsgBytes).gnss = s.gnss from heff.gnss_eq]
    rfl
  obtain ⟨n, hsend⟩ := sendUdp_effect s.toDev.timeNoted (bitsOf s.gnss.set.udp.toNat 15 0) s.timeMsgBytes
  refine answers_of_done (congrArg (done s) (timeMessage_eq hdue)) ⟨?_, hlen, ?_, fun p hp => ?_, fun b hb => ?_⟩
  · exact ((settle_gnss _).trans hsend.gnss_eq).trans hgnss
  · exact (congrArg NetSt.seq (settle_net _)).trans ((sendUdp_seq _ _ _).trans (by rw [hnet]))
  · have hreport : s.toDev.reportRouted 3 0 s.timeMsgBytes = s.toDev.report p 3 0 s.timeMsgBytes := by
      rw [Dev.reportRouted, hp]
    have hlt := routed_lt hp
    refine reported_after hlt 3 0 s.timeMsgBytes (hsend.host_eq.trans (by rw [← hreport]; rfl)) fun a ha => ?_
    rw [hsend.regs a (by
      rcases ha with rfl | rfl <;> simp only [List.mem_singleton, HOST_REP_PTR, HOST_LIVE, pairWin, NET_DROP_CNT] <;> omega), ← hreport]
    rfl
  · obtain ⟨hlink, hmode, hroom⟩ := hb
    obtain ⟨f, hegress, hf⟩ := sendUdp_queues s.toDev.timeNoted (bitsOf s.gnss.set.udp.toNat 15 0) s.timeMsgBytes b
      ((bit_of_rd _ _ _ _ (hreg NET_STAT (by decide))).trans hlink) (by rwa [Dev.netMode, hnet])
      (by rw [hlen, buffered_of_net hnet]; omega)
    rw [hreg NET_UDP_DST (by decide)] at hf
    refine ⟨f, ?_, hf⟩
    exact (congrArg NetPort.egress (port_settle _ b)).trans (hegress.trans (by rw [port_of_net hnet]))

/-! Sentences. -/

/-- What an interval sends keeps to its bits, and what it does not send is counted (R222). -/
theorem sendSentences_fits (limit : Nat) (xs : List (SentOut × List Byte)) (used : Nat) (h : used ≤ limit) :
    used + ((sendSentences limit xs used).1.map fun p => 10 * p.2.length).sum ≤ limit ∧
      (sendSentences limit xs used).1.length + (sendSentences limit xs used).2 = xs.length ∧
      (sendSentences limit xs used).1.Sublist xs := by
  induction xs generalizing used with
  | nil => exact ⟨h, rfl, List.Sublist.refl _⟩
  | cons x xs ih =>
    simp only [sendSentences]
    split
    · next hfit =>
      obtain ⟨hsum, hlen, hsub⟩ := ih _ hfit
      refine ⟨?_, ?_, hsub.cons_cons _⟩
      · simp only [List.map_cons, List.sum_cons]
        omega
      · simp only [List.length_cons]
        omega
    · obtain ⟨hsum, hlen, hsub⟩ := ih _ h
      refine ⟨hsum, ?_, hsub.cons _⟩
      simp only [List.length_cons]
      omega

/-- An interval of a UART that sends (R222). -/
theorem sentences_sends {s : Dev} {u : Nat} (hen : s.bit (GNSS_SENT_CFG u) 0 = true) (hvalid : s.timeValid = true)
    (texts : List (List Byte)) (sel : List (SentOut × List Byte))
    (hsel : sel = (((List.range 8).filter fun k => bitOf (s.rd (GNSS_SENT_CFG u)).toNat (2 + k)).flatMap
      (s.sentencesOf (bitOf (s.rd (GNSS_SENT_CFG u)).toNat 13))).zipIdx.map fun p => (p.1, texts.getD p.2 [])) :
    (s.sentences u texts).1 = ({ s with gnss := { s.gnss with
      sentCfg := setAt s.gnss.sentCfg u (s.rd (GNSS_SENT_CFG u)),
      sent := setAt s.gnss.sent u ((sendSentences (intervalBits (s.rd (GNSS_SENT_CFG u)).toNat) sel 0).1.map Prod.fst) } } : Dev).cntSat
      GNSS_SENT_DROP 31 0 (sendSentences (intervalBits (s.rd (GNSS_SENT_CFG u)).toNat) sel 0).2 := by
  subst hsel
  have hcond : ¬((!bitOf (s.rd (GNSS_SENT_CFG u)).toNat 0) = true ∨ (!s.timeValid) = true) := by
    rw [hvalid, bitOf_rd, hen]
    decide
  exact congrArg Prod.fst (if_neg hcond)

theorem sentences_idle {s : Dev} {u : Nat} (h : s.bit (GNSS_SENT_CFG u) 0 = false ∨ s.timeValid = false) (texts : List (List Byte)) :
    s.sentences u texts = ({ s with gnss := { s.gnss with
      sentCfg := setAt s.gnss.sentCfg u (s.rd (GNSS_SENT_CFG u)), sent := setAt s.gnss.sent u [] } }, []) := by
  have hcond : (!bitOf (s.rd (GNSS_SENT_CFG u)).toNat 0) = true ∨ (!s.timeValid) = true := by
    rw [bitOf_rd]
    rcases h with h | h
    · exact .inl (by rw [h]; rfl)
    · exact .inr (by rw [h]; rfl)
  exact if_pos hcond

/-- A sentence on the network moves nothing but NET (R291, R293). -/
theorem send450_keeps (s : Dev) (x : List Byte) : (s.send450 x).gnss = s.gnss ∧
    (s.send450 x).rd GNSS_SENT_DROP = s.rd GNSS_SENT_DROP := by
  unfold Dev.send450
  obtain ⟨n, heff⟩ := originate_effect (n := { s.net with line450 := s.net.line450 % 999 + 1 })
    ((Effect.refl [NET_DROP_CNT] s).net { s.net with line450 := s.net.line450 % 999 + 1 }) (by simp)
    (groupMac (s.rd NET_450_GRP).toNat) 0x0800 false (s.fld NET_450_PORT 15 0) (s.rd NET_450_GRP)
    (s.datagram450 (s.net.line450 % 999 + 1) x)
  exact ⟨heff.gnss_eq, heff.regs _ (by decide)⟩

/-- An interval of a UART that sends (R222). -/
theorem sentenceInterval_answers {u : Fin 8} {s : State} (texts : List (List Byte)) (hen : s.bit (GNSS_SENT_CFG u) 0 = true)
    (hvalid : s.timeValid = true) :
    Answers (.sentenceInterval u texts) s fun t =>
        let res := sendSentences (intervalBits (s.rd (GNSS_SENT_CFG u)).toNat) (selected s u texts) 0
        t.gnss = { s.gnss with
          sentCfg := setAt s.gnss.sentCfg u (s.rd (GNSS_SENT_CFG u)), sent := setAt s.gnss.sent u (res.1.map Prod.fst) } ∧
        (res.1.map fun p => 10 * p.2.length).sum ≤ intervalBits (s.rd (GNSS_SENT_CFG u)).toNat ∧
        res.1.length + res.2 = (selected s u texts).length ∧ res.1.Sublist (selected s u texts) ∧
        t.fld GNSS_SENT_DROP 31 0 = min 4294967295 (s.fld GNSS_SENT_DROP 31 0 + res.2) ∧
        (u.val ≠ 0 ∨ s.net.cfg.getLsbD 7 = false → Framed [GNSS_SENT_DROP] s t { blocks s.toDev with gnss := t.gnss } ∧
          NoEvent s t) := by
  obtain ⟨hsum, hlen, hsub⟩ := sendSentences_fits (intervalBits (s.rd (GNSS_SENT_CFG u)).toNat) (selected s u texts) 0 (Nat.zero_le _)
  have hd := sentences_sends hen hvalid texts (selected s u texts) rfl
  rw [Nat.zero_add] at hsum
  have hgnss : (s.toDev.sentences u texts).1.gnss = { s.gnss with
      sentCfg := setAt s.gnss.sentCfg u (s.rd (GNSS_SENT_CFG u)), sent := setAt s.gnss.sent u
        ((sendSentences (intervalBits (s.rd (GNSS_SENT_CFG u)).toNat) (selected s u texts) 0).1.map Prod.fst) } := by
    rw [hd, cntSat_gnss]
  have hdrop : (s.toDev.sentences u texts).1.fld GNSS_SENT_DROP 31 0 = min 4294967295 (s.fld GNSS_SENT_DROP 31 0 +
      (sendSentences (intervalBits (s.rd (GNSS_SENT_CFG u)).toNat) (selected s u texts) 0).2) := by
    rw [hd]
    exact fld_cntSat_same _ _ _ _ _ (by decide) (by decide)
  have hnet : (s.toDev.sentences u texts).1.net = s.net := by
    rw [hd, cntSat_net]
  by_cases h450 : u.val = 0 ∧ bitOf (s.toDev.sentences u texts).1.net.cfg.toNat 7 = true
  · have hdone : s.toDev.sentenceInterval u texts =
        (s.toDev.sentences u texts).1.each (s.toDev.sentences u texts).2 Dev.send450 := if_pos h450
    refine answers_of_done (congrArg (done s) hdone) ⟨?_, hsum, hlen, hsub, ?_, fun h => ?_⟩
    · exact (settle_gnss _).trans ((each_keeps Dev.gnss _ (fun d x => (send450_keeps d x).1) _ _).trans hgnss)
    · refine (settle_fld _ _ _ _ (by decide) (by decide)).trans (Eq.trans ?_ hdrop)
      exact fld_of_rd _ _ _ _ _ (each_keeps (Dev.rd · GNSS_SENT_DROP) _ (fun d x => (send450_keeps d x).2) _ _)
    · rw [hnet, bitOf_toNat] at h450
      rcases h with h | h
      · exact absurd h450.1 h
      · exact absurd h450.2 (by rw [h]; decide)
  · have hdone : s.toDev.sentenceInterval u texts = (s.toDev.sentences u texts).1 := if_neg h450
    refine answers_of_done (congrArg (done s) hdone) ⟨(settle_gnss _).trans hgnss, hsum, hlen, hsub, ?_, fun _ => ⟨?_, ?_⟩⟩
    · exact (settle_fld _ _ _ _ (by decide) (by decide)).trans hdrop
    · rw [hd]
      exact (((Effect.refl [GNSS_SENT_DROP] s.toDev).gnss _).cntSat (by simp) _ _ _).framed_gnss
    · rw [hd]
      exact noEvent_after (by rw [cntSat_log])

/-- An interval of a UART that sends nothing (R222). -/
theorem sentenceInterval_idle {u : Fin 8} {s : State} (texts : List (List Byte))
    (h : s.bit (GNSS_SENT_CFG u) 0 = false ∨ s.timeValid = false) :
    Answers (.sentenceInterval u texts) s fun t =>
        t.gnss.sent = setAt s.gnss.sent u [] ∧ Framed [] s t { blocks s.toDev with gnss := { s.gnss with
          sentCfg := setAt s.gnss.sentCfg u (s.rd (GNSS_SENT_CFG u)), sent := t.gnss.sent } } ∧ NoEvent s t := by
  have hdone : s.toDev.sentenceInterval u texts = { s.toDev with gnss := { s.gnss with
      sentCfg := setAt s.gnss.sentCfg u (s.rd (GNSS_SENT_CFG u)), sent := setAt s.gnss.sent u [] } } := by
    unfold Dev.sentenceInterval
    rw [sentences_idle h]
    exact ite_self _
  refine answers_of_done (congrArg (done s) hdone) ⟨congrArg GnssSt.sent (settle_gnss _), ?_, noEvent_after rfl⟩
  rw [settle_gnss]
  exact ((Effect.refl [] s.toDev).gnss _).framed

/-- Settles O25: the edge and the end of the pulse, its message, and the interval of a UART. -/
theorem pulsesAndTimeOutputs : Obligations.PulsesAndTimeOutputs := by
  unfold Obligations.PulsesAndTimeOutputs
  refine ⟨fun s cfg dly => ⟨ppsPulse_answers, fun h => ?_, ppsPulseEnd_answers cfg dly, fun h => ?_⟩, fun u texts s =>
    ⟨timeMessage_answers, fun h => ?_, sentenceInterval_answers texts, sentenceInterval_idle texts⟩⟩
  · exact noEffect_of_done rfl (if_pos (by rw [h]; rfl))
  · refine noEffect_of_done rfl (if_neg fun ⟨hhigh, huntil⟩ => ?_)
    rcases h with h | h
    · exact absurd hhigh (by rw [h]; decide)
    · exact absurd huntil (not_lt_of_ge h)
  · exact noEffect_of_done rfl (if_neg (by rw [h]; decide))

end Sys2Proof.Machine
end

section
/-! Sensor sentences and reference samples (R122, R125, R126, R127). -/

namespace Sys2Proof.Machine

/-- A discarded sentence or frame counts (R122, R126). -/
theorem sensBad_answers {c : Instr} {s : State} (hc : exec c s = done s s.toDev.sensBad) : Answers c s fun t =>
    t.fld EST_SENS_BAD 31 0 = min 4294967295 (s.fld EST_SENS_BAD 31 0 + 1) ∧ OnlyRegs [EST_SENS_BAD] s t ∧ NoEvent s t :=
  answers_of_done hc ⟨(settle_fld _ _ _ _ (by decide) (by decide)).trans (fld_cntSat_same _ _ _ _ _ (by decide) (by decide)),
    ((Effect.refl _ _).cntSat (by simp) _ _ _).framed, noEvent_after (by simp [Dev.sensBad])⟩

/-- A sentence whose checksum holds acts by its content (R122). -/
theorem sentence_of_sum {s : Dev} {u : Nat} {m : SentenceIn} (hsum : m.chars.foldl (fun a c => a ^^^ c) 0 = m.sum) :
    s.sentence u m = match givenBy m with
      | .heading h => match s.sensorOf u (talkerOf m) 0 3 with
        | none => s
        | some k => { s with est.gyro := modAt s.est.gyro k fun (x : SensSt) => { x with a := h, at_ := some (m.arrivalNs : Int) } }
      | .rate r => match s.sensorOf u (talkerOf m) 0 3 with
        | none => s
        | some k => { s with est.gyro := modAt s.est.gyro k fun (x : SensSt) => { x with b := r } }
      | .attitude r p => match s.sensorOf u (talkerOf m) 3 2 with
        | none => s
        | some k => { s with est.mru := modAt s.est.mru (k - 3) fun (x : SensSt) =>
            { x with a := r, b := p, at_ := some (m.arrivalNs : Int) } }
      | .wind a v => match s.sensorOf u (talkerOf m) 5 2 with
        | none => s
        | some k => { s with est.wind := modAt s.est.wind (k - 5) fun (x : SensSt) =>
            { x with a := a, b := v, at_ := some (m.arrivalNs : Int) } }
      | .other => s :=
  if_neg (fun h => h hsum)

/-- The estimator's inputs replaced behind its registers. -/
theorem est_after (s : State) (e : EstSt) : (s.after { s.toDev with est := e }).est = e ∧
    Framed [] s (s.after { s.toDev with est := e }) { blocks s.toDev with est := e } ∧ NoEvent s (s.after { s.toDev with est := e }) :=
  ⟨settle_est _, ((Effect.refl [] s.toDev).est e).framed, noEvent_after rfl⟩

theorem heading_answers {u : Fin 8} {m : SentenceIn} {s : State} (hs : Shaped s.toDev)
    (hsum : m.chars.foldl (fun a c => a ^^^ c) 0 = m.sum) (h : Rat) (k : Nat) (hm : givenBy m = .heading h) (hk : k < 3)
    (hsens : s.sensorOf u (talkerOf m) 0 3 = some k) :
    Answers (.sentenceReceived u m) s fun t =>
        (t.est.gyro.getD k {}).a = h ∧ (t.est.gyro.getD k {}).at_ = some (m.arrivalNs : Int) ∧
        (t.est.gyro.getD k {}).b = (s.est.gyro.getD k {}).b ∧ (∀ j, j ≠ k → t.est.gyro.getD j {} = s.est.gyro.getD j {}) ∧
        Framed [] s t { blocks s.toDev with est := { s.est with gyro := t.est.gyro } } ∧ NoEvent s t := by
  have hdone : s.toDev.sentence u m = { s.toDev with est := { s.est with gyro := modAt s.est.gyro k fun (x : SensSt) =>
      { x with a := h, at_ := some (m.arrivalNs : Int) } } } := by
    rw [sentence_of_sum hsum, hm]
    dsimp only
    rw [hsens]
  refine answers_of_done (congrArg (done s) hdone) ?_
  obtain ⟨hest, hframe, hevent⟩ := est_after s { s.est with gyro := modAt s.est.gyro k fun (x : SensSt) =>
      { x with a := h, at_ := some (m.arrivalNs : Int) } }
  have hsame := getD_modAt_same s.est.gyro k (fun (x : SensSt) => { x with a := h, at_ := some (m.arrivalNs : Int) }) {}
    (by rw [hs.gyro]; exact hk)
  rw [hest]
  exact ⟨(congrArg SensSt.a hsame :), (congrArg SensSt.at_ hsame :), (congrArg SensSt.b hsame :), fun j hj => getD_modAt_ne _ _ _ _ _ hj, hframe, hevent⟩

theorem attitude_answers {u : Fin 8} {m : SentenceIn} {s : State} (hs : Shaped s.toDev)
    (hsum : m.chars.foldl (fun a c => a ^^^ c) 0 = m.sum) (r p : Rat) (k : Nat) (hm : givenBy m = .attitude r p) (hk : k < 2)
    (hsens : s.sensorOf u (talkerOf m) 3 2 = some (k + 3)) :
    Answers (.sentenceReceived u m) s fun t =>
        t.est.mru.getD k {} = { s.est.mru.getD k {} with a := r, b := p, at_ := some (m.arrivalNs : Int) } ∧
        (∀ j, j ≠ k → t.est.mru.getD j {} = s.est.mru.getD j {}) ∧
        Framed [] s t { blocks s.toDev with est := { s.est with mru := t.est.mru } } ∧ NoEvent s t := by
  have hdone : s.toDev.sentence u m = { s.toDev with est := { s.est with mru := modAt s.est.mru k fun (x : SensSt) =>
      { x with a := r, b := p, at_ := some (m.arrivalNs : Int) } } } := by
    rw [sentence_of_sum hsum, hm]
    dsimp only
    rw [hsens]
    rfl
  refine answers_of_done (congrArg (done s) hdone) ?_
  obtain ⟨hest, hframe, hevent⟩ := est_after s { s.est with mru := modAt s.est.mru k fun (x : SensSt) =>
      { x with a := r, b := p, at_ := some (m.arrivalNs : Int) } }
  rw [hest]
  exact ⟨getD_modAt_same _ _ _ _ (by rw [hs.mru]; exact hk), fun j hj => getD_modAt_ne _ _ _ _ _ hj, hframe, hevent⟩

theorem wind_answers {u : Fin 8} {m : SentenceIn} {s : State} (hs : Shaped s.toDev)
    (hsum : m.chars.foldl (fun a c => a ^^^ c) 0 = m.sum) (a v : Rat) (k : Nat) (hm : givenBy m = .wind a v) (hk : k < 2)
    (hsens : s.sensorOf u (talkerOf m) 5 2 = some (k + 5)) :
    Answers (.sentenceReceived u m) s fun t =>
        t.est.wind.getD k {} = { s.est.wind.getD k {} with a := a, b := v, at_ := some (m.arrivalNs : Int) } ∧
        (∀ j, j ≠ k → t.est.wind.getD j {} = s.est.wind.getD j {}) ∧
        Framed [] s t { blocks s.toDev with est := { s.est with wind := t.est.wind } } ∧ NoEvent s t := by
  have hdone : s.toDev.sentence u m = { s.toDev with est := { s.est with wind := modAt s.est.wind k fun (x : SensSt) =>
      { x with a := a, b := v, at_ := some (m.arrivalNs : Int) } } } := by
    rw [sentence_of_sum hsum, hm]
    dsimp only
    rw [hsens]
    rfl
  refine answers_of_done (congrArg (done s) hdone) ?_
  obtain ⟨hest, hframe, hevent⟩ := est_after s { s.est with wind := modAt s.est.wind k fun (x : SensSt) =>
      { x with a := a, b := v, at_ := some (m.arrivalNs : Int) } }
  rw [hest]
  exact ⟨getD_modAt_same _ _ _ _ (by rw [hs.wind]; exact hk), fun j hj => getD_modAt_ne _ _ _ _ _ hj, hframe, hevent⟩

/-! Reference samples. -/

/-- The sample that a payload carries (R126). -/
def refSampleOf (p : List Byte) (arrival : Int) : RefSample :=
  { ns := if bitOf (u8 p 1) 0 then extendStamp (BitVec.ofNat 32 (u32 p 4)) arrival else arrival,
    north := signed 32 (u32 p 8), east := signed 32 (u32 p 12), sigma := u16 p 16 }

/-- A valid sample of a reference on its port is counted and waits, or replaces one that is older (R126, R127). -/
theorem refPayload_valid {s : Dev} {p : List Byte} {arrival : Int} (hn : u8 p 0 ≤ 5) (hvalid : bitOf (u8 p 1) 1 = true)
    (hport : s.fld (EST_REF_CFG (u8 p 0)) 1 0 = 2) :
    s.refPayload 2 0 p arrival = match (s.ref (u8 p 0)).sample with
      | none => (s.cntWrap (EST_REF_CNT (u8 p 0)) 15 0 1).setRef (u8 p 0) fun r => { r with sample := some (refSampleOf p arrival) }
      | some y =>
        let d := (s.cntWrap (EST_REF_CNT (u8 p 0)) 15 0 1).cntSat (EST_REF_DROP (u8 p 0)) 31 0 1
        if y.ns ≤ (refSampleOf p arrival).ns then d.setRef (u8 p 0) fun r => { r with sample := some (refSampleOf p arrival) } else d := by
  have hcond : ¬(5 < u8 p 0 ∨ (!bitOf (u8 p 1) 1) = true ∨ bitsOf (s.rd (EST_REF_CFG (u8 p 0))).toNat 1 0 ≠ 2 ∨
      (2 = 1 ∧ bitsOf (s.rd (EST_REF_CFG (u8 p 0))).toNat 4 2 ≠ 0)) := by
    rw [bitsOf_rd, hport, hvalid]
    simp
    omega
  exact if_neg hcond

theorem ref_setRef_same (s : Dev) (n : Nat) (f : RefSt → RefSt) (h : n < s.est.refs.length) : (s.setRef n f).ref n = f (s.ref n) :=
  getD_modAt_same _ _ _ _ h

theorem ref_settle (d : Dev) (n : Nat) : d.settle.ref n = d.ref n := by rw [Dev.ref, Dev.ref, settle_est]

/-- What the settled device shows of a reference whose sample has been counted. -/
theorem refTaken_after {s : State} {n : Nat} {d : Dev} (_hn : n ≤ 5)
    (hcnt : d.fld (EST_REF_CNT n) 15 0 = (s.fld (EST_REF_CNT n) 15 0 + 1) % 65536) (hsome : (d.ref n).sample.isSome = true)
    (hdrop : (s.ref n).sample.isSome = true → d.fld (EST_REF_DROP n) 31 0 = min 4294967295 (s.fld (EST_REF_DROP n) 31 0 + 1))
    (heff : ∃ e, Effect [EST_REF_CNT n, EST_REF_DROP n] s.toDev d { blocks s.toDev with est := e }) (hlog : d.log = s.log) :
    (s.after d).fld (EST_REF_CNT n) 15 0 = (s.fld (EST_REF_CNT n) 15 0 + 1) % 65536 ∧ ((s.after d).ref n).sample.isSome = true ∧
      ((s.ref n).sample.isSome = true → (s.after d).fld (EST_REF_DROP n) 31 0 = min 4294967295 (s.fld (EST_REF_DROP n) 31 0 + 1)) ∧
      Framed [EST_REF_CNT n, EST_REF_DROP n] s (s.after d) { blocks s.toDev with est := (s.after d).est } ∧ NoEvent s (s.after d) := by
  obtain ⟨e, heff⟩ := heff
  have hreg : ∀ k, 0x18 ≤ k → k ≤ 0x1C → ∀ hi lo, d.settle.fld (EST_REF_CFG n + k) hi lo = d.fld (EST_REF_CFG n + k) hi lo :=
    fun k hlo hhi hi lo => settle_fld _ _ _ _ (by simp only [EST_REF_CFG, SAFE_OUT_STAT]; omega) (by simp only [EST_REF_CFG, SAFE_STAT]; omega)
  refine ⟨(hreg 0x18 (by decide) (by decide) 15 0).trans hcnt, (congrArg (fun r : RefSt => r.sample.isSome) (ref_settle d n)).trans hsome,
    fun h => (hreg 0x1C (by decide) (by decide) 31 0).trans (hdrop h), heff.framed_est, noEvent_after (congrArg LogSt.raised hlog)⟩

/-- A valid sample of a reference is counted and waits for the cycle; a second one in the cycle counts as dropped (R126, R127). -/
theorem refSample_answers {bytes : List Byte} {s : State} (arrival : Nat) (hs : Shaped s.toDev) (hlen : bytes.length = 20)
    (hn : u8 bytes 0 ≤ 5) (hvalid : bitOf (u8 bytes 1) 1 = true) (hport : s.fld (EST_REF_CFG (u8 bytes 0)) 1 0 = 2) :
    Answers (.refSampleReceived none bytes arrival) s fun t =>
        t.fld (EST_REF_CNT (u8 bytes 0)) 15 0 = (s.fld (EST_REF_CNT (u8 bytes 0)) 15 0 + 1) % 65536 ∧
        (t.ref (u8 bytes 0)).sample.isSome = true ∧
        ((s.ref (u8 bytes 0)).sample.isSome = true → t.fld (EST_REF_DROP (u8 bytes 0)) 31 0 =
          min 4294967295 (s.fld (EST_REF_DROP (u8 bytes 0)) 31 0 + 1)) ∧
        Framed [EST_REF_CNT (u8 bytes 0), EST_REF_DROP (u8 bytes 0)] s t { blocks s.toDev with est := t.est } ∧ NoEvent s t := by
  have hdone : s.toDev.refArrival none bytes arrival = s.toDev.refPayload 2 0 bytes arrival := if_pos hlen
  rw [refPayload_valid hn hvalid hport] at hdone
  generalize u8 bytes 0 = n at *
  have hne : EST_REF_CNT n ≠ EST_REF_DROP n := by simp
  have hlt : n < s.est.refs.length := by rw [hs.refs]; omega
  have hcnt := (Effect.refl [EST_REF_CNT n, EST_REF_DROP n] s.toDev).cntWrap (a := EST_REF_CNT n) (by simp) 15 0 1
  have hdrop := hcnt.cntSat (a := EST_REF_DROP n) (by simp) 31 0 1
  rcases Option.eq_none_or_eq_some (s.ref n).sample with hsample | ⟨y, hsample⟩
  · rw [hsample] at hdone
    refine answers_of_done (congrArg (done s) hdone) (refTaken_after (d := (s.toDev.cntWrap (EST_REF_CNT n) 15 0 1).setRef n _) hn ?_ ?_
      (fun h => absurd h (by rw [hsample]; decide)) ⟨_, hcnt.est _⟩ (by simp))
    · simp [fld_cntWrap_same]
    · rw [ref_setRef_same _ _ _ (by simpa using hlt)]
      rfl
  · rw [hsample] at hdone
    dsimp only at hdone
    obtain ⟨hcount, hlost⟩ : ((s.toDev.cntWrap (EST_REF_CNT n) 15 0 1).cntSat (EST_REF_DROP n) 31 0 1).fld (EST_REF_CNT n) 15 0 =
          (s.fld (EST_REF_CNT n) 15 0 + 1) % 65536 ∧
        ((s.toDev.cntWrap (EST_REF_CNT n) 15 0 1).cntSat (EST_REF_DROP n) 31 0 1).fld (EST_REF_DROP n) 31 0 =
          min 4294967295 (s.fld (EST_REF_DROP n) 31 0 + 1) := by
      refine ⟨(fld_cntSat_other _ _ _ _ _ _ _ _ hne).trans (fld_cntWrap_same _ _ _ _ _ (by decide) (by decide)), ?_⟩
      exact (fld_cntSat_same _ _ _ _ _ (by decide) (by decide)).trans (by rw [fld_cntWrap_other _ _ _ _ _ _ _ _ hne.symm]; rfl)
    split at hdone
    · refine answers_of_done (congrArg (done s) hdone) (refTaken_after (d := Dev.setRef _ n _) hn (by simpa using hcount) ?_
        (fun _ => by simpa using hlost) ⟨_, hdrop.est _⟩ (by simp))
      rw [ref_setRef_same _ _ _ (by simpa using hlt)]
      rfl
    · refine answers_of_done (congrArg (done s) hdone) (refTaken_after hn hcount ?_ (fun _ => hlost) ⟨_, hdrop⟩ (by simp))
      simp only [ref_reg, hsample]
      rfl

/-- Settles O26: a sentence by its checksum and content, a frame by its form. -/
theorem sensorInput : Obligations.SensorInput := by
  unfold Obligations.SensorInput
  refine fun u m bytes arrival s => ⟨fun h => sensBad_answers (congrArg (done s) (if_pos h)), fun hs hsum =>
    ⟨heading_answers hs hsum, attitude_answers hs hsum, wind_answers hs hsum, fun h => ?_⟩,
    fun h => sensBad_answers (congrArg (done s) (if_neg h)), fun h => sensBad_answers (congrArg (done s) (if_neg h)),
    refSample_answers arrival⟩
  refine noEffect_of_done rfl ?_
  rw [sentence_of_sum hsum, h]

end Sys2Proof.Machine
end

section
/-! Register writes of acquisition: converter enables, chain settings, and the lock in service (R231, R232, R237, R243). -/

namespace Sys2Proof.Machine

/-- A write that changes one RW bit alone stores that bit (R12). -/
theorem store_setBits {a i : Nat} {r : RegRow} (h : regRow a = some r) (hw1c : r.w1c = 0) (hi : i < 32)
    (hrw : bitOf r.rw i = true) (s : Dev) (on : Bool) :
    s.store a (BitVec.ofNat 32 (setBits (s.rd a).toNat i i (bnat on))) = s.setBit a i on := by
  rw [store_eq_wr_rw h hw1c]
  refine congrArg (s.wr a) ?_
  have hword : BitVec.ofNat 32 (setBits (s.rd a).toNat i i (bnat on)) = (s.setBit a i on).rd a := (rd_wr_same _ _ _).symm
  rw [hword]
  refine BitVec.eq_of_getLsbD_eq fun j hj => ?_
  have hbit : ∀ d : Dev, (d.rd a).getLsbD j = d.bit a j := fun d => (bitOf_toNat _ _).symm
  have hmask : (BitVec.ofNat 32 r.rw).getLsbD i = true := by
    rw [BitVec.getLsbD_ofNat, Nat.testBit_eq_decide_div_mod_eq]
    simpa [bitOf, hi] using hrw
  rw [BitVec.getLsbD_or, BitVec.getLsbD_and, BitVec.getLsbD_and, BitVec.getLsbD_not, hbit, hbit]
  by_cases hji : j = i
  · subst hji
    simp [hmask]
  · rw [bit_setBit_ne s a i j on hi hji]
    cases s.bit a j <;> simp [hj]

theorem inService_false {s : Dev} (h : s.mode = 0) : s.inService = false := by simp [Dev.inService, h]

theorem inService_true {s : Dev} (h : s.mode ≠ 0) : s.inService = true := by simp [Dev.inService, h]

theorem acqLocked_of_watch {s : Dev} (h : s.mode = 0) (a : Nat) (v : Word) : s.acqLocked a v = none :=
  if_pos (by simp [inService_false h])

theorem acqWrite_locked {s : Dev} {a : Nat} {v : Word} {k : Nat} (h : s.acqLocked a v = some k) :
    s.acqWrite a v = s.ev 0x0805 k (a - 0x1C0000) := by
  unfold Dev.acqWrite
  rw [h]

/-- A refused write raises its event alone (R243). -/
theorem event_answers {c : Instr} {s : State} {k p q : Nat} (hc : exec c s = done s (s.toDev.ev k p q)) :
    Answers c s fun t => OneEvent s t k (BitVec.ofNat 32 p) (BitVec.ofNat 32 q) ∧ OnlyRegs [] s t :=
  answers_of_done hc ⟨oneEvent_ev rfl rfl, ((Effect.refl _ _).ev _ _ _).framed⟩

/-- A write of a register that neither reconfigures a chain nor belongs to the shadow bank (R237, R244). -/
theorem acqWrite_plain {s : Dev} {a : Nat} {v : Word} (h : s.acqLocked a v = none) (hload : loadChecked a = none)
    (hshadow : ¬(ACQ_FIR_SHADOW 0 ≤ a ∧ a ≤ ACQ_FIR_SHADOW 191)) : s.acqWrite a v = s.acqSide (s.store a v) a := by
  have hfree : (s.bit ACQ_STAT 3 && decide (ACQ_FIR_SHADOW 0 ≤ a ∧ a ≤ ACQ_FIR_SHADOW 191)) = false := by
    rw [decide_eq_false hshadow, Bool.and_false]
  unfold Dev.acqWrite
  rw [h]
  dsimp only
  rw [hfree, hload]
  rfl

/-! Converter enables. -/

/-- What ACQ_CTRL leaves in a device outside service: the bits wait for the tick, and SD_EN = 0 acts at once (R231, R232). -/
def Dev.adcEnabled (s : Dev) (i : Nat) (on : Bool) : Dev :=
  let d := s.setBit ACQ_CTRL i on
  let e := { d with acq := { s.acq with sarPend := some (d.bit ACQ_CTRL 0), sdPend := some (d.bit ACQ_CTRL 1) } }
  if d.bit ACQ_CTRL 1 then e else e.setBit ACQ_STAT 1 false

theorem acqEnable_of_watch {s : Dev} (h : s.mode = 0) {i : Nat} (hi : i < 2) (on : Bool) : s.acqEnable i on = s.adcEnabled i on := by
  obtain ⟨r, hr, hw1c, hrw⟩ : ∃ r, regRow ACQ_CTRL = some r ∧ r.w1c = 0 ∧ r.rw = 3 := ⟨_, rfl, rfl, rfl⟩
  have hbit : bitOf r.rw i = true := by
    rw [hrw]
    interval_cases i <;> rfl
  rw [Dev.acqEnable, acqWrite_plain (acqLocked_of_watch h _ _) rfl (by decide), store_setBits hr hw1c (by omega) hbit]
  rfl

theorem adcEnabled_effect (s : Dev) (i : Nat) (on : Bool) :
    Effect [ACQ_CTRL, ACQ_STAT] s (s.adcEnabled i on) { blocks s with acq := { s.acq with
      sarPend := some ((s.setBit ACQ_CTRL i on).bit ACQ_CTRL 0), sdPend := some ((s.setBit ACQ_CTRL i on).bit ACQ_CTRL 1) } } := by
  have hpend := ((Effect.refl [ACQ_CTRL, ACQ_STAT] s).setBit (a := ACQ_CTRL) (by simp) i on).acq { s.acq with
    sarPend := some ((s.setBit ACQ_CTRL i on).bit ACQ_CTRL 0), sdPend := some ((s.setBit ACQ_CTRL i on).bit ACQ_CTRL 1) }
  exact Effect.ite _ (fun _ => hpend) fun _ => hpend.setBit (by simp) _ _

theorem adcEnabled_log (s : Dev) (i : Nat) (on : Bool) : (s.adcEnabled i on).log = s.log := by
  dsimp only [Dev.adcEnabled]
  split_ifs <;> simp

theorem adcEnabled_ctrl (s : Dev) (i : Nat) (on : Bool) (j : Nat) :
    (s.adcEnabled i on).bit ACQ_CTRL j = (s.setBit ACQ_CTRL i on).bit ACQ_CTRL j := by
  dsimp only [Dev.adcEnabled]
  split
  · rfl
  · exact bit_setBit_other _ _ _ _ _ _ (by decide)

/-- What a write of one enable shows: the bit, the other as it was, and both waiting for the tick. -/
theorem adcEnabled_after (s : State) {i j : Nat} (hi : i < 2) (hne : j ≠ i) (on : Bool) :
    (s.after (s.toDev.adcEnabled i on)).bit ACQ_CTRL i = on ∧ (s.after (s.toDev.adcEnabled i on)).bit ACQ_CTRL j = s.bit ACQ_CTRL j ∧
      (s.after (s.toDev.adcEnabled i on)).acq = { s.acq with
        sarPend := some (if i = 0 then on else s.bit ACQ_CTRL 0), sdPend := some (if i = 1 then on else s.bit ACQ_CTRL 1) } ∧
      Framed [ACQ_CTRL, ACQ_STAT] s (s.after (s.toDev.adcEnabled i on))
        { blocks s.toDev with acq := (s.after (s.toDev.adcEnabled i on)).acq } ∧ NoEvent s (s.after (s.toDev.adcEnabled i on)) := by
  have hreg : ∀ k, (s.after (s.toDev.adcEnabled i on)).bit ACQ_CTRL k = (s.toDev.setBit ACQ_CTRL i on).bit ACQ_CTRL k :=
    fun k => (settle_bit _ _ _ (by decide) (by decide)).trans (adcEnabled_ctrl _ _ _ _)
  have hbit : ∀ k, (s.toDev.setBit ACQ_CTRL i on).bit ACQ_CTRL k = if i = k then on else s.bit ACQ_CTRL k := fun k => by
    split
    · next h => exact h ▸ bit_setBit_same _ _ _ _ (by omega)
    · next h => exact bit_setBit_ne _ _ _ _ _ (by omega) (Ne.symm h)
  refine ⟨(hreg i).trans ((hbit i).trans (if_pos rfl)), (hreg j).trans ((hbit j).trans (if_neg hne.symm)), ?_,
    (adcEnabled_effect _ _ _).framed_acq, noEvent_after (congrArg LogSt.raised (adcEnabled_log _ _ _))⟩
  rw [← hbit 0, ← hbit 1]
  exact (settle_acq _).trans (adcEnabled_effect _ _ _).acq_eq

/-- SD_EN = 0 ends the sigma-delta streams at once (R232). -/
theorem adcEnabled_sdOff (s : State) : (s.after (s.toDev.adcEnabled 1 false)).bit ACQ_STAT 1 = false := by
  refine (settle_bit _ _ _ (by decide) (by decide)).trans ?_
  have hoff : (s.toDev.setBit ACQ_CTRL 1 false).bit ACQ_CTRL 1 = false := bit_setBit_same _ _ _ _ (by decide)
  dsimp only [Dev.adcEnabled]
  rw [hoff]
  exact bit_setBit_same _ _ _ _ (by decide)

theorem acqEnable_locked {s : Dev} (h : s.mode ≠ 0) (i : Nat) (on : Bool) : s.acqEnable i on = s.ev 0x0805 0 4 :=
  acqWrite_locked ((if_neg (by simp [inService_true h])).trans (if_pos (Or.inl rfl)))

/-! Settings of a chain. -/

/-- Gain and offset of a band hold 24 bits (R252). -/
theorem regRow_chainBand (n : Fin 40) (b : Fin 8) (a : Nat) (ha : a = ACQ_CH_GAIN n b ∨ a = ACQ_CH_OFS n b) :
    ∃ r, regRow a = some r ∧ r.w1c = 0 ∧ r.rw = 0x00FFFFFF := by
  have hrows : ∀ n : Fin 40, ∀ b : Fin 8,
      (regRow (ACQ_CH_GAIN n b)).map (fun r => (r.w1c, r.rw)) = some (0, 0x00FFFFFF) ∧
      (regRow (ACQ_CH_OFS n b)).map (fun r => (r.w1c, r.rw)) = some (0, 0x00FFFFFF) := by decide
  have hrow : (regRow a).map (fun r => (r.w1c, r.rw)) = some (0, 0x00FFFFFF) := by
    rcases ha with rfl | rfl
    exacts [(hrows n b).1, (hrows n b).2]
  obtain ⟨r, hr, hpair⟩ := Option.map_eq_some_iff.mp hrow
  exact ⟨r, hr, (Prod.mk.inj hpair).1, (Prod.mk.inj hpair).2⟩

/-- A band's setting is stored and has no effect of its own (R237, R240). -/
theorem acqWrite_chainBand {s : Dev} {a : Nat} {v : Word} (n : Fin 40) (b : Fin 8) (h : s.mode = 0)
    (ha : a = ACQ_CH_GAIN n b ∨ a = ACQ_CH_OFS n b) :
    s.acqWrite a v = s.wr a ((s.rd a &&& 0xFF000000#32) ||| (v &&& 0x00FFFFFF#32)) := by
  obtain ⟨r, hr, hw1c, hrw⟩ := regRow_chainBand n b a ha
  have hn := n.isLt
  have hb := b.isLt
  obtain ⟨hlo, hhi, hoff⟩ : 0x1C1000 ≤ a ∧ a < 0x1C3800 ∧ 8 ≤ (a - 0x1C1000) % 0x100 := by
    rcases ha with h | h <;> simp only [ACQ_CH_GAIN, ACQ_CH_OFS, chWin] at h <;> omega
  have hload : loadChecked a = none := by
    unfold loadChecked
    simp only [chWin, ACQ_SAR_SEQ]
    rw [if_neg (by omega), if_neg (by omega)]
  rw [acqWrite_plain (acqLocked_of_watch h _ _) hload (by simp only [ACQ_FIR_SHADOW]; omega), Dev.acqSide]
  simp only [ACQ_CTRL, chWin, ACQ_PULSE_CFG]
  rw [if_neg (by omega), if_neg (by omega), if_neg (by omega), store_eq_wr_rw hr hw1c, hrw]
  rfl

theorem chainWrite_acq {s : Dev} {a : Nat} {v : Word} (hblock : blockOf a = .acq) (ha : a % 4 = 0) :
    s.chainWrite a v = s.acqWrite a v :=
  if_pos ⟨hblock, ha⟩

theorem chainBand_addr {a : Nat} (n : Fin 40) (b : Fin 8) (ha : a = ACQ_CH_GAIN n b ∨ a = ACQ_CH_OFS n b) :
    blockOf a = .acq ∧ a % 4 = 0 ∧ a ≠ SAFE_OUT_STAT ∧ a ≠ SAFE_STAT := by
  have hn := n.isLt
  have hb := b.isLt
  obtain ⟨hlo, hhi, h4⟩ : 0x1C1000 ≤ a ∧ a < 0x1C3800 ∧ a % 4 = 0 := by
    rcases ha with h | h <;> simp only [ACQ_CH_GAIN, ACQ_CH_OFS, chWin] at h <;> omega
  refine ⟨?_, h4, by simp only [SAFE_OUT_STAT]; omega, by simp only [SAFE_STAT]; omega⟩
  unfold blockOf
  iterate 9 rw [if_neg (by omega)]
  exact if_pos (by omega)

theorem chainBand_answers {a : Addr} {s : State} (v : Word) (n : Fin 40) (b : Fin 8)
    (ha : a.toNat = ACQ_CH_GAIN n b ∨ a.toNat = ACQ_CH_OFS n b) (h : s.mode = 0) :
    Answers (.chainConfigWrite a v) s fun t => t.rd a.toNat = (s.rd a.toNat &&& 0xFF000000#32) ||| (v &&& 0x00FFFFFF#32) ∧
      OnlyRegs [a.toNat] s t ∧ NoEvent s t := by
  obtain ⟨hblock, h4, hout, hstat⟩ := chainBand_addr n b ha
  refine answers_of_done (congrArg (done s) ((chainWrite_acq hblock h4).trans (acqWrite_chainBand n b h ha)))
    ⟨(settle_rd _ _ hout hstat).trans (rd_wr_same _ _ _), ((Effect.refl _ _).wr (by simp) _).framed, noEvent_after rfl⟩

/-- Settles O27: outside service a write is stored, in service the lock answers with its event. -/
theorem acquisitionWrites : Obligations.AcquisitionWrites := by
  unfold Obligations.AcquisitionWrites
  refine fun on a v s => ⟨fun h => ?_, fun h => ?_, fun h => ⟨?_, ?_⟩, fun n b ha h => chainBand_answers v n b ha h,
    fun k hblock h4 hk => ?_, fun h => ?_⟩
  · obtain ⟨hset, hother, hacq, hframe, hevent⟩ := adcEnabled_after s (i := 0) (j := 1) (by decide) (by decide) on
    exact answers_of_done (congrArg (done s) (acqEnable_of_watch h (by decide) on))
      ⟨hset, hother, by simpa using congrArg AcqSt.sarPend hacq, by simpa using congrArg AcqSt.sdPend hacq, hframe, hevent⟩
  · obtain ⟨hset, hother, hacq, hframe, hevent⟩ := adcEnabled_after s (i := 1) (j := 0) (by decide) (by decide) on
    exact answers_of_done (congrArg (done s) (acqEnable_of_watch h (by decide) on))
      ⟨hset, hother, by simpa using congrArg AcqSt.sdPend hacq, by simpa using congrArg AcqSt.sarPend hacq, (fun hoff => by subst hoff; exact adcEnabled_sdOff s), hframe, hevent⟩
  · exact event_answers (congrArg (done s) (acqEnable_locked h 0 on))
  · exact event_answers (congrArg (done s) (acqEnable_locked h 1 on))
  · exact event_answers (congrArg (done s) ((chainWrite_acq hblock h4).trans (acqWrite_locked hk)))
  · exact noEffect_of_done rfl (if_neg (by tauto))

end Sys2Proof.Machine
end

section
/-! The SAR converter's slots and the calibration that they feed (R229 to R231). -/

namespace Sys2Proof.Machine

/-! Chains that are updated one after the other. -/

/-- The update of each of the first k chains that meets a condition. -/
def Dev.eachChain (s : Dev) (k : Nat) (c : Dev → Nat → Bool) (f : ChainSt → ChainSt) : Dev :=
  s.each (List.range k) fun d n => if c d n then d.setChain n f else d

section
variable {s : Dev} {k : Nat} {c : Dev → Nat → Bool} {f : ChainSt → ChainSt}

theorem eachChain_succ : s.eachChain (k + 1) c f =
    if c (s.eachChain k c f) k then (s.eachChain k c f).setChain k f else s.eachChain k c f := by
  unfold Dev.eachChain Dev.each
  rw [List.range_succ, List.foldl_append]
  rfl

theorem eachChain_regs : (s.eachChain k c f).regs = s.regs :=
  each_keeps Dev.regs _ (fun d n => by split <;> rfl) _ _

theorem eachChain_log : (s.eachChain k c f).log = s.log :=
  each_keeps Dev.log _ (fun d n => by split <;> rfl) _ _

theorem eachChain_effect (l : List Nat) : ∃ x, Effect l s (s.eachChain k c f) { blocks s with acq := { s.acq with chain := x } } := by
  induction k with
  | zero => exact ⟨s.acq.chain, Effect.refl l s⟩
  | succ k ih =>
    obtain ⟨x, hx⟩ := ih
    rw [eachChain_succ]
    split
    · have hacq : (s.eachChain k c f).acq = { s.acq with chain := x } := hx.acq_eq
      refine ⟨modAt x k f, ?_⟩
      have hset := hx.acq { (s.eachChain k c f).acq with chain := modAt (s.eachChain k c f).acq.chain k f }
      rw [hacq] at hset
      unfold Dev.setChain
      rw [hacq]
      exact hset
    · exact ⟨x, hx⟩

theorem eachChain_length : (s.eachChain k c f).acq.chain.length = s.acq.chain.length :=
  each_keeps (fun d => d.acq.chain.length) _
    (fun d n => by split; exacts [length_modAt _ _ _, rfl]) _ _

/-- Each chain that meets the condition is updated, whatever the others' updates have made of them. -/
theorem chain_eachChain (hc : ∀ d n, d.regs = s.regs → d.chain n = s.chain n → c d n = c s n) (hk : k ≤ s.acq.chain.length) (m : Nat) :
    (s.eachChain k c f).chain m = if m < k ∧ c s m = true then f (s.chain m) else s.chain m := by
  induction k generalizing m with
  | zero => simp [Dev.eachChain, Dev.each]
  | succ k ih =>
    have hlen : k < (s.eachChain k c f).acq.chain.length := by
      rw [eachChain_length]
      exact hk
    have hown : (s.eachChain k c f).chain k = s.chain k :=
      (ih (Nat.le_of_succ_le hk) k).trans (if_neg fun h => Nat.lt_irrefl _ h.1)
    have hcond : c (s.eachChain k c f) k = c s k := hc _ _ eachChain_regs hown
    rw [eachChain_succ, hcond]
    by_cases hm : m = k
    · subst hm
      cases hs : c s m
      · simpa [hs] using hown
      · rw [if_pos rfl, chain_setChain_same _ _ _ hlen, hown, if_pos ⟨Nat.lt_succ_self m, rfl⟩]
    · have hother : (if c s k = true then (s.eachChain k c f).setChain k f else s.eachChain k c f).chain m =
          (s.eachChain k c f).chain m := by
        split
        · exact chain_setChain_ne _ _ _ _ hm
        · rfl
      rw [hother, ih (Nat.le_of_succ_le hk) m]
      have hlt : m < k + 1 ↔ m < k := by omega
      simp only [hlt]

end

/-! A step of a chain touches the windows alone. -/

/-- The engine beside its chains. -/
def Dev.acqRest (s : Dev) : AcqSt := { s.acq with chain := [] }

theorem chainStep_acqRest (s : Dev) (n : Nat) : (s.chainStep n).acqRest = s.acqRest := (rfl)

theorem chainStep_log (s : Dev) (n : Nat) : (s.chainStep n).log = s.log := by
  simp [Dev.chainStep]

/-- A frame boundary of the sequence puts the registers in force (R231). -/
theorem sarFrame_acqRest (s : Dev) : s.sarFrame.acqRest = { s.acqRest with seq := s.seqRegs, range := s.rd ACQ_SAR_RANGE } :=
  each_keeps Dev.acqRest _ (fun d n => by dsimp only; split; exacts [chainStep_acqRest d n, rfl]) _ _

theorem sarFrame_log (s : Dev) : s.sarFrame.log = s.log :=
  each_keeps Dev.log _ (fun d n => by dsimp only; split; exacts [chainStep_log d n, rfl]) _ _

/-! A slot of the sequence. -/

/-- A running chain of an input. -/
def Dev.feeds (i : Nat) (d : Dev) (n : Nat) : Bool := d.chainRun n && (d.chain n).cur.src == i

/-- The value of a code joins the window of a chain. -/
def ChainSt.take (x : ChainSt) (v : Int) : ChainSt := { x with win := x.win ++ [v] }

/-- The value of a code under the corrections in force (R230). -/
def Dev.slotValue (s : Dev) (code : BitVec 16) : Int :=
  sarValue code.toInt (signed 16 (s.fld ACQ_CAL 15 0)) (signed 16 (s.fld ACQ_CAL 31 16))

/-- A live slot feeds the chains of its input. -/
def Dev.slotFeeds (s : Dev) (slot : Nat) (code : BitVec 16) : Dev :=
  match seqEntry s.acq.seq slot with
  | none => s
  | some i => s.eachChain 16 (Dev.feeds i) fun x => x.take (s.slotValue code)

theorem sarConversion_frame {s : Dev} (h : s.bit ACQ_STAT 0 = true) (code : BitVec 16) :
    s.sarConversion 0 code = s.sarFrame.slotFeeds 0 code := by
  unfold Dev.sarConversion
  rw [h]
  rfl

theorem sarConversion_live {s : Dev} (h : s.bit ACQ_STAT 0 = true) {slot : Nat} (h0 : slot ≠ 0) (h63 : slot ≠ 63)
    (code : BitVec 16) : s.sarConversion slot code = s.slotFeeds slot code := by
  unfold Dev.sarConversion
  rw [h]
  dsimp only
  rw [if_neg h0, if_neg h63]
  rfl

theorem slotFeeds_log (s : Dev) (slot : Nat) (code : BitVec 16) : (s.slotFeeds slot code).log = s.log := by
  unfold Dev.slotFeeds
  split
  exacts [rfl, eachChain_log]

theorem slotFeeds_acqRest (s : Dev) (slot : Nat) (code : BitVec 16) : (s.slotFeeds slot code).acqRest = s.acqRest := by
  unfold Dev.slotFeeds
  split
  · rfl
  · exact each_keeps Dev.acqRest _ (fun d n => by split <;> rfl) _ _

theorem feeds_of_kept {s d : Dev} (i n : Nat) (hregs : d.regs = s.regs) (hchain : d.chain n = s.chain n) :
    Dev.feeds i d n = Dev.feeds i s n := by
  unfold Dev.feeds Dev.chainRun Dev.bit Dev.rd
  rw [hregs, hchain]

/-- The calibration slot (R230). -/
theorem sarConversion_calibration {s : Dev} (h : s.bit ACQ_STAT 0 = true) (code : BitVec 16) :
    s.sarConversion 63 code = { s with acq := { s.acq with
        calKind := !s.acq.calKind, calCnt := (s.acq.calCnt + 1) % 64, calDue := s.acq.calDue || s.acq.calCnt == 63,
        zeros := if s.acq.calKind then s.acq.zeros else (code.toInt :: s.acq.zeros).take 32,
        refs := if s.acq.calKind then (code.toInt :: s.acq.refs).take 32 else s.acq.refs } } := by
  have hdue : (s.acq.calCnt + 1 == 64) = (s.acq.calCnt == 63) := by
    rw [Bool.eq_iff_iff, beq_iff_eq, beq_iff_eq]
    omega
  unfold Dev.sarConversion
  rw [h, ← hdue]
  simp only [OfNat.ofNat_ne_zero, Bool.not_true, Bool.false_eq_true, if_false, if_true]
  cases s.acq.calKind <;> rfl

/-- A live slot's code reaches the running chains of its input, and no other (R230). -/
theorem sarLive_answers {slot : Fin 64} {code : BitVec 16} {s : State} (hs : Shaped s.toDev) (hon : s.bit ACQ_STAT 0 = true)
    (h0 : slot ≠ 0) (h63 : slot ≠ 63) (i : Nat) (hi : seqEntry s.acq.seq slot = some i) :
    Answers (.sarConversion slot code) s fun t =>
        (∀ n, n < 16 → s.chainRun n = true → (s.chain n).cur.src = i → t.chain n = { s.chain n with
          win := (s.chain n).win ++ [sarValue code.toInt (signed 16 (s.fld ACQ_CAL 15 0)) (signed 16 (s.fld ACQ_CAL 31 16))] }) ∧
        (∀ n, s.chainRun n = false ∨ (s.chain n).cur.src ≠ i ∨ 16 ≤ n → t.chain n = s.chain n) ∧
        Framed [] s t { blocks s.toDev with acq := t.acq } ∧ NoEvent s t := by
  have hdone : s.toDev.sarConversion slot code = s.toDev.eachChain 16 (Dev.feeds i) fun x => x.take (s.toDev.slotValue code) := by
    rw [sarConversion_live hon (fun h => h0 (Fin.ext h)) (fun h => h63 (Fin.ext h)), Dev.slotFeeds, hi]
  have hchain (n : Nat) : (s.after (s.toDev.eachChain 16 (Dev.feeds i) fun x => x.take (s.toDev.slotValue code))).chain n =
      if n < 16 ∧ Dev.feeds i s.toDev n = true then (s.chain n).take (s.toDev.slotValue code) else s.chain n := by
    refine (congrArg (fun x : AcqSt => x.chain.getD n {}) (settle_acq _)).trans ?_
    exact chain_eachChain (fun d n => feeds_of_kept i n) (by rw [hs.chain]; decide) n
  obtain ⟨x, hframe⟩ := eachChain_effect (s := s.toDev) (k := 16) (c := Dev.feeds i) (f := fun x => x.take (s.toDev.slotValue code)) []
  refine answers_of_done (congrArg (done s) hdone) ⟨fun n hn hrun hsrc => ?_, fun n hn => ?_, hframe.framed_acq,
    noEvent_after (congrArg LogSt.raised eachChain_log)⟩
  · exact (hchain n).trans (if_pos ⟨hn, by simp [Dev.feeds, hrun, hsrc]⟩)
  · refine (hchain n).trans (if_neg ?_)
    rintro ⟨hlt, hfeeds⟩
    obtain ⟨hrun, hsrc⟩ : s.chainRun n = true ∧ (s.chain n).cur.src = i := by simpa [Dev.feeds] using hfeeds
    rcases hn with hn | hn | hn
    exacts [absurd (hn.symm.trans hrun) (by decide), hn hsrc, absurd hlt (by omega)]

/-- Settles O28: by the slot, which begins a frame, calibrates or samples an input. -/
theorem sarConversions : Obligations.SarConversions := by
  unfold Obligations.SarConversions
  refine fun slot code s hs => ⟨fun h => noEffect_of_done rfl (if_pos (by simp [h])), fun h h0 => ?_, fun h h63 => ?_, fun h h0 h63 =>
    ⟨fun hnone => ?_, sarLive_answers hs h h0 h63⟩⟩
  · subst h0
    have hrest : (s.toDev.sarFrame.slotFeeds 0 code).acqRest =
        { s.acqRest with seq := s.seqRegs, range := s.rd ACQ_SAR_RANGE } := (slotFeeds_acqRest _ _ _).trans (sarFrame_acqRest _)
    refine answers_of_done (congrArg (done s) (sarConversion_frame h code)) ?_
    rw [settle_acq]
    exact ⟨(congrArg AcqSt.seq hrest :), (congrArg AcqSt.range hrest :), (congrArg AcqSt.zeros hrest :), (congrArg AcqSt.refs hrest :),
      noEvent_after (congrArg LogSt.raised ((slotFeeds_log _ _ _).trans (sarFrame_log _)))⟩
  · subst h63
    refine answers_of_done (congrArg (done s) (sarConversion_calibration h code)) ⟨settle_acq _, ?_, noEvent_after rfl⟩
    exact ((Effect.refl [] s.toDev).acq _).framed_acq
  · refine noEffect_of_done rfl ?_
    rw [sarConversion_live h (fun e => h0 (Fin.ext e)) (fun e => h63 (Fin.ext e)), Dev.slotFeeds, hnone]

end Sys2Proof.Machine
end

section
/-! Updates of the calibration (R230). -/

namespace Sys2Proof.Machine

/-- Frames compose: the second begins where the first ends. -/
theorem Effect.trans {l : List Nat} {s d e b c : Dev} (h : Effect l s d b) (g : Effect l d e c) : Effect l s e c :=
  ⟨fun a ha => (g.regs a ha).trans (h.regs a ha), g.engines, g.seq.trans h.seq, by
    have hlog := g.log
    rw [← h.log, ← hlog], g.safe.trans h.safe⟩

/-- The update is made: no update is due any more, and the run of updates inside the limits is k. -/
def Dev.calTaken (s : Dev) (k : Nat) : Dev := { s with acq := { s.acq with calDue := false, calOkRun := k } }

section
variable {s : Dev} {z e : Rat}

theorem calMove_outside (h : 256 < absRat z ∨ 1 < 100 * absRat e) : s.calMove z e =
    ((s.calTaken 0).setBit ACQ_STAT 2 true).ev 0x0806 0 (if 256 < absRat z then 1 else 2) := by
  unfold Dev.calMove
  dsimp only
  rw [if_pos (by simpa using h)]
  by_cases hz : 256 < absRat z <;> simp [hz, Dev.calTaken]

theorem calMove_inside (hz : absRat z ≤ 256) (he : 100 * absRat e ≤ 1) : s.calMove z e =
    if s.bit ACQ_STAT 2 then
      if 4 ≤ s.acq.calOkRun + 1 then
        (((s.calTaken 0).setBit ACQ_STAT 2 false).ev 0x0807 0 0).eachChain 16 Dev.chainRun fun x => { x with stepPend := true }
      else s.calTaken (s.acq.calOkRun + 1)
    else
      ((s.calTaken s.acq.calOkRun).setFld ACQ_CAL 15 0 (unsigned 16 (signed 16 (s.fld ACQ_CAL 15 0) +
          clampInt (-1) 1 (roundRat z - signed 16 (s.fld ACQ_CAL 15 0))))).setFld ACQ_CAL 31 16
        (unsigned 16 (signed 16 (s.fld ACQ_CAL 31 16) +
          clampInt (-1) 1 (roundRat (e * 65536) - signed 16 (s.fld ACQ_CAL 31 16)))) := by
  unfold Dev.calMove
  dsimp only
  rw [if_neg (by simpa using ⟨hz, he⟩)]
  rfl

theorem calUpdate_due {s : Dev} {z e ideal : Rat} (hdue : s.acq.calDue = true) (hz : z = meanOf s.acq.zeros)
    (he : e = gainErrorOf z (meanOf s.acq.refs) ideal) : s.calUpdate z ideal = s.calMove z e := by
  rw [he]
  exact if_pos (by simp [Dev.calShows, hdue, ← hz])

theorem calUpdate_idle {s : Dev} {z ideal : Rat} (h : s.acq.calDue = false ∨ z ≠ meanOf s.acq.zeros) : s.calUpdate z ideal = s :=
  if_neg (by rcases h with h | h <;> simp [Dev.calShows, h])

theorem calTaken_effect (l : List Nat) (s : Dev) (k : Nat) :
    Effect l s (s.calTaken k) { blocks s with acq := { s.acq with calDue := false, calOkRun := k } } :=
  (Effect.refl l s).acq _

end

/-- Every update that is made leaves the means and is not due again. -/
theorem calMove_acq (s : Dev) (z e : Rat) :
    (s.calMove z e).acq.calDue = false ∧ (s.calMove z e).acq.zeros = s.acq.zeros ∧ (s.calMove z e).acq.refs = s.acq.refs := by
  by_cases h : 256 < absRat z ∨ 1 < 100 * absRat e
  · rw [calMove_outside h]
    exact ⟨rfl, rfl, rfl⟩
  · obtain ⟨hz, he⟩ := not_or.mp h
    rw [calMove_inside (not_lt.mp hz) (not_lt.mp he)]
    split_ifs
    · obtain ⟨x, hx⟩ := eachChain_effect (s := ((s.calTaken 0).setBit ACQ_STAT 2 false).ev 0x0807 0 0) (k := 16) (c := Dev.chainRun)
        (f := fun x => { x with stepPend := true }) []
      rw [hx.acq_eq]
      exact ⟨rfl, rfl, rfl⟩
    · exact ⟨rfl, rfl, rfl⟩
    · exact ⟨rfl, rfl, rfl⟩

section
variable {s : State} {z e ideal : Rat} (hdue : s.acq.calDue = true) (hz : z = meanOf s.acq.zeros)
  (he : e = gainErrorOf z (meanOf s.acq.refs) ideal)
include hdue hz he

theorem calOutside_answers (h : 256 < absRat z ∨ 1 < 100 * absRat e) :
    Answers (.calUpdate z ideal) s fun t => t.bit ACQ_STAT 2 = true ∧
        t.acq = { s.acq with calDue := false, calOkRun := 0 } ∧
        OneEvent s t 0x0806 0#32 (if 256 < absRat z then 1#32 else 2#32) ∧
        Framed [ACQ_STAT] s t { blocks s.toDev with acq := t.acq } := by
  refine answers_of_done (congrArg (done s) ((calUpdate_due hdue hz he).trans (calMove_outside h))) ?_
  have hparam : BitVec.ofNat 32 (if 256 < absRat z then 1 else 2) = if 256 < absRat z then 1#32 else 2#32 := by split <;> rfl
  rw [← hparam]
  have heff := ((calTaken_effect [ACQ_STAT] s.toDev 0).setBit (a := ACQ_STAT) (by simp) 2 true).ev 0x0806 0 (if 256 < absRat z then 1 else 2)
  exact ⟨(settle_bit _ _ _ (by decide) (by decide)).trans (bit_setBit_same _ _ _ _ (by decide)), (settle_acq _).trans heff.acq_eq,
    oneEvent_ev rfl rfl, heff.framed_acq⟩

theorem calInside_answers (hz' : absRat z ≤ 256) (he' : 100 * absRat e ≤ 1) (hfault : s.bit ACQ_STAT 2 = false) :
    Answers (.calUpdate z ideal) s fun t =>
        t.fld ACQ_CAL 15 0 =
          unsigned 16 (signed 16 (s.fld ACQ_CAL 15 0) + clampInt (-1) 1 (roundRat z - signed 16 (s.fld ACQ_CAL 15 0))) ∧
        t.fld ACQ_CAL 31 16 =
          unsigned 16 (signed 16 (s.fld ACQ_CAL 31 16) + clampInt (-1) 1 (roundRat (e * 65536) - signed 16 (s.fld ACQ_CAL 31 16))) ∧
        t.acq = { s.acq with calDue := false } ∧
        Framed [ACQ_CAL] s t { blocks s.toDev with acq := t.acq } ∧ NoEvent s t := by
  have hmove := (calMove_inside (s := s.toDev) hz' he').trans (if_neg (by simp [hfault]))
  refine answers_of_done (congrArg (done s) ((calUpdate_due hdue hz he).trans hmove)) ?_
  have hlt : ∀ x : Int, unsigned 16 x < 65536 := fun x => by
    unfold unsigned
    omega
  have heff := ((calTaken_effect [ACQ_CAL] s.toDev s.acq.calOkRun).setFld (a := ACQ_CAL) (by simp) 15 0
    (unsigned 16 (signed 16 (s.fld ACQ_CAL 15 0) + clampInt (-1) 1 (roundRat z - signed 16 (s.fld ACQ_CAL 15 0))))).setFld
      (a := ACQ_CAL) (by simp) 31 16
    (unsigned 16 (signed 16 (s.fld ACQ_CAL 31 16) + clampInt (-1) 1 (roundRat (e * 65536) - signed 16 (s.fld ACQ_CAL 31 16))))
  refine ⟨(settle_fld _ _ _ _ (by decide) (by decide)).trans ?_, (settle_fld _ _ _ _ (by decide) (by decide)).trans ?_,
    (settle_acq _).trans heff.acq_eq, heff.framed_acq, noEvent_after (by simp [Dev.calTaken])⟩
  · rw [fld_setFld_ne _ _ _ _ _ _ _ (by decide) (by decide) (by decide), fld_setFld_same _ _ _ _ _ (by decide) (by decide)]
    exact Nat.mod_eq_of_lt (hlt _)
  · rw [fld_setFld_same _ _ _ _ _ (by decide) (by decide)]
    exact Nat.mod_eq_of_lt (hlt _)

theorem calMending_answers (hz' : absRat z ≤ 256) (he' : 100 * absRat e ≤ 1) (hfault : s.bit ACQ_STAT 2 = true)
    (hrun : s.acq.calOkRun < 3) : Answers (.calUpdate z ideal) s fun t =>
          t.acq = { s.acq with calDue := false, calOkRun := s.acq.calOkRun + 1 } ∧
          Framed [] s t { blocks s.toDev with acq := t.acq } ∧ NoEvent s t := by
  have hmove := (calMove_inside (s := s.toDev) hz' he').trans ((if_pos hfault).trans (if_neg (by omega)))
  exact answers_of_done (congrArg (done s) ((calUpdate_due hdue hz he).trans hmove))
    ⟨settle_acq _, (calTaken_effect [] _ _).framed_acq, noEvent_after rfl⟩

theorem calMended_answers (hz' : absRat z ≤ 256) (he' : 100 * absRat e ≤ 1) (hfault : s.bit ACQ_STAT 2 = true)
    (hrun : 3 ≤ s.acq.calOkRun) (hs : Shaped s.toDev) :
    Answers (.calUpdate z ideal) s fun t => t.bit ACQ_STAT 2 = false ∧ t.acq.calOkRun = 0 ∧
          (∀ n, n < 16 → s.chainRun n = true → t.chain n = { s.chain n with stepPend := true }) ∧
          (∀ n, s.chainRun n = false ∨ 16 ≤ n → t.chain n = s.chain n) ∧
          OneEvent s t 0x0807 0#32 0#32 ∧ Framed [ACQ_STAT] s t { blocks s.toDev with acq := t.acq } := by
  have hmove := (calMove_inside (s := s.toDev) hz' he').trans ((if_pos hfault).trans (if_pos (by omega)))
  refine answers_of_done (congrArg (done s) ((calUpdate_due hdue hz he).trans hmove)) ?_
  have hrunKept : ∀ n, ((s.toDev.calTaken 0).setBit ACQ_STAT 2 false).chainRun n = s.chainRun n := fun n =>
    bit_setBit_other _ _ _ _ _ _ (by simp only [ACQ_CH_STAT, chWin, ACQ_STAT]; omega)
  have hmend := ((calTaken_effect [ACQ_STAT] s.toDev 0).setBit (a := ACQ_STAT) (by simp) 2 false).ev 0x0807 0 0
  have hstat : (((s.toDev.calTaken 0).setBit ACQ_STAT 2 false).ev 0x0807 0 0).bit ACQ_STAT 2 = false :=
    bit_setBit_same _ _ _ _ (by decide)
  have hlen : 16 ≤ (((s.toDev.calTaken 0).setBit ACQ_STAT 2 false).ev 0x0807 0 0).acq.chain.length := by
    rw [hmend.acq_eq]
    exact hs.chain.symm ▸ (by decide : 16 ≤ 40)
  have hchains : ∀ n, (((s.toDev.calTaken 0).setBit ACQ_STAT 2 false).ev 0x0807 0 0).chain n = s.chain n := fun n => by
    unfold Dev.chain
    rw [hmend.acq_eq]
  generalize hd : ((s.toDev.calTaken 0).setBit ACQ_STAT 2 false).ev 0x0807 0 0 = d at hmend hstat hlen hchains
  have hruns : ∀ n, d.chainRun n = s.chainRun n := fun n => hd ▸ hrunKept n
  obtain ⟨x, hx⟩ := eachChain_effect (s := d) (k := 16) (c := Dev.chainRun) (f := fun x => { x with stepPend := true }) [ACQ_STAT]
  have hchain (n : Nat) : (s.after (d.eachChain 16 Dev.chainRun fun x => { x with stepPend := true })).chain n =
      if n < 16 ∧ s.chainRun n = true then { s.chain n with stepPend := true } else s.chain n := by
    refine (congrArg (fun x : AcqSt => x.chain.getD n {}) (settle_acq _)).trans ?_
    refine (chain_eachChain (fun e m hregs _ => ?_) hlen n).trans ?_
    · simp only [Dev.chainRun, Dev.bit, Dev.rd, hregs]
    · rw [hruns, hchains]
  refine ⟨(settle_bit _ _ _ (by decide) (by decide)).trans ?_, ?_, fun n hn hon => (hchain n).trans (if_pos ⟨hn, hon⟩),
    fun n hn => (hchain n).trans (if_neg ?_), oneEvent_ev (d := (s.toDev.calTaken 0).setBit ACQ_STAT 2 false) ?_ rfl, ?_⟩
  · unfold Dev.bit Dev.rd
    rw [eachChain_regs]
    exact hstat
  · rw [settle_acq, hx.acq_eq, hmend.acq_eq]
  · rintro ⟨hlt, hon⟩
    rcases hn with hn | hn
    exacts [absurd (hn.symm.trans hon) (by decide), absurd hlt (by omega)]
  · rw [eachChain_log, hd]
  · rw [hmend.engines] at hx
    exact (hmend.trans hx).framed_acq

end

/-- Settles O29: an update is due or is none; its offset and gain error decide. -/
theorem calibrationUpdates : Obligations.CalibrationUpdates := by
  unfold Obligations.CalibrationUpdates
  refine fun s z ideal => ⟨fun h => noEffect_of_done rfl (calUpdate_idle h), fun e hdue hz he => ⟨?_, fun h => calOutside_answers hdue hz he h,
    fun hz' he' hf => calInside_answers hdue hz he hz' he' hf, fun hz' he' hf => ⟨fun hr => calMending_answers hdue hz he hz' he' hf hr,
      fun hr hs => calMended_answers hdue hz he hz' he' hf hr hs⟩⟩⟩
  refine answers_of_done (congrArg (done s) (calUpdate_due hdue hz he)) ?_
  rw [settle_acq]
  exact calMove_acq _ _ _

end Sys2Proof.Machine
end

section
/-! Records of a chain (R234, R238, R239, R242). -/

namespace Sys2Proof.Machine

/-- The frame of an operation on chains: beside the listed registers the windows alone change. -/
def ChainEffect (l : List Nat) (s d : Dev) : Prop :=
  ∃ x : List ChainSt, x.length = s.acq.chain.length ∧ Effect l s d { blocks s with acq := { s.acq with chain := x } }

section
variable {l : List Nat} {s d e : Dev}

theorem ChainEffect.refl (l : List Nat) (s : Dev) : ChainEffect l s s := ⟨s.acq.chain, rfl, Effect.refl l s⟩

theorem ChainEffect.map (h : ChainEffect l s d) (f : ∀ b, Effect l s d b → Effect l s e b) : ChainEffect l s e :=
  h.imp fun _ hx => ⟨hx.1, f _ hx.2⟩

theorem ChainEffect.setChain (h : ChainEffect l s d) (n : Nat) (f : ChainSt → ChainSt) : ChainEffect l s (d.setChain n f) := by
  obtain ⟨x, hlen, hx⟩ := h
  refine ⟨modAt x n f, (length_modAt _ _ _).trans hlen, ?_⟩
  have hset := hx.acq { d.acq with chain := modAt d.acq.chain n f }
  rw [hx.acq_eq] at hset
  unfold Dev.setChain
  rw [hx.acq_eq]
  exact hset

theorem ChainEffect.ite (c : Prop) [Decidable c] (hd : ChainEffect l s d) (he : ChainEffect l s e) :
    ChainEffect l s (if c then d else e) := by
  split
  exacts [hd, he]

theorem ChainEffect.acqRest (h : ChainEffect l s d) : d.acqRest = s.acqRest := by
  obtain ⟨x, -, hx⟩ := h
  unfold Dev.acqRest
  rw [hx.acq_eq]

theorem ChainEffect.length (h : ChainEffect l s d) : d.acq.chain.length = s.acq.chain.length := by
  obtain ⟨x, hlen, hx⟩ := h
  rw [hx.acq_eq]
  exact hlen

theorem ChainEffect.framed {s : State} (h : ChainEffect l s.toDev d) : Framed l s (s.after d) { blocks s.toDev with acq := (s.after d).acq } := by
  obtain ⟨x, -, hx⟩ := h
  exact hx.framed_acq

end

theorem chain_settle (d : Dev) (n : Nat) : d.settle.chain n = d.chain n := by rw [Dev.chain, Dev.chain, settle_acq]

/-! The stages of a record. -/

/-- The stages' registers after the window's samples (R234 to R236). -/
def Dev.chainFilter (s : Dev) (n : Nat) (now rest : List Int) : Dev :=
  let x := s.chain n
  let r := cic x.integ x.comb now
  let a' := sat24 (shiftRound (bitsOf x.cur.cfg.toNat 22 18) r.2.2)
  s.setChain n fun y => { y with integ := r.1, comb := r.2.1, fir := (a' :: x.fir).take x.cur.taps, win := rest }

/-- The value of a record, whether it has been saturated, and the first stage that did (R235, R240). -/
def Dev.chainValue (s : Dev) (n : Nat) (now : List Int) : Int × Bool × Nat :=
  let x := s.chain n
  let c := x.cur
  let l := c.taps
  let a := shiftRound (bitsOf c.cfg.toNat 22 18) (cic x.integ x.comb now).2.2
  let a' := sat24 a
  let f := if l = 0 then a' else s.firOut n l ((a' :: x.fir).take l)
  let b := shiftRound (bitsOf c.cfg.toNat 27 23) f
  let b' := sat24 b
  let d := if bitOf c.cfg.toNat 28 then compensate (c.gain.getD x.band 0) (c.ofs.getD x.band 0) b' else b'
  let d' := sat24 d
  (d', a != a' || b != b' || d != d', if a != a' then 0 else if b != b' then 1 else 2)

/-- The record of a chain whose stream is not stuck, with its saturation (R233, R235, R242). -/
def Dev.chainShow (s : Dev) (n : Nat) (v : Int × Bool × Nat) (prev : Bool) (stamp : Word) : Dev :=
  if s.bit (ACQ_CH_STAT n) 3 then s
  else
    let s := s.setBit (ACQ_CH_STAT n) 2 v.2.1
    let s := if v.2.1 && !prev then s.ev 0x0802 n v.2.2 else s
    (s.setChain n fun x => { x with satPrev := v.2.1 }).deliver n v.1 stamp

theorem chainRecord_window {s : Dev} {n : Nat} {bits : List Bool} {now rest : List Int} (hrun : s.chainRun n = true)
    (hwin : s.window n bits = some (now, rest)) (stamp : Word) (coefBad : Option Nat) :
    s.chainRecord n bits stamp coefBad = match (if (s.chain n).cur.taps = 0 then none else coefBad) with
      | some k => (((s.chainFilter n now rest).setBit (ACQ_CH_STAT n) 0 false).countChains).ev 0x0809 n k
      | none => ((s.chainFilter n now rest).chainShow n (s.chainValue n now) (s.chain n).satPrev stamp).chainBoundary n := by
  unfold Dev.chainRecord
  rw [hrun, hwin]
  rfl

theorem chainRecord_none {s : Dev} {n : Nat} {bits : List Bool} (h : s.chainRun n = false ∨ s.window n bits = none) (stamp : Word)
    (coefBad : Option Nat) : s.chainRecord n bits stamp coefBad = s := by
  unfold Dev.chainRecord
  rcases h with h | h
  · rw [h]
    rfl
  · rw [h]
    dsimp only
    split <;> rfl

/-! Delivery. -/

/-- The registers that a record writes. -/
abbrev recordRegs (n : Nat) : List Nat := [ACQ_CH_STAT n, ACQ_CH_SEQ n, ACQ_CH_SUPP n, ACQ_CH_VAL n, ACQ_CH_STAMP n]

/-- A suppressed record counts down and is counted (R238). -/
def Dev.suppressRecord (s : Dev) (n left : Nat) : Dev :=
  ((s.setChain n fun x => { x with suppLeft := left - 1 }).setFld (ACQ_CH_STAT n) 31 16 (left - 1)).cntSat (ACQ_CH_SUPP n) 31 0 1

/-- The first record after a suppression ends it with its event (R238). -/
def Dev.suppressEnd (s : Dev) (n : Nat) : Dev :=
  if s.bit (ACQ_CH_STAT n) 1 then (s.setBit (ACQ_CH_STAT n) 1 false).ev 0x0801 n (s.chain n).suppLen else s

/-- A record that is delivered stands with its stamp (R242). -/
def Dev.showRecord (s : Dev) (n : Nat) (y : Int) (stamp : Word) : Dev :=
  let bad := decide (n < 16) && s.bit ACQ_STAT 2
  let at_ := extendStamp stamp s.tickNs
  ((s.wr (ACQ_CH_VAL n) (BitVec.ofInt 32 y)).wr (ACQ_CH_STAMP n) stamp).setChain n fun x => { x with
    calBad := bad, newCnt := satAdd 16 x.newCnt 1, stampNs := some at_, recBand := x.band, fresh := if bad then x.fresh else some y }

theorem deliver_eq (s : Dev) (n : Nat) (y : Int) (stamp : Word) : s.deliver n y stamp =
    if 0 < (s.chain n).suppLeft then (s.cntWrap (ACQ_CH_SEQ n) 31 0 1).suppressRecord n (s.chain n).suppLeft
    else ((s.cntWrap (ACQ_CH_SEQ n) 31 0 1).suppressEnd n).showRecord n y stamp := by
  unfold Dev.deliver
  dsimp only
  rw [chain_reg s n |>.2.2.2.2.2.2.1]
  rfl

section
variable (s : Dev) (n : Nat)

theorem suppressEnd_effect : ChainEffect (recordRegs n) s (s.suppressEnd n) :=
  ChainEffect.ite _ ((ChainEffect.refl _ _).map fun _ h => (h.setBit (a := ACQ_CH_STAT n) (by simp) _ _).ev _ _ _)
    (ChainEffect.refl _ _)

theorem suppressRecord_effect {d : Dev} (left : Nat) (h : ChainEffect (recordRegs n) s d) :
    ChainEffect (recordRegs n) s (d.suppressRecord n left) :=
  (h.setChain n _).map fun _ h => (h.setFld (a := ACQ_CH_STAT n) (by simp) _ _ _).cntSat (a := ACQ_CH_SUPP n) (by simp) _ _ _

theorem showRecord_effect {d : Dev} (y : Int) (stamp : Word) (h : ChainEffect (recordRegs n) s d) :
    ChainEffect (recordRegs n) s (d.showRecord n y stamp) :=
  (h.map fun _ h => (h.wr (a := ACQ_CH_VAL n) (by simp) _).wr (a := ACQ_CH_STAMP n) (by simp) _).setChain n _

/-- Frames of chains compose. -/
theorem ChainEffect.trans {l : List Nat} {s d e : Dev} (h : ChainEffect l s d) (g : ChainEffect l d e) : ChainEffect l s e := by
  obtain ⟨x, hlen, hx⟩ := h
  obtain ⟨y, hlen', hy⟩ := g
  rw [hx.acq_eq] at hlen'
  rw [hx.engines, hx.acq_eq] at hy
  exact ⟨y, hlen'.trans hlen, hx.trans hy⟩

theorem deliver_effect (y : Int) (stamp : Word) : ChainEffect (recordRegs n) s (s.deliver n y stamp) := by
  have hcount : ChainEffect (recordRegs n) s (s.cntWrap (ACQ_CH_SEQ n) 31 0 1) :=
    (ChainEffect.refl _ _).map fun _ h => h.cntWrap (a := ACQ_CH_SEQ n) (by simp) _ _ _
  rw [deliver_eq]
  exact ChainEffect.ite _ (suppressRecord_effect _ _ _ hcount)
    (showRecord_effect _ _ _ _ (hcount.trans (suppressEnd_effect _ _)))

/-- What a record does not touch of its chain: settings, the band of the window and the step that waits. -/
def ChainSt.settings (x : ChainSt) : ChainCfg × Option ChainCfg × Bool × Nat := (x.cur, x.next, x.stepPend, x.band)

theorem settings_setChain (m : Nat) {f : ChainSt → ChainSt} (h : ∀ x, (f x).settings = x.settings) :
    ((s.setChain n f).chain m).settings = (s.chain m).settings :=
  getD_modAt_keeps _ _ _ _ _ _ h

theorem chain_suppressEnd (m : Nat) : (s.suppressEnd n).chain m = s.chain m := by
  unfold Dev.suppressEnd
  split <;> rfl

theorem deliver_settings (y : Int) (stamp : Word) (m : Nat) : ((s.deliver n y stamp).chain m).settings = (s.chain m).settings := by
  rw [deliver_eq]
  split
  · simp only [Dev.suppressRecord, chain_reg]
    exact settings_setChain _ _ _ fun _ => rfl
  · dsimp only [Dev.showRecord]
    rw [settings_setChain _ _ _ (by exact fun _ => rfl)]
    simp only [chain_reg, chain_suppressEnd]

/-! What a record shows. -/

theorem deliver_seq (y : Int) (stamp : Word) :
    (s.deliver n y stamp).fld (ACQ_CH_SEQ n) 31 0 = (s.fld (ACQ_CH_SEQ n) 31 0 + 1) % 2 ^ 32 := by
  have hcount := fld_cntWrap_same s (ACQ_CH_SEQ n) 31 0 1 (by decide) (by decide)
  rw [deliver_eq]
  split
  · simpa [Dev.suppressRecord] using hcount
  · dsimp only [Dev.showRecord, Dev.suppressEnd]
    split <;> simpa using hcount

theorem deliver_shows (y : Int) (stamp : Word) (hn : n < s.acq.chain.length) (h : (s.chain n).suppLeft = 0) :
    (s.deliver n y stamp).rd (ACQ_CH_STAMP n) = stamp ∧ (s.deliver n y stamp).bit (ACQ_CH_STAT n) 1 = false ∧
      ((s.deliver n y stamp).chain n).recBand = (s.chain n).band := by
  rw [deliver_eq, if_neg (by omega)]
  have hlen : n < ((s.cntWrap (ACQ_CH_SEQ n) 31 0 1).suppressEnd n).acq.chain.length := by
    rw [(suppressEnd_effect _ n).length]
    exact hn
  refine ⟨by simp [Dev.showRecord], ?_, ?_⟩
  · dsimp only [Dev.showRecord, Dev.suppressEnd]
    split
    · simp
    · next hsupp => simpa using hsupp
  · refine (congrArg ChainSt.recBand (chain_setChain_same _ _ _ hlen)).trans ?_
    simp only [chain_reg, chain_suppressEnd]

theorem deliver_suppresses (y : Int) (stamp : Word) (hn : n < s.acq.chain.length) (h : 0 < (s.chain n).suppLeft) :
    ((s.deliver n y stamp).chain n).suppLeft = (s.chain n).suppLeft - 1 ∧
      (s.deliver n y stamp).rd (ACQ_CH_VAL n) = s.rd (ACQ_CH_VAL n) ∧
      (s.deliver n y stamp).rd (ACQ_CH_STAMP n) = s.rd (ACQ_CH_STAMP n) ∧
      (s.deliver n y stamp).fld (ACQ_CH_SUPP n) 31 0 = min 4294967295 (s.fld (ACQ_CH_SUPP n) 31 0 + 1) := by
  rw [deliver_eq, if_pos h]
  refine ⟨?_, by simp [Dev.suppressRecord], by simp [Dev.suppressRecord], ?_⟩
  · simp only [Dev.suppressRecord, chain_reg]
    exact congrArg ChainSt.suppLeft (chain_setChain_same _ _ _ hn)
  · refine (fld_cntSat_same _ _ _ _ _ (by decide) (by decide)).trans ?_
    simp

end

/-! The record with its saturation. -/

/-- The saturation of a record is shown before the record (R235). -/
def Dev.satShown (s : Dev) (n : Nat) (v : Int × Bool × Nat) (prev : Bool) : Dev :=
  (if v.2.1 && !prev then (s.setBit (ACQ_CH_STAT n) 2 v.2.1).ev 0x0802 n v.2.2 else s.setBit (ACQ_CH_STAT n) 2 v.2.1).setChain n
    fun x => { x with satPrev := v.2.1 }

section
variable (s : Dev) (n : Nat) (v : Int × Bool × Nat) (prev : Bool) (stamp : Word)

theorem chainShow_eq : s.chainShow n v prev stamp =
    if s.bit (ACQ_CH_STAT n) 3 then s else (s.satShown n v prev).deliver n v.1 stamp := (rfl)

theorem satShown_effect : ChainEffect (recordRegs n) s (s.satShown n v prev) := by
  have hshow : ChainEffect (recordRegs n) s (s.setBit (ACQ_CH_STAT n) 2 v.2.1) :=
    (ChainEffect.refl _ _).map fun _ h => h.setBit (a := ACQ_CH_STAT n) (by simp) _ _
  exact (ChainEffect.ite _ (hshow.map fun _ h => h.ev _ _ _) hshow).setChain n _

theorem satShown_chain (m : Nat) : ∃ f : ChainSt → ChainSt, (∀ x, (f x).settings = x.settings ∧ (f x).suppLeft = x.suppLeft) ∧
    (s.satShown n v prev).chain m = (s.setChain n f).chain m := by
  refine ⟨fun x => { x with satPrev := v.2.1 }, fun _ => ⟨rfl, rfl⟩, ?_⟩
  unfold Dev.satShown
  split <;> rfl

theorem chainShow_effect : ChainEffect (recordRegs n) s (s.chainShow n v prev stamp) := by
  rw [chainShow_eq]
  exact ChainEffect.ite _ (ChainEffect.refl _ _) ((satShown_effect _ _ _ _).trans (deliver_effect _ _ _ _))

theorem chainShow_settings (m : Nat) : ((s.chainShow n v prev stamp).chain m).settings = (s.chain m).settings := by
  rw [chainShow_eq]
  split
  · rfl
  · obtain ⟨f, hf, hchain⟩ := satShown_chain s n v prev m
    rw [deliver_settings, hchain]
    exact settings_setChain _ _ _ fun x => (hf x).1

theorem satShown_reg (a : Nat) (ha : a ≠ ACQ_CH_STAT n) :
    (s.satShown n v prev).rd a = s.rd a ∧ ∀ hi lo, (s.satShown n v prev).fld a hi lo = s.fld a hi lo := by
  unfold Dev.satShown
  split <;> simp [ha]

/-! The record's boundary. -/

theorem band_setChain (f : ChainSt → ChainSt) : (s.setChain n f).acq.band = s.acq.band := (rfl)

theorem chainBoundary_plain (hcopy : s.acq.apply ≠ some n ∨ s.acq.applyAt ≠ 1) (hstep : (s.chain n).stepPend = false)
    (hnext : (s.chain n).next = none) (hen : (s.chain n).cur.en = true) : s.chainBoundary n =
    (s.setChain n fun x => { x with cur := (s.chain n).cur, next := none, band := s.acq.band, stepPend := false }).setFld
      (ACQ_CH_STAT n) 6 4 s.acq.band := by
  have hno : (s.acq.apply == some n && s.acq.applyAt == 1) = false := by
    rcases hcopy with h | h <;> simp [h]
  unfold Dev.chainBoundary
  dsimp only
  rw [hno, hnext, hstep, Option.getD_none, hen]
  simp [band_setChain]

/-- The device as a boundary leaves it before a step that waits takes place. -/
def Dev.boundaryTaken (s : Dev) (n : Nat) : Dev :=
  ((if s.acq.apply == some n && s.acq.applyAt == 1 then s.coefCopy n else s).setChain n fun x => { x with
    cur := (s.chain n).cur, next := none, band := s.acq.band, stepPend := false }).setFld (ACQ_CH_STAT n) 6 4 s.acq.band

theorem coefCopy_acq : (s.coefCopy n).acq = { s.acq with applyAt := 2 } := by
  dsimp only [Dev.coefCopy]
  rw [each_keeps Dev.acq _ (by exact fun _ _ => rfl)]

theorem chainBoundary_steps (hstep : (s.chain n).stepPend = true) (hnext : (s.chain n).next = none)
    (hen : (s.chain n).cur.en = true) : s.chainBoundary n = ((s.boundaryTaken n).showStuck n).chainStep n := by
  have hband : (if s.acq.apply == some n && s.acq.applyAt == 1 then s.coefCopy n else s).acq.band = s.acq.band := by
    split
    · rw [coefCopy_acq]
    · rfl
  unfold Dev.chainBoundary Dev.boundaryTaken
  dsimp only
  rw [band_setChain, hband, hnext, hstep, Option.getD_none, hen]
  simp

/-- The settings of a window are read off together. -/
theorem settings_eq {x y : ChainSt} (h : x.settings = y.settings) :
    x.cur = y.cur ∧ x.next = y.next ∧ x.stepPend = y.stepPend ∧ x.band = y.band := by
  simpa [ChainSt.settings] using h

theorem chainStep_shows (hn : n < s.acq.chain.length) : (s.chainStep n).rd (ACQ_CH_SEQ n) = 0#32 ∧
    ((s.chainStep n).chain n).stepPend = (s.chain n).stepPend ∧
    ((s.chainStep n).chain n).suppLeft = (s.chain n).cur.settle n ∧ ((s.chainStep n).chain n).fir = [] := by
  have hchain : ∀ f, (s.setChain n f).chain n = f (s.chain n) := fun f => chain_setChain_same _ _ _ hn
  refine ⟨by simp [Dev.chainStep], ?_, ?_, ?_⟩ <;> simp [Dev.chainStep, hchain]

theorem boundaryTaken_chain (hn : n < s.acq.chain.length) : (s.boundaryTaken n).chain n =
    { s.chain n with cur := (s.chain n).cur, next := none, band := s.acq.band, stepPend := false } := by
  have hacq : (if s.acq.apply == some n && s.acq.applyAt == 1 then s.coefCopy n else s).acq.chain = s.acq.chain := by
    split
    · rw [coefCopy_acq]
    · rfl
  refine (chain_setChain_same _ _ _ (by rwa [hacq])).trans ?_
  rw [Dev.chain, hacq]
  rfl

theorem boundaryTaken_length : (s.boundaryTaken n).acq.chain.length = s.acq.chain.length := by
  refine (length_modAt _ _ _).trans ?_
  split
  · rw [coefCopy_acq]
  · rfl

end

/-! A record as a command. -/

section
variable {ch : Fin 40} {bits : List Bool} {stamp : Word} {s : State} {now rest : List Int}

/-- The device after the record, before its boundary. -/
def Dev.recorded (s : Dev) (n : Nat) (now rest : List Int) (stamp : Word) : Dev :=
  (s.chainFilter n now rest).chainShow n (s.chainValue n now) (s.chain n).satPrev stamp

theorem chainFilter_effect (s : Dev) (n : Nat) (now rest : List Int) : ChainEffect (recordRegs n) s (s.chainFilter n now rest) :=
  (ChainEffect.refl _ _).setChain n _

theorem recorded_effect (s : Dev) (n : Nat) (now rest : List Int) (stamp : Word) :
    ChainEffect (recordRegs n) s (s.recorded n now rest stamp) :=
  (chainFilter_effect _ _ _ _).trans (chainShow_effect _ _ _ _ _)

theorem recorded_settings (s : Dev) (n : Nat) (now rest : List Int) (stamp : Word) (m : Nat) :
    ((s.recorded n now rest stamp).chain m).settings = (s.chain m).settings :=
  (chainShow_settings _ _ _ _ _ _).trans (getD_modAt_keeps ChainSt.settings _ _ _ _ _ fun _ => rfl)

theorem chainRecord_recorded {s : Dev} {n : Nat} {bits : List Bool} {now rest : List Int} {stamp : Word} (hrun : s.chainRun n = true)
    (hwin : s.window n bits = some (now, rest)) :
    s.chainRecord n bits stamp none = (s.recorded n now rest stamp).chainBoundary n := by
  rw [chainRecord_window hrun hwin, ite_self]
  rfl

/-- What a record of a chain whose stream is not stuck shows before its boundary (R238, R242). -/
theorem recorded_shows (s : Dev) (n : Nat) (now rest : List Int) (stamp : Word) (hn : n < s.acq.chain.length)
    (hstuck : s.bit (ACQ_CH_STAT n) 3 = false) :
    (s.recorded n now rest stamp).fld (ACQ_CH_SEQ n) 31 0 = (s.fld (ACQ_CH_SEQ n) 31 0 + 1) % 2 ^ 32 ∧
      ((s.chain n).suppLeft = 0 → (s.recorded n now rest stamp).rd (ACQ_CH_STAMP n) = stamp ∧
        (s.recorded n now rest stamp).bit (ACQ_CH_STAT n) 1 = false ∧
        ((s.recorded n now rest stamp).chain n).recBand = (s.chain n).band) ∧
      (0 < (s.chain n).suppLeft → ((s.recorded n now rest stamp).chain n).suppLeft = (s.chain n).suppLeft - 1 ∧
        (s.recorded n now rest stamp).rd (ACQ_CH_VAL n) = s.rd (ACQ_CH_VAL n) ∧
        (s.recorded n now rest stamp).rd (ACQ_CH_STAMP n) = s.rd (ACQ_CH_STAMP n) ∧
        (s.recorded n now rest stamp).fld (ACQ_CH_SUPP n) 31 0 = min 4294967295 (s.fld (ACQ_CH_SUPP n) 31 0 + 1)) := by
  have heff := chainFilter_effect s n now rest
  have hchain : (s.chainFilter n now rest).chain n = _ := chain_setChain_same _ _ _ hn
  have hrecorded : s.recorded n now rest stamp = ((s.chainFilter n now rest).satShown n (s.chainValue n now) (s.chain n).satPrev).deliver
      n (s.chainValue n now).1 stamp := by
    rw [Dev.recorded, chainShow_eq]
    exact if_neg (by rw [show (s.chainFilter n now rest).bit (ACQ_CH_STAT n) 3 = s.bit (ACQ_CH_STAT n) 3 from rfl, hstuck]; decide)
  have hreg : ∀ a, a ≠ ACQ_CH_STAT n → _ := satShown_reg (s.chainFilter n now rest) n (s.chainValue n now) (s.chain n).satPrev
  obtain ⟨f, hf, hshow⟩ := satShown_chain (s.chainFilter n now rest) n (s.chainValue n now) (s.chain n).satPrev n
  rw [chain_setChain_same _ _ _ (by rwa [heff.length]), hchain] at hshow
  have hlen : n < ((s.chainFilter n now rest).satShown n (s.chainValue n now) (s.chain n).satPrev).acq.chain.length := by
    rwa [(satShown_effect _ _ _ _).length, heff.length]
  have hsupp : (((s.chainFilter n now rest).satShown n (s.chainValue n now) (s.chain n).satPrev).chain n).suppLeft =
      (s.chain n).suppLeft := by rw [hshow, (hf _).2]
  have hband : (((s.chainFilter n now rest).satShown n (s.chainValue n now) (s.chain n).satPrev).chain n).band =
      (s.chain n).band := by rw [hshow, (settings_eq (hf _).1).2.2.2]
  rw [hrecorded]
  generalize (s.chainFilter n now rest).satShown n (s.chainValue n now) (s.chain n).satPrev = e at *
  refine ⟨(deliver_seq _ _ _ _).trans ?_, fun h => ?_, fun h => ?_⟩
  · rw [(hreg _ (by simp)).2]
    rfl
  · obtain ⟨hstamp, hbit, hrec⟩ := deliver_shows e n (s.chainValue n now).1 stamp hlen (hsupp.trans h)
    exact ⟨hstamp, hbit, hrec.trans hband⟩
  · obtain ⟨hleft, hval, hstamp, hcnt⟩ := deliver_suppresses e n (s.chainValue n now).1 stamp hlen (hsupp.symm ▸ h)
    rw [(hreg _ (by simp)).1] at hval hstamp
    rw [(hreg _ (by simp)).2] at hcnt
    exact ⟨hleft.trans (by rw [hsupp]), hval, hstamp, hcnt⟩

theorem recordReg_settle (n : Fin 40) (d : Dev) (v : Nat) :
    (∀ k, k = 0x0C ∨ k = 0x10 ∨ k = 0x14 ∨ k = 0x18 → (d.setFld (ACQ_CH_STAT n) 6 4 v).settle.rd (chWin n + k) = d.rd (chWin n + k)) ∧
      (d.setFld (ACQ_CH_STAT n) 6 4 v).settle.bit (ACQ_CH_STAT n) 1 = d.bit (ACQ_CH_STAT n) 1 := by
  have := n.isLt
  refine ⟨fun k hk => ?_, ?_⟩
  · refine (settle_rd _ _ ?_ ?_).trans (rd_setFld_ne _ _ _ _ _ _ ?_)
    all_goals
      simp only [ACQ_CH_STAT, chWin, SAFE_OUT_STAT, SAFE_STAT]
      omega
  · refine (settle_bit _ _ _ ?_ ?_).trans (bit_setFld_ne _ _ _ _ _ _ (by decide) (by decide) (by decide))
    all_goals
      simp only [ACQ_CH_STAT, chWin, SAFE_OUT_STAT, SAFE_STAT]
      omega

theorem recordCounts_answers (hs : Shaped s.toDev) (hrun : s.chainRun ch = true) (hwin : s.window ch bits = some (now, rest))
    (hcopy : s.acq.apply ≠ some ch.val ∨ s.acq.applyAt ≠ 1) (hstep : (s.chain ch).stepPend = false) (hnext : (s.chain ch).next = none)
    (hen : (s.chain ch).cur.en = true) (hstuck : s.bit (ACQ_CH_STAT ch) 3 = false) :
    Answers (.chainRecord ch bits stamp none) s fun t =>
        t.fld (ACQ_CH_SEQ ch) 31 0 = (s.fld (ACQ_CH_SEQ ch) 31 0 + 1) % 2 ^ 32 ∧ (t.chain ch).band = s.acq.band ∧
        ((s.chain ch).suppLeft = 0 → t.rd (ACQ_CH_STAMP ch) = stamp ∧ t.bit (ACQ_CH_STAT ch) 1 = false ∧
          (t.chain ch).recBand = (s.chain ch).band) ∧
        (0 < (s.chain ch).suppLeft → (t.chain ch).suppLeft = (s.chain ch).suppLeft - 1 ∧
          t.rd (ACQ_CH_VAL ch) = s.rd (ACQ_CH_VAL ch) ∧ t.rd (ACQ_CH_STAMP ch) = s.rd (ACQ_CH_STAMP ch) ∧
          t.fld (ACQ_CH_SUPP ch) 31 0 = min 4294967295 (s.fld (ACQ_CH_SUPP ch) 31 0 + 1)) ∧
        Framed [ACQ_CH_STAT ch, ACQ_CH_SEQ ch, ACQ_CH_SUPP ch, ACQ_CH_VAL ch, ACQ_CH_STAMP ch] s t
          { blocks s.toDev with acq := t.acq } := by
  obtain ⟨hcur, hnext', hstep', hband⟩ := settings_eq (recorded_settings s.toDev ch now rest stamp ch)
  have heff := recorded_effect s.toDev ch now rest stamp
  have happly : (s.toDev.recorded ch now rest stamp).acq.apply = s.acq.apply := (congrArg AcqSt.apply heff.acqRest :)
  have hat : (s.toDev.recorded ch now rest stamp).acq.applyAt = s.acq.applyAt := (congrArg AcqSt.applyAt heff.acqRest :)
  have hdone := (chainRecord_recorded (stamp := stamp) hrun hwin).trans
    (chainBoundary_plain _ _ (by rw [happly, hat]; exact hcopy)
      (hstep'.trans hstep) (hnext'.trans hnext) ((congrArg ChainCfg.en hcur).trans hen))
  obtain ⟨hseq, hshown, hsuppressed⟩ := recorded_shows s.toDev ch now rest stamp (by rw [hs.chain]; exact ch.isLt) hstuck
  have hlen : ch.val < (s.toDev.recorded ch now rest stamp).acq.chain.length := by
    rw [heff.length, hs.chain]
    exact ch.isLt
  have hbandNow : (s.toDev.recorded ch now rest stamp).acq.band = s.acq.band := (congrArg AcqSt.band heff.acqRest :)
  refine answers_of_done (congrArg (done s) hdone) ?_
  generalize s.toDev.recorded ch now rest stamp = d at *
  obtain ⟨hreg, hbit⟩ := recordReg_settle ch (d.setChain ch fun x =>
    { x with cur := (d.chain ch).cur, next := none, band := d.acq.band, stepPend := false }) d.acq.band
  have hchain := chain_setChain_same d ch (fun x =>
    { x with cur := (d.chain ch).cur, next := none, band := d.acq.band, stepPend := false }) hlen
  have hwindow : ((s.after ((d.setChain ch fun x =>
      { x with cur := (d.chain ch).cur, next := none, band := d.acq.band, stepPend := false }).setFld (ACQ_CH_STAT ch) 6 4 d.acq.band)).chain ch) =
      { d.chain ch with cur := (d.chain ch).cur, next := none, band := d.acq.band, stepPend := false } := (chain_settle _ _).trans hchain
  rw [hwindow]
  refine ⟨(congrArg (fun w : Word => bitsOf w.toNat 31 0) (hreg 0x14 (by simp)) :).trans hseq, hbandNow, fun h => ?_, fun h => ?_,
    ((heff.setChain ch _).map fun _ h => h.setFld (a := ACQ_CH_STAT ch) (by simp) _ _ _).framed⟩
  · obtain ⟨hstamp, hval, hrec⟩ := hshown h
    exact ⟨(hreg 0x10 (by simp)).trans hstamp, hbit.trans hval, hrec⟩
  · obtain ⟨hleft, hval, hstamp, hcnt⟩ := hsuppressed h
    exact ⟨hleft, (hreg 0x0C (by simp)).trans hval, (hreg 0x10 (by simp)).trans hstamp,
      (congrArg (fun w : Word => bitsOf w.toNat 31 0) (hreg 0x18 (by simp)) :).trans hcnt⟩

theorem recordSteps_answers (hs : Shaped s.toDev) (hrun : s.chainRun ch = true) (hwin : s.window ch bits = some (now, rest))
    (hstep : (s.chain ch).stepPend = true) (hnext : (s.chain ch).next = none) (hen : (s.chain ch).cur.en = true) :
    Answers (.chainRecord ch bits stamp none) s fun t => t.rd (ACQ_CH_SEQ ch) = 0#32 ∧ (t.chain ch).stepPend = false ∧
          (t.chain ch).suppLeft = (s.chain ch).cur.settle ch ∧ (t.chain ch).fir = [] := by
  obtain ⟨hcur, hnext', hstep', -⟩ := settings_eq (recorded_settings s.toDev ch now rest stamp ch)
  have hlen : ch.val < (s.toDev.recorded ch now rest stamp).acq.chain.length := by
    rw [(recorded_effect _ _ _ _ _).length, hs.chain]
    exact ch.isLt
  have hdone := (chainRecord_recorded (stamp := stamp) hrun hwin).trans
    (chainBoundary_steps _ _ (hstep'.trans hstep) (hnext'.trans hnext) ((congrArg ChainCfg.en hcur).trans hen))
  refine answers_of_done (congrArg (done s) hdone) ?_
  generalize s.toDev.recorded ch now rest stamp = d at *
  have hstuck : ∀ m, ((d.boundaryTaken ch).showStuck ch).chain m = (d.boundaryTaken ch).chain m := fun _ => rfl
  obtain ⟨hseq, hpend, hsupp, hfir⟩ := chainStep_shows ((d.boundaryTaken ch).showStuck ch) ch ((boundaryTaken_length d ch).symm ▸ hlen)
  rw [hstuck, boundaryTaken_chain _ _ hlen] at hpend hsupp
  rw [chain_settle]
  refine ⟨(settle_rd _ _ ?_ ?_).trans hseq, hpend, hsupp.trans (congrArg (ChainCfg.settle · ch) hcur), hfir⟩
  all_goals
    have := ch.isLt
    simp only [ACQ_CH_SEQ, chWin, SAFE_OUT_STAT, SAFE_STAT]
    omega

/-- A coefficient that memory cannot correct stops its chain (R239, R249). -/
theorem coefFault_answers (hrun : s.chainRun ch = true) (hwin : s.window ch bits = some (now, rest))
    (htaps : (s.chain ch).cur.taps ≠ 0) (k : Nat) : Answers (.chainRecord ch bits stamp (some k)) s fun t => t.chainRun ch = false ∧
        OneEvent s t 0x0809 (BitVec.ofNat 32 ch) (BitVec.ofNat 32 k) := by
  have hdone : s.toDev.chainRecord ch bits stamp (some k) =
      ((((s.toDev.chainFilter ch now rest).setBit (ACQ_CH_STAT ch) 0 false).countChains).ev 0x0809 ch k) := by
    rw [chainRecord_window hrun hwin, if_neg htaps]
  refine answers_of_done (congrArg (done s) hdone) ⟨?_, oneEvent_ev rfl (by simp [Dev.countChains, Dev.chainFilter])⟩
  have := ch.isLt
  have hstat : ACQ_CH_STAT ch ≠ ACQ_STAT ∧ ACQ_CH_STAT ch ≠ SAFE_OUT_STAT ∧ ACQ_CH_STAT ch ≠ SAFE_STAT := by
    simp only [ACQ_CH_STAT, ACQ_STAT, chWin, SAFE_OUT_STAT, SAFE_STAT]
    omega
  refine (settle_bit _ _ _ hstat.2.1 hstat.2.2).trans ?_
  refine (bit_setFld_other _ _ _ _ _ _ _ hstat.1).trans ?_
  exact bit_setBit_same _ _ _ _ (by decide)

end

/-- Settles O30: a record of a whole window, then its boundary, with a step where one waits. -/
theorem chainRecords : Obligations.ChainRecords := by
  unfold Obligations.ChainRecords
  refine fun ch bits stamp s => ⟨fun h cb => noEffect_of_done rfl (chainRecord_none h _ _), fun hs hrun hwin => ?_⟩
  obtain ⟨⟨now, rest⟩, hwin⟩ := Option.isSome_iff_exists.mp hwin
  exact ⟨fun hcopy hstep hnext hen hstuck => recordCounts_answers hs hrun hwin hcopy hstep hnext hen hstuck,
    fun hstep hnext hen => recordSteps_answers hs hrun hwin hstep hnext hen, fun htaps k => coefFault_answers hrun hwin htaps k⟩

end Sys2Proof.Machine
end

section
/-! Coefficient sets and stuck bitstreams (R233, R239, R243, R244). -/

namespace Sys2Proof.Machine

/-- What holds before the first of a run of operations, and after each one for the next, holds at the end. -/
theorem each_range_rec {P : Nat → Dev → Prop} {f : Dev → Nat → Dev} {s : Dev} {m : Nat} (h0 : P 0 s)
    (hstep : ∀ k d, k < m → P k d → P (k + 1) (f d k)) : P m (s.each (List.range m) f) := by
  suffices h : ∀ k, k ≤ m → P k (s.each (List.range k) f) from h m (Nat.le_refl m)
  intro k hk
  induction k with
  | zero => exact h0
  | succ k ih =>
    have hsucc : s.each (List.range (k + 1)) f = f (s.each (List.range k) f) k := by
      unfold Dev.each
      rw [List.range_succ, List.foldl_append]
      rfl
    rw [hsucc]
    exact hstep k _ hk (ih (Nat.le_of_succ_le hk))

/-! The copy of the shadow bank. -/

/-- The live coefficients written from the shadow bank. -/
def Dev.coefWrites (s : Dev) (n : Nat) : Dev :=
  s.each (List.range 192) fun d k => d.wr (ACQ_FIR_LIVE n k) (d.rd (ACQ_FIR_SHADOW k))

theorem rd_coefCopy (s : Dev) (n a : Nat) : (s.coefCopy n).rd a = (s.coefWrites n).rd a := by
  unfold Dev.rd
  dsimp only [Dev.coefCopy, Dev.coefWrites]

/-- The shadow bank becomes the live coefficients of its chain and nothing else (R244). -/
theorem coefCopy_copies (s : Dev) (n : Nat) : (∀ j, j < 192 → (s.coefCopy n).rd (ACQ_FIR_LIVE n j) = s.rd (ACQ_FIR_SHADOW j)) ∧
    ∀ a, a < 0x1CC000 → (s.coefCopy n).rd a = s.rd a := by
  simp only [rd_coefCopy]
  refine each_range_rec (P := fun k d => (∀ j, j < k → d.rd (ACQ_FIR_LIVE n j) = s.rd (ACQ_FIR_SHADOW j)) ∧
    ∀ a, a < 0x1CC000 → d.rd a = s.rd a) (s := s) (m := 192) ⟨fun j hj => absurd hj (Nat.not_lt_zero j), fun _ _ => rfl⟩ ?_
  rintro k d hk ⟨hlive, hrest⟩
  refine ⟨fun j hj => ?_, fun a ha => ?_⟩
  · by_cases hjk : j = k
    · subst hjk
      exact (rd_wr_same _ _ _).trans (hrest _ (by simp only [ACQ_FIR_SHADOW]; omega))
    · exact (rd_wr_ne _ _ _ _ (by simp only [ACQ_FIR_LIVE]; omega)).trans (hlive j (by omega))
  · exact (rd_wr_ne _ _ _ _ (by simp only [ACQ_FIR_LIVE]; omega)).trans (hrest a ha)

section
variable {s : Dev} {n : Nat}

theorem chainStep_effect {l : List Nat} {d : Dev} (hstat : ACQ_CH_STAT n ∈ l) (hseq : ACQ_CH_SEQ n ∈ l) (h : ChainEffect l s d) :
    ChainEffect l s (d.chainStep n) :=
  (h.setChain n _).map fun _ h => (((h.wrN hseq _).setFld hstat _ _ _).setBit hstat _ _).setFld hstat _ _ _

/-- The registers that a boundary writes beside the live coefficients. -/
abbrev boundaryRegs (n : Nat) : List Nat := [ACQ_CH_STAT n, ACQ_CH_SEQ n, ACQ_STAT]

/-- A boundary with a latched set copies it; what follows touches no coefficient (R239, R244). -/
theorem chainBoundary_copies (happly : s.acq.apply = some n) (hat : s.acq.applyAt = 1) :
    ChainEffect (boundaryRegs n) (s.coefCopy n) (s.chainBoundary n) := by
  have htaken : ChainEffect (boundaryRegs n) (s.coefCopy n) (((s.coefCopy n).setChain n fun x => { x with
      cur := (s.chain n).next.getD (s.chain n).cur, next := none, band := (s.coefCopy n).acq.band, stepPend := false }).setFld
      (ACQ_CH_STAT n) 6 4 (s.coefCopy n).acq.band) :=
    ((ChainEffect.refl _ _).setChain n _).map fun _ h => h.setFld (a := ACQ_CH_STAT n) (by simp) _ _ _
  unfold Dev.chainBoundary
  dsimp only
  rw [happly, hat]
  simp only [beq_self_eq_true, Bool.and_self, if_true, Bool.or_true, Bool.true_or]
  refine ChainEffect.ite _ (htaken.map fun _ h => ?_) ?_
  · exact (h.clrMask (a := ACQ_CH_STAT n) (by simp) _).setFld (a := ACQ_STAT) (by simp) _ _ _
  · exact chainStep_effect (by simp) (by simp) (htaken.map fun _ h => h.setBit (a := ACQ_CH_STAT n) (by simp) _ _)

end

/-! The commands of an apply. -/

theorem coefApply_answers {n : Fin 64} {s : State} (hlock : s.acqLocked ACQ_APPLY (BitVec.ofNat 32 n) = none) (hn : n.val < 40)
    (hbusy : s.bit ACQ_STAT 3 = false) : Answers (.coefApply n) s fun t =>
          t.bit ACQ_STAT 3 = true ∧ t.acq = { s.acq with apply := some n.val, applyAt := 0 } ∧
          Framed [ACQ_STAT] s t { blocks s.toDev with acq := t.acq } ∧ NoEvent s t := by
  have hdone : s.toDev.coefApply n =
      { s.toDev.setBit ACQ_STAT 3 true with acq := { s.acq with apply := some n.val, applyAt := 0 } } := by
    unfold Dev.coefApply
    rw [hlock]
    dsimp only
    rw [if_neg (by simp [hbusy, hn])]
    rfl
  have heff := ((Effect.refl [ACQ_STAT] s.toDev).setBit (a := ACQ_STAT) (by simp) 3 true).acq { s.acq with apply := some n.val, applyAt := 0 }
  exact answers_of_done (congrArg (done s) hdone) ⟨(settle_bit _ _ _ (by decide) (by decide)).trans (bit_setBit_same _ _ _ _ (by decide)),
    settle_acq _, heff.framed_acq, noEvent_after (by simp)⟩

theorem coefApply_none {n : Fin 64} {s : State} (hlock : s.acqLocked ACQ_APPLY (BitVec.ofNat 32 n) = none)
    (h : 40 ≤ n.val ∨ s.bit ACQ_STAT 3 = true) : NoEffect (.coefApply n) s := by
  refine noEffect_of_done rfl ?_
  unfold Dev.coefApply
  rw [hlock]
  exact if_pos (by rcases h with h | h <;> simp [h])

/-- The end of an apply clears APPLY_BUSY with its event (R244). -/
def Dev.applyEnd (s : Dev) (n : Nat) : Dev :=
  Dev.ev { s.setBit ACQ_STAT 3 false with acq := { s.acq with apply := none, applyAt := 0 } } 0x0804 n (s.chain n).cur.taps

theorem coefDone_copied {s : Dev} {n : Nat} (happly : s.acq.apply = some n) (hat : s.acq.applyAt = 2) :
    s.coefDone = s.applyEnd n := by
  unfold Dev.coefDone
  rw [happly]
  dsimp only
  have hskip : (if s.acq.applyAt = 1 ∧ (!s.chainRun n) = true then s.coefCopy n else s) = s := if_neg (by simp [hat])
  rw [hskip, if_pos hat]
  rfl

theorem coefDone_stopped {s : Dev} {n : Nat} (happly : s.acq.apply = some n) (hat : s.acq.applyAt = 1) (hrun : s.chainRun n = false) :
    s.coefDone = (s.coefCopy n).applyEnd n := by
  unfold Dev.coefDone
  rw [happly]
  dsimp only
  have hcopy : (if s.acq.applyAt = 1 ∧ (!s.chainRun n) = true then s.coefCopy n else s) = s.coefCopy n := if_pos (by simp [hat, hrun])
  rw [hcopy, if_pos (by rw [coefCopy_acq])]
  rfl

theorem coefDone_waits {s : Dev} {n : Nat} (happly : s.acq.apply = some n)
    (h : s.acq.applyAt = 0 ∨ (s.acq.applyAt = 1 ∧ s.chainRun n = true)) : s.coefDone = s := by
  unfold Dev.coefDone
  rw [happly]
  dsimp only
  have hskip : (if s.acq.applyAt = 1 ∧ (!s.chainRun n) = true then s.coefCopy n else s) = s :=
    if_neg (by rcases h with h | h <;> simp [h])
  rw [hskip, if_neg (by rcases h with h | h <;> simp [h])]

theorem coefCopy_log (s : Dev) (n : Nat) : (s.coefCopy n).log = s.log := by
  dsimp only [Dev.coefCopy]
  rw [each_keeps Dev.log _ (by exact fun _ _ => rfl)]

theorem applyEnd_after {s : State} (n : Fin 40) {d : Dev} (hacq : { d.acq with apply := none, applyAt := 0 } =
    { s.acq with apply := none, applyAt := 0 }) (hlog : d.log = s.log) :
    (s.after (d.applyEnd n)).bit ACQ_STAT 3 = false ∧
      (s.after (d.applyEnd n)).acq = { s.acq with apply := none, applyAt := 0 } ∧
      OneEvent s (s.after (d.applyEnd n)) 0x0804 (BitVec.ofNat 32 n) (BitVec.ofNat 32 (s.chain n).cur.taps) ∧
      ∀ j, j < 192 → (s.after (d.applyEnd n)).rd (ACQ_FIR_LIVE n j) = d.rd (ACQ_FIR_LIVE n j) := by
  have hchain : d.chain n = s.chain n := (congrArg (fun x : AcqSt => x.chain.getD n {}) hacq :)
  refine ⟨(settle_bit _ _ _ (by decide) (by decide)).trans (bit_setBit_same _ _ _ _ (by decide)), (settle_acq _).trans (by exact hacq),
    ?_, fun j hj => ?_⟩
  · rw [← hchain]
    exact oneEvent_ev (d := { d.setBit ACQ_STAT 3 false with acq := { d.acq with apply := none, applyAt := 0 } }) rfl
      (congrArg LogSt.raised hlog)
  · have := n.isLt
    refine (settle_rd _ _ ?_ ?_).trans (rd_setBit_ne d _ _ _ _ ?_)
    all_goals
      simp only [ACQ_FIR_LIVE, ACQ_STAT, SAFE_OUT_STAT, SAFE_STAT]
      omega

theorem coefApplyDone_answers {ch : Fin 40} {s : State} (happly : s.acq.apply = some ch.val)
    (h : s.acq.applyAt = 2 ∨ (s.acq.applyAt = 1 ∧ s.chainRun ch = false)) :
    Answers .coefApplyDone s fun t => t.bit ACQ_STAT 3 = false ∧ t.acq = { s.acq with apply := none, applyAt := 0 } ∧
          (s.acq.applyAt = 1 → ∀ j, j < 192 → t.rd (ACQ_FIR_LIVE ch j) = s.rd (ACQ_FIR_SHADOW j)) ∧
          OneEvent s t 0x0804 (BitVec.ofNat 32 ch) (BitVec.ofNat 32 (s.chain ch).cur.taps) := by
  rcases h with hat | ⟨hat, hrun⟩
  · obtain ⟨hbusy, hacq, hevent, -⟩ := applyEnd_after (s := s) ch (d := s.toDev) rfl rfl
    exact answers_of_done (congrArg (done s) (coefDone_copied happly hat))
      ⟨hbusy, hacq, fun h1 => absurd (hat.symm.trans h1) (by decide), hevent⟩
  · obtain ⟨hbusy, hacq, hevent, hlive⟩ := applyEnd_after (s := s) ch (d := s.toDev.coefCopy ch)
      (by rw [coefCopy_acq]) (coefCopy_log _ _)
    exact answers_of_done (congrArg (done s) (coefDone_stopped happly hat hrun))
      ⟨hbusy, hacq, fun _ j hj => (hlive j hj).trans ((coefCopy_copies _ _).1 j hj), hevent⟩

/-- The record boundary of a running chain copies a latched set (R239, R244). -/
theorem recordCopies_answers {ch : Fin 40} {bits : List Bool} {stamp : Word} {s : State} {now rest : List Int}
    (happly : s.acq.apply = some ch.val) (hat : s.acq.applyAt = 1) (hrun : s.chainRun ch = true)
    (hwin : s.window ch bits = some (now, rest)) :
    Answers (.chainRecord ch bits stamp none) s fun t => t.acq.applyAt = 2 ∧
          ∀ j, j < 192 → t.rd (ACQ_FIR_LIVE ch j) = s.rd (ACQ_FIR_SHADOW j) := by
  have heff := recorded_effect s.toDev ch now rest stamp
  have hbound := chainBoundary_copies (s := s.toDev.recorded ch now rest stamp) (n := ch)
    ((congrArg AcqSt.apply heff.acqRest :).trans happly) ((congrArg AcqSt.applyAt heff.acqRest :).trans hat)
  obtain ⟨hlive, -⟩ := coefCopy_copies (s.toDev.recorded ch now rest stamp) ch
  obtain ⟨x, -, hframe⟩ := heff
  refine answers_of_done (congrArg (done s) (chainRecord_recorded hrun hwin)) ⟨?_, fun j hj => ?_⟩
  · rw [settle_acq]
    exact (congrArg AcqSt.applyAt hbound.acqRest :).trans
      (congrArg AcqSt.applyAt (coefCopy_acq (s.toDev.recorded ch now rest stamp) ch) :)
  · have := ch.isLt
    obtain ⟨y, -, hrest⟩ := hbound
    refine (settle_rd _ _ ?_ ?_).trans ((hrest.regs _ ?_).trans ((hlive j hj).trans (hframe.regs _ ?_)))
    · simp only [ACQ_FIR_LIVE, SAFE_OUT_STAT]; omega
    · simp only [ACQ_FIR_LIVE, SAFE_STAT]; omega
    · simp only [List.mem_cons, List.not_mem_nil, or_false, not_or, ACQ_CH_STAT, ACQ_CH_SEQ, ACQ_STAT, ACQ_FIR_LIVE, chWin]; omega
    · simp only [List.mem_cons, List.not_mem_nil, or_false, not_or, ACQ_CH_STAT, ACQ_CH_SEQ, ACQ_CH_SUPP, ACQ_CH_VAL, ACQ_CH_STAMP,
        ACQ_FIR_SHADOW, chWin]; omega

/-! Stuck bitstreams. -/

/-- The mark of a running chain of a stuck stream. -/
def Dev.markStuck (st : Nat) (d : Dev) (n : Nat) : Dev :=
  if decide (16 ≤ n) && d.chainRun n && (d.chain n).cur.src == st then (d.setBit (ACQ_CH_STAT n) 3 true).ev 0x080B n st else d

/-- The restart of a chain whose stream runs again. -/
def Dev.restartStuck (st : Nat) (d : Dev) (n : Nat) : Dev :=
  if decide (16 ≤ n) && d.bit (ACQ_CH_STAT n) 3 && (d.chain n).cur.src == st then (d.setBit (ACQ_CH_STAT n) 3 false).chainStep n else d

/-- The chains of a stream are marked as stuck (R233). -/
theorem bitstreamStuck_eq {s : Dev} {st : Nat} (hon : s.bit ACQ_STAT 1 = true) (hfree : s.acq.stuck.contains st = false) :
    s.bitstreamStuck st = Dev.each { s with acq := { s.acq with stuck := s.acq.stuck ++ [st] } } (List.range 40) (Dev.markStuck st) :=
  if_neg (by rw [hon, hfree]; decide)

theorem chStat_ne {n m : Nat} (h : n ≠ m) : ACQ_CH_STAT n ≠ ACQ_CH_STAT m := by
  simp only [ACQ_CH_STAT, chWin]
  omega

/-- What the marks of the first k chains have made of chain n. -/
def Marked (s : Dev) (n k : Nat) (d : Dev) : Prop :=
  (d.chain n = s.chain n ∧ d.bit (ACQ_CH_STAT n) 0 = s.bit (ACQ_CH_STAT n) 0) ∧ (n < k → d.bit (ACQ_CH_STAT n) 3 = true)

theorem marked_succ {s d : Dev} {st n k : Nat} (hlo : 16 ≤ n) (hrun : s.chainRun n = true) (hsrc : (s.chain n).cur.src = st)
    (h : Marked s n k d) : Marked s n (k + 1) (d.markStuck st k) := by
  obtain ⟨⟨hchain, hbit⟩, hmarked⟩ := h
  unfold Dev.markStuck
  by_cases hk : k = n
  · subst hk
    have hcond : (decide (16 ≤ k) && d.chainRun k && (d.chain k).cur.src == st) = true := by
      have hrun' : d.chainRun k = true := hbit.trans hrun
      simp [hlo, hrun', hchain, hsrc]
    rw [if_pos hcond]
    refine ⟨⟨hchain, ?_⟩, fun _ => bit_setBit_same _ _ _ _ (by decide)⟩
    exact (bit_setBit_ne _ _ _ _ _ (by decide) (by decide)).trans hbit
  · split
    · have hbits : ∀ i, ((d.setBit (ACQ_CH_STAT k) 3 true).ev 0x080B k st).bit (ACQ_CH_STAT n) i = d.bit (ACQ_CH_STAT n) i :=
        fun i => bit_setBit_other _ _ _ _ _ _ (chStat_ne (Ne.symm hk))
      exact ⟨⟨hchain, (hbits 0).trans hbit⟩, fun h => (hbits 3).trans (hmarked (by omega))⟩
    · exact ⟨⟨hchain, hbit⟩, fun h => hmarked (by omega)⟩

/-- Every running chain of the stream is marked. -/
theorem bitstreamStuck_marks {s : Dev} {st : Nat} (hon : s.bit ACQ_STAT 1 = true) (hfree : s.acq.stuck.contains st = false) (n : Nat)
    (hlo : 16 ≤ n) (hhi : n < 40) (hrun : s.chainRun n = true) (hsrc : (s.chain n).cur.src = st) :
    (s.bitstreamStuck st).bit (ACQ_CH_STAT n) 3 = true := by
  rw [bitstreamStuck_eq hon hfree]
  have hmarked := each_range_rec (P := Marked s n) (m := 40) (f := Dev.markStuck st)
    (s := { s with acq := { s.acq with stuck := s.acq.stuck ++ [st] } }) ⟨⟨rfl, rfl⟩, fun h => absurd h (Nat.not_lt_zero n)⟩
    fun k d _ h => marked_succ hlo hrun hsrc h
  exact hmarked.2 hhi

theorem bitstreamStuck_effect {s : Dev} {st : Nat} (hon : s.bit ACQ_STAT 1 = true) (hfree : s.acq.stuck.contains st = false) :
    Effect ((List.range 24).map fun n => ACQ_CH_STAT (16 + n)) s (s.bitstreamStuck st)
      { blocks s with acq := { s.acq with stuck := s.acq.stuck ++ [st] } } := by
  rw [bitstreamStuck_eq hon hfree]
  refine ((Effect.refl _ s).acq _).each fun d n hn h => Effect.ite _ (fun hcond => ?_) fun _ => h
  have hlo : 16 ≤ n := by
    simp only [Bool.and_eq_true, decide_eq_true_eq] at hcond
    exact hcond.1.1
  refine (h.setBit (a := ACQ_CH_STAT n) ?_ _ _).ev _ _ _
  exact List.mem_map.mpr ⟨n - 16, List.mem_range.mpr (by have := List.mem_range.mp hn; omega), by rw [Nat.add_sub_of_le hlo]⟩

/-- The restart of the chains that a stream has stopped (R233, R239). -/
theorem stuckEnd_eq {s : Dev} {st : Nat} (h : s.acq.stuck.contains st = true) :
    s.stuckEnd st = Dev.each { s with acq := { s.acq with stuck := s.acq.stuck.filter (· != st) } } (List.range 40) (Dev.restartStuck st) :=
  if_pos h

theorem chainStep_cur (s : Dev) (n m : Nat) : ((s.chainStep n).chain m).cur = (s.chain m).cur :=
  getD_modAt_keeps ChainSt.cur _ _ _ _ _ fun _ => rfl

theorem chainStep_stuck (s : Dev) (n m : Nat) : (s.chainStep n).bit (ACQ_CH_STAT m) 3 = s.bit (ACQ_CH_STAT m) 3 := by
  have hseq : ACQ_CH_STAT m ≠ ACQ_CH_SEQ n := by
    simp only [ACQ_CH_STAT, ACQ_CH_SEQ, chWin]
    omega
  unfold Dev.chainStep
  by_cases hm : m = n
  · subst hm
    simp
  · simp [hm, bit_other _ _ hseq]

/-- What the restarts of the first k chains have made of chain n. -/
def Restarted (s : Dev) (n k : Nat) (d : Dev) : Prop :=
  (∀ m, (d.chain m).cur = (s.chain m).cur) ∧ (n < k → d.bit (ACQ_CH_STAT n) 3 = false)

theorem restarted_succ {s d : Dev} {st n k : Nat} (hlo : 16 ≤ n) (hsrc : (s.chain n).cur.src = st) (h : Restarted s n k d) :
    Restarted s n (k + 1) (d.restartStuck st k) := by
  obtain ⟨hcur, hcleared⟩ := h
  unfold Dev.restartStuck
  split
  · refine ⟨fun m => (chainStep_cur _ _ _).trans (hcur m), fun hk => (chainStep_stuck _ _ _).trans ?_⟩
    by_cases hkn : n = k
    · subst hkn
      exact bit_setBit_same _ _ _ _ (by decide)
    · exact (bit_setBit_other _ _ _ _ _ _ (chStat_ne hkn)).trans (hcleared (by omega))
  · next hcond =>
    refine ⟨hcur, fun hk => ?_⟩
    by_cases hkn : n = k
    · subst hkn
      simpa [hlo, hcur, hsrc] using hcond
    · exact hcleared (by omega)

theorem stuckEnd_clears {s : Dev} {st : Nat} (h : s.acq.stuck.contains st = true) (n : Nat) (hlo : 16 ≤ n) (hhi : n < 40)
    (hsrc : (s.chain n).cur.src = st) : (s.stuckEnd st).bit (ACQ_CH_STAT n) 3 = false := by
  rw [stuckEnd_eq h]
  have hcleared := each_range_rec (P := Restarted s n) (m := 40) (f := Dev.restartStuck st)
    (s := { s with acq := { s.acq with stuck := s.acq.stuck.filter (· != st) } }) ⟨fun _ => rfl, fun h => absurd h (Nat.not_lt_zero n)⟩
    fun k d _ h => restarted_succ hlo hsrc h
  exact hcleared.2 hhi

theorem stuckEnd_stuck {s : Dev} {st : Nat} (h : s.acq.stuck.contains st = true) :
    (s.stuckEnd st).acq.stuck = s.acq.stuck.filter (· != st) := by
  rw [stuckEnd_eq h]
  exact each_keeps (fun d => d.acq.stuck) _ (fun d n => by unfold Dev.restartStuck; split; exacts [rfl, rfl]) _ _

theorem stuckEnd_log {s : Dev} {st : Nat} (h : s.acq.stuck.contains st = true) : (s.stuckEnd st).log = s.log := by
  rw [stuckEnd_eq h]
  exact each_keeps Dev.log _ (fun d n => by unfold Dev.restartStuck; split; exacts [chainStep_log _ _, rfl]) _ _

theorem chStat_ne_safe {n : Nat} (h : n < 40) : ACQ_CH_STAT n ≠ SAFE_OUT_STAT ∧ ACQ_CH_STAT n ≠ SAFE_STAT := by
  simp only [ACQ_CH_STAT, chWin, SAFE_OUT_STAT, SAFE_STAT]
  omega

/-- Settles O31: the commands of an apply and its copy, then the marks of a stream. -/
theorem coefficientsAndStreams : Obligations.CoefficientsAndStreams := by
  unfold Obligations.CoefficientsAndStreams
  refine ⟨fun n s => ⟨fun hlock => ⟨coefApply_answers hlock, coefApply_none hlock⟩, fun p hp => ?_⟩, fun ch bits stamp s =>
    ⟨fun _ happly hat hrun hwin => ?_, coefApplyDone_answers, fun happly h => noEffect_of_done rfl (coefDone_waits happly h), fun h => ?_⟩,
    fun st s => ⟨fun hon hfree => ?_, fun h => ?_, fun h => noEffect_of_done rfl (if_neg (by rw [h]; decide))⟩⟩
  · refine event_answers (congrArg (done s) ?_)
    unfold Dev.coefApply
    rw [hp]
  · obtain ⟨⟨now, rest⟩, hwin⟩ := Option.isSome_iff_exists.mp hwin
    exact recordCopies_answers happly hat hrun hwin
  · refine noEffect_of_done rfl ?_
    unfold Dev.coefDone
    rw [h]
  · have heff := bitstreamStuck_effect (s := s.toDev) hon hfree
    refine answers_of_done rfl ⟨(settle_acq _).trans heff.acq_eq, fun n hlo hhi hrun hsrc => ?_, heff.framed_acq⟩
    exact (settle_bit _ _ _ (chStat_ne_safe hhi).1 (chStat_ne_safe hhi).2).trans (bitstreamStuck_marks hon hfree n hlo hhi hrun hsrc)
  · refine answers_of_done rfl ⟨(congrArg AcqSt.stuck (settle_acq _)).trans (stuckEnd_stuck h), fun n hlo hhi hsrc => ?_,
      noEvent_after (congrArg LogSt.raised (stuckEnd_log h))⟩
    exact (settle_bit _ _ _ (chStat_ne_safe hhi).1 (chStat_ne_safe hhi).2).trans (stuckEnd_clears h n hlo hhi hsrc)

end Sys2Proof.Machine
end

section
/-! Pulse inputs and quadrature inputs (R245 to R248). -/

namespace Sys2Proof.Machine

/-- What a selected edge makes of its pulse input (R246). -/
def pulseTaken (mode at_ : Nat) (x : PulseSt) : PulseSt :=
  match mode with
  | 1 => { x with count := (x.count + 1) % 2 ^ 32 }
  | 2 => { x with edges := x.edges ++ [(0, at_)] }
  | _ => x

theorem modAt_id {α : Type} (xs : List α) (i : Nat) : modAt xs i (fun x => x) = xs := by
  induction xs generalizing i with
  | nil => rfl
  | cons x xs ih =>
    cases i with
    | zero => rfl
    | succ i => exact congrArg (x :: ·) (ih i)

theorem pulseEdge_taken {s : Dev} {p cycle held : Nat} {falling : Bool} (hheld : s.fld (ACQ_PULSE_CFG p) 11 4 + 1 ≤ held)
    (hedge : s.fld (ACQ_PULSE_CFG p) 3 2 % 3 = 2 ∨ (s.fld (ACQ_PULSE_CFG p) 3 2 % 3 = 1 ↔ falling = true)) :
    s.pulseEdge p falling cycle held = { s with acq := { s.acq with
      pulse := modAt s.acq.pulse p (pulseTaken (s.pulseMode p) (s.seq.tickCyc + cycle)) } } := by
  have hselected : ((s.fld (ACQ_PULSE_CFG p) 3 2 % 3 != 2) && ((s.fld (ACQ_PULSE_CFG p) 3 2 % 3 == 1) != falling)) = false := by
    rcases hedge with h | h
    · simp [h]
    · cases falling <;> simp_all
  unfold Dev.pulseEdge
  dsimp only
  rw [hselected, if_neg (by simp [filtered, hheld])]
  split
  · next h => rw [h]; rfl
  · next h => rw [h]; rfl
  · next h1 h2 =>
    have hother : pulseTaken (s.pulseMode p) (s.seq.tickCyc + cycle) = fun x => x := by
      funext x
      unfold pulseTaken
      split
      exacts [absurd ‹_› h1, absurd ‹_› h2, rfl]
    rw [hother, modAt_id]

theorem pulseEdge_filtered {s : Dev} {p cycle held : Nat} {falling : Bool} (hheld : held < s.fld (ACQ_PULSE_CFG p) 11 4 + 1) :
    s.pulseEdge p falling cycle held = s :=
  if_pos (by
    have hshort : filtered (s.fld (ACQ_PULSE_CFG p) 11 4) held = false := decide_eq_false (by omega)
    rw [hshort]
    rfl)

theorem pulseEdge_answers {p : Fin 8} {falling : Bool} {cycle held : Nat} {s : State} (hs : Shaped s.toDev)
    (hheld : s.fld (ACQ_PULSE_CFG p) 11 4 + 1 ≤ held)
    (hedge : s.fld (ACQ_PULSE_CFG p) 3 2 % 3 = 2 ∨ (s.fld (ACQ_PULSE_CFG p) 3 2 % 3 = 1 ↔ falling = true)) :
    Answers (.pulseEdge p falling ⟨cycle, held⟩) s fun t =>
        (s.pulseMode p = 1 → (t.acq.pulse.getD p {}).count = ((s.acq.pulse.getD p {}).count + 1) % 2 ^ 32) ∧
        (s.pulseMode p = 2 → (t.acq.pulse.getD p {}).edges = (s.acq.pulse.getD p {}).edges ++ [(0, s.seq.tickCyc + cycle)]) ∧
        Framed [] s t { blocks s.toDev with acq := { s.acq with pulse := t.acq.pulse } } ∧ NoEvent s t := by
  refine answers_of_done (congrArg (done s) (pulseEdge_taken hheld hedge)) ?_
  rw [settle_acq]
  have hsame := getD_modAt_same s.acq.pulse p (pulseTaken (s.pulseMode p) (s.seq.tickCyc + cycle)) {} (by rw [hs.pulse]; exact p.isLt)
  dsimp only
  rw [hsame]
  refine ⟨fun h => by rw [h]; rfl, fun h => by rw [h]; rfl, ((Effect.refl [] s.toDev).acq _).framed, noEvent_after rfl⟩

/-! Quadrature. -/

/-- A pair takes new values behind its registers. -/
def Dev.putQuad (s : Dev) (p : Nat) (x : QuadSt) : Dev := { s with acq := { s.acq with quad := setAt s.acq.quad p x } }

/-- The levels that the filter accepts (R245). -/
theorem quadTransition_eq {s : Dev} {p ha hb : Nat} {qa qb : Bool} {x : QuadSt} {a b : Bool} (hx : x = s.acq.quad.getD p {})
    (hqa : a = if s.fld (ACQ_QUAD_CFG p) 9 2 + 1 ≤ ha then qa else x.qa)
    (hqb : b = if s.fld (ACQ_QUAD_CFG p) 9 2 + 1 ≤ hb then qb else x.qb) : s.quadTransition p qa qb ha hb =
    if !s.bit (ACQ_QUAD_CFG p) 0 then s.putQuad p { x with qa := a, qb := b }
    else if x.qa != a && x.qb != b then
      ((s.putQuad p { x with qa := a, qb := b }).cntSat (ACQ_QUAD_ERR p) 31 0 1).evW 0x0808 (BitVec.ofNat 32 (72 + p))
        (((s.putQuad p { x with qa := a, qb := b }).cntSat (ACQ_QUAD_ERR p) 31 0 1).rd (ACQ_QUAD_ERR p))
    else s.putQuad p { x with qa := a, qb := b, pos := signed 32 (unsigned 32 (x.pos + (if s.bit (ACQ_QUAD_CFG p) 1
      then -1 else 1) * quadDelta x.qa x.qb a b)) } := by
  subst hx
  have hsign : (if s.bit (ACQ_QUAD_CFG p) 1 then -1 else 1) * quadDelta (s.acq.quad.getD p {}).qa (s.acq.quad.getD p {}).qb a b =
      if s.bit (ACQ_QUAD_CFG p) 1 then -quadDelta (s.acq.quad.getD p {}).qa (s.acq.quad.getD p {}).qb a b
      else quadDelta (s.acq.quad.getD p {}).qa (s.acq.quad.getD p {}).qb a b := by
    split <;> simp
  rw [hsign]
  subst hqa hqb
  unfold Dev.quadTransition
  simp only [filtered, decide_eq_true_eq]
  rfl

theorem putQuad_after {p : Fin 4} {s : State} (hs : Shaped s.toDev) (y : QuadSt) :
    (s.after (s.toDev.putQuad p y)).acq.quad.getD p {} = y ∧
      Framed [] s (s.after (s.toDev.putQuad p y)) { blocks s.toDev with acq := (s.after (s.toDev.putQuad p y)).acq } ∧
      NoEvent s (s.after (s.toDev.putQuad p y)) := by
  refine ⟨?_, ((Effect.refl [] s.toDev).acq _).framed_acq, noEvent_after rfl⟩
  rw [settle_acq]
  refine (congrArg (fun l : List QuadSt => l.getD p {}) (setAt_eq_modAt s.acq.quad p y)).trans ?_
  exact getD_modAt_same _ _ _ _ (by rw [hs.quad]; exact p.isLt)

theorem quadIllegal_after {p : Fin 4} {s : State} (hs : Shaped s.toDev) (y : QuadSt) :
    let d := (s.toDev.putQuad p y).cntSat (ACQ_QUAD_ERR p) 31 0 1
    let t := s.after (d.evW 0x0808 (BitVec.ofNat 32 (72 + p)) (d.rd (ACQ_QUAD_ERR p)))
    t.acq.quad.getD p {} = y ∧ t.fld (ACQ_QUAD_ERR p) 31 0 = min 4294967295 (s.fld (ACQ_QUAD_ERR p) 31 0 + 1) ∧
        OneEvent s t 0x0808 (BitVec.ofNat 32 (72 + p)) (t.rd (ACQ_QUAD_ERR p)) ∧
        Framed [ACQ_QUAD_ERR p] s t { blocks s.toDev with acq := t.acq } := by
  intro d t
  have hne : ACQ_QUAD_ERR p ≠ SAFE_OUT_STAT ∧ ACQ_QUAD_ERR p ≠ SAFE_STAT := by
    have := p.isLt
    simp only [ACQ_QUAD_ERR, ACQ_QUAD_CFG, SAFE_OUT_STAT, SAFE_STAT]
    omega
  have hrd : t.rd (ACQ_QUAD_ERR p) = d.rd (ACQ_QUAD_ERR p) := settle_rd _ _ hne.1 hne.2
  obtain ⟨hput, -, -⟩ := putQuad_after hs y
  refine ⟨?_, ?_, ?_, ?_⟩
  · rw [settle_acq] at hput ⊢
    exact hput
  · refine (settle_fld _ _ _ _ hne.1 hne.2).trans ?_
    exact fld_cntSat_same _ _ _ _ _ (by decide) (by decide)
  · rw [hrd]
    exact oneEvent_evW rfl rfl
  · exact ((((Effect.refl [ACQ_QUAD_ERR p] s.toDev).acq { s.acq with quad := setAt s.acq.quad p y }).cntSat
      (a := ACQ_QUAD_ERR p) (by simp) _ _ _).evW _ _ _).framed_acq

theorem quadZero_answers {q : Fin 4} {s : State} (hs : Shaped s.toDev) (h : s.acqLocked (ACQ_QUAD_ZERO q) 1#32 = none) :
    Answers (.quadZero q) s fun t =>
      t.acq.quad.getD q {} = { s.acq.quad.getD q {} with zeroPend := true } ∧
      Framed [] s t { blocks s.toDev with acq := t.acq } ∧ NoEvent s t := by
  have hdone : s.toDev.quadZero q =
      { s.toDev with acq := { s.acq with quad := modAt s.acq.quad q fun x => { x with zeroPend := true } } } := by
    unfold Dev.quadZero
    rw [show s.acqLocked (ACQ_QUAD_ZERO q) 1 = none from h]
  refine answers_of_done (congrArg (done s) hdone) ⟨?_, ((Effect.refl [] s.toDev).acq _).framed_acq, noEvent_after rfl⟩
  rw [settle_acq]
  exact getD_modAt_same _ _ _ _ (by rw [hs.quad]; exact q.isLt)

theorem quadZero_locked {q : Fin 4} {s : State} {k : Nat} (h : s.acqLocked (ACQ_QUAD_ZERO q) 1#32 = some k) :
    s.toDev.quadZero q = s.toDev.ev 0x0805 k (ACQ_QUAD_ZERO q - 0x1C0000) := by
  unfold Dev.quadZero
  rw [show s.acqLocked (ACQ_QUAD_ZERO q) 1 = some k from h]

/-- Settles O32: an edge that the filter takes, a transition of the levels that it takes, and the zero command. -/
theorem pulseAndQuadrature : Obligations.PulseAndQuadrature := by
  unfold Obligations.PulseAndQuadrature
  refine fun p q falling qa qb cycle held ha hb s hs => ⟨fun hheld hedge => pulseEdge_answers hs hheld hedge,
    fun h => noEffect_of_done rfl (pulseEdge_filtered h), fun x a b hx hqa hqb => ?_, quadZero_answers hs,
    fun k hk => event_answers (congrArg (done s) (quadZero_locked hk))⟩
  have hmove := quadTransition_eq (s := s.toDev) (p := q) (ha := ha) (hb := hb) (qa := qa) (qb := qb) hx hqa hqb
  refine ⟨fun hen hne hne' => ?_, fun hen hlegal => ?_, fun hen => ?_⟩
  · rw [hen, if_neg (by decide), if_pos (by simp [hne, hne'])] at hmove
    exact answers_of_done (congrArg (done s) hmove) (quadIllegal_after hs _)
  · rw [hen, if_neg (by decide), if_neg (by simpa [or_iff_not_imp_left] using hlegal)] at hmove
    exact answers_of_done (congrArg (done s) hmove) (putQuad_after hs _)
  · rw [hen, if_pos (by decide)] at hmove
    exact answers_of_done (congrArg (done s) hmove) (putQuad_after hs _)

end Sys2Proof.Machine
end

section
/-! The rules of a CAN controller's operations: its error state, its error counts and what its transmit side shows (R261, R267). -/

namespace Sys2Proof.Machine

/-! A completion for the host leaves the buses alone (R441, R444, R445). -/

/-- The registers below HOST and the buses are as before. -/
structure BelowHost (s d : Dev) : Prop where
  regs : ∀ a, a < 0x3C0000 → d.rd a = s.rd a
  can : d.can = s.can

section
variable {s d : Dev}

theorem BelowHost.refl (s : Dev) : BelowHost s s := ⟨fun _ _ => rfl, rfl⟩

theorem BelowHost.wr (h : BelowHost s d) {a : Nat} (ha : 0x3C0000 ≤ a) (v : Word) : BelowHost s (d.wr a v) :=
  ⟨fun b hb => (rd_wr_ne _ _ _ _ (by omega)).trans (h.regs b hb), h.can⟩

theorem BelowHost.live (h : BelowHost s d) (p k n : Nat) : BelowHost s (d.cntWrap (HOST_LIVE p k) 31 0 n) :=
  h.wr (by simp only [HOST_LIVE]; omega) _

theorem BelowHost.raise (h : BelowHost s d) (n : Nat) : BelowHost s (d.raise n) := h.wr (by simp only [HOST_EVT_PEND]; omega) _

theorem BelowHost.setPair (h : BelowHost s d) (p : Nat) (f : PairSt → PairSt) : BelowHost s (d.setPair p f) := ⟨h.regs, h.can⟩

theorem BelowHost.evW (h : BelowHost s d) (c : Nat) (p q : Word) : BelowHost s (d.evW c p q) := ⟨h.regs, h.can⟩

theorem BelowHost.spend (h : BelowHost s d) : BelowHost s d.spend := ⟨h.regs, h.can⟩

theorem endCount_below (h : BelowHost s d) (p k : Nat) : BelowHost s (d.endCount p k) := by
  unfold Dev.endCount
  dsimp only
  split
  · exact h
  · exact (h.wr (by simp only [HOST_LIVE]; omega) _).live p k 1

theorem endDesc_below (h : BelowHost s d) (p status : Nat) : BelowHost s (d.endDesc p status) := by
  unfold Dev.endDesc
  split
  · exact endCount_below h p 5
  · exact (endCount_below h p 7).evW _ _ _

theorem reportPut_below (h : BelowHost s d) (p cls content : Nat) (body : List Byte) :
    BelowHost s (d.reportPut p cls content body) := by
  have hout : BelowHost s { d.spend with
      host.out := (p, d.reportHeader p cls content (body.length / 32) ++ body) :: d.host.out } := ⟨h.regs, h.can⟩
  exact ((((hout.wr (a := HOST_REP_PTR p) (by simp only [HOST_REP_PTR, pairWin]; omega) _).live p 1 1).setPair p _).spend.setPair
    p _).raise p

theorem reportDrop_below (h : BelowHost s d) (p : Nat) : BelowHost s (d.reportDrop p) := by
  have hdrop := ((h.live p 3 1).raise 0x80).setPair p fun x => { x with dropped := x.dropped + 1 }
  unfold Dev.reportDrop
  dsimp only
  split
  · exact hdrop.evW _ _ _
  · exact hdrop

theorem report_below (h : BelowHost s d) (p cls content : Nat) (body : List Byte) : BelowHost s (d.report p cls content body) := by
  have hcount : BelowHost s (d.reportCount p) := (h.live p 0 1).setPair p _
  have hstages : d.report p cls content body = if (d.reportCount p).repFits p ((padSlots body).length / 32)
      then (d.reportCount p).reportPut p cls content (padSlots body) else (d.reportCount p).reportDrop p := rfl
  rw [hstages]
  split
  · exact reportPut_below hcount p cls content _
  · exact reportDrop_below hcount p

theorem hostFrameEnd_below (h : BelowHost s d) (t : CanTx) (detail : Nat) : BelowHost s (d.hostFrameEnd t detail) := by
  unfold Dev.hostFrameEnd
  split
  · exact h
  · exact (report_below (endDesc_below h _ 0) _ _ _ _).spend

theorem hostFrameEnd_each_below (h : BelowHost s d) (ts : List CanTx) (detail : Nat) :
    BelowHost s (d.each ts fun e t => e.hostFrameEnd t detail) := by
  unfold Dev.each
  exact List.foldlRecOn (motive := fun e => BelowHost s e) ts _ h fun e he t _ => hostFrameEnd_below he t detail

end

/-- A frame that the host has not sent ends without a completion. -/
theorem hostFrameEnd_own (s : Dev) {t : CanTx} (h : t.host = none) (detail : Nat) : s.hostFrameEnd t detail = s := by
  unfold Dev.hostFrameEnd
  rw [h]

/-! The transmit side's registers. -/

/-- The registers that follow the transmit side of a controller (R261, R279, R280). -/
def txRegs (c : Nat) : List Nat := CAN_LEDGER_HELD c :: CAN_TB_STAT c :: (List.range 64).map CAN_STR_STAT

section
variable {l : List Nat} {s d b : Dev} {c : Nat}

theorem not_mem_txRegs {a : Nat} (ha : a < 0x208000) (hheld : a ≠ CAN_LEDGER_HELD c) (hstat : a ≠ CAN_TB_STAT c) : a ∉ txRegs c := by
  simp only [txRegs, List.mem_cons, List.mem_map, not_or, not_exists]
  refine ⟨hheld, hstat, fun i hi => ?_⟩
  obtain ⟨-, rfl⟩ := hi
  simp only [CAN_STR_STAT] at ha
  omega

theorem Effect.showTx (h : Effect l s d b) (hl : txRegs c ⊆ l) : Effect l s (d.showTx c) b := by
  have hshow := (h.wrN (hl (show CAN_LEDGER_HELD c ∈ txRegs c by simp [txRegs])) (d.canc c).frames.length).setFld
    (hl (show CAN_TB_STAT c ∈ txRegs c by simp [txRegs])) 6 0 (d.canc c).tbBits
  refine hshow.each fun e i hi he => he.setBit (hl ?_) _ _
  have hlt : i < 64 := List.mem_range.mp (List.mem_of_mem_filter hi)
  simp only [txRegs, List.mem_cons, List.mem_map]
  exact Or.inr (Or.inr ⟨i, List.mem_range.mpr hlt, rfl⟩)

theorem showTx_effect (s : Dev) (c : Nat) : Effect (txRegs c) s (s.showTx c) (blocks s) :=
  (Effect.refl _ s).showTx fun _ h => h

@[simp] theorem showTx_can (s : Dev) (c : Nat) : (s.showTx c).can = s.can := (showTx_effect s c).can_eq

@[simp] theorem showTx_canc (s : Dev) (c k : Nat) : (s.showTx c).canc k = s.canc k := by rw [Dev.canc, showTx_can]; rfl

@[simp] theorem showTx_log (s : Dev) (c : Nat) : (s.showTx c).log = s.log :=
  each_keeps Dev.log _ (fun _ _ => by exact setBit_log _ _ _ _) _ _

theorem showTx_reg (s : Dev) {a : Nat} (ha : a < 0x208000) (hheld : a ≠ CAN_LEDGER_HELD c) (hstat : a ≠ CAN_TB_STAT c) :
    (s.showTx c).rd a = s.rd a :=
  (showTx_effect s c).regs a (not_mem_txRegs ha hheld hstat)

/-- The transmitted flags of CAN_TB_STAT stay (R279). -/
theorem showTx_tbStat (s : Dev) (hc : c < 8) {i : Nat} (hi : 7 ≤ i) : (s.showTx c).bit (CAN_TB_STAT c) i = s.bit (CAN_TB_STAT c) i := by
  have hloop : ∀ (f : Nat → Dev → Bool) (d : Dev) (xs : List Nat),
      (d.each xs fun e k => e.setBit (CAN_STR_STAT k) 8 (f k e)).bit (CAN_TB_STAT c) i = d.bit (CAN_TB_STAT c) i := fun f d xs =>
    each_keeps (fun e => e.bit (CAN_TB_STAT c) i) _ (fun e k => bit_setBit_other _ _ _ _ _ _ (by
      simp only [CAN_TB_STAT, CAN_STR_STAT, canPage]
      omega)) xs d
  refine (hloop (fun k _ => ((s.canc c).tb1.toList ++ (s.canc c).queue).any fun t => t.stream == k) _ _).trans ?_
  refine (bit_setFld_ne _ _ _ _ _ _ (by decide) (by decide) (by omega)).trans ?_
  exact bit_wr_other _ _ _ _ _ (by simp)

end

/-! Error counts and error state. -/

theorem setCanc_length (s : Dev) (c : Nat) (f : CanCtl → CanCtl) : (s.setCanc c f).can.ctl.length = s.can.ctl.length :=
  length_modAt _ _ _

section
variable (s : Dev) (c : Nat)

theorem setErrs_canc (tec rec' : Nat) (hc : c < s.can.ctl.length) :
    (s.setErrs c tec rec').canc c = { s.canc c with txErr := tec, rxErr := rec' } := by
  simp only [Dev.setErrs, canc_reg]
  exact canc_setCanc_same _ _ _ hc

@[simp] theorem setErrs_log (tec rec' : Nat) : (s.setErrs c tec rec').log = s.log := by simp [Dev.setErrs]

theorem setErrs_reg (tec rec' : Nat) {a : Nat} (ha : a ≠ CAN_STAT c) : (s.setErrs c tec rec').rd a = s.rd a := by
  simp [Dev.setErrs, ha]

theorem setErrs_state (tec rec' : Nat) : (s.setErrs c tec rec').canState c = s.canState c ∧
    ∀ i, i < 8 → (s.setErrs c tec rec').bit (CAN_STAT c) i = s.bit (CAN_STAT c) i := by
  refine ⟨by simp [Dev.canState, Dev.setErrs], fun i hi => ?_⟩
  refine (bit_setFld_ne _ _ _ _ _ _ (by decide) (by decide) (by omega)).trans ?_
  refine (bit_setFld_ne _ _ _ _ _ _ (by decide) (by decide) (by omega)).trans ?_
  rw [(bit_window _ _ _).2.2.2.2.1]

/-- The counts' fields of CAN_STAT (R279). -/
theorem setErrs_fields (tec rec' : Nat) : (s.setErrs c tec rec').fld (CAN_STAT c) 16 8 = min 511 tec ∧
    (s.setErrs c tec rec').fld (CAN_STAT c) 31 24 = min 255 rec' := by
  refine ⟨?_, ?_⟩
  · refine (fld_setFld_ne _ _ _ _ _ _ _ (by decide) (by decide) (by decide)).trans ?_
    exact (fld_setFld_same _ _ _ _ _ (by decide) (by decide)).trans (Nat.mod_eq_of_lt (by omega))
  · exact (fld_setFld_same _ _ _ _ _ (by decide) (by decide)).trans (Nat.mod_eq_of_lt (by omega))

theorem setErrs_length (tec rec' : Nat) : (s.setErrs c tec rec').can.ctl.length = s.can.ctl.length := length_modAt _ _ _

@[simp] theorem setCanState_can (n : Nat) : (s.setCanState c n).can = s.can := by
  unfold Dev.setCanState
  split <;> rfl

@[simp] theorem setCanState_canc (n k : Nat) : (s.setCanState c n).canc k = s.canc k := by
  rw [Dev.canc, setCanState_can]
  rfl

@[simp] theorem setCanState_log (n : Nat) : (s.setCanState c n).log = s.log := by
  unfold Dev.setCanState
  split <;> simp

theorem setCanState_reg (n : Nat) {a : Nat} (ha : a < 0x3C0000) (hstat : a ≠ CAN_STAT c) : (s.setCanState c n).rd a = s.rd a := by
  unfold Dev.setCanState
  split
  · rfl
  · rw [(raise_other _ _ (by omega)).1, (rd_other _ hstat).2.2.2.1]

/-- The state that is set, and the fields of CAN_STAT beside it. -/
theorem setCanState_stat (n : Nat) (hn : n < 4) : (s.setCanState c n).canState c = n ∧
    (∀ i, 2 ≤ i → (s.setCanState c n).bit (CAN_STAT c) i = s.bit (CAN_STAT c) i) ∧
    ∀ hi lo, 2 ≤ lo → (s.setCanState c n).fld (CAN_STAT c) hi lo = s.fld (CAN_STAT c) hi lo := by
  unfold Dev.setCanState
  split
  · next h => exact ⟨h, fun _ _ => rfl, fun _ _ _ => rfl⟩
  · have hne : CAN_STAT c ≠ 0x3C0020 + 4 * ((0x30 + c) / 32) := by
      simp only [CAN_STAT, canPage]
      omega
    obtain ⟨-, hfld, hbit⟩ := raise_other (s.setFld (CAN_STAT c) 1 0 n) (0x30 + c) hne
    refine ⟨(hfld 1 0).trans ?_, fun i hi => (hbit i).trans ?_, fun hi lo hlo => (hfld hi lo).trans ?_⟩
    · exact (fld_setFld_same _ _ _ _ _ (by decide) (by decide)).trans (Nat.mod_eq_of_lt hn)
    · exact bit_setFld_ne _ _ _ _ _ _ (by decide) (by decide) (by omega)
    · exact fld_setFld_ne _ _ _ _ _ _ _ (by decide) (by decide) (by omega)

end

theorem canc_settle (d : Dev) (k : Nat) : d.settle.canc k = d.canc k := by rw [Dev.canc, Dev.canc, settle_can]

/-- The registers of a controller's page follow nothing of the safety logic. -/
theorem page_ne_safe {c k : Nat} (hc : c < 8) (hk : k < 0x1000) : canPage c + k ≠ SAFE_OUT_STAT ∧ canPage c + k ≠ SAFE_STAT := by
  simp only [canPage, SAFE_OUT_STAT, SAFE_STAT]
  omega

theorem page_settle (d : Dev) {c k : Nat} (hc : c < 8) (hk : k < 0x1000) : d.settle.rd (canPage c + k) = d.rd (canPage c + k) :=
  settle_rd _ _ (page_ne_safe hc hk).1 (page_ne_safe hc hk).2

end Sys2Proof.Machine
end

section
/-! INIT and AUTOSTART of a CAN controller (R254, R255, R257). -/

namespace Sys2Proof.Machine

/-- Five bits of CAN_CTRL are written (R279). -/
theorem regRow_canCtrl (c : Fin 8) : ∃ r, regRow (CAN_CTRL c) = some r ∧ r.w1c = 0 ∧ r.rw = 0x1F := by
  have hrows : ∀ c : Fin 8, (regRow (CAN_CTRL c)).map (fun r => (r.w1c, r.rw)) = some (0, 0x1F) := by decide
  obtain ⟨r, hr, hpair⟩ := Option.map_eq_some_iff.mp (hrows c)
  exact ⟨r, hr, (Prod.mk.inj hpair).1, (Prod.mk.inj hpair).2⟩

section
variable {s : Dev} {c : Fin 8} {v : Word}

/-- CAN_CTRL as a write leaves it. -/
def Dev.ctrlStored (s : Dev) (c : Nat) (v : Word) : Dev :=
  s.wr (CAN_CTRL c) ((s.rd (CAN_CTRL c) &&& ~~~0x1F#32) ||| (v &&& 0x1F#32))

theorem store_canCtrl : s.store (CAN_CTRL c) v = s.ctrlStored c v := by
  obtain ⟨r, hr, hw1c, hrw⟩ := regRow_canCtrl c
  rw [store_eq_wr_rw hr hw1c, hrw]
  rfl

theorem bit_ctrlStored {k : Nat} (hk : k < 5) : (s.ctrlStored c v).bit (CAN_CTRL c) k = v.getLsbD k := by
  refine (bit_wr_same _ _ _ _).trans ((bitOf_toNat _ _).trans ?_)
  rw [BitVec.getLsbD_or, BitVec.getLsbD_and, BitVec.getLsbD_and, BitVec.getLsbD_not]
  interval_cases k <;> simp

/-- A write without RECOVER to a controller that is not locked (R257, R267). -/
theorem canCtrl_free (h5 : bitOf v.toNat 5 = false) (hlock : s.canLocked c = false) : s.canCtrl c v =
    if s.bit (CAN_CTRL c) 0 && !bitOf v.toNat 0 then (s.ctrlStored c v).leaveInit c
    else if !s.bit (CAN_CTRL c) 0 && bitOf v.toNat 0 then (s.ctrlStored c v).enterInit c
    else if bitOf v.toNat 3 then (s.ctrlStored c v).startRecovery c
    else s.ctrlStored c v := by
  unfold Dev.canCtrl
  dsimp only
  rw [h5]
  simp only [Bool.false_eq_true, if_false, hlock, store_canCtrl]

/-- In service a controller that carries a stream refuses the write (R257). -/
theorem canCtrl_locked (h5 : bitOf v.toNat 5 = false) (hlock : s.canLocked c = true) : s.canCtrl c v = s.ev 0x090D c 0 := by
  unfold Dev.canCtrl
  dsimp only
  rw [h5]
  simp only [Bool.false_eq_true, if_false, hlock, if_true, false_and]

theorem canLocked_of_watch (h : s.mode = 0) : s.canLocked c = false := by simp [Dev.canLocked, inService_false h]

end

/-! Leaving and entering INIT. -/

section
variable {s : Dev} {c : Nat}

/-- With good timing the controller starts (R255, R257). -/
theorem leaveInit_starts (hc : c < 8) (hlen : c < s.can.ctl.length)
    (htiming : timingFault (s.rd (CAN_NBT c)) (s.rd (CAN_DBT c)) (s.bit (CAN_CTRL c) 1) = 0) :
    (s.leaveInit c).bit (CAN_CTRL c) 0 = false ∧ (s.leaveInit c).canState c = 0 ∧
      (s.leaveInit c).canc c = { s.canc c with fd := s.bit (CAN_CTRL c) 1, trefPrev := none, txErr := 0, rxErr := 0 } ∧
      ∀ k, 1 ≤ k → (s.leaveInit c).bit (CAN_CTRL c) k = s.bit (CAN_CTRL c) k := by
  have hstages : s.leaveInit c = (((((s.setBit (CAN_CTRL c) 0 false).setCanc c fun x =>
      { x with fd := s.bit (CAN_CTRL c) 1, trefPrev := none }).setErrs c 0 0).setBit (CAN_STAT c) 2 false).setCanState c 0) := by
    unfold Dev.leaveInit
    dsimp only
    rw [htiming]
    split
    · rfl
    · next h => exact absurd rfl h
  have hctrl : ∀ k, (s.leaveInit c).bit (CAN_CTRL c) k = (s.setBit (CAN_CTRL c) 0 false).bit (CAN_CTRL c) k := fun k => by
    refine bit_of_rd _ _ _ _ ?_
    rw [hstages, setCanState_reg _ _ _ (by simp only [CAN_CTRL, canPage]; omega) (by simp), rd_setBit_ne _ _ _ _ _ (by simp),
      setErrs_reg _ _ _ _ (by simp), (rd_window _ _).2.2.2.2.1]
  refine ⟨(hctrl 0).trans (bit_setBit_same _ _ _ _ (by decide)), ?_, ?_, fun k hk =>
    (hctrl k).trans (bit_setBit_ne _ _ _ _ _ (by decide) (by omega))⟩
  · rw [hstages]
    exact (setCanState_stat _ _ 0 (by decide)).1
  · rw [hstages, setCanState_canc, (canc_reg _ _).2.2.2.2.1, setErrs_canc _ _ _ _ (by rwa [setCanc_length]),
      canc_setCanc_same (s.setBit (CAN_CTRL c) 0 false) _ _ (by simpa using hlen), (canc_reg _ _).2.2.2.2.1]

/-- With other timing INIT stays, and its event names the limit (R255). -/
theorem leaveInit_refused {w : Nat} (hw : w ≠ 0)
    (htiming : timingFault (s.rd (CAN_NBT c)) (s.rd (CAN_DBT c)) (s.bit (CAN_CTRL c) 1) = w) :
    s.leaveInit c = (s.setBit (CAN_CTRL c) 0 true).ev 0x090A c w := by
  unfold Dev.leaveInit
  dsimp only
  rw [htiming]
  split
  · exact absurd rfl hw
  · rfl

/-- INIT stops the controller (R267). -/
theorem enterInit_stops (hc : c < 8) (hlen : c < s.can.ctl.length) :
    (s.enterInit c).bit (CAN_CTRL c) 0 = s.bit (CAN_CTRL c) 0 ∧ (s.enterInit c).canState c = 3 ∧
      ((s.enterInit c).canc c).txErr = 0 ∧ ((s.enterInit c).canc c).rxErr = 0 := by
  have hstages : s.enterInit c = (((((s.setCanc c fun x => { x.unwin with trefPrev := none }).setErrs c 0 0).setBit
      (CAN_STAT c) 2 false).setCanState c 3).showTx c) := rfl
  have hcanc : (s.enterInit c).canc c = { ({ (s.canc c).unwin with trefPrev := none } : CanCtl) with txErr := 0, rxErr := 0 } := by
    rw [hstages, showTx_canc, setCanState_canc, (canc_reg _ _).2.2.2.2.1, setErrs_canc _ _ _ _ (by rwa [setCanc_length]),
      canc_setCanc_same _ _ _ hlen]
  rw [hcanc]
  refine ⟨bit_of_rd _ _ _ _ ?_, ?_, rfl, rfl⟩
  · rw [hstages, showTx_reg _ (by simp only [CAN_CTRL, canPage]; omega) (by simp) (by simp),
      setCanState_reg _ _ _ (by simp only [CAN_CTRL, canPage]; omega) (by simp), rd_setBit_ne _ _ _ _ _ (by simp),
      setErrs_reg _ _ _ _ (by simp), (rd_window _ _).2.2.2.2.1]
  · unfold Dev.canState Dev.fld
    rw [hstages, showTx_reg _ (by simp only [CAN_STAT, canPage]; omega) (by simp) (by simp)]
    exact (setCanState_stat _ _ 3 (by decide)).1

end

/-! The commands. -/

section
variable {c : Fin 8} {v : Word} {s : State}

theorem leave_bits (hv : v.getLsbD 5 = false) : bitOf (v &&& ~~~1#32).toNat 5 = false ∧ bitOf (v &&& ~~~1#32).toNat 0 = false ∧
    ∀ k, 1 ≤ k → k < 5 → (v &&& ~~~1#32).getLsbD k = v.getLsbD k := by
  simp only [bitOf_toNat]
  refine ⟨by simpa using hv, by simp, fun k hk hk' => ?_⟩
  interval_cases k <;> simp

theorem enter_bits (hv : v.getLsbD 5 = false) : bitOf (v ||| 1#32).toNat 5 = false ∧ bitOf (v ||| 1#32).toNat 0 = true := by
  simp only [bitOf_toNat]
  exact ⟨by simpa using hv, by simp⟩

theorem ctrlStored_reg {s : Dev} {v : Word} {a : Nat} (ha : a ≠ CAN_CTRL c) : (s.ctrlStored c v).rd a = s.rd a := rd_wr_ne _ _ _ _ ha

theorem ctrlStored_length {s : Dev} {v : Word} : (s.ctrlStored c v).can = s.can := (rfl)

/-- The registers of a controller's page as the settled device shows them. -/
theorem ctrl_settle (d : Dev) (k : Nat) : d.settle.bit (CAN_CTRL c) k = d.bit (CAN_CTRL c) k ∧ d.settle.canState c = d.canState c :=
  ⟨bit_of_rd _ _ _ _ (page_settle d c.isLt (k := 0) (by decide)), fld_of_rd _ _ _ _ _ (page_settle d c.isLt (by decide))⟩

theorem canLeave_eq (hv : v.getLsbD 5 = false) (hmode : s.mode = 0) (hinit : s.bit (CAN_CTRL c) 0 = true) :
    s.toDev.canCtrl c (v &&& ~~~1) = (s.toDev.ctrlStored c (v &&& ~~~1#32)).leaveInit c := by
  obtain ⟨h5, h0, -⟩ := leave_bits hv
  refine (canCtrl_free h5 (canLocked_of_watch hmode)).trans (if_pos ?_)
  rw [h0, hinit]
  rfl

theorem timing_ctrlStored (hv : v.getLsbD 5 = false) :
    timingFault ((s.toDev.ctrlStored c (v &&& ~~~1#32)).rd (CAN_NBT c)) ((s.toDev.ctrlStored c (v &&& ~~~1#32)).rd (CAN_DBT c))
      ((s.toDev.ctrlStored c (v &&& ~~~1#32)).bit (CAN_CTRL c) 1) = timingFault (s.rd (CAN_NBT c)) (s.rd (CAN_DBT c)) (v.getLsbD 1) := by
  rw [ctrlStored_reg (by simp), ctrlStored_reg (by simp), bit_ctrlStored (by decide),
    (leave_bits hv).2.2 1 (by decide) (by decide)]

theorem canLeaves_answers (hs : Shaped s.toDev) (hv : v.getLsbD 5 = false) (hmode : s.mode = 0)
    (hinit : s.bit (CAN_CTRL c) 0 = true) (htiming : timingFault (s.rd (CAN_NBT c)) (s.rd (CAN_DBT c)) (v.getLsbD 1) = 0) :
    Answers (.canLeaveInit c v) s fun t => t.bit (CAN_CTRL c) 0 = false ∧ t.canState c = 0 ∧
          (t.canc c).fd = v.getLsbD 1 ∧ (t.canc c).txErr = 0 ∧ (t.canc c).rxErr = 0 ∧
          (∀ k, 1 ≤ k → k ≤ 4 → t.bit (CAN_CTRL c) k = v.getLsbD k) := by
  obtain ⟨hleft, hstate, hcanc, hbits⟩ := leaveInit_starts (s := s.toDev.ctrlStored c (v &&& ~~~1#32)) c.isLt
    (by rw [ctrlStored_length, hs.can]; exact c.isLt) ((timing_ctrlStored hv).trans htiming)
  have hstored : ∀ k, 1 ≤ k → k < 5 → (s.toDev.ctrlStored c (v &&& ~~~1#32)).bit (CAN_CTRL c) k = v.getLsbD k := fun k hk hk' =>
    (bit_ctrlStored hk').trans ((leave_bits hv).2.2 k hk hk')
  refine answers_of_done (congrArg (done s) (canLeave_eq hv hmode hinit)) ?_
  rw [canc_settle, hcanc]
  exact ⟨(ctrl_settle _ 0).1.trans hleft, (ctrl_settle _ 0).2.trans hstate, hstored 1 (by decide) (by decide), rfl, rfl,
    fun k hk hk' => (ctrl_settle _ k).1.trans ((hbits k hk).trans (hstored k hk (by omega)))⟩

theorem canLeaveRefused_answers (hv : v.getLsbD 5 = false) (hmode : s.mode = 0) (hinit : s.bit (CAN_CTRL c) 0 = true) (w : Nat)
    (hw : w ≠ 0) (htiming : timingFault (s.rd (CAN_NBT c)) (s.rd (CAN_DBT c)) (v.getLsbD 1) = w) :
    Answers (.canLeaveInit c v) s fun t =>
          t.bit (CAN_CTRL c) 0 = true ∧ OneEvent s t 0x090A (BitVec.ofNat 32 c) (BitVec.ofNat 32 w) ∧
            OnlyRegs [CAN_CTRL c] s t := by
  refine answers_of_done (congrArg (done s) ((canLeave_eq hv hmode hinit).trans
    (leaveInit_refused hw ((timing_ctrlStored hv).trans htiming)))) ⟨?_, oneEvent_ev rfl (by simp [Dev.ctrlStored]), ?_⟩
  · exact (ctrl_settle _ 0).1.trans (bit_setBit_same _ _ _ _ (by decide))
  · exact ((((Effect.refl _ s.toDev).wr (a := CAN_CTRL c) (by simp) _).setBit (a := CAN_CTRL c) (by simp) _ _).ev _ _ _).framed

theorem canEnters_answers (hs : Shaped s.toDev) (hv : v.getLsbD 5 = false) (hmode : s.mode = 0)
    (hinit : s.bit (CAN_CTRL c) 0 = false) : Answers (.canEnterInit c v) s fun t => t.bit (CAN_CTRL c) 0 = true ∧
        t.canState c = 3 ∧ (t.canc c).txErr = 0 ∧ (t.canc c).rxErr = 0 := by
  obtain ⟨h5, h0⟩ := enter_bits hv
  have hdone : s.toDev.canCtrl c (v ||| 1) = (s.toDev.ctrlStored c (v ||| 1#32)).enterInit c := by
    refine (canCtrl_free h5 (canLocked_of_watch hmode)).trans ((if_neg ?_).trans (if_pos ?_))
    · rw [hinit]
      exact Bool.false_ne_true
    · rw [hinit, h0]
      rfl
  obtain ⟨hctrl, hstate, htx, hrx⟩ := enterInit_stops (s := s.toDev.ctrlStored c (v ||| 1#32)) c.isLt
    (by rw [ctrlStored_length, hs.can]; exact c.isLt)
  refine answers_of_done (congrArg (done s) hdone) ?_
  rw [canc_settle]
  exact ⟨(ctrl_settle _ 0).1.trans (hctrl.trans ((bit_ctrlStored (by decide)).trans ((bitOf_toNat _ _).symm.trans h0))),
    (ctrl_settle _ 0).2.trans hstate, htx, hrx⟩

/-- AUTOSTART of a controller that waits in INIT (R257). -/
theorem autostart_answers (hs : Shaped s.toDev) (hvalid : s.timeValid = true) (hauto : (s.canc c).auto = false)
    (hen : s.bit (CAN_GCFG c) 0 = true) (hinit : s.bit (CAN_CTRL c) 0 = true)
    (htiming : timingFault (s.rd (CAN_NBT c)) (s.rd (CAN_DBT c)) (s.bit (CAN_CTRL c) 1) = 0) :
    Answers (.canAutostart c) s fun t => t.bit (CAN_CTRL c) 0 = false ∧ t.canState c = 0 ∧ (t.canc c).auto = true := by
  have hdone : s.toDev.autostart c = (s.toDev.setCanc c fun x => { x with auto := true }).leaveInit c := by
    refine (if_pos ?_).trans (if_pos ?_)
    · rw [hvalid, hauto]
      rfl
    · simp only [bit_window]
      rw [hen, hinit]
      rfl
  have hlen : c.val < s.can.ctl.length := by rw [hs.can]; exact c.isLt
  obtain ⟨hleft, hstate, hcanc, -⟩ := leaveInit_starts (s := s.toDev.setCanc c fun x => { x with auto := true }) c.isLt
    (by rwa [setCanc_length]) htiming
  rw [canc_setCanc_same _ _ _ hlen] at hcanc
  refine answers_of_done (congrArg (done s) hdone) ?_
  rw [canc_settle, hcanc]
  exact ⟨(ctrl_settle _ 0).1.trans hleft, (ctrl_settle _ 0).2.trans hstate, rfl⟩

end

/-- Settles O33: a write that leaves or enters INIT, its refusals, and AUTOSTART. -/
theorem canStart : Obligations.CanStart := by
  unfold Obligations.CanStart
  refine ⟨fun c v s hs hv => ⟨canLeaves_answers hs hv, canLeaveRefused_answers hv, canEnters_answers hs hv, fun hlock => ⟨?_, ?_⟩⟩,
    fun c s hs => ⟨autostart_answers hs, fun h => ?_⟩⟩
  · exact event_answers (congrArg (done s) (canCtrl_locked (leave_bits hv).1 hlock))
  · exact event_answers (congrArg (done s) (canCtrl_locked (enter_bits hv).1 hlock))
  · refine noEffect_of_done rfl (if_neg ?_)
    rcases h with h | h <;> rw [h] <;> simp

end Sys2Proof.Machine
end

section
/-! Error counts, bus-off and recovery of a CAN controller (R259, R263, R267). -/

namespace Sys2Proof.Machine

/-! What waits for a frame that has won (R259). -/

/-- Where no frame has won, an error honours nothing. -/
theorem honour_idle {s : Dev} {c : Nat} (h : (s.canc c).frames.find? CanTx.won = none) :
    s.honour c = (s.setCanc c CanCtl.unwin).showTx c := by
  have hlost : ∀ t ∈ (s.canc c).frames, t.won = false := fun t ht => by simpa using List.find?_eq_none.mp h t ht
  have htb0 : (s.canc c).tb0.elim false CanTx.won = false := by
    rcases Option.eq_none_or_eq_some (s.canc c).tb0 with h0 | ⟨t, h0⟩
    · rw [h0]; rfl
    · rw [h0]; exact hlost t (by simp [CanCtl.frames, h0])
  have htb2 : ∀ t, (s.canc c).tb2 = some t → t.won = false := fun t h2 => hlost t (by simp [CanCtl.frames, h2])
  have htb1 : ∀ t, (s.canc c).tb1 = some t → t.won = false := fun t h1 => hlost t (by simp [CanCtl.frames, h1])
  unfold Dev.honour
  dsimp only
  simp only [htb0, Bool.false_and, Bool.false_eq_true, if_false]
  rcases Option.eq_none_or_eq_some (s.canc c).tb2 with h2 | ⟨t2, h2⟩ <;>
    rcases Option.eq_none_or_eq_some (s.canc c).tb1 with h1 | ⟨t1, h1⟩
  · simp only [h1, h2]
  · simp only [h1, h2, htb1 t1 h1, Bool.false_eq_true, if_false]
    split <;> rfl
  · simp only [h1, h2, htb2 t2 h2, Bool.false_and, Bool.false_eq_true, if_false]
  · simp only [h1, h2, htb2 t2 h2, htb1 t1 h1, Bool.false_and, Bool.false_eq_true, if_false]
    split <;> rfl

/-- The error state of a controller that is error active, by its counts (R267). -/
theorem checkErrs_active {s : Dev} {c : Nat} (hstate : s.canState c = 0) (htx : (s.canc c).txErr ≤ 255) : s.checkErrs c =
    if 127 < (s.canc c).txErr ∨ 127 < (s.canc c).rxErr then (s.setCanState c 1).ev 0x0901 c (s.canc c).txErr else s := by
  unfold Dev.checkErrs
  dsimp only
  rw [if_neg (by simp [Dev.canRunning, hstate]), if_neg (by omega), hstate]
  simp

theorem checkErrs_keeps {s : Dev} {c : Nat} (hstate : s.canState c = 0) (htx : (s.canc c).txErr ≤ 127) (hrx : (s.canc c).rxErr ≤ 127) :
    s.checkErrs c = s :=
  (checkErrs_active hstate (by omega)).trans (if_neg (by omega))

/-! Errors. -/

/-- The counts after an error (R267). -/
def txAfter (k : CanErrKind) (n : Nat) : Nat := n + if k = .transmit then 8 else 0
def rxAfter (k : CanErrKind) (n : Nat) : Nat := n + match k with | .receive => 1 | .receiveDominant => 8 | _ => 0

/-- The device once an error has counted. -/
def Dev.errCounted (s : Dev) (c : Nat) (k : CanErrKind) : Dev :=
  match k with
  | .transmitUncounted => s
  | k => s.setErrs c (txAfter k (s.canc c).txErr) (rxAfter k (s.canc c).rxErr)

theorem errCounted_shows {s : Dev} {c : Nat} (hc : c < s.can.ctl.length) (k : CanErrKind) :
    (s.errCounted c k).canc c = { s.canc c with
      txErr := txAfter k (s.canc c).txErr, rxErr := rxAfter k (s.canc c).rxErr } ∧
      (s.errCounted c k).canState c = s.canState c ∧ (s.errCounted c k).can.ctl.length = s.can.ctl.length := by
  cases k with
  | transmitUncounted => exact ⟨rfl, rfl, rfl⟩
  | _ => exact ⟨setErrs_canc _ _ _ _ hc, (setErrs_state _ _ _ _).1, setErrs_length _ _ _ _⟩

theorem canError_eq {s : Dev} {c : Nat} {k : CanErrKind} (hrun : s.canRunning c = true) (hfree : s.bit (CAN_CTRL c) 4 = false)
    (hrx : (s.canc c).rxErr ≤ 127) (hlost : (s.canc c).frames.find? CanTx.won = none) :
    s.canError c k false = ((s.errCounted c k).honour c).checkErrs c := by
  have h1 : min 255 ((s.canc c).rxErr + 1) = (s.canc c).rxErr + 1 := by omega
  have h8 : min 255 ((s.canc c).rxErr + 8) = (s.canc c).rxErr + 8 := by omega
  unfold Dev.canError
  dsimp only
  rw [hrun, hlost, h1, h8]
  dsimp only
  rw [hfree]
  cases k <;> simp only [Bool.not_true, Bool.false_eq_true, if_false] <;> rfl

theorem canError_answers {c : Fin 8} {k : CanErrKind} {s : State} (hs : Shaped s.toDev) (hstate : s.canState c = 0)
    (hfree : s.bit (CAN_CTRL c) 4 = false) (hlost : (s.canc c).frames.find? CanTx.won = none) (htx : (s.canc c).txErr ≤ 127)
    (hrx : (s.canc c).rxErr ≤ 127) : Answers (.canError c k false) s fun t =>
          (t.canc c).txErr = (s.canc c).txErr + (if k = .transmit then 8 else 0) ∧
          (t.canc c).rxErr = (s.canc c).rxErr + (match k with | .receive => 1 | .receiveDominant => 8 | _ => 0) ∧
          t.canState c = (if 127 < (t.canc c).txErr ∨ 127 < (t.canc c).rxErr then 1 else 0) := by
  have hlen : c.val < s.can.ctl.length := by rw [hs.can]; exact c.isLt
  obtain ⟨hcanc, hcount, hclen⟩ := errCounted_shows hlen k
  have hdone : s.toDev.canError c k false = (((s.toDev.errCounted c k).setCanc c CanCtl.unwin).showTx c).checkErrs c := by
    rw [canError_eq (by simp [Dev.canRunning, hstate]) hfree hrx hlost, honour_idle (by rw [hcanc]; exact hlost)]
  have htxle : txAfter k (s.canc c).txErr ≤ 255 := by
    unfold txAfter
    split <;> omega
  have hshown : (((s.toDev.errCounted c k).setCanc c CanCtl.unwin).showTx c).canc c = ((s.toDev.errCounted c k).canc c).unwin := by
    rw [showTx_canc, canc_setCanc_same _ _ _ (by rwa [hclen])]
  have hactive : (((s.toDev.errCounted c k).setCanc c CanCtl.unwin).showTx c).canState c = 0 := by
    have hlt := c.isLt
    unfold Dev.canState Dev.fld
    rw [showTx_reg _ (by simp only [CAN_STAT, canPage]; omega) (by simp) (by simp), (rd_window _ _).2.2.2.2.1]
    exact hcount.trans hstate
  rw [hcanc] at hshown
  have htx' : ((((s.toDev.errCounted c k).setCanc c CanCtl.unwin).showTx c).canc c).txErr = txAfter k (s.canc c).txErr := by rw [hshown]; rfl
  have hrx' : ((((s.toDev.errCounted c k).setCanc c CanCtl.unwin).showTx c).canc c).rxErr = rxAfter k (s.canc c).rxErr := by rw [hshown]; rfl
  refine answers_of_done (congrArg (done s) hdone) ?_
  have hpage : ∀ e : Dev, (s.after e).canState c = e.canState c := fun e => (ctrl_settle e 0).2
  rw [canc_settle, hpage]
  generalize ((s.toDev.errCounted c k).setCanc c CanCtl.unwin).showTx c = d at *
  have hcheck : ((d.checkErrs c).canc c) = d.canc c := by
    rw [checkErrs_active hactive (by omega)]
    split
    · rw [(canc_reg _ _).2.2.2.2.2.2.2.2.2.2.2.1, setCanState_canc]
    · rfl
  rw [hcheck]
  refine ⟨htx', hrx', ?_⟩
  rw [checkErrs_active hactive (by omega)]
  split
  · exact (setCanState_stat _ _ 1 (by decide)).1
  · exact hactive

/-! Bus-off. -/

theorem pend_source (c : Fin 8) : HOST_EVT_PEND ((0x30 + c) / 32) = HOST_EVT_PEND 1 := by
  have := c.isLt
  simp only [HOST_EVT_PEND]
  omega

theorem setCanState_effect {l : List Nat} {s d b : Dev} (c : Fin 8) (n : Nat) (hstat : CAN_STAT c ∈ l) (hpend : HOST_EVT_PEND 1 ∈ l)
    (h : Effect l s d b) : Effect l s (d.setCanState c n) b :=
  Effect.ite _ (fun _ => h) fun _ => (h.setFld hstat _ _ _).raise (n := 0x30 + c) (by rw [pend_source]; exact hpend)

theorem setErrs_effect {l : List Nat} {s d b : Dev} {x : CanSt} {c : Nat} (tec rec' : Nat) (hstat : CAN_STAT c ∈ l)
    (h : Effect l s d { b with can := x }) : ∃ x, Effect l s (d.setErrs c tec rec') { b with can := x } :=
  ⟨_, ((h.can _).setFld hstat _ _ _).setFld hstat _ _ _⟩

section
variable {c : Fin 8} {s : State}

theorem canRecover_answers (hoff : s.canState c = 2) (hidle : s.recovering c = false) :
    Answers (.canRecover c) s fun t => t.recovering c = true ∧ t.canState c = 2 ∧
        OnlyRegs [CAN_STAT c, HOST_EVT_PEND 1] s t ∧ NoEvent s t := by
  have hdone : s.toDev.canRecover c = (s.toDev.setBit (CAN_STAT c) 2 true).raise (0x30 + c) :=
    if_pos ⟨hoff, by rw [hidle]; rfl⟩
  have hne : CAN_STAT c ≠ 0x3C0020 + 4 * ((0x30 + c) / 32) := by
    have := c.isLt
    simp only [CAN_STAT, canPage]
    omega
  obtain ⟨-, hfld, hbit⟩ := raise_other (s.toDev.setBit (CAN_STAT c) 2 true) (0x30 + c) hne
  refine answers_of_done (congrArg (done s) hdone) ⟨?_, ?_, ?_, noEvent_after (by simp)⟩
  · exact (bit_of_rd _ _ _ _ (page_settle _ c.isLt (by decide))).trans ((hbit 2).trans (bit_setBit_same _ _ _ _ (by decide)))
  · exact (ctrl_settle _ 0).2.trans ((hfld 1 0).trans ((fld_setBit_ne _ _ _ _ _ _ (by decide) (by decide)).trans hoff))
  · exact (((Effect.refl _ s.toDev).setBit (a := CAN_STAT c) (by simp) _ _).raise (n := 0x30 + c) (by simp [pend_source])).framed

theorem recoveryDone_answers (h : s.recovering c = true) : Answers (.canRecoveryDone c) s fun t => t.recovering c = false ∧ t.canState c = 0 ∧
        t.fld (CAN_STAT c) 16 8 = 0 ∧ t.fld (CAN_STAT c) 31 24 = 0 ∧ OneEvent s t 0x0904 (BitVec.ofNat 32 c) 0#32 ∧
        Framed [CAN_STAT c, HOST_EVT_PEND 1] s t { blocks s.toDev with can := t.can } := by
  have hdone : s.toDev.recoveryDone c = (((s.toDev.setErrs c 0 0).setBit (CAN_STAT c) 2 false).setCanState c 0).ev 0x0904 c 0 := if_pos h
  obtain ⟨hstate, hbit, hfld⟩ := setCanState_stat ((s.toDev.setErrs c 0 0).setBit (CAN_STAT c) 2 false) c 0 (by decide)
  obtain ⟨htec, hrec⟩ : (s.toDev.setErrs c 0 0).fld (CAN_STAT c) 16 8 = 0 ∧ (s.toDev.setErrs c 0 0).fld (CAN_STAT c) 31 24 = 0 := by
    simpa using setErrs_fields s.toDev c 0 0
  have hreg : ∀ d : Dev, (s.after (d.ev 0x0904 c 0)).rd (CAN_STAT c) = d.rd (CAN_STAT c) := fun d =>
    page_settle (d.ev 0x0904 c 0) c.isLt (by decide)
  obtain ⟨x, hframe⟩ := setErrs_effect (l := [CAN_STAT c, HOST_EVT_PEND 1]) (b := blocks s.toDev) (c := c) 0 0 (by simp) (Effect.refl _ s.toDev)
  refine answers_of_done (congrArg (done s) hdone) ⟨?_, ?_, ?_, ?_,
    oneEvent_ev (d := ((s.toDev.setErrs c 0 0).setBit (CAN_STAT c) 2 false).setCanState c 0) rfl (by simp), ?_⟩
  · exact (bit_of_rd _ _ _ _ (hreg _)).trans ((hbit 2 (by decide)).trans (bit_setBit_same _ _ _ _ (by decide)))
  · exact (fld_of_rd _ _ _ _ _ (hreg _)).trans hstate
  · exact (fld_of_rd _ _ _ _ _ (hreg _)).trans ((hfld 16 8 (by decide)).trans
      ((fld_setBit_ne _ _ _ _ _ _ (by decide) (by decide)).trans htec))
  · exact (fld_of_rd _ _ _ _ _ (hreg _)).trans ((hfld 31 24 (by decide)).trans
      ((fld_setBit_ne _ _ _ _ _ _ (by decide) (by decide)).trans hrec))
  · exact ((setCanState_effect c 0 (by simp) (by simp) (hframe.setBit (a := CAN_STAT c) (by simp) _ _)).ev _ _ _).framed_can

theorem hpRelease_answers : Answers (.canHpRelease c) s fun t => t.bit (CAN_HP_STAT c) 0 = false ∧ OnlyRegs [CAN_HP_STAT c] s t ∧ NoEvent s t :=
  answers_of_done rfl ⟨(bit_of_rd _ _ _ _ (page_settle _ c.isLt (by decide))).trans (bit_setBit_same _ _ _ _ (by decide)),
    ((Effect.refl _ s.toDev).setBit (a := CAN_HP_STAT c) (by simp) _ _).framed, noEvent_after (by simp [Dev.hpRelease])⟩

end

/-- Settles O34: an error counts and the state follows; bus-off ends by recovery. -/
theorem canErrorsAndRecovery : Obligations.CanErrorsAndRecovery := by
  unfold Obligations.CanErrorsAndRecovery
  refine ⟨fun c k s hs hstate hfree hlost htx hrx => canError_answers hs hstate hfree hlost htx hrx, fun c s =>
    ⟨canRecover_answers, fun h => ?_, recoveryDone_answers, fun h => ?_, hpRelease_answers⟩⟩
  · refine noEffect_of_done rfl (if_neg fun hcond => ?_)
    obtain ⟨hoff, hidle⟩ := hcond
    rcases h with h | h
    · exact h hoff
    · simp [h] at hidle
  · exact noEffect_of_done rfl (if_neg (by rw [h]; decide))

end Sys2Proof.Machine
end

section
/-! The host's transmit buffer of a CAN controller (R258, R259, R261). -/

namespace Sys2Proof.Machine

/-! The ledger of a controller (R261). -/

section
variable (s : Dev) (c i o n : Nat)

theorem ledger_counts : (s.ledger c i o n).fld (CAN_LEDGER_IN c) 31 0 = (s.fld (CAN_LEDGER_IN c) 31 0 + i) % 2 ^ 32 ∧
    (s.ledger c i o n).fld (CAN_LEDGER_OUT c) 31 0 = (s.fld (CAN_LEDGER_OUT c) 31 0 + o) % 2 ^ 32 ∧
    (s.ledger c i o n).fld (CAN_LEDGER_DROP c) 31 0 = (s.fld (CAN_LEDGER_DROP c) 31 0 + n) % 2 ^ 32 := by
  refine ⟨?_, ?_, ?_⟩ <;> simp [Dev.ledger, fld_cntWrap_same]

theorem ledger_reg {a : Nat} (hin : a ≠ CAN_LEDGER_IN c) (hout : a ≠ CAN_LEDGER_OUT c) (hdrop : a ≠ CAN_LEDGER_DROP c) :
    (s.ledger c i o n).rd a = s.rd a := by
  simp [Dev.ledger, hin, hout, hdrop]

@[simp] theorem ledger_canc (k : Nat) : (s.ledger c i o n).canc k = s.canc k := by simp [Dev.ledger]

@[simp] theorem ledger_can : (s.ledger c i o n).can = s.can := by simp [Dev.ledger]

@[simp] theorem ledger_log : (s.ledger c i o n).log = s.log := by simp [Dev.ledger]

end

/-- A count of the ledger after the registers of the transmit side. -/
theorem showTx_ledger (s : Dev) {c k : Nat} (hc : c < 8) (hk : k < 0x1000) (hheld : k ≠ 0x020) (hstat : k ≠ 0x308) :
    (s.showTx c).fld (canPage c + k) 31 0 = s.fld (canPage c + k) 31 0 := by
  refine fld_of_rd _ _ _ _ _ (showTx_reg s ?_ ?_ ?_)
  · simp only [canPage]; omega
  · simp only [CAN_LEDGER_HELD]; omega
  · simp only [CAN_TB_STAT]; omega

/-! Requests and cancels. -/

section
variable {c : Fin 8} {dlc : BitVec 4} {s : State}

/-- What a request shows: the buffer, the ledger and no event. -/
theorem ledgerFld_settle (d : Dev) {k : Nat} (hk : k < 0x1000) : d.settle.fld (canPage c + k) 31 0 = d.fld (canPage c + k) 31 0 :=
  fld_of_rd _ _ _ _ _ (page_settle d c.isLt hk)

theorem tb2Request_empty (hs : Shaped s.toDev) (h : (s.canc c).tb2 = none) : Answers (.canTb2Request c dlc) s fun t =>
      (t.canc c).tb2 = some { frame := s.tb2Frame c dlc.toNat } ∧
      t.fld (CAN_LEDGER_IN c) 31 0 = (s.fld (CAN_LEDGER_IN c) 31 0 + 1) % 2 ^ 32 ∧ NoEvent s t := by
  have hdone : s.toDev.tb2Request c dlc.toNat = ((s.toDev.ledger c 1 0 0).setCanc c fun x =>
      { x with tb2 := some { frame := s.tb2Frame c dlc.toNat } }).showTx c := by
    unfold Dev.tb2Request Dev.tb2Put
    dsimp only
    rw [ledger_canc, h]
  have hlen : c.val < (s.toDev.ledger c 1 0 0).can.ctl.length := by rw [ledger_can, hs.can]; exact c.isLt
  refine answers_of_done (congrArg (done s) hdone) ⟨?_, ?_, noEvent_after (by simp)⟩
  · rw [canc_settle, showTx_canc, canc_setCanc_same _ _ _ hlen]
  · rw [ledgerFld_settle _ (by decide), showTx_ledger _ c.isLt (by decide) (by decide) (by decide), (fld_window _ _ _ _).2.2.2.2.1]
    exact (ledger_counts _ _ _ _ _).1

/-- A request behind a frame that has not won replaces it (R259). -/
theorem tb2Request_replaces (hs : Shaped s.toDev) (x : CanTx) (h : (s.canc c).tb2 = some x) (hwon : x.won = false) (hhost : x.host = none) :
    Answers (.canTb2Request c dlc) s fun t =>
      (t.canc c).tb2 = some { frame := s.tb2Frame c dlc.toNat } ∧
      t.fld (CAN_LEDGER_IN c) 31 0 = (s.fld (CAN_LEDGER_IN c) 31 0 + 1) % 2 ^ 32 ∧
      t.fld (CAN_LEDGER_DROP c) 31 0 = (s.fld (CAN_LEDGER_DROP c) 31 0 + 1) % 2 ^ 32 ∧ NoEvent s t := by
  have hdone : s.toDev.tb2Request c dlc.toNat = (((s.toDev.ledger c 1 0 0).setCanc c fun x =>
      { x with tb2 := some { frame := s.tb2Frame c dlc.toNat } }).ledger c 0 0 1).showTx c := by
    unfold Dev.tb2Request Dev.tb2Put
    dsimp only
    rw [ledger_canc, h]
    dsimp only
    rw [hwon, hostFrameEnd_own _ hhost]
    rfl
  have hlen : c.val < (s.toDev.ledger c 1 0 0).can.ctl.length := by rw [ledger_can, hs.can]; exact c.isLt
  obtain ⟨hin, -, hdrop⟩ := ledger_counts ((s.toDev.ledger c 1 0 0).setCanc c fun x =>
      { x with tb2 := some { frame := s.tb2Frame c dlc.toNat } }) c 0 0 1
  obtain ⟨hin1, -, hdrop1⟩ := ledger_counts s.toDev c 1 0 0
  rw [(fld_window _ _ _ _).2.2.2.2.1] at hin hdrop
  refine answers_of_done (congrArg (done s) hdone) ⟨?_, ?_, ?_, noEvent_after (by simp)⟩
  · rw [canc_settle, showTx_canc, ledger_canc, canc_setCanc_same _ _ _ hlen]
  · rw [ledgerFld_settle _ (by decide), showTx_ledger _ c.isLt (by decide) (by decide) (by decide), hin, hin1]
    omega
  · rw [ledgerFld_settle _ (by decide), showTx_ledger _ c.isLt (by decide) (by decide) (by decide), hdrop, hdrop1]
    omega

/-- A request behind a frame that has won waits (R259). -/
theorem tb2Request_waits (hs : Shaped s.toDev) (x : CanTx) (h : (s.canc c).tb2 = some x) (hwon : x.won = true)
    (hnext : (s.canc c).next2 = none) : Answers (.canTb2Request c dlc) s fun t => (t.canc c).tb2 = some x ∧
        (t.canc c).next2 = some { frame := s.tb2Frame c dlc.toNat } ∧
        t.fld (CAN_LEDGER_IN c) 31 0 = (s.fld (CAN_LEDGER_IN c) 31 0 + 1) % 2 ^ 32 ∧ NoEvent s t := by
  have hdone : s.toDev.tb2Request c dlc.toNat = (((s.toDev.ledger c 1 0 0).setCanc c fun x =>
      { x with next2 := some { frame := s.tb2Frame c dlc.toNat } }).ledger c 0 0 0).showTx c := by
    unfold Dev.tb2Request Dev.tb2Put
    dsimp only
    rw [ledger_canc, h]
    dsimp only
    rw [hwon, hnext]
    rfl
  have hlen : c.val < (s.toDev.ledger c 1 0 0).can.ctl.length := by rw [ledger_can, hs.can]; exact c.isLt
  obtain ⟨hin, -, -⟩ := ledger_counts ((s.toDev.ledger c 1 0 0).setCanc c fun x =>
      { x with next2 := some { frame := s.tb2Frame c dlc.toNat } }) c 0 0 0
  obtain ⟨hin1, -, -⟩ := ledger_counts s.toDev c 1 0 0
  rw [(fld_window _ _ _ _).2.2.2.2.1] at hin
  refine answers_of_done (congrArg (done s) hdone) ?_
  rw [canc_settle, showTx_canc, ledger_canc, canc_setCanc_same _ _ _ hlen, ledger_canc]
  refine ⟨h, rfl, ?_, noEvent_after (by simp)⟩
  rw [ledgerFld_settle _ (by decide), showTx_ledger _ c.isLt (by decide) (by decide) (by decide), hin, hin1]
  omega

/-- A cancel before the win empties the buffer (R259). -/
theorem tb2Cancel_empties (hs : Shaped s.toDev) (x : CanTx) (h : (s.canc c).tb2 = some x) (hwon : x.won = false) (hhost : x.host = none) :
    Answers (.canTb2Cancel c) s fun t => (t.canc c).tb2 = none ∧
      t.fld (CAN_LEDGER_DROP c) 31 0 = (s.fld (CAN_LEDGER_DROP c) 31 0 + 1) % 2 ^ 32 ∧ NoEvent s t := by
  have hdone : s.toDev.tb2Cancel c = ((s.toDev.setCanc c fun x => { x with tb2 := none }).ledger c 0 0 1).showTx c := by
    unfold Dev.tb2Cancel
    rw [h]
    dsimp only
    rw [hwon, hostFrameEnd_own _ hhost]
    rfl
  have hlen : c.val < s.can.ctl.length := by rw [hs.can]; exact c.isLt
  obtain ⟨-, -, hdrop⟩ := ledger_counts (s.toDev.setCanc c fun x => { x with tb2 := none }) c 0 0 1
  refine answers_of_done (congrArg (done s) hdone) ⟨?_, ?_, noEvent_after (by simp)⟩
  · rw [canc_settle, showTx_canc, ledger_canc, canc_setCanc_same _ _ _ hlen]
  · rw [ledgerFld_settle _ (by decide), showTx_ledger _ c.isLt (by decide) (by decide) (by decide), hdrop, (fld_window _ _ _ _).2.2.2.2.1]

/-- A cancel after the win marks the frame, and drops the one that waits behind it (R259). -/
theorem tb2Cancel_marks (hs : Shaped s.toDev) (x : CanTx) (h : (s.canc c).tb2 = some x) (hwon : x.won = true) :
    Answers (.canTb2Cancel c) s fun t => (t.canc c).tb2 = some { x with cancel := true } ∧ (t.canc c).next2 = none ∧
        t.fld (CAN_LEDGER_DROP c) 31 0 = (s.fld (CAN_LEDGER_DROP c) 31 0 + (s.canc c).next2.toList.length) % 2 ^ 32 ∧
        ((s.canc c).next2 = none → NoEvent s t) := by
  have hdone : s.toDev.tb2Cancel c = (((s.toDev.setCanc c fun y => { y with tb2 := some { x with cancel := true }, next2 := none }).ledger
      c 0 0 (s.canc c).next2.toList.length).showTx c).each (s.canc c).next2.toList fun d t => d.hostFrameEnd t 1 := by
    unfold Dev.tb2Cancel
    rw [h]
    dsimp only
    rw [hwon]
    rfl
  have hlen : c.val < s.can.ctl.length := by rw [hs.can]; exact c.isLt
  obtain ⟨-, -, hdrop⟩ := ledger_counts (s.toDev.setCanc c fun y => { y with tb2 := some { x with cancel := true }, next2 := none }) c 0 0
    (s.canc c).next2.toList.length
  have hend := hostFrameEnd_each_below (BelowHost.refl (((s.toDev.setCanc c fun y =>
    { y with tb2 := some { x with cancel := true }, next2 := none }).ledger c 0 0 (s.canc c).next2.toList.length).showTx c))
    (s.canc c).next2.toList 1
  refine answers_of_done (congrArg (done s) hdone) ?_
  have hcanc := (congrArg (fun u : CanSt => u.ctl.getD c {}) hend.can :).trans
    ((showTx_canc _ c c).trans ((ledger_canc _ _ _ _ _ _).trans (canc_setCanc_same _ _ _ hlen)))
  rw [canc_settle]
  refine ⟨(congrArg CanCtl.tb2 hcanc :), (congrArg CanCtl.next2 hcanc :), ?_, fun hnext => ?_⟩
  · rw [ledgerFld_settle _ (by decide)]
    refine (fld_of_rd _ _ _ _ _ (hend.regs _ ?_)).trans ?_
    · have := c.isLt
      simp only [canPage]
      omega
    · rw [showTx_ledger _ c.isLt (by decide) (by decide) (by decide), hdrop, (fld_window _ _ _ _).2.2.2.2.1]
  · rw [hnext]
    exact noEvent_after (by simp [Dev.each])

end

/-- Settles O35: requests and cancels by what stands in the buffer. -/
theorem canTransmitBuffer : Obligations.CanTransmitBuffer := by
  unfold Obligations.CanTransmitBuffer
  refine fun c dlc s hs => ⟨tb2Request_empty hs, tb2Cancel_empties hs, fun x h hwon => ⟨tb2Cancel_marks hs x h hwon,
    tb2Request_waits hs x h hwon⟩, tb2Request_replaces hs, fun h => noEffect_of_done rfl ?_⟩
  unfold Dev.tb2Cancel
  rw [h]

end Sys2Proof.Machine
end

section
/-! Arbitration on a CAN bus, and the frame that is sent (R256, R258, R259, R261, R267, R269). -/

namespace Sys2Proof.Machine

theorem buf_setBuf (x : CanCtl) (b : Nat) (t : Option CanTx) : (x.setBuf b t).buf b = t := by
  unfold CanCtl.setBuf CanCtl.buf
  split
  · rfl
  · split <;> rfl

theorem buf_setBuf_taking (x : CanCtl) (b : Nat) (t : Option CanTx) : ({ x.setBuf b t with integrating := false } : CanCtl).buf b = t :=
  buf_setBuf (x.setBuf b t) b t ▸ by
    unfold CanCtl.setBuf CanCtl.buf
    split_ifs <;> rfl

section
variable {c : Fin 8} {b : Fin 3} {s : State}

theorem setBuf_waits (x : CanCtl) (b : Nat) (t : Option CanTx) : (x.setBuf b t).next0 = x.next0 ∧ (x.setBuf b t).next2 = x.next2 := by
  unfold CanCtl.setBuf
  split_ifs <;> exact ⟨rfl, rfl⟩

theorem canc_lt (hs : Shaped s.toDev) (c : Fin 8) : c.val < s.can.ctl.length := by rw [hs.can]; exact c.isLt

/-- The buffer that comes first wins (R258). -/
theorem arbWon_answers (hs : Shaped s.toDev) (x : CanTx) (hbuf : (s.canc c).buf b = some x) (hrun : s.canRunning c = true)
    (hfree : s.bit (CAN_CTRL c) 4 = false) (hlost : (s.canc c).frames.all (fun t => !t.won) = true) (late : List (Fin 3))
    (hfirst : s.arbFirst c ([0, 1, 2].filter fun k => !(late.map Fin.val).contains k) = some b.val) :
    Answers (.canArbitrationWon c b late) s fun t => (t.canc c).buf b = some { x with
        won := true, frame := { x.frame with esi := x.frame.fdf && s.canState c == 1 } } ∧ NoEvent s t := by
  have hdone : s.toDev.arbWon c b (late.map Fin.val) = ((s.toDev.setCanc c fun y => y.setBuf b ((y.buf b).map fun (t : CanTx) =>
      { t with won := true, frame.esi := t.frame.fdf && s.canState c == 1 })).setCanc c fun y =>
        { y with integrating := false }).showTx c := by
    refine if_pos ?_
    rw [hrun, hfree, hfirst, hlost]
    simp
  have hlen := canc_lt hs c
  refine answers_of_done (congrArg (done s) hdone) ⟨?_, noEvent_after (by simp)⟩
  rw [canc_settle, showTx_canc, canc_setCanc_same _ _ _ (by rwa [setCanc_length]), canc_setCanc_same _ _ _ hlen]
  rw [buf_setBuf_taking, hbuf]
  rfl

/-- A lost arbitration takes the win back (R258). -/
theorem arbLost_answers (hs : Shaped s.toDev) (x : CanTx) (hbuf : (s.canc c).buf b = some x) : Answers (.canArbitrationLost c b) s fun t =>
      (t.canc c).buf b = some { x with won := false } ∧ Framed [] s t { blocks s.toDev with can := t.can } ∧ NoEvent s t := by
  have hframe := (Effect.refl [] s.toDev).can
    { s.can with ctl := modAt s.can.ctl c fun x => x.setBuf b ((x.buf b).map fun (t : CanTx) => { t with won := false }) }
  refine answers_of_done rfl ⟨?_, hframe.framed_can, noEvent_after (by simp [Dev.arbLost])⟩
  rw [canc_settle, Dev.arbLost, canc_setCanc_same _ _ _ (canc_lt hs c), buf_setBuf, hbuf]
  rfl

end

/-! The frame that is sent. -/

/-- The sent frame leaves its buffer, and its counts are taken (R261, R267). -/
def Dev.sentCounted (s : Dev) (c b : Nat) (t : CanTx) (delay : Byte) : Dev :=
  let x := s.canc c
  let d := (((s.setCanc c fun x => x.setBuf b none).ledger c 0 1 0).setBit (CAN_TB_STAT c) (8 + b) true).setErrs c (x.txErr - 1) x.rxErr
  if d.bit (CAN_DBT c) 18 && t.frame.fdf then d.wrN (CAN_TDC_MEAS c) delay.toNat else d

/-- What the buffer holds after the sent frame (R259, R269, R270). -/
def Dev.sentNext (s : Dev) (c b sof : Nat) : Dev :=
  if b = 0 then
    (s.wrN (CAN_TREF_SOF c) sof).setCanc c fun x => { x with trefPrev := some (sof : Int), tb0 := x.next0, next0 := none }
  else if b = 2 then s.setCanc c fun x => { x with tb2 := x.next2, next2 := none }
  else s.refill c

theorem frameSent_eq {s : Dev} {c b sof : Nat} {delay : Byte} {t : CanTx} (hbuf : (s.canc c).buf b = some t) (hwon : t.won = true)
    (hhost : b ≠ 2 ∨ t.host = none) (hcancel : t.cancel = false) : s.frameSent c b sof delay =
    (((s.sentCounted c b t delay).sentNext c b sof).checkErrs c).showTx c := by
  unfold Dev.frameSent
  rw [hbuf]
  dsimp only
  rw [hwon, if_neg (by simp)]
  dsimp only [Dev.sentNext]
  rw [hcancel]
  by_cases h0 : b = 0
  · rw [if_pos h0, if_pos h0]
    rfl
  · rw [if_neg h0, if_neg h0]
    by_cases h2 : b = 2
    · rw [if_pos h2, if_pos h2, hostFrameEnd_own _ (hhost.resolve_left fun h => h h2)]
      rfl
    · rw [if_neg h2, if_neg h2]
      rfl

section
variable (s : Dev) {c b : Nat} (t : CanTx) (delay : Byte)

theorem sentCounted_can : (s.sentCounted c b t delay).can =
    ((((s.setCanc c fun x => x.setBuf b none).ledger c 0 1 0).setBit (CAN_TB_STAT c) (8 + b) true).setErrs c ((s.canc c).txErr - 1)
      (s.canc c).rxErr).can := by
  dsimp only [Dev.sentCounted]
  split
  · rw [wrN_can]
  · rfl

theorem sentCounted_canc (hc : c < s.can.ctl.length) : (s.sentCounted c b t delay).canc c =
    { (s.canc c).setBuf b none with txErr := (s.canc c).txErr - 1, rxErr := (s.canc c).rxErr } := by
  refine (congrArg (fun u : CanSt => u.ctl.getD c {}) (sentCounted_can s t delay) :).trans ((setErrs_canc _ _ _ _ ?_).trans ?_)
  · rw [setBit_can, ledger_can, setCanc_length]
    exact hc
  · rw [(canc_reg _ _).2.2.2.2.1, ledger_canc, canc_setCanc_same _ _ _ hc]

theorem sentCounted_length : (s.sentCounted c b t delay).can.ctl.length = s.can.ctl.length := by
  rw [sentCounted_can, setErrs_length, setBit_can, ledger_can, setCanc_length]

theorem sentCounted_log : (s.sentCounted c b t delay).log = s.log := by
  dsimp only [Dev.sentCounted]
  split <;> simp

theorem sentCounted_reg {a : Nat} (hstat : a ≠ CAN_STAT c) (hmeas : a ≠ CAN_TDC_MEAS c) : (s.sentCounted c b t delay).rd a =
    (((s.setCanc c fun x => x.setBuf b none).ledger c 0 1 0).setBit (CAN_TB_STAT c) (8 + b) true).rd a := by
  dsimp only [Dev.sentCounted]
  split
  · rw [rd_wrN_ne _ _ _ _ hmeas, setErrs_reg _ _ _ _ hstat]
  · rw [setErrs_reg _ _ _ _ hstat]

theorem sentCounted_state : (s.sentCounted c b t delay).canState c = s.canState c := by
  have hcount : ∀ d : Dev, ((d.setCanc c fun x => x.setBuf b none).ledger c 0 1 0 |>.setBit (CAN_TB_STAT c) (8 + b) true).canState c =
      d.canState c := fun d => by
    unfold Dev.canState
    rw [fld_setBit_other _ _ _ _ _ _ _ (by simp), fld_of_rd _ _ _ _ _ (ledger_reg _ _ _ _ _ (by simp) (by simp) (by simp)),
      (fld_window _ _ _ _).2.2.2.2.1]
  have herrs := (setErrs_state (((s.setCanc c fun x => x.setBuf b none).ledger c 0 1 0).setBit (CAN_TB_STAT c) (8 + b) true) c
    ((s.canc c).txErr - 1) (s.canc c).rxErr).1.trans (hcount s)
  dsimp only [Dev.sentCounted]
  split
  · exact (fld_wrN_other _ _ _ _ _ _ (by simp)).trans herrs
  · exact herrs

theorem refill_canc (hc : c < s.can.ctl.length) (htb1 : (s.canc c).tb1 = none) :
    ((s.refill c).canc c).tb1 = (s.canc c).queue.head? ∧ ((s.refill c).canc c).txErr = (s.canc c).txErr ∧
      ((s.refill c).canc c).rxErr = (s.canc c).rxErr := by
  rw [Dev.refill, canc_setCanc_same _ _ _ hc, htb1]
  cases (s.canc c).queue with
  | nil => exact ⟨htb1, rfl, rfl⟩
  | cons q qs => exact ⟨rfl, rfl, rfl⟩

end

section
variable {c : Fin 8} {b : Fin 3} {sof : Nat} {delay : Byte} {s : State}

/-- What the buffer shows after the sent frame; the error counts and the registers beside the time reference stay. -/
theorem sentNext_shows {d : Dev} (hc : c.val < d.can.ctl.length) (hbuf : (d.canc c).buf b = none) :
    (b = 0 → ((d.sentNext c b sof).canc c).tb0 = (d.canc c).next0 ∧ (d.sentNext c b sof).rd (CAN_TREF_SOF c) = BitVec.ofNat 32 sof) ∧
      (b = 1 → ((d.sentNext c b sof).canc c).tb1 = (d.canc c).queue.head?) ∧
      (b = 2 → ((d.sentNext c b sof).canc c).tb2 = (d.canc c).next2) ∧
      ((d.sentNext c b sof).canc c).txErr = (d.canc c).txErr ∧ ((d.sentNext c b sof).canc c).rxErr = (d.canc c).rxErr ∧
      (∀ a, a ≠ CAN_TREF_SOF c → (d.sentNext c b sof).rd a = d.rd a) ∧ (d.sentNext c b sof).log = d.log := by
  have hsof : ∀ a, a ≠ CAN_TREF_SOF c → (d.wrN (CAN_TREF_SOF c) sof).rd a = d.rd a := fun a ha => rd_wrN_ne _ _ _ _ ha
  fin_cases b
  · have hcanc := canc_setCanc_same (d.wrN (CAN_TREF_SOF c) sof) c
      (fun x => { x with trefPrev := some (sof : Int), tb0 := x.next0, next0 := none }) hc
    have heq : d.sentNext c 0 sof = (d.wrN (CAN_TREF_SOF c) sof).setCanc c
      fun x => { x with trefPrev := some (sof : Int), tb0 := x.next0, next0 := none } := rfl
    dsimp only
    rw [heq, hcanc, (canc_reg _ _).2.1]
    refine ⟨fun _ => ⟨rfl, ?_⟩, fun h => absurd h (by decide), fun h => absurd h (by decide), rfl, rfl, fun a ha => ?_, by simp⟩
    · rw [(rd_window _ _).2.2.2.2.1]
      exact rd_wr_same _ _ _
    · rw [(rd_window _ _).2.2.2.2.1]
      exact hsof a ha
  · obtain ⟨htb1, htx, hrx⟩ := refill_canc d hc hbuf
    have heq : d.sentNext c 1 sof = d.refill c := rfl
    dsimp only
    rw [heq]
    exact ⟨fun h => absurd h (by decide), fun _ => htb1, fun h => absurd h (by decide), htx, hrx, fun _ _ => rfl, rfl⟩
  · have hcanc := canc_setCanc_same d c (fun x => { x with tb2 := x.next2, next2 := none }) hc
    have heq : d.sentNext c 2 sof = d.setCanc c fun x => { x with tb2 := x.next2, next2 := none } := rfl
    dsimp only
    rw [heq, hcanc]
    exact ⟨fun h => absurd h (by decide), fun h => absurd h (by decide), fun _ => rfl, rfl, rfl, fun _ _ => rfl, rfl⟩

theorem frameSent_answers (hs : Shaped s.toDev) (x : CanTx) (hbuf : (s.canc c).buf b = some x) (hwon : x.won = true)
    (hhost : b ≠ 2 ∨ x.host = none) (hcancel : x.cancel = false) (htx : (s.canc c).txErr ≤ 128) (hrx : (s.canc c).rxErr ≤ 127)
    (hstate : s.canState c = 0) : Answers (.canFrameSent c b sof delay) s fun t =>
        t.fld (CAN_LEDGER_OUT c) 31 0 = (s.fld (CAN_LEDGER_OUT c) 31 0 + 1) % 2 ^ 32 ∧ t.bit (CAN_TB_STAT c) (8 + b) = true ∧
        (b = 0 → (t.canc c).tb0 = (s.canc c).next0 ∧ t.rd (CAN_TREF_SOF c) = BitVec.ofNat 32 sof) ∧
        (b = 1 → (t.canc c).tb1 = (s.canc c).queue.head?) ∧ (b = 2 → (t.canc c).tb2 = (s.canc c).next2) ∧
        (t.canc c).txErr = (s.canc c).txErr - 1 ∧ NoEvent s t := by
  have hlt := c.isLt
  have hlen := canc_lt hs c
  have hcounted := sentCounted_canc s.toDev (b := b.val) x delay hlen
  have hbufNone : ((s.toDev.sentCounted c b x delay).canc c).buf b = none := by
    rw [hcounted]
    exact buf_setBuf (s.canc c) b none
  obtain ⟨hb0, hb1, hb2, htx', hrx', hreg, hlog⟩ := sentNext_shows (c := c) (b := b) (sof := sof) (by rwa [sentCounted_length])
    hbufNone
  rw [hcounted] at hb0 hb1 hb2 htx' hrx'
  dsimp only at htx' hrx'
  have hsame : ∀ a, a ≠ CAN_TREF_SOF c → a ≠ CAN_STAT c → a ≠ CAN_TDC_MEAS c →
      ((s.toDev.sentCounted c b x delay).sentNext c b sof).rd a =
        (((s.toDev.setCanc c fun x => x.setBuf b none).ledger c 0 1 0).setBit (CAN_TB_STAT c) (8 + b) true).rd a := fun a h1 h2 h3 =>
    (hreg a h1).trans (sentCounted_reg _ _ _ h2 h3)
  have hactive : ((s.toDev.sentCounted c b x delay).sentNext c b sof).canState c = 0 :=
    (fld_of_rd _ _ _ _ _ (hreg _ (by simp))).trans ((sentCounted_state s.toDev x delay).trans hstate)
  have hlog' := hlog.trans (sentCounted_log s.toDev (c := c.val) (b := b.val) x delay)
  have hdone := frameSent_eq (s := s.toDev) (sof := sof) (delay := delay) hbuf hwon
    (hhost.imp_left fun h e => h (Fin.ext e)) hcancel
  generalize (s.toDev.sentCounted c b x delay).sentNext c b sof = d at *
  rw [checkErrs_keeps hactive (by omega) (by omega)] at hdone
  refine answers_of_done (congrArg (done s) hdone) ?_
  rw [canc_settle, showTx_canc]
  refine ⟨?_, ?_, fun h => ⟨(hb0 h).1.trans (setBuf_waits _ _ _).1, ?_⟩, fun h => (hb1 h).trans ?_,
    fun h => (hb2 h).trans (setBuf_waits _ _ _).2, htx', noEvent_after ?_⟩
  · rw [ledgerFld_settle _ (by decide), showTx_ledger _ c.isLt (by decide) (by decide) (by decide),
      fld_of_rd _ _ _ _ _ (hsame _ (by simp) (by simp) (by simp)), fld_setBit_other _ _ _ _ _ _ _ (by simp),
      (ledger_counts _ _ _ _ _).2.1, (fld_window _ _ _ _).2.2.2.2.1]
  · have hb := b.isLt
    rw [bit_of_rd _ _ _ _ (page_settle _ c.isLt (by decide)), showTx_tbStat _ c.isLt (by omega),
      bit_of_rd _ _ _ _ (hsame _ (by simp) (by simp) (by simp)), bit_setBit_same _ _ _ _ (by omega)]
  · rw [page_settle _ c.isLt (by decide), showTx_reg _ (by simp only [canPage]; omega) (by simp) (by simp)]
    exact (hb0 h).2
  · rw [h]
    rfl
  · rw [showTx_log, hlog']

end

/-- Settles O36: who wins, who loses, and what a sent frame leaves. -/
theorem canArbitration : Obligations.CanArbitration := by
  unfold Obligations.CanArbitration
  refine fun c b sof delay s hs => ⟨arbWon_answers hs, arbLost_answers hs, fun h => noEffect_of_done rfl ?_,
    fun x hbuf hwon hhost hcancel htx hrx hstate => frameSent_answers hs x hbuf hwon hhost hcancel htx hrx hstate⟩
  unfold Dev.frameSent
  rcases h with h | ⟨x, h, hwon⟩
  · rw [h]
  · rw [h]
    exact if_pos (by rw [hwon]; rfl)

end Sys2Proof.Machine
end

section
/-! Reception on a CAN bus (R254, R262 to R267). -/

namespace Sys2Proof.Machine

/-! The registers of the FIFO and of the high-priority buffer (R263, R264). -/

/-- The data words of a frame are written behind the rest. -/
theorem each_data_keeps (s : Dev) (a : Nat → Nat) (v : Nat → Word) :
    (∀ b, (∀ w, b ≠ a w) → (s.each (List.range 16) fun d w => d.wr (a w) (v w)).rd b = s.rd b) ∧
      (s.each (List.range 16) fun d w => d.wr (a w) (v w)).can = s.can ∧
      (s.each (List.range 16) fun d w => d.wr (a w) (v w)).log = s.log :=
  ⟨fun b hb => each_keeps (fun d => d.rd b) _ (fun _ w => rd_wr_ne _ _ _ _ (hb w)) _ _,
    each_keeps Dev.can _ (fun _ _ => by exact wr_can _ _ _) _ _, each_keeps Dev.log _ (fun _ _ => by exact wr_log _ _ _) _ _⟩

section
variable (s : Dev) (c : Nat)

/-- The FIFO's registers but the data of its head. -/
def Dev.rxfHead (s : Dev) (c : Nat) : Dev :=
  let h := (s.canc c).rxf.head?
  (((s.setFld (CAN_RXF_STAT c) 6 0 (s.canc c).rxf.length).wrN (CAN_RXF_ID c) (h.elim 0 fun r => idWord r.frame)).wrN (CAN_RXF_CTL c)
    (h.elim 0 ctlWord)).wr (CAN_RXF_STAMP c) (h.elim 0 CanRx.stamp)

theorem showRxf_eq : s.showRxf c = (s.rxfHead c).each (List.range 16) fun d w =>
    d.wr (CAN_RXF_DATA c w) ((s.canc c).rxf.head?.elim 0 fun r => dataWord r.frame.data w) := (rfl)

@[simp] theorem showRxf_can : (s.showRxf c).can = s.can := by
  rw [showRxf_eq, (each_data_keeps _ _ _).2.1]
  simp [Dev.rxfHead]

@[simp] theorem showRxf_canc (k : Nat) : (s.showRxf c).canc k = s.canc k := by
  rw [Dev.canc, showRxf_can]
  rfl

@[simp] theorem showRxf_log : (s.showRxf c).log = s.log := by
  rw [showRxf_eq, (each_data_keeps _ _ _).2.2]
  simp [Dev.rxfHead]

theorem showRxf_count (h : (s.canc c).rxf.length ≤ 64) : (s.showRxf c).fld (CAN_RXF_STAT c) 6 0 = (s.canc c).rxf.length := by
  rw [showRxf_eq]
  refine (fld_of_rd _ _ _ _ _ ((each_data_keeps _ _ _).1 _ fun w => by simp only [CAN_RXF_STAT, CAN_RXF_DATA]; omega)).trans ?_
  have hfld := fld_setFld_same s (CAN_RXF_STAT c) 6 0 (s.canc c).rxf.length (by decide) (by decide)
  rw [Nat.mod_eq_of_lt (by omega)] at hfld
  simpa [Dev.rxfHead] using hfld

/-- The high-priority buffer's registers but the data. -/
def Dev.hpHead (s : Dev) (c : Nat) (r : CanRx) : Dev :=
  ((s.wrN (CAN_HP_ID c) (idWord r.frame)).wrN (CAN_HP_CTL c) (ctlWord r)).wr (CAN_HP_STAMP c) r.stamp

theorem showHp_eq {r : CanRx} (h : (s.canc c).hp = some r) : s.showHp c = (s.hpHead c r).each (List.range 16) fun d w =>
    d.wr (CAN_HP_DATA c w) (dataWord r.frame.data w) := by
  unfold Dev.showHp
  rw [h]
  rfl

theorem showHp_shows {r : CanRx} (h : (s.canc c).hp = some r) : (s.showHp c).can = s.can ∧
    (s.showHp c).bit (CAN_HP_STAT c) 0 = s.bit (CAN_HP_STAT c) 0 ∧ (s.showHp c).rd (CAN_HP_STAMP c) = r.stamp := by
  rw [showHp_eq _ _ h]
  obtain ⟨hreg, hcan, -⟩ := each_data_keeps (s.hpHead c r) (CAN_HP_DATA c) (dataWord r.frame.data)
  refine ⟨hcan.trans (by simp [Dev.hpHead]), (bit_of_rd _ _ _ _ (hreg _ fun w => by simp only [CAN_HP_STAT, CAN_HP_DATA]; omega)).trans ?_,
    (hreg _ fun w => by simp only [CAN_HP_STAMP, CAN_HP_DATA]; omega).trans ?_⟩
  · simp [Dev.hpHead]
  · simp [Dev.hpHead]

end

/-! The frame before the filters. -/

/-- A good frame ends the integration and lowers the receive count, unless the controller is in monitoring (R254, R267). -/
def Dev.rxCounted (s : Dev) (c : Nat) : Dev :=
  let d := s.setCanc c fun x => { x with integrating := false }
  if s.bit (CAN_CTRL c) 4 then d else d.setErrs c (s.canc c).txErr ((s.canc c).rxErr - 1)

section
variable {s : Dev} {c : Nat}

theorem rxCounted_shows (hc : c < s.can.ctl.length) : ((s.rxCounted c).canc c).rxf = (s.canc c).rxf ∧
    ((s.rxCounted c).canc c).hp = (s.canc c).hp ∧ ((s.rxCounted c).canc c).txErr = (s.canc c).txErr ∧
    ((s.rxCounted c).canc c).rxErr ≤ (s.canc c).rxErr ∧ (s.rxCounted c).canState c = s.canState c ∧
    (s.rxCounted c).can.ctl.length = s.can.ctl.length ∧ (s.rxCounted c).log = s.log ∧
    ∀ a, a ≠ CAN_STAT c → (s.rxCounted c).rd a = s.rd a := by
  have hidle := canc_setCanc_same s c (fun x => { x with integrating := false }) hc
  dsimp only [Dev.rxCounted]
  split
  · rw [hidle]
    exact ⟨rfl, rfl, rfl, Nat.le_refl _, rfl, setCanc_length _ _ _, rfl, fun _ _ => rfl⟩
  · rw [setErrs_canc _ _ _ _ (by rwa [setCanc_length]), hidle]
    refine ⟨rfl, rfl, rfl, Nat.sub_le _ _, (setErrs_state _ _ _ _).1, ?_, ?_, fun a ha => setErrs_reg _ _ _ _ ha⟩
    · rw [setErrs_length, setCanc_length]
    · rw [setErrs_log, setCanc_log]

/-- Taking the fields moves the field slots alone (R266). -/
theorem takeFields_keeps (d : Dev) (f : CanFrame) : (d.takeFields c f).regs = d.regs ∧ (d.takeFields c f).can.ctl = d.can.ctl ∧
    (d.takeFields c f).log = d.log := by
  have hstep : ∀ (g : Dev → Prop), (∀ e k v, g e → g { e with can.field := modAt e.can.field k fun x => { x with fresh := some v } }) →
      g d → g (d.takeFields c f) := fun g hg h0 => by
    unfold Dev.takeFields
    split
    · exact h0
    · refine List.foldlRecOn (motive := g) _ _ h0 fun e he k _ => ?_
      dsimp only
      split
      · split
        · exact hg _ _ _ he
        · exact he
      · exact he
  exact hstep (fun e => e.regs = d.regs ∧ e.can.ctl = d.can.ctl ∧ e.log = d.log) (fun _ _ _ h => h) ⟨rfl, rfl, rfl⟩

/-- The device at the filters. -/
def Dev.rxAtFilter (s : Dev) (c : Nat) (f : CanFrame) : Dev := (s.rxCounted c).takeFields c f

theorem rxAtFilter_shows (f : CanFrame) (hc : c < s.can.ctl.length) : ((s.rxAtFilter c f).canc c).rxf = (s.canc c).rxf ∧
    ((s.rxAtFilter c f).canc c).hp = (s.canc c).hp ∧ (s.rxAtFilter c f).can.ctl.length = s.can.ctl.length ∧
    (s.rxAtFilter c f).log = s.log ∧ ∀ a, a ≠ CAN_STAT c → (s.rxAtFilter c f).rd a = s.rd a := by
  obtain ⟨hrxf, hhp, -, -, -, hlen, hlog, hreg⟩ := rxCounted_shows hc
  obtain ⟨hregs, hctl, hflog⟩ := takeFields_keeps (c := c) (s.rxCounted c) f
  have hcanc : (s.rxAtFilter c f).canc c = (s.rxCounted c).canc c := congrArg (fun l : List CanCtl => l.getD c {}) hctl
  rw [hcanc]
  refine ⟨hrxf, hhp, (congrArg List.length hctl).trans hlen, hflog.trans hlog, fun a ha => ?_⟩
  rw [← hreg a ha]
  unfold Dev.rd
  rw [show (s.rxAtFilter c f).regs = (s.rxCounted c).regs from hregs]

/-- The filters read their own registers (R262). -/
theorem canFilter_of_regs {d : Dev} (f : CanFrame) (h : ∀ a, a ≠ CAN_STAT c → d.rd a = s.rd a) : d.canFilter c f = s.canFilter c f := by
  have hid : ∀ k, d.rd (CAN_FLT_ID c k) = s.rd (CAN_FLT_ID c k) := fun k => h _ (by simp only [CAN_FLT_ID, CAN_STAT]; omega)
  have hmask : ∀ k, d.rd (CAN_FLT_MASK c k) = s.rd (CAN_FLT_MASK c k) := fun k => h _ (by simp only [CAN_FLT_MASK, CAN_STAT]; omega)
  unfold Dev.canFilter Dev.bit
  simp only [hid, hmask]

/-- A good frame of a controller that runs reaches the filters (R254, R262, R267). -/
theorem frameReceived_filtered {f : CanFrame} {stamp : Word} (hc : c < s.can.ctl.length) (hrun : s.canRunning c = true)
    (hfd : f.fdf = false ∨ (s.canc c).fd = true) (htx : (s.canc c).txErr ≤ 127) (hrx : (s.canc c).rxErr ≤ 127) (hstate : s.canState c = 0) :
    s.frameReceived c f false stamp = match s.canFilter c f with
      | none => s.rxAtFilter c f
      | some (k, hp) =>
        if hp then (s.rxAtFilter c f).hpTake c { frame := f, filter := k, stamp := stamp }
        else (s.rxAtFilter c f).fifoTake c { frame := f, filter := k, stamp := stamp } := by
  obtain ⟨-, -, htx', hrx', hstate', -, -, -⟩ := rxCounted_shows hc
  have hclassic : (f.fdf && !(s.canc c).fd) = false := by
    rcases hfd with h | h <;> simp [h]
  have hcheck : (s.rxCounted c).checkErrs c = s.rxCounted c :=
    checkErrs_keeps (hstate'.trans hstate) (by omega) (by omega)
  rw [← canFilter_of_regs f (rxAtFilter_shows f hc).2.2.2.2]
  unfold Dev.frameReceived
  dsimp only
  rw [hrun, hclassic, Bool.and_false, if_neg (show ¬127 < (s.canc c).rxErr by omega)]
  simp only [Bool.not_true, Bool.false_eq_true, if_false]
  change (match Dev.canFilter (((s.rxCounted c).checkErrs c).takeFields c f) c f with
    | none => ((s.rxCounted c).checkErrs c).takeFields c f
    | some (k, hp) => if hp = true then (((s.rxCounted c).checkErrs c).takeFields c f).hpTake c { frame := f, filter := k, stamp := stamp }
      else (((s.rxCounted c).checkErrs c).takeFields c f).fifoTake c { frame := f, filter := k, stamp := stamp }) = _
  rw [hcheck]
  rfl

end

/-! The commands. -/

section
variable {c : Fin 8} {f : CanFrame} {stamp : Word} {s : State}

theorem rx_settle (d : Dev) {k : Nat} (hk : k < 0x1000) (hi lo : Nat) :
    d.settle.fld (canPage c + k) hi lo = d.fld (canPage c + k) hi lo :=
  fld_of_rd _ _ _ _ _ (page_settle d c.isLt hk)

/-- A source of HOST is raised where a condition asks for it. -/
theorem raise_if (d : Dev) (b : Bool) (n : Nat) : (if b then d.raise n else d).can = d.can ∧ (if b then d.raise n else d).log = d.log ∧
    ∀ a, a < 0x3C0000 → (if b then d.raise n else d).rd a = d.rd a := by
  cases b with
  | false => exact ⟨rfl, rfl, fun _ _ => rfl⟩
  | true => exact ⟨raise_can _ _, raise_log _ _, fun a ha => (raise_other d n (by omega)).1⟩

/-- A frame goes to the end of a FIFO with room (R264). -/
theorem fifoTake_room {d : Dev} (hc : c.val < d.can.ctl.length) (r : CanRx) (hroom : (d.canc c).rxf.length < 64) :
    ((d.fifoTake c r).canc c).rxf = (d.canc c).rxf ++ [r] ∧ (d.fifoTake c r).fld (CAN_RXF_STAT c) 6 0 = (d.canc c).rxf.length + 1 ∧
      (d.fifoTake c r).log = d.log := by
  have htake : d.fifoTake c r = if (d.canc c).rxf.isEmpty then ((d.setCanc c fun x =>
      { x with rxf := x.rxf ++ [r] }).showRxf c).raise (0x38 + c) else
      (d.setCanc c fun x => { x with rxf := x.rxf ++ [r] }).showRxf c := by
    unfold Dev.fifoTake
    dsimp only
    rw [if_neg (by omega)]
  obtain ⟨hcan, hlog, hreg⟩ := raise_if ((d.setCanc c fun x => { x with rxf := x.rxf ++ [r] }).showRxf c)
    (d.canc c).rxf.isEmpty (0x38 + c)
  have hcanc := canc_setCanc_same d c (fun x => { x with rxf := x.rxf ++ [r] }) hc
  rw [htake]
  refine ⟨?_, ?_, ?_⟩
  · rw [Dev.canc, hcan, showRxf_can]
    exact (congrArg CanCtl.rxf hcanc :)
  · have hlt := c.isLt
    rw [fld_of_rd _ _ _ _ _ (hreg _ (by simp only [CAN_RXF_STAT, canPage]; omega)), showRxf_count _ _ (by rw [hcanc]; simp; omega), hcanc]
    simp
  · rw [hlog, showRxf_log, setCanc_log]

theorem fifoTake_full {d : Dev} (hc : c.val < d.can.ctl.length) (r : CanRx) (hfull : 64 ≤ (d.canc c).rxf.length) :
    ((d.fifoTake c r).canc c).rxf = (d.canc c).rxf ∧
      (d.fifoTake c r).fld (CAN_RXF_STAT c) 31 16 = min 65535 (d.fld (CAN_RXF_STAT c) 31 16 + 1) := by
  have hcount := fld_cntSat_same d (CAN_RXF_STAT c) 31 16 1 (by decide) (by decide)
  unfold Dev.fifoTake
  dsimp only
  rw [if_pos hfull]
  split
  · exact ⟨congrArg CanCtl.rxf ((canc_reg d c).2.2.2.2.2.1 _ _ _ _), hcount⟩
  · rw [(canc_reg _ _).2.2.2.2.2.2.2.2.2.2.2.1, canc_setCanc_same (d.cntSat (CAN_RXF_STAT c) 31 16 1) _ _ (by rwa [cntSat_can])]
    rw [(canc_reg d c).2.2.2.2.2.1]
    exact ⟨rfl, hcount⟩

theorem hpTake_shows {d : Dev} (hc : c.val < d.can.ctl.length) (r : CanRx) : ((d.hpTake c r).canc c).rxf = (d.canc c).rxf ∧
    ((d.hpTake c r).canc c).hp = some r ∧ (d.hpTake c r).bit (CAN_HP_STAT c) 0 = true ∧ (d.hpTake c r).rd (CAN_HP_STAMP c) = r.stamp := by
  have hlt := c.isLt
  have hlost : ∀ e, e = (if d.bit (CAN_HP_STAT c) 0 then (d.setBit (CAN_HP_STAT c) 1 true).ev 0x0908 c r.frame.id.toNat else d) →
      e.can = d.can := fun e he => by
    rw [he]
    split <;> simp
  unfold Dev.hpTake
  dsimp only
  generalize (if d.bit (CAN_HP_STAT c) 0 then (d.setBit (CAN_HP_STAT c) 1 true).ev 0x0908 c r.frame.id.toNat else d) = e at *
  have hcan := hlost e rfl
  have hcanc : ((e.setBit (CAN_HP_STAT c) 0 true).setCanc c fun x => { x with hp := some r }).canc c = { d.canc c with hp := some r } := by
    rw [canc_setCanc_same _ _ _ (by rw [setBit_can, hcan]; exact hc), (canc_reg _ _).2.2.2.2.1, Dev.canc, hcan]
    rfl
  obtain ⟨hshow, hbit, hstamp⟩ := showHp_shows ((e.setBit (CAN_HP_STAT c) 0 true).setCanc c fun x => { x with hp := some r }) c
    (r := r) (by rw [hcanc])
  have hfinal : ∀ u : Dev, (u.raise (0x28 + c)).canc c = u.canc c := fun u => (canc_reg u c).2.2.2.2.2.2.2.2.2.1 _
  rw [hfinal, Dev.canc, hshow]
  refine ⟨(congrArg CanCtl.rxf hcanc :), (congrArg CanCtl.hp hcanc :), ?_, ?_⟩
  · rw [(raise_other _ _ (by simp only [CAN_HP_STAT, canPage]; omega)).2.2, hbit, (bit_window _ _ _).2.2.2.2.1]
    exact bit_setBit_same _ _ _ _ (by decide)
  · rw [(raise_other _ _ (by simp only [CAN_HP_STAMP, canPage]; omega)).1]
    exact hstamp

section
variable (hs : Shaped s.toDev) (hrun : s.canRunning c = true) (hfd : f.fdf = false ∨ (s.canc c).fd = true)
  (htx : (s.canc c).txErr ≤ 127) (hrx : (s.canc c).rxErr ≤ 127) (hstate : s.canState c = 0)
include hs hrun hfd htx hrx hstate

theorem receivedFifo_answers (k : Nat) (hk : s.canFilter c f = some (k, false)) (hroom : (s.canc c).rxf.length < 64) :
    Answers (.canFrameReceived c f false stamp) s fun t =>
        (t.canc c).rxf = (s.canc c).rxf ++ [{ frame := f, filter := k, stamp := stamp }] ∧
        t.fld (CAN_RXF_STAT c) 6 0 = (s.canc c).rxf.length + 1 ∧ NoEvent s t := by
  have hdone := frameReceived_filtered (stamp := stamp) (canc_lt hs c) hrun hfd htx hrx hstate
  rw [hk] at hdone
  obtain ⟨hrxf, -, hlen, hlog, -⟩ := rxAtFilter_shows f (canc_lt hs c)
  obtain ⟨hput, hcount, htlog⟩ := fifoTake_room (by rw [hlen]; exact canc_lt hs c) { frame := f, filter := k, stamp := stamp }
    (hrxf.symm ▸ hroom)
  rw [hrxf] at hput hcount
  refine answers_of_done (congrArg (done s) hdone) ⟨?_, (rx_settle _ (by decide) _ _).trans hcount,
    noEvent_after (congrArg LogSt.raised (htlog.trans hlog))⟩
  rw [canc_settle]
  exact hput

theorem receivedFull_answers (k : Nat) (hk : s.canFilter c f = some (k, false)) (hfull : 64 ≤ (s.canc c).rxf.length) :
    Answers (.canFrameReceived c f false stamp) s fun t =>
        (t.canc c).rxf = (s.canc c).rxf ∧
        t.fld (CAN_RXF_STAT c) 31 16 = min 65535 (s.fld (CAN_RXF_STAT c) 31 16 + 1) := by
  have hdone := frameReceived_filtered (stamp := stamp) (canc_lt hs c) hrun hfd htx hrx hstate
  rw [hk] at hdone
  obtain ⟨hrxf, -, hlen, -, hreg⟩ := rxAtFilter_shows f (canc_lt hs c)
  obtain ⟨hkeep, hcount⟩ := fifoTake_full (by rw [hlen]; exact canc_lt hs c) { frame := f, filter := k, stamp := stamp }
    (hrxf.symm ▸ hfull)
  rw [fld_of_rd _ _ _ _ _ (hreg _ (by simp))] at hcount
  refine answers_of_done (congrArg (done s) hdone) ⟨?_, (rx_settle _ (by decide) _ _).trans hcount⟩
  rw [canc_settle]
  exact hkeep.trans hrxf

theorem receivedHp_answers (k : Nat) (hk : s.canFilter c f = some (k, true)) :
    Answers (.canFrameReceived c f false stamp) s fun t =>
        (t.canc c).rxf = (s.canc c).rxf ∧ (t.canc c).hp = some { frame := f, filter := k, stamp := stamp } ∧
        t.bit (CAN_HP_STAT c) 0 = true ∧ t.rd (CAN_HP_STAMP c) = stamp := by
  have hdone := frameReceived_filtered (stamp := stamp) (canc_lt hs c) hrun hfd htx hrx hstate
  rw [hk] at hdone
  obtain ⟨hrxf, -, hlen, -, -⟩ := rxAtFilter_shows f (canc_lt hs c)
  obtain ⟨hkeep, hhp, hbit, hstamp⟩ := hpTake_shows (by rw [hlen]; exact canc_lt hs c) { frame := f, filter := k, stamp := stamp }
  refine answers_of_done (congrArg (done s) hdone) ?_
  rw [canc_settle]
  exact ⟨hkeep.trans hrxf, hhp, (bit_of_rd _ _ _ _ (page_settle _ c.isLt (by decide))).trans hbit,
    (page_settle _ c.isLt (by decide)).trans hstamp⟩

theorem receivedNone_answers (hk : s.canFilter c f = none) : Answers (.canFrameReceived c f false stamp) s fun t =>
        (t.canc c).rxf = (s.canc c).rxf ∧ (t.canc c).hp = (s.canc c).hp ∧ NoEvent s t := by
  have hdone := frameReceived_filtered (stamp := stamp) (canc_lt hs c) hrun hfd htx hrx hstate
  rw [hk] at hdone
  obtain ⟨hrxf, hhp, -, hlog, -⟩ := rxAtFilter_shows f (canc_lt hs c)
  refine answers_of_done (congrArg (done s) hdone) ?_
  rw [canc_settle]
  exact ⟨hrxf, hhp, noEvent_after (congrArg LogSt.raised hlog)⟩

end

/-- A recessive res bit sends the controller back to integration (R254). -/
theorem receivedRes_answers (hs : Shaped s.toDev) (hrun : s.canRunning c = true) (hfdf : f.fdf = true) (hfd : (s.canc c).fd = true) :
    Answers (.canFrameReceived c f true stamp) s fun t =>
      (t.canc c).integrating = true ∧ (t.canc c).rxf = (s.canc c).rxf ∧ OneEvent s t 0x090B (BitVec.ofNat 32 c) 0#32 := by
  have hdone : s.toDev.frameReceived c f true stamp = (s.toDev.setCanc c fun x => { x with integrating := true }).ev 0x090B c 0 := by
    unfold Dev.frameReceived
    dsimp only
    rw [hrun, hfdf, hfd]
    rfl
  refine answers_of_done (congrArg (done s) hdone) ?_
  rw [canc_settle, (canc_reg _ _).2.2.2.2.2.2.2.2.2.2.2.1, canc_setCanc_same _ _ _ (canc_lt hs c)]
  exact ⟨rfl, rfl, oneEvent_ev rfl (by simp)⟩

/-- An FD frame is an error to a controller without FD_EN (R254, R267). -/
theorem receivedFd_answers (hs : Shaped s.toDev) (hstate : s.canState c = 0) (hfree : s.bit (CAN_CTRL c) 4 = false)
    (htx : (s.canc c).txErr ≤ 127) (hrx : (s.canc c).rxErr ≤ 126) (hfdf : f.fdf = true) (hfd : (s.canc c).fd = false) (res : Bool) :
    Answers (.canFrameReceived c f res stamp) s fun t =>
      (t.canc c).rxErr = (s.canc c).rxErr + 1 ∧ (t.canc c).rxf = (s.canc c).rxf ∧ NoEvent s t := by
  have hmin : min 255 ((s.canc c).rxErr + 1) = (s.canc c).rxErr + 1 := by omega
  have hcanc := setErrs_canc s.toDev c (s.canc c).txErr ((s.canc c).rxErr + 1) (canc_lt hs c)
  have hdone : s.toDev.frameReceived c f res stamp = s.toDev.setErrs c (s.canc c).txErr ((s.canc c).rxErr + 1) := by
    have hcheck := checkErrs_keeps ((setErrs_state s.toDev c (s.canc c).txErr ((s.canc c).rxErr + 1)).1.trans hstate)
      (by rw [hcanc]; exact htx) (by rw [hcanc]; dsimp only; omega)
    unfold Dev.frameReceived
    dsimp only
    rw [hfdf, hfd, hfree, show s.canRunning c = true by simp [Dev.canRunning, hstate], hmin, hcheck]
    rfl
  refine answers_of_done (congrArg (done s) hdone) ?_
  rw [canc_settle, hcanc]
  exact ⟨rfl, rfl, noEvent_after (by simp)⟩

theorem rxfPop_answers (hs : Shaped s.toDev) (hsome : (s.canc c).rxf.isEmpty = false) (hlen : (s.canc c).rxf.length ≤ 64) :
    Answers (.canRxfPop c) s fun t =>
      (t.canc c).rxf = (s.canc c).rxf.tail ∧ t.fld (CAN_RXF_STAT c) 6 0 = (s.canc c).rxf.length - 1 ∧ NoEvent s t := by
  have hdone : s.toDev.fifoPop c = (s.toDev.setCanc c fun x => { x with rxf := x.rxf.tail, ovrSaid := false }).showRxf c :=
    if_neg (by rw [hsome]; decide)
  have hcanc := canc_setCanc_same s.toDev c (fun x => { x with rxf := x.rxf.tail, ovrSaid := false }) (canc_lt hs c)
  refine answers_of_done (congrArg (done s) hdone) ⟨?_, (rx_settle _ (by decide) _ _).trans ?_, noEvent_after (by simp)⟩
  · rw [canc_settle, showRxf_canc, hcanc]
  · rw [showRxf_count _ _ (by rw [hcanc]; simp; omega), hcanc]
    simp

end

/-- Settles O37: the frame's place by the filters, the errors of an FD frame, and the pop. -/
theorem canReception : Obligations.CanReception := by
  unfold Obligations.CanReception
  refine fun c f stamp s hs => ⟨fun hrun hfd htx hrx hstate => ⟨receivedFifo_answers hs hrun hfd htx hrx hstate,
    receivedFull_answers hs hrun hfd htx hrx hstate, receivedHp_answers hs hrun hfd htx hrx hstate,
    receivedNone_answers hs hrun hfd htx hrx hstate⟩, receivedRes_answers hs, receivedFd_answers hs,
    fun h res => noEffect_of_done rfl (if_pos (by rw [h]; rfl)), rxfPop_answers hs, fun h => noEffect_of_done rfl (if_pos h)⟩

end Sys2Proof.Machine
end

section
/-! The safety logic: the frame of its commands, and what a cause that Understory latches leaves (R355, R356). -/

namespace Sys2Proof.Machine

@[simp] theorem schan_settle (d : Dev) (i : Nat) (b : Bool) : d.settle.schan i b = d.schan i b := by
  simp [Dev.schan]

@[simp] theorem sin_settle (d : Dev) (i : Nat) : d.settle.sin i = d.sin i := by
  simp [Dev.sin]

@[simp] theorem sout_settle (d : Dev) (k : Nat) : d.settle.sout k = d.sout k := by
  simp [Dev.sout]

theorem schan_setChan_same (s : Dev) (i : Nat) (b : Bool) (f : SafeChan → SafeChan) (h : 2 * i + bnat b < s.safe.chan.length) :
    (s.setChan i b f).schan i b = f (s.schan i b) :=
  getD_modAt_same _ _ _ _ h

theorem schan_setChan_ne (s : Dev) (i j : Nat) (b c : Bool) (f : SafeChan → SafeChan) (h : (j, c) ≠ (i, b)) :
    (s.setChan i b f).schan j c = s.schan j c := by
  refine getD_modAt_ne _ _ _ _ _ fun heq => h ?_
  cases b <;> cases c <;> simp [bnat] at heq ⊢ <;> omega

theorem sin_setIn_same (s : Dev) (i : Nat) (f : SafeInp → SafeInp) (h : i < s.safe.inp.length) : (s.setIn i f).sin i = f (s.sin i) :=
  getD_modAt_same _ _ _ _ h

theorem sin_setIn_ne (s : Dev) (i j : Nat) (f : SafeInp → SafeInp) (h : j ≠ i) : (s.setIn i f).sin j = s.sin j :=
  getD_modAt_ne _ _ _ _ _ h

theorem sout_setOut_same (s : Dev) (k : Nat) (f : SafeOut → SafeOut) (h : k < s.safe.out.length) : (s.setOut k f).sout k = f (s.sout k) :=
  getD_modAt_same _ _ _ _ h

theorem sout_setOut_ne (s : Dev) (j k : Nat) (f : SafeOut → SafeOut) (h : j ≠ k) : (s.setOut k f).sout j = s.sout j :=
  getD_modAt_ne _ _ _ _ _ h

/-- A command of the safety logic that writes the listed registers and makes its state u. -/
theorem Effect.safeFramed {l : List Nat} {s : State} {d : Dev} (h : Effect l s.toDev d (blocks s.toDev)) (u : SafeSt) :
    SafeFramed l s (s.after { d with safe := u }) u := by
  refine ⟨fun a ha hout hstat => (settle_rd _ a hout hstat).trans (h.regs a ha), (blocks_settle _).trans h.engines, ?_, ?_, ?_⟩
  · rw [SeqKept, settle_seq]
    exact congrArg (fun q : SeqSt => { q with freeCtr := s.seq.freeCtr }) h.seq
  · rw [LogKept, settle_log]
    exact h.log
  · exact (settle_safe _).trans (copyLatches_safe_of_safe rfl)

theorem safeFramed_after (s : State) (u : SafeSt) : SafeFramed [] s (s.after { s.toDev with safe := u }) u :=
  (Effect.refl [] s.toDev).safeFramed u

theorem waiting_answers {instr : Instr} {s : State} {c i b : Nat} (hc : exec instr s = done s (s.toDev.cause c i b)) :
    Answers instr s fun t => WaitingCause s t c i b :=
  answers_of_done hc ⟨safeFramed_after s _, noEvent_after rfl⟩

/-! Understory's latch. -/

theorem ustLatch_settle {d : Dev} (h : d.safe.ustLatch = true) : d.settle.safe.ustLatch = true := by
  rw [settle_safe, (copyLatches_latches d).2]
  unfold Dev.deadfall
  rw [h, Bool.or_true]
  exact ite_self _

/-- No permit without what Understory needs for every one (R338). -/
theorem permit_settle_false {d : Dev} (k : Nat)
    (h : d.safe.ustSw = false ∨ d.safe.ustCfg = false ∨ d.copyLatches.safe.ustLatch = true) : d.settle.permit k = false := by
  rw [settle_permit]
  rcases h with h | h | h <;> simp [Dev.permit, h]

theorem latchCause_safe (s : Dev) (c i b : Nat) : (s.latchCause c i b).safe = { s.safe with dfAge := 0 } := by
  simp [Dev.latchCause]

theorem latchCause_log (s : Dev) (c i b : Nat) : (s.latchCause c i b).log = s.log := by
  simp [Dev.latchCause]

/-- The cause as SAFE_STAT shows it. -/
def Dev.causeShown (s : Dev) (c i b : Nat) : Dev := ((s.setFld SAFE_STAT 11 8 c).setFld SAFE_STAT 15 12 i).setFld SAFE_STAT 16 16 b

theorem latchCause_eq (s : Dev) (c i b : Nat) : s.latchCause c i b =
    ((((Dev.wr { s.causeShown c i b with safe := { (s.causeShown c i b).safe with dfAge := 0 } } SAFE_DF_STAMP (stamp32 s.now)).wr
      SAFE_DF_ERA (eraOf s.now)).cntSat SAFE_CNT 23 16 1).spend.raise 0x50) := rfl

/-- The first cause stands in SAFE_STAT, and SAFE_CNT counts the entry (R355). -/
theorem latchCause_fields (s : Dev) (c i b : Nat) :
    (s.latchCause c i b).fld SAFE_STAT 11 8 = c % 16 ∧ (s.latchCause c i b).fld SAFE_STAT 15 12 = i % 16 ∧
    (s.latchCause c i b).fld SAFE_CNT 23 16 = min 255 (s.fld SAFE_CNT 23 16 + 1) := by
  have hrd : ∀ a, Dev.rd { s.causeShown c i b with safe := { (s.causeShown c i b).safe with dfAge := 0 } } a =
      (s.causeShown c i b).rd a := fun _ => rfl
  have hstat : ∀ hi lo, (s.latchCause c i b).fld SAFE_STAT hi lo = (s.causeShown c i b).fld SAFE_STAT hi lo := fun hi lo => by
    rw [latchCause_eq, fld_raise_other _ _ _ _ _ (by decide), (fld_window _ _ _ _).2.2.2.2.2.2.2.2.2.2.2,
      fld_cntSat_other _ _ _ _ _ _ _ _ (by decide), fld_wr_other _ _ _ _ _ _ (by decide), fld_wr_other _ _ _ _ _ _ (by decide)]
    exact fld_of_rd _ _ _ _ _ (hrd _)
  refine ⟨?_, ?_, ?_⟩
  · rw [hstat]
    simp [Dev.causeShown]
  · rw [hstat]
    simp [Dev.causeShown]
  · rw [latchCause_eq, fld_raise_other _ _ _ _ _ (by decide), (fld_window _ _ _ _).2.2.2.2.2.2.2.2.2.2.2,
      fld_cntSat_same _ _ _ _ _ (by decide) (by decide), fld_wr_other _ _ _ _ _ _ (by decide), fld_wr_other _ _ _ _ _ _ (by decide),
      fld_of_rd _ _ _ _ _ (hrd SAFE_CNT)]
    simp [Dev.causeShown]

/-- The device with the first cause of an entry latched (R355). -/
def Dev.firstCause (s : Dev) (c i b : Nat) : Dev := if s.deadfall then s else s.latchCause c i b

theorem firstCause_log (s : Dev) (c i b : Nat) : (s.firstCause c i b).log = s.log := by
  unfold Dev.firstCause
  split
  · rfl
  · exact latchCause_log _ _ _ _

theorem firstCause_entry {s : Dev} (c i b : Nat) (h : s.deadfall = false) : s.firstCause c i b = s.latchCause c i b :=
  if_neg (by rw [h]; decide)

theorem ustCause_eq (s : Dev) (c i : Nat) : s.ustCause c i =
    Dev.ev { s.firstCause c i 0 with safe := { (s.firstCause c i 0).safe with ustLatch := true } } 0x0C01 c (i * 2) := rfl

theorem fld_latched (d : Dev) (u : SafeSt) (c p q a hi lo : Nat) : (Dev.ev { d with safe := u } c p q).fld a hi lo = d.fld a hi lo := rfl

theorem firstCause_safe (s : Dev) (c i b : Nat) :
    (s.firstCause c i b).safe = { s.safe with dfAge := if s.deadfall then s.safe.dfAge else 0 } := by
  unfold Dev.firstCause
  split
  · rfl
  · exact latchCause_safe _ _ _ _

theorem ustCause_safe (s : Dev) (c i : Nat) : (s.ustCause c i).safe =
    { s.safe with ustLatch := true, dfAge := if s.deadfall then s.safe.dfAge else 0 } := by
  rw [ustCause_eq, ev_safe, firstCause_safe]

theorem ustCause_ustLatch (s : Dev) (c i : Nat) : (s.ustCause c i).safe.ustLatch = true := by
  rw [ustCause_safe]

/-- What a cause that Understory takes by itself leaves: its latch, no permit, one event, and the first cause (R355). -/
theorem ustCause_after {s : State} {d : Dev} (c i : Nat) (hlog : d.log = s.log) (hregs : d.regs = s.regs)
    (hfall : d.deadfall = s.deadfall) :
    (s.after (d.ustCause c i)).safe.ustLatch = true ∧ (∀ k, (s.after (d.ustCause c i)).permit k = false) ∧
    OneEvent s (s.after (d.ustCause c i)) 0x0C01 (BitVec.ofNat 32 c) (BitVec.ofNat 32 (i * 2)) ∧
    (s.deadfall = false → (s.after (d.ustCause c i)).fld SAFE_STAT 11 8 = c % 16 ∧
      (s.after (d.ustCause c i)).fld SAFE_STAT 15 12 = i % 16 ∧
      (s.after (d.ustCause c i)).fld SAFE_CNT 23 16 = min 255 (s.fld SAFE_CNT 23 16 + 1)) := by
  have hlatch := ustLatch_settle (ustCause_ustLatch d c i)
  have hcopied : (d.ustCause c i).copyLatches.safe.ustLatch = true := (congrArg SafeSt.ustLatch (settle_safe _)).symm.trans hlatch
  refine ⟨hlatch, fun k => permit_settle_false k (.inr (.inr hcopied)), ?_, fun hclear => ?_⟩
  · rw [ustCause_eq]
    generalize hd : d.firstCause c i 0 = e
    exact oneEvent_ev (d := { e with safe := { e.safe with ustLatch := true } }) rfl
      (congrArg LogSt.raised (hd ▸ (firstCause_log d c i 0).trans hlog))
  · obtain ⟨hcause, hchan, hcount⟩ := latchCause_fields d c i 0
    have hfld : ∀ a hi lo, (d.ustCause c i).fld a hi lo = (d.latchCause c i 0).fld a hi lo := fun a hi lo => by
      rw [ustCause_eq, firstCause_entry c i 0 (hfall.trans hclear)]
      exact fld_latched _ _ _ _ _ _ _ _
    have hcnt : d.fld SAFE_CNT 23 16 = s.fld SAFE_CNT 23 16 := fld_of_rd _ _ _ _ _ (rd_of_regs _ _ _ hregs)
    refine ⟨(settle_fld_stat _ _ _ (by decide)).trans ((hfld _ _ _).trans hcause),
      (settle_fld_stat _ _ _ (by decide)).trans ((hfld _ _ _).trans hchan),
      (settle_fld _ _ _ _ (by decide) (by decide)).trans ((hfld _ _ _).trans (hcount.trans (by rw [hcnt])))⟩

end Sys2Proof.Machine
end

section
/-! The inputs of the safety logic (R342 to R347): what a sample makes of one input, and that the other fifteen keep theirs. -/

namespace Sys2Proof.Machine

/-- The channels of input i are as they were, the detected levels and their runs, with what decides about them; its demand is v. -/
structure InputKept (i : Nat) (s : Dev) (v : Bool) (d : Dev) : Prop where
  chan : ∀ b, (d.schan i b).closed = (s.schan i b).closed ∧ (d.schan i b).run = (s.schan i b).run
  demand : (d.sin i).demand = v
  kind : ∀ j, d.inKind j = s.inKind j
  up : d.safe.up = s.safe.up
  chans : d.safe.chan.length = s.safe.chan.length
  inps : d.safe.inp.length = s.safe.inp.length

theorem InputKept.refl (i : Nat) (s : Dev) : InputKept i s (s.sin i).demand s := ⟨fun _ => ⟨rfl, rfl⟩, rfl, fun _ => rfl, rfl, rfl, rfl⟩

section
variable {i : Nat} {s d : Dev} {v : Bool}

theorem InputKept.trans {e : Dev} {w : Bool} (h : InputKept i s v d) (h' : InputKept i d w e) : InputKept i s w e :=
  ⟨fun b => ⟨(h'.chan b).1.trans (h.chan b).1, (h'.chan b).2.trans (h.chan b).2⟩, h'.demand,
    fun j => (h'.kind j).trans (h.kind j), h'.up.trans h.up, h'.chans.trans h.chans, h'.inps.trans h.inps⟩

/-- An update of a channel that keeps level and run, or of a channel of another input. -/
theorem InputKept.setChan (h : InputKept i s v d) (j : Nat) (b : Bool) (f : SafeChan → SafeChan)
    (hf : j = i → ∀ x, (f x).closed = x.closed ∧ (f x).run = x.run) : InputKept i s v (d.setChan j b f) := by
  refine ⟨fun c => ?_, h.demand, h.kind, h.up, (length_modAt _ _ _).trans h.chans, h.inps⟩
  by_cases hj : j = i
  · have hclosed : ((d.setChan j b f).schan i c).closed = (d.schan i c).closed :=
      getD_modAt_keeps SafeChan.closed _ _ _ _ _ fun x => (hf hj x).1
    have hrun : ((d.setChan j b f).schan i c).run = (d.schan i c).run :=
      getD_modAt_keeps SafeChan.run _ _ _ _ _ fun x => (hf hj x).2
    exact ⟨hclosed.trans (h.chan c).1, hrun.trans (h.chan c).2⟩
  · rw [schan_setChan_ne _ _ _ _ _ _ fun heq => hj (congrArg Prod.fst heq).symm]
    exact h.chan c

/-- An update of an input that keeps its demand, or of another input. -/
theorem InputKept.setIn (h : InputKept i s v d) (j : Nat) (f : SafeInp → SafeInp)
    (hf : j = i → ∀ x, (f x).demand = x.demand) : InputKept i s v (d.setIn j f) := by
  refine ⟨h.chan, ?_, h.kind, h.up, h.chans, (length_modAt _ _ _).trans h.inps⟩
  by_cases hj : j = i
  · exact (getD_modAt_keeps SafeInp.demand _ _ _ _ _ (hf hj)).trans h.demand
  · exact (congrArg SafeInp.demand (sin_setIn_ne _ _ _ _ (Ne.symm hj))).trans h.demand

theorem InputKept.setIn_other (h : InputKept i s v d) {j : Nat} (hj : j ≠ i) (f : SafeInp → SafeInp) :
    InputKept i s v (d.setIn j f) :=
  h.setIn j f fun heq => absurd heq hj

/-- An update of the input that sets its demand. -/
theorem InputKept.setDemand (h : InputKept i s v d) {w : Bool} (f : SafeInp → SafeInp) (hf : ∀ x, (f x).demand = w)
    (hlen : i < d.safe.inp.length) : InputKept i s w (d.setIn i f) :=
  ⟨h.chan, (congrArg SafeInp.demand (sin_setIn_same _ _ _ hlen)).trans (hf _), h.kind, h.up, h.chans, (length_modAt _ _ _).trans h.inps⟩

theorem InputKept.setOut (h : InputKept i s v d) (k : Nat) (f : SafeOut → SafeOut) : InputKept i s v (d.setOut k f) :=
  ⟨h.chan, h.demand, h.kind, h.up, h.chans, h.inps⟩

theorem InputKept.cause (h : InputKept i s v d) (c n b : Nat) : InputKept i s v (d.cause c n b) :=
  ⟨h.chan, h.demand, h.kind, h.up, h.chans, h.inps⟩

theorem InputKept.ev (h : InputKept i s v d) (c p q : Nat) : InputKept i s v (d.ev c p q) :=
  ⟨h.chan, h.demand, h.kind, h.up, h.chans, h.inps⟩

/-- A register outside the table of the inputs. -/
theorem InputKept.wr (h : InputKept i s v d) {a : Nat} (ha : ∀ j, SAFE_IN_CFG j ≠ a) (w : Word) : InputKept i s v (d.wr a w) :=
  ⟨h.chan, h.demand, fun j => (fld_wr_other _ _ _ _ _ _ (ha j)).trans (h.kind j), h.up, h.chans, h.inps⟩

theorem InputKept.ite {e : Dev} (c : Prop) [Decidable c] (hd : InputKept i s v d) (he : InputKept i s v e) :
    InputKept i s v (if c then d else e) := by
  split
  · exact hd
  · exact he

theorem InputKept.each {α : Type} {f : Dev → α → Dev} (h : InputKept i s v d) (hf : ∀ e x, InputKept i s v e → InputKept i s v (f e x))
    (xs : List α) : InputKept i s v (d.each xs f) := by
  unfold Dev.each
  exact List.foldlRecOn (motive := fun e => InputKept i s v e) xs f h fun e he x _ => hf e x he

end

/-! The tests and the spans keep every input. -/

theorem testChan_kept {i : Nat} {s d : Dev} {v : Bool} (h : InputKept i s v d) (n j : Nat) (b lvl : Bool) : InputKept i s v (d.testChan n j b lvl) := by
  unfold Dev.testChan
  dsimp only
  have hpre := InputKept.ite ((List.range 4).any (fun m => ((tpWindow m).1 + 499) % 500 == n) = true)
    (h.setChan j b (fun y => { y with pre := lvl }) fun _ _ => ⟨rfl, rfl⟩) h
  split
  · exact hpre
  · next m _ =>
    refine InputKept.ite _ hpre (InputKept.ite _ ?_ (InputKept.ite _ ?_ hpre))
    · have hmiss := hpre.setChan j b (fun y => { y with miss := lvl }) fun _ _ => ⟨rfl, rfl⟩
      exact InputKept.ite _ (hmiss.cause _ _ _) hmiss
    · have hcross := hpre.setChan j b (fun y => { y with cross := m :: y.cross }) fun _ _ => ⟨rfl, rfl⟩
      exact InputKept.ite _ (hcross.cause _ _ _) hcross

theorem inputTime_kept {i : Nat} {s d : Dev} {v : Bool} (h : InputKept i s v d) (j : Nat) : InputKept i s v (d.inputTime j) :=
  h.setIn j _ fun _ x => by
    dsimp only
    split <;> rfl

/-! A start input: no demand and no level moves with it (R348). -/

theorem giveStart_kept {i : Nat} {s d : Dev} {v : Bool} (h : InputKept i s v d) (j : Nat) : InputKept i s v (d.giveStart j) :=
  h.each (fun _ _ he => InputKept.ite _ (he.setOut _ _) he) _

theorem released_kept {i : Nat} {s d : Dev} {v : Bool} (h : InputKept i s v d) (j n : Nat) : InputKept i s v (d.released j n) :=
  have hheld := h.setIn j (fun y => { y with held := none }) fun _ _ => rfl
  InputKept.ite _ (giveStart_kept hheld j) hheld

theorem startStep_kept {i : Nat} {s d : Dev} {v : Bool} (h : InputKept i s v d) (j : Nat) (a b c t : Bool) :
    InputKept i s v (d.startStep j a b c t) := by
  unfold Dev.startStep
  dsimp only
  split
  · refine InputKept.ite _ (InputKept.ite _ (h.setIn j _ fun _ _ => rfl) h) (InputKept.ite _ ?_ h)
    split
    · exact h
    · exact released_kept h j _
  · next n _ =>
    have hheld := h.setIn j (fun y => { y with press := none, held := some n }) fun _ _ => rfl
    exact InputKept.ite _ h (InputKept.ite _ (released_kept hheld j n) hheld)

/-! The step of an input after its detections. -/

/-- Both channels of an input of kind 1 or 2 are at rest (R346). -/
def Dev.atRest (s : Dev) (i : Nat) : Bool :=
  (s.schan i false).closed == restLevel (s.inKind i) false && (s.schan i true).closed == restLevel (s.inKind i) true

theorem safeCnt_notIn (j : Nat) : SAFE_IN_CFG j ≠ SAFE_CNT := by
  simp only [SAFE_IN_CFG, SAFE_CNT]
  omega

/-- The step of another input. -/
theorem inputStep_other {i j : Nat} {s d : Dev} {v : Bool} (h : InputKept i s v d) (hj : j ≠ i) (a b : Bool) :
    InputKept i s v (d.inputStep j a b) := by
  unfold Dev.inputStep
  dsimp only
  refine InputKept.ite _ h ?_
  have hdisc := fun f => h.setIn_other hj f
  refine InputKept.ite _ (startStep_kept (hdisc _) _ _ _ _ _) (InputKept.ite _ ((hdisc _).setIn_other hj _)
    (InputKept.ite _ (hdisc _) ?_))
  exact (((hdisc _).setIn_other hj _).wr safeCnt_notIn _).ev _ _ _

/-- The step of the input itself: an input of kind 1 or 2 is in demand exactly when a channel is not at rest (R346). -/
theorem inputStep_own {i : Nat} {s : Dev} (hlen : i < s.safe.inp.length) (a b : Bool) :
    ∃ w, InputKept i s w (s.inputStep i a b) ∧ (s.inKind i = 1 ∨ s.inKind i = 2 → w = !s.atRest i) := by
  have h := InputKept.refl i s
  unfold Dev.inputStep
  dsimp only
  split
  · next hkind => exact ⟨_, h, fun hk => absurd hkind (by omega)⟩
  have hdisc := h.setIn i (fun y => { y with
    disc := (if chansAgree (s.inKind i) (s.schan i false).closed (s.schan i true).closed then none
      else if (s.sin i).disc.isSome then (s.sin i).disc else if (a || b) = true then some !a else none),
    discRun := if (s.sin i).disc.isSome then y.discRun else 0 }) fun _ _ => rfl
  have hlen' := hdisc.inps ▸ hlen
  split
  · next hkind => exact ⟨_, startStep_kept hdisc _ _ _ _ _, fun hk => absurd hkind (by omega)⟩
  split
  · exact ⟨_, hdisc.setDemand _ (fun _ => rfl) hlen', fun _ => rfl⟩
  next hdemand =>
  split
  · next hrest =>
    refine ⟨_, hdisc, fun _ => ?_⟩
    rw [show s.atRest i = true from hrest]
    exact Bool.eq_false_iff.mpr hdemand
  · next hrest =>
    refine ⟨true, ((hdisc.setDemand (fun y => { y with demand := true }) (fun _ => rfl) hlen').wr safeCnt_notIn _).ev _ _ _, fun _ => ?_⟩
    rw [show s.atRest i = false from Bool.eq_false_iff.mpr hrest]
    rfl

/-! A sample of one input. -/

/-- The level of a channel that the third sample in a row of the other level changes (R344). -/
def SafeChan.levelAfter (x : SafeChan) (lvl : Bool) : Bool := if lvl ≠ x.closed ∧ 2 ≤ x.run then lvl else x.closed

theorem detect_other {i j : Nat} {s d : Dev} {v : Bool} (h : InputKept i s v d) (hj : j ≠ i) (b lvl : Bool) :
    InputKept i s v (d.detect j b lvl) :=
  h.setChan j b _ fun heq => absurd heq hj

theorem setChan_chans (s : Dev) (i : Nat) (b : Bool) (f : SafeChan → SafeChan) :
    (s.setChan i b f).safe.chan.length = s.safe.chan.length :=
  length_modAt _ _ _

theorem detect_closed (s : Dev) (i : Nat) (b lvl : Bool) (hlen : 2 * i + bnat b < s.safe.chan.length) :
    ((s.detect i b lvl).schan i b).closed = (s.schan i b).levelAfter lvl := by
  unfold Dev.detect SafeChan.levelAfter
  rw [schan_setChan_same _ _ _ _ hlen]
  by_cases hlvl : lvl = (s.schan i b).closed
  · simp [hlvl]
  · by_cases hrun : 2 ≤ (s.schan i b).run <;> simp [hlvl, hrun]

theorem sampleInput_other {i j : Nat} {s d : Dev} {v : Bool} (h : InputKept i s v d) (hj : j ≠ i) (a b : Bool) :
    InputKept i s v (d.sampleInput j a b) := by
  unfold Dev.sampleInput
  dsimp only
  have hdetect := detect_other (detect_other h hj false a) hj true b
  exact InputKept.ite _ h (InputKept.ite _ (inputStep_other hdetect hj _ _) hdetect)

/-- What a sample outside the windows leaves of input i, as it was in s (R344, R346). -/
structure InputSampled (i : Nat) (a b : Bool) (s d : Dev) : Prop where
  chanA : (d.schan i false).closed = if s.inKind i = 0 then (s.schan i false).closed else (s.schan i false).levelAfter a
  chanB : (d.schan i true).closed = if s.inKind i = 0 then (s.schan i true).closed else (s.schan i true).levelAfter b
  demand : s.safe.up = true → s.inKind i = 1 ∨ s.inKind i = 2 → (d.sin i).demand = !d.atRest i
  kind : ∀ j, d.inKind j = s.inKind j

theorem InputSampled.kept {i : Nat} {a b v : Bool} {s d e : Dev} (h : InputSampled i a b s d) (h' : InputKept i d v e)
    (hv : v = (d.sin i).demand) : InputSampled i a b s e := by
  refine ⟨(h'.chan false).1.trans h.chanA, (h'.chan true).1.trans h.chanB, fun hup hkind => ?_, fun j => (h'.kind j).trans (h.kind j)⟩
  rw [h'.demand, hv, h.demand hup hkind]
  unfold Dev.atRest
  rw [(h'.chan false).1, (h'.chan true).1, h'.kind]

theorem sampleInput_own {i : Nat} {s : Dev} (a b : Bool) (hi : i < 16) (hchan : s.safe.chan.length = 32)
    (hinp : s.safe.inp.length = 16) : InputSampled i a b s (s.sampleInput i a b) := by
  unfold Dev.sampleInput
  dsimp only
  by_cases hkind : s.inKind i = 0
  · rw [if_pos hkind]
    exact ⟨(if_pos hkind).symm, (if_pos hkind).symm, fun _ hk => absurd hkind (by omega), fun _ => rfl⟩
  rw [if_neg hkind]
  have hA := detect_closed s i false a (by rw [hchan]; simp [bnat]; omega)
  have hB := detect_closed (s.detect i false a) i true b (by rw [Dev.detect, setChan_chans, hchan]; simp [bnat]; omega)
  have hkeepA : ((s.detect i false a).detect i true b).schan i false = (s.detect i false a).schan i false :=
    schan_setChan_ne _ _ _ _ _ _ (by simp)
  have hkeepB : (s.detect i false a).schan i true = s.schan i true := schan_setChan_ne _ _ _ _ _ _ (by simp)
  rw [hkeepB] at hB
  rw [← hkeepA] at hA
  generalize hd : (s.detect i false a).detect i true b = d at hA hB ⊢
  have hup : d.safe.up = s.safe.up := by rw [← hd]; rfl
  have hkinds : ∀ j, d.inKind j = s.inKind j := fun j => by rw [← hd]; rfl
  have hlen : i < d.safe.inp.length := by rw [← hd]; exact hinp ▸ hi
  split
  · obtain ⟨w, hstep, hw⟩ := inputStep_own (s := d) hlen ((d.schan i false).closed != (s.schan i false).closed)
      ((d.schan i true).closed != (s.schan i true).closed)
    refine ⟨(hstep.chan false).1.trans (hA.trans (if_neg hkind).symm), (hstep.chan true).1.trans (hB.trans (if_neg hkind).symm),
      fun _ hk => ?_, fun j => (hstep.kind j).trans (hkinds j)⟩
    rw [hstep.demand, hw (by rwa [hkinds])]
    unfold Dev.atRest
    rw [(hstep.chan false).1, (hstep.chan true).1, hstep.kind]
  · next hdown =>
    exact ⟨hA.trans (if_neg hkind).symm, hB.trans (if_neg hkind).symm, fun h => absurd (hup.trans h) hdown, hkinds⟩

/-! The sixteen inputs at a sample. -/

/-- The tests and the spans of a sample. -/
def Dev.sampleTests (s : Dev) (n : Nat) (a b : BitVec 16) : Dev :=
  let s := s.each (List.range 16) fun d i => (d.testChan n i false (a.getLsbD i)).testChan n i true (b.getLsbD i)
  if s.safe.up then s.each (List.range 16) Dev.inputTime else s

theorem sampleInputs_eq (s : Dev) (n : Nat) (a b : BitVec 16) : s.sampleInputs n a b =
    if inWindow n then s.sampleTests n a b
    else (s.sampleTests n a b).each (List.range 16) fun d i => d.sampleInput i (a.getLsbD i) (b.getLsbD i) := rfl

theorem sampleTests_kept (i : Nat) (s : Dev) (n : Nat) (a b : BitVec 16) : InputKept i s (s.sin i).demand (s.sampleTests n a b) := by
  have htests := (InputKept.refl i s).each (f := fun d i => (d.testChan n i false (a.getLsbD i)).testChan n i true (b.getLsbD i))
    (fun _ j he => testChan_kept (testChan_kept he _ _ _ _) _ _ _ _) (List.range 16)
  exact InputKept.ite _ (htests.each (fun _ j he => inputTime_kept he j) _) htests

theorem sampleLevels_sampled {i : Nat} {s : Dev} (a b : BitVec 16) (hi : i < 16) (hchan : s.safe.chan.length = 32)
    (hinp : s.safe.inp.length = 16) :
    InputSampled i (a.getLsbD i) (b.getLsbD i) s (s.each (List.range 16) fun d i => d.sampleInput i (a.getLsbD i) (b.getLsbD i)) := by
  have hrec := each_range_rec (m := 16) (s := s) (f := fun d i => d.sampleInput i (a.getLsbD i) (b.getLsbD i))
    (P := fun k d => (k ≤ i → InputKept i s (s.sin i).demand d) ∧ (i < k → InputSampled i (a.getLsbD i) (b.getLsbD i) s d))
    ⟨fun _ => InputKept.refl i s, fun h => absurd h (Nat.not_lt_zero i)⟩ fun k d _ ⟨hbefore, hafter⟩ => ?_
  · exact hrec.2 hi
  refine ⟨fun hk => sampleInput_other (hbefore (by omega)) (by omega) _ _, fun hk => ?_⟩
  by_cases hik : k = i
  · subst hik
    have hkept := hbefore (Nat.le_refl k)
    have hown := sampleInput_own (s := d) (a.getLsbD k) (b.getLsbD k) hi (hkept.chans.trans hchan) (hkept.inps.trans hinp)
    obtain ⟨hA, hB, hdemand, hkind⟩ := hown
    unfold SafeChan.levelAfter at hA hB
    rw [(hkept.chan false).1, (hkept.chan false).2, hkept.kind] at hA
    rw [(hkept.chan true).1, (hkept.chan true).2, hkept.kind] at hB
    exact ⟨hA, hB, fun hup hk => hdemand (hkept.up.trans hup) (by rwa [hkept.kind]), fun j => (hkind j).trans (hkept.kind j)⟩
  · exact (hafter (by omega)).kept (sampleInput_other (InputKept.refl i d) hik _ _) rfl

/-! The whole sample. -/

theorem InputKept.safeSt {i : Nat} {s d : Dev} {v : Bool} (h : InputKept i s v d) (u : SafeSt) (hchan : u.chan = d.safe.chan)
    (hinp : u.inp = d.safe.inp) (hup : u.up = d.safe.up) : InputKept i s v { d with safe := u } := by
  refine ⟨fun b => ?_, (congrArg (fun x : List SafeInp => (x.getD i {}).demand) hinp :).trans h.demand, h.kind, hup.trans h.up,
    (congrArg List.length hchan).trans h.chans, (congrArg List.length hinp).trans h.inps⟩
  rw [show Dev.schan { d with safe := u } i b = d.schan i b from (congrArg (fun x : List SafeChan => x.getD (2 * i + bnat b) {}) hchan :)]
  exact h.chan b

/-- A channel at the end of a test frame (R345). -/
def SafeChan.nextFrame (x : SafeChan) : SafeChan := { x with missPrev := x.miss, miss := false, crossPrev := x.cross, cross := [] }

theorem frameEnd_kept {i : Nat} {s d : Dev} {v : Bool} (h : InputKept i s v d) : InputKept i s v d.frameEnd := by
  refine ⟨fun b => ?_, h.demand, h.kind, h.up, (List.length_map _).trans h.chans, h.inps⟩
  have hmap : d.frameEnd.schan i b = (d.schan i b).nextFrame :=
    List.getD_map (n := 2 * i + bnat b) (d := ({} : SafeChan)) (l := d.safe.chan) SafeChan.nextFrame
  rw [hmap]
  exact h.chan b

theorem showInputs_kept {i : Nat} {s d : Dev} {v : Bool} (h : InputKept i s v d) : InputKept i s v d.showInputs :=
  (h.wr (a := SAFE_IN_LVL) (fun j => by simp only [SAFE_IN_CFG, SAFE_IN_LVL]; omega) _).wr (a := SAFE_IN_DEM)
    (fun j => by simp only [SAFE_IN_CFG, SAFE_IN_DEM]; omega) _

/-- The device as a sample finds it: a dark test counts the sample (R351). -/
def Dev.sampleStart (s : Dev) : Dev := { s with safe.dark := s.safe.dark.map fun (t : DarkTest) => { t with smp := t.smp + 1 } }

/-- What follows the detections: the causes of the comparators, and the end of the sample (R337, R345, R357). -/
def Dev.sampleClose (s : Dev) (n : Nat) (cmpBad : BitVec 16) : Dev :=
  let s := if s.inputsWell then s else { s with safe.wellAge := 0 }
  let bad := (List.range 16).filter fun i => s.inKind i != 0 && cmpBad.getLsbD i && bitOf s.safe.cmpPrev i
  let s := s.each bad fun d i => d.cause 11 i 0
  { s with safe.cmpPrev := cmpBad.toNat, safe.smp := (n + 1) % 500 }

/-- The sample before the registers show it. -/
def Dev.sampled (s : Dev) (a b cmpBad : BitVec 16) : Dev :=
  let d := (s.sampleStart.sampleInputs s.safe.smp a b).sampleClose s.safe.smp cmpBad
  if s.safe.smp = 499 then d.frameEnd else d

theorem canopySample_eq {s : Dev} (a b cmpBad : BitVec 16) (h : s.safe.halt = false) :
    s.canopySample a b cmpBad = (s.sampled a b cmpBad).showInputs :=
  if_neg (by rw [h]; decide)

theorem sampleClose_kept {i : Nat} {s d : Dev} {v : Bool} (h : InputKept i s v d) (n : Nat) (cmpBad : BitVec 16) :
    InputKept i s v (d.sampleClose n cmpBad) := by
  have hwell := InputKept.ite (d.inputsWell = true) h (h.safeSt { d.safe with wellAge := 0 } rfl rfl rfl)
  exact (hwell.each (fun _ _ he => he.cause _ _ _) _).safeSt _ rfl rfl rfl

theorem sampled_kept (i : Nat) (s : Dev) (a b cmpBad : BitVec 16) :
    InputKept i (s.sampleStart.sampleInputs s.safe.smp a b) ((s.sampleStart.sampleInputs s.safe.smp a b).sin i).demand
      (s.sampled a b cmpBad) :=
  have hclose := sampleClose_kept (InputKept.refl i _) s.safe.smp cmpBad
  InputKept.ite _ (frameEnd_kept hclose) hclose

theorem sampled_safe (s : Dev) (a b cmpBad : BitVec 16) :
    (s.sampled a b cmpBad).safe.smp = (s.safe.smp + 1) % 500 ∧ (s.sampled a b cmpBad).safe.cmpPrev = cmpBad.toNat := by
  unfold Dev.sampled
  dsimp only
  split <;> exact ⟨rfl, rfl⟩

/-- Inside a window of the test pulses a sample keeps every input (R344). -/
theorem sample_inWindow (i : Nat) {s : Dev} (a b : BitVec 16) (h : inWindow s.safe.smp = true) :
    InputKept i s (s.sin i).demand (s.sampleStart.sampleInputs s.safe.smp a b) := by
  rw [sampleInputs_eq, if_pos h]
  exact ((InputKept.refl i s).safeSt { s.safe with dark := s.sampleStart.safe.dark } rfl rfl rfl).trans (sampleTests_kept i s.sampleStart _ _ _)

theorem sample_outside {i : Nat} {s : Dev} (a b : BitVec 16) (h : inWindow s.safe.smp = false) (hi : i < 16)
    (hchan : s.safe.chan.length = 32) (hinp : s.safe.inp.length = 16) :
    InputSampled i (a.getLsbD i) (b.getLsbD i) s (s.sampleStart.sampleInputs s.safe.smp a b) := by
  rw [sampleInputs_eq, if_neg (by rw [h]; decide)]
  have htests : InputKept i s (s.sin i).demand (s.sampleStart.sampleTests s.safe.smp a b) :=
    ((InputKept.refl i s).safeSt { s.safe with dark := s.sampleStart.safe.dark } rfl rfl rfl).trans
      (sampleTests_kept i s.sampleStart _ _ _)
  obtain ⟨hA, hB, hdemand, hkind⟩ := sampleLevels_sampled a b hi (htests.chans.trans hchan) (htests.inps.trans hinp)
  unfold SafeChan.levelAfter at hA hB
  rw [(htests.chan false).1, (htests.chan false).2, htests.kind] at hA
  rw [(htests.chan true).1, (htests.chan true).2, htests.kind] at hB
  exact ⟨hA, hB, fun hup hk => hdemand (htests.up.trans hup) (by rwa [htests.kind]), fun j => (hkind j).trans (htests.kind j)⟩

theorem canopySample_answers (s : State) (hs : Shaped s.toDev) (a b bad : BitVec 16) (hrun : s.safe.halt = false) :
    Answers (.canopySample a b bad) s fun t =>
      t.safe.smp = (s.safe.smp + 1) % 500 ∧ t.safe.cmpPrev = bad.toNat ∧
      (∀ (i : Fin 16) (ch : Bool), (t.schan i ch).closed =
        (let lvl := if ch then b.getLsbD i else a.getLsbD i
         if s.inKind i ≠ 0 ∧ inWindow s.safe.smp = false ∧ lvl ≠ (s.schan i ch).closed ∧ 2 ≤ (s.schan i ch).run then lvl
         else (s.schan i ch).closed)) ∧
      (∀ i : Fin 16, s.safe.up = true → s.inKind i = 1 ∨ s.inKind i = 2 → inWindow s.safe.smp = false →
        (t.sin i).demand = !((t.schan i false).closed == restLevel (s.inKind i) false &&
          (t.schan i true).closed == restLevel (s.inKind i) true)) := by
  have hsafe := sampled_safe s.toDev a b bad
  have hclose : ∀ i, InputKept i (s.sampleStart.sampleInputs s.safe.smp a b)
      ((s.sampleStart.sampleInputs s.safe.smp a b).sin i).demand (s.sampled a b bad).showInputs := fun i =>
    showInputs_kept (sampled_kept i s.toDev a b bad)
  refine answers_of_done (congrArg (done s) (canopySample_eq a b bad hrun)) ⟨?_, ?_, fun i ch => ?_, fun i hup hkind hout => ?_⟩
  · rw [settle_safe, copyLatches_safe_smp]
    exact hsafe.1
  · rw [settle_safe, copyLatches_safe_cmpPrev]
    exact hsafe.2
  · rw [schan_settle, ((hclose i).chan ch).1]
    cases hwin : inWindow s.safe.smp with
    | true =>
      rw [((sample_inWindow i a b hwin).chan ch).1]
      simp
    | false =>
      obtain ⟨hA, hB, -, -⟩ := sample_outside a b hwin i.isLt hs.chan hs.inp
      cases ch
      · rw [hA]
        by_cases hk : s.inKind i = 0 <;> simp [hk, SafeChan.levelAfter]
      · rw [hB]
        by_cases hk : s.inKind i = 0 <;> simp [hk, SafeChan.levelAfter]
  · have hsampled := (sample_outside a b hout i.isLt hs.chan hs.inp).kept (hclose i) rfl
    rw [sin_settle, schan_settle, schan_settle, hsampled.demand hup hkind]
    unfold Dev.atRest
    rw [hsampled.kind]

/-! The other commands of the inputs. -/

theorem discTimeout_answers (s : State) (hs : Shaped s.toDev) (i : Fin 16) (b : Bool) (hrun : s.safe.halt = false)
    (hlate : (s.sin i).late = some b) : Answers (.discrepancyTimeout i) s fun t =>
      t.sin i = { s.sin i with late := none } ∧ (∀ j, j ≠ i.val → t.sin j = s.sin j) ∧
      SafeFramed [] s t { s.safe with inp := t.safe.inp, causes := s.safe.causes ++ [(1, i.val, bnat (!b))] } ∧ NoEvent s t := by
  have hdone : s.toDev.discTimeout i = (s.toDev.setIn i fun y => { y with late := none }).cause 1 i (bnat (!b)) := by
    unfold Dev.discTimeout
    rw [if_neg (by rw [hrun]; decide), hlate]
  refine answers_of_done (congrArg (done s) hdone) ⟨?_, fun j hj => ?_, ?_, noEvent_after rfl⟩
  · exact (sin_settle _ _).trans (sin_setIn_same s.toDev i _ (i.isLt.trans_eq hs.inp.symm))
  · exact (sin_settle _ _).trans (sin_setIn_ne _ _ _ _ hj)
  · rw [settle_safe, copyLatches_safe_inp]
    exact safeFramed_after s _

theorem ustFilter_answers (s : State) (hs : Shaped s.toDev) (i : Fin 16) (b closed : Bool) (hon : s.safe.ustOn = true) :
    Answers (.ustInputFilter i b closed) s fun t =>
      t.schan i b = { s.schan i b with ust := closed } ∧ (∀ j c, (j, c) ≠ (i.val, b) → t.schan j c = s.schan j c) ∧
      SafeFramed [] s t { s.safe with chan := t.safe.chan } ∧ NoEvent s t := by
  refine answers_of_done (congrArg (done s) (if_pos hon)) ⟨?_, fun j c hne => ?_, ?_, noEvent_after rfl⟩
  · refine (schan_settle _ _ _).trans (schan_setChan_same _ _ _ _ ?_)
    rw [hs.chan]
    cases b <;> simp [bnat] <;> omega
  · exact (schan_settle _ _ _).trans (schan_setChan_ne _ _ _ _ _ _ hne)
  · rw [settle_safe, copyLatches_safe_chan]
    exact safeFramed_after s _

/-- Settles O38: the sample, the discrepancy timer and Understory's filter. -/
theorem safetyInputs : Obligations.SafetyInputs := by
  unfold Obligations.SafetyInputs
  refine fun s hs => ⟨canopySample_answers s hs, fun a b bad hhalt => noEffect_of_done rfl (if_pos hhalt), discTimeout_answers s hs,
    fun i h => noEffect_of_done rfl ?_, ustFilter_answers s hs, fun i b closed hoff => noEffect_of_done rfl (if_neg (by rw [hoff]; decide))⟩
  unfold Dev.discTimeout
  rcases h with hhalt | hlate
  · rw [if_pos hhalt]
  · rw [hlate]
    exact ite_self _

end Sys2Proof.Machine
end

section
/-! Self-monitoring (R337, R339, R350). -/

namespace Sys2Proof.Machine

theorem romCheck_false {s : State} : (s.safe.halt = false → Answers (.romCrcCheck false) s fun t => WaitingCause s t 7 0 0) ∧
    (s.safe.halt = true → NoEffect (.romCrcCheck false) s) :=
  ⟨fun hrun => waiting_answers (congrArg (done s) (if_neg (by rw [hrun]; decide))),
    fun hhalt => noEffect_of_done rfl (if_pos (by rw [hhalt]; decide))⟩

theorem rbMismatch_answers {s : State} (k : Fin 12) (high : Bool) (hrun : s.safe.halt = false)
    (htest : s.safe.dark.elim false (fun t => t.out == k.val) = false) (hdiff : s.soOn k ≠ high) :
    Answers (.readbackMismatch k high) s fun t => WaitingCause s t (if high then 4 else 5) k 0 :=
  waiting_answers (congrArg (done s) (if_neg (by rw [hrun, htest]; simpa using hdiff)))

theorem rbMismatch_none {s : State} (k : Fin 12) (high : Bool)
    (h : s.safe.halt = true ∨ s.safe.dark.elim false (fun t => t.out == k.val) = true ∨ s.soOn k = high) :
    NoEffect (.readbackMismatch k high) s :=
  noEffect_of_done rfl (if_pos (by rcases h with h | h | h <;> rw [h] <;> simp))

theorem permitMismatch_answers {s : State} (k : Fin 12) (hrun : s.safe.halt = false) (hdiff : s.permitPredicted k ≠ s.permit k) :
    Answers (.permitMismatch k) s fun t => WaitingCause s t 13 k 0 :=
  waiting_answers (congrArg (done s) (if_neg (by rw [hrun]; simpa using hdiff)))

theorem permitMismatch_none {s : State} (k : Fin 12) (h : s.safe.halt = true ∨ s.permitPredicted k = s.permit k) :
    NoEffect (.permitMismatch k) s :=
  noEffect_of_done rfl (if_pos (by rcases h with h | h <;> rw [h] <;> simp))

/-- The frequency of Understory's heartbeat is shown, and is a cause outside its window (R339). -/
theorem ustFreq_answers {s : State} (n : Nat) (hrun : s.safe.halt = false) : Answers (.ustHeartbeatCheck n) s fun t =>
      t.fld SAFE_UST_FREQ 15 0 = min 65535 (100 * n) ∧ NoEvent s t ∧
      SafeFramed [SAFE_UST_FREQ] s t (if 7 ≤ n ∧ n ≤ 13 then s.safe
        else { s.safe with causes := s.safe.causes ++ [(12, 0, 0)] }) := by
  have hdone : s.toDev.ustFreq n = { s.toDev.setFld SAFE_UST_FREQ 15 0 (min 65535 (100 * n)) with
      safe := if 7 ≤ n ∧ n ≤ 13 then s.safe else { s.safe with causes := s.safe.causes ++ [(12, 0, 0)] } } := by
    unfold Dev.ustFreq
    rw [if_neg (by rw [hrun]; decide)]
    by_cases hwin : 7 ≤ n ∧ n ≤ 13
    · rw [if_pos hwin]
      exact if_neg (by omega)
    · rw [if_neg hwin]
      exact if_pos (by omega)
  refine answers_of_done (congrArg (done s) hdone) ⟨?_, noEvent_after rfl, ?_⟩
  · refine (settle_fld _ _ _ _ (by decide) (by decide)).trans ((fld_setFld_same _ _ _ _ _ (by decide) (by decide)).trans ?_)
    exact Nat.mod_eq_of_lt (by omega)
  · exact ((Effect.refl [SAFE_UST_FREQ] s.toDev).setFld (a := SAFE_UST_FREQ) (by simp) 15 0 _).safeFramed _

theorem hbLost_answers {s : State} (hon : s.safe.ustOn = true) (hsusp : s.safe.ustSusp = false) :
    Answers .canopyHeartbeatLost s fun t =>
      t.safe.ustLatch = true ∧ t.safe.ustAlive = false ∧ (∀ k, t.permit k = false) ∧ OneEvent s t 0x0C01 14#32 0#32 ∧
      (s.deadfall = false → t.fld SAFE_STAT 11 8 = 14 ∧ t.fld SAFE_CNT 23 16 = min 255 (s.fld SAFE_CNT 23 16 + 1)) := by
  obtain ⟨hlatch, hpermit, hevent, hfirst⟩ := ustCause_after (s := s)
    (d := { s.toDev with safe := { s.safe with ustAlive := false } }) 14 0 rfl rfl rfl
  refine answers_of_done (congrArg (done s) (if_pos (by rw [hon, hsusp]; decide))) ⟨hlatch, ?_, hpermit, hevent, fun hclear => ?_⟩
  · rw [settle_safe, copyLatches_safe_ustAlive]
    rw [ustCause_safe]
  · obtain ⟨hcause, -, hcount⟩ := hfirst hclear
    exact ⟨hcause, hcount⟩

theorem ustRb_answers {s : State} (k : Fin 12) (hon : s.safe.ustOn = true) (hperm : s.permit k = false) :
    Answers (.ustReadbackFault k) s fun t =>
      t.safe.ustLatch = true ∧ (∀ j, t.permit j = false) ∧ OneEvent s t 0x0C01 15#32 (BitVec.ofNat 32 (k * 2)) ∧
      (s.deadfall = false → t.fld SAFE_STAT 11 8 = 15 ∧ t.fld SAFE_STAT 15 12 = k) := by
  obtain ⟨hlatch, hpermit, hevent, hfirst⟩ := ustCause_after (s := s) (d := s.toDev) 15 k.val rfl rfl rfl
  refine answers_of_done (congrArg (done s) (if_pos (by rw [hon, hperm]; decide))) ⟨hlatch, hpermit, hevent, fun hclear => ?_⟩
  obtain ⟨hcause, hchan, -⟩ := hfirst hclear
  exact ⟨hcause, hchan.trans (Nat.mod_eq_of_lt (by omega))⟩

/-- Settles O39: what Canopy finds is a waiting cause, what Understory finds by itself latches. -/
theorem safetyMonitors : Obligations.SafetyMonitors := by
  unfold Obligations.SafetyMonitors
  refine fun s => ⟨rbMismatch_answers, rbMismatch_none, permitMismatch_answers, permitMismatch_none, romCheck_false.1, romCheck_false.2,
    noEffect_of_done rfl (if_pos rfl), fun n hhalt => noEffect_of_done rfl (if_pos hhalt), ustFreq_answers, hbLost_answers,
    fun h => noEffect_of_done rfl (if_neg ?_), ustRb_answers, fun k h => noEffect_of_done rfl (if_neg ?_)⟩
  · rcases h with h | h <;> rw [h] <;> simp
  · rcases h with h | h <;> rw [h] <;> simp

end Sys2Proof.Machine
end

section
/-! Canopy's scan end (R349, R351, R355): what a scan finds, the entry to Deadfall, and the decision on each output. -/

namespace Sys2Proof.Machine

/-- What decides about the outputs is as it was, and so are the latched cause and the causes that wait. -/
structure ScanKept (s d : Dev) : Prop where
  inp : d.safe.inp = s.safe.inp
  fall : d.deadfall = s.deadfall
  ann : d.safe.ustAnn = s.safe.ustAnn
  up : d.safe.up = s.safe.up
  table : d.safe.table = s.safe.table
  ustOn : d.safe.ustOn = s.safe.ustOn
  causes : d.safe.causes = s.safe.causes
  outs : d.safe.out.length = s.safe.out.length
  cfg : ∀ k, k < 12 → d.rd (SAFE_OUT_CFG k) = s.rd (SAFE_OUT_CFG k)
  stat : ∀ hi lo, 5 ≤ lo → d.fld SAFE_STAT hi lo = s.fld SAFE_STAT hi lo

theorem ScanKept.refl (s : Dev) : ScanKept s s := ⟨rfl, rfl, rfl, rfl, rfl, rfl, rfl, rfl, fun _ _ => rfl, fun _ _ _ => rfl⟩

section
variable {s d : Dev}

theorem ScanKept.trans {e : Dev} (h : ScanKept s d) (h' : ScanKept d e) : ScanKept s e :=
  ⟨h'.inp.trans h.inp, h'.fall.trans h.fall, h'.ann.trans h.ann, h'.up.trans h.up, h'.table.trans h.table, h'.ustOn.trans h.ustOn,
    h'.causes.trans h.causes, h'.outs.trans h.outs, fun k hk => (h'.cfg k hk).trans (h.cfg k hk),
    fun hi lo hlo => (h'.stat hi lo hlo).trans (h.stat hi lo hlo)⟩

/-- The state of the safety logic without its outputs, tests and times. -/
def SafeSt.decides (u : SafeSt) : SafeSt :=
  { u with out := [], dark := none, sinceDark := 0, dfAge := 0, wellAge := 0, ustAlive := false }

/-- A state of the safety logic that differs in times, tests and outputs alone. -/
theorem ScanKept.safeSt (h : ScanKept s d) (u : SafeSt) (hu : u.decides = d.safe.decides) (hout : u.out.length = d.safe.out.length) :
    ScanKept s { d with safe := u } := by
  refine h.trans ⟨(congrArg SafeSt.inp hu :), ?_, (congrArg SafeSt.ustAnn hu :), (congrArg SafeSt.up hu :), (congrArg SafeSt.table hu :),
    (congrArg SafeSt.ustOn hu :), (congrArg SafeSt.causes hu :), hout, fun _ _ => rfl, fun _ _ _ => rfl⟩
  exact (congrArg (fun x : SafeSt => x.canopyLatch || x.ustLatch) hu :)

theorem ScanKept.setOut (h : ScanKept s d) (k : Nat) (f : SafeOut → SafeOut) : ScanKept s (d.setOut k f) :=
  h.safeSt _ rfl (length_modAt _ _ _)

theorem ScanKept.wr (h : ScanKept s d) {a : Nat} (hcfg : ∀ k, k < 12 → SAFE_OUT_CFG k ≠ a) (hstat : SAFE_STAT ≠ a) (v : Word) :
    ScanKept s (d.wr a v) :=
  h.trans ⟨rfl, rfl, rfl, rfl, rfl, rfl, rfl, rfl, fun k hk => rd_wr_ne _ _ _ _ (hcfg k hk), fun _ _ _ => fld_wr_other _ _ _ _ _ _ hstat⟩

theorem ScanKept.ev (h : ScanKept s d) (c p q : Nat) : ScanKept s (d.ev c p q) :=
  h.trans ⟨rfl, rfl, rfl, rfl, rfl, rfl, rfl, rfl, fun _ _ => rfl, fun _ _ _ => rfl⟩

theorem ScanKept.raise (h : ScanKept s d) : ScanKept s (d.raise 0x50) :=
  h.wr (a := HOST_EVT_PEND (0x50 / 32)) (fun k hk => by simp only [SAFE_OUT_CFG, HOST_EVT_PEND]; omega) (by decide) _

theorem ScanKept.ite {e : Dev} (c : Prop) [Decidable c] (hd : ScanKept s d) (he : ScanKept s e) : ScanKept s (if c then d else e) := by
  split
  · exact hd
  · exact he

theorem ScanKept.offReason (h : ScanKept s d) {k : Nat} (hk : k < 12) : d.offReason k = s.offReason k := by
  have hmask : d.outMask k = s.outMask k := fld_of_rd _ _ _ _ _ (h.cfg k hk)
  have hrest : d.maskRest k = s.maskRest k := by
    unfold Dev.maskRest Dev.sin
    rw [hmask, h.inp]
  unfold Dev.offReason
  rw [hrest, h.fall, h.ann, h.up, h.table, hmask]

end

/-! The decision on one output. -/

/-- What a scan end decides of an output that was o (R349). -/
def Dev.onAfter (s : Dev) (k : Nat) (o : SafeOut) : Bool :=
  match s.offReason k with
  | some _ => false
  | none => o.on || !s.bit (SAFE_OUT_CFG k) 16 || o.started

theorem discardDark_kept {s d : Dev} (h : ScanKept s d) (k : Nat) : ScanKept s (d.discardDark k) := by
  unfold Dev.discardDark
  split
  · exact h
  · exact ScanKept.ite _ (((h.safeSt { d.safe with dark := none } rfl rfl).wr (a := SAFE_DARK_CNT)
      (fun k hk => by simp only [SAFE_OUT_CFG, SAFE_DARK_CNT]; omega) (by decide) _).ev _ _ _) h

theorem discardDark_out (s : Dev) (k : Nat) : (s.discardDark k).safe.out = s.safe.out := by
  unfold Dev.discardDark
  split
  · rfl
  · split <;> rfl

theorem scanDecide_kept {s d : Dev} (h : ScanKept s d) (k : Nat) : ScanKept s (d.scanDecide k) := by
  unfold Dev.scanDecide
  dsimp only
  split
  · have hoff := (discardDark_kept h k).setOut k fun o => { o with on := false, started := o.started && !o.on }
    exact ScanKept.ite _ (hoff.ev _ _ _).raise hoff
  · exact ScanKept.ite _ h (ScanKept.ite _ h ((h.setOut _ _).ev _ _ _).raise)

/-- The decision on an output leaves the others. -/
theorem scanDecide_out_ne (s : Dev) {j k : Nat} (h : j ≠ k) : (s.scanDecide k).sout j = s.sout j := by
  have hdark : (s.discardDark k).sout j = s.sout j := (congrArg (fun x : List SafeOut => x.getD j {}) (discardDark_out s k) :)
  unfold Dev.scanDecide
  dsimp only
  split
  · split
    · exact (sout_setOut_ne _ _ _ _ h).trans hdark
    · exact (sout_setOut_ne _ _ _ _ h).trans hdark
  · split
    · rfl
    · split
      · rfl
      · exact sout_setOut_ne _ _ _ _ h

theorem scanDecide_on (s : Dev) {k : Nat} (h : k < s.safe.out.length) : ((s.scanDecide k).sout k).on = s.onAfter k (s.sout k) := by
  unfold Dev.scanDecide Dev.onAfter
  cases s.offReason k with
  | some r =>
    have hoff : (((s.discardDark k).setOut k fun o => { o with on := false, started := o.started && !o.on }).sout k).on = false := by
      rw [sout_setOut_same _ _ _ (by rw [discardDark_out]; exact h)]
    dsimp only
    split
    · exact hoff
    · exact hoff
  | none =>
    dsimp only
    have hset := sout_setOut_same s k (fun o => { o with on := true, age := some (o.age.getD 0) }) h
    cases hon : (s.sout k).on with
    | true => exact hon
    | false =>
      cases hst : s.bit (SAFE_OUT_CFG k) 16 with
      | false => exact (congrArg SafeOut.on hset :)
      | true =>
        cases hstarted : (s.sout k).started with
        | true => exact (congrArg SafeOut.on hset :)
        | false => exact hon

/-! The twelve outputs. -/

theorem decideAll_spec (s : Dev) (h : s.safe.out.length = 12) :
    ScanKept s (s.each (List.range 12) Dev.scanDecide) ∧
    ∀ k, k < 12 → ((s.each (List.range 12) Dev.scanDecide).sout k).on = s.onAfter k (s.sout k) := by
  have hrec := each_range_rec (m := 12) (s := s) (f := Dev.scanDecide)
    (P := fun n d => ScanKept s d ∧ ∀ k, k < 12 → (n ≤ k → d.sout k = s.sout k) ∧ (k < n → (d.sout k).on = s.onAfter k (s.sout k)))
    ⟨ScanKept.refl s, fun k _ => ⟨fun _ => rfl, fun hk => absurd hk (Nat.not_lt_zero k)⟩⟩ fun n d hn ⟨hkept, houts⟩ => ?_
  · exact ⟨hrec.1, fun k hk => (hrec.2 k hk).2 hk⟩
  refine ⟨scanDecide_kept hkept n, fun k hk => ?_⟩
  obtain ⟨hbefore, hafter⟩ := houts k hk
  by_cases hkn : k = n
  · subst hkn
    refine ⟨fun hle => absurd hle (by omega), fun _ => ?_⟩
    rw [scanDecide_on d (by rw [hkept.outs, h]; exact hk), hbefore (Nat.le_refl k)]
    unfold Dev.onAfter
    rw [hkept.offReason hk, bit_of_rd _ _ _ _ (hkept.cfg k hk)]
  · rw [scanDecide_out_ne d hkn]
    exact ⟨fun hle => hbefore (by omega), fun hlt => hafter (by omega)⟩

end Sys2Proof.Machine
end

section
/-! Canopy's scan end as a whole, and the dark tests (R349, R351, R355). -/

namespace Sys2Proof.Machine

/-! The stages of a scan end. -/

/-- What a scan counts and finds. -/
def Dev.scanFound (s : Dev) (i : ScanIn) : Dev :=
  let s := (s.scanTimes.cntSat SAFE_CNT 31 24 i.memCorr).showResetLow i.resetLow
  let s := if i.flowOk then s else s.cause 8 0 0
  let s := if i.memOk then s else s.cause 9 0 0
  if i.parityOk then s else { s with safe.ustParity := false }.cause 10 0 0

/-- What follows the decisions. -/
def Dev.scanClose (s : Dev) (i : ScanIn) : Dev :=
  let s := s.darkStart
  let s := if s.safe.ustOn then { s with safe.ustAlive := true } else s
  let s := s.copyLatches
  s.wrN SAFE_OUT_RB (i.rb.toNat + 4096 * outMaskOf s.startWait)

theorem scanEnd_eq {s : Dev} (i : ScanIn) (h : s.safe.halt = false) :
    s.scanEnd i = ((s.scanFound i).enterDeadfall.each (List.range 12) Dev.scanDecide).scanClose i :=
  if_neg (by rw [h]; decide)

theorem scanTimes_kept (s : Dev) : ScanKept s s.scanTimes :=
  (ScanKept.refl s).safeSt _ rfl (List.length_map _)

theorem showResetLow_kept {s d : Dev} (h : ScanKept s d) (low : Option Bool) : ScanKept s (d.showResetLow low) := by
  unfold Dev.showResetLow
  split
  · exact h
  · exact h.trans ⟨rfl, rfl, rfl, rfl, rfl, rfl, rfl, rfl,
      fun k hk => rd_setBit_ne _ _ _ _ _ (by simp only [SAFE_OUT_CFG, SAFE_STAT]; omega),
      fun _ _ hlo => fld_setBit_ne _ _ _ _ _ _ (by decide) (by omega)⟩

theorem showResetLow_safe (s : Dev) (low : Option Bool) : (s.showResetLow low).safe = s.safe := by
  unfold Dev.showResetLow
  split <;> rfl

/-- The counts of a scan, before its findings. -/
theorem scanCounts_kept (s : Dev) (i : ScanIn) :
    ScanKept s ((s.scanTimes.cntSat SAFE_CNT 31 24 i.memCorr).showResetLow i.resetLow) :=
  showResetLow_kept ((scanTimes_kept s).wr (a := SAFE_CNT) (fun k hk => by simp only [SAFE_OUT_CFG, SAFE_CNT]; omega) (by decide) _) _

theorem scanFound_nothing {s : Dev} {i : ScanIn} (hflow : i.flowOk = true) (hmem : i.memOk = true) (hparity : i.parityOk = true) :
    s.scanFound i = (s.scanTimes.cntSat SAFE_CNT 31 24 i.memCorr).showResetLow i.resetLow := by
  unfold Dev.scanFound
  simp only [hflow, hmem, hparity, if_true]

theorem scanFound_out (s : Dev) (i : ScanIn) : (s.scanFound i).safe.out = s.scanTimes.safe.out := by
  have hcounts : ((s.scanTimes.cntSat SAFE_CNT 31 24 i.memCorr).showResetLow i.resetLow).safe.out = s.scanTimes.safe.out :=
    congrArg SafeSt.out (showResetLow_safe _ _)
  rw [← hcounts]
  unfold Dev.scanFound
  dsimp only
  generalize (s.scanTimes.cntSat SAFE_CNT 31 24 i.memCorr).showResetLow i.resetLow = d
  split <;> split <;> split <;> rfl

/-- A failed check leaves a cause (R337). -/
theorem scanFound_causes {s : Dev} {i : ScanIn} (h : i.flowOk = false ∨ i.memOk = false ∨ i.parityOk = false) :
    (s.scanFound i).safe.causes ≠ [] := by
  unfold Dev.scanFound
  dsimp only
  generalize (s.scanTimes.cntSat SAFE_CNT 31 24 i.memCorr).showResetLow i.resetLow = d
  rcases h with h | h | h <;> rw [h] <;> (repeat' split) <;> simp_all [Dev.cause]

/-- An output one scan end later (R351). -/
def SafeOut.aged (o : SafeOut) : SafeOut := { o with age := o.age.map (· + 1) }

theorem scanTimes_sout (s : Dev) (k : Nat) : s.scanTimes.sout k = (s.sout k).aged :=
  List.getD_map (n := k) (d := ({} : SafeOut)) (l := s.safe.out) SafeOut.aged

/-! The entry to Deadfall. -/

theorem causeEvents_safe (s : Dev) (cs : List (Nat × Nat × Nat)) : (s.causeEvents cs).safe = s.safe := by
  dsimp only [Dev.causeEvents]
  rw [each_keeps Dev.safe _ (by exact fun _ _ => rfl)]

theorem causeEvents_fld (s : Dev) (cs : List (Nat × Nat × Nat)) (a hi lo : Nat) : (s.causeEvents cs).fld a hi lo = s.fld a hi lo := by
  dsimp only [Dev.causeEvents]
  rw [each_keeps (fun d => d.fld a hi lo) _ (by exact fun _ _ => rfl)]

theorem lowestCause_nil {cs : List (Nat × Nat × Nat)} (h : lowestCause cs = none) : cs = [] := by
  cases cs with
  | nil => rfl
  | cons c cs =>
    unfold lowestCause at h
    cases hrest : lowestCause cs with
    | none => simp [hrest] at h
    | some d =>
      rw [hrest] at h
      dsimp only at h
      split at h <;> exact absurd h (by simp)

/-- Deadfall with no cause left to wait, as an entry leaves it. -/
def Fallen (d : Dev) : Prop := d.safe.causes = [] ∧ d.deadfall = true

theorem enterDeadfall_eq {s : Dev} {c : Nat × Nat × Nat} (h : lowestCause s.safe.causes = some c) : s.enterDeadfall =
    Dev.causeEvents { s.firstCause c.1 c.2.1 c.2.2 with safe := { (s.firstCause c.1 c.2.1 c.2.2).safe with
      causes := [], canopyLatch := true, ustLatch := (s.firstCause c.1 c.2.1 c.2.2).safe.ustLatch ||
        (s.firstCause c.1 c.2.1 c.2.2).safe.ustOn } } s.safe.causes := by
  unfold Dev.enterDeadfall
  rw [h]
  rfl

theorem enterDeadfall_nothing {s : Dev} (h : s.safe.causes = []) : s.enterDeadfall = s := by
  unfold Dev.enterDeadfall
  rw [h]
  rfl

theorem enterDeadfall_some {s : Dev} {c : Nat × Nat × Nat} (h : lowestCause s.safe.causes = some c) :
    Fallen s.enterDeadfall ∧ s.enterDeadfall.safe.out = s.safe.out ∧
    (s.deadfall = false → s.enterDeadfall.fld SAFE_STAT 11 8 = c.1 % 16 ∧ s.enterDeadfall.fld SAFE_STAT 15 12 = c.2.1 % 16) := by
  have hfirst := firstCause_safe s c.1 c.2.1 c.2.2
  have hentry := firstCause_entry (s := s) c.1 c.2.1 c.2.2
  rw [enterDeadfall_eq h]
  generalize s.firstCause c.1 c.2.1 c.2.2 = d at hfirst hentry ⊢
  unfold Fallen Dev.deadfall
  rw [causeEvents_safe, causeEvents_fld, causeEvents_fld]
  refine ⟨⟨rfl, rfl⟩, (congrArg SafeSt.out hfirst :), fun hclear => ?_⟩
  rw [show ∀ u : SafeSt, ∀ hi lo, Dev.fld { d with safe := u } SAFE_STAT hi lo = d.fld SAFE_STAT hi lo from fun _ _ _ => rfl,
    show ∀ u : SafeSt, ∀ hi lo, Dev.fld { d with safe := u } SAFE_STAT hi lo = d.fld SAFE_STAT hi lo from fun _ _ _ => rfl,
    hentry hclear]
  obtain ⟨hcause, hchan, -⟩ := latchCause_fields s c.1 c.2.1 c.2.2
  exact ⟨hcause, hchan⟩

/-- In Deadfall no output is decided on (R349). -/
theorem onAfter_fallen {s : Dev} (h : s.deadfall = true) (k : Nat) (o : SafeOut) : s.onAfter k o = false := by
  have hoff : (s.offReason k).isSome = true := by
    unfold Dev.offReason
    rw [h]
    split <;> rfl
  unfold Dev.onAfter
  cases hr : s.offReason k with
  | some r => rfl
  | none => exact absurd (hr ▸ hoff) (by decide)

/-! What follows the decisions keeps them. -/

theorem sout_on_setOut (s : Dev) (j k : Nat) (f : SafeOut → SafeOut) (hf : ∀ o, (f o).on = o.on) :
    ((s.setOut k f).sout j).on = (s.sout j).on :=
  getD_modAt_keeps SafeOut.on _ _ _ _ _ hf

theorem darkStart_kept {s d : Dev} (h : ScanKept s d) : ScanKept s d.darkStart ∧ ∀ k, (d.darkStart.sout k).on = (d.sout k).on := by
  have hcount := h.safeSt { d.safe with sinceDark := min 40 (d.safe.sinceDark + 1) } rfl rfl
  unfold Dev.darkStart
  dsimp only
  split
  · exact ⟨hcount, fun _ => rfl⟩
  · split
    · exact ⟨hcount, fun _ => rfl⟩
    · exact ⟨(hcount.setOut _ _).safeSt _ rfl rfl, fun k => sout_on_setOut _ _ _ _ fun _ => rfl⟩

theorem copyLatches_kept {s d : Dev} (h : ScanKept s d) : ScanKept s d.copyLatches := by
  refine h.trans ⟨?_, copyLatches_deadfall d, ?_, ?_, ?_, ?_, ?_, ?_, fun k _ => copyLatches_rd d _, fun hi lo _ =>
    fld_of_rd _ _ _ _ _ (copyLatches_rd d _)⟩
  all_goals simp

/-- Understory sees Canopy's heartbeat from the first scan end on (R339). -/
def Dev.scanAlive (s : Dev) : Dev := if s.safe.ustOn then { s with safe.ustAlive := true } else s

theorem scanAlive_kept {s d : Dev} (h : ScanKept s d) : ScanKept s d.scanAlive :=
  ScanKept.ite _ (h.safeSt _ rfl rfl) h

theorem scanAlive_out (s : Dev) : s.scanAlive.safe.out = s.safe.out := by
  unfold Dev.scanAlive
  split <;> rfl

theorem scanClose_eq (s : Dev) (i : ScanIn) : s.scanClose i = s.darkStart.scanAlive.copyLatches.wrN SAFE_OUT_RB
    (i.rb.toNat + 4096 * outMaskOf s.darkStart.scanAlive.copyLatches.startWait) := rfl

theorem scanClose_kept {s d : Dev} (h : ScanKept s d) (i : ScanIn) :
    ScanKept s (d.scanClose i) ∧ (∀ k, ((d.scanClose i).sout k).on = (d.sout k).on) ∧
    (d.safe.ustOn = true → (d.scanClose i).safe.ustAlive = true) := by
  obtain ⟨hkept, hon⟩ := darkStart_kept h
  have hustOn : d.darkStart.safe.ustOn = d.safe.ustOn := (darkStart_kept (ScanKept.refl d)).1.ustOn
  have hwr : ∀ (e : Dev) a v, (e.wrN a v).safe = e.safe := fun _ _ _ => rfl
  rw [scanClose_eq]
  refine ⟨(copyLatches_kept (scanAlive_kept hkept)).wr (a := SAFE_OUT_RB) (fun k hk => by simp only [SAFE_OUT_CFG, SAFE_OUT_RB]; omega)
    (by decide) _, fun k => ?_, fun hup => ?_⟩
  · rw [← hon]
    unfold Dev.sout
    rw [hwr, copyLatches_safe_out, scanAlive_out]
  · rw [hwr, copyLatches_safe_ustAlive]
    unfold Dev.scanAlive
    rw [if_pos (hustOn.trans hup)]

/-! Canopy's scan end. -/

theorem scanCommand_ok {s : Dev} {i : ScanIn} (hrun : s.safe.halt = false) (h : i.parityOk = true) :
    s.scanCommand i = ((s.scanFound i).enterDeadfall.each (List.range 12) Dev.scanDecide).scanClose i := by
  unfold Dev.scanCommand
  rw [if_pos (by rw [h, Bool.or_true]), scanEnd_eq i hrun]

theorem rstSource_safe (s : Dev) (bits src kind bo : Nat) : (s.rstSource bits src kind bo).safe = s.safe := by
  unfold Dev.rstSource
  dsimp only
  split <;> rfl

theorem criticalError_safe (s : Dev) (src addr : Nat) : (s.criticalError src addr).safe = s.safe := by
  unfold Dev.criticalError
  rw [rstSource_safe, wrN_safe]

theorem scanCommand_safe {s : Dev} (i : ScanIn) (hrun : s.safe.halt = false) :
    (s.scanCommand i).safe = (((s.scanFound i).enterDeadfall.each (List.range 12) Dev.scanDecide).scanClose i).safe := by
  unfold Dev.scanCommand
  rw [scanEnd_eq i hrun]
  dsimp only
  split
  · rfl
  · exact criticalError_safe _ _ _

/-- A scan that enters or stays in Deadfall opens every output (R355). -/
theorem scan_fallen {s : Dev} (hs : s.safe.out.length = 12) {i : ScanIn} {c : Nat × Nat × Nat}
    (hcause : lowestCause (s.scanFound i).safe.causes = some c) :
    Fallen (((s.scanFound i).enterDeadfall.each (List.range 12) Dev.scanDecide).scanClose i) ∧
    (∀ k, k < 12 → ((((s.scanFound i).enterDeadfall.each (List.range 12) Dev.scanDecide).scanClose i).sout k).on = false) ∧
    ((s.scanFound i).deadfall = false →
      (((s.scanFound i).enterDeadfall.each (List.range 12) Dev.scanDecide).scanClose i).fld SAFE_STAT 11 8 = c.1 % 16 ∧
      (((s.scanFound i).enterDeadfall.each (List.range 12) Dev.scanDecide).scanClose i).fld SAFE_STAT 15 12 = c.2.1 % 16) := by
  obtain ⟨⟨hnone, hfall⟩, hout, hfirst⟩ := enterDeadfall_some hcause
  have hlen : (s.scanFound i).enterDeadfall.safe.out.length = 12 := by
    rw [hout, scanFound_out, (scanTimes_kept s).outs, hs]
  obtain ⟨hdecided, hon⟩ := decideAll_spec (s.scanFound i).enterDeadfall hlen
  obtain ⟨hclosed, hclosedOn, -⟩ := scanClose_kept hdecided i
  refine ⟨⟨hclosed.causes.trans hnone, hclosed.fall.trans hfall⟩, fun k hk => ?_, fun hclear => ?_⟩
  · rw [hclosedOn, hon k hk]
    exact onAfter_fallen hfall _ _
  · rw [hclosed.stat _ _ (by decide), hclosed.stat _ _ (by decide)]
    exact hfirst hclear

/-- A scan that finds nothing decides each output by its conditions (R349). -/
theorem scan_nothing {s : State} (hs : Shaped s.toDev) {i : ScanIn} (hrun : s.safe.halt = false) (hflow : i.flowOk = true)
    (hmem : i.memOk = true) (hparity : i.parityOk = true) (hnone : s.safe.causes = []) :
    Answers (.canopyScanEnd i) s fun t => t.safe.causes = [] ∧ (s.safe.ustOn = true → t.safe.ustAlive = true) ∧
        ∀ k : Fin 12, (t.sout k).on = (match s.offReason k with
          | some _ => false
          | none => (s.sout k).on || !s.bit (SAFE_OUT_CFG k) 16 || (s.sout k).started) := by
  have hcounts := scanCounts_kept s.toDev i
  have hfound := scanFound_nothing (s := s.toDev) hflow hmem hparity
  have hout : (s.scanFound i).safe.out = s.scanTimes.safe.out := scanFound_out s.toDev i
  rw [← hfound] at hcounts
  have henter := enterDeadfall_nothing (hcounts.causes.trans hnone)
  obtain ⟨hdecided, hon⟩ := decideAll_spec (s.scanFound i) (hcounts.outs.trans hs.out)
  obtain ⟨hclosed, hclosedOn, halive⟩ := scanClose_kept hdecided i
  refine answers_of_done (congrArg (done s) ((scanCommand_ok hrun hparity).trans (by rw [henter]))) ⟨?_, fun hup => ?_, fun k => ?_⟩
  · rw [settle_safe, copyLatches_safe_causes, hclosed.causes]
    exact hcounts.causes.trans hnone
  · rw [settle_safe, copyLatches_safe_ustAlive]
    exact halive (hdecided.ustOn.trans (hcounts.ustOn.trans hup))
  · have hsout : (s.scanFound i).sout k = (s.sout k).aged := by
      rw [← scanTimes_sout]
      exact (congrArg (fun x : List SafeOut => x.getD k {}) hout :)
    rw [sout_settle, hclosedOn, hon k k.isLt, hsout]
    unfold Dev.onAfter
    rw [hcounts.offReason k.isLt, bit_of_rd _ _ _ _ (hcounts.cfg k k.isLt)]
    rfl

theorem scan_cause {s : State} (hs : Shaped s.toDev) {i : ScanIn} (hrun : s.safe.halt = false) (hflow : i.flowOk = true)
    (hmem : i.memOk = true) (hparity : i.parityOk = true) (c : Nat × Nat × Nat) (hcause : lowestCause s.safe.causes = some c) :
    Answers (.canopyScanEnd i) s fun t => t.safe.causes = [] ∧
        t.deadfall = true ∧ (∀ k : Fin 12, (t.sout k).on = false) ∧
        (s.deadfall = false → t.fld SAFE_STAT 11 8 = c.1 % 16 ∧ t.fld SAFE_STAT 15 12 = c.2.1 % 16) := by
  have hcounts := scanCounts_kept s.toDev i
  rw [← scanFound_nothing (s := s.toDev) hflow hmem hparity] at hcounts
  obtain ⟨⟨hnone, hfall⟩, hoff, hfirst⟩ := scan_fallen (s := s.toDev) hs.out (i := i) (c := c) (by rw [hcounts.causes]; exact hcause)
  refine answers_of_done (congrArg (done s) (scanCommand_ok hrun hparity)) ⟨?_, ?_, fun k => ?_, fun hclear => ?_⟩
  · rw [settle_safe, copyLatches_safe_causes]
    exact hnone
  · rw [settle_deadfall]
    exact hfall
  · rw [sout_settle]
    exact hoff k k.isLt
  · rw [settle_fld_stat _ _ _ (by decide), settle_fld_stat _ _ _ (by decide)]
    exact hfirst (hcounts.fall.trans hclear)

theorem scan_failed {s : State} (hs : Shaped s.toDev) {i : ScanIn} (hrun : s.safe.halt = false)
    (h : i.flowOk = false ∨ i.memOk = false ∨ i.parityOk = false) : Answers (.canopyScanEnd i) s fun t =>
      t.safe.causes = [] ∧ t.deadfall = true ∧ ∀ k : Fin 12, (t.sout k).on = false := by
  obtain ⟨c, hc⟩ := Option.ne_none_iff_exists'.mp fun hnone => scanFound_causes (s := s.toDev) h (lowestCause_nil hnone)
  obtain ⟨⟨hnone, hfall⟩, hoff, -⟩ := scan_fallen (s := s.toDev) hs.out hc
  have hsafe := scanCommand_safe (s := s.toDev) i hrun
  refine answers_of_done rfl ⟨?_, ?_, fun k => ?_⟩
  · rw [settle_safe, copyLatches_safe_causes, hsafe]
    exact hnone
  · rw [settle_deadfall, deadfall_of_safe _ _ hsafe]
    exact hfall
  · rw [sout_settle]
    exact (congrArg (fun x : SafeSt => (x.out.getD k {}).on) hsafe :).trans (hoff k k.isLt)

/-! The dark tests (R351). -/

theorem darkDue_answers {s : State} (hs : Shaped s.toDev) (k : Fin 12) (hon : (s.sout k).on = true) (hmask : s.outMask k ≠ 0)
    (hage : (s.sout k).age.any (fun n => decide (s.darkGap k ≤ n)) = true) : Answers (.darkTestDue k) s fun t =>
      t.sout k = { s.sout k with due := true } ∧ SafeFramed [] s t { s.safe with out := t.safe.out } ∧ NoEvent s t := by
  have hdone : s.toDev.darkDue k = s.toDev.setOut k fun o => { o with due := true } :=
    if_pos (by rw [hon, hage]; simpa using hmask)
  refine answers_of_done (congrArg (done s) hdone) ⟨?_, ?_, noEvent_after rfl⟩
  · exact (sout_settle _ _).trans (sout_setOut_same s.toDev k _ (k.isLt.trans_eq hs.out.symm))
  · rw [settle_safe, copyLatches_safe_out]
    exact safeFramed_after s _

theorem darkDue_none {s : State} (k : Fin 12) (h : (s.sout k).on = false ∨ s.outMask k = 0 ∨
    (s.sout k).age.any (fun n => decide (s.darkGap k ≤ n)) = false) : NoEffect (.darkTestDue k) s :=
  noEffect_of_done rfl (if_neg (by rcases h with h | h | h <;> simp only [h] <;> simp))

theorem darkCheck_waits {s : State} {x : DarkTest} (hx : s.safe.dark = some x)
    (h : s.safe.halt = true ∨ x.smp < s.darkSamples x.out) (b : Bool) : NoEffect (.darkTestCheck b) s := by
  refine noEffect_of_done rfl ?_
  unfold Dev.darkCheck
  rw [hx]
  exact if_pos h

section
variable {s : State} {x : DarkTest} (hx : s.safe.dark = some x) (hrun : s.safe.halt = false) (hdue : s.darkSamples x.out ≤ x.smp)
include hx hrun hdue

/-- The check of a test that passes, and of one that fails (R351). -/
theorem darkCheck_passed : s.toDev.darkCheck false = (Dev.setOut { s.toDev with safe := { s.safe with dark := none } } x.out
    fun o => { o with fails := 0, ustNext := !o.ustNext }).cntWrap SAFE_DARK_CNT 15 0 1 := by
  unfold Dev.darkCheck
  rw [hx]
  dsimp only
  rw [if_neg (by rw [hrun]; simpa using hdue)]
  rfl

theorem darkCheck_failed : s.toDev.darkCheck true = if 1 ≤ (s.sout x.out).fails then
    (((((Dev.setOut { s.toDev with safe := { s.safe with dark := none } } x.out
      fun o => { o with fails := (s.sout x.out).fails + 1, age := some 0, retry := true }).ev 0x0C08 x.out (bnat x.ust)).setOut x.out
        fun o => { o with fails := 0, retry := false }).cause 6 x.out 0))
    else (Dev.setOut { s.toDev with safe := { s.safe with dark := none } } x.out
      fun o => { o with fails := (s.sout x.out).fails + 1, age := some 0, retry := true }).ev 0x0C08 x.out (bnat x.ust) := by
  unfold Dev.darkCheck
  rw [hx]
  dsimp only
  rw [if_neg (by rw [hrun]; simpa using hdue), if_pos rfl]
  exact if_congr (Nat.succ_le_succ_iff) rfl rfl

theorem darkCheck_passed_answers (hs : Shaped s.toDev) (hout : x.out < 12) : Answers (.darkTestCheck false) s fun t =>
        t.safe.dark = none ∧
        t.sout x.out = { s.sout x.out with fails := 0, ustNext := !(s.sout x.out).ustNext } ∧ NoEvent s t ∧
        t.fld SAFE_DARK_CNT 15 0 = (s.fld SAFE_DARK_CNT 15 0 + 1) % 65536 ∧
        SafeFramed [SAFE_DARK_CNT] s t { s.safe with out := t.safe.out, dark := none } := by
  refine answers_of_done (congrArg (done s) (darkCheck_passed hx hrun hdue)) ⟨?_, ?_, noEvent_after rfl, ?_, ?_⟩
  · rw [settle_safe, copyLatches_safe_dark]
    rfl
  · rw [sout_settle]
    exact sout_setOut_same { s.toDev with safe := { s.safe with dark := none } } x.out _ (hs.out ▸ hout)
  · refine (settle_fld _ _ _ _ (by decide) (by decide)).trans ((fld_cntWrap_same _ _ _ _ _ (by decide) (by decide)).trans ?_)
    rfl
  · rw [settle_safe, copyLatches_safe_out]
    exact ((Effect.refl [SAFE_DARK_CNT] s.toDev).cntWrap (a := SAFE_DARK_CNT) (by simp) 15 0 1).safeFramed
      { s.safe with out := modAt s.safe.out x.out fun o => { o with fails := 0, ustNext := !o.ustNext }, dark := none }

theorem darkCheck_failed_answers : Answers (.darkTestCheck true) s fun t => t.safe.dark = none ∧
        OneEvent s t 0x0C08 (BitVec.ofNat 32 x.out) (BitVec.ofNat 32 (bnat x.ust)) ∧
        t.safe.causes = s.safe.causes ++ (if 1 ≤ (s.sout x.out).fails then [(6, x.out, 0)] else []) := by
  have hdone := darkCheck_failed hx hrun hdue
  refine answers_of_done rfl ⟨?_, ?_, ?_⟩
  · rw [settle_safe, copyLatches_safe_dark, hdone]
    split <;> rfl
  · rw [hdone]
    split
    · exact oneEvent_ev (d := s.toDev) rfl rfl
    · exact oneEvent_ev (d := s.toDev) rfl rfl
  · rw [settle_safe, copyLatches_safe_causes, hdone]
    split
    · rfl
    · exact (List.append_nil _).symm

end

theorem selfClose_answers {s : State} {x : DarkTest} (hx : s.safe.dark = some x) : Answers .ustDarkSelfClose s fun t =>
        SafeFramed [] s t { s.safe with dark := some { x with selfClosed := x.ust || x.selfClosed } } ∧ NoEvent s t := by
  have hdone : s.toDev.selfClose =
      { s.toDev with safe := { s.safe with dark := some { x with selfClosed := x.ust || x.selfClosed } } } := by
    unfold Dev.selfClose
    rw [hx]
    obtain ⟨out, ust, selfClosed, smp⟩ := x
    cases ust <;> rfl
  exact answers_of_done (congrArg (done s) hdone) ⟨safeFramed_after s _, noEvent_after rfl⟩

/-- Settles O40: the scan end by what it finds, then the dark tests. -/
theorem safetyDecisions : Obligations.SafetyDecisions := by
  unfold Obligations.SafetyDecisions
  refine fun s hs => ⟨fun i hrun hflow hmem hparity => ⟨scan_nothing hs hrun hflow hmem hparity, scan_cause hs hrun hflow hmem hparity⟩,
    fun i hrun h => scan_failed hs hrun h, fun i hhalt => noEffect_of_done rfl ?_, darkDue_answers hs, darkDue_none,
    fun x hx h => darkCheck_waits hx h, fun x hx hout hrun hdue => ⟨darkCheck_passed_answers hx hrun hdue hs hout,
      darkCheck_failed_answers hx hrun hdue, selfClose_answers hx⟩, fun hnone => ⟨fun b => noEffect_of_done rfl ?_,
      noEffect_of_done rfl ?_⟩⟩
  · unfold Dev.scanCommand Dev.scanEnd
    rw [hhalt]
    rfl
  · unfold Dev.darkCheck
    rw [hnone]
  · unfold Dev.selfClose
    rw [hnone]
    exact (congrArg (fun d => { s.toDev with safe := { s.safe with dark := d } }) hnone).symm

end Sys2Proof.Machine
end

section
/-! SAFE_RESET_N, Canopy's start-up and Understory's supply (R356 to R359, R458). -/

namespace Sys2Proof.Machine

/-! SAFE_STAT always follows the safety logic, and stands in no frame. -/

theorem settle_bit_stat (d : Dev) {i : Nat} (h : 4 ≤ i) : d.settle.bit SAFE_STAT i = d.bit SAFE_STAT i := by
  unfold Dev.settle
  dsimp only
  rw [bit_setBit_ne _ _ _ _ _ (by omega) (by omega), bit_setBit_ne _ _ _ _ _ (by omega) (by omega),
    bit_setBit_ne _ _ _ _ _ (by omega) (by omega), bit_setBit_ne _ _ _ _ _ (by omega) (by omega)]
  exact bit_of_rd _ _ _ _ (by rw [rd_wrN_ne _ _ _ _ (by decide), copyLatches_rd])

theorem framed_dropStat {l : List Nat} {s t : State} {b : Dev} (h : Framed (SAFE_STAT :: l) s t b) : Framed l s t b := by
  obtain ⟨hregs, hrest⟩ := h
  exact ⟨fun a ha hout hstat => hregs a (by simp [ha, hstat]) hout hstat, hrest⟩

/-! The pulse. -/

section
variable {s : State} {ms rc : Nat} {rb : BitVec 12} {mem flow : Bool}

theorem safeReset_early (hrun : s.safe.halt = false) (hfall : s.deadfall = true) (hage : s.safe.dfAge < 4 * ms) :
    Answers (.safeResetPulse ms rc rb mem flow) s fun t => t.bit SAFE_STAT 4 = false ∧ OnlyRegs [] s t ∧ NoEvent s t := by
  have hdone : s.toDev.safeReset ms rc rb (mem && flow) = s.toDev.setBit SAFE_STAT 4 false := by
    unfold Dev.safeReset
    rw [if_neg (by rw [hrun]; decide), if_pos (by rw [hfall]; simpa using hage)]
  refine answers_of_done (congrArg (done s) hdone) ⟨?_, ?_, noEvent_after rfl⟩
  · exact (settle_bit_stat _ (by decide)).trans (bit_setBit_same _ _ _ _ (by decide))
  · exact framed_dropStat ((Effect.refl [SAFE_STAT] s.toDev).setBit (a := SAFE_STAT) (by simp) 4 false).framed

/-- The pulse as SAFE_RST_LAST shows it (R362). -/
def Dev.pulseShown (s : Dev) (ms r : Nat) : Dev := (s.setBit SAFE_STAT 4 false).wrN SAFE_RST_LAST (min 4095 ms + 4096 * r)

/-- What the result of a pulse leads to (R357). -/
def Dev.pulseActs (s : Dev) (ms r : Nat) : Dev :=
  if r = 6 then s
  else if r = 1 then
    (((Dev.setFld { s with safe.canopyLatch := false, safe.ustLatch := false, safe.ustParity := true } SAFE_STAT 16 8 0)).ev
      0x0C02 0 ms).raise 0x50
  else s.ev 0x0C03 r ms

theorem safeReset_judged {s : Dev} {ok : Bool} (hrun : s.safe.halt = false) (h : s.deadfall = false ∨ 4 * ms ≤ s.safe.dfAge) :
    s.safeReset ms rc rb ok = (s.pulseShown ms (s.pulseResult ms rc rb ok)).pulseActs ms (s.pulseResult ms rc rb ok) := by
  unfold Dev.safeReset
  rw [if_neg (by rw [hrun]; decide), if_neg (by rcases h with h | h <;> simp [h])]
  rfl

theorem pulseActs_stat (d : Dev) (ms r : Nat) : (d.pulseActs ms r).bit SAFE_STAT 4 = d.bit SAFE_STAT 4 := by
  unfold Dev.pulseActs
  split
  · rfl
  · split
    · exact (bit_raise_other _ _ _ _ (by decide)).trans (bit_setFld_ne _ _ _ _ _ _ (by decide) (by decide) (by decide))
    · rfl

theorem pulseActs_last (d : Dev) (ms r : Nat) : (d.pulseActs ms r).rd SAFE_RST_LAST = d.rd SAFE_RST_LAST := by
  unfold Dev.pulseActs
  split
  · rfl
  · split
    · exact (rd_raise_ne _ _ _ (by decide)).trans (rd_setFld_ne _ _ _ _ _ _ (by decide))
    · rfl

theorem safeReset_judged_answers (hrun : s.safe.halt = false) (h : s.deadfall = false ∨ 4 * ms ≤ s.safe.dfAge) :
    Answers (.safeResetPulse ms rc rb mem flow) s fun t => t.bit SAFE_STAT 4 = false ∧
      t.rd SAFE_RST_LAST = BitVec.ofNat 32 (min 4095 ms + 4096 * s.pulseResult ms rc rb (mem && flow)) ∧
      (s.pulseResult ms rc rb (mem && flow) ≠ 1 → OnlyRegs [SAFE_RST_LAST] s t) ∧
      (s.pulseResult ms rc rb (mem && flow) = 6 → NoEvent s t) ∧
      (s.pulseResult ms rc rb (mem && flow) ≠ 1 → s.pulseResult ms rc rb (mem && flow) ≠ 6 →
        OneEvent s t 0x0C03 (BitVec.ofNat 32 (s.pulseResult ms rc rb (mem && flow))) (BitVec.ofNat 32 ms)) := by
  refine answers_of_done (congrArg (done s) (safeReset_judged hrun h)) ?_
  generalize s.pulseResult ms rc rb (mem && flow) = r
  have hshown : Effect [SAFE_STAT, SAFE_RST_LAST] s.toDev (s.pulseShown ms r) (blocks s.toDev) :=
    ((Effect.refl _ s.toDev).setBit (a := SAFE_STAT) (by simp) _ _).wrN (a := SAFE_RST_LAST) (by simp) _
  refine ⟨?_, ?_, fun hr => ?_, fun hr => ?_, fun h1 h6 => ?_⟩
  · rw [settle_bit_stat _ (by decide), pulseActs_stat]
    exact (bit_wrN_other _ _ _ _ _ (by decide)).trans (bit_setBit_same _ _ _ _ (by decide))
  · rw [settle_rd _ _ (by decide) (by decide), pulseActs_last]
    exact rd_wr_same _ _ _
  · exact framed_dropStat <| Effect.framed <|
      Effect.ite _ (fun _ => hshown) fun _ => Effect.ite _ (fun h1 => absurd h1 hr) fun _ => hshown.ev _ _ _
  · unfold Dev.pulseActs
    rw [if_pos hr]
    exact noEvent_after rfl
  · unfold Dev.pulseActs
    rw [if_neg h6, if_neg h1]
    exact oneEvent_ev (d := s.pulseShown ms r) rfl rfl

theorem pulseResult_passed {rc : Nat} (hfall : s.deadfall = true) (hlo : 200 ≤ ms) (hhi : ms ≤ 3000) (hrcLo : 150000 ≤ rc)
    (hrcHi : rc ≤ 3750000) (hwell : s.inputsWell = true) (hage : 4 * ms ≤ s.safe.wellAge) (hnone : s.safe.causes = [])
    (hfreqLo : 700 ≤ s.fld SAFE_UST_FREQ 15 0) (hfreqHi : s.fld SAFE_UST_FREQ 15 0 ≤ 1300) : s.pulseResult ms rc 0 true = 1 := by
  have hfreq : decide (s.fld SAFE_UST_FREQ 15 0 < 700 ∨ 1300 < s.fld SAFE_UST_FREQ 15 0) = false := decide_eq_false (by omega)
  unfold Dev.pulseResult
  dsimp only
  rw [if_neg (by rw [hfall]; decide), if_neg (by omega), if_neg (by omega), if_neg (by rw [hwell, decide_eq_false (Nat.not_lt.mpr hage)]; decide),
    if_neg (by rw [hnone, hfreq]; decide), if_neg (by omega)]

theorem safeReset_passed (hrun : s.safe.halt = false) (hdf : 4 * ms ≤ s.safe.dfAge) (hpass : s.pulseResult ms rc 0 true = 1) :
    Answers (.safeResetPulse ms rc 0 true true) s fun t => t.deadfall = false ∧ t.fld SAFE_STAT 16 8 = 0 ∧
        OneEvent s t 0x0C02 0#32 (BitVec.ofNat 32 ms) := by
  refine answers_of_done (congrArg (done s) (safeReset_judged hrun (.inr hdf))) ?_
  rw [show s.pulseResult ms rc 0 (true && true) = 1 from hpass]
  unfold Dev.pulseActs
  rw [if_neg (by decide), if_pos rfl]
  refine ⟨?_, ?_, ?_⟩
  · rw [settle_deadfall]
    rfl
  · rw [settle_fld_stat _ _ _ (by decide), fld_raise_other _ _ _ _ _ (by decide)]
    exact fld_setFld_same _ _ _ _ _ (by decide) (by decide)
  · refine oneEvent_ev (d := Dev.setFld { s.pulseShown ms 1 with safe := _ } SAFE_STAT 16 8 0) (congrArg LogSt.raised (raise_log _ _)) ?_
    rw [setFld_log]
    simp [Dev.pulseShown]

end

/-! Canopy's start-up (R359). -/

/-- The start-up before the inputs are judged. -/
def Dev.startFound (s : Dev) (r m : Bool) (f : Option (Bool × Nat × Bool)) : Dev :=
  let s := if s.safe.ustOn then { s with safe.canopyLatch := s.deadfall } else s
  let s := { s.setBit PIN_CFGD 14 true with safe.up := true }
  let s := if r then s else s.cause 7 0 0
  let s := if m then s else s.cause 9 0 0
  match f with
  | none => s
  | some (cross, i, b) => s.cause (if cross then 3 else 2) i (bnat b)

/-- The events of a start-up, and what the registers show. -/
def Dev.startShown (s : Dev) : Dev :=
  let s := if s.deadfall then
      s.ev 0x0C0A (s.fld SAFE_STAT 11 8) (s.fld SAFE_STAT 15 12 * 2 + s.fld SAFE_STAT 16 16)
    else s
  let s := if s.safe.table then
      s.ev 0x0C09 0 ((List.range 12).filter fun k => s.outMask k != 0).length
    else s
  s.showInputs

/-- The causes that a start-up finds. -/
def startCauses (r m : Bool) (f : Option (Bool × Nat × Bool)) : List (Nat × Nat × Nat) :=
  (if r then [] else [(7, 0, 0)]) ++ (if m then [] else [(9, 0, 0)]) ++
    match f with
    | none => []
    | some (cross, i, b) => [(if cross then 3 else 2, i, bnat b)]

theorem reg_withSafe (d : Dev) (u : SafeSt) (a : Nat) :
    (∀ hi lo, Dev.fld { d with safe := u } a hi lo = d.fld a hi lo) ∧ ∀ i, Dev.bit { d with safe := u } a i = d.bit a i :=
  ⟨fun _ _ => rfl, fun _ => rfl⟩

theorem startFound_eq (s : Dev) (r m : Bool) (f : Option (Bool × Nat × Bool)) : s.startFound r m f =
    { s.setBit PIN_CFGD 14 true with safe := { s.safe with
        canopyLatch := if s.safe.ustOn then s.deadfall else s.safe.canopyLatch, up := true,
        causes := s.safe.causes ++ startCauses r m f } } := by
  have hlatch : ∀ u : Bool, (if u then ({ s with safe.canopyLatch := s.deadfall } : Dev) else s) =
      { s with safe := { s.safe with canopyLatch := if u then s.deadfall else s.safe.canopyLatch } } := fun u => by
    cases u <;> rfl
  unfold Dev.startFound startCauses
  dsimp only
  rw [hlatch]
  rcases f with - | ⟨cross, i, b⟩ <;> cases r <;> cases m <;>
    simp only [Dev.cause, List.append_assoc, List.append_nil, List.nil_append, if_true, Bool.false_eq_true, if_false] <;> rfl

/-- The inputs that a start-up has judged so far. -/
structure StartKept (s : Dev) (n : Nat) (d : Dev) : Prop where
  rest : { d.safe with inp := s.safe.inp } = s.safe
  regs : d.regs = s.regs
  log : d.log = s.log
  len : d.safe.inp.length = s.safe.inp.length
  judged : ∀ i, i < n → s.inKind i = 1 ∨ s.inKind i = 2 → (d.sin i).demand = !s.atRest i

theorem startInput_kept {s d : Dev} {n : Nat} (hn : n < s.safe.inp.length) (h : StartKept s n d) : StartKept s (n + 1) (d.startInput n) := by
  have hkind : d.inKind n = s.inKind n := fld_of_rd _ _ _ _ _ (rd_of_regs _ _ _ h.regs)
  have hchan : ∀ b, d.schan n b = s.schan n b := fun b => (congrArg (fun u : SafeSt => u.chan.getD (2 * n + bnat b) {}) h.rest :)
  refine ⟨(congrArg (fun u : SafeSt => u) h.rest :), h.regs, h.log, (length_modAt _ _ _).trans h.len, fun i hi hk => ?_⟩
  by_cases hin : i = n
  · subst hin
    have hset := sin_setIn_same d i (fun x => { x with
      demand := (d.inKind i == 1 || d.inKind i == 2) && !d.atRest i,
      disc := if d.inKind i = 0 ∨ chansAgree (d.inKind i) (d.schan i false).closed (d.schan i true).closed then none else some false,
      discRun := 0, late := none, press := none, held := none }) (by rw [h.len]; exact hn)
    have hused : (s.inKind i == 1 || s.inKind i == 2) = true := by simpa using hk
    have hrest : d.atRest i = s.atRest i := by
      unfold Dev.atRest
      rw [hkind, hchan, hchan]
    exact (congrArg SafeInp.demand hset :).trans (by rw [hkind, hused, hrest, Bool.true_and])
  · exact (congrArg SafeInp.demand (sin_setIn_ne _ _ _ _ hin)).trans (h.judged i (by omega) hk)

theorem startInputs_spec {s : Dev} (h : s.safe.inp.length = 16) : StartKept s 16 (s.each (List.range 16) Dev.startInput) :=
  each_range_rec ⟨rfl, rfl, rfl, rfl, fun i hi => absurd hi (Nat.not_lt_zero i)⟩ fun _ _ hk hd => startInput_kept (h ▸ hk) hd

theorem canopyStartup_eq {s : Dev} (r m : Bool) (f : Option (Bool × Nat × Bool)) (hrun : s.safe.halt = false)
    (hup : s.safe.up = false) (hinp : s.safe.inp.length = 16) :
    ∃ d, s.canopyStartup r m f = d.startShown ∧ StartKept (s.startFound r m f) 16 d :=
  ⟨_, if_neg (by rw [hrun, hup]; decide), startInputs_spec (by rw [startFound_eq]; exact hinp)⟩

theorem startShown_keeps (s : Dev) : s.startShown.safe = s.safe ∧ s.startShown.bit PIN_CFGD 14 = s.bit PIN_CFGD 14 := by
  have hshow : ∀ d : Dev, d.showInputs.safe = d.safe ∧ d.showInputs.bit PIN_CFGD 14 = d.bit PIN_CFGD 14 := fun d => by
    dsimp only [Dev.showInputs]
    rw [bit_wrN_other _ _ _ _ _ (by decide), bit_wrN_other _ _ _ _ _ (by decide), wrN_safe, wrN_safe]
    exact ⟨rfl, rfl⟩
  unfold Dev.startShown
  dsimp only
  rw [(hshow _).1, (hshow _).2]
  split <;> split <;> exact ⟨rfl, rfl⟩

theorem canopyStartup_answers {s : State} (hs : Shaped s.toDev) (r m : Bool) (f : Option (Bool × Fin 16 × Bool))
    (hrun : s.safe.halt = false) (hup : s.safe.up = false) : Answers (.canopyStartup r m f) s fun t =>
      t.safe.up = true ∧ t.deadfall = s.deadfall ∧ t.bit PIN_CFGD 14 = true ∧
      t.safe.causes = s.safe.causes ++ (if r then [] else [(7, 0, 0)]) ++ (if m then [] else [(9, 0, 0)]) ++
        (match f with
          | none => []
          | some (cross, i, b) => [(if cross then 3 else 2, i.val, bnat b)]) ∧
      ∀ i : Fin 16, s.inKind i = 1 ∨ s.inKind i = 2 →
        (t.sin i).demand = !((s.schan i false).closed == restLevel (s.inKind i) false &&
        (s.schan i true).closed == restLevel (s.inKind i) true) := by
  have hfound := startFound_eq s.toDev r m (f.map fun x => (x.1, x.2.1.val, x.2.2))
  obtain ⟨d, hdone, hinputs⟩ := canopyStartup_eq (s := s.toDev) r m (f.map fun x => (x.1, x.2.1.val, x.2.2)) hrun hup hs.inp
  have hshown := startShown_keeps d
  refine answers_of_done (congrArg (done s) hdone) ⟨?_, ?_, ?_, ?_, fun i hkind => ?_⟩
  · rw [settle_safe, copyLatches_safe_up, hshown.1, (congrArg SafeSt.up hinputs.rest :), hfound]
  · rw [settle_deadfall, deadfall_of_safe _ _ hshown.1]
    refine (congrArg (fun u : SafeSt => u.canopyLatch || u.ustLatch) hinputs.rest :).trans ?_
    rw [hfound]
    unfold Dev.deadfall
    cases s.safe.ustOn <;> cases s.safe.canopyLatch <;> cases s.safe.ustLatch <;> rfl
  · rw [settle_bit _ _ _ (by decide) (by decide), hshown.2, bit_of_rd _ _ _ _ (rd_of_regs _ _ _ hinputs.regs), hfound,
      (reg_withSafe _ _ _).2]
    exact bit_setBit_same _ _ _ _ (by decide)
  · rw [settle_safe, copyLatches_safe_causes, hshown.1, (congrArg SafeSt.causes hinputs.rest :), hfound]
    rcases f with - | ⟨cross, i, b⟩ <;> simp [startCauses]
  · have hkinds : ∀ j, (s.startFound r m (f.map fun x => (x.1, x.2.1.val, x.2.2))).inKind j = s.inKind j := fun j => by
      unfold Dev.inKind
      rw [hfound, (reg_withSafe _ _ _).1]
      exact fld_setBit_other _ _ _ _ _ _ _ (by simp only [SAFE_IN_CFG, PIN_CFGD]; omega)
    have hchans : ∀ b, (s.startFound r m (f.map fun x => (x.1, x.2.1.val, x.2.2))).schan i b = s.schan i b := fun b => by
      unfold Dev.schan
      rw [hfound]
    rw [sin_settle]
    refine (congrArg (fun u : SafeSt => (u.inp.getD i {}).demand) hshown.1 :).trans
      ((hinputs.judged i i.isLt (by rwa [hkinds])).trans ?_)
    unfold Dev.atRest
    rw [hkinds, hchans, hchans]

/-! Understory's supply. -/

theorem copyLatches_idem (s : Dev) (u : SafeSt) (h : u = s.copyLatches.safe) : (Dev.copyLatches { s with safe := u }).safe = u := by
  subst h
  unfold Dev.copyLatches Dev.deadfall
  by_cases hboth : (s.safe.halt || !s.safe.ustOn) = true
  · simp only [if_pos hboth]
  · simp only [if_neg hboth, Bool.or_self]

theorem suspEnd_answers {s : State} (hsusp : s.safe.ustSusp = true)
    (h : s.safe.ustAnn = false ∨ (s.rst.run.elim false fun r => r.src == 6) = true) :
      (s.safe.ustAlive = true → Answers .ustSuspensionEnd s fun t => SafeFramed [] s t { s.safe with ustSusp := false } ∧
        NoEvent s t) ∧
      (s.safe.ustAlive = false → Answers .ustSuspensionEnd s fun t => t.safe.ustSusp = false ∧ t.safe.ustLatch = true ∧
        OneEvent s t 0x0C01 14#32 0#32) := by
  have hdone : s.toDev.suspEnd = if s.safe.ustAlive then { s.toDev with safe := { s.safe with ustSusp := false } }
      else Dev.ustCause { s.toDev with safe := { s.safe with ustSusp := false } } 14 0 :=
    if_pos (by rw [hsusp]; rcases h with h | h <;> rw [h] <;> simp)
  refine ⟨fun halive => ?_, fun halive => ?_⟩
  · rw [if_pos halive] at hdone
    exact answers_of_done (congrArg (done s) hdone) ⟨safeFramed_after s _, noEvent_after rfl⟩
  · rw [if_neg (by rw [halive]; decide)] at hdone
    obtain ⟨hlatch, -, hevent, -⟩ := ustCause_after (s := s) (d := { s.toDev with safe := { s.safe with ustSusp := false } }) 14 0
      rfl rfl rfl
    refine answers_of_done (congrArg (done s) hdone) ⟨?_, hlatch, hevent⟩
    rw [settle_safe, copyLatches_safe_ustSusp]
    rw [ustCause_safe]

/-- A channel whose level under Understory's filter is lost (R356). -/
def SafeChan.unfiltered (x : SafeChan) : SafeChan := { x with ust := false }

theorem ustPower_answers (s : State) : Answers .vddUstPowerOn s fun t => t.safe.ustOn = true ∧ t.safe.ustSusp = true ∧
      (∀ k, t.permit k = false) ∧ t.safe.ustLatch = (s.safe.canopyLatch && !s.safe.halt) ∧ (∀ i b, (t.schan i b).ust = false) ∧
      NoEvent s t ∧ SafeFramed [] s t t.safe := by
  have hframe := safeFramed_after s s.toDev.ustPower.safe
  refine answers_of_done (d := s.toDev.ustPower) rfl ⟨?_, ?_, fun k => permit_settle_false k (.inr (.inl rfl)), ?_, fun i b => ?_, noEvent_after rfl, ?_⟩
  · rw [settle_safe, copyLatches_safe_ustOn]
    rfl
  · rw [settle_safe, copyLatches_safe_ustSusp]
    rfl
  · rw [settle_safe, (copyLatches_latches _).2]
    cases hhalt : s.safe.halt <;> cases hlatch : s.safe.canopyLatch <;> simp [Dev.ustPower, Dev.deadfall, hhalt, hlatch]
  · rw [schan_settle]
    exact (congrArg SafeChan.ust (List.getD_map (n := 2 * i + bnat b) (d := ({} : SafeChan)) (l := s.safe.chan) SafeChan.unfiltered) :)
  · obtain ⟨hregs, hblocks, hseq, hlog, hsafe⟩ := hframe
    refine ⟨hregs, hblocks, hseq, hlog, ?_⟩
    rw [settle_safe]
    exact (copyLatches_idem s.toDev.ustPower _ rfl).symm

theorem ustLow_answers (s : State) : Answers .vddUstLow s fun t =>
    SafeFramed [] s t { s.safe with ustSw := false } ∧ (∀ k, t.permit k = false) ∧ NoEvent s t :=
  answers_of_done rfl ⟨safeFramed_after s _, fun k => permit_settle_false k (.inl rfl), noEvent_after rfl⟩

theorem ustReturn_answers {s : State} (hon : s.safe.ustOn = true) : Answers .vddUstReturn s fun t =>
    SafeFramed [] s t { s.safe with ustSw := true } ∧ NoEvent s t :=
  answers_of_done (congrArg (done s) (if_pos hon)) ⟨safeFramed_after s _, noEvent_after rfl⟩

/-- Settles O41: the pulse by its result, the start-up, and Understory's supply. -/
theorem safetyResets : Obligations.SafetyResets := by
  unfold Obligations.SafetyResets
  refine fun s hs => ⟨fun _ _ _ _ _ => safeReset_early, fun _ _ _ _ _ => safeReset_judged_answers,
    fun ms rc hrun hfall hdf hlo hhi hrcLo hrcHi hwell hage hnone hfreqLo hfreqHi => safeReset_passed hrun hdf
      (pulseResult_passed hfall hlo hhi hrcLo hrcHi hwell hage hnone hfreqLo hfreqHi),
    fun ms rc rb mem flow hhalt => noEffect_of_done rfl (if_pos hhalt), canopyStartup_answers hs,
    fun r m f h => noEffect_of_done rfl (if_pos ?_), suspEnd_answers, fun hann hrun => noEffect_of_done rfl (if_neg ?_),
    fun hsusp => noEffect_of_done rfl (if_neg ?_), ustPower_answers s, ustLow_answers s, ustReturn_answers,
    fun hoff => noEffect_of_done rfl (if_neg ?_)⟩
  · rcases h with h | h <;> rw [h] <;> simp
  · rw [hann, hrun]
    simp
  · rw [hsusp]
    simp
  · rw [hoff]
    decide

end Sys2Proof.Machine
end

section
/-! The ring ports (R281 to R289). -/

namespace Sys2Proof.Machine

theorem blocks_setPort (s : Dev) (b : Bool) (f : NetPort → NetPort) : blocks (s.setPort b f) = (blocks s).setPort b f := by
  cases b <;> rfl

theorem Effect.setPort {l : List Nat} {s d e : Dev} (h : Effect l s d e) (b : Bool) (f : NetPort → NetPort) :
    Effect l s (d.setPort b f) (e.setPort b f) := by
  obtain ⟨hregs, hengines, hseq, hlog, hsafe⟩ := h
  refine ⟨fun a ha => (rd_of_regs _ _ _ (by cases b <;> rfl)).trans (hregs a ha), ?_, ?_, ?_, ?_⟩
  · rw [blocks_setPort, hengines]
  all_goals cases b <;> assumption

theorem portNo_lt (b : Bool) : portNo b < 2 := by
  cases b <;> decide

/-! Links (R282). -/

theorem rateFallback_answers {s : State} {b : Bool} (hmode : s.netMode ≠ 0) (hrate : s.portRate b = 2) (hdown : s.linkUp b = false) :
    Answers (.rateFallbackTimer b) s fun t => Framed [] s t (blocks (s.setPort b fun p => { p with try1g := !p.try1g })) ∧ NoEvent s t := by
  have hdone : s.toDev.rateFallback b = s.toDev.setPort b fun p => { p with try1g := !p.try1g } :=
    if_pos (by rw [hrate, hdown]; simpa using hmode)
  refine answers_of_done (congrArg (done s) hdone) ⟨?_, noEvent_after (by simp)⟩
  rw [blocks_setPort]
  exact ((Effect.refl [] s.toDev).setPort b _).framed

theorem rateFallback_none {s : State} {b : Bool} (h : s.netMode = 0 ∨ s.portRate b ≠ 2 ∨ s.linkUp b = true) :
    NoEffect (.rateFallbackTimer b) s :=
  noEffect_of_done rfl (if_neg (by rcases h with h | h | h <;> simp [h]))

theorem netStat_frame {s d : Dev} {b : Dev} (h : Effect [NET_STAT, HOST_EVT_PEND 2] s d b) (c p q : Nat) :
    Effect [NET_STAT, HOST_EVT_PEND 2] s ((d.ev c p q).raise 0x46) b :=
  (h.ev c p q).raise (n := 0x46) (List.mem_cons_of_mem _ (List.mem_singleton_self _))

theorem netStat_shows (d : Dev) (c p q i : Nat) : (((d.ev c p q).raise 0x46).settle).bit NET_STAT i = d.bit NET_STAT i :=
  (settle_bit _ _ _ (by decide) (by decide)).trans (bit_raise_other (d.ev c p q) _ _ _ (by decide))

theorem portUp_answers {s : State} {b g : Bool} (hmode : s.netMode ≠ 0) (hdown : s.linkUp b = false) (hrate : s.rateOk b g = true) :
    Answers (.linkUp b g) s fun t => t.linkUp b = true ∧
      t.bit NET_STAT (2 + portNo b) = g ∧ OneEvent s t 0x0A01 (BitVec.ofNat 32 (portNo b)) (BitVec.ofNat 32 (bnat g)) ∧
      OnlyRegs [NET_STAT, HOST_EVT_PEND 2] s t := by
  have hno := portNo_lt b
  have hdone : s.toDev.portUp b g = (((s.toDev.setBit NET_STAT (portNo b) true).setBit NET_STAT (2 + portNo b) g).ev
      0x0A01 (portNo b) (bnat g)).raise 0x46 :=
    if_neg (by rw [hdown, hrate]; simpa using hmode)
  have heff : Effect [NET_STAT, HOST_EVT_PEND 2] s.toDev ((s.toDev.setBit NET_STAT (portNo b) true).setBit NET_STAT (2 + portNo b) g) (blocks s.toDev) :=
    ((Effect.refl _ s.toDev).setBit (a := NET_STAT) (by simp) _ _).setBit (a := NET_STAT) (by simp) _ _
  refine answers_of_done (congrArg (done s) hdone) ⟨?_, ?_, ?_, (netStat_frame heff _ _ _).framed⟩
  · refine (netStat_shows _ _ _ _ _).trans ?_
    rw [bit_setBit_ne _ _ _ _ _ (by omega) (by omega), bit_setBit_same _ _ _ _ (by omega)]
  · refine (netStat_shows _ _ _ _ _).trans ?_
    rw [bit_setBit_same _ _ _ _ (by omega)]
  · exact oneEvent_ev (congrArg LogSt.raised (raise_log _ _)) (by simp)

theorem portUp_none {s : State} {b g : Bool} (h : s.netMode = 0 ∨ s.linkUp b = true ∨ s.rateOk b g = false) : NoEffect (.linkUp b g) s :=
  noEffect_of_done rfl (if_pos (by rcases h with h | h | h <;> simp [h]))

theorem portDown_answers {s : State} {b : Bool} (hup : s.linkUp b = true) : Answers (.linkDown b) s fun t =>
      t.linkUp b = false ∧ t.bit NET_STAT (2 + portNo b) = false ∧ OneEvent s t 0x0A02 (BitVec.ofNat 32 (portNo b)) 0#32 ∧
      Framed [NET_STAT, HOST_EVT_PEND 2] s t (blocks (s.setPort b fun p => { p with try1g := false })) := by
  have hno := portNo_lt b
  have hdone : s.toDev.portDown b = ((((s.toDev.setBit NET_STAT (portNo b) false).setBit NET_STAT (2 + portNo b) false).setPort b
      fun p => { p with try1g := false }).ev 0x0A02 (portNo b) 0).raise 0x46 := if_pos hup
  have heff : Effect [NET_STAT, HOST_EVT_PEND 2] s.toDev
      (((s.toDev.setBit NET_STAT (portNo b) false).setBit NET_STAT (2 + portNo b) false).setPort b fun p => { p with try1g := false })
      ((blocks s.toDev).setPort b fun p => { p with try1g := false }) :=
    (((Effect.refl _ s.toDev).setBit (a := NET_STAT) (by simp) _ _).setBit (a := NET_STAT) (by simp) _ _).setPort b _
  refine answers_of_done (congrArg (done s) hdone) ⟨?_, ?_, ?_, ?_⟩
  · refine (netStat_shows _ _ _ _ _).trans ((bit_window _ _ _).2.2.2.2.2.2.2.1 b _ |>.trans ?_)
    rw [bit_setBit_ne _ _ _ _ _ (by omega) (by omega), bit_setBit_same _ _ _ _ (by omega)]
  · refine (netStat_shows _ _ _ _ _).trans ((bit_window _ _ _).2.2.2.2.2.2.2.1 b _ |>.trans ?_)
    rw [bit_setBit_same _ _ _ _ (by omega)]
  · exact oneEvent_ev (congrArg LogSt.raised (raise_log _ _)) (by simp)
  · rw [blocks_setPort]
    exact (netStat_frame heff _ _ _).framed

/-! Settings and entries (R284, R286). -/

theorem netCfgWrite_inService {s : State} (v : Word) (h : s.inService = true) :
    Answers (.netCfgWrite v) s fun t => OneEvent s t 0x0A0D 0#32 0#32 ∧ OnlyRegs [] s t :=
  event_answers (congrArg (done s) (if_pos (by rw [h]; decide)))

/-- The bits of a mask read back as written. -/
theorem masked_store (x v m : Word) : ((x &&& ~~~m) ||| (v &&& m)) &&& m = v &&& m := by
  ext i hi
  simp only [BitVec.getElem_and, BitVec.getElem_or, BitVec.getElem_not]
  cases m[i] <;> simp

theorem netCfgWrite_answers {s : State} (v : Word) (h : s.inService = false) : Answers (.netCfgWrite v) s fun t =>
    t.rd NET_CFG &&& 0x1FF#32 = v &&& 0x1FF#32 ∧ Framed [NET_CFG] s t (blocks { s.toDev with net.cfgPend := true }) ∧ NoEvent s t := by
  have hstore := store_eq_wr_rw (a := NET_CFG) (r := { off := 0x000, reset := 0x0000006A, rw := 0x1FF }) (by decide) rfl s.toDev v
  have hdone : s.toDev.netWrite NET_CFG v = { s.toDev.store NET_CFG v with net := { (s.toDev.store NET_CFG v).net with cfgPend := true } } :=
    (if_neg (by rw [h]; decide)).trans (if_pos rfl)
  rw [hstore] at hdone
  refine answers_of_done (congrArg (done s) hdone) ⟨?_, ?_, noEvent_after rfl⟩
  · rw [settle_rd _ _ (by decide) (by decide)]
    exact (congrArg (· &&& 0x1FF#32) (rd_wr_same s.toDev NET_CFG _) :).trans (masked_store _ _ _)
  · exact (((Effect.refl [NET_CFG] s.toDev).wr (a := NET_CFG) (by simp) _).net _).framed

theorem dupExpire_answers (s : State) (b d : Bool) (src : BitVec 48) (sq : BitVec 16) :
    Answers (.duplicateEntryExpiry d src sq b) s fun t => NoEvent s t ∧ Framed [] s t (blocks (if d then
        { s.toDev with net.delTab := s.net.delTab.filter fun e => !forgotten s src sq e }
      else { s.toDev with net.fwdTab := s.net.fwdTab.filter fun e => !(forgotten s src sq e && e.portB == b) })) := by
  refine answers_of_done rfl ?_
  cases d
  · exact ⟨noEvent_after rfl, ((Effect.refl [] s.toDev).net _).framed⟩
  · exact ⟨noEvent_after rfl, ((Effect.refl [] s.toDev).net _).framed⟩

/-! The frame that leaves first (R288, R298). -/

theorem inFlight_etype (s : Dev) (x : NetTx) (r : Rat) : (s.inFlight x r).etype = x.frame.etype := by
  unfold Dev.inFlight
  dsimp only
  split
  · split <;> rfl
  · split <;> rfl

/-- The port as its first frame leaves it. -/
def Dev.sendsFirst (s : Dev) (b : Bool) (x : NetTx) (rest : List NetTx) (r : Rat) : Dev :=
  s.spend.setPort b fun p => { p with egress := rest, sent := s.inFlight x r :: p.sent }

theorem egress_eq {s : Dev} {b : Bool} {x : NetTx} {rest : List NetTx} (r : Rat) (hup : s.linkUp b = true)
    (hfirst : takeFirst (s.port b).egress = some (x, rest)) : s.egress b r =
      if x.fwd && s.netMode == 2 && (s.inFlight x r).etype == 0x88F7 && u8 (s.inFlight x r).payload 0 % 16 == 0 then
        (s.sendsFirst b x rest r).cntWrap NET_TC_CNT 31 0 1
      else s.sendsFirst b x rest r := by
  unfold Dev.egress
  rw [if_neg (by rw [hup]; decide), hfirst]
  rfl

theorem sendsFirst_port (s : Dev) (b : Bool) (x : NetTx) (rest : List NetTx) (r : Rat) : (s.sendsFirst b x rest r).port b =
    { s.port b with egress := rest, sent := s.inFlight x r :: (s.port b).sent } := by
  unfold Dev.sendsFirst
  rw [port_setPort, if_pos rfl]
  rfl

theorem sendsFirst_effect (s : Dev) (b : Bool) (x : NetTx) (rest : List NetTx) (r : Rat) :
    Effect [] s (s.sendsFirst b x rest r) { blocks s with net := (s.sendsFirst b x rest r).net } := by
  have h := (Effect.refl [] s).spend.setPort b fun p => { p with egress := rest, sent := s.inFlight x r :: p.sent }
  refine ⟨h.regs, ?_, h.seq, h.log, h.safe⟩
  cases b <;> rfl

theorem sendsFirst_log (s : Dev) (b : Bool) (x : NetTx) (rest : List NetTx) (r : Rat) : (s.sendsFirst b x rest r).log = s.log := by
  cases b <;> rfl

theorem egress_answers {s : State} {b : Bool} (r : Rat) (x : NetTx) (rest : List NetTx) (hup : s.linkUp b = true)
    (hfirst : takeFirst (s.port b).egress = some (x, rest)) : Answers (.egressTransmit b r) s fun t =>
      (t.port b).egress = rest ∧ (t.port b).sent = s.inFlight x r :: (s.port b).sent ∧ NoEvent s t ∧
      (x.fwd = false → Framed [] s t (blocks { s.toDev with net := t.net })) ∧
      (x.fwd = true → s.netMode = 2 → x.frame.etype = 0x88F7 → u8 (s.inFlight x r).payload 0 % 16 = 0 →
        t.fld NET_TC_CNT 31 0 = (s.fld NET_TC_CNT 31 0 + 1) % 2 ^ 32) := by
  have hdone := egress_eq (s := s.toDev) r hup hfirst
  have heff := sendsFirst_effect s.toDev b x rest r
  have hport : ∀ c : Prop, [Decidable c] → (if c then (s.sendsFirst b x rest r).cntWrap NET_TC_CNT 31 0 1
      else s.sendsFirst b x rest r).port b = { s.port b with egress := rest, sent := s.inFlight x r :: (s.port b).sent } := fun c _ => by
    rw [← sendsFirst_port]
    split
    · exact port_of_net (cntWrap_net _ _ _ _ _) b
    · rfl
  refine answers_of_done (congrArg (done s) hdone) ⟨?_, ?_, noEvent_after ?_, fun hown => ?_, fun hfwd hmode hetype htype => ?_⟩
  · rw [port_settle, hport]
  · rw [port_settle, hport]
  · split
    · rw [cntWrap_log, sendsFirst_log]
    · rw [sendsFirst_log]
  · rw [if_neg (by rw [hown]; simp), settle_net]
    exact heff.framed
  · rw [if_pos (by rw [hfwd, hmode, inFlight_etype, hetype, htype]; decide), settle_fld _ _ _ _ (by decide) (by decide),
      fld_cntWrap_same _ _ _ _ _ (by decide) (by decide)]
    rw [fld_of_rd _ _ _ _ _ (heff.regs NET_TC_CNT (by simp))]

theorem egress_none {s : State} {b : Bool} (r : Rat) (h : s.linkUp b = false ∨ takeFirst (s.port b).egress = none) :
    NoEffect (.egressTransmit b r) s := by
  refine noEffect_of_done rfl ?_
  unfold Dev.egress
  rcases h with h | h
  · rw [if_pos (by rw [h]; decide)]
  · rw [h]
    exact ite_self _

/-! Supervision of the ring (R289). -/

theorem queued_after {s : State} {d : Dev} {b : Bool} {f : NetFrame} {p : NetFrame → Prop}
    (hport : (d.port b).egress = (s.port b).egress ++ [{ frame := f, fwd := false }]) (hp : p f) : Queued s (s.after d) b p :=
  ⟨f, (congrArg NetPort.egress (port_settle d b)).trans hport, hp⟩

theorem supervision_answers {s : State} {b : Bool} (hmode : s.netMode = 2) : Answers .supervisionSend s fun t =>
    t.net.seq = (s.net.seq + 1) % 65536 ∧
      (netRoom s b 64 → Queued s t b fun f => f.etype = 0x88FB ∧ f.dst = supMac ∧ f.src = s.ownMac ∧
        f.seq = BitVec.ofNat 16 s.net.seq) := by
  refine answers_of_done (congrArg (done s) (if_pos hmode)) ⟨?_, fun ⟨hup, hrun, hroom⟩ => ?_⟩
  · rw [settle_net]
    exact originate_seq _ _ _ _ _ _ _
  · exact queued_after (originate_queues s.toDev supMac 0x88FB false 0 0 [] b hup hrun hroom) ⟨rfl, rfl, rfl, rfl⟩

/-- The ring is seen open on a port whose supervision frame is late. -/
theorem ringOpen_eq (s : State) : s.toDev.ringOpen =
    if s.bit NET_STAT 4 && (supervisionLate s false || supervisionLate s true) then (s.toDev.setBit NET_STAT 4 false).ev 0x0A04 0 0
    else s.toDev := rfl

theorem ringOpen_answers {s : State} (hclosed : s.bit NET_STAT 4 = true) (hlate : ∃ c, supervisionLate s c = true) :
    Answers .ringOpenTimeout s fun t => t.bit NET_STAT 4 = false ∧ OneEvent s t 0x0A04 0#32 0#32 ∧ OnlyRegs [NET_STAT] s t := by
  have hdone : s.toDev.ringOpen = (s.toDev.setBit NET_STAT 4 false).ev 0x0A04 0 0 := by
    rw [ringOpen_eq, if_pos]
    obtain ⟨c, hc⟩ := hlate
    cases c <;> simp [hclosed, hc]
  refine answers_of_done (congrArg (done s) hdone) ⟨?_, oneEvent_ev rfl (congrArg LogSt.raised (setBit_log _ _ _ _)), ?_⟩
  · exact (settle_bit _ _ _ (by decide) (by decide)).trans (bit_setBit_same s.toDev NET_STAT 4 false (by decide))
  · exact (((Effect.refl [NET_STAT] s.toDev).setBit (a := NET_STAT) (by simp) 4 false).ev _ _ _).framed

theorem ringOpen_none {s : State} (h : s.bit NET_STAT 4 = false ∨ (∀ c, supervisionLate s c = false)) : NoEffect .ringOpenTimeout s := by
  refine noEffect_of_done rfl ?_
  rw [ringOpen_eq, if_neg]
  rcases h with h | h
  · simp [h]
  · simp [h false, h true]

/-- Settles O42: links, settings, entries, the frame that leaves first, and supervision. -/
theorem ringPorts : Obligations.RingPorts := by
  unfold Obligations.RingPorts
  exact fun s b => ⟨rateFallback_answers, rateFallback_none, fun _ => portUp_answers, fun _ => portUp_none, portDown_answers,
    fun hdown => noEffect_of_done rfl (if_neg (by rw [hdown]; decide)), netCfgWrite_inService, netCfgWrite_answers,
    fun d src sq => dupExpire_answers s b d src sq, egress_answers, egress_none, supervision_answers,
    fun hmode => noEffect_of_done rfl (if_neg hmode), ringOpen_answers, ringOpen_none⟩

end Sys2Proof.Machine
end

section
/-! Frames from the ring (R283 to R287, R289 to R291, R293). -/

namespace Sys2Proof.Machine

/-- The registers that count frames. -/
def frameCounts : List Nat :=
  [NET_RX_ERR, NET_EVICT_CNT, NET_DROP_CNT, NET_FWD_CNT, NET_DUP_CNT, NET_UNK_CNT, NET_WRONG_LAN]

/-- What decides about a frame is as it was: the registers but the counts, the settings in force, and the present tick. -/
structure FrameKept (s d : Dev) : Prop where
  regs : ∀ a, a ∉ frameCounts → d.rd a = s.rd a
  cfg : d.net.cfg = s.net.cfg
  cyc : d.seq.cyc = s.seq.cyc

theorem FrameKept.refl (s : Dev) : FrameKept s s := ⟨fun _ _ => rfl, rfl, rfl⟩

section
variable {s d : Dev}

theorem FrameKept.trans {e : Dev} (h : FrameKept s d) (h' : FrameKept d e) : FrameKept s e :=
  ⟨fun a ha => (h'.regs a ha).trans (h.regs a ha), h'.cfg.trans h.cfg, h'.cyc.trans h.cyc⟩

theorem FrameKept.wr (h : FrameKept s d) {a : Nat} (ha : a ∈ frameCounts) (v : Word) : FrameKept s (d.wr a v) :=
  ⟨fun x hx => (rd_wr_ne _ _ _ _ (ne_of_mem_of_not_mem ha hx).symm).trans (h.regs x hx), h.cfg, h.cyc⟩

theorem FrameKept.cntWrap (h : FrameKept s d) {a : Nat} (ha : a ∈ frameCounts) (hi lo k : Nat) : FrameKept s (d.cntWrap a hi lo k) :=
  h.wr ha _

theorem FrameKept.evW (h : FrameKept s d) (c : Nat) (p q : Word) : FrameKept s (d.evW c p q) := ⟨h.regs, h.cfg, h.cyc⟩

theorem FrameKept.net (h : FrameKept s d) (n : NetSt) (hn : n.cfg = d.net.cfg) : FrameKept s { d with net := n } :=
  ⟨h.regs, hn.trans h.cfg, h.cyc⟩

theorem FrameKept.ite {e : Dev} (c : Prop) [Decidable c] (hd : FrameKept s d) (he : FrameKept s e) : FrameKept s (if c then d else e) := by
  split
  · exact hd
  · exact he

theorem FrameKept.fld (h : FrameKept s d) {a : Nat} (ha : a ∉ frameCounts) (hi lo : Nat) : d.fld a hi lo = s.fld a hi lo :=
  fld_of_rd _ _ _ _ _ (h.regs a ha)

theorem FrameKept.bit (h : FrameKept s d) {a : Nat} (ha : a ∉ frameCounts) (i : Nat) : d.bit a i = s.bit a i :=
  bit_of_rd _ _ _ _ (h.regs a ha)

theorem FrameKept.ownMac (h : FrameKept s d) : d.ownMac = s.ownMac := by
  unfold Dev.ownMac
  rw [h.regs _ (by decide), h.regs _ (by decide)]

theorem FrameKept.brfDst (h : FrameKept s d) : d.brfDst = s.brfDst := by
  unfold Dev.brfDst
  rw [h.regs _ (by decide), h.regs _ (by decide)]

theorem mcast_notCount (k : Nat) (hk : k < 4) : NET_MCAST k ∉ frameCounts := by
  revert k
  decide

theorem FrameKept.mcGroups (h : FrameKept s d) : d.mcGroups = s.mcGroups := by
  have hlist : (List.range 4).map (fun k => (d.rd (NET_MCAST k)).toNat) = (List.range 4).map fun k => (s.rd (NET_MCAST k)).toNat :=
    List.map_congr_left fun k hk => congrArg BitVec.toNat (h.regs _ (mcast_notCount k (List.mem_range.mp hk)))
  unfold Dev.mcGroups
  rw [hlist, h.cfg, h.regs _ (by decide)]

theorem FrameKept.dstOk (h : FrameKept s d) (x : BitVec 48) : d.dstOk x = s.dstOk x := by
  unfold Dev.dstOk
  rw [h.ownMac, h.brfDst, h.mcGroups]

theorem FrameKept.listed (h : FrameKept s d) (f : NetFrame) : d.listed f = s.listed f := by
  unfold Dev.listed Dev.thktPort
  rw [h.brfDst, h.mcGroups, h.cfg, h.regs NET_IP (by decide), h.regs NET_450_GRP (by decide), h.fld (a := EST_REF_UDP) (by decide),
    h.fld (a := THKT_UDP) (by decide), h.fld (a := NET_450_PORT) (by decide)]

theorem FrameKept.dupOf (h : FrameKept s d) (f : NetFrame) (b : Bool) : d.dupOf f b = s.dupOf f b := by
  unfold Dev.dupOf
  rw [h.cyc]

end

/-! Bad frames, delivery and the duplicate tables. -/

theorem rxErr_kept (s : Dev) (b : Bool) : FrameKept s (s.rxErr b) := by
  cases b
  · exact (FrameKept.refl s).wr (a := NET_RX_ERR) (by decide) _
  · exact (FrameKept.refl s).wr (a := NET_RX_ERR) (by decide) _

theorem rxErr_effect (s : Dev) (b : Bool) : Effect [NET_RX_ERR] s (s.rxErr b) (blocks s) := by
  cases b
  · exact (Effect.refl _ s).cntSat (a := NET_RX_ERR) (by simp) _ _ _
  · exact (Effect.refl _ s).cntSat (a := NET_RX_ERR) (by simp) _ _ _

theorem rxErr_log (s : Dev) (b : Bool) : (s.rxErr b).log = s.log := by
  cases b <;> rfl

/-- The count of a bad frame stands as long as NET_RX_ERR does. -/
theorem rxErr_counts {s : State} {b : Bool} {d : Dev} (h : d.rd NET_RX_ERR = (s.toDev.rxErr b).rd NET_RX_ERR) :
    RxErr s (s.after d) b := by
  have hfld : ∀ hi lo, (s.after d).fld NET_RX_ERR hi lo = (s.toDev.rxErr b).fld NET_RX_ERR hi lo := fun hi lo =>
    (settle_fld _ _ _ _ (by decide) (by decide)).trans (fld_of_rd _ _ _ _ _ h)
  unfold RxErr
  rw [hfld, hfld]
  cases b
  · exact fld_cntSat_same _ _ _ _ _ (by decide) (by decide)
  · exact fld_cntSat_same _ _ _ _ _ (by decide) (by decide)

theorem rxErr_answers {c : Instr} {s : State} {b : Bool} (hc : exec c s = done s (s.toDev.rxErr b)) :
    Answers c s fun t => RxErr s t b ∧ Quiet [NET_RX_ERR] s t :=
  answers_of_done hc ⟨rxErr_counts rfl, (rxErr_effect _ _).framed, noEvent_after (congrArg LogSt.raised (rxErr_log _ _))⟩

theorem deliverNet_listed {s : Dev} {f : NetFrame} (h : s.listed f = true) : s.deliverNet f = s := if_pos h

theorem deliverNet_unknown {s : Dev} {f : NetFrame} (h : s.listed f = false) : s.deliverNet f = s.cntSat NET_UNK_CNT 31 0 1 :=
  if_neg (by rw [h]; decide)

theorem linkLocal_listed (s : Dev) {f : NetFrame} (h : linkLocal f = true) : s.listed f = true := by
  have hetype : f.etype = 0x88F7 := by
    unfold linkLocal at h
    simpa using (Bool.and_eq_true_iff.mp h).1
  exact if_pos hetype

/-- The duplicate table of deliveries, or of forwarded frames, replaced. -/
def Dev.setTab (s : Dev) (delivery : Bool) (t : List DupEntry) : Dev :=
  if delivery then { s with net.delTab := t } else { s with net.fwdTab := t }

def Dev.tab (s : Dev) (delivery : Bool) : List DupEntry := if delivery then s.net.delTab else s.net.fwdTab

/-- A new entry, and the eviction from a full table (R286). -/
theorem dupAdd_eq (s : Dev) (delivery : Bool) (e : DupEntry) : s.dupAdd delivery e =
    if 4096 ≤ (s.tab delivery).length then ((s.setTab delivery ((s.tab delivery).tail ++ [e])).cntSat NET_EVICT_CNT 31 0 1).evW 0x0A05
      (BitVec.ofNat 32 (bnat delivery))
      (((s.setTab delivery ((s.tab delivery).tail ++ [e])).cntSat NET_EVICT_CNT 31 0 1).rd NET_EVICT_CNT)
    else s.setTab delivery (s.tab delivery ++ [e]) := rfl

theorem setTab_kept (s : Dev) (delivery : Bool) (t : List DupEntry) : FrameKept s (s.setTab delivery t) ∧
    (∀ c, (s.setTab delivery t).port c = s.port c) ∧ (s.setTab delivery t).tab delivery = t ∧
    (∀ x, x ≠ delivery → (s.setTab delivery t).tab x = s.tab x) ∧ (s.setTab delivery t).regs = s.regs ∧
    (s.setTab delivery t).log = s.log := by
  cases delivery
  · exact ⟨(FrameKept.refl s).net _ rfl, fun c => rfl, rfl, fun x hx => by cases x; exacts [absurd rfl hx, rfl], rfl, rfl⟩
  · exact ⟨(FrameKept.refl s).net _ rfl, fun c => rfl, rfl, fun x hx => by cases x; exacts [rfl, absurd rfl hx], rfl, rfl⟩

/-- What an entry of a duplicate table leaves: it stands last in its table; the other table and the ports stay (R286). -/
theorem dupAdd_spec (s : Dev) (delivery : Bool) (e : DupEntry) : FrameKept s (s.dupAdd delivery e) ∧
    (∀ c, (s.dupAdd delivery e).port c = s.port c) ∧ ((s.dupAdd delivery e).tab delivery).getLast? = some e ∧
    (∀ x, x ≠ delivery → (s.dupAdd delivery e).tab x = s.tab x) ∧
    ∀ a, a ≠ NET_EVICT_CNT → (s.dupAdd delivery e).rd a = s.rd a := by
  rw [dupAdd_eq]
  split
  · obtain ⟨hkept, hport, htab, hother, hregs, -⟩ := setTab_kept s delivery ((s.tab delivery).tail ++ [e])
    generalize s.setTab delivery ((s.tab delivery).tail ++ [e]) = d at *
    refine ⟨(hkept.wr (a := NET_EVICT_CNT) (by decide) _).evW _ _ _, hport, ?_, hother, fun a ha => ?_⟩
    · exact (congrArg List.getLast? htab).trans List.getLast?_concat
    · exact (rd_cntSat_ne d _ _ _ _ _ ha).trans (rd_of_regs _ _ _ hregs)
  · obtain ⟨hkept, hport, htab, hother, hregs, -⟩ := setTab_kept s delivery (s.tab delivery ++ [e])
    exact ⟨hkept, hport, (congrArg List.getLast? htab).trans List.getLast?_concat, hother, fun a _ => rd_of_regs _ _ _ hregs⟩

theorem deliverNet_spec (s : Dev) (f : NetFrame) : FrameKept s (s.deliverNet f) ∧ (s.deliverNet f).net = s.net ∧
    ∀ a, a ≠ NET_UNK_CNT → (s.deliverNet f).rd a = s.rd a := by
  unfold Dev.deliverNet
  split
  · exact ⟨FrameKept.refl s, rfl, fun _ _ => rfl⟩
  · exact ⟨(FrameKept.refl s).wr (a := NET_UNK_CNT) (by decide) _, rfl, fun a ha => rd_cntSat_ne s _ _ _ _ _ ha⟩

end Sys2Proof.Machine
end

section
/-! Forwarding, and a frame in HSR (R285, R287, R289). -/

namespace Sys2Proof.Machine

theorem egressPut_kept (s : Dev) (b : Bool) (x : NetTx) : FrameKept s (s.egressPut b x) ∧
    (∀ d, (s.egressPut b x).tab d = s.tab d) := by
  unfold Dev.egressPut
  split
  · exact ⟨FrameKept.refl s, fun _ => rfl⟩
  split
  · exact ⟨((FrameKept.refl s).wr (a := NET_DROP_CNT) (by decide) _).evW _ _ _, fun _ => rfl⟩
  · cases b
    · exact ⟨(FrameKept.refl s).net _ rfl, fun _ => rfl⟩
    · exact ⟨(FrameKept.refl s).net _ rfl, fun _ => rfl⟩

/-- A frame offered to the other port, as forwarding offers it (R287, R298). -/
def Dev.passed (s : Dev) (b : Bool) (f : NetFrame) (good : Bool) : NetTx :=
  { frame := { f with fcsOk := good }, fwd := true, ingressDelay := (s.rd (NET_PDELAY b)).toNat }

theorem forward_eq (s : Dev) (b : Bool) (f : NetFrame) (good : Bool) : s.forward b f good =
    if (s.dupAdd false (s.dupOf f b)).linkUp (!b) && (s.dupAdd false (s.dupOf f b)).egressRoom (!b) f then
      ((s.dupAdd false (s.dupOf f b)).egressPut (!b) ((s.dupAdd false (s.dupOf f b)).passed b f good)).cntWrap NET_FWD_CNT 31 0 1
    else (s.dupAdd false (s.dupOf f b)).egressPut (!b) ((s.dupAdd false (s.dupOf f b)).passed b f good) := rfl

/-- What forwarding leaves: its entry, and no register but three counts. -/
theorem forward_spec (s : Dev) (b : Bool) (f : NetFrame) (good : Bool) : FrameKept s (s.forward b f good) ∧
    (s.forward b f good).tab true = s.tab true ∧ ((s.forward b f good).tab false).getLast? = some (s.dupOf f b) ∧
    ∀ a, a ≠ NET_EVICT_CNT → a ≠ NET_DROP_CNT → a ≠ NET_FWD_CNT → (s.forward b f good).rd a = s.rd a := by
  obtain ⟨hadd, -, hlast, hother, hregs⟩ := dupAdd_spec s false (s.dupOf f b)
  rw [forward_eq]
  generalize s.dupAdd false (s.dupOf f b) = d at *
  obtain ⟨hput, htab⟩ := egressPut_kept d (!b) (d.passed b f good)
  obtain ⟨-, hputRegs, -, -⟩ := egressPut_leaves d (!b) (d.passed b f good)
  generalize d.egressPut (!b) (d.passed b f good) = e at *
  have hlast' : (e.tab false).getLast? = some (s.dupOf f b) := by rw [htab, hlast]
  have hother' : e.tab true = s.tab true := (htab true).trans (hother true (by decide))
  split
  · refine ⟨(hadd.trans hput).wr (a := NET_FWD_CNT) (by decide) _, hother', hlast', fun a hev hdrop hfwd => ?_⟩
    exact (rd_cntWrap_ne e _ _ _ _ _ hfwd).trans ((hputRegs a hdrop).trans (hregs a hev))
  · exact ⟨hadd.trans hput, hother', hlast', fun a hev hdrop _ => (hputRegs a hdrop).trans (hregs a hev)⟩

theorem pdelay_notCount (b : Bool) : NET_PDELAY b ∉ frameCounts := by
  revert b
  decide

/-- With room at the other port the frame comes last there, and is counted (R285, R287). -/
theorem forward_queues {s : Dev} {b : Bool} {f : NetFrame} (good : Bool) (hup : s.linkUp (!b) = true) (hmode : s.netMode ≠ 0)
    (hroom : s.buffered (!b) + f.len ≤ 262144) :
    ((s.forward b f good).port (!b)).egress = (s.port (!b)).egress ++ [s.passed b f good] ∧
    (s.forward b f good).fld NET_FWD_CNT 31 0 = (s.fld NET_FWD_CNT 31 0 + 1) % 2 ^ 32 := by
  obtain ⟨hadd, hport, -, -, hregs⟩ := dupAdd_spec s false (s.dupOf f b)
  rw [forward_eq]
  generalize s.dupAdd false (s.dupOf f b) = d at *
  have hup' : d.linkUp (!b) = true := (hadd.bit (a := NET_STAT) (by decide) _).trans hup
  have hmode' : d.netMode ≠ 0 := by
    unfold Dev.netMode
    rw [hadd.cfg]
    exact hmode
  have hroom' : d.buffered (!b) + f.len ≤ 262144 := by
    unfold Dev.buffered
    rw [hport]
    exact hroom
  have hpassed : d.passed b f good = s.passed b f good := by
    unfold Dev.passed
    rw [hadd.regs _ (pdelay_notCount b)]
  rw [if_pos (by rw [hup']; simpa [Dev.egressRoom] using hroom'), egressPut_takes hup' hmode' hroom', hpassed]
  refine ⟨?_, ?_⟩
  · refine (congrArg NetPort.egress (port_of_net (cntWrap_net _ _ _ _ _) (!b))).trans ?_
    rw [port_setPort, if_pos rfl, hport]
  · rw [fld_cntWrap_same _ _ _ _ _ (by decide) (by decide), (fld_window d _ _ _).2.2.2.2.2.2.2.1,
      fld_of_rd _ _ _ _ _ (hregs NET_FWD_CNT (by decide))]

/-! The stages of a frame in HSR. -/

/-- FCS and length of a frame are good (R283). -/
def frameSound (f : NetFrame) : Bool := f.fcsOk && decide (f.len ≤ 1528)

theorem sound_iff (f : NetFrame) : frameSound f = true ↔ frameGood f := by
  simp [frameSound, frameGood]

/-- The count of a bad frame, and forwarding (R283, R287). -/
def Dev.hsrThrough (s : Dev) (b : Bool) (f : NetFrame) (cut : Bool) : Dev :=
  let d := if frameSound f then s else s.rxErr b
  if f.dst == s.ownMac || s.dupHas s.net.fwdTab f || !(frameSound f || cut) then d else d.forward b f (frameSound f)

/-- The count of a duplicate (R285). -/
def Dev.dupCounted (s d : Dev) (f : NetFrame) : Dev :=
  if frameSound f && (s.dupHas s.net.delTab f || (s.dupHas s.net.fwdTab f && !(f.dst == s.ownMac))) then
    d.cntWrap NET_DUP_CNT 31 0 1 else d

/-- The count of a duplicate, and the delivery (R285). -/
def Dev.hsrDeliver (s d : Dev) (b : Bool) (f : NetFrame) : Dev :=
  let e := s.dupCounted d f
  if frameSound f && e.dstOk f.dst && !s.dupHas s.net.delTab f then (e.dupAdd true (e.dupOf f b)).deliverNet f else e

theorem hsrFrame_eq {s : Dev} {b : Bool} {f : NetFrame} (hsrc : f.src ≠ s.ownMac) (hlocal : linkLocal f = false) :
    s.hsrFrame b f = s.hsrDeliver (s.hsrThrough b f (bitOf s.net.cfg.toNat 6 && s.bit NET_STAT 2 == s.bit NET_STAT 3 &&
      (s.port (!b)).egress.isEmpty)) b f := by
  have hmac : (if frameSound f then s else s.rxErr b).ownMac = s.ownMac :=
    (FrameKept.ite _ (FrameKept.refl s) (rxErr_kept s b)).ownMac
  unfold Dev.hsrFrame
  rw [if_neg hsrc, if_neg (by rw [hlocal]; decide)]
  unfold Dev.hsrDeliver Dev.dupCounted Dev.hsrThrough
  rw [← hmac]
  rfl

theorem hsrThrough_kept (s : Dev) (b : Bool) (f : NetFrame) (cut : Bool) : FrameKept s (s.hsrThrough b f cut) ∧
    (s.hsrThrough b f cut).tab true = s.tab true := by
  have herr := FrameKept.ite (frameSound f = true) (FrameKept.refl s) (rxErr_kept s b)
  have htab : (if frameSound f then s else s.rxErr b).tab true = s.tab true := by
    split
    · rfl
    · cases b <;> rfl
  unfold Dev.hsrThrough
  dsimp only
  split
  · exact ⟨herr, htab⟩
  · obtain ⟨hkept, hdel, -, -⟩ := forward_spec (if frameSound f then s else s.rxErr b) b f (frameSound f)
    exact ⟨herr.trans hkept, hdel.trans htab⟩

theorem dupCounted_spec (s d : Dev) (f : NetFrame) : FrameKept d (s.dupCounted d f) ∧ (s.dupCounted d f).net = d.net ∧
    ∀ a, a ≠ NET_DUP_CNT → (s.dupCounted d f).rd a = d.rd a := by
  unfold Dev.dupCounted
  split
  · exact ⟨(FrameKept.refl d).cntWrap (a := NET_DUP_CNT) (by decide) _ _ _, rfl, fun a ha => rd_cntWrap_ne d _ _ _ _ _ ha⟩
  · exact ⟨FrameKept.refl d, rfl, fun _ _ => rfl⟩

/-- Delivery leaves the ports, what has been forwarded, and the counts of errors and of forwarded frames. -/
theorem hsrDeliver_keeps (s d : Dev) (b : Bool) (f : NetFrame) : (∀ c, (s.hsrDeliver d b f).port c = d.port c) ∧
    (s.hsrDeliver d b f).tab false = d.tab false ∧
    ∀ a, a ≠ NET_DUP_CNT → a ≠ NET_EVICT_CNT → a ≠ NET_UNK_CNT → (s.hsrDeliver d b f).rd a = d.rd a := by
  obtain ⟨-, hnet, hregs⟩ := dupCounted_spec s d f
  unfold Dev.hsrDeliver
  generalize s.dupCounted d f = e at *
  dsimp only
  split
  · obtain ⟨-, hportAdd, -, hother, hregsAdd⟩ := dupAdd_spec e true (e.dupOf f b)
    obtain ⟨-, hnetDel, hregsDel⟩ := deliverNet_spec (e.dupAdd true (e.dupOf f b)) f
    refine ⟨fun c => ?_, ?_, fun a hdup hev hunk => ?_⟩
    · rw [port_of_net hnetDel, hportAdd, port_of_net hnet]
    · exact (congrArg NetSt.fwdTab hnetDel).trans ((hother false (by decide)).trans (congrArg NetSt.fwdTab hnet))
    · rw [hregsDel a hunk, hregsAdd a hev, hregs a hdup]
  · exact ⟨port_of_net hnet, (congrArg NetSt.fwdTab hnet :), fun a hdup _ _ => hregs a hdup⟩

end Sys2Proof.Machine
end

section
/-! Frames from the ring in each mode (R281, R283 to R287, R289 to R291, R293). -/

namespace Sys2Proof.Machine

theorem frameBad_iff (f : NetFrame) : (1528 < f.len ∨ (!f.fcsOk) = true) ↔ ¬ frameGood f := by
  unfold frameGood
  cases f.fcsOk <;> simp

theorem sound_of_good {f : NetFrame} (h : frameGood f) : frameSound f = true := (sound_iff f).mpr h

theorem sound_of_bad {f : NetFrame} (h : ¬ frameGood f) : frameSound f = false :=
  Bool.eq_false_iff.mpr fun hs => h ((sound_iff f).mp hs)

section
variable {s : State} {b : Bool} {f : NetFrame}

theorem ringFrame_down (h : s.linkUp b = false) : s.toDev.ringFrame b f = s.toDev :=
  if_pos (by rw [h]; decide)

theorem ringFrame_plain (hup : s.linkUp b = true) (hmode : s.netMode = 1) : s.toDev.ringFrame b f =
    if 1528 < f.len ∨ !f.fcsOk then s.toDev.rxErr b else if s.dstOk f.dst then s.toDev.deliverNet f else s.toDev := by
  unfold Dev.ringFrame
  rw [if_neg (by rw [hup]; decide), if_neg (by omega), if_pos hmode]

theorem ringFrame_hsr (hup : s.linkUp b = true) (hmode : s.netMode = 2) : s.toDev.ringFrame b f = s.toDev.hsrFrame b f := by
  unfold Dev.ringFrame
  rw [if_neg (by rw [hup]; decide), if_pos hmode]

/-! The plain mode. -/

theorem unknown_answers {c : Instr} (hc : exec c s = done s (s.toDev.cntSat NET_UNK_CNT 31 0 1)) : Answers c s fun t =>
    Quiet [NET_UNK_CNT] s t ∧ t.fld NET_UNK_CNT 31 0 = min (2 ^ 32 - 1) (s.fld NET_UNK_CNT 31 0 + 1) := by
  refine answers_of_done hc ⟨⟨((Effect.refl [NET_UNK_CNT] s.toDev).cntSat (a := NET_UNK_CNT) (by simp) _ _ _).framed, noEvent_after rfl⟩, ?_⟩
  exact (settle_fld _ _ _ _ (by decide) (by decide)).trans (fld_cntSat_same _ _ _ _ _ (by decide) (by decide))

theorem plain_answers (hup : s.linkUp b = true) (hmode : s.netMode = 1) :
      (¬ frameGood f → Answers (.ringFrameReceived b f) s fun t => RxErr s t b ∧ Quiet [NET_RX_ERR] s t) ∧
      (frameGood f → s.dstOk f.dst = false ∨ s.listed f = true → NoEffect (.ringFrameReceived b f) s) ∧
      (frameGood f → s.dstOk f.dst = true → s.listed f = false → Answers (.ringFrameReceived b f) s fun t =>
        Quiet [NET_UNK_CNT] s t ∧ t.fld NET_UNK_CNT 31 0 = min (2 ^ 32 - 1) (s.fld NET_UNK_CNT 31 0 + 1)) := by
  have hdone := ringFrame_plain (f := f) hup hmode
  refine ⟨fun hbad => rxErr_answers (congrArg (done s) ?_), fun hgood h => noEffect_of_done rfl ?_,
    fun hgood hdst hlist => unknown_answers (congrArg (done s) ?_)⟩
  · rw [hdone, if_pos ((frameBad_iff f).mpr hbad)]
  · rw [hdone, if_neg fun hbad => (frameBad_iff f).mp hbad hgood]
    rcases h with hdst | hlist
    · exact if_neg (by rw [hdst]; decide)
    · rw [deliverNet_listed hlist]
      exact ite_self _
  · rw [hdone, if_neg fun hbad => (frameBad_iff f).mp hbad hgood, if_pos hdst, deliverNet_unknown hlist]

/-! HSR: own frames and link-local ones. -/

theorem spanPast_present (d : Dev) (ms : Nat) : d.spanPast d.seq.cyc ms = false :=
  decide_eq_false (by omega)

/-- The port as a returning supervision frame finds it (R289). -/
def Dev.supSeen (s : Dev) (b : Bool) : Dev := s.setPort b fun p => { p with sup := some s.seq.cyc }

/-- A supervision frame has returned on this port within 2 × LIFE_MS. -/
def Dev.supFresh (s : Dev) (b : Bool) : Bool := (s.port b).sup.elim false fun t => !s.spanPast t s.supMs

theorem supReturn_eq (s : Dev) (b : Bool) : s.supReturn b =
    if (s.supSeen b).supFresh false && (s.supSeen b).supFresh true && !(s.supSeen b).bit NET_STAT 4 then
      ((s.supSeen b).setBit NET_STAT 4 true).ev 0x0A03 0 0
    else s.supSeen b := rfl

theorem supSeen_port (s : Dev) (b c : Bool) : ((s.supSeen b).port c).sup = if c = b then some s.seq.cyc else (s.port c).sup := by
  unfold Dev.supSeen
  rw [port_setPort]
  split <;> rfl

theorem supReturn_port (s : Dev) (b : Bool) : ((s.supReturn b).port b).sup = some s.seq.cyc := by
  have hseen := (supSeen_port s b b).trans (if_pos rfl)
  rw [supReturn_eq]
  generalize s.supSeen b = d at *
  split <;> exact hseen

theorem supSeen_fresh {s : Dev} {b : Bool} {u : Nat} (hu : (s.port (!b)).sup = some u) (hfresh : s.spanPast u s.supMs = false) :
    (s.supSeen b).supFresh false = true ∧ (s.supSeen b).supFresh true = true := by
  have hport := supSeen_port s b
  have hspan : ∀ v, (s.supSeen b).spanPast v (s.supSeen b).supMs = s.spanPast v s.supMs := fun v => by
    cases b <;> rfl
  have hpresent := spanPast_present s s.supMs
  unfold Dev.supFresh
  rw [hport, hport]
  cases b
  · rw [if_pos rfl, if_neg (by decide), show (s.port true).sup = some u from hu]
    simp [hspan, hpresent, hfresh]
  · rw [if_neg (by decide), if_pos rfl, show (s.port false).sup = some u from hu]
    simp [hspan, hpresent, hfresh]

theorem ownFrame_answers (hup : s.linkUp b = true) (hmode : s.netMode = 2) (hsrc : f.src = s.ownMac) :
      (f.etype ≠ 0x88FB ∨ ¬ frameGood f → NoEffect (.ringFrameReceived b f) s) ∧
      (f.etype = 0x88FB → frameGood f → Answers (.ringFrameReceived b f) s fun t => (t.port b).sup = some s.seq.cyc ∧
        (∀ u, s.bit NET_STAT 4 = false → (s.port (!b)).sup = some u → s.spanPast u s.supMs = false →
          t.bit NET_STAT 4 = true ∧ OneEvent s t 0x0A03 0#32 0#32)) := by
  have hdone : s.toDev.ringFrame b f = if f.etype = 0x88FB ∧ frameSound f then s.toDev.supReturn b else s.toDev :=
    (ringFrame_hsr hup hmode).trans (if_pos hsrc)
  refine ⟨fun h => noEffect_of_done rfl (hdone.trans (if_neg ?_)), fun hetype hgood => ?_⟩
  · rcases h with h | h
    · exact fun h' => h h'.1
    · exact fun h' => h ((sound_iff f).mp h'.2)
  · refine answers_of_done (congrArg (done s) (hdone.trans (if_pos ⟨hetype, sound_of_good hgood⟩))) ⟨?_, fun u hopen hu hfresh => ?_⟩
    · rw [port_settle]
      exact supReturn_port _ _
    · obtain ⟨ha, hb⟩ := supSeen_fresh (s := s.toDev) hu hfresh
      have hbit : (s.supSeen b).bit NET_STAT 4 = false := ((bit_window s.toDev _ _).2.2.2.2.2.2.2.1 b _).trans hopen
      have hlog : (s.supSeen b).log = s.log := by cases b <;> rfl
      rw [supReturn_eq, if_pos (by rw [ha, hb, hbit]; decide)]
      generalize s.supSeen b = d at *
      refine ⟨?_, oneEvent_ev rfl (congrArg LogSt.raised ((setBit_log d _ _ _).trans hlog))⟩
      exact (settle_bit _ _ _ (by decide) (by decide)).trans (bit_setBit_same d NET_STAT 4 true (by decide))

theorem localFrame_answers (hup : s.linkUp b = true) (hmode : s.netMode = 2) (hsrc : f.src ≠ s.ownMac) (hlocal : linkLocal f = true) :
      (frameGood f → NoEffect (.ringFrameReceived b f) s) ∧
      (¬ frameGood f → Answers (.ringFrameReceived b f) s fun t => RxErr s t b ∧ Quiet [NET_RX_ERR] s t) := by
  have hdone : s.toDev.ringFrame b f = if frameSound f then s.toDev.deliverNet f else s.toDev.rxErr b :=
    (ringFrame_hsr hup hmode).trans ((if_neg hsrc).trans (if_pos hlocal))
  refine ⟨fun hgood => noEffect_of_done rfl ?_, fun hbad => rxErr_answers (congrArg (done s) ?_)⟩
  · rw [hdone, if_pos (sound_of_good hgood), deliverNet_listed (linkLocal_listed _ hlocal)]
  · rw [hdone, if_neg (by rw [sound_of_bad hbad]; decide)]

/-! HSR: frames of other devices. -/

theorem foreign_done (hup : s.linkUp b = true) (hmode : s.netMode = 2) (hsrc : f.src ≠ s.ownMac) (hlocal : linkLocal f = false) :
    s.toDev.ringFrame b f = s.toDev.hsrDeliver (s.toDev.hsrThrough b f (cutsThrough s b)) b f :=
  (ringFrame_hsr hup hmode).trans (hsrFrame_eq hsrc hlocal)

/-- A frame that forwarding takes, as the end of its meaning shows it. -/
theorem forwarded_after {e : Dev} {good : Bool} (he : FrameKept s.toDev e) (hport : ∀ c, e.port c = s.port c)
    (hcount : e.fld NET_FWD_CNT 31 0 = s.fld NET_FWD_CNT 31 0) (hroom : netRoom s (!b) f.len) :
    Forwarded s (s.after (s.toDev.hsrDeliver (e.forward b f good) b f)) b f good := by
  obtain ⟨hup, hmode, hfits⟩ := hroom
  obtain ⟨hkeptPort, htab, hkeptRegs⟩ := hsrDeliver_keeps s.toDev (e.forward b f good) b f
  obtain ⟨hqueue, hcnt⟩ := forward_queues (s := e) (b := b) (f := f) good ((he.bit (a := NET_STAT) (by decide) _).trans hup)
    (by rw [Dev.netMode, he.cfg]; exact hmode) (by rw [Dev.buffered, hport]; exact hfits)
  obtain ⟨-, -, hlast, -⟩ := forward_spec e b f good
  have hpassed : e.passed b f good = { frame := { f with fcsOk := good }, fwd := true, ingressDelay := (s.rd (NET_PDELAY b)).toNat } := by
    unfold Dev.passed
    rw [he.regs _ (pdelay_notCount b)]
  refine ⟨?_, ?_, ?_⟩
  · rw [port_settle, hkeptPort, hqueue, hport, hpassed]
  · rw [settle_net]
    refine (congrArg List.getLast? htab).trans (hlast.trans ?_)
    rw [he.dupOf]
  · rw [settle_fld _ _ _ _ (by decide) (by decide), fld_of_rd _ _ _ _ _ (hkeptRegs NET_FWD_CNT (by decide) (by decide) (by decide)),
      hcnt, hcount]

theorem foreign_forwards (hdone : s.toDev.ringFrame b f = s.toDev.hsrDeliver (s.toDev.hsrThrough b f (cutsThrough s b)) b f)
    (hgood : frameGood f) (hnew : s.dupHas s.net.fwdTab f = false) (hdst : f.dst ≠ s.ownMac) (hroom : netRoom s (!b) f.len) :
    Answers (.ringFrameReceived b f) s fun t => Forwarded s t b f true := by
  have hthrough : s.toDev.hsrThrough b f (cutsThrough s b) = s.toDev.forward b f true := by
    unfold Dev.hsrThrough
    rw [sound_of_good hgood, hnew]
    exact if_neg (by simpa using hdst)
  exact answers_of_done (congrArg (done s) (hdone.trans (by rw [hthrough])))
    (forwarded_after (FrameKept.refl _) (fun _ => rfl) rfl hroom)

theorem foreign_delivers (hdone : s.toDev.ringFrame b f = s.toDev.hsrDeliver (s.toDev.hsrThrough b f (cutsThrough s b)) b f)
    (hgood : frameGood f) (hnew : s.dupHas s.net.delTab f = false) (hdst : s.dstOk f.dst = true) :
    Answers (.ringFrameReceived b f) s fun t => t.net.delTab.getLast? = some (s.dupOf f b) := by
  refine answers_of_done (congrArg (done s) hdone) ?_
  obtain ⟨hkept, -⟩ := hsrThrough_kept s.toDev b f (cutsThrough s b)
  rw [settle_net]
  unfold Dev.hsrDeliver
  have hcount := hkept.trans (dupCounted_spec s.toDev (s.toDev.hsrThrough b f (cutsThrough s b)) f).1
  generalize s.toDev.dupCounted (s.toDev.hsrThrough b f (cutsThrough s b)) f = e at *
  have hdst' := (hcount.dstOk f.dst).trans hdst
  obtain ⟨-, -, hlast, -, -⟩ := dupAdd_spec e true (s.toDev.dupOf f b)
  rw [if_pos (by rw [sound_of_good hgood, hdst', hnew]; decide), (deliverNet_spec _ f).2.1, hcount.dupOf f b]
  exact hlast

/-- A frame that is counted as a duplicate and nothing else (R285, R290). -/
theorem duplicate_answers {c : Instr} (hc : exec c s = done s (s.toDev.cntWrap NET_DUP_CNT 31 0 1)) :
    Answers c s fun t => Duplicate s t := by
  refine answers_of_done hc ⟨?_, ((Effect.refl [NET_DUP_CNT] s.toDev).cntWrap (a := NET_DUP_CNT) (by simp) _ _ _).framed, noEvent_after rfl⟩
  exact (settle_fld _ _ _ _ (by decide) (by decide)).trans (fld_cntWrap_same _ _ _ _ _ (by decide) (by decide))

theorem foreign_duplicate (hdone : s.toDev.ringFrame b f = s.toDev.hsrDeliver (s.toDev.hsrThrough b f (cutsThrough s b)) b f)
    (hgood : frameGood f) (hfwd : s.dupHas s.net.fwdTab f = true)
    (h : s.dupHas s.net.delTab f = true ∨ f.dst ≠ s.ownMac ∧ s.dstOk f.dst = false) :
    Answers (.ringFrameReceived b f) s fun t => Duplicate s t := by
  have hsound := sound_of_good hgood
  have hthrough : s.toDev.hsrThrough b f (cutsThrough s b) = s.toDev := by
    unfold Dev.hsrThrough
    rw [hsound, hfwd]
    exact if_pos (by simp)
  have hdst : (s.toDev.cntWrap NET_DUP_CNT 31 0 1).dstOk f.dst = s.dstOk f.dst :=
    ((FrameKept.refl s.toDev).wr (a := NET_DUP_CNT) (by decide) _).dstOk f.dst
  refine duplicate_answers (congrArg (done s) (hdone.trans ?_))
  rw [hthrough]
  have hcounted : s.toDev.dupCounted s.toDev f = s.toDev.cntWrap NET_DUP_CNT 31 0 1 := by
    refine if_pos ?_
    rw [hsound, hfwd]
    rcases h with hdel | ⟨hother, -⟩
    · rw [hdel]
      rfl
    · simpa using .inr hother
  unfold Dev.hsrDeliver
  rw [hcounted]
  refine if_neg ?_
  rw [hdst]
  rcases h with hdel | ⟨-, hno⟩
  · simp [hdel]
  · simp [hno]

theorem foreign_bad (hdone : s.toDev.ringFrame b f = s.toDev.hsrDeliver (s.toDev.hsrThrough b f (cutsThrough s b)) b f)
    (hbad : ¬ frameGood f) :
        (cutsThrough s b = false → Answers (.ringFrameReceived b f) s fun t => RxErr s t b ∧ Quiet [NET_RX_ERR] s t) ∧
        (cutsThrough s b = true → s.dupHas s.net.fwdTab f = false → f.dst ≠ s.ownMac → netRoom s (!b) f.len →
          Answers (.ringFrameReceived b f) s fun t => RxErr s t b ∧ Forwarded s t b f false) := by
  have hsound := sound_of_bad hbad
  have hnone : ∀ d : Dev, s.toDev.hsrDeliver d b f = d := fun d => by
    unfold Dev.hsrDeliver Dev.dupCounted
    rw [hsound]
    rfl
  refine ⟨fun hcut => rxErr_answers (congrArg (done s) (hdone.trans ?_)), fun hcut hnew hdst hroom => ?_⟩
  · rw [hnone]
    unfold Dev.hsrThrough
    rw [hsound, hcut]
    exact if_pos (by simp)
  · have hthrough : s.toDev.hsrThrough b f (cutsThrough s b) = (s.toDev.rxErr b).forward b f false := by
      unfold Dev.hsrThrough
      rw [hsound, hcut, hnew]
      exact if_neg (by simpa using hdst)
    have hkept := rxErr_kept s.toDev b
    have hport : ∀ c, (s.toDev.rxErr b).port c = s.port c := fun c => by cases b <;> rfl
    have hcount : (s.toDev.rxErr b).fld NET_FWD_CNT 31 0 = s.fld NET_FWD_CNT 31 0 :=
      fld_of_rd _ _ _ _ _ ((rxErr_effect s.toDev b).regs _ (by decide))
    obtain ⟨-, -, -, hregs⟩ := forward_spec (s.toDev.rxErr b) b f false
    refine answers_of_done (congrArg (done s) (hdone.trans (by rw [hthrough]))) ⟨rxErr_counts ?_, forwarded_after hkept hport hcount hroom⟩
    rw [hnone]
    exact hregs _ (by decide) (by decide) (by decide)

end

end Sys2Proof.Machine
end

section
/-! Frames in PRP, and datagrams of IEC 61162-450 (R290, R293). -/

namespace Sys2Proof.Machine

/-- The mark of a frame whose LAN is not the port's (R290). -/
def Dev.wrongLan (s : Dev) (b : Bool) : Dev :=
  (s.cntSat NET_WRONG_LAN 31 0 1).evW 0x0A0E (BitVec.ofNat 32 (portNo b)) ((s.cntSat NET_WRONG_LAN 31 0 1).rd NET_WRONG_LAN)

/-- The delivery of a frame in PRP (R290). -/
def Dev.prpDeliver (s : Dev) (b : Bool) (f : NetFrame) : Dev :=
  if linkLocal f then s.deliverNet f
  else if s.dupHas s.net.delTab f then s.cntWrap NET_DUP_CNT 31 0 1
  else if s.dstOk f.dst then (s.dupAdd true (s.dupOf f b)).deliverNet f
  else s

theorem prpDeliver_regs (s : Dev) (b : Bool) (f : NetFrame) (a : Nat) (hdup : a ≠ NET_DUP_CNT) (hev : a ≠ NET_EVICT_CNT)
    (hunk : a ≠ NET_UNK_CNT) : (s.prpDeliver b f).rd a = s.rd a := by
  unfold Dev.prpDeliver
  split
  · exact (deliverNet_spec s f).2.2 a hunk
  split
  · exact rd_cntWrap_ne s _ _ _ _ _ hdup
  split
  · exact ((deliverNet_spec _ f).2.2 a hunk).trans ((dupAdd_spec s true (s.dupOf f b)).2.2.2.2 a hev)
  · rfl

section
variable {s : State} {b : Bool} {f : NetFrame}

theorem prpFrame_off (h : s.linkUp b = false ∨ s.netMode ≠ 3) : s.toDev.prpFrame b f = s.toDev :=
  if_pos (by rcases h with h | h <;> simp [h])

theorem prpFrame_bad (hup : s.linkUp b = true) (hmode : s.netMode = 3) (hbad : ¬ frameGood f) : s.toDev.prpFrame b f = s.toDev.rxErr b := by
  unfold Dev.prpFrame
  rw [if_neg (by rw [hup, hmode]; decide), if_pos ((frameBad_iff f).mpr hbad)]

theorem prpFrame_good (hup : s.linkUp b = true) (hmode : s.netMode = 3) (hgood : frameGood f) : s.toDev.prpFrame b f =
    (if f.lanB != b then s.toDev.wrongLan b else s.toDev).prpDeliver b f := by
  unfold Dev.prpFrame
  rw [if_neg (by rw [hup, hmode]; decide), if_neg fun hbad => (frameBad_iff f).mp hbad hgood]
  rfl

theorem wrongLan_answers (hup : s.linkUp b = true) (hmode : s.netMode = 3) (hgood : frameGood f) (hlan : f.lanB ≠ b) :
    Answers (.prpFrameReceived b f) s fun t => t.fld NET_WRONG_LAN 31 0 = min (2 ^ 32 - 1) (s.fld NET_WRONG_LAN 31 0 + 1) ∧
      (linkLocal f = true → OneEvent s t 0x0A0E (BitVec.ofNat 32 (portNo b)) (t.rd NET_WRONG_LAN)) := by
  have hdone := (prpFrame_good hup hmode hgood).trans (by rw [if_pos (by simpa using hlan)])
  have hregs := prpDeliver_regs (s.toDev.wrongLan b) b f NET_WRONG_LAN (by decide) (by decide) (by decide)
  refine answers_of_done (congrArg (done s) hdone) ⟨?_, fun hlocal => ?_⟩
  · rw [settle_fld _ _ _ _ (by decide) (by decide), fld_of_rd _ _ _ _ _ hregs]
    exact fld_cntSat_same s.toDev _ _ _ _ (by decide) (by decide)
  · rw [settle_rd _ _ (by decide) (by decide), hregs]
    unfold Dev.prpDeliver
    rw [if_pos hlocal, deliverNet_listed (linkLocal_listed _ hlocal)]
    exact oneEvent_evW rfl (congrArg LogSt.raised (cntSat_log s.toDev _ _ _ _))

section
variable (hdone : s.toDev.prpFrame b f = s.toDev.prpDeliver b f)
include hdone

theorem prp_local (hlocal : linkLocal f = true) : NoEffect (.prpFrameReceived b f) s :=
  noEffect_of_done rfl (hdone.trans ((if_pos hlocal).trans (deliverNet_listed (linkLocal_listed _ hlocal))))

variable (hlocal : linkLocal f = false)
include hlocal

theorem prp_duplicate (hdup : s.dupHas s.net.delTab f = true) : Answers (.prpFrameReceived b f) s fun t => Duplicate s t := by
  refine duplicate_answers (congrArg (done s) (hdone.trans ?_))
  unfold Dev.prpDeliver
  rw [if_neg (by rw [hlocal]; decide), if_pos hdup]

variable (hnew : s.dupHas s.net.delTab f = false)
include hnew

theorem prp_elsewhere (hdst : s.dstOk f.dst = false) : NoEffect (.prpFrameReceived b f) s := by
  refine noEffect_of_done rfl (hdone.trans ?_)
  unfold Dev.prpDeliver
  rw [if_neg (by rw [hlocal]; decide), if_neg (by rw [hnew]; decide), if_neg (by rw [hdst]; decide)]

variable (hdst : s.dstOk f.dst = true)
include hdst

theorem prp_delivers : s.toDev.prpFrame b f = (s.toDev.dupAdd true (s.dupOf f b)).deliverNet f := by
  rw [hdone]
  unfold Dev.prpDeliver
  rw [if_neg (by rw [hlocal]; decide), if_neg (by rw [hnew]; decide), if_pos hdst]

theorem prp_listed (hlist : s.listed f = true) :
        (s.net.delTab.length < 4096 → Answers (.prpFrameReceived b f) s fun t => NoEvent s t ∧
          Framed [] s t (blocks { s.toDev with net.delTab := s.net.delTab ++ [s.dupOf f b] })) ∧
        (4096 ≤ s.net.delTab.length → Answers (.prpFrameReceived b f) s fun t =>
          t.fld NET_EVICT_CNT 31 0 = min (2 ^ 32 - 1) (s.fld NET_EVICT_CNT 31 0 + 1) ∧
          OneEvent s t 0x0A05 1#32 (t.rd NET_EVICT_CNT) ∧
          Framed [NET_EVICT_CNT] s t (blocks { s.toDev with net.delTab := s.net.delTab.tail ++ [s.dupOf f b] })) := by
  have hadd := (prp_delivers hdone hlocal hnew hdst).trans
    (deliverNet_listed (((dupAdd_spec s.toDev true (s.dupOf f b)).1.listed f).trans hlist))
  rw [dupAdd_eq] at hadd
  refine ⟨fun hlen => ?_, fun hlen => ?_⟩
  · have hdone' := hadd.trans (if_neg (Nat.not_le.mpr hlen))
    exact answers_of_done (congrArg (done s) hdone') ⟨noEvent_after rfl, ((Effect.refl [] s.toDev).net _).framed⟩
  · have hdone' := hadd.trans (if_pos hlen)
    refine answers_of_done (congrArg (done s) hdone') ⟨?_, ?_, ?_⟩
    · exact (settle_fld _ _ _ _ (by decide) (by decide)).trans
        (fld_cntSat_same (s.toDev.setTab true (s.net.delTab.tail ++ [s.dupOf f b])) _ _ _ _ (by decide) (by decide))
    · rw [settle_rd _ _ (by decide) (by decide)]
      exact oneEvent_evW rfl (congrArg LogSt.raised (cntSat_log (s.toDev.setTab true (s.net.delTab.tail ++ [s.dupOf f b])) _ _ _ _))
    · exact ((((Effect.refl [NET_EVICT_CNT] s.toDev).net { s.net with delTab := s.net.delTab.tail ++ [s.dupOf f b] }).cntSat
        (a := NET_EVICT_CNT) (by simp) _ _ _).evW _ _ _).framed

theorem prp_unlisted (hlist : s.listed f = false) : Answers (.prpFrameReceived b f) s fun t =>
    t.net.delTab.getLast? = some (s.dupOf f b) ∧ t.fld NET_UNK_CNT 31 0 = min (2 ^ 32 - 1) (s.fld NET_UNK_CNT 31 0 + 1) := by
  obtain ⟨hkept, -, hlast, -, hregs⟩ := dupAdd_spec s.toDev true (s.dupOf f b)
  refine answers_of_done (congrArg (done s) ((prp_delivers hdone hlocal hnew hdst).trans
    (deliverNet_unknown ((hkept.listed f).trans hlist)))) ⟨?_, ?_⟩
  · rw [settle_net, cntSat_net]
    exact hlast
  · rw [settle_fld _ _ _ _ (by decide) (by decide), fld_cntSat_same _ _ _ _ _ (by decide) (by decide),
      fld_of_rd _ _ _ _ _ (hregs NET_UNK_CNT (by decide))]

end

/-! Datagrams of IEC 61162-450. -/

theorem s450_reports (ip : Word) (bytes : List Byte) (p : Nat) (hon : bitOf s.net.cfg.toNat 8 = true) (hroute : s.routed 9 = some p) :
    Answers (.s450DatagramReceived ip bytes) s fun t =>
        Reported s t p (beBytes 4 ip.toNat ++ leBytes 2 bytes.length ++ [0, 0] ++ bytes) := by
  have hdone : s.toDev.s450 ip bytes = s.toDev.report p 9 0 (beBytes 4 ip.toNat ++ leBytes 2 bytes.length ++ [0, 0] ++ bytes) := by
    unfold Dev.s450 Dev.reportRouted
    rw [if_pos hon, hroute]
  exact answers_of_done (congrArg (done s) hdone) (reported_after (routed_lt hroute) 9 0 _ rfl fun _ _ => rfl)

theorem s450_none (ip : Word) (bytes : List Byte) (h : bitOf s.net.cfg.toNat 8 = false ∨ s.routed 9 = none) :
    NoEffect (.s450DatagramReceived ip bytes) s := by
  refine noEffect_of_done rfl ?_
  unfold Dev.s450 Dev.reportRouted
  rcases h with h | h
  · exact if_neg (by rw [h]; decide)
  · rw [h]
    exact ite_self _

end

theorem ringFrame_otherMode {s : State} {b : Bool} {f : NetFrame} (h1 : s.netMode ≠ 1) (h2 : s.netMode ≠ 2) :
    NoEffect (.ringFrameReceived b f) s := by
  refine noEffect_of_done rfl ?_
  unfold Dev.ringFrame
  rw [if_neg h2, if_neg h1]
  exact ite_self _

/-- Settles O43: the modes in turn, by what the frame is. -/
theorem ringFrames : Obligations.RingFrames := by
  unfold Obligations.RingFrames
  refine fun s b f => ⟨fun hdown => ⟨noEffect_of_done rfl (ringFrame_down hdown), noEffect_of_done rfl (prpFrame_off (.inl hdown))⟩,
    ringFrame_otherMode, plain_answers, ownFrame_answers, localFrame_answers, fun hup hmode hsrc hlocal => ?_,
    fun hmode => noEffect_of_done rfl (prpFrame_off (.inr hmode)),
    fun hup hmode hbad => rxErr_answers (congrArg (done s) (prpFrame_bad hup hmode hbad)), wrongLan_answers,
    fun hup hmode hgood hlan => ?_, s450_none, s450_reports⟩
  · have hdone := foreign_done hup hmode hsrc hlocal
    exact ⟨fun hgood => ⟨foreign_forwards hdone hgood, foreign_delivers hdone hgood, foreign_duplicate hdone hgood⟩, foreign_bad hdone⟩
  · have hdone : s.toDev.prpFrame b f = s.toDev.prpDeliver b f :=
      (prpFrame_good hup hmode hgood).trans (by rw [if_neg (by simpa using hlan)])
    exact ⟨prp_local hdone, prp_duplicate hdone, fun hlocal hnew hdst hlist => prp_listed hdone hlocal hnew hdst hlist,
      fun hlocal hnew hdst hlist => prp_unlisted hdone hlocal hnew hdst hlist, fun hlocal hnew hdst => prp_elsewhere hdone hlocal hnew hdst⟩

end Sys2Proof.Machine
end

section
/-! The loss of network time (R295): what its event carries. -/

namespace Sys2Proof.Machine

/-- The device that has lost its clock (R295). -/
def Dev.clockGone (s : Dev) : Dev :=
  let d := s.setPort s.slaveB fun p => { p with heard := false }
  ({ d with net := { d.net with best := none, syncRun := 0 } } : Dev).showSlave

theorem clockGone_shows (s : Dev) : s.clockGone.timeSource = s.timeSource ∧
    s.clockGone.bit NET_TIME_STAT 3 = s.bit NET_TIME_STAT 3 ∧ s.clockGone.net.lastOfs = s.net.lastOfs ∧ s.clockGone.log = s.log := by
  unfold Dev.clockGone Dev.showSlave Dev.timeSource
  dsimp only
  rw [fld_setBit_ne _ _ _ _ _ _ (by decide) (by decide), bit_setBit_ne _ _ _ _ _ (by decide) (by decide), setBit_net, setBit_log]
  cases s.slaveB <;> exact ⟨rfl, rfl, rfl, rfl⟩

/-- With PTP as its source and outside holdover, a device that hears no Sync enters holdover, whose event carries the last offset
clamped to 32 bits (R218, R295). -/
theorem syncTimeout_holdover {s : State} (hslave : s.bit NET_TIME_STAT 5 = false) (hsource : s.timeSource = 2)
    (hhold : s.bit NET_TIME_STAT 3 = false) : OneEvent s (s.after s.toDev.syncTimeout) 0x0A09 0#32 (clamp32 s.net.lastOfs) := by
  obtain ⟨hgone, hbit, hlast, hlog⟩ := clockGone_shows s.toDev
  have hdone : s.toDev.syncTimeout =
      ((s.toDev.clockGone.setBit NET_TIME_STAT 3 true).raise 0x45).evI 0x0A09 0 s.toDev.clockGone.net.lastOfs := by
    unfold Dev.syncTimeout
    dsimp only
    rw [if_neg (by rw [hsource]; simp), if_neg (by rw [hslave]; simp)]
    exact if_pos ⟨hgone.trans hsource, by rw [show Dev.bit (Dev.showSlave _) NET_TIME_STAT 3 = s.bit NET_TIME_STAT 3 from hbit, hhold]; rfl⟩
  rw [hdone, hlast]
  generalize s.toDev.clockGone = d at *
  exact oneEvent_evW rfl (by simp [hlog])

/-- A device in PTP time whose last offset is 2^31 ns. -/
def farOffset : State :=
  { State.reset with toDev := { State.reset.toDev.wr NET_TIME_STAT 2#32 with net.lastOfs := 2 ^ 31 } }

/-- Refutes O44: the event of holdover carries the offset clamped to 32 bits, so the offset 2^31 shows as 0x7FFFFFFF, not wrapped. -/
theorem not_networkTime : ¬ Obligations.NetworkTime := by
  unfold Obligations.NetworkTime
  intro h
  have hfld : farOffset.timeSource = 2 := fld_wr_same State.reset.toDev NET_TIME_STAT 1 0 2#32
  have hbit : ∀ i, farOffset.bit NET_TIME_STAT i = bitOf 2 i := fun i => bit_wr_same State.reset.toDev NET_TIME_STAT i 2#32
  obtain ⟨-, -, -, -, -, hlost, -⟩ := h farOffset false
  obtain ⟨t, hexec, -, -, -, hptp⟩ := hlost (.inr ⟨hbit 5, hfld⟩)
  obtain ⟨e, hraised, -, -, hp2⟩ := (hptp hfld).2 (hbit 3)
  obtain ⟨e', hraised', -, -, hp2'⟩ := syncTimeout_holdover (hbit 5) hfld (hbit 3)
  have ht : farOffset.after farOffset.toDev.syncTimeout = t := Host.Outcome.next.inj hexec
  have he : e' = e := by
    rw [ht, hraised] at hraised'
    simpa using hraised'.symm
  exact absurd (hp2'.symm.trans (he ▸ hp2)) (by decide)

end Sys2Proof.Machine
end

section
/-! TNOW, captures and alarms (R303, R305, R306). -/

namespace Sys2Proof.Machine

section
variable {s : State}

theorem tnow_answers (s : State) : Answers .tnowRead s fun t => t.rd NET_TNOW_NS = stamp32 s.now ∧ t.rd NET_TNOW_ERA = eraOf s.now ∧
    OnlyRegs [NET_TNOW_NS, NET_TNOW_ERA] s t ∧ NoEvent s t := by
  refine answers_of_done rfl ⟨?_, ?_, ?_, noEvent_after rfl⟩
  · exact (settle_rd _ _ (by decide) (by decide)).trans
      ((rd_wr_ne (s.toDev.wr NET_TNOW_NS (stamp32 s.now)) _ _ _ (by decide)).trans (rd_wr_same _ _ _))
  · exact (settle_rd _ _ (by decide) (by decide)).trans (rd_wr_same (s.toDev.wr NET_TNOW_NS (stamp32 s.now)) _ _)
  · exact (((Effect.refl [NET_TNOW_NS, NET_TNOW_ERA] s.toDev).wr (a := NET_TNOW_NS) (by simp) _).wr (a := NET_TNOW_ERA)
      (by simp) _).spend.framed

/-! Captures. -/

/-- The edges that NET_EVT_CFG selects (R305). -/
def Dev.edgeTaken (s : Dev) (fall : Bool) (held : Nat) : Bool :=
  s.bit NET_EVT_CFG 0 && filtered (s.fld NET_EVT_CFG 10 3) held &&
    (s.fld NET_EVT_CFG 2 1 % 3 == 2 || (s.fld NET_EVT_CFG 2 1 % 3 == 1) == fall)

theorem evtIn_ignored {d : Dev} {fall : Bool} {e held : Nat} (h : d.edgeTaken fall held = false) : d.evtIn fall e held = d := by
  refine if_pos ?_
  revert h
  unfold Dev.edgeTaken
  cases d.bit NET_EVT_CFG 0 <;> cases filtered (d.fld NET_EVT_CFG 10 3) held <;> cases fall <;> simp

theorem evtIn_taken {d : Dev} {fall : Bool} {e held : Nat} (h : d.edgeTaken fall held = true) : d.evtIn fall e held =
    if 16 ≤ (d.raise 0x40).net.evt.length then
      (if ((d.raise 0x40).cntSat NET_EVT_STAT 31 16 1).net.ovrSaid then (d.raise 0x40).cntSat NET_EVT_STAT 31 16 1
       else Dev.ev { (d.raise 0x40).cntSat NET_EVT_STAT 31 16 1 with
          net := { ((d.raise 0x40).cntSat NET_EVT_STAT 31 16 1).net with ovrSaid := true } } 0x0A0B 0
          (((d.raise 0x40).cntSat NET_EVT_STAT 31 16 1).fld NET_EVT_STAT 31 16))
    else Dev.showEvt { d.raise 0x40 with net := { (d.raise 0x40).net with evt := (d.raise 0x40).net.evt ++
      [(((e : Rat) - (((d.raise 0x40).fld NET_EVT_CFG 10 3 + 3 : Nat) : Rat) * 16 / 5).floor, fall)] } } := by
  refine if_neg ?_
  revert h
  unfold Dev.edgeTaken
  cases d.bit NET_EVT_CFG 0 <;> cases filtered (d.fld NET_EVT_CFG 10 3) held <;> cases fall <;> simp <;> omega

theorem showEvt_shows (d : Dev) : d.showEvt.net = d.net ∧ d.showEvt.log = d.log ∧
    d.showEvt.fld NET_EVT_STAT 4 0 = d.net.evt.length % 32 ∧ ∀ i, d.showEvt.bit (HOST_EVT_PEND 2) i = d.bit (HOST_EVT_PEND 2) i := by
  unfold Dev.showEvt
  dsimp only
  refine ⟨by simp, by simp, by simp, fun i => ?_⟩
  rw [bit_wr_other _ _ _ _ _ (by decide), bit_wr_other _ _ _ _ _ (by decide), bit_setBit_other _ _ _ _ _ _ (by decide),
    bit_setFld_other _ _ _ _ _ _ _ (by decide)]

theorem evtIn_answers (fall : Bool) (e held : Nat) (hen : s.bit NET_EVT_CFG 0 = true) (hheld : s.fld NET_EVT_CFG 10 3 + 1 ≤ held)
    (hedge : s.fld NET_EVT_CFG 2 1 % 3 = 2 ∨ (s.fld NET_EVT_CFG 2 1 % 3 = 1 ↔ fall = true)) :
      (s.net.evt.length < 16 → Answers (.evtInCapture fall ⟨e, held⟩) s fun t =>
        t.net.evt = s.net.evt ++
          [(((e : Rat) - ((s.fld NET_EVT_CFG 10 3 + 3 : Nat) : Rat) * 16 / 5).floor, fall)] ∧
        t.fld NET_EVT_STAT 4 0 = s.net.evt.length + 1 ∧ t.bit (HOST_EVT_PEND 2) 0 = true ∧ NoEvent s t) ∧
      (16 ≤ s.net.evt.length → Answers (.evtInCapture fall ⟨e, held⟩) s fun t => t.net.evt = s.net.evt ∧
        t.fld NET_EVT_STAT 31 16 = min 65535 (s.fld NET_EVT_STAT 31 16 + 1)) := by
  have htaken : s.toDev.edgeTaken fall held = true := by
    unfold Dev.edgeTaken filtered
    rw [hen, decide_eq_true hheld]
    rcases hedge with h | h
    · simp [h]
    · cases fall <;> simp_all
  have hdone := evtIn_taken (e := e) htaken
  have hnet : (s.toDev.raise 0x40).net = s.net := raise_net _ _
  have hlog : (s.toDev.raise 0x40).log = s.log := raise_log _ _
  have hfld : ∀ x hi lo, x ≠ HOST_EVT_PEND 2 → (s.toDev.raise 0x40).fld x hi lo = s.fld x hi lo := fun x hi lo hx =>
    fld_raise_other _ _ _ _ _ hx
  have hpend : (s.toDev.raise 0x40).bit (HOST_EVT_PEND 2) 0 = true := by
    exact (bit_orMask s.toDev (HOST_EVT_PEND 2) 1 0 (by decide)).trans (by simp)
  generalize s.toDev.raise 0x40 = d at *
  rw [hnet] at hdone
  refine ⟨fun hroom => ?_, fun hfull => ?_⟩
  · rw [if_neg (Nat.not_le.mpr hroom), hfld _ _ _ (by decide)] at hdone
    obtain ⟨hshown, hshownLog, hcount, hbits⟩ := showEvt_shows { d with net := { s.net with evt := s.net.evt ++
      [(((e : Rat) - ((s.fld NET_EVT_CFG 10 3 + 3 : Nat) : Rat) * 16 / 5).floor, fall)] } }
    refine answers_of_done (congrArg (done s) hdone) ⟨?_, ?_, ?_, noEvent_after (congrArg LogSt.raised (hshownLog.trans hlog))⟩
    · exact congrArg NetSt.evt ((settle_net _).trans hshown)
    · refine (settle_fld _ _ _ _ (by decide) (by decide)).trans (hcount.trans ?_)
      rw [List.length_append, List.length_singleton]
      omega
    · exact (settle_bit _ _ _ (by decide) (by decide)).trans ((hbits 0).trans hpend)
  · rw [if_pos hfull] at hdone
    refine answers_of_done (congrArg (done s) hdone) ⟨?_, ?_⟩
    · rw [settle_net]
      split
      · exact (congrArg NetSt.evt hnet :)
      · exact (congrArg NetSt.evt hnet :)
    · rw [settle_fld _ _ _ _ (by decide) (by decide), ← hfld NET_EVT_STAT 31 16 (by decide)]
      split
      · exact fld_cntSat_same d _ _ _ _ (by decide) (by decide)
      · exact fld_cntSat_same d _ _ _ _ (by decide) (by decide)

theorem evtIn_none (fall : Bool) (e held : Nat) (h : s.bit NET_EVT_CFG 0 = false ∨ held < s.fld NET_EVT_CFG 10 3 + 1 ∨
      (s.fld NET_EVT_CFG 2 1 % 3 ≠ 2 ∧ (s.fld NET_EVT_CFG 2 1 % 3 = 1 ↔ fall = false))) :
    NoEffect (.evtInCapture fall ⟨e, held⟩) s := by
  refine noEffect_of_done rfl (evtIn_ignored ?_)
  unfold Dev.edgeTaken filtered
  rcases h with h | h | ⟨h2, h1⟩
  · rw [h]
    rfl
  · rw [decide_eq_false (Nat.not_le.mpr h), Bool.and_false]
    rfl
  · cases fall <;> simp_all

theorem evtPop_answers (hne : s.net.evt ≠ []) (hlen : s.net.evt.length ≤ 16) : Answers .evtPop s fun t => t.net.evt = s.net.evt.tail ∧
    t.fld NET_EVT_STAT 4 0 = s.net.evt.length - 1 ∧ NoEvent s t := by
  obtain ⟨hnet, hlog, hcount, -⟩ := showEvt_shows { s.toDev with net := { s.net with evt := s.net.evt.tail, ovrSaid := false } }
  have hdone : s.toDev.evtPop = Dev.showEvt { s.toDev with net := { s.net with evt := s.net.evt.tail, ovrSaid := false } } :=
    if_neg (by simpa using hne)
  refine answers_of_done (congrArg (done s) hdone) ⟨?_, ?_, noEvent_after (congrArg LogSt.raised hlog)⟩
  · exact congrArg NetSt.evt ((settle_net _).trans hnet)
  · refine (settle_fld _ _ _ _ (by decide) (by decide)).trans (hcount.trans ?_)
    rw [List.length_tail]
    omega

end

/-! Alarms. -/

/-- NET_ALARM_CTL as a write stores it (R306). -/
def Dev.alarmStored (s : Dev) (a : Nat) (v : Word) : Word := ((s.rd (NET_ALARM_CTL a) &&& ~~~1#32) ||| (v &&& 1#32)) &&& ~~~(v &&& 2#32)

theorem alarmCtl_store (s : Dev) (a : Fin 4) (v : Word) : s.store (NET_ALARM_CTL a) v = s.wr (NET_ALARM_CTL a) (s.alarmStored a v) :=
  store_eq_wr (r := { off := 0x188, rw := 1, w1c := 2, n2 := 4, s2 := 0x10 }) (by revert a; decide) s v

theorem alarmStored_zero (s : Dev) (a : Nat) (v : Word) : bitOf (s.alarmStored a v).toNat 0 = v.getLsbD 0 := by
  rw [bitOf_toNat]
  simp [Dev.alarmStored]

theorem alarmCtl_apart (a : Fin 4) : NET_ALARM_CTL a ≠ SAFE_OUT_STAT ∧ NET_ALARM_CTL a ≠ SAFE_STAT ∧ NET_ALARM_ERA a ≠ NET_ALARM_CTL a ∧
    NET_ALARM_NS a ≠ NET_ALARM_CTL a ∧ NET_ALARM_CTL a ≠ HOST_EVT_PEND ((0x41 + a.val) / 32) ∧ (0x41 + a.val) / 32 = 2 := by
  have := a.isLt
  simp only [NET_ALARM_CTL, NET_ALARM_ERA, NET_ALARM_NS, SAFE_OUT_STAT, SAFE_STAT, HOST_EVT_PEND]
  omega

/-- The bits of an alarm that fires (R306). -/
def Dev.alarmMarked (d : Dev) (a : Nat) (late stepped : Bool) : Dev :=
  (((d.setBit (NET_ALARM_CTL a) 0 false).setBit (NET_ALARM_CTL a) 1 true).setBit (NET_ALARM_CTL a) 2 late).setBit (NET_ALARM_CTL a) 3 stepped

theorem alarmGo_eq (d : Dev) (a : Nat) (late stepped : Bool) : d.alarmGo a late stepped =
    if late then ((d.alarmMarked a late stepped).raise (0x41 + a)).ev 0x0A0C a 0 else (d.alarmMarked a late stepped).raise (0x41 + a) := rfl

theorem alarmMarked_spec (d : Dev) (a : Nat) (late stepped : Bool) : (d.alarmMarked a late stepped).bit (NET_ALARM_CTL a) 0 = false ∧
    (d.alarmMarked a late stepped).bit (NET_ALARM_CTL a) 1 = true ∧ (d.alarmMarked a late stepped).bit (NET_ALARM_CTL a) 2 = late ∧
    (d.alarmMarked a late stepped).bit (NET_ALARM_CTL a) 3 = stepped ∧ (d.alarmMarked a late stepped).log = d.log := by
  unfold Dev.alarmMarked
  simp

theorem alarmMarked_effect {l : List Nat} {s d b : Dev} (h : Effect l s d b) {a : Nat} (ha : NET_ALARM_CTL a ∈ l) (late stepped : Bool) :
    Effect l s (d.alarmMarked a late stepped) b :=
  (((h.setBit ha 0 false).setBit ha 1 true).setBit ha 2 late).setBit ha 3 stepped

/-- An alarm that fires: its bits, its frame, and its event when it is late (R306). -/
theorem alarmGo_after {s : State} {d : Dev} (a : Fin 4) (late stepped : Bool)
    (hd : Effect [NET_ALARM_CTL a, HOST_EVT_PEND 2] s.toDev d (blocks s.toDev)) (hlog : d.log.raised = s.log.raised) :
    (s.after (d.alarmGo a late stepped)).bit (NET_ALARM_CTL a) 0 = false ∧ (s.after (d.alarmGo a late stepped)).bit (NET_ALARM_CTL a) 1 = true ∧
    (s.after (d.alarmGo a late stepped)).bit (NET_ALARM_CTL a) 2 = late ∧ (s.after (d.alarmGo a late stepped)).bit (NET_ALARM_CTL a) 3 = stepped ∧
    OnlyRegs [NET_ALARM_CTL a, HOST_EVT_PEND 2] s (s.after (d.alarmGo a late stepped)) ∧
    (late = true → OneEvent s (s.after (d.alarmGo a late stepped)) 0x0A0C (BitVec.ofNat 32 a) 0#32) ∧
    (late = false → NoEvent s (s.after (d.alarmGo a late stepped))) := by
  obtain ⟨hout, hstat, -, -, hpend, hidx⟩ := alarmCtl_apart a
  have heff := alarmMarked_effect hd (a := a) (by simp) late stepped
  obtain ⟨h0, h1, h2, h3, hmarked⟩ := alarmMarked_spec d a late stepped
  rw [alarmGo_eq]
  generalize d.alarmMarked a late stepped = e at *
  have hraised := heff.raise (n := 0x41 + a.val) (by rw [hidx]; exact List.mem_cons_of_mem _ (List.mem_singleton_self _))
  have hlog' : (e.raise (0x41 + a.val)).log.raised = s.log.raised := by rw [raise_log, hmarked, hlog]
  have hbit : ∀ i, (e.raise (0x41 + a.val)).bit (NET_ALARM_CTL a) i = e.bit (NET_ALARM_CTL a) i := fun i => bit_raise_other e _ _ i hpend
  generalize e.raise (0x41 + a.val) = m at *
  have hshown : ∀ i, (s.after (if late then m.ev 0x0A0C a 0 else m)).bit (NET_ALARM_CTL a) i = e.bit (NET_ALARM_CTL a) i := fun i => by
    refine (settle_bit _ _ _ hout hstat).trans ((hbit i).symm ▸ ?_)
    split <;> rfl
  refine ⟨(hshown 0).trans h0, (hshown 1).trans h1, (hshown 2).trans h2, (hshown 3).trans h3,
    (Effect.ite _ (fun _ => hraised.ev _ _ _) fun _ => hraised).framed, fun hlate => ?_, fun hlate => ?_⟩
  · rw [if_pos hlate]
    exact oneEvent_ev rfl hlog'
  · rw [if_neg (by rw [hlate]; decide)]
    exact noEvent_after hlog'

/-- The alarm as a write that arms it finds it: stored, with LATE and STEPPED cleared. -/
def Dev.alarmArmed (s : Dev) (a : Nat) (v : Word) : Dev := (s.wr (NET_ALARM_CTL a) (s.alarmStored a v)).clrMask (NET_ALARM_CTL a) 0xC

theorem alarmArmed_spec (s : Dev) (a : Fin 4) (v : Word) : Effect [NET_ALARM_CTL a] s (s.alarmArmed a v) (blocks s) ∧
    (s.alarmArmed a v).log = s.log ∧ (s.alarmArmed a v).alarmNs a = s.alarmNs a ∧ (s.alarmArmed a v).now = s.now ∧
    (s.alarmArmed a v).bit (NET_ALARM_CTL a) 0 = v.getLsbD 0 ∧ (s.alarmArmed a v).bit (NET_ALARM_CTL a) 2 = false ∧
    (s.alarmArmed a v).bit (NET_ALARM_CTL a) 3 = false := by
  obtain ⟨-, -, hera, hns, -, -⟩ := alarmCtl_apart a
  have hbit : ∀ i, i < 32 → (s.alarmArmed a v).bit (NET_ALARM_CTL a) i = (bitOf (s.alarmStored a v).toNat i && !(BitVec.ofNat 32 0xC).getLsbD i) := fun i hi => by
    rw [Dev.alarmArmed, bit_eq_getLsbD, Dev.clrMask, rd_wr_same, rd_wr_same, bitOf_toNat, BitVec.getLsbD_and, BitVec.getLsbD_not,
      decide_eq_true hi, Bool.true_and]
  refine ⟨((Effect.refl _ s).wr (a := NET_ALARM_CTL a) (by simp) _).clrMask (a := NET_ALARM_CTL a) (by simp) _, rfl, ?_, rfl, ?_, ?_, ?_⟩
  · unfold Dev.alarmNs Dev.alarmArmed
    rw [rd_clrMask_ne _ _ _ _ hera, rd_clrMask_ne _ _ _ _ hns, rd_wr_ne _ _ _ _ hera, rd_wr_ne _ _ _ _ hns]
  · rw [hbit 0 (by decide), alarmStored_zero, show (BitVec.ofNat 32 0xC).getLsbD 0 = false from rfl, Bool.not_false, Bool.and_true]
  · rw [hbit 2 (by decide), show (BitVec.ofNat 32 0xC).getLsbD 2 = true from rfl, Bool.not_true, Bool.and_false]
  · rw [hbit 3 (by decide), show (BitVec.ofNat 32 0xC).getLsbD 3 = true from rfl, Bool.not_true, Bool.and_false]

theorem alarmArm_arms {s : State} {a : Fin 4} (v : Word) (hidle : s.bit (NET_ALARM_CTL a) 0 = false) (hset : v.getLsbD 0 = true) :
    s.toDev.alarmArm a v = if s.alarmNs a < s.now then (s.toDev.alarmArmed a v).spend.alarmGo a true false
      else (s.toDev.alarmArmed a v).spend := by
  obtain ⟨-, -, hns, hnow, -, -, -⟩ := alarmArmed_spec s.toDev a v
  have hlate : (decide ((s.toDev.alarmArmed a v).alarmNs a < (s.toDev.alarmArmed a v).now) = true) ↔ s.alarmNs a < s.now := by
    rw [hns, hnow, decide_eq_true_eq]
  unfold Dev.alarmArm
  dsimp only
  rw [if_pos (by rw [bitOf_toNat, hset, hidle]; decide), alarmCtl_store]
  exact if_congr hlate rfl rfl

theorem alarmArm_answers {s : State} {a : Fin 4} (v : Word) (hidle : s.bit (NET_ALARM_CTL a) 0 = false) (hset : v.getLsbD 0 = true) :
      (s.now ≤ s.alarmNs a → Answers (.alarmArm a v) s fun t => t.bit (NET_ALARM_CTL a) 0 = true ∧
        t.bit (NET_ALARM_CTL a) 2 = false ∧ t.bit (NET_ALARM_CTL a) 3 = false ∧ OnlyRegs [NET_ALARM_CTL a] s t ∧ NoEvent s t) ∧
      (s.alarmNs a < s.now → Answers (.alarmArm a v) s fun t => t.bit (NET_ALARM_CTL a) 0 = false ∧
        t.bit (NET_ALARM_CTL a) 1 = true ∧ t.bit (NET_ALARM_CTL a) 2 = true ∧ OneEvent s t 0x0A0C (BitVec.ofNat 32 a) 0#32 ∧
        OnlyRegs [NET_ALARM_CTL a, HOST_EVT_PEND 2] s t) := by
  obtain ⟨heff, hlog, -, -, h0, h2, h3⟩ := alarmArmed_spec s.toDev a v
  obtain ⟨hout, hstat, -⟩ := alarmCtl_apart a
  have hdone := alarmArm_arms v hidle hset
  refine ⟨fun hfuture => ?_, fun hpast => ?_⟩
  · rw [if_neg (Int.not_lt.mpr hfuture)] at hdone
    exact answers_of_done (congrArg (done s) hdone) ⟨(settle_bit _ _ _ hout hstat).trans (h0.trans hset), (settle_bit _ _ _ hout hstat).trans h2,
      (settle_bit _ _ _ hout hstat).trans h3, heff.spend.framed, noEvent_after (congrArg LogSt.raised hlog)⟩
  · rw [if_pos hpast] at hdone
    obtain ⟨hb0, hb1, hb2, -, hregs, hevent, -⟩ := alarmGo_after (s := s) a true false (heff.spend.weaken (by simp)) (congrArg LogSt.raised hlog)
    exact answers_of_done (congrArg (done s) hdone) ⟨hb0, hb1, hb2, hevent rfl, hregs⟩

theorem alarmArm_clears {s : State} {a : Fin 4} (v : Word) (hclear : v.getLsbD 0 = false) : Answers (.alarmArm a v) s fun t =>
    t.bit (NET_ALARM_CTL a) 0 = false ∧ OnlyRegs [NET_ALARM_CTL a] s t ∧ NoEvent s t := by
  obtain ⟨hout, hstat, -⟩ := alarmCtl_apart a
  have hdone : s.toDev.alarmArm a v = s.toDev.wr (NET_ALARM_CTL a) (s.toDev.alarmStored a v) := by
    rw [← alarmCtl_store]
    exact if_neg (by rw [bitOf_toNat, hclear]; simp)
  refine answers_of_done (congrArg (done s) hdone) ⟨?_, ((Effect.refl _ s.toDev).wr (a := NET_ALARM_CTL a) (by simp) _).framed, noEvent_after rfl⟩
  exact (settle_bit _ _ _ hout hstat).trans ((bit_wr_same _ _ _ _).trans ((alarmStored_zero _ _ _).trans hclear))

theorem alarmFire_answers {s : State} {a : Fin 4} (harmed : s.bit (NET_ALARM_CTL a) 0 = true)
    (hdue : (s.alarmNs a : Rat) < s.clk.localNs + 375000) : Answers (.alarmFire a) s fun t =>
      t.bit (NET_ALARM_CTL a) 0 = false ∧ t.bit (NET_ALARM_CTL a) 1 = true ∧ t.bit (NET_ALARM_CTL a) 2 = false ∧
      t.bit (NET_ALARM_CTL a) 3 = false ∧ OnlyRegs [NET_ALARM_CTL a, HOST_EVT_PEND 2] s t ∧ NoEvent s t := by
  obtain ⟨h0, h1, h2, h3, hregs, -, hnone⟩ := alarmGo_after (s := s) a false false (Effect.refl _ s.toDev) rfl
  exact answers_of_done (congrArg (done s) (if_pos ⟨harmed, hdue⟩)) ⟨h0, h1, h2, h3, hregs, hnone rfl⟩

/-- Settles O45: the latch of the present, the captures, and the alarms. -/
theorem capturesAndAlarms : Obligations.CapturesAndAlarms := by
  unfold Obligations.CapturesAndAlarms
  refine fun s a => ⟨tnow_answers s, fun fall e held => evtIn_answers fall e held, evtIn_none, evtPop_answers,
    fun hnone => noEffect_of_done rfl (if_pos (by rw [hnone]; rfl)), fun v => alarmArm_answers v, fun v => alarmArm_clears v, alarmFire_answers,
    fun h => noEffect_of_done rfl (if_neg ?_)⟩
  rcases h with h | h
  · rw [h]
    exact fun ⟨harmed, _⟩ => absurd harmed (by decide)
  · exact fun ⟨_, hdue⟩ => absurd hdue (not_lt.mpr h)

end Sys2Proof.Machine
end

section
/-! Standing: what is held for the boundary, and what is noted (R317, R321, R322, R327, R328, R331). -/

namespace Sys2Proof.Machine

/-- A command whose meaning leaves the device alone but for one engine. -/
theorem framed_stand (s : State) (x : StandSt) : NoEvent s (s.after { s.toDev with stand := x }) ∧
    Framed [] s (s.after { s.toDev with stand := x }) (blocks { s.toDev with stand := x }) :=
  ⟨noEvent_after rfl, ((Effect.refl [] s.toDev).stand x).framed⟩

section
variable {s : State} {p : List Byte}

/-! Heartbeats and frames are held. -/

theorem heartbeat_answers (hgood : s.roleBad = false) (hrole : s.role ≠ 3) (hkind : u8 p 0 = 0x11) :
      (s.peerRole (u8 p 2 % 16) = some 0 → s.role ≠ 0 → Answers (.heartbeatReceived p) s fun t => NoEvent s t ∧
        Framed [] s t (blocks { s.toDev with stand.hbLead := some (BitVec.ofNat 32 (u32 p 16)) })) ∧
      (s.peerRole (u8 p 2 % 16) = some 1 → s.role ≠ 1 → Answers (.heartbeatReceived p) s fun t => NoEvent s t ∧
        Framed [] s t (blocks { s.toDev with stand.hbSecond := some (BitVec.ofNat 32 (u32 p 16)) })) ∧
      (s.peerRole (u8 p 2 % 16) = none → NoEffect (.heartbeatReceived p) s) := by
  have hheld : ¬ ((s.roleBad = true) ∨ s.role = 3 ∨ u8 p 0 ≠ 0x11) := by
    rw [hgood]
    simp [hrole, hkind]
  refine ⟨fun hpeer hne => ?_, fun hpeer hne => ?_, fun hpeer => noEffect_of_done rfl ?_⟩
  · refine answers_of_done (congrArg (done s) ?_) (framed_stand s { s.stand with hbLead := some (BitVec.ofNat 32 (u32 p 16)) })
    unfold Dev.heartbeat
    rw [if_neg hheld, hpeer]
    exact if_neg hne
  · refine answers_of_done (congrArg (done s) ?_) (framed_stand s { s.stand with hbSecond := some (BitVec.ofNat 32 (u32 p 16)) })
    unfold Dev.heartbeat
    rw [if_neg hheld, hpeer]
    exact if_neg hne
  · unfold Dev.heartbeat
    rw [if_neg hheld, hpeer]

theorem standingFrame_answers (hpeer : s.isPeer = true) (hen : s.wardenEn = true) (hkind : u8 p 0 = 0x12)
    (hunit : u8 p 2 % 16 = s.stdUnit 2) : Answers (.standingFrameReceived p) s fun t =>
      NoEvent s t ∧ Framed [] s t (blocks { s.toDev with stand.frame := some {
        dseq := u16 p 16, unit := u8 p 18 % 16, role := bitsOf (u8 p 18) 5 4, decided := bitOf (u8 p 18) 6, reason := u8 p 19 } }) :=
  answers_of_done (congrArg (done s) (if_pos (by rw [hpeer, hen, hkind, hunit]; simp))) (framed_stand s _)

theorem standingFrame_none (h : s.isPeer = false ∨ s.wardenEn = false ∨ u8 p 0 ≠ 0x12 ∨ u8 p 2 % 16 ≠ s.stdUnit 2) :
    NoEffect (.standingFrameReceived p) s :=
  noEffect_of_done rfl (if_neg (by rcases h with h | h | h | h <;> simp [h]))

theorem setPart_answers (hpeer : s.isPeer = true) (hholds : s.holds = false) (hkind : u8 p 0 = 0x13)
    (hrole : s.peerRole (u8 p 2 % 16) = some (1 - s.role)) (hsect : u8 p 16 ≤ 2) :
      Answers (.stateSetPartReceived p) s fun t => NoEvent s t ∧ Framed [] s t (blocks { s.toDev with stand.parts :=
        ({ set := u32 p 20, npart := u8 p 18, part := u8 p 17, sect := u8 p 16, cnt := u8 p 19, bytes := p.drop 24 } : SetPart) ::
          (s.stand.parts.filter (fun y => !(y.set == u32 p 20 && y.part == u8 p 17))) }) :=
  answers_of_done (congrArg (done s) (if_pos (by rw [hpeer, hholds, hkind, hrole]; simpa using hsect))) (framed_stand s _)

theorem setPart_none (h : s.isPeer = false ∨ s.holds = true ∨ u8 p 0 ≠ 0x13 ∨ s.peerRole (u8 p 2 % 16) ≠ some (1 - s.role) ∨ 2 < u8 p 16) :
    NoEffect (.stateSetPartReceived p) s :=
  noEffect_of_done rfl (if_neg (by rcases h with h | h | h | h | h <;> simp [h]))

/-! Lost tracking and swaps. -/

theorem trackGone_answers (hpeer : s.isPeer = true) (hholds : s.holds = false) (hnew : s.bit STAND_STAT 6 = false)
    (hmiss : s.fld STAND_CFG 23 20 < s.stand.trackMiss) : Answers .trackLost s fun t =>
      t.bit STAND_STAT 6 = true ∧ OneEvent s t 0x0B05 0#32 (BitVec.ofNat 32 s.stand.trackMiss) ∧ OnlyRegs [STAND_STAT] s t := by
  have hdone : s.toDev.trackGone = (s.toDev.setBit STAND_STAT 6 true).ev 0x0B05 0 s.stand.trackMiss :=
    if_pos (by rw [hpeer, hholds, hnew]; simpa using hmiss)
  refine answers_of_done (congrArg (done s) hdone) ⟨?_, oneEvent_ev rfl (congrArg LogSt.raised (setBit_log _ _ _ _)), ?_⟩
  · exact (settle_bit _ _ _ (by decide) (by decide)).trans (bit_setBit_same s.toDev STAND_STAT 6 true (by decide))
  · exact (((Effect.refl [STAND_STAT] s.toDev).setBit (a := STAND_STAT) (by simp) _ _).ev _ _ _).framed

theorem trackGone_none (h : s.isPeer = false ∨ s.holds = true ∨ s.bit STAND_STAT 6 = true ∨ s.stand.trackMiss ≤ s.fld STAND_CFG 23 20) :
    NoEffect .trackLost s :=
  noEffect_of_done rfl (if_neg (by rcases h with h | h | h | h <;> simp [h]))

theorem swapFalls_answers (hwarden : s.isWarden = true) (hholder : s.stand.holder ≠ none) (hset : s.fld STAND_SWAP 15 0 ≠ 0)
    (hdue : s.fld STAND_SWAP 15 0 * 180000 ≤ s.stand.heldCycles) : Answers .swapDue s fun t =>
      Framed [] s t (blocks { s.toDev with stand.swapDue := true }) ∧ NoEvent s t := by
  have hsome : s.stand.holder.isSome = true := Option.isSome_iff_ne_none.mpr hholder
  exact answers_of_done (congrArg (done s) (if_pos (by rw [hwarden, hsome]; simpa using ⟨hset, hdue⟩))) (framed_stand s _).symm

theorem swapFalls_none (h : s.isWarden = false ∨ s.stand.holder = none ∨ s.fld STAND_SWAP 15 0 = 0 ∨
    s.stand.heldCycles < s.fld STAND_SWAP 15 0 * 180000) : NoEffect .swapDue s :=
  noEffect_of_done rfl (if_neg (by rcases h with h | h | h | h <;> simp [h]))

theorem swapCommand_answers (hwarden : s.isWarden = true) :
    (s.sessOk 2 = true → Answers .standingSwapCommand s fun t =>
      Framed [] s t (blocks { s.toDev.sessUse with stand.cmd := true }) ∧ NoEvent s t) ∧
    (s.sessOk 2 = false → Answers .standingSwapCommand s fun t => OneEvent s t 0x0B07 0#32 1#32 ∧ OnlyRegs [] s t) := by
  refine ⟨fun hopen => ?_, fun hclosed => event_answers (congrArg (done s) ((if_pos hwarden).trans (if_neg (by rw [hclosed]; decide))))⟩
  exact answers_of_done (congrArg (done s) ((if_pos hwarden).trans (if_pos hopen)))
    ⟨(((Effect.refl [] s.toDev).glade { s.glade with idleAt := s.seq.cyc }).stand { s.stand with cmd := true }).framed, noEvent_after rfl⟩

end

/-! The loss of the Warden: the self rule (R322). -/

/-- What the self rule decides. -/
def Dev.selfHolds (s : Dev) : Bool :=
  let other := s.present (1 - s.role) && s.peerFit (1 - s.role)
  if s.role = 0 then s.bit STAND_SDW 0 || !other else !other && s.bit STAND_SDW 0

theorem setHolds_spec (s : Dev) (h : Bool) : (s.setHolds h).holds = h ∧ (s.setHolds h).bit STAND_STAT 5 = s.bit STAND_STAT 5 ∧
    (s.setHolds h).log = s.log := by
  unfold Dev.setHolds Dev.holds
  cases h <;> simp <;> split <;> simp

theorem setHolds_effect {l : List Nat} {s d b : Dev} (he : Effect l s d b) (hstat : STAND_STAT ∈ l) (hpend : HOST_EVT_PEND 2 ∈ l) (h : Bool) :
    ∃ x, Effect l s (d.setHolds h) { b with stand := x } := by
  have hset := he.setBit hstat 3 h
  have hb : b = { b with stand := d.stand } := by
    rw [← he.engines]
    rfl
  unfold Dev.setHolds
  dsimp only
  cases h with
  | true =>
    have htrack := (hset.setBit hstat 6 false).stand { d.stand with trackMiss := 0 }
    exact ⟨_, Effect.ite _ (fun _ => htrack) fun _ => htrack.raise (n := 0x58) hpend⟩
  | false =>
    refine ⟨d.stand, ?_⟩
    rw [← hb]
    exact Effect.ite _ (fun _ => hset) fun _ => hset.raise (n := 0x58) hpend

/-- The self rule and the word that shows it. -/
def Dev.selfRuled (s : Dev) : Dev := s.selfRule.wrN STAND_SDW s.selfRule.sdw

theorem selfRule_eq (s : Dev) : s.selfRule = { s.setHolds s.selfHolds with
    stand := { (s.setHolds s.selfHolds).stand with standing := s.selfHolds, shadow := !s.selfHolds } } := rfl

theorem selfRuled_spec (s : Dev) : s.selfRuled.holds = s.selfHolds ∧ s.selfRuled.bit STAND_STAT 5 = s.bit STAND_STAT 5 ∧
    s.selfRuled.stand.standing = s.selfHolds ∧ s.selfRuled.stand.shadow = (!s.selfHolds) ∧ s.selfRuled.log = s.log := by
  obtain ⟨hholds, hbit, hlog⟩ := setHolds_spec s s.selfHolds
  have hshown : ∀ (d : Dev) v i, (d.wrN STAND_SDW v).bit STAND_STAT i = d.bit STAND_STAT i := fun d v i =>
    bit_wrN_other d _ _ _ _ (by decide)
  unfold Dev.selfRuled Dev.holds
  rw [hshown, hshown, wrN_stand, wrN_log, selfRule_eq]
  generalize s.setHolds s.selfHolds = d at *
  exact ⟨hholds, hbit, rfl, rfl, hlog⟩

theorem selfRuled_effect {l : List Nat} {s d b : Dev} (he : Effect l s d b) (hstat : STAND_STAT ∈ l) (hpend : HOST_EVT_PEND 2 ∈ l)
    (hsdw : STAND_SDW ∈ l) : ∃ x, Effect l s d.selfRuled { b with stand := x } := by
  obtain ⟨_, hholds⟩ := setHolds_effect he hstat hpend d.selfHolds
  unfold Dev.selfRuled
  rw [selfRule_eq]
  exact ⟨_, (hholds.stand _).wrN hsdw _⟩

theorem wardenGone_eq {s : Dev} (hpeer : s.isPeer = true) (hen : s.wardenEn = true) (hnew : s.bit STAND_STAT 5 = false)
    (hmiss : s.hbMiss < s.fld STAND_MISS 23 16) : s.wardenGone =
      if ((s.setBit STAND_STAT 5 true).ev 0x0B08 0 (s.fld STAND_MISS 23 16)).tick = 2 then
        ((s.setBit STAND_STAT 5 true).ev 0x0B08 0 (s.fld STAND_MISS 23 16)).selfRuled
      else (s.setBit STAND_STAT 5 true).ev 0x0B08 0 (s.fld STAND_MISS 23 16) :=
  if_pos (by rw [hpeer, hen, hnew]; simpa using hmiss)

theorem wardenGone_answers {s : State} (hpeer : s.isPeer = true) (hen : s.wardenEn = true) (hnew : s.bit STAND_STAT 5 = false)
    (hmiss : s.hbMiss < s.fld STAND_MISS 23 16) : Answers .wardenLost s fun t => t.bit STAND_STAT 5 = true ∧
        OneEvent s t 0x0B08 0#32 (BitVec.ofNat 32 (s.fld STAND_MISS 23 16)) ∧
        (s.tick ≠ 2 → OnlyRegs [STAND_STAT] s t) ∧
        (s.tick = 2 → t.holds = (let other := s.present (1 - s.role) && s.peerFit (1 - s.role)
            if s.role = 0 then s.bit STAND_SDW 0 || !other else !other && s.bit STAND_SDW 0) ∧
          t.stand.standing = t.holds ∧ t.stand.shadow = (!t.holds) ∧
          Framed [STAND_STAT, STAND_SDW, HOST_EVT_PEND 2] s t (blocks { s.toDev with stand := t.stand })) := by
  have hdone := wardenGone_eq (s := s.toDev) hpeer hen hnew hmiss
  have heff := ((Effect.refl [STAND_STAT] s.toDev).setBit (a := STAND_STAT) (by simp) 5 true).ev 0x0B08 0 (s.fld STAND_MISS 23 16)
  have hbit : ((s.toDev.setBit STAND_STAT 5 true).ev 0x0B08 0 (s.fld STAND_MISS 23 16)).bit STAND_STAT 5 = true :=
    bit_setBit_same s.toDev _ _ _ (by decide)
  have hrole : ((s.toDev.setBit STAND_STAT 5 true).ev 0x0B08 0 (s.fld STAND_MISS 23 16)).role = s.role :=
    fld_setBit_ne s.toDev _ _ _ _ _ (by decide) (by decide)
  have hevent : OneEvent s (s.after ((s.toDev.setBit STAND_STAT 5 true).ev 0x0B08 0 (s.fld STAND_MISS 23 16))) 0x0B08 0#32
      (BitVec.ofNat 32 (s.fld STAND_MISS 23 16)) := oneEvent_ev rfl (congrArg LogSt.raised (setBit_log _ _ _ _))
  generalize (s.toDev.setBit STAND_STAT 5 true).ev 0x0B08 0 (s.fld STAND_MISS 23 16) = d at *
  have hrd : ∀ a, a ≠ STAND_STAT → d.rd a = s.rd a := fun a ha => heff.regs a (by simp [ha])
  have htick : d.tick = s.tick := fld_of_rd _ _ _ _ _ (hrd _ (by decide))
  obtain ⟨hholds, hbit5, hstanding, hshadow, hlog⟩ := selfRuled_spec d
  have hdecided : d.selfHolds = s.selfHolds := by
    have hsdw : ∀ r, d.peerFit r = s.peerFit r := fun r => bit_of_rd _ _ _ _ (hrd _ (by unfold peerSdw; split <;> decide))
    unfold Dev.selfHolds Dev.present Dev.missOf Dev.hbMiss
    rw [hrole, hsdw, bit_of_rd _ _ _ _ (hrd STAND_SDW (by decide)), fld_of_rd _ _ _ _ _ (hrd STAND_MISS (by decide)),
      fld_of_rd _ _ _ _ _ (hrd STAND_CFG (by decide))]
  rw [htick] at hdone
  by_cases h2 : s.tick = 2
  · rw [if_pos h2] at hdone
    have hset : d.selfRuled.settle.holds = s.selfHolds :=
      (settle_bit _ _ _ (by decide) (by decide)).trans (hholds.trans hdecided)
    obtain ⟨x, hruled⟩ := selfRuled_effect (heff.weaken (m := [STAND_STAT, STAND_SDW, HOST_EVT_PEND 2]) (by simp)) (by simp) (by simp) (by simp)
    refine answers_of_done (congrArg (done s) hdone) ⟨?_, ?_, fun hne => absurd h2 hne, fun _ => ⟨hset, ?_, ?_, ?_⟩⟩
    · exact (settle_bit _ _ _ (by decide) (by decide)).trans (hbit5.trans hbit)
    · obtain ⟨e, he, hrest⟩ := hevent
      refine ⟨e, ?_, hrest⟩
      rw [settle_log] at he ⊢
      rw [hlog]
      exact he
    · rw [hset, settle_stand, hstanding, hdecided]
    · rw [hset, settle_stand, hshadow, hdecided]
    · rw [settle_stand]
      have hx : d.selfRuled.stand = x := (congrArg Dev.stand hruled.engines :)
      rw [hx]
      exact hruled.framed
  · rw [if_neg h2] at hdone
    exact answers_of_done (congrArg (done s) hdone) ⟨(settle_bit _ _ _ (by decide) (by decide)).trans hbit, hevent,
      fun _ => heff.framed, fun h => absurd h h2⟩

/-- Settles O46: what is held for the boundary, the loss of the Warden, tracking and swaps. -/
theorem standingCommands : Obligations.StandingCommands := by
  unfold Obligations.StandingCommands
  refine fun s p => ⟨heartbeat_answers, fun h => noEffect_of_done rfl (if_pos h), fun x => noEffect_of_done rfl rfl, standingFrame_answers,
    standingFrame_none, wardenGone_answers, fun h => noEffect_of_done rfl (if_neg ?_), setPart_answers, setPart_none, trackGone_answers,
    trackGone_none, swapFalls_answers, swapFalls_none, fun hwarden => (swapCommand_answers hwarden).1,
    fun hwarden => (swapCommand_answers hwarden).2, fun hother => noEffect_of_done rfl (if_neg (by rw [hother]; decide))⟩
  rcases h with h | h | h | h <;> simp [h]

end Sys2Proof.Machine
end

section
/-! O47: the Thicket's report frames. -/

namespace Sys2Proof.Machine

/-- The registers that an entry, and a point that it moves, may write (R380, R384, R385). -/
def entryRegs : List Nat :=
  [THKT_STAT, THKT_QUEUE, THKT_CREC 0, THKT_CREC 2, THKT_SERIAL_LO, THKT_SERIAL_HI, THKT_ENT_BAD, THKT_ENT_REFUSED, HOST_EVT_PEND 3]

/-- A device d that entries have made of s: outside their registers it reads as s, and it has heard the same gateways. -/
structure EntryKept (s d : Dev) : Prop where
  regs : ∀ a, a ∉ entryRegs → d.rd a = s.rd a
  heard : d.thkt.heard = s.thkt.heard

section
variable {s d : Dev}

theorem EntryKept.refl (s : Dev) : EntryKept s s := ⟨fun _ _ => rfl, rfl⟩

theorem EntryKept.wr (h : EntryKept s d) {a : Nat} (ha : a ∈ entryRegs) (v : Word) : EntryKept s (d.wr a v) :=
  ⟨fun x hx => (rd_wr_ne _ _ _ _ (ne_of_mem_of_not_mem ha hx).symm).trans (h.regs x hx), h.heard⟩

theorem EntryKept.ev (h : EntryKept s d) (c p q : Nat) : EntryKept s (d.ev c p q) := ⟨h.regs, h.heard⟩

theorem EntryKept.thkt (h : EntryKept s d) {x : ThktSt} (hx : x.heard = d.thkt.heard) : EntryKept s { d with thkt := x } :=
  ⟨h.regs, hx.trans h.heard⟩

theorem EntryKept.ite (c : Prop) [Decidable c] {e : Dev} (hd : EntryKept s d) (he : EntryKept s e) :
    EntryKept s (if c then d else e) := by
  split
  · exact hd
  · exact he

theorem EntryKept.each {α : Type} {f : Dev → α → Dev} (hf : ∀ e x, EntryKept s e → EntryKept s (f e x)) (xs : List α)
    (h : EntryKept s d) : EntryKept s (d.each xs f) := by
  unfold Dev.each
  exact List.foldlRecOn (motive := EntryKept s) xs f h fun e he x _ => hf e x he

theorem EntryKept.showPts (h : EntryKept s d) : EntryKept s d.showPts := by
  have hcount : EntryKept s (d.setFld THKT_STAT 18 0 d.thkt.pts.length) := h.wr (by decide) _
  exact EntryKept.ite _ ((hcount.wr (a := THKT_STAT) (by decide) _).thkt rfl) hcount

theorem EntryKept.setPt (h : EntryKept s d) (x : ThktPt) : EntryKept s (d.setPt x) :=
  (h.thkt (x := { d.thkt with pts := putPt x d.thkt.pts }) rfl).showPts

theorem EntryKept.collect (h : EntryKept s d) (kind gw old new : Nat) (x : ThktPt) (ns : Option Int) :
    EntryKept s (d.collect kind gw old new x ns) := h.thkt rfl

theorem EntryKept.refuseEntry (h : EntryKept s d) (gw code : Nat) : EntryKept s (d.refuseEntry gw code) :=
  EntryKept.ev (h.wr (by split <;> decide) _) _ _ _

theorem EntryKept.tableFull (h : EntryKept s d) : EntryKept s d.tableFull := by
  have hfull : EntryKept s { (d.setBit THKT_STAT 19 true).raise 0x60 with
      thkt := { ((d.setBit THKT_STAT 19 true).raise 0x60).thkt with fullSaid := true } } :=
    ((h.wr (a := THKT_STAT) (by decide) _).wr (a := HOST_EVT_PEND 3) (by decide) _).thkt rfl
  exact EntryKept.ite _ hfull (hfull.ev _ _ _)

theorem EntryKept.showQueue (h : EntryKept s d) : EntryKept s d.showQueue :=
  ((h.wr (a := THKT_QUEUE) (by decide) _).wr (a := THKT_QUEUE) (by decide) _).wr (a := THKT_CREC 2) (by decide) _

theorem EntryKept.formRecord (h : EntryKept s d) (r : RecIn) : EntryKept s (d.formRecord r) := by
  unfold Dev.formRecord
  refine EntryKept.ite _ (EntryKept.ev ?_ _ _ _) (EntryKept.ev ?_ _ _ _)
  · refine EntryKept.showQueue (EntryKept.wr (EntryKept.wr (EntryKept.wr ?_ (by decide) _) (by decide) _) (by decide) _)
    exact h.thkt rfl
  · refine EntryKept.showQueue (EntryKept.wr (EntryKept.wr (EntryKept.wr ?_ (by decide) _) (by decide) _) (by decide) _)
    exact h.thkt rfl

theorem EntryKept.applyEntry (h : EntryKept s d) (gw : Nat) (arrival : Int) (e : List Byte) :
    EntryKept s (d.applyEntryThkt gw arrival e) := by
  unfold Dev.applyEntryThkt
  split
  · exact h.refuseEntry _ _
  · dsimp only
    split
    · exact EntryKept.ite _ (h.refuseEntry _ _).tableFull ((h.setPt _).collect _ _ _ _ _ _)
    · exact EntryKept.ite _ h (EntryKept.ite _ (h.setPt _) (EntryKept.ite _ ((h.setPt _).collect _ _ _ _ _ _)
        (EntryKept.ite _ ((h.setPt _).collect _ _ _ _ _ _) (EntryKept.ite _ ((h.setPt _).formRecord _) (h.refuseEntry _ _)))))

end

/-! The table of points (R367). -/

theorem find_putPt (x : ThktPt) (ps : List ThktPt) (n : Nat) :
    (putPt x ps).find? (fun p => p.num == n) = if x.num = n then some x else ps.find? fun p => p.num == n := by
  induction ps with
  | nil => by_cases hn : x.num = n <;> simp [putPt, hn]
  | cons p ps ih =>
    rw [putPt]
    by_cases hlt : x.num < p.num
    · rw [if_pos hlt]
      by_cases hn : x.num = n <;> simp [hn]
    · by_cases heq : x.num = p.num
      · rw [if_neg hlt, if_pos heq, List.find?_cons, List.find?_cons, ← heq]
        by_cases hn : x.num = n
        · rw [if_pos hn, beq_iff_eq.mpr hn]
        · rw [if_neg hn, beq_eq_false_iff_ne.mpr hn]
      · rw [if_neg hlt, if_neg heq, List.find?_cons, List.find?_cons, ih]
        by_cases hp : p.num = n
        · have hn : ¬x.num = n := fun hn => heq (hn.trans hp.symm)
          rw [beq_iff_eq.mpr hp]
          exact (if_neg hn).symm
        · rw [beq_eq_false_iff_ne.mpr hp]

theorem showPts_pts (d : Dev) : d.showPts.thkt.pts = d.thkt.pts := by
  unfold Dev.showPts
  dsimp only
  split <;> rfl

theorem showPts_logs (d : Dev) : d.showPts.log = d.log := by
  unfold Dev.showPts
  dsimp only
  split <;> rfl

theorem point_setPt (d : Dev) (x : ThktPt) (n : Nat) : (d.setPt x).point n = if x.num = n then some x else d.point n :=
  (congrArg (List.find? fun p : ThktPt => p.num == n) (showPts_pts { d with thkt.pts := putPt x d.thkt.pts })).trans
    (find_putPt x d.thkt.pts n)

theorem point_collect (d : Dev) (kind gw old new : Nat) (x : ThktPt) (ns : Option Int) (n : Nat) :
    (d.collect kind gw old new x ns).point n = d.point n := rfl

theorem point_settle (d : Dev) (n : Nat) : d.settle.point n = d.point n :=
  congrArg (fun x : ThktSt => x.pts.find? fun p : ThktPt => p.num == n) (settle_thkt d)

/-- An entry of a new identity takes the lowest free point (R367, R372). -/
theorem applyEntry_new {d : Dev} (g : Nat) (arrival : Int) (e : List Byte) (hgood : entryBad e = none) (hfree : freePt 0 d.thkt.pts < 262144)
    (hnew : d.pointOf (pointOfEntry (freePt 0 d.thkt.pts) g arrival e).hash = none) :
    (d.applyEntryThkt g arrival e).point (pointOfEntry (freePt 0 d.thkt.pts) g arrival e).num =
      some (pointOfEntry (freePt 0 d.thkt.pts) g arrival e) := by
  have hdone : d.applyEntryThkt g arrival e = (d.setPt (pointOfEntry (freePt 0 d.thkt.pts) g arrival e)).collect 3 g 0
      (bitsOf (u8 e 26) 6 4) (pointOfEntry (freePt 0 d.thkt.pts) g arrival e) (some arrival) := by
    unfold Dev.applyEntryThkt
    rw [hgood]
    dsimp only
    rw [show d.pointOf ((sha384 (leBytes 1 (u8 e 0) ++ slice e 2 (u8 e 1))).take 7) = none from hnew]
    exact if_neg (Nat.not_le.mpr hfree)
  rw [hdone, point_collect, point_setPt, if_pos rfl]

/-! A report frame (R364, R370). -/

section
variable {s : State} (ip : Word) (b : List Byte) (arrival queued : Nat)

theorem u8_lt (bs : List Byte) (i : Nat) : u8 bs i < 256 := (bs.getD i 0).isLt

/-- A gateway's registers stand apart from those that its frames and entries write beside them. -/
theorem gwReg_apart {g : Nat} (hg : g < 256) : THKT_GW_SEQ g ∉ entryRegs ∧ THKT_GW_STAT g ∉ entryRegs ∧ THKT_GW_SEQ g ≠ THKT_GW_STAT g ∧
    THKT_LEDGER 1 ≠ THKT_GW_STAT g ∧ THKT_LEDGER 1 ≠ THKT_GW_SEQ g ∧ THKT_GW_CFG g ≠ THKT_LEDGER 0 ∧ THKT_GW_IP g ≠ THKT_LEDGER 0 ∧
    THKT_GW_SEQ g ≠ THKT_LEDGER 0 ∧ THKT_GW_SEQ g ≠ THKT_LEDGER 1 ∧ THKT_GW_SEQ g ≠ SAFE_OUT_STAT ∧ THKT_GW_SEQ g ≠ SAFE_STAT ∧
    THKT_GW_STAT g ≠ SAFE_OUT_STAT ∧ THKT_GW_STAT g ≠ SAFE_STAT := by
  simp only [entryRegs, List.mem_cons, List.not_mem_nil, or_false, THKT_GW_SEQ, THKT_GW_STAT, THKT_GW_CFG, THKT_GW_IP, THKT_LEDGER,
    THKT_STAT, THKT_QUEUE, THKT_CREC, THKT_SERIAL_LO, THKT_SERIAL_HI, THKT_ENT_BAD, THKT_ENT_REFUSED, HOST_EVT_PEND, SAFE_OUT_STAT, SAFE_STAT]
  omega

theorem thktFrame_off (hoff : s.bit THKT_CFG 0 = false) : Answers (.thicketReport ip b ⟨arrival, queued⟩) s fun t =>
      t.fld (THKT_LEDGER 0) 31 0 = (s.fld (THKT_LEDGER 0) 31 0 + 1) % 2 ^ 32 ∧
      t.fld (THKT_LEDGER 3) 31 0 = (s.fld (THKT_LEDGER 3) 31 0 + 1) % 2 ^ 32 ∧ Quiet [THKT_LEDGER 0, THKT_LEDGER 3] s t := by
  have hdone : s.toDev.thktFrame ip b arrival queued = (s.toDev.cntWrap (THKT_LEDGER 0) 31 0 1).cntWrap (THKT_LEDGER 3) 31 0 1 :=
    if_pos (by rw [bit_cntWrap_other _ _ _ _ _ _ _ (by decide), hoff]; rfl)
  refine answers_of_done (congrArg (done s) hdone) ⟨?_, ?_, ?_, noEvent_after rfl⟩
  · rw [settle_fld _ _ _ _ (by decide) (by decide), fld_cntWrap_other _ _ _ _ _ _ _ _ (by decide),
      fld_cntWrap_same _ _ _ _ _ (by decide) (by decide)]
  · rw [settle_fld _ _ _ _ (by decide) (by decide), fld_cntWrap_same _ _ _ _ _ (by decide) (by decide),
      fld_cntWrap_other _ _ _ _ _ _ _ _ (by decide)]
  · exact (((Effect.refl _ s.toDev).cntWrap (a := THKT_LEDGER 0) (by decide) _ _ _).cntWrap (a := THKT_LEDGER 3) (by decide) _ _ _).framed

/-- The count of the frames in is none of what a frame is judged by. -/
theorem frameBad_counted (d : Dev) : (d.cntWrap (THKT_LEDGER 0) 31 0 1).frameBad ip b queued = d.frameBad ip b queued := by
  obtain ⟨-, -, -, -, -, hcfg, hip, hseq, -⟩ := gwReg_apart (u8_lt b 2)
  unfold Dev.frameBad Dev.gwKey
  dsimp only
  rw [bit_cntWrap_other _ _ _ _ _ _ _ hcfg, rd_cntWrap_ne _ _ _ _ _ _ hip, rd_cntWrap_ne _ _ _ _ _ _ hseq,
    fld_cntWrap_other _ _ _ _ _ _ _ _ hcfg, fld_cntWrap_other _ _ _ _ _ _ _ _ ?_]
  · rfl
  · have := fld_lt d (THKT_GW_CFG (u8 b 2)) 3 1
    simp only [GLB_SLOT, THKT_LEDGER]
    omega

theorem thktFrame_dropped {r : Nat} (hon : s.bit THKT_CFG 0 = true) (hbad : s.frameBad ip b queued = some r) :
    Answers (.thicketReport ip b ⟨arrival, queued⟩) s fun t =>
      t.fld (THKT_LEDGER 3) 31 0 = (s.fld (THKT_LEDGER 3) 31 0 + 1) % 2 ^ 32 ∧
      OneEvent s t 0x0D03 (BitVec.ofNat 32 (if b.length < 16 then 0xFF else u8 b 2)) (BitVec.ofNat 32 r) ∧
      OnlyRegs [THKT_LEDGER 0, THKT_LEDGER 3] s t := by
  have hdone : s.toDev.thktFrame ip b arrival queued = ((s.toDev.cntWrap (THKT_LEDGER 0) 31 0 1).cntWrap (THKT_LEDGER 3) 31 0 1).ev
      0x0D03 (if b.length < 16 then 0xFF else u8 b 2) r := by
    unfold Dev.thktFrame
    dsimp only
    rw [if_neg (by rw [bit_cntWrap_other _ _ _ _ _ _ _ (by decide), hon]; decide), frameBad_counted, hbad]
  refine answers_of_done (congrArg (done s) hdone) ⟨?_, oneEvent_ev rfl rfl, ?_⟩
  · refine (settle_fld _ _ _ _ (by decide) (by decide)).trans ((fld_cntWrap_same _ _ _ _ _ (by decide) (by decide)).trans ?_)
    rw [fld_cntWrap_other _ _ _ _ _ _ _ _ (by decide)]
  · exact ((((Effect.refl _ s.toDev).cntWrap (a := THKT_LEDGER 0) (by decide) _ _ _).cntWrap (a := THKT_LEDGER 3) (by decide) _ _ _).ev
      _ _ _).framed

/-- The device once an accepted frame's gateway is heard (R369, R375). -/
def Dev.thktHeard (s : Dev) (b : List Byte) (arrival : Int) : Dev :=
  let g := u8 b 2
  let s := (s.wrN (THKT_GW_SEQ g) (u32 b 4)).setFld (THKT_GW_STAT g) 31 16 (arrival / 1000000000).toNat
  let s := ({ s with thkt.heard := insertKey g arrival s.thkt.heard } : Dev)
  if s.bit (THKT_GW_STAT g) 0 then (s.setBit (THKT_GW_STAT g) 0 false).ev 0x0D06 g 0 else s

theorem thktHeard_spec (d : Dev) : (d.thktHeard b arrival).thkt = { d.thkt with heard := insertKey (u8 b 2) (arrival : Int) d.thkt.heard } ∧
    (d.thktHeard b arrival).rd (THKT_GW_SEQ (u8 b 2)) = BitVec.ofNat 32 (u32 b 4) ∧
    (d.thktHeard b arrival).fld (THKT_LEDGER 1) 31 0 = d.fld (THKT_LEDGER 1) 31 0 := by
  obtain ⟨-, -, hseq, hstat, hledger, -⟩ := gwReg_apart (u8_lt b 2)
  unfold Dev.thktHeard
  dsimp only
  split
  · refine ⟨rfl, ?_, ?_⟩
    · refine (rd_setBit_ne _ _ _ _ _ hseq).trans ?_
      exact (rd_setFld_ne _ _ _ _ _ _ hseq).trans (rd_wr_same _ _ _)
    · refine (fld_setBit_other _ _ _ _ _ _ _ hstat).trans ?_
      exact (fld_setFld_other _ _ _ _ _ _ _ _ hstat).trans (fld_wr_other _ _ _ _ _ _ hledger)
  · exact ⟨rfl, (rd_setFld_ne _ _ _ _ _ _ hseq).trans (rd_wr_same _ _ _),
      (fld_setFld_other _ _ _ _ _ _ _ _ hstat).trans (fld_wr_other _ _ _ _ _ _ hledger)⟩

/-- The entries of a frame, one after another. -/
def Dev.thktEntries (d : Dev) (b : List Byte) (arrival : Int) : Dev :=
  d.each (List.range (u8 b 3)) fun d k => d.applyEntryThkt (u8 b 2) arrival (slice b (16 + 32 * k) 32)

theorem thktEntries_kept (d : Dev) : EntryKept d (d.thktEntries b arrival) :=
  EntryKept.each (fun _ _ h => h.applyEntry _ _ _) _ (EntryKept.refl d)

theorem thktEntries_one (d : Dev) (hone : u8 b 3 = 1) : d.thktEntries b arrival = d.applyEntryThkt (u8 b 2) arrival (slice b 16 32) := by
  unfold Dev.thktEntries
  rw [hone]
  rfl

theorem thktFrame_accepted (hon : s.bit THKT_CFG 0 = true) (hgood : s.frameBad ip b queued = none) :
    Answers (.thicketReport ip b ⟨arrival, queued⟩) s fun t =>
      t.fld (THKT_LEDGER 1) 31 0 = (s.fld (THKT_LEDGER 1) 31 0 + 1) % 2 ^ 32 ∧
      t.rd (THKT_GW_SEQ (u8 b 2)) = BitVec.ofNat 32 (u32 b 4) ∧ lookupKey (u8 b 2) t.thkt.heard = some (arrival : Int) ∧
      (u8 b 3 = 1 → entryBad (slice b 16 32) = none → freePt 0 s.thkt.pts < 262144 →
        let x := pointOfEntry (freePt 0 s.thkt.pts) (u8 b 2) arrival (slice b 16 32)
        s.pointOf x.hash = none → t.point x.num = some x) := by
  obtain ⟨hseqIn, -, -, -, -, -, -, -, hseqLedger, hseqOut, hseqStat, -⟩ := gwReg_apart (u8_lt b 2)
  have hdone : s.toDev.thktFrame ip b arrival queued =
      (((s.toDev.cntWrap (THKT_LEDGER 0) 31 0 1).thktHeard b arrival).thktEntries b arrival).cntWrap (THKT_LEDGER 1) 31 0 1 := by
    unfold Dev.thktFrame
    dsimp only
    rw [if_neg (by rw [bit_cntWrap_other _ _ _ _ _ _ _ (by decide), hon]; decide), frameBad_counted, hgood]
    rfl
  obtain ⟨hthkt, hseq, hledger⟩ := thktHeard_spec b arrival (s.toDev.cntWrap (THKT_LEDGER 0) 31 0 1)
  rw [fld_cntWrap_other _ _ _ _ _ _ _ _ (by decide)] at hledger
  generalize (s.toDev.cntWrap (THKT_LEDGER 0) 31 0 1).thktHeard b arrival = d at *
  have hkept := thktEntries_kept b arrival d
  have hentry := thktEntries_one b arrival d
  generalize d.thktEntries b arrival = e at *
  refine answers_of_done (congrArg (done s) hdone) ⟨?_, ?_, ?_, fun hone hentryGood hfree => ?_⟩
  · rw [settle_fld _ _ _ _ (by decide) (by decide), fld_cntWrap_same _ _ _ _ _ (by decide) (by decide),
      fld_of_rd _ _ _ _ _ (hkept.regs (THKT_LEDGER 1) (by decide)), hledger]
  · rw [settle_rd _ _ hseqOut hseqStat, rd_cntWrap_ne _ _ _ _ _ _ hseqLedger, hkept.regs _ hseqIn, hseq]
  · rw [settle_thkt]
    refine (congrArg (lookupKey (u8 b 2)) (hkept.heard.trans (congrArg ThktSt.heard hthkt))).trans ?_
    rw [lookupKey_insertKey, if_pos rfl]
  · intro x hnew
    have hpts : d.thkt.pts = s.thkt.pts := (congrArg ThktSt.pts hthkt :)
    rw [← hpts] at hfree
    have hx : x = pointOfEntry (freePt 0 d.thkt.pts) (u8 b 2) arrival (slice b 16 32) := by rw [hpts]
    have hnew' : d.pointOf x.hash = none := (congrArg (List.find? fun p : ThktPt => p.hash == x.hash) hpts).trans hnew
    rw [point_settle]
    refine (congrArg (fun d : Dev => d.point x.num) (hentry hone)).trans ?_
    rw [hx] at hnew' ⊢
    exact applyEntry_new _ _ _ hentryGood hfree hnew'

end

/-! A gateway that stays silent (R375). -/

section
variable {s : State} (g : Fin 256)

/-- The loss of a live point whose gateway is silent (R375). -/
def Dev.losePoint (g : Nat) (d : Dev) (p : ThktPt) : Dev :=
  (d.setPt { p with sealSt := 5, prev := p.sealSt }).collect 1 g p.sealSt 5 { p with sealSt := 5, prev := p.sealSt } none

/-- Live points of a gateway that are not lost yet. -/
def Dev.livePoints (d : Dev) (g : Nat) : List ThktPt := d.thkt.pts.filter fun p => p.gw == g && p.sealSt != 5

theorem losePoint_kept {s d : Dev} (g : Nat) (p : ThktPt) (h : EntryKept s d) : EntryKept s (d.losePoint g p) := (h.setPt _).collect _ _ _ _ _ _

theorem losePoint_log (g : Nat) (d : Dev) (p : ThktPt) : (d.losePoint g p).log = d.log := showPts_logs _

theorem losePoint_point (g : Nat) (d : Dev) (p : ThktPt) (n : Nat) :
    (d.losePoint g p).point n = if p.num = n then some { p with sealSt := 5, prev := p.sealSt } else d.point n :=
  point_setPt d _ n

/-- Once each of them is lost, a point of the gateway is lost. -/
theorem losePoints_lost (g : Nat) (xs : List ThktPt) (d : Dev)
    (h : ∀ n p, d.point n = some p → p.gw = g → p.sealSt = 5 ∨ ∃ q ∈ xs, q.num = n) :
    ∀ n p, (d.each xs (Dev.losePoint g)).point n = some p → p.gw = g → p.sealSt = 5 := by
  induction xs generalizing d with
  | nil => exact fun n p hp hgw => (h n p hp hgw).resolve_right (by simp)
  | cons x xs ih =>
    refine ih (d.losePoint g x) fun n p hp hgw => ?_
    rw [losePoint_point] at hp
    split at hp
    · exact Or.inl (by rw [← Option.some.inj hp])
    · rename_i hne
      refine (h n p hp hgw).imp_right fun ⟨q, hq, hnum⟩ => ⟨q, ?_, hnum⟩
      exact (List.mem_cons.mp hq).resolve_left fun hqx => hne (hqx ▸ hnum)

theorem livePoints_cover (d : Dev) (g n : Nat) (p : ThktPt) (hp : d.point n = some p) (hgw : p.gw = g) :
    p.sealSt = 5 ∨ ∃ q ∈ d.livePoints g, q.num = n := by
  refine (em (p.sealSt = 5)).imp_right fun hlive => ⟨p, List.mem_filter.mpr ⟨List.mem_of_find?_eq_some hp, ?_⟩, ?_⟩
  · simp [hgw, hlive]
  · simpa using List.find?_some hp

theorem gatewayGone_unheard (h : s.thkt.heard.filter (fun h => h.1 == g.val) = []) : NoEffect (.gatewaySilent g) s :=
  noEffect_of_done rfl (congrArg (fun xs => s.toDev.each xs fun d gh => d.silenceOf d.boundaryNs gh) h)

theorem gatewayGone_heard {ns : Int} (h : s.thkt.heard.filter (fun h => h.1 == g.val) = [(g.val, ns)]) :
    s.toDev.gatewayGone g = s.toDev.silenceOf s.boundaryNs (g, ns) :=
  congrArg (fun xs => s.toDev.each xs fun d gh => d.silenceOf d.boundaryNs gh) h

/-- The device as a gateway found silent is marked (R375). -/
def Dev.markSilent (d : Dev) (g : Nat) : Dev :=
  ((d.setBit (THKT_GW_STAT g) 0 true).ev 0x0D05 g (d.livePoints g).length).raise 0x60

theorem silenceOf_silent {d : Dev} {now ns : Int} (g : Nat) (hon : d.bit THKT_CFG 0 = true) (huse : d.bit (THKT_GW_CFG g) 0 = true)
    (hnew : d.bit (THKT_GW_STAT g) 0 = false) (hlate : 1000000000 * ((max 1 (d.fld THKT_CFG 31 16) : Nat) : Int) < now - ns) :
    d.silenceOf now (g, ns) = (d.markSilent g).each (d.livePoints g) (Dev.losePoint g) :=
  if_pos (by rw [hon, huse, hnew, decide_eq_true hlate]; rfl)

theorem gatewayGone_silent {ns : Int} (h : s.thkt.heard.filter (fun h => h.1 == g.val) = [(g.val, ns)]) (hon : s.bit THKT_CFG 0 = true)
    (huse : s.bit (THKT_GW_CFG g) 0 = true) (hnew : s.bit (THKT_GW_STAT g) 0 = false)
    (hlate : 1000000000 * ((max 1 (s.fld THKT_CFG 31 16) : Nat) : Int) < s.boundaryNs - ns) : Answers (.gatewaySilent g) s fun t =>
        t.bit (THKT_GW_STAT g) 0 = true ∧ (∀ n p, t.point n = some p → p.gw = g.val → p.sealSt = 5) ∧
        OneEvent s t 0x0D05 (BitVec.ofNat 32 g)
          (BitVec.ofNat 32 (s.thkt.pts.filter fun p => p.gw == g.val && p.sealSt != 5).length) := by
  have hdone := (gatewayGone_heard g h).trans (silenceOf_silent g hon huse hnew hlate)
  obtain ⟨-, hin, -, -, -, -, -, -, -, -, -, hout, hstat⟩ := gwReg_apart g.isLt
  have hbit : (s.toDev.markSilent g).bit (THKT_GW_STAT g) 0 = true := by
    refine (bit_raise_other _ _ _ _ fun he => hin ?_).trans (bit_setBit_same _ _ _ _ (by decide))
    rw [he]
    decide
  have hpoint : ∀ n, (s.toDev.markSilent g).point n = s.point n := fun _ => rfl
  have hlog : (s.toDev.markSilent g).log.raised =
      ((s.toDev.setBit (THKT_GW_STAT g) 0 true).evW 0x0D05 (BitVec.ofNat 32 g) (BitVec.ofNat 32 (s.livePoints g).length)).log.raised := rfl
  generalize s.toDev.markSilent g = d at *
  have hkept : EntryKept d (d.each (s.livePoints g) (Dev.losePoint g)) := EntryKept.each (fun _ _ => losePoint_kept g _) _ (EntryKept.refl d)
  have hsame : (d.each (s.livePoints g) (Dev.losePoint g)).log = d.log := each_keeps Dev.log _ (losePoint_log g) _ _
  have hlost := losePoints_lost g (s.livePoints g) d fun n p hp => livePoints_cover s.toDev g n p (hpoint n ▸ hp)
  generalize d.each (s.livePoints g) (Dev.losePoint g) = e at *
  refine answers_of_done (congrArg (done s) hdone) ⟨?_, fun n p hp => hlost n p ((point_settle e n).symm.trans hp),
    oneEvent_evW ((congrArg LogSt.raised hsame).trans hlog) rfl⟩
  exact (settle_bit _ _ _ hout hstat).trans ((bit_of_rd _ _ _ _ (hkept.regs _ hin)).trans hbit)

theorem gatewayGone_kept {ns : Int} (h : s.thkt.heard.filter (fun h => h.1 == g.val) = [(g.val, ns)])
    (hnot : s.boundaryNs - ns ≤ 1000000000 * ((max 1 (s.fld THKT_CFG 31 16) : Nat) : Int) ∨ s.bit THKT_CFG 0 = false ∨
      s.bit (THKT_GW_CFG g) 0 = false ∨ s.bit (THKT_GW_STAT g) 0 = true) : NoEffect (.gatewaySilent g) s := by
  refine noEffect_of_done rfl ((gatewayGone_heard g h).trans (if_neg ?_))
  simp only [Bool.and_eq_true, decide_eq_true_eq, Bool.not_eq_true']
  rintro ⟨⟨⟨hon, huse⟩, hnew⟩, hlate⟩
  rcases hnot with hearly | hoff | hunused | hsilent
  · exact absurd hlate (Int.not_lt.mpr hearly)
  · exact absurd (hon.symm.trans hoff) (by decide)
  · exact absurd (huse.symm.trans hunused) (by decide)
  · exact absurd (hsilent.symm.trans hnew) (by decide)

end

/-- Settles O47: report frames counted, dropped or accepted, and gateways that stay silent. -/
theorem thicketFrames : Obligations.ThicketFrames := by
  unfold Obligations.ThicketFrames
  exact fun s ip b arrival queued => ⟨thktFrame_off ip b arrival queued, fun _ => thktFrame_dropped ip b arrival queued,
    thktFrame_accepted ip b arrival queued, gatewayGone_unheard, fun g _ => gatewayGone_silent g, fun g _ => gatewayGone_kept g⟩

end Sys2Proof.Machine
end

section
/-! O48: custody records, releases, latches and searches of points. -/

namespace Sys2Proof.Machine

section
variable {s : State}

/-! The signing queue (R380, R449). -/

theorem signHead_signs {c : CustRec} {cs : List CustRec} (hq : s.thkt.queue = c :: cs) (hsig : c.sig = []) :
    Answers .recordSigned s fun t => (∃ g, g.length = 96 ∧ t.thkt.queue = { c with sig := g } :: cs) ∧
      Framed [] s t (blocks { s.toDev with thkt.queue := t.thkt.queue }) ∧ NoEvent s t := by
  have hdone : s.toDev.signHead = ({ s.toDev with thkt.queue :=
      { c with sig := (List.range 96).map fun j => Config.signatureByte s.seq.freeCtr j } :: cs } : Dev).spend := by
    unfold Dev.signHead
    rw [hq]
    exact if_pos hsig
  generalize hg : ((List.range 96).map fun j => Config.signatureByte s.seq.freeCtr j) = g at hdone
  have hqueue : (s.after ({ s.toDev with thkt.queue := { c with sig := g } :: cs } : Dev).spend).thkt.queue = { c with sig := g } :: cs :=
    congrArg ThktSt.queue (settle_thkt _)
  refine answers_of_done (congrArg (done s) hdone) ⟨⟨g, ?_, hqueue⟩, ?_, noEvent_after rfl⟩
  · rw [← hg, List.length_map, List.length_range]
  · have hframe := (((Effect.refl [] s.toDev).thkt { s.thkt with queue := { c with sig := g } :: cs }).spend).framed
    rw [hqueue]
    exact hframe

theorem handoff_unsigned {c : CustRec} {cs : List CustRec} (hq : s.thkt.queue = c :: cs) (hsig : c.sig = []) : NoEffect .custodyHandoff s := by
  refine noEffect_of_done rfl ?_
  unfold Dev.handoff
  rw [hq]
  exact if_pos hsig

theorem signHead_signed {c : CustRec} {cs : List CustRec} (hq : s.thkt.queue = c :: cs) (hsig : c.sig ≠ []) : NoEffect .recordSigned s := by
  refine noEffect_of_done rfl ?_
  unfold Dev.signHead
  rw [hq]
  exact if_neg hsig

theorem queue_empty (hq : s.thkt.queue = []) : NoEffect .recordSigned s ∧ NoEffect .custodyHandoff s := by
  refine ⟨noEffect_of_done rfl ?_, noEffect_of_done rfl ?_⟩
  · unfold Dev.signHead
    rw [hq]
  · unfold Dev.handoff
    rw [hq]

/-- A record once the report ring has had its turn: it leaves the queue where every destination in force has it (R449). -/
def Dev.queueHanded (d : Dev) (c : CustRec) (cs : List CustRec) : Dev :=
  if (d.ringlogOk || (d.routed 4).isSome) && (!d.ringlogOk || c.nor) && (!(d.routed 4).isSome || (c.ring && c.list)) then
    (({ d with thkt.queue := cs } : Dev).cntWrap (THKT_CREC 1) 31 0 1).showQueue
  else { d with thkt.queue := c :: cs }

theorem handoff_signed {d : Dev} {c : CustRec} {cs : List CustRec} (hq : d.thkt.queue = c :: cs) (hsig : c.sig ≠ []) :
    d.handoff = (d.ringTakes c).1.queueHanded (d.ringTakes c).2 cs := by
  unfold Dev.handoff
  rw [hq]
  exact if_neg hsig

theorem ringTakes_unrouted {d : Dev} (c : CustRec) (hr : d.routed 4 = none) : d.ringTakes c = (d, c) := by
  unfold Dev.ringTakes
  rw [hr]

theorem handoff_taken {c : CustRec} {cs : List CustRec} (hq : s.thkt.queue = c :: cs) (hsig : c.sig ≠ []) (hok : s.ringlogOk = true)
    (hnor : c.nor = true) (hr : s.routed 4 = none) (hlen : cs.length < 4096) : Answers .custodyHandoff s fun t =>
        t.thkt.queue = cs ∧ t.fld (THKT_CREC 1) 31 0 = (s.fld (THKT_CREC 1) 31 0 + 1) % 2 ^ 32 ∧
        t.fld THKT_QUEUE 11 0 = cs.length ∧ NoEvent s t := by
  have hdone : s.toDev.handoff = (({ s.toDev with thkt.queue := cs } : Dev).cntWrap (THKT_CREC 1) 31 0 1).showQueue := by
    rw [handoff_signed hq hsig, ringTakes_unrouted c hr]
    exact if_pos (by rw [hok, hnor, hr]; rfl)
  refine answers_of_done (congrArg (done s) hdone) ⟨congrArg ThktSt.queue (settle_thkt _), ?_, ?_, noEvent_after rfl⟩
  · refine (settle_fld _ _ _ _ (by decide) (by decide)).trans ?_
    unfold Dev.showQueue
    dsimp only
    rw [fld_wrN_other _ _ _ _ _ _ (by decide), fld_setFld_other _ _ _ _ _ _ _ _ (by decide), fld_setFld_other _ _ _ _ _ _ _ _ (by decide),
      fld_cntWrap_same _ _ _ _ _ (by decide) (by decide)]
    rfl
  · refine (settle_fld _ _ _ _ (by decide) (by decide)).trans ?_
    unfold Dev.showQueue
    dsimp only
    rw [fld_wrN_other _ _ _ _ _ _ (by decide), fld_setFld_ne _ _ _ _ _ _ _ (by decide) (by decide) (by decide),
      fld_setFld_same _ _ _ _ _ (by decide) (by decide)]
    exact Nat.mod_eq_of_lt hlen

theorem handoff_waits {c : CustRec} {cs : List CustRec} (hq : s.thkt.queue = c :: cs) (hsig : c.sig ≠ []) (hnor : c.nor = false)
    (hok : s.ringlogOk = true) (hr : s.routed 4 = none) : NoEffect .custodyHandoff s := by
  refine noEffect_of_done rfl ?_
  rw [handoff_signed hq hsig, ringTakes_unrouted c hr]
  refine (if_neg (by rw [hok, hnor, hr]; simp)).trans ?_
  rw [← hq]

/-- A report is written in front of those before it, or not at all. -/
theorem report_keeps_out {d : Dev} {p : Nat} (hp : p < 16) (cls content : Nat) (body : List Byte) {x : Nat × List Byte} (hx : x ∈ d.host.out) :
    x ∈ (d.report p cls content body).host.out := by
  obtain ⟨hfits, hfull⟩ := report_shows d hp cls content body
  cases hroom : d.repFits p ((padSlots body).length / 32) with
  | true =>
    obtain ⟨⟨h, -, hout⟩, -⟩ := hfits hroom
    rw [hout]
    exact List.mem_cons_of_mem _ hx
  | false =>
    rw [(hfull hroom).1]
    exact hx

/-- The turn of the report ring writes the record, with whatever list follows it (R379, R449). -/
theorem ringTakes_out {d : Dev} {c : CustRec} {p : Nat} (hr : d.routed 4 = some p) (hlen : c.whole.length = 176) (hnew : c.ring = false)
    (hfits : d.repFits p 6 = true) : ∃ h, h.length = 32 ∧ (p, h ++ padSlots c.whole) ∈ (d.ringTakes c).1.host.out := by
  have hp := routed_lt hr
  have hslots : (padSlots c.whole).length / 32 = 6 := by
    rw [padSlots, List.length_append, List.length_replicate, hlen]
    decide
  obtain ⟨⟨h, hh, hout⟩, -⟩ := (report_shows d hp 4 0 c.whole).1 (by rw [hslots, hfits])
  refine ⟨h, hh, ?_⟩
  have hgo : (!c.ring && d.repFits p 6) = true := by rw [hnew, hfits]; rfl
  have hmem : (p, h ++ padSlots c.whole) ∈ (d.report p 4 0 c.whole).host.out := by
    rw [hout]
    exact List.mem_cons_self
  unfold Dev.ringTakes
  rw [hr]
  dsimp only
  rw [if_pos hgo]
  dsimp only
  split
  · exact report_keeps_out hp _ _ _ hmem
  · exact hmem

theorem queueHanded_host (d : Dev) (c : CustRec) (cs : List CustRec) : (d.queueHanded c cs).host = d.host := by
  unfold Dev.queueHanded
  split <;> rfl

theorem handoff_reported {c : CustRec} {cs : List CustRec} (hq : s.thkt.queue = c :: cs) (hsig : c.sig ≠ []) {p : Nat}
    (hr : s.routed 4 = some p) (hlen : c.whole.length = 176) (hnew : c.ring = false) (hfits : s.repFits p 6 = true) :
    Answers .custodyHandoff s fun t => ∃ h, h.length = 32 ∧ (p, h ++ padSlots c.whole) ∈ t.host.out := by
  obtain ⟨h, hh, hout⟩ := ringTakes_out hr hlen hnew hfits
  refine answers_of_done (congrArg (done s) (handoff_signed hq hsig)) ⟨h, hh, ?_⟩
  rw [settle_host, queueHanded_host]
  exact hout

/-! Releases (R381). -/

theorem release_none (v : Word) (hgo : v.getLsbD 31 = false) : NoEffect (.pointReleaseCommand v) s :=
  noEffect_of_done rfl (if_neg (by rw [bitOf_toNat, hgo]; decide))

theorem release_taken (v : Word) (hgo : v.getLsbD 31 = true) (hsess : s.sessOk 3 = true) : Answers (.pointReleaseCommand v) s fun t =>
      t.rd THKT_REL_STAT = 16#32 ∧ NoEvent s t ∧
      Framed [THKT_REL_STAT] s t (blocks { s.toDev.sessUse with thkt.rel := s.thkt.rel ++ [bitsOf v.toNat 17 0] }) := by
  have hdone : s.toDev.releaseCommand v =
      { s.toDev.sessUse.wrN THKT_REL_STAT 16 with thkt.rel := s.thkt.rel ++ [bitsOf v.toNat 17 0] } := by
    unfold Dev.releaseCommand
    rw [bitOf_toNat, hgo, hsess]
    rfl
  refine answers_of_done (congrArg (done s) hdone) ⟨?_, noEvent_after rfl, ?_⟩
  · exact (settle_rd _ _ (by decide) (by decide)).trans (rd_wr_same s.toDev.sessUse THKT_REL_STAT 16#32)
  · exact ((((Effect.refl [THKT_REL_STAT] s.toDev).glade { s.glade with idleAt := s.seq.cyc }).wrN (List.mem_singleton_self _) 16).thkt
      { s.thkt with rel := s.thkt.rel ++ [bitsOf v.toNat 17 0] }).framed

theorem release_refused (v : Word) (hgo : v.getLsbD 31 = true) (hsess : s.sessOk 3 = false) : Answers (.pointReleaseCommand v) s fun t =>
      t.fld THKT_REL_STAT 3 0 = 2 ∧ Quiet [THKT_REL_STAT] s t := by
  have hdone : s.toDev.releaseCommand v = s.toDev.wrN THKT_REL_STAT (2 + 16 * bnat (!s.thkt.rel.isEmpty)) := by
    unfold Dev.releaseCommand
    rw [bitOf_toNat, hgo, hsess]
    rfl
  refine answers_of_done (congrArg (done s) hdone) ⟨?_,
    ((Effect.refl [THKT_REL_STAT] s.toDev).wrN (List.mem_singleton_self _) _).framed, noEvent_after rfl⟩
  refine (settle_fld _ _ _ _ (by decide) (by decide)).trans ((fld_wr_same _ _ _ _ _).trans ?_)
  cases s.thkt.rel.isEmpty <;> rfl

/-! The latch of a point, and its search (R368, R383). -/

/-- A latched point as THKT_PT shows it. -/
def Dev.showPoint (d : Dev) (n : Nat) : Dev := d.each (List.range 4) fun e k => e.wrN (THKT_PT k) (u32 (d.pointBytes n) (4 * k))

theorem latchPoint_eq (d : Dev) (v : Word) (ecc : Nat) : d.latchPoint v ecc =
    ((d.wrN THKT_PT_IDX (bitsOf v.toNat 17 0)).pointEcc (bitsOf v.toNat 17 0) ecc).showPoint (bitsOf v.toNat 17 0) := rfl

theorem showPoint_writes (d : Dev) (n : Nat) : d.showPoint n = (((d.wrN (THKT_PT 0) (u32 (d.pointBytes n) 0)).wrN (THKT_PT 1)
    (u32 (d.pointBytes n) 4)).wrN (THKT_PT 2) (u32 (d.pointBytes n) 8)).wrN (THKT_PT 3) (u32 (d.pointBytes n) 12) := rfl

theorem showPoint_rd (d : Dev) (n : Nat) (k : Fin 4) : (d.showPoint n).rd (THKT_PT k) = BitVec.ofNat 32 (u32 (d.pointBytes n) (4 * k)) := by
  rw [showPoint_writes]
  generalize u32 (d.pointBytes n) = w
  match k with
  | 0 => rw [rd_wrN_ne _ _ _ _ (by decide), rd_wrN_ne _ _ _ _ (by decide), rd_wrN_ne _ _ _ _ (by decide)]; exact rd_wr_same _ _ _
  | 1 => rw [rd_wrN_ne _ _ _ _ (by decide), rd_wrN_ne _ _ _ _ (by decide)]; exact rd_wr_same _ _ _
  | 2 => rw [rd_wrN_ne _ _ _ _ (by decide)]; exact rd_wr_same _ _ _
  | 3 => exact rd_wr_same _ _ _

theorem showPoint_kept (d : Dev) (n : Nat) : (d.showPoint n).thkt = d.thkt ∧ (d.showPoint n).log = d.log ∧
    ∀ a, a ∉ [THKT_PT 0, THKT_PT 1, THKT_PT 2, THKT_PT 3] → (d.showPoint n).rd a = d.rd a := by
  rw [showPoint_writes]
  generalize u32 (d.pointBytes n) = w
  refine ⟨rfl, rfl, fun a ha => ?_⟩
  simp only [List.mem_cons, List.not_mem_nil, or_false, not_or] at ha
  obtain ⟨h0, h1, h2, h3⟩ := ha
  rw [rd_wrN_ne _ _ _ _ h3, rd_wrN_ne _ _ _ _ h2, rd_wrN_ne _ _ _ _ h1, rd_wrN_ne _ _ _ _ h0]

theorem latch_shows (v : Word) : Answers (.pointLatch v 0) s fun t => t.rd THKT_PT_IDX = BitVec.ofNat 32 (bitsOf v.toNat 17 0) ∧
      (∀ k : Fin 4, t.rd (THKT_PT k) = BitVec.ofNat 32 (u32 (s.pointBytes (bitsOf v.toNat 17 0)) (4 * k))) ∧
      Quiet [THKT_PT_IDX, THKT_PT 0, THKT_PT 1, THKT_PT 2, THKT_PT 3] s t := by
  have hdone : s.toDev.latchPoint v 0 = (s.toDev.wrN THKT_PT_IDX (bitsOf v.toNat 17 0)).showPoint (bitsOf v.toNat 17 0) := latchPoint_eq _ _ 0
  have hbytes : (s.toDev.wrN THKT_PT_IDX (bitsOf v.toNat 17 0)).pointBytes (bitsOf v.toNat 17 0) = s.pointBytes (bitsOf v.toNat 17 0) := rfl
  have hidx : (s.toDev.wrN THKT_PT_IDX (bitsOf v.toNat 17 0)).rd THKT_PT_IDX = BitVec.ofNat 32 (bitsOf v.toNat 17 0) := rd_wr_same _ _ _
  have heff : Effect [THKT_PT_IDX, THKT_PT 0, THKT_PT 1, THKT_PT 2, THKT_PT 3] s.toDev (s.toDev.wrN THKT_PT_IDX (bitsOf v.toNat 17 0))
      (blocks s.toDev) := (Effect.refl _ s.toDev).wrN (by decide) _
  have hlog : (s.toDev.wrN THKT_PT_IDX (bitsOf v.toNat 17 0)).log = s.log := rfl
  generalize s.toDev.wrN THKT_PT_IDX (bitsOf v.toNat 17 0) = d at *
  obtain ⟨-, hlog', hregs⟩ := showPoint_kept d (bitsOf v.toNat 17 0)
  refine answers_of_done (congrArg (done s) hdone) ⟨?_, fun k => ?_, ?_, noEvent_after (congrArg LogSt.raised (hlog'.trans hlog))⟩
  · exact (settle_rd _ _ (by decide) (by decide)).trans ((hregs _ (by decide)).trans hidx)
  · have hout : THKT_PT k ≠ SAFE_OUT_STAT ∧ THKT_PT k ≠ SAFE_STAT := by revert k; decide
    rw [settle_rd _ _ hout.1 hout.2, showPoint_rd, hbytes]
  · exact (heff.each fun e k hk he => he.wrN (by revert k; decide) _).framed

/-- A point that memory cannot correct is freed and its record asked for (R368). -/
theorem pointEcc_lost (d : Dev) (n : Nat) : d.pointEcc n 2 =
    { ((d.cntSat THKT_ECC 31 16 1).freePoint n).ev 0x0D09 n 0 with thkt.corrupt := d.thkt.corrupt ++ [n] } := by
  unfold Dev.pointEcc
  rw [if_neg (by decide), if_pos rfl]
  dsimp only
  refine congrArg (fun x : List Nat => ({ ((d.cntSat THKT_ECC 31 16 1).freePoint n).ev 0x0D09 n 0 with thkt.corrupt := x ++ [n] } : Dev)) ?_
  unfold Dev.freePoint Dev.showPts
  dsimp only
  split <;> rfl

theorem freePoint_spec (d : Dev) (n : Nat) : (d.freePoint n).point n = none ∧ (d.freePoint n).log = d.log ∧
    (d.freePoint n).fld THKT_ECC 31 16 = d.fld THKT_ECC 31 16 := by
  refine ⟨?_, showPts_logs _, ?_⟩
  · refine (congrArg (List.find? fun p : ThktPt => p.num == n) (showPts_pts { d with thkt.pts := d.thkt.pts.filter fun p => p.num != n })).trans ?_
    simp
  · have hkept := ((EntryKept.refl d).thkt (x := { d.thkt with pts := d.thkt.pts.filter fun p => p.num != n }) rfl).showPts
    exact fld_of_rd _ _ _ _ _ (hkept.regs THKT_ECC (by decide))

theorem latch_lost (v : Word) : Answers (.pointLatch v 2) s fun t => t.point (bitsOf v.toNat 17 0) = none ∧
      t.thkt.corrupt = s.thkt.corrupt ++ [bitsOf v.toNat 17 0] ∧
      t.fld THKT_ECC 31 16 = min 65535 (s.fld THKT_ECC 31 16 + 1) ∧
      OneEvent s t 0x0D09 (BitVec.ofNat 32 (bitsOf v.toNat 17 0)) 0#32 := by
  have hdone := latchPoint_eq s.toDev v 2
  rw [pointEcc_lost] at hdone
  generalize bitsOf v.toNat 17 0 = n at *
  have hcount : ((s.toDev.wrN THKT_PT_IDX n).cntSat THKT_ECC 31 16 1).fld THKT_ECC 31 16 = min 65535 (s.fld THKT_ECC 31 16 + 1) := by
    rw [fld_cntSat_same _ _ _ _ _ (by decide) (by decide), fld_wrN_other _ _ _ _ _ _ (by decide)]
    rfl
  have hlog : ((s.toDev.wrN THKT_PT_IDX n).cntSat THKT_ECC 31 16 1).log = s.log := rfl
  have hcorrupt : (s.toDev.wrN THKT_PT_IDX n).thkt.corrupt = s.thkt.corrupt := rfl
  generalize (s.toDev.wrN THKT_PT_IDX n).cntSat THKT_ECC 31 16 1 = d at *
  obtain ⟨hfree, hlog', hecc⟩ := freePoint_spec d n
  generalize d.freePoint n = e at *
  rw [hcorrupt] at hdone
  obtain ⟨hthkt, hshown, hregs⟩ := showPoint_kept { e.ev 0x0D09 n 0 with thkt.corrupt := s.thkt.corrupt ++ [n] } n
  refine answers_of_done (congrArg (done s) hdone) ⟨?_, ?_, ?_, oneEvent_ev (d := e) (c := 0x0D09) (p := n) (q := 0) ?_ ?_⟩
  · exact (point_settle _ _).trans ((congrArg (fun x : ThktSt => x.pts.find? fun p : ThktPt => p.num == n) hthkt).trans hfree)
  · exact (congrArg ThktSt.corrupt (settle_thkt _)).trans (congrArg ThktSt.corrupt hthkt :)
  · exact (settle_fld _ _ _ _ (by decide) (by decide)).trans ((fld_of_rd _ _ _ _ _ (hregs _ (by decide))).trans (hecc.trans hcount))
  · exact (congrArg LogSt.raised hshown :)
  · exact congrArg LogSt.raised (hlog'.trans hlog)

theorem find_starts (v : Word) : Answers (.pointFind v) s fun t => t.rd THKT_FIND_HI = BitVec.ofNat 32 (bitsOf v.toNat 23 0) ∧
      (v.getLsbD 31 = true → t.rd THKT_FIND_RES = 0x40000000#32) ∧
      (v.getLsbD 31 = false → t.rd THKT_FIND_RES = s.rd THKT_FIND_RES) ∧ Quiet [THKT_FIND_HI, THKT_FIND_RES] s t := by
  have hhi := (Effect.refl [THKT_FIND_HI, THKT_FIND_RES] s.toDev).wrN (a := THKT_FIND_HI) (by decide) (bitsOf v.toNat 23 0)
  cases hgo : v.getLsbD 31 with
  | true =>
    have hdone : s.toDev.findStart v = (s.toDev.wrN THKT_FIND_HI (bitsOf v.toNat 23 0)).wrN THKT_FIND_RES (2 ^ 30) :=
      if_pos (by rw [bitOf_toNat, hgo])
    refine answers_of_done (congrArg (done s) hdone) ⟨?_, fun _ => ?_, fun h => absurd h (by decide), (hhi.wrN (by decide) _).framed,
      noEvent_after rfl⟩
    · exact (settle_rd _ _ (by decide) (by decide)).trans ((rd_wrN_ne _ _ _ _ (by decide)).trans (rd_wr_same _ _ _))
    · exact (settle_rd _ _ (by decide) (by decide)).trans (rd_wr_same _ _ _)
  | false =>
    have hdone : s.toDev.findStart v = s.toDev.wrN THKT_FIND_HI (bitsOf v.toNat 23 0) := if_neg (by rw [bitOf_toNat, hgo]; decide)
    refine answers_of_done (congrArg (done s) hdone) ⟨?_, fun h => absurd h (by decide), fun _ => ?_, hhi.framed, noEvent_after rfl⟩
    · exact (settle_rd _ _ (by decide) (by decide)).trans (rd_wr_same _ _ _)
    · exact (settle_rd _ _ (by decide) (by decide)).trans (rd_wrN_ne _ _ _ _ (by decide))

theorem find_ends (hbusy : s.bit THKT_FIND_RES 30 = true) : Answers .pointFindDone s fun t => Quiet [THKT_FIND_RES] s t ∧
      t.rd THKT_FIND_RES = match s.pointOf (leBytes 4 (s.rd THKT_FIND_LO).toNat ++ leBytes 3 (s.fld THKT_FIND_HI 23 0)) with
        | some p => BitVec.ofNat 32 (p.num + 2 ^ 31)
        | none => 0#32 := by
  have hfind : exec .pointFindDone s = done s s.toDev.findDone := rfl
  unfold Dev.findDone at hfind
  rw [if_pos hbusy] at hfind
  dsimp only at hfind
  have hres : ∀ v, (Quiet [THKT_FIND_RES] s (s.after (s.toDev.wrN THKT_FIND_RES v))) ∧
      (s.after (s.toDev.wrN THKT_FIND_RES v)).rd THKT_FIND_RES = BitVec.ofNat 32 v := fun v =>
    ⟨⟨((Effect.refl [THKT_FIND_RES] s.toDev).wrN (List.mem_singleton_self _) v).framed, noEvent_after rfl⟩,
      (settle_rd _ _ (by decide) (by decide)).trans (rd_wr_same _ _ _)⟩
  cases hp : s.pointOf (leBytes 4 (s.rd THKT_FIND_LO).toNat ++ leBytes 3 (s.fld THKT_FIND_HI 23 0)) with
  | some p =>
    rw [hp] at hfind
    exact answers_of_done hfind (hres _)
  | none =>
    rw [hp] at hfind
    exact answers_of_done hfind (hres _)

theorem find_idle (hidle : s.bit THKT_FIND_RES 30 = false) : NoEffect .pointFindDone s :=
  noEffect_of_done rfl (if_neg (by rw [hidle]; decide))

end

/-- Settles O48: the signing queue, releases, and the latch and search of a point. -/
theorem custodyCommands : Obligations.CustodyCommands := by
  unfold Obligations.CustodyCommands
  exact fun s => ⟨fun _ _ hq hsig => ⟨signHead_signs hq hsig, handoff_unsigned hq hsig⟩,
    fun _ _ hq hsig => ⟨signHead_signed hq hsig, fun hok hnor => handoff_taken hq hsig hok hnor, handoff_waits hq hsig,
      fun _ hr hlen hnew hfits => handoff_reported hq hsig hr hlen hnew hfits⟩,
    queue_empty, release_none, release_taken, release_refused, latch_shows, latch_lost, find_starts, find_ends, find_idle⟩

end Sys2Proof.Machine
end

section
/-! O49, first part: Duff takes the events raised, and holds back what its buckets do not let pass (R388 to R392). -/

namespace Sys2Proof.Machine

/-! The next event raised (R388). -/

/-- The event of lower code, of those of one stamp. -/
def lowerCode (stamp : Int) (a x : EvRec) : EvRec := if x.stamp = stamp ∧ x.code < a.code then x else a

theorem lowest_spec (stamp : Int) (xs : List EvRec) : ∀ a : EvRec, a.stamp = stamp →
    (xs.foldl (lowerCode stamp) a).stamp = stamp ∧ (xs.foldl (lowerCode stamp) a).code ≤ a.code ∧
    (xs.foldl (lowerCode stamp) a = a ∨ xs.foldl (lowerCode stamp) a ∈ xs) ∧
    ∀ x ∈ xs, x.stamp = stamp → (xs.foldl (lowerCode stamp) a).code ≤ x.code := by
  induction xs with
  | nil => exact fun a ha => ⟨ha, Nat.le_refl _, .inl rfl, by simp⟩
  | cons y ys ih =>
    intro a ha
    by_cases hlow : y.stamp = stamp ∧ y.code < a.code
    · have hstep : lowerCode stamp a y = y := if_pos hlow
      obtain ⟨hstamp, hle, hmem, hall⟩ := ih y hlow.1
      rw [List.foldl_cons, hstep]
      refine ⟨hstamp, hle.trans (Nat.le_of_lt hlow.2), .inr ?_, ?_⟩
      · exact List.mem_cons.mpr hmem
      · rintro x hx hxs
        rcases List.mem_cons.mp hx with rfl | hx
        · exact hle
        · exact hall x hx hxs
    · have hstep : lowerCode stamp a y = a := if_neg hlow
      obtain ⟨hstamp, hle, hmem, hall⟩ := ih a ha
      rw [List.foldl_cons, hstep]
      refine ⟨hstamp, hle, hmem.imp_right fun h => List.mem_cons_of_mem _ h, ?_⟩
      rintro x hx hxs
      rcases List.mem_cons.mp hx with rfl | hx
      · exact hle.trans (Nat.not_lt.mp fun h => hlow ⟨hxs, h⟩)
      · exact hall x hx hxs

theorem nextRaised_spec (r : EvRec) (rs : List EvRec) : ∃ e es, nextRaised (r :: rs) = some (e, es) ∧ e ∈ r :: rs ∧ e.stamp = r.stamp ∧
    es = (r :: rs).erase e ∧ ∀ x ∈ r :: rs, x.stamp = r.stamp → e.code ≤ x.code := by
  obtain ⟨hstamp, hle, hmem, hall⟩ := lowest_spec r.stamp rs r rfl
  refine ⟨rs.foldl (lowerCode r.stamp) r, _, rfl, List.mem_cons.mpr hmem, hstamp, rfl, ?_⟩
  rintro x hx hxs
  rcases List.mem_cons.mp hx with rfl | hx
  · exact hle
  · exact hall x hx hxs

/-! The buckets (R389). -/

theorem limits_of_regs {s d : Dev} (hcfg : d.rd LOG_CFG = s.rd LOG_CFG) (hovr : ∀ k, d.rd (LOG_RL_OVR k) = s.rd (LOG_RL_OVR k)) (c : Nat) :
    d.rlRate c = s.rlRate c ∧ d.rlCap c = s.rlCap c := by
  have hfld : ∀ k hi lo, d.fld (LOG_RL_OVR k) hi lo = s.fld (LOG_RL_OVR k) hi lo := fun k hi lo => fld_of_rd _ _ _ _ _ (hovr k)
  have hname : d.rlOvr c = s.rlOvr c := by
    unfold Dev.rlOvr
    simp only [hfld]
  unfold Dev.rlRate Dev.rlCap
  rw [hname]
  simp only [hfld, fld_of_rd _ _ _ _ _ hcfg, and_self]

theorem bucket_of_limits {s d : Dev} (hb : d.log.buckets = s.log.buckets) (c : Nat) (hcap : d.rlCap c = s.rlCap c) :
    d.bucket c = s.bucket c := by
  unfold Dev.bucket
  rw [hb, hcap]

/-- The buckets that are listed once b is kept. -/
def Dev.bucketsWith (d : Dev) (b : Bucket) : List Bucket :=
  if b.held = 0 ∧ d.rlCap b.code ≤ b.tok then d.log.buckets.filter fun x => x.code != b.code
  else (d.log.buckets.filter fun x => x.code != b.code) ++ [{ b with tok := min b.tok (d.rlCap b.code) }]

theorem setBucket_eq (d : Dev) (b : Bucket) : d.setBucket b = { d with log.buckets := d.bucketsWith b } := rfl

theorem bucket_code (d : Dev) (c : Nat) : (d.bucket c).code = c := by
  unfold Dev.bucket
  cases h : d.log.buckets.find? (fun b => b.code == c) with
  | none => rfl
  | some b => exact beq_iff_eq.mp (List.find?_some (p := fun b : Bucket => b.code == c) h)

/-- A bucket that is kept is found again, full or listed (R389). -/
theorem bucket_kept {d e : Dev} (b : Bucket) (hb : e.log.buckets = d.bucketsWith b) (hcap : e.rlCap b.code = d.rlCap b.code) :
    (e.bucket b.code).tok = min b.tok (d.rlCap b.code) ∧ (e.bucket b.code).held = b.held := by
  have hrest : (d.log.buckets.filter fun x => x.code != b.code).find? (fun x => x.code == b.code) = none := by simp
  unfold Dev.bucket
  rw [hb, hcap]
  unfold Dev.bucketsWith
  split
  · next hfull =>
    rw [hrest]
    exact ⟨(Nat.min_eq_right hfull.2).symm, hfull.1.symm⟩
  · rw [List.find?_append, hrest]
    simp

/-! A record enters Duff (R391, R392). -/

/-- What a record may write on its way into Duff or out of it. -/
def duffRegs : List Nat := [LOG_LEDGER 1, LOG_LEDGER 3, LOG_FROZEN_CNT, HOST_EVT_PEND 3]

/-- A device d that records entering Duff have made of s: events are added behind those raised, and no register but Duff's own moves. -/
structure Recorded (s d : Dev) : Prop where
  raised : ∃ more, d.log.raised = s.log.raised ++ more
  regs : ∀ a, a ∉ duffRegs → d.rd a = s.rd a

theorem Recorded.refl (s : Dev) : Recorded s s := ⟨⟨[], (List.append_nil _).symm⟩, fun _ _ => rfl⟩

section
variable {s d : Dev}

theorem Recorded.wr (h : Recorded s d) {a : Nat} (ha : a ∈ duffRegs) (v : Word) : Recorded s (d.wr a v) :=
  ⟨h.raised, fun x hx => (rd_wr_ne _ _ _ _ (ne_of_mem_of_not_mem ha hx).symm).trans (h.regs x hx)⟩

theorem Recorded.log (h : Recorded s d) {x : LogSt} (hx : x.raised = d.log.raised) : Recorded s { d with log := x } :=
  ⟨h.raised.imp fun _ he => hx.trans he, h.regs⟩

theorem Recorded.evW (h : Recorded s d) (c : Nat) (p q : Word) : Recorded s (d.evW c p q) := by
  obtain ⟨more, hmore⟩ := h.raised
  have hlast := congrArg (· ++ [({ code := c, p1 := p, p2 := q, p3 := d.rd GLB_CYCLE_CNT, stamp := d.now, valid := d.timeValid } : EvRec)]) hmore
  exact ⟨⟨_, hlast.trans (List.append_assoc _ _ _)⟩, h.regs⟩

theorem Recorded.ite (c : Prop) [Decidable c] {e : Dev} (hd : Recorded s d) (he : Recorded s e) : Recorded s (if c then d else e) := by
  split
  · exact hd
  · exact he

/-- A drop during a freeze is counted for it (R396). -/
def Dev.frozenDrop (d : Dev) : Dev :=
  if d.bit LOG_STAT 1 then { d.cntSat LOG_FROZEN_CNT 31 0 1 with log.frozenDrops := d.log.frozenDrops + 1 } else d

/-- The first drop since a hand-off has its event (R392). -/
def Dev.dropNoted (d : Dev) : Dev :=
  if d.log.dropSaid then d else { d with log.dropSaid := true }.evW 0x0E05 0 (d.rd (LOG_LEDGER 3))

theorem dropRecord_eq (d : Dev) (r : DuffRec) (ring : Bool) : d.dropRecord r ring =
    if ring then ((d.cntWrap (LOG_LEDGER 3) 31 0 r.weight).frozenDrop.raise 0x68).dropNoted else d.cntWrap (LOG_LEDGER 3) 31 0 r.weight := rfl

theorem Recorded.frozenDrop (h : Recorded s d) : Recorded s d.frozenDrop := by
  have hcount : Recorded s (d.cntSat LOG_FROZEN_CNT 31 0 1) := h.wr (by decide) _
  exact Recorded.ite _ (hcount.log rfl) h

theorem Recorded.dropNoted (h : Recorded s d) : Recorded s d.dropNoted := by
  have hsaid : Recorded s { d with log.dropSaid := true } := h.log rfl
  exact Recorded.ite _ h (hsaid.evW _ _ _)

theorem Recorded.dropRecord (h : Recorded s d) (r : DuffRec) (ring : Bool) : Recorded s (d.dropRecord r ring) := by
  have hcount : Recorded s (d.cntWrap (LOG_LEDGER 3) 31 0 r.weight) := h.wr (by decide) _
  have hraise : Recorded s ((d.cntWrap (LOG_LEDGER 3) 31 0 r.weight).frozenDrop.raise 0x68) := hcount.frozenDrop.wr (by decide) _
  rw [dropRecord_eq]
  exact Recorded.ite _ hraise.dropNoted hcount

theorem Recorded.duffPut (h : Recorded s d) (r : DuffRec) : Recorded s (d.duffPut r) := by
  refine Recorded.ite _ (h.dropRecord _ _) ?_
  have hin := h.log (x := { d.log with
    duff := (d.log.duff ++ [r]).drop ((d.log.duff ++ [r]).length - 4096), wr := (d.log.wr + 1) % 4096,
    waiting := d.log.waiting + bnat d.ringlogOk }) rfl
  exact Recorded.ite _ hin (hin.wr (by decide) _)

theorem Recorded.placeRecord (h : Recorded s d) (c : Nat) (r : DuffRec) : Recorded s (d.placeRecord c r) := by
  have hpassed := h.log (x := { d.log with passed := d.log.passed ++ [r.bytes] }) rfl
  exact Recorded.ite _ (Recorded.ite _ (hpassed.dropRecord _ _) (hpassed.log rfl)) (hpassed.duffPut _)

end

/-- What comes last is the newest, however long the ring. -/
theorem newest_kept (xs : List DuffRec) (r : DuffRec) {n : Nat} (hn : 0 < n) :
    ((xs ++ [r]).drop ((xs ++ [r]).length - n)).getLast? = some r := by
  rw [List.getLast?_drop, if_neg (by simp; omega), List.getLast?_concat]

theorem placeRecord_ring {d : Dev} {c : Nat} (r : DuffRec) (hok : d.ringlogOk = true) (hfree : pinnedCode c = false)
    (hroom : d.log.waiting < 4096) : (d.placeRecord c r).log.duff.getLast? = some r ∧
      (d.placeRecord c r).log.waiting = d.log.waiting + 1 := by
  have hput : d.placeRecord c r = Dev.duffPut { d with log.passed := d.log.passed ++ [r.bytes] } r := if_neg (by rw [hfree]; simp)
  have hin : Dev.duffPut { d with log.passed := d.log.passed ++ [r.bytes] } r = { d with
      log.passed := d.log.passed ++ [r.bytes], log.duff := (d.log.duff ++ [r]).drop ((d.log.duff ++ [r]).length - 4096),
      log.wr := (d.log.wr + 1) % 4096, log.waiting := d.log.waiting + bnat d.ringlogOk } :=
    (if_neg (by simp [Nat.not_le.mpr hroom])).trans (if_pos hok)
  rw [hput, hin, hok]
  dsimp only
  exact ⟨newest_kept d.log.duff r (n := 4096) (Nat.zero_lt_of_ne_zero (by simp)), rfl⟩

theorem placeRecord_pin {d : Dev} {c : Nat} (r : DuffRec) (hok : d.ringlogOk = true) (hpin : pinnedCode c = true)
    (hroom : d.log.pin.length < 256) : (d.placeRecord c r).log.pin = d.log.pin ++ [r] ∧ (d.placeRecord c r).log.duff = d.log.duff := by
  have hput : d.placeRecord c r = { d with log.passed := d.log.passed ++ [r.bytes], log.pin := d.log.pin ++ [r] } :=
    (if_pos (by rw [hpin]; exact hok)).trans (if_neg (Nat.not_le.mpr hroom))
  rw [hput]
  exact ⟨rfl, rfl⟩

theorem showLog_effect {l : List Nat} {s d b : Dev} (h : Effect l s d b) (hl : [LOG_LEDGER 2, LOG_DUFF_PTR] ⊆ l) : Effect l s d.showLog b :=
  ((h.wrN (hl (by simp : LOG_LEDGER 2 ∈ _)) _).setFld (hl (by simp : LOG_DUFF_PTR ∈ _)) _ _ _).setFld (hl (by simp : LOG_DUFF_PTR ∈ _)) _ _ _

theorem showLog_rd (d : Dev) {a : Nat} (ha : a ∉ [LOG_LEDGER 2, LOG_DUFF_PTR]) : d.showLog.rd a = d.rd a :=
  (showLog_effect (Effect.refl _ d) (List.Subset.refl _)).regs a ha

theorem showLog_log (d : Dev) : d.showLog.log = d.log := rfl

/-! The record of an event (R388, R389). -/

/-- The device as Duff takes an event: it is off the list and counted. -/
def Dev.recordTaken (s : Dev) (es : List EvRec) : Dev := ({ s with log.raised := es } : Dev).cntWrap (LOG_LEDGER 0) 31 0 1

/-- The event's code judged by its bucket (R389). -/
def Dev.recordJudged (s : Dev) (e : EvRec) : Dev :=
  let r : DuffRec := { bytes := s.logBytes e false false }
  let hi := e.code / 256
  match s.rlRate e.code with
  | none => s.placeRecord e.code r
  | some _ =>
    let b := s.bucket e.code
    if hi = 0 ∨ 0x11 < hi then s.placeRecord e.code r
    else if 1000 ≤ b.tok then (s.setBucket { b with tok := b.tok - 1000 }).placeRecord e.code r
    else s.setBucket { b with held := b.held + 1, p1 := e.p1, p2 := e.p2 }

theorem eventRecord_eq {s : Dev} {e : EvRec} {es : List EvRec} (h : nextRaised s.log.raised = some (e, es)) :
    s.eventRecord = ((s.recordTaken es).recordJudged e).showLog := by
  unfold Dev.eventRecord
  rw [h]
  rfl

theorem recordTaken_spec (s : Dev) (es : List EvRec) : (s.recordTaken es).log = { s.log with raised := es } ∧
    (∀ c, (s.recordTaken es).rlRate c = s.rlRate c ∧ (s.recordTaken es).rlCap c = s.rlCap c ∧ (s.recordTaken es).bucket c = s.bucket c) ∧
    (∀ e m k, (s.recordTaken es).logBytes e m k = s.logBytes e m k) ∧ (s.recordTaken es).ringlogOk = s.ringlogOk ∧
    (s.recordTaken es).fld (LOG_LEDGER 0) 31 0 = (s.fld (LOG_LEDGER 0) 31 0 + 1) % 2 ^ 32 := by
  have hlim : ∀ c, (s.recordTaken es).rlRate c = s.rlRate c ∧ (s.recordTaken es).rlCap c = s.rlCap c :=
    limits_of_regs (rd_cntWrap_ne _ _ _ _ _ _ (by decide))
      fun k => rd_cntWrap_ne _ _ _ _ _ _ (by simp only [LOG_RL_OVR, LOG_LEDGER]; omega)
  refine ⟨rfl, fun c => ⟨(hlim c).1, (hlim c).2, bucket_of_limits (d := s.recordTaken es) (s := s) rfl c (hlim c).2⟩, fun e m k => ?_,
    bit_cntWrap_other _ _ _ _ _ _ _ (by decide), fld_cntWrap_same _ _ _ _ _ (by decide) (by decide)⟩
  unfold Dev.logBytes
  rw [show (s.recordTaken es).fld LOG_PWR_CYC 23 0 = s.fld LOG_PWR_CYC 23 0 from fld_cntWrap_other _ _ _ _ _ _ _ _ (by decide),
    show (s.recordTaken es).rd LOG_OP_S = s.rd LOG_OP_S from rd_cntWrap_ne _ _ _ _ _ _ (by decide)]

theorem recordJudged_recorded (d : Dev) (e : EvRec) : Recorded d (d.recordJudged e) := by
  have hbucket : ∀ b, Recorded d (d.setBucket b) := fun b => (Recorded.refl d).log rfl
  unfold Dev.recordJudged
  dsimp only
  split
  · exact (Recorded.refl d).placeRecord _ _
  · exact Recorded.ite _ ((Recorded.refl d).placeRecord _ _) (Recorded.ite _ ((hbucket _).placeRecord _ _) (hbucket _))

/-- A code without a rate, or whose bucket holds a token, passes (R389). -/
theorem recordJudged_passes {d : Dev} {e : EvRec} (h : d.rlRate e.code = none ∨ 1000 ≤ (d.bucket e.code).tok) :
    ∃ bs, d.recordJudged e = Dev.placeRecord { d with log.buckets := bs } e.code { bytes := d.logBytes e false false } := by
  unfold Dev.recordJudged
  dsimp only
  split
  · exact ⟨d.log.buckets, rfl⟩
  · next hrate =>
    have htok := h.resolve_left (by rw [hrate]; simp)
    split
    · exact ⟨d.log.buckets, rfl⟩
    · exact ⟨d.bucketsWith { d.bucket e.code with tok := (d.bucket e.code).tok - 1000 }, rfl⟩

/-- A code whose bucket holds none is held back (R389, R390). -/
theorem recordJudged_holds {d : Dev} {e : EvRec} {r : Nat} (hrate : d.rlRate e.code = some r) (hlow : 1 ≤ e.code / 256)
    (hhigh : e.code / 256 ≤ 0x11) (htok : (d.bucket e.code).tok < 1000) : d.recordJudged e =
      d.setBucket { d.bucket e.code with held := (d.bucket e.code).held + 1, p1 := e.p1, p2 := e.p2 } := by
  unfold Dev.recordJudged
  dsimp only
  rw [hrate]
  exact (if_neg (by omega)).trans (if_neg (by omega))

section
variable {s : State} {e : EvRec} {es : List EvRec}

theorem eventRecord_takes (h : nextRaised s.log.raised = some (e, es)) :
    Answers .eventRecord s fun t => (∃ more, t.log.raised = es ++ more) ∧
        t.fld (LOG_LEDGER 0) 31 0 = (s.fld (LOG_LEDGER 0) 31 0 + 1) % 2 ^ 32 := by
  obtain ⟨hlog, -, -, -, hcount⟩ := recordTaken_spec s.toDev es
  have hdone := eventRecord_eq h
  generalize s.toDev.recordTaken es = d at *
  obtain ⟨⟨more, hmore⟩, hregs⟩ := recordJudged_recorded d e
  generalize d.recordJudged e = x at *
  refine answers_of_done (congrArg (done s) hdone) ⟨⟨more, ?_⟩, ?_⟩
  · refine (congrArg LogSt.raised (settle_log _)).trans (hmore.trans ?_)
    rw [hlog]
  · exact (settle_fld _ _ _ _ (by decide) (by decide)).trans ((fld_of_rd _ _ _ _ _ (showLog_rd x (by decide))).trans
      ((fld_of_rd _ _ _ _ _ (hregs _ (by decide))).trans hcount))

/-- The record that passes, as it finds the recorder. -/
theorem eventRecord_passes (h : nextRaised s.log.raised = some (e, es)) (hpass : s.rlRate e.code = none ∨ 1000 ≤ (s.bucket e.code).tok) :
    ∃ d : Dev, s.toDev.eventRecord = (d.placeRecord e.code { bytes := s.logBytes e false false }).showLog ∧ d.ringlogOk = s.ringlogOk ∧
      d.log.waiting = s.log.waiting ∧ d.log.pin = s.log.pin ∧ d.log.duff = s.log.duff := by
  obtain ⟨hlog, hlimits, hbytes, hok, -⟩ := recordTaken_spec s.toDev es
  obtain ⟨hrate, -, hbucket⟩ := hlimits e.code
  have hdone := eventRecord_eq h
  rw [← hrate, ← hbucket] at hpass
  rw [← hbytes]
  generalize s.toDev.recordTaken es = d at *
  obtain ⟨bs, hbs⟩ := recordJudged_passes hpass
  refine ⟨{ d with log.buckets := bs }, hdone.trans (congrArg Dev.showLog hbs), hok, ?_, ?_, ?_⟩ <;>
  · show _ = _
    rw [hlog]

theorem eventRecord_ring (h : nextRaised s.log.raised = some (e, es)) (hpass : s.rlRate e.code = none ∨ 1000 ≤ (s.bucket e.code).tok)
    (hok : s.ringlogOk = true) (hfree : pinnedCode e.code = false) (hroom : s.log.waiting < 4096) : Answers .eventRecord s fun t =>
      t.log.duff.getLast? = some { bytes := s.logBytes e false false } ∧ t.log.waiting = s.log.waiting + 1 := by
  obtain ⟨d, hdone, hokD, hwait, -, -⟩ := eventRecord_passes h hpass
  obtain ⟨hlast, hcount⟩ := placeRecord_ring { bytes := s.logBytes e false false } (hokD.trans hok) hfree (hwait ▸ hroom)
  exact answers_of_done (congrArg (done s) hdone) ⟨(congrArg (fun x : LogSt => x.duff.getLast?) (settle_log _)).trans hlast,
    (congrArg LogSt.waiting (settle_log _)).trans (hcount.trans (by rw [hwait]))⟩

theorem eventRecord_pin (h : nextRaised s.log.raised = some (e, es)) (hpass : s.rlRate e.code = none ∨ 1000 ≤ (s.bucket e.code).tok)
    (hok : s.ringlogOk = true) (hpin : pinnedCode e.code = true) (hroom : s.log.pin.length < 256) : Answers .eventRecord s fun t =>
      t.log.pin = s.log.pin ++ [{ bytes := s.logBytes e false false }] ∧ t.log.duff = s.log.duff := by
  obtain ⟨d, hdone, hokD, -, hqueue, hduff⟩ := eventRecord_passes h hpass
  obtain ⟨hput, hkept⟩ := placeRecord_pin { bytes := s.logBytes e false false } (hokD.trans hok) hpin (hqueue ▸ hroom)
  exact answers_of_done (congrArg (done s) hdone) ⟨(congrArg LogSt.pin (settle_log _)).trans (hput.trans (by rw [hqueue])),
    (congrArg LogSt.duff (settle_log _)).trans (hkept.trans hduff)⟩

/-- The limits of a code's bucket are no part of what Duff shows of its pointers. -/
theorem rlCap_showLog (d : Dev) (c : Nat) : (s.after d.showLog).rlCap c = d.rlCap c := by
  refine (limits_of_regs ?_ fun k => ?_) c |>.2
  · exact (settle_rd _ _ (by decide) (by decide)).trans (showLog_rd d (by decide))
  · have hk : LOG_RL_OVR k ∉ [LOG_LEDGER 2, LOG_DUFF_PTR] ∧ (LOG_RL_OVR k ≠ SAFE_OUT_STAT ∧ LOG_RL_OVR k ≠ SAFE_STAT) := by
      simp only [LOG_RL_OVR, LOG_LEDGER, LOG_DUFF_PTR, SAFE_OUT_STAT, SAFE_STAT, List.mem_cons, List.not_mem_nil, or_false]
      omega
    exact (settle_rd _ _ hk.2.1 hk.2.2).trans (showLog_rd d hk.1)

theorem bucket_after_set (d : Dev) (b : Bucket) : ((s.after (d.setBucket b).showLog).bucket b.code).tok = min b.tok (d.rlCap b.code) ∧
    ((s.after (d.setBucket b).showLog).bucket b.code).held = b.held :=
  bucket_kept b (congrArg LogSt.buckets (settle_log _)) ((rlCap_showLog _ _).trans (limits_of_regs rfl (fun _ => rfl) b.code).2)

theorem eventRecord_holds (h : nextRaised s.log.raised = some (e, es)) {r : Nat} (hrate : s.rlRate e.code = some r)
    (hlow : 1 ≤ e.code / 256) (hhigh : e.code / 256 ≤ 0x11) (htok : (s.bucket e.code).tok < 1000) :
    Answers .eventRecord s fun t => (t.bucket e.code).held = (s.bucket e.code).held + 1 ∧ t.log.duff = s.log.duff ∧
          t.log.pin = s.log.pin := by
  obtain ⟨hlog, hlimits, -⟩ := recordTaken_spec s.toDev es
  obtain ⟨hrateD, -, hbucket⟩ := hlimits e.code
  have hdone := eventRecord_eq h
  generalize s.toDev.recordTaken es = d at *
  rw [recordJudged_holds (hrateD.trans hrate) hlow hhigh (by rw [hbucket]; exact htok)] at hdone
  have hkept := bucket_after_set (s := s) d { d.bucket e.code with held := (d.bucket e.code).held + 1, p1 := e.p1, p2 := e.p2 }
  rw [show (d.bucket e.code).code = e.code from bucket_code d e.code] at hkept
  refine answers_of_done (congrArg (done s) hdone) ⟨?_, ?_, ?_⟩
  · exact hkept.2.trans (congrArg (·.held + 1) hbucket)
  · exact (congrArg LogSt.duff (settle_log _)).trans (congrArg LogSt.duff hlog :)
  · exact (congrArg LogSt.pin (settle_log _)).trans (congrArg LogSt.pin hlog :)

end

/-! The tokens of a millisecond (R389). -/

section
variable {s : State}

theorem refill_none (hnone : s.log.buckets = []) : Answers .bucketRefill s fun t => Quiet [LOG_LEDGER 2, LOG_DUFF_PTR] s t := by
  have hdone : s.toDev.refillBuckets = s.toDev.showLog := by
    unfold Dev.refillBuckets
    rw [hnone]
    rfl
  exact answers_of_done (congrArg (done s) hdone) ⟨(showLog_effect (Effect.refl _ s.toDev) (List.Subset.refl _)).framed, noEvent_after rfl⟩

theorem refill_one {b : Bucket} {r : Nat} (hone : s.log.buckets = [b]) (hrate : s.rlRate b.code = some r) (hheld : b.held = 0) :
    Answers .bucketRefill s fun t => (t.bucket b.code).tok = min (s.rlCap b.code) (b.tok + r) ∧
        Quiet [LOG_LEDGER 2, LOG_DUFF_PTR] { s with log.buckets := t.log.buckets } t := by
  have hdone : s.toDev.refillBuckets = (s.toDev.setBucket { b with tok := min (s.rlCap b.code) (b.tok + r) }).showLog := by
    unfold Dev.refillBuckets
    rw [hone]
    refine congrArg Dev.showLog ?_
    show ite _ _ _ = _
    rw [if_neg (by rw [hheld]; simp), hrate]
    rfl
  have hkept := bucket_after_set (s := s) s.toDev { b with tok := min (s.rlCap b.code) (b.tok + r) }
  rw [setBucket_eq] at hdone hkept
  generalize s.toDev.bucketsWith { b with tok := min (s.rlCap b.code) (b.tok + r) } = bs at *
  have hlog : (s.after (Dev.showLog { s.toDev with log.buckets := bs })).log.buckets = bs := congrArg LogSt.buckets (settle_log _)
  refine answers_of_done (congrArg (done s) hdone) ⟨hkept.1.trans (Nat.min_eq_left (Nat.min_le_left _ _)), ?_⟩
  rw [show (s.after (Dev.showLog { s.toDev with log.buckets := bs })).log.buckets = bs from hlog]
  exact ⟨(showLog_effect (Effect.refl _ ({ s with log.buckets := bs } : State).toDev) (List.Subset.refl _)).framed,
    noEvent_after (s := { s with log.buckets := bs }) rfl⟩

end

end Sys2Proof.Machine
end

section
/-! O49, second part: Ringlog's hand-off and erases, freezes and clears (R393 to R397). -/

namespace Sys2Proof.Machine

/-! What the NOR's operations move (R393 to R395). -/

/-- A device d that has the recorder of s, but for events raised, the marks of a filling area and its bits in LOG_STAT. -/
structure PinKept (s d : Dev) : Prop where
  log : ∃ r x y, d.log = { s.log with raised := r, ev90 := x, cr90 := y }
  regs : ∀ a, a ∉ [LOG_PIN_USE, LOG_STAT, HOST_EVT_PEND 3] → d.rd a = s.rd a
  stat : ∀ i, i ≠ 2 → i ≠ 3 → d.bit LOG_STAT i = s.bit LOG_STAT i
  thkt : d.thkt = s.thkt

section
variable {s d : Dev}

theorem PinKept.refl (s : Dev) : PinKept s s := ⟨⟨_, _, _, rfl⟩, fun _ _ => rfl, fun _ _ _ => rfl, rfl⟩

theorem PinKept.use (h : PinKept s d) (hi lo v : Nat) : PinKept s (d.setFld LOG_PIN_USE hi lo v) :=
  ⟨h.log, fun a ha => (rd_setFld_ne _ _ _ _ _ _ fun he => ha (by simp [he])).trans (h.regs a ha),
    fun i h2 h3 => (bit_setFld_other _ _ _ _ _ _ _ (by decide)).trans (h.stat i h2 h3), h.thkt⟩

theorem PinKept.ev (h : PinKept s d) (c p q : Nat) : PinKept s (d.ev c p q) := by
  obtain ⟨r, x, y, hlog⟩ := h.log
  exact ⟨⟨(d.ev c p q).log.raised, x, y, congrArg (fun l : LogSt => { l with raised := (d.ev c p q).log.raised }) hlog⟩, h.regs, h.stat, h.thkt⟩

theorem PinKept.said (h : PinKept s d) (x y : Bool) : PinKept s { d with log := { d.log with ev90 := x, cr90 := y } } := by
  obtain ⟨r, _, _, hlog⟩ := h.log
  exact ⟨⟨r, x, y, congrArg (fun l : LogSt => { l with ev90 := x, cr90 := y }) hlog⟩, h.regs, h.stat, h.thkt⟩

theorem PinKept.full (h : PinKept s d) {k : Nat} (hk : k = 2 ∨ k = 3) (p q : Nat) :
    PinKept s (((d.setBit LOG_STAT k true).ev 0x0E06 p q).raise 0x68) := by
  have hset : PinKept s (d.setBit LOG_STAT k true) := by
    refine ⟨h.log, fun a ha => (rd_setBit_ne _ _ _ _ _ fun he => ha (by simp [he])).trans (h.regs a ha), fun i h2 h3 => ?_, h.thkt⟩
    exact (bit_setBit_ne _ _ _ _ _ (by omega) (by omega)).trans (h.stat i h2 h3)
  obtain ⟨hlog, hregs, hstat, hthkt⟩ := hset.ev 0x0E06 p q
  exact ⟨hlog, fun a ha => (rd_raise_ne _ _ _ fun he => ha (by simp [he])).trans (hregs a ha),
    fun i h2 h3 => (bit_raise_other _ _ _ _ (by decide)).trans (hstat i h2 h3), hthkt⟩

theorem PinKept.ite (c : Prop) [Decidable c] {e : Dev} (hd : PinKept s d) (he : PinKept s e) : PinKept s (if c then d else e) := by
  split
  · exact hd
  · exact he

end

/-- The mark of the event area above 90 % (R394). -/
def Dev.evMark (s : Dev) (ev : Nat) : Dev := if 32768 * 9 < 10 * ev ∧ !s.log.ev90 then { s with log.ev90 := true }.ev 0x0E07 0 0 else s

/-- The mark of the custody area above 90 % (R394). -/
def Dev.crMark (s : Dev) (cr : Nat) : Dev := if 16384 * 9 < 10 * cr ∧ !s.log.cr90 then { s with log.cr90 := true }.ev 0x0E07 0 1 else s

/-- The bit of a full event area (R394). -/
def Dev.evFull (s : Dev) (ev : Nat) : Dev :=
  if 32768 ≤ ev ∧ !s.bit LOG_STAT 2 then ((s.setBit LOG_STAT 2 true).ev 0x0E06 0 0).raise 0x68 else s

/-- The bit of a full custody area (R394). -/
def Dev.crFull (s : Dev) (cr : Nat) : Dev :=
  if 16384 ≤ cr ∧ !s.bit LOG_STAT 3 then ((s.setBit LOG_STAT 3 true).ev 0x0E06 0 1).raise 0x68 else s

theorem pinUse_eq (d : Dev) : d.pinUse = (((((d.setFld LOG_PIN_USE 15 0 d.log.evAt).setFld LOG_PIN_USE 31 16 d.log.crAt).evMark
    d.log.evAt).crMark d.log.crAt).evFull d.log.evAt).crFull d.log.crAt := rfl

section
variable {s d : Dev} (h : PinKept s d)
include h

theorem evMark_kept (ev : Nat) : PinKept s (d.evMark ev) := by
  unfold Dev.evMark
  exact PinKept.ite _ ((h.said true d.log.cr90).ev 0x0E07 0 0) h

theorem crMark_kept (cr : Nat) : PinKept s (d.crMark cr) := by
  unfold Dev.crMark
  exact PinKept.ite _ ((h.said d.log.ev90 true).ev 0x0E07 0 1) h

theorem evFull_kept (ev : Nat) : PinKept s (d.evFull ev) := by
  unfold Dev.evFull
  exact PinKept.ite _ (h.full (.inl rfl) 0 0) h

theorem crFull_kept (cr : Nat) : PinKept s (d.crFull cr) := by
  unfold Dev.crFull
  exact PinKept.ite _ (h.full (.inr rfl) 0 1) h

end

theorem pinUse_kept (d : Dev) : PinKept d d.pinUse := by
  rw [pinUse_eq]
  exact crFull_kept (evFull_kept (crMark_kept (evMark_kept (((PinKept.refl d).use _ _ _).use _ _ _) _) _) _) _

theorem pinWrite_ok (d : Dev) (r : List Byte) : d.pinWrite r true =
    (Dev.pinUse { d with log := { d.log with pinEv := d.log.pinEv ++ [r], evAt := d.log.evAt + 1 } }, true) := by
  unfold Dev.pinWrite
  exact if_pos rfl

theorem custWrite_ok (d : Dev) (c : CustRec) : d.custWrite c true = (Dev.pinUse { d with
    log := { d.log with pinCr := d.log.pinCr ++ [c.whole ++ List.replicate 16 0xFF], crAt := d.log.crAt + 1 } }, true) := by
  unfold Dev.custWrite
  exact if_pos rfl

theorem ev_logEq (d : Dev) (c p q : Nat) : (d.ev c p q).log = { d.log with raised := (d.ev c p q).log.raised } := rfl

/-- A block that is retired, counted (R395). -/
def Dev.retiring (d : Dev) (b : Nat) : Dev := ({ d with log.bad := b :: d.log.bad } : Dev).cntSat LOG_WEAR 31 24 1

theorem retiring_spec (d : Dev) (b : Nat) : (d.retiring b).log = { d.log with bad := b :: d.log.bad } ∧
    (∀ a, a ≠ LOG_WEAR → (d.retiring b).rd a = d.rd a) ∧
    (d.retiring b).fld LOG_WEAR 31 24 = min 255 (d.fld LOG_WEAR 31 24 + 1) := by
  refine ⟨cntSat_log _ _ _ _ _, fun a ha => ?_, ?_⟩
  · rw [Dev.retiring, rd_cntSat_ne _ _ _ _ _ _ ha]
    rfl
  · have hold : ({ d with log.bad := b :: d.log.bad } : Dev).fld LOG_WEAR 31 24 = d.fld LOG_WEAR 31 24 := rfl
    rw [Dev.retiring, fld_cntSat_same _ _ _ _ _ (by decide) (by decide), hold]
    rfl

theorem retireBlock_eq (d : Dev) (b : Nat) : d.retireBlock b = (d.retiring b).ev 0x0E09 b ((d.retiring b).fld LOG_WEAR 31 24) := rfl

theorem retireBlock_spec (d : Dev) (b : Nat) : (∃ r, (d.retireBlock b).log = { d.log with bad := b :: d.log.bad, raised := r }) ∧
    (∀ a, a ≠ LOG_WEAR → (d.retireBlock b).rd a = d.rd a) ∧
    (d.retireBlock b).fld LOG_WEAR 31 24 = min 255 (d.fld LOG_WEAR 31 24 + 1) := by
  obtain ⟨hlog, hregs, hwear⟩ := retiring_spec d b
  rw [retireBlock_eq]
  generalize d.retiring b = e at *
  have hev := ev_logEq e 0x0E09 b (e.fld LOG_WEAR 31 24)
  rw [hlog] at hev
  exact ⟨⟨_, hev⟩, fun a ha => (ev_rd _ _ _ _ a).trans (hregs a ha), (ev_fld _ _ _ _ _ _ _).trans hwear⟩

theorem norErase_ok {d : Dev} {b : Nat} (hok : d.ringlogOk = true) (hnew : d.log.ahead = false) (hb : d.nextBlock d.log.cur = some b) :
    d.norErase true = Dev.countErase { d with log := { d.log with ahead := true, circ := d.log.circ.filter fun p => p.1 != b } } b := by
  unfold Dev.norErase
  rw [if_pos (by rw [hok, hnew]; rfl), hb]
  exact if_pos rfl

theorem pinWrite_fails (d : Dev) (r : List Byte) : ∃ e, d.pinWrite r false = (e, false) ∧ e.log.pin = d.log.pin ∧
    e.log.pinEv = d.log.pinEv ∧ e.log.bad = (3 + d.log.evAt / 2048) :: d.log.bad := by
  have hwrite : ∃ n, d.pinWrite r false = (Dev.pinUse { d.retireBlock (3 + d.log.evAt / 2048) with log.evAt := n }, false) := by
    unfold Dev.pinWrite
    exact ⟨_, if_neg (by decide)⟩
  obtain ⟨n, hn⟩ := hwrite
  obtain ⟨⟨_, hretired⟩, -, -⟩ := retireBlock_spec d (3 + d.log.evAt / 2048)
  generalize d.retireBlock (3 + d.log.evAt / 2048) = e at *
  obtain ⟨⟨_, _, _, hlog⟩, -, -, -⟩ := pinUse_kept { e with log.evAt := n }
  refine ⟨_, hn, ?_⟩
  rw [hlog, hretired]
  exact ⟨rfl, rfl, rfl⟩

theorem countErase_log (d : Dev) (b : Nat) : ∃ r w e, (d.countErase b).log = { d.log with raised := r, wearSaid := w, erases := e } := by
  unfold Dev.countErase
  dsimp only
  split
  · exact ⟨_, _, _, rfl⟩
  · exact ⟨_, _, _, rfl⟩

/-! Ringlog's hand-off (R394). -/

section
variable {s : State}

/-- The commands that Glade's code carries out wait while it hangs at a stopped domain (R492). -/
theorem byGlade_hung {d : Dev} (f : Dev → Dev) (h : d.glade.hung = true) : d.byGlade f = d := if_pos h

theorem byGlade_free {d : Dev} (f : Dev → Dev) (h : d.glade.hung = false) : d.byGlade f = f d := if_neg (by rw [h]; decide)

/-- What does nothing, hung or not, does nothing. -/
theorem byGlade_same {d : Dev} (f : Dev → Dev) (h : f d = d) : d.byGlade f = d := by
  unfold Dev.byGlade
  split
  · rfl
  · exact h

theorem recorder_waits (hhung : s.glade.hung = true) (ok : Bool) (v : Word) (c : Instr)
    (hc : c ∈ [.ringlogWrite ok, .norErase ok, .stateSave, .recorderClear v, .clearComplete]) : NoEffect c s := by
  simp only [List.mem_cons, List.not_mem_nil, or_false] at hc
  rcases hc with rfl | rfl | rfl | rfl | rfl <;> exact noEffect_of_done rfl (byGlade_hung _ hhung)

theorem ringlogWrite_off (ok : Bool) (h : s.ringlogOk = false ∨ s.bit LOG_STAT 4 = true) : NoEffect (.ringlogWrite ok) s := by
  refine noEffect_of_done rfl (byGlade_same _ (if_pos ?_))
  rcases h with h | h <;> rw [h] <;> simp

/-- A write that Ringlog's state lets take place. -/
theorem ringlogWrite_free {d e : Dev} {ok : Bool} (hok : d.ringlogOk = true) (hfree : d.bit LOG_STAT 4 = false)
    (h : ∀ x, d.ringlogWrite ok = (if (!d.ringlogOk || d.bit LOG_STAT 4) = true then d else x) → x = e) : d.ringlogWrite ok = e := by
  have hcond : ¬(!d.ringlogOk || d.bit LOG_STAT 4) = true := by rw [hok, hfree]; decide
  exact (if_neg hcond : d.ringlogWrite ok = _).trans (h _ rfl)

/-- What the hand-off of a record leaves of a device that has written it. -/
theorem handedOff_spec (d : Dev) (w : Nat) : (d.handedOff w).log = { d.log with dropSaid := false } ∧
    (d.handedOff w).fld (LOG_LEDGER 1) 31 0 = (d.fld (LOG_LEDGER 1) 31 0 + w) % 2 ^ 32 ∧ (d.handedOff w).thkt = d.thkt :=
  ⟨rfl, fld_cntWrap_same _ _ _ _ _ (by decide) (by decide), rfl⟩

theorem ledger_showLog (d : Dev) : (s.after d.showLog).fld (LOG_LEDGER 1) 31 0 = d.fld (LOG_LEDGER 1) 31 0 :=
  (settle_fld _ _ _ _ (by decide) (by decide)).trans (fld_of_rd _ _ _ _ _ (showLog_rd d (by decide)))

theorem log_showLog (d : Dev) : (s.after d.showLog).log = d.log := settle_log _

/-- The pinned queue's turn: a record written into the pinned event area (R393, R394). -/
theorem ringlogWrite_pin {r : DuffRec} {rs : List DuffRec} (hung : s.glade.hung = false) (hok : s.ringlogOk = true)
    (hfree : s.bit LOG_STAT 4 = false) (hpin : s.log.pin = r :: rs) (hroom : s.log.evAt < 32768) :
    Answers (.ringlogWrite true) s fun t => t.log.pin = rs ∧ t.log.pinEv = s.log.pinEv ++ [r.bytes] ∧
      t.fld (LOG_LEDGER 1) 31 0 = (s.fld (LOG_LEDGER 1) 31 0 + r.weight) % 2 ^ 32 := by
  have hdone : s.toDev.byGlade (fun d => d.ringlogWrite true) = (Dev.handedOff { (Dev.pinUse { s.toDev with
      log := { s.log with pinEv := s.log.pinEv ++ [r.bytes], evAt := s.log.evAt + 1 } }) with log.pin := rs } r.weight).showLog := by
    rw [byGlade_free _ hung]
    refine (if_neg (by rw [hok, hfree]; decide)).trans (congrArg Dev.showLog ?_)
    rw [hpin]
    dsimp only
    rw [if_pos hroom, pinWrite_ok]
    exact if_pos rfl
  obtain ⟨⟨_, _, _, hlog⟩, hregs, -, -⟩ := pinUse_kept { s.toDev with
    log := { s.log with pinEv := s.log.pinEv ++ [r.bytes], evAt := s.log.evAt + 1 } }
  generalize Dev.pinUse { s.toDev with log := { s.log with pinEv := s.log.pinEv ++ [r.bytes], evAt := s.log.evAt + 1 } } = d at *
  obtain ⟨hlog', hcount, -⟩ := handedOff_spec { d with log.pin := rs } r.weight
  refine answers_of_done (congrArg (done s) hdone) ⟨?_, ?_, ?_⟩
  · exact (congrArg LogSt.pin ((log_showLog _).trans hlog') :)
  · exact (congrArg LogSt.pinEv ((log_showLog _).trans hlog')).trans (congrArg LogSt.pinEv hlog :)
  · exact (ledger_showLog _).trans (hcount.trans (congrArg (fun n => (n + r.weight) % 2 ^ 32)
      (fld_of_rd d s.toDev (LOG_LEDGER 1) 31 0 (hregs _ (by decide)))))

/-- A program that fails retires the block of the pinned area, and the record stays (R395). -/
theorem ringlogWrite_pin_fails {r : DuffRec} {rs : List DuffRec} (hung : s.glade.hung = false) (hok : s.ringlogOk = true)
    (hfree : s.bit LOG_STAT 4 = false) (hpin : s.log.pin = r :: rs) (hroom : s.log.evAt < 32768) :
    Answers (.ringlogWrite false) s fun t => t.log.pin = r :: rs ∧ t.log.pinEv = s.log.pinEv ∧
      t.log.bad = (3 + s.log.evAt / 2048) :: s.log.bad := by
  obtain ⟨d, hwrite, hkept, hev, hbad⟩ := pinWrite_fails s.toDev r.bytes
  have hdone : s.toDev.byGlade (fun d => d.ringlogWrite false) = d.showLog := by
    rw [byGlade_free _ hung]
    refine (if_neg (by rw [hok, hfree]; decide)).trans (congrArg Dev.showLog ?_)
    rw [hpin]
    dsimp only
    rw [if_pos hroom, hwrite]
    exact if_neg Bool.false_ne_true
  exact answers_of_done (congrArg (done s) hdone) ⟨(congrArg LogSt.pin (log_showLog d)).trans (hkept.trans hpin),
    (congrArg LogSt.pinEv (log_showLog d)).trans hev, (congrArg LogSt.bad (log_showLog d)).trans hbad⟩

/-- The Duff ring's turn: its oldest record that awaits hand-off goes to the circular region (R393, R394). -/
theorem ringlogWrite_circ {r : DuffRec} (hung : s.glade.hung = false) (hok : s.ringlogOk = true)
    (hfree : s.bit LOG_STAT 4 = false) (hpin : s.log.pin = []) (hqueue : s.thkt.queue = []) (hthaw : s.bit LOG_STAT 1 = false)
    (hwait : s.log.waiting ≠ 0) (hr : s.log.duff[s.log.duff.length - s.log.waiting]? = some r) (hroom : s.circFill s.log.cur < 2048)
    (hgood : s.log.cur ∉ s.log.bad) : Answers (.ringlogWrite true) s fun t => t.log.waiting = s.log.waiting - 1 ∧
      t.log.circ = circAdd s.log.circ s.log.cur r.bytes ∧
      t.fld (LOG_LEDGER 1) 31 0 = (s.fld (LOG_LEDGER 1) 31 0 + r.weight) % 2 ^ 32 := by
  have hblock : s.toDev.circBlock = some s.toDev := if_pos ⟨hroom, by simp [hgood]⟩
  have hdone : s.toDev.byGlade (fun d => d.ringlogWrite true) = (Dev.handedOff { (Dev.showCirc { s.toDev with
      log.circ := circAdd s.log.circ s.log.cur r.bytes }) with log.waiting := s.log.waiting - 1 } r.weight).showLog := by
    rw [byGlade_free _ hung]
    refine (if_neg (by rw [hok, hfree]; decide)).trans (congrArg Dev.showLog ?_)
    rw [hpin, hqueue]
    dsimp only
    rw [if_neg (by rw [hthaw]; simp [hwait]), hr]
    dsimp only
    unfold Dev.circWrite
    rw [hblock]
    rfl
  have hlog : (Dev.showCirc { s.toDev with log.circ := circAdd s.log.circ s.log.cur r.bytes }).log =
      { s.log with circ := circAdd s.log.circ s.log.cur r.bytes } := rfl
  have hledger : (Dev.showCirc { s.toDev with log.circ := circAdd s.log.circ s.log.cur r.bytes }).rd (LOG_LEDGER 1) = s.rd (LOG_LEDGER 1) :=
    rd_wrN_ne _ _ _ _ (by decide)
  generalize Dev.showCirc { s.toDev with log.circ := circAdd s.log.circ s.log.cur r.bytes } = d at *
  obtain ⟨hlog', hcount, -⟩ := handedOff_spec { d with log.waiting := s.log.waiting - 1 } r.weight
  refine answers_of_done (congrArg (done s) hdone) ⟨?_, ?_, ?_⟩
  · exact (congrArg LogSt.waiting ((log_showLog _).trans hlog') :)
  · exact (congrArg LogSt.circ ((log_showLog _).trans hlog')).trans (congrArg LogSt.circ hlog :)
  · exact (ledger_showLog _).trans (hcount.trans (congrArg (fun n => (n + r.weight) % 2 ^ 32)
      (fld_of_rd d s.toDev (LOG_LEDGER 1) 31 0 hledger)))

/-- The signing queue's turn: its oldest record goes to the pinned custody area (R393, R394). -/
theorem ringlogWrite_custody {c : CustRec} {cs : List CustRec} (hung : s.glade.hung = false) (hok : s.ringlogOk = true)
    (hfree : s.bit LOG_STAT 4 = false) (hpin : s.log.pin = []) (hqueue : s.thkt.queue = c :: cs) (hsig : c.sig ≠ []) (hnor : c.nor = false)
    (hroom : s.log.crAt < 16384) : Answers (.ringlogWrite true) s fun t => t.thkt.queue = { c with nor := true } :: cs ∧
      t.log.pinCr = s.log.pinCr ++ [c.whole ++ List.replicate 16 0xFF] := by
  have hdone : s.toDev.byGlade (fun d => d.ringlogWrite true) = Dev.showLog { (Dev.pinUse { s.toDev with
      log := { s.log with pinCr := s.log.pinCr ++ [c.whole ++ List.replicate 16 0xFF], crAt := s.log.crAt + 1 } }) with
      thkt.queue := { c with nor := true } :: cs, log.dropSaid := false } := by
    rw [byGlade_free _ hung]
    refine (if_neg (by rw [hok, hfree]; decide)).trans (congrArg Dev.showLog ?_)
    rw [hpin, hqueue]
    dsimp only
    rw [if_pos ⟨hsig, by rw [hnor]; rfl, hroom⟩, custWrite_ok]
    exact if_pos rfl
  obtain ⟨⟨_, _, _, hlog⟩, -, -, -⟩ := pinUse_kept { s.toDev with
    log := { s.log with pinCr := s.log.pinCr ++ [c.whole ++ List.replicate 16 0xFF], crAt := s.log.crAt + 1 } }
  generalize Dev.pinUse { s.toDev with
    log := { s.log with pinCr := s.log.pinCr ++ [c.whole ++ List.replicate 16 0xFF], crAt := s.log.crAt + 1 } } = d at *
  refine answers_of_done (congrArg (done s) hdone) ⟨(congrArg ThktSt.queue (settle_thkt _) :), ?_⟩
  exact (congrArg LogSt.pinCr (settle_log _)).trans (congrArg LogSt.pinCr hlog :)

/-! Erases and the saved state (R387, R395). -/

theorem norErase_ends {b : Nat} (hung : s.glade.hung = false) (hok : s.ringlogOk = true) (hnew : s.log.ahead = false)
    (hb : s.nextBlock s.log.cur = some b) :
    Answers (.norErase true) s fun t => t.log.ahead = true ∧ t.log.circ = s.log.circ.filter (fun p => p.1 != b) := by
  have hdone : s.toDev.byGlade (fun d => d.norErase true) = Dev.countErase { s.toDev with
      log := { s.log with ahead := true, circ := s.log.circ.filter fun p => p.1 != b } } b :=
    (byGlade_free _ hung).trans (norErase_ok hok hnew hb)
  obtain ⟨_, _, _, hlog⟩ := countErase_log { s.toDev with log := { s.log with ahead := true, circ := s.log.circ.filter fun p => p.1 != b } } b
  generalize Dev.countErase { s.toDev with log := { s.log with ahead := true, circ := s.log.circ.filter fun p => p.1 != b } } b = e at *
  refine answers_of_done (congrArg (done s) hdone) ⟨?_, ?_⟩
  · exact (congrArg LogSt.ahead ((settle_log _).trans hlog) :)
  · exact (congrArg LogSt.circ ((settle_log _).trans hlog) :)

theorem norErase_fails {b : Nat} (hung : s.glade.hung = false) (hok : s.ringlogOk = true) (hnew : s.log.ahead = false)
    (hb : s.nextBlock s.log.cur = some b) : Answers (.norErase false) s fun t => t.log.bad = b :: s.log.bad ∧ t.log.ahead = false ∧
      t.fld LOG_WEAR 31 24 = min 255 (s.fld LOG_WEAR 31 24 + 1) := by
  have hdone : s.toDev.byGlade (fun d => d.norErase false) = s.toDev.retireBlock b := by
    rw [byGlade_free _ hung]
    refine (if_pos (by rw [hok, hnew]; rfl)).trans ?_
    rw [hb]
    rfl
  obtain ⟨⟨_, hlog⟩, -, hwear⟩ := retireBlock_spec s.toDev b
  refine answers_of_done (congrArg (done s) hdone) ⟨?_, ?_, (settle_fld _ _ _ _ (by decide) (by decide)).trans hwear⟩
  · exact (congrArg LogSt.bad ((settle_log _).trans hlog) :)
  · exact (congrArg LogSt.ahead ((settle_log _).trans hlog)).trans hnew

theorem norErase_none (ok : Bool) (h : s.ringlogOk = false ∨ s.log.ahead = true) : NoEffect (.norErase ok) s := by
  refine noEffect_of_done rfl (byGlade_same _ (if_neg ?_))
  rcases h with h | h <;> rw [h] <;> simp

theorem stateSave_saves (hung : s.glade.hung = false) (hok : s.ringlogOk = true) : Answers .stateSave s fun t =>
      Quiet [] { s with log.saved := (s.fld LOG_PWR_CYC 23 0, (s.rd LOG_OP_S).toNat) } t := by
  have hdone : s.toDev.byGlade Dev.stateSave = { s.toDev with log.saved := (s.fld LOG_PWR_CYC 23 0, (s.rd LOG_OP_S).toNat) } := by
    rw [byGlade_free _ hung]
    exact if_pos hok
  generalize (s.fld LOG_PWR_CYC 23 0, (s.rd LOG_OP_S).toNat) = x at *
  exact answers_of_done (congrArg (done s) hdone) ⟨(Effect.refl [] ({ s with log.saved := x } : State).toDev).framed,
    noEvent_after (s := { s with log.saved := x }) rfl⟩

theorem stateSave_none (hok : s.ringlogOk = false) : NoEffect .stateSave s :=
  noEffect_of_done rfl (byGlade_same _ (if_neg (by rw [hok]; decide)))

/-! Freezes (R396). -/

theorem freezeBegin_freezes (hsess : s.sessOk 4 = true) (hthaw : s.bit LOG_STAT 1 = false) : Answers .freezeBegin s fun t =>
      t.bit LOG_STAT 1 = true ∧ t.bit LOG_FREEZE 0 = true ∧ t.log.frozenDrops = 0 ∧ t.log.freezeAt = s.seq.cyc ∧
      OneEvent s t 0x0E01 0#32 0#32 ∧ RegsBut [LOG_STAT, LOG_FREEZE] s t := by
  have hdone : s.toDev.freezeBegin = (Dev.sessUse { (s.toDev.setBit LOG_STAT 1 true).setBit LOG_FREEZE 0 true with
      log := { s.log with frozenDrops := 0, freezeAt := s.seq.cyc } }).ev 0x0E01 0 0 := if_pos (by rw [hsess, hthaw]; rfl)
  refine answers_of_done (congrArg (done s) hdone) ⟨?_, ?_, ?_, ?_, ?_, fun a ha hout hstat => ?_⟩
  · exact (settle_bit _ _ _ (by decide) (by decide)).trans ((bit_setBit_other _ _ _ _ _ _ (by decide)).trans
      (bit_setBit_same _ _ _ _ (by decide)))
  · exact (settle_bit _ _ _ (by decide) (by decide)).trans (bit_setBit_same _ _ _ _ (by decide))
  · exact (congrArg LogSt.frozenDrops (settle_log _) :)
  · exact (congrArg LogSt.freezeAt (settle_log _) :)
  · exact oneEvent_ev (d := Dev.sessUse { (s.toDev.setBit LOG_STAT 1 true).setBit LOG_FREEZE 0 true with
      log := { s.log with frozenDrops := 0, freezeAt := s.seq.cyc } }) rfl rfl
  · simp only [List.mem_cons, List.not_mem_nil, or_false, not_or] at ha
    exact (settle_rd _ _ hout hstat).trans ((rd_setBit_ne _ _ _ _ _ ha.2).trans (rd_setBit_ne _ _ _ _ _ ha.1))

theorem freezeBegin_none (h : s.sessOk 4 = false ∨ s.bit LOG_STAT 1 = true) : NoEffect .freezeBegin s := by
  refine noEffect_of_done rfl (if_neg ?_)
  rcases h with h | h <;> rw [h] <;> simp

/-- A freeze that ends, by command or by time, from a device d that has the registers and recorder of s (R396). -/
theorem freezeStop_after {d b : Dev} (why : Nat) (hfrozen : s.bit LOG_STAT 1 = true) (hd : Effect [LOG_STAT, LOG_FREEZE] s.toDev d b)
    (hrd : d.bit LOG_STAT 1 = s.bit LOG_STAT 1) (hlog : d.log = s.log) :
    (s.after (d.freezeStop why)).bit LOG_STAT 1 = false ∧ (s.after (d.freezeStop why)).bit LOG_FREEZE 0 = false ∧
      OneEvent s (s.after (d.freezeStop why)) 0x0E02 (BitVec.ofNat 32 why) (BitVec.ofNat 32 s.log.frozenDrops) ∧
      Framed [LOG_STAT, LOG_FREEZE] s (s.after (d.freezeStop why)) b := by
  have hdone : d.freezeStop why = ((d.setBit LOG_STAT 1 false).setBit LOG_FREEZE 0 false).ev 0x0E02 why d.log.frozenDrops :=
    if_pos (hrd.trans hfrozen)
  rw [hdone, hlog]
  refine ⟨?_, ?_, ?_, (((hd.setBit (a := LOG_STAT) (by decide) 1 false).setBit (a := LOG_FREEZE) (by decide) 0 false).ev _ _ _).framed⟩
  · exact (settle_bit _ _ _ (by decide) (by decide)).trans ((bit_setBit_other _ _ _ _ _ _ (by decide)).trans
      (bit_setBit_same _ _ _ _ (by decide)))
  · exact (settle_bit _ _ _ (by decide) (by decide)).trans (bit_setBit_same _ _ _ _ (by decide))
  · exact oneEvent_ev rfl (congrArg LogSt.raised hlog)

theorem freezeStop_none {d : Dev} (why : Nat) (hthaw : d.bit LOG_STAT 1 = false) : d.freezeStop why = d := if_neg (by rw [hthaw]; decide)

theorem sessUse_effect (l : List Nat) (d : Dev) : Effect l d d.sessUse (blocks d.sessUse) :=
  (Effect.refl l d).glade { d.glade with idleAt := d.seq.cyc }

theorem freezeEnd_thaws (hfrozen : s.bit LOG_STAT 1 = true) (hsess : s.sessOk 4 = true) : Answers .freezeEnd s fun t =>
      t.bit LOG_STAT 1 = false ∧ t.bit LOG_FREEZE 0 = false ∧ OneEvent s t 0x0E02 0#32 (BitVec.ofNat 32 s.log.frozenDrops) ∧
      Framed [LOG_STAT, LOG_FREEZE] s t (blocks s.toDev.sessUse) :=
  answers_of_done (congrArg (done s) (if_pos hsess : s.toDev.freezeEnd = s.toDev.sessUse.freezeStop 0))
    (freezeStop_after 0 hfrozen (sessUse_effect _ _) rfl rfl)

theorem freezeExpiry_thaws (hfrozen : s.bit LOG_STAT 1 = true) (hover : freezeOver s = true) : Answers .freezeExpiry s fun t =>
      t.bit LOG_STAT 1 = false ∧ t.bit LOG_FREEZE 0 = false ∧ OneEvent s t 0x0E02 1#32 (BitVec.ofNat 32 s.log.frozenDrops) ∧
      OnlyRegs [LOG_STAT, LOG_FREEZE] s t :=
  answers_of_done (congrArg (done s) (if_pos hover : s.toDev.freezeExpire = s.toDev.freezeStop 1))
    (freezeStop_after 1 hfrozen (Effect.refl _ _) rfl rfl)

theorem freezeExpiry_none (h : s.bit LOG_STAT 1 = false ∨ freezeOver s = false) : NoEffect .freezeExpiry s := by
  refine noEffect_of_done rfl ?_
  unfold Dev.freezeExpire
  split
  · next hover =>
    refine freezeStop_none 1 (h.resolve_right fun hno => ?_)
    exact absurd (hover.symm.trans hno) (by decide)
  · rfl

theorem freezeEnd_thawed (hthaw : s.bit LOG_STAT 1 = false) (hsess : s.sessOk 4 = true) : Answers .freezeEnd s fun t =>
      Framed [] s t (blocks s.toDev.sessUse) ∧ NoEvent s t :=
  answers_of_done (congrArg (done s) ((if_pos hsess : s.toDev.freezeEnd = _).trans (freezeStop_none 0 hthaw)))
    ⟨(sessUse_effect [] s.toDev).framed, noEvent_after rfl⟩

theorem freezeEnd_none (hsess : s.sessOk 4 = false) : NoEffect .freezeEnd s := noEffect_of_done rfl (if_neg (by rw [hsess]; decide))

/-! Clears (R397). -/

theorem clear_none (v : Word) (h : v.getLsbD 31 = false ∨ bitsOf v.toNat 1 0 = 0) : NoEffect (.recorderClear v) s := by
  refine noEffect_of_done rfl (byGlade_same _ (if_pos ?_))
  rcases h with h | h
  · left
    rw [bitOf_toNat, h]
    rfl
  · exact .inr h

/-- The code of a clear that its session lets in (R397). -/
def Dev.clearCode (s : Dev) : Nat := if s.bit LOG_STAT 1 then 2 else if s.bit LOG_STAT 4 then 3 else if s.ringlogOk then 0 else 4

/-- A clear that begins (R397). -/
def Dev.clearBegun (s : Dev) (region : Nat) : Dev :=
  { (s.sessUse.setBit LOG_STAT 4 true).wrN LOG_CLR_STAT 16 with log.clear := some (region, s.fld GLB_SESS_STAT 5 3) }

theorem bit_withLog (d : Dev) (l : LogSt) (a i : Nat) : ({ d with log := l } : Dev).bit a i = d.bit a i := rfl

theorem rd_withLog (d : Dev) (l : LogSt) (a : Nat) : ({ d with log := l } : Dev).rd a = d.rd a := rfl

theorem clearBegun_spec (d : Dev) (region : Nat) : (d.clearBegun region).bit LOG_STAT 4 = true ∧
    (d.clearBegun region).rd LOG_CLR_STAT = 16#32 ∧ (d.clearBegun region).log = { d.log with clear := some (region, d.fld GLB_SESS_STAT 5 3) } := by
  refine ⟨?_, ?_, rfl⟩
  · rw [Dev.clearBegun, bit_withLog, bit_wrN_other _ _ _ _ _ (by decide), bit_setBit_same _ _ _ _ (by decide)]
  · rw [Dev.clearBegun, rd_withLog]
    exact rd_wr_same _ _ _

theorem clearCommand_open {d : Dev} {v : Word} (hgo : v.getLsbD 31 = true) (hregion : bitsOf v.toNat 1 0 ≠ 0) (hsess : d.sessLevel 4 = true) :
    d.clearCommand v = if d.clearCode = 0 then d.clearBegun (bitsOf v.toNat 1 0)
      else (d.sessUse.setFld LOG_CLR_STAT 3 0 d.clearCode).ev 0x0E04 0 d.clearCode := by
  unfold Dev.clearCommand
  dsimp only
  rw [if_neg (by rw [bitOf_toNat, hgo]; simp [hregion]), hsess]
  unfold Dev.clearCode
  cases d.bit LOG_STAT 1 <;> cases d.bit LOG_STAT 4 <;> cases d.ringlogOk <;> rfl

theorem clear_starts {v : Word} (hung : s.glade.hung = false) (hgo : v.getLsbD 31 = true) (hregion : bitsOf v.toNat 1 0 ≠ 0)
    (hsess : s.sessLevel 4 = true) (hthaw : s.bit LOG_STAT 1 = false) (hidle : s.bit LOG_STAT 4 = false) (hok : s.ringlogOk = true) :
    Answers (.recorderClear v) s fun t => t.bit LOG_STAT 4 = true ∧ t.rd LOG_CLR_STAT = 16#32 ∧ NoEvent s t ∧
      t.log.clear = some (bitsOf v.toNat 1 0, s.fld GLB_SESS_STAT 5 3) := by
  have hcode : s.toDev.clearCode = 0 := by
    unfold Dev.clearCode
    rw [hthaw, hidle, hok]
    rfl
  have hdone : s.toDev.byGlade (fun d => d.clearCommand v) = s.toDev.clearBegun (bitsOf v.toNat 1 0) :=
    (byGlade_free _ hung).trans ((clearCommand_open hgo hregion hsess).trans (if_pos hcode))
  obtain ⟨hbit, hrd, hlog⟩ := clearBegun_spec s.toDev (bitsOf v.toNat 1 0)
  generalize s.toDev.clearBegun (bitsOf v.toNat 1 0) = d at *
  exact answers_of_done (congrArg (done s) hdone) ⟨(settle_bit _ _ _ (by decide) (by decide)).trans hbit,
    (settle_rd _ _ (by decide) (by decide)).trans hrd, noEvent_after (congrArg LogSt.raised hlog :),
    (congrArg LogSt.clear ((settle_log _).trans hlog) :)⟩

/-- A clear that is refused: its code and its event (R397). -/
theorem clear_refused_after {d b : Dev} {code : Nat} (hd : Effect [LOG_CLR_STAT] s.toDev d b) (hlog : d.log = s.log) (hcode : code < 16) :
    (s.after ((d.setFld LOG_CLR_STAT 3 0 code).ev 0x0E04 0 code)).fld LOG_CLR_STAT 3 0 = code ∧
    OneEvent s (s.after ((d.setFld LOG_CLR_STAT 3 0 code).ev 0x0E04 0 code)) 0x0E04 0#32 (BitVec.ofNat 32 code) ∧
    Framed [LOG_CLR_STAT] s (s.after ((d.setFld LOG_CLR_STAT 3 0 code).ev 0x0E04 0 code)) b := by
  refine ⟨?_, oneEvent_ev rfl (congrArg LogSt.raised hlog), ((hd.setFld (List.mem_singleton_self _) 3 0 code).ev _ _ _).framed⟩
  exact (settle_fld _ _ _ _ (by decide) (by decide)).trans ((fld_setFld_same _ _ _ _ _ (by decide) (by decide)).trans (Nat.mod_eq_of_lt hcode))

theorem clear_refused {v : Word} {code : Nat} (hung : s.glade.hung = false) (hgo : v.getLsbD 31 = true) (hregion : bitsOf v.toNat 1 0 ≠ 0)
    (hsess : s.sessLevel 4 = true) (hcode : code = s.toDev.clearCode) (hne : code ≠ 0) : Answers (.recorderClear v) s fun t =>
        t.fld LOG_CLR_STAT 3 0 = code ∧ OneEvent s t 0x0E04 0#32 (BitVec.ofNat 32 code) ∧
        Framed [LOG_CLR_STAT] s t (blocks s.toDev.sessUse) := by
  have hdone := (byGlade_free (fun d => d.clearCommand v) hung).trans (clearCommand_open hgo hregion hsess)
  have hlt : code < 16 := by
    rw [hcode, Dev.clearCode]
    split_ifs <;> decide
  rw [← hcode, if_neg hne] at hdone
  exact answers_of_done (congrArg (done s) hdone) (clear_refused_after (sessUse_effect _ _) rfl hlt)

theorem clear_closed {v : Word} (hung : s.glade.hung = false) (hgo : v.getLsbD 31 = true) (hregion : bitsOf v.toNat 1 0 ≠ 0)
    (hsess : s.sessLevel 4 = false) : Answers (.recorderClear v) s fun t => t.fld LOG_CLR_STAT 3 0 = 1 ∧
        OneEvent s t 0x0E04 0#32 1#32 ∧ OnlyRegs [LOG_CLR_STAT] s t := by
  have hdone : s.toDev.byGlade (fun d => d.clearCommand v) = (s.toDev.setFld LOG_CLR_STAT 3 0 1).ev 0x0E04 0 1 := by
    rw [byGlade_free _ hung]
    unfold Dev.clearCommand
    dsimp only
    rw [if_neg (by rw [bitOf_toNat, hgo]; simp [hregion]), hsess]
    rfl
  exact answers_of_done (congrArg (done s) hdone) (clear_refused_after (Effect.refl _ _) rfl (by decide))

theorem clearComplete_none (h : s.log.clear = none) : NoEffect .clearComplete s := by
  refine noEffect_of_done rfl (byGlade_same _ ?_)
  unfold Dev.clearComplete
  rw [h]

/-- The circular region's blocks erased, where the clear names it. -/
def Dev.circErased (s : Dev) (region : Nat) : Dev :=
  let s := ({ s with log.clear := none } : Dev)
  if region == 1 || region == 3 then
    (s.each ((List.range 445).map (· + 67)) fun d b => if d.log.bad.contains b then d else d.countErase b)
  else s

/-- The circular region emptied, where the clear names it. -/
def Dev.circWiped (s : Dev) (region : Nat) : Dev :=
  if region == 1 || region == 3 then { s.circErased region with log.circ := [], log.ahead := true } else s.circErased region

/-- The pinned areas erased, where the clear names them. -/
def Dev.pinsWiped (s : Dev) (region : Nat) : Dev :=
  if decide (2 ≤ region) then
    { (s.setBit LOG_STAT 2 false).setBit LOG_STAT 3 false with
      log.pinEv := [], log.pinCr := [], log.evAt := 0, log.crAt := 0, log.ev90 := false, log.cr90 := false }
  else s

/-- The record of a clear, written first (R397). -/
def Dev.clearNoted (s : Dev) (r : List Byte) : Dev :=
  if s.log.evAt < 32768 then (s.pinWrite r true).1 else (s.circWrite (spillBytes r) true).1

/-- The clear's bits cleared. -/
def Dev.clearEnded (s : Dev) : Dev := (((s.setBit LOG_STAT 4 false).wrN LOG_CLR_STAT 0).pinUse).showCirc

theorem clearComplete_eq {d : Dev} {region slot : Nat} (h : d.log.clear = some (region, slot)) : ∃ e : EvRec, e.code = 0x0E03 ∧
    d.clearComplete = ((((d.circWiped region).pinsWiped region).spend.clearNoted
      (((d.circWiped region).pinsWiped region).logBytes e false false))).clearEnded := by
  unfold Dev.clearComplete
  rw [h]
  exact ⟨_, rfl, rfl⟩

theorem eraseAll_clear (d : Dev) (xs : List Nat) :
    (d.each xs fun d b => if d.log.bad.contains b then d else d.countErase b).log.clear = d.log.clear := by
  refine each_keeps (fun d : Dev => d.log.clear) _ (fun d b => ?_) _ _
  split
  · rfl
  · obtain ⟨_, _, _, hlog⟩ := countErase_log d b
    exact (congrArg LogSt.clear hlog :)

theorem circErased_clear (d : Dev) (region : Nat) : (d.circErased region).log.clear = none := by
  unfold Dev.circErased
  dsimp only
  split
  · rw [eraseAll_clear]
  · rfl

theorem circWiped_spec (d : Dev) (region : Nat) : (d.circWiped region).log.clear = none ∧
    (region = 3 → (d.circWiped region).log.circ = []) := by
  have hclear := circErased_clear d region
  unfold Dev.circWiped
  generalize d.circErased region = e at *
  split
  · exact ⟨hclear, fun _ => rfl⟩
  · next hno =>
    refine ⟨hclear, fun h3 => absurd ?_ hno⟩
    rw [h3]
    rfl

theorem pinsWiped_spec (d : Dev) (region : Nat) : (d.pinsWiped region).log.clear = d.log.clear ∧ (d.pinsWiped region).log.circ = d.log.circ ∧
    (2 ≤ region → (d.pinsWiped region).log.pinEv = [] ∧ (d.pinsWiped region).log.pinCr = [] ∧ (d.pinsWiped region).log.evAt = 0) := by
  unfold Dev.pinsWiped
  split
  · exact ⟨rfl, rfl, fun _ => ⟨rfl, rfl, rfl⟩⟩
  · next hlow => exact ⟨rfl, rfl, fun h => absurd (decide_eq_true h) hlow⟩

theorem circWrite_clear (d : Dev) (r : List Byte) : (d.circWrite r true).1.log.clear = d.log.clear := by
  unfold Dev.circWrite
  split
  · rfl
  · next e he =>
    show e.log.clear = d.log.clear
    unfold Dev.circBlock at he
    split at he
    · rw [← Option.some.inj he]
    · split at he
      · obtain ⟨b, -, rfl⟩ := Option.map_eq_some_iff.mp he
        rfl
      · exact absurd he (by simp)

theorem clearNoted_clear (d : Dev) (r : List Byte) : (d.clearNoted r).log.clear = d.log.clear := by
  unfold Dev.clearNoted
  split
  · obtain ⟨⟨_, _, _, hlog⟩, -, -, -⟩ := pinUse_kept { d with log := { d.log with pinEv := d.log.pinEv ++ [r], evAt := d.log.evAt + 1 } }
    exact (congrArg LogSt.clear hlog :)
  · exact circWrite_clear d _

theorem clearNoted_first {d : Dev} (r : List Byte) (hev : d.log.pinEv = []) (hcr : d.log.pinCr = []) (hat : d.log.evAt = 0) :
    (d.clearNoted r).log.pinEv = [r] ∧ (d.clearNoted r).log.pinCr = [] ∧ (d.clearNoted r).log.evAt = 1 ∧
      (d.clearNoted r).log.circ = d.log.circ := by
  have hdone : d.clearNoted r = Dev.pinUse { d with log := { d.log with pinEv := d.log.pinEv ++ [r], evAt := d.log.evAt + 1 } } :=
    if_pos (by rw [hat]; decide)
  obtain ⟨⟨_, _, _, hlog⟩, -, -, -⟩ := pinUse_kept { d with log := { d.log with pinEv := d.log.pinEv ++ [r], evAt := d.log.evAt + 1 } }
  rw [hdone]
  refine ⟨(congrArg LogSt.pinEv hlog).trans ?_, (congrArg LogSt.pinCr hlog).trans hcr, (congrArg LogSt.evAt hlog).trans ?_,
    (congrArg LogSt.circ hlog :)⟩
  · show d.log.pinEv ++ [r] = [r]
    rw [hev]
    rfl
  · show d.log.evAt + 1 = 1
    rw [hat]

theorem clearEnded_spec (d : Dev) : (∃ r x y, d.clearEnded.log = { d.log with raised := r, ev90 := x, cr90 := y }) ∧
    d.clearEnded.bit LOG_STAT 4 = false ∧ d.clearEnded.rd LOG_CLR_STAT = 0#32 := by
  obtain ⟨hlog, hregs, hstat, -⟩ := pinUse_kept ((d.setBit LOG_STAT 4 false).wrN LOG_CLR_STAT 0)
  refine ⟨hlog, ?_, ?_⟩
  · refine (bit_wrN_other _ _ _ _ _ (by decide)).trans ((hstat 4 (by decide) (by decide)).trans ?_)
    exact (bit_wrN_other _ _ _ _ _ (by decide)).trans (bit_setBit_same _ _ _ _ (by decide))
  · exact (rd_wrN_ne _ _ _ _ (by decide)).trans ((hregs _ (by decide)).trans (rd_wr_same _ _ _))

theorem logBytes_code (d : Dev) (e : EvRec) (merged spill : Bool) : (d.logBytes e merged spill).take 2 = leBytes 2 e.code := by
  unfold Dev.logBytes
  simp only [List.append_assoc]
  exact List.take_left' (leBytes_length _ _)

theorem clearComplete_clears {region slot : Nat} (hung : s.glade.hung = false) (h : s.log.clear = some (region, slot)) :
    Answers .clearComplete s fun t => t.log.clear = none ∧ t.bit LOG_STAT 4 = false ∧ t.rd LOG_CLR_STAT = 0#32 ∧
      (2 ≤ region → t.log.pinCr = [] ∧ t.log.evAt = 1 ∧ ∃ r, t.log.pinEv = [r] ∧ r.take 2 = leBytes 2 0x0E03) ∧
      (region = 3 → t.log.circ = []) := by
  obtain ⟨e, hcode, hdone⟩ := clearComplete_eq h
  have hcode2 := logBytes_code ((s.toDev.circWiped region).pinsWiped region) e false false
  generalize ((s.toDev.circWiped region).pinsWiped region).logBytes e false false = r at *
  obtain ⟨hclear, hcirc⟩ := circWiped_spec s.toDev region
  generalize s.toDev.circWiped region = d at *
  obtain ⟨hclear2, hcirc2, hpins⟩ := pinsWiped_spec d region
  have hspend : (d.pinsWiped region).spend.log = (d.pinsWiped region).log := rfl
  rw [← hspend] at hclear2 hcirc2 hpins
  generalize (d.pinsWiped region).spend = x at *
  have hclear3 := clearNoted_clear x r
  have hfirst := clearNoted_first (d := x) r
  generalize x.clearNoted r = y at *
  obtain ⟨⟨_, _, _, hlog⟩, hstat, hclr⟩ := clearEnded_spec y
  generalize y.clearEnded = z at *
  have hshown : (s.after z).log = _ := (settle_log z).trans hlog
  refine answers_of_done (congrArg (done s) ((byGlade_free _ hung).trans hdone)) ⟨?_, ?_, ?_, fun hpin => ?_, fun h3 => ?_⟩
  · exact (congrArg LogSt.clear hshown).trans (hclear3.trans (hclear2.trans hclear))
  · exact (settle_bit _ _ _ (by decide) (by decide)).trans hstat
  · exact (settle_rd _ _ (by decide) (by decide)).trans hclr
  · obtain ⟨hev, hcr, hat⟩ := hpins hpin
    obtain ⟨hev', hcr', hat', -⟩ := hfirst hev hcr hat
    exact ⟨(congrArg LogSt.pinCr hshown).trans hcr', (congrArg LogSt.evAt hshown).trans hat', r,
      (congrArg LogSt.pinEv hshown).trans hev', hcode ▸ hcode2⟩
  · obtain ⟨hev, hcr, hat⟩ := hpins (by rw [h3]; decide)
    exact (congrArg LogSt.circ hshown).trans ((hfirst hev hcr hat).2.2.2.trans (hcirc2.trans (hcirc h3)))

end

/-- Settles O49: Duff's records and buckets, Ringlog's hand-off and erases, freezes and clears. -/
theorem recorderCommands : Obligations.RecorderCommands := by
  unfold Obligations.RecorderCommands
  refine fun s => ⟨fun hnone => noEffect_of_done rfl ?_, fun r rs hr => by rw [hr]; exact nextRaised_spec r rs,
    fun _ _ h => ⟨eventRecord_takes h, eventRecord_ring h, eventRecord_pin h, fun _ hrate hlow hhigh => eventRecord_holds h hrate hlow hhigh⟩,
    refill_none, fun _ _ => refill_one, recorder_waits, ringlogWrite_off,
    fun hung hok hfree => ⟨fun _ _ hpin hroom => ⟨ringlogWrite_pin hung hok hfree hpin hroom, ringlogWrite_pin_fails hung hok hfree hpin hroom⟩,
      fun _ => ringlogWrite_circ hung hok hfree, fun _ _ => ringlogWrite_custody hung hok hfree⟩,
    fun _ hung hok hnew hb => ⟨norErase_ends hung hok hnew hb, norErase_fails hung hok hnew hb⟩, norErase_none, stateSave_saves, stateSave_none,
    freezeBegin_freezes, freezeBegin_none, fun hfrozen => ⟨freezeEnd_thaws hfrozen, freezeExpiry_thaws hfrozen⟩, freezeExpiry_none,
    freezeEnd_thawed, freezeEnd_none, clear_none,
    fun v hung hgo hregion => ⟨clear_starts hung hgo hregion, fun _ => clear_refused hung hgo hregion, clear_closed hung hgo hregion⟩,
    clearComplete_none, fun _ _ => clearComplete_clears⟩
  unfold Dev.eventRecord
  rw [hnone]
  rfl

end Sys2Proof.Machine
end

section
/-! O50: the status panel. -/

namespace Sys2Proof.Machine

/-! The journal, and the latch of an update (R404, R407, R410). -/

theorem journal_spec (d : Dev) (e : List Byte) : ∃ j, d.journal e = { d with blz.journal := j } := by
  unfold Dev.journal
  dsimp only
  split
  · exact ⟨_, rfl⟩
  · exact ⟨d.blz.journal, rfl⟩

/-- BLZ_STAT as an update that begins shows it: screen, on the glass, none waiting. -/
def Dev.beginShown (s : Dev) (screen : Nat) : Dev := ((s.setFld BLZ_STAT 1 0 screen).setBit BLZ_STAT 2 true).setBit BLZ_STAT 3 false

/-- The band and the supply of an update that begins. -/
def Dev.beginPowered (s : Dev) : Dev := (s.latchBand.setBit PIN_CFGD 15 true).setBit PIN_CFGD 6 true

theorem beginShown_spec (d : Dev) (screen : Nat) : (d.beginShown screen).bit BLZ_STAT 2 = true ∧ (d.beginShown screen).bit BLZ_STAT 3 = false ∧
    (d.beginShown screen).fld BLZ_STAT 31 16 = d.fld BLZ_STAT 31 16 ∧ (d.beginShown screen).blz = d.blz := by
  unfold Dev.beginShown
  refine ⟨?_, bit_setBit_same _ _ _ _ (by decide), ?_, rfl⟩
  · rw [bit_setBit_ne _ _ _ _ _ (by decide) (by decide), bit_setBit_same _ _ _ _ (by decide)]
  · rw [fld_setBit_ne _ _ _ _ _ _ (by decide) (by decide), fld_setBit_ne _ _ _ _ _ _ (by decide) (by decide),
      fld_setFld_ne _ _ _ _ _ _ _ (by decide) (by decide) (by decide)]

theorem latchBand_spec (d : Dev) : (∀ i, i < 8 → d.latchBand.bit BLZ_STAT i = d.bit BLZ_STAT i) ∧
    d.latchBand.fld BLZ_STAT 31 16 = d.fld BLZ_STAT 31 16 ∧ d.latchBand.blz = d.blz := by
  unfold Dev.latchBand
  dsimp only
  split
  · exact ⟨fun _ _ => rfl, rfl, rfl⟩
  · refine ⟨fun i hi => ?_, ?_, rfl⟩
    · rw [ev_bit, bit_setFld_ne _ _ _ _ _ _ (by decide) (by decide) (.inr hi)]
    · rw [ev_fld, fld_setFld_ne _ _ _ _ _ _ _ (by decide) (by decide) (by decide)]

theorem beginPowered_spec (d : Dev) : (∀ i, i < 8 → d.beginPowered.bit BLZ_STAT i = d.bit BLZ_STAT i) ∧
    d.beginPowered.fld BLZ_STAT 31 16 = d.fld BLZ_STAT 31 16 ∧ d.beginPowered.blz = d.blz := by
  obtain ⟨hbit, hfld, hblz⟩ := latchBand_spec d
  unfold Dev.beginPowered
  generalize d.latchBand = e at *
  refine ⟨fun i hi => ?_, ?_, ?_⟩
  · rw [bit_setBit_other _ _ _ _ _ _ (by decide), bit_setBit_other _ _ _ _ _ _ (by decide), hbit i hi]
  · rw [fld_setBit_other _ _ _ _ _ _ _ (by decide), fld_setBit_other _ _ _ _ _ _ _ (by decide), hfld]
  · rw [setBit_blz, setBit_blz, hblz]

/-- What an update that begins latches of the device s. -/
def Dev.beginLatched (d s : Dev) : Dev :=
  { d with blz.run := some { fields := s.screenFields, band := s.blz.bandNow }, blz.retry := false, blz.last := some s.panelNow }

/-- The device as an update begins, before its journal entry. -/
def Dev.updateBegun (s : Dev) (again : Bool) : Dev :=
  (((if again then s else s.cntWrap BLZ_STAT 31 16 1).beginShown (u8 s.screenFields 0 % 4)).beginPowered).beginLatched s

theorem panelBegin_eq (d : Dev) (again : Bool) : d.panelBegin again =
    (d.updateBegun again).journal ((d.updateBegun again).journalEntry 1 d.blz.bandNow d.screenFields) := rfl

theorem bit_withBlz (d : Dev) (x : BlzSt) (a i : Nat) : ({ d with blz := x } : Dev).bit a i = d.bit a i := rfl

theorem fld_withBlz (d : Dev) (x : BlzSt) (a hi lo : Nat) : ({ d with blz := x } : Dev).fld a hi lo = d.fld a hi lo := rfl

theorem updateBegun_spec (d : Dev) (again : Bool) : (d.updateBegun again).blz.run = some { fields := d.screenFields, band := d.blz.bandNow } ∧
    (d.updateBegun again).blz.last = some d.panelNow ∧ (d.updateBegun again).blz.retry = false ∧
    (d.updateBegun again).bit BLZ_STAT 2 = true ∧ (d.updateBegun again).bit BLZ_STAT 3 = false ∧
    (d.updateBegun again).fld BLZ_STAT 31 16 = (d.fld BLZ_STAT 31 16 + bnat (!again)) % 65536 := by
  have hcount : (if again then d else d.cntWrap BLZ_STAT 31 16 1).fld BLZ_STAT 31 16 = (d.fld BLZ_STAT 31 16 + bnat (!again)) % 65536 := by
    cases again with
    | true => exact (Nat.mod_eq_of_lt (fld_lt d BLZ_STAT 31 16)).symm
    | false => exact fld_cntWrap_same d _ _ _ _ (by decide) (by decide)
  unfold Dev.updateBegun
  generalize (if again then d else d.cntWrap BLZ_STAT 31 16 1) = c at *
  obtain ⟨h2, h3, hfld, -⟩ := beginShown_spec c (u8 d.screenFields 0 % 4)
  generalize c.beginShown (u8 d.screenFields 0 % 4) = x at *
  obtain ⟨hbit, hfld', -⟩ := beginPowered_spec x
  generalize x.beginPowered = y at *
  exact ⟨rfl, rfl, rfl, (hbit 2 (by decide)).trans h2, (hbit 3 (by decide)).trans h3, hfld'.trans (hfld.trans hcount)⟩

section
variable {s : State}

/-- An update that begins, first or again (R404, R410). -/
theorem panelBegin_after (again : Bool) : (s.after (s.toDev.panelBegin again)).blz.run = some { fields := s.screenFields, band := s.blz.bandNow } ∧
    (s.after (s.toDev.panelBegin again)).blz.last = some s.panelNow ∧ (s.after (s.toDev.panelBegin again)).blz.retry = false ∧
    (s.after (s.toDev.panelBegin again)).bit BLZ_STAT 2 = true ∧ (s.after (s.toDev.panelBegin again)).bit BLZ_STAT 3 = false ∧
    (s.after (s.toDev.panelBegin again)).fld BLZ_STAT 31 16 = (s.fld BLZ_STAT 31 16 + bnat (!again)) % 65536 := by
  obtain ⟨hrun, hlast, hretry, h2, h3, hcount⟩ := updateBegun_spec s.toDev again
  rw [panelBegin_eq]
  generalize s.toDev.updateBegun again = d at *
  obtain ⟨j, hj⟩ := journal_spec d (d.journalEntry 1 s.blz.bandNow s.screenFields)
  rw [hj]
  refine ⟨(congrArg BlzSt.run (settle_blz _)).trans hrun, (congrArg BlzSt.last (settle_blz _)).trans hlast,
    (congrArg BlzSt.retry (settle_blz _)).trans hretry, ?_, ?_, ?_⟩
  · exact (settle_bit _ _ _ (by decide) (by decide)).trans h2
  · exact (settle_bit _ _ _ (by decide) (by decide)).trans h3
  · exact (settle_fld _ _ _ _ (by decide) (by decide)).trans hcount

/-! The course of an update (R402, R404, R408, R410). -/

theorem panel_waits (hung : s.glade.hung = true) (ts : List Nat) (i2c : Bool) (x : Option Int) (ohms : Nat) (c : Instr)
    (hc : c ∈ [.panelUpdateStart, .pwrgdArrival ts, .pgTimeout i2c, .panelUpdateEnd, .panelUpdateRetry, .panelTempRead x,
      .barkMeasure ohms, .ringcountSave]) : NoEffect c s := by
  simp only [List.mem_cons, List.not_mem_nil, or_false] at hc
  rcases hc with rfl | rfl | rfl | rfl | rfl | rfl | rfl | rfl <;> exact noEffect_of_done rfl (byGlade_hung _ hung)

theorem panelStart_idle (h : s.bit BLZ_STAT 4 = false ∨ s.blz.last = some s.panelNow) : NoEffect .panelUpdateStart s := by
  refine noEffect_of_done rfl (byGlade_same _ (if_pos ?_))
  rcases h with h | h <;> rw [h] <;> simp

/-- A field has changed, and the clean refresh is done. -/
theorem panelStart_due {d : Dev} (hclean : d.bit BLZ_STAT 4 = true) (hnew : d.blz.last ≠ some d.panelNow) : d.panelStart =
    if d.blz.run.isSome then d.setBit BLZ_STAT 3 true else if d.blz.retry then d else d.panelBegin false :=
  if_neg (by rw [hclean]; simp [hnew])

theorem panelStart_held {u : BlzUpd} (hung : s.glade.hung = false) (hrun : s.blz.run = some u) (hclean : s.bit BLZ_STAT 4 = true)
    (hnew : s.blz.last ≠ some s.panelNow) : Answers .panelUpdateStart s fun t => t.bit BLZ_STAT 3 = true ∧ Quiet [BLZ_STAT] s t := by
  have hdone : s.toDev.byGlade Dev.panelStart = s.toDev.setBit BLZ_STAT 3 true :=
    (byGlade_free _ hung).trans ((panelStart_due hclean hnew).trans (if_pos (by rw [hrun]; rfl)))
  exact answers_of_done (congrArg (done s) hdone) ⟨(settle_bit _ _ _ (by decide) (by decide)).trans (bit_setBit_same _ _ _ _ (by decide)),
    ((Effect.refl [BLZ_STAT] s.toDev).setBit (List.mem_singleton_self _) 3 true).framed, noEvent_after rfl⟩

theorem powerGood_draws {u : BlzUpd} (hung : s.glade.hung = false) (hrun : s.blz.run = some u) (tiles : List Nat) (hoff : u.drawing = false) :
    Answers (.pwrgdArrival tiles) s fun t => NoEvent s t ∧
          Framed [] s t (blocks { s.toDev with
            blz.run := some { u with drawing := true, tiles := (tiles.filter (· < 510)).dedup }, blz.glass := some (u.fields, true) }) := by
  have hdone : s.toDev.byGlade (fun d => d.powerGood tiles) = { s.toDev with
      blz.run := some { u with drawing := true, tiles := (tiles.filter (· < 510)).dedup }, blz.glass := some (u.fields, true) } := by
    rw [byGlade_free _ hung]
    unfold Dev.powerGood
    rw [hrun]
    exact if_neg (by rw [hoff]; decide)
  generalize (tiles.filter (· < 510)).dedup = ts at *
  exact answers_of_done (congrArg (done s) hdone) ⟨noEvent_after rfl, ((Effect.refl [] s.toDev).blz _).framed⟩

theorem powerGood_drawing {u : BlzUpd} (hrun : s.blz.run = some u) (hon : u.drawing = true) (tiles : List Nat) :
    NoEffect (.pwrgdArrival tiles) s := by
  refine noEffect_of_done rfl (byGlade_same _ ?_)
  unfold Dev.powerGood
  rw [hrun]
  exact if_pos hon

theorem abandon_ends {u : BlzUpd} (hung : s.glade.hung = false) (hrun : s.blz.run = some u) (i2c : Bool) (hfail : u.drawing = false ∨ i2c = true) :
    Answers (.pgTimeout i2c) s fun t => t.bit BLZ_STAT 2 = false ∧
          t.bit BLZ_STAT 3 = false ∧ OneEvent s t 0x0F05 0#32 (if i2c then 1#32 else 2#32) ∧
          Framed [BLZ_STAT, HOST_EVT_PEND 3] s t (blocks { s.toDev with blz.run := none, blz.retry := true }) := by
  have hdone : s.toDev.byGlade (fun d => d.panelAbandon i2c) = (({ (s.toDev.setBit BLZ_STAT 2 false).setBit BLZ_STAT 3 false with
      blz.run := none, blz.retry := true } : Dev).ev 0x0F05 0 (if i2c then 1 else 2)).raise 0x70 := by
    rw [byGlade_free _ hung]
    unfold Dev.panelAbandon
    rw [hrun]
    exact if_neg (by rcases hfail with h | h <;> rw [h] <;> simp)
  have heff : Effect [BLZ_STAT, HOST_EVT_PEND 3] s.toDev ((s.toDev.setBit BLZ_STAT 2 false).setBit BLZ_STAT 3 false) (blocks s.toDev) :=
    ((Effect.refl _ s.toDev).setBit (by decide) 2 false).setBit (by decide) 3 false
  have hlog : ((s.toDev.setBit BLZ_STAT 2 false).setBit BLZ_STAT 3 false).log = s.log := rfl
  have h2 : ((s.toDev.setBit BLZ_STAT 2 false).setBit BLZ_STAT 3 false).bit BLZ_STAT 2 = false := by
    rw [bit_setBit_ne _ _ _ _ _ (by decide) (by decide), bit_setBit_same _ _ _ _ (by decide)]
  have h3 : ((s.toDev.setBit BLZ_STAT 2 false).setBit BLZ_STAT 3 false).bit BLZ_STAT 3 = false := bit_setBit_same _ _ _ _ (by decide)
  have hblz : ((s.toDev.setBit BLZ_STAT 2 false).setBit BLZ_STAT 3 false).blz = s.blz := rfl
  generalize (s.toDev.setBit BLZ_STAT 2 false).setBit BLZ_STAT 3 false = d at *
  replace hdone : s.toDev.byGlade (fun d => d.panelAbandon i2c) =
      (({ d with blz := { s.blz with run := none, retry := true } } : Dev).ev 0x0F05 0 (if i2c then 1 else 2)).raise 0x70 := by
    rw [hdone, ← hblz]
  have hbit : ∀ i, (s.after ((({ d with blz := { s.blz with run := none, retry := true } } : Dev).ev 0x0F05 0 (if i2c then 1 else 2)).raise
      0x70)).bit BLZ_STAT i = d.bit BLZ_STAT i := fun i => (settle_bit _ _ _ (by decide) (by decide)).trans (bit_raise_other _ _ _ _ (by decide))
  refine answers_of_done (congrArg (done s) hdone) ⟨(hbit 2).trans h2, (hbit 3).trans h3, ?_, ?_⟩
  · rw [show (if i2c then 1#32 else 2#32) = BitVec.ofNat 32 (if i2c then 1 else 2) by cases i2c <;> rfl]
    exact oneEvent_ev (d := { d with blz := { s.blz with run := none, retry := true } }) rfl (congrArg LogSt.raised hlog)
  · exact (((heff.blz { s.blz with run := none, retry := true }).ev _ _ _).raise (by decide)).framed

theorem abandon_drawing {u : BlzUpd} (hrun : s.blz.run = some u) (hon : u.drawing = true) : NoEffect (.pgTimeout false) s := by
  refine noEffect_of_done rfl (byGlade_same _ ?_)
  unfold Dev.panelAbandon
  rw [hrun]
  exact if_pos (by rw [hon]; rfl)

/-- Ringcount with the tiles of an update counted (R408). -/
def tilesCounted (ts : List Nat) (m : List (Nat × Nat)) : List (Nat × Nat) :=
  ts.foldl (fun m t => insertKey t (satAdd 24 ((lookupKey t m).getD 0) 1) m) m

theorem tilesCounted_one (k : Nat) (m : List (Nat × Nat)) : (lookupKey k (tilesCounted [k] m)).getD 0 =
    min (2 ^ 24 - 1) ((lookupKey k m).getD 0 + 1) := by
  unfold tilesCounted
  rw [List.foldl_cons, List.foldl_nil, lookupKey_insertKey, if_pos rfl]
  rfl

/-- The device as an update ends, before its journal entry (R404, R408). -/
def Dev.updateEnded (s : Dev) (u : BlzUpd) (frames : Nat) : Dev :=
  let tiles := tilesCounted u.tiles s.blz.tiles
  let s := ({ s with blz.tiles := tiles, blz.run := none, blz.glass := some (u.fields, false) } : Dev)
  let s := s.setFld BLZ_RC_MAX 23 0 ((tiles.map Prod.snd).foldl max 0)
  ((s.cntWrap BLZ_UPD_CNT 31 0 1).setBit BLZ_STAT 2 false).ev 0x0F01 (s.fld BLZ_STAT 31 16) frames

/-- The end of an update written to the journal and the saved counters, where Ringlog is present. -/
def Dev.endSaved (s : Dev) (u : BlzUpd) (tiles : List (Nat × Nat)) : Dev :=
  let s := s.journal (s.journalEntry 2 u.band u.fields)
  if s.ringlogOk then { s with blz.saved := tiles } else s

theorem panelEnd_eq {d : Dev} {u : BlzUpd} (hrun : d.blz.run = some u) (hon : u.drawing = true) : ∃ frames, d.panelEnd =
    if ((d.updateEnded u frames).endSaved u (tilesCounted u.tiles d.blz.tiles)).bit BLZ_STAT 3 then
      ((d.updateEnded u frames).endSaved u (tilesCounted u.tiles d.blz.tiles)).panelBegin false
    else (d.updateEnded u frames).endSaved u (tilesCounted u.tiles d.blz.tiles) := by
  unfold Dev.panelEnd
  rw [hrun]
  exact ⟨min 64 (Config.wfLen u.band) + (u.tiles.map d.tileAdd).foldl max 0, if_neg (by rw [hon]; decide)⟩

theorem endSaved_spec (d : Dev) (u : BlzUpd) (tiles : List (Nat × Nat)) : ∃ j sv, d.endSaved u tiles =
    { d with blz := { d.blz with journal := j, saved := sv } } := by
  obtain ⟨j, hj⟩ := journal_spec d (d.journalEntry 2 u.band u.fields)
  unfold Dev.endSaved
  rw [hj]
  dsimp only
  split
  · exact ⟨j, tiles, rfl⟩
  · exact ⟨j, d.blz.saved, rfl⟩

/-- The device with an update off the panel, before it is counted. -/
def Dev.updateOff (s : Dev) (u : BlzUpd) : Dev :=
  Dev.setFld { s with blz := { s.blz with tiles := tilesCounted u.tiles s.blz.tiles, run := none, glass := some (u.fields, false) } }
    BLZ_RC_MAX 23 0 (((tilesCounted u.tiles s.blz.tiles).map Prod.snd).foldl max 0)

theorem updateOff_spec (d : Dev) (u : BlzUpd) : (∀ a, a ≠ BLZ_RC_MAX → (d.updateOff u).rd a = d.rd a) ∧ (d.updateOff u).log = d.log ∧
    (d.updateOff u).blz = { d.blz with tiles := tilesCounted u.tiles d.blz.tiles, run := none, glass := some (u.fields, false) } := by
  unfold Dev.updateOff
  generalize ((tilesCounted u.tiles d.blz.tiles).map Prod.snd).foldl max 0 = n
  exact ⟨fun a ha => rd_setFld_ne _ _ _ _ _ _ ha, rfl, rfl⟩

theorem updateEnded_eq (d : Dev) (u : BlzUpd) (frames : Nat) : d.updateEnded u frames =
    (((d.updateOff u).cntWrap BLZ_UPD_CNT 31 0 1).setBit BLZ_STAT 2 false).ev 0x0F01 ((d.updateOff u).fld BLZ_STAT 31 16) frames := rfl

theorem updateEnded_spec (d : Dev) (u : BlzUpd) (frames : Nat) :
    (d.updateEnded u frames).blz = { d.blz with tiles := tilesCounted u.tiles d.blz.tiles, run := none, glass := some (u.fields, false) } ∧
    (d.updateEnded u frames).bit BLZ_STAT 2 = false ∧ (d.updateEnded u frames).bit BLZ_STAT 3 = d.bit BLZ_STAT 3 ∧
    (d.updateEnded u frames).fld BLZ_UPD_CNT 31 0 = (d.fld BLZ_UPD_CNT 31 0 + 1) % 2 ^ 32 ∧
    ∃ e : Dev, (d.updateEnded u frames).log = (e.evW 0x0F01 (BitVec.ofNat 32 (d.fld BLZ_STAT 31 16)) (BitVec.ofNat 32 frames)).log ∧
      e.log = d.log := by
  obtain ⟨hregs, hlog, hblz⟩ := updateOff_spec d u
  rw [updateEnded_eq]
  generalize d.updateOff u = x at *
  refine ⟨hblz, ?_, ?_, ?_, (x.cntWrap BLZ_UPD_CNT 31 0 1).setBit BLZ_STAT 2 false, ?_, hlog⟩
  · rw [ev_bit, bit_setBit_same _ _ _ _ (by decide)]
  · rw [ev_bit, bit_setBit_ne _ _ _ _ _ (by decide) (by decide), bit_cntWrap_other _ _ _ _ _ _ _ (by decide),
      bit_of_rd _ _ _ _ (hregs _ (by decide))]
  · rw [ev_fld, fld_setBit_other _ _ _ _ _ _ _ (by decide), fld_cntWrap_same _ _ _ _ _ (by decide) (by decide),
      fld_of_rd _ _ _ _ _ (hregs _ (by decide))]
  · rw [fld_of_rd _ _ _ _ _ (hregs BLZ_STAT (by decide))]
    rfl

theorem panelEnd_ends {u : BlzUpd} (hung : s.glade.hung = false) (hrun : s.blz.run = some u) (hon : u.drawing = true)
    (hnone : s.bit BLZ_STAT 3 = false) : Answers .panelUpdateEnd s fun t => t.blz.run = none ∧
            t.blz.glass = some (u.fields, false) ∧
            t.bit BLZ_STAT 2 = false ∧ t.fld BLZ_UPD_CNT 31 0 = (s.fld BLZ_UPD_CNT 31 0 + 1) % 2 ^ 32 ∧
            (∀ k, u.tiles = [k] → (lookupKey k t.blz.tiles).getD 0 =
              min (2 ^ 24 - 1) ((lookupKey k s.blz.tiles).getD 0 + 1)) ∧
            ∃ p2, OneEvent s t 0x0F01 (BitVec.ofNat 32 (s.fld BLZ_STAT 31 16)) p2 := by
  obtain ⟨frames, hend⟩ := panelEnd_eq hrun hon
  obtain ⟨hblz, h2, h3, hcount, e, hevent, hlog⟩ := updateEnded_spec s.toDev u frames
  generalize s.toDev.updateEnded u frames = d at *
  obtain ⟨j, sv, hsaved⟩ := endSaved_spec d u (tilesCounted u.tiles s.blz.tiles)
  rw [hsaved] at hend
  have hdone : s.toDev.byGlade Dev.panelEnd = { d with blz := { d.blz with journal := j, saved := sv } } :=
    (byGlade_free _ hung).trans (hend.trans (if_neg (by rw [bit_withBlz, h3, hnone]; decide)))
  rw [hblz] at hdone
  refine answers_of_done (congrArg (done s) hdone) ⟨(congrArg BlzSt.run (settle_blz _) :), (congrArg BlzSt.glass (settle_blz _) :), ?_, ?_,
    fun k hk => ?_, BitVec.ofNat 32 frames, oneEvent_evW (d := e) (congrArg LogSt.raised hevent :) (congrArg LogSt.raised hlog)⟩
  · exact (settle_bit _ _ _ (by decide) (by decide)).trans h2
  · exact (settle_fld _ _ _ _ (by decide) (by decide)).trans hcount
  · refine (congrArg (fun x : BlzSt => (lookupKey k x.tiles).getD 0) (settle_blz _)).trans ?_
    show (lookupKey k (tilesCounted u.tiles s.blz.tiles)).getD 0 = _
    rw [hk]
    exact tilesCounted_one k _

theorem panelEnd_dark {u : BlzUpd} (hrun : s.blz.run = some u) (hoff : u.drawing = false) : NoEffect .panelUpdateEnd s := by
  refine noEffect_of_done rfl (byGlade_same _ ?_)
  unfold Dev.panelEnd
  rw [hrun]
  exact if_pos (by rw [hoff]; rfl)

theorem panel_off (hrun : s.blz.run = none) : (∀ tiles, NoEffect (.pwrgdArrival tiles) s) ∧ (∀ i2c, NoEffect (.pgTimeout i2c) s) ∧
    NoEffect .panelUpdateEnd s := by
  refine ⟨fun tiles => noEffect_of_done rfl (byGlade_same _ ?_), fun i2c => noEffect_of_done rfl (byGlade_same _ ?_),
    noEffect_of_done rfl (byGlade_same _ ?_)⟩
  · unfold Dev.powerGood
    rw [hrun]
  · unfold Dev.panelAbandon
    rw [hrun]
  · unfold Dev.panelEnd
    rw [hrun]

theorem panelStart_retrying (hrun : s.blz.run = none) (hretry : s.blz.retry = true) : NoEffect .panelUpdateStart s := by
  refine noEffect_of_done rfl (byGlade_same _ ?_)
  unfold Dev.panelStart
  rw [hrun, hretry]
  split <;> rfl

theorem panelStart_begins (hung : s.glade.hung = false) (hrun : s.blz.run = none) (hclean : s.bit BLZ_STAT 4 = true)
    (hnew : s.blz.last ≠ some s.panelNow) (hfree : s.blz.retry = false) : Answers .panelUpdateStart s fun t =>
          t.blz.run = some { fields := s.screenFields, band := s.blz.bandNow } ∧ t.blz.last = some s.panelNow ∧
          t.bit BLZ_STAT 2 = true ∧ t.bit BLZ_STAT 3 = false ∧
          t.fld BLZ_STAT 31 16 = (s.fld BLZ_STAT 31 16 + 1) % 65536 := by
  have hdone : s.toDev.byGlade Dev.panelStart = s.toDev.panelBegin false :=
    (byGlade_free _ hung).trans ((panelStart_due hclean hnew).trans ((if_neg (by rw [hrun]; simp)).trans (if_neg (by rw [hfree]; decide))))
  obtain ⟨hrun', hlast, -, h2, h3, hcount⟩ := panelBegin_after (s := s) false
  exact answers_of_done (congrArg (done s) hdone) ⟨hrun', hlast, h2, h3, hcount⟩

theorem panelRetry_begins (hung : s.glade.hung = false) (hretry : s.blz.retry = true) : Answers .panelUpdateRetry s fun t =>
        t.blz.run = some { fields := s.screenFields, band := s.blz.bandNow } ∧ t.blz.retry = false ∧ t.bit BLZ_STAT 2 = true ∧
        t.fld BLZ_STAT 31 16 = s.fld BLZ_STAT 31 16 := by
  have hdone : s.toDev.byGlade Dev.panelRetry = s.toDev.panelBegin true := (byGlade_free _ hung).trans (if_pos hretry)
  obtain ⟨hrun, -, hfree, h2, -, hcount⟩ := panelBegin_after (s := s) true
  exact answers_of_done (congrArg (done s) hdone) ⟨hrun, hfree, h2, hcount.trans (Nat.mod_eq_of_lt (fld_lt s.toDev BLZ_STAT 31 16))⟩

theorem panelRetry_none (hfree : s.blz.retry = false) : NoEffect .panelUpdateRetry s :=
  noEffect_of_done rfl (byGlade_same _ (if_neg (by rw [hfree]; decide)))

/-! Temperature, Bark and Ringcount (R405 to R409). -/

theorem temp_read (hung : s.glade.hung = false) (x : Int) : Answers (.panelTempRead (some x)) s fun t =>
        t.fld BLZ_TEMP 15 0 = unsigned 16 x % 65536 ∧
        t.blz.bandNow = (panelBand x).1 ∧ t.blz.fails = 0 ∧ t.bit BLZ_STAT 5 = (panelBand x).2 ∧ t.bit BLZ_STAT 6 = false ∧
        NoEvent s t := by
  have hdone : s.toDev.byGlade (fun d => d.panelTemp (some x)) = ((Dev.setFld { s.toDev with
      blz := { s.blz with fails := 0, bandNow := (panelBand x).1 } } BLZ_TEMP 15 0 (unsigned 16 x)).setBit BLZ_STAT 5 (panelBand x).2).setBit
      BLZ_STAT 6 false := byGlade_free _ hung
  generalize panelBand x = band at *
  refine answers_of_done (congrArg (done s) hdone) ⟨?_, (congrArg BlzSt.bandNow (settle_blz _) :), (congrArg BlzSt.fails (settle_blz _) :),
    ?_, ?_, noEvent_after rfl⟩
  · refine (settle_fld _ _ _ _ (by decide) (by decide)).trans ?_
    rw [fld_setBit_other _ _ _ _ _ _ _ (by decide), fld_setBit_other _ _ _ _ _ _ _ (by decide),
      fld_setFld_same _ _ _ _ _ (by decide) (by decide)]
    rfl
  · refine (settle_bit _ _ _ (by decide) (by decide)).trans ?_
    rw [bit_setBit_ne _ _ _ _ _ (by decide) (by decide), bit_setBit_same _ _ _ _ (by decide)]
  · exact (settle_bit _ _ _ (by decide) (by decide)).trans (bit_setBit_same _ _ _ _ (by decide))

theorem temp_fails (hung : s.glade.hung = false) : Answers (.panelTempRead none) s fun t => t.blz.fails = s.blz.fails + 1 ∧
        (s.blz.fails < 2 → Framed [] s t (blocks { s.toDev with blz.fails := s.blz.fails + 1 }) ∧ NoEvent s t) ∧
        (2 ≤ s.blz.fails → s.bit BLZ_STAT 6 = false → t.bit BLZ_STAT 6 = true ∧ t.blz.bandNow = 0 ∧
          OneEvent s t 0x0F06 0#32 0#32) := by
  have hfree : exec (.panelTempRead none) s = done s (s.toDev.panelTemp none) := congrArg (done s) (byGlade_free _ hung)
  by_cases hthird : 2 ≤ s.blz.fails ∧ s.bit BLZ_STAT 6 = false
  · have hdone : s.toDev.panelTemp none = ((Dev.setBit { s.toDev with
        blz := { s.blz with fails := s.blz.fails + 1, bandNow := 0 } } BLZ_STAT 6 true).ev 0x0F06 0 0) :=
      if_pos ⟨Nat.succ_le_succ hthird.1, by rw [bit_withBlz, hthird.2]; rfl⟩
    refine answers_of_done (hfree.trans (congrArg (done s) hdone)) ⟨(congrArg BlzSt.fails (settle_blz _) :), fun h => absurd h (Nat.not_lt.mpr hthird.1),
      fun _ _ => ⟨?_, (congrArg BlzSt.bandNow (settle_blz _) :), oneEvent_ev (d := Dev.setBit { s.toDev with
        blz := { s.blz with fails := s.blz.fails + 1, bandNow := 0 } } BLZ_STAT 6 true) rfl rfl⟩⟩
    exact (settle_bit _ _ _ (by decide) (by decide)).trans (bit_setBit_same _ _ _ _ (by decide))
  · have hdone : s.toDev.panelTemp none = { s.toDev with blz := { s.blz with fails := s.blz.fails + 1 } } :=
      if_neg fun ⟨h3, h6⟩ => hthird ⟨Nat.le_of_succ_le_succ h3, by simpa using h6⟩
    exact answers_of_done (hfree.trans (congrArg (done s) hdone)) ⟨(congrArg BlzSt.fails (settle_blz _) :),
      fun _ => ⟨((Effect.refl [] s.toDev).blz _).framed, noEvent_after rfl⟩, fun h2 h6 => absurd ⟨h2, h6⟩ hthird⟩

/-- The measurement as Bark shows it (R409). -/
def Dev.barkShown (s : Dev) (ohms : Nat) : Dev := (s.setFld BLZ_BARK 15 0 (min 65535 ohms)).setBit PIN_CFGD 7 true

theorem barkShown_spec (d : Dev) (ohms : Nat) : (d.barkShown ohms).fld BLZ_BARK 15 0 = min 65535 ohms ∧
    (d.barkShown ohms).fld BLZ_BARK 31 16 = d.fld BLZ_BARK 31 16 ∧ (d.barkShown ohms).bit BLZ_STAT 7 = d.bit BLZ_STAT 7 ∧
    (d.barkShown ohms).blz = d.blz ∧ (d.barkShown ohms).log = d.log := by
  unfold Dev.barkShown
  refine ⟨?_, ?_, ?_, rfl, rfl⟩
  · rw [fld_setBit_other _ _ _ _ _ _ _ (by decide), fld_setFld_same _ _ _ _ _ (by decide) (by decide)]
    exact Nat.mod_eq_of_lt (by omega)
  · rw [fld_setBit_other _ _ _ _ _ _ _ (by decide), fld_setFld_ne _ _ _ _ _ _ _ (by decide) (by decide) (by decide)]
  · rw [bit_setBit_other _ _ _ _ _ _ (by decide), bit_setFld_other _ _ _ _ _ _ _ (by decide)]

/-- A measurement above the limit, from the device that shows it (R409). -/
def Dev.barkHigher (s : Dev) (ohms : Nat) : Dev :=
  let n := s.blz.barkHigh + 1
  let s := ({ s with blz.barkHigh := min 2 n, blz.barkLow := 0 } : Dev)
  if 2 ≤ n ∧ !s.bit BLZ_STAT 7 then ((s.setBit BLZ_STAT 7 true).ev 0x0F08 0 ohms).raise 0x70 else s

/-- A measurement at most the limit, from the device that shows it (R409). -/
def Dev.barkLower (s : Dev) : Dev :=
  let n := s.blz.barkLow + 1
  let s := ({ s with blz.barkLow := min 2 n, blz.barkHigh := 0 } : Dev)
  if 2 ≤ n then s.setBit BLZ_STAT 7 false else s

theorem barkMeasure_eq (d : Dev) (ohms : Nat) : d.barkMeasure ohms = if (d.barkShown ohms).fld BLZ_BARK 31 16 < ohms then
    (d.barkShown ohms).barkHigher ohms else (d.barkShown ohms).barkLower := rfl

theorem barkHigher_answers {d : Dev} (ohms : Nat) (hlog : d.log = s.log) : (s.after (d.barkHigher ohms)).fld BLZ_BARK 15 0 = d.fld BLZ_BARK 15 0 ∧
    (1 ≤ d.blz.barkHigh → (s.after (d.barkHigher ohms)).bit BLZ_STAT 7 = true ∧
      (d.bit BLZ_STAT 7 = false → OneEvent s (s.after (d.barkHigher ohms)) 0x0F08 0#32 (BitVec.ofNat 32 ohms))) := by
  unfold Dev.barkHigher
  dsimp only
  rw [bit_withBlz]
  generalize min 2 (d.blz.barkHigh + 1) = n
  by_cases hsecond : 2 ≤ d.blz.barkHigh + 1 ∧ (!d.bit BLZ_STAT 7) = true
  · rw [if_pos hsecond]
    refine ⟨?_, fun _ => ⟨?_, fun _ => ?_⟩⟩
    · exact (settle_fld _ _ _ _ (by decide) (by decide)).trans ((fld_raise_other _ _ _ _ _ (by decide)).trans
        (fld_setBit_other _ _ _ _ _ _ _ (by decide)))
    · exact (settle_bit _ _ _ (by decide) (by decide)).trans ((bit_raise_other _ _ _ _ (by decide)).trans
        (bit_setBit_same _ _ _ _ (by decide)))
    · exact oneEvent_ev (d := Dev.setBit { d with blz := { d.blz with barkHigh := n, barkLow := 0 } } BLZ_STAT 7 true) rfl
        (congrArg LogSt.raised hlog)
  · rw [if_neg hsecond]
    refine ⟨settle_fld _ _ _ _ (by decide) (by decide), fun hhigh => ?_⟩
    have hset : d.bit BLZ_STAT 7 = true := by
      cases h : d.bit BLZ_STAT 7
      · exact absurd ⟨Nat.succ_le_succ hhigh, by rw [h]; rfl⟩ hsecond
      · rfl
    exact ⟨(settle_bit _ _ _ (by decide) (by decide)).trans hset, fun h => absurd (hset.symm.trans h) (by decide)⟩

theorem barkLower_answers {d : Dev} (hlog : d.log = s.log) : (s.after d.barkLower).fld BLZ_BARK 15 0 = d.fld BLZ_BARK 15 0 ∧
    NoEvent s (s.after d.barkLower) ∧ (1 ≤ d.blz.barkLow → (s.after d.barkLower).bit BLZ_STAT 7 = false) ∧
    (d.blz.barkLow = 0 → (s.after d.barkLower).bit BLZ_STAT 7 = d.bit BLZ_STAT 7) := by
  unfold Dev.barkLower
  dsimp only
  generalize min 2 (d.blz.barkLow + 1) = n
  by_cases hsecond : 2 ≤ d.blz.barkLow + 1
  · rw [if_pos hsecond]
    refine ⟨?_, noEvent_after (congrArg LogSt.raised hlog), fun _ => ?_, fun h => absurd hsecond (by rw [h]; decide)⟩
    · exact (settle_fld _ _ _ _ (by decide) (by decide)).trans (fld_setBit_other _ _ _ _ _ _ _ (by decide))
    · exact (settle_bit _ _ _ (by decide) (by decide)).trans (bit_setBit_same _ _ _ _ (by decide))
  · rw [if_neg hsecond]
    exact ⟨settle_fld _ _ _ _ (by decide) (by decide), noEvent_after (congrArg LogSt.raised hlog),
      fun h => absurd (Nat.succ_le_succ h) hsecond, fun _ => settle_bit _ _ _ (by decide) (by decide)⟩

theorem bark_measured (hung : s.glade.hung = false) (ohms : Nat) : Answers (.barkMeasure ohms) s fun t =>
        t.fld BLZ_BARK 15 0 = min 65535 ohms ∧
        (s.fld BLZ_BARK 31 16 < ohms → 1 ≤ s.blz.barkHigh → t.bit BLZ_STAT 7 = true ∧
          (s.bit BLZ_STAT 7 = false → OneEvent s t 0x0F08 0#32 (BitVec.ofNat 32 ohms))) ∧
        (ohms ≤ s.fld BLZ_BARK 31 16 → NoEvent s t ∧ (1 ≤ s.blz.barkLow → t.bit BLZ_STAT 7 = false) ∧
          (s.blz.barkLow = 0 → t.bit BLZ_STAT 7 = s.bit BLZ_STAT 7)) := by
  have hdone := (byGlade_free (fun d => d.barkMeasure ohms) hung).trans (barkMeasure_eq s.toDev ohms)
  obtain ⟨hshown, hlimit, hflag, hblz, hlog⟩ := barkShown_spec s.toDev ohms
  generalize s.toDev.barkShown ohms = d at *
  rw [hlimit] at hdone
  rw [← hblz, ← hflag]
  by_cases habove : s.fld BLZ_BARK 31 16 < ohms
  · rw [if_pos habove] at hdone
    obtain ⟨hfld, hhigh⟩ := barkHigher_answers ohms hlog
    exact answers_of_done (congrArg (done s) hdone) ⟨hfld.trans hshown, fun _ => hhigh, fun hle => absurd habove (Nat.not_lt.mpr hle)⟩
  · rw [if_neg habove] at hdone
    obtain ⟨hfld, hnone, hlow, hkept⟩ := barkLower_answers hlog
    exact answers_of_done (congrArg (done s) hdone) ⟨hfld.trans hshown, fun h => absurd h habove, fun _ => ⟨hnone, hlow, hkept⟩⟩

theorem ringcount_saved (hung : s.glade.hung = false) (hok : s.ringlogOk = true) : Answers .ringcountSave s fun t => NoEvent s t ∧
        Framed [] s t (blocks { s.toDev with blz.saved := s.blz.tiles }) :=
  answers_of_done (congrArg (done s) ((byGlade_free Dev.ringcountSave hung).trans (if_pos hok)))
    ⟨noEvent_after rfl, ((Effect.refl [] s.toDev).blz { s.blz with saved := s.blz.tiles }).framed⟩

theorem ringcount_none (hok : s.ringlogOk = false) : NoEffect .ringcountSave s :=
  noEffect_of_done rfl (byGlade_same _ (if_neg (by rw [hok]; decide)))

end

/-- Settles O50: the panel's updates, its temperature, Bark and Ringcount. -/
theorem panelCommands : Obligations.PanelCommands := by
  unfold Obligations.PanelCommands
  exact fun s => ⟨panel_waits, panelStart_idle, fun hung => ⟨fun _ hrun => ⟨panelStart_held hung hrun, powerGood_draws hung hrun,
      abandon_ends hung hrun, fun hon => ⟨powerGood_drawing hrun hon, abandon_drawing hrun hon, panelEnd_ends hung hrun hon⟩,
      panelEnd_dark hrun⟩,
    fun hrun => ⟨(panel_off hrun).1, (panel_off hrun).2.1, (panel_off hrun).2.2, panelStart_retrying hrun, panelStart_begins hung hrun⟩,
    panelRetry_begins hung, panelRetry_none, temp_read hung, temp_fails hung, bark_measured hung, ringcount_saved hung⟩, ringcount_none⟩

end Sys2Proof.Machine
end

section
/-! Glade's surroundings: what its reports, its image results and the panel leave of its registers and of its state. -/

namespace Sys2Proof.Machine

/-- The registers of GLB, but for those that show an image's state and the fuses. -/
def GladeReg (a : Nat) : Prop := a < 0x10000 ∧ a ≠ GLB_IMG_STAT ∧ a ≠ GLB_OWNER ∧ a ≠ GLB_RB

/-- A device d that has the registers of GLB, the state of Glade and the count of cycles of s, and events behind those raised. -/
structure Beside (s d : Dev) : Prop where
  regs : ∀ a, GladeReg a → d.rd a = s.rd a
  glade : d.glade = s.glade
  cyc : d.seq.cyc = s.seq.cyc
  raised : ∃ more, d.log.raised = s.log.raised ++ more

section
variable {s d e : Dev}

theorem Beside.refl (s : Dev) : Beside s s := ⟨fun _ _ => rfl, rfl, rfl, [], (List.append_nil _).symm⟩

theorem Beside.trans (h : Beside s d) (he : Beside d e) : Beside s e := by
  obtain ⟨more, hmore⟩ := h.raised
  obtain ⟨more', hmore'⟩ := he.raised
  exact ⟨fun a ha => (he.regs a ha).trans (h.regs a ha), he.glade.trans h.glade, he.cyc.trans h.cyc, more ++ more',
    by rw [hmore', hmore, List.append_assoc]⟩

theorem Beside.wr (h : Beside s d) {a : Nat} (ha : ¬GladeReg a) (v : Word) : Beside s (d.wr a v) :=
  ⟨fun x hx => (rd_wr_ne _ _ _ _ fun he : x = a => ha (he ▸ hx)).trans (h.regs x hx), h.glade, h.cyc, h.raised⟩

/-- A register above GLB is written. -/
theorem Beside.high (h : Beside s d) {a : Nat} (ha : 0x10000 ≤ a) (v : Word) : Beside s (d.wr a v) :=
  h.wr (fun hreg => absurd hreg.1 (Nat.not_lt.mpr ha)) v

theorem Beside.evW (h : Beside s d) (c : Nat) (p q : Word) : Beside s (d.evW c p q) := by
  obtain ⟨more, hmore⟩ := h.raised
  have hlast := congrArg (· ++ [({ code := c, p1 := p, p2 := q, p3 := d.rd GLB_CYCLE_CNT, stamp := d.now, valid := d.timeValid } : EvRec)]) hmore
  exact ⟨h.regs, h.glade, h.cyc, _, hlast.trans (List.append_assoc _ _ _)⟩

theorem Beside.spend (h : Beside s d) : Beside s d.spend := ⟨h.regs, h.glade, h.cyc, h.raised⟩

theorem Beside.blz (h : Beside s d) (x : BlzSt) : Beside s { d with blz := x } := ⟨h.regs, h.glade, h.cyc, h.raised⟩

theorem Beside.acq (h : Beside s d) (x : AcqSt) : Beside s { d with acq := x } := ⟨h.regs, h.glade, h.cyc, h.raised⟩

theorem Beside.host (h : Beside s d) (x : HostSt) : Beside s { d with host := x } := ⟨h.regs, h.glade, h.cyc, h.raised⟩

theorem Beside.log (h : Beside s d) {x : LogSt} (hx : x.raised = d.log.raised) : Beside s { d with log := x } :=
  ⟨h.regs, h.glade, h.cyc, h.raised.imp fun _ he => hx.trans he⟩

theorem Beside.ite (c : Prop) [Decidable c] (hd : Beside s d) (he : Beside s e) : Beside s (if c then d else e) := by
  split
  · exact hd
  · exact he

theorem Beside.raise (h : Beside s d) (n : Nat) : Beside s (d.raise n) := h.high (by simp only [HOST_EVT_PEND]; omega) _

/-- An event that Glade has raised stays raised. -/
theorem Beside.event (h : Beside s d) {e : EvRec} (he : e ∈ s.log.raised) : e ∈ d.log.raised := by
  obtain ⟨more, hmore⟩ := h.raised
  rw [hmore]
  exact List.mem_append_left _ he

/-! Reports and completions (R443, R446). -/

theorem Beside.live (h : Beside s d) (p k n : Nat) : Beside s (d.cntWrap (HOST_LIVE p k) 31 0 n) :=
  h.high (by simp only [HOST_LIVE]; omega) _

theorem Beside.endCount (h : Beside s d) (p k : Nat) : Beside s (d.endCount p k) := by
  unfold Dev.endCount
  dsimp only
  exact Beside.ite _ h (Beside.live (h.high (by simp only [HOST_LIVE]; omega) _) p k 1)

theorem Beside.endDesc (h : Beside s d) (p status : Nat) : Beside s (d.endDesc p status) := by
  unfold Dev.endDesc
  exact Beside.ite _ (h.endCount p 5) ((h.endCount p 7).evW _ _ _)

theorem Beside.reportPut (h : Beside s d) (p cls content : Nat) (body : List Byte) : Beside s (d.reportPut p cls content body) := by
  have hout : Beside s { d.spend with
      host.out := (p, d.reportHeader p cls content (body.length / 32) ++ body) :: d.host.out } := h.spend.host _
  have hptr : ∀ v, Beside s (Dev.wr { d.spend with
      host.out := (p, d.reportHeader p cls content (body.length / 32) ++ body) :: d.host.out } (HOST_REP_PTR p) v) :=
    hout.high (by simp only [HOST_REP_PTR, pairWin]; omega)
  exact (Beside.host (Beside.spend (Beside.host (Beside.live (hptr _) p 1 1) _)) _).raise p

theorem Beside.reportDrop (h : Beside s d) (p : Nat) : Beside s (d.reportDrop p) := by
  unfold Dev.reportDrop
  dsimp only
  have hdrop : Beside s (((d.cntWrap (HOST_LIVE p 3) 31 0 1).raise 0x80).setPair p fun x => { x with dropped := x.dropped + 1 }) :=
    ((h.live p 3 1).raise 0x80).host _
  exact Beside.ite _ (hdrop.evW _ _ _) hdrop

theorem Beside.report (h : Beside s d) (p cls content : Nat) (body : List Byte) : Beside s (d.report p cls content body) := by
  have hcount : Beside s (d.reportCount p) := (h.live p 0 1).host _
  have hstages : d.report p cls content body = if (d.reportCount p).repFits p ((padSlots body).length / 32)
      then (d.reportCount p).reportPut p cls content (padSlots body) else (d.reportCount p).reportDrop p := rfl
  rw [hstages]
  exact Beside.ite _ (hcount.reportPut p cls content _) (hcount.reportDrop p)

theorem Beside.reportRouted (h : Beside s d) (cls content : Nat) (body : List Byte) : Beside s (d.reportRouted cls content body) := by
  unfold Dev.reportRouted
  split
  · exact h
  · exact h.report _ _ _ _

theorem Beside.complete (h : Beside s d) (p typ idx status tag detail : Nat) : Beside s (d.complete p typ idx status tag detail) :=
  ((h.endDesc p status).report p 10 0 _).spend

/-! The state and the result of an image (R422, R430). -/

theorem Beside.imgStat (h : Beside s d) (state res : Nat) (b : List Byte) : Beside s (d.imgStat state res b) :=
  h.wr (fun hreg => hreg.2.1 rfl) _

theorem Beside.imageDone (h : Beside s d) (j : ImgJob) (res : Nat) : Beside s (d.imageDone j res) := by
  have hshown : Beside s ((if res = 8 then d else d.imgStat 0 res j.bytes).raise 0x78) := (Beside.ite _ h (h.imgStat 0 res j.bytes)).raise _
  unfold Dev.imageDone
  dsimp only
  split
  · exact hshown
  · exact hshown.complete _ _ _ _ _ _

/-- An image whose rollback number is not in the fuses waits for their burn; any other is done (R423). -/
theorem imageBurn_spec (d : Dev) (j : ImgJob) (res : Nat) : (∀ a, GladeReg a → (d.imageBurn j res).rd a = d.rd a) ∧
    (∃ bs, (d.imageBurn j res).glade = { d.glade with burns := bs }) ∧ ∃ more, (d.imageBurn j res).log.raised = d.log.raised ++ more := by
  unfold Dev.imageBurn
  dsimp only
  split
  · have hstat := (Beside.refl ({ d with glade.burns := d.glade.burns ++ [{ j with wait := 3, result := res }] } : Dev)).imgStat 5 res j.bytes
    exact ⟨hstat.regs, ⟨_, hstat.glade⟩, hstat.raised⟩
  · have hdone := (Beside.refl d).imageDone j res
    exact ⟨hdone.regs, ⟨d.glade.burns, hdone.glade⟩, hdone.raised⟩

theorem Beside.showFuses (h : Beside s d) : Beside s d.showFuses := by
  have hshown : Beside s (d.wrN GLB_OWNER (d.glade.enrolled % 16 + 16 * (d.glade.revoked % 16))) := h.wr (fun hreg => hreg.2.2.1 rfl) _
  exact hshown.wr (fun hreg => hreg.2.2.2 rfl) _

/-! The panel at boot (R408, R410). -/

theorem Beside.ev (h : Beside s d) (c p q : Nat) : Beside s (d.ev c p q) := h.evW _ _ _

theorem Beside.latchBand (h : Beside s d) : Beside s d.latchBand := by
  have hband : ∀ v, Beside s (d.wr BLZ_STAT v) := h.high (by decide)
  unfold Dev.latchBand
  exact Beside.ite _ h (Beside.ev (hband _) _ _ _)

theorem Beside.panelTemp (h : Beside s d) (reading : Option Int) : Beside s (d.panelTemp reading) := by
  cases reading with
  | some x =>
    have htemp : ∀ v, Beside s (Dev.wr { d with blz := { d.blz with fails := 0, bandNow := (panelBand x).1 } } BLZ_TEMP v) :=
      (h.blz _).high (by decide)
    exact Beside.high (Beside.high (htemp _) (a := BLZ_STAT) (by decide) _) (a := BLZ_STAT) (by decide) _
  | none =>
    have hset : ∀ v, Beside s (Dev.wr { d with blz := { d.blz with fails := d.blz.fails + 1, bandNow := 0 } } BLZ_STAT v) :=
      (h.blz _).high (by decide)
    exact Beside.ite _ ((hset _).ev _ _ _) (h.blz _)

/-- The panel once boot has its temperature and its counters. -/
def Dev.panelRefreshed (s : Dev) (temp : Option Int) : Dev :=
  let s := (s.panelTemp temp).latchBand.setBit BLZ_STAT 4 true
  let s := ({ s with blz.tiles := if s.ringlogOk then s.blz.saved else [] } : Dev)
  s.setFld BLZ_RC_MAX 23 0 ((s.blz.tiles.map Prod.snd).foldl max 0)

theorem Beside.panelRefreshed (h : Beside s d) (temp : Option Int) : Beside s (d.panelRefreshed temp) := by
  have hset : ∀ v, Beside s ((d.panelTemp temp).latchBand.wr BLZ_STAT v) := ((h.panelTemp temp).latchBand).high (by decide)
  unfold Dev.panelRefreshed
  exact Beside.high (a := BLZ_RC_MAX) ((hset _).blz _) (by decide) _

/-- The glass as boot finds it in the journal (R410). -/
def Dev.panelFound (s : Dev) (last : Option (List Byte)) : Dev :=
  match last with
  | none => ({ s with blz.glass := some (List.replicate 26 0, true) } : Dev).ev 0x0F03 0 2
  | some e =>
    let s := (s.setFld BLZ_STAT 31 16 (u16 e 2)).setFld BLZ_STAT 1 0 (u8 e 12 % 4)
    let open_ := u8 e 0 == 1
    let s := ({ s with blz.glass := some (slice e 12 26, open_) } : Dev)
    if open_ then s.ev 0x0F03 (u16 e 2) 1 else s

theorem panelBoot_eq (d : Dev) (temp : Option Int) : ∃ last, d.panelBoot temp = (d.panelRefreshed temp).panelFound last := by
  unfold Dev.panelBoot
  exact ⟨_, rfl⟩

theorem Beside.panelFound (h : Beside s d) (last : Option (List Byte)) : Beside s (d.panelFound last) := by
  cases last with
  | none => exact Beside.ev (h.blz _) _ _ _
  | some e =>
    have hshown : ∀ v, Beside s (d.wr BLZ_STAT v) := h.high (by decide)
    have hshown2 : ∀ v w, Beside s ((d.wr BLZ_STAT v).wr BLZ_STAT w) := fun v => (hshown v).high (by decide)
    exact Beside.ite _ (Beside.ev ((hshown2 _ _).blz _) _ _ _) ((hshown2 _ _).blz _)

theorem Beside.panelBoot (h : Beside s d) (temp : Option Int) : Beside s (d.panelBoot temp) := by
  obtain ⟨last, hlast⟩ := panelBoot_eq d temp
  rw [hlast]
  exact (h.panelRefreshed temp).panelFound last

/-! Ringlog's probe (R387, R393). -/

theorem Beside.showNor (h : Beside s d) : Beside s d.showNor := by
  have huse : ∀ v w, Beside s ((d.wr LOG_PIN_USE v).wr LOG_PIN_USE w) := fun v w =>
    Beside.high (h.high (a := LOG_PIN_USE) (by decide) v) (by decide) w
  have hwear : ∀ v w x y, Beside s ((((d.wr LOG_PIN_USE v).wr LOG_PIN_USE w).wr LOG_WEAR x).wr LOG_WEAR y) := fun v w x y =>
    Beside.high (Beside.high (huse v w) (a := LOG_WEAR) (by decide) x) (by decide) y
  have hfull : ∀ v w x y m n, Beside s ((((((d.wr LOG_PIN_USE v).wr LOG_PIN_USE w).wr LOG_WEAR x).wr LOG_WEAR y).wr LOG_STAT m).wr LOG_STAT n) :=
    fun v w x y m n => Beside.high (Beside.high (hwear v w x y) (a := LOG_STAT) (by decide) m) (by decide) n
  unfold Dev.showNor
  exact Beside.high (a := LOG_CIRC_HEAD) (hfull _ _ _ _ _ _) (by decide) _

theorem Beside.ringlogProbe (h : Beside s d) (nor : Nat) : Beside s (d.ringlogProbe nor) := by
  unfold Dev.ringlogProbe
  refine Beside.ite _ ?_ ?_
  · dsimp only
    generalize (if d.log.pwrNew = true then (d.fld LOG_PWR_CYC 23 0, d.log.saved.2) else d.log.saved) = saved
    have hlog : Beside s { d with log := { d.log with pwrNew := false, saved := saved } } := h.log rfl
    exact hlog.showNor.high (by decide) _
  · have hcold : Beside s ((d.setFld LOG_PWR_CYC 23 0 0).wr LOG_OP_S 0) :=
      Beside.high (Beside.high h (a := LOG_PWR_CYC) (by decide) _) (by decide) _
    have hold := Beside.ite (d.log.pwrNew = true) hcold h
    dsimp only
    generalize (if d.log.pwrNew = true then (d.setFld LOG_PWR_CYC 23 0 0).wr LOG_OP_S 0 else d) = x at *
    have hlog : Beside s { x with log := { x.log with pwrNew := false } } := hold.log rfl
    have hstat : ∀ v, Beside s (Dev.wr { x with log := { x.log with pwrNew := false } } LOG_STAT v) := hlog.high (by decide)
    exact (hstat _).ev _ _ _

end

end Sys2Proof.Machine
end

section
/-! O51, first part: the boot code and attestation (R424, R426, R428, R465). -/

namespace Sys2Proof.Machine

/-! The images of boot (R426). -/

/-- A device d in which boot is done with Heartwood, as s had it. -/
def HwReady (d : Dev) : Prop := d.bit GLB_HW_STAT 0 = true

theorem hwStat_reg : GladeReg GLB_HW_STAT := ⟨by decide, by decide, by decide, by decide⟩

theorem Beside.ready {s d : Dev} (h : Beside s d) (hs : HwReady s) : HwReady d := (bit_of_rd _ _ _ _ (h.regs _ hwStat_reg)).trans hs

/-- GLB_HW_STAT is in no image's reach but at boot. -/
theorem hwStat_com : (regRow GLB_HW_STAT).elim 0 RegRow.com = 0 := by decide

theorem maskedWrite_ready {d : Dev} (w : Nat × Word) (hs : HwReady d) :
    HwReady (d.wr w.1 ((d.rd w.1 &&& ~~~BitVec.ofNat 32 ((regRow w.1).elim 0 RegRow.com)) |||
      (w.2 &&& BitVec.ofNat 32 ((regRow w.1).elim 0 RegRow.com)))) := by
  by_cases hw : w.1 = GLB_HW_STAT
  · rw [hw, hwStat_com]
    refine (bit_wr_same _ _ _ _).trans ?_
    have hmask : d.rd GLB_HW_STAT &&& ~~~BitVec.ofNat 32 0 ||| w.2 &&& BitVec.ofNat 32 0 = d.rd GLB_HW_STAT := by
      rw [show BitVec.ofNat 32 0 = 0#32 from rfl, BitVec.not_zero, BitVec.and_allOnes, BitVec.and_zero, BitVec.or_zero]
    rw [hmask]
    exact hs
  · exact (bit_wr_other _ _ _ _ _ fun h => hw h.symm).trans hs

theorem bootArtwork_ready {d : Dev} (j : Option ImgJob) (hs : HwReady d) : HwReady (d.bootArtwork j) := by
  cases j with
  | none => exact hs
  | some j =>
    have hwrites : HwReady (d.each (d.bootable (imgWrites j.bytes)) fun d w =>
        d.wr w.1 ((d.rd w.1 &&& ~~~BitVec.ofNat 32 ((regRow w.1).elim 0 RegRow.com)) |||
          (w.2 &&& BitVec.ofNat 32 ((regRow w.1).elim 0 RegRow.com)))) := by
      unfold Dev.each
      exact List.foldlRecOn (motive := HwReady) _ _ hs fun e he w _ => maskedWrite_ready w he
    unfold Dev.bootArtwork
    dsimp only
    generalize (d.each _ _ : Dev) = e at *
    refine (bit_setBit_other _ _ _ _ _ _ (by decide)).trans ?_
    exact (bit_setBit_ne _ _ _ _ _ (by decide) (by decide)).trans hwrites

theorem burnEach_ready {d : Dev} (js : List ImgJob) (res : Nat) (hs : HwReady d) : HwReady (d.each js fun d j => d.imageBurn j res) := by
  unfold Dev.each
  exact List.foldlRecOn (motive := HwReady) _ _ hs fun e he j _ => (bit_of_rd _ _ _ _ ((imageBurn_spec e j res).1 _ hwStat_reg)).trans he

/-- The device once boot has the images' settings, before the end of the boot code. -/
def Dev.bootSet (s : Dev) (hw com art : Option ImgJob) : Dev × Option ImgJob :=
  let s := s.bootHeartwood hw
  let (s, com) := s.bootSafety com
  let s := (s.setBit GLB_HW_STAT 0 true).ev 0x1009 (bnat hw.isSome) (hw.elim 0 fun j => imgBuild j.bytes)
  let s := s.bootArtwork art
  (s.each (hw.toList ++ art.toList) fun d j => d.imageBurn j (if s.imageStore then 0 else 9), com)

/-- The commissioning image that the first cycle boundary takes. -/
def Dev.bootCommits (s : Dev) (com : Option ImgJob) : Dev :=
  match com with
  | none => s
  | some j => ({ s with glade.job := some { j with wait := 1 } } : Dev).imgStat 3 0 j.bytes

/-- The end of the boot code: it waits no more, and the panel comes up. -/
def Dev.bootEnds (s : Dev) : Dev := ({ s with glade.waiting := false, glade.held := [] } : Dev).panelBoot s.glade.bootTemp

theorem bootImages_eq (d : Dev) (hw com art : Option ImgJob) :
    d.bootImages hw com art = ((d.bootSet hw com art).1.bootCommits (d.bootSet hw com art).2).bootEnds := rfl

theorem bootSet_ready (d : Dev) (hw com art : Option ImgJob) : HwReady (d.bootSet hw com art).1 := by
  unfold Dev.bootSet
  refine burnEach_ready _ _ (bootArtwork_ready _ ?_)
  exact bit_setBit_same _ _ _ _ (by decide)

theorem bootCommits_ready {d : Dev} (com : Option ImgJob) (hs : HwReady d) : HwReady (d.bootCommits com) := by
  cases com with
  | none => exact hs
  | some j => exact ((Beside.refl ({ d with glade.job := some { j with wait := 1 } } : Dev)).imgStat 3 0 j.bytes).ready hs

theorem bootEnds_beside (d : Dev) : Beside ({ d with glade.waiting := false, glade.held := [] } : Dev) d.bootEnds :=
  (Beside.refl _).panelBoot _

theorem bootImages_ends (d : Dev) (hw com art : Option ImgJob) : (d.bootImages hw com art).bit GLB_HW_STAT 0 = true ∧
    (d.bootImages hw com art).glade.waiting = false ∧ (d.bootImages hw com art).glade.held = [] := by
  have hready := bootCommits_ready (d.bootSet hw com art).2 (bootSet_ready d hw com art)
  rw [bootImages_eq]
  generalize (d.bootSet hw com art).1.bootCommits (d.bootSet hw com art).2 = e at *
  have hend := bootEnds_beside e
  exact ⟨hend.ready hready, (congrArg GladeSt.waiting hend.glade :), (congrArg GladeSt.held hend.glade :)⟩

theorem bootImages_none (d : Dev) : d.bootImages none none none = ((d.setBit GLB_HW_STAT 0 true).ev 0x1009 0 0).bootEnds := rfl

/-! The boot code (R424, R426, R465). -/

/-- The device once the boot code has probed its store. -/
def Dev.bootProbed (s : Dev) (b : BootIn) : Dev :=
  let sel := s.fld RST_STRAP 1 0
  let s := (s.showFuses.ringlogProbe b.nor)
  let s := { s with glade.store := b.store.getD s.glade.store, glade.bootTemp := b.panelTemp }
  (s.setFld GLB_HW_STAT 5 4 sel).setBit GLB_HW_STAT 6 (sel == 1 && b.imgNorOk)

theorem bootProbed_spec (d : Dev) (b : BootIn) : (d.bootProbed b).bit GLB_HW_STAT 0 = d.bit GLB_HW_STAT 0 ∧
    (d.bootProbed b).fld GLB_HW_STAT 5 4 = d.fld RST_STRAP 1 0 ∧
    (d.bootProbed b).bit GLB_HW_STAT 6 = (d.fld RST_STRAP 1 0 == 1 && b.imgNorOk) ∧ (d.bootProbed b).seq.cyc = d.seq.cyc := by
  have hprobe := ((Beside.refl d).showFuses).ringlogProbe b.nor
  have hsel : d.fld RST_STRAP 1 0 < 4 := fld_lt d RST_STRAP 1 0
  unfold Dev.bootProbed
  dsimp only
  generalize d.fld RST_STRAP 1 0 = sel at *
  generalize d.showFuses.ringlogProbe b.nor = e at *
  have hbit : ∀ i, ({ e with glade := { e.glade with store := b.store.getD e.glade.store, bootTemp := b.panelTemp } } : Dev).bit GLB_HW_STAT i =
      d.bit GLB_HW_STAT i := fun i => bit_of_rd e d _ _ (hprobe.regs _ hwStat_reg)
  have hcyc : ({ e with glade := { e.glade with store := b.store.getD e.glade.store, bootTemp := b.panelTemp } } : Dev).seq.cyc = d.seq.cyc := hprobe.cyc
  generalize ({ e with glade := { e.glade with store := b.store.getD e.glade.store, bootTemp := b.panelTemp } } : Dev) = x at *
  refine ⟨?_, ?_, bit_setBit_same _ _ _ _ (by decide), hcyc⟩
  · rw [bit_setBit_ne _ _ _ _ _ (by decide) (by decide), bit_setFld_ne _ _ _ _ _ _ (by decide) (by decide) (by decide), hbit]
  · rw [fld_setBit_ne _ _ _ _ _ _ (by decide) (by decide), fld_setFld_same _ _ _ _ _ (by decide) (by decide)]
    exact Nat.mod_eq_of_lt hsel

section
variable {s : State}

theorem glade_waits (hung : s.glade.hung = true) (b : BootIn) (cert : Bool) (ts : List Int) (mv : List Nat) (m : Fin 12) (high : Bool)
    (c : Instr) (hc : c ∈ [.gladeBoot b, .hostWaitExpiry, .attestationRequest cert, .attestationReport, .dieTempSample ts,
      .supplySample mv, .supplyWindowFault m high]) : NoEffect c s := by
  simp only [List.mem_cons, List.not_mem_nil, or_false] at hc
  rcases hc with rfl | rfl | rfl | rfl | rfl | rfl | rfl <;> exact noEffect_of_done rfl (byGlade_hung _ hung)

theorem gladeBoot_none (b : BootIn) (h : s.bit GLB_HW_STAT 0 = true ∨ s.glade.waiting = true ∨ s.bit RST_DOM_STAT 1 = false) :
    NoEffect (.gladeBoot b) s := by
  refine noEffect_of_done rfl (byGlade_same _ (if_pos ?_))
  rcases h with h | h | h <;> rw [h] <;> simp

/-- A boot code that runs (R426). -/
theorem gladeBoot_runs (b : BootIn) (hung : s.glade.hung = false) (hfirst : s.bit GLB_HW_STAT 0 = false) (hidle : s.glade.waiting = false)
    (hfree : s.bit RST_DOM_STAT 1 = true) : ∃ e, s.toDev.byGlade (fun d => d.gladeBoot b) =
      if s.fld RST_STRAP 1 0 = 2 then { s.toDev.bootProbed b with glade.waiting := true, glade.held := [], glade.waitAt := (s.toDev.bootProbed b).seq.cyc }
      else if (s.toDev.bootProbed b).imageStore then e else (s.toDev.bootProbed b).bootImages none none none := by
  rw [byGlade_free _ hung]
  unfold Dev.gladeBoot
  rw [if_neg (by rw [hfirst, hidle, hfree]; decide)]
  exact ⟨_, rfl⟩

theorem gladeBoot_host (b : BootIn) (hung : s.glade.hung = false) (hfirst : s.bit GLB_HW_STAT 0 = false) (hidle : s.glade.waiting = false)
    (hfree : s.bit RST_DOM_STAT 1 = true) (hsel : s.fld RST_STRAP 1 0 = 2) : Answers (.gladeBoot b) s fun t =>
      t.glade.waiting = true ∧ t.glade.held = [] ∧ t.glade.waitAt = s.seq.cyc ∧ t.bit GLB_HW_STAT 0 = false ∧ t.fld GLB_HW_STAT 5 4 = 2 := by
  obtain ⟨e, hdone⟩ := gladeBoot_runs b hung hfirst hidle hfree
  rw [if_pos hsel] at hdone
  obtain ⟨h0, h54, -, hcyc⟩ := bootProbed_spec s.toDev b
  generalize s.toDev.bootProbed b = d at *
  refine answers_of_done (congrArg (done s) hdone) ⟨(congrArg GladeSt.waiting (settle_glade _) :), (congrArg GladeSt.held (settle_glade _) :),
    (congrArg GladeSt.waitAt (settle_glade _)).trans hcyc, ?_, ?_⟩
  · exact (settle_bit _ _ _ (by decide) (by decide)).trans (h0.trans hfirst)
  · exact (settle_fld _ _ _ _ (by decide) (by decide)).trans (h54.trans hsel)

/-- Boot without a store: it ends with the defaults (R424, R426). -/
theorem bootDefaults_spec (d : Dev) : (d.bootImages none none none).glade.waiting = false ∧
    (d.bootImages none none none).bit GLB_HW_STAT 0 = true ∧
    (d.bootImages none none none).fld GLB_HW_STAT 5 4 = d.fld GLB_HW_STAT 5 4 ∧
    (d.bootImages none none none).bit GLB_HW_STAT 6 = d.bit GLB_HW_STAT 6 ∧
    ∃ e, e ∈ (d.bootImages none none none).log.raised ∧ e.code = 0x1009 ∧ e.p1 = 0#32 := by
  obtain ⟨hready, hidle, -⟩ := bootImages_ends d none none none
  refine ⟨hidle, hready, ?_⟩
  rw [bootImages_none]
  have hset : ((d.setBit GLB_HW_STAT 0 true).ev 0x1009 0 0).fld GLB_HW_STAT 5 4 = d.fld GLB_HW_STAT 5 4 ∧
      ((d.setBit GLB_HW_STAT 0 true).ev 0x1009 0 0).bit GLB_HW_STAT 6 = d.bit GLB_HW_STAT 6 := by
    refine ⟨?_, ?_⟩
    · rw [ev_fld, fld_setBit_ne _ _ _ _ _ _ (by decide) (by decide)]
    · rw [ev_bit, bit_setBit_ne _ _ _ _ _ (by decide) (by decide)]
  have hevent : ∃ e, e ∈ ((d.setBit GLB_HW_STAT 0 true).ev 0x1009 0 0).log.raised ∧ e.code = 0x1009 ∧ e.p1 = 0#32 :=
    ⟨_, List.mem_append_right _ (List.mem_singleton_self _), rfl, rfl⟩
  generalize (d.setBit GLB_HW_STAT 0 true).ev 0x1009 0 0 = x at *
  have hend := bootEnds_beside x
  obtain ⟨e, he, hcode, hp⟩ := hevent
  exact ⟨(fld_of_rd _ x _ _ _ (hend.regs _ hwStat_reg)).trans hset.1, (bit_of_rd _ x _ _ (hend.regs _ hwStat_reg)).trans hset.2,
    e, hend.event he, hcode, hp⟩

theorem gladeBoot_defaults (b : BootIn) (hung : s.glade.hung = false) (hfirst : s.bit GLB_HW_STAT 0 = false) (hidle : s.glade.waiting = false)
    (hfree : s.bit RST_DOM_STAT 1 = true) (hsel : s.fld RST_STRAP 1 0 ≠ 2) (hstore : s.fld RST_STRAP 1 0 ≠ 1 ∨ b.imgNorOk = false) :
    Answers (.gladeBoot b) s fun t =>
          t.glade.waiting = false ∧ t.bit GLB_HW_STAT 0 = true ∧ t.fld GLB_HW_STAT 5 4 = s.fld RST_STRAP 1 0 ∧
          t.bit GLB_HW_STAT 6 = false ∧ ∃ e, e ∈ t.log.raised ∧ e.code = 0x1009 ∧ e.p1 = 0#32 := by
  obtain ⟨e, hdone⟩ := gladeBoot_runs b hung hfirst hidle hfree
  obtain ⟨-, h54, h6, -⟩ := bootProbed_spec s.toDev b
  have hno : (s.fld RST_STRAP 1 0 == 1 && b.imgNorOk) = false := by
    rcases hstore with h | h
    · rw [beq_eq_false_iff_ne.mpr h, Bool.false_and]
    · rw [h, Bool.and_false]
  rw [hno] at h6
  generalize s.toDev.bootProbed b = d at *
  rw [if_neg hsel, if_neg (by unfold Dev.imageStore; rw [h6, Bool.and_false]; decide)] at hdone
  obtain ⟨hwaits, hready, hfld, hbit, x, hx, hcode, hp⟩ := bootDefaults_spec d
  generalize d.bootImages none none none = y at *
  refine answers_of_done (congrArg (done s) hdone) ⟨(congrArg GladeSt.waiting (settle_glade _)).trans hwaits, ?_, ?_, ?_, x, ?_, hcode, hp⟩
  · exact (settle_bit _ _ _ (by decide) (by decide)).trans hready
  · exact (settle_fld _ _ _ _ (by decide) (by decide)).trans (hfld.trans h54)
  · exact (settle_bit _ _ _ (by decide) (by decide)).trans (hbit.trans h6)
  · rw [settle_log]
    exact hx

theorem hostWait_ends (hung : s.glade.hung = false) (hwait : s.glade.waiting = true) (hover : s.spanOver s.glade.waitAt 30000 = true) :
    Answers .hostWaitExpiry s fun t => t.glade.waiting = false ∧ t.glade.held = [] ∧ t.bit GLB_HW_STAT 0 = true := by
  have hdone : ∃ hw com art, s.toDev.byGlade Dev.hostWaitEnd = s.toDev.bootImages hw com art := by
    rw [byGlade_free _ hung]
    exact ⟨_, _, _, if_pos (by rw [hwait, hover]; rfl)⟩
  obtain ⟨hw, com, art, hdone⟩ := hdone
  obtain ⟨hready, hidle, hheld⟩ := bootImages_ends s.toDev hw com art
  generalize s.toDev.bootImages hw com art = d at *
  exact answers_of_done (congrArg (done s) hdone) ⟨(congrArg GladeSt.waiting (settle_glade _)).trans hidle,
    (congrArg GladeSt.held (settle_glade _)).trans hheld, (settle_bit _ _ _ (by decide) (by decide)).trans hready⟩

theorem hostWait_none (h : s.glade.waiting = false ∨ s.spanOver s.glade.waitAt 30000 = false) : NoEffect .hostWaitExpiry s := by
  refine noEffect_of_done rfl (byGlade_same _ (if_neg ?_))
  rcases h with h | h <;> rw [h] <;> simp

/-! Attestation (R428). -/

theorem attRequest_held (cert : Bool) (hung : s.glade.hung = false) (hfree : s.glade.att = none) : Answers (.attestationRequest cert) s fun t =>
      NoEvent s t ∧ Framed [] s t (blocks { s.toDev with
          glade.att := some (cert, wordBytes ((List.range 4).map fun k => s.rd (GLB_ATT_NONCE k))) }) :=
  answers_of_done (congrArg (done s) ((byGlade_free (fun d => d.attRequest cert) hung).trans (if_neg (by rw [hfree]; decide))))
    ⟨noEvent_after rfl, ((Effect.refl [] s.toDev).glade _).framed⟩

theorem attRequest_busy (cert : Bool) (hbusy : s.glade.att ≠ none) : NoEffect (.attestationRequest cert) s :=
  noEffect_of_done rfl (byGlade_same _ (if_pos (Option.isSome_iff_ne_none.mpr hbusy)))

/-- The device as its signed report has been sent. -/
def Dev.attSigned (s : Dev) (nonce sig : List Byte) : Dev :=
  (({ s with glade.att := none } : Dev).reportRouted 7 0 (s.attBytes nonce ++ sig)).spend

/-- The certificate sent, and the report's event (R428, R446). -/
def Dev.attEnded (s : Dev) (cert : Bool) (nonce : List Byte) : Dev :=
  ((if cert then s.reportRouted 8 0 s.certificate else s).ev 0x100D 0 (u32 nonce 0)).raise 0x78

theorem attReport_eq {d : Dev} {cert : Bool} {nonce : List Byte} (h : d.glade.att = some (cert, nonce)) :
    ∃ sig, sig.length = 96 ∧ d.attReport = (d.attSigned nonce sig).attEnded cert nonce := by
  refine ⟨(List.range 96).map (Config.signatureByte d.seq.freeCtr), by rw [List.length_map, List.length_range], ?_⟩
  unfold Dev.attReport
  rw [h]
  rfl

theorem attSigned_beside (d : Dev) (nonce sig : List Byte) : Beside ({ d with glade.att := none } : Dev) (d.attSigned nonce sig) :=
  (Beside.reportRouted (Beside.refl _) _ _ _).spend

/-- The last report is the signed one, where no certificate follows. -/
theorem attSigned_reported {nonce sig : List Byte} {p : Nat} (hr : s.routed 7 = some p) :
    (s.toDev.attSigned nonce sig).host = (Dev.report { s.toDev with glade.att := none } p 7 0 (s.attBytes nonce ++ sig)).host ∧
    ∀ a, (s.toDev.attSigned nonce sig).rd a = (Dev.report { s.toDev with glade.att := none } p 7 0 (s.attBytes nonce ++ sig)).rd a := by
  have hrouted : Dev.reportRouted { s.toDev with glade.att := none } 7 0 (s.attBytes nonce ++ sig) =
      Dev.report { s.toDev with glade.att := none } p 7 0 (s.attBytes nonce ++ sig) := by
    unfold Dev.reportRouted
    rw [show Dev.routed { s.toDev with glade.att := none } 7 = some p from hr]
  unfold Dev.attSigned
  rw [hrouted]
  exact ⟨rfl, fun _ => rfl⟩

theorem attEnded_spec (d : Dev) (cert : Bool) (nonce : List Byte) : (d.attEnded cert nonce).glade = d.glade ∧
    (∃ e, e ∈ (d.attEnded cert nonce).log.raised ∧ e.code = 0x100D ∧ e.p2 = BitVec.ofNat 32 (u32 nonce 0)) ∧
    (cert = false → (d.attEnded cert nonce).host = d.host ∧
      ∀ a, a ≠ HOST_EVT_PEND 3 → (d.attEnded cert nonce).rd a = d.rd a) := by
  have hsent := Beside.ite (cert = true) ((Beside.refl d).reportRouted 8 0 d.certificate) (Beside.refl d)
  have hnone : cert = false → (if cert then d.reportRouted 8 0 d.certificate else d) = d := fun h => if_neg (by rw [h]; decide)
  unfold Dev.attEnded
  generalize (if cert then d.reportRouted 8 0 d.certificate else d) = x at *
  refine ⟨hsent.glade, ⟨_, List.mem_append_right _ (List.mem_singleton_self _), rfl, rfl⟩, fun hc => ?_⟩
  rw [hnone hc]
  exact ⟨rfl, fun a ha => (rd_raise_ne _ _ _ ha).trans (ev_rd _ _ _ _ _)⟩

theorem attReport_sent {cert : Bool} {nonce : List Byte} (hung : s.glade.hung = false) (h : s.glade.att = some (cert, nonce)) :
    Answers .attestationReport s fun t => t.glade.att = none ∧
        (∃ e, e ∈ t.log.raised ∧ e.code = 0x100D ∧ e.p2 = BitVec.ofNat 32 (u32 nonce 0)) ∧
        (∀ p, cert = false → s.routed 7 = some p → ∃ sig, sig.length = 96 ∧ Reported s t p (s.attBytes nonce ++ sig)) := by
  obtain ⟨sig, hsig, hreport⟩ := attReport_eq h
  have hdone := (byGlade_free Dev.attReport hung).trans hreport
  have hbeside := attSigned_beside s.toDev nonce sig
  have hlast := fun p (hr : s.routed 7 = some p) => attSigned_reported (nonce := nonce) (sig := sig) hr
  generalize s.toDev.attSigned nonce sig = d at *
  obtain ⟨hglade, ⟨e, he, hcode, hp2⟩, hone⟩ := attEnded_spec d cert nonce
  generalize d.attEnded cert nonce = x at *
  refine answers_of_done (congrArg (done s) hdone) ⟨?_, ⟨e, ?_, hcode, hp2⟩, fun p hc hr => ⟨sig, hsig, ?_⟩⟩
  · exact (congrArg GladeSt.att ((settle_glade _).trans (hglade.trans hbeside.glade)) :)
  · rw [settle_log]
    exact he
  · obtain ⟨hhost, hregs⟩ := hone hc
    obtain ⟨hhost', hregs'⟩ := hlast p hr
    have hlt := routed_lt hr
    refine reported_after (s := { s with glade.att := none }) hlt 7 0 (s.attBytes nonce ++ sig) (hhost.trans hhost') fun a ha =>
      (hregs a ?_).trans (hregs' a)
    rcases ha with rfl | rfl
    · simp only [HOST_REP_PTR, pairWin, HOST_EVT_PEND]
      omega
    · simp only [HOST_LIVE, HOST_EVT_PEND]
      omega

theorem attReport_none (h : s.glade.att = none) : NoEffect .attestationReport s := by
  refine noEffect_of_done rfl (byGlade_same _ ?_)
  unfold Dev.attReport
  rw [h]

end

end Sys2Proof.Machine
end

section
/-! O51, second part: die temperatures and supplies (R416, R417). -/

namespace Sys2Proof.Machine

/-! Die temperatures (R416). -/

/-- A die temperature as its reading shows it, against the limit of the warning. -/
def Dev.tempShown (warn : Int) (ts : List Int) (d : Dev) (n : Nat) : Dev :=
  let t := ts.getD n 0
  let d := d.setFld (GLB_TEMP n) 15 0 (unsigned 16 t)
  if warn < t ∧ !d.bit (GLB_TEMP n) 16 then ((d.setBit (GLB_TEMP n) 16 true).evI 0x100A n t).raise 0x79
  else if t < warn - 16 then d.setBit (GLB_TEMP n) 16 false
  else d

theorem dieTemps_eq (d : Dev) (ts : List Int) :
    d.dieTemps ts = (d.each (List.range 8) (Dev.tempShown (signed 16 (d.fld GLB_TJ_WARN 15 0)) ts)).acqTemp ts := rfl

/-- The warning of a die sensor that reads x, where it had the bit b (R416). -/
def warned (warn x : Int) (b : Bool) : Bool := if warn < x then true else if x < warn - 16 then false else b

theorem temp_apart (n : Nat) (hn : n < 8) : GLB_TEMP n ≠ HOST_EVT_PEND 3 ∧ ∀ k, k ≠ n → GLB_TEMP k ≠ GLB_TEMP n := by
  simp only [GLB_TEMP, HOST_EVT_PEND]
  exact ⟨by omega, fun k hk => by omega⟩

theorem tempShown_spec (warn : Int) (ts : List Int) (d : Dev) (n : Nat) (hn : n < 8) :
    (d.tempShown warn ts n).fld (GLB_TEMP n) 15 0 = unsigned 16 (ts.getD n 0) % 65536 ∧
    (d.tempShown warn ts n).bit (GLB_TEMP n) 16 = warned warn (ts.getD n 0) (d.bit (GLB_TEMP n) 16) ∧
    ∀ k, k < 8 → k ≠ n → (d.tempShown warn ts n).rd (GLB_TEMP k) = d.rd (GLB_TEMP k) := by
  obtain ⟨hpend, hother⟩ := temp_apart n hn
  have hread : (d.setFld (GLB_TEMP n) 15 0 (unsigned 16 (ts.getD n 0))).fld (GLB_TEMP n) 15 0 = unsigned 16 (ts.getD n 0) % 65536 :=
    fld_setFld_same _ _ _ _ _ (by decide) (by decide)
  have hbit : (d.setFld (GLB_TEMP n) 15 0 (unsigned 16 (ts.getD n 0))).bit (GLB_TEMP n) 16 = d.bit (GLB_TEMP n) 16 :=
    bit_setFld_ne _ _ _ _ _ _ (by decide) (by decide) (by decide)
  have hrest : ∀ k, k ≠ n → (d.setFld (GLB_TEMP n) 15 0 (unsigned 16 (ts.getD n 0))).rd (GLB_TEMP k) = d.rd (GLB_TEMP k) := fun k hk =>
    rd_setFld_ne _ _ _ _ _ _ (hother k hk)
  unfold Dev.tempShown warned
  dsimp only
  generalize d.setFld (GLB_TEMP n) 15 0 (unsigned 16 (ts.getD n 0)) = e at *
  rw [← hbit]
  by_cases habove : warn < ts.getD n 0
  · rw [if_pos habove]
    cases hset : e.bit (GLB_TEMP n) 16
    · rw [if_pos ⟨habove, by simp⟩]
      refine ⟨?_, ?_, fun k hk hkn => ?_⟩
      · rw [fld_raise_other _ _ _ _ _ hpend, fld_of_rd _ (e.setBit (GLB_TEMP n) 16 true) _ _ _ (evI_rd ..),
          fld_setBit_ne _ _ _ _ _ _ (by decide) (by decide), hread]
      · rw [bit_raise_other _ _ _ _ hpend, bit_of_rd _ (e.setBit (GLB_TEMP n) 16 true) _ _ (evI_rd ..),
          bit_setBit_same _ _ _ _ (by decide)]
      · rw [rd_raise_ne _ _ _ (temp_apart k hk).1, evI_rd, rd_setBit_ne _ _ _ _ _ (hother k hkn), hrest k hkn]
    · rw [if_neg (by simp), if_neg (by omega)]
      exact ⟨hread, hset, fun k _ hkn => hrest k hkn⟩
  · rw [if_neg fun h => habove h.1, if_neg habove]
    by_cases hbelow : ts.getD n 0 < warn - 16
    · rw [if_pos hbelow, if_pos hbelow]
      refine ⟨?_, bit_setBit_same _ _ _ _ (by decide), fun k _ hkn => (rd_setBit_ne _ _ _ _ _ (hother k hkn)).trans (hrest k hkn)⟩
      rw [fld_setBit_ne _ _ _ _ _ _ (by decide) (by decide), hread]
    · rw [if_neg hbelow, if_neg hbelow]
      exact ⟨hread, rfl, fun k _ hkn => hrest k hkn⟩

theorem tempsShown_spec (warn : Int) (ts : List Int) (s : Dev) (n : Nat) (hn : n < 8) :
    (s.each (List.range 8) (Dev.tempShown warn ts)).fld (GLB_TEMP n) 15 0 = unsigned 16 (ts.getD n 0) % 65536 ∧
    (s.each (List.range 8) (Dev.tempShown warn ts)).bit (GLB_TEMP n) 16 = warned warn (ts.getD n 0) (s.bit (GLB_TEMP n) 16) := by
  refine (each_range_rec (P := fun k d => (n < k → d.fld (GLB_TEMP n) 15 0 = unsigned 16 (ts.getD n 0) % 65536 ∧
    d.bit (GLB_TEMP n) 16 = warned warn (ts.getD n 0) (s.bit (GLB_TEMP n) 16)) ∧ (k ≤ n → d.rd (GLB_TEMP n) = s.rd (GLB_TEMP n)))
    (s := s) (m := 8) ⟨fun h => absurd h (Nat.not_lt_zero n), fun _ => rfl⟩ ?_).1 hn
  rintro k d hk ⟨hdone, hleft⟩
  obtain ⟨hfld, hbit, hrest⟩ := tempShown_spec warn ts d k hk
  refine ⟨fun hnk => ?_, fun hkn => (hrest n hn (by omega)).trans (hleft (by omega))⟩
  by_cases heq : n = k
  · subst heq
    exact ⟨hfld, by rw [hbit, bit_of_rd _ _ _ _ (hleft (Nat.le_refl n))]⟩
  · have hkept := hrest n hn heq
    obtain ⟨hfld', hbit'⟩ := hdone (by omega)
    exact ⟨(fld_of_rd _ _ _ _ _ hkept).trans hfld', (bit_of_rd _ _ _ _ hkept).trans hbit'⟩

theorem Beside.acqTemp {s d : Dev} (h : Beside s d) (ts : List Int) : Beside s (d.acqTemp ts) := by
  unfold Dev.acqTemp
  dsimp only
  exact Beside.ite _ h (Beside.ev (h.acq _) _ _ _)

section
variable {s : State}

theorem dieTemps_shown (hung : s.glade.hung = false) (ts : List Int) : Answers (.dieTempSample ts) s fun t => ∀ n : Fin 8,
        let x := ts.getD n 0
        let warn := signed 16 (s.fld GLB_TJ_WARN 15 0)
        t.fld (GLB_TEMP n) 15 0 = unsigned 16 x % 65536 ∧
        t.bit (GLB_TEMP n) 16 = (if warn < x then true else if x < warn - 16 then false else s.bit (GLB_TEMP n) 16) := by
  have hdone := (byGlade_free (fun d => d.dieTemps ts) hung).trans (dieTemps_eq s.toDev ts)
  have hshown := tempsShown_spec (signed 16 (s.fld GLB_TJ_WARN 15 0)) ts s.toDev
  generalize s.toDev.each (List.range 8) (Dev.tempShown (signed 16 (s.fld GLB_TJ_WARN 15 0)) ts) = d at *
  refine answers_of_done (congrArg (done s) hdone) fun n => ?_
  obtain ⟨hfld, hbit⟩ := hshown n n.isLt
  have hreg : GladeReg (GLB_TEMP n) ∧ GLB_TEMP n ≠ SAFE_OUT_STAT ∧ GLB_TEMP n ≠ SAFE_STAT := by
    have := n.isLt
    simp only [GladeReg, GLB_TEMP, GLB_IMG_STAT, GLB_OWNER, GLB_RB, SAFE_OUT_STAT, SAFE_STAT]
    omega
  have hkept := ((Beside.refl d).acqTemp ts).regs _ hreg.1
  exact ⟨(settle_fld _ _ _ _ hreg.2.1 hreg.2.2).trans ((fld_of_rd _ _ _ _ _ hkept).trans hfld),
    (settle_bit _ _ _ hreg.2.1 hreg.2.2).trans ((bit_of_rd _ _ _ _ hkept).trans hbit)⟩

end

/-! Supplies (R417). -/

/-- A supply's reading in its register. -/
def Dev.supRead (d : Dev) (mv : List Nat) (m : Nat) : Dev := d.setFld (GLB_SUP m) 15 0 (min 65535 (mv.getD m 0))

/-- The samples outside the window, counted for a supply that reads v. -/
def supCounted (m v n : Nat) : Nat := if supplyInside m v then 0 else min 12 (n + 1)

/-- A supply as its reading shows it. -/
def Dev.supShown (mv : List Nat) (d : Dev) (m : Nat) : Dev :=
  let v := mv.getD m 0
  let d := d.supRead mv m
  let d := { d with glade.supRun := modAt d.glade.supRun m (supCounted m v) }
  if supplyInside m v then d.setFld (GLB_SUP m) 17 16 0 else d

theorem supplies_eq (d : Dev) (mv : List Nat) : d.supplies mv = d.each (List.range 12) (Dev.supShown mv) := rfl

theorem sup_apart (n : Nat) (hn : n < 12) : GLB_SUP n ≠ SAFE_OUT_STAT ∧ GLB_SUP n ≠ SAFE_STAT ∧ GLB_SUP n ≠ HOST_EVT_PEND 3 ∧
    ∀ k, k ≠ n → GLB_SUP k ≠ GLB_SUP n := by
  simp only [GLB_SUP, HOST_EVT_PEND, SAFE_OUT_STAT, SAFE_STAT]
  exact ⟨by omega, by omega, by omega, fun k hk => by omega⟩

/-- What the samples of all supplies keep. -/
structure SupKept (s d : Dev) : Prop where
  effect : Effect ((List.range 12).map GLB_SUP) s d (blocks { s with glade.supRun := d.glade.supRun })
  raised : d.log = s.log
  length : d.glade.supRun.length = s.glade.supRun.length

theorem supShown_kept {s d : Dev} (mv : List Nat) (m : Nat) (hm : m < 12) (h : SupKept s d) : SupKept s (d.supShown mv m) := by
  obtain ⟨heff, hlog, hlen⟩ := h
  have hmem : GLB_SUP m ∈ (List.range 12).map GLB_SUP := List.mem_map_of_mem (List.mem_range.mpr hm)
  have hglade : d.glade = { s.glade with supRun := d.glade.supRun } := (congrArg Dev.glade heff.engines :)
  have hread : Effect ((List.range 12).map GLB_SUP) s (d.supRead mv m) (blocks { s with glade.supRun := d.glade.supRun }) :=
    heff.setFld hmem 15 0 _
  have hkept : (d.supRead mv m).log = d.log ∧ (d.supRead mv m).glade = d.glade := ⟨setFld_log _ _ _ _ _, rfl⟩
  unfold Dev.supShown
  dsimp only
  generalize d.supRead mv m = e at *
  rw [hkept.2]
  have hrun := hread.glade { d.glade with supRun := modAt d.glade.supRun m (supCounted m (mv.getD m 0)) }
  rw [hglade] at hrun ⊢
  split
  · exact ⟨hrun.setFld hmem 17 16 0, hkept.1.trans hlog, (length_modAt _ _ _).trans hlen⟩
  · exact ⟨hrun, hkept.1.trans hlog, (length_modAt _ _ _).trans hlen⟩

/-- What a sample shows of its supply, from the reading v, the flags and the count before. -/
def SupShows (s d : Dev) (mv : List Nat) (m : Nat) : Prop :=
  d.fld (GLB_SUP m) 15 0 = min 65535 (mv.getD m 0) ∧
  d.fld (GLB_SUP m) 17 16 = (if supplyInside m (mv.getD m 0) then 0 else s.fld (GLB_SUP m) 17 16) ∧
  (m < s.glade.supRun.length → d.glade.supRun.getD m 0 = supCounted m (mv.getD m 0) (s.glade.supRun.getD m 0))

theorem supShown_shows (d : Dev) (mv : List Nat) (m : Nat) (hm : m < 12) : SupShows d (d.supShown mv m) mv m ∧
    ∀ k, k ≠ m → (d.supShown mv m).rd (GLB_SUP k) = d.rd (GLB_SUP k) ∧
      (d.supShown mv m).glade.supRun.getD k 0 = d.glade.supRun.getD k 0 := by
  obtain ⟨-, -, -, hother⟩ := sup_apart m hm
  have hv : (d.supRead mv m).fld (GLB_SUP m) 15 0 = min 65535 (mv.getD m 0) := by
    refine (fld_setFld_same _ _ _ _ _ (by decide) (by decide)).trans (Nat.mod_eq_of_lt ?_)
    omega
  have hflags : (d.supRead mv m).fld (GLB_SUP m) 17 16 = d.fld (GLB_SUP m) 17 16 :=
    fld_setFld_ne _ _ _ _ _ _ _ (by decide) (by decide) (by decide)
  have hrest : ∀ k, k ≠ m → (d.supRead mv m).rd (GLB_SUP k) = d.rd (GLB_SUP k) := fun k hk => rd_setFld_ne _ _ _ _ _ _ (hother k hk)
  have hglade : (d.supRead mv m).glade = d.glade := rfl
  unfold SupShows Dev.supShown
  dsimp only
  generalize d.supRead mv m = e at *
  rw [hglade]
  have hrun : m < d.glade.supRun.length → (modAt d.glade.supRun m (supCounted m (mv.getD m 0))).getD m 0 =
      supCounted m (mv.getD m 0) (d.glade.supRun.getD m 0) := getD_modAt_same _ _ _ _
  have hrunRest : ∀ k, k ≠ m → (modAt d.glade.supRun m (supCounted m (mv.getD m 0))).getD k 0 = d.glade.supRun.getD k 0 := fun k hk =>
    getD_modAt_ne _ _ _ _ _ hk
  generalize modAt d.glade.supRun m (supCounted m (mv.getD m 0)) = runs at *
  have hread : ∀ a, ({ e with glade := { d.glade with supRun := runs } } : Dev).rd a = e.rd a := fun _ => rfl
  have hfld : ∀ a hi lo, ({ e with glade := { d.glade with supRun := runs } } : Dev).fld a hi lo = e.fld a hi lo := fun _ _ _ => rfl
  have hrun' : ({ e with glade := { d.glade with supRun := runs } } : Dev).glade.supRun = runs := rfl
  generalize ({ e with glade := { d.glade with supRun := runs } } : Dev) = x at *
  split
  · refine ⟨⟨?_, ?_, fun hlen => ?_⟩, fun k hk => ⟨?_, ?_⟩⟩
    · rw [fld_setFld_ne _ _ _ _ _ _ _ (by decide) (by decide) (by decide), hfld, hv]
    · rw [fld_setFld_same _ _ _ _ _ (by decide) (by decide), Nat.zero_mod]
    · exact (congrArg (·.getD m 0) hrun').trans (hrun hlen)
    · rw [rd_setFld_ne _ _ _ _ _ _ (hother k hk), hread, hrest k hk]
    · exact (congrArg (·.getD k 0) hrun').trans (hrunRest k hk)
  · exact ⟨⟨(hfld _ _ _).trans hv, (hfld _ _ _).trans hflags, fun hlen => (congrArg (·.getD m 0) hrun').trans (hrun hlen)⟩,
      fun k hk => ⟨(hread _).trans (hrest k hk), (congrArg (·.getD k 0) hrun').trans (hrunRest k hk)⟩⟩

theorem supplies_kept (s : Dev) (mv : List Nat) : SupKept s (s.supplies mv) := by
  rw [supplies_eq]
  exact each_range_rec (P := fun _ d => SupKept s d) ⟨Effect.refl _ s, rfl, rfl⟩ fun k d hk hd => supShown_kept mv k hk hd

theorem supplies_show (s : Dev) (mv : List Nat) (m : Nat) (hm : m < 12) : SupShows s (s.supplies mv) mv m := by
  rw [supplies_eq]
  refine (each_range_rec (P := fun k d => (m < k → SupShows s d mv m) ∧ d.glade.supRun.length = s.glade.supRun.length ∧
    (k ≤ m → d.rd (GLB_SUP m) = s.rd (GLB_SUP m) ∧ d.glade.supRun.getD m 0 = s.glade.supRun.getD m 0))
    (s := s) (m := 12) ⟨fun h => absurd h (Nat.not_lt_zero m), rfl, fun _ => ⟨rfl, rfl⟩⟩ ?_).1 hm
  rintro k d hk ⟨hdone, hlen, hleft⟩
  obtain ⟨⟨hv, hflags, hrun⟩, hrest⟩ := supShown_shows d mv k hk
  have hlen' : (d.supShown mv k).glade.supRun.length = s.glade.supRun.length :=
    (supShown_kept mv k hk (s := d) ⟨Effect.refl _ d, rfl, rfl⟩).length.trans hlen
  refine ⟨fun hmk => ?_, hlen', fun hkm => ⟨(hrest m (by omega)).1.trans (hleft (by omega)).1, (hrest m (by omega)).2.trans (hleft (by omega)).2⟩⟩
  by_cases heq : m = k
  · subst heq
    obtain ⟨hrd, hcount⟩ := hleft (Nat.le_refl m)
    exact ⟨hv, by rw [hflags, fld_of_rd _ _ _ _ _ hrd], fun hm' => by rw [hrun (hlen ▸ hm'), hcount]⟩
  · obtain ⟨hrd, hcount⟩ := hrest m heq
    obtain ⟨hv', hflags', hrun'⟩ := hdone (by omega)
    exact ⟨(fld_of_rd _ _ _ _ _ hrd).trans hv', (fld_of_rd _ _ _ _ _ hrd).trans hflags', fun hm' => hcount.trans (hrun' hm')⟩

section
variable {s : State}

theorem supplies_sampled (hung : s.glade.hung = false) (mv : List Nat) : Answers (.supplySample mv) s fun t =>
        Framed ((List.range 12).map GLB_SUP) s t (blocks { s.toDev with glade.supRun := t.glade.supRun }) ∧ NoEvent s t ∧
        ∀ m : Fin 12, t.fld (GLB_SUP m) 15 0 = min 65535 (mv.getD m 0) ∧
          t.fld (GLB_SUP m) 17 16 = (if supplyInside m (mv.getD m 0) then 0 else s.fld (GLB_SUP m) 17 16) ∧
          (m.val < s.glade.supRun.length → t.glade.supRun.getD m 0 =
            if supplyInside m (mv.getD m 0) then 0 else min 12 (s.glade.supRun.getD m 0 + 1)) := by
  obtain ⟨heff, hlog, -⟩ := supplies_kept s.toDev mv
  have hshows := supplies_show s.toDev mv
  have hdone := byGlade_free (fun d => d.supplies mv) hung
  generalize s.toDev.supplies mv = d at *
  have hrun : (s.after d).glade.supRun = d.glade.supRun := congrArg GladeSt.supRun (settle_glade _)
  refine answers_of_done (congrArg (done s) hdone) ⟨?_, noEvent_after (congrArg LogSt.raised hlog), fun m => ?_⟩
  · rw [hrun]
    exact heff.framed
  · obtain ⟨hout, hstat, -, -⟩ := sup_apart m m.isLt
    obtain ⟨hv, hflags, hcount⟩ := hshows m m.isLt
    exact ⟨(settle_fld _ _ _ _ hout hstat).trans hv, (settle_fld _ _ _ _ hout hstat).trans hflags,
      fun hm => (congrArg (·.getD m.val 0) hrun).trans (hcount hm)⟩

theorem supplyFault_set (m : Fin 12) (high : Bool) (hung : s.glade.hung = false)
    (hnew : s.bit (GLB_SUP m) (if high then 17 else 16) = false) (hlast : 12 ≤ s.glade.supRun.getD m 0)
    (hside : high = decide (supplyNominal m < s.fld (GLB_SUP m) 15 0)) : Answers (.supplyWindowFault m high) s fun t =>
        t.bit (GLB_SUP m) (if high then 17 else 16) = true ∧
        OneEvent s t 0x100B (BitVec.ofNat 32 m) (BitVec.ofNat 32 (s.fld (GLB_SUP m) 15 0)) ∧
        OnlyRegs [GLB_SUP m, HOST_EVT_PEND 3] s t := by
  obtain ⟨hout, hstat, hpend, -⟩ := sup_apart m m.isLt
  have hdone : s.toDev.byGlade (fun d => d.supplyFault m high) =
      ((s.toDev.setBit (GLB_SUP m) (if high then 17 else 16) true).ev 0x100B m (s.fld (GLB_SUP m) 15 0)).raise 0x79 := by
    rw [byGlade_free _ hung]
    exact if_neg (by rw [hnew, decide_eq_false (Nat.not_lt.mpr hlast), ← hside]; simp)
  have hbit : (if high then 17 else 16) < 32 := by cases high <;> decide
  have hset := bit_setBit_same s.toDev (GLB_SUP m) (if high then 17 else 16) true hbit
  have heff := (Effect.refl [GLB_SUP m, HOST_EVT_PEND 3] s.toDev).setBit (a := GLB_SUP m) (by simp) (if high then 17 else 16) true
  have hlog : (s.toDev.setBit (GLB_SUP m) (if high then 17 else 16) true).log = s.log := setBit_log _ _ _ _
  generalize s.toDev.setBit (GLB_SUP m) (if high then 17 else 16) true = d at *
  refine answers_of_done (congrArg (done s) hdone) ⟨?_, oneEvent_ev (d := d) rfl (congrArg LogSt.raised hlog), ?_⟩
  · exact (settle_bit _ _ _ hout hstat).trans ((bit_raise_other _ _ _ _ hpend).trans ((ev_bit _ _ _ _ _ _).trans hset))
  · exact ((heff.ev _ _ _).raise (n := 0x79) (by simp)).framed

theorem supplyFault_none (m : Fin 12) (high : Bool) (h : s.bit (GLB_SUP m) (if high then 17 else 16) = true ∨ s.glade.supRun.getD m 0 < 12 ∨
    high ≠ decide (supplyNominal m < s.fld (GLB_SUP m) 15 0)) : NoEffect (.supplyWindowFault m high) s := by
  refine noEffect_of_done rfl (byGlade_same _ (if_pos ?_))
  simp only [Bool.or_eq_true, decide_eq_true_eq, bne_iff_ne, or_assoc]
  exact h

end

/-- Settles O51: boot, attestation, die temperatures and supplies. -/
theorem bootMonitorsAndAttestation : Obligations.BootMonitorsAndAttestation := by
  unfold Obligations.BootMonitorsAndAttestation
  exact ⟨fun s => ⟨glade_waits, gladeBoot_none, fun b hung hfirst hidle hfree => ⟨gladeBoot_host b hung hfirst hidle hfree,
      gladeBoot_defaults b hung hfirst hidle hfree⟩, hostWait_ends, hostWait_none, attRequest_held, attRequest_busy, fun _ _ => attReport_sent,
      attReport_none⟩,
    fun s hung => ⟨dieTemps_shown hung, supplies_sampled hung, fun m high => supplyFault_set m high hung, supplyFault_none⟩⟩

end Sys2Proof.Machine
end

section
/-! O52: owner keys, rollback fuses and saved images. -/

namespace Sys2Proof.Machine

section
variable {s : State}

theorem owners_wait (hung : s.glade.hung = true) (k : Fin 4) (ok : Bool) (n : Nat) (c : Instr)
    (hc : c ∈ [.ownerEnrol k ok, .ownerRevoke k ok, .rollbackBurn, .imageSave ok n]) : NoEffect c s := by
  simp only [List.mem_cons, List.not_mem_nil, or_false] at hc
  rcases hc with rfl | rfl | rfl | rfl <;> exact noEffect_of_done rfl (byGlade_hung _ hung)

/-! Enrolments and revocations (R419). -/

/-- The device after the session check of an owner command. -/
def Dev.ownerSession (d : Dev) : Dev := if d.sessLevel 4 then d.sessUse else d

theorem ownerSession_spec (d : Dev) : (∃ at_, d.ownerSession = { d with glade.idleAt := at_ }) ∧
    ∀ l, Effect l d d.ownerSession (blocks d.ownerSession) := by
  unfold Dev.ownerSession
  split
  · exact ⟨⟨d.seq.cyc, rfl⟩, fun l => sessUse_effect l d⟩
  · exact ⟨⟨d.glade.idleAt, rfl⟩, fun l => Effect.refl l d⟩

/-- The result of an owner command stands in GLB_ENROL_STAT, and its session's idle time has restarted. -/
theorem enrolStat_after {d b : Dev} {r : Nat} (hr : r < 16) (hd : Effect [GLB_ENROL_STAT] s.toDev d b) (hlog : d.log = s.log) :
    (s.after (d.setFld GLB_ENROL_STAT 3 0 r)).fld GLB_ENROL_STAT 3 0 = r ∧ Framed [GLB_ENROL_STAT] s (s.after (d.setFld GLB_ENROL_STAT 3 0 r)) b ∧
      NoEvent s (s.after (d.setFld GLB_ENROL_STAT 3 0 r)) :=
  ⟨(settle_fld _ _ _ _ (by decide) (by decide)).trans ((fld_setFld_same _ _ _ _ _ (by decide) (by decide)).trans (Nat.mod_eq_of_lt hr)),
    (hd.setFld (List.mem_singleton_self _) 3 0 r).framed, noEvent_after (congrArg LogSt.raised hlog)⟩

theorem ownerSession_log (d : Dev) : d.ownerSession.log = d.log := by
  obtain ⟨⟨_, h⟩, -⟩ := ownerSession_spec d
  rw [h]

/-- The fuses as they are burned for an owner slot, and shown, with the command's result and event. -/
def Dev.fusesBurned (d : Dev) (k why : Nat) : Dev := (d.showFuses.setFld GLB_ENROL_STAT 3 0 0).ev 0x100C k why

theorem fusesBurned_after {d : Dev} (k why : Nat) (hlog : d.log.raised = s.log.raised) : (s.after (d.fusesBurned k why)).glade = d.glade ∧
    (s.after (d.fusesBurned k why)).fld GLB_ENROL_STAT 3 0 = 0 ∧
    OneEvent s (s.after (d.fusesBurned k why)) 0x100C (BitVec.ofNat 32 k) (BitVec.ofNat 32 why) ∧
    ∀ a, a ∉ [GLB_OWNER, GLB_RB, GLB_ENROL_STAT] → a ≠ SAFE_OUT_STAT → a ≠ SAFE_STAT → (s.after (d.fusesBurned k why)).rd a = d.rd a := by
  unfold Dev.fusesBurned
  refine ⟨(settle_glade _).trans rfl, ?_, oneEvent_ev (d := d.showFuses.setFld GLB_ENROL_STAT 3 0 0) rfl hlog, fun a ha hout hstat => ?_⟩
  · refine (settle_fld _ _ _ _ (by decide) (by decide)).trans ?_
    rw [ev_fld, fld_setFld_same _ _ _ _ _ (by decide) (by decide), Nat.zero_mod]
  · simp only [List.mem_cons, List.not_mem_nil, or_false, not_or] at ha
    obtain ⟨howner, hrb, henrol⟩ := ha
    rw [settle_rd _ _ hout hstat, ev_rd, rd_setFld_ne _ _ _ _ _ _ henrol]
    exact (rd_wrN_ne _ _ _ _ hrb).trans (rd_wrN_ne _ _ _ _ howner)

theorem enrolOwner_eq (d : Dev) (k : Nat) (ok : Bool) : d.enrolOwner k ok =
    if d.enrolRefused k ≠ 0 then d.ownerSession.setFld GLB_ENROL_STAT 3 0 (d.enrolRefused k)
    else if !ok then d.ownerSession.setFld GLB_ENROL_STAT 3 0 5
    else Dev.fusesBurned { d.ownerSession with
      glade.owner := setAt d.ownerSession.glade.owner k ((wordBytes d.ownerSession.glade.enrol).take 48, (wordBytes d.ownerSession.glade.enrol).drop 48),
      glade.enrolled := d.ownerSession.glade.enrolled + 2 ^ k } k 1 := rfl

theorem enrol_burns (k : Fin 4) (hung : s.glade.hung = false) (hok : s.enrolRefused k = 0) : Answers (.ownerEnrol k true) s fun t =>
        t.glade.enrolled = s.glade.enrolled + 2 ^ k.val ∧
        t.glade.owner = setAt s.glade.owner k ((wordBytes s.glade.enrol).take 48, (wordBytes s.glade.enrol).drop 48) ∧
        t.fld GLB_ENROL_STAT 3 0 = 0 ∧ OneEvent s t 0x100C (BitVec.ofNat 32 k) 1#32 ∧
        RegsBut [GLB_OWNER, GLB_RB, GLB_ENROL_STAT] s t := by
  have hdone := (byGlade_free (fun d => d.enrolOwner k true) hung).trans ((enrolOwner_eq s.toDev k true).trans
    ((if_neg (by rw [hok]; decide)).trans (if_neg (by decide))))
  obtain ⟨⟨at_, huse⟩, -⟩ := ownerSession_spec s.toDev
  rw [huse] at hdone
  dsimp only at hdone
  generalize hd : ({ s.toDev with
    glade := { s.glade with
      idleAt := at_
      owner := setAt s.glade.owner k ((wordBytes s.glade.enrol).take 48, (wordBytes s.glade.enrol).drop 48)
      enrolled := s.glade.enrolled + 2 ^ k.val } } : Dev) = d at *
  obtain ⟨hglade, hfld, hevent, hregs⟩ := fusesBurned_after (s := s) (d := d) k 1 (by rw [← hd])
  refine answers_of_done (congrArg (done s) hdone) ⟨?_, ?_, hfld, hevent, fun a ha hout hstat => (hregs a ha hout hstat).trans (by rw [← hd]; rfl)⟩
  · rw [hglade, ← hd]
  · rw [hglade, ← hd]

theorem enrol_fails (k : Fin 4) (hung : s.glade.hung = false) (hok : s.enrolRefused k = 0) : Answers (.ownerEnrol k false) s fun t =>
        t.fld GLB_ENROL_STAT 3 0 = 5 ∧ Framed [GLB_ENROL_STAT] s t (blocks (afterSession s 4)) ∧ NoEvent s t :=
  answers_of_done (congrArg (done s) ((byGlade_free (fun d => d.enrolOwner k false) hung).trans ((enrolOwner_eq s.toDev k false).trans
    ((if_neg (by rw [hok]; decide)).trans (if_pos rfl)))))
    (enrolStat_after (by decide) ((ownerSession_spec s.toDev).2 _) (ownerSession_log _))

theorem enrolRefused_le (d : Dev) (k : Nat) : d.enrolRefused k < 16 := by
  unfold Dev.enrolRefused
  split_ifs <;> decide

theorem enrol_refused (k : Fin 4) (ok : Bool) (hung : s.glade.hung = false) (hno : s.enrolRefused k ≠ 0) : Answers (.ownerEnrol k ok) s fun t =>
      t.fld GLB_ENROL_STAT 3 0 = s.enrolRefused k ∧ Framed [GLB_ENROL_STAT] s t (blocks (afterSession s 4)) ∧ NoEvent s t :=
  answers_of_done (congrArg (done s) ((byGlade_free (fun d => d.enrolOwner k ok) hung).trans ((enrolOwner_eq s.toDev k ok).trans (if_pos hno))))
    (enrolStat_after (enrolRefused_le _ _) ((ownerSession_spec s.toDev).2 _) (ownerSession_log _))

theorem bitOf_testBit (v i : Nat) : bitOf v i = v.testBit i := by
  rw [Nat.testBit_eq_decide_div_mod_eq]
  rfl

/-- Another owner slot than k is live (R419). -/
def Dev.otherLive (d : Dev) (k : Nat) : Bool := (List.range 4).any fun j => j != k && d.ownerLive j

theorem otherLive_iff (d : Dev) (k : Nat) : d.otherLive k = true ↔ ∃ j, j < 4 ∧ j ≠ k ∧ d.ownerLive j = true := by
  unfold Dev.otherLive
  simp only [List.any_eq_true, List.mem_range, Bool.and_eq_true, bne_iff_ne]

theorem revokeOwner_eq {d : Dev} {k : Nat} (ok : Bool) (hin : bitOf d.glade.enrolled k = true) : d.revokeOwner k ok =
    if !d.sessLevel 4 then d.setFld GLB_ENROL_STAT 3 0 2
    else if !d.otherLive k then d.sessUse.setFld GLB_ENROL_STAT 3 0 4
    else if !ok then d.sessUse.setFld GLB_ENROL_STAT 3 0 5
    else Dev.fusesBurned { d.sessUse with glade.revoked := d.glade.revoked.lor (2 ^ k) } k 2 :=
  if_neg (by rw [hin]; decide)

theorem revoke_none (k : Fin 4) (ok : Bool) (hno : bitOf s.glade.enrolled k = false) : NoEffect (.ownerRevoke k ok) s :=
  noEffect_of_done rfl (byGlade_same _ (if_pos (by rw [hno]; rfl)))

theorem revoke_closed (k : Fin 4) (hung : s.glade.hung = false) (hin : bitOf s.glade.enrolled k = true) (hsess : s.sessLevel 4 = false)
    (ok : Bool) : Answers (.ownerRevoke k ok) s fun t =>
      t.fld GLB_ENROL_STAT 3 0 = 2 ∧ OnlyRegs [GLB_ENROL_STAT] s t ∧ NoEvent s t :=
  answers_of_done (congrArg (done s) ((byGlade_free (fun d => d.revokeOwner k ok) hung).trans ((revokeOwner_eq ok hin).trans
    (if_pos (by rw [hsess]; rfl))))) (enrolStat_after (by decide) (Effect.refl _ _) rfl)

section
variable (k : Fin 4) (hung : s.glade.hung = false) (hin : bitOf s.glade.enrolled k = true) (hsess : s.sessLevel 4 = true)
include hung hin hsess

theorem revoke_last (ok : Bool) (hlast : ∀ j, j < 4 → j ≠ k.val → s.ownerLive j = false) : Answers (.ownerRevoke k ok) s fun t =>
        t.fld GLB_ENROL_STAT 3 0 = 4 ∧ Framed [GLB_ENROL_STAT] s t (blocks s.toDev.sessUse) ∧ NoEvent s t := by
  have hnone : s.toDev.otherLive k = false := by
    refine Bool.eq_false_iff.mpr fun h => ?_
    obtain ⟨j, hj, hjk, hlive⟩ := (otherLive_iff _ _).mp h
    exact absurd (hlive.symm.trans (hlast j hj hjk)) (by decide)
  have hdone := (byGlade_free (fun d => d.revokeOwner k ok) hung).trans (revokeOwner_eq ok hin)
  rw [hsess, hnone] at hdone
  exact answers_of_done (congrArg (done s) hdone) (enrolStat_after (by decide) (sessUse_effect _ _) rfl)

theorem revoke_burns {j : Nat} (hj : j < 4) (hjk : j ≠ k.val) (hlive : s.ownerLive j = true) : Answers (.ownerRevoke k true) s fun t =>
          t.ownerLive k = false ∧ t.glade.revoked = s.glade.revoked.lor (2 ^ k.val) ∧ t.fld GLB_ENROL_STAT 3 0 = 0 ∧
          OneEvent s t 0x100C (BitVec.ofNat 32 k) 2#32 := by
  have hother : s.toDev.otherLive k = true := (otherLive_iff _ _).mpr ⟨j, hj, hjk, hlive⟩
  have hdone := (byGlade_free (fun d => d.revokeOwner k true) hung).trans ((revokeOwner_eq true hin).trans
    ((if_neg (by rw [hsess]; decide)).trans ((if_neg (by rw [hother]; decide)).trans (if_neg (by decide)))))
  obtain ⟨hglade, hfld, hevent, -⟩ := fusesBurned_after (s := s)
    (d := { s.toDev.sessUse with glade.revoked := s.glade.revoked.lor (2 ^ k.val) }) k 2 rfl
  refine answers_of_done (congrArg (done s) hdone) ⟨?_, ?_, hfld, hevent⟩
  · refine (congrArg (fun g : GladeSt => bitOf g.enrolled k && !bitOf g.revoked k) hglade).trans ?_
    have hbit : bitOf (s.glade.revoked.lor (2 ^ k.val)) k = true := by
      rw [bitOf_testBit, show s.glade.revoked.lor (2 ^ k.val) = s.glade.revoked ||| 2 ^ k.val from rfl, Nat.testBit_or, Nat.testBit_two_pow_self,
        Bool.or_true]
    show (bitOf s.glade.enrolled k && !bitOf (s.glade.revoked.lor (2 ^ k.val)) k) = false
    rw [hbit, Bool.not_true, Bool.and_false]
  · exact (congrArg GladeSt.revoked hglade :)

theorem revoke_fails {j : Nat} (hj : j < 4) (hjk : j ≠ k.val) (hlive : s.ownerLive j = true) : Answers (.ownerRevoke k false) s fun t =>
          t.fld GLB_ENROL_STAT 3 0 = 5 ∧ Framed [GLB_ENROL_STAT] s t (blocks s.toDev.sessUse) ∧ NoEvent s t := by
  have hother : s.toDev.otherLive k = true := (otherLive_iff _ _).mpr ⟨j, hj, hjk, hlive⟩
  have hdone := (byGlade_free (fun d => d.revokeOwner k false) hung).trans (revokeOwner_eq false hin)
  rw [hsess, hother] at hdone
  exact answers_of_done (congrArg (done s) hdone) (enrolStat_after (by decide) (sessUse_effect _ _) rfl)

end

/-! Rollback fuses, and images that are saved (R422 to R424). -/

theorem burn_next {j : ImgJob} {js : List ImgJob} (hung : s.glade.hung = false) (hb : s.glade.burns = j :: js) :
    Answers .rollbackBurn s fun t => t.glade.burns = js ∧
      t.glade.rb = setAt s.glade.rb (j.typ - 1) (max (s.glade.rb.getD (j.typ - 1) 0) (imgRollback j.bytes)) := by
  have hdone : ∃ n, s.toDev.byGlade Dev.burnFuses = ((Dev.showFuses { s.toDev with
      glade.burns := js
      glade.rb := setAt s.glade.rb (j.typ - 1) (max (s.glade.rb.getD (j.typ - 1) 0) (imgRollback j.bytes)) }).ev 0x1008 j.typ n).imageDone
        j j.result := by
    rw [byGlade_free _ hung]
    unfold Dev.burnFuses
    rw [hb]
    exact ⟨_, rfl⟩
  obtain ⟨n, hdone⟩ := hdone
  have hbeside := (((Beside.refl ({ s.toDev with
      glade.burns := js
      glade.rb := setAt s.glade.rb (j.typ - 1) (max (s.glade.rb.getD (j.typ - 1) 0) (imgRollback j.bytes)) } : Dev)).showFuses).ev
        0x1008 j.typ n).imageDone j j.result
  exact answers_of_done (congrArg (done s) hdone) ⟨(congrArg GladeSt.burns ((settle_glade _).trans hbeside.glade) :),
    (congrArg GladeSt.rb ((settle_glade _).trans hbeside.glade) :)⟩

theorem burn_none (hb : s.glade.burns = []) : NoEffect .rollbackBurn s := by
  refine noEffect_of_done rfl (byGlade_same _ ?_)
  unfold Dev.burnFuses
  rw [hb]

/-- An image that has been written to its slot: its fuses burn, or it is done (R423). -/
def Dev.savedOn (d : Dev) (j : ImgJob) : Dev := if j.typ = 2 then d.imageBurn j 0 else d.imageDone j 0

theorem savedOn_glade (d : Dev) (j : ImgJob) : (d.savedOn j).glade.job = d.glade.job ∧ (d.savedOn j).glade.store = d.glade.store := by
  unfold Dev.savedOn
  split
  · obtain ⟨-, ⟨bs, hglade⟩, -⟩ := imageBurn_spec d j 0
    rw [hglade]
    exact ⟨rfl, rfl⟩
  · rw [((Beside.refl d).imageDone j 0).glade]
    exact ⟨rfl, rfl⟩

theorem imageSaved_ok {d : Dev} {j : ImgJob} (block : Nat) (hj : d.glade.job = some j) (hw : j.wait = 2) : d.imageSaved true block =
    Dev.savedOn { d with
      glade.job := none
      glade.store := setAt d.glade.store (2 * (j.typ - 1) + (1 - d.glade.newest.getD (j.typ - 1) 1)) (some j.bytes)
      glade.newest := setAt d.glade.newest (j.typ - 1) (1 - d.glade.newest.getD (j.typ - 1) 1) } j := by
  unfold Dev.imageSaved
  rw [hj]
  exact if_neg (by rw [hw]; decide)

theorem imageSaved_fails {d : Dev} {j : ImgJob} (block : Nat) (hj : d.glade.job = some j) (hw : j.wait = 2) : d.imageSaved false block =
    (Dev.ev { d with
      glade.job := none
      glade.store := setAt d.glade.store (2 * (j.typ - 1) + (1 - d.glade.newest.getD (j.typ - 1) 1)) none } 0x100E j.typ block).imageDone j 9 := by
  unfold Dev.imageSaved
  rw [hj]
  exact if_neg (by rw [hw]; decide)

theorem save_done {j : ImgJob} (block : Nat) (hung : s.glade.hung = false) (hj : s.glade.job = some j) (hw : j.wait = 2) :
    Answers (.imageSave true block) s fun t => t.glade.job = none ∧
        t.glade.store = setAt s.glade.store (2 * (j.typ - 1) + (1 - s.glade.newest.getD (j.typ - 1) 1)) (some j.bytes) := by
  have hdone := (byGlade_free (fun d => d.imageSaved true block) hung).trans (imageSaved_ok block hj hw)
  obtain ⟨hjob, hstore⟩ := savedOn_glade ({ s.toDev with
      glade.job := none
      glade.store := setAt s.glade.store (2 * (j.typ - 1) + (1 - s.glade.newest.getD (j.typ - 1) 1)) (some j.bytes)
      glade.newest := setAt s.glade.newest (j.typ - 1) (1 - s.glade.newest.getD (j.typ - 1) 1) } : Dev) j
  exact answers_of_done (congrArg (done s) hdone) ⟨(congrArg GladeSt.job (settle_glade _)).trans hjob,
    (congrArg GladeSt.store (settle_glade _)).trans hstore⟩

theorem save_fails {j : ImgJob} (block : Nat) (hung : s.glade.hung = false) (hj : s.glade.job = some j) (hw : j.wait = 2) :
    Answers (.imageSave false block) s fun t => t.glade.job = none ∧
        t.glade.store = setAt s.glade.store (2 * (j.typ - 1) + (1 - s.glade.newest.getD (j.typ - 1) 1)) none ∧
        t.glade.newest = s.glade.newest ∧ ∃ e, e ∈ t.log.raised ∧ e.code = 0x100E := by
  have hdone := (byGlade_free (fun d => d.imageSaved false block) hung).trans (imageSaved_fails block hj hw)
  generalize hd : ({ s.toDev with
      glade.job := none
      glade.store := setAt s.glade.store (2 * (j.typ - 1) + (1 - s.glade.newest.getD (j.typ - 1) 1)) none } : Dev) = d at *
  have hevent : ∃ e, e ∈ (d.ev 0x100E j.typ block).log.raised ∧ e.code = 0x100E :=
    ⟨_, List.mem_append_right _ (List.mem_singleton_self _), rfl⟩
  obtain ⟨e, he, hcode⟩ := hevent
  have hend := (Beside.refl (d.ev 0x100E j.typ block)).imageDone j 9
  have hglade : ((d.ev 0x100E j.typ block).imageDone j 9).glade = d.glade := hend.glade
  have hkept := hend.event he
  generalize (d.ev 0x100E j.typ block).imageDone j 9 = x at *
  have hshown : (s.after x).glade = d.glade := (settle_glade x).trans hglade
  refine answers_of_done (congrArg (done s) hdone) ⟨?_, ?_, ?_, e, ?_, hcode⟩
  · rw [hshown, ← hd]
  · rw [hshown, ← hd]
  · rw [hshown, ← hd]
  · rw [settle_log]
    exact hkept

theorem save_none (ok : Bool) (block : Nat) (h : s.glade.job.elim true (fun j => j.wait != 2) = true) : NoEffect (.imageSave ok block) s := by
  refine noEffect_of_done rfl (byGlade_same _ ?_)
  unfold Dev.imageSaved
  cases hj : s.glade.job with
  | none => rfl
  | some j =>
    rw [hj] at h
    exact if_pos (bne_iff_ne.mp h)

end

/-- Settles O52: owners enrolled and revoked, rollback numbers burned, images saved. -/
theorem ownersAndImages : Obligations.OwnersAndImages := by
  unfold Obligations.OwnersAndImages
  exact fun s => ⟨owners_wait, fun k hung hok => ⟨enrol_burns k hung hok, enrol_fails k hung hok⟩, enrol_refused, revoke_none,
    revoke_closed, fun k hung hin hsess => ⟨revoke_last k hung hin hsess,
      fun _ hj hjk hlive => ⟨revoke_burns k hung hin hsess hj hjk hlive, revoke_fails k hung hin hsess hj hjk hlive⟩⟩,
    fun _ _ => burn_next, burn_none, fun _ block hung hj hw => ⟨save_done block hung hj hw, save_fails block hung hj hw⟩, save_none⟩

end Sys2Proof.Machine
end

section
/-! O53: sessions open by challenge and response, and close (R427). -/

namespace Sys2Proof.Machine

section
variable {s : State}

theorem sessions_wait (hung : s.glade.hung = true) (slot : Fin 8) (level : BitVec 3) (v : Word) (c : Instr)
    (hc : c ∈ [.sessionOpen slot level, .sessionVerify, .sessionClose, .sessionCmdConflict v, .challengeExpiry, .sessionIdleExpiry,
      .slotLockExpiry slot]) : NoEffect c s := by
  simp only [List.mem_cons, List.not_mem_nil, or_false] at hc
  rcases hc with rfl | rfl | rfl | rfl | rfl | rfl | rfl <;> exact noEffect_of_done rfl (byGlade_hung _ hung)

/-! What GLB_SESS_STAT shows. -/

theorem sessState_settle (d : Dev) : d.settle.sessState = d.sessState := settle_fld _ _ _ _ (by decide) (by decide)

theorem sessStat_settle (d : Dev) (hi lo : Nat) : d.settle.fld GLB_SESS_STAT hi lo = d.fld GLB_SESS_STAT hi lo :=
  settle_fld _ _ _ _ (by decide) (by decide)

theorem slot_apart {k : Nat} (hk : k < 8) : GLB_SLOT k ≠ SAFE_OUT_STAT ∧ GLB_SLOT k ≠ SAFE_STAT ∧ GLB_SLOT k ≠ GLB_SESS_STAT ∧
    GLB_SLOT k ≠ HOST_EVT_PEND 3 := by
  simp only [GLB_SLOT, SAFE_OUT_STAT, SAFE_STAT, GLB_SESS_STAT, HOST_EVT_PEND]
  omega

theorem sessSlot_lt (d : Dev) : d.sessSlot < 8 := fld_lt d GLB_SESS_STAT 5 3

/-- The session's end shown: Closed, at no level. -/
def Dev.sessClosed (d : Dev) : Dev := (d.setFld GLB_SESS_STAT 7 6 0).setFld GLB_SESS_STAT 2 0 0

theorem sessEnd_eq (d : Dev) (why : Nat) : d.sessEnd why = d.sessClosed.ev 0x1005 d.sessSlot why := rfl

theorem sessClosed_spec (d : Dev) : d.sessClosed.sessState = 0 ∧ d.sessClosed.fld GLB_SESS_STAT 2 0 = 0 ∧
    d.sessClosed.sessSlot = d.sessSlot ∧ (∀ a, a ≠ GLB_SESS_STAT → d.sessClosed.rd a = d.rd a) ∧ d.sessClosed.log = d.log ∧
    Effect [GLB_SESS_STAT] d d.sessClosed (blocks d) := by
  have hmem : GLB_SESS_STAT ∈ [GLB_SESS_STAT] := List.mem_singleton_self _
  refine ⟨?_, ?_, ?_, fun a ha => ?_, rfl, ((Effect.refl _ d).setFld hmem 7 6 0).setFld hmem 2 0 0⟩
  · rw [Dev.sessState, Dev.sessClosed, fld_setFld_ne _ _ _ _ _ _ _ (by decide) (by decide) (by decide),
      fld_setFld_same _ _ _ _ _ (by decide) (by decide), Nat.zero_mod]
  · rw [Dev.sessClosed, fld_setFld_same _ _ _ _ _ (by decide) (by decide), Nat.zero_mod]
  · rw [Dev.sessSlot, Dev.sessClosed, fld_setFld_ne _ _ _ _ _ _ _ (by decide) (by decide) (by decide),
      fld_setFld_ne _ _ _ _ _ _ _ (by decide) (by decide) (by decide)]
    rfl
  · rw [Dev.sessClosed, rd_setFld_ne _ _ _ _ _ _ ha, rd_setFld_ne _ _ _ _ _ _ ha]

theorem sessEnd_after (why : Nat) : (s.after (s.toDev.sessEnd why)).sessState = 0 ∧ (s.after (s.toDev.sessEnd why)).fld GLB_SESS_STAT 2 0 = 0 ∧
    OneEvent s (s.after (s.toDev.sessEnd why)) 0x1005 (BitVec.ofNat 32 s.sessSlot) (BitVec.ofNat 32 why) ∧
    OnlyRegs [GLB_SESS_STAT] s (s.after (s.toDev.sessEnd why)) := by
  obtain ⟨hstate, hlevel, -, -, hlog, heff⟩ := sessClosed_spec s.toDev
  rw [sessEnd_eq]
  generalize s.toDev.sessClosed = d at *
  exact ⟨(sessState_settle _).trans hstate, (sessStat_settle _ _ _).trans hlevel, oneEvent_ev (d := d) rfl (congrArg LogSt.raised hlog),
    (heff.ev _ _ _).framed⟩

/-! OPEN. -/

/-- The result of an OPEN for a slot whose register holds w. -/
def openResult (w level : Nat) : Nat :=
  if bitsOf w 1 0 ≠ 1 then 1 else if level < 1 ∨ bitsOf w 4 2 < level then 2 else if bitOf w 8 then 3 else 0

theorem openResult_lt (w level : Nat) : openResult w level < 16 := by
  unfold openResult
  split_ifs <;> decide

/-- The challenge of 32 bytes in its registers. -/
def Dev.challenged (d : Dev) (chal : List Byte) : Dev := d.spend.each (List.range 8) fun d k => d.wrN (GLB_SESS_CHAL k) (u32 chal (4 * k))

/-- The session Challenged, with its level and slot. -/
def Dev.sessBegun (d : Dev) (slot level : Nat) : Dev :=
  Dev.setFld (Dev.setFld { d with glade := { d.glade with sessLvl := level, chalAt := d.seq.cyc } } GLB_SESS_STAT 7 6 1) GLB_SESS_STAT 5 3 slot

/-- An OPEN, from the device that has shown its result. -/
def Dev.openFrom (d : Dev) (slot level : Nat) : Dev :=
  (d.challenged ((List.range 32).map (Config.challengeByte d.seq.freeCtr))).sessBegun slot level

theorem sessOpen_closed {d : Dev} (slot level : Nat) (hclosed : d.sessState = 0) : d.sessOpen slot level =
    if openResult (d.rd (GLB_SLOT slot)).toNat level ≠ 0 then
      d.setFld GLB_SESS_STAT 11 8 (openResult (d.rd (GLB_SLOT slot)).toNat level)
    else (d.setFld GLB_SESS_STAT 11 8 (openResult (d.rd (GLB_SLOT slot)).toNat level)).openFrom slot level := by
  unfold Dev.sessOpen
  rw [if_pos hclosed]
  rfl

theorem chal_apart (k : Nat) (hk : k < 8) : GLB_SESS_CHAL k ≠ GLB_SESS_STAT := by
  simp only [GLB_SESS_CHAL, GLB_SESS_STAT]
  omega

/-- The registers of a challenge. -/
def chalRegs : List Nat := GLB_SESS_STAT :: (List.range 8).map GLB_SESS_CHAL

theorem chalReg_mem {k : Nat} (hk : k < 8) : GLB_SESS_CHAL k ∈ chalRegs :=
  List.mem_cons_of_mem _ (List.mem_map_of_mem (List.mem_range.mpr hk))

theorem challenged_spec {d b : Dev} {s : Dev} (chal : List Byte) (h : Effect chalRegs s d b) :
    Effect chalRegs s (d.challenged chal) b ∧ (d.challenged chal).rd GLB_SESS_STAT = d.rd GLB_SESS_STAT ∧ (d.challenged chal).log = d.log ∧
      (d.challenged chal).seq.cyc = d.seq.cyc ∧ (d.challenged chal).glade = d.glade := by
  unfold Dev.challenged
  refine each_range_rec (P := fun _ e => Effect chalRegs s e b ∧ e.rd GLB_SESS_STAT = d.rd GLB_SESS_STAT ∧ e.log = d.log ∧
    e.seq.cyc = d.seq.cyc ∧ e.glade = d.glade) ⟨h.spend, rfl, rfl, rfl, rfl⟩ ?_
  rintro k e hk ⟨heff, hrd, hlog, hcyc, hglade⟩
  exact ⟨heff.wrN (chalReg_mem hk) _, (rd_wrN_ne _ _ _ _ (chal_apart k hk).symm).trans hrd, (wrN_log _ _ _).trans hlog, hcyc, hglade⟩

theorem sessBegun_spec {d s g : Dev} {slot level : Nat} (hslot : slot < 8) (h : Effect chalRegs s d (blocks g)) (hglade : d.glade = g.glade) :
    Effect chalRegs s (d.sessBegun slot level) (blocks { g with glade := { g.glade with sessLvl := level, chalAt := d.seq.cyc } }) ∧
    (d.sessBegun slot level).sessState = 1 ∧ (d.sessBegun slot level).sessSlot = slot ∧
    (d.sessBegun slot level).fld GLB_SESS_STAT 11 8 = d.fld GLB_SESS_STAT 11 8 ∧ (d.sessBegun slot level).log = d.log := by
  have hmem : GLB_SESS_STAT ∈ chalRegs := List.mem_cons_self
  have hset := h.glade { d.glade with sessLvl := level, chalAt := d.seq.cyc }
  have hfld : ∀ hi lo, ({ d with glade := { d.glade with sessLvl := level, chalAt := d.seq.cyc } } : Dev).fld GLB_SESS_STAT hi lo =
    d.fld GLB_SESS_STAT hi lo := fun _ _ => rfl
  have hlog : ({ d with glade := { d.glade with sessLvl := level, chalAt := d.seq.cyc } } : Dev).log = d.log := rfl
  unfold Dev.sessBegun
  generalize ({ d with glade := { d.glade with sessLvl := level, chalAt := d.seq.cyc } } : Dev) = e at *
  rw [hglade] at hset
  refine ⟨(hset.setFld hmem 7 6 1).setFld hmem 5 3 slot, ?_, ?_, ?_, ?_⟩
  · rw [Dev.sessState, fld_setFld_ne _ _ _ _ _ _ _ (by decide) (by decide) (by decide), fld_setFld_same _ _ _ _ _ (by decide) (by decide)]
    rfl
  · rw [Dev.sessSlot, fld_setFld_same _ _ _ _ _ (by decide) (by decide)]
    exact Nat.mod_eq_of_lt hslot
  · rw [fld_setFld_ne _ _ _ _ _ _ _ (by decide) (by decide) (by decide), fld_setFld_ne _ _ _ _ _ _ _ (by decide) (by decide) (by decide), hfld]
  · rw [setFld_log, setFld_log, hlog]

theorem open_challenges (slot : Fin 8) (level : BitVec 3) (hung : s.glade.hung = false) (hclosed : s.sessState = 0)
    (huse : s.fld (GLB_SLOT slot) 1 0 = 1) (hlow : 1 ≤ level.toNat) (hgrant : level.toNat ≤ s.fld (GLB_SLOT slot) 4 2)
    (hfree : s.bit (GLB_SLOT slot) 8 = false) : Answers (.sessionOpen slot level) s fun t =>
      t.sessState = 1 ∧ t.sessSlot = slot.val ∧ t.fld GLB_SESS_STAT 11 8 = 0 ∧
            NoEvent s t ∧ Framed (GLB_SESS_STAT :: (List.range 8).map GLB_SESS_CHAL) s t
              (blocks { s.toDev with glade.sessLvl := level.toNat, glade.chalAt := s.seq.cyc }) := by
  have hres : openResult (s.rd (GLB_SLOT slot)).toNat level.toNat = 0 := by
    have huse' : bitsOf (s.rd (GLB_SLOT slot)).toNat 1 0 = 1 := huse
    have hgrant' : level.toNat ≤ bitsOf (s.rd (GLB_SLOT slot)).toNat 4 2 := hgrant
    have hfree' : bitOf (s.rd (GLB_SLOT slot)).toNat 8 = false := hfree
    unfold openResult
    rw [if_neg (by rw [huse']; simp), if_neg (by omega), hfree']
    rfl
  have hdone := (byGlade_free (fun d => d.sessOpen slot level.toNat) hung).trans (sessOpen_closed slot level.toNat hclosed)
  rw [hres, if_neg (by simp)] at hdone
  have hfirst : Effect chalRegs s.toDev (s.toDev.setFld GLB_SESS_STAT 11 8 0) (blocks s.toDev) :=
    (Effect.refl _ s.toDev).setFld List.mem_cons_self 11 8 0
  have hzero : (s.toDev.setFld GLB_SESS_STAT 11 8 0).fld GLB_SESS_STAT 11 8 = 0 := by
    rw [fld_setFld_same _ _ _ _ _ (by decide) (by decide), Nat.zero_mod]
  have hkept : (s.toDev.setFld GLB_SESS_STAT 11 8 0).seq = s.seq ∧ (s.toDev.setFld GLB_SESS_STAT 11 8 0).glade = s.glade ∧
      (s.toDev.setFld GLB_SESS_STAT 11 8 0).log = s.log := ⟨rfl, rfl, rfl⟩
  generalize s.toDev.setFld GLB_SESS_STAT 11 8 0 = d at *
  unfold Dev.openFrom at hdone
  generalize (List.range 32).map (Config.challengeByte d.seq.freeCtr) = chal at *
  obtain ⟨heff, hrd, hlog, hcyc, hglade⟩ := challenged_spec chal hfirst
  generalize d.challenged chal = e at *
  obtain ⟨heff', hstate, hslot, hfld, hlog'⟩ := sessBegun_spec (level := level.toNat) slot.isLt heff (hglade.trans hkept.2.1)
  rw [hcyc, hkept.1] at heff'
  generalize e.sessBegun slot level.toNat = x at *
  refine answers_of_done (congrArg (done s) hdone) ⟨(sessState_settle _).trans hstate, (sessStat_settle _ _ _).trans hslot, ?_,
    noEvent_after (congrArg LogSt.raised (hlog'.trans (hlog.trans hkept.2.2))), heff'.framed⟩
  exact (sessStat_settle _ _ _).trans (hfld.trans ((fld_of_rd _ _ _ _ _ hrd).trans hzero))

theorem open_refused (slot : Fin 8) (level : BitVec 3) (hung : s.glade.hung = false) (hclosed : s.sessState = 0) {r : Nat}
    (hr : r = openResult (s.rd (GLB_SLOT slot)).toNat level.toNat) (hne : r ≠ 0) : Answers (.sessionOpen slot level) s fun t =>
      t.fld GLB_SESS_STAT 11 8 = r ∧ t.sessState = 0 ∧ OnlyRegs [GLB_SESS_STAT] s t ∧ NoEvent s t := by
  have hdone := (byGlade_free (fun d => d.sessOpen slot level.toNat) hung).trans (sessOpen_closed slot level.toNat hclosed)
  have hlt : r < 16 := hr ▸ openResult_lt _ _
  rw [← hr, if_pos hne] at hdone
  refine answers_of_done (congrArg (done s) hdone) ⟨?_, ?_, ((Effect.refl _ s.toDev).setFld (List.mem_singleton_self _) 11 8 r).framed,
    noEvent_after rfl⟩
  · exact (sessStat_settle _ _ _).trans ((fld_setFld_same _ _ _ _ _ (by decide) (by decide)).trans (Nat.mod_eq_of_lt hlt))
  · exact (sessState_settle _).trans ((fld_setFld_ne _ _ _ _ _ _ _ (by decide) (by decide) (by decide)).trans hclosed)

/-- An OPEN's log is that of the device without the session that it replaces. -/
theorem openFrom_log (d : Dev) (slot level : Nat) : (d.openFrom slot level).log = d.log := by
  unfold Dev.openFrom
  generalize (List.range 32).map (Config.challengeByte d.seq.freeCtr) = chal
  have hlog := (challenged_spec chal (Effect.refl chalRegs d)).2.2.1
  generalize d.challenged chal = e at *
  unfold Dev.sessBegun
  rw [setFld_log, setFld_log]
  exact hlog

theorem sessOpen_log {d : Dev} (slot level : Nat) (hclosed : d.sessState = 0) : (d.sessOpen slot level).log = d.log := by
  rw [sessOpen_closed slot level hclosed]
  split
  · exact setFld_log _ _ _ _ _
  · exact openFrom_log _ _ _

theorem open_replaces (slot : Fin 8) (level : BitVec 3) (hung : s.glade.hung = false) (hopen : s.sessState ≠ 0) :
    Answers (.sessionOpen slot level) s fun t => OneEvent s t 0x1005 (BitVec.ofNat 32 s.sessSlot) 3#32 := by
  obtain ⟨hstate, -, -, -, hlog, -⟩ := sessClosed_spec s.toDev
  have hend : (s.toDev.sessEnd 3).sessState = 0 := (ev_fld s.toDev.sessClosed _ _ _ _ _ _).trans hstate
  have hdone : s.toDev.byGlade (fun d => d.sessOpen slot level.toNat) = (s.toDev.sessEnd 3).sessOpen slot level.toNat := by
    rw [byGlade_free _ hung]
    unfold Dev.sessOpen
    rw [if_neg hopen, if_pos hend]
  have hlog' := sessOpen_log slot.val level.toNat hend
  exact answers_of_done (congrArg (done s) hdone) (oneEvent_evW (d := s.toDev.sessClosed) (congrArg LogSt.raised hlog')
    (congrArg LogSt.raised hlog))

/-! VERIFY. -/

/-- VERIFY's response is right, and in time. -/
def Dev.verified (d : Dev) : Bool :=
  wordBytes d.glade.resp == hmac256 (d.glade.keys.getD d.sessSlot []) d.sessMessage && !d.spanPast d.glade.chalAt 10000

theorem verified_iff : s.toDev.verified = true ↔ rightResponse s ∧ s.spanPast s.glade.chalAt 10000 = false := by
  unfold Dev.verified rightResponse
  rw [Bool.and_eq_true, beq_iff_eq, Bool.not_eq_true']

/-- The session Open at its level. -/
def Dev.sessOpened (d : Dev) : Dev :=
  ((d.sessUse.setFld (GLB_SLOT d.sessSlot) 7 5 0).setFld GLB_SESS_STAT 7 6 2).setFld GLB_SESS_STAT 2 0 d.glade.sessLvl

theorem sessVerify_eq {d : Dev} (hstate : d.sessState = 1) : d.sessVerify =
    if d.verified then (d.sessOpened.ev 0x1001 d.sessSlot d.glade.sessLvl).raise 0x78 else d.sessFail.raise 0x78 :=
  if_neg (by rw [hstate]; decide)

theorem sessOpened_spec (d : Dev) : d.sessOpened.sessState = 2 ∧ d.sessOpened.fld GLB_SESS_STAT 2 0 = d.glade.sessLvl % 8 ∧
    d.sessOpened.fld (GLB_SLOT d.sessSlot) 7 5 = 0 ∧ d.sessOpened.glade.idleAt = d.seq.cyc ∧ d.sessOpened.log = d.log := by
  have hslot := (slot_apart (sessSlot_lt d)).2.2.1
  unfold Dev.sessOpened
  generalize d.sessSlot = k at *
  have hlog : d.sessUse.log = d.log := rfl
  have hidle : d.sessUse.glade.idleAt = d.seq.cyc := rfl
  generalize d.sessUse = e at *
  refine ⟨?_, ?_, ?_, hidle, hlog⟩
  · rw [Dev.sessState, fld_setFld_ne _ _ _ _ _ _ _ (by decide) (by decide) (by decide), fld_setFld_same _ _ _ _ _ (by decide) (by decide)]
    rfl
  · exact fld_setFld_same _ _ _ _ _ (by decide) (by decide)
  · rw [fld_setFld_other _ _ _ _ _ _ _ _ hslot, fld_setFld_other _ _ _ _ _ _ _ _ hslot, fld_setFld_same _ _ _ _ _ (by decide) (by decide),
      Nat.zero_mod]

theorem verify_opens (hung : s.glade.hung = false) (hstate : s.sessState = 1) (hright : rightResponse s)
    (htime : s.spanPast s.glade.chalAt 10000 = false) : Answers .sessionVerify s fun t =>
        t.sessState = 2 ∧ t.fld GLB_SESS_STAT 2 0 = s.glade.sessLvl % 8 ∧ t.fld (GLB_SLOT s.sessSlot) 7 5 = 0 ∧
        t.glade.idleAt = s.seq.cyc ∧ OneEvent s t 0x1001 (BitVec.ofNat 32 s.sessSlot) (BitVec.ofNat 32 s.glade.sessLvl) := by
  obtain ⟨hout, hstat, -, hpend⟩ := slot_apart (sessSlot_lt s.toDev)
  have hdone := (byGlade_free Dev.sessVerify hung).trans ((sessVerify_eq hstate).trans (if_pos (verified_iff.mpr ⟨hright, htime⟩)))
  obtain ⟨hopen, hlevel, hfails, hidle, hlog⟩ := sessOpened_spec s.toDev
  generalize s.toDev.sessOpened = d at *
  have hfld : ∀ a hi lo, a ≠ HOST_EVT_PEND 3 → ((d.ev 0x1001 s.sessSlot s.glade.sessLvl).raise 0x78).fld a hi lo = d.fld a hi lo :=
    fun a hi lo ha => (fld_raise_other _ _ _ _ _ ha).trans (ev_fld _ _ _ _ _ _ _)
  refine answers_of_done (congrArg (done s) hdone) ⟨?_, ?_, ?_, (congrArg GladeSt.idleAt (settle_glade _)).trans hidle,
    oneEvent_ev (d := d) rfl (congrArg LogSt.raised hlog)⟩
  · exact (sessState_settle _).trans ((hfld _ _ _ (by decide)).trans hopen)
  · exact (sessStat_settle _ _ _).trans ((hfld _ _ _ (by decide)).trans hlevel)
  · exact (settle_fld _ _ _ _ hout hstat).trans ((hfld _ _ _ hpend).trans hfails)

/-- An opening that has failed, counted at its slot. -/
def Dev.failCounted (d : Dev) : Dev :=
  (d.setFld GLB_SESS_STAT 7 6 0).setFld (GLB_SLOT d.sessSlot) 7 5 (d.fld (GLB_SLOT d.sessSlot) 7 5 + 1)

/-- A slot locked for 60 s. -/
def Dev.slotLocked (d : Dev) (k : Nat) : Dev := ((d.setFld (GLB_SLOT k) 7 5 0).setBit (GLB_SLOT k) 8 true).setFld (GLB_SLOT k) 31 16 60

theorem sessFail_eq (d : Dev) : d.sessFail = if 5 ≤ d.fld (GLB_SLOT d.sessSlot) 7 5 + 1 then
      ((d.failCounted.ev 0x1002 d.sessSlot (d.fld (GLB_SLOT d.sessSlot) 7 5 + 1)).slotLocked d.sessSlot).ev 0x1003 d.sessSlot 60
    else d.failCounted.ev 0x1002 d.sessSlot (d.fld (GLB_SLOT d.sessSlot) 7 5 + 1) := rfl

theorem failCounted_spec (d : Dev) : d.failCounted.sessState = 0 ∧
    d.failCounted.fld (GLB_SLOT d.sessSlot) 7 5 = (d.fld (GLB_SLOT d.sessSlot) 7 5 + 1) % 8 ∧ d.failCounted.log = d.log := by
  have hslot := (slot_apart (sessSlot_lt d)).2.2.1
  unfold Dev.failCounted
  refine ⟨?_, fld_setFld_same _ _ _ _ _ (by decide) (by decide), rfl⟩
  rw [Dev.sessState, fld_setFld_other _ _ _ _ _ _ _ _ hslot.symm, fld_setFld_same _ _ _ _ _ (by decide) (by decide), Nat.zero_mod]

theorem slotLocked_spec (d : Dev) {k : Nat} (hk : k < 8) : (d.slotLocked k).sessState = d.sessState ∧ (d.slotLocked k).fld (GLB_SLOT k) 7 5 = 0 ∧
    (d.slotLocked k).bit (GLB_SLOT k) 8 = true ∧ (d.slotLocked k).fld (GLB_SLOT k) 31 16 = 60 := by
  have hslot := (slot_apart hk).2.2.1.symm
  unfold Dev.slotLocked
  refine ⟨?_, ?_, ?_, ?_⟩
  · rw [Dev.sessState, Dev.sessState, fld_setFld_other _ _ _ _ _ _ _ _ hslot, fld_setBit_other _ _ _ _ _ _ _ hslot,
      fld_setFld_other _ _ _ _ _ _ _ _ hslot]
  · rw [fld_setFld_ne _ _ _ _ _ _ _ (by decide) (by decide) (by decide), fld_setBit_ne _ _ _ _ _ _ (by decide) (by decide),
      fld_setFld_same _ _ _ _ _ (by decide) (by decide), Nat.zero_mod]
  · rw [bit_setFld_ne _ _ _ _ _ _ (by decide) (by decide) (by decide), bit_setBit_same _ _ _ _ (by decide)]
  · rw [fld_setFld_same _ _ _ _ _ (by decide) (by decide)]
    rfl

/-- A wrong or late response, and a challenge without one, fail the opening (R427). -/
theorem sessFail_after : OpeningFails s (s.after (s.toDev.sessFail.raise 0x78)) := by
  have hk := sessSlot_lt s.toDev
  obtain ⟨hout, hstat, -, hpend⟩ := slot_apart hk
  obtain ⟨hstate, hcount, hlog⟩ := failCounted_spec s.toDev
  have hfail := sessFail_eq s.toDev
  have hn : s.fld (GLB_SLOT s.sessSlot) 7 5 < 8 := fld_lt s.toDev (GLB_SLOT s.sessSlot) 7 5
  generalize s.toDev.failCounted = d at *
  unfold OpeningFails
  dsimp only
  by_cases hfifth : 5 ≤ s.fld (GLB_SLOT s.sessSlot) 7 5 + 1
  · rw [if_pos hfifth] at hfail
    rw [hfail]
    obtain ⟨hstate', hcleared, hlocked, hleft⟩ := slotLocked_spec (d.ev 0x1002 s.sessSlot (s.fld (GLB_SLOT s.sessSlot) 7 5 + 1)) hk
    have hbase : (d.ev 0x1002 s.sessSlot (s.fld (GLB_SLOT s.sessSlot) 7 5 + 1)).sessState = 0 := (ev_fld _ _ _ _ _ _ _).trans hstate
    generalize (d.ev 0x1002 s.sessSlot (s.fld (GLB_SLOT s.sessSlot) 7 5 + 1)).slotLocked s.sessSlot = x at *
    have hfld : ∀ a hi lo, a ≠ HOST_EVT_PEND 3 → ((x.ev 0x1003 s.sessSlot 60).raise 0x78).fld a hi lo = x.fld a hi lo := fun a hi lo ha =>
      (fld_raise_other _ _ _ _ _ ha).trans (ev_fld _ _ _ _ _ _ _)
    have hbit : ((x.ev 0x1003 s.sessSlot 60).raise 0x78).bit (GLB_SLOT s.sessSlot) 8 = x.bit (GLB_SLOT s.sessSlot) 8 :=
      (bit_raise_other _ _ _ _ hpend).trans (ev_bit _ _ _ _ _ _)
    refine ⟨?_, fun hlow => absurd hfifth (Nat.not_le.mpr hlow), fun _ => ⟨?_, ?_, ?_⟩⟩
    · exact (sessState_settle _).trans ((hfld _ _ _ (by decide)).trans (hstate'.trans hbase))
    · exact (settle_fld _ _ _ _ hout hstat).trans ((hfld _ _ _ hpend).trans hcleared)
    · exact (settle_bit _ _ _ hout hstat).trans (hbit.trans hlocked)
    · exact (settle_fld _ _ _ _ hout hstat).trans ((hfld _ _ _ hpend).trans hleft)
  · rw [if_neg hfifth] at hfail
    rw [hfail]
    have hfld : ∀ a hi lo, a ≠ HOST_EVT_PEND 3 →
        ((d.ev 0x1002 s.sessSlot (s.fld (GLB_SLOT s.sessSlot) 7 5 + 1)).raise 0x78).fld a hi lo = d.fld a hi lo := fun a hi lo ha =>
      (fld_raise_other _ _ _ _ _ ha).trans (ev_fld _ _ _ _ _ _ _)
    refine ⟨?_, fun hlow => ⟨?_, oneEvent_ev (d := d) rfl (congrArg LogSt.raised hlog)⟩, fun hhigh => absurd hhigh hfifth⟩
    · exact (sessState_settle _).trans ((hfld _ _ _ (by decide)).trans hstate)
    · exact (settle_fld _ _ _ _ hout hstat).trans ((hfld _ _ _ hpend).trans (hcount.trans (Nat.mod_eq_of_lt (by omega))))

theorem verify_fails (hung : s.glade.hung = false) (hstate : s.sessState = 1)
    (hwrong : ¬rightResponse s ∨ s.spanPast s.glade.chalAt 10000 = true) : Answers .sessionVerify s fun t => OpeningFails s t := by
  have hno : ¬s.toDev.verified = true := fun h => by
    obtain ⟨hright, htime⟩ := verified_iff.mp h
    rcases hwrong with h | h
    · exact h hright
    · exact absurd (h.symm.trans htime) (by decide)
  exact answers_of_done (congrArg (done s) ((byGlade_free Dev.sessVerify hung).trans ((sessVerify_eq hstate).trans (if_neg hno)))) sessFail_after

theorem verify_none (hstate : s.sessState ≠ 1) : NoEffect .sessionVerify s := noEffect_of_done rfl (byGlade_same _ (if_pos hstate))

theorem challenge_ends (hung : s.glade.hung = false) (hstate : s.sessState = 1) (hover : s.spanOver s.glade.chalAt 10000 = true) :
    Answers .challengeExpiry s fun t => OpeningFails s t :=
  answers_of_done (congrArg (done s) ((byGlade_free Dev.challengeEnd hung).trans (if_pos ⟨hstate, hover⟩))) sessFail_after

theorem challenge_none (h : s.sessState ≠ 1 ∨ s.spanOver s.glade.chalAt 10000 = false) : NoEffect .challengeExpiry s := by
  refine noEffect_of_done rfl (byGlade_same _ (if_neg ?_))
  rintro ⟨hstate, hover⟩
  rcases h with h | h
  · exact h hstate
  · exact absurd (hover.symm.trans h) (by decide)

/-! The end of a session, its locks and its commands. -/

theorem close_ends (hung : s.glade.hung = false) (c : Instr) (why : Word)
    (hc : (c = .sessionClose ∧ why = 1#32) ∨ (c = .sessionIdleExpiry ∧ why = 2#32 ∧ idleOver s = true)) (hopen : s.sessState = 2) :
    Answers c s fun t => t.sessState = 0 ∧ t.fld GLB_SESS_STAT 2 0 = 0 ∧
          OneEvent s t 0x1005 (BitVec.ofNat 32 s.sessSlot) why ∧ OnlyRegs [GLB_SESS_STAT] s t := by
  rcases hc with ⟨rfl, rfl⟩ | ⟨rfl, rfl, hidle⟩
  · exact answers_of_done (congrArg (done s) ((byGlade_free (fun d => d.sessClose 1) hung).trans (if_pos hopen))) (sessEnd_after 1)
  · exact answers_of_done (congrArg (done s) ((byGlade_free Dev.sessIdle hung).trans ((if_pos hidle).trans (if_pos hopen)))) (sessEnd_after 2)

theorem close_none (hshut : s.sessState ≠ 2) : NoEffect .sessionClose s := noEffect_of_done rfl (byGlade_same _ (if_neg hshut))

theorem idle_none (h : s.sessState ≠ 2 ∨ idleOver s = false) : NoEffect .sessionIdleExpiry s := by
  refine noEffect_of_done rfl (byGlade_same _ ?_)
  unfold Dev.sessIdle
  split
  · next hidle => exact if_neg (h.resolve_right fun hno => absurd (hidle.symm.trans hno) (by decide))
  · rfl

theorem sessCommand_conflict {d : Dev} {v : Word} (h : bitsOf v.toNat 2 0 ∈ [3, 5, 6, 7]) : d.sessCommand v = d.sessConflict := by
  simp only [List.mem_cons, List.not_mem_nil, or_false] at h
  unfold Dev.sessCommand
  dsimp only
  rcases h with h | h | h | h <;> rw [h] <;> rfl

theorem conflict_shown (hung : s.glade.hung = false) (v : Word) (h : bitsOf v.toNat 2 0 ∈ [3, 5, 6, 7]) :
    Answers (.sessionCmdConflict v) s fun t => t.fld GLB_SESS_STAT 11 8 = 4 ∧ t.sessState = s.sessState ∧ Quiet [GLB_SESS_STAT] s t := by
  have hdone : s.toDev.byGlade (fun d => d.sessCommand v) = s.toDev.setFld GLB_SESS_STAT 11 8 4 :=
    (byGlade_free _ hung).trans (sessCommand_conflict h)
  refine answers_of_done (congrArg (done s) hdone) ⟨?_, ?_, ((Effect.refl _ s.toDev).setFld (List.mem_singleton_self _) 11 8 4).framed,
    noEvent_after rfl⟩
  · exact (sessStat_settle _ _ _).trans (fld_setFld_same _ _ _ _ _ (by decide) (by decide))
  · exact (sessState_settle _).trans (fld_setFld_ne _ _ _ _ _ _ _ (by decide) (by decide) (by decide))

theorem unlock_frees (hung : s.glade.hung = false) (k : Fin 8) (hlocked : s.bit (GLB_SLOT k) 8 = true) (hlast : s.fld (GLB_SLOT k) 31 16 ≤ 1) :
    Answers (.slotLockExpiry k) s fun t =>
        t.bit (GLB_SLOT k) 8 = false ∧ t.fld (GLB_SLOT k) 31 16 = 0 ∧ OnlyRegs [GLB_SLOT k] s t ∧ NoEvent s t := by
  obtain ⟨hout, hstat, -, -⟩ := slot_apart k.isLt
  have hdone : s.toDev.byGlade (fun d => d.slotUnlock k) = (s.toDev.setBit (GLB_SLOT k) 8 false).setFld (GLB_SLOT k) 31 16 0 :=
    (byGlade_free _ hung).trans (if_pos (by rw [hlocked, decide_eq_true hlast]; rfl))
  have hmem : GLB_SLOT k ∈ [GLB_SLOT k.val] := List.mem_singleton_self _
  refine answers_of_done (congrArg (done s) hdone) ⟨?_, ?_, (((Effect.refl _ s.toDev).setBit hmem 8 false).setFld hmem 31 16 0).framed,
    noEvent_after rfl⟩
  · refine (settle_bit _ _ _ hout hstat).trans ?_
    rw [bit_setFld_ne _ _ _ _ _ _ (by decide) (by decide) (by decide), bit_setBit_same _ _ _ _ (by decide)]
  · refine (settle_fld _ _ _ _ hout hstat).trans ?_
    rw [fld_setFld_same _ _ _ _ _ (by decide) (by decide), Nat.zero_mod]

theorem unlock_none (k : Fin 8) (h : s.bit (GLB_SLOT k) 8 = false ∨ 1 < s.fld (GLB_SLOT k) 31 16) : NoEffect (.slotLockExpiry k) s := by
  refine noEffect_of_done rfl (byGlade_same _ (if_neg ?_))
  rcases h with h | h
  · rw [h]
    simp
  · rw [decide_eq_false (Nat.not_le.mpr h), Bool.and_false]
    decide

/-- A write of GLB_SESS_CMD is the command that its one bit names. -/
theorem sessCommand_names (v : Word) : (bitsOf v.toNat 2 0 = 0 → NoEffect (.sessionCmdConflict v) s) ∧
      (∀ (slot : Fin 8) (level : BitVec 3), bitsOf v.toNat 2 0 = 1 → slot.val = bitsOf v.toNat 5 3 →
        level.toNat = bitsOf v.toNat 8 6 → exec (.sessionCmdConflict v) s = exec (.sessionOpen slot level) s) ∧
      (bitsOf v.toNat 2 0 = 2 → exec (.sessionCmdConflict v) s = exec .sessionVerify s) ∧
      (bitsOf v.toNat 2 0 = 4 → exec (.sessionCmdConflict v) s = exec .sessionClose s) := by
  have hcommand : ∀ (n : Nat) (f : Dev → Dev), bitsOf v.toNat 2 0 = n → (∀ d : Dev, bitsOf v.toNat 2 0 = n → d.sessCommand v = f d) →
      s.toDev.byGlade (fun d => d.sessCommand v) = s.toDev.byGlade f := fun n f hn hf => congrArg s.toDev.byGlade (funext fun d => hf d hn)
  refine ⟨fun h => noEffect_of_done rfl (byGlade_same _ ?_), fun slot level h hslot hlevel => ?_, fun h => ?_, fun h => ?_⟩
  · unfold Dev.sessCommand
    dsimp only
    rw [h]
    rfl
  · refine congrArg (done s) (hcommand 1 (fun d => d.sessOpen slot level.toNat) h fun d hd => ?_)
    unfold Dev.sessCommand
    dsimp only
    rw [hd, hslot, hlevel]
    rfl
  · refine congrArg (done s) (hcommand 2 Dev.sessVerify h fun d hd => ?_)
    unfold Dev.sessCommand
    dsimp only
    rw [hd]
    rfl
  · refine congrArg (done s) (hcommand 4 (fun d => d.sessClose 1) h fun d hd => ?_)
    unfold Dev.sessCommand
    dsimp only
    rw [hd]
    rfl

end

/-- Settles O53: challenge and response, the end of a session, and the locks of its slots. -/
theorem sessions : Obligations.Sessions := by
  unfold Obligations.Sessions
  exact fun s => ⟨sessions_wait, fun hung => ⟨fun slot level hclosed => ⟨open_challenges slot level hung hclosed,
      fun _ => open_refused slot level hung hclosed⟩, fun slot level => open_replaces slot level hung, verify_opens hung, verify_fails hung,
      challenge_ends hung, close_ends hung, conflict_shown hung, unlock_frees hung⟩,
    sessCommand_names, verify_none, challenge_none, close_none, idle_none, unlock_none⟩

end Sys2Proof.Machine
end

section
/-! O12: the tick number, and the adjusted tick of a step (R10, R23, R26). -/

namespace Sys2Proof.Machine

/-! The stop of a lane leaves the clock and the resets to themselves. -/

/-- Local time and the reset in progress. -/
def Dev.clockReset (d : Dev) : ClkSt × RstSt := (d.clk, d.rst)

theorem endDesc_clockReset (s : Dev) (p status : Nat) : (s.endDesc p status).clockReset = s.clockReset := by
  simp only [Dev.endDesc, Dev.endCount]
  split_ifs <;> rfl

theorem setLane_clockReset (s : Dev) (l : Nat) (f : LaneSt → LaneSt) : (s.setLane l f).clockReset = s.clockReset := rfl

theorem hostRecord_clockReset (s : Dev) (l code iter cycles : Nat) (out : Option SolveOut) :
    (s.hostRecord l code iter cycles out).clockReset = s.clockReset := by
  unfold Dev.hostRecord
  split
  · rfl
  · dsimp only
    rw [setLane_clockReset, endDesc_clockReset]
    rfl

theorem laneMark_clockReset (s : Dev) (l code iter cycles : Nat) (out : Option SolveOut) :
    (s.laneMark l code iter cycles out).clockReset = s.clockReset := by
  dsimp only [Dev.laneMark, Dev.laneTimes, Dev.laneCode]
  rw [hostRecord_clockReset]
  split_ifs <;> simp [Dev.clockReset]

theorem laneCount_clockReset (s : Dev) (l code iter : Nat) : (s.laneCount l code iter).clockReset = s.clockReset := by
  dsimp only [Dev.laneCount, Dev.countInvalid]
  split_ifs <;> simp [Dev.clockReset]

theorem laneFail_clockReset (s : Dev) (l code iter : Nat) : (s.laneFail l code iter).clockReset = s.clockReset := by
  dsimp only [Dev.laneFail, Dev.retire]
  split_ifs <;> exact laneCount_clockReset s l code iter

theorem laneBreak_clockReset (s : Dev) (l : Nat) {code : Nat} (h : code ≠ 0) : (s.laneBreak l code).clockReset = s.clockReset := by
  dsimp only [Dev.laneBreak]
  rw [laneStop_fails _ _ _ _ _ _ h, laneFail_clockReset, laneMark_clockReset]
  rfl

theorem lateLanes_clockReset (s : Dev) : s.lateLanes.clockReset = s.clockReset := by
  refine each_keeps Dev.clockReset _ (fun d l => ?_) _ s
  split_ifs
  · exact (setLane_clockReset _ _ _).trans (laneBreak_clockReset d l (by decide))
  · rfl

theorem tickTaken_clk (s : Dev) (i : TickIn) : (s.tickTaken i).clk = s.clk := by
  have hlate : ∀ d : Dev, d.lateLanes.clk = d.clk := fun d => (congrArg Prod.fst (lateLanes_clockReset d) :)
  refine (hlate _).trans ((cntSat_clk _ _ _ _ _).trans ?_)
  split_ifs <;> rfl

/-! The tick number. -/

theorem passTime_nextTick (s : Dev) (n cycles : Nat) (dt : Rat) : (s.passTime n cycles dt).seq.nextTick = (n + 1) % 80 :=
  (congrArg SeqSt.nextTick (each_seqKey _ _ _ fun d _ => gladeSecond_seqKey d) :)

theorem wholeTick_nextTick (s : Dev) (i : TickIn) (n : Nat) : (s.wholeTick i n).seq.nextTick = (n + 1) % 80 := by
  unfold Dev.wholeTick
  dsimp only
  rw [passTime_nextTick]

theorem showAlign_clock_seq (d : Dev) (x : ClkSt) (free aligned : Bool) :
    (({ d with clk := x } : Dev).showAlign free aligned).seq = d.seq := rfl

theorem adjustedTick_nextTick (s : Dev) (n : Nat) (r : Rat) : (s.adjustedTick n r).seq.nextTick = (n + 1) % 80 := by
  unfold Dev.adjustedTick
  exact (congrArg SeqSt.nextTick (showAlign_clock_seq _ _ _ _)).trans (passTime_nextTick _ n _ _)

theorem tickCommand_of_step (s : Dev) (i : TickIn) (hcrit : i.critical = none) {r : Rat} (hadj : s.seq.adjLen = some r) :
    s.tickCommand i = (s.tickTaken i).adjustedTick s.seq.nextTick r := by
  have htaken : (s.tickTaken i).seq.adjLen = some r := (congrArg SeqSt.adjLen (tickTaken_seqKey s i) :).trans hadj
  unfold Dev.tickCommand
  dsimp only
  split
  next r' hr =>
    obtain rfl : r' = r := Option.some.inj (hr.symm.trans htaken)
    rw [Dev.tickCritical, hcrit]
    rfl
  next hr => exact absurd (hr.symm.trans htaken) (Option.some_ne_none r).symm

theorem tickCommand_nextTick (s : Dev) (i : TickIn) (hcrit : i.critical = none) :
    (s.tickCommand i).seq.nextTick = (s.seq.nextTick + 1) % 80 := by
  cases hadj : s.seq.adjLen with
  | none => rw [tickCommand_of_no_step s i hcrit hadj, wholeTick_nextTick]
  | some r => rw [tickCommand_of_step s i hcrit hadj, adjustedTick_nextTick]

/-! The end of the adjusted tick. -/

theorem showAlign_bits (s : Dev) (free aligned : Bool) :
    (s.showAlign free aligned).bit GLB_TICK_STAT 10 = free ∧ (s.showAlign free aligned).bit GLB_TICK_STAT 8 = aligned := by
  unfold Dev.showAlign
  exact ⟨(bit_setBit_ne _ _ _ _ _ (by decide) (by decide)).trans (bit_setBit_same _ _ _ _ (by decide)),
    bit_setBit_same _ _ _ _ (by decide)⟩

theorem adjustedTick_aligned (s : Dev) (n : Nat) (r : Rat) : (s.adjustedTick n r).clk.localNs = s.clk.localNs + r ∧
    (s.adjustedTick n r).bit GLB_TICK_STAT 10 = false ∧ (s.adjustedTick n r).bit GLB_TICK_STAT 8 = true :=
  ⟨rfl, showAlign_bits _ false true⟩

/-- Settles O12: time passes to the next tick, and the adjusted tick ends where the step asks. -/
theorem tickAdvances : Obligations.TickAdvances := by
  unfold Obligations.TickAdvances
  refine fun i s hcrit => ⟨answers_of_done rfl ?_, fun r hadj => answers_of_done rfl ?_⟩
  · exact (congrArg SeqSt.nextTick (settle_seq _)).trans (tickCommand_nextTick s.toDev i hcrit)
  · obtain ⟨hns, hfree, haligned⟩ := adjustedTick_aligned (s.toDev.tickTaken i) s.seq.nextTick r
    rw [← tickCommand_of_step s.toDev i hcrit hadj] at hns hfree haligned
    rw [tickTaken_clk] at hns
    exact ⟨(congrArg ClkSt.localNs (settle_clk _)).trans hns, (settle_bit _ _ _ (by decide) (by decide)).trans hfree,
      (settle_bit _ _ _ (by decide) (by decide)).trans haligned⟩

end Sys2Proof.Machine
end

section
/-! O13: what a cycle boundary takes up, the count of cycles and the mode table (R25, R38, R42). -/

namespace Sys2Proof.Machine

theorem mode_of_glbKey {s t : Dev} (h : s.glbKey = t.glbKey) : s.mode = t.mode :=
  fld_of_rd _ _ _ _ _ (congrArg Prod.fst h)

theorem cycles_of_glbKey {s t : Dev} (h : s.glbKey = t.glbKey) : s.cycles = t.cycles :=
  congrArg BitVec.toNat (congrArg Prod.snd h :)

/-- Contexts are counted by the states that their registers show. -/
theorem runCnt_of_states {s t : Dev} (h : ∀ c, s.ctxState c = t.ctxState c) : s.runCnt = t.runCnt := by
  unfold Dev.runCnt
  simp only [h]

/-! The begin of the cycle. -/

/-- The device as the cycle begins, before it is counted (R25, R42, R54). -/
def Dev.cycleTaken (s : Dev) : Dev :=
  let s := if s.seq.abortGrove then s else s.setFld LOOP_ENG_STAT 15 8 (min 255 s.loop.resCycle)
  { s with seq.nextTick := 0, seq.abortGrove := false, seq.adjLen := none, seq.tickCfg := s.rd GLB_TICK_CFG,
           clk.cycleNs := s.clk.localNs, loop.resCycle := 0 }

theorem beginCycle_eq (s : Dev) : s.beginCycle = if s.seq.cyc = 0 then s.cycleTaken else s.cycleTaken.cntWrap GLB_CYCLE_CNT 31 0 1 := by
  unfold Dev.beginCycle
  dsimp only
  by_cases h : s.seq.cyc = 0
  · rw [if_pos h, if_pos (decide_eq_true h)]
    rfl
  · rw [if_neg h, if_neg (by rw [decide_eq_false h]; exact Bool.false_ne_true)]
    rfl

theorem cycleTaken_rd (s : Dev) {a : Nat} (h : a ≠ LOOP_ENG_STAT) : s.cycleTaken.rd a = s.rd a := by
  refine Eq.trans (?_ : _ = (if s.seq.abortGrove then s else s.setFld LOOP_ENG_STAT 15 8 (min 255 s.loop.resCycle)).rd a) ?_
  · rfl
  · split_ifs
    · rfl
    · exact rd_setFld_ne _ _ _ _ _ _ h

theorem cycleTaken_seq (s : Dev) : s.cycleTaken.seq.heldCmd = s.seq.heldCmd ∧ s.cycleTaken.seq.tickCfg = s.rd GLB_TICK_CFG := by
  unfold Dev.cycleTaken
  dsimp only
  split_ifs
  · exact ⟨rfl, rfl⟩
  · exact ⟨rfl, rd_setFld_ne _ _ _ _ _ _ (by decide)⟩

theorem beginCycle_seq (s : Dev) : s.beginCycle.seq = s.cycleTaken.seq := by
  rw [beginCycle_eq]
  split_ifs <;> rfl

theorem beginCycle_rd (s : Dev) {a : Nat} (h : a ≠ LOOP_ENG_STAT) (hcount : a ≠ GLB_CYCLE_CNT) : s.beginCycle.rd a = s.rd a := by
  rw [beginCycle_eq]
  split_ifs
  · exact cycleTaken_rd s h
  · exact (rd_cntWrap_ne _ _ _ _ _ _ hcount).trans (cycleTaken_rd s h)

theorem beginCycle_first (s : Dev) (h : s.seq.cyc = 0) : s.beginCycle.cycles = s.cycles := by
  rw [beginCycle_eq, if_pos h]
  exact congrArg BitVec.toNat (cycleTaken_rd s (by decide))

theorem cycles_eq_fld (s : Dev) : s.cycles = s.fld GLB_CYCLE_CNT 31 0 := by
  unfold Dev.cycles Dev.fld bitsOf
  rw [pow_zero, Nat.div_one]
  exact (Nat.mod_eq_of_lt (BitVec.isLt _)).symm

theorem beginCycle_counts (s : Dev) (h : s.seq.cyc ≠ 0) : s.beginCycle.cycles = (s.cycles + 1) % 2 ^ 32 := by
  rw [beginCycle_eq, if_neg h, cycles_eq_fld, cycles_eq_fld, fld_cntWrap_same _ _ _ _ _ (by decide) (by decide),
    fld_of_rd _ _ _ _ _ (cycleTaken_rd s (by decide))]

theorem beginCycle_table (s : Dev) : s.beginCycle.mode = s.mode ∧ s.beginCycle.commissioned = s.commissioned ∧
    s.beginCycle.operateRefused = s.operateRefused := by
  have hmode : s.beginCycle.rd GLB_MODE_STAT = s.rd GLB_MODE_STAT := beginCycle_rd s (by decide) (by decide)
  have hstand : s.beginCycle.rd STAND_STAT = s.rd STAND_STAT := beginCycle_rd s (by decide) (by decide)
  refine ⟨fld_of_rd _ _ _ _ _ hmode, bit_of_rd _ _ _ _ hmode, ?_⟩
  simp only [Dev.operateRefused, Dev.commissioned, Dev.roleBad, Dev.role, Dev.unitNo, Dev.bit, Dev.fld, hmode, hstand]

theorem nextMode_beginCycle (s : Dev) (cmd : Nat) : s.beginCycle.nextMode cmd = s.nextMode cmd := by
  obtain ⟨hmode, hcom, href⟩ := beginCycle_table s
  unfold Dev.nextMode
  rw [hmode, hcom, href]

/-! The mode. -/

section
variable {s : Dev} {cmd : Nat}

theorem nextMode_operate (h : s.mode = 0) (hcmd : cmd = 1) (hok : s.operateRefused = 0) : s.nextMode cmd = 1 := by
  unfold Dev.nextMode
  rw [h]
  exact if_pos ⟨hcmd, hok⟩

theorem nextMode_watch (h : s.mode = 0) (hno : cmd ≠ 1 ∨ s.operateRefused ≠ 0) : s.nextMode cmd = 0 := by
  unfold Dev.nextMode
  rw [h]
  exact if_neg fun hyes => hno.elim (absurd hyes.1) (absurd hyes.2)

/-- In Arming and in Operate the same commands end the mode (R38). -/
theorem nextMode_under_way (h : s.mode = 1 ∨ s.mode = 2) : s.nextMode cmd = if cmd = 2 ∨ !s.commissioned then 0 else 2 := by
  unfold Dev.nextMode
  rcases h with h | h <;> rw [h] <;> rfl

theorem nextMode_stays (h : s.mode = 1 ∨ s.mode = 2) (hcmd : cmd ≠ 2) (hcom : s.commissioned = true) : s.nextMode cmd = 2 := by
  rw [nextMode_under_way h, hcom, if_neg (by simpa using hcmd)]

theorem nextMode_leaves (h : s.mode = 1 ∨ s.mode = 2) (hend : cmd = 2 ∨ s.commissioned = false) : s.nextMode cmd = 0 := by
  rw [nextMode_under_way h, if_pos (by simpa using hend)]

end

theorem nextMode_lt (s : Dev) (cmd : Nat) : s.nextMode cmd < 4 := by
  unfold Dev.nextMode
  split <;> split_ifs <;> decide

theorem modeStep_mode (s : Dev) : s.modeStep.mode = s.nextMode s.seq.heldCmd := by
  unfold Dev.modeStep
  dsimp only
  split_ifs with hsame
  · exact hsame.symm
  · exact hsame.symm
  · refine (mode_of_glbKey (enterMode_glbKey _ _)).trans ?_
    refine (fld_setFld_same _ _ _ _ _ (by decide) (by decide)).trans ?_
    exact Nat.mod_eq_of_lt (nextMode_lt _ _)

theorem modeStep_cycles (s : Dev) : s.modeStep.cycles = s.cycles := by
  unfold Dev.modeStep
  dsimp only
  split_ifs
  · rfl
  · rfl
  · exact (cycles_of_glbKey (enterMode_glbKey _ _)).trans (congrArg BitVec.toNat (rd_setFld_ne _ _ _ _ _ _ (by decide)))

/-! The boundary. -/

theorem cycleBoundary_glbKey (s : Dev) (i : BoundaryIn) : (s.cycleBoundary i).glbKey = s.beginCycle.modeStep.glbKey :=
  (showRun_glbKey _).trans ((enginesAtBoundary_glbKey _ _).trans (align_glbKey _ _))

/-- The adjusted tick that a step leaves to run, by its number and length (R23). -/
def Dev.stepped (s : Dev) (n : Nat) (r : Rat) : Dev :=
  { s with seq.nextTick := n, seq.adjLen := some r, seq.slewTicks := 0, seq.abortGrove := true }

theorem seqStep_eq (s : Dev) (e : Rat) : ∃ n r,
    s.seqStep e = ((s.stepped n r).groveAbort.evI 0x0111 n (roundRat e)).showAlign false false := by
  unfold Dev.seqStep
  dsimp only
  generalize stepTick (s.clk.localNs - 20000000 * ((s.clk.localNs / 20000000).floor : Rat)) = x
  obtain ⟨n, r⟩ := x
  exact ⟨n, r, rfl⟩

/-- The phase error as GLB_TICK_PHASE shows it (R42). -/
def Dev.phaseShown (s : Dev) (e : Rat) : Dev :=
  if s.timeValid then s.wr GLB_TICK_PHASE (BitVec.ofInt 32 (roundRat e)) else s

/-- A sequencer that runs free (R24). -/
def Dev.runsFree (s : Dev) : Dev := { s with seq.freeRunning := true, seq.slewTicks := 0 }

/-- A sequencer that follows local time (R21). -/
def Dev.follows (s : Dev) : Dev := { s with seq.freeRunning := false }

/-- Alignment with the phase error shown (R22 to R24). -/
def Dev.alignFrom (s : Dev) (e : Rat) (watch : Bool) : Dev :=
  if !s.timeValid || !bitOf s.seq.tickCfg.toNat 0 then s.runsFree.showAlign true (s.timeValid && alignedFlag e)
  else if watch && bitOf s.seq.tickCfg.toNat 1 && (s.seq.freeRunning || decide (stepThresh s.seq.tickCfg < absRat e)) then
    s.follows.seqStep e
  else (s.follows.seqSlew e).showAlign false (alignedFlag e)

theorem align_eq (s : Dev) (watch : Bool) :
    s.align watch = (s.phaseShown (phaseError s.clk.localNs)).alignFrom (phaseError s.clk.localNs) watch := rfl

/-- Held request and settings in force, which the alignment leaves. -/
def Dev.taken (s : Dev) : Nat × Word := (s.seqKey.heldCmd, s.seqKey.tickCfg)

theorem taken_of_seqKey {s t : Dev} (h : s.seqKey = t.seqKey) : s.taken = t.taken := by unfold Dev.taken; rw [h]

theorem seqStep_taken (s : Dev) (e : Rat) : (s.seqStep e).taken = s.taken := by
  obtain ⟨n, r, h⟩ := seqStep_eq s e
  rw [h, taken_of_seqKey ((showAlign_seqKey _ _ _).trans ((evI_seqKey _ _ _ _).trans (groveAbort_seqKey _)))]
  rfl

theorem align_taken (s : Dev) (watch : Bool) : (s.align watch).taken = s.taken := by
  have hshown : ∀ e, (s.phaseShown e).taken = s.taken := fun e => by
    unfold Dev.phaseShown
    split_ifs <;> rfl
  rw [align_eq, ← hshown (phaseError s.clk.localNs)]
  generalize s.phaseShown (phaseError s.clk.localNs) = d
  unfold Dev.alignFrom
  split_ifs
  · exact (taken_of_seqKey (showAlign_seqKey _ _ _)).trans rfl
  · exact seqStep_taken _ _
  · exact (taken_of_seqKey (showAlign_seqKey _ _ _)).trans rfl

theorem cycleBoundary_taken (s : Dev) (i : BoundaryIn) : (s.cycleBoundary i).taken = (0, s.rd GLB_TICK_CFG) := by
  unfold Dev.cycleBoundary
  dsimp only
  rw [taken_of_seqKey ((showRun_seqKey _).trans (enginesAtBoundary_seqKey _ i)), align_taken]
  unfold Dev.taken
  rw [modeStep_seqKey]
  have hcfg : s.beginCycle.seq.tickCfg = s.rd GLB_TICK_CFG := (congrArg SeqSt.tickCfg (beginCycle_seq s)).trans (cycleTaken_seq s).2
  exact congrArg (Prod.mk 0) hcfg

theorem cycleBoundary_mode (s : Dev) (i : BoundaryIn) : (s.cycleBoundary i).mode = s.nextMode s.seq.heldCmd := by
  rw [mode_of_glbKey (cycleBoundary_glbKey s i), modeStep_mode, nextMode_beginCycle, beginCycle_seq, (cycleTaken_seq s).1]

theorem cycleBoundary_cycles (s : Dev) (i : BoundaryIn) : (s.cycleBoundary i).cycles = s.beginCycle.cycles :=
  (cycles_of_glbKey (cycleBoundary_glbKey s i)).trans (modeStep_cycles _)

theorem ctxStat_apart (c : Nat) : LOOP_CTX_STAT c ≠ SAFE_OUT_STAT ∧ LOOP_CTX_STAT c ≠ SAFE_STAT := by
  simp only [LOOP_CTX_STAT, loopWin, SAFE_OUT_STAT, SAFE_STAT]
  omega

theorem ctxState_keeps {s d : Dev} (h : ∀ a, a ≠ LOOP_ENG_STAT → d.rd a = s.rd a) (c : Nat) : d.ctxState c = s.ctxState c :=
  fld_of_rd _ _ _ _ _ (h _ (by simp only [LOOP_CTX_STAT, loopWin, LOOP_ENG_STAT]; omega))

theorem showRun_counts (s : Dev) : s.showRun.settle.fld LOOP_ENG_STAT 6 0 = s.showRun.settle.runCnt % 128 := by
  have hstates : s.showRun.settle.runCnt = s.runCnt := runCnt_of_states fun c => (settle_fld _ _ _ _ (ctxStat_apart c).1 (ctxStat_apart c).2).trans
    (ctxState_keeps (fun a ha => rd_setFld_ne _ _ _ _ _ _ ha) c)
  rw [hstates, settle_fld _ _ _ _ (by decide) (by decide)]
  exact fld_setFld_same _ _ _ _ _ (by decide) (by decide)

/-- Settles O13: the boundary's requests and counts, and the mode table. -/
theorem cycleBoundary : Obligations.CycleBoundary := by
  unfold Obligations.CycleBoundary
  refine ⟨fun i s => answers_of_done rfl ?_, fun i s => answers_of_done rfl ?_⟩
  · have htaken := cycleBoundary_taken s.toDev i
    have hcycles : (s.toDev.cycleBoundary i).settle.cycles = s.toDev.beginCycle.cycles :=
      (congrArg BitVec.toNat (settle_rd _ _ (by decide) (by decide))).trans (cycleBoundary_cycles s.toDev i)
    exact ⟨(congrArg SeqSt.heldCmd (settle_seq _)).trans (congrArg Prod.fst htaken :),
      (congrArg SeqSt.tickCfg (settle_seq _)).trans (congrArg Prod.snd htaken :),
      fun h => hcycles.trans (beginCycle_first s.toDev h), fun h => hcycles.trans (beginCycle_counts s.toDev h), showRun_counts _⟩
  · have hmode : (s.toDev.cycleBoundary i).settle.mode = s.toDev.nextMode s.seq.heldCmd :=
      (settle_fld _ _ _ _ (by decide) (by decide)).trans (cycleBoundary_mode s.toDev i)
    exact ⟨fun h hcmd hok => hmode.trans (nextMode_operate h hcmd hok), fun h hno => hmode.trans (nextMode_watch h hno),
      fun h hcmd hcom => hmode.trans (nextMode_stays h hcmd hcom), fun h hend => hmode.trans (nextMode_leaves h hend)⟩

end Sys2Proof.Machine
end

section
/-! O17: a commit that passes, one that a block refuses, and a boundary without a request (R37, R55, R420, R422). -/

namespace Sys2Proof.Machine

/-! The result of an image leaves the Loom's engines to themselves. -/

/-- The engines of the Loom's tables. -/
def Dev.loom (d : Dev) : LoopSt × ProfSt × EstSt × AllocSt := (d.loop, d.prof, d.est, d.alloc)

theorem report_loom (d : Dev) (p cls content : Nat) (body : List Byte) : (d.report p cls content body).loom = d.loom := by
  have hstages : d.report p cls content body = if (d.reportCount p).repFits p ((padSlots body).length / 32)
      then (d.reportCount p).reportPut p cls content (padSlots body) else (d.reportCount p).reportDrop p := rfl
  rw [hstages]
  unfold Dev.reportDrop
  dsimp only
  split_ifs <;> rfl

theorem endDesc_loom (d : Dev) (p status : Nat) : (d.endDesc p status).loom = d.loom := by
  simp only [Dev.endDesc, Dev.endCount]
  split_ifs <;> rfl

theorem imageDone_loom (d : Dev) (j : ImgJob) (res : Nat) : (d.imageDone j res).loom = d.loom := by
  have hshown : ((if res = 8 then d else d.imgStat 0 res j.bytes).raise 0x78).loom = d.loom := by split_ifs <;> rfl
  unfold Dev.imageDone
  dsimp only
  split
  · exact hshown
  · exact (report_loom _ _ _ _ _).trans ((endDesc_loom _ _ _).trans hshown)

theorem imageReject_loom (d : Dev) (j : ImgJob) (res : Nat) : (d.imageReject j res).loom = d.loom := imageDone_loom _ j res

theorem imageBurn_loom (d : Dev) (j : ImgJob) (res : Nat) : (d.imageBurn j res).loom = d.loom := by
  unfold Dev.imageBurn
  dsimp only
  split_ifs
  · rfl
  · exact imageDone_loom _ _ _

theorem imageToStore_loom (d : Dev) (j : ImgJob) : (d.imageToStore j).loom = d.loom := by
  unfold Dev.imageToStore
  dsimp only
  split_ifs
  · rfl
  · exact imageBurn_loom _ _ _
  · exact imageDone_loom _ _ _

theorem imageToStore_reg (d : Dev) (j : ImgJob) {a : Nat} (ha : GladeReg a) : (d.imageToStore j).rd a = d.rd a := by
  unfold Dev.imageToStore
  dsimp only
  split_ifs
  · exact ((Beside.refl ({ d with glade.job := some { j with wait := 2 } } : Dev)).imgStat _ _ _).regs a ha
  · exact (imageBurn_spec _ _ _).1 a ha
  · exact ((Beside.refl ({ d with glade.job := none } : Dev)).imageDone _ _).regs a ha

/-! A commit that passes keeps the model of its tables. -/

/-- The hull model and the rule of the origin (R108, R110). -/
def Dev.estTables (d : Dev) : List Word × Word := (d.est.model, d.est.originRule)

theorem commitCtx_estTables (old d : Dev) (c : Nat) : (commitCtx old d c).estTables = d.estTables := by
  unfold commitCtx
  dsimp only
  split_ifs
  · exact each_keeps Dev.estTables (fun (d : Dev) a => d.wr a 0) (fun _ _ => rfl) _ d
  · rfl
  · rfl

theorem commitGen_estTables (old d : Dev) (g : Nat) : (commitGen old d g).estTables = d.estTables := by
  unfold commitGen
  dsimp only
  split_ifs <;> rfl

theorem commitField_estTables (old d : Dev) (k : Nat) : (commitField old d k).estTables = d.estTables := by
  unfold commitField
  split_ifs <;> rfl

theorem refsCommit_estTables (d : Dev) : d.refsCommit.estTables = d.estTables := by
  unfold Dev.refsCommit
  refine each_keeps Dev.estTables _ ?_ _ d
  exact fun _ _ => rfl

/-- A thruster that the commit takes away (R163). -/
def Dev.thrusterDropped (d : Dev) (t : Nat) : Dev :=
  let d := ((d.setBit ALLOC_THR_AVAIL t false).setBit ALLOC_ZONE_IN t false).wr (ALLOC_THR_STAT t) 0
  let d := ((d.wr (ALLOC_THR_FX t) 0).wr (ALLOC_THR_FY t) 0).wr (ALLOC_THR_ANG t) 0
  { d with alloc.f0 := setAt d.alloc.f0 t (0, 0), alloc.zoneEdge := eraseKey t d.alloc.zoneEdge }

/-- A failure group after the commit, with the groups before it and behind it (R163). -/
def Dev.groupTaken (old s d : Dev) (g : Nat) : Dev :=
  let thrust (d : Dev) (g : Nat) : Bool := d.groups.contains g && d.grpKind g != 3
  if thrust s g && !thrust old g then d.groupFresh g
  else if (!s.groups.contains g && old.groups.contains g) || (thrust old g && !thrust s g) then
    (d.groupFresh g).wr (ALLOC_GRP_STAT g) 0
  else d

theorem allocCommit_eq (d old : Dev) : ∃ ts s gs, d.allocCommit old =
    (((d.setFld ALLOC_STAT 12 8 d.thrusters.length).setFld ALLOC_STAT 21 16 d.groups.length).each ts Dev.thrusterDropped).each gs
      (Dev.groupTaken old s) := ⟨_, _, _, rfl⟩

theorem groupTaken_estTables (old s d : Dev) (g : Nat) : (Dev.groupTaken old s d g).estTables = d.estTables := by
  unfold Dev.groupTaken
  dsimp only
  split_ifs <;> rfl

theorem allocCommit_estTables (d old : Dev) : (d.allocCommit old).estTables = d.estTables := by
  obtain ⟨ts, s, gs, h⟩ := allocCommit_eq d old
  rw [h, each_keeps Dev.estTables _ (groupTaken_estTables old s), each_keeps Dev.estTables Dev.thrusterDropped fun _ _ => rfl]
  rfl

/-- The tables of a commit with its contexts, generators and receive fields (R56, R72, R103, R266). -/
def Dev.commitLive (d old : Dev) : Dev :=
  ((d.each ctxNums (commitCtx old)).each ((List.range 131).drop 1) (commitGen old)).each (List.range 256) (commitField old)

/-- What a commit notes of its sections, and the restarts that it asks of the estimator (R107, R110). -/
def Dev.commitNotes (d old : Dev) (sects : List Nat) : Dev :=
  let s := ({ d with glade.sects := d.glade.sects ++ sects.filter fun k => !d.glade.sects.contains k } : Dev)
  let s := if sects.contains 4 ∧ s.positions ∧ s.estState = 0 then { s with est.startPending := true } else s
  if s.positions ∧ s.estState ≠ 0 ∧ (estChanged old s).isSome then { s with est.reinitPending := true } else s

theorem commitApply_eq (d : Dev) (ws : List (Nat × Word)) (sects : List Nat) (est : Option (List Byte)) :
    d.commitApply ws sects est =
      (((((d.withTables ws est).commitLive d).commitNotes d sects).refsCommit).allocCommit d).ev 0x020E 1 0 := rfl

theorem commitNotes_estTables (d old : Dev) (sects : List Nat) : (d.commitNotes old sects).estTables = d.estTables := by
  unfold Dev.commitNotes
  dsimp only
  split_ifs <;> rfl

theorem commitLive_estTables (d old : Dev) : (d.commitLive old).estTables = d.estTables := by
  unfold Dev.commitLive
  rw [each_keeps Dev.estTables _ (commitField_estTables old), each_keeps Dev.estTables _ (commitGen_estTables old),
    each_keeps Dev.estTables _ (commitCtx_estTables old)]

theorem commitApply_estTables (d : Dev) (ws : List (Nat × Word)) (sects : List Nat) (est : Option (List Byte)) :
    (d.commitApply ws sects est).estTables = (d.withTables ws est).estTables := by
  rw [commitApply_eq]
  refine Eq.trans (rfl : _ = (Dev.allocCommit _ d).estTables) ?_
  rw [allocCommit_estTables, refsCommit_estTables, commitNotes_estTables, commitLive_estTables]

/-! The commit at the boundary. -/

/-- The device of a commit that has passed, with its image in force (R37, R420). -/
def Dev.commitShown (d : Dev) (b : List Byte) : Dev := ((d.setBit GLB_MODE_STAT 8 true).setBit GLB_HW_STAT 2 true).imageInForce b

/-- The image of a passed commit goes on to its fuses or its store (R423, R424). -/
def Dev.commitEnd (d : Dev) (j : ImgJob) : Dev :=
  if j.boot then d.imageBurn j (if d.imageStore then 0 else 9) else d.imageToStore j

theorem commitEnd_loom (d : Dev) (j : ImgJob) : (d.commitEnd j).loom = d.loom := by
  unfold Dev.commitEnd
  split_ifs
  · exact imageBurn_loom _ _ _
  · exact imageBurn_loom _ _ _
  · exact imageToStore_loom _ _

theorem commitEnd_reg (d : Dev) (j : ImgJob) {a : Nat} (ha : GladeReg a) : (d.commitEnd j).rd a = d.rd a := by
  unfold Dev.commitEnd
  split
  · exact (imageBurn_spec _ _ _).1 a ha
  · exact imageToStore_reg d j ha

theorem commitShown_bits (d : Dev) (b : List Byte) : (d.commitShown b).bit GLB_MODE_STAT 8 = true ∧
    (d.commitShown b).bit GLB_HW_STAT 2 = true := by
  refine ⟨(bit_setBit_other _ _ _ _ _ _ (by decide)).trans (bit_setBit_same _ _ _ _ (by decide)), ?_⟩
  exact bit_setBit_same _ _ _ _ (by decide)

/-- Sections of an image, by number (R421). -/
def ImgJob.sects (j : ImgJob) : List Nat := ((imgSects j.bytes).getD []).map Prod.fst

/-- The estimator's section of an image (R108). -/
def ImgJob.estSect (j : ImgJob) : Option (List Byte) := (((imgSects j.bytes).getD []).find? fun x => x.1 == 4).map Prod.snd

/-- The writes of an image that a commit makes live (R420, R465). -/
def ImgJob.writes (j : ImgJob) (d : Dev) : List (Nat × Word) := if j.boot then d.bootable (imgWrites j.bytes) else imgWrites j.bytes

section
variable {s : State} {j : ImgJob}

theorem commitTables_eq (s : State) (j : ImgJob) :
    commitTables s j = ({ s.toDev with glade.job := none }, Dev.withTables { s.toDev with glade.job := none } (j.writes s.toDev) j.estSect) := rfl

theorem commitNow_passes (hjob : s.glade.job = some j) (hwait : j.wait = 1)
    (hok : commitFault (commitTables s j).1 (commitTables s j).2 j.sects = none)
    (hsafe : j.boot = true ∨ (commitTables s j).1.safeRefused j.bytes = none) :
    s.toDev.commitNow =
      (((commitTables s j).1.commitApply (j.writes s.toDev) j.sects j.estSect).commitShown j.bytes).commitEnd j := by
  have hnone : (if j.boot then none else (commitTables s j).1.safeRefused j.bytes) = none := by
    rcases hsafe with h | h
    · exact if_pos h
    · rw [h, ite_self]
  unfold Dev.commitNow
  rw [hjob]
  refine (if_neg (not_not.mpr hwait)).trans ?_
  dsimp only
  split
  next h => cases hok.symm.trans h
  next =>
    split
    next h => cases hnone.symm.trans h
    next => rfl

theorem commitNow_refused (hjob : s.glade.job = some j) (hwait : j.wait = 1) {code p1 p2 : Nat}
    (hbad : commitFault (commitTables s j).1 (commitTables s j).2 j.sects = some (code, p1, p2)) :
    s.toDev.commitNow = ((commitTables s j).1.ev code p1 p2).imageReject j 6 := by
  unfold Dev.commitNow
  rw [hjob]
  refine (if_neg (not_not.mpr hwait)).trans ?_
  dsimp only
  split
  next h =>
    cases hbad.symm.trans h
    rfl
  next h => cases hbad.symm.trans h

theorem commit_passes (hjob : s.glade.job = some j) (hwait : j.wait = 1)
    (hok : commitFault (commitTables s j).1 (commitTables s j).2 j.sects = none)
    (hsafe : j.boot = true ∨ (commitTables s j).1.safeRefused j.bytes = none) :
    Answers .commit s fun t => t.commissioned = true ∧ t.bit GLB_HW_STAT 2 = true ∧ t.est.model = (commitTables s j).2.est.model ∧
          t.est.originRule = (commitTables s j).2.est.originRule := by
  have hest : ((commitTables s j).1.commitApply (j.writes s.toDev) j.sects j.estSect).estTables = (commitTables s j).2.estTables :=
    commitApply_estTables (commitTables s j).1 (j.writes s.toDev) j.sects j.estSect
  have hdone := commitNow_passes hjob hwait hok hsafe
  generalize (commitTables s j).1.commitApply (j.writes s.toDev) j.sects j.estSect = d at hest hdone
  obtain ⟨hcom, hhw⟩ := commitShown_bits d j.bytes
  have hlive : ((d.commitShown j.bytes).commitEnd j).est = d.est :=
    (congrArg (fun x : LoopSt × ProfSt × EstSt × AllocSt => x.2.2.1) (commitEnd_loom (d.commitShown j.bytes) j) :)
  have hkept : ∀ (a i : Nat), GladeReg a → a ≠ SAFE_OUT_STAT → a ≠ SAFE_STAT →
      ((d.commitShown j.bytes).commitEnd j).settle.bit a i = (d.commitShown j.bytes).bit a i := fun a i ha hout hstat =>
    (settle_bit _ _ _ hout hstat).trans (bit_of_rd _ _ _ _ (commitEnd_reg _ j ha))
  have htables : ((d.commitShown j.bytes).commitEnd j).settle.estTables = (commitTables s j).2.estTables := by
    rw [← hest]
    unfold Dev.estTables
    rw [settle_est, hlive]
  refine answers_of_done (congrArg (done s) hdone) ⟨(hkept _ _ ?_ (by decide) (by decide)).trans hcom,
    (hkept _ _ ?_ (by decide) (by decide)).trans hhw, (congrArg Prod.fst htables :), (congrArg Prod.snd htables :)⟩
  · exact ⟨by decide, by decide, by decide, by decide⟩
  · exact ⟨by decide, by decide, by decide, by decide⟩

theorem raised_ev (d : Dev) (code p1 p2 : Nat) : ∃ e, e ∈ (d.ev code p1 p2).log.raised ∧ e.code = code ∧ e.p1 = BitVec.ofNat 32 p1 ∧
    e.p2 = BitVec.ofNat 32 p2 := by
  unfold Dev.ev Dev.evW
  exact ⟨_, List.mem_append_right _ (List.mem_singleton_self _), rfl, rfl, rfl⟩

theorem commit_refused (hjob : s.glade.job = some j) (hwait : j.wait = 1) (code p1 p2 : Nat)
    (hbad : commitFault (commitTables s j).1 (commitTables s j).2 j.sects = some (code, p1, p2)) :
    Answers .commit s fun t => t.commissioned = s.commissioned ∧ t.glade.job = none ∧ t.loop = s.loop ∧ t.prof = s.prof ∧
          t.est = s.est ∧ t.alloc = s.alloc ∧
          ∃ e, e ∈ t.log.raised ∧ e.code = code ∧ e.p1 = BitVec.ofNat 32 p1 ∧ e.p2 = BitVec.ofNat 32 p2 := by
  have hdone := commitNow_refused hjob hwait hbad
  have hd : (commitTables s j).1 = { s.toDev with glade.job := none } := rfl
  rw [hd] at hdone
  have hraised : Beside (Dev.ev { s.toDev with glade.job := none } code p1 p2)
      ((Dev.ev { s.toDev with glade.job := none } code p1 p2).imageReject j 6) := ((Beside.refl _).ev _ _ _).imageDone _ _
  have hloom := imageReject_loom (Dev.ev { s.toDev with glade.job := none } code p1 p2) j 6
  refine answers_of_done (congrArg (done s) hdone) ⟨?_, ?_, ?_, ?_, ?_, ?_, ?_⟩
  · refine (settle_bit _ _ _ (by decide) (by decide)).trans (bit_of_rd _ _ _ _ (hraised.regs _ ?_))
    exact ⟨by decide, by decide, by decide, by decide⟩
  · exact (congrArg GladeSt.job (settle_glade _)).trans (congrArg GladeSt.job hraised.glade)
  · exact (settle_loop _).trans (congrArg (fun x : LoopSt × ProfSt × EstSt × AllocSt => x.1) hloom :)
  · exact (settle_prof _).trans (congrArg (fun x : LoopSt × ProfSt × EstSt × AllocSt => x.2.1) hloom :)
  · exact (settle_est _).trans (congrArg (fun x : LoopSt × ProfSt × EstSt × AllocSt => x.2.2.1) hloom :)
  · exact (settle_alloc _).trans (congrArg (fun x : LoopSt × ProfSt × EstSt × AllocSt => x.2.2.2) hloom :)
  · refine (raised_ev ({ s.toDev with glade.job := none } : Dev) code p1 p2).imp fun e he => ⟨?_, he.2⟩
    rw [settle_log]
    exact hraised.event he.1

theorem commit_none (hjob : s.glade.job = none) : Answers .commit s fun t => OnlyRegs [] s t ∧ NoEvent s t := by
  refine noEffect_of_done rfl ?_
  unfold Dev.commitNow
  rw [hjob]

end

/-- Settles O17: a commit takes effect where every block accepts it. -/
theorem commitTakesEffect : Obligations.CommitTakesEffect := by
  unfold Obligations.CommitTakesEffect
  exact fun s => ⟨commit_none, fun j hjob hwait => ⟨commit_passes hjob hwait, commit_refused hjob hwait⟩⟩

end Sys2Proof.Machine
end

section
/-! O58: the sources of a reset, and the one in progress that a source joins or replaces (R457, R458, R460, R474). -/

namespace Sys2Proof.Machine

/-- The reset in progress once a source has arisen: started, joined or replaced (R460). -/
def runWith (o : Option RstRun) (bits src kind bo : Nat) : RstRun :=
  match o with
  | none => { bits := bits, src := src, kind := kind, bo := bo }
  | some r =>
    let r := { r with bits := r.bits ||| bits, bo := r.bo ||| bo }
    if kind < r.kind then { r with src := src, kind := kind, taken := false } else r

theorem runWith_joined {r : RstRun} {bits src kind bo : Nat} (h : r.kind ≤ kind) :
    runWith (some r) bits src kind bo = { r with bits := r.bits ||| bits, bo := r.bo ||| bo } := if_neg (Nat.not_lt.mpr h)

theorem runWith_replaced {r : RstRun} {bits src kind bo : Nat} (h : kind < r.kind) : runWith (some r) bits src kind bo =
    { r with bits := r.bits ||| bits, bo := r.bo ||| bo, src := src, kind := kind, taken := false } := if_pos h

theorem rstSource_eq (d : Dev) (bits src kind bo : Nat) : d.rstSource bits src kind bo =
    ({ d.orMask RST_CAUSE bits with rst := { d.rst with run := some (runWith d.rst.run bits src kind bo) } } : Dev).rstLast
      (runWith d.rst.run bits src kind bo) := by
  unfold Dev.rstSource
  dsimp only
  split
  next h => rw [show d.rst.run = none from h]; rfl
  next r h => rw [show d.rst.run = some r from h]; rfl

/-- A source changes the causes, RST_LAST and the reset in progress alone (R474). -/
theorem rstSource_effect (d : Dev) (bits src kind bo : Nat) : Effect [RST_CAUSE, RST_LAST] d (d.rstSource bits src kind bo)
    { blocks d with rst := { d.rst with run := some (runWith d.rst.run bits src kind bo) } } := by
  rw [rstSource_eq]
  exact ((((Effect.refl [RST_CAUSE, RST_LAST] d).orMask (by simp) bits).rst _).wrN (by simp) _)

theorem rstSource_cause (d : Dev) (bits src kind bo : Nat) :
    (d.rstSource bits src kind bo).rd RST_CAUSE = d.rd RST_CAUSE ||| BitVec.ofNat 32 bits := by
  rw [rstSource_eq]
  refine (rd_wr_ne _ _ _ _ (by decide)).trans ?_
  exact rd_wr_same _ _ _

theorem rstSource_last (d : Dev) (bits src kind bo : Nat) : (d.rstSource bits src kind bo).rd RST_LAST =
    BitVec.ofNat 32 ((runWith d.rst.run bits src kind bo).src + 16 * (runWith d.rst.run bits src kind bo).kind +
      256 * (runWith d.rst.run bits src kind bo).bo) := by
  rw [rstSource_eq]
  exact rd_wr_same _ _ _

theorem rstSource_raised (d : Dev) (bits src kind bo : Nat) : (d.rstSource bits src kind bo).log = d.log := by
  rw [rstSource_eq]
  rfl

section
variable {s : State} {c : Instr} {bits src kind bo : Nat}

/-- The supplies that a source shows in the device (R458). -/
def Dev.lowWith (d : Dev) (bo : Nat) : Dev := { d with rst.low := d.rst.low ||| bo }

theorem resetSource_done (h : resetSource c bits src kind bo) : exec c s = done s ((s.toDev.lowWith bo).rstSource bits src kind bo) := by
  have hnone : s.toDev.lowWith 0 = s.toDev := by
    unfold Dev.lowWith
    rw [Nat.or_zero]
  rcases h with ⟨rfl, rfl, rfl, rfl, rfl⟩ | ⟨rfl, rfl, rfl, rfl, rfl⟩ | ⟨rfl, rfl, rfl, rfl, rfl⟩ | ⟨m, rfl, hm, rfl, rfl, rfl, rfl⟩
  · rw [hnone]; rfl
  · rw [hnone]; rfl
  · rw [hnone]; rfl
  · exact congrArg (done s) (if_neg fun h0 => hm (BitVec.eq_of_toNat_eq h0))

theorem source_shown (h : resetSource c bits src kind bo) : Answers c s fun t =>
    t.rd RST_CAUSE = s.rd RST_CAUSE ||| BitVec.ofNat 32 bits ∧ RegsBut [RST_CAUSE, RST_LAST] s t ∧ NoEvent s t :=
  answers_of_done (resetSource_done h) ⟨(settle_rd _ _ (by decide) (by decide)).trans (rstSource_cause _ _ _ _ _),
    fun a ha hout hstat => (settle_rd _ _ hout hstat).trans ((rstSource_effect (s.toDev.lowWith bo) bits src kind bo).regs a ha),
    noEvent_after (congrArg LogSt.raised (rstSource_raised (s.toDev.lowWith bo) bits src kind bo))⟩

theorem source_run (h : resetSource c bits src kind bo) : Answers c s fun t =>
    t.rst.run = some (runWith s.rst.run bits src kind bo) ∧ t.rst.low = s.rst.low ||| bo ∧
      t.rd RST_LAST = BitVec.ofNat 32 ((runWith s.rst.run bits src kind bo).src + 16 * (runWith s.rst.run bits src kind bo).kind +
        256 * (runWith s.rst.run bits src kind bo).bo) := by
  have hrst : ((s.toDev.lowWith bo).rstSource bits src kind bo).settle.rst =
      { (s.toDev.lowWith bo).rst with run := some (runWith s.rst.run bits src kind bo) } :=
    (settle_rst _).trans (congrArg Dev.rst (rstSource_effect (s.toDev.lowWith bo) bits src kind bo).engines :)
  exact answers_of_done (resetSource_done h) ⟨congrArg RstSt.run hrst, congrArg RstSt.low hrst,
    (settle_rd _ _ (by decide) (by decide)).trans (rstSource_last _ _ _ _ _)⟩

theorem source_starts (h : resetSource c bits src kind bo) (hrun : s.rst.run = none) : Answers c s fun t =>
    t.rst.run = some { bits := bits, src := src, kind := kind, bo := bo } ∧ t.rd RST_LAST = BitVec.ofNat 32 (src + 16 * kind + 256 * bo) := by
  obtain ⟨t, hc, hq, hr, -, hlast⟩ := source_run (s := s) h
  rw [hrun] at hr hlast
  exact ⟨t, hc, hq, hr, hlast⟩

theorem source_joins (h : resetSource c bits src kind bo) (r : RstRun) (hrun : s.rst.run = some r) (hkind : r.kind ≤ kind) :
    Answers c s fun t => t.rst.run = some { r with bits := r.bits ||| bits, bo := r.bo ||| bo } := by
  obtain ⟨t, hc, hq, hr, -, -⟩ := source_run (s := s) h
  rw [hrun, runWith_joined hkind] at hr
  exact ⟨t, hc, hq, hr⟩

theorem source_replaces (h : resetSource c bits src kind bo) (r : RstRun) (hrun : s.rst.run = some r) (hkind : kind < r.kind) :
    Answers c s fun t => t.rst.run = some { r with bits := r.bits ||| bits, bo := r.bo ||| bo, src := src, kind := kind, taken := false } := by
  obtain ⟨t, hc, hq, hr, -, -⟩ := source_run (s := s) h
  rw [hrun, runWith_replaced hkind] at hr
  exact ⟨t, hc, hq, hr⟩

theorem source_supplies (h : resetSource c bits src kind bo) (m : BitVec 6) (hm : c = .brownOut m) :
    Answers c s fun t => t.rst.low = s.rst.low ||| m.toNat := by
  obtain ⟨t, hc, hq, -, hlow, -⟩ := source_run (s := s) h
  have hbo : bo = m.toNat := by
    subst hm
    rcases h with ⟨h, -⟩ | ⟨h, -⟩ | ⟨h, -⟩ | ⟨m', h, -, -, -, -, rfl⟩
    · cases h
    · cases h
    · cases h
    · cases h
      rfl
  exact ⟨t, hc, hq, hlow.trans (by rw [hbo])⟩

end

/-- Settles O58: sources start, join or replace a reset. -/
theorem resetSources : Obligations.ResetSources := by
  unfold Obligations.ResetSources
  refine fun s c bits src kind bo h => ⟨source_shown h, source_starts h, source_joins h, source_replaces h, source_supplies h,
    noEffect_of_done rfl (if_pos rfl), fun m => answers_of_done rfl ⟨noEvent_after rfl, ?_⟩⟩
  exact ((Effect.refl [] s.toDev).rst { s.rst with low := s.rst.low.land (m.toNat.xor 63) }).framed

end Sys2Proof.Machine
end

section
/-! What a reset keeps of the registers and of the state, and what its announcement leaves (R461, R463). -/

namespace Sys2Proof.Machine

/-! The announcement leaves the reset in progress. -/

theorem dropRecord_rst (d : Dev) (r : DuffRec) (ring : Bool) : (d.dropRecord r ring).rst = d.rst := by
  rw [dropRecord_eq]
  unfold Dev.dropNoted Dev.frozenDrop
  split_ifs <;> rfl

theorem duffPut_rst (d : Dev) (r : DuffRec) : (d.duffPut r).rst = d.rst := by
  unfold Dev.duffPut
  dsimp only
  split_ifs
  · exact dropRecord_rst _ _ _
  · rfl
  · rfl

theorem placeRecord_rst (d : Dev) (c : Nat) (r : DuffRec) : (d.placeRecord c r).rst = d.rst := by
  unfold Dev.placeRecord
  dsimp only
  split_ifs
  · exact dropRecord_rst _ _ _
  · rfl
  · exact duffPut_rst _ _

theorem mergeAll_rst (d : Dev) : d.mergeAll.rst = d.rst := by
  unfold Dev.mergeAll
  refine Eq.trans (rfl : _ = Dev.rst (Dev.each _ _ _)) (each_keeps Dev.rst _ (fun d b => ?_) _ _)
  exact placeRecord_rst _ _ _

theorem groveAbort_rst (d : Dev) : d.groveAbort.rst = d.rst := by
  refine each_keeps Dev.rst _ (fun d l => ?_) _ d
  split_ifs
  · exact (congrArg Prod.snd (laneBreak_clockReset d l (code := 3) (by decide)) :)
  · rfl

/-- An output as a reset's announcement leaves it (R359). -/
def SafeOut.opened (o : SafeOut) : SafeOut :=
  { o with on := false, started := false, due := false, ustNext := false, fails := 0, age := none, retry := false }

/-- The safety logic as a reset is announced to it (R358, R359). -/
def Dev.announced (s : Dev) : Dev :=
  { s with safe.ustAnn := true, safe.ustAlive := false, safe.ustSusp := true, safe.up := false, safe.table := false,
           safe.ustCfg := false, safe.dark := none }

/-- An output that is on goes off with its event (R359). -/
def Dev.openOutput (d : Dev) (k : Nat) : Dev :=
  if (d.sout k).on then ((d.setOut k SafeOut.opened).ev 0x0C05 k 3).raise 0x50 else d.setOut k SafeOut.opened

theorem safeAnnounce_eq (d : Dev) : d.safeAnnounce = d.announced.each (List.range 12) Dev.openOutput := rfl

theorem openOutput_safe (d : Dev) (k : Nat) : (d.openOutput k).safe = { d.safe with out := modAt d.safe.out k SafeOut.opened } := by
  unfold Dev.openOutput
  split_ifs <;> rfl

theorem openOutput_rst (d : Dev) (k : Nat) : (d.openOutput k).rst = d.rst := by
  unfold Dev.openOutput
  split_ifs <;> rfl

theorem safeAnnounce_rst (d : Dev) : d.safeAnnounce.rst = d.rst := by
  rw [safeAnnounce_eq, each_keeps Dev.rst Dev.openOutput openOutput_rst]
  rfl

/-- The announcement leaves of the safety logic what it sets, but for the outputs. -/
theorem safeAnnounce_safe (d : Dev) : { d.safeAnnounce.safe with out := [] } = { d.announced.safe with out := [] } := by
  rw [safeAnnounce_eq]
  refine each_keeps (fun d : Dev => { d.safe with out := [] }) Dev.openOutput (fun d k => ?_) _ _
  dsimp only
  rw [openOutput_safe]

theorem safeAnnounce_opens (d : Dev) {k : Nat} (hk : k < 12) (hlen : d.safe.out.length = 12) : (d.safeAnnounce.sout k).on = false := by
  have hopens : ∀ d : Dev, k < d.safe.out.length → ((d.openOutput k).sout k).on = false := fun d hd => by
    unfold Dev.sout
    rw [openOutput_safe, getD_modAt_same _ _ _ _ hd]
    rfl
  have hlength : ∀ (d : Dev) (y : Nat), (d.openOutput y).safe.out.length = d.safe.out.length := fun d y => by
    rw [openOutput_safe]
    exact length_modAt _ _ _
  have hkeeps : ∀ y ∈ List.range 12, ∀ d : Dev, (k < d.safe.out.length → (d.sout k).on = false) →
      k < (d.openOutput y).safe.out.length → ((d.openOutput y).sout k).on = false := fun y _ d hd hlt => by
    rw [hlength] at hlt
    by_cases hky : k = y
    · subst hky
      exact hopens d hlt
    · unfold Dev.sout
      rw [openOutput_safe, getD_modAt_ne _ _ _ _ _ hky]
      exact hd hlt
  rw [safeAnnounce_eq]
  refine each_establishes (P := fun d => k < d.safe.out.length → (d.sout k).on = false) (List.mem_range.mpr hk)
    (fun d hlt => hopens d (by rwa [hlength] at hlt)) hkeeps d.announced ?_
  rw [each_keeps (fun d : Dev => d.safe.out.length) Dev.openOutput hlength]
  exact hk.trans_eq hlen.symm

/-! What a reset keeps. -/

theorem bare_rd (d : Dev) (a : Nat) : d.bare.rd a = regReset a := rfl

theorem keepReg_rd_all (d old : Dev) (a : Nat) : (d.keepReg old a allMask).rd a = old.rd a := by
  refine (rd_wr_same _ _ _).trans ?_
  have hall : BitVec.ofNat 32 allMask = BitVec.allOnes 32 := by decide
  rw [hall, BitVec.not_allOnes, BitVec.and_zero, BitVec.zero_or, BitVec.and_allOnes]

theorem keepReg_rd_ne (d old : Dev) {a b : Nat} (mask : Nat) (h : b ≠ a) : (d.keepReg old a mask).rd b = d.rd b := rd_wr_ne _ _ _ _ h

theorem each_keepReg_ne (old : Dev) (f : Nat → Nat) (mask : Nat) {b : Nat} (xs : List Nat) (h : ∀ a ∈ xs, b ≠ f a) (d : Dev) :
    (d.each xs fun d a => d.keepReg old (f a) mask).rd b = d.rd b :=
  List.foldlRecOn (motive := fun e => e.rd b = d.rd b) xs _ rfl fun e he a ha => (keepReg_rd_ne e old mask (h a ha)).trans he

theorem each_keepReg_mem (old : Dev) {b : Nat} (xs : List Nat) (h : b ∈ xs) (d : Dev) :
    (d.each xs fun d a => d.keepReg old a allMask).rd b = old.rd b := by
  refine each_establishes (P := fun e => e.rd b = old.rd b) h (fun e => keepReg_rd_all e old b) (fun a _ e he => ?_) d
  by_cases hab : b = a
  · rw [hab]
    exact keepReg_rd_all e old a
  · exact (keepReg_rd_ne e old allMask hab).trans he

/-- The registers that a cold reset keeps whole (R463). -/
def coldRegs : List Nat := [RST_CAUSE, RST_LAST, RST_COUNT, RST_CRIT, RST_CLK_STAT, SAFE_CNT, LOG_PWR_CYC, LOG_OP_S, PIN_FUSE0]

theorem coldRegs_retained : ∀ a ∈ coldRegs, a ∈ retainedRegs := by decide

/-- The registers that a cold reset keeps (R461, R463). -/
def Dev.coldKept (s old : Dev) : Dev :=
  (((s.each coldRegs fun d a => d.keepReg old a allMask).keepDeadfall old).keepReg old RST_DOM_STAT 0x401).each (List.range 8)
    fun d k => d.keepReg old (GLB_SLOT k) 0xFFFF01E0

/-- The state that a cold reset keeps (R463). -/
def Dev.coldState (s old : Dev) : Dev :=
  { s with log.wearSaid := old.log.wearSaid, log.pwrNew := old.log.pwrNew, thkt.count := old.thkt.count, thkt.queue := old.thkt.queue }

theorem keepCold_eq (s old : Dev) : s.keepCold old =
    ((s.coldKept old).coldState old).showQueue.wrN (THKT_CREC 0) ((s.coldKept old).coldState old).showQueue.thkt.queue.length := rfl

/-- The registers that a cold reset keeps in part (R461, R463). -/
def partRegs : List Nat := [SAFE_STAT, SAFE_DF_STAMP, SAFE_DF_ERA, RST_DOM_STAT] ++ (List.range 8).map GLB_SLOT

/-- What a warm reset shows anew (R463). -/
def shownRegs : List Nat := [THKT_QUEUE, THKT_CREC 0, THKT_CREC 2, RST_DOM_STAT, LOG_DUFF_PTR, LOG_LEDGER 0, LOG_LEDGER 2]

theorem coldRegs_apart : ∀ a ∈ coldRegs, ∀ b ∈ partRegs ++ shownRegs, a ≠ b := by decide

theorem shownRegs_retained : ∀ a ∈ shownRegs, a ∈ retainedRegs := by decide

theorem retained_ne {a b : Nat} (h : a ∉ retainedRegs) (hb : b ∈ retainedRegs) : a ≠ b := (ne_of_mem_of_not_mem hb h).symm

theorem coldKept_other (s old : Dev) {a : Nat} (h : a ∉ retainedRegs) : (s.coldKept old).rd a = s.rd a := by
  unfold Dev.coldKept Dev.keepDeadfall
  rw [each_keepReg_ne old GLB_SLOT _ _ fun k hk => retained_ne h (List.mem_append_right _ (List.mem_map_of_mem hk)),
    keepReg_rd_ne _ _ _ (retained_ne h (by decide)), keepReg_rd_ne _ _ _ (retained_ne h (by decide)),
    keepReg_rd_ne _ _ _ (retained_ne h (by decide)), keepReg_rd_ne _ _ _ (retained_ne h (by decide))]
  exact each_keepReg_ne old (fun a => a) _ _ (fun b hb => retained_ne h (coldRegs_retained b hb)) s

theorem coldKept_whole (s old : Dev) {a : Nat} (h : a ∈ coldRegs) : (s.coldKept old).rd a = old.rd a := by
  have hne : ∀ b ∈ partRegs, a ≠ b := fun b hb => coldRegs_apart a h b (List.mem_append_left _ hb)
  unfold Dev.coldKept Dev.keepDeadfall
  rw [each_keepReg_ne old GLB_SLOT _ _ fun k hk => hne _ (List.mem_append_right _ (List.mem_map_of_mem hk)),
    keepReg_rd_ne _ _ _ (hne _ (by decide)), keepReg_rd_ne _ _ _ (hne _ (by decide)), keepReg_rd_ne _ _ _ (hne _ (by decide)),
    keepReg_rd_ne _ _ _ (hne _ (by decide))]
  exact each_keepReg_mem old _ h s

theorem showQueue_rd (d : Dev) {a : Nat} (h : a ≠ THKT_QUEUE) (h2 : a ≠ THKT_CREC 2) : d.showQueue.rd a = d.rd a := by
  unfold Dev.showQueue
  exact (rd_wr_ne _ _ _ _ h2).trans ((rd_setFld_ne _ _ _ _ _ _ h).trans (rd_setFld_ne _ _ _ _ _ _ h))

theorem coldState_rd (d old : Dev) (a : Nat) : (d.coldState old).rd a = d.rd a := rfl

theorem keepCold_rd (s old : Dev) {a : Nat} (h : a ≠ THKT_QUEUE) (h0 : a ≠ THKT_CREC 0) (h2 : a ≠ THKT_CREC 2) :
    (s.keepCold old).rd a = (s.coldKept old).rd a := by
  rw [keepCold_eq]
  generalize s.coldKept old = d
  exact (rd_wr_ne _ _ _ _ h0).trans ((showQueue_rd _ h h2).trans (coldState_rd d old a))

/-- The records that a warm reset keeps (R463). -/
def Dev.warmState (s old : Dev) : Dev :=
  { s.keepReg old RST_DOM_STAT 0x300 with
    log.duff := old.log.duff, log.waiting := old.log.waiting, log.wr := old.log.wr, log.pin := old.log.pin,
    log.raised := old.log.raised }

theorem keepWarm_eq (s old : Dev) : s.keepWarm old =
    (s.warmState old).showLog.wr (LOG_LEDGER 0) ((s.warmState old).showLog.rd (LOG_LEDGER 2)) := rfl

theorem keepWarm_rd (s old : Dev) {a : Nat} (hdom : a ≠ RST_DOM_STAT) (hptr : a ≠ LOG_DUFF_PTR) (h0 : a ≠ LOG_LEDGER 0)
    (h2 : a ≠ LOG_LEDGER 2) : (s.keepWarm old).rd a = s.rd a := by
  rw [keepWarm_eq]
  exact (rd_wr_ne _ _ _ _ h0).trans ((showLog_rd _ (by simp [h2, hptr])).trans (rd_wr_ne _ _ _ _ hdom))

/-! The registers and the state after a cold or a warm reset. -/

theorem wipe_cold (s : Dev) : s.wipe 1 = s.bare.keepCold s := rfl

theorem wipe_warm (s : Dev) : s.wipe 2 = (s.bare.keepCold s).keepWarm s := rfl

/-- A reset shows no other register anew than those that retain something. -/
theorem wipe_rd (s : Dev) {kind : Nat} (hkind : kind = 1 ∨ kind = 2) {a : Nat} (h : ∀ b ∈ shownRegs, a ≠ b) :
    (s.wipe kind).rd a = (s.bare.coldKept s).rd a := by
  have hcold : (s.bare.keepCold s).rd a = (s.bare.coldKept s).rd a :=
    keepCold_rd _ _ (h _ (by decide)) (h _ (by decide)) (h _ (by decide))
  rcases hkind with rfl | rfl
  · rw [wipe_cold, hcold]
  · rw [wipe_warm, keepWarm_rd _ _ (h _ (by decide)) (h _ (by decide)) (h _ (by decide)) (h _ (by decide)), hcold]

/-- A cold or a warm reset takes a register to its reset value, but for those that keep something (R461, R463). -/
theorem wipe_rd_other (s : Dev) {kind : Nat} (hkind : kind = 1 ∨ kind = 2) {a : Nat} (h : a ∉ retainedRegs) :
    (s.wipe kind).rd a = regReset a := by
  rw [wipe_rd s hkind fun b hb => retained_ne h (shownRegs_retained b hb), coldKept_other _ _ h, bare_rd]

theorem wipe_rd_whole (s : Dev) {kind : Nat} (hkind : kind = 1 ∨ kind = 2) {a : Nat} (h : a ∈ coldRegs) :
    (s.wipe kind).rd a = s.rd a := by
  rw [wipe_rd s hkind fun b hb => coldRegs_apart a h b (List.mem_append_right _ hb), coldKept_whole _ _ h]

theorem keepReg_state {β : Type} (g : Dev → β) (hg : ∀ (d : Dev) a v, g (d.wr a v) = g d) (d old : Dev) (a mask : Nat) :
    g (d.keepReg old a mask) = g d := hg _ _ _

/-- What lies beside the registers is kept by keeping registers. -/
theorem coldKept_state {β : Type} (g : Dev → β) (hg : ∀ (d : Dev) a v, g (d.wr a v) = g d) (s old : Dev) : g (s.coldKept old) = g s := by
  unfold Dev.coldKept Dev.keepDeadfall
  rw [each_keeps g _ fun d k => keepReg_state g hg d old _ _, keepReg_state g hg, keepReg_state g hg, keepReg_state g hg,
    keepReg_state g hg, each_keeps g _ fun d k => keepReg_state g hg d old _ _]

theorem keepCold_engines (s old : Dev) : (s.keepCold old).thkt.queue = old.thkt.queue ∧ (s.keepCold old).glade = s.glade ∧
    (s.keepCold old).log.raised = s.log.raised := by
  have hglade := coldKept_state Dev.glade (fun _ _ _ => rfl) s old
  have hlog := coldKept_state Dev.log (fun _ _ _ => rfl) s old
  rw [keepCold_eq]
  generalize s.coldKept old = d at *
  exact ⟨rfl, hglade, (congrArg LogSt.raised hlog :)⟩

theorem keepWarm_engines (s old : Dev) : (s.keepWarm old).thkt = s.thkt ∧ (s.keepWarm old).glade = s.glade ∧
    (s.keepWarm old).log.raised = old.log.raised := by
  rw [keepWarm_eq]
  exact ⟨rfl, rfl, rfl⟩

theorem wipe_state (s : Dev) {kind : Nat} (hkind : kind = 1 ∨ kind = 2) : (s.wipe kind).thkt.queue = s.thkt.queue ∧
    (s.wipe kind).glade.owner = s.glade.owner ∧ (s.wipe kind).log.raised = (if kind = 2 then s.log.raised else []) := by
  obtain ⟨hqueue, hglade, hraised⟩ := keepCold_engines s.bare s
  rcases hkind with rfl | rfl
  · exact ⟨hqueue, (congrArg GladeSt.owner hglade :), hraised⟩
  · obtain ⟨hthkt, hkept, hlast⟩ := keepWarm_engines (s.bare.keepCold s) s
    rw [wipe_warm]
    exact ⟨(congrArg ThktSt.queue hthkt).trans hqueue, (congrArg GladeSt.owner (hkept.trans hglade) :), hlast⟩

end Sys2Proof.Machine
end

section
/-! O59: power-on, announcement, effect and release of a reset (R461 to R464, R468 to R471, R476). -/

namespace Sys2Proof.Machine

/-! Power-on. -/

/-- The device as a power-on leaves it to its release (R457, R461). -/
def Dev.powered (s : Dev) (ustDown : Bool) : Dev :=
  if ustDown then
    { s.wipe 0 with safe.canopyLatch := false, safe.ustLatch := false, safe.ustOn := false, safe.ustAlive := false,
                    safe.chan := List.replicate 32 {} }
  else (s.wipe 0).keepDeadfall s

theorem powerOn_eq (s : Dev) (u : Bool) :
    s.powerOn u = { s.powered u with rst.run := some { bits := 1, src := 0, kind := 0, taken := true } } := rfl

theorem powered_rd (s : Dev) (u : Bool) {a : Nat} (h : a ∉ [SAFE_STAT, SAFE_OUT_STAT, SAFE_DF_STAMP, SAFE_DF_ERA]) :
    (s.powered u).rd a = regReset a := by
  have hne : ∀ b ∈ [SAFE_STAT, SAFE_OUT_STAT, SAFE_DF_STAMP, SAFE_DF_ERA], a ≠ b := fun b hb => (ne_of_mem_of_not_mem hb h).symm
  unfold Dev.powered Dev.keepDeadfall
  split_ifs
  · rfl
  · rw [keepReg_rd_ne _ _ _ (hne _ (by decide)), keepReg_rd_ne _ _ _ (hne _ (by decide)), keepReg_rd_ne _ _ _ (hne _ (by decide))]
    rfl

theorem powered_state (s : Dev) (u : Bool) : (s.powered u).glade = s.bare.glade ∧ (s.powered u).log = s.bare.log := by
  unfold Dev.powered
  split_ifs <;> exact ⟨rfl, rfl⟩

theorem powered_safe (s : Dev) (u : Bool) : (u = true → (s.powered u).deadfall = false) ∧
    (u = false → (s.powered u).copyLatches.safe.ustLatch = s.safe.ustLatch) :=
  ⟨fun h => by rw [h]; rfl, fun h => by rw [h]; rfl⟩

/-- A burn that a reset cuts short leaves no rollback number below what it was (R423). -/
theorem burnCut_ge (s : Dev) (k : Nat) : s.glade.rb.getD k 0 ≤ s.burnCut.getD k 0 := by
  unfold Dev.burnCut
  split
  · exact Nat.le_refl _
  next j _ _ =>
    by_cases hk : k = j.typ - 1
    · subst hk
      by_cases hlen : j.typ - 1 < s.glade.rb.length
      · rw [getD_modAt_same _ _ _ _ hlen]
        exact Nat.le_add_right _ _
      · rw [modAt_of_le _ _ _ (Nat.le_of_not_lt hlen)]
    · rw [getD_modAt_ne _ _ _ _ _ hk]

theorem burnCut_none (s : Dev) (h : s.glade.burns = []) : s.burnCut = s.glade.rb := by
  unfold Dev.burnCut
  rw [h]

section
variable {s : State}

theorem powerOn_answers (u : Bool) : Answers (.powerOn u) s fun t =>
      (∀ a, a ∉ [SAFE_STAT, SAFE_OUT_STAT, SAFE_DF_STAMP, SAFE_DF_ERA] → t.rd a = regReset a) ∧
      t.rst.run = some { bits := 1, src := 0, kind := 0, taken := true } ∧ t.glade.owner = s.glade.owner ∧
      t.glade.enrolled = s.glade.enrolled ∧ (s.glade.burns = [] → t.glade.rb = s.glade.rb) ∧
      (∀ k, s.glade.rb.getD k 0 ≤ t.glade.rb.getD k 0) ∧ t.log.raised = [] ∧ (u = true → t.deadfall = false) ∧
      (u = false → t.safe.ustLatch = s.safe.ustLatch) := by
  have hrd := fun a => @powered_rd s.toDev u a
  obtain ⟨hglade, hlog⟩ := powered_state s.toDev u
  obtain ⟨hdead, hust⟩ := powered_safe s.toDev u
  have hdone := powerOn_eq s.toDev u
  generalize s.toDev.powered u = d at *
  have hkept : (s.toDev.powerOn u).settle.glade = s.toDev.bare.glade := by rw [settle_glade, hdone, hglade]
  refine answers_of_done rfl ⟨fun a ha => ?_, ?_, ?_, ?_, fun hburns => ?_, fun k => ?_, ?_, fun h => ?_, fun h => ?_⟩
  · have hne : ∀ b ∈ [SAFE_STAT, SAFE_OUT_STAT, SAFE_DF_STAMP, SAFE_DF_ERA], a ≠ b := fun b hb => (ne_of_mem_of_not_mem hb ha).symm
    rw [hdone]
    exact (settle_rd _ _ (hne _ (by decide)) (hne _ (by decide))).trans (hrd a ha)
  · rw [hdone]
    exact congrArg RstSt.run (settle_rst _)
  · exact (congrArg GladeSt.owner hkept :)
  · exact (congrArg GladeSt.enrolled hkept :)
  · exact (congrArg GladeSt.rb hkept).trans (burnCut_none s.toDev hburns)
  · exact (burnCut_ge s.toDev k).trans_eq (congrArg (fun g : GladeSt => g.rb.getD k 0) hkept.symm :)
  · rw [hdone]
    exact (congrArg LogSt.raised (settle_log _)).trans (congrArg LogSt.raised hlog)
  · rw [hdone]
    exact (settle_deadfall _).trans (hdead h)
  · rw [hdone]
    have hlatches : ∀ x : RstSt, ({ d with rst := x } : Dev).settle.safe = d.copyLatches.safe := fun x =>
      (settle_safe _).trans (copyLatches_safe_of_safe rfl)
    exact (congrArg SafeSt.ustLatch (hlatches _)).trans (hust h)

/-! Announcement and effect. -/

theorem resetAnnounce_open {r : RstRun} (hrun : s.rst.run = some r) (hopen : r.taken = false) :
    s.toDev.resetAnnounce = s.toDev.safeAnnounce.mergeAll.groveAbort := by
  unfold Dev.resetAnnounce
  rw [hrun]
  exact if_neg (by rw [hopen]; exact Bool.false_ne_true)

theorem resetTakeEffect_open {r : RstRun} (hrun : s.rst.run = some r) (hopen : r.taken = false) :
    s.toDev.resetTakeEffect = { s.toDev.wipe r.kind with rst.run := some { r with taken := true } } := by
  unfold Dev.resetTakeEffect
  rw [hrun]
  exact if_neg (by rw [hopen]; exact Bool.false_ne_true)

theorem permit_announced {d : Dev} (h : d.safe.ustAnn = true) (k : Nat) : d.permit k = false := by
  unfold Dev.permit
  simp [h]

theorem announce_opens {r : RstRun} (hrun : s.rst.run = some r) (hopen : r.taken = false) (hshape : Shaped s.toDev) :
    Answers .resetAnnounce s fun t => (∀ k : Fin 12, (t.sout k).on = false) ∧ t.safe.ustAnn = true ∧
        t.safe.up = false ∧ t.safe.table = false ∧ (∀ k, t.permit k = false) ∧ t.rst.run = some r := by
  have hsafe : s.toDev.safeAnnounce.mergeAll.groveAbort.safe = s.toDev.safeAnnounce.safe :=
    logic_of_core ((groveAbort_core _).trans (mergeAll_core _))
  have hrst : s.toDev.safeAnnounce.mergeAll.groveAbort.rst = s.rst :=
    (groveAbort_rst _).trans ((mergeAll_rst _).trans (safeAnnounce_rst _))
  have hset := safeAnnounce_safe s.toDev
  have hoff : ∀ k : Fin 12, (s.toDev.safeAnnounce.sout k).on = false := fun k => safeAnnounce_opens s.toDev k.isLt hshape.out
  have hdone := resetAnnounce_open hrun hopen
  generalize s.toDev.safeAnnounce.mergeAll.groveAbort = d at *
  generalize s.toDev.safeAnnounce = e at *
  have hann : d.settle.safe.ustAnn = true :=
    ((congrArg SafeSt.ustAnn (settle_safe d)).trans (copyLatches_safe_ustAnn d)).trans
      ((congrArg SafeSt.ustAnn hsafe).trans (congrArg SafeSt.ustAnn hset :))
  refine answers_of_done (congrArg (done s) hdone) ⟨fun k => ?_, hann, ?_, ?_, permit_announced hann, ?_⟩
  · have hout : d.settle.safe.out = e.safe.out :=
      ((congrArg SafeSt.out (settle_safe d)).trans (copyLatches_safe_out d)).trans (congrArg SafeSt.out hsafe)
    exact (congrArg (fun out : List SafeOut => (out.getD k {}).on) hout).trans (hoff k)
  · exact ((congrArg SafeSt.up (settle_safe d)).trans (copyLatches_safe_up d)).trans
      ((congrArg SafeSt.up hsafe).trans (congrArg SafeSt.up hset :))
  · exact ((congrArg SafeSt.table (settle_safe d)).trans (copyLatches_safe_table d)).trans
      ((congrArg SafeSt.table hsafe).trans (congrArg SafeSt.table hset :))
  · exact (congrArg RstSt.run ((settle_rst d).trans hrst)).trans hrun

theorem safeStat_apart : ∀ a ∈ coldRegs, ∀ b ∈ [SAFE_OUT_STAT, SAFE_STAT], a ≠ b := by decide

theorem reset_takes_effect {r : RstRun} (hrun : s.rst.run = some r) (hopen : r.taken = false) (hkind : r.kind = 1 ∨ r.kind = 2) :
    Answers .resetTakeEffect s fun t => t.rst.run = some { r with taken := true } ∧
        (∀ a, a ∉ retainedRegs → t.rd a = regReset a) ∧
        (∀ a, a ∈ [RST_CAUSE, RST_LAST, RST_COUNT, RST_CRIT, RST_CLK_STAT, SAFE_CNT, LOG_PWR_CYC, LOG_OP_S, PIN_FUSE0] →
          t.rd a = s.rd a) ∧ t.thkt.queue = s.thkt.queue ∧ t.glade.owner = s.glade.owner ∧
        t.log.raised = (if r.kind = 2 then s.log.raised else []) := by
  have hother := fun a => @wipe_rd_other s.toDev _ hkind a
  have hwhole := fun a => @wipe_rd_whole s.toDev _ hkind a
  obtain ⟨hqueue, howner, hraised⟩ := wipe_state s.toDev hkind
  have hdone := resetTakeEffect_open hrun hopen
  generalize s.toDev.wipe r.kind = d at *
  refine answers_of_done (congrArg (done s) hdone) ⟨congrArg RstSt.run (settle_rst _), fun a ha => ?_, fun a ha => ?_,
    (congrArg ThktSt.queue (settle_thkt _)).trans hqueue, (congrArg GladeSt.owner (settle_glade _)).trans howner,
    (congrArg LogSt.raised (settle_log _)).trans hraised⟩
  · exact (settle_rd _ _ (retained_ne ha (by decide)) (retained_ne ha (by decide))).trans (hother a ha)
  · have hne : ∀ b ∈ [SAFE_OUT_STAT, SAFE_STAT], a ≠ b := fun b hb => safeStat_apart a ha b hb
    exact (settle_rd _ _ (hne _ (by decide)) (hne _ (by decide))).trans (hwhole a ha)

theorem course_none (h : s.rst.run.elim true RstRun.taken = true) : NoEffect .resetAnnounce s ∧ NoEffect .resetTakeEffect s := by
  refine ⟨noEffect_of_done rfl ?_, noEffect_of_done rfl ?_⟩
  · unfold Dev.resetAnnounce
    split
    · rfl
    next r hr => exact if_pos (by rw [show s.rst.run = some r from hr] at h; exact h)
  · unfold Dev.resetTakeEffect
    split
    · rfl
    next r hr => exact if_pos (by rw [show s.rst.run = some r from hr] at h; exact h)

end

end Sys2Proof.Machine
end

section
/-! O59, continued: the release of a reset (R464, R468 to R471, R476). -/

namespace Sys2Proof.Machine

/-! What the release shows of the straps and the fuses. -/

/-- Straps and fuses as the release reads them (R468 to R471). -/
def Dev.strapped (s : Dev) (r : RstRun) (x : StrapRead) (fu : FuseIn) : Dev :=
  ((s.orMask RST_CAUSE (r.bits.land 512)).wrN RST_STRAP (strapWord x)).loadFuses fu

/-- The release counts the power-on or the reset (R387, R474). -/
def Dev.releaseCounted (s : Dev) (r : RstRun) : Dev := if r.kind = 0 then s.countPower else s.cntSat RST_COUNT 15 0 1

/-- The reset is over (R464). -/
def Dev.runEnded (s : Dev) : Dev := { s with rst.run := none }

/-- The domains start and standing takes its role and unit (R309, R464). -/
def Dev.domainsStarted (s : Dev) (x : StrapRead) : Dev :=
  ((s.runEnded.setBit RST_DOM_STAT 0 true).showDoms).standStart (x.role.filter fun c => decide (c ≤ 3)) (x.unit.getD 15)

/-- The reset with the cause of straps that were not taken (R470). -/
def RstRun.strapped (r : RstRun) (x : StrapRead) : RstRun := if x.bad = [] then r else { r with bits := r.bits ||| 512 }

theorem strapped_kind (r : RstRun) (x : StrapRead) : (r.strapped x).kind = r.kind := by
  unfold RstRun.strapped
  split_ifs <;> rfl

theorem resetRelease_eq (s : Dev) {r : RstRun} (st : StrapIn) (fu : FuseIn) (hrun : s.rst.run = some r) (htaken : r.taken = true)
    (hlow : s.rst.low = 0) (hclock : s.bit RST_DOM_STAT 10 = false) : s.resetRelease st fu =
      ((((s.strapped (r.strapped (readStraps st)) (readStraps st) fu).releaseCounted (r.strapped (readStraps st))).domainsStarted
        (readStraps st)).resetEvents (r.strapped (readStraps st)) (readStraps st)
          ((readStraps st).role.filter fun c => decide (c ≤ 3))).safeRelease := by
  unfold Dev.resetRelease
  rw [hrun]
  refine (if_neg (by rw [htaken, hlow, hclock]; decide)).trans ?_
  rfl

/-- The registers that show the fuses (R309, R430, R471). -/
def fuseRegs : List Nat := [PIN_FUSE0, NET_MAC_HI, NET_MAC_LO, GLB_SN_LO, GLB_SN_HI, GLB_OWNER, GLB_RB]

theorem loadFuses_effect (s : Dev) (fu : FuseIn) : Effect fuseRegs s (s.loadFuses fu)
    { blocks s with rst := { s.rst with subsys := fu.subsys, fused := true } } := by
  have hshown := ((((((Effect.refl fuseRegs s).wrN (a := PIN_FUSE0) (by decide) (0xD8000000 + fu.pin.toNat)).wrN (a := NET_MAC_HI) (by decide)
    (leNat ((beBytes 6 fu.mac.toNat).take 2))).wrN (a := NET_MAC_LO) (by decide) (leNat ((beBytes 6 fu.mac.toNat).drop 2))).wrN
    (a := GLB_SN_LO) (by decide) (fu.sn.toNat % 2 ^ 32)).wrN (a := GLB_SN_HI) (by decide) (fu.sn.toNat / 2 ^ 32)).rst
    { s.rst with subsys := fu.subsys, fused := true }
  exact (hshown.wrN (a := GLB_OWNER) (by decide) _).wrN (a := GLB_RB) (by decide) _

theorem loadFuses_log (s : Dev) (fu : FuseIn) : (s.loadFuses fu).log = s.log := rfl

theorem strapped_shows (s : Dev) (r : RstRun) (x : StrapRead) (fu : FuseIn) :
    (s.strapped r x fu).rd RST_STRAP = BitVec.ofNat 32 (strapWord x) ∧ (s.strapped r x fu).rd RST_COUNT = s.rd RST_COUNT ∧
      (s.strapped r x fu).log = s.log := by
  unfold Dev.strapped
  refine ⟨((loadFuses_effect _ fu).regs _ (by decide)).trans (rd_wr_same _ _ _),
    ((loadFuses_effect _ fu).regs _ (by decide)).trans ((rd_wr_ne _ _ _ _ (by decide)).trans (rd_orMask_ne _ _ _ _ (by decide))),
    (loadFuses_log _ fu).trans rfl⟩

/-! The count of the release. -/

theorem releaseCounted_log (s : Dev) (r : RstRun) : (s.releaseCounted r).log = s.log := by
  unfold Dev.releaseCounted
  split_ifs <;> rfl

theorem releaseCounted_strap (s : Dev) (r : RstRun) : (s.releaseCounted r).rd RST_STRAP = s.rd RST_STRAP := by
  unfold Dev.releaseCounted
  split_ifs
  · exact (rd_wr_ne _ _ _ _ (by decide)).trans (rd_setFld_ne _ _ _ _ _ _ (by decide))
  · exact rd_wr_ne _ _ _ _ (by decide)

theorem releaseCounted_reset (s : Dev) (r : RstRun) (h : r.kind ≠ 0) :
    (s.releaseCounted r).fld RST_COUNT 15 0 = min 65535 (s.fld RST_COUNT 15 0 + 1) := by
  unfold Dev.releaseCounted
  rw [if_neg h]
  exact fld_cntSat_same _ _ _ _ _ (by decide) (by decide)

theorem releaseCounted_power (s : Dev) (r : RstRun) (h : r.kind = 0) :
    (s.releaseCounted r).fld LOG_PWR_CYC 23 0 = min (2 ^ 24 - 1) (s.log.saved.1 + 1) := by
  unfold Dev.releaseCounted
  rw [if_pos h]
  refine (fld_of_rd _ _ _ _ _ (rd_wr_ne _ _ _ _ (by decide))).trans ((fld_setFld_same _ _ _ _ _ (by decide) (by decide)).trans ?_)
  exact Nat.mod_eq_of_lt (Nat.lt_of_le_of_lt (Nat.min_le_left _ _) (by decide))

/-! The domains. -/

theorem showDoms_effect (s : Dev) : Effect [RST_DOM_STAT, PIN_CFGD] s s.showDoms (blocks s) := by
  unfold Dev.showDoms
  exact Effect.ite _ (fun _ => ((Effect.refl _ s).orMask (by decide) _).orMask (by decide) _) fun _ => Effect.refl _ s

theorem showDoms_bit (s : Dev) {i : Nat} (hi : i < 32) (h : s.bit RST_DOM_STAT i = true) : s.showDoms.bit RST_DOM_STAT i = true := by
  unfold Dev.showDoms
  dsimp only
  split
  · rw [bit_orMask_other _ _ _ _ _ (by decide), bit_orMask _ _ _ _ hi, h]
    rfl
  · exact h

theorem showDoms_log (d : Dev) : d.showDoms.log = d.log := by
  unfold Dev.showDoms
  dsimp only
  split <;> rfl

theorem domainsStarted_effect (s : Dev) (x : StrapRead) : Effect [RST_DOM_STAT, PIN_CFGD, STAND_STAT] s (s.domainsStarted x)
    { blocks s with rst := { s.rst with run := none } } := by
  have hended := ((Effect.refl [RST_DOM_STAT, PIN_CFGD, STAND_STAT] s).rst { s.rst with run := none }).setBit
    (a := RST_DOM_STAT) (by decide) 0 true
  unfold Dev.domainsStarted
  refine Effect.wrN (hended.trans ?_) (by decide) _
  exact (showDoms_effect _).weaken (by decide)

theorem domainsStarted_started (s : Dev) (x : StrapRead) : (s.domainsStarted x).bit RST_DOM_STAT 0 = true := by
  unfold Dev.domainsStarted
  refine (bit_of_rd _ _ _ _ (rd_wr_ne _ _ _ _ (by decide))).trans (showDoms_bit _ (by decide) ?_)
  exact bit_setBit_same _ _ _ _ (by decide)

theorem domainsStarted_log (s : Dev) (x : StrapRead) : (s.domainsStarted x).log = s.log := by
  exact (showDoms_log _).trans rfl

/-! The events. -/

/-- The events of the causes of a reset (R476). -/
def Dev.sourceEvents (s : Dev) (r : RstRun) : Dev :=
  let s := s.ev 0x0101 r.kind r.bits
  let s := if bitOf r.bits 4 then s.ev 0x0110 0 0 else s
  let s := if bitOf r.bits 1 then s.ev 0x0102 r.bo 0 else s
  if bitOf r.bits 5 || bitOf r.bits 6 || bitOf r.bits 7 then s.ev 0x0103 (s.fld RST_CRIT 17 16) (s.fld RST_CRIT 15 0) else s

/-- The event of a lost clock (R476). -/
def Dev.outageEvent (s : Dev) (r : RstRun) : Dev :=
  match r.outage with
  | some t => s.ev 0x0104 0 (min (2 ^ 32 - 1) t)
  | none => s

/-- The events of straps that were not taken (R470, R311). -/
def Dev.strapEvents (s : Dev) (x : StrapRead) (role : Option Nat) : Dev :=
  let s := s.each x.bad fun d b => d.ev 0x0105 b.1 b.2
  if role.isNone then s.ev 0x0B0A 0 (s.fld RST_STRAP 7 4) else s

/-- What the reset's own event establishes and every event keeps holds after the release's events (R476). -/
theorem resetEvents_establishes {P : Dev → Prop} (hev : ∀ d c p q, P d → P (d.ev c p q)) {s : Dev} {r : RstRun}
    (h : P (s.ev 0x0101 r.kind r.bits)) (x : StrapRead) (role : Option Nat) : P (s.resetEvents r x role) := by
  have hif : ∀ (c : Prop) [Decidable c] (d : Dev) (code p q : Nat), P d → P (if c then d.ev code p q else d) := fun c _ d code p q hd => by
    split_ifs
    · exact hev d code p q hd
    · exact hd
  have hcauses : P (s.sourceEvents r) := hif _ _ _ _ _ (hif _ _ _ _ _ (hif _ _ _ _ _ h))
  have houtage : P ((s.sourceEvents r).outageEvent r) := by
    unfold Dev.outageEvent
    split
    · exact hev _ _ _ _ hcauses
    · exact hcauses
  have hstraps : P (((s.sourceEvents r).outageEvent r).strapEvents x role) :=
    hif _ _ _ _ _ (List.foldlRecOn x.bad _ houtage fun d hd b _ => hev d _ _ _ hd)
  exact hstraps

theorem resetEvents_effect (s : Dev) (r : RstRun) (x : StrapRead) (role : Option Nat) :
    Effect [] s (s.resetEvents r x role) (blocks s) :=
  resetEvents_establishes (P := fun d => Effect [] s d (blocks s)) (fun _ _ _ _ h => h.ev _ _ _) ((Effect.refl [] s).ev _ _ _) x role

theorem resetEvents_first (s : Dev) (r : RstRun) (x : StrapRead) (role : Option Nat) :
    Beside (s.ev 0x0101 r.kind r.bits) (s.resetEvents r x role) :=
  resetEvents_establishes (fun _ _ _ _ h => h.ev _ _ _) (Beside.refl _) x role

section
variable {s : State}

theorem resetRelease_answers (r : RstRun) (st : StrapIn) (fu : FuseIn) (hrun : s.rst.run = some r) (htaken : r.taken = true)
    (hlow : s.rst.low = 0) (hclock : s.bit RST_DOM_STAT 10 = false) :
    Answers (.resetRelease st fu) s fun t => t.rst.run = none ∧ t.bit RST_DOM_STAT 0 = true ∧
        t.rd RST_STRAP = BitVec.ofNat 32 (strapWord (readStraps st)) ∧ t.safe.ustAnn = false ∧ t.safe.halt = false ∧
        (r.kind ≠ 0 → t.fld RST_COUNT 15 0 = min 65535 (s.fld RST_COUNT 15 0 + 1)) ∧
        (r.kind = 0 → t.fld LOG_PWR_CYC 23 0 = min (2 ^ 24 - 1) (s.log.saved.1 + 1)) ∧
        ∃ e, e ∈ t.log.raised ∧ e.code = 0x0101 ∧ e.p1 = BitVec.ofNat 32 r.kind := by
  have hdone := resetRelease_eq s.toDev st fu hrun htaken hlow hclock
  have hkind := strapped_kind r (readStraps st)
  generalize readStraps st = x at *
  generalize r.strapped x = r' at *
  obtain ⟨hstrap, hcount, hlog⟩ := strapped_shows s.toDev r' x fu
  generalize s.toDev.strapped r' x fu = d at *
  have hstrap' := (releaseCounted_strap d r').trans hstrap
  have hreset := releaseCounted_reset d r'
  have hpower := releaseCounted_power d r'
  generalize d.releaseCounted r' = e at *
  have hstarted := domainsStarted_effect e x
  have hdom := domainsStarted_started e x
  generalize e.domainsStarted x = f at *
  have hevents := resetEvents_effect f r' x (x.role.filter fun c => decide (c ≤ 3))
  have hfirst := resetEvents_first f r' x (x.role.filter fun c => decide (c ≤ 3))
  generalize f.resetEvents r' x (x.role.filter fun c => decide (c ≤ 3)) = g at *
  have hrd : ∀ a, a ∉ [RST_DOM_STAT, PIN_CFGD, STAND_STAT] → a ≠ SAFE_OUT_STAT → a ≠ SAFE_STAT → g.safeRelease.settle.rd a = e.rd a :=
    fun a ha hout hstat => (settle_rd _ _ hout hstat).trans ((hevents.regs a List.not_mem_nil).trans (hstarted.regs a ha))
  refine answers_of_done (congrArg (done s) hdone) ⟨?_, ?_, ?_, ?_, ?_, fun h => ?_, fun h => ?_, ?_⟩
  · refine (congrArg RstSt.run (settle_rst g.safeRelease)).trans ?_
    exact (congrArg (fun b : Dev => b.rst.run) (hevents.engines.trans hstarted.engines) :)
  · exact (settle_bit _ _ _ (by decide) (by decide)).trans ((bit_of_rd _ _ _ _ (hevents.regs _ List.not_mem_nil)).trans hdom)
  · exact (hrd _ (by decide) (by decide) (by decide)).trans hstrap'
  · exact (congrArg SafeSt.ustAnn (settle_safe g.safeRelease)).trans (copyLatches_safe_ustAnn _)
  · exact (congrArg SafeSt.halt (settle_safe g.safeRelease)).trans (copyLatches_safe_halt _)
  · refine (fld_of_rd _ _ _ _ _ (hrd _ (by decide) (by decide) (by decide))).trans ((hreset (by rwa [hkind])).trans ?_)
    rw [fld_of_rd _ _ _ _ _ hcount]
  · refine (fld_of_rd _ _ _ _ _ (hrd _ (by decide) (by decide) (by decide))).trans ((hpower (by rwa [hkind])).trans ?_)
    rw [hlog]
  · obtain ⟨ev, hev, hcode, hp, -⟩ := raised_ev f 0x0101 r'.kind r'.bits
    refine ⟨ev, ?_, hcode, hp.trans (by rw [hkind])⟩
    have hkept : g.safeRelease.settle.log = g.log := settle_log g.safeRelease
    exact (congrArg (fun l : LogSt => ev ∈ l.raised) hkept).mpr (hfirst.event hev)

theorem resetRelease_none (st : StrapIn) (fu : FuseIn)
    (h : s.rst.run.elim false RstRun.taken = false ∨ s.rst.low ≠ 0 ∨ s.bit RST_DOM_STAT 10 = true) : NoEffect (.resetRelease st fu) s := by
  refine noEffect_of_done rfl ?_
  unfold Dev.resetRelease
  split
  · rfl
  next r hr =>
    rw [show s.rst.run = some r from hr] at h
    exact if_pos (by simpa [or_assoc] using h)

end

/-- Settles O59: the course of a reset, from its announcement to its release. -/
theorem resetCourse : Obligations.ResetCourse := by
  unfold Obligations.ResetCourse
  exact fun s => ⟨powerOn_answers, fun r hrun hopen => ⟨announce_opens hrun hopen, reset_takes_effect hrun hopen⟩, course_none,
    resetRelease_answers, resetRelease_none⟩

end Sys2Proof.Machine
end

section
/-! O60: loss and return of REFCLK and of PLL lock (R462, R464, R467, R492). -/

namespace Sys2Proof.Machine

/-! The hold of the domains. -/

theorem safeAnnounce_rd (s : Dev) {a : Nat} (h : a < 0x3C0000) : s.safeAnnounce.rd a = s.rd a := by
  rw [safeAnnounce_eq, each_keeps (fun d : Dev => d.rd a) Dev.openOutput fun d k => ?_]
  · rfl
  · unfold Dev.openOutput
    split_ifs
    · exact rd_wr_ne _ _ _ _ (by simp only [HOST_EVT_PEND]; omega)
    · rfl

/-- The domains of both PLLs are in a cold reset already (R462). -/
def Dev.domainsHeld (s : Dev) : Bool := s.rst.run.elim false fun r => r.taken && decide (r.kind ≤ 1)

/-- The cold reset that a loss of the clock or of lock starts (R462). -/
def lossRun (o : Option RstRun) : RstRun :=
  { bits := o.elim 0 fun r => r.bits, src := 6, kind := 1, bo := o.elim 0 fun r => r.bo, taken := true }

theorem clockHeld_held (s : Dev) (h : s.domainsHeld = true) : s.clockHeld = s.clrMask RST_DOM_STAT 0x3FE := if_pos h

theorem clockHeld_starts (s : Dev) (h : s.domainsHeld = false) : s.clockHeld =
    (({ s.safeAnnounce.wipe 1 with rst.run := some (lossRun s.rst.run) } : Dev).rstLast (lossRun s.rst.run)).clrMask RST_DOM_STAT 0x3FE :=
  if_neg (by rw [show (s.rst.run.elim false fun r => r.taken && decide (r.kind ≤ 1)) = false from h]; exact Bool.false_ne_true)

theorem clockHeld_clk (s : Dev) : s.clockHeld.rd RST_CLK_STAT = s.rd RST_CLK_STAT := by
  cases h : s.domainsHeld with
  | true =>
    rw [clockHeld_held s h]
    exact rd_clrMask_ne _ _ _ _ (by decide)
  | false =>
    have hkept : (s.safeAnnounce.wipe 1).rd RST_CLK_STAT = s.rd RST_CLK_STAT :=
      (wipe_rd_whole s.safeAnnounce (.inl rfl) (by decide)).trans (safeAnnounce_rd s (by decide))
    rw [clockHeld_starts s h]
    generalize s.safeAnnounce.wipe 1 = d at *
    exact (rd_clrMask_ne _ _ _ _ (by decide)).trans ((rd_wr_ne _ _ _ _ (by decide)).trans hkept)

theorem clockHeld_bit (s : Dev) {i : Nat} (h : 1 ≤ i ∧ i ≤ 9) : s.clockHeld.bit RST_DOM_STAT i = false := by
  have hmask : ∀ i, 1 ≤ i ∧ i ≤ 9 → (!(0x3FE : Nat).testBit i) = false := by
    rintro i ⟨h1, h9⟩
    interval_cases i <;> rfl
  cases hheld : s.domainsHeld with
  | true => rw [clockHeld_held s hheld, bit_clrMask _ _ _ _ (by omega), hmask i h, Bool.and_false]
  | false => rw [clockHeld_starts s hheld, bit_clrMask _ _ _ _ (by omega), hmask i h, Bool.and_false]

theorem fld_zero_of_bits {d : Dev} {a : Nat} (h : ∀ i, 1 ≤ i ∧ i ≤ 7 → d.bit a i = false) : d.fld a 7 1 = 0 := by
  unfold Dev.fld bitsOf
  refine Nat.eq_of_testBit_eq fun i => ?_
  rw [Nat.zero_testBit, Nat.testBit_mod_two_pow, Nat.testBit_div_two_pow]
  by_cases hi : i < 7 + 1 - 1
  · rw [← bitOf_testBit]
    exact (congrArg (_ && ·) (h (i + 1) (by omega))).trans (Bool.and_false _)
  · rw [decide_eq_false hi, Bool.false_and]

theorem clockHeld_fresh (s : Dev) (h : s.rst.run = none) :
    s.clockHeld.rst.run = some { bits := 0, src := 6, kind := 1, taken := true } ∧
      ∀ a, a ∉ retainedRegs → s.clockHeld.rd a = regReset a := by
  have hheld : s.domainsHeld = false := by
    unfold Dev.domainsHeld
    rw [h]
    rfl
  have hother := fun a => @wipe_rd_other s.safeAnnounce 1 (.inl rfl) a
  rw [clockHeld_starts s hheld]
  generalize s.safeAnnounce.wipe 1 = d at *
  rw [h]
  exact ⟨rfl, fun a ha => (rd_clrMask_ne _ _ _ _ (retained_ne ha (by decide))).trans
    ((rd_wr_ne _ _ _ _ (retained_ne ha (by decide))).trans (hother a ha))⟩

section
variable {s : State}

theorem clockLoss_answers (hclock : s.bit RST_DOM_STAT 10 = false) : Answers .clockLoss s fun t => t.bit RST_DOM_STAT 10 = true ∧
      t.fld RST_CLK_STAT 23 16 = min 255 (s.fld RST_CLK_STAT 23 16 + 1) ∧
      (s.rst.run = none → t.rst.run = some { bits := 0, src := 6, kind := 1, taken := true } ∧
        ∀ a, a ∉ retainedRegs → t.rd a = regReset a) := by
  have hdone : s.toDev.clockLoss = ((s.toDev.cntSat RST_CLK_STAT 23 16 1).clockHeld).setBit RST_DOM_STAT 10 true :=
    if_neg (by rw [hclock]; exact Bool.false_ne_true)
  have hcount : (s.toDev.cntSat RST_CLK_STAT 23 16 1).fld RST_CLK_STAT 23 16 = min 255 (s.fld RST_CLK_STAT 23 16 + 1) :=
    fld_cntSat_same _ _ _ _ _ (by decide) (by decide)
  have hrun : (s.toDev.cntSat RST_CLK_STAT 23 16 1).rst.run = s.rst.run := rfl
  generalize s.toDev.cntSat RST_CLK_STAT 23 16 1 = d at *
  have hclk := clockHeld_clk d
  have hfresh := clockHeld_fresh d
  generalize d.clockHeld = e at *
  refine answers_of_done (congrArg (done s) hdone) ⟨?_, ?_, fun h => ?_⟩
  · exact (settle_bit _ _ _ (by decide) (by decide)).trans (bit_setBit_same _ _ _ _ (by decide))
  · refine (settle_fld _ _ _ _ (by decide) (by decide)).trans ((fld_of_rd _ _ _ _ _ (rd_wr_ne _ _ _ _ (by decide))).trans ?_)
    exact (fld_of_rd _ _ _ _ _ hclk).trans hcount
  · obtain ⟨hloss, hregs⟩ := hfresh (hrun.trans h)
    exact ⟨(congrArg RstSt.run (settle_rst _)).trans hloss, fun a ha =>
      (settle_rd _ _ (retained_ne ha (by decide)) (retained_ne ha (by decide))).trans
        ((rd_wr_ne _ _ _ _ (retained_ne ha (by decide))).trans (hregs a ha))⟩

theorem clock_gone (h : s.bit RST_DOM_STAT 10 = true) :
    NoEffect .clockLoss s ∧ ∀ g, NoEffect (.pllLossOfLock g) s ∧ NoEffect (.pllLock g) s := by
  refine ⟨noEffect_of_done rfl (if_pos h), fun g => ⟨noEffect_of_done rfl (if_neg ?_), noEffect_of_done rfl (if_pos h)⟩⟩
  rw [h]
  simp

theorem clockReturn_none (h : s.bit RST_DOM_STAT 10 = false) (us : Nat) : NoEffect (.clockReturn us) s :=
  noEffect_of_done rfl (if_neg (by rw [h]; exact Bool.false_ne_true))

theorem lock_none (g : Bool) (h : s.bit RST_DOM_STAT (8 + bnat g) = false) : NoEffect (.pllLossOfLock g) s :=
  noEffect_of_done rfl (if_neg (by rw [h]; simp))

/-! The clock's return. -/

theorem clockCause_log (d : Dev) (outage : Option Nat) : (d.clockCause outage).log = d.log := by
  unfold Dev.clockCause
  split <;> rfl

theorem clockCause_rd (d : Dev) (outage : Option Nat) {a : Nat} (h : a ≠ RST_CAUSE) : (d.clockCause outage).rd a = d.rd a := by
  unfold Dev.clockCause
  split
  · rfl
  · exact rd_orMask_ne _ _ _ _ h

theorem clockCause_run (d : Dev) (us : Nat) {r : RstRun} (h : d.rst.run = some r) :
    (d.clockCause (some us)).rst.run = some { r with bits := r.bits ||| 256, outage := some us } ∧
      (d.clockCause (some us)).bit RST_CAUSE 8 = true := by
  unfold Dev.clockCause
  rw [h]
  refine ⟨rfl, (bit_orMask d RST_CAUSE 256 8 (by decide)).trans ?_⟩
  exact Bool.or_true _

theorem clockReturn_answers (h : s.bit RST_DOM_STAT 10 = true) (us : Nat) : Answers (.clockReturn us) s fun t =>
      t.bit RST_DOM_STAT 10 = false ∧ NoEvent s t ∧
      (∀ r, s.rst.run = some r → t.rst.run = some { r with bits := r.bits ||| 256, outage := some us } ∧ t.bit RST_CAUSE 8 = true) := by
  have hdone : s.toDev.clockReturn us = (s.toDev.setBit RST_DOM_STAT 10 false).clockCause (some us) := if_pos h
  have hbit : (s.toDev.setBit RST_DOM_STAT 10 false).bit RST_DOM_STAT 10 = false := bit_setBit_same _ _ _ _ (by decide)
  have hlog : (s.toDev.setBit RST_DOM_STAT 10 false).log = s.log := rfl
  have hrun : (s.toDev.setBit RST_DOM_STAT 10 false).rst = s.rst := rfl
  generalize s.toDev.setBit RST_DOM_STAT 10 false = d at *
  refine answers_of_done (congrArg (done s) hdone) ⟨?_, noEvent_after ?_, fun r hr => ?_⟩
  · exact (settle_bit _ _ _ (by decide) (by decide)).trans ((bit_of_rd _ _ _ _ (clockCause_rd d _ (by decide))).trans hbit)
  · rw [clockCause_log, hlog]
  · obtain ⟨hr', hcause⟩ := clockCause_run d us ((congrArg RstSt.run hrun).trans hr)
    exact ⟨(congrArg RstSt.run (settle_rst _)).trans hr', (settle_bit _ _ _ (by decide) (by decide)).trans hcause⟩

/-! Loss of lock. -/

theorem pllLoss_answers (g : Bool) (hclock : s.bit RST_DOM_STAT 10 = false) (hlocked : s.bit RST_DOM_STAT (8 + bnat g) = true) :
    Answers (.pllLossOfLock g) s fun t =>
      t.bit RST_DOM_STAT (8 + bnat g) = false ∧ t.fld RST_DOM_STAT 7 1 = 0 ∧
      t.fld RST_CLK_STAT (7 + 8 * bnat g) (8 * bnat g) = min 255 (s.fld RST_CLK_STAT (7 + 8 * bnat g) (8 * bnat g) + 1) := by
  have hdone : s.toDev.pllLoss g = (s.toDev.cntSat RST_CLK_STAT (7 + 8 * bnat g) (8 * bnat g) 1).clockHeld :=
    if_pos (by rw [hclock, hlocked]; rfl)
  have hcount : (s.toDev.cntSat RST_CLK_STAT (7 + 8 * bnat g) (8 * bnat g) 1).fld RST_CLK_STAT (7 + 8 * bnat g) (8 * bnat g) =
      min 255 (s.fld RST_CLK_STAT (7 + 8 * bnat g) (8 * bnat g) + 1) := by
    cases g <;> exact fld_cntSat_same _ _ _ _ _ (by decide) (by decide)
  generalize s.toDev.cntSat RST_CLK_STAT (7 + 8 * bnat g) (8 * bnat g) 1 = d at *
  have hclk := clockHeld_clk d
  have hbits := fun i => @clockHeld_bit d i
  generalize d.clockHeld = e at *
  refine answers_of_done (congrArg (done s) hdone) ⟨?_, ?_, ?_⟩
  · exact (settle_bit _ _ _ (by decide) (by decide)).trans (hbits _ (by cases g <;> decide))
  · exact (settle_fld _ _ _ _ (by decide) (by decide)).trans (fld_zero_of_bits fun i hi => hbits i ⟨hi.1, hi.2.trans (by decide)⟩)
  · exact (settle_fld _ _ _ _ (by decide) (by decide)).trans ((fld_of_rd _ _ _ _ _ hclk).trans hcount)

/-! Lock. -/

/-- Each of the seven domains has its own bit of the mask that releases them. -/
theorem sevenBits : ∀ b1 b2 b3 b4 b5 b6 b7 : Bool, ∀ k : Fin 7,
    Nat.testBit (([b1, b2, b3, b4, b5, b6, b7].zipIdx.map fun x => 2 ^ (x.2 + 1) * if x.1 then 0 else 1).sum) (k + 1) =
      ![!b1, !b2, !b3, !b4, !b5, !b6, !b7] k := by decide

theorem releaseMask_bit (b : Nat → Bool) {k : Nat} (h1 : 1 ≤ k) (h7 : k ≤ 7) :
    (((List.range 7).map fun k => 2 ^ (k + 1) * if b (k + 1) then 0 else 1).sum).testBit k = !b k := by
  obtain ⟨j, rfl⟩ := Nat.exists_eq_add_of_le' h1
  have hj : j ≤ 6 := by omega
  refine (sevenBits (b 1) (b 2) (b 3) (b 4) (b 5) (b 6) (b 7) ⟨j, by omega⟩).trans ?_
  interval_cases j <;> rfl

theorem showDoms_releases (d : Dev) (hrst : d.bit RST_DOM_STAT 0 = true) (hrun : d.rst.run = none) (h8 : d.bit RST_DOM_STAT 8 = true)
    (h9 : d.bit RST_DOM_STAT 9 = true) {k : Nat} (h1 : 1 ≤ k) (h7 : k ≤ 7) :
    d.showDoms.bit RST_DOM_STAT k = (d.bit RST_DOM_STAT k || !bitOf d.rst.stopped k) := by
  unfold Dev.showDoms
  rw [if_pos (by rw [hrst, hrun, h8, h9]; rfl)]
  dsimp only
  rw [bit_orMask_other _ _ _ _ _ (by decide), bit_orMask _ _ _ _ (by omega), releaseMask_bit (bitOf d.rst.stopped) h1 h7]

/-- The device as a PLL's lock shows it (R462, R467). -/
def Dev.locked (s : Dev) (g : Bool) : Dev :=
  let s := s.setBit RST_DOM_STAT (8 + bnat g) true
  if s.rst.run.elim false fun r => r.src == 6 then s.clockCause none else s

theorem locked_log (d : Dev) (g : Bool) : (d.locked g).log = d.log := by
  unfold Dev.locked
  dsimp only
  split
  · exact clockCause_log _ _
  · rfl

theorem locked_bit (d : Dev) (g : Bool) : (d.locked g).bit RST_DOM_STAT (8 + bnat g) = true ∧
    ∀ k, k ≠ 8 + bnat g → (d.locked g).bit RST_DOM_STAT k = d.bit RST_DOM_STAT k := by
  have hrd : (d.locked g).rd RST_DOM_STAT = (d.setBit RST_DOM_STAT (8 + bnat g) true).rd RST_DOM_STAT := by
    unfold Dev.locked
    dsimp only
    split
    · exact clockCause_rd _ _ (by decide)
    · rfl
  exact ⟨(bit_of_rd _ _ _ _ hrd).trans (bit_setBit_same _ _ _ _ (by cases g <;> decide)), fun k hk =>
    (bit_of_rd _ _ _ _ hrd).trans (bit_setBit_ne _ _ _ _ _ (by cases g <;> decide) hk)⟩

theorem locked_idle (d : Dev) (g : Bool) (h : d.rst.run = none) : (d.locked g).rst = d.rst := by
  unfold Dev.locked
  dsimp only
  rw [if_neg (by rw [setBit_rst, h]; exact Bool.false_ne_true)]
  rfl

theorem pllLock_answers (g : Bool) (hclock : s.bit RST_DOM_STAT 10 = false) : Answers (.pllLock g) s fun t =>
      t.bit RST_DOM_STAT (8 + bnat g) = true ∧ NoEvent s t ∧
      (s.bit RST_DOM_STAT 0 = true → s.rst.run = none → s.bit RST_DOM_STAT (8 + bnat (!g)) = true →
        ∀ k, 1 ≤ k → k ≤ 7 → t.bit RST_DOM_STAT k = (s.bit RST_DOM_STAT k || !bitOf s.rst.stopped k)) := by
  have hdone : s.toDev.pllLock g = (s.toDev.locked g).showDoms := if_neg (by rw [hclock]; exact Bool.false_ne_true)
  obtain ⟨hlock, hkept⟩ := locked_bit s.toDev g
  have hlog := locked_log s.toDev g
  have hidle := locked_idle s.toDev g
  generalize s.toDev.locked g = d at *
  refine answers_of_done (congrArg (done s) hdone) ⟨?_, noEvent_after ?_, fun h0 hrun hpeer k h1 h7 => ?_⟩
  · exact (settle_bit _ _ _ (by decide) (by decide)).trans (showDoms_bit d (by cases g <;> decide) hlock)
  · rw [showDoms_log, hlog]
  · have hother : d.bit RST_DOM_STAT (8 + bnat (!g)) = true := (hkept _ (by cases g <;> decide)).trans hpeer
    have hboth : d.bit RST_DOM_STAT 8 = true ∧ d.bit RST_DOM_STAT 9 = true := by
      cases g
      · exact ⟨hlock, hother⟩
      · exact ⟨hother, hlock⟩
    have hfree : ∀ j, j < 8 → d.bit RST_DOM_STAT j = s.bit RST_DOM_STAT j := fun j hj => hkept j (by omega)
    refine (settle_bit _ _ _ (by decide) (by decide)).trans ?_
    rw [showDoms_releases d ((hfree 0 (by decide)).trans h0) ((congrArg RstSt.run (hidle hrun)).trans hrun) hboth.1 hboth.2 h1 h7,
      hfree k (by omega), hidle hrun]

end

/-- Settles O60: the clock's loss and return, and the locks of the PLLs. -/
theorem clockEvents : Obligations.ClockEvents := by
  unfold Obligations.ClockEvents
  exact fun s => ⟨clockLoss_answers, clock_gone, clockReturn_answers, clockReturn_none, pllLoss_answers, lock_none, pllLock_answers⟩

end Sys2Proof.Machine
end

section
/-! O56: messages of the host's vectors, and the link (R424, R432, R452, R455). -/

namespace Sys2Proof.Machine

theorem msixTab_apart (v : Nat) (hv : v < 32) : MSIX_TAB v 3 ≠ MSIX_PBA ∧ MSIX_TAB v 3 ≠ HOST_VEC_ARMED ∧ MSIX_TAB v 3 ≠ SAFE_OUT_STAT ∧
    MSIX_TAB v 3 ≠ SAFE_STAT := by
  simp only [MSIX_TAB, MSIX_PBA, HOST_VEC_ARMED, SAFE_OUT_STAT, SAFE_STAT]
  omega

theorem vectorSend_effect (d : Dev) (v : Nat) : Effect [HOST_VEC_ARMED] d (d.vectorSend v)
    { blocks d with host := { d.host with msgs := v :: d.host.msgs, msgAt := setAt d.host.msgAt v (some d.seq.cyc) } } :=
  ((Effect.refl [HOST_VEC_ARMED] d).host { d.host with msgs := v :: d.host.msgs, msgAt := setAt d.host.msgAt v (some d.seq.cyc) }).setBit
    (by decide) v false

theorem vectorSend_armed (d : Dev) {v : Nat} (hv : v < 32) : (d.vectorSend v).bit HOST_VEC_ARMED v = false :=
  bit_setBit_same _ _ _ _ hv

section
variable {s : State}

theorem vectorFire_fires {v : Nat} (hwant : s.vectorWanted v = true) (harmed : s.bit HOST_VEC_ARMED v = true) (hover : s.modOver v = true) :
    s.toDev.vectorFire v = if s.bit (MSIX_TAB v 3) 0 then s.toDev.setBit MSIX_PBA v true else s.toDev.vectorSend v :=
  if_pos (by rw [hwant, harmed, hover]; rfl)

theorem message_sent (v : Fin 32) (hwant : s.vectorWanted v = true) (harmed : s.bit HOST_VEC_ARMED v = true)
    (hover : s.modOver v = true) (hopen : s.bit (MSIX_TAB v 3) 0 = false) : Answers (.msixMessage v) s fun t =>
      t.host.msgs = v.val :: s.host.msgs ∧ t.bit HOST_VEC_ARMED v = false ∧ RegsBut [HOST_VEC_ARMED] s t ∧ NoEvent s t := by
  have hdone : s.toDev.vectorFire v = s.toDev.vectorSend v :=
    (vectorFire_fires hwant harmed hover).trans (if_neg (by rw [hopen]; exact Bool.false_ne_true))
  have heff := vectorSend_effect s.toDev v
  refine answers_of_done (congrArg (done s) hdone) ⟨?_, ?_, heff.framed.1, noEvent_after rfl⟩
  · exact (congrArg HostSt.msgs (settle_host _)).trans rfl
  · exact (settle_bit _ _ _ (by decide) (by decide)).trans (vectorSend_armed _ v.isLt)

theorem message_waits (v : Fin 32) (hwant : s.vectorWanted v = true) (harmed : s.bit HOST_VEC_ARMED v = true)
    (hover : s.modOver v = true) (hmask : s.bit (MSIX_TAB v 3) 0 = true) : Answers (.msixMessage v) s fun t =>
      t.bit MSIX_PBA v = true ∧ OnlyRegs [MSIX_PBA] s t ∧ NoEvent s t := by
  have hdone : s.toDev.vectorFire v = s.toDev.setBit MSIX_PBA v true := (vectorFire_fires hwant harmed hover).trans (if_pos hmask)
  refine answers_of_done (congrArg (done s) hdone) ⟨?_, ((Effect.refl _ s.toDev).setBit (by decide) v true).framed, noEvent_after rfl⟩
  exact (settle_bit _ _ _ (by decide) (by decide)).trans (bit_setBit_same _ _ _ _ v.isLt)

theorem message_none (v : Fin 32) (h : s.vectorWanted v = false ∨ s.bit HOST_VEC_ARMED v = false ∨ s.modOver v = false) :
    NoEffect (.msixMessage v) s := by
  refine noEffect_of_done rfl (if_neg ?_)
  rcases h with h | h | h <;> rw [h] <;> simp

theorem ack_arms (v : Word) : Answers (.vectorAck v) s fun t => t.rd HOST_VEC_ARMED = s.rd HOST_VEC_ARMED ||| v ∧
    OnlyRegs [HOST_VEC_ARMED] s t ∧ NoEvent s t :=
  answers_of_done rfl ⟨(settle_rd _ _ (by decide) (by decide)).trans (rd_wr_same _ _ _), ((Effect.refl _ s.toDev).wr (by decide) _).framed,
    noEvent_after rfl⟩

theorem unmask_sends (v : Fin 32) : Answers (.vectorUnmask v) s fun t => t.bit (MSIX_TAB v 3) 0 = false ∧ t.bit MSIX_PBA v = false ∧
      NoEvent s t ∧ t.host.msgs = (if s.bit MSIX_PBA v then v.val :: s.host.msgs else s.host.msgs) := by
  obtain ⟨hpba, harmed, hout, hstat⟩ := msixTab_apart v.val v.isLt
  have hmask : (s.toDev.setBit (MSIX_TAB v 3) 0 false).bit (MSIX_TAB v 3) 0 = false := bit_setBit_same _ _ _ _ (by decide)
  have hwait : (s.toDev.setBit (MSIX_TAB v 3) 0 false).bit MSIX_PBA v = s.bit MSIX_PBA v :=
    bit_setBit_other _ _ _ _ _ _ (Ne.symm hpba)
  have hdone : s.toDev.vectorOpen v = if (s.toDev.setBit (MSIX_TAB v 3) 0 false).bit MSIX_PBA v then
      ((s.toDev.setBit (MSIX_TAB v 3) 0 false).setBit MSIX_PBA v false).vectorSend v else s.toDev.setBit (MSIX_TAB v 3) 0 false := rfl
  have hkept : (s.toDev.setBit (MSIX_TAB v 3) 0 false).log = s.log ∧ (s.toDev.setBit (MSIX_TAB v 3) 0 false).host = s.host := ⟨rfl, rfl⟩
  generalize s.toDev.setBit (MSIX_TAB v 3) 0 false = d at *
  obtain ⟨hlog, hhost⟩ := hkept
  rw [hwait] at hdone
  cases hb : s.bit MSIX_PBA v with
  | true =>
    rw [hb] at hdone
    have hrd : ∀ a, a ≠ HOST_VEC_ARMED → ((d.setBit MSIX_PBA v false).vectorSend v).rd a = (d.setBit MSIX_PBA v false).rd a := fun a ha =>
      (vectorSend_effect _ v).regs a (List.mem_singleton.not.mpr ha)
    refine answers_of_done (congrArg (done s) hdone) ⟨?_, ?_, noEvent_after (congrArg LogSt.raised hlog), ?_⟩
    · refine (settle_bit _ _ _ hout hstat).trans ((bit_of_rd _ _ _ _ (hrd _ harmed)).trans ?_)
      exact (bit_setBit_other _ _ _ _ _ _ hpba).trans hmask
    · refine (settle_bit _ _ _ (by decide) (by decide)).trans ((bit_of_rd _ _ _ _ (hrd _ (by decide))).trans ?_)
      exact bit_setBit_same _ _ _ _ v.isLt
    · refine (congrArg HostSt.msgs (settle_host ((d.setBit MSIX_PBA v false).vectorSend v))).trans ?_
      exact congrArg (fun h : HostSt => v.val :: h.msgs) hhost
  | false =>
    rw [hb] at hdone
    refine answers_of_done (congrArg (done s) hdone) ⟨?_, ?_, noEvent_after (congrArg LogSt.raised hlog), ?_⟩
    · exact (settle_bit _ _ _ hout hstat).trans hmask
    · exact (settle_bit _ _ _ (by decide) (by decide)).trans (hwait.trans hb)
    · exact (congrArg HostSt.msgs (settle_host d)).trans (congrArg HostSt.msgs hhost)

/-! The link. -/

/-- The width and the speed of the link as HOST_STAT shows them (R455). -/
def Dev.linkShown (d : Dev) (w g : Nat) : Dev := (d.setFld HOST_STAT 1 0 g).setFld HOST_STAT 4 2 w

/-- Boot's wait for the host's images starts anew (R424). -/
def Dev.waitAnew (d : Dev) : Dev := if d.glade.waiting then { d with glade.waitAt := d.seq.cyc } else d

theorem hostLinkUp_eq (d : Dev) (w g : Nat) : d.hostLinkUp w g = ((d.linkShown w g).waitAnew).ev 0x1104 5 (w * 16 + g) := rfl

theorem linkShown_fields (d : Dev) (w g : Nat) : (d.linkShown w g).fld HOST_STAT 4 2 = w % 8 ∧ (d.linkShown w g).fld HOST_STAT 1 0 = g % 4 := by
  unfold Dev.linkShown
  exact ⟨fld_setFld_same _ _ _ _ _ (by decide) (by decide),
    (fld_setFld_ne _ _ _ _ _ _ _ (by decide) (by decide) (by decide)).trans (fld_setFld_same _ _ _ _ _ (by decide) (by decide))⟩

theorem waitAnew_rd (d : Dev) (a : Nat) : d.waitAnew.rd a = d.rd a := by
  unfold Dev.waitAnew
  split <;> rfl

theorem linkUp_effect (d : Dev) (w g : Nat) : Effect [HOST_STAT] d (d.linkShown w g).waitAnew (blocks d.waitAnew) := by
  have hshown : Effect [HOST_STAT] d (d.linkShown w g) (blocks d) := by
    have hspeed := (Effect.refl [HOST_STAT] d).setFld (List.mem_singleton_self _) 1 0 g
    exact hspeed.setFld (List.mem_singleton_self _) 4 2 w
  have hglade : (d.linkShown w g).glade = d.glade ∧ (d.linkShown w g).seq = d.seq := ⟨rfl, rfl⟩
  generalize d.linkShown w g = e at *
  by_cases hw : d.glade.waiting = true
  · have he : e.waitAnew = { e with glade := { d.glade with waitAt := d.seq.cyc } } :=
      (if_pos (by rw [hglade.1]; exact hw)).trans (by rw [hglade.1, hglade.2])
    have hd : d.waitAnew = { d with glade := { d.glade with waitAt := d.seq.cyc } } := if_pos hw
    rw [he, hd]
    exact hshown.glade { d.glade with waitAt := d.seq.cyc }
  · have he : e.waitAnew = e := if_neg (by rw [hglade.1]; exact hw)
    have hd : d.waitAnew = d := if_neg hw
    rw [he, hd]
    exact hshown

theorem waitAnew_log (d : Dev) : d.waitAnew.log = d.log := by
  unfold Dev.waitAnew
  split <;> rfl

theorem linkUp_shows (w g : Nat) : Answers (.pcieLinkUp w g) s fun t => t.fld HOST_STAT 4 2 = w % 8 ∧ t.fld HOST_STAT 1 0 = g % 4 ∧
      OneEvent s t 0x1104 5#32 (BitVec.ofNat 32 (w * 16 + g)) ∧ Framed [HOST_STAT] s t (blocks
        (if s.glade.waiting then { s.toDev with glade.waitAt := s.seq.cyc } else s.toDev)) := by
  obtain ⟨hwidth, hspeed⟩ := linkShown_fields s.toDev w g
  have heff := linkUp_effect s.toDev w g
  have hrd := waitAnew_rd (s.toDev.linkShown w g)
  have hlog : (s.toDev.linkShown w g).waitAnew.log = s.log := (waitAnew_log _).trans rfl
  have hdone := hostLinkUp_eq s.toDev w g
  generalize (s.toDev.linkShown w g).waitAnew = e at *
  refine answers_of_done (congrArg (done s) hdone) ⟨?_, ?_, oneEvent_ev (d := e) rfl (congrArg LogSt.raised hlog), (heff.ev _ _ _).framed⟩
  · exact (settle_fld _ _ _ _ (by decide) (by decide)).trans ((fld_of_rd _ _ _ _ _ (hrd HOST_STAT)).trans hwidth)
  · exact (settle_fld _ _ _ _ (by decide) (by decide)).trans ((fld_of_rd _ _ _ _ _ (hrd HOST_STAT)).trans hspeed)

end

/-- Settles O56: messages, acknowledgements and the link. -/
theorem hostMessages : Obligations.HostMessages := by
  unfold Obligations.HostMessages
  exact fun s => ⟨fun v hwant harmed hover => ⟨message_sent v hwant harmed hover, message_waits v hwant harmed hover⟩, message_none,
    ack_arms, unmask_sends, linkUp_shows⟩

end Sys2Proof.Machine
end

section
/-! O54: the ring pairs of the host (R433 to R438). -/

namespace Sys2Proof.Machine

/-! The registers of a pair. -/

/-- The registers of pair p in its window (R434, R435). -/
def pairRegs (p : Nat) : List Nat := [HOST_CMD_CFG p, HOST_CMD_PTR p, HOST_REP_CFG p, HOST_REP_PTR p, HOST_PAIR_STAT p]

theorem pairRegs_between {p a : Nat} (hp : p < 16) (ha : a ∈ pairRegs p) : 0x3C1000 ≤ a ∧ a < 0x3C1400 := by
  simp only [pairRegs, List.mem_cons, List.not_mem_nil, or_false, HOST_CMD_CFG, HOST_CMD_PTR, HOST_REP_CFG, HOST_REP_PTR, HOST_PAIR_STAT,
    pairWin] at ha
  omega

theorem pairRegs_safe {p a : Nat} (hp : p < 16) (ha : a ∈ pairRegs p) : a ≠ SAFE_OUT_STAT ∧ a ≠ SAFE_STAT := by
  have h := pairRegs_between hp ha
  simp only [SAFE_OUT_STAT, SAFE_STAT]
  omega

theorem pairRegs_doorbell {p a : Nat} (hp : p < 16) (ha : a ∈ pairRegs p) (q k : Nat) : a ≠ DOORBELL q k := by
  have h := pairRegs_between hp ha
  simp only [DOORBELL]
  omega

theorem pairRegs_pend {p a : Nat} (hp : p < 16) (ha : a ∈ pairRegs p) {k : Nat} (hk : k < 8) : a ≠ HOST_EVT_PEND k := by
  have h := pairRegs_between hp ha
  simp only [HOST_EVT_PEND]
  omega

theorem pairRegs_nodup (p : Nat) : (pairRegs p).Nodup := by
  simp [pairRegs, HOST_CMD_CFG, HOST_CMD_PTR, HOST_REP_CFG, HOST_REP_PTR, HOST_PAIR_STAT]

section
variable {s : State} {d : Dev} {p : Nat}

theorem cmdPtr_mem (p : Nat) : HOST_CMD_PTR p ∈ pairRegs p := by simp [pairRegs]
theorem cmdCfg_mem (p : Nat) : HOST_CMD_CFG p ∈ pairRegs p := by simp [pairRegs]
theorem repPtr_mem (p : Nat) : HOST_REP_PTR p ∈ pairRegs p := by simp [pairRegs]
theorem repCfg_mem (p : Nat) : HOST_REP_CFG p ∈ pairRegs p := by simp [pairRegs]
theorem pairStat_mem (p : Nat) : HOST_PAIR_STAT p ∈ pairRegs p := by simp [pairRegs]

/-- What the commands' ends leave of a pair's registers. -/
theorem pair_settle_rd {a : Nat} (hp : p < 16) (ha : a ∈ pairRegs p) (d : Dev) : d.settle.rd a = d.rd a :=
  settle_rd d a (pairRegs_safe hp ha).1 (pairRegs_safe hp ha).2

/-! Ring errors (R435, R451, R454). -/

/-- The state of the pair with the error in it (R435). -/
def Dev.errorShown (d : Dev) (p code : Nat) : Dev :=
  ((d.setBit (HOST_PAIR_STAT p) 2 true).setFld (HOST_PAIR_STAT p) 4 3 code).setBit (HOST_PAIR_STAT p) (if code = 2 then 1 else 0) false

/-- The sources that a ring error makes pending (R451). -/
def Dev.errorRaised (d : Dev) (p code : Nat) : Dev := if code = 2 then d.raise 0x80 else (d.raise 0x80).raise (0x10 + p)

theorem ringError_eq (d : Dev) (p code : Nat) : d.ringError p code = ((d.errorShown p code).ev 0x1102 p code).errorRaised p code := rfl

theorem errorRaised_rd (d : Dev) {a : Nat} (hp : p < 16) (ha : a ∈ pairRegs p) (code : Nat) : (d.errorRaised p code).rd a = d.rd a := by
  have h4 : a ≠ HOST_EVT_PEND (0x80 / 32) := pairRegs_pend hp ha (by decide)
  unfold Dev.errorRaised
  split_ifs
  · exact rd_raise_ne _ _ _ h4
  · exact (rd_raise_ne _ _ _ (pairRegs_pend hp ha (by omega))).trans (rd_raise_ne _ _ _ h4)

theorem errorRaised_log (d : Dev) (p code : Nat) : (d.errorRaised p code).log = d.log ∧ (d.errorRaised p code).host = d.host := by
  unfold Dev.errorRaised
  split_ifs <;> exact ⟨rfl, rfl⟩

theorem ringError_rd (d : Dev) {a : Nat} (hp : p < 16) (ha : a ∈ pairRegs p) (code : Nat) :
    (d.ringError p code).rd a = (d.errorShown p code).rd a := by
  rw [ringError_eq, errorRaised_rd _ hp ha]
  exact ev_rd _ _ _ _ _

theorem errorShown_rd_ne (d : Dev) {a : Nat} (h : a ≠ HOST_PAIR_STAT p) (code : Nat) : (d.errorShown p code).rd a = d.rd a :=
  (rd_wr_ne _ _ _ _ h).trans ((rd_setFld_ne _ _ _ _ _ _ h).trans (rd_wr_ne _ _ _ _ h))

theorem errorShown_stat (d : Dev) (p : Nat) {code : Nat} (hcode : code < 4) : (d.errorShown p code).bit (HOST_PAIR_STAT p) 2 = true ∧
    (d.errorShown p code).fld (HOST_PAIR_STAT p) 4 3 = code ∧
    (d.errorShown p code).bit (HOST_PAIR_STAT p) (if code = 2 then 1 else 0) = false := by
  have hbit : (if code = 2 then 1 else 0) < 2 := by split_ifs <;> decide
  unfold Dev.errorShown
  generalize (if code = 2 then 1 else 0) = k at hbit
  refine ⟨?_, ?_, bit_setBit_same _ _ _ _ (by omega)⟩
  · rw [bit_setBit_ne _ _ _ _ _ (by omega) (by omega), bit_setFld_ne _ _ _ _ _ _ (by decide) (by decide) (by decide),
      bit_setBit_same _ _ _ _ (by decide)]
  · rw [fld_setBit_ne _ _ _ _ _ _ (by omega) (by omega), fld_setFld_same _ _ _ _ _ (by decide) (by decide)]
    exact Nat.mod_eq_of_lt hcode

theorem ringError_host (d : Dev) (p code : Nat) : (d.ringError p code).host = d.host := by
  rw [ringError_eq, (errorRaised_log _ _ _).2]
  rfl

theorem ringError_event (hd : d.log.raised = s.log.raised) (code : Nat) :
    OneEvent s (s.after (d.ringError p code)) 0x1102 (BitVec.ofNat 32 p) (BitVec.ofNat 32 code) := by
  refine oneEvent_ev (d := d.errorShown p code) ?_ hd
  rw [ringError_eq, (errorRaised_log _ _ _).1]

/-- A ring that stops with an error shows it in its pair's state, and the other registers of the pair stay (R435). -/
theorem ringError_shown (hp : p < 16) (d : Dev) {code : Nat} (hcode : code < 4) :
    (d.ringError p code).settle.bit (HOST_PAIR_STAT p) 2 = true ∧ (d.ringError p code).settle.fld (HOST_PAIR_STAT p) 4 3 = code ∧
      (d.ringError p code).settle.bit (HOST_PAIR_STAT p) (if code = 2 then 1 else 0) = false ∧
      ∀ a ∈ pairRegs p, a ≠ HOST_PAIR_STAT p → (d.ringError p code).settle.rd a = d.rd a := by
  have hrd : ∀ a ∈ pairRegs p, (d.ringError p code).settle.rd a = (d.errorShown p code).rd a := fun a ha =>
    (pair_settle_rd hp ha _).trans (ringError_rd d hp ha code)
  obtain ⟨herr, hcode', hrun⟩ := errorShown_stat d p hcode
  have hstat := hrd _ (pairStat_mem p)
  exact ⟨(bit_of_rd _ _ _ _ hstat).trans herr, (fld_of_rd _ _ _ _ _ hstat).trans hcode', (bit_of_rd _ _ _ _ hstat).trans hrun,
    fun a ha hne => (hrd a ha).trans (errorShown_rd_ne d hne code)⟩

end

end Sys2Proof.Machine
end

section
/-! O54, continued: doorbells, fetches, and the rings' enables (R433 to R438). -/

namespace Sys2Proof.Machine

section
variable {s : State} {p : Nat} {v : Word}

/-! Doorbells. -/

theorem doorbell_rd (d : Dev) (hp : p < 16) (k : Nat) (v : Word) {a : Nat} (ha : a ∈ pairRegs p) : (d.wr (DOORBELL p k) v).rd a = d.rd a :=
  rd_wr_ne _ _ _ _ (pairRegs_doorbell hp ha p k)

/-- A pair reads its rings in its window alone. -/
theorem rings_of_regs {d e : Dev} (h : ∀ a ∈ pairRegs p, e.rd a = d.rd a) : (∀ r, e.ringEn p r = d.ringEn p r) ∧
    (e.cmdRun p = d.cmdRun p ∧ e.repRun p = d.repRun p) ∧ e.rd (HOST_CMD_CFG p) = d.rd (HOST_CMD_CFG p) ∧
    e.ringHead (HOST_CMD_PTR p) = d.ringHead (HOST_CMD_PTR p) ∧ e.ringHead (HOST_REP_PTR p) = d.ringHead (HOST_REP_PTR p) ∧
    e.ringCount (HOST_REP_PTR p) = d.ringCount (HOST_REP_PTR p) := by
  have hcmd := fun hi lo => fld_of_rd _ _ _ hi lo (h _ (cmdPtr_mem p))
  have hrep := fun hi lo => fld_of_rd _ _ _ hi lo (h _ (repPtr_mem p))
  have hstat := fun i => bit_of_rd _ _ _ i (h _ (pairStat_mem p))
  refine ⟨fun r => ?_, ⟨hstat 0, hstat 1⟩, h _ (cmdCfg_mem p), hcmd 15 0, hrep 15 0, ?_⟩
  · cases r
    · exact bit_of_rd _ _ _ _ (h _ (cmdCfg_mem p))
    · exact bit_of_rd _ _ _ _ (h _ (repCfg_mem p))
  · unfold Dev.ringCount Dev.ringTail Dev.ringHead
    rw [hrep, hrep]

/-- An index of a ring as a doorbell gives it. -/
theorem index_lt (v : Word) : bitsOf v.toNat 15 0 < 65536 := Nat.mod_lt _ (by decide)

/-- One index of a ring moves, and the other stays. -/
theorem ring_tail_set (d : Dev) (a n : Nat) (hn : n < 65536) : (d.setFld a 31 16 n).ringTail a = n ∧ (d.setFld a 31 16 n).ringHead a = d.ringHead a :=
  ⟨(fld_setFld_same _ _ _ _ _ (by decide) (by decide)).trans (Nat.mod_eq_of_lt hn),
    fld_setFld_ne _ _ _ _ _ _ _ (by decide) (by decide) (by decide)⟩

theorem ring_head_set (d : Dev) (a n : Nat) : (d.setFld a 15 0 n).ringHead a = n % 65536 ∧ (d.setFld a 15 0 n).ringTail a = d.ringTail a :=
  ⟨fld_setFld_same _ _ _ _ _ (by decide) (by decide), fld_setFld_ne _ _ _ _ _ _ _ (by decide) (by decide) (by decide)⟩

theorem ringHead_settle (hp : p < 16) {a : Nat} (ha : a ∈ pairRegs p) (d : Dev) : d.settle.ringHead a = d.ringHead a :=
  fld_of_rd _ _ _ _ _ (pair_settle_rd hp ha d)

theorem ringTail_settle (hp : p < 16) {a : Nat} (ha : a ∈ pairRegs p) (d : Dev) : d.settle.ringTail a = d.ringTail a :=
  fld_of_rd _ _ _ _ _ (pair_settle_rd hp ha d)

/-- The effect of a doorbell that moves an index. -/
theorem bell_effect (s : Dev) (p k a : Nat) (v : Word) (hi lo n : Nat) :
    Effect [DOORBELL p k, a] s ((s.wr (DOORBELL p k) v).setFld a hi lo n) (blocks s) :=
  ((Effect.refl [DOORBELL p k, a] s).wr (by simp) v).setFld (by simp) hi lo n

theorem cmdBell_eq (s : Dev) (hp : p < 16) (hen : s.ringEn p false = true) : s.cmdBell p v =
    if ringSize (s.rd (HOST_CMD_CFG p)) < (bitsOf v.toNat 15 0 + 65536 - s.ringHead (HOST_CMD_PTR p)) % 65536 then
      (if s.cmdRun p then (s.wr (DOORBELL p 0) v).ringError p 1 else s.wr (DOORBELL p 0) v)
    else (s.wr (DOORBELL p 0) v).setFld (HOST_CMD_PTR p) 31 16 (bitsOf v.toNat 15 0) := by
  obtain ⟨hring, hrun, hcfg, hhead, -, -⟩ := rings_of_regs (d := s) (e := s.wr (DOORBELL p 0) v) fun a ha => doorbell_rd s hp 0 v ha
  unfold Dev.cmdBell
  dsimp only
  rw [hring, hen, hcfg, hhead, hrun.1]
  exact if_neg (by decide)

theorem repBell_eq (s : Dev) (hp : p < 16) (hen : s.ringEn p true = true) : s.repBell p v =
    if s.ringCount (HOST_REP_PTR p) < (bitsOf v.toNat 15 0 + 65536 - s.ringHead (HOST_REP_PTR p)) % 65536 then
      (if s.repRun p then (s.wr (DOORBELL p 1) v).ringError p 2 else s.wr (DOORBELL p 1) v)
    else (s.wr (DOORBELL p 1) v).setFld (HOST_REP_PTR p) 15 0 (bitsOf v.toNat 15 0) := by
  obtain ⟨hring, hrun, -, -, hhead, hcount⟩ := rings_of_regs (d := s) (e := s.wr (DOORBELL p 1) v) fun a ha => doorbell_rd s hp 1 v ha
  unfold Dev.repBell
  dsimp only
  rw [hring, hen, hcount, hhead, hrun.2]
  exact if_neg (by decide)

end

section
variable {s : State} {p : Fin 16} {v : Word}

theorem cmdBell_moves (hen : s.ringEn p false = true)
    (hin : (bitsOf v.toNat 15 0 + 65536 - s.ringHead (HOST_CMD_PTR p)) % 65536 ≤ ringSize (s.rd (HOST_CMD_CFG p))) :
    Answers (.cmdDoorbell p v) s fun t => t.ringTail (HOST_CMD_PTR p) = bitsOf v.toNat 15 0 ∧
        t.ringHead (HOST_CMD_PTR p) = s.ringHead (HOST_CMD_PTR p) ∧ OnlyRegs [DOORBELL p 0, HOST_CMD_PTR p] s t ∧ NoEvent s t := by
  have hdone := (cmdBell_eq (v := v) s.toDev p.isLt hen).trans (if_neg (Nat.not_lt.mpr hin))
  have heff := bell_effect s.toDev p 0 (HOST_CMD_PTR p) v 31 16 (bitsOf v.toNat 15 0)
  have hhead := fld_of_rd _ _ _ 15 0 (doorbell_rd s.toDev p.isLt 0 v (cmdPtr_mem p))
  have hset := ring_tail_set (s.toDev.wr (DOORBELL p 0) v) (HOST_CMD_PTR p) (bitsOf v.toNat 15 0) (index_lt v)
  refine answers_of_done (congrArg (done s) hdone) ⟨?_, ?_, heff.framed, noEvent_after rfl⟩
  · exact (ringTail_settle p.isLt (cmdPtr_mem p) _).trans hset.1
  · exact (ringHead_settle p.isLt (cmdPtr_mem p) _).trans (hset.2.trans hhead)

theorem repBell_moves (hen : s.ringEn p true = true)
    (hin : (bitsOf v.toNat 15 0 + 65536 - s.ringHead (HOST_REP_PTR p)) % 65536 ≤ s.ringCount (HOST_REP_PTR p)) :
    Answers (.repDoorbell p v) s fun t => t.ringHead (HOST_REP_PTR p) = bitsOf v.toNat 15 0 ∧
        t.ringTail (HOST_REP_PTR p) = s.ringTail (HOST_REP_PTR p) ∧ OnlyRegs [DOORBELL p 1, HOST_REP_PTR p] s t ∧ NoEvent s t := by
  have hdone := (repBell_eq (v := v) s.toDev p.isLt hen).trans (if_neg (Nat.not_lt.mpr hin))
  have heff := bell_effect s.toDev p 1 (HOST_REP_PTR p) v 15 0 (bitsOf v.toNat 15 0)
  have htail := fld_of_rd _ _ _ 31 16 (doorbell_rd s.toDev p.isLt 1 v (repPtr_mem p))
  have hset := ring_head_set (s.toDev.wr (DOORBELL p 1) v) (HOST_REP_PTR p) (bitsOf v.toNat 15 0)
  refine answers_of_done (congrArg (done s) hdone) ⟨?_, ?_, heff.framed, noEvent_after rfl⟩
  · exact (ringHead_settle p.isLt (repPtr_mem p) _).trans (hset.1.trans (Nat.mod_eq_of_lt (index_lt v)))
  · exact (ringTail_settle p.isLt (repPtr_mem p) _).trans (hset.2.trans htail)

theorem cmdBell_stops (hen : s.ringEn p false = true) (hrun : s.cmdRun p = true)
    (hout : ringSize (s.rd (HOST_CMD_CFG p)) < (bitsOf v.toNat 15 0 + 65536 - s.ringHead (HOST_CMD_PTR p)) % 65536) :
    Answers (.cmdDoorbell p v) s fun t => t.cmdRun p = false ∧ t.bit (HOST_PAIR_STAT p) 2 = true ∧
        t.fld (HOST_PAIR_STAT p) 4 3 = 1 ∧ t.rd (HOST_CMD_PTR p) = s.rd (HOST_CMD_PTR p) ∧
        OneEvent s t 0x1102 (BitVec.ofNat 32 p) 1#32 := by
  have hdone := (cmdBell_eq (v := v) s.toDev p.isLt hen).trans ((if_pos hout).trans (if_pos hrun))
  have hdoor : (s.toDev.wr (DOORBELL p 0) v).rd (HOST_CMD_PTR p) = s.rd (HOST_CMD_PTR p) := doorbell_rd s.toDev p.isLt 0 v (cmdPtr_mem p)
  have hlog : (s.toDev.wr (DOORBELL p 0) v).log.raised = s.log.raised := rfl
  generalize s.toDev.wr (DOORBELL p 0) v = d at *
  obtain ⟨herr, hcode, hstop, hkept⟩ := ringError_shown p.isLt d (code := 1) (by decide)
  have hevent := ringError_event (p := p.val) hlog 1
  generalize d.ringError p 1 = e at *
  refine answers_of_done (congrArg (done s) hdone) ⟨hstop, herr, hcode, ?_, hevent⟩
  exact (hkept _ (cmdPtr_mem p) (by simp [HOST_CMD_PTR, HOST_PAIR_STAT])).trans hdoor

theorem repBell_stops (hen : s.ringEn p true = true) (hrun : s.repRun p = true)
    (hout : s.ringCount (HOST_REP_PTR p) < (bitsOf v.toNat 15 0 + 65536 - s.ringHead (HOST_REP_PTR p)) % 65536) :
    Answers (.repDoorbell p v) s fun t => t.repRun p = false ∧ t.fld (HOST_PAIR_STAT p) 4 3 = 2 ∧
        t.rd (HOST_REP_PTR p) = s.rd (HOST_REP_PTR p) ∧ OneEvent s t 0x1102 (BitVec.ofNat 32 p) 2#32 := by
  have hdone := (repBell_eq (v := v) s.toDev p.isLt hen).trans ((if_pos hout).trans (if_pos hrun))
  have hdoor : (s.toDev.wr (DOORBELL p 1) v).rd (HOST_REP_PTR p) = s.rd (HOST_REP_PTR p) := doorbell_rd s.toDev p.isLt 1 v (repPtr_mem p)
  have hlog : (s.toDev.wr (DOORBELL p 1) v).log.raised = s.log.raised := rfl
  generalize s.toDev.wr (DOORBELL p 1) v = d at *
  obtain ⟨-, hcode, hstop, hkept⟩ := ringError_shown p.isLt d (code := 2) (by decide)
  have hevent := ringError_event (p := p.val) hlog 2
  generalize d.ringError p 2 = e at *
  refine answers_of_done (congrArg (done s) hdone) ⟨hstop, hcode, ?_, hevent⟩
  exact (hkept _ (repPtr_mem p) (by simp [HOST_REP_PTR, HOST_PAIR_STAT])).trans hdoor

theorem bell_unheard (r : Bool) (hoff : s.ringEn p r = false) :
    Answers (if r then .repDoorbell p v else .cmdDoorbell p v) s fun t => OnlyRegs [DOORBELL p (bnat r)] s t ∧ NoEvent s t := by
  have heff : ∀ k, Effect [DOORBELL p k] s.toDev (s.toDev.wr (DOORBELL p k) v) (blocks s.toDev) := fun k =>
    (Effect.refl _ s.toDev).wr (List.mem_singleton_self _) v
  have hen : ∀ k r, (s.toDev.wr (DOORBELL p k) v).ringEn p r = s.ringEn p r := fun k =>
    (rings_of_regs fun a ha => doorbell_rd s.toDev p.isLt k v ha).1
  cases r with
  | false =>
    have hdone : s.toDev.cmdBell p v = s.toDev.wr (DOORBELL p 0) v := if_pos (by rw [hen, hoff]; rfl)
    exact answers_of_done (congrArg (done s) hdone) ⟨(heff 0).framed, noEvent_after rfl⟩
  | true =>
    have hdone : s.toDev.repBell p v = s.toDev.wr (DOORBELL p 1) v := if_pos (by rw [hen, hoff]; rfl)
    exact answers_of_done (congrArg (done s) hdone) ⟨(heff 1).framed, noEvent_after rfl⟩

end

end Sys2Proof.Machine
end

section
/-! O54, continued: the end of a fetch, the enables of a ring, and CLR_ERR (R434 to R438). -/

namespace Sys2Proof.Machine

/-! Sorting keeps what it sorts. -/

theorem insBy_perm {α : Type} (le : α → α → Bool) (x : α) (ys : List α) : (insBy le x ys).Perm (x :: ys) := by
  induction ys with
  | nil => exact List.Perm.refl _
  | cons y ys ih =>
    unfold insBy
    split_ifs
    · exact List.Perm.refl _
    · exact (ih.cons y).trans (List.Perm.swap x y ys)

theorem sortBy_perm {α : Type} (le : α → α → Bool) (xs : List α) : (sortBy le xs).Perm xs := by
  induction xs with
  | nil => exact List.Perm.refl _
  | cons x xs ih => exact (insBy_perm le x _).trans (ih.cons x)

/-! The end of a fetch. -/

/-- The descriptors that a fetch of n makes ready (R436). -/
def fetched (p head n : Nat) : List (Nat × Nat) := (List.range n).map fun k => (p, (head + k) % 65536)

/-- The device once a fetch has ended (R437). -/
def Dev.fetchOver (d : Dev) (p : Nat) : Dev := d.setPair p fun x => { x with fetching := none }

/-- The fetched descriptors stand in the ready list (R436). -/
def Dev.readied (d : Dev) (p n : Nat) : Dev :=
  { d with host.ready := sortBy (fun x y => decide (x.1 ≤ y.1)) (d.host.ready ++ fetched p (d.ringHead (HOST_CMD_PTR p)) n) }

/-- The head moves behind what was fetched (R436, R437). -/
def Dev.headMoved (d : Dev) (p n : Nat) : Dev :=
  ((d.setFld (HOST_CMD_PTR p) 15 0 (d.ringHead (HOST_CMD_PTR p) + n)).writeback p).raise (0x10 + p)

section
variable {s : State} {p : Fin 16}

theorem fetchEnd_ok {n : Nat} (hfetch : (s.pair p).fetching = some n) (hrun : s.cmdRun p = true) :
    s.toDev.fetchEnd p true = ((s.toDev.fetchOver p).readied p n).headMoved p n := by
  unfold Dev.fetchEnd
  rw [hfetch]
  dsimp only
  rw [if_neg (by rw [show (s.toDev.setPair p fun x => { x with fetching := none }).cmdRun p = true from hrun]; decide)]
  exact if_neg (by decide)

theorem fetchEnd_fault {n : Nat} (hfetch : (s.pair p).fetching = some n) (hrun : s.cmdRun p = true) :
    s.toDev.fetchEnd p false = (s.toDev.fetchOver p).ringError p 3 := by
  unfold Dev.fetchEnd
  rw [hfetch]
  dsimp only
  rw [if_neg (by rw [show (s.toDev.setPair p fun x => { x with fetching := none }).cmdRun p = true from hrun]; decide)]
  exact if_pos rfl

theorem fetchOver_pair (d : Dev) (p : Nat) (hlen : p < d.host.pair.length) : ((d.fetchOver p).pair p).fetching = none := by
  unfold Dev.fetchOver Dev.pair Dev.setPair
  rw [getD_modAt_same _ _ _ _ hlen]

theorem headMoved_pair (d : Dev) (p n : Nat) (h : (d.pair p).fetching = none) : ((d.headMoved p n).pair p).fetching = none := by
  refine Eq.trans ?_ h
  exact getD_modAt_keeps PairSt.fetching d.host.pair p p _ {} fun _ => rfl

theorem headMoved_head (d : Dev) {p : Nat} (hp : p < 16) (n : Nat) :
    (d.headMoved p n).settle.ringHead (HOST_CMD_PTR p) = (d.ringHead (HOST_CMD_PTR p) + n) % 65536 := by
  refine (ringHead_settle hp (cmdPtr_mem p) _).trans ?_
  refine (fld_raise_other _ _ _ _ _ (pairRegs_pend hp (cmdPtr_mem p) (by omega))).trans ?_
  exact (ring_head_set d (HOST_CMD_PTR p) (d.ringHead (HOST_CMD_PTR p) + n)).1

theorem readied_ready (d : Dev) (p n : Nat) : (d.readied p n).host.ready.length = d.host.ready.length + n ∧
    ∀ k, k < n → (p, (d.ringHead (HOST_CMD_PTR p) + k) % 65536) ∈ (d.readied p n).host.ready := by
  have hperm := sortBy_perm (fun x y : Nat × Nat => decide (x.1 ≤ y.1)) (d.host.ready ++ fetched p (d.ringHead (HOST_CMD_PTR p)) n)
  refine ⟨hperm.length_eq.trans (by simp [fetched]), fun k hk => hperm.mem_iff.mpr (List.mem_append_right _ ?_)⟩
  exact List.mem_map.mpr ⟨k, List.mem_range.mpr hk, rfl⟩

theorem fetch_readies {n : Nat} (hshape : Shaped s.toDev) (hfetch : (s.pair p).fetching = some n) (hrun : s.cmdRun p = true) :
    Answers (.descriptorFetchDone p true) s fun t => (t.pair p).fetching = none ∧
        t.ringHead (HOST_CMD_PTR p) = (s.ringHead (HOST_CMD_PTR p) + n) % 65536 ∧
        t.host.ready.length = s.host.ready.length + n ∧
        (∀ k, k < n → (p.val, (s.ringHead (HOST_CMD_PTR p) + k) % 65536) ∈ t.host.ready) ∧ NoEvent s t := by
  have hdone := fetchEnd_ok hfetch hrun
  have hover := fetchOver_pair s.toDev p (by rw [hshape.pair]; exact p.isLt)
  have hready := readied_ready (s.toDev.fetchOver p) p n
  have hkept : (s.toDev.fetchOver p).host.ready = s.host.ready ∧ (s.toDev.fetchOver p).log = s.log ∧
      (s.toDev.fetchOver p).ringHead (HOST_CMD_PTR p) = s.ringHead (HOST_CMD_PTR p) := ⟨rfl, rfl, rfl⟩
  generalize s.toDev.fetchOver p = d at *
  obtain ⟨hold, hlog, hhead⟩ := hkept
  rw [hold, hhead] at hready
  have hpair : ((d.readied p n).pair p).fetching = none := hover
  have hhead' : (d.readied p n).ringHead (HOST_CMD_PTR p) = s.ringHead (HOST_CMD_PTR p) := hhead
  have hlog' : (d.readied p n).log = s.log := hlog
  generalize d.readied p n = e at *
  have hhost : (e.headMoved p n).settle.host.ready = e.host.ready :=
    (congrArg HostSt.ready (settle_host (e.headMoved p n))).trans rfl
  refine answers_of_done (congrArg (done s) hdone) ⟨?_, ?_, ?_, fun k hk => ?_, noEvent_after (congrArg LogSt.raised hlog' :)⟩
  · exact (congrArg (fun h : HostSt => (h.pair.getD p {}).fetching) (settle_host _)).trans (headMoved_pair e p n hpair)
  · rw [← hhead']
    exact headMoved_head e p.isLt n
  · exact (congrArg List.length hhost).trans hready.1
  · exact (congrArg (fun l => (p.val, (s.ringHead (HOST_CMD_PTR p) + k) % 65536) ∈ l) hhost).mpr (hready.2 k hk)

theorem fetch_faults {n : Nat} (hshape : Shaped s.toDev) (hfetch : (s.pair p).fetching = some n) (hrun : s.cmdRun p = true) :
    Answers (.descriptorFetchDone p false) s fun t => (t.pair p).fetching = none ∧ t.cmdRun p = false ∧
        t.host.ready = s.host.ready ∧ OneEvent s t 0x1102 (BitVec.ofNat 32 p) 3#32 := by
  have hdone := fetchEnd_fault hfetch hrun
  have hover := fetchOver_pair s.toDev p (by rw [hshape.pair]; exact p.isLt)
  have hkept : (s.toDev.fetchOver p).host.ready = s.host.ready ∧ (s.toDev.fetchOver p).log.raised = s.log.raised := ⟨rfl, rfl⟩
  generalize s.toDev.fetchOver p = d at *
  obtain ⟨-, -, hstop, -⟩ := ringError_shown p.isLt d (code := 3) (by decide)
  have hevent := ringError_event (p := p.val) hkept.2 3
  have hhost : (d.ringError p 3).settle.host = d.host := (settle_host _).trans (ringError_host d p 3)
  generalize d.ringError p 3 = e at *
  refine answers_of_done (congrArg (done s) hdone) ⟨?_, hstop, ?_, hevent⟩
  · exact (congrArg (fun h : HostSt => (h.pair.getD p {}).fetching) hhost).trans hover
  · exact (congrArg HostSt.ready hhost).trans hkept.1

theorem fetch_none (ok : Bool) (h : (s.pair p).fetching = none) : NoEffect (.descriptorFetchDone p ok) s := by
  refine noEffect_of_done rfl ?_
  unfold Dev.fetchEnd
  rw [h]

end

end Sys2Proof.Machine
end

section
/-! O54, continued: a ring's enable and disable, and CLR_ERR (R434, R435, R438). -/

namespace Sys2Proof.Machine

/-- Configuration and indices of a pair's ring, by its direction (R434). -/
def ringCfg (p : Nat) (rep : Bool) : Nat := if rep then HOST_REP_CFG p else HOST_CMD_CFG p
def ringPtr (p : Nat) (rep : Bool) : Nat := if rep then HOST_REP_PTR p else HOST_CMD_PTR p

theorem ringRegs_mem (p : Nat) (rep : Bool) : ringCfg p rep ∈ pairRegs p ∧ ringPtr p rep ∈ pairRegs p := by
  cases rep
  · exact ⟨cmdCfg_mem p, cmdPtr_mem p⟩
  · exact ⟨repCfg_mem p, repPtr_mem p⟩

theorem ringRegs_apart (p : Nat) (rep : Bool) : ringCfg p rep ≠ ringPtr p rep ∧ ringCfg p rep ≠ HOST_PAIR_STAT p ∧
    ringPtr p rep ≠ HOST_PAIR_STAT p := by
  cases rep <;> simp [ringCfg, ringPtr, HOST_CMD_CFG, HOST_CMD_PTR, HOST_REP_CFG, HOST_REP_PTR, HOST_PAIR_STAT]

/-- What the host writes to the size of a ring that is off (R434). -/
def Dev.sized (d : Dev) (a : Nat) (v : Word) : Dev := if d.bit a 8 then d else d.setFld a 3 0 v.toNat

theorem sized_size (d : Dev) (a : Nat) (v : Word) (h : d.bit a 8 = false) : (d.sized a v).fld a 3 0 = v.toNat % 16 := by
  unfold Dev.sized
  rw [if_neg (by rw [h]; exact Bool.false_ne_true)]
  exact fld_setFld_same _ _ _ _ _ (by decide) (by decide)

theorem sized_log (d : Dev) (a : Nat) (v : Word) : (d.sized a v).log = d.log := by
  unfold Dev.sized
  split <;> rfl

/-- The registers of a ring that starts (R434, R438). -/
def Dev.started (d : Dev) (p : Nat) (rep : Bool) : Dev :=
  ((d.setBit (ringCfg p rep) 8 true).wr (ringPtr p rep) 0).setBit (HOST_PAIR_STAT p) (bnat rep) true

/-- The state of a ring that starts (R438). -/
def PairSt.fresh (x : PairSt) (rep : Bool) : PairSt :=
  if rep then { x with repSeq := 0, lastSeq := 0, dropped := 0, repOff := false } else { x with fetching := none, cmdOff := false }

theorem ringOn_eq (d : Dev) (p : Nat) (rep : Bool) (v : Word) :
    d.ringOn p rep v = ((d.sized (ringCfg p rep) v).started p rep).setPair p fun x => x.fresh rep := rfl

theorem started_shows (d : Dev) (p : Nat) (rep : Bool) : (d.started p rep).bit (ringCfg p rep) 8 = true ∧
    (d.started p rep).rd (ringPtr p rep) = 0#32 ∧ (d.started p rep).bit (HOST_PAIR_STAT p) (bnat rep) = true ∧
    (d.started p rep).fld (ringCfg p rep) 3 0 = d.fld (ringCfg p rep) 3 0 := by
  obtain ⟨hptr, hstat, hptrstat⟩ := ringRegs_apart p rep
  have hcfg : (d.started p rep).rd (ringCfg p rep) = (d.setBit (ringCfg p rep) 8 true).rd (ringCfg p rep) :=
    (rd_wr_ne _ _ _ _ hstat).trans (rd_wr_ne _ _ _ _ hptr)
  refine ⟨(bit_of_rd _ _ _ _ hcfg).trans (bit_setBit_same _ _ _ _ (by decide)), ?_, ?_, (fld_of_rd _ _ _ _ _ hcfg).trans ?_⟩
  · exact (rd_wr_ne _ _ _ _ hptrstat).trans (rd_wr_same _ _ _)
  · exact bit_setBit_same _ _ _ _ (by cases rep <;> decide)
  · exact fld_setBit_ne _ _ _ _ _ _ (by decide) (by decide)

/-- The state of a ring that is to stop at the tick boundary (R438). -/
def PairSt.stopping (x : PairSt) (rep : Bool) : PairSt := if rep then { x with repOff := true } else { x with cmdOff := true }

section
variable {s : State} {p : Fin 16} {v : Word}

theorem ring_enabled (r : Bool) : Answers (.ringEnable p r v) s fun t => t.ringEn p r = true ∧
      t.rd (if r then HOST_REP_PTR p else HOST_CMD_PTR p) = 0#32 ∧ (if r then t.repRun p else t.cmdRun p) = true ∧ NoEvent s t ∧
      (s.ringEn p r = false → t.fld (if r then HOST_REP_CFG p else HOST_CMD_CFG p) 3 0 = v.toNat % 16) := by
  obtain ⟨hcfg, hptr⟩ := ringRegs_mem p.val r
  have hdone := ringOn_eq s.toDev p r v
  have hsize := sized_size s.toDev (ringCfg p r) v
  have hlog := sized_log s.toDev (ringCfg p r) v
  generalize s.toDev.sized (ringCfg p r) v = d at *
  obtain ⟨hen, hzero, hrun, hfld⟩ := started_shows d p r
  have hlog' : ((d.started p r).setPair p fun x => x.fresh r).log.raised = s.log.raised := congrArg LogSt.raised hlog
  have hrd : ∀ a ∈ pairRegs p, ((d.started p r).setPair p fun x => x.fresh r).settle.rd a = (d.started p r).rd a := fun a ha =>
    (pair_settle_rd p.isLt ha _).trans (rd_setPair _ _ _ _)
  generalize (d.started p r).setPair p (fun x => x.fresh r) = e at *
  refine answers_of_done (congrArg (done s) hdone) ⟨?_, ?_, ?_, noEvent_after hlog', fun hoff => ?_⟩
  · exact (bit_of_rd _ _ _ _ (hrd _ hcfg)).trans hen
  · exact (hrd _ hptr).trans hzero
  · have hstat := (bit_of_rd _ _ _ (bnat r) (hrd _ (pairStat_mem p))).trans hrun
    cases r
    · exact hstat
    · exact hstat
  · exact (fld_of_rd _ _ _ _ _ (hrd _ hcfg)).trans (hfld.trans (hsize hoff))

theorem ringOff_on (r : Bool) (hen : s.ringEn p r = true) :
    s.toDev.ringOff p r v = (s.toDev.setBit (ringCfg p r) 8 false).setPair p fun x => x.stopping r := if_pos hen

theorem ring_disabled (hshape : Shaped s.toDev) (r : Bool) (hen : s.ringEn p r = true) : Answers (.ringDisable p r v) s fun t =>
      t.ringEn p r = false ∧ t.rd (HOST_PAIR_STAT p) = s.rd (HOST_PAIR_STAT p) ∧
      (if r then (t.pair p).repOff else (t.pair p).cmdOff) = true ∧ NoEvent s t := by
  have hdone := ringOff_on (v := v) r hen
  have hlen : p.val < s.host.pair.length := by rw [hshape.pair]; exact p.isLt
  have hpair : (((s.toDev.setBit (ringCfg p r) 8 false).setPair p fun x => x.stopping r).settle.pair p) = (s.pair p).stopping r :=
    (congrArg (fun h : HostSt => h.pair.getD p {}) (settle_host _)).trans (getD_modAt_same _ _ _ _ hlen)
  have hrd : ∀ a ∈ pairRegs p, ((s.toDev.setBit (ringCfg p r) 8 false).setPair p fun x => x.stopping r).settle.rd a =
      (s.toDev.setBit (ringCfg p r) 8 false).rd a := fun a ha => (pair_settle_rd p.isLt ha _).trans (rd_setPair _ _ _ _)
  have hlog : ((s.toDev.setBit (ringCfg p r) 8 false).setPair p fun x => x.stopping r).log.raised = s.log.raised := rfl
  generalize (s.toDev.setBit (ringCfg p r) 8 false).setPair p (fun x => x.stopping r) = e at *
  refine answers_of_done (congrArg (done s) hdone) ⟨?_, ?_, ?_, noEvent_after hlog⟩
  · exact (bit_of_rd _ _ _ _ (hrd _ (ringRegs_mem p.val r).1)).trans (bit_setBit_same _ _ _ _ (by decide))
  · exact (hrd _ (pairStat_mem p)).trans (rd_wr_ne _ _ _ _ (ringRegs_apart p r).2.1.symm)
  · cases r
    · exact congrArg PairSt.cmdOff hpair
    · exact congrArg PairSt.repOff hpair

theorem ring_resized (r : Bool) (hoff : s.ringEn p r = false) : Answers (.ringDisable p r v) s fun t =>
      t.fld (if r then HOST_REP_CFG p else HOST_CMD_CFG p) 3 0 = v.toNat % 16 ∧
      OnlyRegs [if r then HOST_REP_CFG p else HOST_CMD_CFG p] s t ∧ NoEvent s t := by
  have hdone : s.toDev.ringOff p r v = s.toDev.setFld (ringCfg p r) 3 0 v.toNat :=
    if_neg (by rw [show s.toDev.bit (if r then HOST_REP_CFG p else HOST_CMD_CFG p) 8 = false from hoff]; exact Bool.false_ne_true)
  have heff : Effect [ringCfg p r] s.toDev (s.toDev.setFld (ringCfg p r) 3 0 v.toNat) (blocks s.toDev) :=
    (Effect.refl _ s.toDev).setFld (List.mem_singleton_self _) 3 0 v.toNat
  refine answers_of_done (congrArg (done s) hdone) ⟨?_, heff.framed, noEvent_after rfl⟩
  exact (fld_of_rd _ _ _ _ _ (pair_settle_rd p.isLt (ringRegs_mem p.val r).1 _)).trans (fld_setFld_same _ _ _ _ _ (by decide) (by decide))

/-! CLR_ERR. -/

/-- The state of a pair whose rings resume (R435). -/
def Dev.resumed (d : Dev) (p : Nat) (cmd rep : Bool) : Dev :=
  (((d.setBit (HOST_PAIR_STAT p) 2 false).setFld (HOST_PAIR_STAT p) 4 3 0).setBit (HOST_PAIR_STAT p) 0 cmd).setBit (HOST_PAIR_STAT p) 1 rep

theorem resumed_shows (d : Dev) (p : Nat) (cmd rep : Bool) : (d.resumed p cmd rep).bit (HOST_PAIR_STAT p) 2 = false ∧
    (d.resumed p cmd rep).fld (HOST_PAIR_STAT p) 4 3 = 0 ∧ (d.resumed p cmd rep).cmdRun p = cmd ∧ (d.resumed p cmd rep).repRun p = rep := by
  unfold Dev.resumed
  refine ⟨?_, ?_, ?_, bit_setBit_same _ _ _ _ (by decide)⟩
  · rw [bit_setBit_ne _ _ _ _ _ (by decide) (by decide), bit_setBit_ne _ _ _ _ _ (by decide) (by decide),
      bit_setFld_ne _ _ _ _ _ _ (by decide) (by decide) (by decide), bit_setBit_same _ _ _ _ (by decide)]
  · rw [fld_setBit_ne _ _ _ _ _ _ (by decide) (by decide), fld_setBit_ne _ _ _ _ _ _ (by decide) (by decide),
      fld_setFld_same _ _ _ _ _ (by decide) (by decide), Nat.zero_mod]
  · exact (bit_setBit_ne _ _ _ _ _ (by decide) (by decide)).trans (bit_setBit_same _ _ _ _ (by decide))

theorem clrErr_resumes (herr : s.bit (HOST_PAIR_STAT p) 2 = true) : Answers (.ringClrErr p) s fun t =>
      t.bit (HOST_PAIR_STAT p) 2 = false ∧ t.fld (HOST_PAIR_STAT p) 4 3 = 0 ∧ t.cmdRun p = s.ringEn p false ∧
      t.repRun p = s.ringEn p true ∧ OnlyRegs [HOST_PAIR_STAT p] s t ∧ NoEvent s t := by
  have hdone : s.toDev.ringResume p = s.toDev.resumed p (s.ringEn p false) (s.ringEn p true) := if_pos herr
  obtain ⟨hbit, hcode, hcmd, hrep⟩ := resumed_shows s.toDev p (s.ringEn p false) (s.ringEn p true)
  have hmem : HOST_PAIR_STAT p ∈ [HOST_PAIR_STAT p.val] := List.mem_singleton_self _
  have heff : Effect [HOST_PAIR_STAT p] s.toDev (s.toDev.resumed p (s.ringEn p false) (s.ringEn p true)) (blocks s.toDev) := by
    have herr' := ((Effect.refl [HOST_PAIR_STAT p] s.toDev).setBit hmem 2 false).setFld hmem 4 3 0
    exact (herr'.setBit hmem 0 (s.ringEn p false)).setBit hmem 1 (s.ringEn p true)
  have hlog : (s.toDev.resumed p (s.ringEn p false) (s.ringEn p true)).log.raised = s.log.raised := rfl
  generalize s.toDev.resumed p (s.ringEn p false) (s.ringEn p true) = e at *
  have hstat := pair_settle_rd p.isLt (pairStat_mem p) e
  exact answers_of_done (congrArg (done s) hdone) ⟨(bit_of_rd _ _ _ _ hstat).trans hbit, (fld_of_rd _ _ _ _ _ hstat).trans hcode,
    (bit_of_rd _ _ _ _ hstat).trans hcmd, (bit_of_rd _ _ _ _ hstat).trans hrep, heff.framed, noEvent_after hlog⟩

theorem clrErr_none (h : s.bit (HOST_PAIR_STAT p) 2 = false) : NoEffect (.ringClrErr p) s :=
  noEffect_of_done rfl (if_neg (by rw [h]; exact Bool.false_ne_true))

end

/-- Settles O54: doorbells, fetches and the states of a pair's rings. -/
theorem hostRings : Obligations.HostRings := by
  unfold Obligations.HostRings
  exact fun p v s hshape => ⟨cmdBell_moves, cmdBell_stops, repBell_moves, repBell_stops, bell_unheard,
    fun n hfetch hrun => ⟨fetch_readies hshape hfetch hrun, fetch_faults hshape hfetch hrun⟩, fetch_none, ring_enabled,
    ring_disabled hshape, ring_resized, clrErr_resumes, clrErr_none⟩

end Sys2Proof.Machine
end

section
/-! O55, its layer: a descriptor that is latched, and its completion (R436, R443, R444, R453). -/

namespace Sys2Proof.Machine

section
variable {s d : Dev} {p idx : Nat}

/-! The latch. -/

/-- The device with the front descriptor of pair p latched (R436, R453). -/
def Dev.latched (s : Dev) (p : Nat) : Dev :=
  (({ s with host.ready := s.host.ready.tail } : Dev).cntWrap (HOST_LIVE p 4) 31 0 1).setFld (HOST_LIVE p 6) 31 0
    (s.fld (HOST_LIVE p 6) 31 0 + 1)

theorem withDesc_front (f : Dev → Dev) (h : s.host.ready.head? = some (p, idx)) : s.withDesc p idx f = f (s.latched p) := by
  have hlatch : s.latchDesc p idx = some (s.latched p) := if_pos h
  unfold Dev.withDesc
  rw [hlatch]

theorem withDesc_other (f : Dev → Dev) (h : s.host.ready.head? ≠ some (p, idx)) : s.withDesc p idx f = s := by
  have hlatch : s.latchDesc p idx = none := if_neg h
  unfold Dev.withDesc
  rw [hlatch]

/-- The registers that the latch of pair p counts in (R453). -/
def latchRegs (p : Nat) : List Nat := [HOST_LIVE p 4, HOST_LIVE p 6]

theorem latched_effect (s : Dev) (p : Nat) :
    Effect (latchRegs p) s (s.latched p) { blocks s with host := { s.host with ready := s.host.ready.tail } } :=
  (((Effect.refl (latchRegs p) s).host { s.host with ready := s.host.ready.tail }).cntWrap (a := HOST_LIVE p 4) (by simp [latchRegs])
    31 0 1).setFld (a := HOST_LIVE p 6) (by simp [latchRegs]) 31 0 (s.fld (HOST_LIVE p 6) 31 0 + 1)

theorem latched_same (s : Dev) (p : Nat) : (s.latched p).seq = s.seq ∧ (s.latched p).log = s.log ∧ (s.latched p).safe = s.safe ∧
    (s.latched p).host.ready = s.host.ready.tail := ⟨rfl, rfl, rfl, rfl⟩

theorem latched_below (s : Dev) (p : Nat) {a : Nat} (h : a < 0x3C2000) : (s.latched p).rd a = s.rd a := by
  refine (latched_effect s p).regs a ?_
  simp only [latchRegs, HOST_LIVE, List.mem_cons, List.not_mem_nil, or_false]
  omega

/-! A descriptor in hand. -/

/-- A device d that has latched a descriptor of pair p from s and not ended it: its counts are as the latch left them, and the ready list
is that behind the descriptor. -/
structure Held (s d : Dev) (p : Nat) : Prop where
  ready : d.host.ready = s.host.ready.tail
  taken : d.fld (HOST_LIVE p 4) 31 0 = (s.fld (HOST_LIVE p 4) 31 0 + 1) % 2 ^ 32
  held : s.fld (HOST_LIVE p 6) 31 0 < 2 ^ 32 - 1 → d.fld (HOST_LIVE p 6) 31 0 = s.fld (HOST_LIVE p 6) 31 0 + 1
  ends : d.rd (HOST_LIVE p 5) = s.rd (HOST_LIVE p 5) ∧ d.rd (HOST_LIVE p 7) = s.rd (HOST_LIVE p 7)

/-- A held descriptor with the report ring and the time as the latch left them. -/
structure InHand (s d : Dev) (p : Nat) : Prop extends Held s d p where
  ring : ∀ a ∈ pairRegs p, d.rd a = s.rd a
  time : d.cycles = s.cycles ∧ d.now = s.now

theorem live_ne (p : Nat) {j k : Nat} (h : j ≠ k) : HOST_LIVE p j ≠ HOST_LIVE p k := by
  simp only [HOST_LIVE]
  omega

theorem latched_inHand (s : Dev) {p : Nat} (hp : p < 16) : InHand s (s.latched p) p := by
  have hring : ∀ a ∈ pairRegs p, (s.latched p).rd a = s.rd a := fun a ha =>
    latched_below s p ((pairRegs_between hp ha).2.trans (by decide))
  refine ⟨⟨rfl, ?_, fun hlt => ?_, ⟨?_, ?_⟩⟩, hring, ?_, rfl⟩
  · exact (fld_setFld_other _ _ _ _ _ _ _ _ (live_ne p (by decide))).trans (fld_cntWrap_same _ _ _ _ _ (by decide) (by decide))
  · refine (fld_setFld_same _ _ _ _ _ (by decide) (by decide)).trans (Nat.mod_eq_of_lt ?_)
    exact Nat.add_lt_of_lt_sub hlt
  · exact (rd_setFld_ne _ _ _ _ _ _ (live_ne p (by decide))).trans (rd_cntWrap_ne _ _ _ _ _ _ (live_ne p (by decide)))
  · exact (rd_setFld_ne _ _ _ _ _ _ (live_ne p (by decide))).trans (rd_cntWrap_ne _ _ _ _ _ _ (live_ne p (by decide)))
  · exact congrArg BitVec.toNat (latched_below s p (by decide))

/-- What neither writes the registers of HOST nor moves the ready list leaves the descriptor held. -/
theorem Held.keep {e : Dev} (h : Held s d p) (hrd : ∀ k, e.rd (HOST_LIVE p k) = d.rd (HOST_LIVE p k))
    (hready : e.host.ready = d.host.ready) : Held s e p :=
  ⟨hready.trans h.ready, (fld_of_rd _ _ _ _ _ (hrd 4)).trans h.taken, fun hlt => (fld_of_rd _ _ _ _ _ (hrd 6)).trans (h.held hlt),
    ⟨(hrd 5).trans h.ends.1, (hrd 7).trans h.ends.2⟩⟩

/-- What leaves the time as it is besides leaves the descriptor in hand. -/
theorem InHand.keep {e : Dev} (h : InHand s d p) (hrd : ∀ a, 0x3C1000 ≤ a → e.rd a = d.rd a) (hready : e.host.ready = d.host.ready)
    (htime : e.cycles = d.cycles ∧ e.now = d.now) (hp : p < 16) : InHand s e p :=
  ⟨h.toHeld.keep (fun k => hrd _ (by simp only [HOST_LIVE]; omega)) hready,
    fun a ha => (hrd a (pairRegs_between hp ha).1).trans (h.ring a ha), htime.1.trans h.time.1, htime.2.trans h.time.2⟩

theorem InHand.completion (h : InHand s d p) (q typ idx status tag detail : Nat) :
    d.completion q typ idx status tag detail = s.completion q typ idx status tag detail := by
  unfold Dev.completion
  rw [h.time.1, h.time.2]

theorem InHand.repFits (h : InHand s d p) (n : Nat) : d.repFits p n = s.repFits p n :=
  repFits_of_regs (fun a ha => h.ring a (by rcases ha with rfl | rfl | rfl <;> simp [pairRegs])) n

/-! The end of a descriptor. -/

/-- The end that the ledger counts with a status (R453). -/
def endKind (status : Nat) : Nat := if status = 0 then 5 else 7

theorem endCount_held (d : Dev) {p k n : Nat} (hk : k = 5 ∨ k = 7) (hheld : d.fld (HOST_LIVE p 6) 31 0 = n + 1) (hn : n < 2 ^ 32) :
    (d.endCount p k).fld (HOST_LIVE p 6) 31 0 = n ∧ (d.endCount p k).fld (HOST_LIVE p k) 31 0 = (d.fld (HOST_LIVE p k) 31 0 + 1) % 2 ^ 32 := by
  have hne : HOST_LIVE p 6 ≠ HOST_LIVE p k := live_ne p (by omega)
  have hdone : d.endCount p k = (d.setFld (HOST_LIVE p 6) 31 0 n).cntWrap (HOST_LIVE p k) 31 0 1 := by
    unfold Dev.endCount
    dsimp only
    rw [hheld]
    exact if_neg (Nat.succ_ne_zero n)
  rw [hdone]
  refine ⟨(fld_of_rd _ _ _ _ _ (rd_cntWrap_ne _ _ _ _ _ _ hne)).trans ?_, (fld_cntWrap_same _ _ _ _ _ (by decide) (by decide)).trans ?_⟩
  · exact (fld_setFld_same _ _ _ _ _ (by decide) (by decide)).trans (Nat.mod_eq_of_lt hn)
  · rw [fld_setFld_other _ _ _ _ _ _ _ _ hne.symm]

theorem endCount_rd (d : Dev) {p k a : Nat} (h6 : a ≠ HOST_LIVE p 6) (hk : a ≠ HOST_LIVE p k) : (d.endCount p k).rd a = d.rd a := by
  unfold Dev.endCount
  dsimp only
  split_ifs
  · rfl
  · exact (rd_cntWrap_ne _ _ _ _ _ _ hk).trans (rd_setFld_ne _ _ _ _ _ _ h6)

theorem endCount_state (d : Dev) (p k : Nat) : (d.endCount p k).host = d.host ∧ (d.endCount p k).log = d.log ∧
    (d.endCount p k).seq = d.seq ∧ (d.endCount p k).clk = d.clk := by
  unfold Dev.endCount
  dsimp only
  split_ifs <;> exact ⟨rfl, rfl, rfl, rfl⟩

end

end Sys2Proof.Machine
end

section
/-! O55, its layer: what a completion shows (R444, R446, R453, R454). -/

namespace Sys2Proof.Machine

theorem reportPut_ready (d : Dev) (p cls content : Nat) (body : List Byte) : (d.reportPut p cls content body).host.ready = d.host.ready := rfl

theorem reportDrop_ready (d : Dev) (p : Nat) : (d.reportDrop p).host.ready = d.host.ready := by
  unfold Dev.reportDrop
  dsimp only
  split_ifs <;> rfl

theorem report_ready (d : Dev) {p : Nat} (hp : p < 16) (cls content : Nat) (body : List Byte) :
    (d.report p cls content body).host.ready = d.host.ready := by
  rw [report_eq d hp]
  split
  · exact (reportPut_ready _ _ _ _ _).trans rfl
  · exact (reportDrop_ready _ _).trans rfl

theorem report_rd (d : Dev) {p : Nat} (hp : p < 16) (cls content : Nat) (body : List Byte) {a : Nat} (ha : a ∉ reportRegs p) :
    (d.report p cls content body).rd a = d.rd a :=
  (report_effect (b := blocks d) (h := d.host) (Effect.refl (reportRegs p) d) hp (List.Subset.refl _) cls content body).elim
    fun _ heff => heff.regs a ha

/-- The counts of descriptors stand apart from those of reports (R453). -/
theorem live_not_report {p k : Nat} (hp : p < 16) (hk : 4 ≤ k) : HOST_LIVE p k ∉ reportRegs p := by
  simp only [reportRegs, HOST_LIVE, HOST_REP_PTR, pairWin, HOST_EVT_PEND, List.mem_cons, List.not_mem_nil, or_false]
  omega

theorem completion_length (d : Dev) (p typ idx status tag detail : Nat) : (d.completion p typ idx status tag detail).length = 32 := by
  simp [Dev.completion, leBytes_length]

theorem padSlots_one {b : List Byte} (h : b.length = 32) : padSlots b = b := by
  unfold padSlots
  rw [h]
  exact List.append_nil b

section
variable {s d : Dev} {p : Nat}

theorem endDesc_rd (d : Dev) {p status a : Nat} (h6 : a ≠ HOST_LIVE p 6) (hk : a ≠ HOST_LIVE p (endKind status)) :
    (d.endDesc p status).rd a = d.rd a := by
  unfold Dev.endDesc
  unfold endKind at hk
  split_ifs at hk ⊢ with h0
  · exact endCount_rd d h6 hk
  · exact (ev_rd _ _ _ _ _).trans (endCount_rd d h6 hk)

theorem endDesc_host (d : Dev) (p status : Nat) : (d.endDesc p status).host = d.host := by
  unfold Dev.endDesc
  split_ifs
  · exact (endCount_state d p 5).1
  · exact (endCount_state d p 7).1

/-- The end of a descriptor in hand is counted by its status, and what is held is as before the latch (R453). -/
theorem endDesc_counts (h : Held s d p) (status : Nat) (hlt : s.fld (HOST_LIVE p 6) 31 0 < 2 ^ 32 - 1) :
    (d.endDesc p status).fld (HOST_LIVE p (endKind status)) 31 0 = (s.fld (HOST_LIVE p (endKind status)) 31 0 + 1) % 2 ^ 32 ∧
      (d.endDesc p status).fld (HOST_LIVE p 6) 31 0 = s.fld (HOST_LIVE p 6) 31 0 := by
  have hn : s.fld (HOST_LIVE p 6) 31 0 < 2 ^ 32 := Nat.lt_of_lt_of_le hlt (Nat.sub_le _ _)
  unfold Dev.endDesc endKind
  split_ifs
  · obtain ⟨hheld, hout⟩ := endCount_held d (.inl rfl) (h.held hlt) hn
    rw [fld_of_rd _ _ _ _ _ h.ends.1] at hout
    exact ⟨hout, hheld⟩
  · obtain ⟨hheld, hdrop⟩ := endCount_held d (.inr rfl) (h.held hlt) hn
    rw [fld_of_rd _ _ _ _ _ h.ends.2] at hdrop
    exact ⟨(fld_of_rd _ _ _ _ _ (ev_rd _ _ _ _ _)).trans hdrop, (fld_of_rd _ _ _ _ _ (ev_rd _ _ _ _ _)).trans hheld⟩

/-- A completion keeps the counts of its descriptor's end. -/
theorem complete_rd (d : Dev) (hp : p < 16) (typ idx status tag detail : Nat) {k : Nat} (hk : 4 ≤ k) :
    (d.complete p typ idx status tag detail).rd (HOST_LIVE p k) = (d.endDesc p status).rd (HOST_LIVE p k) :=
  report_rd (d.endDesc p status) hp _ _ _ (live_not_report hp hk)

theorem complete_ready (d : Dev) (hp : p < 16) (typ idx status tag detail : Nat) :
    (d.complete p typ idx status tag detail).host.ready = d.host.ready :=
  (report_ready (d.endDesc p status) hp _ _ _).trans (congrArg HostSt.ready (endDesc_host d p status))

theorem complete_taken (d : Dev) (hp : p < 16) (typ idx status tag detail : Nat) :
    (d.complete p typ idx status tag detail).rd (HOST_LIVE p 4) = d.rd (HOST_LIVE p 4) := by
  have hkind : endKind status ≠ 4 := by
    unfold endKind
    split_ifs <;> decide
  exact (complete_rd d hp typ idx status tag detail (Nat.le_refl 4)).trans (endDesc_rd d (live_ne p (by decide)) (live_ne p hkind.symm))

/-- A completion stands first in what the host has received, where the report ring has room (R446). -/
theorem complete_out (h : InHand s d p) (hp : p < 16) (typ idx status tag detail : Nat) (hfits : s.repFits p 1 = true) :
    ∃ x, x.length = 32 ∧ (d.complete p typ idx status tag detail).host.out.head? = some (p, x ++ s.completion p typ idx status tag detail) := by
  have hring : ∀ a ∈ pairRegs p, (d.endDesc p status).rd a = d.rd a := fun a ha => by
    have hlt := (pairRegs_between hp ha).2
    exact endDesc_rd d (by simp only [HOST_LIVE]; omega) (by simp only [HOST_LIVE]; omega)
  have hroom : (d.endDesc p status).repFits p 1 = true := by
    rw [repFits_of_regs (d := d.endDesc p status) (s := d) (fun a ha => hring a (by rcases ha with rfl | rfl | rfl <;> simp [pairRegs])),
      h.repFits, hfits]
  have hpad := padSlots_one (completion_length d p typ idx status tag detail)
  have hslots : (padSlots (d.completion p typ idx status tag detail)).length / 32 = 1 := by rw [hpad, completion_length]
  obtain ⟨⟨x, hx, hout⟩, -⟩ := (report_shows (d.endDesc p status) hp 10 0 (d.completion p typ idx status tag detail)).1 (by rw [hslots]; exact hroom)
  rw [hpad, h.completion] at hout
  refine ⟨x, hx, ?_⟩
  unfold Dev.complete
  rw [spend_host, h.completion, hout]
  rfl

/-- A refused descriptor has its event (R454). -/
theorem complete_event (d : Dev) (p typ idx : Nat) {status : Nat} (hs : status ≠ 0) (tag detail : Nat) :
    ∃ e, e ∈ (d.complete p typ idx status tag detail).log.raised ∧ e.code = 0x1103 ∧ e.p1 = BitVec.ofNat 32 p ∧
      e.p2 = BitVec.ofNat 32 status := by
  obtain ⟨e, he, hcode, hp1, hp2⟩ := raised_ev (d.endCount p 7) 0x1103 p status
  have hend : d.endDesc p status = (d.endCount p 7).ev 0x1103 p status := if_neg hs
  have hkept : Beside (d.endDesc p status) (d.complete p typ idx status tag detail) := ((Beside.refl _).report p 10 0 _).spend
  rw [hend] at hkept
  exact ⟨e, hkept.event he, hcode, hp1, hp2⟩

end

/-! As the settled device shows it. -/

section
variable {s : State} {d : Dev} {p : Nat}

theorem live_settle (d : Dev) (p k : Nat) : d.settle.fld (HOST_LIVE p k) 31 0 = d.fld (HOST_LIVE p k) 31 0 :=
  settle_fld _ _ _ _ (by simp only [HOST_LIVE, SAFE_OUT_STAT]; omega) (by simp only [HOST_LIVE, SAFE_STAT]; omega)

theorem Held.counted (h : Held s.toDev d p) {e : Dev} (status : Nat)
    (hrd : ∀ k, 4 ≤ k → e.rd (HOST_LIVE p k) = (d.endDesc p status).rd (HOST_LIVE p k)) : Counted s (s.after e) p (endKind status) := by
  intro hlt
  obtain ⟨hend, hheld⟩ := endDesc_counts h status hlt
  have hkind : 4 ≤ endKind status := by
    unfold endKind
    split_ifs <;> decide
  exact ⟨(live_settle e p _).trans ((fld_of_rd _ _ _ _ _ (hrd _ hkind)).trans hend),
    (live_settle e p 6).trans ((fld_of_rd _ _ _ _ _ (hrd 6 (by decide))).trans hheld)⟩

/-- A descriptor in hand that is completed has ended with its status (R436, R443, R444, R453, R454). -/
theorem InHand.completed (h : InHand s.toDev d p) (hp : p < 16) (typ idx status tag detail : Nat) :
    Completed s (s.after (d.complete p typ idx status tag detail)) p typ idx status tag detail := by
  have hhost : (d.complete p typ idx status tag detail).settle.host = (d.complete p typ idx status tag detail).host := settle_host _
  refine ⟨?_, ?_, h.counted status fun k hk => complete_rd d hp typ idx status tag detail hk, fun hs => ?_, fun hfits => ?_⟩
  · exact (congrArg HostSt.ready hhost).trans ((complete_ready d hp _ _ _ _ _).trans h.ready)
  · exact (live_settle _ p 4).trans ((fld_of_rd _ _ _ _ _ (complete_taken d hp _ _ _ _ _)).trans h.taken)
  · obtain ⟨e, he, hrest⟩ := complete_event d p typ idx hs tag detail
    refine ⟨e, ?_, hrest⟩
    have hlog : (d.complete p typ idx status tag detail).settle.log = (d.complete p typ idx status tag detail).log := settle_log _
    exact (congrArg (fun l : LogSt => e ∈ l.raised) hlog).mpr he
  · obtain ⟨x, hx, hout⟩ := complete_out h hp typ idx status tag detail hfits
    exact ⟨x, hx, (congrArg (fun o : HostSt => o.out.head?) hhost).trans hout⟩

end

end Sys2Proof.Machine
end

section
/-! O55, continued: no operation, setpoints, CAN frames and readouts (R439 to R442). -/

namespace Sys2Proof.Machine

section
variable {s : State} {p : Fin 16} {idx : BitVec 16} {b : List Byte}

theorem descriptor_waits (h : s.host.ready.head? ≠ some (p.val, idx.toNat)) (c : Instr) (hc : isDescriptor p idx b c) : NoEffect c s := by
  have hnone : ∀ f, s.toDev.withDesc p idx.toNat f = s.toDev := fun f => withDesc_other f h
  rcases hc with rfl | rfl | ⟨es, rfl⟩ | ⟨far, rfl⟩ | ⟨i, rfl⟩ | ⟨bad, n, rfl⟩ | rfl | rfl <;>
    exact noEffect_of_done rfl (hnone _)

/-- What the front descriptor of a pair does with the latched device answers its command. -/
theorem descriptor_exec {c : Instr} {f : Dev → Dev} (hc : exec c s = done s (s.toDev.withDesc p idx.toNat f))
    (hfront : s.host.ready.head? = some (p.val, idx.toNat)) {d : Dev} (hd : f (s.toDev.latched p) = d) : exec c s = done s d :=
  hc.trans (congrArg (done s) ((withDesc_front f hfront).trans hd))

theorem latched_hand (s : State) (p : Fin 16) : InHand s.toDev (s.toDev.latched p) p := latched_inHand s.toDev p.isLt

section
variable (hfront : s.host.ready.head? = some (p.val, idx.toNat))
include hfront

/-- A descriptor that the latched device completes has ended with its status. -/
theorem completed_answers {c : Instr} {f : Dev → Dev} (hc : exec c s = done s (s.toDev.withDesc p idx.toNat f))
    {d : Dev} (hand : InHand s.toDev d p) (typ status tag detail : Nat)
    (hd : f (s.toDev.latched p) = d.complete p typ idx.toNat status tag detail) :
    Answers c s fun t => Completed s t p typ idx.toNat status tag detail :=
  answers_of_done (descriptor_exec hc hfront hd) (hand.completed p.isLt typ idx.toNat status tag detail)

theorem nop_completes : Answers (.nopDescriptor p idx b) s fun t => Completed s t p 0x1F idx.toNat 0 0 0 :=
  completed_answers hfront rfl (latched_hand s p) 0x1F 0 0 0 rfl

theorem unknown_completes : Answers (.unknownDescriptor p idx b) s fun t => Completed s t p (descType b) idx.toNat 1 0 0 :=
  completed_answers hfront rfl (latched_hand s p) (descType b) 1 0 0 rfl

/-! Setpoints (R440). -/

theorem setpoint_refused (h : u8 b 1 = 0 ∨ 3 < u8 b 1) : Answers (.setpointDescriptor p idx b) s fun t => Completed s t p 0x30 idx.toNat 2 0 0 := by
  refine completed_answers hfront rfl (latched_hand s p) 0x30 2 0 0 ?_
  dsimp only
  rw [if_pos (h.imp id fun h3 => .inl h3)]

end

/-- A descriptor that ends without a completion leaves the ready list behind it, raises nothing, and is counted (R453). -/
theorem ended_settle (d : Dev) (p : Nat) : (d.endDesc p 0).settle.host = d.host ∧ (d.endDesc p 0).settle.log = d.log := by
  have hend : d.endDesc p 0 = d.endCount p 5 := if_pos rfl
  rw [hend, settle_host, settle_log]
  exact ⟨(endCount_state d p 5).1, (endCount_state d p 5).2.1⟩

theorem endDesc_rd_below (d : Dev) {p a : Nat} (status : Nat) (ha : a < 0x3C2000) : (d.endDesc p status).rd a = d.rd a :=
  endDesc_rd d (by simp only [HOST_LIVE]; omega) (by simp only [HOST_LIVE]; omega)

theorem setpointPut_host (d : Dev) (e : Nat × Word) : (d.setpointPut e).host = d.host ∧ (d.setpointPut e).log = d.log := by
  unfold Dev.setpointPut
  dsimp only
  split_ifs <;> exact ⟨rfl, rfl⟩

theorem setpointPut_gen (d : Dev) {e : Nat × Word} (h : e.1 ≤ 130) (hlen : d.prof.gen.length = 131) :
    ((d.setpointPut e).gen e.1).descNew = some (e.2 &&& BitVec.ofNat 32 pbvMask) := by
  unfold Dev.setpointPut
  dsimp only
  rw [if_pos h]
  exact congrArg GenSt.descNew (getD_modAt_same _ _ _ _ (by omega))

theorem setpointPut_const (d : Dev) {e : Nat × Word} (h : ¬e.1 ≤ 130) :
    (d.setpointPut e).rd (LOOP_CTX_SPCONST (e.1 - 0x100)) = e.2 &&& BitVec.ofNat 32 pbvMask := by
  unfold Dev.setpointPut
  dsimp only
  rw [if_neg h]
  exact rd_wr_same _ _ _

theorem setpoint_taken (hshape : Shaped s.toDev) (hfront : s.host.ready.head? = some (p.val, idx.toNat)) (hone : u8 b 1 = 1)
    (hok : setpointOk (setpointEntry b 0).1 = true) : Answers (.setpointDescriptor p idx b) s fun t =>
        t.host.ready = s.host.ready.tail ∧ NoEvent s t ∧
        (if (setpointEntry b 0).1 ≤ 130 then (t.gen (setpointEntry b 0).1).descNew = some ((setpointEntry b 0).2 &&& BitVec.ofNat 32 pbvMask)
          else t.rd (LOOP_CTX_SPCONST ((setpointEntry b 0).1 - 0x100)) = (setpointEntry b 0).2 &&& BitVec.ofNat 32 pbvMask) := by
  have hwide : (setpointEntry b 0).1 ≤ 0x17F := by
    simp only [setpointOk, Bool.or_eq_true, Bool.and_eq_true, decide_eq_true_eq] at hok
    omega
  have hdone : exec (.setpointDescriptor p idx b) s = done s (((s.toDev.latched p).setpointPut (setpointEntry b 0)).endDesc p 0) := by
    refine descriptor_exec rfl hfront ?_
    dsimp only
    rw [if_neg (by rw [hone]; simp [hok]), hone]
    rfl
  have hlatched := latched_same s.toDev p
  have hgens : (s.toDev.latched p).prof.gen.length = 131 := hshape.gen
  generalize s.toDev.latched p = d at hdone hlatched hgens
  generalize setpointEntry b 0 = e at *
  obtain ⟨hhost, hlog⟩ := setpointPut_host d e
  have hgen := fun h => setpointPut_gen d (e := e) h hgens
  have hconst := setpointPut_const d (e := e)
  generalize d.setpointPut e = x at *
  obtain ⟨hhost', hlog'⟩ := ended_settle x p
  refine answers_of_done hdone ⟨?_, ?_, ?_⟩
  · exact (congrArg HostSt.ready (hhost'.trans hhost)).trans hlatched.2.2.2
  · exact congrArg LogSt.raised (hlog'.trans (hlog.trans hlatched.2.1))
  · split_ifs with hgenerator
    · have hprof : (x.endDesc p 0).settle.prof = x.prof :=
        (settle_prof _).trans (congrArg (fun l : LoopSt × ProfSt × EstSt × AllocSt => l.2.1) (endDesc_loom x p 0) :)
      exact (congrArg (fun g : ProfSt => (g.gen.getD e.1 {}).descNew) hprof).trans (hgen hgenerator)
    · have hreg : LOOP_CTX_SPCONST (e.1 - 0x100) < 0x2C0000 := by
        simp only [LOOP_CTX_SPCONST, loopWin]
        omega
      refine (settle_rd _ _ (Nat.ne_of_lt (hreg.trans (by decide))) (Nat.ne_of_lt hreg)).trans ?_
      exact (endDesc_rd_below x 0 (hreg.trans (by decide))).trans (hconst hgenerator)

end

end Sys2Proof.Machine
end

section
/-! O55, continued: CAN frames and readouts (R441, R442). -/

namespace Sys2Proof.Machine

section
variable {s : State} {p : Fin 16} {idx : BitVec 16} {b : List Byte}

/-! CAN frames (R441). -/

/-- An empty buffer takes a frame (R258). -/
theorem tb2Put_empty {d : Dev} {c : Nat} (t : CanTx) (h : (d.canc c).tb2 = none) :
    d.tb2Put c t = ((d.ledger c 1 0 0).setCanc c fun x => { x with tb2 := some t }).showTx c := by
  unfold Dev.tb2Put
  dsimp only
  rw [ledger_canc, h]

theorem tb2Cancel_empty {d : Dev} {c : Nat} (h : (d.canc c).tb2 = none) : d.tb2Cancel c = d := by
  unfold Dev.tb2Cancel
  rw [h]

theorem tb2Put_host (d : Dev) (c : Nat) (t : CanTx) (h : (d.canc c).tb2 = none) : (d.tb2Put c t).host = d.host ∧ (d.tb2Put c t).log = d.log := by
  rw [tb2Put_empty t h]
  have hhost : ∀ e : Dev, (e.showTx c).host = e.host := fun e => (congrArg Dev.host (showTx_effect e c).engines :)
  exact ⟨(hhost _).trans rfl, (showTx_log _ c).trans rfl⟩

theorem latched_canc (d : Dev) (p c : Nat) : (d.latched p).canc c = d.canc c := rfl

/-- The frame of a CAN descriptor, with the descriptor that waits for its end (R441, R444). -/
def Dev.descTx (d : Dev) (p idx : Nat) (b far : List Byte) : CanTx :=
  { frame := d.descFrame (u8 b 1 % 8) b far, host := some (p, idx, 0x90, descTag b) }

variable (hfront : s.host.ready.head? = some (p.val, idx.toNat))
include hfront

theorem can_taken (hshape : Shaped s.toDev) (far : List Byte) (hsend : bitOf (u8 b 1) 3 = false) (hempty : (s.canc (u8 b 1 % 8)).tb2 = none) :
    Answers (.canTransmitDescriptor p idx b far) s fun t =>
        t.host.ready = s.host.ready.tail ∧ NoEvent s t ∧ (t.canc (u8 b 1 % 8)).tb2 =
          some { frame := s.descFrame (u8 b 1 % 8) b far, host := some (p.val, idx.toNat, 0x90, descTag b) } := by
  have hdone : exec (.canTransmitDescriptor p idx b far) s =
      done s ((s.toDev.latched p).tb2Put (u8 b 1 % 8) (s.toDev.descTx p idx.toNat b far)) := by
    refine descriptor_exec rfl hfront ?_
    dsimp only
    rw [if_neg (by rw [hsend]; exact Bool.false_ne_true), latched_canc, if_neg (by rw [hempty]; exact Bool.false_ne_true)]
    rfl
  have hlatched := latched_same s.toDev p
  have hcan : (s.toDev.latched p).can.ctl.length = 8 := hshape.can
  have hempty' : ((s.toDev.latched p).canc (u8 b 1 % 8)).tb2 = none := hempty
  have htx : s.toDev.descTx p idx.toNat b far =
      { frame := s.descFrame (u8 b 1 % 8) b far, host := some (p.val, idx.toNat, 0x90, descTag b) } := rfl
  generalize s.toDev.latched p = d at *
  rw [← htx]
  generalize s.toDev.descTx p idx.toNat b far = x at *
  obtain ⟨hhost, hlog⟩ := tb2Put_host d (u8 b 1 % 8) x hempty'
  have hlt : u8 b 1 % 8 < d.can.ctl.length := by rw [hcan]; exact Nat.mod_lt _ (by decide)
  refine answers_of_done hdone ⟨?_, noEvent_after (congrArg LogSt.raised (hlog.trans hlatched.2.1)), ?_⟩
  · exact (congrArg HostSt.ready ((settle_host _).trans hhost)).trans hlatched.2.2.2
  · refine (congrArg CanCtl.tb2 (canc_settle (d.tb2Put (u8 b 1 % 8) x) (u8 b 1 % 8))).trans ?_
    rw [tb2Put_empty x hempty', showTx_canc, canc_setCanc_same _ _ _ (by rw [ledger_can]; exact hlt)]

theorem can_busy (far : List Byte) (hsend : bitOf (u8 b 1) 3 = false) (hfull : (s.canc (u8 b 1 % 8)).tb2 ≠ none) :
    Answers (.canTransmitDescriptor p idx b far) s fun t => Completed s t p 0x90 idx.toNat 3 (descTag b) 0 := by
  refine completed_answers hfront rfl (latched_hand s p) 0x90 3 (descTag b) 0 ?_
  dsimp only
  rw [if_neg (by rw [hsend]; exact Bool.false_ne_true), latched_canc, if_pos (Option.isSome_iff_ne_none.mpr hfull)]

theorem can_cancels (far : List Byte) (hcancel : bitOf (u8 b 1) 3 = true) (hempty : (s.canc (u8 b 1 % 8)).tb2 = none) :
    Answers (.canTransmitDescriptor p idx b far) s fun t => Completed s t p 0x90 idx.toNat 0 (descTag b) 0 := by
  refine completed_answers hfront rfl (latched_hand s p) 0x90 0 (descTag b) 0 ?_
  dsimp only
  rw [if_pos hcancel, tb2Cancel_empty (by rw [latched_canc]; exact hempty)]

/-! Readouts of Thicket's points (R383, R442). -/

theorem thicket_refused (bad : List Nat) (n : Nat) (h : u32 b 20 = 0 ∨ 262144 < u32 b 4 + u32 b 20 ∨ descAddr b % 32 ≠ 0) :
    Answers (.thicketReadout p idx b bad n) s fun t => Completed s t p 0xD8 idx.toNat 2 (descTag b) 0 := by
  refine completed_answers hfront rfl (latched_hand s p) 0xD8 2 (descTag b) 0 ?_
  dsimp only
  rw [if_pos h]

omit hfront

/-- The device with the points counted and copied to the host (R383, R442). -/
def Dev.pointsOut (d : Dev) (b : List Byte) : Dev :=
  (d.cntSat THKT_ECC 15 0 0).copyOut (descAddr b) ((List.range (u32 b 20)).flatMap fun k => d.pointBytes (u32 b 4 + k))

theorem readPoints_clean (d : Dev) (first count : Nat) : d.readPoints first count [] 0 =
    (d.cntSat THKT_ECC 15 0 0, (List.range count).flatMap fun k => d.pointBytes (first + k)) := rfl

theorem pointsOut_hand {d : Dev} (h : InHand s.toDev d p) (b : List Byte) : InHand s.toDev (d.pointsOut b) p := by
  have hecc : ∀ a, a ≠ THKT_ECC → (d.pointsOut b).rd a = d.rd a := fun a ha => rd_wr_ne _ _ _ _ ha
  refine h.keep (fun a ha => hecc a ?_) rfl ⟨congrArg BitVec.toNat (hecc _ (by decide)), rfl⟩ p.isLt
  simp only [THKT_ECC]
  omega

theorem report_copied (d : Dev) {p : Nat} (hp : p < 16) (cls content : Nat) (body : List Byte) :
    (d.report p cls content body).host.copied = d.host.copied := by
  have hdrop : ∀ e : Dev, (e.reportDrop p).host.copied = e.host.copied := fun e => by
    unfold Dev.reportDrop
    dsimp only
    split_ifs <;> rfl
  rw [report_eq d hp]
  split
  · rfl
  · exact (hdrop _).trans rfl

theorem complete_copied (d : Dev) {p : Nat} (hp : p < 16) (typ idx status tag detail : Nat) :
    (d.complete p typ idx status tag detail).settle.host.copied = d.host.copied := by
  refine (congrArg HostSt.copied (settle_host _)).trans ?_
  exact (report_copied (d.endDesc p status) hp _ _ _).trans (congrArg HostSt.copied (endDesc_host d p status))

/-- A readout that the latched device completes has copied its data to the host (R442). -/
theorem readout_answers {c : Instr} {f : Dev → Dev} (hc : exec c s = done s (s.toDev.withDesc p idx.toNat f))
    (hfront : s.host.ready.head? = some (p.val, idx.toNat)) {d : Dev} (hand : InHand s.toDev d p) (typ status tag detail : Nat)
    (hd : f (s.toDev.latched p) = d.complete p typ idx.toNat status tag detail) :
    Answers c s fun t => Completed s t p typ idx.toNat status tag detail ∧ t.host.copied = d.host.copied :=
  answers_of_done (descriptor_exec hc hfront hd) ⟨hand.completed p.isLt typ idx.toNat status tag detail,
    complete_copied d p.isLt typ idx.toNat status tag detail⟩

theorem thicket_read (hfront : s.host.ready.head? = some (p.val, idx.toNat)) (hcount : u32 b 20 ≠ 0) (hin : u32 b 4 + u32 b 20 ≤ 262144)
    (haddr : descAddr b % 32 = 0) : Answers (.thicketReadout p idx b [] 0) s fun t =>
        Completed s t p 0xD8 idx.toNat 0 (descTag b) (u32 b 20) ∧ t.host.copied = (descAddr b,
          (List.range (u32 b 20)).flatMap fun k => s.pointBytes (u32 b 4 + k)) :: s.host.copied := by
  have hcopied : ((s.toDev.latched p).pointsOut b).host.copied = (descAddr b,
      (List.range (u32 b 20)).flatMap fun k => s.pointBytes (u32 b 4 + k)) :: s.host.copied := rfl
  rw [← hcopied]
  refine readout_answers rfl hfront (pointsOut_hand (latched_hand s p) b) 0xD8 0 (descTag b) (u32 b 20) ?_
  dsimp only
  rw [if_neg (by simp [hcount, haddr]; omega), readPoints_clean]
  rfl

/-! Readouts of the recorder (R442). -/

/-- A session is read in the registers of GLB alone (R427, R428). -/
theorem sessOk_of_regs {d e : Dev} (h : ∀ a < 0x10000, e.rd a = d.rd a) (k : Nat) : e.sessOk k = d.sessOk k := by
  have hreq : e.hwReq k = d.hwReq k := by
    unfold Dev.hwReq
    rw [fld_of_rd _ _ _ _ _ (h GLB_HW_REQ0 (by decide))]
  unfold Dev.sessOk Dev.sessLevel
  rw [hreq, fld_of_rd _ _ _ _ _ (h GLB_SESS_STAT (by decide)), fld_of_rd _ _ _ _ _ (h GLB_SESS_STAT (by decide))]

theorem latched_sessOk (d : Dev) (p k : Nat) : (d.latched p).sessOk k = d.sessOk k :=
  sessOk_of_regs (fun _ ha => latched_below d p (ha.trans (by decide))) k

theorem recorder_closed (hfront : s.host.ready.head? = some (p.val, idx.toNat)) (hsess : s.sessOk 4 = false) :
    Answers (.recorderReadout p idx b) s fun t => Completed s t p 0xE8 idx.toNat 4 (descTag b) 0 := by
  refine completed_answers hfront rfl (latched_hand s p) 0xE8 4 (descTag b) 0 ?_
  dsimp only
  rw [latched_sessOk, if_pos (by rw [hsess]; rfl)]

/-- The device with records copied to the host, whose session this restarts (R427, R442). -/
def Dev.recordsOut (d : Dev) (addr : Nat) (rs : List (List Byte)) : Dev := d.sessUse.copyOut addr rs.flatten

theorem recordsOut_hand {d : Dev} (h : InHand s.toDev d p) (addr : Nat) (rs : List (List Byte)) :
    InHand s.toDev (d.recordsOut addr rs) p := h.keep (fun _ _ => rfl) rfl ⟨rfl, rfl⟩ p.isLt

theorem recorder_read (hfront : s.host.ready.head? = some (p.val, idx.toNat)) (hsess : s.sessOk 4 = true) (hcount : u32 b 20 ≠ 0)
    (haddr : descAddr b % 32 = 0) : Answers (.recorderReadout p idx b) s fun t =>
        let rs := ((s.recorderSource (u8 b 1 % 4)).drop (u32 b 4)).take (u32 b 20)
        Completed s t p 0xE8 idx.toNat 0 (descTag b) rs.length ∧ t.host.copied = (descAddr b, rs.flatten) :: s.host.copied := by
  dsimp only
  have hsource : ((s.toDev.latched p).recorderSource (u8 b 1 % 4)) = s.recorderSource (u8 b 1 % 4) := rfl
  have hdone : exec (.recorderReadout p idx b) s = done s (((s.toDev.latched p).recordsOut (descAddr b)
      (((s.recorderSource (u8 b 1 % 4)).drop (u32 b 4)).take (u32 b 20))).complete p 0xE8 idx.toNat 0 (descTag b)
      (((s.recorderSource (u8 b 1 % 4)).drop (u32 b 4)).take (u32 b 20)).length) := by
    refine descriptor_exec rfl hfront ?_
    dsimp only
    rw [latched_sessOk, if_neg (by rw [hsess]; decide), if_neg (by simp [hcount, haddr]), hsource]
    rfl
  generalize ((s.recorderSource (u8 b 1 % 4)).drop (u32 b 4)).take (u32 b 20) = rs at *
  have hand := recordsOut_hand (latched_hand s p) (descAddr b) rs
  have hcopied : ((s.toDev.latched p).recordsOut (descAddr b) rs).host.copied = (descAddr b, rs.flatten) :: s.host.copied := rfl
  rw [← hcopied]
  exact answers_of_done hdone ⟨hand.completed p.isLt 0xE8 idx.toNat 0 (descTag b) rs.length,
    complete_copied _ p.isLt 0xE8 idx.toNat 0 (descTag b) rs.length⟩

end

end Sys2Proof.Machine
end

section
/-! O55, continued: commands of the Grove (R195, R196, R198 to R201). -/

namespace Sys2Proof.Machine

/-! A refused command. -/

/-- A refusal's event and its count, with the result record that waits for its pair (R198 to R201, R453). -/
def Dev.refusalEnded (d : Dev) (p slot code : Nat) (rs : List (Nat × List Byte)) : Dev :=
  { (d.ev 0x0606 slot code).endCount p 7 with grove.records := rs }

theorem groveRefused_plain (d : Dev) (p slot code : Nat) (tag : Word) :
    ∃ rs, d.groveRefused p slot code tag false = d.refusalEnded p slot code rs := ⟨_, rfl⟩

/-- The release that a refused command asked for, on no lane (R196, R201). -/
def Dev.releaseLost (d : Dev) (code : Nat) : Dev := (d.cntSat GROVE_ERR_TOTAL 31 0 1).ev 0x0601 0xFF code

theorem groveRefused_release (d : Dev) (p : Nat) {slot : Nat} (hslot : 4 < slot) (tag : Word) :
    ∃ rs, d.groveRefused p slot 7 tag true = (d.releaseLost 7).refusalEnded p slot 7 rs := by
  have hlost : ∀ l, d.releaseRefused slot l 7 = d.releaseLost 7 := fun l => by
    unfold Dev.releaseRefused
    rw [if_neg (by decide), if_pos (.inr hslot)]
    rfl
  unfold Dev.groveRefused
  dsimp only
  rw [if_pos rfl, hlost]
  exact ⟨_, rfl⟩

theorem refusalEnded_state (d : Dev) (p slot code : Nat) (rs : List (Nat × List Byte)) : (d.refusalEnded p slot code rs).host = d.host ∧
    (d.refusalEnded p slot code rs).log = (d.ev 0x0606 slot code).log := by
  obtain ⟨hhost, hlog, -, -⟩ := endCount_state (d.ev 0x0606 slot code) p 7
  exact ⟨hhost.trans rfl, hlog⟩

theorem refusalEnded_rd (d : Dev) (p slot code : Nat) (rs : List (Nat × List Byte)) (a : Nat) :
    (d.refusalEnded p slot code rs).rd a = ((d.ev 0x0606 slot code).endCount p 7).rd a := rfl

theorem refusalEnded_below (d : Dev) (p slot code : Nat) (rs : List (Nat × List Byte)) {a : Nat} (ha : a < 0x3C2000) :
    (d.refusalEnded p slot code rs).rd a = d.rd a := by
  rw [refusalEnded_rd]
  exact (endCount_rd _ (by simp only [HOST_LIVE]; omega) (by simp only [HOST_LIVE]; omega)).trans (ev_rd _ _ _ _ _)

section
variable {s : State} {d : Dev} {p slot code : Nat} {rs : List (Nat × List Byte)}

/-- A refused command leaves the ready list behind its descriptor and counts as a drop (R453). -/
theorem Held.refused (h : Held s.toDev d p) : (d.refusalEnded p slot code rs).settle.host.ready = s.host.ready.tail ∧
    Counted s (s.after (d.refusalEnded p slot code rs)) p 7 := by
  have hev : Held s.toDev (d.ev 0x0606 slot code) p := h.keep (fun k => ev_rd _ _ _ _ _) rfl
  refine ⟨(congrArg HostSt.ready ((settle_host _).trans (refusalEnded_state d p slot code rs).1)).trans h.ready, ?_⟩
  refine hev.counted 7 fun k _ => ?_
  rw [refusalEnded_rd]
  exact (ev_rd _ _ _ _ _).symm

theorem refused_event (hraised : d.log.raised = s.log.raised) :
    OneEvent s (s.after (d.refusalEnded p slot code rs)) 0x0606 (BitVec.ofNat 32 slot) (BitVec.ofNat 32 code) :=
  oneEvent_ev (d := d) (congrArg LogSt.raised (refusalEnded_state d p slot code rs).2) hraised

theorem refused_raised (e : EvRec) (he : e ∈ (d.ev 0x0606 slot code).log.raised) :
    e ∈ (d.refusalEnded p slot code rs).settle.log.raised := by
  have hlog := (settle_log (d.refusalEnded p slot code rs)).trans (refusalEnded_state d p slot code rs).2
  exact (congrArg (fun l : LogSt => e ∈ l.raised) hlog).mpr he

theorem refused_fld {a : Nat} (hlt : a < 0x2C0000) (hi lo : Nat) :
    (d.refusalEnded p slot code rs).settle.fld a hi lo = d.fld a hi lo :=
  (settle_fld _ _ _ _ (Nat.ne_of_lt (hlt.trans (by decide))) (Nat.ne_of_lt hlt)).trans
    (fld_of_rd _ _ _ _ _ (refusalEnded_below d p slot code rs (hlt.trans (by decide))))

end

section
variable {s : State} {p : Fin 16} {idx : BitVec 16} {b : List Byte}

/-- The latched device with the refusal counted (R195, R198). -/
theorem refusing_held (s : State) (p : Fin 16) : Held s.toDev (s.toDev.latched p).groveRefuse p :=
  (latched_hand s p).toHeld.keep (fun k => rd_wr_ne _ _ _ _ (by simp only [HOST_LIVE, GROVE_REFUSED]; omega)) rfl

theorem latched_fld (d : Dev) (p : Nat) {a : Nat} (ha : a < 0x3C2000) (hi lo : Nat) : (d.latched p).fld a hi lo = d.fld a hi lo :=
  fld_of_rd _ _ _ _ _ (latched_below d p ha)

theorem grove_unlisted (hfront : s.host.ready.head? = some (p.val, idx.toNat)) (es : List GroveEntryIn)
    (h : u8 b 1 % 16 = 0 ∨ 3 < u8 b 1 % 16 ∨ (u8 b 1 % 16 ≠ 3 ∧ 4 < u8 b 2 % 8)) :
    Answers (.groveCommandDescriptor p idx b es) s fun t =>
        t.host.ready = s.host.ready.tail ∧ OneEvent s t 0x0606 (BitVec.ofNat 32 (u8 b 2 % 8)) 7#32 ∧ Counted s t p 7 ∧
        t.fld GROVE_REFUSED 31 0 = min (2 ^ 32 - 1) (s.fld GROVE_REFUSED 31 0 + 1) := by
  have hop : (u8 b 1 % 16 == 3) = false := beq_false_of_ne (by omega)
  obtain ⟨rs, hrs⟩ := groveRefused_plain (s.toDev.latched p).groveRefuse p (u8 b 2 % 8) 7 (BitVec.ofNat 32 (u32 b 8))
  have hdone : exec (.groveCommandDescriptor p idx b es) s = done s ((s.toDev.latched p).groveRefuse.refusalEnded p (u8 b 2 % 8) 7 rs) := by
    refine descriptor_exec rfl hfront ?_
    dsimp only
    rw [if_pos (by omega), hop, hrs]
  have hcount : (s.toDev.latched p).groveRefuse.fld GROVE_REFUSED 31 0 = min (2 ^ 32 - 1) (s.fld GROVE_REFUSED 31 0 + 1) := by
    rw [← latched_fld s.toDev p.val (a := GROVE_REFUSED) (by decide)]
    exact fld_cntSat_same _ _ _ _ _ (by decide) (by decide)
  have hraised : (s.toDev.latched p).groveRefuse.log.raised = s.log.raised := rfl
  have hheld := refusing_held s p
  generalize (s.toDev.latched p).groveRefuse = d at *
  exact answers_of_done hdone ⟨hheld.refused.1, refused_event hraised, hheld.refused.2, (refused_fld (by decide) 31 0).trans hcount⟩

theorem grove_lost (hfront : s.host.ready.head? = some (p.val, idx.toNat)) (es : List GroveEntryIn) (hop : u8 b 1 % 16 = 3)
    (hslot : 4 < u8 b 2 % 8) : Answers (.groveCommandDescriptor p idx b es) s fun t =>
        t.host.ready = s.host.ready.tail ∧ (∃ e, e ∈ t.log.raised ∧ e.code = 0x0601 ∧ e.p1 = 0xFF#32 ∧ e.p2 = 7#32) ∧
        (∃ e, e ∈ t.log.raised ∧ e.code = 0x0606 ∧ e.p2 = 7#32) ∧
        t.fld GROVE_ERR_TOTAL 31 0 = min (2 ^ 32 - 1) (s.fld GROVE_ERR_TOTAL 31 0 + 1) := by
  obtain ⟨rs, hrs⟩ := groveRefused_release (s.toDev.latched p).groveRefuse p hslot (BitVec.ofNat 32 (u32 b 8))
  have hdone : exec (.groveCommandDescriptor p idx b es) s =
      done s (((s.toDev.latched p).groveRefuse.releaseLost 7).refusalEnded p (u8 b 2 % 8) 7 rs) := by
    refine descriptor_exec rfl hfront ?_
    dsimp only
    rw [if_pos (by omega), hop, show ((3 : Nat) == 3) = true from rfl, hrs]
  have hcount : (s.toDev.latched p).groveRefuse.fld GROVE_ERR_TOTAL 31 0 = s.fld GROVE_ERR_TOTAL 31 0 :=
    (fld_of_rd _ _ _ _ _ (rd_wr_ne _ _ _ _ (by decide))).trans (latched_fld s.toDev p.val (by decide) 31 0)
  have hheld := refusing_held s p
  generalize (s.toDev.latched p).groveRefuse = d at *
  have hlost : Held s.toDev (d.releaseLost 7) p := hheld.keep (fun k => (ev_rd _ _ _ _ _).trans
    (rd_wr_ne _ _ _ _ (by simp only [HOST_LIVE, GROVE_ERR_TOTAL]; omega))) rfl
  have htotal : (d.releaseLost 7).fld GROVE_ERR_TOTAL 31 0 = min (2 ^ 32 - 1) (d.fld GROVE_ERR_TOTAL 31 0 + 1) :=
    (fld_of_rd _ _ _ _ _ (ev_rd _ _ _ _ _)).trans (fld_cntSat_same _ _ _ _ _ (by decide) (by decide))
  obtain ⟨e, he, hcode, hp1, hp2⟩ := raised_ev (d.cntSat GROVE_ERR_TOTAL 31 0 1) 0x0601 0xFF 7
  have hearlier : e ∈ (d.releaseLost 7).log.raised := he
  generalize d.releaseLost 7 = x at *
  obtain ⟨e', he', hcode', -, hp2'⟩ := raised_ev x 0x0606 (u8 b 2 % 8) 7
  refine answers_of_done hdone ⟨hlost.refused.1, ⟨e, refused_raised e ?_, hcode, hp1, hp2⟩, ⟨e', refused_raised e' he', hcode', hp2'⟩, ?_⟩
  · exact ((Beside.refl x).ev 0x0606 (u8 b 2 % 8) 7).event hearlier
  · rw [← hcount, ← htotal]
    exact refused_fld (by decide) 31 0

/-- A command that brings no entries to a serving slot's free lane ends (R198). -/
theorem grove_empty (hfront : s.host.ready.head? = some (p.val, idx.toNat)) (es : List GroveEntryIn) (hop : u8 b 1 % 16 = 2)
    (hslot : u8 b 2 % 8 ≤ 4) (hiter : u16 b 6 ≤ 1023) (hcount : u32 b 20 = 0)
    (hmap : s.bit GROVE_HOST_MAP (6 * (u8 b 2 % 8) + 5) = true)
    (hfree : s.laneState (s.fld GROVE_HOST_MAP (6 * (u8 b 2 % 8) + 4) (6 * (u8 b 2 % 8))) ≠ 2) :
    Answers (.groveCommandDescriptor p idx b es) s fun t => t.host.ready = s.host.ready.tail ∧ NoEvent s t ∧ Counted s t p 5 := by
  have hdone : exec (.groveCommandDescriptor p idx b es) s = done s ((s.toDev.latched p).endDesc p 0) := by
    have hlane : (s.toDev.latched p).laneState (s.fld GROVE_HOST_MAP (6 * (u8 b 2 % 8) + 4) (6 * (u8 b 2 % 8))) =
        s.laneState (s.fld GROVE_HOST_MAP (6 * (u8 b 2 % 8) + 4) (6 * (u8 b 2 % 8))) := by
      have hlt := fld_lt s.toDev GROVE_HOST_MAP (6 * (u8 b 2 % 8) + 4) (6 * (u8 b 2 % 8))
      rw [show 6 * (u8 b 2 % 8) + 4 + 1 - 6 * (u8 b 2 % 8) = 5 by omega] at hlt
      generalize s.fld GROVE_HOST_MAP (6 * (u8 b 2 % 8) + 4) (6 * (u8 b 2 % 8)) = l at *
      exact latched_fld s.toDev p.val (by simp only [GROVE_LANE_STAT]; omega) 1 0
    have hload : (s.toDev.latched p).groveDescLoad 2 (s.fld GROVE_HOST_MAP (6 * (u8 b 2 % 8) + 4) (6 * (u8 b 2 % 8))) b =
        (s.toDev.latched p, 0) := by
      unfold Dev.groveDescLoad
      rw [if_neg (by decide), hlane, if_neg hfree]
    refine descriptor_exec rfl hfront ?_
    dsimp only
    rw [if_neg (by omega), bit_of_rd _ _ _ _ (latched_below s.toDev p.val (a := GROVE_HOST_MAP) (by decide)), hmap,
      latched_fld s.toDev p.val (a := GROVE_HOST_MAP) (by decide), hop, hload, hcount]
    dsimp only
    rw [if_neg (by decide), if_neg (fun h => h rfl), if_pos (by decide), if_neg (show ¬2 = 1 by decide), List.take_zero]
    exact if_neg (fun h => h rfl)
  have hheld := (latched_hand s p).toHeld
  have hraised : (s.toDev.latched p).log.raised = s.log.raised := rfl
  generalize s.toDev.latched p = d at *
  obtain ⟨hhost, hlog⟩ := ended_settle d p
  exact answers_of_done hdone ⟨(congrArg HostSt.ready hhost).trans hheld.ready, (congrArg LogSt.raised hlog).trans hraised,
    hheld.counted 0 fun _ _ => rfl⟩

end

end Sys2Proof.Machine
end

section
/-! O55, continued: images (R422, R441), and the obligation. -/

namespace Sys2Proof.Machine

/-! What is read of the device that has latched an image (R410, R427). -/

theorem latched_imageFault (s : Dev) (p : Nat) (b : List Byte) : (s.latched p).imageFault b = s.imageFault b := by
  have hlo := latched_below s p (a := GLB_SN_LO) (by decide)
  have hhi := latched_below s p (a := GLB_SN_HI) (by decide)
  unfold Dev.imageFault
  rw [hlo, hhi]
  rfl

theorem latched_imageRefused (s : Dev) (p : Nat) (b : List Byte) : (s.latched p).imageRefused b = s.imageRefused b := by
  unfold Dev.imageRefused
  rw [latched_sessOk, latched_imageFault]
  rfl

/-- A refused image that came by a descriptor is shown, raised and completed (R422, R430, R441). -/
def Dev.imageShown (d : Dev) (typ res : Nat) (b : List Byte) : Dev :=
  (if res = 8 then d.ev 0x1007 typ res else (d.ev 0x1007 typ res).imgStat 0 res b).raise 0x78

theorem imageReject_described (d : Dev) (b : List Byte) (p idx tag res : Nat) :
    d.imageReject { typ := imgTyp b, bytes := b, desc := some (p, idx, tag), wait := 1 } res =
      (d.imageShown (imgTyp b) res b).complete p 0x10 idx 0 tag res := rfl

/-! What Glade does with an image (R422). -/

section
variable {d : Dev} {b : List Byte} (desc : Nat × Nat × Nat)

/-- An image that a descriptor has brought. -/
def broughtImage (typ : Nat) (b : List Byte) (desc : Nat × Nat × Nat) : ImgJob := { typ := typ, bytes := b, desc := some desc, wait := 1 }

/-- The device with a commissioning image for the next boundary. -/
def Dev.jobTaken (d : Dev) (b : List Byte) (desc : Nat × Nat × Nat) : Dev :=
  ({ d.sessUse with glade.job := some (broughtImage 2 b desc) } : Dev).imgStat 3 0 b

theorem takeImage_commission (hwait : d.glade.waiting = false) (hok : d.imageRefused b = 0) (htyp : imgTyp b = 2) :
    d.takeImage b desc = d.jobTaken b desc := by
  unfold Dev.takeImage
  dsimp only
  rw [if_neg (by rw [hwait]; decide), hok, if_neg (show ¬0 = 7 by decide), if_neg (fun h => h rfl), if_pos htyp, htyp]
  rfl

theorem takeImage_refused (hwait : d.glade.waiting = false) {r : Nat} (hr : d.imageRefused b = r) (hne : r ≠ 0) :
    d.takeImage b desc = (if r = 7 then d else d.sessUse).imageReject (broughtImage (imgTyp b) b desc) r := by
  unfold Dev.takeImage
  dsimp only
  rw [if_neg (by rw [hwait]; decide), hr, if_pos hne]
  rfl

/-- The device with an image held for the boot. -/
def Dev.imageHeld (d : Dev) (b : List Byte) (desc : Nat × Nat × Nat) : Dev :=
  { d with glade.held := d.glade.held ++ [{ broughtImage (imgTyp b) b desc with boot := true }] }

theorem takeImage_held (hwait : d.glade.waiting = true) (hok : d.imageFault b = 0) (hroom : d.glade.held.length < 2)
    (hnew : ∀ h ∈ d.glade.held, h.typ ≠ imgTyp b) : d.takeImage b desc = d.imageHeld b desc := by
  have hany : (d.glade.held.any fun h => h.typ == imgTyp b) = false := by
    simpa using hnew
  unfold Dev.takeImage
  dsimp only
  rw [if_pos hwait, hany, if_neg Bool.false_ne_true, hok, if_neg (fun h => h rfl), if_neg (by simp; omega)]
  rfl

end

section
variable {s : State} {p : Fin 16} {idx : BitVec 16} {b i : List Byte}

theorem imageShown_held {d : Dev} (h : Held s.toDev d p) (typ res : Nat) (b : List Byte) : Held s.toDev (d.imageShown typ res b) p := by
  have hstat : ∀ k, ((d.ev 0x1007 typ res).imgStat 0 res b).rd (HOST_LIVE p k) = d.rd (HOST_LIVE p k) := fun k =>
    (rd_wr_ne _ _ _ _ (by simp only [HOST_LIVE, GLB_IMG_STAT]; omega)).trans (ev_rd _ _ _ _ _)
  have hraise : ∀ (e : Dev) k, (e.raise 0x78).rd (HOST_LIVE p k) = e.rd (HOST_LIVE p k) := fun e k =>
    rd_raise_ne _ _ _ (by simp only [HOST_LIVE, HOST_EVT_PEND]; omega)
  unfold Dev.imageShown
  split_ifs
  · exact h.keep (fun k => (hraise _ k).trans (ev_rd _ _ _ _ _)) rfl
  · exact h.keep (fun k => (hraise _ k).trans (hstat k)) rfl

/-- The event of a refused image stays raised through its completion. -/
theorem imageShown_beside (d : Dev) (typ res : Nat) (b : List Byte) : Beside (d.ev 0x1007 typ res) (d.imageShown typ res b) :=
  (Beside.ite _ (Beside.refl _) ((Beside.refl _).imgStat 0 res b)).raise _

theorem image_answers (hfront : s.host.ready.head? = some (p.val, idx.toNat)) (hhung : s.glade.hung = false) {d : Dev}
    (hd : (s.toDev.latched p).takeImage (i.take (u32 b 4)) (p, idx.toNat, descTag b) = d) {P : State → Prop} (hP : P (s.after d)) :
    Answers (.imageDescriptor p idx b i) s P := by
  have hglade : (s.toDev.latched p).glade.hung = false := hhung
  exact answers_of_done (descriptor_exec rfl hfront ((byGlade_free _ hglade).trans hd)) hP

section
variable (hfront : s.host.ready.head? = some (p.val, idx.toNat))
include hfront

theorem image_hung (hhung : s.glade.hung = true) : Answers (.imageDescriptor p idx b i) s fun t => t.host.ready = s.host.ready.tail ∧
    t.glade = s.glade ∧ NoEvent s t := by
  have hglade : (s.toDev.latched p).glade.hung = true := hhung
  have hready := (latched_hand s p).ready
  refine answers_of_done (descriptor_exec (d := s.toDev.latched p) rfl hfront (byGlade_hung _ hglade)) ⟨?_, settle_glade _, noEvent_after rfl⟩
  exact (congrArg HostSt.ready (settle_host _)).trans hready

variable (hhung : s.glade.hung = false)
include hhung

theorem image_taken (hwait : s.glade.waiting = false) (hok : s.imageRefused (i.take (u32 b 4)) = 0)
    (htyp : imgTyp (i.take (u32 b 4)) = 2) :
    Answers (.imageDescriptor p idx b i) s fun t => t.host.ready = s.host.ready.tail ∧ NoEvent s t ∧ t.glade.job =
      some { typ := 2, bytes := i.take (u32 b 4), desc := some (p.val, idx.toNat, descTag b), wait := 1 } := by
  have hready := (latched_hand s p).ready
  have hlog := (latched_same s.toDev p).2.1
  have htaken := takeImage_commission (d := s.toDev.latched p) (p.val, idx.toNat, descTag b) hwait
    ((latched_imageRefused _ _ _).trans hok) htyp
  refine image_answers hfront hhung htaken ?_
  generalize i.take (u32 b 4) = img at *
  generalize s.toDev.latched p = d at *
  exact ⟨(congrArg HostSt.ready (settle_host _)).trans hready, noEvent_after (congrArg LogSt.raised hlog),
    congrArg GladeSt.job (settle_glade (d.jobTaken img _))⟩

theorem image_refused (hwait : s.glade.waiting = false) {r : Nat} (hr : s.imageRefused (i.take (u32 b 4)) = r) (hne : r ≠ 0) :
    Answers (.imageDescriptor p idx b i) s fun t => t.glade.job = s.glade.job ∧ t.host.ready = s.host.ready.tail ∧
      Counted s t p 5 ∧ ∃ e, e ∈ t.log.raised ∧ e.code = 0x1007 ∧ e.p2 = BitVec.ofNat 32 r := by
  have htaken := takeImage_refused (d := s.toDev.latched p) (p.val, idx.toNat, descTag b) hwait ((latched_imageRefused _ _ _).trans hr) hne
  have hheld : Held s.toDev (if r = 7 then s.toDev.latched p else (s.toDev.latched p).sessUse) p := by
    split_ifs
    · exact (latched_hand s p).toHeld
    · exact (latched_hand s p).toHeld.keep (fun _ => rfl) rfl
  have hjob : (if r = 7 then s.toDev.latched p else (s.toDev.latched p).sessUse).glade.job = s.glade.job := by
    split_ifs <;> rfl
  refine image_answers hfront hhung htaken ?_
  generalize (if r = 7 then s.toDev.latched p else (s.toDev.latched p).sessUse) = d at *
  generalize i.take (u32 b 4) = img at *
  rw [show d.imageReject (broughtImage (imgTyp img) img (p.val, idx.toNat, descTag b)) r = _ from imageReject_described d img p _ _ r]
  have hdone := (imageShown_beside d (imgTyp img) r img).trans ((Beside.refl _).complete p 0x10 idx.toNat 0 (descTag b) r)
  have hheld' := imageShown_held hheld (imgTyp img) r img
  obtain ⟨e, he, hcode, -, hp2⟩ := raised_ev d 0x1007 (imgTyp img) r
  have hkept : (d.ev 0x1007 (imgTyp img) r).glade = d.glade := rfl
  generalize d.ev 0x1007 (imgTyp img) r = x at *
  generalize d.imageShown (imgTyp img) r img = y at *
  refine ⟨?_, ?_, ?_, e, ?_, hcode, hp2⟩
  · exact (congrArg GladeSt.job ((settle_glade _).trans (hdone.glade.trans hkept))).trans hjob
  · exact (congrArg HostSt.ready (settle_host _)).trans ((complete_ready _ p.isLt _ _ _ _ _).trans hheld'.ready)
  · exact hheld'.counted 0 fun k hk => complete_rd _ p.isLt _ _ _ _ _ hk
  · exact (congrArg (fun l : LogSt => e ∈ l.raised) (settle_log _)).mpr (hdone.event he)

theorem image_held (hwait : s.glade.waiting = true) (hok : s.imageFault (i.take (u32 b 4)) = 0) (hroom : s.glade.held.length < 2)
    (hnew : ∀ h ∈ s.glade.held, h.typ ≠ imgTyp (i.take (u32 b 4))) : Answers (.imageDescriptor p idx b i) s fun t =>
      t.host.ready = s.host.ready.tail ∧ NoEvent s t ∧ t.glade.held = s.glade.held ++
        [{ typ := imgTyp (i.take (u32 b 4)), bytes := i.take (u32 b 4), desc := some (p.val, idx.toNat, descTag b), wait := 1,
           boot := true }] := by
  have hready := (latched_hand s p).ready
  have hlog := (latched_same s.toDev p).2.1
  have hglade : (s.toDev.latched p).glade = s.glade := rfl
  have htaken := takeImage_held (d := s.toDev.latched p) (p.val, idx.toNat, descTag b) hwait ((latched_imageFault _ _ _).trans hok) hroom hnew
  refine image_answers hfront hhung htaken ?_
  generalize i.take (u32 b 4) = img at *
  generalize s.toDev.latched p = d at *
  rw [← hglade]
  exact ⟨(congrArg HostSt.ready (settle_host _)).trans hready, noEvent_after (congrArg LogSt.raised hlog),
    congrArg GladeSt.held (settle_glade (d.imageHeld img _))⟩

end

end

/-- Settles O55: a latched descriptor is held until its end, which each of the commands takes with its own status. -/
theorem hostDescriptors : Obligations.HostDescriptors := by
  intro p idx b s hshape
  exact ⟨descriptor_waits, fun hfront => ⟨nop_completes hfront, unknown_completes hfront, setpoint_refused hfront,
    setpoint_taken hshape hfront, fun es => grove_unlisted hfront es, fun es => grove_lost hfront es, fun es => grove_empty hfront es,
    can_taken hfront hshape, can_busy hfront, can_cancels hfront, fun i => image_hung hfront,
    fun i => image_taken hfront, fun i r hhung hwait => image_refused hfront hhung hwait, fun i => image_held hfront, fun bad n => thicket_refused hfront bad n,
    thicket_read hfront, recorder_closed hfront, recorder_read hfront⟩⟩

end Sys2Proof.Machine
end

section
/-! O5, its layer: how many windows the engines have (lengths of the lists that hold them). -/

namespace Sys2Proof.Machine

theorem length_setAt {α : Type} (xs : List α) (n : Nat) (v : α) : (setAt xs n v).length = xs.length := by
  induction xs generalizing n with
  | nil => rfl
  | cons x xs ih =>
    cases n with
    | zero => rfl
    | succ n => exact congrArg (· + 1) (ih n)

/-- How many windows each engine has. -/
def Dev.windows (d : Dev) : List Nat :=
  [d.loop.ctx.length, d.prof.gen.length, d.est.refs.length, d.est.gyro.length, d.est.mru.length, d.est.wind.length, d.grove.lane.length,
    d.gnss.chan.length, d.acq.chain.length, d.acq.pulse.length, d.acq.quad.length, d.can.ctl.length, d.can.field.length,
    d.host.pair.length, d.safe.chan.length, d.safe.inp.length, d.safe.out.length]

theorem windows_mk (r : List (Nat × Word)) (x0 : SeqSt) (x1 : ClkSt) (x2 : LoopSt) (x3 : ProfSt) (x4 : EstSt) (x5 : AllocSt) (x6 : GroveSt)
    (x7 : GnssSt) (x8 : AcqSt) (x9 : CanSt) (x10 : NetSt) (x11 : LogSt) (x12 : HostSt) (x13 : SafeSt) (x14 : StandSt) (x15 : ThktSt)
    (x16 : BlzSt) (x17 : GladeSt) (x18 : RstSt) :
    (Dev.mk r x0 x1 x2 x3 x4 x5 x6 x7 x8 x9 x10 x11 x12 x13 x14 x15 x16 x17 x18).windows =
      [x2.ctx.length, x3.gen.length, x4.refs.length, x4.gyro.length, x4.mru.length, x4.wind.length, x6.lane.length, x7.chan.length,
        x8.chain.length, x8.pulse.length, x8.quad.length, x9.ctl.length, x9.field.length, x12.pair.length, x13.chan.length,
        x13.inp.length, x13.out.length] := (rfl)

theorem windows_fold (d : Dev) :
    [d.loop.ctx.length, d.prof.gen.length, d.est.refs.length, d.est.gyro.length, d.est.mru.length, d.est.wind.length, d.grove.lane.length,
      d.gnss.chan.length, d.acq.chain.length, d.acq.pulse.length, d.acq.quad.length, d.can.ctl.length, d.can.field.length,
      d.host.pair.length, d.safe.chan.length, d.safe.inp.length, d.safe.out.length] = d.windows := (rfl)

end Sys2Proof.Machine
end

section
/-! O5, continued: operations that keep the number of windows. -/

namespace Sys2Proof.Machine

/-! Registers, counts, events and the windows themselves. -/

theorem wr_windows (s : Dev) (a : Nat) (v : Word) : (s.wr a v).windows = s.windows := (rfl)

theorem wrN_windows (s : Dev) (a v : Nat) : (s.wrN a v).windows = s.windows := (rfl)

theorem setFld_windows (s : Dev) (a hi lo v : Nat) : (s.setFld a hi lo v).windows = s.windows := (rfl)

theorem setBit_windows (s : Dev) (a i : Nat) (b : Bool) : (s.setBit a i b).windows = s.windows := (rfl)

theorem wrPbv_windows (s : Dev) (a : Nat) (x : Rat) : (s.wrPbv a x).windows = s.windows := (rfl)

theorem cntSat_windows (s : Dev) (a hi lo k : Nat) : (s.cntSat a hi lo k).windows = s.windows := (rfl)

theorem cntWrap_windows (s : Dev) (a hi lo k : Nat) : (s.cntWrap a hi lo k).windows = s.windows := (rfl)

theorem orMask_windows (s : Dev) (a m : Nat) : (s.orMask a m).windows = s.windows := (rfl)

theorem clrMask_windows (s : Dev) (a m : Nat) : (s.clrMask a m).windows = s.windows := (rfl)

theorem raise_windows (s : Dev) (n : Nat) : (s.raise n).windows = s.windows := (rfl)

theorem evW_windows (s : Dev) (c : Nat) (p q : Word) : (s.evW c p q).windows = s.windows := (rfl)

theorem ev_windows (s : Dev) (c p q : Nat) : (s.ev c p q).windows = s.windows := (rfl)

theorem evI_windows (s : Dev) (c p : Nat) (q : Int) : (s.evI c p q).windows = s.windows := (rfl)

theorem spend_windows (s : Dev) : s.spend.windows = s.windows := (rfl)

theorem setLctx_windows (s : Dev) (n : Nat) (f : LoopCtx → LoopCtx) : (s.setLctx n f).windows = s.windows := by
  unfold Dev.setLctx
  simp only [↓windows_mk, length_modAt, windows_fold]

theorem setGen_windows (s : Dev) (n : Nat) (f : GenSt → GenSt) : (s.setGen n f).windows = s.windows := by
  unfold Dev.setGen
  simp only [↓windows_mk, length_modAt, windows_fold]

theorem setChain_windows (s : Dev) (n : Nat) (f : ChainSt → ChainSt) : (s.setChain n f).windows = s.windows := by
  unfold Dev.setChain
  simp only [↓windows_mk, length_modAt, windows_fold]

theorem setLane_windows (s : Dev) (n : Nat) (f : LaneSt → LaneSt) : (s.setLane n f).windows = s.windows := by
  unfold Dev.setLane
  simp only [↓windows_mk, length_modAt, windows_fold]

theorem setCanc_windows (s : Dev) (n : Nat) (f : CanCtl → CanCtl) : (s.setCanc n f).windows = s.windows := by
  unfold Dev.setCanc
  simp only [↓windows_mk, length_modAt, windows_fold]

theorem store_windows (s : Dev) (a : Nat) (v : Word) : (s.store a v).windows = s.windows := by
  unfold Dev.store
  split <;> rfl

theorem each_windows {α : Type} (s : Dev) (xs : List α) (f : Dev → α → Dev) (h : ∀ d x, (f d x).windows = d.windows) :
    (s.each xs f).windows = s.windows := each_keeps Dev.windows f h xs s

theorem ite_windows (c : Prop) [Decidable c] (a b : Dev) : (if c then a else b).windows = if c then a.windows else b.windows :=
  apply_ite _ _ _ _

theorem wrExact_windows (s : Dev) (a : Nat) (x : Rat) : (s.wrExact a x).windows = s.windows := (rfl)

/-! Operands. -/

theorem sessUse_windows (s : Dev) : s.sessUse.windows = s.windows := (rfl)

theorem byGlade_windows (s : Dev) (f : Dev → Dev) (h : (f s).windows = s.windows) : (s.byGlade f).windows = s.windows := by
  unfold Dev.byGlade
  split
  · rfl
  · exact h

/-! Reports and completions. -/

theorem setPair_windows (s : Dev) (p : Nat) (f : PairSt → PairSt) : (s.setPair p f).windows = s.windows := by
  unfold Dev.setPair
  simp only [↓windows_mk, length_modAt, windows_fold]

theorem writeback_windows (s : Dev) (p : Nat) : (s.writeback p).windows = s.windows := by
  unfold Dev.writeback
  simp only [↓spend_windows, ↓setPair_windows]

theorem report_windows (s : Dev) (p cls content : Nat) (body : List Byte) : (s.report p cls content body).windows = s.windows := by
  unfold Dev.report
  simp only [↓setFld_windows, ↓cntWrap_windows, ↓raise_windows, ↓evW_windows, ↓spend_windows, ↓windows_mk, windows_fold, ↓ite_windows,
    ite_self, ↓setPair_windows, ↓writeback_windows]

theorem reportRouted_windows (s : Dev) (cls content : Nat) (body : List Byte) :
    (s.reportRouted cls content body).windows = s.windows := by
  unfold Dev.reportRouted
  split <;> simp only [↓report_windows]

theorem endCount_windows (s : Dev) (p k : Nat) : (s.endCount p k).windows = s.windows := by
  unfold Dev.endCount
  simp only [↓setFld_windows, ↓cntWrap_windows, ↓ite_windows, ite_self]

theorem endDesc_windows (s : Dev) (p status : Nat) : (s.endDesc p status).windows = s.windows := by
  unfold Dev.endDesc
  simp only [↓ev_windows, ↓ite_windows, ite_self, ↓endCount_windows]

theorem complete_windows (s : Dev) (p typ idx status tag detail : Nat) :
    (s.complete p typ idx status tag detail).windows = s.windows := by
  unfold Dev.complete
  simp only [↓spend_windows, ↓endDesc_windows, ↓report_windows]

/-! Loop engine. -/

theorem setCtxState_windows (s : Dev) (c st : Nat) : (s.setCtxState c st).windows = s.windows := (rfl)

theorem setMiss_windows (s : Dev) (c n : Nat) : (s.setMiss c n).windows = s.windows := by
  unfold Dev.setMiss
  simp only [↓setFld_windows, ↓setLctx_windows]

theorem toClearing_windows (s : Dev) (c : Nat) : (s.toClearing c).windows = s.windows := (rfl)

theorem toRun_windows (s : Dev) (c : Nat) : (s.toRun c).windows = s.windows := by
  unfold Dev.toRun
  simp only [↓wr_windows, ↓setBit_windows, ↓setLctx_windows, ↓setGen_windows, ↓setCtxState_windows]

theorem markFault_windows (s : Dev) (c cause : Nat) : (s.markFault c cause).windows = s.windows := (rfl)

theorem rampStep_windows (s : Dev) (c : Nat) : (s.rampStep c).windows = s.windows := by
  unfold Dev.rampStep
  simp only [↓wrPbv_windows, ↓ite_windows, ite_self, ↓toClearing_windows]

theorem faultAction_windows (s : Dev) (c top : Nat) : (s.faultAction c top).windows = s.windows := by
  unfold Dev.faultAction
  simp only [↓setFld_windows, ↓ite_windows, ite_self, ↓rampStep_windows, ↓setCtxState_windows, ↓toClearing_windows]

theorem takeFaults_windows (s : Dev) (c : Nat) (causes : List (Nat × Nat × Nat)) : (s.takeFaults c causes).windows = s.windows := by
  unfold Dev.takeFaults
  split <;> simp (disch := (intros; simp only [↓ev_windows, ↓markFault_windows])) only [↓faultAction_windows, each_windows]

theorem engFault_windows (s : Dev) : s.engFault.windows = s.windows := by
  unfold Dev.engFault
  simp (disch := (intros; simp only [↓setFld_windows, ↓ite_windows, ite_self, ↓markFault_windows,
    ↓toClearing_windows])) only [↓setBit_windows, ↓ev_windows, each_windows]

theorem countMismatch_windows (s : Dev) (c stage : Nat) : (s.countMismatch c stage).windows = s.windows := by
  unfold Dev.countMismatch
  simp only [↓setBit_windows, ↓cntSat_windows, ↓ev_windows, ↓setLctx_windows, ↓windows_mk, windows_fold]

theorem checkEngFault_windows (s : Dev) : s.checkEngFault.windows = s.windows := by
  unfold Dev.checkEngFault
  simp only [↓ite_windows, ite_self, ↓engFault_windows]

theorem evalDone_windows (s : Dev) (c : Nat) (sp : Rat) (o : EvalOut) : (s.evalDone c sp o).windows = s.windows := by
  unfold Dev.evalDone
  simp only [↓setBit_windows, ↓wrPbv_windows, ↓setLctx_windows, ↓setMiss_windows, ↓wrExact_windows]

theorem evaluateRun_windows (s : Dev) (snap : OutSnap) (i : TickIn) (c : Nat) : (s.evaluateRun snap i c).windows = s.windows := by
  unfold Dev.evaluateRun
  simp only [↓ite_windows, ite_self, ↓checkEngFault_windows, ↓evalDone_windows, ↓takeFaults_windows]
  split <;> simp only [↓setLctx_windows, ↓countMismatch_windows]

theorem heldDone_windows (s : Dev) (c : Nat) : (s.heldDone c).windows = s.windows := by
  unfold Dev.heldDone
  simp only [↓setBit_windows, ↓setLctx_windows, ↓setMiss_windows]

theorem evaluateHeld_windows (s : Dev) (i : TickIn) (c : Nat) : (s.evaluateHeld i c).windows = s.windows := by
  unfold Dev.evaluateHeld
  repeat' split
  all_goals simp only [↓setFld_windows, ↓ite_windows, ite_self, ↓checkEngFault_windows, ↓countMismatch_windows, ↓heldDone_windows,
    ↓rampStep_windows, ↓takeFaults_windows, ↓toClearing_windows]

theorem cmdResult_windows (s : Dev) (c op r : Nat) : (s.cmdResult c op r).windows = s.windows := by
  unfold Dev.cmdResult
  simp only [↓setFld_windows, ↓setBit_windows, ↓ev_windows, ↓windows_mk, windows_fold, ↓ite_windows, ite_self]

theorem settleCmd_windows (s : Dev) (snap : OutSnap) (n : Nat) : (s.settleCmd snap n).windows = s.windows := by
  unfold Dev.settleCmd
  split <;> simp only [↓ev_windows, ↓ite_windows, ite_self, ↓cmdResult_windows, ↓toRun_windows]

theorem evaluate_windows (s : Dev) (snap : OutSnap) (i : TickIn) (c : Nat) : (s.evaluate snap i c).windows = s.windows := by
  unfold Dev.evaluate
  dsimp only
  split <;> simp only [↓setLctx_windows, ↓ite_windows, ite_self, ↓cmdResult_windows, ↓evaluateHeld_windows, ↓evaluateRun_windows,
    ↓takeFaults_windows]

theorem miss_windows (s : Dev) (c : Nat) : (s.miss c).windows = s.windows := by
  unfold Dev.miss
  simp only [↓setLctx_windows, ↓ite_windows, ite_self, ↓setMiss_windows, ↓takeFaults_windows]

theorem showValid_windows (s : Dev) (snap : OutSnap) (c : Nat) : (s.showValid snap c).windows = s.windows := by
  unfold Dev.showValid
  simp only [↓setBit_windows, ↓ite_windows, ite_self]

theorem loopEcc_windows (s : Dev) (i : TickIn) : (s.loopEcc i).windows = s.windows := by
  unfold Dev.loopEcc
  simp (disch := (intros; simp only [↓cntSat_windows, ↓ev_windows])) only [↓cntSat_windows, each_windows]

theorem loopP2_windows (s : Dev) (i : TickIn) (n : Nat) : (s.loopP2 i n).windows = s.windows := by
  unfold Dev.loopP2
  simp (disch := (intros; simp only [↓ite_windows, ite_self, ↓evaluate_windows, ↓miss_windows,
    ↓showValid_windows])) only [↓loopEcc_windows, ↓settleCmd_windows, each_windows]

theorem loopLeave_windows (s : Dev) : s.loopLeave.windows = s.windows := by
  unfold Dev.loopLeave
  simp (disch := (intros; simp only [↓setFld_windows, ↓ite_windows, ite_self, ↓markFault_windows,
    ↓toClearing_windows])) only [each_windows]

theorem loopEnter_windows (s : Dev) : s.loopEnter.windows = s.windows := by
  unfold Dev.loopEnter
  simp (disch := (intros; simp only [↓ite_windows, ite_self, ↓toRun_windows])) only [↓ite_windows, ite_self, each_windows]

theorem loopCommand_windows (s : Dev) (c op : Nat) (sessOk : Bool) : (s.loopCommand c op sessOk).windows = s.windows := by
  unfold Dev.loopCommand
  simp only [↓setFld_windows, ↓setBit_windows, ↓windows_mk, windows_fold]

theorem resumeCommand_windows (s : Dev) (c : Nat) : (s.resumeCommand c).windows = s.windows := by
  unfold Dev.resumeCommand
  simp only [↓ite_windows, ite_self, ↓loopCommand_windows, ↓sessUse_windows]

/-! Setpoint generators. -/

theorem setGState_windows (s : Dev) (g st : Nat) : (s.setGState g st).windows = s.windows := (rfl)

theorem profEv_windows (s : Dev) (g k : Nat) (p2 : Word) : (s.profEv g k p2).windows = s.windows := (rfl)

theorem showGen_windows (s : Dev) (g : Nat) : (s.showGen g).windows = s.windows := (rfl)

theorem setTarget_windows (s : Dev) (g : Nat) (raw : Int) : (s.setTarget g raw).windows = s.windows := by
  unfold Dev.setTarget
  simp only [↓setBit_windows, ↓setGen_windows, ↓ite_windows, ite_self, ↓profEv_windows]

theorem takeSample_windows (s : Dev) (g : Nat) (v : Int) (age : Nat) : (s.takeSample g v age).1.windows = s.windows := by
  unfold Dev.takeSample
  dsimp only
  repeat' split
  all_goals simp only [↓setBit_windows, ↓setGen_windows, ↓profEv_windows]

theorem sampleStep_windows (s : Dev) (g : Nat) : (s.sampleStep g).1.windows = s.windows := by
  unfold Dev.sampleStep
  repeat' split
  all_goals simp only [↓takeSample_windows]

theorem trackStep_windows (s : Dev) (g : Nat) : (s.trackStep g).windows = s.windows := by
  unfold Dev.trackStep
  simp only [↓setBit_windows, ↓clrMask_windows, ↓setGen_windows, ↓setGState_windows]

theorem analogueSource_windows (s : Dev) (g : Nat) : (s.analogueSource g).windows = s.windows := by
  unfold Dev.analogueSource
  simp only [↓setBit_windows, ↓ite_windows, ite_self, ↓profEv_windows, ↓sampleStep_windows, ↓setGState_windows, ↓setTarget_windows]

theorem leverSource_windows (s : Dev) (g : Nat) : (s.leverSource g).windows = s.windows := by
  unfold Dev.leverSource
  simp only [↓setBit_windows, ↓ite_windows, ite_self, ↓profEv_windows, ↓sampleStep_windows, ↓setGState_windows, ↓setTarget_windows]

theorem moveStep_windows (s : Dev) (g : Nat) (vd vmax amax jmax : Int) : (s.moveStep g vd vmax amax jmax).windows = s.windows := by
  unfold Dev.moveStep
  dsimp only
  repeat' split
  all_goals simp only [↓setBit_windows, ↓setGen_windows, ↓profEv_windows]

theorem runStep_windows (s : Dev) (g : Nat) : (s.runStep g).windows = s.windows := by
  unfold Dev.runStep
  simp only [↓setBit_windows, ↓setGen_windows, ↓ite_windows, ite_self, ↓moveStep_windows, ↓setGState_windows]

theorem takeLims_windows (s : Dev) (g : Nat) : (s.takeLims g).windows = s.windows := by
  unfold Dev.takeLims
  simp only [↓setBit_windows, ↓setGen_windows, ↓ite_windows, ite_self]

theorem genEntry_windows (s : Dev) (g : Nat) : (s.genEntry g).windows = s.windows := by
  unfold Dev.genEntry
  simp only [↓setGen_windows, ↓setGState_windows]

theorem genSource_windows (s : Dev) (g : Nat) : (s.genSource g).windows = s.windows := by
  unfold Dev.genSource
  dsimp only
  repeat' split
  all_goals simp only [↓setBit_windows, ↓setGen_windows, ↓analogueSource_windows, ↓leverSource_windows, ↓sampleStep_windows,
    ↓setTarget_windows]

theorem genStep_windows (s : Dev) (i : TickIn) (g : Nat) : (s.genStep i g).windows = s.windows := by
  unfold Dev.genStep
  simp only [↓setBit_windows, ↓cntSat_windows, ↓setGen_windows, ↓ite_windows, ite_self, ↓genEntry_windows, ↓genSource_windows,
    ↓profEv_windows, ↓runStep_windows, ↓setGState_windows, ↓showGen_windows, ↓takeLims_windows, ↓trackStep_windows]

theorem loadShared_windows (s : Dev) (g : Nat) : (s.loadShared g).windows = s.windows := by
  unfold Dev.loadShared
  split <;> simp only [↓setBit_windows, ↓setGen_windows, ↓setGState_windows, ↓showGen_windows]

theorem profP1_windows (s : Dev) (i : TickIn) (n : Nat) : (s.profP1 i n).windows = s.windows := by
  unfold Dev.profP1
  simp (disch := (intros; simp only [↓ite_windows, ite_self, ↓genStep_windows, ↓loadShared_windows])) only [each_windows]

theorem profP0_windows (s : Dev) : s.profP0.windows = s.windows := by
  unfold Dev.profP0
  simp (disch := (intros; split <;> simp only [↓wr_windows, ↓setGen_windows])) only [each_windows]

theorem axesEnter_windows (s : Dev) : s.axesEnter.windows = s.windows := by
  unfold Dev.axesEnter
  simp (disch := (intros; simp only [↓setGen_windows])) only [each_windows]

/-! The Grove. -/

theorem laneCorr_windows (s : Dev) (l : Nat) (corr : List Nat) : (s.laneCorr l corr).windows = s.windows := by
  unfold Dev.laneCorr
  simp (disch := (intros; simp only [↓cntSat_windows, ↓ev_windows])) only [each_windows]

theorem recount_windows (s : Dev) : s.recount.windows = s.windows := (rfl)

theorem slotOut_windows (s : Dev) (l : Nat) : (s.slotOut l).windows = s.windows := by
  unfold Dev.slotOut
  split <;> simp only [↓setBit_windows]

theorem laneLoad_windows (s : Dev) (l method : Nat) (accum : Bool) (n m : Nat) : (s.laneLoad l method accum n m).windows = s.windows := by
  unfold Dev.laneLoad
  simp only [↓wrN_windows, ↓setFld_windows, ↓setBit_windows, ↓setLane_windows]

theorem groveRefuse_windows (s : Dev) : s.groveRefuse.windows = s.windows := (rfl)

theorem groveLoadOp_windows (s : Dev) (l method : Nat) (accum : Bool) (n m : Nat) :
    (s.groveLoadOp l method accum n m).1.windows = s.windows := by
  unfold Dev.groveLoadOp
  repeat' split
  all_goals simp only [↓groveRefuse_windows, ↓laneLoad_windows]

theorem applyEntry_windows (s : Dev) (l : Nat) (e : GroveEntryIn) : (s.applyEntry l e).windows = s.windows := by
  unfold Dev.applyEntry
  simp only [↓setLane_windows]

theorem groveEntryOp_windows (s : Dev) (l : Nat) (e : GroveEntryIn) : (s.groveEntryOp l e).1.windows = s.windows := by
  unfold Dev.groveEntryOp
  repeat' split
  all_goals simp only [↓setFld_windows, ↓setLane_windows, ↓applyEntry_windows, ↓groveRefuse_windows]

theorem retire_windows (s : Dev) (l why : Nat) : (s.retire l why).windows = s.windows := by
  unfold Dev.retire
  simp only [↓setFld_windows, ↓setBit_windows, ↓raise_windows, ↓ev_windows, ↓setLane_windows, ↓windows_mk, windows_fold, ↓recount_windows]

theorem countInvalid_windows (s : Dev) (l code : Nat) : (s.countInvalid l code).windows = s.windows := by
  unfold Dev.countInvalid
  simp only [↓cntSat_windows, ↓ev_windows, ↓ite_windows, ite_self]

theorem hostRecord_windows (s : Dev) (l code iter cycles : Nat) (out : Option SolveOut) :
    (s.hostRecord l code iter cycles out).windows = s.windows := by
  unfold Dev.hostRecord
  split <;> simp only [↓spend_windows, ↓setLane_windows, ↓windows_mk, windows_fold, ↓endDesc_windows]

theorem laneStop_windows (s : Dev) (l code iter cycles : Nat) (out : Option SolveOut) :
    (s.laneStop l code iter cycles out).windows = s.windows := by
  unfold Dev.laneStop
  simp only [↓wrN_windows, ↓setFld_windows, ↓setBit_windows, ↓cntSat_windows, ↓ev_windows, ↓setLane_windows, ↓ite_windows, ite_self,
    ↓countInvalid_windows, ↓hostRecord_windows, ↓retire_windows]

theorem laneBreak_windows (s : Dev) (l code : Nat) : (s.laneBreak l code).windows = s.windows := by
  unfold Dev.laneBreak
  simp only [↓spend_windows, ↓laneStop_windows]

theorem groveStart_windows (s : Dev) (l : Nat) (final : Bool) (amb : Nat) : (s.groveStart l final amb).1.windows = s.windows := by
  unfold Dev.groveStart
  dsimp only
  repeat' split
  all_goals simp only [↓setFld_windows, ↓setLane_windows, ↓countInvalid_windows, ↓groveRefuse_windows, ↓laneBreak_windows]

theorem producerSend_windows (s : Dev) (l method : Nat) (accum : Bool) (n m iterMax : Nat) (p : Problem) :
    (s.producerSend l method accum n m iterMax p).windows = s.windows := by
  unfold Dev.producerSend
  simp only [↓setLane_windows, ↓ite_windows, ite_self, ↓groveLoadOp_windows]

theorem noLane_windows (s : Dev) : s.noLane.windows = s.windows := (rfl)

theorem roleRelease_windows (s : Dev) (role method : Nat) (accum : Bool) (n m iterMax : Nat) (p : Problem) (final : Bool) (amb : Nat) :
    (s.roleRelease role method accum n m iterMax p final amb).windows = s.windows := by
  unfold Dev.roleRelease
  split <;> simp only [↓groveStart_windows, ↓noLane_windows, ↓producerSend_windows]

theorem groveAbort_windows (s : Dev) : s.groveAbort.windows = s.windows := by
  unfold Dev.groveAbort
  simp (disch := (intros; simp only [↓setLane_windows, ↓ite_windows, ite_self, ↓laneBreak_windows])) only [each_windows]

theorem lateLanes_windows (s : Dev) : s.lateLanes.windows = s.windows := by
  unfold Dev.lateLanes
  simp (disch := (intros; simp only [↓setLane_windows, ↓ite_windows, ite_self, ↓laneBreak_windows])) only [each_windows]

theorem moveRole_windows (s : Dev) (mv : Nat × Nat) : (s.moveRole mv).windows = s.windows := by
  unfold Dev.moveRole
  split <;> simp only [↓setFld_windows, ↓ev_windows, ↓setLane_windows, ↓ite_windows, ite_self, ↓laneBreak_windows, ↓recount_windows,
    ↓slotOut_windows]

theorem moveRoles_windows (s : Dev) : s.moveRoles.windows = s.windows := by
  unfold Dev.moveRoles
  simp (disch := (intros; simp only [↓moveRole_windows])) only [↓windows_mk, windows_fold, each_windows]

/-! Estimator. -/

theorem setEstState_windows (s : Dev) (n : Nat) : (s.setEstState n).windows = s.windows := by
  unfold Dev.setEstState
  simp only [↓setFld_windows, ↓raise_windows, ↓ite_windows, ite_self]

theorem propagate_windows (s : Dev) : s.propagate.windows = s.windows := by
  unfold Dev.propagate
  simp only [↓windows_mk, windows_fold, ↓ite_windows, ite_self]

theorem selectSensors_windows (s : Dev) : s.selectSensors.windows = s.windows := (rfl)

theorem setRef_windows (s : Dev) (n : Nat) (f : RefSt → RefSt) : (s.setRef n f).windows = s.windows := by
  unfold Dev.setRef
  simp only [↓windows_mk, length_modAt, windows_fold]

theorem showRef_windows (s : Dev) (n test : Nat) (ns : Int) : (s.showRef n test ns).windows = s.windows := by
  unfold Dev.showRef
  simp only [↓setFld_windows, ↓setBit_windows, ↓ite_windows, ite_self]

theorem rejectRef_windows (s : Dev) (n test : Nat) : (s.rejectRef n test).windows = s.windows := by
  unfold Dev.rejectRef
  simp only [↓cntSat_windows, ↓ev_windows, ↓ite_windows, ite_self, ↓setRef_windows]

theorem passRef_windows (s : Dev) (t : RefTest) : (s.passRef t).windows = s.windows := by
  unfold Dev.passRef
  simp only [↓ev_windows, ↓ite_windows, ite_self, ↓setRef_windows]

theorem judgeRef_windows (s : Dev) (i : TickIn) (med : Option (Rat × Rat)) (t : RefTest) :
    (s.judgeRef i med t).windows = s.windows := by
  unfold Dev.judgeRef
  extract_lets r far innovOk test s1 f s3 s2
  have htested : s1.windows = s.windows := setRef_windows _ _ _
  have hfar : s3.windows = s1.windows := setRef_windows _ _ _
  have hjudged : s2.windows = s1.windows := by
    clear_value s3 s1 test f r far innovOk
    unfold s2
    split
    · exact passRef_windows _ _
    · rfl
    · simp only [↓ite_windows, ↓rejectRef_windows, hfar, ite_self]
    · exact rejectRef_windows _ _ _
  exact (showRef_windows ..).trans (hjudged.trans htested)

theorem acceptRefs_windows (s : Dev) (i : TickIn) : (s.acceptRefs i).windows = s.windows := by
  unfold Dev.acceptRefs
  simp (disch := (intros; simp only [↓judgeRef_windows])) only [↓windows_mk, List.length_map, windows_fold, each_windows]

theorem dropSamples_windows (s : Dev) : s.dropSamples.windows = s.windows := by
  unfold Dev.dropSamples
  simp only [↓windows_mk, List.length_map, windows_fold]

theorem refsCommit_windows (s : Dev) : s.refsCommit.windows = s.windows := by
  unfold Dev.refsCommit
  simp (disch := (intros; simp only [↓wr_windows, ↓setRef_windows])) only [each_windows]

theorem refsReinit_windows (s : Dev) : s.refsReinit.windows = s.windows := by
  unfold Dev.refsReinit
  simp (disch := (intros; simp only [↓setFld_windows, ↓setBit_windows, ↓ite_windows, ite_self])) only [↓windows_mk, List.length_map,
    windows_fold, each_windows]

theorem gyroTest_windows (s : Dev) (b med : Rat) (k : Nat) : (s.gyroTest b med k).windows = s.windows := by
  unfold Dev.gyroTest
  simp only [↓ev_windows, ↓windows_mk, length_modAt, windows_fold, ↓ite_windows, ite_self]

theorem headingMedian_windows (s : Dev) (fresh : List Nat) (vals : List Rat) : (s.headingMedian fresh vals).windows = s.windows := by
  unfold Dev.headingMedian
  simp (disch := (intros; simp only [↓gyroTest_windows])) only [↓windows_mk, windows_fold, each_windows]

theorem headingPair_windows (s : Dev) (fresh : List Nat) (vals : List Rat) : (s.headingPair fresh vals).windows = s.windows := by
  unfold Dev.headingPair
  simp only [↓ev_windows, ↓windows_mk, windows_fold, ↓ite_windows, ite_self]

theorem headingFlags_windows (s : Dev) (n : Nat) : (s.headingFlags n).windows = s.windows := by
  unfold Dev.headingFlags
  simp only [↓setBit_windows, ↓ev_windows, ↓ite_windows, ite_self]

theorem headingTest_windows (s : Dev) : s.headingTest.windows = s.windows := by
  unfold Dev.headingTest
  simp (disch := (intros; simp only [↓windows_mk, length_modAt, windows_fold])) only [↓ite_windows, ite_self, ↓headingFlags_windows,
    ↓headingMedian_windows, ↓headingPair_windows, each_windows]

theorem deadReckon_windows (s : Dev) (entered : Bool) : (s.deadReckon entered).windows = s.windows := by
  unfold Dev.deadReckon
  simp only [↓setBit_windows, ↓ev_windows, ↓windows_mk, windows_fold, ↓ite_windows, ite_self]

theorem applyBundle_windows (s : Dev) : s.applyBundle.windows = s.windows := by
  unfold Dev.applyBundle
  split <;> simp (disch := (intros; simp only [↓wrPbv_windows, ↓ev_windows, ↓ite_windows, ite_self])) only [↓wrPbv_windows, ↓ev_windows,
    ↓windows_mk, windows_fold, ↓ite_windows, ite_self, each_windows]

theorem estRestart_windows (s : Dev) : s.estRestart.windows = s.windows := by
  unfold Dev.estRestart
  simp only [↓setFld_windows, ↓setBit_windows, ↓windows_mk, windows_fold, ↓setEstState_windows]

theorem originFar_windows (s : Dev) : s.originFar.windows = s.windows := by
  unfold Dev.originFar
  simp only [↓setBit_windows, ↓ev_windows, ↓ite_windows, ite_self]

theorem takeSolution_windows (s : Dev) (l : Nat) : (s.takeSolution l).windows = s.windows := by
  unfold Dev.takeSolution
  simp only [↓windows_mk, windows_fold, ↓originFar_windows]

theorem bundleBegin_windows (s : Dev) : s.bundleBegin.windows = s.windows := by
  unfold Dev.bundleBegin
  dsimp only
  split <;> simp only [↓windows_mk, windows_fold, ↓groveLoadOp_windows]

theorem bundleSend_windows (s : Dev) : s.bundleSend.windows = s.windows := by
  unfold Dev.bundleSend
  simp only [↓roleRelease_windows]

theorem bundleStart_windows (s : Dev) : s.bundleStart.windows = s.windows := by
  unfold Dev.bundleStart
  simp only [↓windows_mk, windows_fold, ↓ite_windows, ite_self, ↓bundleBegin_windows, ↓bundleSend_windows]

theorem bundleNext_windows (s : Dev) (l : Nat) (ok : Bool) : (s.bundleNext l ok).windows = s.windows := by
  unfold Dev.bundleNext
  simp only [↓windows_mk, windows_fold, ↓ite_windows, ite_self, ↓bundleSend_windows]

theorem ambFix_windows (s : Dev) (l : Nat) (i : TickIn) : (s.ambFix l i).windows = s.windows := by
  unfold Dev.ambFix
  split <;> simp only [↓setFld_windows, ↓setBit_windows, ↓ev_windows, ↓windows_mk, windows_fold, ↓ite_windows, ite_self]

theorem bundlePublish_windows (s : Dev) (i : TickIn) (bad : Bool) : (s.bundlePublish i bad).windows = s.windows := by
  unfold Dev.bundlePublish
  split <;> simp only [↓cntWrap_windows, ↓ev_windows, ↓windows_mk, windows_fold, ↓ambFix_windows]

theorem bundleEnd_windows (s : Dev) (i : TickIn) : (s.bundleEnd i).windows = s.windows := by
  unfold Dev.bundleEnd
  simp only [↓setFld_windows, ↓windows_mk, windows_fold, ↓ite_windows, ite_self, ↓bundlePublish_windows]

theorem slips_windows (s : Dev) : s.slips.windows = s.windows := by
  unfold Dev.slips
  simp only [↓setBit_windows, ↓ev_windows, ↓windows_mk, windows_fold, ↓ite_windows, ite_self]

theorem estBoundary_windows (s : Dev) : s.estBoundary.windows = s.windows := by
  unfold Dev.estBoundary
  dsimp only
  repeat' split
  all_goals simp only [↓wr_windows, ↓setBit_windows, ↓windows_mk, windows_fold, ↓estRestart_windows, ↓refsReinit_windows]

theorem originWrite_windows (s : Dev) (lon : Bool) (v : Word) : (s.originWrite lon v).windows = s.windows := by
  unfold Dev.originWrite
  simp only [↓ev_windows, ↓windows_mk, windows_fold, ↓ite_windows, ite_self]

theorem autoOrigin_windows (s : Dev) (lat lon : Int) : (s.autoOrigin lat lon).windows = s.windows := by
  unfold Dev.autoOrigin
  simp only [↓wr_windows, ↓setBit_windows, ↓ite_windows, ite_self]

theorem sensBad_windows (s : Dev) : s.sensBad.windows = s.windows := (rfl)

theorem sentence_windows (s : Dev) (u : Nat) (m : SentenceIn) : (s.sentence u m).windows = s.windows := by
  unfold Dev.sentence
  dsimp only
  repeat' split
  all_goals simp only [↓windows_mk, length_modAt, windows_fold, ↓sensBad_windows]

theorem refPayload_windows (s : Dev) (port : Nat) (u : Nat) (p : List Byte) (arrival : Int) :
    (s.refPayload port u p arrival).windows = s.windows := by
  unfold Dev.refPayload
  dsimp only
  repeat' split
  all_goals simp only [↓cntSat_windows, ↓cntWrap_windows, ↓setRef_windows]

theorem refArrival_windows (s : Dev) (uart : Option Nat) (bytes : List Byte) (arrival : Int) :
    (s.refArrival uart bytes arrival).windows = s.windows := by
  unfold Dev.refArrival
  split <;> simp only [↓ite_windows, ite_self, ↓refPayload_windows, ↓sensBad_windows]

end Sys2Proof.Machine
end

section
/-! O5, continued: operations that keep the number of windows. -/

namespace Sys2Proof.Machine

/-! Allocation. -/

theorem setAllocState_windows (s : Dev) (n : Nat) : (s.setAllocState n).windows = s.windows := by
  unfold Dev.setAllocState
  simp only [↓setFld_windows, ↓raise_windows, ↓ite_windows, ite_self]

theorem allocMismatch_windows (s : Dev) (k : Nat) : (s.allocMismatch k).windows = s.windows := (rfl)

theorem allocRequest_windows (s : Dev) : s.allocRequest.windows = s.windows := (rfl)

theorem allocWithdraw_windows (s : Dev) : s.allocWithdraw.windows = s.windows := (rfl)

theorem setTau_windows (s : Dev) (t : Rat × Rat × Rat) : (s.setTau t).windows = s.windows := by
  unfold Dev.setTau
  simp only [↓setBit_windows, ↓wrPbv_windows, ↓ev_windows, ↓windows_mk, windows_fold, ↓ite_windows, ite_self]

theorem zeroTau_windows (s : Dev) : s.zeroTau.windows = s.windows := (rfl)

theorem estimatorAction_windows (s : Dev) : s.estimatorAction.windows = s.windows := by
  unfold Dev.estimatorAction
  simp only [↓ev_windows, ↓ite_windows, ite_self, ↓allocRequest_windows, ↓setAllocState_windows, ↓zeroTau_windows]

theorem latchZone_windows (s : Dev) (t : Nat) (ang : Rat) (zone : Option Nat) : (s.latchZone t ang zone).windows = s.windows := by
  unfold Dev.latchZone
  split <;> simp only [↓setBit_windows, ↓ev_windows, ↓windows_mk, windows_fold, ↓ite_windows, ite_self]

theorem latchSide_windows (s : Dev) (t : Nat) : (s.latchSide t).windows = s.windows := by
  unfold Dev.latchSide
  simp only [↓setBit_windows, ↓ev_windows, ↓ite_windows, ite_self]

theorem latchAngle_windows (s : Dev) (t : Nat) (ang : Rat) : (s.latchAngle t ang).windows = s.windows := by
  unfold Dev.latchAngle
  simp only [↓wrPbv_windows, ↓windows_mk, windows_fold, ↓ite_windows, ite_self]

theorem latchThr_windows (s : Dev) (t : Nat) : (s.latchThr t).windows = s.windows := by
  unfold Dev.latchThr
  simp only [↓setBit_windows, ↓ite_windows, ite_self, ↓latchAngle_windows, ↓latchSide_windows, ↓latchZone_windows]

theorem assignGroups_windows (s : Dev) : s.assignGroups.windows = s.windows := (rfl)

theorem memberBounds_windows (s : Dev) (l g : Nat) : (s.memberBounds l g).windows = s.windows := by
  unfold Dev.memberBounds
  simp only [↓cntSat_windows, ↓setLane_windows, ↓ite_windows, ite_self]

theorem startGroups_windows (s : Dev) (l : Nat) (gs : List Nat) : (s.startGroups l gs).windows = s.windows := by
  induction gs generalizing s with
  | nil => exact setLane_windows ..
  | cons g gs ih =>
    unfold Dev.startGroups
    simp only [↓ite_windows, ih, ↓groveStart_windows, ↓memberBounds_windows, ↓setLane_windows, ite_self]

theorem nextGroup_windows (s : Dev) (l : Nat) : (s.nextGroup l).windows = s.windows := by
  unfold Dev.nextGroup
  simp only [↓startGroups_windows]

theorem cqStopped_windows (s : Dev) (l : Nat) (ok : Bool) : (s.cqStopped l ok).windows = s.windows := by
  unfold Dev.cqStopped
  split <;> simp only [↓windows_mk, windows_fold, ↓ite_windows, ite_self, ↓nextGroup_windows]

theorem writeTargets_windows (s : Dev) : s.writeTargets.windows = s.windows := by
  unfold Dev.writeTargets
  simp (disch := (intros; simp only [↓setGen_windows])) only [each_windows]

theorem showShort_windows (s : Dev) (f : List (Rat × Rat)) : (s.showShort f).windows = s.windows := (rfl)

theorem applyAlloc_windows (s : Dev) : s.applyAlloc.windows = s.windows := by
  unfold Dev.applyAlloc
  simp (disch := (intros; simp only [↓wrPbv_windows])) only [↓windows_mk, windows_fold, ↓showShort_windows, ↓writeTargets_windows,
    each_windows]

theorem thrustGroupReport_windows (s : Dev) (g : Nat) : (s.thrustGroupReport g).windows = s.windows := by
  unfold Dev.thrustGroupReport
  split <;> simp only [↓wr_windows, ↓setFld_windows, ↓setBit_windows, ↓wrPbv_windows, ↓cntSat_windows, ↓ev_windows, ↓windows_mk,
    windows_fold, ↓ite_windows, ite_self]

theorem refGroupReport_windows (s : Dev) (g : Nat) : (s.refGroupReport g).windows = s.windows := (rfl)

theorem allocReport_windows (s : Dev) : s.allocReport.windows = s.windows := by
  unfold Dev.allocReport
  simp (disch := (intros; simp only [↓ite_windows, ite_self, ↓refGroupReport_windows,
    ↓thrustGroupReport_windows])) only [↓setFld_windows, ↓ev_windows, ↓windows_mk, windows_fold, ↓ite_windows, ite_self, each_windows]

theorem allocArming_windows (s : Dev) : s.allocArming.windows = s.windows := by
  unfold Dev.allocArming
  simp (disch := (intros; simp only [↓wr_windows, ↓setFld_windows, ↓setBit_windows, ↓ev_windows, ↓ite_windows,
    ite_self])) only [↓setFld_windows, ↓windows_mk, windows_fold, ↓setAllocState_windows, each_windows]

theorem allocOperate_windows (s : Dev) : s.allocOperate.windows = s.windows := by
  unfold Dev.allocOperate
  simp only [↓windows_mk, windows_fold, ↓ite_windows, ite_self, ↓setAllocState_windows]

theorem allocWatch_windows (s : Dev) : s.allocWatch.windows = s.windows := by
  unfold Dev.allocWatch
  simp only [↓allocWithdraw_windows, ↓setAllocState_windows]

theorem groupFresh_windows (s : Dev) (g : Nat) : (s.groupFresh g).windows = s.windows := (rfl)

theorem allocCommit_windows (s old : Dev) : (s.allocCommit old).windows = s.windows := by
  unfold Dev.allocCommit
  simp (disch := (intros; simp only [↓wr_windows, ↓setBit_windows, ↓windows_mk, windows_fold, ↓ite_windows, ite_self,
    ↓groupFresh_windows])) only [↓setFld_windows, each_windows]

theorem selectBoundary_windows (s : Dev) : s.selectBoundary.windows = s.windows := by
  unfold Dev.selectBoundary
  split <;> simp only [↓ev_windows, ↓windows_mk, windows_fold, ↓ite_windows, ite_self]

/-! GNSS and local time. -/

theorem setTstate_windows (s : Dev) (n : Nat) : (s.setTstate n).windows = s.windows := by
  unfold Dev.setTstate
  simp only [↓setFld_windows, ↓raise_windows, ↓ite_windows, ite_self]

theorem showClock_windows (s : Dev) : s.showClock.windows = s.windows := (rfl)

theorem slewEnd_windows (s : Dev) : s.slewEnd.windows = s.windows := (rfl)

theorem advance_windows (s : Dev) (dt : Rat) : (s.advance dt).windows = s.windows := by
  unfold Dev.advance
  simp only [↓windows_mk, windows_fold, ↓ite_windows, ite_self, ↓showClock_windows, ↓slewEnd_windows]

theorem shiftLocal_windows (s : Dev) (d : Rat) : (s.shiftLocal d).windows = s.windows := (rfl)

theorem returnRule_windows (s : Dev) (err : Int) (code : Nat) : (s.returnRule err code).windows = s.windows := by
  unfold Dev.returnRule
  simp only [↓setBit_windows, ↓windows_mk, windows_fold, ↓ite_windows, ite_self, ↓showClock_windows]

theorem changeSource_windows (s : Dev) (src : Nat) (ofs : Int) : (s.changeSource src ofs).windows = s.windows := by
  unfold Dev.changeSource
  simp only [↓setFld_windows, ↓raise_windows, ↓evI_windows, ↓returnRule_windows]

theorem firstSet_windows (s : Dev) (src : Nat) : (s.firstSet src).windows = s.windows := (rfl)

theorem showTime_windows (s : Dev) : s.showTime.windows = s.windows := (rfl)

theorem discipline_windows (s : Dev) (x dt : Rat) (tau : Nat) : (s.discipline x dt tau).windows = s.windows := by
  unfold Dev.discipline
  simp only [↓wrN_windows, ↓spend_windows, ↓windows_mk, windows_fold, ↓ite_windows, ite_self, ↓showClock_windows]

theorem useFix_windows (s : Dev) (f : FixSol) : (s.useFix f).windows = s.windows := by
  unfold Dev.useFix
  simp only [↓wrN_windows, ↓setBit_windows, ↓evI_windows, ↓windows_mk, windows_fold, ↓ite_windows, ite_self, ↓changeSource_windows,
    ↓discipline_windows]

theorem qualify_windows (s : Dev) (f : FixSol) : (s.qualify f).windows = s.windows := by
  unfold Dev.qualify
  simp only [↓wrN_windows, ↓evI_windows, ↓windows_mk, windows_fold, ↓ite_windows, ite_self, ↓returnRule_windows, ↓setTstate_windows]

theorem fixStep_windows (s : Dev) (fix : Option FixIn) : (s.fixStep fix).windows = s.windows := by
  unfold Dev.fixStep
  simp only []
  repeat' split
  all_goals simp only [↓setFld_windows, ↓setBit_windows, ↓windows_mk, windows_fold, ↓autoOrigin_windows, ↓qualify_windows,
    ↓setTstate_windows, ↓useFix_windows]

theorem countTrack_windows (s : Dev) : s.countTrack.windows = s.windows := (rfl)

theorem latchSpacing_windows (s : Dev) : s.latchSpacing.windows = s.windows := by
  unfold Dev.latchSpacing
  simp only [↓windows_mk, List.length_map, windows_fold]

theorem release_windows (s : Dev) (p : GChan → Bool) : (s.release p).windows = s.windows := by
  unfold Dev.release
  simp only [↓windows_mk, List.length_map, windows_fold]

theorem latchSettings_windows (s : Dev) : s.latchSettings.windows = s.windows := by
  unfold Dev.latchSettings
  simp only [↓windows_mk, windows_fold, ↓latchSpacing_windows, ↓release_windows]

theorem moveSat_windows (s : Dev) (x : SkySat) : (s.moveSat x).windows = s.windows := by
  unfold Dev.moveSat
  simp only [↓windows_mk, windows_fold, ↓ite_windows, ite_self, ↓release_windows]

theorem latchChan_windows (s : Dev) (m : ChanMeas) : (s.latchChan m).windows = s.windows := by
  unfold Dev.latchChan
  simp only [↓windows_mk, length_modAt, windows_fold]

theorem keepRecord_windows (s : Dev) (mid : Bool) : (s.keepRecord mid).windows = s.windows := by
  unfold Dev.keepRecord
  simp only [↓windows_mk, List.length_map, windows_fold]

theorem satSample_windows (s : Dev) : s.satSample.windows = s.windows := by
  unfold Dev.satSample
  split <;> simp only [↓setRef_windows]

theorem holdBound_windows (s : Dev) : s.holdBound.windows = s.windows := by
  unfold Dev.holdBound
  simp only [↓wrN_windows, ↓ite_windows, ite_self]

theorem keepCarrier_windows (s : Dev) : s.keepCarrier.windows = s.windows := by
  unfold Dev.keepCarrier
  simp only [↓windows_mk, List.length_map, windows_fold]

theorem epoch_windows (s : Dev) (i : BoundaryIn) : (s.epoch i).windows = s.windows := by
  unfold Dev.epoch
  simp (disch := (intros; simp only [↓setFld_windows, ↓keepRecord_windows, ↓latchChan_windows, ↓latchSettings_windows, ↓moveSat_windows,
    ↓satSample_windows, ↓slips_windows])) only [↓windows_mk, windows_fold, ↓ite_windows, ite_self, ↓countTrack_windows, ↓fixStep_windows,
    ↓keepCarrier_windows, ↓keepRecord_windows, ↓latchSettings_windows, ↓satSample_windows, ↓slips_windows, each_windows]

theorem midLatch_windows (s : Dev) (i : TickIn) : (s.midLatch i).windows = s.windows := by
  unfold Dev.midLatch
  simp (disch := (intros; simp only [↓latchChan_windows])) only [↓windows_mk, windows_fold, ↓ite_windows, ite_self, ↓countTrack_windows,
    ↓keepRecord_windows, ↓latchSettings_windows, each_windows]

theorem acquired_windows (s : Dev) (k sig svid : Nat) (antS : Bool) (cn0 : BitVec 16) :
    (s.acquired k sig svid antS cn0).windows = s.windows := by
  unfold Dev.acquired
  simp only [↓windows_mk, length_setAt, windows_fold, ↓ite_windows, ite_self, ↓countTrack_windows]

theorem dropped_windows (s : Dev) (k : Nat) (cn0 : BitVec 16) (spanMs : Nat) : (s.dropped k cn0 spanMs).windows = s.windows := by
  unfold Dev.dropped
  simp only [↓windows_mk, length_modAt, windows_fold, ↓ite_windows, ite_self, ↓countTrack_windows]

theorem timeSet_windows (s : Dev) : s.timeSet.windows = s.windows := by
  unfold Dev.timeSet
  split <;> simp only [↓wrN_windows, ↓ev_windows, ↓windows_mk, windows_fold, ↓ite_windows, ite_self, ↓changeSource_windows,
    ↓firstSet_windows, ↓setTstate_windows, ↓shiftLocal_windows, ↓showClock_windows]

theorem holdover_windows (s : Dev) : s.holdover.windows = s.windows := by
  unfold Dev.holdover
  simp only [↓ev_windows, ↓windows_mk, windows_fold, ↓ite_windows, ite_self, ↓setTstate_windows]

theorem slewDone_windows (s : Dev) : s.slewDone.windows = s.windows := by
  unfold Dev.slewDone
  simp only [↓windows_mk, windows_fold, ↓ite_windows, ite_self, ↓showClock_windows, ↓slewEnd_windows]

theorem holdWarn_windows (s : Dev) : s.holdWarn.windows = s.windows := by
  unfold Dev.holdWarn
  simp only [↓ev_windows, ↓windows_mk, windows_fold, ↓ite_windows, ite_self]

theorem feFault_windows (s : Dev) (k gain : Nat) (atMax : Bool) : (s.feFault k gain atMax).windows = s.windows := by
  unfold Dev.feFault
  simp only [↓wrN_windows, ↓setBit_windows, ↓ev_windows, ↓ite_windows, ite_self]

theorem feClear_windows (s : Dev) (k gain : Nat) : (s.feClear k gain).windows = s.windows := by
  unfold Dev.feClear
  simp only [↓wrN_windows, ↓setBit_windows, ↓ev_windows, ↓ite_windows, ite_self]

theorem ppsOver_windows (s : Dev) : s.ppsOver.windows = s.windows := by
  unfold Dev.ppsOver
  dsimp only
  split <;> simp only [↓setBit_windows, ↓windows_mk, windows_fold]

theorem ppsEdge_windows (s : Dev) : s.ppsEdge.windows = s.windows := by
  unfold Dev.ppsEdge
  simp only [↓setBit_windows, ↓windows_mk, windows_fold, ↓ite_windows, ite_self, ↓ppsOver_windows]

theorem ppsEnd_windows (s : Dev) : s.ppsEnd.windows = s.windows := by
  unfold Dev.ppsEnd
  simp only [↓ite_windows, ite_self, ↓ppsOver_windows]

theorem ppsWrite_windows (s : Dev) (cfg dly : Word) (first : Bool) : (s.ppsWrite cfg dly first).windows = s.windows := by
  unfold Dev.ppsWrite
  simp only [↓setBit_windows, ↓windows_mk, windows_fold, ↓ite_windows, ite_self]

theorem sentences_windows (s : Dev) (u : Nat) (texts : List (List Byte)) : (s.sentences u texts).1.windows = s.windows := by
  unfold Dev.sentences
  dsimp only
  split <;> simp only [↓cntSat_windows, ↓windows_mk, windows_fold]

theorem leap_windows (s : Dev) : s.leap.windows = s.windows := by
  unfold Dev.leap
  simp only [↓setBit_windows, ↓ev_windows, ↓windows_mk, windows_fold, ↓ite_windows, ite_self]

theorem navData_windows (s : Dev) (ofs : Nat) (leapAt : Option Nat) : (s.navData ofs leapAt).windows = s.windows := (rfl)

theorem carrierLost_windows (s : Dev) (k : Nat) : (s.carrierLost k).windows = s.windows := by
  unfold Dev.carrierLost
  simp only [↓windows_mk, length_modAt, windows_fold]

theorem carrierGained_windows (s : Dev) (k : Nat) : (s.carrierGained k).windows = s.windows := by
  unfold Dev.carrierGained
  simp only [↓windows_mk, length_modAt, windows_fold]

/-! Acquisition. -/

theorem countChains_windows (s : Dev) : s.countChains.windows = s.windows := (rfl)

theorem chainStep_windows (s : Dev) (n : Nat) : (s.chainStep n).windows = s.windows := by
  unfold Dev.chainStep
  simp only [↓wrN_windows, ↓setFld_windows, ↓setBit_windows, ↓setChain_windows]

theorem showStuck_windows (s : Dev) (n : Nat) : (s.showStuck n).windows = s.windows := (rfl)

theorem coefCopy_windows (s : Dev) (n : Nat) : (s.coefCopy n).windows = s.windows := by
  unfold Dev.coefCopy
  simp (disch := (intros; simp only [↓wr_windows])) only [↓windows_mk, windows_fold, each_windows]

theorem chainBoundary_windows (s : Dev) (n : Nat) : (s.chainBoundary n).windows = s.windows := by
  unfold Dev.chainBoundary
  simp only [↓setFld_windows, ↓clrMask_windows, ↓setChain_windows, ↓ite_windows, ite_self, ↓chainStep_windows, ↓coefCopy_windows,
    ↓countChains_windows, ↓showStuck_windows]

theorem chainStart_windows (s : Dev) (n : Nat) : (s.chainStart n).windows = s.windows := by
  unfold Dev.chainStart
  simp only [↓setBit_windows, ↓setChain_windows, ↓chainStep_windows, ↓countChains_windows, ↓showStuck_windows]

theorem deliver_windows (s : Dev) (n : Nat) (y : Int) (stamp : Word) : (s.deliver n y stamp).windows = s.windows := by
  unfold Dev.deliver
  simp only [↓wr_windows, ↓setFld_windows, ↓setBit_windows, ↓cntSat_windows, ↓cntWrap_windows, ↓ev_windows, ↓setChain_windows,
    ↓ite_windows, ite_self]

theorem chainRecord_windows (s : Dev) (n : Nat) (bits : List Bool) (stamp : Word) (coefBad : Option Nat) :
    (s.chainRecord n bits stamp coefBad).windows = s.windows := by
  unfold Dev.chainRecord
  dsimp only
  repeat' split
  all_goals simp only [↓setBit_windows, ↓ev_windows, ↓setChain_windows, ↓chainBoundary_windows, ↓countChains_windows, ↓deliver_windows]

theorem sarFrame_windows (s : Dev) : s.sarFrame.windows = s.windows := by
  unfold Dev.sarFrame
  simp (disch := (intros; simp only [↓ite_windows, ite_self, ↓chainStep_windows])) only [↓windows_mk, windows_fold, each_windows]

theorem sarConversion_windows (s : Dev) (slot : Nat) (code : BitVec 16) : (s.sarConversion slot code).windows = s.windows := by
  unfold Dev.sarConversion
  simp (disch := (intros; simp only [↓setChain_windows, ↓ite_windows, ite_self])) only []
  repeat' split
  all_goals simp (disch := (intros; simp only [↓setChain_windows, ↓ite_windows, ite_self])) only [↓windows_mk, windows_fold,
    ↓sarFrame_windows, each_windows]

theorem calMove_windows (s : Dev) (z e : Rat) : (s.calMove z e).windows = s.windows := by
  unfold Dev.calMove
  simp (disch := (intros; simp only [↓setChain_windows, ↓ite_windows, ite_self])) only [↓setFld_windows, ↓setBit_windows, ↓ev_windows,
    ↓windows_mk, windows_fold, ↓ite_windows, ite_self, each_windows]

theorem calUpdate_windows (s : Dev) (z ideal : Rat) : (s.calUpdate z ideal).windows = s.windows := by
  unfold Dev.calUpdate
  simp only [↓ite_windows, ite_self, ↓calMove_windows]

theorem bitstreamStuck_windows (s : Dev) (st : Nat) : (s.bitstreamStuck st).windows = s.windows := by
  unfold Dev.bitstreamStuck
  simp (disch := (intros; simp only [↓setBit_windows, ↓ev_windows, ↓ite_windows, ite_self])) only [↓windows_mk, windows_fold,
    ↓ite_windows, ite_self, each_windows]

theorem stuckEnd_windows (s : Dev) (st : Nat) : (s.stuckEnd st).windows = s.windows := by
  unfold Dev.stuckEnd
  simp (disch := (intros; simp only [↓setBit_windows, ↓ite_windows, ite_self, ↓chainStep_windows])) only [↓windows_mk, windows_fold,
    ↓ite_windows, ite_self, each_windows]

theorem acqSide_windows (old s : Dev) (a : Nat) : (old.acqSide s a).windows = s.windows := by
  unfold Dev.acqSide
  simp only [↓setBit_windows, ↓setChain_windows, ↓windows_mk, length_setAt, windows_fold, ↓ite_windows, ite_self]

theorem acqWrite_windows (s : Dev) (a : Nat) (v : Word) : (s.acqWrite a v).windows = s.windows := by
  unfold Dev.acqWrite
  repeat' split
  all_goals simp only [↓setFld_windows, ↓ev_windows, ↓store_windows, ↓ite_windows, ite_self, ↓acqSide_windows]

theorem acqEnable_windows (s : Dev) (bit : Nat) (on : Bool) : (s.acqEnable bit on).windows = s.windows := by
  unfold Dev.acqEnable
  simp only [↓acqWrite_windows]

theorem coefApply_windows (s : Dev) (n : Nat) : (s.coefApply n).windows = s.windows := by
  unfold Dev.coefApply
  split <;> simp only [↓setBit_windows, ↓ev_windows, ↓windows_mk, windows_fold, ↓ite_windows, ite_self]

theorem coefDone_windows (s : Dev) : s.coefDone.windows = s.windows := by
  unfold Dev.coefDone
  split <;> simp only [↓setBit_windows, ↓ev_windows, ↓windows_mk, windows_fold, ↓ite_windows, ite_self, ↓coefCopy_windows]

theorem pulseEdge_windows (s : Dev) (p : Nat) (falling : Bool) (cycle held : Nat) :
    (s.pulseEdge p falling cycle held).windows = s.windows := by
  unfold Dev.pulseEdge
  split <;> simp only [↓windows_mk, length_modAt, windows_fold, ↓ite_windows, ite_self]

theorem pulseLatch_windows (s : Dev) (p : Nat) : (s.pulseLatch p).windows = s.windows := by
  unfold Dev.pulseLatch
  split <;> simp only [↓wrN_windows, ↓setBit_windows, ↓windows_mk, length_setAt, windows_fold]

theorem quadTransition_windows (s : Dev) (p : Nat) (qa qb : Bool) (heldA heldB : Nat) :
    (s.quadTransition p qa qb heldA heldB).windows = s.windows := by
  unfold Dev.quadTransition
  simp only [↓cntSat_windows, ↓evW_windows, ↓windows_mk, length_setAt, windows_fold, ↓ite_windows, ite_self]

theorem quadZero_windows (s : Dev) (p : Nat) : (s.quadZero p).windows = s.windows := by
  unfold Dev.quadZero
  split <;> simp only [↓ev_windows, ↓windows_mk, length_modAt, windows_fold]

theorem quadLatch_windows (s : Dev) (p : Nat) : (s.quadLatch p).windows = s.windows := by
  unfold Dev.quadLatch
  simp only [↓windows_mk, length_setAt]
  rfl

theorem chainLatch_windows (s : Dev) (n : Nat) : (s.chainLatch n).windows = s.windows := by
  unfold Dev.chainLatch
  simp only [↓setChain_windows, ↓ite_windows, ite_self, ↓chainStart_windows]

theorem acqP0_windows (s : Dev) : s.acqP0.windows = s.windows := by
  unfold Dev.acqP0
  extract_lets s1 s2 x2 s3 s4 s5
  have hsar : s1.windows = s.windows := by
    unfold s1
    split <;> rfl
  have hsd : s2.windows = s1.windows := by
    unfold s2
    split <;> rfl
  have happly : s3.windows = s2.windows := by
    unfold s3
    split <;> rfl
  have hchains : s4.windows = s3.windows := each_windows _ _ _ chainLatch_windows
  have hpulses : s5.windows = s4.windows := each_windows _ _ _ pulseLatch_windows
  exact (each_windows _ _ _ quadLatch_windows).trans (hpulses.trans (hchains.trans (happly.trans (hsd.trans hsar))))

theorem acqTemp_windows (s : Dev) (ts : List Int) : (s.acqTemp ts).windows = s.windows := by
  unfold Dev.acqTemp
  simp only [↓ev_windows, ↓windows_mk, windows_fold, ↓ite_windows, ite_self]

theorem acqReported_windows (s : Dev) : s.acqReported.windows = s.windows := by
  unfold Dev.acqReported
  simp only [↓windows_mk, List.length_map, windows_fold]

/-! CAN. -/

theorem setCanState_windows (s : Dev) (c n : Nat) : (s.setCanState c n).windows = s.windows := by
  unfold Dev.setCanState
  simp only [↓setFld_windows, ↓raise_windows, ↓ite_windows, ite_self]

theorem setErrs_windows (s : Dev) (c tec rec' : Nat) : (s.setErrs c tec rec').windows = s.windows := by
  unfold Dev.setErrs
  simp only [↓setFld_windows, ↓setCanc_windows]

theorem showTx_windows (s : Dev) (c : Nat) : (s.showTx c).windows = s.windows := by
  unfold Dev.showTx
  simp (disch := (intros; simp only [↓setBit_windows])) only [↓wrN_windows, ↓setFld_windows, each_windows]

theorem ledger_windows (s : Dev) (c inn out drop : Nat) : (s.ledger c inn out drop).windows = s.windows := (rfl)

theorem showRxf_windows (s : Dev) (c : Nat) : (s.showRxf c).windows = s.windows := (rfl)

theorem showHp_windows (s : Dev) (c : Nat) : (s.showHp c).windows = s.windows := by
  unfold Dev.showHp
  split <;> simp (disch := (intros; simp only [↓wr_windows])) only [↓wr_windows, ↓wrN_windows, each_windows]

theorem refill_windows (s : Dev) (c : Nat) : (s.refill c).windows = s.windows := by
  unfold Dev.refill
  simp only [↓setCanc_windows]

theorem hostFrameEnd_windows (s : Dev) (t : CanTx) (detail : Nat) : (s.hostFrameEnd t detail).windows = s.windows := by
  unfold Dev.hostFrameEnd
  split <;> simp only [↓complete_windows]

theorem canFlush_windows (s : Dev) (c : Nat) : (s.canFlush c).windows = s.windows := by
  unfold Dev.canFlush
  simp (disch := (intros; simp only [↓hostFrameEnd_windows])) only [↓setCanc_windows, ↓ledger_windows, ↓showTx_windows, each_windows]

theorem startRecovery_windows (s : Dev) (c : Nat) : (s.startRecovery c).windows = s.windows := by
  unfold Dev.startRecovery
  simp only [↓setBit_windows, ↓raise_windows, ↓ite_windows, ite_self]

theorem busOff_windows (s : Dev) (c : Nat) : (s.busOff c).windows = s.windows := by
  unfold Dev.busOff
  simp only [↓cntSat_windows, ↓ev_windows, ↓ite_windows, ite_self, ↓canFlush_windows, ↓setCanState_windows, ↓startRecovery_windows]

theorem checkErrs_windows (s : Dev) (c : Nat) : (s.checkErrs c).windows = s.windows := by
  unfold Dev.checkErrs
  simp only [↓ev_windows, ↓ite_windows, ite_self, ↓busOff_windows, ↓setCanState_windows]

theorem leaveInit_windows (s : Dev) (c : Nat) : (s.leaveInit c).windows = s.windows := by
  unfold Dev.leaveInit
  dsimp only
  split <;> simp only [↓setBit_windows, ↓ev_windows, ↓setCanc_windows, ↓setCanState_windows, ↓setErrs_windows]

theorem enterInit_windows (s : Dev) (c : Nat) : (s.enterInit c).windows = s.windows := by
  unfold Dev.enterInit
  simp only [↓setBit_windows, ↓setCanc_windows, ↓setCanState_windows, ↓setErrs_windows, ↓showTx_windows]

theorem canRecover_windows (s : Dev) (c : Nat) : (s.canRecover c).windows = s.windows := by
  unfold Dev.canRecover
  simp only [↓startRecovery_windows]

theorem canCtrl_windows (s : Dev) (c : Nat) (v : Word) : (s.canCtrl c v).windows = s.windows := by
  unfold Dev.canCtrl
  simp only [↓ev_windows, ↓store_windows, ↓ite_windows, ite_self, ↓canRecover_windows, ↓enterInit_windows, ↓leaveInit_windows,
    ↓startRecovery_windows]

theorem autostart_windows (s : Dev) (c : Nat) : (s.autostart c).windows = s.windows := by
  unfold Dev.autostart
  simp only [↓setCanc_windows, ↓ite_windows, ite_self, ↓leaveInit_windows]

theorem tb2Put_windows (s : Dev) (c : Nat) (t : CanTx) : (s.tb2Put c t).windows = s.windows := by
  unfold Dev.tb2Put
  simp (disch := (intros; simp only [↓hostFrameEnd_windows])) only []
  split <;> simp (disch := (intros; simp only [↓hostFrameEnd_windows])) only [↓setCanc_windows, ↓ite_windows, ite_self,
    ↓hostFrameEnd_windows, ↓ledger_windows, ↓showTx_windows, each_windows]

theorem tb2Request_windows (s : Dev) (c dlc : Nat) : (s.tb2Request c dlc).windows = s.windows := by
  unfold Dev.tb2Request
  simp only [↓tb2Put_windows]

theorem tb2Cancel_windows (s : Dev) (c : Nat) : (s.tb2Cancel c).windows = s.windows := by
  unfold Dev.tb2Cancel
  split <;> simp (disch := (intros; simp only [↓hostFrameEnd_windows])) only [↓setCanc_windows, ↓ite_windows, ite_self,
    ↓hostFrameEnd_windows, ↓ledger_windows, ↓showTx_windows, each_windows]

theorem tb2Ctl_windows (s : Dev) (c : Nat) (v : Word) : (s.tb2Ctl c v).windows = s.windows := by
  unfold Dev.tb2Ctl
  simp only [↓ite_windows, ite_self, ↓tb2Cancel_windows, ↓tb2Request_windows]

theorem arbWon_windows (s : Dev) (c b : Nat) (late : List Nat) : (s.arbWon c b late).windows = s.windows := by
  unfold Dev.arbWon
  simp only [↓setCanc_windows, ↓ite_windows, ite_self, ↓showTx_windows]

theorem arbLost_windows (s : Dev) (c b : Nat) : (s.arbLost c b).windows = s.windows := by
  unfold Dev.arbLost
  simp only [↓setCanc_windows]

theorem frameSent_windows (s : Dev) (c b : Nat) (sofNs : Nat) (delay : Byte) : (s.frameSent c b sofNs delay).windows = s.windows := by
  unfold Dev.frameSent
  split <;> simp only [↓wrN_windows, ↓setBit_windows, ↓ev_windows, ↓setCanc_windows, ↓ite_windows, ite_self, ↓checkErrs_windows,
    ↓hostFrameEnd_windows, ↓ledger_windows, ↓refill_windows, ↓setErrs_windows, ↓showTx_windows]

theorem takeFields_windows (s : Dev) (c : Nat) (f : CanFrame) : (s.takeFields c f).windows = s.windows := by
  unfold Dev.takeFields
  simp (disch := (intros; (repeat' split) <;> simp only [↓windows_mk, length_modAt, windows_fold])) only [↓ite_windows, ite_self,
    each_windows]

theorem hpTake_windows (s : Dev) (c : Nat) (r : CanRx) : (s.hpTake c r).windows = s.windows := by
  unfold Dev.hpTake
  simp only [↓setBit_windows, ↓raise_windows, ↓ev_windows, ↓setCanc_windows, ↓ite_windows, ite_self, ↓showHp_windows]

theorem fifoTake_windows (s : Dev) (c : Nat) (r : CanRx) : (s.fifoTake c r).windows = s.windows := by
  unfold Dev.fifoTake
  simp only [↓cntSat_windows, ↓raise_windows, ↓ev_windows, ↓setCanc_windows, ↓ite_windows, ite_self, ↓showRxf_windows]

theorem frameReceived_windows (s : Dev) (c : Nat) (f : CanFrame) (res : Bool) (stamp : Word) :
    (s.frameReceived c f res stamp).windows = s.windows := by
  unfold Dev.frameReceived
  dsimp only
  repeat' split
  all_goals simp only [↓ev_windows, ↓spend_windows, ↓setCanc_windows, ↓checkErrs_windows, ↓fifoTake_windows, ↓hpTake_windows,
    ↓setErrs_windows, ↓takeFields_windows]

theorem hpRelease_windows (s : Dev) (c : Nat) : (s.hpRelease c).windows = s.windows := (rfl)

theorem fifoPop_windows (s : Dev) (c : Nat) : (s.fifoPop c).windows = s.windows := by
  unfold Dev.fifoPop
  simp only [↓setCanc_windows, ↓ite_windows, ite_self, ↓showRxf_windows]

theorem replaced_windows (s : Dev) (c i : Nat) : (s.replaced c i).windows = s.windows := by
  unfold Dev.replaced
  simp only [↓cntSat_windows, ↓ev_windows, ↓ite_windows, ite_self]

theorem honour_windows (s : Dev) (c : Nat) : (s.honour c).windows = s.windows := by
  unfold Dev.honour
  dsimp only
  repeat' split
  all_goals simp only [↓setCanc_windows, ↓hostFrameEnd_windows, ↓ledger_windows, ↓replaced_windows, ↓showTx_windows]

theorem canError_windows (s : Dev) (c : Nat) (k : CanErrKind) (conflict : Bool) : (s.canError c k conflict).windows = s.windows := by
  unfold Dev.canError
  dsimp only
  repeat' split
  all_goals simp only [↓cntSat_windows, ↓ev_windows, ↓checkErrs_windows, ↓honour_windows, ↓setErrs_windows]

theorem recoveryDone_windows (s : Dev) (c : Nat) : (s.recoveryDone c).windows = s.windows := by
  unfold Dev.recoveryDone
  simp only [↓setBit_windows, ↓ev_windows, ↓ite_windows, ite_self, ↓setCanState_windows, ↓setErrs_windows]

theorem skipFrame_windows (s : Dev) (c i : Nat) : (s.skipFrame c i).windows = s.windows := by
  unfold Dev.skipFrame
  simp only [↓ev_windows, ↓windows_mk, windows_fold, ↓ite_windows, ite_self]

theorem unskip_windows (s : Dev) (c i : Nat) : (s.unskip c i).windows = s.windows := (rfl)

theorem enqueue_windows (s : Dev) (c : Nat) (t : CanTx) : (s.enqueue c t).windows = s.windows := by
  unfold Dev.enqueue
  dsimp only
  repeat' split
  all_goals simp only [↓setCanc_windows, ↓ledger_windows, ↓refill_windows, ↓replaced_windows, ↓showTx_windows, ↓unskip_windows]

theorem streamDue_windows (s : Dev) (i : Nat) : (s.streamDue i).windows = s.windows := by
  unfold Dev.streamDue
  simp only [↓setFld_windows, ↓cntSat_windows, ↓ite_windows, ite_self, ↓enqueue_windows, ↓skipFrame_windows]

theorem streamsP3_windows (s : Dev) (n : Nat) : (s.streamsP3 n).windows = s.windows := by
  unfold Dev.streamsP3
  simp (disch := (intros; simp only [↓streamDue_windows])) only [↓ite_windows, ite_self, each_windows]

theorem trefLoad_windows (s : Dev) (c : Nat) : (s.trefLoad c).windows = s.windows := by
  unfold Dev.trefLoad
  dsimp only
  repeat' split
  all_goals simp only [↓setCanc_windows, ↓ledger_windows, ↓showTx_windows, ↓skipFrame_windows, ↓unskip_windows]

theorem trefP3_windows (s : Dev) : s.trefP3.windows = s.windows := by
  unfold Dev.trefP3
  simp (disch := (intros; simp only [↓trefLoad_windows])) only [each_windows]

theorem canP0_windows (s : Dev) : s.canP0.windows = s.windows := by
  refine each_windows _ _ _ fun d k => ?_
  dsimp only
  split
  · split <;> simp only [↓windows_mk, length_setAt] <;> rfl
  · split
    · rfl
    · simp only [↓windows_mk, length_setAt, windows_fold]

theorem canWrite_windows (s : Dev) (a : Nat) (v : Word) : (s.canWrite a v).windows = s.windows := by
  unfold Dev.canWrite
  simp only [↓ev_windows, ↓store_windows, ↓ite_windows, ite_self, ↓canCtrl_windows, ↓fifoPop_windows, ↓hpRelease_windows, ↓tb2Ctl_windows]

end Sys2Proof.Machine
end

section
/-! O5, continued: operations that keep the number of windows. -/

namespace Sys2Proof.Machine

/-! Ring ports and network time. -/

theorem setPort_windows (s : Dev) (b : Bool) (f : NetPort → NetPort) : (s.setPort b f).windows = s.windows := by
  unfold Dev.setPort
  simp only [↓windows_mk, windows_fold, ↓ite_windows, ite_self]

theorem rateFallback_windows (s : Dev) (b : Bool) : (s.rateFallback b).windows = s.windows := by
  unfold Dev.rateFallback
  simp only [↓ite_windows, ite_self, ↓setPort_windows]

theorem portUp_windows (s : Dev) (b gig1 : Bool) : (s.portUp b gig1).windows = s.windows := by
  unfold Dev.portUp
  simp only [↓setBit_windows, ↓raise_windows, ↓ev_windows, ↓ite_windows, ite_self]

theorem portDown_windows (s : Dev) (b : Bool) : (s.portDown b).windows = s.windows := by
  unfold Dev.portDown
  simp only [↓setBit_windows, ↓raise_windows, ↓ev_windows, ↓ite_windows, ite_self, ↓setPort_windows]

theorem deliverNet_windows (s : Dev) (f : NetFrame) : (s.deliverNet f).windows = s.windows := by
  unfold Dev.deliverNet
  simp only [↓cntSat_windows, ↓ite_windows, ite_self]

theorem rxErr_windows (s : Dev) (b : Bool) : (s.rxErr b).windows = s.windows := by
  unfold Dev.rxErr
  simp only [↓cntSat_windows, ↓ite_windows, ite_self]

theorem dupAdd_windows (s : Dev) (delivery : Bool) (e : DupEntry) : (s.dupAdd delivery e).windows = s.windows := by
  unfold Dev.dupAdd
  simp only [↓cntSat_windows, ↓evW_windows, ↓windows_mk, windows_fold, ↓ite_windows, ite_self]

theorem egressPut_windows (s : Dev) (b : Bool) (t : NetTx) : (s.egressPut b t).windows = s.windows := by
  unfold Dev.egressPut
  simp only [↓cntSat_windows, ↓evW_windows, ↓ite_windows, ite_self, ↓setPort_windows]

theorem supReturn_windows (s : Dev) (b : Bool) : (s.supReturn b).windows = s.windows := by
  unfold Dev.supReturn
  simp only [↓setBit_windows, ↓ev_windows, ↓ite_windows, ite_self, ↓setPort_windows]

theorem forward_windows (s : Dev) (b : Bool) (f : NetFrame) (good : Bool) : (s.forward b f good).windows = s.windows := by
  unfold Dev.forward
  simp only [↓cntWrap_windows, ↓ite_windows, ite_self, ↓dupAdd_windows, ↓egressPut_windows]

theorem hsrFrame_windows (s : Dev) (b : Bool) (f : NetFrame) : (s.hsrFrame b f).windows = s.windows := by
  unfold Dev.hsrFrame
  simp only [↓cntWrap_windows, ↓ite_windows, ite_self, ↓deliverNet_windows, ↓dupAdd_windows, ↓forward_windows, ↓rxErr_windows,
    ↓supReturn_windows]

theorem ringFrame_windows (s : Dev) (b : Bool) (f : NetFrame) : (s.ringFrame b f).windows = s.windows := by
  unfold Dev.ringFrame
  simp only [↓ite_windows, ite_self, ↓deliverNet_windows, ↓hsrFrame_windows, ↓rxErr_windows]

theorem prpFrame_windows (s : Dev) (b : Bool) (f : NetFrame) : (s.prpFrame b f).windows = s.windows := by
  unfold Dev.prpFrame
  simp only [↓cntSat_windows, ↓cntWrap_windows, ↓evW_windows, ↓ite_windows, ite_self, ↓deliverNet_windows, ↓dupAdd_windows,
    ↓rxErr_windows]

theorem dupExpire_windows (s : Dev) (delivery : Bool) (src : BitVec 48) (sq : BitVec 16) (b : Bool) :
    (s.dupExpire delivery src sq b).windows = s.windows := by
  unfold Dev.dupExpire
  simp only [↓windows_mk, windows_fold, ↓ite_windows, ite_self]

theorem egress_windows (s : Dev) (b : Bool) (residence : Rat) : (s.egress b residence).windows = s.windows := by
  unfold Dev.egress
  repeat' split
  all_goals simp only [↓cntWrap_windows, ↓spend_windows, ↓ite_windows, ite_self, ↓setPort_windows]

theorem originate_windows (s : Dev) (dst : BitVec 48) (etype : BitVec 16) (ctrl : Bool) (udp : Nat) (ip : Word) (payload : List Byte) :
    (s.originate dst etype ctrl udp ip payload).windows = s.windows := by
  unfold Dev.originate
  simp only [↓windows_mk, windows_fold, ↓egressPut_windows]

theorem sendUdp_windows (s : Dev) (port : Nat) (payload : List Byte) : (s.sendUdp port payload).windows = s.windows := by
  unfold Dev.sendUdp
  simp only [↓originate_windows]

theorem sendBrf_windows (s : Dev) (kind : Nat) (fields : List Byte) : (s.sendBrf kind fields).windows = s.windows := by
  unfold Dev.sendBrf
  simp only [↓ite_windows, ite_self, ↓originate_windows]

theorem supervision_windows (s : Dev) : s.supervision.windows = s.windows := by
  unfold Dev.supervision
  simp only [↓ite_windows, ite_self, ↓originate_windows]

theorem ringOpen_windows (s : Dev) : s.ringOpen.windows = s.windows := by
  unfold Dev.ringOpen
  simp only [↓setBit_windows, ↓ev_windows, ↓ite_windows, ite_self]

theorem retrain_windows (s : Dev) : s.retrain.windows = s.windows := by
  unfold Dev.retrain
  simp only [↓windows_mk, windows_fold, ↓portDown_windows]

theorem netWrite_windows (s : Dev) (a : Nat) (v : Word) : (s.netWrite a v).windows = s.windows := by
  unfold Dev.netWrite
  simp only [↓ev_windows, ↓store_windows, ↓windows_mk, windows_fold, ↓ite_windows, ite_self]

theorem showGm_windows (s : Dev) : s.showGm.windows = s.windows := by
  unfold Dev.showGm
  split <;> simp only [↓wrN_windows, ↓ev_windows, ↓ite_windows, ite_self]

theorem showSlave_windows (s : Dev) : s.showSlave.windows = s.windows := (rfl)

theorem announce_windows (s : Dev) (b : Bool) (a : AnnounceIn) : (s.announce b a).windows = s.windows := by
  unfold Dev.announce
  simp only [↓setBit_windows, ↓windows_mk, windows_fold, ↓ite_windows, ite_self, ↓setPort_windows, ↓showGm_windows, ↓showSlave_windows,
    ↓showTime_windows]

theorem sync_windows (s : Dev) (b : Bool) (m : SyncIn) : (s.sync b m).windows = s.windows := by
  unfold Dev.sync
  simp only [↓wr_windows, ↓setBit_windows, ↓raise_windows, ↓windows_mk, windows_fold, ↓ite_windows, ite_self, ↓changeSource_windows,
    ↓discipline_windows, ↓firstSet_windows, ↓returnRule_windows, ↓shiftLocal_windows, ↓showTime_windows]

theorem syncTimeout_windows (s : Dev) : s.syncTimeout.windows = s.windows := by
  unfold Dev.syncTimeout
  simp only [↓setBit_windows, ↓raise_windows, ↓evI_windows, ↓windows_mk, windows_fold, ↓ite_windows, ite_self, ↓setPort_windows,
    ↓showSlave_windows]

theorem ptpBound_windows (s : Dev) : s.ptpBound.windows = s.windows := by
  unfold Dev.ptpBound
  split <;> simp only [↓wrN_windows]

theorem pdelaySend_windows (s : Dev) (b : Bool) (typ : Nat) : (s.pdelaySend b typ).windows = s.windows := by
  unfold Dev.pdelaySend
  simp only [↓windows_mk, windows_fold, ↓ite_windows, ite_self, ↓egressPut_windows]

theorem pdelayReq_windows (s : Dev) (b : Bool) : (s.pdelayReq b).windows = s.windows := by
  unfold Dev.pdelayReq
  simp only [↓pdelaySend_windows]

theorem pdelay_windows (s : Dev) (b : Bool) (m : PdelayIn) : (s.pdelay b m).windows = s.windows := by
  unfold Dev.pdelay
  split <;> simp only [↓wrN_windows, ↓ite_windows, ite_self, ↓pdelaySend_windows, ↓setPort_windows]

theorem syncSend_windows (s : Dev) : s.syncSend.windows = s.windows := by
  unfold Dev.syncSend
  simp only [↓windows_mk, windows_fold, ↓ite_windows, ite_self, ↓originate_windows]

theorem announceSend_windows (s : Dev) : s.announceSend.windows = s.windows := by
  unfold Dev.announceSend
  simp only [↓windows_mk, windows_fold, ↓ite_windows, ite_self, ↓originate_windows]

theorem s450_windows (s : Dev) (ip : Word) (bytes : List Byte) : (s.s450 ip bytes).windows = s.windows := by
  unfold Dev.s450
  simp only [↓ite_windows, ite_self, ↓reportRouted_windows]

theorem tnow_windows (s : Dev) : s.tnow.windows = s.windows := (rfl)

theorem showEvt_windows (s : Dev) : s.showEvt.windows = s.windows := (rfl)

theorem evtIn_windows (s : Dev) (falling : Bool) (edgeNs held : Nat) : (s.evtIn falling edgeNs held).windows = s.windows := by
  unfold Dev.evtIn
  simp only [↓cntSat_windows, ↓raise_windows, ↓ev_windows, ↓windows_mk, windows_fold, ↓ite_windows, ite_self, ↓showEvt_windows]

theorem evtPop_windows (s : Dev) : s.evtPop.windows = s.windows := by
  unfold Dev.evtPop
  simp only [↓windows_mk, windows_fold, ↓ite_windows, ite_self, ↓showEvt_windows]

theorem alarmGo_windows (s : Dev) (a : Nat) (late stepped : Bool) : (s.alarmGo a late stepped).windows = s.windows := by
  unfold Dev.alarmGo
  simp only [↓setBit_windows, ↓raise_windows, ↓ev_windows, ↓ite_windows, ite_self]

theorem alarmArm_windows (s : Dev) (a : Nat) (v : Word) : (s.alarmArm a v).windows = s.windows := by
  unfold Dev.alarmArm
  simp only [↓clrMask_windows, ↓spend_windows, ↓store_windows, ↓ite_windows, ite_self, ↓alarmGo_windows]

theorem alarmFire_windows (s : Dev) (a : Nat) : (s.alarmFire a).windows = s.windows := by
  unfold Dev.alarmFire
  simp only [↓ite_windows, ite_self, ↓alarmGo_windows]

theorem timeStep_windows (s : Dev) : s.timeStep.windows = s.windows := by
  unfold Dev.timeStep
  split <;> simp (disch := (intros; simp only [↓ite_windows, ite_self, ↓alarmGo_windows])) only [↓evI_windows, ↓windows_mk, windows_fold,
    ↓shiftLocal_windows, each_windows]

theorem latchTime_windows (s : Dev) : s.latchTime.windows = s.windows := by
  unfold Dev.latchTime
  simp only [↓windows_mk, windows_fold, ↓ite_windows, ite_self]

theorem netBoundary_windows (s : Dev) : s.netBoundary.windows = s.windows := by
  unfold Dev.netBoundary
  simp only [↓windows_mk, windows_fold, ↓ite_windows, ite_self, ↓latchTime_windows, ↓ptpBound_windows, ↓retrain_windows, ↓showGm_windows,
    ↓showSlave_windows, ↓showTime_windows]

/-! Safety logic. -/

theorem causeEvents_windows (s : Dev) (cs : List (Nat × Nat × Nat)) : (s.causeEvents cs).windows = s.windows := by
  unfold Dev.causeEvents
  simp (disch := (intros; simp only [↓ev_windows])) only [each_windows]

theorem showInputs_windows (s : Dev) : s.showInputs.windows = s.windows := by
  unfold Dev.showInputs
  simp only [↓wrN_windows]

theorem showResetLow_windows (s : Dev) (low : Option Bool) : (s.showResetLow low).windows = s.windows := by
  unfold Dev.showResetLow
  split <;> simp only [↓setBit_windows]

/-! Standing. -/

theorem setHolds_windows (s : Dev) (h : Bool) : (s.setHolds h).windows = s.windows := by
  unfold Dev.setHolds
  simp only [↓setBit_windows, ↓raise_windows, ↓windows_mk, windows_fold, ↓ite_windows, ite_self]

theorem selfRule_windows (s : Dev) : s.selfRule.windows = s.windows := by
  unfold Dev.selfRule
  simp only [↓windows_mk, windows_fold, ↓setHolds_windows]

theorem heartbeat_windows (s : Dev) (p : List Byte) : (s.heartbeat p).windows = s.windows := by
  unfold Dev.heartbeat
  repeat' split
  all_goals simp only [↓windows_mk, windows_fold]

theorem countPeer_windows (s : Dev) (r : Nat) (hb : Option Word) : (s.countPeer r hb).windows = s.windows := by
  unfold Dev.countPeer
  repeat' split
  all_goals simp only [↓wr_windows, ↓setFld_windows, ↓cntSat_windows]

theorem transfer_windows (s : Dev) (second : Bool) (reason : Nat) : (s.transfer second reason).windows = s.windows := (rfl)

theorem showSwapLeft_windows (s : Dev) : s.showSwapLeft.windows = s.windows := by
  unfold Dev.showSwapLeft
  simp only [↓wrN_windows, ↓ite_windows, ite_self]

theorem wardenDecision_windows (s : Dev) : s.wardenDecision.windows = s.windows := by
  unfold Dev.wardenDecision
  split <;> simp only [↓ev_windows, ↓windows_mk, windows_fold, ↓ite_windows, ite_self, ↓transfer_windows]

theorem standTick2_windows (s : Dev) : s.standTick2.windows = s.windows := by
  unfold Dev.standTick2
  simp only [↓wrN_windows, ↓setFld_windows, ↓cntSat_windows, ↓windows_mk, windows_fold, ↓ite_windows, ite_self, ↓countPeer_windows,
    ↓selfRule_windows, ↓showSwapLeft_windows, ↓wardenDecision_windows]

theorem standingFrame_windows (s : Dev) (p : List Byte) : (s.standingFrame p).windows = s.windows := by
  unfold Dev.standingFrame
  simp only [↓windows_mk, windows_fold, ↓ite_windows, ite_self]

theorem takeFrame_windows (s : Dev) : s.takeFrame.windows = s.windows := by
  unfold Dev.takeFrame
  split <;> simp only [↓wrN_windows, ↓setFld_windows, ↓setBit_windows, ↓ev_windows, ↓windows_mk, windows_fold, ↓ite_windows, ite_self]

theorem applyFrame_windows (s : Dev) : s.applyFrame.windows = s.windows := by
  unfold Dev.applyFrame
  split <;> simp only [↓setFld_windows, ↓setBit_windows, ↓raise_windows, ↓windows_mk, windows_fold, ↓ite_windows, ite_self,
    ↓setHolds_windows]

theorem wardenGone_windows (s : Dev) : s.wardenGone.windows = s.windows := by
  unfold Dev.wardenGone
  simp only [↓wrN_windows, ↓setBit_windows, ↓ev_windows, ↓ite_windows, ite_self, ↓selfRule_windows]

theorem peerAbsent_windows (s : Dev) (_second : Bool) : (s.peerAbsent _second).windows = s.windows := (rfl)

theorem standingCan_windows (s : Dev) : s.standingCan.windows = s.windows := by
  unfold Dev.standingCan
  simp (disch := (intros; simp only [↓ite_windows, ite_self, ↓enqueue_windows, ↓skipFrame_windows])) only [↓ite_windows, ite_self,
    each_windows]

theorem standSend_windows (s : Dev) : s.standSend.windows = s.windows := by
  unfold Dev.standSend
  simp only [↓cntWrap_windows, ↓ite_windows, ite_self, ↓sendBrf_windows, ↓standingCan_windows]

theorem standTick78_windows (s : Dev) : s.standTick78.windows = s.windows := by
  unfold Dev.standTick78
  simp (disch := (intros; simp only [↓sendBrf_windows])) only [↓windows_mk, windows_fold, ↓ite_windows, ite_self, each_windows]

theorem setPart_windows (s : Dev) (p : List Byte) : (s.setPart p).windows = s.windows := by
  unfold Dev.setPart
  simp only [↓windows_mk, windows_fold, ↓ite_windows, ite_self]

theorem loadThr_windows (s : Dev) (e : List Byte) : (s.loadThr e).windows = s.windows := by
  unfold Dev.loadThr
  simp only [↓setBit_windows, ↓windows_mk, windows_fold, ↓ite_windows, ite_self]

theorem divergence_windows (s : Dev) (es : List (List Byte)) : (s.divergence es).windows = s.windows := by
  unfold Dev.divergence
  dsimp only
  repeat' split
  all_goals simp only [↓setBit_windows, ↓ev_windows, ↓windows_mk, windows_fold]

theorem loadSet_windows (s : Dev) (set : Nat) (ps : List SetPart) : (s.loadSet set ps).windows = s.windows := by
  unfold Dev.loadSet
  simp (disch := (intros; simp only [↓setGen_windows, ↓loadThr_windows])) only [↓setBit_windows, ↓cntWrap_windows, ↓windows_mk,
    windows_fold, ↓divergence_windows, each_windows]

theorem standTick79_windows (s : Dev) : s.standTick79.windows = s.windows := by
  unfold Dev.standTick79
  simp (disch := (intros; simp only [↓cntSat_windows, ↓ev_windows])) only []
  repeat' split
  all_goals simp (disch := (intros; simp only [↓cntSat_windows, ↓ev_windows])) only [↓windows_mk, windows_fold, ↓loadSet_windows,
    each_windows]

theorem loadCtxs_windows (s : Dev) : s.loadCtxs.windows = s.windows := by
  unfold Dev.loadCtxs
  simp (disch := (intros; simp only [↓wr_windows, ↓setLctx_windows, ↓ite_windows, ite_self])) only [↓windows_mk, windows_fold,
    each_windows]

theorem trackGone_windows (s : Dev) : s.trackGone.windows = s.windows := by
  unfold Dev.trackGone
  simp only [↓setBit_windows, ↓ev_windows, ↓ite_windows, ite_self]

theorem swapFalls_windows (s : Dev) : s.swapFalls.windows = s.windows := by
  unfold Dev.swapFalls
  simp only [↓windows_mk, windows_fold, ↓ite_windows, ite_self]

theorem swapCommand_windows (s : Dev) : s.swapCommand.windows = s.windows := by
  unfold Dev.swapCommand
  simp only [↓ev_windows, ↓windows_mk, windows_fold, ↓ite_windows, ite_self, ↓sessUse_windows]

theorem standP0_windows (s : Dev) (n : Nat) : (s.standP0 n).windows = s.windows := by
  unfold Dev.standP0
  simp only [↓ite_windows, ite_self, ↓standTick2_windows, ↓standTick79_windows]

theorem standStart_windows (s : Dev) (role : Option Nat) (unit : Nat) : (s.standStart role unit).windows = s.windows := (rfl)

/-! Thicket. -/

theorem showPts_windows (s : Dev) : s.showPts.windows = s.windows := by
  unfold Dev.showPts
  simp only [↓setFld_windows, ↓setBit_windows, ↓windows_mk, windows_fold, ↓ite_windows, ite_self]

theorem setPt_windows (s : Dev) (x : ThktPt) : (s.setPt x).windows = s.windows := by
  unfold Dev.setPt
  simp only [↓windows_mk, windows_fold, ↓showPts_windows]

theorem freePoint_windows (s : Dev) (n : Nat) : (s.freePoint n).windows = s.windows := by
  unfold Dev.freePoint
  simp only [↓windows_mk, windows_fold, ↓showPts_windows]

theorem showQueue_windows (s : Dev) : s.showQueue.windows = s.windows := (rfl)

theorem thktPosition_windows (s : Dev) : s.thktPosition.windows = s.windows := (rfl)

theorem formRecord_windows (s : Dev) (r : RecIn) : (s.formRecord r).windows = s.windows := by
  unfold Dev.formRecord
  simp only [↓wrN_windows, ↓cntWrap_windows, ↓ev_windows, ↓windows_mk, windows_fold, ↓ite_windows, ite_self, ↓showQueue_windows]

theorem refuseEntry_windows (s : Dev) (gw code : Nat) : (s.refuseEntry gw code).windows = s.windows := (rfl)

theorem tableFull_windows (s : Dev) : s.tableFull.windows = s.windows := by
  unfold Dev.tableFull
  simp only [↓setBit_windows, ↓raise_windows, ↓ev_windows, ↓windows_mk, windows_fold, ↓ite_windows, ite_self]

theorem collect_windows (s : Dev) (kind gw old new : Nat) (x : ThktPt) (ns : Option Int) :
    (s.collect kind gw old new x ns).windows = s.windows := (rfl)

theorem applyEntryThkt_windows (s : Dev) (gw : Nat) (arrival : Int) (e : List Byte) :
    (s.applyEntryThkt gw arrival e).windows = s.windows := by
  unfold Dev.applyEntryThkt
  dsimp only
  repeat' split
  all_goals simp only [↓collect_windows, ↓formRecord_windows, ↓refuseEntry_windows, ↓setPt_windows, ↓tableFull_windows]

theorem thktFrame_windows (s : Dev) (ip : Word) (b : List Byte) (arrival : Int) (queued : Nat) :
    (s.thktFrame ip b arrival queued).windows = s.windows := by
  unfold Dev.thktFrame
  simp (disch := (intros; simp only [↓applyEntryThkt_windows])) only []
  repeat' split
  all_goals simp (disch := (intros; simp only [↓applyEntryThkt_windows])) only [↓wrN_windows, ↓setFld_windows, ↓setBit_windows,
    ↓cntWrap_windows, ↓ev_windows, ↓windows_mk, windows_fold, each_windows]

theorem silenceOf_windows (s : Dev) (now : Int) (gh : Nat × Int) : (s.silenceOf now gh).windows = s.windows := by
  unfold Dev.silenceOf
  simp (disch := (intros; simp only [↓collect_windows, ↓setPt_windows])) only [↓setBit_windows, ↓raise_windows, ↓ev_windows,
    ↓ite_windows, ite_self, each_windows]

theorem silence_windows (s : Dev) (now : Int) : (s.silence now).windows = s.windows := by
  unfold Dev.silence
  simp (disch := (intros; simp only [↓silenceOf_windows])) only [each_windows]

theorem gatewayGone_windows (s : Dev) (g : Nat) : (s.gatewayGone g).windows = s.windows := by
  unfold Dev.gatewayGone
  simp (disch := (intros; simp only [↓silenceOf_windows])) only [each_windows]

theorem takeRelease_windows (s : Dev) (now : Int) (n : Nat) : (s.takeRelease now n).windows = s.windows := by
  unfold Dev.takeRelease
  split <;> simp only [↓wrN_windows, ↓ev_windows, ↓ite_windows, ite_self, ↓formRecord_windows, ↓freePoint_windows, ↓refuseEntry_windows]

theorem takeReleases_windows (s : Dev) (now : Int) : (s.takeReleases now).windows = s.windows := by
  unfold Dev.takeReleases
  simp (disch := (intros; simp only [↓takeRelease_windows])) only [↓windows_mk, windows_fold, each_windows]

theorem takeCorrupt_windows (s : Dev) (now : Int) : (s.takeCorrupt now).windows = s.windows := by
  unfold Dev.takeCorrupt
  simp (disch := (intros; simp only [↓windows_mk, windows_fold, ↓ite_windows, ite_self, ↓formRecord_windows])) only [↓windows_mk,
    windows_fold, each_windows]

theorem formGroup_windows (s : Dev) (now : Int) (xs : List ThktItem) : (s.formGroup now xs).windows = s.windows := by
  unfold Dev.formGroup
  dsimp only
  split <;> simp only [↓windows_mk, windows_fold, ↓ite_windows, ite_self, ↓formRecord_windows]

theorem formSingle_windows (s : Dev) (now : Int) (x : ThktItem) : (s.formSingle now x).windows = s.windows := by
  unfold Dev.formSingle
  simp only [↓windows_mk, windows_fold, ↓ite_windows, ite_self, ↓formRecord_windows]

theorem closeRecords_windows (s : Dev) (now : Int) : (s.closeRecords now).windows = s.windows := by
  unfold Dev.closeRecords
  simp (disch := (intros; simp only [↓formGroup_windows, ↓formSingle_windows])) only [↓windows_mk, windows_fold, ↓takeCorrupt_windows,
    ↓takeReleases_windows, each_windows]

theorem thktBoundary_windows (s : Dev) : s.thktBoundary.windows = s.windows := by
  unfold Dev.thktBoundary
  simp only [↓ite_windows, ite_self, ↓closeRecords_windows, ↓silence_windows, ↓thktPosition_windows]

theorem signHead_windows (s : Dev) : s.signHead.windows = s.windows := by
  unfold Dev.signHead
  split <;> simp only [↓spend_windows, ↓windows_mk, windows_fold, ↓ite_windows, ite_self]

theorem ringTakes_windows (s : Dev) (c : CustRec) : (s.ringTakes c).1.windows = s.windows := by
  unfold Dev.ringTakes
  dsimp only
  repeat' split
  all_goals simp only [↓report_windows]

theorem handoff_windows (s : Dev) : s.handoff.windows = s.windows := by
  unfold Dev.handoff
  split <;> simp only [↓cntWrap_windows, ↓windows_mk, windows_fold, ↓ite_windows, ite_self, ↓ringTakes_windows, ↓showQueue_windows]

theorem releaseCommand_windows (s : Dev) (v : Word) : (s.releaseCommand v).windows = s.windows := by
  unfold Dev.releaseCommand
  simp only [↓wrN_windows, ↓windows_mk, windows_fold, ↓ite_windows, ite_self, ↓sessUse_windows]

theorem pointEcc_windows (s : Dev) (n ecc : Nat) : (s.pointEcc n ecc).windows = s.windows := by
  unfold Dev.pointEcc
  simp only [↓cntSat_windows, ↓ev_windows, ↓windows_mk, windows_fold, ↓ite_windows, ite_self, ↓freePoint_windows]

theorem latchPoint_windows (s : Dev) (v : Word) (ecc : Nat) : (s.latchPoint v ecc).windows = s.windows := by
  unfold Dev.latchPoint
  simp (disch := (intros; simp only [↓wrN_windows])) only [↓wrN_windows, ↓pointEcc_windows, each_windows]

theorem findStart_windows (s : Dev) (v : Word) : (s.findStart v).windows = s.windows := by
  unfold Dev.findStart
  simp only [↓wrN_windows, ↓ite_windows, ite_self]

theorem findDone_windows (s : Dev) : s.findDone.windows = s.windows := by
  unfold Dev.findDone
  dsimp only
  repeat' split
  all_goals simp only [↓wrN_windows]

theorem readPoints_windows (s : Dev) (first count : Nat) (bad : List Nat) (corr : Nat) :
    (s.readPoints first count bad corr).1.windows = s.windows := by
  unfold Dev.readPoints
  simp (disch := (intros; simp only [↓pointEcc_windows])) only [↓cntSat_windows, each_windows]

/-! The recorder. -/

theorem setBucket_windows (s : Dev) (b : Bucket) : (s.setBucket b).windows = s.windows := (rfl)

theorem showLog_windows (s : Dev) : s.showLog.windows = s.windows := (rfl)

theorem dropRecord_windows (s : Dev) (r : DuffRec) (ring : Bool) : (s.dropRecord r ring).windows = s.windows := by
  unfold Dev.dropRecord
  simp only [↓cntSat_windows, ↓cntWrap_windows, ↓raise_windows, ↓evW_windows, ↓windows_mk, windows_fold, ↓ite_windows, ite_self]

theorem duffPut_windows (s : Dev) (r : DuffRec) : (s.duffPut r).windows = s.windows := by
  unfold Dev.duffPut
  simp only [↓cntWrap_windows, ↓windows_mk, windows_fold, ↓ite_windows, ite_self, ↓dropRecord_windows]

theorem placeRecord_windows (s : Dev) (code : Nat) (r : DuffRec) : (s.placeRecord code r).windows = s.windows := by
  unfold Dev.placeRecord
  simp only [↓windows_mk, windows_fold, ↓ite_windows, ite_self, ↓dropRecord_windows, ↓duffPut_windows]

theorem eventRecord_windows (s : Dev) : s.eventRecord.windows = s.windows := by
  unfold Dev.eventRecord
  dsimp only
  repeat' split
  all_goals simp only [↓cntWrap_windows, ↓windows_mk, windows_fold, ↓placeRecord_windows, ↓setBucket_windows, ↓showLog_windows]

theorem emitMerged_windows (s : Dev) (b : Bucket) : (s.emitMerged b).windows = s.windows := by
  unfold Dev.emitMerged
  simp only [↓spend_windows, ↓placeRecord_windows]

theorem refillBuckets_windows (s : Dev) : s.refillBuckets.windows = s.windows := by
  unfold Dev.refillBuckets
  simp (disch := (intros; simp only [↓ite_windows, ite_self, ↓emitMerged_windows, ↓setBucket_windows])) only [↓showLog_windows,
    each_windows]

theorem mergeAll_windows (s : Dev) : s.mergeAll.windows = s.windows := by
  unfold Dev.mergeAll
  simp (disch := (intros; simp only [↓emitMerged_windows, ↓setBucket_windows])) only [↓showLog_windows, each_windows]

theorem pinUse_windows (s : Dev) : s.pinUse.windows = s.windows := by
  unfold Dev.pinUse
  simp only [↓setFld_windows, ↓setBit_windows, ↓raise_windows, ↓ev_windows, ↓windows_mk, windows_fold, ↓ite_windows, ite_self]

theorem retireBlock_windows (s : Dev) (b : Nat) : (s.retireBlock b).windows = s.windows := by
  unfold Dev.retireBlock
  simp only [↓cntSat_windows, ↓ev_windows, ↓windows_mk, windows_fold]

theorem showCirc_windows (s : Dev) : s.showCirc.windows = s.windows := (rfl)

theorem circBlock_windows {s d : Dev} (h : s.circBlock = some d) : d.windows = s.windows := by
  unfold Dev.circBlock at h
  split_ifs at h
  · cases h
    rfl
  · obtain ⟨b, -, rfl⟩ := Option.map_eq_some_iff.1 h
    rfl

theorem circWrite_windows (s : Dev) (r : List Byte) (ok : Bool) : (s.circWrite r ok).1.windows = s.windows := by
  unfold Dev.circWrite
  split
  · rfl
  next d h =>
    rw [← circBlock_windows h]
    split <;> simp only [↓showCirc_windows, ↓retireBlock_windows, ↓windows_mk, windows_fold]

theorem pinWrite_windows (s : Dev) (r : List Byte) (ok : Bool) : (s.pinWrite r ok).1.windows = s.windows := by
  unfold Dev.pinWrite
  split <;> simp only [↓windows_mk, windows_fold, ↓pinUse_windows, ↓retireBlock_windows]

theorem custWrite_windows (s : Dev) (c : CustRec) (ok : Bool) : (s.custWrite c ok).1.windows = s.windows := by
  unfold Dev.custWrite
  split <;> simp only [↓windows_mk, windows_fold, ↓pinUse_windows, ↓retireBlock_windows]

theorem handedOff_windows (s : Dev) (w : Nat) : (s.handedOff w).windows = s.windows := (rfl)

theorem ringlogWrite_windows (s : Dev) (ok : Bool) : (s.ringlogWrite ok).windows = s.windows := by
  unfold Dev.ringlogWrite
  dsimp only
  repeat' split
  all_goals simp only [↓windows_mk, windows_fold, ↓circWrite_windows, ↓custWrite_windows, ↓handedOff_windows, ↓pinWrite_windows,
    ↓showLog_windows]

theorem countErase_windows (s : Dev) (b : Nat) : (s.countErase b).windows = s.windows := by
  unfold Dev.countErase
  simp only [↓setFld_windows, ↓ev_windows, ↓windows_mk, windows_fold, ↓ite_windows, ite_self]

theorem norErase_windows (s : Dev) (ok : Bool) : (s.norErase ok).windows = s.windows := by
  unfold Dev.norErase
  repeat' split
  all_goals simp only [↓windows_mk, windows_fold, ↓countErase_windows, ↓retireBlock_windows]

theorem stateSave_windows (s : Dev) : s.stateSave.windows = s.windows := by
  unfold Dev.stateSave
  simp only [↓windows_mk, windows_fold, ↓ite_windows, ite_self]

theorem freezeBegin_windows (s : Dev) : s.freezeBegin.windows = s.windows := by
  unfold Dev.freezeBegin
  simp only [↓setBit_windows, ↓ev_windows, ↓windows_mk, windows_fold, ↓ite_windows, ite_self, ↓sessUse_windows]

theorem freezeStop_windows (s : Dev) (why : Nat) : (s.freezeStop why).windows = s.windows := by
  unfold Dev.freezeStop
  simp only [↓setBit_windows, ↓ev_windows, ↓ite_windows, ite_self]

theorem freezeEnd_windows (s : Dev) : s.freezeEnd.windows = s.windows := by
  unfold Dev.freezeEnd
  simp only [↓ite_windows, ite_self, ↓freezeStop_windows, ↓sessUse_windows]

theorem freezeExpire_windows (s : Dev) : s.freezeExpire.windows = s.windows := by
  unfold Dev.freezeExpire
  simp only [↓ite_windows, ite_self, ↓freezeStop_windows]

theorem clearCommand_windows (s : Dev) (v : Word) : (s.clearCommand v).windows = s.windows := by
  unfold Dev.clearCommand
  simp only [↓wrN_windows, ↓setFld_windows, ↓setBit_windows, ↓ev_windows, ↓windows_mk, windows_fold, ↓ite_windows, ite_self,
    ↓sessUse_windows]

theorem clearComplete_windows (s : Dev) : s.clearComplete.windows = s.windows := by
  unfold Dev.clearComplete
  split <;> simp (disch := (intros; simp only [↓ite_windows, ite_self, ↓countErase_windows])) only [↓wrN_windows, ↓setBit_windows,
    ↓spend_windows, ↓windows_mk, windows_fold, ↓ite_windows, ite_self, ↓circWrite_windows, ↓pinUse_windows, ↓pinWrite_windows,
    ↓showCirc_windows, each_windows]

theorem logReports_windows (s : Dev) : s.logReports.windows = s.windows := by
  unfold Dev.logReports
  simp (disch := (intros; simp only [↓reportRouted_windows])) only [↓windows_mk, windows_fold, each_windows]

end Sys2Proof.Machine
end

section
/-! O5, continued: operations that keep the number of windows. -/

namespace Sys2Proof.Machine

/-! The panel. -/

theorem journal_windows (s : Dev) (e : List Byte) : (s.journal e).windows = s.windows := by
  unfold Dev.journal
  simp only [↓windows_mk, windows_fold, ↓ite_windows, ite_self]

theorem latchBand_windows (s : Dev) : s.latchBand.windows = s.windows := by
  unfold Dev.latchBand
  simp only [↓setFld_windows, ↓ev_windows, ↓ite_windows, ite_self]

theorem panelBegin_windows (s : Dev) (again : Bool) : (s.panelBegin again).windows = s.windows := by
  unfold Dev.panelBegin
  simp only [↓setFld_windows, ↓setBit_windows, ↓cntWrap_windows, ↓windows_mk, windows_fold, ↓ite_windows, ite_self, ↓journal_windows,
    ↓latchBand_windows]

theorem panelStart_windows (s : Dev) : s.panelStart.windows = s.windows := by
  unfold Dev.panelStart
  simp only [↓setBit_windows, ↓ite_windows, ite_self, ↓panelBegin_windows]

theorem powerGood_windows (s : Dev) (tiles : List Nat) : (s.powerGood tiles).windows = s.windows := by
  unfold Dev.powerGood
  split <;> simp only [↓windows_mk, windows_fold, ↓ite_windows, ite_self]

theorem panelAbandon_windows (s : Dev) (i2c : Bool) : (s.panelAbandon i2c).windows = s.windows := by
  unfold Dev.panelAbandon
  split <;> simp only [↓setBit_windows, ↓raise_windows, ↓ev_windows, ↓windows_mk, windows_fold, ↓ite_windows, ite_self]

theorem panelEnd_windows (s : Dev) : s.panelEnd.windows = s.windows := by
  unfold Dev.panelEnd
  split <;> simp only [↓setFld_windows, ↓setBit_windows, ↓cntWrap_windows, ↓ev_windows, ↓windows_mk, windows_fold, ↓ite_windows,
    ite_self, ↓journal_windows, ↓panelBegin_windows]

theorem panelRetry_windows (s : Dev) : s.panelRetry.windows = s.windows := by
  unfold Dev.panelRetry
  simp only [↓ite_windows, ite_self, ↓panelBegin_windows]

theorem panelTemp_windows (s : Dev) (reading : Option Int) : (s.panelTemp reading).windows = s.windows := by
  unfold Dev.panelTemp
  split <;> simp only [↓setFld_windows, ↓setBit_windows, ↓ev_windows, ↓windows_mk, windows_fold, ↓ite_windows, ite_self]

theorem barkMeasure_windows (s : Dev) (ohms : Nat) : (s.barkMeasure ohms).windows = s.windows := by
  unfold Dev.barkMeasure
  simp only [↓setFld_windows, ↓setBit_windows, ↓raise_windows, ↓ev_windows, ↓windows_mk, windows_fold, ↓ite_windows, ite_self]

theorem ringcountSave_windows (s : Dev) : s.ringcountSave.windows = s.windows := by
  unfold Dev.ringcountSave
  simp only [↓windows_mk, windows_fold, ↓ite_windows, ite_self]

theorem panelBoot_windows (s : Dev) (temp : Option Int) : (s.panelBoot temp).windows = s.windows := by
  unfold Dev.panelBoot
  dsimp only
  split <;> simp only [↓setFld_windows, ↓setBit_windows, ↓ev_windows, ↓windows_mk, windows_fold, ↓ite_windows, ite_self,
    ↓latchBand_windows, ↓panelTemp_windows]

/-! The commit. -/

theorem withShadow_windows (s : Dev) (ws : List (Nat × Word)) : (s.withShadow ws).windows = s.windows := by
  unfold Dev.withShadow
  simp (disch := (intros; split <;> simp only [↓wr_windows, ↓ite_windows, ite_self])) only [each_windows]

theorem commitCtx_windows (old : Dev) (s : Dev) (c : Nat) : (commitCtx old s c).windows = s.windows := by
  unfold commitCtx
  simp (disch := (intros; simp only [↓wr_windows])) only [↓wr_windows, ↓setLctx_windows, ↓ite_windows, ite_self, ↓setCtxState_windows,
    ↓toClearing_windows, each_windows]

theorem commitGen_windows (old : Dev) (s : Dev) (g : Nat) : (commitGen old s g).windows = s.windows := by
  unfold commitGen
  simp only [↓wr_windows, ↓setBit_windows, ↓setGen_windows, ↓ite_windows, ite_self, ↓showGen_windows]

theorem commitField_windows (old : Dev) (s : Dev) (k : Nat) : (commitField old s k).windows = s.windows := by
  unfold commitField
  simp only [↓windows_mk, length_modAt, windows_fold, ↓ite_windows, ite_self]

theorem withTables_windows (old : Dev) (ws : List (Nat × Word)) (est : Option (List Byte)) :
    (old.withTables ws est).windows = old.windows := by
  unfold Dev.withTables
  split <;> simp only [↓windows_mk, windows_fold, ↓withShadow_windows]

theorem commitApply_windows (old : Dev) (ws : List (Nat × Word)) (sects : List Nat) (est : Option (List Byte)) :
    (old.commitApply ws sects est).windows = old.windows := by
  unfold Dev.commitApply
  simp (disch := (intros; simp only [↓commitCtx_windows, ↓commitField_windows, ↓commitGen_windows])) only [↓ev_windows, ↓windows_mk,
    windows_fold, ↓ite_windows, ite_self, ↓allocCommit_windows, ↓refsCommit_windows, ↓withTables_windows, each_windows]

/-! Glade. -/

theorem dieTemps_windows (s : Dev) (ts : List Int) : (s.dieTemps ts).windows = s.windows := by
  unfold Dev.dieTemps
  simp (disch := (intros; simp only [↓setFld_windows, ↓setBit_windows, ↓raise_windows, ↓evI_windows, ↓ite_windows,
    ite_self])) only [↓acqTemp_windows, each_windows]

theorem supplies_windows (s : Dev) (mv : List Nat) : (s.supplies mv).windows = s.windows := by
  unfold Dev.supplies
  simp (disch := (intros; simp only [↓setFld_windows, ↓windows_mk, windows_fold, ↓ite_windows, ite_self])) only [each_windows]

theorem supplyFault_windows (s : Dev) (m : Nat) (high : Bool) : (s.supplyFault m high).windows = s.windows := by
  unfold Dev.supplyFault
  simp only [↓setBit_windows, ↓raise_windows, ↓ev_windows, ↓ite_windows, ite_self]

theorem showFuses_windows (s : Dev) : s.showFuses.windows = s.windows := (rfl)

theorem imgStat_windows (s : Dev) (state res : Nat) (b : List Byte) : (s.imgStat state res b).windows = s.windows := (rfl)

theorem imageDone_windows (s : Dev) (j : ImgJob) (res : Nat) : (s.imageDone j res).windows = s.windows := by
  unfold Dev.imageDone
  dsimp only
  split <;> simp only [↓raise_windows, ↓ite_windows, ite_self, ↓complete_windows, ↓imgStat_windows]

theorem imageReject_windows (s : Dev) (j : ImgJob) (res : Nat) : (s.imageReject j res).windows = s.windows := by
  unfold Dev.imageReject
  simp only [↓ev_windows, ↓imageDone_windows]

theorem imageBurn_windows (s : Dev) (j : ImgJob) (res : Nat) : (s.imageBurn j res).windows = s.windows := by
  unfold Dev.imageBurn
  simp only [↓windows_mk, windows_fold, ↓ite_windows, ite_self, ↓imageDone_windows, ↓imgStat_windows]

theorem imageToStore_windows (s : Dev) (j : ImgJob) : (s.imageToStore j).windows = s.windows := by
  unfold Dev.imageToStore
  simp only [↓windows_mk, windows_fold, ↓ite_windows, ite_self, ↓imageBurn_windows, ↓imageDone_windows, ↓imgStat_windows]

theorem imageSaved_windows (s : Dev) (ok : Bool) (block : Nat) : (s.imageSaved ok block).windows = s.windows := by
  unfold Dev.imageSaved
  split <;> simp only [↓ev_windows, ↓windows_mk, windows_fold, ↓ite_windows, ite_self, ↓imageBurn_windows, ↓imageDone_windows]

theorem imageInForce_windows (s : Dev) (b : List Byte) : (s.imageInForce b).windows = s.windows := (rfl)

theorem bootWrites_windows (s : Dev) (ws : List (Nat × Word)) : (s.bootWrites ws).windows = s.windows := by
  unfold Dev.bootWrites
  simp (disch := (intros; simp only [↓wr_windows])) only [each_windows]

theorem loadSlot_windows (b : List Byte) (s : Dev) (e : List Byte) : (Dev.loadSlot b s e).windows = s.windows := (rfl)

theorem bootHeartwood_windows (s : Dev) (j : Option ImgJob) : (s.bootHeartwood j).windows = s.windows := by
  unfold Dev.bootHeartwood
  split <;> simp (disch := (intros; simp only [↓loadSlot_windows])) only [↓setBit_windows, ↓bootWrites_windows, ↓imageInForce_windows,
    each_windows]

theorem bootArtwork_windows (s : Dev) (j : Option ImgJob) : (s.bootArtwork j).windows = s.windows := by
  unfold Dev.bootArtwork
  split <;> simp (disch := (intros; simp only [↓wr_windows])) only [↓setBit_windows, ↓imageInForce_windows, each_windows]

theorem storeImage_windows (s : Dev) (typ : Nat) : (s.storeImage typ).1.windows = s.windows := by
  unfold Dev.storeImage
  dsimp only
  repeat' split
  all_goals simp only [↓ev_windows, ↓windows_mk, windows_fold]

theorem showNor_windows (s : Dev) : s.showNor.windows = s.windows := by
  unfold Dev.showNor
  simp only [↓setFld_windows, ↓setBit_windows, ↓showCirc_windows]

theorem ringlogProbe_windows (s : Dev) (nor : Nat) : (s.ringlogProbe nor).windows = s.windows := by
  unfold Dev.ringlogProbe
  simp only [↓wr_windows, ↓setFld_windows, ↓setBit_windows, ↓ev_windows, ↓windows_mk, windows_fold, ↓ite_windows, ite_self,
    ↓showNor_windows]

theorem commitNow_windows (s : Dev) : s.commitNow.windows = s.windows := by
  unfold Dev.commitNow
  dsimp only
  repeat' split
  all_goals simp only [↓setBit_windows, ↓ev_windows, ↓windows_mk, windows_fold, ↓commitApply_windows, ↓imageBurn_windows,
    ↓imageInForce_windows, ↓imageReject_windows, ↓imageToStore_windows]

theorem sessEnd_windows (s : Dev) (why : Nat) : (s.sessEnd why).windows = s.windows := (rfl)

theorem sessOpen_windows (s : Dev) (slot level : Nat) : (s.sessOpen slot level).windows = s.windows := by
  unfold Dev.sessOpen
  simp (disch := (intros; simp only [↓wrN_windows])) only [↓setFld_windows, ↓spend_windows, ↓windows_mk, windows_fold, ↓ite_windows,
    ite_self, ↓sessEnd_windows, each_windows]

theorem sessFail_windows (s : Dev) : s.sessFail.windows = s.windows := by
  unfold Dev.sessFail
  simp only [↓setFld_windows, ↓setBit_windows, ↓ev_windows, ↓ite_windows, ite_self]

theorem sessVerify_windows (s : Dev) : s.sessVerify.windows = s.windows := by
  unfold Dev.sessVerify
  simp only [↓setFld_windows, ↓raise_windows, ↓ev_windows, ↓ite_windows, ite_self, ↓sessFail_windows, ↓sessUse_windows]

theorem sessClose_windows (s : Dev) (why : Nat) : (s.sessClose why).windows = s.windows := by
  unfold Dev.sessClose
  simp only [↓ite_windows, ite_self, ↓sessEnd_windows]

theorem sessIdle_windows (s : Dev) : s.sessIdle.windows = s.windows := by
  unfold Dev.sessIdle
  simp only [↓ite_windows, ite_self, ↓sessClose_windows]

theorem sessConflict_windows (s : Dev) : s.sessConflict.windows = s.windows := by
  unfold Dev.sessConflict
  simp only [↓setFld_windows]

theorem challengeEnd_windows (s : Dev) : s.challengeEnd.windows = s.windows := by
  unfold Dev.challengeEnd
  simp only [↓raise_windows, ↓ite_windows, ite_self, ↓sessFail_windows]

theorem sessCommand_windows (s : Dev) (v : Word) : (s.sessCommand v).windows = s.windows := by
  unfold Dev.sessCommand
  dsimp only
  split <;> simp only [↓sessClose_windows, ↓sessConflict_windows, ↓sessOpen_windows, ↓sessVerify_windows]

theorem slotUnlock_windows (s : Dev) (k : Nat) : (s.slotUnlock k).windows = s.windows := by
  unfold Dev.slotUnlock
  simp only [↓setFld_windows, ↓setBit_windows, ↓ite_windows, ite_self]

theorem gladeSecond_windows (s : Dev) : s.gladeSecond.windows = s.windows := by
  unfold Dev.gladeSecond
  simp (disch := (intros; simp only [↓setFld_windows, ↓ite_windows, ite_self])) only [↓cntWrap_windows, each_windows]

theorem attRequest_windows (s : Dev) (cert : Bool) : (s.attRequest cert).windows = s.windows := by
  unfold Dev.attRequest
  simp only [↓windows_mk, windows_fold, ↓ite_windows, ite_self]

theorem attReport_windows (s : Dev) : s.attReport.windows = s.windows := by
  unfold Dev.attReport
  split <;> simp only [↓raise_windows, ↓ev_windows, ↓spend_windows, ↓windows_mk, windows_fold, ↓ite_windows, ite_self,
    ↓reportRouted_windows]

/-! The host interface. -/

theorem ringError_windows (s : Dev) (p code : Nat) : (s.ringError p code).windows = s.windows := by
  unfold Dev.ringError
  simp only [↓setFld_windows, ↓setBit_windows, ↓raise_windows, ↓ev_windows, ↓ite_windows, ite_self]

theorem cmdBell_windows (s : Dev) (p : Nat) (v : Word) : (s.cmdBell p v).windows = s.windows := by
  unfold Dev.cmdBell
  simp only [↓wr_windows, ↓setFld_windows, ↓ite_windows, ite_self, ↓ringError_windows]

theorem repBell_windows (s : Dev) (p : Nat) (v : Word) : (s.repBell p v).windows = s.windows := by
  unfold Dev.repBell
  simp only [↓wr_windows, ↓setFld_windows, ↓ite_windows, ite_self, ↓ringError_windows]

theorem ringOn_windows (s : Dev) (p : Nat) (rep : Bool) (v : Word) : (s.ringOn p rep v).windows = s.windows := by
  unfold Dev.ringOn
  simp only [↓wr_windows, ↓setFld_windows, ↓setBit_windows, ↓ite_windows, ite_self, ↓setPair_windows]

theorem ringOff_windows (s : Dev) (p : Nat) (rep : Bool) (v : Word) : (s.ringOff p rep v).windows = s.windows := by
  unfold Dev.ringOff
  simp only [↓setFld_windows, ↓setBit_windows, ↓ite_windows, ite_self, ↓setPair_windows]

theorem ringConfig_windows (s : Dev) (p : Nat) (rep : Bool) (v : Word) : (s.ringConfig p rep v).windows = s.windows := by
  unfold Dev.ringConfig
  simp only [↓ite_windows, ite_self, ↓ringOff_windows, ↓ringOn_windows]

theorem ringResume_windows (s : Dev) (p : Nat) : (s.ringResume p).windows = s.windows := by
  unfold Dev.ringResume
  simp only [↓setFld_windows, ↓setBit_windows, ↓ite_windows, ite_self]

theorem ringStops_windows (s : Dev) : s.ringStops.windows = s.windows := by
  unfold Dev.ringStops
  simp (disch := (intros; simp only [↓setBit_windows, ↓ite_windows, ite_self, ↓setPair_windows])) only [each_windows]

theorem hostFetch_windows (s : Dev) : s.hostFetch.windows = s.windows := by
  unfold Dev.hostFetch
  simp (disch := (intros; simp only [↓ite_windows, ite_self, ↓setPair_windows])) only [each_windows]

theorem fetchEnd_windows (s : Dev) (p : Nat) (ok : Bool) : (s.fetchEnd p ok).windows = s.windows := by
  unfold Dev.fetchEnd
  split <;> simp only [↓setFld_windows, ↓raise_windows, ↓windows_mk, windows_fold, ↓ite_windows, ite_self, ↓ringError_windows,
    ↓setPair_windows, ↓writeback_windows]

theorem withDesc_windows (s : Dev) (p idx : Nat) (f : Dev → Dev) (h : ∀ d, (f d).windows = d.windows) :
    (s.withDesc p idx f).windows = s.windows := by
  by_cases hfront : s.host.ready.head? = some (p, idx)
  · rw [withDesc_front f hfront, h]
    rfl
  · rw [withDesc_other f hfront]

theorem nopDesc_windows (s : Dev) (p idx : Nat) : (s.nopDesc p idx).windows = s.windows :=
  withDesc_windows _ _ _ _ fun _ => complete_windows ..

theorem badDesc_windows (s : Dev) (p idx : Nat) (b : List Byte) : (s.badDesc p idx b).windows = s.windows :=
  withDesc_windows _ _ _ _ fun _ => complete_windows ..

theorem setpointPut_windows (s : Dev) (e : Nat × Word) : (s.setpointPut e).windows = s.windows := by
  unfold Dev.setpointPut
  simp only [↓wr_windows, ↓setGen_windows, ↓ite_windows, ite_self]

theorem setpointDesc_windows (s : Dev) (p idx : Nat) (b : List Byte) : (s.setpointDesc p idx b).windows = s.windows := by
  refine withDesc_windows _ _ _ _ fun d => ?_
  dsimp only
  split
  · exact complete_windows ..
  · exact (endDesc_windows ..).trans (each_windows _ _ _ setpointPut_windows)

theorem releaseRefused_windows (s : Dev) (slot l code : Nat) : (s.releaseRefused slot l code).windows = s.windows := by
  unfold Dev.releaseRefused
  simp only [↓cntSat_windows, ↓ev_windows, ↓ite_windows, ite_self, ↓countInvalid_windows]

theorem groveRefused_windows (s : Dev) (p slot code : Nat) (tag : Word) (release : Bool) :
    (s.groveRefused p slot code tag release).windows = s.windows := by
  unfold Dev.groveRefused
  simp only [↓ev_windows, ↓windows_mk, windows_fold, ↓ite_windows, ite_self, ↓endCount_windows, ↓releaseRefused_windows]

theorem groveDescLoad_windows (s : Dev) (op l : Nat) (b : List Byte) : (s.groveDescLoad op l b).1.windows = s.windows := by
  unfold Dev.groveDescLoad
  repeat' split
  all_goals simp only [↓groveLoadOp_windows, ↓groveRefuse_windows]

theorem groveDescEntries_windows (s : Dev) (l : Nat) (es : List GroveEntryIn) : (s.groveDescEntries l es).1.windows = s.windows := by
  refine fold_keeps (fun a : Dev × Nat => a.1.windows) _ (fun a e => ?_) es (s, 0)
  exact groveEntryOp_windows a.1 l e

theorem groveDesc_windows (s : Dev) (p idx : Nat) (b : List Byte) (entries : List GroveEntryIn) :
    (s.groveDesc p idx b entries).windows = s.windows := by
  refine withDesc_windows _ _ _ _ fun d => ?_
  simp only [↓wr_windows, ↓setLane_windows, ↓ite_windows, ite_self, ↓endDesc_windows, ↓groveDescEntries_windows, ↓groveDescLoad_windows,
    ↓groveRefuse_windows, ↓groveRefused_windows, ↓groveStart_windows]

theorem canDesc_windows (s : Dev) (p idx : Nat) (b far : List Byte) : (s.canDesc p idx b far).windows = s.windows := by
  refine withDesc_windows _ _ _ _ fun d => ?_
  simp only [↓ite_windows, ite_self, ↓complete_windows, ↓tb2Cancel_windows, ↓tb2Put_windows]

theorem copyOut_windows (s : Dev) (addr : Nat) (b : List Byte) : (s.copyOut addr b).windows = s.windows := (rfl)

theorem thicketDesc_windows (s : Dev) (p idx : Nat) (b : List Byte) (bad : List Nat) (corr : Nat) :
    (s.thicketDesc p idx b bad corr).windows = s.windows := by
  refine withDesc_windows _ _ _ _ fun d => ?_
  dsimp only
  split_ifs <;> simp only [↓complete_windows, ↓copyOut_windows, ↓readPoints_windows]

theorem recorderDesc_windows (s : Dev) (p idx : Nat) (b : List Byte) : (s.recorderDesc p idx b).windows = s.windows := by
  refine withDesc_windows _ _ _ _ fun d => ?_
  simp only [↓ite_windows, ite_self, ↓complete_windows, ↓copyOut_windows, ↓sessUse_windows]

theorem vectorSend_windows (s : Dev) (v : Nat) : (s.vectorSend v).windows = s.windows := (rfl)

theorem vectorFire_windows (s : Dev) (v : Nat) : (s.vectorFire v).windows = s.windows := by
  unfold Dev.vectorFire
  simp only [↓setBit_windows, ↓ite_windows, ite_self, ↓vectorSend_windows]

theorem vectorArm_windows (s : Dev) (v : Word) : (s.vectorArm v).windows = s.windows := (rfl)

theorem vectorOpen_windows (s : Dev) (v : Nat) : (s.vectorOpen v).windows = s.windows := by
  unfold Dev.vectorOpen
  simp only [↓setBit_windows, ↓ite_windows, ite_self, ↓vectorSend_windows]

theorem resetPair_windows (s : Dev) (p : Nat) : (s.resetPair p).windows = s.windows := by
  simp only [Dev.resetPair, setPair_windows, each_windows _ _ _ fun e k => wr_windows e (HOST_LIVE p k) 0, wr_windows, setBit_windows]

theorem clearSources_windows (s : Dev) : s.clearSources.windows = s.windows := by
  simp only [Dev.clearSources, Dev.dropReady, windows_mk, windows_fold, each_windows _ _ _ fun e k => wr_windows e (HOST_EVT_MAP k) 0,
    each_windows _ _ _ fun e k => wr_windows e (HOST_EVT_PEND k) 0, wr_windows]

theorem hostReset_windows (s : Dev) (why : Nat) : (s.hostReset why).windows = s.windows := by
  have hlink : ∀ d : Dev, (d.showLink why).windows = d.windows := fun d => by
    unfold Dev.showLink
    split
    · exact setFld_windows ..
    · rfl
  rw [hostReset_eq]
  exact (ev_windows ..).trans ((hlink _).trans ((clearSources_windows _).trans (each_windows _ _ _ resetPair_windows)))

theorem hostLinkUp_windows (s : Dev) (width speed : Nat) : (s.hostLinkUp width speed).windows = s.windows := by
  unfold Dev.hostLinkUp
  simp only [↓setFld_windows, ↓ev_windows, ↓windows_mk, windows_fold, ↓ite_windows, ite_self]

theorem cycleReport_windows (s : Dev) : s.cycleReport.windows = s.windows := by
  unfold Dev.cycleReport
  simp only [↓ite_windows, ite_self, ↓acqReported_windows, ↓reportRouted_windows]

theorem timeMessage_windows (s : Dev) : s.timeMessage.windows = s.windows := by
  unfold Dev.timeMessage
  simp only [↓windows_mk, windows_fold, ↓ite_windows, ite_self, ↓reportRouted_windows, ↓sendUdp_windows]

theorem groveRecords_windows (s : Dev) : s.groveRecords.windows = s.windows := by
  unfold Dev.groveRecords
  simp (disch := (intros; simp only [↓report_windows])) only [↓windows_mk, windows_fold, each_windows]

theorem snapshot_windows (s : Dev) : s.snapshot.windows = s.windows := by
  unfold Dev.snapshot
  extract_lets s1 cp s2 s3
  have hcopied : ∀ d n k a, (cp d n k a).windows = d.windows := fun d n k a => by
    unfold cp
    split
    · rfl
    · exact wr_windows ..
  have hpairs : s1.windows = s.windows := each_windows _ _ _ fun d p => each_windows _ _ _ fun e k => by
    split
    · rfl
    · exact wr_windows ..
  have hcan : s2.windows = s1.windows := each_windows _ _ _ fun d n => by simp only [hcopied]
  have hrest : s3.windows = s2.windows := each_windows _ _ _ fun d k => by simp only [hcopied]
  exact (wrN_windows ..).trans (hrest.trans (hcan.trans hpairs))

theorem hostP4_windows (s : Dev) (n : Nat) : (s.hostP4 n).windows = s.windows := by
  unfold Dev.hostP4
  simp only [↓ite_windows, ite_self, ↓cycleReport_windows, ↓groveRecords_windows, ↓hostFetch_windows, ↓logReports_windows,
    ↓reportRouted_windows, ↓snapshot_windows]

/-! Resets. -/

theorem keepReg_windows (s old : Dev) (a mask : Nat) : (s.keepReg old a mask).windows = s.windows := (rfl)

theorem keepDeadfall_windows (s old : Dev) : (s.keepDeadfall old).windows = s.windows := (rfl)

theorem keepCold_windows (s old : Dev) : (s.keepCold old).windows = s.windows := by
  unfold Dev.keepCold
  simp (disch := (intros; simp only [↓keepReg_windows])) only [↓wrN_windows, ↓windows_mk, windows_fold, ↓keepDeadfall_windows,
    ↓keepReg_windows, ↓showQueue_windows, each_windows]

theorem keepWarm_windows (s old : Dev) : (s.keepWarm old).windows = s.windows := (rfl)

theorem rstLast_windows (s : Dev) (r : RstRun) : (s.rstLast r).windows = s.windows := (rfl)

theorem rstSource_windows (s : Dev) (bits src kind bo : Nat) : (s.rstSource bits src kind bo).windows = s.windows := by
  unfold Dev.rstSource
  dsimp only
  split <;> simp only [↓orMask_windows, ↓windows_mk, windows_fold, ↓rstLast_windows]

theorem tickWatchdog_windows (s : Dev) : s.tickWatchdog.windows = s.windows := by
  unfold Dev.tickWatchdog
  simp only [↓rstSource_windows]

theorem gladeWatchdog_windows (s : Dev) : s.gladeWatchdog.windows = s.windows := by
  unfold Dev.gladeWatchdog
  simp only [↓rstSource_windows]

theorem criticalError_windows (s : Dev) (src addr : Nat) : (s.criticalError src addr).windows = s.windows := by
  unfold Dev.criticalError
  simp only [↓wrN_windows, ↓rstSource_windows]

theorem brownOut_windows (s : Dev) (mask : Nat) : (s.brownOut mask).windows = s.windows := by
  unfold Dev.brownOut
  simp only [↓windows_mk, windows_fold, ↓ite_windows, ite_self, ↓rstSource_windows]

theorem brownOutEnd_windows (s : Dev) (mask : Nat) : (s.brownOutEnd mask).windows = s.windows := (rfl)

theorem rstPin_windows (s : Dev) : s.rstPin.windows = s.windows := by
  unfold Dev.rstPin
  simp only [↓rstSource_windows]

theorem clockCause_windows (s : Dev) (outage : Option Nat) : (s.clockCause outage).windows = s.windows := by
  unfold Dev.clockCause
  split <;> simp only [↓orMask_windows, ↓windows_mk, windows_fold]

theorem clockReturn_windows (s : Dev) (outage : Nat) : (s.clockReturn outage).windows = s.windows := by
  unfold Dev.clockReturn
  simp only [↓setBit_windows, ↓ite_windows, ite_self, ↓clockCause_windows]

theorem showDoms_windows (s : Dev) : s.showDoms.windows = s.windows := by
  unfold Dev.showDoms
  simp only [↓orMask_windows, ↓ite_windows, ite_self]

theorem pllLock_windows (s : Dev) (g : Bool) : (s.pllLock g).windows = s.windows := by
  unfold Dev.pllLock
  simp only [↓setBit_windows, ↓ite_windows, ite_self, ↓clockCause_windows, ↓showDoms_windows]

theorem loadFuses_windows (s : Dev) (fu : FuseIn) : (s.loadFuses fu).windows = s.windows := (rfl)

theorem countPower_windows (s : Dev) : s.countPower.windows = s.windows := (rfl)

theorem resetEvents_windows (s : Dev) (r : RstRun) (x : StrapRead) (role : Option Nat) :
    (s.resetEvents r x role).windows = s.windows := by
  unfold Dev.resetEvents
  repeat' split
  all_goals simp (disch := (intros; simp only [↓ev_windows])) only [↓ev_windows, each_windows]

/-! Flags. -/

theorem showAlign_windows (s : Dev) (free aligned : Bool) : (s.showAlign free aligned).windows = s.windows := (rfl)

theorem showTick_windows (s : Dev) (n : Nat) (slewing : Bool) : (s.showTick n slewing).windows = s.windows := (rfl)

theorem overrunFlag_windows (s : Dev) (bit code p1 p2 : Nat) : (s.overrunFlag bit code p1 p2).windows = s.windows := (rfl)

theorem showLoad_windows (s : Dev) (p1 p2 : Nat) : (s.showLoad p1 p2).windows = s.windows := (rfl)

theorem showRun_windows (s : Dev) : s.showRun.windows = s.windows := (rfl)

/-! The sequencer. -/

theorem modeCommand_windows (s : Dev) (cmd : Nat) : (s.modeCommand cmd).windows = s.windows := by
  unfold Dev.modeCommand
  simp only [↓windows_mk, windows_fold, ↓ite_windows, ite_self]

theorem loadClear_windows (s : Dev) : s.loadClear.windows = s.windows := (rfl)

theorem enterMode_windows (s : Dev) (new : Nat) : (s.enterMode new).windows = s.windows := by
  unfold Dev.enterMode
  split <;> simp only [↓allocArming_windows, ↓allocOperate_windows, ↓allocWatch_windows, ↓axesEnter_windows, ↓loopEnter_windows,
    ↓loopLeave_windows]

theorem modeStep_windows (s : Dev) : s.modeStep.windows = s.windows := by
  unfold Dev.modeStep
  simp only [↓setFld_windows, ↓ev_windows, ↓windows_mk, windows_fold, ↓ite_windows, ite_self, ↓enterMode_windows]

theorem seqStep_windows (s : Dev) (e : Rat) : (s.seqStep e).windows = s.windows := by
  unfold Dev.seqStep
  simp only [↓evI_windows, ↓windows_mk, windows_fold, ↓groveAbort_windows, ↓showAlign_windows]

theorem seqSlew_windows (s : Dev) (e : Rat) : (s.seqSlew e).windows = s.windows := (rfl)

theorem align_windows (s : Dev) (watch : Bool) : (s.align watch).windows = s.windows := by
  unfold Dev.align
  simp only [↓wr_windows, ↓windows_mk, windows_fold, ↓ite_windows, ite_self, ↓seqSlew_windows, ↓seqStep_windows, ↓showAlign_windows]

theorem overrun_windows (s : Dev) (w : OverrunWork) : (s.overrun w).windows = s.windows := by
  unfold Dev.overrun
  split <;> simp only [↓ite_windows, ite_self, ↓overrunFlag_windows]

/-! The boundary. -/

theorem beginCycle_windows (s : Dev) : s.beginCycle.windows = s.windows := by
  unfold Dev.beginCycle
  simp only [↓setFld_windows, ↓cntWrap_windows, ↓windows_mk, windows_fold, ↓ite_windows, ite_self]

theorem enginesAtBoundary_windows (s : Dev) (i : BoundaryIn) : (s.enginesAtBoundary i).windows = s.windows := by
  unfold Dev.enginesAtBoundary
  simp (disch := (intros; simp only [↓laneCorr_windows])) only [↓assignGroups_windows, ↓epoch_windows, ↓estBoundary_windows,
    ↓holdBound_windows, ↓moveRoles_windows, ↓netBoundary_windows, ↓selectBoundary_windows, ↓thktBoundary_windows, each_windows]

theorem cycleBoundary_windows (s : Dev) (i : BoundaryIn) : (s.cycleBoundary i).windows = s.windows := by
  unfold Dev.cycleBoundary
  simp only [↓align_windows, ↓beginCycle_windows, ↓enginesAtBoundary_windows, ↓modeStep_windows, ↓showRun_windows]

/-! The tick. -/

theorem ageOutputs_windows (s : Dev) : s.ageOutputs.windows = s.windows := by
  unfold Dev.ageOutputs
  simp only [↓windows_mk, List.length_map, windows_fold]

theorem ageDeadlines_windows (s : Dev) : s.ageDeadlines.windows = s.windows := by
  unfold Dev.ageDeadlines
  simp only [↓windows_mk, List.length_map, windows_fold]

theorem inputLatch_windows (s : Dev) : s.inputLatch.windows = s.windows := by
  unfold Dev.inputLatch
  simp only [↓acqP0_windows, ↓ageDeadlines_windows, ↓ageOutputs_windows, ↓canP0_windows, ↓profP0_windows, ↓ringStops_windows,
    ↓takeFrame_windows]

theorem tickP0_windows (s : Dev) (n : Nat) : (s.tickP0 n).windows = s.windows := by
  unfold Dev.tickP0
  simp only [↓inputLatch_windows, ↓standP0_windows]

theorem tickP3_windows (s : Dev) (n : Nat) : (s.tickP3 n).windows = s.windows := by
  unfold Dev.tickP3
  simp only [↓ite_windows, ite_self, ↓applyFrame_windows, ↓standSend_windows, ↓streamsP3_windows, ↓trefP3_windows]

theorem passTime_windows (s : Dev) (n cycles : Nat) (dt : Rat) : (s.passTime n cycles dt).windows = s.windows := by
  unfold Dev.passTime
  simp (disch := (intros; simp only [↓gladeSecond_windows])) only [↓windows_mk, windows_fold, ↓advance_windows, each_windows]

theorem adjustedTick_windows (s : Dev) (n : Nat) (r : Rat) : (s.adjustedTick n r).windows = s.windows := by
  unfold Dev.adjustedTick
  simp only [↓windows_mk, windows_fold, ↓inputLatch_windows, ↓passTime_windows, ↓showAlign_windows, ↓showTick_windows]

theorem tickCritical_windows (s : Dev) (i : TickIn) : (s.tickCritical i).windows = s.windows := by
  unfold Dev.tickCritical
  split <;> simp only [↓criticalError_windows]

/-! Register writes. -/

theorem loopWrite_windows (s : Dev) (a : Nat) (v : Word) : (s.loopWrite a v).windows = s.windows := by
  unfold Dev.loopWrite
  simp only [↓store_windows, ↓ite_windows, ite_self, ↓loopCommand_windows, ↓resumeCommand_windows]

theorem hostTarget_windows (s : Dev) (g : Nat) (v : Word) : (s.hostTarget g v).windows = s.windows := by
  unfold Dev.hostTarget
  simp only [↓wr_windows, ↓setGen_windows, ↓ite_windows, ite_self]

theorem profWrite_windows (s : Dev) (a : Nat) (v : Word) : (s.profWrite a v).windows = s.windows := by
  unfold Dev.profWrite
  split <;> simp only [↓store_windows, ↓hostTarget_windows]

theorem estWrite_windows (s : Dev) (a : Nat) (v : Word) : (s.estWrite a v).windows = s.windows := by
  unfold Dev.estWrite
  simp only [↓store_windows, ↓ite_windows, ite_self, ↓originWrite_windows]

theorem selectThrusters_windows (s : Dev) (v : Word) : (s.selectThrusters v).windows = s.windows := by
  unfold Dev.selectThrusters
  simp only [↓store_windows, ↓windows_mk, windows_fold, ↓ite_windows, ite_self, ↓sessUse_windows]

theorem allocWrite_windows (s : Dev) (a : Nat) (v : Word) : (s.allocWrite a v).windows = s.windows := by
  unfold Dev.allocWrite
  simp only [↓store_windows, ↓ite_windows, ite_self, ↓selectThrusters_windows]

theorem clearLane_windows (s : Dev) (l : Nat) : (s.clearLane l).windows = s.windows := (rfl)

theorem groveWrite_windows (s : Dev) (a : Nat) (v : Word) : (s.groveWrite a v).windows = s.windows := by
  unfold Dev.groveWrite
  split <;> simp only [↓store_windows, ↓ite_windows, ite_self, ↓clearLane_windows]

theorem gnssWrite_windows (s : Dev) (a : Nat) (v : Word) : (s.gnssWrite a v).windows = s.windows := by
  unfold Dev.gnssWrite
  repeat' split
  all_goals simp only [↓setBit_windows, ↓store_windows, ↓windows_mk, windows_fold, ↓ite_windows, ite_self, ↓ppsWrite_windows]

theorem acqRegWrite_windows (s : Dev) (a : Nat) (v : Word) : (s.acqRegWrite a v).windows = s.windows := by
  unfold Dev.acqRegWrite
  repeat' split
  all_goals simp only [↓acqWrite_windows, ↓coefApply_windows, ↓quadZero_windows]

theorem netRegWrite_windows (s : Dev) (a : Nat) (v : Word) : (s.netRegWrite a v).windows = s.windows := by
  unfold Dev.netRegWrite
  repeat' split
  all_goals simp only [↓alarmArm_windows, ↓evtPop_windows, ↓netWrite_windows]

theorem thktWrite_windows (s : Dev) (a : Nat) (v : Word) : (s.thktWrite a v).windows = s.windows := by
  unfold Dev.thktWrite
  simp only [↓store_windows, ↓ite_windows, ite_self, ↓findStart_windows, ↓latchPoint_windows, ↓releaseCommand_windows]

theorem logWrite_windows (s : Dev) (a : Nat) (v : Word) : (s.logWrite a v).windows = s.windows := by
  unfold Dev.logWrite
  simp only [↓store_windows, ↓ite_windows, ite_self, ↓byGlade_windows, ↓clearCommand_windows, ↓freezeBegin_windows, ↓freezeEnd_windows]

theorem pairWrite_windows (s : Dev) (p o : Nat) (v : Word) : (s.pairWrite p o v).windows = s.windows := by
  unfold Dev.pairWrite
  simp only [↓store_windows, ↓ite_windows, ite_self, ↓ringConfig_windows, ↓ringResume_windows]

theorem hostWrite_windows (s : Dev) (a : Nat) (v : Word) : (s.hostWrite a v).windows = s.windows := by
  unfold Dev.hostWrite
  repeat' split
  all_goals simp only [↓store_windows, ↓pairWrite_windows, ↓vectorArm_windows, ↓vectorOpen_windows]

theorem badAccess_windows (s : Dev) (a size : Nat) : (s.badAccess a size).windows = s.windows := by
  unfold Dev.badAccess
  simp only [↓windows_mk, windows_fold, ↓ite_windows, ite_self]

theorem stoppedAccess_windows (s : Dev) (mgt : Bool) (a : Nat) : (s.stoppedAccess mgt a).windows = s.windows := by
  unfold Dev.stoppedAccess
  simp only [↓windows_mk, windows_fold, ↓ite_windows, ite_self]

theorem laneNext_windows (s : Dev) (l : Nat) (ok : Bool) : (s.laneNext l ok).windows = s.windows := by
  unfold Dev.laneNext
  simp only [↓bundleNext_windows, ↓cqStopped_windows]

theorem publish_windows (s : Dev) (l : Nat) (r : SolveOut) : (s.publish l r).windows = s.windows := by
  unfold Dev.publish
  simp only [↓ite_windows, ite_self, ↓laneCorr_windows, ↓laneNext_windows, ↓laneStop_windows]

theorem deadline_windows (s : Dev) (l iter cycles : Nat) (corr : List Nat) : (s.deadline l iter cycles corr).windows = s.windows := by
  unfold Dev.deadline
  simp only [↓setLane_windows, ↓ite_windows, ite_self, ↓laneCorr_windows, ↓laneStop_windows]

theorem solveFails_windows (s : Dev) (l code iter cycles : Nat) (pivot : Rat) (corr : List Nat) :
    (s.solveFails l code iter cycles pivot corr).windows = s.windows := by
  unfold Dev.solveFails
  simp only [↓ite_windows, ite_self, ↓laneCorr_windows, ↓laneNext_windows, ↓laneStop_windows]

theorem settled_windows (s : Dev) (sig : Nat) : (s.settled sig).windows = s.windows := by
  unfold Dev.settled
  simp only [↓windows_mk, List.length_map, windows_fold]

theorem send450_windows (s : Dev) (sentence : List Byte) : (s.send450 sentence).windows = s.windows := by
  unfold Dev.send450
  simp only [↓windows_mk, windows_fold, ↓originate_windows]

theorem sentenceInterval_windows (s : Dev) (u : Nat) (texts : List (List Byte)) : (s.sentenceInterval u texts).windows = s.windows := by
  unfold Dev.sentenceInterval
  simp (disch := (intros; simp only [↓send450_windows])) only [↓ite_windows, ite_self, ↓sentences_windows, each_windows]

theorem chainWrite_windows (s : Dev) (a : Nat) (v : Word) : (s.chainWrite a v).windows = s.windows := by
  unfold Dev.chainWrite
  simp only [↓ite_windows, ite_self, ↓acqWrite_windows]

end Sys2Proof.Machine
end

section
/-! O5, continued: operations that keep the number of windows. -/

namespace Sys2Proof.Machine

/-! Estimator. -/

theorem estReleased_windows (d : Dev) : ({ d with est.released := true } : Dev).windows = d.windows := (rfl)

theorem estForm_windows (s : Dev) (i : TickIn) : (s.estForm i).windows = s.windows := by
  unfold Dev.estForm
  refine (ite_windows _ _ _).trans ?_
  split
  · rfl
  · extract_lets s1 x1 s2 s3 refs sats s4 x4 s5 s6 s7 x7 s8 s9 x9
    have hmoved : s1.windows = s.windows := (propagate_windows _).trans ((selectSensors_windows _).trans (applyBundle_windows s))
    have hsat : s2.windows = s1.windows := by simp only [s2, x1, ↓ite_windows, ↓windows_mk, windows_fold, ite_self]
    have htested : s3.windows = s2.windows := (headingTest_windows _).trans (acceptRefs_windows s2 i)
    have hnoted : s5.windows = s3.windows := by
      simp only [s5, x4, ↓windows_mk, windows_fold]
      exact setFld_windows ..
    have hreckoned : s6.windows = s5.windows := deadReckon_windows s5 _
    have hobs : s8.windows = s6.windows := by
      simp only [s8, x7, ↓windows_mk, windows_fold]
      exact setFld_windows ..
    have hsent : s9.windows = s8.windows := (dropSamples_windows _).trans (roleRelease_windows ..)
    clear_value s1 s2 s3 s5 s6 s8 s9
    rw [← hmoved, ← hsat, ← htested, ← hnoted, ← hreckoned, ← hobs, ← hsent]
    exact (estReleased_windows s9)

theorem estUpdate_windows (s : Dev) : s.estUpdate.windows = s.windows := by
  unfold Dev.estUpdate
  simp only [↓setFld_windows, ↓setBit_windows, ↓ev_windows, ↓windows_mk, windows_fold, ↓ite_windows, ite_self, ↓setEstState_windows]
  split
  · rfl
  · split
    · split
      · rfl
      · exact takeSolution_windows ..
    · rfl

/-! Allocation. -/

theorem allocDemand_windows (s : Dev) (i : TickIn) : (s.allocDemand i).windows = s.windows := by
  unfold Dev.allocDemand
  simp only [↓ev_windows, ↓windows_mk, windows_fold, ↓ite_windows, ite_self, ↓allocMismatch_windows, ↓estimatorAction_windows,
    ↓setAllocState_windows, ↓setTau_windows]

theorem allocPose_windows (s : Dev) (i : TickIn) : (s.allocPose i).windows = s.windows := by
  unfold Dev.allocPose
  simp (disch := (intros; simp only [↓setLane_windows, ↓windows_mk, length_modAt, length_setAt, List.length_map, windows_fold,
    ↓ite_windows, ite_self, ↓allocMismatch_windows, ↓latchThr_windows, ↓nextGroup_windows, ↓noLane_windows, ↓producerSend_windows,
    ↓roleRelease_windows])) only [↓windows_mk, windows_fold, ↓ite_windows, ite_self, ↓allocMismatch_windows, ↓roleRelease_windows,
    each_windows]

theorem allocApply_windows (s : Dev) (i : TickIn) : (s.allocApply i).windows = s.windows := by
  unfold Dev.allocApply
  dsimp only
  repeat' split
  all_goals simp only [↓setFld_windows, ↓ev_windows, ↓windows_mk, windows_fold, ↓allocMismatch_windows, ↓allocRequest_windows,
    ↓allocWithdraw_windows, ↓applyAlloc_windows, ↓setAllocState_windows, ↓showShort_windows, ↓writeTargets_windows]

/-! Safety logic. -/

theorem setIn_windows (s : Dev) (i : Nat) (f : SafeInp → SafeInp) : (s.setIn i f).windows = s.windows := by
  unfold Dev.setIn
  simp only [↓windows_mk, length_modAt, windows_fold]

theorem setOut_windows (s : Dev) (k : Nat) (f : SafeOut → SafeOut) : (s.setOut k f).windows = s.windows := by
  unfold Dev.setOut
  simp only [↓windows_mk, length_modAt, windows_fold]

theorem setChan_windows (s : Dev) (i : Nat) (b : Bool) (f : SafeChan → SafeChan) : (s.setChan i b f).windows = s.windows := by
  unfold Dev.setChan
  simp only [↓windows_mk, length_modAt, windows_fold]

theorem copyLatches_windows (s : Dev) : s.copyLatches.windows = s.windows := by
  unfold Dev.copyLatches
  simp only [↓windows_mk, windows_fold, ↓ite_windows, ite_self]

theorem settle_windows (s : Dev) : s.settle.windows = s.windows := by
  unfold Dev.settle
  simp only [↓wrN_windows, ↓setBit_windows, ↓copyLatches_windows]

theorem cause_windows (s : Dev) (c i b : Nat) : (s.cause c i b).windows = s.windows := (rfl)

theorem latchCause_windows (s : Dev) (c i b : Nat) : (s.latchCause c i b).windows = s.windows := (rfl)

theorem enterDeadfall_windows (s : Dev) : s.enterDeadfall.windows = s.windows := by
  unfold Dev.enterDeadfall
  split <;> simp only [↓windows_mk, windows_fold, ↓ite_windows, ite_self, ↓causeEvents_windows, ↓latchCause_windows]

theorem ustCause_windows (s : Dev) (c i : Nat) : (s.ustCause c i).windows = s.windows := by
  unfold Dev.ustCause
  simp only [↓windows_mk, windows_fold, ↓ite_windows, ite_self, ↓causeEvents_windows, ↓latchCause_windows]

theorem testChan_windows (s : Dev) (n i : Nat) (b lvl : Bool) : (s.testChan n i b lvl).windows = s.windows := by
  unfold Dev.testChan
  dsimp only
  split <;> simp only [↓ite_windows, ite_self, ↓cause_windows, ↓setChan_windows]

theorem frameEnd_windows (s : Dev) : s.frameEnd.windows = s.windows := by
  unfold Dev.frameEnd
  simp only [↓windows_mk, List.length_map, windows_fold]

theorem detect_windows (s : Dev) (i : Nat) (b lvl : Bool) : (s.detect i b lvl).windows = s.windows := by
  unfold Dev.detect
  simp only [↓setChan_windows]

theorem giveStart_windows (s : Dev) (i : Nat) : (s.giveStart i).windows = s.windows := by
  unfold Dev.giveStart
  simp (disch := (intros; simp only [↓ite_windows, ite_self, ↓setOut_windows])) only [each_windows]

theorem inputTime_windows (s : Dev) (i : Nat) : (s.inputTime i).windows = s.windows := by
  unfold Dev.inputTime
  simp only [↓setIn_windows]

theorem released_windows (s : Dev) (i h : Nat) : (s.released i h).windows = s.windows := by
  unfold Dev.released
  simp only [↓ite_windows, ite_self, ↓giveStart_windows, ↓setIn_windows]

theorem startStep_windows (s : Dev) (i : Nat) (a b changed inTime : Bool) : (s.startStep i a b changed inTime).windows = s.windows := by
  unfold Dev.startStep
  dsimp only
  repeat' split
  all_goals simp only [↓released_windows, ↓setIn_windows]

theorem inputStep_windows (s : Dev) (i : Nat) (chA chB : Bool) : (s.inputStep i chA chB).windows = s.windows := by
  unfold Dev.inputStep
  simp only [↓cntSat_windows, ↓ev_windows, ↓ite_windows, ite_self, ↓setIn_windows, ↓startStep_windows]

theorem sampleInput_windows (s : Dev) (i : Nat) (a b : Bool) : (s.sampleInput i a b).windows = s.windows := by
  unfold Dev.sampleInput
  simp only [↓ite_windows, ite_self, ↓detect_windows, ↓inputStep_windows]

theorem sampleInputs_windows (s : Dev) (n : Nat) (a b : BitVec 16) : (s.sampleInputs n a b).windows = s.windows := by
  unfold Dev.sampleInputs
  simp (disch := (intros; simp only [↓ite_windows, ite_self, ↓inputTime_windows, ↓sampleInput_windows,
    ↓testChan_windows])) only [↓ite_windows, ite_self, each_windows]

theorem canopySample_windows (s : Dev) (a b cmpBad : BitVec 16) : (s.canopySample a b cmpBad).windows = s.windows := by
  unfold Dev.canopySample
  simp (disch := (intros; simp only [↓cause_windows])) only [↓windows_mk, windows_fold, ↓ite_windows, ite_self, ↓frameEnd_windows,
    ↓sampleInputs_windows, ↓showInputs_windows, each_windows]

theorem discTimeout_windows (s : Dev) (i : Nat) : (s.discTimeout i).windows = s.windows := by
  unfold Dev.discTimeout
  repeat' split
  all_goals simp only [↓cause_windows, ↓setIn_windows]

theorem discardDark_windows (s : Dev) (k : Nat) : (s.discardDark k).windows = s.windows := by
  unfold Dev.discardDark
  split <;> simp only [↓cntSat_windows, ↓ev_windows, ↓windows_mk, windows_fold, ↓ite_windows, ite_self]

theorem scanDecide_windows (s : Dev) (k : Nat) : (s.scanDecide k).windows = s.windows := by
  unfold Dev.scanDecide
  split <;> simp only [↓raise_windows, ↓ev_windows, ↓ite_windows, ite_self, ↓discardDark_windows, ↓setOut_windows]

theorem darkStart_windows (s : Dev) : s.darkStart.windows = s.windows := by
  unfold Dev.darkStart
  dsimp only
  repeat' split
  all_goals simp only [↓windows_mk, windows_fold, ↓setOut_windows]

theorem scanTimes_windows (s : Dev) : s.scanTimes.windows = s.windows := by
  unfold Dev.scanTimes
  simp only [↓windows_mk, List.length_map, windows_fold]

theorem scanEnd_windows (s : Dev) (i : ScanIn) : (s.scanEnd i).windows = s.windows := by
  unfold Dev.scanEnd
  simp (disch := (intros; simp only [↓scanDecide_windows])) only [↓wrN_windows, ↓cntSat_windows, ↓windows_mk, windows_fold, ↓ite_windows,
    ite_self, ↓cause_windows, ↓copyLatches_windows, ↓darkStart_windows, ↓enterDeadfall_windows, ↓scanTimes_windows,
    ↓showResetLow_windows, each_windows]

theorem rbMismatch_windows (s : Dev) (k : Nat) (high : Bool) : (s.rbMismatch k high).windows = s.windows := by
  unfold Dev.rbMismatch
  simp only [↓ite_windows, ite_self, ↓cause_windows]

theorem permitMismatch_windows (s : Dev) (k : Nat) : (s.permitMismatch k).windows = s.windows := by
  unfold Dev.permitMismatch
  simp only [↓ite_windows, ite_self, ↓cause_windows]

theorem darkDue_windows (s : Dev) (k : Nat) : (s.darkDue k).windows = s.windows := by
  unfold Dev.darkDue
  simp only [↓ite_windows, ite_self, ↓setOut_windows]

theorem darkCheck_windows (s : Dev) (rbHigh : Bool) : (s.darkCheck rbHigh).windows = s.windows := by
  unfold Dev.darkCheck
  split <;> simp only [↓cntWrap_windows, ↓ev_windows, ↓windows_mk, windows_fold, ↓ite_windows, ite_self, ↓cause_windows, ↓setOut_windows]

theorem romCheck_windows (s : Dev) (ok : Bool) : (s.romCheck ok).windows = s.windows := by
  unfold Dev.romCheck
  simp only [↓ite_windows, ite_self, ↓cause_windows]

theorem ustFreq_windows (s : Dev) (changes : Nat) : (s.ustFreq changes).windows = s.windows := by
  unfold Dev.ustFreq
  simp only [↓setFld_windows, ↓ite_windows, ite_self, ↓cause_windows]

theorem hbLost_windows (s : Dev) : s.hbLost.windows = s.windows := by
  unfold Dev.hbLost
  simp only [↓windows_mk, windows_fold, ↓ite_windows, ite_self, ↓ustCause_windows]

theorem ustFilter_windows (s : Dev) (i : Nat) (b closed : Bool) : (s.ustFilter i b closed).windows = s.windows := by
  unfold Dev.ustFilter
  simp only [↓ite_windows, ite_self, ↓setChan_windows]

theorem ustRb_windows (s : Dev) (k : Nat) : (s.ustRb k).windows = s.windows := by
  unfold Dev.ustRb
  simp only [↓ite_windows, ite_self, ↓ustCause_windows]

theorem selfClose_windows (s : Dev) : s.selfClose.windows = s.windows := (rfl)

theorem safeReset_windows (s : Dev) (ms rc : Nat) (rb : BitVec 12) (checksOk : Bool) :
    (s.safeReset ms rc rb checksOk).windows = s.windows := by
  unfold Dev.safeReset
  simp only [↓wrN_windows, ↓setFld_windows, ↓setBit_windows, ↓raise_windows, ↓ev_windows, ↓windows_mk, windows_fold, ↓ite_windows,
    ite_self]

theorem startInput_windows (s : Dev) (i : Nat) : (s.startInput i).windows = s.windows := by
  unfold Dev.startInput
  simp only [↓setIn_windows]

theorem canopyStartup_windows (s : Dev) (romOk memOk : Bool) (finding : Option (Bool × Nat × Bool)) :
    (s.canopyStartup romOk memOk finding).windows = s.windows := by
  unfold Dev.canopyStartup
  repeat' split
  all_goals simp (disch := (intros; simp only [↓startInput_windows])) only [↓setBit_windows, ↓ev_windows, ↓windows_mk, windows_fold,
    ↓ite_windows, ite_self, ↓cause_windows, ↓showInputs_windows, each_windows]

theorem suspEnd_windows (s : Dev) : s.suspEnd.windows = s.windows := by
  unfold Dev.suspEnd
  simp only [↓windows_mk, windows_fold, ↓ite_windows, ite_self, ↓ustCause_windows]

theorem ustPower_windows (s : Dev) : s.ustPower.windows = s.windows := by
  unfold Dev.ustPower
  simp only [↓windows_mk, List.length_map, windows_fold]

theorem ustLow_windows (s : Dev) : s.ustLow.windows = s.windows := (rfl)

theorem ustReturn_windows (s : Dev) : s.ustReturn.windows = s.windows := by
  unfold Dev.ustReturn
  simp only [↓windows_mk, windows_fold, ↓ite_windows, ite_self]

theorem safeAnnounce_windows (s : Dev) : s.safeAnnounce.windows = s.windows := by
  unfold Dev.safeAnnounce
  simp (disch := (intros; simp only [↓raise_windows, ↓ev_windows, ↓ite_windows, ite_self, ↓setOut_windows])) only [↓windows_mk,
    windows_fold, each_windows]

theorem safeRelease_windows (s : Dev) : s.safeRelease.windows = s.windows := (rfl)

/-! Glade. -/

theorem bootSafety_windows (s : Dev) (j : Option ImgJob) : (s.bootSafety j).1.windows = s.windows := by
  unfold Dev.bootSafety
  repeat' split
  all_goals simp (disch := (intros; simp only [↓wr_windows])) only [↓ev_windows, ↓windows_mk, windows_fold, ↓imageReject_windows,
    each_windows]

theorem bootImages_windows (s : Dev) (hw com art : Option ImgJob) : (s.bootImages hw com art).windows = s.windows := by
  unfold Dev.bootImages
  simp (disch := (intros; simp only [↓imageBurn_windows])) only [↓windows_mk, windows_fold, ↓panelBoot_windows]
  split <;> simp (disch := (intros; simp only [↓imageBurn_windows])) only [↓setBit_windows, ↓ev_windows, ↓windows_mk, windows_fold,
    ↓bootArtwork_windows, ↓bootHeartwood_windows, ↓bootSafety_windows, ↓imgStat_windows, each_windows]

theorem bootHost_windows (s : Dev) : s.bootHost.windows = s.windows := by
  unfold Dev.bootHost
  simp only [↓bootImages_windows]

theorem gladeBoot_windows (s : Dev) (b : BootIn) : (s.gladeBoot b).windows = s.windows := by
  unfold Dev.gladeBoot
  simp only [↓setFld_windows, ↓setBit_windows, ↓windows_mk, windows_fold, ↓ite_windows, ite_self, ↓bootImages_windows,
    ↓ringlogProbe_windows, ↓showFuses_windows, ↓storeImage_windows]

theorem hostWaitEnd_windows (s : Dev) : s.hostWaitEnd.windows = s.windows := by
  unfold Dev.hostWaitEnd
  simp only [↓ite_windows, ite_self, ↓bootHost_windows]

theorem takeImage_windows (s : Dev) (b : List Byte) (desc : Nat × Nat × Nat) : (s.takeImage b desc).windows = s.windows := by
  unfold Dev.takeImage
  simp only [↓windows_mk, windows_fold, ↓ite_windows, ite_self, ↓bootHost_windows, ↓imageReject_windows, ↓imageToStore_windows,
    ↓imgStat_windows, ↓sessUse_windows]

/-! The host interface. -/

theorem imageDesc_windows (s : Dev) (p idx : Nat) (b image : List Byte) : (s.imageDesc p idx b image).windows = s.windows :=
  withDesc_windows _ _ _ _ fun d => byGlade_windows d _ (takeImage_windows ..)

/-! Resets. -/

theorem resetAnnounce_windows (s : Dev) : s.resetAnnounce.windows = s.windows := by
  unfold Dev.resetAnnounce
  split <;> simp only [↓ite_windows, ite_self, ↓groveAbort_windows, ↓mergeAll_windows, ↓safeAnnounce_windows]

theorem resetRelease_windows (s : Dev) (st : StrapIn) (fu : FuseIn) : (s.resetRelease st fu).windows = s.windows := by
  unfold Dev.resetRelease
  split <;> simp only [↓wrN_windows, ↓setBit_windows, ↓cntSat_windows, ↓orMask_windows, ↓windows_mk, windows_fold, ↓ite_windows,
    ite_self, ↓countPower_windows, ↓loadFuses_windows, ↓resetEvents_windows, ↓safeRelease_windows, ↓showDoms_windows, ↓standStart_windows]

/-! The tick. -/

theorem slotsBefore_windows (s : Dev) (i : TickIn) (n : Nat) : (s.slotsBefore i n).windows = s.windows := by
  unfold Dev.slotsBefore
  split <;> simp only [↓allocApply_windows, ↓allocPose_windows, ↓allocReport_windows, ↓bundleEnd_windows, ↓bundleStart_windows,
    ↓estForm_windows, ↓estUpdate_windows]

theorem tickLoops_windows (s : Dev) (i : TickIn) (n : Nat) : (s.tickLoops i n).windows = s.windows := by
  unfold Dev.tickLoops
  simp only [↓ite_windows, ite_self, ↓allocDemand_windows, ↓loadCtxs_windows, ↓loopP2_windows, ↓profP1_windows, ↓showLoad_windows,
    ↓showRun_windows, ↓standTick78_windows]

theorem wholeTick_windows (s : Dev) (i : TickIn) (n : Nat) : (s.wholeTick i n).windows = s.windows := by
  unfold Dev.wholeTick
  simp only [↓ite_windows, ite_self, ↓hostP4_windows, ↓midLatch_windows, ↓passTime_windows, ↓showTick_windows, ↓slotsBefore_windows,
    ↓tickLoops_windows, ↓tickP0_windows, ↓tickP3_windows]

theorem tickCommand_windows (s : Dev) (i : TickIn) : (s.tickCommand i).windows = s.windows := by
  unfold Dev.tickCommand
  dsimp only
  split <;> simp only [↓wr_windows, ↓cntSat_windows, ↓windows_mk, windows_fold, ↓ite_windows, ite_self, ↓adjustedTick_windows,
    ↓lateLanes_windows, ↓tickCritical_windows, ↓wholeTick_windows]

theorem scanCommand_windows (s : Dev) (i : ScanIn) : (s.scanCommand i).windows = s.windows := by
  unfold Dev.scanCommand
  simp only [↓ite_windows, ite_self, ↓criticalError_windows, ↓scanEnd_windows]

/-! Glade. -/

theorem enrolOwner_windows (s : Dev) (k : Nat) (burnOk : Bool) : (s.enrolOwner k burnOk).windows = s.windows := by
  unfold Dev.enrolOwner
  simp only [↓setFld_windows, ↓ev_windows, ↓windows_mk, windows_fold, ↓ite_windows, ite_self, ↓sessUse_windows, ↓showFuses_windows]

theorem revokeOwner_windows (s : Dev) (k : Nat) (burnOk : Bool) : (s.revokeOwner k burnOk).windows = s.windows := by
  unfold Dev.revokeOwner
  simp only [↓setFld_windows, ↓ev_windows, ↓windows_mk, windows_fold, ↓ite_windows, ite_self, ↓sessUse_windows, ↓showFuses_windows]

theorem burnFuses_windows (s : Dev) : s.burnFuses.windows = s.windows := by
  unfold Dev.burnFuses
  split <;> simp only [↓ev_windows, ↓windows_mk, windows_fold, ↓imageDone_windows, ↓showFuses_windows]

theorem enrolCommand_windows (s : Dev) (v : Word) : (s.enrolCommand v).windows = s.windows := by
  unfold Dev.enrolCommand
  simp only [↓ite_windows, ite_self, ↓enrolOwner_windows, ↓revokeOwner_windows]

/-! Register writes. -/

theorem glbWrite_windows (s : Dev) (a : Nat) (v : Word) : (s.glbWrite a v).windows = s.windows := by
  unfold Dev.glbWrite
  repeat' split
  all_goals simp only [↓store_windows, ↓windows_mk, windows_fold, ↓attRequest_windows, ↓byGlade_windows, ↓enrolCommand_windows,
    ↓loadClear_windows, ↓modeCommand_windows, ↓sessCommand_windows]

theorem regWrite_windows (s : Dev) (a : Nat) (v : Word) : (s.regWrite a v).windows = s.windows := by
  unfold Dev.regWrite
  split <;> simp only [↓store_windows, ↓ite_windows, ite_self, ↓acqRegWrite_windows, ↓allocWrite_windows, ↓canWrite_windows,
    ↓estWrite_windows, ↓glbWrite_windows, ↓gnssWrite_windows, ↓groveWrite_windows, ↓hostWrite_windows, ↓logWrite_windows,
    ↓loopWrite_windows, ↓netRegWrite_windows, ↓profWrite_windows, ↓swapCommand_windows, ↓thktWrite_windows]

theorem hostWriteOp_windows (s : Dev) (a : Nat) (v : Word) : (s.hostWriteOp a v).windows = s.windows := by
  unfold Dev.hostWriteOp
  split
  · exact (windows_fold _ :).trans (regWrite_windows s a v)
  · rfl

end Sys2Proof.Machine
end

section
/-! O5: every command keeps the number of windows, and a reset gives every engine the windows of the manual. -/

namespace Sys2Proof.Machine

/-! What a reset leaves (R463). -/

/-- The windows that the manual gives the engines. -/
def allWindows : List Nat := [128, 131, 7, 3, 2, 2, 32, 192, 40, 8, 4, 8, 256, 16, 32, 16, 12]

theorem shaped_iff_windows (d : Dev) : Shaped d ↔ d.windows = allWindows := by
  constructor
  · rintro ⟨h1, h2, h3, h4, h5, h6, h7, h8, h9, h10, h11, h12, h13, h14, h15, h16, h17⟩
    unfold Dev.windows allWindows
    rw [h1, h2, h3, h4, h5, h6, h7, h8, h9, h10, h11, h12, h13, h14, h15, h16, h17]
  · intro h
    simp only [Dev.windows, allWindows, List.cons.injEq, and_true] at h
    obtain ⟨h1, h2, h3, h4, h5, h6, h7, h8, h9, h10, h11, h12, h13, h14, h15, h16, h17⟩ := h
    exact ⟨h1, h2, h3, h4, h5, h6, h7, h8, h9, h10, h11, h12, h13, h14, h15, h16, h17⟩

theorem shaped_of_windows {d e : Dev} (h : Shaped d) (he : e.windows = d.windows) : Shaped e :=
  (shaped_iff_windows e).mpr (he.trans ((shaped_iff_windows d).mp h))

/-- Of the windows, the channels of the safety logic alone lie outside a reset: Understory's half of them runs on (R356). -/
theorem bare_shaped {s : Dev} (h : s.safe.chan.length = 32) : Shaped s.bare := by
  constructor
  case chan => exact (List.length_map _).trans h
  all_goals exact List.length_replicate

theorem wipe_windows (s : Dev) (kind : Nat) : (s.wipe kind).windows = s.bare.windows := by
  unfold Dev.wipe
  dsimp only
  split_ifs
  · rfl
  · exact keepCold_windows ..
  · exact (keepWarm_windows ..).trans (keepCold_windows ..)

theorem wipe_shaped {s : Dev} (h : s.safe.chan.length = 32) (kind : Nat) : Shaped (s.wipe kind) :=
  shaped_of_windows (bare_shaped h) (wipe_windows s kind)

theorem powerOn_shaped {s : Dev} (h : Shaped s) (ustDown : Bool) : Shaped (s.powerOn ustDown) := by
  have hwipe := wipe_shaped h.chan 0
  unfold Dev.powerOn
  generalize s.wipe 0 = n at hwipe
  have hlatched := shaped_of_windows hwipe (keepDeadfall_windows n s)
  cases ustDown
  · exact shaped_of_windows hlatched (windows_fold _)
  · exact { hwipe with chan := List.length_replicate }

theorem resetTakeEffect_shaped {s : Dev} (h : Shaped s) : Shaped s.resetTakeEffect := by
  unfold Dev.resetTakeEffect
  split
  · exact h
  · split_ifs
    · exact h
    · exact shaped_of_windows (wipe_shaped h.chan _) (windows_fold _)

theorem clockHeld_shaped {s : Dev} (h : Shaped s) : Shaped s.clockHeld := by
  have hwipe := wipe_shaped (shaped_of_windows h (safeAnnounce_windows s)).chan 1
  unfold Dev.clockHeld
  dsimp only
  generalize s.safeAnnounce.wipe 1 = n at hwipe
  split_ifs
  · exact shaped_of_windows h (clrMask_windows ..)
  · exact shaped_of_windows hwipe (windows_fold _)

theorem clockLoss_shaped {s : Dev} (h : Shaped s) : Shaped s.clockLoss := by
  unfold Dev.clockLoss
  split_ifs
  · exact h
  · have hcounted := shaped_of_windows h (cntSat_windows s RST_CLK_STAT 23 16 1)
    exact shaped_of_windows (clockHeld_shaped hcounted) (setBit_windows ..)

theorem pllLoss_shaped {s : Dev} (h : Shaped s) (g : Bool) : Shaped (s.pllLoss g) := by
  unfold Dev.pllLoss
  split_ifs
  · exact clockHeld_shaped (shaped_of_windows h (cntSat_windows s RST_CLK_STAT (7 + 8 * bnat g) (8 * bnat g) 1))
  · exact h

/-! The commands. -/

/-- Commands with which a reset takes effect (R461, R462). -/
def resetsWindows : Instr → Bool
  | .powerOn .. | .clockLoss | .pllLossOfLock .. | .resetTakeEffect => true
  | _ => false

/-- Every other command keeps the number of windows. -/
theorem exec_keeps_windows (c : Instr) (s : State) (h : resetsWindows c = false) :
    ∃ d : Dev, exec c s = done s d ∧ d.windows = s.toDev.windows := by
  cases c with
  | tick => exact ⟨_, rfl, tickCommand_windows ..⟩
  | cycleBoundary => exact ⟨_, rfl, cycleBoundary_windows ..⟩
  | commit => exact ⟨_, rfl, commitNow_windows ..⟩
  | gatewaySilent => exact ⟨_, rfl, gatewayGone_windows ..⟩
  | canAutostart => exact ⟨_, rfl, autostart_windows ..⟩
  | slotOverrun => exact ⟨_, rfl, overrun_windows ..⟩
  | tickWatchdogExpiry => exact ⟨_, rfl, tickWatchdog_windows ..⟩
  | modeCmdOperate => exact ⟨_, rfl, modeCommand_windows ..⟩
  | modeCmdWatch => exact ⟨_, rfl, modeCommand_windows ..⟩
  | tickCfgWrite => exact ⟨_, rfl, store_windows ..⟩
  | tickLoadClear => exact ⟨_, rfl, loadClear_windows ..⟩
  | unsupportedRequest => exact ⟨_, rfl, badAccess_windows ..⟩
  | stoppedDomainAccess => exact ⟨_, rfl, stoppedAccess_windows ..⟩
  | loopResume => exact ⟨_, rfl, resumeCommand_windows ..⟩
  | loopClear => exact ⟨_, rfl, loopCommand_windows ..⟩
  | hostTargetWrite => exact ⟨_, rfl, hostTarget_windows ..⟩
  | originWrite => exact ⟨_, rfl, originWrite_windows ..⟩
  | thrusterSelect => exact ⟨_, rfl, selectThrusters_windows ..⟩
  | groveLoad => exact ⟨_, rfl, (groveLoadOp_windows ..).trans (laneCorr_windows ..)⟩
  | groveEntry => exact ⟨_, rfl, (groveEntryOp_windows ..).trans (laneCorr_windows ..)⟩
  | groveRelease => exact ⟨_, rfl, (groveStart_windows ..).trans (laneCorr_windows ..)⟩
  | grovePublish => exact ⟨_, rfl, publish_windows ..⟩
  | groveDeadline => exact ⟨_, rfl, deadline_windows ..⟩
  | groveSolveFailure => exact ⟨_, rfl, solveFails_windows ..⟩
  | laneClear => exact ⟨_, rfl, clearLane_windows ..⟩
  | feFault => exact ⟨_, rfl, feFault_windows ..⟩
  | feFaultClear => exact ⟨_, rfl, feClear_windows ..⟩
  | channelDrop => exact ⟨_, rfl, dropped_windows ..⟩
  | acquisitionComplete => exact ⟨_, rfl, acquired_windows ..⟩
  | spacingSettled => exact ⟨_, rfl, settled_windows ..⟩
  | holdoverEntry => exact ⟨_, rfl, holdover_windows ..⟩
  | localTimeSet => exact ⟨_, rfl, timeSet_windows ..⟩
  | localTimeStep => exact ⟨_, rfl, timeStep_windows ..⟩
  | slewComplete => exact ⟨_, rfl, slewDone_windows ..⟩
  | holdWarnExceeded => exact ⟨_, rfl, holdWarn_windows ..⟩
  | ppsPulse => exact ⟨_, rfl, ppsEdge_windows ..⟩
  | timeMessage => exact ⟨_, rfl, timeMessage_windows ..⟩
  | sentenceInterval => exact ⟨_, rfl, sentenceInterval_windows ..⟩
  | leapSecond => exact ⟨_, rfl, leap_windows ..⟩
  | sentenceReceived => exact ⟨_, rfl, sentence_windows ..⟩
  | refSampleReceived => exact ⟨_, rfl, refArrival_windows ..⟩
  | sarConversion => exact ⟨_, rfl, sarConversion_windows ..⟩
  | calUpdate => exact ⟨_, rfl, calUpdate_windows ..⟩
  | sarEnable => exact ⟨_, rfl, acqEnable_windows ..⟩
  | sdEnable => exact ⟨_, rfl, acqEnable_windows ..⟩
  | bitstreamStuck => exact ⟨_, rfl, bitstreamStuck_windows ..⟩
  | stuckEnd => exact ⟨_, rfl, stuckEnd_windows ..⟩
  | chainRecord => exact ⟨_, rfl, chainRecord_windows ..⟩
  | chainConfigWrite => exact ⟨_, rfl, chainWrite_windows ..⟩
  | coefApply => exact ⟨_, rfl, coefApply_windows ..⟩
  | coefApplyDone => exact ⟨_, rfl, coefDone_windows ..⟩
  | quadTransition => exact ⟨_, rfl, quadTransition_windows ..⟩
  | quadZero => exact ⟨_, rfl, quadZero_windows ..⟩
  | canLeaveInit => exact ⟨_, rfl, canCtrl_windows ..⟩
  | canEnterInit => exact ⟨_, rfl, canCtrl_windows ..⟩
  | canRecover => exact ⟨_, rfl, canRecover_windows ..⟩
  | canTb2Request => exact ⟨_, rfl, tb2Request_windows ..⟩
  | canTb2Cancel => exact ⟨_, rfl, tb2Cancel_windows ..⟩
  | canArbitrationWon => exact ⟨_, rfl, arbWon_windows ..⟩
  | canFrameSent => exact ⟨_, rfl, frameSent_windows ..⟩
  | canFrameReceived => exact ⟨_, rfl, frameReceived_windows ..⟩
  | canError => exact ⟨_, rfl, canError_windows ..⟩
  | canRecoveryDone => exact ⟨_, rfl, recoveryDone_windows ..⟩
  | canHpRelease => exact ⟨_, rfl, hpRelease_windows ..⟩
  | canRxfPop => exact ⟨_, rfl, fifoPop_windows ..⟩
  | rateFallbackTimer => exact ⟨_, rfl, rateFallback_windows ..⟩
  | linkUp => exact ⟨_, rfl, portUp_windows ..⟩
  | linkDown => exact ⟨_, rfl, portDown_windows ..⟩
  | netCfgWrite => exact ⟨_, rfl, netWrite_windows ..⟩
  | ringFrameReceived => exact ⟨_, rfl, ringFrame_windows ..⟩
  | prpFrameReceived => exact ⟨_, rfl, prpFrame_windows ..⟩
  | duplicateEntryExpiry => exact ⟨_, rfl, dupExpire_windows ..⟩
  | egressTransmit => exact ⟨_, rfl, egress_windows ..⟩
  | supervisionSend => exact ⟨_, rfl, supervision_windows ..⟩
  | ringOpenTimeout => exact ⟨_, rfl, ringOpen_windows ..⟩
  | ptpSyncReceived => exact ⟨_, rfl, sync_windows ..⟩
  | ptpAnnounceReceived => exact ⟨_, rfl, announce_windows ..⟩
  | ptpSyncTimeout => exact ⟨_, rfl, syncTimeout_windows ..⟩
  | pdelayReqSend => exact ⟨_, rfl, pdelayReq_windows ..⟩
  | pdelayMessageReceived => exact ⟨_, rfl, pdelay_windows ..⟩
  | ptpSyncSend => exact ⟨_, rfl, syncSend_windows ..⟩
  | ptpAnnounceSend => exact ⟨_, rfl, announceSend_windows ..⟩
  | s450DatagramReceived => exact ⟨_, rfl, s450_windows ..⟩
  | tnowRead => exact ⟨_, rfl, tnow_windows ..⟩
  | evtInCapture => exact ⟨_, rfl, evtIn_windows ..⟩
  | evtPop => exact ⟨_, rfl, evtPop_windows ..⟩
  | alarmArm => exact ⟨_, rfl, alarmArm_windows ..⟩
  | alarmFire => exact ⟨_, rfl, alarmFire_windows ..⟩
  | heartbeatReceived => exact ⟨_, rfl, heartbeat_windows ..⟩
  | peerAbsent => exact ⟨_, rfl, peerAbsent_windows ..⟩
  | standingFrameReceived => exact ⟨_, rfl, standingFrame_windows ..⟩
  | wardenLost => exact ⟨_, rfl, wardenGone_windows ..⟩
  | stateSetPartReceived => exact ⟨_, rfl, setPart_windows ..⟩
  | trackLost => exact ⟨_, rfl, trackGone_windows ..⟩
  | swapDue => exact ⟨_, rfl, swapFalls_windows ..⟩
  | standingSwapCommand => exact ⟨_, rfl, swapCommand_windows ..⟩
  | thicketReport => exact ⟨_, rfl, thktFrame_windows ..⟩
  | recordSigned => exact ⟨_, rfl, signHead_windows ..⟩
  | custodyHandoff => exact ⟨_, rfl, handoff_windows ..⟩
  | pointReleaseCommand => exact ⟨_, rfl, releaseCommand_windows ..⟩
  | pointLatch => exact ⟨_, rfl, latchPoint_windows ..⟩
  | pointFind => exact ⟨_, rfl, findStart_windows ..⟩
  | pointFindDone => exact ⟨_, rfl, findDone_windows ..⟩
  | eventRecord => exact ⟨_, rfl, eventRecord_windows ..⟩
  | bucketRefill => exact ⟨_, rfl, refillBuckets_windows ..⟩
  | ringlogWrite => exact ⟨_, rfl, byGlade_windows _ _ (ringlogWrite_windows ..)⟩
  | norErase => exact ⟨_, rfl, byGlade_windows _ _ (norErase_windows ..)⟩
  | stateSave => exact ⟨_, rfl, byGlade_windows _ _ (stateSave_windows ..)⟩
  | freezeBegin => exact ⟨_, rfl, freezeBegin_windows ..⟩
  | freezeEnd => exact ⟨_, rfl, freezeEnd_windows ..⟩
  | freezeExpiry => exact ⟨_, rfl, freezeExpire_windows ..⟩
  | recorderClear => exact ⟨_, rfl, byGlade_windows _ _ (clearCommand_windows ..)⟩
  | clearComplete => exact ⟨_, rfl, byGlade_windows _ _ (clearComplete_windows ..)⟩
  | panelUpdateStart => exact ⟨_, rfl, byGlade_windows _ _ (panelStart_windows ..)⟩
  | pwrgdArrival => exact ⟨_, rfl, byGlade_windows _ _ (powerGood_windows ..)⟩
  | pgTimeout => exact ⟨_, rfl, byGlade_windows _ _ (panelAbandon_windows ..)⟩
  | panelUpdateEnd => exact ⟨_, rfl, byGlade_windows _ _ (panelEnd_windows ..)⟩
  | panelUpdateRetry => exact ⟨_, rfl, byGlade_windows _ _ (panelRetry_windows ..)⟩
  | panelTempRead => exact ⟨_, rfl, byGlade_windows _ _ (panelTemp_windows ..)⟩
  | barkMeasure => exact ⟨_, rfl, byGlade_windows _ _ (barkMeasure_windows ..)⟩
  | ringcountSave => exact ⟨_, rfl, byGlade_windows _ _ (ringcountSave_windows ..)⟩
  | gladeWatchdogExpiry => exact ⟨_, rfl, gladeWatchdog_windows ..⟩
  | dieTempSample => exact ⟨_, rfl, byGlade_windows _ _ (dieTemps_windows ..)⟩
  | supplySample => exact ⟨_, rfl, byGlade_windows _ _ (supplies_windows ..)⟩
  | supplyWindowFault => exact ⟨_, rfl, byGlade_windows _ _ (supplyFault_windows ..)⟩
  | imageSave => exact ⟨_, rfl, byGlade_windows _ _ (imageSaved_windows ..)⟩
  | sessionOpen => exact ⟨_, rfl, byGlade_windows _ _ (sessOpen_windows ..)⟩
  | sessionVerify => exact ⟨_, rfl, byGlade_windows _ _ (sessVerify_windows ..)⟩
  | sessionClose => exact ⟨_, rfl, byGlade_windows _ _ (sessClose_windows ..)⟩
  | sessionCmdConflict => exact ⟨_, rfl, byGlade_windows _ _ (sessCommand_windows ..)⟩
  | challengeExpiry => exact ⟨_, rfl, byGlade_windows _ _ (challengeEnd_windows ..)⟩
  | sessionIdleExpiry => exact ⟨_, rfl, byGlade_windows _ _ (sessIdle_windows ..)⟩
  | slotLockExpiry => exact ⟨_, rfl, byGlade_windows _ _ (slotUnlock_windows ..)⟩
  | attestationRequest => exact ⟨_, rfl, byGlade_windows _ _ (attRequest_windows ..)⟩
  | attestationReport => exact ⟨_, rfl, byGlade_windows _ _ (attReport_windows ..)⟩
  | cmdDoorbell => exact ⟨_, rfl, cmdBell_windows ..⟩
  | repDoorbell => exact ⟨_, rfl, repBell_windows ..⟩
  | descriptorFetchDone => exact ⟨_, rfl, fetchEnd_windows ..⟩
  | ringEnable => exact ⟨_, rfl, ringOn_windows ..⟩
  | ringDisable => exact ⟨_, rfl, ringOff_windows ..⟩
  | ringClrErr => exact ⟨_, rfl, ringResume_windows ..⟩
  | nopDescriptor => exact ⟨_, rfl, nopDesc_windows ..⟩
  | setpointDescriptor => exact ⟨_, rfl, setpointDesc_windows ..⟩
  | groveCommandDescriptor => exact ⟨_, rfl, groveDesc_windows ..⟩
  | canTransmitDescriptor => exact ⟨_, rfl, canDesc_windows ..⟩
  | thicketReadout => exact ⟨_, rfl, thicketDesc_windows ..⟩
  | recorderReadout => exact ⟨_, rfl, recorderDesc_windows ..⟩
  | unknownDescriptor => exact ⟨_, rfl, badDesc_windows ..⟩
  | msixMessage => exact ⟨_, rfl, vectorFire_windows ..⟩
  | vectorAck => exact ⟨_, rfl, vectorArm_windows ..⟩
  | vectorUnmask => exact ⟨_, rfl, vectorOpen_windows ..⟩
  | pcieLinkDown => exact ⟨_, rfl, hostReset_windows ..⟩
  | pcieLinkUp => exact ⟨_, rfl, hostLinkUp_windows ..⟩
  | hotReset => exact ⟨_, rfl, hostReset_windows ..⟩
  | functionLevelReset => exact ⟨_, rfl, hostReset_windows ..⟩
  | d3hotEntry => exact ⟨_, rfl, hostReset_windows ..⟩
  | perstAssert => exact ⟨_, rfl, hostReset_windows ..⟩
  | brownOut => exact ⟨_, rfl, brownOut_windows ..⟩
  | brownOutRelease => exact ⟨_, rfl, brownOutEnd_windows ..⟩
  | rstNAssert => exact ⟨_, rfl, rstPin_windows ..⟩
  | clockReturn => exact ⟨_, rfl, clockReturn_windows ..⟩
  | pllLock => exact ⟨_, rfl, pllLock_windows ..⟩
  | pulseEdge => exact ⟨_, rfl, pulseEdge_windows ..⟩
  | ppsPulseEnd => exact ⟨_, rfl, ppsEnd_windows ..⟩
  | carrierLockLost => exact ⟨_, rfl, carrierLost_windows ..⟩
  | carrierLockGained => exact ⟨_, rfl, carrierGained_windows ..⟩
  | navigationDataDecoded => exact ⟨_, rfl, navData_windows ..⟩
  | canArbitrationLost => exact ⟨_, rfl, arbLost_windows ..⟩
  | canopySample => exact ⟨_, rfl, canopySample_windows ..⟩
  | discrepancyTimeout => exact ⟨_, rfl, discTimeout_windows ..⟩
  | canopyScanEnd => exact ⟨_, rfl, scanCommand_windows ..⟩
  | readbackMismatch => exact ⟨_, rfl, rbMismatch_windows ..⟩
  | permitMismatch => exact ⟨_, rfl, permitMismatch_windows ..⟩
  | darkTestDue => exact ⟨_, rfl, darkDue_windows ..⟩
  | darkTestCheck => exact ⟨_, rfl, darkCheck_windows ..⟩
  | romCrcCheck => exact ⟨_, rfl, romCheck_windows ..⟩
  | ustHeartbeatCheck => exact ⟨_, rfl, ustFreq_windows ..⟩
  | canopyHeartbeatLost => exact ⟨_, rfl, hbLost_windows ..⟩
  | ustInputFilter => exact ⟨_, rfl, ustFilter_windows ..⟩
  | ustReadbackFault => exact ⟨_, rfl, ustRb_windows ..⟩
  | ustDarkSelfClose => exact ⟨_, rfl, selfClose_windows ..⟩
  | safeResetPulse => exact ⟨_, rfl, safeReset_windows ..⟩
  | canopyStartup => exact ⟨_, rfl, canopyStartup_windows ..⟩
  | ustSuspensionEnd => exact ⟨_, rfl, suspEnd_windows ..⟩
  | vddUstPowerOn => exact ⟨_, rfl, ustPower_windows ..⟩
  | vddUstLow => exact ⟨_, rfl, ustLow_windows ..⟩
  | gladeBoot => exact ⟨_, rfl, byGlade_windows _ _ (gladeBoot_windows ..)⟩
  | imageDescriptor => exact ⟨_, rfl, imageDesc_windows ..⟩
  | resetAnnounce => exact ⟨_, rfl, resetAnnounce_windows ..⟩
  | resetRelease => exact ⟨_, rfl, resetRelease_windows ..⟩
  | hostWaitExpiry => exact ⟨_, rfl, byGlade_windows _ _ (hostWaitEnd_windows ..)⟩
  | vddUstReturn => exact ⟨_, rfl, ustReturn_windows ..⟩
  | ownerEnrol k ok => exact ⟨_, rfl, byGlade_windows _ _ (enrolOwner_windows ..)⟩
  | ownerRevoke k ok => exact ⟨_, rfl, byGlade_windows _ _ (revokeOwner_windows ..)⟩
  | rollbackBurn => exact ⟨_, rfl, byGlade_windows _ _ (burnFuses_windows ..)⟩
  | registerWrite a v => exact ⟨_, rfl, hostWriteOp_windows ..⟩
  | powerOn | clockLoss | pllLossOfLock | resetTakeEffect => nomatch h

theorem exec_shaped (c : Instr) (s : State) (h : Shaped s.toDev) : ∃ d : Dev, exec c s = done s d ∧ Shaped d := by
  cases hreset : resetsWindows c
  · obtain ⟨d, hd, hkept⟩ := exec_keeps_windows c s hreset
    exact ⟨d, hd, shaped_of_windows h hkept⟩
  cases c with
  | powerOn u => exact ⟨_, rfl, powerOn_shaped h u⟩
  | clockLoss => exact ⟨_, rfl, clockLoss_shaped h⟩
  | pllLossOfLock g => exact ⟨_, rfl, pllLoss_shaped h g⟩
  | resetTakeEffect => exact ⟨_, rfl, resetTakeEffect_shaped h⟩
  | _ => nomatch hreset

/-- Settles O5: a step idles or runs the front command, and settling keeps the number of windows too. -/
theorem stepKeepsShape : Obligations.StepKeepsShape := by
  unfold Obligations.StepKeepsShape
  intro s t hshape hstep
  cases hqueue : s.pending with
  | nil =>
    rw [frontOfQueue.2 s hqueue] at hstep
    cases hstep
    exact hshape
  | cons c cs =>
    rw [frontOfQueue.1 c cs s hqueue] at hstep
    obtain ⟨d, hd, hkept⟩ := exec_shaped c { s with pending := cs } hshape
    rw [hd, done_eq] at hstep
    cases hstep
    exact shaped_of_windows hkept (settle_windows d)

end Sys2Proof.Machine
end
